-- ==== Sys2Proof/Word.lean ====
section
/-!
DEFINITION. The word types of the module: every register is 32 bits wide (spec/00_scope.md R11), memory and messages are
bytes, and a Crossing carries 64 data bits (spec/01_architecture.md R27).
-/
namespace Sys2Proof

/-- A register word (R11). -/
abbrev Word := BitVec 32

/-- A byte of a message or of a memory. -/
abbrev Byte := BitVec 8

/-- The data bits of a Crossing word. -/
abbrev Word64 := BitVec 64

end Sys2Proof
end

