-- ==== Sys2Proof/Syntax/Types.lean ====
section
/-!
DEFINITION. The types of the operands of commands: names that the spec gives a fixed set of (islands, host paths, variants),
and what reaches the module from outside with a command.
-/
namespace Sys2Proof

/-- The two variants of spec/00_scope.md R1. -/
inductive Variant where
  | f | m
  deriving DecidableEq, Repr

/-- The nine islands of spec/01_architecture.md R23, in the order of their numbers. -/
inductive Island where
  | core | metrology | signalBox | vehicleLink | siteLink | amene | service | grotto | battery
  deriving DecidableEq, Repr

/-- The number of an island (CLK_STAT, SYS_FLT.HELD). -/
def Island.num : Island → Nat
  | .core => 0
  | .metrology => 1
  | .signalBox => 2
  | .vehicleLink => 3
  | .siteLink => 4
  | .amene => 5
  | .service => 6
  | .grotto => 7
  | .battery => 8

/-- The two host paths of spec/23_host_interface.md. -/
inductive Path where
  | spi | eth
  deriving DecidableEq, Repr

/-- Where the model keeps a path's copy of a register that exists once per path (R629): the host address for SPI, and the
host address above the 24-bit space for Ethernet. -/
def Path.bank : Path → Nat
  | .spi => 0
  | .eth => 0x1000000

/-- One match window of R84: the sum of the squared differences of its 256 samples, and the blocks it had to be extended by
until neither converter overloaded. -/
structure MatchWin where
  diffSq : Nat
  extended : Nat
  deriving DecidableEq, Repr

/-- One run of the reference sequence (R83 steps 5 to 9): the sums of the 512 samples of each of Z, P and N, and the die
temperature in 0.1 °C. -/
structure RefRun where
  z : Int
  p : Int
  n : Int
  temp : Int
  deriving DecidableEq, Repr

/-- What a rotation step measures (R83, R84): the match window and its repeat, the return match window and its repeat, the
reference runs of the converter under check and of its repeat, of the stand-in spare and of the other spare. -/
structure RotMeas where
  win : MatchWin
  winAgain : MatchWin
  ret : MatchWin
  retAgain : MatchWin
  under : RefRun
  underAgain : RefRun
  stand : RefRun
  other : RefRun
  deriving DecidableEq, Repr

/-- A season of a tariff table (R169). -/
structure Season where
  valid : Nat
  month : Nat
  day : Nat
  week : Nat
  deriving DecidableEq, Repr

/-- A day action of a tariff table (R169): rate 0 marks an unused action. -/
structure DayAction where
  start : Nat
  rate : Nat
  friendly : Nat
  deriving DecidableEq, Repr

/-- A special day of a tariff table (R169): year 0xFFFF and month 0xFF stand for every one. -/
structure SpecialDay where
  valid : Nat
  year : Nat
  month : Nat
  day : Nat
  profile : Nat
  deriving DecidableEq, Repr

/-- A tariff table (R169): 8 seasons, 8 weeks of 7 day profiles from Monday, 32 day profiles of 16 actions, 128 special days, and
the activation time. -/
structure Tariff where
  seasons : List Season
  weeks : List (List Nat)
  days : List (List DayAction)
  specials : List SpecialDay
  activation : Nat
  deriving DecidableEq, Repr

/-- What the engines measure for an update of R129: whether the 100-block values are due, the line frequency in mHz, whether the
zero crossings come in the order A, B, C (R116), the angles of the phases in 0.01°, and how far a hardware upset moves each
engine's values. -/
structure InstMeas where
  ac : Bool
  freq : Nat
  order : Bool
  angles : List Int
  dev0 : List Int
  dev1 : List Int
  deriving DecidableEq, Repr

/-- A decoded application message of the vehicle (R335, R336). handshake: the protocols offered (1 DIN SPEC 70121, 2 ISO 15118-2,
3 ISO 15118-20); serviceSelection and authorization: whether they are for PnC, with the contract's EMAID; chargeParams: whether DC, whether
bidirectional, the vehicle's highest voltage in 0.1 V and power in 0.1 kW; preCharge: the target voltage in 0.1 V; powerDelivery: start, or
stop; chargeLoop: the current asked for in 0.1 A or the power in 0.1 kW, positive for charging, and whether power is what it asks;
sessionStop: pause, or terminate. -/
inductive AppMsg where
  | handshake (offers : List Nat)
  | sessionSetup
  | serviceDiscovery
  | serviceDetail
  | serviceSelection (pnc : Bool)
  | certificate
  | paymentDetails
  | authorization (pnc : Bool) (emaid : List Byte)
  | chargeParams (dc bidir : Bool) (vmax pmax : Nat)
  | scheduleExchange
  | cableCheck
  | preCharge (target : Nat)
  | powerDelivery (start : Bool)
  | chargeLoop (byPower : Bool) (ask : Int)
  | meteringReceipt
  | weldingDetection
  | sessionStop (pause : Bool)
  deriving DecidableEq, Repr

/-- An operation of the crypto engine (R383): signing and verifying (with a signature), ECDH, hashing (SHA-384 or SHA-256), HMAC, HKDF,
AES-GCM, random bytes. -/
inductive CryptoOp where
  | sign
  | verify (sig : List Byte)
  | ecdh
  | hash (wide : Bool)
  | hmac
  | hkdf
  | encrypt
  | decrypt
  | random
  deriving DecidableEq, Repr

/-- A crypto request on X16 (R382, R383): the number its requester gave it, its Timetable class, the operation, its key slot and its data. -/
structure CryptoReq where
  id : Nat
  cls : Nat
  op : CryptoOp
  slot : Nat
  data : List Byte
  deriving DecidableEq, Repr

/-- A frame written to a transmit queue Q00 to Q03 (R396, R404, R405, R408): its bytes without the FCS, its launch time, the offset of an
inserted time stamp, and whether its stamp is asked for. -/
structure TxFrame where
  queue : Nat
  bytes : List Byte
  launch : Option Nat
  tsIns : Option Nat
  tsReq : Bool
  deriving DecidableEq, Repr

/-- A frame received on the Amene bus (R431 to R433, R436): its 48 header bits, its MPDU as decoded, the erased payload symbols, the SNR of
the 36 carriers in 0.25 dB, and its reference instant in µs. -/
structure AmbRx where
  hdr : Nat
  mpdu : List Byte
  erased : Nat
  snr : List Int
  ref : Nat
  deriving DecidableEq, Repr

/-- What one safety cycle of 500 µs reads (R247, R249, R287): SI0 to SI7 at its two samples (a set bit reads closed) with the inputs
masked at each, the SAFE_RST level, and the comparators fired now (bits in the order of EFT_TRIPCFG). -/
structure SafeIn where
  si1 : Nat
  mask1 : Nat
  si2 : Nat
  mask2 : Nat
  rst : Bool
  comp : Nat
  deriving DecidableEq, Repr

/-- An APDU of a DLMS client (R464, R466): its association, and, for a ciphered one, its invocation counter and whether its tag verifies. -/
structure DlmReq where
  assoc : Nat
  ic : Nat
  tag : Bool
  deriving DecidableEq, Repr

/-- Selective access to a profile's buffer (R461, R471): a range of capture times, as billing-clock seconds, or of entries. -/
inductive DlmSel where
  | range (fromT toT : Nat)
  | entries (first last : Nat)
  deriving DecidableEq, Repr

/-- An item of a GET: class, logical name, attribute, selective access. -/
structure DlmItem where
  cls : Nat
  obis : List Nat
  attr : Nat
  sel : Option DlmSel
  deriving DecidableEq, Repr

/-- A GET (R461): of one or several items, or for a further block of the response under way. -/
inductive DlmAsk where
  | read (items : List DlmItem)
  | next (block : Nat)
  deriving DecidableEq, Repr

/-- A value written to a passive calendar attribute, or to attribute 10 (R473): seasons (index, month, day, week), weeks (index, day profiles from
Monday), day profiles (index, actions of a start second and a selector), the activation time; or a value that does not have the form of
R473. -/
inductive CalPart where
  | seasons (l : List (Nat × Nat × Nat × Nat))
  | weeks (l : List (Nat × List Nat))
  | days (l : List (Nat × List (Nat × Nat)))
  | activation (t : Nat)
  | other
  deriving DecidableEq, Repr

/-- What a codeword holds (R594), as firmware's allocation of the memories places it (R591): a billing register or the journal, whether the codeword
of the other copy is uncorrectable too; the image record; a load profile's entry and a log's entry, counted back from the newest; a Waybill by
kind and SEQ; a PUF block's helper data; a key slot; a half of the image store; an overlay entry; a notes page and a snapshot area of the tag
memory; an island's working memory; a code bank's code; anything else. -/
inductive MemUse where
  | billing (both : Bool)
  | record
  | profile (p i : Nat)
  | log (l i : Nat)
  | waybill (kind seq : Nat)
  | helper (block : Nat)
  | keySlot (n : Nat)
  | imageHalf (h : Nat)
  | overlay (par : Nat)
  | tagPage (n : Nat)
  | tagSnap (a : Nat)
  | working (i : Island)
  | code
  | other
  deriving DecidableEq, Repr

/-- A codeword met with errors (R592): its memory as MEM_ECC numbers them, its unit of replacement, its index, the positions of the symbols in
error, the element or frame of a burst in which it is met, and what it holds. -/
structure MemHit where
  mem : Nat
  unit : Nat
  cword : Nat
  errs : List Nat
  elem : Nat
  use : MemUse
  deriving DecidableEq, Repr

/-- What a granted slot carries (R40, R42, R607): nothing the model follows, a burst of a Shunter channel, scrub reads that bring the pass to a
percentage (R595), another access, or the read-back of a data MRAM write that failed once, and whether it fails again (R593). -/
inductive SlotWork where
  | none
  | burst (ch : Nat) (hits : List MemHit)
  | scrub (pct : Nat) (hits : List MemHit)
  | access (hits : List MemHit)
  | verify (hit : MemHit) (again : Bool)
  deriving DecidableEq, Repr

/-- What a start finds (R366 to R369, R532, R546): the word of SYS_FLASH, the pattern of SEAL3 to SEAL0, whether the root is formed, whether a copy
of the helper data is rewritten, the corrected cell error rates of the PUF blocks in 0.1 %, whether the random generator is healthy, the
engines whose boot self-test has failed, the times of SYS_BOOTT, the clocks measured in 100 Hz, and whether the journal's last entry is
replayed (R178). -/
structure StartInfo where
  flash : Nat
  seals : Nat
  root : Bool
  helperFix : Bool
  rates : List Nat
  rng : Bool
  bad : Nat
  times : List Nat
  freqs : List Nat
  replay : Bool
  deriving DecidableEq, Repr

/-- What a host write may meet: the ms of the present billing-clock second that have passed (R218), VBAT under load in mV (R558), and, when it
resets the module, the records read after intake stops and the duration of the save in 10 µs, if it completes (R223). -/
structure WriteFacts where
  frac : Nat
  mv : Nat
  late : Nat
  save : Option Nat
  deriving DecidableEq, Repr

end Sys2Proof
end

