-- ==== Sys2Proof/Syntax.lean ====
section
/-!
DEFINITION. The commands the module takes: one constructor per row of spec/opcode_table.json, in the order of the table. The table
gives its rows no operands; each constructor carries what reaches the module with the command (a frame, a written value, a
measurement, an elapsed time), as the rule of its row needs it.
-/
namespace Sys2Proof

/-- A command (spec/opcode_table.json). -/
inductive Instr where
  /-- CROSSING_WORD_WRITE (R27): A source writes a 64-bit word into a Crossing, which delivers it in order within the latency bound of R28 or asserts back-pressure when its FIFO is full. -/
  | crossingWordWrite (x : Nat) (w : Word64)
  /-- CROSSING_HELD_WORD_ACCEPT (R27): Room frees in a Crossing FIFO and the word the source held behind back-pressure enters it. -/
  | crossingHeldWordAccept (x : Nat)
  /-- CROSSING_LOSS_DETECT (R32): A Crossing's loss detector clears NOOVF and the loss is treated as a hardware fault of the joined islands other than the Signal Box. -/
  | crossingLossDetect (x late : Nat) (save : Option Nat)
  /-- CROSSING_STATS_CLEAR (R31): A write of 1 to a bit of SYS_XCLR clears HWM and BPCNT of that Crossing. -/
  | crossingStatsClear (p : Path) (bits : Word)
  /-- TIMETABLE_PERIOD_START (R39): At the start of each period of a resource, every class's remaining budget is reloaded from its budget. -/
  | timetablePeriodStart (k waiting : Nat)
  /-- TIMETABLE_SLOT_GRANT (R40): For each slot the Timetable grants a floor class, a budgeted class, a lent slot to Best-effort, or leaves it idle. -/
  | timetableSlotGrant (k waiting : Nat) (work : SlotWork) (late : Nat) (save : Option Nat)
  /-- USE_STATS_CLEAR (R43): A write of 1 to TTB_CLR.CLRUSE clears MAX and DENY in every TTB_USE register. -/
  | useStatsClear (p : Path)
  /-- TOKEN_REQUEST (R48): A heavy operation asks the Token governor for a Token, which is refused, deferred or granted. -/
  | tokenRequest (kind id inrush : Nat)
  /-- TOKEN_RELEASE (R49): A holder releases its Token, the committed power falls by its cost and the deferred order is served. -/
  | tokenRelease (kind id : Nat)
  /-- BASELINE_RECOMPUTE (R49): Every 1 ms PWR_PIN and the baseline are recomputed and the deferred order is served. -/
  | baselineRecompute (pin : Nat)
  /-- TOKEN_REQUEST_WITHDRAW (R439): A requester withdraws a deferred Token request and the deferred order is served. -/
  | tokenRequestWithdraw (kind id : Nat)
  /-- TOKEN_WAIT_TIMEOUT (R49): A deferred request reaches its longest wait and is refused with reason TIMEOUT. -/
  | tokenWaitTimeout (kind id : Nat)
  /-- TOKEN_HOLD_OVERRUN (R50): A Token held beyond its hold limit counts an overrun and sets TOK_EVT.OVERRUN without withdrawal. -/
  | tokenHoldOverrun (kind id : Nat)
  /-- LANE_FAULT_DETECT (R69): A CRC mismatch, missing L07 edge or unacknowledged L06 command marks a lane faulty and its roles' samples invalid. -/
  | laneFaultDetect (k beat : Nat) (conv : Option Nat)
  /-- LANE_ROLE_MOVE (R69): At a block boundary within 4 blocks the faulty lane's role moves to the lowest free spare lane. -/
  | laneRoleMove (k : Nat)
  /-- STUCK_STREAM_DETECT (R80): A run of 1,024 equal bits on an input marks the stream stuck and its role's samples invalid. -/
  | stuckStreamDetect (n beat : Nat)
  /-- ROTATION_STEP (R83): A 176 ms rotation step stands a spare in for the converter under check, measures zero and reference, and returns the role. -/
  | rotationStep (m : RotMeas)
  /-- TRIM_STORE (R92): Once per hour the trims in force are written to MRAM. -/
  | trimStore
  /-- METROLOGY_BLOCK (R128): At each block end each engine processes the block's samples and writes its 14-word increment record. -/
  | metrologyBlock (raws : List (List Int)) (edges : Nat) (dev0 dev1 : List Int)
  /-- INSTANT_VALUES_UPDATE (R129): Every 10 blocks, or every block for DC, instantaneous values are updated and sent over X00 and X02. -/
  | instantValuesUpdate (m : InstMeas)
  /-- CORRECTION_SET_APPLY (R132): A pending correction set arriving over X01 is applied from the next block and, if new, marked CORR and logged. -/
  | correctionSetApply
  /-- ENGINE_DEADLINE_MISS (R145): An engine that has not written its record 3.0 ms after the block's last sample is faulty. -/
  | engineDeadlineMiss (e : Nat)
  /-- ENGINE_SELF_CHECK_ERROR (R148): An uncorrectable residue or state-memory error, or a failing test segment, makes an engine faulty. -/
  | engineSelfCheckError (e : Nat)
  /-- COMMIT_MARK_SNAPSHOT (R149): A commit mark arriving over X01 makes the comparator snapshot the active engine and the standby compare with it. -/
  | commitMarkSnapshot
  /-- ENGINE_SELF_TEST_DONE (R156): An engine self-test completes and the engine passes to rejoin, repeats after 10 s, or is retired. -/
  | engineSelfTestDone (e : Nat) (pass : Bool)
  /-- SELF_TEST_RETRY (R156): 10 s after a failed self-test the engine repeats it. -/
  | selfTestRetry (e : Nat) (pass : Bool)
  /-- PLANNED_SELF_TEST_DUE (R157): SELFTEST_PER expires and the due engine is tested, waiting for dual mode if needed. -/
  | plannedSelfTestDue
  /-- SELF_TEST_NOW (R157): A write of 1 to PTS_CTL.STNOW runs the planned self-test sequence at once. -/
  | selfTestNow (p : Path)
  /-- WARMUP_END (R158): After WARMUP blocks the warming engine enters shadow and is compared. -/
  | warmupEnd (e : Nat)
  /-- SHADOW_PROMOTE (R158): After 1,000 consecutive clean compares a shadow becomes standby and PTS_EVT.REJOIN is set. -/
  | shadowPromote (e : Nat)
  /-- SHADOW_TIMEOUT (R159): A shadow without 1,000 clean compares in 60,000 blocks is faulty with cause 5. -/
  | shadowTimeout (e : Nat)
  /-- TRIAL_START (R161): Writing 1 to PTS_CTL.TRIAL in dual mode moves the standby to trial with the pending correction set. -/
  | trialStart (p : Path)
  /-- TRIAL_END (R161): Writing 0 to PTS_CTL.TRIAL ends the trial and the engine rejoins. -/
  | trialEnd (p : Path)
  /-- TRIAL_MAX_EXPIRY (R161): Reaching TRIAL_MAX ends the trial and the engine rejoins. -/
  | trialMaxExpiry
  /-- MISMATCH_COUNT_CLEAR (R164): A write of 1 to PTS_CTL.CLRMISM clears PTS_CNT.MISM. -/
  | mismatchCountClear (p : Path)
  /-- BLOCK_RECORD_ATTRIBUTE (R179): A record read from X00 is attributed to a projected or confirmed second and rate and added to the provisional totals. -/
  | blockRecordAttribute
  /-- BILLING_TICK (R173): The Battery island's tick of a new billing second confirms the previous second and relabels or rolls back pending entries. -/
  | billingTick
  /-- SECOND_COMMIT (R177): A confirmed second is committed: accumulators, demand, debit, journal, committed view, commit mark and due events. -/
  | secondCommit
  /-- WAYBILL_SIGNED (R204): The Grotto's signature of a reserved Waybill completes and the Waybill becomes readable. -/
  | waybillSigned
  /-- WAYBILL_SIGN_RETRY (R385): 1 s after a refused Token the billing pipeline asks again to sign a P-384 Waybill. -/
  | waybillSignRetry
  /-- VIEW_SNAP (R187): A write of 1 to BIL_CTL.SNAP freezes the host's view of the committed registers at the last commit. -/
  | viewSnap (p : Path)
  /-- VIEW_RELEASE (R187): A write of 1 to BIL_CTL.REL releases the frozen host view. -/
  | viewRelease (p : Path)
  /-- VIEW_SNAP_TIMEOUT (R187): 10 s after freezing, the host view is released. -/
  | viewSnapTimeout
  /-- LOW_WORD_LATCH_READ (R187): A read of the low word of a 64-bit register latches the high word for the next read. -/
  | lowWordLatchRead (p : Path) (addr : Nat)
  /-- CREDIT_TRANSFER_RECEIVE (R198): A credit transfer with a number above the last is accepted for the next commit, otherwise rejected with TOPREJ. -/
  | creditTransferReceive (amount : Int) (number src : Nat)
  /-- RTC_TEMPERATURE_TRIM (R207): Every 60 s the Battery island measures die temperature and sets the RTC rate trim. -/
  | rtcTemperatureTrim (temp : Int)
  /-- PTP_CLOCK_COMPARE (R208): Every 16 s under PTP lock the billing clock is compared with PTP time and corrected. -/
  | ptpClockCompare (frac : Nat) (stable : Bool)
  /-- LEARNED_TRIM_STORE (R208): After 24 h of continuous lock the mean rate correction is stored as the learned trim. -/
  | learnedTrimStore (mean : Int)
  /-- DST_CHANGE (R209): At the DST_START or DST_END instant local time changes and code 0x0106 or 0x0107 is logged. -/
  | dstChange
  /-- CLOCK_ADJUSTMENT (R212): An adjustment from head-end, host or PTP is slewed, accepted as a step, held, or refused. -/
  | clockAdjustment (src newMs frac : Nat)
  /-- CLOCK_SET_GO (R213): A write of 1 to BTM_SETCTL.GO applies BTM_SETVAL as an adjustment. -/
  | clockSetGo (p : Path) (frac : Nat)
  /-- CLOCK_RESET (R218): A write of 1 to BTM_SETCTL.RESET applies BTM_SETVAL as a clock reset and sets HWS. -/
  | clockReset (p : Path) (frac : Nat)
  /-- CLOCK_STEP_APPLY (R215): At a tick a step replaces the tick with an ADJ tick, commits, splits intervals, rolls back and logs. -/
  | clockStepApply
  /-- SLEW_COMPLETE (R212): A slew has absorbed its Δ and BTM_STAT.SLEW clears. -/
  | slewComplete
  /-- TAMPER_POLL (R226): Every 31.25 ms TMP_COVER and TMP_TERM are polled and a change recognised on two agreeing polls. -/
  | tamperPoll (cover term : Bool)
  /-- OUTAGE_BURST (R228): Once per second in outage the Battery island samples roles 0 to 5 for 10 ms and updates the outage record. -/
  | outageBurst (rms : List Nat)
  /-- VBAT_MEASURE (R577): Every 60 s VBAT is measured without load and BATLOW, NOBAT or outage stop apply. -/
  | vbatMeasure (mv : Nat)
  /-- HOST_DISCONNECT (R233): A write of 1 to BIL_DISCCTL.DISC sets the host disconnect request. -/
  | hostDisconnect (p : Path)
  /-- HOST_RECONNECT (R233): A write of 1 to BIL_DISCCTL.RECON withdraws the host request, or the tamper request with owner access, and counts as a local action. -/
  | hostReconnect (p : Path)
  /-- RELAY_FEEDBACK_TIMEOUT (R236): DISC_FB not showing the commanded position within DISC_FB_T sets FAULT, logs 0x0404 and reports the fault. -/
  | relayFeedbackTimeout (shown : Bool)
  /-- RELAY_CLOSE_RETRY (R236): 10 s after a failed close the relay close is repeated once. -/
  | relayCloseRetry
  /-- RELAY_FEEDBACK_UNCOMMANDED (R236): A change of DISC_FB with no command is logged as code 0x0307. -/
  | relayFeedbackUncommanded (level : Bool)
  /-- LOCKSTEP_FAULT (R239): A comparator mismatch, clock, watchdog or supply fault removes every output drive and demands pilot F. -/
  | lockstepFault
  /-- SAFETY_CYCLE (R247): Every 500 µs the Signal Box evaluates its inputs and causes before requests. -/
  | safetyCycle (i : SafeIn)
  /-- CONTACTOR_DELAY_EXPIRY (R243): CONT_DELAY elapses, or DC currents fall below 1 %, and the contactor outputs are turned off. -/
  | contactorDelayExpiry
  /-- DISCREPANCY_TIMEOUT (R250): The other channel of a pair not matching within DISCREP_T sets DISCREP. -/
  | discrepancyTimeout (pair : Nat)
  /-- INPUT_TEST_PULSE (R252): Once per second TP0 or TP1 gives an off-pulse and inputs that stay closed set INTEST. -/
  | inputTestPulse (tp : Nat) (closed wrong : Nat)
  /-- OUTPUT_TEST_PULSE (R253): Once per second each on output has one switch pulsed off and its fall is checked, else OUTTEST. -/
  | outputTestPulse (output : Nat) (pass : Bool)
  /-- OUTPUT_OFF_CHECK (R253): Once per second each off output's switches are checked via the mid node and a conducting switch sets OUTTEST. -/
  | outputOffCheck (output : Nat) (conducts : Bool)
  /-- SAFE_RESET_RELEASE (R255): Release of a SAFE_RST press of 100 ms to 5 s is an accepted reset that clears ended class B causes. -/
  | safeResetRelease (held since refire : Nat)
  /-- RESET_STUCK_TIMEOUT (R255): SAFE_RST held longer than 5 s sets RSTSTUCK. -/
  | resetStuckTimeout
  /-- SEAL_CHANGE (R267): A change of SEAL0 to SEAL3 away from the run pattern while running sets SEAL. -/
  | sealChange (pattern : Nat)
  /-- CORE_WORD_RECEIVE (R246): A word on X04 carrying session state, seeds or a request arrives at the Signal Box and restarts the CORE timeout. -/
  | coreWordReceive (seed : Option (Nat × Nat × Word))
  /-- CORE_TIMEOUT (R246): No word on X04 for CORE_TO, or 2 s after start, raises cause CORE. -/
  | coreTimeout
  /-- METRO_TIMEOUT (R247): No word on X02 for 20 ms, or 1 s after start, raises cause METRO. -/
  | metroTimeout
  /-- CAUSE_RESUME_HOLD_END (R247): 1 s after X04 or X02 resumes, or after SAFE_RST release, a class A cause clears. -/
  | causeResumeHoldEnd (n : Nat)
  /-- CLOSE_REQUEST (R293): A close request over X04 is checked against R245 and R292 and its outputs turned on or it is refused. -/
  | closeRequest
  /-- CLOSE_FEEDBACK_DONE (R293): Feedback closed on each output, or CONT_FB_T elapsing, releases GATE_OFF or refuses with NOCLOSE. -/
  | closeFeedbackDone
  /-- OPEN_REQUEST (R294): An open request asserts GATE_OFF within 500 µs and turns the contactors off without a stop reaction. -/
  | openRequest
  /-- CONTACTOR_FEEDBACK_CHANGE (R295): A contactor feedback change or path disagreement is judged and may set CONTFB or UNCMD. -/
  | contactorFeedbackChange (n : Nat) (a b : Bool) (time : Nat)
  /-- CONTACTOR_FEEDBACK_TIMEOUT (R295): Feedback not matching the command for CONT_FB_T sets CONTFB or UNCMD. -/
  | contactorFeedbackTimeout (n : Nat)
  /-- WELD_CHECK_TIMEOUT (R296): WELD_T after every feedback shows open, a voltage above WELD_VLIM sets WELD and CONTFB. -/
  | weldCheckTimeout
  /-- WELD_CLEAR (R296): The voltage reading below WELD_VLIM for 1 s with outputs off clears WELD. -/
  | weldClear
  /-- SAFE_TELEGRAM_SEND (R261): Every TG_PER the Signal Box sends a safe telegram with SEQ and EPOCH advanced. -/
  | safeTelegramSend (time : Nat)
  /-- SAFE_TELEGRAM_RECEIVE (R262): A telegram copy from either network is checked and discarded, compared or accepted and acted on. -/
  | safeTelegramReceive (arrival : Nat)
  /-- TELEGRAM_TIMEOUT (R262): No copy accepted for 20 ms makes the connection lost and may set TGLOSS. -/
  | telegramTimeout (c : Nat)
  /-- RCM_SELF_TEST_START (R278): At start, every RCM_TEST_PER or on pilot A to B the fluxgate self-test takes a Token and injects ±10 mA. -/
  | rcmSelfTestStart
  /-- RCM_SELF_TEST_REQUEST (R278): A write of 1 to EFT_TRIPCTL.RCMTEST requests a fluxgate self-test. -/
  | rcmSelfTestRequest (p : Path)
  /-- RCM_SELF_TEST_DONE (R278): After 800 ms the self-test is judged on the DC component changes and passes or fails. -/
  | rcmSelfTestDone (plus minus : Int)
  /-- RCM_SELF_TEST_RETRY (R278): 10 s after a Token refusal with TIMEOUT the self-test is asked for again. -/
  | rcmSelfTestRetry
  /-- IMD_HALF_CYCLE_END (R279): At each IMD_CYCLE/2 the injection polarity alternates and a completed cycle is judged. -/
  | imdHalfCycleEnd (sns vdc : Int) (rise : Nat)
  /-- DC_TRIP_FIRE (R287): A DC current comparator fires, sets both trip latches and asserts GATE_OFF_A and GATE_OFF_B. -/
  | dcTripFire (m : Nat)
  /-- TRIP_PATH_TEST_DUE (R289): At start or every TRIP_TEST_PER a trip path test falls due and waits for idle and the Core island. -/
  | tripPathTestDue
  /-- TRIP_PATH_TEST_REQUEST (R289): A write of 1 to EFT_TRIPCTL.TEST requests a trip path test. -/
  | tripPathTestRequest (p : Path)
  /-- TRIP_PATH_TEST_START (R289): With no contactor on and the request passed over X01, each comparator is fired in turn 10 ms apart. -/
  | tripPathTestStart
  /-- TRIP_PATH_TEST_DONE (R289): The trip path test ends, judges latches and TRIPSRC, and moves pairs or lanes as needed. -/
  | tripPathTestDone (pairs : Nat) (laneA laneB clear : Bool)
  /-- PILOT_DEMAND_RECEIVE (R304): A Signal Box demand or withdrawal over X19 changes the pilot drive within 20 µs. -/
  | pilotDemandReceive
  /-- PILOT_SESSION_REQUEST (R303): A session word on X06 requests a duty or mode E or F, applied at the next PWM period or refused. -/
  | pilotSessionRequest (word : Option (Nat × Nat))
  /-- PILOT_X06_SILENCE (R303): No word on X06 for 1 s puts the pilot in constant mode with COREFB. -/
  | pilotX06Silence
  /-- PILOT_STATE_CHANGE (R308): A new pilot state recognised on 3 agreeing measurements is sent over X20 and X05. -/
  | pilotStateChange (high low : Int) (age : Nat)
  /-- PROXIMITY_MEASURE (R310): Every 10 ms the PP resistance is measured and a new code recognised and reported. -/
  | proximityMeasure (mohm : Option Nat)
  /-- GP_BURST_TRANSMIT (R313): A Green PHY burst asks for a Token of kind 4 and is sent at full power or reduced. -/
  | gpBurstTransmit (n : Nat)
  /-- GP_FRAME_RECEIVE (R314): A received Green PHY data frame enters Q22 or Q23 or is dropped at a full queue. -/
  | gpFrameReceive (prio : Nat) (bytes : List Byte)
  /-- CM_SLAC_PARM_REQ (R316): A CM_SLAC_PARM.REQ is answered with CM_SLAC_PARM.CNF and sounding begins. -/
  | cmSlacParmReq (runId mac security age : Nat)
  /-- CM_MNBC_SOUND_IND (R316): A sound is received and its attenuation groups accumulated. -/
  | cmMnbcSoundInd (runId : Nat) (groups : List Nat)
  /-- SOUNDING_END (R316): 600 ms after the CNF or at the 10th sound, ATTEN is judged and coordination or failure follows. -/
  | soundingEnd
  /-- SLAC_INIT_TIMEOUT (R315): SLAC_INIT_T without CM_SLAC_PARM.REQ ends SLAC with failure 1. -/
  | slacInitTimeout
  /-- CM_ATTEN_CHAR_RSP (R315): A CM_ATTEN_CHAR.RSP moves SLAC to validating or wait-for-match. -/
  | cmAttenCharRsp (runId : Nat)
  /-- ATTEN_CHAR_REPEAT_TIMEOUT (R315): An unanswered CM_ATTEN_CHAR.IND is repeated at 200 ms and after 3 repeats fails with 5. -/
  | attenCharRepeatTimeout
  /-- CM_VALIDATE_REQ (R317): A CM_VALIDATE.REQ opens a 600 ms toggle window on the pilot. -/
  | cmValidateReq
  /-- TOGGLE_WINDOW_END (R317): At the window end the toggle count is compared and validation passes or fails with 7. -/
  | toggleWindowEnd (count : Nat)
  /-- CM_SLAC_MATCH_REQ (R318): A CM_SLAC_MATCH.REQ is answered with a fresh key and the vehicle admitted. -/
  | cmSlacMatchReq (runId mac : Nat)
  /-- MATCH_WAIT_TIMEOUT (R315): 10 s without CM_SLAC_MATCH.REQ ends SLAC with failure 6. -/
  | matchWaitTimeout
  /-- COORD_REPORT_RECEIVE (R320): A neighbour's coordination report is collected within SLAC_COORD_T. -/
  | coordReportReceive
  /-- COORD_WINDOW_END (R320): At SLAC_COORD_T the post decides assignments from the reports held and answers or loses. -/
  | coordWindowEnd
  /-- COORD_WITHDRAW_RECEIVE (R321): A neighbour's withdraw makes the posts repeat the decision without it. -/
  | coordWithdrawReceive (since : Nat)
  /-- T1S_FRAME_RECEIVE (R324): A T1S frame with a correct FCS enters Q18 or Q19 and keeps the link present. -/
  | t1sFrameReceive (prio : Nat) (bytes : List Byte)
  /-- T1S_LINK_TIMEOUT (R324): No good frame for T1S_LINK_T marks the T1S link down. -/
  | t1sLinkTimeout
  /-- SESSION_PILOT_EVENT (R330): A pilot or proximity state reported over X05 advances, pauses or ends the session. -/
  | sessionPilotEvent
  /-- SECC_DISCOVERY_REQUEST (R334): A SECC discovery request on UDP 15118 is answered with the TCP port. -/
  | seccDiscoveryRequest
  /-- APPLICATION_REQUEST (R336): A vehicle application message is decoded and answered within 250 ms, advancing the session. -/
  | applicationRequest (m : AppMsg)
  /-- PROTOCOL_TIMEOUT (R337): A setup, next-request or charge-loop limit elapses and the session ends with reason 10. -/
  | protocolTimeout
  /-- HELD_CARD_EXPIRY (R340): AUTH_PRE_T after a card presented in state 0, the held card is dropped. -/
  | heldCardExpiry
  /-- HOST_AUTH_ACCEPT (R341): A write of SES_AUTHCTL.ACCEPT with the current TAG authorises the session, or sets STALE. -/
  | hostAuthAccept (p : Path) (tag : Nat)
  /-- HOST_AUTH_REJECT (R341): A write of SES_AUTHCTL.REJECT with the current TAG rejects the request. -/
  | hostAuthReject (p : Path) (tag : Nat)
  /-- HOST_AUTH_REVOKE (R341): A write of SES_AUTHCTL.REVOKE in states 4 to 8 stops the session with reason 4. -/
  | hostAuthRevoke (p : Path)
  /-- AUTH_WAIT_TIMEOUT (R341): No host answer within AUTH_WAIT_T rejects sources 3 and 4 or lets PnC stand. -/
  | authWaitTimeout
  /-- PNC_CHAIN_CHECK_DONE (R338): The PnC chain and signature check on the Grotto completes and the source passes or fails. -/
  | pncChainCheckDone (pass : Bool)
  /-- HOST_REMOTE_START (R636): A write of 1 to SES_CTL.REMOTE offers source 4 with the last REMOTE_ID. -/
  | hostRemoteStart (p : Path)
  /-- HOST_SESSION_STOP (R363): A write of 1 to SES_CTL.STOP stops the session with reason 4. -/
  | hostSessionStop (p : Path)
  /-- HOST_ABSENT (R628): No host access on either path for HOST_TO makes the host absent. -/
  | hostAbsent
  /-- LIMIT_UPDATE (R344): Every 10 ms I_LIM is recomputed and the pilot duty sent for basic AC. -/
  | limitUpdate
  /-- SETPOINT_UPDATE (R346): Every 10 ms I_SET ramps toward the target under a Token of kind 1 or falls at RAMP_DOWN. -/
  | setpointUpdate
  /-- CABLE_CHECK_TIMEOUT (R347): A cable check still running after CC_MAX_T stops the session with reason 8. -/
  | cableCheckTimeout
  /-- PRECHARGE_TIMEOUT (R348): Pre-charge not complete within PRECH_MAX_T stops the session with reason 9. -/
  | prechargeTimeout
  /-- SITE_GRANT_ARRIVAL (R350): A GRANT arrives, replaces the site grant and starts a 10 s lease. -/
  | siteGrantArrival
  /-- SITE_LEASE_RENEW (R350): Every 5 s in states 5 to 8 the session renews its lease with a REQ. -/
  | siteLeaseRenew
  /-- SITE_LEASE_EXPIRY (R351): A lease reaching 10 s without renewal drops the grant to SITE_FLOOR and sets LEASE. -/
  | siteLeaseExpiry
  /-- PAUSE_TOKEN_RELEASE (R351): After more than 10 s in state 8 the site Token is released to the master. -/
  | pauseTokenRelease
  /-- CONVERTER_SETPT_SEND (R353): Every 10 ms a SETPT frame is sent to each converter in use. -/
  | converterSetptSend
  /-- CONVERTER_SYNC_SEND (R355): Every 100 ms a SYNC frame is sent on each CAN FD port. -/
  | converterSyncSend
  /-- CONVERTER_STATUS_RECEIVE (R359): A STATUS frame updates the node's health and available current. -/
  | converterStatusReceive (port n : Nat) (f : List Byte)
  /-- CONVERTER_CAPAB_RECEIVE (R357): A CAPAB frame records a node's capabilities. -/
  | converterCapabReceive (port n : Nat) (f : List Byte)
  /-- CONVERTER_STATUS_TIMEOUT (R359): A node without STATUS for 50 ms becomes unhealthy and is removed from ENMASK. -/
  | converterStatusTimeout (n : Nat)
  /-- STOP_TIMEOUT (R361): STOP_T after the stop decision the open request is sent. -/
  | stopTimeout
  /-- KEY_GENERATE (R377): KEY_CTL.GO with OP 1 generates a key in an empty slot and returns the public key. -/
  | keyGenerate (p : Path)
  /-- KEY_WRITE (R378): KEY_CTL.GO with OP 2 writes a clear key into an empty slot when allowed. -/
  | keyWrite (p : Path)
  /-- KEY_IMPORT (R378): KEY_CTL.GO with OP 3 unwraps an encrypted key under its parent after checking the tag. -/
  | keyImport (p : Path)
  /-- KEY_INVALIDATE (R381): KEY_CTL.GO with OP 4 raises the slot generation, refreshes or zeroes the key and orphans descendants. -/
  | keyInvalidate (p : Path)
  /-- KEY_DESTROY (R381): KEY_CTL.GO with OP 5 zeroes the key and orphans its descendants. -/
  | keyDestroy (p : Path)
  /-- KEY_READPUB (R377): KEY_CTL.GO with OP 6 returns the public key of a valid slot in KEY_DATA. -/
  | keyReadpub (p : Path)
  /-- ORPHAN_ZERO (R381): Within 1 s each orphaned slot is zeroed and marked empty with ORPHAN set. -/
  | orphanZero
  /-- KEY_DATA_EXPIRY (R377): 10 s after a command returns data, KEY_DATA is zeroed. -/
  | keyDataExpiry
  /-- CRYPTO_REQUEST (R382): A crypto request arrives on X16 and waits or is queued in its class's order. -/
  | cryptoRequest (r : CryptoReq)
  /-- CRYPTO_OPERATION_DONE (R384): A crypto operation completes and its result returns on X15 in arrival order. -/
  | cryptoOperationDone (cls : Nat)
  /-- DRBG_RESEED (R386): Every 1 s the DRBG reseeds, and a failed health test stops the generator. -/
  | drbgReseed (healthy : Bool)
  /-- ETH_FRAME_SEND (R398): A frame written to Q00 to Q03 is sent on both ports with the PRP trailer, or discarded on a down port. -/
  | ethFrameSend (w : Option TxFrame) (hold : Bool) (dt : Nat)
  /-- FRAME_LAUNCH (R408): The head of Q00 reaches its launch time and is sent, or is late and sent or discarded. -/
  | frameLaunch (dt : Nat)
  /-- ETH_FRAME_RECEIVE (R399): A received frame is checked against the node table, deduplicated and placed in a receive queue. -/
  | ethFrameReceive (p : Nat) (f : List Byte) (fcs : Bool) (dt : Nat)
  /-- NODE_ENTRY_EXPIRY (R399): A node table entry not refreshed for 400 ms is forgotten. -/
  | nodeEntryExpiry (src : List Byte)
  /-- SUPERVISION_FRAME_SEND (R400): Every 2 s a PRP supervision frame is sent on each port. -/
  | supervisionFrameSend
  /-- GROUP_MESSAGE_RECEIVE (R403): A site group message is filtered and delivered to Q04 or dropped, with ADDRCONF on an own address. -/
  | groupMessageReceive (p : Nat) (m : List Byte)
  /-- TELEGRAM_FRAME_FILTER (R422): A safe telegram frame is accepted by the filter and its 32 bytes passed over X09. -/
  | telegramFrameFilter (p : Nat) (f : List Byte)
  /-- PTP_SYNC_RECEIVE (R414): A Sync updates the domain time and offset and the lock count of the port. -/
  | ptpSyncReceive (p dom seq : Nat) (twoStep : Bool) (origin corr residence : Int) (dt : Nat)
  /-- PTP_ANNOUNCE_RECEIVE (R412): An Announce keeps a grandmaster present and updates the UTC offset. -/
  | ptpAnnounceReceive (p dom gm : Nat) (rank : List Nat) (utc : Option Nat)
  /-- ANNOUNCE_TIMEOUT (R412): The announce receipt timeout expires and the domain may be lost. -/
  | announceTimeout (p dom : Nat)
  /-- PTP_SYNC_SEND (R411): In role 1 the module sends its own one-step Sync at its interval. -/
  | ptpSyncSend (dt : Nat)
  /-- REVERT_TIMEOUT (R415): The preferred domain locked for REVERT_T makes the module switch back. -/
  | revertTimeout
  /-- ST_SLEW_COMPLETE (R415): The ST slew has absorbed Δ and PTP_STAT.SLEW clears. -/
  | stSlewComplete
  /-- PPS_SECOND (R407): ST passing a whole second raises PPS_OUT for 100 ms while locked. -/
  | ppsSecond
  /-- EVT_IN_EDGE (R407): A rising edge at EVT_IN is stamped in ST and EVTIN set. -/
  | evtInEdge (dt : Nat)
  /-- ETH_LINK_UP (R418): A port's link comes up and the port rejoins receive, transmit and PTP. -/
  | ethLinkUp (p speed : Nat)
  /-- ETH_LINK_DOWN (R418): A port's link goes down, its transmit copies are discarded and its PTP stops. -/
  | ethLinkDown (p : Nat)
  /-- PORT_ENABLE_WRITE (R419): A write of ETH_CTL.PEN disables or enables a port, or is refused while telegrams are used. -/
  | portEnableWrite (p : Path) (w : Word)
  /-- CAN_BUS_OFF (R420): A CAN FD controller reaches bus-off, counts it and restarts after 128 recessive sequences. -/
  | canBusOff (k : Nat)
  /-- POLL_SEND (R444): The master fills and sends a POLL naming slaves and a join slot, under a Token of kind 5. -/
  | pollSend (joinDue : Bool) (ref : Nat)
  /-- POLL_RECEIVE (R443): A slave receives a POLL with its segment and learns CYC, RLEN and slot timing. -/
  | pollReceive (rx : AmbRx) (another : Bool)
  /-- RESP_SLOT_START (R443): At its slot start a named slave sends its RESP with PHASE and queued messages, or JOIN. -/
  | respSlotStart (k : Nat)
  /-- RESP_RECEIVE (R449): The master receives a RESP, computes the phase, updates the class and MOD and handles its messages. -/
  | respReceive (k : Nat) (rx : AmbRx)
  /-- SLOT_FAIL (R444): A slot without a valid RESP fails and after AMB_MISS in a row the node is marked absent. -/
  | slotFail (k : Nat)
  /-- JOINACK_RECEIVE (R446): A slave receives JOINACK and is joined, or retries after 60 s on a conflict. -/
  | joinackReceive
  /-- JOIN_CONFLICT_RETRY (R447): 60 s after an address conflict the slave tries to join again. -/
  | joinConflictRetry
  /-- SLAVE_LOST (R448): A slave without a POLL or naming for AMB_LOST_T is no longer joined and rejoins. -/
  | slaveLost
  /-- BUSY_NODE_SLOW (R445): A busy node not named for 8 s sets AMB_EVT.SLOW. -/
  | busyNodeSlow (n : Nat)
  /-- AMENE_FRAME_RECEIVE (R436): A BCAST or other frame is decoded with erasures or discarded and its messages delivered. -/
  | ameneFrameReceive (rx : AmbRx)
  /-- ZC_EDGE (R428): A rising ZC edge is stamped and corrected by ZC_DLY for phase detection. -/
  | zcEdge (time : Nat)
  /-- POWER_SHARE_RUN (R454): Every 1 s or on REQ or REL the site master shares power and sends changed or aging GRANTs. -/
  | powerShareRun
  /-- SHARE_REQ_RECEIVE (R453): SITE_MASTER receives a REQ from a post and runs the sharing. -/
  | shareReqReceive
  /-- SHARE_REL_RECEIVE (R455): SITE_MASTER receives a REL and sets the post's held power to 0. -/
  | shareRelReceive
  /-- HELD_POWER_EXPIRY (R455): 20 s after a post's last REQ its held power stops being counted. -/
  | heldPowerExpiry (post : Nat)
  /-- SETPAR_RECEIVE (R456): A SETPAR from SITE_MASTER writes a site-layer parameter or is refused and counted. -/
  | setparReceive
  /-- BRIDGED_MESSAGE_RECEIVE (R451): A master forwards a bridged Amene message between Ethernet and its slaves. -/
  | bridgedMessageReceive
  /-- DLMS_AARQ (R464): An association request is accepted or refused in the AARE by client, keys and root state. -/
  | dlmsAarq (assoc wPort : Nat) (challenge : List Byte)
  /-- HLS_PASS3 (R465): ACTION reply_to_HLS_authentication verifies the client and the server answers pass 4, or releases. -/
  | hlsPass3 (r : DlmReq) (sig : List Byte)
  /-- HLS_TIMEOUT (R465): Pass 3 not arriving within 10 s of the AARE releases the association. -/
  | hlsTimeout (assoc : Nat)
  /-- ASSOCIATION_IDLE_TIMEOUT (R461): DLM_IDLE without a request releases the association. -/
  | associationIdleTimeout (assoc : Nat)
  /-- DLMS_GET (R472): A GET normal, with-list or with-block is answered from one commit. -/
  | dlmsGet (r : DlmReq) (ask : DlmAsk)
  /-- DLMS_CLOCK_SET (R469): A SET of Clock attribute 2 is a head-end clock adjustment or refused for Operator. -/
  | dlmsClockSet (r : DlmReq) (newMs frac : Nat)
  /-- DLMS_SHIFT_TIME (R469): ACTION shift_time adjusts the clock by the given seconds. -/
  | dlmsShiftTime (r : DlmReq) (seconds : Int)
  /-- DLMS_BILLING_END_COMMAND (R470): A write of true to 0.0.128.0.2.255 ends the billing period at the next commit. -/
  | dlmsBillingEndCommand (r : DlmReq) (value : Bool)
  /-- DLMS_CREDIT_TRANSFER (R475): A write to 0.0.128.0.1.255 is a credit transfer under R198. -/
  | dlmsCreditTransfer (r : DlmReq) (amount : Int) (number : Nat)
  /-- DLMS_CALENDAR_WRITE (R473): A write of a passive calendar attribute builds the staging copy or submits it on attribute 10. -/
  | dlmsCalendarWrite (r : DlmReq) (part : CalPart)
  /-- ACTIVATE_PASSIVE_CALENDAR (R474): Method 1 of the Activity calendar submits the staging copy with activation time 0. -/
  | activatePassiveCalendar (r : DlmReq)
  /-- SPECIAL_DAY_INSERT (R474): Method 1 of the Special days table inserts an entry into the staging copy. -/
  | specialDayInsert (r : DlmReq) (i year month day profile : Nat)
  /-- SPECIAL_DAY_DELETE (R474): Method 2 of the Special days table deletes an entry from the staging copy. -/
  | specialDayDelete (r : DlmReq) (i : Nat)
  /-- STAGING_TIMEOUT (R474): 600 s without a calendar write discards the staging copy with STAGEDROP. -/
  | stagingTimeout
  /-- REMOTE_DISCONNECT (R475): Method remote_disconnect sets the head-end disconnect request. -/
  | remoteDisconnect (r : DlmReq)
  /-- REMOTE_RECONNECT (R475): Method remote_reconnect withdraws the head-end request with the outcome of R234. -/
  | remoteReconnect (r : DlmReq)
  /-- READER_POLL (R481): Every POLL_PER the reader listens for a field, polls, resolves up to 4 cards and reports. -/
  | readerPoll (ext : Bool) (cards : List (List Byte × Nat))
  /-- LAYER4_IDLE_TIMEOUT (R485): 5 s without an exchange ends layer-4 activation and polling resumes. -/
  | layer4IdleTimeout
  /-- LIST_ADD (R486): NFC_LISTCTL OP 1 adds a UID to the local list or fails with LISTERR. -/
  | listAdd (p : Path) (len : Nat)
  /-- LIST_REMOVE (R486): NFC_LISTCTL OP 2 removes a UID from the local list. -/
  | listRemove (p : Path) (len : Nat)
  /-- LIST_CLEAR (R486): NFC_LISTCTL OP 3 clears the local list. -/
  | listClear (p : Path)
  /-- TAG_SNAPSHOT_REFRESH (R488): Every TAG_REFRESH or at session end the snapshot areas are rewritten from one commit, after any tag transaction. -/
  | tagSnapshotRefresh
  /-- TAG_FIELD_DETECT (R491): A field of 0.5 A/m powers the tag engine and moves it to Ready. -/
  | tagFieldDetect
  /-- TAG_FIELD_LOST (R490): Loss of the field returns the tag to Listen and applies queued host writes. -/
  | tagFieldLost (secs : Nat)
  /-- TAG_POWER_REMOVE (R491): 100 ms after the field is lost the tag power from VBAT is removed. -/
  | tagPowerRemove
  /-- TAG_WUPA_REQA (R490): WUPA or REQA with anticollision selects the tag into Active. -/
  | tagWupaReqa (wupa anticoll : Bool) (ms : Nat)
  /-- TAG_RATS (R490): RATS is answered with the ATS and the tag enters Transaction with field precedence. -/
  | tagRats
  /-- TAG_HLTA (R490): HLTA puts the tag in Halt. -/
  | tagHlta
  /-- TAG_DESELECT (R495): DESELECT ends the transaction, moves to Halt and applies queued host writes. -/
  | tagDeselect
  /-- TAG_SELECT (R494): SELECT of the service AID answers 0x9000. -/
  | tagSelect (aid : List Byte)
  /-- TAG_READ (R494): READ returns tag memory bytes from an offset. -/
  | tagRead (off le : Nat)
  /-- TAG_WRITE (R489): WRITE stores a notes page in the other copy and answers the new generation when in force. -/
  | tagWrite (off : Nat) (data : List Byte)
  /-- TAG_STATUS (R494): STATUS returns supply, modulation, queue and daily time left. -/
  | tagStatus (le secs : Nat)
  /-- TAG_UNKNOWN_COMMAND (R494): An unknown INS answers 0x6D00. -/
  | tagUnknownCommand
  /-- TAG_TIME_LIMIT (R492): TAG_MAXT or TAG_DAYMAX in outage returns the tag to Listen, ignoring the field for 60 s. -/
  | tagTimeLimit (secs : Nat)
  /-- TAG_IGNORE_END (R492): 60 s after a limit the tag responds to the field again. -/
  | tagIgnoreEnd
  /-- HOST_TAG_WRITE (R495): A write of 1 to NFC_TAGWCTL.GO writes a notes page, or queues it while the field has precedence. -/
  | hostTagWrite (p : Path) (page : Nat)
  /-- LOAD_SWITCH_COMMAND (R500): A write of LSW_CTL.ON turns a channel off within 100 µs or turns it on under Turning on. -/
  | loadSwitchCommand (p : Path) (n : Nat) (on : Bool)
  /-- LOAD_SWITCH_CLEAR_LATCH (R509): A write of 1 to LSW_CTL.CLRLAT resets RETRY and clears RETEX. -/
  | loadSwitchClearLatch (p : Path) (n : Nat)
  /-- LSW_TOKEN_GRANTED (R504): The inrush Token is granted and the switch turns on within 1 ms with its window open. -/
  | lswTokenGranted (n : Nat)
  /-- LSW_TOKEN_REFUSED (R505): A refused inrush Token keeps the channel off and sets TOKREF. -/
  | lswTokenRefused (n reason : Nat)
  /-- LSW_TOKEN_RETRY (R505): 1 s after a refusal the channel asks again for its Token. -/
  | lswTokenRetry (n : Nat)
  /-- INRUSH_WINDOW_CLOSE (R503): INRUSH_T elapses, the limit returns to ILIM and the Token is released. -/
  | inrushWindowClose (n : Nat)
  /-- OVERCURRENT_TRIP (R506): Limitation lasting OC_T trips the channel off and starts the retry rule. -/
  | overcurrentTrip (n : Nat)
  /-- SHORT_TRIP (R506): Current above the short-circuit level turns the channel off within 5 µs. -/
  | shortTrip (n : Nat)
  /-- THERMAL_TRIP (R506): TJ at shutdown trips the channel and sets its thermal latch. -/
  | thermalTrip (n : Nat) (oc : Bool)
  /-- THERMAL_LATCH_CLEAR (R507): TJ below 145 °C for 1 s clears the thermal latch. -/
  | thermalLatchClear (n : Nat)
  /-- RETRY_TIMER_EXPIRY (R508): RETRY_T elapses in waiting retry and the channel restarts with RETRY raised. -/
  | retryTimerExpiry (n : Nat)
  /-- RETRY_COUNT_RESET (R509): 10 s of conduction without a trip returns RETRY to 0 and clears RETEX. -/
  | retryCountReset (n : Nat)
  /-- VLS_UNDERVOLTAGE (R510): VLS below 7.5 V for 20 µs turns every high-side switch off and releases Tokens. -/
  | vlsUndervoltage (mv : Nat)
  /-- VLS_RECOVERY (R511): VLS at 8.5 V for 10 ms clears UV and restarts channels in order. -/
  | vlsRecovery (mv : Nat)
  /-- LOW_SIDE_OPEN (R513): LRET above 50 % of LSV_SENSE for 1 ms turns the channel off into state 6. -/
  | lowSideOpen (n : Nat)
  /-- LOW_SIDE_RESTORED (R513): LRET below 50 % for 10 ms turns the channel on again without a retry. -/
  | lowSideRestored (n : Nat)
  /-- LIMP_INPUT_CHANGE (R514): LIMP_N going low or high enters or ends limp-home. -/
  | limpInputChange (low : Bool) (lh : Nat)
  /-- LIMP_TIMEOUT (R514): No word on X14 for LIMP_TO enters limp-home. -/
  | limpTimeout
  /-- SERVICE_WORD_RECEIVE (R502): A word on X14 brings load-switch commands or a display image and may end limp-home. -/
  | serviceWordReceive (image : Bool)
  /-- LOAD_DIAGNOSTIC (R516): OPEN or STUCKHI is set after 100 ms or 10 ms of its condition and cleared after 100 ms absent. -/
  | loadDiagnostic (n cur temp : Nat) (opened stuck : Option Bool)
  /-- DISPLAY_PAGE_ADVANCE (R523): LCD_PAGE_T elapses and the next used page is shown. -/
  | displayPageAdvance
  /-- DISPLAY_STALE (R525): No word on X14 for 2 s shows dashes with mark 72 and STALE. -/
  | displayStale
  /-- DISPLAY_FRAME_READBACK (R526): Each frame outputs are sampled and failures after 3 frames set LCD_FAIL and LEGAL. -/
  | displayFrameReadback (misses : List Nat)
  /-- CONFIRMED_DISPLAY_END (R524): 60 s after confirmation the check value display ends and normal display resumes. -/
  | confirmedDisplayEnd
  /-- DISPLAY_HOLD (R531): A write of 1 to LCD_CTL.HOLD holds the page shown for 60 s. -/
  | displayHold (p : Path)
  /-- DISPLAY_NEXT (R531): A write of 1 to LCD_CTL.NEXT shows the next page at once. -/
  | displayNext (p : Path)
  /-- LANTERN_POWER_UP (R527): On Service island release VLCD, bias, drivers, image and backlight come up in order. -/
  | lanternPowerUp (vlcd : Bool)
  /-- VLCD_RAIL_RETRY (R527): 1 s after RAILFAIL the VLCD start is retried. -/
  | vlcdRailRetry (vlcd : Bool)
  /-- PARAM_READ (R633): HIF_PCMD GO with OP 0 reads a parameter value in force, next or default. -/
  | paramRead (p : Path) (cmd : Nat)
  /-- PARAM_WRITE (R551): HIF_PCMD GO with OP 1 checks a parameter write, stores it in the overlay and reports a code. -/
  | paramWrite (p : Path) (cmd : Nat)
  /-- UPDATE_ARM (R559): A write of UPD_CTL.ARM measures VBAT and arms the update or refuses it. -/
  | updateArm (p : Path) (mv : Nat)
  /-- UPDATE_DISARM (R559): A write of UPD_CTL.DISARM in state 1 or 4 returns STATE to 0. -/
  | updateDisarm (p : Path)
  /-- OWNER_LOCK_COMMAND (R560): A write of UPD_CTL.LOCKGO submits a signed lock command that sets or clears the owner lock or is refused. -/
  | ownerLockCommand (p : Path)
  /-- UPDATE_CHECK_DONE (R561): The background package check completes and passes to copying or fails with a code. -/
  | updateCheckDone (ok : Bool)
  /-- UPDATE_COPY_DONE (R562): The copy and read-back of the inactive bank complete and STATE becomes 4 or fails with 16. -/
  | updateCopyDone (bad : List Nat)
  /-- UPDATE_SWITCH_EVAL (R564): Every 1 s in state 4 the refusal states are evaluated and the banks switched when none holds. -/
  | updateSwitchEval (vbat : Option Nat)
  /-- TRIAL_SERVICES_REPORT (R564): The new firmware reports its services started, clearing TRIAL and raising UPD_SVN.MIN. -/
  | trialServicesReport
  /-- UPDATE_TRIAL_TIMEOUT (R566): UPD_TRIAL_T without the services report reverts to the former bank. -/
  | updateTrialTimeout
  /-- FIRMWARE_FAULT_REPORT (R566): A fault reported by firmware on trial reverts to the former bank. -/
  | firmwareFaultReport
  /-- VSYS_RISE (R571): VSYS rising through 8.0 V brings up the rails and drives PFW_N. -/
  | vsysRise (mv : Nat)
  /-- POWER_GOOD (R546): 200 ms with PFW_N high gives power-good and the start sequence runs. -/
  | powerGood (i : StartInfo)
  /-- POWER_FAIL_WARNING (R573): VSYS below PFW_LVL for 50 µs asserts PFW_N and starts the save. -/
  | powerFailWarning (mv late : Nat) (save : Option Nat)
  /-- POWER_FAIL_RELEASE (R573): VSYS at PFW_LVL + 0.5 V for 50 µs releases the warning. -/
  | powerFailRelease (mv : Nat)
  /-- SAVE_RESTART (R224): PFW_N released for 200 ms after the save restarts the module as from power-good. -/
  | saveRestart (late dur : Nat)
  /-- BROWN_OUT (R574): VSYS below 6.0 V for 5 µs removes the rails and moves the Battery island to VBAT. -/
  | brownOut (ms : Nat)
  /-- CLOCK_FAULT (R583): The clock monitor finds an island clock faulty, holds the island and starts its spare. -/
  | clockFault (i : Island) (spareOk : Bool) (late : Nat) (save : Option Nat)
  /-- BATTERY_CRYSTAL_FAULT (R584): The Battery crystal faults, the island moves to RC and starts the spare cell. -/
  | batteryCrystalFault
  /-- BATTERY_SPARE_RETURN (R584): The spare cell runs and the island returns to the crystal at the next second boundary, or XBFAIL after 2 s. -/
  | batterySpareReturn (ok : Bool) (err : Int)
  /-- XB_CALIBRATE (R581): A write of 1 to CLK_CTL.XBCAL starts a 1,000 s crystal measurement against EVT_IN. -/
  | xbCalibrate (p : Path)
  /-- XB_CALIBRATE_DONE (R581): The crystal measurement completes and stores CLK_XBMEAS, or is abandoned on a missing edge. -/
  | xbCalibrateDone (cycles : Option Nat) (temp : Int)
  /-- RESET_N_REQUEST (R586): RESET_N low for 10 µs drives PFW_N, runs the save and holds the islands. -/
  | resetNRequest (late : Nat) (save : Option Nat)
  /-- RESET_N_RELEASE (R586): 1 ms after save completion and RESET_N high the module starts as from power-good. -/
  | resetNRelease
  /-- HOST_MODULE_RESET (R585): A write of 1 to SYS_RSTCTL.MODULE resets the module with code 6. -/
  | hostModuleReset (p : Path) (late : Nat) (save : Option Nat)
  /-- HOST_CORES_RESET (R587): A write of 1 to SYS_RSTCTL.CORES resets the application cores with code 10. -/
  | hostCoresReset (p : Path)
  /-- CORE_WATCHDOG_EXPIRY (R587): The 2 s watchdog expires and the cores reset with code 9, or the module with code 11. -/
  | coreWatchdogExpiry (late : Nat) (save : Option Nat)
  /-- DIE_TEMPERATURE_WARM (R668): Die at 120 °C for 1 s lowers LOGIC_BUDGET to 4,000 mW and sets WARM. -/
  | dieTemperatureWarm
  /-- DIE_TEMPERATURE_COOL (R668): Die below 115 °C for 10 s restores LOGIC_BUDGET. -/
  | dieTemperatureCool
  /-- DIE_TEMPERATURE_SHUTDOWN (R668): Die at 145 °C for 10 ms is a module fault with code 8 until it cools below 125 °C. -/
  | dieTemperatureShutdown (late : Nat) (save : Option Nat)
  /-- SCRUB_PASS_DONE (R595): A scrub pass completes and the next begins, with per-sector judgement of code NVM. -/
  | scrubPassDone
  /-- SCRUB_LATE (R595): A pass not complete within SCRUB_PER + 1 h sets SCRUBLATE. -/
  | scrubLate
  /-- SECTOR_MOVE_DONE (R598): An MRAM sector copy is verified and the mapping switched. -/
  | sectorMoveDone (m unit mism : Nat)
  /-- HEALTH_UPDATE (R601): Once per hour equivalent age, wear and life of every spare kind are recomputed. -/
  | healthUpdate (mram nvm : Nat)
  /-- SHADOW_ARM (R611): A vendor write of the shadow CFG with VALID arms the set, loaded at once when idle. -/
  | shadowArm (p : Path) (ch : Nat) (cfg : Word)
  /-- DESCRIPTOR_COMPLETE (R615): A descriptor completes, sets SHN_DONE and loads the armed shadow set. -/
  | descriptorComplete (ch : Nat)
  /-- SHUNTER_CHANNEL_STOP (R618): A write of SHN_CHCTL.STOP stops a channel at an element or frame boundary. -/
  | shunterChannelStop (p : Path) (v : Word)
  /-- HOST_REGISTER_READ (R623): A register read transaction returns up to 16 words with CRC and status. -/
  | hostRegisterRead (p : Path) (crc : Bool) (addr n : Nat)
  /-- HOST_REGISTER_WRITE (R624): A register write transaction to registers with no row of their own is checked whole and applied in order. -/
  | hostRegisterWrite (p : Path) (crc : Bool) (addr : Nat) (words : List Word) (facts : WriteFacts)
  /-- EVENT_BIT_CLEAR (R14): A write of 1 to a W1C bit clears it unless an event sets it in the same cycle. -/
  | eventBitClear (p : Path) (addr : Nat) (bits same : Word)
  /-- MAILBOX_PUSH (R623): A mailbox push to Q30 or Q31 enqueues a request or returns status 6 when full. -/
  | mailboxPush (p : Path) (crc : Bool) (q : Nat) (msg : List Byte)
  /-- MAILBOX_POP (R623): A mailbox pop from Q28 or Q29 returns the next message or length 0. -/
  | mailboxPop (p : Path) (crc : Bool) (q : Nat)
  /-- HIF_ETH_CONNECT (R626): A TCP connection on HIF_PORT runs TLS 1.3 or is refused while one is open. -/
  | hifEthConnect
  /-- HIF_ETH_CLOSE (R627): Closing the Ethernet connection ends its privileged session. -/
  | hifEthClose
  /-- SESSION_NEW_CHALLENGE (R630): A write of HIF_SESCTL.NEWCHAL draws a 32-byte challenge valid for 30 s. -/
  | sessionNewChallenge (p : Path)
  /-- SESSION_SUBMIT (R630): A write of HIF_SESCTL.GO with LEVEL submits the signature for verification. -/
  | sessionSubmit (p : Path) (level : Nat)
  /-- SESSION_VERIFY_DONE (R630): The signature verification completes and the path's level rises or the attempt fails. -/
  | sessionVerifyDone (p : Path)
  /-- SESSION_CLOSE (R631): A write of HIF_SESCTL.CLOSE ends the path's session. -/
  | sessionClose (p : Path)
  /-- SESSION_IDLE_TIMEOUT (R631): HIF_IDLE without host access ends the path's session. -/
  | sessionIdleTimeout (p : Path)
  /-- SESSION_LOCK_END (R631): 60 s after three failed attempts the path's lock ends. -/
  | sessionLockEnd (p : Path)
  /-- MB_READ_WAYBILL (R635): READ_WAYBILL returns a signed Waybill by kind and SEQ. -/
  | mbReadWaybill
  /-- MB_READ_LOG (R635): READ_LOG returns up to 31 log entries newest first. -/
  | mbReadLog
  /-- MB_READ_PROFILE (R635): READ_PROFILE returns one load profile entry. -/
  | mbReadProfile
  /-- MB_READ_OUTAGE (R635): READ_OUTAGE returns up to 24 outage records newest first. -/
  | mbReadOutage
  /-- MB_WRITE_TABLE (R636): WRITE_TABLE receives tariff section chunks and submits the table on LAST. -/
  | mbWriteTable
  /-- MB_WRITE_FLASH (R636): WRITE_FLASH programs a 256-byte page of an image slot or staging slot. -/
  | mbWriteFlash
  /-- MB_CARD_ACTIVATE (R485): CARD OP 1 activates the presented card at layer 4 and pauses polling. -/
  | mbCardActivate (found : Bool)
  /-- MB_CARD_EXCHANGE (R485): CARD OP 2 exchanges an APDU with the active card. -/
  | mbCardExchange (resp : Option (List Byte))
  /-- MB_CARD_DESELECT (R485): CARD OP 3 deselects the card and resumes polling. -/
  | mbCardDeselect
  /-- MB_REMOTE_ID (R636): REMOTE_ID stores an identifier for 10 s for SES_CTL.REMOTE. -/
  | mbRemoteId
  /-- MB_CREDIT (R635): CREDIT submits a credit transfer and replies after the commit that decides it. -/
  | mbCredit
  /-- ISLAND_FAULT (R644): A class 3 fault holds an island, flushes its Crossings and restarts it or escalates. -/
  | islandFault (i : Island) (cause late : Nat) (save : Option Nat)
  /-- ISLAND_RESTART_DONE (R644): A held island leaves reset and resumes its functions. -/
  | islandRestartDone (i : Island) (bad : Nat)
  /-- BATTERY_ISLAND_RESTART (R219): The Battery island restarts alone, marks the clock lost and jumps to HWS + 1 at its next second. -/
  | batteryIslandRestart
  /-- MODULE_FAULT (R645): A module fault runs the save if possible and resets with code 8. -/
  | moduleFault (i : Island) (cause late : Nat) (save : Option Nat)
  /-- PILOT_WORD_TIMEOUT (R644): 20 ms without a word on X20 makes the Signal Box treat the pilot as not C or D. -/
  | pilotWordTimeout
  /-- SAFETY_STATUS_RECEIVE (R242): A status word from the Signal Box over X03 reaches the Core island, which ends the session on a refusal, passes a trip path test request, or re-sends a disconnect relay close after a stop reaction. -/
  | safetyStatusReceive
  /-- ASSOCIATION_RELEASE (R474): A client releases its DLMS association or closes its TCP connection, ending the association and discarding any staging copy it owns. -/
  | associationRelease (assoc : Nat)
  /-- DISCONNECT_OPEN_TIMEOUT (R235): 5 s after a disconnect request the relay is opened whether or not the session has reduced the current. -/
  | disconnectOpenTimeout
  /-- SO_OUTPUT_OVERCURRENT (R672): An SO output above 6 A limits its current and turns off after 10 ms. -/
  | soOutputOvercurrent (n : Nat)
  /-- VSYS_HEAD_CROSSING (R49): VSYS rising above VSYS_HEAD clears TOK_STAT.VLOW and serves the deferred Token order; falling below it sets VLOW. -/
  | vsysHeadCrossing (mv : Nat)
  /-- PTP_FOLLOW_UP_RECEIVE (R411): A Follow_Up of a two-step master completes the Sync measurement, or in role 2 has the residence time added. -/
  | ptpFollowUpReceive (p dom seq : Nat) (origin corr residence : Int)
  /-- PTP_DELAY_REQ_SEND (R411): The slave sends a Delay_Req under the delay request-response mechanism. -/
  | ptpDelayReqSend (p dom dt : Nat)
  /-- PTP_DELAY_RESP_RECEIVE (R411): A Delay_Resp updates the mean path delay of its domain and port. -/
  | ptpDelayRespReceive (p dom seq : Nat) (received corr : Int)
  /-- PTP_DELAY_REQ_RECEIVE (R411): In role 1 a received Delay_Req is answered with Delay_Resp, or in role 2 has its residence time added. -/
  | ptpDelayReqReceive (p dom seq asker : Nat) (corr residence : Int) (dt : Nat)
  /-- PTP_ANNOUNCE_SEND (R411): In role 1 the module sends Announce at logAnnounceInterval 0 with its clockClass and priorities. -/
  | ptpAnnounceSend
  /-- BUS_OFF_RECOVERY (R420): After 128 occurrences of 11 recessive bits a bus-off CAN FD controller restarts and ETH_CAN.BUSOFF clears. -/
  | busOffRecovery (k : Nat)
  /-- COPY_TOKEN_RETRY (R562): 1 s after a sector Token of kind 8 is refused with TIMEOUT, the update copy asks again. -/
  | copyTokenRetry
  /-- DIE_COOLED_RESTART (R668): After an overtemperature shutdown the die falls below 125 °C and the module starts as from power-good. -/
  | dieCooledRestart
  deriving DecidableEq, Repr

end Sys2Proof
end

