-- ==== Sys2Proof/Machine/Bits.lean ====
section
/-!
DEFINITION. Fields of register words (spec/00_scope.md R11, R13): a field has a place and a width in the word at one
address; reading it gives a number, and writing it leaves every other bit of the word as it was.
-/
namespace Sys2Proof

/-- A named field of a register: the register's host address, the field's lowest bit and its width in bits. -/
structure RegField where
  reg : Nat
  lo : Nat
  width : Nat
  deriving DecidableEq, Repr

namespace Bits

/-- The bits of a field of the given place and width. -/
def mask (lo width : Nat) : Word := BitVec.ofNat 32 ((2 ^ width - 1) <<< lo)

/-- The number a field holds. -/
def get (w : Word) (lo width : Nat) : Nat := (w.toNat >>> lo) % 2 ^ width

/-- The word with the field holding v (its low bits, when v is wider than the field). -/
def put (w : Word) (lo width v : Nat) : Word :=
  (w &&& ~~~(mask lo width)) ||| BitVec.ofNat 32 ((v % 2 ^ width) <<< lo)

/-- One bit of a word. -/
def bit (w : Word) (i : Nat) : Bool := w.getLsbD i

/-- The two's complement number that the low bits of a number spell. -/
def signed (width n : Nat) : Int :=
  let m := n % 2 ^ width
  if m < 2 ^ (width - 1) then (m : Int) else (m : Int) - (2 ^ width : Nat)

/-- The low bits of an integer, in two's complement. -/
def ofInt (width : Nat) (v : Int) : Nat := (v % ((2 ^ width : Nat) : Int)).toNat

/-- A count raised by n and held at its largest value. -/
def satAdd (width c n : Nat) : Nat := min (c + n) (2 ^ width - 1)

/-- The byte of a number at an index, least significant first (R11: little-endian). -/
def byteAt (v i : Nat) : Byte := BitVec.ofNat 8 (v >>> (8 * i))

/-- The first n bytes of a number, least significant first. -/
def leBytes (n v : Nat) : List Byte := (List.range n).map (byteAt v)

/-- The number that bytes spell, least significant first. -/
def ofLeBytes : List Byte → Nat
  | [] => 0
  | b :: bs => b.toNat + 256 * ofLeBytes bs

/-- The number that bytes spell, most significant first. -/
def ofBeBytes (bs : List Byte) : Nat := ofLeBytes bs.reverse

/-- The first n bytes of a number, most significant first. -/
def beBytes (n v : Nat) : List Byte := (leBytes n v).reverse

end Bits
end Sys2Proof
end

