-- ==== Sys2Proof/Machine/Crc.lean ====
section
/-!
DEFINITION. Cyclic redundancy checks: with reflected input and output (spec/07_signal_box.md R260, R263), bit by bit, least significant bit of each
byte first, poly being the polynomial with its bits reversed; and most significant bit first (spec/13_amene_bus.md R432, R440,
spec/15_nfc_service_tag.md R489, spec/23_host_interface.md R623).
-/
namespace Sys2Proof.Crc

/-- One bit shifted out of a reflected register. -/
def bitStep (poly c : Nat) : Nat := if c % 2 = 1 then (c / 2) ^^^ poly else c / 2

/-- One byte taken in. -/
def byteStep (poly c : Nat) (b : Byte) : Nat :=
  let f := bitStep poly
  f (f (f (f (f (f (f (f (c ^^^ b.toNat))))))))

/-- The register after a list of bytes. -/
def run (poly : Nat) : Nat → List Byte → Nat
  | c, [] => c
  | c, b :: bs => run poly (byteStep poly c b) bs

/-- CRC-32 of IEEE 802.3 (R260, R422) from an initial value, with the final XOR. -/
def ieee (init : Nat) (bs : List Byte) : Nat := run 0xEDB88320 init bs ^^^ 0xFFFFFFFF

/-- CRC-32C (R263). -/
def castagnoli (bs : List Byte) : Nat := run 0x82F63B78 0xFFFFFFFF bs ^^^ 0xFFFFFFFF

/-- One bit shifted out of a register of a width, most significant first, with a polynomial. -/
def bitOut (width poly c : Nat) : Nat := if c.testBit (width - 1) then (2 * c % 2 ^ width) ^^^ poly else 2 * c % 2 ^ width

/-- Eight bits shifted out. -/
def byteOut (width poly c : Nat) : Nat :=
  let f := bitOut width poly
  f (f (f (f (f (f (f (f c)))))))

/-- The CRC of bytes, the most significant bit of each first. -/
def msb (width poly init : Nat) (bs : List Byte) : Nat := bs.foldl (fun c b => byteOut width poly (c ^^^ (b.toNat * 2 ^ (width - 8)))) init

/-- CRC-16 with polynomial 0x1021 and initial value 0xFFFF (R440, R489, R623). -/
def ccitt (bs : List Byte) : Nat := msb 16 0x1021 0xFFFF bs

end Sys2Proof.Crc
end

