-- ==== Sys2Proof/Machine/AmeneCode.lean ====
section
/-!
DEFINITION. The signal of an Amene frame (spec/13_amene_bus.md R429 to R435, R440): checks, Reed-Solomon code, scrambler, convolutional
code, interleaver, and the phase of each carrier in each symbol. A phase is a multiple of π/36, from 0 to 71.
-/
namespace Sys2Proof.AmeneCode

/-- HCRC of the header's bits 47 to 8 (R432). -/
def hcrc (hdr : Nat) : Nat := Crc.msb 8 0x07 0 (Bits.beBytes 5 (hdr / 256))

/-- Twice an element of GF(256) (R433). -/
def gfDouble (a : Nat) : Nat := if a < 128 then 2 * a else (2 * a) ^^^ 0x11D

/-- A product in GF(256), by the bits of the second factor. -/
def gfMulN : Nat → Nat → Nat → Nat
  | 0, _, _ => 0
  | n + 1, a, b => (if b % 2 = 1 then a else 0) ^^^ gfMulN n (gfDouble a) (b / 2)

/-- A product in GF(256). -/
def gfMul (a b : Nat) : Nat := gfMulN 8 a b

/-- α to a power, α = 2. -/
def gfPow : Nat → Nat
  | 0 => 1
  | n + 1 => gfDouble (gfPow n)

/-- A polynomial, highest power first, times x − r. -/
def timesRoot (p : List Nat) (r : Nat) : List Nat := List.zipWith (· ^^^ ·) (p ++ [0]) (0 :: p.map (gfMul r))

/-- g(x) of R433 without its leading coefficient, highest power first. -/
def generator : List Nat := ((List.range 16).foldl (fun p i => timesRoot p (gfPow i)) [1]).tail

/-- The remainder register after a byte. -/
def rsStep (g reg : List Nat) (b : Nat) : List Nat :=
  let f := b ^^^ reg.headD 0
  List.zipWith (· ^^^ ·) (reg.tail ++ [0]) (g.map (gfMul f))

/-- The 16 check bytes of an MPDU (R433 step 1). -/
def rsCheck (bs : List Byte) : List Nat := (bs.map BitVec.toNat).foldl (rsStep generator) (List.replicate 16 0)

/-- The bits of a number, most significant first. -/
def bitsOf (width n : Nat) : List Bool := (List.range width).map (fun i => n.testBit (width - 1 - i))

/-- Bits scrambled from a register of 7 bits (R433 step 2). -/
def scramble : Nat → List Bool → List Bool
  | _, [] => []
  | r, b :: bs =>
    let f := r.testBit 6 != r.testBit 3
    (b != f) :: scramble (2 * r % 128 + (if f then 1 else 0)) bs

/-- The parity of a number's low 7 bits. -/
def parity (n : Nat) : Bool := (List.range 7).foldl (fun p i => p != n.testBit i) false

/-- Bits encoded with the generators 133 and 171 from a state (R433 step 3). -/
def convolve : Nat → List Bool → List Bool
  | _, [] => []
  | st, b :: bs =>
    let r := (if b then 64 else 0) + st
    parity (r &&& 0o133) :: parity (r &&& 0o171) :: convolve (r / 2) bs

/-- Bits with the six zero tail bits, encoded from state zero. -/
def coded (bs : List Bool) : List Bool := convolve 0 (bs ++ List.replicate 6 false)

/-- The coded bits of an MPDU: 16 × L + 268 of them. -/
def payloadBits (mpdu : List Byte) : List Bool :=
  coded (scramble 127 (((mpdu.map BitVec.toNat) ++ rsCheck mpdu).flatMap (bitsOf 8)))

/-- The bits per carrier of a MOD (R430). -/
def modBits (mod : Nat) : Nat := min (mod + 1) 3

/-- Δ of a group of bits (R430). -/
def delta (mod group : Nat) : Nat :=
  if mod = 0 then 36 * group
  else if mod = 1 then ([0, 18, 54, 36] : List Nat).getD group 0
  else ([0, 9, 27, 18, 63, 54, 36, 45] : List Nat).getD group 0

/-- The place within a symbol that carries constellation bit b of a carrier (R434). -/
def placeOf (b carrier : Nat) : Nat := 36 * b + ((List.range 36).find? (fun r => (7 * (36 * b + r) + 5 * b) % 36 == carrier)).getD 0

/-- The group of bits that a carrier of payload symbol sym takes (R434); positions past the coded bits are padding zeros. -/
def groupAt (bits : List Bool) (mod nsym sym carrier : Nat) : Nat :=
  (List.range (modBits mod)).foldl (fun g b => 2 * g + (if bits.getD (placeOf b carrier * nsym + sym) false then 1 else 0)) 0

/-- The preamble's phases, with a phase added to each carrier (R431). -/
def preamble (add : Nat) : List Nat := (List.range 36).map (fun k => (k * k + add) % 72)

/-- The next symbol from the last one and the Δ of each carrier (R429). -/
def nextSymbol (last : List Nat) (d : Nat → Nat) : List Nat := (List.range 36).map (fun k => (last.getD k 0 + d k) % 72)

/-- Symbols sent one after the other, each by its Δ, from a reference; the last one first. -/
def symbols (ref : List Nat) (n : Nat) (d : Nat → Nat → Nat) : List (List Nat) :=
  ((List.range n).foldl (fun acc i => nextSymbol (acc.headD ref) (d i) :: acc) [])

/-- Δ of a carrier in a header symbol (R432). -/
def headerDelta (hdr sym carrier : Nat) : Nat := if (coded (bitsOf 48 hdr)).getD (18 * sym + carrier % 18) false then 36 else 0

/-- Every symbol of a frame in the order it is sent: preamble, header, payload. -/
def frame (hdr mod nsym : Nat) (mpdu : List Byte) : List (List Nat) :=
  let head := symbols (preamble 36) 6 (headerDelta hdr)
  let bits := payloadBits mpdu
  let body := symbols (head.headD []) nsym (fun i k => delta mod (groupAt bits mod nsym i k))
  List.replicate 8 (preamble 0) ++ List.replicate 2 (preamble 36) ++ head.reverse ++ body.reverse

/-- S of R435 by span and line frequency. -/
def minSymbols (ilv freq : Nat) : Nat :=
  if ilv = 1 then 25
  else if ilv = 2 then (if freq = 60 then 42 else 50)
  else if ilv = 4 then (if freq = 60 then 84 else 100)
  else (if freq = 60 then 167 else 200)

/-- NSYM of an MPDU of L bytes (R435). -/
def nsymOf (ilv freq mod len : Nat) : Nat := max ((16 * len + 268 + 36 * modBits mod - 1) / (36 * modBits mod)) (minSymbols ilv freq - 16)

/-- The longest MPDU that a frame of NSYM payload symbols holds (R433, R435). -/
def roomOf (mod nsym : Nat) : Nat := min 239 ((36 * modBits mod * nsym - 268) / 16)

/-- The erased payload symbols that a frame survives (R436). -/
def maxErased (nsym : Nat) : Nat := 12 * nsym / 100

end Sys2Proof.AmeneCode
end

