-- ==== Sys2Proof/Config.lean ====
section
/-!
DEFINITION. What the spec leaves open: constants without a body. A statement about them holds whatever they are.
-/
namespace Sys2Proof.Config

/-- A word nothing in the spec gives a value for: the n-th such word of a run (State.free counts them). -/
opaque freeWord : Nat → Word

/-- Whether a quantity that falls between two register values is shown as the upper one: the spec states no rounding. -/
opaque roundUp : Rat → Bool

/-- The reference code expected at a die temperature (R85), from the OTP reference value and the temperature in 0.1 °C. -/
opaque refCode : Int → Int → Rat

/-- ω0 × T / 2 of R75 for a nominal frequency in Hz. -/
opaque coilCoeff : Nat → Rat

/-- The compensating filter behind the coil integrator (R75), applied to the integrator's outputs, newest first. -/
opaque coilComp : List Rat → Rat

/-- The first-order high-pass filter of R104: from its state and a sample, its new state and its output. -/
opaque highPass : Rat → Rat → Rat × Rat

/-- The fractional-delay filter of R106: the delay in seconds and the samples, newest first. -/
opaque fracDelay : Rat → List Rat → Rat

/-- The resonator of R117: from the frequency in mHz, its state and a sample, its new state and the fundamental. -/
opaque resonator : Nat → List Rat → Rat → List Rat × Rat

/-- The shift by a quarter period of R117: from the frequency in mHz and the fundamental's samples, newest first. -/
opaque quarterShift : Nat → List Rat → Rat

/-- The square root of R130 as the engine computes it. -/
opaque engineSqrt : Rat → Rat

/-- 2 to the power of a rational number, of R600. -/
opaque pow2 : Rat → Rat

/-- The MAC address of Ethernet port A or B from OTP (R394), as its 6 bytes in the order they are sent. -/
opaque portMac : Nat → List Byte

/-- Which of several pairs of one post R320 takes, where it orders them by SRC alone: an index into their RunIDs. -/
opaque coordPick : List Nat → Nat

/-- Whether the module of a group address is reached only through another segment (R460). -/
opaque masterElsewhere : Nat → Bool

/-- The module that a master sends a message for a group address to (R451): the master of that module's segment, or the module itself
when it uses only Ethernet. -/
opaque routeOf : Nat → Nat

/-- The phase correction that the PTP engine makes at a Sync of an offset in ns, so that it settles (R414). -/
opaque ptpServo : Int → Int

/-- offsetScaledLogVariance of the module's own Announce messages, which R411 gives no value. -/
opaque ptpVariance : Nat

/-- The current in A that a power request in 0.1 kW asks for while MTR_VDC[0] does not read above 0 (R346 divides by it). -/
opaque zeroVoltCurrent : Nat → Rat

/-- What a cryptographic operation gives (R383): the operation's number, the key and the data. 0 sign P-256, 1 sign P-384, 2 ECDH, 3 SHA-256,
4 SHA-384, 5 HMAC, 6 HKDF, 7 AES-GCM encryption, 8 AES-GCM decryption, 9 public key of a P-256 private key, 10 of a P-384 one. -/
opaque crypto : Nat → List Byte → List Byte → List Byte

/-- Whether a signature verifies: key, message, signature (R383). -/
opaque verifies : List Byte → List Byte → List Byte → Bool

/-- What AES-256-GCM opens (R377, R378): key, nonce, associated data, ciphertext and tag; none when the tag fails. -/
opaque gcmOpen : List Byte → List Byte → List Byte → List Byte → Option (List Byte)

/-- The firmware verification key in OTP (R370, R556): P-384, x then y. -/
opaque otpFirmwareKey : List Byte

/-- The floor of UPD_SVN.MIN in OTP (R567). -/
opaque otpSvnFloor : Nat

end Sys2Proof.Config
end

