-- ==== Sys2Proof/Machine/Exact.lean ====
section
/-!
DEFINITION. Exact quantities turned into register values: the rounding that the spec leaves open is a free choice between the two
neighbours, and an exact integer is itself.
-/
namespace Sys2Proof.Exact

/-- An exact quantity as an integer. -/
def toInt (x : Rat) : Int :=
  let n := x.num / (x.den : Int)
  if x.den = 1 then n else if Config.roundUp x then n + 1 else n

/-- Rounded to the nearest integer, halves away from zero (R155). -/
def nearest (x : Rat) : Int :=
  let a := (2 * (x.num.natAbs) + x.den) / (2 * x.den)
  if 0 ≤ x.num then (a : Int) else -(a : Int)

/-- The largest integer not above a quantity. -/
def floor (x : Rat) : Int := x.num / (x.den : Int)

/-- The absolute value. -/
def abs (x : Rat) : Rat := if 0 ≤ x then x else -x

/-- The sum of a list. -/
def sum (l : List Rat) : Rat := l.foldl (· + ·) 0

/-- The mean of a list over n entries. -/
def mean (l : List Rat) (n : Nat) : Rat := if n = 0 then 0 else sum l / (n : Rat)

/-- The number that an IEEE 754 single-precision word stands for (spec/00_scope.md, type f32); infinities and NaN, which no
parameter range admits, read as 0. -/
def ofF32 (w : Nat) : Rat :=
  let e := (w / 0x800000) % 256
  let m := w % 0x800000
  let v : Rat :=
    if e = 255 then 0
    else if e = 0 then (m : Rat) / ((2 ^ 149 : Nat) : Rat)
    else if 150 ≤ e then (((m + 0x800000) * 2 ^ (e - 150) : Nat) : Rat)
    else ((m + 0x800000 : Nat) : Rat) / ((2 ^ (150 - e) : Nat) : Rat)
  if w / 0x80000000 = 1 then -v else v

end Sys2Proof.Exact
end

