-- ==== Sys2Proof/Machine/StCharging.lean ====
section
/-!
DEFINITION. State of spec/07_signal_box.md to spec/10_charging_session.md that no register holds.
-/
namespace Sys2Proof.Machine

/-! State of spec/07_signal_box.md and spec/08_earth_fault_trip_switching.md that no register holds: input recognition,
discrepancy timers, latched conditions, telegrams, residual-current and insulation monitoring, the trip path, the contactors. -/

/-- What the Signal Box reports to the Core island over X03 (R243, R245, R289, R293). -/
inductive SafReport where
  | cause (n : Nat)
  | ended
  | closed
  | refused (reason : Nat) (cause : Option Nat)
  | opened
  | uncommanded
  | idle
  deriving DecidableEq, Repr

/-- A pair's discrepancy judgement (R250, R251): whether its timer runs, whether its fault stands, whether both channels have since
been recognised open together, and then closed in time. -/
structure PairState where
  timer : Bool
  fault : Bool
  bothOpen : Bool
  cleared : Bool
  deriving DecidableEq, Repr

/-- A receive connection for safe telegrams (R262). last: the last accepted telegram; comparing: its second copy may still come. -/
structure TgConn where
  epoch : Nat
  seq : Nat
  time : Nat
  arrival : Nat
  bytes : List Byte
  net : Nat
  valid : Bool
  comparing : Bool
  lost : Bool
  run : Nat
  deriving DecidableEq, Repr

/-- Residual-current monitoring (R273 to R278): I_Δ in A of the last 1,000 blocks, the blocks of I_Δ since the start, the blocks since a
line of R274 was met, the runs of the saturation and sample checks and which checks have failed, the blocks of
the running self-test, the uptime at the last passed one, and whether one was refused and is asked for again. -/
structure RcmState where
  win : List Rat
  blocks : Nat
  quiet : Nat
  satBad : Nat
  satGood : Nat
  invRun : Nat
  validRun : Nat
  satFail : Bool
  invFail : Bool
  testFail : Bool
  testRun : Nat
  passUp : Option Nat
  again : Bool
  deriving DecidableEq, Repr

/-- Insulation monitoring (R279 to R284): the polarity now injected, the positive half's mean PE voltage in V and DC voltage in V,
whether a contactor has moved in this cycle, the halves since the last cycle judged, whether a cycle has been judged, and whether
the condition of cause IMD stands. -/
structure ImdState where
  positive : Bool
  vPlus : Rat
  vdcPlus : Rat
  fastPlus : Bool
  dirty : Bool
  since : Nat
  judged : Bool
  bad : Bool
  deriving DecidableEq, Repr

/-- The trip path (R285 to R291): comparators that are fired now, whether a test is wanted and whether the Core
island has passed the request on, pairs 0 to 2 that have failed, and whether the last test was passed. -/
structure TripState where
  fired : Nat
  wanted : Bool
  asked : Bool
  badPairs : Nat
  passed : Bool
  deriving DecidableEq, Repr

/-- The Signal Box. MRAM: the confirmation record (check value and CONF_MODE), the telegram epoch. Volatile: the rest. runs: per input,
the level of its last sample and the consecutive samples at that level; seen: inputs recognised by samples since the start; outWait: contactor
outputs are to turn off after CONT_DELAY; relayHeld: the disconnect relay was opened under ESTOP_DISC; close: outputs of a close
request whose feedback is awaited and whether GATE_OFF is to be released. -/
structure SafState where
  record : Option (Nat × Nat)
  runs : List (Bool × Nat)
  seen : Nat
  pairs : List PairState
  inBad : Nat
  tested : Nat
  hold : Bool
  needRst : Bool
  lsBan : Nat
  outWait : Bool
  relayHeld : Bool
  press : Bool
  stuckOut : Bool
  coreSeen : Bool
  metroSeen : Bool
  coreBack : Bool
  metroBack : Bool
  pilot : Nat
  seeds : List (Nat × Nat × Word)
  epoch : Nat
  seq : Nat
  conns : List TgConn
  close : Option (Nat × Bool)
  fbBad : Nat
  fbDis : Nat
  weldCond : Bool
  plausOff : Nat
  plausOver : Nat
  dcLow : Nat
  rcm : RcmState
  imd : ImdState
  trip : TripState
  deriving DecidableEq, Repr

/-- A pair without a fault. -/
def PairState.zero : PairState := ⟨false, false, false, false⟩

/-- A connection that has accepted nothing since the start; its last epoch comes from MRAM. -/
def TgConn.start (epoch : Nat) : TgConn := ⟨epoch, 0, 0, 0, [], 0, false, false, false, 0⟩

/-- Residual-current monitoring at a start. -/
def RcmState.zero : RcmState := ⟨[], 0, 0, 0, 0, 0, 0, false, false, false, 0, none, false⟩

/-- Insulation monitoring at a start. -/
def ImdState.zero : ImdState := ⟨true, 0, 0, false, false, 0, false, false⟩

/-- The trip path at a start. -/
def TripState.zero : TripState := ⟨0, false, false, 0, false⟩

/-- The Signal Box at a start: the safe state is held (R257), every input recognised open (R249). -/
def SafState.start (record : Option (Nat × Nat)) (epoch : Nat) (conns : List TgConn) : SafState :=
  { record := record, runs := List.replicate 8 (false, 0), seen := 0, pairs := List.replicate 4 .zero, inBad := 0, tested := 0, hold := true,
    needRst := false, lsBan := 0, outWait := false, relayHeld := false, press := false, stuckOut := false, coreSeen := false,
    metroSeen := false, coreBack := false, metroBack := false, pilot := 6, seeds := [], epoch := epoch, seq := 0, conns := conns,
    close := none, fbBad := 0, fbDis := 0, weldCond := false, plausOff := 0, plausOver := 0, dcLow := 0,
    rcm := .zero, imd := .zero, trip := .zero }

/-! State of spec/09_vehicle_link.md and spec/12_site_ethernet_time.md that no register holds: the hardware queues, the words the
Vehicle link sends the session, the pilot generator, the SLAC engine and its coordination, proximity. -/

/-- A frame or message in a hardware queue Q00 to Q31. launch: its launch time (R408); tsIns: the byte offset of an inserted time stamp
(R405); stamp: the low part of ST at its reception or, with tsReq, at its transmission (R404), and for a mailbox message the number of its path. -/
structure Frame where
  bytes : List Byte
  launch : Option Nat
  tsIns : Option Nat
  tsReq : Bool
  stamp : Nat
  deriving DecidableEq, Repr

/-- What the Vehicle link tells the session over X05: a pilot state, a proximity code, a link in use (1 Green PHY, 2 T1S), or the
loss of the link. -/
inductive VlReport where
  | pilot (st : Nat)
  | prox (code : Nat)
  | link (kind : Nat)
  | linkFail
  deriving DecidableEq, Repr

/-- A coordination report held (R319): its sender, RunID, ATTEN in 0.1 dB, and CPL_BAGE. -/
structure CoordReport where
  src : Nat
  runId : Nat
  atten : Nat
  bage : Nat
  deriving DecidableEq, Repr

/-- The Vehicle link. mode: 0, or the mode E (4) or F (5) the session has requested; await: constant mode until the session sends a
request after the Signal Box has withdrawn its demand (R304); level: the state the high level maps to; the last proximity band and
how often in a row; a burst that waits for its Token. The SLAC attempt: RunID, vehicle MAC, CPL_BAGE at its first
CM_SLAC_PARM.REQ, the sums of the 58 groups, sounds, repeats of CM_ATTEN_CHAR.IND, whether it validates, whether a window of toggles
is open and their count, the reports held, whether any neighbour has reported, the messages sent, and the key of the match. -/
structure VlState where
  mode : Nat
  await : Bool
  level : Nat
  ppBand : Nat
  ppRun : Nat
  burstWait : Bool
  runId : Nat
  evMac : Nat
  bage : Nat
  groups : List Nat
  sounds : Nat
  repeats : Nat
  validate : Bool
  toggleOpen : Bool
  toggles : Nat
  reports : List CoordReport
  heard : Bool
  sent : Nat
  key : Option (List Word)
  deriving DecidableEq, Repr

/-- The Vehicle link at a start. -/
def VlState.start : VlState :=
  { mode := 0, await := true, level := 5, ppBand := 15, ppRun := 0, burstWait := false, runId := 0, evMac := 0, bage := 0, groups := [],
    sounds := 0, repeats := 0, validate := false, toggleOpen := false, toggles := 0, reports := [], heard := false, sent := 0,
    key := none }

/-! State of spec/10_charging_session.md that no register holds: the session, its authorisation, its limits, and the converters. -/

/-- A word of the session to the Signal Box over X04: a close request with the outputs it names and whether GATE_OFF is to be released, or
an open request. -/
inductive CoreWord where
  | close (outputs : Nat) (release : Bool)
  | openAll
  deriving DecidableEq, Repr

/-- What a CAPAB records (R357). -/
structure ConvCap where
  bidir : Bool
  vmax : Nat
  vmin : Nat
  imax : Nat
  pmax : Nat
  imaxd : Nat
  pmaxd : Nat
  deriving DecidableEq, Repr

/-- A converter (R354, R359): ALIVE of the last SETPT and of the last STATUS, the correct STATUS frames in a row, whether it is healthy,
whether it has been lost, whether the session may use it, its capabilities and its ILIM_NOW. -/
structure ConvNode where
  txAlive : Nat
  rxAlive : Option Nat
  run : Nat
  healthy : Bool
  lost : Bool
  elig : Bool
  cap : Option ConvCap
  ilim : Nat
  deriving DecidableEq, Repr

/-- A converter that has not been heard since the start. -/
def ConvNode.zero : ConvNode := ⟨0, none, 0, false, false, false, none, 0⟩

/-- The charging session. MRAM: counter (R332). Volatile: lastPilot, the pilot state last reported; held, a card presented in state 0; tag of
the last host request; reqId, the identifier that awaits the host; pnc, the EMAID whose chain is being checked, and the verdict; wait, an
acceptance that waits for the relay (R343); justNow, an acceptance of the present 10 ms; the accepted identifier and card; remote, the last
REMOTE_ID and the SYS_UPTIME at its arrival. dc: the vehicle charges with DC; setup, params: its session setup and charge parameters have been exchanged; vmax in 0.1 V, pmax in
0.1 kW, target of pre-charge in 0.1 V; ask, byPower: its request; bidir. iset, ilim in A; steps: the 10 ms steps for which the Token of kind 1
has been held; duty last sent on X06, and the 10 ms steps since its last increase. near: DC values in a row within the tolerance of the cable
check or pre-charge; stage of the cable check: 0 not yet, 1 voltage reached, 2 a cycle runs; preOk: pre-charge complete; drained: the output
has fallen to 60 V; wantClose: a close request waits for its Token of kind 0; openSent; tripped: a stop reaction has opened the contactors;
rnum and gnum of the power-sharing messages; the reason of
the stop under way; conv: the 32 nodes. -/
structure SesState where
  counter : Nat
  lastPilot : Nat
  held : Option (List Byte × Bool)
  tag : Nat
  reqId : List Byte
  pnc : Option (List Byte)
  pncDone : Option Bool
  wait : Option (Nat × List Byte × List Byte)
  justNow : Bool
  authRef : List Byte
  card : List Byte
  remote : Option (List Byte × Nat)
  dc : Bool
  setup : Bool
  params : Bool
  vmax : Nat
  pmax : Option Nat
  target : Nat
  ask : Int
  byPower : Bool
  bidir : Bool
  iset : Rat
  ilim : Rat
  steps : Nat
  duty : Nat
  dutyAge : Nat
  near : Nat
  stage : Nat
  preOk : Bool
  drained : Bool
  wantClose : Bool
  openSent : Bool
  tripped : Bool
  rnum : Nat
  gnum : Nat
  reason : Nat
  refuse : Nat
  conv : List ConvNode
  deriving DecidableEq, Repr

/-- The session at a start. -/
def SesState.start (counter rnum : Nat) : SesState :=
  { counter := counter, lastPilot := 5, held := none, tag := 0, reqId := [], pnc := none, pncDone := none, wait := none, justNow := false,
    authRef := [], card := [], remote := none, dc := false, setup := false, params := false, vmax := 0, pmax := none, target := 0, ask := 0,
    byPower := false, bidir := false, iset := 0, ilim := 0, steps := 0, duty := 0, dutyAge := 500, near := 0, stage := 0, preOk := false,
    drained := false, wantClose := false, openSent := false, tripped := false, rnum := rnum, gnum := 0,
    reason := 0, refuse := 0, conv := List.replicate 32 .zero }

end Sys2Proof.Machine
end

