-- ==== Sys2Proof/Machine/StLinks.lean ====
section
/-!
DEFINITION. State of spec/11_grotto_keys.md to spec/17_lantern_display.md and spec/23_host_interface.md that no register holds.
-/
namespace Sys2Proof.Machine

/-! State of spec/12_site_ethernet_time.md that no register holds: duplicate handling, the group filter, the time-stamp unit and the
PTP engine. -/

/-- A source of the node table (R399): its address and the SEQ values received, each with when (EthState.mono). -/
structure NodeEntry where
  src : List Byte
  seen : List (Nat × Nat)
  deriving DecidableEq, Repr

/-- A two-step Sync that waits for its Follow_Up, or a Delay_Req that waits for its response: sequence number and ST at its stamp. -/
structure PtpWait where
  seq : Nat
  stamp : Int
  deriving DecidableEq, Repr

/-- The engine for one domain on one port (R412, R414). gm: the grandmaster whose Announce messages are present, and its quality as the best
master algorithm orders it; whether the domain time has been set; off: the domain time minus ST; the Syncs in a row within ±1 µs and
beyond ±10 µs; the mean path delay; what waits; last: the last Sync as (stamp, origin and correction); utc: the UTC offset
its Announce messages mark valid. -/
structure PtpPort where
  gm : Option Nat
  rank : List Nat
  set : Bool
  off : Int
  good : Nat
  bad : Nat
  mpd : Nat
  sync : Option PtpWait
  delay : Option PtpWait
  last : Option (Int × Int)
  utc : Option Nat
  deriving DecidableEq, Repr

/-- An engine that has heard nothing. -/
def PtpPort.zero : PtpPort := ⟨none, [], false, 0, 0, 0, 0, none, none, none, none⟩

/-- The Site link island. prpSeq: SEQ of the next frame (R398); nodes; groups: the last 16 SEQ values of each group address (R403); mono: ns
since the start; st: ST; ports: the engine of domain d on port p at 2 × d + p; sel: the selected domain and its port, once one has been
selected; locked: which domains are locked; ptpSeq: the number of the next own PTP message. -/
structure EthState where
  prpSeq : Nat
  nodes : List NodeEntry
  groups : List (Nat × List Nat)
  mono : Nat
  st : Int
  ports : List PtpPort
  sel : Option (Nat × Nat)
  locked : List Bool
  ptpSeq : Nat
  deriving DecidableEq, Repr

/-- The Site link island at a start: ST counts from 0 (R414). -/
def EthState.start : EthState :=
  { prpSeq := 0, nodes := [], groups := [], mono := 0, st := 0, ports := List.replicate 4 .zero, sel := none, locked := [false, false],
    ptpSeq := 0 }

/-! State of spec/13_amene_bus.md that no register holds: the MAC of a master and of a slave, the messages on their way, and the
posts that SITE_MASTER shares power among. -/

/-- An Amene message (R440): MT and body. -/
structure AmbMsg where
  mt : Nat
  body : List Byte
  deriving DecidableEq, Repr

/-- The way a message reached the Core island: from this module's own session, from a node of the bus, or as a site group message of a
service from a group address (R451). -/
inductive SiteVia where
  | own
  | bus (node : Nat)
  | group (svc src : Nat)
  deriving DecidableEq, Repr

/-- A message for the Core island (X11), with the way it came. -/
structure SiteMsg where
  via : SiteVia
  msg : AmbMsg
  deriving DecidableEq, Repr

/-- The Amene MAC. MRAM: hist, a master's classified phase results per node, newest first, five each; miss, the failed slots in a row; reqs,
the RNUM of the last REQ of each group address; granted, the group addresses that a GRANT was passed to. Volatile: pend, messages for a node's
next POLL; acks, JOINACKs for the next POLL; failed, nodes whose slot failed in the last POLL; cyc; polled and slots, the entries of the
last POLL and the slots that still lie open; mod, its entries' MOD; tm; busyLast and idleLast, the node each round-robin named last; zc, the
last ZC edge in µs. A slave: out, messages to send; entries of the last POLL received, rlen; tried, accepted, backoff of joining. -/
structure AmbState where
  hist : List (Nat × List Nat)
  miss : List (Nat × Nat)
  reqs : List (Nat × Nat)
  granted : List Nat
  pend : List (Nat × AmbMsg)
  acks : List AmbMsg
  failed : List Nat
  cyc : Nat
  polled : List (Nat × Nat)
  slots : List Nat
  tm : Nat
  busyLast : Nat
  idleLast : Nat
  zc : Option Nat
  out : List AmbMsg
  entries : List (Nat × Nat)
  rlen : Nat
  rcyc : Nat
  tried : Bool
  accepted : Bool
  backoff : Bool
  deriving DecidableEq, Repr

/-- The MAC at a start, with what MRAM kept. -/
def AmbState.start (hist : List (Nat × List Nat)) (miss reqs : List (Nat × Nat)) (granted : List Nat) : AmbState :=
  { hist := hist, miss := miss, reqs := reqs, granted := granted, pend := [], acks := [], failed := [], cyc := 0, polled := [], slots := [],
    tm := 0, busyLast := 0, idleLast := 0, zc := none, out := [], entries := [], rlen := 0, rcyc := 0, tried := false, accepted := false,
    backoff := false }

/-- A post known to SITE_MASTER (R454): its last REQ (RNUM, P, three-phase, class, ACKG, and how it came), its place in the order of new
requests, the seconds since that REQ, the GNUM last used, the grants sent since the request began, newest first, and the seconds since the
last of them. -/
structure SharePost where
  post : Nat
  rnum : Nat
  p : Int
  three : Bool
  cls : Nat
  ackg : Nat
  via : SiteVia
  order : Nat
  age : Nat
  gnum : Nat
  grants : List (Nat × Int)
  grantAge : Nat
  deriving DecidableEq, Repr

/-! State of spec/14_head_end_dlms.md that no register holds, and the values that the server answers with. -/

/-- A value in a DLMS response: null, a number, an octet string, a scaler and unit, or an object's class, logical name and attribute. -/
inductive DlmVal where
  | null
  | num (v : Int)
  | bytes (b : List Byte)
  | unit (scaler : Int) (name : String)
  | column (cls : Nat) (obis : List Nat) (attr : Nat)
  deriving DecidableEq, Repr

/-- A result of a request (R467, R469, R474, R475). -/
inductive DlmRes where
  | success
  | denied
  | undefinedObject
  | temporary
  | otherReason
  deriving DecidableEq, Repr

/-- One item's answer: a result, and data as rows of values (one row of one value for a simple attribute). -/
structure DlmData where
  result : DlmRes
  rows : List (List DlmVal)
  deriving DecidableEq, Repr

/-- What the server sends on an association: an AARE with its challenge, an AARE that refuses, pass 4 as the request that signs it, an answer to a
SET or ACTION, the data of a GET, a further block of it. -/
inductive DlmOut where
  | accepted (challenge : List Byte)
  | refused
  | pass4 (request : Nat)
  | result (r : DlmRes)
  | data (l : List DlmData)
  | block (n : Nat) (l : List DlmData)
  deriving DecidableEq, Repr

/-- An association (R461, R462, R465): its number, its client (0 Public, 1 Reader, 2 Operator, 3 Owner), whether pass 3 is awaited, both
challenges, and the GET response whose blocks are being read. -/
structure DlmAssoc where
  id : Nat
  client : Nat
  waits : Bool
  challenge : List Byte
  theirs : List Byte
  view : Option (List DlmData)
  deriving DecidableEq, Repr

/-- The server: associations, and the staging copy with its owning association (R474). -/
structure DlmState where
  assocs : List DlmAssoc
  stage : Option (Nat × Tariff)
  deriving DecidableEq, Repr

/-- No association. -/
def DlmState.zero : DlmState := ⟨[], none⟩

/-! State of spec/11_grotto_keys.md and spec/23_host_interface.md that no register holds: keys, commands and requests of the Grotto; the
sessions of the host paths and the mailbox's tables. -/

/-- A command of KEY_CTL.GO as it was written (R377): the words of KEY_CMD and KEY_CMDUSE, KEY_DATA's bytes, and the path's level. -/
structure KeyCmd where
  cmd : Nat
  usage : Nat
  data : List Byte
  level : Nat
  deriving DecidableEq, Repr

/-- A request in the Grotto: whether it came after a command that names its slot or an ancestor and waits for it (R382), and whether its
Token of kind 6 has been asked for (R385). -/
structure CryptoEntry where
  req : CryptoReq
  after : Bool
  asked : Bool
  deriving DecidableEq, Repr

/-- The Grotto. MRAM: keys, the key material of slots that hold some; the rest of a slot's record stands in KEY_SLOT and KEY_SLOTX. Volatile:
commands, the one under way first; requests in order of arrival. -/
structure GrtState where
  keys : List (Nat × List Byte)
  cmds : List KeyCmd
  reqs : List CryptoEntry
  deriving DecidableEq, Repr

/-- The Grotto with some keys. -/
def GrtState.start (keys : List (Nat × List Byte)) : GrtState := ⟨keys, [], []⟩

/-- A host path (R629 to R631): whether a privileged session is open, when its challenge was
drawn (SYS_UPTIME) unless an attempt has used it, the attempt being verified (level, message, signature), when attempts have failed (SYS_UPTIME), and whether attempts are locked. -/
structure HifPath where
  sess : Bool
  chal : Option Nat
  verify : Option (Nat × List Byte × List Byte)
  fails : List Nat
  locked : Bool
  deriving DecidableEq, Repr

/-- A path without a session. -/
def HifPath.zero : HifPath := ⟨false, none, none, [], false⟩

/-- The mailbox (R635 to R637): the chunks of WRITE_TABLE received, and the CREDIT requests whose commit is awaited (path, TAG, transfer
number and amount); irq, the interrupt sources last found in force (R639). -/
structure MailState where
  table : List Byte
  credits : List (Path × Nat × Nat × Int)
  irq : Nat
  deriving DecidableEq, Repr

/-- An empty mailbox. -/
def MailState.zero : MailState := ⟨[], [], 0⟩

/-! State of the Service island that no register holds (spec/15_nfc_service_tag.md to spec/17_lantern_display.md). -/

/-- The load switches. cmds: the last command of each channel from X14; asks: channels whose refused Token is asked for again after 1 s;
lowOpen: channels whose low-side switch is found open; turns: channels that wait
for their turn in limp-home, in order; silent: no word on X14 for LIMP_TO. -/
structure LswState where
  cmds : List Bool
  asks : List Nat
  lowOpen : List Nat
  turns : List Nat
  silent : Bool
  deriving DecidableEq, Repr

/-- The load switches before the first start. -/
def LswState.zero : LswState := ⟨List.replicate 12 false, [], [], [], false⟩

/-- The Lantern. holdEnd: the SYS_UPTIME that the page is held to (R531); confirmed: the value shown after a confirmation (R524); crc: the
Service island's copy of SAF_CRC taken at start (R530); shown: the first image has been shown; runs: per output (bit of LCD_FAIL) frames
in a row that missed the window, and good ones; duty: the backlight's duties of red, green and blue (R529). -/
structure LcdState where
  holdEnd : Nat
  confirmed : Option Nat
  crc : Nat
  shown : Bool
  runs : List (Nat × Nat × Nat)
  duty : List Nat
  deriving DecidableEq, Repr

/-- The Lantern before the first start. -/
def LcdState.zero : LcdState := ⟨0, none, 0, false, [], [0, 0, 0]⟩

/-- One copy of a notes page (R489): 32 bytes, its generation, its CRC. -/
structure NoteCopy where
  data : List Byte
  gen : Nat
  crc : Nat
  deriving DecidableEq, Repr

/-- Reader and tag. MRAM: the local list (R486), the snapshot areas of the tag memory as last written (R487, bytes 0x0000 to 0x0AFF), the
two copies of each notes page. Volatile: the UIDs of the last 3 polls, newest first (R483); the card active at layer 4 (R485); a
snapshot that waits for a transaction's end (R488); whether the service AID is selected; host writes queued (R495), page and data; the
seconds of field in outage used on a billing-clock day (R492); whether the field is ignored (R492) or a field is present. -/
structure NfcState where
  list : List (List Byte)
  snap : List Byte
  notes : List (NoteCopy × NoteCopy)
  recent : List (List (List Byte))
  card : Option (List Byte)
  snapDue : Bool
  selected : Bool
  queued : List (Nat × List Byte)
  day : Nat
  used : Nat
  deaf : Bool
  field : Bool
  deriving DecidableEq, Repr

/-- The check of a copy (R489): over its data and its generation. -/
def NoteCopy.sum (data : List Byte) (gen : Nat) : Nat := Crc.ccitt (data ++ Bits.leBytes 1 gen)

/-- A notes page that nothing has written: copy A holds zeros, copy B does not check. -/
def NoteCopy.blank : NoteCopy × NoteCopy :=
  let z := List.replicate 32 (0 : Byte)
  (⟨z, 0, NoteCopy.sum z 0⟩, ⟨z, 0, NoteCopy.sum z 0 + 1⟩)

/-- Reader and tag before the first start. -/
def NfcState.zero : NfcState :=
  { list := [], snap := List.replicate 0xB00 0, notes := List.replicate 32 NoteCopy.blank, recent := [], card := none, snapDue := false,
    selected := false, queued := [], day := 0, used := 0, deaf := false, field := false }

end Sys2Proof.Machine
end

