-- ==== Sys2Proof/Machine/Output.lean ====
section
/-!
DEFINITION. What the module puts out, newest first in State.out.
-/
namespace Sys2Proof.Machine

/-- A PTP message the module sends on a port (R411), times and corrections in ns. forward: a message that a transparent clock passes on, its
type as sync 0, delay request 1, follow up 8, with the residence time added. -/
inductive PtpOut where
  | sync (dom seq : Nat) (origin : Int)
  | delayReq (dom seq : Nat)
  | delayResp (dom seq asker : Nat) (received : Int)
  | announce (dom seq prio1 clockClass accuracy prio2 : Nat)
  | forward (type dom seq : Nat) (correction : Int)
  deriving DecidableEq, Repr

/-- A response code of the session to the vehicle (R335 to R337). -/
inductive AppCode where
  | ok
  | ongoing
  | failed
  | noNegotiation
  deriving DecidableEq, Repr

/-- A response to an application message: its code, the protocol in use, whether it warns of the insulation (R347), whether it tells the vehicle
of a stop (R361), the limits reported (R344: current in 0.1 A, power in 0.1 kW, voltage in 0.1 V, discharge offered), and MeterInfo (R336:
METER_ID and Wh). -/
structure AppOut where
  code : AppCode
  proto : Nat
  warning : Bool
  stop : Bool
  limits : Option (Nat × Nat × Nat × Bool)
  meter : Option (Nat × Nat)
  deriving DecidableEq, Repr

/-- A SLAC message the module sends (R316 to R318, R321). -/
inductive SlacOut where
  | parmCnf (runId mac sounds timeout resp : Nat)
  | attenChar (runId atten : Nat)
  | validateCnf (window : Nat)
  | matchCnf (runId mac : Nat) (key : List Word)
  deriving DecidableEq, Repr

inductive Output where
  | slac (m : SlacOut)
  | burst (full : Bool) (frames : List Frame)
  | hostStatus (p : Path) (status : Nat)
  | xingWord (x : Nat) (w : Word64)
  | hostData (p : Path) (words : List Word)
  | hostMail (p : Path) (bytes : List Byte)
  | pointsStatus (engine : Nat)
  | eth (port : Nat) (bytes : List Byte) (stamp : Option Nat)
  | supervision (port : Nat)
  | ptp (port : Nat) (m : PtpOut)
  | pps
  | app (r : AppOut)
  | secc
  | crypto (id result : Nat) (data : List Byte)
  | dlms (assoc : Nat) (m : DlmOut)
  | apdu (bytes : List Byte)
  | tag (bytes : List Byte)
  | can (port id : Nat) (bytes : List Byte)
  | amene (full : Bool) (hdr : Nat) (mpdu : List Byte) (phases : List (List Nat))
  deriving DecidableEq, Repr

end Sys2Proof.Machine
end

