-- ==== Sys2Proof/Machine/ParamMap.lean ====
section
/-!
DEFINITION. The parameters of the module (spec/00_scope.md R16 to R19 and the parameter tables of every chapter): a name for
each parameter (Sys2Proof.Par), and the table of type, width, range, default, layer and time of application
(ParamMap.rowsOf). A parameter is numbered 1,000 times its block byte (R538) plus its three decimal digits (R16).
-/
namespace Sys2Proof.Par

/-- TTB.001–TTB.009 FAB_BUD[0–8], 01_architecture.md. -/
abbrev FAB_BUD (i : Nat) : Nat := 1001 + i
/-- TTB.011–TTB.019 CRY_BUD[0–8], 01_architecture.md. -/
abbrev CRY_BUD (i : Nat) : Nat := 1011 + i
/-- TTB.021–TTB.029 MRW_BUD[0–8], 01_architecture.md. -/
abbrev MRW_BUD (i : Nat) : Nat := 1021 + i
/-- TOK.101 LOGIC_BUDGET, 01_architecture.md. -/
abbrev LOGIC_BUDGET : Nat := 1101
/-- TOK.102 VSYS_HEAD, 01_architecture.md. -/
abbrev VSYS_HEAD : Nat := 1102
/-- TOK.103 INRUSH_BUDGET, 01_architecture.md. -/
abbrev INRUSH_BUDGET : Nat := 1103
/-- AFE.001–AFE.006 IRANGE[0–5], 02_metrology_frontend.md. -/
abbrev IRANGE (i : Nat) : Nat := 8001 + i
/-- AFE.011–AFE.016 ISENSOR[0–5], 02_metrology_frontend.md. -/
abbrev ISENSOR (i : Nat) : Nat := 8011 + i
/-- AFE.021 NOMFREQ, 02_metrology_frontend.md. -/
abbrev NOMFREQ : Nat := 8021
/-- AFE.031–AFE.035 VUSED[6–10], 02_metrology_frontend.md. -/
abbrev VUSED (i : Nat) : Nat := 8031 + (i - 6)
/-- AFE.041 GAIN_WARN, 02_metrology_frontend.md. -/
abbrev GAIN_WARN : Nat := 8041
/-- AFE.042 GAIN_FAULT, 02_metrology_frontend.md. -/
abbrev GAIN_FAULT : Nat := 8042
/-- AFE.043 OFS_WARN, 02_metrology_frontend.md. -/
abbrev OFS_WARN : Nat := 8043
/-- AFE.044 OFS_FAULT, 02_metrology_frontend.md. -/
abbrev OFS_FAULT : Nat := 8044
/-- AFE.045 MATCH_LIM, 02_metrology_frontend.md. -/
abbrev MATCH_LIM : Nat := 8045
/-- AFE.046 STEP_LIM, 02_metrology_frontend.md. -/
abbrev STEP_LIM : Nat := 8046
/-- AFE.101–AFE.110 MOD_ROLE[0–9], 02_metrology_frontend.md. -/
abbrev MOD_ROLE (i : Nat) : Nat := 8101 + i
/-- AFE.111–AFE.120 MOD_VFS[0–9], 02_metrology_frontend.md. -/
abbrev MOD_VFS (i : Nat) : Nat := 8111 + i
/-- AFE.121 MOD_EDGE, 02_metrology_frontend.md. -/
abbrev MOD_EDGE : Nat := 8121
/-- MTR.001–MTR.006 IRATIO[0–5], 03_metrology_engine.md. -/
abbrev IRATIO (i : Nat) : Nat := 9001 + i
/-- MTR.011–MTR.016 IMAX[0–5], 03_metrology_engine.md. -/
abbrev IMAX (i : Nat) : Nat := 9011 + i
/-- MTR.021–MTR.025 VRATIO[6–10], 03_metrology_engine.md. -/
abbrev VRATIO (i : Nat) : Nat := 9021 + (i - 6)
/-- MTR.031 UNOM, 03_metrology_engine.md. -/
abbrev UNOM : Nat := 9031
/-- MTR.032 VDCNOM, 03_metrology_engine.md. -/
abbrev VDCNOM : Nat := 9032
/-- MTR.041 SUMMODE, 03_metrology_engine.md. -/
abbrev SUMMODE : Nat := 9041
/-- MTR.042 DCPAIR, 03_metrology_engine.md. -/
abbrev DCPAIR : Nat := 9042
/-- MTR.043 CREEP, 03_metrology_engine.md. -/
abbrev CREEP : Nat := 9043
/-- MTR.044 NEUT_LIM, 03_metrology_engine.md. -/
abbrev NEUT_LIM : Nat := 9044
/-- MTR.051–MTR.054 HPF[0–3], 03_metrology_engine.md. -/
abbrev HPF (i : Nat) : Nat := 9051 + i
/-- MTR.061–MTR.062 CABLE_R[0–1], 03_metrology_engine.md. -/
abbrev CABLE_R (i : Nat) : Nat := 9061 + i
/-- MTR.101–MTR.111 UGAIN[0–10], 03_metrology_engine.md. -/
abbrev UGAIN (i : Nat) : Nat := 9101 + i
/-- MTR.121–MTR.131 UOFS[0–10], 03_metrology_engine.md. -/
abbrev UOFS (i : Nat) : Nat := 9121 + i
/-- MTR.141–MTR.143 UPHASE[0–2], 03_metrology_engine.md. -/
abbrev UPHASE (i : Nat) : Nat := 9141 + i
/-- MTR.201–MTR.296 USGAIN[0–5][0–15], 03_metrology_engine.md. -/
abbrev USGAIN (i k : Nat) : Nat := 9201 + 16 * i + k
/-- MTR.301–MTR.348 USPHASE[0–2][0–15], 03_metrology_engine.md. -/
abbrev USPHASE (i k : Nat) : Nat := 9301 + 16 * i + k
/-- MTR.401–MTR.411 FGAIN[0–10], 03_metrology_engine.md. -/
abbrev FGAIN (i : Nat) : Nat := 9401 + i
/-- MTR.421–MTR.431 FOFS[0–10], 03_metrology_engine.md. -/
abbrev FOFS (i : Nat) : Nat := 9421 + i
/-- MTR.441–MTR.443 FPHASE[0–2], 03_metrology_engine.md. -/
abbrev FPHASE (i : Nat) : Nat := 9441 + i
/-- MTR.501–MTR.596 FSGAIN[0–5][0–15], 03_metrology_engine.md. -/
abbrev FSGAIN (i k : Nat) : Nat := 9501 + 16 * i + k
/-- MTR.601–MTR.648 FSPHASE[0–2][0–15], 03_metrology_engine.md. -/
abbrev FSPHASE (i k : Nat) : Nat := 9601 + 16 * i + k
/-- PTS.001 CMP_TOL, 04_points_redundancy.md. -/
abbrev CMP_TOL : Nat := 10001
/-- PTS.002 CMP_REL, 04_points_redundancy.md. -/
abbrev CMP_REL : Nat := 10002
/-- PTS.003 REF_TOL, 04_points_redundancy.md. -/
abbrev REF_TOL : Nat := 10003
/-- PTS.004 WARMUP, 04_points_redundancy.md. -/
abbrev WARMUP : Nat := 10004
/-- PTS.005 SELFTEST_PER, 04_points_redundancy.md. -/
abbrev SELFTEST_PER : Nat := 10005
/-- PTS.006 TRIAL_MAX, 04_points_redundancy.md. -/
abbrev TRIAL_MAX : Nat := 10006
/-- BIL.001 LP1_PER, 05_billing_registers.md. -/
abbrev LP1_PER : Nat := 11001
/-- BIL.002 WB_INTERVAL, 05_billing_registers.md. -/
abbrev WB_INTERVAL : Nat := 11002
/-- BIL.003 WB_SIGALG, 05_billing_registers.md. -/
abbrev WB_SIGALG : Nat := 11003
/-- BIL.004 WB_KEYSLOT, 05_billing_registers.md. -/
abbrev WB_KEYSLOT : Nat := 11004
/-- BIL.011–BIL.026 LP1_CAP[0–15], 05_billing_registers.md. -/
abbrev LP1_CAP (i : Nat) : Nat := 11011 + i
/-- BIL.031–BIL.062 LP2_CAP[0–31], 05_billing_registers.md. -/
abbrev LP2_CAP (i : Nat) : Nat := 11031 + i
/-- BIL.071 DMD_PER, 05_billing_registers.md. -/
abbrev DMD_PER : Nat := 11071
/-- BIL.072 DMD_SUB, 05_billing_registers.md. -/
abbrev DMD_SUB : Nat := 11072
/-- BIL.073 BILLDAY, 05_billing_registers.md. -/
abbrev BILLDAY : Nat := 11073
/-- BIL.081 PREPAY_EN, 05_billing_registers.md. -/
abbrev PREPAY_EN : Nat := 11081
/-- BIL.082 PREPAY_QTY, 05_billing_registers.md. -/
abbrev PREPAY_QTY : Nat := 11082
/-- BIL.083 LOW_CREDIT, 05_billing_registers.md. -/
abbrev LOW_CREDIT : Nat := 11083
/-- BIL.084 EMERG_CREDIT, 05_billing_registers.md. -/
abbrev EMERG_CREDIT : Nat := 11084
/-- BIL.085 RECONNECT, 05_billing_registers.md. -/
abbrev RECONNECT : Nat := 11085
/-- BIL.091–BIL.106 PRICE[1–16], 05_billing_registers.md. -/
abbrev PRICE (i : Nat) : Nat := 11091 + (i - 1)
/-- BTM.001 TZ_OFFSET, 06_billing_time_events.md. -/
abbrev TZ_OFFSET : Nat := 12001
/-- BTM.002 DST_EN, 06_billing_time_events.md. -/
abbrev DST_EN : Nat := 12002
/-- BTM.003 DST_DEV, 06_billing_time_events.md. -/
abbrev DST_DEV : Nat := 12003
/-- BTM.004 DST_START, 06_billing_time_events.md. -/
abbrev DST_START : Nat := 12004
/-- BTM.005 DST_END, 06_billing_time_events.md. -/
abbrev DST_END : Nat := 12005
/-- BTM.011 ADJ_LIM, 06_billing_time_events.md. -/
abbrev ADJ_LIM : Nat := 12011
/-- BTM.012 BACK_MAX, 06_billing_time_events.md. -/
abbrev BACK_MAX : Nat := 12012
/-- BTM.013 PTP_DISC, 06_billing_time_events.md. -/
abbrev PTP_DISC : Nat := 12013
/-- BTM.014 INVCLK_RATE, 06_billing_time_events.md. -/
abbrev INVCLK_RATE : Nat := 12014
/-- BTM.021 OUT_EN, 06_billing_time_events.md. -/
abbrev OUT_EN : Nat := 12021
/-- BTM.022 OUT_ITHR, 06_billing_time_events.md. -/
abbrev OUT_ITHR : Nat := 12022
/-- BTM.023–BTM.024 TAMP_EN[0–1], 06_billing_time_events.md. -/
abbrev TAMP_EN (i : Nat) : Nat := 12023 + i
/-- BIL.111 DISC_MODE, 06_billing_time_events.md. -/
abbrev DISC_MODE : Nat := 11111
/-- BIL.113 DISC_ON_TAMP, 06_billing_time_events.md. -/
abbrev DISC_ON_TAMP : Nat := 11113
/-- SAF.001 CONF_MODE, 07_signal_box.md. -/
abbrev CONF_MODE : Nat := 13001
/-- SAF.002 DISCREP_T, 07_signal_box.md. -/
abbrev DISCREP_T : Nat := 13002
/-- SAF.003 OFFPULSE_W, 07_signal_box.md. -/
abbrev OFFPULSE_W : Nat := 13003
/-- SAF.004 START_RST, 07_signal_box.md. -/
abbrev START_RST : Nat := 13004
/-- SAF.005 CONT_DELAY, 07_signal_box.md. -/
abbrev CONT_DELAY : Nat := 13005
/-- SAF.006 CORE_TO, 07_signal_box.md. -/
abbrev CORE_TO : Nat := 13006
/-- SAF.011–SAF.014 SO_FUNC[0–3], 07_signal_box.md. -/
abbrev SO_FUNC (i : Nat) : Nat := 13011 + i
/-- SAF.021–SAF.022 PAIR_FUNC[2–3], 07_signal_box.md. -/
abbrev PAIR_FUNC (i : Nat) : Nat := 13021 + (i - 2)
/-- SAF.031 LS_KEEP, 07_signal_box.md. -/
abbrev LS_KEEP : Nat := 13031
/-- SAF.032 ESTOP_DISC, 07_signal_box.md. -/
abbrev ESTOP_DISC : Nat := 13032
/-- SAF.033 PLAUS_I, 07_signal_box.md. -/
abbrev PLAUS_I : Nat := 13033
/-- SAF.041 TG_ADDR, 07_signal_box.md. -/
abbrev TG_ADDR : Nat := 13041
/-- SAF.042 TG_PER, 07_signal_box.md. -/
abbrev TG_PER : Nat := 13042
/-- SAF.043 TG_KEYSLOT, 07_signal_box.md. -/
abbrev TG_KEYSLOT : Nat := 13043
/-- SAF.051–SAF.058 TG_SRC[0–7], 07_signal_box.md. -/
abbrev TG_SRC (i : Nat) : Nat := 13051 + i
/-- SAF.061–SAF.068 TG_REACT[0–7], 07_signal_box.md. -/
abbrev TG_REACT (i : Nat) : Nat := 13061 + i
/-- EFT.001 RCM_EN, 08_earth_fault_trip_switching.md. -/
abbrev RCM_EN : Nat := 14001
/-- EFT.002 RCM_AC_EN, 08_earth_fault_trip_switching.md. -/
abbrev RCM_AC_EN : Nat := 14002
/-- EFT.003 RCM_TURNS, 08_earth_fault_trip_switching.md. -/
abbrev RCM_TURNS : Nat := 14003
/-- EFT.004 RCM_RS, 08_earth_fault_trip_switching.md. -/
abbrev RCM_RS : Nat := 14004
/-- EFT.005 RCM_TEST_PER, 08_earth_fault_trip_switching.md. -/
abbrev RCM_TEST_PER : Nat := 14005
/-- EFT.011 IMD_EN, 08_earth_fault_trip_switching.md. -/
abbrev IMD_EN : Nat := 14011
/-- EFT.012 IMD_RC, 08_earth_fault_trip_switching.md. -/
abbrev IMD_RC : Nat := 14012
/-- EFT.013 IMD_DIV, 08_earth_fault_trip_switching.md. -/
abbrev IMD_DIV : Nat := 14013
/-- EFT.014 IMD_CYCLE, 08_earth_fault_trip_switching.md. -/
abbrev IMD_CYCLE : Nat := 14014
/-- EFT.015 IMD_WARN, 08_earth_fault_trip_switching.md. -/
abbrev IMD_WARN : Nat := 14015
/-- EFT.016 IMD_FAULT, 08_earth_fault_trip_switching.md. -/
abbrev IMD_FAULT : Nat := 14016
/-- EFT.021–EFT.024 TRIP_LVL[0–3], 08_earth_fault_trip_switching.md. -/
abbrev TRIP_LVL (i : Nat) : Nat := 14021 + i
/-- EFT.025–EFT.028 TRIP_EN[0–3], 08_earth_fault_trip_switching.md. -/
abbrev TRIP_EN (i : Nat) : Nat := 14025 + i
/-- EFT.029 TRIP_TEST_PER, 08_earth_fault_trip_switching.md. -/
abbrev TRIP_TEST_PER : Nat := 14029
/-- SWC.001–SWC.004 CONT_FB_T[0–3], 08_earth_fault_trip_switching.md. -/
abbrev CONT_FB_T (i : Nat) : Nat := 15001 + i
/-- SWC.011–SWC.014 CONT_FB_POL[0–3], 08_earth_fault_trip_switching.md. -/
abbrev CONT_FB_POL (i : Nat) : Nat := 15011 + i
/-- SWC.021 WELD_ROLE, 08_earth_fault_trip_switching.md. -/
abbrev WELD_ROLE : Nat := 15021
/-- SWC.022 WELD_VLIM, 08_earth_fault_trip_switching.md. -/
abbrev WELD_VLIM : Nat := 15022
/-- SWC.023 WELD_T, 08_earth_fault_trip_switching.md. -/
abbrev WELD_T : Nat := 15023
/-- SWC.024 WELD_OUT, 08_earth_fault_trip_switching.md. -/
abbrev WELD_OUT : Nat := 15024
/-- SWC.031 DISC_FB_T, 08_earth_fault_trip_switching.md. -/
abbrev DISC_FB_T : Nat := 15031
/-- SWC.032 DISC_FB_POL, 08_earth_fault_trip_switching.md. -/
abbrev DISC_FB_POL : Nat := 15032
/-- CPL.001 PP_MODE, 09_vehicle_link.md. -/
abbrev PP_MODE : Nat := 16001
/-- VPL.001 VL_MODE, 09_vehicle_link.md. -/
abbrev VL_MODE : Nat := 17001
/-- VPL.002 GP_TXLVL, 09_vehicle_link.md. -/
abbrev GP_TXLVL : Nat := 17002
/-- VPL.003 T1S_LINK_T, 09_vehicle_link.md. -/
abbrev T1S_LINK_T : Nat := 17003
/-- VPL.011 SLAC_INIT_T, 09_vehicle_link.md. -/
abbrev SLAC_INIT_T : Nat := 17011
/-- VPL.012 SLAC_MIN_SOUNDS, 09_vehicle_link.md. -/
abbrev SLAC_MIN_SOUNDS : Nat := 17012
/-- VPL.013 SLAC_ATT_MAX, 09_vehicle_link.md. -/
abbrev SLAC_ATT_MAX : Nat := 17013
/-- VPL.021 SLAC_COORD, 09_vehicle_link.md. -/
abbrev SLAC_COORD : Nat := 17021
/-- VPL.022 SLAC_COORD_T, 09_vehicle_link.md. -/
abbrev SLAC_COORD_T : Nat := 17022
/-- VPL.023 SLAC_TIE, 09_vehicle_link.md. -/
abbrev SLAC_TIE : Nat := 17023
/-- VPL.024 SLAC_VALIDATE, 09_vehicle_link.md. -/
abbrev SLAC_VALIDATE : Nat := 17024
/-- VPL.031–VPL.038 SLAC_NB[0–7], 09_vehicle_link.md. -/
abbrev SLAC_NB (i : Nat) : Nat := 17031 + i
/-- SES.001 PROTO_EN, 10_charging_session.md. -/
abbrev PROTO_EN : Nat := 18001
/-- SES.002 PROTO_PRIO, 10_charging_session.md. -/
abbrev PROTO_PRIO : Nat := 18002
/-- SES.003 TLS2_EIM, 10_charging_session.md. -/
abbrev TLS2_EIM : Nat := 18003
/-- SES.011 AUTH_EN, 10_charging_session.md. -/
abbrev AUTH_EN : Nat := 18011
/-- SES.012 AUTH_WAIT_T, 10_charging_session.md. -/
abbrev AUTH_WAIT_T : Nat := 18012
/-- SES.013 AUTH_PRE_T, 10_charging_session.md. -/
abbrev AUTH_PRE_T : Nat := 18013
/-- SES.014 HOST_TO, 10_charging_session.md. -/
abbrev HOST_TO : Nat := 18014
/-- SES.021 EVSE_IMAX_AC, 10_charging_session.md. -/
abbrev EVSE_IMAX_AC : Nat := 18021
/-- SES.022 EVSE_IMAX_DC, 10_charging_session.md. -/
abbrev EVSE_IMAX_DC : Nat := 18022
/-- SES.023 EVSE_VMAX_DC, 10_charging_session.md. -/
abbrev EVSE_VMAX_DC : Nat := 18023
/-- SES.024 EVSE_PMAX, 10_charging_session.md. -/
abbrev EVSE_PMAX : Nat := 18024
/-- SES.025 RAMP_UP, 10_charging_session.md. -/
abbrev RAMP_UP : Nat := 18025
/-- SES.026 RAMP_DOWN, 10_charging_session.md. -/
abbrev RAMP_DOWN : Nat := 18026
/-- SES.027 STOP_T, 10_charging_session.md. -/
abbrev STOP_T : Nat := 18027
/-- SES.028 DISCH_EN, 10_charging_session.md. -/
abbrev DISCH_EN : Nat := 18028
/-- SES.031 CC_MAX_T, 10_charging_session.md. -/
abbrev CC_MAX_T : Nat := 18031
/-- SES.032 PRECH_TOL, 10_charging_session.md. -/
abbrev PRECH_TOL : Nat := 18032
/-- SES.033 PRECH_MAX_T, 10_charging_session.md. -/
abbrev PRECH_MAX_T : Nat := 18033
/-- SES.041 SITE_EN, 10_charging_session.md. -/
abbrev SITE_EN : Nat := 18041
/-- SES.042 SITE_FLOOR, 10_charging_session.md. -/
abbrev SITE_FLOOR : Nat := 18042
/-- SES.051 CONV_USE, 10_charging_session.md. -/
abbrev CONV_USE : Nat := 18051
/-- SES.052 CONV_PORT, 10_charging_session.md. -/
abbrev CONV_PORT : Nat := 18052
/-- SES.053 CAN_DRATE, 10_charging_session.md. -/
abbrev CAN_DRATE : Nat := 18053
/-- KEY.001 PUF_MOVE, 11_grotto_keys.md. -/
abbrev PUF_MOVE : Nat := 24001
/-- KEY.011 CLEAR_EN, 11_grotto_keys.md. -/
abbrev CLEAR_EN : Nat := 24011
/-- KEY.012 WB_AUTOGEN, 11_grotto_keys.md. -/
abbrev WB_AUTOGEN : Nat := 24012
/-- ETH.001 ETH_TOPO, 12_site_ethernet_time.md. -/
abbrev ETH_TOPO : Nat := 19001
/-- ETH.002–ETH.003 SPEED[0–1], 12_site_ethernet_time.md. -/
abbrev SPEED (i : Nat) : Nat := 19002 + i
/-- ETH.004 ETH_VID, 12_site_ethernet_time.md. -/
abbrev ETH_VID : Nat := 19004
/-- ETH.005 STG_PCP, 12_site_ethernet_time.md. -/
abbrev STG_PCP : Nat := 19005
/-- ETH.006 LATE_MODE, 12_site_ethernet_time.md. -/
abbrev LATE_MODE : Nat := 19006
/-- ETH.011 GRP_ADDR, 12_site_ethernet_time.md. -/
abbrev GRP_ADDR : Nat := 19011
/-- ETH.021–ETH.022 PHY_TXLAT[0–1], 12_site_ethernet_time.md. -/
abbrev PHY_TXLAT (i : Nat) : Nat := 19021 + i
/-- ETH.023–ETH.024 PHY_RXLAT[0–1], 12_site_ethernet_time.md. -/
abbrev PHY_RXLAT (i : Nat) : Nat := 19023 + i
/-- PTP.001 PTP_ROLE, 12_site_ethernet_time.md. -/
abbrev PTP_ROLE : Nat := 20001
/-- PTP.002 PTP_TRANSPORT, 12_site_ethernet_time.md. -/
abbrev PTP_TRANSPORT : Nat := 20002
/-- PTP.003–PTP.004 PTP_DOM[0–1], 12_site_ethernet_time.md. -/
abbrev PTP_DOM (i : Nat) : Nat := 20003 + i
/-- PTP.005 PTP_PREF, 12_site_ethernet_time.md. -/
abbrev PTP_PREF : Nat := 20005
/-- PTP.006 PTP_REVERT, 12_site_ethernet_time.md. -/
abbrev PTP_REVERT : Nat := 20006
/-- PTP.007 REVERT_T, 12_site_ethernet_time.md. -/
abbrev REVERT_T : Nat := 20007
/-- PTP.008 SW_SLEW, 12_site_ethernet_time.md. -/
abbrev SW_SLEW : Nat := 20008
/-- PTP.009 STEPMAX, 12_site_ethernet_time.md. -/
abbrev STEPMAX : Nat := 20009
/-- PTP.010 PRIO1, 12_site_ethernet_time.md. -/
abbrev PRIO1 : Nat := 20010
/-- PTP.011 PTP_UTCOFS, 12_site_ethernet_time.md. -/
abbrev PTP_UTCOFS : Nat := 20011
/-- AMB.001 AMB_ROLE, 13_amene_bus.md. -/
abbrev AMB_ROLE : Nat := 22001
/-- AMB.002 AMB_SEG, 13_amene_bus.md. -/
abbrev AMB_SEG : Nat := 22002
/-- AMB.003 AMB_NODE, 13_amene_bus.md. -/
abbrev AMB_NODE : Nat := 22003
/-- AMB.004 AMB_MPHASE, 13_amene_bus.md. -/
abbrev AMB_MPHASE : Nat := 22004
/-- AMB.005 AMB_ILV, 13_amene_bus.md. -/
abbrev AMB_ILV : Nat := 22005
/-- AMB.006 AMB_TXLVL, 13_amene_bus.md. -/
abbrev AMB_TXLVL : Nat := 22006
/-- AMB.007 ZC_DLY, 13_amene_bus.md. -/
abbrev ZC_DLY : Nat := 22007
/-- AMB.011 AMB_NPOLL, 13_amene_bus.md. -/
abbrev AMB_NPOLL : Nat := 22011
/-- AMB.012 AMB_RSYM, 13_amene_bus.md. -/
abbrev AMB_RSYM : Nat := 22012
/-- AMB.013 AMB_JOIN_PER, 13_amene_bus.md. -/
abbrev AMB_JOIN_PER : Nat := 22013
/-- AMB.014 AMB_MISS, 13_amene_bus.md. -/
abbrev AMB_MISS : Nat := 22014
/-- AMB.015 AMB_LOST_T, 13_amene_bus.md. -/
abbrev AMB_LOST_T : Nat := 22015
/-- AMB.021 AMB_POSTPH, 13_amene_bus.md. -/
abbrev AMB_POSTPH : Nat := 22021
/-- AMB.022 AMB_POSTCLS, 13_amene_bus.md. -/
abbrev AMB_POSTCLS : Nat := 22022
/-- AMB.031 SITE_MASTER, 13_amene_bus.md. -/
abbrev SITE_MASTER : Nat := 22031
/-- AMB.032 SITE_BUDGET, 13_amene_bus.md. -/
abbrev SITE_BUDGET : Nat := 22032
/-- AMB.033 SITE_EXPORT, 13_amene_bus.md. -/
abbrev SITE_EXPORT : Nat := 22033
/-- AMB.034 SITE_PHASE_P, 13_amene_bus.md. -/
abbrev SITE_PHASE_P : Nat := 22034
/-- DLM.001 DLM_SUITE, 14_head_end_dlms.md. -/
abbrev DLM_SUITE : Nat := 23001
/-- DLM.002 DLM_MAXASSOC, 14_head_end_dlms.md. -/
abbrev DLM_MAXASSOC : Nat := 23002
/-- DLM.003 DLM_IDLE, 14_head_end_dlms.md. -/
abbrev DLM_IDLE : Nat := 23003
/-- DLM.004 DLM_PUBLIC, 14_head_end_dlms.md. -/
abbrev DLM_PUBLIC : Nat := 23004
/-- DLM.005 SRV_KEY, 14_head_end_dlms.md. -/
abbrev SRV_KEY : Nat := 23005
/-- DLM.011–DLM.013 CLI_EK[0–2], 14_head_end_dlms.md. -/
abbrev CLI_EK (i : Nat) : Nat := 23011 + i
/-- DLM.021–DLM.023 CLI_AK[0–2], 14_head_end_dlms.md. -/
abbrev CLI_AK (i : Nat) : Nat := 23021 + i
/-- DLM.031–DLM.033 CLI_PUB[0–2], 14_head_end_dlms.md. -/
abbrev CLI_PUB (i : Nat) : Nat := 23031 + i
/-- NFC.001 RDR_EN, 15_nfc_service_tag.md. -/
abbrev RDR_EN : Nat := 26001
/-- NFC.002 POLL_PER, 15_nfc_service_tag.md. -/
abbrev POLL_PER : Nat := 26002
/-- NFC.003 RDR_RATE, 15_nfc_service_tag.md. -/
abbrev RDR_RATE : Nat := 26003
/-- NFC.011 TAG_EN, 15_nfc_service_tag.md. -/
abbrev TAG_EN : Nat := 26011
/-- NFC.012 TAG_OUT_EN, 15_nfc_service_tag.md. -/
abbrev TAG_OUT_EN : Nat := 26012
/-- NFC.013 TAG_ALM, 15_nfc_service_tag.md. -/
abbrev TAG_ALM : Nat := 26013
/-- NFC.014 TAG_WRITE_EN, 15_nfc_service_tag.md. -/
abbrev TAG_WRITE_EN : Nat := 26014
/-- NFC.015 HARV_EN, 15_nfc_service_tag.md. -/
abbrev HARV_EN : Nat := 26015
/-- NFC.016 TAG_MAXT, 15_nfc_service_tag.md. -/
abbrev TAG_MAXT : Nat := 26016
/-- NFC.017 TAG_DAYMAX, 15_nfc_service_tag.md. -/
abbrev TAG_DAYMAX : Nat := 26017
/-- NFC.018 TAG_REFRESH, 15_nfc_service_tag.md. -/
abbrev TAG_REFRESH : Nat := 26018
/-- LSW.001–LSW.012 ILIM[0–11], 16_load_switches.md. -/
abbrev ILIM (i : Nat) : Nat := 27001 + i
/-- LSW.021–LSW.032 INRUSH_I[0–11], 16_load_switches.md. -/
abbrev INRUSH_I (i : Nat) : Nat := 27021 + i
/-- LSW.041–LSW.052 INRUSH_T[0–11], 16_load_switches.md. -/
abbrev INRUSH_T (i : Nat) : Nat := 27041 + i
/-- LSW.061–LSW.072 RETRY_MAX[0–11], 16_load_switches.md. -/
abbrev RETRY_MAX (i : Nat) : Nat := 27061 + i
/-- LSW.081–LSW.092 RETRY_T[0–11], 16_load_switches.md. -/
abbrev RETRY_T (i : Nat) : Nat := 27081 + i
/-- LSW.101–LSW.112 OC_T[0–11], 16_load_switches.md. -/
abbrev OC_T (i : Nat) : Nat := 27101 + i
/-- LSW.121 LS_DEFAULT, 16_load_switches.md. -/
abbrev LS_DEFAULT : Nat := 27121
/-- LSW.122 PF_SHED, 16_load_switches.md. -/
abbrev PF_SHED : Nat := 27122
/-- LSW.123 LIMP_TO, 16_load_switches.md. -/
abbrev LIMP_TO : Nat := 27123
/-- LSW.131–LSW.142 LH_SRC[0–11], 16_load_switches.md. -/
abbrev LH_SRC (i : Nat) : Nat := 27131 + i
/-- LSW.151–LSW.162 OPEN_I[0–11], 16_load_switches.md. -/
abbrev OPEN_I (i : Nat) : Nat := 27151 + i
/-- LCD.001 LCD_VLCD, 17_lantern_display.md. -/
abbrev LCD_VLCD : Nat := 28001
/-- LCD.002 LCD_FRAME, 17_lantern_display.md. -/
abbrev LCD_FRAME : Nat := 28002
/-- LCD.003 LCD_PAGE_T, 17_lantern_display.md. -/
abbrev LCD_PAGE_T : Nat := 28003
/-- LCD.004 LCD_DEC, 17_lantern_display.md. -/
abbrev LCD_DEC : Nat := 28004
/-- LCD.011–LCD.026 LCD_PAGES[0–15], 17_lantern_display.md. -/
abbrev LCD_PAGES (i : Nat) : Nat := 28011 + i
/-- LCD.031–LCD.033 BLI[0–2], 17_lantern_display.md. -/
abbrev BLI (i : Nat) : Nat := 28031 + i
/-- LCD.041–LCD.088 GAMMA[0–2][0–15], 17_lantern_display.md. -/
abbrev GAMMA (i k : Nat) : Nat := 28041 + 16 * i + k
/-- LCD.091 LCD_BLDEF, 17_lantern_display.md. -/
abbrev LCD_BLDEF : Nat := 28091
/-- LCD.101–LCD.180 SEGMAP[0–79], 17_lantern_display.md. -/
abbrev SEGMAP (i : Nat) : Nat := 28101 + i
/-- UPD.001 UPD_VBAT_MIN, 19_firmware_update.md. -/
abbrev UPD_VBAT_MIN : Nat := 25001
/-- UPD.002 UPD_OWNKEY, 19_firmware_update.md. -/
abbrev UPD_OWNKEY : Nat := 25002
/-- UPD.003 UPD_TRIAL_T, 19_firmware_update.md. -/
abbrev UPD_TRIAL_T : Nat := 25003
/-- PWR.001 PFW_LVL, 20_power_clocks_reset.md. -/
abbrev PFW_LVL : Nat := 2001
/-- CLK.001 XB_T0, 20_power_clocks_reset.md. -/
abbrev XB_T0 : Nat := 3001
/-- CLK.002 XB_BETA, 20_power_clocks_reset.md. -/
abbrev XB_BETA : Nat := 3002
/-- CLK.003 XB_OFS, 20_power_clocks_reset.md. -/
abbrev XB_OFS : Nat := 3003
/-- MEM.001 SCRUB_PER, 21_memory_sidings.md. -/
abbrev SCRUB_PER : Nat := 4001
/-- MEM.002 MRAM_SECLIM, 21_memory_sidings.md. -/
abbrev MRAM_SECLIM : Nat := 4002
/-- MEM.003 NVM_SECLIM, 21_memory_sidings.md. -/
abbrev NVM_SECLIM : Nat := 4003
/-- MEM.004 LIFE_WARN, 21_memory_sidings.md. -/
abbrev LIFE_WARN : Nat := 4004
/-- HIF.001 HIF_SPI_LVL, 23_host_interface.md. -/
abbrev HIF_SPI_LVL : Nat := 6001
/-- HIF.002 HIF_ETH_EN, 23_host_interface.md. -/
abbrev HIF_ETH_EN : Nat := 6002
/-- HIF.003 HIF_PORT, 23_host_interface.md. -/
abbrev HIF_PORT : Nat := 6003
/-- HIF.004 HIF_IDLE, 23_host_interface.md. -/
abbrev HIF_IDLE : Nat := 6004
/-- HIF.005 HIF_OPKEY, 23_host_interface.md. -/
abbrev HIF_OPKEY : Nat := 6005
/-- HIF.006 HIF_OWNKEY, 23_host_interface.md. -/
abbrev HIF_OWNKEY : Nat := 6006
/-- HIF.007 HIF_MBPATH, 23_host_interface.md. -/
abbrev HIF_MBPATH : Nat := 6007

end Sys2Proof.Par

namespace Sys2Proof.ParamMap

/-- How a parameter's bytes are read (R538): an unsigned or enumerated number, a two's complement number, or IEEE 754
binary32, whose value in this model is its 32 bits. -/
inductive PType where
  | unsigned | signed | float
  deriving DecidableEq, Repr

/-- The layer of R17 in which a parameter is set, numbered as HIF_PRES.LAYER. -/
inductive Layer where
  | factory | user | site
  deriving DecidableEq, Repr

/-- When a new value takes effect (R18), numbered as HIF_PRES.APPLIED. -/
inductive Applied where
  | boot | interval | immediate
  deriving DecidableEq, Repr

/-- The Range column: both ends included; a listed set of values; a range and one further value; the bits a mask may hold; the item
codes of R192; the page codes of R523; the packed change instants of R238; or a binary32 number whose magnitude lies from
num / den to hi, negative ones among them when neg holds. -/
inductive PRange where
  | span (lo hi : Int)
  | oneOf (vs : List Int)
  | spanOr (lo hi other : Int)
  | mask (m : Nat)
  | item
  | page
  | dst
  | real (num den hi : Nat) (neg : Bool)
  deriving DecidableEq, Repr

/-- One row of a parameter table: a parameter, or parameters with following numbers. The default of the j-th is element
j (modulo the length) of defaults. -/
structure ParamRow where
  name : String
  first : Nat
  count : Nat
  type : PType
  bytes : Nat
  range : PRange
  defaults : List Int
  layer : Layer
  applied : Applied
  only : Option Variant
  deriving DecidableEq, Repr

/-- The parameters of block byte 0x01. -/
def rows01 : List ParamRow := [
  ⟨"FAB_BUD", 1001, 9, .unsigned, 1, .span 0 200, [10, 20, 10, 30, 40, 20, 20, 30, 20], .user, .boot, none⟩,
  ⟨"CRY_BUD", 1011, 9, .unsigned, 1, .span 0 100, [0, 0, 20, 25, 15, 15, 10, 10, 5], .user, .boot, none⟩,
  ⟨"MRW_BUD", 1021, 9, .unsigned, 1, .span 0 100, [5, 5, 40, 5, 5, 10, 20, 5, 5], .user, .boot, none⟩,
  ⟨"LOGIC_BUDGET", 1101, 1, .unsigned, 2, .span 4000 6200, [6000], .user, .immediate, none⟩,
  ⟨"VSYS_HEAD", 1102, 1, .unsigned, 2, .span 9500 30000, [11000], .user, .immediate, none⟩,
  ⟨"INRUSH_BUDGET", 1103, 1, .unsigned, 2, .span 1000 8000, [4000], .user, .immediate, none⟩]

/-- The parameters of block byte 0x02. -/
def rows02 : List ParamRow := [
  ⟨"PFW_LVL", 2001, 1, .unsigned, 2, .span 8500 20000, [8500], .user, .boot, none⟩]

/-- The parameters of block byte 0x03. -/
def rows03 : List ParamRow := [
  ⟨"XB_T0", 3001, 1, .signed, 2, .span 150 350, [250], .user, .boot, none⟩,
  ⟨"XB_BETA", 3002, 1, .signed, 2, .span (-60) (-20), [-34], .user, .boot, none⟩,
  ⟨"XB_OFS", 3003, 1, .signed, 2, .span (-2500) 2500, [0], .user, .boot, none⟩]

/-- The parameters of block byte 0x04. -/
def rows04 : List ParamRow := [
  ⟨"SCRUB_PER", 4001, 1, .unsigned, 1, .span 6 24, [24], .user, .boot, none⟩,
  ⟨"MRAM_SECLIM", 4002, 1, .unsigned, 1, .span 2 32, [4], .factory, .boot, none⟩,
  ⟨"NVM_SECLIM", 4003, 1, .unsigned, 1, .span 2 64, [8], .factory, .boot, none⟩,
  ⟨"LIFE_WARN", 4004, 1, .unsigned, 2, .span 6 240, [60], .user, .immediate, none⟩]

/-- The parameters of block byte 0x06. -/
def rows06 : List ParamRow := [
  ⟨"HIF_SPI_LVL", 6001, 1, .unsigned, 1, .oneOf [0, 1], [1], .user, .boot, none⟩,
  ⟨"HIF_ETH_EN", 6002, 1, .unsigned, 1, .span 0 1, [0], .user, .boot, none⟩,
  ⟨"HIF_PORT", 6003, 1, .unsigned, 2, .span 1024 65535, [4061], .user, .boot, none⟩,
  ⟨"HIF_IDLE", 6004, 1, .unsigned, 2, .span 30 3600, [300], .user, .immediate, none⟩,
  ⟨"HIF_OPKEY", 6005, 1, .unsigned, 1, .spanOr 16 255 0, [0], .user, .boot, none⟩,
  ⟨"HIF_OWNKEY", 6006, 1, .unsigned, 1, .spanOr 16 255 0, [0], .user, .boot, none⟩,
  ⟨"HIF_MBPATH", 6007, 1, .unsigned, 1, .oneOf [0, 1], [0], .user, .boot, none⟩]

/-- The parameters of block byte 0x08. -/
def rows08 : List ParamRow := [
  ⟨"IRANGE", 8001, 6, .unsigned, 1, .span 0 5, [3], .user, .boot, some .f⟩,
  ⟨"ISENSOR", 8011, 6, .unsigned, 1, .oneOf [0, 1, 2, 3], [1], .user, .boot, some .f⟩,
  ⟨"NOMFREQ", 8021, 1, .unsigned, 1, .oneOf [50, 60], [50], .user, .boot, none⟩,
  ⟨"VUSED", 8031, 5, .unsigned, 1, .span 0 1, [1], .user, .boot, some .f⟩,
  ⟨"GAIN_WARN", 8041, 1, .unsigned, 2, .span 500 500, [500], .factory, .boot, some .f⟩,
  ⟨"GAIN_FAULT", 8042, 1, .unsigned, 2, .span 2000 2000, [2000], .factory, .boot, some .f⟩,
  ⟨"OFS_WARN", 8043, 1, .unsigned, 2, .span 200 200, [200], .factory, .boot, some .f⟩,
  ⟨"OFS_FAULT", 8044, 1, .unsigned, 2, .span 1000 1000, [1000], .factory, .boot, some .f⟩,
  ⟨"MATCH_LIM", 8045, 1, .unsigned, 2, .span 200 200, [200], .factory, .boot, some .f⟩,
  ⟨"STEP_LIM", 8046, 1, .unsigned, 2, .span 100 100, [100], .factory, .boot, some .f⟩,
  ⟨"MOD_ROLE", 8101, 10, .unsigned, 1, .spanOr 0 10 15, [0, 1, 2, 3, 4, 5, 6, 7, 8, 9], .user, .boot, some .m⟩,
  ⟨"MOD_VFS", 8111, 10, .unsigned, 4, .span 10000 2000000, [320000], .user, .boot, some .m⟩,
  ⟨"MOD_EDGE", 8121, 1, .unsigned, 1, .oneOf [0, 1], [0], .user, .boot, some .m⟩]

/-- The parameters of block byte 0x09. -/
def rows09 : List ParamRow := [
  ⟨"IRATIO", 9001, 6, .float, 4, .real 1 1000 1000000 true, [1148846080], .user, .boot, none⟩,
  ⟨"IMAX", 9011, 6, .unsigned, 4, .span 100 4000000, [80000], .user, .boot, none⟩,
  ⟨"VRATIO", 9021, 5, .float, 4, .real 1 1 10000 false, [1137180672], .user, .boot, none⟩,
  ⟨"UNOM", 9031, 1, .unsigned, 4, .span 100000 400000, [230000], .user, .boot, none⟩,
  ⟨"VDCNOM", 9032, 1, .unsigned, 4, .span 50000 1500000, [800000], .user, .boot, none⟩,
  ⟨"SUMMODE", 9041, 1, .unsigned, 1, .oneOf [0, 1], [0], .user, .boot, none⟩,
  ⟨"DCPAIR", 9042, 1, .unsigned, 1, .oneOf [0, 1], [0], .user, .boot, none⟩,
  ⟨"CREEP", 9043, 1, .unsigned, 1, .span 10 45, [30], .user, .boot, none⟩,
  ⟨"NEUT_LIM", 9044, 1, .unsigned, 4, .span 100 100000, [2000], .user, .immediate, none⟩,
  ⟨"HPF", 9051, 4, .unsigned, 1, .span 0 1, [0], .user, .boot, none⟩,
  ⟨"CABLE_R", 9061, 2, .unsigned, 4, .span 0 100000, [0], .user, .interval, none⟩,
  ⟨"UGAIN", 9101, 11, .signed, 4, .span (-5000000) 5000000, [0], .user, .interval, none⟩,
  ⟨"UOFS", 9121, 11, .signed, 4, .span (-1000000) 1000000, [0], .user, .interval, none⟩,
  ⟨"UPHASE", 9141, 3, .signed, 2, .span (-5000) 5000, [0], .user, .interval, none⟩,
  ⟨"USGAIN", 9201, 96, .signed, 4, .span (-1000000) 1000000, [0], .user, .interval, none⟩,
  ⟨"USPHASE", 9301, 48, .signed, 2, .span (-2000) 2000, [0], .user, .interval, none⟩,
  ⟨"FGAIN", 9401, 11, .signed, 4, .span (-5000000) 5000000, [0], .factory, .boot, none⟩,
  ⟨"FOFS", 9421, 11, .signed, 4, .span (-1000000) 1000000, [0], .factory, .boot, none⟩,
  ⟨"FPHASE", 9441, 3, .signed, 2, .span (-5000) 5000, [0], .factory, .boot, none⟩,
  ⟨"FSGAIN", 9501, 96, .signed, 4, .span (-1000000) 1000000, [0], .factory, .boot, none⟩,
  ⟨"FSPHASE", 9601, 48, .signed, 2, .span (-2000) 2000, [0], .factory, .boot, none⟩]

/-- The parameters of block byte 0x0A. -/
def rows0A : List ParamRow := [
  ⟨"CMP_TOL", 10001, 1, .unsigned, 2, .span 0 16, [2], .factory, .boot, none⟩,
  ⟨"CMP_REL", 10002, 1, .unsigned, 2, .span 0 10000, [1000], .factory, .boot, none⟩,
  ⟨"REF_TOL", 10003, 1, .unsigned, 2, .span 1000 20000, [5000], .factory, .boot, none⟩,
  ⟨"WARMUP", 10004, 1, .unsigned, 2, .span 4000 16000, [4000], .factory, .boot, none⟩,
  ⟨"SELFTEST_PER", 10005, 1, .unsigned, 2, .span 1 168, [24], .user, .boot, none⟩,
  ⟨"TRIAL_MAX", 10006, 1, .unsigned, 2, .span 10 3600, [600], .user, .immediate, none⟩]

/-- The parameters of block byte 0x0B. -/
def rows0B : List ParamRow := [
  ⟨"LP1_PER", 11001, 1, .unsigned, 1, .oneOf [1, 5, 10, 15, 30, 60], [15], .user, .boot, none⟩,
  ⟨"WB_INTERVAL", 11002, 1, .unsigned, 1, .span 0 1, [1], .user, .boot, none⟩,
  ⟨"WB_SIGALG", 11003, 1, .unsigned, 1, .oneOf [1, 2], [1], .user, .boot, none⟩,
  ⟨"WB_KEYSLOT", 11004, 1, .unsigned, 1, .span 0 255, [16], .user, .boot, none⟩,
  ⟨"LP1_CAP", 11011, 16, .unsigned, 2, .item, [0x1000, 0x1020, 0x1040, 0x1060, 0x1080, 0x10a0, 0x10c0, 0x10e0, 0x1100, 0x1120, 0x1140, 0x1001, 0x1002, 0x1101, 0x1102, 0x2000], .user, .boot, none⟩,
  ⟨"LP2_CAP", 11031, 32, .unsigned, 2, .item, [0x1000, 0x1020, 0x1040, 0x1060, 0x1080, 0x10a0, 0x10c0, 0x10e0, 0x1100, 0x1120, 0x1140, 0x1001, 0x1002, 0x1003, 0x1004, 0x1005, 0x1006, 0x1007, 0x1008, 0x1009, 0x100a, 0x100b, 0x100c, 0x100d, 0x100e, 0x100f, 0x1010, 0x4000, 0x0, 0x0, 0x0, 0x0], .user, .boot, none⟩,
  ⟨"DMD_PER", 11071, 1, .unsigned, 1, .oneOf [1, 5, 10, 15, 30, 60], [15], .user, .boot, none⟩,
  ⟨"DMD_SUB", 11072, 1, .unsigned, 1, .span 1 15, [1], .user, .boot, none⟩,
  ⟨"BILLDAY", 11073, 1, .unsigned, 1, .span 0 28, [1], .user, .boot, none⟩,
  ⟨"PREPAY_EN", 11081, 1, .unsigned, 1, .span 0 1, [0], .user, .boot, none⟩,
  ⟨"PREPAY_QTY", 11082, 1, .unsigned, 1, .oneOf [0, 1, 2], [2], .user, .boot, none⟩,
  ⟨"LOW_CREDIT", 11083, 1, .unsigned, 4, .span 0 10000000, [500], .user, .interval, none⟩,
  ⟨"EMERG_CREDIT", 11084, 1, .unsigned, 4, .span 0 1000000, [0], .user, .interval, none⟩,
  ⟨"RECONNECT", 11085, 1, .unsigned, 4, .span 0 10000000, [0], .user, .interval, none⟩,
  ⟨"PRICE", 11091, 16, .unsigned, 4, .span 0 1000000000, [0], .user, .interval, none⟩,
  ⟨"DISC_MODE", 11111, 1, .unsigned, 1, .oneOf [0, 1], [0], .user, .boot, none⟩,
  ⟨"DISC_ON_TAMP", 11113, 1, .unsigned, 1, .span 0 1, [0], .user, .boot, none⟩]

/-- The parameters of block byte 0x0C. -/
def rows0C : List ParamRow := [
  ⟨"TZ_OFFSET", 12001, 1, .signed, 2, .span (-720) 840, [0], .user, .boot, none⟩,
  ⟨"DST_EN", 12002, 1, .unsigned, 1, .span 0 1, [0], .user, .boot, none⟩,
  ⟨"DST_DEV", 12003, 1, .unsigned, 1, .oneOf [30, 60], [60], .user, .boot, none⟩,
  ⟨"DST_START", 12004, 1, .unsigned, 4, .dst, [1002442256], .user, .boot, none⟩,
  ⟨"DST_END", 12005, 1, .unsigned, 4, .dst, [2881490448], .user, .boot, none⟩,
  ⟨"ADJ_LIM", 12011, 1, .unsigned, 2, .span 1 60, [2], .user, .boot, none⟩,
  ⟨"BACK_MAX", 12012, 1, .unsigned, 4, .span 60 86400, [3600], .user, .boot, none⟩,
  ⟨"PTP_DISC", 12013, 1, .unsigned, 1, .oneOf [0, 1, 2], [1], .user, .boot, none⟩,
  ⟨"INVCLK_RATE", 12014, 1, .unsigned, 1, .span 1 16, [1], .user, .boot, none⟩,
  ⟨"OUT_EN", 12021, 1, .unsigned, 1, .span 0 1, [1], .user, .boot, some .f⟩,
  ⟨"OUT_ITHR", 12022, 1, .unsigned, 4, .span 100 100000, [500], .user, .boot, some .f⟩,
  ⟨"TAMP_EN", 12023, 2, .unsigned, 1, .span 0 1, [1], .user, .boot, none⟩]

/-- The parameters of block byte 0x0D. -/
def rows0D : List ParamRow := [
  ⟨"CONF_MODE", 13001, 1, .unsigned, 1, .oneOf [0, 1], [0], .user, .boot, none⟩,
  ⟨"DISCREP_T", 13002, 1, .unsigned, 2, .span 10 500, [50], .user, .boot, none⟩,
  ⟨"OFFPULSE_W", 13003, 1, .unsigned, 2, .span 100 800, [300], .user, .boot, none⟩,
  ⟨"START_RST", 13004, 1, .unsigned, 1, .span 0 1, [1], .user, .boot, none⟩,
  ⟨"CONT_DELAY", 13005, 1, .unsigned, 2, .span 0 50, [10], .user, .boot, none⟩,
  ⟨"CORE_TO", 13006, 1, .unsigned, 2, .span 20 500, [100], .user, .boot, none⟩,
  ⟨"SO_FUNC", 13011, 4, .unsigned, 1, .oneOf [0, 1, 2, 3], [1, 1, 2, 3], .user, .boot, none⟩,
  ⟨"PAIR_FUNC", 13021, 2, .unsigned, 1, .span 0 3, [0], .user, .boot, none⟩,
  ⟨"LS_KEEP", 13031, 1, .unsigned, 2, .span 0 4095, [0], .user, .boot, none⟩,
  ⟨"ESTOP_DISC", 13032, 1, .unsigned, 1, .span 0 1, [0], .user, .boot, none⟩,
  ⟨"PLAUS_I", 13033, 1, .unsigned, 4, .span 100 100000, [2000], .user, .boot, none⟩,
  ⟨"TG_ADDR", 13041, 1, .unsigned, 2, .span 0 4095, [0], .user, .boot, none⟩,
  ⟨"TG_PER", 13042, 1, .unsigned, 1, .span 2 8, [5], .user, .boot, none⟩,
  ⟨"TG_KEYSLOT", 13043, 1, .unsigned, 1, .span 0 255, [32], .user, .boot, none⟩,
  ⟨"TG_SRC", 13051, 8, .unsigned, 2, .spanOr 0 4095 65535, [65535], .user, .boot, none⟩,
  ⟨"TG_REACT", 13061, 8, .unsigned, 1, .oneOf [0, 1], [1], .user, .boot, none⟩]

/-- The parameters of block byte 0x0E. -/
def rows0E : List ParamRow := [
  ⟨"RCM_EN", 14001, 1, .unsigned, 1, .span 0 1, [1], .user, .boot, some .f⟩,
  ⟨"RCM_AC_EN", 14002, 1, .unsigned, 1, .span 0 1, [1], .user, .boot, some .f⟩,
  ⟨"RCM_TURNS", 14003, 1, .unsigned, 2, .span 200 2000, [1000], .user, .boot, some .f⟩,
  ⟨"RCM_RS", 14004, 1, .unsigned, 4, .span 5000 100000, [20000], .user, .boot, some .f⟩,
  ⟨"RCM_TEST_PER", 14005, 1, .unsigned, 1, .span 1 24, [24], .user, .boot, some .f⟩,
  ⟨"IMD_EN", 14011, 1, .unsigned, 1, .span 0 1, [1], .user, .boot, some .f⟩,
  ⟨"IMD_RC", 14012, 1, .unsigned, 2, .span 500 5000, [1000], .user, .boot, some .f⟩,
  ⟨"IMD_DIV", 14013, 1, .unsigned, 2, .span 100 2000, [1500], .user, .boot, some .f⟩,
  ⟨"IMD_CYCLE", 14014, 1, .unsigned, 1, .span 1 10, [1], .user, .boot, some .f⟩,
  ⟨"IMD_WARN", 14015, 1, .unsigned, 2, .span 100 1000, [500], .user, .boot, some .f⟩,
  ⟨"IMD_FAULT", 14016, 1, .unsigned, 2, .span 50 500, [100], .user, .boot, some .f⟩,
  ⟨"TRIP_LVL", 14021, 4, .unsigned, 2, .span 100 1100, [1050], .user, .boot, some .f⟩,
  ⟨"TRIP_EN", 14025, 4, .unsigned, 1, .span 0 1, [1], .user, .boot, some .f⟩,
  ⟨"TRIP_TEST_PER", 14029, 1, .unsigned, 1, .span 1 24, [24], .user, .boot, some .f⟩]

/-- The parameters of block byte 0x0F. -/
def rows0F : List ParamRow := [
  ⟨"CONT_FB_T", 15001, 4, .unsigned, 2, .span 20 500, [100], .user, .boot, none⟩,
  ⟨"CONT_FB_POL", 15011, 4, .unsigned, 1, .oneOf [0, 1], [0], .user, .boot, none⟩,
  ⟨"WELD_ROLE", 15021, 1, .unsigned, 1, .oneOf [0, 9, 10], [0], .user, .boot, none⟩,
  ⟨"WELD_VLIM", 15022, 1, .unsigned, 2, .span 10 120, [60], .user, .boot, none⟩,
  ⟨"WELD_T", 15023, 1, .unsigned, 2, .span 100 5000, [1000], .user, .boot, none⟩,
  ⟨"WELD_OUT", 15024, 1, .unsigned, 1, .span 0 15, [3], .user, .boot, none⟩,
  ⟨"DISC_FB_T", 15031, 1, .unsigned, 2, .span 20 1000, [100], .user, .boot, none⟩,
  ⟨"DISC_FB_POL", 15032, 1, .unsigned, 1, .oneOf [0, 1], [0], .user, .boot, none⟩]

/-- The parameters of block byte 0x10. -/
def rows10 : List ParamRow := [
  ⟨"PP_MODE", 16001, 1, .unsigned, 1, .oneOf [0, 1, 2], [1], .user, .boot, none⟩]

/-- The parameters of block byte 0x11. -/
def rows11 : List ParamRow := [
  ⟨"VL_MODE", 17001, 1, .unsigned, 1, .oneOf [0, 1, 2], [0], .user, .boot, none⟩,
  ⟨"GP_TXLVL", 17002, 1, .signed, 1, .span (-85) (-60), [-75], .user, .boot, none⟩,
  ⟨"T1S_LINK_T", 17003, 1, .unsigned, 2, .span 100 5000, [1000], .user, .boot, none⟩,
  ⟨"SLAC_INIT_T", 17011, 1, .unsigned, 1, .span 20 50, [50], .user, .boot, none⟩,
  ⟨"SLAC_MIN_SOUNDS", 17012, 1, .unsigned, 1, .span 3 10, [6], .user, .boot, none⟩,
  ⟨"SLAC_ATT_MAX", 17013, 1, .unsigned, 2, .span 100 700, [500], .user, .boot, none⟩,
  ⟨"SLAC_COORD", 17021, 1, .unsigned, 1, .span 0 1, [1], .user, .boot, none⟩,
  ⟨"SLAC_COORD_T", 17022, 1, .unsigned, 2, .span 50 400, [150], .user, .boot, none⟩,
  ⟨"SLAC_TIE", 17023, 1, .unsigned, 2, .span 0 100, [30], .user, .boot, none⟩,
  ⟨"SLAC_VALIDATE", 17024, 1, .unsigned, 1, .span 0 1, [1], .user, .boot, none⟩,
  ⟨"SLAC_NB", 17031, 8, .unsigned, 2, .spanOr 0 4095 65535, [65535], .site, .immediate, none⟩]

/-- The parameters of block byte 0x12. -/
def rows12 : List ParamRow := [
  ⟨"PROTO_EN", 18001, 1, .unsigned, 1, .span 0 7, [7], .user, .boot, none⟩,
  ⟨"PROTO_PRIO", 18002, 1, .unsigned, 1, .oneOf [0, 1], [0], .user, .boot, none⟩,
  ⟨"TLS2_EIM", 18003, 1, .unsigned, 1, .span 0 1, [0], .user, .boot, none⟩,
  ⟨"AUTH_EN", 18011, 1, .unsigned, 1, .mask 0x3E, [60], .user, .boot, none⟩,
  ⟨"AUTH_WAIT_T", 18012, 1, .unsigned, 1, .span 5 60, [30], .user, .immediate, none⟩,
  ⟨"AUTH_PRE_T", 18013, 1, .unsigned, 1, .span 0 120, [60], .user, .immediate, none⟩,
  ⟨"HOST_TO", 18014, 1, .unsigned, 1, .span 5 120, [10], .user, .immediate, none⟩,
  ⟨"EVSE_IMAX_AC", 18021, 1, .unsigned, 2, .span 60 800, [320], .user, .boot, none⟩,
  ⟨"EVSE_IMAX_DC", 18022, 1, .unsigned, 2, .span 0 30000, [5000], .user, .boot, none⟩,
  ⟨"EVSE_VMAX_DC", 18023, 1, .unsigned, 2, .span 0 12500, [9200], .user, .boot, none⟩,
  ⟨"EVSE_PMAX", 18024, 1, .unsigned, 4, .span 10 37500, [3500], .site, .immediate, none⟩,
  ⟨"RAMP_UP", 18025, 1, .unsigned, 2, .span 10 2000, [400], .user, .boot, none⟩,
  ⟨"RAMP_DOWN", 18026, 1, .unsigned, 2, .span 100 10000, [2000], .user, .boot, none⟩,
  ⟨"STOP_T", 18027, 1, .unsigned, 2, .span 100 2000, [1000], .user, .boot, none⟩,
  ⟨"DISCH_EN", 18028, 1, .unsigned, 1, .span 0 1, [0], .user, .boot, none⟩,
  ⟨"CC_MAX_T", 18031, 1, .unsigned, 1, .span 10 38, [30], .user, .boot, none⟩,
  ⟨"PRECH_TOL", 18032, 1, .unsigned, 1, .span 2 20, [10], .user, .boot, none⟩,
  ⟨"PRECH_MAX_T", 18033, 1, .unsigned, 1, .span 3 7, [7], .user, .boot, none⟩,
  ⟨"SITE_EN", 18041, 1, .unsigned, 1, .span 0 1, [0], .user, .boot, none⟩,
  ⟨"SITE_FLOOR", 18042, 1, .unsigned, 4, .span 0 37500, [0], .site, .immediate, none⟩,
  ⟨"CONV_USE", 18051, 1, .unsigned, 4, .span 0 4294967295, [1], .user, .boot, none⟩,
  ⟨"CONV_PORT", 18052, 1, .unsigned, 4, .span 0 4294967295, [0], .user, .boot, none⟩,
  ⟨"CAN_DRATE", 18053, 1, .unsigned, 1, .oneOf [2, 5], [2], .user, .boot, none⟩]

/-- The parameters of block byte 0x13. -/
def rows13 : List ParamRow := [
  ⟨"ETH_TOPO", 19001, 1, .unsigned, 1, .oneOf [0, 1, 2], [0], .user, .boot, none⟩,
  ⟨"SPEED", 19002, 2, .unsigned, 2, .oneOf [0, 10, 100, 1000], [0], .user, .boot, none⟩,
  ⟨"ETH_VID", 19004, 1, .unsigned, 2, .span 1 4094, [1], .user, .boot, none⟩,
  ⟨"STG_PCP", 19005, 1, .unsigned, 1, .span 5 7, [6], .user, .boot, none⟩,
  ⟨"LATE_MODE", 19006, 1, .unsigned, 1, .oneOf [0, 1], [0], .user, .boot, none⟩,
  ⟨"GRP_ADDR", 19011, 1, .unsigned, 2, .span 0 4095, [0], .user, .boot, none⟩,
  ⟨"PHY_TXLAT", 19021, 2, .unsigned, 2, .span 0 2000, [0], .user, .boot, none⟩,
  ⟨"PHY_RXLAT", 19023, 2, .unsigned, 2, .span 0 2000, [0], .user, .boot, none⟩]

/-- The parameters of block byte 0x14. -/
def rows14 : List ParamRow := [
  ⟨"PTP_ROLE", 20001, 1, .unsigned, 1, .oneOf [0, 1, 2], [0], .user, .boot, none⟩,
  ⟨"PTP_TRANSPORT", 20002, 1, .unsigned, 1, .oneOf [0, 1], [0], .user, .boot, none⟩,
  ⟨"PTP_DOM", 20003, 2, .unsigned, 1, .spanOr 0 127 255, [0, 255], .user, .boot, none⟩,
  ⟨"PTP_PREF", 20005, 1, .unsigned, 1, .oneOf [0, 1], [0], .user, .boot, none⟩,
  ⟨"PTP_REVERT", 20006, 1, .unsigned, 1, .span 0 1, [1], .user, .boot, none⟩,
  ⟨"REVERT_T", 20007, 1, .unsigned, 2, .span 10 3600, [60], .user, .boot, none⟩,
  ⟨"SW_SLEW", 20008, 1, .unsigned, 2, .span 10 500, [100], .user, .boot, none⟩,
  ⟨"STEPMAX", 20009, 1, .unsigned, 4, .span 1000 1000000000, [1000000], .user, .boot, none⟩,
  ⟨"PRIO1", 20010, 1, .unsigned, 1, .span 128 255, [250], .user, .boot, none⟩,
  ⟨"PTP_UTCOFS", 20011, 1, .unsigned, 1, .span 0 255, [37], .user, .boot, none⟩]

/-- The parameters of block byte 0x16. -/
def rows16 : List ParamRow := [
  ⟨"AMB_ROLE", 22001, 1, .unsigned, 1, .oneOf [0, 1, 2], [0], .user, .boot, none⟩,
  ⟨"AMB_SEG", 22002, 1, .unsigned, 1, .span 0 254, [0], .user, .boot, none⟩,
  ⟨"AMB_NODE", 22003, 1, .unsigned, 1, .span 1 255, [1], .user, .boot, none⟩,
  ⟨"AMB_MPHASE", 22004, 1, .unsigned, 1, .oneOf [1, 2, 3], [1], .user, .boot, none⟩,
  ⟨"AMB_ILV", 22005, 1, .unsigned, 1, .oneOf [1, 2, 4, 8], [2], .user, .boot, none⟩,
  ⟨"AMB_TXLVL", 22006, 1, .unsigned, 2, .span 50 500, [350], .user, .boot, none⟩,
  ⟨"ZC_DLY", 22007, 1, .unsigned, 2, .span 0 2000, [0], .user, .boot, none⟩,
  ⟨"AMB_NPOLL", 22011, 1, .unsigned, 1, .span 1 16, [16], .user, .boot, none⟩,
  ⟨"AMB_RSYM", 22012, 1, .unsigned, 1, .span 25 100, [50], .user, .boot, none⟩,
  ⟨"AMB_JOIN_PER", 22013, 1, .unsigned, 1, .span 1 30, [2], .user, .boot, none⟩,
  ⟨"AMB_MISS", 22014, 1, .unsigned, 1, .span 3 20, [6], .user, .boot, none⟩,
  ⟨"AMB_LOST_T", 22015, 1, .unsigned, 1, .span 10 60, [15], .user, .boot, none⟩,
  ⟨"AMB_POSTPH", 22021, 1, .unsigned, 1, .oneOf [0, 1], [1], .user, .boot, none⟩,
  ⟨"AMB_POSTCLS", 22022, 1, .unsigned, 1, .oneOf [1, 2, 3, 5, 6, 7], [1], .user, .boot, none⟩,
  ⟨"SITE_MASTER", 22031, 1, .unsigned, 2, .spanOr 0 4095 65535, [65535], .user, .boot, none⟩,
  ⟨"SITE_BUDGET", 22032, 1, .unsigned, 4, .span 0 100000, [0], .user, .immediate, none⟩,
  ⟨"SITE_EXPORT", 22033, 1, .unsigned, 4, .span 0 100000, [0], .user, .immediate, none⟩,
  ⟨"SITE_PHASE_P", 22034, 1, .unsigned, 4, .span 0 40000, [0], .user, .immediate, none⟩]

/-- The parameters of block byte 0x17. -/
def rows17 : List ParamRow := [
  ⟨"DLM_SUITE", 23001, 1, .unsigned, 1, .oneOf [1, 2], [2], .user, .boot, none⟩,
  ⟨"DLM_MAXASSOC", 23002, 1, .unsigned, 1, .span 1 4, [4], .user, .boot, none⟩,
  ⟨"DLM_IDLE", 23003, 1, .unsigned, 2, .span 30 3600, [120], .user, .boot, none⟩,
  ⟨"DLM_PUBLIC", 23004, 1, .unsigned, 1, .span 0 1, [1], .user, .boot, none⟩,
  ⟨"SRV_KEY", 23005, 1, .unsigned, 1, .spanOr 16 255 0, [0], .user, .boot, none⟩,
  ⟨"CLI_EK", 23011, 3, .unsigned, 1, .spanOr 16 255 0, [0], .user, .boot, none⟩,
  ⟨"CLI_AK", 23021, 3, .unsigned, 1, .spanOr 16 255 0, [0], .user, .boot, none⟩,
  ⟨"CLI_PUB", 23031, 3, .unsigned, 1, .spanOr 16 255 0, [0], .user, .boot, none⟩]

/-- The parameters of block byte 0x18. -/
def rows18 : List ParamRow := [
  ⟨"PUF_MOVE", 24001, 1, .unsigned, 1, .span 50 120, [80], .factory, .boot, none⟩,
  ⟨"CLEAR_EN", 24011, 1, .unsigned, 1, .span 0 1, [1], .user, .boot, none⟩,
  ⟨"WB_AUTOGEN", 24012, 1, .unsigned, 1, .span 0 1, [1], .user, .boot, none⟩]

/-- The parameters of block byte 0x19. -/
def rows19 : List ParamRow := [
  ⟨"UPD_VBAT_MIN", 25001, 1, .unsigned, 2, .span 2800 3600, [3000], .user, .immediate, none⟩,
  ⟨"UPD_OWNKEY", 25002, 1, .unsigned, 1, .spanOr 16 255 0, [0], .user, .boot, none⟩,
  ⟨"UPD_TRIAL_T", 25003, 1, .unsigned, 2, .span 30 600, [60], .user, .boot, none⟩]

/-- The parameters of block byte 0x1A. -/
def rows1A : List ParamRow := [
  ⟨"RDR_EN", 26001, 1, .unsigned, 1, .span 0 1, [1], .user, .boot, none⟩,
  ⟨"POLL_PER", 26002, 1, .unsigned, 2, .span 100 1000, [250], .user, .boot, none⟩,
  ⟨"RDR_RATE", 26003, 1, .unsigned, 2, .oneOf [106, 212, 424], [424], .user, .boot, none⟩,
  ⟨"TAG_EN", 26011, 1, .unsigned, 1, .span 0 1, [1], .user, .boot, none⟩,
  ⟨"TAG_OUT_EN", 26012, 1, .unsigned, 1, .span 0 1, [1], .user, .boot, none⟩,
  ⟨"TAG_ALM", 26013, 1, .unsigned, 1, .span 0 1, [1], .user, .boot, none⟩,
  ⟨"TAG_WRITE_EN", 26014, 1, .unsigned, 1, .span 0 1, [1], .user, .boot, none⟩,
  ⟨"HARV_EN", 26015, 1, .unsigned, 1, .span 0 1, [0], .user, .boot, none⟩,
  ⟨"TAG_MAXT", 26016, 1, .unsigned, 2, .span 10 600, [120], .user, .boot, none⟩,
  ⟨"TAG_DAYMAX", 26017, 1, .unsigned, 2, .span 60 3600, [900], .user, .boot, none⟩,
  ⟨"TAG_REFRESH", 26018, 1, .unsigned, 2, .span 10 3600, [60], .user, .boot, none⟩]

/-- The parameters of block byte 0x1B. -/
def rows1B : List ParamRow := [
  ⟨"ILIM", 27001, 12, .unsigned, 2, .span 100 2500, [2500], .user, .boot, none⟩,
  ⟨"INRUSH_I", 27021, 12, .unsigned, 2, .span 100 7500, [2500], .user, .boot, none⟩,
  ⟨"INRUSH_T", 27041, 12, .unsigned, 1, .span 0 200, [0], .user, .boot, none⟩,
  ⟨"RETRY_MAX", 27061, 12, .unsigned, 1, .span 0 15, [3], .user, .boot, none⟩,
  ⟨"RETRY_T", 27081, 12, .unsigned, 2, .span 10 10000, [1000], .user, .boot, none⟩,
  ⟨"OC_T", 27101, 12, .unsigned, 2, .span 100 10000, [1000], .user, .boot, none⟩,
  ⟨"LS_DEFAULT", 27121, 1, .unsigned, 2, .span 0 4095, [0], .user, .boot, none⟩,
  ⟨"PF_SHED", 27122, 1, .unsigned, 2, .span 0 4095, [0], .user, .boot, none⟩,
  ⟨"LIMP_TO", 27123, 1, .unsigned, 2, .span 100 5000, [1000], .user, .boot, none⟩,
  ⟨"LH_SRC", 27131, 12, .unsigned, 1, .span 0 6, [6], .user, .boot, none⟩,
  ⟨"OPEN_I", 27151, 12, .unsigned, 2, .span 0 500, [0], .user, .boot, none⟩]

/-- The parameters of block byte 0x1C. -/
def rows1C : List ParamRow := [
  ⟨"LCD_VLCD", 28001, 1, .unsigned, 2, .span 2500 5000, [3300], .user, .boot, none⟩,
  ⟨"LCD_FRAME", 28002, 1, .unsigned, 1, .span 64 128, [64], .user, .boot, none⟩,
  ⟨"LCD_PAGE_T", 28003, 1, .unsigned, 1, .span 2 30, [8], .user, .boot, none⟩,
  ⟨"LCD_DEC", 28004, 1, .unsigned, 1, .span 0 3, [3], .user, .boot, none⟩,
  ⟨"LCD_PAGES", 28011, 16, .unsigned, 2, .page, [0x1000, 0, 0, 0, 0, 0, 0, 0, 0, 0, 0, 0, 0, 0, 0, 0], .user, .boot, none⟩,
  ⟨"BLI", 28031, 3, .unsigned, 1, .span 0 40, [20], .user, .boot, none⟩,
  ⟨"GAMMA", 28041, 48, .unsigned, 2, .span 0 4095, [0, 273, 546, 819, 1092, 1365, 1638, 1911, 2184, 2457, 2730, 3003, 3276, 3549, 3822, 4095], .user, .boot, none⟩,
  ⟨"LCD_BLDEF", 28091, 1, .unsigned, 4, .span 0 16777215, [16777215], .user, .boot, none⟩,
  ⟨"SEGMAP", 28101, 80, .unsigned, 1, .spanOr 0 159 255, [0, 1, 2, 3, 4, 5, 6, 7, 8, 9, 10, 11, 12, 13, 14, 15, 16, 17, 18, 19, 20, 21, 22, 23, 24, 25, 26, 27, 28, 29, 30, 31, 32, 33, 34, 35, 36, 37, 38, 39, 40, 41, 42, 43, 44, 45, 46, 47, 48, 49, 50, 51, 52, 53, 54, 55, 56, 57, 58, 59, 60, 61, 62, 63, 64, 65, 66, 67, 68, 69, 70, 71, 72, 73, 74, 75, 76, 77, 78, 79], .user, .boot, none⟩]

/-- The rows of a block byte of R538. -/
def rowsOf : Nat → List ParamRow
  | 0x01 => rows01
  | 0x02 => rows02
  | 0x03 => rows03
  | 0x04 => rows04
  | 0x06 => rows06
  | 0x08 => rows08
  | 0x09 => rows09
  | 0x0A => rows0A
  | 0x0B => rows0B
  | 0x0C => rows0C
  | 0x0D => rows0D
  | 0x0E => rows0E
  | 0x0F => rows0F
  | 0x10 => rows10
  | 0x11 => rows11
  | 0x12 => rows12
  | 0x13 => rows13
  | 0x14 => rows14
  | 0x16 => rows16
  | 0x17 => rows17
  | 0x18 => rows18
  | 0x19 => rows19
  | 0x1A => rows1A
  | 0x1B => rows1B
  | 0x1C => rows1C
  | _ => []

/-- The row of a parameter, if the parameter exists. -/
def rowFor (p : Nat) : Option ParamRow :=
  (rowsOf (p / 1000)).find? (fun r => decide (r.first ≤ p) && decide (p < r.first + r.count))

/-- The default of a parameter's table (R549, fourth source); 0 for a number that names none. -/
def default (p : Nat) : Int :=
  match rowFor p with
  | none => 0
  | some r => r.defaults.getD ((p - r.first) % r.defaults.length) 0

end Sys2Proof.ParamMap
end

