-- ==== Sys2Proof/Machine/RegMap.lean ====
section
/-!
DEFINITION. The host-visible registers of the module (spec/00_scope.md R9 to R15 and the register tables
of every chapter): a name for each register's host address (Sys2Proof.Reg), a name for each named field
(Sys2Proof.Fd), the table the host interface checks an access against (RegMap.rows), and the reset words
that are not zero (RegMap.resetOf). A register that the spec gives once per host path (R629) has one copy
per path; the copy of the Ethernet path lies at Path.bank, above the 24-bit host space.
-/
namespace Sys2Proof.Reg

abbrev SYS_ID : Nat := 0x0
abbrev SYS_RSTCAUSE : Nat := 0x4
abbrev SYS_RSTCTL : Nat := 0x8
abbrev SYS_STARTS : Nat := 0xC
abbrev SYS_METERID (i : Nat) : Nat := 0x10 + 4 * i
abbrev SYS_UPTIME : Nat := 0x18
abbrev SYS_BOOT : Nat := 0x100
abbrev SYS_BOOTREJ : Nat := 0x104
abbrev SYS_IMGSEQ : Nat := 0x108
abbrev SYS_OVL : Nat := 0x10C
abbrev SYS_IMGHASH (i : Nat) : Nat := 0x110 + 4 * i
abbrev SYS_BOOTT (i : Nat) : Nat := 0x140 + 4 * i
abbrev SYS_FLASH : Nat := 0x180
abbrev SYS_CFGEVT : Nat := 0x184
abbrev SYS_FLT : Nat := 0x200
abbrev SYS_FLTLAST : Nat := 0x204
abbrev SYS_FLTCNT (i : Nat) : Nat := 0x210 + 4 * i
abbrev SYS_XSTAT (i : Nat) : Nat := 0x400 + 4 * i
abbrev SYS_XCLR : Nat := 0x460
abbrev TTB_STAT : Nat := 0x10000
abbrev TTB_CLR : Nat := 0x10004
abbrev TTB_BUD (i : Nat) : Nat := 0x10100 + 4 * i
abbrev TTB_USE (i : Nat) : Nat := 0x10200 + 4 * i
abbrev TOK_POWER : Nat := 0x18000
abbrev TOK_BUDGET : Nat := 0x18004
abbrev TOK_STAT : Nat := 0x18008
abbrev TOK_EVT : Nat := 0x1800C
abbrev TOK_LAST : Nat := 0x18010
abbrev TOK_CNT (i : Nat) : Nat := 0x18100 + 4 * i
abbrev PWR_STAT : Nat := 0x20000
abbrev PWR_EVT : Nat := 0x20004
abbrev PWR_VSYS : Nat := 0x20008
abbrev PWR_VBAT : Nat := 0x2000C
abbrev PWR_HOLD : Nat := 0x20010
abbrev PWR_PFCNT : Nat := 0x20014
abbrev PWR_PIN : Nat := 0x20018
abbrev PWR_TEMP : Nat := 0x2001C
abbrev PWR_TEMPEVT : Nat := 0x20020
abbrev CLK_STAT : Nat := 0x30000
abbrev CLK_EVT : Nat := 0x30004
abbrev CLK_CTL : Nat := 0x30008
abbrev CLK_XBMEAS : Nat := 0x3000C
abbrev CLK_ISL (i : Nat) : Nat := 0x30100 + 4 * i
abbrev MEM_STAT : Nat := 0x40000
abbrev MEM_EVT : Nat := 0x40004
abbrev MEM_ECC (i : Nat) : Nat := 0x40010 + 4 * i
abbrev MEM_LASTERR : Nat := 0x40020
abbrev MEM_AGE : Nat := 0x40024
abbrev MEM_HOURS : Nat := 0x40028
abbrev MEM_SCRUBCNT : Nat := 0x4002C
abbrev MEM_KIND (i : Nat) : Nat := 0x40100 + 4 * i
abbrev MEM_LIFE (i : Nat) : Nat := 0x40140 + 4 * i
abbrev SHN_BUSY : Nat := 0x50000
abbrev SHN_DONE : Nat := 0x50004
abbrev SHN_ERR : Nat := 0x50008
abbrev SHN_SHDV : Nat := 0x5000C
abbrev SHN_CHCTL : Nat := 0x50010
abbrev SHN_CH (i : Nat) : Nat := 0x50040 + 4 * i
abbrev SHN_CMP (i : Nat) : Nat := 0x500C0 + 4 * i
abbrev SHN_DESC (i : Nat) (j : Nat) : Nat := 0x50400 + 64 * i + 4 * j
abbrev HIF_STAT : Nat := 0x60000
abbrev HIF_EVT : Nat := 0x60004
abbrev HIF_ISRC : Nat := 0x60008
abbrev HIF_IEN : Nat := 0x6000C
abbrev HIF_SESCTL (p : Path) : Nat := 0x60010 + p.bank
abbrev HIF_SESSTAT (p : Path) : Nat := 0x60014 + p.bank
abbrev HIF_PCMD (p : Path) : Nat := 0x60020 + p.bank
abbrev HIF_PVAL (p : Path) : Nat := 0x60024 + p.bank
abbrev HIF_PRES (p : Path) : Nat := 0x60028 + p.bank
abbrev HIF_CHAL (p : Path) (i : Nat) : Nat := 0x60040 + 4 * i + p.bank
abbrev HIF_SESSIG (p : Path) (i : Nat) : Nat := 0x60080 + 4 * i + p.bank
abbrev HIF_CNT (i : Nat) : Nat := 0x60100 + 4 * i
abbrev AFE_ID : Nat := 0x80000
abbrev AFE_STAT : Nat := 0x80004
abbrev AFE_ROT : Nat := 0x80008
abbrev AFE_EVT : Nat := 0x8000C
abbrev AFE_LANE : Nat := 0x80010
abbrev AFE_MOD : Nat := 0x80014
abbrev AFE_CH (i : Nat) : Nat := 0x80100 + 4 * i
abbrev AFE_CGAIN (i : Nat) : Nat := 0x80200 + 4 * i
abbrev AFE_COFS (i : Nat) : Nat := 0x80240 + 4 * i
abbrev AFE_CSTATE (i : Nat) : Nat := 0x80280 + 4 * i
abbrev MTR_STAT : Nat := 0x90000
abbrev MTR_EVT : Nat := 0x90004
abbrev MTR_BLKCNT : Nat := 0x90008
abbrev MTR_BLKSTAT : Nat := 0x9000C
abbrev MTR_FREQ : Nat := 0x90010
abbrev MTR_URMS (i : Nat) : Nat := 0x90100 + 4 * i
abbrev MTR_IRMS (i : Nat) : Nat := 0x90110 + 4 * i
abbrev MTR_P (i : Nat) : Nat := 0x90120 + 4 * i
abbrev MTR_Q (i : Nat) : Nat := 0x90130 + 4 * i
abbrev MTR_S (i : Nat) : Nat := 0x90140 + 4 * i
abbrev MTR_PF (i : Nat) : Nat := 0x90150 + 4 * i
abbrev MTR_INCALC : Nat := 0x90160
abbrev MTR_VDC (i : Nat) : Nat := 0x90180 + 4 * i
abbrev MTR_IDC (i : Nat) : Nat := 0x90188 + 4 * i
abbrev MTR_PDC (i : Nat) : Nat := 0x90190 + 4 * i
abbrev MTR_PCONN (i : Nat) : Nat := 0x90198 + 4 * i
abbrev MTR_SEG (i : Nat) : Nat := 0x901C0 + 4 * i
abbrev PTS_STAT : Nat := 0xA0000
abbrev PTS_EVT : Nat := 0xA0004
abbrev PTS_CTL : Nat := 0xA0008
abbrev PTS_ENG (i : Nat) : Nat := 0xA0010 + 4 * i
abbrev PTS_CNT : Nat := 0xA0018
abbrev PTS_LASTCHG : Nat := 0xA001C
abbrev PTS_TRIALBLK : Nat := 0xA0020
abbrev PTS_TRIAL (i : Nat) : Nat := 0xA0100 + 4 * i
abbrev BIL_STAT : Nat := 0xB0000
abbrev BIL_EVT : Nat := 0xB0004
abbrev BIL_CTL : Nat := 0xB0008
abbrev BIL_COMMIT : Nat := 0xB000C
abbrev BIL_COMMITSEC : Nat := 0xB0010
abbrev BIL_TTGEN : Nat := 0xB0014
abbrev BIL_TTACT : Nat := 0xB0018
abbrev BIL_ROLLCNT : Nat := 0xB001C
abbrev BIL_MISSCNT : Nat := 0xB0020
abbrev BIL_ESTCNT : Nat := 0xB0024
abbrev BIL_WBSEQ : Nat := 0xB0028
abbrev BIL_WBUNS : Nat := 0xB002C
abbrev BIL_LPCNT : Nat := 0xB0030
abbrev BIL_TOPUP : Nat := 0xB0034
abbrev BIL_SNAPNUM : Nat := 0xB0038
abbrev BIL_DISC : Nat := 0xB0040
abbrev BIL_DISCCTL : Nat := 0xB0044
abbrev BIL_ENERGY (i : Nat) (j : Nat) (k : Nat) : Nat := 0xB1000 + 136 * i + 8 * j + 4 * k
abbrev BIL_PROV (i : Nat) (j : Nat) : Nat := 0xB1800 + 8 * i + 4 * j
abbrev BIL_DMDCUR (i : Nat) : Nat := 0xB1900 + 4 * i
abbrev BIL_DMDLAST (i : Nat) : Nat := 0xB1920 + 4 * i
abbrev BIL_DMDMAX (i : Nat) (j : Nat) : Nat := 0xB1A00 + 68 * i + 4 * j
abbrev BIL_DMDMAXT (i : Nat) (j : Nat) : Nat := 0xB1C00 + 68 * i + 4 * j
abbrev BIL_CREDIT (i : Nat) : Nat := 0xB1E00 + 4 * i
abbrev BTM_TIME : Nat := 0xC0000
abbrev BTM_STAT : Nat := 0xC0004
abbrev BTM_EVT : Nat := 0xC0008
abbrev BTM_SETVAL : Nat := 0xC000C
abbrev BTM_SETCTL : Nat := 0xC0010
abbrev BTM_TRIM : Nat := 0xC0014
abbrev BTM_TAMPCNT : Nat := 0xC0018
abbrev BTM_SLEWREM : Nat := 0xC001C
abbrev BTM_LASTADJ : Nat := 0xC0020
abbrev BTM_HWS : Nat := 0xC0024
abbrev BTM_OUT (i : Nat) : Nat := 0xC0030 + 4 * i
abbrev SAF_STAT : Nat := 0xD0000
abbrev SAF_CAUSE : Nat := 0xD0004
abbrev SAF_LATCH : Nat := 0xD0008
abbrev SAF_FIRST : Nat := 0xD000C
abbrev SAF_IN : Nat := 0xD0010
abbrev SAF_OUT : Nat := 0xD0014
abbrev SAF_CRC : Nat := 0xD0018
abbrev SAF_CRCCONF : Nat := 0xD001C
abbrev SAF_CNT : Nat := 0xD0020
abbrev EFT_STAT : Nat := 0xE0000
abbrev EFT_EVT : Nat := 0xE0004
abbrev EFT_RCM : Nat := 0xE0008
abbrev EFT_IMD : Nat := 0xE000C
abbrev EFT_IMDPOS : Nat := 0xE0010
abbrev EFT_IMDNEG : Nat := 0xE0014
abbrev EFT_IMDCNT : Nat := 0xE0018
abbrev EFT_TRIPCFG (i : Nat) : Nat := 0xE0020 + 4 * i
abbrev EFT_TRIPMAP : Nat := 0xE0030
abbrev EFT_TRIPCTL : Nat := 0xE0034
abbrev EFT_TESTAGE : Nat := 0xE0038
abbrev SWC_STAT : Nat := 0xF0000
abbrev SWC_EVT : Nat := 0xF0004
abbrev SWC_REFUSE : Nat := 0xF0008
abbrev SWC_CYC (i : Nat) : Nat := 0xF0100 + 4 * i
abbrev SWC_TIME (i : Nat) : Nat := 0xF0120 + 4 * i
abbrev CPL_STAT : Nat := 0x100000
abbrev CPL_EVT : Nat := 0x100004
abbrev CPL_DUTY : Nat := 0x100008
abbrev CPL_LEVEL : Nat := 0x10000C
abbrev CPL_PPRES : Nat := 0x100010
abbrev CPL_BAGE : Nat := 0x100014
abbrev CPL_CNT : Nat := 0x100018
abbrev VPL_STAT : Nat := 0x110000
abbrev VPL_EVT : Nat := 0x110004
abbrev VPL_SLACFAIL : Nat := 0x110008
abbrev VPL_RUNID (i : Nat) : Nat := 0x110010 + 4 * i
abbrev VPL_EVMAC (i : Nat) : Nat := 0x110018 + 4 * i
abbrev VPL_ATTEN : Nat := 0x110020
abbrev VPL_GPCNT : Nat := 0x110024
abbrev VPL_RXDROP : Nat := 0x110028
abbrev VPL_MATCHCNT : Nat := 0x11002C
abbrev SES_STAT : Nat := 0x120000
abbrev SES_EVT : Nat := 0x120004
abbrev SES_CTL : Nat := 0x120008
abbrev SES_AUTHREQ : Nat := 0x12000C
abbrev SES_AUTHCTL : Nat := 0x120010
abbrev SES_ID (i : Nat) : Nat := 0x120014 + 4 * i
abbrev SES_END : Nat := 0x12001C
abbrev SES_ISET : Nat := 0x120020
abbrev SES_ILIMNOW : Nat := 0x120024
abbrev SES_ILIM : Nat := 0x120028
abbrev SES_GRANT : Nat := 0x12002C
abbrev SES_LEASE : Nat := 0x120030
abbrev SES_CONVOK : Nat := 0x120034
abbrev SES_CONVCNT : Nat := 0x120038
abbrev SES_CONV (i : Nat) : Nat := 0x120100 + 4 * i
abbrev ETH_STAT : Nat := 0x130000
abbrev ETH_EVT : Nat := 0x130004
abbrev ETH_CTL : Nat := 0x130008
abbrev ETH_GRP : Nat := 0x13000C
abbrev ETH_CAN (i : Nat) : Nat := 0x130040 + 4 * i
abbrev ETH_PCNT (i : Nat) : Nat := 0x130100 + 4 * i
abbrev PTP_STAT : Nat := 0x140000
abbrev PTP_EVT : Nat := 0x140004
abbrev PTP_ST (i : Nat) : Nat := 0x140010 + 4 * i
abbrev PTP_OFS (i : Nat) : Nat := 0x140020 + 4 * i
abbrev PTP_MPD (i : Nat) : Nat := 0x140028 + 4 * i
abbrev PTP_SLEWREM : Nat := 0x140030
abbrev PTP_EVTTS (i : Nat) : Nat := 0x140038 + 4 * i
abbrev PTP_UTC : Nat := 0x140040
abbrev PTP_GMID (i : Nat) (j : Nat) : Nat := 0x140050 + 8 * i + 4 * j
abbrev STG_STAT : Nat := 0x150000
abbrev STG_EVT : Nat := 0x150004
abbrev STG_TXEPOCH : Nat := 0x150008
abbrev STG_TXSEQ : Nat := 0x15000C
abbrev STG_NETRX (i : Nat) : Nat := 0x150010 + 4 * i
abbrev STG_LASTEP (i : Nat) : Nat := 0x150020 + 4 * i
abbrev STG_CNT (i : Nat) : Nat := 0x150100 + 4 * i
abbrev AMB_STAT : Nat := 0x160000
abbrev AMB_EVT : Nat := 0x160004
abbrev AMB_LAST : Nat := 0x160008
abbrev AMB_SNR (i : Nat) : Nat := 0x160040 + 4 * i
abbrev AMB_CNT (i : Nat) : Nat := 0x160080 + 4 * i
abbrev AMB_SITE (i : Nat) : Nat := 0x1600C0 + 4 * i
abbrev AMB_NODE (i : Nat) : Nat := 0x160400 + 4 * i
abbrev AMB_NODEX (i : Nat) : Nat := 0x160800 + 4 * i
abbrev DLM_STAT : Nat := 0x170000
abbrev DLM_EVT : Nat := 0x170004
abbrev DLM_ICNT (i : Nat) : Nat := 0x170010 + 4 * i
abbrev DLM_TXIC : Nat := 0x17001C
abbrev DLM_CNT (i : Nat) : Nat := 0x170100 + 4 * i
abbrev KEY_STAT : Nat := 0x180000
abbrev KEY_EVT : Nat := 0x180004
abbrev KEY_CMD : Nat := 0x180008
abbrev KEY_CMDUSE : Nat := 0x18000C
abbrev KEY_CTL : Nat := 0x180010
abbrev KEY_CMDSTAT : Nat := 0x180014
abbrev KEY_PUFBLK (i : Nat) : Nat := 0x180020 + 4 * i
abbrev KEY_DATA (i : Nat) : Nat := 0x180100 + 4 * i
abbrev KEY_SLOT (i : Nat) : Nat := 0x180400 + 4 * i
abbrev KEY_SLOTX (i : Nat) : Nat := 0x180800 + 4 * i
abbrev UPD_STAT : Nat := 0x190000
abbrev UPD_EVT : Nat := 0x190004
abbrev UPD_CTL : Nat := 0x190008
abbrev UPD_CODES : Nat := 0x19000C
abbrev UPD_SVN : Nat := 0x190010
abbrev UPD_LOCKCNT : Nat := 0x190014
abbrev UPD_VBAT : Nat := 0x190018
abbrev UPD_FWID (i : Nat) : Nat := 0x190020 + 4 * i
abbrev UPD_STGID (i : Nat) : Nat := 0x190030 + 4 * i
abbrev UPD_LOCKMSG (i : Nat) : Nat := 0x190100 + 4 * i
abbrev NFC_STAT : Nat := 0x1A0000
abbrev NFC_EVT : Nat := 0x1A0004
abbrev NFC_LAST : Nat := 0x1A0008
abbrev NFC_LISTCTL : Nat := 0x1A0010
abbrev NFC_TAGSTAT : Nat := 0x1A0020
abbrev NFC_TAGWCTL : Nat := 0x1A0024
abbrev NFC_LISTCNT : Nat := 0x1A0030
abbrev NFC_TAGCNT : Nat := 0x1A0034
abbrev NFC_TAGWDATA (i : Nat) : Nat := 0x1A0040 + 4 * i
abbrev NFC_LASTUID (i : Nat) : Nat := 0x1A0060 + 4 * i
abbrev NFC_LISTUID (i : Nat) : Nat := 0x1A0070 + 4 * i
abbrev LSW_STAT : Nat := 0x1B0000
abbrev LSW_EVT : Nat := 0x1B0004
abbrev LSW_VLS : Nat := 0x1B0008
abbrev LSW_LH : Nat := 0x1B000C
abbrev LSW_CTL (i : Nat) : Nat := 0x1B0100 + 4 * i
abbrev LSW_CH (i : Nat) : Nat := 0x1B0200 + 4 * i
abbrev LSW_CNT (i : Nat) : Nat := 0x1B0300 + 4 * i
abbrev LCD_STAT : Nat := 0x1C0000
abbrev LCD_EVT : Nat := 0x1C0004
abbrev LCD_BL : Nat := 0x1C0008
abbrev LCD_CTL : Nat := 0x1C000C
abbrev LCD_IMG (i : Nat) : Nat := 0x1C0100 + 4 * i
abbrev LCD_FAIL (i : Nat) : Nat := 0x1C0120 + 4 * i

end Sys2Proof.Reg

namespace Sys2Proof.Fd
open Sys2Proof.Reg


/-! ### SYS -/
abbrev SYS_ID_PART : RegField := ⟨SYS_ID, 16, 16⟩
abbrev SYS_ID_STEPLET : RegField := ⟨SYS_ID, 12, 4⟩
abbrev SYS_ID_STEPDIG : RegField := ⟨SYS_ID, 8, 4⟩
abbrev SYS_ID_VAR : RegField := ⟨SYS_ID, 0, 2⟩
abbrev SYS_RSTCAUSE_PREV : RegField := ⟨SYS_RSTCAUSE, 8, 8⟩
abbrev SYS_RSTCAUSE_LAST : RegField := ⟨SYS_RSTCAUSE, 0, 8⟩
abbrev SYS_RSTCTL_CORES : RegField := ⟨SYS_RSTCTL, 1, 1⟩
abbrev SYS_RSTCTL_MODULE : RegField := ⟨SYS_RSTCTL, 0, 1⟩
abbrev SYS_STARTS_MODULE : RegField := ⟨SYS_STARTS, 16, 16⟩
abbrev SYS_STARTS_CORES : RegField := ⟨SYS_STARTS, 0, 16⟩
abbrev SYS_METERID_ID (i : Nat) : RegField := ⟨(SYS_METERID i), 0, 32⟩
abbrev SYS_UPTIME_SEC : RegField := ⟨SYS_UPTIME, 0, 32⟩
abbrev SYS_BOOT_SRC : RegField := ⟨SYS_BOOT, 6, 2⟩
abbrev SYS_BOOT_APPLIED : RegField := ⟨SYS_BOOT, 5, 1⟩
abbrev SYS_BOOT_STATE : RegField := ⟨SYS_BOOT, 0, 2⟩
abbrev SYS_BOOTREJ_MRAM : RegField := ⟨SYS_BOOTREJ, 16, 8⟩
abbrev SYS_BOOTREJ_SLOTB : RegField := ⟨SYS_BOOTREJ, 8, 8⟩
abbrev SYS_BOOTREJ_SLOTA : RegField := ⟨SYS_BOOTREJ, 0, 8⟩
abbrev SYS_IMGSEQ_SEQ : RegField := ⟨SYS_IMGSEQ, 0, 32⟩
abbrev SYS_OVL_BOOTPEND : RegField := ⟨SYS_OVL, 16, 11⟩
abbrev SYS_OVL_ENTRIES : RegField := ⟨SYS_OVL, 0, 11⟩
abbrev SYS_IMGHASH_BYTES (i : Nat) : RegField := ⟨(SYS_IMGHASH i), 0, 32⟩
abbrev SYS_BOOTT_US (i : Nat) : RegField := ⟨(SYS_BOOTT i), 0, 32⟩
abbrev SYS_FLASH_MFR : RegField := ⟨SYS_FLASH, 24, 8⟩
abbrev SYS_FLASH_SIZELOG2 : RegField := ⟨SYS_FLASH, 16, 8⟩
abbrev SYS_FLASH_QUAD : RegField := ⟨SYS_FLASH, 1, 1⟩
abbrev SYS_FLASH_OK : RegField := ⟨SYS_FLASH, 0, 1⟩
abbrev SYS_CFGEVT_KEYENROL : RegField := ⟨SYS_CFGEVT, 5, 1⟩
abbrev SYS_CFGEVT_KEYROLL : RegField := ⟨SYS_CFGEVT, 4, 1⟩
abbrev SYS_CFGEVT_FIRST : RegField := ⟨SYS_CFGEVT, 3, 1⟩
abbrev SYS_CFGEVT_OVLDROP : RegField := ⟨SYS_CFGEVT, 2, 1⟩
abbrev SYS_CFGEVT_FALLBACK : RegField := ⟨SYS_CFGEVT, 1, 1⟩
abbrev SYS_CFGEVT_REJECT : RegField := ⟨SYS_CFGEVT, 0, 1⟩
abbrev SYS_FLT_NEW : RegField := ⟨SYS_FLT, 20, 1⟩
abbrev SYS_FLT_FWBANK : RegField := ⟨SYS_FLT, 19, 1⟩
abbrev SYS_FLT_BILLOST : RegField := ⟨SYS_FLT, 18, 1⟩
abbrev SYS_FLT_FUNC : RegField := ⟨SYS_FLT, 17, 1⟩
abbrev SYS_FLT_DEGR : RegField := ⟨SYS_FLT, 16, 1⟩
abbrev SYS_FLT_HELD : RegField := ⟨SYS_FLT, 0, 9⟩
abbrev SYS_FLTLAST_CLASS : RegField := ⟨SYS_FLTLAST, 16, 4⟩
abbrev SYS_FLTLAST_ISL : RegField := ⟨SYS_FLTLAST, 12, 4⟩
abbrev SYS_FLTLAST_CAUSE : RegField := ⟨SYS_FLTLAST, 0, 8⟩
abbrev SYS_FLTCNT_RESTARTS (i : Nat) : RegField := ⟨(SYS_FLTCNT i), 16, 16⟩
abbrev SYS_FLTCNT_FLUSHED (i : Nat) : RegField := ⟨(SYS_FLTCNT i), 0, 16⟩
abbrev SYS_XSTAT_NOOVF (i : Nat) : RegField := ⟨(SYS_XSTAT i), 31, 1⟩
abbrev SYS_XSTAT_BPNOW (i : Nat) : RegField := ⟨(SYS_XSTAT i), 30, 1⟩
abbrev SYS_XSTAT_DEPTH (i : Nat) : RegField := ⟨(SYS_XSTAT i), 22, 6⟩
abbrev SYS_XSTAT_HWM (i : Nat) : RegField := ⟨(SYS_XSTAT i), 16, 6⟩
abbrev SYS_XSTAT_BPCNT (i : Nat) : RegField := ⟨(SYS_XSTAT i), 0, 16⟩
abbrev SYS_XCLR_CLR : RegField := ⟨SYS_XCLR, 0, 21⟩

/-! ### TTB -/
abbrev TTB_STAT_CFGDEF : RegField := ⟨TTB_STAT, 1, 1⟩
abbrev TTB_STAT_PFMODE : RegField := ⟨TTB_STAT, 0, 1⟩
abbrev TTB_CLR_CLRUSE : RegField := ⟨TTB_CLR, 0, 1⟩
abbrev TTB_BUD_FLOOR (i : Nat) : RegField := ⟨(TTB_BUD i), 8, 1⟩
abbrev TTB_BUD_BUDGET (i : Nat) : RegField := ⟨(TTB_BUD i), 0, 8⟩
abbrev TTB_USE_DENY (i : Nat) : RegField := ⟨(TTB_USE i), 16, 16⟩
abbrev TTB_USE_MAX (i : Nat) : RegField := ⟨(TTB_USE i), 8, 8⟩
abbrev TTB_USE_LAST (i : Nat) : RegField := ⟨(TTB_USE i), 0, 8⟩

/-! ### TOK -/
abbrev TOK_POWER_COMMITMW : RegField := ⟨TOK_POWER, 16, 16⟩
abbrev TOK_POWER_BASEMW : RegField := ⟨TOK_POWER, 0, 16⟩
abbrev TOK_BUDGET_INRUSHMA : RegField := ⟨TOK_BUDGET, 16, 16⟩
abbrev TOK_BUDGET_LOGICMW : RegField := ⟨TOK_BUDGET, 0, 16⟩
abbrev TOK_STAT_VLOW : RegField := ⟨TOK_STAT, 17, 1⟩
abbrev TOK_STAT_PFBLOCK : RegField := ⟨TOK_STAT, 16, 1⟩
abbrev TOK_STAT_DEFERRED : RegField := ⟨TOK_STAT, 8, 5⟩
abbrev TOK_STAT_HELD : RegField := ⟨TOK_STAT, 0, 5⟩
abbrev TOK_EVT_TIMEOUT : RegField := ⟨TOK_EVT, 2, 1⟩
abbrev TOK_EVT_OVERRUN : RegField := ⟨TOK_EVT, 1, 1⟩
abbrev TOK_EVT_REFUSED : RegField := ⟨TOK_EVT, 0, 1⟩
abbrev TOK_LAST_REASON : RegField := ⟨TOK_LAST, 4, 4⟩
abbrev TOK_LAST_KIND : RegField := ⟨TOK_LAST, 0, 4⟩
abbrev TOK_CNT_OVERRUNS (i : Nat) : RegField := ⟨(TOK_CNT i), 24, 8⟩
abbrev TOK_CNT_REFUSALS (i : Nat) : RegField := ⟨(TOK_CNT i), 16, 8⟩
abbrev TOK_CNT_GRANTS (i : Nat) : RegField := ⟨(TOK_CNT i), 0, 16⟩

/-! ### PWR -/
abbrev PWR_STAT_V33OK : RegField := ⟨PWR_STAT, 7, 1⟩
abbrev PWR_STAT_VISOOK : RegField := ⟨PWR_STAT, 6, 1⟩
abbrev PWR_STAT_VCOREOK : RegField := ⟨PWR_STAT, 5, 1⟩
abbrev PWR_STAT_V18OK : RegField := ⟨PWR_STAT, 4, 1⟩
abbrev PWR_STAT_VIOOK : RegField := ⟨PWR_STAT, 3, 1⟩
abbrev PWR_STAT_ONBAT : RegField := ⟨PWR_STAT, 2, 1⟩
abbrev PWR_STAT_PFW : RegField := ⟨PWR_STAT, 1, 1⟩
abbrev PWR_STAT_PG : RegField := ⟨PWR_STAT, 0, 1⟩
abbrev PWR_EVT_NOBAT : RegField := ⟨PWR_EVT, 4, 1⟩
abbrev PWR_EVT_RAIL : RegField := ⟨PWR_EVT, 3, 1⟩
abbrev PWR_EVT_HOLDFAIL : RegField := ⟨PWR_EVT, 2, 1⟩
abbrev PWR_EVT_BOR : RegField := ⟨PWR_EVT, 1, 1⟩
abbrev PWR_EVT_PFW : RegField := ⟨PWR_EVT, 0, 1⟩
abbrev PWR_VSYS_MIN : RegField := ⟨PWR_VSYS, 16, 16⟩
abbrev PWR_VSYS_MV : RegField := ⟨PWR_VSYS, 0, 16⟩
abbrev PWR_VBAT_LOAD : RegField := ⟨PWR_VBAT, 16, 16⟩
abbrev PWR_VBAT_OPEN : RegField := ⟨PWR_VBAT, 0, 16⟩
abbrev PWR_HOLD_SAVE : RegField := ⟨PWR_HOLD, 16, 16⟩
abbrev PWR_HOLD_HOLDMS : RegField := ⟨PWR_HOLD, 0, 16⟩
abbrev PWR_PFCNT_BORS : RegField := ⟨PWR_PFCNT, 16, 16⟩
abbrev PWR_PFCNT_PFWS : RegField := ⟨PWR_PFCNT, 0, 16⟩
abbrev PWR_PIN_MW : RegField := ⟨PWR_PIN, 0, 16⟩
abbrev PWR_TEMP_MAXT : RegField := ⟨PWR_TEMP, 24, 8⟩
abbrev PWR_TEMP_HOT : RegField := ⟨PWR_TEMP, 17, 1⟩
abbrev PWR_TEMP_WARM : RegField := ⟨PWR_TEMP, 16, 1⟩
abbrev PWR_TEMP_TDIE : RegField := ⟨PWR_TEMP, 0, 16⟩
abbrev PWR_TEMPEVT_SHUT : RegField := ⟨PWR_TEMPEVT, 1, 1⟩
abbrev PWR_TEMPEVT_WARM : RegField := ⟨PWR_TEMPEVT, 0, 1⟩

/-! ### CLK -/
abbrev CLK_STAT_SPARE : RegField := ⟨CLK_STAT, 16, 9⟩
abbrev CLK_STAT_OK : RegField := ⟨CLK_STAT, 0, 9⟩
abbrev CLK_EVT_XBFAIL : RegField := ⟨CLK_EVT, 3, 1⟩
abbrev CLK_EVT_NOSPARE : RegField := ⟨CLK_EVT, 2, 1⟩
abbrev CLK_EVT_SWITCH : RegField := ⟨CLK_EVT, 1, 1⟩
abbrev CLK_EVT_FAULT : RegField := ⟨CLK_EVT, 0, 1⟩
abbrev CLK_CTL_XBCAL : RegField := ⟨CLK_CTL, 0, 1⟩
abbrev CLK_XBMEAS_OFS : RegField := ⟨CLK_XBMEAS, 0, 32⟩
abbrev CLK_ISL_FREQ (i : Nat) : RegField := ⟨(CLK_ISL i), 8, 24⟩
abbrev CLK_ISL_SRC (i : Nat) : RegField := ⟨(CLK_ISL i), 4, 2⟩
abbrev CLK_ISL_STATE (i : Nat) : RegField := ⟨(CLK_ISL i), 0, 3⟩

/-! ### MEM -/
abbrev MEM_STAT_SCRUBPCT : RegField := ⟨MEM_STAT, 16, 8⟩
abbrev MEM_STAT_MOVING : RegField := ⟨MEM_STAT, 2, 1⟩
abbrev MEM_STAT_SCRUB : RegField := ⟨MEM_STAT, 1, 1⟩
abbrev MEM_STAT_READY : RegField := ⟨MEM_STAT, 0, 1⟩
abbrev MEM_EVT_SCRUBLATE : RegField := ⟨MEM_EVT, 5, 1⟩
abbrev MEM_EVT_LIFEWARN : RegField := ⟨MEM_EVT, 4, 1⟩
abbrev MEM_EVT_NOSPARE : RegField := ⟨MEM_EVT, 3, 1⟩
abbrev MEM_EVT_REPLACE : RegField := ⟨MEM_EVT, 2, 1⟩
abbrev MEM_EVT_UNCORR : RegField := ⟨MEM_EVT, 1, 1⟩
abbrev MEM_EVT_CORR : RegField := ⟨MEM_EVT, 0, 1⟩
abbrev MEM_ECC_UNCORR (i : Nat) : RegField := ⟨(MEM_ECC i), 16, 16⟩
abbrev MEM_ECC_CORR (i : Nat) : RegField := ⟨(MEM_ECC i), 0, 16⟩
abbrev MEM_LASTERR_MEMORY : RegField := ⟨MEM_LASTERR, 30, 2⟩
abbrev MEM_LASTERR_UNC : RegField := ⟨MEM_LASTERR, 29, 1⟩
abbrev MEM_LASTERR_CWORD : RegField := ⟨MEM_LASTERR, 0, 29⟩
abbrev MEM_KIND_WEAR (i : Nat) : RegField := ⟨(MEM_KIND i), 22, 10⟩
abbrev MEM_KIND_USED (i : Nat) : RegField := ⟨(MEM_KIND i), 11, 11⟩
abbrev MEM_KIND_LEFT (i : Nat) : RegField := ⟨(MEM_KIND i), 0, 11⟩
abbrev MEM_LIFE_EVENTS (i : Nat) : RegField := ⟨(MEM_LIFE i), 16, 16⟩
abbrev MEM_LIFE_LIFE (i : Nat) : RegField := ⟨(MEM_LIFE i), 0, 16⟩

/-! ### SHN -/
abbrev SHN_BUSY_CH : RegField := ⟨SHN_BUSY, 0, 32⟩
abbrev SHN_DONE_CH : RegField := ⟨SHN_DONE, 0, 32⟩
abbrev SHN_ERR_CH : RegField := ⟨SHN_ERR, 0, 32⟩
abbrev SHN_SHDV_CH : RegField := ⟨SHN_SHDV, 0, 32⟩
abbrev SHN_CHCTL_STOP : RegField := ⟨SHN_CHCTL, 8, 1⟩
abbrev SHN_CHCTL_CH : RegField := ⟨SHN_CHCTL, 0, 5⟩
abbrev SHN_CH_STATE (i : Nat) : RegField := ⟨(SHN_CH i), 30, 2⟩
abbrev SHN_CH_ERRCODE (i : Nat) : RegField := ⟨(SHN_CH i), 24, 4⟩
abbrev SHN_CH_DONE (i : Nat) : RegField := ⟨(SHN_CH i), 0, 24⟩
abbrev SHN_CMP_MISM (i : Nat) : RegField := ⟨(SHN_CMP i), 24, 8⟩
abbrev SHN_CMP_FIRST (i : Nat) : RegField := ⟨(SHN_CMP i), 0, 24⟩
abbrev SHN_DESC_VALID (i : Nat) (j : Nat) : RegField := ⟨(SHN_DESC i j), 31, 1⟩
abbrev SHN_DESC_NOCMP (i : Nat) (j : Nat) : RegField := ⟨(SHN_DESC i j), 13, 1⟩
abbrev SHN_DESC_CMPCONST (i : Nat) (j : Nat) : RegField := ⟨(SHN_DESC i j), 12, 1⟩
abbrev SHN_DESC_NCH (i : Nat) (j : Nat) : RegField := ⟨(SHN_DESC i j), 8, 4⟩
abbrev SHN_DESC_BAR (i : Nat) (j : Nat) : RegField := ⟨(SHN_DESC i j), 6, 1⟩
abbrev SHN_DESC_ES (i : Nat) (j : Nat) : RegField := ⟨(SHN_DESC i j), 4, 2⟩
abbrev SHN_DESC_OP (i : Nat) (j : Nat) : RegField := ⟨(SHN_DESC i j), 0, 4⟩

/-! ### HIF -/
abbrev HIF_STAT_MBQ31 : RegField := ⟨HIF_STAT, 28, 4⟩
abbrev HIF_STAT_MBQ30 : RegField := ⟨HIF_STAT, 24, 4⟩
abbrev HIF_STAT_MBQ29 : RegField := ⟨HIF_STAT, 20, 4⟩
abbrev HIF_STAT_MBQ28 : RegField := ⟨HIF_STAT, 16, 4⟩
abbrev HIF_STAT_HOSTABS : RegField := ⟨HIF_STAT, 5, 1⟩
abbrev HIF_STAT_ETHCONN : RegField := ⟨HIF_STAT, 4, 1⟩
abbrev HIF_STAT_ETHLVL : RegField := ⟨HIF_STAT, 2, 2⟩
abbrev HIF_STAT_SPILVL : RegField := ⟨HIF_STAT, 0, 2⟩
abbrev HIF_EVT_ETHREF : RegField := ⟨HIF_EVT, 8, 1⟩
abbrev HIF_EVT_MBFULL : RegField := ⟨HIF_EVT, 7, 1⟩
abbrev HIF_EVT_NTFLOST : RegField := ⟨HIF_EVT, 6, 1⟩
abbrev HIF_EVT_SESEND : RegField := ⟨HIF_EVT, 5, 1⟩
abbrev HIF_EVT_SESLOCK : RegField := ⟨HIF_EVT, 4, 1⟩
abbrev HIF_EVT_SESFAIL : RegField := ⟨HIF_EVT, 3, 1⟩
abbrev HIF_EVT_ACCERR : RegField := ⟨HIF_EVT, 2, 1⟩
abbrev HIF_EVT_ADDRERR : RegField := ⟨HIF_EVT, 1, 1⟩
abbrev HIF_EVT_SPICRC : RegField := ⟨HIF_EVT, 0, 1⟩
abbrev HIF_ISRC_AUTH : RegField := ⟨HIF_ISRC, 30, 1⟩
abbrev HIF_ISRC_MB29 : RegField := ⟨HIF_ISRC, 29, 1⟩
abbrev HIF_ISRC_MB28 : RegField := ⟨HIF_ISRC, 28, 1⟩
abbrev HIF_ISRC_EVT2 : RegField := ⟨HIF_ISRC, 12, 16⟩
abbrev HIF_ISRC_SAF : RegField := ⟨HIF_ISRC, 11, 1⟩
abbrev HIF_ISRC_EVT1 : RegField := ⟨HIF_ISRC, 0, 11⟩
abbrev HIF_IEN_EN : RegField := ⟨HIF_IEN, 0, 32⟩
abbrev HIF_SESCTL_CLOSE (p : Path) : RegField := ⟨(HIF_SESCTL p), 6, 1⟩
abbrev HIF_SESCTL_GO (p : Path) : RegField := ⟨(HIF_SESCTL p), 5, 1⟩
abbrev HIF_SESCTL_NEWCHAL (p : Path) : RegField := ⟨(HIF_SESCTL p), 4, 1⟩
abbrev HIF_SESCTL_LEVEL (p : Path) : RegField := ⟨(HIF_SESCTL p), 0, 2⟩
abbrev HIF_SESSTAT_LOCKS (p : Path) : RegField := ⟨(HIF_SESSTAT p), 16, 8⟩
abbrev HIF_SESSTAT_BUSY (p : Path) : RegField := ⟨(HIF_SESSTAT p), 8, 1⟩
abbrev HIF_SESSTAT_RESULT (p : Path) : RegField := ⟨(HIF_SESSTAT p), 0, 8⟩
abbrev HIF_PCMD_GO (p : Path) : RegField := ⟨(HIF_PCMD p), 31, 1⟩
abbrev HIF_PCMD_BLK (p : Path) : RegField := ⟨(HIF_PCMD p), 16, 8⟩
abbrev HIF_PCMD_OP (p : Path) : RegField := ⟨(HIF_PCMD p), 14, 2⟩
abbrev HIF_PCMD_SRC (p : Path) : RegField := ⟨(HIF_PCMD p), 12, 2⟩
abbrev HIF_PCMD_LEN (p : Path) : RegField := ⟨(HIF_PCMD p), 10, 2⟩
abbrev HIF_PCMD_ID (p : Path) : RegField := ⟨(HIF_PCMD p), 0, 10⟩
abbrev HIF_PVAL_VALUE (p : Path) : RegField := ⟨(HIF_PVAL p), 0, 32⟩
abbrev HIF_PRES_APPLIED (p : Path) : RegField := ⟨(HIF_PRES p), 18, 2⟩
abbrev HIF_PRES_LAYER (p : Path) : RegField := ⟨(HIF_PRES p), 16, 2⟩
abbrev HIF_PRES_BUSY (p : Path) : RegField := ⟨(HIF_PRES p), 8, 1⟩
abbrev HIF_PRES_CODE (p : Path) : RegField := ⟨(HIF_PRES p), 0, 8⟩

/-! ### AFE -/
abbrev AFE_ID_DIELET : RegField := ⟨AFE_ID, 12, 4⟩
abbrev AFE_ID_DIEDIG : RegField := ⟨AFE_ID, 8, 4⟩
abbrev AFE_ID_VAR : RegField := ⟨AFE_ID, 0, 2⟩
abbrev AFE_STAT_INVALID : RegField := ⟨AFE_STAT, 16, 16⟩
abbrev AFE_STAT_LSPARE : RegField := ⟨AFE_STAT, 14, 2⟩
abbrev AFE_STAT_CSPARE : RegField := ⟨AFE_STAT, 12, 2⟩
abbrev AFE_STAT_LINK : RegField := ⟨AFE_STAT, 3, 1⟩
abbrev AFE_STAT_DIEPG : RegField := ⟨AFE_STAT, 2, 1⟩
abbrev AFE_STAT_ROTON : RegField := ⟨AFE_STAT, 1, 1⟩
abbrev AFE_STAT_READY : RegField := ⟨AFE_STAT, 0, 1⟩
abbrev AFE_ROT_CYCLES : RegField := ⟨AFE_ROT, 16, 16⟩
abbrev AFE_ROT_PHASE : RegField := ⟨AFE_ROT, 8, 4⟩
abbrev AFE_ROT_SPARE : RegField := ⟨AFE_ROT, 4, 4⟩
abbrev AFE_ROT_ROLE : RegField := ⟨AFE_ROT, 0, 4⟩
abbrev AFE_EVT_INVAL : RegField := ⟨AFE_EVT, 8, 1⟩
abbrev AFE_EVT_LANEFAULT : RegField := ⟨AFE_EVT, 6, 1⟩
abbrev AFE_EVT_STEP : RegField := ⟨AFE_EVT, 5, 1⟩
abbrev AFE_EVT_CONVFAULT : RegField := ⟨AFE_EVT, 4, 1⟩
abbrev AFE_EVT_CONVWARN : RegField := ⟨AFE_EVT, 3, 1⟩
abbrev AFE_EVT_MATCHFAIL : RegField := ⟨AFE_EVT, 2, 1⟩
abbrev AFE_EVT_STUCK : RegField := ⟨AFE_EVT, 1, 1⟩
abbrev AFE_EVT_OVR : RegField := ⟨AFE_EVT, 0, 1⟩
abbrev AFE_LANE_FAULT : RegField := ⟨AFE_LANE, 12, 12⟩
abbrev AFE_LANE_SUB10 : RegField := ⟨AFE_LANE, 8, 4⟩
abbrev AFE_LANE_SUB11 : RegField := ⟨AFE_LANE, 4, 4⟩
abbrev AFE_MOD_STUCK : RegField := ⟨AFE_MOD, 16, 10⟩
abbrev AFE_MOD_ACT : RegField := ⟨AFE_MOD, 0, 10⟩
abbrev AFE_CH_AGE (i : Nat) : RegField := ⟨(AFE_CH i), 16, 16⟩
abbrev AFE_CH_FAULT (i : Nat) : RegField := ⟨(AFE_CH i), 10, 1⟩
abbrev AFE_CH_INV (i : Nat) : RegField := ⟨(AFE_CH i), 9, 1⟩
abbrev AFE_CH_OVR (i : Nat) : RegField := ⟨(AFE_CH i), 8, 1⟩
abbrev AFE_CH_CONV (i : Nat) : RegField := ⟨(AFE_CH i), 0, 4⟩
abbrev AFE_CGAIN_VALUE (i : Nat) : RegField := ⟨(AFE_CGAIN i), 0, 32⟩
abbrev AFE_COFS_VALUE (i : Nat) : RegField := ⟨(AFE_COFS i), 0, 32⟩
abbrev AFE_CSTATE_CHECKS (i : Nat) : RegField := ⟨(AFE_CSTATE i), 16, 16⟩
abbrev AFE_CSTATE_WARNS (i : Nat) : RegField := ⟨(AFE_CSTATE i), 8, 8⟩
abbrev AFE_CSTATE_ROLE (i : Nat) : RegField := ⟨(AFE_CSTATE i), 4, 4⟩
abbrev AFE_CSTATE_STATE (i : Nat) : RegField := ⟨(AFE_CSTATE i), 0, 3⟩

/-! ### MTR -/
abbrev MTR_STAT_QGATE : RegField := ⟨MTR_STAT, 21, 3⟩
abbrev MTR_STAT_PGATE : RegField := ⟨MTR_STAT, 16, 5⟩
abbrev MTR_STAT_SEQOK : RegField := ⟨MTR_STAT, 2, 1⟩
abbrev MTR_STAT_FREQOK : RegField := ⟨MTR_STAT, 1, 1⟩
abbrev MTR_STAT_READY : RegField := ⟨MTR_STAT, 0, 1⟩
abbrev MTR_EVT_PHREFUSE : RegField := ⟨MTR_EVT, 7, 1⟩
abbrev MTR_EVT_CORRAPL : RegField := ⟨MTR_EVT, 6, 1⟩
abbrev MTR_EVT_NEUTRAL : RegField := ⟨MTR_EVT, 5, 1⟩
abbrev MTR_EVT_SEQ : RegField := ⟨MTR_EVT, 4, 1⟩
abbrev MTR_EVT_FREQ : RegField := ⟨MTR_EVT, 3, 1⟩
abbrev MTR_EVT_OVRBLK : RegField := ⟨MTR_EVT, 2, 1⟩
abbrev MTR_EVT_ESTIM : RegField := ⟨MTR_EVT, 1, 1⟩
abbrev MTR_EVT_GAP : RegField := ⟨MTR_EVT, 0, 1⟩
abbrev MTR_BLKCNT_COUNT : RegField := ⟨MTR_BLKCNT, 0, 32⟩
abbrev MTR_BLKSTAT_FREQOK : RegField := ⟨MTR_BLKSTAT, 24, 1⟩
abbrev MTR_BLKSTAT_QGATE : RegField := ⟨MTR_BLKSTAT, 21, 3⟩
abbrev MTR_BLKSTAT_PGATE : RegField := ⟨MTR_BLKSTAT, 16, 5⟩
abbrev MTR_BLKSTAT_CORR : RegField := ⟨MTR_BLKSTAT, 15, 1⟩
abbrev MTR_BLKSTAT_OVR : RegField := ⟨MTR_BLKSTAT, 10, 5⟩
abbrev MTR_BLKSTAT_MISSING : RegField := ⟨MTR_BLKSTAT, 5, 5⟩
abbrev MTR_BLKSTAT_ESTIM : RegField := ⟨MTR_BLKSTAT, 0, 5⟩
abbrev MTR_FREQ_MHZ : RegField := ⟨MTR_FREQ, 0, 16⟩
abbrev MTR_PF_ANGLE (i : Nat) : RegField := ⟨(MTR_PF i), 16, 16⟩
abbrev MTR_PF_PF (i : Nat) : RegField := ⟨(MTR_PF i), 0, 16⟩
abbrev MTR_SEG_SEG (i : Nat) : RegField := ⟨(MTR_SEG i), 0, 4⟩

/-! ### PTS -/
abbrev PTS_STAT_HELD : RegField := ⟨PTS_STAT, 3, 1⟩
abbrev PTS_STAT_ACTIVE : RegField := ⟨PTS_STAT, 2, 1⟩
abbrev PTS_STAT_MODE : RegField := ⟨PTS_STAT, 0, 2⟩
abbrev PTS_EVT_SWAP : RegField := ⟨PTS_EVT, 8, 1⟩
abbrev PTS_EVT_STFAIL : RegField := ⟨PTS_EVT, 7, 1⟩
abbrev PTS_EVT_SHADOWTO : RegField := ⟨PTS_EVT, 6, 1⟩
abbrev PTS_EVT_ESTGAP : RegField := ⟨PTS_EVT, 5, 1⟩
abbrev PTS_EVT_RETIRE : RegField := ⟨PTS_EVT, 4, 1⟩
abbrev PTS_EVT_REJOIN : RegField := ⟨PTS_EVT, 3, 1⟩
abbrev PTS_EVT_FAULT : RegField := ⟨PTS_EVT, 2, 1⟩
abbrev PTS_EVT_MISMATCH : RegField := ⟨PTS_EVT, 1, 1⟩
abbrev PTS_EVT_CHANGE : RegField := ⟨PTS_EVT, 0, 1⟩
abbrev PTS_CTL_CLRMISM : RegField := ⟨PTS_CTL, 2, 1⟩
abbrev PTS_CTL_TRIAL : RegField := ⟨PTS_CTL, 1, 1⟩
abbrev PTS_CTL_STNOW : RegField := ⟨PTS_CTL, 0, 1⟩
abbrev PTS_ENG_CLEAN (i : Nat) : RegField := ⟨(PTS_ENG i), 16, 16⟩
abbrev PTS_ENG_FAULTS (i : Nat) : RegField := ⟨(PTS_ENG i), 8, 8⟩
abbrev PTS_ENG_CAUSE (i : Nat) : RegField := ⟨(PTS_ENG i), 4, 4⟩
abbrev PTS_ENG_STATE (i : Nat) : RegField := ⟨(PTS_ENG i), 0, 3⟩
abbrev PTS_CNT_CHANGES : RegField := ⟨PTS_CNT, 16, 16⟩
abbrev PTS_CNT_MISM : RegField := ⟨PTS_CNT, 0, 16⟩
abbrev PTS_LASTCHG_BLOCK : RegField := ⟨PTS_LASTCHG, 0, 32⟩
abbrev PTS_TRIALBLK_COUNT : RegField := ⟨PTS_TRIALBLK, 0, 32⟩
abbrev PTS_TRIAL_HALF (i : Nat) : RegField := ⟨(PTS_TRIAL i), 0, 32⟩

/-! ### BIL -/
abbrev BIL_STAT_WBFULL : RegField := ⟨BIL_STAT, 29, 1⟩
abbrev BIL_STAT_PEND : RegField := ⟨BIL_STAT, 16, 13⟩
abbrev BIL_STAT_RATE : RegField := ⟨BIL_STAT, 8, 8⟩
abbrev BIL_STAT_CRSTATE : RegField := ⟨BIL_STAT, 5, 3⟩
abbrev BIL_STAT_PASSIVE : RegField := ⟨BIL_STAT, 4, 1⟩
abbrev BIL_STAT_SNAPON : RegField := ⟨BIL_STAT, 3, 1⟩
abbrev BIL_STAT_HOLD : RegField := ⟨BIL_STAT, 2, 1⟩
abbrev BIL_STAT_ROLLBACK : RegField := ⟨BIL_STAT, 1, 1⟩
abbrev BIL_STAT_READY : RegField := ⟨BIL_STAT, 0, 1⟩
abbrev BIL_EVT_PFLOSS : RegField := ⟨BIL_EVT, 13, 1⟩
abbrev BIL_EVT_JREPLAY : RegField := ⟨BIL_EVT, 12, 1⟩
abbrev BIL_EVT_WBSKIP : RegField := ⟨BIL_EVT, 11, 1⟩
abbrev BIL_EVT_TOPREJ : RegField := ⟨BIL_EVT, 10, 1⟩
abbrev BIL_EVT_TOPUP : RegField := ⟨BIL_EVT, 9, 1⟩
abbrev BIL_EVT_CREXH : RegField := ⟨BIL_EVT, 8, 1⟩
abbrev BIL_EVT_CRLOW : RegField := ⟨BIL_EVT, 7, 1⟩
abbrev BIL_EVT_TTREJ : RegField := ⟨BIL_EVT, 6, 1⟩
abbrev BIL_EVT_TTACT : RegField := ⟨BIL_EVT, 5, 1⟩
abbrev BIL_EVT_CALERR : RegField := ⟨BIL_EVT, 4, 1⟩
abbrev BIL_EVT_ESTIM : RegField := ⟨BIL_EVT, 3, 1⟩
abbrev BIL_EVT_MISSING : RegField := ⟨BIL_EVT, 2, 1⟩
abbrev BIL_EVT_FORCED : RegField := ⟨BIL_EVT, 1, 1⟩
abbrev BIL_EVT_ROLLBACK : RegField := ⟨BIL_EVT, 0, 1⟩
abbrev BIL_CTL_REL : RegField := ⟨BIL_CTL, 1, 1⟩
abbrev BIL_CTL_SNAP : RegField := ⟨BIL_CTL, 0, 1⟩
abbrev BIL_TTGEN_PASSIVE : RegField := ⟨BIL_TTGEN, 16, 16⟩
abbrev BIL_TTGEN_ACTIVE : RegField := ⟨BIL_TTGEN, 0, 16⟩
abbrev BIL_ROLLCNT_FORCED : RegField := ⟨BIL_ROLLCNT, 16, 16⟩
abbrev BIL_ROLLCNT_ROLLBACKS : RegField := ⟨BIL_ROLLCNT, 0, 16⟩
abbrev BIL_WBUNS_SKIPPED : RegField := ⟨BIL_WBUNS, 16, 16⟩
abbrev BIL_WBUNS_WAITING : RegField := ⟨BIL_WBUNS, 0, 16⟩
abbrev BIL_LPCNT_LP2 : RegField := ⟨BIL_LPCNT, 16, 16⟩
abbrev BIL_LPCNT_LP1 : RegField := ⟨BIL_LPCNT, 0, 16⟩
abbrev BIL_DISC_FAULT : RegField := ⟨BIL_DISC, 12, 1⟩
abbrev BIL_DISC_REQ : RegField := ⟨BIL_DISC, 8, 4⟩
abbrev BIL_DISC_FB : RegField := ⟨BIL_DISC, 2, 1⟩
abbrev BIL_DISC_STATE : RegField := ⟨BIL_DISC, 0, 2⟩
abbrev BIL_DISCCTL_RECON : RegField := ⟨BIL_DISCCTL, 1, 1⟩
abbrev BIL_DISCCTL_DISC : RegField := ⟨BIL_DISCCTL, 0, 1⟩

/-! ### BTM -/
abbrev BTM_TIME_SEC : RegField := ⟨BTM_TIME, 0, 32⟩
abbrev BTM_STAT_BATLOW : RegField := ⟨BTM_STAT, 7, 1⟩
abbrev BTM_STAT_OUTCAP : RegField := ⟨BTM_STAT, 6, 1⟩
abbrev BTM_STAT_TERM : RegField := ⟨BTM_STAT, 5, 1⟩
abbrev BTM_STAT_COVER : RegField := ⟨BTM_STAT, 4, 1⟩
abbrev BTM_STAT_DST : RegField := ⟨BTM_STAT, 3, 1⟩
abbrev BTM_STAT_PTPLOCK : RegField := ⟨BTM_STAT, 2, 1⟩
abbrev BTM_STAT_SLEW : RegField := ⟨BTM_STAT, 1, 1⟩
abbrev BTM_STAT_VALID : RegField := ⟨BTM_STAT, 0, 1⟩
abbrev BTM_EVT_TBUFOVF : RegField := ⟨BTM_EVT, 7, 1⟩
abbrev BTM_EVT_OUTCUR : RegField := ⟨BTM_EVT, 6, 1⟩
abbrev BTM_EVT_TERM : RegField := ⟨BTM_EVT, 5, 1⟩
abbrev BTM_EVT_COVER : RegField := ⟨BTM_EVT, 4, 1⟩
abbrev BTM_EVT_CLKLOST : RegField := ⟨BTM_EVT, 3, 1⟩
abbrev BTM_EVT_PTPDIFF : RegField := ⟨BTM_EVT, 2, 1⟩
abbrev BTM_EVT_REFUSED : RegField := ⟨BTM_EVT, 1, 1⟩
abbrev BTM_EVT_STEP : RegField := ⟨BTM_EVT, 0, 1⟩
abbrev BTM_SETVAL_SEC : RegField := ⟨BTM_SETVAL, 0, 32⟩
abbrev BTM_SETCTL_RESET : RegField := ⟨BTM_SETCTL, 1, 1⟩
abbrev BTM_SETCTL_GO : RegField := ⟨BTM_SETCTL, 0, 1⟩
abbrev BTM_TRIM_LEARN : RegField := ⟨BTM_TRIM, 16, 16⟩
abbrev BTM_TRIM_TOTAL : RegField := ⟨BTM_TRIM, 0, 16⟩
abbrev BTM_TAMPCNT_TERM : RegField := ⟨BTM_TAMPCNT, 16, 16⟩
abbrev BTM_TAMPCNT_COVER : RegField := ⟨BTM_TAMPCNT, 0, 16⟩

/-! ### SAF -/
abbrev SAF_STAT_SEAL : RegField := ⟨SAF_STAT, 6, 4⟩
abbrev SAF_STAT_MODE : RegField := ⟨SAF_STAT, 5, 1⟩
abbrev SAF_STAT_CONFOK : RegField := ⟨SAF_STAT, 4, 1⟩
abbrev SAF_STAT_RSTREADY : RegField := ⟨SAF_STAT, 3, 1⟩
abbrev SAF_STAT_STATE : RegField := ⟨SAF_STAT, 0, 2⟩
abbrev SAF_CAUSE_ACTIVE : RegField := ⟨SAF_CAUSE, 0, 22⟩
abbrev SAF_LATCH_LATCHED : RegField := ⟨SAF_LATCH, 0, 22⟩
abbrev SAF_FIRST_CAUSE : RegField := ⟨SAF_FIRST, 0, 5⟩
abbrev SAF_IN_DISCFB : RegField := ⟨SAF_IN, 20, 1⟩
abbrev SAF_IN_CONTFB : RegField := ⟨SAF_IN, 16, 4⟩
abbrev SAF_IN_RST : RegField := ⟨SAF_IN, 12, 1⟩
abbrev SAF_IN_SEAL : RegField := ⟨SAF_IN, 8, 4⟩
abbrev SAF_IN_SI : RegField := ⟨SAF_IN, 0, 8⟩
abbrev SAF_OUT_PILOT : RegField := ⟨SAF_OUT, 18, 2⟩
abbrev SAF_OUT_GOFFB : RegField := ⟨SAF_OUT, 17, 1⟩
abbrev SAF_OUT_GOFFA : RegField := ⟨SAF_OUT, 16, 1⟩
abbrev SAF_OUT_LOWSIDE : RegField := ⟨SAF_OUT, 4, 12⟩
abbrev SAF_OUT_SO : RegField := ⟨SAF_OUT, 0, 4⟩
abbrev SAF_CRC_VALUE : RegField := ⟨SAF_CRC, 0, 32⟩
abbrev SAF_CRCCONF_VALUE : RegField := ⟨SAF_CRCCONF, 0, 32⟩
abbrev SAF_CNT_STOPS : RegField := ⟨SAF_CNT, 16, 16⟩
abbrev SAF_CNT_RESETS : RegField := ⟨SAF_CNT, 0, 16⟩

/-! ### EFT -/
abbrev EFT_STAT_TRIPSRC : RegField := ⟨EFT_STAT, 16, 4⟩
abbrev EFT_STAT_TRIPB : RegField := ⟨EFT_STAT, 13, 1⟩
abbrev EFT_STAT_TRIPA : RegField := ⟨EFT_STAT, 12, 1⟩
abbrev EFT_STAT_IMDST : RegField := ⟨EFT_STAT, 10, 2⟩
abbrev EFT_STAT_IMDCOUP : RegField := ⟨EFT_STAT, 9, 1⟩
abbrev EFT_STAT_IMDRUN : RegField := ⟨EFT_STAT, 8, 1⟩
abbrev EFT_STAT_RCMTEST : RegField := ⟨EFT_STAT, 5, 1⟩
abbrev EFT_STAT_RCMDIAG : RegField := ⟨EFT_STAT, 4, 1⟩
abbrev EFT_STAT_RCMAC : RegField := ⟨EFT_STAT, 3, 1⟩
abbrev EFT_STAT_RCMDC : RegField := ⟨EFT_STAT, 2, 1⟩
abbrev EFT_STAT_TRIPTEST : RegField := ⟨EFT_STAT, 1, 1⟩
abbrev EFT_STAT_TRIPOK : RegField := ⟨EFT_STAT, 0, 1⟩
abbrev EFT_EVT_IMDCOUP : RegField := ⟨EFT_EVT, 8, 1⟩
abbrev EFT_EVT_PAIRMOVE : RegField := ⟨EFT_EVT, 7, 1⟩
abbrev EFT_EVT_LANEMOVE : RegField := ⟨EFT_EVT, 6, 1⟩
abbrev EFT_EVT_TESTFAIL : RegField := ⟨EFT_EVT, 5, 1⟩
abbrev EFT_EVT_RCMFAIL : RegField := ⟨EFT_EVT, 4, 1⟩
abbrev EFT_EVT_IMDWARN : RegField := ⟨EFT_EVT, 3, 1⟩
abbrev EFT_EVT_IMDFAULT : RegField := ⟨EFT_EVT, 2, 1⟩
abbrev EFT_EVT_RCDTRIP : RegField := ⟨EFT_EVT, 1, 1⟩
abbrev EFT_EVT_DCTRIP : RegField := ⟨EFT_EVT, 0, 1⟩
abbrev EFT_RCM_AC : RegField := ⟨EFT_RCM, 16, 16⟩
abbrev EFT_RCM_DC : RegField := ⟨EFT_RCM, 0, 16⟩
abbrev EFT_TRIPCFG_EN (i : Nat) : RegField := ⟨(EFT_TRIPCFG i), 16, 1⟩
abbrev EFT_TRIPCFG_LEVEL (i : Nat) : RegField := ⟨(EFT_TRIPCFG i), 0, 11⟩
abbrev EFT_TRIPMAP_LANEB : RegField := ⟨EFT_TRIPMAP, 8, 4⟩
abbrev EFT_TRIPMAP_LANEA : RegField := ⟨EFT_TRIPMAP, 4, 4⟩
abbrev EFT_TRIPMAP_PAIR2 : RegField := ⟨EFT_TRIPMAP, 2, 2⟩
abbrev EFT_TRIPMAP_PAIR1 : RegField := ⟨EFT_TRIPMAP, 0, 2⟩
abbrev EFT_TRIPCTL_RCMTEST : RegField := ⟨EFT_TRIPCTL, 1, 1⟩
abbrev EFT_TRIPCTL_TEST : RegField := ⟨EFT_TRIPCTL, 0, 1⟩
abbrev EFT_TESTAGE_TRIP : RegField := ⟨EFT_TESTAGE, 16, 16⟩
abbrev EFT_TESTAGE_RCM : RegField := ⟨EFT_TESTAGE, 0, 16⟩

/-! ### SWC -/
abbrev SWC_STAT_GATEREL : RegField := ⟨SWC_STAT, 16, 1⟩
abbrev SWC_STAT_WELD : RegField := ⟨SWC_STAT, 12, 4⟩
abbrev SWC_STAT_FBERR : RegField := ⟨SWC_STAT, 8, 4⟩
abbrev SWC_STAT_FB : RegField := ⟨SWC_STAT, 4, 4⟩
abbrev SWC_STAT_CMD : RegField := ⟨SWC_STAT, 0, 4⟩
abbrev SWC_EVT_FBDISAG : RegField := ⟨SWC_EVT, 5, 1⟩
abbrev SWC_EVT_UNCMD : RegField := ⟨SWC_EVT, 4, 1⟩
abbrev SWC_EVT_REFUSED : RegField := ⟨SWC_EVT, 3, 1⟩
abbrev SWC_EVT_WELD : RegField := ⟨SWC_EVT, 2, 1⟩
abbrev SWC_EVT_OPENFAIL : RegField := ⟨SWC_EVT, 1, 1⟩
abbrev SWC_EVT_NOCLOSE : RegField := ⟨SWC_EVT, 0, 1⟩
abbrev SWC_REFUSE_REASON : RegField := ⟨SWC_REFUSE, 0, 8⟩
abbrev SWC_CYC_COUNT (i : Nat) : RegField := ⟨(SWC_CYC i), 0, 32⟩
abbrev SWC_TIME_CLOSE (i : Nat) : RegField := ⟨(SWC_TIME i), 16, 16⟩
abbrev SWC_TIME_OPEN (i : Nat) : RegField := ⟨(SWC_TIME i), 0, 16⟩

/-! ### CPL -/
abbrev CPL_STAT_PPCODE : RegField := ⟨CPL_STAT, 16, 4⟩
abbrev CPL_STAT_COREFB : RegField := ⟨CPL_STAT, 10, 1⟩
abbrev CPL_STAT_SBDEM : RegField := ⟨CPL_STAT, 8, 2⟩
abbrev CPL_STAT_DRIVE : RegField := ⟨CPL_STAT, 4, 3⟩
abbrev CPL_STAT_STATE : RegField := ⟨CPL_STAT, 0, 3⟩
abbrev CPL_EVT_COREFB : RegField := ⟨CPL_EVT, 5, 1⟩
abbrev CPL_EVT_PPFAULT : RegField := ⟨CPL_EVT, 4, 1⟩
abbrev CPL_EVT_PPCHG : RegField := ⟨CPL_EVT, 3, 1⟩
abbrev CPL_EVT_INVALID : RegField := ⟨CPL_EVT, 2, 1⟩
abbrev CPL_EVT_DIODE : RegField := ⟨CPL_EVT, 1, 1⟩
abbrev CPL_EVT_STATECHG : RegField := ⟨CPL_EVT, 0, 1⟩
abbrev CPL_DUTY_REQ : RegField := ⟨CPL_DUTY, 16, 16⟩
abbrev CPL_DUTY_DUTY : RegField := ⟨CPL_DUTY, 0, 16⟩
abbrev CPL_LEVEL_HIGH : RegField := ⟨CPL_LEVEL, 16, 16⟩
abbrev CPL_LEVEL_LOW : RegField := ⟨CPL_LEVEL, 0, 16⟩

/-! ### VPL -/
abbrev VPL_STAT_READY : RegField := ⟨VPL_STAT, 8, 1⟩
abbrev VPL_STAT_COORD : RegField := ⟨VPL_STAT, 7, 1⟩
abbrev VPL_STAT_T1SUP : RegField := ⟨VPL_STAT, 6, 1⟩
abbrev VPL_STAT_LINK : RegField := ⟨VPL_STAT, 4, 2⟩
abbrev VPL_STAT_SLACST : RegField := ⟨VPL_STAT, 0, 4⟩
abbrev VPL_EVT_RXDROP : RegField := ⟨VPL_EVT, 7, 1⟩
abbrev VPL_EVT_GPREDUCED : RegField := ⟨VPL_EVT, 6, 1⟩
abbrev VPL_EVT_T1SDOWN : RegField := ⟨VPL_EVT, 5, 1⟩
abbrev VPL_EVT_T1SUP : RegField := ⟨VPL_EVT, 4, 1⟩
abbrev VPL_EVT_LOSTTIE : RegField := ⟨VPL_EVT, 3, 1⟩
abbrev VPL_EVT_COORDLOST : RegField := ⟨VPL_EVT, 2, 1⟩
abbrev VPL_EVT_SLACFAIL : RegField := ⟨VPL_EVT, 1, 1⟩
abbrev VPL_EVT_MATCH : RegField := ⟨VPL_EVT, 0, 1⟩
abbrev VPL_SLACFAIL_REASON : RegField := ⟨VPL_SLACFAIL, 0, 8⟩
abbrev VPL_ATTEN_ATTEN : RegField := ⟨VPL_ATTEN, 16, 16⟩
abbrev VPL_ATTEN_SOUNDS : RegField := ⟨VPL_ATTEN, 8, 8⟩
abbrev VPL_ATTEN_NREP : RegField := ⟨VPL_ATTEN, 0, 8⟩

/-! ### SES -/
abbrev SES_STAT_HOSTABS : RegField := ⟨SES_STAT, 15, 1⟩
abbrev SES_STAT_DISCH : RegField := ⟨SES_STAT, 14, 1⟩
abbrev SES_STAT_TOK1 : RegField := ⟨SES_STAT, 13, 1⟩
abbrev SES_STAT_SITEGR : RegField := ⟨SES_STAT, 12, 1⟩
abbrev SES_STAT_AUTHOK : RegField := ⟨SES_STAT, 11, 1⟩
abbrev SES_STAT_AUTHSRC : RegField := ⟨SES_STAT, 8, 3⟩
abbrev SES_STAT_PROTO : RegField := ⟨SES_STAT, 4, 3⟩
abbrev SES_STAT_STATE : RegField := ⟨SES_STAT, 0, 4⟩
abbrev SES_EVT_STALE : RegField := ⟨SES_EVT, 6, 1⟩
abbrev SES_EVT_CONVLOST : RegField := ⟨SES_EVT, 5, 1⟩
abbrev SES_EVT_LEASE : RegField := ⟨SES_EVT, 4, 1⟩
abbrev SES_EVT_AUTHREQ : RegField := ⟨SES_EVT, 3, 1⟩
abbrev SES_EVT_END : RegField := ⟨SES_EVT, 2, 1⟩
abbrev SES_EVT_ENERGY : RegField := ⟨SES_EVT, 1, 1⟩
abbrev SES_EVT_START : RegField := ⟨SES_EVT, 0, 1⟩
abbrev SES_CTL_REMOTE : RegField := ⟨SES_CTL, 1, 1⟩
abbrev SES_CTL_STOP : RegField := ⟨SES_CTL, 0, 1⟩
abbrev SES_AUTHREQ_PEND : RegField := ⟨SES_AUTHREQ, 11, 1⟩
abbrev SES_AUTHREQ_SRC : RegField := ⟨SES_AUTHREQ, 8, 3⟩
abbrev SES_AUTHREQ_TAG : RegField := ⟨SES_AUTHREQ, 0, 8⟩
abbrev SES_AUTHCTL_REVOKE : RegField := ⟨SES_AUTHCTL, 10, 1⟩
abbrev SES_AUTHCTL_REJECT : RegField := ⟨SES_AUTHCTL, 9, 1⟩
abbrev SES_AUTHCTL_ACCEPT : RegField := ⟨SES_AUTHCTL, 8, 1⟩
abbrev SES_AUTHCTL_TAG : RegField := ⟨SES_AUTHCTL, 0, 8⟩
abbrev SES_END_REFUSE : RegField := ⟨SES_END, 8, 8⟩
abbrev SES_END_REASON : RegField := ⟨SES_END, 0, 8⟩
abbrev SES_CONV_IOUT (i : Nat) : RegField := ⟨(SES_CONV i), 16, 16⟩
abbrev SES_CONV_ERRS (i : Nat) : RegField := ⟨(SES_CONV i), 8, 8⟩
abbrev SES_CONV_STATE (i : Nat) : RegField := ⟨(SES_CONV i), 0, 3⟩

/-! ### ETH -/
abbrev ETH_STAT_TOPO : RegField := ⟨ETH_STAT, 8, 2⟩
abbrev ETH_STAT_SPEEDB : RegField := ⟨ETH_STAT, 6, 2⟩
abbrev ETH_STAT_SPEEDA : RegField := ⟨ETH_STAT, 4, 2⟩
abbrev ETH_STAT_LINKB : RegField := ⟨ETH_STAT, 1, 1⟩
abbrev ETH_STAT_LINKA : RegField := ⟨ETH_STAT, 0, 1⟩
abbrev ETH_EVT_BUSOFF : RegField := ⟨ETH_EVT, 6, 1⟩
abbrev ETH_EVT_ADDRCONF : RegField := ⟨ETH_EVT, 5, 1⟩
abbrev ETH_EVT_NODEOVF : RegField := ⟨ETH_EVT, 4, 1⟩
abbrev ETH_EVT_LATE : RegField := ⟨ETH_EVT, 3, 1⟩
abbrev ETH_EVT_RXDROP : RegField := ⟨ETH_EVT, 2, 1⟩
abbrev ETH_EVT_LINKDOWN : RegField := ⟨ETH_EVT, 1, 1⟩
abbrev ETH_EVT_LINKUP : RegField := ⟨ETH_EVT, 0, 1⟩
abbrev ETH_CTL_PEN : RegField := ⟨ETH_CTL, 0, 2⟩
abbrev ETH_GRP_ADDR : RegField := ⟨ETH_GRP, 0, 12⟩
abbrev ETH_CAN_BUSOFFS (i : Nat) : RegField := ⟨(ETH_CAN i), 24, 8⟩
abbrev ETH_CAN_REC (i : Nat) : RegField := ⟨(ETH_CAN i), 16, 8⟩
abbrev ETH_CAN_TEC (i : Nat) : RegField := ⟨(ETH_CAN i), 8, 8⟩
abbrev ETH_CAN_BUSOFF (i : Nat) : RegField := ⟨(ETH_CAN i), 0, 1⟩
abbrev ETH_PCNT_COUNT (i : Nat) : RegField := ⟨(ETH_PCNT i), 0, 32⟩

/-! ### PTP -/
abbrev PTP_STAT_PORT : RegField := ⟨PTP_STAT, 7, 1⟩
abbrev PTP_STAT_MASTER : RegField := ⟨PTP_STAT, 6, 1⟩
abbrev PTP_STAT_SLEW : RegField := ⟨PTP_STAT, 5, 1⟩
abbrev PTP_STAT_DOMSEL : RegField := ⟨PTP_STAT, 4, 1⟩
abbrev PTP_STAT_DLOCK : RegField := ⟨PTP_STAT, 2, 2⟩
abbrev PTP_STAT_LOCK : RegField := ⟨PTP_STAT, 0, 1⟩
abbrev PTP_EVT_EVTIN : RegField := ⟨PTP_EVT, 4, 1⟩
abbrev PTP_EVT_UTCCHG : RegField := ⟨PTP_EVT, 3, 1⟩
abbrev PTP_EVT_LOST : RegField := ⟨PTP_EVT, 2, 1⟩
abbrev PTP_EVT_STEP : RegField := ⟨PTP_EVT, 1, 1⟩
abbrev PTP_EVT_SWITCH : RegField := ⟨PTP_EVT, 0, 1⟩

/-! ### STG -/
abbrev STG_STAT_LOST : RegField := ⟨STG_STAT, 8, 8⟩
abbrev STG_STAT_OK : RegField := ⟨STG_STAT, 0, 8⟩
abbrev STG_EVT_RECOV : RegField := ⟨STG_EVT, 2, 1⟩
abbrev STG_EVT_LOST : RegField := ⟨STG_EVT, 1, 1⟩
abbrev STG_EVT_MISMATCH : RegField := ⟨STG_EVT, 0, 1⟩

/-! ### AMB -/
abbrev AMB_STAT_CLASS : RegField := ⟨AMB_STAT, 16, 3⟩
abbrev AMB_STAT_NODES : RegField := ⟨AMB_STAT, 8, 8⟩
abbrev AMB_STAT_MOD : RegField := ⟨AMB_STAT, 6, 2⟩
abbrev AMB_STAT_ROLE : RegField := ⟨AMB_STAT, 4, 2⟩
abbrev AMB_STAT_SHARE : RegField := ⟨AMB_STAT, 3, 1⟩
abbrev AMB_STAT_BUSY : RegField := ⟨AMB_STAT, 2, 1⟩
abbrev AMB_STAT_JOINED : RegField := ⟨AMB_STAT, 1, 1⟩
abbrev AMB_STAT_READY : RegField := ⟨AMB_STAT, 0, 1⟩
abbrev AMB_EVT_RXDROP : RegField := ⟨AMB_EVT, 10, 1⟩
abbrev AMB_EVT_SLOW : RegField := ⟨AMB_EVT, 9, 1⟩
abbrev AMB_EVT_CLASSCHG : RegField := ⟨AMB_EVT, 8, 1⟩
abbrev AMB_EVT_SEGCONF : RegField := ⟨AMB_EVT, 7, 1⟩
abbrev AMB_EVT_ADDRCONF : RegField := ⟨AMB_EVT, 6, 1⟩
abbrev AMB_EVT_LOST : RegField := ⟨AMB_EVT, 5, 1⟩
abbrev AMB_EVT_ABSENT : RegField := ⟨AMB_EVT, 4, 1⟩
abbrev AMB_EVT_JOIN : RegField := ⟨AMB_EVT, 3, 1⟩
abbrev AMB_EVT_REDUCED : RegField := ⟨AMB_EVT, 2, 1⟩
abbrev AMB_EVT_ERASED : RegField := ⟨AMB_EVT, 1, 1⟩
abbrev AMB_EVT_RXFAIL : RegField := ⟨AMB_EVT, 0, 1⟩
abbrev AMB_LAST_TZC : RegField := ⟨AMB_LAST, 16, 16⟩
abbrev AMB_LAST_PERIOD : RegField := ⟨AMB_LAST, 0, 16⟩
abbrev AMB_NODE_GRP (i : Nat) : RegField := ⟨(AMB_NODE i), 20, 12⟩
abbrev AMB_NODE_CLASS (i : Nat) : RegField := ⟨(AMB_NODE i), 17, 3⟩
abbrev AMB_NODE_BUSY (i : Nat) : RegField := ⟨(AMB_NODE i), 16, 1⟩
abbrev AMB_NODE_STATE (i : Nat) : RegField := ⟨(AMB_NODE i), 14, 2⟩
abbrev AMB_NODE_MOD (i : Nat) : RegField := ⟨(AMB_NODE i), 12, 2⟩
abbrev AMB_NODE_MISS (i : Nat) : RegField := ⟨(AMB_NODE i), 8, 4⟩
abbrev AMB_NODE_SNR (i : Nat) : RegField := ⟨(AMB_NODE i), 0, 8⟩
abbrev AMB_NODEX_AGE (i : Nat) : RegField := ⟨(AMB_NODEX i), 16, 16⟩
abbrev AMB_NODEX_TZC (i : Nat) : RegField := ⟨(AMB_NODEX i), 0, 16⟩

/-! ### DLM -/
abbrev DLM_STAT_STAGE : RegField := ⟨DLM_STAT, 8, 4⟩
abbrev DLM_STAT_OPEN : RegField := ⟨DLM_STAT, 4, 4⟩
abbrev DLM_STAT_SUITE : RegField := ⟨DLM_STAT, 0, 2⟩
abbrev DLM_EVT_STAGEDROP : RegField := ⟨DLM_EVT, 3, 1⟩
abbrev DLM_EVT_ICEXH : RegField := ⟨DLM_EVT, 2, 1⟩
abbrev DLM_EVT_REPLAY : RegField := ⟨DLM_EVT, 1, 1⟩
abbrev DLM_EVT_AUTHFAIL : RegField := ⟨DLM_EVT, 0, 1⟩

/-! ### KEY -/
abbrev KEY_STAT_USED : RegField := ⟨KEY_STAT, 16, 9⟩
abbrev KEY_STAT_PUFSPARE : RegField := ⟨KEY_STAT, 12, 2⟩
abbrev KEY_STAT_MIRROR : RegField := ⟨KEY_STAT, 4, 1⟩
abbrev KEY_STAT_DRBGOK : RegField := ⟨KEY_STAT, 3, 1⟩
abbrev KEY_STAT_ROOTFAIL : RegField := ⟨KEY_STAT, 2, 1⟩
abbrev KEY_STAT_BUSY : RegField := ⟨KEY_STAT, 1, 1⟩
abbrev KEY_STAT_READY : RegField := ⟨KEY_STAT, 0, 1⟩
abbrev KEY_EVT_RETIRED : RegField := ⟨KEY_EVT, 9, 1⟩
abbrev KEY_EVT_TOKEN : RegField := ⟨KEY_EVT, 8, 1⟩
abbrev KEY_EVT_RNGFAIL : RegField := ⟨KEY_EVT, 7, 1⟩
abbrev KEY_EVT_ROOTFAIL : RegField := ⟨KEY_EVT, 6, 1⟩
abbrev KEY_EVT_HELPERFIX : RegField := ⟨KEY_EVT, 5, 1⟩
abbrev KEY_EVT_PUFWARN : RegField := ⟨KEY_EVT, 4, 1⟩
abbrev KEY_EVT_PUFMOVE : RegField := ⟨KEY_EVT, 3, 1⟩
abbrev KEY_EVT_ORPHAN : RegField := ⟨KEY_EVT, 2, 1⟩
abbrev KEY_EVT_CMDFAIL : RegField := ⟨KEY_EVT, 1, 1⟩
abbrev KEY_EVT_CMDDONE : RegField := ⟨KEY_EVT, 0, 1⟩
abbrev KEY_CMD_OP : RegField := ⟨KEY_CMD, 28, 4⟩
abbrev KEY_CMD_TYPE : RegField := ⟨KEY_CMD, 24, 4⟩
abbrev KEY_CMD_SLOT : RegField := ⟨KEY_CMD, 16, 8⟩
abbrev KEY_CMD_PARENT : RegField := ⟨KEY_CMD, 8, 8⟩
abbrev KEY_CMD_PROOT : RegField := ⟨KEY_CMD, 7, 1⟩
abbrev KEY_CMDUSE_USAGE : RegField := ⟨KEY_CMDUSE, 0, 11⟩
abbrev KEY_CTL_GO : RegField := ⟨KEY_CTL, 0, 1⟩
abbrev KEY_CMDSTAT_RESULT : RegField := ⟨KEY_CMDSTAT, 0, 8⟩
abbrev KEY_PUFBLK_ERR (i : Nat) : RegField := ⟨(KEY_PUFBLK i), 8, 8⟩
abbrev KEY_PUFBLK_ROLE (i : Nat) : RegField := ⟨(KEY_PUFBLK i), 0, 3⟩
abbrev KEY_DATA_BYTES (i : Nat) : RegField := ⟨(KEY_DATA i), 0, 32⟩
abbrev KEY_SLOT_GEN (i : Nat) : RegField := ⟨(KEY_SLOT i), 24, 8⟩
abbrev KEY_SLOT_DEPTH (i : Nat) : RegField := ⟨(KEY_SLOT i), 18, 3⟩
abbrev KEY_SLOT_STATE (i : Nat) : RegField := ⟨(KEY_SLOT i), 16, 2⟩
abbrev KEY_SLOT_TYPE (i : Nat) : RegField := ⟨(KEY_SLOT i), 12, 4⟩
abbrev KEY_SLOT_USAGE (i : Nat) : RegField := ⟨(KEY_SLOT i), 0, 11⟩
abbrev KEY_SLOTX_PROOT (i : Nat) : RegField := ⟨(KEY_SLOTX i), 24, 1⟩
abbrev KEY_SLOTX_PARENT (i : Nat) : RegField := ⟨(KEY_SLOTX i), 16, 8⟩
abbrev KEY_SLOTX_PGEN (i : Nat) : RegField := ⟨(KEY_SLOTX i), 8, 8⟩

/-! ### UPD -/
abbrev UPD_STAT_TRIAL : RegField := ⟨UPD_STAT, 7, 1⟩
abbrev UPD_STAT_LOCK : RegField := ⟨UPD_STAT, 6, 1⟩
abbrev UPD_STAT_ARMED : RegField := ⟨UPD_STAT, 5, 1⟩
abbrev UPD_STAT_BANK : RegField := ⟨UPD_STAT, 4, 1⟩
abbrev UPD_STAT_STATE : RegField := ⟨UPD_STAT, 0, 3⟩
abbrev UPD_EVT_LOCKREJ : RegField := ⟨UPD_EVT, 5, 1⟩
abbrev UPD_EVT_LOCKCHG : RegField := ⟨UPD_EVT, 4, 1⟩
abbrev UPD_EVT_DONE : RegField := ⟨UPD_EVT, 3, 1⟩
abbrev UPD_EVT_SWITCH : RegField := ⟨UPD_EVT, 2, 1⟩
abbrev UPD_EVT_FAILED : RegField := ⟨UPD_EVT, 1, 1⟩
abbrev UPD_EVT_REFUSED : RegField := ⟨UPD_EVT, 0, 1⟩
abbrev UPD_CTL_LOCKGO : RegField := ⟨UPD_CTL, 2, 1⟩
abbrev UPD_CTL_DISARM : RegField := ⟨UPD_CTL, 1, 1⟩
abbrev UPD_CTL_ARM : RegField := ⟨UPD_CTL, 0, 1⟩
abbrev UPD_CODES_PROG : RegField := ⟨UPD_CODES, 16, 9⟩
abbrev UPD_CODES_FAIL : RegField := ⟨UPD_CODES, 8, 8⟩
abbrev UPD_CODES_REFUSE : RegField := ⟨UPD_CODES, 0, 8⟩
abbrev UPD_SVN_RUN : RegField := ⟨UPD_SVN, 16, 16⟩
abbrev UPD_SVN_MIN : RegField := ⟨UPD_SVN, 0, 16⟩

/-! ### NFC -/
abbrev NFC_STAT_L4 : RegField := ⟨NFC_STAT, 3, 1⟩
abbrev NFC_STAT_TAG : RegField := ⟨NFC_STAT, 2, 1⟩
abbrev NFC_STAT_POLL : RegField := ⟨NFC_STAT, 1, 1⟩
abbrev NFC_STAT_READY : RegField := ⟨NFC_STAT, 0, 1⟩
abbrev NFC_EVT_HOSTREFUSE : RegField := ⟨NFC_EVT, 5, 1⟩
abbrev NFC_EVT_LISTERR : RegField := ⟨NFC_EVT, 4, 1⟩
abbrev NFC_EVT_EXTFIELD : RegField := ⟨NFC_EVT, 3, 1⟩
abbrev NFC_EVT_MULTI : RegField := ⟨NFC_EVT, 2, 1⟩
abbrev NFC_EVT_TAGTX : RegField := ⟨NFC_EVT, 1, 1⟩
abbrev NFC_EVT_CARD : RegField := ⟨NFC_EVT, 0, 1⟩
abbrev NFC_LAST_RAND : RegField := ⟨NFC_LAST, 17, 1⟩
abbrev NFC_LAST_LISTED : RegField := ⟨NFC_LAST, 16, 1⟩
abbrev NFC_LAST_SAK : RegField := ⟨NFC_LAST, 8, 8⟩
abbrev NFC_LAST_LEN : RegField := ⟨NFC_LAST, 0, 4⟩
abbrev NFC_LISTCTL_LEN : RegField := ⟨NFC_LISTCTL, 2, 4⟩
abbrev NFC_LISTCTL_OP : RegField := ⟨NFC_LISTCTL, 0, 2⟩
abbrev NFC_TAGSTAT_QUEUED : RegField := ⟨NFC_TAGSTAT, 5, 3⟩
abbrev NFC_TAGSTAT_BUSY : RegField := ⟨NFC_TAGSTAT, 4, 1⟩
abbrev NFC_TAGSTAT_ALM : RegField := ⟨NFC_TAGSTAT, 3, 1⟩
abbrev NFC_TAGSTAT_STATE : RegField := ⟨NFC_TAGSTAT, 0, 3⟩
abbrev NFC_TAGWCTL_PAGE : RegField := ⟨NFC_TAGWCTL, 1, 5⟩
abbrev NFC_TAGWCTL_GO : RegField := ⟨NFC_TAGWCTL, 0, 1⟩

/-! ### LSW -/
abbrev LSW_STAT_LIMPIN : RegField := ⟨LSW_STAT, 17, 1⟩
abbrev LSW_STAT_LIMP : RegField := ⟨LSW_STAT, 16, 1⟩
abbrev LSW_STAT_UV : RegField := ⟨LSW_STAT, 15, 1⟩
abbrev LSW_STAT_ON : RegField := ⟨LSW_STAT, 0, 12⟩
abbrev LSW_EVT_PFSHED : RegField := ⟨LSW_EVT, 11, 1⟩
abbrev LSW_EVT_LIMP : RegField := ⟨LSW_EVT, 10, 1⟩
abbrev LSW_EVT_TOKREF : RegField := ⟨LSW_EVT, 9, 1⟩
abbrev LSW_EVT_SBOFF : RegField := ⟨LSW_EVT, 8, 1⟩
abbrev LSW_EVT_STUCKHI : RegField := ⟨LSW_EVT, 7, 1⟩
abbrev LSW_EVT_OPENLOAD : RegField := ⟨LSW_EVT, 6, 1⟩
abbrev LSW_EVT_UVREST : RegField := ⟨LSW_EVT, 5, 1⟩
abbrev LSW_EVT_UV : RegField := ⟨LSW_EVT, 4, 1⟩
abbrev LSW_EVT_RETRYEX : RegField := ⟨LSW_EVT, 3, 1⟩
abbrev LSW_EVT_THERM : RegField := ⟨LSW_EVT, 2, 1⟩
abbrev LSW_EVT_SHORT : RegField := ⟨LSW_EVT, 1, 1⟩
abbrev LSW_EVT_OCTRIP : RegField := ⟨LSW_EVT, 0, 1⟩
abbrev LSW_VLS_MV : RegField := ⟨LSW_VLS, 0, 16⟩
abbrev LSW_LH_LIMPN : RegField := ⟨LSW_LH, 4, 1⟩
abbrev LSW_LH_LH : RegField := ⟨LSW_LH, 0, 4⟩
abbrev LSW_CTL_CLRLAT (i : Nat) : RegField := ⟨(LSW_CTL i), 1, 1⟩
abbrev LSW_CTL_ON (i : Nat) : RegField := ⟨(LSW_CTL i), 0, 1⟩
abbrev LSW_CH_CUR (i : Nat) : RegField := ⟨(LSW_CH i), 20, 12⟩
abbrev LSW_CH_TEMP (i : Nat) : RegField := ⟨(LSW_CH i), 12, 8⟩
abbrev LSW_CH_RETRY (i : Nat) : RegField := ⟨(LSW_CH i), 8, 4⟩
abbrev LSW_CH_THLAT (i : Nat) : RegField := ⟨(LSW_CH i), 7, 1⟩
abbrev LSW_CH_RETEX (i : Nat) : RegField := ⟨(LSW_CH i), 6, 1⟩
abbrev LSW_CH_OPEN (i : Nat) : RegField := ⟨(LSW_CH i), 5, 1⟩
abbrev LSW_CH_STUCKHI (i : Nat) : RegField := ⟨(LSW_CH i), 4, 1⟩
abbrev LSW_CH_WINDOW (i : Nat) : RegField := ⟨(LSW_CH i), 3, 1⟩
abbrev LSW_CH_STATE (i : Nat) : RegField := ⟨(LSW_CH i), 0, 3⟩
abbrev LSW_CNT_THERMS (i : Nat) : RegField := ⟨(LSW_CNT i), 24, 8⟩
abbrev LSW_CNT_OCTRIPS (i : Nat) : RegField := ⟨(LSW_CNT i), 16, 8⟩
abbrev LSW_CNT_ONCNT (i : Nat) : RegField := ⟨(LSW_CNT i), 0, 16⟩

/-! ### LCD -/
abbrev LCD_STAT_PAGE : RegField := ⟨LCD_STAT, 8, 4⟩
abbrev LCD_STAT_STALE : RegField := ⟨LCD_STAT, 6, 1⟩
abbrev LCD_STAT_CHECK : RegField := ⟨LCD_STAT, 5, 1⟩
abbrev LCD_STAT_LEGALOK : RegField := ⟨LCD_STAT, 4, 1⟩
abbrev LCD_STAT_BLON : RegField := ⟨LCD_STAT, 3, 1⟩
abbrev LCD_STAT_DRVON : RegField := ⟨LCD_STAT, 2, 1⟩
abbrev LCD_STAT_BIASOK : RegField := ⟨LCD_STAT, 1, 1⟩
abbrev LCD_STAT_VLCDOK : RegField := ⟨LCD_STAT, 0, 1⟩
abbrev LCD_EVT_STALE : RegField := ⟨LCD_EVT, 3, 1⟩
abbrev LCD_EVT_LEGAL : RegField := ⟨LCD_EVT, 2, 1⟩
abbrev LCD_EVT_READBACK : RegField := ⟨LCD_EVT, 1, 1⟩
abbrev LCD_EVT_RAILFAIL : RegField := ⟨LCD_EVT, 0, 1⟩
abbrev LCD_BL_R : RegField := ⟨LCD_BL, 16, 8⟩
abbrev LCD_BL_G : RegField := ⟨LCD_BL, 8, 8⟩
abbrev LCD_BL_B : RegField := ⟨LCD_BL, 0, 8⟩
abbrev LCD_CTL_HOLD : RegField := ⟨LCD_CTL, 1, 1⟩
abbrev LCD_CTL_NEXT : RegField := ⟨LCD_CTL, 0, 1⟩
abbrev LCD_IMG_BITS (i : Nat) : RegField := ⟨(LCD_IMG i), 0, 32⟩

end Sys2Proof.Fd

namespace Sys2Proof.RegMap

/-- One register, or one array of registers, of the host-visible map: its name, the address of its first word, how many
words it has (4 bytes apart), and which bits are readable, RW, W1C, WO, of variant F only and of variant M only (R5, R12,
R13), the access level a write needs (R15: 0 observer, 1 operator, 2 owner, 3 vendor), the island that owns it, and whether
each host path has its own copy (R629). -/
structure RegRow where
  name : String
  addr : Nat
  words : Nat
  readable : Nat
  rw : Nat
  w1c : Nat
  wo : Nat
  fOnly : Nat
  mOnly : Nat
  level : Nat
  island : Island
  perPath : Bool
  deriving DecidableEq, Repr

/-- The registers of block SYS. -/
def rowsSYS : List RegRow := [
  ⟨"SYS_ID", 0x0, 1, 0xFFFFFF03, 0x0, 0x0, 0x0, 0x0, 0x0, 1, .core, false⟩,
  ⟨"SYS_RSTCAUSE", 0x4, 1, 0xFFFF, 0x0, 0x0, 0x0, 0x0, 0x0, 1, .core, false⟩,
  ⟨"SYS_RSTCTL", 0x8, 1, 0x0, 0x0, 0x0, 0x3, 0x0, 0x0, 2, .core, false⟩,
  ⟨"SYS_STARTS", 0xC, 1, 0xFFFFFFFF, 0x0, 0x0, 0x0, 0x0, 0x0, 1, .core, false⟩,
  ⟨"SYS_METERID", 0x10, 2, 0xFFFFFFFF, 0x0, 0x0, 0x0, 0x0, 0x0, 1, .core, false⟩,
  ⟨"SYS_UPTIME", 0x18, 1, 0xFFFFFFFF, 0x0, 0x0, 0x0, 0x0, 0x0, 1, .core, false⟩,
  ⟨"SYS_BOOT", 0x100, 1, 0xE3, 0x0, 0x0, 0x0, 0x0, 0x0, 1, .core, false⟩,
  ⟨"SYS_BOOTREJ", 0x104, 1, 0xFFFFFF, 0x0, 0x0, 0x0, 0x0, 0x0, 1, .core, false⟩,
  ⟨"SYS_IMGSEQ", 0x108, 1, 0xFFFFFFFF, 0x0, 0x0, 0x0, 0x0, 0x0, 1, .core, false⟩,
  ⟨"SYS_OVL", 0x10C, 1, 0x7FF07FF, 0x0, 0x0, 0x0, 0x0, 0x0, 1, .core, false⟩,
  ⟨"SYS_IMGHASH", 0x110, 12, 0xFFFFFFFF, 0x0, 0x0, 0x0, 0x0, 0x0, 1, .core, false⟩,
  ⟨"SYS_BOOTT", 0x140, 8, 0xFFFFFFFF, 0x0, 0x0, 0x0, 0x0, 0x0, 1, .core, false⟩,
  ⟨"SYS_FLASH", 0x180, 1, 0xFFFF0003, 0x0, 0x0, 0x0, 0x0, 0x0, 1, .core, false⟩,
  ⟨"SYS_CFGEVT", 0x184, 1, 0x3F, 0x0, 0x3F, 0x0, 0x0, 0x0, 1, .core, false⟩,
  ⟨"SYS_FLT", 0x200, 1, 0x1F01FF, 0x0, 0x100000, 0x0, 0x0, 0x0, 1, .core, false⟩,
  ⟨"SYS_FLTLAST", 0x204, 1, 0xFF0FF, 0x0, 0x0, 0x0, 0x0, 0x0, 1, .core, false⟩,
  ⟨"SYS_FLTCNT", 0x210, 9, 0xFFFFFFFF, 0x0, 0x0, 0x0, 0x0, 0x0, 1, .core, false⟩,
  ⟨"SYS_XSTAT", 0x400, 21, 0xCFFFFFFF, 0x0, 0x0, 0x0, 0x0, 0x0, 1, .core, false⟩,
  ⟨"SYS_XCLR", 0x460, 1, 0x0, 0x0, 0x0, 0x1FFFFF, 0x0, 0x0, 1, .core, false⟩]

/-- The registers of block TTB. -/
def rowsTTB : List RegRow := [
  ⟨"TTB_STAT", 0x10000, 1, 0x3, 0x0, 0x0, 0x0, 0x0, 0x0, 1, .core, false⟩,
  ⟨"TTB_CLR", 0x10004, 1, 0x0, 0x0, 0x0, 0x1, 0x0, 0x0, 1, .core, false⟩,
  ⟨"TTB_BUD", 0x10100, 42, 0x1FF, 0x0, 0x0, 0x0, 0x0, 0x0, 1, .core, false⟩,
  ⟨"TTB_USE", 0x10200, 42, 0xFFFFFFFF, 0x0, 0x0, 0x0, 0x0, 0x0, 1, .core, false⟩]

/-- The registers of block TOK. -/
def rowsTOK : List RegRow := [
  ⟨"TOK_POWER", 0x18000, 1, 0xFFFFFFFF, 0x0, 0x0, 0x0, 0x0, 0x0, 1, .core, false⟩,
  ⟨"TOK_BUDGET", 0x18004, 1, 0xFFFFFFFF, 0x0, 0x0, 0x0, 0x0, 0x0, 1, .core, false⟩,
  ⟨"TOK_STAT", 0x18008, 1, 0x31F1F, 0x0, 0x0, 0x0, 0x0, 0x0, 1, .core, false⟩,
  ⟨"TOK_EVT", 0x1800C, 1, 0x7, 0x0, 0x7, 0x0, 0x0, 0x0, 1, .core, false⟩,
  ⟨"TOK_LAST", 0x18010, 1, 0xFF, 0x0, 0x0, 0x0, 0x0, 0x0, 1, .core, false⟩,
  ⟨"TOK_CNT", 0x18100, 9, 0xFFFFFFFF, 0x0, 0x0, 0x0, 0x0, 0x0, 1, .core, false⟩]

/-- The registers of block PWR. -/
def rowsPWR : List RegRow := [
  ⟨"PWR_STAT", 0x20000, 1, 0xFF, 0x0, 0x0, 0x0, 0x40, 0x0, 1, .battery, false⟩,
  ⟨"PWR_EVT", 0x20004, 1, 0x1F, 0x0, 0x1F, 0x0, 0x0, 0x0, 1, .battery, false⟩,
  ⟨"PWR_VSYS", 0x20008, 1, 0xFFFFFFFF, 0x0, 0x0, 0x0, 0x0, 0x0, 1, .battery, false⟩,
  ⟨"PWR_VBAT", 0x2000C, 1, 0xFFFFFFFF, 0x0, 0x0, 0x0, 0x0, 0x0, 1, .battery, false⟩,
  ⟨"PWR_HOLD", 0x20010, 1, 0xFFFFFFFF, 0x0, 0x0, 0x0, 0x0, 0x0, 1, .battery, false⟩,
  ⟨"PWR_PFCNT", 0x20014, 1, 0xFFFFFFFF, 0x0, 0x0, 0x0, 0x0, 0x0, 1, .battery, false⟩,
  ⟨"PWR_PIN", 0x20018, 1, 0xFFFF, 0x0, 0x0, 0x0, 0x0, 0x0, 1, .battery, false⟩,
  ⟨"PWR_TEMP", 0x2001C, 1, 0xFF03FFFF, 0x0, 0x0, 0x0, 0x0, 0x0, 1, .battery, false⟩,
  ⟨"PWR_TEMPEVT", 0x20020, 1, 0x3, 0x0, 0x3, 0x0, 0x0, 0x0, 1, .battery, false⟩]

/-- The registers of block CLK. -/
def rowsCLK : List RegRow := [
  ⟨"CLK_STAT", 0x30000, 1, 0x1FF01FF, 0x0, 0x0, 0x0, 0x0, 0x0, 1, .core, false⟩,
  ⟨"CLK_EVT", 0x30004, 1, 0xF, 0x0, 0xF, 0x0, 0x0, 0x0, 1, .core, false⟩,
  ⟨"CLK_CTL", 0x30008, 1, 0x0, 0x0, 0x0, 0x1, 0x0, 0x0, 1, .core, false⟩,
  ⟨"CLK_XBMEAS", 0x3000C, 1, 0xFFFFFFFF, 0x0, 0x0, 0x0, 0x0, 0x0, 1, .core, false⟩,
  ⟨"CLK_ISL", 0x30100, 9, 0xFFFFFF37, 0x0, 0x0, 0x0, 0x0, 0x0, 1, .core, false⟩]

/-- The registers of block MEM. -/
def rowsMEM : List RegRow := [
  ⟨"MEM_STAT", 0x40000, 1, 0xFF0007, 0x0, 0x0, 0x0, 0x0, 0x0, 1, .core, false⟩,
  ⟨"MEM_EVT", 0x40004, 1, 0x3F, 0x0, 0x3F, 0x0, 0x0, 0x0, 1, .core, false⟩,
  ⟨"MEM_ECC", 0x40010, 4, 0xFFFFFFFF, 0x0, 0x0, 0x0, 0x0, 0x0, 1, .core, false⟩,
  ⟨"MEM_LASTERR", 0x40020, 1, 0xFFFFFFFF, 0x0, 0x0, 0x0, 0x0, 0x0, 1, .core, false⟩,
  ⟨"MEM_AGE", 0x40024, 1, 0xFFFFFFFF, 0x0, 0x0, 0x0, 0x0, 0x0, 1, .core, false⟩,
  ⟨"MEM_HOURS", 0x40028, 1, 0xFFFFFFFF, 0x0, 0x0, 0x0, 0x0, 0x0, 1, .core, false⟩,
  ⟨"MEM_SCRUBCNT", 0x4002C, 1, 0xFFFFFFFF, 0x0, 0x0, 0x0, 0x0, 0x0, 1, .core, false⟩,
  ⟨"MEM_KIND", 0x40100, 9, 0xFFFFFFFF, 0x0, 0x0, 0x0, 0x0, 0x0, 1, .core, false⟩,
  ⟨"MEM_LIFE", 0x40140, 9, 0xFFFFFFFF, 0x0, 0x0, 0x0, 0x0, 0x0, 1, .core, false⟩]

/-- The registers of block SHN. -/
def rowsSHN : List RegRow := [
  ⟨"SHN_BUSY", 0x50000, 1, 0xFFFFFFFF, 0x0, 0x0, 0x0, 0x0, 0x0, 1, .core, false⟩,
  ⟨"SHN_DONE", 0x50004, 1, 0xFFFFFFFF, 0x0, 0xFFFFFFFF, 0x0, 0x0, 0x0, 1, .core, false⟩,
  ⟨"SHN_ERR", 0x50008, 1, 0xFFFFFFFF, 0x0, 0xFFFFFFFF, 0x0, 0x0, 0x0, 1, .core, false⟩,
  ⟨"SHN_SHDV", 0x5000C, 1, 0xFFFFFFFF, 0x0, 0x0, 0x0, 0x0, 0x0, 1, .core, false⟩,
  ⟨"SHN_CHCTL", 0x50010, 1, 0x0, 0x0, 0x0, 0x11F, 0x0, 0x0, 3, .core, false⟩,
  ⟨"SHN_CH", 0x50040, 32, 0xCFFFFFFF, 0x0, 0x0, 0x0, 0x0, 0x0, 1, .core, false⟩,
  ⟨"SHN_CMP", 0x500C0, 32, 0xFFFFFFFF, 0x0, 0x0, 0x0, 0x0, 0x0, 1, .core, false⟩,
  ⟨"SHN_DESC", 0x50400, 512, 0xFFFFFFFF, 0xFFFFFFFF, 0x0, 0x0, 0x0, 0x0, 3, .core, false⟩]

/-- The registers of block HIF. -/
def rowsHIF : List RegRow := [
  ⟨"HIF_STAT", 0x60000, 1, 0xFFFF003F, 0x0, 0x0, 0x0, 0x0, 0x0, 1, .core, false⟩,
  ⟨"HIF_EVT", 0x60004, 1, 0x1FF, 0x0, 0x1FF, 0x0, 0x0, 0x0, 1, .core, false⟩,
  ⟨"HIF_ISRC", 0x60008, 1, 0x7FFFFFFF, 0x0, 0x800, 0x0, 0x0, 0x0, 1, .core, false⟩,
  ⟨"HIF_IEN", 0x6000C, 1, 0xFFFFFFFF, 0xFFFFFFFF, 0x0, 0x0, 0x0, 0x0, 1, .core, false⟩,
  ⟨"HIF_SESCTL", 0x60010, 1, 0x0, 0x0, 0x0, 0x73, 0x0, 0x0, 0, .core, true⟩,
  ⟨"HIF_SESSTAT", 0x60014, 1, 0xFF01FF, 0x0, 0x0, 0x0, 0x0, 0x0, 1, .core, true⟩,
  ⟨"HIF_PCMD", 0x60020, 1, 0x0, 0x0, 0x0, 0x80FFFFFF, 0x0, 0x0, 0, .core, true⟩,
  ⟨"HIF_PVAL", 0x60024, 1, 0xFFFFFFFF, 0xFFFFFFFF, 0x0, 0x0, 0x0, 0x0, 1, .core, true⟩,
  ⟨"HIF_PRES", 0x60028, 1, 0xF01FF, 0x0, 0x0, 0x0, 0x0, 0x0, 1, .core, true⟩,
  ⟨"HIF_CHAL", 0x60040, 8, 0xFFFFFFFF, 0x0, 0x0, 0x0, 0x0, 0x0, 1, .core, true⟩,
  ⟨"HIF_SESSIG", 0x60080, 24, 0x0, 0x0, 0x0, 0xFFFFFFFF, 0x0, 0x0, 0, .core, true⟩,
  ⟨"HIF_CNT", 0x60100, 6, 0xFFFFFFFF, 0x0, 0x0, 0x0, 0x0, 0x0, 1, .core, false⟩]

/-- The registers of block AFE. -/
def rowsAFE : List RegRow := [
  ⟨"AFE_ID", 0x80000, 1, 0xFF03, 0x0, 0x0, 0x0, 0x0, 0x0, 1, .metrology, false⟩,
  ⟨"AFE_STAT", 0x80004, 1, 0xFFFFF00F, 0x0, 0x0, 0x0, 0xF00E, 0x0, 1, .metrology, false⟩,
  ⟨"AFE_ROT", 0x80008, 1, 0xFFFF0FFF, 0x0, 0x0, 0x0, 0xFFFF0FFF, 0x0, 1, .metrology, false⟩,
  ⟨"AFE_EVT", 0x8000C, 1, 0x17F, 0x0, 0x17F, 0x0, 0x7C, 0x0, 1, .metrology, false⟩,
  ⟨"AFE_LANE", 0x80010, 1, 0xFFFFF0, 0x0, 0x0, 0x0, 0xFFFFF0, 0x0, 1, .metrology, false⟩,
  ⟨"AFE_MOD", 0x80014, 1, 0x3FF03FF, 0x0, 0x0, 0x0, 0x0, 0x3FF03FF, 1, .metrology, false⟩,
  ⟨"AFE_CH", 0x80100, 16, 0xFFFF070F, 0x0, 0x100, 0x0, 0xFFFF000F, 0x0, 1, .metrology, false⟩,
  ⟨"AFE_CGAIN", 0x80200, 16, 0xFFFFFFFF, 0x0, 0x0, 0x0, 0xFFFFFFFF, 0x0, 1, .metrology, false⟩,
  ⟨"AFE_COFS", 0x80240, 16, 0xFFFFFFFF, 0x0, 0x0, 0x0, 0xFFFFFFFF, 0x0, 1, .metrology, false⟩,
  ⟨"AFE_CSTATE", 0x80280, 16, 0xFFFFFFF7, 0x0, 0x0, 0x0, 0xFFFFFFF7, 0x0, 1, .metrology, false⟩]

/-- The registers of block MTR. -/
def rowsMTR : List RegRow := [
  ⟨"MTR_STAT", 0x90000, 1, 0xFF0007, 0x0, 0x0, 0x0, 0x0, 0x0, 1, .metrology, false⟩,
  ⟨"MTR_EVT", 0x90004, 1, 0xFF, 0x0, 0xFF, 0x0, 0x0, 0x0, 1, .metrology, false⟩,
  ⟨"MTR_BLKCNT", 0x90008, 1, 0xFFFFFFFF, 0x0, 0x0, 0x0, 0x0, 0x0, 1, .metrology, false⟩,
  ⟨"MTR_BLKSTAT", 0x9000C, 1, 0x1FFFFFF, 0x0, 0x0, 0x0, 0x0, 0x0, 1, .metrology, false⟩,
  ⟨"MTR_FREQ", 0x90010, 1, 0xFFFF, 0x0, 0x0, 0x0, 0x0, 0x0, 1, .metrology, false⟩,
  ⟨"MTR_URMS", 0x90100, 3, 0xFFFFFFFF, 0x0, 0x0, 0x0, 0x0, 0x0, 1, .metrology, false⟩,
  ⟨"MTR_IRMS", 0x90110, 4, 0xFFFFFFFF, 0x0, 0x0, 0x0, 0x0, 0x0, 1, .metrology, false⟩,
  ⟨"MTR_P", 0x90120, 4, 0xFFFFFFFF, 0x0, 0x0, 0x0, 0x0, 0x0, 1, .metrology, false⟩,
  ⟨"MTR_Q", 0x90130, 4, 0xFFFFFFFF, 0x0, 0x0, 0x0, 0x0, 0x0, 1, .metrology, false⟩,
  ⟨"MTR_S", 0x90140, 4, 0xFFFFFFFF, 0x0, 0x0, 0x0, 0x0, 0x0, 1, .metrology, false⟩,
  ⟨"MTR_PF", 0x90150, 4, 0xFFFFFFFF, 0x0, 0x0, 0x0, 0x0, 0x0, 1, .metrology, false⟩,
  ⟨"MTR_INCALC", 0x90160, 1, 0xFFFFFFFF, 0x0, 0x0, 0x0, 0x0, 0x0, 1, .metrology, false⟩,
  ⟨"MTR_VDC", 0x90180, 2, 0xFFFFFFFF, 0x0, 0x0, 0x0, 0x0, 0x0, 1, .metrology, false⟩,
  ⟨"MTR_IDC", 0x90188, 2, 0xFFFFFFFF, 0x0, 0x0, 0x0, 0x0, 0x0, 1, .metrology, false⟩,
  ⟨"MTR_PDC", 0x90190, 2, 0xFFFFFFFF, 0x0, 0x0, 0x0, 0x0, 0x0, 1, .metrology, false⟩,
  ⟨"MTR_PCONN", 0x90198, 2, 0xFFFFFFFF, 0x0, 0x0, 0x0, 0x0, 0x0, 1, .metrology, false⟩,
  ⟨"MTR_SEG", 0x901C0, 6, 0xF, 0x0, 0x0, 0x0, 0x0, 0x0, 1, .metrology, false⟩]

/-- The registers of block PTS. -/
def rowsPTS : List RegRow := [
  ⟨"PTS_STAT", 0xA0000, 1, 0xF, 0x0, 0x0, 0x0, 0x0, 0x0, 1, .metrology, false⟩,
  ⟨"PTS_EVT", 0xA0004, 1, 0x1FF, 0x0, 0x1FF, 0x0, 0x0, 0x0, 1, .metrology, false⟩,
  ⟨"PTS_CTL", 0xA0008, 1, 0x2, 0x2, 0x0, 0x5, 0x0, 0x0, 1, .metrology, false⟩,
  ⟨"PTS_ENG", 0xA0010, 2, 0xFFFFFFF7, 0x0, 0x0, 0x0, 0x0, 0x0, 1, .metrology, false⟩,
  ⟨"PTS_CNT", 0xA0018, 1, 0xFFFFFFFF, 0x0, 0x0, 0x0, 0x0, 0x0, 1, .metrology, false⟩,
  ⟨"PTS_LASTCHG", 0xA001C, 1, 0xFFFFFFFF, 0x0, 0x0, 0x0, 0x0, 0x0, 1, .metrology, false⟩,
  ⟨"PTS_TRIALBLK", 0xA0020, 1, 0xFFFFFFFF, 0x0, 0x0, 0x0, 0x0, 0x0, 1, .metrology, false⟩,
  ⟨"PTS_TRIAL", 0xA0100, 26, 0xFFFFFFFF, 0x0, 0x0, 0x0, 0x0, 0x0, 1, .metrology, false⟩]

/-- The registers of block BIL. -/
def rowsBIL : List RegRow := [
  ⟨"BIL_STAT", 0xB0000, 1, 0x3FFFFFFF, 0x0, 0x0, 0x0, 0x0, 0x0, 1, .core, false⟩,
  ⟨"BIL_EVT", 0xB0004, 1, 0x3FFF, 0x0, 0x3FFF, 0x0, 0x0, 0x0, 1, .core, false⟩,
  ⟨"BIL_CTL", 0xB0008, 1, 0x0, 0x0, 0x0, 0x3, 0x0, 0x0, 1, .core, false⟩,
  ⟨"BIL_COMMIT", 0xB000C, 1, 0xFFFFFFFF, 0x0, 0x0, 0x0, 0x0, 0x0, 1, .core, false⟩,
  ⟨"BIL_COMMITSEC", 0xB0010, 1, 0xFFFFFFFF, 0x0, 0x0, 0x0, 0x0, 0x0, 1, .core, false⟩,
  ⟨"BIL_TTGEN", 0xB0014, 1, 0xFFFFFFFF, 0x0, 0x0, 0x0, 0x0, 0x0, 1, .core, false⟩,
  ⟨"BIL_TTACT", 0xB0018, 1, 0xFFFFFFFF, 0x0, 0x0, 0x0, 0x0, 0x0, 1, .core, false⟩,
  ⟨"BIL_ROLLCNT", 0xB001C, 1, 0xFFFFFFFF, 0x0, 0x0, 0x0, 0x0, 0x0, 1, .core, false⟩,
  ⟨"BIL_MISSCNT", 0xB0020, 1, 0xFFFFFFFF, 0x0, 0x0, 0x0, 0x0, 0x0, 1, .core, false⟩,
  ⟨"BIL_ESTCNT", 0xB0024, 1, 0xFFFFFFFF, 0x0, 0x0, 0x0, 0x0, 0x0, 1, .core, false⟩,
  ⟨"BIL_WBSEQ", 0xB0028, 1, 0xFFFFFFFF, 0x0, 0x0, 0x0, 0x0, 0x0, 1, .core, false⟩,
  ⟨"BIL_WBUNS", 0xB002C, 1, 0xFFFFFFFF, 0x0, 0x0, 0x0, 0x0, 0x0, 1, .core, false⟩,
  ⟨"BIL_LPCNT", 0xB0030, 1, 0xFFFFFFFF, 0x0, 0x0, 0x0, 0x0, 0x0, 1, .core, false⟩,
  ⟨"BIL_TOPUP", 0xB0034, 1, 0xFFFFFFFF, 0x0, 0x0, 0x0, 0x0, 0x0, 1, .core, false⟩,
  ⟨"BIL_SNAPNUM", 0xB0038, 1, 0xFFFFFFFF, 0x0, 0x0, 0x0, 0x0, 0x0, 1, .core, false⟩,
  ⟨"BIL_DISC", 0xB0040, 1, 0x1F07, 0x0, 0x0, 0x0, 0x0, 0x0, 1, .core, false⟩,
  ⟨"BIL_DISCCTL", 0xB0044, 1, 0x0, 0x0, 0x0, 0x3, 0x0, 0x0, 1, .core, false⟩,
  ⟨"BIL_ENERGY", 0xB1000, 374, 0xFFFFFFFF, 0x0, 0x0, 0x0, 0x0, 0x0, 1, .core, false⟩,
  ⟨"BIL_PROV", 0xB1800, 22, 0xFFFFFFFF, 0x0, 0x0, 0x0, 0x0, 0x0, 1, .core, false⟩,
  ⟨"BIL_DMDCUR", 0xB1900, 6, 0xFFFFFFFF, 0x0, 0x0, 0x0, 0x0, 0x0, 1, .core, false⟩,
  ⟨"BIL_DMDLAST", 0xB1920, 6, 0xFFFFFFFF, 0x0, 0x0, 0x0, 0x0, 0x0, 1, .core, false⟩,
  ⟨"BIL_DMDMAX", 0xB1A00, 102, 0xFFFFFFFF, 0x0, 0x0, 0x0, 0x0, 0x0, 1, .core, false⟩,
  ⟨"BIL_DMDMAXT", 0xB1C00, 102, 0xFFFFFFFF, 0x0, 0x0, 0x0, 0x0, 0x0, 1, .core, false⟩,
  ⟨"BIL_CREDIT", 0xB1E00, 2, 0xFFFFFFFF, 0x0, 0x0, 0x0, 0x0, 0x0, 1, .core, false⟩]

/-- The registers of block BTM. -/
def rowsBTM : List RegRow := [
  ⟨"BTM_TIME", 0xC0000, 1, 0xFFFFFFFF, 0x0, 0x0, 0x0, 0x0, 0x0, 1, .battery, false⟩,
  ⟨"BTM_STAT", 0xC0004, 1, 0xFF, 0x0, 0x0, 0x0, 0x40, 0x0, 1, .battery, false⟩,
  ⟨"BTM_EVT", 0xC0008, 1, 0xFF, 0x0, 0xFF, 0x0, 0x0, 0x0, 1, .battery, false⟩,
  ⟨"BTM_SETVAL", 0xC000C, 1, 0xFFFFFFFF, 0xFFFFFFFF, 0x0, 0x0, 0x0, 0x0, 1, .battery, false⟩,
  ⟨"BTM_SETCTL", 0xC0010, 1, 0x0, 0x0, 0x0, 0x3, 0x0, 0x0, 1, .battery, false⟩,
  ⟨"BTM_TRIM", 0xC0014, 1, 0xFFFFFFFF, 0x0, 0x0, 0x0, 0x0, 0x0, 1, .battery, false⟩,
  ⟨"BTM_TAMPCNT", 0xC0018, 1, 0xFFFFFFFF, 0x0, 0x0, 0x0, 0x0, 0x0, 1, .battery, false⟩,
  ⟨"BTM_SLEWREM", 0xC001C, 1, 0xFFFFFFFF, 0x0, 0x0, 0x0, 0x0, 0x0, 1, .battery, false⟩,
  ⟨"BTM_LASTADJ", 0xC0020, 1, 0xFFFFFFFF, 0x0, 0x0, 0x0, 0x0, 0x0, 1, .battery, false⟩,
  ⟨"BTM_HWS", 0xC0024, 1, 0xFFFFFFFF, 0x0, 0x0, 0x0, 0x0, 0x0, 1, .battery, false⟩,
  ⟨"BTM_OUT", 0xC0030, 5, 0xFFFFFFFF, 0x0, 0x0, 0x0, 0x0, 0x0, 1, .battery, false⟩]

/-- The registers of block SAF. -/
def rowsSAF : List RegRow := [
  ⟨"SAF_STAT", 0xD0000, 1, 0x3FB, 0x0, 0x0, 0x0, 0x0, 0x0, 1, .signalBox, false⟩,
  ⟨"SAF_CAUSE", 0xD0004, 1, 0x3FFFFF, 0x0, 0x0, 0x0, 0x0, 0x0, 1, .signalBox, false⟩,
  ⟨"SAF_LATCH", 0xD0008, 1, 0x3FFFFF, 0x0, 0x0, 0x0, 0x0, 0x0, 1, .signalBox, false⟩,
  ⟨"SAF_FIRST", 0xD000C, 1, 0x1F, 0x0, 0x0, 0x0, 0x0, 0x0, 1, .signalBox, false⟩,
  ⟨"SAF_IN", 0xD0010, 1, 0x1F1FFF, 0x0, 0x0, 0x0, 0x0, 0x0, 1, .signalBox, false⟩,
  ⟨"SAF_OUT", 0xD0014, 1, 0xFFFFF, 0x0, 0x0, 0x0, 0x0, 0x0, 1, .signalBox, false⟩,
  ⟨"SAF_CRC", 0xD0018, 1, 0xFFFFFFFF, 0x0, 0x0, 0x0, 0x0, 0x0, 1, .signalBox, false⟩,
  ⟨"SAF_CRCCONF", 0xD001C, 1, 0xFFFFFFFF, 0x0, 0x0, 0x0, 0x0, 0x0, 1, .signalBox, false⟩,
  ⟨"SAF_CNT", 0xD0020, 1, 0xFFFFFFFF, 0x0, 0x0, 0x0, 0x0, 0x0, 1, .signalBox, false⟩]

/-- The registers of block EFT. -/
def rowsEFT : List RegRow := [
  ⟨"EFT_STAT", 0xE0000, 1, 0xF3F3F, 0x0, 0x0, 0x0, 0xF3F3E, 0x0, 1, .signalBox, false⟩,
  ⟨"EFT_EVT", 0xE0004, 1, 0x1FF, 0x0, 0x1FF, 0x0, 0x1FF, 0x0, 1, .signalBox, false⟩,
  ⟨"EFT_RCM", 0xE0008, 1, 0xFFFFFFFF, 0x0, 0x0, 0x0, 0xFFFFFFFF, 0x0, 1, .signalBox, false⟩,
  ⟨"EFT_IMD", 0xE000C, 1, 0xFFFFFFFF, 0x0, 0x0, 0x0, 0xFFFFFFFF, 0x0, 1, .signalBox, false⟩,
  ⟨"EFT_IMDPOS", 0xE0010, 1, 0xFFFFFFFF, 0x0, 0x0, 0x0, 0xFFFFFFFF, 0x0, 1, .signalBox, false⟩,
  ⟨"EFT_IMDNEG", 0xE0014, 1, 0xFFFFFFFF, 0x0, 0x0, 0x0, 0xFFFFFFFF, 0x0, 1, .signalBox, false⟩,
  ⟨"EFT_IMDCNT", 0xE0018, 1, 0xFFFFFFFF, 0x0, 0x0, 0x0, 0xFFFFFFFF, 0x0, 1, .signalBox, false⟩,
  ⟨"EFT_TRIPCFG", 0xE0020, 4, 0x107FF, 0x0, 0x0, 0x0, 0x107FF, 0x0, 1, .signalBox, false⟩,
  ⟨"EFT_TRIPMAP", 0xE0030, 1, 0xFFF, 0x0, 0x0, 0x0, 0xFFF, 0x0, 1, .signalBox, false⟩,
  ⟨"EFT_TRIPCTL", 0xE0034, 1, 0x0, 0x0, 0x0, 0x3, 0x3, 0x0, 1, .signalBox, false⟩,
  ⟨"EFT_TESTAGE", 0xE0038, 1, 0xFFFFFFFF, 0x0, 0x0, 0x0, 0xFFFFFFFF, 0x0, 1, .signalBox, false⟩]

/-- The registers of block SWC. -/
def rowsSWC : List RegRow := [
  ⟨"SWC_STAT", 0xF0000, 1, 0x1FFFF, 0x0, 0x0, 0x0, 0x0, 0x0, 1, .signalBox, false⟩,
  ⟨"SWC_EVT", 0xF0004, 1, 0x3F, 0x0, 0x3F, 0x0, 0x0, 0x0, 1, .signalBox, false⟩,
  ⟨"SWC_REFUSE", 0xF0008, 1, 0xFF, 0x0, 0x0, 0x0, 0x0, 0x0, 1, .signalBox, false⟩,
  ⟨"SWC_CYC", 0xF0100, 4, 0xFFFFFFFF, 0x0, 0x0, 0x0, 0x0, 0x0, 1, .signalBox, false⟩,
  ⟨"SWC_TIME", 0xF0120, 4, 0xFFFFFFFF, 0x0, 0x0, 0x0, 0x0, 0x0, 1, .signalBox, false⟩]

/-- The registers of block CPL. -/
def rowsCPL : List RegRow := [
  ⟨"CPL_STAT", 0x100000, 1, 0xF0777, 0x0, 0x0, 0x0, 0x0, 0x0, 1, .vehicleLink, false⟩,
  ⟨"CPL_EVT", 0x100004, 1, 0x3F, 0x0, 0x3F, 0x0, 0x0, 0x0, 1, .vehicleLink, false⟩,
  ⟨"CPL_DUTY", 0x100008, 1, 0xFFFFFFFF, 0x0, 0x0, 0x0, 0x0, 0x0, 1, .vehicleLink, false⟩,
  ⟨"CPL_LEVEL", 0x10000C, 1, 0xFFFFFFFF, 0x0, 0x0, 0x0, 0x0, 0x0, 1, .vehicleLink, false⟩,
  ⟨"CPL_PPRES", 0x100010, 1, 0xFFFFFFFF, 0x0, 0x0, 0x0, 0x0, 0x0, 1, .vehicleLink, false⟩,
  ⟨"CPL_BAGE", 0x100014, 1, 0xFFFFFFFF, 0x0, 0x0, 0x0, 0x0, 0x0, 1, .vehicleLink, false⟩,
  ⟨"CPL_CNT", 0x100018, 1, 0xFFFFFFFF, 0x0, 0x0, 0x0, 0x0, 0x0, 1, .vehicleLink, false⟩]

/-- The registers of block VPL. -/
def rowsVPL : List RegRow := [
  ⟨"VPL_STAT", 0x110000, 1, 0x1FF, 0x0, 0x0, 0x0, 0x0, 0x0, 1, .vehicleLink, false⟩,
  ⟨"VPL_EVT", 0x110004, 1, 0xFF, 0x0, 0xFF, 0x0, 0x0, 0x0, 1, .vehicleLink, false⟩,
  ⟨"VPL_SLACFAIL", 0x110008, 1, 0xFF, 0x0, 0x0, 0x0, 0x0, 0x0, 1, .vehicleLink, false⟩,
  ⟨"VPL_RUNID", 0x110010, 2, 0xFFFFFFFF, 0x0, 0x0, 0x0, 0x0, 0x0, 1, .vehicleLink, false⟩,
  ⟨"VPL_EVMAC", 0x110018, 2, 0xFFFFFFFF, 0x0, 0x0, 0x0, 0x0, 0x0, 1, .vehicleLink, false⟩,
  ⟨"VPL_ATTEN", 0x110020, 1, 0xFFFFFFFF, 0x0, 0x0, 0x0, 0x0, 0x0, 1, .vehicleLink, false⟩,
  ⟨"VPL_GPCNT", 0x110024, 1, 0xFFFFFFFF, 0x0, 0x0, 0x0, 0x0, 0x0, 1, .vehicleLink, false⟩,
  ⟨"VPL_RXDROP", 0x110028, 1, 0xFFFFFFFF, 0x0, 0x0, 0x0, 0x0, 0x0, 1, .vehicleLink, false⟩,
  ⟨"VPL_MATCHCNT", 0x11002C, 1, 0xFFFFFFFF, 0x0, 0x0, 0x0, 0x0, 0x0, 1, .vehicleLink, false⟩]

/-- The registers of block SES. -/
def rowsSES : List RegRow := [
  ⟨"SES_STAT", 0x120000, 1, 0xFF7F, 0x0, 0x0, 0x0, 0x0, 0x0, 1, .core, false⟩,
  ⟨"SES_EVT", 0x120004, 1, 0x7F, 0x0, 0x7F, 0x0, 0x0, 0x0, 1, .core, false⟩,
  ⟨"SES_CTL", 0x120008, 1, 0x0, 0x0, 0x0, 0x3, 0x0, 0x0, 1, .core, false⟩,
  ⟨"SES_AUTHREQ", 0x12000C, 1, 0xFFF, 0x0, 0x0, 0x0, 0x0, 0x0, 1, .core, false⟩,
  ⟨"SES_AUTHCTL", 0x120010, 1, 0x0, 0x0, 0x0, 0x7FF, 0x0, 0x0, 1, .core, false⟩,
  ⟨"SES_ID", 0x120014, 2, 0xFFFFFFFF, 0x0, 0x0, 0x0, 0x0, 0x0, 1, .core, false⟩,
  ⟨"SES_END", 0x12001C, 1, 0xFFFF, 0x0, 0x0, 0x0, 0x0, 0x0, 1, .core, false⟩,
  ⟨"SES_ISET", 0x120020, 1, 0xFFFFFFFF, 0x0, 0x0, 0x0, 0x0, 0x0, 1, .core, false⟩,
  ⟨"SES_ILIMNOW", 0x120024, 1, 0xFFFFFFFF, 0x0, 0x0, 0x0, 0x0, 0x0, 1, .core, false⟩,
  ⟨"SES_ILIM", 0x120028, 1, 0xFFFFFFFF, 0xFFFFFFFF, 0x0, 0x0, 0x0, 0x0, 1, .core, false⟩,
  ⟨"SES_GRANT", 0x12002C, 1, 0xFFFFFFFF, 0x0, 0x0, 0x0, 0x0, 0x0, 1, .core, false⟩,
  ⟨"SES_LEASE", 0x120030, 1, 0xFFFFFFFF, 0x0, 0x0, 0x0, 0x0, 0x0, 1, .core, false⟩,
  ⟨"SES_CONVOK", 0x120034, 1, 0xFFFFFFFF, 0x0, 0x0, 0x0, 0x0, 0x0, 1, .core, false⟩,
  ⟨"SES_CONVCNT", 0x120038, 1, 0xFFFFFFFF, 0x0, 0x0, 0x0, 0x0, 0x0, 1, .core, false⟩,
  ⟨"SES_CONV", 0x120100, 32, 0xFFFFFF07, 0x0, 0x0, 0x0, 0x0, 0x0, 1, .core, false⟩]

/-- The registers of block ETH. -/
def rowsETH : List RegRow := [
  ⟨"ETH_STAT", 0x130000, 1, 0x3F3, 0x0, 0x0, 0x0, 0x0, 0x0, 1, .siteLink, false⟩,
  ⟨"ETH_EVT", 0x130004, 1, 0x7F, 0x0, 0x7F, 0x0, 0x0, 0x0, 1, .siteLink, false⟩,
  ⟨"ETH_CTL", 0x130008, 1, 0x3, 0x3, 0x0, 0x0, 0x0, 0x0, 1, .siteLink, false⟩,
  ⟨"ETH_GRP", 0x13000C, 1, 0xFFF, 0x0, 0x0, 0x0, 0x0, 0x0, 1, .siteLink, false⟩,
  ⟨"ETH_CAN", 0x130040, 2, 0xFFFFFF01, 0x0, 0x0, 0x0, 0x0, 0x0, 1, .siteLink, false⟩,
  ⟨"ETH_PCNT", 0x130100, 16, 0xFFFFFFFF, 0x0, 0x0, 0x0, 0x0, 0x0, 1, .siteLink, false⟩]

/-- The registers of block PTP. -/
def rowsPTP : List RegRow := [
  ⟨"PTP_STAT", 0x140000, 1, 0xFD, 0x0, 0x0, 0x0, 0x0, 0x0, 1, .siteLink, false⟩,
  ⟨"PTP_EVT", 0x140004, 1, 0x1F, 0x0, 0x1F, 0x0, 0x0, 0x0, 1, .siteLink, false⟩,
  ⟨"PTP_ST", 0x140010, 2, 0xFFFFFFFF, 0x0, 0x0, 0x0, 0x0, 0x0, 1, .siteLink, false⟩,
  ⟨"PTP_OFS", 0x140020, 2, 0xFFFFFFFF, 0x0, 0x0, 0x0, 0x0, 0x0, 1, .siteLink, false⟩,
  ⟨"PTP_MPD", 0x140028, 2, 0xFFFFFFFF, 0x0, 0x0, 0x0, 0x0, 0x0, 1, .siteLink, false⟩,
  ⟨"PTP_SLEWREM", 0x140030, 1, 0xFFFFFFFF, 0x0, 0x0, 0x0, 0x0, 0x0, 1, .siteLink, false⟩,
  ⟨"PTP_EVTTS", 0x140038, 2, 0xFFFFFFFF, 0x0, 0x0, 0x0, 0x0, 0x0, 1, .siteLink, false⟩,
  ⟨"PTP_UTC", 0x140040, 1, 0xFFFFFFFF, 0x0, 0x0, 0x0, 0x0, 0x0, 1, .siteLink, false⟩,
  ⟨"PTP_GMID", 0x140050, 4, 0xFFFFFFFF, 0x0, 0x0, 0x0, 0x0, 0x0, 1, .siteLink, false⟩]

/-- The registers of block STG. -/
def rowsSTG : List RegRow := [
  ⟨"STG_STAT", 0x150000, 1, 0xFFFF, 0x0, 0x0, 0x0, 0x0, 0x0, 1, .signalBox, false⟩,
  ⟨"STG_EVT", 0x150004, 1, 0x7, 0x0, 0x7, 0x0, 0x0, 0x0, 1, .signalBox, false⟩,
  ⟨"STG_TXEPOCH", 0x150008, 1, 0xFFFFFFFF, 0x0, 0x0, 0x0, 0x0, 0x0, 1, .signalBox, false⟩,
  ⟨"STG_TXSEQ", 0x15000C, 1, 0xFFFFFFFF, 0x0, 0x0, 0x0, 0x0, 0x0, 1, .signalBox, false⟩,
  ⟨"STG_NETRX", 0x150010, 2, 0xFFFFFFFF, 0x0, 0x0, 0x0, 0x0, 0x0, 1, .signalBox, false⟩,
  ⟨"STG_LASTEP", 0x150020, 8, 0xFFFFFFFF, 0x0, 0x0, 0x0, 0x0, 0x0, 1, .signalBox, false⟩,
  ⟨"STG_CNT", 0x150100, 64, 0xFFFFFFFF, 0x0, 0x0, 0x0, 0x0, 0x0, 1, .signalBox, false⟩]

/-- The registers of block AMB. -/
def rowsAMB : List RegRow := [
  ⟨"AMB_STAT", 0x160000, 1, 0x7FFFF, 0x0, 0x0, 0x0, 0x0, 0x0, 1, .amene, false⟩,
  ⟨"AMB_EVT", 0x160004, 1, 0x7FF, 0x0, 0x7FF, 0x0, 0x0, 0x0, 1, .amene, false⟩,
  ⟨"AMB_LAST", 0x160008, 1, 0xFFFFFFFF, 0x0, 0x0, 0x0, 0x0, 0x0, 1, .amene, false⟩,
  ⟨"AMB_SNR", 0x160040, 9, 0xFFFFFFFF, 0x0, 0x0, 0x0, 0x0, 0x0, 1, .amene, false⟩,
  ⟨"AMB_CNT", 0x160080, 8, 0xFFFFFFFF, 0x0, 0x0, 0x0, 0x0, 0x0, 1, .amene, false⟩,
  ⟨"AMB_SITE", 0x1600C0, 4, 0xFFFFFFFF, 0x0, 0x0, 0x0, 0x0, 0x0, 1, .amene, false⟩,
  ⟨"AMB_NODE", 0x160400, 256, 0xFFFFFFFF, 0x0, 0x0, 0x0, 0x0, 0x0, 1, .amene, false⟩,
  ⟨"AMB_NODEX", 0x160800, 256, 0xFFFFFFFF, 0x0, 0x0, 0x0, 0x0, 0x0, 1, .amene, false⟩]

/-- The registers of block DLM. -/
def rowsDLM : List RegRow := [
  ⟨"DLM_STAT", 0x170000, 1, 0xFF3, 0x0, 0x0, 0x0, 0x0, 0x0, 1, .core, false⟩,
  ⟨"DLM_EVT", 0x170004, 1, 0xF, 0x0, 0xF, 0x0, 0x0, 0x0, 1, .core, false⟩,
  ⟨"DLM_ICNT", 0x170010, 3, 0xFFFFFFFF, 0x0, 0x0, 0x0, 0x0, 0x0, 1, .core, false⟩,
  ⟨"DLM_TXIC", 0x17001C, 1, 0xFFFFFFFF, 0x0, 0x0, 0x0, 0x0, 0x0, 1, .core, false⟩,
  ⟨"DLM_CNT", 0x170100, 6, 0xFFFFFFFF, 0x0, 0x0, 0x0, 0x0, 0x0, 1, .core, false⟩]

/-- The registers of block KEY. -/
def rowsKEY : List RegRow := [
  ⟨"KEY_STAT", 0x180000, 1, 0x1FF301F, 0x0, 0x0, 0x0, 0x0, 0x0, 1, .grotto, false⟩,
  ⟨"KEY_EVT", 0x180004, 1, 0x3FF, 0x0, 0x3FF, 0x0, 0x0, 0x0, 1, .grotto, false⟩,
  ⟨"KEY_CMD", 0x180008, 1, 0xFFFFFF80, 0xFFFFFF80, 0x0, 0x0, 0x0, 0x0, 2, .grotto, false⟩,
  ⟨"KEY_CMDUSE", 0x18000C, 1, 0x7FF, 0x7FF, 0x0, 0x0, 0x0, 0x0, 2, .grotto, false⟩,
  ⟨"KEY_CTL", 0x180010, 1, 0x0, 0x0, 0x0, 0x1, 0x0, 0x0, 2, .grotto, false⟩,
  ⟨"KEY_CMDSTAT", 0x180014, 1, 0xFF, 0x0, 0x0, 0x0, 0x0, 0x0, 1, .grotto, false⟩,
  ⟨"KEY_PUFBLK", 0x180020, 8, 0xFF07, 0x0, 0x0, 0x0, 0x0, 0x0, 1, .grotto, false⟩,
  ⟨"KEY_DATA", 0x180100, 32, 0xFFFFFFFF, 0xFFFFFFFF, 0x0, 0x0, 0x0, 0x0, 2, .grotto, false⟩,
  ⟨"KEY_SLOT", 0x180400, 256, 0xFF1FF7FF, 0x0, 0x0, 0x0, 0x0, 0x0, 1, .grotto, false⟩,
  ⟨"KEY_SLOTX", 0x180800, 256, 0x1FFFF00, 0x0, 0x0, 0x0, 0x0, 0x0, 1, .grotto, false⟩]

/-- The registers of block UPD. -/
def rowsUPD : List RegRow := [
  ⟨"UPD_STAT", 0x190000, 1, 0xF7, 0x0, 0x0, 0x0, 0x0, 0x0, 1, .core, false⟩,
  ⟨"UPD_EVT", 0x190004, 1, 0x3F, 0x0, 0x3F, 0x0, 0x0, 0x0, 1, .core, false⟩,
  ⟨"UPD_CTL", 0x190008, 1, 0x0, 0x0, 0x0, 0x7, 0x0, 0x0, 1, .core, false⟩,
  ⟨"UPD_CODES", 0x19000C, 1, 0x1FFFFFF, 0x0, 0x0, 0x0, 0x0, 0x0, 1, .core, false⟩,
  ⟨"UPD_SVN", 0x190010, 1, 0xFFFFFFFF, 0x0, 0x0, 0x0, 0x0, 0x0, 1, .core, false⟩,
  ⟨"UPD_LOCKCNT", 0x190014, 1, 0xFFFFFFFF, 0x0, 0x0, 0x0, 0x0, 0x0, 1, .core, false⟩,
  ⟨"UPD_VBAT", 0x190018, 1, 0xFFFFFFFF, 0x0, 0x0, 0x0, 0x0, 0x0, 1, .core, false⟩,
  ⟨"UPD_FWID", 0x190020, 4, 0xFFFFFFFF, 0x0, 0x0, 0x0, 0x0, 0x0, 1, .core, false⟩,
  ⟨"UPD_STGID", 0x190030, 4, 0xFFFFFFFF, 0x0, 0x0, 0x0, 0x0, 0x0, 1, .core, false⟩,
  ⟨"UPD_LOCKMSG", 0x190100, 28, 0x0, 0x0, 0x0, 0xFFFFFFFF, 0x0, 0x0, 2, .core, false⟩]

/-- The registers of block NFC. -/
def rowsNFC : List RegRow := [
  ⟨"NFC_STAT", 0x1A0000, 1, 0xF, 0x0, 0x0, 0x0, 0x0, 0x0, 1, .service, false⟩,
  ⟨"NFC_EVT", 0x1A0004, 1, 0x3F, 0x0, 0x3F, 0x0, 0x0, 0x0, 1, .service, false⟩,
  ⟨"NFC_LAST", 0x1A0008, 1, 0x3FF0F, 0x0, 0x0, 0x0, 0x0, 0x0, 1, .service, false⟩,
  ⟨"NFC_LISTCTL", 0x1A0010, 1, 0x0, 0x0, 0x0, 0x3F, 0x0, 0x0, 1, .service, false⟩,
  ⟨"NFC_TAGSTAT", 0x1A0020, 1, 0xFF, 0x0, 0x0, 0x0, 0x0, 0x0, 1, .service, false⟩,
  ⟨"NFC_TAGWCTL", 0x1A0024, 1, 0x0, 0x0, 0x0, 0x3F, 0x0, 0x0, 1, .service, false⟩,
  ⟨"NFC_LISTCNT", 0x1A0030, 1, 0xFFFFFFFF, 0x0, 0x0, 0x0, 0x0, 0x0, 1, .service, false⟩,
  ⟨"NFC_TAGCNT", 0x1A0034, 1, 0xFFFFFFFF, 0x0, 0x0, 0x0, 0x0, 0x0, 1, .service, false⟩,
  ⟨"NFC_TAGWDATA", 0x1A0040, 8, 0xFFFFFFFF, 0xFFFFFFFF, 0x0, 0x0, 0x0, 0x0, 1, .service, false⟩,
  ⟨"NFC_LASTUID", 0x1A0060, 3, 0xFFFFFFFF, 0x0, 0x0, 0x0, 0x0, 0x0, 1, .service, false⟩,
  ⟨"NFC_LISTUID", 0x1A0070, 3, 0xFFFFFFFF, 0xFFFFFFFF, 0x0, 0x0, 0x0, 0x0, 1, .service, false⟩]

/-- The registers of block LSW. -/
def rowsLSW : List RegRow := [
  ⟨"LSW_STAT", 0x1B0000, 1, 0x38FFF, 0x0, 0x0, 0x0, 0x0, 0x0, 1, .service, false⟩,
  ⟨"LSW_EVT", 0x1B0004, 1, 0xFFF, 0x0, 0xFFF, 0x0, 0x0, 0x0, 1, .service, false⟩,
  ⟨"LSW_VLS", 0x1B0008, 1, 0xFFFF, 0x0, 0x0, 0x0, 0x0, 0x0, 1, .service, false⟩,
  ⟨"LSW_LH", 0x1B000C, 1, 0x1F, 0x0, 0x0, 0x0, 0x0, 0x0, 1, .service, false⟩,
  ⟨"LSW_CTL", 0x1B0100, 12, 0x1, 0x1, 0x0, 0x2, 0x0, 0x0, 1, .service, false⟩,
  ⟨"LSW_CH", 0x1B0200, 12, 0xFFFFFFFF, 0x0, 0x0, 0x0, 0x0, 0x0, 1, .service, false⟩,
  ⟨"LSW_CNT", 0x1B0300, 12, 0xFFFFFFFF, 0x0, 0x0, 0x0, 0x0, 0x0, 1, .service, false⟩]

/-- The registers of block LCD. -/
def rowsLCD : List RegRow := [
  ⟨"LCD_STAT", 0x1C0000, 1, 0xF7F, 0x0, 0x0, 0x0, 0x0, 0x0, 1, .service, false⟩,
  ⟨"LCD_EVT", 0x1C0004, 1, 0xF, 0x0, 0xF, 0x0, 0x0, 0x0, 1, .service, false⟩,
  ⟨"LCD_BL", 0x1C0008, 1, 0xFFFFFF, 0xFFFFFF, 0x0, 0x0, 0x0, 0x0, 1, .service, false⟩,
  ⟨"LCD_CTL", 0x1C000C, 1, 0x0, 0x0, 0x0, 0x3, 0x0, 0x0, 1, .service, false⟩,
  ⟨"LCD_IMG", 0x1C0100, 5, 0xFFFFFFFF, 0x0, 0x0, 0x0, 0x0, 0x0, 1, .service, false⟩,
  ⟨"LCD_FAIL", 0x1C0120, 5, 0xFFFFFFFF, 0x0, 0x0, 0x0, 0x0, 0x0, 1, .service, false⟩,
  ⟨"LCD_FAIL", 0x1C0134, 1, 0xF, 0x0, 0x0, 0x0, 0x0, 0x0, 1, .service, false⟩]

/-- The registers of the block at each base of R9. -/
def rowsOfBlock : Nat → List RegRow
  | 0x0 => rowsSYS
  | 0x10000 => rowsTTB
  | 0x18000 => rowsTOK
  | 0x20000 => rowsPWR
  | 0x30000 => rowsCLK
  | 0x40000 => rowsMEM
  | 0x50000 => rowsSHN
  | 0x60000 => rowsHIF
  | 0x80000 => rowsAFE
  | 0x90000 => rowsMTR
  | 0xA0000 => rowsPTS
  | 0xB0000 => rowsBIL
  | 0xC0000 => rowsBTM
  | 0xD0000 => rowsSAF
  | 0xE0000 => rowsEFT
  | 0xF0000 => rowsSWC
  | 0x100000 => rowsCPL
  | 0x110000 => rowsVPL
  | 0x120000 => rowsSES
  | 0x130000 => rowsETH
  | 0x140000 => rowsPTP
  | 0x150000 => rowsSTG
  | 0x160000 => rowsAMB
  | 0x170000 => rowsDLM
  | 0x180000 => rowsKEY
  | 0x190000 => rowsUPD
  | 0x1A0000 => rowsNFC
  | 0x1B0000 => rowsLSW
  | 0x1C0000 => rowsLCD
  | _ => []

/-- The bases of R9, in ascending order. -/
def bases : List Nat := [0x0, 0x10000, 0x18000, 0x20000, 0x30000, 0x40000, 0x50000, 0x60000, 0x80000, 0x90000, 0xA0000, 0xB0000, 0xC0000, 0xD0000, 0xE0000, 0xF0000, 0x100000, 0x110000, 0x120000, 0x130000, 0x140000, 0x150000, 0x160000, 0x170000, 0x180000, 0x190000, 0x1A0000, 0x1B0000, 0x1C0000]

/-- The base of the block an address lies in (R9, R10): none in the unmapped ranges. -/
def blockOf (a : Nat) : Option Nat :=
  if 0x1D0000 ≤ a || (0x70000 ≤ a && a ≤ 0x7FFFF) then none
  else (bases.filter (fun b => decide (b ≤ a))).getLast?

/-- The row an address belongs to: none when no register is defined there (R10). -/
def rowOf (a : Nat) : Option RegRow :=
  match blockOf a with
  | none => none
  | some b => (rowsOfBlock b).find? (fun r => decide (r.addr ≤ a) && decide (a < r.addr + 4 * r.words))

/-- The FIFO depth of each Crossing (spec/01_architecture.md R29). -/
def xingDepth (n : Nat) : Nat := if n = 0 then 32 else if n = 17 ∨ n = 18 then 4 else 16

/-- The default budgets of spec/01_architecture.md R38: slots per period for resource k (0 fabric, 1 crypto engine,
2 MRAM write port) and class c. -/
def budgetDefault (k c : Nat) : Nat :=
  match k with
  | 0 => ([10, 20, 10, 30, 40, 20, 20, 30, 20] : List Nat).getD c 0
  | 1 => ([0, 0, 20, 25, 15, 15, 10, 10, 5] : List Nat).getD c 0
  | 2 => ([5, 5, 40, 5, 5, 10, 20, 5, 5] : List Nat).getD c 0
  | _ => 0

/-- The floor budgets of R38. -/
def budgetFloor (k c : Nat) : Bool :=
  match k with
  | 0 => c == 0 || c == 1
  | 1 => c == 2
  | 2 => c == 0 || c == 1 || c == 2
  | _ => false

/-- The word a register reads as when nothing has written it: the reset value of its heading line, on variant F.
State.resetOn writes the words in which variant M differs. The Ethernet path's copies reset as the SPI path's. -/
def resetOf (addr : Nat) : Word :=
  let a := addr
  if a < 0x1000 then
    if a = Reg.SYS_ID then 0x94003001
    else if 0x400 ≤ a && a < 0x454 then BitVec.ofNat 32 (0x80000000 + xingDepth ((a - 0x400) / 4) * 0x400000)
    else 0
  else if a < 0x20000 then
    if a = Reg.TOK_BUDGET then 0x0FA01770
    else if 0x10100 ≤ a && a < 0x10100 + 4 * 42 then
      let n := (a - 0x10100) / 4
      BitVec.ofNat 32 (budgetDefault (n / 16) (n % 16) + if budgetFloor (n / 16) (n % 16) then 256 else 0)
    else 0
  else if a < 0x80000 then
    if a = Reg.CLK_XBMEAS then 0x80000000
    else if 0x40140 ≤ a && a < 0x40140 + 36 then 0x0000FFFF
    else if a = Reg.HIF_STAT then 1
    else 0
  else if a < 0xA0000 then
    if a = Reg.AFE_ID then 0x3001
    else if a = Reg.AFE_LANE then 0x0FF0
    else if 0x80100 ≤ a && a < 0x80140 then BitVec.ofNat 32 ((a - 0x80100) / 4)
    else if 0x80280 ≤ a && a < 0x802C0 then
      let m := (a - 0x80280) / 4
      if m ≤ 13 then BitVec.ofNat 32 (16 * m) else 0xF1
    else 0
  else if a = Reg.PTS_ENG 1 then 1
  else if a = Reg.SAF_STAT then 1
  else if a = Reg.SAF_OUT then 0x30000
  else if a = Reg.EFT_TRIPMAP then 0x984
  else if a = Reg.EFT_TESTAGE then 0xFFFFFFFF
  else if a = Reg.CPL_STAT then 0x255
  else if a = Reg.ETH_CTL then 3
  else 0

end Sys2Proof.RegMap
end

