-- ==== Sys2Proof/Machine/Sparse.lean ====
section
/-!
DEFINITION. Sparse storage: a map from numbers to values as a list of pairs in one canonical form, keys strictly rising and
no entry equal to what an unlisted key reads as, so that equal maps are equal data. What an unlisted key reads as is an
argument of every operation.
-/
namespace Sys2Proof.Sparse

variable {α : Type}

/-- The value at a key: the listed one, else what an unlisted key reads as. -/
def get (dflt : Nat → α) : List (Nat × α) → Nat → α
  | [], a => dflt a
  | (k, v) :: m, a => if a = k then v else get dflt m a

/-- The list without the entries of a key. -/
def erase (m : List (Nat × α)) (a : Nat) : List (Nat × α) := m.filter (fun e => e.1 != a)

/-- The list with an entry put in its place, over an entry of the same key. -/
def insert : List (Nat × α) → Nat → α → List (Nat × α)
  | [], a, x => [(a, x)]
  | (k, v) :: m, a, x =>
    if a < k then (a, x) :: (k, v) :: m
    else if a = k then (a, x) :: m
    else (k, v) :: insert m a x

/-- The map with a key's value set: a value that an unlisted key reads as leaves no entry. -/
def set [DecidableEq α] (dflt : Nat → α) (m : List (Nat × α)) (a : Nat) (x : α) : List (Nat × α) :=
  if x = dflt a then erase m a else insert m a x

/-- Keys strictly rise, from above a bound. -/
def above : Nat → List (Nat × α) → Bool
  | _, [] => true
  | b, (k, _) :: m => decide (b < k) && above k m

/-- Keys strictly rise. -/
def rising : List (Nat × α) → Bool
  | [] => true
  | (k, _) :: m => above k m

/-- The canonical form. -/
def wf [DecidableEq α] (dflt : Nat → α) (m : List (Nat × α)) : Bool :=
  rising m && m.all (fun e => decide (e.2 ≠ dflt e.1))

end Sys2Proof.Sparse
end

