-- ==== Sys2Proof/Machine/StBilling.lean ====
section
/-!
DEFINITION. State of spec/02_metrology_frontend.md to spec/06_billing_time_events.md that no register holds.
-/
namespace Sys2Proof.Machine

/-! State of spec/02_metrology_frontend.md, spec/03_metrology_engine.md and spec/04_points_redundancy.md that no register
holds: trims and lanes of the front end, the two engines, the records and snapshots of the Points. Exact quantities are rational
numbers; lists of windows hold the newest entry first. -/

/-- A converter's trim (R85): a trimmed sample is (raw − offset) / gain. -/
structure Trim where
  gain : Rat
  offset : Rat
  deriving DecidableEq, Repr

/-- The front end (R55 to R94). OTP: the factory trims, the reference value; MRAM: the stored trims and role map. The rest is
volatile: trims in force, the running step's number, the roles left in this cycle (15: the step of a lone spare) and those to
retry, the blocks each role stays invalid while a switch settles, and the faulty lanes whose role no spare lane carries. -/
structure AfeState where
  factory : List Trim
  refOtp : Int
  stored : List Trim
  storedMap : List Nat
  trims : List Trim
  stepNo : Nat
  todo : List Nat
  retry : List Nat
  heal : List Nat
  laneDown : List Nat
  deriving DecidableEq, Repr

/-- What one engine keeps per role 0 to 10: integrator and filter states (R75, R104), delay line (R106), resonator (R117),
windows of 100 blocks of block sums before the gains (R109, R133) and of corrected squares (R130), and the runs of R111, R112. -/
structure RoleDsp where
  coilX : Rat
  coilHist : List Rat
  hp : Rat
  hist : List Rat
  fund : List Rat
  fundHist : List Rat
  codes : List (Rat × Rat)
  sq : List Rat
  invalidRun : Nat
  validRun : Nat
  exhausted : Bool
  deriving DecidableEq, Repr

/-- A creep gate (R125, R126): the |power| of the last 1,000 blocks and the increments held while it is closed. -/
structure CreepGate where
  isOpen : Bool
  win : List Rat
  held : List (List Rat)
  deriving DecidableEq, Repr

/-- One metrology engine. Gates 0 to 2 are the active gates of phases A to C, 3 and 4 those of DC channels 1 and 2, 5 to 7 the
reactive gates. win holds per-block values: 0 to 2 active, 3 to 5 reactive and 6 to 8 apparent increments in J (100 blocks), 9
squared sums of ia + ib + ic (100 blocks), 10 to 17 per DC channel voltage and current sums, measured and connector J (10 blocks).
est holds, per channel, the increments of its last 100 valid blocks. corr is the user correction set the engine computes with. -/
structure Engine where
  dsp : List RoleDsp
  gates : List CreepGate
  heldS : List (List Rat)
  seg : List Nat
  win : List (List Rat)
  est : List (List (List Int))
  rem : List Rat
  totals : List Int
  quad : List Nat
  blocks : Nat
  freq : Nat
  corr : List (Nat × Int)
  corrFlag : Bool
  deriving DecidableEq, Repr

/-- An increment record (R128): block number, flags, the 13 energy words. -/
structure Rec where
  blk : Nat
  flags : Nat
  words : List Int
  deriving DecidableEq, Repr

/-- What an engine's snapshot at the end of a block holds (R149), with the referee's finding on the engine at that block. -/
structure Snap where
  blk : Nat
  totals : List Int
  corr : List (Nat × Int)
  quad : List Nat
  gates : List Bool
  seg : List Nat
  rem : List Rat
  bad : Bool
  deriving DecidableEq, Repr

/-- One engine in its place in the Points: its computation, its last 4 records (R152), its snapshots at the end of past blocks,
the failures in a row of its self-test (R156), the blocks of its warm-up and the blocks compared in shadow (R158, R159), and
whether its boot self-test failed (R144). -/
structure Rail where
  eng : Engine
  ring : List Rec
  snaps : List Snap
  fails : Nat
  warm : Nat
  shadow : Nat
  bootFail : Bool
  deriving DecidableEq, Repr

/-- The Points. MRAM: the hours of each engine's faults (R156) and the engine due for the next planned test (R157). Volatile: the
last snapshot (R149), consecutive blocks without a healthy record and the words of the last 100 records delivered (R155), a planned
test that waits, consecutive clean compares in dual mode (R157), the trial's sums (R161), whether a commit mark has come (R151),
and the updates in a row with a neutral mismatch (R131) and the states that FREQ and SEQ are set on entry into (R115, R116). -/
structure PtsState where
  faultHours : List (Nat × Nat)
  due : Nat
  r0 : Rail
  r1 : Rail
  stored : Option Snap
  noRec : Nat
  delivered : List (List Int)
  planned : Bool
  plannedNow : Bool
  cleanRun : Nat
  trial : List Int
  trialOn : Bool
  markSeen : Bool
  neutralRun : Nat
  freqLost : Bool
  seqWrong : Bool
  deriving DecidableEq, Repr

/-- A role's computation before any sample. -/
def RoleDsp.zero : RoleDsp := ⟨0, [], 0, [], [], [], [], [], 0, 0, false⟩

/-- A closed gate that has seen no power. -/
def CreepGate.zero : CreepGate := ⟨false, [], []⟩

/-- An engine before any block, with no user correction. -/
def Engine.zero : Engine :=
  ⟨List.replicate 11 .zero, List.replicate 8 .zero, List.replicate 3 [], List.replicate 6 0, List.replicate 18 [],
    List.replicate 5 [], List.replicate 13 0, List.replicate 13 0, List.replicate 3 0, 0, 0, [], false⟩

/-- An engine's place before metering. -/
def Rail.zero : Rail := ⟨.zero, [], [], 0, 0, 0, false⟩

/-! State of spec/05_billing_registers.md and spec/06_billing_time_events.md that no register holds: the tariff tables, the
pending stage, the accumulators, demand, profiles, Waybills, logs, the billing clock, the outage and tamper records, the relay.
Stores that overwrite their oldest entry hold the newest first. -/

/-- A pending entry (R175): the record, its second and whether a tick has confirmed it, its rate and the table generation. -/
structure Pend where
  rcd : Rec
  sec : Nat
  confirmed : Bool
  rate : Nat
  gen : Nat
  deriving DecidableEq, Repr

/-- An entry of a load profile (R193, R194): end time, status, values. -/
structure ProfEntry where
  endT : Nat
  status : Nat
  values : List Int
  deriving DecidableEq, Repr

/-- The running interval of a load profile: first second, status gathered, committed seconds, and the last block of the last of them. -/
structure ProfRun where
  start : Nat
  status : Nat
  secs : Nat
  begun : Bool
  blk : Nat
  deriving DecidableEq, Repr

/-- An entry of the billing period history (R191). -/
structure PeriodEntry where
  endT : Nat
  status : Nat
  energy : List Nat
  dmdMax : List Nat
  dmdMaxT : List Nat
  credit : Int
  deriving DecidableEq, Repr

/-- A Waybill (R199 to R204): the fields and body fixed at its commit, and what signing adds (SIGALG, KEYSLOT, KEYGEN, the
signature). -/
structure Waybill where
  kind : Nat
  seq : Nat
  status : Nat
  tStart : Nat
  tEnd : Nat
  ttgen : Nat
  tz : Int
  blkEnd : Nat
  rate : Nat
  body : List Byte
  sigAlg : Nat
  keySlot : Nat
  keyGen : Nat
  sig : List Byte
  deriving DecidableEq, Repr

/-- A charging session as billing follows it (R199, R203): its start second and whether its reading at start has been taken (the
energy registers then, in nWh), the status and the debit gathered, and, once it has ended, the second, the reason and the
authorisation. -/
structure SessBill where
  id : Nat
  startSec : Nat
  taken : Bool
  reading : List Nat
  status : Nat
  debit : Nat
  ended : Bool
  endSec : Nat
  reason : Nat
  authRef : List Byte
  authSrc : Nat
  deriving DecidableEq, Repr

/-- The running demand subinterval (R189): committed seconds, energies of the six quantities, and what each of the
subintervals before it contributes, newest first. -/
structure DemandRun where
  start : Nat
  secs : Nat
  energy : List Nat
  past : List (List Rat)
  begun : Bool
  deriving DecidableEq, Repr

/-- The billing pipeline. MRAM (journal included): acc (the committed accumulators of R167, 17 per quantity, in nWh), the tables
(R172), demand, profiles, credit, Waybills, sessions. Volatile: the pending stage, the second of the last tick and the first block
read after it (R173, R174), the seconds that ticks have ended and no commit has taken (due), the intake stop of R181, the rate of the last
committed second, whether a refused signature is to be asked for again (R385), marks of status bits on seconds not
yet committed, the frozen view and the latched high words (R187). -/
structure BilState where
  acc : List Nat
  active : Option Tariff
  passive : Option Tariff
  dmd : DemandRun
  lp1 : List ProfEntry
  lp2 : List ProfEntry
  run1 : ProfRun
  run2 : ProfRun
  history : List PeriodEntry
  periods : Nat
  credit : Int
  carry : Nat
  transfers : List (Int × Nat × Nat)
  unsigned : List Waybill
  sessWb : List Waybill
  intWb : List Waybill
  sess : List SessBill
  blkWin : List Nat
  pend : List Pend
  tickSec : Nat
  ticked : Bool
  due : List Nat
  began : Bool
  curFirst : Option Nat
  stopped : Bool
  lost : Nat
  endNow : Bool
  lastRate : Nat
  signRetry : Bool
  catchUp : Nat
  marks : List (Nat × Nat)
  frozen : List (Nat × Word)
  latch : List (Path × Nat × Word)
  deriving DecidableEq, Repr

/-- An event log entry (R231). -/
structure LogEntry where
  time : Nat
  commit : Nat
  code : Nat
  status : Nat
  data : Nat
  deriving DecidableEq, Repr

/-- An event log (R230): its entries and the count of all ever written. -/
structure LogStore where
  entries : List LogEntry
  written : Nat
  deriving DecidableEq, Repr

/-- A clock step taken (R213, R214): Δ in seconds, the new second, its source, whether it is a clock reset, and whether it
is the jump after the Battery island has lost the clock (R219). -/
structure ClockStep where
  delta : Int
  target : Nat
  source : Nat
  reset : Bool
  lost : Bool
  deriving DecidableEq, Repr

/-- A tamper change stored while VSYS is absent (R227). -/
structure TamperRec where
  sec : Nat
  code : Nat
  deriving DecidableEq, Repr

/-- An outage record (R223, R228). -/
structure OutageRec where
  startSec : Nat
  endSec : Nat
  secsWith : Nat
  largest : Nat
  role : Nat
  ampSec : Rat
  incomplete : Bool
  lost : Nat
  deriving DecidableEq, Repr

/-- The billing clock and the Battery island. Battery-held: the temperature trim, the running slew in
fifths of a ms, the polls of the tamper
inputs and their buffer. The Core island's: the step held and the step to apply at the next tick. MRAM: the outage records, the
relay's state and a fault stored by a save. relay: the command, whether its feedback is awaited, whether a failed close has been
repeated. -/
structure BtmState where
  tempTrim : Int
  slew : Int
  step : Option ClockStep
  polls : List Bool
  tampBuf : List TamperRec
  tampLost : Nat
  outage : Option OutageRec
  outages : List OutageRec
  relayOn : Bool
  relayWait : Bool
  relayRepeat : Bool
  relayPend : Bool
  savedFault : Option Nat
  deriving DecidableEq, Repr

/-- No interval running. -/
def ProfRun.none : ProfRun := ⟨0, 0, 0, false, 0⟩

/-- The pipeline before the first start. -/
def BilState.zero : BilState :=
  { acc := List.replicate 187 0, active := none, passive := none, dmd := ⟨0, 0, List.replicate 6 0, [], false⟩,
    lp1 := [], lp2 := [], run1 := .none, run2 := .none, history := [], periods := 0, credit := 0, carry := 0, transfers := [],
    unsigned := [], sessWb := [], intWb := [], sess := [], blkWin := [], pend := [], tickSec := 0, ticked := false, due := [], began := false,
    curFirst := none, stopped := false, lost := 0, endNow := false, lastRate := 1, signRetry := false, catchUp := 0, marks := [], frozen := [], latch := [] }

/-- The billing clock before the first start. -/
def BtmState.zero : BtmState :=
  { tempTrim := 0, slew := 0, step := none, polls := [false, false], tampBuf := [], tampLost := 0, outage := none, outages := [],
    relayOn := false, relayWait := false, relayRepeat := false, relayPend := false, savedFault := none }

end Sys2Proof.Machine
end

