-- ==== Sys2Proof/Machine/StSystem.lean ====
section
/-!
DEFINITION. State of spec/01_architecture.md, spec/18_boot_configuration.md to spec/21_memory_sidings.md and spec/24_faults_ordering.md that no register holds.
-/
namespace Sys2Proof.Machine

/-! State of spec/01_architecture.md that no register holds: the words inside the Crossings, the running periods of
the Timetable, and the Tokens held and deferred. -/

/-- A Crossing (R27): the words in its FIFO, oldest first, and the words its source holds behind back-pressure, oldest first. -/
structure Xing where
  fifo : List Word64
  waiting : List Word64
  deriving DecidableEq, Repr

/-- The running period of one of the three shared resources (R37, R39, R40): the remaining budget of each class, the slots used
by each class (index 9: lent to Best-effort), the number of the next slot, and whether a period has begun. -/
structure TtbRes where
  remaining : List Nat
  used : List Nat
  slot : Nat
  begun : Bool
  deriving DecidableEq, Repr

/-- The three shared resources of R37. -/
structure TtbState where
  fabric : TtbRes
  crypto : TtbRes
  mram : TtbRes
  deriving DecidableEq, Repr

/-- A Token held or a request deferred (R46, R49): its kind, the number its requester gave it, its logic cost in mW, its
inrush cost in mA, and whether an overrun has been counted for it (R50). -/
structure TokEntry where
  kind : Nat
  id : Nat
  cost : Nat
  inrush : Nat
  overrun : Bool
  deriving DecidableEq, Repr

/-- The Token governor: Tokens held, newest first, and requests deferred in the order of R49. -/
structure TokState where
  held : List TokEntry
  deferred : List TokEntry
  deriving DecidableEq, Repr

/-! State of spec/18_boot_configuration.md and spec/19_firmware_update.md that no register holds: the image record and
store, the overlay, the code banks. -/

/-- The image record in MRAM (R541): key hashes, the image last accepted, the half of the image store that holds its copy, and
whether its steps 3 to 5 are done. -/
structure ImgRecord where
  keyHash : List Byte
  nextHash : List Byte
  seq : Nat
  hash : List Byte
  half : Nat
  applied : Bool
  deriving DecidableEq, Repr

/-- An entry of the run-time overlay (R552): parameter, value, the IMGSEQ in force when it was written, and whether it waits for the
next start. -/
structure OvlEntry where
  par : Nat
  value : Int
  seq : Nat
  waits : Bool
  deriving DecidableEq, Repr

/-- Start-up. MRAM: the record, the two halves of the image store and whether each holds an uncorrectable codeword (R594), the overlay. image:
the values that the image in force records; evseMax: EVSE_PMAX at the start; erased: the 64 KiB sectors of the slots that WRITE_FLASH has
erased since the start (R636). -/
structure BootState where
  record : Option ImgRecord
  halves : List (List Byte)
  badHalf : List Bool
  overlay : List OvlEntry
  image : List (Nat × Int)
  evseMax : Nat
  erased : List Nat
  deriving DecidableEq, Repr

/-- Before the first start: no record. -/
def BootState.zero : BootState :=
  { record := none, halves := [[], []], badHalf := [false, false], overlay := [], image := [], evseMax := 3500, erased := [] }

/-- A code bank: the SVN and the FWID of the firmware in it. -/
structure CodeBank where
  svn : Nat
  fwid : List Byte
  deriving DecidableEq, Repr

/-- Firmware update. MRAM: what each bank holds, whether each bank's code can run (R648), and the starts in a row from a bank on trial (R566). -/
structure UpdState where
  banks : List CodeBank
  runs : List Bool
  starts : Nat
  deriving DecidableEq, Repr

/-- The banks before the first update. -/
def UpdState.zero : UpdState := ⟨[⟨0, []⟩, ⟨0, []⟩], [true, true], 0⟩

/-! State of spec/21_memory_sidings.md that no register holds: the contents of the memories on the fabric, the scrub, the remap table and
the wear history. -/

/-- A replacement (R597, R598): memory and unit, and whether an uncorrectable codeword is its reason. -/
structure MemMove where
  mem : Nat
  unit : Nat
  lost : Bool
  deriving DecidableEq, Repr

/-- The memories. cells: what they hold, by fabric address (R608). MRAM: remap, the units replaced; due, replacements that PFW_N kept from
starting (R604); events, each replacement with its kind and service hour (R601); highs, the highest write and erase counts hour by hour;
age, the equivalent age in h (R600). Volatile: moves under way; pass, the corrected codewords of each MRAM sector and code NVM sector in this
scrub pass; symLast and symNow, codewords and symbol positions corrected in SRAM in the last pass and in this one; the sum and the number of
this hour's temperatures, in 0.1 °C. -/
structure MemState where
  cells : List Host.Cell
  remap : List (Nat × Nat)
  moves : List MemMove
  due : List MemMove
  pass : List (Nat × Nat × Nat)
  symLast : List (Nat × Nat)
  symNow : List (Nat × Nat)
  events : List (Nat × Nat)
  highs : List (Nat × Nat × Nat)
  age : Rat
  tempSum : Int
  tempN : Nat
  deriving DecidableEq, Repr

/-- Memories that nothing has written. -/
def MemState.zero : MemState := ⟨[], [], [], [], [], [], [], [], [], 0, 0, 0⟩

/-! State of spec/20_power_clocks_reset.md and spec/24_faults_ordering.md that no register holds. -/

/-- Power, clocks, resets and faults. dark: the Battery island does not run; saving: a save of R223 has begun and has not completed; saved: it has,
and the module holds (R224); cause: the code of the start that is due (R585), 0 for none; resetLow: RESET_N is low; hot: an overtemperature
shutdown lasts (R668); coreResets: SYS_UPTIME at the resets under codes 9 and 10 (R587); restarts: islands restarted, each with SYS_UPTIME, and
suspect: the island whose third restart caused the last start (R645); sigSpare: the Signal Box's spare oscillators are selected at the next
start (R583); xbCal: a measurement of R581 runs; clkNote: the clock was lost while the Core island did not run, which the next start logs. -/
structure PowState where
  dark : Bool
  saving : Bool
  saved : Bool
  cause : Nat
  resetLow : Bool
  hot : Bool
  coreResets : List Nat
  restarts : List (Nat × Nat)
  suspect : Option Nat
  sigSpare : Bool
  xbCal : Bool
  clkNote : Bool
  deriving DecidableEq, Repr

/-- Before the first start. -/
def PowState.zero : PowState := ⟨true, false, false, 0, false, false, [], [], none, false, false, false⟩

end Sys2Proof.Machine
end

