-- ==== Sys2Proof/Machine/State.lean ====
section
/-!
DEFINITION. The state of the module: its registers and parameters, and all that the spec gives it besides, chapter by chapter in the St files.
-/
namespace Sys2Proof.Machine

/-- Why a step stops with a fault: no command of this block does (every rule gives its command an effect). -/
inductive Fault where
  deriving DecidableEq, Repr

/-- Why a step has no meaning. -/
inductive Refusal where
  /-- The model gives this command no meaning yet (exec). Safe: no run goes past it. -/
  | notModelled (mnemonic : String)
  deriving DecidableEq, Repr

/-- The module. variant: F or M (R1). regs: the registers, by host address, the Ethernet path's own copies of per-path registers at 0x1000000 above;
one that is not listed holds its reset word (R11). params: parameters in force (R549), by 1,000 × block + ID; one that is not listed holds
its default. xings, ttb, tok: Crossings, Timetable, Tokens (spec 01). afe: front end (02); pts: engines and Points (03, 04). Words on their way
between islands, oldest first: x00 records, x01 commit marks, x03 reports of the Signal Box, x04 requests of the session to it, x05 reports of
the Vehicle link, x06 the session's duty and mode, x09 safe telegrams, x11 Amene messages, x19 pilot demands. parPend, parNext, corrSent:
values that wait for an interval boundary (R132, R206). bil, btm, logs: billing (05, 06). saf: Signal Box (07, 08). q: the hardware queues Q00
to Q31 (R12). grpSeq: SEQ of the next site group message (R402). vl: Vehicle link (09). ses: session (10). grt: Grotto (11). dlm: head-end server (14).
lsw, lcd, nfc: load switches, Lantern, reader and tag (15 to 17). hif, mail: host paths, SPI first, and mailbox (23). boot, upd: image and code banks
(18, 19). mem: memories (21). pow: supplies, resets, faults (20, 24). amb, posts, postOrder: Amene bus and the posts SITE_MASTER shares
power among (13). eth: Site link (12). out: everything put out, newest first. The model's own fields: free counts the free values
taken; pending is the queue of commands that wait. -/
structure State where
  variant : Variant
  regs : List (Nat × Word)
  params : List (Nat × Int)
  xings : List Xing
  ttb : TtbState
  tok : TokState
  afe : AfeState
  pts : PtsState
  x00 : List Rec
  x01 : List Nat
  parPend : List (Nat × Int)
  parNext : List (Nat × Int)
  corrSent : Option (List (Nat × Int))
  bil : BilState
  btm : BtmState
  logs : List LogStore
  saf : SafState
  x03 : List SafReport
  x19 : List Nat
  x04 : List CoreWord
  x05 : List VlReport
  x06 : List (Nat × Nat)
  q : List (List Frame)
  grpSeq : Nat
  vl : VlState
  ses : SesState
  grt : GrtState
  dlm : DlmState
  lsw : LswState
  lcd : LcdState
  nfc : NfcState
  hif : List HifPath
  mail : MailState
  boot : BootState
  mem : MemState
  pow : PowState
  upd : UpdState
  amb : AmbState
  eth : EthState
  x09 : List (Nat × List Byte)
  x11 : List SiteMsg
  posts : List SharePost
  postOrder : Nat
  out : List Output
  free : Nat
  pending : List Instr
  deriving DecidableEq, Repr

/-- The front end before the first start: no trim stored, each role on the converter of its number. -/
def AfeState.zero : AfeState :=
  { factory := List.replicate 16 ⟨1, 0⟩, refOtp := 0, stored := [], storedMap := List.range 14, trims := List.replicate 16 ⟨1, 0⟩, stepNo := 0,
    todo := [], retry := [], heal := List.replicate 16 0, laneDown := [] }

/-- The Points before the first start. -/
def PtsState.zero : PtsState := ⟨[], 0, .zero, .zero, none, 0, [], false, false, 0, [], false, false, 0, false, false⟩

/-- The module before its first start: without VSYS and battery, every register at its reset word, every parameter at its default, the
memories empty. It starts by VSYS_RISE and POWER_GOOD. -/
def State.reset : State :=
  { variant := .f, regs := [], params := [], xings := List.replicate 21 ⟨[], []⟩,
    ttb := ⟨⟨[], [], 0, false⟩, ⟨[], [], 0, false⟩, ⟨[], [], 0, false⟩⟩, tok := ⟨[], []⟩, afe := .zero, pts := .zero, x00 := [], x01 := [],
    parPend := [], parNext := [], corrSent := none, bil := .zero, btm := .zero, logs := List.replicate 5 ⟨[], 0⟩,
    saf := .start none 0 (List.replicate 8 (.start 0)), x03 := [], x19 := [], x04 := [], x05 := [], x06 := [], q := List.replicate 32 [],
    grpSeq := 0, vl := .start, ses := .start 0 0, grt := .start [], dlm := .zero, lsw := .zero, lcd := .zero, nfc := .zero,
    hif := [.zero, .zero], mail := .zero, boot := .zero, mem := .zero, pow := .zero, upd := .zero, amb := .start [] [] [] [], eth := .start,
    x09 := [], x11 := [], posts := [], postOrder := 0, out := [], free := 0, pending := [] }

end Sys2Proof.Machine
end

