-- ==== Sys2Proof/Machine/Ops.lean ====
section
/-!
DEFINITION. The named operations over State that every meaning is written with: registers and their fields, parameters in
force, counters, values put out, and the canonical maps.
-/
namespace Sys2Proof.Machine

/-- What a command answers. -/
abbrev Ans := Host.Outcome State Fault Refusal

namespace State

/-- The word a register holds (R11): the listed one, else its reset word. -/
def reg (s : State) (a : Nat) : Word := Sparse.get RegMap.resetOf s.regs a

/-- A register set to a word. -/
def setReg (s : State) (a : Nat) (w : Word) : State := { s with regs := Sparse.set RegMap.resetOf s.regs a w }

/-- A register's word as a number. -/
def regN (s : State) (a : Nat) : Nat := (s.reg a).toNat

/-- A register set to the low 32 bits of a number. -/
def setRegN (s : State) (a v : Nat) : State := s.setReg a (BitVec.ofNat 32 v)

/-- A register's word as a two's complement number. -/
def regI (s : State) (a : Nat) : Int := Bits.signed 32 (s.regN a)

/-- A register set to an integer, in two's complement. -/
def setRegI (s : State) (a : Nat) (v : Int) : State := s.setRegN a (Bits.ofInt 32 v)

/-- The number a register's field holds. -/
def get (s : State) (f : RegField) : Nat := Bits.get (s.reg f.reg) f.lo f.width

/-- A register's field set, the register's other bits left as they are. -/
def put (s : State) (f : RegField) (v : Nat) : State := s.setReg f.reg (Bits.put (s.reg f.reg) f.lo f.width v)

/-- Whether a one-bit field is 1. -/
def on (s : State) (f : RegField) : Bool := s.get f != 0

/-- A one-bit field set to a truth value. -/
def putB (s : State) (f : RegField) (b : Bool) : State := s.put f (if b then 1 else 0)

/-- A field set to 1: an event bit that an event sets. -/
def raise (s : State) (f : RegField) : State := s.put f 1

/-- A field set to 0. -/
def lower (s : State) (f : RegField) : State := s.put f 0

/-- A counter field raised, held at its largest value. -/
def bump (s : State) (f : RegField) (n : Nat := 1) : State := s.put f (Bits.satAdd f.width (s.get f) n)

/-- A counter register raised, held at 0xFFFF_FFFF. -/
def bumpReg (s : State) (a : Nat) (n : Nat := 1) : State := s.setRegN a (Bits.satAdd 32 (s.regN a) n)

/-- One bit of a register. -/
def bitOf (s : State) (a i : Nat) : Bool := Bits.bit (s.reg a) i

/-- One bit of a register set to a truth value. -/
def putBit (s : State) (a i : Nat) (b : Bool) : State := s.put ⟨a, i, 1⟩ (if b then 1 else 0)

/-- The value in force of a parameter (R549). -/
def par (s : State) (p : Nat) : Int := Sparse.get ParamMap.default s.params p

/-- The value in force of a parameter that is never negative. -/
def parN (s : State) (p : Nat) : Nat := (s.par p).toNat

/-- Whether a bool parameter is 1. -/
def parB (s : State) (p : Nat) : Bool := s.parN p != 0

/-- A parameter's value in force set. -/
def setPar (s : State) (p : Nat) (v : Int) : State := { s with params := Sparse.set ParamMap.default s.params p v }

/-- Something put out. -/
def emit (s : State) (o : Output) : State := { s with out := o :: s.out }

/-- Whether an island is held in reset (R644: SYS_FLT.HELD). -/
def held (s : State) (i : Island) : Bool := s.bitOf Reg.SYS_FLT i.num

/-- Whether PFW_N is asserted: by the warning (R573), by a reset request or its save (R586), or while the module holds after a save (R224). -/
def pfw (s : State) : Bool := s.on Fd.PWR_STAT_PFW || s.pow.saving || s.pow.saved || s.pow.resetLow

/-- Whether the islands other than Battery run: between power-good and the end of a save or a reset. -/
def running (s : State) : Bool := s.on Fd.PWR_STAT_PG && s.pow.cause == 0 && !s.pow.saved

/-- VSYS as last measured, in mV. -/
def vsys (s : State) : Nat := s.get Fd.PWR_VSYS_MV

/-- A value the spec leaves open, and the state after taking it. -/
def fresh (s : State) : Word × State := (Config.freeWord s.free, { s with free := s.free + 1 })

/-- Whether the module is variant F. -/
def isF (s : State) : Bool := s.variant == .f

end State

/-- A command that stands for an event inside an island: while the island is held it does nothing (R644). -/
def awake (i : Island) (s : State) (a : Ans) : Ans := if s.held i then .next s else a

/-- The element of a list at an index, or a value when there is none. -/
def nth {α : Type} (l : List α) (i : Nat) (d : α) : α := l.getD i d

/-- A list with the element at an index replaced. -/
def setNth {α : Type} (l : List α) (i : Nat) (x : α) : List α := l.set i x

/-- Fold a step over the numbers below n, in rising order. -/
def upTo {σ : Type} (n : Nat) (f : Nat → σ → σ) (s : σ) : σ := (List.range n).foldl (fun t i => f i t) s

/-- Do a step when a condition holds. -/
def when {σ : Type} (b : Bool) (f : σ → σ) (s : σ) : σ := if b then f s else s

end Sys2Proof.Machine
end

