-- ==== Sys2Proof/Machine/Operands.lean ====
section
/-!
DEFINITION. How a host access reaches the module (spec/23_host_interface.md R622 to R629): the level of its path, the count of
accesses, the status it is answered with, and the check every register write passes before it acts (R15, R624, R640).
-/
namespace Sys2Proof.Machine

/-- The access level a path holds (R629): 0 observer, 1 operator, 2 owner, 3 vendor. -/
def pathLevel (s : State) : Path → Nat
  | .spi => s.get Fd.HIF_STAT_SPILVL
  | .eth => s.get Fd.HIF_STAT_ETHLVL

/-- Whether a request can arrive on a path: while the Core island runs, and on the Ethernet path only while its connection is open (R626). -/
def pathOpen (s : State) (p : Path) : Bool :=
  s.on Fd.PWR_STAT_PG && s.pow.cause == 0 && (match p with
    | .spi => true
    | .eth => s.on Fd.HIF_STAT_ETHCONN)

/-- A host access (R628): it is counted, and the host is no longer absent. -/
def hostAccess (p : Path) (s : State) : State :=
  let t := (s.lower Fd.HIF_STAT_HOSTABS).lower Fd.SES_STAT_HOSTABS
  match p with
  | .spi => t.bumpReg (Reg.HIF_CNT 0)
  | .eth => t.bumpReg (Reg.HIF_CNT 2)

/-- The status byte of R623 returned to the path a transaction came on. -/
def hostReply (p : Path) (status : Nat) (s : State) : State := s.emit (.hostStatus p status)

/-- A write to a register of an island: while the island is held, the word is discarded and counted (R646). -/
def toIsland (i : Island) (eff : State → State) (s : State) : State := if s.held i then s.bump (Fd.SYS_FLTCNT_FLUSHED i.num) else eff s

/-- A register write on a path whose register needs a level: refused with status 1 and HIF_EVT.ACCERR below that level (R15),
with status 5 while PFW_N is asserted (R640), else answered with status 0 after its effect. -/
def hostOwn (p : Path) (need : Nat) (eff : State → State) (s : State) : State :=
  if pathOpen s p then
    let t := hostAccess p s
    if pathLevel t p < need then hostReply p 1 (t.raise Fd.HIF_EVT_ACCERR)
    else if t.pfw then hostReply p 5 t
    else hostReply p 0 (eff t)
  else s

end Sys2Proof.Machine
end

