-- ==== Sys2Proof/Machine/Queues.lean ====
section
/-!
DEFINITION. The hardware queues Q00 to Q31 (R314, R324, R396, R442), the Ethernet transmit queues with their duplicates, and site group
messages (spec/12_site_ethernet_time.md R394 to R403).
-/
namespace Sys2Proof.Machine

/-- A queue's frames, oldest first. -/
def queue (s : State) (n : Nat) : List Frame := nth s.q n []

/-- A queue's frames replaced. -/
def setQueue (n : Nat) (l : List Frame) (s : State) : State := { s with q := setNth s.q n l }

/-- A frame put at the end of a queue. -/
def enqueue (n : Nat) (f : Frame) (s : State) : State := setQueue n (queue s n ++ [f]) s

/-- A frame with no time of its own. -/
def Frame.plain (bytes : List Byte) : Frame := ⟨bytes, none, none, false, 0⟩

/-- The Site link's own state replaced. -/
def setEth (e : EthState) (s : State) : State := { s with eth := e }

/-- Whether a port is in use: linked, enabled, and not port B of a single port (R395, R398, R419). -/
def portUp (s : State) (p : Nat) : Bool :=
  decide (p < 2) && s.bitOf Reg.ETH_STAT p && s.bitOf Reg.ETH_CTL p && !(s.parN Par.ETH_TOPO == 2 && p == 1)

/-- The offset of the EtherType in a frame: after a VLAN tag, if it has one. -/
def typeAt (f : List Byte) : Nat := if Bits.ofBeBytes ((f.drop 12).take 2) = 0x8100 then 16 else 12

/-- A frame with the trailer of R398 for a port. -/
def withTrailer (p seq : Nat) (f : List Byte) : List Byte :=
  f ++ Bits.beBytes 2 seq ++ Bits.beBytes 2 ((10 + p) * 4096 + (f.length - (typeAt f + 2) + 6)) ++ Bits.beBytes 2 0x88FB

/-- A transmit discard counted (R398). -/
def txDiscard (p n : Nat) (s : State) : State := s.bumpReg (Reg.ETH_PCNT (8 * p + 4)) n

/-- A frame written to a transmit queue Q00 to Q03 (R395, R398): with ETH_TOPO 0 each port's queue takes a copy with the trailer, and a copy
for a port that is down is discarded and counted; otherwise the one queue takes it. -/
def ethWrite (q : Nat) (f : Frame) (s : State) : State :=
  if s.parN Par.ETH_TOPO = 0 then
    let put := fun (p : Nat) (t : State) =>
      if portUp s p then enqueue (q + 8 * p) { f with bytes := withTrailer p s.eth.prpSeq f.bytes } t else txDiscard p 1 t
    setEth { s.eth with prpSeq := (s.eth.prpSeq + 1) % 65536 } (put 1 (put 0 s))
  else if portUp s 0 || portUp s 1 then enqueue q f s
  else txDiscard 0 1 s

/-- The bytes of an Ethernet frame with an IEEE 802.1Q tag, padded to the shortest frame, without its FCS. -/
def taggedFrame (dst src : List Byte) (pcp vid etherType : Nat) (payload : List Byte) : List Byte :=
  let f := dst ++ src ++ Bits.beBytes 2 0x8100 ++ Bits.beBytes 2 (pcp * 8192 + vid) ++ Bits.beBytes 2 etherType ++ payload
  f ++ List.replicate (60 - f.length) 0

/-- The destination address of site group messages (R402) or of safe telegrams (R422). -/
def groupMac (last : Byte) : List Byte := [0x03, 0x56, 0x50, 0x43, 0x00, last]

/-- A site group message written to Q01 (R402): service 1 SLAC coordination, 2 power sharing, 3 segment bridging. -/
def groupSend (svc dst : Nat) (payload : List Byte) (s : State) : State :=
  let head := Bits.leBytes 1 1 ++ Bits.leBytes 1 svc ++ Bits.leBytes 2 (s.parN Par.GRP_ADDR % 4096) ++ Bits.leBytes 2 dst
    ++ Bits.leBytes 2 s.grpSeq ++ Bits.leBytes 2 payload.length
  let f := taggedFrame (groupMac 2) (Config.portMac 0) 5 (s.parN Par.ETH_VID) 0x88B6 (head ++ payload)
  ethWrite 1 (Frame.plain f) { s with grpSeq := (s.grpSeq + 1) % 65536 }

/-- A number in a site group message's header (R402). -/
def groupNum (m : List Byte) (o n : Nat) : Nat := Bits.ofLeBytes ((m.drop o).take n)

/-- The payload of a site group message. -/
def groupPayload (m : List Byte) : List Byte := (m.drop 10).take (groupNum m 8 2)

/-- The first message of a service in Q04 that is wanted for its payload, taken out. -/
def groupTake (svc : Nat) (want : List Byte → Bool) (s : State) : Option (List Byte) × State :=
  match (queue s 4).find? (fun f => groupNum f.bytes 1 1 == svc && want (groupPayload f.bytes)) with
  | some f => (some f.bytes, setQueue 4 ((queue s 4).erase f) s)
  | none => (none, s)

/-- A mailbox message (R634). -/
def mailMessage (type result tag : Nat) (body : List Byte) : List Byte :=
  Bits.leBytes 1 type ++ Bits.leBytes 1 result ++ Bits.leBytes 2 tag ++ Bits.leBytes 2 body.length ++ [0, 0] ++ body

/-- A notification placed in Q28, or dropped and counted when the queue is full (R637). -/
def notify (type : Nat) (body : List Byte) (s : State) : State :=
  if 8 ≤ (queue s 28).length then (s.bumpReg (Reg.HIF_CNT 5)).raise Fd.HIF_EVT_NTFLOST
  else enqueue 28 (Frame.plain (mailMessage type 0 0 body)) s

end Sys2Proof.Machine
end

