-- ==== Sys2Proof/Machine/Token.lean ====
section
/-!
DEFINITION. The Token governor (spec/01_architecture.md R46 to R53).
-/
namespace Sys2Proof.Machine

/-- The logic cost of each kind of heavy operation, in mW (R46). -/
def tokCost (kind : Nat) : Nat := ([100, 150, 0, 400, 600, 800, 250, 300, 450] : List Nat).getD kind 0

/-- What the governor answers (R48): a refusal carries its reason, 1 POWERFAIL, 2 TIMEOUT, 3 QUEUE_FULL. -/
inductive TokAnswer where
  | granted
  | deferred
  | refused (reason : Nat)
  deriving DecidableEq, Repr

/-- The logic cost of every Token held (R47). -/
def tokHeldCost (s : State) : Nat := (s.tok.held.map (·.cost)).sum

/-- The inrush cost of every Token held. -/
def tokHeldInrush (s : State) : Nat := (s.tok.held.map (·.inrush)).sum

/-- The committed power: the baseline plus the logic cost of every Token held (R47). -/
def tokCommitted (s : State) : Nat := s.get Fd.TOK_POWER_BASEMW + tokHeldCost s

/-- The registers that show the governor's lists brought up to date. -/
def tokShow (s : State) : State :=
  ((s.put Fd.TOK_STAT_HELD (min s.tok.held.length 31)).put Fd.TOK_STAT_DEFERRED s.tok.deferred.length).put
    Fd.TOK_POWER_COMMITMW (min (tokCommitted s) 0xFFFF)

/-- The tests of R48 that a request passes to be granted, the order of deferred requests apart. -/
def tokFits (s : State) (e : TokEntry) : Bool :=
  decide (s.parN Par.VSYS_HEAD ≤ s.vsys)
    && decide (tokCommitted s + e.cost ≤ s.get Fd.TOK_BUDGET_LOGICMW)
    && decide (tokHeldInrush s + e.inrush ≤ s.get Fd.TOK_BUDGET_INRUSHMA)

/-- A refusal noted (R48, R49). -/
def tokRefuse (kind reason : Nat) (s : State) : State :=
  let t := (((s.raise Fd.TOK_EVT_REFUSED).put Fd.TOK_LAST_REASON reason).put Fd.TOK_LAST_KIND kind).bump
    (Fd.TOK_CNT_REFUSALS kind)
  if reason = 2 then t.raise Fd.TOK_EVT_TIMEOUT else t

/-- A grant: the Token is held and counted. -/
def tokGrant (e : TokEntry) (s : State) : State :=
  tokShow ({ s with tok := ⟨e :: s.tok.held, s.tok.deferred⟩ }.bump (Fd.TOK_CNT_GRANTS e.kind))

/-- The place of a request in the deferred order: after every request of its kind or a lower one (R49). -/
def tokEnqueue (e : TokEntry) : List TokEntry → List TokEntry
  | [] => [e]
  | d :: ds => if d.kind ≤ e.kind then d :: tokEnqueue e ds else e :: d :: ds

/-- A request (R48). -/
def tokRequest (kind id inrush : Nat) (s : State) : TokAnswer × State :=
  let e : TokEntry := ⟨kind, id, tokCost kind, if kind = 2 then inrush else 0, false⟩
  if s.pfw then (.refused 1, tokRefuse kind 1 s)
  else if 16 ≤ s.tok.deferred.length then (.refused 3, tokRefuse kind 3 s)
  else if tokFits s e && s.tok.deferred.isEmpty then (.granted, tokGrant e s)
  else (.deferred, tokShow { s with tok := ⟨s.tok.held, tokEnqueue e s.tok.deferred⟩ })

/-- The deferred order served (R49): requests granted from its head for as long as the head passes the tests. -/
def tokServeN : Nat → State → State
  | 0, s => s
  | n + 1, s =>
    match s.tok.deferred with
    | [] => s
    | e :: es => if tokFits s e then tokServeN n (tokGrant e { s with tok := ⟨s.tok.held, es⟩ }) else s

/-- The deferred order served from its head (R49). -/
def tokServe (s : State) : State := tokServeN s.tok.deferred.length s

/-- Whether a Token or a deferred request is the one of a kind and a number. -/
def tokIs (kind id : Nat) (e : TokEntry) : Bool := e.kind == kind && e.id == id

/-- Whether a requester holds its Token. -/
def tokHolds (s : State) (kind id : Nat) : Bool := s.tok.held.any (tokIs kind id)

/-- Whether a requester's request is deferred. -/
def tokWaits (s : State) (kind id : Nat) : Bool := s.tok.deferred.any (tokIs kind id)

/-- A Token released (R49): the committed power falls by its cost and the deferred order is served. -/
def tokRelease (kind id : Nat) (s : State) : State :=
  if tokHolds s kind id then
    tokServe (tokShow { s with tok := ⟨s.tok.held.eraseP (tokIs kind id), s.tok.deferred⟩ })
  else s

/-- A deferred request taken out of the order. -/
def tokDrop (kind id : Nat) (s : State) : State :=
  tokShow { s with tok := ⟨s.tok.held, s.tok.deferred.eraseP (tokIs kind id)⟩ }

/-- PFW_N asserts (R51): every deferred request is refused with reason POWERFAIL. -/
def tokPowerFail (s : State) : State :=
  let t := s.tok.deferred.foldl (fun t e => tokRefuse e.kind 1 t) s
  (tokShow { t with tok := ⟨t.tok.held, []⟩ }).raise Fd.TOK_STAT_PFBLOCK

/-- The island that requests each kind of Token. -/
def tokIsland : Nat → Island
  | 0 => .signalBox
  | 2 => .service
  | 3 => .signalBox
  | 4 => .vehicleLink
  | 5 => .amene
  | 6 => .grotto
  | _ => .core

/-- A held island's requests are dropped and its Tokens released (spec/24_faults_ordering.md R649). -/
def tokIslandHeld (i : Island) (s : State) : State :=
  tokServe (tokShow { s with tok := ⟨s.tok.held.filter (fun e => tokIsland e.kind ≠ i),
    s.tok.deferred.filter (fun e => tokIsland e.kind ≠ i)⟩ })

/-- The baseline recomputed from the measured draw (R47, R49) and the deferred order served. -/
def tokBaseline (pin : Nat) (s : State) : State :=
  let t := s.put Fd.PWR_PIN_MW (min pin 0xFFFF)
  tokServe (tokShow (t.put Fd.TOK_POWER_BASEMW (min (pin - tokHeldCost s) 0xFFFF)))

/-- The budgets in force taken from their parameters (R53), LOGIC_BUDGET held at the limit of a warm die while WARM is set
(spec/26_electrical.md R668), and the deferred order served (R49). -/
def tokBudgets (s : State) : State :=
  let logic := if s.on Fd.PWR_TEMP_WARM then min 4000 (s.parN Par.LOGIC_BUDGET) else s.parN Par.LOGIC_BUDGET
  tokServe ((s.put Fd.TOK_BUDGET_LOGICMW logic).put Fd.TOK_BUDGET_INRUSHMA (s.parN Par.INRUSH_BUDGET))

/-- VLOW follows VSYS against VSYS_HEAD (spec/01_architecture.md, TOK_STAT). -/
def tokVlow (s : State) : State := s.putB Fd.TOK_STAT_VLOW (decide (s.vsys < s.parN Par.VSYS_HEAD))

/-- TOKEN_REQUEST (R48). -/
def execTokenRequest (kind id inrush : Nat) (s : State) : Ans :=
  .next (if kind ≤ 8 then (tokRequest kind id inrush s).2 else s)

/-- BASELINE_RECOMPUTE (R49): pin is the mean draw from VSYS over the last 10 ms, in mW. -/
def execBaselineRecompute (pin : Nat) (s : State) : Ans := .next (tokBaseline pin s)

/-- TOKEN_REQUEST_WITHDRAW (R49, R439). -/
def execTokenRequestWithdraw (kind id : Nat) (s : State) : Ans :=
  .next (if tokWaits s kind id then tokServe (tokDrop kind id s) else s)

/-- TOKEN_WAIT_TIMEOUT (R49): a deferred request at its longest wait is refused with reason TIMEOUT. -/
def execTokenWaitTimeout (kind id : Nat) (s : State) : Ans :=
  .next (if tokWaits s kind id then tokServe (tokRefuse kind 2 (tokDrop kind id s)) else s)

/-- The Tokens of a kind and a number marked as overrun. -/
def tokMarkOver (kind id : Nat) (l : List TokEntry) : List TokEntry :=
  l.map (fun e => if tokIs kind id e then { e with overrun := true } else e)

/-- TOKEN_HOLD_OVERRUN (R50): the overrun of a Token is counted once, and the Token stays held. -/
def execTokenHoldOverrun (kind id : Nat) (s : State) : Ans :=
  .next (if s.tok.held.any (fun e => tokIs kind id e && !e.overrun) then
    (({ s with tok := ⟨tokMarkOver kind id s.tok.held, s.tok.deferred⟩ }.raise Fd.TOK_EVT_OVERRUN).bump
      (Fd.TOK_CNT_OVERRUNS kind))
  else s)

/-- VSYS_HEAD_CROSSING (R49): VSYS, now at mv, has crossed VSYS_HEAD; a rise serves the deferred order. -/
def execVsysHeadCrossing (mv : Nat) (s : State) : Ans :=
  let t := tokVlow (s.put Fd.PWR_VSYS_MV (min mv 0xFFFF))
  .next (if t.on Fd.TOK_STAT_VLOW then t else tokServe t)

end Sys2Proof.Machine
end

