-- ==== Sys2Proof/Machine/Amene.lean ====
section
/-!
DEFINITION. The Amene bus (spec/13_amene_bus.md R424 to R451): polling, joining, phase detection, and the way of messages.
-/
namespace Sys2Proof.Machine

/-- The MAC replaced. -/
def setAmb (a : AmbState) (s : State) : State := { s with amb := a }

/-- Whether the module is the master, or a slave, of a running bus (R424). -/
def ambRole (s : State) (r : Nat) : Bool := s.on Fd.AMB_STAT_READY && s.get Fd.AMB_STAT_ROLE == r

/-- The own group address. -/
def ownGrp (s : State) : Nat := s.parN Par.GRP_ADDR

/-- A message for the Core island. -/
def toCore (via : SiteVia) (m : AmbMsg) (s : State) : State := { s with x11 := s.x11 ++ [⟨via, m⟩] }

/-- A message as the bytes of an MPDU (R440). -/
def msgBytes (m : AmbMsg) : List Byte := Bits.leBytes 1 m.mt ++ Bits.leBytes 1 m.body.length ++ m.body

/-- The messages that bytes hold (R440): up to MT 0 or a message that does not fit. -/
def msgsOf : Nat → List Byte → List AmbMsg
  | 0, _ => []
  | n + 1, bs =>
    match bs with
    | mt :: ml :: rest =>
      if mt = 0 ∨ rest.length < ml.toNat then [] else ⟨mt.toNat, rest.take ml.toNat⟩ :: msgsOf n (rest.drop ml.toNat)
    | _ => []

/-- A number in a message's body, little-endian (R440). -/
def msgNum (m : AmbMsg) (o n : Nat) : Nat := Bits.ofLeBytes ((m.body.drop o).take n)

/-- An MPDU: the messages, MT 0 and the CRC-16. -/
def mpduOf (ms : List AmbMsg) : List Byte :=
  let b := ms.flatMap msgBytes ++ [0]
  b ++ Bits.leBytes 2 (Crc.ccitt b)

/-- The first messages of a list that a number of bytes has room for, in order (R445). -/
def fitting : Nat → List AmbMsg → List AmbMsg
  | _, [] => []
  | room, m :: ms => if m.body.length + 2 ≤ room then m :: fitting (room - (m.body.length + 2)) ms else []

/-- The header of a frame (R432). -/
def headerOf (type mod nsym cyc : Nat) (s : State) : Nat :=
  let ilv := ([0, 0, 1, 0, 2, 0, 0, 0, 3] : List Nat).getD (s.parN Par.AMB_ILV) 0
  let node := if s.get Fd.AMB_STAT_ROLE = 2 then 0 else s.parN Par.AMB_NODE
  let h := ((((type * 4 + mod) * 4 + ilv) * 256 + nsym) * 256 + s.parN Par.AMB_SEG) * 256 + node
  let h := (h * 256 + cyc % 256) * 256
  h + AmeneCode.hcrc h

/-- A frame sent (R439): full while a Token of kind 5 is held or granted, else reduced with the request withdrawn; an MPDU of more than
184 payload symbols is not sent (R435). -/
def ambSend (type mod nsym cyc : Nat) (mpdu : List Byte) (s : State) : State :=
  if s.pfw ∨ 184 < nsym then s
  else
    let hdr := headerOf type mod nsym cyc s
    let put := fun (full : Bool) (t : State) =>
      let u := (t.bumpReg (Reg.AMB_CNT 0)).emit (.amene full hdr mpdu (AmeneCode.frame hdr mod nsym mpdu))
      if full then tokRelease 5 0 u else (u.bumpReg (Reg.AMB_CNT 4)).raise Fd.AMB_EVT_REDUCED
    if tokHolds s 5 0 then put true s
    else if tokWaits s 5 0 then put false (tokServe (tokDrop 5 0 s))
    else match tokRequest 5 0 0 s with
      | (.granted, t) => put true t
      | (.deferred, t) => put false (tokServe (tokDrop 5 0 t))
      | (.refused _, t) => put false t

/-- What a reception gives: a frame of this segment with a valid header; its messages when its payload is decoded. -/
structure AmbGot where
  type : Nat
  node : Nat
  cyc : Nat
  msgs : Option (List AmbMsg)
  deriving DecidableEq, Repr

/-- A failed check counted. -/
def ambFail (s : State) : State := (s.bumpReg (Reg.AMB_CNT 3)).raise Fd.AMB_EVT_RXFAIL

/-- The SNR of the last frame shown. -/
def ambSnr (snr : List Int) (s : State) : State :=
  upTo 9 (fun w t => t.setRegN (Reg.AMB_SNR w)
    (((List.range 4).map (fun i => Bits.ofInt 8 (snr.getD (4 * w + i) 0) * 256 ^ i)).sum)) s

/-- A reception (R424, R432, R436, R440): none for a frame that is discarded or ignored with its header. -/
def ambReceive (rx : AmbRx) (s : State) : Option AmbGot × State :=
  let h := rx.hdr
  let type := h / 2 ^ 44 % 16
  if !s.on Fd.AMB_STAT_READY then (none, s)
  else if h % 256 ≠ AmeneCode.hcrc h then (none, ambFail s)
  else if h / 2 ^ 24 % 256 ≠ s.parN Par.AMB_SEG ∨ type < 1 ∨ 3 < type then (none, s)
  else
    let t := (ambSnr rx.snr s).put Fd.AMB_STAT_MOD (h / 2 ^ 42 % 4)
    let got := AmbGot.mk type (h / 2 ^ 16 % 256) (h / 256 % 256)
    let n := rx.mpdu.length
    if AmeneCode.maxErased (h / 2 ^ 32 % 256) < rx.erased ∨ n < 3 ∨
        Bits.ofLeBytes (rx.mpdu.drop (n - 2)) ≠ Crc.ccitt (rx.mpdu.take (n - 2)) then (some (got none), ambFail t)
    else
      let u := t.bumpReg (Reg.AMB_CNT 1)
      let u := if 0 < rx.erased then (u.bumpReg (Reg.AMB_CNT 2)).raise Fd.AMB_EVT_ERASED else u
      (some (got (some (msgsOf n (rx.mpdu.take (n - 2))))), u)

/-- The line period in µs (R428): the measured one, or the nominal one before a measurement. -/
def linePeriod (s : State) : Nat :=
  if s.get Fd.AMB_LAST_PERIOD ≠ 0 then s.get Fd.AMB_LAST_PERIOD else if s.parN Par.NOMFREQ = 60 then 16667 else 20000

/-- A rising edge at ZC (R428), at a time in µs. -/
def zcEdge (time : Nat) (s : State) : State :=
  let at_ := time - s.parN Par.ZC_DLY
  match s.amb.zc with
  | none => setAmb { s.amb with zc := some at_ } s
  | some last =>
    if 5 * (at_ - last) < 4 * linePeriod s then s
    else setAmb { s.amb with zc := some at_ } (s.put Fd.AMB_LAST_PERIOD (min (at_ - last) 65535))

/-- The time from the last ZC edge to a reference instant, in µs (R449). -/
def zcTime (ref : Nat) (s : State) : Nat :=
  match s.amb.zc with
  | none => 0
  | some z => min (ref - z) 65535

/-- A DATA message for this module (R442). -/
def dataReceive (m : AmbMsg) (s : State) : State :=
  let q := if msgNum m 4 1 % 2 = 1 then 26 else 27
  if 8 ≤ (queue s q).length then (s.bumpReg (Reg.AMB_CNT 7)).raise Fd.AMB_EVT_RXDROP else enqueue q (Frame.plain m.body) s

/-- The state of a node of the table: 0 empty, 1 joined, 2 absent. -/
def nodeSt (s : State) (n : Nat) : Nat := s.get (Fd.AMB_NODE_STATE n)

/-- The node of the table that holds a group address. -/
def nodeOf (s : State) (grp : Nat) : Option Nat :=
  (List.range 256).find? (fun n => n != 0 && nodeSt s n != 0 && s.get (Fd.AMB_NODE_GRP n) == grp)

/-- NODES brought up to date. -/
def nodesShow (s : State) : State :=
  s.put Fd.AMB_STAT_NODES (min 255 ((List.range 256).filter (fun n => n != 0 && nodeSt s n == 1)).length)

/-- The entry of a list of pairs with a key replaced, or taken out. -/
def assocPut {α : Type} (l : List (Nat × α)) (k : Nat) (v : Option α) : List (Nat × α) :=
  let rest := l.filter (fun e => e.1 != k)
  match v with
  | some x => rest ++ [(k, x)]
  | none => rest

/-- The value of a key in a list of pairs. -/
def assocGet {α : Type} (l : List (Nat × α)) (k : Nat) : Option α := (l.find? (fun e => e.1 == k)).map (·.2)

/-- A bridged message sent (R451). -/
def bridgeSend (dst : Nat) (m : AmbMsg) (s : State) : State := groupSend 3 dst (msgBytes m) s

/-- A message that a master passes on to a group address (R451): to itself, to a node (DATA in a BCAST, the others in its next POLL), or to
another segment or post. -/
def masterRoute (via : SiteVia) (dst : Nat) (m : AmbMsg) (s : State) : State :=
  if dst = ownGrp s then (if m.mt = 6 then dataReceive m s else toCore via m s)
  else match nodeOf s dst with
    | some n =>
      if m.mt = 6 then enqueue (if msgNum m 4 1 % 2 = 1 then 24 else 25) (Frame.plain m.body) s
      else
        let t := setAmb { s.amb with pend := s.amb.pend ++ [(n, m)] } s
        if m.mt = 0x11 then setAmb { t.amb with granted := dst :: t.amb.granted.filter (· != dst) } t else t
    | none => bridgeSend (if m.mt = 6 then Config.routeOf dst else dst) m s

/-- A REL sent on behalf of a node (R444, R447, R455). -/
def masterRel (grp : Nat) (s : State) : State :=
  let rnum := (assocGet s.amb.reqs grp).getD 0
  let t := setAmb { s.amb with granted := s.amb.granted.filter (· != grp) } s
  masterRoute (.bus 0) (s.parN Par.SITE_MASTER) ⟨0x12, Bits.leBytes 2 grp ++ Bits.leBytes 2 rnum⟩ t

/-- A message that a node has sent (R451): power sharing for SITE_MASTER or, from a slave that is SITE_MASTER, for a post; and DATA. -/
def masterMessage (node : Nat) (s : State) (m : AmbMsg) : State :=
  let site := s.parN Par.SITE_MASTER
  let post := msgNum m 0 2
  if m.mt = 0x10 then
    masterRoute (.bus node) site m (setAmb { s.amb with reqs := assocPut s.amb.reqs post (some (msgNum m 2 2)) } s)
  else if m.mt = 0x12 then
    masterRoute (.bus node) site m (setAmb { s.amb with granted := s.amb.granted.filter (· != post) } s)
  else if m.mt = 0x14 then masterRoute (.bus node) site m s
  else if m.mt = 0x11 ∨ m.mt = 0x13 then
    if post = ownGrp s ∨ s.get (Fd.AMB_NODE_GRP node) = site then masterRoute (.bus node) post m s else s
  else if m.mt = 0x06 then masterRoute (.bus node) post m s
  else if m.mt = 0x03 then s.putB (Fd.AMB_NODE_BUSY node) (msgNum m 0 1 % 4 != 0)
  else s

/-- The nodes after one, in the order of a round-robin. -/
def roundRobin (last : Nat) (l : List Nat) : List Nat := l.filter (fun n => decide (last < n)) ++ l.filter (fun n => decide (n ≤ last))

/-- The entries of the next POLL (R444). -/
def pollEntries (joinDue : Bool) (s : State) : List Nat :=
  let joined := (List.range 256).filter (fun n => n != 0 && nodeSt s n == 1)
  let first := (s.amb.failed.filter (joined.contains ·)).take 4
  let rest := joined.filter (fun n => !first.contains n)
  let busy := roundRobin s.amb.busyLast (rest.filter (fun n => s.on (Fd.AMB_NODE_BUSY n)))
  let idle := roundRobin s.amb.idleLast (rest.filter (fun n => !s.on (Fd.AMB_NODE_BUSY n)))
  let ahead := if s.amb.cyc % 4 = 3 then idle.take 2 else []
  (first ++ (if joinDue then [0] else []) ++ ahead ++ busy ++ idle.drop ahead.length).take (s.parN Par.AMB_NPOLL)

/-- RLEN of R443. -/
def rlenOf (s : State) : Nat := max (s.parN Par.AMB_RSYM) (AmeneCode.minSymbols (s.parN Par.AMB_ILV) (s.parN Par.NOMFREQ))

/-- The MODE of an entry (R441). -/
def pollMode (s : State) (n : Nat) : Nat := if n = 0 then 0 else s.get (Fd.AMB_NODE_MOD n) + 16 * s.get (Fd.AMB_NODE_CLASS n)

/-- The last node of a list that is of one kind, or the one before. -/
def lastOf (old : Nat) (l : List Nat) : Nat := l.getLastD old

/-- A frame's MPDU sent with the symbols it needs (R435). -/
def ambFrame (type mod cyc : Nat) (ms : List AmbMsg) (s : State) : State :=
  let mpdu := mpduOf ms
  ambSend type mod (AmeneCode.nsymOf (s.parN Par.AMB_ILV) (s.parN Par.NOMFREQ) mod mpdu.length) cyc mpdu s

/-- The DATA messages that wait in Q24 and Q25 (R442). -/
def dataWaiting (s : State) : List AmbMsg := (queue s 24 ++ queue s 25).map (fun f => ⟨6, f.bytes⟩)

/-- The first n messages of Q24, then of Q25, taken out. -/
def dataTaken (n : Nat) (s : State) : State :=
  let a := min n (queue s 24).length
  setQueue 25 ((queue s 25).drop (n - a)) (setQueue 24 ((queue s 24).drop a) s)

/-- A BCAST of the DATA that a master has to send (R437, R451). -/
def bcastSend (s : State) : State :=
  let ms := fitting 236 (dataWaiting s)
  if ms = [] then s else ambFrame 3 0 s.amb.cyc ms (dataTaken ms.length s)

/-- A POLL (R443, R444, R449, R451): the messages for the nodes it names follow in it while they fit. -/
def pollSend (joinDue : Bool) (ref : Nat) (s : State) : State :=
  let es := pollEntries joinDue s
  if es = [] then s
  else
    let entries := es.map (fun n => (n, pollMode s n))
    let named := es.filter (· != 0)
    let mod := (named.map (fun n => s.get (Fd.AMB_NODE_MOD n))).foldl min (if named = [] then 0 else 3)
    let poll : AmbMsg := ⟨1, Bits.leBytes 2 s.amb.cyc ++ Bits.leBytes 1 (rlenOf s) ++ Bits.leBytes 1 es.length
      ++ entries.flatMap (fun e => Bits.leBytes 1 e.1 ++ Bits.leBytes 1 e.2)⟩
    let mine := s.amb.pend.filter (fun e => es.contains e.1)
    let fit := fitting (236 - (poll.body.length + 2)) (s.amb.acks ++ mine.map (·.2))
    let nAck := min fit.length s.amb.acks.length
    let sent := mine.take (fit.length - nAck)
    let t := ambFrame 1 mod s.amb.cyc (poll :: fit) s
    let tm := zcTime ref s
    let busy := named.filter (fun n => s.on (Fd.AMB_NODE_BUSY n) && !s.amb.failed.contains n)
    let idle := named.filter (fun n => !s.on (Fd.AMB_NODE_BUSY n) && !s.amb.failed.contains n)
    let a := { t.amb with
      acks := t.amb.acks.drop nAck, pend := sent.foldl (fun l e => l.erase e) t.amb.pend, failed := [], polled := entries,
      slots := List.range es.length, tm := tm, cyc := (t.amb.cyc + 1) % 65536, busyLast := lastOf t.amb.busyLast busy,
      idleLast := lastOf t.amb.idleLast idle }
    (setAmb a ((t.bumpReg (Reg.AMB_CNT 5)).put Fd.AMB_LAST_TZC tm)).raise Fd.AMB_STAT_JOINED

/-- The class of a phase difference (R449): TM − TS modulo the period, or none when no sector centre is within 27°. -/
def phaseClass (mphase tm ts period : Nat) : Option Nat :=
  if period = 0 then none
  else
    let d := (((tm : Int) - ts) % period).toNat
    let r := (12 * d + period) / (2 * period)
    let off := ((6 * d : Nat) : Int) - ((r * period : Nat) : Int)
    if 27 * period < 60 * off.natAbs then none
    else
      let c := r % 6
      let base := ([1, 3, 2, 1, 3, 2] : List Nat).getD c 1
      some ((base - 1 + (mphase - 1)) % 3 + 1 + (if c % 2 = 1 then 4 else 0))

/-- The class that the last five classified results decide (R450). -/
def decidedClass (h : List Nat) : Nat := (([1, 2, 3, 5, 6, 7] : List Nat).find? (fun c => decide (4 ≤ h.count c))).getD 0

/-- The phase of a valid RESP (R449, R450). -/
def phaseTake (n ts : Nat) (s : State) : State :=
  let t := s.put (Fd.AMB_NODEX_TZC n) ts
  match phaseClass (s.parN Par.AMB_MPHASE) s.amb.tm ts (linePeriod s) with
  | none => t
  | some c =>
    let h := (c :: (assocGet t.amb.hist n).getD []).take 5
    let old := t.get (Fd.AMB_NODE_CLASS n)
    let new := decidedClass h
    let t := (setAmb { t.amb with hist := assocPut t.amb.hist n (some h) } t).put (Fd.AMB_NODE_CLASS n) new
    if new = old then t
    else
      let u := when (old != 0) (·.raise Fd.AMB_EVT_CLASSCHG) t
      masterRoute (.bus n) (s.parN Par.SITE_MASTER) ⟨0x14, Bits.leBytes 2 (t.get (Fd.AMB_NODE_GRP n)) ++ Bits.leBytes 1 new ++ [0]⟩ u

/-- The MOD named for a node after a valid RESP (R437), from the sum of the 36 SNRs in 0.25 dB. -/
def modNext (mod : Nat) (sum : Int) : Nat :=
  if mod = 0 then (if 40 * 36 ≤ sum then 1 else 0)
  else if mod = 1 then (if 64 * 36 ≤ sum then 2 else if sum < 32 * 36 then 0 else 1)
  else (if sum < 56 * 36 then 1 else 2)

/-- A JOINACK for the next POLL. -/
def ackPut (grp node result : Nat) (s : State) : State :=
  setAmb { s.amb with acks := s.amb.acks ++ [⟨5, Bits.leBytes 2 grp ++ Bits.leBytes 1 node ++ Bits.leBytes 1 result⟩] } s

/-- An entry of the table taken out with what it holds. -/
def nodeClear (n : Nat) (s : State) : State :=
  let a := { s.amb with
    hist := assocPut s.amb.hist n none, miss := assocPut s.amb.miss n none, pend := s.amb.pend.filter (fun e => e.1 != n),
    failed := s.amb.failed.filter (· != n) }
  setAmb a ((s.setRegN (Reg.AMB_NODE n) 0).setRegN (Reg.AMB_NODEX n) 0)

/-- A JOIN (R447). -/
def joinDecide (m : AmbMsg) (s : State) : State :=
  let grp := msgNum m 0 2 % 4096
  let node := msgNum m 2 1
  let accept := fun (t : State) =>
    let u := ((nodeClear node t).put (Fd.AMB_NODE_GRP node) grp).put (Fd.AMB_NODE_STATE node) 1
    ackPut grp node 0 ((nodesShow u).raise Fd.AMB_EVT_JOIN)
  if node = 0 ∨ m.body.length ≠ 10 then s
  else match nodeOf s grp with
    | some old => accept (nodeClear old (if s.amb.granted.contains grp then masterRel grp s else s))
    | none =>
      if nodeSt s node ≠ 0 ∧ s.get (Fd.AMB_NODEX_AGE node) ≤ 30 then ackPut grp node 1 s
      else accept s

/-- A slot that has failed (R437, R444): the node is named first and one MOD lower in the next POLL, and after AMB_MISS in a row it is
absent. -/
def slotFail (k : Nat) (s : State) : State :=
  let t := setAmb { s.amb with slots := s.amb.slots.filter (· != k) } s
  match s.amb.polled[k]? with
  | none => s
  | some (n, _) =>
    if n = 0 ∨ nodeSt s n ≠ 1 then t
    else
      let c := (assocGet t.amb.miss n).getD 0 + 1
      let t := setAmb { t.amb with miss := assocPut t.amb.miss n (some c), failed := t.amb.failed ++ [n] } t
      let t := (t.put (Fd.AMB_NODE_MISS n) (min c 15)).put (Fd.AMB_NODE_MOD n) (t.get (Fd.AMB_NODE_MOD n) - 1)
      if s.parN Par.AMB_MISS ≤ c then
        let u := nodesShow ((t.put (Fd.AMB_NODE_STATE n) 2).raise Fd.AMB_EVT_ABSENT)
        masterRel (u.get (Fd.AMB_NODE_GRP n)) (setAmb { u.amb with failed := u.amb.failed.filter (· != n) } u)
      else t

/-- A RESP in slot k (R437, R443 to R450). -/
def respReceive (k : Nat) (rx : AmbRx) (s : State) : State :=
  if !ambRole s 2 || !s.amb.slots.contains k then s
  else match ambReceive rx s with
    | (none, t) => slotFail k t
    | (some g, t) =>
      match g.msgs, t.amb.polled[k]? with
      | some ms, some (n, _) =>
        let phase := ms.headD ⟨0, []⟩
        if g.type ≠ 2 ∨ g.cyc ≠ (t.amb.cyc + 65535) % 256 ∨ phase.mt ≠ 2 ∨ (n ≠ 0 ∧ g.node ≠ n) then slotFail k t
        else
          let t := setAmb { t.amb with slots := t.amb.slots.filter (· != k) } t
          if n = 0 then (ms.filter (·.mt == 4)).foldl (fun u m => joinDecide m u) t
          else
            let sum : Int := rx.snr.foldl (· + ·) 0
            let t := (setAmb { t.amb with miss := assocPut t.amb.miss n none } t).put (Fd.AMB_NODE_MISS n) 0
            let t := (t.put (Fd.AMB_NODE_SNR n) (Bits.ofInt 8 (Exact.toInt ((sum : Rat) / 36)))).put (Fd.AMB_NODEX_AGE n) 0
            let t := phaseTake n (msgNum phase 0 2) (t.put (Fd.AMB_NODE_MOD n) (modNext (t.get (Fd.AMB_NODE_MOD n)) sum))
            ms.foldl (masterMessage n) t
      | _, _ => slotFail k t

/-- A POLL received by a slave (R443, R446, R448, R458); another: its master is not the one that the slave follows. The phase of a POLL
whose payload fails still counts. -/
def pollReceive (rx : AmbRx) (another : Bool) (s : State) : State :=
  match ambReceive rx s with
  | (none, t) => t
  | (some g, t) =>
    if g.type ≠ 1 then t
    else if another || ambRole t 2 then t.raise Fd.AMB_EVT_SEGCONF
    else if !ambRole t 1 then t
    else
      let t := t.put Fd.AMB_LAST_TZC (zcTime rx.ref t)
      match g.msgs with
      | none => setAmb { t.amb with entries := [] } t
      | some ms =>
        let p := ms.headD ⟨0, []⟩
        if p.mt ≠ 1 then setAmb { t.amb with entries := [] } t
        else
          let es := (List.range (min 16 (msgNum p 3 1))).map (fun i => (msgNum p (4 + 2 * i) 1, msgNum p (5 + 2 * i) 1))
          let t := setAmb { t.amb with entries := es, rlen := msgNum p 2 1, rcyc := msgNum p 0 2 } t
          let t := (ms.filter (fun m => m.mt == 5 || m.mt == 0x11 || m.mt == 0x13 || m.mt == 0x10 || m.mt == 0x12 || m.mt == 0x14)).foldl
            (fun u m => toCore (.bus 0) m u) t
          let t := (ms.filter (fun m => m.mt == 6 && msgNum m 0 2 == ownGrp t)).foldl (fun u m => dataReceive m u) t
          match es.find? (fun e => e.1 == t.parN Par.AMB_NODE) with
          | some e => if t.amb.accepted then (t.raise Fd.AMB_STAT_JOINED).put Fd.AMB_STAT_CLASS (e.2 / 16 % 8) else t
          | none => t

/-- Own BUSY (R445). -/
def ownBusy (s : State) : Bool :=
  let st := s.get Fd.SES_STAT_STATE
  (decide (1 ≤ st) && decide (st ≤ 9)) || s.amb.out != [] || dataWaiting s != []

/-- The PHASE message of a RESP (R441). -/
def phaseMsg (s : State) : AmbMsg := ⟨2, Bits.leBytes 2 (s.get Fd.AMB_LAST_TZC) ++ Bits.leBytes 2 (s.get Fd.AMB_LAST_PERIOD)⟩

/-- A RESP of exactly RLEN symbols (R443). -/
def respFrame (mod : Nat) (ms : List AmbMsg) (s : State) : State :=
  (ambSend 2 mod (s.amb.rlen - 16) s.amb.rcyc (mpduOf ms) s).bumpReg (Reg.AMB_CNT 5)

/-- The start of slot k at a slave (R443, R445, R446). coin: the choice of step 2 after a failed attempt. -/
def slotStart (k : Nat) (s : State) : State :=
  match s.amb.entries[k]? with
  | none => s
  | some (n, mode) =>
    if !ambRole s 1 || s.pfw then s
    else if n = 0 then
      if s.on Fd.AMB_STAT_JOINED || s.amb.accepted || s.amb.backoff then s
      else
        let x := if s.amb.tried then s.fresh else (1, s)
        if Bits.bit x.1 0 then
          let join : AmbMsg := ⟨4, Bits.leBytes 2 (ownGrp s) ++ Bits.leBytes 1 (s.parN Par.AMB_NODE) ++ [0] ++ Config.portMac 0⟩
          respFrame 0 [phaseMsg s, join] (setAmb { x.2.amb with tried := true } x.2)
        else x.2
    else if n = s.parN Par.AMB_NODE ∧ s.on Fd.AMB_STAT_JOINED then
      let mod := min 2 (mode % 4)
      let all := s.amb.out ++ dataWaiting s
      let fit := fitting (AmeneCode.roomOf mod (s.amb.rlen - 16) - 13) all
      let nOut := min fit.length s.amb.out.length
      let flags := (if ownBusy s then 1 else 0) + (if fit.length < all.length then 2 else 0)
      let status : AmbMsg := ⟨3, Bits.leBytes 1 flags ++ Bits.leBytes 1 (s.get Fd.SES_STAT_STATE)⟩
      let t := setAmb { s.amb with out := s.amb.out.drop nOut } (dataTaken (fit.length - nOut) s)
      let t := respFrame mod (phaseMsg s :: status :: fit) t
      t.putB Fd.AMB_STAT_BUSY (ownBusy t)
    else s

/-- The first message of a kind that waits for the Core island, taken out. -/
def siteTake (want : SiteMsg → Bool) (s : State) : Option SiteMsg × State :=
  match s.x11.find? want with
  | some m => (some m, { s with x11 := s.x11.erase m })
  | none => (none, s)

/-- A JOINACK (R446, R447). -/
def joinAck (s : State) : State :=
  match siteTake (fun m => m.msg.mt == 5) s with
  | (none, _) => s
  | (some m, t) =>
    if msgNum m.msg 0 2 ≠ ownGrp s ∨ msgNum m.msg 2 1 ≠ s.parN Par.AMB_NODE ∨ !ambRole s 1 then t
    else if msgNum m.msg 3 1 = 0 then
      let u := setAmb { t.amb with accepted := true } t
      match t.amb.entries.find? (fun e => e.1 == t.parN Par.AMB_NODE) with
      | some e => (u.raise Fd.AMB_STAT_JOINED).put Fd.AMB_STAT_CLASS (e.2 / 16 % 8)
      | none => u
    else setAmb { t.amb with backoff := true } (t.raise Fd.AMB_EVT_ADDRCONF)

/-- A BCAST or another frame (R436, R442, R451). -/
def ameneReceive (rx : AmbRx) (s : State) : State :=
  match ambReceive rx s with
  | (some ⟨3, _, _, some ms⟩, t) =>
    (ms.filter (fun m => m.mt == 6 && msgNum m 0 2 == ownGrp t)).foldl (fun u m => dataReceive m u) t
  | (_, t) => t

/-- POLL_SEND (R444): joinDue: AMB_JOIN_PER has passed since the last join slot; ref: the POLL's reference instant in µs. -/
def execPollSend (joinDue : Bool) (ref : Nat) (s : State) : Ans := awake .amene s <|
  .next (if ambRole s 2 && !s.pfw then pollSend joinDue ref (bcastSend s) else s)

/-- POLL_RECEIVE (R443). -/
def execPollReceive (rx : AmbRx) (another : Bool) (s : State) : Ans := awake .amene s <| .next (pollReceive rx another s)

/-- RESP_SLOT_START (R443). -/
def execRespSlotStart (k : Nat) (s : State) : Ans := awake .amene s <| .next (slotStart k s)

/-- RESP_RECEIVE (R449): in slot k of the last POLL. -/
def execRespReceive (k : Nat) (rx : AmbRx) (s : State) : Ans := awake .amene s <| .next (respReceive k rx s)

/-- SLOT_FAIL (R444): no RESP arrives in slot k of the last POLL. -/
def execSlotFail (k : Nat) (s : State) : Ans := awake .amene s <| .next (if ambRole s 2 && s.amb.slots.contains k then slotFail k s else s)

/-- JOINACK_RECEIVE (R446): the oldest JOINACK that a POLL brought. -/
def execJoinackReceive (s : State) : Ans := awake .amene s <| .next (joinAck s)

/-- JOIN_CONFLICT_RETRY (R447). -/
def execJoinConflictRetry (s : State) : Ans := awake .amene s <| .next (setAmb { s.amb with backoff := false } s)

/-- SLAVE_LOST (R448). -/
def execSlaveLost (s : State) : Ans := awake .amene s <|
  .next (if ambRole s 1 && (s.on Fd.AMB_STAT_JOINED || s.amb.accepted) then
    setAmb { s.amb with tried := false, accepted := false, entries := [] } ((s.lower Fd.AMB_STAT_JOINED).raise Fd.AMB_EVT_LOST) else s)

/-- BUSY_NODE_SLOW (R445). -/
def execBusyNodeSlow (n : Nat) (s : State) : Ans := awake .amene s <|
  .next (if ambRole s 2 && n != 0 && decide (n < 256) && nodeSt s n == 1 && s.on (Fd.AMB_NODE_BUSY n) then s.raise Fd.AMB_EVT_SLOW else s)

/-- AMENE_FRAME_RECEIVE (R436). -/
def execAmeneFrameReceive (rx : AmbRx) (s : State) : Ans := awake .amene s <| .next (ameneReceive rx s)

/-- ZC_EDGE (R428). -/
def execZcEdge (time : Nat) (s : State) : Ans := awake .amene s <| .next (zcEdge time s)

end Sys2Proof.Machine
end

