-- ==== Sys2Proof/Machine/Logs.lean ====
section
/-!
DEFINITION. The event logs (spec/06_billing_time_events.md R230 to R232) and the status bits of R195 gathered for a second.
-/
namespace Sys2Proof.Machine

/-- The status bits that a record gives the second it is billed in (R168, R195): EST, MISS, CORR. -/
def recStatus (r : Rec) : Nat :=
  (if r.flags % 32 ≠ 0 then 8 else 0) + (if r.flags / 32 % 32 ≠ 0 then 16 else 0) + (if r.flags.testBit 15 then 32 else 0)

/-- The status bits of a second that is not committed (R195): its marks, those of its pending records, and INVCLK. -/
def secStatus (s : State) (sec : Nat) : Nat :=
  let marks := (s.bil.marks.filter (·.1 == sec)).foldl (fun a m => a ||| m.2) 0
  let recs := (s.bil.pend.filter (·.sec == sec)).foldl (fun a e => a ||| recStatus e.rcd) 0
  marks ||| recs ||| (if s.on Fd.BTM_STAT_VALID then 0 else 128)

/-- A status bit marked on a second not yet committed. -/
def markSec (sec bits : Nat) (s : State) : State := { s with bil := { s.bil with marks := (sec, bits) :: s.bil.marks } }

/-- The entries each log holds (R230). -/
def logCapacity (i : Nat) : Nat := ([1024, 256, 512, 512, 256] : List Nat).getD i 0

/-- An entry written to its log with given status bits (R231): outside the clock log a code is logged at most once per second. -/
def logPut (time code src : Nat) (data : Int) (status : Nat) (s : State) : State :=
  let i := code / 256
  let l := nth s.logs i ⟨[], 0⟩
  if i ≠ 1 ∧ l.entries.any (fun e => e.code == code && e.time == time) then s
  else
    let e : LogEntry := ⟨time, s.regN Reg.BIL_COMMIT, code, status % 256 + 256 * src, Bits.ofInt 32 data⟩
    { s with logs := setNth s.logs i ⟨(e :: l.entries).take (logCapacity i), l.written + 1⟩ }

/-- An entry written with the status bits gathered for its second. -/
def logAt (time code src : Nat) (data : Int) (s : State) : State := logPut time code src data (secStatus s time) s

/-- An entry written for an event of the current billing-clock second. -/
def logWrite (code src : Nat) (data : Int) (s : State) : State := logAt (s.regN Reg.BTM_TIME) code src data s

end Sys2Proof.Machine
end

