-- ==== Sys2Proof/Machine/Calendar.lean ====
section
/-!
DEFINITION. Dates, local time and the tariff calendar (spec/05_billing_registers.md R169 to R171, spec/06_billing_time_events.md R209 to
R211). Days are counted from 2000-01-01, a Saturday.
-/
namespace Sys2Proof.Machine

/-- A calendar date: year, month, day. -/
structure Date where
  year : Nat
  month : Nat
  day : Nat
  deriving DecidableEq, Repr

/-- The date of a day number. -/
def dateOf (days : Int) : Date :=
  let z := (days + 730425).toNat
  let doe := z % 146097
  let yoe := (doe - doe / 1460 + doe / 36524 - doe / 146096) / 365
  let doy := doe - (365 * yoe + yoe / 4 - yoe / 100)
  let mp := (5 * doy + 2) / 153
  let m := if mp < 10 then mp + 3 else mp - 9
  ⟨yoe + z / 146097 * 400 + (if m ≤ 2 then 1 else 0), m, doy - (153 * mp + 2) / 5 + 1⟩

/-- The day number of a date. -/
def daysOf (d : Date) : Int :=
  let y := if d.month ≤ 2 then d.year - 1 else d.year
  let mp := if 2 < d.month then d.month - 3 else d.month + 9
  let yoe := y % 400
  let doy := (153 * mp + 2) / 5 + d.day - 1
  ((y / 400 * 146097 + yoe * 365 + yoe / 4 - yoe / 100 + doy : Nat) : Int) - 730425

/-- The weekday of a day number: 1 Monday to 7 Sunday. -/
def weekday (days : Int) : Nat := ((days + 5) % 7).toNat + 1

/-- The days of a month. -/
def monthDays (y m : Nat) : Nat :=
  (daysOf (if m = 12 then ⟨y + 1, 1, 1⟩ else ⟨y, m + 1, 1⟩) - daysOf ⟨y, m, 1⟩).toNat

/-- Local standard time of a billing-clock second (R209), in seconds since 2000-01-01 local standard. -/
def localStd (s : State) (sec : Nat) : Int := (sec : Int) + s.par Par.TZ_OFFSET * 60

/-- The instant that a packed DST_START or DST_END names in a year (R238), in local standard time. -/
def dstInstant (packed y : Nat) : Int :=
  let month := packed / 2 ^ 28
  let week := packed / 2 ^ 25 % 8
  let wd := packed / 2 ^ 22 % 8
  let first := daysOf ⟨y, month, 1⟩
  let n := (wd + 7 - weekday first) % 7
  let day := if week ≤ 4 then n + 7 * (week - 1) else n + 7 * ((monthDays y month - 1 - n) / 7)
  (first + day) * 86400 + (packed % 2 ^ 17 : Nat)

/-- Whether daylight saving is in force at a second (R209). -/
def dstAt (s : State) (sec : Nat) : Bool :=
  let t := localStd s sec
  let y := (dateOf (t / 86400)).year
  let a := dstInstant (s.parN Par.DST_START) y
  let b := dstInstant (s.parN Par.DST_END) y
  s.parB Par.DST_EN && (if a < b then decide (a ≤ t) && decide (t < b) else if b < a then decide (t < b) || decide (a ≤ t) else false)

/-- The local offset from UTC at a second, daylight saving included, in minutes (R211). -/
def tzAt (s : State) (sec : Nat) : Int := s.par Par.TZ_OFFSET + (if dstAt s sec then s.par Par.DST_DEV else 0)

/-- Local time of a second (R209). -/
def localTime (s : State) (sec : Nat) : Int := (sec : Int) + tzAt s sec * 60

/-- Whether a second is the last of an interval of a length that divides the day, on the local standard grid (R188, R193, R210). -/
def gridEnd (s : State) (len sec : Nat) : Bool := (localStd s sec + 1) % (len : Int) == 0

/-- Whether a special day matches a date (R171). -/
def specialMatches (d : Date) (x : SpecialDay) : Bool :=
  x.valid == 1 && (x.year == d.year || x.year == 0xFFFF) && (x.month == d.month || x.month == 0xFF) && x.day == d.day

/-- The rank of a special day: a stated year outranks every year, then a stated month every month (R171). -/
def specialRank (x : SpecialDay) : Nat := (if x.year = 0xFFFF then 0 else 2) + (if x.month = 0xFF then 0 else 1)

/-- The first entry of the largest measure. -/
def bestBy {α : Type} (f : α → Nat) (l : List α) : Option α :=
  l.foldl (fun b x => match b with | none => some x | some y => if f y < f x then some x else some y) none

/-- The place of a month and a day in the year, for comparison. -/
def yearPlace (m d : Nat) : Nat := 32 * m + d

/-- The day profile of a day (R171, steps 1 and 2). -/
def dayProfile (t : Tariff) (days : Int) : List DayAction :=
  let d := dateOf days
  match bestBy specialRank (t.specials.filter (specialMatches d)) with
  | some x => nth t.days x.profile []
  | none =>
    let v := t.seasons.filter (·.valid == 1)
    let at_ := fun (x : Season) => yearPlace x.month x.day
    let before := v.filter (fun x => decide (at_ x ≤ yearPlace d.month d.day))
    match bestBy at_ (if before.isEmpty then v else before) with
    | some x => nth t.days (nth (nth t.weeks x.week []) (weekday days - 1) 0) []
    | none => []

/-- The governing action of a day profile at a second of the day (R171, step 3). -/
def dayAction (p : List DayAction) (h : Nat) : Option DayAction :=
  bestBy (·.start) (p.filter (fun a => a.rate != 0 && decide (a.start ≤ h)))

/-- The calendar's action at a local time (R171): none when it falls back to T1. -/
def calendarAction (t : Tariff) (lt : Int) : Option DayAction :=
  match dayAction (dayProfile t (lt / 86400)) (lt % 86400).toNat with
  | some a => some a
  | none => dayAction (dayProfile t (lt / 86400 - 1)) 86399

/-- What the calendar gives a second under the active table: T1 with no table (R183), INVCLK_RATE while the clock is not valid
(R219); the FRIENDLY flag; and whether it fell back (R171 step 4). -/
def rateOf (s : State) (sec : Nat) : Nat × Bool × Bool :=
  if !s.on Fd.BTM_STAT_VALID then (s.parN Par.INVCLK_RATE, false, false)
  else
    match s.bil.active with
    | none => (1, false, false)
    | some t =>
      match calendarAction t (localTime s sec) with
      | some a => (a.rate, a.friendly == 1, false)
      | none => (1, false, true)

/-- The rate of a second. -/
def rateAt (s : State) (sec : Nat) : Nat := (rateOf s sec).1

/-- Whether a season's fields lie in their ranges (R169); one not valid is not judged (R170). -/
def seasonOk (x : Season) : Bool :=
  x.valid == 0 || (x.valid == 1 && decide (1 ≤ x.month) && decide (x.month ≤ 12) && decide (1 ≤ x.day) && decide (x.day ≤ 31)
    && decide (x.week ≤ 7))

/-- Whether a special day's fields lie in their ranges. -/
def specialOk (x : SpecialDay) : Bool :=
  x.valid == 0 || (x.valid == 1 && ((decide (2000 ≤ x.year) && decide (x.year ≤ 2135)) || x.year == 0xFFFF)
    && ((decide (1 ≤ x.month) && decide (x.month ≤ 12)) || x.month == 0xFF) && decide (1 ≤ x.day) && decide (x.day ≤ 31)
    && decide (x.profile ≤ 31))

/-- Whether a day profile's actions pass R170: ranges, ascending starts, no used action after an unused one. -/
def dayOk : List DayAction → Bool
  | [] => true
  | a :: as =>
    if a.rate = 0 then as.all (fun b => b.rate == 0)
    else decide (a.rate ≤ 16) && decide (a.start ≤ 86399) && decide (a.friendly ≤ 1)
      && (match as with | [] => true | b :: _ => b.rate == 0 || decide (a.start < b.start)) && dayOk as

/-- Whether a table passes R170. -/
def tariffOk (t : Tariff) : Bool :=
  let weekUsed := fun w => t.seasons.any (fun x => x.valid == 1 && x.week == w)
  let weekOk := fun w => (nth t.weeks w []).all (fun p => decide (p ≤ 31) && (nth t.days p []).any (fun a => a.rate != 0))
  t.seasons.all seasonOk && t.specials.all specialOk && t.seasons.any (fun x => x.valid == 1) && t.days.all dayOk
    && (List.range 8).all (fun w => !weekUsed w || weekOk w) && decide (t.activation < 2 ^ 32)

end Sys2Proof.Machine
end

