-- ==== Sys2Proof/Machine/FaultLog.lean ====
section
/-!
DEFINITION. The record of a fault (spec/24_faults_ordering.md R643), and the count of the faults of a metrology engine (R156).
-/
namespace Sys2Proof.Machine

/-- A fault recorded in SYS_FLTLAST, and one of class 2 to 4 in the standard log. -/
def faultNote (cls : Nat) (i : Island) (cause : Nat) (s : State) : State :=
  let t := (((s.put Fd.SYS_FLTLAST_CLASS cls).put Fd.SYS_FLTLAST_ISL i.num).put Fd.SYS_FLTLAST_CAUSE cause).raise Fd.SYS_FLT_NEW
  if 2 ≤ cls then logWrite 0x000E 0 (t.regN Reg.SYS_FLTLAST) t else t

/-- A fault for which SYS_FLTLAST.CAUSE has no code: its code is a free value. -/
def faultOther (cls : Nat) (i : Island) (s : State) : State :=
  let (w, t) := s.fresh
  faultNote cls i (w.toNat % 256) t

/-- The faults of an engine within the last 720 h (R156). -/
def faultCount (s : State) (e : Nat) : Nat :=
  (s.pts.faultHours.filter (fun f => f.1 == e && decide (s.regN Reg.MEM_HOURS - f.2 ≤ 720))).length

/-- The faults of both engines within the last 720 h shown (PTS_ENG.FAULTS). -/
def faultsShow (s : State) : State := upTo 2 (fun e t => t.put (Fd.PTS_ENG_FAULTS e) (min (faultCount t e) 255)) s

end Sys2Proof.Machine
end

