-- ==== Sys2Proof/Machine/FrontEnd.lean ====
section
/-!
DEFINITION. The front end (spec/02_metrology_frontend.md): lanes and spare lanes, stuck streams, the replacement of converters,
the spare-converter rotation and the trims.
-/
namespace Sys2Proof.Machine

/-- Whether a role is in use (R55, R65). -/
def roleUsed (s : State) (r : Nat) : Bool :=
  match s.variant with
  | .f => if r < 6 then s.parN (Par.ISENSOR r) != 3 else if r ≤ 10 then s.parB (Par.VUSED r) else r < 16
  | .m => (List.range 10).any (fun k => s.parN (Par.MOD_ROLE k) == r) && decide (r ≤ 10)

/-- The lane that carries a converter's stream (R68). -/
def laneOf (c : Nat) : Nat := if c = 15 then 5 else c / 3

/-- The converter serving a role. -/
def roleConv (s : State) (r : Nat) : Nat := s.get (Fd.AFE_CH_CONV r)

/-- Whether a converter's stream is lost to a faulty lane (R70): a fault on L05, L06 or L07 loses every stream. -/
def laneLost (s : State) (c : Nat) : Bool :=
  s.afe.laneDown.any (fun l => l == 5 || l == 6 || l == 7 || (decide (l ≤ 4) && l == laneOf c))

/-- Whether a role's samples are invalid (R70, R71, R80, R87, R89, R90). -/
def roleInvalid (s : State) (r : Nat) : Bool :=
  match s.variant with
  | .f => decide (0 < nth s.afe.heal r 0) || s.on (Fd.AFE_CH_FAULT r) || laneLost s (roleConv s r)
  | .m => (List.range 10).any (fun k => s.parN (Par.MOD_ROLE k) == r && (s.get Fd.AFE_MOD_STUCK).testBit k)

/-- The state of a converter (AFE_CSTATE.STATE). -/
def convState (s : State) (c : Nat) : Nat := s.get (Fd.AFE_CSTATE_STATE c)

/-- A converter's state and role set. -/
def setConv (c st role : Nat) (s : State) : State := (s.put (Fd.AFE_CSTATE_STATE c) st).put (Fd.AFE_CSTATE_ROLE c) role

/-- The free spares (R56), lowest first. -/
def freeSpares (s : State) : List Nat := [14, 15].filter (fun c => convState s c == 1)

/-- The count of spares left shown in AFE_STAT.CSPARE: those free or standing in. -/
def showSpares (s : State) : State :=
  s.put Fd.AFE_STAT_CSPARE ([14, 15].filter (fun c => convState s c == 1 || convState s c == 3)).length

/-- Whether a spare lane is free: its SUB field names no lane and it is not faulty. -/
def laneFree (s : State) (p : Nat) : Bool :=
  (s.get (if p = 10 then Fd.AFE_LANE_SUB10 else Fd.AFE_LANE_SUB11) == 15) && !(s.get Fd.AFE_LANE_FAULT).testBit p

/-- The spare lanes left (AFE_STAT.LSPARE). -/
def showLanes (s : State) : State := s.put Fd.AFE_STAT_LSPARE ([10, 11].filter (laneFree s)).length

/-- The lane whose role a lane carries: itself, or for L10 and L11 the lane each replaces. -/
def laneRole (s : State) (k : Nat) : Nat :=
  if k = 10 then s.get Fd.AFE_LANE_SUB10 else if k = 11 then s.get Fd.AFE_LANE_SUB11 else k

/-- A lane fault (R69, R70, R71): shown, and the roles it carries invalid until a spare lane carries them. -/
def laneFault (k : Nat) (s : State) : State :=
  let l := laneRole s k
  let t := (s.putBit Reg.AFE_LANE (12 + k) true).raise Fd.AFE_EVT_LANEFAULT
  let u := if l < 10 ∧ l ∉ t.afe.laneDown then { t with afe := { t.afe with laneDown := t.afe.laneDown ++ [l] } } else t
  showLanes u

/-- A lane's role moved to the lowest-numbered free spare lane (R69). -/
def laneMove (l : Nat) (s : State) : State :=
  if l ∈ s.afe.laneDown then
    match [10, 11].filter (laneFree s) with
    | [] => s
    | p :: _ =>
      let t := faultOther 1 .metrology (s.put (if p = 10 then Fd.AFE_LANE_SUB10 else Fd.AFE_LANE_SUB11) l)
      showLanes { t with afe := { t.afe with laneDown := t.afe.laneDown.erase l } }
  else s

/-- A role kept invalid while a switch settles: at most 10 blocks (R89, R90). -/
def healRole (r : Nat) (s : State) : State :=
  let (w, t) := s.fresh
  { t with afe := { t.afe with heal := setNth t.afe.heal r (w.toNat % 11) } }

/-- A role given for good to a converter, and the map stored (R87). -/
def giveRole (r c : Nat) (s : State) : State :=
  let t := setConv c 0 r (s.put (Fd.AFE_CH_CONV r) c)
  { t with afe := { t.afe with storedMap := setNth t.afe.storedMap r c } }

/-- The roles of a new cycle (R82, R88): those whose converter works, and the step of a lone spare. -/
def cycleRoles (s : State) : List Nat :=
  (List.range 14).filter (fun r => !s.on (Fd.AFE_CH_FAULT r)) ++ (if (freeSpares s).length = 1 then [15] else [])

/-- The stand-in spare of the step about to run (R82): by the parity of its number, or the one that is free. -/
def standIn (s : State) : Option Nat :=
  let want := if s.afe.stepNo % 2 = 0 then 14 else 15
  if want ∈ freeSpares s then some want else (freeSpares s).head?

/-- The step about to run shown in AFE_ROT, or the rotation stopped when no spare is left (R88). -/
def showStep (s : State) : State :=
  match standIn s, s.afe.todo with
  | some c, r :: _ => ((s.put Fd.AFE_ROT_PHASE 1).put Fd.AFE_ROT_SPARE c).put Fd.AFE_ROT_ROLE r
  | none, _ =>
    if [14, 15].any (fun c => convState s c == 3) then s.put Fd.AFE_ROT_PHASE 0
    else (s.put Fd.AFE_ROT_PHASE 0).lower Fd.AFE_STAT_ROTON
  | _, [] => s.put Fd.AFE_ROT_PHASE 0

/-- The step ends (R83 step 13): the next step of the cycle, or the next cycle with the steps to retry first (R84). -/
def nextStep (retry : Bool) (s : State) : State :=
  let again := if retry then s.afe.retry ++ (s.afe.todo.take 1) else s.afe.retry
  let rest := s.afe.todo.drop 1
  let t := { s with afe := { s.afe with stepNo := s.afe.stepNo + 1, todo := rest, retry := again } }
  showStep (showSpares (if rest.isEmpty then
      let u := t.bump Fd.AFE_ROT_CYCLES
      { u with afe := { u.afe with todo := u.afe.retry ++ cycleRoles u, retry := [] } }
    else t))

/-- What the windows of a match say (R84): passed, abandoned because an overload lasted, or failed twice. -/
inductive MatchEnd where
  | pass
  | abandon
  | fail
  deriving DecidableEq, Repr

/-- Whether a window's rms difference is within MATCH_LIM of the range peak (R84). -/
def matchOk (s : State) (w : MatchWin) : Bool :=
  decide (w.diffSq * 10 ^ 12 ≤ 256 * (s.parN Par.MATCH_LIM * 4194304) ^ 2)

/-- The verdict of a match window and of its repeat (R84). -/
def matchEnd (s : State) (w again : MatchWin) : MatchEnd × State :=
  if 64 < w.extended then (.abandon, s)
  else if matchOk s w then (.pass, s)
  else
    let t := s.raise Fd.AFE_EVT_MATCHFAIL
    if 64 < again.extended then (.abandon, t) else if matchOk s again then (.pass, t) else (.fail, t)

/-- A reference run's result (R85): gain and offset as a trim, and asym. -/
def refResult (s : State) (r : RefRun) : Trim × Rat :=
  let e := Config.refCode s.afe.refOtp r.temp
  let z := (r.z : Rat) / 512
  let p := (r.p : Rat) / 512
  let n := (r.n : Rat) / 512
  (⟨(p - n) / (2 * e), z⟩, ((p + n) / 2 - z) / e)

/-- A converter's factory trim. -/
def factoryTrim (s : State) (c : Nat) : Trim := nth s.afe.factory c ⟨1, 0⟩

/-- Gain departure from the factory gain and offset of a trim, in ppm (R86). -/
def gainPpm (s : State) (c : Nat) (t : Trim) : Rat := Exact.abs (t.gain - (factoryTrim s c).gain) * 1000000

/-- The offset of a trim in ppm of the range peak (R86). -/
def offsetPpm (t : Trim) : Rat := Exact.abs t.offset / 4194304 * 1000000

/-- Whether a result makes its converter faulty (R86). -/
def refFaulty (s : State) (c : Nat) (res : Trim × Rat) : Bool :=
  decide ((s.parN Par.GAIN_FAULT : Rat) < gainPpm s c res.1) || decide ((s.parN Par.OFS_FAULT : Rat) < offsetPpm res.1)
    || decide (50 < Exact.abs res.2 * 1000000)

/-- Whether a result exceeds a warning limit (R86). -/
def refWarn (s : State) (c : Nat) (res : Trim × Rat) : Bool :=
  decide ((s.parN Par.GAIN_WARN : Rat) < gainPpm s c res.1) || decide ((s.parN Par.OFS_WARN : Rat) < offsetPpm res.1)

/-- A converter's trim put in force and shown (R85). -/
def setTrim (c : Nat) (t : Trim) (s : State) : State :=
  let u := (s.setRegI (Reg.AFE_CGAIN c) (Exact.toInt ((t.gain - (factoryTrim s c).gain) * 100000000))).setRegI (Reg.AFE_COFS c)
    (Exact.toInt (t.offset / 4194304 * 100000000))
  { u with afe := { u.afe with trims := setNth u.afe.trims c t } }

/-- The check of a converter on the reference (R85, R86): whether it stays healthy, and the state with the trim in force, the step
limit's event and the warning noted. -/
def refCheck (c : Nat) (first again : RefRun) (s : State) : Bool × State :=
  let a := refResult s first
  let b := refResult s again
  let old := nth s.afe.trims c (factoryTrim s c)
  let small := decide (Exact.abs (a.1.gain - old.gain) * 1000000 ≤ (s.parN Par.STEP_LIM : Rat))
  let t := if small then s else s.raise Fd.AFE_EVT_STEP
  let agree := small || decide (Exact.abs (b.1.gain - a.1.gain) * 1000000 ≤ 20)
  let res := if small then a else b
  let u := if refWarn s c res then (t.raise Fd.AFE_EVT_CONVWARN).bump (Fd.AFE_CSTATE_WARNS c) else t
  if agree && !refFaulty s c res then (true, (setTrim c res.1 u).bump (Fd.AFE_CSTATE_CHECKS c)) else (false, u)

/-- A converter found faulty (R87): out of service, the event set and the role map stored. -/
def convOut (c st : Nat) (s : State) : State := setConv c st 15 (faultOther 1 .metrology (s.raise Fd.AFE_EVT_CONVFAULT))

/-- A role whose input path or last converter is at fault (R87). -/
def roleFault (r : Nat) (s : State) : State := (s.raise (Fd.AFE_CH_FAULT r)).raise Fd.AFE_EVT_CONVFAULT

/-- The replacement that R87 gives when converter c of role r and its stand-in sp still fail to match: by what their reference
runs show. -/
def matchFault (r c sp : Nat) (cBad spBad : Bool) (s : State) : State :=
  match cBad, spBad with
  | true, false => giveRole r sp (convOut c 4 s)
  | false, true => giveRole r c (convOut sp 5 s)
  | false, false => roleFault r (setConv sp 1 15 (giveRole r c s))
  | true, true =>
    let t := convOut sp 4 (convOut c 4 s)
    match freeSpares t with
    | x :: _ => giveRole r x t
    | [] => roleFault r t

/-- The other spare's reference run, which it makes in the same step (R82): a faulty one is withdrawn. -/
def otherSpare (sp : Nat) (m : RotMeas) (s : State) : State :=
  match (freeSpares s).filter (· ≠ sp) with
  | [] => s
  | o :: _ => let (ok, t) := refCheck o m.other m.other s; if ok then t else convOut o 5 t

/-- A step on a role (R83 to R87): converter c is checked while the spare sp carries the role. -/
def stepRole (r c sp : Nat) (m : RotMeas) (s : State) : State :=
  let cBad := refFaulty s c (refResult s m.under)
  let spBad := refFaulty s sp (refResult s m.stand)
  match matchEnd s m.win m.winAgain with
  | (.abandon, t) => nextStep true t
  | (.fail, t) => nextStep false (otherSpare sp m (matchFault r c sp cBad spBad t))
  | (.pass, t) =>
    let t := otherSpare sp m (setConv sp 3 r (t.put (Fd.AFE_CH_CONV r) sp))
    match refCheck c m.under m.underAgain t with
    | (false, u) => nextStep false (giveRole r sp (convOut c 4 u))
    | (true, u) =>
      let u := u.lower (Fd.AFE_CH_AGE r)
      match matchEnd u m.ret m.retAgain with
      | (.abandon, v) => nextStep true v
      | (.fail, v) => nextStep false (matchFault r c sp false spBad v)
      | (.pass, v) => nextStep false (setConv sp 1 15 (setConv c 0 r (v.put (Fd.AFE_CH_CONV r) c)))

/-- The step that runs (R82, R88). A role that an abandoned return match left on a spare is checked against that spare. -/
def rotationStep (m : RotMeas) (s : State) : State :=
  match s.afe.todo with
  | [] => s
  | r :: _ =>
    if r = 15 then
      match freeSpares s with
      | [] => nextStep false s
      | x :: _ => let (ok, t) := refCheck x m.other m.other s; nextStep false (if ok then t else convOut x 5 t)
    else
      let c := nth s.afe.storedMap r r
      let carrier := roleConv s r
      if carrier ≠ c then stepRole r c carrier m s
      else match standIn s with
        | some sp => stepRole r c sp m s
        | none => nextStep true s

/-- A running step abandoned between two beats (R90, R91): from beat 3 until beat 12 the spare carries the role and keeps it. -/
def abandonStep (beat : Nat) (s : State) : State :=
  match s.afe.todo with
  | [] => s
  | r :: _ =>
    let sp := s.get Fd.AFE_ROT_SPARE
    if s.on Fd.AFE_STAT_ROTON && decide (1 < beat) && decide (r < 14) then
      nextStep true (if 3 ≤ beat ∧ beat < 12 then setConv sp 3 r (s.put (Fd.AFE_CH_CONV r) sp) else s)
    else s

/-- A converter that fails outside its own check (R87, R89, R90), at a beat of the running step (0: between steps). -/
def convFail (c beat : Nat) (s : State) : State :=
  let r := s.get Fd.AFE_ROT_ROLE
  let sp := s.get Fd.AFE_ROT_SPARE
  let inside := s.on Fd.AFE_STAT_ROTON && decide (3 ≤ beat) && decide (beat ≤ 10) && decide (r < 14)
  let under := nth s.afe.storedMap r r
  showSpares (
    if inside && c == sp then nextStep true (healRole r (convOut c 5 (giveRole r under s)))
    else if inside && c == under then nextStep false (giveRole r sp (convOut c 4 s))
    else
      match (List.range 14).find? (fun q => roleConv s q == c && !s.on (Fd.AFE_CH_FAULT q)) with
      | some q =>
        let t := convOut c 4 s
        match freeSpares t with
        | x :: _ => showStep (healRole q (giveRole q x t))
        | [] => roleFault q t
      | none => if 14 ≤ c ∧ convState s c = 1 then showStep (convOut c 5 s) else s)

/-- The trimmed sample of R85 of a role's raw code: on variant F with the trim of the converter that serves the role. An unused role delivers
samples of value 0 (R55, R65). -/
def trimmedCode (s : State) (r : Nat) (x : Int) : Rat :=
  if !roleUsed s r then 0
  else if s.isF then
    let t := nth s.afe.trims (roleConv s r) ⟨1, 0⟩
    ((x : Rat) - t.offset) / t.gain
  else x

/-- STUCK_STREAM_DETECT (R80, R89, R90): n is the MOD input on variant M, the converter on variant F; beat is the last beat of R83
that the running rotation step has passed, 0 between steps. -/
def execStuckStreamDetect (n beat : Nat) (s : State) : Ans := awake .metrology s <|
  .next (match s.variant with
    | .m =>
      if n < 10 ∧ s.parN (Par.MOD_ROLE n) ≤ 10 then (s.putBit Reg.AFE_MOD (16 + n) true).raise Fd.AFE_EVT_STUCK else s
    | .f => if n < 16 then convFail n beat (s.raise Fd.AFE_EVT_STUCK) else s)

/-- ROTATION_STEP (R83): the whole of the next step, with what it measures. -/
def execRotationStep (m : RotMeas) (s : State) : Ans := awake .metrology s <|
  .next (if s.isF && s.on Fd.AFE_STAT_ROTON then rotationStep m s else s)

/-- TRIM_STORE (R92): the trims in force written to MRAM. -/
def execTrimStore (s : State) : Ans := .next { s with afe := { s.afe with stored := s.afe.trims } }

end Sys2Proof.Machine
end

