-- ==== Sys2Proof/Machine/Metrology.lean ====
section
/-!
DEFINITION. The metrology engine (spec/03_metrology_engine.md R97 to R141): one block of samples turned into an increment record,
exactly. Channels are 0 to 2 phases A to C, 3 and 4 DC channels 1 and 2; record words are numbered 0 to 12 (R128's words 1 to 13).
-/
namespace Sys2Proof.Machine

/-- A user correction in an engine's set (R132). -/
def corrOf (e : Engine) (p : Nat) : Int := Sparse.get (fun _ => 0) e.corr p

/-- A factory correction (R140): every one is 0 on variant M. -/
def facOf (s : State) (p : Nat) : Int := if s.isF then s.par p else 0

/-- The range peak of a role in V (R60, R62, R79, R100). -/
def rangePeak (s : State) (r : Nat) : Rat :=
  match s.variant with
  | .f => if r < 6 then ((nth ([3125, 6250, 12500, 25000, 50000, 100000] : List Nat) (s.parN (Par.IRANGE r)) 0 : Nat) : Rat) / 100000 else 1
  | .m =>
    match (List.range 10).find? (fun k => s.parN (Par.MOD_ROLE k) == r) with
    | some k => (s.parN (Par.MOD_VFS k) : Rat) / 1000000
    | none => 0

/-- RATIO of R100. -/
def roleRatio (s : State) (r : Nat) : Rat := Exact.ofF32 (s.parN (if r < 6 then Par.IRATIO r else Par.VRATIO r))

/-- The physical value of one code (R100). -/
def codeUnit (s : State) (r : Nat) : Rat := rangePeak s r / 4194304 * roleRatio s r

/-- The channel gain: the first two factors of R105. -/
def channelGain (s : State) (e : Engine) (r : Nat) : Rat :=
  (1 + (facOf s (Par.FGAIN r) : Rat) / 100000000) * (1 + (corrOf e (Par.UGAIN r) : Rat) / 100000000)

/-- The gain of R105 for a role in a segment. -/
def fullGain (s : State) (e : Engine) (r k : Nat) : Rat :=
  if r < 6 then
    channelGain s e r * (1 + ((facOf s (Par.FSGAIN r k) + corrOf e (Par.USGAIN r k) : Int) : Rat) / 100000000)
  else channelGain s e r

/-- The offset of R103 in codes. -/
def offsetCodes (s : State) (e : Engine) (r : Nat) : Rat :=
  ((facOf s (Par.FOFS r) + corrOf e (Par.UOFS r) : Int) : Rat) * 4194304 / 100000000

/-- The delay of R106 of a phase current, in seconds, the fixed 500 µs included. -/
def phaseDelay (s : State) (e : Engine) (r k : Nat) : Rat :=
  let sum := facOf s (Par.FPHASE r) + corrOf e (Par.UPHASE r) + facOf s (Par.FSPHASE r k) + corrOf e (Par.USPHASE r k)
  1 / 2000 + (sum : Rat) / 1000 / (360 * (s.parN Par.NOMFREQ : Rat))

/-- Whether the high-pass filter applies to a role (R104). -/
def hpfOn (s : State) (r : Nat) : Bool := (6 ≤ r && r ≤ 8) || (r < 4 && s.parB (Par.HPF r))

/-- Samples are 24-bit codes of magnitude at most 8,388,607 (R73, R74). -/
def clipCode (x : Int) : Int := if x < -8388607 then -8388607 else if 8388607 < x then 8388607 else x

/-- Whether a sample overloads its role (R74, R79). -/
def overCode (s : State) (x : Int) : Bool := decide ((if s.isF then 4613734 else 3774874 : Nat) < x.natAbs)

/-- What a role's chain gives for a block: the corrected samples in time order, their fundamentals (for a voltage, shifted by a
quarter period), and the sums over the block of the filtered codes and of their squares. -/
structure RoleOut where
  xs : List Rat
  fs : List Rat
  s1 : Rat
  s2 : Rat
  deriving DecidableEq, Repr

/-- One sample through steps 1 to 8 of R98, and the fundamental of R117. -/
def chainSample (s : State) (e : Engine) (r : Nat) (raw : Int) (a : RoleDsp × RoleOut) : RoleDsp × RoleOut :=
  let (d, o) := a
  let k := nth e.seg r 0
  let x := clipCode raw
  let t := trimmedCode s r x
  let coil := s.isF && r < 6 && s.parN (Par.ISENSOR r) == 2
  let y := nth d.coilHist 0 0
  let ch := if overCode s x then d.coilHist
    else (((1 - 1 / 16384) * y + Config.coilCoeff (s.parN Par.NOMFREQ) * (t + d.coilX)) :: d.coilHist).take 32
  let c0 := if coil then Config.coilComp ch else t
  let c1 := c0 - offsetCodes s e r
  let hp := if hpfOn s r then Config.highPass d.hp c1 else (d.hp, c1)
  let v := hp.2 * codeUnit s r * fullGain s e r k
  let hist := (v :: d.hist).take 32
  let out := if r < 3 then Config.fracDelay (phaseDelay s e r k) hist else nth hist 8 0
  let fnd := if r < 3 ∨ (6 ≤ r ∧ r ≤ 8) then Config.resonator e.freq d.fund out else (d.fund, 0)
  let fh := (fnd.2 :: d.fundHist).take 128
  let f := if 6 ≤ r ∧ r ≤ 8 then Config.quarterShift e.freq fh else fnd.2
  ({ d with coilX := if coil && !overCode s x then t else d.coilX, coilHist := if coil then ch else d.coilHist, hp := hp.1,
            hist := hist, fund := fnd.1, fundHist := fh },
   ⟨o.xs ++ [out], o.fs ++ [f], o.s1 + hp.2, o.s2 + hp.2 * hp.2⟩)

/-- The sum of the products of two sample lists over one block, times T (R117). -/
def dotT (a b : List Rat) : Rat := Exact.sum (List.zipWith (· * ·) a b) / 16000

/-- The roles a channel's increments depend on (R117, R121, R122). -/
def channelRoles (s : State) (ch : Nat) : List Nat :=
  if ch < 3 then [ch, 6 + ch]
  else if s.parN Par.DCPAIR = 1 then (if ch = 3 then [4, 5, 9] else [])
  else [ch + 1, ch + 6]

/-- The roles one word of a channel's increments depends on: the loss ΔL (word 1 of a DC channel) on its current roles alone (R121). -/
def wordRoles (s : State) (ch j : Nat) : List Nat :=
  if 3 ≤ ch ∧ j = 1 then (channelRoles s ch).filter (fun r => decide (r < 6)) else channelRoles s ch

/-- The record words of a channel. -/
def channelWords (ch : Nat) : List Nat := if ch < 3 then [ch, 3 + ch, 6 + ch] else [6 + ch, 8 + ch]

/-- IMAX of a channel's current role, in mA (R124). -/
def channelImax (s : State) (ch : Nat) : Nat :=
  if ch < 3 then s.parN (Par.IMAX ch)
  else if ch = 3 ∧ s.parN Par.DCPAIR = 1 then s.parN (Par.IMAX 4) + s.parN (Par.IMAX 5) else s.parN (Par.IMAX (ch + 1))

/-- U × IMAX of a channel, in W (R124, R147). -/
def channelPower (s : State) (ch : Nat) : Rat :=
  ((if ch < 3 then s.parN Par.UNOM else s.parN Par.VDCNOM : Nat) : Rat) * (channelImax s ch : Rat) / 1000000

/-- P_gate of R124, in W. -/
def gateThreshold (s : State) (ch : Nat) : Rat := (s.parN Par.CREEP : Rat) / 10000000 * channelPower s ch

/-- A creep gate at a block boundary (R125), the energy in J of the block then judged. -/
def gateStep (th joule : Rat) (g : CreepGate) : CreepGate :=
  let win := (Exact.abs joule * 1000 :: g.win).take 1000
  let m1 := Exact.sum win / 1000
  let m10 := Exact.sum (win.take 10) / 10
  let o := if g.isOpen then !(decide (m1 < 3 / 4 * th) && decide (m10 < 100 * th)) else decide (th ≤ m1) || decide (100 * th ≤ m10)
  ⟨o, win, g.held⟩

/-- What a gate lets through (R126): nothing while closed, and on opening the increments of the last 10 blocks too. -/
def gateEmit (inc : List Rat) (g : CreepGate) : List Rat × CreepGate :=
  if g.isOpen then (g.held.foldl (List.zipWith (· + ·)) inc, { g with held := [] })
  else (inc.map (fun _ => 0), { g with held := (inc :: g.held).take 10 })

/-- The runs of invalid and valid blocks of a role (R111, R112). -/
def roleRun (bad : Bool) (d : RoleDsp) : RoleDsp :=
  if bad then { d with invalidRun := d.invalidRun + 1, validRun := 0, exhausted := d.exhausted || decide (16 ≤ d.invalidRun) }
  else { d with invalidRun := 0, validRun := d.validRun + 1, exhausted := d.exhausted && decide (d.validRun + 1 < 100) }

/-- The mean square over a role's window of 100 blocks (R130); over those available at the start (R110). -/
def meanSq (d : RoleDsp) : Rat := if d.sq.isEmpty then 0 else Exact.sum d.sq / (16 * (d.sq.length : Rat))

/-- The rms of a role over 100 ms (R130). -/
def roleRms (e : Engine) (r : Nat) : Rat := Config.engineSqrt (meanSq (nth e.dsp r .zero))

/-- The mean square current of a role over its window, as the correction set and segment in force make it (R109, R133). -/
def segSquare (s : State) (e : Engine) (r : Nat) : Rat :=
  let d := nth e.dsp r .zero
  let g := codeUnit s r * fullGain s e r (nth e.seg r 0)
  if d.codes.isEmpty then 0 else Exact.sum (d.codes.map (·.2)) / (16 * (d.codes.length : Rat)) * g * g

/-- The boundary B_k of R108 in A. -/
def segBound (s : State) (r k : Nat) : Rat := (s.parN (Par.IMAX r) : Rat) / 1000 / ((2 ^ (16 - k) : Nat) : Rat)

/-- Moves down while the rms is below B_k × 31/32 (R109). -/
def segDown (s : State) (r : Nat) (sq : Rat) : Nat → Nat
  | 0 => 0
  | k + 1 => let b := segBound s r (k + 1) * 31 / 32; if sq < b * b then segDown s r sq k else k + 1

/-- The segment of a role at a block boundary (R109). -/
def segSelect (s : State) (e : Engine) (r : Nat) : Nat :=
  let sq := segSquare s e r
  let k := nth e.seg r 0
  match ((List.range 16).filter (fun j => decide (k < j) && decide (segBound s r j * segBound s r j ≤ sq))).getLast? with
  | some j => j
  | none => segDown s r sq k

/-- The segments of every current role whose samples are valid, chosen at a block boundary (R109). -/
def selectSegs (s : State) (e : Engine) : Engine :=
  { e with seg := (List.range 6).map (fun r => if roleInvalid s r then nth e.seg r 0 else segSelect s e r) }

/-- A value put at the front of a window of n blocks. -/
def winPush (i n : Nat) (v : Rat) (e : Engine) : Engine := { e with win := setNth e.win i ((v :: nth e.win i []).take n) }

/-- The samples of a role in a block: none from an unused role but zeros (R55, R65). -/
def blockSamples (s : State) (raws : List (List Int)) (r : Nat) : List Int :=
  if roleUsed s r then ((List.range 16).map (fun n => nth (nth raws r []) n 0)) else List.replicate 16 0

/-- A role's chain over a block: an invalid role's samples are used in no computation (R111). -/
def roleBlock (s : State) (raws : List (List Int)) (e : Engine) (r : Nat) : RoleDsp × RoleOut :=
  let d := roleRun (roleInvalid s r) (nth e.dsp r .zero)
  if roleInvalid s r then (d, ⟨[], [], 0, 0⟩)
  else
    let (d, o) := (blockSamples s raws r).foldl (fun a x => chainSample s e r x a) (d, ⟨[], [], 0, 0⟩)
    ({ d with codes := ((o.s1, o.s2) :: d.codes).take 100,
              sq := (Exact.sum (o.xs.map (fun x => x * x)) :: d.sq).take 100 }, o)

/-- Whether a channel depends on an invalid role. -/
def channelBad (s : State) (ch : Nat) : Bool := (channelRoles s ch).any (roleInvalid s)

/-- What a block's increments are, in J, before estimation: the 13 words, and the engine with its windows and gates moved. -/
def phaseEnergy (s : State) (outs : List RoleOut) (p : Nat) (a : Engine × List Rat) : Engine × List Rat :=
  let (e, w) := a
  if channelBad s p then a
  else
    let i := nth outs p ⟨[], [], 0, 0⟩
    let u := nth outs (6 + p) ⟨[], [], 0, 0⟩
    let act := dotT u.xs i.xs
    let rea := dotT u.fs i.fs
    let app := roleRms e (6 + p) * roleRms e p / 1000
    let e := winPush p 100 act (winPush (3 + p) 100 rea (winPush (6 + p) 100 app e))
    let ga := gateEmit [act] (gateStep (gateThreshold s p) act (nth e.gates p .zero))
    let gr := gateEmit [rea] (gateStep (gateThreshold s p) rea (nth e.gates (5 + p) .zero))
    let held := nth e.heldS p []
    let opened := ga.2.isOpen || gr.2.isOpen
    let sOut := if opened then app + Exact.sum held else 0
    ({ e with gates := setNth (setNth e.gates p ga.2) (5 + p) gr.2,
              heldS := setNth e.heldS p (if opened then [] else (app :: held).take 10) },
     setNth (setNth (setNth w p (nth ga.1 0 0)) (3 + p) (nth gr.1 0 0)) (6 + p) sOut)

/-- The loss ΔL of one current role in J (R121). -/
def cableLoss (e : Engine) (o : RoleOut) (q : Nat) : Rat := dotT o.xs o.xs * (corrOf e (Par.CABLE_R q) : Rat) / 1000000

/-- A DC channel's increments (R121, R122). -/
def dcEnergy (s : State) (outs : List RoleOut) (q : Nat) (a : Engine × List Rat) : Engine × List Rat :=
  let (e, w) := a
  let pair := s.parN Par.DCPAIR == 1
  let role := fun r => nth outs r (⟨[], [], 0, 0⟩ : RoleOut)
  let bad := if pair && q == 1 then roleInvalid s 5 || roleInvalid s 10 else channelBad s (3 + q)
  let loss := if pair then (if q = 0 then cableLoss e (role 4) 0 + cableLoss e (role 5) 1 else 0) else cableLoss e (role (4 + q)) q
  if bad then (e, setNth w (11 + q) (if (nth e.gates (3 + q) .zero).isOpen then loss else 0))
  else
    let v := role (9 + q)
    let i := if pair && q == 0 then List.zipWith (· + ·) (role 4).xs (role 5).xs else (role (4 + q)).xs
    let meas := if pair && q == 1 then 0 else dotT v.xs i
    let e := winPush (10 + q) 10 (Exact.sum v.xs) (winPush (12 + q) 10 (Exact.sum i) (winPush (14 + q) 10 meas
      (winPush (16 + q) 10 (meas - loss) e)))
    let g := gateEmit [meas - loss, loss] (gateStep (gateThreshold s (3 + q)) meas (nth e.gates (3 + q) .zero))
    ({ e with gates := setNth e.gates (3 + q) g.2 }, setNth (setNth w (9 + q) (nth g.1 0 0)) (11 + q) (nth g.1 1 0))

/-- The computed neutral's squared sum over the block (R131). -/
def neutralWin (s : State) (outs : List RoleOut) (e : Engine) : Engine :=
  if [0, 1, 2].any (roleInvalid s) then e
  else
    let x := fun r => (nth outs r (⟨[], [], 0, 0⟩ : RoleOut)).xs
    let n := List.zipWith (· + ·) (x 0) (List.zipWith (· + ·) (x 1) (x 2))
    winPush 9 100 (Exact.sum (n.map (fun y => y * y))) e

/-- A channel's estimated or missing words (R111, R112), in nWh, or its computed ones. -/
def channelValue (s : State) (e : Engine) (vals : List Rat) (ch j w : Nat) : Rat :=
  if (wordRoles s ch j).any (roleInvalid s) then
    let h := nth e.est ch []
    if (wordRoles s ch j).any (fun r => roleInvalid s r && (nth e.dsp r .zero).exhausted) then 0
    else Exact.mean (h.map (fun row => ((nth row j 0 : Int) : Rat))) h.length
  else nth vals w 0

/-- Whether a channel of the block is missing (R112). -/
def channelMissing (s : State) (e : Engine) (ch : Nat) : Bool :=
  (channelRoles s ch).any (fun r => roleInvalid s r && (nth e.dsp r .zero).exhausted)

/-- The word whose channel and place in it are given turned into whole nWh, its sub-nWh remainder carried (R118). A missing word is
zero and leaves the remainder as it was. -/
def carryWord (s : State) (vals : List Rat) (ch j w : Nat) (e : Engine) : Engine × Int :=
  if (wordRoles s ch j).any (fun r => roleInvalid s r && (nth e.dsp r .zero).exhausted) then (e, 0)
  else
    let t := nth e.rem w 0 + channelValue s e vals ch j w
    let n := Exact.floor t
    ({ e with rem := setNth e.rem w (t - n) }, n)

/-- The 13 words of a block. -/
def carryWords (s : State) (vals : List Rat) (e : Engine) : Engine × List Int :=
  (List.range 5).foldl (fun a ch =>
    ((channelWords ch).zipIdx).foldl (fun (b : Engine × List Int) wj =>
      let (e', n) := carryWord s vals ch wj.2 wj.1 b.1
      (e', setNth b.2 wj.1 n)) a) (e, List.replicate 13 0)

/-- The quadrant of R119. -/
def quadrant (a r : Int) : Nat := if 0 ≤ a then (if 0 ≤ r then 1 else 4) else (if 0 ≤ r then 2 else 3)

/-- A mask built from a predicate on bit numbers. -/
def maskOf (n : Nat) (p : Nat → Bool) : Nat := ((List.range n).map (fun i => if p i then 2 ^ i else 0)).sum

/-- Whether any sample of a role overloads in the block (R114). -/
def roleOver (s : State) (raws : List (List Int)) (r : Nat) : Bool := (blockSamples s raws r).any (overCode s)

/-- The flag word of a record (R128, MTR_BLKSTAT). -/
def blockFlags (s : State) (raws : List (List Int)) (e : Engine) : Nat :=
  maskOf 5 (fun ch => channelBad s ch && !channelMissing s e ch) + maskOf 5 (channelMissing s e) * 32
    + maskOf 5 (fun ch => (channelRoles s ch).any (roleOver s raws)) * 1024 + (if e.corrFlag then 32768 else 0)
    + maskOf 5 (fun g => (nth e.gates g .zero).isOpen) * 65536 + maskOf 3 (fun p => (nth e.gates (5 + p) .zero).isOpen) * 2097152
    + (if s.on Fd.MTR_STAT_FREQOK then 16777216 else 0)

/-- An engine's work on a block (R98 to R128): its record, and the engine after it. -/
def engineBlock (s : State) (blk : Nat) (raws : List (List Int)) (e : Engine) : Engine × Rec :=
  let e := selectSegs s e
  let parts := (List.range 11).map (roleBlock s raws e)
  let outs := parts.map (·.2)
  let e := neutralWin s outs { e with dsp := parts.map (·.1) }
  let a := upTo 2 (dcEnergy s outs) (upTo 3 (phaseEnergy s outs) (e, List.replicate 13 0))
  let (e, words) := carryWords s (a.2.map (· * 2500000 / 9)) a.1
  let est := (List.range 5).map (fun ch =>
    if channelBad s ch then nth e.est ch [] else ((channelWords ch).map (fun w => nth words w 0) :: nth e.est ch []).take 100)
  let flags := blockFlags s raws e
  ({ e with est := est, quad := (List.range 3).map (fun p => quadrant (nth words p 0) (nth words (3 + p) 0)), blocks := e.blocks + 1,
            corrFlag := false }, ⟨blk, flags, words⟩)

/-- An engine with a new correction set (R132, R133): the window of code sums moves by the change of offset, so that the segment is
chosen from the rms the new set gives. -/
def engineCorr (s : State) (set : List (Nat × Int)) (e : Engine) : Engine :=
  let n : Engine := { e with corr := set }
  { n with dsp := (List.range 11).map (fun r =>
      let d := nth e.dsp r .zero
      let x := offsetCodes s n r - offsetCodes s e r
      if hpfOn s r then d
      else { d with codes := d.codes.map (fun c => (c.1 - 16 * x, c.2 - 2 * x * c.1 + 16 * x * x)) }) }

end Sys2Proof.Machine
end

