-- ==== Sys2Proof/Machine/Points.lean ====
section
/-!
DEFINITION. The Points (spec/04_points_redundancy.md R142 to R164): compare, referee, change-over, self-test, rejoin, trial, and the
delivery of one block's record and of the instantaneous values.
-/
namespace Sys2Proof.Machine

/-- An engine's place in the Points. -/
def rail (s : State) (e : Nat) : Rail := if e = 0 then s.pts.r0 else s.pts.r1

/-- An engine's place replaced. -/
def setRail (s : State) (e : Nat) (r : Rail) : State :=
  if e = 0 then { s with pts := { s.pts with r0 := r } } else { s with pts := { s.pts with r1 := r } }

/-- An engine's place changed. -/
def modRail (e : Nat) (f : Rail → Rail) (s : State) : State := setRail s e (f (rail s e))

/-- The state of an engine (R142). -/
def engSt (s : State) (e : Nat) : Nat := s.get (Fd.PTS_ENG_STATE e)

/-- The active engine, when there is one. -/
def activeEng (s : State) : Option Nat := [0, 1].find? (fun e => engSt s e == 0)

/-- MODE and ACTIVE shown (R143), once metering has started. -/
def ptsShow (s : State) : State :=
  if s.on Fd.MTR_STAT_READY then
    match activeEng s with
    | none => s.put Fd.PTS_STAT_MODE 0
    | some a =>
      let o := engSt s (1 - a)
      (s.put Fd.PTS_STAT_MODE (if o = 1 then 2 else if o = 6 then 3 else 1)).put Fd.PTS_STAT_ACTIVE a
  else s

/-- Whether the Points are in dual mode. -/
def ptsDual (s : State) : Bool :=
  match activeEng s with
  | some a => engSt s (1 - a) == 1
  | none => false

/-- An engine put into a state. -/
def setEng (e st : Nat) (s : State) : State :=
  let t := s.put (Fd.PTS_ENG_STATE e) st
  ptsShow (if engSt s e = 6 ∧ st ≠ 6 then { t with pts := { t.pts with trialOn := false } }.lower Fd.PTS_CTL_TRIAL else t)

/-- An engine retired (R156); with both retired, a class 2 fault is recorded (R643). -/
def engRetire (e : Nat) (s : State) : State :=
  let t := (setEng e 7 s).raise Fd.PTS_EVT_RETIRE
  if engSt t (1 - e) = 7 then faultOther 2 .metrology t else t

/-- An engine found faulty (R148, R156): counted, and out of service for self-test, or retired at its third fault within 720 h. -/
def engFault (e cause : Nat) (s : State) : State :=
  let t := { s with pts := { s.pts with faultHours := ((e, s.regN Reg.MEM_HOURS) :: s.pts.faultHours).take 64 } }
  let u := ((t.raise Fd.PTS_EVT_FAULT).put (Fd.PTS_ENG_CAUSE e) cause).put (Fd.PTS_ENG_FAULTS e) (min (faultCount t e) 255)
  let v := { u with pts := { u.pts with cleanRun := 0 } }
  let v := if 3 ≤ faultCount v e then engRetire e v else setEng e 2 v
  if engSt v (1 - e) = 7 then v else faultOther 1 .metrology v

/-- A change-over to engine o at a block (R152). -/
def changeOver (o blk : Nat) (s : State) : State :=
  let t := (setEng o 0 s).raise Fd.PTS_EVT_CHANGE
  (((t.bump Fd.PTS_CNT_CHANGES).setRegN Reg.PTS_LASTCHG blk).raise Fd.PTS_STAT_HELD).emit (.pointsStatus o)

/-- The user corrections in force (R132). -/
def isCorr (p : Nat) : Bool :=
  (9061 ≤ p && p ≤ 9062) || (9101 ≤ p && p ≤ 9111) || (9121 ≤ p && p ≤ 9131) || (9141 ≤ p && p ≤ 9143)
    || (9201 ≤ p && p ≤ 9296) || (9301 ≤ p && p ≤ 9348)

/-- The correction set in force. -/
def corrInForce (s : State) : List (Nat × Int) := s.params.filter (fun e => isCorr e.1)

/-- A set with pending values laid over it (R132, R161). -/
def corrOver (set pend : List (Nat × Int)) : List (Nat × Int) :=
  pend.foldl (fun m e => if isCorr e.1 then Sparse.set (fun _ => (0 : Int)) m e.1 e.2 else m) set

/-- An engine given a correction set. -/
def railCorr (set : List (Nat × Int)) (e : Nat) (s : State) : State := modRail e (fun r => { r with eng := engineCorr s set r.eng }) s

/-- What follows when the active engine has been found faulty for a block: a change-over to a standby or a shadow (R152, R163); the
end of a trial, whose engine is made active after 16 blocks (R162); or no active engine (R155). -/
def afterActive (a blk : Nat) (s : State) : State :=
  let o := 1 - a
  if engSt s o = 1 ∨ engSt s o = 5 then changeOver o blk s
  else if engSt s o = 6 then
    modRail o (fun r => { r with warm := s.parN Par.WARMUP - 16 }) (setEng o 4 (railCorr (corrInForce s) o s))
  else ptsShow s

/-- A fault that an engine's own checks find (R145, R148), attributed to the block not yet delivered. -/
def ownFault (e cause : Nat) (s : State) : State :=
  let blk := if s.on Fd.MTR_STAT_READY then (s.regN Reg.MTR_BLKCNT + 1) % 2 ^ 32 else 0
  if e < 2 ∧ engSt s e = 0 then afterActive e blk (engFault e cause s)
  else if e < 2 ∧ engSt s e ∈ [1, 4, 5, 6] then engFault e cause s
  else s

/-- |a − b| ≤ CMP_TOL + CMP_REL × |a| (R146). -/
def wordClose (s : State) (a b : Int) : Bool :=
  decide ((a - b).natAbs * 1000000000 ≤ s.parN Par.CMP_TOL * 1000000000 + s.parN Par.CMP_REL * a.natAbs)

/-- Whether two records compare clean (R146). -/
def recClean (s : State) (a b : Rec) : Bool :=
  a.flags == b.flags && (List.zipWith (wordClose s) a.words b.words).all id

/-- Whether two instantaneous values compare clean (R146). -/
def valClose (s : State) (a b : Int) : Bool :=
  decide ((a - b).natAbs * 1000000000 ≤ 100 * s.parN Par.CMP_REL * a.natAbs + 1000000000)

/-- The referee's energy of a channel in a block, in J (R147): from trimmed samples, scaling and channel gain alone. -/
def refereeEnergy (s : State) (raws : List (List Int)) (ch : Nat) : Rat :=
  let e : Engine := { Engine.zero with corr := corrInForce s }
  let x := fun r => (blockSamples s raws r).map (fun c => trimmedCode s r (clipCode c) * codeUnit s r * channelGain s e r)
  match channelRoles s ch with
  | [i, u] => dotT (x i) (x u)
  | [i, j, u] => dotT (List.zipWith (· + ·) (x i) (x j)) (x u)
  | _ => 0

/-- Whether the referee finds a record faulty (R147). -/
def refereeBad (s : State) (raws : List (List Int)) (r : Rec) : Bool :=
  (List.range 5).any (fun ch =>
    let n := if ch < 3 then nth r.words ch 0 else nth r.words (6 + ch) 0 + nth r.words (8 + ch) 0
    let v := (n : Rat) * 9 / 2500000
    let ref := refereeEnergy s raws ch
    !channelBad s ch && decide ((s.parN Par.REF_TOL : Rat) / 1000000 * channelPower s ch / 1000 + Exact.abs ref / 10
      < Exact.abs (v - ref)))

/-- An unclean compare in dual mode (R146, R147): the referee's findings on the active engine and on the standby decide. -/
def judge (a blk : Nat) (badA badO : Bool) (s : State) : State :=
  let o := 1 - a
  let t := (s.raise Fd.PTS_EVT_MISMATCH).bump Fd.PTS_CNT_MISM
  let t := { t with pts := { t.pts with cleanRun := 0 } }
  match badA, badO with
  | true, true => ptsShow (engFault o 3 (engFault a 3 t))
  | true, false => afterActive a blk (engFault a 3 t)
  | false, true => engFault o 3 t
  | false, false => setEng o 2 t

/-- A record put out on X00 by the comparator, and its flags shown (R128, R145). -/
def deliver (r : Rec) (s : State) : State :=
  let t := { s with x00 := s.x00 ++ [r], pts := { s.pts with delivered := (r.words :: s.pts.delivered).take 100 } }
  let u := ((t.setRegN Reg.MTR_BLKSTAT r.flags).put Fd.MTR_STAT_PGATE (r.flags / 65536 % 32)).put Fd.MTR_STAT_QGATE
    (r.flags / 2097152 % 8)
  when (r.flags / 1024 % 32 ≠ 0) (·.raise Fd.MTR_EVT_OVRBLK)
    (when (r.flags / 32 % 32 ≠ 0) (·.raise Fd.MTR_EVT_GAP) (when (r.flags % 32 ≠ 0) (·.raise Fd.MTR_EVT_ESTIM) u))

/-- A healthy record delivered. -/
def deliverGood (r : Rec) (s : State) : State := deliver r { s with pts := { s.pts with noRec := 0 } }

/-- A block without a healthy record (R155): the rounded mean of the last records delivered with ESTIM, or from the 17th such block
zero with MISSING. -/
def deliverEstimate (blk : Nat) (s : State) : State :=
  let d := s.pts.delivered
  let mean := fun w => if d.isEmpty then (0 : Int) else Exact.nearest ((d.map (fun r => nth r w 0)).sum / (d.length : Rat))
  let t := ({ s with pts := { s.pts with noRec := s.pts.noRec + 1 } } : State).raise Fd.PTS_EVT_ESTGAP
  if t.pts.noRec ≤ 16 then deliver ⟨blk, 31, (List.range 13).map mean⟩ t
  else deliver ⟨blk, 992, List.replicate 13 0⟩ t

/-- What a snapshot of an engine at the end of a block holds (R149). -/
def snapOf (e : Engine) (blk : Nat) (bad : Bool) : Snap :=
  ⟨blk, e.totals, e.corr, e.quad, e.gates.map (·.isOpen), e.seg, e.rem, bad⟩

/-- Whether an engine computes in its state. -/
def computes (st : Nat) : Bool := st == 0 || st == 1 || st == 4 || st == 5 || st == 6

/-- An upset laid over a record: bits of the flag word turned over, and each energy word moved. -/
def upset (dev : List Int) (r : Rec) : Rec :=
  { r with flags := r.flags ^^^ (nth dev 0 0).toNat, words := (List.range 13).map (fun w => nth r.words w 0 + nth dev (w + 1) 0) }

/-- One engine's work on a block: its record, kept in its ring, its totals and its snapshot. -/
def railBlock (blk : Nat) (raws : List (List Int)) (dev : List Int) (e : Nat) (s : State) : State :=
  if computes (engSt s e) then
    let r := rail s e
    let (eng, rcd) := engineBlock s blk raws r.eng
    let rcd := upset dev rcd
    let eng := { eng with totals := List.zipWith (· + ·) eng.totals rcd.words }
    let ring := (rcd :: r.ring).take 4
    let warm := if engSt s e = 4 then r.warm + 1 else r.warm
    let snaps := (snapOf eng blk (refereeBad s raws rcd) :: r.snaps).take 8192
    setRail s e { r with eng := eng, ring := ring, snaps := snaps, warm := warm }
  else s

/-- An engine's record of the block just processed. -/
def lastRec (s : State) (e : Nat) : Rec := nth (rail s e).ring 0 ⟨0, 0, List.replicate 13 0⟩

/-- Whether the referee finds an engine's last record faulty. -/
def lastBad (s : State) (e : Nat) : Bool := (nth (rail s e).snaps 0 ⟨0, [], [], [], [], [], [], false⟩).bad

/-- The trial's sums (R161), in PTS_TRIAL. -/
def trialSum (o : Nat) (s : State) : State :=
  let sums := List.zipWith (· + ·) s.pts.trial (lastRec s o).words
  let t := { s with pts := { s.pts with trial := sums } }.bumpReg Reg.PTS_TRIALBLK
  upTo 13 (fun w u =>
    let v := Bits.ofInt 64 (nth sums w 0)
    (u.setRegN (Reg.PTS_TRIAL (2 * w)) v).setRegN (Reg.PTS_TRIAL (2 * w + 1)) (v / 2 ^ 32)) t

/-- The decision of the comparator on a block (R145 to R147, R155, R158, R161). -/
def decideBlock (blk : Nat) (s : State) : State :=
  match activeEng s with
  | none => deliverEstimate blk s
  | some a =>
    let o := 1 - a
    let clean := recClean s (lastRec s a) (lastRec s o)
    let stay := deliverGood (lastRec s a)
    if engSt s o = 1 then
      if clean then stay { s with pts := { s.pts with cleanRun := s.pts.cleanRun + 1 } }
      else
        let t := judge a blk (lastBad s a) (lastBad s o) s
        match activeEng t with
        | some x => deliverGood (lastRec t x) t
        | none => deliverEstimate blk t
    else if engSt s o = 5 then
      let t := modRail o (fun r => { r with shadow := r.shadow + 1 }) s
      stay (if clean then t.bump (Fd.PTS_ENG_CLEAN o) else t.put (Fd.PTS_ENG_CLEAN o) 0)
    else if engSt s o = 6 then stay (trialSum o s)
    else stay s

/-- A snapshot loaded into an engine that waits in state 3 (R158): its filters start from zero, and it warms up from the block after
the one the snapshot names. -/
def loadSnap (p : Snap) (now : Nat) (e : Nat) (s : State) : State :=
  let gates := p.gates.map (fun o => { CreepGate.zero with isOpen := o })
  let old := (rail s e).eng
  let eng : Engine := { Engine.zero with totals := p.totals, corr := corrInForce s, quad := p.quad, seg := p.seg, rem := p.rem,
                                         gates := gates, freq := old.freq, blocks := old.blocks }
  let t := modRail e (fun r => { r with eng := eng, ring := [], snaps := [], warm := now, shadow := 0 }) s
  (setEng e 4 t).put (Fd.PTS_ENG_CLEAN e) 0

/-- The snapshot an engine loads: of the active engine's totals as they stand when it begins, so that the records between the named
block and now are not lost to them. -/
def loadAt (p : Snap) (e : Nat) (s : State) : State :=
  let late := (s.regN Reg.MTR_BLKCNT + 2 ^ 32 - p.blk) % 2 ^ 32
  match activeEng s with
  | some a => loadSnap { p with totals := (rail s a).eng.totals } late e s
  | none => loadSnap p 0 e s

/-- A standby that leaves for self-test, or a waiting planned test begun (R157): the standby at once, the active engine by a swap at
a commit mark after 1,000 clean compares. -/
def plannedTest (atMark : Bool) (s : State) : State :=
  if (s.pts.planned || s.pts.plannedNow) && ptsDual s then
    match activeEng s with
    | none => s
    | some a =>
      let done := fun (t : State) => { t with pts := { t.pts with planned := false, plannedNow := false, due := 1 - t.pts.due } }
      if s.pts.due ≠ a then setEng (1 - a) 2 (done s)
      else if atMark && decide (1000 ≤ s.pts.cleanRun) then
        ((setEng a 2 (setEng (1 - a) 0 (setEng a 1 (done s)))).raise Fd.PTS_EVT_SWAP)
      else s
  else s

/-- A commit mark that names a block (R149 to R151, R157, R158, R160). -/
def ptsMark (blk : Nat) (s : State) : State :=
  let at_ := fun e => ((rail s e).snaps.find? (fun p => p.blk == blk))
  let t := match activeEng s with
    | none => s
    | some a =>
      match at_ a with
      | none => s
      | some p =>
        let t := { s with pts := { s.pts with stored := some p } }
        if engSt s (1 - a) = 1 then
          match at_ (1 - a) with
          | some q => if { q with bad := p.bad, corr := p.corr } = p then t else judge a blk p.bad q.bad t
          | none => t
        else t
  let u := upTo 2 (fun e v =>
    if engSt v e = 3 then
      match v.pts.stored with
      | some p => loadAt p e v
      | none => v
    else v) t
  plannedTest true u

/-- An engine's self-test has ended (R156, R158, R160). -/
def selfTestDone (e : Nat) (pass : Bool) (s : State) : State :=
  if e < 2 ∧ engSt s e = 2 then
    if pass then
      let t := setEng e 3 (modRail e (fun r => { r with fails := 0, bootFail := false }) s)
      match activeEng t with
      | some _ => t
      | none => loadAt (t.pts.stored.getD (snapOf .zero (t.regN Reg.MTR_BLKCNT) false)) e t
    else
      let t := (engFault e 4 (modRail e (fun r => { r with fails := r.fails + 1 }) s)).raise Fd.PTS_EVT_STFAIL
      if 2 ≤ (rail t e).fails ∧ engSt t e ≠ 7 then engRetire e t else t
  else s

/-- The trial's end (R161): its engine rejoins with the set in force. -/
def trialStop (s : State) : State :=
  match [0, 1].find? (fun e => engSt s e == 6) with
  | some e => setEng e 3 (railCorr (corrInForce s) e s)
  | none => s.lower Fd.PTS_CTL_TRIAL

/-- The trial's start (R161): in dual mode the standby computes with the pending set. -/
def trialBegin (s : State) : State :=
  if ptsDual s then
    match activeEng s with
    | some a =>
      let t := setEng (1 - a) 6 (railCorr (corrOver (corrInForce s) s.parPend) (1 - a) s)
      let u := { t with pts := { t.pts with trial := List.replicate 13 0, trialOn := true } }.setRegN Reg.PTS_TRIALBLK 0
      (upTo 26 (fun w v => v.setRegN (Reg.PTS_TRIAL w) 0) u).raise Fd.PTS_CTL_TRIAL
    | none => s
  else s

/-- A write of PTS_CTL.STNOW (R157): the sequence of a planned test at once. -/
def testNow (s : State) : State := plannedTest false { s with pts := { s.pts with plannedNow := true } }

/-- A write of PTS_CTL.CLRMISM. -/
def clearMism (s : State) : State := s.lower Fd.PTS_CNT_MISM

/-- Metering starts (R138, R144): both engines from the same state, those that failed their boot self-test into self-test, and E1
active when E0 is unavailable. -/
def meteringStart (s : State) : State :=
  let z : Engine := { Engine.zero with corr := corrInForce s, freq := s.parN Par.NOMFREQ * 1000 }
  let t := upTo 2 (fun e u => modRail e (fun r => { Rail.zero with eng := z, fails := r.fails, bootFail := r.bootFail }) u)
    ((s.setRegN Reg.MTR_BLKCNT 0).raise Fd.MTR_STAT_READY)
  let t := { t with pts := { t.pts with noRec := 0, delivered := [], cleanRun := 0, freqLost := false, seqWrong := false,
                                        neutralRun := 0, stored := none } }
  let out := fun e => engSt t e == 7 || (rail t e).bootFail
  let t := upTo 2 (fun e u => if engSt u e = 7 ∨ !out e then u else (engFault e 4 u).raise Fd.PTS_EVT_STFAIL) t
  let t := match out 0, out 1 with
    | false, false => setEng 1 1 (setEng 0 0 t)
    | false, true => setEng 0 0 t
    | true, false => setEng 1 0 t
    | true, true => t
  ptsShow t

/-- The front end's view of a block (R70, R74, R80, R89): invalid and overloaded roles, edges of the modulators, settling roles. -/
def frontBlock (raws : List (List Int)) (edges : Nat) (s : State) : State :=
  let n := if s.isF then 16 else 11
  let bad := maskOf n (fun r => roleUsed s r && roleInvalid s r)
  let t := s.put Fd.AFE_STAT_INVALID bad
  let t := when (bad ≠ 0) (·.raise Fd.AFE_EVT_INVAL) t
  let t := upTo n (fun r u =>
    let u := u.putB (Fd.AFE_CH_INV r) (bad.testBit r)
    if roleOver s raws r then (u.raise (Fd.AFE_CH_OVR r)).raise Fd.AFE_EVT_OVR else u) t
  match s.variant with
  | .f => { t with afe := { t.afe with heal := t.afe.heal.map (· - 1) } }
  | .m => (t.put Fd.AFE_MOD_ACT (edges % 1024)).put Fd.AFE_MOD_STUCK (t.get Fd.AFE_MOD_STUCK &&& (1023 ^^^ (edges % 1024)))

/-- The seconds since each role's converter was checked, every 1,000 blocks (AFE_CH.AGE). -/
def ageRoles (s : State) : State :=
  if s.isF && s.regN Reg.MTR_BLKCNT % 1000 == 999 then upTo 14 (fun r t => t.bump (Fd.AFE_CH_AGE r)) s else s

/-- The work of the front end, the engines and the comparator on one block (R128, R138, R145 to R155). -/
def ptsBlock (raws : List (List Int)) (edges : Nat) (dev0 dev1 : List Int) (s : State) : State :=
  let t := if s.on Fd.MTR_STAT_READY then s.setRegN Reg.MTR_BLKCNT (s.regN Reg.MTR_BLKCNT + 1) else meteringStart s
  let blk := t.regN Reg.MTR_BLKCNT
  let u := railBlock blk raws dev1 1 (railBlock blk raws dev0 0 t)
  let v := decideBlock blk u
  let w := match activeEng v with
    | some a => upTo 6 (fun r x => x.put (Fd.MTR_SEG_SEG r) (nth (rail v a).eng.seg r 0)) v
    | none => v
  let w := ageRoles (frontBlock raws edges w)
  if (!w.pts.markSeen || !w.on Fd.BIL_STAT_READY) && blk % 1000 == 0 then
    ptsMark blk { w with pts := { w.pts with markSeen := false } }
  else w

/-- The mean of a window over n blocks' worth. -/
def winMean (e : Engine) (i : Nat) : Rat := Exact.mean (nth e.win i []) (nth e.win i []).length

/-- Power from a window of energies in J per block, in 0.1 W. -/
def winPower (e : Engine) (i : Nat) : Rat := winMean e i * 10000

/-- A signed register's 16-bit value of P / S in 1/10,000 (R130). -/
def powerFactor (p q th : Rat) : Int := if q < th ∨ q ≤ 0 then 0 else Exact.toInt (p / q * 10000)

/-- The 100-block values of an engine (R129, R130), in the order of the registers MTR_URMS to MTR_S, then PF, angle, INCALC. -/
def acValues (s : State) (e : Engine) (angles : List Int) : List Int :=
  let p := fun i => winPower e i
  let tot := fun i => p i + p (i + 1) + p (i + 2)
  let th := fun ch => gateThreshold s ch * 10
  [roleRms e 6 * 1000, roleRms e 7 * 1000, roleRms e 8 * 1000, roleRms e 0 * 1000, roleRms e 1 * 1000, roleRms e 2 * 1000,
    roleRms e 3 * 1000, p 0, p 1, p 2, tot 0, p 3, p 4, p 5, tot 3, p 6, p 7, p 8, tot 6].map Exact.toInt
  ++ [powerFactor (p 0) (p 6) (th 0), powerFactor (p 1) (p 7) (th 1), powerFactor (p 2) (p 8) (th 2), powerFactor (tot 0) (tot 6) 0]
  ++ (List.range 3).map (fun i => if p (6 + i) < th i ∨ p (6 + i) ≤ 0 then 0 else nth angles i 0)
  ++ [Exact.toInt (Config.engineSqrt (winMean e 9 / 16) * 1000)]

/-- The 10-block values of an engine (R129, R130): voltages in mV, currents in mA, measured and connector power in 0.1 W. -/
def dcValues (e : Engine) : List Int :=
  [winMean e 10 / 16 * 1000, winMean e 11 / 16 * 1000, winMean e 12 / 16 * 1000, winMean e 13 / 16 * 1000,
    winPower e 14, winPower e 15, winPower e 16, winPower e 17].map Exact.toInt

/-- The registers of the 100-block values, with the roles each depends on (R113). -/
def acRegs : List (RegField × List Nat) :=
  (List.range 3).map (fun p => (⟨Reg.MTR_URMS p, 0, 32⟩, [6 + p])) ++ (List.range 4).map (fun p => (⟨Reg.MTR_IRMS p, 0, 32⟩, [p]))
  ++ (List.range 4).map (fun p => (⟨Reg.MTR_P p, 0, 32⟩, if p < 3 then [p, 6 + p] else [0, 1, 2, 6, 7, 8]))
  ++ (List.range 4).map (fun p => (⟨Reg.MTR_Q p, 0, 32⟩, if p < 3 then [p, 6 + p] else [0, 1, 2, 6, 7, 8]))
  ++ (List.range 4).map (fun p => (⟨Reg.MTR_S p, 0, 32⟩, if p < 3 then [p, 6 + p] else [0, 1, 2, 6, 7, 8]))
  ++ (List.range 4).map (fun p => (Fd.MTR_PF_PF p, if p < 3 then [p, 6 + p] else [0, 1, 2, 6, 7, 8]))
  ++ (List.range 3).map (fun p => (Fd.MTR_PF_ANGLE p, [p, 6 + p])) ++ [(⟨Reg.MTR_INCALC, 0, 32⟩, [0, 1, 2])]

/-- The registers of the 10-block values. -/
def dcRegs (s : State) : List (RegField × List Nat) :=
  let i0 := if s.parN Par.DCPAIR = 1 then [4, 5] else [4]
  [(⟨Reg.MTR_VDC 0, 0, 32⟩, [9]), (⟨Reg.MTR_VDC 1, 0, 32⟩, [10]), (⟨Reg.MTR_IDC 0, 0, 32⟩, i0), (⟨Reg.MTR_IDC 1, 0, 32⟩, [5]),
    (⟨Reg.MTR_PDC 0, 0, 32⟩, 9 :: i0), (⟨Reg.MTR_PDC 1, 0, 32⟩, [5, 10]), (⟨Reg.MTR_PCONN 0, 0, 32⟩, 9 :: i0),
    (⟨Reg.MTR_PCONN 1, 0, 32⟩, [5, 10])]

/-- Values written to their registers; one that depends on an invalid role holds its last valid value (R113). -/
def writeValues (fs : List (RegField × List Nat)) (vs : List Int) (s : State) : State :=
  (List.zip fs vs).foldl (fun t e => if e.1.2.any (roleInvalid s) then t else t.put e.1.1 (Bits.ofInt e.1.1.width e.2)) s

/-- Line frequency and phase order (R115, R116). -/
def freqUpdate (m : InstMeas) (s : State) : State :=
  let q := fun p => decide (s.parN Par.UNOM ≤ 5 * s.regN (Reg.MTR_URMS p))
  let ok := (q 0 || q 1 || q 2) && decide (45000 ≤ m.freq) && decide (m.freq ≤ 65000)
  let t := s.putB Fd.MTR_STAT_FREQOK ok
  let t := if ok then upTo 2 (modRail · (fun r => { r with eng := { r.eng with freq := m.freq } })) (t.put Fd.MTR_FREQ_MHZ m.freq)
    else when (!s.pts.freqLost) (·.raise Fd.MTR_EVT_FREQ) t
  let all := q 0 && q 1 && q 2
  let wrong := all && !m.order
  let t := when (wrong && !s.pts.seqWrong) (·.raise Fd.MTR_EVT_SEQ) (t.putB Fd.MTR_STAT_SEQOK (all && m.order))
  { t with pts := { t.pts with freqLost := !ok, seqWrong := wrong } }

/-- The neutral check (R131): at the tenth update in a row beyond NEUT_LIM the event is set and logged. -/
def neutralUpdate (s : State) : State :=
  let diff : Int := (s.regN (Reg.MTR_IRMS 3) : Int) - s.regN Reg.MTR_INCALC
  if roleUsed s 3 then
    let n := if s.parN Par.NEUT_LIM < diff.natAbs then s.pts.neutralRun + 1 else 0
    let t := { s with pts := { s.pts with neutralRun := n } }
    if n = 10 then logWrite 0x0306 0 diff (t.raise Fd.MTR_EVT_NEUTRAL) else t
  else { s with pts := { s.pts with neutralRun := 0 } }

/-- An engine's values of an update, an upset laid over them. -/
def engValues (s : State) (m : InstMeas) (e : Nat) : List Int :=
  let g := (rail s e).eng
  let v := (if m.ac then acValues s g m.angles else []) ++ dcValues g
  v.zipIdx.map (fun x => x.1 + nth (if e = 0 then m.dev0 else m.dev1) x.2 0)

/-- The update of the instantaneous values (R129 to R131, R146, R152, R153). -/
def instUpdate (m : InstMeas) (s : State) : State :=
  match activeEng s with
  | none => s
  | some a =>
    let va := engValues s m a
    let clean := (List.zipWith (valClose s) va (engValues s m (1 - a))).all id
    let t := if engSt s (1 - a) = 1 ∧ !clean then judge a (s.regN Reg.MTR_BLKCNT) (lastBad s a) (lastBad s (1 - a)) s
      else if engSt s (1 - a) = 5 ∧ !clean then s.put (Fd.PTS_ENG_CLEAN (1 - a)) 0
      else s
    if activeEng t = some a then
      let u := writeValues ((if m.ac then acRegs else []) ++ dcRegs t) va (t.lower Fd.PTS_STAT_HELD)
      if m.ac then neutralUpdate (freqUpdate m u) else u
    else t

/-- ENGINE_DEADLINE_MISS (R145). -/
def execEngineDeadlineMiss (e : Nat) (s : State) : Ans := awake .metrology s <| .next (ownFault e 2 s)

/-- ENGINE_SELF_CHECK_ERROR (R148). -/
def execEngineSelfCheckError (e : Nat) (s : State) : Ans := awake .metrology s <| .next (ownFault e 1 s)

/-- COMMIT_MARK_SNAPSHOT (R149): the oldest commit mark on X01 arrives. -/
def execCommitMarkSnapshot (s : State) : Ans := awake .metrology s <|
  .next (match s.x01 with
    | [] => s
    | b :: bs => ptsMark b { s with x01 := bs, pts := { s.pts with markSeen := true } })

/-- ENGINE_SELF_TEST_DONE (R156). -/
def execEngineSelfTestDone (e : Nat) (pass : Bool) (s : State) : Ans := awake .metrology s <| .next (selfTestDone e pass s)

/-- SELF_TEST_RETRY (R156): the repeat of a failed self-test after 10 s, with its result. -/
def execSelfTestRetry (e : Nat) (pass : Bool) (s : State) : Ans := awake .metrology s <|
  .next (if 0 < (rail s e).fails then selfTestDone e pass s else s)

/-- PLANNED_SELF_TEST_DUE (R157): SELFTEST_PER has passed. -/
def execPlannedSelfTestDue (s : State) : Ans := awake .metrology s <| .next (plannedTest false { s with pts := { s.pts with planned := true } })

/-- SELF_TEST_NOW (R157): a host write of PTS_CTL.STNOW. -/
def execSelfTestNow (p : Path) (s : State) : Ans := .next (hostOwn p 1 (toIsland .metrology testNow) s)

/-- WARMUP_END (R158, R160): after WARMUP blocks the engine enters shadow, or is made active when none is. -/
def execWarmupEnd (e : Nat) (s : State) : Ans := awake .metrology s <|
  .next (if e < 2 ∧ engSt s e = 4 ∧ s.parN Par.WARMUP ≤ (rail s e).warm then
    (match activeEng s with
      | some _ => (setEng e 5 (modRail e (fun r => { r with shadow := 0 }) s)).put (Fd.PTS_ENG_CLEAN e) 0
      | none => setEng e 0 s)
  else s)

/-- SHADOW_PROMOTE (R158): after 1,000 consecutive clean compares the shadow becomes standby. -/
def execShadowPromote (e : Nat) (s : State) : Ans := awake .metrology s <|
  .next (if e < 2 ∧ engSt s e = 5 ∧ 1000 ≤ s.get (Fd.PTS_ENG_CLEAN e) then
    plannedTest false ((setEng e 1 { s with pts := { s.pts with cleanRun := s.get (Fd.PTS_ENG_CLEAN e) } }).raise Fd.PTS_EVT_REJOIN)
  else s)

/-- SHADOW_TIMEOUT (R159). -/
def execShadowTimeout (e : Nat) (s : State) : Ans := awake .metrology s <|
  .next (if e < 2 ∧ engSt s e = 5 ∧ 60000 ≤ (rail s e).shadow ∧ s.get (Fd.PTS_ENG_CLEAN e) < 1000 then
    (engFault e 5 s).raise Fd.PTS_EVT_SHADOWTO
  else s)

/-- TRIAL_START (R161): a host write of PTS_CTL.TRIAL with 1. -/
def execTrialStart (p : Path) (s : State) : Ans := .next (hostOwn p 2 (toIsland .metrology trialBegin) s)

/-- TRIAL_END (R161): a host write of PTS_CTL.TRIAL with 0. -/
def execTrialEnd (p : Path) (s : State) : Ans := .next (hostOwn p 2 (toIsland .metrology trialStop) s)

/-- TRIAL_MAX_EXPIRY (R161): the trial has reached TRIAL_MAX. -/
def execTrialMaxExpiry (s : State) : Ans := awake .metrology s <| .next (trialStop s)

/-- MISMATCH_COUNT_CLEAR (R164): a host write of PTS_CTL.CLRMISM. -/
def execMismatchCountClear (p : Path) (s : State) : Ans := .next (hostOwn p 1 (toIsland .metrology clearMism) s)

end Sys2Proof.Machine
end

