-- ==== Sys2Proof/Machine/Billing.lean ====
section
/-!
DEFINITION. The billing pipeline (spec/05_billing_registers.md R165 to R206; spec/06_billing_time_events.md R215 to R225): attribution,
rollback, the commit of a second and the events due at its end.
-/
namespace Sys2Proof.Machine

/-- What a classification of R166 adds to the 11 quantities of R165 for one active, reactive and apparent increment. -/
def classify (a r ap : Int) : List Nat :=
  let q := quadrant a r
  let at_ := fun (i : Nat) (v : Nat) => setNth (List.replicate 11 0) i v
  let add := List.zipWith (· + ·)
  add (at_ (if 0 ≤ a then 0 else 1) a.natAbs) (add (at_ (1 + q) r.natAbs) (at_ (if 0 ≤ a then 6 else 7) ap.natAbs))

/-- What a DC channel adds (R165, R166). -/
def classifyDc (c l : Int) : List Nat :=
  let n := List.replicate 11 0
  setNth (if 0 < c then setNth n 8 c.natAbs else if c < 0 then setNth n 9 c.natAbs else n) 10 l.natAbs

/-- The amounts of a record (R166, R168): channels that carry MISSING add zero, as their words are zero. -/
def amounts (s : State) (r : Rec) : List Nat :=
  let w := fun i => nth r.words i 0
  let add := List.zipWith (· + ·)
  let ac := if s.parN Par.SUMMODE = 0 then classify (w 0 + w 1 + w 2) (w 3 + w 4 + w 5) (w 6 + w 7 + w 8)
    else add (classify (w 0) (w 3) (w 6)) (add (classify (w 1) (w 4) (w 7)) (classify (w 2) (w 5) (w 8)))
  add ac (add (classifyDc (w 9) (w 11)) (classifyDc (w 10) (w 12)))

/-- An accumulator (R167): quantity q, slot r. -/
def accOf (s : State) (q r : Nat) : Nat := nth s.bil.acc (17 * q + r) 0

/-- A register in mWh (R167). -/
def energyOf (s : State) (q r : Nat) : Nat := accOf s q r / 1000000

/-- The provisional total of a quantity, in mWh (R185). -/
def provOf (s : State) (q : Nat) : Nat :=
  (accOf s q 0 + (s.bil.pend.map (fun e => nth (amounts s e.rcd) q 0)).sum) / 1000000

/-- The blocks per second of R174, rounded: over the last 64 committed seconds, 1,000 before there are 64. -/
def blocksPerSecond (s : State) : Nat := if s.bil.blkWin.length < 64 then 1000 else ((s.bil.blkWin.take 64).sum + 32) / 64

/-- The second a record is attributed to (R174, R179): the second of the last tick before the projected boundary, later seconds
beyond it. While intake runs to its stop after a power failure, the unfinished second (R181). -/
def projectSec (s : State) (blk : Nat) : Nat :=
  let first := s.bil.curFirst.getD blk
  s.bil.tickSec + (blk + 2 ^ 32 - first) % 2 ^ 32 / max 1 (blocksPerSecond s)

/-- The rate shown for the newest attributed block and the count of pending entries (BIL_STAT). -/
def showPend (s : State) : State :=
  let t := s.put Fd.BIL_STAT_PEND s.bil.pend.length
  match s.bil.pend.getLast? with
  | some e => t.put Fd.BIL_STAT_RATE e.rate
  | none => t

/-- A record attributed (R175, R179). -/
def attrRecord (r : Rec) (s : State) : State :=
  let t := { s with bil := { s.bil with curFirst := some (s.bil.curFirst.getD r.blk), began := true } }
  let sec := if t.pfw then t.bil.tickSec else projectSec t r.blk
  let e : Pend := ⟨r, sec, false, rateAt t sec, t.get Fd.BIL_TTGEN_ACTIVE⟩
  showPend { t with bil := { t.bil with pend := t.bil.pend ++ [e] } }

/-- An entry attributed again (R179). -/
def reattribute (s : State) (e : Pend) : Pend := { e with rate := rateAt s e.sec, gen := s.get Fd.BIL_TTGEN_ACTIVE }

/-- A rollback from the first entry that a test holds of to the newest (R179): rates and generations change, amounts do not. -/
def rollback (p : Pend → Bool) (s : State) : State :=
  if s.bil.pend.any p then
    let keep := s.bil.pend.takeWhile (fun e => !p e)
    let redo := (s.bil.pend.dropWhile (fun e => !p e)).map (reattribute s)
    showPend ((({ s with bil := { s.bil with pend := keep ++ redo } }).bump Fd.BIL_ROLLCNT_ROLLBACKS).raise Fd.BIL_EVT_ROLLBACK)
  else s

/-- The entries read since the last tick confirmed as its second (R173, R179): rolled back from the first whose rate differs, the
others relabelled. -/
def confirm (s : State) : State :=
  let sec := s.bil.tickSec
  let rate := rateAt s sec
  let differs := s.bil.pend.any (fun e => !e.confirmed && e.rate != rate)
  let fix := fun (e : Pend) => if e.confirmed then e else { e with sec := sec, confirmed := true }
  let t := { s with bil := { s.bil with pend := s.bil.pend.map fix, due := if s.bil.began then s.bil.due ++ [sec] else s.bil.due } }
  if differs then rollback (fun e => e.sec == sec && e.confirmed && e.rate != rate) t else t

/-- The length of a demand subinterval in seconds (R188). -/
def subLen (s : State) : Nat := s.parN Par.DMD_PER * 60 / max 1 (s.parN Par.DMD_SUB)

/-- The length of a load profile 1 interval in seconds. -/
def lp1Len (s : State) : Nat := s.parN Par.LP1_PER * 60

/-- The quantities of demand (R188). -/
def dmdQty (d : Nat) : Nat := ([0, 1, 6, 7, 8, 9] : List Nat).getD d 0

/-- A demand average (R189), in 0.1 W, of an energy in nWh. -/
def dmdAverage (s : State) (e : Rat) : Nat := (Exact.nearest (e * 36 / 1000000 / ((s.parN Par.DMD_PER * 60 : Nat) : Rat))).toNat

/-- What a subinterval contributes (R217): one longer than its nominal length counts in proportion. -/
def subShare (s : State) (e : Nat) (secs : Nat) : Rat :=
  if subLen s < secs then (e : Rat) * (subLen s : Rat) / (secs : Rat) else e

/-- The energy of quantity d over the last DMD_SUB subintervals, the running one included. -/
def dmdEnergy (s : State) (d : Nat) : Rat :=
  subShare s (nth s.bil.dmd.energy d 0) s.bil.dmd.secs
    + Exact.sum ((s.bil.dmd.past.take (s.parN Par.DMD_SUB - 1)).map (fun p => nth p d 0))

/-- BIL_DMDCUR brought up to date (R189). -/
def showDemand (s : State) : State := upTo 6 (fun d t => t.setRegN (Reg.BIL_DMDCUR d) (dmdAverage s (dmdEnergy s d))) s

/-- One maximum replaced when the average is larger (R190). -/
def dmdMax (d r v endT : Nat) (s : State) : State :=
  if s.regN (Reg.BIL_DMDMAX d r) < v then (s.setRegN (Reg.BIL_DMDMAX d r) v).setRegN (Reg.BIL_DMDMAXT d r) endT else s

/-- Demand closes (R189, R190) at a second whose rate is given. -/
def demandClose (sec rate : Nat) (s : State) : State :=
  let t := upTo 6 (fun d t =>
    let v := dmdAverage s (dmdEnergy s d)
    dmdMax d rate v (sec + 1) (dmdMax d 0 v (sec + 1) (t.setRegN (Reg.BIL_DMDLAST d) v))) s
  let share := (List.range 6).map (fun d => subShare s (nth s.bil.dmd.energy d 0) s.bil.dmd.secs)
  showDemand { t with bil := { t.bil with dmd := ⟨sec + 1, 0, List.replicate 6 0, (share :: s.bil.dmd.past).take 15, false⟩ } }

/-- A captured value (R192). -/
def capture (s : State) (item : Nat) : Int :=
  let q := (item - 0x1000) / 32
  let r := (item - 0x1000) % 32
  if 0x1000 ≤ item ∧ item < 0x1160 ∧ r ≤ 16 then (energyOf s q r : Int)
  else if 0x2000 ≤ item ∧ item ≤ 0x2005 then (s.regN (Reg.BIL_DMDLAST (item - 0x2000)) : Int)
  else if item = 0x3000 then s.regI (Reg.MTR_P 3)
  else if item = 0x3001 then (s.regN (Reg.MTR_S 3) : Int)
  else if item = 0x3002 ∨ item = 0x3003 then s.regI (Reg.MTR_PCONN (item - 0x3002))
  else if 0x3010 ≤ item ∧ item ≤ 0x3012 then (s.regN (Reg.MTR_URMS (item - 0x3010)) : Int)
  else if item = 0x4000 then s.bil.credit
  else 0

/-- The counts of profile entries shown (BIL_LPCNT). -/
def showProfiles (s : State) : State :=
  (s.put Fd.BIL_LPCNT_LP1 s.bil.lp1.length).put Fd.BIL_LPCNT_LP2 s.bil.lp2.length

/-- Unsigned session Waybills held. -/
def unsignedSess (s : State) : Nat := (s.bil.unsigned.filter (·.kind == 1)).length

/-- The Waybill store shown (BIL_WBUNS, WBFULL). -/
def showWaybills (s : State) : State :=
  (s.put Fd.BIL_WBUNS_WAITING s.bil.unsigned.length).putB Fd.BIL_STAT_WBFULL (decide (4095 ≤ unsignedSess s))

/-- An interval Waybill skipped (R204). -/
def wbSkip (s : State) : State :=
  logWrite 0x000A 0 (s.regN Reg.BIL_WBSEQ) ((s.bump Fd.BIL_WBUNS_SKIPPED).raise Fd.BIL_EVT_WBSKIP)

/-- The Waybill just being issued: the next SEQ, and the header fields fixed at its commit (R201, R204). -/
def wbMake (kind status tStart tEnd blkEnd rate : Nat) (body : List Byte) (s : State) : Waybill :=
  ⟨kind, s.regN Reg.BIL_WBSEQ + 1, status, tStart, tEnd, s.get Fd.BIL_TTGEN_ACTIVE, tzAt s tEnd, blkEnd, rate, body, 0, 0, 0, []⟩

/-- A Waybill put into the unsigned store, its SEQ reserved (R204). -/
def wbStore (w : Waybill) (s : State) : State :=
  showWaybills ({ s with bil := { s.bil with unsigned := s.bil.unsigned ++ [w] } }.setRegN Reg.BIL_WBSEQ w.seq)

/-- The oldest unsigned interval Waybill discarded for a session Waybill (R204). -/
def wbMakeRoom (s : State) : State :=
  if s.bil.unsigned.length < 4096 then s
  else if s.bil.unsigned.any (fun w => w.kind == 2) then
    wbSkip { s with bil := { s.bil with unsigned := s.bil.unsigned.eraseP (fun w => w.kind == 2) } }
  else s

/-- The interval Waybill of a load profile 1 capture (R199, R202, R204). -/
def intervalWaybill (status tStart tEnd blkEnd rate : Nat) (s : State) : State :=
  if s.parB Par.WB_INTERVAL then
    if 4032 ≤ s.bil.unsigned.length then wbSkip s
    else
      let body := (List.range 11).flatMap (fun q => Bits.leBytes 8 (energyOf s q 0))
      wbStore (wbMake 2 status tStart tEnd blkEnd rate body s) s
  else s

/-- A reading of an energy register, in mWh, from accumulators taken at a session's start. -/
def readingOf (x : SessBill) (q r : Nat) : Nat := nth x.reading (17 * q + r) 0 / 1000000

/-- The body of a session Waybill (R203). -/
def sessionBody (x : SessBill) (s : State) : List Byte :=
  let regs := fun (f : Nat → Nat) => [0, 1, 8, 9].flatMap (fun q => Bits.leBytes 8 (f q))
  let imp := (List.range 16).flatMap (fun i =>
    Bits.leBytes 8 (energyOf s 0 (i + 1) - readingOf x 0 (i + 1) + (energyOf s 8 (i + 1) - readingOf x 8 (i + 1))))
  Bits.leBytes 8 x.id ++ (List.range 16).map (fun i => nth x.authRef i 0) ++ Bits.leBytes 1 x.authSrc ++ Bits.leBytes 1 x.reason
    ++ Bits.leBytes 2 0 ++ regs (fun q => readingOf x q 0) ++ regs (fun q => energyOf s q 0) ++ imp
    ++ Bits.leBytes 8 (if s.parB Par.PREPAY_EN then x.debit else 0)

/-- The session Waybills of sessions that ended in the committed second (R199, R220 order 4). -/
def sessionWaybills (sec blkEnd rate : Nat) (s : State) : State :=
  let ended := s.bil.sess.filter (fun x => x.ended && x.taken && decide (x.endSec ≤ sec))
  let t := ended.foldl (fun t x =>
    let t := wbMakeRoom t
    wbStore (wbMake 1 x.status x.startSec sec blkEnd rate (sessionBody x t) t) t) s
  { t with bil := { t.bil with sess := t.bil.sess.filter (fun x => !(x.ended && x.taken && decide (x.endSec ≤ sec))) } }

/-- The energy registers, maximum demands and credit as a history entry (R191). -/
def periodEntry (sec status : Nat) (s : State) : PeriodEntry :=
  ⟨sec + 1, status, s.bil.acc, (List.range 102).map (fun i => s.regN (Reg.BIL_DMDMAX (i / 17) (i % 17))),
    (List.range 102).map (fun i => s.regN (Reg.BIL_DMDMAXT (i / 17) (i % 17))), s.bil.credit⟩

/-- A billing period end (R191). -/
def periodEnd (sec status : Nat) (s : State) : State :=
  let src := if s.bil.endNow then 1 else 0
  let t := { s with bil := { s.bil with history := (periodEntry sec status s :: s.bil.history).take 12, periods := s.bil.periods + 1,
                                        endNow := false } }
  let u := upTo 6 (fun d u => upTo 17 (fun r v => v.setRegN (Reg.BIL_DMDMAX d r) 0) u) t
  logPut (u.regN Reg.BTM_TIME) 0x0004 src u.bil.periods status u

/-- The credit state of R197. -/
def creditState (s : State) : Nat :=
  let c := s.bil.credit
  if !s.parB Par.PREPAY_EN then 0
  else if (s.parN Par.LOW_CREDIT * 10000 : Nat) < c then 1
  else if 0 < c then 2
  else if -((s.parN Par.EMERG_CREDIT * 10000 : Nat) : Int) < c then 3
  else 4

/-- The credit as a log entry's data: 0.01 currency, signed. -/
def creditData (s : State) : Int := Exact.toInt ((s.bil.credit : Rat) / 10000)

/-- The credit state evaluated at a commit (R197), the second's action being FRIENDLY or not: events on entry, the prepayment
request issued or withdrawn (bit 8 of BIL_DISC). -/
def creditUpdate (friendly : Bool) (s : State) : State :=
  let old := s.get Fd.BIL_STAT_CRSTATE
  let st := creditState s
  let t := s.put Fd.BIL_STAT_CRSTATE st
  let t := if st ≠ old ∧ (st = 2 ∨ st = 3) then logWrite 0x0005 0 (creditData t) (t.raise Fd.BIL_EVT_CRLOW) else t
  let t := if st ≠ old ∧ st = 4 then logWrite 0x0006 0 (creditData t) (t.raise Fd.BIL_EVT_CREXH) else t
  let t := if st = 4 ∧ !friendly then t.putBit Reg.BIL_DISC 8 true else t
  if st ≠ 0 ∧ ((s.parN Par.RECONNECT * 10000 : Nat) : Int) < t.bil.credit then t.putBit Reg.BIL_DISC 8 false else t

/-- The import that PREPAY_QTY selects (R196). -/
def prepayQty (s : State) (sums : List Nat) : Nat :=
  match s.parN Par.PREPAY_QTY with
  | 0 => nth sums 0 0
  | 1 => nth sums 8 0
  | _ => nth sums 0 0 + nth sums 8 0

/-- Credit transfers due at the commit (R198, R221). -/
def applyTransfers (s : State) : State :=
  s.bil.transfers.foldl (fun t x => logWrite 0x0007 x.2.2 x.2.1
    (({ t with bil := { t.bil with credit := t.bil.credit + x.1 } }).raise Fd.BIL_EVT_TOPUP)) { s with bil := { s.bil with transfers := [] } }

/-- The prepayment debit (R196), its remainder carried, and the debit of the sessions under way. -/
def prepayDebit (sums : List Nat) (rate : Nat) (s : State) : State :=
  if s.parB Par.PREPAY_EN then
    let v := prepayQty s sums * s.parN (Par.PRICE rate) + s.bil.carry
    let d : Nat := v / 10 ^ 12
    { s with bil := { s.bil with credit := s.bil.credit - (d : Int), carry := v % 10 ^ 12,
                                 sess := s.bil.sess.map (fun x => if x.taken then { x with debit := x.debit + d } else x) } }
  else s

/-- BIL_CREDIT shown. -/
def showCredit (s : State) : State :=
  let v := Bits.ofInt 64 s.bil.credit
  (s.setRegN (Reg.BIL_CREDIT 0) v).setRegN (Reg.BIL_CREDIT 1) (v / 2 ^ 32)

/-- The generation a table takes when it becomes active (R172). -/
def nextGen (s : State) : Nat := if s.get Fd.BIL_TTGEN_ACTIVE = 65535 then 1 else s.get Fd.BIL_TTGEN_ACTIVE + 1

/-- The passive table becomes active from a second (R172), and the pending blocks from that second are rolled back. -/
def activate (sec : Nat) (s : State) : State :=
  match s.bil.passive with
  | none => s
  | some t =>
    let g := nextGen s
    let u := { s with bil := { s.bil with active := some t, passive := none } }
    let u := (((u.put Fd.BIL_TTGEN_ACTIVE g).put Fd.BIL_TTGEN_PASSIVE 0).lower Fd.BIL_STAT_PASSIVE).raise Fd.BIL_EVT_TTACT
    logWrite 0x0001 0 g (rollback (fun e => decide (sec ≤ e.sec)) (markSec sec 64 (u.setRegN Reg.BIL_TTACT 0)))

/-- The first second not yet committed (R172). -/
def firstOpen (s : State) : Nat := s.bil.due.headD s.bil.tickSec

/-- A table submitted (R170, R172): rejected, or passive, and active at once when its second has been reached. src is its source (R231). -/
def submitTable (src : Nat) (t : Tariff) (s : State) : Bool × State :=
  if tariffOk t then
    let u := ({ s with bil := { s.bil with passive := some t } }.put Fd.BIL_TTGEN_PASSIVE (nextGen s)).raise Fd.BIL_STAT_PASSIVE
    let u := u.setRegN Reg.BIL_TTACT t.activation
    (true, if t.activation ≤ firstOpen u then activate (firstOpen u) u else u)
  else (false, logWrite 0x0002 src 0 (s.raise Fd.BIL_EVT_TTREJ))

/-- A profile's running interval takes a committed second. -/
def runAdd (sec status blk : Nat) (r : ProfRun) : ProfRun :=
  ⟨if r.begun then r.start else sec, r.status ||| status, r.secs + 1, true, blk⟩

/-- The status of a closing interval (R195): SHORT when its committed seconds differ from the nominal length. -/
def runStatus (len : Nat) (r : ProfRun) : Nat := r.status ||| (if r.secs = len then 0 else 4)

/-- Load profile 1 captures (R193), and its interval Waybill follows in its order (R220). -/
def captureLp1 (endT status : Nat) (s : State) : State :=
  let e : ProfEntry := ⟨endT, status, (List.range 16).map (fun i => capture s (s.parN (Par.LP1_CAP i)))⟩
  showProfiles { s with bil := { s.bil with lp1 := (e :: s.bil.lp1).take 40960, run1 := .none } }

/-- Load profile 2 captures (R194). -/
def captureLp2 (endT status : Nat) (s : State) : State :=
  let e : ProfEntry := ⟨endT, status, (List.range 32).map (fun i => capture s (s.parN (Par.LP2_CAP i)))⟩
  showProfiles { s with bil := { s.bil with lp2 := (e :: s.bil.lp2).take 3700, run2 := .none } }

/-- Whether a second is the last before a billing period's end (R191). -/
def periodDue (s : State) (sec : Nat) : Bool :=
  let t := localTime s (sec + 1)
  s.parN Par.BILLDAY != 0 && t % 86400 == 0 && (dateOf (t / 86400)).day == s.parN Par.BILLDAY

/-- Whether a second ends 23:59:59 local (R194). -/
def dayEnd (s : State) (sec : Nat) : Bool := localTime s sec % 86400 == 86399

/-- Interval-boundary parameters other than corrections that the closing interval's boundary brings into force (R206). -/
def applyNext (s : State) : State :=
  { s.parNext.foldl (fun t e => t.setPar e.1 e.2) s with parNext := [] }

/-- What a commit carries into the events at its end: the second, its rate, its status, its last block. -/
structure CommitInfo where
  sec : Nat
  rate : Nat
  status : Nat
  blkEnd : Nat
  deriving DecidableEq, Repr

/-- The catch-up of events that lie in seconds skipped by a step (R217): a daily capture and a period end, once, with CADJ. Bits of catchUp: 1
daily capture, 2 period end, 8 CADJ, 16 no second has been committed since a start that follows earlier commits, 32 that start follows a loss
or failure of VSYS (R225). -/
def catchStatus (s : State) : Nat := if s.bil.catchUp.testBit 3 then 2 else 0

/-- The first second after a second that a grid of a length begins at, on the local standard grid (R188, R193). -/
def gridNext (s : State) (len sec : Nat) : Nat := sec + len - (localStd s sec % (len : Int)).toNat

/-- The second that a local day begins at, found from a second of another day. -/
def dayStart (s : State) (sec : Nat) (day : Int) : Nat :=
  let c := ((sec : Int) - (localTime s sec - day * 86400)).toNat
  ((c : Int) - (localTime s c - day * 86400)).toNat

/-- The last midnight that a period ends at among those after one local day and up to another, the day of a second (R191, R217, R225). -/
def periodBetween (s : State) (fromDay toDay : Int) (sec : Nat) : Option Nat :=
  if s.parN Par.BILLDAY = 0 then none
  else ((List.range (min (toDay - fromDay).toNat 62)).find? (fun (i : Nat) => (dateOf (toDay - (i : Int))).day == s.parN Par.BILLDAY)).map
    (fun (i : Nat) => dayStart s sec (toDay - (i : Int)))

/-- The demand subinterval that ran at a failure closes, when its end lies in the outage (R189, R225); the subintervals wholly within the outage
count as zero. -/
def lateDemand (sec : Nat) (s : State) : State :=
  let len := subLen s
  let e := gridNext s len s.bil.dmd.start
  if s.bil.dmd.begun ∧ e ≤ sec then
    let t := demandClose (s.regN Reg.BIL_COMMITSEC) s.bil.lastRate s
    let zeros := List.replicate (min 15 ((sec - e) / max 1 len)) (List.replicate 6 (0 : Rat))
    { t with bil := { t.bil with dmd := { t.bil.dmd with past := (zeros ++ t.bil.dmd.past).take 15 } } }
  else s

/-- The load profile 1 interval that ran at a failure is captured with its grid end time (R225), and its Waybill issued. -/
def lateLp1 (sec pdn : Nat) (s : State) : State :=
  let r := s.bil.run1
  let e := gridNext s (lp1Len s) r.start
  if r.begun ∧ e ≤ sec then
    let st := r.status ||| pdn ||| 4
    intervalWaybill st r.start (s.regN Reg.BIL_COMMITSEC) r.blk s.bil.lastRate (captureLp1 e st s)
  else s

/-- Daily captures and period ends that lie in an outage: one, for the last day passed (R225). -/
def lateDay (sec pdn : Nat) (s : State) : State :=
  let a := localTime s (s.regN Reg.BIL_COMMITSEC + 1) / 86400
  let b := localTime s sec / 86400
  let mid := sec - (localTime s sec % 86400).toNat
  if a < b ∧ s.regN Reg.BTM_HWS + 1 < mid then
    let t := captureLp2 mid (runStatus 86400 s.bil.run2 ||| pdn) s
    match periodBetween s a b sec with
    | some m => periodEnd (m - 1) pdn t
    | none => t
  else s

/-- What the first commit after a start does before it takes its second (R225): the intervals that run on carry PDN when VSYS was lost. -/
def lateEvents (sec : Nat) (s : State) : State :=
  if s.bil.catchUp.testBit 4 then
    let pdn := if s.bil.catchUp.testBit 5 then 1 else 0
    let t := lateDay sec pdn (lateLp1 sec pdn (lateDemand sec s))
    { t with bil := { t.bil with run1 := { t.bil.run1 with status := t.bil.run1.status ||| pdn },
                                 run2 := { t.bil.run2 with status := t.bil.run2.status ||| pdn } } }
  else s

/-- The end times of a daily capture and of a period end at the commit of a second: those that lie in seconds skipped by a step keep their own
midnight (R217). -/
def catchTimes (sec : Nat) (s : State) : Nat × Nat :=
  let now := s.regN Reg.BTM_TIME
  let b := localTime s now / 86400
  (if s.bil.catchUp.testBit 0 then dayStart s now b else sec + 1,
    if s.bil.catchUp.testBit 1 then (periodBetween s (localTime s (sec + 1) / 86400) b now).getD (sec + 1) else sec + 1)

/-- The events due at the end of a committed second, in the order of R220. A second at or below hws, the high-water second before
this commit, repeats no event (R216). split: the second is followed by a clock step, and intervals it does not end are closed (R215). A partial second closes its intervals with SHORT (R222). -/
def secondEvents (c : CommitInfo) (hws : Nat) (split : Bool) (s : State) : State :=
  let fresh := decide (hws < c.sec)
  let dEnd := gridEnd s (subLen s) c.sec && fresh
  let iEnd := gridEnd s (lp1Len s) c.sec && fresh
  let s1 := if dEnd || split then demandClose c.sec c.rate s else s
  let cut := if c.status.testBit 0 then 4 else 0
  let st1 := runStatus (lp1Len s) s1.bil.run1 ||| (if split && !iEnd then 6 else 0) ||| cut
  let start1 := s1.bil.run1.start
  let s2 := if iEnd || split then captureLp1 (c.sec + 1) st1 s1 else s1
  let late := catchStatus s
  let (lpAt, endAt) := catchTimes c.sec s
  let s3 := if (dayEnd s c.sec && fresh) || s.bil.catchUp.testBit 0 then
      captureLp2 lpAt (runStatus 86400 s2.bil.run2 ||| late ||| cut) s2 else s2
  let s4 := if (periodDue s c.sec && fresh) || s.bil.catchUp.testBit 1 || s.bil.endNow then
      periodEnd (endAt - 1) ((c.status ||| late) % 512) s3 else s3
  let s5 := if iEnd || split then intervalWaybill st1 start1 c.sec c.blkEnd c.rate s4 else s4
  let s6 := sessionWaybills c.sec c.blkEnd c.rate s5
  let s7 := match s6.bil.passive with
    | some t => if t.activation ≤ c.sec + 1 then activate (c.sec + 1) s6 else s6
    | none => s6
  let s8 := if iEnd || split then applyNext s7 else s7
  { s8 with bil := { s8.bil with catchUp := 0 } }

/-- Blocks of a second that carry some flag bits. -/
def countFlag (es : List Pend) (p : Rec → Bool) : Nat := (es.filter (fun e => p e.rcd)).length

/-- The commit of a second whose entries are given (R177; a second without entries carries MISS, R644): accumulators, demand, debit and credit state, the journal entry with the
next commit number, the committed view, the commit mark, and the events of R220. -/
def commitTake (sec : Nat) (es : List Pend) (extra : Nat) (split : Bool) (s : State) : State :=
  let status := secStatus s sec ||| extra ||| (if es.isEmpty then 16 else 0)
  let sums := es.foldl (fun a e => List.zipWith (· + ·) a (amounts s e.rcd)) (List.replicate 11 0)
  let (rate, friendly, fell) := rateOf s sec
  let hws := s.regN Reg.BTM_HWS
  let taken := s.bil.sess.map (fun x => if !x.taken && x.startSec == sec then { x with taken := true, reading := s.bil.acc } else x)
  let acc := (List.range 187).map (fun i =>
    nth s.bil.acc i 0 + (if i % 17 = 0 then nth sums (i / 17) 0
      else (es.map (fun e => if e.rate = i % 17 then nth (amounts s e.rcd) (i / 17) 0 else 0)).sum))
  let d := s.bil.dmd
  let blkEnd := match es.getLast? with | some e => e.rcd.blk | none => s.regN Reg.MTR_BLKCNT
  let dmd : DemandRun := ⟨if d.begun then d.start else sec, d.secs + 1, (List.range 6).map (fun i => nth d.energy i 0 + nth sums (dmdQty i) 0),
    d.past, true⟩
  let b := { s.bil with acc := acc, dmd := dmd, lastRate := rate, pend := s.bil.pend.drop es.length, due := s.bil.due.erase sec,
                        blkWin := (es.length :: s.bil.blkWin).take 64, marks := s.bil.marks.filter (fun m => m.1 != sec),
                        run1 := runAdd sec status blkEnd s.bil.run1,
                        run2 := runAdd sec status blkEnd s.bil.run2,
                        sess := taken.map (fun x => if x.taken then { x with status := x.status ||| status } else x) }
  let t := creditUpdate friendly (prepayDebit sums rate (applyTransfers { s with bil := b }))
  let miss := countFlag es (fun r => r.flags / 32 % 32 != 0)
  let est := countFlag es (fun r => r.flags % 32 != 0)
  let t := if 0 < miss then logPut sec 0x000B 0 miss status ((t.bumpReg Reg.BIL_MISSCNT miss).raise Fd.BIL_EVT_MISSING) else t
  let t := if 0 < est then logPut sec 0x000C 0 est status ((t.bumpReg Reg.BIL_ESTCNT est).raise Fd.BIL_EVT_ESTIM) else t
  let t := if fell then logPut sec 0x0003 0 (localTime s sec % 86400) status (t.raise Fd.BIL_EVT_CALERR) else t
  let t := ((t.setRegN Reg.BIL_COMMIT (s.regN Reg.BIL_COMMIT + 1)).setRegN Reg.BIL_COMMITSEC sec).setRegN Reg.BTM_HWS (max hws sec)
  let t := showPend (showCredit (showDemand t))
  let t := match es.getLast? with | some e => { t with x01 := t.x01 ++ [e.rcd.blk] } | none => t
  secondEvents ⟨sec, rate, status, blkEnd⟩ hws split t

/-- The commit of a second (R177, R225). -/
def commitSecond (sec : Nat) (es : List Pend) (extra : Nat) (split : Bool) (s : State) : State :=
  commitTake sec es extra split (lateEvents sec s)

/-- The entries of the oldest second that is due. -/
def dueEntries (s : State) (sec : Nat) : List Pend := s.bil.pend.takeWhile (fun e => e.confirmed && e.sec == sec)

/-- Whether a due commit is held shown (R176). -/
def showHold (s : State) : State := s.putB Fd.BIL_STAT_HOLD (decide (1 < s.bil.due.length))

/-- The oldest due second committed (R176), unless the register set is lost (R647). -/
def commitDue (extra : Nat) (split : Bool) (s : State) : State :=
  match s.bil.due with
  | [] => s
  | sec :: _ => if s.on Fd.SYS_FLT_BILLOST then s else showHold (commitSecond sec (dueEntries s sec) extra split s)

/-- A forced commit (R182): the oldest confirmed second, or the oldest 1,000 entries at their projected time. -/
def forcedCommit (s : State) : State :=
  let note := fun (n : Nat) (t : State) => logWrite 0x0008 0 n ((t.bump Fd.BIL_ROLLCNT_FORCED).raise Fd.BIL_EVT_FORCED)
  match s.bil.due with
  | sec :: _ => note (dueEntries s sec).length (commitDue 256 false s)
  | [] =>
    match s.bil.pend with
    | [] => s
    | e :: _ => note (min 1000 s.bil.pend.length) (commitSecond e.sec (s.bil.pend.take 1000) 384 false s)

/-- A record taken from X00 (R175, R179, R181, R182); while the register set is lost, nothing is committed and an entry beyond 4,096 is
discarded (R647). -/
def takeRecord (s : State) : State :=
  match s.x00 with
  | [] => s
  | r :: rs =>
    let t := { s with x00 := rs }
    if t.bil.stopped then ({ t with bil := { t.bil with lost := t.bil.lost + 1 } }).raise Fd.BIL_EVT_PFLOSS
    else
      let u := attrRecord r t
      if s.on Fd.SYS_FLT_BILLOST then
        if 4096 < u.bil.pend.length then
          ({ u with bil := { u.bil with pend := u.bil.pend.take 4096, lost := u.bil.lost + 1 } }).raise Fd.BIL_EVT_PFLOSS
        else u
      else if 4096 ≤ u.bil.pend.length then forcedCommit u
      else u

/-- A session's start told to billing (R199): its reading is taken at the commit of its start second. -/
def billSessionStart (id sec : Nat) (s : State) : State :=
  { s with bil := { s.bil with sess := s.bil.sess ++ [⟨id, sec, false, [], 0, 0, false, 0, 0, [], 0⟩] } }

/-- A session's end told to billing (R199). -/
def billSessionEnd (id sec reason authSrc : Nat) (authRef : List Byte) (s : State) : State :=
  { s with bil := { s.bil with sess := s.bil.sess.map (fun x => if x.id == id && !x.ended then
      { x with ended := true, endSec := sec, reason := reason, authSrc := authSrc, authRef := authRef } else x) } }

/-- The registers of the committed view that a freeze covers (R184, R187), with what they read. -/
def viewWords (s : State) : List (Nat × Word) :=
  ((List.range 187).flatMap (fun i =>
    [(Reg.BIL_ENERGY (i / 17) (i % 17) 0, BitVec.ofNat 32 (energyOf s (i / 17) (i % 17))),
     (Reg.BIL_ENERGY (i / 17) (i % 17) 1, BitVec.ofNat 32 (energyOf s (i / 17) (i % 17) / 2 ^ 32))]))
  ++ ((List.range 12).map (fun i => Reg.BIL_DMDCUR 0 + (if i < 6 then 4 * i else 32 + 4 * (i - 6)))
    ++ (List.range 102).map (fun i => Reg.BIL_DMDMAX 0 0 + 4 * i) ++ (List.range 102).map (fun i => Reg.BIL_DMDMAXT 0 0 + 4 * i)
    ++ [Reg.BIL_CREDIT 0, Reg.BIL_CREDIT 1]).map (fun a => (a, s.reg a))

/-- A freeze of the host's view (R187). -/
def viewSnap (s : State) : State :=
  ({ s with bil := { s.bil with frozen := viewWords s } }.raise Fd.BIL_STAT_SNAPON).setReg Reg.BIL_SNAPNUM (s.reg Reg.BIL_COMMIT)

/-- The view released (R187). -/
def viewRelease (s : State) : State :=
  ({ s with bil := { s.bil with frozen := [] } }.lower Fd.BIL_STAT_SNAPON).setRegN Reg.BIL_SNAPNUM 0

/-- A credit transfer (R198): accepted when its number exceeds the last. -/
def creditTransfer (amount : Int) (number src : Nat) (s : State) : Bool × State :=
  if s.regN Reg.BIL_TOPUP < number then
    (true, { s with bil := { s.bil with transfers := s.bil.transfers ++ [(amount, number, src)] } }.setRegN Reg.BIL_TOPUP number)
  else (false, logWrite 0x0007 src number (s.raise Fd.BIL_EVT_TOPREJ))

/-- BLOCK_RECORD_ATTRIBUTE (R179): the oldest record on X00 is read. -/
def execBlockRecordAttribute (s : State) : Ans := .next (takeRecord s)

/-- VIEW_SNAP (R187): a host write of BIL_CTL.SNAP. -/
def execViewSnap (p : Path) (s : State) : Ans := .next (hostOwn p 1 viewSnap s)

/-- VIEW_RELEASE (R187): a host write of BIL_CTL.REL. -/
def execViewRelease (p : Path) (s : State) : Ans := .next (hostOwn p 1 viewRelease s)

/-- VIEW_SNAP_TIMEOUT (R187): 10 s after the freeze. -/
def execViewSnapTimeout (s : State) : Ans := .next (viewRelease s)

/-- CREDIT_TRANSFER_RECEIVE (R198): src is 1 from the head-end, 2 from the host. -/
def execCreditTransferReceive (amount : Int) (number src : Nat) (s : State) : Ans := .next (creditTransfer amount number src s).2

end Sys2Proof.Machine
end

