-- ==== Sys2Proof/Machine/BillTime.lean ====
section
/-!
DEFINITION. The billing clock, its adjustment, the tamper inputs and the outage record (spec/06_billing_time_events.md R207 to R229).
-/
namespace Sys2Proof.Machine

/-- A parameter that takes effect at an interval boundary leaves the pending set for the Points (a correction, R132) or for the
commit that closes the interval (R206). -/
def sendPending (s : State) : State :=
  let corr := s.parPend.filter (fun e => isCorr e.1)
  let rest := s.parPend.filter (fun e => !isCorr e.1)
  { s with parPend := [], parNext := s.parNext ++ rest, corrSent := if corr.isEmpty then s.corrSent else some (s.corrSent.getD [] ++ corr) }

/-- The slew's progress over one second (R212): 200 ppm, a fifth of a ms. -/
def slewTick (s : State) : State :=
  let v := if 0 < s.btm.slew then s.btm.slew - 1 else if s.btm.slew < 0 then s.btm.slew + 1 else 0
  { s with btm := { s.btm with slew := v } }.setRegI Reg.BTM_SLEWREM (v.tdiv 5)

/-- A slew ended or abandoned (R212, R237). -/
def slewStop (s : State) : State :=
  ({ s with btm := { s.btm with slew := 0 } }.setRegI Reg.BTM_SLEWREM 0).lower Fd.BTM_STAT_SLEW

/-- The tick of the next second (R173, R179): the second before is confirmed, and a held step moves on with the clock (R214). A boundary in
seconds that a setback repeats begins no interval (R216). -/
def plainTick (s : State) : State :=
  let t := slewTick (confirm s)
  let sec := s.regN Reg.BTM_TIME + 1
  let held := t.btm.step.map (fun x => { x with target := x.target + 1 })
  let u := { t.setRegN Reg.BTM_TIME sec with bil := { t.bil with tickSec := sec, ticked := true, curFirst := none },
                                             btm := { t.btm with step := held } }
  showHold (if localStd u sec % (lp1Len u : Int) = 0 ∧ u.regN Reg.BTM_HWS + 1 < sec then sendPending u else u)

/-- The events that skipped seconds hold (R217), noted for the next commit. -/
def noteSkipped (fromSec toSec : Nat) (s : State) : State :=
  let a := localTime s fromSec / 86400
  let b := localTime s toSec / 86400
  let c := (if a < b then 1 else 0) + (if (periodBetween s a b toSec).isSome then 2 else 0)
  if c = 0 then s else { s with bil := { s.bil with catchUp := s.bil.catchUp ||| (c + 8) } }

/-- Every due second committed, oldest first; the last one with its intervals closed when a step follows (R215). -/
def commitAll (extra : Nat) (split : Bool) : Nat → State → State
  | 0, s => s
  | n + 1, s => commitAll extra split n (commitDue (if s.bil.due.length = 1 then extra else 0) (split && s.bil.due.length == 1) s)

/-- Every due second committed (R176). -/
def commitEvery (extra : Nat) (split : Bool) (s : State) : State := commitAll extra split s.bil.due.length s

/-- Intervals and sessions that run on after a step carry CADJ (R217, R218). -/
def markAdjusted (s : State) : State :=
  { s with bil := { s.bil with run1 := { s.bil.run1 with status := s.bil.run1.status ||| 2 },
                               run2 := { s.bil.run2 with status := s.bil.run2.status ||| 2 },
                               sess := s.bil.sess.map (fun x => { x with status := x.status ||| 2 }) } }

/-- A step at its tick (R214, R215, R217 to R219): the running second committed, its intervals split, the clock at the new second. -/
def applyStep (x : ClockStep) (s : State) : State :=
  let t := (confirm s).setRegN Reg.BTM_TIME x.target
  let t := commitAll 0 false (t.bil.due.length - 1) t
  let t := if s.bil.tickSec + 1 < x.target then noteSkipped (s.bil.tickSec + 1) x.target t else t
  let t := markAdjusted (slewStop (commitEvery 0 true t))
  let t := (t.setRegI Reg.BTM_LASTADJ x.delta).raise Fd.BTM_EVT_STEP
  let t := sendPending { t with bil := { t.bil with tickSec := x.target, ticked := true, curFirst := none },
                                btm := { t.btm with step := none } }
  let t := if x.lost then t else t.raise Fd.BTM_STAT_VALID
  let t := logWrite (if x.lost then 0x0104 else if x.reset then 0x0105 else 0x0101) x.source (if x.lost then (x.target : Int) - 1 else x.delta) t
  if x.reset then t.setRegN Reg.BTM_HWS (x.target - 1) else t

/-- Whether a step waits for a commit (R214). -/
def stepHeld (s : State) : Bool := s.on Fd.BIL_STAT_HOLD || s.on Fd.BIL_STAT_ROLLBACK

/-- The jump after a loss of the clock takes the value HWS + 1 at its second boundary (R219). -/
def jumpTo (s : State) (x : ClockStep) : ClockStep :=
  if x.lost then
    let target := s.regN Reg.BTM_HWS + 1
    { x with target := target, delta := (target : Int) - (s.regN Reg.BTM_TIME + 1 : Nat) }
  else x

/-- The tick that comes next: of the next second, or of a step's second in its place (R214); the jump after a loss of the clock is an ordinary
tick when no tick has been read since the start (R219). -/
def nextTick (s : State) : State :=
  match s.btm.step.map (jumpTo s) with
  | some x =>
    if x.lost && !s.bil.ticked then plainTick ({ s with btm := { s.btm with step := none } }.setRegN Reg.BTM_TIME (x.target - 1))
    else if stepHeld s && !x.lost then plainTick s else applyStep x s
  | none => plainTick s

/-- A signed quantity held within 32 bits (R232: saturating). -/
def sat32 (v : Int) : Int := if v < -2147483648 then -2147483648 else if 2147483647 < v then 2147483647 else v

/-- An adjustment refused (R213). -/
def refuseAdjust (src : Nat) (delta : Int) (s : State) : State := logWrite 0x0103 src (sat32 delta) (s.raise Fd.BTM_EVT_REFUSED)

/-- A step taken to be applied at a tick; it replaces one that waits (R214). -/
def takeStep (x : ClockStep) (s : State) : State :=
  let t := match s.btm.step with
    | some old => logWrite 0x0108 old.source (sat32 old.delta) s
    | none => s
  { t with btm := { t.btm with step := some x } }

/-- A slew started (R212): it replaces the slew that remains. -/
def startSlew (src : Nat) (ms : Int) (s : State) : State :=
  logWrite 0x0102 src ms (({ s with btm := { s.btm with slew := ms * 5 } }.setRegI Reg.BTM_SLEWREM ms).raise Fd.BTM_STAT_SLEW)

/-- An adjustment (R212, R213, R219): src 1 head-end, 2 host, 3 PTP; deltaMs its size to the millisecond; target the whole second it
names; reset a clock reset. -/
def clockAdjust (src : Nat) (deltaMs : Int) (target : Nat) (reset : Bool) (s : State) : State :=
  let d : Int := (target : Int) - (s.regN Reg.BTM_TIME + 1 : Nat)
  let hws := s.regN Reg.BTM_HWS
  if s.pfw then refuseAdjust src d s
  else if reset then takeStep ⟨d, target, src, true, false⟩ s
  else if !s.on Fd.BTM_STAT_VALID then takeStep ⟨d, target, src, decide (target < hws), false⟩ s
  else if deltaMs.natAbs ≤ s.parN Par.ADJ_LIM * 1000 then startSlew src deltaMs s
  else if src = 3 ∧ s.parN Par.PTP_DISC ≠ 2 then s.raise Fd.BTM_EVT_PTPDIFF
  else if 0 ≤ d ∨ hws ≤ target + s.parN Par.BACK_MAX then takeStep ⟨d, target, src, false, false⟩ s
  else refuseAdjust src d s

/-- A time set (R212): newMs is the new time in ms, frac the ms of the running second that have passed at its receipt. -/
def clockSet (src newMs frac : Nat) (reset : Bool) (s : State) : State :=
  clockAdjust src ((newMs : Int) - (s.regN Reg.BTM_TIME * 1000 + frac : Nat)) (newMs / 1000) reset s

/-- The total rate trim shown (R207, R208). -/
def showTrim (s : State) : State :=
  s.put Fd.BTM_TRIM_TOTAL (Bits.ofInt 16 (s.btm.tempTrim + Bits.signed 16 (s.get Fd.BTM_TRIM_LEARN)))

/-- Whether the supply is absent: from the save's outage start record until the next start (R223, R227). -/
def supplyAbsent (s : State) : Bool := s.btm.outage.isSome

/-- A recognised change of a tamper input (R226, R227, R233): logged, or buffered while the supply is absent; an opening may request a
disconnect (bit 11 of BIL_DISC). -/
def tamperChange (i : Nat) (isOpen : Bool) (s : State) : State :=
  let code := 0x0301 + 2 * i + (if isOpen then 0 else 1)
  let t := s.putB (if i = 0 then Fd.BTM_STAT_COVER else Fd.BTM_STAT_TERM) isOpen
  let t := t.raise (if i = 0 then Fd.BTM_EVT_COVER else Fd.BTM_EVT_TERM)
  let t := if isOpen then t.bump (if i = 0 then Fd.BTM_TAMPCNT_COVER else Fd.BTM_TAMPCNT_TERM) else t
  if supplyAbsent s then
    if t.btm.tampBuf.length < 32 then
      { t with btm := { t.btm with tampBuf := t.btm.tampBuf ++ [⟨t.regN Reg.BTM_TIME, code⟩] } }
    else { t.raise Fd.BTM_EVT_TBUFOVF with btm := { t.btm with tampLost := t.btm.tampLost + 1 } }
  else
    let u := logWrite code 4 0 t
    if isOpen && s.parB Par.DISC_ON_TAMP then u.putBit Reg.BIL_DISC 11 true else u

/-- One poll of a tamper input: a change is recognised when two polls in a row agree (R226); a disabled input reads closed. -/
def tamperPoll (i : Nat) (isOpen : Bool) (s : State) : State :=
  let v := isOpen && s.parB (Par.TAMP_EN i)
  let last := nth s.btm.polls i false
  let t := { s with btm := { s.btm with polls := setNth s.btm.polls i v } }
  if v == last && v != s.on (if i = 0 then Fd.BTM_STAT_COVER else Fd.BTM_STAT_TERM) then tamperChange i v t else t

/-- One outage burst (R228): the rms of roles 0 to 5 in mA. -/
def outageBurst (rms : List Nat) (s : State) : State :=
  match s.btm.outage with
  | none => s
  | some o =>
    if s.isF && s.parB Par.OUT_EN && !o.incomplete then
      let big := rms.foldl max 0
      let role := rms.findIdx (· == big)
      let with_ := rms.any (fun x => decide (s.parN Par.OUT_ITHR < x))
      let o := { o with secsWith := o.secsWith + (if with_ then 1 else 0), ampSec := o.ampSec + (rms.sum : Rat) / 1000,
                        largest := max o.largest big, role := if o.largest < big then role else o.role }
      { s with btm := { s.btm with outage := some o } }
    else s

/-- The correction set that the Points apply (R132): unchanged values change nothing; a new set is flagged and logged with the first
block under it. -/
def applyCorrections (s : State) : State :=
  match s.corrSent with
  | none => s
  | some p =>
    let old := corrInForce s
    let set := corrOver old p
    let t := { s with corrSent := none }
    if set = old then t
    else
      let u := p.foldl (fun v e => v.setPar e.1 e.2) t
      let u := upTo 2 (fun e v => modRail e (fun r => { r with eng := { r.eng with corrFlag := true } }) (railCorr set e v)) u
      logWrite 0x000D 0 ((u.regN Reg.MTR_BLKCNT + 1) % 2 ^ 32 : Nat) (u.raise Fd.MTR_EVT_CORRAPL)

/-- CORRECTION_SET_APPLY (R132): the pending set sent over X01 arrives at the Points. -/
def execCorrectionSetApply (s : State) : Ans := awake .metrology s <| .next (applyCorrections s)

/-- The temperature trim of R207 at a die temperature in 0.1 °C, in 0.01 ppm: minus the crystal's error by the model of R580. -/
def crystalTrim (s : State) (temp : Int) : Int :=
  let d := temp - s.par Par.XB_T0
  let e := Exact.toInt ((s.par Par.XB_OFS : Rat) + (s.par Par.XB_BETA : Rat) * ((d * d : Int) : Rat) / 1000)
  Int.neg e

/-- A die temperature in 0.1 °C measured by the Battery island (R580, R600, spec/26_electrical.md PWR_TEMP). -/
def dieMeasured (temp : Int) (s : State) : State :=
  let t := s.put Fd.PWR_TEMP_TDIE (Bits.ofInt 16 temp)
  let top := (min 255 (Exact.toInt ((temp : Rat) / 10) + 50)).toNat
  let t := t.put Fd.PWR_TEMP_MAXT (max (t.get Fd.PWR_TEMP_MAXT) top)
  { t with mem := { t.mem with tempSum := t.mem.tempSum + temp, tempN := t.mem.tempN + 1 } }

/-- RTC_TEMPERATURE_TRIM (R207, R580): temp is the die temperature in 0.1 °C. -/
def execRtcTemperatureTrim (temp : Int) (s : State) : Ans := awake .battery s <|
  .next (showTrim (dieMeasured temp { s with btm := { s.btm with tempTrim := crystalTrim s temp } }))

/-- LEARNED_TRIM_STORE (R208): after 24 h of lock the mean rate correction, in 0.01 ppm, becomes the learned trim. -/
def execLearnedTrimStore (mean : Int) (s : State) : Ans :=
  .next (if s.on Fd.BTM_STAT_PTPLOCK then showTrim (s.put Fd.BTM_TRIM_LEARN (Bits.ofInt 16 mean)) else s)

/-- DST_CHANGE (R209): daylight saving begins or ends at the current second. -/
def execDstChange (s : State) : Ans :=
  let on := dstAt s (s.regN Reg.BTM_TIME)
  .next (if on == s.on Fd.BTM_STAT_DST then s else logWrite (if on then 0x0106 else 0x0107) 0 0 (s.putB Fd.BTM_STAT_DST on))

/-- CLOCK_ADJUSTMENT (R212): src 1 head-end, 2 host, 3 PTP; the new time in ms and the ms passed of the running second. -/
def execClockAdjustment (src newMs frac : Nat) (s : State) : Ans := .next (clockSet src newMs frac false s)

/-- CLOCK_SET_GO (R213): a host write of BTM_SETCTL.GO. -/
def execClockSetGo (p : Path) (frac : Nat) (s : State) : Ans :=
  .next (hostOwn p 1 (toIsland .battery (fun t => clockSet 2 (t.regN Reg.BTM_SETVAL * 1000) frac false t)) s)

/-- CLOCK_RESET (R218): a host write of BTM_SETCTL.RESET, with owner access. -/
def execClockReset (p : Path) (frac : Nat) (s : State) : Ans :=
  .next (hostOwn p 2 (toIsland .battery (fun t => clockSet 2 (t.regN Reg.BTM_SETVAL * 1000) frac true t)) s)

/-- SLEW_COMPLETE (R212). -/
def execSlewComplete (s : State) : Ans := .next (if s.btm.slew = 0 then slewStop s else s)

/-- OUTAGE_BURST (R228). -/
def execOutageBurst (rms : List Nat) (s : State) : Ans := .next (outageBurst rms s)

end Sys2Proof.Machine
end

