-- ==== Sys2Proof/Machine/SafCore.lean ====
section
/-!
DEFINITION. Causes and stop reactions of the Signal Box (spec/07_signal_box.md R242 to R248, R256, R257).
-/
namespace Sys2Proof.Machine

/-- Whether a cause's condition is present (SAF_CAUSE). -/
def causeOn (s : State) (n : Nat) : Bool := (s.get Fd.SAF_CAUSE_ACTIVE).testBit n

/-- Whether a cause is latched (SAF_LATCH). -/
def causeLatched (s : State) (n : Nat) : Bool := (s.get Fd.SAF_LATCH_LATCHED).testBit n

/-- The causes of class B, cleared by a reset (R247). -/
def classB : List Nat := [0, 1, 2, 3, 4, 5, 7, 8, 9, 10, 11, 15]

/-- The causes of class C, cleared at the next start (R247). -/
def classC : List Nat := [6, 18, 20]

/-- The function of an input pair 2 or 3 (PAIR_FUNC). -/
def pairFunc (s : State) (n : Nat) : Nat := s.parN (Par.PAIR_FUNC n)

/-- Whether a cause demands the safe state; the others demand the energy stop (R247). -/
def demandsSafe (s : State) (n : Nat) : Bool :=
  if n = 2 ∨ n = 3 then pairFunc s n == 3 else [0, 1, 4, 5, 6, 7, 11, 12, 15, 17, 18, 20].contains n

/-- The state of the Signal Box (SAF_STAT.STATE): 0 run, 1 safe state, 2 energy stop, 3 all off. -/
def safSt (s : State) : Nat := s.get Fd.SAF_STAT_STATE

/-- The function of an SO output (SO_FUNC). -/
def soFunc (s : State) (n : Nat) : Nat := s.parN (Par.SO_FUNC n)

/-- The outputs that drive contactors, as a mask (R292). -/
def contactorMask (s : State) : Nat :=
  ((List.range 4).map (fun n => if soFunc s n = 1 ∨ soFunc s n = 2 then 2 ^ n else 0)).sum

/-- The output that drives the disconnect relay, when there is one (R270). -/
def relaySo (s : State) : Option Nat := (List.range 4).find? (fun n => soFunc s n == 3)

/-- Whether any contactor output is on. -/
def contactorOn (s : State) : Bool := (s.get Fd.SAF_OUT_SO &&& contactorMask s) != 0

/-- A report over X03. -/
def report (r : SafReport) (s : State) : State := { s with x03 := s.x03 ++ [r] }

/-- The pilot state demanded over X19 (R242): 0 none, 1 E, 2 F. -/
def pilotDemand (v : Nat) (s : State) : State :=
  if s.get Fd.SAF_OUT_PILOT = v then s else { s.put Fd.SAF_OUT_PILOT v with x19 := s.x19 ++ [v] }

/-- GATE_OFF_A and GATE_OFF_B asserted. -/
def gateAssert (s : State) : State := ((s.raise Fd.SAF_OUT_GOFFA).raise Fd.SAF_OUT_GOFFB).lower Fd.SWC_STAT_GATEREL

/-- The low-side safety switches as the state of the Signal Box sets them (R242, R254, R512). -/
def lowSides (s : State) : State :=
  let keep := if safSt s = 3 then 0 else if safSt s = 1 then s.parN Par.LS_KEEP else 4095
  s.put Fd.SAF_OUT_LOWSIDE (keep &&& (4095 ^^^ (s.saf.lsBan % 4096)))

/-- An SO output set, and the command shown in SWC_STAT. -/
def setSo (n : Nat) (b : Bool) (s : State) : State :=
  (s.putBit Reg.SAF_OUT n b).putBit Reg.SWC_STAT n b

/-- SAF_STAT.STATE set; a change sets its interrupt source (spec/23_host_interface.md HIF_ISRC). -/
def safEnter (n : Nat) (s : State) : State := if safSt s = n then s else (s.put Fd.SAF_STAT_STATE n).raise Fd.HIF_ISRC_SAF

/-- A bit of SAF_LATCH set or cleared; a change sets its interrupt source. -/
def safLatch (n : Nat) (b : Bool) (s : State) : State :=
  if s.bitOf Reg.SAF_LATCH n == b then s else (s.putBit Reg.SAF_LATCH n b).raise Fd.HIF_ISRC_SAF

/-- Every contactor output off (R243 step 4); a close request under way ends; an insulation cycle that sees the change is discarded
(R282). The disconnect relay turns off where R242 requires it, which counts as commanded (R236). Idle is announced to the Core island
when a trip path test waits for it (R289). -/
def contactorsOff (s : State) : State :=
  let moved := contactorOn s
  let t := upTo 4 (fun n u => if (contactorMask s).testBit n then setSo n false u else u) s
  let relay := safSt s == 1 && s.parB Par.ESTOP_DISC && (causeOn s 0 || causeOn s 11)
  let t := match relaySo s with
    | some n =>
      if relay then
        { setSo n false t with saf := { t.saf with relayHeld := true },
                               btm := { t.btm with relayOn := false, relayWait := true, relayPend := false } }
      else t
    | none => t
  let saf := { t.saf with outWait := false, close := none, imd := { t.saf.imd with dirty := t.saf.imd.dirty || moved } }
  let t := report .opened { t with saf := saf }
  if t.saf.trip.wanted then report .idle t else t

/-- The contactors follow a stop after CONT_DELAY (R243 step 4). -/
def contactorsLater (s : State) : State :=
  if s.parN Par.CONT_DELAY = 0 then contactorsOff s else { s with saf := { s.saf with outWait := true } }

/-- The elements of a stop reaction (R242, R243). -/
def stopElements (safe : Bool) (s : State) : State :=
  let t := gateAssert s
  let t := if safe then lowSides (pilotDemand 2 t) else t
  contactorsLater t

/-- A stop reaction entered by a cause (R243): from run it is counted and its first cause noted; a cause that demands the safe state
during an energy stop adds the elements of the safe state. -/
def stopReaction (n : Nat) (s : State) : State :=
  if safSt s = 0 then
    let t := (safEnter (if demandsSafe s n then 1 else 2) s).put Fd.SAF_FIRST_CAUSE n
    report (.cause n) (stopElements (demandsSafe s n) (t.bump Fd.SAF_CNT_STOPS))
  else if safSt s = 2 ∧ demandsSafe s n then report (.cause n) (stopElements true (safEnter 1 s))
  else report (.cause n) s

/-- A cause's condition has arisen (R247): it is shown, latched in classes B and C, and enters its reaction; cause 19 has none. -/
def causeSet (n : Nat) (s : State) : State :=
  if causeOn s n then s
  else
    let t := s.putBit Reg.SAF_CAUSE n true
    let t := if classB.contains n ∨ classC.contains n then safLatch n true t else t
    if n = 19 then t else stopReaction n t

/-- A cause's condition has ended: a cause of class C stays present until the next start. -/
def causeEnd (n : Nat) (s : State) : State := if classC.contains n then s else s.putBit Reg.SAF_CAUSE n false

/-- A cause's condition set to be present or not. -/
def causeFollow (n : Nat) (b : Bool) (s : State) : State := if b then causeSet n s else causeEnd n s

/-- The causes present, RSTSTUCK apart, which has no reaction. -/
def presentCauses (s : State) : Nat := s.get Fd.SAF_CAUSE_ACTIVE &&& (4194303 ^^^ 2 ^ 19)

/-- Whether R251 keeps a reset from clearing DISCREP: a faulty pair has not been open and then closed in time. -/
def discBlocked (s : State) : Bool := s.saf.pairs.any (fun p => p.fault && !p.cleared)

/-- The end of a stop reaction, when no cause remains and the start's hold is over (R256, R257). -/
def settle (s : State) : State :=
  let t := if s.saf.hold && !causeOn s 17 && s.saf.tested % 256 == 255 then
      { s with saf := { s.saf with hold := false, needRst := s.parB Par.START_RST } } else s
  let free := presentCauses t == 0
  let blockC := classC.any (causeLatched t)
  let ready := (safSt t == 1 || safSt t == 2) && free && !blockC && !discBlocked t && !t.saf.hold && (t.get Fd.SAF_LATCH_LATCHED != 0 || t.saf.needRst)
  let t := t.putB Fd.SAF_STAT_RSTREADY ready
  if (safSt t = 1 ∨ safSt t = 2) ∧ free ∧ t.get Fd.SAF_LATCH_LATCHED = 0 ∧ !t.saf.hold ∧ !t.saf.needRst then
    report .ended (lowSides (pilotDemand 0 ((safEnter 0 t).lower Fd.SAF_STAT_RSTREADY)))
  else t

/-- LOCKSTEP (R239): every output off, the pilot at F, until the next start. -/
def allOff (s : State) : State :=
  let t := safLatch 20 true (s.putBit Reg.SAF_CAUSE 20 true)
  let t := if safSt s = 0 then (t.put Fd.SAF_FIRST_CAUSE 20).bump Fd.SAF_CNT_STOPS else t
  let t := pilotDemand 2 (gateAssert (safEnter 3 t))
  let t := upTo 4 (fun n u => setSo n false u) t
  lowSides { t with saf := { t.saf with outWait := false, close := none } }

/-- CONTACTOR_DELAY_EXPIRY (R243 step 4). -/
def execContactorDelayExpiry (s : State) : Ans := awake .signalBox s <| .next (if s.saf.outWait then contactorsOff s else s)

end Sys2Proof.Machine
end

