-- ==== Sys2Proof/Machine/EarthFault.lean ====
section
/-!
DEFINITION. Residual-current monitoring, insulation monitoring and the DC trip path (spec/08_earth_fault_trip_switching.md R271 to
R291), and the lanes of the barrier that carry the trip.
-/
namespace Sys2Proof.Machine

/-- The Signal Box's residual-current state replaced. -/
def setRcm (r : RcmState) (s : State) : State := { s with saf := { s.saf with rcm := r } }

/-- Whether an input pair is recognised open (R249): by samples taken since the start. -/
def pairOpen (s : State) (n : Nat) : Bool :=
  let si := s.get Fd.SAF_IN_SI
  [2 * n, 2 * n + 1].any (fun i => s.saf.seen.testBit i && !si.testBit i)

/-- Whether a pair with a given function is open (PAIR_FUNC). -/
def funcOpen (s : State) (f : Nat) : Bool := [2, 3].any (fun n => pairFunc s n == f && pairOpen s n)

/-- The mean of the newest n entries of a window. -/
def meanOf (n : Nat) (w : List Rat) : Rat := Exact.sum (w.take n) / (n : Rat)

/-- The squared AC component over the newest n entries (R273). -/
def acSquare (n : Nat) (w : List Rat) : Rat :=
  let m := meanOf n w
  Exact.sum ((w.take n).map (fun x => (x - m) * (x - m))) / (n : Rat)

/-- Whether a DC line of R274 is met: a window of n blocks at a threshold in mA. -/
def dcLine (w : List Rat) (n ma : Nat) : Bool := decide (n ≤ w.length) && decide ((ma : Rat) / 1000 ≤ Exact.abs (meanOf n w))

/-- Whether an AC line of R274 is met. -/
def acLine (w : List Rat) (n ma : Nat) : Bool := decide (n ≤ w.length) && decide ((ma : Rat) / 1000 * ((ma : Rat) / 1000) ≤ acSquare n w)

/-- The DC verdict of R274. -/
def dcVerdict (w : List Rat) : Bool := dcLine w 1000 6 || dcLine w 40 60 || dcLine w 10 200

/-- The AC verdict of R274. -/
def acVerdict (s : State) (w : List Rat) : Bool := s.parB Par.RCM_AC_EN && (acLine w 20 30 || acLine w 10 150)

/-- Whether the condition of cause RCD is present: a line of R274 met within the last 1 s, a failed check of R277, or an external
monitor's verdict. -/
def rcdPresent (s : State) : Bool :=
  s.on Fd.EFT_STAT_RCMDC || s.on Fd.EFT_STAT_RCMAC || (decide (0 < s.saf.rcm.blocks) && decide (s.saf.rcm.quiet < 1000))
    || s.on Fd.EFT_STAT_RCMDIAG || funcOpen s 1

/-- RCM_EVALUATE (R274, R275): the values judged; each of the two evaluations sets cause RCD. -/
def rcmEvaluate (s : State) : State :=
  if s.isF && s.parB Par.RCM_EN then
    let w := s.saf.rcm.win
    let dc := dcVerdict w
    let ac := acVerdict s w
    let t := (s.putB Fd.EFT_STAT_RCMDC dc).putB Fd.EFT_STAT_RCMAC ac
    let t := if dc || ac then setRcm { t.saf.rcm with quiet := 0 } (t.raise Fd.EFT_EVT_RCDTRIP) else t
    causeFollow 8 (rcdPresent t) t
  else causeFollow 8 (rcdPresent s) s

/-- RCMDIAG follows the three checks (R277). -/
def rcmDiag (s : State) : State :=
  let r := s.saf.rcm
  s.putB Fd.EFT_STAT_RCMDIAG (r.satFail || r.invFail || r.testFail)

/-- A check of R277 that fails. -/
def rcmFail (s : State) : State := rcmDiag (s.raise Fd.EFT_EVT_RCMFAIL)

/-- Whether a half-period's winding current saturates (R277): its peak is at least 3 times its mean absolute value. -/
def saturates (h : List Rat) : Bool :=
  let a := h.map Exact.abs
  decide (3 * meanOf h.length a ≤ a.foldl (fun m x => if m < x then x else m) 0)

/-- The value the running self-test injects (R278), in A of residual current: +10 mA for 400 ms, then −10 mA. -/
def rcmInject (s : State) : Rat :=
  if s.on Fd.EFT_STAT_RCMTEST then (if s.saf.rcm.testRun < 400 then 1 / 100 else if s.saf.rcm.testRun < 800 then -1 / 100 else 0) else 0

/-- I_Δ of a block (R273), in A, from the trimmed samples of role 11. -/
def residual (s : State) (v : List Rat) : Rat :=
  -((s.parN Par.RCM_TURNS : Rat)) * meanOf v.length v / ((s.parN Par.RCM_RS : Rat) / 1000)

/-- Residual-current monitoring over one block (R271 to R277). -/
def rcmBlock (raws : List (List Int)) (s : State) : State :=
  if s.isF && s.parB Par.RCM_EN then
    let r := s.saf.rcm
    let r := { r with testRun := if s.on Fd.EFT_STAT_RCMTEST then r.testRun + 1 else 0 }
    if roleInvalid s 11 then
      let n := r.invRun + 1
      let t := setRcm { r with invRun := n, validRun := 0, invFail := r.invFail || decide (16 < n), quiet := r.quiet + 1 } s
      rcmEvaluate (if n = 17 then rcmFail t else t)
    else
      let v := ((List.range 16).map (fun i => nth (nth raws 11 []) i 0)).map (fun c => trimmedCode s 11 c / 4194304)
      let ok := saturates (v.take 8) && saturates (v.drop 8)
      let bad := if ok then 0 else r.satBad + 1
      let good := if ok then r.satGood + 1 else 0
      let satFail := if 10 ≤ bad then true else if 10 ≤ good then false else r.satFail
      let val := r.validRun + 1
      let x := residual s v - rcmInject s
      let r' := { r with win := (x :: r.win).take 1000, blocks := r.blocks + 1, quiet := r.quiet + 1, satBad := bad, satGood := good,
                         satFail := satFail, invRun := 0, validRun := val, invFail := r.invFail && decide (val < 1000) }
      let t := setRcm r' s
      let t := (t.put Fd.EFT_RCM_DC (Bits.ofInt 16 (Exact.toInt (meanOf (max 1 (min 1000 r'.win.length)) r'.win * 10000)))).put
        Fd.EFT_RCM_AC (Exact.toInt (Config.engineSqrt (acSquare (max 1 (min 20 r'.win.length)) r'.win) * 10000)).toNat
      rcmEvaluate (if bad = 10 then rcmFail t else rcmDiag t)
  else s

/-- A fluxgate self-test asked for (R278): it takes a Token of kind 3, and runs once it holds it. -/
def rcmTestAsk (s : State) : State :=
  if s.isF && s.parB Par.RCM_EN && !s.on Fd.EFT_STAT_RCMTEST then
    let begin_ := fun (t : State) => setRcm { t.saf.rcm with testRun := 0, again := false } (t.raise Fd.EFT_STAT_RCMTEST)
    if tokHolds s 3 0 then begin_ s
    else if tokWaits s 3 0 then s
    else
      match tokRequest 3 0 0 s with
      | (.granted, t) => begin_ t
      | (.deferred, t) => t
      | (.refused r, t) => setRcm { t.saf.rcm with again := r != 1 } t
  else s

/-- The end of a fluxgate self-test (R277, R278): the changes of the DC component, in µA, over the last 100 blocks of each half. -/
def rcmTestEnd (plus minus : Int) (s : State) : State :=
  if s.on Fd.EFT_STAT_RCMTEST then
    let pass := decide (8000 ≤ plus) && decide (plus ≤ 12000) && decide (-12000 ≤ minus) && decide (minus ≤ -8000)
    let t := tokRelease 3 0 (s.lower Fd.EFT_STAT_RCMTEST)
    let up := s.regN Reg.SYS_UPTIME
    if pass then
      rcmEvaluate (rcmDiag (setRcm { t.saf.rcm with testFail := false, passUp := some up, testRun := 0 } (t.put Fd.EFT_TESTAGE_RCM 0)))
    else rcmEvaluate (rcmFail (setRcm { t.saf.rcm with testFail := true, testRun := 0 } t))
  else s

/-- The insulation state replaced. -/
def setImd (r : ImdState) (s : State) : State := { s with saf := { s.saf with imd := r } }

/-- A resistance as its register shows it (R281): 0xFFFF_FFFF above 10 MΩ. -/
def ohmsWord (r : Option Rat) : Nat :=
  match r with
  | some x => if x ≤ 10000000 then (Exact.toInt x).toNat else 0xFFFFFFFF
  | none => 0xFFFFFFFF

/-- R_F of R281; none when the injection moves PE by no less than its own swing. -/
def imdRf (rc dv : Rat) : Option Rat := if 0 < 40 - dv then some (rc * dv / (40 - dv)) else none

/-- Whether the coupling is judged open (R284): the injection does not move PE, or moves it at once. -/
def couplingOpen (rc dv : Rat) (fast : Bool) : Bool :=
  decide (dv < 20 * rc / (rc + 10000000)) || (decide (36 < dv) && fast)

/-- Whether R_F lies below a threshold; none lies above every one. -/
def below (r : Option Rat) (x : Rat) : Bool :=
  match r with
  | some y => decide (y < x)
  | none => false

/-- A cycle judged (R281 to R284). vm and vdcm are those of the negative half. -/
def imdJudge (vm vdcm : Rat) (fast : Bool) (s : State) : State :=
  let i := s.saf.imd
  let diff := Exact.abs (i.vdcPlus - vdcm)
  let two := Exact.abs i.vdcPlus / 50
  let lim := if two < 5 then 5 else two
  let next := { i with positive := true, dirty := false, since := i.since + 1 }
  if i.dirty || decide (lim < diff) then (setImd next s).bump ⟨Reg.EFT_IMDCNT, 16, 16⟩
  else
    let rc : Rat := s.parN Par.IMD_RC * 1000
    let dv := i.vPlus - vm
    let rf := imdRf rc dv
    let vdc := (i.vdcPlus + vdcm) / 2
    let pos : Option (Rat × Rat) := match rf with
      | some r =>
        let x := (i.vPlus + vm) / 2 * (1 + r / rc) / vdc
        if 50 ≤ vdc ∧ 1 / 100 ≤ x ∧ x ≤ 99 / 100 then some (r / x, r / (1 - x)) else none
      | none => none
    let openC := couplingOpen rc dv (fast || i.fastPlus)
    let th := fun (p : Nat) => (s.parN p : Rat) * (s.parN Par.VDCNOM : Rat) / 1000
    let fault := openC || below rf (th Par.IMD_FAULT)
    let warn := !fault && below rf (th Par.IMD_WARN)
    let ended := !openC && !below rf (5 / 4 * th Par.IMD_FAULT)
    let bad := if fault then true else if ended then false else i.bad
    let t := ((s.setRegN Reg.EFT_IMD (ohmsWord rf)).setRegN Reg.EFT_IMDPOS (ohmsWord (pos.map (·.1)))).setRegN Reg.EFT_IMDNEG
      (ohmsWord (pos.map (·.2)))
    let t := (t.bump ⟨Reg.EFT_IMDCNT, 0, 16⟩).put Fd.EFT_STAT_IMDST (if fault then 3 else if warn then 2 else 1)
    let t := when openC (·.raise Fd.EFT_EVT_IMDCOUP) (t.putB Fd.EFT_STAT_IMDCOUP openC)
    let t := when warn (·.raise Fd.EFT_EVT_IMDWARN) (when fault (·.raise Fd.EFT_EVT_IMDFAULT) t)
    let t := setImd { next with since := 0, judged := true, bad := bad } t
    causeFollow 9 (bad || funcOpen t 2) t

/-- The end of half an insulation cycle (R279): mean voltage at IMD_SNS in µV, mean DC voltage in mV, and the time in µs that PE took
for 63 % of its change. -/
def imdHalf (sns vdc : Int) (rise : Nat) (s : State) : State :=
  if s.isF && s.parB Par.IMD_EN then
    let v := (sns : Rat) * (s.parN Par.IMD_DIV : Rat) / 1000000
    let d := (vdc : Rat) / 1000
    let fast := decide (rise < 1000)
    let t := s.raise Fd.EFT_STAT_IMDRUN
    if s.saf.imd.positive then
      setImd { s.saf.imd with positive := false, vPlus := v, vdcPlus := d, fastPlus := fast, since := s.saf.imd.since + 1 } t
    else imdJudge v d fast t
  else s

/-- The comparators that are enabled (R285). -/
def tripEnabled (s : State) : Nat := ((List.range 4).map (fun k => if s.on (Fd.EFT_TRIPCFG_EN k) then 2 ^ k else 0)).sum

/-- Whether a lane is healthy. -/
def laneOk (s : State) (k : Nat) : Bool := !(s.get Fd.AFE_LANE_FAULT).testBit k

/-- Comparators fire (R286, R287): each healthy lane sets its latch, and each latch its pin. -/
def tripFire (m : Nat) (s : State) : State :=
  let a := laneOk s (s.get Fd.EFT_TRIPMAP_LANEA)
  let b := laneOk s (s.get Fd.EFT_TRIPMAP_LANEB)
  let t := when a (fun t => (t.raise Fd.EFT_STAT_TRIPA).raise Fd.SAF_OUT_GOFFA) s
  let t := when b (fun t => (t.raise Fd.EFT_STAT_TRIPB).raise Fd.SAF_OUT_GOFFB) t
  if a || b then ((t.put Fd.EFT_STAT_TRIPSRC m).raise Fd.EFT_EVT_DCTRIP).lower Fd.SWC_STAT_GATEREL else t

/-- The Signal Box recognises the latches (R287): DCTRIP is present until every comparator has released, and latched from then on. -/
def tripRecognise (s : State) : State :=
  if s.on Fd.EFT_STAT_TRIPTEST then s
  else if s.on Fd.EFT_STAT_TRIPA || s.on Fd.EFT_STAT_TRIPB then
    let t := if causeLatched s 10 then s else causeSet 10 s
    if s.saf.trip.fired = 0 then causeEnd 10 t else t
  else s

/-- The comparators as they stand now (R285, R287): those that fire set the latches. -/
def tripComparators (m : Nat) (s : State) : State :=
  let f := if s.isF then m &&& tripEnabled s else 0
  let t := { s with saf := { s.saf with trip := { s.saf.trip with fired := f } } }
  if f = 0 then t else tripFire f t

/-- Whether the trip path is whole (R291). -/
def tripWhole (s : State) : Bool :=
  laneOk s (s.get Fd.EFT_TRIPMAP_LANEA) && laneOk s (s.get Fd.EFT_TRIPMAP_LANEB)
    && !s.saf.trip.badPairs.testBit (s.get Fd.EFT_TRIPMAP_PAIR1) && !s.saf.trip.badPairs.testBit (s.get Fd.EFT_TRIPMAP_PAIR2)
    && s.saf.trip.passed && decide (s.get Fd.EFT_TESTAGE_TRIP ≤ s.parN Par.TRIP_TEST_PER)

/-- TRIPOK shown: 1 on variant M (R291); its loss is recorded (R643). -/
def tripShow (s : State) : State :=
  let ok := !s.isF || tripWhole s
  let t := s.putB Fd.EFT_STAT_TRIPOK ok
  if s.on Fd.EFT_STAT_TRIPOK && !ok then faultOther 1 .signalBox t else t

/-- A trip lane's function moved to a free spare lane, while no contactor output is on (R291). -/
def tripLaneMove (l : Nat) (s : State) : State :=
  if l ∈ s.afe.laneDown ∧ !contactorOn s then
    match [10, 11].filter (laneFree s) with
    | [] => s
    | p :: _ =>
      ((laneMove l s).put (if l = 8 then Fd.EFT_TRIPMAP_LANEA else Fd.EFT_TRIPMAP_LANEB) p).raise Fd.EFT_EVT_LANEMOVE
  else s

/-- A failed pair of a role replaced by the spare pair (R290). -/
def tripPairMove (f : RegField) (s : State) : State :=
  let used := s.get Fd.EFT_TRIPMAP_PAIR1 == 2 || s.get Fd.EFT_TRIPMAP_PAIR2 == 2
  if s.saf.trip.badPairs.testBit (s.get f) && !used && !s.saf.trip.badPairs.testBit 2 then
    faultOther 1 .signalBox ((s.put f 2).raise Fd.EFT_EVT_PAIRMOVE)
  else s

/-- A trip path test wanted (R289): the Signal Box announces idle when no contactor output is on. -/
def tripWant (s : State) : State :=
  if s.isF then
    let t := { s with saf := { s.saf with trip := { s.saf.trip with wanted := true } } }
    if contactorOn s then t else report .idle t
  else s

/-- The Core island passes the request for a trip path test over X01 (R289). -/
def tripPass (s : State) : State :=
  if s.saf.trip.wanted && !s.held .core then { s with saf := { s.saf with trip := { s.saf.trip with asked := true } } } else s

/-- A trip path test begins (R289): with no contactor output on, once the Core island has passed the request. -/
def tripTestBegin (s : State) : State :=
  if s.saf.trip.wanted && s.saf.trip.asked && !contactorOn s && !s.on Fd.EFT_STAT_TRIPTEST then
    { (gateAssert s).raise Fd.EFT_STAT_TRIPTEST with saf := { s.saf with trip := { s.saf.trip with wanted := false, asked := false } } }
  else s

/-- The end of a trip path test (R289 to R291): the pairs 0 to 2 that failed, whether lane A and lane B set their latches, and whether
both latches stay clear after the restore. -/
def tripTestEnd (pairs : Nat) (laneA laneB clear : Bool) (s : State) : State :=
  if s.on Fd.EFT_STAT_TRIPTEST then
    let inUse := [s.get Fd.EFT_TRIPMAP_PAIR1, s.get Fd.EFT_TRIPMAP_PAIR2]
    let pass := !inUse.any pairs.testBit && laneA && laneB && clear
    let t := s.lower Fd.EFT_STAT_TRIPTEST
    let t := if pass then t.put Fd.EFT_TESTAGE_TRIP 0 else t.raise Fd.EFT_EVT_TESTFAIL
    let t := { t with saf := { t.saf with trip := { t.saf.trip with badPairs := pairs % 8, passed := pass, wanted := !pass } } }
    let t := tripPairMove Fd.EFT_TRIPMAP_PAIR2 (tripPairMove Fd.EFT_TRIPMAP_PAIR1 t)
    let t := if laneA then t else tripLaneMove 8 (laneFault (s.get Fd.EFT_TRIPMAP_LANEA) t)
    let t := if laneB then t else tripLaneMove 9 (laneFault (s.get Fd.EFT_TRIPMAP_LANEB) t)
    let t := if clear then (t.lower Fd.EFT_STAT_TRIPA).lower Fd.EFT_STAT_TRIPB else (t.raise Fd.EFT_STAT_TRIPA).raise Fd.EFT_STAT_TRIPB
    tripShow t
  else s

/-- A lane fault (R69 to R71, R89 to R91, R291): at a beat of the running rotation step, which is abandoned; conv names a converter whose
failing stream the CRC errors point to. -/
def laneFaultAt (k beat : Nat) (conv : Option Nat) (s : State) : State :=
  match conv with
  | some c => convFail c beat s
  | none =>
    let l := laneRole s k
    let t := abandonStep beat (laneFault k s)
    if l = 8 ∨ l = 9 then tripShow (tripLaneMove l t) else t

/-- LANE_FAULT_DETECT (R69). -/
def execLaneFaultDetect (k beat : Nat) (conv : Option Nat) (s : State) : Ans := awake .metrology s <|
  .next (if s.isF && decide (k < 12) then laneFaultAt k beat conv s else s)

/-- LANE_ROLE_MOVE (R69): the move of lane k's role takes effect. -/
def execLaneRoleMove (k : Nat) (s : State) : Ans := awake .metrology s <|
  .next (if s.isF then (if k = 8 ∨ k = 9 then tripShow (tripLaneMove k s) else laneMove k s) else s)

/-- RCM_SELF_TEST_START (R278): a self-test is due, or its Token has been granted. -/
def execRcmSelfTestStart (s : State) : Ans := awake .signalBox s <| .next (rcmTestAsk s)

/-- RCM_SELF_TEST_REQUEST (R278): a host write of EFT_TRIPCTL.RCMTEST. -/
def execRcmSelfTestRequest (p : Path) (s : State) : Ans := .next (hostOwn p 1 (toIsland .signalBox rcmTestAsk) s)

/-- RCM_SELF_TEST_DONE (R278): the changes of the DC component over its two halves, in µA. -/
def execRcmSelfTestDone (plus minus : Int) (s : State) : Ans := awake .signalBox s <| .next (rcmTestEnd plus minus s)

/-- RCM_SELF_TEST_RETRY (R278): 10 s after a refusal with reason TIMEOUT. -/
def execRcmSelfTestRetry (s : State) : Ans := awake .signalBox s <| .next (if s.saf.rcm.again then rcmTestAsk s else s)

/-- DC_TRIP_FIRE (R286, R287): the comparators that fire, as a mask. -/
def execDcTripFire (m : Nat) (s : State) : Ans := .next (tripRecognise (tripComparators m s))

/-- TRIP_PATH_TEST_DUE (R289). -/
def execTripPathTestDue (s : State) : Ans := awake .signalBox s <| .next (tripWant s)

/-- TRIP_PATH_TEST_REQUEST (R289): a host write of EFT_TRIPCTL.TEST. -/
def execTripPathTestRequest (p : Path) (s : State) : Ans := .next (hostOwn p 1 (toIsland .signalBox tripWant) s)

/-- TRIP_PATH_TEST_START (R289). -/
def execTripPathTestStart (s : State) : Ans := awake .signalBox s <| .next (tripTestBegin s)

/-- TRIP_PATH_TEST_DONE (R289). -/
def execTripPathTestDone (pairs : Nat) (laneA laneB clear : Bool) (s : State) : Ans := awake .signalBox s <| .next (tripTestEnd pairs laneA laneB clear s)

end Sys2Proof.Machine
end

