-- ==== Sys2Proof/Machine/HostLevel.lean ====
section
/-!
DEFINITION. The levels of the host paths and their privileged sessions (spec/23_host_interface.md R629, R631).
-/
namespace Sys2Proof.Machine

/-- The number of a path: 0 SPI, 1 Ethernet. -/
def pathNum : Path → Nat
  | .spi => 0
  | .eth => 1

/-- A path's own state. -/
def hifPath (s : State) (p : Path) : HifPath := nth s.hif (pathNum p) .zero

/-- A path's own state replaced. -/
def setHif (p : Path) (x : HifPath) (s : State) : State := { s with hif := setNth s.hif (pathNum p) x }

/-- A path's level set. -/
def setLevel (p : Path) (n : Nat) (s : State) : State :=
  match p with
  | .spi => s.put Fd.HIF_STAT_SPILVL n
  | .eth => s.put Fd.HIF_STAT_ETHLVL n

/-- The level of a path before any session (R629). -/
def baseLevel (s : State) : Path → Nat
  | .spi => s.parN Par.HIF_SPI_LVL
  | .eth => 0

/-- A privileged session's end (R631). -/
def hifEnd (p : Path) (s : State) : State :=
  if (hifPath s p).sess then
    (setLevel p (baseLevel s p) (setHif p { hifPath s p with sess := false } s)).raise Fd.HIF_EVT_SESEND
  else s

/-- The key slot of a level (R630), when one is named. -/
def levelKey (s : State) (level : Nat) : Option Nat :=
  let k := if level = 1 then s.parN Par.HIF_OPKEY else if level = 2 then s.parN Par.HIF_OWNKEY else 2
  if level = 0 ∨ k = 0 then none else some k

end Sys2Proof.Machine
end

