-- ==== Sys2Proof/Machine/Grotto.lean ====
section
/-!
DEFINITION. The Grotto (spec/11_grotto_keys.md R372 to R391): key slots and their tree, the commands of KEY_CTL, and the crypto engine.
-/
namespace Sys2Proof.Machine

/-- The Grotto's own state replaced. -/
def setGrt (g : GrtState) (s : State) : State := { s with grt := g }

/-- The state of a slot: 0 empty, 1 valid, 2 orphaned, 3 retired. -/
def slotSt (s : State) (n : Nat) : Nat := s.get (Fd.KEY_SLOT_STATE n)

/-- The type of a slot's key (R373). -/
def slotType (s : State) (n : Nat) : Nat := s.get (Fd.KEY_SLOT_TYPE n)

/-- Whether a slot's key has a usage bit (R374). -/
def slotUse (s : State) (n bit : Nat) : Bool := (s.get (Fd.KEY_SLOT_USAGE n)).testBit bit

/-- The key material of a slot. -/
def keyOf (s : State) (n : Nat) : List Byte := ((s.grt.keys.find? (fun e => e.1 == n)).map (·.2)).getD []

/-- The key material of a slot replaced; none leaves nothing of it. -/
def setKey (n : Nat) (k : Option (List Byte)) (s : State) : State :=
  let rest := s.grt.keys.filter (fun e => e.1 != n)
  setGrt { s.grt with keys := match k with
    | some b => rest ++ [(n, b)]
    | none => rest } s

/-- Whether a slot is valid and its ancestry holds (R380), within a number of levels. -/
def usableN : Nat → State → Nat → Bool
  | 0, _, _ => false
  | d + 1, s, n =>
    slotSt s n == 1 && (s.on (Fd.KEY_SLOTX_PROOT n)
      || (s.get (Fd.KEY_SLOTX_PGEN n) == s.get (Fd.KEY_SLOT_GEN (s.get (Fd.KEY_SLOTX_PARENT n)))
          && usableN d s (s.get (Fd.KEY_SLOTX_PARENT n))))

/-- Whether a slot's key is usable: the root is formed, and depth is at most 4 (R370, R375, R380). -/
def usable (s : State) (n : Nat) : Bool := s.on Fd.KEY_STAT_READY && !s.on Fd.KEY_STAT_ROOTFAIL && usableN 4 s n

/-- Whether a slot descends from another, within a number of levels. -/
def descendsN : Nat → State → Nat → Nat → Bool
  | 0, _, _, _ => false
  | d + 1, s, a, n =>
    (slotSt s n == 1 || slotSt s n == 2) && !s.on (Fd.KEY_SLOTX_PROOT n)
      && (s.get (Fd.KEY_SLOTX_PARENT n) == a || descendsN d s a (s.get (Fd.KEY_SLOTX_PARENT n)))

/-- Whether a slot is another or one of its descendants. -/
def inTree (s : State) (a n : Nat) : Bool := n == a || descendsN 4 s a n

/-- USED brought up to date. -/
def usedShow (s : State) : State := s.put Fd.KEY_STAT_USED ((List.range 256).filter (fun n => slotSt s n == 1)).length

/-- The clear-text length of a type (R373). -/
def keyLen (type : Nat) : Nat := ([0, 16, 32, 32, 32, 48, 64, 96] : List Nat).getD type 0

/-- The types that a usage bit allows (R374). -/
def useTypes (bit : Nat) : List Nat :=
  ([[4, 5], [6, 7], [4, 5], [3], [1, 2], [1, 2], [2], [6, 7], [4, 5], [1, 2, 3, 6, 7], [7]] : List (List Nat)).getD bit []

/-- Whether a type and usage go together (R373, R374). -/
def useOk (type usage : Nat) : Bool :=
  decide (1 ≤ type) && decide (type ≤ 7) && (List.range 11).all (fun b => !usage.testBit b || (useTypes b).contains type)
    && (!usage.testBit 8 || usage.testBit 0)

/-- The fields of a command's KEY_CMD word. -/
def KeyCmd.op (c : KeyCmd) : Nat := c.cmd / 2 ^ 28
/-- The type it names. -/
def KeyCmd.type (c : KeyCmd) : Nat := c.cmd / 2 ^ 24 % 16
/-- The slot it names. -/
def KeyCmd.slot (c : KeyCmd) : Nat := c.cmd / 2 ^ 16 % 256
/-- The parent it names. -/
def KeyCmd.parent (c : KeyCmd) : Nat := c.cmd / 2 ^ 8 % 256
/-- Whether its parent is the root. -/
def KeyCmd.root (c : KeyCmd) : Bool := c.cmd.testBit 7

/-- Bytes from open words. -/
def freshBytes : Nat → State → List Byte × State
  | 0, s => ([], s)
  | n + 1, s =>
    let x := s.fresh
    let y := freshBytes n x.2
    (Bits.leBytes 4 x.1.toNat ++ y.1, y.2)

/-- The words of KEY_DATA as bytes. -/
def keyData (s : State) : List Byte := (List.range 32).flatMap (fun w => Bits.leBytes 4 (s.regN (Reg.KEY_DATA w)))

/-- KEY_DATA holding bytes, then zeros. -/
def keyDataPut (b : List Byte) (s : State) : State :=
  upTo 32 (fun w t => t.setRegN (Reg.KEY_DATA w) (Bits.ofLeBytes ((b.drop (4 * w)).take 4))) s

/-- The public key of a slot (R373, R377, R379). -/
def publicKey (s : State) (n : Nat) : List Byte :=
  let k := keyOf s n
  if slotType s n = 4 then Config.crypto 9 k [] else if slotType s n = 5 then Config.crypto 10 k [] else k

/-- A new generation of a slot that is a client's CLI_EK resets that client's receive counter (spec/14_head_end_dlms.md R466). -/
def clientFresh (n : Nat) (s : State) : State :=
  upTo 3 (fun c t => if n ≠ 0 ∧ t.parN (Par.CLI_EK c) = n then t.setRegN (Reg.DLM_ICNT c) 0 else t) s

/-- A key placed in a slot (R375, R376). -/
def keyPlace (n type usage parent : Nat) (root : Bool) (key : List Byte) (s : State) : State :=
  let t := setKey n (some key) (clientFresh n s)
  let depth := if root then 1 else s.get (Fd.KEY_SLOT_DEPTH parent) + 1
  let t := ((t.put (Fd.KEY_SLOT_GEN n) (s.get (Fd.KEY_SLOT_GEN n) + 1)).put (Fd.KEY_SLOT_DEPTH n) depth).put (Fd.KEY_SLOT_STATE n) 1
  let t := (t.put (Fd.KEY_SLOT_TYPE n) type).put (Fd.KEY_SLOT_USAGE n) usage
  let t := (t.putB (Fd.KEY_SLOTX_PROOT n) root).put (Fd.KEY_SLOTX_PARENT n) (if root then 255 else parent)
  usedShow (t.put (Fd.KEY_SLOTX_PGEN n) (if root then 0 else s.get (Fd.KEY_SLOT_GEN parent)))

/-- A slot left empty with a generation; its key is zeroed. -/
def slotClear (n gen : Nat) (s : State) : State := usedShow (setKey n none ((s.setRegN (Reg.KEY_SLOT n) (gen * 2 ^ 24)).setRegN (Reg.KEY_SLOTX n) 0))

/-- A slot retired for the module's life (R376). -/
def slotRetire (n : Nat) (s : State) : State :=
  let t := slotClear n 255 s
  (t.put (Fd.KEY_SLOT_STATE n) 3).raise Fd.KEY_EVT_RETIRED

/-- Every descendant of a slot orphaned (R381). -/
def orphanAll (a : Nat) (s : State) : State :=
  usedShow (upTo 256 (fun n t => if slotSt s n = 1 ∧ descendsN 4 s a n then t.put (Fd.KEY_SLOT_STATE n) 2 else t) s)

/-- The result of a command that creates a key, before its own checks (R372 to R376). -/
def createCheck (c : KeyCmd) (s : State) : Nat :=
  if slotSt s c.slot = 3 then 12
  else if slotSt s c.slot ≠ 0 then 6
  else if !useOk c.type c.usage then 3
  else if !c.root && !(usable s c.parent && slotUse s c.parent 6) then 5
  else if !c.root && 4 ≤ s.get (Fd.KEY_SLOT_DEPTH c.parent) then 4
  else 0

/-- Whether a command would empty or orphan the valid Waybill key while Waybills wait (R389). -/
def waybillHeld (op a : Nat) (s : State) : Bool :=
  let w := s.parN Par.WB_KEYSLOT
  slotSt s w == 1 && inTree s a w && s.get Fd.BIL_WBUNS_WAITING != 0 && !(op == 4 && a == w && slotUse s w 6)

/-- A created key, or the slot's retirement when its generations are spent (R376). -/
def createKey (c : KeyCmd) (key : List Byte) (s : State) : Nat × List Byte × State :=
  if s.get (Fd.KEY_SLOT_GEN c.slot) = 255 then (12, [], slotRetire c.slot s)
  else
    let t := keyPlace c.slot c.type c.usage c.parent c.root key s
    (0, (if c.op = 1 ∧ (c.type = 4 ∨ c.type = 5) then publicKey t c.slot else []), t)

/-- INVALIDATE (R381). -/
def invalidate (n : Nat) (s : State) : State :=
  let gen := s.get (Fd.KEY_SLOT_GEN n)
  let t := orphanAll n s
  if gen = 255 then slotRetire n t
  else if slotUse s n 6 then
    let x := freshBytes 8 t
    (setKey n (some x.1) (clientFresh n x.2)).put (Fd.KEY_SLOT_GEN n) (gen + 1)
  else slotClear n (gen + 1) t

/-- The sessions of the host whose level's key is no longer usable end (R631). -/
def levelsCheck (s : State) : State :=
  ([Path.spi, Path.eth]).foldl (fun t p =>
    match levelKey t (pathLevel t p) with
    | some k => if usable t k then t else hifEnd p t
    | none => t) s

/-- A command's result, what KEY_DATA returns, and its effect (R377 to R381, R385, R389). A generator that has stopped refuses GENERATE, with a
result that the spec leaves open. -/
def keyRun (c : KeyCmd) (s : State) : Nat × List Byte × State :=
  let n := c.slot
  if s.pfw then (10, [], s)
  else if !s.on Fd.KEY_STAT_READY || s.on Fd.KEY_STAT_ROOTFAIL then (11, [], s)
  else if n < 16 ∧ c.level < 3 ∧ c.op ≠ 6 then (1, [], s)
  else if c.op = 1 then
    let r := createCheck c s
    if r ≠ 0 then (r, [], s)
    else if 6 ≤ c.type then (3, [], s)
    else if !s.on Fd.KEY_STAT_DRBGOK then (s.fresh.1.toNat % 256, [], s.fresh.2)
    else
      let x := freshBytes (keyLen c.type / 4) s
      createKey c x.1 x.2
  else if c.op = 2 then
    let r := createCheck c s
    if r ≠ 0 then (r, [], s)
    else if !s.parB Par.CLEAR_EN || !c.usage.testBit 9 || c.usage.testBit 8 then (8, [], s)
    else createKey c (c.data.take (keyLen c.type)) s
  else if c.op = 3 then
    let r := createCheck c s
    let len := keyLen c.type
    if r ≠ 0 then (r, [], s)
    else if c.usage.testBit 8 then (3, [], s)
    else if c.root then (5, [], s)
    else match Config.gcmOpen (keyOf s c.parent) (c.data.take 12) (Bits.leBytes 1 n ++ Bits.leBytes 1 c.type)
        ((c.data.drop 12).take (len + 16)) with
      | some key => createKey c (key.take len) s
      | none => (9, [], s)
  else if c.op = 4 ∨ c.op = 5 then
    if slotSt s n = 3 then (12, [], s)
    else if slotSt s n = 0 then (13, [], s)
    else if slotSt s n = 2 ∧ c.op = 4 then (7, [], s)
    else if waybillHeld c.op n s then (14, [], s)
    else (0, [], levelsCheck (if c.op = 4 then invalidate n s else slotClear n (s.get (Fd.KEY_SLOT_GEN n)) (orphanAll n s)))
  else if c.op = 6 then
    if slotSt s n = 0 then (13, [], s)
    else if slotSt s n = 3 then (12, [], s)
    else if !usable s n then (7, [], s)
    else if slotType s n < 4 then (3, [], s)
    else (0, publicKey s n, s)
  else (3, [], s)

/-- A result put out on X15, in order of arrival. -/
def cryptoReply (r : CryptoReq) (result : Nat) (data : List Byte) (s : State) : State := s.emit (.crypto r.id result data)

/-- The requests that waited for a command (R382): refused with result 7, or free to run with the fresh key of the slot itself. -/
def releaseWaiting (c : KeyCmd) (s : State) : State :=
  let fresh := fun (e : CryptoEntry) => !e.after || (c.op == 4 && e.req.slot == c.slot && usable s c.slot)
  let gone := s.grt.reqs.filter (fun e => !fresh e)
  let t := setGrt { s.grt with reqs := (s.grt.reqs.filter fresh).map (fun e => { e with after := false }) } s
  gone.foldl (fun u e => cryptoReply e.req 7 [] u) t

/-- A command completed (R377). -/
def keyDone (c : KeyCmd) (s : State) : State :=
  let x := keyRun c s
  let t := keyDataPut x.2.1 (x.2.2.put Fd.KEY_CMDSTAT_RESULT x.1)
  let t := if x.1 = 0 then t.raise Fd.KEY_EVT_CMDDONE else t.raise Fd.KEY_EVT_CMDFAIL
  if c.op = 4 ∨ c.op = 5 then releaseWaiting c t else t

/-- Whether a command has to wait for earlier requests that name its slot or a descendant (R382). -/
def keyBlocked (c : KeyCmd) (s : State) : Bool :=
  (c.op == 4 || c.op == 5) && s.grt.reqs.any (fun e => !e.after && inTree s c.slot e.req.slot)

/-- Commands run in order while none of them has to wait. -/
def keyServe : Nat → State → State
  | 0, s => s
  | n + 1, s =>
    match s.grt.cmds with
    | [] => s.lower Fd.KEY_STAT_BUSY
    | c :: cs => if keyBlocked c s then s.raise Fd.KEY_STAT_BUSY else keyServe n (keyDone c (setGrt { s.grt with cmds := cs } s))

/-- KEY_CTL.GO (R377): what an earlier command returned in KEY_DATA has been overwritten by the data of this one. -/
def keyGo (p : Path) (s : State) : State :=
  let c : KeyCmd := ⟨s.regN Reg.KEY_CMD, s.regN Reg.KEY_CMDUSE, keyData s, pathLevel s p⟩
  let t := setGrt { s.grt with cmds := s.grt.cmds ++ [c] } s
  keyServe (t.grt.cmds.length + 1) t

/-- KEY_CTL.GO while KEY_CMD holds an operation. -/
def keyGoOp (p : Path) (op : Nat) (s : State) : State := if s.get Fd.KEY_CMD_OP = op then keyGo p s else s

/-- Every orphaned slot zeroed and left empty (R381). -/
def orphanZero (s : State) : State :=
  let l := (List.range 256).filter (fun n => slotSt s n == 2)
  if l = [] then s else (l.foldl (fun t n => slotClear n (s.get (Fd.KEY_SLOT_GEN n)) t) s).raise Fd.KEY_EVT_ORPHAN

/-- The usage bit and key types that an operation needs (R374, R383), when it names a key. -/
def opNeeds : CryptoOp → Option Nat
  | .sign => some 0
  | .verify _ => some 1
  | .ecdh => some 2
  | .hmac => some 3
  | .hkdf => some 3
  | .encrypt => some 4
  | .decrypt => some 5
  | .hash _ => none
  | .random => none

/-- A request's result and data (R370, R374, R380, R383, R386). -/
def cryptoRun (r : CryptoReq) (s : State) : Nat × List Byte × State :=
  let bad : Nat :=
    match opNeeds r.op with
    | none => 0
    | some b =>
      if !s.on Fd.KEY_STAT_READY || s.on Fd.KEY_STAT_ROOTFAIL then 11
      else if slotSt s r.slot = 0 then 13
      else if slotSt s r.slot = 3 then 12
      else if !usable s r.slot then 7
      else if !slotUse s r.slot b then 3
      else 0
  let k := keyOf s r.slot
  if bad ≠ 0 then (bad, [], s)
  else match r.op with
    | .sign => if s.pfw then (10, [], s) else (0, Config.crypto (if slotType s r.slot = 5 then 1 else 0) k r.data, s)
    | .verify sig => if Config.verifies k r.data sig then (0, [], s) else (9, [], s)
    | .ecdh => (0, Config.crypto 2 k r.data, s)
    | .hash wide => (0, Config.crypto (if wide then 4 else 3) [] r.data, s)
    | .hmac => (0, Config.crypto 5 k r.data, s)
    | .hkdf => (0, Config.crypto 6 k r.data, s)
    | .encrypt => (0, Config.crypto 7 k r.data, s)
    | .decrypt =>
      match Config.gcmOpen k (r.data.take 12) [] (r.data.drop 12) with
      | some d => (0, d, s)
      | none => (9, [], s)
    | .random =>
      if s.on Fd.KEY_STAT_DRBGOK then
        let x := freshBytes 8 s
        (0, x.1, x.2)
      else (s.fresh.1.toNat % 256, [], s.fresh.2)

/-- Whether a request is a P-384 signature, which needs a Token of kind 6 (R385). -/
def needsToken (s : State) (r : CryptoReq) : Bool := r.op == .sign && usable s r.slot && slotType s r.slot == 5 && !s.pfw

/-- The entry of a list that the first request of a class holds, replaced or taken out. -/
def onFirst (cls : Nat) (f : CryptoEntry → List CryptoEntry) : List CryptoEntry → List CryptoEntry
  | [] => []
  | e :: es => if e.req.cls = cls ∧ !e.after then f e ++ es else e :: onFirst cls f es

/-- A request finished with a result; commands that waited for it go on. -/
def cryptoFinish (e : CryptoEntry) (result : Nat) (data : List Byte) (s : State) : State :=
  let t := setGrt { s.grt with reqs := onFirst e.req.cls (fun _ => []) s.grt.reqs } (cryptoReply e.req result data s)
  if t.grt.cmds = [] then t else keyServe (t.grt.cmds.length + 1) t

/-- The oldest request of a class that does not wait for a command completes (R382, R384, R385); a P-384 signature runs only under its
Token. -/
def cryptoDone (cls : Nat) (s : State) : State :=
  match s.grt.reqs.find? (fun e => e.req.cls == cls && !e.after) with
  | none => s
  | some e =>
    let run := fun (t : State) =>
      let x := cryptoRun e.req t
      cryptoFinish e x.1 x.2.1 x.2.2
    let refuse := fun (t : State) => cryptoFinish e 15 [] (t.raise Fd.KEY_EVT_TOKEN)
    if !needsToken s e.req then run s
    else if tokHolds s 6 e.req.id then tokRelease 6 e.req.id (run s)
    else if tokWaits s 6 e.req.id then s
    else if e.asked then refuse s
    else match tokRequest 6 e.req.id 0 s with
      | (.granted, t) => tokRelease 6 e.req.id (run t)
      | (.deferred, t) => setGrt { t.grt with reqs := onFirst cls (fun x => [{ x with asked := true }]) t.grt.reqs } t
      | (.refused _, t) => refuse t

/-- A request that arrives on X16 (R382). -/
def cryptoTake (r : CryptoReq) (s : State) : State :=
  let after := s.grt.cmds.any (fun c => (c.op == 4 || c.op == 5) && (opNeeds r.op).isSome && inTree s c.slot r.slot)
  setGrt { s.grt with reqs := s.grt.reqs ++ [⟨r, after, false⟩] } s

/-- KEY_GENERATE (R377). -/
def execKeyGenerate (p : Path) (s : State) : Ans := .next (hostOwn p 2 (toIsland .grotto (keyGoOp p 1)) s)

/-- KEY_WRITE (R378). -/
def execKeyWrite (p : Path) (s : State) : Ans := .next (hostOwn p 2 (toIsland .grotto (keyGoOp p 2)) s)

/-- KEY_IMPORT (R378). -/
def execKeyImport (p : Path) (s : State) : Ans := .next (hostOwn p 2 (toIsland .grotto (keyGoOp p 3)) s)

/-- KEY_INVALIDATE (R381). -/
def execKeyInvalidate (p : Path) (s : State) : Ans := .next (hostOwn p 2 (toIsland .grotto (keyGoOp p 4)) s)

/-- KEY_DESTROY (R381). -/
def execKeyDestroy (p : Path) (s : State) : Ans := .next (hostOwn p 2 (toIsland .grotto (keyGoOp p 5)) s)

/-- KEY_READPUB (R377). -/
def execKeyReadpub (p : Path) (s : State) : Ans := .next (hostOwn p 2 (toIsland .grotto (keyGoOp p 6)) s)

/-- ORPHAN_ZERO (R381). -/
def execOrphanZero (s : State) : Ans := awake .grotto s <| .next (orphanZero s)

/-- KEY_DATA_EXPIRY (R377). -/
def execKeyDataExpiry (s : State) : Ans := awake .grotto s <| .next (keyDataPut [] s)

/-- CRYPTO_REQUEST (R382). -/
def execCryptoRequest (r : CryptoReq) (s : State) : Ans := awake .grotto s <| .next (cryptoTake r s)

/-- CRYPTO_OPERATION_DONE (R384): the oldest request of a class. -/
def execCryptoOperationDone (cls : Nat) (s : State) : Ans := awake .grotto s <| .next (cryptoDone cls s)

/-- DRBG_RESEED (R386): whether the health tests pass. -/
def execDrbgReseed (healthy : Bool) (s : State) : Ans := awake .grotto s <|
  .next (if s.on Fd.KEY_STAT_DRBGOK && !healthy then
    faultOther 2 .grotto ((s.lower Fd.KEY_STAT_DRBGOK).raise Fd.KEY_EVT_RNGFAIL) else s)

end Sys2Proof.Machine
end

