-- ==== Sys2Proof/Machine/Waybills.lean ====
section
/-!
DEFINITION. Waybills signed by the Grotto and made readable (spec/05_billing_registers.md R200 to R205; spec/11_grotto_keys.md R385, R387).
-/
namespace Sys2Proof.Machine

/-- METER_ID as 8 bytes in the order of a register read (R11). -/
def meterId (s : State) : List Byte := Bits.leBytes 4 (s.regN (Reg.SYS_METERID 0)) ++ Bits.leBytes 4 (s.regN (Reg.SYS_METERID 1))

/-- The length of a Waybill, signature included (R202, R203). -/
def wbLength (w : Waybill) : Nat := 40 + w.body.length + (if w.sigAlg = 2 then 96 else 64)

/-- A Waybill's bytes before its signature (R200 to R203). -/
def wbBytes (s : State) (w : Waybill) : List Byte :=
  Bits.leBytes 1 1 ++ Bits.leBytes 1 w.kind ++ Bits.leBytes 1 w.sigAlg ++ Bits.leBytes 1 w.keySlot ++ Bits.leBytes 2 (wbLength w)
    ++ Bits.leBytes 2 w.status ++ meterId s ++ Bits.leBytes 4 w.seq ++ Bits.leBytes 4 w.tStart ++ Bits.leBytes 4 w.tEnd
    ++ Bits.leBytes 2 w.ttgen ++ Bits.leBytes 2 (Bits.ofInt 16 w.tz) ++ Bits.leBytes 4 w.blkEnd ++ Bits.leBytes 1 w.rate
    ++ Bits.leBytes 1 w.keyGen ++ [0, 0] ++ w.body

/-- Whether the key in WB_KEYSLOT signs Waybills (R387). -/
def wbKeyOk (s : State) : Bool :=
  let n := s.parN Par.WB_KEYSLOT
  usable s n && slotUse s n 0 && slotUse s n 8 && slotType s n == s.parN Par.WB_SIGALG + 3

/-- The number of a Waybill's Token request: apart from the numbers of crypto requests. -/
def wbToken (w : Waybill) : Nat := 2 ^ 32 + w.seq

/-- A Waybill signed and made readable (R204, R205): its four fields set from the parameters and the key's generation in force. -/
def wbAttach (w : Waybill) (s : State) : State :=
  let n := s.parN Par.WB_KEYSLOT
  let w1 : Waybill := { w with sigAlg := s.parN Par.WB_SIGALG, keySlot := n, keyGen := s.get (Fd.KEY_SLOT_GEN n) }
  let w2 : Waybill := { w1 with sig := Config.crypto (w1.sigAlg - 1) (keyOf s n) (wbBytes s w1) }
  let b := { s.bil with unsigned := s.bil.unsigned.erase w }
  showWaybills { s with bil := if w.kind = 1 then { b with sessWb := (w2 :: b.sessWb).take 16384 }
                               else { b with intWb := (w2 :: b.intWb).take 40960 } }

/-- The oldest unsigned Waybill signed (R204), under a Token of kind 6 for P-384 (R385). -/
def wbSign (s : State) : State :=
  match s.bil.unsigned with
  | [] => s
  | w :: _ =>
    let k := wbToken w
    if s.bil.signRetry || s.pfw || !wbKeyOk s then s
    else if s.parN Par.WB_SIGALG = 1 then wbAttach w s
    else if tokHolds s 6 k then tokRelease 6 k (wbAttach w s)
    else if tokWaits s 6 k then s
    else match tokRequest 6 k 0 s with
      | (.granted, t) => tokRelease 6 k (wbAttach w t)
      | (.deferred, t) => t
      | (.refused _, t) => { t.raise Fd.KEY_EVT_TOKEN with bil := { t.bil with signRetry := true } }

/-- WAYBILL_SIGNED (R204). -/
def execWaybillSigned (s : State) : Ans := .next (wbSign s)

/-- WAYBILL_SIGN_RETRY (R385): 1 s after a refused Token. -/
def execWaybillSignRetry (s : State) : Ans := .next (wbSign { s with bil := { s.bil with signRetry := false } })

end Sys2Proof.Machine
end

