-- ==== Sys2Proof/Machine/HostSession.lean ====
section
/-!
DEFINITION. Privileged sessions of the host paths and the Ethernet connection (spec/23_host_interface.md R626, R627, R629 to R631, R640).
-/
namespace Sys2Proof.Machine

/-- A new challenge (R630): 32 random bytes, or none while the random generator is stopped. -/
def newChallenge (p : Path) (s : State) : State :=
  if s.on Fd.KEY_STAT_DRBGOK then
    let x := freshBytes 8 s
    let t := upTo 8 (fun w t => t.setRegN (Reg.HIF_CHAL p w) (Bits.ofLeBytes ((x.1.drop (4 * w)).take 4))) x.2
    setHif p { hifPath t p with chal := some (t.regN Reg.SYS_UPTIME) } t
  else setHif p { hifPath s p with chal := none } s

/-- Whether a path's challenge is valid: drawn in the last 30 s, and no attempt made with it (R630). -/
def chalValid (s : State) (p : Path) : Bool :=
  match (hifPath s p).chal with
  | some t => decide (s.regN Reg.SYS_UPTIME ≤ t + 30)
  | none => false

/-- RESULT of a path. -/
def sesResult (p : Path) (code : Nat) (s : State) : State := s.put ⟨Reg.HIF_SESSTAT p, 0, 8⟩ code

/-- An attempt fails (R630, R631): the third one within 60 s locks the path's attempts. -/
def attemptFail (p : Path) (code : Nat) (s : State) : State :=
  let t := (sesResult p code (s.bumpReg (Reg.HIF_CNT 4))).raise Fd.HIF_EVT_SESFAIL
  if code = 4 then t
  else
    let now := t.regN Reg.SYS_UPTIME
    let fails := now :: (hifPath t p).fails.filter (fun u => decide (now ≤ u + 60))
    if 3 ≤ fails.length then (setHif p { hifPath t p with fails := fails, locked := true } t).raise Fd.HIF_EVT_SESLOCK
    else setHif p { hifPath t p with fails := fails } t

/-- Whether the key of a level may verify (R630). -/
def levelKeyOk (s : State) (level : Nat) : Bool :=
  match levelKey s level with
  | some n => usable s n && (slotType s n == 6 || slotType s n == 7) && slotUse s n 1
  | none => false

/-- The message that the host signs (R630). -/
def sessionMessage (s : State) (p : Path) (level : Nat) : List Byte :=
  (List.range 8).flatMap (fun w => Bits.leBytes 4 (s.regN (Reg.HIF_CHAL p w))) ++ meterId s ++ Bits.leBytes 1 level ++ Bits.leBytes 1 (pathNum p)

/-- The signature written (R630): 64 bytes for a P-256 key, 96 for a P-384 key. -/
def sessionSig (s : State) (p : Path) (type : Nat) : List Byte :=
  (List.range (if type = 6 then 16 else 24)).flatMap (fun w => Bits.leBytes 4 (s.regN (Reg.HIF_SESSIG p w)))

/-- GO (R630, R640): ignored while a verification runs; the challenge serves this one attempt. -/
def sessionSubmit (p : Path) (level : Nat) (s : State) : State :=
  if (hifPath s p).verify.isSome then s
  else if (hifPath s p).locked then attemptFail p 4 s
  else
    let valid := chalValid s p
    let t := setHif p { hifPath s p with chal := none } s
    if !valid then attemptFail p 1 t
    else
      match levelKey t level with
      | none => attemptFail p 2 t
      | some n =>
        if levelKeyOk t level then
          setHif p { hifPath t p with verify := some (level, sessionMessage t p level, sessionSig t p (slotType t n)) } t
        else attemptFail p 2 t

/-- The verification of an attempt ends (R630). -/
def sessionVerified (p : Path) (s : State) : State :=
  match (hifPath s p).verify with
  | none => s
  | some (level, message, sig) =>
    let t := setHif p { hifPath s p with verify := none } s
    match levelKey t level with
    | none => attemptFail p 2 t
    | some n =>
      if !levelKeyOk t level then attemptFail p 2 t
      else if Config.verifies (keyOf t n) message sig then
        sesResult p 0 ((setLevel p level (setHif p { hifPath t p with sess := true } t)).bumpReg (Reg.HIF_CNT 3))
      else attemptFail p 3 t

/-- A write of HIF_SESCTL (R630, R631): CLOSE, then GO, then NEWCHAL. -/
def sesctlWrite (p : Path) (w : Word) (s : State) : State :=
  let t := when (Bits.bit w 6) (hifEnd p) s
  let t := when (Bits.bit w 5) (sessionSubmit p (Bits.get w 0 2)) t
  when (Bits.bit w 4) (newChallenge p) t

/-- A connection asked for (R626): refused while one is open; TLS needs the random generator (R386) and the module's identity key. -/
def ethConnect (s : State) : State :=
  if !s.parB Par.HIF_ETH_EN || !s.running || s.held .siteLink then s
  else if s.on Fd.HIF_STAT_ETHCONN then s.raise Fd.HIF_EVT_ETHREF
  else if s.on Fd.KEY_STAT_DRBGOK && usable s 0 then s.raise Fd.HIF_STAT_ETHCONN
  else s

/-- The connection closes (R627, R631). -/
def ethClose (s : State) : State := if s.on Fd.HIF_STAT_ETHCONN then (hifEnd .eth s).lower Fd.HIF_STAT_ETHCONN else s

/-- SESSION_NEW_CHALLENGE (R630): a write of HIF_SESCTL.NEWCHAL. -/
def execSessionNewChallenge (p : Path) (s : State) : Ans := .next (hostOwn p 0 (newChallenge p) s)

/-- SESSION_SUBMIT (R630): a write of HIF_SESCTL.GO with LEVEL. -/
def execSessionSubmit (p : Path) (level : Nat) (s : State) : Ans := .next (hostOwn p 0 (sessionSubmit p (level % 4)) s)

/-- SESSION_VERIFY_DONE (R630). -/
def execSessionVerifyDone (p : Path) (s : State) : Ans := .next (sessionVerified p s)

/-- SESSION_CLOSE (R631): a write of HIF_SESCTL.CLOSE. -/
def execSessionClose (p : Path) (s : State) : Ans := .next (hostOwn p 0 (hifEnd p) s)

/-- SESSION_IDLE_TIMEOUT (R631). -/
def execSessionIdleTimeout (p : Path) (s : State) : Ans := .next (hifEnd p s)

/-- SESSION_LOCK_END (R631). -/
def execSessionLockEnd (p : Path) (s : State) : Ans := .next (setHif p { hifPath s p with fails := [], locked := false } s)

/-- HIF_ETH_CONNECT (R626). -/
def execHifEthConnect (s : State) : Ans := .next (ethConnect s)

/-- HIF_ETH_CLOSE (R627). -/
def execHifEthClose (s : State) : Ans := .next (ethClose s)

end Sys2Proof.Machine
end

