-- ==== Sys2Proof/Machine/Fabric.lean ====
section
/-!
DEFINITION. The memories on the fabric (spec/21_memory_sidings.md R591, spec/22_shunter_dma.md R608): SRAM, data MRAM, the two code NVM banks and the
configuration flash, one byte at each fabric address.
-/
namespace Sys2Proof.Machine

/-- What a byte that nothing has written reads as: NVM and flash are erased, SRAM and MRAM read 0. -/
def fabDefault (a : Nat) : Byte := if 0x30000000 ≤ a ∧ a < 0x50000000 then 0xFF else 0

/-- A byte of the memories. -/
def Memory.read (m : List Host.Cell) (a : Nat) : Byte := Sparse.get fabDefault m a

/-- A byte of the memories written. -/
def Memory.write (m : List Host.Cell) (a : Nat) (b : Byte) : List Host.Cell := Sparse.set fabDefault m a b

/-- The canonical form of the memories. -/
def Memory.wf (m : List Host.Cell) : Bool := Sparse.wf fabDefault m

/-- Bytes written from an address on. -/
def Memory.writes : List Host.Cell → Nat → List Byte → List Host.Cell
  | m, _, [] => m
  | m, a, b :: bs => Memory.writes (Memory.write m a b) (a + 1) bs

/-- Bytes read from an address on. -/
def Memory.reads (m : List Host.Cell) (a n : Nat) : List Byte := (List.range n).map (fun i => Memory.read m (a + i))

/-- The cells of a range of addresses read as if nothing had written them. -/
def Memory.erase (m : List Host.Cell) (a n : Nat) : List Host.Cell := m.filter (fun c => decide (c.1 < a) || decide (a + n ≤ c.1))

/-- The regions of R608. -/
inductive Region where
  | registers
  | sram
  | mram
  | nvm (bank : Nat)
  | flash
  | crossing (x : Nat)
  deriving DecidableEq, Repr

/-- The region of a fabric address, where one exists (R608). -/
def region (a : Nat) : Option Region :=
  if a < 0x1000000 then some .registers
  else if 0x10000000 ≤ a ∧ a < 0x10C00000 then some .sram
  else if 0x20000000 ≤ a ∧ a < 0x22000000 then some .mram
  else if 0x30000000 ≤ a ∧ a < 0x31000000 then some (.nvm 0)
  else if 0x31000000 ≤ a ∧ a < 0x32000000 then some (.nvm 1)
  else if 0x40000000 ≤ a ∧ a < 0x50000000 then some .flash
  else if 0x50000000 ≤ a ∧ a < 0x50000000 + 21 * 0x100000 then some (.crossing ((a - 0x50000000) / 0x100000))
  else none

/-- The memories' state replaced. -/
def setMem (m : MemState) (s : State) : State := { s with mem := m }

/-- Bytes of the memories written. -/
def fabWrite (a : Nat) (bs : List Byte) (s : State) : State := setMem { s.mem with cells := Memory.writes s.mem.cells a bs } s

/-- Bytes of the memories. -/
def fabBytes (s : State) (a n : Nat) : List Byte := Memory.reads s.mem.cells a n

/-- A range of the memories erased. -/
def fabErase (a n : Nat) (s : State) : State := setMem { s.mem with cells := Memory.erase s.mem.cells a n } s

/-- Where the configuration flash begins on the fabric. -/
def flashBase : Nat := 0x40000000

/-- Bytes of the configuration flash (R533). -/
def flashBytes (s : State) (a n : Nat) : List Byte := fabBytes s (flashBase + a) n

/-- Where a code bank begins on the fabric. -/
def bankBase (b : Nat) : Nat := 0x30000000 + 0x1000000 * b

end Sys2Proof.Machine
end

