-- ==== Sys2Proof/Machine/Health.lean ====
section
/-!
DEFINITION. Error counts, replacement from the Sidings, wear and life (spec/21_memory_sidings.md R592 to R603).
-/
namespace Sys2Proof.Machine

/-- The spares of a kind (R602). -/
def kindTotal (s : State) (k : Nat) : Nat :=
  if !s.isF ∧ (k = 3 ∨ k = 5 ∨ k = 7) then 0 else ([368, 491, 20, 2, 9, 2, 3, 1, 1] : List Nat).getD k 0

/-- The kind of a memory as MEM_ECC numbers it: SRAM rows, MRAM sectors, code NVM sectors. -/
def memKind (m : Nat) : Nat := min m 2

/-- The spares used of a kind, as its own chapter counts them (R599). -/
def kindUsed (s : State) (k : Nat) : Nat :=
  match k with
  | 3 => kindTotal s 3 - s.get Fd.AFE_STAT_CSPARE
  | 4 => ((List.range 9).filter (fun i => s.bitOf Reg.CLK_STAT (16 + i))).length
  | 5 => kindTotal s 5 - s.get Fd.AFE_STAT_LSPARE
  | 6 => ((List.range 8).filter (fun b => s.get (Fd.KEY_PUFBLK_ROLE b) == 6)).length
  | 7 => if s.get Fd.EFT_TRIPMAP_PAIR1 = 2 ∨ s.get Fd.EFT_TRIPMAP_PAIR2 = 2 then 1 else 0
  | 8 => if [0, 1].any (fun e => s.get (Fd.PTS_ENG_STATE e) == 7) then 1 else 0
  | _ => s.get (Fd.MEM_KIND_USED k)

/-- The spares of a memory's kind that are left: 10 for each code NVM bank (R591). -/
def memSpares (s : State) (m : Nat) : Nat :=
  if m < 2 then kindTotal s m - s.get (Fd.MEM_KIND_USED m)
  else 10 - (s.mem.remap.filter (fun e => e.1 == m)).length

/-- USED and LEFT of a kind shown. -/
def kindShow (k used : Nat) (s : State) : State :=
  (s.put (Fd.MEM_KIND_USED k) used).put (Fd.MEM_KIND_LEFT k) (kindTotal s k - used)

/-- A unit replaced by a spare (R598): a sector of code NVM is mapped empty when bare. -/
def memReplaced (bare : Bool) (m unit : Nat) (s : State) : State :=
  let k := memKind m
  let t := setMem { s.mem with remap := s.mem.remap ++ [(m, unit)], events := s.mem.events ++ [(k, s.regN Reg.MEM_HOURS)] } s
  let t := when (bare && decide (2 ≤ m)) (fabErase (bankBase (m - 2) + 0x10000 * unit) 0x10000) t
  faultNote 1 .core 2 ((kindShow k (s.get (Fd.MEM_KIND_USED k) + 1) t).raise Fd.MEM_EVT_REPLACE)

/-- The number under which a replacement in the active code bank asks for its Token of kind 8. -/
def moveToken (m unit : Nat) : Nat := 0x10000 * m + unit

/-- MOVING shown. -/
def moveShow (s : State) : State := s.putB Fd.MEM_STAT_MOVING (!s.mem.moves.isEmpty)

/-- A unit due for replacement (R597, R598, R604): a row of SRAM and a sector of the inactive code bank are replaced at once; a sector of data
MRAM, or of the active bank under a Token of kind 8, is moved; without a spare the worn unit stays in use. -/
def memDue (v : MemMove) (s : State) : State :=
  if s.pfw then (if v ∈ s.mem.due then s else setMem { s.mem with due := s.mem.due ++ [v] } s)
  else if s.mem.moves.any (fun x => x.mem == v.mem && x.unit == v.unit) then s
  else if memSpares s v.mem = 0 then faultNote 1 .core 2 (s.raise Fd.MEM_EVT_NOSPARE)
  else if v.mem = 0 ∨ (2 ≤ v.mem ∧ v.mem - 2 ≠ s.get Fd.UPD_STAT_BANK) then memReplaced true v.mem v.unit s
  else
    let t := moveShow (setMem { s.mem with moves := s.mem.moves ++ [v] } s)
    if v.mem = 1 then t else (tokRequest 8 (moveToken v.mem v.unit) 0 t).2

/-- A move that has been verified, or whose Token is held: its mapping is switched (R598). -/
def moveDone (v : MemMove) (s : State) : State :=
  let t := setMem { s.mem with moves := s.mem.moves.filter (fun x => !(x.mem == v.mem && x.unit == v.unit)) } s
  let t := if v.mem = 1 then t else tokRelease 8 (moveToken v.mem v.unit) t
  moveShow (memReplaced v.lost v.mem v.unit t)

/-- A codeword corrected (R592). -/
def eccCorrected (h : MemHit) (s : State) : State :=
  (((s.bump (Fd.MEM_ECC_CORR h.mem)).raise Fd.MEM_EVT_CORR).setRegN Reg.MEM_LASTERR
    (h.mem * 2 ^ 30 + h.cword % 2 ^ 29))

/-- A codeword found uncorrectable (R592). -/
def eccLost (h : MemHit) (s : State) : State :=
  (((s.bump (Fd.MEM_ECC_UNCORR h.mem)).raise Fd.MEM_EVT_UNCORR).setRegN Reg.MEM_LASTERR
    (h.mem * 2 ^ 30 + 2 ^ 29 + h.cword % 2 ^ 29))

/-- The corrected codewords of a sector in this scrub pass. -/
def passCount (s : State) (m unit : Nat) : Nat :=
  ((s.mem.pass.find? (fun e => e.1 == m && e.2.1 == unit)).map (·.2.2)).getD 0

/-- A corrected codeword judged (R597): scrub, whether the scrub read it. -/
def wearJudge (scrub : Bool) (h : MemHit) (s : State) : State :=
  if h.mem = 0 then
    let here := h.errs.map (fun p => (h.cword, p))
    let again := scrub && here.any (fun e => s.mem.symLast.contains e)
    let t := if scrub then setMem { s.mem with symNow := s.mem.symNow ++ here } s else s
    if 2 ≤ h.errs.length ∨ again then memDue ⟨0, h.unit, false⟩ t else t
  else if scrub then
    let n := passCount s h.mem h.unit + 1
    let rest := s.mem.pass.filter (fun e => !(e.1 == h.mem && e.2.1 == h.unit))
    let t := setMem { s.mem with pass := rest ++ [(h.mem, h.unit, n)] } s
    if h.mem = 1 ∧ s.parN Par.MRAM_SECLIM ≤ n then memDue ⟨1, h.unit, false⟩ t else t
  else s

/-- The end of a scrub pass (R595, R596): code NVM sectors are judged, and the next pass begins. -/
def scrubEnd (s : State) : State :=
  let worn := s.mem.pass.filter (fun e => decide (2 ≤ e.1) && decide (s.parN Par.NVM_SECLIM ≤ e.2.2))
  let t := worn.foldl (fun t e => memDue ⟨e.1, e.2.1, false⟩ t) s
  (setMem { t.mem with pass := [], symLast := t.mem.symNow, symNow := [] } t).bumpReg Reg.MEM_SCRUBCNT |>.put Fd.MEM_STAT_SCRUBPCT 0

/-- Service months (R601). -/
def serviceMonths (s : State) : Rat := (s.regN Reg.MEM_HOURS : Rat) * 2 / 1461

/-- The window w of R601, in months. -/
def wearWindow (s : State) : Rat :=
  let m := serviceMonths s
  if m < 12 then 12 else if 36 < m then 36 else m

/-- Whether a service hour lies in the last w months. -/
def inWindow (s : State) (hour : Nat) : Bool :=
  decide ((s.regN Reg.MEM_HOURS : Rat) - wearWindow s * 1461 / 2 < (hour : Rat))

/-- The replacements of a kind in the last w months. -/
def kindEvents (s : State) (k : Nat) : Nat := (s.mem.events.filter (fun e => e.1 == k && inWindow s e.2)).length

/-- The highest count at the beginning of the window: of MRAM writes, or of code NVM erases. -/
def highThen (s : State) (k : Nat) : Nat :=
  match (s.mem.highs.filter (fun e => !inWindow s e.1)).getLast? with
  | some e => if k = 1 then e.2.1 else e.2.2
  | none => 0

/-- The rated endurance of data MRAM and code NVM (R591). -/
def rated (k : Nat) : Nat := if k = 1 then 10 ^ 12 else 100000

/-- The spare life of a kind in months (R601). -/
def spareLife (s : State) (k : Nat) : Option Rat :=
  let left := s.get (Fd.MEM_KIND_LEFT k)
  let n := kindEvents s k
  if left = 0 then some 0 else if n = 0 then none else some ((left : Rat) * wearWindow s / (n : Rat))

/-- The endurance life of data MRAM and code NVM in months (R601), from the highest count of any unit. -/
def enduranceLife (s : State) (k high : Nat) : Option Rat :=
  let rise := high - highThen s k
  if k = 1 ∨ k = 2 then
    if rise = 0 then none else some (((rated k : Rat) - (high : Rat)) * wearWindow s / (rise : Rat))
  else none

/-- The lower of two lives. -/
def lowerLife : Option Rat → Option Rat → Option Rat
  | none, b => b
  | a, none => a
  | some a, some b => some (if a ≤ b then a else b)

/-- LIFE as its register shows it (R601). -/
def lifeWord (l : Option Rat) : Nat :=
  match l with
  | none => 0xFFFF
  | some x => if 65534 < x then 0xFFFF else (Exact.floor x).toNat

/-- WEAR of a kind in 0.1 % (R601). -/
def kindWear (s : State) (k used high : Nat) : Nat :=
  let total := kindTotal s k
  let a : Rat := if total = 0 then 0 else (used : Rat) / (total : Rat)
  let b : Rat := if k = 1 ∨ k = 2 then (high : Rat) / (rated k : Rat) else 0
  min 1023 (Exact.toInt ((if a < b then b else a) * 1000)).toNat

/-- The module's remaining life in months (R600). -/
def remainingLife (s : State) : Rat := (262980 - s.mem.age) * 2 / 1461

/-- One kind recomputed (R601). -/
def kindUpdate (mram nvm k : Nat) (s : State) : State :=
  let used := kindUsed s k
  let fresh := used - s.get (Fd.MEM_KIND_USED k)
  let high := if k = 1 then mram else if k = 2 then nvm else 0
  let t := kindShow k used (setMem { s.mem with events := s.mem.events ++ List.replicate fresh (k, s.regN Reg.MEM_HOURS) } s)
  let t := t.put (Fd.MEM_KIND_WEAR k) (kindWear t k used high)
  (t.put (Fd.MEM_LIFE_EVENTS k) (min 0xFFFF (kindEvents t k))).put (Fd.MEM_LIFE_LIFE k)
    (lifeWord (lowerLife (spareLife t k) (enduranceLife t k high)))

/-- The hourly update (R156, R600, R601): mram and nvm are the highest write count of a data MRAM unit and erase count of a code NVM unit. -/
def healthUpdate (mram nvm : Nat) (s : State) : State :=
  let t := faultsShow (s.bumpReg Reg.MEM_HOURS)
  let x : Rat × State :=
    if s.mem.tempN = 0 then
      let w := t.fresh
      ((w.1.toInt : Rat), w.2)
    else ((s.mem.tempSum : Rat) / ((10 * s.mem.tempN : Nat) : Rat), t)
  let age := s.mem.age + Config.pow2 ((x.1 - 55) / 10)
  let t := setMem { x.2.mem with age := age, tempSum := 0, tempN := 0 } x.2
  let t := t.setRegN Reg.MEM_AGE (Exact.toInt age).toNat
  let t := upTo 9 (kindUpdate mram nvm) t
  let t := setMem { t.mem with highs := t.mem.highs ++ [(t.regN Reg.MEM_HOURS, mram, nvm)] } t
  let warn := s.parN Par.LIFE_WARN
  let low := (List.range 9).any (fun k => decide (t.get (Fd.MEM_LIFE_LIFE k) < warn)) || decide (remainingLife t < (warn : Rat))
  if low then t.raise Fd.MEM_EVT_LIFEWARN else t

/-- The health report summary (R603). -/
def healthSummary (s : State) : List Byte :=
  let ecc := fun (f : Nat → RegField) => (([0, 1, 2, 3] : List Nat).map (fun m => s.get (f m))).sum
  let kind := fun (k : Nat) =>
    Bits.leBytes 2 (s.get (Fd.MEM_KIND_WEAR k)) ++ Bits.leBytes 2 (kindTotal s k) ++ Bits.leBytes 2 (s.get (Fd.MEM_KIND_USED k))
      ++ Bits.leBytes 2 (s.get (Fd.MEM_KIND_LEFT k)) ++ Bits.leBytes 2 (s.get (Fd.MEM_LIFE_LIFE k))
      ++ Bits.leBytes 2 (s.get (Fd.MEM_LIFE_EVENTS k)) ++ [0, 0, 0, 0]
  let retired := (if s.get (Fd.PTS_ENG_STATE 0) = 7 then 1 else 0) + (if s.get (Fd.PTS_ENG_STATE 1) = 7 then 2 else 0)
  [1, 9, 0, 0] ++ Bits.leBytes 4 (s.regN Reg.BTM_TIME) ++ Bits.leBytes 4 (s.regN Reg.MEM_AGE) ++ Bits.leBytes 4 (s.regN Reg.MEM_HOURS)
    ++ Bits.leBytes 4 (ecc Fd.MEM_ECC_CORR) ++ Bits.leBytes 4 (ecc Fd.MEM_ECC_UNCORR) ++ Bits.leBytes 4 (s.regN Reg.MEM_SCRUBCNT)
    ++ Bits.leBytes 4 (Exact.toInt (remainingLife s)).toNat ++ (List.range 9).flatMap kind
    ++ Bits.leBytes 2 (s.get Fd.PTS_CNT_CHANGES) ++ Bits.leBytes 1 (s.get (Fd.PTS_ENG_FAULTS 0)) ++ Bits.leBytes 1 (s.get (Fd.PTS_ENG_FAULTS 1))
    ++ Bits.leBytes 1 retired ++ List.replicate 75 0

/-- SCRUB_PASS_DONE (R595, R596): while PFW_N is asserted the scrub stops. -/
def execScrubPassDone (s : State) : Ans := .next (if s.on Fd.MEM_STAT_SCRUB && !s.pfw then scrubEnd s else s)

/-- SCRUB_LATE (R595). -/
def execScrubLate (s : State) : Ans := .next (s.raise Fd.MEM_EVT_SCRUBLATE)

/-- SECTOR_MOVE_DONE (R598, R614): the copy of a unit has been verified with the mismatches found; with none the mapping is switched. A unit of
the active code bank needs its Token. -/
def execSectorMoveDone (m unit mism : Nat) (s : State) : Ans :=
  .next (match s.mem.moves.find? (fun x => x.mem == m && x.unit == unit) with
    | some v => if mism = 0 ∧ !s.pfw ∧ (m = 1 ∨ tokHolds s 8 (moveToken m unit)) then moveDone v s else s
    | none => s)

/-- HEALTH_UPDATE (R600, R601). -/
def execHealthUpdate (mram nvm : Nat) (s : State) : Ans := .next (healthUpdate mram nvm s)

end Sys2Proof.Machine
end

