-- ==== Sys2Proof/Machine/HostView.lean ====
section
/-!
DEFINITION. What a host read of a register returns (spec/00_scope.md R5, R9 to R13, spec/05_billing_registers.md R185, R187, spec/23_host_interface.md
R623, R639, spec/24_faults_ordering.md R643).
-/
namespace Sys2Proof.Machine

/-- The event registers behind the bits EVT1 and EVT2 of HIF_ISRC, in the order of the bits: the eleven blocks from SYS, and the sixteen from EFT. -/
def evtRegs1 : List (List Nat) :=
  [[Reg.SYS_CFGEVT], [Reg.TOK_EVT], [Reg.PWR_EVT, Reg.PWR_TEMPEVT], [Reg.CLK_EVT], [Reg.MEM_EVT], [Reg.SHN_ERR], [Reg.AFE_EVT], [Reg.MTR_EVT],
   [Reg.PTS_EVT], [Reg.BIL_EVT], [Reg.BTM_EVT]]

/-- EVT2's registers. -/
def evtRegs2 : List (List Nat) :=
  [[Reg.EFT_EVT], [Reg.SWC_EVT], [Reg.CPL_EVT], [Reg.VPL_EVT], [Reg.SES_EVT], [Reg.ETH_EVT], [Reg.PTP_EVT], [Reg.STG_EVT], [Reg.AMB_EVT],
   [Reg.DLM_EVT], [Reg.KEY_EVT], [Reg.UPD_EVT], [Reg.NFC_EVT], [Reg.LSW_EVT], [Reg.LCD_EVT], [Reg.HIF_EVT]]

/-- The number that a list of bits spells, the first one lowest. -/
def bitsOf : List Bool → Nat
  | [] => 0
  | b :: bs => (if b then 1 else 0) + 2 * bitsOf bs

/-- Whether an event register of a block is not zero. -/
def evtOn (s : State) (regs : List Nat) : Bool := regs.any (fun a => s.reg a != 0)

/-- HIF_ISRC: only SAF is held in the register. -/
def isrcWord (s : State) : Word :=
  BitVec.ofNat 32 (bitsOf (evtRegs1.map (evtOn s) ++ [s.on Fd.HIF_ISRC_SAF] ++ evtRegs2.map (evtOn s)
    ++ [!(queue s 28).isEmpty, !(queue s 29).isEmpty, s.on Fd.SES_AUTHREQ_PEND]))

/-- HIF_STAT with the messages in the mailbox's queues. -/
def hifStatWord (s : State) : Word :=
  let q := fun (n : Nat) => min 8 (queue s n).length
  let t := (s.put Fd.HIF_STAT_MBQ28 (q 28)).put Fd.HIF_STAT_MBQ29 (q 29)
  ((t.put Fd.HIF_STAT_MBQ30 (q 30)).put Fd.HIF_STAT_MBQ31 (q 31)).reg Reg.HIF_STAT

/-- The seconds of lock that remain on a path (R631). -/
def lockLeft (s : State) (p : Path) : Nat :=
  let x := hifPath s p
  if x.locked then 60 - (s.regN Reg.SYS_UPTIME - x.fails.headD 0) else 0

/-- HIF_SESSTAT of a path. -/
def sesStatWord (s : State) (p : Path) : Word :=
  Bits.put (Bits.put (s.reg (Reg.HIF_SESSTAT p)) 16 8 (lockLeft s p)) 8 1 (if (hifPath s p).verify.isSome then 1 else 0)

/-- Whether a class 1 fault persists (R643): a spare is used, no spare is left for a clock, the Points are in simplex, TRIPOK is 0. -/
def degraded (s : State) : Bool :=
  (List.range 9).any (fun k => kindUsed s k != 0) || (List.range 9).any (fun i => s.get (Fd.CLK_ISL_STATE i) == 2)
    || s.get Fd.PTS_STAT_MODE == 1 || (s.isF && !s.on Fd.EFT_STAT_TRIPOK)

/-- Whether a class 2 fault persists (R643). -/
def funcFault (s : State) : Bool :=
  s.on Fd.KEY_STAT_ROOTFAIL || !s.on Fd.KEY_STAT_DRBGOK || [0, 1].all (fun e => s.get (Fd.PTS_ENG_STATE e) == 7)
    || s.on Fd.SYS_FLT_BILLOST || s.on Fd.SYS_FLT_FWBANK

/-- SYS_FLT with DEGR and FUNC. -/
def fltWord (s : State) : Word :=
  Bits.put (Bits.put (s.reg Reg.SYS_FLT) 16 1 (if degraded s then 1 else 0)) 17 1 (if funcFault s then 1 else 0)

/-- Half of a 64-bit number, the low one first. -/
def half64 (v i : Nat) : Word := BitVec.ofNat 32 (if i = 0 then v else v / 2 ^ 32)

/-- The registers of the committed and the provisional view, whose values follow from the accumulators (R167, R185). -/
def billWord (s : State) (a : Nat) : Option Word :=
  if Reg.BIL_ENERGY 0 0 0 ≤ a ∧ a < Reg.BIL_ENERGY 0 0 0 + 4 * 374 then
    let i := (a - Reg.BIL_ENERGY 0 0 0) / 8
    some (half64 (energyOf s (i / 17) (i % 17)) (a / 4 % 2))
  else if Reg.BIL_PROV 0 0 ≤ a ∧ a < Reg.BIL_PROV 0 0 + 4 * 22 then some (half64 (provOf s ((a - Reg.BIL_PROV 0 0) / 8)) (a / 4 % 2))
  else none

/-- A frozen register's value (R187). -/
def frozenWord (s : State) (a : Nat) : Option Word := (s.bil.frozen.find? (fun e => e.1 == a)).map (·.2)

/-- The word that a register holds for a path, before its reserved fields. -/
def rawWord (s : State) (p : Path) (r : RegMap.RegRow) (a : Nat) : Word :=
  match frozenWord s a with
  | some w => w
  | none =>
    match billWord s a with
    | some w => w
    | none =>
      if a = Reg.HIF_ISRC then isrcWord s
      else if a = Reg.HIF_STAT then hifStatWord s
      else if a = Reg.SYS_FLT then fltWord s
      else if a = 0x60014 then sesStatWord s p
      else s.reg (if r.perPath then a + p.bank else a)

/-- The bits of a register that the module's variant has (R5). -/
def variantMask (s : State) (r : RegMap.RegRow) : Nat := if s.isF then 0xFFFFFFFF ^^^ r.mOnly else 0xFFFFFFFF ^^^ r.fOnly

/-- What a host reads at a defined address: reserved fields, write-only fields and fields of an absent function read zero (R5, R12, R13). -/
def hostWord (s : State) (p : Path) (r : RegMap.RegRow) (a : Nat) : Word :=
  rawWord s p r a &&& BitVec.ofNat 32 (r.readable &&& variantMask s r)

/-- Whether an address is a word of a 64-bit register. -/
def wide64 (a : Nat) : Bool :=
  let within := fun (b n : Nat) => decide (b ≤ a) && decide (a < b + 4 * n)
  within (Reg.BIL_ENERGY 0 0 0) 374 || within (Reg.BIL_PROV 0 0) 22 || within (Reg.BIL_CREDIT 0) 2 || within (Reg.PTP_ST 0) 2
    || within (Reg.PTP_EVTTS 0) 2 || within (Reg.PTP_GMID 0 0) 4 || within (Reg.SYS_METERID 0) 2 || within (Reg.SES_ID 0) 2

/-- Whether an address is the low word of its 64-bit register. -/
def lowWord (a : Nat) : Bool := a == Reg.SES_ID 0 || (a % 8 == 0 && a != Reg.SES_ID 1)

/-- Latched high words replaced. -/
def setLatch (l : List (Path × Nat × Word)) (s : State) : State := { s with bil := { s.bil with latch := l } }

/-- A read of one word on a path (R187): a low word latches the high word of its register, and the next read of a high word takes it. -/
def readWord (p : Path) (r : RegMap.RegRow) (a : Nat) (s : State) : Word × State :=
  let w := hostWord s p r a
  if wide64 a then
    let rest := fun (h : Nat) => s.bil.latch.filter (fun e => !(e.1 == p && e.2.1 == h))
    if lowWord a then (w, setLatch ((p, a + 4, hostWord s p r (a + 4)) :: rest (a + 4)) s)
    else
      match s.bil.latch.find? (fun e => e.1 == p && e.2.1 == a) with
      | some e => (e.2.2, setLatch (rest a) s)
      | none => (w, s)
  else (w, s)

end Sys2Proof.Machine
end

