-- ==== Sys2Proof/Machine/LoadSwitch.lean ====
section
/-!
DEFINITION. The load-switch channels (spec/16_load_switches.md R498 to R520).
-/
namespace Sys2Proof.Machine

/-- The load switches' own state replaced. -/
def setLsw (l : LswState) (s : State) : State := { s with lsw := l }

/-- The state of a channel (LSW_CH.STATE). -/
def lsSt (s : State) (n : Nat) : Nat := s.get (Fd.LSW_CH_STATE n)

/-- A channel's state set. -/
def lsPut (n st : Nat) (s : State) : State := s.put (Fd.LSW_CH_STATE n) st

/-- Whether limp-home is in force. -/
def limp (s : State) : Bool := s.on Fd.LSW_STAT_LIMP

/-- The command of a channel (R500, R514). -/
def lsCmd (s : State) (n : Nat) : Bool :=
  let last := nth s.lsw.cmds n false
  if limp s then
    match s.parN (Par.LH_SRC n) with
    | 4 => true
    | 5 => false
    | 6 => last
    | k => (s.get Fd.LSW_LH_LH).testBit k
  else last

/-- A number taken out of a list. -/
def without (n : Nat) (l : List Nat) : List Nat := l.filter (fun k => k != n)

/-- A channel no longer waits for anything but its own state. -/
def lsForget (n : Nat) (s : State) : State :=
  setLsw { s.lsw with asks := without n s.lsw.asks, turns := without n s.lsw.turns } s

/-- The high-side switch on (R503): its window opens, and the turn-on is counted. -/
def lsOn (n : Nat) (s : State) : State :=
  let t := (lsPut n 1 (s.putBit Reg.LSW_STAT n true)).putB (Fd.LSW_CH_WINDOW n) (s.parN (Par.INRUSH_T n) != 0)
  lsForget n (t.bump (Fd.LSW_CNT_ONCNT n))

/-- Whether a channel's window is open. -/
def windowOpen (s : State) : Bool := (List.range 12).any (fun n => s.on (Fd.LSW_CH_WINDOW n))

/-- A refused Token (R505): it is asked for again after 1 s, and not before PFW_N has released. -/
def lsRefused (reason n : Nat) (s : State) : State :=
  let t := setLsw { s.lsw with asks := s.lsw.asks ++ [n] } (lsPut n 0 s)
  if reason = 1 then t else t.raise Fd.LSW_EVT_TOKREF

/-- Turning on (R503 to R505, R510, R513, R515): a channel that cannot turn on takes the state that it waits in. A channel whose low-side
switch R254 found conducting stays off (R512). -/
def lsTurnOn (n : Nat) (s : State) : State :=
  if s.saf.lsBan.testBit n then lsPut n 0 s
  else if s.on (Fd.LSW_CH_THLAT n) then lsPut n 3 s
  else if s.on Fd.LSW_STAT_UV then lsPut n 4 s
  else if s.lsw.lowOpen.contains n then lsPut n 6 s
  else if s.parN (Par.INRUSH_T n) = 0 then lsOn n s
  else if limp s then
    if windowOpen s ∨ s.lsw.turns ≠ [] then
      let t := lsPut n 0 s
      if s.lsw.turns.contains n then t else setLsw { t.lsw with turns := t.lsw.turns ++ [n] } t
    else lsOn n s
  else if s.parN (Par.INRUSH_I n) ≤ 1000 then lsOn n s
  else match tokRequest 2 n (s.parN (Par.INRUSH_I n)) s with
    | (.granted, t) => lsOn n t
    | (.deferred, t) => lsPut n 2 t
    | (.refused r, t) => lsRefused r n t

/-- The channels that wait for their turn in limp-home, turned on in order until a window opens (R515). -/
def lsTurns : Nat → State → State
  | 0, s => s
  | k + 1, s =>
    if windowOpen s then s
    else match s.lsw.turns with
      | [] => s
      | n :: ns =>
        let t := lsTurnOn n (setLsw { s.lsw with turns := [] } s)
        lsTurns k (setLsw { t.lsw with turns := ns } t)

/-- The high-side switch off and any Token released or withdrawn (R504, R508), in a state; a window that closes lets the next channel take its
turn. -/
def lsOff (n st : Nat) (s : State) : State :=
  let t := (lsPut n st (s.putBit Reg.LSW_STAT n false)).lower (Fd.LSW_CH_WINDOW n)
  lsTurns 12 (lsForget n (if tokWaits t 2 n then tokServe (tokDrop 2 n t) else tokRelease 2 n t))

/-- RETRY returned to 0 and RETEX cleared (R509); a channel latched for it waits retry again. -/
def lsReset (n : Nat) (s : State) : State :=
  let t := (s.lower (Fd.LSW_CH_RETRY n)).lower (Fd.LSW_CH_RETEX n)
  if lsSt t n = 5 then lsPut n 3 t else t

/-- A channel follows its command (R501, R508, R509): off at once; on, from off, under "Turning on". -/
def lsFollow (n : Nat) (s : State) : State :=
  if lsCmd s n then (if lsSt s n = 0 ∧ !s.lsw.turns.contains n ∧ !s.lsw.asks.contains n then lsTurnOn n s else s)
  else if lsSt s n = 0 then lsForget n s else lsOff n 0 s

/-- Every channel follows its command, in channel order. -/
def lsFollowAll (s : State) : State := upTo 12 lsFollow s

/-- A host write of LSW_CTL.ON (R500): off and then on again resets the retries (R509). During limp-home the write is stored (R514). -/
def lsCommand (n : Nat) (on : Bool) (s : State) : State :=
  let was := s.on (Fd.LSW_CTL_ON n)
  let t := s.putB (Fd.LSW_CTL_ON n) on
  if limp t then t
  else
    let u := setLsw { t.lsw with cmds := setNth t.lsw.cmds n on } t
    let u := if on && !was then (u.lower (Fd.LSW_CH_RETRY n)).lower (Fd.LSW_CH_RETEX n) else u
    lsFollow n u

/-- Every command taken from LSW_CTL.ON, as a word on X14 carries it (R502). -/
def lsTake (s : State) : State :=
  lsFollowAll (setLsw { s.lsw with cmds := (List.range 12).map (fun n => s.on (Fd.LSW_CTL_ON n)) } s)

/-- A trip (R508). -/
def lsTrip (n : Nat) (thermal : Bool) (s : State) : State :=
  let t := lsOff n 3 s
  let t := if thermal then t.raise (Fd.LSW_CH_THLAT n) else t
  if s.get (Fd.LSW_CH_RETRY n) = s.parN (Par.RETRY_MAX n) then
    lsPut n 5 ((t.raise (Fd.LSW_CH_RETEX n)).raise Fd.LSW_EVT_RETRYEX)
  else t

/-- Limp-home follows LIMP_N and the silence of X14 (R514, R515): its begin withdraws waiting Token requests, its end brings the stored
commands. -/
def limpUpdate (s : State) : State :=
  let b := s.on Fd.LSW_STAT_LIMPIN || s.lsw.silent
  if b == limp s then (if b then lsFollowAll s else s)
  else
    let t := (s.putB Fd.LSW_STAT_LIMP b).raise Fd.LSW_EVT_LIMP
    if b then lsFollowAll (upTo 12 (fun n u => if lsSt u n = 2 then lsOff n 0 u else lsForget n u) t)
    else lsTake (setLsw { t.lsw with turns := [] } t)

/-- VLS below its limit (R510): every switch off, every Token released; channels that would conduct wait for its end. -/
def lsUnder (mv : Nat) (s : State) : State :=
  let t := ((s.put Fd.LSW_VLS_MV mv).raise Fd.LSW_STAT_UV).raise Fd.LSW_EVT_UV
  upTo 12 (fun n u => if lsSt u n = 1 ∨ lsSt u n = 2 then lsOff n 4 u else u) t

/-- VLS back (R511): channels restart in order. -/
def lsRecover (mv : Nat) (s : State) : State :=
  let t := ((s.put Fd.LSW_VLS_MV mv).lower Fd.LSW_STAT_UV).raise Fd.LSW_EVT_UVREST
  upTo 12 (fun n u =>
    if lsSt u n = 4 then
      if !lsCmd u n then lsPut n 0 u
      else if u.on (Fd.LSW_CH_RETEX n) then lsPut n 5 u
      else lsTurnOn n u
    else u) t

/-- PFW_N asserts (R517). -/
def lsShed (s : State) : State :=
  let m := s.parN Par.PF_SHED
  let t := upTo 12 (fun n u => if m.testBit n && lsSt u n == 1 then lsOff n 0 u else u) s
  if m = 0 then t else t.raise Fd.LSW_EVT_PFSHED

/-- The Service island held (R644): every high-side switch off. -/
def lsHeld (s : State) : State := upTo 12 (fun n t => lsOff n 0 t) (setLsw { s.lsw with turns := [] } s)

/-- LS_DEFAULT loaded into ON (R500). -/
def lsDefaults (s : State) : State := upTo 12 (fun n t => t.putB (Fd.LSW_CTL_ON n) ((s.parN Par.LS_DEFAULT).testBit n)) s

/-- What the Service island does while it is not held, for a channel. -/
def lsLive (n : Nat) (f : State → State) (s : State) : State := if n < 12 ∧ !s.held .service then f s else s

/-- LOAD_SWITCH_COMMAND (R500). -/
def execLoadSwitchCommand (p : Path) (n : Nat) (on : Bool) (s : State) : Ans :=
  .next (hostOwn p 1 (toIsland .service (lsLive n (lsCommand n on))) s)

/-- LOAD_SWITCH_CLEAR_LATCH (R509). -/
def execLoadSwitchClearLatch (p : Path) (n : Nat) (s : State) : Ans := .next (hostOwn p 1 (toIsland .service (lsLive n (lsReset n))) s)

/-- LSW_TOKEN_GRANTED (R504): the request of a channel has been granted. -/
def execLswTokenGranted (n : Nat) (s : State) : Ans :=
  .next (lsLive n (fun t => if lsSt t n = 2 ∧ tokHolds t 2 n then (if lsCmd t n then lsOn n t else lsOff n 0 t) else t) s)

/-- LSW_TOKEN_REFUSED (R505): the request of a channel has left the deferred order without a grant; reason as in R48. -/
def execLswTokenRefused (n reason : Nat) (s : State) : Ans :=
  .next (lsLive n (fun t => if lsSt t n = 2 ∧ !tokHolds t 2 n ∧ !tokWaits t 2 n then lsRefused reason n t else t) s)

/-- LSW_TOKEN_RETRY (R505). -/
def execLswTokenRetry (n : Nat) (s : State) : Ans :=
  .next (lsLive n (fun t =>
    if t.lsw.asks.contains n && !t.pfw then
      let u := setLsw { t.lsw with asks := without n t.lsw.asks } t
      if lsCmd u n && lsSt u n == 0 then lsTurnOn n u else u
    else t) s)

/-- INRUSH_WINDOW_CLOSE (R503, R504, R515): in limp-home the next channel in its turn then turns on. -/
def execInrushWindowClose (n : Nat) (s : State) : Ans :=
  .next (lsLive n (fun t =>
    if t.on (Fd.LSW_CH_WINDOW n) then lsTurns 12 (tokRelease 2 n (t.lower (Fd.LSW_CH_WINDOW n))) else t) s)

/-- OVERCURRENT_TRIP (R506). -/
def execOvercurrentTrip (n : Nat) (s : State) : Ans :=
  .next (lsLive n (fun t =>
    if lsSt t n = 1 then (lsTrip n false (t.bump (Fd.LSW_CNT_OCTRIPS n))).raise Fd.LSW_EVT_OCTRIP else t) s)

/-- SHORT_TRIP (R506). -/
def execShortTrip (n : Nat) (s : State) : Ans :=
  .next (lsLive n (fun t =>
    if lsSt t n = 1 then (lsTrip n false (t.bump (Fd.LSW_CNT_OCTRIPS n))).raise Fd.LSW_EVT_SHORT else t) s)

/-- THERMAL_TRIP (R506): over, an overcurrent trip falls in the same millisecond (R518). -/
def execThermalTrip (n : Nat) (oc : Bool) (s : State) : Ans :=
  .next (lsLive n (fun t =>
    if lsSt t n = 1 then
      let u := t.bump (Fd.LSW_CNT_THERMS n)
      let u := if oc then (u.bump (Fd.LSW_CNT_OCTRIPS n)).raise Fd.LSW_EVT_OCTRIP else u
      (lsTrip n true u).raise Fd.LSW_EVT_THERM
    else t) s)

/-- THERMAL_LATCH_CLEAR (R507). -/
def execThermalLatchClear (n : Nat) (s : State) : Ans := .next (lsLive n (fun t => t.lower (Fd.LSW_CH_THLAT n)) s)

/-- RETRY_TIMER_EXPIRY (R508): held at zero while the thermal latch is set or the low-side switch is open (R518). -/
def execRetryTimerExpiry (n : Nat) (s : State) : Ans :=
  .next (lsLive n (fun t =>
    if lsSt t n = 3 then
      if !lsCmd t n then lsPut n 0 t
      else if t.on (Fd.LSW_CH_THLAT n) || t.lsw.lowOpen.contains n then t
      else lsTurnOn n (t.bump (Fd.LSW_CH_RETRY n))
    else t) s)

/-- RETRY_COUNT_RESET (R509): 10 s of conduction without a trip. -/
def execRetryCountReset (n : Nat) (s : State) : Ans := .next (lsLive n (fun t => if lsSt t n = 1 then lsReset n t else t) s)

/-- VLS_UNDERVOLTAGE (R510): VLS in mV. -/
def execVlsUndervoltage (mv : Nat) (s : State) : Ans := .next (if s.held .service then s else lsUnder mv s)

/-- VLS_RECOVERY (R511): VLS in mV. -/
def execVlsRecovery (mv : Nat) (s : State) : Ans :=
  .next (if s.held .service || !s.on Fd.LSW_STAT_UV then s else lsRecover mv s)

/-- LOW_SIDE_OPEN (R513): a channel that is on turns off; one that waits retry stays off (R518). -/
def execLowSideOpen (n : Nat) (s : State) : Ans :=
  .next (lsLive n (fun t =>
    let u := setLsw { t.lsw with lowOpen := without n t.lsw.lowOpen ++ [n] } t
    if lsSt t n = 1 then (lsOff n 6 u).raise Fd.LSW_EVT_SBOFF else if lsSt t n = 3 then u else t) s)

/-- LOW_SIDE_RESTORED (R513). -/
def execLowSideRestored (n : Nat) (s : State) : Ans :=
  .next (lsLive n (fun t =>
    let u := setLsw { t.lsw with lowOpen := without n t.lsw.lowOpen } t
    if lsSt u n = 6 then (if lsCmd u n then lsTurnOn n u else lsPut n 0 u) else u) s)

/-- LIMP_INPUT_CHANGE (R514): whether LIMP_N is low, and the levels of LH0 to LH3. -/
def execLimpInputChange (low : Bool) (lh : Nat) (s : State) : Ans :=
  .next (if s.held .service then s
    else limpUpdate (((s.putB Fd.LSW_STAT_LIMPIN low).putB Fd.LSW_LH_LIMPN low).put Fd.LSW_LH_LH lh))

/-- LIMP_TIMEOUT (R514): no word on X14 for LIMP_TO. -/
def execLimpTimeout (s : State) : Ans :=
  .next (if s.held .service then s else limpUpdate (setLsw { s.lsw with silent := true } s))

/-- LOAD_DIAGNOSTIC (R499, R516): a channel's current in 2 mA and TJ + 50 °C, and whether the conditions of OPEN and STUCKHI have held, or
been absent, for their times; none, neither. -/
def execLoadDiagnostic (n cur temp : Nat) (opened stuck : Option Bool) (s : State) : Ans :=
  .next (lsLive n (fun t =>
    let u := (t.put (Fd.LSW_CH_CUR n) cur).put (Fd.LSW_CH_TEMP n) temp
    let u := match opened with
      | some true => if lsSt u n = 1 ∧ !u.on (Fd.LSW_CH_WINDOW n) ∧ u.parN (Par.OPEN_I n) ≠ 0 then
          (u.raise (Fd.LSW_CH_OPEN n)).raise Fd.LSW_EVT_OPENLOAD else u
      | some false => u.lower (Fd.LSW_CH_OPEN n)
      | none => u
    match stuck with
    | some true => if u.bitOf Reg.LSW_STAT n then u else (u.raise (Fd.LSW_CH_STUCKHI n)).raise Fd.LSW_EVT_STUCKHI
    | some false => u.lower (Fd.LSW_CH_STUCKHI n)
    | none => u) s)

end Sys2Proof.Machine
end

