-- ==== Sys2Proof/Machine/Rules.lean ====
section
/-!
DEFINITION. The ranges of parameters, and every rule by which the module rejects a set of parameter values, as predicates of a
variant and an assignment of values (spec/18_boot_configuration.md R538, R543 codes 11 and 12, R551, and the rules named below).
-/
namespace Sys2Proof.Rules
open ParamMap

/-- Whether a code names an energy register of R192. -/
def energyItem (c : Nat) : Bool := decide (0x1000 ≤ c) && decide (c ≤ 0x1150) && decide ((c - 0x1000) % 32 ≤ 16)

/-- Whether a code is an item code of R192. -/
def itemCode (c : Nat) : Bool :=
  c == 0 || energyItem c || (decide (0x2000 ≤ c) && decide (c ≤ 0x2005)) || (decide (0x3000 ≤ c) && decide (c ≤ 0x3003))
    || (decide (0x3010 ≤ c) && decide (c ≤ 0x3012)) || c == 0x4000

/-- Whether a packed DST_START or DST_END has its fields in range (R238). -/
def dstOk (n : Nat) : Bool :=
  let m := n / 2 ^ 28
  let w := n / 2 ^ 25 % 8
  let d := n / 2 ^ 22 % 8
  decide (1 ≤ m) && decide (m ≤ 12) && decide (1 ≤ w) && decide (w ≤ 5) && decide (1 ≤ d) && decide (d ≤ 7)
    && decide (n % 2 ^ 17 < 86400) && n / 2 ^ 17 % 32 == 0

/-- Whether a value lies in a parameter's range; a float is given by its bits. -/
def inRange (r : PRange) (v : Int) : Bool :=
  match r with
  | .span lo hi => decide (lo ≤ v) && decide (v ≤ hi)
  | .oneOf vs => vs.contains v
  | .spanOr lo hi other => (decide (lo ≤ v) && decide (v ≤ hi)) || v == other
  | .mask m => decide (0 ≤ v) && (v.toNat &&& m) == v.toNat
  | .item => decide (0 ≤ v) && itemCode v.toNat
  | .page => decide (0 ≤ v) && (v == 0 || energyItem v.toNat)
  | .dst => decide (0 ≤ v) && dstOk v.toNat
  | .real num den hi neg =>
    let w := v.toNat
    let x := Exact.ofF32 w
    decide (0 ≤ v) && decide (w / 0x800000 % 256 ≠ 255) && (neg || decide (0 ≤ x))
      && decide ((num : Rat) / (den : Rat) ≤ Exact.abs x) && decide (Exact.abs x ≤ (hi : Rat))

/-- Whether a parameter exists on a variant (R5). -/
def present (v : Variant) (r : ParamRow) : Bool :=
  match r.only with
  | none => true
  | some x => x == v

/-- The number of a value that is never negative. -/
def num (g : Nat → Int) (p : Nat) : Nat := (g p).toNat

/-- Whether a role is used (R55, R65, R77). -/
def used (v : Variant) (g : Nat → Int) (r : Nat) : Bool :=
  match v with
  | .f => if r < 6 then num g (Par.ISENSOR r) != 3 else if r ≤ 10 then num g (Par.VUSED r) != 0 else r < 16
  | .m => (List.range 10).any (fun k => num g (Par.MOD_ROLE k) == r) && decide (r ≤ 10)

/-- Whether no two of a list's values are equal. -/
def distinct (l : List Nat) : Bool := l.length == l.eraseDups.length

/-- R77: no two inputs name one role. -/
def okModRoles (v : Variant) (g : Nat → Int) : Bool :=
  v == .f || distinct (((List.range 10).map (fun k => num g (Par.MOD_ROLE k))).filter (· != 15))

/-- The range peak of a current role, in V (R60, R79). -/
def peak (v : Variant) (g : Nat → Int) (r : Nat) : Rat :=
  match v with
  | .f => ((nth' ([3125, 6250, 12500, 25000, 50000, 100000] : List Nat) (num g (Par.IRANGE r)) : Nat) : Rat) / 100000
  | .m =>
    match (List.range 10).find? (fun k => num g (Par.MOD_ROLE k) == r) with
    | some k => (num g (Par.MOD_VFS k) : Rat) / 1000000
    | none => 0
where
  /-- An element of a list, or 0. -/
  nth' (l : List Nat) (i : Nat) : Nat := l.getD i 0

/-- R102: the input at IMAX stays within the range peak. -/
def okPeaks (v : Variant) (g : Nat → Int) : Bool :=
  (List.range 6).all (fun r => !used v g r ||
    (let x : Rat := (num g (Par.IMAX r) : Rat) / 1000
     let y : Rat := peak v g r * Exact.abs (Exact.ofF32 (num g (Par.IRATIO r)))
     if r < 4 then decide (2 * x * x ≤ y * y) else decide (x ≤ y)))

/-- R107: no phase sum beyond 5.000°. -/
def okPhases (v : Variant) (g : Nat → Int) : Bool :=
  let fac := fun p => if v == .f then g p else 0
  (List.range 3).all (fun r => (List.range 16).all (fun k =>
    decide ((fac (Par.FPHASE r) + g (Par.UPHASE r) + fac (Par.FSPHASE r k) + g (Par.USPHASE r k)).natAbs ≤ 5000)))

/-- R141: the roles that DCPAIR uses are used. -/
def okDcPair (v : Variant) (g : Nat → Int) : Bool := num g Par.DCPAIR != 1 || [4, 5, 9].all (used v g)

/-- R188. -/
def okDemand (g : Nat → Int) : Bool := num g Par.DMD_SUB != 0 && num g Par.DMD_PER * 60 % num g Par.DMD_SUB == 0

/-- R268: an M image sets one pair to PAIR_FUNC 1. -/
def okMPairs (v : Variant) (g : Nat → Int) : Bool := v == .f || [2, 3].any (fun n => num g (Par.PAIR_FUNC n) == 1)

/-- R270. -/
def okSafety (g : Nat → Int) : Bool :=
  let so := (List.range 4).map (fun n => num g (Par.SO_FUNC n))
  let src := ((List.range 8).map (fun n => num g (Par.TG_SRC n))).filter (· != 0xFFFF)
  decide ((so.filter (· == 3)).length ≤ 1) && so.any (· == 1) && distinct src && !src.contains (num g Par.TG_ADDR)

/-- R299. -/
def okEarth (v : Variant) (g : Nat → Int) : Bool :=
  (v == .m || decide (num g Par.IMD_FAULT < num g Par.IMD_WARN)) && (v == .m || num g Par.IMD_EN == 0 || used v g 9)
    && (num g Par.WELD_ROLE == 0 || used v g (num g Par.WELD_ROLE))
    && (List.range 4).all (fun n => !(num g Par.WELD_OUT).testBit n || num g (Par.SO_FUNC n) == 1 || num g (Par.SO_FUNC n) == 2)

/-- R329. -/
def okNeighbours (g : Nat → Int) : Bool :=
  let nb := ((List.range 8).map (fun n => num g (Par.SLAC_NB n))).filter (· != 0xFFFF)
  distinct nb && !nb.contains (num g Par.GRP_ADDR) && (num g Par.VL_MODE == 0 || num g Par.PP_MODE != 0)

/-- R364: a post with any DC role used names a converter. -/
def okSession (v : Variant) (g : Nat → Int) : Bool :=
  (num g Par.PROTO_EN != 0 || num g Par.VL_MODE == 0) && num g Par.AUTH_EN != 0
    && (num g Par.CONV_USE != 0 || !(([4, 5, 9, 10] : List Nat).any (used v g)))
    && (num g Par.CONV_PORT &&& num g Par.CONV_USE) == num g Par.CONV_PORT

/-- The slots other blocks name: the Waybill's and the telegrams' (R393, R478, R642). -/
def ownSlots (g : Nat → Int) : List Nat := [num g Par.WB_KEYSLOT, num g Par.TG_KEYSLOT]

/-- R393. -/
def okKeys (g : Nat → Int) : Bool := (ownSlots g).all (fun n => decide (16 ≤ n)) && distinct (ownSlots g)

/-- R395 and R423. -/
def okEthernet (g : Nat → Int) : Bool :=
  (num g Par.ETH_TOPO == 0 || (List.range 8).all (fun n => num g (Par.TG_SRC n) == 0xFFFF))
    && (num g Par.PTP_ROLE != 2 || num g Par.ETH_TOPO == 1) && num g (Par.PTP_DOM (num g Par.PTP_PREF)) != 255

/-- R460. -/
def okAmene (g : Nat → Int) : Bool :=
  let m := num g Par.SITE_MASTER
  (num g Par.SITE_EN == 0 || m != 0xFFFF)
    && !(num g Par.AMB_ROLE == 1 && num g Par.SITE_EN == 1 && Config.masterElsewhere m && num g Par.ETH_TOPO == 2)
    && num g Par.AMB_POSTCLS != 4

/-- R478. -/
def okDlms (g : Nat → Int) : Bool :=
  let named := (num g Par.SRV_KEY :: (List.range 3).flatMap (fun n => [num g (Par.CLI_EK n), num g (Par.CLI_AK n), num g (Par.CLI_PUB n)])).filter (· != 0)
  (num g Par.SRV_KEY != 0 || num g Par.DLM_SUITE != 1) && named.all (fun n => !(ownSlots g).contains n)

/-- R520. -/
def okLoads (g : Nat → Int) : Bool :=
  (List.range 12).all (fun n => decide (num g (Par.ILIM n) ≤ num g (Par.INRUSH_I n)) && decide (num g (Par.INRUSH_I n) ≤ 3 * num g (Par.ILIM n)))

/-- R531. -/
def okLantern (g : Nat → Int) : Bool :=
  let seg := ((List.range 80).map (fun n => num g (Par.SEGMAP n))).filter (· != 255)
  (List.range 3).all (fun c => (List.range 15).all (fun k => decide (num g (Par.GAMMA c k) ≤ num g (Par.GAMMA c (k + 1)))))
    && distinct seg && (List.range 16).any (fun n => num g (Par.LCD_PAGES n) != 0)

/-- R590. -/
def okPower (g : Nat → Int) : Bool := decide (num g Par.PFW_LVL + 500 < num g Par.VSYS_HEAD)

/-- R642. -/
def okHost (g : Nat → Int) : Bool :=
  (num g Par.HIF_MBPATH == 0 || num g Par.HIF_ETH_EN == 1) && (num g Par.HIF_ETH_EN == 0 || num g Par.HIF_PORT != 4059)
    && [num g Par.HIF_OPKEY, num g Par.HIF_OWNKEY].all (fun n => n == 0 || !(ownSlots g).contains n)

/-- Every rejection rule of the manual, the budget rule of R45 apart (R543 code 12). -/
def allOk (v : Variant) (g : Nat → Int) : Bool :=
  okModRoles v g && okPeaks v g && okPhases v g && okDcPair v g && okDemand g && okMPairs v g && okSafety g && okEarth v g
    && okNeighbours g && okSession v g && okKeys g && okEthernet g && okAmene g && okDlms g && okLoads g && okLantern g && okPower g && okHost g

/-- Whether a parameter belongs to the safety parameter set: the SAF, EFT and SWC blocks (R263). -/
def safetyPar (p : Nat) : Bool := decide (13 ≤ p / 1000) && decide (p / 1000 ≤ 15)

/-- The bytes a parameter contributes to the check value (R263). -/
def safetyBytes (v : Variant) (g : Nat → Int) (b : Nat) : List Byte :=
  (rowsOf b).flatMap (fun r => if present v r then
      (List.range r.count).flatMap (fun i => Bits.leBytes 1 (b - 13) ++ Bits.leBytes 2 ((r.first + i) % 1000) ++ Bits.leBytes 1 r.bytes
        ++ Bits.leBytes r.bytes (Bits.ofInt (8 * r.bytes) (g (r.first + i))))
    else [])

/-- The check value of the safety set (R263): on variant M, parameters marked F only are left out (R543). -/
def checkValue (v : Variant) (g : Nat → Int) : Nat := Crc.castagnoli ([13, 14, 15].flatMap (safetyBytes v g))

end Sys2Proof.Rules
end

