-- ==== Sys2Proof/Machine/Params.lean ====
section
/-!
DEFINITION. Parameters at run time (spec/18_boot_configuration.md R549 to R552, spec/23_host_interface.md R633, spec/13_amene_bus.md R456).
-/
namespace Sys2Proof.Machine
open ParamMap

/-- Start-up's state replaced. -/
def setBoot (b : BootState) (s : State) : State := { s with boot := b }

/-- A set of values laid over an assignment, a later one over an earlier one. -/
def overlaid (g : Nat → Int) (l : List (Nat × Int)) : Nat → Int := fun p => (l.reverse.find? (fun e => e.1 == p)).elim (g p) (·.2)

/-- What the image in force gives a parameter: its record, else the default; a factory parameter has its own value (R549). -/
def imageValue (s : State) (p : Nat) : Int :=
  match rowFor p with
  | some r => if r.layer = .factory then s.par p else (s.boot.image.find? (fun e => e.1 == p)).elim (default p) (·.2)
  | none => 0

/-- The overlay's entries that belong to the image in force (R549). -/
def overlayLive (s : State) : List (Nat × Int) :=
  (s.boot.overlay.filter (fun e => e.seq == s.regN Reg.SYS_IMGSEQ)).map (fun e => (e.par, e.value))

/-- The set of the next start (R551). -/
def nextStart (s : State) : Nat → Int := overlaid (imageValue s) (overlayLive s)

/-- The run-time set after the next interval boundary (R551). -/
def afterBoundary (s : State) : Nat → Int := overlaid s.par (s.parNext ++ s.corrSent.getD [] ++ s.parPend)

/-- The code a write of a value is judged with (R550, R551, R456, R364): from a source that may write the site layer only, or both. -/
def writeCode (siteOnly : Bool) (level p len raw : Nat) (s : State) : Nat :=
  if level < 2 then 1
  else match rowFor p with
    | none => 2
    | some r =>
      let v : Int := if r.type = .signed then Bits.signed (8 * r.bytes) raw else raw
      if !Rules.present s.variant r then 2
      else if len ≠ r.bytes then 3
      else if !Rules.inRange r.range v then 4
      else if r.layer = .factory ∨ Rules.safetyPar p ∨ (siteOnly ∧ r.layer ≠ .site) then 5
      else if !Rules.allOk s.variant (overlaid (nextStart s) [(p, v)]) then 6
      else if r.applied ≠ .boot ∧ !Rules.allOk s.variant (overlaid (afterBoundary s) [(p, v)]) then 6
      else if p = Par.EVSE_PMAX ∧ s.boot.evseMax < raw then 6
      else if 1024 ≤ s.boot.overlay.length ∧ s.boot.overlay.all (fun e => e.par != p) then 7
      else if s.pfw then 8
      else if s.get Fd.SYS_BOOT_STATE ≠ 1 then 9
      else 0

/-- SYS_OVL brought up to date. -/
def overlayShow (s : State) : State :=
  (s.put Fd.SYS_OVL_ENTRIES s.boot.overlay.length).put Fd.SYS_OVL_BOOTPEND (s.boot.overlay.filter (·.waits)).length

/-- An accepted write (R18, R19, R550, R552): stored in the overlay, then applied as its Applied column says. -/
def writeAccept (p : Nat) (v : Int) (r : ParamRow) (s : State) : State :=
  let e : OvlEntry := ⟨p, v, s.regN Reg.SYS_IMGSEQ, r.applied == .boot⟩
  let t := overlayShow (setBoot { s.boot with overlay := s.boot.overlay.filter (fun x => x.par != p) ++ [e] } s)
  match r.applied with
  | .boot => t
  | .interval => { t with parPend := t.parPend.filter (fun x => x.1 != p) ++ [(p, v)] }
  | .immediate =>
    let u := t.setPar p v
    if p = Par.LOGIC_BUDGET ∨ p = Par.VSYS_HEAD ∨ p = Par.INRUSH_BUDGET then tokVlow (tokBudgets u)
    else if p = Par.SITE_FLOOR ∧ !u.on Fd.SES_STAT_SITEGR then u.setRegN Reg.SES_GRANT (u.parN Par.SITE_FLOOR)
    else u

/-- A write of a parameter: its code, and the state after it; a write that R107 refuses sets MTR_EVT.PHREFUSE. -/
def paramWrite (siteOnly : Bool) (level p len raw : Nat) (s : State) : Nat × State :=
  let c := writeCode siteOnly level p len raw s
  match rowFor p with
  | none => (c, s)
  | some r =>
    let v : Int := if r.type = .signed then Bits.signed (8 * r.bytes) raw else raw
    if c = 0 then (0, writeAccept p v r s)
    else if c = 6 ∧ !Rules.okPhases s.variant (overlaid (afterBoundary s) [(p, v)]) then (c, s.raise Fd.MTR_EVT_PHREFUSE)
    else (c, s)

/-- The parameter a HIF_PCMD word names. -/
def pcmdPar (cmd : Nat) : Nat := cmd / 65536 % 256 * 1000 + cmd % 1024

/-- The bytes a HIF_PCMD word's LEN code stands for; 3 stands for none. -/
def pcmdLen (cmd : Nat) : Nat := ([1, 2, 4, 0] : List Nat).getD (cmd / 1024 % 4) 0

/-- HIF_PRES of a path after an operation (R633). -/
def presResult (p : Path) (code : Nat) (r : Option ParamRow) (s : State) : State :=
  let app : Nat := match r with
    | some x => (match x.applied with | .boot => 0 | .interval => 1 | .immediate => 2)
    | none => 0
  let lay : Nat := match r with
    | some x => (match x.layer with | .factory => 0 | .user => 1 | .site => 2)
    | none => 0
  s.setRegN (Reg.HIF_PRES p) (code + 65536 * lay + 262144 * app)

/-- The value a read returns (R633): in force, next, or default. -/
def readValue (src p : Nat) (s : State) : Int :=
  if src = 0 then s.par p
  else if src = 1 then
    match rowFor p with
    | some r => if r.applied = .boot then nextStart s p else afterBoundary s p
    | none => 0
  else default p

/-- A read of a parameter (R633). -/
def paramRead (p : Path) (cmd : Nat) (s : State) : State :=
  let n := pcmdPar cmd
  match rowFor n with
  | none => presResult p 2 none s
  | some r =>
    if Rules.present s.variant r then
      presResult p 0 (some r) (s.setRegN (Reg.HIF_PVAL p) (Bits.ofInt (8 * r.bytes) (readValue (cmd / 4096 % 4) n s)))
    else presResult p 2 (some r) s

/-- A write of a parameter through HIF_PVAL (R633). -/
def paramStore (p : Path) (cmd : Nat) (s : State) : State :=
  let n := pcmdPar cmd
  let len := pcmdLen cmd
  let x := paramWrite false (pathLevel s p) n len (s.regN (Reg.HIF_PVAL p) % 256 ^ len) s
  presResult p x.1 (rowFor n) x.2

/-- PARAM_READ (R633): the HIF_PCMD word written, its GO set and its OP 0. -/
def execParamRead (p : Path) (cmd : Nat) (s : State) : Ans := .next (hostOwn p 0 (paramRead p cmd) s)

/-- PARAM_WRITE (R551, R633): the HIF_PCMD word written, its GO set and its OP 1; code 8 while PFW_N is asserted. -/
def execParamWrite (p : Path) (cmd : Nat) (s : State) : Ans :=
  let t := hostOwn p 0 (paramStore p cmd) s
  .next (if s.pfw && pathOpen s p then presResult p 8 (rowFor (pcmdPar cmd)) t else t)

end Sys2Proof.Machine
end

