-- ==== Sys2Proof/Machine/Sharing.lean ====
section
/-!
DEFINITION. Site power sharing (spec/13_amene_bus.md R451 to R456): what SITE_MASTER does with REQ and REL, SETPAR at a post, and bridged
messages.
-/
namespace Sys2Proof.Machine

/-- Whether this module runs power sharing (R425). -/
def sharing (s : State) : Bool := s.parN Par.SITE_MASTER == ownGrp s

/-- A message of this post to SITE_MASTER (R451, R452): kept here, in the slave's next slot, or as a site group message. -/
def siteSend (m : AmbMsg) (s : State) : State :=
  if sharing s then toCore .own m s
  else if s.get Fd.AMB_STAT_ROLE = 1 then setAmb { s.amb with out := s.amb.out ++ [m] } s
  else groupSend 2 (s.parN Par.SITE_MASTER) (msgBytes m) s

/-- A message of SITE_MASTER to a post, back on the way that the post's last REQ came. -/
def siteReply (via : SiteVia) (post : Nat) (m : AmbMsg) (s : State) : State :=
  match via with
  | .own => toCore .own m s
  | .bus _ => if s.get Fd.AMB_STAT_ROLE = 2 then masterRoute .own post m s else setAmb { s.amb with out := s.amb.out ++ [m] } s
  | .group svc src => groupSend svc src (msgBytes m) s

/-- The first message of a type that waits for the Core island, from X11 or, as SVC 2, from Q04. -/
def siteMessage (mt : Nat) (s : State) : Option SiteMsg × State :=
  match siteTake (fun m => m.msg.mt == mt) s with
  | (some m, t) => (some m, t)
  | (none, _) =>
    match groupTake 2 (fun b => (b.headD 0).toNat == mt) s with
    | (some f, t) => ((msgsOf 1 (groupPayload f)).head?.map (fun m => ⟨.group 2 (groupNum f 2 2 % 4096), m⟩), t)
    | (none, _) => (none, s)

/-- The posts replaced. -/
def setPosts (l : List SharePost) (s : State) : State := { s with posts := l }

/-- Whether a post is live (R454). -/
def postLive (q : SharePost) : Bool := q.p != 0 && decide (q.age < 10)

/-- Whether a power lies in a direction: true import. -/
def inDirection (d : Bool) (p : Int) : Bool := if d then decide (0 < p) else decide (p < 0)

/-- GNUM at or above ACKG, as serial numbers that wrap (R453). -/
def gnumFrom (ackg gnum : Nat) : Bool := decide ((gnum + 65536 - ackg) % 65536 < 32768)

/-- The powers shared so far, by group address. -/
abbrev Shares := List (Nat × Nat)

/-- A post's share. -/
def shareOf (g : Shares) (post : Nat) : Nat := (assocGet g post).getD 0

/-- held of R454: the larger of the share and every grant that the post may still follow. -/
def heldOf (d : Bool) (g : Shares) (q : SharePost) : Nat :=
  let sent := (q.grants.filter (fun e => gnumFrom q.ackg e.1 && inDirection d e.2)).map (fun e => e.2.natAbs)
  sent.foldl max (if postLive q && inDirection d q.p then shareOf g q.post else 0)

/-- The phases that a post draws on (R454), and whether its power is divided among them. -/
def postPhases (q : SharePost) : List Nat × Bool :=
  if q.three then ([1, 2, 3], true)
  else if q.cls = 0 then ([1, 2, 3], false)
  else ([if q.cls ≤ 3 then q.cls else q.cls - 4], false)

/-- What a power of a post puts on each of its phases. -/
def onPhase (q : SharePost) (p : Nat) : Rat := if (postPhases q).2 then (p : Rat) / 3 else p

/-- fits of R454. -/
def shareFits (d : Bool) (s : State) (g : Shares) (i : SharePost) (x : Nat) : Bool :=
  let total := (s.posts.map (heldOf d g)).sum
  let limit := if d then s.parN Par.SITE_BUDGET else s.parN Par.SITE_EXPORT
  let phase := s.parN Par.SITE_PHASE_P
  let load := fun (q : Nat) =>
    Exact.sum ((s.posts.filter (fun j => (postPhases j).1.contains q)).map (fun j => onPhase j (heldOf d g j))) + onPhase i x
  decide (total + x ≤ limit) && (phase == 0 || (postPhases i).1.all (fun q => decide (load q ≤ phase)))

/-- One round over the posts (R454): the shares, and whether any grew. -/
def shareRound (d : Bool) (s : State) (posts : List SharePost) (g : Shares) : Shares × Bool :=
  posts.foldl (fun a i =>
    let x := min 10 (i.p.natAbs - shareOf a.1 i.post)
    if 0 < x ∧ shareFits d s a.1 i x then (assocPut a.1 i.post (some (shareOf a.1 i.post + x)), true) else a) (g, false)

/-- Rounds until no share grows. -/
def shareGrow (d : Bool) (s : State) (posts : List SharePost) : Nat → Shares → Shares
  | 0, g => g
  | n + 1, g =>
    let r := shareRound d s posts g
    if r.2 then shareGrow d s posts n r.1 else g

/-- Whether a post comes before another (R454). -/
def postBefore (a b : SharePost) : Bool := decide (a.order < b.order) || (a.order == b.order && decide (a.post ≤ b.post))

/-- A post put in its place among posts in order. -/
def postInsert (q : SharePost) : List SharePost → List SharePost
  | [] => [q]
  | p :: ps => if postBefore q p then q :: p :: ps else p :: postInsert q ps

/-- Posts in order. -/
def postSort (l : List SharePost) : List SharePost := l.foldr postInsert []

/-- The shares of one direction (R454). A round adds at least 1 of at most 100,000, so the rounds end. -/
def shareDirection (d : Bool) (s : State) : Shares :=
  let posts := postSort (s.posts.filter (fun q => postLive q && inDirection d q.p))
  shareGrow d s posts 100001 (posts.map (fun q => (q.post, min q.p.natAbs (s.parN Par.SITE_FLOOR))))

/-- A GRANT sent to a post when its share differs from the last one, or that is 5 s old (R454). -/
def shareGrant (g : Shares) (s : State) (q : SharePost) : State :=
  let p : Int := if 0 < q.p then (shareOf g q.post : Int) else -(shareOf g q.post : Int)
  let due := match q.grants with
    | [] => true
    | (_, last) :: _ => last != p || decide (5 ≤ q.grantAge)
  if postLive q && due then
    let n := (q.gnum + 1) % 65536
    let q' := { q with gnum := n, grants := (n, p) :: q.grants, grantAge := 0 }
    let t := setPosts (s.posts.map (fun x => if x.post == q.post then q' else x)) s
    let m : AmbMsg := ⟨0x11, Bits.leBytes 2 q.post ++ Bits.leBytes 2 n ++ Bits.leBytes 4 (Bits.ofInt 32 p)⟩
    siteReply q.via q.post m (t.bumpReg (Reg.AMB_SITE 3))
  else s

/-- The sharing of R454. -/
def shareRun (s : State) : State :=
  let gi := shareDirection true s
  let ge := shareDirection false s
  let t := s.posts.foldl (fun u q => shareGrant (if 0 < q.p then gi else ge) u q) s
  let t := (t.setRegN (Reg.AMB_SITE 0) ((t.posts.map (heldOf true gi)).sum)).setRegN (Reg.AMB_SITE 1) ((t.posts.map (heldOf false ge)).sum)
  t.setRegN (Reg.AMB_SITE 2) (t.posts.filter postLive).length

/-- A second passed for SITE_MASTER. -/
def shareAge (s : State) : State := setPosts (s.posts.map (fun q => { q with age := q.age + 1, grantAge := q.grantAge + 1 })) s

/-- A REQ (R453, R455): a RNUM that differs starts a new request. -/
def shareReq (m : SiteMsg) (s : State) : State :=
  let b := m.msg
  let post := msgNum b 0 2 % 4096
  let rnum := msgNum b 2 2
  let flags := msgNum b 10 1
  if b.body.length ≠ 12 then s
  else
    let old := s.posts.find? (fun q => q.post == post)
    let fresh := match old with
      | some q => q.rnum != rnum
      | none => true
    let anew := fresh || flags % 2 == 1
    let order := if anew then s.postOrder else (old.map (·.order)).getD 0
    let q : SharePost :=
      { post := post, rnum := rnum, p := Bits.signed 32 (msgNum b 4 4), three := flags / 2 % 2 == 1, cls := msgNum b 11 1 % 8,
        ackg := msgNum b 8 2, via := m.via, order := order, age := 0, gnum := (old.map (·.gnum)).getD 0,
        grants := if fresh then [] else (old.map (·.grants)).getD [], grantAge := (old.map (·.grantAge)).getD 0 }
    let t := setPosts (s.posts.filter (fun x => x.post != post) ++ [q]) s
    shareRun (if anew then { t with postOrder := s.postOrder + 1 } else t)

/-- A post's held power ends (R455). -/
def shareDrop (post : Nat) (s : State) : State :=
  setPosts (s.posts.map (fun q => if q.post == post then { q with p := 0, grants := [] } else q)) s

/-- A CLASS message (R450, R453, R458). -/
def shareClass (m : AmbMsg) (s : State) : State :=
  setPosts (s.posts.map (fun q => if q.post == msgNum m 0 2 then { q with cls := msgNum m 2 1 % 8 } else q)) s

/-- The CLASS messages that wait, taken in. -/
def shareClasses : Nat → State → State
  | 0, s => s
  | n + 1, s =>
    match siteMessage 0x14 s with
    | (some m, t) => shareClasses n (shareClass m.msg t)
    | (none, _) => s

/-- Whether a site group message comes from SITE_MASTER, or from the master that forwards for it (R451). -/
def siteSource (s : State) (src : Nat) : Bool := src == s.parN Par.SITE_MASTER || src == Config.routeOf (s.parN Par.SITE_MASTER)

/-- A SETPAR (R456). -/
def setparTake (m : SiteMsg) (s : State) : State :=
  let b := m.msg
  let len := msgNum b 5 1
  let refuse := s.bumpReg (Reg.AMB_CNT 6)
  let source := match m.via with
    | .own => sharing s
    | .bus n => s.get Fd.AMB_STAT_ROLE != 2 || s.get (Fd.AMB_NODE_GRP n) == s.parN Par.SITE_MASTER
    | .group svc src => if svc = 3 then siteSource s src else src == s.parN Par.SITE_MASTER
  if msgNum b 0 2 ≠ ownGrp s then s
  else if !source || len < 1 || 8 < len || b.body.length != 6 + len then refuse
  else
    let x := paramWrite true 2 (msgNum b 2 1 * 1000 + msgNum b 3 2) len (msgNum b 6 len) s
    if x.1 = 0 then x.2 else x.2.bumpReg (Reg.AMB_CNT 6)

/-- A bridged message (R451): at a master for its own module or a slave, at SITE_MASTER for itself. -/
def bridged (s : State) : State :=
  match groupTake 3 (fun _ => true) s with
  | (none, _) => s
  | (some f, t) =>
    let src := groupNum f 2 2 % 4096
    match (msgsOf 1 (groupPayload f)).head? with
    | none => t
    | some m =>
      let via := SiteVia.group 3 src
      let dst := if m.mt = 0x10 ∨ m.mt = 0x12 ∨ m.mt = 0x14 then t.parN Par.SITE_MASTER else msgNum m 0 2
      if dst = ownGrp t then (if m.mt = 6 then dataReceive m t else toCore via m t)
      else if ambRole t 2 && (nodeOf t dst).isSome && ((m.mt != 0x11 && m.mt != 0x13) || siteSource t src) then masterRoute via dst m t
      else t

/-- POWER_SHARE_RUN (R454): a second has passed. -/
def execPowerShareRun (s : State) : Ans := .next (if sharing s then shareRun (shareAge (shareClasses s.x11.length s)) else s)

/-- SHARE_REQ_RECEIVE (R453, R454): the oldest REQ that waits. -/
def execShareReqReceive (s : State) : Ans :=
  .next (match siteMessage 0x10 s with
    | (some m, t) => if sharing t then shareReq m (shareClasses t.x11.length t) else t
    | (none, _) => s)

/-- SHARE_REL_RECEIVE (R454, R455): the oldest REL that waits. -/
def execShareRelReceive (s : State) : Ans :=
  .next (match siteMessage 0x12 s with
    | (some m, t) => if sharing t then shareRun (shareDrop (msgNum m.msg 0 2 % 4096) t) else t
    | (none, _) => s)

/-- HELD_POWER_EXPIRY (R455): 20 s after the last REQ of a post. -/
def execHeldPowerExpiry (post : Nat) (s : State) : Ans :=
  .next (if s.posts.any (fun q => q.post == post && !postLive q) then shareDrop post s else s)

/-- SETPAR_RECEIVE (R456): the oldest SETPAR that waits. -/
def execSetparReceive (s : State) : Ans :=
  .next (match siteMessage 0x13 s with
    | (some m, t) => setparTake m t
    | (none, _) => s)

/-- BRIDGED_MESSAGE_RECEIVE (R451): the oldest SVC 3 message that waits in Q04. -/
def execBridgedMessageReceive (s : State) : Ans := .next (bridged s)

end Sys2Proof.Machine
end

