-- ==== Sys2Proof/Machine/Disconnect.lean ====
section
/-!
DEFINITION. The disconnect control and its relay (spec/06_billing_time_events.md R233 to R237): requests, the control state, the commands of
the relay and their feedback.
-/
namespace Sys2Proof.Machine

/-- Whether the Signal Box holds the disconnect relay off (R239, R242). -/
def relayBarred (s : State) : Bool :=
  safSt s == 3 || (safSt s == 1 && s.parB Par.ESTOP_DISC && (causeOn s 0 || causeOn s 11))

/-- The relay's part of BtmState replaced. -/
def setRelay (cmd wait again pend : Bool) (s : State) : State :=
  { s with btm := { s.btm with relayOn := cmd, relayWait := wait, relayRepeat := again, relayPend := pend } }

/-- A close command of the relay over X04 (R235, R242): a close refused by a stop reaction is sent again when it has ended. -/
def relayClose (again : Bool) (s : State) : State :=
  match relaySo s with
  | none => setRelay true false false false s
  | some n =>
    if relayBarred s then { setRelay true false again false s with saf := { s.saf with relayHeld := true } }
    else
      let t := setSo n true (if s.bitOf Reg.SAF_OUT n then s else s.bumpReg (Reg.SWC_CYC n))
      { setRelay true true again false t with saf := { t.saf with relayHeld := false } }

/-- An open command of the relay over X04 (R235). -/
def relayOpen (s : State) : State :=
  match relaySo s with
  | none => setRelay false false false false s
  | some n => setRelay false true false false (setSo n false s)

/-- The control state is entered as connected (R235): the relay closes once MTR_STAT.READY is set. -/
def relayWanted (s : State) : State :=
  if s.on Fd.MTR_STAT_READY then relayClose false s else { s with btm := { s.btm with relayPend := true } }

/-- A close that waits for MTR_STAT.READY (R235). -/
def relayReady (s : State) : State :=
  if s.btm.relayPend && s.on Fd.MTR_STAT_READY && s.get Fd.BIL_DISC_STATE == 1 then relayClose false s else s

/-- The control state entered (R234): logged, and the relay commanded; while a contactor output is on, the session first reduces the
current (R235). src is the source of the log entry, by_ what 0x0403 says. -/
def discEnter (st src by_ : Nat) (s : State) : State :=
  let t := s.put Fd.BIL_DISC_STATE st
  if st = 0 then
    let u := logWrite 0x0401 src (t.get Fd.BIL_DISC_REQ) { t with btm := { t.btm with relayPend := false } }
    if contactorOn u then u else relayOpen u
  else if st = 1 then relayWanted (logWrite 0x0403 src by_ t)
  else logWrite 0x0402 src 0 t

/-- The control state follows the active requests (R234). -/
def discUpdate (src by_ : Nat) (s : State) : State :=
  let st := s.get Fd.BIL_DISC_STATE
  if s.get Fd.BIL_DISC_REQ ≠ 0 then (if st = 0 then s else discEnter 0 src by_ s)
  else if st = 0 then discEnter (if s.parN Par.DISC_MODE = 1 then 1 else 2) src by_ s
  else s

/-- A local action (R234): it reconnects a state that is ready for reconnection. -/
def discLocal (src : Nat) (s : State) : State :=
  if s.get Fd.BIL_DISC_REQ = 0 ∧ s.get Fd.BIL_DISC_STATE = 2 then discEnter 1 src 0 s else s

/-- A disconnect request of a source set or withdrawn: bit 0 prepayment, 1 head-end, 2 host, 3 tamper of BIL_DISC.REQ (R233). -/
def discRequest (i : Nat) (b : Bool) (s : State) : State := s.putBit Reg.BIL_DISC (8 + i) b

/-- A write of BIL_DISCCTL (R233, R234): RECON acts first, and with owner access withdraws a tamper request too. -/
def discControl (recon disc owner : Bool) (s : State) : State :=
  let idle := s.get Fd.BIL_DISC_REQ == 0
  let t := when recon (fun t => when owner (discRequest 3 false) (discRequest 2 false t)) s
  let t := discUpdate 2 3 (when disc (discRequest 2 true) t)
  when (recon && idle) (discLocal 2) t

/-- Whether DISC_FB shows the relay closed, from its level (DISC_FB_POL). -/
def relayLevel (s : State) (level : Bool) : Bool := level == (s.parN Par.DISC_FB_POL == 0)

/-- DISC_FB shows the commanded position in time (R236). -/
def relayMet (s : State) : State := { s.lower Fd.BIL_DISC_FAULT with btm := { s.btm with relayWait := false, relayRepeat := false } }

/-- DISC_FB_T has passed and DISC_FB does not show the commanded position (R236): logged at once, or stored while the power-fail save
runs; a failed close is repeated once, with the output off meanwhile. -/
def relayFailed (s : State) : State :=
  let closing := s.btm.relayOn
  let code : Nat := if closing then 1 else 0
  let t := { s.raise Fd.BIL_DISC_FAULT with btm := { s.btm with relayWait := false } }
  let t := if s.pfw then { t with btm := { t.btm with savedFault := some code } } else logWrite 0x0404 0 code t
  match closing, relaySo s with
  | true, some n =>
    if s.btm.relayRepeat then setRelay false false false false (setSo n false t) else setRelay true false true false (setSo n false t)
  | _, _ => t

/-- RELAY_CLOSE_RETRY (R236). -/
def execRelayCloseRetry (s : State) : Ans :=
  .next (if s.btm.relayRepeat && s.btm.relayOn && !s.btm.relayWait then relayClose true s else s)

/-- RELAY_FEEDBACK_UNCOMMANDED (R236): DISC_FB, now at a level, has changed with no command. -/
def execRelayFeedbackUncommanded (level : Bool) (s : State) : Ans :=
  let t := (s.putB Fd.SAF_IN_DISCFB level).putB Fd.BIL_DISC_FB (relayLevel s level)
  .next (if s.btm.relayWait then t else logWrite 0x0307 0 (if level then 1 else 0) t)

/-- DISCONNECT_OPEN_TIMEOUT (R235): 5 s after the request the relay opens in any case. -/
def execDisconnectOpenTimeout (s : State) : Ans :=
  .next (if s.get Fd.BIL_DISC_STATE = 0 ∧ s.btm.relayOn then relayOpen s else s)

end Sys2Proof.Machine
end

