-- ==== Sys2Proof/Machine/Switching.lean ====
section
/-!
DEFINITION. Contactors, the breaker's gate signals, their feedback, and welding (spec/08_earth_fault_trip_switching.md R292 to R297), and the
feedback of the disconnect relay as the Signal Box judges it.
-/
namespace Sys2Proof.Machine

/-- The feedback of an output shows closed (SWC_STAT.FB). -/
def fbClosed (s : State) (n : Nat) : Bool := s.bitOf Reg.SWC_STAT (4 + n)

/-- Whether a contactor output's feedback shows the position commanded, with both paths agreeing. -/
def fbRight (s : State) (n : Nat) : Bool :=
  !s.saf.fbDis.testBit n && fbClosed s n == s.bitOf Reg.SWC_STAT n

/-- Whether every contactor output and the disconnect relay show the position commanded (R295). -/
def fbAllRight (s : State) : Bool :=
  (List.range 4).all (fun n => !(contactorMask s).testBit n || fbRight s n)
    && (match relaySo s with
        | some n => !s.saf.fbDis.testBit 4 && s.on Fd.BIL_DISC_FB == s.bitOf Reg.SWC_STAT n
        | none => true)

/-- The feedback faults shown, and cause CONTFB (R295, R296): its condition ends once every feedback is right and no weld remains. -/
def fbJudge (s : State) : State :=
  let bad := if fbAllRight s then 0 else s.saf.fbBad ||| s.saf.fbDis
  let t := ({ s with saf := { s.saf with fbBad := bad } }).put Fd.SWC_STAT_FBERR bad
  causeFollow 7 (bad != 0 || t.saf.weldCond) t

/-- A feedback fault on an output, or on the disconnect relay at 4. -/
def fbFault (n : Nat) (s : State) : State := { s with saf := { s.saf with fbBad := s.saf.fbBad ||| 2 ^ n } }

/-- Whether the two read paths of a feedback agree, noted. -/
def fbPaths (n : Nat) (agree : Bool) (s : State) : State :=
  let m := s.saf.fbDis &&& (31 ^^^ 2 ^ n)
  { s with saf := { s.saf with fbDis := if agree then m else m ||| 2 ^ n } }

/-- Contactor outputs opened without a stop reaction (R294): GATE_OFF asserted, the outputs off under the timing of R243. -/
def openContactors (s : State) : State :=
  contactorsLater { gateAssert s with saf := { s.saf with close := none } }

/-- The feedback of contactor output n at a level on both paths (R295). time: since the last command of the output, in 0.1 ms. -/
def fbChange (n : Nat) (level : Bool) (time : Nat) (s : State) : State :=
  let closed := level == (s.parN (Par.CONT_FB_POL n) == 0)
  let was := fbClosed s n
  let cmd := s.bitOf Reg.SWC_STAT n
  let t := (s.putBit Reg.SAF_IN (16 + n) level).putBit Reg.SWC_STAT (4 + n) closed
  if closed = was then t
  else if cmd && closed then t.put (Fd.SWC_TIME_CLOSE n) (min time 65535)
  else if !cmd && !closed then t.put (Fd.SWC_TIME_OPEN n) (min time 65535)
  else if !cmd && closed && (contactorMask s).testBit n then fbFault n (t.raise Fd.SWC_EVT_OPENFAIL)
  else t

/-- The level of DISC_FB on both paths (R236). -/
def fbRelay (level : Bool) (s : State) : State :=
  let t := (s.putB Fd.SAF_IN_DISCFB level).putB Fd.BIL_DISC_FB (relayLevel s level)
  let cmd := match relaySo s with
    | some n => s.bitOf Reg.SWC_STAT n
    | none => false
  if s.btm.relayWait && relayLevel s level == cmd then relayMet t else t

/-- Feedback not as commanded for CONT_FB_T (R295). -/
def fbTimeout (n : Nat) (s : State) : State :=
  if (contactorMask s).testBit n ∧ !s.saf.fbDis.testBit n then
    match s.bitOf Reg.SWC_STAT n, fbClosed s n with
    | false, true => fbJudge (fbFault n (s.raise Fd.SWC_EVT_OPENFAIL))
    | true, false => report .uncommanded (openContactors (s.raise Fd.SWC_EVT_UNCMD))
    | _, _ => s
  else s

/-- The first cause that blocks a close: the lowest active or latched (R245). -/
def blockingCause (s : State) : Option Nat := (List.range 22).find? (fun n => causeOn s n || causeLatched s n)

/-- Whether the residual-current monitor is ready for a close (R292). -/
def rcmReady (s : State) : Bool :=
  !rcdPresent s && !s.on Fd.EFT_STAT_RCMDIAG && decide (1000 ≤ s.saf.rcm.blocks)
    && (match s.saf.rcm.passUp with
        | some u => decide (s.regN Reg.SYS_UPTIME ≤ u + (s.parN Par.RCM_TEST_PER + 1) * 3600)
        | none => false)

/-- Whether the insulation result allows a close (R292): judged within the last two cycles, and not a fault. -/
def imdReady (s : State) : Bool :=
  s.saf.imd.judged && decide (s.saf.imd.since ≤ 4) && (s.get Fd.EFT_STAT_IMDST == 1 || s.get Fd.EFT_STAT_IMDST == 2)

/-- Whether the trip path allows a close (R292). -/
def tripReady (s : State) : Bool :=
  tripEnabled s == 0 || (s.on Fd.EFT_STAT_TRIPOK && !s.on Fd.EFT_STAT_TRIPA && !s.on Fd.EFT_STAT_TRIPB)

/-- Whether every named output's feedback shows open (R245). -/
def fbOpen (s : State) (outs : Nat) : Bool :=
  (List.range 4).all (fun n => !outs.testBit n || (!fbClosed s n && !s.saf.fbDis.testBit n))

/-- The reason a close is refused with, if any (R245, R292, SWC_REFUSE). -/
def closeReason (s : State) (outs : Nat) : Option Nat :=
  if s.on Fd.EFT_STAT_TRIPTEST then some 8
  else if (blockingCause s).isSome ∨ safSt s ≠ 0 then some 1
  else if s.saf.pilot ≠ 2 ∧ s.saf.pilot ≠ 3 then some 2
  else if !fbOpen s outs then some 3
  else if s.isF && s.parB Par.RCM_EN && !rcmReady s then some 4
  else if s.isF && s.parB Par.IMD_EN && !imdReady s then some 5
  else if s.isF && !tripReady s then some 6
  else if s.get Fd.SWC_STAT_WELD ≠ 0 then some 7
  else none

/-- A close request refused (R292). -/
def closeRefuse (reason : Nat) (s : State) : State :=
  report (.refused reason (blockingCause s)) ((s.raise Fd.SWC_EVT_REFUSED).put Fd.SWC_REFUSE_REASON reason)

/-- A close request granted (R293 step 2): the outputs on, and their feedback awaited. An insulation cycle that sees the change is
discarded (R282). -/
def closeGrant (outs : Nat) (release : Bool) (s : State) : State :=
  let t := upTo 4 (fun n u => if outs.testBit n then setSo n true (u.bumpReg (Reg.SWC_CYC n)) else u) s
  let c := match s.saf.close with
    | some (o, r) => (o ||| outs, r || release)
    | none => (outs, release)
  { t with saf := { t.saf with close := some c, outWait := false, imd := { t.saf.imd with dirty := true } } }

/-- A close request (R244, R245, R292, R293); the outputs are those of contactors it names. -/
def closeRequest (outs : Nat) (release : Bool) (s : State) : State :=
  let o := outs &&& contactorMask s
  if o = 0 then s
  else match closeReason s o with
    | some r => closeRefuse r s
    | none => closeGrant o release s

/-- The end of a close request (R293 steps 3 to 5): the gate signals released, or the outputs off again and the request refused. -/
def closeDone (s : State) : State :=
  match s.saf.close with
  | none => s
  | some (outs, release) =>
    let t := { s with saf := { s.saf with close := none } }
    if (List.range 4).all (fun n => !outs.testBit n || (fbClosed s n && !s.saf.fbDis.testBit n)) then
      let free := safSt s == 0 && presentCauses s == 0 && !s.on Fd.EFT_STAT_TRIPA && !s.on Fd.EFT_STAT_TRIPB
      report .closed (if release && free then ((t.lower Fd.SAF_OUT_GOFFA).lower Fd.SAF_OUT_GOFFB).raise Fd.SWC_STAT_GATEREL else t)
    else
      let t := upTo 4 (fun n u => if outs.testBit n then setSo n false u else u) (t.raise Fd.SWC_EVT_NOCLOSE)
      let t := if contactorOn t then t else gateAssert t
      closeRefuse 9 { t with saf := { t.saf with imd := { t.saf.imd with dirty := true } } }

/-- The voltage of WELD_ROLE, in mV. -/
def weldVolts (s : State) : Int := if s.parN Par.WELD_ROLE = 10 then s.regI (Reg.MTR_VDC 1) else s.regI (Reg.MTR_VDC 0)

/-- Whether welding is checked and every output in WELD_OUT is off (R296). -/
def weldOff (s : State) : Bool :=
  s.parN Par.WELD_ROLE != 0 && s.parN Par.WELD_OUT != 0 && (s.get Fd.SAF_OUT_SO &&& s.parN Par.WELD_OUT) == 0

/-- Whether every feedback of WELD_OUT shows open. -/
def weldShown (s : State) : Bool := (s.get Fd.SWC_STAT_FB &&& s.parN Par.WELD_OUT) == 0

/-- Whether the voltage lies below WELD_VLIM. -/
def weldLow (s : State) : Bool := decide ((weldVolts s).natAbs < s.parN Par.WELD_VLIM * 1000)

/-- CLOSE_REQUEST (R293): the oldest word of the session on X04 is a close request. -/
def execCloseRequest (s : State) : Ans :=
  .next (match s.x04 with
    | .close outputs release :: ws => closeRequest outputs release { s with x04 := ws }
    | _ => s)

/-- CLOSE_FEEDBACK_DONE (R293): every named output shows closed, or CONT_FB_T has passed. -/
def execCloseFeedbackDone (s : State) : Ans := awake .signalBox s <| .next (closeDone s)

/-- OPEN_REQUEST (R294): the oldest word of the session on X04 is an open request. -/
def execOpenRequest (s : State) : Ans :=
  .next (match s.x04 with
    | .openAll :: ws => openContactors { s with x04 := ws }
    | _ => s)

/-- The levels on the two read paths of output n, or of the disconnect relay at 4 (R295); levels that differ have differed for 2.5 ms. -/
def fbTake (n : Nat) (a b : Bool) (time : Nat) (s : State) : State :=
  if 4 < n then s
  else if a = b then
    let t := fbPaths n true s
    fbJudge (if n = 4 then fbRelay a t else fbChange n a time t)
  else if n = 4 ∨ (contactorMask s).testBit n then fbJudge (fbPaths n false (s.raise Fd.SWC_EVT_FBDISAG))
  else s

/-- CONTACTOR_FEEDBACK_TIMEOUT (R295). -/
def execContactorFeedbackTimeout (n : Nat) (s : State) : Ans := awake .signalBox s <| .next (fbTimeout n s)

/-- WELD_CHECK_TIMEOUT (R296): WELD_T after the moment when every feedback shows open. -/
def execWeldCheckTimeout (s : State) : Ans := awake .signalBox s <|
  .next (if weldOff s && weldShown s && !weldLow s then
      let t := (s.put Fd.SWC_STAT_WELD (s.get Fd.SWC_STAT_WELD ||| s.parN Par.WELD_OUT)).raise Fd.SWC_EVT_WELD
      fbJudge { t with saf := { t.saf with weldCond := true } }
    else s)

/-- WELD_CLEAR (R296): the voltage has read below WELD_VLIM for 1 s with every output in WELD_OUT off. -/
def execWeldClear (s : State) : Ans :=
  .next (if weldOff s && weldLow s then
      fbJudge { s.put Fd.SWC_STAT_WELD 0 with saf := { s.saf with weldCond := false } }
    else s)

/-- RELAY_FEEDBACK_TIMEOUT (R236, R295): DISC_FB_T has passed and DISC_FB shows the relay closed or open. -/
def execRelayFeedbackTimeout (shown : Bool) (s : State) : Ans :=
  .next (if s.btm.relayWait then
      if shown = s.btm.relayOn then relayMet s
      else
        let t := relayFailed s
        if s.btm.relayOn then t else fbJudge (fbFault 4 t)
    else s)

end Sys2Proof.Machine
end

