-- ==== Sys2Proof/Machine/Crossing.lean ====
section
/-!
DEFINITION. Crossings (spec/01_architecture.md R27 to R32, spec/24_faults_ordering.md R646).
-/
namespace Sys2Proof.Machine

/-- The source and the destination of each Crossing (R29). -/
def xingEnds : Nat → Island × Island
  | 0 => (.metrology, .core)
  | 1 => (.core, .metrology)
  | 2 => (.metrology, .signalBox)
  | 3 => (.signalBox, .core)
  | 4 => (.core, .signalBox)
  | 5 => (.vehicleLink, .core)
  | 6 => (.core, .vehicleLink)
  | 7 => (.siteLink, .core)
  | 8 => (.core, .siteLink)
  | 9 => (.siteLink, .signalBox)
  | 10 => (.signalBox, .siteLink)
  | 11 => (.amene, .core)
  | 12 => (.core, .amene)
  | 13 => (.service, .core)
  | 14 => (.core, .service)
  | 15 => (.grotto, .core)
  | 16 => (.core, .grotto)
  | 17 => (.battery, .core)
  | 18 => (.core, .battery)
  | 19 => (.signalBox, .vehicleLink)
  | _ => (.vehicleLink, .signalBox)

/-- The Crossing of a number. -/
def xing (s : State) (x : Nat) : Xing := nth s.xings x ⟨[], []⟩

/-- A Crossing's words replaced. -/
def setXing (s : State) (x : Nat) (c : Xing) : State := { s with xings := setNth s.xings x c }

/-- The highest occupancy brought up to date, and back-pressure asserted, its episode counted, when the FIFO is full (R27, R31). -/
def xingNote (x : Nat) (s : State) : State :=
  let n := (xing s x).fifo.length
  let t := s.put (Fd.SYS_XSTAT_HWM x) (max (s.get (Fd.SYS_XSTAT_HWM x)) n)
  if RegMap.xingDepth x ≤ n then (t.raise (Fd.SYS_XSTAT_BPNOW x)).bump (Fd.SYS_XSTAT_BPCNT x)
  else t.lower (Fd.SYS_XSTAT_BPNOW x)

/-- The island held at one of a Crossing's ends, if one is. -/
def xingHeldEnd (s : State) (x : Nat) : Option Island :=
  if s.held (xingEnds x).1 then some (xingEnds x).1
  else if s.held (xingEnds x).2 then some (xingEnds x).2
  else none

/-- A source writes a word (R27): into the FIFO, or behind back-pressure while the FIFO is full. While an island at either end is
held, the word is discarded and counted (R646). -/
def xingWrite (x : Nat) (w : Word64) (s : State) : State :=
  match xingHeldEnd s x with
  | some i => s.bump (Fd.SYS_FLTCNT_FLUSHED i.num)
  | none =>
    let c := xing s x
    if c.waiting = [] ∧ c.fifo.length < RegMap.xingDepth x then
      xingNote x (setXing s x ⟨c.fifo ++ [w], []⟩)
    else setXing s x ⟨c.fifo, c.waiting ++ [w]⟩

/-- The destination takes the oldest word, and the oldest word its source holds enters the room it frees (R27). -/
def xingAccept (x : Nat) (s : State) : State :=
  match (xing s x).fifo, (xing s x).waiting with
  | [], _ => s
  | w :: ws, [] => ((setXing s x ⟨ws, []⟩).lower (Fd.SYS_XSTAT_BPNOW x)).emit (.xingWord x w)
  | w :: ws, v :: vs => (xingNote x (setXing s x ⟨ws ++ [v], vs⟩)).emit (.xingWord x w)

/-- A flush (R646): the words waiting are discarded and counted against the held island, and back-pressure is released. -/
def xingFlush (i : Island) (x : Nat) (s : State) : State :=
  if (xingEnds x).1 = i ∨ (xingEnds x).2 = i then
    let c := xing s x
    ((setXing s x ⟨[], []⟩).lower (Fd.SYS_XSTAT_BPNOW x)).bump (Fd.SYS_FLTCNT_FLUSHED i.num)
      (c.fifo.length + c.waiting.length)
  else s

/-- Every Crossing to or from an island flushed. -/
def xingFlushAll (i : Island) (s : State) : State := upTo 21 (xingFlush i) s

/-- NOOVF set again on every Crossing of an island that leaves reset (R32). -/
def xingRestore (i : Island) (s : State) : State :=
  upTo 21 (fun x t => if (xingEnds x).1 = i ∨ (xingEnds x).2 = i then t.raise (Fd.SYS_XSTAT_NOOVF x) else t) s

/-- A write of SYS_XCLR (R31): HWM and BPCNT of each named Crossing cleared. -/
def xingStatsClear (bits : Word) (s : State) : State :=
  upTo 21 (fun x t => if Bits.bit bits x then (t.lower (Fd.SYS_XSTAT_HWM x)).lower (Fd.SYS_XSTAT_BPCNT x) else t) s

/-- CROSSING_WORD_WRITE (R27). -/
def execCrossingWordWrite (x : Nat) (w : Word64) (s : State) : Ans :=
  .next (if x < 21 then xingWrite x w s else s)

/-- CROSSING_HELD_WORD_ACCEPT (R27). -/
def execCrossingHeldWordAccept (x : Nat) (s : State) : Ans :=
  .next (if x < 21 then xingAccept x s else s)

/-- CROSSING_STATS_CLEAR (R31): a host write of SYS_XCLR. -/
def execCrossingStatsClear (p : Path) (bits : Word) (s : State) : Ans :=
  .next (hostOwn p 1 (xingStatsClear bits) s)

end Sys2Proof.Machine
end

