-- ==== Sys2Proof/Machine/SignalBox.lean ====
section
/-!
DEFINITION. The Signal Box's cycle, tests, reset, confirmation, the words it receives, and safe telegrams
(spec/07_signal_box.md R242 to R267).
-/
namespace Sys2Proof.Machine

/-- Whether an input pair is in use; an unused pair is ignored (R247). -/
def pairUsed (s : State) (n : Nat) : Bool := n < 2 || pairFunc s n != 0

/-- One sample of an input (R249): three in a row at one level recognise it; a masked sample is skipped. -/
def sampleInput (k : Nat) (level masked : Bool) (s : State) : State :=
  if masked then s
  else
    let r := nth s.saf.runs k (false, 0)
    let n := if r.1 = level then min 3 (r.2 + 1) else 1
    let t := { s with saf := { s.saf with runs := setNth s.saf.runs k (level, n) } }
    if n < 3 then t
    else { t.putBit Reg.SAF_IN k level with saf := { t.saf with seen := t.saf.seen ||| 2 ^ k } }

/-- One set of samples of all inputs. -/
def sampleSet (si mask : Nat) (s : State) : State :=
  upTo 8 (fun k t => sampleInput k (si.testBit k) (mask.testBit k) t) s

/-- A pair's two recognised channels. -/
def pairChannels (s : State) (n : Nat) : Bool × Bool := (s.bitOf Reg.SAF_IN (2 * n), s.bitOf Reg.SAF_IN (2 * n + 1))

/-- The discrepancy timer of a pair (R250, R251) after its channels have been recognised: it runs while they differ; a faulty pair is
cleared by both channels open together, and then both closed before the timer ends. -/
def pairTimer (was now : Bool × Bool) (p : PairState) : PairState :=
  if was = now then p
  else if now.1 ≠ now.2 then { p with timer := true }
  else if !now.1 then { p with timer := false, bothOpen := p.fault }
  else { p with timer := false, cleared := p.cleared || (p.fault && p.bothOpen) }

/-- Both sample sets of a cycle, and the pairs' timers after each. -/
def sampleCycle (i : SafeIn) (s : State) : State :=
  let one := fun (si mask : Nat) (t : State) =>
    let u := sampleSet si mask t
    upTo 4 (fun n v =>
      if pairUsed v n then
        { v with saf := { v.saf with pairs := setNth v.saf.pairs n (pairTimer (pairChannels t n) (pairChannels u n) (nth v.saf.pairs n .zero)) } }
      else v) u
  one i.si2 i.mask2 (one i.si1 i.mask1 s)

/-- Whether a discrepancy fault's condition is present: a faulty pair's channels differ. -/
def discrepant (s : State) : Bool :=
  (List.range 4).any (fun n => (nth s.saf.pairs n .zero).fault && (pairChannels s n).1 != (pairChannels s n).2)

/-- The inputs whose last test pulse showed a fault (R252), those of unused pairs apart: bit k read closed in its own off-pulse, bit
8 + k followed the other output's. -/
def inputFaults (s : State) : Nat :=
  let used := ((List.range 4).map (fun n => if pairUsed s n then 3 * 4 ^ n else 0)).sum
  s.saf.inBad &&& (used + 256 * used)

/-- Whether any current role reads above PLAUS_I (cause PLAUS). -/
def currentOver (s : State) : Bool :=
  let lim := s.parN Par.PLAUS_I
  (List.range 4).any (fun p => decide (lim < s.regN (Reg.MTR_IRMS p)))
    || (List.range 2).any (fun q => decide (lim < (s.regI (Reg.MTR_IDC q)).natAbs))

/-- Cause PLAUS (R247): counts of cycles of 500 µs, held at the number that 200 ms and 100 ms hold. -/
def plausCycle (s : State) : State :=
  let off := if contactorOn s then 0 else min 400 (s.saf.plausOff + 1)
  let above := if currentOver s then min 200 (s.saf.plausOver + 1) else 0
  causeFollow 15 (off == 400 && above == 200) { s with saf := { s.saf with plausOff := off, plausOver := above } }

/-- Whether NOOVF of both Crossings that carry the Core island's words, or of the one that carries the Metrology island's, reads 1. -/
def wordsWhole (s : State) (n : Nat) : Bool :=
  if n = 13 then s.on (Fd.SYS_XSTAT_NOOVF 3) && s.on (Fd.SYS_XSTAT_NOOVF 4) else s.on (Fd.SYS_XSTAT_NOOVF 2)

/-- The causes that input pairs raise (R247, PAIR_FUNC), in the order of their bits. -/
def pairCauses (s : State) : State :=
  let t := causeFollow 1 (pairOpen s 1) (causeFollow 0 (pairOpen s 0) s)
  let t := causeFollow 2 (pairUsed t 2 && pairOpen t 2) t
  causeFollow 3 (pairUsed t 3 && pairOpen t 3) t

/-- One safety cycle (R244, R247, R249, R274, R287): inputs sampled, then every cause evaluated, the lowest bit first, then the end of a
stop reaction. -/
def safetyCycle (i : SafeIn) (s : State) : State :=
  let t := sampleCycle i (s.putB Fd.SAF_IN_RST i.rst)
  let t := causeFollow 4 (discrepant t) (pairCauses t)
  let t := causeFollow 5 (inputFaults t != 0) t
  let t := rcmEvaluate t
  let t := causeFollow 9 (t.saf.imd.bad || funcOpen t 2) t
  let t := tripRecognise (tripComparators i.comp t)
  let t := if wordsWhole t 13 then t else causeSet 13 t
  let t := if wordsWhole t 14 then t else causeSet 14 t
  let t := plausCycle t
  let t := causeFollow 16 (contactorOn t && t.saf.pilot != 2 && t.saf.pilot != 3) t
  settle (causeFollow 21 t.pfw t)

/-- The inputs a test-pulse output feeds (R249): channels a from TP0, channels b from TP1. -/
def fedBy (tp : Nat) : Nat := if tp = 0 then 0x55 else 0xAA

/-- A test pulse judged (R252, R257): the inputs that read closed throughout it, and the inputs that followed it though fed by the
other output. -/
def testPulse (tp closed wrong : Nat) (s : State) : State :=
  let fed := fedBy tp
  let other := 255 ^^^ fed
  let bad := (s.saf.inBad &&& (other + 256 * fed)) ||| (closed &&& fed) ||| (256 * (wrong &&& other))
  let passed := fed &&& (255 ^^^ (closed &&& 255))
  let t := { s with saf := { s.saf with inBad := bad, tested := s.saf.tested ||| passed } }
  settle (causeFollow 5 (inputFaults t != 0) t)

/-- Whether an output's two-switch test applies now (R253, R254): outputs 0 to 3 are SO, 4 + k the low-side switch of channel k. -/
def pulseDue (s : State) (o : Nat) : Bool :=
  if o < 4 then s.bitOf Reg.SAF_OUT o else o < 16 && s.bitOf Reg.SAF_OUT o && (s.get Fd.LSW_STAT_ON).testBit (o - 4)

/-- A low-side channel that stays off until the next start (R254). -/
def banLow (o : Nat) (s : State) : State := lowSides { s with saf := { s.saf with lsBan := s.saf.lsBan ||| 2 ^ (o - 4) } }

/-- A failed test of an output (R253, R254): the other switch opens it, and OUTTEST is set. -/
def outputFault (o : Nat) (s : State) : State := causeSet 6 (if o < 4 then setSo o false s else banLow o s)

/-- Whether a set waits for confirmation. -/
def unconfirmed (s : State) : Bool := causeOn s 17

/-- The mode a set is confirmed under (R264): the record's, or with no record the new set's. -/
def confMode (s : State) : Nat :=
  match s.saf.record with
  | some r => r.2
  | none => s.parN Par.CONF_MODE

/-- The confirmation record written (R264): the check value of the set in the image and its CONF_MODE. -/
def writeRecord (s : State) : State :=
  let t := { s with saf := { s.saf with record := some (s.regN Reg.SAF_CRC, s.parN Par.CONF_MODE), press := false } }
  (t.setRegN Reg.SAF_CRCCONF (s.regN Reg.SAF_CRC)).put Fd.SAF_STAT_MODE (s.parN Par.CONF_MODE)

/-- Whether the door pair is recognised open on both channels. -/
def doorOpen (s : State) : Bool := pairChannels s 1 == (false, false)

/-- An accepted press while a set waits for confirmation (R266, R267). since: the ms since the press before it. -/
def confirmPress (since : Nat) (s : State) : State :=
  if confMode s = 1 then (if s.get Fd.SAF_IN_SEAL = 5 then writeRecord s else s)
  else if !doorOpen s then { s with saf := { s.saf with press := false } }
  else if s.saf.press ∧ since ≤ 10000 then (causeEnd 17 (writeRecord s)).raise Fd.SAF_STAT_CONFOK
  else { s with saf := { s.saf with press := true } }

/-- The latched causes of class B whose condition has ended (R251, R256). -/
def clearable (s : State) : List Nat :=
  classB.filter (fun n => causeLatched s n && !causeOn s n && !(n == 4 && discBlocked s))

/-- The clearing of causes by an accepted reset (R251, R256, R287). refire: the comparators that set a latch again within 1 ms. -/
def clearCauses (refire : Nat) (s : State) : State :=
  let l := clearable s
  let t := l.foldl (fun t n => safLatch n false t) s
  let t := if l.contains 4 then { t with saf := { t.saf with pairs := t.saf.pairs.map (fun p => { p with fault := false, bothOpen := false, cleared := false }) } } else t
  if l.contains 10 then
    let u := (t.lower Fd.EFT_STAT_TRIPA).lower Fd.EFT_STAT_TRIPB
    if refire = 0 then u else tripRecognise (tripComparators refire u)
  else t

/-- A release of SAFE_RST (R248, R255, R256): held is the length of the press in ms, since the ms since the last accepted one. -/
def resetRelease (held since refire : Nat) (s : State) : State :=
  let t := s.lower Fd.SAF_IN_RST
  if 5000 < held then (if causeOn t 19 then { t with saf := { t.saf with stuckOut := true } } else t)
  else if held < 100 ∨ causeOn t 19 then t
  else if causeOn t 20 then t
  else if unconfirmed t then settle (confirmPress since (t.bump Fd.SAF_CNT_RESETS))
  else if causeOn t 18 then t
  else
    let u := t.bump Fd.SAF_CNT_RESETS
    if classC.any (causeLatched u) then u
    else
      let ready := !u.saf.hold
      settle (clearCauses refire { u with saf := { u.saf with needRst := u.saf.needRst && !ready } })

/-- A seed taken (R260): of the current epoch and of the next, for each source. -/
def takeSeed (src epoch : Nat) (w : Word) (s : State) : State :=
  let keep := s.saf.seeds.filter (fun e => e.1 != src || (e.2.1 != epoch && decide (epoch ≤ e.2.1 + 1)))
  { s with saf := { s.saf with seeds := (src, epoch, w) :: keep } }

/-- The seed of a source and an epoch. -/
def seedOf (s : State) (src epoch : Nat) : Option Word :=
  (s.saf.seeds.find? (fun e => e.1 == src && e.2.1 == epoch)).map (·.2.2)

/-- The safe bits of R258. -/
def safeBits (s : State) : Nat :=
  let estop := [0, 2, 3].any (fun n => (n == 0 || pairFunc s n == 3) && (causeOn s n || causeLatched s n))
  (if estop then 1 else 0) + (if safSt s = 1 then 2 else 0) + (if safSt s = 2 then 4 else 0)

/-- Bytes 0 to 27 of the safe telegram sent next (R258): a broadcast. -/
def telegramBody (time : Nat) (s : State) : List Byte :=
  Bits.leBytes 1 0x11 ++ Bits.leBytes 3 (s.parN Par.TG_ADDR % 4096) ++ Bits.leBytes 2 s.saf.seq ++ Bits.leBytes 4 time
    ++ Bits.leBytes 3 s.saf.epoch ++ Bits.leBytes 1 1 ++ Bits.leBytes 2 (safeBits s) ++ Bits.leBytes 3 (s.get Fd.SAF_CAUSE_ACTIVE)
    ++ List.replicate 9 0

/-- The safe telegram sent next, and the state after it is built (R260, R261): a seed that has not arrived leaves the CRC free. -/
def telegramNext (time : Nat) (s : State) : List Byte × State :=
  let body := telegramBody time s
  let sd := match seedOf s (s.parN Par.TG_ADDR) s.saf.epoch with
    | some w => (w, s)
    | none => s.fresh
  let t := (sd.2.setRegN Reg.STG_TXSEQ s.saf.seq).setRegN Reg.STG_TXEPOCH s.saf.epoch
  let next := if s.saf.seq = 65535 then { t.saf with seq := 0, epoch := (s.saf.epoch + 1) % 2 ^ 24 } else { t.saf with seq := s.saf.seq + 1 }
  (body ++ Bits.leBytes 4 (Crc.ieee sd.1.toNat body), { t with saf := next })

/-- A receive connection. -/
def tgConn (s : State) (c : Nat) : TgConn := nth s.saf.conns c (.start 0)

/-- A receive connection replaced. -/
def setConn (c : Nat) (x : TgConn) (s : State) : State := { s with saf := { s.saf with conns := setNth s.saf.conns c x } }

/-- A count of a connection raised (STG_CNT): 0 FORMAT, 1 EPOCH, 2 CRC, 3 COMPARED, 4 MISMATCH, 5 SEQ, 6 TIME, 7 SINGLE. -/
def tgCount (c k : Nat) (s : State) : State := s.bumpReg (Reg.STG_CNT (8 * c + k))

/-- Whether a connection has TG_REACT 1 and a source. -/
def tgReacts (s : State) (c : Nat) : Bool := s.parN (Par.TG_REACT c) == 1 && s.parN (Par.TG_SRC c) != 0xFFFF

/-- Causes TGESTOP and TGLOSS follow the connections with TG_REACT 1 (R247, R262). -/
def tgCauses (s : State) : State :=
  let estop := (List.range 8).any (fun c => tgReacts s c && (tgConn s c).valid && (nth (tgConn s c).bytes 14 0).getLsbD 0)
  let loss := (List.range 8).any (fun c => tgReacts s c && (tgConn s c).lost)
  settle (causeFollow 12 loss (causeFollow 11 estop s))

/-- A connection lost (R262). -/
def tgLost (c : Nat) (s : State) : State :=
  let x := tgConn s c
  let t := setConn c { x with lost := true, run := 0 } s
  if x.lost then t else ((t.putBit Reg.STG_STAT c false).putBit Reg.STG_STAT (8 + c) true).raise Fd.STG_EVT_LOST

/-- A copy accepted with no second copy in time is counted as SINGLE, and breaks the run of R262. -/
def tgSingle (c : Nat) (s : State) : State :=
  if (tgConn s c).comparing then tgCount c 7 (setConn c { tgConn s c with comparing := false, run := 0 } s) else s

/-- A second copy compared bit-identical (R262): the tenth telegram in a row recovers a lost connection. -/
def tgCompared (c : Nat) (s : State) : State :=
  let x := tgConn s c
  let run := if x.comparing then x.run + 1 else x.run
  let back := x.lost && decide (10 ≤ run)
  let t := tgCount c 3 (setConn c { x with comparing := false, run := run, lost := x.lost && !back } s)
  if back then ((t.putBit Reg.STG_STAT c true).putBit Reg.STG_STAT (8 + c) false).raise Fd.STG_EVT_RECOV else t

/-- A telegram accepted (R262). -/
def tgAccept (c net : Nat) (t : List Byte) (arrival : Nat) (s : State) : State :=
  let u := tgSingle c s
  let x := tgConn u c
  let e := Bits.ofLeBytes ((t.drop 10).take 3)
  let y : TgConn := { x with epoch := e, seq := Bits.ofLeBytes ((t.drop 4).take 2), time := Bits.ofLeBytes ((t.drop 6).take 4),
                             arrival := arrival, bytes := t, net := net, valid := true, comparing := true }
  let u := (setConn c y u).setRegN (Reg.STG_LASTEP c) e
  if y.lost then u else u.putBit Reg.STG_STAT c true

/-- How far two free-running 32-bit times in µs lie apart, forward. -/
def usSince (later earlier : Nat) : Nat := (later + 2 ^ 32 - earlier % 2 ^ 32) % 2 ^ 32

/-- A copy checked on its connection (R262). The first telegram after a start is checked against the stored EPOCH alone. -/
def tgCheck (c net : Nat) (t : List Byte) (arrival : Nat) (s : State) : State :=
  let x := tgConn s c
  let e := Bits.ofLeBytes ((t.drop 10).take 3)
  let q := Bits.ofLeBytes ((t.drop 4).take 2)
  let time := Bits.ofLeBytes ((t.drop 6).take 4)
  let soon := decide (usSince arrival x.arrival ≤ 2000)
  if e < x.epoch ∨ (x.valid ∧ x.epoch + 16 < e) then tgCount c 1 s
  else if (match seedOf s (s.parN (Par.TG_SRC c)) e with
      | some w => Crc.ieee w.toNat (t.take 28) != Bits.ofLeBytes ((t.drop 28).take 4)
      | none => true) then tgCount c 2 s
  else if x.valid ∧ e = x.epoch ∧ q = x.seq then
    if soon ∧ t = x.bytes then tgCompared c s
    else if soon then tgLost c (tgCount c 4 (setConn c { x with comparing := false } (s.raise Fd.STG_EVT_MISMATCH)))
    else s
  else if x.valid ∧ e = x.epoch ∧ (q < x.seq ∨ x.seq + 16 < q) then tgCount c 5 s
  else if x.valid ∧ 2000 < (Bits.signed 32 (usSince time x.time) - Bits.signed 32 (usSince arrival x.arrival)).natAbs then tgCount c 6 s
  else tgAccept c net t arrival s

/-- The source a telegram names, and whether its version is right and it is addressed to this module (R258, R259). -/
def tgSource (t : List Byte) : Nat := Bits.ofLeBytes ((t.drop 1).take 3) % 4096

/-- Whether a telegram's version and destination pass (R259). -/
def tgAddressed (s : State) (t : List Byte) : Bool :=
  let dst := Bits.ofLeBytes ((t.drop 1).take 3) / 4096
  let bcast := (nth t 13 0).getLsbD 0
  (nth t 0 0).toNat / 16 == 1 && (if bcast then dst == 0 else dst == s.parN Par.TG_ADDR)

/-- A copy of a safe telegram from network net (R262). A source in no connection fails FORMAT on every connection in use. -/
def tgReceive (net : Nat) (bytes : List Byte) (arrival : Nat) (s : State) : State :=
  let t := bytes.take 32
  let s := if net < 2 then s.bumpReg (Reg.STG_NETRX net) else s
  let used := (List.range 8).filter (fun c => s.parN (Par.TG_SRC c) != 0xFFFF)
  match used.find? (fun c => s.parN (Par.TG_SRC c) == tgSource t) with
  | none => used.foldl (fun u c => tgCount c 0 u) s
  | some c => if tgAddressed s t then tgCauses (tgCheck c net t arrival s) else tgCount c 0 s

/-- SAFETY_CYCLE (R247). -/
def execSafetyCycle (i : SafeIn) (s : State) : Ans := awake .signalBox s <| .next (safetyCycle i s)

/-- DISCREPANCY_TIMEOUT (R250): the timer of a pair ends. -/
def execDiscrepancyTimeout (pair : Nat) (s : State) : Ans := awake .signalBox s <|
  let p := nth s.saf.pairs pair .zero
  .next (if p.timer && pairUsed s pair then
      let q := { p with timer := false, fault := true, bothOpen := false, cleared := false }
      let t := { s with saf := { s.saf with pairs := setNth s.saf.pairs pair q } }
      causeFollow 4 (discrepant t) (causeSet 4 t)
    else s)

/-- INPUT_TEST_PULSE (R252): the off-pulse of TP0 or TP1, the inputs that read closed throughout it, and those that followed it
though fed by the other output. -/
def execInputTestPulse (tp : Nat) (closed wrong : Nat) (s : State) : Ans := awake .signalBox s <| .next (if tp < 2 then testPulse tp closed wrong s else s)

/-- OUTPUT_TEST_PULSE (R253, R254): output 0 to 3, or 4 + k for the low-side switch of channel k; whether its level moved as it
must. -/
def execOutputTestPulse (output : Nat) (pass : Bool) (s : State) : Ans := awake .signalBox s <|
  .next (if pulseDue s output && !pass then outputFault output s else s)

/-- OUTPUT_OFF_CHECK (R253, R254): whether a switch of an output that is off conducts. -/
def execOutputOffCheck (output : Nat) (conducts : Bool) (s : State) : Ans := awake .signalBox s <|
  .next (if output < 16 ∧ conducts ∧ !s.bitOf Reg.SAF_OUT output then outputFault output s else s)

/-- RESET_STUCK_TIMEOUT (R255): SAFE_RST has been held for longer than 5 s. -/
def execResetStuckTimeout (s : State) : Ans := awake .signalBox s <|
  .next (if s.on Fd.SAF_IN_RST then causeSet 19 { s with saf := { s.saf with stuckOut := false } } else s)

/-- SEAL_CHANGE (R265, R267): the new pattern of SEAL3 to SEAL0; away from the run pattern in seal mode it sets SEAL. -/
def execSealChange (pattern : Nat) (s : State) : Ans :=
  let t := (s.put Fd.SAF_IN_SEAL pattern).put Fd.SAF_STAT_SEAL pattern
  .next (if s.on Fd.SAF_STAT_MODE && s.on Fd.SAF_STAT_CONFOK && pattern % 16 != 10 then causeSet 18 t else t)

/-- CORE_WORD_RECEIVE (R246, R260): a word on X04, and the seed it carries: source, epoch, seed. -/
def execCoreWordReceive (seed : Option (Nat × Nat × Word)) (s : State) : Ans := awake .signalBox s <|
  let t := { s with saf := { s.saf with coreSeen := true, coreBack := s.saf.coreBack || causeOn s 13 } }
  .next (match seed with
    | some (src, epoch, w) => takeSeed src epoch w t
    | none => t)

/-- CORE_TIMEOUT (R246, R247). -/
def execCoreTimeout (s : State) : Ans := awake .signalBox s <| .next (causeSet 13 { s with saf := { s.saf with coreBack := false } })

/-- METRO_TIMEOUT (R246, R247). -/
def execMetroTimeout (s : State) : Ans := awake .signalBox s <| .next (causeSet 14 { s with saf := { s.saf with metroBack := false } })

/-- CAUSE_RESUME_HOLD_END (R247): 1 s after X04 (cause 13) or X02 (14) resumes, or after SAFE_RST is released (19). -/
def execCauseResumeHoldEnd (n : Nat) (s : State) : Ans := awake .signalBox s <|
  .next (if n = 13 ∧ s.saf.coreBack ∧ wordsWhole s 13 then settle (causeEnd 13 { s with saf := { s.saf with coreBack := false } })
    else if n = 14 ∧ s.saf.metroBack ∧ wordsWhole s 14 then settle (causeEnd 14 { s with saf := { s.saf with metroBack := false } })
    else if n = 19 ∧ s.saf.stuckOut then settle (causeEnd 19 { s with saf := { s.saf with stuckOut := false } })
    else s)

/-- SAFE_TELEGRAM_RECEIVE (R262): the oldest copy on X09 reaches the Signal Box. arrival: its time in the Signal Box's clock. -/
def execSafeTelegramReceive (arrival : Nat) (s : State) : Ans := awake .signalBox s <|
  .next (match s.x09 with
    | [] => s
    | (net, bytes) :: l => tgReceive net bytes arrival { s with x09 := l })

/-- TELEGRAM_TIMEOUT (R262): no copy has been accepted on connection c for 20 ms. -/
def execTelegramTimeout (c : Nat) (s : State) : Ans := awake .signalBox s <|
  .next (if c < 8 ∧ s.parN (Par.TG_SRC c) ≠ 0xFFFF then tgCauses (tgLost c (tgSingle c s)) else s)

end Sys2Proof.Machine
end

