-- ==== Sys2Proof/Machine/Vehicle.lean ====
section
/-!
DEFINITION. The Vehicle link (spec/09_vehicle_link.md): pilot generator and measurement, proximity, Green PHY, SLAC and its
coordination, T1S.
-/
namespace Sys2Proof.Machine

/-- The Vehicle link replaced. -/
def setVl (v : VlState) (s : State) : State := { s with vl := v }

/-- A report to the session over X05. -/
def toSession (r : VlReport) (s : State) : State := { s with x05 := s.x05 ++ [r] }

/-- The drive mode that R303 chooses. -/
def pilotDrive (s : State) : Nat :=
  if s.get Fd.CPL_STAT_SBDEM = 2 then 5
  else if s.get Fd.CPL_STAT_SBDEM = 1 then 4
  else if s.vl.await then 0
  else if s.vl.mode ≠ 0 then s.vl.mode
  else if s.on Fd.CPL_STAT_COREFB then 0
  else if s.get Fd.CPL_DUTY_REQ = 0 then 0 else 1

/-- The drive and the duty in force brought up to date (R302 to R304). -/
def pilotApply (s : State) : State :=
  let d := pilotDrive s
  (s.put Fd.CPL_STAT_DRIVE d).put Fd.CPL_DUTY_DUTY (if d = 1 then s.get Fd.CPL_DUTY_REQ else 0)

/-- A demand of the Signal Box over X19 (R303, R304): 0 withdraws it. -/
def pilotDemanded (v : Nat) (s : State) : State :=
  let was := s.get Fd.CPL_STAT_SBDEM
  pilotApply (setVl { s.vl with await := s.vl.await || v != 0 || was != 0 } (s.put Fd.CPL_STAT_SBDEM v))

/-- A session request on X06 (R303, R304): mode 0 with a duty in 0.01 %, or mode 4 E or 5 F. -/
def pilotRequest (mode duty : Nat) (s : State) : State :=
  let t := s.lower Fd.CPL_STAT_COREFB
  if s.get Fd.CPL_STAT_SBDEM ≠ 0 then t
  else if mode = 4 ∨ mode = 5 then pilotApply (setVl { t.vl with mode := mode, await := false } t)
  else if duty ≠ 0 ∧ (duty < 300 ∨ 9700 < duty) then pilotApply t
  else pilotApply (setVl { t.vl with mode := 0, await := false } (t.put Fd.CPL_DUTY_REQ duty))

/-- The band of a state by the high level in mV (R306): lower edge, and the upper edge it stops below. -/
def levelBand : Nat → Int × Int
  | 0 => (10500, 32768)
  | 1 => (7500, 10500)
  | 2 => (4500, 7500)
  | 3 => (1500, 4500)
  | 4 => (-1500, 1500)
  | 5 => (-32768, -10500)
  | _ => (-10500, -1500)

/-- The state a high level maps to (R306): the present one until the level has passed its boundary by 0.3 V. -/
def levelState (present : Nat) (high : Int) : Nat :=
  let inBand := fun (w : Int) (n : Nat) => decide ((levelBand n).1 - w ≤ high) && decide (high < (levelBand n).2 + w)
  if inBand 300 present then present else ((List.range 7).find? (inBand 0)).getD 6

/-- SLAC ends in state 8 with a failure (R315); reason 9 leaves the vehicle a link. -/
def slacFail (reason : Nat) (s : State) : State :=
  let t := ((s.put Fd.VPL_STAT_SLACST 8).put Fd.VPL_SLACFAIL_REASON reason).raise Fd.VPL_EVT_SLACFAIL
  let t := setVl { t.vl with toggleOpen := false } (t.lower Fd.VPL_STAT_COORD)
  let t := if reason = 4 then (t.raise Fd.VPL_EVT_LOSTTIE).bump ⟨Reg.VPL_MATCHCNT, 16, 16⟩ else t
  if reason = 4 ∨ reason = 9 then t else toSession .linkFail t

/-- The state of the SLAC engine. -/
def slacSt (s : State) : Nat := s.get Fd.VPL_STAT_SLACST

/-- The SLAC neighbours in use (R319). -/
def slacNeighbours (s : State) : List Nat := ((List.range 8).map (fun n => s.parN (Par.SLAC_NB n))).filter (· != 0xFFFF)

/-- A coordination message (R319): type 1 report, 2 withdraw. -/
def coordMessage (type : Nat) (byAddress : Bool) (s : State) : List Byte :=
  Bits.leBytes 1 1 ++ Bits.leBytes 1 type ++ Bits.leBytes 2 (s.parN Par.GRP_ADDR) ++ Bits.leBytes 2 s.vl.sent ++ Bits.leBytes 8 s.vl.runId
    ++ Bits.leBytes 6 s.vl.evMac ++ Bits.leBytes 2 (s.get Fd.VPL_ATTEN_ATTEN) ++ Bits.leBytes 1 s.vl.sounds
    ++ Bits.leBytes 1 (if byAddress then 1 else 0) ++ Bits.leBytes 4 s.vl.bage

/-- A coordination message sent to every neighbour. -/
def coordSend (type : Nat) (s : State) : State :=
  let m := coordMessage type s.vl.validate s
  let t := (slacNeighbours s).foldl (fun u n => groupSend 1 n m u) s
  setVl { t.vl with sent := (t.vl.sent + 1) % 65536 } t

/-- A link comes into use, until pilot state A (R325). -/
def linkUse (kind : Nat) (s : State) : State :=
  if s.get Fd.VPL_STAT_LINK = 0 then toSession (.link kind) (s.put Fd.VPL_STAT_LINK kind) else s

/-- SLAC given up for another reason while it has not matched; a withdraw goes out when coordination was under way (R325, R327). -/
def slacAbort (reason : Nat) (s : State) : State :=
  if 1 ≤ slacSt s ∧ slacSt s ≤ 6 then slacFail reason (if s.on Fd.VPL_STAT_COORD then coordSend 2 s else s) else s

/-- The T1S link is used where VL_MODE allows it (R325). -/
def t1sTake (s : State) : State :=
  let b := s.get Fd.CPL_STAT_STATE
  if s.on Fd.VPL_STAT_T1SUP && (b == 1 || b == 2 || b == 3) && s.get Fd.VPL_STAT_LINK == 0 then
    if s.parN Par.VL_MODE = 1 then linkUse 2 s
    else if s.parN Par.VL_MODE = 2 ∧ slacSt s ≠ 7 then linkUse 2 (slacAbort 9 s)
    else s
  else s

/-- Pilot state B recognised (R315, R325). -/
def slacEntry (s : State) : State :=
  let t := if slacSt s = 0 ∧ (s.parN Par.VL_MODE = 0 ∨ s.parN Par.VL_MODE = 2) ∧ s.parN Par.PROTO_EN ≠ 0 then s.put Fd.VPL_STAT_SLACST 1 else s
  t1sTake t

/-- Pilot state A recognised (R315, R318, R325): the key is removed and the link ends. -/
def slacIdle (s : State) : State :=
  setVl { s.vl with key := none, reports := [], heard := false } ((s.put Fd.VPL_STAT_SLACST 0).put Fd.VPL_STAT_LINK 0)

/-- A pilot state recognised (R308, R309, R278): sent to the Signal Box and the session. -/
def pilotRecognised (st : Nat) (s : State) : State :=
  let was := s.get Fd.CPL_STAT_STATE
  let t := (s.put Fd.CPL_STAT_STATE st).raise Fd.CPL_EVT_STATECHG
  let t := if st = 7 then (t.raise Fd.CPL_EVT_DIODE).bump ⟨Reg.CPL_CNT, 16, 16⟩ else when (st == 6) (·.raise Fd.CPL_EVT_INVALID) t
  let t := if st = 1 ∨ st = 2 ∨ st = 3 then t else t.setRegN Reg.CPL_BAGE 0
  let t := toSession (.pilot st) { t with saf := { t.saf with pilot := st } }
  let t := if was = 1 ∧ st = 2 ∧ t.vl.toggleOpen then setVl { t.vl with toggles := t.vl.toggles + 1 } t else t
  let t := if was = 0 ∧ st = 1 then
      let due := match t.saf.rcm.passUp with
        | some u => decide (u + 60 < t.regN Reg.SYS_UPTIME)
        | none => true
      let u := (t.bump ⟨Reg.CPL_CNT, 0, 16⟩).setRegN Reg.CPL_BAGE 0
      if due then rcmTestAsk u else u
    else t
  let t := if st = 1 ∨ st = 2 ∨ st = 3 then t else slacAbort 8 t
  if st = 1 then slacEntry t else if st = 0 then slacIdle t else t

/-- Three agreeing measurements of CP (R305 to R308): the levels in mV; age: the ms since the last transition from A to B. -/
def pilotMeasure (high low : Int) (age : Nat) (s : State) : State :=
  let l := levelState s.vl.level high
  let diode := s.get Fd.CPL_STAT_DRIVE == 1 && (l == 1 || l == 2 || l == 3) && decide (-10500 < low)
  let st := if diode then 7 else l
  let t := setVl { s.vl with level := l } ((s.put Fd.CPL_LEVEL_HIGH (Bits.ofInt 16 high)).put Fd.CPL_LEVEL_LOW
    (Bits.ofInt 16 (if s.get Fd.CPL_STAT_DRIVE = 1 then low else high)))
  let held := s.get Fd.CPL_STAT_STATE
  let t := if held = 1 ∨ held = 2 ∨ held = 3 then t.setRegN Reg.CPL_BAGE (min age 0xFFFFFFFF) else t
  if st = held then { t with saf := { t.saf with pilot := st } } else pilotRecognised st t

/-- The proximity code of a resistance in mΩ (R310); none is open. -/
def proxCode (mode : Nat) (mohm : Option Nat) : Nat :=
  match mohm with
  | none => 0
  | some r =>
    if 4500000 < r then 0
    else if r < 60000 then 6
    else if mode = 2 then 5
    else if 2200000 < r then 7
    else if 1100000 ≤ r then 1
    else if 440000 ≤ r then 2
    else if 160000 ≤ r then 3
    else 4

/-- A measurement of PP (R310, R311). -/
def proxMeasure (mohm : Option Nat) (s : State) : State :=
  let mode := s.parN Par.PP_MODE
  if mode = 0 then (s.put Fd.CPL_STAT_PPCODE 15).setRegN Reg.CPL_PPRES 0xFFFFFFFF
  else
    let c := proxCode mode mohm
    let run := if c = s.vl.ppBand then min 3 (s.vl.ppRun + 1) else 1
    let shown := match mohm with
      | some r => (Exact.toInt ((r : Rat) / 1000)).toNat
      | none => 0xFFFFFFFF
    let t := setVl { s.vl with ppBand := c, ppRun := run } (s.setRegN Reg.CPL_PPRES (if c = 0 then 0xFFFFFFFF else shown))
    if run = 3 ∧ c ≠ s.get Fd.CPL_STAT_PPCODE then
      let u := (t.put Fd.CPL_STAT_PPCODE c).raise Fd.CPL_EVT_PPCHG
      toSession (.prox c) (when (c == 6 || c == 7) (·.raise Fd.CPL_EVT_PPFAULT) u)
    else t

/-- The first n frames of Q20, then of Q21 (R314), taken out of their queues. -/
def gpTake (n : Nat) (s : State) : List Frame × State :=
  let a := (queue s 20).take n
  let b := (queue s 21).take (n - a.length)
  (a ++ b, setQueue 21 ((queue s 21).drop b.length) (setQueue 20 ((queue s 20).drop a.length) s))

/-- A burst sent (R313). -/
def gpSend (full : Bool) (n : Nat) (s : State) : State :=
  let x := gpTake n (setVl { s.vl with burstWait := false } s)
  let t := x.2.emit (.burst full x.1)
  if full then t else (t.bump ⟨Reg.VPL_GPCNT, 16, 16⟩).raise Fd.VPL_EVT_GPREDUCED

/-- A burst (R313): it asks for a Token of kind 4, waits while the request is deferred, and is sent reduced when it has been refused.
Nothing is sent while PFW_N is asserted (R327). -/
def gpBurst (n : Nat) (s : State) : State :=
  if s.pfw then s
  else if tokHolds s 4 0 then tokRelease 4 0 (gpSend true n s)
  else if tokWaits s 4 0 then s
  else if s.vl.burstWait then gpSend false n s
  else match tokRequest 4 0 0 s with
    | (.granted, t) => tokRelease 4 0 (gpSend true n t)
    | (.deferred, t) => setVl { t.vl with burstWait := true } t
    | (.refused _, t) => gpSend false n t

/-- A frame put into the receive queue of its priority (R314, R324), or dropped and counted when the queue is full. -/
def vehicleReceive (base : Nat) (drop : RegField) (prio : Nat) (bytes : List Byte) (s : State) : State :=
  let n := if 4 ≤ prio then base else base + 1
  if 8 ≤ (queue s n).length then (s.bump drop).raise Fd.VPL_EVT_RXDROP else enqueue n (Frame.plain bytes) s

/-- A fresh SLAC attempt (R315, R316). -/
def slacParm (runId mac age : Nat) (s : State) : State :=
  let age := min age 0xFFFFFFFF
  let t := (s.setRegN Reg.CPL_BAGE age).put Fd.VPL_STAT_SLACST 2
  let t := (t.setRegN (Reg.VPL_RUNID 0) (runId % 2 ^ 32)).setRegN (Reg.VPL_RUNID 1) (runId / 2 ^ 32)
  let v := { t.vl with runId := runId, evMac := mac, bage := age, groups := List.replicate 58 0, sounds := 0, repeats := 0,
                       validate := false, toggleOpen := false, toggles := 0, reports := [], heard := false }
  (setVl v (t.lower Fd.VPL_STAT_COORD)).emit (.slac (.parmCnf runId mac 10 6 1))

/-- CM_SLAC_PARM.REQ (R315, R316): in state 1, in state 8 with a new RunID, or from a vehicle that starts again with a new RunID. -/
def slacParmReq (runId mac security age : Nat) (s : State) : State :=
  let st := slacSt s
  let again := st == 8 || (decide (2 ≤ st) && decide (st ≤ 6) && mac == s.vl.evMac)
  if security = 0 ∧ s.get Fd.CPL_STAT_STATE = 1 ∧ (st = 1 ∨ (again ∧ runId ≠ s.vl.runId)) then slacParm runId mac age s else s

/-- CM_ATTEN_CHAR.IND sent (R321): the engine is in state 4. -/
def slacAnswer (s : State) : State :=
  let t := (s.put Fd.VPL_STAT_SLACST 4).lower Fd.VPL_STAT_COORD
  (setVl { t.vl with repeats := 0 } t).emit (.slac (.attenChar t.vl.runId (t.get Fd.VPL_ATTEN_ATTEN)))

/-- The own report (R320). -/
def coordOwn (s : State) : CoordReport := ⟨s.parN Par.GRP_ADDR, s.vl.runId, s.get Fd.VPL_ATTEN_ATTEN, s.vl.bage⟩

/-- The end of sounding (R316, R319, R320). -/
def soundingEnd (s : State) : State :=
  let n := s.vl.sounds
  let mean : Rat := if n = 0 then 0 else ((s.vl.groups.sum : Nat) : Rat) / ((58 * n : Nat) : Rat)
  let t := s.put Fd.VPL_ATTEN_SOUNDS n
  let t := if n = 0 then t else t.put Fd.VPL_ATTEN_ATTEN (Exact.toInt mean).toNat
  let t := t.put Fd.VPL_ATTEN_NREP 0
  if n < s.parN Par.SLAC_MIN_SOUNDS then slacFail 2 t
  else if (s.parN Par.SLAC_ATT_MAX : Rat) < mean then slacFail 3 t
  else if s.parB Par.SLAC_COORD && slacNeighbours s != [] then
    let u := (t.put Fd.VPL_STAT_SLACST 3).raise Fd.VPL_STAT_COORD
    coordSend 1 (setVl { u.vl with reports := [coordOwn u], heard := false } u)
  else slacAnswer t

/-- The pair that R320 takes next from a list of pairs, and whether by address. -/
def coordWinner (tie : Nat) (pairs : List CoordReport) : Option (CoordReport × Bool) :=
  match pairs with
  | [] => none
  | p :: ps =>
    let m := ps.foldl (fun m x => min m x.atten) p.atten
    let tied := pairs.filter (fun x => decide (x.atten ≤ m + tie))
    match tied.find? (fun w => tied.all (fun x => x == w || decide (w.bage + 1000 ≤ x.bage))) with
    | some w => some (w, false)
    | none =>
      let least := (tied.map (·.src)).foldl min 0xFFFF
      let c := tied.filter (·.src == least)
      some (nth c (Config.coordPick (c.map (·.runId)) % c.length) p, true)

/-- The assignments of R320: each with its RunID, its post and whether it was decided by address. -/
def coordAssign (tie : Nat) : Nat → List CoordReport → List (CoordReport × Bool)
  | 0, _ => []
  | n + 1, pairs =>
    match coordWinner tie pairs with
    | none => []
    | some w => w :: coordAssign tie n (pairs.filter (fun x => x.src != w.1.src && x.runId != w.1.runId))

/-- The decision of R320 from the reports held (R321). -/
def coordDecide (s : State) : State :=
  let own := s.parN Par.GRP_ADDR
  let a := coordAssign (s.parN Par.SLAC_TIE) s.vl.reports.length s.vl.reports
  match a.find? (fun w => w.1.src == own && w.1.runId == s.vl.runId) with
  | some w => slacAnswer (setVl { s.vl with validate := w.2 && s.parB Par.SLAC_VALIDATE } s)
  | none => if slacSt s = 8 then s else slacFail 4 s

/-- A report of a neighbour (R319, R320): collected while the window is open, one per post and RunID. -/
def coordReport (m : List Byte) (s : State) : State :=
  let num := fun (o n : Nat) => Bits.ofLeBytes ((m.drop o).take n)
  let r : CoordReport := ⟨num 2 2 % 4096, num 6 8, num 20 2, num 24 4⟩
  if m.length = 28 ∧ num 0 1 = 1 ∧ num 1 1 = 1 ∧ r.src ∈ slacNeighbours s ∧ slacSt s = 3 then
    let keep := s.vl.reports.filter (fun x => !(x.src == r.src && x.runId == r.runId))
    setVl { s.vl with reports := keep ++ [r], heard := true } s
  else s

/-- The end of the window of R320 (R322). -/
def coordEnd (s : State) : State :=
  if slacSt s = 3 then
    let t := s.put Fd.VPL_ATTEN_NREP (s.vl.reports.filter (fun r => r.src != s.parN Par.GRP_ADDR)).length
    if s.vl.heard then coordDecide t
    else slacAnswer (setVl { t.vl with validate := s.parB Par.SLAC_VALIDATE } (t.raise Fd.VPL_EVT_COORDLOST))
  else s

/-- A withdraw of a neighbour (R321); since: the ms since the own window ended. -/
def coordWithdraw (m : List Byte) (since : Nat) (s : State) : State :=
  let num := fun (o n : Nat) => Bits.ofLeBytes ((m.drop o).take n)
  let src := num 2 2 % 4096
  if m.length = 28 ∧ num 0 1 = 1 ∧ num 1 1 = 2 ∧ src ∈ slacNeighbours s then
    let t := setVl { s.vl with reports := s.vl.reports.filter (fun x => x.src != src) } s
    if slacSt s = 3 then t
    else if slacSt s = 8 ∧ s.get Fd.VPL_SLACFAIL_REASON = 4 ∧ since ≤ 2000 ∧ s.get Fd.CPL_STAT_STATE = 1 then coordDecide t
    else s
  else s

/-- The end of the toggle window (R317, R321). -/
def toggleEnd (count : Nat) (s : State) : State :=
  if slacSt s = 5 ∧ s.vl.toggleOpen then
    let t := setVl { s.vl with toggleOpen := false } s
    if count = s.vl.toggles then t.put Fd.VPL_STAT_SLACST 6
    else slacFail 7 (if s.vl.reports = [] then t else coordSend 2 t)
  else s

/-- n words drawn from the Grotto random generator. -/
def drawWords : Nat → State → List Word × State
  | 0, s => ([], s)
  | n + 1, s =>
    let x := s.fresh
    let y := drawWords n x.2
    (x.1 :: y.1, y.2)

/-- CM_SLAC_MATCH.REQ answered (R318): network identifier and membership key, freshly drawn. -/
def slacMatch (runId mac : Nat) (s : State) : State :=
  let k := drawWords 6 s
  let t := (k.2.put Fd.VPL_STAT_SLACST 7).raise Fd.VPL_EVT_MATCH
  let t := (t.setRegN (Reg.VPL_RUNID 0) (runId % 2 ^ 32)).setRegN (Reg.VPL_RUNID 1) (runId / 2 ^ 32)
  let t := (t.setRegN (Reg.VPL_EVMAC 0) (mac % 2 ^ 32)).setRegN (Reg.VPL_EVMAC 1) (mac / 2 ^ 32 % 65536)
  let t := setVl { t.vl with key := some k.1 } (t.bump ⟨Reg.VPL_MATCHCNT, 0, 16⟩)
  linkUse 1 (t.emit (.slac (.matchCnf runId mac k.1)))

/-- PILOT_DEMAND_RECEIVE (R303, R304): the word at the front of X19. -/
def execPilotDemandReceive (s : State) : Ans := awake .vehicleLink s <|
  .next (match s.x19 with
    | [] => s
    | v :: vs => pilotDemanded v { s with x19 := vs })

/-- PILOT_SESSION_REQUEST (R303, R304): a word given, or the word at the front of X06. -/
def execPilotSessionRequest (word : Option (Nat × Nat)) (s : State) : Ans :=
  .next (match word, s.x06 with
    | some w, _ => pilotRequest w.1 w.2 s
    | none, w :: ws => pilotRequest w.1 w.2 { s with x06 := ws }
    | none, [] => s)

/-- PILOT_X06_SILENCE (R303). -/
def execPilotX06Silence (s : State) : Ans := awake .vehicleLink s <| .next (pilotApply ((s.raise Fd.CPL_STAT_COREFB).raise Fd.CPL_EVT_COREFB))

/-- PILOT_STATE_CHANGE (R308). -/
def execPilotStateChange (high low : Int) (age : Nat) (s : State) : Ans := awake .vehicleLink s <| .next (pilotMeasure high low age s)

/-- PROXIMITY_MEASURE (R310): the resistance in mΩ. -/
def execProximityMeasure (mohm : Option Nat) (s : State) : Ans := awake .vehicleLink s <| .next (proxMeasure mohm s)

/-- GP_BURST_TRANSMIT (R313): a burst of up to n frames. -/
def execGpBurstTransmit (n : Nat) (s : State) : Ans := awake .vehicleLink s <| .next (gpBurst n s)

/-- GP_FRAME_RECEIVE (R314): from the vehicle station that has been admitted. -/
def execGpFrameReceive (prio : Nat) (bytes : List Byte) (s : State) : Ans := awake .vehicleLink s <|
  .next (if s.vl.key.isSome then vehicleReceive 22 ⟨Reg.VPL_RXDROP, 0, 16⟩ prio bytes s else s)

/-- CM_SLAC_PARM_REQ (R315, R316); age: CPL_BAGE at its reception. -/
def execCmSlacParmReq (runId mac security age : Nat) (s : State) : Ans := awake .vehicleLink s <| .next (slacParmReq runId mac security age s)

/-- CM_MNBC_SOUND_IND (R316): the attenuation of each of the 58 groups, in 0.1 dB. -/
def execCmMnbcSoundInd (runId : Nat) (groups : List Nat) (s : State) : Ans := awake .vehicleLink s <|
  .next (if slacSt s = 2 ∧ runId = s.vl.runId ∧ groups.length = 58 then
      let t := setVl { s.vl with groups := List.zipWith (· + ·) s.vl.groups groups, sounds := s.vl.sounds + 1 } s
      if t.vl.sounds = 10 then soundingEnd t else t
    else s)

/-- SOUNDING_END (R316). -/
def execSoundingEnd (s : State) : Ans := awake .vehicleLink s <| .next (if slacSt s = 2 then soundingEnd s else s)

/-- SLAC_INIT_TIMEOUT (R315). -/
def execSlacInitTimeout (s : State) : Ans := awake .vehicleLink s <| .next (if slacSt s = 1 then slacFail 1 s else s)

/-- CM_ATTEN_CHAR_RSP (R315, R321). -/
def execCmAttenCharRsp (runId : Nat) (s : State) : Ans := awake .vehicleLink s <|
  .next (if slacSt s = 4 ∧ runId = s.vl.runId then s.put Fd.VPL_STAT_SLACST (if s.vl.validate then 5 else 6) else s)

/-- ATTEN_CHAR_REPEAT_TIMEOUT (R315). -/
def execAttenCharRepeatTimeout (s : State) : Ans := awake .vehicleLink s <|
  .next (if slacSt s = 4 then
      if s.vl.repeats < 3 then
        (setVl { s.vl with repeats := s.vl.repeats + 1 } s).emit (.slac (.attenChar s.vl.runId (s.get Fd.VPL_ATTEN_ATTEN)))
      else slacFail 5 s
    else s)

/-- CM_VALIDATE_REQ (R317). -/
def execCmValidateReq (s : State) : Ans := awake .vehicleLink s <|
  .next (if slacSt s = 5 then (setVl { s.vl with toggleOpen := true, toggles := 0 } s).emit (.slac (.validateCnf 600)) else s)

/-- TOGGLE_WINDOW_END (R317): the count the vehicle reports. -/
def execToggleWindowEnd (count : Nat) (s : State) : Ans := awake .vehicleLink s <| .next (toggleEnd count s)

/-- CM_SLAC_MATCH_REQ (R318). -/
def execCmSlacMatchReq (runId mac : Nat) (s : State) : Ans := awake .vehicleLink s <|
  .next (if slacSt s = 6 ∧ runId = s.vl.runId then slacMatch runId mac s else s)

/-- MATCH_WAIT_TIMEOUT (R315). -/
def execMatchWaitTimeout (s : State) : Ans := awake .vehicleLink s <| .next (if slacSt s = 6 then slacFail 6 s else s)

/-- The oldest coordination message of a type that waits in Q04 (R319), with the state after taking it out. -/
def coordTake (type : Nat) (s : State) : List Byte × State :=
  match groupTake 1 (fun m => Bits.ofLeBytes ((m.drop 1).take 1) == type) s with
  | (some m, t) => (groupPayload m, t)
  | (none, t) => ([], t)

/-- COORD_REPORT_RECEIVE (R319, R320). -/
def execCoordReportReceive (s : State) : Ans := awake .vehicleLink s <| .next (coordReport (coordTake 1 s).1 (coordTake 1 s).2)

/-- COORD_WINDOW_END (R320, R322). -/
def execCoordWindowEnd (s : State) : Ans := awake .vehicleLink s <| .next (coordEnd s)

/-- COORD_WITHDRAW_RECEIVE (R321). -/
def execCoordWithdrawReceive (since : Nat) (s : State) : Ans := awake .vehicleLink s <| .next (coordWithdraw (coordTake 2 s).1 since (coordTake 2 s).2)

/-- T1S_FRAME_RECEIVE (R324, R325): a frame with a correct FCS. -/
def execT1sFrameReceive (prio : Nat) (bytes : List Byte) (s : State) : Ans := awake .vehicleLink s <|
  .next (if s.parN Par.VL_MODE = 0 then s
    else
      let t := vehicleReceive 18 ⟨Reg.VPL_RXDROP, 16, 16⟩ prio bytes s
      t1sTake (if s.on Fd.VPL_STAT_T1SUP then t else (t.raise Fd.VPL_STAT_T1SUP).raise Fd.VPL_EVT_T1SUP))

/-- T1S_LINK_TIMEOUT (R324). -/
def execT1sLinkTimeout (s : State) : Ans := awake .vehicleLink s <|
  .next (if s.on Fd.VPL_STAT_T1SUP then
      let t := (s.lower Fd.VPL_STAT_T1SUP).raise Fd.VPL_EVT_T1SDOWN
      if s.get Fd.VPL_STAT_LINK = 2 then toSession .linkFail t else t
    else s)

/-- PILOT_WORD_TIMEOUT (R644): without words on X20 the pilot is taken as not C or D. -/
def execPilotWordTimeout (s : State) : Ans := awake .signalBox s <| .next { s with saf := { s.saf with pilot := 6 } }

end Sys2Proof.Machine
end

