-- ==== Sys2Proof/Machine/Session.lean ====
section
/-!
DEFINITION. The charging session (spec/10_charging_session.md R330 to R333, R338 to R343, R349 to R351, R361): its states, authorisation, the site
Token, and stopping.
-/
namespace Sys2Proof.Machine

/-- The session replaced. -/
def setSes (x : SesState) (s : State) : State := { s with ses := x }

/-- The session's state (R330). -/
def sesSt (s : State) : Nat := s.get Fd.SES_STAT_STATE

/-- A session state entered. -/
def sesEnter (n : Nat) (s : State) : State := s.put Fd.SES_STAT_STATE n

/-- Whether the post has a DC role in use (R364). -/
def dcPost (s : State) : Bool := [4, 5, 9, 10].any (Rules.used s.variant s.par)

/-- Whether the session charges in the basic way (R345). -/
def sesBasic (s : State) : Bool := s.get Fd.SES_STAT_PROTO == 0

/-- A word of the session to the pilot generator on X06 (R303): mode 0 and a duty in 0.01 %. -/
def dutySend (d : Nat) (s : State) : State :=
  if s.ses.duty = d then s else setSes { s.ses with duty := d } { s with x06 := s.x06 ++ [(0, d)] }

/-- TOK1 brought up to date. -/
def tok1Show (s : State) : State := s.putB Fd.SES_STAT_TOK1 (tokHolds s 1 0)

/-- A Token or request of the session given up. -/
def tokGive (kind id : Nat) (s : State) : State :=
  let t := tokRelease kind id s
  if tokWaits t kind id then tokServe (tokDrop kind id t) else t

/-- The site grant in 0.1 kW (R349, R351): SITE_FLOOR while no lease is valid. -/
def siteGrant (s : State) : Nat := if s.on Fd.SES_STAT_SITEGR then (s.regI Reg.SES_GRANT).natAbs else s.parN Par.SITE_FLOOR

/-- The site grant at SITE_FLOOR, with no lease. -/
def siteNone (s : State) : State :=
  ((s.lower Fd.SES_STAT_SITEGR).setRegN Reg.SES_GRANT (s.parN Par.SITE_FLOOR)).setRegN Reg.SES_LEASE 0

/-- A REQ (R349, R350, R453): the lower of EVSE_PMAX and the vehicle's highest power, negative for discharge. -/
def siteReq (new : Bool) (s : State) : State :=
  let p := match s.ses.pmax with
    | some v => min (s.parN Par.EVSE_PMAX) v
    | none => s.parN Par.EVSE_PMAX
  let signed : Int := if s.ses.ask < 0 then -(p : Int) else p
  let cls := if s.get Fd.AMB_STAT_ROLE = 1 then s.get Fd.AMB_STAT_CLASS else s.parN Par.AMB_POSTCLS
  let flags := (if new then 1 else 0) + 2 * s.parN Par.AMB_POSTPH
  siteSend ⟨0x10, Bits.leBytes 2 (ownGrp s) ++ Bits.leBytes 2 s.ses.rnum ++ Bits.leBytes 4 (Bits.ofInt 32 signed) ++ Bits.leBytes 2 s.ses.gnum
    ++ Bits.leBytes 1 flags ++ Bits.leBytes 1 cls⟩ s

/-- The site ramp Token asked for (R349). -/
def siteAsk (s : State) : State := if s.parB Par.SITE_EN then siteReq true (siteNone s) else s

/-- The site ramp Token released (R351). -/
def siteRelease (s : State) : State :=
  if s.parB Par.SITE_EN then siteSend ⟨0x12, Bits.leBytes 2 (ownGrp s) ++ Bits.leBytes 2 s.ses.rnum⟩ (siteNone s) else s

/-- A close request of the session under its Token of kind 0 (R46, R347): sent once the Token is granted. -/
def sesCloseTry (s : State) : State :=
  if !s.ses.wantClose then s
  else
    let send := fun (t : State) => setSes { t.ses with wantClose := false } { t with x04 := t.x04 ++ [.close (contactorMask t) true] }
    if tokHolds s 0 1 then send s
    else if tokWaits s 0 1 then s
    else match tokRequest 0 1 0 s with
      | (.granted, t) => send t
      | (_, t) => t

/-- The session asks for its contactors to close. -/
def sesClose (s : State) : State := sesCloseTry (setSes { s.ses with wantClose := true } s)

/-- Whether the close of basic charging is due: authorised, with the vehicle at pilot state C or D (R330). -/
def sesBasicClose (s : State) : State :=
  if sesBasic s && !dcPost s && (sesSt s == 4 || sesSt s == 8) && (s.ses.lastPilot == 2 || s.ses.lastPilot == 3)
      && !s.ses.wantClose && !s.x04.any (· == .close (contactorMask s) true) && s.saf.close.isNone && !contactorOn s then
    sesClose (if sesSt s = 8 then siteAsk s else s)
  else s

/-- Every contactor feedback shows open. -/
def sesOpen (s : State) : Bool := !contactorOn s && fbOpen s (contactorMask s)

/-- The frames the session leaves in the vehicle's transmit queues, discarded and counted (R327). -/
def sesDiscard (s : State) : State :=
  let n := ((if s.get Fd.VPL_STAT_LINK = 2 then [16, 17] else [20, 21]).map (fun q => (queue s q).length)).sum
  let t := setQueue 17 [] (setQueue 16 [] (setQueue 21 [] (setQueue 20 [] s)))
  t.bump ⟨Reg.VPL_GPCNT, 0, 16⟩ n

/-- The current setpoint shown (R346). -/
def isetShow (s : State) : State :=
  let n := Exact.toInt (s.ses.iset * 10)
  let back := decide (s.ses.ask < 0)
  (s.setRegI Reg.SES_ISET (if back then -n else n)).putB Fd.SES_STAT_DISCH (back && decide (0 < s.ses.iset))

/-- A SETPT that sets a used node to a mode with nothing to deliver (R354). -/
def convMode (mode n : Nat) (s : State) : State :=
  let c := nth s.ses.conv n .zero
  let alive := (c.txAlive + 1) % 256
  let port := if (s.parN Par.CONV_PORT).testBit n then 1 else 0
  let t := setSes { s.ses with conv := setNth s.ses.conv n { c with txAlive := alive } } s
  t.emit (.can port (2 * 64 + n) (Bits.leBytes 1 mode ++ Bits.leBytes 1 alive ++ List.replicate 14 0))

/-- Every used node set to a mode (R361). -/
def convModes (mode : Nat) (s : State) : State :=
  upTo 32 (fun n t => if (t.parN Par.CONV_USE).testBit n then convMode mode n t else t) s

/-- The session enters state 10 (R331, R361 steps 4 and 5); state 0 follows at once when pilot state A stands. -/
def sesFinish (s : State) : State :=
  let t := when s.ses.dc (fun u => convModes 1 (convModes 5 u)) s
  let t := siteRelease (tok1Show (tokGive 1 0 (tokGive 0 1 t)))
  let id := t.regN (Reg.SES_ID 1) * 2 ^ 32 + t.regN (Reg.SES_ID 0)
  let src := if t.on Fd.SES_STAT_AUTHOK then t.get Fd.SES_STAT_AUTHSRC else 0
  let t := billSessionEnd id (t.regN Reg.BTM_TIME) t.ses.reason src t.ses.authRef t
  let t := (t.put Fd.SES_END_REASON t.ses.reason).put Fd.SES_END_REFUSE t.ses.refuse
  let t := sesDiscard ((t.lower Fd.SES_STAT_AUTHOK).raise Fd.SES_EVT_END)
  let t := isetShow (setSes { t.ses with iset := 0, ask := 0, steps := 0, wait := none, pnc := none, wantClose := false } t)
  let t := when (t.get Fd.BIL_DISC_STATE == 0 && t.btm.relayOn) relayOpen t
  sesEnter (if t.ses.lastPilot = 0 then 0 else 10) t

/-- State 9 ends once the open request is out and every feedback shows open (R361 step 4). -/
def sesEndCheck (s : State) : State :=
  if sesSt s = 9 ∧ s.ses.openSent ∧ sesOpen s ∧ s.saf.close.isNone then sesFinish s else s

/-- The open request sent (R361 step 3). -/
def sesOpenSend (s : State) : State :=
  if s.ses.openSent then s
  else sesEndCheck (setSes { s.ses with openSent := true } { s with x04 := s.x04 ++ [.openAll] })

/-- Whether the DC current lies below 1 % of IMAX[4] (R361 step 3). -/
def sesLow (s : State) : Bool := decide (100 * (s.regI (Reg.MTR_IDC 0)).natAbs < s.parN (Par.IMAX 4))

/-- What every stop does at its decision: no close request remains, and no decision of the host is awaited. -/
def sesStopBegin (reason : Nat) (s : State) : State :=
  let t := tokGive 0 1 { s with x04 := s.x04.filter (fun w => match w with | .close _ _ => false | .openAll => true) }
  let t := setSes { t.ses with reason := reason, wantClose := false, openSent := false, wait := none } (sesEnter 9 t)
  dutySend 0 (t.lower Fd.SES_AUTHREQ_PEND)

/-- A stop that the session decides (R361): the open request goes out at once when no current flows on a DC post or nothing is closed. -/
def sesStop (reason : Nat) (s : State) : State :=
  if 1 ≤ sesSt s ∧ sesSt s ≤ 8 then
    let t := sesStopBegin reason s
    if sesOpen t || (t.ses.dc && sesLow t) then sesOpenSend t else t
  else s

/-- A stop whose contactors the Signal Box has opened (R361): I_SET and the nodes at 0, and the table joined at step 4. -/
def sesTripped (reason : Nat) (s : State) : State :=
  if 1 ≤ sesSt s ∧ sesSt s ≤ 8 then
    let t := sesStopBegin reason s
    let t := isetShow (setSes { t.ses with iset := 0, steps := 0, openSent := true, tripped := true } t)
    sesEndCheck (when t.ses.dc (convModes 0) (tok1Show (tokGive 1 0 t)))
  else s

/-- A disconnect request stops a session that energy could flow in (R235, R362). -/
def sesDisconnect (s : State) : State := if s.get Fd.BIL_DISC_STATE = 0 ∧ 4 ≤ sesSt s then sesStop 6 s else s

/-- The place of an AUTH_SRC in the precedence of R339. -/
def authRank (src : Nat) : Nat := ([9, 4, 1, 2, 3, 0] : List Nat).getD src 9

/-- State 4 with an accepted authorisation (R339, R349). -/
def authGo (src : Nat) (id card : List Byte) (s : State) : State :=
  let t := ((s.raise Fd.SES_STAT_AUTHOK).put Fd.SES_STAT_AUTHSRC src).lower Fd.SES_AUTHREQ_PEND
  let t := setSes { t.ses with wait := none, justNow := true, authRef := id, card := card } (sesEnter 4 t)
  sesBasicClose (if dcPost t then t else siteAsk t)

/-- An acceptance that waits for the relay goes on once the relay has closed (R343). -/
def authResume (s : State) : State :=
  match s.ses.wait with
  | some (src, id, card) =>
    if sesSt s = 3 ∧ s.get Fd.BIL_DISC_STATE = 1 ∧ s.btm.relayOn ∧ !s.btm.relayWait ∧ !s.btm.relayPend then authGo src id card s else s
  | none => s

/-- An authorisation that has passed its source's check (R339, R343); none is accepted while the billing register set is lost (R647). -/
def authTry (src : Nat) (id card : List Byte) (s : State) : State :=
  let better := s.ses.justNow && sesSt s == 4 && decide (authRank src < authRank (s.get Fd.SES_STAT_AUTHSRC))
  if !(s.parN Par.AUTH_EN).testBit src then s
  else if better then
    setSes { s.ses with authRef := id, card := card } (s.put Fd.SES_STAT_AUTHSRC src)
  else if sesSt s ≠ 3 ∨ s.ses.wait.isSome then s
  else if s.get Fd.BIL_DISC_STATE = 0 then sesStop 6 s
  else if s.on Fd.BIL_STAT_WBFULL || s.on Fd.SYS_FLT_BILLOST then s
  else if (src = 1 ∨ src = 2 ∨ src = 5) ∧ s.get Fd.BIL_DISC_STATE = 2 then
    authResume (discLocal 0 (setSes { s.ses with wait := some (src, id, card) } (s.lower Fd.SES_AUTHREQ_PEND)))
  else authGo src id card s

/-- A decision asked of the host with a new TAG (R341). -/
def authAsk (src : Nat) (id : List Byte) (s : State) : State :=
  let tag := (s.ses.tag + 1) % 256
  let t := setSes { s.ses with tag := tag, reqId := id } s
  let t := ((t.raise Fd.SES_AUTHREQ_PEND).put Fd.SES_AUTHREQ_SRC src).put Fd.SES_AUTHREQ_TAG tag
  notify 0x81 (Bits.leBytes 1 tag ++ Bits.leBytes 1 src ++ Bits.leBytes 1 id.length ++ [0] ++ id) (t.raise Fd.SES_EVT_AUTHREQ)

/-- A card offered in state 3 (R338, R341, R342): in the local list, to the host, or rejected. -/
def cardOffer (uid : List Byte) (listed : Bool) (s : State) : State :=
  if listed && (s.parN Par.AUTH_EN).testBit 2 then authTry 2 uid uid s
  else if (s.parN Par.AUTH_EN).testBit 3 && !s.on Fd.SES_STAT_HOSTABS && s.ses.wait.isNone then authAsk 3 uid s
  else s

/-- A card presented (R340, R342). -/
def cardPresent (uid : List Byte) (listed : Bool) (s : State) : State :=
  let st := sesSt s
  if st = 0 then setSes { s.ses with held := some (uid, listed) } s
  else if st = 3 then cardOffer uid listed s
  else if 4 ≤ st ∧ st ≤ 8 ∧ uid = s.ses.card ∧ uid ≠ [] then sesStop 3 s
  else s

/-- State 3 entered (R330, R338, R340): a held card first, then free charging. -/
def sesAuthorise (s : State) : State :=
  let t := sesEnter 3 s
  let t := match t.ses.held with
    | some (uid, listed) => cardOffer uid listed (setSes { t.ses with held := none } t)
    | none => t
  authTry 1 [] [] t

/-- A session starts (R330 to R332). -/
def sesBegin (s : State) : State :=
  let sec := s.regN Reg.BTM_TIME
  let n := (s.ses.counter + 1) % 2 ^ 32
  let x := { SesState.start n ((s.ses.rnum + 1) % 65536) with
    lastPilot := s.ses.lastPilot, held := s.ses.held, tag := s.ses.tag, remote := s.ses.remote, duty := s.ses.duty, gnum := s.ses.gnum,
    conv := s.ses.conv, dc := dcPost s }
  let t := setSes x s
  let t := ((t.setRegN (Reg.SES_ID 1) sec).setRegN (Reg.SES_ID 0) n).raise Fd.SES_EVT_START
  let t := ((t.put Fd.SES_STAT_PROTO 0).put Fd.SES_STAT_AUTHSRC 0).lower Fd.SES_STAT_AUTHOK
  let t := billSessionStart (sec * 2 ^ 32 + n) sec (sesEnter 1 t)
  if t.parN Par.PROTO_EN = 0 then sesAuthorise t else dutySend 500 t

/-- A pilot state reported (R330). -/
def sesPilot (st : Nat) (s : State) : State :=
  let was := s.ses.lastPilot
  let t := setSes { s.ses with lastPilot := st } s
  let n := sesSt t
  if st = 0 then (if n = 10 then sesEnter 0 t else sesStop 1 t)
  else if st = 1 then
    if n = 0 ∧ was = 0 then sesBegin t
    else if n = 7 ∧ sesBasic t then
      let u := tok1Show (tokGive 1 0 (sesEnter 8 t))
      setSes { u.ses with openSent := false } { u with x04 := u.x04 ++ [.openAll] }
    else t
  else sesBasicClose t

/-- A proximity code reported (R344). -/
def sesProx (c : Nat) (s : State) : State :=
  if c = 0 then sesStop 1 s else if c = 6 ∨ c = 7 then sesStop 14 s else s

/-- A report over X05. -/
def sesReport (r : VlReport) (s : State) : State :=
  match r with
  | .pilot st => sesPilot st s
  | .prox c => sesProx c s
  | .link _ => if sesSt s = 1 then sesEnter 2 s else s
  | .linkFail => if sesSt s = 1 ∨ (2 ≤ sesSt s ∧ sesSt s ≤ 8 ∧ !(sesBasic s && sesSt s != 2)) then sesStop 11 s else s

/-- An answer of the host through SES_AUTHCTL (R341). -/
def authAnswer (accept reject revoke : Bool) (tag : Nat) (s : State) : State :=
  let t := if revoke && decide (4 ≤ sesSt s) then sesStop 4 s else s
  if !accept && !reject then t
  else if !t.on Fd.SES_AUTHREQ_PEND || t.get Fd.SES_AUTHREQ_TAG != tag then t.raise Fd.SES_EVT_STALE
  else
    let src := t.get Fd.SES_AUTHREQ_SRC
    let u := t.lower Fd.SES_AUTHREQ_PEND
    if reject then sesStop 5 u
    else if src = 5 then u
    else authTry src u.ses.reqId (if src = 3 then u.ses.reqId else []) u

/-- A write of SES_AUTHCTL. -/
def authCtl (w : Word) (s : State) : State :=
  authAnswer (Bits.bit w 8) (Bits.bit w 9) (Bits.bit w 10) (Bits.get w 0 8) s

/-- A host remote start (R338, R341, R636). -/
def remoteStart (s : State) : State :=
  match s.ses.remote with
  | some (id, at_) => if s.regN Reg.SYS_UPTIME ≤ at_ + 10 ∧ sesSt s = 3 ∧ (s.parN Par.AUTH_EN).testBit 4 ∧ s.ses.wait.isNone then authAsk 4 id s else s
  | none => s

/-- A write of SES_CTL (R341, R636). -/
def sesCtl (w : Word) (s : State) : State :=
  when (Bits.bit w 1) remoteStart (when (Bits.bit w 0) (sesStop 4) s)

/-- AUTH_WAIT_T has passed (R341, R343): sources 3 and 4 are rejected; a decision on source 5 is no longer awaited. -/
def authTimeout (s : State) : State :=
  if sesSt s = 3 ∧ s.ses.wait.isNone then sesStop 5 (s.lower Fd.SES_AUTHREQ_PEND)
  else if s.get Fd.SES_AUTHREQ_SRC = 5 then s.lower Fd.SES_AUTHREQ_PEND else s

/-- A GRANT (R350, R453): obeyed in states 4 to 8; it starts a lease of 10 s. -/
def grantTake (m : AmbMsg) (s : State) : State :=
  let st := sesSt s
  if msgNum m 0 2 = ownGrp s ∧ s.parB Par.SITE_EN ∧ (5 ≤ st ∧ st ≤ 8 ∨ (st = 4 ∧ !dcPost s)) then
    let t := setSes { s.ses with gnum := msgNum m 2 2 } s
    ((t.raise Fd.SES_STAT_SITEGR).setRegI Reg.SES_GRANT (Bits.signed 32 (msgNum m 4 4))).setRegN Reg.SES_LEASE 10000
  else s

/-- SESSION_PILOT_EVENT (R330, R344): the oldest report on X05. -/
def execSessionPilotEvent (s : State) : Ans :=
  .next (match s.x05 with
    | [] => s
    | r :: rs => sesReport r { s with x05 := rs })

/-- HELD_CARD_EXPIRY (R340). -/
def execHeldCardExpiry (s : State) : Ans := .next (setSes { s.ses with held := none } s)

/-- HOST_AUTH_ACCEPT (R341). -/
def execHostAuthAccept (p : Path) (tag : Nat) (s : State) : Ans := .next (hostOwn p 1 (authAnswer true false false tag) s)

/-- HOST_AUTH_REJECT (R341). -/
def execHostAuthReject (p : Path) (tag : Nat) (s : State) : Ans := .next (hostOwn p 1 (authAnswer false true false tag) s)

/-- HOST_AUTH_REVOKE (R341). -/
def execHostAuthRevoke (p : Path) (s : State) : Ans := .next (hostOwn p 1 (authAnswer false false true 0) s)

/-- AUTH_WAIT_TIMEOUT (R341, R343). -/
def execAuthWaitTimeout (s : State) : Ans := .next (authTimeout s)

/-- PNC_CHAIN_CHECK_DONE (R338, R339): whether the chain and the vehicle's signature pass. -/
def execPncChainCheckDone (pass : Bool) (s : State) : Ans :=
  .next (match s.ses.pnc with
    | none => s
    | some emaid =>
      let t := setSes { s.ses with pncDone := some pass, pnc := none } s
      if pass then
        let u := authTry 5 emaid [] t
        if s.on Fd.SES_AUTHREQ_PEND ∧ s.get Fd.SES_AUTHREQ_SRC = 5 ∧ 3 ≤ sesSt u ∧ sesSt u ≤ 8 then u.raise Fd.SES_AUTHREQ_PEND else u
      else t)

/-- HOST_REMOTE_START (R338, R636). -/
def execHostRemoteStart (p : Path) (s : State) : Ans := .next (hostOwn p 1 remoteStart s)

/-- HOST_SESSION_STOP (R363): a write of 1 to SES_CTL.STOP. -/
def execHostSessionStop (p : Path) (s : State) : Ans := .next (hostOwn p 1 (sesStop 4) s)

/-- SITE_GRANT_ARRIVAL (R350): the oldest GRANT that waits. -/
def execSiteGrantArrival (s : State) : Ans :=
  .next (match siteMessage 0x11 s with
    | (some m, t) => grantTake m.msg t
    | (none, _) => s)

/-- SITE_LEASE_RENEW (R350). -/
def execSiteLeaseRenew (s : State) : Ans :=
  .next (if s.parB Par.SITE_EN && decide (5 ≤ sesSt s) && decide (sesSt s ≤ 8) then siteReq false s else s)

/-- SITE_LEASE_EXPIRY (R351). -/
def execSiteLeaseExpiry (s : State) : Ans :=
  .next (if s.on Fd.SES_STAT_SITEGR then (siteNone s).raise Fd.SES_EVT_LEASE else s)

/-- PAUSE_TOKEN_RELEASE (R351): 10 s in state 8. -/
def execPauseTokenRelease (s : State) : Ans := .next (if sesSt s = 8 then siteRelease s else s)

/-- STOP_TIMEOUT (R361): STOP_T after the decision. -/
def execStopTimeout (s : State) : Ans := .next (if sesSt s = 9 then sesOpenSend s else s)

end Sys2Proof.Machine
end

