-- ==== Sys2Proof/Machine/Lantern.lean ====
section
/-!
DEFINITION. The Lantern (spec/17_lantern_display.md R521 to R531).
-/
namespace Sys2Proof.Machine

/-- The Lantern's own state replaced. -/
def setLcd (l : LcdState) (s : State) : State := { s with lcd := l }

/-- Segments a to g, bits 0 to 6, of a hexadecimal digit. -/
def segDigit (d : Nat) : Nat :=
  ([0x3F, 0x06, 0x5B, 0x4F, 0x66, 0x6D, 0x7D, 0x07, 0x7F, 0x6F, 0x77, 0x7C, 0x39, 0x5E, 0x79, 0x71] : List Nat).getD d 0

/-- A dash: segment g. -/
def segDash : Nat := 0x40

/-- The logical segments 0 to 63 of eight digit patterns, the leftmost first. -/
def segDigits (ps : List Nat) : List Nat :=
  ps.zipIdx.flatMap (fun e => ((List.range 8).filter (fun b => e.1.testBit b)).map (fun b => 8 * e.2 + b))

/-- The decimals shown of a register in mWh (R523): one dropped at a time while the integer part does not fit. -/
def lcdDecimals (v : Nat) : Nat → Nat
  | 0 => 0
  | d + 1 => if v / 1000000 < 10 ^ (7 - d) then d + 1 else lcdDecimals v d

/-- The digit patterns of a register in mWh (R523): truncated, leading zeros blank. -/
def lcdNumber (v dec : Nat) : List Nat :=
  let d := lcdDecimals v dec
  let x := v / 10 ^ (6 - d) % 100000000
  (List.range 8).map (fun i =>
    let place := 7 - i
    let seg := if x / 10 ^ place = 0 ∧ d < place then 0 else segDigit (x / 10 ^ place % 10)
    if 0 < d ∧ place = d then seg + 128 else seg)

/-- The digit patterns of a check value (R524). -/
def lcdHex (v : Nat) : List Nat := (List.range 8).map (fun i => segDigit (v / 16 ^ (7 - i) % 16))

/-- Whether a page's entry is used. -/
def pageUsed (s : State) (i : Nat) : Bool := s.parN (Par.LCD_PAGES i) != 0

/-- The used page that follows a page (R523). -/
def nextPage (s : State) (i : Nat) : Nat :=
  (((List.range 16).map (fun k => (i + 1 + k) % 16)).find? (pageUsed s)).getD i

/-- The power whose sign the arrows show, and whether its creep gate is open (R523): MTR_PCONN[0] on a DC post, else MTR_P[3]. -/
def lcdArrow (s : State) : Int × Bool :=
  if dcPost s then (s.regI (Reg.MTR_PCONN 0), s.bitOf Reg.MTR_STAT 19)
  else (s.regI (Reg.MTR_P 3), s.get Fd.MTR_STAT_PGATE % 8 != 0)

/-- The marks 64 to 72 of normal display. -/
def lcdMarks (s : State) : List Nat :=
  let a := lcdArrow s
  let cr := s.get Fd.BIL_STAT_CRSTATE
  [64] ++ (if a.2 && decide (0 < a.1) then [65] else []) ++ (if a.2 && decide (a.1 < 0) then [66] else [])
    ++ (if cr = 2 ∨ cr = 3 then [69] else []) ++ (if s.on Fd.BTM_STAT_VALID then [] else [70])
    ++ (if safSt s = 0 then [] else [71]) ++ (if s.on Fd.SYS_FLT_BILLOST then [72] else [])

/-- Whether the check value is shown (R524): while cause CONFIG is active, and the module is configured (R544). -/
def lcdCheck (s : State) : Bool := causeOn s 17 && s.get Fd.SYS_BOOT_STATE != 2

/-- The logical segments that are on (R523 to R525, R544). -/
def lcdLogical (s : State) : List Nat :=
  if s.get Fd.SYS_BOOT_STATE = 2 then segDigits (List.replicate 8 segDash) ++ [72]
  else match s.lcd.confirmed with
    | some v => segDigits (lcdHex v) ++ [67, 68]
    | none =>
      if lcdCheck s then segDigits (lcdHex s.lcd.crc) ++ [67]
      else if s.on Fd.LCD_STAT_STALE then segDigits (List.replicate 8 segDash) ++ [72]
      else
        let item := s.parN (Par.LCD_PAGES (s.get Fd.LCD_STAT_PAGE))
        segDigits (lcdNumber (energyOf s ((item - 0x1000) / 32) ((item - 0x1000) % 32)) (s.parN Par.LCD_DEC)) ++ lcdMarks s

/-- The physical segments that are on (R521, R531). -/
def lcdPhysical (s : State) : List Nat := (lcdLogical s).map (fun i => s.parN (Par.SEGMAP i)) |>.filter (fun p => decide (p < 160))

/-- The glass shows the image that the state demands; all off while the drivers are not enabled (R527, R528). -/
def lcdShow (s : State) : State :=
  let on := if s.on Fd.LCD_STAT_DRVON then lcdPhysical s else []
  let t := upTo 5 (fun w t => t.setRegN (Reg.LCD_IMG w) (((List.range 32).filter (fun j => on.contains (32 * w + j))).map (2 ^ ·)).sum) s
  t.putB Fd.LCD_STAT_CHECK (s.on Fd.LCD_STAT_DRVON && (lcdCheck s || s.lcd.confirmed.isSome))

/-- A colour's duty (R529). -/
def lcdDuty (s : State) (c x : Nat) : Nat :=
  let g := fun (k : Nat) => s.parN (Par.GAMMA c k)
  let k := x / 17
  if 15 ≤ k then g 15 else g k + (x - 17 * k) * (g (k + 1) - g k) / 17

/-- The backlight follows LCD_BL, or LCD_BLDEF while the host is absent (R529); off while BLON is 0. -/
def lcdLight (s : State) : State :=
  let v := if s.on Fd.HIF_STAT_HOSTABS then s.parN Par.LCD_BLDEF else s.regN Reg.LCD_BL
  let d := fun (c x : Nat) => if s.on Fd.LCD_STAT_BLON then lcdDuty s c x else 0
  setLcd { s.lcd with duty := [d 0 (v / 65536 % 256), d 1 (v / 256 % 256), d 2 (v % 256)] } s

/-- The logical segments that a failure bit drives (R526): a segment line in a phase, or a whole common. -/
def failDrives (s : State) (n : Nat) : Bool :=
  (List.range 65).any (fun i =>
    let p := s.parN (Par.SEGMAP i)
    decide (p < 160) && (if n < 160 then p == n else p / 40 == n - 160))

/-- Whether an output that drives a used legal segment has failed (R526). -/
def legalFails (s : State) : Bool := (List.range 164).any (fun n => s.bitOf (Reg.LCD_FAIL (n / 32)) (n % 32) && failDrives s n)

/-- The Lantern powers up (R527), when VLCD comes in range; PFW_N keeps it down (R528). -/
def lcdUp (vlcd : Bool) (s : State) : State :=
  if s.held .service ∨ s.pfw ∨ s.on Fd.LCD_STAT_BLON then s
  else if !vlcd then s.raise Fd.LCD_EVT_RAILFAIL
  else
    let first := if pageUsed s 0 then 0 else nextPage s 0
    let t := ((s.raise Fd.LCD_STAT_VLCDOK).raise Fd.LCD_STAT_BIASOK).raise Fd.LCD_STAT_DRVON
    let t := ((t.putB Fd.LCD_STAT_LEGALOK (!legalFails t)).raise Fd.LCD_STAT_BLON).put Fd.LCD_STAT_PAGE first
    lcdLight (lcdShow (setLcd { t.lcd with shown := true } t))

/-- The Lantern powers down (R528). -/
def lcdDown (s : State) : State :=
  let t := ((((s.lower Fd.LCD_STAT_BLON).lower Fd.LCD_STAT_DRVON).lower Fd.LCD_STAT_BIASOK).lower Fd.LCD_STAT_VLCDOK)
  lcdLight (lcdShow (setLcd { t.lcd with shown := false } t))

/-- A display image from X14 (R523, R525). -/
def lcdImage (s : State) : State := lcdLight (lcdShow (s.lower Fd.LCD_STAT_STALE))

/-- A confirmation (R524): the confirmed value is shown. -/
def lcdConfirmed (s : State) : State := lcdShow (setLcd { s.lcd with confirmed := some (s.regN Reg.SAF_CRC) } s)

/-- The page moves on (R523). -/
def lcdNext (s : State) : State := lcdShow (s.put Fd.LCD_STAT_PAGE (nextPage s (s.get Fd.LCD_STAT_PAGE)))

/-- One output's frames counted (R526). -/
def failRun (s : State) (miss : Bool) (n : Nat) : Nat × Nat :=
  let r := (s.lcd.runs.find? (fun e => e.1 == n)).map (·.2) |>.getD (0, 0)
  if miss then (min 3 (r.1 + 1), 0) else (0, min 100 (r.2 + 1))

/-- One frame's read-back (R526): the failure bits of the outputs that missed the window. -/
def lcdReadback (misses : List Nat) (s : State) : State :=
  let near := (List.range 164).filter (fun n => misses.contains n || s.lcd.runs.any (fun e => e.1 == n))
  let step := fun (t : State) (n : Nat) =>
    let r := failRun s (misses.contains n) n
    let reg := Reg.LCD_FAIL (n / 32)
    let bit := t.bitOf reg (n % 32)
    if r.1 = 3 ∧ !bit then
      let u := (t.putBit reg (n % 32) true).raise Fd.LCD_EVT_READBACK
      if failDrives u n && u.lcd.shown then (u.lower Fd.LCD_STAT_LEGALOK).raise Fd.LCD_EVT_LEGAL else u
    else if r.2 = 100 ∧ bit then t.putBit reg (n % 32) false
    else t
  let runs := (near.map (fun n => (n, failRun s (misses.contains n) n))).filter (fun e => decide (e.2.2 < 100))
  let t := setLcd { s.lcd with runs := runs } (near.foldl step s)
  if t.lcd.shown && !legalFails t then t.raise Fd.LCD_STAT_LEGALOK else t

/-- SERVICE_WORD_RECEIVE (R502, R514, R523): a word with the load-switch commands, and a display image or none. -/
def execServiceWordReceive (image : Bool) (s : State) : Ans :=
  .next (if s.held .service then s
    else
      let t := limpUpdate (setLsw { s.lsw with silent := false } s)
      let t := if limp t then t else lsTake t
      if image then lcdImage t else t)

/-- DISPLAY_PAGE_ADVANCE (R523): LCD_PAGE_T has passed; a held page stays. -/
def execDisplayPageAdvance (s : State) : Ans := awake .service s <| .next (if s.regN Reg.SYS_UPTIME < s.lcd.holdEnd then s else lcdNext s)

/-- DISPLAY_STALE (R525). -/
def execDisplayStale (s : State) : Ans :=
  .next (if s.held .service then s else lcdShow ((s.raise Fd.LCD_STAT_STALE).raise Fd.LCD_EVT_STALE))

/-- DISPLAY_FRAME_READBACK (R526): the outputs that missed the window in a frame. -/
def execDisplayFrameReadback (misses : List Nat) (s : State) : Ans := awake .service s <|
  .next (if s.on Fd.LCD_STAT_DRVON then lcdReadback misses s else s)

/-- CONFIRMED_DISPLAY_END (R524). -/
def execConfirmedDisplayEnd (s : State) : Ans := .next (lcdShow (setLcd { s.lcd with confirmed := none } s))

/-- DISPLAY_HOLD (R531): the page shown is held for 60 s. -/
def execDisplayHold (p : Path) (s : State) : Ans :=
  .next (hostOwn p 1 (toIsland .service (fun t => setLcd { t.lcd with holdEnd := t.regN Reg.SYS_UPTIME + 60 } t)) s)

/-- DISPLAY_NEXT (R531). -/
def execDisplayNext (p : Path) (s : State) : Ans := .next (hostOwn p 1 (toIsland .service lcdNext) s)

/-- LANTERN_POWER_UP (R527): whether VLCD comes in range. -/
def execLanternPowerUp (vlcd : Bool) (s : State) : Ans := awake .service s <| .next (lcdUp vlcd s)

/-- VLCD_RAIL_RETRY (R527). -/
def execVlcdRailRetry (vlcd : Bool) (s : State) : Ans := awake .service s <| .next (lcdUp vlcd s)

/-- HOST_ABSENT (R342, R529). -/
def execHostAbsent (s : State) : Ans := .next (lcdLight ((s.raise Fd.HIF_STAT_HOSTABS).raise Fd.SES_STAT_HOSTABS))

end Sys2Proof.Machine
end

