-- ==== Sys2Proof/Machine/Nfc.lean ====
section
/-!
DEFINITION. The card reader and the service tag (spec/15_nfc_service_tag.md R479 to R497).
-/
namespace Sys2Proof.Machine

/-- Reader and tag replaced. -/
def setNfc (n : NfcState) (s : State) : State := { s with nfc := n }

/-- Whether VHARV delivers power from the field (R493). -/
def vharvOn (s : State) : Bool := s.parB Par.HARV_EN && s.nfc.field

/-- The state of the tag (R490). -/
def tagSt (s : State) : Nat := s.get Fd.NFC_TAGSTAT_STATE

/-- Whether a UID is random (R484). -/
def uidRandom (uid : List Byte) : Bool := uid.length == 4 && uid.head? == some 0x08

/-- The words of a UID as NFC_LASTUID and NFC_LISTUID hold them, byte 0 in bits [7:0] of the first. -/
def uidWord (uid : List Byte) (w : Nat) : Nat := Bits.ofLeBytes ((uid.drop (4 * w)).take 4)

/-- The UID of a length that NFC_LISTUID holds. -/
def listUid (s : State) (len : Nat) : List Byte := ((List.range 3).flatMap (fun w => Bits.leBytes 4 (s.regN (Reg.NFC_LISTUID w)))).take len

/-- NFC_LISTCNT brought up to date. -/
def listShow (s : State) : State := s.setRegN Reg.NFC_LISTCNT s.nfc.list.length

/-- The local list replaced. -/
def setList (l : List (List Byte)) (s : State) : State := listShow (setNfc { s.nfc with list := l } s)

/-- A presentation (R483, R484): reported, noted, and offered to the session unless its UID is random. -/
def cardSeen (uid : List Byte) (sak : Nat) (s : State) : State :=
  let rnd := uidRandom uid
  let listed := !rnd && s.nfc.list.contains uid
  let t := s.setRegN Reg.NFC_LAST (uid.length % 16 + 256 * (sak % 256) + (if listed then 65536 else 0) + (if rnd then 131072 else 0))
  let t := upTo 3 (fun w t => t.setRegN (Reg.NFC_LASTUID w) (uidWord uid w)) (t.raise Fd.NFC_EVT_CARD)
  let body := Bits.leBytes 1 uid.length ++ [if listed then 1 else 0, if rnd then 1 else 0] ++ Bits.leBytes 1 sak
    ++ (uid ++ List.replicate (10 - uid.length) 0).take 10
  let t := notify 0x82 body t
  if rnd then t else cardPresent uid listed t

/-- Whether the reader polls (R480, R481, R485). -/
def readerOn (s : State) : Bool :=
  s.parB Par.RDR_EN && !supplyAbsent s && !s.held .service && s.nfc.card.isNone && decide (tagSt s ≤ 1)

/-- A poll, or its being skipped for an external field (R480, R481, R483, R484). -/
def readerPoll (ext : Bool) (cards : List (List Byte × Nat)) (s : State) : State :=
  if ext then (if s.parB Par.TAG_EN then s.raise Fd.NFC_STAT_TAG else s.raise Fd.NFC_EVT_EXTFIELD)
  else
    let uids := cards.map (·.1)
    let t := setNfc { s.nfc with recent := (uids :: s.nfc.recent).take 3 } (s.lower Fd.NFC_STAT_TAG)
    match cards with
    | [] => t
    | [(uid, sak)] => if s.nfc.recent.any (fun l => l.contains uid) then t else cardSeen uid sak t
    | _ => t.raise Fd.NFC_EVT_MULTI

/-- Layer 4 ends (R485). -/
def cardEnd (s : State) : State := setNfc { s.nfc with card := none } (s.lower Fd.NFC_STAT_L4)

/-- An edit of the local list (R486): 1 add, 2 remove, 3 clear; only OP 1 to 3 do anything. -/
def listEdit (op len : Nat) (s : State) : State :=
  let uid := listUid s len
  if op = 1 then
    if s.nfc.list.contains uid || decide (4096 ≤ s.nfc.list.length) then s.raise Fd.NFC_EVT_LISTERR else setList (s.nfc.list ++ [uid]) s
  else if op = 2 then setList (s.nfc.list.filter (· != uid)) s
  else if op = 3 then setList [] s
  else s

/-- An event log entry's bytes (R231). -/
def logBytes (e : LogEntry) : List Byte :=
  Bits.leBytes 4 e.time ++ Bits.leBytes 4 e.commit ++ Bits.leBytes 2 e.code ++ Bits.leBytes 2 e.status ++ Bits.leBytes 4 e.data

/-- An entry put behind those that are not older. -/
def logInsert (e : LogEntry) : List LogEntry → List LogEntry
  | [] => [e]
  | d :: ds => if e.time ≤ d.time then d :: logInsert e ds else e :: d :: ds

/-- The newest entries of all logs, newest first (R487). -/
def newestLogs (s : State) (n : Nat) : List LogEntry := ((s.logs.flatMap (·.entries)).foldl (fun l e => logInsert e l) []).take n

/-- Bytes filled up with zeros. -/
def padTo (n : Nat) (l : List Byte) : List Byte := l.take n ++ List.replicate (n - l.length) 0

/-- The snapshot areas 0x0000 to 0x0AFF (R487). -/
def tagSnapshot (s : State) : List Byte :=
  let head := [1, 0, 0, 0] ++ meterId s ++ Bits.leBytes 4 (s.regN Reg.BTM_TIME) ++ Bits.leBytes 4 (s.regN Reg.BIL_COMMIT)
    ++ (List.range 4).flatMap (fun w => Bits.leBytes 4 (s.regN (Reg.UPD_FWID w)))
    ++ ([Reg.SAF_STAT, Reg.SAF_LATCH, Reg.BIL_DISC, Reg.PTS_STAT] : List Nat).flatMap (fun a => Bits.leBytes 4 (s.regN a))
  let energy := (List.range 11).flatMap (fun q => Bits.leBytes 8 (energyOf s q 0)) ++ Bits.leBytes 8 (Bits.ofInt 64 s.bil.credit)
  let waybill := match s.bil.sessWb with
    | w :: _ => wbBytes s w ++ w.sig
    | [] => []
  padTo 0x400 (padTo 64 head ++ energy) ++ padTo 1024 ((newestLogs s 64).flatMap logBytes) ++ padTo 512 waybill
    ++ padTo 256 (healthSummary s)

/-- A snapshot written, or held while a tag transaction is under way (R488). -/
def tagRefresh (s : State) : State :=
  if s.held .service || supplyAbsent s then s
  else if tagSt s = 4 then setNfc { s.nfc with snapDue := true } s
  else setNfc { s.nfc with snap := tagSnapshot s, snapDue := false } s

/-- Whether a copy of a notes page checks (R489). -/
def noteOk (c : NoteCopy) : Bool := c.crc == NoteCopy.sum c.data c.gen

/-- Whether generation a is later than b, in serial-number order (R489). -/
def genLater (a b : Nat) : Bool := decide (0 < (a + 256 - b) % 256) && decide ((a + 256 - b) % 256 < 128)

/-- Whether copy A of a page is in force (R489). -/
def noteFirst (p : NoteCopy × NoteCopy) : Bool := noteOk p.1 && (!noteOk p.2 || !genLater p.2.gen p.1.gen)

/-- The content of a page in force; one whose copies both fail reads zero (R594). -/
def noteRead (p : NoteCopy × NoteCopy) : List Byte :=
  if noteFirst p then p.1.data else if noteOk p.2 then p.2.data else List.replicate 32 0

/-- A page written (R489): the copy not in force takes the data with the next generation. -/
def noteWrite (p : NoteCopy × NoteCopy) (data : List Byte) : (NoteCopy × NoteCopy) × Nat :=
  let first := noteFirst p
  let gen := ((if first then p.1.gen else p.2.gen) + 1) % 256
  let c : NoteCopy := ⟨data, gen, NoteCopy.sum data gen⟩
  (if first then (p.1, c) else (c, p.2), gen)

/-- A page of the notes area. -/
def notePage (s : State) (n : Nat) : NoteCopy × NoteCopy := nth s.nfc.notes n NoteCopy.blank

/-- A notes page written, and the generation of its new copy. -/
def notePut (n : Nat) (data : List Byte) (s : State) : Nat × State :=
  let x := noteWrite (notePage s n) data
  (x.2, setNfc { s.nfc with notes := setNth s.nfc.notes n x.1 } s)

/-- The live area 0x0B00 to 0x0C23 (R487). -/
def tagLive (s : State) : List Byte :=
  let regs := [Reg.BTM_TIME, Reg.BTM_STAT] ++ (List.range 5).map Reg.BTM_OUT ++ [Reg.BTM_TAMPCNT]
  let buf := s.btm.tampBuf.flatMap (fun r => Bits.leBytes 4 r.sec ++ Bits.leBytes 2 r.code ++ [0, 0])
  regs.flatMap (fun a => Bits.leBytes 4 (s.regN a)) ++ Bits.leBytes 4 s.btm.tampBuf.length ++ padTo 256 buf

/-- The tag memory (R487). -/
def tagMemory (s : State) : List Byte :=
  padTo 0xB00 s.nfc.snap ++ padTo 0x1100 (tagLive s) ++ (s.nfc.notes.flatMap noteRead)

/-- NFC_TAGSTAT's fields that follow from the state: QUEUED, BUSY, ALM (R492, R495). -/
def tagShow (s : State) : State :=
  let st := tagSt s
  let alm := decide (2 ≤ st) && s.parB Par.TAG_ALM && !s.on Fd.BTM_STAT_BATLOW
  ((s.put Fd.NFC_TAGSTAT_QUEUED s.nfc.queued.length).putB Fd.NFC_TAGSTAT_BUSY (st == 4)).putB Fd.NFC_TAGSTAT_ALM alm

/-- A state of the tag entered. -/
def tagEnter (n : Nat) (s : State) : State := tagShow (s.put Fd.NFC_TAGSTAT_STATE n)

/-- Queued host writes applied in order (R495); those queued when PFW_N asserts wait for the restart (R496). -/
def tagQueue (s : State) : State :=
  if s.pfw || supplyAbsent s then s
  else tagShow (s.nfc.queued.foldl (fun t e => (notePut e.1 e.2 t).2) (setNfc { s.nfc with queued := [] } s))

/-- The end of a transaction (R488, R495). -/
def tagLeave (n : Nat) (s : State) : State :=
  if tagSt s = 4 then
    let t := (s.raise Fd.NFC_EVT_TAGTX).bump ⟨Reg.NFC_TAGCNT, 0, 16⟩
    let t := tagQueue (tagEnter n (setNfc { t.nfc with selected := false } t))
    if t.nfc.snapDue then tagRefresh t else t
  else tagEnter n s

/-- Whether the tag may run (R490, R491): VBAT of 2.7 V and TAG_OUT_EN in outage. -/
def tagRuns (s : State) : Bool :=
  s.parB Par.TAG_EN && !(supplyAbsent s && (!s.parB Par.TAG_OUT_EN || decide (s.get Fd.PWR_VBAT_OPEN < 2700)))
    && !(s.held .service && !supplyAbsent s)

/-- State 0 entered or left as the supply and the parameters say (R490). -/
def tagSupply (s : State) : State := if !tagRuns s then tagLeave 0 s else if tagSt s = 0 then tagEnter 1 s else s

/-- Seconds of field used on this billing-clock day in outage (R492). -/
def tagUsed (s : State) : Nat := if s.nfc.day = s.regN Reg.BTM_TIME / 86400 then s.nfc.used else 0

/-- Seconds of field counted against TAG_DAYMAX (R492). -/
def tagCount (secs : Nat) (s : State) : State :=
  if supplyAbsent s then setNfc { s.nfc with day := s.regN Reg.BTM_TIME / 86400, used := tagUsed s + secs } s else s

/-- A limit of R492 is passed: the field is ignored for 60 s. -/
def tagLimit (s : State) : State :=
  let t := tagLeave 1 s
  tagShow (setNfc { t.nfc with deaf := true } (t.bump ⟨Reg.NFC_TAGCNT, 16, 16⟩))

/-- A response of the tag. -/
def tagSay (bytes : List Byte) (s : State) : State := s.emit (.tag bytes)

/-- The UID of the tag (R490). -/
def tagUid (s : State) : List Byte := 0x45 :: (meterId s).take 6

/-- A WUPA or REQA with what follows it (R490, R491): ms is the time since the field came; in outage an answer within 20 ms is open. -/
def tagWake (wupa anticoll : Bool) (ms : Nat) (s : State) : State :=
  let (w, t) := s.fresh
  let s := if supplyAbsent s && decide (ms < 20) then t else s
  if supplyAbsent s && decide (ms < 20) && w.getLsbD 0 then s
  else if tagSt s = 2 then
    if anticoll then tagSay ([0x44, 0x00] ++ tagUid s ++ [0x20]) (tagEnter 3 s) else tagSay [0x44, 0x00] s
  else if tagSt s = 5 ∧ wupa then tagSay [0x44, 0x00] (tagEnter 2 s)
  else s

/-- The AID of the service (R494). -/
def tagAid : List Byte := [0xF0, 0x45, 0x56, 0x4B, 0x53, 0x54, 0x47]

/-- A command in state 4 (R494): before the AID has been selected it answers 0x6985. -/
def tagCommand (f : State → State) (s : State) : State :=
  if tagSt s = 4 then (if s.nfc.selected then f s else tagSay [0x69, 0x85] s) else s

/-- An answer that the spec gives no status for. -/
def tagFree (s : State) : State :=
  let (w, t) := s.fresh
  tagSay (Bits.leBytes 2 w.toNat) t

/-- READ (R494). -/
def tagRead (off le : Nat) (s : State) : State :=
  if le = 0 ∨ 224 < le then tagFree s
  else if 0x2000 < off + le then tagSay [0x6A, 0x82] s
  else tagSay (((tagMemory s).drop off).take le ++ [0x90, 0x00]) s

/-- WRITE (R489, R494). -/
def tagWrite (off : Nat) (data : List Byte) (s : State) : State :=
  if off < 0x1C00 ∨ 0x2000 ≤ off ∨ off % 32 ≠ 0 then tagSay [0x6A, 0x82] s
  else if data.length ≠ 32 then tagSay [0x67, 0x00] s
  else if !s.parB Par.TAG_WRITE_EN || (supplyAbsent s && s.on Fd.BTM_STAT_BATLOW) then tagSay [0x69, 0x82] s
  else
    let x := notePut ((off - 0x1C00) / 32) data s
    tagSay (Bits.leBytes 1 x.1 ++ [0x90, 0x00]) x.2

/-- STATUS (R494): secs of field in this transaction. -/
def tagStatus (le secs : Nat) (s : State) : State :=
  if le = 4 then
    let b0 := (if supplyAbsent s then 0 else 1) + (if s.on Fd.BTM_STAT_BATLOW then 2 else 0) + (if s.on Fd.NFC_TAGSTAT_ALM then 4 else 0)
      + (if s.nfc.queued.isEmpty then 0 else 8)
    let left := s.parN Par.TAG_DAYMAX - tagUsed s - (if supplyAbsent s then secs else 0)
    tagSay (Bits.leBytes 1 b0 ++ Bits.leBytes 1 s.nfc.queued.length ++ Bits.leBytes 2 left ++ [0x90, 0x00]) s
  else tagFree s

/-- A host write of a notes page (R495): queued while the field has precedence, at most 4 of them. -/
def hostNote (page : Nat) (s : State) : State :=
  let data := (List.range 8).flatMap (fun w => Bits.leBytes 4 (s.regN (Reg.NFC_TAGWDATA w)))
  if tagSt s = 4 then
    if 4 ≤ s.nfc.queued.length then s.raise Fd.NFC_EVT_HOSTREFUSE
    else tagShow (setNfc { s.nfc with queued := s.nfc.queued ++ [(page, data)] } s)
  else (notePut page data s).2

/-- The Service island held (R644, R649): layer 4 ends, the tag is off, and queued host writes are discarded. -/
def nfcHeld (s : State) : State :=
  let t := if s.nfc.queued.isEmpty then s else s.raise Fd.NFC_EVT_HOSTREFUSE
  let t := cardEnd (t.lower Fd.NFC_STAT_READY)
  tagEnter 0 (setNfc { t.nfc with queued := [], selected := false, recent := [] } t)

/-- The Service island starts (R481, R490, R496). -/
def nfcStart (s : State) : State :=
  tagQueue (tagSupply ((listShow s).putB Fd.NFC_STAT_READY (s.parB Par.RDR_EN)))

/-- READER_POLL (R481): whether an external field is found, and the cards that the poll resolves, each with its SAK. -/
def execReaderPoll (ext : Bool) (cards : List (List Byte × Nat)) (s : State) : Ans := awake .service s <|
  .next (if readerOn s then readerPoll ext cards s else s)

/-- LAYER4_IDLE_TIMEOUT (R485). -/
def execLayer4IdleTimeout (s : State) : Ans := awake .service s <| .next (cardEnd s)

/-- LIST_ADD (R486): the LEN written with OP 1. -/
def execListAdd (p : Path) (len : Nat) (s : State) : Ans := .next (hostOwn p 1 (toIsland .service (listEdit 1 len)) s)

/-- LIST_REMOVE (R486). -/
def execListRemove (p : Path) (len : Nat) (s : State) : Ans := .next (hostOwn p 1 (toIsland .service (listEdit 2 len)) s)

/-- LIST_CLEAR (R486). -/
def execListClear (p : Path) (s : State) : Ans := .next (hostOwn p 1 (toIsland .service (listEdit 3 0)) s)

/-- TAG_SNAPSHOT_REFRESH (R488). -/
def execTagSnapshotRefresh (s : State) : Ans := awake .service s <| .next (tagRefresh s)

/-- TAG_FIELD_DETECT (R490 to R492): a field of 0.5 A/m or more. -/
def execTagFieldDetect (s : State) : Ans :=
  .next (
    let t := setNfc { s.nfc with field := true } s
    if tagSt t = 1 ∧ !t.nfc.deaf then
      if supplyAbsent t && decide (t.parN Par.TAG_DAYMAX ≤ tagUsed t) then tagLimit t else tagEnter 2 (t.raise Fd.NFC_STAT_TAG)
    else t)

/-- TAG_FIELD_LOST (R490, R492): after secs of field. -/
def execTagFieldLost (secs : Nat) (s : State) : Ans :=
  .next (
    let t := when (!supplyAbsent s) (·.lower Fd.NFC_STAT_TAG) (setNfc { s.nfc with field := false } s)
    if 2 ≤ tagSt t then tagLeave 1 (tagCount secs t) else t)

/-- TAG_POWER_REMOVE (R491). -/
def execTagPowerRemove (s : State) : Ans :=
  .next (if supplyAbsent s && !s.nfc.field then s.lower Fd.NFC_STAT_TAG else s)

/-- TAG_WUPA_REQA (R490, R491): whether it is a WUPA, whether anticollision selects the tag after it, and ms since the field came. -/
def execTagWupaReqa (wupa anticoll : Bool) (ms : Nat) (s : State) : Ans := .next (tagWake wupa anticoll ms s)

/-- TAG_RATS (R490): answered with an ATS of FSCI 8. -/
def execTagRats (s : State) : Ans := .next (if tagSt s = 3 then tagSay [0x02, 0x08] (tagEnter 4 s) else s)

/-- TAG_HLTA (R490). -/
def execTagHlta (s : State) : Ans := .next (if tagSt s = 3 then tagEnter 5 s else s)

/-- TAG_DESELECT (R490, R495). -/
def execTagDeselect (s : State) : Ans := .next (if tagSt s = 4 then tagLeave 5 s else s)

/-- TAG_SELECT (R494): any other AID has no response in the spec. -/
def execTagSelect (aid : List Byte) (s : State) : Ans :=
  .next (if tagSt s = 4 then
      if aid = tagAid then tagSay [0x90, 0x00] (setNfc { s.nfc with selected := true } s) else tagFree s
    else s)

/-- TAG_READ (R494). -/
def execTagRead (off le : Nat) (s : State) : Ans := .next (tagCommand (tagRead off le) s)

/-- TAG_WRITE (R489). -/
def execTagWrite (off : Nat) (data : List Byte) (s : State) : Ans := .next (tagCommand (tagWrite off data) s)

/-- TAG_STATUS (R494): secs of field so far. -/
def execTagStatus (le secs : Nat) (s : State) : Ans := .next (tagCommand (tagStatus le secs) s)

/-- TAG_UNKNOWN_COMMAND (R494). -/
def execTagUnknownCommand (s : State) : Ans := .next (tagCommand (tagSay [0x6D, 0x00]) s)

/-- TAG_TIME_LIMIT (R492): in outage, after secs of field. -/
def execTagTimeLimit (secs : Nat) (s : State) : Ans :=
  .next (if supplyAbsent s && decide (2 ≤ tagSt s) then tagLimit (tagCount secs s) else s)

/-- TAG_IGNORE_END (R492): a field that is still present is answered again. -/
def execTagIgnoreEnd (s : State) : Ans :=
  .next (
    let t := setNfc { s.nfc with deaf := false } s
    if t.nfc.field && tagSt t == 1 then tagEnter 2 t else t)

/-- HOST_TAG_WRITE (R495): a write of NFC_TAGWCTL with GO and a page. -/
def execHostTagWrite (p : Path) (page : Nat) (s : State) : Ans := .next (hostOwn p 1 (toIsland .service (hostNote (page % 32))) s)

end Sys2Proof.Machine
end

