-- ==== Sys2Proof/Machine/Ethernet.lean ====
section
/-!
DEFINITION. The Ethernet ports and the CAN FD controllers (spec/12_site_ethernet_time.md R394 to R410, R418 to R422): transmission, launch,
duplicate handling, the receive filters, links. A command that depends on ST carries dt, the ns that ST has advanced since it was last
brought up to date.
-/
namespace Sys2Proof.Machine

/-- PTP_ST shown (R404). -/
def stShow (s : State) : State :=
  let n := Bits.ofInt 64 s.eth.st
  (s.setRegN (Reg.PTP_ST 0) (n % 2 ^ 32)).setRegN (Reg.PTP_ST 1) (n / 2 ^ 32)

/-- A wait whose stamp is kept against ST as it is moved. -/
def waitMove (d : Int) (w : PtpWait) : PtpWait := { w with stamp := w.stamp + d }

/-- The domain times left as they are by a move of ST: their distance from it shrinks, and the stamps taken move with it. -/
def domainsKeep (d : Int) (s : State) : State :=
  let f := fun (e : PtpPort) =>
    { e with off := e.off - d, sync := e.sync.map (waitMove d), delay := e.delay.map (waitMove d), last := e.last.map (fun x => (x.1 + d, x.2)) }
  setEth { s.eth with ports := s.eth.ports.map f } s

/-- ST moved by an amount that the domain times do not follow. -/
def stMove (d : Int) (s : State) : State := domainsKeep d (setEth { s.eth with st := s.eth.st + d } s)

/-- ST advanced by dt, with what a running slew has absorbed meanwhile taken off its rest (R415). -/
def stAdvance (dt : Nat) (s : State) : State :=
  let t := setEth { s.eth with mono := s.eth.mono + dt, st := s.eth.st + dt } s
  if t.on Fd.PTP_STAT_SLEW then
    let rem := t.regI Reg.PTP_SLEWREM
    let a : Int := min rem.natAbs (dt * t.parN Par.SW_SLEW / 1000000)
    let a := if rem < 0 then -a else a
    stShow (domainsKeep a (t.setRegI Reg.PTP_SLEWREM (rem - a)))
  else stShow t

/-- A stamp extended against ST (R406). -/
def stExtend (t32 : Nat) (ref : Int) : Int :=
  let d := (ref - t32) % 4294967296
  if d < 2147483648 then ref - d else ref + (4294967296 - d)

/-- Frames in Q00 whose launch time a forward step of ST passes are sent at once, not late (R421). -/
def launchStep (before after : Int) (s : State) : State :=
  let f := fun (fr : Frame) =>
    match fr.launch with
    | some l => if before < stExtend l before ∧ stExtend l before ≤ after then { fr with launch := none } else fr
    | none => fr
  setQueue 8 ((queue s 8).map f) (setQueue 0 ((queue s 0).map f) s)

/-- ST stepped (R414, R415). -/
def stStep (d : Int) (s : State) : State := (stShow (stMove d (launchStep s.eth.st (s.eth.st + d) s))).raise Fd.PTP_EVT_STEP

/-- ST in the 10-byte PTP timestamp format (R405). -/
def ptpStamp (st : Int) : List Byte := Bits.beBytes 6 (st.toNat / 1000000000) ++ Bits.beBytes 4 (st.toNat % 1000000000)

/-- Bytes with some of them replaced from an offset on. -/
def overwrite (l : List Byte) (o : Nat) (new : List Byte) : List Byte := l.take o ++ new ++ l.drop (o + new.length)

/-- A frame as it leaves (R405): ST is inserted at its offset, and the UDP checksum of a frame that is UDP over IPv4 is set to 0. -/
def stampFrame (f : Frame) (st : Int) : List Byte :=
  match f.tsIns with
  | none => f.bytes
  | some o =>
    let b := overwrite f.bytes o (ptpStamp st)
    let e := typeAt b
    let udp := Bits.ofBeBytes ((b.drop e).take 2) == 0x0800 && b.getD (e + 11) 0 == 17
    let ihl := 4 * ((b.getD (e + 2) 0).toNat % 16)
    if udp then overwrite b (e + 2 + ihl + 6) [0, 0] else b

/-- A frame sent on a port (R404, R405). -/
def ethEmit (p : Nat) (f : Frame) (s : State) : State :=
  let at_ := s.eth.st + s.parN (Par.PHY_TXLAT p)
  let stamp := if f.tsReq then some (Bits.ofInt 32 at_) else none
  (s.bumpReg (Reg.ETH_PCNT (8 * p))).emit (.eth p (stampFrame f at_) stamp)

/-- The ports that a frame of port A's queues leaves on: in a chain both that are up (R395). -/
def outPorts (s : State) : List Nat := if s.parN Par.ETH_TOPO = 1 then [0, 1].filter (portUp s) else [0]

/-- Every frame waiting in a queue sent on the ports of a list. -/
def sendAll (q : Nat) (ports : List Nat) (s : State) : State :=
  (queue s q).foldl (fun t f => ports.foldl (fun u p => ethEmit p f u) t) (setQueue q [] s)

/-- The frames of Q01 to Q03 sent in strict priority, and port B's copies of them (R396). -/
def sendWaiting (s : State) : State :=
  let t := sendAll 3 (outPorts s) (sendAll 2 (outPorts s) (sendAll 1 (outPorts s) s))
  sendAll 11 [1] (sendAll 10 [1] (sendAll 9 [1] t))

/-- The head of a launch queue (R408, R409): sent at its time, or at once when it follows a frame of a later time; late, it is sent or
discarded and counted. prev: the launch time of the frame before it. -/
def launchN : Nat → Nat → Nat → Option Int → State → State
  | 0, _, _, _, s => s
  | n + 1, q, p, prev, s =>
    match queue s q with
    | [] => s
    | f :: fs =>
      let send := fun (t : State) => (if p = 0 then outPorts t else [p]).foldl (fun u r => ethEmit r f u) (setQueue q fs t)
      match f.launch with
      | none => launchN n q p prev (send s)
      | some l =>
        let at_ := stExtend l s.eth.st
        if (match prev with | some x => decide (at_ < x) | none => false) then launchN n q p (some at_) (send s)
        else if s.eth.st < at_ then s
        else if 1000 < s.eth.st - at_ then
          let t := (s.bumpReg (Reg.ETH_PCNT (8 * p + 7))).raise Fd.ETH_EVT_LATE
          launchN n q p (some at_) (if s.parN Par.LATE_MODE = 1 then setQueue q fs t else send t)
        else launchN n q p (some at_) (send s)

/-- Launches that are due on both ports; none after the save of R223 begins (R421). -/
def launchDue (s : State) : State :=
  if s.pfw then s
  else
    let t := launchN (queue s 0).length 0 0 none s
    launchN (queue t 8).length 8 1 none t

/-- A frame put into a receive queue Q04 to Q07 (R396). -/
def ethDeliver (p q : Nat) (f : Frame) (s : State) : State :=
  if 32 ≤ (queue s q).length then (s.bumpReg (Reg.ETH_PCNT (8 * p + 3))).raise Fd.ETH_EVT_RXDROP else enqueue q f s

/-- A site group message at the receive filter (R403). -/
def groupFilter (p : Nat) (m : List Byte) (stamp : Nat) (s : State) : State :=
  let src := groupNum m 2 2 % 4096
  let dst := groupNum m 4 2
  let own := s.parN Par.GRP_ADDR
  let last := ((s.eth.groups.find? (fun e => e.1 == src)).map (·.2)).getD []
  if m.length < 10 then s
  else if src = own then s.raise Fd.ETH_EVT_ADDRCONF
  else if (dst ≠ own ∧ dst ≠ 0xFFFF) ∨ groupNum m 1 1 < 1 ∨ 3 < groupNum m 1 1 ∨ m.length < 10 + groupNum m 8 2 ∨
      last.contains (groupNum m 6 2) then s
  else
    let g := s.eth.groups.filter (fun e => e.1 != src) ++ [(src, (groupNum m 6 2 :: last).take 16)]
    ethDeliver p 4 ⟨m.take (10 + groupNum m 8 2), none, none, false, stamp⟩ (setEth { s.eth with groups := g } s)

/-- What the duplicate handling does with a frame (R399): deliver it or not, and the state after. -/
def duplicateCheck (p : Nat) (f : List Byte) (s : State) : Bool × State :=
  let tr := f.drop (f.length - 6)
  let lan := (Bits.ofBeBytes ((tr.drop 2).take 2)) / 4096
  let size := (Bits.ofBeBytes ((tr.drop 2).take 2)) % 4096
  let seq := Bits.ofBeBytes (tr.take 2)
  let valid := Bits.ofBeBytes (tr.drop 4) == 0x88FB && (lan == 10 || lan == 11) && size == f.length - (typeAt f + 2)
  if s.parN Par.ETH_TOPO ≠ 0 ∨ !valid then (true, s)
  else if lan ≠ 10 + p then (true, s.bumpReg (Reg.ETH_PCNT (8 * p + 6)))
  else
    let src := (f.drop 6).take 6
    let rest := s.eth.nodes.filter (fun e => e.src != src)
    match s.eth.nodes.find? (fun e => e.src == src) with
    | none =>
      if 1024 ≤ s.eth.nodes.length then (true, s.raise Fd.ETH_EVT_NODEOVF)
      else (true, setEth { s.eth with nodes := rest ++ [⟨src, [(seq, s.eth.mono)]⟩] } s)
    | some e =>
      let live := e.seen.filter (fun x => decide (s.eth.mono ≤ x.2 + 400000000))
      if live.any (fun x => x.1 == seq) then
        (false, (setEth { s.eth with nodes := rest ++ [⟨src, live⟩] } s).bumpReg (Reg.ETH_PCNT (8 * p + 5)))
      else (true, setEth { s.eth with nodes := rest ++ [⟨src, (seq, s.eth.mono) :: live⟩] } s)

/-- The EtherType of a frame. -/
def etherType (f : List Byte) : Nat := Bits.ofBeBytes ((f.drop (typeAt f)).take 2)

/-- The VLAN priority of a frame. -/
def vlanPrio (f : List Byte) : Nat := if typeAt f = 16 then Bits.ofBeBytes ((f.drop 14).take 2) / 8192 else 0

/-- A frame that a chain passes on to its other port (R395). -/
def ethBridge (p : Nat) (f : List Byte) (s : State) : State :=
  if s.parN Par.ETH_TOPO = 1 ∧ portUp s (1 - p) then ethEmit (1 - p) (Frame.plain f) s else s

/-- A frame received on a port with a right FCS (R394, R396, R399, R401, R403). PTP messages and safe telegrams go to their own engines. -/
def ethTake (p : Nat) (f : List Byte) (s : State) : State :=
  let mine := f.take 6 == Config.portMac p || (s.parN Par.ETH_TOPO == 1 && f.take 6 == Config.portMac (1 - p))
  let multi := (f.headD 0).getLsbD 0
  let stamp := Bits.ofInt 32 (s.eth.st - s.parN (Par.PHY_RXLAT p))
  let most := if Bits.ofBeBytes (f.drop (f.length - 2)) = 0x88FB then 1524 else 1518
  if most < f.length ∨ f.length < 14 ∨ etherType f = 0x88F7 ∨ (f.take 6 = groupMac 1 ∧ etherType f = 0x88B5) then s
  else
    let t := if mine then s else ethBridge p f s
    if !mine && !multi then t
    else match duplicateCheck p f t with
      | (false, u) => u
      | (true, u) =>
        if f.take 6 = groupMac 2 ∧ etherType f = 0x88B6 then groupFilter p (f.drop (typeAt f + 2)) stamp u
        else ethDeliver p (if 4 ≤ vlanPrio f then 5 else if multi then 7 else 6) ⟨f, none, none, false, stamp⟩ u

/-- ETH_FRAME_SEND (R398, R410): a frame written to a transmit queue, if one is; then what waits in Q01 to Q03 is sent, unless it would
still be on the medium at the launch time of the head of Q00. -/
def execEthFrameSend (w : Option TxFrame) (hold : Bool) (dt : Nat) (s : State) : Ans := awake .siteLink s <|
  let t := stAdvance dt s
  let t := match w with
    | some f => if f.queue < 4 then ethWrite f.queue ⟨f.bytes, f.launch, f.tsIns, f.tsReq, 0⟩ t else t
    | none => t
  .next (if hold then t else sendWaiting t)

/-- FRAME_LAUNCH (R408, R409). -/
def execFrameLaunch (dt : Nat) (s : State) : Ans := awake .siteLink s <| .next (launchDue (stAdvance dt s))

/-- ETH_FRAME_RECEIVE (R399): a frame without its FCS, and whether the FCS is right. -/
def execEthFrameReceive (p : Nat) (f : List Byte) (fcs : Bool) (dt : Nat) (s : State) : Ans := awake .siteLink s <|
  let t := stAdvance dt s
  .next (if !portUp t p then t
    else if !fcs then t.bumpReg (Reg.ETH_PCNT (8 * p + 2))
    else ethTake p f (t.bumpReg (Reg.ETH_PCNT (8 * p + 1))))

/-- NODE_ENTRY_EXPIRY (R399). -/
def execNodeEntryExpiry (src : List Byte) (s : State) : Ans := awake .siteLink s <|
  .next (setEth { s.eth with nodes := s.eth.nodes.filter (fun e => e.src != src) } s)

/-- SUPERVISION_FRAME_SEND (R400): on each port in use, with ETH_TOPO 0. -/
def execSupervisionFrameSend (s : State) : Ans := awake .siteLink s <|
  .next (if s.parN Par.ETH_TOPO = 0 then
    ([0, 1].filter (portUp s)).foldl (fun t p => (t.bumpReg (Reg.ETH_PCNT (8 * p))).emit (.supervision p)) s else s)

/-- GROUP_MESSAGE_RECEIVE (R403): a site group message, from VER on, reaches the receive filter of a port. -/
def execGroupMessageReceive (p : Nat) (m : List Byte) (s : State) : Ans := awake .siteLink s <|
  .next (if portUp s p then groupFilter p m (Bits.ofInt 32 s.eth.st) s else s)

/-- TELEGRAM_FRAME_FILTER (R401, R422): a frame at the telegram filter of a port. -/
def execTelegramFrameFilter (p : Nat) (f : List Byte) (s : State) : Ans := awake .siteLink s <|
  let data := f.drop (typeAt f + 2)
  .next (if portUp s p && f.take 6 == groupMac 1 && etherType f == 0x88B5 && decide (32 ≤ data.length) then
    { s.bumpReg (Reg.ETH_PCNT (8 * p + 1)) with x09 := s.x09 ++ [(p, data.take 32)] } else s)

/-- CAN_BUS_OFF (R420): controller k. -/
def execCanBusOff (k : Nat) (s : State) : Ans := awake .siteLink s <|
  .next (if k < 2 then
    (((s.put (Fd.ETH_CAN_TEC k) 255).raise (Fd.ETH_CAN_BUSOFF k)).bump (Fd.ETH_CAN_BUSOFFS k)).raise Fd.ETH_EVT_BUSOFF else s)

/-- BUS_OFF_RECOVERY (R420). -/
def execBusOffRecovery (k : Nat) (s : State) : Ans := awake .siteLink s <|
  .next (if k < 2 then ((s.lower (Fd.ETH_CAN_BUSOFF k)).put (Fd.ETH_CAN_TEC k) 0).put (Fd.ETH_CAN_REC k) 0 else s)

end Sys2Proof.Machine
end

