-- ==== Sys2Proof/Machine/Ptp.lean ====
section
/-!
DEFINITION. The PTP engine, site time and the links (spec/12_site_ethernet_time.md R404, R407, R411 to R419, R421). Times are in ns.
-/
namespace Sys2Proof.Machine

/-- The index of a PTP domain, when it is one of the two tracked (R411). -/
def domIndex (s : State) (dom : Nat) : Option Nat := (List.range 2).find? (fun d => s.parN (Par.PTP_DOM d) == dom && dom != 255)

/-- The engine of domain d on port p. -/
def engine (s : State) (d p : Nat) : PtpPort := nth s.eth.ports (2 * d + p) .zero

/-- An engine replaced. -/
def setEngine (d p : Nat) (e : PtpPort) (s : State) : State := setEth { s.eth with ports := setNth s.eth.ports (2 * d + p) e } s

/-- Whether a domain is locked on a port (R412). -/
def portLocked (s : State) (d p : Nat) : Bool := (engine s d p).gm.isSome && decide (16 ≤ (engine s d p).good)

/-- The port that a domain takes its time from, when it is locked (R412). -/
def domPort (s : State) (d : Nat) : Option Nat := (List.range 2).find? (portLocked s d)

/-- The UTC offset in use (R416). -/
def utcShow (s : State) : State :=
  let u := match s.eth.sel with
    | some (d, p) => ((engine s d p).utc).getD (s.parN Par.PTP_UTCOFS)
    | none => s.parN Par.PTP_UTCOFS
  if s.regN Reg.PTP_UTC = u then s else (s.setRegN Reg.PTP_UTC u).raise Fd.PTP_EVT_UTCCHG

/-- A switch to a domain and port (R415): Δ is slewed up to STEPMAX, else stepped; what remained of a slew is dropped (R421). -/
def ptpSwitch (d p : Nat) (s : State) : State :=
  let delta := (engine s d p).off
  let t := setEth { s.eth with sel := some (d, p) } (((s.put Fd.PTP_STAT_DOMSEL d).put Fd.PTP_STAT_PORT p).raise Fd.PTP_EVT_SWITCH)
  if delta.natAbs ≤ s.parN Par.STEPMAX then
    (t.setRegI Reg.PTP_SLEWREM delta).putB Fd.PTP_STAT_SLEW (delta != 0)
  else stStep delta ((t.setRegN Reg.PTP_SLEWREM 0).lower Fd.PTP_STAT_SLEW)

/-- The first selection after a start (R413, R414): ST is stepped to the domain's time. -/
def ptpSelect (d p : Nat) (s : State) : State :=
  stStep (engine s d p).off (setEth { s.eth with sel := some (d, p) } ((s.put Fd.PTP_STAT_DOMSEL d).put Fd.PTP_STAT_PORT p))

/-- Locks judged after a change of an engine (R412, R413, R415, R421); under lock the billing clock is disciplined (R208). -/
def ptpJudge (s : State) : State :=
  let now := (List.range 2).map (fun d => (domPort s d).isSome)
  let lost := (List.range 2).any (fun d => s.eth.locked.getD d false && !now.getD d false)
  let t := when lost (·.raise Fd.PTP_EVT_LOST) s
  let pick := fun (d : Nat) => (domPort s d).map (fun p => (d, p))
  let pref := s.parN Par.PTP_PREF
  let t := match s.eth.sel with
    | none =>
      match pick pref, pick (1 - pref) with
      | some (d, p), _ => ptpSelect d p t
      | none, some (d, p) => ptpSelect d p t
      | none, none => t
    | some (d, p) =>
      match domPort s d, pick (1 - d) with
      | some q, _ => if q = p ∧ s.eth.locked.getD d false then t else ptpSwitch d q t
      | none, some (o, q) => ptpSwitch o q t
      | none, none => t
  let t := setEth { t.eth with locked := now } t
  let dlock := (if now.getD 0 false then 1 else 0) + (if now.getD 1 false then 2 else 0)
  let lock := match t.eth.sel with
    | some (d, _) => now.getD d false
    | none => false
  utcShow (((t.put Fd.PTP_STAT_DLOCK dlock).putB Fd.PTP_STAT_LOCK lock).putB Fd.BTM_STAT_PTPLOCK (lock && t.parN Par.PTP_DISC != 0))

/-- The registers that show the last offset, the path delay and the grandmaster of a domain: of the port in use, or of any port while the
domain is not locked. -/
def ptpShow (d p : Nat) (x : Int) (s : State) : State :=
  if domPort s d = some p ∨ domPort s d = none then
    let e := engine s d p
    let gm := e.gm.getD 0
    (((s.setRegI (Reg.PTP_OFS d) x).setRegN (Reg.PTP_MPD d) e.mpd).setRegN (Reg.PTP_GMID d 0) (gm % 2 ^ 32)).setRegN
      (Reg.PTP_GMID d 1) (gm / 2 ^ 32)
  else s

/-- A Sync judged (R412, R414): stamp in ST, time the origin with its correction. -/
def ptpMeasure (d p : Nat) (stamp time : Int) (s : State) : State :=
  let e := { engine s d p with last := some (stamp, time) }
  let target := time + e.mpd
  let x := stamp + e.off - target
  if !e.set then ptpJudge (ptpShow d p 0 (setEngine d p { e with set := true, off := target - stamp, good := 0, bad := 0 } s))
  else
    let bad := if 10000 < x.natAbs then e.bad + 1 else 0
    if bad = 3 then
      let used := s.eth.locked.getD d false && domPort s d == some p
      let t := setEngine d p { e with off := target - stamp, good := 0, bad := 0 } s
      let t := if used then (setEth { t.eth with locked := setNth t.eth.locked d false } t).raise Fd.PTP_EVT_LOST else t
      ptpJudge (ptpShow d p x t)
    else
      let good := if 16 ≤ e.good then 16 else if x.natAbs ≤ 1000 then e.good + 1 else 0
      ptpJudge (ptpShow d p x (setEngine d p { e with off := e.off - Config.ptpServo x, good := good, bad := bad } s))

/-- A message that a transparent clock passes on to its other port (R411). -/
def ptpForward (type p dom seq : Nat) (corr : Int) (s : State) : State :=
  if s.parN Par.PTP_ROLE = 2 ∧ portUp s (1 - p) then s.emit (.ptp (1 - p) (.forward type dom seq corr)) else s

/-- Whether an engine takes messages on a port: the port is up and a grandmaster's Announce messages are present. -/
def ptpHears (s : State) (d p : Nat) : Bool := portUp s p && (engine s d p).gm.isSome

/-- A Sync (R411, R414); corr: its correctionField; residence: what it takes through a transparent clock. -/
def ptpSync (p dom seq : Nat) (twoStep : Bool) (origin corr residence : Int) (s : State) : State :=
  if !portUp s p then s
  else
    let t := ptpForward 0 p dom seq (if twoStep then corr else corr + residence) s
    match domIndex t dom with
    | none => t
    | some d =>
      let stamp := t.eth.st - t.parN (Par.PHY_RXLAT p)
      if !ptpHears t d p then t
      else if twoStep then setEngine d p { engine t d p with sync := some ⟨seq, stamp - corr⟩ } t
      else ptpMeasure d p stamp (origin + corr) t

/-- A Follow_Up (R411). -/
def ptpFollowUp (p dom seq : Nat) (origin corr residence : Int) (s : State) : State :=
  if !portUp s p then s
  else
    let t := ptpForward 8 p dom seq (corr + residence) s
    match domIndex t dom with
    | none => t
    | some d =>
      match (engine t d p).sync with
      | some w =>
        if w.seq = seq then ptpMeasure d p w.stamp (origin + corr) (setEngine d p { engine t d p with sync := none } t) else t
      | none => t

/-- The own rank under the best master algorithm (R411): priority1, class, accuracy, variance, priority2, identity. -/
def ownRank (s : State) : List Nat :=
  let m := Config.portMac 0
  [s.parN Par.PRIO1, 248, 0xFE, Config.ptpVariance, 255, Bits.ofBeBytes (m.take 3 ++ [0xFF, 0xFE] ++ m.drop 3)]

/-- Whether one rank is better than another: the first number in which they differ is lower. -/
def rankBetter : List Nat → List Nat → Bool
  | a :: as, b :: bs => decide (a < b) || (a == b && rankBetter as bs)
  | _, _ => false

/-- Whether no grandmaster is heard anywhere. -/
def ptpSilent (s : State) : Bool := s.eth.ports.all (fun e => e.gm.isNone)

/-- An Announce (R411, R412, R416). -/
def ptpAnnounce (p dom gm : Nat) (rank : List Nat) (utc : Option Nat) (s : State) : State :=
  match domIndex s dom with
  | none => s
  | some d =>
    let e := engine s d p
    if !portUp s p then s
    else if s.parN Par.PTP_ROLE = 1 ∧ rankBetter (ownRank s) rank then (if ptpSilent s then s.raise Fd.PTP_STAT_MASTER else s)
    else if e.gm = some gm then utcShow (setEngine d p { e with rank := rank, utc := utc } s)
    else if e.gm.isNone || rankBetter rank e.rank then
      let e := { PtpPort.zero with gm := some gm, rank := rank, utc := utc, off := e.off }
      ptpJudge (setEngine d p e (s.lower Fd.PTP_STAT_MASTER))
    else s

/-- The grandmaster of an engine is no longer heard (R412). -/
def ptpQuiet (d p : Nat) (s : State) : State :=
  let t := ptpJudge (setEngine d p { PtpPort.zero with off := (engine s d p).off } s)
  if t.parN Par.PTP_ROLE = 1 ∧ ptpSilent t then t.raise Fd.PTP_STAT_MASTER else t

/-- The domain that the module's own messages carry: its preferred one. -/
def ownDom (s : State) : Nat := s.parN (Par.PTP_DOM (s.parN Par.PTP_PREF))

/-- Whether the module acts as master (R411). -/
def ptpMaster (s : State) : Bool := s.parN Par.PTP_ROLE == 1 && s.on Fd.PTP_STAT_MASTER

/-- A message of the module's own sent on every port that is up, with the next number. -/
def ptpOwn (m : Nat → Nat → PtpOut) (s : State) : State :=
  let t := ([0, 1].filter (portUp s)).foldl (fun t p => t.emit (.ptp p (m p s.eth.ptpSeq))) s
  setEth { t.eth with ptpSeq := (t.eth.ptpSeq + 1) % 65536 } t

/-- A Delay_Resp (R411): the mean path delay from the last Sync and the Delay_Req it answers. -/
def ptpDelay (d p seq : Nat) (received corr : Int) (s : State) : State :=
  let e := engine s d p
  match e.delay, e.last with
  | some w, some (t2, t1) =>
    if w.seq = seq then
      let m := ((t2 - t1) + (received - corr - w.stamp)) / 2
      let x := s.regI (Reg.PTP_OFS d)
      ptpShow d p x (setEngine d p { e with delay := none, mpd := m.toNat } s)
    else s
  | _, _ => s

/-- The fields of a port's link and speed in ETH_STAT. -/
def linkField (p : Nat) : RegField := ⟨Reg.ETH_STAT, p, 1⟩

/-- The field of a port's speed. -/
def speedField (p : Nat) : RegField := ⟨Reg.ETH_STAT, 4 + 2 * p, 2⟩

/-- The queues that a port transmits from (R396). -/
def portQueues (p : Nat) : List Nat := (List.range 4).map (fun q => q + 8 * p)

/-- The transmit copies of a port discarded (R418); in a chain the frames wait while the other port is up. -/
def portFlush (p : Nat) (s : State) : State :=
  let chain := s.parN Par.ETH_TOPO = 1
  if chain ∧ portUp s (1 - p) then s
  else (portQueues (if chain then 0 else p)).foldl (fun t q => txDiscard p (queue t q).length (setQueue q [] t)) s

/-- A port that has been lost (R418, R419). -/
def portLoss (p : Nat) (s : State) : State :=
  ptpJudge (setEngine 1 p { PtpPort.zero with off := (engine s 1 p).off }
    (setEngine 0 p { PtpPort.zero with off := (engine s 0 p).off } (portFlush p s)))

/-- A port that rejoins (R418). -/
def portJoin (p : Nat) (s : State) : State :=
  if s.parN Par.ETH_TOPO = 0 ∧ portUp s p then (s.bumpReg (Reg.ETH_PCNT (8 * p))).emit (.supervision p) else s

/-- Whether any safe telegram connection is used (R419). -/
def telegramsUsed (s : State) : Bool := (List.range 8).any (fun c => s.parN (Par.TG_SRC c) != 0xFFFF)

/-- A write of ETH_CTL (R419): refused when it clears a bit while telegrams need both networks. -/
def portEnable (w : Word) (s : State) : State :=
  let new := Bits.get w 0 2
  let old := s.get Fd.ETH_CTL_PEN
  if s.parN Par.ETH_TOPO = 0 ∧ telegramsUsed s ∧ (old &&& (3 - new)) ≠ 0 then s
  else
    let t := s.put Fd.ETH_CTL_PEN new
    let t := upTo 2 (fun p u => if old.testBit p && !new.testBit p then portLoss p u else u) t
    upTo 2 (fun p u => if !old.testBit p && new.testBit p then portJoin p u else u) t

/-- PTP_SYNC_RECEIVE (R414). -/
def execPtpSyncReceive (p dom seq : Nat) (twoStep : Bool) (origin corr residence : Int) (dt : Nat) (s : State) : Ans := awake .siteLink s <|
  .next (ptpSync p dom seq twoStep origin corr residence (stAdvance dt s))

/-- PTP_FOLLOW_UP_RECEIVE (R411). -/
def execPtpFollowUpReceive (p dom seq : Nat) (origin corr residence : Int) (s : State) : Ans := awake .siteLink s <|
  .next (ptpFollowUp p dom seq origin corr residence s)

/-- PTP_ANNOUNCE_RECEIVE (R412): rank is what the best master algorithm compares; utc the offset, when marked valid. -/
def execPtpAnnounceReceive (p dom gm : Nat) (rank : List Nat) (utc : Option Nat) (s : State) : Ans := awake .siteLink s <| .next (ptpAnnounce p dom gm rank utc s)

/-- ANNOUNCE_TIMEOUT (R412): three intervals on a port of a domain. -/
def execAnnounceTimeout (p dom : Nat) (s : State) : Ans := awake .siteLink s <|
  .next (match domIndex s dom with
    | some d => if p < 2 then ptpQuiet d p s else s
    | none => s)

/-- PTP_SYNC_SEND (R411): one-step, ST inserted as it leaves. -/
def execPtpSyncSend (dt : Nat) (s : State) : Ans := awake .siteLink s <|
  let t := stAdvance dt s
  .next (if ptpMaster t then ptpOwn (fun p n => .sync (ownDom t) n (t.eth.st + t.parN (Par.PHY_TXLAT p))) t else t)

/-- PTP_ANNOUNCE_SEND (R411). -/
def execPtpAnnounceSend (s : State) : Ans := awake .siteLink s <|
  .next (if ptpMaster s then ptpOwn (fun _ n => .announce (ownDom s) n (s.parN Par.PRIO1) 248 0xFE 255) s else s)

/-- PTP_DELAY_REQ_SEND (R411). -/
def execPtpDelayReqSend (p dom dt : Nat) (s : State) : Ans := awake .siteLink s <|
  let t := stAdvance dt s
  .next (match domIndex t dom with
    | some d =>
      if ptpHears t d p then
        let w : PtpWait := ⟨t.eth.ptpSeq, t.eth.st + t.parN (Par.PHY_TXLAT p)⟩
        let u := setEngine d p { engine t d p with delay := some w } (t.emit (.ptp p (.delayReq dom t.eth.ptpSeq)))
        setEth { u.eth with ptpSeq := (u.eth.ptpSeq + 1) % 65536 } u
      else t
    | none => t)

/-- PTP_DELAY_RESP_RECEIVE (R411). -/
def execPtpDelayRespReceive (p dom seq : Nat) (received corr : Int) (s : State) : Ans := awake .siteLink s <|
  .next (match domIndex s dom with
    | some d => if ptpHears s d p then ptpDelay d p seq received corr s else s
    | none => s)

/-- PTP_DELAY_REQ_RECEIVE (R411): answered by a master, passed on by a transparent clock. to: the port identity that asks. -/
def execPtpDelayReqReceive (p dom seq asker : Nat) (corr residence : Int) (dt : Nat) (s : State) : Ans := awake .siteLink s <|
  let t := stAdvance dt s
  .next (if !portUp t p then t
    else if ptpMaster t then t.emit (.ptp p (.delayResp dom seq asker (t.eth.st - t.parN (Par.PHY_RXLAT p))))
    else ptpForward 1 p dom seq (corr + residence) t)

/-- REVERT_TIMEOUT (R415): the preferred domain has been locked for REVERT_T. -/
def execRevertTimeout (s : State) : Ans := awake .siteLink s <|
  let pref := s.parN Par.PTP_PREF
  .next (match s.eth.sel, domPort s pref with
    | some (d, _), some p => if s.parB Par.PTP_REVERT && d != pref then utcShow (ptpSwitch pref p s) else s
    | _, _ => s)

/-- ST_SLEW_COMPLETE (R415). -/
def execStSlewComplete (s : State) : Ans := awake .siteLink s <|
  .next (if s.on Fd.PTP_STAT_SLEW then
    ((domainsKeep (s.regI Reg.PTP_SLEWREM) s).setRegN Reg.PTP_SLEWREM 0).lower Fd.PTP_STAT_SLEW
  else s)

/-- PPS_SECOND (R407): ST passes a whole second. -/
def execPpsSecond (s : State) : Ans := awake .siteLink s <|
  let left := 1000000000 - (s.eth.st % 1000000000).toNat
  let t := stAdvance left s
  .next (if t.on Fd.PTP_STAT_LOCK then t.emit .pps else t)

/-- EVT_IN_EDGE (R407). -/
def execEvtInEdge (dt : Nat) (s : State) : Ans := awake .siteLink s <|
  let t := stAdvance dt s
  let n := Bits.ofInt 64 t.eth.st
  .next (((t.setRegN (Reg.PTP_EVTTS 0) (n % 2 ^ 32)).setRegN (Reg.PTP_EVTTS 1) (n / 2 ^ 32)).raise Fd.PTP_EVT_EVTIN)

/-- ETH_LINK_UP (R418): speed as ETH_STAT codes it. -/
def execEthLinkUp (p speed : Nat) (s : State) : Ans := awake .siteLink s <|
  .next (if p < 2 then portJoin p (((s.raise (linkField p)).put (speedField p) speed).raise Fd.ETH_EVT_LINKUP) else s)

/-- ETH_LINK_DOWN (R418). -/
def execEthLinkDown (p : Nat) (s : State) : Ans := awake .siteLink s <|
  .next (if p < 2 then portLoss p (((s.lower (linkField p)).put (speedField p) 0).raise Fd.ETH_EVT_LINKDOWN) else s)

/-- PORT_ENABLE_WRITE (R419): a host write of ETH_CTL. -/
def execPortEnableWrite (p : Path) (w : Word) (s : State) : Ans := .next (hostOwn p 1 (toIsland .siteLink (portEnable w)) s)

end Sys2Proof.Machine
end

