-- ==== Sys2Proof/Machine/Image.lean ====
section
/-!
DEFINITION. The configuration image: its layout, its sections, and the checks of a candidate (spec/18_boot_configuration.md R535 to R543).
-/
namespace Sys2Proof.Machine

/-- A little-endian number in bytes. -/
def numAt (b : List Byte) (o n : Nat) : Nat := Bits.ofLeBytes ((b.drop o).take n)

/-- The bytes of a candidate (R542): 1 slot A, 2 slot B, 3 the MRAM copy that the record names. -/
def imgBytes (s : State) (src o n : Nat) : List Byte :=
  if src = 1 then flashBytes s (0x100000 + o) n
  else if src = 2 then flashBytes s (0x200000 + o) n
  else match s.boot.record with
    | some r => ((nth s.boot.halves r.half []).drop o).take n
    | none => []

/-- A number in a candidate's header. -/
def imgNum (s : State) (src o n : Nat) : Nat := Bits.ofLeBytes (imgBytes s src o n)

/-- A candidate's length. -/
def imgLen (s : State) (src : Nat) : Nat := imgNum s src 8 4

/-- An entry of the section table (R536): type, offset, length, and whether its zero bytes are zero. -/
structure Section where
  type : Nat
  offset : Nat
  len : Nat
  zeros : Bool
  deriving DecidableEq, Repr

/-- The section table of an image. -/
def imgSections (b : List Byte) : List Section :=
  (List.range (numAt b 6 2)).map (fun i =>
    let o := 192 + 16 * i
    ⟨numAt b o 1, numAt b (o + 4) 4, numAt b (o + 8) 4, numAt b (o + 1) 3 == 0 && numAt b (o + 12) 4 == 0⟩)

/-- Sections in ascending offset order without overlap from a place on, the last one ending at another. -/
def sectionsFit (to_ : Nat) : Nat → List Section → Bool
  | at_, [] => at_ == to_
  | at_, [x] => decide (at_ ≤ x.offset) && x.offset + x.len == to_
  | at_, x :: xs => decide (at_ ≤ x.offset) && sectionsFit to_ (x.offset + x.len) xs

/-- The section table valid (R536, R537), with a parameter section. -/
def sectionsOk (b : List Byte) : Bool :=
  let l := imgSections b
  decide (1 ≤ l.length) && decide (l.length ≤ 8) && l.all (fun x => x.zeros && (([1, 2, 3] : List Nat).contains x.type || decide (128 ≤ x.type)))
    && Rules.distinct (l.map (·.type)) && l.any (·.type == 1) && sectionsFit (b.length - 96) (192 + 16 * l.length) l

/-- The bytes of a section, none when the image has none of its type. -/
def imgSection (b : List Byte) (type : Nat) : Option (List Byte) :=
  ((imgSections b).find? (·.type == type)).map (fun x => (b.drop x.offset).take x.len)

/-- A parameter record (R538): block byte, number, length, value as its bytes. -/
structure ParRec where
  blk : Nat
  id : Nat
  len : Nat
  raw : Nat
  deriving DecidableEq, Repr

/-- The parameter that a record names. -/
def ParRec.par (r : ParRec) : Nat := r.blk * 1000 + r.id

/-- The records of a parameter section, each at least 4 bytes long; none when the last one is cut short. -/
def parRecords : Nat → List Byte → Option (List ParRec)
  | _, [] => some []
  | 0, _ => none
  | n + 1, b =>
    let len := numAt b 3 1
    if b.length < 4 + len then none
    else (parRecords n (b.drop (4 + len))).map (fun l => ⟨numAt b 0 1, numAt b 1 2, len, numAt b 4 len⟩ :: l)

/-- The row of the parameter that a record names. -/
def parRow (r : ParRec) : Option ParamMap.ParamRow := if r.id < 1000 then ParamMap.rowFor r.par else none

/-- A record's value (R538). -/
def parValue (r : ParRec) : Int :=
  match parRow r with
  | some x => if x.type = .signed then Bits.signed (8 * x.bytes) r.raw else r.raw
  | none => r.raw

/-- Records ascend by block and number. -/
def parsAscend : List ParRec → Bool
  | a :: b :: l => decide (a.blk * 65536 + a.id < b.blk * 65536 + b.id) && parsAscend (b :: l)
  | _ => true

/-- A parameter section well formed (R538). -/
def parsFormed (l : List ParRec) : Bool :=
  parsAscend l && l.all (fun r => match parRow r with
    | some x => decide (x.layer ≠ .factory) && r.len == x.bytes
    | none => false)

/-- Every value in its parameter's range. -/
def parsInRange (l : List ParRec) : Bool :=
  l.all (fun r => match parRow r with
    | some x => Rules.inRange x.range (parValue r)
    | none => false)

/-- Whether a record names a parameter of a function that the variant lacks (R5). -/
def parsAbsent (v : Variant) (l : List ParRec) : Bool :=
  l.any (fun r => match parRow r with
    | some x => !Rules.present v x
    | none => false)

/-- The values of an image's records. -/
def parsValues (l : List ParRec) : List (Nat × Int) := l.map (fun r => (r.par, parValue r))

/-- The records of an image's parameter section, none when it is cut short. -/
def imgRecords (b : List Byte) : Option (List ParRec) := (imgSection b 1).bind (fun x => parRecords x.length x)

/-- The set that an image alone gives (R549): a factory parameter has its own value. -/
def imgSet (s : State) (vals : List (Nat × Int)) : Nat → Int := imageValue { s with boot := { s.boot with image := vals } }

/-- A day action of the tariff section (R539), when its other bits are zero. -/
def tariffAction (w : Nat) : Option DayAction :=
  if w / 2 ^ 23 = 0 then some ⟨w % 2 ^ 17, w / 2 ^ 17 % 32, w / 2 ^ 22 % 2⟩ else none

/-- The tariff section (R539) as a table, when it has its length and its zero bytes are zero. -/
def tariffOf (b : List Byte) : Option Tariff :=
  if b.length ≠ 3172 then none
  else
    let n := numAt b
    let weeks := (List.range 8).map (fun i => (List.range 7).map (fun d => n (36 + 8 * i + d) 1))
    let acts := (List.range 512).mapM (fun i => tariffAction (n (100 + 4 * i) 4))
    let zeros := (List.range 8).all (fun i => n (36 + 8 * i + 7) 1 == 0) && (List.range 128).all (fun i => n (2148 + 8 * i + 6) 2 == 0)
    if zeros then
      acts.map (fun l =>
        { seasons := (List.range 8).map (fun i => ⟨n (4 + 4 * i) 1, n (5 + 4 * i) 1, n (6 + 4 * i) 1, n (7 + 4 * i) 1⟩),
          weeks := weeks,
          days := (List.range 32).map (fun p => (l.drop (16 * p)).take 16),
          specials := (List.range 128).map (fun i =>
            let o := 2148 + 8 * i
            ⟨n o 1, n (o + 2) 2, n (o + 1) 1, n (o + 4) 1, n (o + 5) 1⟩),
          activation := n 0 4 })
    else none

/-- An entry of the card list section (R540): a UID, zero-padded. -/
def cardEntry (b : List Byte) : Option (List Byte) :=
  let len := numAt b 0 1
  let uid := (b.drop 2).take len
  if [4, 7, 10].contains len ∧ numAt b 1 1 = 0 ∧ (b.drop (2 + len)).all (· == 0) ∧ !(len = 4 ∧ uid.headD 0 = 8) then some uid else none

/-- The card list section (R540). -/
def cardListOf (b : List Byte) : Option (List (List Byte)) :=
  let count := numAt b 0 2
  if b.length = 4 + 12 * count ∧ count ≤ 4096 ∧ numAt b 2 2 = 0 then
    match (List.range count).mapM (fun i => cardEntry ((b.drop (4 + 12 * i)).take 12)) with
    | some l => if l.eraseDups.length = l.length then some l else none
    | none => none
  else none

/-- The tariff and card list sections valid, and a tariff table held or given (R543 code 13). -/
def listsOk (s : State) (b : List Byte) : Bool :=
  (match imgSection b 2 with
    | some x => (match tariffOf x with
      | some t => tariffOk t
      | none => false)
    | none => s.bil.active.isSome || s.bil.passive.isSome)
  && (match imgSection b 3 with
    | some x => (cardListOf x).isSome
    | none => true)

/-- SHA-384. -/
def sha384 (b : List Byte) : List Byte := Config.crypto 4 [] b

/-- The hash of an image's key (R541). -/
def imgKeyHash (b : List Byte) : List Byte := sha384 ((b.drop 48).take 96)

/-- IMGHASH (R536). -/
def imgHash (b : List Byte) : List Byte := sha384 (b.take (b.length - 96))

/-- Whether an image's key is enrolled (R541): without a record every key is. -/
def imgEnrolled (s : State) (b : List Byte) : Bool :=
  match s.boot.record with
  | some r => imgKeyHash b == r.keyHash || imgKeyHash b == r.nextHash
  | none => true

/-- Whether an image may follow the one last accepted (R543 code 7). -/
def imgNewer (s : State) (b : List Byte) : Bool :=
  match s.boot.record with
  | some r => decide (r.seq < numAt b 12 4) || imgHash b == r.hash
  | none => decide (1 ≤ numAt b 12 4)

/-- The identity of the module as a number. -/
def meterNum (s : State) : Nat := s.regN (Reg.SYS_METERID 0) + 2 ^ 32 * s.regN (Reg.SYS_METERID 1)

/-- The code of a variant in images and packages. -/
def variantCode (s : State) : Nat := if s.isF then 1 else 2

/-- Checks 9 to 14 of R543 over the records, 0 when all pass. -/
def parsReject (s : State) (b : List Byte) : Nat :=
  match imgRecords b with
  | none => if numAt b 5 1 = 3 ∨ numAt b 5 1 = variantCode s then 10 else 9
  | some l =>
    let g := imgSet s (parsValues l)
    if !(numAt b 5 1 == 3 || numAt b 5 1 == variantCode s) || parsAbsent s.variant l then 9
    else if !parsFormed l then 10
    else if !parsInRange l then 11
    else if !Rules.allOk s.variant g then 12
    else if !listsOk s b then 13
    else if numAt b 28 4 ≠ Rules.checkValue s.variant g then 14
    else 0

/-- Checks 4 to 14 of R543 over a whole image. -/
def imgReject (s : State) (b : List Byte) : Nat :=
  if !sectionsOk b then 4
  else if !Config.verifies ((b.drop 48).take 96) (b.take (b.length - 96)) (b.drop (b.length - 96)) then 5
  else if !imgEnrolled s b then 6
  else if !imgNewer s b then 7
  else if !(numAt b 16 8 == 0 || numAt b 16 8 == meterNum s) then 8
  else parsReject s b

/-- Whether a candidate can be read: the flash has been found, the MRAM copy has no uncorrectable codeword. -/
def imgReadable (s : State) (flash : Bool) (src : Nat) : Bool :=
  if src = 3 then (match s.boot.record with
    | some r => !nth s.boot.badHalf r.half false
    | none => false)
  else flash

/-- The reason code that rejects a candidate (R543), 0 when it passes; flash: the flash has been found. -/
def candReject (s : State) (flash : Bool) (src : Nat) : Nat :=
  if !imgReadable s flash src then 3
  else if imgBytes s src 0 4 = List.replicate 4 0xFF then 1
  else if imgBytes s src 0 4 ≠ [0x56, 0x50, 0x43, 0x49] ∨ imgNum s src 4 1 ≠ 1 then 2
  else if imgLen s src < 304 ∨ 131072 < imgLen s src then 3
  else imgReject s (imgBytes s src 0 (imgLen s src))

/-- The candidates in the order of R542. -/
def candidates (s : State) : List Nat :=
  let l := if s.boot.record.isSome then [3, 1, 2] else [1, 2]
  let seq := fun (src : Nat) => imgNum s src 12 4
  let place := fun (src : Nat) (acc : List Nat) =>
    acc.takeWhile (fun x => decide (seq src ≤ seq x)) ++ src :: acc.dropWhile (fun x => decide (seq src ≤ seq x))
  l.foldl (fun acc src => place src acc) []

/-- The first candidate that passes, and the codes of those rejected before it. -/
def chooseImage (s : State) (flash : Bool) : List Nat → Option Nat × List (Nat × Nat)
  | [] => (none, [])
  | src :: l =>
    let code := candReject s flash src
    if code = 0 then (some src, [])
    else
      let x := chooseImage s flash l
      (x.1, (src, code) :: x.2)

end Sys2Proof.Machine
end

