-- ==== Sys2Proof/Machine/DlmsObjects.lean ====
section
/-!
DEFINITION. The objects of the DLMS server and what a GET reads from them (spec/14_head_end_dlms.md R462, R467 to R473). Classes and attribute
numbers that the spec names without a number are those of IEC 62056-6-2.
-/
namespace Sys2Proof.Machine

/-- The objects of R467. Demand objects carry d, energies q and t, instantaneous values C, logs e, Waybills k. -/
inductive DlmObj where
  | deviceName | clock | firmware | rate
  | energy (q t : Nat)
  | demand (d : Nat)
  | dmdMax (d t : Nat)
  | inst (c : Nat)
  | profile1 | profile2 | history | periodCount | periodEnd
  | log (e : Nat)
  | waybills (k : Nat)
  | publicKey | credit | transfer | calendar | special | disconnect
  deriving DecidableEq, Repr

/-- The quantity of a value group C (R468). -/
def dlmQuantity (c : Nat) : Option Nat := ([1, 2, 5, 6, 7, 8, 9, 10, 128, 129, 130] : List Nat).idxOf? c

/-- The demand of a value group C (R468). -/
def dlmDemand (c : Nat) : Option Nat := ([1, 2, 9, 10, 128, 129] : List Nat).idxOf? c

/-- The value groups C of instantaneous values (R468), with the register each reads, and its scaler and unit. -/
def dlmInst : List (Nat × Nat × Int × String) := [
  (14, Reg.MTR_FREQ, -3, "Hz"), (16, Reg.MTR_P 3, -1, "W"), (36, Reg.MTR_P 0, -1, "W"), (56, Reg.MTR_P 1, -1, "W"),
  (76, Reg.MTR_P 2, -1, "W"), (32, Reg.MTR_URMS 0, -3, "V"), (52, Reg.MTR_URMS 1, -3, "V"), (72, Reg.MTR_URMS 2, -3, "V"),
  (31, Reg.MTR_IRMS 0, -3, "A"), (51, Reg.MTR_IRMS 1, -3, "A"), (71, Reg.MTR_IRMS 2, -3, "A"), (91, Reg.MTR_IRMS 3, -3, "A"),
  (131, Reg.MTR_VDC 0, -3, "V"), (134, Reg.MTR_VDC 1, -3, "V"), (132, Reg.MTR_IDC 0, -3, "A"), (135, Reg.MTR_IDC 1, -3, "A"),
  (133, Reg.MTR_PCONN 0, -1, "W"), (136, Reg.MTR_PCONN 1, -1, "W")]

/-- The class of an object (R467). -/
def DlmObj.cls : DlmObj → Nat
  | .clock => 8
  | .rate | .energy .. | .inst _ | .credit => 3
  | .demand _ => 5
  | .dmdMax .. => 4
  | .profile1 | .profile2 | .history | .log _ | .waybills _ => 7
  | .calendar => 20
  | .special => 11
  | .disconnect => 70
  | .deviceName | .firmware | .periodCount | .periodEnd | .publicKey | .transfer => 1

/-- The object of a logical name (R467). -/
def dlmNamed : List Nat → Option DlmObj
  | [0, 0, c, d, e, 255] =>
    if c = 42 ∧ d = 0 ∧ e = 0 then some .deviceName
    else if c = 1 ∧ d = 0 ∧ e = 0 then some .clock
    else if c = 96 ∧ d = 14 ∧ e = 0 then some .rate
    else if c = 0 ∧ d = 1 ∧ e = 0 then some .periodCount
    else if c = 128 ∧ d = 0 ∧ e = 2 then some .periodEnd
    else if c = 99 ∧ d = 98 ∧ e ≤ 4 then some (.log e)
    else if c = 99 ∧ d = 128 ∧ e ≤ 1 then some (.waybills e)
    else if c = 128 ∧ d = 0 ∧ e = 3 then some .publicKey
    else if c = 128 ∧ d = 0 ∧ e = 0 then some .credit
    else if c = 128 ∧ d = 0 ∧ e = 1 then some .transfer
    else if c = 13 ∧ d = 0 ∧ e = 0 then some .calendar
    else if c = 11 ∧ d = 0 ∧ e = 0 then some .special
    else if c = 96 ∧ d = 3 ∧ e = 10 then some .disconnect
    else none
  | [1, 0, c, d, e, 255] =>
    if c = 0 ∧ d = 2 ∧ e = 0 then some .firmware
    else if c = 99 ∧ d = 1 ∧ e = 0 then some .profile1
    else if c = 99 ∧ d = 2 ∧ e = 0 then some .profile2
    else if c = 98 ∧ d = 1 ∧ e = 0 then some .history
    else if d = 8 ∧ e ≤ 16 then (dlmQuantity c).map (fun q => .energy q e)
    else if d = 4 ∧ e = 0 then (dlmDemand c).map .demand
    else if d = 6 ∧ e ≤ 16 then (dlmDemand c).map (fun x => .dmdMax x e)
    else if d = 7 ∧ e = 0 ∧ dlmInst.any (fun i => i.1 == c) then some (.inst c)
    else none
  | _ => none

/-- The object of a class and logical name; any other is undefined (R467). -/
def dlmObject (cls : Nat) (obis : List Nat) : Option DlmObj := (dlmNamed obis).filter (fun o => o.cls == cls)

/-- Whether a client may read an object (R467): 0 Public, 1 Reader, 2 Operator, 3 Owner. -/
def dlmReads (client : Nat) : DlmObj → Bool
  | .deviceName | .clock | .rate | .inst _ | .publicKey => true
  | .periodEnd | .transfer => false
  | _ => client != 0

/-- The attributes of a class. -/
def dlmAttrs (cls : Nat) : Nat :=
  if cls = 1 ∨ cls = 11 then 2 else if cls = 3 then 3 else if cls = 4 then 5 else if cls = 7 then 8 else if cls = 20 then 10
  else if cls = 70 then 4 else 9

/-- A date-time (R469): 12 bytes of local time, the deviation and a clock status. -/
def dlmTime (s : State) (sec status : Nat) : List Byte :=
  let t := localTime s sec
  let d := dateOf (t / 86400)
  let h := (t % 86400).toNat
  Bits.beBytes 2 d.year ++ [d.month, d.day, weekday (t / 86400), h / 3600, h / 60 % 60, h % 60, 0].flatMap (Bits.leBytes 1)
    ++ Bits.beBytes 2 (Bits.ofInt 16 (-(tzAt s sec))) ++ Bits.leBytes 1 (status + if dstAt s sec then 128 else 0)

/-- The clock status of the running clock (R469), daylight saving apart. -/
def dlmClockBits (s : State) : Nat :=
  (if s.on Fd.BTM_STAT_VALID then 0 else 1) + (if s.on Fd.BTM_STAT_SLEW then 2 else 0)

/-- A Clock column of an entry: its time, invalid when the entry carries INVCLK. -/
def dlmStamp (s : State) (sec status : Nat) : DlmVal := .bytes (dlmTime s sec (if status.testBit 7 then 1 else 0))

/-- Rows of a profile with the second that their first column stands for, oldest first. -/
abbrev DlmRows := List (Nat × List DlmVal)

/-- An entry of a load profile (R471). -/
def dlmProfRow (s : State) (n : Nat) (e : ProfEntry) : Nat × List DlmVal :=
  (e.endT, dlmStamp s e.endT e.status :: .num e.status :: (e.values.take n).map .num)

/-- An entry of the billing period history (R471). -/
def dlmHistRow (s : State) (e : PeriodEntry) : Nat × List DlmVal :=
  (e.endT, dlmStamp s e.endT e.status :: (e.energy.map (fun v => DlmVal.num ((v / 1000000 : Nat) : Int)))
    ++ (List.range 102).flatMap (fun i => [DlmVal.num (nth e.dmdMax i 0 : Nat), dlmStamp s (nth e.dmdMaxT i 0) 0]) ++ [.num e.credit])

/-- An entry of an event log (R471). -/
def dlmLogRow (s : State) (e : LogEntry) : Nat × List DlmVal :=
  (e.time, [dlmStamp s e.time e.status, .num e.code, .num e.data, .num e.commit, .num e.status])

/-- A Waybill (R471). -/
def dlmWbRow (s : State) (w : Waybill) : Nat × List DlmVal := (w.tEnd, [.num w.seq, .bytes (wbBytes s w ++ w.sig)])

/-- A profile's rows, oldest first, and the entries it can hold. -/
def dlmProfile (s : State) : DlmObj → Option (DlmRows × Nat)
  | .profile1 => some (s.bil.lp1.reverse.map (dlmProfRow s 16), 40960)
  | .profile2 => some (s.bil.lp2.reverse.map (dlmProfRow s 32), 3700)
  | .history => some (s.bil.history.reverse.map (dlmHistRow s), 12)
  | .log e => some ((nth s.logs e ⟨[], 0⟩).entries.reverse.map (dlmLogRow s), logCapacity e)
  | .waybills k => some (if k = 0 then (s.bil.sessWb.reverse.map (dlmWbRow s), 16384) else (s.bil.intWb.reverse.map (dlmWbRow s), 40960))
  | _ => none

/-- The rows that selective access picks (R471). -/
def dlmSelect (rows : DlmRows) : Option DlmSel → DlmRows
  | none => rows
  | some (.range a b) => rows.filter (fun r => decide (a ≤ r.1) && decide (r.1 ≤ b))
  | some (.entries a b) => (rows.take b).drop (a - 1)

/-- The column of a captured item (R471): 0x0000 is a Data object 0.0.0.0.0.0. -/
def dlmColumn (item : Nat) : DlmVal :=
  let q := (item - 0x1000) / 32
  let r := (item - 0x1000) % 32
  let c := fun (l : List Nat) (i : Nat) => l.getD i 0
  if 0x1000 ≤ item ∧ item < 0x1160 ∧ r ≤ 16 then .column 3 [1, 0, c [1, 2, 5, 6, 7, 8, 9, 10, 128, 129, 130] q, 8, r, 255] 2
  else if 0x2000 ≤ item ∧ item ≤ 0x2005 then .column 5 [1, 0, c [1, 2, 9, 10, 128, 129] (item - 0x2000), 4, 0, 255] 3
  else if item = 0x3000 then .column 3 [1, 0, 16, 7, 0, 255] 2
  else if item = 0x3002 ∨ item = 0x3003 then .column 3 [1, 0, c [133, 136] (item - 0x3002), 7, 0, 255] 2
  else if 0x3010 ≤ item ∧ item ≤ 0x3012 then .column 3 [1, 0, c [32, 52, 72] (item - 0x3010), 7, 0, 255] 2
  else if item = 0x4000 then .column 3 [0, 0, 128, 0, 0, 255] 2
  else .column 1 [0, 0, 0, 0, 0, 0] 2

/-- The Clock column. -/
def dlmClockCol : DlmVal := .column 8 [0, 0, 1, 0, 0, 255] 2

/-- The columns of a profile (R471); those of the logs and the Waybills but the clock are no objects' attributes, and have no column object. -/
def dlmColumns (s : State) : DlmObj → Option (List DlmVal)
  | .profile1 => some (dlmClockCol :: .column 7 [1, 0, 99, 1, 0, 255] 2 :: (List.range 16).map (fun i => dlmColumn (s.parN (Par.LP1_CAP i))))
  | .profile2 => some (dlmClockCol :: .column 7 [1, 0, 99, 2, 0, 255] 2 :: (List.range 32).map (fun i => dlmColumn (s.parN (Par.LP2_CAP i))))
  | _ => none

/-- One value. -/
def dlmOne (v : DlmVal) : Option (List (List DlmVal)) := some [[v]]

/-- One number. -/
def dlmNat (n : Nat) : Option (List (List DlmVal)) := dlmOne (.num n)

/-- The profile attributes (R471). -/
def dlmProfAttr (s : State) (o : DlmObj) (attr : Nat) (sel : Option DlmSel) : Option (List (List DlmVal)) :=
  match dlmProfile s o with
  | none => none
  | some (rows, most) =>
    match attr with
    | 2 => some ((dlmSelect rows sel).map (·.2))
    | 3 => (dlmColumns s o).map (fun l => [l])
    | 4 => dlmNat (if o = .profile1 then s.parN Par.LP1_PER * 60 else if o = .profile2 then 86400 else 0)
    | 5 => dlmNat 1
    | 7 => dlmNat rows.length
    | 8 => dlmNat most
    | _ => none

/-- The active attributes of the Activity calendar, and the Special days table (R473). -/
def dlmCalendar (t : Tariff) : Nat → Option (List (List DlmVal))
  | 3 => some ((t.seasons.zipIdx.filter (fun e => e.1.valid == 1)).map (fun e => [.num e.2, .num e.1.month, .num e.1.day, .num e.1.week]))
  | 4 => some (t.weeks.zipIdx.map (fun e => .num e.2 :: e.1.map (fun (d : Nat) => DlmVal.num d)))
  | 5 => some (t.days.zipIdx.map (fun e => .num e.2 :: (e.1.filter (fun a => a.rate != 0)).flatMap (fun a =>
      [.num a.start, .num (a.rate + if a.friendly = 1 then 100 else 0)])))
  | _ => none

/-- The Special days table's entries. -/
def dlmSpecial (t : Tariff) : List (List DlmVal) :=
  (t.specials.zipIdx.filter (fun e => e.1.valid == 1)).map (fun e =>
    [.num e.2, .num e.1.year, .num e.1.month, .num e.1.day, .num e.1.profile])

/-- The public key of the meter (R472): null-data while WB_KEYSLOT holds no usable key. -/
def dlmKey (s : State) : List (List DlmVal) :=
  let n := s.parN Par.WB_KEYSLOT
  if usable s n then [[.num n, .num (s.get (Fd.KEY_SLOT_GEN n)), .bytes (publicKey s n)]] else [[.null]]

/-- What an attribute from the second on reads as, where the spec gives it a value. -/
def dlmAttr (s : State) (o : DlmObj) (attr : Nat) (sel : Option DlmSel) : Option (List (List DlmVal)) :=
  match o, attr with
  | .deviceName, 2 => dlmOne (.bytes (meterId s))
  | .clock, 2 => dlmOne (.bytes (dlmTime s (s.regN Reg.BTM_TIME) (dlmClockBits s)))
  | .clock, 3 => dlmOne (.num (s.par Par.TZ_OFFSET))
  | .clock, 4 => dlmNat (dlmClockBits s + if dstAt s (s.regN Reg.BTM_TIME) then 128 else 0)
  | .clock, 5 => dlmNat (s.parN Par.DST_START)
  | .clock, 6 => dlmNat (s.parN Par.DST_END)
  | .clock, 7 => dlmOne (.num (s.par Par.DST_DEV))
  | .clock, 8 => dlmNat (s.parN Par.DST_EN)
  | .firmware, 2 => dlmOne (.bytes ((List.range 4).flatMap (fun w => Bits.leBytes 4 (s.regN (Reg.UPD_FWID w)))))
  | .rate, 2 => dlmNat s.bil.lastRate
  | .energy q t, 2 => dlmNat (energyOf s q t)
  | .energy _ _, 3 => dlmOne (.unit (-3) "Wh")
  | .demand d, 2 => dlmNat (s.regN (Reg.BIL_DMDCUR d))
  | .demand d, 3 => dlmNat (s.regN (Reg.BIL_DMDLAST d))
  | .demand _, 4 => dlmOne (.unit (-1) "W")
  | .demand _, 8 => dlmNat (subLen s)
  | .demand _, 9 => dlmNat (s.parN Par.DMD_SUB)
  | .dmdMax d t, 2 => dlmNat (s.regN (Reg.BIL_DMDMAX d t))
  | .dmdMax _ _, 3 => dlmOne (.unit (-1) "W")
  | .dmdMax d t, 5 => dlmOne (.bytes (dlmTime s (s.regN (Reg.BIL_DMDMAXT d t)) 0))
  | .inst c, 2 => (dlmInst.find? (fun i => i.1 == c)).bind (fun i => dlmOne (.num (s.regI i.2.1)))
  | .inst c, 3 => (dlmInst.find? (fun i => i.1 == c)).bind (fun i => dlmOne (.unit i.2.2.1 i.2.2.2))
  | .periodCount, 2 => dlmNat s.bil.periods
  | .publicKey, 2 => some (dlmKey s)
  | .credit, 2 => dlmOne (.num s.bil.credit)
  | .credit, 3 => dlmOne (.unit (-6) "currency")
  | .calendar, 10 => dlmNat (s.regN Reg.BIL_TTACT)
  | .calendar, a => s.bil.active.bind (fun t => dlmCalendar t a)
  | .special, 2 => s.bil.active.map dlmSpecial
  | .disconnect, 2 => dlmNat (s.get Fd.BIL_DISC_FB)
  | .disconnect, 3 => dlmNat (s.get Fd.BIL_DISC_STATE)
  | .disconnect, 4 => dlmNat (s.parN Par.DISC_MODE)
  | o, a => dlmProfAttr s o a sel

/-- One item of a GET (R467): a value that the spec does not give is the n-th free word. -/
def dlmRead (s : State) (client n : Nat) (i : DlmItem) : DlmData :=
  match dlmObject i.cls i.obis with
  | none => ⟨.undefinedObject, []⟩
  | some o =>
    if !dlmReads client o then ⟨.denied, []⟩
    else if i.attr = 0 ∨ dlmAttrs i.cls < i.attr then ⟨.undefinedObject, []⟩
    else if i.attr = 1 then ⟨.success, [[.bytes (i.obis.map (BitVec.ofNat 8))]]⟩
    else match dlmAttr s o i.attr i.sel with
      | some rows => ⟨.success, rows⟩
      | none => ⟨.success, [[.num (Config.freeWord (s.free + n)).toNat]]⟩

/-- The answers to the items of a GET, from one commit (R472). -/
def dlmReadAll (s : State) (client : Nat) (items : List DlmItem) : List DlmData :=
  (items.zipIdx).map (fun e => dlmRead s client e.2 e.1)

end Sys2Proof.Machine
end

