-- ==== Sys2Proof/Machine/Dlms.lean ====
section
/-!
DEFINITION. The DLMS server (spec/14_head_end_dlms.md R461 to R478): associations, their security, and what requests do.
-/
namespace Sys2Proof.Machine

/-- The server's own state replaced. -/
def setDlm (d : DlmState) (s : State) : State := { s with dlm := d }

/-- The registers that show the server's state (DLM_STAT). -/
def dlmShow (s : State) : State :=
  let owner := match s.dlm.stage with
    | some (a, _) => ((s.dlm.assocs.find? (fun x => x.id == a)).map (·.client)).getD 0
    | none => 0
  (s.put Fd.DLM_STAT_OPEN s.dlm.assocs.length).put Fd.DLM_STAT_STAGE owner

/-- The staging copy discarded (R474). -/
def stageDrop (s : State) : State :=
  match s.dlm.stage with
  | some _ => dlmShow ((setDlm { s.dlm with stage := none } s).raise Fd.DLM_EVT_STAGEDROP)
  | none => s

/-- An association ended, and the staging copy it owns with it (R474). -/
def dlmEnd (a : Nat) (s : State) : State :=
  let t := match s.dlm.stage with
    | some (o, _) => if o = a then stageDrop s else s
    | none => s
  dlmShow (setDlm { t.dlm with assocs := t.dlm.assocs.filter (fun x => x.id != a) } t)

/-- Every association dropped without RLRE (R476), the staging copy discarded (R474). -/
def dlmPowerFail (s : State) : State := let t := stageDrop s; dlmShow (setDlm { t.dlm with assocs := [] } t)

/-- An association released for an authentication or tag failure (R464, R465, R476). -/
def dlmAuthFail (a : Nat) (s : State) : State := dlmEnd a ((s.bumpReg (Reg.DLM_CNT 2)).raise Fd.DLM_EVT_AUTHFAIL)

/-- An association's own record replaced. -/
def setAssoc (x : DlmAssoc) (s : State) : State :=
  setDlm { s.dlm with assocs := s.dlm.assocs.map (fun y => if y.id = x.id then x else y) } s

/-- Whether a slot holds a usable key of a type with some usages (R463, R464). -/
def dlmKeyOk (s : State) (slot type : Nat) (uses : List Nat) : Bool :=
  slot != 0 && usable s slot && slotType s slot == type && uses.all (slotUse s slot)

/-- Whether the four keys of secured client c are usable (R463, R464): 0 Reader, 1 Operator, 2 Owner. -/
def dlmKeys (s : State) (c : Nat) : Bool :=
  let n := s.parN Par.DLM_SUITE
  dlmKeyOk s (s.parN Par.SRV_KEY) (n + 3) [0] && dlmKeyOk s (s.parN (Par.CLI_EK c)) n [4, 5]
    && dlmKeyOk s (s.parN (Par.CLI_AK c)) n [4, 5] && dlmKeyOk s (s.parN (Par.CLI_PUB c)) (n + 5) [1]

/-- Whether a counter that a client's associations need is exhausted (R466). -/
def dlmSpent (s : State) (c : Nat) : Bool := s.regN (Reg.DLM_ICNT c) == 0xFFFFFFFF || s.regN Reg.DLM_TXIC == 0xFFFFFFFF

/-- Something sent on an association: a ciphered APDU takes the next transmit counter (R466), and none is sent once they are spent. -/
def dlmSend (a client : Nat) (m : DlmOut) (s : State) : State :=
  if client = 0 then s.emit (.dlms a m)
  else if s.regN Reg.DLM_TXIC = 0xFFFFFFFF then s
  else
    let t := (s.setRegN Reg.DLM_TXIC (s.regN Reg.DLM_TXIC + 1)).emit (.dlms a m)
    if t.regN Reg.DLM_TXIC = 0xFFFFFFFF then t.raise Fd.DLM_EVT_ICEXH else t

/-- The client of a wPort (R462). -/
def dlmClient (wPort : Nat) : Option Nat :=
  if wPort = 0x10 then some 0 else if wPort = 0x20 then some 1 else if wPort = 0x30 then some 2 else if wPort = 0x01 then some 3 else none

/-- Whether an association request is accepted, and for which client (R461, R462, R464, R466). -/
def dlmAccepts (a wPort : Nat) (s : State) : Option Nat :=
  if s.parN Par.DLM_MAXASSOC ≤ s.dlm.assocs.length ∨ s.dlm.assocs.any (fun x => x.id == a) then none
  else match dlmClient wPort with
    | none => none
    | some 0 => if s.parB Par.DLM_PUBLIC then some 0 else none
    | some (c + 1) => if dlmKeys s c && !dlmSpent s c then some (c + 1) else none

/-- An association request (R464, R465). -/
def dlmOpen (a wPort : Nat) (theirs : List Byte) (s : State) : State :=
  match dlmAccepts a wPort s with
  | none => (s.bumpReg (Reg.DLM_CNT 1)).emit (.dlms a .refused)
  | some c =>
    let x := if c = 0 then ([], s) else freshBytes 8 s
    let t := x.2.bumpReg (Reg.DLM_CNT 0)
    dlmSend a c (.accepted x.1) (dlmShow (setDlm { t.dlm with assocs := t.dlm.assocs ++ [⟨a, c, c != 0, x.1, theirs, none⟩] } t))

/-- An APDU checked (R464, R466, R476): none where it is discarded. -/
def dlmTake (r : DlmReq) (s : State) : Option DlmAssoc × State :=
  match s.dlm.assocs.find? (fun x => x.id == r.assoc) with
  | none => (none, s)
  | some x =>
    let c := x.client - 1
    if x.client = 0 then (some x, s)
    else if !dlmKeys s c || !r.tag then (none, dlmAuthFail x.id s)
    else if r.ic ≤ s.regN (Reg.DLM_ICNT c) then (none, (s.bumpReg (Reg.DLM_CNT 3)).raise Fd.DLM_EVT_REPLAY)
    else
      let t := s.setRegN (Reg.DLM_ICNT c) r.ic
      (some x, if t.regN (Reg.DLM_ICNT c) = 0xFFFFFFFF then t.raise Fd.DLM_EVT_ICEXH else t)

/-- A SET or ACTION (R467): denied below the client it needs and before pass 3, else answered with its effect's result. -/
def dlmAct (r : DlmReq) (need : Nat) (eff : DlmAssoc → State → DlmRes × State) (s : State) : State :=
  match dlmTake r s with
  | (none, t) => t
  | (some x, t) =>
    let t := t.bumpReg (Reg.DLM_CNT 5)
    if x.waits || decide (x.client < need) then dlmSend x.id x.client (.result .denied) t
    else
      let y := eff x t
      dlmSend x.id x.client (.result y.1) y.2

/-- The number of the request that signs pass 4. -/
def dlmSignId (a : Nat) : Nat := 2 ^ 33 + a

/-- What is signed in HLS (R463, R465): a challenge and a system title. -/
def dlmTitle (s : State) : List Byte := [0x45, 0x56, 0x4B] ++ (meterId s).take 5

/-- Pass 3 (R465): the client's signature over the server's challenge. Pass 4 is signed by the Grotto over X16 (R382). -/
def dlmPass3 (r : DlmReq) (sig : List Byte) (s : State) : State :=
  match dlmTake r s with
  | (none, t) => t
  | (some x, t) =>
    let t := t.bumpReg (Reg.DLM_CNT 5)
    if !x.waits then dlmSend x.id x.client (.result .denied) t
    else if Config.verifies (publicKey t (t.parN (Par.CLI_PUB (x.client - 1)))) x.challenge sig then
      dlmSend x.id x.client (.pass4 (dlmSignId x.id))
        (cryptoTake ⟨dlmSignId x.id, 4, .sign, t.parN Par.SRV_KEY, x.theirs ++ dlmTitle t⟩ (setAssoc { x with waits := false } t))
    else dlmAuthFail x.id t

/-- A GET (R471, R472): its response, blocks included, is built from the commit current at its first block. -/
def dlmGet (r : DlmReq) (ask : DlmAsk) (s : State) : State :=
  match dlmTake r s with
  | (none, t) => t
  | (some x, t) =>
    if x.waits then dlmSend x.id x.client (.result .denied) t
    else match ask with
      | .next n =>
        match x.view with
        | some v => dlmSend x.id x.client (.block n v) t
        | none => dlmSend x.id x.client (.result .otherReason) t
      | .read items =>
        let t := t.bumpReg (Reg.DLM_CNT 4)
        if 10 < items.length then dlmSend x.id x.client (.result .otherReason) t
        else
          let v := dlmReadAll t x.client items
          let u := { setAssoc { x with view := some v } t with free := t.free + items.length }
          dlmSend x.id x.client (.data v) u

/-- A clock adjustment of the head-end (R469): one below HWS − BACK_MAX is a clock reset for the Owner, and refused for the Operator. -/
def dlmClock (deltaMs : Int) (target : Nat) (x : DlmAssoc) (s : State) : DlmRes × State :=
  let d : Int := (target : Int) - (s.regN Reg.BTM_TIME + 1 : Nat)
  let below := s.on Fd.BTM_STAT_VALID && decide (s.parN Par.ADJ_LIM * 1000 < deltaMs.natAbs) && decide (d < 0)
    && decide (target + s.parN Par.BACK_MAX < s.regN Reg.BTM_HWS)
  (if s.pfw || (below && x.client != 3) then .denied else .success, clockAdjust 1 deltaMs target (below && x.client == 3) s)

/-- A tariff table with nothing in it: what staging starts from with no active table. -/
def tariffBlank : Tariff :=
  ⟨List.replicate 8 ⟨0, 0, 0, 0⟩, List.replicate 8 (List.replicate 7 0), List.replicate 32 (List.replicate 16 ⟨0, 0, 0⟩),
    List.replicate 128 ⟨0, 0, 0, 0, 0⟩, 0⟩

/-- The staging copy that a write builds on (R474); none while another association owns one. -/
def stageOf (x : DlmAssoc) (s : State) : Option Tariff :=
  match s.dlm.stage with
  | none => some (s.bil.active.getD tariffBlank)
  | some (a, t) => if a = x.id then some t else none

/-- The staging copy kept under its owner. -/
def stageKeep (x : DlmAssoc) (t : Tariff) (s : State) : State := dlmShow (setDlm { s.dlm with stage := some (x.id, t) } s)

/-- A day action of R473 from its script selector. -/
def calAction (a : Nat × Nat) : DayAction := if 100 < a.2 then ⟨a.1, a.2 - 100, 1⟩ else ⟨a.1, a.2, 0⟩

/-- Whether a value has the form of R473. -/
def calOk : CalPart → Bool
  | .seasons l => l.all (fun x => decide (x.1 < 8) && decide (x.2.2.2 < 8))
  | .weeks l => l.all (fun x => decide (x.1 < 8) && x.2.length == 7 && x.2.all (fun d => decide (d < 32)))
  | .days l => l.all (fun x => decide (x.1 < 32) && decide (x.2.length ≤ 16) && x.2.all (fun a =>
      (decide (1 ≤ a.2) && decide (a.2 ≤ 16)) || (decide (101 ≤ a.2) && decide (a.2 ≤ 116))))
  | .activation _ => true
  | .other => false

/-- A passive attribute written into a table (R473): its whole list is replaced. -/
def calPut (t : Tariff) : CalPart → Tariff
  | .seasons l => { t with seasons := l.foldl (fun a x => setNth a x.1 ⟨1, x.2.1, x.2.2.1, x.2.2.2⟩) tariffBlank.seasons }
  | .weeks l => { t with weeks := l.foldl (fun a x => setNth a x.1 x.2) tariffBlank.weeks }
  | .days l => { t with days := l.foldl (fun a x => setNth a x.1 ((x.2.map calAction ++ List.replicate 16 ⟨0, 0, 0⟩).take 16)) tariffBlank.days }
  | .activation n => { t with activation := n }
  | .other => t

/-- The staging copy submitted with an activation time (R474): accepted, it is the staging copy no longer. -/
def stageSubmit (act : Nat) (x : DlmAssoc) (s : State) : DlmRes × State :=
  match s.dlm.stage with
  | none => (.otherReason, s)
  | some (a, t) =>
    if a ≠ x.id then (.temporary, s)
    else
      let r := submitTable 1 { t with activation := act } s
      if r.1 then (.success, dlmShow (setDlm { r.2.dlm with stage := none } r.2)) else (.otherReason, r.2)

/-- A calendar write that builds the staging copy (R474). -/
def stageWrite (f : Tariff → Option Tariff) (x : DlmAssoc) (s : State) : DlmRes × State :=
  match stageOf x s with
  | none => (.temporary, s)
  | some t =>
    match f t with
    | some u => (.success, stageKeep x u s)
    | none => (.otherReason, s)

/-- The effect of DLMS_CALENDAR_WRITE. -/
def calWrite (p : CalPart) (x : DlmAssoc) (s : State) : DlmRes × State :=
  match p with
  | .activation n => stageSubmit n x s
  | p => stageWrite (fun t => if calOk p then some (calPut t p) else none) x s

/-- A special day entry of the staging copy set (R473, R474). -/
def calSpecial (i : Nat) (d : SpecialDay) (t : Tariff) : Option Tariff :=
  if i < 128 then some { t with specials := setNth t.specials i d } else none

/-- DLMS_AARQ (R462, R464): the connection's number, the client's wPort and its challenge. -/
def execDlmsAarq (assoc wPort : Nat) (challenge : List Byte) (s : State) : Ans := .next (dlmOpen assoc wPort challenge s)

/-- HLS_PASS3 (R465). -/
def execHlsPass3 (r : DlmReq) (sig : List Byte) (s : State) : Ans := .next (dlmPass3 r sig s)

/-- HLS_TIMEOUT (R465): 10 s after the AARE. -/
def execHlsTimeout (assoc : Nat) (s : State) : Ans :=
  .next (if s.dlm.assocs.any (fun x => x.id == assoc && x.waits) then dlmEnd assoc s else s)

/-- ASSOCIATION_IDLE_TIMEOUT (R461): DLM_IDLE without a request. -/
def execAssociationIdleTimeout (assoc : Nat) (s : State) : Ans := .next (dlmEnd assoc s)

/-- DLMS_GET (R472). -/
def execDlmsGet (r : DlmReq) (ask : DlmAsk) (s : State) : Ans := .next (dlmGet r ask s)

/-- DLMS_CLOCK_SET (R469): the new time in ms, and the ms of the running second that have passed. -/
def execDlmsClockSet (r : DlmReq) (newMs frac : Nat) (s : State) : Ans :=
  .next (dlmAct r 2 (fun x t => dlmClock ((newMs : Int) - (t.regN Reg.BTM_TIME * 1000 + frac : Nat)) (newMs / 1000) x t) s)

/-- DLMS_SHIFT_TIME (R469). -/
def execDlmsShiftTime (r : DlmReq) (seconds : Int) (s : State) : Ans :=
  .next (dlmAct r 2 (fun x t => dlmClock (seconds * 1000) ((t.regN Reg.BTM_TIME : Int) + seconds).toNat x t) s)

/-- DLMS_BILLING_END_COMMAND (R470): only true commands. -/
def execDlmsBillingEndCommand (r : DlmReq) (value : Bool) (s : State) : Ans :=
  .next (dlmAct r 2 (fun _ t => (.success, if value then { t with bil := { t.bil with endNow := true } } else t)) s)

/-- DLMS_CREDIT_TRANSFER (R475). -/
def execDlmsCreditTransfer (r : DlmReq) (amount : Int) (number : Nat) (s : State) : Ans :=
  .next (dlmAct r 2 (fun _ t =>
    let x := creditTransfer amount number 1 t
    (if x.1 then .success else .otherReason, x.2)) s)

/-- DLMS_CALENDAR_WRITE (R473, R474). -/
def execDlmsCalendarWrite (r : DlmReq) (part : CalPart) (s : State) : Ans := .next (dlmAct r 2 (calWrite part) s)

/-- ACTIVATE_PASSIVE_CALENDAR (R474). -/
def execActivatePassiveCalendar (r : DlmReq) (s : State) : Ans := .next (dlmAct r 2 (stageSubmit 0) s)

/-- SPECIAL_DAY_INSERT (R474). -/
def execSpecialDayInsert (r : DlmReq) (i year month day profile : Nat) (s : State) : Ans :=
  .next (dlmAct r 2 (stageWrite (calSpecial i ⟨1, year, month, day, profile⟩)) s)

/-- SPECIAL_DAY_DELETE (R474): a deleted entry is not VALID. -/
def execSpecialDayDelete (r : DlmReq) (i : Nat) (s : State) : Ans :=
  .next (dlmAct r 2 (stageWrite (fun t => calSpecial i { nth t.specials i ⟨0, 0, 0, 0, 0⟩ with valid := 0 } t)) s)

/-- STAGING_TIMEOUT (R474): 600 s without a calendar write. -/
def execStagingTimeout (s : State) : Ans := .next (stageDrop s)

/-- REMOTE_DISCONNECT (R475). -/
def execRemoteDisconnect (r : DlmReq) (s : State) : Ans :=
  .next (dlmAct r 2 (fun _ t => (.success, sesDisconnect (discUpdate 1 2 (discRequest 1 true t)))) s)

/-- REMOTE_RECONNECT (R475): the outcome is that of R234. -/
def execRemoteReconnect (r : DlmReq) (s : State) : Ans :=
  .next (dlmAct r 2 (fun _ t => (.success, discUpdate 1 2 (discRequest 1 false t))) s)

/-- ASSOCIATION_RELEASE (R474): a release or the connection's close. -/
def execAssociationRelease (assoc : Nat) (s : State) : Ans := .next (dlmEnd assoc s)

end Sys2Proof.Machine
end

