-- ==== Sys2Proof/Machine/SessionPower.lean ====
section
/-!
DEFINITION. Limits, setpoints, cable check, pre-charge and the converters (spec/10_charging_session.md R344 to R348, R352 to R360).
-/
namespace Sys2Proof.Machine

/-- The voltage that powers are divided by, in V (R344): UNOM times the phases, or MTR_VDC[0] with at least 50 V. -/
def sesVolts (s : State) : Rat :=
  if s.ses.dc then
    let v : Rat := (s.regI (Reg.MTR_VDC 0) : Rat) / 1000
    if v < 50 then 50 else v
  else
    let phases := ([6, 7, 8].filter (Rules.used s.variant s.par)).length
    (s.parN Par.UNOM : Rat) / 1000 * (max phases 1 : Nat)

/-- The smallest of some limits. -/
def leastOf : Rat → List Rat → Rat
  | m, [] => m
  | m, x :: xs => leastOf (if x < m then x else m) xs

/-- I_LIM of R344, in A. -/
def sesLimit (s : State) : Rat :=
  let v := sesVolts s
  let own : Rat := if s.ses.dc then s.parN Par.EVSE_IMAX_DC else s.parN Par.EVSE_IMAX_AC
  let cable := ([0, 13, 20, 32, 63] : List Nat).getD (s.get Fd.CPL_STAT_PPCODE) 0
  leastOf (own / 10) (
    [(s.parN Par.EVSE_PMAX : Rat) * 100 / v]
    ++ (if s.parN Par.PP_MODE = 1 ∧ cable ≠ 0 then [(cable : Rat)] else [])
    ++ (if s.regN Reg.SES_ILIM ≠ 0 then [(s.regN Reg.SES_ILIM : Rat) / 10] else [])
    ++ (if s.parB Par.SITE_EN then [(siteGrant s : Rat) * 100 / v] else [])
    ++ (if s.ses.dc then [(((s.ses.conv.filter (·.healthy)).map (·.ilim)).sum : Nat) / (10 : Rat)] else []))

/-- The duty of basic charging (R345), in 0.01 %. -/
def dutyOf (i : Rat) : Nat :=
  if i < 6 then 0
  else if i ≤ 51 then (Exact.floor (i * 10000 / 60)).toNat
  else if i ≤ 80 then (Exact.floor (i * 40)).toNat + 6400
  else 9600

/-- The pilot's duty for basic charging (R345): a decrease at once, an increase at most once every 5 s. -/
def dutyStep (s : State) : State :=
  let want := dutyOf s.ses.ilim
  if want < s.ses.duty then dutySend want s
  else if s.ses.duty < want ∧ 500 ≤ s.ses.dutyAge then
    let t := dutySend want s
    setSes { t.ses with dutyAge := 0 } t
  else s

/-- The 10 ms step of the limits (R344, R345), with what the session does at its 10 ms steps besides: the lease runs down, a close that waits
for its Token asks again, an acceptance that waits for the relay goes on. -/
def limitStep (s : State) : State :=
  let t := setSes { s.ses with justNow := false, dutyAge := min 500 (s.ses.dutyAge + 1) } s
  let t := if t.on Fd.SES_STAT_SITEGR then t.setRegN Reg.SES_LEASE (t.regN Reg.SES_LEASE - 10) else t
  let t := sesCloseTry (authResume t)
  if 4 ≤ sesSt t ∧ sesSt t ≤ 8 then
    let i := sesLimit t
    let t := (setSes { t.ses with ilim := i } t).setRegN Reg.SES_ILIMNOW (Exact.toInt (i * 10)).toNat
    if sesBasic t && !dcPost t then sesBasicClose (dutyStep t) else t
  else t

/-- The current that the vehicle asks for, in A (R346). -/
def sesTarget (s : State) : Rat :=
  if sesSt s ≠ 7 then 0
  else if s.ses.byPower then
    let v : Rat := (s.regI (Reg.MTR_VDC 0) : Rat) / 1000
    if 0 < v then (s.ses.ask.natAbs : Rat) * 100 / v else Config.zeroVoltCurrent s.ses.ask.natAbs
  else (s.ses.ask.natAbs : Rat) / 10

/-- The 10 ms step of I_SET (R346, R361 step 2). -/
def setpointStep (s : State) : State :=
  let lesser := fun (a b : Rat) => if a < b then a else b
  let x := s.ses
  let target := sesTarget s
  let goal := lesser target x.ilim
  let up := lesser goal (x.iset + (s.parN Par.RAMP_UP : Rat) / 100)
  let fall := x.iset - (s.parN Par.RAMP_DOWN : Rat) / 100
  let down := if fall < goal then goal else fall
  let t :=
    if x.iset < target ∧ x.iset < x.ilim then
      if tokHolds s 1 0 then setSes { x with iset := up, steps := x.steps + 1 } s
      else if tokWaits s 1 0 then s
      else (tokRequest 1 0 0 s).2
    else setSes { x with iset := down } s
  let t := if t.ses.iset = goal ∨ 190 ≤ t.ses.steps then setSes { t.ses with steps := 0 } (tokGive 1 0 t) else t
  isetShow (tok1Show t)

/-- The test voltage of a cable check in 0.1 V (R347). -/
def testVolts (s : State) : Nat := min s.ses.vmax (s.parN Par.EVSE_VMAX_DC)

/-- Whether insulation is monitored. -/
def imdOn (s : State) : Bool := s.isF && s.parB Par.IMD_EN

/-- A passed cable check (R347): state 6, with the output to be discharged first. -/
def cablePass (s : State) : State :=
  if sesSt s = 5 then setSes { s.ses with near := 0, stage := 0, preOk := false, drained := false } (sesEnter 6 s) else s

/-- DC values have been updated (R129): the voltage conditions of R347 and R348, of 100 ms each, and the low current of R361. -/
def sesInstant (s : State) : State :=
  let v := s.regI (Reg.MTR_VDC 0)
  if !s.ses.dc then s
  else if sesSt s = 5 then
    let test : Int := 100 * testVolts s
    let n := if 50 * (v - test).natAbs ≤ test.natAbs then s.ses.near + 1 else 0
    let t := setSes { s.ses with near := n } s
    if n < 100 ∨ t.ses.stage ≠ 0 then t
    else if imdOn t then setSes { t.ses with stage := 1 } t
    else cablePass t
  else if sesSt s = 6 then
    let drained := s.ses.drained || decide (v.natAbs ≤ 60000)
    let close := decide ((v - 100 * s.ses.target).natAbs ≤ 1000 * s.parN Par.PRECH_TOL)
    let n := if s.ses.drained && s.ses.target != 0 && close then s.ses.near + 1 else 0
    setSes { s.ses with drained := drained, near := n, preOk := s.ses.preOk || decide (100 ≤ n) } s
  else if sesSt s = 9 ∧ sesLow s then sesOpenSend s
  else s

/-- An insulation cycle has ended (R347): judged tells whether it was judged, and not discarded. -/
def cableCycle (judged : Bool) (s : State) : State :=
  if sesSt s ≠ 5 then s
  else if s.ses.stage = 1 then setSes { s.ses with stage := 2 } s
  else if s.ses.stage = 2 ∧ judged then
    if s.get Fd.EFT_STAT_IMDST = 3 ∨ s.on Fd.EFT_STAT_IMDCOUP then sesStop 8 s else cablePass s
  else s

/-- State 5 entered (R347, R349, R359): the converters used from now on are those that are healthy. -/
def cableBegin (s : State) : State :=
  let conv := s.ses.conv.map (fun c => { c with elig := c.healthy })
  let t := siteAsk (setSes { s.ses with near := 0, stage := 0, conv := conv } (sesEnter 5 s))
  if conv.any (·.healthy) then sesClose t else sesStop 12 t

/-- A node of the session. -/
def convNode (s : State) (n : Nat) : ConvNode := nth s.ses.conv n .zero

/-- A node replaced, and SES_CONVOK. -/
def setNode (n : Nat) (c : ConvNode) (s : State) : State :=
  (setSes { s.ses with conv := setNth s.ses.conv n c } s).putBit Reg.SES_CONVOK n c.healthy

/-- Whether a node takes part in the delivery. -/
def convUsed (c : ConvNode) : Bool := c.healthy && c.elig

/-- A node that stops being healthy (R359). -/
def convLose (n : Nat) (s : State) : State :=
  let c := convNode s n
  if c.healthy then
    let t := setNode n { c with healthy := false, lost := true, elig := false, run := 0 } s
    let t := (t.bumpReg Reg.SES_CONVCNT).raise Fd.SES_EVT_CONVLOST
    if 5 ≤ sesSt t ∧ sesSt t ≤ 7 ∧ !t.ses.conv.any (·.healthy) then sesStop 12 t else t
  else s

/-- A number in a frame of the converter link, little-endian (R353). -/
def canNum (f : List Byte) (o n : Nat) : Nat := Bits.ofLeBytes ((f.drop o).take n)

/-- Whether a node's frame is accepted on a port (R352). -/
def convHeard (s : State) (port n : Nat) : Bool :=
  decide (n < 32) && (s.parN Par.CONV_USE).testBit n && port == (if (s.parN Par.CONV_PORT).testBit n then 1 else 0)

/-- A STATUS (R356, R359). -/
def convStatus (n : Nat) (f : List Byte) (s : State) : State :=
  let c := convNode s n
  let alive := canNum f 1 1
  let step := match c.rxAlive with
    | some a => alive == (a + 1) % 256
    | none => false
  let right := step && !(canNum f 6 2).testBit 1
  let s := if c.rxAlive.isSome && !step then s.bump (Fd.SES_CONV_ERRS n) else s
  let s := (s.put (Fd.SES_CONV_IOUT n) (canNum f 4 2)).put (Fd.SES_CONV_STATE n) (canNum f 0 1)
  let c := { c with rxAlive := some alive, ilim := canNum f 10 2, run := if right then min 100 (c.run + 1) else 0 }
  let t := setNode n c s
  if right then setNode n { c with healthy := c.cap.isSome && (c.healthy || !c.lost || decide (100 ≤ c.run)) } t
  else convLose n t

/-- A CAPAB (R357, R359). -/
def convCapab (n : Nat) (f : List Byte) (s : State) : State :=
  let cap : ConvCap := ⟨canNum f 1 1 == 1, canNum f 2 2, canNum f 4 2, canNum f 6 2, canNum f 8 2, canNum f 10 2, canNum f 12 2⟩
  setNode n { convNode s n with cap := some cap } s

/-- The MODE of SETPT in the session's state (R347, R348, R354, R361). -/
def sesMode (s : State) : Nat :=
  let st := sesSt s
  let flow := if s.ses.ask < 0 then 4 else 3
  if st = 5 then 2
  else if st = 6 then (if s.ses.drained then 2 else 5)
  else if st = 7 then flow
  else if st = 8 ∨ st = 10 then 1
  else if st = 9 then (if s.ses.tripped then 0 else if s.ses.openSent then 5 else flow)
  else 0

/-- VSET of SETPT in 0.1 V (R354). -/
def sesVset (s : State) : Nat :=
  if sesMode s = 2 then (if sesSt s = 5 then testVolts s else s.ses.target) else if sesMode s = 3 then testVolts s else 0

/-- The current of a node in 0.1 A (R348, R358): its share of the total, in proportion to ILIM_NOW. -/
def convShare (s : State) (c : ConvNode) : Nat :=
  let total : Rat := if sesSt s = 6 then 2 else s.ses.iset
  let sum := ((s.ses.conv.filter convUsed).map (·.ilim)).sum
  if sum = 0 then 0 else min c.ilim (Exact.toInt (total * 10 * (c.ilim : Rat) / (sum : Rat))).toNat

/-- The SETPT of one node (R354, R358, R359). What the spec gives no value for is open: PLIM, RAMP, VMIN, and ISET in the cable check. -/
def setptNode (ramp vmin n : Nat) (s : State) : State :=
  let c := convNode s n
  let mode := if convUsed c then sesMode s else 0
  if mode = 0 ∨ mode = 1 ∨ mode = 5 then convMode mode n s
  else
    let x := s.fresh
    let y := x.2.fresh
    let t := y.2
    let iset := if sesSt s = 5 then min c.ilim (y.1.toNat % 65536) else convShare s c
    let alive := (c.txAlive + 1) % 256
    let port := if (s.parN Par.CONV_PORT).testBit n then 1 else 0
    (setSes { t.ses with conv := setNth t.ses.conv n { c with txAlive := alive } } t).emit (.can port (2 * 64 + n)
      (Bits.leBytes 1 mode ++ Bits.leBytes 1 alive ++ Bits.leBytes 2 (sesVset s) ++ Bits.leBytes 2 iset ++ Bits.leBytes 2 x.1.toNat
        ++ Bits.leBytes 2 ramp ++ Bits.leBytes 2 vmin ++ List.replicate 4 0))

/-- SETPT to every node in use (R353). -/
def setptSend (s : State) : State :=
  let x := s.fresh
  let y := x.2.fresh
  upTo 32 (fun n t => if (t.parN Par.CONV_USE).testBit n then setptNode x.1.toNat y.1.toNat n t else t) y.2

/-- SYNC on both ports (R355): the nodes that may deliver; whether it asks for CAPAB is open. -/
def syncSend (s : State) : State :=
  let deliver := decide (5 ≤ sesSt s) && decide (sesSt s ≤ 9) && !s.ses.tripped
  let mask := ((List.range 32).map (fun n => if deliver && convUsed (convNode s n) then 2 ^ n else 0)).sum
  let x := s.fresh
  let f := Bits.leBytes 1 1 ++ Bits.leBytes 1 (x.1.toNat % 2) ++ [0, 0] ++ Bits.leBytes 4 mask
  (x.2.emit (.can 0 (4 * 64 + 63) f)).emit (.can 1 (4 * 64 + 63) f)

/-- LIMIT_UPDATE (R344). -/
def execLimitUpdate (s : State) : Ans := .next (limitStep s)

/-- SETPOINT_UPDATE (R346). -/
def execSetpointUpdate (s : State) : Ans := .next (if s.ses.dc && decide (7 ≤ sesSt s) && decide (sesSt s ≤ 9) then setpointStep s else s)

/-- CABLE_CHECK_TIMEOUT (R347). -/
def execCableCheckTimeout (s : State) : Ans := .next (if sesSt s = 5 then sesStop 8 s else s)

/-- PRECHARGE_TIMEOUT (R348). -/
def execPrechargeTimeout (s : State) : Ans := .next (if sesSt s = 6 ∧ !s.ses.preOk then sesStop 9 s else s)

/-- CONVERTER_SETPT_SEND (R353). -/
def execConverterSetptSend (s : State) : Ans := awake .siteLink s <| .next (setptSend s)

/-- CONVERTER_SYNC_SEND (R355). -/
def execConverterSyncSend (s : State) : Ans := awake .siteLink s <| .next (syncSend s)

/-- CONVERTER_STATUS_RECEIVE (R359): the 16 bytes of a STATUS of node n on a port. -/
def execConverterStatusReceive (port n : Nat) (f : List Byte) (s : State) : Ans := awake .siteLink s <|
  .next (if convHeard s port n && f.length == 16 then convStatus n f s else s)

/-- CONVERTER_CAPAB_RECEIVE (R357). -/
def execConverterCapabReceive (port n : Nat) (f : List Byte) (s : State) : Ans := awake .siteLink s <|
  .next (if convHeard s port n && f.length == 16 then convCapab n f s else s)

/-- CONVERTER_STATUS_TIMEOUT (R359): 50 ms without a STATUS of node n. -/
def execConverterStatusTimeout (n : Nat) (s : State) : Ans := .next (if n < 32 then convLose n s else s)

end Sys2Proof.Machine
end

