-- ==== Sys2Proof/Machine/Shunter.lean ====
section
/-!
DEFINITION. The channels of the Shunter (spec/22_shunter_dma.md R606 to R620): their classes and queues, descriptor sets, activation, completion, stop.
-/
namespace Sys2Proof.Machine

/-- The Timetable class of a channel (R606). -/
def shnClass (ch : Nat) : Nat :=
  if ch < 2 then 1 else if ch < 4 then 2 else if ch = 4 then 8 else if ch < 8 then 6 else if ch < 20 then 4 else if ch < 24 then 3
  else if ch < 26 then 4 else if ch < 28 then 7 else if ch < 30 then 5 else if ch = 30 then 0 else 8

/-- The queues a channel is bound to (R606), the lower-numbered first. -/
def shnQueues (ch : Nat) : List Nat :=
  if ch < 8 then [] else if ch < 16 then [ch - 8] else if ch < 28 then [2 * ch - 24, 2 * ch - 23] else []

/-- Whether a channel is bound to transmit queues. -/
def shnSends (ch : Nat) : Bool := [8, 9, 10, 11, 16, 17, 20, 22, 24, 26].contains ch

/-- The longest frame of a bound channel's queues (R616). -/
def shnLongest (ch : Nat) : Nat := if ch < 24 then 1528 else if ch < 26 then 205 else 520

/-- The Crossings that the use of a channel names (R606). -/
def shnPorts (ch : Nat) : List Nat :=
  if ch = 0 then [0] else if ch = 4 then [14] else if ch = 28 ∨ ch = 29 then [15, 16] else []

/-- A descriptor set (R610): addresses, elements or frames, CFG, strides as its words give them, the constant. -/
structure ShnSet where
  src : Nat
  dst : Nat
  len : Nat
  cfg : Word
  srcStep : Nat
  dstStep : Nat
  plane : Nat
  const : Nat
  deriving DecidableEq, Repr

/-- The set that begins at a word of SHN_DESC: 0 the active set, 8 the shadow set. -/
def shnSet (s : State) (ch base : Nat) : ShnSet :=
  let w := fun i => s.regN (Reg.SHN_DESC ch (base + i))
  { src := w 0, dst := w 1, len := w 2 % 2 ^ 24, cfg := s.reg (Reg.SHN_DESC ch (base + 3)), srcStep := w 4 % 65536, dstStep := w 4 / 65536,
    plane := w 5 % 2 ^ 24, const := w 6 + 2 ^ 32 * w 7 }

/-- CFG.OP. -/
def shnOp (d : ShnSet) : Nat := Bits.get d.cfg 0 4

/-- The element size in bytes. -/
def shnEs (d : ShnSet) : Nat := 2 ^ Bits.get d.cfg 4 2

/-- N of R613. -/
def shnN (d : ShnSet) : Nat := Bits.get d.cfg 8 4 + 1

/-- Whether COMPARE takes the constant. -/
def shnConst (d : ShnSet) : Bool := Bits.bit d.cfg 12

/-- Whether COMPARE reads only. -/
def shnRead (d : ShnSet) : Bool := Bits.bit d.cfg 13

/-- The Crossing whose Core end an address names (R608, R609). -/
def shnPort (a : Nat) : Option Nat :=
  match region a with
  | some (.crossing x) => some x
  | _ => none

/-- A stride in bytes (R609, R610): the element size where its word gives 0, and none at a Crossing port. -/
def shnStep (d : ShnSet) (a step : Nat) : Nat := if (shnPort a).isSome then 0 else if step = 0 then shnEs d else step

/-- The bytes from SRC that a set reads (R613), none where it reads none. -/
def shnSrcSpan (d : ShnSet) : Option Nat :=
  let es := shnEs d
  match shnOp d with
  | 1 => some (if (shnPort d.src).isSome then es else d.len * shnN d * es)
  | 2 => some ((shnN d - 1) * d.plane + d.len * es)
  | 4 => none
  | _ => some ((d.len - 1) * shnStep d d.src d.srcStep + es)

/-- The bytes from DST that a set names, and whether it writes them. -/
def shnDstSpan (d : ShnSet) : Option (Nat × Bool) :=
  let es := shnEs d
  match shnOp d with
  | 1 => some ((shnN d - 1) * d.plane + d.len * es, true)
  | 2 => some (if (shnPort d.dst).isSome then es else d.len * shnN d * es, true)
  | 3 => some ((shnN d - 1) * d.plane + (d.len + 7) / 8, true)
  | 5 => if shnConst d || shnRead d then none else some ((d.len - 1) * shnStep d d.dst d.dstStep + es, false)
  | _ => some ((d.len - 1) * shnStep d d.dst d.dstStep + es, true)

/-- Whether a channel may access a region (R608), at a fabric address. -/
def shnMay (s : State) (ch a : Nat) (store : Bool) : Bool :=
  match region a with
  | none => false
  | some .registers => !store || ch == 31
  | some .sram => true
  | some .mram => !store || [1, 2, 3, 5, 6, 7, 30].contains ch
  | some (.nvm b) => !store || (ch == 7 && b != s.get Fd.UPD_STAT_BANK)
  | some .flash =>
    let o := a - flashBase
    !store || (ch == 7 && (decide (o < 0x800) || (decide (0x100000 ≤ o) && decide (o < 0x300000))
      || (decide (0x800000 ≤ o) && decide (o < 0x2000000))))
  | some (.crossing x) => (shnPorts ch).contains x

/-- Whether every byte of a range lies in one region that a channel may access. -/
def shnRange (s : State) (ch a n : Nat) (store : Bool) : Bool :=
  shnMay s ch a store && shnMay s ch (a + n - 1) store && decide (region (a + n - 1) = region a)

/-- The combinations of R613, and the form of R609 for a Crossing port. -/
def shnCfgOk (d : ShnSet) : Bool :=
  let port := fun a step => (shnPort a).isNone || (shnEs d == 8 && step == 0)
  decide (1 ≤ d.len) && decide (shnOp d ≤ 5) && (shnOp d != 3 || decide (shnN d ≤ 8 * shnEs d)) && (shnOp d == 4 || port d.src d.srcStep)
    && ((shnOp d == 5 && (shnConst d || shnRead d)) || port d.dst d.dstStep)

/-- The error code that refuses a set when it becomes active (R608, R613, R616), 0 for none. -/
def shnRefuse (s : State) (ch : Nat) (d : ShnSet) : Nat :=
  if shnQueues ch ≠ [] then
    let a := if shnSends ch then d.src else d.dst
    let n := d.len * shnEs d
    if shnOp d ≠ 0 ∨ d.len = 0 then 4
    else if n < shnLongest ch then 3
    else if region a = some .sram ∧ shnRange s ch a n true then 0 else 1
  else if !shnCfgOk d then 4
  else
    let from_ := match shnSrcSpan d with
      | some n => shnRange s ch d.src n false
      | none => true
    let to_ := match shnDstSpan d with
      | some (n, w) => shnRange s ch d.dst n w
      | none => true
    if from_ && to_ then 0 else 1

/-- A channel's state shown (R618): running has an active descriptor. -/
def shnState (ch st : Nat) (s : State) : State :=
  ((s.put (Fd.SHN_CH_STATE ch) st).putBit Reg.SHN_BUSY ch (st == 1)).putB (Fd.SHN_DESC_VALID ch 3) (st == 1)

/-- An error code reported by a channel. -/
def shnCode (ch code : Nat) (s : State) : State := (s.put (Fd.SHN_CH_ERRCODE ch) code).putBit Reg.SHN_ERR ch true

/-- The shadow set discarded, or loaded: it is armed no more. -/
def shnDisarm (ch : Nat) (s : State) : State := (s.lower (Fd.SHN_DESC_VALID ch 11)).putBit Reg.SHN_SHDV ch false

/-- Whether a channel may start a descriptor now (R620). -/
def shnMayStart (s : State) (ch : Nat) : Bool := !s.pfw || [0, 2, 3, 30].contains ch

/-- The armed shadow set becomes the active set (R611), or is refused. -/
def shnLoad (ch : Nat) (s : State) : State :=
  let t := shnDisarm ch s
  let t := upTo 8 (fun w u => u.setReg (Reg.SHN_DESC ch w) (u.reg (Reg.SHN_DESC ch (8 + w)))) t
  let t := ((shnState ch 1 t).put (Fd.SHN_CH_ERRCODE ch) 0).put (Fd.SHN_CH_DONE ch) 0
  let d := shnSet t ch 0
  let code := shnRefuse t ch d
  if code ≠ 0 then shnCode ch code (shnState ch 3 t)
  else if shnOp d = 5 ∧ shnQueues ch = [] then t.setRegN (Reg.SHN_CMP ch) 0
  else t

/-- A shadow word written (R611). -/
def shnShadow (ch w : Nat) (v : Word) (s : State) : State :=
  if w < 8 ∨ 16 ≤ w then s
  else if s.bitOf Reg.SHN_SHDV ch then shnCode ch 7 s
  else if w = 11 then
    let t := s.setReg (Reg.SHN_DESC ch 11) (v &&& 0x80003F7F)
    if Bits.bit v 31 then
      let t := t.putBit Reg.SHN_SHDV ch true
      if (t.get (Fd.SHN_CH_STATE ch) = 0 ∨ t.get (Fd.SHN_CH_STATE ch) = 2) ∧ shnMayStart t ch then shnLoad ch t else t
    else t
  else s.setReg (Reg.SHN_DESC ch w) (if w = 10 ∨ w = 13 then v &&& 0xFFFFFF else v)

/-- The elements or frames that a channel's active descriptor moves: a bound channel moves one frame (R616). -/
def shnTotal (s : State) (ch : Nat) : Nat := if shnQueues ch = [] then (shnSet s ch 0).len else 1

/-- Whether the active descriptor has moved all it has to move. -/
def shnEnded (s : State) (ch : Nat) : Bool := s.get (Fd.SHN_CH_STATE ch) == 1 && s.get (Fd.SHN_CH_DONE ch) == shnTotal s ch

/-- A descriptor completes (R611, R615): the shadow is loaded when it is armed. -/
def shnComplete (ch : Nat) (s : State) : State :=
  let t := s.putBit Reg.SHN_DONE ch true
  if t.bitOf Reg.SHN_SHDV ch ∧ shnMayStart t ch then shnLoad ch t else shnState ch 0 t

/-- A channel stopped under R618 with an error code; a descriptor that completes meanwhile counts (R621). -/
def shnStop (ch code : Nat) (s : State) : State :=
  let t := if shnEnded s ch then s.putBit Reg.SHN_DONE ch true else s
  shnCode ch code (shnState ch 2 (shnDisarm ch t))

/-- PFW_N is asserted (R620): every channel but SH00, SH02, SH03 and SH30 stops. -/
def shnPowerFail (s : State) : State := upTo 32 (fun ch t => if shnMayStart t ch then t else shnStop ch 5 t) s

/-- SHADOW_ARM (R611): a vendor write of the shadow CFG word of a channel. -/
def execShadowArm (p : Path) (ch : Nat) (cfg : Word) (s : State) : Ans :=
  .next (if ch < 32 then hostOwn p 3 (shnShadow ch 11 cfg) s else s)

/-- Whether the writes of a channel's active descriptor have arrived where BAR asks for it (R615): a Crossing has taken every word. -/
def shnArrived (s : State) (ch : Nat) : Bool :=
  let d := shnSet s ch 0
  !Bits.bit d.cfg 6 || (match shnPort d.dst with
    | some x => (xing s x).waiting.isEmpty
    | none => true)

/-- DESCRIPTOR_COMPLETE (R611, R615): the last write of a channel's active descriptor has been issued, or with BAR has arrived. -/
def execDescriptorComplete (ch : Nat) (s : State) : Ans := .next (if ch < 32 ∧ shnEnded s ch ∧ shnArrived s ch then shnComplete ch s else s)

/-- A write of SHN_CHCTL (R618). -/
def shnControl (v : Word) (s : State) : State := if Bits.bit v 8 then shnStop (Bits.get v 0 5) 6 s else s

/-- SHUNTER_CHANNEL_STOP (R618): a vendor write of SHN_CHCTL. -/
def execShunterChannelStop (p : Path) (v : Word) (s : State) : Ans := .next (hostOwn p 3 (shnControl v) s)

end Sys2Proof.Machine
end

