-- ==== Sys2Proof/Machine/Save.lean ====
section
/-!
DEFINITION. PFW_N and the save (spec/06_billing_time_events.md R223, spec/05_billing_registers.md R181, and what every chapter says happens when
PFW_N asserts).
-/
namespace Sys2Proof.Machine

/-- Power, clocks and resets replaced. -/
def setPow (p : PowState) (s : State) : State := { s with pow := p }

/-- A session in states 1 to 9 ends with reason 13 (spec/10_charging_session.md R362). -/
def sesPowerFail (s : State) : State :=
  if 1 ≤ sesSt s ∧ sesSt s ≤ 9 then
    let t := tokGive 0 1 { s with x04 := s.x04.filter (fun w => match w with | .close _ _ => false | .openAll => true) }
    sesFinish (setSes { t.ses with reason := 13, wantClose := false, wait := none } (t.lower Fd.SES_AUTHREQ_PEND))
  else s

/-- Self-tests, warm-ups, shadows and trials of the engines abandoned (spec/04_points_redundancy.md R163): they run again after the start. -/
def ptsAbandon (s : State) : State :=
  upTo 2 (fun e t => if [3, 4, 5].contains (engSt t e) then setEng e 2 t else t)
    (if [0, 1].any (fun e => engSt s e == 6) then trialStop s else s)

/-- Running tests of residual-current monitoring and of the trip path abandoned (spec/08_earth_fault_trip_switching.md R297). -/
def testsAbandon (s : State) : State := setRcm { s.saf.rcm with testRun := 0 } ((s.lower Fd.EFT_STAT_RCMTEST).lower Fd.EFT_STAT_TRIPTEST)

/-- PFW_N is driven low, and the save begins. -/
def pfAssert (s : State) : State :=
  let t := causeSet 21 ((tokPowerFail (setPow { s.pow with saving := true } s)).raise Fd.TTB_STAT_PFMODE)
  shnPowerFail (testsAbandon (ptsAbandon (lcdDown (lsShed (dlmPowerFail (sesPowerFail t))))))

/-- The records in X00 taken, oldest first. -/
def takeAll (s : State) : State := upTo s.x00.length (fun _ => takeRecord) s

/-- Intake stops (R181): with late records read after it, which are counted and not billed. -/
def intakeStop (late : Nat) (s : State) : State :=
  let t := takeAll s
  let t := { t with bil := { t.bil with stopped := true, lost := t.bil.lost + late } }
  let t := if late = 0 then t else t.raise Fd.BIL_EVT_PFLOSS
  if t.bitOf Reg.SHN_BUSY 0 then shnStop 0 5 t else t

/-- The outage record begun (R223, R228); lost: the records not billed. -/
def outageBegin (lost : Nat) (s : State) : State :=
  { s with btm := { s.btm with outage := some ⟨s.regN Reg.BTM_TIME, 0, 0, 0, 0, 0, false, lost⟩ } }

/-- The save (R223): intake stopped, every pending second committed, the last one with PDN, the outage record and the log entry written; dur is its
duration in 10 µs. -/
def saveRun (late dur : Nat) (s : State) : State :=
  let t := commitEvery 1 false (confirm (intakeStop late s))
  let t := logWrite 0x0201 0 t.bil.lost (outageBegin t.bil.lost t)
  let t := (t.lower Fd.TTB_STAT_PFMODE).put Fd.PWR_HOLD_SAVE dur
  setPow { t.pow with saving := false, saved := true } t

/-- PFW_N driven low for a cause of R585, and the save run as far as the supply lets it: none, the supply fails before it has completed. A save
that already runs or has completed serves this cause too (R588). -/
def powerSave (late : Nat) (save : Option Nat) (s : State) : State :=
  let t := if s.pow.saving || s.pow.saved then s else pfAssert s
  match save with
  | some d => if t.pow.saving then saveRun late d t else t
  | none => t

/-- VSYS measured, in mV. -/
def vsysShow (mv : Nat) (s : State) : State :=
  let v := min mv 0xFFFF
  let low := s.get Fd.PWR_VSYS_MIN
  tokVlow ((s.put Fd.PWR_VSYS_MV v).put Fd.PWR_VSYS_MIN (if low = 0 then v else min low v))

/-- POWER_FAIL_WARNING (R573, R223): VSYS in mV, the records read after intake stopped, and the duration of the save in 10 µs, if it completes. -/
def execPowerFailWarning (mv late : Nat) (save : Option Nat) (s : State) : Ans :=
  .next (if s.on Fd.PWR_STAT_PFW || !s.on Fd.PWR_STAT_VIOOK then s
    else
      let t := (((vsysShow mv s).raise Fd.PWR_STAT_PFW).raise Fd.PWR_EVT_PFW).bump Fd.PWR_PFCNT_PFWS
      if s.running || s.pow.saving then powerSave late save t else t)

end Sys2Proof.Machine
end

