-- ==== Sys2Proof/Machine/Restart.lean ====
section
/-!
DEFINITION. What a start and an island's restart reset, and how an island starts (spec/20_power_clocks_reset.md R585, spec/24_faults_ordering.md R644, and
the start of each island's own chapter).
-/
namespace Sys2Proof.Machine

/-- The bits of a Core island register that a start keeps: what the spec keeps in MRAM, and what its own rules carry over. -/
def keptCore (a : Nat) : Nat :=
  let all := 0xFFFFFFFF
  let range := fun (base n : Nat) => decide (base ≤ a) && decide (a < base + 4 * n)
  if [Reg.SYS_ID, Reg.SYS_RSTCAUSE, Reg.SYS_STARTS, Reg.SYS_METERID 0, Reg.SYS_METERID 1, Reg.MEM_AGE, Reg.MEM_HOURS, Reg.MEM_SCRUBCNT,
      Reg.BIL_COMMIT, Reg.BIL_COMMITSEC, Reg.BIL_TTGEN, Reg.BIL_TTACT, Reg.BIL_MISSCNT, Reg.BIL_ESTCNT, Reg.BIL_WBSEQ, Reg.BIL_WBUNS,
      Reg.BIL_LPCNT, Reg.BIL_TOPUP, Reg.BIL_DISC, Reg.SES_CONVCNT, Reg.DLM_TXIC, Reg.UPD_STAT, Reg.UPD_CODES, Reg.UPD_SVN,
      Reg.UPD_LOCKCNT].contains a then all
  else if range (Reg.SYS_FLTCNT 0) 9 || a == Reg.BIL_ROLLCNT then 0xFFFF0000
  else if a = Reg.SYS_FLT then 0xC0000
  else if a = Reg.CLK_STAT then 0x1FF0000
  else if range (Reg.CLK_ISL 0) 9 then 0x30
  else if a = Reg.MEM_STAT then 0xFF0000
  else if range (Reg.MEM_ECC 0) 4 || range (Reg.MEM_KIND 0) 9 || range (Reg.MEM_LIFE 0) 9 || range (Reg.BIL_ENERGY 0 0 0) 374
      || range (Reg.BIL_DMDCUR 0) 6 || range (Reg.BIL_DMDLAST 0) 6 || range (Reg.BIL_DMDMAX 0 0) 102 || range (Reg.BIL_DMDMAXT 0 0) 102
      || range (Reg.BIL_CREDIT 0) 2 || range (Reg.DLM_ICNT 0) 3 || range (Reg.UPD_FWID 0) 4 then all
  else 0

/-- The bits of a register that a start, or the restart of its island, keeps. -/
def keptMask (a : Nat) (w : Word) : Nat :=
  let all := 0xFFFFFFFF
  let range := fun (base n : Nat) => decide (base ≤ a) && decide (a < base + 4 * n)
  if a < 0x80000 ∨ (0xB0000 ≤ a ∧ a < 0xC0000) ∨ (0x120000 ≤ a ∧ a < 0x130000) ∨ (0x170000 ≤ a ∧ a < 0x180000) ∨ (0x190000 ≤ a ∧ a < 0x1A0000) then
    (if 0x20000 ≤ a ∧ a < 0x30000 then
       (if a = Reg.PWR_PFCNT then all else if a = Reg.PWR_TEMP then 0xFF000000 else 0)
     else keptCore a)
  else if a = Reg.AFE_ID ∨ a = Reg.SAF_CNT ∨ a = Reg.CPL_CNT ∨ a = Reg.VPL_MATCHCNT ∨ a = Reg.NFC_TAGCNT ∨ a = Reg.NFC_LISTCNT ∨ a = Reg.BTM_HWS
      ∨ a = Reg.BTM_TAMPCNT ∨ a = Reg.NFC_TAGSTAT ∨ a = Reg.LSW_LH ∨ a = Reg.LSW_VLS then all
  else if range (Reg.AFE_CSTATE 0) 16 then (if w.toNat % 8 = 4 ∨ w.toNat % 8 = 5 then 0xF7 else 0)
  else if range (Reg.PTS_ENG 0) 2 then (if w.toNat % 8 = 7 then 0xFF07 else 0xFF00)
  else if a = Reg.PTS_CNT then 0xFFFF0000
  else if a = Reg.SAF_IN then 0x1F0000
  else if a = Reg.SWC_STAT then 0xF0F0
  else if a = Reg.LSW_STAT then 0x28000
  else if range (Reg.SWC_CYC 0) 4 || range (Reg.STG_LASTEP 0) 8 || range (Reg.AMB_NODE 0) 256 || range (Reg.AMB_NODEX 0) 256
      || range (Reg.KEY_SLOT 0) 256 || range (Reg.KEY_SLOTX 0) 256 || range (Reg.KEY_PUFBLK 0) 8 || range (Reg.LSW_CTL 0) 12
      || range (Reg.LSW_CNT 0) 12 || range (Reg.BTM_OUT 0) 5 then all
  else 0

/-- The island a register belongs to. -/
def regIsland (a : Nat) : Island := ((RegMap.rowOf (a % 0x1000000)).map (·.island)).getD .core

/-- The registers of an island reset, but for the bits they keep. -/
def resetRegs (i : Island) (s : State) : State :=
  { s with regs := s.regs.filterMap (fun e =>
      if regIsland e.1 = i then
        let m := BitVec.ofNat 32 (keptMask e.1 e.2)
        let w := (e.2 &&& m) ||| (RegMap.resetOf e.1 &&& ~~~m)
        if w = RegMap.resetOf e.1 then none else some (e.1, w)
      else some e) }

/-- The queues from one number up to another emptied. -/
def clearQueues (from_ to_ : Nat) (s : State) : State := { s with q := s.q.zipIdx.map (fun e => if from_ ≤ e.2 ∧ e.2 < to_ then [] else e.1) }

/-- The Points before metering, with what MRAM kept. -/
def PtsState.start (p : PtsState) : PtsState :=
  ⟨p.faultHours, p.due, .zero, .zero, none, 0, [], false, false, 0, [], false, false, 0, false, false⟩

/-- The billing pipeline at a start (R183): what MRAM kept. -/
def BilState.start (b : BilState) : BilState :=
  { BilState.zero with acc := b.acc, active := b.active, passive := b.passive, dmd := b.dmd, lp1 := b.lp1, lp2 := b.lp2, run1 := b.run1,
                       run2 := b.run2, history := b.history, periods := b.periods, credit := b.credit, carry := b.carry,
                       transfers := b.transfers, unsigned := b.unsigned, sessWb := b.sessWb, intWb := b.intWb,
                       sess := b.sess.filter (fun x => x.ended && x.taken), blkWin := b.blkWin, lastRate := b.lastRate,
                       signRetry := b.signRetry, catchUp := b.catchUp }

/-- What an island loses besides its registers: everything it does not keep in MRAM. -/
def islandReset (i : Island) (s : State) : State :=
  let t := resetRegs i s
  match i with
  | .core =>
    let t := { t with xings := List.replicate 21 ⟨[], []⟩, ttb := ⟨⟨[], [], 0, false⟩, ⟨[], [], 0, false⟩, ⟨[], [], 0, false⟩⟩, tok := ⟨[], []⟩,
                      parPend := [], parNext := [], corrSent := none, bil := t.bil.start, dlm := .zero, hif := [.zero, .zero], mail := .zero,
                      ses := .start t.ses.counter t.ses.rnum, x04 := [], posts := [], postOrder := 0, grpSeq := 0 }
    let t := { t with btm := { t.btm with step := none, relayOn := false, relayWait := false, relayRepeat := false, relayPend := false },
                      boot := { t.boot with erased := [] } }
    fabErase 0x10000000 0xC00000 (setMem { t.mem with moves := [], tempSum := 0, tempN := 0 } (clearQueues 28 32 t))
  | .metrology => { t with pts := t.pts.start, x00 := [], x01 := [], corrSent := none }
  | .signalBox => { t with saf := { SafState.start t.saf.record t.saf.epoch (t.saf.conns.map (fun c => .start c.epoch)) with
                                      weldCond := t.get Fd.SWC_STAT_WELD != 0 },
                           x03 := [], x04 := [], x09 := [], x19 := [] }
  | .vehicleLink => clearQueues 16 24 { t with vl := .start, x05 := [], x06 := [], x19 := [] }
  | .siteLink => clearQueues 0 16 { t with eth := .start, x09 := [] }
  | .amene => clearQueues 24 28 { t with amb := .start t.amb.hist t.amb.miss t.amb.reqs t.amb.granted, x11 := [] }
  | .service => { t with lsw := { LswState.zero with cmds := t.lsw.cmds }, lcd := .zero, nfc := { t.nfc with recent := [], card := none, snapDue := false } }
  | .grotto => { t with grt := .start t.grt.keys }
  | .battery => t

/-- The typed words that wait in the Crossings of an island. -/
def wordsHeld (i : Island) (s : State) : Nat :=
  match i with
  | .metrology => s.x00.length + s.x01.length + (if s.corrSent.isSome then 1 else 0)
  | .signalBox => s.x03.length + s.x04.length + s.x09.length + s.x19.length
  | .vehicleLink => s.x05.length + s.x06.length + s.x19.length
  | .siteLink => s.x09.length
  | .amene => s.x11.length
  | _ => 0

/-- The converters as the stored role map gives them (R92): one found faulty or withdrawn stays out. -/
def convStart (c : Nat) (s : State) : State :=
  if convState s c = 4 ∨ convState s c = 5 then s.put (Fd.AFE_CSTATE_ROLE c) 15
  else if s.afe.storedMap.contains c then setConv c 0 (s.afe.storedMap.idxOf c) s
  else setConv c 1 15 s

/-- The roles as the stored map gives them (R92): a role whose converter has failed has none. -/
def roleStart (r : Nat) (s : State) : State :=
  let c := nth s.afe.storedMap r r
  (s.put (Fd.AFE_CH_CONV r) c).putB (Fd.AFE_CH_FAULT r) (convState s c == 4 || convState s c == 5)

/-- The front end's start (R93, R94): role map and trims, samples valid, and the first rotation step. -/
def frontStart (s : State) : State :=
  match s.variant with
  | .m => s.raise Fd.AFE_STAT_READY
  | .f =>
    let t := upTo 14 roleStart (upTo 16 convStart s)
    let t := upTo 16 (fun c u => setTrim c (if s.afe.stored.isEmpty then factoryTrim s c else nth s.afe.stored c ⟨1, 0⟩) u) t
    let t := { t with afe := { t.afe with stepNo := 0, todo := [], retry := [], heal := List.replicate 16 0, laneDown := [] } }
    let t := showLanes (showSpares (((t.raise Fd.AFE_STAT_DIEPG).raise Fd.AFE_STAT_LINK).raise Fd.AFE_STAT_READY))
    if freeSpares t = [] then t
    else showStep { t.raise Fd.AFE_STAT_ROTON with afe := { t.afe with todo := cycleRoles t } }

/-- The boot self-tests of the engines (R144): bit e of bad is set when engine e has failed. -/
def bootTests (bad : Nat) (s : State) : State :=
  upTo 2 (fun e t => (modRail e (fun r => { r with bootFail := bad.testBit e }) t).put (Fd.PTS_ENG_FAULTS e) (min (faultCount t e) 255)) s

/-- The trip comparators armed (R93, R298, R547): with the safety set when it is in force, with the defaults until then. -/
def tripArm (s : State) : State :=
  if s.isF then
    let v := fun p => if causeOn s 17 then (ParamMap.default p).toNat else s.parN p
    upTo 4 (fun k t => (t.put (Fd.EFT_TRIPCFG_LEVEL k) (v (Par.TRIP_LVL k))).put (Fd.EFT_TRIPCFG_EN k) (v (Par.TRIP_EN k))) s
  else s

/-- The Vehicle link's start (R310, R326): the Signal Box's demand reaches it again over X19. -/
def vehicleStart (s : State) : State :=
  let t := s.raise Fd.VPL_STAT_READY
  let t := if t.parN Par.PP_MODE = 0 then (t.put Fd.CPL_STAT_PPCODE 15).setRegN Reg.CPL_PPRES 0xFFFFFFFF else t
  { t with x19 := t.x19 ++ [t.get Fd.SAF_OUT_PILOT] }

/-- The Site link's start (R395, R414). -/
def siteStart (s : State) : State :=
  ((s.put Fd.ETH_STAT_TOPO (s.parN Par.ETH_TOPO)).setRegN Reg.ETH_GRP (s.parN Par.GRP_ADDR)).setRegN Reg.PTP_UTC (s.parN Par.PTP_UTCOFS)

/-- The Amene island's start (R447): the stored nodes are polled as joined. -/
def ameneStart (s : State) : State :=
  let role := s.parN Par.AMB_ROLE
  let t := ((s.put Fd.AMB_STAT_ROLE role).putB Fd.AMB_STAT_READY (role != 0)).putB Fd.AMB_STAT_SHARE (sharing s)
  if role = 2 then nodesShow t else t

/-- The Service island's start (R490, R511, R530, R644). -/
def serviceStart (s : State) : State :=
  let t := nfcStart (setLcd { s.lcd with crc := s.regN Reg.SAF_CRC } s)
  lsFollowAll (t.putB Fd.LSW_STAT_LIMP (t.on Fd.LSW_STAT_LIMPIN))

/-- An island leaves reset (R644): bad are the engines whose boot self-test has failed. -/
def islandStart (i : Island) (bad : Nat) (s : State) : State :=
  match i with
  | .metrology => frontStart (bootTests bad s)
  | .vehicleLink => vehicleStart s
  | .siteLink => siteStart s
  | .amene => ameneStart s
  | .service => serviceStart s
  | _ => s

end Sys2Proof.Machine
end

