-- ==== Sys2Proof/Machine/Faults.lean ====
section
/-!
DEFINITION. Faults of islands and of the module, and resets of the application cores (spec/24_faults_ordering.md R643 to R646,
spec/20_power_clocks_reset.md R582, R583, R587).
-/
namespace Sys2Proof.Machine

/-- HELD and the clock state of an island shown. -/
def heldShow (i : Island) (b : Bool) (s : State) : State :=
  (s.putBit Reg.SYS_FLT i.num b).put (Fd.CLK_ISL_STATE i.num) (if b then 3 else 0)

/-- The words waiting to and from an island discarded and counted (R646). -/
def flushIsland (i : Island) (s : State) : State := xingFlushAll i (s.bump (Fd.SYS_FLTCNT_FLUSHED i.num) (wordsHeld i s))

/-- What the rest of the module meets when an island is held (R644): the session loses its link, the billing clock its PTP lock. -/
def heldNotice (i : Island) (s : State) : State :=
  match i with
  | .vehicleLink => sesReport .linkFail s
  | .siteLink => s.lower Fd.BTM_STAT_PTPLOCK
  | _ => s

/-- An island held in reset (R644, R646, R649). -/
def holdIsland (i : Island) (s : State) : State :=
  let t := islandReset i (tokIslandHeld i (flushIsland i (heldNotice i s)))
  heldShow i true (if i = .service then nfcHeld t else t)

/-- The Signal Box held (R239, R644): everything off until the next start; its registers keep what they show. -/
def holdSignalBox (s : State) : State :=
  let t := flushIsland .signalBox s
  heldShow .signalBox true (allOff { t with x03 := [], x04 := [], x09 := [], x19 := [] })

/-- A reset without the save of R223 (R575, R585): what is pending is lost, and the outputs fall at once. -/
def resetUnsaved (code : Nat) (s : State) : State :=
  let t := outageBegin 0xFFFFFFFF { s with bil := { s.bil with pend := [], due := [], stopped := true } }
  setPow { t.pow with saving := false, cause := code } (islandReset .signalBox t)

/-- A module fault (R645): the save runs when the Core island and the MRAM write port are healthy and it completes. A module that is already
down keeps its cause. -/
def moduleStop (code late : Nat) (save : Option Nat) (s : State) : State :=
  if s.pow.cause ≠ 0 ∨ s.pow.saved then s
  else
    match save with
    | some _ =>
      let t := powerSave late save s
      setPow { t.pow with cause := code } (islandReset .signalBox t)
    | none => resetUnsaved code s

/-- The restarts of an island in the last 600 s (R645). -/
def recentRestarts (i : Island) (s : State) : Nat :=
  (s.pow.restarts.filter (fun e => e.1 == i.num && decide (s.regN Reg.SYS_UPTIME ≤ e.2 + 600))).length

/-- A fault of an island (R644, R645), with the cause of SYS_FLTLAST; during a save the island is held and the save goes on (R588). -/
def islandFault (i : Island) (cause late : Nat) (save : Option Nat) (s : State) : State :=
  if s.held i then s
  else
    match i with
    | .core => 
      let t := faultNote 4 .core cause s
      if t.pow.cause ≠ 0 ∨ t.pow.saved then t else resetUnsaved (if cause = 1 then 7 else 8) t
    | .signalBox => holdSignalBox (faultNote 3 .signalBox cause s)
    | .battery => heldShow .battery true (faultNote 3 .battery cause s)
    | .grotto =>
      if s.pow.saving then holdIsland .grotto (faultNote 3 .grotto cause s)
      else moduleStop 8 late save (holdIsland .grotto (faultNote 4 .grotto cause s))
    | _ =>
      if s.pow.saving then holdIsland i (faultNote 3 i cause s)
      else if 2 ≤ recentRestarts i s then
        let t := moduleStop 8 late save (holdIsland i (faultNote 4 i 7 s))
        setPow { t.pow with suspect := some i.num } t
      else
        let t := holdIsland i (faultNote 3 i cause s)
        if t.pow.suspect = some i.num then t else setPow { t.pow with suspect := none } t

/-- Whether a held island stays held until the next start: the Signal Box, and an island whose third restart caused the last start and that
has faulted again within 600 s of it (R645). -/
def heldForGood (i : Island) (s : State) : Bool :=
  i == .signalBox || s.pow.suspect == some i.num || !s.bitOf Reg.CLK_STAT i.num

/-- A held island leaves reset (R644): bad are the engines whose boot self-test has failed. -/
def islandBack (i : Island) (bad : Nat) (s : State) : State :=
  let t := heldShow i false (xingRestore i (s.bump (Fd.SYS_FLTCNT_RESTARTS i.num)))
  islandStart i bad (setPow { t.pow with restarts := (i.num, t.regN Reg.SYS_UPTIME) :: t.pow.restarts } t)

/-- The islands that a Crossing's loss is a fault of (R644), in number order. -/
def xingJoined (x : Nat) : List Island :=
  let e := xingEnds x
  (if e.1.num ≤ e.2.num then [e.1, e.2] else [e.2, e.1]).filter (· != .signalBox)

/-- The session that runs in the Core firmware, lost with it: no end and no Waybill. -/
def sesLost (s : State) : State :=
  let t := tokGive 0 1 (tokGive 1 0 s)
  let gone := fun (a : Nat) => decide (Reg.SES_STAT ≤ a) && decide (a < Reg.SES_CONV 32) && !([Reg.SES_EVT, Reg.SES_ILIM, Reg.SES_CONVCNT].contains a)
  { t with regs := t.regs.filter (fun e => !gone e.1),
           bil := { t.bil with sess := t.bil.sess.filter (·.ended) },
           ses := { SesState.start t.ses.counter t.ses.rnum with lastPilot := t.ses.lastPilot } }

/-- The application cores stop and start (R564 steps 2 to 4): associations dropped, the mailbox emptied (R638). -/
def coresDown (s : State) : State :=
  let t := sesLost (dlmPowerFail (s.bump Fd.SYS_STARTS_CORES))
  clearQueues 28 32 { t with mail := .zero }

/-- A reset of the application cores with a code of R585, counted for R587. -/
def coresReset (code : Nat) (s : State) : State :=
  let t := (s.put Fd.SYS_RSTCAUSE_PREV (s.get Fd.SYS_RSTCAUSE_LAST)).put Fd.SYS_RSTCAUSE_LAST code
  setPow { t.pow with coreResets := t.regN Reg.SYS_UPTIME :: t.pow.coreResets } (coresDown t)

/-- The spare of an island's clock brought in (R583), or none works. -/
def clockSpare (i : Island) (ok : Bool) (s : State) : State :=
  if ok then
    let t := (((s.put (Fd.CLK_ISL_SRC i.num) 1).putBit Reg.CLK_STAT (16 + i.num) true).putBit Reg.CLK_STAT i.num true).raise Fd.CLK_EVT_SWITCH
    faultNote 1 i 1 t
  else faultNote 1 i 1 ((s.raise Fd.CLK_EVT_NOSPARE).put (Fd.CLK_ISL_STATE i.num) 2)

/-- A faulty clock of an island but Battery (R582, R583). -/
def clockFault (i : Island) (spareOk : Bool) (late : Nat) (save : Option Nat) (s : State) : State :=
  let ok := spareOk && s.get (Fd.CLK_ISL_SRC i.num) == 0
  let t := (s.raise Fd.CLK_EVT_FAULT).putBit Reg.CLK_STAT i.num false
  match i with
  | .battery => s
  | .signalBox =>
    let t := islandFault .signalBox 1 late save (t.put (Fd.CLK_ISL_STATE 2) 2)
    if ok then setPow { t.pow with sigSpare := true } t else faultNote 1 .signalBox 1 (t.raise Fd.CLK_EVT_NOSPARE)
  | _ => clockSpare i ok (islandFault i 1 late save t)

/-- LOCKSTEP_FAULT (R239, R644). -/
def execLockstepFault (s : State) : Ans := .next (islandFault .signalBox 4 0 none s)

/-- CROSSING_LOSS_DETECT (R32, R644). -/
def execCrossingLossDetect (x late : Nat) (save : Option Nat) (s : State) : Ans :=
  .next (if x < 21 then
      (xingJoined x).foldl (fun t i => islandFault i 3 late save t) (s.lower (Fd.SYS_XSTAT_NOOVF x))
    else s)

/-- ISLAND_FAULT (R643, R644): the island's fault with its cause, the records read after a save's intake stops, and the duration of the
save, if one completes. -/
def execIslandFault (i : Island) (cause late : Nat) (save : Option Nat) (s : State) : Ans := .next (islandFault i cause late save s)

/-- ISLAND_RESTART_DONE (R644): the island leaves reset; bad are the engines whose boot self-test has failed. -/
def execIslandRestartDone (i : Island) (bad : Nat) (s : State) : Ans :=
  .next (if s.held i && !heldForGood i s && i != .battery then islandBack i bad s else s)

/-- MODULE_FAULT (R643, R645): the island it is found in, its cause. -/
def execModuleFault (i : Island) (cause late : Nat) (save : Option Nat) (s : State) : Ans :=
  .next (moduleStop 8 late save (faultNote 4 i cause s))

/-- CLOCK_FAULT (R582, R583): whether the island's spare runs. -/
def execClockFault (i : Island) (spareOk : Bool) (late : Nat) (save : Option Nat) (s : State) : Ans :=
  .next (clockFault i spareOk late save s)

/-- The Battery island's own clock lost (R219): while the Core island runs the billing clock jumps to HWS + 1 at its next second; otherwise,
or when no tick has been read since the start, it reads that from then on. -/
def clockLost (s : State) : State :=
  let t := (s.raise Fd.BTM_EVT_CLKLOST).lower Fd.BTM_STAT_VALID
  let target := s.regN Reg.BTM_HWS + 1
  let d : Int := (target : Int) - (s.regN Reg.BTM_TIME + 1 : Nat)
  if !s.running then setPow { t.pow with clkNote := true } (t.setRegN Reg.BTM_TIME target)
  else if s.bil.ticked then { t with btm := { t.btm with step := some ⟨d, target, 4, false, true⟩ } }
  else logWrite 0x0104 4 (s.regN Reg.BTM_HWS) { t.setRegN Reg.BTM_TIME target with bil := { t.bil with tickSec := target } }

/-- BATTERY_ISLAND_RESTART (R219, R644): held by its fault, the Battery island restarts alone; its tamper buffer is lost. -/
def execBatteryIslandRestart (s : State) : Ans :=
  let t := if s.held .battery then heldShow .battery false (s.bump (Fd.SYS_FLTCNT_RESTARTS 8)) else s
  let t := clockLost { t with btm := { t.btm with tampBuf := [], tampLost := 0, polls := [false, false], slew := 0 } }
  .next (if s.running then logWrite 0x0305 4 0xFFFFFFFF t else { t with btm := { t.btm with tampLost := 0xFFFFFFFF } })

end Sys2Proof.Machine
end

