-- ==== Sys2Proof/Machine/Power.lean ====
section
/-!
DEFINITION. Supplies, resets, the Battery island's crystal, and the die temperature (spec/20_power_clocks_reset.md R571 to R588,
spec/26_electrical.md R668, spec/06_billing_time_events.md R219, R224, R226, R229).
-/
namespace Sys2Proof.Machine

/-- The rails that the module generates shown. -/
def railsShow (b : Bool) (s : State) : State :=
  (((s.putB Fd.PWR_STAT_VIOOK b).putB Fd.PWR_STAT_V18OK b).putB Fd.PWR_STAT_VCOREOK b).putB Fd.PWR_STAT_V33OK b

/-- The Battery island starts after it has lost power (R219, R585): everything it holds is lost, and the clock reads HWS + 1. -/
def batteryCold (s : State) : State :=
  let t := resetRegs .battery s
  let outage := t.btm.outage.map (fun o => { o with incomplete := true })
  let t := { t with btm := { t.btm with tempTrim := 0, slew := 0, polls := [false, false], tampBuf := [], tampLost := 0, outage := outage },
                    nfc := { t.nfc with day := 0, used := 0, deaf := false } }
  clockLost (setPow { t.pow with dark := false } t)

/-- VSYS rises (R571 steps 1 and 2): PFW_N is driven low until VSYS has reached the level of step 3. -/
def supplyRise (mv : Nat) (s : State) : State :=
  let cause := if s.pow.dark then 1 else if s.pow.cause = 0 then 2 else s.pow.cause
  let t := (if s.pow.dark then batteryCold s else s).put (Fd.CLK_ISL_STATE 0) 0
  let t := vsysShow mv ((railsShow true t).lower Fd.PWR_STAT_ONBAT)
  setPow { t.pow with cause := cause } (t.putB Fd.PWR_STAT_PFW (decide (mv < t.parN Par.PFW_LVL + 500)))

/-- The warning released (R573): Tokens are granted again unless a save or a reset keeps PFW_N low. -/
def warningRelease (mv : Nat) (s : State) : State :=
  let t := vsysShow mv (s.lower Fd.PWR_STAT_PFW)
  if t.pfw then t else t.lower Fd.TOK_STAT_PFBLOCK

/-- PFW_N has been released for 200 ms after the save (R224): late and dur are the save's, when it completed meanwhile. -/
def saveRestart (late dur : Nat) (s : State) : State :=
  let t := if s.pow.saving then saveRun late dur s else s
  setPow { t.pow with cause := if t.pow.cause = 0 then 3 else t.pow.cause } t

/-- A brown-out (R574, R575, R588): ms since the last assertion of the warning. -/
def brownOut (ms : Nat) (s : State) : State :=
  let failed := s.running || s.pow.saving
  let cause := if s.pow.saved then 0 else if failed then 4 else s.pow.cause
  let t := ((s.raise Fd.PWR_EVT_BOR).bump Fd.PWR_PFCNT_BORS).put Fd.PWR_HOLD_HOLDMS (min ms 0xFFFF)
  let t := if failed then { (t.raise Fd.PWR_EVT_HOLDFAIL) with bil := { t.bil with pend := [], due := [], stopped := true } } else t
  let t := if t.btm.outage.isSome then t else outageBegin 0xFFFFFFFF t
  let t := islandReset .signalBox ((railsShow false t).lower Fd.PWR_STAT_VISOOK)
  let t := ((t.lower Fd.PWR_STAT_PG).lower Fd.PWR_STAT_PFW).raise Fd.PWR_STAT_ONBAT
  tagSupply (setPow { t.pow with saving := false, saved := false, cause := cause, dark := decide (t.get Fd.PWR_VBAT_OPEN < 2000) } t)

/-- A reset with the save of R223 (R585, R586): RESET_N's code 5 stands over a host's. -/
def resetSaved (code late : Nat) (save : Option Nat) (s : State) : State :=
  if s.running || s.pow.saving || s.pow.saved then
    let t := powerSave late save s
    setPow { t.pow with cause := if t.pow.resetLow then 5 else code } (islandReset .signalBox t)
  else s

/-- An overtemperature shutdown (R668). -/
def dieShutdown (late : Nat) (save : Option Nat) (s : State) : State :=
  let t := faultOther 4 .core ((s.raise Fd.PWR_TEMP_HOT).raise Fd.PWR_TEMPEVT_SHUT)
  let t := moduleStop 8 late save t
  setPow { t.pow with hot := true } t

/-- VBAT measured without load (R229, R577). -/
def vbatMeasure (mv : Nat) (s : State) : State :=
  let t := s.put Fd.PWR_VBAT_OPEN (min mv 0xFFFF)
  let t := if mv < 2500 then t.raise Fd.PWR_EVT_NOBAT else t
  let t := t.putB Fd.BTM_STAT_BATLOW (decide (mv < 2800))
  let t := if mv < 2700 then { t with btm := { t.btm with outage := t.btm.outage.map (fun o => { o with incomplete := true }) } } else t
  tagSupply (if mv < 2000 ∧ !t.on Fd.PWR_STAT_VIOOK then setPow { t.pow with dark := true } t else t)

/-- The Battery crystal is lost (R584): the clock runs on from the RC fallback. -/
def crystalLost (s : State) : State :=
  let t := ((s.raise Fd.CLK_EVT_XBFAIL).raise Fd.BTM_EVT_CLKLOST).lower Fd.BTM_STAT_VALID
  if s.running then logWrite 0x0104 4 (t.regN Reg.BTM_HWS) t else setPow { t.pow with clkNote := true } t

/-- The spare cell runs (R584): the error of the clock, in ms, is absorbed as a slew. -/
def crystalBack (err : Int) (s : State) : State :=
  let t := clockSpare .battery true s
  if err = 0 then t
  else if s.running then startSlew 4 err t
  else ({ t with btm := { t.btm with slew := err * 5 } }.setRegI Reg.BTM_SLEWREM err).raise Fd.BTM_STAT_SLEW

/-- The result of R581: the cycles counted in 1,000 s at a die temperature in 0.1 °C, as the crystal's offset in 0.01 ppm. -/
def crystalMeasure (cycles : Nat) (temp : Int) (s : State) : State :=
  let d := temp - s.par Par.XB_T0
  let off := ((cycles : Rat) - 32768000) / 32768000 * 100000000 - (s.par Par.XB_BETA : Rat) * ((d * d : Int) : Rat) / 1000
  s.setRegI Reg.CLK_XBMEAS (Exact.toInt off)

/-- VSYS_RISE (R571): VSYS in mV. -/
def execVsysRise (mv : Nat) (s : State) : Ans := .next (if s.on Fd.PWR_STAT_VIOOK then s else supplyRise mv s)

/-- POWER_FAIL_RELEASE (R573): VSYS in mV. -/
def execPowerFailRelease (mv : Nat) (s : State) : Ans := .next (if s.on Fd.PWR_STAT_PFW then warningRelease mv s else s)

/-- SAVE_RESTART (R224). -/
def execSaveRestart (late dur : Nat) (s : State) : Ans :=
  .next (if (s.pow.saved || s.pow.saving) && !s.on Fd.PWR_STAT_PFW then saveRestart late dur s else s)

/-- BROWN_OUT (R574): the ms from the last assertion of the warning. -/
def execBrownOut (ms : Nat) (s : State) : Ans := .next (if s.on Fd.PWR_STAT_VIOOK then brownOut ms s else s)

/-- RESET_N_REQUEST (R586). -/
def execResetNRequest (late : Nat) (save : Option Nat) (s : State) : Ans :=
  .next (resetSaved 5 late save (setPow { s.pow with resetLow := true } s))

/-- RESET_N_RELEASE (R586). -/
def execResetNRelease (s : State) : Ans := .next (setPow { s.pow with resetLow := false } s)

/-- HOST_MODULE_RESET (R585): a host write of SYS_RSTCTL.MODULE. -/
def execHostModuleReset (p : Path) (late : Nat) (save : Option Nat) (s : State) : Ans := .next (hostOwn p 2 (resetSaved 6 late save) s)

/-- DIE_TEMPERATURE_WARM (R668). -/
def execDieTemperatureWarm (s : State) : Ans := .next (tokBudgets ((s.raise Fd.PWR_TEMP_WARM).raise Fd.PWR_TEMPEVT_WARM))

/-- DIE_TEMPERATURE_COOL (R668). -/
def execDieTemperatureCool (s : State) : Ans := .next (if s.on Fd.PWR_TEMP_WARM then tokBudgets (s.lower Fd.PWR_TEMP_WARM) else s)

/-- DIE_TEMPERATURE_SHUTDOWN (R668). -/
def execDieTemperatureShutdown (late : Nat) (save : Option Nat) (s : State) : Ans := .next (dieShutdown late save s)

/-- DIE_COOLED_RESTART (R668): the start that is due may follow. -/
def execDieCooledRestart (s : State) : Ans := .next (setPow { s.pow with hot := false } (s.lower Fd.PWR_TEMP_HOT))

/-- VBAT_MEASURE (R577). -/
def execVbatMeasure (mv : Nat) (s : State) : Ans := awake .battery s <| .next (vbatMeasure mv s)

/-- BATTERY_CRYSTAL_FAULT (R584). -/
def execBatteryCrystalFault (s : State) : Ans :=
  .next (((s.raise Fd.CLK_EVT_FAULT).putBit Reg.CLK_STAT 8 false).put (Fd.CLK_ISL_SRC 8) 2)

/-- BATTERY_SPARE_RETURN (R584): whether the spare cell runs within 2 s, and the clock's error in ms at the return. -/
def execBatterySpareReturn (ok : Bool) (err : Int) (s : State) : Ans :=
  .next (if s.get (Fd.CLK_ISL_SRC 8) = 2 then (if ok then crystalBack err s else crystalLost s) else s)

/-- A measurement of the crystal begun (R581). -/
def xbStart (s : State) : State := setPow { s.pow with xbCal := true } s

/-- XB_CALIBRATE (R581): a host write of CLK_CTL.XBCAL. -/
def execXbCalibrate (p : Path) (s : State) : Ans := .next (hostOwn p 1 xbStart s)

/-- XB_CALIBRATE_DONE (R581): the cycles counted, none when an edge is missing, and the die temperature in 0.1 °C. -/
def execXbCalibrateDone (cycles : Option Nat) (temp : Int) (s : State) : Ans :=
  .next (if s.pow.xbCal then
      let t := setPow { s.pow with xbCal := false } s
      match cycles with
      | some n => crystalMeasure n temp t
      | none => t
    else s)

/-- TAMPER_POLL (R226, R227): whether TMP_COVER and TMP_TERM read open. -/
def execTamperPoll (cover term : Bool) (s : State) : Ans := awake .battery s <|
  .next (if s.pow.dark then s
    else
      let t := tamperPoll 1 term (tamperPoll 0 cover s)
      if t.running then sesDisconnect (discUpdate 4 3 t) else t)

end Sys2Proof.Machine
end

