-- ==== Sys2Proof/Machine/TimetableOps.lean ====
section
/-!
DEFINITION. The Timetable (spec/01_architecture.md R36 to R45): reloading the budgets at the start of a period, and the grant of
one slot. Resources are numbered 0 fabric, 1 crypto engine, 2 MRAM write port, and classes as in R38.
-/
namespace Sys2Proof.Machine

/-- Slots per period of a resource (R37). -/
def ttbSlots : Nat → Nat
  | 0 => 200
  | _ => 100

/-- The running period of a resource. -/
def ttbRes (s : State) : Nat → TtbRes
  | 0 => s.ttb.fabric
  | 1 => s.ttb.crypto
  | _ => s.ttb.mram

/-- The running period of a resource replaced. -/
def setTtbRes (s : State) (k : Nat) (r : TtbRes) : State :=
  match k with
  | 0 => { s with ttb := { s.ttb with fabric := r } }
  | 1 => { s with ttb := { s.ttb with crypto := r } }
  | _ => { s with ttb := { s.ttb with mram := r } }

/-- The index of TTB_BUD and TTB_USE for a resource and a class. -/
def ttbIdx (k c : Nat) : Nat := 16 * k + c

/-- The budget in force of a class. -/
def ttbBudget (s : State) (k c : Nat) : Nat := s.get (Fd.TTB_BUD_BUDGET (ttbIdx k c))

/-- Whether a class's budget is a floor budget. -/
def ttbFloor (s : State) (k c : Nat) : Bool := s.on (Fd.TTB_BUD_FLOOR (ttbIdx k c))

/-- Whether the MRAM write port is in power-fail mode (R43). -/
def ttbPf (s : State) (k : Nat) : Bool := k == 2 && s.on Fd.TTB_STAT_PFMODE

/-- The use of the period that ends noted for one class (index 9: lent slots): LAST, MAX, and DENY when a request of the class
waits, its bit in waiting set, with its budget spent. -/
def ttbNoteUse (k waiting : Nat) (r : TtbRes) (c : Nat) (s : State) : State :=
  let u := nth r.used c 0
  let t := (s.put (Fd.TTB_USE_LAST (ttbIdx k c)) u).put (Fd.TTB_USE_MAX (ttbIdx k c))
    (max (s.get (Fd.TTB_USE_MAX (ttbIdx k c))) u)
  if c < 9 && waiting.testBit c && nth r.remaining c 0 == 0 && !ttbPf s k then t.bump (Fd.TTB_USE_DENY (ttbIdx k c)) else t

/-- The start of a period (R39): every remaining budget loaded from its budget, after the use of the period before is noted. -/
def ttbPeriod (k waiting : Nat) (s : State) : State :=
  let r := ttbRes s k
  let t := if r.begun then upTo 10 (ttbNoteUse k waiting r) s else s
  setTtbRes t k ⟨(List.range 9).map (ttbBudget t k), List.replicate 10 0, 0, true⟩

/-- What a slot is granted to. -/
inductive SlotGrant where
  | toClass (c : Nat)
  | lent
  | idle
  deriving DecidableEq, Repr

/-- The rule of R40, and of R43 while the MRAM write port is in power-fail mode, for the next slot of a resource; waiting has the
bit of each class with a request waiting. -/
def slotDecide (s : State) (k waiting : Nat) : SlotGrant :=
  let r := ttbRes s k
  let left := ttbSlots k - 1 - r.slot
  if ttbPf s k then
    if waiting.testBit 2 then .toClass 2 else if waiting.testBit 0 then .toClass 0 else .idle
  else
    let cand := (List.range 9).filter (fun c => waiting.testBit c && decide (0 < nth r.remaining c 0))
    let floors := (((List.range 9).filter (ttbFloor s k)).map (fun c => nth r.remaining c 0)).sum
    let all := ((List.range 9).map (fun c => nth r.remaining c 0)).sum
    match cand.filter (ttbFloor s k), cand with
    | c :: _, _ => .toClass c
    | [], c :: _ =>
      if floors ≤ left then .toClass c
      else if waiting.testBit 8 && decide (all ≤ left) then .lent else .idle
    | [], [] => if waiting.testBit 8 && decide (all ≤ left) then .lent else .idle

/-- The slot taken: a grant uses it and, a lent slot and power-fail mode apart, costs its class one slot of budget. -/
def slotTake (k : Nat) (g : SlotGrant) (s : State) : State :=
  let r := ttbRes s k
  let use := fun i => setNth r.used i (nth r.used i 0 + 1)
  match g with
  | .toClass c =>
    let rem := if ttbPf s k then r.remaining else setNth r.remaining c (nth r.remaining c 0 - 1)
    setTtbRes s k ⟨rem, use c, r.slot + 1, r.begun⟩
  | .lent => setTtbRes s k ⟨r.remaining, use 9, r.slot + 1, r.begun⟩
  | .idle => setTtbRes s k ⟨r.remaining, r.used, r.slot + 1, r.begun⟩

/-- The use statistics cleared (spec/01_architecture.md, TTB_CLR): MAX and DENY of every TTB_USE. -/
def ttbClearUse (s : State) : State :=
  upTo 42 (fun n t => (t.lower (Fd.TTB_USE_MAX n)).lower (Fd.TTB_USE_DENY n)) s

/-- The budgets of the parameters when they pass R45, else the defaults of R38 with CFGDEF set. -/
def ttbConfigure (s : State) : State :=
  let want (k c : Nat) : Nat :=
    match k with
    | 0 => s.parN (Par.FAB_BUD c)
    | 1 => s.parN (Par.CRY_BUD c)
    | _ => s.parN (Par.MRW_BUD c)
  let okClass (k c : Nat) : Bool :=
    (!RegMap.budgetFloor k c || decide (RegMap.budgetDefault k c ≤ want k c))
      && (decide (RegMap.budgetDefault k c ≠ 0) || decide (want k c = 0))
  let ok := (List.range 3).all (fun k =>
    decide (((List.range 9).map (want k)).sum = ttbSlots k) && (List.range 9).all (okClass k))
  let value (k c : Nat) : Nat := if ok then want k c else RegMap.budgetDefault k c
  (upTo 3 (fun k t => upTo 9 (fun c u => u.put (Fd.TTB_BUD_BUDGET (ttbIdx k c)) (value k c)) t) s).putB
    Fd.TTB_STAT_CFGDEF (!ok)

/-- TIMETABLE_PERIOD_START (R39): a period of resource k starts; waiting has the bit of each class whose request waited at the end
of the period before. -/
def execTimetablePeriodStart (k waiting : Nat) (s : State) : Ans :=
  .next (if k < 3 then ttbPeriod k waiting s else s)

/-- USE_STATS_CLEAR: a host write of TTB_CLR.CLRUSE. -/
def execUseStatsClear (p : Path) (s : State) : Ans := .next (hostOwn p 1 ttbClearUse s)

end Sys2Proof.Machine
end

