-- ==== Sys2Proof/Machine/Start.lean ====
section
/-!
DEFINITION. The start of the module (spec/18_boot_configuration.md R541 to R549, spec/20_power_clocks_reset.md R585, and what the other chapters say
happens at a start).
-/
namespace Sys2Proof.Machine

/-- Every island but Battery reset (R585). -/
def modulesReset (s : State) : State :=
  ([Island.core, .metrology, .signalBox, .vehicleLink, .siteLink, .amene, .service, .grotto]).foldl (fun t i => islandReset i t) s

/-- Whether a start follows a module fault for the restart limit (R645). -/
def limitStart (s : State) : Bool := s.pow.cause == 8 && s.get Fd.SYS_FLTLAST_CLASS == 4 && s.get Fd.SYS_FLTLAST_CAUSE == 7

/-- The reset's cause, the start's count, and power-good shown (R546 step 1, R585). -/
def startCause (again : Bool) (s : State) : State :=
  let code := s.pow.cause
  let t := (s.put Fd.SYS_RSTCAUSE_PREV (s.get Fd.SYS_RSTCAUSE_LAST)).put Fd.SYS_RSTCAUSE_LAST code
  let t := ((t.bump Fd.SYS_STARTS_MODULE).raise Fd.PWR_STAT_PG).putB Fd.PWR_STAT_VISOOK t.isF
  let t := (t.put Fd.PWR_VSYS_MIN (t.get Fd.PWR_VSYS_MV)).setRegN Reg.SYS_UPTIME 0
  setPow { t.pow with saving := false, saved := false, cause := 0, coreResets := [], restarts := [],
                      suspect := if again then t.pow.suspect else none, xbCal := false } t

/-- The clocks at a start (R582, R583): the Signal Box's spare is selected when one was brought in, and the frequencies are shown. -/
def startClocks (freqs : List Nat) (s : State) : State :=
  let t := if s.pow.sigSpare then
      setPow { s.pow with sigSpare := false } (((s.put (Fd.CLK_ISL_SRC 2) 1).putBit Reg.CLK_STAT 18 true).raise Fd.CLK_EVT_SWITCH)
    else s
  let t := t.put Fd.CLK_STAT_OK (if t.get (Fd.CLK_ISL_SRC 8) = 2 then 0xFF else 0x1FF)
  upTo 9 (fun i u => u.put (Fd.CLK_ISL_FREQ i) (nth freqs i 0)) t

/-- A rejected candidate's code shown (SYS_BOOTREJ). -/
def rejectShow (s : State) (e : Nat × Nat) : State :=
  let f := if e.1 = 1 then Fd.SYS_BOOTREJ_SLOTA else if e.1 = 2 then Fd.SYS_BOOTREJ_SLOTB else Fd.SYS_BOOTREJ_MRAM
  (s.put f e.2).raise Fd.SYS_CFGEVT_REJECT

/-- The values in force (R549): OTP for the factory layer, then the overlay's, the image's, and the defaults. -/
def parsInForce (vals : List (Nat × Int)) (s : State) : State :=
  let own := s.params.filter (fun e => match ParamMap.rowFor e.1 with
    | some r => decide (r.layer = .factory)
    | none => false)
  let t := setBoot { s.boot with image := vals } { s with params := own }
  let t := (vals ++ overlayLive t).foldl (fun u e => u.setPar e.1 e.2) t
  setBoot { t.boot with evseMax := t.parN Par.EVSE_PMAX } t

/-- Whether the set with the overlay passes what the image alone passes (R543 codes 11 and 12, R549). -/
def overlayOk (vals : List (Nat × Int)) (s : State) : Bool :=
  let t := setBoot { s.boot with image := vals } s
  (overlayLive t).all (fun e => match ParamMap.rowFor e.1 with
    | some r => Rules.inRange r.range e.2
    | none => false) && Rules.allOk s.variant (nextStart t)

/-- The parameters of an image in force, with the overlay's entries unless they break a check. -/
def imageParams (vals : List (Nat × Int)) (s : State) : State :=
  let t := if overlayOk vals s then s
    else (setBoot { s.boot with overlay := [] } s).raise Fd.SYS_CFGEVT_OVLDROP
  let t := parsInForce vals t
  let seq := t.regN Reg.SYS_IMGSEQ
  overlayShow (setBoot { t.boot with overlay := t.boot.overlay.map (fun e => { e with waits := e.waits && e.seq != seq }) } t)

/-- The image in force shown. -/
def imageShow (src : Nat) (b : List Byte) (s : State) : State :=
  let h := imgHash b
  let t := (s.setRegN Reg.SYS_IMGSEQ (numAt b 12 4)).put Fd.SYS_BOOT_SRC src
  let t := upTo 12 (fun w u => u.setRegN (Reg.SYS_IMGHASH w) (numAt h (4 * w) 4)) t
  if src = 3 then t.raise Fd.SYS_CFGEVT_FALLBACK else t

/-- Steps 1 and 2 of R545 at the first acceptance of an image: its copy, the record, the overlay discarded. -/
def imageRecord (b : List Byte) (s : State) : State :=
  let key := imgKeyHash b
  let next := (b.drop 144).take 48
  let half := match s.boot.record with
    | some r => 1 - r.half
    | none => 0
  let t := tokGive 7 0 (tokRequest 7 0 0 s).2
  let t := match s.boot.record with
    | some r => if key == r.keyHash then t else t.raise Fd.SYS_CFGEVT_KEYROLL
    | none => t.raise Fd.SYS_CFGEVT_KEYENROL
  setBoot { t.boot with record := some ⟨key, next, numAt b 12 4, imgHash b, half, false⟩, overlay := [],
                        halves := setNth t.boot.halves half b, badHalf := setNth t.boot.badHalf half false } t

/-- Whether an image is accepted for the first time (R545). -/
def imageFirst (b : List Byte) (s : State) : Bool :=
  match s.boot.record with
  | some r => decide (r.seq < numAt b 12 4)
  | none => true

/-- Steps 3 to 5 of R545: the tariff table, the card list, APPLIED. -/
def imageApply (b : List Byte) (s : State) : State :=
  let t := match (imgSection b 2).bind tariffOf with
    | some x => (submitTable 0 x s).2
    | none => s
  let t := match (imgSection b 3).bind cardListOf with
    | some l => setList l t
    | none => t
  (setBoot { t.boot with record := t.boot.record.map (fun r => { r with applied := true }) } t).raise Fd.SYS_CFGEVT_FIRST

/-- APPLIED shown. -/
def appliedShow (s : State) : State :=
  s.putB Fd.SYS_BOOT_APPLIED (match s.boot.record with
    | some r => r.applied
    | none => false)

/-- The image chosen and its parameters in force (R542 to R545 step 2, R549): with none, the module is unconfigured and runs on defaults (R544). -/
def imageTake (flash : Bool) (s : State) : State × Option (List Byte) :=
  let x := chooseImage s flash (candidates s)
  let t := x.2.foldl rejectShow s
  match x.1 with
  | none => (parsInForce [] (t.put Fd.SYS_BOOT_STATE 2), none)
  | some src =>
    let b := imgBytes t src 0 (imgLen t src)
    let t := imageShow src b t
    let t := if imageFirst b t then imageRecord b t else t
    (imageParams (match imgRecords b with
      | some l => parsValues l
      | none => []) t, some b)

/-- The Signal Box receives its set (R257, R261, R265): a set that is not confirmed sets CONFIG, and an unconfigured module too. -/
def safetyStart (seals : Nat) (s : State) : State :=
  let sum := Rules.checkValue s.variant s.par
  let t := (s.setRegN Reg.SAF_CRC sum).setRegN Reg.SAF_CRCCONF (match s.saf.record with
    | some r => r.1
    | none => 0)
  let mode := match s.saf.record with
    | some r => r.2
    | none => 0
  let t := ((t.put Fd.SAF_STAT_MODE mode).put Fd.SAF_IN_SEAL seals).put Fd.SAF_STAT_SEAL seals
  let epoch := (s.saf.epoch + 1) % 2 ^ 24
  let t := { t.setRegN Reg.STG_TXEPOCH epoch with saf := { t.saf with epoch := epoch, seq := 0 } }
  let good := (s.saf.record.map (·.1)) == some sum && (mode == 0 || seals % 16 == 10) && s.get Fd.SYS_BOOT_STATE != 2
  tripArm (pilotDemand 2 (if good then t.raise Fd.SAF_STAT_CONFOK else causeSet 17 t))

/-- The PUF's block map at enrolment (R365), for a module that has none yet. -/
def pufMap (s : State) : State :=
  if (List.range 8).all (fun b => s.get (Fd.KEY_PUFBLK_ROLE b) == 0) then
    upTo 8 (fun b t => t.put (Fd.KEY_PUFBLK_ROLE b) (([0, 1, 2, 3, 4, 4, 4, 5] : List Nat).getD b 0)) s
  else s

/-- A share block whose error rate exceeds PUF_MOVE gives its share to a spare block (R369). -/
def pufBlock (b : Nat) (s : State) : State :=
  let share := s.get (Fd.KEY_PUFBLK_ROLE b)
  if 4 ≤ share ∨ s.get (Fd.KEY_PUFBLK_ERR b) ≤ s.parN Par.PUF_MOVE then s
  else match (List.range 8).find? (fun n => s.get (Fd.KEY_PUFBLK_ROLE n) == 4) with
    | some n => faultOther 1 .grotto (((s.put (Fd.KEY_PUFBLK_ROLE n) share).put (Fd.KEY_PUFBLK_ROLE b) 6).raise Fd.KEY_EVT_PUFMOVE)
    | none => s.raise Fd.KEY_EVT_PUFWARN

/-- The key of Waybills generated when its slot is empty (R388). -/
def waybillKey (s : State) : State :=
  let n := s.parN Par.WB_KEYSLOT
  if s.parB Par.WB_AUTOGEN && slotSt s n == 0 && s.on Fd.KEY_STAT_READY && s.on Fd.KEY_STAT_DRBGOK then
    let type := if s.parN Par.WB_SIGALG = 1 then 4 else 5
    if s.get (Fd.KEY_SLOT_GEN n) = 255 then slotRetire n s
    else
      let x := freshBytes (keyLen type / 4) s
      keyPlace n type 257 0 true x.1 x.2
  else s

/-- The Grotto's start (R366 to R371, R386, R388). -/
def grottoStart (i : StartInfo) (s : State) : State :=
  let t := upTo 8 (fun b u => u.put (Fd.KEY_PUFBLK_ERR b) (min (nth i.rates b 0) 255)) (pufMap s)
  let t := (if i.helperFix then t.raise Fd.KEY_EVT_HELPERFIX else t).putB Fd.KEY_STAT_MIRROR (Bits.bit (BitVec.ofNat 32 i.flash) 0)
  let t := if i.root then (upTo 8 pufBlock t).raise Fd.KEY_STAT_READY
    else faultOther 2 .grotto ((t.raise Fd.KEY_STAT_ROOTFAIL).raise Fd.KEY_EVT_ROOTFAIL)
  let t := t.put Fd.KEY_STAT_PUFSPARE ((List.range 8).filter (fun b => t.get (Fd.KEY_PUFBLK_ROLE b) == 4)).length
  let t := if i.rng then t.raise Fd.KEY_STAT_DRBGOK else faultOther 2 .grotto (t.raise Fd.KEY_EVT_RNGFAIL)
  waybillKey (usedShow t)

/-- An outage record as BTM_OUT shows it (R228). -/
def outageWords (o : OutageRec) : List Nat :=
  [o.startSec, o.endSec, o.secsWith, o.largest % 2 ^ 28 + o.role * 2 ^ 28, (Exact.toInt o.ampSec).toNat]

/-- The outage that a start ends: its record, and its log entries (R223, R225, R228, R575). -/
def outageEnd (code : Nat) (s : State) : State :=
  match s.btm.outage with
  | none => s
  | some o =>
    let now := s.regN Reg.BTM_TIME
    let o := { o with endSec := now }
    let t := { s with btm := { s.btm with outage := none, outages := (o :: s.btm.outages).take 256 } }
    let t := upTo 5 (fun k u => u.setRegN (Reg.BTM_OUT k) (nth (outageWords o) k 0)) t
    let t := if o.lost = 0xFFFFFFFF then logAt o.startSec 0x0201 0 0xFFFFFFFF t else t
    let t := if o.lost = 0xFFFFFFFF ∧ (code = 7 ∨ code = 8) then t else logWrite 0x0202 0 ((now : Int) - o.startSec) t
    if 0 < o.secsWith then logWrite 0x0203 4 o.largest (t.raise Fd.BTM_EVT_OUTCUR) else t

/-- The tamper changes of the outage moved into the tamper log (R227), and the request that an opening makes (R233). -/
def tamperMove (s : State) : State :=
  let one := fun (t : State) (r : TamperRec) =>
    let isOpen := r.code % 2 == 1
    let t := logAt r.sec r.code 4 0 t
    if isOpen && t.parB Par.DISC_ON_TAMP then discRequest 3 true t else t
  let t := s.btm.tampBuf.foldl one s
  let t := if s.btm.tampLost = 0 then t else logWrite 0x0305 4 s.btm.tampLost (t.raise Fd.BTM_EVT_TBUFOVF)
  { t with btm := { t.btm with tampBuf := [], tampLost := 0 } }

/-- What the Battery island and the save left for the logs (R219, R227, R228, R237). -/
def startLogs (code : Nat) (s : State) : State :=
  let t := outageEnd code (tamperMove s)
  let t := if t.pow.clkNote then logWrite 0x0104 4 (t.regN Reg.BTM_HWS) t else t
  let t := match t.btm.savedFault with
    | some c => logWrite 0x0404 0 c t
    | none => t
  setPow { t.pow with clkNote := false } { t with btm := { t.btm with savedFault := none } }

/-- The billing pipeline at a start (R172, R183, R225). -/
def billingStart (code : Nat) (s : State) : State :=
  let now := s.regN Reg.BTM_TIME
  let late := if 0 < s.regN Reg.BIL_COMMIT then 16 + (if 1 ≤ code ∧ code ≤ 4 then 32 else 0) else 0
  let t := { s with bil := { s.bil with tickSec := now, catchUp := late } }
  let t := match t.bil.passive with
    | some x => if x.activation ≤ firstOpen t then activate (firstOpen t) t else t
    | none => t
  let t := showCredit (showWaybills (showProfiles (showDemand (showPend t))))
  let t := t.putB Fd.BIL_STAT_PASSIVE t.bil.passive.isSome
  let lost := t.on Fd.SYS_FLT_BILLOST
  wbSign (t.putB Fd.BIL_STAT_READY (!lost && t.get Fd.SYS_BOOT_STATE != 2))

/-- The disconnect relay at a start (R234, R235): the state kept in MRAM is restored. -/
def relayStart (s : State) : State :=
  let st := s.get Fd.BIL_DISC_STATE
  if st = 0 then relayOpen s else if st = 1 then relayWanted s else s

/-- The memories at a start (R595, R604): replacements that PFW_N kept waiting are made. -/
def memStart (s : State) : State :=
  let due := s.mem.due
  let t := (setMem { s.mem with due := [] } s).raise Fd.MEM_STAT_READY |>.raise Fd.MEM_STAT_SCRUB
  due.foldl (fun u v => memDue v u) (upTo 9 (fun k u => kindShow k (u.get (Fd.MEM_KIND_USED k)) u) t)

/-- What the firmware shows when it runs: the host's levels, the suite, the site grant, the Lantern's brightness. -/
def servicesStart (hosts : Bool) (s : State) : State :=
  let t := setLevel .eth 0 (setLevel .spi (baseLevel s .spi) s)
  let t := if hosts then t.raise Fd.HIF_EVT_SESEND else t
  siteNone (t.put Fd.DLM_STAT_SUITE (t.parN Par.DLM_SUITE))

/-- The islands that leave reset when the parameters have reached them: without an image the front end stays down (R544). -/
def islandsStart (bad : Nat) (s : State) : State :=
  let t := setLsw { s.lsw with cmds := (List.range 12).map (fun n => (s.parN Par.LS_DEFAULT).testBit n) } (lsDefaults s)
  let l := [Island.vehicleLink, .siteLink, .amene, .service]
  (if t.get Fd.SYS_BOOT_STATE = 2 then l else .metrology :: l).foldl (fun u i => islandStart i bad u) t

/-- The times of R546 shown. -/
def bootTimes (times : List Nat) (s : State) : State := upTo 8 (fun k t => t.setRegN (Reg.SYS_BOOTT k) (nth times k 0)) s

/-- A start of the module up to the point where the firmware runs (R546). -/
def moduleStart (i : StartInfo) (s : State) : State :=
  let code := s.pow.cause
  let hosts := s.hif.any (·.sess)
  let t := startClocks i.freqs (startCause (limitStart s) (modulesReset s))
  let x := imageTake (i.flash % 2 == 1) (t.setRegN Reg.SYS_FLASH i.flash)
  let t := tokVlow (tokBudgets (ttbConfigure x.1))
  let t := grottoStart i (memStart (safetyStart i.seals t))
  let t := startLogs code t
  let t := billingStart code t
  let t := if i.replay then logWrite 0x0009 0 (t.regN Reg.BIL_COMMIT) (t.raise Fd.BIL_EVT_JREPLAY) else t
  let t := match x.2 with
    | some b => if (match t.boot.record with
        | some r => r.applied
        | none => true) then t else imageApply b t
    | none => t
  let t := islandsStart i.bad (servicesStart hosts (appliedShow t))
  let t := relayStart t
  let t := discUpdate (if t.bitOf Reg.BIL_DISC 11 then 4 else 0) 0 t
  bootTimes i.times (if t.get Fd.SYS_BOOT_STATE = 2 then t else t.put Fd.SYS_BOOT_STATE 1)

/-- Whether the module may start (R571, R586, R668): VSYS has stood at its level with PFW_N high, RESET_N is high, the die is cool, no
save runs, and the Core island has a clock. -/
def mayStart (s : State) : Bool :=
  s.on Fd.PWR_STAT_VIOOK && !s.on Fd.PWR_STAT_PFW && !s.pow.resetLow && !s.pow.hot && !s.pow.saving && s.pow.cause != 0
    && !(s.pow.cause == 7 && s.get (Fd.CLK_ISL_STATE 0) == 2)

end Sys2Proof.Machine
end

