-- ==== Sys2Proof/Machine/Update.lean ====
section
/-!
DEFINITION. Firmware update, the resets of the application cores, and power-good (spec/19_firmware_update.md R555 to R568,
spec/20_power_clocks_reset.md R587, spec/18_boot_configuration.md R546).
-/
namespace Sys2Proof.Machine

/-- UPD_STAT.STATE. -/
def updSt (s : State) : Nat := s.get Fd.UPD_STAT_STATE

/-- UPD_STAT.STATE set. -/
def updEnter (n : Nat) (s : State) : State := s.put Fd.UPD_STAT_STATE n

/-- Firmware update's state replaced. -/
def setUpd (u : UpdState) (s : State) : State := { s with upd := u }

/-- The bank that is not active. -/
def idleBank (s : State) : Nat := 1 - s.get Fd.UPD_STAT_BANK

/-- What the active bank holds shown (UPD_FWID, UPD_SVN.RUN). -/
def bankShow (s : State) : State :=
  let b := nth s.upd.banks (s.get Fd.UPD_STAT_BANK) ⟨0, []⟩
  upTo 4 (fun w t => t.setRegN (Reg.UPD_FWID w) (Bits.ofLeBytes ((b.fwid.drop (4 * w)).take 4))) (s.put Fd.UPD_SVN_RUN b.svn)

/-- A failure (R561, R562, R566): its code, the arming cleared, idle. -/
def updFail (code : Nat) (s : State) : State :=
  updEnter 0 (((s.put Fd.UPD_CODES_FAIL code).lower Fd.UPD_STAT_ARMED).raise Fd.UPD_EVT_FAILED)

/-- VBAT under load measured (R558, R577). -/
def vbatLoad (mv : Nat) (s : State) : State := (s.put Fd.PWR_VBAT_LOAD (min mv 0xFFFF)).setRegN Reg.UPD_VBAT mv

/-- The lowest refusal code that applies (R558), 0 for none. -/
def updRefusal (s : State) : Nat :=
  if sesSt s ≠ 0 ∨ s.get Fd.CPL_STAT_STATE ≠ 0 ∨ s.get Fd.MTR_STAT_PGATE ≠ 0 then 1
  else if s.regN Reg.UPD_VBAT < s.parN Par.UPD_VBAT_MIN then 2
  else if s.on Fd.UPD_STAT_LOCK then 3
  else 0

/-- Arming (R559); a check, a copy or a trial under way keeps its state. -/
def updArm (mv : Nat) (s : State) : State :=
  let t := vbatLoad mv s
  let r := updRefusal t
  if r ≠ 0 then (t.put Fd.UPD_CODES_REFUSE r).raise Fd.UPD_EVT_REFUSED
  else
    let t := t.raise Fd.UPD_STAT_ARMED
    if [2, 3, 5].contains (updSt t) then t else updEnter 1 t

/-- Disarming (R559). -/
def updDisarm (s : State) : State := if updSt s = 1 ∨ updSt s = 4 then updEnter 0 (s.lower Fd.UPD_STAT_ARMED) else s

/-- The owner's lock command (R560). -/
def lockMessage (s : State) : List Byte := (List.range 28).flatMap (fun w => Bits.leBytes 4 (s.regN (Reg.UPD_LOCKMSG w)))

/-- Whether the lock command is accepted (R560). -/
def lockOk (s : State) : Bool :=
  let n := s.parN Par.UPD_OWNKEY
  let m := lockMessage s
  let op := numAt m 0 1
  let len := if slotType s n = 6 then 64 else 96
  n != 0 && usable s n && (slotType s n == 6 || slotType s n == 7) && slotUse s n 1 && (op == 1 || op == 2)
    && Config.verifies (keyOf s n) (m.take 16) ((m.drop 16).take len) && numAt m 4 8 == meterNum s
    && decide (s.regN Reg.UPD_LOCKCNT < numAt m 12 4)

/-- The lock command submitted (R560). -/
def ownerLock (s : State) : State :=
  if lockOk s then
    let m := lockMessage s
    ((s.putB Fd.UPD_STAT_LOCK (numAt m 0 1 == 1)).setRegN Reg.UPD_LOCKCNT (numAt m 12 4)).raise Fd.UPD_EVT_LOCKCHG
  else s.raise Fd.UPD_EVT_LOCKREJ

/-- Bytes of the staging slot (R533). -/
def stagingBytes (s : State) (o n : Nat) : List Byte := flashBytes s (0x800000 + o) n

/-- A number of the package's header. -/
def pkgNum (s : State) (o n : Nat) : Nat := Bits.ofLeBytes (stagingBytes s o n)

/-- PAYLEN. -/
def pkgLen (s : State) : Nat := pkgNum s 8 4

/-- The key of R556, none when KS001 cannot be used. -/
def firmwareKey (s : State) : Option (List Byte) :=
  if s.on Fd.KEY_STAT_ROOTFAIL then some Config.otpFirmwareKey
  else if usable s 1 && slotUse s 1 10 then some (keyOf s 1) else none

/-- Whether the package's signature verifies (R555, R556). -/
def pkgSigned (s : State) : Bool :=
  match firmwareKey s with
  | some k => Config.verifies k (stagingBytes s 0 (256 + pkgLen s)) (stagingBytes s (256 + pkgLen s) 96)
  | none => false

/-- The stepping of the module as MINSTEP codes it. -/
def stepping (s : State) : Nat := s.get Fd.SYS_ID_STEPLET * 16 + s.get Fd.SYS_ID_STEPDIG

/-- The failure code of the package's check (R561), 0 when it passes; ok: the flash has been read without error. -/
def pkgCheck (ok : Bool) (s : State) : Nat :=
  let len := pkgLen s
  if stagingBytes s 0 4 ≠ [0x56, 0x50, 0x43, 0x55] ∨ pkgNum s 4 1 ≠ 1 ∨ (stagingBytes s 92 164).any (· != 0) then 10
  else if len % 512 ≠ 0 ∨ 16777216 < len ∨ !ok then 11
  else if !pkgSigned s then 12
  else if !(pkgNum s 5 1 == 3 || pkgNum s 5 1 == variantCode s) || !(pkgNum s 16 8 == 0 || pkgNum s 16 8 == meterNum s)
      || decide (stepping s < pkgNum s 40 4) then 13
  else if pkgNum s 6 2 < s.get Fd.UPD_SVN_MIN then 14
  else if sha384 (stagingBytes s 256 len) ≠ stagingBytes s 44 48 then 15
  else 0

/-- The sectors of code NVM that the payload takes. -/
def pkgSectors (s : State) : Nat := (pkgLen s + 0xFFFF) / 0x10000

/-- The Token for the next sector asked for (R562). -/
def copyAsk (s : State) : State :=
  let n := s.get Fd.UPD_CODES_PROG
  if updSt s = 3 ∧ n < pkgSectors s ∧ !tokHolds s 8 n ∧ !tokWaits s 8 n then (tokRequest 8 n 0 s).2 else s

/-- The check's end (R561, R562). -/
def checkDone (ok : Bool) (s : State) : State :=
  let t := upTo 4 (fun w u => u.setRegN (Reg.UPD_STGID w) (pkgNum s (24 + 4 * w) 4)) s
  let code := pkgCheck ok s
  if code ≠ 0 then updFail code t else copyAsk (updEnter 3 (t.put Fd.UPD_CODES_PROG 0))

/-- A sector erased and written (R562). -/
def sectorWrite (n : Nat) (s : State) : State :=
  let a := bankBase (idleBank s) + 0x10000 * n
  let bytes := stagingBytes s (256 + 0x10000 * n) (min 0x10000 (pkgLen s - 0x10000 * n))
  (fabWrite a bytes (fabErase a 0x10000 s)).put Fd.UPD_CODES_PROG (n + 1)

/-- The read-back's end (R562): bad are the sectors that differ. -/
def copyDone (bad : List Nat) (s : State) : State :=
  let b := idleBank s
  let whole := bad.isEmpty && sha384 (fabBytes s (bankBase b) (pkgLen s)) == stagingBytes s 44 48
  if whole then
    let bank : CodeBank := ⟨pkgNum s 6 2, stagingBytes s 24 16⟩
    updEnter 4 (setUpd { s.upd with banks := setNth s.upd.banks b bank, runs := setNth s.upd.runs b true } s)
  else updFail 16 (bad.foldl (fun t n => memDue ⟨2 + b, n, false⟩ t) s)

/-- The selector written to the other bank (R564 step 1, R566). -/
def bankSwap (s : State) : State := bankShow (s.put Fd.UPD_STAT_BANK (idleBank s))

/-- The banks switched (R564 steps 1 to 4): the first start from the new bank. -/
def updSwitch (s : State) : State :=
  let t := coresDown ((bankSwap s).raise Fd.UPD_STAT_TRIAL)
  (updEnter 5 (setUpd { t.upd with starts := 1 } t)).raise Fd.UPD_EVT_SWITCH

/-- The switch reverted (R566), but for the restart of the cores. -/
def trialBack (s : State) : State :=
  updFail 17 (setUpd { s.upd with starts := 0 } ((bankSwap s).lower Fd.UPD_STAT_TRIAL))

/-- The switch reverted (R566). -/
def trialRevert (s : State) : State := coresDown (trialBack s)

/-- A start of the cores while a bank is on trial counted (R566); the third one in a row reverts the switch. -/
def trialCount (s : State) : State :=
  if s.on Fd.UPD_STAT_TRIAL then
    if 2 ≤ s.upd.starts then trialBack s else setUpd { s.upd with starts := s.upd.starts + 1 } s
  else s

/-- A reset of the application cores, and the start from the bank that the selector names. -/
def coresRestart (code : Nat) (s : State) : State := trialCount (coresReset code s)

/-- The watchdog expires (R587): a fault report while a bank is on trial; the next expiry after three resets within 600 s resets the module. -/
def watchdog (late : Nat) (save : Option Nat) (s : State) : State :=
  let recent := s.pow.coreResets.filter (fun u => decide (s.regN Reg.SYS_UPTIME ≤ u + 600))
  let t := if 3 ≤ recent.length then resetSaved 11 late save s else coresReset 9 s
  if t.on Fd.UPD_STAT_TRIAL then trialBack t else t

/-- The update at a start (R561, R563, R566, R568): checked again when it was armed or under check, its copy resumed. -/
def updStart (s : State) : State :=
  let t := bankShow (s.put Fd.UPD_SVN_MIN (max (s.get Fd.UPD_SVN_MIN) (Config.otpSvnFloor % 65536)))
  let t := trialCount t
  if t.on Fd.UPD_STAT_ARMED ∧ (updSt t = 1 ∨ updSt t = 2) then updEnter 2 t else copyAsk t

/-- UPDATE_ARM (R559): a host write of UPD_CTL.ARM; VBAT under load in mV. -/
def execUpdateArm (p : Path) (mv : Nat) (s : State) : Ans := .next (hostOwn p 1 (updArm mv) s)

/-- UPDATE_DISARM (R559): a host write of UPD_CTL.DISARM. -/
def execUpdateDisarm (p : Path) (s : State) : Ans := .next (hostOwn p 1 updDisarm s)

/-- OWNER_LOCK_COMMAND (R560): a host write of UPD_CTL.LOCKGO. -/
def execOwnerLockCommand (p : Path) (s : State) : Ans := .next (hostOwn p 2 ownerLock s)

/-- UPDATE_CHECK_DONE (R561): whether the flash has been read without error. -/
def execUpdateCheckDone (ok : Bool) (s : State) : Ans := .next (if updSt s = 2 then checkDone ok s else s)

/-- TOKEN_RELEASE (R49): a Token of kind 8 released in a copy has served its sector (R562), unless PFW_N has stopped it (R568). -/
def execTokenRelease (kind id : Nat) (s : State) : Ans :=
  let mine := kind == 8 && updSt s == 3 && id == s.get Fd.UPD_CODES_PROG && tokHolds s 8 id && !s.pfw
  .next (if mine then copyAsk (tokRelease 8 id (sectorWrite id s)) else tokRelease kind id s)

/-- COPY_TOKEN_RETRY (R562). -/
def execCopyTokenRetry (s : State) : Ans := .next (copyAsk s)

/-- UPDATE_COPY_DONE (R562): every sector is written; bad are the sectors that the read-back finds different. -/
def execUpdateCopyDone (bad : List Nat) (s : State) : Ans :=
  .next (if updSt s = 3 ∧ s.get Fd.UPD_CODES_PROG = pkgSectors s then copyDone bad s else s)

/-- UPDATE_SWITCH_EVAL (R558, R564): VBAT under load when it is measured. -/
def execUpdateSwitchEval (vbat : Option Nat) (s : State) : Ans :=
  .next (if updSt s = 4 then
      let t := match vbat with
        | some mv => vbatLoad mv s
        | none => s
      if updRefusal t = 0 then updSwitch t else t.put Fd.UPD_CODES_REFUSE (updRefusal t)
    else s)

/-- TRIAL_SERVICES_REPORT (R564 steps 5 and 6, R648). -/
def execTrialServicesReport (s : State) : Ans :=
  .next (if s.on Fd.UPD_STAT_TRIAL then
      let t := ((s.lower Fd.UPD_STAT_TRIAL).put Fd.UPD_SVN_MIN (max (s.get Fd.UPD_SVN_MIN) (s.get Fd.UPD_SVN_RUN))).lower Fd.UPD_STAT_ARMED
      ((updEnter 0 (setUpd { t.upd with starts := 0 } t)).raise Fd.UPD_EVT_DONE).lower Fd.SYS_FLT_FWBANK
    else s)

/-- UPDATE_TRIAL_TIMEOUT (R566). -/
def execUpdateTrialTimeout (s : State) : Ans := .next (if s.on Fd.UPD_STAT_TRIAL then trialRevert s else s)

/-- FIRMWARE_FAULT_REPORT (R566). -/
def execFirmwareFaultReport (s : State) : Ans := .next (if s.on Fd.UPD_STAT_TRIAL then trialRevert s else s)

/-- HOST_CORES_RESET (R587): a host write of SYS_RSTCTL.CORES. -/
def execHostCoresReset (p : Path) (s : State) : Ans := .next (hostOwn p 2 (coresRestart 10) s)

/-- CORE_WATCHDOG_EXPIRY (R587). -/
def execCoreWatchdogExpiry (late : Nat) (save : Option Nat) (s : State) : Ans := .next (watchdog late save s)

/-- POWER_GOOD (R546, R571): the module starts. -/
def execPowerGood (i : StartInfo) (s : State) : Ans := .next (if mayStart s then updStart (moduleStart i s) else s)

end Sys2Proof.Machine
end

