-- ==== Sys2Proof/Machine/HostWrite.lean ====
section
/-!
DEFINITION. Register transactions of the host (spec/23_host_interface.md R622 to R629, R640, spec/00_scope.md R5, R9 to R15): a write is checked whole,
then each word acts at its address.
-/
namespace Sys2Proof.Machine

/-- The bits of a register that a write stores: read-write fields, and the write-only words that a later command reads. -/
def storeMask (s : State) (r : RegMap.RegRow) : Nat :=
  (if r.addr = 0x60080 ∨ r.addr = Reg.UPD_LOCKMSG 0 then r.wo else r.rw) &&& variantMask s r

/-- A word written to a register that acts through no command of its own (R12, R13): stored fields take the word's bits, and a 1 clears a W1C bit. -/
def storeWord (p : Path) (r : RegMap.RegRow) (a : Nat) (w : Word) (s : State) : State :=
  let b := if r.perPath then a + p.bank else a
  let rw := BitVec.ofNat 32 (storeMask s r)
  let clr := BitVec.ofNat 32 (r.w1c &&& variantMask s r) &&& w
  s.setReg b (((s.reg b &&& ~~~rw) ||| (w &&& rw)) &&& ~~~clr)

/-- A write of SYS_RSTCTL (R585, R587). -/
def rstWrite (f : WriteFacts) (w : Word) (s : State) : State :=
  if Bits.bit w 0 then resetSaved 6 f.late f.save s else if Bits.bit w 1 then coresRestart 10 s else s

/-- A write of HIF_PCMD (R633): nothing without GO, or with an operation that the register does not name. -/
def pcmdWrite (p : Path) (w : Word) (s : State) : State :=
  let op := Bits.get w 14 2
  if !Bits.bit w 31 then s
  else if op = 0 then paramRead p w.toNat s
  else if op = 1 then paramStore p w.toNat s
  else s

/-- A write of PTS_CTL (R148, R161): TRIAL acts when it changes. -/
def ptsWrite (owner : Bool) (w : Word) (s : State) : State :=
  let t := when (Bits.bit w 0) testNow s
  let t := when (Bits.bit w 2) clearMism t
  if owner then (if Bits.bit w 1 then trialBegin t else if t.on Fd.PTS_CTL_TRIAL then trialStop t else t) else t

/-- A write of BIL_CTL (R187): REL stands over SNAP. -/
def bilWrite (w : Word) (s : State) : State := if Bits.bit w 1 then viewRelease s else if Bits.bit w 0 then viewSnap s else s

/-- A write of BIL_DISCCTL (R233). -/
def discWrite (owner : Bool) (w : Word) (s : State) : State := sesDisconnect (discControl (Bits.bit w 1) (Bits.bit w 0) owner s)

/-- A write of BTM_SETCTL (R218): RESET stands over GO. -/
def setctlWrite (f : WriteFacts) (w : Word) (s : State) : State :=
  if Bits.bit w 0 || Bits.bit w 1 then clockSet 2 (s.regN Reg.BTM_SETVAL * 1000) f.frac (Bits.bit w 1) s else s

/-- A write of EFT_TRIPCTL (R278, R289), which a module of variant M ignores. -/
def tripWrite (w : Word) (s : State) : State :=
  if s.isF then when (Bits.bit w 1) rcmTestAsk (when (Bits.bit w 0) tripWant s) else s

/-- A write of UPD_CTL (R559, R560). -/
def updWrite (f : WriteFacts) (w : Word) (s : State) : State :=
  when (Bits.bit w 2) ownerLock (when (Bits.bit w 1) updDisarm (when (Bits.bit w 0) (updArm f.mv) s))

/-- A write of LSW_CTL (R500, R509). -/
def lswWrite (n : Nat) (w : Word) (s : State) : State := when (Bits.bit w 1) (lsReset n) (lsCommand n (Bits.bit w 0) s)

/-- A write of LCD_CTL (R531). -/
def lcdWrite (w : Word) (s : State) : State :=
  let t := when (Bits.bit w 1) (fun t => setLcd { t.lcd with holdEnd := t.regN Reg.SYS_UPTIME + 60 } t) s
  when (Bits.bit w 0) lcdNext t

/-- The index of an address in an array of words. -/
def indexOf (a base : Nat) : Nat := (a - base) / 4

/-- What a word written does at its address, by the register's own rule. -/
def regEffect (p : Path) (f : WriteFacts) (r : RegMap.RegRow) (a : Nat) (w : Word) (s : State) : State :=
  if r.addr = Reg.SYS_RSTCTL then rstWrite f w s
  else if r.addr = Reg.SYS_XCLR then xingStatsClear w s
  else if r.addr = Reg.TTB_CLR then when (Bits.bit w 0) ttbClearUse s
  else if r.addr = Reg.CLK_CTL then when (Bits.bit w 0) xbStart s
  else if r.addr = Reg.SHN_CHCTL then shnControl w s
  else if r.addr = Reg.SHN_DESC 0 0 then shnShadow (indexOf a r.addr / 16) (indexOf a r.addr % 16) w s
  else if r.addr = 0x60010 then sesctlWrite p w s
  else if r.addr = 0x60020 then pcmdWrite p w s
  else if r.addr = Reg.PTS_CTL then ptsWrite (decide (2 ≤ pathLevel s p)) w s
  else if r.addr = Reg.BIL_CTL then bilWrite w s
  else if r.addr = Reg.BIL_DISCCTL then discWrite (decide (2 ≤ pathLevel s p)) w s
  else if r.addr = Reg.BTM_SETCTL then setctlWrite f w s
  else if r.addr = Reg.EFT_TRIPCTL then tripWrite w s
  else if r.addr = Reg.SES_CTL then sesCtl w s
  else if r.addr = Reg.SES_AUTHCTL then authCtl w s
  else if r.addr = Reg.ETH_CTL then portEnable w s
  else if r.addr = Reg.KEY_CTL then when (Bits.bit w 0) (keyGo p) s
  else if r.addr = Reg.UPD_CTL then updWrite f w s
  else if r.addr = Reg.NFC_LISTCTL then listEdit (Bits.get w 0 2) (Bits.get w 2 4) s
  else if r.addr = Reg.NFC_TAGWCTL then when (Bits.bit w 0) (hostNote (Bits.get w 1 5)) s
  else if r.addr = Reg.LSW_CTL 0 then lswWrite (indexOf a r.addr) w s
  else if r.addr = Reg.LCD_CTL then lcdWrite w s
  else storeWord p r a w s

/-- One word of a write that has passed the checks; a word for a held island is discarded and counted (R646). -/
def writeWord (p : Path) (f : WriteFacts) (a : Nat) (w : Word) (s : State) : State :=
  match RegMap.rowOf a with
  | some r => toIsland r.island (regEffect p f r a w) s
  | none => s

/-- The words of a write in address order (R624). -/
def writeWords (p : Path) (f : WriteFacts) : Nat → List Word → State → State
  | _, [], s => s
  | a, w :: ws, s => writeWords p f (a + 4) ws (writeWord p f a w s)

/-- The level that a word needs at its address (R15): a raised field asks for it only when the word would act through the field. -/
def wordLevel (s : State) (a : Nat) (w : Word) : Nat :=
  match RegMap.rowOf a with
  | none => 0
  | some r =>
    if (a = Reg.PTS_CTL ∧ Bits.bit w 1 != s.on Fd.PTS_CTL_TRIAL) ∨ (a = Reg.BTM_SETCTL ∧ Bits.bit w 1) ∨ (a = Reg.UPD_CTL ∧ Bits.bit w 2)
    then max 2 r.level else r.level

/-- Whether every word of a write stands within the path's level. -/
def levelsOk (p : Path) (s : State) : Nat → List Word → Bool
  | _, [] => true
  | a, w :: ws => decide (wordLevel s a w ≤ pathLevel s p) && levelsOk p s (a + 4) ws

/-- Whether every address of a burst has a register (R10). -/
def burstMapped (a n : Nat) : Bool := (List.range n).all (fun i => (RegMap.rowOf (a + 4 * i)).isSome)

/-- The status that a burst's form gives it (R623): 4 for its length, its alignment or leaving its block, 2 for an unmapped address, else 0. -/
def burstStatus (a n : Nat) : Nat :=
  if n < 1 ∨ 16 < n ∨ a % 4 ≠ 0 ∨ 2 ^ 24 ≤ a then 4
  else if (RegMap.blockOf a).isSome ∧ RegMap.blockOf a ≠ RegMap.blockOf (a + 4 * (n - 1)) then 4
  else if burstMapped a n then 0 else 2

/-- The status of a write (R15, R623, R640). -/
def writeStatus (p : Path) (a : Nat) (ws : List Word) (s : State) : Nat :=
  let c := burstStatus a ws.length
  if c ≠ 0 then c else if !levelsOk p s a ws then 1 else if s.pfw then 5 else 0

/-- A transaction refused with a status: its event bit, and the status returned (R623). -/
def refuse (p : Path) (status : Nat) (s : State) : State :=
  hostReply p status (if status = 1 then s.raise Fd.HIF_EVT_ACCERR else if status = 2 then s.raise Fd.HIF_EVT_ADDRERR else s)

/-- A transaction that fails its CRC (R623, R628): no host access. -/
def crcError (p : Path) (s : State) : State := hostReply p 3 ((s.bumpReg (Reg.HIF_CNT 1)).raise Fd.HIF_EVT_SPICRC)

/-- Whether a transaction passes: the Ethernet path has no CRC (R627). -/
def crcPass (p : Path) (crc : Bool) : Bool := crc || p == .eth

/-- Whether a word is a parameter write's GO, which reports code 8 while PFW_N is asserted (R640). -/
def pfwPcmd (p : Path) (a : Nat) (ws : List Word) (s : State) : State :=
  match ws with
  | [w] => if a = 0x60020 ∧ Bits.bit w 31 ∧ Bits.get w 14 2 = 1 then presResult p 8 (ParamMap.rowFor (pcmdPar w.toNat)) s else s
  | _ => s

/-- A register write (R623, R624). -/
def hostWrite (p : Path) (crc : Bool) (a : Nat) (ws : List Word) (f : WriteFacts) (s : State) : State :=
  if !pathOpen s p then s
  else if !crcPass p crc then crcError p s
  else
    let t := hostAccess p s
    let st := writeStatus p a ws t
    if st = 0 then hostReply p 0 (writeWords p f a ws t)
    else refuse p st (if st = 5 then pfwPcmd p a ws t else t)

/-- The words of a read in address order, each taken by its path (R187). -/
def readWords (p : Path) : Nat → Nat → State → List Word × State
  | 0, _, s => ([], s)
  | n + 1, a, s =>
    match RegMap.rowOf a with
    | none => readWords p n (a + 4) s
    | some r =>
      let x := readWord p r a s
      let y := readWords p n (a + 4) x.2
      (x.1 :: y.1, y.2)

/-- A register read (R10, R623): a burst with an unmapped address reads zeros. -/
def hostRead (p : Path) (crc : Bool) (a n : Nat) (s : State) : State :=
  if !pathOpen s p then s
  else if !crcPass p crc then crcError p s
  else
    let t := hostAccess p s
    let st := burstStatus a n
    if st = 0 then
      let x := readWords p n a t
      hostReply p 0 (x.2.emit (.hostData p x.1))
    else refuse p st (if st = 2 then t.emit (.hostData p (List.replicate n 0)) else t)

/-- HOST_REGISTER_WRITE (R623, R624): whether its CRC is right, the address, the words, and what the write meets. -/
def execHostRegisterWrite (p : Path) (crc : Bool) (addr : Nat) (words : List Word) (facts : WriteFacts) (s : State) : Ans :=
  .next (hostWrite p crc addr words facts s)

/-- HOST_REGISTER_READ (R623): whether its CRC is right, the address, N. -/
def execHostRegisterRead (p : Path) (crc : Bool) (addr n : Nat) (s : State) : Ans := .next (hostRead p crc addr n s)

/-- LOW_WORD_LATCH_READ (R187): a read of the low word of a 64-bit register. -/
def execLowWordLatchRead (p : Path) (addr : Nat) (s : State) : Ans :=
  .next (if wide64 addr && lowWord addr then hostRead p true addr 1 s else s)

/-- The W1C bits of a register that an event sets in the cycle of a write stay set (R14); nothing arises in a held island (R644). -/
def eventKeep (a : Nat) (same : Word) (s : State) : State :=
  match RegMap.rowOf a with
  | some r => if s.held r.island then s else s.setReg a (s.reg a ||| (same &&& BitVec.ofNat 32 (r.w1c &&& variantMask s r)))
  | none => s

/-- EVENT_BIT_CLEAR (R14): a write of 1 to bits of an event register, with the bits that an event sets in the same cycle. -/
def execEventBitClear (p : Path) (addr : Nat) (bits same : Word) (s : State) : Ans :=
  .next (
    let t := hostWrite p true addr [bits] ⟨0, 0, 0, none⟩ s
    match RegMap.rowOf addr with
    | some r => if r.w1c = 0 ∨ !pathOpen s p then s else if writeStatus p addr [bits] s = 0 then eventKeep addr (same &&& bits) t else t
    | none => s)

/-- HOST_DISCONNECT (R233): a write of BIL_DISCCTL.DISC. -/
def execHostDisconnect (p : Path) (s : State) : Ans := .next (hostOwn p 1 (fun t => discWrite (decide (2 ≤ pathLevel t p)) 1 t) s)

/-- HOST_RECONNECT (R233): a write of BIL_DISCCTL.RECON, which withdraws a tamper request with owner access. -/
def execHostReconnect (p : Path) (s : State) : Ans := .next (hostOwn p 1 (fun t => discWrite (decide (2 ≤ pathLevel t p)) 2 t) s)

end Sys2Proof.Machine
end

