-- ==== Sys2Proof/Machine/Siding.lean ====
section
/-!
DEFINITION. Codewords met with errors and what they hold (spec/21_memory_sidings.md R592 to R597, spec/24_faults_ordering.md R647, R648).
-/
namespace Sys2Proof.Machine

/-- The copies of a notes page found uncorrectable: it reads zero until it is next written (R594). -/
def noteLost (n : Nat) (s : State) : State :=
  let bad := fun (c : NoteCopy) => { c with crc := NoteCopy.sum c.data c.gen + 1 }
  let x := notePage s n
  setNfc { s.nfc with notes := setNth s.nfc.notes n (bad x.1, bad x.2) } s

/-- Where the snapshot areas of the tag memory begin, and where the last one ends (R487). -/
def snapBounds (a : Nat) : Nat × Nat := (([0, 0x400, 0x800, 0xA00] : List Nat).getD a 0xB00, ([0x400, 0x800, 0xA00, 0xB00] : List Nat).getD a 0xB00)

/-- A snapshot area found uncorrectable (R594). -/
def snapLost (a : Nat) (s : State) : State :=
  let b := snapBounds a
  setNfc { s.nfc with snap := s.nfc.snap.take b.1 ++ List.replicate (b.2 - b.1) 0 ++ s.nfc.snap.drop b.2 } s

/-- A profile's entry found uncorrectable (R594). -/
def profileLost (p i : Nat) (s : State) : State :=
  showProfiles (if p = 1 then { s with bil := { s.bil with lp1 := s.bil.lp1.eraseIdx i } }
    else { s with bil := { s.bil with lp2 := s.bil.lp2.eraseIdx i } })

/-- A log's entry found uncorrectable (R594). -/
def logLost (l i : Nat) (s : State) : State :=
  let x := nth s.logs l ⟨[], 0⟩
  { s with logs := setNth s.logs l { x with entries := x.entries.eraseIdx i } }

/-- A Waybill found uncorrectable (R594). -/
def waybillLost (kind seq : Nat) (s : State) : State :=
  let keep := fun (l : List Waybill) => l.filter (fun w => !(w.kind == kind && w.seq == seq))
  showWaybills { s with bil := { s.bil with unsigned := keep s.bil.unsigned, sessWb := keep s.bil.sessWb, intWb := keep s.bil.intWb } }

/-- The billing register set lost (R647). -/
def billLost (s : State) : State := faultNote 2 .core 5 ((s.raise Fd.SYS_FLT_BILLOST).lower Fd.BIL_STAT_READY)

/-- A codeword of the active code bank lost (R648): the cores reset, and cannot run when the sector is left without content. -/
def codeLost (s : State) : State :=
  let t := coresRestart 9 s
  let b := t.get Fd.UPD_STAT_BANK
  faultNote 2 .core 6 (setUpd { t.upd with runs := setNth t.upd.runs b false } (t.raise Fd.SYS_FLT_FWBANK))

/-- The effect of an uncorrectable codeword on what it holds (R594); late and save are a module restart's. -/
def contentLost (u : MemUse) (late : Nat) (save : Option Nat) (s : State) : State :=
  match u with
  | .billing both => if both then billLost s else s
  | .record => s
  | .profile p i => profileLost p i s
  | .log l i => logLost l i s
  | .waybill kind seq => waybillLost kind seq s
  | .helper _ => s.raise Fd.KEY_EVT_HELPERFIX
  | .keySlot n => levelsCheck (slotClear n (s.get (Fd.KEY_SLOT_GEN n)) (orphanAll n s))
  | .imageHalf h => setBoot { s.boot with badHalf := setNth s.boot.badHalf h true } s
  | .overlay par => overlayShow ((setBoot { s.boot with overlay := s.boot.overlay.filter (fun e => e.par != par) } s).raise Fd.SYS_CFGEVT_OVLDROP)
  | .tagPage n => noteLost n s
  | .tagSnap a => snapLost a s
  | .working i => islandFault i 2 late save s
  | .code => codeLost s
  | .other => s

/-- An uncorrectable codeword detected (R592, R594, R597). -/
def hitLost (h : MemHit) (late : Nat) (save : Option Nat) (s : State) : State :=
  memDue ⟨h.mem, h.unit, true⟩ (contentLost h.use late save (eccLost h s))

/-- A read meets a codeword (R592), by the scrub or not: whether no data is delivered, and the state. With four symbols or more in error,
detection is not guaranteed: a free bit decides. -/
def memHit (scrub : Bool) (late : Nat) (save : Option Nat) (h : MemHit) (s : State) : Bool × State :=
  let n := h.errs.length
  if n = 0 then (false, s)
  else if n ≤ 2 then (false, wearJudge scrub h (eccCorrected h s))
  else if n = 3 then (true, hitLost h late save s)
  else
    let x := s.fresh
    if x.1.getLsbD 0 then (true, hitLost h late save x.2) else (false, x.2)

/-- Codewords met one after the other. -/
def memHits (scrub : Bool) (late : Nat) (save : Option Nat) (l : List MemHit) (s : State) : State :=
  l.foldl (fun t h => (memHit scrub late save h t).2) s

/-- A data MRAM write that fails its read-back is made once more; a second failure replaces its sector (R593). -/
def verifyWrite (h : MemHit) (again : Bool) (s : State) : State :=
  if h.errs ≠ [] ∧ again then memDue ⟨1, h.unit, false⟩ s else s

end Sys2Proof.Machine
end

