-- ==== Sys2Proof/Machine/Bursts.lean ====
section
/-!
DEFINITION. The bursts of the Shunter, and what a slot of the Timetable carries (spec/22_shunter_dma.md R607 to R619, spec/21_memory_sidings.md R592 to
R597, spec/01_architecture.md R40 to R43).
-/
namespace Sys2Proof.Machine

/-- A byte of the host-visible registers as the fabric reads it: the word of the SPI path's copy, zero where no register is defined. -/
def regByte (s : State) (a : Nat) : Byte :=
  let b := a / 4 * 4
  match RegMap.rowOf b with
  | some r => Bits.byteAt (hostWord s .spi r b).toNat (a % 4)
  | none => 0

/-- An element read from a fabric address (R608, R609): none when a Crossing has no word yet. -/
def shnFetch (a n : Nat) (s : State) : Option (List Byte × State) :=
  match region a with
  | some (.crossing x) =>
    match (xing s x).fifo with
    | w :: _ => some ((Bits.leBytes 8 w.toNat).take n, xingAccept x s)
    | [] => none
  | some .registers => some ((List.range n).map (fun i => regByte s (a + i)), s)
  | _ => some (fabBytes s a n, s)

/-- Bytes written to the host-visible registers by SH31, a word at a time; a byte that an element does not reach is written as 0. -/
def shnRegs (a : Nat) (bs : List Byte) (f : WriteFacts) (s : State) : State :=
  let lo := a / 4 * 4
  let all := List.replicate (a - lo) 0 ++ bs
  (List.range ((all.length + 3) / 4)).foldl (fun t i =>
    writeWord .spi f (lo + 4 * i) (BitVec.ofNat 32 (Bits.ofLeBytes ((all.drop (4 * i)).take 4))) t) s

/-- An element written to a fabric address (R608, R609). -/
def shnPut (a : Nat) (bs : List Byte) (f : WriteFacts) (s : State) : State :=
  match region a with
  | some (.crossing x) => xingWrite x (BitVec.ofNat 64 (Bits.ofLeBytes bs)) s
  | some .registers => shnRegs a bs f s
  | _ => fabWrite a bs s

/-- An element copied. -/
def shnCopy (src dst n : Nat) (f : WriteFacts) (s : State) : Option State := (shnFetch src n s).map (fun x => shnPut dst x.1 f x.2)

/-- The address of element or frame k of an address with a stride in bytes. -/
def shnAt (a step k : Nat) : Nat := a + k * step

/-- A frame of GATHER or SCATTER (R613): its elements one after the other. -/
def shnFrame (d : ShnSet) (gather : Bool) (k : Nat) (f : WriteFacts) : Nat → Nat → State → Option State
  | 0, _, s => some s
  | n + 1, c, s =>
    let es := shnEs d
    let flat := fun (a : Nat) => if (shnPort a).isSome then a else a + (k * shnN d + c) * es
    let plane := fun (a : Nat) => a + c * d.plane + k * es
    let src := if gather then flat d.src else plane d.src
    let dst := if gather then plane d.dst else flat d.dst
    (shnCopy src dst es f s).bind (shnFrame d gather k f n (c + 1))

/-- Element k of BITPLANE (R613): each plane's byte takes its bit, the byte's first element clearing the others. -/
def shnPlanes (d : ShnSet) (k : Nat) (f : WriteFacts) (s : State) : Option State :=
  (shnFetch (shnAt d.src (shnStep d d.src d.srcStep) k) (shnEs d) s).map (fun x =>
    let v := Bits.ofLeBytes x.1
    upTo (shnN d) (fun b t =>
      let a := d.dst + b * d.plane + k / 8
      let old := if k % 8 = 0 then 0 else Bits.ofLeBytes (fabBytes t a 1)
      shnPut a (Bits.leBytes 1 (old ||| (if v.testBit b then 2 ^ (k % 8) else 0))) f t) x.2)

/-- A mismatch of COMPARE counted (R614). -/
def shnMismatch (ch k : Nat) (s : State) : State :=
  let t := if s.get (Fd.SHN_CMP_MISM ch) = 0 then s.put (Fd.SHN_CMP_FIRST ch) k else s
  t.bump (Fd.SHN_CMP_MISM ch)

/-- Element k of COMPARE (R613, R614). -/
def shnCompare (d : ShnSet) (ch k : Nat) (s : State) : Option State :=
  let es := shnEs d
  (shnFetch (shnAt d.src (shnStep d d.src d.srcStep) k) es s).bind (fun x =>
    if shnRead d then some x.2
    else if shnConst d then some (if x.1 = Bits.leBytes es d.const then x.2 else shnMismatch ch k x.2)
    else (shnFetch (shnAt d.dst (shnStep d d.dst d.dstStep) k) es x.2).map (fun y => if x.1 = y.1 then y.2 else shnMismatch ch k y.2))

/-- Element or frame k of the active descriptor (R613): none when a Crossing has no word for it yet. -/
def shnElement (d : ShnSet) (ch k : Nat) (f : WriteFacts) (s : State) : Option State :=
  let src := shnAt d.src (shnStep d d.src d.srcStep) k
  let dst := shnAt d.dst (shnStep d d.dst d.dstStep) k
  match shnOp d with
  | 0 => shnCopy src dst (shnEs d) f s
  | 1 => shnFrame d true k f (shnN d) 0 s
  | 2 => shnFrame d false k f (shnN d) 0 s
  | 3 => shnPlanes d k f s
  | 4 => some (shnPut dst (Bits.leBytes (shnEs d) d.const) f s)
  | _ => shnCompare d ch k s

/-- The codewords with errors met at an element, one after the other, until one delivers no data. -/
def shnMeet (scrub : Bool) (f : WriteFacts) : List MemHit → State → Bool × State
  | [], s => (false, s)
  | h :: hs, s =>
    let x := memHit scrub f.late f.save h s
    if x.1 && !scrub then x else shnMeet scrub f hs x.2

/-- The elements of a burst from element k on (R607, R619). -/
def shnElements (d : ShnSet) (ch : Nat) (f : WriteFacts) (hits : List MemHit) : Nat → Nat → State → State
  | 0, _, s => s
  | n + 1, k, s =>
    let count := shnOp d == 5 && shnRead d
    let x := shnMeet count f (hits.filter (fun h => h.elem == k)) s
    if x.1 then shnCode ch 2 (shnState ch 3 x.2)
    else
      match shnElement d ch k f x.2 with
      | none => x.2
      | some t => if t.get (Fd.SHN_CH_STATE ch) = 1 then shnElements d ch f hits n (k + 1) (t.put (Fd.SHN_CH_DONE ch) (k + 1)) else t

/-- The elements or frames that one burst of 256 bytes carries (R607). -/
def shnPerBurst (d : ShnSet) : Nat := if shnOp d = 1 ∨ shnOp d = 2 then 256 / (shnEs d * shnN d) else 256 / shnEs d

/-- A frame put into a transmit queue from SRAM, of a length that the spec leaves open (R616). -/
def shnSend (ch : Nat) (d : ShnSet) (s : State) : State :=
  let x := s.fresh
  let len := x.1.toNat % 2 ^ 31 % (d.len * shnEs d + 1)
  let q := match shnQueues ch with
    | [a] => a
    | a :: b :: _ => if x.1.getLsbD 31 then b else a
    | [] => 0
  let fr := Frame.plain (fabBytes x.2 d.src len)
  let t := if q < 4 then ethWrite q fr x.2 else enqueue q fr x.2
  t.put (Fd.SHN_CH_DONE ch) 1

/-- A frame taken from a receive queue into SRAM, the lower-numbered queue first (R616, R617). -/
def shnReceive (ch : Nat) (d : ShnSet) (s : State) : State :=
  match (shnQueues ch).find? (fun q => !(queue s q).isEmpty) with
  | none => s
  | some q =>
    match queue s q with
    | [] => s
    | fr :: rest => (fabWrite d.dst fr.bytes (setQueue q rest s)).put (Fd.SHN_CH_DONE ch) 1

/-- A burst of a channel that runs (R607, R616). -/
def shnBurst (ch : Nat) (hits : List MemHit) (f : WriteFacts) (s : State) : State :=
  if s.get (Fd.SHN_CH_STATE ch) ≠ 1 ∨ shnEnded s ch then s
  else
    let d := shnSet s ch 0
    if shnQueues ch = [] then
      let k := s.get (Fd.SHN_CH_DONE ch)
      shnElements d ch f hits (min (shnPerBurst d) (d.len - k)) k s
    else if shnSends ch then shnSend ch d s
    else shnReceive ch d s

/-- Whether a granted slot is for a class. -/
def slotFor (g : SlotGrant) (c : Nat) : Bool :=
  match g with
  | .toClass x => x == c
  | .lent => c == 8
  | .idle => false

/-- What a granted slot carries (R40 to R42, R593, R595, R607). -/
def slotWork (k : Nat) (g : SlotGrant) (work : SlotWork) (f : WriteFacts) (s : State) : State :=
  match work with
  | .none => s
  | .burst ch hits => if k = 0 ∧ ch < 32 ∧ slotFor g (shnClass ch) then shnBurst ch hits f s else s
  | .scrub pct hits =>
    if k = 0 ∧ slotFor g 6 ∧ s.on Fd.MEM_STAT_SCRUB ∧ !s.pfw then (memHits true f.late f.save hits s).put Fd.MEM_STAT_SCRUBPCT (min pct 100) else s
  | .access hits => if k = 0 ∧ g ≠ .idle then memHits false f.late f.save hits s else s
  | .verify h again => if k = 2 ∧ g ≠ .idle then verifyWrite h again s else s

/-- TIMETABLE_SLOT_GRANT (R40, R41, R43): the next slot of resource k; waiting has the bit of each class with a request waiting; what the slot
carries, and what a module restart meets that it leads to. -/
def execTimetableSlotGrant (k waiting : Nat) (work : SlotWork) (late : Nat) (save : Option Nat) (s : State) : Ans :=
  .next (if k < 3 then
      let g := slotDecide s k waiting
      slotWork k g work ⟨0, s.regN Reg.UPD_VBAT, late, save⟩ (slotTake k g s)
    else s)

end Sys2Proof.Machine
end

