-- ==== Sys2Proof/Machine/Mailbox.lean ====
section
/-!
DEFINITION. The host's mailbox (spec/23_host_interface.md R634 to R639): pushes, pops, the requests in their order, and the interrupt message.
-/
namespace Sys2Proof.Machine

/-- The mailbox's own state replaced. -/
def setMail (m : MailState) (s : State) : State := { s with mail := m }

/-- A message of a path. -/
def mailFrame (p : Path) (bytes : List Byte) : Frame := { Frame.plain bytes with stamp := pathNum p }

/-- The path of a message. -/
def mailPath (f : Frame) : Path := if f.stamp = 0 then .spi else .eth

/-- The path that notifications go to (R637). -/
def notePath (s : State) : Path := if s.parN Par.HIF_MBPATH = 0 then .spi else .eth

/-- A push (R623, R634, R637): 8 to 512 bytes into Q30 or Q31. -/
def mailPush (p : Path) (crc : Bool) (q : Nat) (msg : List Byte) (s : State) : State :=
  if !pathOpen s p || !(q == 30 || q == 31) then s
  else if !crcPass p crc then crcError p s
  else
    let t := hostAccess p s
    if msg.length < 8 ∨ 512 < msg.length then hostReply p 4 t
    else if 8 ≤ (queue t q).length then hostReply p 6 (t.raise Fd.HIF_EVT_MBFULL)
    else hostReply p 0 (enqueue q (mailFrame p msg) t)

/-- Whether a message in Q28 or Q29 is for a path (R637). -/
def mailFor (s : State) (p : Path) (q : Nat) (f : Frame) : Bool := if q = 28 then p == notePath s else p == mailPath f

/-- A pop (R623): the oldest message for the path, or a length of 0. -/
def mailPop (p : Path) (crc : Bool) (q : Nat) (s : State) : State :=
  if !pathOpen s p || !(q == 28 || q == 29) then s
  else if !crcPass p crc then crcError p s
  else
    let t := hostAccess p s
    match (queue t q).find? (mailFor t p q) with
    | some f => hostReply p 0 ((setQueue q ((queue t q).erase f) t).emit (.hostMail p f.bytes))
    | none => hostReply p 0 (t.emit (.hostMail p []))

/-- TYPE of a message. -/
def mailType (m : List Byte) : Nat := numAt m 0 1

/-- TAG of a message. -/
def mailTag (m : List Byte) : Nat := numAt m 2 2

/-- The body of a message. -/
def mailBody (m : List Byte) : List Byte := m.drop 8

/-- Whether a message has the form of R634. -/
def mailOk (m : List Byte) : Bool := numAt m 4 2 == m.length - 8 && numAt m 6 2 == 0 && decide (m.length ≤ 512) && numAt m 1 1 == 0

/-- A reply placed in Q29 (R635, R637). -/
def mailReply (p : Path) (m : List Byte) (result : Nat) (body : List Byte) (s : State) : State :=
  enqueue 29 (mailFrame p (mailMessage (mailType m) result (mailTag m) body)) s

/-- The queue that the next request is taken from (R637): Q30 first, unless its last request waits for a commit; none while Q29 is full. -/
def mailQueue (s : State) : Option Nat :=
  if 8 ≤ (queue s 29).length then none
  else if !(queue s 30).isEmpty && s.mail.credits.isEmpty then some 30
  else if !(queue s 31).isEmpty then some 31
  else none

/-- The next request: its queue and its frame. -/
def mailNext (s : State) : Option (Nat × Frame) := (mailQueue s).bind (fun q => (queue s q).head?.map (fun f => (q, f)))

/-- Whether a request has a type of R635, and for CARD an operation. -/
def mailKnown (m : List Byte) : Bool :=
  let t := mailType m
  decide (1 ≤ t) && decide (t ≤ 9) && (t != 7 || (decide (1 ≤ numAt m 8 1) && decide (numAt m 8 1 ≤ 3)))

/-- Requests of no known type at the front answered with RESULT 2. -/
def mailClean : Nat → State → State
  | 0, s => s
  | n + 1, s =>
    match mailNext s with
    | some (q, f) => if mailKnown f.bytes then s else mailClean n (mailReply (mailPath f) f.bytes 2 [] (setQueue q ((queue s q).drop 1) s))
    | none => s

/-- The result of a request before its own rules (R635, R638, R640): PFW_N, the wrong queue, the level, the form; 0 when none stops it. -/
def mailJudge (s : State) (p : Path) (q home need : Nat) (m : List Byte) : Nat :=
  if s.pfw then 7 else if q ≠ home then 2 else if pathLevel s p < need then 1 else if !mailOk m then 2 else 0

/-- The next request carried out when it is of a type (and for CARD of an operation): its queue, its level, and its own rule, which answers with a
result, a body and a state, or with no reply yet. -/
def mailRun (type op home : Nat) (need : List Byte → Nat) (rule : Path → List Byte → State → Option (Nat × List Byte) × State) (s : State) : State :=
  let s := mailClean 16 s
  match mailNext s with
  | none => s
  | some (q, f) =>
    if mailType f.bytes = type ∧ (op = 0 ∨ numAt f.bytes 8 1 = op) then
      let t := setQueue q ((queue s q).drop 1) s
      let p := mailPath f
      let c := mailJudge t p q home (need f.bytes) f.bytes
      if c ≠ 0 then mailReply p f.bytes c [] t
      else
        let x := rule p f.bytes t
        match x.1 with
        | some (r, body) => mailReply p f.bytes r body x.2
        | none => x.2
    else s

/-- A Waybill by kind and SEQ, when it is signed (R635). -/
def readWaybill (m : List Byte) (s : State) : Nat × List Byte :=
  let b := mailBody m
  if b.length ≠ 8 ∨ numAt b 1 3 ≠ 0 then (2, [])
  else
    let l := if numAt b 0 1 = 1 then s.bil.sessWb else if numAt b 0 1 = 2 then s.bil.intWb else []
    match l.find? (fun w => w.seq == numAt b 4 4) with
    | some w => (0, wbBytes s w ++ w.sig)
    | none => (3, [])

/-- Log entries, newest first (R635). -/
def readLog (m : List Byte) (s : State) : Nat × List Byte :=
  let b := mailBody m
  if b.length ≠ 8 ∨ numAt b 2 2 ≠ 0 then (2, [])
  else
    let n := numAt b 1 1
    let l := ((nth s.logs (numAt b 0 1) ⟨[], 0⟩).entries.drop (numAt b 4 4)).take n
    if 5 ≤ numAt b 0 1 ∨ n < 1 ∨ 31 < n ∨ l = [] then (3, []) else (0, l.flatMap logBytes)

/-- A load profile's entry (R193, R194, R635). -/
def readProfile (m : List Byte) (s : State) : Nat × List Byte :=
  let b := mailBody m
  if b.length ≠ 8 ∨ numAt b 1 3 ≠ 0 then (2, [])
  else
    let l := if numAt b 0 1 = 1 then s.bil.lp1 else if numAt b 0 1 = 2 then s.bil.lp2 else []
    match l[numAt b 4 4]? with
    | some e => (0, Bits.leBytes 4 e.endT ++ Bits.leBytes 2 e.status ++ e.values.flatMap (fun v => Bits.leBytes 8 (Bits.ofInt 64 v)))
    | none => (3, [])

/-- Outage records, newest first (R635). -/
def readOutage (m : List Byte) (s : State) : Nat × List Byte :=
  let b := mailBody m
  if b.length ≠ 8 ∨ numAt b 1 3 ≠ 0 then (2, [])
  else
    let n := numAt b 0 1
    let l := (s.btm.outages.drop (numAt b 4 4)).take n
    if n < 1 ∨ 24 < n ∨ l = [] then (3, []) else (0, l.flatMap (fun o => (outageWords o).flatMap (Bits.leBytes 4)))

/-- A chunk of a tariff table (R636): LAST submits the table, and any staging copy of the head-end is discarded. -/
def writeTable (m : List Byte) (s : State) : (Nat × List Byte) × State :=
  let b := mailBody m
  if b.length < 4 ∨ 500 < b.length ∨ 2 ≤ numAt b 2 1 ∨ numAt b 3 1 ≠ 0 then ((2, []), s)
  else if numAt b 0 2 ≠ s.mail.table.length then ((3, []), setMail { s.mail with table := [] } s)
  else
    let all := s.mail.table ++ b.drop 4
    if numAt b 2 1 = 0 then ((0, []), setMail { s.mail with table := all } s)
    else
      let t := setMail { s.mail with table := [] } s
      match tariffOf all with
      | none => ((2, []), t)
      | some x =>
        let y := submitTable 2 x (stageDrop t)
        ((if y.1 then 0 else 6, []), y.2)

/-- Where a slot of WRITE_FLASH lies and its size (R533). -/
def flashSlot (n : Nat) : Option (Nat × Nat) :=
  if n = 0 then some (0x100000, 0x100000) else if n = 1 then some (0x200000, 0x100000) else if n = 2 then some (0x800000, 0x1800000) else none

/-- Whether a slot holds the image in force, or the image that the MRAM copy was made from (R553). -/
def slotHeld (s : State) (n : Nat) : Bool :=
  let src := n + 1
  let len := imgLen s src
  s.get Fd.SYS_BOOT_SRC == src
    || (match s.boot.record with
      | some r => decide (304 ≤ len) && decide (len ≤ 131072) && imgHash (imgBytes s src 0 len) == r.hash
      | none => false)

/-- A page of the flash programmed (R636): the first write into a 64 KiB sector erases it. -/
def pageWrite (a : Nat) (data : List Byte) (s : State) : State :=
  let sec := a / 0x10000
  let t := if s.boot.erased.contains sec then s
    else setBoot { s.boot with erased := sec :: s.boot.erased } (fabErase (flashBase + 0x10000 * sec) 0x10000 s)
  fabWrite (flashBase + a) data t

/-- A page of a slot (R553, R557, R636). -/
def writeFlash (m : List Byte) (s : State) : (Nat × List Byte) × State :=
  let b := mailBody m
  let n := numAt b 0 1
  let off := numAt b 4 4
  if b.length ≠ 264 ∨ numAt b 1 3 ≠ 0 then ((2, []), s)
  else
    match flashSlot n with
    | none => ((3, []), s)
    | some (base, size) =>
      if off % 256 ≠ 0 ∨ size ≤ off then ((3, []), s)
      else if n < 2 then
        if slotHeld s n then ((6, []), s) else ((0, []), pageWrite (base + off) (b.drop 8) s)
      else if 2 ≤ updSt s then ((5, []), s.put Fd.UPD_CODES_REFUSE 5)
      else ((0, []), pageWrite (base + off) (b.drop 8) (updEnter 0 (s.lower Fd.UPD_STAT_ARMED)))

/-- The level that WRITE_FLASH needs (R635): operator for staging, owner for a slot. -/
def flashLevel (m : List Byte) : Nat := if numAt m 8 1 = 2 then 1 else 2

/-- The UID of the card last presented. -/
def lastUid (s : State) : List Byte :=
  ((List.range 3).flatMap (fun w => Bits.leBytes 4 (s.regN (Reg.NFC_LASTUID w)))).take (s.get Fd.NFC_LAST_LEN)

/-- A card activated at layer 4 (R485); polling pauses. -/
def cardActivate (found : Bool) (s : State) : (Nat × List Byte) × State :=
  if s.nfc.card.isSome then ((4, []), s)
  else if !readerOn s then ((6, []), s)
  else if found && s.get Fd.NFC_LAST_LEN != 0 then
    ((0, []), setNfc { s.nfc with card := some (lastUid s) } (s.raise Fd.NFC_STAT_L4))
  else ((3, []), s)

/-- An APDU exchanged with the active card (R485), or the card leaves the field. -/
def cardExchange (m : List Byte) (resp : Option (List Byte)) (s : State) : (Nat × List Byte) × State :=
  if s.nfc.card.isNone then ((3, []), s)
  else
    let t := s.emit (.apdu ((mailBody m).drop 4))
    match resp with
    | some r => ((0, r.take 504), t)
    | none => ((3, []), cardEnd t)

/-- A credit transfer (R198): the reply follows the commit that adds it. -/
def mailCredit (p : Path) (m : List Byte) (s : State) : Option (Nat × List Byte) × State :=
  let b := mailBody m
  if b.length ≠ 12 then (some (2, []), s)
  else
    let amount := Bits.signed 64 (numAt b 4 8)
    let x := creditTransfer amount (numAt b 0 4) 2 s
    if x.1 then (none, setMail { x.2.mail with credits := x.2.mail.credits ++ [(p, mailTag m, numAt b 0 4, amount)] } x.2)
    else (some (6, []), x.2)

/-- The replies to credit transfers that the last commit has added (R635), once Q29 has room. -/
def creditReplies (s : State) : State :=
  if 8 ≤ (queue s 29).length then s
  else
  let done := s.mail.credits.filter (fun c => !s.bil.transfers.any (fun x => x == (c.2.2.2, c.2.2.1, 2)))
  let t := setMail { s.mail with credits := s.mail.credits.filter (fun c => !done.contains c) } s
  done.foldl (fun t c => enqueue 29 (mailFrame c.1 (mailMessage 9 0 c.2.1 [])) t) t

/-- HIF_ISRC AND HIF_IEN, which drives HOST_IRQ_N (R639). -/
def irqNow (s : State) : Nat := (isrcWord s &&& s.reg Reg.HIF_IEN).toNat

/-- An IRQ message placed when the sources in force have become non-zero or gained a bit (R639). -/
def irqNotify (s : State) : State :=
  let now := irqNow s
  if now = s.mail.irq then s
  else
    let t := setMail { s.mail with irq := now } s
    let gained := now &&& (now ^^^ s.mail.irq) != 0
    if gained && s.parN Par.HIF_MBPATH == 1 && s.running then notify 0x83 (Bits.leBytes 4 (isrcWord s).toNat) t else t

/-- A rule that always replies. -/
def replies (f : List Byte → State → (Nat × List Byte) × State) : Path → List Byte → State → Option (Nat × List Byte) × State :=
  fun _ m s => let x := f m s; (some x.1, x.2)

/-- MAILBOX_PUSH (R623, R634): whether its CRC is right, the queue, the message. -/
def execMailboxPush (p : Path) (crc : Bool) (q : Nat) (msg : List Byte) (s : State) : Ans := .next (mailPush p crc q msg s)

/-- MAILBOX_POP (R623): whether its CRC is right, the queue. -/
def execMailboxPop (p : Path) (crc : Bool) (q : Nat) (s : State) : Ans := .next (mailPop p crc q s)

/-- MB_READ_WAYBILL (R635). -/
def execMbReadWaybill (s : State) : Ans := .next (mailRun 1 0 31 (fun _ => 0) (replies (fun m t => (readWaybill m t, t))) s)

/-- MB_READ_LOG (R635). -/
def execMbReadLog (s : State) : Ans := .next (mailRun 2 0 31 (fun _ => 0) (replies (fun m t => (readLog m t, t))) s)

/-- MB_READ_PROFILE (R635). -/
def execMbReadProfile (s : State) : Ans := .next (mailRun 3 0 31 (fun _ => 0) (replies (fun m t => (readProfile m t, t))) s)

/-- MB_READ_OUTAGE (R635). -/
def execMbReadOutage (s : State) : Ans := .next (mailRun 4 0 31 (fun _ => 0) (replies (fun m t => (readOutage m t, t))) s)

/-- MB_WRITE_TABLE (R636). -/
def execMbWriteTable (s : State) : Ans := .next (mailRun 5 0 31 (fun _ => 1) (replies writeTable) s)

/-- MB_WRITE_FLASH (R636). -/
def execMbWriteFlash (s : State) : Ans := .next (mailRun 6 0 31 flashLevel (replies writeFlash) s)

/-- MB_CARD_ACTIVATE (R485): whether the card answers. -/
def execMbCardActivate (found : Bool) (s : State) : Ans := .next (mailRun 7 1 30 (fun _ => 1) (replies (fun _ t => cardActivate found t)) s)

/-- MB_CARD_EXCHANGE (R485): the card's response, none when it has left the field. -/
def execMbCardExchange (resp : Option (List Byte)) (s : State) : Ans :=
  .next (mailRun 7 2 30 (fun _ => 1) (replies (fun m t => cardExchange m resp t)) s)

/-- MB_CARD_DESELECT (R485). -/
def execMbCardDeselect (s : State) : Ans :=
  .next (mailRun 7 3 30 (fun _ => 1) (replies (fun _ t => if t.nfc.card.isSome then ((0, []), cardEnd t) else ((3, []), t))) s)

/-- MB_REMOTE_ID (R636). -/
def execMbRemoteId (s : State) : Ans :=
  .next (mailRun 8 0 30 (fun _ => 1) (replies (fun m t =>
    let b := mailBody m
    if b.length < 1 ∨ 64 < b.length then ((2, []), t) else ((0, []), setSes { t.ses with remote := some (b, t.regN Reg.SYS_UPTIME) } t))) s)

/-- MB_CREDIT (R198, R635). -/
def execMbCredit (s : State) : Ans := .next (mailRun 9 0 30 (fun _ => 1) mailCredit s)

end Sys2Proof.Machine
end

