-- ==== Sys2Proof/Machine/SessionApp.lean ====
section
/-!
DEFINITION. The application layers of the charging session (spec/10_charging_session.md R334 to R337): which messages each protocol supports, and
what each does.
-/
namespace Sys2Proof.Machine

/-- Whether the protocol in use supports a message (R336): 1 DIN SPEC 70121, 2 ISO 15118-2, 3 ISO 15118-20. -/
def appSupports (proto : Nat) (m : AppMsg) : Bool :=
  match m with
  | .certificate => false
  | .serviceDetail => proto != 1
  | .paymentDetails => proto != 1
  | .serviceSelection pnc => !pnc || proto != 1
  | .authorization pnc _ => !pnc || proto != 1
  | .chargeParams dc bidir _ _ => (dc || proto != 1) && (!bidir || proto == 3)
  | .scheduleExchange => proto == 3
  | .meteringReceipt => proto != 1
  | .sessionStop pause => !pause || proto == 3
  | .handshake _ => true
  | .sessionSetup => true
  | .serviceDiscovery => true
  | .cableCheck => true
  | .preCharge _ => true
  | .powerDelivery _ => true
  | .chargeLoop _ _ => true
  | .weldingDetection => true

/-- MeterInfo (R336): METER_ID, and the committed A+ or C+ register in Wh. -/
def meterInfo (s : State) : Nat × Nat :=
  (s.regN (Reg.SYS_METERID 1) * 2 ^ 32 + s.regN (Reg.SYS_METERID 0), energyOf s (if s.ses.dc then 8 else 0) 0 / 1000)

/-- Whether discharge is offered (R344). -/
def dischargeOffered (s : State) : Bool :=
  let caps := (s.ses.conv.filter (·.healthy)).filterMap (·.cap)
  s.parB Par.DISCH_EN && caps.all (·.bidir)

/-- The limits reported to the vehicle (R344). -/
def sesLimits (s : State) : Nat × Nat × Nat × Bool :=
  let caps := (s.ses.conv.filter (·.healthy)).filterMap (·.cap)
  if s.ses.dc then
    (min (s.parN Par.EVSE_IMAX_DC) (caps.map (·.imax)).sum, min (s.parN Par.EVSE_PMAX) (caps.map (·.pmax)).sum,
      caps.foldl (fun m c => min m c.vmax) (s.parN Par.EVSE_VMAX_DC), dischargeOffered s)
  else (s.parN Par.EVSE_IMAX_AC, s.parN Par.EVSE_PMAX, 0, s.parB Par.DISCH_EN)

/-- A response (R336, R361): in states 9 and 10 it tells the vehicle of the stop. -/
def appReply (code : AppCode) (limits : Option (Nat × Nat × Nat × Bool)) (meter : Option (Nat × Nat)) (s : State) : State :=
  s.emit (.app ⟨code, s.get Fd.SES_STAT_PROTO, sesSt s == 6 && s.get Fd.EFT_STAT_IMDST == 2, decide (9 ≤ sesSt s), limits, meter⟩)

/-- A response without data. -/
def appSay (code : AppCode) (s : State) : State := appReply code none none s

/-- A message that the session's state does not admit: FAILED, and a stop with reason 10. -/
def appWrong (s : State) : State := appSay .failed (sesStop 10 s)

/-- The protocol chosen in the handshake (R334, R335). -/
def appChoose (offers : List Nat) (s : State) : Option Nat :=
  let order := if s.parN Par.PROTO_PRIO = 0 then [3, 2, 1] else [2, 3, 1]
  order.find? (fun p => (s.parN Par.PROTO_EN).testBit (p - 1) && offers.contains p && (p == 3 || s.get Fd.VPL_STAT_LINK != 2))

/-- The application handshake (R335). -/
def appHandshake (offers : List Nat) (s : State) : State :=
  if sesSt s ≠ 2 ∨ s.ses.setup then appWrong s
  else match appChoose offers s with
    | some p => appSay .ok (s.put Fd.SES_STAT_PROTO p)
    | none => appSay .noNegotiation (sesStop 10 s)

/-- An authorisation request (R338, R341, R343). -/
def appAuthorise (pnc : Bool) (emaid : List Byte) (s : State) : State :=
  if 4 ≤ sesSt s ∧ sesSt s ≤ 8 then appSay .ok s
  else if sesSt s ≠ 3 then appWrong s
  else if s.get Fd.BIL_DISC_STATE = 0 then appSay .failed (sesStop 6 s)
  else if s.on Fd.BIL_STAT_WBFULL then appSay .failed s
  else if !pnc then appSay .ongoing s
  else if !(s.parN Par.AUTH_EN).testBit 5 || s.ses.pncDone == some false then appSay .failed s
  else if s.ses.pnc.isSome || s.ses.wait.isSome then appSay .ongoing s
  else
    let t := setSes { s.ses with pnc := some emaid } s
    appSay .ongoing (if s.on Fd.SES_STAT_HOSTABS then t else authAsk 5 emaid t)

/-- Charge parameter discovery (R336, R344, R349). -/
def appParams (dc bidir : Bool) (vmax pmax : Nat) (s : State) : State :=
  if sesSt s ≠ 4 ∧ sesSt s ≠ 8 then appWrong s
  else if dc != s.ses.dc || (dc && s.get Fd.VPL_STAT_LINK == 2 && s.get Fd.SES_STAT_PROTO != 3) || (!dc && s.get Fd.VPL_STAT_LINK == 2)
      || (bidir && !(sesLimits s).2.2.2) then appSay .failed s
  else
    let t := setSes { s.ses with params := true, vmax := vmax, pmax := some pmax, bidir := bidir } s
    appReply .ok (some (sesLimits t)) none t

/-- Cable check (R330, R347). -/
def appCable (s : State) : State :=
  if !s.ses.dc then appWrong s
  else if sesSt s = 4 ∧ s.ses.params then appSay .ongoing (cableBegin s)
  else if sesSt s = 5 then appSay .ongoing s
  else if sesSt s = 6 then appSay .ok s
  else appWrong s

/-- Pre-charge (R348). -/
def appPrecharge (target : Nat) (s : State) : State :=
  if sesSt s ≠ 6 then appWrong s
  else
    let t := if s.ses.target = target then s else setSes { s.ses with target := target, near := 0, preOk := false } s
    appSay (if t.ses.preOk then .ok else .ongoing) t

/-- State 7 entered (R330). -/
def sesEnergy (s : State) : State := (sesEnter 7 s).raise Fd.SES_EVT_ENERGY

/-- State 8 entered (R330, R351, R362): on an AC post the contactors open. -/
def sesPause (s : State) : State :=
  let t := tok1Show (tokGive 1 0 (sesEnter 8 s))
  let t := setSes { t.ses with ask := 0, steps := 0 } t
  if t.ses.dc then t else { t with x04 := t.x04 ++ [.openAll] }

/-- Power delivery (R330, R336). -/
def appPower (start : Bool) (s : State) : State :=
  if start then
    if sesSt s = 6 ∧ s.ses.preOk then appSay .ok (sesEnergy s)
    else if sesSt s = 4 ∧ !s.ses.dc ∧ s.ses.params then appSay .ok (sesClose s)
    else if sesSt s = 8 then appSay .ok (if s.ses.dc then sesEnergy (siteAsk s) else sesClose (siteAsk s))
    else appWrong s
  else if sesSt s = 7 then appSay .ok (sesPause s)
  else if 4 ≤ sesSt s ∧ sesSt s ≤ 9 then appSay .ok s
  else appWrong s

/-- A charge loop message (R336, R346). -/
def appLoop (byPower : Bool) (ask : Int) (s : State) : State :=
  if sesSt s = 7 then
    let a := if s.ses.bidir then ask else max ask 0
    let t := setSes { s.ses with byPower := byPower, ask := a } s
    appReply .ok none (some (meterInfo t)) t
  else if sesSt s = 9 then appReply .ok none (some (meterInfo s)) s
  else appWrong s

/-- Session stop (R336). -/
def appStop (pause : Bool) (s : State) : State :=
  if pause then
    if sesSt s = 7 then appSay .ok (sesPause s) else if sesSt s = 8 then appSay .ok s else appWrong s
  else appSay .ok (sesStop 2 s)

/-- A decoded message of the vehicle (R336); the session takes none without a link. -/
def appTake (m : AppMsg) (s : State) : State :=
  if sesSt s < 2 ∨ sesSt s = 10 ∨ s.get Fd.VPL_STAT_LINK = 0 then s
  else match m with
    | .handshake offers => appHandshake offers s
    | m =>
      if sesBasic s then appWrong s
      else if !appSupports (s.get Fd.SES_STAT_PROTO) m then appSay .failed s
      else match m with
        | .handshake offers => appHandshake offers s
        | .certificate => appSay .failed s
        | .sessionSetup => if sesSt s = 2 then appSay .ok (setSes { s.ses with setup := true } s) else appWrong s
        | .serviceDiscovery => if s.ses.setup then appSay .ok s else appWrong s
        | .serviceDetail => if s.ses.setup then appSay .ok s else appWrong s
        | .serviceSelection _ => if sesSt s = 2 ∧ s.ses.setup then appSay .ok (sesAuthorise s) else appWrong s
        | .paymentDetails => if s.ses.setup then appSay .ok s else appWrong s
        | .authorization pnc emaid => appAuthorise pnc emaid s
        | .chargeParams dc bidir vmax pmax => appParams dc bidir vmax pmax s
        | .scheduleExchange => if 4 ≤ sesSt s then appSay .ok s else appWrong s
        | .cableCheck => appCable s
        | .preCharge target => appPrecharge target s
        | .powerDelivery start => appPower start s
        | .chargeLoop byPower ask => appLoop byPower ask s
        | .meteringReceipt => if 4 ≤ sesSt s then appSay .ok s else appWrong s
        | .weldingDetection => if s.ses.dc ∧ 4 ≤ sesSt s then appSay .ok s else appWrong s
        | .sessionStop pause => appStop pause s

/-- SECC_DISCOVERY_REQUEST (R334). -/
def execSeccDiscoveryRequest (s : State) : Ans := awake .vehicleLink s <| .next (if s.get Fd.VPL_STAT_LINK ≠ 0 then s.emit .secc else s)

/-- APPLICATION_REQUEST (R336). -/
def execApplicationRequest (m : AppMsg) (s : State) : Ans := .next (appTake m s)

/-- PROTOCOL_TIMEOUT (R337): a limit of R337 has elapsed. -/
def execProtocolTimeout (s : State) : Ans := .next (if s.get Fd.VPL_STAT_LINK ≠ 0 ∧ 2 ≤ sesSt s ∧ sesSt s ≤ 8 then sesStop 10 s else s)

end Sys2Proof.Machine
end

