-- ==== Sys2Proof/Machine/Cross.lean ====
section
/-!
DEFINITION. The commands whose effect reaches several islands at once: a block and its values, the billing tick and its commits, the PTP
comparison, and what the Signal Box's reset, telegrams, tests and reports set off elsewhere.
-/
namespace Sys2Proof.Machine

/-- A word of X02 reaches the Signal Box (R246): cause METRO can end 1 s later. -/
def x02Word (s : State) : State :=
  { s with saf := { s.saf with metroSeen := true, metroBack := s.saf.metroBack || causeOn s 14 } }

/-- Whether every DC current lies below 1 % of its IMAX (R243 step 4), on a post that measures one. -/
def dcQuiet (s : State) : Bool :=
  let used := ([4, 5] : List Nat).filter (roleUsed s)
  !used.isEmpty && used.all (fun r => decide (100 * (s.regI (Reg.MTR_IDC (r - 4))).natAbs < channelImax s (r - 1)))

/-- The DC values of a block reported over X02 (R243 step 4): a second block in a row with every current low opens the contactors early. -/
def earlyOpen (s : State) : State :=
  let t := { s with saf := { s.saf with dcLow := if dcQuiet s then s.saf.dcLow + 1 else 0 } }
  if t.saf.outWait ∧ 2 ≤ t.saf.dcLow then contactorsOff t else t

/-- METROLOGY_BLOCK (R128): the codes of each role, the bit-streams with edges, and the upsets of the two engines' records. -/
def execMetrologyBlock (raws : List (List Int)) (edges : Nat) (dev0 dev1 : List Int) (s : State) : Ans :=
  .next (if s.on Fd.AFE_STAT_READY && s.running && !s.held .metrology then
      relayReady (x02Word (rcmBlock raws (ptsBlock raws edges dev0 dev1 s)))
    else s)

/-- INSTANT_VALUES_UPDATE (R129): sent over X00 to the session and over X02 to the Signal Box. -/
def execInstantValuesUpdate (m : InstMeas) (s : State) : Ans :=
  .next (if s.on Fd.MTR_STAT_READY && s.running && !s.held .metrology then sesInstant (earlyOpen (x02Word (instUpdate m s))) else s)

/-- What follows a commit: the disconnect control and the session see its requests (R234, R235), credit transfers are answered (R635), and the
snapshot is rewritten when a session has ended (R488). before: the state before the commit. -/
def afterCommit (before t : State) : State :=
  let u := creditReplies (sesDisconnect (discUpdate 0 1 t))
  if u.bil.sess.length < before.bil.sess.length then tagRefresh u else u

/-- A second of SYS_UPTIME, of the ages of the Amene nodes, and each hour of the ages of the tests (SYS_UPTIME, AMB_NODEX, EFT_TESTAGE). -/
def ageTick (s : State) : State :=
  let t := s.bumpReg Reg.SYS_UPTIME
  let t := upTo 256 (fun n u => if nodeSt u n = 0 then u else u.bump (Fd.AMB_NODEX_AGE n)) t
  if t.regN Reg.SYS_UPTIME % 3600 = 0 then tripShow ((t.bump Fd.EFT_TESTAGE_TRIP).bump Fd.EFT_TESTAGE_RCM) else t

/-- BILLING_TICK (R173): the next second begins; while the module does not run, the clock alone counts (R207). -/
def execBillingTick (s : State) : Ans :=
  .next (if s.held .battery || s.pow.dark then s
    else if supplyAbsent s || !s.running then slewTick (s.setRegN Reg.BTM_TIME (s.regN Reg.BTM_TIME + 1))
    else afterCommit s (ageTick (nextTick s)))

/-- SECOND_COMMIT (R177): the oldest second that is due. -/
def execSecondCommit (s : State) : Ans := .next (if s.bil.due.isEmpty then s else afterCommit s (commitDue 0 false s))

/-- CLOCK_STEP_APPLY (R215): the tick of a step that nothing holds. -/
def execClockStepApply (s : State) : Ans :=
  .next (match s.btm.step with
    | some x =>
      if s.running && !supplyAbsent s && !s.held .battery && (x.lost || !stepHeld s) then afterCommit s (ageTick (nextTick s)) else s
    | none => s)

/-- The difference of PTP time from the billing clock (R208, R416) in ns; frac is what has passed of the running second, in ns. -/
def ptpDiff (s : State) (frac : Nat) : Int :=
  s.eth.st - (s.regN Reg.PTP_UTC + 946684800 : Nat) * 1000000000 - (s.regN Reg.BTM_TIME * 1000000000 + frac : Nat)

/-- PTP_CLOCK_COMPARE (R208, R213, R416): stable tells that the module has held lock for 60 s with the offset stable within 1 ms. -/
def execPtpClockCompare (frac : Nat) (stable : Bool) (s : State) : Ans :=
  .next (if s.parN Par.PTP_DISC = 0 ∨ !s.on Fd.BTM_STAT_PTPLOCK ∨ s.held .battery then s
    else
      let d := ptpDiff s frac
      let ms := Exact.toInt ((d : Rat) / 1000000)
      let target := ((d + (s.regN Reg.BTM_TIME * 1000000000 + frac : Nat)) / 1000000000).toNat
      if ms = 0 ∧ s.on Fd.BTM_STAT_VALID then s
      else if s.parN Par.PTP_DISC = 2 ∧ !stable ∧ s.on Fd.BTM_STAT_VALID ∧ s.parN Par.ADJ_LIM * 1000 < ms.natAbs then
        refuseAdjust 3 ((target : Int) - (s.regN Reg.BTM_TIME + 1 : Nat)) s
      else clockAdjust 3 ms target false s)

/-- SAFE_RESET_RELEASE (R255, R266, R267): held is the length of the press in ms, since the ms since the last accepted one, refire the trip
comparators that set a latch again. A confirmation is shown (R524), and a set that comes into force arms the comparators. -/
def execSafeResetRelease (held since refire : Nat) (s : State) : Ans :=
  let t := resetRelease held since refire s
  let wrote := unconfirmed s && (t.saf.record != s.saf.record || !unconfirmed t)
  let u := if unconfirmed s && !unconfirmed t then tripArm t else t
  .next (if wrote then lcdConfirmed u else u)

/-- SAFE_TELEGRAM_SEND (R261, R422): time is the Signal Box's clock, in µs; the telegram leaves on both ports at once. -/
def execSafeTelegramSend (time : Nat) (s : State) : Ans :=
  .next (if s.running && !s.held .signalBox then
      let x := telegramNext time s
      let f := fun (p : Nat) => taggedFrame (groupMac 1) (Config.portMac p) (s.parN Par.STG_PCP) (s.parN Par.ETH_VID) 0x88B5
        (x.1 ++ List.replicate 10 0)
      if s.held .siteLink then x.2
      else ([0, 1].filter (portUp s)).foldl (fun t p => (t.bumpReg (Reg.ETH_PCNT (8 * p))).emit (.eth p (f p) none)) x.2
    else s)

/-- IMD_HALF_CYCLE_END (R279, R347): the mean of IMD_SNS in µV, the mean DC voltage in mV, and the time in µs that PE took for 63 % of its
change; the cable check counts completed cycles. -/
def execImdHalfCycleEnd (sns vdc : Int) (rise : Nat) (s : State) : Ans := awake .metrology s <|
  let t := imdHalf sns vdc rise s
  .next (if imdOn s && !s.saf.imd.positive then cableCycle (t.saf.imd.since == 0) t else t)

/-- What the session makes of a stop reaction's cause (R361, R362). -/
def statusCause (n : Nat) (s : State) : State :=
  if n = 19 then s
  else if n = 16 ∧ s.saf.pilot = 0 then sesTripped 1 s
  else if n = 16 ∧ s.saf.pilot = 1 ∧ sesSt s = 7 ∧ sesBasic s ∧ !s.ses.dc then sesPause s
  else sesTripped 7 s

/-- A report of the Signal Box taken by the Core island (R242, R289, R292, R293, R330, R361). -/
def statusTake (r : SafReport) (s : State) : State :=
  match r with
  | .cause n => statusCause n s
  | .ended => if s.get Fd.BIL_DISC_STATE = 1 ∧ s.saf.relayHeld then relayClose false s else s
  | .closed =>
    let t := tokRelease 0 1 s
    if (sesSt t = 4 ∨ sesSt t = 8) ∧ !t.ses.dc then sesEnergy t else t
  | .refused reason _ =>
    let t := tokGive 0 1 s
    if 4 ≤ sesSt t ∧ sesSt t ≤ 8 then sesStop 7 (setSes { t.ses with refuse := reason } t) else t
  | .opened => s
  | .uncommanded => sesTripped 7 s
  | .idle => tripPass s

/-- SAFETY_STATUS_RECEIVE (R242): the oldest report on X03. -/
def execSafetyStatusReceive (s : State) : Ans :=
  .next (match s.x03 with
    | r :: l => if s.running then sesEndCheck (statusTake r { s with x03 := l }) else s
    | [] => s)

/-- CONTACTOR_FEEDBACK_CHANGE (R295, R361): the levels on the two read paths of output n, or of the disconnect relay at 4. time: since the
last command, in 0.1 ms. -/
def execContactorFeedbackChange (n : Nat) (a b : Bool) (time : Nat) (s : State) : Ans := awake .signalBox s <| .next (sesEndCheck (fbTake n a b time s))

/-- SO_OUTPUT_OVERCURRENT (R672): output n turns off after its limit; the command stands, so that its feedback acts under R295. -/
def execSoOutputOvercurrent (n : Nat) (s : State) : Ans := awake .signalBox s <|
  .next (if n < 4 ∧ s.bitOf Reg.SAF_OUT n then s.putBit Reg.SAF_OUT n false else s)

end Sys2Proof.Machine
end

