-- ==== Sys2Proof/Machine/Dispatch.lean ====
section
/-!
DEFINITION. exec: what each command does to the module, everything but the queue (step takes the command off it). One arm per
constructor of Instr, each a direct call of the command's meaning.
-/
namespace Sys2Proof.Machine

def exec (i : Instr) (s : State) : Host.Outcome State Fault Refusal :=
  match i with
  | .crossingWordWrite x w => Sys2Proof.Machine.execCrossingWordWrite x w s
  | .crossingHeldWordAccept x => Sys2Proof.Machine.execCrossingHeldWordAccept x s
  | .crossingLossDetect x late save => Sys2Proof.Machine.execCrossingLossDetect x late save s
  | .crossingStatsClear p bits => Sys2Proof.Machine.execCrossingStatsClear p bits s
  | .timetablePeriodStart k waiting => Sys2Proof.Machine.execTimetablePeriodStart k waiting s
  | .timetableSlotGrant k waiting work late save => Sys2Proof.Machine.execTimetableSlotGrant k waiting work late save s
  | .useStatsClear p => Sys2Proof.Machine.execUseStatsClear p s
  | .tokenRequest kind id inrush => Sys2Proof.Machine.execTokenRequest kind id inrush s
  | .tokenRelease kind id => Sys2Proof.Machine.execTokenRelease kind id s
  | .baselineRecompute pin => Sys2Proof.Machine.execBaselineRecompute pin s
  | .tokenRequestWithdraw kind id => Sys2Proof.Machine.execTokenRequestWithdraw kind id s
  | .tokenWaitTimeout kind id => Sys2Proof.Machine.execTokenWaitTimeout kind id s
  | .tokenHoldOverrun kind id => Sys2Proof.Machine.execTokenHoldOverrun kind id s
  | .laneFaultDetect k beat conv => Sys2Proof.Machine.execLaneFaultDetect k beat conv s
  | .laneRoleMove k => Sys2Proof.Machine.execLaneRoleMove k s
  | .stuckStreamDetect n beat => Sys2Proof.Machine.execStuckStreamDetect n beat s
  | .rotationStep m => Sys2Proof.Machine.execRotationStep m s
  | .trimStore => Sys2Proof.Machine.execTrimStore s
  | .metrologyBlock raws edges dev0 dev1 => Sys2Proof.Machine.execMetrologyBlock raws edges dev0 dev1 s
  | .instantValuesUpdate m => Sys2Proof.Machine.execInstantValuesUpdate m s
  | .correctionSetApply => Sys2Proof.Machine.execCorrectionSetApply s
  | .engineDeadlineMiss e => Sys2Proof.Machine.execEngineDeadlineMiss e s
  | .engineSelfCheckError e => Sys2Proof.Machine.execEngineSelfCheckError e s
  | .commitMarkSnapshot => Sys2Proof.Machine.execCommitMarkSnapshot s
  | .engineSelfTestDone e pass => Sys2Proof.Machine.execEngineSelfTestDone e pass s
  | .selfTestRetry e pass => Sys2Proof.Machine.execSelfTestRetry e pass s
  | .plannedSelfTestDue => Sys2Proof.Machine.execPlannedSelfTestDue s
  | .selfTestNow p => Sys2Proof.Machine.execSelfTestNow p s
  | .warmupEnd e => Sys2Proof.Machine.execWarmupEnd e s
  | .shadowPromote e => Sys2Proof.Machine.execShadowPromote e s
  | .shadowTimeout e => Sys2Proof.Machine.execShadowTimeout e s
  | .trialStart p => Sys2Proof.Machine.execTrialStart p s
  | .trialEnd p => Sys2Proof.Machine.execTrialEnd p s
  | .trialMaxExpiry => Sys2Proof.Machine.execTrialMaxExpiry s
  | .mismatchCountClear p => Sys2Proof.Machine.execMismatchCountClear p s
  | .blockRecordAttribute => Sys2Proof.Machine.execBlockRecordAttribute s
  | .billingTick => Sys2Proof.Machine.execBillingTick s
  | .secondCommit => Sys2Proof.Machine.execSecondCommit s
  | .waybillSigned => Sys2Proof.Machine.execWaybillSigned s
  | .waybillSignRetry => Sys2Proof.Machine.execWaybillSignRetry s
  | .viewSnap p => Sys2Proof.Machine.execViewSnap p s
  | .viewRelease p => Sys2Proof.Machine.execViewRelease p s
  | .viewSnapTimeout => Sys2Proof.Machine.execViewSnapTimeout s
  | .lowWordLatchRead p addr => Sys2Proof.Machine.execLowWordLatchRead p addr s
  | .creditTransferReceive amount number src => Sys2Proof.Machine.execCreditTransferReceive amount number src s
  | .rtcTemperatureTrim temp => Sys2Proof.Machine.execRtcTemperatureTrim temp s
  | .ptpClockCompare frac stable => Sys2Proof.Machine.execPtpClockCompare frac stable s
  | .learnedTrimStore mean => Sys2Proof.Machine.execLearnedTrimStore mean s
  | .dstChange => Sys2Proof.Machine.execDstChange s
  | .clockAdjustment src newMs frac => Sys2Proof.Machine.execClockAdjustment src newMs frac s
  | .clockSetGo p frac => Sys2Proof.Machine.execClockSetGo p frac s
  | .clockReset p frac => Sys2Proof.Machine.execClockReset p frac s
  | .clockStepApply => Sys2Proof.Machine.execClockStepApply s
  | .slewComplete => Sys2Proof.Machine.execSlewComplete s
  | .tamperPoll cover term => Sys2Proof.Machine.execTamperPoll cover term s
  | .outageBurst rms => Sys2Proof.Machine.execOutageBurst rms s
  | .vbatMeasure mv => Sys2Proof.Machine.execVbatMeasure mv s
  | .hostDisconnect p => Sys2Proof.Machine.execHostDisconnect p s
  | .hostReconnect p => Sys2Proof.Machine.execHostReconnect p s
  | .relayFeedbackTimeout shown => Sys2Proof.Machine.execRelayFeedbackTimeout shown s
  | .relayCloseRetry => Sys2Proof.Machine.execRelayCloseRetry s
  | .relayFeedbackUncommanded level => Sys2Proof.Machine.execRelayFeedbackUncommanded level s
  | .lockstepFault => Sys2Proof.Machine.execLockstepFault s
  | .safetyCycle who => Sys2Proof.Machine.execSafetyCycle who s
  | .contactorDelayExpiry => Sys2Proof.Machine.execContactorDelayExpiry s
  | .discrepancyTimeout pair => Sys2Proof.Machine.execDiscrepancyTimeout pair s
  | .inputTestPulse tp closed wrong => Sys2Proof.Machine.execInputTestPulse tp closed wrong s
  | .outputTestPulse output pass => Sys2Proof.Machine.execOutputTestPulse output pass s
  | .outputOffCheck output conducts => Sys2Proof.Machine.execOutputOffCheck output conducts s
  | .safeResetRelease held since refire => Sys2Proof.Machine.execSafeResetRelease held since refire s
  | .resetStuckTimeout => Sys2Proof.Machine.execResetStuckTimeout s
  | .sealChange pattern => Sys2Proof.Machine.execSealChange pattern s
  | .coreWordReceive seed => Sys2Proof.Machine.execCoreWordReceive seed s
  | .coreTimeout => Sys2Proof.Machine.execCoreTimeout s
  | .metroTimeout => Sys2Proof.Machine.execMetroTimeout s
  | .causeResumeHoldEnd n => Sys2Proof.Machine.execCauseResumeHoldEnd n s
  | .closeRequest => Sys2Proof.Machine.execCloseRequest s
  | .closeFeedbackDone => Sys2Proof.Machine.execCloseFeedbackDone s
  | .openRequest => Sys2Proof.Machine.execOpenRequest s
  | .contactorFeedbackChange n a b time => Sys2Proof.Machine.execContactorFeedbackChange n a b time s
  | .contactorFeedbackTimeout n => Sys2Proof.Machine.execContactorFeedbackTimeout n s
  | .weldCheckTimeout => Sys2Proof.Machine.execWeldCheckTimeout s
  | .weldClear => Sys2Proof.Machine.execWeldClear s
  | .safeTelegramSend time => Sys2Proof.Machine.execSafeTelegramSend time s
  | .safeTelegramReceive arrival => Sys2Proof.Machine.execSafeTelegramReceive arrival s
  | .telegramTimeout c => Sys2Proof.Machine.execTelegramTimeout c s
  | .rcmSelfTestStart => Sys2Proof.Machine.execRcmSelfTestStart s
  | .rcmSelfTestRequest p => Sys2Proof.Machine.execRcmSelfTestRequest p s
  | .rcmSelfTestDone plus minus => Sys2Proof.Machine.execRcmSelfTestDone plus minus s
  | .rcmSelfTestRetry => Sys2Proof.Machine.execRcmSelfTestRetry s
  | .imdHalfCycleEnd sns vdc rise => Sys2Proof.Machine.execImdHalfCycleEnd sns vdc rise s
  | .dcTripFire m => Sys2Proof.Machine.execDcTripFire m s
  | .tripPathTestDue => Sys2Proof.Machine.execTripPathTestDue s
  | .tripPathTestRequest p => Sys2Proof.Machine.execTripPathTestRequest p s
  | .tripPathTestStart => Sys2Proof.Machine.execTripPathTestStart s
  | .tripPathTestDone pairs laneA laneB clear => Sys2Proof.Machine.execTripPathTestDone pairs laneA laneB clear s
  | .pilotDemandReceive => Sys2Proof.Machine.execPilotDemandReceive s
  | .pilotSessionRequest word => Sys2Proof.Machine.execPilotSessionRequest word s
  | .pilotX06Silence => Sys2Proof.Machine.execPilotX06Silence s
  | .pilotStateChange high low age => Sys2Proof.Machine.execPilotStateChange high low age s
  | .proximityMeasure mohm => Sys2Proof.Machine.execProximityMeasure mohm s
  | .gpBurstTransmit n => Sys2Proof.Machine.execGpBurstTransmit n s
  | .gpFrameReceive prio bytes => Sys2Proof.Machine.execGpFrameReceive prio bytes s
  | .cmSlacParmReq runId mac security age => Sys2Proof.Machine.execCmSlacParmReq runId mac security age s
  | .cmMnbcSoundInd runId groups => Sys2Proof.Machine.execCmMnbcSoundInd runId groups s
  | .soundingEnd => Sys2Proof.Machine.execSoundingEnd s
  | .slacInitTimeout => Sys2Proof.Machine.execSlacInitTimeout s
  | .cmAttenCharRsp runId => Sys2Proof.Machine.execCmAttenCharRsp runId s
  | .attenCharRepeatTimeout => Sys2Proof.Machine.execAttenCharRepeatTimeout s
  | .cmValidateReq => Sys2Proof.Machine.execCmValidateReq s
  | .toggleWindowEnd count => Sys2Proof.Machine.execToggleWindowEnd count s
  | .cmSlacMatchReq runId mac => Sys2Proof.Machine.execCmSlacMatchReq runId mac s
  | .matchWaitTimeout => Sys2Proof.Machine.execMatchWaitTimeout s
  | .coordReportReceive => Sys2Proof.Machine.execCoordReportReceive s
  | .coordWindowEnd => Sys2Proof.Machine.execCoordWindowEnd s
  | .coordWithdrawReceive since => Sys2Proof.Machine.execCoordWithdrawReceive since s
  | .t1sFrameReceive prio bytes => Sys2Proof.Machine.execT1sFrameReceive prio bytes s
  | .t1sLinkTimeout => Sys2Proof.Machine.execT1sLinkTimeout s
  | .sessionPilotEvent => Sys2Proof.Machine.execSessionPilotEvent s
  | .seccDiscoveryRequest => Sys2Proof.Machine.execSeccDiscoveryRequest s
  | .applicationRequest m => Sys2Proof.Machine.execApplicationRequest m s
  | .protocolTimeout => Sys2Proof.Machine.execProtocolTimeout s
  | .heldCardExpiry => Sys2Proof.Machine.execHeldCardExpiry s
  | .hostAuthAccept p tag => Sys2Proof.Machine.execHostAuthAccept p tag s
  | .hostAuthReject p tag => Sys2Proof.Machine.execHostAuthReject p tag s
  | .hostAuthRevoke p => Sys2Proof.Machine.execHostAuthRevoke p s
  | .authWaitTimeout => Sys2Proof.Machine.execAuthWaitTimeout s
  | .pncChainCheckDone pass => Sys2Proof.Machine.execPncChainCheckDone pass s
  | .hostRemoteStart p => Sys2Proof.Machine.execHostRemoteStart p s
  | .hostSessionStop p => Sys2Proof.Machine.execHostSessionStop p s
  | .hostAbsent => Sys2Proof.Machine.execHostAbsent s
  | .limitUpdate => Sys2Proof.Machine.execLimitUpdate s
  | .setpointUpdate => Sys2Proof.Machine.execSetpointUpdate s
  | .cableCheckTimeout => Sys2Proof.Machine.execCableCheckTimeout s
  | .prechargeTimeout => Sys2Proof.Machine.execPrechargeTimeout s
  | .siteGrantArrival => Sys2Proof.Machine.execSiteGrantArrival s
  | .siteLeaseRenew => Sys2Proof.Machine.execSiteLeaseRenew s
  | .siteLeaseExpiry => Sys2Proof.Machine.execSiteLeaseExpiry s
  | .pauseTokenRelease => Sys2Proof.Machine.execPauseTokenRelease s
  | .converterSetptSend => Sys2Proof.Machine.execConverterSetptSend s
  | .converterSyncSend => Sys2Proof.Machine.execConverterSyncSend s
  | .converterStatusReceive port n f => Sys2Proof.Machine.execConverterStatusReceive port n f s
  | .converterCapabReceive port n f => Sys2Proof.Machine.execConverterCapabReceive port n f s
  | .converterStatusTimeout n => Sys2Proof.Machine.execConverterStatusTimeout n s
  | .stopTimeout => Sys2Proof.Machine.execStopTimeout s
  | .keyGenerate p => Sys2Proof.Machine.execKeyGenerate p s
  | .keyWrite p => Sys2Proof.Machine.execKeyWrite p s
  | .keyImport p => Sys2Proof.Machine.execKeyImport p s
  | .keyInvalidate p => Sys2Proof.Machine.execKeyInvalidate p s
  | .keyDestroy p => Sys2Proof.Machine.execKeyDestroy p s
  | .keyReadpub p => Sys2Proof.Machine.execKeyReadpub p s
  | .orphanZero => Sys2Proof.Machine.execOrphanZero s
  | .keyDataExpiry => Sys2Proof.Machine.execKeyDataExpiry s
  | .cryptoRequest r => Sys2Proof.Machine.execCryptoRequest r s
  | .cryptoOperationDone cls => Sys2Proof.Machine.execCryptoOperationDone cls s
  | .drbgReseed healthy => Sys2Proof.Machine.execDrbgReseed healthy s
  | .ethFrameSend w hold dt => Sys2Proof.Machine.execEthFrameSend w hold dt s
  | .frameLaunch dt => Sys2Proof.Machine.execFrameLaunch dt s
  | .ethFrameReceive p f fcs dt => Sys2Proof.Machine.execEthFrameReceive p f fcs dt s
  | .nodeEntryExpiry src => Sys2Proof.Machine.execNodeEntryExpiry src s
  | .supervisionFrameSend => Sys2Proof.Machine.execSupervisionFrameSend s
  | .groupMessageReceive p m => Sys2Proof.Machine.execGroupMessageReceive p m s
  | .telegramFrameFilter p f => Sys2Proof.Machine.execTelegramFrameFilter p f s
  | .ptpSyncReceive p dom seq twoStep origin corr residence dt => Sys2Proof.Machine.execPtpSyncReceive p dom seq twoStep origin corr residence dt s
  | .ptpAnnounceReceive p dom gm rank utc => Sys2Proof.Machine.execPtpAnnounceReceive p dom gm rank utc s
  | .announceTimeout p dom => Sys2Proof.Machine.execAnnounceTimeout p dom s
  | .ptpSyncSend dt => Sys2Proof.Machine.execPtpSyncSend dt s
  | .revertTimeout => Sys2Proof.Machine.execRevertTimeout s
  | .stSlewComplete => Sys2Proof.Machine.execStSlewComplete s
  | .ppsSecond => Sys2Proof.Machine.execPpsSecond s
  | .evtInEdge dt => Sys2Proof.Machine.execEvtInEdge dt s
  | .ethLinkUp p speed => Sys2Proof.Machine.execEthLinkUp p speed s
  | .ethLinkDown p => Sys2Proof.Machine.execEthLinkDown p s
  | .portEnableWrite p w => Sys2Proof.Machine.execPortEnableWrite p w s
  | .canBusOff k => Sys2Proof.Machine.execCanBusOff k s
  | .pollSend joinDue ref => Sys2Proof.Machine.execPollSend joinDue ref s
  | .pollReceive rx another => Sys2Proof.Machine.execPollReceive rx another s
  | .respSlotStart k => Sys2Proof.Machine.execRespSlotStart k s
  | .respReceive k rx => Sys2Proof.Machine.execRespReceive k rx s
  | .slotFail k => Sys2Proof.Machine.execSlotFail k s
  | .joinackReceive => Sys2Proof.Machine.execJoinackReceive s
  | .joinConflictRetry => Sys2Proof.Machine.execJoinConflictRetry s
  | .slaveLost => Sys2Proof.Machine.execSlaveLost s
  | .busyNodeSlow n => Sys2Proof.Machine.execBusyNodeSlow n s
  | .ameneFrameReceive rx => Sys2Proof.Machine.execAmeneFrameReceive rx s
  | .zcEdge time => Sys2Proof.Machine.execZcEdge time s
  | .powerShareRun => Sys2Proof.Machine.execPowerShareRun s
  | .shareReqReceive => Sys2Proof.Machine.execShareReqReceive s
  | .shareRelReceive => Sys2Proof.Machine.execShareRelReceive s
  | .heldPowerExpiry post => Sys2Proof.Machine.execHeldPowerExpiry post s
  | .setparReceive => Sys2Proof.Machine.execSetparReceive s
  | .bridgedMessageReceive => Sys2Proof.Machine.execBridgedMessageReceive s
  | .dlmsAarq assoc wPort challenge => Sys2Proof.Machine.execDlmsAarq assoc wPort challenge s
  | .hlsPass3 r sig => Sys2Proof.Machine.execHlsPass3 r sig s
  | .hlsTimeout assoc => Sys2Proof.Machine.execHlsTimeout assoc s
  | .associationIdleTimeout assoc => Sys2Proof.Machine.execAssociationIdleTimeout assoc s
  | .dlmsGet r ask => Sys2Proof.Machine.execDlmsGet r ask s
  | .dlmsClockSet r newMs frac => Sys2Proof.Machine.execDlmsClockSet r newMs frac s
  | .dlmsShiftTime r seconds => Sys2Proof.Machine.execDlmsShiftTime r seconds s
  | .dlmsBillingEndCommand r value => Sys2Proof.Machine.execDlmsBillingEndCommand r value s
  | .dlmsCreditTransfer r amount number => Sys2Proof.Machine.execDlmsCreditTransfer r amount number s
  | .dlmsCalendarWrite r part => Sys2Proof.Machine.execDlmsCalendarWrite r part s
  | .activatePassiveCalendar r => Sys2Proof.Machine.execActivatePassiveCalendar r s
  | .specialDayInsert r who year month day profile => Sys2Proof.Machine.execSpecialDayInsert r who year month day profile s
  | .specialDayDelete r who => Sys2Proof.Machine.execSpecialDayDelete r who s
  | .stagingTimeout => Sys2Proof.Machine.execStagingTimeout s
  | .remoteDisconnect r => Sys2Proof.Machine.execRemoteDisconnect r s
  | .remoteReconnect r => Sys2Proof.Machine.execRemoteReconnect r s
  | .readerPoll ext cards => Sys2Proof.Machine.execReaderPoll ext cards s
  | .layer4IdleTimeout => Sys2Proof.Machine.execLayer4IdleTimeout s
  | .listAdd p len => Sys2Proof.Machine.execListAdd p len s
  | .listRemove p len => Sys2Proof.Machine.execListRemove p len s
  | .listClear p => Sys2Proof.Machine.execListClear p s
  | .tagSnapshotRefresh => Sys2Proof.Machine.execTagSnapshotRefresh s
  | .tagFieldDetect => Sys2Proof.Machine.execTagFieldDetect s
  | .tagFieldLost secs => Sys2Proof.Machine.execTagFieldLost secs s
  | .tagPowerRemove => Sys2Proof.Machine.execTagPowerRemove s
  | .tagWupaReqa wupa anticoll ms => Sys2Proof.Machine.execTagWupaReqa wupa anticoll ms s
  | .tagRats => Sys2Proof.Machine.execTagRats s
  | .tagHlta => Sys2Proof.Machine.execTagHlta s
  | .tagDeselect => Sys2Proof.Machine.execTagDeselect s
  | .tagSelect aid => Sys2Proof.Machine.execTagSelect aid s
  | .tagRead off le => Sys2Proof.Machine.execTagRead off le s
  | .tagWrite off data => Sys2Proof.Machine.execTagWrite off data s
  | .tagStatus le secs => Sys2Proof.Machine.execTagStatus le secs s
  | .tagUnknownCommand => Sys2Proof.Machine.execTagUnknownCommand s
  | .tagTimeLimit secs => Sys2Proof.Machine.execTagTimeLimit secs s
  | .tagIgnoreEnd => Sys2Proof.Machine.execTagIgnoreEnd s
  | .hostTagWrite p page => Sys2Proof.Machine.execHostTagWrite p page s
  | .loadSwitchCommand p n on => Sys2Proof.Machine.execLoadSwitchCommand p n on s
  | .loadSwitchClearLatch p n => Sys2Proof.Machine.execLoadSwitchClearLatch p n s
  | .lswTokenGranted n => Sys2Proof.Machine.execLswTokenGranted n s
  | .lswTokenRefused n reason => Sys2Proof.Machine.execLswTokenRefused n reason s
  | .lswTokenRetry n => Sys2Proof.Machine.execLswTokenRetry n s
  | .inrushWindowClose n => Sys2Proof.Machine.execInrushWindowClose n s
  | .overcurrentTrip n => Sys2Proof.Machine.execOvercurrentTrip n s
  | .shortTrip n => Sys2Proof.Machine.execShortTrip n s
  | .thermalTrip n oc => Sys2Proof.Machine.execThermalTrip n oc s
  | .thermalLatchClear n => Sys2Proof.Machine.execThermalLatchClear n s
  | .retryTimerExpiry n => Sys2Proof.Machine.execRetryTimerExpiry n s
  | .retryCountReset n => Sys2Proof.Machine.execRetryCountReset n s
  | .vlsUndervoltage mv => Sys2Proof.Machine.execVlsUndervoltage mv s
  | .vlsRecovery mv => Sys2Proof.Machine.execVlsRecovery mv s
  | .lowSideOpen n => Sys2Proof.Machine.execLowSideOpen n s
  | .lowSideRestored n => Sys2Proof.Machine.execLowSideRestored n s
  | .limpInputChange low lh => Sys2Proof.Machine.execLimpInputChange low lh s
  | .limpTimeout => Sys2Proof.Machine.execLimpTimeout s
  | .serviceWordReceive image => Sys2Proof.Machine.execServiceWordReceive image s
  | .loadDiagnostic n cur temp opened stuck => Sys2Proof.Machine.execLoadDiagnostic n cur temp opened stuck s
  | .displayPageAdvance => Sys2Proof.Machine.execDisplayPageAdvance s
  | .displayStale => Sys2Proof.Machine.execDisplayStale s
  | .displayFrameReadback misses => Sys2Proof.Machine.execDisplayFrameReadback misses s
  | .confirmedDisplayEnd => Sys2Proof.Machine.execConfirmedDisplayEnd s
  | .displayHold p => Sys2Proof.Machine.execDisplayHold p s
  | .displayNext p => Sys2Proof.Machine.execDisplayNext p s
  | .lanternPowerUp vlcd => Sys2Proof.Machine.execLanternPowerUp vlcd s
  | .vlcdRailRetry vlcd => Sys2Proof.Machine.execVlcdRailRetry vlcd s
  | .paramRead p cmd => Sys2Proof.Machine.execParamRead p cmd s
  | .paramWrite p cmd => Sys2Proof.Machine.execParamWrite p cmd s
  | .updateArm p mv => Sys2Proof.Machine.execUpdateArm p mv s
  | .updateDisarm p => Sys2Proof.Machine.execUpdateDisarm p s
  | .ownerLockCommand p => Sys2Proof.Machine.execOwnerLockCommand p s
  | .updateCheckDone ok => Sys2Proof.Machine.execUpdateCheckDone ok s
  | .updateCopyDone bad => Sys2Proof.Machine.execUpdateCopyDone bad s
  | .updateSwitchEval vbat => Sys2Proof.Machine.execUpdateSwitchEval vbat s
  | .trialServicesReport => Sys2Proof.Machine.execTrialServicesReport s
  | .updateTrialTimeout => Sys2Proof.Machine.execUpdateTrialTimeout s
  | .firmwareFaultReport => Sys2Proof.Machine.execFirmwareFaultReport s
  | .vsysRise mv => Sys2Proof.Machine.execVsysRise mv s
  | .powerGood who => Sys2Proof.Machine.execPowerGood who s
  | .powerFailWarning mv late save => Sys2Proof.Machine.execPowerFailWarning mv late save s
  | .powerFailRelease mv => Sys2Proof.Machine.execPowerFailRelease mv s
  | .saveRestart late dur => Sys2Proof.Machine.execSaveRestart late dur s
  | .brownOut ms => Sys2Proof.Machine.execBrownOut ms s
  | .clockFault who spareOk late save => Sys2Proof.Machine.execClockFault who spareOk late save s
  | .batteryCrystalFault => Sys2Proof.Machine.execBatteryCrystalFault s
  | .batterySpareReturn ok err => Sys2Proof.Machine.execBatterySpareReturn ok err s
  | .xbCalibrate p => Sys2Proof.Machine.execXbCalibrate p s
  | .xbCalibrateDone cycles temp => Sys2Proof.Machine.execXbCalibrateDone cycles temp s
  | .resetNRequest late save => Sys2Proof.Machine.execResetNRequest late save s
  | .resetNRelease => Sys2Proof.Machine.execResetNRelease s
  | .hostModuleReset p late save => Sys2Proof.Machine.execHostModuleReset p late save s
  | .hostCoresReset p => Sys2Proof.Machine.execHostCoresReset p s
  | .coreWatchdogExpiry late save => Sys2Proof.Machine.execCoreWatchdogExpiry late save s
  | .dieTemperatureWarm => Sys2Proof.Machine.execDieTemperatureWarm s
  | .dieTemperatureCool => Sys2Proof.Machine.execDieTemperatureCool s
  | .dieTemperatureShutdown late save => Sys2Proof.Machine.execDieTemperatureShutdown late save s
  | .scrubPassDone => Sys2Proof.Machine.execScrubPassDone s
  | .scrubLate => Sys2Proof.Machine.execScrubLate s
  | .sectorMoveDone m unit mism => Sys2Proof.Machine.execSectorMoveDone m unit mism s
  | .healthUpdate mram nvm => Sys2Proof.Machine.execHealthUpdate mram nvm s
  | .shadowArm p ch cfg => Sys2Proof.Machine.execShadowArm p ch cfg s
  | .descriptorComplete ch => Sys2Proof.Machine.execDescriptorComplete ch s
  | .shunterChannelStop p v => Sys2Proof.Machine.execShunterChannelStop p v s
  | .hostRegisterRead p crc addr n => Sys2Proof.Machine.execHostRegisterRead p crc addr n s
  | .hostRegisterWrite p crc addr words facts => Sys2Proof.Machine.execHostRegisterWrite p crc addr words facts s
  | .eventBitClear p addr bits same => Sys2Proof.Machine.execEventBitClear p addr bits same s
  | .mailboxPush p crc q msg => Sys2Proof.Machine.execMailboxPush p crc q msg s
  | .mailboxPop p crc q => Sys2Proof.Machine.execMailboxPop p crc q s
  | .hifEthConnect => Sys2Proof.Machine.execHifEthConnect s
  | .hifEthClose => Sys2Proof.Machine.execHifEthClose s
  | .sessionNewChallenge p => Sys2Proof.Machine.execSessionNewChallenge p s
  | .sessionSubmit p level => Sys2Proof.Machine.execSessionSubmit p level s
  | .sessionVerifyDone p => Sys2Proof.Machine.execSessionVerifyDone p s
  | .sessionClose p => Sys2Proof.Machine.execSessionClose p s
  | .sessionIdleTimeout p => Sys2Proof.Machine.execSessionIdleTimeout p s
  | .sessionLockEnd p => Sys2Proof.Machine.execSessionLockEnd p s
  | .mbReadWaybill => Sys2Proof.Machine.execMbReadWaybill s
  | .mbReadLog => Sys2Proof.Machine.execMbReadLog s
  | .mbReadProfile => Sys2Proof.Machine.execMbReadProfile s
  | .mbReadOutage => Sys2Proof.Machine.execMbReadOutage s
  | .mbWriteTable => Sys2Proof.Machine.execMbWriteTable s
  | .mbWriteFlash => Sys2Proof.Machine.execMbWriteFlash s
  | .mbCardActivate found => Sys2Proof.Machine.execMbCardActivate found s
  | .mbCardExchange resp => Sys2Proof.Machine.execMbCardExchange resp s
  | .mbCardDeselect => Sys2Proof.Machine.execMbCardDeselect s
  | .mbRemoteId => Sys2Proof.Machine.execMbRemoteId s
  | .mbCredit => Sys2Proof.Machine.execMbCredit s
  | .islandFault who cause late save => Sys2Proof.Machine.execIslandFault who cause late save s
  | .islandRestartDone who bad => Sys2Proof.Machine.execIslandRestartDone who bad s
  | .batteryIslandRestart => Sys2Proof.Machine.execBatteryIslandRestart s
  | .moduleFault who cause late save => Sys2Proof.Machine.execModuleFault who cause late save s
  | .pilotWordTimeout => Sys2Proof.Machine.execPilotWordTimeout s
  | .safetyStatusReceive => Sys2Proof.Machine.execSafetyStatusReceive s
  | .associationRelease assoc => Sys2Proof.Machine.execAssociationRelease assoc s
  | .disconnectOpenTimeout => Sys2Proof.Machine.execDisconnectOpenTimeout s
  | .soOutputOvercurrent n => Sys2Proof.Machine.execSoOutputOvercurrent n s
  | .vsysHeadCrossing mv => Sys2Proof.Machine.execVsysHeadCrossing mv s
  | .ptpFollowUpReceive p dom seq origin corr residence => Sys2Proof.Machine.execPtpFollowUpReceive p dom seq origin corr residence s
  | .ptpDelayReqSend p dom dt => Sys2Proof.Machine.execPtpDelayReqSend p dom dt s
  | .ptpDelayRespReceive p dom seq received corr => Sys2Proof.Machine.execPtpDelayRespReceive p dom seq received corr s
  | .ptpDelayReqReceive p dom seq asker corr residence dt => Sys2Proof.Machine.execPtpDelayReqReceive p dom seq asker corr residence dt s
  | .ptpAnnounceSend => Sys2Proof.Machine.execPtpAnnounceSend s
  | .busOffRecovery k => Sys2Proof.Machine.execBusOffRecovery k s
  | .copyTokenRetry => Sys2Proof.Machine.execCopyTokenRetry s
  | .dieCooledRestart => Sys2Proof.Machine.execDieCooledRestart s

end Sys2Proof.Machine
end

