-- ==== Sys2Proof/Safety.lean ====
section
/-!
DEFINITION. What holds of every state that commands can bring the module to, and what a safe run is: one that never stops.
-/
namespace Sys2Proof.Machine

/-- The Crossings (spec/01_architecture.md R27, R29): 21 of them, each FIFO within its depth, and words held behind back-pressure only while
the FIFO is full. -/
structure XingsOk (l : List Xing) : Prop where
  count : l.length = 21
  depth : ∀ x, x < 21 → (nth l x ⟨[], []⟩).fifo.length ≤ RegMap.xingDepth x
  pressed : ∀ x, x < 21 → (nth l x ⟨[], []⟩).waiting ≠ [] → (nth l x ⟨[], []⟩).fifo.length = RegMap.xingDepth x

/-- The deferred Token requests (R49): at most 16, in the order they are served in. -/
structure TokOk (t : TokState) : Prop where
  room : t.deferred.length ≤ 16
  order : t.deferred.Pairwise (fun a b => a.kind ≤ b.kind)

/-- The logs (spec/06_billing_time_events.md R230): five, each within its capacity. -/
structure LogsOk (l : List LogStore) : Prop where
  count : l.length = 5
  room : ∀ i, i < 5 → (nth l i ⟨[], 0⟩).entries.length ≤ logCapacity i

/-- What every step keeps: registers, parameters and memories in canonical form, and the bounds the spec gives the Crossings, the deferred
Token requests, the logs and the hardware queues. -/
structure State.Inv (s : State) : Prop where
  regs : Sparse.wf RegMap.resetOf s.regs = true
  params : Sparse.wf ParamMap.default s.params = true
  cells : Memory.wf s.mem.cells = true
  xings : XingsOk s.xings
  tok : TokOk s.tok
  logs : LogsOk s.logs
  queues : s.q.length = 32

/-- The parts of State, one for each of its fields. -/
inductive Part where
  | variant
  | regs
  | params
  | xings
  | ttb
  | tok
  | afe
  | pts
  | x00
  | x01
  | parPend
  | parNext
  | corrSent
  | bil
  | btm
  | logs
  | saf
  | x03
  | x19
  | x04
  | x05
  | x06
  | q
  | grpSeq
  | vl
  | ses
  | grt
  | dlm
  | lsw
  | lcd
  | nfc
  | hif
  | mail
  | boot
  | mem
  | pow
  | upd
  | amb
  | eth
  | x09
  | x11
  | posts
  | postOrder
  | out
  | free
  | pending
  deriving DecidableEq, Repr

/-- A part is the same in two states. -/
def Part.same : Part → State → State → Prop
  | .variant, s, t => t.variant = s.variant
  | .regs, s, t => t.regs = s.regs
  | .params, s, t => t.params = s.params
  | .xings, s, t => t.xings = s.xings
  | .ttb, s, t => t.ttb = s.ttb
  | .tok, s, t => t.tok = s.tok
  | .afe, s, t => t.afe = s.afe
  | .pts, s, t => t.pts = s.pts
  | .x00, s, t => t.x00 = s.x00
  | .x01, s, t => t.x01 = s.x01
  | .parPend, s, t => t.parPend = s.parPend
  | .parNext, s, t => t.parNext = s.parNext
  | .corrSent, s, t => t.corrSent = s.corrSent
  | .bil, s, t => t.bil = s.bil
  | .btm, s, t => t.btm = s.btm
  | .logs, s, t => t.logs = s.logs
  | .saf, s, t => t.saf = s.saf
  | .x03, s, t => t.x03 = s.x03
  | .x19, s, t => t.x19 = s.x19
  | .x04, s, t => t.x04 = s.x04
  | .x05, s, t => t.x05 = s.x05
  | .x06, s, t => t.x06 = s.x06
  | .q, s, t => t.q = s.q
  | .grpSeq, s, t => t.grpSeq = s.grpSeq
  | .vl, s, t => t.vl = s.vl
  | .ses, s, t => t.ses = s.ses
  | .grt, s, t => t.grt = s.grt
  | .dlm, s, t => t.dlm = s.dlm
  | .lsw, s, t => t.lsw = s.lsw
  | .lcd, s, t => t.lcd = s.lcd
  | .nfc, s, t => t.nfc = s.nfc
  | .hif, s, t => t.hif = s.hif
  | .mail, s, t => t.mail = s.mail
  | .boot, s, t => t.boot = s.boot
  | .mem, s, t => t.mem = s.mem
  | .pow, s, t => t.pow = s.pow
  | .upd, s, t => t.upd = s.upd
  | .amb, s, t => t.amb = s.amb
  | .eth, s, t => t.eth = s.eth
  | .x09, s, t => t.x09 = s.x09
  | .x11, s, t => t.x11 = s.x11
  | .posts, s, t => t.posts = s.posts
  | .postOrder, s, t => t.postOrder = s.postOrder
  | .out, s, t => t.out = s.out
  | .free, s, t => t.free = s.free
  | .pending, s, t => t.pending = s.pending

/-- One state comes from another by what changes only the given parts and keeps the invariant. -/
structure Within (ps : List Part) (s t : State) : Prop where
  inv : s.Inv → t.Inv
  same : ∀ p, p ∉ ps → p.same s t

/-- A command answered with a next state that has a property. -/
def Answers (a : Ans) (p : State → Prop) : Prop := ∃ t, a = .next t ∧ p t

/-- No register has changed but those at the given addresses. -/
def RegsBut (l : List Nat) (s t : State) : Prop := ∀ a, a ∉ l → t.reg a = s.reg a

/-- A host transaction that the interface takes up (spec/01_architecture.md R15, spec/23_host_interface.md R626, R629, R640): the path is
open, its level suffices, and the module is not in power failure. -/
abbrev HostMay (p : Path) (need : Nat) (s : State) : Prop := pathOpen s p = true ∧ need ≤ pathLevel s p ∧ s.pfw = false

/-- The registers that every host transaction writes: the interface's status, the session's HOSTABS, and the path's count of
accesses (R628). -/
def hostRegs (p : Path) : List Nat := [Reg.HIF_STAT, Reg.SES_STAT, match p with | .spi => Reg.HIF_CNT 0 | .eth => Reg.HIF_CNT 2]

/-- A stop that has been decided (spec/10_charging_session.md R361): state 9, with the reason, and nothing of the session awaited. -/
abbrev StopBegun (reason : Nat) (t : State) : Prop :=
  sesSt t = 9 ∧ t.ses.reason = reason ∧ t.ses.wantClose = false ∧ t.ses.openSent = false ∧ t.ses.wait = none ∧ t.on Fd.SES_AUTHREQ_PEND = false
    ∧ t.ses.duty = 0

/-- A command of KEY_CTL.GO that the Grotto runs at once (spec/11_grotto_keys.md R377, R382): from the owner or the vendor, with an operation in
KEY_CMD, the root formed, and nothing under way. -/
abbrev KeyReady (p : Path) (op : Nat) (s : State) : Prop :=
  HostMay p 2 s ∧ s.held .grotto = false ∧ s.get Fd.KEY_CMD_OP = op ∧ s.grt.cmds = [] ∧ s.grt.reqs = [] ∧ s.on Fd.KEY_STAT_READY = true
    ∧ s.on Fd.KEY_STAT_ROOTFAIL = false

/-- What a command of the Grotto leaves in the registers that report it (R377): its result, its event, and no command under way. -/
abbrev KeyDone (result : Nat) (t : State) : Prop :=
  t.get Fd.KEY_CMDSTAT_RESULT = result ∧ t.on Fd.KEY_STAT_BUSY = false
    ∧ t.on (if result = 0 then Fd.KEY_EVT_CMDDONE else Fd.KEY_EVT_CMDFAIL) = true

/-- The registers that every command of the Grotto may write besides its slots: its result, its events, its status, KEY_DATA, and those of the
host transaction. -/
def keyRegs (p : Path) : List Nat := [Reg.KEY_CMDSTAT, Reg.KEY_EVT, Reg.KEY_STAT] ++ (List.range 32).map (fun w => Reg.KEY_DATA w) ++ hostRegs p

/-- The registers that a cause, its stop reaction and its end may write (spec/07_signal_box.md R243, R247, R256). -/
def causeRegs : List Nat :=
  [Reg.SAF_CAUSE, Reg.SAF_LATCH, Reg.SAF_STAT, Reg.SAF_FIRST, Reg.SAF_CNT, Reg.SAF_OUT, Reg.SWC_STAT, Reg.HIF_ISRC]

/-- The registers that the decision of a stop may write while no Token request is deferred (spec/10_charging_session.md R361): those of the
session, and those that show the release of its Token. -/
def stopRegs : List Nat := [Reg.SES_STAT, Reg.SES_AUTHREQ, Reg.TOK_STAT, Reg.TOK_POWER]

/-- The registers that show the slots of the Grotto (spec/11_grotto_keys.md R371, R372). -/
def slotRegs : List Nat := (List.range 256).map (fun n => Reg.KEY_SLOT n) ++ (List.range 256).map (fun n => Reg.KEY_SLOTX n)

/-- The registers that show the site time, the domains and their locks (spec/12_site_ethernet_time.md R411 to R416). -/
def ptpRegs : List Nat :=
  [Reg.PTP_STAT, Reg.PTP_EVT, Reg.PTP_UTC, Reg.PTP_SLEWREM, Reg.PTP_ST 0, Reg.PTP_ST 1, Reg.PTP_OFS 0, Reg.PTP_OFS 1, Reg.PTP_MPD 0, Reg.PTP_MPD 1,
    Reg.PTP_GMID 0 0, Reg.PTP_GMID 0 1, Reg.PTP_GMID 1 0, Reg.PTP_GMID 1 1, Reg.BTM_STAT]

/-- A request of a secured client that the DLMS server carries out (spec/14_head_end_dlms.md R464 to R467): its association is open and
authenticated, its keys are usable, its tag verifies, and its invocation counter and the server's own are in order. -/
abbrev DlmMay (r : DlmReq) (x : DlmAssoc) (s : State) : Prop :=
  s.dlm.assocs.find? (fun y => y.id == r.assoc) = some x ∧ 1 ≤ x.client ∧ x.client ≤ 3 ∧ x.waits = false ∧ dlmKeys s (x.client - 1) = true
    ∧ r.tag = true ∧ s.regN (Reg.DLM_ICNT (x.client - 1)) < r.ic ∧ r.ic < 0xFFFFFFFF ∧ s.regN Reg.DLM_TXIC + 1 < 0xFFFFFFFF

/-- The registers that a SET or ACTION writes whatever its effect: the client's receive counter, the transmit counter, and the count of
requests. -/
def dlmRegs (x : DlmAssoc) : List Nat := [Reg.DLM_ICNT (x.client - 1), Reg.DLM_TXIC, Reg.DLM_CNT 5]

/-- What every SET or ACTION carried out leaves (R464, R466): its result as the newest output, and both counters advanced. -/
abbrev DlmDone (r : DlmReq) (x : DlmAssoc) (result : DlmRes) (s t : State) : Prop :=
  t.out = .dlms x.id (.result result) :: s.out ∧ t.regN (Reg.DLM_ICNT (x.client - 1)) = r.ic ∧ t.regN Reg.DLM_TXIC = s.regN Reg.DLM_TXIC + 1
    ∧ t.regN (Reg.DLM_CNT 5) = min (s.regN (Reg.DLM_CNT 5) + 1) 0xFFFFFFFF

/-- A mailbox request that the module carries out next (spec/23_host_interface.md R634 to R638): the only one in its queue with the other queue
empty, of its type and form, from a path with the level it needs, and with room for its reply. -/
abbrev MailAsks (type home need : Nat) (p : Path) (m : List Byte) (s : State) : Prop :=
  queue s home = [mailFrame p m] ∧ queue s (61 - home) = [] ∧ (queue s 29).length < 8 ∧ s.q.length = 32 ∧ s.mail.credits = [] ∧ mailType m = type
    ∧ mailKnown m = true ∧ mailOk m = true ∧ need ≤ pathLevel s p ∧ s.pfw = false

/-- What a reply leaves (R635): the request is taken, and the reply with its TAG and result waits in Q29. -/
abbrev MailReplied (home : Nat) (p : Path) (m : List Byte) (result : Nat) (body : List Byte) (s t : State) : Prop :=
  queue t 29 = queue s 29 ++ [mailFrame p (mailMessage (mailType m) result (mailTag m) body)] ∧ queue t home = []

/-- The path and the level of a command that is a host write of one register with a rule of its own (spec/00_scope.md R15): HIF_PCMD's writes, whose
refusals HIF_PRES reports, and a shadow word, whose address its channel gives, stand apart. -/
def hostNeeds : Instr → Option (Path × Nat)
  | .crossingStatsClear p _ => some (p, 1)
  | .useStatsClear p => some (p, 1)
  | .selfTestNow p => some (p, 1)
  | .trialStart p => some (p, 2)
  | .trialEnd p => some (p, 2)
  | .mismatchCountClear p => some (p, 1)
  | .viewSnap p => some (p, 1)
  | .viewRelease p => some (p, 1)
  | .clockSetGo p _ => some (p, 1)
  | .clockReset p _ => some (p, 2)
  | .hostDisconnect p => some (p, 1)
  | .hostReconnect p => some (p, 1)
  | .rcmSelfTestRequest p => some (p, 1)
  | .tripPathTestRequest p => some (p, 1)
  | .hostAuthAccept p _ => some (p, 1)
  | .hostAuthReject p _ => some (p, 1)
  | .hostAuthRevoke p => some (p, 1)
  | .hostRemoteStart p => some (p, 1)
  | .hostSessionStop p => some (p, 1)
  | .keyGenerate p => some (p, 2)
  | .keyWrite p => some (p, 2)
  | .keyImport p => some (p, 2)
  | .keyInvalidate p => some (p, 2)
  | .keyDestroy p => some (p, 2)
  | .keyReadpub p => some (p, 2)
  | .portEnableWrite p _ => some (p, 1)
  | .listAdd p _ => some (p, 1)
  | .listRemove p _ => some (p, 1)
  | .listClear p => some (p, 1)
  | .hostTagWrite p _ => some (p, 1)
  | .loadSwitchCommand p _ _ => some (p, 1)
  | .loadSwitchClearLatch p _ => some (p, 1)
  | .displayHold p => some (p, 1)
  | .displayNext p => some (p, 1)
  | .paramRead p _ => some (p, 0)
  | .updateArm p _ => some (p, 1)
  | .updateDisarm p => some (p, 1)
  | .ownerLockCommand p => some (p, 2)
  | .xbCalibrate p => some (p, 1)
  | .hostModuleReset p _ _ => some (p, 2)
  | .hostCoresReset p => some (p, 2)
  | .shunterChannelStop p _ => some (p, 3)
  | .sessionNewChallenge p => some (p, 0)
  | .sessionSubmit p _ => some (p, 0)
  | .sessionClose p => some (p, 0)
  | _ => none

/-- The island in which a command's event arises (spec/24_faults_ordering.md R644): while it is held, the event has no effect. -/
def islandOf : Instr → Option Island
  | .laneFaultDetect _ _ _ => some .metrology
  | .laneRoleMove _ => some .metrology
  | .stuckStreamDetect _ _ => some .metrology
  | .rotationStep _ => some .metrology
  | .correctionSetApply => some .metrology
  | .engineDeadlineMiss _ => some .metrology
  | .engineSelfCheckError _ => some .metrology
  | .commitMarkSnapshot => some .metrology
  | .engineSelfTestDone _ _ => some .metrology
  | .selfTestRetry _ _ => some .metrology
  | .plannedSelfTestDue => some .metrology
  | .warmupEnd _ => some .metrology
  | .shadowPromote _ => some .metrology
  | .shadowTimeout _ => some .metrology
  | .trialMaxExpiry => some .metrology
  | .rtcTemperatureTrim _ => some .battery
  | .tamperPoll _ _ => some .battery
  | .vbatMeasure _ => some .battery
  | .safetyCycle _ => some .signalBox
  | .contactorDelayExpiry => some .signalBox
  | .discrepancyTimeout _ => some .signalBox
  | .inputTestPulse _ _ _ => some .signalBox
  | .outputTestPulse _ _ => some .signalBox
  | .outputOffCheck _ _ => some .signalBox
  | .resetStuckTimeout => some .signalBox
  | .coreWordReceive _ => some .signalBox
  | .coreTimeout => some .signalBox
  | .metroTimeout => some .signalBox
  | .causeResumeHoldEnd _ => some .signalBox
  | .closeFeedbackDone => some .signalBox
  | .contactorFeedbackChange _ _ _ _ => some .signalBox
  | .contactorFeedbackTimeout _ => some .signalBox
  | .weldCheckTimeout => some .signalBox
  | .safeTelegramReceive _ => some .signalBox
  | .telegramTimeout _ => some .signalBox
  | .rcmSelfTestStart => some .signalBox
  | .rcmSelfTestDone _ _ => some .signalBox
  | .rcmSelfTestRetry => some .signalBox
  | .imdHalfCycleEnd _ _ _ => some .metrology
  | .tripPathTestDue => some .signalBox
  | .tripPathTestStart => some .signalBox
  | .tripPathTestDone _ _ _ _ => some .signalBox
  | .pilotDemandReceive => some .vehicleLink
  | .pilotX06Silence => some .vehicleLink
  | .pilotStateChange _ _ _ => some .vehicleLink
  | .proximityMeasure _ => some .vehicleLink
  | .gpBurstTransmit _ => some .vehicleLink
  | .gpFrameReceive _ _ => some .vehicleLink
  | .cmSlacParmReq _ _ _ _ => some .vehicleLink
  | .cmMnbcSoundInd _ _ => some .vehicleLink
  | .soundingEnd => some .vehicleLink
  | .slacInitTimeout => some .vehicleLink
  | .cmAttenCharRsp _ => some .vehicleLink
  | .attenCharRepeatTimeout => some .vehicleLink
  | .cmValidateReq => some .vehicleLink
  | .toggleWindowEnd _ => some .vehicleLink
  | .cmSlacMatchReq _ _ => some .vehicleLink
  | .matchWaitTimeout => some .vehicleLink
  | .coordReportReceive => some .vehicleLink
  | .coordWindowEnd => some .vehicleLink
  | .coordWithdrawReceive _ => some .vehicleLink
  | .t1sFrameReceive _ _ => some .vehicleLink
  | .t1sLinkTimeout => some .vehicleLink
  | .seccDiscoveryRequest => some .vehicleLink
  | .converterSetptSend => some .siteLink
  | .converterSyncSend => some .siteLink
  | .converterStatusReceive _ _ _ => some .siteLink
  | .converterCapabReceive _ _ _ => some .siteLink
  | .orphanZero => some .grotto
  | .keyDataExpiry => some .grotto
  | .cryptoRequest _ => some .grotto
  | .cryptoOperationDone _ => some .grotto
  | .drbgReseed _ => some .grotto
  | .ethFrameSend _ _ _ => some .siteLink
  | .frameLaunch _ => some .siteLink
  | .ethFrameReceive _ _ _ _ => some .siteLink
  | .nodeEntryExpiry _ => some .siteLink
  | .supervisionFrameSend => some .siteLink
  | .groupMessageReceive _ _ => some .siteLink
  | .telegramFrameFilter _ _ => some .siteLink
  | .ptpSyncReceive _ _ _ _ _ _ _ _ => some .siteLink
  | .ptpAnnounceReceive _ _ _ _ _ => some .siteLink
  | .announceTimeout _ _ => some .siteLink
  | .ptpSyncSend _ => some .siteLink
  | .revertTimeout => some .siteLink
  | .stSlewComplete => some .siteLink
  | .ppsSecond => some .siteLink
  | .evtInEdge _ => some .siteLink
  | .ethLinkUp _ _ => some .siteLink
  | .ethLinkDown _ => some .siteLink
  | .canBusOff _ => some .siteLink
  | .pollSend _ _ => some .amene
  | .pollReceive _ _ => some .amene
  | .respSlotStart _ => some .amene
  | .respReceive _ _ => some .amene
  | .slotFail _ => some .amene
  | .joinackReceive => some .amene
  | .joinConflictRetry => some .amene
  | .slaveLost => some .amene
  | .busyNodeSlow _ => some .amene
  | .ameneFrameReceive _ => some .amene
  | .zcEdge _ => some .amene
  | .readerPoll _ _ => some .service
  | .layer4IdleTimeout => some .service
  | .tagSnapshotRefresh => some .service
  | .displayPageAdvance => some .service
  | .displayFrameReadback _ => some .service
  | .lanternPowerUp _ => some .service
  | .vlcdRailRetry _ => some .service
  | .pilotWordTimeout => some .signalBox
  | .soOutputOvercurrent _ => some .signalBox
  | .ptpFollowUpReceive _ _ _ _ _ _ => some .siteLink
  | .ptpDelayReqSend _ _ _ => some .siteLink
  | .ptpDelayRespReceive _ _ _ _ _ => some .siteLink
  | .ptpDelayReqReceive _ _ _ _ _ _ _ => some .siteLink
  | .ptpAnnounceSend => some .siteLink
  | .busOffRecovery _ => some .siteLink
  | _ => none

/-- The commands that can change the keys or requests of the Grotto (spec/11_grotto_keys.md R377): those that are for it, the faults, resets and starts, and what is carried out of a host write. -/
def keysMay : Instr → Bool
  | .keyGenerate _ => true
  | .keyWrite _ => true
  | .keyImport _ => true
  | .keyInvalidate _ => true
  | .keyDestroy _ => true
  | .keyReadpub _ => true
  | .orphanZero => true
  | .cryptoRequest _ => true
  | .cryptoOperationDone _ => true
  | .hlsPass3 _ _ => true
  | .crossingLossDetect _ _ _ => true
  | .timetableSlotGrant _ _ _ _ _ => true
  | .lockstepFault => true
  | .powerGood _ => true
  | .brownOut _ => true
  | .clockFault _ _ _ _ => true
  | .resetNRequest _ _ => true
  | .hostModuleReset _ _ _ => true
  | .coreWatchdogExpiry _ _ => true
  | .dieTemperatureShutdown _ _ => true
  | .hostRegisterWrite _ _ _ _ _ => true
  | .eventBitClear _ _ _ _ => true
  | .islandFault _ _ _ _ => true
  | .moduleFault _ _ _ _ => true
  | _ => false

/-- The commands that can change the parameters in force (spec/18_boot_configuration.md R549 to R551): those that are for it, the faults, resets and starts, and what is carried out of a host write. -/
def paramsMay : Instr → Bool
  | .correctionSetApply => true
  | .blockRecordAttribute => true
  | .billingTick => true
  | .secondCommit => true
  | .clockStepApply => true
  | .setparReceive => true
  | .paramWrite _ _ => true
  | .powerFailWarning _ _ _ => true
  | .saveRestart _ _ => true
  | .crossingLossDetect _ _ _ => true
  | .timetableSlotGrant _ _ _ _ _ => true
  | .lockstepFault => true
  | .powerGood _ => true
  | .brownOut _ => true
  | .clockFault _ _ _ _ => true
  | .resetNRequest _ _ => true
  | .hostModuleReset _ _ _ => true
  | .coreWatchdogExpiry _ _ => true
  | .dieTemperatureShutdown _ _ => true
  | .hostRegisterWrite _ _ _ _ _ => true
  | .eventBitClear _ _ _ _ => true
  | .islandFault _ _ _ _ => true
  | .moduleFault _ _ _ _ => true
  | _ => false

/-- The commands that can change the code banks (spec/19_firmware_update.md R562 to R566): those that are for it, the faults, resets and starts, and what is carried out of a host write. -/
def banksMay : Instr → Bool
  | .updateCopyDone _ => true
  | .updateSwitchEval _ => true
  | .trialServicesReport => true
  | .updateTrialTimeout => true
  | .firmwareFaultReport => true
  | .hostCoresReset _ => true
  | .crossingLossDetect _ _ _ => true
  | .timetableSlotGrant _ _ _ _ _ => true
  | .lockstepFault => true
  | .powerGood _ => true
  | .brownOut _ => true
  | .clockFault _ _ _ _ => true
  | .resetNRequest _ _ => true
  | .hostModuleReset _ _ _ => true
  | .coreWatchdogExpiry _ _ => true
  | .dieTemperatureShutdown _ _ => true
  | .hostRegisterWrite _ _ _ _ _ => true
  | .eventBitClear _ _ _ _ => true
  | .islandFault _ _ _ _ => true
  | .moduleFault _ _ _ _ => true
  | _ => false

/-- A run that never stops: any number of steps answers a next state. -/
def SafeRun (s : State) : Prop := ∀ n, ∃ t, Host.Core.run core n s = .next t

end Sys2Proof.Machine
end

