-- ==== Sys2Proof/Certificates/Slice0/Obligations.lean ====
section
/-!
DEFINITION. The statements for the provers. Every statement is over all states and operands that meet its hypotheses. `Answers o f` says that
`o` is a next state that satisfies `f`; `RegsBut l s t` that every register outside the list `l` holds what it held; `Within parts s t` that
every part of the state that `parts` does not name is as it was (Sys2Proof/Safety.lean). Each docstring names the rules of spec/ that its
statement draws on, and the entries of the assumption log that it
rests on where a clause follows a reading or a choice of the model; entries 4, 5, 10, 237, 256, 258 and 259 (one command one step, what a
command that does not fit does, held islands, the order of status) bear on every family.
-/

section Statements

open Sys2Proof Sys2Proof.Machine

/-- Commands are carried out one at a time, first in, first out: a step takes the command at the front of the queue and carries it out over the
queue's rest. (The queue is the model's own; log entries 2 and 5.) -/
def Obligations.FrontOfQueue : Prop :=
  ∀ (s : State) (c : Instr) (rest : List Instr), s.pending = c :: rest → step s = exec c { s with pending := rest }

/-- R639: with no command waiting, all that a step does is to announce interrupt sources that have come into force; while none has, it changes
nothing. (What a step does on an empty queue is the model's choice: log entry 3.) -/
def Obligations.EmptyQueueIdles : Prop :=
  (∀ (s : State), s.pending = [] → irqNow s = s.mail.irq → step s = .next s) ∧
  (∀ (s : State), s.pending = [] → s.parN Par.HIF_MBPATH ≠ 1 → Answers (step s) fun t =>
      t.mail = { s.mail with irq := irqNow s } ∧ RegsBut [] s t ∧ Within [.mail] s t) ∧
  (∀ (s : State), s.pending = [] → s.parN Par.HIF_MBPATH = 1 → s.running = true → s.mail.irq = 0 → irqNow s ≠ 0 → s.q.length = 32 → (queue s 28).length < 8 →
    Answers (step s) fun t =>
      t.mail = { s.mail with irq := irqNow s } ∧ queue t 28 = queue s 28 ++ [Frame.plain (mailMessage 0x83 0 0 (Bits.leBytes 4 (isrcWord s).toNat))] ∧
        RegsBut [] s t ∧ Within [.mail, .q] s t)

/-- R11, R549, R585: before the first start every register holds its reset word, every parameter its default, nothing waits, no session and no Token
is held, and the memories list nothing. (Reset words and contents that the spec does not give are the model's: log entries 1 and 8.) -/
def Obligations.ResetState : Prop :=
  (∀ a, State.reset.reg a = RegMap.resetOf a) ∧ (∀ q, State.reset.par q = ParamMap.default q) ∧ State.reset.pending = [] ∧ State.reset.mem.cells = [] ∧
    State.reset.tok = ⟨[], []⟩ ∧ (∀ x, x < 21 → xing State.reset x = ⟨[], []⟩) ∧ (∀ k, queue State.reset k = []) ∧ sesSt State.reset = 0 ∧
    State.reset.dlm.assocs = [] ∧ State.reset.running = false ∧ (∀ i : Island, State.reset.held i = false)

/-- What every step keeps (StepKeepsInv) holds at reset. -/
def Obligations.ResetInv : Prop := State.reset.Inv

/-- R27, R29, R49, R230: from every state that has the invariant, a step answers a next state, and that state has it too: no Crossing, no queue of
deferred Token requests and no log ever exceeds its capacity, deferred requests stay in the order of their kinds, a Crossing holds words back only
while its FIFO is full, and registers, parameters and memories stay in canonical form. -/
def Obligations.StepKeepsInv : Prop := ∀ (s : State), s.Inv → Answers (step s) State.Inv

/-- R15, R626, R640: a register with a rule of its own, written on a path below the level it needs, is refused with status 1 and ACCERR; while PFW_N
is asserted, with status 5; and a path that is not open carries nothing. In no case does the write have any of its effect. (The order of the statuses,
and how the access of a command that is a host write is checked, are the model's readings: log entries 10 and 237.) -/
def Obligations.HostLevels : Prop :=
  (∀ (s : State) (c : Instr) (p : Path) (n : Nat), hostNeeds c = some (p, n) → pathOpen s p = true → pathLevel s p < n → Answers (exec c s) fun t =>
      t.out = .hostStatus p 1 :: s.out ∧ t.on Fd.HIF_EVT_ACCERR = true ∧ RegsBut (Reg.HIF_EVT :: hostRegs p) s t ∧ Within [.regs, .out] s t) ∧
  (∀ (s : State) (c : Instr) (p : Path) (n : Nat), hostNeeds c = some (p, n) → pathOpen s p = true → n ≤ pathLevel s p → s.pfw = true →
    Answers (exec c s) fun t => t.out = .hostStatus p 5 :: s.out ∧ RegsBut (hostRegs p) s t ∧ Within [.regs, .out] s t) ∧
  (∀ (s : State) (c : Instr) (p : Path) (n : Nat), hostNeeds c = some (p, n) → pathOpen s p = false → exec c s = .next s)

/-- R644: while an island is held in reset, an event that arises in it has no effect. (Which commands arise in an island is the model's
reading: log entries 256 and 258.) -/
def Obligations.HeldIslands : Prop :=
  ∀ (s : State) (c : Instr) (i : Island), islandOf c = some i → s.held i = true → exec c s = .next s

/-- R377, R549 to R551, R562 to R566: whatever the state, no command but those named can change the keys and requests of the Grotto, the
parameters in force, or what the code banks hold; and none changes the module's variant. -/
def Obligations.Isolation : Prop :=
  (∀ (s : State) (c : Instr), Answers (exec c s) fun t => t.variant = s.variant ∧ (keysMay c = false → t.grt = s.grt) ∧
      (paramsMay c = false → t.params = s.params) ∧ (banksMay c = false → t.upd = s.upd))

/-- R27, R646: a word written enters the FIFO after those before it, and back-pressure stands exactly while the FIFO is full; the source then holds the
word until the oldest is taken; words leave in the order they came in. Only while an end is held is a word discarded, and it is counted. The model's
readings and choices behind it: log entries 6, 11, 261. -/
def Obligations.CrossingWords : Prop :=
  (∀ (s : State) (x : Nat) (w : Word64), s.Inv → x < 21 → xingHeldEnd s x = none → (xing s x).waiting = [] →
    (xing s x).fifo.length < RegMap.xingDepth x → Answers (exec (.crossingWordWrite x w) s) fun t =>
      xing t x = ⟨(xing s x).fifo ++ [w], []⟩ ∧
        t.on (Fd.SYS_XSTAT_BPNOW x) = decide ((xing s x).fifo.length + 1 = RegMap.xingDepth x) ∧
        (∀ y, y ≠ x → xing t y = xing s y) ∧ RegsBut [Reg.SYS_XSTAT x] s t ∧ Within [.regs, .xings] s t) ∧
  (∀ (s : State) (x : Nat) (w : Word64), s.Inv → x < 21 → xingHeldEnd s x = none →
    (xing s x).fifo.length = RegMap.xingDepth x → Answers (exec (.crossingWordWrite x w) s) fun t =>
      xing t x = ⟨(xing s x).fifo, (xing s x).waiting ++ [w]⟩ ∧ (∀ y, y ≠ x → xing t y = xing s y) ∧ Within [.xings] s t) ∧
  (∀ (s : State) (x : Nat) (w : Word64) (ws : List Word64), s.Inv → x < 21 → (xing s x).fifo = w :: ws → (xing s x).waiting = [] →
    Answers (exec (.crossingHeldWordAccept x) s) fun t =>
      xing t x = ⟨ws, []⟩ ∧ t.on (Fd.SYS_XSTAT_BPNOW x) = false ∧ t.out = .xingWord x w :: s.out ∧ (∀ y, y ≠ x → xing t y = xing s y) ∧
        RegsBut [Reg.SYS_XSTAT x] s t ∧ Within [.regs, .xings, .out] s t) ∧
  (∀ (s : State) (x : Nat) (w v : Word64) (ws vs : List Word64), s.Inv → x < 21 → (xing s x).fifo = w :: ws →
    (xing s x).waiting = v :: vs → Answers (exec (.crossingHeldWordAccept x) s) fun t =>
      xing t x = ⟨ws ++ [v], vs⟩ ∧ t.out = .xingWord x w :: s.out ∧ (∀ y, y ≠ x → xing t y = xing s y) ∧
        RegsBut [Reg.SYS_XSTAT x] s t ∧ Within [.regs, .xings, .out] s t) ∧
  (∀ (s : State) (x : Nat), x < 21 → (xing s x).fifo = [] → Answers (exec (.crossingHeldWordAccept x) s) fun t => t = s) ∧
  (∀ (s : State) (x : Nat) (w : Word64) (i : Island), x < 21 → xingHeldEnd s x = some i → Answers (exec (.crossingWordWrite x w) s) fun t =>
      t.get (Fd.SYS_FLTCNT_FLUSHED i.num) = min (s.get (Fd.SYS_FLTCNT_FLUSHED i.num) + 1) 0xFFFF ∧
        RegsBut [Reg.SYS_FLTCNT i.num] s t ∧ Within [.regs] s t)

/-- R39: at the start of each period of a resource the Timetable loads every class's remaining budget from its budget for that resource, whatever
remained of it, and of no other resource. -/
def Obligations.BudgetsReload : Prop :=
  (∀ (s : State) (k waiting : Nat), k < 3 → Answers (exec (.timetablePeriodStart k waiting) s) fun t =>
    ttbRes t k = ⟨(List.range 9).map (ttbBudget s k), List.replicate 10 0, 0, true⟩ ∧ (∀ j, j < 3 → j ≠ k → ttbRes t j = ttbRes s j) ∧ Within [.regs, .ttb] s t)

/-- R40 and the registers of the Timetable: a slot granted to a class takes one slot of its remaining budget; a clear of the use statistics clears MAX and
DENY. The model's readings and choices behind it: log entries 261. -/
def Obligations.TimetableSlots : Prop :=
  (∀ (s : State) (k waiting c late : Nat) (save : Option Nat), k < 3 → slotDecide s k waiting = .toClass c → ttbPf s k = false →
    Answers (exec (.timetableSlotGrant k waiting .none late save) s) fun t =>
      (ttbRes t k).remaining = setNth (ttbRes s k).remaining c (nth (ttbRes s k).remaining c 0 - 1) ∧ (ttbRes t k).slot = (ttbRes s k).slot + 1 ∧
        (∀ j, j < 3 → j ≠ k → ttbRes t j = ttbRes s j) ∧ t.regs = s.regs ∧ t.q = s.q ∧ t.mem = s.mem ∧ t.out = s.out) ∧
  (∀ (s : State) (p : Path), pathOpen s p = true → 1 ≤ pathLevel s p → s.pfw = false → Answers (exec (.useStatsClear p) s) fun t =>
    (∀ n, n < 42 → t.get (Fd.TTB_USE_MAX n) = 0 ∧ t.get (Fd.TTB_USE_DENY n) = 0) ∧ t.out = .hostStatus p 0 :: s.out ∧
      RegsBut ((List.range 42).map (fun n => Reg.TTB_USE n) ++ hostRegs p) s t ∧ Within [.regs, .out] s t)

/-- R47 to R50: the decisions of the Token governor, the baseline, and VLOW (TOK_STAT). The model's readings and choices behind it: log entries 14, 205,
261. -/
def Obligations.TokenDecisions : Prop :=
  (∀ (s : State) (kind id inrush : Nat), kind ≤ 8 → s.pfw = false → s.tok.deferred = [] →
    tokFits s ⟨kind, id, tokCost kind, if kind = 2 then inrush else 0, false⟩ = true → Answers (exec (.tokenRequest kind id inrush) s) fun t =>
      t.tok = ⟨⟨kind, id, tokCost kind, if kind = 2 then inrush else 0, false⟩ :: s.tok.held, []⟩ ∧
        RegsBut [Reg.TOK_STAT, Reg.TOK_POWER, Reg.TOK_CNT kind] s t ∧ Within [.regs, .tok] s t) ∧
  (∀ (s : State) (kind id inrush : Nat), kind ≤ 8 → s.pfw = false → s.tok.deferred.length < 16 →
    tokFits s ⟨kind, id, tokCost kind, if kind = 2 then inrush else 0, false⟩ = false → Answers (exec (.tokenRequest kind id inrush) s) fun t =>
      t.tok.held = s.tok.held ∧ t.tok.deferred.length = s.tok.deferred.length + 1 ∧
        ⟨kind, id, tokCost kind, if kind = 2 then inrush else 0, false⟩ ∈ t.tok.deferred ∧
        RegsBut [Reg.TOK_STAT, Reg.TOK_POWER] s t ∧ Within [.regs, .tok] s t) ∧
  (∀ (s : State) (kind id inrush : Nat), kind ≤ 8 → s.pfw = false → s.tok.deferred.length = 16 →
    Answers (exec (.tokenRequest kind id inrush) s) fun t =>
      t.tok = s.tok ∧ t.get Fd.TOK_LAST_REASON = 3 ∧ t.get Fd.TOK_LAST_KIND = kind ∧ t.on Fd.TOK_EVT_REFUSED = true ∧
        RegsBut [Reg.TOK_EVT, Reg.TOK_LAST, Reg.TOK_CNT kind] s t ∧ Within [.regs, .tok] s t) ∧
  (∀ (s : State) (kind id : Nat) (e : TokEntry), kind ≠ 8 → s.tok.held = [e] → e.kind = kind → e.id = id → s.tok.deferred = [] →
    Answers (exec (.tokenRelease kind id) s) fun t =>
      t.tok = ⟨[], []⟩ ∧ RegsBut [Reg.TOK_STAT, Reg.TOK_POWER] s t ∧ Within [.regs, .tok] s t) ∧
  (∀ (s : State) (kind id : Nat) (e : TokEntry), s.tok.deferred = [e] → e.kind = kind → e.id = id →
    Answers (exec (.tokenRequestWithdraw kind id) s) fun t =>
      t.tok = ⟨s.tok.held, []⟩ ∧ RegsBut [Reg.TOK_STAT, Reg.TOK_POWER] s t ∧ Within [.regs, .tok] s t) ∧
  (∀ (s : State) (kind id : Nat) (e : TokEntry), s.tok.deferred = [e] → e.kind = kind → e.id = id → kind ≤ 8 →
    Answers (exec (.tokenWaitTimeout kind id) s) fun t =>
      t.tok = ⟨s.tok.held, []⟩ ∧ t.get Fd.TOK_LAST_REASON = 2 ∧ t.on Fd.TOK_EVT_TIMEOUT = true ∧
        RegsBut [Reg.TOK_STAT, Reg.TOK_POWER, Reg.TOK_EVT, Reg.TOK_LAST, Reg.TOK_CNT kind] s t ∧ Within [.regs, .tok] s t) ∧
  (∀ (s : State) (kind id : Nat), (s.tok.held.any fun e => tokIs kind id e && !e.overrun) = true → kind ≤ 8 →
    Answers (exec (.tokenHoldOverrun kind id) s) fun t =>
      t.on Fd.TOK_EVT_OVERRUN = true ∧ t.tok.held.map (·.cost) = s.tok.held.map (·.cost) ∧ t.tok.deferred = s.tok.deferred ∧
        RegsBut [Reg.TOK_EVT, Reg.TOK_CNT kind] s t ∧ Within [.regs, .tok] s t) ∧
  (∀ (s : State) (pin : Nat), pin < 65536 → s.tok.deferred = [] → Answers (exec (.baselineRecompute pin) s) fun t =>
    t.get Fd.PWR_PIN_MW = pin ∧ t.get Fd.TOK_POWER_BASEMW = pin - tokHeldCost s ∧ t.tok = s.tok ∧
      RegsBut [Reg.PWR_PIN, Reg.TOK_POWER, Reg.TOK_STAT] s t ∧ Within [.regs, .tok] s t) ∧
  (∀ (s : State) (mv : Nat), mv < 65536 → mv < s.parN Par.VSYS_HEAD → Answers (exec (.vsysHeadCrossing mv) s) fun t =>
    t.get Fd.PWR_VSYS_MV = mv ∧ t.on Fd.TOK_STAT_VLOW = true ∧ t.tok = s.tok ∧
      RegsBut [Reg.PWR_VSYS, Reg.TOK_STAT] s t ∧ Within [.regs, .tok] s t)

/-- R69 to R71, R80, R82 to R89, R92, R113, R128, R129, R132, R145, R155: stuck streams, a rotation step whose windows match and whose converter passes,
the store of the trims, lane faults, the values of an update with no compare, a new correction set, and the record that every block puts on X00,
numbered by the block counter, whatever the engines do. The model's readings and choices behind it: log entries 15 to 19, 29, 30, 32, 36 to 39, 81,
87, 89, 105, 106, 114, 261. -/
def Obligations.MetrologyWork : Prop :=
  (∀ (s : State) (n beat : Nat), s.variant = .m → s.held .metrology = false → n < 10 → s.parN (Par.MOD_ROLE n) ≤ 10 →
    Answers (exec (.stuckStreamDetect n beat) s) fun t =>
      t.bitOf Reg.AFE_MOD (16 + n) = true ∧ t.on Fd.AFE_EVT_STUCK = true ∧ RegsBut [Reg.AFE_MOD, Reg.AFE_EVT] s t ∧ Within [.regs] s t) ∧
  (∀ (s : State) (c q x : Nat) (l : List Nat), s.variant = .f → s.held .metrology = false → c < 14 →
    (List.range 14).find? (fun r => roleConv s r == c && !s.on (Fd.AFE_CH_FAULT r)) = some q → freeSpares s = x :: l →
    Answers (exec (.stuckStreamDetect c 0) s) fun t =>
      t.get (Fd.AFE_CSTATE_STATE c) = 4 ∧ roleConv t q = x ∧ t.on Fd.AFE_EVT_STUCK = true ∧ t.on Fd.AFE_EVT_CONVFAULT = true ∧
        RegsBut [Reg.AFE_STAT, Reg.AFE_EVT, Reg.AFE_ROT, Reg.AFE_CSTATE c, Reg.AFE_CSTATE x, Reg.AFE_CH q, Reg.SYS_FLT, Reg.SYS_FLTLAST] s t ∧
        Within [.regs, .afe, .logs, .free] s t) ∧
  (∀ (s : State) (m : RotMeas) (r c sp : Nat) (rest : List Nat), s.isF = true → s.held .metrology = false → s.on Fd.AFE_STAT_ROTON = true →
    s.afe.todo = r :: rest → r < 14 → nth s.afe.storedMap r r = c → c < 14 → roleConv s r = c → freeSpares s = [sp] →
    m.win.extended ≤ 64 → matchOk s m.win = true → m.ret.extended ≤ 64 → matchOk s m.ret = true →
    Exact.abs ((refResult s m.under).1.gain - (nth s.afe.trims c (factoryTrim s c)).gain) * 1000000 ≤ (s.parN Par.STEP_LIM : Rat) →
    refFaulty s c (refResult s m.under) = false → Answers (exec (.rotationStep m) s) fun t =>
      t.afe.trims = setNth s.afe.trims c (refResult s m.under).1 ∧ roleConv t r = c ∧ t.get (Fd.AFE_CH_AGE r) = 0 ∧
        t.afe.stepNo = s.afe.stepNo + 1 ∧
        RegsBut [Reg.AFE_ROT, Reg.AFE_STAT, Reg.AFE_EVT, Reg.AFE_CH r, Reg.AFE_CSTATE c, Reg.AFE_CSTATE sp, Reg.AFE_CGAIN c, Reg.AFE_COFS c] s t ∧
        Within [.regs, .afe, .logs, .free] s t) ∧
  (∀ (s : State), Answers (exec .trimStore s) fun t => t.afe.stored = s.afe.trims ∧ t.afe.trims = s.afe.trims ∧ Within [.afe] s t) ∧
  (∀ (s : State) (k beat : Nat), s.isF = true → s.held .metrology = false → k < 12 → beat ≤ 1 → laneRole s k < 8 → laneRole s k ∉ s.afe.laneDown →
    Answers (exec (.laneFaultDetect k beat none) s) fun t =>
      t.bitOf Reg.AFE_LANE (12 + k) = true ∧ t.on Fd.AFE_EVT_LANEFAULT = true ∧ t.afe.laneDown = s.afe.laneDown ++ [laneRole s k] ∧
        RegsBut [Reg.AFE_LANE, Reg.AFE_EVT, Reg.AFE_STAT] s t ∧ Within [.regs, .afe] s t) ∧
  (∀ (s : State) (k c q x : Nat) (l : List Nat), s.isF = true → s.held .metrology = false → k < 12 → c < 14 →
    (List.range 14).find? (fun r => roleConv s r == c && !s.on (Fd.AFE_CH_FAULT r)) = some q → freeSpares s = x :: l →
    Answers (exec (.laneFaultDetect k 0 (some c)) s) fun t =>
      t.get (Fd.AFE_CSTATE_STATE c) = 4 ∧ roleConv t q = x ∧ t.afe.storedMap = setNth s.afe.storedMap q x ∧
        RegsBut [Reg.AFE_STAT, Reg.AFE_EVT, Reg.AFE_ROT, Reg.AFE_CSTATE c, Reg.AFE_CSTATE x, Reg.AFE_CH q, Reg.SYS_FLT, Reg.SYS_FLTLAST] s t ∧
        Within [.regs, .afe, .logs, .free] s t) ∧
  (∀ (s : State) (k p : Nat) (l : List Nat), s.isF = true → s.held .metrology = false → k < 8 → k ∈ s.afe.laneDown →
    [10, 11].filter (laneFree s) = p :: l → Answers (exec (.laneRoleMove k) s) fun t =>
      t.get (if p = 10 then Fd.AFE_LANE_SUB10 else Fd.AFE_LANE_SUB11) = k ∧ t.afe.laneDown = s.afe.laneDown.erase k ∧
        t.on Fd.SYS_FLT_NEW = true ∧
        RegsBut [Reg.AFE_LANE, Reg.AFE_STAT, Reg.SYS_FLT, Reg.SYS_FLTLAST] s t ∧ Within [.regs, .afe, .logs, .free] s t) ∧
  (∀ (s : State) (m : InstMeas) (a : Nat), s.on Fd.MTR_STAT_READY = true → s.running = true → s.held .metrology = false →
    activeEng s = some a → engSt s (1 - a) = 7 → m.ac = false → s.ses.dc = false → s.saf.outWait = false →
    Answers (exec (.instantValuesUpdate m) s) fun t =>
      t.on Fd.PTS_STAT_HELD = false ∧
        (roleInvalid s 9 = false → t.reg (Reg.MTR_VDC 0) = BitVec.ofNat 32 (Bits.ofInt 32 (nth (engValues s m a) 0 0))) ∧
        (roleInvalid s 9 = true → t.reg (Reg.MTR_VDC 0) = s.reg (Reg.MTR_VDC 0)) ∧ t.pts = s.pts ∧
        RegsBut [Reg.PTS_STAT, Reg.MTR_VDC 0, Reg.MTR_VDC 1, Reg.MTR_IDC 0, Reg.MTR_IDC 1, Reg.MTR_PDC 0, Reg.MTR_PDC 1, Reg.MTR_PCONN 0,
          Reg.MTR_PCONN 1] s t ∧
        Within [.regs, .tok, .pts, .bil, .btm, .logs, .saf, .x03, .x04, .q, .grpSeq, .ses, .amb, .eth, .x11, .out, .free] s t) ∧
  (∀ (s : State) (p : List (Nat × Int)), s.held .metrology = false → s.corrSent = some p → corrOver (corrInForce s) p ≠ corrInForce s →
    Answers (exec .correctionSetApply s) fun t =>
      t.corrSent = none ∧ (rail t 0).eng.corr = corrOver (corrInForce s) p ∧ (rail t 1).eng.corr = corrOver (corrInForce s) p ∧
        (rail t 0).eng.corrFlag = true ∧ (∀ q v, p = [(q, v)] → t.par q = v) ∧ t.on Fd.MTR_EVT_CORRAPL = true ∧ RegsBut [Reg.MTR_EVT] s t ∧
        Within [.regs, .params, .pts, .corrSent, .logs] s t) ∧
  (∀ (s : State) (p : List (Nat × Int)), s.held .metrology = false → s.corrSent = some p → corrOver (corrInForce s) p = corrInForce s →
    Answers (exec .correctionSetApply s) fun t => t.corrSent = none ∧ Within [.corrSent] s t) ∧
  (∀ (s : State) (raws : List (List Int)) (edges : Nat) (dev0 dev1 : List Int), s.on Fd.AFE_STAT_READY = true → s.running = true →
    s.held .metrology = false → s.on Fd.MTR_STAT_READY = true → Answers (exec (.metrologyBlock raws edges dev0 dev1) s) fun t =>
      (∃ r : Rec, t.x00 = s.x00 ++ [r] ∧ r.blk = (s.regN Reg.MTR_BLKCNT + 1) % 2 ^ 32) ∧
        Within [.regs, .afe, .pts, .x00, .btm, .logs, .saf, .x03, .x19, .out, .free] s t)

/-- R145, R148, R152, R156, R157: a fault of the active engine changes over to the standby, and the faulty engine leaves for self-test; self-tests
planned, asked for, failed and repeated. The model's readings and choices behind it: log entries 33 to 36, 39, 261. -/
def Obligations.EngineFaults : Prop :=
  (∀ (s : State) (e : Nat), s.held .metrology = false → e < 2 → s.on Fd.MTR_STAT_READY = true → engSt s e = 0 → engSt s (1 - e) = 1 →
    (s.pts.faultHours.filter fun f => f.1 == e).length < 2 → Answers (exec (.engineDeadlineMiss e) s) fun t =>
      engSt t e = 2 ∧ engSt t (1 - e) = 0 ∧ t.get (Fd.PTS_ENG_CAUSE e) = 2 ∧ t.on Fd.PTS_EVT_CHANGE = true ∧ t.on Fd.PTS_EVT_FAULT = true ∧
        t.regN Reg.PTS_LASTCHG = (s.regN Reg.MTR_BLKCNT + 1) % 2 ^ 32 ∧ t.out = .pointsStatus (1 - e) :: s.out ∧
        RegsBut [Reg.PTS_STAT, Reg.PTS_EVT, Reg.PTS_CNT, Reg.PTS_LASTCHG, Reg.PTS_ENG 0, Reg.PTS_ENG 1, Reg.SYS_FLT, Reg.SYS_FLTLAST] s t ∧
        Within [.regs, .pts, .logs, .out, .free] s t) ∧
  (∀ (s : State) (e : Nat), s.held .metrology = false → e < 2 → s.on Fd.MTR_STAT_READY = true → engSt s e = 0 → engSt s (1 - e) = 1 →
    (s.pts.faultHours.filter fun f => f.1 == e).length < 2 → Answers (exec (.engineSelfCheckError e) s) fun t =>
      engSt t e = 2 ∧ engSt t (1 - e) = 0 ∧ t.get (Fd.PTS_ENG_CAUSE e) = 1 ∧ t.on Fd.PTS_EVT_CHANGE = true ∧ t.on Fd.PTS_EVT_FAULT = true ∧
        t.regN Reg.PTS_LASTCHG = (s.regN Reg.MTR_BLKCNT + 1) % 2 ^ 32 ∧ t.out = .pointsStatus (1 - e) :: s.out ∧
        RegsBut [Reg.PTS_STAT, Reg.PTS_EVT, Reg.PTS_CNT, Reg.PTS_LASTCHG, Reg.PTS_ENG 0, Reg.PTS_ENG 1, Reg.SYS_FLT, Reg.SYS_FLTLAST] s t ∧
        Within [.regs, .pts, .logs, .out, .free] s t) ∧
  (∀ (s : State) (b a : Nat) (bs : List Nat) (p : Snap), s.held .metrology = false → s.x01 = b :: bs → activeEng s = some a →
    (rail s a).snaps.find? (fun p => p.blk == b) = some p → engSt s (1 - a) = 7 → Answers (exec .commitMarkSnapshot s) fun t =>
      t.x01 = bs ∧ t.pts = { s.pts with stored := some p, markSeen := true } ∧ Within [.pts, .x01] s t) ∧
  (∀ (s : State) (e : Nat), s.held .metrology = false → e < 2 → engSt s e = 2 → engSt s (1 - e) = 0 →
    Answers (exec (.engineSelfTestDone e true) s) fun t =>
      engSt t e = 3 ∧ engSt t (1 - e) = 0 ∧ (rail t e).fails = 0 ∧ RegsBut [Reg.PTS_STAT, Reg.PTS_ENG e] s t ∧ Within [.regs, .pts] s t) ∧
  (∀ (s : State) (e : Nat), s.held .metrology = false → e < 2 → engSt s e = 2 → engSt s (1 - e) = 0 → (rail s e).fails = 0 →
    (s.pts.faultHours.filter fun f => f.1 == e).length < 2 → Answers (exec (.engineSelfTestDone e false) s) fun t =>
      engSt t e = 2 ∧ engSt t (1 - e) = 0 ∧ (rail t e).fails = 1 ∧ t.on Fd.PTS_EVT_STFAIL = true ∧ t.get (Fd.PTS_ENG_CAUSE e) = 4 ∧
        RegsBut [Reg.PTS_STAT, Reg.PTS_EVT, Reg.PTS_ENG e, Reg.SYS_FLT, Reg.SYS_FLTLAST] s t ∧ Within [.regs, .pts, .logs, .free] s t) ∧
  (∀ (s : State) (e : Nat), s.held .metrology = false → e < 2 → engSt s e = 2 → engSt s (1 - e) = 0 → 0 < (rail s e).fails →
    Answers (exec (.selfTestRetry e true) s) fun t =>
      engSt t e = 3 ∧ (rail t e).fails = 0 ∧ RegsBut [Reg.PTS_STAT, Reg.PTS_ENG e] s t ∧ Within [.regs, .pts] s t) ∧
  (∀ (s : State) (a : Nat), s.held .metrology = false → activeEng s = some a → engSt s (1 - a) = 1 → s.pts.due ≠ a →
    Answers (exec .plannedSelfTestDue s) fun t =>
      engSt t (1 - a) = 2 ∧ engSt t a = 0 ∧ t.pts.planned = false ∧ t.pts.due = 1 - s.pts.due ∧
        RegsBut [Reg.PTS_STAT, Reg.PTS_ENG (1 - a)] s t ∧ Within [.regs, .pts] s t) ∧
  (∀ (s : State), s.held .metrology = false → ptsDual s = false → Answers (exec .plannedSelfTestDue s) fun t =>
      t.pts = { s.pts with planned := true } ∧ Within [.pts] s t) ∧
  (∀ (s : State) (p : Path) (a : Nat), HostMay p 1 s → s.held .metrology = false → activeEng s = some a → engSt s (1 - a) = 1 → s.pts.due ≠ a →
    Answers (exec (.selfTestNow p) s) fun t =>
      engSt t (1 - a) = 2 ∧ engSt t a = 0 ∧ t.pts.plannedNow = false ∧ t.pts.due = 1 - s.pts.due ∧ t.out = .hostStatus p 0 :: s.out ∧
        RegsBut (Reg.PTS_STAT :: Reg.PTS_ENG (1 - a) :: hostRegs p) s t ∧ Within [.regs, .pts, .out] s t)

/-- R158 to R164: warm-up, shadow, trial, and the clear of the mismatch count. The model's readings and choices behind it: log entries 33, 34, 39, 89,
261. -/
def Obligations.EngineRejoin : Prop :=
  (∀ (s : State) (e : Nat), s.held .metrology = false → e < 2 → engSt s e = 4 → engSt s (1 - e) = 0 →
    s.parN Par.WARMUP ≤ (rail s e).warm → Answers (exec (.warmupEnd e) s) fun t =>
      engSt t e = 5 ∧ engSt t (1 - e) = 0 ∧ t.get (Fd.PTS_ENG_CLEAN e) = 0 ∧ (rail t e).shadow = 0 ∧
        RegsBut [Reg.PTS_STAT, Reg.PTS_ENG e] s t ∧ Within [.regs, .pts] s t) ∧
  (∀ (s : State) (e : Nat), s.held .metrology = false → e < 2 → engSt s e = 5 → engSt s (1 - e) = 0 → 1000 ≤ s.get (Fd.PTS_ENG_CLEAN e) →
    s.pts.planned = false → s.pts.plannedNow = false → Answers (exec (.shadowPromote e) s) fun t =>
      engSt t e = 1 ∧ engSt t (1 - e) = 0 ∧ t.on Fd.PTS_EVT_REJOIN = true ∧ RegsBut [Reg.PTS_STAT, Reg.PTS_EVT, Reg.PTS_ENG e] s t ∧
        Within [.regs, .pts] s t) ∧
  (∀ (s : State) (e : Nat), s.held .metrology = false → e < 2 → engSt s e = 5 → engSt s (1 - e) = 0 → 60000 ≤ (rail s e).shadow →
    s.get (Fd.PTS_ENG_CLEAN e) < 1000 → (s.pts.faultHours.filter fun f => f.1 == e).length < 2 → Answers (exec (.shadowTimeout e) s) fun t =>
      engSt t e = 2 ∧ engSt t (1 - e) = 0 ∧ t.on Fd.PTS_EVT_SHADOWTO = true ∧ t.get (Fd.PTS_ENG_CAUSE e) = 5 ∧
        RegsBut [Reg.PTS_STAT, Reg.PTS_EVT, Reg.PTS_ENG e, Reg.SYS_FLT, Reg.SYS_FLTLAST] s t ∧ Within [.regs, .pts, .logs, .free] s t) ∧
  (∀ (s : State) (p : Path) (a : Nat), HostMay p 2 s → s.held .metrology = false → activeEng s = some a → engSt s (1 - a) = 1 →
    Answers (exec (.trialStart p) s) fun t =>
      engSt t (1 - a) = 6 ∧ engSt t a = 0 ∧ t.on Fd.PTS_CTL_TRIAL = true ∧ t.pts.trial = List.replicate 13 0 ∧ t.regN Reg.PTS_TRIALBLK = 0 ∧
        (rail t (1 - a)).eng.corr = corrOver (corrInForce s) s.parPend ∧ RegsBut ([Reg.PTS_STAT, Reg.PTS_CTL, Reg.PTS_ENG (1 - a), Reg.PTS_TRIALBLK] ++
        (List.range 26).map (fun w => Reg.PTS_TRIAL w) ++ hostRegs p) s t ∧ Within [.regs, .pts, .out] s t) ∧
  (∀ (s : State) (p : Path) (e : Nat), HostMay p 2 s → s.held .metrology = false → e < 2 → engSt s e = 6 → engSt s (1 - e) = 0 →
    Answers (exec (.trialEnd p) s) fun t =>
      engSt t e = 3 ∧ t.on Fd.PTS_CTL_TRIAL = false ∧ (rail t e).eng.corr = corrInForce s ∧
        RegsBut (Reg.PTS_STAT :: Reg.PTS_CTL :: Reg.PTS_ENG e :: hostRegs p) s t ∧ Within [.regs, .pts, .out] s t) ∧
  (∀ (s : State) (e : Nat), s.held .metrology = false → e < 2 → engSt s e = 6 → engSt s (1 - e) = 0 →
    Answers (exec .trialMaxExpiry s) fun t =>
      engSt t e = 3 ∧ t.on Fd.PTS_CTL_TRIAL = false ∧ (rail t e).eng.corr = corrInForce s ∧
        RegsBut [Reg.PTS_STAT, Reg.PTS_CTL, Reg.PTS_ENG e] s t ∧ Within [.regs, .pts] s t) ∧
  (∀ (s : State) (p : Path), HostMay p 1 s → s.held .metrology = false → Answers (exec (.mismatchCountClear p) s) fun t =>
      t.get Fd.PTS_CNT_MISM = 0 ∧ t.get Fd.PTS_CNT_CHANGES = s.get Fd.PTS_CNT_CHANGES ∧ t.out = .hostStatus p 0 :: s.out ∧
        RegsBut (Reg.PTS_CNT :: hostRegs p) s t ∧ Within [.regs, .out] s t)

/-- R167, R173 to R181: a record attributed, the tick of a second, the commit of a second. The model's readings and choices behind it: log entries 42, 45,
51, 54, 58, 59, 64, 65, 89, 153, 219, 261, 262. -/
def Obligations.BillingPipeline : Prop :=
  (∀ (s : State) (r : Rec) (rs : List Rec), s.x00 = r :: rs → s.bil.stopped = false → s.on Fd.SYS_FLT_BILLOST = false → s.bil.pend.length < 4095 →
    Answers (exec .blockRecordAttribute s) fun t =>
      t.x00 = rs ∧ (∃ e : Pend, t.bil.pend = s.bil.pend ++ [e] ∧ e.rcd = r ∧ e.confirmed = false ∧ e.rate = rateAt s e.sec ∧
        e.gen = s.get Fd.BIL_TTGEN_ACTIVE) ∧ t.bil.acc = s.bil.acc ∧ RegsBut [Reg.BIL_STAT] s t ∧ Within [.regs, .x00, .bil] s t) ∧
  (∀ (s : State) (r : Rec) (rs : List Rec), s.x00 = r :: rs → s.bil.stopped = true → Answers (exec .blockRecordAttribute s) fun t =>
      t.x00 = rs ∧ t.bil = { s.bil with lost := s.bil.lost + 1 } ∧ t.on Fd.BIL_EVT_PFLOSS = true ∧ RegsBut [Reg.BIL_EVT] s t ∧
        Within [.regs, .x00, .bil] s t) ∧
  (∀ (s : State), s.held .battery = false → s.pow.dark = false → s.running = false → Answers (exec .billingTick s) fun t =>
      t.regN Reg.BTM_TIME = (s.regN Reg.BTM_TIME + 1) % 2 ^ 32 ∧ t.bil = s.bil ∧ RegsBut [Reg.BTM_TIME, Reg.BTM_SLEWREM] s t ∧
        Within [.regs, .btm] s t) ∧
  (∀ (s : State) (sec : Nat) (rest : List Nat) (e : Pend), s.bil.due = sec :: rest → s.on Fd.SYS_FLT_BILLOST = false →
    s.bil.catchUp.testBit 4 = false → (dueEntries s sec).getLast? = some e → Answers (exec .secondCommit s) fun t =>
      t.x01 = s.x01 ++ [e.rcd.blk] ∧ (∀ q r, q < 11 → 0 < r → r < 17 →
        accOf t q r = accOf s q r + ((dueEntries s sec).map fun e => if e.rate = r then nth (amounts s e.rcd) q 0 else 0).sum) ∧
        Within [.regs, .params, .tok, .x01, .parNext, .bil, .btm, .logs, .saf, .x04, .x06, .q, .grpSeq, .ses, .nfc, .mail, .amb, .eth, .x11, .out] s t)

/-- R187, R198, R204, R385: the frozen view, credit transfers and the signing of Waybills. The model's readings and choices behind it: log entries 14, 53,
114, 168, 261. -/
def Obligations.BillingViews : Prop :=
  (∀ (s : State) (p : Path), HostMay p 1 s → Answers (exec (.viewSnap p) s) fun t =>
      t.bil = { s.bil with frozen := viewWords s } ∧ t.on Fd.BIL_STAT_SNAPON = true ∧ t.reg Reg.BIL_SNAPNUM = s.reg Reg.BIL_COMMIT ∧
        t.out = .hostStatus p 0 :: s.out ∧ RegsBut (Reg.BIL_STAT :: Reg.BIL_SNAPNUM :: hostRegs p) s t ∧ Within [.regs, .bil, .out] s t) ∧
  (∀ (s : State) (p : Path), HostMay p 1 s → Answers (exec (.viewRelease p) s) fun t =>
      t.bil = { s.bil with frozen := [] } ∧ t.on Fd.BIL_STAT_SNAPON = false ∧ t.regN Reg.BIL_SNAPNUM = 0 ∧ t.out = .hostStatus p 0 :: s.out ∧
        RegsBut (Reg.BIL_STAT :: Reg.BIL_SNAPNUM :: hostRegs p) s t ∧ Within [.regs, .bil, .out] s t) ∧
  (∀ (s : State), Answers (exec .viewSnapTimeout s) fun t =>
      t.bil = { s.bil with frozen := [] } ∧ t.on Fd.BIL_STAT_SNAPON = false ∧ t.regN Reg.BIL_SNAPNUM = 0 ∧
        RegsBut [Reg.BIL_STAT, Reg.BIL_SNAPNUM] s t ∧ Within [.regs, .bil] s t) ∧
  (∀ (s : State) (amount : Int) (number src : Nat), s.regN Reg.BIL_TOPUP < number → number < 2 ^ 32 →
    Answers (exec (.creditTransferReceive amount number src) s) fun t =>
      t.bil = { s.bil with transfers := s.bil.transfers ++ [(amount, number, src)] } ∧ t.regN Reg.BIL_TOPUP = number ∧
        RegsBut [Reg.BIL_TOPUP] s t ∧ Within [.regs, .bil] s t) ∧
  (∀ (s : State) (amount : Int) (number src : Nat), number ≤ s.regN Reg.BIL_TOPUP →
    Answers (exec (.creditTransferReceive amount number src) s) fun t =>
      t.on Fd.BIL_EVT_TOPREJ = true ∧ RegsBut [Reg.BIL_EVT] s t ∧ Within [.regs, .logs] s t) ∧
  (∀ (s : State) (w : Waybill) (rest : List Waybill), s.bil.unsigned = w :: rest → s.bil.signRetry = false → s.pfw = false → wbKeyOk s = true →
    s.parN Par.WB_SIGALG = 1 → w.kind = 1 → Answers (exec .waybillSigned s) fun t =>
      t.bil.unsigned = rest ∧ (∃ w', t.bil.sessWb = (w' :: s.bil.sessWb).take 16384 ∧ w'.seq = w.seq ∧ w'.body = w.body ∧ w'.sigAlg = 1 ∧
        w'.keySlot = s.parN Par.WB_KEYSLOT) ∧ RegsBut [Reg.BIL_WBUNS, Reg.BIL_STAT] s t ∧
        Within [.regs, .tok, .bil] s t) ∧
  (∀ (s : State) (w : Waybill) (rest : List Waybill), s.bil.unsigned = w :: rest → s.pfw = false → wbKeyOk s = true →
    s.parN Par.WB_SIGALG = 1 → w.kind = 1 → Answers (exec .waybillSignRetry s) fun t =>
      t.bil.unsigned = rest ∧ t.bil.signRetry = false ∧ (∃ w', t.bil.sessWb = (w' :: s.bil.sessWb).take 16384 ∧ w'.seq = w.seq ∧ w'.body = w.body) ∧
        RegsBut [Reg.BIL_WBUNS, Reg.BIL_STAT] s t ∧
        Within [.regs, .tok, .bil] s t)

/-- R207 to R219: the trims of the billing clock, and its adjustments: one within ADJ_LIM is slewed; a larger one forward, or back within BACK_MAX, waits
as a step; a larger one back is refused. The model's readings and choices behind it: log entries 54 to 59, 64, 65, 89, 114, 261, 262. -/
def Obligations.BillingClock : Prop :=
  (∀ (s : State) (temp : Int), s.held .battery = false → Answers (exec (.rtcTemperatureTrim temp) s) fun t =>
      t.btm = { s.btm with tempTrim := crystalTrim s temp } ∧ t.get Fd.PWR_TEMP_TDIE = Bits.ofInt 16 temp % 2 ^ 16 ∧
        t.get Fd.BTM_TRIM_TOTAL = Bits.ofInt 16 (crystalTrim s temp + Bits.signed 16 (s.get Fd.BTM_TRIM_LEARN)) % 2 ^ 16 ∧
        RegsBut [Reg.PWR_TEMP, Reg.BTM_TRIM] s t ∧ Within [.regs, .btm, .mem] s t) ∧
  (∀ (s : State) (mean : Int), s.on Fd.BTM_STAT_PTPLOCK = true → Answers (exec (.learnedTrimStore mean) s) fun t =>
      t.get Fd.BTM_TRIM_LEARN = Bits.ofInt 16 mean % 2 ^ 16 ∧ RegsBut [Reg.BTM_TRIM] s t ∧ Within [.regs] s t) ∧
  (∀ (s : State), dstAt s (s.regN Reg.BTM_TIME) ≠ s.on Fd.BTM_STAT_DST → Answers (exec .dstChange s) fun t =>
      t.on Fd.BTM_STAT_DST = dstAt s (s.regN Reg.BTM_TIME) ∧ RegsBut [Reg.BTM_STAT] s t ∧ Within [.regs, .logs] s t) ∧
  (∀ (s : State), s.btm.slew = 0 → Answers (exec .slewComplete s) fun t =>
      t.regN Reg.BTM_SLEWREM = 0 ∧ t.on Fd.BTM_STAT_SLEW = false ∧ RegsBut [Reg.BTM_SLEWREM, Reg.BTM_STAT] s t ∧ Within [.regs, .btm] s t) ∧
  (∀ (s : State) (src newMs frac : Nat), s.pfw = false → s.on Fd.BTM_STAT_VALID = true →
    ((newMs : Int) - (s.regN Reg.BTM_TIME * 1000 + frac : Nat)).natAbs ≤ s.parN Par.ADJ_LIM * 1000 →
    Answers (exec (.clockAdjustment src newMs frac) s) fun t =>
      t.btm = { s.btm with slew := ((newMs : Int) - (s.regN Reg.BTM_TIME * 1000 + frac : Nat)) * 5 } ∧ t.on Fd.BTM_STAT_SLEW = true ∧
        RegsBut [Reg.BTM_SLEWREM, Reg.BTM_STAT] s t ∧ Within [.regs, .btm, .logs] s t) ∧
  (∀ (s : State) (src newMs frac : Nat), s.pfw = false → s.on Fd.BTM_STAT_VALID = true → src ≠ 3 → s.btm.step = none →
    s.parN Par.ADJ_LIM * 1000 < ((newMs : Int) - (s.regN Reg.BTM_TIME * 1000 + frac : Nat)).natAbs →
    s.regN Reg.BTM_HWS ≤ newMs / 1000 + s.parN Par.BACK_MAX → Answers (exec (.clockAdjustment src newMs frac) s) fun t =>
      t.btm = { s.btm with step := some ⟨(newMs / 1000 : Nat) - (s.regN Reg.BTM_TIME + 1 : Nat), newMs / 1000, src, false, false⟩ } ∧
        Within [.btm, .logs] s t) ∧
  (∀ (s : State) (src newMs frac : Nat), s.pfw = false → s.on Fd.BTM_STAT_VALID = true → src ≠ 3 →
    s.parN Par.ADJ_LIM * 1000 < ((newMs : Int) - (s.regN Reg.BTM_TIME * 1000 + frac : Nat)).natAbs → newMs / 1000 < s.regN Reg.BTM_TIME + 1 →
    newMs / 1000 + s.parN Par.BACK_MAX < s.regN Reg.BTM_HWS → Answers (exec (.clockAdjustment src newMs frac) s) fun t =>
      t.on Fd.BTM_EVT_REFUSED = true ∧ RegsBut [Reg.BTM_EVT] s t ∧ Within [.regs, .logs] s t) ∧
  (∀ (s : State) (p : Path) (frac : Nat), HostMay p 1 s → s.held .battery = false → s.on Fd.BTM_STAT_VALID = true →
    (((s.regN Reg.BTM_SETVAL * 1000 : Nat) : Int) - (s.regN Reg.BTM_TIME * 1000 + frac : Nat)).natAbs ≤ s.parN Par.ADJ_LIM * 1000 →
    Answers (exec (.clockSetGo p frac) s) fun t =>
      t.btm = { s.btm with slew := (((s.regN Reg.BTM_SETVAL * 1000 : Nat) : Int) - (s.regN Reg.BTM_TIME * 1000 + frac : Nat)) * 5 } ∧
        t.on Fd.BTM_STAT_SLEW = true ∧ t.out = .hostStatus p 0 :: s.out ∧
        RegsBut (Reg.BTM_SLEWREM :: Reg.BTM_STAT :: hostRegs p) s t ∧ Within [.regs, .btm, .logs, .out] s t) ∧
  (∀ (s : State) (p : Path) (frac : Nat), HostMay p 2 s → s.held .battery = false → s.btm.step = none →
    Answers (exec (.clockReset p frac) s) fun t =>
      t.btm = { s.btm with step := some ⟨(s.regN Reg.BTM_SETVAL : Int) - (s.regN Reg.BTM_TIME + 1 : Nat), s.regN Reg.BTM_SETVAL, 2, true, false⟩ } ∧
        t.out = .hostStatus p 0 :: s.out ∧ RegsBut (hostRegs p) s t ∧ Within [.regs, .btm, .logs, .out] s t) ∧
  (∀ (s : State) (frac : Nat) (stable : Bool), s.parN Par.PTP_DISC ≠ 0 → s.on Fd.BTM_STAT_PTPLOCK = true → s.held .battery = false →
    s.on Fd.BTM_STAT_VALID = true → s.pfw = false → Exact.toInt ((ptpDiff s frac : Rat) / 1000000) ≠ 0 →
    (Exact.toInt ((ptpDiff s frac : Rat) / 1000000)).natAbs ≤ s.parN Par.ADJ_LIM * 1000 → Answers (exec (.ptpClockCompare frac stable) s) fun t =>
      t.btm = { s.btm with slew := Exact.toInt ((ptpDiff s frac : Rat) / 1000000) * 5 } ∧ t.on Fd.BTM_STAT_SLEW = true ∧
        RegsBut [Reg.BTM_SLEWREM, Reg.BTM_STAT] s t ∧ Within [.regs, .btm, .logs] s t) ∧
  (∀ (s : State) (x : ClockStep), s.btm.step = some x → x.lost = false → s.running = true → supplyAbsent s = false → s.held .battery = false →
    stepHeld s = false → Answers (exec .clockStepApply s) fun t =>
      t.btm.step = none ∧ t.bil.tickSec = x.target ∧ t.bil.ticked = true ∧
        Within [.regs, .params, .tok, .x01, .parPend, .parNext, .corrSent, .bil, .btm, .logs, .saf, .x04, .x06, .q, .grpSeq, .ses, .nfc, .mail, .amb, .eth, .x11,
          .out, .free] s t)

/-- R226 to R228, R577, R187: tamper polls while the supply is absent, an outage burst, a measurement of the battery, the clear of Crossing statistics.
The model's readings and choices behind it: log entries 62, 65, 105, 218, 261. -/
def Obligations.BatteryDomain : Prop :=
  (∀ (s : State), s.held .battery = false → s.pow.dark = false → s.running = false → supplyAbsent s = true → s.parB (Par.TAMP_EN 0) = true →
    nth s.btm.polls 0 false = true → nth s.btm.polls 1 false = false → s.on Fd.BTM_STAT_COVER = false → s.on Fd.BTM_STAT_TERM = false →
    s.btm.tampBuf.length < 32 → Answers (exec (.tamperPoll true false) s) fun t =>
      t.btm.tampBuf = s.btm.tampBuf ++ [⟨s.regN Reg.BTM_TIME, 0x0301⟩] ∧ t.on Fd.BTM_STAT_COVER = true ∧ t.on Fd.BTM_EVT_COVER = true ∧
        t.get Fd.BTM_TAMPCNT_COVER = min (s.get Fd.BTM_TAMPCNT_COVER + 1) 65535 ∧
        RegsBut [Reg.BTM_STAT, Reg.BTM_EVT, Reg.BTM_TAMPCNT] s t ∧ Within [.regs, .btm] s t) ∧
  (∀ (s : State), s.held .battery = false → s.pow.dark = false → s.running = false → s.on Fd.BTM_STAT_COVER = false → s.on Fd.BTM_STAT_TERM = false →
    Answers (exec (.tamperPoll false false) s) fun t =>
      t.btm = { s.btm with polls := setNth (setNth s.btm.polls 0 false) 1 false } ∧ RegsBut [] s t ∧ Within [.btm] s t) ∧
  (∀ (s : State) (rms : List Nat) (o : OutageRec), s.btm.outage = some o → s.isF = true → s.parB Par.OUT_EN = true → o.incomplete = false →
    Answers (exec (.outageBurst rms) s) fun t =>
      (∃ o', t.btm = { s.btm with outage := some o' } ∧ o'.ampSec = o.ampSec + (rms.sum : Rat) / 1000 ∧ o'.largest = max o.largest (rms.foldl max 0) ∧
        o'.secsWith = o.secsWith + (if rms.any (fun x => decide (s.parN Par.OUT_ITHR < x)) then 1 else 0)) ∧ RegsBut [] s t ∧ Within [.btm] s t) ∧
  (∀ (s : State) (mv : Nat), s.held .battery = false → 2000 ≤ mv → mv < 2500 → Answers (exec (.vbatMeasure mv) s) fun t =>
      t.get Fd.PWR_VBAT_OPEN = mv ∧ t.on Fd.PWR_EVT_NOBAT = true ∧ t.on Fd.BTM_STAT_BATLOW = true ∧
        t.btm = { s.btm with outage := s.btm.outage.map (fun o => { o with incomplete := true }) } ∧ t.pow = s.pow ∧
        RegsBut [Reg.PWR_VBAT, Reg.PWR_EVT, Reg.BTM_STAT, Reg.NFC_TAGSTAT, Reg.NFC_TAGCNT, Reg.NFC_EVT] s t ∧ Within [.regs, .btm, .nfc, .pow] s t) ∧
  (∀ (s : State) (mv : Nat), s.held .battery = false → 2800 ≤ mv → mv < 65536 → Answers (exec (.vbatMeasure mv) s) fun t =>
      t.get Fd.PWR_VBAT_OPEN = mv ∧ t.on Fd.PWR_EVT_NOBAT = s.on Fd.PWR_EVT_NOBAT ∧ t.on Fd.BTM_STAT_BATLOW = false ∧ t.btm = s.btm ∧ t.pow = s.pow ∧
        RegsBut [Reg.PWR_VBAT, Reg.BTM_STAT, Reg.NFC_TAGSTAT, Reg.NFC_TAGCNT, Reg.NFC_EVT] s t ∧ Within [.regs, .btm, .nfc, .pow] s t) ∧
  (∀ (s : State) (p : Path) (bits : Word) (x : Nat), HostMay p 1 s → x < 21 → Bits.bit bits x = true → Answers (exec (.crossingStatsClear p bits) s) fun t =>
      t.get (Fd.SYS_XSTAT_HWM x) = 0 ∧ t.get (Fd.SYS_XSTAT_BPCNT x) = 0 ∧ t.on (Fd.SYS_XSTAT_NOOVF x) = s.on (Fd.SYS_XSTAT_NOOVF x) ∧
        t.out = .hostStatus p 0 :: s.out ∧ RegsBut ((List.range 21).map (fun x => Reg.SYS_XSTAT x) ++ hostRegs p) s t ∧ Within [.regs, .out] s t)

/-- R233 to R236: disconnect requests of the host, the relay's feedback, its retries, and its opening in any case. The model's readings and choices behind
it: log entries 65, 87, 88, 114, 261. -/
def Obligations.DisconnectControl : Prop :=
  (∀ (s : State) (p : Path), HostMay p 1 s → s.get Fd.SES_STAT_STATE < 4 → s.get Fd.BIL_DISC_STATE = 1 → contactorOn s = true →
    Answers (exec (.hostDisconnect p) s) fun t =>
      t.get Fd.BIL_DISC_REQ = s.get Fd.BIL_DISC_REQ ||| 4 ∧ t.get Fd.BIL_DISC_STATE = 0 ∧ t.btm = { s.btm with relayPend := false } ∧
        RegsBut (Reg.BIL_DISC :: hostRegs p) s t ∧
        Within [.regs, .tok, .bil, .btm, .logs, .saf, .x04, .x06, .q, .grpSeq, .ses, .amb, .eth, .x11, .out] s t) ∧
  (∀ (s : State) (p : Path), HostMay p 1 s → s.get Fd.SES_STAT_STATE < 4 → s.get Fd.BIL_DISC_STATE = 2 → s.get Fd.BIL_DISC_REQ = 0 →
    s.on Fd.MTR_STAT_READY = false → Answers (exec (.hostReconnect p) s) fun t =>
      t.get Fd.BIL_DISC_STATE = 1 ∧ t.get Fd.BIL_DISC_REQ = 0 ∧ t.btm = { s.btm with relayPend := true } ∧ RegsBut (Reg.BIL_DISC :: hostRegs p) s t ∧
        Within [.regs, .tok, .bil, .btm, .logs, .saf, .x04, .x06, .q, .grpSeq, .ses, .amb, .eth, .x11, .out] s t) ∧
  (∀ (s : State) (shown : Bool), s.btm.relayWait = true → shown = s.btm.relayOn → Answers (exec (.relayFeedbackTimeout shown) s) fun t =>
      t.on Fd.BIL_DISC_FAULT = false ∧ t.btm = { s.btm with relayWait := false, relayRepeat := false } ∧ RegsBut [Reg.BIL_DISC] s t ∧
        Within [.regs, .btm] s t) ∧
  (∀ (s : State) (shown : Bool), s.btm.relayWait = true → s.btm.relayOn = true → shown = false → s.btm.relayRepeat = false → s.pfw = false →
    relaySo s = none → Answers (exec (.relayFeedbackTimeout shown) s) fun t =>
      t.on Fd.BIL_DISC_FAULT = true ∧ t.btm = { s.btm with relayWait := false } ∧ RegsBut [Reg.BIL_DISC] s t ∧ Within [.regs, .btm, .logs] s t) ∧
  (∀ (s : State) (n : Nat), s.btm.relayRepeat = true → s.btm.relayOn = true → s.btm.relayWait = false → relaySo s = some n → relayBarred s = true →
    Answers (exec .relayCloseRetry s) fun t =>
      t.btm = { s.btm with relayRepeat := true, relayPend := false } ∧ t.saf = { s.saf with relayHeld := true } ∧ RegsBut [] s t ∧
        Within [.btm, .saf] s t) ∧
  (∀ (s : State), s.btm.relayRepeat = true → s.btm.relayOn = true → s.btm.relayWait = false → relaySo s = none →
    Answers (exec .relayCloseRetry s) fun t => t.btm = { s.btm with relayRepeat := false, relayPend := false } ∧ RegsBut [] s t ∧ Within [.btm] s t) ∧
  (∀ (s : State) (level : Bool), s.btm.relayWait = true → Answers (exec (.relayFeedbackUncommanded level) s) fun t =>
      t.on Fd.SAF_IN_DISCFB = level ∧ t.on Fd.BIL_DISC_FB = relayLevel s level ∧ RegsBut [Reg.SAF_IN, Reg.BIL_DISC] s t ∧ Within [.regs] s t) ∧
  (∀ (s : State) (n : Nat), s.get Fd.BIL_DISC_STATE = 0 → s.btm.relayOn = true → relaySo s = some n → n < 4 → Answers (exec .disconnectOpenTimeout s) fun t =>
      t.btm = { s.btm with relayOn := false, relayWait := true, relayRepeat := false, relayPend := false } ∧
        s.bitOf Reg.SWC_STAT (n + 4) = t.bitOf Reg.SWC_STAT (n + 4) ∧
        t.bitOf Reg.SAF_OUT n = false ∧ RegsBut [Reg.SAF_OUT, Reg.SWC_STAT] s t ∧ Within [.regs, .btm] s t) ∧
  (∀ (s : State), s.get Fd.BIL_DISC_STATE ≠ 0 → Answers (exec .disconnectOpenTimeout s) fun t => t = s)

/-- R243, R246 to R252, R255: the safety cycle, a discrepancy, test pulses, and words and samples that stop arriving. The model's readings and choices
behind it: log entries 68 to 70, 72, 79, 85, 261. -/
def Obligations.SafetyInputs : Prop :=
  (∀ (s : State) (i : SafeIn), s.held .signalBox = false → Answers (exec (.safetyCycle i) s) fun t =>
      t.on Fd.SAF_IN_RST = i.rst ∧ causeOn t 21 = s.pfw ∧ (s.pfw = true → causeOn s 21 = false → safSt t ≠ 0) ∧
        RegsBut ([Reg.SAF_IN, Reg.EFT_STAT, Reg.EFT_EVT] ++ causeRegs) s t ∧ Within [.regs, .btm, .saf, .x03, .x19] s t) ∧
  (∀ (s : State) (n : Nat), s.held .signalBox = false → n < 2 → s.saf.pairs.length = 4 → (nth s.saf.pairs n .zero).timer = true →
    (pairChannels s n).1 ≠ (pairChannels s n).2 → causeOn s 4 = false → safSt s = 0 → Answers (exec (.discrepancyTimeout n) s) fun t =>
      causeOn t 4 = true ∧ causeLatched t 4 = true ∧ safSt t = 1 ∧ t.get Fd.SAF_FIRST_CAUSE = 4 ∧ t.on Fd.SAF_OUT_GOFFA = true ∧
        t.on Fd.SAF_OUT_GOFFB = true ∧ t.get Fd.SAF_OUT_PILOT = 2 ∧ (nth t.saf.pairs n .zero).fault = true ∧ (nth t.saf.pairs n .zero).timer = false ∧
        RegsBut causeRegs s t ∧ Within [.regs, .btm, .saf, .x03, .x19] s t) ∧
  (∀ (s : State) (tp closed wrong : Nat), s.held .signalBox = false → tp < 2 → Answers (exec (.inputTestPulse tp closed wrong) s) fun t =>
      t.saf.tested = s.saf.tested ||| (fedBy tp &&& (255 ^^^ (closed &&& 255))) ∧ causeOn t 5 = (inputFaults t != 0) ∧
        RegsBut causeRegs s t ∧ Within [.regs, .btm, .saf, .x03, .x19] s t) ∧
  (∀ (s : State) (o : Nat), s.held .signalBox = false → o < 4 → s.bitOf Reg.SAF_OUT o = true → causeOn s 6 = false →
    Answers (exec (.outputTestPulse o false) s) fun t =>
      t.bitOf Reg.SAF_OUT o = false ∧ causeOn t 6 = true ∧ causeLatched t 6 = true ∧ safSt t ≠ 0 ∧
        RegsBut causeRegs s t ∧ Within [.regs, .btm, .saf, .x03, .x19] s t) ∧
  (∀ (s : State) (o : Nat), s.held .signalBox = false → Answers (exec (.outputTestPulse o true) s) fun t => t = s) ∧
  (∀ (s : State) (o : Nat), s.held .signalBox = false → o < 16 → s.bitOf Reg.SAF_OUT o = false → causeOn s 6 = false →
    Answers (exec (.outputOffCheck o true) s) fun t => causeOn t 6 = true ∧ causeLatched t 6 = true ∧ safSt t ≠ 0 ∧
        RegsBut causeRegs s t ∧ Within [.regs, .btm, .saf, .x03, .x19] s t) ∧
  (∀ (s : State), s.held .signalBox = false → s.on Fd.SAF_IN_RST = true → causeOn s 19 = false → Answers (exec .resetStuckTimeout s) fun t =>
      causeOn t 19 = true ∧ t.saf = { s.saf with stuckOut := false } ∧ safSt t = safSt s ∧ RegsBut [Reg.SAF_CAUSE] s t ∧ Within [.regs, .saf] s t) ∧
  (∀ (s : State), s.held .signalBox = false → causeOn s 13 = false → safSt s = 0 → Answers (exec .coreTimeout s) fun t =>
      causeOn t 13 = true ∧ safSt t = 2 ∧ t.get Fd.SAF_FIRST_CAUSE = 13 ∧ t.on Fd.SAF_OUT_GOFFA = true ∧ t.on Fd.SAF_OUT_GOFFB = true ∧
        t.get Fd.SAF_OUT_PILOT = s.get Fd.SAF_OUT_PILOT ∧ t.saf.coreBack = false ∧
        RegsBut causeRegs s t ∧ Within [.regs, .btm, .saf, .x03, .x19] s t) ∧
  (∀ (s : State), s.held .signalBox = false → causeOn s 14 = false → safSt s = 0 → Answers (exec .metroTimeout s) fun t =>
      causeOn t 14 = true ∧ safSt t = 2 ∧ t.get Fd.SAF_FIRST_CAUSE = 14 ∧ t.on Fd.SAF_OUT_GOFFA = true ∧ t.on Fd.SAF_OUT_GOFFB = true ∧
        t.get Fd.SAF_OUT_PILOT = s.get Fd.SAF_OUT_PILOT ∧ t.saf.metroBack = false ∧
        RegsBut causeRegs s t ∧ Within [.regs, .btm, .saf, .x03, .x19] s t) ∧
  (∀ (s : State), s.held .signalBox = false → s.saf.coreBack = true → wordsWhole s 13 = true → Answers (exec (.causeResumeHoldEnd 13) s) fun t =>
      causeOn t 13 = false ∧ t.saf.coreBack = false ∧
        RegsBut causeRegs s t ∧ Within [.regs, .saf, .x03, .x19] s t) ∧
  (∀ (s : State), s.held .signalBox = false → s.saf.stuckOut = true → Answers (exec (.causeResumeHoldEnd 19) s) fun t =>
      causeOn t 19 = false ∧ t.saf.stuckOut = false ∧
        RegsBut causeRegs s t ∧ Within [.regs, .saf, .x03, .x19] s t)

/-- R239, R243, R256, R260, R265: the outputs after CONT_DELAY, the reset, the lockstep fault, the seals and the words of the Core island. The model's
readings and choices behind it: log entries 73, 74, 252, 261. -/
def Obligations.SafetyReactions : Prop :=
  (∀ (s : State), s.held .signalBox = false → s.saf.outWait = true → s.saf.trip.wanted = false → Answers (exec .contactorDelayExpiry s) fun t =>
      contactorOn t = false ∧ t.saf.outWait = false ∧ t.saf.close = none ∧ t.x03 = s.x03 ++ [.opened] ∧ RegsBut [Reg.SAF_OUT, Reg.SWC_STAT] s t ∧
        Within [.regs, .saf, .x03, .btm] s t) ∧
  (∀ (s : State) (held since refire : Nat), causeOn s 17 = false → causeOn s 18 = false → causeOn s 19 = false → causeOn s 20 = false →
    (classC.any (causeLatched s)) = true → 100 ≤ held → held ≤ 5000 → Answers (exec (.safeResetRelease held since refire) s) fun t =>
      t.on Fd.SAF_IN_RST = false ∧ t.get Fd.SAF_CNT_RESETS = min (s.get Fd.SAF_CNT_RESETS + 1) 65535 ∧ safSt t = safSt s ∧
        t.get Fd.SAF_LATCH_LATCHED = s.get Fd.SAF_LATCH_LATCHED ∧ RegsBut [Reg.SAF_IN, Reg.SAF_CNT] s t ∧ Within [.regs] s t) ∧
  (∀ (s : State) (held since refire : Nat), held < 100 → Answers (exec (.safeResetRelease held since refire) s) fun t =>
      t.on Fd.SAF_IN_RST = false ∧ RegsBut [Reg.SAF_IN] s t ∧ Within [.regs] s t) ∧
  (∀ (s : State), safSt s = 1 → s.get Fd.SAF_LATCH_LATCHED = 1 → s.get Fd.SAF_CAUSE_ACTIVE = 0 → s.saf.hold = false → s.saf.needRst = false →
    s.saf.pairs = List.replicate 4 .zero → Answers (exec (.safeResetRelease 100 0 0) s) fun t =>
      safSt t = 0 ∧ t.get Fd.SAF_LATCH_LATCHED = 0 ∧ t.get Fd.SAF_OUT_PILOT = 0 ∧ t.x03 = s.x03 ++ [.ended] ∧
        RegsBut [Reg.SAF_IN, Reg.SAF_CNT, Reg.SAF_STAT, Reg.SAF_LATCH, Reg.SAF_OUT, Reg.HIF_ISRC] s t ∧
        Within [.regs, .btm, .saf, .x03, .x19, .lcd] s t) ∧
  (∀ (s : State), s.held .signalBox = false → Answers (exec .lockstepFault s) fun t => safSt t = 3 ∧ causeOn t 20 = true ∧ t.get Fd.SAF_OUT_SO = 0 ∧
    t.get Fd.SAF_OUT_LOWSIDE = 0 ∧
      t.on Fd.SAF_OUT_GOFFA = true ∧ t.on Fd.SAF_OUT_GOFFB = true ∧ t.get Fd.SAF_OUT_PILOT = 2 ∧ t.held .signalBox = true ∧
        RegsBut ([Reg.SYS_FLT, Reg.SYS_FLTLAST, Reg.SYS_FLTCNT 2, Reg.CLK_ISL 2] ++ (List.range 21).map (fun x => Reg.SYS_XSTAT x) ++ causeRegs) s t ∧
        Within [.regs, .xings, .logs, .saf, .x03, .x04, .x09, .x19] s t) ∧
  (∀ (s : State) (v : Nat), s.on Fd.SAF_STAT_MODE = true → s.on Fd.SAF_STAT_CONFOK = true → v < 16 → v ≠ 10 → causeOn s 18 = false →
    Answers (exec (.sealChange v) s) fun t =>
      t.get Fd.SAF_IN_SEAL = v ∧ t.get Fd.SAF_STAT_SEAL = v ∧ causeOn t 18 = true ∧ causeLatched t 18 = true ∧
        RegsBut (Reg.SAF_IN :: causeRegs) s t ∧ Within [.regs, .btm, .saf, .x03, .x19] s t) ∧
  (∀ (s : State) (v : Nat), s.on Fd.SAF_STAT_MODE = false → v < 16 → Answers (exec (.sealChange v) s) fun t =>
      t.get Fd.SAF_IN_SEAL = v ∧ t.get Fd.SAF_STAT_SEAL = v ∧ RegsBut [Reg.SAF_IN, Reg.SAF_STAT] s t ∧ Within [.regs] s t) ∧
  (∀ (s : State), s.held .signalBox = false → Answers (exec (.coreWordReceive none) s) fun t =>
      t.saf = { s.saf with coreSeen := true, coreBack := s.saf.coreBack || causeOn s 13 } ∧ RegsBut [] s t ∧ Within [.saf] s t) ∧
  (∀ (s : State) (src epoch : Nat) (w : Word), s.held .signalBox = false → Answers (exec (.coreWordReceive (some (src, epoch, w))) s) fun t =>
      seedOf t src epoch = some w ∧ t.saf.coreSeen = true ∧ RegsBut [] s t ∧ Within [.saf] s t)

/-- R292 to R296: requests to close and to open contactors, their feedback, and welding. The model's readings and choices behind it: log entries 87, 88,
261. -/
def Obligations.ContactorControl : Prop :=
  (∀ (s : State) (outs r : Nat) (rel : Bool) (ws : List CoreWord), s.x04 = .close outs rel :: ws → outs &&& contactorMask s ≠ 0 →
    closeReason s (outs &&& contactorMask s) = some r → Answers (exec .closeRequest s) fun t =>
      t.x04 = ws ∧ t.get Fd.SWC_REFUSE_REASON = r ∧ t.on Fd.SWC_EVT_REFUSED = true ∧ t.x03 = s.x03 ++ [.refused r (blockingCause s)] ∧
        RegsBut [Reg.SWC_EVT, Reg.SWC_REFUSE] s t ∧ Within [.regs, .x03, .x04] s t) ∧
  (∀ (s : State) (outs n : Nat) (rel : Bool) (ws : List CoreWord), s.x04 = .close outs rel :: ws → s.saf.close = none →
    closeReason s (outs &&& contactorMask s) = none → n < 4 → (outs &&& contactorMask s).testBit n = true → Answers (exec .closeRequest s) fun t =>
      t.x04 = ws ∧ t.saf.close = some (outs &&& contactorMask s, rel) ∧ t.bitOf Reg.SAF_OUT n = true ∧
        t.regN (Reg.SWC_CYC n) = min (s.regN (Reg.SWC_CYC n) + 1) (2 ^ 32 - 1) ∧
        RegsBut [Reg.SAF_OUT, Reg.SWC_STAT, Reg.SWC_CYC 0, Reg.SWC_CYC 1, Reg.SWC_CYC 2, Reg.SWC_CYC 3] s t ∧ Within [.regs, .x04, .saf] s t) ∧
  (∀ (s : State) (outs : Nat), s.held .signalBox = false → s.saf.close = some (outs, true) → s.saf.fbDis = 0 →
    ((List.range 4).all fun n => !outs.testBit n || fbClosed s n) = true → safSt s = 0 → s.get Fd.SAF_CAUSE_ACTIVE = 0 → s.on Fd.EFT_STAT_TRIPA = false →
    s.on Fd.EFT_STAT_TRIPB = false → Answers (exec .closeFeedbackDone s) fun t =>
      t.saf = { s.saf with close := none } ∧ t.x03 = s.x03 ++ [.closed] ∧ t.on Fd.SAF_OUT_GOFFA = false ∧ t.on Fd.SAF_OUT_GOFFB = false ∧
        t.on Fd.SWC_STAT_GATEREL = true ∧ RegsBut [Reg.SAF_OUT, Reg.SWC_STAT] s t ∧ Within [.regs, .saf, .x03] s t) ∧
  (∀ (s : State) (outs n : Nat) (rel : Bool), s.held .signalBox = false → s.saf.close = some (outs, rel) → n < 4 → outs.testBit n = true →
    fbClosed s n = false → Answers (exec .closeFeedbackDone s) fun t =>
      t.saf.close = none ∧ t.on Fd.SWC_EVT_NOCLOSE = true ∧ t.get Fd.SWC_REFUSE_REASON = 9 ∧ t.bitOf Reg.SAF_OUT n = false ∧
        t.x03 = s.x03 ++ [.refused 9 (blockingCause s)] ∧ RegsBut [Reg.SWC_EVT, Reg.SWC_REFUSE, Reg.SAF_OUT, Reg.SWC_STAT] s t ∧
        Within [.regs, .saf, .x03] s t) ∧
  (∀ (s : State) (ws : List CoreWord), s.x04 = .openAll :: ws → Answers (exec .openRequest s) fun t =>
      t.x04 = ws ∧ t.saf.close = none ∧ t.on Fd.SAF_OUT_GOFFA = true ∧ t.on Fd.SAF_OUT_GOFFB = true ∧ t.on Fd.SWC_STAT_GATEREL = false ∧
        (s.parN Par.CONT_DELAY ≠ 0 → t.saf.outWait = true) ∧ (s.parN Par.CONT_DELAY = 0 → contactorOn t = false) ∧
        RegsBut [Reg.SAF_OUT, Reg.SWC_STAT] s t ∧
        Within [.regs, .btm, .saf, .x03, .x04] s t) ∧
  (∀ (s : State) (n time : Nat) (x y : Bool), s.held .signalBox = false → sesSt s = 0 → n < 4 → (contactorMask s).testBit n = true → x ≠ y →
    causeOn s 7 = false → Answers (exec (.contactorFeedbackChange n x y time) s) fun t =>
      t.on Fd.SWC_EVT_FBDISAG = true ∧ t.saf.fbDis.testBit n = true ∧ causeOn t 7 = true ∧ causeLatched t 7 = true ∧ safSt t ≠ 0 ∧
        RegsBut (Reg.SWC_EVT :: causeRegs) s t ∧ Within [.regs, .tok, .bil, .btm, .saf, .x03, .x19, .q, .grpSeq, .ses, .amb, .eth, .x11, .out] s t) ∧
  (∀ (s : State) (n : Nat), s.held .signalBox = false → n < 4 → (contactorMask s).testBit n = true → s.saf.fbDis = 0 → s.bitOf Reg.SWC_STAT n = false →
    fbClosed s n = true → Answers (exec (.contactorFeedbackTimeout n) s) fun t =>
      t.on Fd.SWC_EVT_OPENFAIL = true ∧ t.saf.fbBad.testBit n = true ∧ causeOn t 7 = true ∧
        RegsBut (Reg.SWC_EVT :: causeRegs) s t ∧ Within [.regs, .btm, .saf, .x03, .x19] s t) ∧
  (∀ (s : State) (n : Nat), s.held .signalBox = false → n < 4 → (contactorMask s).testBit n = true → s.saf.fbDis = 0 → s.bitOf Reg.SWC_STAT n = true →
    fbClosed s n = false → Answers (exec (.contactorFeedbackTimeout n) s) fun t =>
      t.on Fd.SWC_EVT_UNCMD = true ∧ t.saf.close = none ∧ t.on Fd.SAF_OUT_GOFFA = true ∧ t.on Fd.SAF_OUT_GOFFB = true ∧
        RegsBut [Reg.SWC_EVT, Reg.SAF_OUT, Reg.SWC_STAT] s t ∧ Within [.regs, .btm, .saf, .x03, .x19] s t) ∧
  (∀ (s : State), s.held .signalBox = false → weldOff s = true → weldShown s = true → weldLow s = false → Answers (exec .weldCheckTimeout s) fun t =>
      t.on Fd.SWC_EVT_WELD = true ∧ t.get Fd.SWC_STAT_WELD = (s.get Fd.SWC_STAT_WELD ||| s.parN Par.WELD_OUT) % 16 ∧ t.saf.weldCond = true ∧
        causeOn t 7 = true ∧
        RegsBut (Reg.SWC_EVT :: causeRegs) s t ∧ Within [.regs, .btm, .saf, .x03, .x19] s t) ∧
  (∀ (s : State), weldOff s = true → weldLow s = true → fbAllRight s = true → Answers (exec .weldClear s) fun t =>
      t.get Fd.SWC_STAT_WELD = 0 ∧ t.saf = { s.saf with weldCond := false, fbBad := 0 } ∧ causeOn t 7 = false ∧
        RegsBut [Reg.SWC_STAT, Reg.SAF_CAUSE] s t ∧ Within [.regs, .saf] s t) ∧
  (∀ (s : State) (n : Nat), s.held .signalBox = false → n < 4 → s.bitOf Reg.SAF_OUT n = true → Answers (exec (.soOutputOvercurrent n) s) fun t =>
      t.bitOf Reg.SAF_OUT n = false ∧ t.reg Reg.SWC_STAT = s.reg Reg.SWC_STAT ∧ RegsBut [Reg.SAF_OUT] s t ∧ Within [.regs] s t)

/-- R258 to R262: safe telegrams sent, received and missed. The model's readings and choices behind it: log entries 75 to 77, 261. -/
def Obligations.SafeTelegrams : Prop :=
  (∀ (s : State) (time : Nat), s.running = true → s.held .signalBox = false → s.saf.seq < 65535 → portUp s 0 = false → portUp s 1 = false →
    Answers (exec (.safeTelegramSend time) s) fun t =>
      t.regN Reg.STG_TXSEQ = s.saf.seq ∧ t.regN Reg.STG_TXEPOCH = s.saf.epoch % 2 ^ 32 ∧ t.saf = { s.saf with seq := s.saf.seq + 1 } ∧
        RegsBut [Reg.STG_TXSEQ, Reg.STG_TXEPOCH] s t ∧
        Within [.regs, .saf, .out, .free] s t) ∧
  (∀ (s : State) (arrival net : Nat) (bytes : List Byte) (l : List (Nat × List Byte)), s.held .signalBox = false → s.x09 = (net, bytes) :: l → net < 2 →
    ((List.range 8).filter fun c => s.parN (Par.TG_SRC c) != 0xFFFF) = [] → Answers (exec (.safeTelegramReceive arrival) s) fun t =>
      t.x09 = l ∧ t.regN (Reg.STG_NETRX net) = min (s.regN (Reg.STG_NETRX net) + 1) (2 ^ 32 - 1) ∧ RegsBut [Reg.STG_NETRX net] s t ∧
        Within [.regs, .x09] s t) ∧
  (∀ (s : State) (arrival net c : Nat) (bytes : List Byte) (l : List (Nat × List Byte)), s.held .signalBox = false → s.x09 = (net, bytes) :: l → net < 2 →
    (((List.range 8).filter fun c => s.parN (Par.TG_SRC c) != 0xFFFF).find? fun c => s.parN (Par.TG_SRC c) == tgSource (bytes.take 32)) = some c →
    tgAddressed s (bytes.take 32) = false → Answers (exec (.safeTelegramReceive arrival) s) fun t =>
      t.x09 = l ∧ t.regN (Reg.STG_CNT (8 * c)) = min (s.regN (Reg.STG_CNT (8 * c)) + 1) (2 ^ 32 - 1) ∧
        RegsBut [Reg.STG_NETRX net, Reg.STG_CNT (8 * c)] s t ∧ Within [.regs, .x09] s t) ∧
  (∀ (s : State) (c : Nat), s.held .signalBox = false → c < 8 → s.parN (Par.TG_SRC c) ≠ 0xFFFF → s.saf.conns.length = 8 → (tgConn s c).lost = false →
    Answers (exec (.telegramTimeout c) s) fun t =>
      (tgConn t c).lost = true ∧ (tgConn t c).run = 0 ∧ t.on Fd.STG_EVT_LOST = true ∧ t.bitOf Reg.STG_STAT c = false ∧ t.bitOf Reg.STG_STAT (8 + c) = true ∧
        RegsBut ([Reg.STG_STAT, Reg.STG_EVT, Reg.STG_CNT (8 * c + 7)] ++ causeRegs) s t ∧ Within [.regs, .btm, .saf, .x03, .x19] s t)

/-- R276 to R278: fluxgate self-tests asked for, granted, ended and tried again. The model's readings and choices behind it: log entries 14, 82, 261. -/
def Obligations.ResidualCurrentTests : Prop :=
  (∀ (s : State), s.held .signalBox = false → s.isF = true → s.parB Par.RCM_EN = true → s.on Fd.EFT_STAT_RCMTEST = false → tokHolds s 3 0 = true →
    Answers (exec .rcmSelfTestStart s) fun t =>
      t.on Fd.EFT_STAT_RCMTEST = true ∧ t.saf = { s.saf with rcm := { s.saf.rcm with testRun := 0, again := false } } ∧
        RegsBut [Reg.EFT_STAT] s t ∧ Within [.regs, .saf] s t) ∧
  (∀ (s : State), s.held .signalBox = false → s.isF = false → Answers (exec .rcmSelfTestStart s) fun t => t = s) ∧
  (∀ (s : State) (p : Path), HostMay p 1 s → s.held .signalBox = false → s.isF = true → s.parB Par.RCM_EN = true → s.on Fd.EFT_STAT_RCMTEST = false →
    tokHolds s 3 0 = false → tokWaits s 3 0 = true → Answers (exec (.rcmSelfTestRequest p) s) fun t =>
      t.saf = s.saf ∧ t.out = .hostStatus p 0 :: s.out ∧ RegsBut (hostRegs p) s t ∧ Within [.regs, .out] s t) ∧
  (∀ (s : State) (p : Path), HostMay p 1 s → s.held .signalBox = false → s.isF = true → s.parB Par.RCM_EN = true → s.on Fd.EFT_STAT_RCMTEST = false →
    tokHolds s 3 0 = true → Answers (exec (.rcmSelfTestRequest p) s) fun t =>
      t.on Fd.EFT_STAT_RCMTEST = true ∧ t.saf = { s.saf with rcm := { s.saf.rcm with testRun := 0, again := false } } ∧
        t.out = .hostStatus p 0 :: s.out ∧ RegsBut (Reg.EFT_STAT :: hostRegs p) s t ∧ Within [.regs, .saf, .out] s t) ∧
  (∀ (s : State) (plus minus : Int), s.held .signalBox = false → s.on Fd.EFT_STAT_RCMTEST = true → 8000 ≤ plus → plus ≤ 12000 → -12000 ≤ minus →
    minus ≤ -8000 → Answers (exec (.rcmSelfTestDone plus minus) s) fun t =>
      t.on Fd.EFT_STAT_RCMTEST = false ∧ t.get Fd.EFT_TESTAGE_RCM = 0 ∧ t.saf.rcm.testFail = false ∧ t.saf.rcm.passUp = some (s.regN Reg.SYS_UPTIME) ∧
        (s.tok.deferred = [] → RegsBut ([Reg.EFT_STAT, Reg.EFT_TESTAGE, Reg.EFT_EVT, Reg.TOK_STAT, Reg.TOK_POWER] ++ causeRegs) s t) ∧
        Within [.regs, .tok, .btm, .saf, .x03, .x19] s t) ∧
  (∀ (s : State) (plus minus : Int), s.held .signalBox = false → s.on Fd.EFT_STAT_RCMTEST = true → 12000 < plus →
    Answers (exec (.rcmSelfTestDone plus minus) s) fun t =>
      t.on Fd.EFT_STAT_RCMTEST = false ∧ t.on Fd.EFT_EVT_RCMFAIL = true ∧ t.on Fd.EFT_STAT_RCMDIAG = true ∧ t.saf.rcm.testFail = true ∧ causeOn t 8 = true ∧
        (s.tok.deferred = [] → RegsBut ([Reg.EFT_STAT, Reg.EFT_EVT, Reg.TOK_STAT, Reg.TOK_POWER] ++ causeRegs) s t) ∧
        Within [.regs, .tok, .btm, .saf, .x03, .x19] s t) ∧
  (∀ (s : State), s.held .signalBox = false → s.saf.rcm.again = true → s.isF = true → s.parB Par.RCM_EN = true → s.on Fd.EFT_STAT_RCMTEST = false →
    tokHolds s 3 0 = true → Answers (exec .rcmSelfTestRetry s) fun t =>
      t.on Fd.EFT_STAT_RCMTEST = true ∧ t.saf = { s.saf with rcm := { s.saf.rcm with testRun := 0, again := false } } ∧
        RegsBut [Reg.EFT_STAT] s t ∧ Within [.regs, .saf] s t) ∧
  (∀ (s : State), s.held .signalBox = false → s.saf.rcm.again = false → Answers (exec .rcmSelfTestRetry s) fun t => t = s)

/-- R279, R286 to R291: half-cycles of the insulation monitor, a trip of the comparators, the trip path test. The model's readings and choices behind it:
log entries 84 to 86, 89, 105, 261. -/
def Obligations.InsulationAndTrips : Prop :=
  (∀ (s : State) (sns vdc : Int) (rise : Nat), s.held .metrology = false → s.isF = true → s.parB Par.IMD_EN = true → s.saf.imd.positive = true → sesSt s = 0 →
    Answers (exec (.imdHalfCycleEnd sns vdc rise) s) fun t =>
      t.on Fd.EFT_STAT_IMDRUN = true ∧ t.saf.imd.positive = false ∧ t.saf.imd.vPlus = (sns : Rat) * (s.parN Par.IMD_DIV : Rat) / 1000000 ∧
        t.saf.imd.vdcPlus = (vdc : Rat) / 1000 ∧ t.saf.imd.since = s.saf.imd.since + 1 ∧ RegsBut [Reg.EFT_STAT] s t ∧ Within [.regs, .saf] s t) ∧
  (∀ (s : State) (sns vdc : Int) (rise : Nat), s.held .metrology = false → s.isF = true → s.parB Par.IMD_EN = true → s.saf.imd.positive = false →
    s.saf.imd.dirty = true → sesSt s = 0 → Answers (exec (.imdHalfCycleEnd sns vdc rise) s) fun t =>
      t.saf.imd = { s.saf.imd with positive := true, dirty := false, since := s.saf.imd.since + 1 } ∧
        t.get ⟨Reg.EFT_IMDCNT, 16, 16⟩ = min (s.get ⟨Reg.EFT_IMDCNT, 16, 16⟩ + 1) 65535 ∧ t.reg Reg.EFT_IMD = s.reg Reg.EFT_IMD ∧
        RegsBut [Reg.EFT_STAT, Reg.EFT_IMDCNT] s t ∧ Within [.regs, .saf] s t) ∧
  (∀ (s : State) (m : Nat), s.isF = true → m &&& tripEnabled s ≠ 0 → laneOk s (s.get Fd.EFT_TRIPMAP_LANEA) = true →
    laneOk s (s.get Fd.EFT_TRIPMAP_LANEB) = true → s.on Fd.EFT_STAT_TRIPTEST = true → Answers (exec (.dcTripFire m) s) fun t =>
      t.on Fd.EFT_STAT_TRIPA = true ∧ t.on Fd.EFT_STAT_TRIPB = true ∧ t.on Fd.SAF_OUT_GOFFA = true ∧ t.on Fd.SAF_OUT_GOFFB = true ∧
        t.get Fd.EFT_STAT_TRIPSRC = (m &&& tripEnabled s) % 16 ∧ t.on Fd.EFT_EVT_DCTRIP = true ∧ t.on Fd.SWC_STAT_GATEREL = false ∧
        RegsBut [Reg.EFT_STAT, Reg.EFT_EVT, Reg.SAF_OUT, Reg.SWC_STAT] s t ∧ Within [.regs, .saf] s t) ∧
  (∀ (s : State) (m : Nat), s.isF = true → m &&& tripEnabled s ≠ 0 → laneOk s (s.get Fd.EFT_TRIPMAP_LANEA) = true →
    s.on Fd.EFT_STAT_TRIPTEST = false → causeLatched s 10 = false → causeOn s 10 = false → safSt s = 0 → Answers (exec (.dcTripFire m) s) fun t =>
      causeOn t 10 = true ∧ causeLatched t 10 = true ∧ safSt t = 2 ∧ t.on Fd.SAF_OUT_GOFFA = true ∧ t.on Fd.EFT_EVT_DCTRIP = true ∧
        RegsBut ([Reg.EFT_STAT, Reg.EFT_EVT] ++ causeRegs) s t ∧ Within [.regs, .btm, .saf, .x03, .x19] s t) ∧
  (∀ (s : State), s.held .signalBox = false → s.isF = true → contactorOn s = false → Answers (exec .tripPathTestDue s) fun t =>
      t.saf = { s.saf with trip := { s.saf.trip with wanted := true } } ∧ t.x03 = s.x03 ++ [.idle] ∧ RegsBut [] s t ∧ Within [.saf, .x03] s t) ∧
  (∀ (s : State), s.held .signalBox = false → s.isF = false → Answers (exec .tripPathTestDue s) fun t => t = s) ∧
  (∀ (s : State) (p : Path), HostMay p 1 s → s.held .signalBox = false → s.isF = true → contactorOn s = true → Answers (exec (.tripPathTestRequest p) s) fun t =>
      t.saf = { s.saf with trip := { s.saf.trip with wanted := true } } ∧ t.out = .hostStatus p 0 :: s.out ∧ RegsBut (hostRegs p) s t ∧
        Within [.regs, .saf, .out] s t) ∧
  (∀ (s : State), s.held .signalBox = false → s.saf.trip.wanted = true → s.saf.trip.asked = true → contactorOn s = false →
    s.on Fd.EFT_STAT_TRIPTEST = false → Answers (exec .tripPathTestStart s) fun t =>
      t.on Fd.EFT_STAT_TRIPTEST = true ∧ t.on Fd.SAF_OUT_GOFFA = true ∧ t.on Fd.SAF_OUT_GOFFB = true ∧
        t.saf = { s.saf with trip := { s.saf.trip with wanted := false, asked := false } } ∧
        RegsBut [Reg.EFT_STAT, Reg.SAF_OUT, Reg.SWC_STAT] s t ∧ Within [.regs, .saf] s t) ∧
  (∀ (s : State), s.held .signalBox = false → s.on Fd.EFT_STAT_TRIPTEST = true → Answers (exec (.tripPathTestDone 0 true true true) s) fun t =>
      t.on Fd.EFT_STAT_TRIPTEST = false ∧ t.get Fd.EFT_TESTAGE_TRIP = 0 ∧ t.saf.trip.passed = true ∧ t.saf.trip.wanted = false ∧
        t.on Fd.EFT_STAT_TRIPA = false ∧ t.on Fd.EFT_STAT_TRIPB = false ∧
        RegsBut [Reg.EFT_STAT, Reg.EFT_EVT, Reg.EFT_TESTAGE, Reg.EFT_TRIPMAP, Reg.SYS_FLT, Reg.SYS_FLTLAST] s t ∧ Within [.regs, .afe, .logs, .saf, .free] s t) ∧
  (∀ (s : State) (pairs : Nat), s.held .signalBox = false → s.isF = true → s.on Fd.EFT_STAT_TRIPTEST = true →
    Answers (exec (.tripPathTestDone pairs true true false) s) fun t =>
      t.on Fd.EFT_STAT_TRIPTEST = false ∧ t.on Fd.EFT_EVT_TESTFAIL = true ∧ t.saf.trip.passed = false ∧ t.saf.trip.badPairs = pairs % 8 ∧
        t.on Fd.EFT_STAT_TRIPOK = false ∧ t.on Fd.EFT_STAT_TRIPA = true ∧ t.on Fd.EFT_STAT_TRIPB = true ∧
        RegsBut [Reg.EFT_STAT, Reg.EFT_EVT, Reg.EFT_TRIPMAP, Reg.SYS_FLT, Reg.SYS_FLTLAST] s t ∧ Within [.regs, .afe, .logs, .saf, .free] s t)

/-- R303 to R314: pilot demands and requests, states and proximity codes, bursts and frames of the power-line modem. The model's readings and choices
behind it: log entries 14, 90 to 92, 96, 261. -/
def Obligations.PilotAndProximity : Prop :=
  (∀ (s : State) (v : Nat) (vs : List Nat), s.held .vehicleLink = false → s.x19 = v :: vs → v < 4 → Answers (exec .pilotDemandReceive s) fun t =>
      t.x19 = vs ∧ t.get Fd.CPL_STAT_SBDEM = v ∧ (v = 2 → t.get Fd.CPL_STAT_DRIVE = 5 ∧ t.get Fd.CPL_DUTY_DUTY = 0) ∧
        (v = 1 → t.get Fd.CPL_STAT_DRIVE = 4 ∧ t.get Fd.CPL_DUTY_DUTY = 0) ∧ (v ≠ 0 → t.vl = { s.vl with await := true }) ∧
        RegsBut [Reg.CPL_STAT, Reg.CPL_DUTY] s t ∧ Within [.regs, .x19, .vl] s t) ∧
  (∀ (s : State) (duty : Nat), s.get Fd.CPL_STAT_SBDEM = 0 → 300 ≤ duty → duty ≤ 9700 → Answers (exec (.pilotSessionRequest (some (0, duty))) s) fun t =>
      t.get Fd.CPL_DUTY_REQ = duty ∧ t.get Fd.CPL_STAT_DRIVE = 1 ∧ t.get Fd.CPL_DUTY_DUTY = duty ∧ t.on Fd.CPL_STAT_COREFB = false ∧
        t.vl = { s.vl with mode := 0, await := false } ∧ RegsBut [Reg.CPL_STAT, Reg.CPL_DUTY] s t ∧ Within [.regs, .vl] s t) ∧
  (∀ (s : State) (mode duty : Nat), s.get Fd.CPL_STAT_SBDEM ≠ 0 → Answers (exec (.pilotSessionRequest (some (mode, duty))) s) fun t =>
      t.get Fd.CPL_STAT_DRIVE = s.get Fd.CPL_STAT_DRIVE ∧ t.reg Reg.CPL_DUTY = s.reg Reg.CPL_DUTY ∧ t.on Fd.CPL_STAT_COREFB = false ∧
        RegsBut [Reg.CPL_STAT] s t ∧ Within [.regs] s t) ∧
  (∀ (s : State), s.held .vehicleLink = false → s.get Fd.CPL_STAT_SBDEM = 0 → s.vl.mode = 0 → Answers (exec .pilotX06Silence s) fun t =>
      t.on Fd.CPL_STAT_COREFB = true ∧ t.on Fd.CPL_EVT_COREFB = true ∧ t.get Fd.CPL_STAT_DRIVE = 0 ∧ t.get Fd.CPL_DUTY_DUTY = 0 ∧
        t.get Fd.CPL_DUTY_REQ = s.get Fd.CPL_DUTY_REQ ∧ RegsBut [Reg.CPL_STAT, Reg.CPL_EVT, Reg.CPL_DUTY] s t ∧ Within [.regs] s t) ∧
  (∀ (s : State) (low : Int) (age : Nat), s.held .vehicleLink = false → s.get Fd.CPL_STAT_STATE = 1 → s.vl.level = 1 → s.get Fd.CPL_STAT_DRIVE = 1 →
    low < -10500 → -32768 ≤ low → s.vl.toggleOpen = false → Answers (exec (.pilotStateChange 6000 low age) s) fun t =>
      t.get Fd.CPL_STAT_STATE = 2 ∧ t.saf.pilot = 2 ∧ t.on Fd.CPL_EVT_STATECHG = true ∧ t.get Fd.CPL_LEVEL_HIGH = 6000 ∧
        t.get Fd.CPL_LEVEL_LOW = Bits.ofInt 16 low ∧ t.regN Reg.CPL_BAGE = min age 0xFFFFFFFF ∧ t.x05 = s.x05 ++ [.pilot 2] ∧ t.vl = { s.vl with level := 2 } ∧
        RegsBut [Reg.CPL_LEVEL, Reg.CPL_BAGE, Reg.CPL_STAT, Reg.CPL_EVT] s t ∧
        Within [.regs, .tok, .saf, .x05, .q, .grpSeq, .vl, .eth] s t) ∧
  (∀ (s : State) (low : Int), s.held .vehicleLink = false → s.get Fd.CPL_STAT_STATE = 1 → s.vl.level = 1 → s.get Fd.CPL_STAT_DRIVE = 1 →
    -10500 < low → low ≤ 32767 → slacSt s = 7 → Answers (exec (.pilotStateChange 9000 low 5) s) fun t =>
      t.get Fd.CPL_STAT_STATE = 7 ∧ t.saf.pilot = 7 ∧ t.on Fd.CPL_EVT_DIODE = true ∧ t.regN Reg.CPL_BAGE = 0 ∧ t.x05 = s.x05 ++ [.pilot 7] ∧ slacSt t = 7 ∧
        RegsBut [Reg.CPL_LEVEL, Reg.CPL_BAGE, Reg.CPL_STAT, Reg.CPL_EVT, Reg.CPL_CNT] s t ∧ Within [.regs, .tok, .saf, .x05, .q, .grpSeq, .vl, .eth] s t) ∧
  (∀ (s : State), s.held .vehicleLink = false → s.parN Par.PP_MODE = 1 → s.vl.ppBand = 2 → s.vl.ppRun = 2 → s.get Fd.CPL_STAT_PPCODE ≠ 2 →
    Answers (exec (.proximityMeasure (some 680000)) s) fun t =>
      t.regN Reg.CPL_PPRES = 680 ∧ t.get Fd.CPL_STAT_PPCODE = 2 ∧ t.on Fd.CPL_EVT_PPCHG = true ∧ t.vl = { s.vl with ppRun := 3 } ∧ t.x05 = s.x05 ++ [.prox 2] ∧
        RegsBut [Reg.CPL_PPRES, Reg.CPL_STAT, Reg.CPL_EVT] s t ∧ Within [.regs, .vl, .x05] s t) ∧
  (∀ (s : State) (r : Option Nat), s.held .vehicleLink = false → s.parN Par.PP_MODE = 0 → Answers (exec (.proximityMeasure r) s) fun t =>
      t.get Fd.CPL_STAT_PPCODE = 15 ∧ t.regN Reg.CPL_PPRES = 0xFFFFFFFF ∧ RegsBut [Reg.CPL_PPRES, Reg.CPL_STAT] s t ∧ Within [.regs] s t) ∧
  (∀ (s : State) (n : Nat), s.held .vehicleLink = false → s.pfw = true → Answers (exec (.gpBurstTransmit n) s) fun t => t = s) ∧
  (∀ (s : State), s.held .vehicleLink = false → s.pfw = false → tokHolds s 4 0 = false → tokWaits s 4 0 = false → s.vl.burstWait = true →
    Answers (exec (.gpBurstTransmit 0) s) fun t =>
      t.out = .burst false [] :: s.out ∧ t.on Fd.VPL_EVT_GPREDUCED = true ∧ t.get ⟨Reg.VPL_GPCNT, 16, 16⟩ = min (s.get ⟨Reg.VPL_GPCNT, 16, 16⟩ + 1) 65535 ∧
        t.vl = { s.vl with burstWait := false } ∧ t.tok = s.tok ∧
        RegsBut [Reg.VPL_EVT, Reg.VPL_GPCNT] s t ∧ Within [.regs, .tok, .q, .vl, .out] s t) ∧
  (∀ (s : State) (prio : Nat) (bytes : List Byte), s.held .vehicleLink = false → s.vl.key = none → Answers (exec (.gpFrameReceive prio bytes) s) fun t => t = s) ∧
  (∀ (s : State) (prio : Nat) (bytes : List Byte), s.held .vehicleLink = false → s.vl.key.isSome = true → 4 ≤ prio → (queue s 22).length = 8 →
    Answers (exec (.gpFrameReceive prio bytes) s) fun t =>
      t.get ⟨Reg.VPL_RXDROP, 0, 16⟩ = min (s.get ⟨Reg.VPL_RXDROP, 0, 16⟩ + 1) 65535 ∧ t.on Fd.VPL_EVT_RXDROP = true ∧ t.q = s.q ∧
        RegsBut [Reg.VPL_RXDROP, Reg.VPL_EVT] s t ∧ Within [.regs] s t)

/-- R315 to R318: the states of the SLAC engine, from the first request to the match. The model's readings and choices behind it: log entries 92, 93, 95,
261. -/
def Obligations.SlacEngine : Prop :=
  (∀ (s : State) (runId mac age : Nat), s.held .vehicleLink = false → s.get Fd.CPL_STAT_STATE = 1 → slacSt s = 1 →
    Answers (exec (.cmSlacParmReq runId mac 0 age) s) fun t =>
      slacSt t = 2 ∧ t.vl.runId = runId ∧ t.vl.evMac = mac ∧ t.vl.sounds = 0 ∧ t.regN (Reg.VPL_RUNID 0) = runId % 2 ^ 32 ∧
        t.regN Reg.CPL_BAGE = min age 0xFFFFFFFF ∧ t.out = .slac (.parmCnf runId mac 10 6 1) :: s.out ∧
        RegsBut [Reg.CPL_BAGE, Reg.VPL_STAT, Reg.VPL_RUNID 0, Reg.VPL_RUNID 1] s t ∧ Within [.regs, .vl, .out] s t) ∧
  (∀ (s : State) (runId mac sec age : Nat), s.held .vehicleLink = false → sec ≠ 0 → Answers (exec (.cmSlacParmReq runId mac sec age) s) fun t => t = s) ∧
  (∀ (s : State) (groups : List Nat), s.held .vehicleLink = false → slacSt s = 2 → groups.length = 58 → s.vl.sounds < 9 →
    Answers (exec (.cmMnbcSoundInd s.vl.runId groups) s) fun t =>
      t.vl = { s.vl with groups := List.zipWith (· + ·) s.vl.groups groups, sounds := s.vl.sounds + 1 } ∧ RegsBut [] s t ∧ Within [.vl] s t) ∧
  (∀ (s : State), s.held .vehicleLink = false → slacSt s = 2 → s.vl.sounds < s.parN Par.SLAC_MIN_SOUNDS → Answers (exec .soundingEnd s) fun t =>
      slacSt t = 8 ∧ t.get Fd.VPL_SLACFAIL_REASON = 2 ∧ t.on Fd.VPL_EVT_SLACFAIL = true ∧ t.x05 = s.x05 ++ [.linkFail] ∧
        RegsBut [Reg.VPL_STAT, Reg.VPL_EVT, Reg.VPL_SLACFAIL, Reg.VPL_ATTEN] s t ∧ Within [.regs, .x05, .q, .grpSeq, .vl, .eth, .out] s t) ∧
  (∀ (s : State), s.held .vehicleLink = false → slacSt s = 1 → Answers (exec .slacInitTimeout s) fun t =>
      slacSt t = 8 ∧ t.get Fd.VPL_SLACFAIL_REASON = 1 ∧ t.on Fd.VPL_EVT_SLACFAIL = true ∧ t.x05 = s.x05 ++ [.linkFail] ∧
        RegsBut [Reg.VPL_STAT, Reg.VPL_SLACFAIL, Reg.VPL_EVT] s t ∧ Within [.regs, .vl, .x05] s t) ∧
  (∀ (s : State), s.held .vehicleLink = false → slacSt s = 4 → Answers (exec (.cmAttenCharRsp s.vl.runId) s) fun t =>
      slacSt t = (if s.vl.validate then 5 else 6) ∧ RegsBut [Reg.VPL_STAT] s t ∧ Within [.regs] s t) ∧
  (∀ (s : State), s.held .vehicleLink = false → slacSt s = 4 → s.vl.repeats < 3 → Answers (exec .attenCharRepeatTimeout s) fun t =>
      t.vl = { s.vl with repeats := s.vl.repeats + 1 } ∧ t.out = .slac (.attenChar s.vl.runId (s.get Fd.VPL_ATTEN_ATTEN)) :: s.out ∧ RegsBut [] s t ∧
        Within [.vl, .out] s t) ∧
  (∀ (s : State), s.held .vehicleLink = false → slacSt s = 4 → 3 ≤ s.vl.repeats → Answers (exec .attenCharRepeatTimeout s) fun t =>
      slacSt t = 8 ∧ t.get Fd.VPL_SLACFAIL_REASON = 5 ∧ t.x05 = s.x05 ++ [.linkFail] ∧
        RegsBut [Reg.VPL_STAT, Reg.VPL_EVT, Reg.VPL_SLACFAIL] s t ∧ Within [.regs, .x05, .vl, .out] s t) ∧
  (∀ (s : State), s.held .vehicleLink = false → slacSt s = 5 → Answers (exec .cmValidateReq s) fun t =>
      t.vl = { s.vl with toggleOpen := true, toggles := 0 } ∧ t.out = .slac (.validateCnf 600) :: s.out ∧ RegsBut [] s t ∧ Within [.vl, .out] s t) ∧
  (∀ (s : State), s.held .vehicleLink = false → slacSt s = 5 → s.vl.toggleOpen = true → Answers (exec (.toggleWindowEnd s.vl.toggles) s) fun t =>
      slacSt t = 6 ∧ t.vl = { s.vl with toggleOpen := false } ∧ RegsBut [Reg.VPL_STAT] s t ∧ Within [.regs, .vl] s t) ∧
  (∀ (s : State) (count : Nat), s.held .vehicleLink = false → slacSt s = 5 → s.vl.toggleOpen = true → count ≠ s.vl.toggles → s.vl.reports = [] →
    Answers (exec (.toggleWindowEnd count) s) fun t =>
      slacSt t = 8 ∧ t.get Fd.VPL_SLACFAIL_REASON = 7 ∧ t.vl = { s.vl with toggleOpen := false } ∧
        RegsBut [Reg.VPL_STAT, Reg.VPL_SLACFAIL, Reg.VPL_EVT] s t ∧ Within [.regs, .vl, .x05] s t) ∧
  (∀ (s : State) (mac : Nat), s.held .vehicleLink = false → slacSt s = 6 → s.get Fd.VPL_STAT_LINK = 0 → Answers (exec (.cmSlacMatchReq s.vl.runId mac) s) fun t =>
      slacSt t = 7 ∧ t.get Fd.VPL_STAT_LINK = 1 ∧ t.on Fd.VPL_EVT_MATCH = true ∧ t.vl.key.isSome = true ∧ t.x05 = s.x05 ++ [.link 1] ∧
        t.regN (Reg.VPL_RUNID 0) = s.vl.runId % 2 ^ 32 ∧ t.regN (Reg.VPL_EVMAC 0) = mac % 2 ^ 32 ∧ t.free = s.free + 6 ∧
        RegsBut [Reg.VPL_STAT, Reg.VPL_EVT, Reg.VPL_RUNID 0, Reg.VPL_RUNID 1, Reg.VPL_EVMAC 0, Reg.VPL_EVMAC 1, Reg.VPL_MATCHCNT] s t ∧
        Within [.regs, .vl, .x05, .out, .free] s t) ∧
  (∀ (s : State), s.held .vehicleLink = false → slacSt s = 6 → Answers (exec .matchWaitTimeout s) fun t =>
      slacSt t = 8 ∧ t.get Fd.VPL_SLACFAIL_REASON = 6 ∧ t.x05 = s.x05 ++ [.linkFail] ∧
        RegsBut [Reg.VPL_STAT, Reg.VPL_SLACFAIL, Reg.VPL_EVT] s t ∧ Within [.regs, .vl, .x05] s t)

/-- R319 to R325 and R644: coordination with neighbours, the T1S link, and a pilot that is no longer known. The model's readings and choices behind it:
log entries 261. -/
def Obligations.SlacCoordination : Prop :=
  (∀ (s : State), s.held .vehicleLink = false → slacSt s ≠ 3 → Answers (exec .coordReportReceive s) fun t => t.vl = s.vl ∧ RegsBut [] s t ∧ Within [.q] s t) ∧
  (∀ (s : State), s.held .vehicleLink = false → slacSt s = 3 → s.vl.heard = false → Answers (exec .coordWindowEnd s) fun t =>
      slacSt t = 4 ∧ t.on Fd.VPL_EVT_COORDLOST = true ∧ t.vl.validate = s.parB Par.SLAC_VALIDATE ∧ t.vl.repeats = 0 ∧ t.on Fd.VPL_STAT_COORD = false ∧
        t.out = .slac (.attenChar s.vl.runId (s.get Fd.VPL_ATTEN_ATTEN)) :: s.out ∧ RegsBut [Reg.VPL_STAT, Reg.VPL_EVT, Reg.VPL_ATTEN] s t ∧
        Within [.regs, .vl, .out] s t) ∧
  (∀ (s : State), s.held .vehicleLink = false → slacSt s ≠ 3 → Answers (exec .coordWindowEnd s) fun t => t = s) ∧
  (∀ (s : State) (since : Nat), s.held .vehicleLink = false → slacSt s ≠ 3 → slacSt s ≠ 8 → Answers (exec (.coordWithdrawReceive since) s) fun t =>
      t.vl = s.vl ∧ RegsBut [] s t ∧ Within [.q] s t) ∧
  (∀ (s : State) (prio : Nat) (bytes : List Byte), s.held .vehicleLink = false → s.parN Par.VL_MODE = 0 →
    Answers (exec (.t1sFrameReceive prio bytes) s) fun t => t = s) ∧
  (∀ (s : State) (prio : Nat) (bytes : List Byte), s.held .vehicleLink = false → s.parN Par.VL_MODE = 1 → s.get Fd.CPL_STAT_STATE = 2 →
    s.get Fd.VPL_STAT_LINK = 0 → (queue s 19).length < 8 → prio < 4 → Answers (exec (.t1sFrameReceive prio bytes) s) fun t =>
      t.on Fd.VPL_STAT_T1SUP = true ∧ t.get Fd.VPL_STAT_LINK = 2 ∧ t.x05 = s.x05 ++ [.link 2] ∧
        RegsBut [Reg.VPL_STAT, Reg.VPL_EVT, Reg.HIF_ISRC] s t ∧
        Within [.regs, .x05, .q, .grpSeq, .vl, .eth] s t) ∧
  (∀ (s : State), s.held .vehicleLink = false → s.on Fd.VPL_STAT_T1SUP = true → s.get Fd.VPL_STAT_LINK = 2 → Answers (exec .t1sLinkTimeout s) fun t =>
      t.on Fd.VPL_STAT_T1SUP = false ∧ t.on Fd.VPL_EVT_T1SDOWN = true ∧ t.x05 = s.x05 ++ [.linkFail] ∧ RegsBut [Reg.VPL_STAT, Reg.VPL_EVT] s t ∧
        Within [.regs, .x05] s t) ∧
  (∀ (s : State), s.held .signalBox = false → Answers (exec .pilotWordTimeout s) fun t => t.saf = { s.saf with pilot := 6 } ∧ RegsBut [] s t ∧ Within [.saf] s t)

/-- R330 to R337, R340, R361, R363: what the reports of the vehicle link, the messages of the vehicle and the time limits do to the session. The model's
readings and choices behind it: log entries 97, 98, 104, 105, 109, 113, 261. -/
def Obligations.SessionEvents : Prop :=
  (∀ (s : State) (k : Nat) (rs : List VlReport), s.x05 = .link k :: rs → sesSt s = 1 → Answers (exec .sessionPilotEvent s) fun t =>
      sesSt t = 2 ∧ t.x05 = rs ∧ RegsBut [Reg.SES_STAT] s t ∧ Within [.regs, .x05] s t) ∧
  (∀ (s : State) (rs : List VlReport), s.x05 = .pilot 0 :: rs → sesSt s = 10 → Answers (exec .sessionPilotEvent s) fun t =>
      sesSt t = 0 ∧ t.x05 = rs ∧ t.ses = { s.ses with lastPilot := 0 } ∧ RegsBut [Reg.SES_STAT] s t ∧ Within [.regs, .x05, .ses] s t) ∧
  (∀ (s : State) (rs : List VlReport), s.x05 = .pilot 0 :: rs → 1 ≤ sesSt s → sesSt s ≤ 8 → contactorOn s = true → s.ses.dc = false →
    Answers (exec .sessionPilotEvent s) fun t => StopBegun 1 t ∧ t.ses.lastPilot = 0 ∧ t.x05 = rs ∧
        (s.tok.deferred = [] → RegsBut stopRegs s t) ∧ Within [.regs, .tok, .bil, .btm, .logs, .saf, .x04, .x05, .x06, .q, .grpSeq, .ses, .amb, .eth, .x11, .out] s t) ∧
  (∀ (s : State) (rs : List VlReport), s.x05 = .prox 6 :: rs → 1 ≤ sesSt s → sesSt s ≤ 8 → contactorOn s = true → s.ses.dc = false →
    Answers (exec .sessionPilotEvent s) fun t => StopBegun 14 t ∧ t.x05 = rs ∧
        (s.tok.deferred = [] → RegsBut stopRegs s t) ∧ Within [.regs, .tok, .bil, .btm, .logs, .saf, .x04, .x05, .x06, .q, .grpSeq, .ses, .amb, .eth, .x11, .out] s t) ∧
  (∀ (s : State) (rs : List VlReport), s.x05 = .linkFail :: rs → 3 ≤ sesSt s → sesSt s ≤ 8 → sesBasic s = false → contactorOn s = true → s.ses.dc = false →
    Answers (exec .sessionPilotEvent s) fun t => StopBegun 11 t ∧ t.x05 = rs ∧
        (s.tok.deferred = [] → RegsBut stopRegs s t) ∧ Within [.regs, .tok, .bil, .btm, .logs, .saf, .x04, .x05, .x06, .q, .grpSeq, .ses, .amb, .eth, .x11, .out] s t) ∧
  (∀ (s : State) (rs : List VlReport), s.x05 = .pilot 1 :: rs → sesSt s = 0 → s.ses.lastPilot = 0 → s.parN Par.PROTO_EN ≠ 0 →
    Answers (exec .sessionPilotEvent s) fun t =>
      sesSt t = 1 ∧ t.regN (Reg.SES_ID 1) = s.regN Reg.BTM_TIME ∧ t.regN (Reg.SES_ID 0) = (s.ses.counter + 1) % 2 ^ 32 ∧
        t.ses.counter = (s.ses.counter + 1) % 2 ^ 32 ∧ t.on Fd.SES_EVT_START = true ∧ t.get Fd.SES_STAT_PROTO = 0 ∧ t.on Fd.SES_STAT_AUTHOK = false ∧
        t.ses.duty = 500 ∧ t.ses.iset = 0 ∧
        RegsBut [Reg.SES_STAT, Reg.SES_EVT, Reg.SES_ID 0, Reg.SES_ID 1] s t ∧
        Within [.regs, .tok, .bil, .btm, .logs, .saf, .x04, .x05, .x06, .q, .grpSeq, .ses, .amb, .eth, .x11, .out] s t) ∧
  (∀ (s : State), s.held .vehicleLink = false → s.get Fd.VPL_STAT_LINK ≠ 0 → Answers (exec .seccDiscoveryRequest s) fun t =>
      t.out = .secc :: s.out ∧ RegsBut [] s t ∧ Within [.out] s t) ∧
  (∀ (s : State) (offers : List Nat) (p : Nat), sesSt s = 2 → s.get Fd.VPL_STAT_LINK ≠ 0 → s.ses.setup = false → appChoose offers s = some p →
    Answers (exec (.applicationRequest (.handshake offers)) s) fun t =>
      t.get Fd.SES_STAT_PROTO = p ∧ t.out = .app ⟨.ok, p, false, false, none, none⟩ :: s.out ∧ RegsBut [Reg.SES_STAT] s t ∧ Within [.regs, .out] s t) ∧
  (∀ (s : State), 2 ≤ sesSt s → sesSt s ≤ 9 → s.get Fd.VPL_STAT_LINK ≠ 0 → s.get Fd.SES_STAT_PROTO ≠ 0 →
    Answers (exec (.applicationRequest .certificate) s) fun t =>
      t.out = .app ⟨.failed, s.get Fd.SES_STAT_PROTO, sesSt s == 6 && s.get Fd.EFT_STAT_IMDST == 2, decide (9 ≤ sesSt s), none, none⟩ :: s.out ∧
        RegsBut [] s t ∧ Within [.out] s t) ∧
  (∀ (s : State) (byPower : Bool) (ask : Int), sesSt s = 7 → s.get Fd.VPL_STAT_LINK ≠ 0 → s.get Fd.SES_STAT_PROTO ≠ 0 → s.ses.bidir = false → ask < 0 →
    Answers (exec (.applicationRequest (.chargeLoop byPower ask)) s) fun t =>
      t.ses = { s.ses with byPower := byPower, ask := 0 } ∧
        t.out = .app ⟨.ok, s.get Fd.SES_STAT_PROTO, false, false, none, some (meterInfo s)⟩ :: s.out ∧ RegsBut [] s t ∧ Within [.ses, .out] s t) ∧
  (∀ (s : State), sesSt s = 7 → s.get Fd.VPL_STAT_LINK ≠ 0 → s.get Fd.SES_STAT_PROTO ≠ 0 → s.ses.dc = false →
    Answers (exec (.applicationRequest (.powerDelivery false)) s) fun t =>
      sesSt t = 8 ∧ t.x04 = s.x04 ++ [.openAll] ∧ t.ses = { s.ses with ask := 0, steps := 0 } ∧
        t.out = .app ⟨.ok, s.get Fd.SES_STAT_PROTO, false, false, none, none⟩ :: s.out ∧
        (s.tok.deferred = [] → RegsBut stopRegs s t) ∧ Within [.regs, .tok, .bil, .btm, .logs, .saf, .x04, .x06, .q, .grpSeq, .ses, .amb, .eth, .x11, .out] s t) ∧
  (∀ (s : State), s.get Fd.VPL_STAT_LINK ≠ 0 → 2 ≤ sesSt s → sesSt s ≤ 8 → contactorOn s = true → s.ses.dc = false →
    Answers (exec .protocolTimeout s) fun t => StopBegun 10 t ∧
        (s.tok.deferred = [] → RegsBut stopRegs s t) ∧ Within [.regs, .tok, .bil, .btm, .x04, .x06, .q, .grpSeq, .ses, .amb, .eth, .x11, .out] s t) ∧
  (∀ (s : State), Answers (exec .heldCardExpiry s) fun t => t.ses = { s.ses with held := none } ∧ RegsBut [] s t ∧ Within [.ses] s t) ∧
  (∀ (s : State), sesSt s = 9 → s.ses.openSent = false → contactorOn s = true → Answers (exec .stopTimeout s) fun t =>
      t.x04 = s.x04 ++ [.openAll] ∧ t.ses = { s.ses with openSent := true } ∧ RegsBut [] s t ∧ Within [.ses, .x04] s t) ∧
  (∀ (s : State) (p : Path), HostMay p 1 s → 1 ≤ sesSt s → sesSt s ≤ 8 → contactorOn s = true → s.ses.dc = false →
    Answers (exec (.hostSessionStop p) s) fun t => StopBegun 4 t ∧ t.out = .hostStatus p 0 :: s.out ∧
        (s.tok.deferred = [] → RegsBut (stopRegs ++ hostRegs p) s t) ∧ Within [.regs, .tok, .bil, .btm, .x04, .x06, .q, .grpSeq, .ses, .amb, .eth, .x11, .out] s t)

/-- R338 to R343: an authorisation accepted, rejected, revoked, asked of the host and timed out, and a host's answer that comes too late. The model's
readings and choices behind it: log entries 97, 99 to 101, 105, 112, 261. -/
def Obligations.Authorisation : Prop :=
  (∀ (s : State) (p : Path) (tag : Nat), HostMay p 1 s → s.on Fd.SES_AUTHREQ_PEND = false → Answers (exec (.hostAuthAccept p tag) s) fun t =>
      t.on Fd.SES_EVT_STALE = true ∧ t.out = .hostStatus p 0 :: s.out ∧ RegsBut (Reg.SES_EVT :: hostRegs p) s t ∧ Within [.regs, .out] s t) ∧
  (∀ (s : State) (p : Path) (tag : Nat), HostMay p 1 s → s.get Fd.SES_AUTHREQ_TAG ≠ tag → Answers (exec (.hostAuthReject p tag) s) fun t =>
      t.on Fd.SES_EVT_STALE = true ∧ t.out = .hostStatus p 0 :: s.out ∧ RegsBut (Reg.SES_EVT :: hostRegs p) s t ∧ Within [.regs, .out] s t) ∧
  (∀ (s : State) (p : Path) (tag : Nat), HostMay p 1 s → s.on Fd.SES_AUTHREQ_PEND = true → s.get Fd.SES_AUTHREQ_TAG = tag → s.get Fd.SES_AUTHREQ_SRC = 3 →
    sesSt s = 3 → (s.parN Par.AUTH_EN).testBit 3 = true → s.get Fd.BIL_DISC_STATE = 1 → s.on Fd.BIL_STAT_WBFULL = false → s.on Fd.SYS_FLT_BILLOST = false →
    s.ses.wait = none → dcPost s = true → Answers (exec (.hostAuthAccept p tag) s) fun t =>
      sesSt t = 4 ∧ t.on Fd.SES_STAT_AUTHOK = true ∧ t.get Fd.SES_STAT_AUTHSRC = 3 ∧ t.on Fd.SES_AUTHREQ_PEND = false ∧
        t.ses = { s.ses with wait := none, justNow := true, authRef := s.ses.reqId, card := s.ses.reqId } ∧
        RegsBut (Reg.SES_AUTHREQ :: hostRegs p) s t ∧ Within [.regs, .ses, .out] s t) ∧
  (∀ (s : State) (p : Path) (tag : Nat), HostMay p 1 s → s.on Fd.SES_AUTHREQ_PEND = true → s.get Fd.SES_AUTHREQ_TAG = tag → 1 ≤ sesSt s → sesSt s ≤ 8 →
    contactorOn s = true → s.ses.dc = false → Answers (exec (.hostAuthReject p tag) s) fun t => StopBegun 5 t ∧ t.out = .hostStatus p 0 :: s.out ∧
        (s.tok.deferred = [] → RegsBut (stopRegs ++ hostRegs p) s t) ∧
        Within [.regs, .tok, .bil, .btm, .logs, .saf, .x04, .x06, .q, .grpSeq, .ses, .amb, .eth, .x11, .out] s t) ∧
  (∀ (s : State) (p : Path), HostMay p 1 s → sesSt s < 4 → Answers (exec (.hostAuthRevoke p) s) fun t =>
      t.out = .hostStatus p 0 :: s.out ∧ RegsBut (hostRegs p) s t ∧ Within [.regs, .out] s t) ∧
  (∀ (s : State) (p : Path), HostMay p 1 s → 4 ≤ sesSt s → sesSt s ≤ 8 → contactorOn s = true → s.ses.dc = false →
    Answers (exec (.hostAuthRevoke p) s) fun t => StopBegun 4 t ∧ t.out = .hostStatus p 0 :: s.out ∧
        (s.tok.deferred = [] → RegsBut (stopRegs ++ hostRegs p) s t) ∧
        Within [.regs, .tok, .bil, .btm, .logs, .saf, .x04, .x06, .q, .grpSeq, .ses, .amb, .eth, .x11, .out] s t) ∧
  (∀ (s : State), sesSt s = 3 → s.ses.wait = none → contactorOn s = true → s.ses.dc = false → Answers (exec .authWaitTimeout s) fun t => StopBegun 5 t ∧
        (s.tok.deferred = [] → RegsBut stopRegs s t) ∧ Within [.regs, .tok, .bil, .btm, .x04, .x06, .q, .grpSeq, .ses, .amb, .eth, .x11, .out] s t) ∧
  (∀ (s : State) (emaid : List Byte), s.ses.pnc = some emaid → Answers (exec (.pncChainCheckDone false) s) fun t =>
      t.ses = { s.ses with pnc := none, pncDone := some false } ∧ RegsBut [] s t ∧ Within [.ses] s t) ∧
  (∀ (s : State) (emaid : List Byte), s.ses.pnc = some emaid → sesSt s = 3 → (s.parN Par.AUTH_EN).testBit 5 = true → s.get Fd.BIL_DISC_STATE = 1 →
    s.on Fd.BIL_STAT_WBFULL = false → s.on Fd.SYS_FLT_BILLOST = false → s.ses.wait = none → dcPost s = true → s.on Fd.SES_AUTHREQ_PEND = false →
    Answers (exec (.pncChainCheckDone true) s) fun t =>
      sesSt t = 4 ∧ t.on Fd.SES_STAT_AUTHOK = true ∧ t.get Fd.SES_STAT_AUTHSRC = 5 ∧
        t.ses = { s.ses with pnc := none, pncDone := some true, wait := none, justNow := true, authRef := emaid, card := [] } ∧
        RegsBut [Reg.SES_STAT, Reg.SES_AUTHREQ] s t ∧ Within [.regs, .ses] s t) ∧
  (∀ (s : State) (p : Path) (id : List Byte) (at_ : Nat), HostMay p 1 s → s.ses.remote = some (id, at_) → s.regN Reg.SYS_UPTIME ≤ at_ + 10 → sesSt s = 3 →
    (s.parN Par.AUTH_EN).testBit 4 = true → s.ses.wait = none → Answers (exec (.hostRemoteStart p) s) fun t =>
      t.on Fd.SES_AUTHREQ_PEND = true ∧ t.get Fd.SES_AUTHREQ_SRC = 4 ∧ t.get Fd.SES_AUTHREQ_TAG = (s.ses.tag + 1) % 256 ∧ t.on Fd.SES_EVT_AUTHREQ = true ∧
        t.ses = { s.ses with tag := (s.ses.tag + 1) % 256, reqId := id } ∧ sesSt t = 3 ∧
        ((queue s 28).length < 8 → RegsBut ([Reg.SES_EVT, Reg.SES_AUTHREQ] ++ hostRegs p) s t) ∧ Within [.regs, .q, .ses, .out] s t) ∧
  (∀ (s : State) (p : Path) (id : List Byte) (at_ : Nat), HostMay p 1 s → s.ses.remote = some (id, at_) → at_ + 10 < s.regN Reg.SYS_UPTIME →
    Answers (exec (.hostRemoteStart p) s) fun t => t.out = .hostStatus p 0 :: s.out ∧ RegsBut (hostRegs p) s t ∧ Within [.regs, .out] s t)

/-- R344 to R351, R354, R361: the limits and the setpoint of the power delivery, the cable check and the pre-charge that take too long, and the lease of
site power. The model's readings and choices behind it: log entries 14, 97, 100 to 105, 261. -/
def Obligations.SitePower : Prop :=
  (∀ (s : State), sesSt s < 4 → s.ses.wantClose = false → s.ses.wait = none → s.on Fd.SES_STAT_SITEGR = true → Answers (exec .limitUpdate s) fun t =>
      t.ses = { s.ses with justNow := false, dutyAge := min 500 (s.ses.dutyAge + 1) } ∧ t.regN Reg.SES_LEASE = s.regN Reg.SES_LEASE - 10 ∧
        RegsBut [Reg.SES_LEASE] s t ∧ Within [.regs, .ses] s t) ∧
  (∀ (s : State), 4 ≤ sesSt s → sesSt s ≤ 8 → s.ses.wantClose = false → s.ses.wait = none → s.on Fd.SES_STAT_SITEGR = false → sesBasic s = false →
    Answers (exec .limitUpdate s) fun t =>
      t.ses = { s.ses with justNow := false, dutyAge := min 500 (s.ses.dutyAge + 1), ilim := sesLimit s } ∧
        t.reg Reg.SES_ILIMNOW = BitVec.ofNat 32 (Exact.toInt (sesLimit s * 10)).toNat ∧ RegsBut [Reg.SES_ILIMNOW] s t ∧ Within [.regs, .ses] s t) ∧
  (∀ (s : State), sesSt s = 8 → s.ses.dc = true → s.ses.steps < 190 → 0 < s.ses.ilim → 0 < s.ses.iset - (s.parN Par.RAMP_DOWN : Rat) / 100 →
    Answers (exec .setpointUpdate s) fun t =>
      t.ses = { s.ses with iset := s.ses.iset - (s.parN Par.RAMP_DOWN : Rat) / 100 } ∧ RegsBut [Reg.SES_ISET, Reg.SES_STAT] s t ∧ Within [.regs, .ses] s t) ∧
  (∀ (s : State), sesSt s = 5 → contactorOn s = true → sesLow s = false → Answers (exec .cableCheckTimeout s) fun t => StopBegun 8 t ∧
        (s.tok.deferred = [] → RegsBut stopRegs s t) ∧ Within [.regs, .tok, .bil, .btm, .x04, .x06, .q, .grpSeq, .ses, .amb, .eth, .x11, .out] s t) ∧
  (∀ (s : State), sesSt s = 6 → s.ses.preOk = false → contactorOn s = true → sesLow s = false → Answers (exec .prechargeTimeout s) fun t => StopBegun 9 t ∧
        (s.tok.deferred = [] → RegsBut stopRegs s t) ∧ Within [.regs, .tok, .bil, .btm, .x04, .x06, .q, .grpSeq, .ses, .amb, .eth, .x11, .out] s t) ∧
  (∀ (s : State), sesSt s = 6 → s.ses.preOk = true → Answers (exec .prechargeTimeout s) fun t => t = s) ∧
  (∀ (s u : State) (m : SiteMsg), siteMessage 0x11 s = (some m, u) → msgNum m.msg 0 2 = ownGrp u → u.parB Par.SITE_EN = true → sesSt u = 7 →
    Answers (exec .siteGrantArrival s) fun t =>
      t.on Fd.SES_STAT_SITEGR = true ∧ t.regN Reg.SES_LEASE = 10000 ∧ t.reg Reg.SES_GRANT = Bits.ofInt 32 (Bits.signed 32 (msgNum m.msg 4 4)) ∧
        t.ses = { u.ses with gnum := msgNum m.msg 2 2 } ∧ RegsBut [Reg.SES_STAT, Reg.SES_GRANT, Reg.SES_LEASE] u t ∧
        Within [.regs, .q, .ses, .x11] s t) ∧
  (∀ (s : State), s.parB Par.SITE_EN = true → sesSt s = 7 → sharing s = false → s.get Fd.AMB_STAT_ROLE = 1 → Answers (exec .siteLeaseRenew s) fun t =>
      t.amb.out.length = s.amb.out.length + 1 ∧ t.ses = s.ses ∧ RegsBut [] s t ∧ Within [.amb] s t) ∧
  (∀ (s : State), s.on Fd.SES_STAT_SITEGR = true → Answers (exec .siteLeaseExpiry s) fun t =>
      t.on Fd.SES_STAT_SITEGR = false ∧ t.regN Reg.SES_LEASE = 0 ∧ t.reg Reg.SES_GRANT = BitVec.ofNat 32 (s.parN Par.SITE_FLOOR) ∧
        t.on Fd.SES_EVT_LEASE = true ∧ RegsBut [Reg.SES_STAT, Reg.SES_GRANT, Reg.SES_LEASE, Reg.SES_EVT] s t ∧ Within [.regs] s t) ∧
  (∀ (s : State), sesSt s = 8 → s.parB Par.SITE_EN = true → sharing s = false → s.get Fd.AMB_STAT_ROLE = 1 → Answers (exec .pauseTokenRelease s) fun t =>
      t.on Fd.SES_STAT_SITEGR = false ∧ t.regN Reg.SES_LEASE = 0 ∧
        t.amb.out = s.amb.out ++ [⟨0x12, Bits.leBytes 2 (ownGrp s) ++ Bits.leBytes 2 s.ses.rnum⟩] ∧ t.ses = s.ses ∧
        RegsBut [Reg.SES_STAT, Reg.SES_GRANT, Reg.SES_LEASE] s t ∧ Within [.regs, .amb] s t)

/-- R352 to R360: the frames to the power converters and what is learnt from theirs. The model's readings and choices behind it: log entries 105, 107,
261. -/
def Obligations.ConverterLink : Prop :=
  (∀ (s : State), s.held .siteLink = false → s.parN Par.CONV_USE = 0 → Answers (exec .converterSetptSend s) fun t =>
      t.out = s.out ∧ RegsBut [] s t ∧ Within [.free] s t) ∧
  (∀ (s : State), s.held .siteLink = false → s.parN Par.CONV_USE = 1 → s.parN Par.CONV_PORT = 1 → sesSt s = 0 → s.ses.conv.length = 32 →
    Answers (exec .converterSetptSend s) fun t =>
      t.out = .can 1 128 (Bits.leBytes 1 0 ++ Bits.leBytes 1 (((convNode s 0).txAlive + 1) % 256) ++ List.replicate 14 0) :: s.out ∧
        (convNode t 0).txAlive = ((convNode s 0).txAlive + 1) % 256 ∧ RegsBut [] s t ∧ Within [.ses, .free, .out] s t) ∧
  (∀ (s : State), s.held .siteLink = false → sesSt s = 4 → Answers (exec .converterSyncSend s) fun t =>
      (∃ n, t.out = .can 1 319 (Bits.leBytes 1 1 ++ Bits.leBytes 1 (n % 2) ++ [0, 0, 0, 0, 0, 0]) ::
        .can 0 319 (Bits.leBytes 1 1 ++ Bits.leBytes 1 (n % 2) ++ [0, 0, 0, 0, 0, 0]) :: s.out) ∧ RegsBut [] s t ∧ Within [.free, .out] s t) ∧
  (∀ (s : State) (port n a : Nat) (f : List Byte), s.held .siteLink = false → convHeard s port n = true → f.length = 16 → s.ses.conv.length = 32 →
    (convNode s n).rxAlive = some a → canNum f 1 1 = (a + 1) % 256 → (canNum f 6 2).testBit 1 = false → (convNode s n).cap.isSome = true →
    (convNode s n).lost = false → Answers (exec (.converterStatusReceive port n f) s) fun t =>
      (convNode t n).healthy = true ∧ (convNode t n).rxAlive = some ((a + 1) % 256) ∧ (convNode t n).ilim = canNum f 10 2 ∧
        t.get ⟨Reg.SES_CONVOK, n, 1⟩ = 1 ∧ t.get (Fd.SES_CONV_IOUT n) = canNum f 4 2 ∧ t.get (Fd.SES_CONV_STATE n) = canNum f 0 1 % 2 ^ (Fd.SES_CONV_STATE n).width ∧
        t.get (Fd.SES_CONV_ERRS n) = s.get (Fd.SES_CONV_ERRS n) ∧ RegsBut [Reg.SES_CONV n, Reg.SES_CONVOK] s t ∧ Within [.regs, .ses] s t) ∧
  (∀ (s : State) (port n : Nat) (f : List Byte), s.held .siteLink = false → convHeard s port n = false → Answers (exec (.converterStatusReceive port n f) s) fun t =>
      t = s) ∧
  (∀ (s : State) (port n : Nat) (f : List Byte), s.held .siteLink = false → convHeard s port n = true → f.length = 16 → s.ses.conv.length = 32 →
    Answers (exec (.converterCapabReceive port n f) s) fun t =>
      (convNode t n).cap = some ⟨canNum f 1 1 == 1, canNum f 2 2, canNum f 4 2, canNum f 6 2, canNum f 8 2, canNum f 10 2, canNum f 12 2⟩ ∧
        (convNode t n).healthy = (convNode s n).healthy ∧ RegsBut [Reg.SES_CONVOK] s t ∧ Within [.regs, .ses] s t) ∧
  (∀ (s : State) (n : Nat), n < 32 → (convNode s n).healthy = true → s.ses.conv.length = 32 → sesSt s < 5 → Answers (exec (.converterStatusTimeout n) s) fun t =>
      (convNode t n).healthy = false ∧ (convNode t n).lost = true ∧ t.get ⟨Reg.SES_CONVOK, n, 1⟩ = 0 ∧
        t.regN Reg.SES_CONVCNT = min (s.regN Reg.SES_CONVCNT + 1) 0xFFFFFFFF ∧ t.on Fd.SES_EVT_CONVLOST = true ∧
        RegsBut [Reg.SES_CONVOK, Reg.SES_CONVCNT, Reg.SES_EVT] s t ∧ Within [.regs, .ses] s t)

/-- R372 to R381: the commands of KEY_CTL. The model's readings and choices behind it: log entries 115, 120, 121, 126, 261. -/
def Obligations.KeyCommands : Prop :=
  (∀ (s : State) (p : Path) (n type : Nat), KeyReady p 1 s → s.get Fd.KEY_CMD_SLOT = n → 16 ≤ n → s.get Fd.KEY_CMD_TYPE = type → type ≤ 5 →
    useOk type (s.regN Reg.KEY_CMDUSE) = true → s.on Fd.KEY_CMD_PROOT = true → s.on Fd.KEY_STAT_DRBGOK = true → slotSt s n = 0 →
    s.get (Fd.KEY_SLOT_GEN n) ≠ 255 → Answers (exec (.keyGenerate p) s) fun t =>
      KeyDone 0 t ∧ slotSt t n = 1 ∧ slotType t n = type ∧ s.get (Fd.KEY_SLOT_GEN n) + 1 = t.get (Fd.KEY_SLOT_GEN n) ∧ t.get (Fd.KEY_SLOT_DEPTH n) = 1 ∧
        t.get (Fd.KEY_SLOT_USAGE n) = s.get Fd.KEY_CMDUSE_USAGE ∧ t.on (Fd.KEY_SLOTX_PROOT n) = true ∧ t.out = .hostStatus p 0 :: s.out ∧
        RegsBut ([Reg.KEY_SLOT n, Reg.KEY_SLOTX n, Reg.DLM_ICNT 0, Reg.DLM_ICNT 1, Reg.DLM_ICNT 2] ++ keyRegs p) s t ∧
        Within [.regs, .grt, .free, .out] s t) ∧
  (∀ (s : State) (p : Path), KeyReady p 1 s → (16 ≤ s.get Fd.KEY_CMD_SLOT ∨ pathLevel s p = 3) →
    (slotSt s (s.get Fd.KEY_CMD_SLOT) = 1 ∨ slotSt s (s.get Fd.KEY_CMD_SLOT) = 2) →
    Answers (exec (.keyGenerate p) s) fun t =>
      KeyDone 6 t ∧ slotSt t (s.get Fd.KEY_CMD_SLOT) = slotSt s (s.get Fd.KEY_CMD_SLOT) ∧ RegsBut (keyRegs p) s t ∧ Within [.regs, .out] s t) ∧
  (∀ (s : State) (p : Path), KeyReady p 1 s → s.get Fd.KEY_CMD_SLOT < 16 → pathLevel s p < 3 → Answers (exec (.keyGenerate p) s) fun t =>
      KeyDone 1 t ∧ RegsBut (keyRegs p) s t ∧ Within [.regs, .out] s t) ∧
  (∀ (s : State) (p : Path) (n type : Nat), KeyReady p 2 s → s.get Fd.KEY_CMD_SLOT = n → 16 ≤ n → s.get Fd.KEY_CMD_TYPE = type →
    useOk type (s.regN Reg.KEY_CMDUSE) = true → s.on Fd.KEY_CMD_PROOT = true → slotSt s n = 0 → s.get (Fd.KEY_SLOT_GEN n) ≠ 255 → s.parB Par.CLEAR_EN = true →
    (s.regN Reg.KEY_CMDUSE).testBit 9 = true → (s.regN Reg.KEY_CMDUSE).testBit 8 = false → Answers (exec (.keyWrite p) s) fun t =>
      KeyDone 0 t ∧ slotSt t n = 1 ∧ slotType t n = type ∧ keyOf t n = (keyData s).take (keyLen type) ∧
        s.get (Fd.KEY_SLOT_GEN n) + 1 = t.get (Fd.KEY_SLOT_GEN n) ∧
        RegsBut ([Reg.KEY_SLOT n, Reg.KEY_SLOTX n, Reg.DLM_ICNT 0, Reg.DLM_ICNT 1, Reg.DLM_ICNT 2] ++ keyRegs p) s t ∧ Within [.regs, .grt, .out] s t) ∧
  (∀ (s : State) (p : Path) (n type a : Nat) (text : Option (List Byte)), KeyReady p 3 s → s.get Fd.KEY_CMD_SLOT = n → 16 ≤ n → s.get Fd.KEY_CMD_TYPE = type →
    useOk type (s.regN Reg.KEY_CMDUSE) = true → s.on Fd.KEY_CMD_PROOT = false → s.get Fd.KEY_CMD_PARENT = a → slotSt s n = 0 →
    s.get (Fd.KEY_SLOT_GEN n) ≠ 255 → (s.regN Reg.KEY_CMDUSE).testBit 8 = false → usable s a = true → slotUse s a 6 = true →
    s.get (Fd.KEY_SLOT_DEPTH a) < 4 →
    Config.gcmOpen (keyOf s a) ((keyData s).take 12) (Bits.leBytes 1 n ++ Bits.leBytes 1 type) (((keyData s).drop 12).take (keyLen type + 16)) = text →
    Answers (exec (.keyImport p) s) fun t =>
      KeyDone (if text.isSome then 0 else 9) t ∧ slotSt t n = (if text.isSome then 1 else 0) ∧
        RegsBut ([Reg.KEY_SLOT n, Reg.KEY_SLOTX n, Reg.DLM_ICNT 0, Reg.DLM_ICNT 1, Reg.DLM_ICNT 2] ++ keyRegs p) s t ∧ Within [.regs, .grt, .out] s t) ∧
  (∀ (s : State) (p : Path) (n : Nat), KeyReady p 4 s → s.get Fd.KEY_CMD_SLOT = n → 16 ≤ n → slotSt s n = 1 → s.get (Fd.KEY_SLOT_GEN n) ≠ 255 →
    slotUse s n 6 = false → s.get Fd.BIL_WBUNS_WAITING = 0 → Answers (exec (.keyInvalidate p) s) fun t =>
      KeyDone 0 t ∧ slotSt t n = 0 ∧ keyOf t n = [] ∧ t.get (Fd.KEY_SLOT_GEN n) = s.get (Fd.KEY_SLOT_GEN n) + 1 ∧
        (List.range 256).all (fun m => m == n || slotSt t m == (if slotSt s m = 1 ∧ descendsN 4 s n m then 2 else slotSt s m)) = true ∧
        RegsBut (slotRegs ++ Reg.HIF_EVT :: keyRegs p) s t ∧ Within [.regs, .grt, .hif, .out, .free] s t) ∧
  (∀ (s : State) (p : Path) (n : Nat), KeyReady p 5 s → s.get Fd.KEY_CMD_SLOT = n → 16 ≤ n → slotSt s n = 1 → s.get Fd.BIL_WBUNS_WAITING = 0 →
    Answers (exec (.keyDestroy p) s) fun t =>
      KeyDone 0 t ∧ slotSt t n = 0 ∧ keyOf t n = [] ∧ t.get (Fd.KEY_SLOT_GEN n) = s.get (Fd.KEY_SLOT_GEN n) ∧
        (List.range 256).all (fun m => m == n || slotSt t m == (if slotSt s m = 1 ∧ descendsN 4 s n m then 2 else slotSt s m)) = true ∧
        RegsBut (slotRegs ++ Reg.HIF_EVT :: keyRegs p) s t ∧ Within [.regs, .grt, .hif, .out, .free] s t) ∧
  (∀ (s : State) (p : Path) (n : Nat), KeyReady p 6 s → s.get Fd.KEY_CMD_SLOT = n → usable s n = true → 4 ≤ slotType s n →
    Answers (exec (.keyReadpub p) s) fun t =>
      KeyDone 0 t ∧ t.regN (Reg.KEY_DATA 0) = Bits.ofLeBytes ((publicKey s n).take 4) ∧ slotSt t n = slotSt s n ∧ RegsBut (keyRegs p) s t ∧
        Within [.regs, .out] s t) ∧
  (∀ (s : State) (p : Path) (n : Nat), KeyReady p 6 s → s.get Fd.KEY_CMD_SLOT = n → slotSt s n = 0 → Answers (exec (.keyReadpub p) s) fun t =>
      KeyDone 13 t ∧ RegsBut (keyRegs p) s t ∧ Within [.regs, .out] s t) ∧
  (∀ (s : State) (n : Nat), s.held .grotto = false → n < 256 → slotSt s n = 2 → Answers (exec .orphanZero s) fun t =>
      (List.range 256).all (fun m => slotSt t m == (if slotSt s m = 2 then 0 else slotSt s m)) = true ∧ keyOf t n = [] ∧
        t.get (Fd.KEY_SLOT_GEN n) = s.get (Fd.KEY_SLOT_GEN n) ∧ t.on Fd.KEY_EVT_ORPHAN = true ∧
        RegsBut (slotRegs ++ [Reg.KEY_STAT, Reg.KEY_EVT]) s t ∧ Within [.regs, .grt] s t) ∧
  (∀ (s : State) (w : Nat), s.held .grotto = false → w < 32 → Answers (exec .keyDataExpiry s) fun t =>
      t.reg (Reg.KEY_DATA w) = 0 ∧ RegsBut ((List.range 32).map (fun w => Reg.KEY_DATA w)) s t ∧ Within [.regs] s t)

/-- R370, R374, R382 to R386: requests to the crypto engine, their results, and the random number generator. The model's readings and choices behind it:
log entries 14, 39, 89, 115, 117, 123, 261. -/
def Obligations.CryptoRequests : Prop :=
  (∀ (s : State) (r : CryptoReq), s.held .grotto = false → s.grt.cmds = [] → Answers (exec (.cryptoRequest r) s) fun t =>
      t.grt = { s.grt with reqs := s.grt.reqs ++ [⟨r, false, false⟩] } ∧ RegsBut [] s t ∧ Within [.grt] s t) ∧
  (∀ (s : State) (r : CryptoReq), s.held .grotto = false → s.grt.cmds = [] → s.grt.reqs = [⟨r, false, false⟩] → r.op = .hash false →
    Answers (exec (.cryptoOperationDone r.cls) s) fun t =>
      t.out = .crypto r.id 0 (Config.crypto 3 [] r.data) :: s.out ∧ t.grt = { s.grt with reqs := [] } ∧ RegsBut [] s t ∧ Within [.grt, .out] s t) ∧
  (∀ (s : State) (r : CryptoReq), s.held .grotto = false → s.grt.cmds = [] → s.grt.reqs = [⟨r, false, false⟩] → r.op = .hmac → usable s r.slot = true →
    slotUse s r.slot 3 = true → Answers (exec (.cryptoOperationDone r.cls) s) fun t =>
      t.out = .crypto r.id 0 (Config.crypto 5 (keyOf s r.slot) r.data) :: s.out ∧ t.grt = { s.grt with reqs := [] } ∧ RegsBut [] s t ∧
        Within [.grt, .out] s t) ∧
  (∀ (s : State) (r : CryptoReq) (sig : List Byte), s.held .grotto = false → s.grt.cmds = [] → s.grt.reqs = [⟨r, false, false⟩] → r.op = .verify sig →
    usable s r.slot = true → slotUse s r.slot 1 = true → Answers (exec (.cryptoOperationDone r.cls) s) fun t =>
      t.out = .crypto r.id (if Config.verifies (keyOf s r.slot) r.data sig then 0 else 9) [] :: s.out ∧ RegsBut [] s t ∧ Within [.grt, .out] s t) ∧
  (∀ (s : State) (r : CryptoReq), s.held .grotto = false → s.grt.cmds = [] → s.grt.reqs = [⟨r, false, false⟩] → r.op = .decrypt →
    s.on Fd.KEY_STAT_READY = true → s.on Fd.KEY_STAT_ROOTFAIL = false → slotSt s r.slot = 0 → Answers (exec (.cryptoOperationDone r.cls) s) fun t =>
      t.out = .crypto r.id 13 [] :: s.out ∧ RegsBut [] s t ∧ Within [.grt, .out] s t) ∧
  (∀ (s : State) (r : CryptoReq), s.held .grotto = false → s.grt.cmds = [] → s.grt.reqs = [⟨r, false, true⟩] → r.op = .sign → usable s r.slot = true →
    slotType s r.slot = 5 → s.pfw = false → tokHolds s 6 r.id = false → tokWaits s 6 r.id = false → Answers (exec (.cryptoOperationDone r.cls) s) fun t =>
      t.out = .crypto r.id 15 [] :: s.out ∧ t.on Fd.KEY_EVT_TOKEN = true ∧ RegsBut [Reg.KEY_EVT] s t ∧ Within [.regs, .grt, .out] s t) ∧
  (∀ (s : State), s.held .grotto = false → s.on Fd.KEY_STAT_DRBGOK = true → Answers (exec (.drbgReseed false) s) fun t =>
      t.on Fd.KEY_STAT_DRBGOK = false ∧ t.on Fd.KEY_EVT_RNGFAIL = true ∧
        RegsBut [Reg.KEY_STAT, Reg.KEY_EVT, Reg.SYS_FLT, Reg.SYS_FLTLAST] s t ∧ Within [.regs, .logs, .free] s t) ∧
  (∀ (s : State), s.held .grotto = false → Answers (exec (.drbgReseed true) s) fun t => t = s)

/-- R394 to R403, R408 to R410, R420: frames sent, launched, received and filtered, and the CAN FD controllers. The model's readings and choices behind
it: log entries 127, 128, 130 to 133, 135, 137, 138, 261. -/
def Obligations.EthernetFrames : Prop :=
  (∀ (s : State) (f : TxFrame) (dt : Nat), s.held .siteLink = false → s.on Fd.PTP_STAT_SLEW = false → f.queue < 4 → s.parN Par.ETH_TOPO = 2 →
    portUp s 0 = true → s.q.length = 32 → Answers (exec (.ethFrameSend (some f) true dt) s) fun t =>
      queue t f.queue = queue s f.queue ++ [⟨f.bytes, f.launch, f.tsIns, f.tsReq, 0⟩] ∧ t.eth = { s.eth with mono := s.eth.mono + dt, st := s.eth.st + dt } ∧
        RegsBut [Reg.PTP_ST 0, Reg.PTP_ST 1] s t ∧ Within [.regs, .eth, .q] s t) ∧
  (∀ (s : State) (f : TxFrame) (dt : Nat), s.held .siteLink = false → f.queue < 4 → s.parN Par.ETH_TOPO = 0 → portUp s 0 = true → portUp s 1 = false →
    s.q.length = 32 → Answers (exec (.ethFrameSend (some f) true dt) s) fun t =>
      queue t f.queue = queue s f.queue ++ [⟨withTrailer 0 s.eth.prpSeq f.bytes, f.launch, f.tsIns, f.tsReq, 0⟩] ∧
        t.eth.prpSeq = (s.eth.prpSeq + 1) % 65536 ∧ t.regN (Reg.ETH_PCNT 12) = min (s.regN (Reg.ETH_PCNT 12) + 1) 0xFFFFFFFF ∧
        RegsBut [Reg.ETH_PCNT 12, Reg.PTP_ST 0, Reg.PTP_ST 1, Reg.PTP_SLEWREM] s t ∧ Within [.regs, .q, .eth, .out] s t) ∧
  (∀ (s : State) (f : Frame) (dt : Nat), s.held .siteLink = false → s.parN Par.ETH_TOPO = 2 → queue s 1 = [f] → queue s 2 = [] → queue s 3 = [] →
    queue s 9 = [] → queue s 10 = [] → queue s 11 = [] → f.tsIns = none → f.tsReq = false → s.q.length = 32 →
    Answers (exec (.ethFrameSend none false dt) s) fun t =>
      t.out = .eth 0 f.bytes none :: s.out ∧ queue t 1 = [] ∧ t.regN (Reg.ETH_PCNT 0) = min (s.regN (Reg.ETH_PCNT 0) + 1) 0xFFFFFFFF ∧
        RegsBut [Reg.ETH_PCNT 0, Reg.PTP_ST 0, Reg.PTP_ST 1, Reg.PTP_SLEWREM] s t ∧ Within [.regs, .q, .eth, .out] s t) ∧
  (∀ (s : State) (f : Frame) (fs : List Frame) (l dt : Nat), s.held .siteLink = false → s.pfw = false → queue s 0 = f :: fs → f.launch = some l →
    queue s 8 = [] → s.eth.st + dt < stExtend l (s.eth.st + dt) → Answers (exec (.frameLaunch dt) s) fun t =>
      queue t 0 = f :: fs ∧ t.out = s.out ∧ t.eth.st = s.eth.st + dt ∧ RegsBut [Reg.PTP_ST 0, Reg.PTP_ST 1, Reg.PTP_SLEWREM] s t ∧ Within [.regs, .eth] s t) ∧
  (∀ (s : State) (f : Frame) (l dt : Nat), s.held .siteLink = false → s.pfw = false → queue s 0 = [f] → f.launch = some l → f.tsIns = none →
    f.tsReq = false → queue s 8 = [] → s.parN Par.ETH_TOPO = 2 → stExtend l (s.eth.st + dt) ≤ s.eth.st + dt → s.eth.st + dt - stExtend l (s.eth.st + dt) ≤ 1000 →
    s.q.length = 32 → Answers (exec (.frameLaunch dt) s) fun t =>
      queue t 0 = [] ∧ t.out = .eth 0 f.bytes none :: s.out ∧ t.regN (Reg.ETH_PCNT 0) = min (s.regN (Reg.ETH_PCNT 0) + 1) 0xFFFFFFFF ∧
        RegsBut [Reg.ETH_PCNT 0, Reg.PTP_ST 0, Reg.PTP_ST 1, Reg.PTP_SLEWREM] s t ∧ Within [.regs, .q, .eth, .out] s t) ∧
  (∀ (s : State) (f : Frame) (l dt : Nat), s.held .siteLink = false → s.pfw = false → queue s 0 = [f] → f.launch = some l → queue s 8 = [] →
    s.parN Par.LATE_MODE = 1 → 1000 < s.eth.st + dt - stExtend l (s.eth.st + dt) → s.q.length = 32 → Answers (exec (.frameLaunch dt) s) fun t =>
      queue t 0 = [] ∧ t.out = s.out ∧ t.regN (Reg.ETH_PCNT 7) = min (s.regN (Reg.ETH_PCNT 7) + 1) 0xFFFFFFFF ∧ t.on Fd.ETH_EVT_LATE = true ∧
        RegsBut [Reg.ETH_PCNT 7, Reg.ETH_EVT, Reg.PTP_ST 0, Reg.PTP_ST 1, Reg.PTP_SLEWREM] s t ∧ Within [.regs, .eth, .q] s t) ∧
  (∀ (s : State) (p : Nat) (f : List Byte) (dt : Nat), s.held .siteLink = false → portUp s p = true → Answers (exec (.ethFrameReceive p f false dt) s) fun t =>
      t.regN (Reg.ETH_PCNT (8 * p + 2)) = min (s.regN (Reg.ETH_PCNT (8 * p + 2)) + 1) 0xFFFFFFFF ∧
        RegsBut [Reg.ETH_PCNT (8 * p + 2), Reg.PTP_ST 0, Reg.PTP_ST 1, Reg.PTP_SLEWREM] s t ∧ Within [.regs, .eth] s t) ∧
  (∀ (s : State) (f : List Byte) (dt : Nat), s.held .siteLink = false → portUp s 0 = true → s.parN Par.ETH_TOPO = 2 → f.length = 64 → etherType f = 0x0800 →
    (f.headD 0).getLsbD 0 = true → vlanPrio f < 4 → (queue s 7).length < 32 → s.q.length = 32 →
    Answers (exec (.ethFrameReceive 0 f true dt) s) fun t =>
      queue t 7 = queue s 7 ++ [⟨f, none, none, false, Bits.ofInt 32 (s.eth.st + dt - s.parN (Par.PHY_RXLAT 0))⟩] ∧
        t.regN (Reg.ETH_PCNT 1) = min (s.regN (Reg.ETH_PCNT 1) + 1) 0xFFFFFFFF ∧
        RegsBut [Reg.ETH_PCNT 1, Reg.PTP_ST 0, Reg.PTP_ST 1, Reg.PTP_SLEWREM] s t ∧ Within [.regs, .eth, .q] s t) ∧
  (∀ (s : State) (src : List Byte), s.held .siteLink = false → Answers (exec (.nodeEntryExpiry src) s) fun t =>
      t.eth = { s.eth with nodes := s.eth.nodes.filter (fun e => e.src != src) } ∧ RegsBut [] s t ∧ Within [.eth] s t) ∧
  (∀ (s : State), s.held .siteLink = false → s.parN Par.ETH_TOPO = 0 → portUp s 0 = true → portUp s 1 = true → Answers (exec .supervisionFrameSend s) fun t =>
      t.out = .supervision 1 :: .supervision 0 :: s.out ∧ t.regN (Reg.ETH_PCNT 0) = min (s.regN (Reg.ETH_PCNT 0) + 1) 0xFFFFFFFF ∧
        t.regN (Reg.ETH_PCNT 8) = min (s.regN (Reg.ETH_PCNT 8) + 1) 0xFFFFFFFF ∧ RegsBut [Reg.ETH_PCNT 0, Reg.ETH_PCNT 8] s t ∧ Within [.regs, .out] s t) ∧
  (∀ (s : State) (p : Nat) (m : List Byte), s.held .siteLink = false → portUp s p = true → 10 ≤ m.length → groupNum m 2 2 % 4096 = s.parN Par.GRP_ADDR →
    Answers (exec (.groupMessageReceive p m) s) fun t => t.on Fd.ETH_EVT_ADDRCONF = true ∧ RegsBut [Reg.ETH_EVT] s t ∧ Within [.regs] s t) ∧
  (∀ (s : State) (p : Nat) (m : List Byte), s.held .siteLink = false → portUp s p = true → 10 ≤ m.length → groupNum m 2 2 % 4096 ≠ s.parN Par.GRP_ADDR →
    groupNum m 4 2 = 0xFFFF → groupNum m 1 1 = 2 → m.length = 10 + groupNum m 8 2 → s.eth.groups = [] → (queue s 4).length < 32 → s.q.length = 32 →
    Answers (exec (.groupMessageReceive p m) s) fun t =>
      queue t 4 = queue s 4 ++ [⟨m, none, none, false, Bits.ofInt 32 s.eth.st⟩] ∧ t.eth = { s.eth with groups := [(groupNum m 2 2 % 4096, [groupNum m 6 2])] } ∧
        RegsBut [] s t ∧ Within [.eth, .q] s t) ∧
  (∀ (s : State) (p : Nat) (f : List Byte), s.held .siteLink = false → portUp s p = true → f.take 6 = groupMac 1 → etherType f = 0x88B5 →
    32 ≤ (f.drop (typeAt f + 2)).length → Answers (exec (.telegramFrameFilter p f) s) fun t =>
      t.x09 = s.x09 ++ [(p, (f.drop (typeAt f + 2)).take 32)] ∧ RegsBut [Reg.ETH_PCNT (8 * p + 1)] s t ∧ Within [.regs, .x09] s t) ∧
  (∀ (s : State) (k : Nat), s.held .siteLink = false → k < 2 → Answers (exec (.canBusOff k) s) fun t =>
      t.on (Fd.ETH_CAN_BUSOFF k) = true ∧ t.get (Fd.ETH_CAN_TEC k) = 255 ∧ t.get (Fd.ETH_CAN_BUSOFFS k) = min (s.get (Fd.ETH_CAN_BUSOFFS k) + 1) 255 ∧
        t.on Fd.ETH_EVT_BUSOFF = true ∧ RegsBut [Reg.ETH_CAN k, Reg.ETH_EVT] s t ∧ Within [.regs] s t) ∧
  (∀ (s : State) (k : Nat), s.held .siteLink = false → k < 2 → Answers (exec (.busOffRecovery k) s) fun t =>
      t.on (Fd.ETH_CAN_BUSOFF k) = false ∧ t.get (Fd.ETH_CAN_TEC k) = 0 ∧ t.get (Fd.ETH_CAN_REC k) = 0 ∧
        t.get (Fd.ETH_CAN_BUSOFFS k) = s.get (Fd.ETH_CAN_BUSOFFS k) ∧ RegsBut [Reg.ETH_CAN k] s t ∧ Within [.regs] s t)

/-- R404 to R407, R411 to R416: the messages of the PTP engine, the domains it tracks, and the site time they set. The model's readings and choices behind
it: log entries 127 to 129, 133, 134, 140, 261. -/
def Obligations.PtpEngine : Prop :=
  (∀ (s : State) (p dom seq d dt : Nat) (origin corr residence : Int), s.held .siteLink = false → s.on Fd.PTP_STAT_SLEW = false → s.parN Par.PTP_ROLE ≠ 2 →
    domIndex s dom = some d → p < 2 → ptpHears s d p = true → s.eth.ports.length = 4 →
    Answers (exec (.ptpSyncReceive p dom seq true origin corr residence dt) s) fun t =>
      (engine t d p).sync = some ⟨seq, s.eth.st + dt - s.parN (Par.PHY_RXLAT p) - corr⟩ ∧ t.eth.st = s.eth.st + dt ∧
        RegsBut [Reg.PTP_ST 0, Reg.PTP_ST 1] s t ∧ Within [.regs, .eth] s t) ∧
  (∀ (s : State) (p dom seq d dt : Nat) (origin corr residence at_ : Int), s.held .siteLink = false → s.on Fd.PTP_STAT_SLEW = false →
    s.parN Par.PTP_ROLE ≠ 2 → at_ = s.eth.st + dt - s.parN (Par.PHY_RXLAT p) → domIndex s dom = some d → p < 2 → ptpHears s d p = true →
        (engine s d p).set = false → s.eth.sel = none → domPort s 0 = none → domPort s 1 = none →
    s.eth.ports.length = 4 → Answers (exec (.ptpSyncReceive p dom seq false origin corr residence dt) s) fun t =>
      engine t d p = { engine s d p with last := some (at_, origin + corr), set := true, off := origin + corr + (engine s d p).mpd - at_, good := 0, bad := 0 } ∧
        t.eth.st = s.eth.st + dt ∧ t.on Fd.PTP_STAT_LOCK = false ∧
        RegsBut ptpRegs s t ∧ Within [.regs, .q, .eth, .out] s t) ∧
  (∀ (s : State) (p dom seq d : Nat) (w : PtpWait) (origin corr residence : Int), s.held .siteLink = false → s.parN Par.PTP_ROLE ≠ 2 → domIndex s dom = some d →
    portUp s p = true → (engine s d p).sync = some w → w.seq = seq → (engine s d p).set = false → s.eth.sel = none → domPort s 0 = none →
    domPort s 1 = none → s.eth.ports.length = 4 → Answers (exec (.ptpFollowUpReceive p dom seq origin corr residence) s) fun t =>
      engine t d p =
        { engine s d p with sync := none, last := some (w.stamp, origin + corr), set := true, off := origin + corr + (engine s d p).mpd - w.stamp, good := 0, bad := 0 } ∧ t.eth.st = s.eth.st ∧
        RegsBut ptpRegs s t ∧ Within [.regs, .q, .eth, .out] s t) ∧
  (∀ (s : State) (p dom d gm : Nat) (rank : List Nat) (utc : Option Nat), s.held .siteLink = false → domIndex s dom = some d → portUp s p = true →
    s.parN Par.PTP_ROLE = 0 → (engine s d p).gm = none → s.eth.sel = none → domPort s 0 = none → domPort s 1 = none → s.eth.ports.length = 4 →
    Answers (exec (.ptpAnnounceReceive p dom gm rank utc) s) fun t =>
      engine t d p = { PtpPort.zero with gm := some gm, rank := rank, utc := utc, off := (engine s d p).off } ∧ t.on Fd.PTP_STAT_MASTER = false ∧
        t.on Fd.PTP_STAT_LOCK = false ∧
        RegsBut ptpRegs s t ∧ Within [.regs, .q, .eth] s t) ∧
  (∀ (s : State) (p dom d : Nat), s.held .siteLink = false → domIndex s dom = some d → p < 2 → s.parN Par.PTP_ROLE = 0 → s.eth.sel = none →
    domPort s 0 = none → domPort s 1 = none → s.eth.ports.length = 4 → Answers (exec (.announceTimeout p dom) s) fun t =>
      engine t d p = { PtpPort.zero with off := (engine s d p).off } ∧ t.on Fd.PTP_STAT_LOCK = false ∧
        RegsBut ptpRegs s t ∧ Within [.regs, .q, .eth] s t) ∧
  (∀ (s : State) (dt : Nat), s.held .siteLink = false → s.on Fd.PTP_STAT_SLEW = false → ptpMaster s = true → portUp s 0 = true → portUp s 1 = false →
    Answers (exec (.ptpSyncSend dt) s) fun t =>
      t.out = .ptp 0 (.sync (ownDom s) s.eth.ptpSeq (s.eth.st + dt + s.parN (Par.PHY_TXLAT 0))) :: s.out ∧ t.eth.ptpSeq = (s.eth.ptpSeq + 1) % 65536 ∧
        RegsBut [Reg.PTP_ST 0, Reg.PTP_ST 1] s t ∧ Within [.regs, .eth, .out] s t) ∧
  (∀ (s : State), s.held .siteLink = false → ptpMaster s = true → portUp s 0 = true → portUp s 1 = true → Answers (exec .ptpAnnounceSend s) fun t =>
      t.out = .ptp 1 (.announce (ownDom s) s.eth.ptpSeq (s.parN Par.PRIO1) 248 0xFE 255) ::
        .ptp 0 (.announce (ownDom s) s.eth.ptpSeq (s.parN Par.PRIO1) 248 0xFE 255) :: s.out ∧
        t.eth = { s.eth with ptpSeq := (s.eth.ptpSeq + 1) % 65536 } ∧ RegsBut [] s t ∧ Within [.eth, .out] s t) ∧
  (∀ (s : State), s.held .siteLink = false → ptpMaster s = false → Answers (exec .ptpAnnounceSend s) fun t => t = s) ∧
  (∀ (s : State) (p dom d dt : Nat), s.held .siteLink = false → s.on Fd.PTP_STAT_SLEW = false → domIndex s dom = some d → ptpHears s d p = true →
    s.eth.ports.length = 4 → Answers (exec (.ptpDelayReqSend p dom dt) s) fun t =>
      (engine t d p).delay = some ⟨s.eth.ptpSeq, s.eth.st + dt + s.parN (Par.PHY_TXLAT p)⟩ ∧ t.out = .ptp p (.delayReq dom s.eth.ptpSeq) :: s.out ∧
        t.eth.ptpSeq = (s.eth.ptpSeq + 1) % 65536 ∧ RegsBut [Reg.PTP_ST 0, Reg.PTP_ST 1] s t ∧ Within [.regs, .eth, .out] s t) ∧
  (∀ (s : State) (p dom d : Nat) (w : PtpWait) (t2 t1 received corr : Int), s.held .siteLink = false → domIndex s dom = some d → ptpHears s d p = true →
    (engine s d p).delay = some w → (engine s d p).last = some (t2, t1) → s.eth.ports.length = 4 →
    Answers (exec (.ptpDelayRespReceive p dom w.seq received corr) s) fun t =>
      engine t d p = { engine s d p with delay := none, mpd := (((t2 - t1) + (received - corr - w.stamp)) / 2).toNat } ∧ t.eth.st = s.eth.st ∧
        RegsBut [Reg.PTP_OFS d, Reg.PTP_MPD d, Reg.PTP_GMID d 0, Reg.PTP_GMID d 1] s t ∧ Within [.regs, .eth] s t) ∧
  (∀ (s : State) (p dom seq asker dt : Nat) (corr residence : Int), s.held .siteLink = false → s.on Fd.PTP_STAT_SLEW = false → portUp s p = true → ptpMaster s = true →
    Answers (exec (.ptpDelayReqReceive p dom seq asker corr residence dt) s) fun t =>
      t.out = .ptp p (.delayResp dom seq asker (s.eth.st + dt - s.parN (Par.PHY_RXLAT p))) :: s.out ∧ RegsBut [Reg.PTP_ST 0, Reg.PTP_ST 1] s t ∧
        Within [.regs, .eth, .out] s t)

/-- R407, R415, R418, R419: steps and slews of the site time, the pulse and the event input, and the links of the ports. The model's readings and choices
behind it: log entries 127 to 129, 135, 136, 261. -/
def Obligations.SiteTimeAndLinks : Prop :=
  (∀ (s : State) (d p q : Nat), s.held .siteLink = false → s.eth.sel = some (d, q) → d ≠ s.parN Par.PTP_PREF → domPort s (s.parN Par.PTP_PREF) = some p →
    s.parB Par.PTP_REVERT = true → s.parN Par.PTP_PREF < 2 → (engine s (s.parN Par.PTP_PREF) p).off.natAbs ≤ s.parN Par.STEPMAX →
        Answers (exec .revertTimeout s) fun t =>
      t.get Fd.PTP_STAT_DOMSEL = s.parN Par.PTP_PREF ∧ t.get Fd.PTP_STAT_PORT = p ∧ t.on Fd.PTP_EVT_SWITCH = true ∧
        t.reg Reg.PTP_SLEWREM = Bits.ofInt 32 (engine s (s.parN Par.PTP_PREF) p).off ∧
        t.on Fd.PTP_STAT_SLEW = ((engine s (s.parN Par.PTP_PREF) p).off != 0) ∧ t.eth = { s.eth with sel := some (s.parN Par.PTP_PREF, p) } ∧
        RegsBut [Reg.PTP_STAT, Reg.PTP_EVT, Reg.PTP_SLEWREM, Reg.PTP_UTC] s t ∧ Within [.regs, .eth] s t) ∧
  (∀ (s : State) (d p q : Nat), s.held .siteLink = false → s.eth.sel = some (d, q) → d ≠ s.parN Par.PTP_PREF → domPort s (s.parN Par.PTP_PREF) = some p →
    s.parB Par.PTP_REVERT = true → s.parN Par.STEPMAX < (engine s (s.parN Par.PTP_PREF) p).off.natAbs → Answers (exec .revertTimeout s) fun t =>
      t.eth.st = s.eth.st + (engine s (s.parN Par.PTP_PREF) p).off ∧ t.reg Reg.PTP_SLEWREM = 0 ∧ t.on Fd.PTP_STAT_SLEW = false ∧
        t.on Fd.PTP_EVT_STEP = true ∧ t.on Fd.PTP_EVT_SWITCH = true ∧
        RegsBut ptpRegs s t ∧ Within [.regs, .q, .eth] s t) ∧
  (∀ (s : State), s.held .siteLink = false → s.on Fd.PTP_STAT_SLEW = true → Answers (exec .stSlewComplete s) fun t =>
      t.on Fd.PTP_STAT_SLEW = false ∧ t.reg Reg.PTP_SLEWREM = 0 ∧ t.eth.st = s.eth.st ∧
        t.eth.ports.map (·.off) = s.eth.ports.map (fun e => e.off - s.regI Reg.PTP_SLEWREM) ∧ RegsBut [Reg.PTP_STAT, Reg.PTP_SLEWREM] s t ∧
        Within [.regs, .eth] s t) ∧
  (∀ (s : State), s.held .siteLink = false → s.on Fd.PTP_STAT_LOCK = true → Answers (exec .ppsSecond s) fun t =>
      t.out = .pps :: s.out ∧ t.eth.st % 1000000000 = 0 ∧ s.eth.st < t.eth.st ∧ t.eth.st ≤ s.eth.st + 1000000000 ∧
        RegsBut [Reg.PTP_ST 0, Reg.PTP_ST 1, Reg.PTP_SLEWREM] s t ∧ Within [.regs, .eth, .out] s t) ∧
  (∀ (s : State), s.held .siteLink = false → s.on Fd.PTP_STAT_LOCK = false → Answers (exec .ppsSecond s) fun t => t.out = s.out ∧
        RegsBut ptpRegs s t ∧ Within [.regs, .eth, .out] s t) ∧
  (∀ (s : State) (dt : Nat), s.held .siteLink = false → Answers (exec (.evtInEdge dt) s) fun t =>
      t.regN (Reg.PTP_EVTTS 0) = Bits.ofInt 64 (s.eth.st + dt) % 2 ^ 32 ∧ t.regN (Reg.PTP_EVTTS 1) = Bits.ofInt 64 (s.eth.st + dt) / 2 ^ 32 ∧
        t.on Fd.PTP_EVT_EVTIN = true ∧
        RegsBut [Reg.PTP_ST 0, Reg.PTP_ST 1, Reg.PTP_SLEWREM, Reg.PTP_EVTTS 0, Reg.PTP_EVTTS 1, Reg.PTP_EVT] s t ∧ Within [.regs, .eth] s t) ∧
  (∀ (s : State) (p speed : Nat), s.held .siteLink = false → p < 2 → speed < 4 → s.parN Par.ETH_TOPO ≠ 0 → Answers (exec (.ethLinkUp p speed) s) fun t =>
      t.on (linkField p) = true ∧ t.get (speedField p) = speed ∧ t.on Fd.ETH_EVT_LINKUP = true ∧ RegsBut [Reg.ETH_STAT, Reg.ETH_EVT] s t ∧
        Within [.regs] s t) ∧
  (∀ (s : State), s.held .siteLink = false → s.parN Par.ETH_TOPO = 2 → s.q.length = 32 → Answers (exec (.ethLinkDown 0) s) fun t =>
      t.on (linkField 0) = false ∧ t.get (speedField 0) = 0 ∧ t.on Fd.ETH_EVT_LINKDOWN = true ∧
        (portQueues 0).all (fun q => queue t q == []) = true ∧
        RegsBut ([Reg.ETH_STAT, Reg.ETH_EVT, Reg.ETH_PCNT 4] ++ ptpRegs) s t ∧ Within [.regs, .q, .eth] s t) ∧
  (∀ (s : State) (p : Path) (w : Word), HostMay p 1 s → s.held .siteLink = false → s.parN Par.ETH_TOPO = 0 → telegramsUsed s = true →
    (s.get Fd.ETH_CTL_PEN &&& (3 - Bits.get w 0 2)) ≠ 0 → Answers (exec (.portEnableWrite p w) s) fun t =>
      t.out = .hostStatus p 0 :: s.out ∧ RegsBut (hostRegs p) s t ∧ Within [.regs, .out] s t) ∧
  (∀ (s : State) (p : Path) (w : Word), HostMay p 1 s → s.held .siteLink = false → s.parN Par.ETH_TOPO ≠ 0 →
    (s.get Fd.ETH_CTL_PEN &&& (3 - Bits.get w 0 2)) = 0 → Answers (exec (.portEnableWrite p w) s) fun t =>
      t.get Fd.ETH_CTL_PEN = Bits.get w 0 2 ∧ t.out = .hostStatus p 0 :: s.out ∧ RegsBut (Reg.ETH_CTL :: hostRegs p) s t ∧ Within [.regs, .out] s t)

/-- R428, R437, R442 to R451: the master of an Amene bus, its polls and what the slots bring, and the frames that every role receives. The model's
readings and choices behind it: log entries 142 to 144, 146, 148, 149, 154, 155, 261. -/
def Obligations.AmeneMaster : Prop :=
  (∀ (s : State) (joinDue : Bool) (ref : Nat), s.held .amene = false → ambRole s 2 = true → s.pfw = false → pollEntries joinDue s = [0] → queue s 24 = [] →
    queue s 25 = [] → Answers (exec (.pollSend joinDue ref) s) fun t =>
      t.amb.polled = [(0, 0)] ∧ t.amb.slots = [0] ∧ t.amb.failed = [] ∧ t.amb.cyc = (s.amb.cyc + 1) % 65536 ∧ t.amb.tm = zcTime ref s ∧
        t.get Fd.AMB_LAST_TZC = zcTime ref s ∧ t.regN (Reg.AMB_CNT 5) = min (s.regN (Reg.AMB_CNT 5) + 1) 0xFFFFFFFF ∧ t.on Fd.AMB_STAT_JOINED = true ∧
        (s.tok.deferred = [] →
        RegsBut [Reg.AMB_STAT, Reg.AMB_EVT, Reg.AMB_LAST, Reg.AMB_CNT 0, Reg.AMB_CNT 4, Reg.AMB_CNT 5, Reg.TOK_STAT, Reg.TOK_POWER, Reg.TOK_EVT, Reg.TOK_LAST,
          Reg.TOK_CNT 5] s t) ∧ Within [.regs, .tok, .q, .amb, .out] s t) ∧
  (∀ (s : State) (joinDue : Bool) (ref : Nat), s.held .amene = false → s.pfw = true → Answers (exec (.pollSend joinDue ref) s) fun t => t = s) ∧
  (∀ (s : State) (k n mode : Nat) (rx : AmbRx) (u : State) (g : AmbGot) (phase : AmbMsg), s.held .amene = false → ambRole s 2 = true → s.amb.slots.contains k = true →
    ambReceive rx s = (some g, u) → g.msgs = some [phase] → g.type = 2 → g.cyc = (u.amb.cyc + 65535) % 256 → u.amb.polled[k]? = some (n, mode) →
    0 < n → n < 256 → g.node = n → phase.mt = 2 → phaseClass (u.parN Par.AMB_MPHASE) u.amb.tm (msgNum phase 0 2) (linePeriod u) = none →
    Answers (exec (.respReceive k rx) s) fun t =>
      t.amb = { u.amb with slots := u.amb.slots.filter (· != k), miss := assocPut u.amb.miss n none } ∧ t.get (Fd.AMB_NODE_MISS n) = 0 ∧
        t.get (Fd.AMB_NODEX_AGE n) = 0 ∧ t.get (Fd.AMB_NODEX_TZC n) = msgNum phase 0 2 ∧
        t.get (Fd.AMB_NODE_MOD n) = modNext (u.get (Fd.AMB_NODE_MOD n)) (rx.snr.foldl (· + ·) 0) ∧
        RegsBut [Reg.AMB_NODE n, Reg.AMB_NODEX n] u t ∧ Within [.regs, .amb] u t) ∧
  (∀ (s : State) (k n mode c : Nat), s.held .amene = false → ambRole s 2 = true → s.amb.slots.contains k = true → s.amb.polled[k]? = some (n, mode) →
    0 < n → n < 256 → nodeSt s n = 1 → c = (assocGet s.amb.miss n).getD 0 + 1 → c < s.parN Par.AMB_MISS → c ≤ 15 → Answers (exec (.slotFail k) s) fun t =>
      t.amb = { s.amb with slots := s.amb.slots.filter (· != k), miss := assocPut s.amb.miss n (some c), failed := s.amb.failed ++ [n] } ∧
        t.get (Fd.AMB_NODE_MISS n) = c ∧ t.get (Fd.AMB_NODE_MOD n) = s.get (Fd.AMB_NODE_MOD n) - 1 ∧ nodeSt t n = 1 ∧
        RegsBut [Reg.AMB_NODE n] s t ∧ Within [.regs, .amb] s t) ∧
  (∀ (s : State) (k n mode : Nat), s.held .amene = false → ambRole s 2 = true → s.amb.slots.contains k = true → s.amb.polled[k]? = some (n, mode) →
    0 < n → n < 256 → nodeSt s n = 1 → s.parN Par.AMB_MISS ≤ (assocGet s.amb.miss n).getD 0 + 1 → Answers (exec (.slotFail k) s) fun t =>
      nodeSt t n = 2 ∧ t.on Fd.AMB_EVT_ABSENT = true ∧
        Within [.regs, .q, .grpSeq, .amb, .eth, .x11] s t) ∧
  (∀ (s : State) (n : Nat), s.held .amene = false → ambRole s 2 = true → 0 < n → n < 256 → nodeSt s n = 1 → s.on (Fd.AMB_NODE_BUSY n) = true →
    Answers (exec (.busyNodeSlow n) s) fun t => t.on Fd.AMB_EVT_SLOW = true ∧ RegsBut [Reg.AMB_EVT] s t ∧ Within [.regs] s t) ∧
  (∀ (s : State) (rx : AmbRx), s.held .amene = false → s.on Fd.AMB_STAT_READY = true → rx.hdr % 256 ≠ AmeneCode.hcrc rx.hdr →
    Answers (exec (.ameneFrameReceive rx) s) fun t =>
      t.regN (Reg.AMB_CNT 3) = min (s.regN (Reg.AMB_CNT 3) + 1) 0xFFFFFFFF ∧ t.on Fd.AMB_EVT_RXFAIL = true ∧ RegsBut [Reg.AMB_CNT 3, Reg.AMB_EVT] s t ∧
        Within [.regs] s t) ∧
  (∀ (s : State) (rx : AmbRx) (u : State) (g : AmbGot) (m : AmbMsg), s.held .amene = false → ambReceive rx s = (some g, u) → g.type = 3 → g.msgs = some [m] →
    m.mt = 6 → msgNum m 0 2 = ownGrp u → msgNum m 4 1 % 2 = 0 → (queue u 27).length < 8 → u.q.length = 32 → Answers (exec (.ameneFrameReceive rx) s) fun t =>
      queue t 27 = queue u 27 ++ [.plain m.body] ∧ RegsBut [] u t ∧ Within [.q] u t) ∧
  (∀ (s : State) (time : Nat), s.held .amene = false → s.amb.zc = none → Answers (exec (.zcEdge time) s) fun t =>
      t.amb = { s.amb with zc := some (time - s.parN Par.ZC_DLY) } ∧ RegsBut [] s t ∧ Within [.amb] s t) ∧
  (∀ (s : State) (time last : Nat), s.held .amene = false → s.amb.zc = some last → 4 * linePeriod s ≤ 5 * (time - s.parN Par.ZC_DLY - last) →
    Answers (exec (.zcEdge time) s) fun t =>
      t.amb = { s.amb with zc := some (time - s.parN Par.ZC_DLY) } ∧ t.get Fd.AMB_LAST_PERIOD = min (time - s.parN Par.ZC_DLY - last) 65535 ∧
        RegsBut [Reg.AMB_LAST] s t ∧ Within [.regs, .amb] s t) ∧
  (∀ (s : State) (time last : Nat), s.held .amene = false → s.amb.zc = some last → 5 * (time - s.parN Par.ZC_DLY - last) < 4 * linePeriod s →
    Answers (exec (.zcEdge time) s) fun t => t = s)

/-- R443 to R448, R458: a slave of an Amene bus: the polls it obeys, its slots, and how it joins and loses its master. The model's readings and choices
behind it: log entries 142, 143, 145, 147, 261. -/
def Obligations.AmeneSlave : Prop :=
  (∀ (s : State) (rx : AmbRx) (u : State) (g : AmbGot), s.held .amene = false → ambReceive rx s = (some g, u) → g.type = 1 →
    Answers (exec (.pollReceive rx true) s) fun t =>
      t.on Fd.AMB_EVT_SEGCONF = true ∧ RegsBut [Reg.AMB_EVT] u t ∧ Within [.regs] u t) ∧
  (∀ (s : State) (rx : AmbRx) (u : State) (g : AmbGot) (p : AmbMsg), s.held .amene = false → ambReceive rx s = (some g, u) → g.type = 1 → ambRole u 1 = true →
    g.msgs = some [p] → p.mt = 1 → msgNum p 3 1 = 1 → msgNum p 4 1 ≠ u.parN Par.AMB_NODE → Answers (exec (.pollReceive rx false) s) fun t =>
      t.amb = { u.amb with entries := [(msgNum p 4 1, msgNum p 5 1)], rlen := msgNum p 2 1, rcyc := msgNum p 0 2 } ∧
        t.get Fd.AMB_LAST_TZC = zcTime rx.ref u ∧ RegsBut [Reg.AMB_LAST] u t ∧ Within [.regs, .amb] u t) ∧
  (∀ (s : State) (k mode : Nat), s.held .amene = false → ambRole s 1 = true → s.pfw = false → s.on Fd.AMB_STAT_JOINED = true → s.parN Par.AMB_NODE ≠ 0 →
    s.amb.entries[k]? = some (s.parN Par.AMB_NODE, mode) → s.amb.out = [] → queue s 24 = [] → queue s 25 = [] → s.amb.rlen ≤ 200 → tokHolds s 5 0 = true →
    Answers (exec (.respSlotStart k) s) fun t =>
      t.out.length = s.out.length + 1 ∧ t.amb = s.amb ∧ t.on Fd.AMB_STAT_BUSY = ownBusy s ∧
        t.regN (Reg.AMB_CNT 0) = min (s.regN (Reg.AMB_CNT 0) + 1) 0xFFFFFFFF ∧ t.regN (Reg.AMB_CNT 5) = min (s.regN (Reg.AMB_CNT 5) + 1) 0xFFFFFFFF ∧
        (s.tok.deferred = [] → RegsBut [Reg.AMB_STAT, Reg.AMB_CNT 0, Reg.AMB_CNT 5, Reg.TOK_STAT, Reg.TOK_POWER] s t) ∧
        Within [.regs, .tok, .q, .amb, .out, .free] s t) ∧
  (∀ (s : State) (k : Nat), s.held .amene = false → s.amb.entries[k]? = none → Answers (exec (.respSlotStart k) s) fun t => t = s) ∧
  (∀ (s : State) (via : SiteVia) (m : AmbMsg), s.held .amene = false → s.x11 = [⟨via, m⟩] → m.mt = 5 → msgNum m 0 2 = ownGrp s →
    msgNum m 2 1 = s.parN Par.AMB_NODE → msgNum m 3 1 = 0 → ambRole s 1 = true → s.amb.entries = [] → Answers (exec .joinackReceive s) fun t =>
      t.amb = { s.amb with accepted := true } ∧ t.x11 = [] ∧ RegsBut [] s t ∧ Within [.amb, .x11] s t) ∧
  (∀ (s : State) (via : SiteVia) (m : AmbMsg), s.held .amene = false → s.x11 = [⟨via, m⟩] → m.mt = 5 → msgNum m 0 2 = ownGrp s →
    msgNum m 2 1 = s.parN Par.AMB_NODE → msgNum m 3 1 = 1 → ambRole s 1 = true → Answers (exec .joinackReceive s) fun t =>
      t.amb = { s.amb with backoff := true } ∧ t.on Fd.AMB_EVT_ADDRCONF = true ∧ t.x11 = [] ∧ RegsBut [Reg.AMB_EVT] s t ∧
        Within [.regs, .amb, .x11] s t) ∧
  (∀ (s : State), s.held .amene = false → Answers (exec .joinConflictRetry s) fun t =>
      t.amb = { s.amb with backoff := false } ∧ RegsBut [] s t ∧ Within [.amb] s t) ∧
  (∀ (s : State), s.held .amene = false → ambRole s 1 = true → s.on Fd.AMB_STAT_JOINED = true → Answers (exec .slaveLost s) fun t =>
      t.on Fd.AMB_STAT_JOINED = false ∧ t.on Fd.AMB_EVT_LOST = true ∧ t.amb = { s.amb with tried := false, accepted := false, entries := [] } ∧
        RegsBut [Reg.AMB_STAT, Reg.AMB_EVT] s t ∧ Within [.regs, .amb] s t)

/-- R451 to R456: the module that shares the site's power: its grants, what a REQ, a REL and the passing of time do to a post, parameters set from the
site, and bridged messages. The model's readings and choices behind it: log entries 149, 150, 153, 201, 261. -/
def Obligations.PowerSharing : Prop :=
  (∀ (s : State), sharing s = false → Answers (exec .powerShareRun s) fun t => t = s) ∧
  (∀ (s : State) (q : SharePost), sharing s = true → s.x11 = [] → s.posts = [q] → 0 < q.p → q.p.natAbs ≤ s.parN Par.SITE_FLOOR → q.age + 1 < 10 →
    q.grants = [] → q.via = .own → Answers (exec .powerShareRun s) fun t =>
      t.posts = [{ q with age := q.age + 1, gnum := (q.gnum + 1) % 65536, grants := [((q.gnum + 1) % 65536, q.p)], grantAge := 0 }] ∧
        t.x11 = [⟨.own, ⟨0x11, Bits.leBytes 2 q.post ++ Bits.leBytes 2 ((q.gnum + 1) % 65536) ++ Bits.leBytes 4 (Bits.ofInt 32 q.p)⟩⟩] ∧
        t.reg (Reg.AMB_SITE 0) = BitVec.ofNat 32 q.p.natAbs ∧ t.reg (Reg.AMB_SITE 1) = 0 ∧ t.regN (Reg.AMB_SITE 2) = 1 ∧
        t.regN (Reg.AMB_SITE 3) = min (s.regN (Reg.AMB_SITE 3) + 1) 0xFFFFFFFF ∧
        RegsBut [Reg.AMB_SITE 0, Reg.AMB_SITE 1, Reg.AMB_SITE 2, Reg.AMB_SITE 3] s t ∧ Within [.regs, .x11, .posts] s t) ∧
  (∀ (s u : State) (m : SiteMsg), siteMessage 0x10 s = (some m, u) → sharing u = true → u.x11 = [] → u.posts = [] → m.msg.body.length = 12 →
    Answers (exec .shareReqReceive s) fun t =>
      t.posts.map (fun q => (q.post, q.rnum, q.p, q.age)) = [(msgNum m.msg 0 2 % 4096, msgNum m.msg 2 2, Bits.signed 32 (msgNum m.msg 4 4), 0)] ∧
        t.postOrder = u.postOrder + 1 ∧
        Within [.regs, .q, .grpSeq, .amb, .eth, .x11, .posts, .postOrder] s t) ∧
  (∀ (s u : State) (m : SiteMsg), siteMessage 0x10 s = (some m, u) → sharing u = false → Answers (exec .shareReqReceive s) fun t => t = u) ∧
  (∀ (s u : State) (m : SiteMsg) (q : SharePost), siteMessage 0x12 s = (some m, u) → sharing u = true → u.posts = [q] → msgNum m.msg 0 2 % 4096 = q.post →
    Answers (exec .shareRelReceive s) fun t =>
      t.posts = [{ q with p := 0, grants := [] }] ∧ t.reg (Reg.AMB_SITE 0) = 0 ∧ t.reg (Reg.AMB_SITE 1) = 0 ∧ t.reg (Reg.AMB_SITE 2) = 0 ∧
        RegsBut [Reg.AMB_SITE 0, Reg.AMB_SITE 1, Reg.AMB_SITE 2] u t ∧ Within [.regs, .posts] u t) ∧
  (∀ (s : State) (q : SharePost), s.posts = [q] → postLive q = false → Answers (exec (.heldPowerExpiry q.post) s) fun t =>
      t.posts = [{ q with p := 0, grants := [] }] ∧ RegsBut [] s t ∧ Within [.posts] s t) ∧
  (∀ (s : State) (q : SharePost), s.posts = [q] → postLive q = true → Answers (exec (.heldPowerExpiry q.post) s) fun t => t = s) ∧
  (∀ (s u : State) (m : SiteMsg), siteMessage 0x13 s = (some m, u) → msgNum m.msg 0 2 ≠ ownGrp u → Answers (exec .setparReceive s) fun t => t = u) ∧
  (∀ (s u w : State) (m : SiteMsg), siteMessage 0x13 s = (some m, u) → msgNum m.msg 0 2 = ownGrp u → m.via = .own → sharing u = true →
    1 ≤ msgNum m.msg 5 1 → msgNum m.msg 5 1 ≤ 8 → m.msg.body.length = 6 + msgNum m.msg 5 1 →
    paramWrite true 2 (msgNum m.msg 2 1 * 1000 + msgNum m.msg 3 2) (msgNum m.msg 5 1) (msgNum m.msg 6 (msgNum m.msg 5 1)) u = (0, w) →
    Answers (exec .setparReceive s) fun t => t = w) ∧
  (∀ (s u : State) (m : SiteMsg), siteMessage 0x13 s = (some m, u) → msgNum m.msg 0 2 = ownGrp u → m.via = .own → sharing u = false →
    Answers (exec .setparReceive s) fun t =>
      t.regN (Reg.AMB_CNT 6) = min (u.regN (Reg.AMB_CNT 6) + 1) 0xFFFFFFFF ∧ RegsBut [Reg.AMB_CNT 6] u t ∧ Within [.regs] u t) ∧
  (∀ (s u : State) (f : List Byte) (m : AmbMsg), groupTake 3 (fun _ => true) s = (some f, u) → (msgsOf 1 (groupPayload f)).head? = some m → m.mt = 0x11 →
    msgNum m 0 2 = ownGrp u → Answers (exec .bridgedMessageReceive s) fun t =>
      t.x11 = u.x11 ++ [⟨.group 3 (groupNum f 2 2 % 4096), m⟩] ∧ RegsBut [] u t ∧ Within [.x11] u t)

/-- R461 to R466, R471, R472, R474, R476: associations opened and ended, and what a client may read. The model's readings and choices behind it: log
entries 115, 158 to 160, 162, 166, 167, 261. -/
def Obligations.DlmsAssociations : Prop :=
  (∀ (s : State) (a : Nat) (theirs : List Byte), s.parB Par.DLM_PUBLIC = true → s.dlm.assocs = [] → s.dlm.stage = none → 0 < s.parN Par.DLM_MAXASSOC →
    Answers (exec (.dlmsAarq a 0x10 theirs) s) fun t =>
      t.dlm = { s.dlm with assocs := [⟨a, 0, false, [], theirs, none⟩] } ∧ t.out = .dlms a (.accepted []) :: s.out ∧ t.get Fd.DLM_STAT_OPEN = 1 ∧
        t.regN (Reg.DLM_CNT 0) = min (s.regN (Reg.DLM_CNT 0) + 1) 0xFFFFFFFF ∧ RegsBut [Reg.DLM_CNT 0, Reg.DLM_STAT] s t ∧ Within [.regs, .dlm, .out] s t) ∧
  (∀ (s : State) (a : Nat) (theirs : List Byte), dlmKeys s 1 = true → s.dlm.assocs = [] → s.dlm.stage = none → 0 < s.parN Par.DLM_MAXASSOC →
    s.regN (Reg.DLM_ICNT 1) ≠ 0xFFFFFFFF → s.regN Reg.DLM_TXIC + 1 < 0xFFFFFFFF → Answers (exec (.dlmsAarq a 0x30 theirs) s) fun t =>
      t.dlm.assocs.map (fun x => (x.id, x.client, x.waits, x.theirs, x.challenge.length)) = [(a, 2, true, theirs, 32)] ∧
        t.regN Reg.DLM_TXIC = s.regN Reg.DLM_TXIC + 1 ∧ t.free = s.free + 8 ∧ RegsBut [Reg.DLM_CNT 0, Reg.DLM_STAT, Reg.DLM_TXIC] s t ∧
        Within [.regs, .dlm, .out, .free] s t) ∧
  (∀ (s : State) (a wPort : Nat) (theirs : List Byte), dlmClient wPort = none → Answers (exec (.dlmsAarq a wPort theirs) s) fun t =>
      t.out = .dlms a .refused :: s.out ∧ t.regN (Reg.DLM_CNT 1) = min (s.regN (Reg.DLM_CNT 1) + 1) 0xFFFFFFFF ∧ RegsBut [Reg.DLM_CNT 1] s t ∧
        Within [.regs, .out] s t) ∧
  (∀ (s : State) (r : DlmReq) (x : DlmAssoc) (sig : List Byte) (ok : Bool), s.dlm.assocs = [x] → s.dlm.stage = none → x.id = r.assoc →
    1 ≤ x.client → x.client ≤ 3 → x.waits = true → dlmKeys s (x.client - 1) = true → r.tag = true → s.regN (Reg.DLM_ICNT (x.client - 1)) < r.ic →
    r.ic < 0xFFFFFFFF → s.regN Reg.DLM_TXIC + 1 < 0xFFFFFFFF →
    Config.verifies (publicKey s (s.parN (Par.CLI_PUB (x.client - 1)))) x.challenge sig = ok → Answers (exec (.hlsPass3 r sig) s) fun t =>
      t.dlm.assocs = (if ok then [{ x with waits := false }] else []) ∧ t.on Fd.DLM_EVT_AUTHFAIL = (!ok || s.on Fd.DLM_EVT_AUTHFAIL) ∧
        t.regN (Reg.DLM_ICNT (x.client - 1)) = r.ic ∧
        Within [.regs, .grt, .dlm, .out] s t) ∧
  (∀ (s : State) (x : DlmAssoc), s.dlm.assocs = [x] → x.waits = true → s.dlm.stage = none → Answers (exec (.hlsTimeout x.id) s) fun t =>
      t.dlm = { s.dlm with assocs := [] } ∧ t.get Fd.DLM_STAT_OPEN = 0 ∧ RegsBut [Reg.DLM_STAT] s t ∧ Within [.regs, .dlm] s t) ∧
  (∀ (s : State) (x : DlmAssoc), s.dlm.assocs = [x] → x.waits = false → Answers (exec (.hlsTimeout x.id) s) fun t => t = s) ∧
  (∀ (s : State) (x : DlmAssoc), s.dlm.assocs = [x] → s.dlm.stage = none → Answers (exec (.associationIdleTimeout x.id) s) fun t =>
      t.dlm = { s.dlm with assocs := [] } ∧ t.get Fd.DLM_STAT_OPEN = 0 ∧ RegsBut [Reg.DLM_STAT] s t ∧ Within [.regs, .dlm] s t) ∧
  (∀ (s : State) (x : DlmAssoc) (y : Tariff), s.dlm.assocs = [x] → s.dlm.stage = some (x.id, y) → Answers (exec (.associationRelease x.id) s) fun t =>
      t.dlm = ⟨[], none⟩ ∧ t.get Fd.DLM_STAT_OPEN = 0 ∧ t.get Fd.DLM_STAT_STAGE = 0 ∧ t.on Fd.DLM_EVT_STAGEDROP = true ∧
        RegsBut [Reg.DLM_STAT, Reg.DLM_EVT] s t ∧ Within [.regs, .dlm] s t) ∧
  (∀ (s : State) (st : Nat × Tariff), s.dlm.stage = some st → Answers (exec .stagingTimeout s) fun t =>
      t.dlm = { s.dlm with stage := none } ∧ t.on Fd.DLM_EVT_STAGEDROP = true ∧ t.get Fd.DLM_STAT_STAGE = 0 ∧ RegsBut [Reg.DLM_STAT, Reg.DLM_EVT] s t ∧
        Within [.regs, .dlm] s t) ∧
  (∀ (s : State), s.dlm.stage = none → Answers (exec .stagingTimeout s) fun t => t = s) ∧
  (∀ (s : State) (r : DlmReq) (x : DlmAssoc), s.dlm.assocs = [x] → x.id = r.assoc → x.client = 0 → x.waits = false →
    Answers (exec (.dlmsGet r (.read [⟨3, [1, 0, 1, 8, 0, 255], 2, none⟩, ⟨9, [0, 0, 42, 0, 0, 255], 2, none⟩])) s) fun t =>
      t.out = .dlms x.id (.data [⟨.denied, []⟩, ⟨.undefinedObject, []⟩]) :: s.out ∧ t.regN (Reg.DLM_CNT 4) = min (s.regN (Reg.DLM_CNT 4) + 1) 0xFFFFFFFF ∧
        RegsBut [Reg.DLM_CNT 4] s t ∧ Within [.regs, .dlm, .free, .out] s t) ∧
  (∀ (s : State) (r : DlmReq) (x : DlmAssoc), DlmMay r x s → Answers (exec (.dlmsGet r (.read [⟨70, [0, 0, 96, 3, 10, 255], 3, none⟩])) s) fun t =>
      t.out = .dlms x.id (.data [⟨.success, [[.num (s.get Fd.BIL_DISC_STATE)]]⟩]) :: s.out ∧ t.regN (Reg.DLM_ICNT (x.client - 1)) = r.ic ∧
        t.regN Reg.DLM_TXIC = s.regN Reg.DLM_TXIC + 1 ∧ RegsBut [Reg.DLM_ICNT (x.client - 1), Reg.DLM_TXIC, Reg.DLM_CNT 4] s t ∧
        Within [.regs, .dlm, .free, .out] s t) ∧
  (∀ (s : State) (r : DlmReq) (x : DlmAssoc) (ask : DlmAsk), s.dlm.assocs = [x] → x.id = r.assoc → 1 ≤ x.client → dlmKeys s (x.client - 1) = true → r.tag = true →
    r.ic ≤ s.regN (Reg.DLM_ICNT (x.client - 1)) → Answers (exec (.dlmsGet r ask) s) fun t =>
      t.regN (Reg.DLM_CNT 3) = min (s.regN (Reg.DLM_CNT 3) + 1) 0xFFFFFFFF ∧ t.on Fd.DLM_EVT_REPLAY = true ∧ RegsBut [Reg.DLM_CNT 3, Reg.DLM_EVT] s t ∧
        Within [.regs] s t) ∧
  (∀ (s : State) (r : DlmReq) (x : DlmAssoc) (ask : DlmAsk), s.dlm.assocs = [x] → s.dlm.stage = none → x.id = r.assoc → 1 ≤ x.client → r.tag = false →
    Answers (exec (.dlmsGet r ask) s) fun t =>
      t.dlm.assocs = [] ∧ t.on Fd.DLM_EVT_AUTHFAIL = true ∧ t.regN (Reg.DLM_CNT 2) = min (s.regN (Reg.DLM_CNT 2) + 1) 0xFFFFFFFF ∧
        RegsBut [Reg.DLM_CNT 2, Reg.DLM_EVT, Reg.DLM_STAT] s t ∧ Within [.regs, .dlm] s t)

/-- R467 to R475: what the requests of an Operator or Owner set, and that a Reader's are denied. The model's readings and choices behind it: log entries
40, 56, 105, 114, 158 to 161, 163, 164, 261, 262. -/
def Obligations.DlmsRequests : Prop :=
  (∀ (s : State) (r : DlmReq) (x : DlmAssoc) (newMs frac : Nat), DlmMay r x s → x.client = 1 → Answers (exec (.dlmsClockSet r newMs frac) s) fun t =>
      DlmDone r x .denied s t ∧ RegsBut (dlmRegs x) s t ∧ Within [.regs, .out] s t) ∧
  (∀ (s : State) (r : DlmReq) (x : DlmAssoc) (newMs frac : Nat), DlmMay r x s → 2 ≤ x.client → s.pfw = false → s.on Fd.BTM_STAT_VALID = true →
    ((newMs : Int) - (s.regN Reg.BTM_TIME * 1000 + frac : Nat)).natAbs ≤ s.parN Par.ADJ_LIM * 1000 → Answers (exec (.dlmsClockSet r newMs frac) s) fun t =>
      DlmDone r x .success s t ∧ t.btm = { s.btm with slew := ((newMs : Int) - (s.regN Reg.BTM_TIME * 1000 + frac : Nat)) * 5 } ∧ t.on Fd.BTM_STAT_SLEW = true ∧
        RegsBut ([Reg.BTM_SLEWREM, Reg.BTM_STAT] ++ dlmRegs x) s t ∧ Within [.regs, .btm, .logs, .out] s t) ∧
  (∀ (s : State) (r : DlmReq) (x : DlmAssoc) (newMs frac : Nat), DlmMay r x s → x.client = 2 → s.pfw = false → s.on Fd.BTM_STAT_VALID = true →
    s.parN Par.ADJ_LIM * 1000 < ((newMs : Int) - (s.regN Reg.BTM_TIME * 1000 + frac : Nat)).natAbs → newMs / 1000 < s.regN Reg.BTM_TIME + 1 →
    newMs / 1000 + s.parN Par.BACK_MAX < s.regN Reg.BTM_HWS → Answers (exec (.dlmsClockSet r newMs frac) s) fun t =>
      DlmDone r x .denied s t ∧ t.btm = s.btm ∧ t.on Fd.BTM_EVT_REFUSED = true ∧ RegsBut (Reg.BTM_EVT :: dlmRegs x) s t ∧ Within [.regs, .logs, .out] s t) ∧
  (∀ (s : State) (r : DlmReq) (x : DlmAssoc) (seconds : Int), DlmMay r x s → 2 ≤ x.client → s.pfw = false → s.on Fd.BTM_STAT_VALID = true →
    (seconds * 1000).natAbs ≤ s.parN Par.ADJ_LIM * 1000 → Answers (exec (.dlmsShiftTime r seconds) s) fun t =>
      DlmDone r x .success s t ∧ t.btm = { s.btm with slew := seconds * 1000 * 5 } ∧ t.on Fd.BTM_STAT_SLEW = true ∧
        RegsBut ([Reg.BTM_SLEWREM, Reg.BTM_STAT] ++ dlmRegs x) s t ∧ Within [.regs, .btm, .logs, .out] s t) ∧
  (∀ (s : State) (r : DlmReq) (x : DlmAssoc), DlmMay r x s → 2 ≤ x.client → Answers (exec (.dlmsBillingEndCommand r true) s) fun t =>
      DlmDone r x .success s t ∧ t.bil = { s.bil with endNow := true } ∧ RegsBut (dlmRegs x) s t ∧ Within [.regs, .bil, .out] s t) ∧
  (∀ (s : State) (r : DlmReq) (x : DlmAssoc) (amount : Int) (number : Nat), DlmMay r x s → 2 ≤ x.client → s.regN Reg.BIL_TOPUP < number → number < 2 ^ 32 →
    Answers (exec (.dlmsCreditTransfer r amount number) s) fun t =>
      DlmDone r x .success s t ∧ t.bil = { s.bil with transfers := s.bil.transfers ++ [(amount, number, 1)] } ∧ t.regN Reg.BIL_TOPUP = number ∧
        RegsBut (Reg.BIL_TOPUP :: dlmRegs x) s t ∧ Within [.regs, .bil, .out] s t) ∧
  (∀ (s : State) (r : DlmReq) (x : DlmAssoc) (amount : Int) (number : Nat), DlmMay r x s → 2 ≤ x.client → number ≤ s.regN Reg.BIL_TOPUP →
    Answers (exec (.dlmsCreditTransfer r amount number) s) fun t =>
      DlmDone r x .otherReason s t ∧ t.on Fd.BIL_EVT_TOPREJ = true ∧ RegsBut (Reg.BIL_EVT :: dlmRegs x) s t ∧ Within [.regs, .logs, .out] s t) ∧
  (∀ (s : State) (r : DlmReq) (x : DlmAssoc) (l : List (Nat × List Nat)), DlmMay r x s → 2 ≤ x.client → s.dlm.stage = none → s.bil.active = none →
    calOk (.weeks l) = true → Answers (exec (.dlmsCalendarWrite r (.weeks l)) s) fun t =>
      DlmDone r x .success s t ∧ t.dlm = { s.dlm with stage := some (x.id, calPut tariffBlank (.weeks l)) } ∧ t.get Fd.DLM_STAT_STAGE = x.client ∧
        RegsBut (Reg.DLM_STAT :: dlmRegs x) s t ∧ Within [.regs, .dlm, .out] s t) ∧
  (∀ (s : State) (r : DlmReq) (x : DlmAssoc) (part : CalPart) (a : Nat) (y : Tariff), DlmMay r x s → 2 ≤ x.client → s.dlm.stage = some (a, y) → a ≠ x.id →
    Answers (exec (.dlmsCalendarWrite r part) s) fun t => DlmDone r x .temporary s t ∧ RegsBut (dlmRegs x) s t ∧ Within [.regs, .out] s t) ∧
  (∀ (s : State) (r : DlmReq) (x : DlmAssoc) (y : Tariff), DlmMay r x s → 2 ≤ x.client → s.dlm.stage = some (x.id, y) →
    tariffOk { y with activation := 0 } = false → Answers (exec (.activatePassiveCalendar r) s) fun t =>
      DlmDone r x .otherReason s t ∧ t.dlm = s.dlm ∧ t.on Fd.BIL_EVT_TTREJ = true ∧ RegsBut (Reg.BIL_EVT :: dlmRegs x) s t ∧ Within [.regs, .logs, .out] s t) ∧
  (∀ (s : State) (r : DlmReq) (x : DlmAssoc) (y : Tariff), DlmMay r x s → 2 ≤ x.client → s.dlm.stage = some (x.id, y) →
    tariffOk { y with activation := 0 } = true → Answers (exec (.activatePassiveCalendar r) s) fun t =>
      DlmDone r x .success s t ∧ t.dlm = { s.dlm with stage := none } ∧ t.bil.active = some { y with activation := 0 } ∧ t.get Fd.DLM_STAT_STAGE = 0 ∧
        Within [.regs, .bil, .logs, .dlm, .out] s t) ∧
  (∀ (s : State) (r : DlmReq) (x : DlmAssoc) (y : Tariff) (i year month day profile : Nat), DlmMay r x s → 2 ≤ x.client → s.dlm.stage = some (x.id, y) → i < 128 →
    Answers (exec (.specialDayInsert r i year month day profile) s) fun t =>
      DlmDone r x .success s t ∧ t.dlm = { s.dlm with stage := some (x.id, { y with specials := setNth y.specials i ⟨1, year, month, day, profile⟩ }) } ∧
        RegsBut (Reg.DLM_STAT :: dlmRegs x) s t ∧ Within [.regs, .dlm, .out] s t) ∧
  (∀ (s : State) (r : DlmReq) (x : DlmAssoc) (y : Tariff) (i : Nat), DlmMay r x s → 2 ≤ x.client → s.dlm.stage = some (x.id, y) → i < 128 → y.specials.length = 128 →
    Answers (exec (.specialDayDelete r i) s) fun t =>
      DlmDone r x .success s t ∧ (match t.dlm.stage with | some (a, z) => a == x.id && (nth z.specials i ⟨1, 0, 0, 0, 0⟩).valid == 0 | none => false) = true ∧
        RegsBut (Reg.DLM_STAT :: dlmRegs x) s t ∧ Within [.regs, .dlm, .out] s t) ∧
  (∀ (s : State) (r : DlmReq) (x : DlmAssoc), DlmMay r x s → 2 ≤ x.client → s.get Fd.SES_STAT_STATE < 4 → s.get Fd.BIL_DISC_STATE = 1 → contactorOn s = true →
    Answers (exec (.remoteDisconnect r) s) fun t =>
      DlmDone r x .success s t ∧ t.get Fd.BIL_DISC_REQ = s.get Fd.BIL_DISC_REQ ||| 2 ∧ t.get Fd.BIL_DISC_STATE = 0 ∧ t.btm = { s.btm with relayPend := false } ∧
        RegsBut (Reg.BIL_DISC :: dlmRegs x) s t ∧ Within [.regs, .btm, .logs, .out] s t) ∧
  (∀ (s : State) (r : DlmReq) (x : DlmAssoc), DlmMay r x s → 2 ≤ x.client → s.get Fd.BIL_DISC_STATE = 0 → s.get Fd.BIL_DISC_REQ = 2 → s.parN Par.DISC_MODE ≠ 1 →
    Answers (exec (.remoteReconnect r) s) fun t =>
      DlmDone r x .success s t ∧ t.get Fd.BIL_DISC_REQ = 0 ∧ t.get Fd.BIL_DISC_STATE = 2 ∧ RegsBut (Reg.BIL_DISC :: dlmRegs x) s t ∧
        Within [.regs, .logs, .out] s t)

/-- R479 to R486: the card reader, its layer 4, and the local list. The model's readings and choices behind it: log entries 169, 179, 261. -/
def Obligations.CardReader : Prop :=
  (∀ (s : State), s.held .service = false → readerOn s = true → s.parB Par.TAG_EN = false → Answers (exec (.readerPoll true []) s) fun t =>
      t.on Fd.NFC_EVT_EXTFIELD = true ∧ RegsBut [Reg.NFC_EVT] s t ∧ Within [.regs] s t) ∧
  (∀ (s : State) (a b : List Byte × Nat), s.held .service = false → readerOn s = true → Answers (exec (.readerPoll false [a, b]) s) fun t =>
      t.on Fd.NFC_EVT_MULTI = true ∧ t.nfc = { s.nfc with recent := ([a.1, b.1] :: s.nfc.recent).take 3 } ∧ t.on Fd.NFC_STAT_TAG = false ∧
        RegsBut [Reg.NFC_EVT, Reg.NFC_STAT] s t ∧ Within [.regs, .nfc] s t) ∧
  (∀ (s : State) (uid : List Byte) (sak : Nat), s.held .service = false → readerOn s = true → uidRandom uid = true → s.nfc.recent = [] →
    Answers (exec (.readerPoll false [(uid, sak)]) s) fun t =>
      t.on Fd.NFC_EVT_CARD = true ∧ t.on Fd.NFC_LAST_RAND = true ∧ t.on Fd.NFC_LAST_LISTED = false ∧ t.get Fd.NFC_LAST_LEN = 4 ∧
        t.get Fd.NFC_LAST_SAK = sak % 256 ∧ t.regN (Reg.NFC_LASTUID 0) = Bits.ofLeBytes uid ∧ t.ses = s.ses ∧
        ((queue s 28).length < 8 → RegsBut ([Reg.NFC_EVT, Reg.NFC_STAT, Reg.NFC_LAST] ++ (List.range 3).map (fun w => Reg.NFC_LASTUID w)) s t) ∧
        Within [.regs, .tok, .bil, .btm, .logs, .saf, .x04, .x06, .q, .grpSeq, .ses, .nfc, .amb, .eth, .x11, .out] s t) ∧
  (∀ (s : State) (uid : List Byte) (sak : Nat), s.held .service = false → readerOn s = true → uidRandom uid = false → s.nfc.recent = [] → sesSt s = 0 →
    Answers (exec (.readerPoll false [(uid, sak)]) s) fun t =>
      t.on Fd.NFC_EVT_CARD = true ∧ t.on Fd.NFC_LAST_RAND = false ∧ t.on Fd.NFC_LAST_LISTED = s.nfc.list.contains uid ∧
        t.ses = { s.ses with held := some (uid, s.nfc.list.contains uid) } ∧
        ((queue s 28).length < 8 → RegsBut ([Reg.NFC_EVT, Reg.NFC_STAT, Reg.NFC_LAST] ++ (List.range 3).map (fun w => Reg.NFC_LASTUID w)) s t) ∧
        Within [.regs, .tok, .bil, .btm, .logs, .saf, .x04, .x06, .q, .grpSeq, .ses, .nfc, .amb, .eth, .x11, .out] s t) ∧
  (∀ (s : State) (uid : List Byte) (sak : Nat), s.held .service = false → readerOn s = true → s.nfc.recent.any (fun l => l.contains uid) = true →
    Answers (exec (.readerPoll false [(uid, sak)]) s) fun t =>
      t.nfc = { s.nfc with recent := ([uid] :: s.nfc.recent).take 3 } ∧ RegsBut [Reg.NFC_STAT] s t ∧ Within [.regs, .nfc] s t) ∧
  (∀ (s : State), s.held .service = false → Answers (exec .layer4IdleTimeout s) fun t =>
      t.nfc = { s.nfc with card := none } ∧ t.on Fd.NFC_STAT_L4 = false ∧ RegsBut [Reg.NFC_STAT] s t ∧ Within [.regs, .nfc] s t) ∧
  (∀ (s : State) (p : Path) (len : Nat), HostMay p 1 s → s.held .service = false → s.nfc.list.contains (listUid s len) = false → s.nfc.list.length < 4096 →
    Answers (exec (.listAdd p len) s) fun t =>
      t.nfc = { s.nfc with list := s.nfc.list ++ [listUid s len] } ∧ t.regN Reg.NFC_LISTCNT = s.nfc.list.length + 1 ∧
        t.out = .hostStatus p 0 :: s.out ∧ RegsBut (Reg.NFC_LISTCNT :: hostRegs p) s t ∧ Within [.regs, .nfc, .out] s t) ∧
  (∀ (s : State) (p : Path) (len : Nat), HostMay p 1 s → s.held .service = false → s.nfc.list.contains (listUid s len) = true →
    Answers (exec (.listAdd p len) s) fun t =>
      t.on Fd.NFC_EVT_LISTERR = true ∧ t.out = .hostStatus p 0 :: s.out ∧ RegsBut (Reg.NFC_EVT :: hostRegs p) s t ∧ Within [.regs, .out] s t) ∧
  (∀ (s : State) (p : Path) (len : Nat), HostMay p 1 s → s.held .service = false → Answers (exec (.listRemove p len) s) fun t =>
      t.nfc = { s.nfc with list := s.nfc.list.filter (· != listUid s len) } ∧ t.out = .hostStatus p 0 :: s.out ∧
        RegsBut (Reg.NFC_LISTCNT :: hostRegs p) s t ∧ Within [.regs, .nfc, .out] s t) ∧
  (∀ (s : State) (p : Path), HostMay p 1 s → s.held .service = false → Answers (exec (.listClear p) s) fun t =>
      t.nfc = { s.nfc with list := [] } ∧ t.reg Reg.NFC_LISTCNT = 0 ∧ t.out = .hostStatus p 0 :: s.out ∧
        RegsBut (Reg.NFC_LISTCNT :: hostRegs p) s t ∧ Within [.regs, .nfc, .out] s t)

/-- R487 to R496: the service tag, its field and its limits, its commands, its notes area, and the host's writes to it. The model's readings and choices
behind it: log entries 170 to 175, 178, 179, 261. -/
def Obligations.ServiceTag : Prop :=
  (∀ (s : State), s.held .service = false → supplyAbsent s = false → tagSt s ≠ 4 → Answers (exec .tagSnapshotRefresh s) fun t =>
      t.nfc = { s.nfc with snap := tagSnapshot s, snapDue := false } ∧ RegsBut [] s t ∧ Within [.nfc] s t) ∧
  (∀ (s : State), s.held .service = false → supplyAbsent s = false → tagSt s = 4 → Answers (exec .tagSnapshotRefresh s) fun t =>
      t.nfc = { s.nfc with snapDue := true } ∧ RegsBut [] s t ∧ Within [.nfc] s t) ∧
  (∀ (s : State), tagSt s = 1 → s.nfc.deaf = false → supplyAbsent s = false → Answers (exec .tagFieldDetect s) fun t =>
      tagSt t = 2 ∧ t.nfc = { s.nfc with field := true } ∧ t.on Fd.NFC_STAT_TAG = true ∧ RegsBut [Reg.NFC_STAT, Reg.NFC_TAGSTAT] s t ∧
        Within [.regs, .nfc] s t) ∧
  (∀ (s : State), tagSt s = 1 → s.nfc.deaf = false → supplyAbsent s = true → s.parN Par.TAG_DAYMAX ≤ tagUsed s → Answers (exec .tagFieldDetect s) fun t =>
      tagSt t = 1 ∧ t.nfc = { s.nfc with field := true, deaf := true } ∧ t.get ⟨Reg.NFC_TAGCNT, 16, 16⟩ = min (s.get ⟨Reg.NFC_TAGCNT, 16, 16⟩ + 1) 65535 ∧
        RegsBut [Reg.NFC_TAGSTAT, Reg.NFC_TAGCNT] s t ∧ Within [.regs, .nfc] s t) ∧
  (∀ (s : State) (secs : Nat), supplyAbsent s = true → tagSt s = 2 → Answers (exec (.tagFieldLost secs) s) fun t =>
      tagSt t = 1 ∧ t.nfc = { s.nfc with field := false, day := s.regN Reg.BTM_TIME / 86400, used := tagUsed s + secs } ∧
        RegsBut [Reg.NFC_TAGSTAT] s t ∧ Within [.regs, .nfc] s t) ∧
  (∀ (s : State), supplyAbsent s = true → s.nfc.field = false → Answers (exec .tagPowerRemove s) fun t =>
      t.on Fd.NFC_STAT_TAG = false ∧ RegsBut [Reg.NFC_STAT] s t ∧ Within [.regs] s t) ∧
  (∀ (s : State) (wupa : Bool) (ms : Nat), supplyAbsent s = false → tagSt s = 2 → Answers (exec (.tagWupaReqa wupa true ms) s) fun t =>
      tagSt t = 3 ∧ t.out = .tag ([0x44, 0x00] ++ tagUid s ++ [0x20]) :: s.out ∧ RegsBut [Reg.NFC_TAGSTAT] s t ∧ Within [.regs, .out] s t) ∧
  (∀ (s : State) (ms : Nat), supplyAbsent s = false → tagSt s = 5 → Answers (exec (.tagWupaReqa true false ms) s) fun t =>
      tagSt t = 2 ∧ t.out = .tag [0x44, 0x00] :: s.out ∧ RegsBut [Reg.NFC_TAGSTAT] s t ∧ Within [.regs, .out] s t) ∧
  (∀ (s : State), tagSt s = 3 → Answers (exec .tagRats s) fun t =>
      tagSt t = 4 ∧ t.on Fd.NFC_TAGSTAT_BUSY = true ∧ t.out = .tag [0x02, 0x08] :: s.out ∧ RegsBut [Reg.NFC_TAGSTAT] s t ∧ Within [.regs, .out] s t) ∧
  (∀ (s : State), tagSt s = 3 → Answers (exec .tagHlta s) fun t => tagSt t = 5 ∧ RegsBut [Reg.NFC_TAGSTAT] s t ∧ Within [.regs] s t) ∧
  (∀ (s : State), tagSt s = 4 → s.nfc.queued = [] → s.nfc.snapDue = false → Answers (exec .tagDeselect s) fun t =>
      tagSt t = 5 ∧ t.on Fd.NFC_EVT_TAGTX = true ∧ t.get ⟨Reg.NFC_TAGCNT, 0, 16⟩ = min (s.get ⟨Reg.NFC_TAGCNT, 0, 16⟩ + 1) 65535 ∧
        t.nfc = { s.nfc with selected := false } ∧ t.on Fd.NFC_TAGSTAT_BUSY = false ∧ RegsBut [Reg.NFC_TAGSTAT, Reg.NFC_EVT, Reg.NFC_TAGCNT] s t ∧
        Within [.regs, .nfc] s t) ∧
  (∀ (s : State), tagSt s = 4 → Answers (exec (.tagSelect [0xF0, 0x45, 0x56, 0x4B, 0x53, 0x54, 0x47]) s) fun t =>
      t.nfc = { s.nfc with selected := true } ∧ t.out = .tag [0x90, 0x00] :: s.out ∧ RegsBut [] s t ∧ Within [.nfc, .out] s t) ∧
  (∀ (s : State) (off le : Nat), tagSt s = 4 → s.nfc.selected = false → Answers (exec (.tagRead off le) s) fun t =>
      t.out = .tag [0x69, 0x85] :: s.out ∧ RegsBut [] s t ∧ Within [.out] s t) ∧
  (∀ (s : State) (off le : Nat), tagSt s = 4 → s.nfc.selected = true → 1 ≤ le → le ≤ 224 → off + le ≤ 0x2000 → Answers (exec (.tagRead off le) s) fun t =>
      t.out = .tag (((tagMemory s).drop off).take le ++ [0x90, 0x00]) :: s.out ∧ RegsBut [] s t ∧ Within [.out] s t) ∧
  (∀ (s : State) (off le : Nat), tagSt s = 4 → s.nfc.selected = true → 1 ≤ le → le ≤ 224 → 0x2000 < off + le → Answers (exec (.tagRead off le) s) fun t =>
      t.out = .tag [0x6A, 0x82] :: s.out ∧ RegsBut [] s t ∧ Within [.out] s t) ∧
  (∀ (s : State) (off : Nat) (data : List Byte) (gen : Nat), tagSt s = 4 → s.nfc.selected = true → 0x1C00 ≤ off → off < 0x2000 → off % 32 = 0 → data.length = 32 →
    s.parB Par.TAG_WRITE_EN = true → supplyAbsent s = false → s.nfc.notes.length = 32 →
    (notePage s ((off - 0x1C00) / 32)).1.gen < 256 → (notePut ((off - 0x1C00) / 32) data s).1 = gen →
    Answers (exec (.tagWrite off data) s) fun t =>
      noteRead (notePage t ((off - 0x1C00) / 32)) = data ∧ t.out = .tag (Bits.leBytes 1 gen ++ [0x90, 0x00]) :: s.out ∧ RegsBut [] s t ∧
        Within [.nfc, .out] s t) ∧
  (∀ (s : State) (off : Nat) (data : List Byte), tagSt s = 4 → s.nfc.selected = true → 0x1C00 ≤ off → off < 0x2000 → off % 32 = 0 → data.length ≠ 32 →
    Answers (exec (.tagWrite off data) s) fun t => t.out = .tag [0x67, 0x00] :: s.out ∧ RegsBut [] s t ∧ Within [.out] s t) ∧
  (∀ (s : State) (secs : Nat), tagSt s = 4 → s.nfc.selected = true → supplyAbsent s = false → s.nfc.queued = [] → s.on Fd.BTM_STAT_BATLOW = true →
    s.on Fd.NFC_TAGSTAT_ALM = false → Answers (exec (.tagStatus 4 secs) s) fun t =>
      t.out = .tag ([3, 0] ++ Bits.leBytes 2 (s.parN Par.TAG_DAYMAX - tagUsed s) ++ [0x90, 0x00]) :: s.out ∧ RegsBut [] s t ∧ Within [.out] s t) ∧
  (∀ (s : State), tagSt s = 4 → s.nfc.selected = true → Answers (exec .tagUnknownCommand s) fun t =>
      t.out = .tag [0x6D, 0x00] :: s.out ∧ RegsBut [] s t ∧ Within [.out] s t) ∧
  (∀ (s : State) (secs : Nat), supplyAbsent s = true → tagSt s = 2 → Answers (exec (.tagTimeLimit secs) s) fun t =>
      tagSt t = 1 ∧ t.nfc = { s.nfc with deaf := true, day := s.regN Reg.BTM_TIME / 86400, used := tagUsed s + secs } ∧
        t.get ⟨Reg.NFC_TAGCNT, 16, 16⟩ = min (s.get ⟨Reg.NFC_TAGCNT, 16, 16⟩ + 1) 65535 ∧ RegsBut [Reg.NFC_TAGSTAT, Reg.NFC_TAGCNT] s t ∧
        Within [.regs, .nfc] s t) ∧
  (∀ (s : State), tagSt s = 1 → s.nfc.field = true → Answers (exec .tagIgnoreEnd s) fun t =>
      tagSt t = 2 ∧ t.nfc = { s.nfc with deaf := false } ∧ RegsBut [Reg.NFC_TAGSTAT] s t ∧ Within [.regs, .nfc] s t) ∧
  (∀ (s : State) (p : Path) (page : Nat), HostMay p 1 s → s.held .service = false → tagSt s = 4 → s.nfc.queued.length < 4 →
    Answers (exec (.hostTagWrite p page) s) fun t =>
      t.nfc.queued = s.nfc.queued ++ [(page % 32, (List.range 8).flatMap (fun w => Bits.leBytes 4 (s.regN (Reg.NFC_TAGWDATA w))))] ∧
        t.get Fd.NFC_TAGSTAT_QUEUED = s.nfc.queued.length + 1 ∧ RegsBut (Reg.NFC_TAGSTAT :: hostRegs p) s t ∧ Within [.regs, .nfc, .out] s t) ∧
  (∀ (s : State) (p : Path) (page : Nat), HostMay p 1 s → s.held .service = false → tagSt s ≠ 4 → s.nfc.notes.length = 32 →
    (notePage s (page % 32)).1.gen < 256 →
    Answers (exec (.hostTagWrite p page) s) fun t =>
      noteRead (notePage t (page % 32)) = (List.range 8).flatMap (fun w => Bits.leBytes 4 (s.regN (Reg.NFC_TAGWDATA w))) ∧ RegsBut (hostRegs p) s t ∧
        Within [.regs, .nfc, .out] s t)

/-- R198, R485, R623, R634 to R637: messages pushed and popped, and what each request of the mailbox does and replies. The model's readings and choices
behind it: log entries 40, 244, 246 to 249, 261, 262. -/
def Obligations.Mailbox : Prop :=
  (∀ (s : State) (p : Path) (m : List Byte), pathOpen s p = true → 8 ≤ m.length → m.length ≤ 512 → (queue s 31).length < 8 → s.q.length = 32 →
    Answers (exec (.mailboxPush p true 31 m) s) fun t =>
      queue t 31 = queue s 31 ++ [mailFrame p m] ∧ t.out = .hostStatus p 0 :: s.out ∧ RegsBut (hostRegs p) s t ∧ Within [.regs, .q, .out] s t) ∧
  (∀ (s : State) (p : Path) (m : List Byte), pathOpen s p = true → 8 ≤ m.length → m.length ≤ 512 → (queue s 30).length = 8 →
    Answers (exec (.mailboxPush p true 30 m) s) fun t =>
      t.on Fd.HIF_EVT_MBFULL = true ∧ t.out = .hostStatus p 6 :: s.out ∧ RegsBut (Reg.HIF_EVT :: hostRegs p) s t ∧ Within [.regs, .out] s t) ∧
  (∀ (s : State) (m : List Byte), pathOpen s .spi = true → Answers (exec (.mailboxPush .spi false 30 m) s) fun t =>
      t.on Fd.HIF_EVT_SPICRC = true ∧ t.regN (Reg.HIF_CNT 1) = min (s.regN (Reg.HIF_CNT 1) + 1) 0xFFFFFFFF ∧ t.out = .hostStatus .spi 3 :: s.out ∧
        RegsBut [Reg.HIF_EVT, Reg.HIF_CNT 1] s t ∧ Within [.regs, .out] s t) ∧
  (∀ (s : State) (p : Path) (m : List Byte) (fs : List Frame), pathOpen s p = true → queue s 29 = mailFrame p m :: fs → s.q.length = 32 →
    Answers (exec (.mailboxPop p true 29) s) fun t =>
      queue t 29 = fs ∧ t.out = .hostStatus p 0 :: .hostMail p m :: s.out ∧ RegsBut (hostRegs p) s t ∧ Within [.regs, .q, .out] s t) ∧
  (∀ (s : State) (p : Path), pathOpen s p = true → queue s 28 = [] → Answers (exec (.mailboxPop p true 28) s) fun t =>
      t.out = .hostStatus p 0 :: .hostMail p [] :: s.out ∧ RegsBut (hostRegs p) s t ∧ Within [.regs, .out] s t) ∧
  (∀ (s : State) (p : Path) (m : List Byte) (w : Waybill), MailAsks 1 31 0 p m s → (mailBody m).length = 8 → numAt (mailBody m) 1 3 = 0 →
    numAt (mailBody m) 0 1 = 1 → s.bil.sessWb.find? (fun x => x.seq == numAt (mailBody m) 4 4) = some w → Answers (exec .mbReadWaybill s) fun t =>
      MailReplied 31 p m 0 (wbBytes s w ++ w.sig) s t ∧ RegsBut [] s t ∧ Within [.q] s t) ∧
  (∀ (s : State) (p : Path) (m : List Byte) (e : LogEntry) (es : List LogEntry) (k : Nat), MailAsks 2 31 0 p m s → (mailBody m).length = 8 →
    numAt (mailBody m) 2 2 = 0 → numAt (mailBody m) 0 1 = k → k < 5 → numAt (mailBody m) 1 1 = 1 → numAt (mailBody m) 4 4 = 0 →
    (nth s.logs k ⟨[], 0⟩).entries = e :: es → Answers (exec .mbReadLog s) fun t =>
      MailReplied 31 p m 0 (logBytes e) s t ∧ RegsBut [] s t ∧ Within [.q] s t) ∧
  (∀ (s : State) (p : Path) (m : List Byte) (e : ProfEntry), MailAsks 3 31 0 p m s → (mailBody m).length = 8 → numAt (mailBody m) 1 3 = 0 →
    numAt (mailBody m) 0 1 = 2 → s.bil.lp2[numAt (mailBody m) 4 4]? = some e → Answers (exec .mbReadProfile s) fun t =>
      MailReplied 31 p m 0 (Bits.leBytes 4 e.endT ++ Bits.leBytes 2 e.status ++ e.values.flatMap (fun v => Bits.leBytes 8 (Bits.ofInt 64 v))) s t ∧
        RegsBut [] s t ∧ Within [.q] s t) ∧
  (∀ (s : State) (p : Path) (m : List Byte), MailAsks 4 31 0 p m s → (mailBody m).length = 8 → numAt (mailBody m) 1 3 = 0 → s.btm.outages = [] →
    Answers (exec .mbReadOutage s) fun t => MailReplied 31 p m 3 [] s t ∧ RegsBut [] s t ∧ Within [.q] s t) ∧
  (∀ (s : State) (p : Path) (m : List Byte) (o : OutageRec) (os : List OutageRec), MailAsks 4 31 0 p m s → (mailBody m).length = 8 →
    numAt (mailBody m) 1 3 = 0 → numAt (mailBody m) 0 1 = 1 → numAt (mailBody m) 4 4 = 0 → s.btm.outages = o :: os → Answers (exec .mbReadOutage s) fun t =>
      MailReplied 31 p m 0 ((outageWords o).flatMap (Bits.leBytes 4)) s t ∧ RegsBut [] s t ∧ Within [.q] s t) ∧
  (∀ (s : State) (p : Path) (m : List Byte), MailAsks 5 31 1 p m s → 4 ≤ (mailBody m).length → (mailBody m).length ≤ 500 → numAt (mailBody m) 2 1 = 0 →
    numAt (mailBody m) 3 1 = 0 → numAt (mailBody m) 0 2 = s.mail.table.length → Answers (exec .mbWriteTable s) fun t =>
      MailReplied 31 p m 0 [] s t ∧ t.mail = { s.mail with table := s.mail.table ++ (mailBody m).drop 4 } ∧ RegsBut [] s t ∧ Within [.q, .mail] s t) ∧
  (∀ (s : State) (p : Path) (m : List Byte), MailAsks 5 31 0 p m s → pathLevel s p = 0 → Answers (exec .mbWriteTable s) fun t =>
      MailReplied 31 p m 1 [] s t ∧ RegsBut [] s t ∧ Within [.q] s t) ∧
  (∀ (s : State) (p : Path) (m : List Byte) (n off base size : Nat), MailAsks 6 31 2 p m s → (mailBody m).length = 264 → numAt (mailBody m) 1 3 = 0 →
    numAt (mailBody m) 0 1 = n → n < 2 → flashSlot n = some (base, size) → numAt (mailBody m) 4 4 = off → off % 256 = 0 → off < size → slotHeld s n = false →
    Answers (exec .mbWriteFlash s) fun t =>
      MailReplied 31 p m 0 [] s t ∧ flashBytes t (base + off) 256 = (mailBody m).drop 8 ∧ t.boot.erased.contains ((base + off) / 0x10000) = true ∧
        RegsBut [] s t ∧ Within [.q, .boot, .mem] s t) ∧
  (∀ (s : State) (p : Path) (m : List Byte), MailAsks 7 30 1 p m s → numAt m 8 1 = 1 → s.nfc.card = none → readerOn s = true → s.get Fd.NFC_LAST_LEN ≠ 0 →
    Answers (exec (.mbCardActivate true) s) fun t =>
      MailReplied 30 p m 0 [] s t ∧ t.nfc = { s.nfc with card := some (lastUid s) } ∧ t.on Fd.NFC_STAT_L4 = true ∧ RegsBut [Reg.NFC_STAT] s t ∧
        Within [.regs, .q, .nfc] s t) ∧
  (∀ (s : State) (p : Path) (m r : List Byte), MailAsks 7 30 1 p m s → numAt m 8 1 = 2 → s.nfc.card.isSome = true → r.length ≤ 504 →
    Answers (exec (.mbCardExchange (some r)) s) fun t =>
      MailReplied 30 p m 0 r s t ∧ t.out = .apdu ((mailBody m).drop 4) :: s.out ∧ RegsBut [] s t ∧ Within [.q, .out] s t) ∧
  (∀ (s : State) (p : Path) (m : List Byte), MailAsks 7 30 1 p m s → numAt m 8 1 = 3 → s.nfc.card.isSome = true → Answers (exec .mbCardDeselect s) fun t =>
      MailReplied 30 p m 0 [] s t ∧ t.nfc = { s.nfc with card := none } ∧ t.on Fd.NFC_STAT_L4 = false ∧ RegsBut [Reg.NFC_STAT] s t ∧
        Within [.regs, .q, .nfc] s t) ∧
  (∀ (s : State) (p : Path) (m : List Byte), MailAsks 8 30 1 p m s → 1 ≤ (mailBody m).length → (mailBody m).length ≤ 64 → Answers (exec .mbRemoteId s) fun t =>
      MailReplied 30 p m 0 [] s t ∧ t.ses = { s.ses with remote := some (mailBody m, s.regN Reg.SYS_UPTIME) } ∧ RegsBut [] s t ∧ Within [.q, .ses] s t) ∧
  (∀ (s : State) (p : Path) (m : List Byte), MailAsks 9 30 1 p m s → (mailBody m).length = 12 → s.regN Reg.BIL_TOPUP < numAt (mailBody m) 0 4 →
    Answers (exec .mbCredit s) fun t =>
      t.regN Reg.BIL_TOPUP = numAt (mailBody m) 0 4 ∧ t.bil.transfers = s.bil.transfers ++ [(Bits.signed 64 (numAt (mailBody m) 4 8), numAt (mailBody m) 0 4, 2)] ∧
        t.mail = { s.mail with credits := [(p, mailTag m, numAt (mailBody m) 0 4, Bits.signed 64 (numAt (mailBody m) 4 8))] } ∧
        queue t 29 = queue s 29 ∧ queue t 30 = [] ∧ RegsBut [Reg.BIL_TOPUP] s t ∧ Within [.regs, .q, .bil, .mail] s t) ∧
  (∀ (s : State) (p : Path) (m : List Byte), MailAsks 9 30 1 p m s → (mailBody m).length = 12 → numAt (mailBody m) 0 4 ≤ s.regN Reg.BIL_TOPUP →
    Answers (exec .mbCredit s) fun t =>
      MailReplied 30 p m 6 [] s t ∧ t.on Fd.BIL_EVT_TOPREJ = true ∧ RegsBut [Reg.BIL_EVT] s t ∧ Within [.regs, .q, .logs] s t)

/-- R498 to R518: the load-switch channels: commands, inrush Tokens and windows, trips and retries, undervoltage, open low-side switches, limp-home and
diagnostics. The model's readings and choices behind it: log entries 14, 180 to 186, 261. -/
def Obligations.LoadSwitches : Prop :=
  (∀ (s : State) (p : Path) (n : Nat), HostMay p 1 s → s.held .service = false → n < 12 → limp s = false → lsSt s n = 0 → s.lsw.cmds.length = 12 →
    s.saf.lsBan.testBit n = false → s.on (Fd.LSW_CH_THLAT n) = false → s.on Fd.LSW_STAT_UV = false → s.lsw.lowOpen = [] → s.lsw.turns = [] →
    s.lsw.asks = [] → s.parN (Par.INRUSH_T n) = 0 → Answers (exec (.loadSwitchCommand p n true) s) fun t =>
      lsSt t n = 1 ∧ t.bitOf Reg.LSW_STAT n = true ∧ t.on (Fd.LSW_CTL_ON n) = true ∧ t.on (Fd.LSW_CH_WINDOW n) = false ∧
        t.get (Fd.LSW_CNT_ONCNT n) = min (s.get (Fd.LSW_CNT_ONCNT n) + 1) 65535 ∧ nth t.lsw.cmds n false = true ∧ t.out = .hostStatus p 0 :: s.out ∧
        RegsBut ([Reg.LSW_STAT, Reg.LSW_CTL n, Reg.LSW_CH n, Reg.LSW_CNT n] ++ hostRegs p) s t ∧ Within [.regs, .lsw, .out] s t) ∧
  (∀ (s : State) (p : Path) (n : Nat), HostMay p 1 s → s.held .service = false → n < 12 → limp s = false → lsSt s n = 1 → s.lsw.cmds.length = 12 →
    s.lsw.turns = [] → tokHolds s 2 n = false → tokWaits s 2 n = false → Answers (exec (.loadSwitchCommand p n false) s) fun t =>
      lsSt t n = 0 ∧ t.bitOf Reg.LSW_STAT n = false ∧ t.on (Fd.LSW_CTL_ON n) = false ∧ t.on (Fd.LSW_CH_WINDOW n) = false ∧ nth t.lsw.cmds n true = false ∧
        RegsBut ([Reg.LSW_STAT, Reg.LSW_CTL n, Reg.LSW_CH n] ++ hostRegs p) s t ∧ Within [.regs, .lsw, .out] s t) ∧
  (∀ (s : State) (p : Path) (n : Nat) (on : Bool), HostMay p 1 s → s.held .service = false → n < 12 → limp s = true →
    Answers (exec (.loadSwitchCommand p n on) s) fun t =>
      t.on (Fd.LSW_CTL_ON n) = on ∧ t.out = .hostStatus p 0 :: s.out ∧ RegsBut (Reg.LSW_CTL n :: hostRegs p) s t ∧ Within [.regs, .out] s t) ∧
  (∀ (s : State) (p : Path) (n : Nat), HostMay p 1 s → s.held .service = false → n < 12 → Answers (exec (.loadSwitchClearLatch p n) s) fun t =>
      t.get (Fd.LSW_CH_RETRY n) = 0 ∧ t.on (Fd.LSW_CH_RETEX n) = false ∧ lsSt t n = (if lsSt s n = 5 then 3 else lsSt s n) ∧
        RegsBut (Reg.LSW_CH n :: hostRegs p) s t ∧ Within [.regs, .out] s t) ∧
  (∀ (s : State) (n : Nat), s.held .service = false → n < 12 → lsSt s n = 2 → tokHolds s 2 n = true → lsCmd s n = true → s.parN (Par.INRUSH_T n) ≠ 0 →
    Answers (exec (.lswTokenGranted n) s) fun t =>
      lsSt t n = 1 ∧ t.on (Fd.LSW_CH_WINDOW n) = true ∧ t.bitOf Reg.LSW_STAT n = true ∧ RegsBut [Reg.LSW_STAT, Reg.LSW_CH n, Reg.LSW_CNT n] s t ∧
        Within [.regs, .lsw] s t) ∧
  (∀ (s : State) (n : Nat), s.held .service = false → n < 12 → lsSt s n = 2 → tokHolds s 2 n = false → tokWaits s 2 n = false →
    Answers (exec (.lswTokenRefused n 2) s) fun t =>
      lsSt t n = 0 ∧ t.on Fd.LSW_EVT_TOKREF = true ∧ t.lsw = { s.lsw with asks := s.lsw.asks ++ [n] } ∧ RegsBut [Reg.LSW_CH n, Reg.LSW_EVT] s t ∧
        Within [.regs, .lsw] s t) ∧
  (∀ (s : State) (n : Nat), s.held .service = false → n < 12 → s.lsw.asks.contains n = true → s.pfw = false → lsCmd s n = true → lsSt s n = 0 → limp s = false →
    s.saf.lsBan.testBit n = false → s.on (Fd.LSW_CH_THLAT n) = false → s.on Fd.LSW_STAT_UV = false → s.lsw.lowOpen = [] → s.parN (Par.INRUSH_T n) ≠ 0 →
    1000 < s.parN (Par.INRUSH_I n) → s.tok.deferred = [] → tokFits s ⟨2, n, 0, s.parN (Par.INRUSH_I n), false⟩ = true →
    Answers (exec (.lswTokenRetry n) s) fun t =>
      lsSt t n = 1 ∧ t.on (Fd.LSW_CH_WINDOW n) = true ∧ t.tok.held = ⟨2, n, 0, s.parN (Par.INRUSH_I n), false⟩ :: s.tok.held ∧
        t.lsw.asks.contains n = false ∧
        RegsBut [Reg.TOK_STAT, Reg.TOK_POWER, Reg.TOK_CNT 2, Reg.LSW_STAT, Reg.LSW_CH n, Reg.LSW_CNT n] s t ∧ Within [.regs, .tok, .lsw] s t) ∧
  (∀ (s : State) (n : Nat), s.held .service = false → n < 12 → s.on (Fd.LSW_CH_WINDOW n) = true → s.lsw.turns = [] → s.tok.deferred = [] →
    Answers (exec (.inrushWindowClose n) s) fun t =>
      t.on (Fd.LSW_CH_WINDOW n) = false ∧ lsSt t n = lsSt s n ∧ t.tok.held = s.tok.held.eraseP (tokIs 2 n) ∧
        RegsBut [Reg.LSW_CH n, Reg.TOK_STAT, Reg.TOK_POWER] s t ∧ Within [.regs, .tok] s t) ∧
  (∀ (s : State) (n : Nat), s.held .service = false → n < 12 → lsSt s n = 1 → s.get (Fd.LSW_CH_RETRY n) ≠ s.parN (Par.RETRY_MAX n) → s.lsw.turns = [] →
    tokHolds s 2 n = false → tokWaits s 2 n = false → Answers (exec (.overcurrentTrip n) s) fun t =>
      lsSt t n = 3 ∧ t.bitOf Reg.LSW_STAT n = false ∧ t.on Fd.LSW_EVT_OCTRIP = true ∧ t.get (Fd.LSW_CNT_OCTRIPS n) = min (s.get (Fd.LSW_CNT_OCTRIPS n) + 1) 255 ∧
        RegsBut [Reg.LSW_STAT, Reg.LSW_EVT, Reg.LSW_CH n, Reg.LSW_CNT n] s t ∧ Within [.regs, .lsw] s t) ∧
  (∀ (s : State) (n : Nat), s.held .service = false → n < 12 → lsSt s n = 1 → s.get (Fd.LSW_CH_RETRY n) = s.parN (Par.RETRY_MAX n) → s.lsw.turns = [] →
    tokHolds s 2 n = false → tokWaits s 2 n = false → Answers (exec (.shortTrip n) s) fun t =>
      lsSt t n = 5 ∧ t.on (Fd.LSW_CH_RETEX n) = true ∧ t.on Fd.LSW_EVT_SHORT = true ∧ t.on Fd.LSW_EVT_RETRYEX = true ∧ t.bitOf Reg.LSW_STAT n = false ∧
        RegsBut [Reg.LSW_STAT, Reg.LSW_EVT, Reg.LSW_CH n, Reg.LSW_CNT n] s t ∧ Within [.regs, .lsw] s t) ∧
  (∀ (s : State) (n : Nat), s.held .service = false → n < 12 → lsSt s n = 1 → s.lsw.turns = [] → tokHolds s 2 n = false → tokWaits s 2 n = false →
    Answers (exec (.thermalTrip n false) s) fun t =>
      t.on (Fd.LSW_CH_THLAT n) = true ∧ t.on Fd.LSW_EVT_THERM = true ∧ t.get (Fd.LSW_CNT_THERMS n) = min (s.get (Fd.LSW_CNT_THERMS n) + 1) 255 ∧
        t.bitOf Reg.LSW_STAT n = false ∧ RegsBut [Reg.LSW_STAT, Reg.LSW_EVT, Reg.LSW_CH n, Reg.LSW_CNT n] s t ∧ Within [.regs, .lsw] s t) ∧
  (∀ (s : State) (n : Nat), s.held .service = false → n < 12 → Answers (exec (.thermalLatchClear n) s) fun t =>
      t.on (Fd.LSW_CH_THLAT n) = false ∧ lsSt t n = lsSt s n ∧ RegsBut [Reg.LSW_CH n] s t ∧ Within [.regs] s t) ∧
  (∀ (s : State) (n : Nat), s.held .service = false → n < 12 → lsSt s n = 3 → lsCmd s n = true → s.on (Fd.LSW_CH_THLAT n) = false → s.lsw.lowOpen = [] →
    s.saf.lsBan.testBit n = false → s.on Fd.LSW_STAT_UV = false → s.parN (Par.INRUSH_T n) = 0 → Answers (exec (.retryTimerExpiry n) s) fun t =>
      lsSt t n = 1 ∧ t.get (Fd.LSW_CH_RETRY n) = min (s.get (Fd.LSW_CH_RETRY n) + 1) 15 ∧ t.bitOf Reg.LSW_STAT n = true ∧
        RegsBut [Reg.LSW_STAT, Reg.LSW_CH n, Reg.LSW_CNT n] s t ∧ Within [.regs, .lsw] s t) ∧
  (∀ (s : State) (n : Nat), s.held .service = false → n < 12 → lsSt s n = 3 → lsCmd s n = true → s.on (Fd.LSW_CH_THLAT n) = true →
    Answers (exec (.retryTimerExpiry n) s) fun t => t = s) ∧
  (∀ (s : State) (n : Nat), s.held .service = false → n < 12 → lsSt s n = 1 → Answers (exec (.retryCountReset n) s) fun t =>
      t.get (Fd.LSW_CH_RETRY n) = 0 ∧ t.on (Fd.LSW_CH_RETEX n) = false ∧ lsSt t n = 1 ∧ RegsBut [Reg.LSW_CH n] s t ∧ Within [.regs] s t) ∧
  (∀ (s : State) (mv : Nat), s.held .service = false → mv < 65536 → s.lsw.turns = [] → Answers (exec (.vlsUndervoltage mv) s) fun t =>
      t.on Fd.LSW_STAT_UV = true ∧ t.on Fd.LSW_EVT_UV = true ∧ t.get Fd.LSW_VLS_MV = mv ∧
        (List.range 12).all (fun n => lsSt t n == (if lsSt s n = 1 ∨ lsSt s n = 2 then 4 else lsSt s n)) = true ∧
        (s.tok.deferred = [] → RegsBut ([Reg.LSW_STAT, Reg.LSW_EVT, Reg.LSW_VLS, Reg.TOK_STAT, Reg.TOK_POWER] ++ (List.range 12).map (fun n => Reg.LSW_CH n)) s t) ∧
        Within [.regs, .tok, .lsw] s t) ∧
  (∀ (s : State) (mv : Nat), s.held .service = false → mv < 65536 → s.on Fd.LSW_STAT_UV = true → (List.range 12).all (fun n => !lsCmd s n) = true →
    Answers (exec (.vlsRecovery mv) s) fun t =>
      t.on Fd.LSW_STAT_UV = false ∧ t.on Fd.LSW_EVT_UVREST = true ∧ t.get Fd.LSW_VLS_MV = mv ∧
        (List.range 12).all (fun n => lsSt t n == (if lsSt s n = 4 then 0 else lsSt s n)) = true ∧ t.lsw = s.lsw ∧
        RegsBut ([Reg.LSW_STAT, Reg.LSW_EVT, Reg.LSW_VLS] ++ (List.range 12).map (fun n => Reg.LSW_CH n)) s t ∧ Within [.regs, .tok, .lsw] s t) ∧
  (∀ (s : State) (n : Nat), s.held .service = false → n < 12 → lsSt s n = 1 → s.lsw.turns = [] → Answers (exec (.lowSideOpen n) s) fun t =>
      lsSt t n = 6 ∧ t.on Fd.LSW_EVT_SBOFF = true ∧ t.lsw.lowOpen.contains n = true ∧ t.bitOf Reg.LSW_STAT n = false ∧
        (s.tok.deferred = [] → RegsBut [Reg.LSW_STAT, Reg.LSW_EVT, Reg.LSW_CH n, Reg.TOK_STAT, Reg.TOK_POWER] s t) ∧ Within [.regs, .tok, .lsw] s t) ∧
  (∀ (s : State) (n : Nat), s.held .service = false → n < 12 → lsSt s n = 6 → lsCmd s n = false → Answers (exec (.lowSideRestored n) s) fun t =>
      lsSt t n = 0 ∧ t.lsw = { s.lsw with lowOpen := without n s.lsw.lowOpen } ∧ RegsBut [Reg.LSW_CH n] s t ∧ Within [.regs, .lsw] s t) ∧
  (∀ (s : State) (lh : Nat), s.held .service = false → limp s = false → lh < 16 → Answers (exec (.limpInputChange true lh) s) fun t =>
      limp t = true ∧ t.on Fd.LSW_STAT_LIMPIN = true ∧ t.on Fd.LSW_LH_LIMPN = true ∧ t.get Fd.LSW_LH_LH = lh ∧ t.on Fd.LSW_EVT_LIMP = true ∧
        (s.tok.deferred = [] → s.lsw.turns = [] → RegsBut ([Reg.LSW_STAT, Reg.LSW_EVT, Reg.LSW_LH, Reg.TOK_STAT, Reg.TOK_POWER] ++
        (List.range 12).map (fun n => Reg.LSW_CH n) ++ (List.range 12).map (fun n => Reg.LSW_CNT n)) s t) ∧ Within [.regs, .tok, .lsw] s t) ∧
  (∀ (s : State) (lh : Nat), s.held .service = false → limp s = false → s.lsw.silent = false → lh < 16 → Answers (exec (.limpInputChange false lh) s) fun t =>
      t.on Fd.LSW_STAT_LIMPIN = false ∧ t.on Fd.LSW_LH_LIMPN = false ∧ t.get Fd.LSW_LH_LH = lh ∧ RegsBut [Reg.LSW_STAT, Reg.LSW_LH] s t ∧ Within [.regs] s t) ∧
  (∀ (s : State), s.held .service = false → limp s = false → Answers (exec .limpTimeout s) fun t =>
      limp t = true ∧ t.lsw.silent = true ∧ t.on Fd.LSW_EVT_LIMP = true ∧
        (s.tok.deferred = [] → s.lsw.turns = [] → RegsBut ([Reg.LSW_STAT, Reg.LSW_EVT, Reg.TOK_STAT, Reg.TOK_POWER] ++
        (List.range 12).map (fun n => Reg.LSW_CH n) ++ (List.range 12).map (fun n => Reg.LSW_CNT n)) s t) ∧ Within [.regs, .tok, .lsw] s t) ∧
  (∀ (s : State) (n cur temp : Nat), s.held .service = false → n < 12 → cur < 4096 → temp < 256 → lsSt s n = 1 → s.on (Fd.LSW_CH_WINDOW n) = false →
    s.parN (Par.OPEN_I n) ≠ 0 → Answers (exec (.loadDiagnostic n cur temp (some true) none) s) fun t =>
      t.get (Fd.LSW_CH_CUR n) = cur ∧ t.get (Fd.LSW_CH_TEMP n) = temp ∧ t.on (Fd.LSW_CH_OPEN n) = true ∧ t.on Fd.LSW_EVT_OPENLOAD = true ∧
        RegsBut [Reg.LSW_CH n, Reg.LSW_EVT] s t ∧ Within [.regs] s t) ∧
  (∀ (s : State) (n cur temp : Nat), s.held .service = false → n < 12 → cur < 4096 → temp < 256 → s.bitOf Reg.LSW_STAT n = false →
    Answers (exec (.loadDiagnostic n cur temp none (some true)) s) fun t =>
      t.get (Fd.LSW_CH_CUR n) = cur ∧ t.on (Fd.LSW_CH_STUCKHI n) = true ∧ t.on Fd.LSW_EVT_STUCKHI = true ∧ RegsBut [Reg.LSW_CH n, Reg.LSW_EVT] s t ∧
        Within [.regs] s t)

/-- R502, R523 to R531, R342: the words from the Core island, the pages and the check of the display, its supply, and the backlight of an absent host. The
model's readings and choices behind it: log entries 190 to 193, 261. -/
def Obligations.Lantern : Prop :=
  (∀ (s : State), s.held .service = false → s.on Fd.LSW_STAT_LIMPIN = false → limp s = false → Answers (exec (.serviceWordReceive true) s) fun t =>
      t.lsw.silent = false ∧ t.lsw.cmds = (List.range 12).map (fun n => s.on (Fd.LSW_CTL_ON n)) ∧ t.on Fd.LCD_STAT_STALE = false ∧
        Within [.regs, .tok, .lsw, .lcd] s t) ∧
  (∀ (s : State), s.held .service = false → s.lcd.holdEnd ≤ s.regN Reg.SYS_UPTIME → Answers (exec .displayPageAdvance s) fun t =>
      t.get Fd.LCD_STAT_PAGE = nextPage s (s.get Fd.LCD_STAT_PAGE) % 16 ∧
        RegsBut [Reg.LCD_STAT, Reg.LCD_IMG 0, Reg.LCD_IMG 1, Reg.LCD_IMG 2, Reg.LCD_IMG 3, Reg.LCD_IMG 4] s t ∧ Within [.regs] s t) ∧
  (∀ (s : State), s.held .service = false → s.regN Reg.SYS_UPTIME < s.lcd.holdEnd → Answers (exec .displayPageAdvance s) fun t => t = s) ∧
  (∀ (s : State), s.held .service = false → Answers (exec .displayStale s) fun t =>
      t.on Fd.LCD_STAT_STALE = true ∧ t.on Fd.LCD_EVT_STALE = true ∧
        RegsBut [Reg.LCD_STAT, Reg.LCD_EVT, Reg.LCD_IMG 0, Reg.LCD_IMG 1, Reg.LCD_IMG 2, Reg.LCD_IMG 3, Reg.LCD_IMG 4] s t ∧ Within [.regs] s t) ∧
  (∀ (s : State) (n : Nat), s.held .service = false → s.on Fd.LCD_STAT_DRVON = true → n < 164 → s.lcd.runs = [(n, 2, 0)] → s.lcd.shown = false →
    Answers (exec (.displayFrameReadback [n]) s) fun t =>
      t.bitOf (Reg.LCD_FAIL (n / 32)) (n % 32) = true ∧ t.lcd = { s.lcd with runs := [(n, 3, 0)] } ∧
        (s.bitOf (Reg.LCD_FAIL (n / 32)) (n % 32) = false → t.on Fd.LCD_EVT_READBACK = true) ∧ RegsBut [Reg.LCD_FAIL (n / 32), Reg.LCD_EVT] s t ∧
        Within [.regs, .lcd] s t) ∧
  (∀ (s : State), Answers (exec .confirmedDisplayEnd s) fun t =>
      t.lcd = { s.lcd with confirmed := none } ∧
        RegsBut [Reg.LCD_STAT, Reg.LCD_IMG 0, Reg.LCD_IMG 1, Reg.LCD_IMG 2, Reg.LCD_IMG 3, Reg.LCD_IMG 4] s t ∧ Within [.regs, .lcd] s t) ∧
  (∀ (s : State) (p : Path), HostMay p 1 s → s.held .service = false → Answers (exec (.displayHold p) s) fun t =>
      t.lcd = { s.lcd with holdEnd := s.regN Reg.SYS_UPTIME + 60 } ∧ t.out = .hostStatus p 0 :: s.out ∧ RegsBut (hostRegs p) s t ∧
        Within [.regs, .lcd, .out] s t) ∧
  (∀ (s : State) (p : Path), HostMay p 1 s → s.held .service = false → Answers (exec (.displayNext p) s) fun t =>
      t.get Fd.LCD_STAT_PAGE = nextPage s (s.get Fd.LCD_STAT_PAGE) % 16 ∧ t.lcd = s.lcd ∧ t.out = .hostStatus p 0 :: s.out ∧
        RegsBut ([Reg.LCD_STAT, Reg.LCD_IMG 0, Reg.LCD_IMG 1, Reg.LCD_IMG 2, Reg.LCD_IMG 3, Reg.LCD_IMG 4] ++ hostRegs p) s t ∧ Within [.regs, .out] s t) ∧
  (∀ (s : State), s.held .service = false → s.pfw = false → s.on Fd.LCD_STAT_BLON = false → Answers (exec (.lanternPowerUp false) s) fun t =>
      t.on Fd.LCD_EVT_RAILFAIL = true ∧ RegsBut [Reg.LCD_EVT] s t ∧ Within [.regs] s t) ∧
  (∀ (s : State), s.held .service = false → s.pfw = false → s.on Fd.LCD_STAT_BLON = false → pageUsed s 0 = true → Answers (exec (.lanternPowerUp true) s) fun t =>
      t.on Fd.LCD_STAT_VLCDOK = true ∧ t.on Fd.LCD_STAT_BIASOK = true ∧ t.on Fd.LCD_STAT_DRVON = true ∧ t.on Fd.LCD_STAT_BLON = true ∧
        t.get Fd.LCD_STAT_PAGE = 0 ∧ t.lcd.shown = true ∧
        RegsBut [Reg.LCD_STAT, Reg.LCD_IMG 0, Reg.LCD_IMG 1, Reg.LCD_IMG 2, Reg.LCD_IMG 3, Reg.LCD_IMG 4] s t ∧ Within [.regs, .lcd] s t) ∧
  (∀ (s : State), s.held .service = false → s.pfw = false → s.on Fd.LCD_STAT_BLON = false → pageUsed s 0 = false → Answers (exec (.vlcdRailRetry true) s) fun t =>
      t.on Fd.LCD_STAT_DRVON = true ∧ t.on Fd.LCD_STAT_BLON = true ∧ t.get Fd.LCD_STAT_PAGE = nextPage s 0 % 16 ∧ t.lcd.shown = true ∧
        RegsBut [Reg.LCD_STAT, Reg.LCD_IMG 0, Reg.LCD_IMG 1, Reg.LCD_IMG 2, Reg.LCD_IMG 3, Reg.LCD_IMG 4] s t ∧ Within [.regs, .lcd] s t) ∧
  (∀ (s : State), Answers (exec .hostAbsent s) fun t =>
      t.on Fd.HIF_STAT_HOSTABS = true ∧ t.on Fd.SES_STAT_HOSTABS = true ∧
        t.lcd.duty.getD 2 0 = (if s.on Fd.LCD_STAT_BLON then lcdDuty s 2 (s.parN Par.LCD_BLDEF % 256) else 0) ∧
        RegsBut [Reg.HIF_STAT, Reg.SES_STAT] s t ∧ Within [.regs, .lcd] s t)

/-- R551, R633, R640: parameters read and written through HIF_PCMD, and the codes of HIF_PRES. The model's readings and choices behind it: log entries
194, 195, 199, 201, 261. -/
def Obligations.Parameters : Prop :=
  (∀ (s : State) (p : Path) (cmd : Nat) (r : ParamMap.ParamRow), HostMay p 0 s → ParamMap.rowFor (pcmdPar cmd) = some r → Rules.present s.variant r = true →
    cmd / 4096 % 4 = 0 → Answers (exec (.paramRead p cmd) s) fun t =>
      t.reg (Reg.HIF_PVAL p) = BitVec.ofNat 32 (Bits.ofInt (8 * r.bytes) (s.par (pcmdPar cmd))) ∧ t.get (Fd.HIF_PRES_CODE p) = 0 ∧
        t.out = .hostStatus p 0 :: s.out ∧ RegsBut ([Reg.HIF_PVAL p, Reg.HIF_PRES p] ++ hostRegs p) s t ∧ Within [.regs, .out] s t) ∧
  (∀ (s : State) (p : Path) (cmd : Nat), HostMay p 0 s → ParamMap.rowFor (pcmdPar cmd) = none → Answers (exec (.paramRead p cmd) s) fun t =>
      t.get (Fd.HIF_PRES_CODE p) = 2 ∧ RegsBut (Reg.HIF_PRES p :: hostRegs p) s t ∧ Within [.regs, .out] s t) ∧
  (∀ (s : State) (p : Path) (cmd : Nat), HostMay p 0 s → pathLevel s p < 2 → Answers (exec (.paramWrite p cmd) s) fun t =>
      t.get (Fd.HIF_PRES_CODE p) = 1 ∧ t.params = s.params ∧ t.boot = s.boot ∧ RegsBut (Reg.HIF_PRES p :: hostRegs p) s t ∧ Within [.regs, .out] s t) ∧
  (∀ (s : State) (p : Path) (cmd : Nat), pathOpen s p = true → s.pfw = true → Answers (exec (.paramWrite p cmd) s) fun t =>
      t.get (Fd.HIF_PRES_CODE p) = 8 ∧ t.out = .hostStatus p 5 :: s.out ∧ RegsBut (Reg.HIF_PRES p :: hostRegs p) s t ∧ Within [.regs, .out] s t) ∧
  (∀ (s : State) (p : Path) (cmd : Nat) (r : ParamMap.ParamRow), HostMay p 2 s → ParamMap.rowFor (pcmdPar cmd) = some r → r.type = .unsigned → r.applied = .boot →
    writeCode false (pathLevel s p) (pcmdPar cmd) (pcmdLen cmd) (s.regN (Reg.HIF_PVAL p) % 256 ^ pcmdLen cmd) s = 0 →
    Answers (exec (.paramWrite p cmd) s) fun t =>
      t.get (Fd.HIF_PRES_CODE p) = 0 ∧ t.params = s.params ∧ t.boot.overlay =
        s.boot.overlay.filter (fun x => x.par != pcmdPar cmd) ++ [⟨pcmdPar cmd, (s.regN (Reg.HIF_PVAL p) % 256 ^ pcmdLen cmd : Nat), s.regN Reg.SYS_IMGSEQ, true⟩] ∧
        RegsBut ([Reg.HIF_PRES p, Reg.SYS_OVL] ++ hostRegs p) s t ∧ Within [.regs, .boot, .out] s t) ∧
  (∀ (s : State) (p : Path) (cmd : Nat) (r : ParamMap.ParamRow), HostMay p 2 s → ParamMap.rowFor (pcmdPar cmd) = some r → r.type = .unsigned → r.applied = .interval →
    writeCode false (pathLevel s p) (pcmdPar cmd) (pcmdLen cmd) (s.regN (Reg.HIF_PVAL p) % 256 ^ pcmdLen cmd) s = 0 →
    Answers (exec (.paramWrite p cmd) s) fun t =>
      t.get (Fd.HIF_PRES_CODE p) = 0 ∧ t.params = s.params ∧ t.parPend =
        s.parPend.filter (fun x => x.1 != pcmdPar cmd) ++ [(pcmdPar cmd, ((s.regN (Reg.HIF_PVAL p) % 256 ^ pcmdLen cmd : Nat) : Int))] ∧
        RegsBut ([Reg.HIF_PRES p, Reg.SYS_OVL] ++ hostRegs p) s t ∧ Within [.regs, .boot, .parPend, .out] s t)

/-- R10: the range 0x07_0000 to 0x07_FFFF, every address from 0x1D_0000 upwards, and an address that no block's chapter defines a register for, are
unmapped: a read returns 0 and status 2, a write is discarded with status 2, and both set HIF_EVT.ADDRERR. -/
def Obligations.UnmappedAddresses : Prop :=
  (∀ (s : State) (p : Path) (a : Nat), pathOpen s p = true → a % 4 = 0 → a < 2 ^ 24 → RegMap.rowOf a = none → Answers (exec (.hostRegisterRead p true a 1) s) fun t =>
      t.out = .hostStatus p 2 :: .hostData p [0] :: s.out ∧ t.on Fd.HIF_EVT_ADDRERR = true ∧ RegsBut (Reg.HIF_EVT :: hostRegs p) s t ∧
        Within [.regs, .out] s t) ∧
  (∀ (s : State) (p : Path) (a : Nat) (w : Word) (f : WriteFacts), pathOpen s p = true → a % 4 = 0 → a < 2 ^ 24 → RegMap.rowOf a = none →
    Answers (exec (.hostRegisterWrite p true a [w] f) s) fun t =>
      t.out = .hostStatus p 2 :: s.out ∧ t.on Fd.HIF_EVT_ADDRERR = true ∧ RegsBut (Reg.HIF_EVT :: hostRegs p) s t ∧ Within [.regs, .out] s t) ∧
  (∀ (a : Nat), (0x70000 ≤ a ∧ a < 0x80000) ∨ 0x1D0000 ≤ a → RegMap.rowOf a = none)

/-- R14: when an event sets a W1C bit in the same fabric cycle in which the host writes 1 to clear it, the bit stays set. -/
def Obligations.EventBitStays : Prop :=
  (∀ (s : State) (p : Path) (a k : Nat) (r : RegMap.RegRow) (bits same : Word), burstStatus a 1 = 0 → RegMap.rowOf a = some r → HostMay p r.level s →
    s.held r.island = false → k < 32 → Nat.testBit (r.w1c &&& variantMask s r) k = true → bits.getLsbD k = true → same.getLsbD k = true →
    Answers (exec (.eventBitClear p a bits same) s) fun t =>
      (t.reg a).getLsbD k = true ∧ t.out = .hostStatus p 0 :: s.out ∧ RegsBut (a :: hostRegs p) s t ∧ Within [.regs, .out] s t)

/-- R9 to R15, R187, R622 to R624, R628, R640: register transactions of the host, their status, and what each leaves. The model's readings and choices
behind it: log entries 238, 260, 261. -/
def Obligations.HostRegisters : Prop :=
  (∀ (s : State) (p : Path) (a : Nat) (r : RegMap.RegRow), pathOpen s p = true → burstStatus a 1 = 0 → RegMap.rowOf a = some r → wide64 a = false →
    Answers (exec (.hostRegisterRead p true a 1) s) fun t =>
      t.out = .hostStatus p 0 :: .hostData p [hostWord (hostAccess p s) p r a] :: s.out ∧ RegsBut (hostRegs p) s t ∧ Within [.regs, .out] s t) ∧
  (∀ (s : State) (p : Path) (a n : Nat), pathOpen s p = true → burstStatus a n = 2 → Answers (exec (.hostRegisterRead p true a n) s) fun t =>
      t.out = .hostStatus p 2 :: .hostData p (List.replicate n 0) :: s.out ∧ t.on Fd.HIF_EVT_ADDRERR = true ∧ RegsBut (Reg.HIF_EVT :: hostRegs p) s t ∧
        Within [.regs, .out] s t) ∧
  (∀ (s : State) (p : Path) (a n : Nat), pathOpen s p = true → burstStatus a n = 4 → Answers (exec (.hostRegisterRead p true a n) s) fun t =>
      t.out = .hostStatus p 4 :: s.out ∧ RegsBut (hostRegs p) s t ∧ Within [.regs, .out] s t) ∧
  (∀ (s : State) (a n : Nat), pathOpen s .spi = true → Answers (exec (.hostRegisterRead .spi false a n) s) fun t =>
      t.out = .hostStatus .spi 3 :: s.out ∧ t.on Fd.HIF_EVT_SPICRC = true ∧ t.regN (Reg.HIF_CNT 1) = min (s.regN (Reg.HIF_CNT 1) + 1) 0xFFFFFFFF ∧
        RegsBut [Reg.HIF_EVT, Reg.HIF_CNT 1] s t ∧ Within [.regs, .out] s t) ∧
  (∀ (s : State) (p : Path) (w : Word) (f : WriteFacts), HostMay p 1 s → s.held .core = false → Answers (exec (.hostRegisterWrite p true Reg.HIF_IEN [w] f) s) fun t =>
      t.reg Reg.HIF_IEN = w ∧ t.out = .hostStatus p 0 :: s.out ∧ RegsBut (Reg.HIF_IEN :: hostRegs p) s t ∧ Within [.regs, .out] s t) ∧
  (∀ (s : State) (p : Path) (w : Word) (f : WriteFacts), HostMay p 1 s → s.held .siteLink = false →
    Answers (exec (.hostRegisterWrite p true Reg.ETH_EVT [w] f) s) fun t =>
      t.reg Reg.ETH_EVT = (s.reg Reg.ETH_EVT &&& ~~~(w &&& 0x7F)) ∧ t.out = .hostStatus p 0 :: s.out ∧ RegsBut (Reg.ETH_EVT :: hostRegs p) s t ∧
        Within [.regs, .out] s t) ∧
  (∀ (s : State) (p : Path) (a : Nat) (ws : List Word) (f : WriteFacts), pathOpen s p = true → burstStatus a ws.length = 0 → levelsOk p s a ws = false →
    Answers (exec (.hostRegisterWrite p true a ws f) s) fun t =>
      t.out = .hostStatus p 1 :: s.out ∧ t.on Fd.HIF_EVT_ACCERR = true ∧ RegsBut (Reg.HIF_EVT :: hostRegs p) s t ∧ Within [.regs, .out] s t) ∧
  (∀ (s : State) (p : Path) (a : Nat) (ws : List Word) (f : WriteFacts), pathOpen s p = true → burstStatus a ws.length = 2 →
    Answers (exec (.hostRegisterWrite p true a ws f) s) fun t =>
      t.out = .hostStatus p 2 :: s.out ∧ t.on Fd.HIF_EVT_ADDRERR = true ∧ RegsBut (Reg.HIF_EVT :: hostRegs p) s t ∧ Within [.regs, .out] s t) ∧
  (∀ (s : State) (p : Path) (a : Nat) (ws : List Word) (f : WriteFacts), pathOpen s p = true → burstStatus a ws.length = 4 →
    Answers (exec (.hostRegisterWrite p true a ws f) s) fun t => t.out = .hostStatus p 4 :: s.out ∧ RegsBut (hostRegs p) s t ∧ Within [.regs, .out] s t) ∧
  (∀ (s : State) (p : Path) (a : Nat) (ws : List Word) (f : WriteFacts), pathOpen s p = true → burstStatus a ws.length = 0 → levelsOk p s a ws = true →
    s.pfw = true → a ≠ 0x60020 → Answers (exec (.hostRegisterWrite p true a ws f) s) fun t =>
      t.out = .hostStatus p 5 :: s.out ∧ RegsBut (hostRegs p) s t ∧ Within [.regs, .out] s t) ∧
  (∀ (s : State) (a : Nat) (ws : List Word) (f : WriteFacts), pathOpen s .spi = true → Answers (exec (.hostRegisterWrite .spi false a ws f) s) fun t =>
      t.out = .hostStatus .spi 3 :: s.out ∧ t.on Fd.HIF_EVT_SPICRC = true ∧ RegsBut [Reg.HIF_EVT, Reg.HIF_CNT 1] s t ∧ Within [.regs, .out] s t) ∧
  (∀ (s : State) (p : Path) (a : Nat) (r : RegMap.RegRow), pathOpen s p = true → burstStatus a 1 = 0 → RegMap.rowOf a = some r → wide64 a = true →
    lowWord a = true → Answers (exec (.lowWordLatchRead p a) s) fun t =>
      t.out = .hostStatus p 0 :: .hostData p [hostWord (hostAccess p s) p r a] :: s.out ∧
        t.bil = { s.bil with latch := (p, a + 4, hostWord (hostAccess p s) p r (a + 4)) :: s.bil.latch.filter (fun e => !(e.1 == p && e.2.1 == a + 4)) } ∧
        RegsBut (hostRegs p) s t ∧ Within [.regs, .bil, .out] s t) ∧
  (∀ (s : State) (p : Path) (a : Nat) (r : RegMap.RegRow) (w : Word), pathOpen s p = true → burstStatus a 1 = 0 → RegMap.rowOf a = some r → wide64 a = true →
    lowWord a = false → s.bil.latch = [(p, a, w)] → Answers (exec (.hostRegisterRead p true a 1) s) fun t =>
      t.out = .hostStatus p 0 :: .hostData p [w] :: s.out ∧ t.bil = { s.bil with latch := [] } ∧ RegsBut (hostRegs p) s t ∧ Within [.regs, .bil, .out] s t) ∧
  (∀ (s : State) (p : Path) (bits same : Word), HostMay p 1 s → s.held .siteLink = false → Answers (exec (.eventBitClear p Reg.ETH_EVT bits same) s) fun t =>
      t.reg Reg.ETH_EVT = (s.reg Reg.ETH_EVT &&& ~~~(bits &&& 0x7F)) ||| (same &&& bits &&& 0x7F) ∧ t.out = .hostStatus p 0 :: s.out ∧
        RegsBut (Reg.ETH_EVT :: hostRegs p) s t ∧ Within [.regs, .out] s t)

/-- R626, R627, R629 to R631: privileged sessions of a path, their challenge, attempts, lock and end, and the Ethernet connection. The model's readings
and choices behind it: log entries 240, 241, 250, 261. -/
def Obligations.HostSessions : Prop :=
  (∀ (s : State) (p : Path), HostMay p 0 s → s.on Fd.KEY_STAT_DRBGOK = true → Answers (exec (.sessionNewChallenge p) s) fun t =>
      t.free = s.free + 8 ∧ t.hif = setNth s.hif (pathNum p) { hifPath s p with chal := some (s.regN Reg.SYS_UPTIME) } ∧ t.out = .hostStatus p 0 :: s.out ∧
        RegsBut ((List.range 8).map (fun w => Reg.HIF_CHAL p w) ++ hostRegs p) s t ∧ Within [.regs, .hif, .free, .out] s t) ∧
  (∀ (s : State) (p : Path), HostMay p 0 s → s.on Fd.KEY_STAT_DRBGOK = false → Answers (exec (.sessionNewChallenge p) s) fun t =>
      t.hif = setNth s.hif (pathNum p) { hifPath s p with chal := none } ∧ t.out = .hostStatus p 0 :: s.out ∧ RegsBut (hostRegs p) s t ∧
        Within [.regs, .hif, .out] s t) ∧
  (∀ (s : State) (p : Path) (level : Nat), HostMay p 0 s → (hifPath s p).verify = none → (hifPath s p).locked = true →
    Answers (exec (.sessionSubmit p level) s) fun t =>
      t.get ⟨Reg.HIF_SESSTAT p, 0, 8⟩ = 4 ∧ t.on Fd.HIF_EVT_SESFAIL = true ∧ t.regN (Reg.HIF_CNT 4) = min (s.regN (Reg.HIF_CNT 4) + 1) 0xFFFFFFFF ∧
        RegsBut ([Reg.HIF_SESSTAT p, Reg.HIF_EVT, Reg.HIF_CNT 4] ++ hostRegs p) s t ∧ Within [.regs, .out] s t) ∧
  (∀ (s : State) (p : Path) (level : Nat), HostMay p 0 s → s.hif.length = 2 → (hifPath s p).verify = none → (hifPath s p).locked = false →
    chalValid s p = false → (hifPath s p).fails = [] → Answers (exec (.sessionSubmit p level) s) fun t =>
      t.get ⟨Reg.HIF_SESSTAT p, 0, 8⟩ = 1 ∧ t.on Fd.HIF_EVT_SESFAIL = true ∧
        hifPath t p = { hifPath s p with chal := none, fails := [s.regN Reg.SYS_UPTIME] } ∧
        RegsBut ([Reg.HIF_SESSTAT p, Reg.HIF_EVT, Reg.HIF_CNT 4] ++ hostRegs p) s t ∧ Within [.regs, .hif, .out] s t) ∧
  (∀ (s : State) (p : Path) (level u v : Nat), HostMay p 0 s → s.hif.length = 2 → (hifPath s p).verify = none → (hifPath s p).locked = false →
    chalValid s p = true → levelKey s (level % 4) = none → (hifPath s p).fails = [u, v] → s.regN Reg.SYS_UPTIME ≤ u + 60 → s.regN Reg.SYS_UPTIME ≤ v + 60 →
    Answers (exec (.sessionSubmit p level) s) fun t =>
      t.get ⟨Reg.HIF_SESSTAT p, 0, 8⟩ = 2 ∧ t.on Fd.HIF_EVT_SESFAIL = true ∧ t.on Fd.HIF_EVT_SESLOCK = true ∧
        hifPath t p = { hifPath s p with chal := none, fails := [s.regN Reg.SYS_UPTIME, u, v], locked := true } ∧
        RegsBut ([Reg.HIF_SESSTAT p, Reg.HIF_EVT, Reg.HIF_CNT 4] ++ hostRegs p) s t ∧ Within [.regs, .hif, .out] s t) ∧
  (∀ (s : State) (p : Path) (level n : Nat), HostMay p 0 s → s.hif.length = 2 → (hifPath s p).verify = none → (hifPath s p).locked = false →
    chalValid s p = true → levelKey s (level % 4) = some n → levelKeyOk s (level % 4) = true → Answers (exec (.sessionSubmit p level) s) fun t =>
      hifPath t p = { hifPath s p with
        chal := none, verify := some (level % 4, sessionMessage s p (level % 4), sessionSig s p (slotType s n)) } ∧
        t.out = .hostStatus p 0 :: s.out ∧ RegsBut (hostRegs p) s t ∧ Within [.regs, .hif, .out] s t) ∧
  (∀ (s : State) (p : Path) (level n : Nat) (m sig : List Byte) (ok : Bool), s.hif.length = 2 → level < 4 → (hifPath s p).verify = some (level, m, sig) →
    levelKey s level = some n → levelKeyOk s level = true → Config.verifies (keyOf s n) m sig = ok → Answers (exec (.sessionVerifyDone p) s) fun t =>
      t.get ⟨Reg.HIF_SESSTAT p, 0, 8⟩ = (if ok then 0 else 3) ∧ pathLevel t p = (if ok then level else pathLevel s p) ∧
        (hifPath t p).sess = (ok || (hifPath s p).sess) ∧ (hifPath t p).verify = none ∧
        t.on Fd.HIF_EVT_SESFAIL = (!ok || s.on Fd.HIF_EVT_SESFAIL) ∧ RegsBut [Reg.HIF_SESSTAT p, Reg.HIF_EVT, Reg.HIF_STAT, Reg.HIF_CNT 3, Reg.HIF_CNT 4] s t ∧
        Within [.regs, .hif] s t) ∧
  (∀ (s : State) (p : Path), HostMay p 0 s → s.hif.length = 2 → (hifPath s p).sess = true → Answers (exec (.sessionClose p) s) fun t =>
      pathLevel t p = baseLevel s p % 4 ∧ hifPath t p = { hifPath s p with sess := false } ∧ t.on Fd.HIF_EVT_SESEND = true ∧
        t.out = .hostStatus p 0 :: s.out ∧ RegsBut (Reg.HIF_EVT :: hostRegs p) s t ∧ Within [.regs, .hif, .out] s t) ∧
  (∀ (s : State) (p : Path), s.hif.length = 2 → (hifPath s p).sess = true → Answers (exec (.sessionIdleTimeout p) s) fun t =>
      pathLevel t p = baseLevel s p % 4 ∧ hifPath t p = { hifPath s p with sess := false } ∧ t.on Fd.HIF_EVT_SESEND = true ∧
        RegsBut [Reg.HIF_EVT, Reg.HIF_STAT] s t ∧ Within [.regs, .hif] s t) ∧
  (∀ (s : State) (p : Path), (hifPath s p).sess = false → Answers (exec (.sessionIdleTimeout p) s) fun t => t = s) ∧
  (∀ (s : State) (p : Path), s.hif.length = 2 → Answers (exec (.sessionLockEnd p) s) fun t =>
      hifPath t p = { hifPath s p with fails := [], locked := false } ∧ RegsBut [] s t ∧ Within [.hif] s t) ∧
  (∀ (s : State), s.parB Par.HIF_ETH_EN = true → s.running = true → s.held .siteLink = false → s.on Fd.HIF_STAT_ETHCONN = false →
    s.on Fd.KEY_STAT_DRBGOK = true → usable s 0 = true → Answers (exec .hifEthConnect s) fun t =>
      t.on Fd.HIF_STAT_ETHCONN = true ∧ RegsBut [Reg.HIF_STAT] s t ∧ Within [.regs] s t) ∧
  (∀ (s : State), s.parB Par.HIF_ETH_EN = true → s.running = true → s.held .siteLink = false → s.on Fd.HIF_STAT_ETHCONN = true →
    Answers (exec .hifEthConnect s) fun t => t.on Fd.HIF_EVT_ETHREF = true ∧ RegsBut [Reg.HIF_EVT] s t ∧ Within [.regs] s t) ∧
  (∀ (s : State), s.on Fd.HIF_STAT_ETHCONN = true → (hifPath s .eth).sess = false → Answers (exec .hifEthClose s) fun t =>
      t.on Fd.HIF_STAT_ETHCONN = false ∧ RegsBut [Reg.HIF_STAT] s t ∧ Within [.regs] s t) ∧
  (∀ (s : State), s.hif.length = 2 → s.on Fd.HIF_STAT_ETHCONN = true → (hifPath s .eth).sess = true → Answers (exec .hifEthClose s) fun t =>
      t.on Fd.HIF_STAT_ETHCONN = false ∧ pathLevel t .eth = 0 ∧ (hifPath t .eth).sess = false ∧ t.on Fd.HIF_EVT_SESEND = true ∧
        RegsBut [Reg.HIF_STAT, Reg.HIF_EVT] s t ∧ Within [.regs, .hif] s t)

/-- R555 to R566: arming, the owner's lock, the check, the copy, the switch, the trial, and its reversal. The model's readings and choices behind it: log
entries 14, 200, 202 to 206, 208, 224, 261. -/
def Obligations.FirmwareUpdate : Prop :=
  (∀ (s : State) (p : Path) (mv : Nat), HostMay p 1 s → s.get Fd.SES_STAT_STATE = 0 → s.get Fd.CPL_STAT_STATE = 0 → s.get Fd.MTR_STAT_PGATE = 0 →
    s.parN Par.UPD_VBAT_MIN ≤ mv → mv < 65536 → s.on Fd.UPD_STAT_LOCK = false → s.get Fd.UPD_STAT_STATE = 0 → Answers (exec (.updateArm p mv) s) fun t =>
      t.on Fd.UPD_STAT_ARMED = true ∧ t.get Fd.UPD_STAT_STATE = 1 ∧ t.regN Reg.UPD_VBAT = mv ∧ t.get Fd.PWR_VBAT_LOAD = mv ∧
        t.out = .hostStatus p 0 :: s.out ∧ RegsBut ([Reg.UPD_STAT, Reg.UPD_VBAT, Reg.PWR_VBAT] ++ hostRegs p) s t ∧ Within [.regs, .out] s t) ∧
  (∀ (s : State) (p : Path) (mv : Nat), HostMay p 1 s → s.get Fd.SES_STAT_STATE ≠ 0 → Answers (exec (.updateArm p mv) s) fun t =>
      t.get Fd.UPD_CODES_REFUSE = 1 ∧ t.on Fd.UPD_EVT_REFUSED = true ∧
        RegsBut ([Reg.UPD_CODES, Reg.UPD_EVT, Reg.UPD_VBAT, Reg.PWR_VBAT] ++ hostRegs p) s t ∧ Within [.regs, .out] s t) ∧
  (∀ (s : State) (p : Path) (mv : Nat), HostMay p 1 s → s.get Fd.SES_STAT_STATE = 0 → s.get Fd.CPL_STAT_STATE = 0 → s.get Fd.MTR_STAT_PGATE = 0 →
    mv < s.parN Par.UPD_VBAT_MIN → mv < 65536 → Answers (exec (.updateArm p mv) s) fun t =>
      t.get Fd.UPD_CODES_REFUSE = 2 ∧ t.on Fd.UPD_EVT_REFUSED = true ∧
        RegsBut ([Reg.UPD_CODES, Reg.UPD_EVT, Reg.UPD_VBAT, Reg.PWR_VBAT] ++ hostRegs p) s t ∧ Within [.regs, .out] s t) ∧
  (∀ (s : State) (p : Path), HostMay p 1 s → s.get Fd.UPD_STAT_STATE = 1 → Answers (exec (.updateDisarm p) s) fun t =>
      t.on Fd.UPD_STAT_ARMED = false ∧ t.get Fd.UPD_STAT_STATE = 0 ∧ t.out = .hostStatus p 0 :: s.out ∧ RegsBut (Reg.UPD_STAT :: hostRegs p) s t ∧
        Within [.regs, .out] s t) ∧
  (∀ (s : State) (p : Path), HostMay p 1 s → s.get Fd.UPD_STAT_STATE = 3 → Answers (exec (.updateDisarm p) s) fun t =>
      t.out = .hostStatus p 0 :: s.out ∧ RegsBut (hostRegs p) s t ∧ Within [.regs, .out] s t) ∧
  (∀ (s : State) (p : Path) (n : Nat) (ok : Bool), HostMay p 2 s → s.parN Par.UPD_OWNKEY = n → n ≠ 0 → usable s n = true → slotType s n = 6 →
    slotUse s n 1 = true → numAt (lockMessage s) 0 1 = 1 → numAt (lockMessage s) 4 8 = meterNum s → s.regN Reg.UPD_LOCKCNT < numAt (lockMessage s) 12 4 →
    Config.verifies (keyOf s n) ((lockMessage s).take 16) (((lockMessage s).drop 16).take 64) = ok → Answers (exec (.ownerLockCommand p) s) fun t =>
      t.on Fd.UPD_STAT_LOCK = (ok || s.on Fd.UPD_STAT_LOCK) ∧
        t.regN Reg.UPD_LOCKCNT = (if ok then numAt (lockMessage s) 12 4 else s.regN Reg.UPD_LOCKCNT) ∧
        t.on Fd.UPD_EVT_LOCKCHG = (ok || s.on Fd.UPD_EVT_LOCKCHG) ∧ t.on Fd.UPD_EVT_LOCKREJ = (!ok || s.on Fd.UPD_EVT_LOCKREJ) ∧
        RegsBut ([Reg.UPD_STAT, Reg.UPD_LOCKCNT, Reg.UPD_EVT] ++ hostRegs p) s t ∧ Within [.regs, .out] s t) ∧
  (∀ (s : State) (p : Path), HostMay p 2 s → numAt (lockMessage s) 12 4 ≤ s.regN Reg.UPD_LOCKCNT → Answers (exec (.ownerLockCommand p) s) fun t =>
      t.on Fd.UPD_EVT_LOCKREJ = true ∧ RegsBut (Reg.UPD_EVT :: hostRegs p) s t ∧ Within [.regs, .out] s t) ∧
  (∀ (s : State) (ok : Bool), s.get Fd.UPD_STAT_STATE = 2 → stagingBytes s 0 4 ≠ [0x56, 0x50, 0x43, 0x55] → Answers (exec (.updateCheckDone ok) s) fun t =>
      t.get Fd.UPD_CODES_FAIL = 10 ∧ t.on Fd.UPD_EVT_FAILED = true ∧ t.on Fd.UPD_STAT_ARMED = false ∧ t.get Fd.UPD_STAT_STATE = 0 ∧
        (∀ w, w < 4 → t.regN (Reg.UPD_STGID w) = pkgNum s (24 + 4 * w) 4) ∧
        RegsBut ([Reg.UPD_CODES, Reg.UPD_EVT, Reg.UPD_STAT] ++ (List.range 4).map (fun w => Reg.UPD_STGID w)) s t ∧ Within [.regs] s t) ∧
  (∀ (s : State) (ok : Bool) (code : Nat), s.get Fd.UPD_STAT_STATE = 2 → pkgCheck ok s = code → Answers (exec (.updateCheckDone ok) s) fun t =>
      t.get Fd.UPD_STAT_STATE = (if code = 0 then 3 else 0) ∧ (if code = 0 then t.get Fd.UPD_CODES_PROG = 0 else t.get Fd.UPD_CODES_FAIL = code) ∧
        Within [.regs, .tok] s t) ∧
  (∀ (s : State) (ok : Bool), s.get Fd.UPD_STAT_STATE ≠ 2 → Answers (exec (.updateCheckDone ok) s) fun t => t = s) ∧
  (∀ (s : State), s.get Fd.UPD_STAT_STATE = 3 → s.get Fd.UPD_CODES_PROG < pkgSectors s → tokHolds s 8 (s.get Fd.UPD_CODES_PROG) = false →
    tokWaits s 8 (s.get Fd.UPD_CODES_PROG) = false → s.pfw = true → Answers (exec .copyTokenRetry s) fun t =>
      t.tok = s.tok ∧ t.get Fd.TOK_LAST_REASON = 1 ∧ t.get Fd.TOK_LAST_KIND = 8 ∧ t.on Fd.TOK_EVT_REFUSED = true ∧
        RegsBut [Reg.TOK_LAST, Reg.TOK_EVT, Reg.TOK_CNT 8] s t ∧ Within [.regs] s t) ∧
  (∀ (s : State), s.get Fd.UPD_STAT_STATE = 3 → s.get Fd.UPD_CODES_PROG < pkgSectors s → tokHolds s 8 (s.get Fd.UPD_CODES_PROG) = false →
    tokWaits s 8 (s.get Fd.UPD_CODES_PROG) = false → s.pfw = false → s.tok.deferred = [] → Answers (exec .copyTokenRetry s) fun t =>
      (tokHolds t 8 (s.get Fd.UPD_CODES_PROG) || tokWaits t 8 (s.get Fd.UPD_CODES_PROG)) = true ∧ RegsBut [Reg.TOK_STAT, Reg.TOK_POWER, Reg.TOK_CNT 8] s t ∧
        Within [.regs, .tok] s t) ∧
  (∀ (s : State), s.get Fd.UPD_STAT_STATE ≠ 3 → Answers (exec .copyTokenRetry s) fun t => t = s) ∧
  (∀ (s : State) (bad : List Nat) (whole : Bool), s.get Fd.UPD_STAT_STATE = 3 → s.get Fd.UPD_CODES_PROG = pkgSectors s → s.pfw = true →
    (bad.isEmpty && sha384 (fabBytes s (bankBase (idleBank s)) (pkgLen s)) == stagingBytes s 44 48) = whole → Answers (exec (.updateCopyDone bad) s) fun t =>
      t.get Fd.UPD_STAT_STATE = (if whole then 4 else 0) ∧ (if whole then t.upd = { s.upd with
        banks := setNth s.upd.banks (idleBank s) ⟨pkgNum s 6 2, stagingBytes s 24 16⟩, runs := setNth s.upd.runs (idleBank s) true }
        else t.get Fd.UPD_CODES_FAIL = 16 ∧ t.on Fd.UPD_EVT_FAILED = true ∧ t.on Fd.UPD_STAT_ARMED = false ∧ t.upd = s.upd) ∧
        RegsBut [Reg.UPD_STAT, Reg.UPD_CODES, Reg.UPD_EVT] s t ∧ Within [.regs, .upd, .mem] s t) ∧
  (∀ (s : State) (mv : Nat), s.get Fd.UPD_STAT_STATE = 4 → s.get Fd.SES_STAT_STATE = 0 → s.get Fd.CPL_STAT_STATE = 0 → s.get Fd.MTR_STAT_PGATE = 0 →
    s.parN Par.UPD_VBAT_MIN ≤ mv → mv < 65536 → s.on Fd.UPD_STAT_LOCK = false → Answers (exec (.updateSwitchEval (some mv)) s) fun t =>
      t.get Fd.UPD_STAT_BANK = 1 - s.get Fd.UPD_STAT_BANK ∧ t.on Fd.UPD_STAT_TRIAL = true ∧ t.get Fd.UPD_STAT_STATE = 5 ∧
        t.on Fd.UPD_EVT_SWITCH = true ∧ t.upd = { s.upd with starts := 1 } ∧ t.regN Reg.UPD_VBAT = mv ∧
        Within [.regs, .tok, .bil, .q, .ses, .dlm, .mail, .upd] s t) ∧
  (∀ (s : State), s.get Fd.UPD_STAT_STATE = 4 → s.get Fd.SES_STAT_STATE ≠ 0 → Answers (exec (.updateSwitchEval none) s) fun t =>
      t.get Fd.UPD_CODES_REFUSE = 1 ∧ RegsBut [Reg.UPD_CODES] s t ∧ Within [.regs] s t) ∧
  (∀ (s : State), s.on Fd.UPD_STAT_TRIAL = true → Answers (exec .trialServicesReport s) fun t =>
      t.on Fd.UPD_STAT_TRIAL = false ∧ t.on Fd.UPD_STAT_ARMED = false ∧ t.get Fd.UPD_STAT_STATE = 0 ∧ t.on Fd.UPD_EVT_DONE = true ∧
        t.get Fd.UPD_SVN_MIN = max (s.get Fd.UPD_SVN_MIN) (s.get Fd.UPD_SVN_RUN) ∧ t.on Fd.SYS_FLT_FWBANK = false ∧ t.upd = { s.upd with starts := 0 } ∧
        RegsBut [Reg.UPD_STAT, Reg.UPD_SVN, Reg.UPD_EVT, Reg.SYS_FLT] s t ∧ Within [.regs, .upd] s t) ∧
  (∀ (s : State), s.on Fd.UPD_STAT_TRIAL = true → Answers (exec .updateTrialTimeout s) fun t =>
      t.get Fd.UPD_STAT_BANK = 1 - s.get Fd.UPD_STAT_BANK ∧ t.on Fd.UPD_STAT_TRIAL = false ∧ t.get Fd.UPD_STAT_STATE = 0 ∧ t.get Fd.UPD_CODES_FAIL = 17 ∧
        t.on Fd.UPD_EVT_FAILED = true ∧ t.on Fd.UPD_STAT_ARMED = false ∧ t.upd = { s.upd with starts := 0 } ∧
        Within [.regs, .tok, .bil, .q, .ses, .dlm, .mail, .upd] s t) ∧
  (∀ (s : State), s.on Fd.UPD_STAT_TRIAL = true → Answers (exec .firmwareFaultReport s) fun t =>
      t.get Fd.UPD_STAT_BANK = 1 - s.get Fd.UPD_STAT_BANK ∧ t.on Fd.UPD_STAT_TRIAL = false ∧ t.get Fd.UPD_STAT_STATE = 0 ∧ t.get Fd.UPD_CODES_FAIL = 17 ∧
        t.on Fd.UPD_EVT_FAILED = true ∧ t.on Fd.UPD_STAT_ARMED = false ∧ t.upd = { s.upd with starts := 0 } ∧
        Within [.regs, .tok, .bil, .q, .ses, .dlm, .mail, .upd] s t) ∧
  (∀ (s : State), s.on Fd.UPD_STAT_TRIAL = false → Answers (exec .firmwareFaultReport s) fun t => t = s)

/-- R571 to R575, R585 to R588, R668: the supply, the warning and the save, the resets, and the start. The model's readings and choices behind it: log
entries 2, 39, 66, 89, 114, 124, 196, 198, 203 to 205, 209, 211 to 214, 216, 218, 255, 261. -/
def Obligations.PowerAndResets : Prop :=
  (∀ (s : State) (mv : Nat), s.on Fd.PWR_STAT_VIOOK = false → s.pow.dark = false → mv < 65536 → Answers (exec (.vsysRise mv) s) fun t =>
      t.on Fd.PWR_STAT_VIOOK = true ∧ t.on Fd.PWR_STAT_V18OK = true ∧ t.on Fd.PWR_STAT_VCOREOK = true ∧ t.on Fd.PWR_STAT_V33OK = true ∧
        t.on Fd.PWR_STAT_ONBAT = false ∧ t.get Fd.PWR_VSYS_MV = mv ∧ t.on Fd.PWR_STAT_PFW = decide (mv < s.parN Par.PFW_LVL + 500) ∧
        t.pow = { s.pow with cause := if s.pow.cause = 0 then 2 else s.pow.cause } ∧
        RegsBut [Reg.PWR_STAT, Reg.PWR_VSYS, Reg.TOK_STAT, Reg.CLK_ISL 0] s t ∧ Within [.regs, .pow] s t) ∧
  (∀ (s : State) (mv : Nat), s.Inv → s.on Fd.PWR_STAT_VIOOK = false → s.pow.dark = true → s.on Fd.PWR_STAT_PG = false → Answers (exec (.vsysRise mv) s) fun t =>
      t.pow.cause = 1 ∧ t.pow.dark = false ∧ t.regN Reg.BTM_TIME = (s.regN Reg.BTM_HWS + 1) % 2 ^ 32 ∧ t.on Fd.BTM_STAT_VALID = false ∧
        t.on Fd.BTM_EVT_CLKLOST = true ∧ t.on Fd.PWR_STAT_VIOOK = true ∧
        Within [.regs, .bil, .btm, .nfc, .pow] s t) ∧
  (∀ (s : State) (i : StartInfo), s.Inv → mayStart s = true → Answers (exec (.powerGood i) s) fun t =>
      t.get Fd.SYS_RSTCAUSE_LAST = s.pow.cause % 256 ∧ t.get Fd.SYS_RSTCAUSE_PREV = s.get Fd.SYS_RSTCAUSE_LAST ∧ t.on Fd.PWR_STAT_PG = true ∧
        t.pow.cause = 0 ∧ t.pow.saved = false ∧ t.variant = s.variant) ∧
  (∀ (s : State) (i : StartInfo), mayStart s = false → Answers (exec (.powerGood i) s) fun t => t = s) ∧
  (∀ (s : State) (mv late : Nat) (save : Option Nat), s.on Fd.PWR_STAT_PFW = false → s.on Fd.PWR_STAT_VIOOK = true → s.running = false →
    s.pow.saving = false → mv < 65536 → Answers (exec (.powerFailWarning mv late save) s) fun t =>
      t.on Fd.PWR_STAT_PFW = true ∧ t.on Fd.PWR_EVT_PFW = true ∧ t.get Fd.PWR_VSYS_MV = mv ∧ t.pow = s.pow ∧
        RegsBut [Reg.PWR_STAT, Reg.PWR_EVT, Reg.PWR_PFCNT, Reg.PWR_VSYS, Reg.TOK_STAT] s t ∧ Within [.regs] s t) ∧
  (∀ (s : State) (mv late d : Nat), s.on Fd.PWR_STAT_PFW = false → s.on Fd.PWR_STAT_VIOOK = true → s.running = true → d < 65536 →
    Answers (exec (.powerFailWarning mv late (some d)) s) fun t =>
      t.on Fd.PWR_STAT_PFW = true ∧ t.on Fd.PWR_EVT_PFW = true ∧ t.pow.saved = true ∧ t.pow.saving = false ∧ t.get Fd.PWR_HOLD_SAVE = d ∧
        t.bil.stopped = true ∧ t.btm.outage.isSome = true ∧
        Within [.regs, .params, .tok, .pts, .x00, .x01, .parNext, .bil, .btm, .logs, .saf, .x03, .x19, .x04, .q, .grpSeq, .ses, .dlm, .lsw, .lcd, .pow, .amb, .eth,
          .x11, .out] s t) ∧
  (∀ (s : State) (mv late : Nat), s.on Fd.PWR_STAT_PFW = false → s.on Fd.PWR_STAT_VIOOK = true → s.running = true → s.pow.saving = false →
    Answers (exec (.powerFailWarning mv late none) s) fun t =>
      t.on Fd.PWR_STAT_PFW = true ∧ t.on Fd.PWR_EVT_PFW = true ∧ t.on Fd.TOK_STAT_PFBLOCK = true ∧ t.on Fd.TTB_STAT_PFMODE = true ∧ t.pow.saving = true ∧
        t.tok.deferred = [] ∧
        Within [.regs, .params, .tok, .pts, .x00, .x01, .parNext, .bil, .btm, .logs, .saf, .x03, .x19, .x04, .q, .grpSeq, .ses, .dlm, .lsw, .lcd, .pow, .amb, .eth,
          .x11, .out] s t) ∧
  (∀ (s : State) (mv : Nat), s.on Fd.PWR_STAT_PFW = true → s.pow.saving = false → s.pow.saved = false → s.pow.resetLow = false → mv < 65536 →
    Answers (exec (.powerFailRelease mv) s) fun t =>
      t.on Fd.PWR_STAT_PFW = false ∧ t.on Fd.TOK_STAT_PFBLOCK = false ∧ t.get Fd.PWR_VSYS_MV = mv ∧
        RegsBut [Reg.PWR_STAT, Reg.PWR_VSYS, Reg.TOK_STAT] s t ∧ Within [.regs] s t) ∧
  (∀ (s : State) (mv : Nat), s.on Fd.PWR_STAT_PFW = true → s.pow.resetLow = true → Answers (exec (.powerFailRelease mv) s) fun t =>
      t.on Fd.PWR_STAT_PFW = false ∧ t.on Fd.TOK_STAT_PFBLOCK = s.on Fd.TOK_STAT_PFBLOCK ∧ RegsBut [Reg.PWR_STAT, Reg.PWR_VSYS, Reg.TOK_STAT] s t ∧
        Within [.regs] s t) ∧
  (∀ (s : State) (late dur : Nat), s.pow.saved = true → s.pow.saving = false → s.on Fd.PWR_STAT_PFW = false → Answers (exec (.saveRestart late dur) s) fun t =>
      t.pow = { s.pow with cause := if s.pow.cause = 0 then 3 else s.pow.cause } ∧ RegsBut [] s t ∧ Within [.pow] s t) ∧
  (∀ (s : State) (ms : Nat), s.on Fd.PWR_STAT_VIOOK = true → ms < 65536 → Answers (exec (.brownOut ms) s) fun t =>
      t.on Fd.PWR_EVT_BOR = true ∧ t.get Fd.PWR_PFCNT_BORS = min (s.get Fd.PWR_PFCNT_BORS + 1) 0xFFFF ∧ t.get Fd.PWR_HOLD_HOLDMS = ms ∧
        t.on Fd.PWR_STAT_VIOOK = false ∧ t.on Fd.PWR_STAT_PG = false ∧ t.on Fd.PWR_STAT_ONBAT = true ∧ t.pow.saving = false ∧ t.pow.saved = false ∧
        t.on Fd.PWR_EVT_HOLDFAIL = (s.running || s.pow.saving || s.on Fd.PWR_EVT_HOLDFAIL)) ∧
  (∀ (s : State) (late : Nat) (save : Option Nat), s.running = false → s.pow.saving = false → s.pow.saved = false →
    Answers (exec (.resetNRequest late save) s) fun t => t.pow = { s.pow with resetLow := true } ∧ RegsBut [] s t ∧ Within [.pow] s t) ∧
  (∀ (s : State) (late d : Nat), s.running = true → s.pow.saving = false → Answers (exec (.resetNRequest late (some d)) s) fun t =>
      t.pow.resetLow = true ∧ t.pow.cause = 5 ∧ t.pow.saved = true ∧ t.pow.saving = false) ∧
  (∀ (s : State), Answers (exec .resetNRelease s) fun t => t.pow = { s.pow with resetLow := false } ∧ RegsBut [] s t ∧ Within [.pow] s t) ∧
  (∀ (s : State) (p : Path) (late d : Nat), HostMay p 2 s → Answers (exec (.hostModuleReset p late (some d)) s) fun t =>
      t.pow.cause = 6 ∧ t.pow.saved = true ∧ t.pow.saving = false ∧ t.out.head? = some (.hostStatus p 0)) ∧
  (∀ (s : State) (p : Path), HostMay p 2 s → s.on Fd.UPD_STAT_TRIAL = false → Answers (exec (.hostCoresReset p) s) fun t =>
      t.get Fd.SYS_RSTCAUSE_LAST = 10 ∧ t.get Fd.SYS_RSTCAUSE_PREV = s.get Fd.SYS_RSTCAUSE_LAST ∧
        t.get Fd.SYS_STARTS_CORES = min (s.get Fd.SYS_STARTS_CORES + 1) 0xFFFF ∧
        t.pow = { s.pow with coreResets := s.regN Reg.SYS_UPTIME :: s.pow.coreResets } ∧ t.mail = .zero ∧ t.dlm.assocs = [] ∧
        t.out.head? = some (.hostStatus p 0) ∧
        Within [.regs, .tok, .bil, .q, .ses, .dlm, .mail, .pow, .upd, .out] s t) ∧
  (∀ (s : State) (late : Nat) (save : Option Nat), s.pow.coreResets = [] → s.on Fd.UPD_STAT_TRIAL = false → Answers (exec (.coreWatchdogExpiry late save) s) fun t =>
      t.get Fd.SYS_RSTCAUSE_LAST = 9 ∧ t.get Fd.SYS_RSTCAUSE_PREV = s.get Fd.SYS_RSTCAUSE_LAST ∧
        t.pow = { s.pow with coreResets := [s.regN Reg.SYS_UPTIME] } ∧ t.mail = .zero ∧ t.dlm.assocs = []) ∧
  (∀ (s : State) (late d u v w : Nat), s.running = true → s.pow.saving = false → s.pow.resetLow = false → s.pow.coreResets = [u, v, w] →
    s.regN Reg.SYS_UPTIME ≤ u + 600 → s.regN Reg.SYS_UPTIME ≤ v + 600 → s.regN Reg.SYS_UPTIME ≤ w + 600 → s.on Fd.UPD_STAT_TRIAL = false →
    Answers (exec (.coreWatchdogExpiry late (some d)) s) fun t => t.pow.cause = 11 ∧ t.pow.saved = true) ∧
  (∀ (s : State), s.tok.deferred = [] → Answers (exec .dieTemperatureWarm s) fun t =>
      t.on Fd.PWR_TEMP_WARM = true ∧ t.on Fd.PWR_TEMPEVT_WARM = true ∧ t.get Fd.TOK_BUDGET_LOGICMW = min 4000 (s.parN Par.LOGIC_BUDGET) % 65536 ∧
        t.get Fd.TOK_BUDGET_INRUSHMA = s.parN Par.INRUSH_BUDGET % 65536 ∧ RegsBut [Reg.PWR_TEMP, Reg.PWR_TEMPEVT, Reg.TOK_BUDGET] s t ∧ Within [.regs] s t) ∧
  (∀ (s : State), s.tok.deferred = [] → s.on Fd.PWR_TEMP_WARM = true → Answers (exec .dieTemperatureCool s) fun t =>
      t.on Fd.PWR_TEMP_WARM = false ∧ t.get Fd.TOK_BUDGET_LOGICMW = s.parN Par.LOGIC_BUDGET % 65536 ∧ RegsBut [Reg.PWR_TEMP, Reg.TOK_BUDGET] s t ∧
        Within [.regs] s t) ∧
  (∀ (s : State), s.on Fd.PWR_TEMP_WARM = false → Answers (exec .dieTemperatureCool s) fun t => t = s) ∧
  (∀ (s : State) (late d : Nat), s.running = true → s.pow.saving = false → Answers (exec (.dieTemperatureShutdown late (some d)) s) fun t =>
      t.on Fd.PWR_TEMP_HOT = true ∧ t.on Fd.PWR_TEMPEVT_SHUT = true ∧ t.get Fd.SYS_FLTLAST_CLASS = 4 ∧ t.pow.cause = 8 ∧ t.pow.hot = true ∧
        t.pow.saved = true) ∧
  (∀ (s : State), Answers (exec .dieCooledRestart s) fun t =>
      t.on Fd.PWR_TEMP_HOT = false ∧ t.pow = { s.pow with hot := false } ∧ RegsBut [Reg.PWR_TEMP] s t ∧ Within [.regs, .pow] s t)

/-- R219, R229, R577, R581 to R584: the clocks of the islands, the Battery island's crystal, and its calibration. The model's readings and choices behind
it: log entries 114, 217, 261, 262. -/
def Obligations.ClocksAndCrystal : Prop :=
  (∀ (s : State) (late : Nat) (save : Option Nat), s.held .signalBox = false → s.get (Fd.CLK_ISL_SRC 2) = 0 →
    Answers (exec (.clockFault .signalBox true late save) s) fun t =>
      t.on Fd.CLK_EVT_FAULT = true ∧ t.bitOf Reg.CLK_STAT 2 = false ∧ t.held .signalBox = true ∧ t.pow = { s.pow with sigSpare := true } ∧
        t.get Fd.SYS_FLTLAST_CLASS = 3 ∧ t.get Fd.SYS_FLTLAST_ISL = 2 ∧ t.get Fd.SYS_FLTLAST_CAUSE = 1 ∧
        RegsBut ([Reg.CLK_EVT, Reg.CLK_STAT, Reg.CLK_ISL 2, Reg.SYS_FLT, Reg.SYS_FLTLAST, Reg.SYS_FLTCNT 2] ++ (List.range 21).map (fun x => Reg.SYS_XSTAT x)
          ++ causeRegs) s t ∧ Within [.regs, .xings, .logs, .saf, .x03, .x04, .x09, .x19, .pow] s t) ∧
  (∀ (s : State) (late : Nat) (save : Option Nat), s.held .amene = true → s.get (Fd.CLK_ISL_SRC 5) = 0 → Answers (exec (.clockFault .amene true late save) s) fun t =>
      t.on Fd.CLK_EVT_FAULT = true ∧ t.on Fd.CLK_EVT_SWITCH = true ∧ t.get (Fd.CLK_ISL_SRC 5) = 1 ∧ t.bitOf Reg.CLK_STAT 5 = true ∧
        t.bitOf Reg.CLK_STAT 21 = true ∧ t.get Fd.SYS_FLTLAST_CLASS = 1 ∧ t.get Fd.SYS_FLTLAST_ISL = 5 ∧ t.get Fd.SYS_FLTLAST_CAUSE = 1 ∧
        RegsBut [Reg.CLK_EVT, Reg.CLK_STAT, Reg.CLK_ISL 5, Reg.SYS_FLTLAST, Reg.SYS_FLT] s t ∧ Within [.regs] s t) ∧
  (∀ (s : State) (late : Nat) (save : Option Nat), s.held .amene = true → Answers (exec (.clockFault .amene false late save) s) fun t =>
      t.on Fd.CLK_EVT_FAULT = true ∧ t.on Fd.CLK_EVT_NOSPARE = true ∧ t.get (Fd.CLK_ISL_STATE 5) = 2 ∧ t.bitOf Reg.CLK_STAT 5 = false ∧
        RegsBut [Reg.CLK_EVT, Reg.CLK_STAT, Reg.CLK_ISL 5, Reg.SYS_FLTLAST, Reg.SYS_FLT] s t ∧ Within [.regs] s t) ∧
  (∀ (s : State), Answers (exec .batteryCrystalFault s) fun t =>
      t.on Fd.CLK_EVT_FAULT = true ∧ t.bitOf Reg.CLK_STAT 8 = false ∧ t.get (Fd.CLK_ISL_SRC 8) = 2 ∧
        RegsBut [Reg.CLK_EVT, Reg.CLK_STAT, Reg.CLK_ISL 8] s t ∧ Within [.regs] s t) ∧
  (∀ (s : State), s.get (Fd.CLK_ISL_SRC 8) = 2 → Answers (exec (.batterySpareReturn true 0) s) fun t =>
      t.get (Fd.CLK_ISL_SRC 8) = 1 ∧ t.bitOf Reg.CLK_STAT 8 = true ∧ t.bitOf Reg.CLK_STAT 24 = true ∧ t.on Fd.CLK_EVT_SWITCH = true ∧ t.btm = s.btm ∧
        RegsBut [Reg.CLK_ISL 8, Reg.CLK_STAT, Reg.CLK_EVT, Reg.SYS_FLTLAST, Reg.SYS_FLT] s t ∧ Within [.regs] s t) ∧
  (∀ (s : State) (err : Int), s.get (Fd.CLK_ISL_SRC 8) = 2 → err ≠ 0 → s.running = false → Answers (exec (.batterySpareReturn true err) s) fun t =>
      t.get (Fd.CLK_ISL_SRC 8) = 1 ∧ t.btm = { s.btm with slew := err * 5 } ∧ t.on Fd.BTM_STAT_SLEW = true ∧
        RegsBut [Reg.CLK_ISL 8, Reg.CLK_STAT, Reg.CLK_EVT, Reg.SYS_FLTLAST, Reg.SYS_FLT, Reg.BTM_SLEWREM, Reg.BTM_STAT] s t ∧ Within [.regs, .btm] s t) ∧
  (∀ (s : State) (err : Int), s.get (Fd.CLK_ISL_SRC 8) = 2 → s.running = false → Answers (exec (.batterySpareReturn false err) s) fun t =>
      t.on Fd.CLK_EVT_XBFAIL = true ∧ t.on Fd.BTM_EVT_CLKLOST = true ∧ t.on Fd.BTM_STAT_VALID = false ∧ t.pow = { s.pow with clkNote := true } ∧
        RegsBut [Reg.CLK_EVT, Reg.BTM_EVT, Reg.BTM_STAT] s t ∧ Within [.regs, .pow] s t) ∧
  (∀ (s : State) (ok : Bool) (err : Int), s.get (Fd.CLK_ISL_SRC 8) ≠ 2 → Answers (exec (.batterySpareReturn ok err) s) fun t => t = s) ∧
  (∀ (s : State) (p : Path), HostMay p 1 s → Answers (exec (.xbCalibrate p) s) fun t =>
      t.pow = { s.pow with xbCal := true } ∧ t.out = .hostStatus p 0 :: s.out ∧ RegsBut (hostRegs p) s t ∧ Within [.regs, .pow, .out] s t) ∧
  (∀ (s : State) (n : Nat) (temp : Int), s.pow.xbCal = true → Answers (exec (.xbCalibrateDone (some n) temp) s) fun t =>
      t.reg Reg.CLK_XBMEAS = BitVec.ofInt 32 (Exact.toInt (((n : Rat) - 32768000) / 32768000 * 100000000
        - (s.par Par.XB_BETA : Rat) * (((temp - s.par Par.XB_T0) * (temp - s.par Par.XB_T0) : Int) : Rat) / 1000)) ∧
        t.pow = { s.pow with xbCal := false } ∧ RegsBut [Reg.CLK_XBMEAS] s t ∧ Within [.regs, .pow] s t) ∧
  (∀ (s : State) (temp : Int), s.pow.xbCal = true → Answers (exec (.xbCalibrateDone none temp) s) fun t =>
      t.pow = { s.pow with xbCal := false } ∧ RegsBut [] s t ∧ Within [.pow] s t) ∧
  (∀ (s : State), s.running = false → s.held .battery = false → Answers (exec .batteryIslandRestart s) fun t =>
      t.regN Reg.BTM_TIME = (s.regN Reg.BTM_HWS + 1) % 2 ^ 32 ∧ t.on Fd.BTM_STAT_VALID = false ∧ t.on Fd.BTM_EVT_CLKLOST = true ∧
        t.btm = { s.btm with tampBuf := [], tampLost := 0xFFFFFFFF, polls := [false, false], slew := 0 } ∧ t.pow = { s.pow with clkNote := true } ∧
        RegsBut [Reg.BTM_TIME, Reg.BTM_STAT, Reg.BTM_EVT] s t ∧ Within [.regs, .btm, .pow] s t)

/-- R595 to R601, R604: the scrub, the replacement of worn units, and the hourly update of wear and life. The model's readings and choices behind it: log
entries 33, 223 to 227, 261. -/
def Obligations.MemoryHealth : Prop :=
  (∀ (s : State), s.on Fd.MEM_STAT_SCRUB = true → s.pfw = false → (∀ e ∈ s.mem.pass, e.1 < 2 ∨ e.2.2 < s.parN Par.NVM_SECLIM) →
    Answers (exec .scrubPassDone s) fun t =>
      t.regN Reg.MEM_SCRUBCNT = min (s.regN Reg.MEM_SCRUBCNT + 1) 0xFFFFFFFF ∧ t.get Fd.MEM_STAT_SCRUBPCT = 0 ∧
        t.mem = { s.mem with pass := [], symLast := s.mem.symNow, symNow := [] } ∧ RegsBut [Reg.MEM_SCRUBCNT, Reg.MEM_STAT] s t ∧ Within [.regs, .mem] s t) ∧
  (∀ (s : State) (m u n : Nat), s.on Fd.MEM_STAT_SCRUB = true → s.pfw = false → s.mem.pass = [(m, u, n)] → s.parN Par.NVM_SECLIM ≤ n →
    m + s.get Fd.UPD_STAT_BANK = 3 → s.mem.moves = [] → (s.mem.remap.filter (fun e => e.1 == m)).length < 10 → Answers (exec .scrubPassDone s) fun t =>
      t.mem.remap = s.mem.remap ++ [(m, u)] ∧ t.mem.events = s.mem.events ++ [(2, s.regN Reg.MEM_HOURS)] ∧ t.mem.pass = [] ∧ t.mem.moves = [] ∧
        t.on Fd.MEM_EVT_REPLACE = true ∧ t.get (Fd.MEM_KIND_USED 2) = (s.get (Fd.MEM_KIND_USED 2) + 1) % 2048 ∧
        RegsBut [Reg.MEM_SCRUBCNT, Reg.MEM_STAT, Reg.MEM_EVT, Reg.MEM_KIND 2, Reg.SYS_FLTLAST, Reg.SYS_FLT] s t ∧ Within [.regs, .mem] s t) ∧
  (∀ (s : State), s.pfw = true → Answers (exec .scrubPassDone s) fun t => t = s) ∧
  (∀ (s : State), Answers (exec .scrubLate s) fun t => t.on Fd.MEM_EVT_SCRUBLATE = true ∧ RegsBut [Reg.MEM_EVT] s t ∧ Within [.regs] s t) ∧
  (∀ (s : State) (u : Nat) (lost : Bool), s.mem.moves = [⟨1, u, lost⟩] → s.pfw = false → Answers (exec (.sectorMoveDone 1 u 0) s) fun t =>
      t.mem = { s.mem with moves := [], remap := s.mem.remap ++ [(1, u)], events := s.mem.events ++ [(1, s.regN Reg.MEM_HOURS)] } ∧
        t.on Fd.MEM_EVT_REPLACE = true ∧ t.on Fd.MEM_STAT_MOVING = false ∧ t.get (Fd.MEM_KIND_USED 1) = (s.get (Fd.MEM_KIND_USED 1) + 1) % 2048 ∧
        t.get Fd.SYS_FLTLAST_CLASS = 1 ∧ t.get Fd.SYS_FLTLAST_CAUSE = 2 ∧
        RegsBut [Reg.MEM_EVT, Reg.MEM_STAT, Reg.MEM_KIND 1, Reg.SYS_FLTLAST, Reg.SYS_FLT] s t ∧ Within [.regs, .mem] s t) ∧
  (∀ (s : State) (m u mism : Nat), mism ≠ 0 ∨ s.pfw = true → Answers (exec (.sectorMoveDone m u mism) s) fun t => t = s) ∧
  (∀ (s : State) (mram nvm : Nat), s.mem.tempN ≠ 0 → Answers (exec (.healthUpdate mram nvm) s) fun t =>
      t.regN Reg.MEM_HOURS = min (s.regN Reg.MEM_HOURS + 1) 0xFFFFFFFF ∧
        t.mem.age = s.mem.age + Config.pow2 (((s.mem.tempSum : Rat) / ((10 * s.mem.tempN : Nat) : Rat) - 55) / 10) ∧ t.mem.tempSum = 0 ∧ t.mem.tempN = 0 ∧
        t.mem.highs = s.mem.highs ++ [(t.regN Reg.MEM_HOURS, mram, nvm)] ∧ t.mem.remap = s.mem.remap ∧ t.free = s.free ∧
        RegsBut ([Reg.MEM_HOURS, Reg.MEM_AGE, Reg.MEM_EVT, Reg.PTS_ENG 0, Reg.PTS_ENG 1] ++ (List.range 9).map (fun k => Reg.MEM_KIND k)
          ++ (List.range 9).map (fun k => Reg.MEM_LIFE k)) s t ∧ Within [.regs, .mem, .free] s t)

/-- R610, R611, R615, R618: the shadow set of a channel, its activation, completion, and a stop. The model's readings and choices behind it: log entries
231, 232, 261. -/
def Obligations.ShunterChannels : Prop :=
  (∀ (s : State) (p : Path) (ch : Nat) (cfg : Word), HostMay p 3 s → ch < 32 → s.bitOf Reg.SHN_SHDV ch = false → s.get (Fd.SHN_CH_STATE ch) = 1 →
    Bits.bit cfg 31 = true → Answers (exec (.shadowArm p ch cfg) s) fun t =>
      t.bitOf Reg.SHN_SHDV ch = true ∧ t.reg (Reg.SHN_DESC ch 11) = cfg &&& 0x80003F7F ∧ t.out = .hostStatus p 0 :: s.out ∧
        RegsBut ([Reg.SHN_SHDV, Reg.SHN_DESC ch 11] ++ hostRegs p) s t ∧ Within [.regs, .out] s t) ∧
  (∀ (s : State) (p : Path) (ch : Nat) (cfg : Word), HostMay p 3 s → ch < 32 → s.bitOf Reg.SHN_SHDV ch = true → Answers (exec (.shadowArm p ch cfg) s) fun t =>
      t.get (Fd.SHN_CH_ERRCODE ch) = 7 ∧ t.bitOf Reg.SHN_ERR ch = true ∧ t.out = .hostStatus p 0 :: s.out ∧
        RegsBut ([Reg.SHN_CH ch, Reg.SHN_ERR] ++ hostRegs p) s t ∧ Within [.regs, .out] s t) ∧
  (∀ (s : State) (p : Path) (ch : Nat) (cfg : Word), HostMay p 3 s → ch < 32 → s.bitOf Reg.SHN_SHDV ch = false → s.get (Fd.SHN_CH_STATE ch) = 0 →
    Bits.bit cfg 31 = true → shnQueues ch = [] → s.regN (Reg.SHN_DESC ch 10) % 2 ^ 24 = 0 → Answers (exec (.shadowArm p ch cfg) s) fun t =>
      t.get (Fd.SHN_CH_STATE ch) = 3 ∧ t.get (Fd.SHN_CH_ERRCODE ch) = 4 ∧ t.bitOf Reg.SHN_ERR ch = true ∧ t.bitOf Reg.SHN_SHDV ch = false ∧
        t.bitOf Reg.SHN_BUSY ch = false ∧
        RegsBut ([Reg.SHN_CH ch, Reg.SHN_ERR, Reg.SHN_SHDV, Reg.SHN_BUSY, Reg.SHN_DESC ch 11] ++ (List.range 8).map (fun w => Reg.SHN_DESC ch w) ++ hostRegs p) s t ∧
        Within [.regs, .out] s t) ∧
  (∀ (s : State) (p : Path) (cfg : Word), HostMay p 3 s → s.bitOf Reg.SHN_SHDV 31 = false → s.get (Fd.SHN_CH_STATE 31) = 0 →
    cfg &&& 0x80003F7F = 0x80000000 → s.regN (Reg.SHN_DESC 31 8) = 0x10000000 → s.regN (Reg.SHN_DESC 31 9) = 0x10000100 → s.regN (Reg.SHN_DESC 31 10) = 16 →
    s.regN (Reg.SHN_DESC 31 12) = 0 → Answers (exec (.shadowArm p 31 cfg) s) fun t =>
      (∀ w, w < 8 → w ≠ 3 → t.reg (Reg.SHN_DESC 31 w) = s.reg (Reg.SHN_DESC 31 (8 + w))) ∧ t.reg (Reg.SHN_DESC 31 3) = 0x80000000 ∧
        t.get (Fd.SHN_CH_STATE 31) = 1 ∧ t.get (Fd.SHN_CH_DONE 31) = 0 ∧ t.bitOf Reg.SHN_BUSY 31 = true ∧ t.bitOf Reg.SHN_SHDV 31 = false ∧
        t.on (Fd.SHN_DESC_VALID 31 11) = false ∧ t.reg Reg.SHN_ERR = s.reg Reg.SHN_ERR ∧
        RegsBut ([Reg.SHN_BUSY, Reg.SHN_SHDV, Reg.SHN_CH 31] ++ (List.range 16).map (fun w => Reg.SHN_DESC 31 w) ++ hostRegs p) s t ∧ Within [.regs, .out] s t) ∧
  (∀ (s : State) (ch : Nat), ch < 32 → shnEnded s ch = true → Bits.bit (s.reg (Reg.SHN_DESC ch 3)) 6 = false → s.bitOf Reg.SHN_SHDV ch = false →
    Answers (exec (.descriptorComplete ch) s) fun t =>
      t.bitOf Reg.SHN_DONE ch = true ∧ t.get (Fd.SHN_CH_STATE ch) = 0 ∧ t.bitOf Reg.SHN_BUSY ch = false ∧ t.on (Fd.SHN_DESC_VALID ch 3) = false ∧
        RegsBut [Reg.SHN_DONE, Reg.SHN_CH ch, Reg.SHN_BUSY, Reg.SHN_DESC ch 3] s t ∧ Within [.regs] s t) ∧
  (∀ (s : State) (ch : Nat), s.get (Fd.SHN_CH_STATE ch) ≠ 1 → Answers (exec (.descriptorComplete ch) s) fun t => t = s) ∧
  (∀ (s : State) (p : Path) (v : Word) (ch : Nat), HostMay p 3 s → Bits.bit v 8 = true → v.toNat % 32 = ch → shnEnded s ch = false →
    Answers (exec (.shunterChannelStop p v) s) fun t =>
      t.get (Fd.SHN_CH_STATE ch) = 2 ∧ t.get (Fd.SHN_CH_ERRCODE ch) = 6 ∧ t.bitOf Reg.SHN_ERR ch = true ∧ t.bitOf Reg.SHN_BUSY ch = false ∧
        t.bitOf Reg.SHN_SHDV ch = false ∧ t.out = .hostStatus p 0 :: s.out ∧
        RegsBut ([Reg.SHN_CH ch, Reg.SHN_ERR, Reg.SHN_BUSY, Reg.SHN_SHDV, Reg.SHN_DESC ch 3, Reg.SHN_DESC ch 11] ++ hostRegs p) s t ∧ Within [.regs, .out] s t) ∧
  (∀ (s : State) (p : Path) (v : Word), HostMay p 3 s → Bits.bit v 8 = false → Answers (exec (.shunterChannelStop p v) s) fun t =>
      t.out = .hostStatus p 0 :: s.out ∧ RegsBut (hostRegs p) s t ∧ Within [.regs, .out] s t)

/-- R32, R643 to R646: faults of islands and of the module, the islands held, and their restart. The model's readings and choices behind it: log entries
114, 214, 252, 257, 261. -/
def Obligations.IslandFaults : Prop :=
  (∀ (s : State) (cause late : Nat) (save : Option Nat), s.held .amene = false → s.pow.saving = false → s.pow.restarts = [] → cause < 256 →
    Answers (exec (.islandFault .amene cause late save) s) fun t =>
      t.held .amene = true ∧ t.get (Fd.CLK_ISL_STATE 5) = 3 ∧ t.get Fd.SYS_FLTLAST_CLASS = 3 ∧ t.get Fd.SYS_FLTLAST_ISL = 5 ∧
        t.get Fd.SYS_FLTLAST_CAUSE = cause ∧ t.on Fd.SYS_FLT_NEW = true ∧ t.x11 = [] ∧ t.pow.cause = s.pow.cause ∧
        (∀ i : Island, i ≠ .amene → t.held i = s.held i) ∧ Within [.regs, .xings, .tok, .logs, .q, .pow, .amb, .x11] s t) ∧
  (∀ (s : State) (i : Island) (cause late : Nat) (save : Option Nat), s.held i = true → Answers (exec (.islandFault i cause late save) s) fun t => t = s) ∧
  (∀ (s : State) (cause late : Nat) (save : Option Nat), s.held .battery = false → cause < 256 → Answers (exec (.islandFault .battery cause late save) s) fun t =>
      t.held .battery = true ∧ t.get (Fd.CLK_ISL_STATE 8) = 3 ∧ t.get Fd.SYS_FLTLAST_CLASS = 3 ∧ t.get Fd.SYS_FLTLAST_ISL = 8 ∧
        t.get Fd.SYS_FLTLAST_CAUSE = cause ∧ RegsBut [Reg.SYS_FLT, Reg.SYS_FLTLAST, Reg.CLK_ISL 8] s t ∧ Within [.regs, .logs] s t) ∧
  (∀ (s : State) (late : Nat) (save : Option Nat), s.held .core = false → s.pow.cause = 0 → s.pow.saved = false →
    Answers (exec (.islandFault .core 1 late save) s) fun t =>
      t.pow = { s.pow with saving := false, cause := 7 } ∧ t.get Fd.SYS_FLTLAST_CLASS = 4 ∧ t.get Fd.SYS_FLTLAST_ISL = 0 ∧ t.get Fd.SYS_FLTLAST_CAUSE = 1 ∧
        t.bil = { s.bil with pend := [], due := [], stopped := true } ∧ t.btm.outage.map (·.lost) = some 0xFFFFFFFF) ∧
  (∀ (s : State) (cause late u v : Nat), s.held .service = false → s.pow.saving = false → s.pow.saved = false → s.pow.cause = 0 →
    s.pow.restarts = [(6, u), (6, v)] → s.regN Reg.SYS_UPTIME ≤ u + 600 → s.regN Reg.SYS_UPTIME ≤ v + 600 →
    Answers (exec (.islandFault .service cause late none) s) fun t =>
      t.held .service = true ∧ t.pow.cause = 8 ∧ t.pow.suspect = some 6 ∧ t.get Fd.SYS_FLTLAST_CLASS = 4 ∧ t.get Fd.SYS_FLTLAST_ISL = 6 ∧
        t.get Fd.SYS_FLTLAST_CAUSE = 7) ∧
  (∀ (s : State) (bad : Nat), s.held .amene = true → s.pow.suspect = none → s.bitOf Reg.CLK_STAT 5 = true → Answers (exec (.islandRestartDone .amene bad) s) fun t =>
      t.held .amene = false ∧ t.get (Fd.CLK_ISL_STATE 5) = 0 ∧ t.pow = { s.pow with restarts := (5, s.regN Reg.SYS_UPTIME) :: s.pow.restarts } ∧
        t.get (Fd.SYS_FLTCNT_RESTARTS 5) = min (s.get (Fd.SYS_FLTCNT_RESTARTS 5) + 1) 0xFFFF ∧ t.on (Fd.SYS_XSTAT_NOOVF 11) = true ∧
        t.on (Fd.SYS_XSTAT_NOOVF 12) = true ∧
        RegsBut [Reg.SYS_FLT, Reg.SYS_FLTCNT 5, Reg.CLK_ISL 5, Reg.AMB_STAT, Reg.SYS_XSTAT 11, Reg.SYS_XSTAT 12] s t ∧ Within [.regs, .pow] s t) ∧
  (∀ (s : State) (bad : Nat), Answers (exec (.islandRestartDone .signalBox bad) s) fun t => t = s) ∧
  (∀ (s : State) (i : Island) (bad : Nat), s.held i = false → Answers (exec (.islandRestartDone i bad) s) fun t => t = s) ∧
  (∀ (s : State) (i : Island) (bad : Nat), s.pow.suspect = some i.num → Answers (exec (.islandRestartDone i bad) s) fun t => t = s) ∧
  (∀ (s : State) (i : Island) (cause late : Nat), s.pow.cause = 0 → s.pow.saved = false → cause < 256 → Answers (exec (.moduleFault i cause late none) s) fun t =>
      t.pow = { s.pow with saving := false, cause := 8 } ∧ t.get Fd.SYS_FLTLAST_CLASS = 4 ∧ t.get Fd.SYS_FLTLAST_ISL = i.num ∧
        t.get Fd.SYS_FLTLAST_CAUSE = cause ∧ t.bil = { s.bil with pend := [], due := [], stopped := true }) ∧
  (∀ (s : State) (i : Island) (cause late d : Nat), s.pow.cause = 0 → s.pow.saved = false → s.pow.saving = false → cause < 256 →
    Answers (exec (.moduleFault i cause late (some d)) s) fun t => t.pow.cause = 8 ∧ t.pow.saved = true ∧ t.get Fd.SYS_FLTLAST_CLASS = 4) ∧
  (∀ (s : State) (i : Island) (cause late : Nat) (save : Option Nat), s.pow.cause ≠ 0 → cause < 256 → Answers (exec (.moduleFault i cause late save) s) fun t =>
      t.get Fd.SYS_FLTLAST_CLASS = 4 ∧ t.get Fd.SYS_FLTLAST_CAUSE = cause ∧ RegsBut [Reg.SYS_FLT, Reg.SYS_FLTLAST] s t ∧ Within [.regs, .logs] s t) ∧
  (∀ (s : State) (x late : Nat) (save : Option Nat), x < 21 → Answers (exec (.crossingLossDetect x late save) s) fun t =>
      t.on (Fd.SYS_XSTAT_NOOVF x) = false ∧ (∀ i ∈ xingJoined x, i ≠ .core → t.held i = true)) ∧
  (∀ (s : State) (x late : Nat) (save : Option Nat), 21 ≤ x → Answers (exec (.crossingLossDetect x late save) s) fun t => t = s)

/-- R242, R292, R330, R361: the reports of the Signal Box taken by the Core island. The model's readings and choices behind it: log entries 87, 103, 105,
261. -/
def Obligations.SafetyReports : Prop :=
  (∀ (s : State), s.x03 = [] → Answers (exec .safetyStatusReceive s) fun t => t = s) ∧
  (∀ (s : State), s.running = false → Answers (exec .safetyStatusReceive s) fun t => t = s) ∧
  (∀ (s : State) (l : List SafReport), s.running = true → s.x03 = .opened :: l → sesSt s ≠ 9 → Answers (exec .safetyStatusReceive s) fun t =>
      t.x03 = l ∧ RegsBut [] s t ∧ Within [.x03] s t) ∧
  (∀ (s : State) (l : List SafReport), s.running = true → s.x03 = .cause 8 :: l → sesSt s = 7 → s.ses.dc = false → contactorOn s = true →
    Answers (exec .safetyStatusReceive s) fun t =>
      sesSt t = 9 ∧ t.ses.reason = 7 ∧ t.ses.openSent = true ∧ t.ses.tripped = true ∧ t.ses.iset = 0 ∧ t.ses.duty = 0 ∧ t.x03 = l ∧
        (s.tok.deferred = [] → RegsBut (Reg.SES_ISET :: stopRegs) s t) ∧
        Within [.regs, .tok, .bil, .btm, .saf, .x03, .x04, .x06, .q, .grpSeq, .ses, .amb, .eth, .x11, .out] s t) ∧
  (∀ (s : State) (l : List SafReport), s.running = true → s.x03 = .cause 16 :: l → s.saf.pilot = 0 → sesSt s = 7 → s.ses.dc = false → contactorOn s = true →
    Answers (exec .safetyStatusReceive s) fun t => sesSt t = 9 ∧ t.ses.reason = 1 ∧ t.ses.openSent = true ∧ t.x03 = l ∧
        (s.tok.deferred = [] → RegsBut (Reg.SES_ISET :: stopRegs) s t) ∧
        Within [.regs, .tok, .bil, .btm, .saf, .x03, .x04, .x06, .q, .grpSeq, .ses, .amb, .eth, .x11, .out] s t) ∧
  (∀ (s : State) (l : List SafReport) (n : Nat), s.running = true → s.x03 = .cause n :: l → n ≠ 16 → sesSt s = 0 → Answers (exec .safetyStatusReceive s) fun t =>
      t.x03 = l ∧ RegsBut [] s t ∧ Within [.x03] s t) ∧
  (∀ (s : State) (l : List SafReport), s.running = true → s.x03 = .closed :: l → sesSt s = 4 → s.ses.dc = false → s.tok.held = [] →
    Answers (exec .safetyStatusReceive s) fun t =>
      sesSt t = 7 ∧ t.on Fd.SES_EVT_ENERGY = true ∧ t.x03 = l ∧ RegsBut [Reg.SES_STAT, Reg.SES_EVT] s t ∧ Within [.regs, .x03] s t) ∧
  (∀ (s : State) (l : List SafReport) (reason : Nat) (n : Option Nat), s.running = true → s.x03 = .refused reason n :: l → sesSt s = 4 → contactorOn s = true →
    s.ses.dc = false →
    Answers (exec .safetyStatusReceive s) fun t => StopBegun 7 t ∧ t.ses.refuse = reason ∧ t.x03 = l ∧
        (s.tok.deferred = [] → RegsBut stopRegs s t) ∧ Within [.regs, .tok, .bil, .btm, .saf, .x03, .x04, .x06, .q, .grpSeq, .ses, .amb, .eth, .x11, .out] s t) ∧
  (∀ (s : State) (l : List SafReport), s.running = true → s.x03 = .idle :: l → sesSt s ≠ 9 → s.held .core = false → s.saf.trip.wanted = true →
    Answers (exec .safetyStatusReceive s) fun t =>
      t.saf = { s.saf with trip := { s.saf.trip with asked := true } } ∧ t.x03 = l ∧ RegsBut [] s t ∧ Within [.saf, .x03] s t)

end Statements
end

