-- ==== Sys2Proof/Laws/Sparse.lean ====
section
/-!
SUPPORT. Laws of sparse storage: a read after a write, and that a write keeps the canonical form.
-/
namespace Sys2Proof.Sparse

variable {α : Type}

theorem get_erase_self (d : Nat → α) (m : List (Nat × α)) (a : Nat) : get d (erase m a) a = d a := by
  induction m with
  | nil => rfl
  | cons e m ih =>
    by_cases h : e.1 = a
    · simpa [erase, h] using ih
    · have h' : ¬ a = e.1 := fun x => h x.symm
      simp only [erase] at ih ⊢
      simp [h, get, h', ih]

theorem get_erase_of_ne (d : Nat → α) (m : List (Nat × α)) {a b : Nat} (h : b ≠ a) : get d (erase m a) b = get d m b := by
  induction m with
  | nil => rfl
  | cons e m ih =>
    simp only [erase] at ih ⊢
    by_cases h' : e.1 = a
    · have : ¬ b = e.1 := by omega
      simp [h', get, ih, h]
    · simp [h', get, ih]

theorem get_insert_self (d : Nat → α) (m : List (Nat × α)) (a : Nat) (x : α) : get d (insert m a x) a = x := by
  induction m with
  | nil => simp [insert, get]
  | cons e m ih =>
    unfold insert
    split
    · simp [get]
    · split
      · simp [get]
      · simp [get, *]

theorem get_insert_of_ne (d : Nat → α) (m : List (Nat × α)) {a b : Nat} (x : α) (h : b ≠ a) :
    get d (insert m a x) b = get d m b := by
  induction m with
  | nil => simp [insert, get, h]
  | cons e m ih =>
    unfold insert
    split
    · simp [get, h]
    · split
      · rename_i h2; subst h2; simp [get, h]
      · simp [get, ih]

variable [DecidableEq α]

/-- A read of the key just written gives what was written. -/
theorem get_set_self (d : Nat → α) (m : List (Nat × α)) (a : Nat) (x : α) : get d (set d m a x) a = x := by
  unfold set
  split
  · rename_i h; rw [get_erase_self, h]
  · exact get_insert_self d m a x

/-- A read of another key gives what it gave before. -/
theorem get_set_of_ne (d : Nat → α) (m : List (Nat × α)) {a b : Nat} (x : α) (h : b ≠ a) :
    get d (set d m a x) b = get d m b := by
  unfold set
  split
  · exact get_erase_of_ne d m h
  · exact get_insert_of_ne d m x h

/-- The canonical form in other words. -/
theorem wf_iff (d : Nat → α) (m : List (Nat × α)) : wf d m = true ↔ rising m = true ∧ ∀ e ∈ m, e.2 ≠ d e.1 := by
  simp [wf]

omit [DecidableEq α] in
theorem above_mono {m : List (Nat × α)} {b c : Nat} (hbc : b ≤ c) (h : above c m = true) : above b m = true := by
  cases m with
  | nil => rfl
  | cons e m => simp only [above, Bool.and_eq_true, decide_eq_true_eq] at h ⊢; exact ⟨by omega, h.2⟩

omit [DecidableEq α] in
theorem above_filter (p : Nat × α → Bool) (m : List (Nat × α)) (b : Nat) (h : above b m = true) : above b (m.filter p) = true := by
  induction m generalizing b with
  | nil => rfl
  | cons e m ih =>
    simp [above] at h
    by_cases hp : p e = true
    · simp [hp, above, h.1, ih e.1 h.2]
    · simp [hp]
      exact ih b (above_mono (Nat.le_of_lt h.1) h.2)

omit [DecidableEq α] in
theorem rising_of_above {m : List (Nat × α)} {b : Nat} (h : above b m = true) : rising m = true := by
  cases m with
  | nil => rfl
  | cons e m => simp [above] at h; exact h.2

omit [DecidableEq α] in
theorem rising_filter (p : Nat × α → Bool) (m : List (Nat × α)) (h : rising m = true) : rising (m.filter p) = true := by
  cases m with
  | nil => rfl
  | cons e m =>
    by_cases hp : p e = true
    · simp [hp, rising]; exact above_filter p m e.1 h
    · simp [hp]; exact rising_of_above (above_filter p m e.1 h)

omit [DecidableEq α] in
theorem above_insert (m : List (Nat × α)) {a b : Nat} (x : α) (hb : b < a) (h : above b m = true) : above b (insert m a x) = true := by
  induction m generalizing b with
  | nil => simp [insert, above, hb]
  | cons e m ih =>
    simp [above] at h
    unfold insert
    split
    · rename_i h1; simp [above, hb, h1, h.2]
    · split
      · rename_i h2; subst h2; simp [above, h.1, h.2]
      · simp [above, h.1]; exact ih (by omega) h.2

omit [DecidableEq α] in
theorem rising_insert (m : List (Nat × α)) (a : Nat) (x : α) (h : rising m = true) : rising (insert m a x) = true := by
  cases m with
  | nil => rfl
  | cons e m =>
    unfold insert
    split
    · rename_i h1; simp [rising, above, h1]; exact h
    · split
      · rename_i h2; subst h2; exact h
      · simp [rising]; exact above_insert m x (by omega) h

omit [DecidableEq α] in
theorem mem_insert {m : List (Nat × α)} {a : Nat} {x : α} {e : Nat × α} (h : e ∈ insert m a x) : e = (a, x) ∨ e ∈ m := by
  induction m with
  | nil => simpa [insert] using h
  | cons c m ih =>
    unfold insert at h
    split at h
    · simpa using h
    · split at h
      · simp only [List.mem_cons] at h ⊢
        rcases h with h | h
        · exact .inl h
        · exact .inr (.inr h)
      · simp only [List.mem_cons] at h ⊢
        rcases h with h | h
        · exact .inr (.inl h)
        · rcases ih h with h | h
          · exact .inl h
          · exact .inr (.inr h)

/-- Filtering keeps the canonical form. -/
theorem wf_filter (d : Nat → α) (p : Nat × α → Bool) {m : List (Nat × α)} (h : wf d m = true) : wf d (m.filter p) = true := by
  rw [wf_iff] at h ⊢
  exact ⟨rising_filter p m h.1, fun e hm => h.2 e (List.mem_filter.1 hm).1⟩

/-- A write keeps the canonical form. -/
theorem wf_set (d : Nat → α) {m : List (Nat × α)} (a : Nat) (x : α) (h : wf d m = true) : wf d (set d m a x) = true := by
  unfold set
  split
  · exact wf_filter d _ h
  · rename_i hx
    rw [wf_iff] at h ⊢
    refine ⟨rising_insert m a x h.1, fun e hm => ?_⟩
    rcases mem_insert hm with h1 | h1
    · cases h1; exact hx
    · exact h.2 e h1

omit [DecidableEq α] in
theorem above_filterMap (f : Nat × α → Option (Nat × α)) (hf : ∀ e c, f e = some c → c.1 = e.1) (m : List (Nat × α)) (b : Nat)
    (h : above b m = true) : above b (m.filterMap f) = true := by
  induction m generalizing b with
  | nil => rfl
  | cons e m ih =>
    simp [above] at h
    cases hc : f e with
    | none => simp [hc]; exact ih b (above_mono (Nat.le_of_lt h.1) h.2)
    | some c =>
      have hk := hf e c hc
      simp [hc, above, hk, h.1]; exact ih e.1 h.2

/-- Rewriting entries in place, none to what an unlisted key reads as, keeps the canonical form. -/
theorem wf_filterMap (d : Nat → α) (f : Nat × α → Option (Nat × α)) (hf : ∀ e c, f e = some c → c.1 = e.1)
    {m : List (Nat × α)} (hd : ∀ e ∈ m, ∀ c, f e = some c → c.2 ≠ d c.1) (h : wf d m = true) : wf d (m.filterMap f) = true := by
  rw [wf_iff] at h ⊢
  refine ⟨?_, fun c hm => ?_⟩
  rotate_left
  · obtain ⟨e, he, hc⟩ := List.mem_filterMap.1 hm
    exact hd e he c hc
  cases m with
  | nil => rfl
  | cons e m =>
    cases hc : f e with
    | none => simp [hc]; exact rising_of_above (above_filterMap f hf m e.1 h.1)
    | some c =>
      have hk := hf e c hc
      simp [hc, rising, hk]; exact above_filterMap f hf m e.1 h.1

end Sys2Proof.Sparse
end

