-- ==== Sys2Proof/Laws/State.lean ====
section
/-!
SUPPORT. What each named update of the state leaves as it is: one lemma per field and update.
-/
namespace Sys2Proof.Machine.State

@[simp] theorem setReg_variant (s : State) (a : Nat) (w : Word) : (s.setReg a w).variant = s.variant := rfl
@[simp] theorem setReg_params (s : State) (a : Nat) (w : Word) : (s.setReg a w).params = s.params := rfl
@[simp] theorem setReg_xings (s : State) (a : Nat) (w : Word) : (s.setReg a w).xings = s.xings := rfl
@[simp] theorem setReg_ttb (s : State) (a : Nat) (w : Word) : (s.setReg a w).ttb = s.ttb := rfl
@[simp] theorem setReg_tok (s : State) (a : Nat) (w : Word) : (s.setReg a w).tok = s.tok := rfl
@[simp] theorem setReg_afe (s : State) (a : Nat) (w : Word) : (s.setReg a w).afe = s.afe := rfl
@[simp] theorem setReg_pts (s : State) (a : Nat) (w : Word) : (s.setReg a w).pts = s.pts := rfl
@[simp] theorem setReg_x00 (s : State) (a : Nat) (w : Word) : (s.setReg a w).x00 = s.x00 := rfl
@[simp] theorem setReg_x01 (s : State) (a : Nat) (w : Word) : (s.setReg a w).x01 = s.x01 := rfl
@[simp] theorem setReg_parPend (s : State) (a : Nat) (w : Word) : (s.setReg a w).parPend = s.parPend := rfl
@[simp] theorem setReg_parNext (s : State) (a : Nat) (w : Word) : (s.setReg a w).parNext = s.parNext := rfl
@[simp] theorem setReg_corrSent (s : State) (a : Nat) (w : Word) : (s.setReg a w).corrSent = s.corrSent := rfl
@[simp] theorem setReg_bil (s : State) (a : Nat) (w : Word) : (s.setReg a w).bil = s.bil := rfl
@[simp] theorem setReg_btm (s : State) (a : Nat) (w : Word) : (s.setReg a w).btm = s.btm := rfl
@[simp] theorem setReg_logs (s : State) (a : Nat) (w : Word) : (s.setReg a w).logs = s.logs := rfl
@[simp] theorem setReg_saf (s : State) (a : Nat) (w : Word) : (s.setReg a w).saf = s.saf := rfl
@[simp] theorem setReg_x03 (s : State) (a : Nat) (w : Word) : (s.setReg a w).x03 = s.x03 := rfl
@[simp] theorem setReg_x19 (s : State) (a : Nat) (w : Word) : (s.setReg a w).x19 = s.x19 := rfl
@[simp] theorem setReg_x04 (s : State) (a : Nat) (w : Word) : (s.setReg a w).x04 = s.x04 := rfl
@[simp] theorem setReg_x05 (s : State) (a : Nat) (w : Word) : (s.setReg a w).x05 = s.x05 := rfl
@[simp] theorem setReg_x06 (s : State) (a : Nat) (w : Word) : (s.setReg a w).x06 = s.x06 := rfl
@[simp] theorem setReg_q (s : State) (a : Nat) (w : Word) : (s.setReg a w).q = s.q := rfl
@[simp] theorem setReg_grpSeq (s : State) (a : Nat) (w : Word) : (s.setReg a w).grpSeq = s.grpSeq := rfl
@[simp] theorem setReg_vl (s : State) (a : Nat) (w : Word) : (s.setReg a w).vl = s.vl := rfl
@[simp] theorem setReg_ses (s : State) (a : Nat) (w : Word) : (s.setReg a w).ses = s.ses := rfl
@[simp] theorem setReg_grt (s : State) (a : Nat) (w : Word) : (s.setReg a w).grt = s.grt := rfl
@[simp] theorem setReg_dlm (s : State) (a : Nat) (w : Word) : (s.setReg a w).dlm = s.dlm := rfl
@[simp] theorem setReg_lsw (s : State) (a : Nat) (w : Word) : (s.setReg a w).lsw = s.lsw := rfl
@[simp] theorem setReg_lcd (s : State) (a : Nat) (w : Word) : (s.setReg a w).lcd = s.lcd := rfl
@[simp] theorem setReg_nfc (s : State) (a : Nat) (w : Word) : (s.setReg a w).nfc = s.nfc := rfl
@[simp] theorem setReg_hif (s : State) (a : Nat) (w : Word) : (s.setReg a w).hif = s.hif := rfl
@[simp] theorem setReg_mail (s : State) (a : Nat) (w : Word) : (s.setReg a w).mail = s.mail := rfl
@[simp] theorem setReg_boot (s : State) (a : Nat) (w : Word) : (s.setReg a w).boot = s.boot := rfl
@[simp] theorem setReg_mem (s : State) (a : Nat) (w : Word) : (s.setReg a w).mem = s.mem := rfl
@[simp] theorem setReg_pow (s : State) (a : Nat) (w : Word) : (s.setReg a w).pow = s.pow := rfl
@[simp] theorem setReg_upd (s : State) (a : Nat) (w : Word) : (s.setReg a w).upd = s.upd := rfl
@[simp] theorem setReg_amb (s : State) (a : Nat) (w : Word) : (s.setReg a w).amb = s.amb := rfl
@[simp] theorem setReg_eth (s : State) (a : Nat) (w : Word) : (s.setReg a w).eth = s.eth := rfl
@[simp] theorem setReg_x09 (s : State) (a : Nat) (w : Word) : (s.setReg a w).x09 = s.x09 := rfl
@[simp] theorem setReg_x11 (s : State) (a : Nat) (w : Word) : (s.setReg a w).x11 = s.x11 := rfl
@[simp] theorem setReg_posts (s : State) (a : Nat) (w : Word) : (s.setReg a w).posts = s.posts := rfl
@[simp] theorem setReg_postOrder (s : State) (a : Nat) (w : Word) : (s.setReg a w).postOrder = s.postOrder := rfl
@[simp] theorem setReg_out (s : State) (a : Nat) (w : Word) : (s.setReg a w).out = s.out := rfl
@[simp] theorem setReg_free (s : State) (a : Nat) (w : Word) : (s.setReg a w).free = s.free := rfl
@[simp] theorem setReg_pending (s : State) (a : Nat) (w : Word) : (s.setReg a w).pending = s.pending := rfl

@[simp] theorem setRegN_variant (s : State) (a v : Nat) : (s.setRegN a v).variant = s.variant := rfl
@[simp] theorem setRegN_params (s : State) (a v : Nat) : (s.setRegN a v).params = s.params := rfl
@[simp] theorem setRegN_xings (s : State) (a v : Nat) : (s.setRegN a v).xings = s.xings := rfl
@[simp] theorem setRegN_ttb (s : State) (a v : Nat) : (s.setRegN a v).ttb = s.ttb := rfl
@[simp] theorem setRegN_tok (s : State) (a v : Nat) : (s.setRegN a v).tok = s.tok := rfl
@[simp] theorem setRegN_afe (s : State) (a v : Nat) : (s.setRegN a v).afe = s.afe := rfl
@[simp] theorem setRegN_pts (s : State) (a v : Nat) : (s.setRegN a v).pts = s.pts := rfl
@[simp] theorem setRegN_x00 (s : State) (a v : Nat) : (s.setRegN a v).x00 = s.x00 := rfl
@[simp] theorem setRegN_x01 (s : State) (a v : Nat) : (s.setRegN a v).x01 = s.x01 := rfl
@[simp] theorem setRegN_parPend (s : State) (a v : Nat) : (s.setRegN a v).parPend = s.parPend := rfl
@[simp] theorem setRegN_parNext (s : State) (a v : Nat) : (s.setRegN a v).parNext = s.parNext := rfl
@[simp] theorem setRegN_corrSent (s : State) (a v : Nat) : (s.setRegN a v).corrSent = s.corrSent := rfl
@[simp] theorem setRegN_bil (s : State) (a v : Nat) : (s.setRegN a v).bil = s.bil := rfl
@[simp] theorem setRegN_btm (s : State) (a v : Nat) : (s.setRegN a v).btm = s.btm := rfl
@[simp] theorem setRegN_logs (s : State) (a v : Nat) : (s.setRegN a v).logs = s.logs := rfl
@[simp] theorem setRegN_saf (s : State) (a v : Nat) : (s.setRegN a v).saf = s.saf := rfl
@[simp] theorem setRegN_x03 (s : State) (a v : Nat) : (s.setRegN a v).x03 = s.x03 := rfl
@[simp] theorem setRegN_x19 (s : State) (a v : Nat) : (s.setRegN a v).x19 = s.x19 := rfl
@[simp] theorem setRegN_x04 (s : State) (a v : Nat) : (s.setRegN a v).x04 = s.x04 := rfl
@[simp] theorem setRegN_x05 (s : State) (a v : Nat) : (s.setRegN a v).x05 = s.x05 := rfl
@[simp] theorem setRegN_x06 (s : State) (a v : Nat) : (s.setRegN a v).x06 = s.x06 := rfl
@[simp] theorem setRegN_q (s : State) (a v : Nat) : (s.setRegN a v).q = s.q := rfl
@[simp] theorem setRegN_grpSeq (s : State) (a v : Nat) : (s.setRegN a v).grpSeq = s.grpSeq := rfl
@[simp] theorem setRegN_vl (s : State) (a v : Nat) : (s.setRegN a v).vl = s.vl := rfl
@[simp] theorem setRegN_ses (s : State) (a v : Nat) : (s.setRegN a v).ses = s.ses := rfl
@[simp] theorem setRegN_grt (s : State) (a v : Nat) : (s.setRegN a v).grt = s.grt := rfl
@[simp] theorem setRegN_dlm (s : State) (a v : Nat) : (s.setRegN a v).dlm = s.dlm := rfl
@[simp] theorem setRegN_lsw (s : State) (a v : Nat) : (s.setRegN a v).lsw = s.lsw := rfl
@[simp] theorem setRegN_lcd (s : State) (a v : Nat) : (s.setRegN a v).lcd = s.lcd := rfl
@[simp] theorem setRegN_nfc (s : State) (a v : Nat) : (s.setRegN a v).nfc = s.nfc := rfl
@[simp] theorem setRegN_hif (s : State) (a v : Nat) : (s.setRegN a v).hif = s.hif := rfl
@[simp] theorem setRegN_mail (s : State) (a v : Nat) : (s.setRegN a v).mail = s.mail := rfl
@[simp] theorem setRegN_boot (s : State) (a v : Nat) : (s.setRegN a v).boot = s.boot := rfl
@[simp] theorem setRegN_mem (s : State) (a v : Nat) : (s.setRegN a v).mem = s.mem := rfl
@[simp] theorem setRegN_pow (s : State) (a v : Nat) : (s.setRegN a v).pow = s.pow := rfl
@[simp] theorem setRegN_upd (s : State) (a v : Nat) : (s.setRegN a v).upd = s.upd := rfl
@[simp] theorem setRegN_amb (s : State) (a v : Nat) : (s.setRegN a v).amb = s.amb := rfl
@[simp] theorem setRegN_eth (s : State) (a v : Nat) : (s.setRegN a v).eth = s.eth := rfl
@[simp] theorem setRegN_x09 (s : State) (a v : Nat) : (s.setRegN a v).x09 = s.x09 := rfl
@[simp] theorem setRegN_x11 (s : State) (a v : Nat) : (s.setRegN a v).x11 = s.x11 := rfl
@[simp] theorem setRegN_posts (s : State) (a v : Nat) : (s.setRegN a v).posts = s.posts := rfl
@[simp] theorem setRegN_postOrder (s : State) (a v : Nat) : (s.setRegN a v).postOrder = s.postOrder := rfl
@[simp] theorem setRegN_out (s : State) (a v : Nat) : (s.setRegN a v).out = s.out := rfl
@[simp] theorem setRegN_free (s : State) (a v : Nat) : (s.setRegN a v).free = s.free := rfl
@[simp] theorem setRegN_pending (s : State) (a v : Nat) : (s.setRegN a v).pending = s.pending := rfl

@[simp] theorem setRegI_variant (s : State) (a : Nat) (v : Int) : (s.setRegI a v).variant = s.variant := rfl
@[simp] theorem setRegI_params (s : State) (a : Nat) (v : Int) : (s.setRegI a v).params = s.params := rfl
@[simp] theorem setRegI_xings (s : State) (a : Nat) (v : Int) : (s.setRegI a v).xings = s.xings := rfl
@[simp] theorem setRegI_ttb (s : State) (a : Nat) (v : Int) : (s.setRegI a v).ttb = s.ttb := rfl
@[simp] theorem setRegI_tok (s : State) (a : Nat) (v : Int) : (s.setRegI a v).tok = s.tok := rfl
@[simp] theorem setRegI_afe (s : State) (a : Nat) (v : Int) : (s.setRegI a v).afe = s.afe := rfl
@[simp] theorem setRegI_pts (s : State) (a : Nat) (v : Int) : (s.setRegI a v).pts = s.pts := rfl
@[simp] theorem setRegI_x00 (s : State) (a : Nat) (v : Int) : (s.setRegI a v).x00 = s.x00 := rfl
@[simp] theorem setRegI_x01 (s : State) (a : Nat) (v : Int) : (s.setRegI a v).x01 = s.x01 := rfl
@[simp] theorem setRegI_parPend (s : State) (a : Nat) (v : Int) : (s.setRegI a v).parPend = s.parPend := rfl
@[simp] theorem setRegI_parNext (s : State) (a : Nat) (v : Int) : (s.setRegI a v).parNext = s.parNext := rfl
@[simp] theorem setRegI_corrSent (s : State) (a : Nat) (v : Int) : (s.setRegI a v).corrSent = s.corrSent := rfl
@[simp] theorem setRegI_bil (s : State) (a : Nat) (v : Int) : (s.setRegI a v).bil = s.bil := rfl
@[simp] theorem setRegI_btm (s : State) (a : Nat) (v : Int) : (s.setRegI a v).btm = s.btm := rfl
@[simp] theorem setRegI_logs (s : State) (a : Nat) (v : Int) : (s.setRegI a v).logs = s.logs := rfl
@[simp] theorem setRegI_saf (s : State) (a : Nat) (v : Int) : (s.setRegI a v).saf = s.saf := rfl
@[simp] theorem setRegI_x03 (s : State) (a : Nat) (v : Int) : (s.setRegI a v).x03 = s.x03 := rfl
@[simp] theorem setRegI_x19 (s : State) (a : Nat) (v : Int) : (s.setRegI a v).x19 = s.x19 := rfl
@[simp] theorem setRegI_x04 (s : State) (a : Nat) (v : Int) : (s.setRegI a v).x04 = s.x04 := rfl
@[simp] theorem setRegI_x05 (s : State) (a : Nat) (v : Int) : (s.setRegI a v).x05 = s.x05 := rfl
@[simp] theorem setRegI_x06 (s : State) (a : Nat) (v : Int) : (s.setRegI a v).x06 = s.x06 := rfl
@[simp] theorem setRegI_q (s : State) (a : Nat) (v : Int) : (s.setRegI a v).q = s.q := rfl
@[simp] theorem setRegI_grpSeq (s : State) (a : Nat) (v : Int) : (s.setRegI a v).grpSeq = s.grpSeq := rfl
@[simp] theorem setRegI_vl (s : State) (a : Nat) (v : Int) : (s.setRegI a v).vl = s.vl := rfl
@[simp] theorem setRegI_ses (s : State) (a : Nat) (v : Int) : (s.setRegI a v).ses = s.ses := rfl
@[simp] theorem setRegI_grt (s : State) (a : Nat) (v : Int) : (s.setRegI a v).grt = s.grt := rfl
@[simp] theorem setRegI_dlm (s : State) (a : Nat) (v : Int) : (s.setRegI a v).dlm = s.dlm := rfl
@[simp] theorem setRegI_lsw (s : State) (a : Nat) (v : Int) : (s.setRegI a v).lsw = s.lsw := rfl
@[simp] theorem setRegI_lcd (s : State) (a : Nat) (v : Int) : (s.setRegI a v).lcd = s.lcd := rfl
@[simp] theorem setRegI_nfc (s : State) (a : Nat) (v : Int) : (s.setRegI a v).nfc = s.nfc := rfl
@[simp] theorem setRegI_hif (s : State) (a : Nat) (v : Int) : (s.setRegI a v).hif = s.hif := rfl
@[simp] theorem setRegI_mail (s : State) (a : Nat) (v : Int) : (s.setRegI a v).mail = s.mail := rfl
@[simp] theorem setRegI_boot (s : State) (a : Nat) (v : Int) : (s.setRegI a v).boot = s.boot := rfl
@[simp] theorem setRegI_mem (s : State) (a : Nat) (v : Int) : (s.setRegI a v).mem = s.mem := rfl
@[simp] theorem setRegI_pow (s : State) (a : Nat) (v : Int) : (s.setRegI a v).pow = s.pow := rfl
@[simp] theorem setRegI_upd (s : State) (a : Nat) (v : Int) : (s.setRegI a v).upd = s.upd := rfl
@[simp] theorem setRegI_amb (s : State) (a : Nat) (v : Int) : (s.setRegI a v).amb = s.amb := rfl
@[simp] theorem setRegI_eth (s : State) (a : Nat) (v : Int) : (s.setRegI a v).eth = s.eth := rfl
@[simp] theorem setRegI_x09 (s : State) (a : Nat) (v : Int) : (s.setRegI a v).x09 = s.x09 := rfl
@[simp] theorem setRegI_x11 (s : State) (a : Nat) (v : Int) : (s.setRegI a v).x11 = s.x11 := rfl
@[simp] theorem setRegI_posts (s : State) (a : Nat) (v : Int) : (s.setRegI a v).posts = s.posts := rfl
@[simp] theorem setRegI_postOrder (s : State) (a : Nat) (v : Int) : (s.setRegI a v).postOrder = s.postOrder := rfl
@[simp] theorem setRegI_out (s : State) (a : Nat) (v : Int) : (s.setRegI a v).out = s.out := rfl
@[simp] theorem setRegI_free (s : State) (a : Nat) (v : Int) : (s.setRegI a v).free = s.free := rfl
@[simp] theorem setRegI_pending (s : State) (a : Nat) (v : Int) : (s.setRegI a v).pending = s.pending := rfl

@[simp] theorem put_variant (s : State) (f : RegField) (v : Nat) : (s.put f v).variant = s.variant := rfl
@[simp] theorem put_params (s : State) (f : RegField) (v : Nat) : (s.put f v).params = s.params := rfl
@[simp] theorem put_xings (s : State) (f : RegField) (v : Nat) : (s.put f v).xings = s.xings := rfl
@[simp] theorem put_ttb (s : State) (f : RegField) (v : Nat) : (s.put f v).ttb = s.ttb := rfl
@[simp] theorem put_tok (s : State) (f : RegField) (v : Nat) : (s.put f v).tok = s.tok := rfl
@[simp] theorem put_afe (s : State) (f : RegField) (v : Nat) : (s.put f v).afe = s.afe := rfl
@[simp] theorem put_pts (s : State) (f : RegField) (v : Nat) : (s.put f v).pts = s.pts := rfl
@[simp] theorem put_x00 (s : State) (f : RegField) (v : Nat) : (s.put f v).x00 = s.x00 := rfl
@[simp] theorem put_x01 (s : State) (f : RegField) (v : Nat) : (s.put f v).x01 = s.x01 := rfl
@[simp] theorem put_parPend (s : State) (f : RegField) (v : Nat) : (s.put f v).parPend = s.parPend := rfl
@[simp] theorem put_parNext (s : State) (f : RegField) (v : Nat) : (s.put f v).parNext = s.parNext := rfl
@[simp] theorem put_corrSent (s : State) (f : RegField) (v : Nat) : (s.put f v).corrSent = s.corrSent := rfl
@[simp] theorem put_bil (s : State) (f : RegField) (v : Nat) : (s.put f v).bil = s.bil := rfl
@[simp] theorem put_btm (s : State) (f : RegField) (v : Nat) : (s.put f v).btm = s.btm := rfl
@[simp] theorem put_logs (s : State) (f : RegField) (v : Nat) : (s.put f v).logs = s.logs := rfl
@[simp] theorem put_saf (s : State) (f : RegField) (v : Nat) : (s.put f v).saf = s.saf := rfl
@[simp] theorem put_x03 (s : State) (f : RegField) (v : Nat) : (s.put f v).x03 = s.x03 := rfl
@[simp] theorem put_x19 (s : State) (f : RegField) (v : Nat) : (s.put f v).x19 = s.x19 := rfl
@[simp] theorem put_x04 (s : State) (f : RegField) (v : Nat) : (s.put f v).x04 = s.x04 := rfl
@[simp] theorem put_x05 (s : State) (f : RegField) (v : Nat) : (s.put f v).x05 = s.x05 := rfl
@[simp] theorem put_x06 (s : State) (f : RegField) (v : Nat) : (s.put f v).x06 = s.x06 := rfl
@[simp] theorem put_q (s : State) (f : RegField) (v : Nat) : (s.put f v).q = s.q := rfl
@[simp] theorem put_grpSeq (s : State) (f : RegField) (v : Nat) : (s.put f v).grpSeq = s.grpSeq := rfl
@[simp] theorem put_vl (s : State) (f : RegField) (v : Nat) : (s.put f v).vl = s.vl := rfl
@[simp] theorem put_ses (s : State) (f : RegField) (v : Nat) : (s.put f v).ses = s.ses := rfl
@[simp] theorem put_grt (s : State) (f : RegField) (v : Nat) : (s.put f v).grt = s.grt := rfl
@[simp] theorem put_dlm (s : State) (f : RegField) (v : Nat) : (s.put f v).dlm = s.dlm := rfl
@[simp] theorem put_lsw (s : State) (f : RegField) (v : Nat) : (s.put f v).lsw = s.lsw := rfl
@[simp] theorem put_lcd (s : State) (f : RegField) (v : Nat) : (s.put f v).lcd = s.lcd := rfl
@[simp] theorem put_nfc (s : State) (f : RegField) (v : Nat) : (s.put f v).nfc = s.nfc := rfl
@[simp] theorem put_hif (s : State) (f : RegField) (v : Nat) : (s.put f v).hif = s.hif := rfl
@[simp] theorem put_mail (s : State) (f : RegField) (v : Nat) : (s.put f v).mail = s.mail := rfl
@[simp] theorem put_boot (s : State) (f : RegField) (v : Nat) : (s.put f v).boot = s.boot := rfl
@[simp] theorem put_mem (s : State) (f : RegField) (v : Nat) : (s.put f v).mem = s.mem := rfl
@[simp] theorem put_pow (s : State) (f : RegField) (v : Nat) : (s.put f v).pow = s.pow := rfl
@[simp] theorem put_upd (s : State) (f : RegField) (v : Nat) : (s.put f v).upd = s.upd := rfl
@[simp] theorem put_amb (s : State) (f : RegField) (v : Nat) : (s.put f v).amb = s.amb := rfl
@[simp] theorem put_eth (s : State) (f : RegField) (v : Nat) : (s.put f v).eth = s.eth := rfl
@[simp] theorem put_x09 (s : State) (f : RegField) (v : Nat) : (s.put f v).x09 = s.x09 := rfl
@[simp] theorem put_x11 (s : State) (f : RegField) (v : Nat) : (s.put f v).x11 = s.x11 := rfl
@[simp] theorem put_posts (s : State) (f : RegField) (v : Nat) : (s.put f v).posts = s.posts := rfl
@[simp] theorem put_postOrder (s : State) (f : RegField) (v : Nat) : (s.put f v).postOrder = s.postOrder := rfl
@[simp] theorem put_out (s : State) (f : RegField) (v : Nat) : (s.put f v).out = s.out := rfl
@[simp] theorem put_free (s : State) (f : RegField) (v : Nat) : (s.put f v).free = s.free := rfl
@[simp] theorem put_pending (s : State) (f : RegField) (v : Nat) : (s.put f v).pending = s.pending := rfl

@[simp] theorem putB_variant (s : State) (f : RegField) (b : Bool) : (s.putB f b).variant = s.variant := rfl
@[simp] theorem putB_params (s : State) (f : RegField) (b : Bool) : (s.putB f b).params = s.params := rfl
@[simp] theorem putB_xings (s : State) (f : RegField) (b : Bool) : (s.putB f b).xings = s.xings := rfl
@[simp] theorem putB_ttb (s : State) (f : RegField) (b : Bool) : (s.putB f b).ttb = s.ttb := rfl
@[simp] theorem putB_tok (s : State) (f : RegField) (b : Bool) : (s.putB f b).tok = s.tok := rfl
@[simp] theorem putB_afe (s : State) (f : RegField) (b : Bool) : (s.putB f b).afe = s.afe := rfl
@[simp] theorem putB_pts (s : State) (f : RegField) (b : Bool) : (s.putB f b).pts = s.pts := rfl
@[simp] theorem putB_x00 (s : State) (f : RegField) (b : Bool) : (s.putB f b).x00 = s.x00 := rfl
@[simp] theorem putB_x01 (s : State) (f : RegField) (b : Bool) : (s.putB f b).x01 = s.x01 := rfl
@[simp] theorem putB_parPend (s : State) (f : RegField) (b : Bool) : (s.putB f b).parPend = s.parPend := rfl
@[simp] theorem putB_parNext (s : State) (f : RegField) (b : Bool) : (s.putB f b).parNext = s.parNext := rfl
@[simp] theorem putB_corrSent (s : State) (f : RegField) (b : Bool) : (s.putB f b).corrSent = s.corrSent := rfl
@[simp] theorem putB_bil (s : State) (f : RegField) (b : Bool) : (s.putB f b).bil = s.bil := rfl
@[simp] theorem putB_btm (s : State) (f : RegField) (b : Bool) : (s.putB f b).btm = s.btm := rfl
@[simp] theorem putB_logs (s : State) (f : RegField) (b : Bool) : (s.putB f b).logs = s.logs := rfl
@[simp] theorem putB_saf (s : State) (f : RegField) (b : Bool) : (s.putB f b).saf = s.saf := rfl
@[simp] theorem putB_x03 (s : State) (f : RegField) (b : Bool) : (s.putB f b).x03 = s.x03 := rfl
@[simp] theorem putB_x19 (s : State) (f : RegField) (b : Bool) : (s.putB f b).x19 = s.x19 := rfl
@[simp] theorem putB_x04 (s : State) (f : RegField) (b : Bool) : (s.putB f b).x04 = s.x04 := rfl
@[simp] theorem putB_x05 (s : State) (f : RegField) (b : Bool) : (s.putB f b).x05 = s.x05 := rfl
@[simp] theorem putB_x06 (s : State) (f : RegField) (b : Bool) : (s.putB f b).x06 = s.x06 := rfl
@[simp] theorem putB_q (s : State) (f : RegField) (b : Bool) : (s.putB f b).q = s.q := rfl
@[simp] theorem putB_grpSeq (s : State) (f : RegField) (b : Bool) : (s.putB f b).grpSeq = s.grpSeq := rfl
@[simp] theorem putB_vl (s : State) (f : RegField) (b : Bool) : (s.putB f b).vl = s.vl := rfl
@[simp] theorem putB_ses (s : State) (f : RegField) (b : Bool) : (s.putB f b).ses = s.ses := rfl
@[simp] theorem putB_grt (s : State) (f : RegField) (b : Bool) : (s.putB f b).grt = s.grt := rfl
@[simp] theorem putB_dlm (s : State) (f : RegField) (b : Bool) : (s.putB f b).dlm = s.dlm := rfl
@[simp] theorem putB_lsw (s : State) (f : RegField) (b : Bool) : (s.putB f b).lsw = s.lsw := rfl
@[simp] theorem putB_lcd (s : State) (f : RegField) (b : Bool) : (s.putB f b).lcd = s.lcd := rfl
@[simp] theorem putB_nfc (s : State) (f : RegField) (b : Bool) : (s.putB f b).nfc = s.nfc := rfl
@[simp] theorem putB_hif (s : State) (f : RegField) (b : Bool) : (s.putB f b).hif = s.hif := rfl
@[simp] theorem putB_mail (s : State) (f : RegField) (b : Bool) : (s.putB f b).mail = s.mail := rfl
@[simp] theorem putB_boot (s : State) (f : RegField) (b : Bool) : (s.putB f b).boot = s.boot := rfl
@[simp] theorem putB_mem (s : State) (f : RegField) (b : Bool) : (s.putB f b).mem = s.mem := rfl
@[simp] theorem putB_pow (s : State) (f : RegField) (b : Bool) : (s.putB f b).pow = s.pow := rfl
@[simp] theorem putB_upd (s : State) (f : RegField) (b : Bool) : (s.putB f b).upd = s.upd := rfl
@[simp] theorem putB_amb (s : State) (f : RegField) (b : Bool) : (s.putB f b).amb = s.amb := rfl
@[simp] theorem putB_eth (s : State) (f : RegField) (b : Bool) : (s.putB f b).eth = s.eth := rfl
@[simp] theorem putB_x09 (s : State) (f : RegField) (b : Bool) : (s.putB f b).x09 = s.x09 := rfl
@[simp] theorem putB_x11 (s : State) (f : RegField) (b : Bool) : (s.putB f b).x11 = s.x11 := rfl
@[simp] theorem putB_posts (s : State) (f : RegField) (b : Bool) : (s.putB f b).posts = s.posts := rfl
@[simp] theorem putB_postOrder (s : State) (f : RegField) (b : Bool) : (s.putB f b).postOrder = s.postOrder := rfl
@[simp] theorem putB_out (s : State) (f : RegField) (b : Bool) : (s.putB f b).out = s.out := rfl
@[simp] theorem putB_free (s : State) (f : RegField) (b : Bool) : (s.putB f b).free = s.free := rfl
@[simp] theorem putB_pending (s : State) (f : RegField) (b : Bool) : (s.putB f b).pending = s.pending := rfl

@[simp] theorem raise_variant (s : State) (f : RegField) : (s.raise f).variant = s.variant := rfl
@[simp] theorem raise_params (s : State) (f : RegField) : (s.raise f).params = s.params := rfl
@[simp] theorem raise_xings (s : State) (f : RegField) : (s.raise f).xings = s.xings := rfl
@[simp] theorem raise_ttb (s : State) (f : RegField) : (s.raise f).ttb = s.ttb := rfl
@[simp] theorem raise_tok (s : State) (f : RegField) : (s.raise f).tok = s.tok := rfl
@[simp] theorem raise_afe (s : State) (f : RegField) : (s.raise f).afe = s.afe := rfl
@[simp] theorem raise_pts (s : State) (f : RegField) : (s.raise f).pts = s.pts := rfl
@[simp] theorem raise_x00 (s : State) (f : RegField) : (s.raise f).x00 = s.x00 := rfl
@[simp] theorem raise_x01 (s : State) (f : RegField) : (s.raise f).x01 = s.x01 := rfl
@[simp] theorem raise_parPend (s : State) (f : RegField) : (s.raise f).parPend = s.parPend := rfl
@[simp] theorem raise_parNext (s : State) (f : RegField) : (s.raise f).parNext = s.parNext := rfl
@[simp] theorem raise_corrSent (s : State) (f : RegField) : (s.raise f).corrSent = s.corrSent := rfl
@[simp] theorem raise_bil (s : State) (f : RegField) : (s.raise f).bil = s.bil := rfl
@[simp] theorem raise_btm (s : State) (f : RegField) : (s.raise f).btm = s.btm := rfl
@[simp] theorem raise_logs (s : State) (f : RegField) : (s.raise f).logs = s.logs := rfl
@[simp] theorem raise_saf (s : State) (f : RegField) : (s.raise f).saf = s.saf := rfl
@[simp] theorem raise_x03 (s : State) (f : RegField) : (s.raise f).x03 = s.x03 := rfl
@[simp] theorem raise_x19 (s : State) (f : RegField) : (s.raise f).x19 = s.x19 := rfl
@[simp] theorem raise_x04 (s : State) (f : RegField) : (s.raise f).x04 = s.x04 := rfl
@[simp] theorem raise_x05 (s : State) (f : RegField) : (s.raise f).x05 = s.x05 := rfl
@[simp] theorem raise_x06 (s : State) (f : RegField) : (s.raise f).x06 = s.x06 := rfl
@[simp] theorem raise_q (s : State) (f : RegField) : (s.raise f).q = s.q := rfl
@[simp] theorem raise_grpSeq (s : State) (f : RegField) : (s.raise f).grpSeq = s.grpSeq := rfl
@[simp] theorem raise_vl (s : State) (f : RegField) : (s.raise f).vl = s.vl := rfl
@[simp] theorem raise_ses (s : State) (f : RegField) : (s.raise f).ses = s.ses := rfl
@[simp] theorem raise_grt (s : State) (f : RegField) : (s.raise f).grt = s.grt := rfl
@[simp] theorem raise_dlm (s : State) (f : RegField) : (s.raise f).dlm = s.dlm := rfl
@[simp] theorem raise_lsw (s : State) (f : RegField) : (s.raise f).lsw = s.lsw := rfl
@[simp] theorem raise_lcd (s : State) (f : RegField) : (s.raise f).lcd = s.lcd := rfl
@[simp] theorem raise_nfc (s : State) (f : RegField) : (s.raise f).nfc = s.nfc := rfl
@[simp] theorem raise_hif (s : State) (f : RegField) : (s.raise f).hif = s.hif := rfl
@[simp] theorem raise_mail (s : State) (f : RegField) : (s.raise f).mail = s.mail := rfl
@[simp] theorem raise_boot (s : State) (f : RegField) : (s.raise f).boot = s.boot := rfl
@[simp] theorem raise_mem (s : State) (f : RegField) : (s.raise f).mem = s.mem := rfl
@[simp] theorem raise_pow (s : State) (f : RegField) : (s.raise f).pow = s.pow := rfl
@[simp] theorem raise_upd (s : State) (f : RegField) : (s.raise f).upd = s.upd := rfl
@[simp] theorem raise_amb (s : State) (f : RegField) : (s.raise f).amb = s.amb := rfl
@[simp] theorem raise_eth (s : State) (f : RegField) : (s.raise f).eth = s.eth := rfl
@[simp] theorem raise_x09 (s : State) (f : RegField) : (s.raise f).x09 = s.x09 := rfl
@[simp] theorem raise_x11 (s : State) (f : RegField) : (s.raise f).x11 = s.x11 := rfl
@[simp] theorem raise_posts (s : State) (f : RegField) : (s.raise f).posts = s.posts := rfl
@[simp] theorem raise_postOrder (s : State) (f : RegField) : (s.raise f).postOrder = s.postOrder := rfl
@[simp] theorem raise_out (s : State) (f : RegField) : (s.raise f).out = s.out := rfl
@[simp] theorem raise_free (s : State) (f : RegField) : (s.raise f).free = s.free := rfl
@[simp] theorem raise_pending (s : State) (f : RegField) : (s.raise f).pending = s.pending := rfl

@[simp] theorem lower_variant (s : State) (f : RegField) : (s.lower f).variant = s.variant := rfl
@[simp] theorem lower_params (s : State) (f : RegField) : (s.lower f).params = s.params := rfl
@[simp] theorem lower_xings (s : State) (f : RegField) : (s.lower f).xings = s.xings := rfl
@[simp] theorem lower_ttb (s : State) (f : RegField) : (s.lower f).ttb = s.ttb := rfl
@[simp] theorem lower_tok (s : State) (f : RegField) : (s.lower f).tok = s.tok := rfl
@[simp] theorem lower_afe (s : State) (f : RegField) : (s.lower f).afe = s.afe := rfl
@[simp] theorem lower_pts (s : State) (f : RegField) : (s.lower f).pts = s.pts := rfl
@[simp] theorem lower_x00 (s : State) (f : RegField) : (s.lower f).x00 = s.x00 := rfl
@[simp] theorem lower_x01 (s : State) (f : RegField) : (s.lower f).x01 = s.x01 := rfl
@[simp] theorem lower_parPend (s : State) (f : RegField) : (s.lower f).parPend = s.parPend := rfl
@[simp] theorem lower_parNext (s : State) (f : RegField) : (s.lower f).parNext = s.parNext := rfl
@[simp] theorem lower_corrSent (s : State) (f : RegField) : (s.lower f).corrSent = s.corrSent := rfl
@[simp] theorem lower_bil (s : State) (f : RegField) : (s.lower f).bil = s.bil := rfl
@[simp] theorem lower_btm (s : State) (f : RegField) : (s.lower f).btm = s.btm := rfl
@[simp] theorem lower_logs (s : State) (f : RegField) : (s.lower f).logs = s.logs := rfl
@[simp] theorem lower_saf (s : State) (f : RegField) : (s.lower f).saf = s.saf := rfl
@[simp] theorem lower_x03 (s : State) (f : RegField) : (s.lower f).x03 = s.x03 := rfl
@[simp] theorem lower_x19 (s : State) (f : RegField) : (s.lower f).x19 = s.x19 := rfl
@[simp] theorem lower_x04 (s : State) (f : RegField) : (s.lower f).x04 = s.x04 := rfl
@[simp] theorem lower_x05 (s : State) (f : RegField) : (s.lower f).x05 = s.x05 := rfl
@[simp] theorem lower_x06 (s : State) (f : RegField) : (s.lower f).x06 = s.x06 := rfl
@[simp] theorem lower_q (s : State) (f : RegField) : (s.lower f).q = s.q := rfl
@[simp] theorem lower_grpSeq (s : State) (f : RegField) : (s.lower f).grpSeq = s.grpSeq := rfl
@[simp] theorem lower_vl (s : State) (f : RegField) : (s.lower f).vl = s.vl := rfl
@[simp] theorem lower_ses (s : State) (f : RegField) : (s.lower f).ses = s.ses := rfl
@[simp] theorem lower_grt (s : State) (f : RegField) : (s.lower f).grt = s.grt := rfl
@[simp] theorem lower_dlm (s : State) (f : RegField) : (s.lower f).dlm = s.dlm := rfl
@[simp] theorem lower_lsw (s : State) (f : RegField) : (s.lower f).lsw = s.lsw := rfl
@[simp] theorem lower_lcd (s : State) (f : RegField) : (s.lower f).lcd = s.lcd := rfl
@[simp] theorem lower_nfc (s : State) (f : RegField) : (s.lower f).nfc = s.nfc := rfl
@[simp] theorem lower_hif (s : State) (f : RegField) : (s.lower f).hif = s.hif := rfl
@[simp] theorem lower_mail (s : State) (f : RegField) : (s.lower f).mail = s.mail := rfl
@[simp] theorem lower_boot (s : State) (f : RegField) : (s.lower f).boot = s.boot := rfl
@[simp] theorem lower_mem (s : State) (f : RegField) : (s.lower f).mem = s.mem := rfl
@[simp] theorem lower_pow (s : State) (f : RegField) : (s.lower f).pow = s.pow := rfl
@[simp] theorem lower_upd (s : State) (f : RegField) : (s.lower f).upd = s.upd := rfl
@[simp] theorem lower_amb (s : State) (f : RegField) : (s.lower f).amb = s.amb := rfl
@[simp] theorem lower_eth (s : State) (f : RegField) : (s.lower f).eth = s.eth := rfl
@[simp] theorem lower_x09 (s : State) (f : RegField) : (s.lower f).x09 = s.x09 := rfl
@[simp] theorem lower_x11 (s : State) (f : RegField) : (s.lower f).x11 = s.x11 := rfl
@[simp] theorem lower_posts (s : State) (f : RegField) : (s.lower f).posts = s.posts := rfl
@[simp] theorem lower_postOrder (s : State) (f : RegField) : (s.lower f).postOrder = s.postOrder := rfl
@[simp] theorem lower_out (s : State) (f : RegField) : (s.lower f).out = s.out := rfl
@[simp] theorem lower_free (s : State) (f : RegField) : (s.lower f).free = s.free := rfl
@[simp] theorem lower_pending (s : State) (f : RegField) : (s.lower f).pending = s.pending := rfl

@[simp] theorem bump_variant (s : State) (f : RegField) (n : Nat) : (s.bump f n).variant = s.variant := rfl
@[simp] theorem bump_params (s : State) (f : RegField) (n : Nat) : (s.bump f n).params = s.params := rfl
@[simp] theorem bump_xings (s : State) (f : RegField) (n : Nat) : (s.bump f n).xings = s.xings := rfl
@[simp] theorem bump_ttb (s : State) (f : RegField) (n : Nat) : (s.bump f n).ttb = s.ttb := rfl
@[simp] theorem bump_tok (s : State) (f : RegField) (n : Nat) : (s.bump f n).tok = s.tok := rfl
@[simp] theorem bump_afe (s : State) (f : RegField) (n : Nat) : (s.bump f n).afe = s.afe := rfl
@[simp] theorem bump_pts (s : State) (f : RegField) (n : Nat) : (s.bump f n).pts = s.pts := rfl
@[simp] theorem bump_x00 (s : State) (f : RegField) (n : Nat) : (s.bump f n).x00 = s.x00 := rfl
@[simp] theorem bump_x01 (s : State) (f : RegField) (n : Nat) : (s.bump f n).x01 = s.x01 := rfl
@[simp] theorem bump_parPend (s : State) (f : RegField) (n : Nat) : (s.bump f n).parPend = s.parPend := rfl
@[simp] theorem bump_parNext (s : State) (f : RegField) (n : Nat) : (s.bump f n).parNext = s.parNext := rfl
@[simp] theorem bump_corrSent (s : State) (f : RegField) (n : Nat) : (s.bump f n).corrSent = s.corrSent := rfl
@[simp] theorem bump_bil (s : State) (f : RegField) (n : Nat) : (s.bump f n).bil = s.bil := rfl
@[simp] theorem bump_btm (s : State) (f : RegField) (n : Nat) : (s.bump f n).btm = s.btm := rfl
@[simp] theorem bump_logs (s : State) (f : RegField) (n : Nat) : (s.bump f n).logs = s.logs := rfl
@[simp] theorem bump_saf (s : State) (f : RegField) (n : Nat) : (s.bump f n).saf = s.saf := rfl
@[simp] theorem bump_x03 (s : State) (f : RegField) (n : Nat) : (s.bump f n).x03 = s.x03 := rfl
@[simp] theorem bump_x19 (s : State) (f : RegField) (n : Nat) : (s.bump f n).x19 = s.x19 := rfl
@[simp] theorem bump_x04 (s : State) (f : RegField) (n : Nat) : (s.bump f n).x04 = s.x04 := rfl
@[simp] theorem bump_x05 (s : State) (f : RegField) (n : Nat) : (s.bump f n).x05 = s.x05 := rfl
@[simp] theorem bump_x06 (s : State) (f : RegField) (n : Nat) : (s.bump f n).x06 = s.x06 := rfl
@[simp] theorem bump_q (s : State) (f : RegField) (n : Nat) : (s.bump f n).q = s.q := rfl
@[simp] theorem bump_grpSeq (s : State) (f : RegField) (n : Nat) : (s.bump f n).grpSeq = s.grpSeq := rfl
@[simp] theorem bump_vl (s : State) (f : RegField) (n : Nat) : (s.bump f n).vl = s.vl := rfl
@[simp] theorem bump_ses (s : State) (f : RegField) (n : Nat) : (s.bump f n).ses = s.ses := rfl
@[simp] theorem bump_grt (s : State) (f : RegField) (n : Nat) : (s.bump f n).grt = s.grt := rfl
@[simp] theorem bump_dlm (s : State) (f : RegField) (n : Nat) : (s.bump f n).dlm = s.dlm := rfl
@[simp] theorem bump_lsw (s : State) (f : RegField) (n : Nat) : (s.bump f n).lsw = s.lsw := rfl
@[simp] theorem bump_lcd (s : State) (f : RegField) (n : Nat) : (s.bump f n).lcd = s.lcd := rfl
@[simp] theorem bump_nfc (s : State) (f : RegField) (n : Nat) : (s.bump f n).nfc = s.nfc := rfl
@[simp] theorem bump_hif (s : State) (f : RegField) (n : Nat) : (s.bump f n).hif = s.hif := rfl
@[simp] theorem bump_mail (s : State) (f : RegField) (n : Nat) : (s.bump f n).mail = s.mail := rfl
@[simp] theorem bump_boot (s : State) (f : RegField) (n : Nat) : (s.bump f n).boot = s.boot := rfl
@[simp] theorem bump_mem (s : State) (f : RegField) (n : Nat) : (s.bump f n).mem = s.mem := rfl
@[simp] theorem bump_pow (s : State) (f : RegField) (n : Nat) : (s.bump f n).pow = s.pow := rfl
@[simp] theorem bump_upd (s : State) (f : RegField) (n : Nat) : (s.bump f n).upd = s.upd := rfl
@[simp] theorem bump_amb (s : State) (f : RegField) (n : Nat) : (s.bump f n).amb = s.amb := rfl
@[simp] theorem bump_eth (s : State) (f : RegField) (n : Nat) : (s.bump f n).eth = s.eth := rfl
@[simp] theorem bump_x09 (s : State) (f : RegField) (n : Nat) : (s.bump f n).x09 = s.x09 := rfl
@[simp] theorem bump_x11 (s : State) (f : RegField) (n : Nat) : (s.bump f n).x11 = s.x11 := rfl
@[simp] theorem bump_posts (s : State) (f : RegField) (n : Nat) : (s.bump f n).posts = s.posts := rfl
@[simp] theorem bump_postOrder (s : State) (f : RegField) (n : Nat) : (s.bump f n).postOrder = s.postOrder := rfl
@[simp] theorem bump_out (s : State) (f : RegField) (n : Nat) : (s.bump f n).out = s.out := rfl
@[simp] theorem bump_free (s : State) (f : RegField) (n : Nat) : (s.bump f n).free = s.free := rfl
@[simp] theorem bump_pending (s : State) (f : RegField) (n : Nat) : (s.bump f n).pending = s.pending := rfl

@[simp] theorem bumpReg_variant (s : State) (a n : Nat) : (s.bumpReg a n).variant = s.variant := rfl
@[simp] theorem bumpReg_params (s : State) (a n : Nat) : (s.bumpReg a n).params = s.params := rfl
@[simp] theorem bumpReg_xings (s : State) (a n : Nat) : (s.bumpReg a n).xings = s.xings := rfl
@[simp] theorem bumpReg_ttb (s : State) (a n : Nat) : (s.bumpReg a n).ttb = s.ttb := rfl
@[simp] theorem bumpReg_tok (s : State) (a n : Nat) : (s.bumpReg a n).tok = s.tok := rfl
@[simp] theorem bumpReg_afe (s : State) (a n : Nat) : (s.bumpReg a n).afe = s.afe := rfl
@[simp] theorem bumpReg_pts (s : State) (a n : Nat) : (s.bumpReg a n).pts = s.pts := rfl
@[simp] theorem bumpReg_x00 (s : State) (a n : Nat) : (s.bumpReg a n).x00 = s.x00 := rfl
@[simp] theorem bumpReg_x01 (s : State) (a n : Nat) : (s.bumpReg a n).x01 = s.x01 := rfl
@[simp] theorem bumpReg_parPend (s : State) (a n : Nat) : (s.bumpReg a n).parPend = s.parPend := rfl
@[simp] theorem bumpReg_parNext (s : State) (a n : Nat) : (s.bumpReg a n).parNext = s.parNext := rfl
@[simp] theorem bumpReg_corrSent (s : State) (a n : Nat) : (s.bumpReg a n).corrSent = s.corrSent := rfl
@[simp] theorem bumpReg_bil (s : State) (a n : Nat) : (s.bumpReg a n).bil = s.bil := rfl
@[simp] theorem bumpReg_btm (s : State) (a n : Nat) : (s.bumpReg a n).btm = s.btm := rfl
@[simp] theorem bumpReg_logs (s : State) (a n : Nat) : (s.bumpReg a n).logs = s.logs := rfl
@[simp] theorem bumpReg_saf (s : State) (a n : Nat) : (s.bumpReg a n).saf = s.saf := rfl
@[simp] theorem bumpReg_x03 (s : State) (a n : Nat) : (s.bumpReg a n).x03 = s.x03 := rfl
@[simp] theorem bumpReg_x19 (s : State) (a n : Nat) : (s.bumpReg a n).x19 = s.x19 := rfl
@[simp] theorem bumpReg_x04 (s : State) (a n : Nat) : (s.bumpReg a n).x04 = s.x04 := rfl
@[simp] theorem bumpReg_x05 (s : State) (a n : Nat) : (s.bumpReg a n).x05 = s.x05 := rfl
@[simp] theorem bumpReg_x06 (s : State) (a n : Nat) : (s.bumpReg a n).x06 = s.x06 := rfl
@[simp] theorem bumpReg_q (s : State) (a n : Nat) : (s.bumpReg a n).q = s.q := rfl
@[simp] theorem bumpReg_grpSeq (s : State) (a n : Nat) : (s.bumpReg a n).grpSeq = s.grpSeq := rfl
@[simp] theorem bumpReg_vl (s : State) (a n : Nat) : (s.bumpReg a n).vl = s.vl := rfl
@[simp] theorem bumpReg_ses (s : State) (a n : Nat) : (s.bumpReg a n).ses = s.ses := rfl
@[simp] theorem bumpReg_grt (s : State) (a n : Nat) : (s.bumpReg a n).grt = s.grt := rfl
@[simp] theorem bumpReg_dlm (s : State) (a n : Nat) : (s.bumpReg a n).dlm = s.dlm := rfl
@[simp] theorem bumpReg_lsw (s : State) (a n : Nat) : (s.bumpReg a n).lsw = s.lsw := rfl
@[simp] theorem bumpReg_lcd (s : State) (a n : Nat) : (s.bumpReg a n).lcd = s.lcd := rfl
@[simp] theorem bumpReg_nfc (s : State) (a n : Nat) : (s.bumpReg a n).nfc = s.nfc := rfl
@[simp] theorem bumpReg_hif (s : State) (a n : Nat) : (s.bumpReg a n).hif = s.hif := rfl
@[simp] theorem bumpReg_mail (s : State) (a n : Nat) : (s.bumpReg a n).mail = s.mail := rfl
@[simp] theorem bumpReg_boot (s : State) (a n : Nat) : (s.bumpReg a n).boot = s.boot := rfl
@[simp] theorem bumpReg_mem (s : State) (a n : Nat) : (s.bumpReg a n).mem = s.mem := rfl
@[simp] theorem bumpReg_pow (s : State) (a n : Nat) : (s.bumpReg a n).pow = s.pow := rfl
@[simp] theorem bumpReg_upd (s : State) (a n : Nat) : (s.bumpReg a n).upd = s.upd := rfl
@[simp] theorem bumpReg_amb (s : State) (a n : Nat) : (s.bumpReg a n).amb = s.amb := rfl
@[simp] theorem bumpReg_eth (s : State) (a n : Nat) : (s.bumpReg a n).eth = s.eth := rfl
@[simp] theorem bumpReg_x09 (s : State) (a n : Nat) : (s.bumpReg a n).x09 = s.x09 := rfl
@[simp] theorem bumpReg_x11 (s : State) (a n : Nat) : (s.bumpReg a n).x11 = s.x11 := rfl
@[simp] theorem bumpReg_posts (s : State) (a n : Nat) : (s.bumpReg a n).posts = s.posts := rfl
@[simp] theorem bumpReg_postOrder (s : State) (a n : Nat) : (s.bumpReg a n).postOrder = s.postOrder := rfl
@[simp] theorem bumpReg_out (s : State) (a n : Nat) : (s.bumpReg a n).out = s.out := rfl
@[simp] theorem bumpReg_free (s : State) (a n : Nat) : (s.bumpReg a n).free = s.free := rfl
@[simp] theorem bumpReg_pending (s : State) (a n : Nat) : (s.bumpReg a n).pending = s.pending := rfl

@[simp] theorem putBit_variant (s : State) (a i : Nat) (b : Bool) : (s.putBit a i b).variant = s.variant := rfl
@[simp] theorem putBit_params (s : State) (a i : Nat) (b : Bool) : (s.putBit a i b).params = s.params := rfl
@[simp] theorem putBit_xings (s : State) (a i : Nat) (b : Bool) : (s.putBit a i b).xings = s.xings := rfl
@[simp] theorem putBit_ttb (s : State) (a i : Nat) (b : Bool) : (s.putBit a i b).ttb = s.ttb := rfl
@[simp] theorem putBit_tok (s : State) (a i : Nat) (b : Bool) : (s.putBit a i b).tok = s.tok := rfl
@[simp] theorem putBit_afe (s : State) (a i : Nat) (b : Bool) : (s.putBit a i b).afe = s.afe := rfl
@[simp] theorem putBit_pts (s : State) (a i : Nat) (b : Bool) : (s.putBit a i b).pts = s.pts := rfl
@[simp] theorem putBit_x00 (s : State) (a i : Nat) (b : Bool) : (s.putBit a i b).x00 = s.x00 := rfl
@[simp] theorem putBit_x01 (s : State) (a i : Nat) (b : Bool) : (s.putBit a i b).x01 = s.x01 := rfl
@[simp] theorem putBit_parPend (s : State) (a i : Nat) (b : Bool) : (s.putBit a i b).parPend = s.parPend := rfl
@[simp] theorem putBit_parNext (s : State) (a i : Nat) (b : Bool) : (s.putBit a i b).parNext = s.parNext := rfl
@[simp] theorem putBit_corrSent (s : State) (a i : Nat) (b : Bool) : (s.putBit a i b).corrSent = s.corrSent := rfl
@[simp] theorem putBit_bil (s : State) (a i : Nat) (b : Bool) : (s.putBit a i b).bil = s.bil := rfl
@[simp] theorem putBit_btm (s : State) (a i : Nat) (b : Bool) : (s.putBit a i b).btm = s.btm := rfl
@[simp] theorem putBit_logs (s : State) (a i : Nat) (b : Bool) : (s.putBit a i b).logs = s.logs := rfl
@[simp] theorem putBit_saf (s : State) (a i : Nat) (b : Bool) : (s.putBit a i b).saf = s.saf := rfl
@[simp] theorem putBit_x03 (s : State) (a i : Nat) (b : Bool) : (s.putBit a i b).x03 = s.x03 := rfl
@[simp] theorem putBit_x19 (s : State) (a i : Nat) (b : Bool) : (s.putBit a i b).x19 = s.x19 := rfl
@[simp] theorem putBit_x04 (s : State) (a i : Nat) (b : Bool) : (s.putBit a i b).x04 = s.x04 := rfl
@[simp] theorem putBit_x05 (s : State) (a i : Nat) (b : Bool) : (s.putBit a i b).x05 = s.x05 := rfl
@[simp] theorem putBit_x06 (s : State) (a i : Nat) (b : Bool) : (s.putBit a i b).x06 = s.x06 := rfl
@[simp] theorem putBit_q (s : State) (a i : Nat) (b : Bool) : (s.putBit a i b).q = s.q := rfl
@[simp] theorem putBit_grpSeq (s : State) (a i : Nat) (b : Bool) : (s.putBit a i b).grpSeq = s.grpSeq := rfl
@[simp] theorem putBit_vl (s : State) (a i : Nat) (b : Bool) : (s.putBit a i b).vl = s.vl := rfl
@[simp] theorem putBit_ses (s : State) (a i : Nat) (b : Bool) : (s.putBit a i b).ses = s.ses := rfl
@[simp] theorem putBit_grt (s : State) (a i : Nat) (b : Bool) : (s.putBit a i b).grt = s.grt := rfl
@[simp] theorem putBit_dlm (s : State) (a i : Nat) (b : Bool) : (s.putBit a i b).dlm = s.dlm := rfl
@[simp] theorem putBit_lsw (s : State) (a i : Nat) (b : Bool) : (s.putBit a i b).lsw = s.lsw := rfl
@[simp] theorem putBit_lcd (s : State) (a i : Nat) (b : Bool) : (s.putBit a i b).lcd = s.lcd := rfl
@[simp] theorem putBit_nfc (s : State) (a i : Nat) (b : Bool) : (s.putBit a i b).nfc = s.nfc := rfl
@[simp] theorem putBit_hif (s : State) (a i : Nat) (b : Bool) : (s.putBit a i b).hif = s.hif := rfl
@[simp] theorem putBit_mail (s : State) (a i : Nat) (b : Bool) : (s.putBit a i b).mail = s.mail := rfl
@[simp] theorem putBit_boot (s : State) (a i : Nat) (b : Bool) : (s.putBit a i b).boot = s.boot := rfl
@[simp] theorem putBit_mem (s : State) (a i : Nat) (b : Bool) : (s.putBit a i b).mem = s.mem := rfl
@[simp] theorem putBit_pow (s : State) (a i : Nat) (b : Bool) : (s.putBit a i b).pow = s.pow := rfl
@[simp] theorem putBit_upd (s : State) (a i : Nat) (b : Bool) : (s.putBit a i b).upd = s.upd := rfl
@[simp] theorem putBit_amb (s : State) (a i : Nat) (b : Bool) : (s.putBit a i b).amb = s.amb := rfl
@[simp] theorem putBit_eth (s : State) (a i : Nat) (b : Bool) : (s.putBit a i b).eth = s.eth := rfl
@[simp] theorem putBit_x09 (s : State) (a i : Nat) (b : Bool) : (s.putBit a i b).x09 = s.x09 := rfl
@[simp] theorem putBit_x11 (s : State) (a i : Nat) (b : Bool) : (s.putBit a i b).x11 = s.x11 := rfl
@[simp] theorem putBit_posts (s : State) (a i : Nat) (b : Bool) : (s.putBit a i b).posts = s.posts := rfl
@[simp] theorem putBit_postOrder (s : State) (a i : Nat) (b : Bool) : (s.putBit a i b).postOrder = s.postOrder := rfl
@[simp] theorem putBit_out (s : State) (a i : Nat) (b : Bool) : (s.putBit a i b).out = s.out := rfl
@[simp] theorem putBit_free (s : State) (a i : Nat) (b : Bool) : (s.putBit a i b).free = s.free := rfl
@[simp] theorem putBit_pending (s : State) (a i : Nat) (b : Bool) : (s.putBit a i b).pending = s.pending := rfl

@[simp] theorem setPar_variant (s : State) (p : Nat) (v : Int) : (s.setPar p v).variant = s.variant := rfl
@[simp] theorem setPar_regs (s : State) (p : Nat) (v : Int) : (s.setPar p v).regs = s.regs := rfl
@[simp] theorem setPar_xings (s : State) (p : Nat) (v : Int) : (s.setPar p v).xings = s.xings := rfl
@[simp] theorem setPar_ttb (s : State) (p : Nat) (v : Int) : (s.setPar p v).ttb = s.ttb := rfl
@[simp] theorem setPar_tok (s : State) (p : Nat) (v : Int) : (s.setPar p v).tok = s.tok := rfl
@[simp] theorem setPar_afe (s : State) (p : Nat) (v : Int) : (s.setPar p v).afe = s.afe := rfl
@[simp] theorem setPar_pts (s : State) (p : Nat) (v : Int) : (s.setPar p v).pts = s.pts := rfl
@[simp] theorem setPar_x00 (s : State) (p : Nat) (v : Int) : (s.setPar p v).x00 = s.x00 := rfl
@[simp] theorem setPar_x01 (s : State) (p : Nat) (v : Int) : (s.setPar p v).x01 = s.x01 := rfl
@[simp] theorem setPar_parPend (s : State) (p : Nat) (v : Int) : (s.setPar p v).parPend = s.parPend := rfl
@[simp] theorem setPar_parNext (s : State) (p : Nat) (v : Int) : (s.setPar p v).parNext = s.parNext := rfl
@[simp] theorem setPar_corrSent (s : State) (p : Nat) (v : Int) : (s.setPar p v).corrSent = s.corrSent := rfl
@[simp] theorem setPar_bil (s : State) (p : Nat) (v : Int) : (s.setPar p v).bil = s.bil := rfl
@[simp] theorem setPar_btm (s : State) (p : Nat) (v : Int) : (s.setPar p v).btm = s.btm := rfl
@[simp] theorem setPar_logs (s : State) (p : Nat) (v : Int) : (s.setPar p v).logs = s.logs := rfl
@[simp] theorem setPar_saf (s : State) (p : Nat) (v : Int) : (s.setPar p v).saf = s.saf := rfl
@[simp] theorem setPar_x03 (s : State) (p : Nat) (v : Int) : (s.setPar p v).x03 = s.x03 := rfl
@[simp] theorem setPar_x19 (s : State) (p : Nat) (v : Int) : (s.setPar p v).x19 = s.x19 := rfl
@[simp] theorem setPar_x04 (s : State) (p : Nat) (v : Int) : (s.setPar p v).x04 = s.x04 := rfl
@[simp] theorem setPar_x05 (s : State) (p : Nat) (v : Int) : (s.setPar p v).x05 = s.x05 := rfl
@[simp] theorem setPar_x06 (s : State) (p : Nat) (v : Int) : (s.setPar p v).x06 = s.x06 := rfl
@[simp] theorem setPar_q (s : State) (p : Nat) (v : Int) : (s.setPar p v).q = s.q := rfl
@[simp] theorem setPar_grpSeq (s : State) (p : Nat) (v : Int) : (s.setPar p v).grpSeq = s.grpSeq := rfl
@[simp] theorem setPar_vl (s : State) (p : Nat) (v : Int) : (s.setPar p v).vl = s.vl := rfl
@[simp] theorem setPar_ses (s : State) (p : Nat) (v : Int) : (s.setPar p v).ses = s.ses := rfl
@[simp] theorem setPar_grt (s : State) (p : Nat) (v : Int) : (s.setPar p v).grt = s.grt := rfl
@[simp] theorem setPar_dlm (s : State) (p : Nat) (v : Int) : (s.setPar p v).dlm = s.dlm := rfl
@[simp] theorem setPar_lsw (s : State) (p : Nat) (v : Int) : (s.setPar p v).lsw = s.lsw := rfl
@[simp] theorem setPar_lcd (s : State) (p : Nat) (v : Int) : (s.setPar p v).lcd = s.lcd := rfl
@[simp] theorem setPar_nfc (s : State) (p : Nat) (v : Int) : (s.setPar p v).nfc = s.nfc := rfl
@[simp] theorem setPar_hif (s : State) (p : Nat) (v : Int) : (s.setPar p v).hif = s.hif := rfl
@[simp] theorem setPar_mail (s : State) (p : Nat) (v : Int) : (s.setPar p v).mail = s.mail := rfl
@[simp] theorem setPar_boot (s : State) (p : Nat) (v : Int) : (s.setPar p v).boot = s.boot := rfl
@[simp] theorem setPar_mem (s : State) (p : Nat) (v : Int) : (s.setPar p v).mem = s.mem := rfl
@[simp] theorem setPar_pow (s : State) (p : Nat) (v : Int) : (s.setPar p v).pow = s.pow := rfl
@[simp] theorem setPar_upd (s : State) (p : Nat) (v : Int) : (s.setPar p v).upd = s.upd := rfl
@[simp] theorem setPar_amb (s : State) (p : Nat) (v : Int) : (s.setPar p v).amb = s.amb := rfl
@[simp] theorem setPar_eth (s : State) (p : Nat) (v : Int) : (s.setPar p v).eth = s.eth := rfl
@[simp] theorem setPar_x09 (s : State) (p : Nat) (v : Int) : (s.setPar p v).x09 = s.x09 := rfl
@[simp] theorem setPar_x11 (s : State) (p : Nat) (v : Int) : (s.setPar p v).x11 = s.x11 := rfl
@[simp] theorem setPar_posts (s : State) (p : Nat) (v : Int) : (s.setPar p v).posts = s.posts := rfl
@[simp] theorem setPar_postOrder (s : State) (p : Nat) (v : Int) : (s.setPar p v).postOrder = s.postOrder := rfl
@[simp] theorem setPar_out (s : State) (p : Nat) (v : Int) : (s.setPar p v).out = s.out := rfl
@[simp] theorem setPar_free (s : State) (p : Nat) (v : Int) : (s.setPar p v).free = s.free := rfl
@[simp] theorem setPar_pending (s : State) (p : Nat) (v : Int) : (s.setPar p v).pending = s.pending := rfl

@[simp] theorem emit_variant (s : State) (o : Output) : (s.emit o).variant = s.variant := rfl
@[simp] theorem emit_regs (s : State) (o : Output) : (s.emit o).regs = s.regs := rfl
@[simp] theorem emit_params (s : State) (o : Output) : (s.emit o).params = s.params := rfl
@[simp] theorem emit_xings (s : State) (o : Output) : (s.emit o).xings = s.xings := rfl
@[simp] theorem emit_ttb (s : State) (o : Output) : (s.emit o).ttb = s.ttb := rfl
@[simp] theorem emit_tok (s : State) (o : Output) : (s.emit o).tok = s.tok := rfl
@[simp] theorem emit_afe (s : State) (o : Output) : (s.emit o).afe = s.afe := rfl
@[simp] theorem emit_pts (s : State) (o : Output) : (s.emit o).pts = s.pts := rfl
@[simp] theorem emit_x00 (s : State) (o : Output) : (s.emit o).x00 = s.x00 := rfl
@[simp] theorem emit_x01 (s : State) (o : Output) : (s.emit o).x01 = s.x01 := rfl
@[simp] theorem emit_parPend (s : State) (o : Output) : (s.emit o).parPend = s.parPend := rfl
@[simp] theorem emit_parNext (s : State) (o : Output) : (s.emit o).parNext = s.parNext := rfl
@[simp] theorem emit_corrSent (s : State) (o : Output) : (s.emit o).corrSent = s.corrSent := rfl
@[simp] theorem emit_bil (s : State) (o : Output) : (s.emit o).bil = s.bil := rfl
@[simp] theorem emit_btm (s : State) (o : Output) : (s.emit o).btm = s.btm := rfl
@[simp] theorem emit_logs (s : State) (o : Output) : (s.emit o).logs = s.logs := rfl
@[simp] theorem emit_saf (s : State) (o : Output) : (s.emit o).saf = s.saf := rfl
@[simp] theorem emit_x03 (s : State) (o : Output) : (s.emit o).x03 = s.x03 := rfl
@[simp] theorem emit_x19 (s : State) (o : Output) : (s.emit o).x19 = s.x19 := rfl
@[simp] theorem emit_x04 (s : State) (o : Output) : (s.emit o).x04 = s.x04 := rfl
@[simp] theorem emit_x05 (s : State) (o : Output) : (s.emit o).x05 = s.x05 := rfl
@[simp] theorem emit_x06 (s : State) (o : Output) : (s.emit o).x06 = s.x06 := rfl
@[simp] theorem emit_q (s : State) (o : Output) : (s.emit o).q = s.q := rfl
@[simp] theorem emit_grpSeq (s : State) (o : Output) : (s.emit o).grpSeq = s.grpSeq := rfl
@[simp] theorem emit_vl (s : State) (o : Output) : (s.emit o).vl = s.vl := rfl
@[simp] theorem emit_ses (s : State) (o : Output) : (s.emit o).ses = s.ses := rfl
@[simp] theorem emit_grt (s : State) (o : Output) : (s.emit o).grt = s.grt := rfl
@[simp] theorem emit_dlm (s : State) (o : Output) : (s.emit o).dlm = s.dlm := rfl
@[simp] theorem emit_lsw (s : State) (o : Output) : (s.emit o).lsw = s.lsw := rfl
@[simp] theorem emit_lcd (s : State) (o : Output) : (s.emit o).lcd = s.lcd := rfl
@[simp] theorem emit_nfc (s : State) (o : Output) : (s.emit o).nfc = s.nfc := rfl
@[simp] theorem emit_hif (s : State) (o : Output) : (s.emit o).hif = s.hif := rfl
@[simp] theorem emit_mail (s : State) (o : Output) : (s.emit o).mail = s.mail := rfl
@[simp] theorem emit_boot (s : State) (o : Output) : (s.emit o).boot = s.boot := rfl
@[simp] theorem emit_mem (s : State) (o : Output) : (s.emit o).mem = s.mem := rfl
@[simp] theorem emit_pow (s : State) (o : Output) : (s.emit o).pow = s.pow := rfl
@[simp] theorem emit_upd (s : State) (o : Output) : (s.emit o).upd = s.upd := rfl
@[simp] theorem emit_amb (s : State) (o : Output) : (s.emit o).amb = s.amb := rfl
@[simp] theorem emit_eth (s : State) (o : Output) : (s.emit o).eth = s.eth := rfl
@[simp] theorem emit_x09 (s : State) (o : Output) : (s.emit o).x09 = s.x09 := rfl
@[simp] theorem emit_x11 (s : State) (o : Output) : (s.emit o).x11 = s.x11 := rfl
@[simp] theorem emit_posts (s : State) (o : Output) : (s.emit o).posts = s.posts := rfl
@[simp] theorem emit_postOrder (s : State) (o : Output) : (s.emit o).postOrder = s.postOrder := rfl
@[simp] theorem emit_free (s : State) (o : Output) : (s.emit o).free = s.free := rfl
@[simp] theorem emit_pending (s : State) (o : Output) : (s.emit o).pending = s.pending := rfl

@[simp] theorem setReg_regs (s : State) (a : Nat) (w : Word) : (s.setReg a w).regs = Sparse.set RegMap.resetOf s.regs a w := rfl
@[simp] theorem setPar_params (s : State) (p : Nat) (v : Int) : (s.setPar p v).params = Sparse.set ParamMap.default s.params p v := rfl
@[simp] theorem emit_out (s : State) (o : Output) : (s.emit o).out = o :: s.out := rfl

end Sys2Proof.Machine.State
end

