-- ==== Sys2Proof/Laws/Registers.lean ====
section
/-!
SUPPORT. Laws of registers, their fields and parameters: a read after a write gives what was written, and a write leaves every other register,
every other field and every other parameter as it was.
-/
namespace Sys2Proof

namespace Bits

theorem get_eq_extract (w : Word) (lo n : Nat) : get w lo n = (w.extractLsb' lo n).toNat := by
  simp [get, BitVec.extractLsb'_toNat]

theorem getLsbD_mask (lo n i : Nat) : (mask lo n).getLsbD i = (decide (i < 32) && decide (lo ≤ i) && decide (i < lo + n)) := by
  simp only [mask, BitVec.getLsbD_ofNat, Nat.testBit_shiftLeft, Nat.testBit_two_pow_sub_one, ge_iff_le]
  by_cases h : lo ≤ i
  · have : (i - lo < n) ↔ i < lo + n := by omega
    simp [h, this]
  · simp [h]

theorem getLsbD_put (w : Word) (lo n v i : Nat) :
    (put w lo n v).getLsbD i = if i < 32 ∧ lo ≤ i ∧ i < lo + n then v.testBit (i - lo) else w.getLsbD i := by
  simp only [put, BitVec.getLsbD_or, BitVec.getLsbD_and, BitVec.getLsbD_not, getLsbD_mask, BitVec.getLsbD_ofNat, Nat.testBit_shiftLeft,
    Nat.testBit_mod_two_pow, ge_iff_le]
  by_cases h1 : i < 32
  · by_cases h2 : lo ≤ i
    · by_cases h3 : i < lo + n
      · have : i - lo < n := by omega
        simp [h1, h2, h3, this]
      · have : ¬ i - lo < n := by omega
        simp [h1, h2, h3, this]
    · simp [h1, h2]
  · simp [h1, BitVec.getLsbD_of_ge _ _ (Nat.le_of_not_lt h1)]

theorem testBit_get (w : Word) (lo n i : Nat) : (get w lo n).testBit i = (decide (i < n) && w.getLsbD (lo + i)) := by
  simp [get, Nat.testBit_mod_two_pow, Nat.testBit_shiftRight, BitVec.getLsbD]

/-- A field reads as what was written to it. -/
theorem get_put_self (w : Word) (lo n v : Nat) (h : lo + n ≤ 32) : get (put w lo n v) lo n = v % 2 ^ n := by
  apply Nat.eq_of_testBit_eq
  intro i
  rw [testBit_get, getLsbD_put, Nat.testBit_mod_two_pow]
  by_cases hi : i < n
  · have : lo + i < 32 := by omega
    simp [hi, this]
  · simp [hi]

/-- A field is unchanged by a write of a field that shares no bit with it. -/
theorem get_put_of_disjoint (w : Word) {lo n lo' n' : Nat} (v : Nat) (h : lo + n ≤ lo' ∨ lo' + n' ≤ lo) :
    get (put w lo n v) lo' n' = get w lo' n' := by
  apply Nat.eq_of_testBit_eq
  intro i
  rw [testBit_get, testBit_get, getLsbD_put]
  by_cases hi : i < n'
  · have : ¬ (lo + (0 : Nat) ≤ lo' + i ∧ lo' + i < lo + n) := by omega
    simp [hi]
    intro _ h1 h2
    omega
  · simp [hi]

end Bits

namespace Machine.State

@[simp] theorem reg_setReg_self (s : State) (a : Nat) (w : Word) : (s.setReg a w).reg a = w :=
  Sparse.get_set_self _ _ _ _

theorem reg_setReg_of_ne (s : State) {a b : Nat} (w : Word) (h : b ≠ a) : (s.setReg a w).reg b = s.reg b :=
  Sparse.get_set_of_ne _ _ _ h

@[simp] theorem par_setPar_self (s : State) (p : Nat) (v : Int) : (s.setPar p v).par p = v :=
  Sparse.get_set_self _ _ _ _

theorem par_setPar_of_ne (s : State) {p q : Nat} (v : Int) (h : q ≠ p) : (s.setPar p v).par q = s.par q :=
  Sparse.get_set_of_ne _ _ _ h

theorem reg_put_of_ne (s : State) {f : RegField} {b : Nat} (v : Nat) (h : b ≠ f.reg) : (s.put f v).reg b = s.reg b :=
  reg_setReg_of_ne s _ h

/-- A field reads as what was written to it. -/
theorem get_put_self (s : State) (f : RegField) (v : Nat) (h : f.lo + f.width ≤ 32) : (s.put f v).get f = v % 2 ^ f.width := by
  simp [get, put, Bits.get_put_self _ _ _ _ h]

/-- Two fields share no bit. -/
def Apart (f g : RegField) : Prop := f.reg ≠ g.reg ∨ f.lo + f.width ≤ g.lo ∨ g.lo + g.width ≤ f.lo

/-- Another field is unchanged by the write of a field. -/
theorem get_put_of_apart (s : State) {f g : RegField} (v : Nat) (h : Apart f g) : (s.put f v).get g = s.get g := by
  by_cases hr : g.reg = f.reg
  · have h' : f.lo + f.width ≤ g.lo ∨ g.lo + g.width ≤ f.lo := by
      rcases h with h | h
      · exact absurd hr.symm h
      · exact h
    simp only [get, put, hr, reg_setReg_self]
    exact Bits.get_put_of_disjoint _ _ h'
  · simp only [get]
    rw [reg_put_of_ne _ _ hr]

theorem get_raise_of_apart (s : State) {f g : RegField} (h : Apart f g) : (s.raise f).get g = s.get g := get_put_of_apart s _ h
theorem get_lower_of_apart (s : State) {f g : RegField} (h : Apart f g) : (s.lower f).get g = s.get g := get_put_of_apart s _ h
theorem get_putB_of_apart (s : State) {f g : RegField} (b : Bool) (h : Apart f g) : (s.putB f b).get g = s.get g := get_put_of_apart s _ h
theorem get_bump_of_apart (s : State) {f g : RegField} (n : Nat) (h : Apart f g) : (s.bump f n).get g = s.get g := get_put_of_apart s _ h
theorem get_putBit_of_apart (s : State) {g : RegField} (a i : Nat) (b : Bool) (h : Apart ⟨a, i, 1⟩ g) : (s.putBit a i b).get g = s.get g :=
  get_put_of_apart s _ h

theorem get_setReg_of_ne (s : State) {a : Nat} {g : RegField} (w : Word) (h : g.reg ≠ a) : (s.setReg a w).get g = s.get g := by
  simp only [get]; rw [reg_setReg_of_ne _ _ h]
theorem get_setRegN_of_ne (s : State) {a : Nat} {g : RegField} (v : Nat) (h : g.reg ≠ a) : (s.setRegN a v).get g = s.get g := get_setReg_of_ne s _ h
theorem get_setRegI_of_ne (s : State) {a : Nat} {g : RegField} (v : Int) (h : g.reg ≠ a) : (s.setRegI a v).get g = s.get g := get_setReg_of_ne s _ h
theorem get_bumpReg_of_ne (s : State) {a : Nat} {g : RegField} (n : Nat) (h : g.reg ≠ a) : (s.bumpReg a n).get g = s.get g := get_setReg_of_ne s _ h

@[simp] theorem get_emit (s : State) (o : Output) (g : RegField) : (s.emit o).get g = s.get g := rfl
@[simp] theorem reg_emit (s : State) (o : Output) (a : Nat) : (s.emit o).reg a = s.reg a := rfl
@[simp] theorem par_emit (s : State) (o : Output) (p : Nat) : (s.emit o).par p = s.par p := rfl
@[simp] theorem get_setPar (s : State) (p : Nat) (v : Int) (g : RegField) : (s.setPar p v).get g = s.get g := rfl

theorem on_raise (s : State) (f : RegField) (h : f.lo + f.width ≤ 32) (hw : 0 < f.width) : (s.raise f).on f = true := by
  have : 1 % 2 ^ f.width = 1 := Nat.mod_eq_of_lt (Nat.one_lt_two_pow (by omega))
  simp [on, raise, get_put_self _ _ _ h, this]

theorem on_lower (s : State) (f : RegField) (h : f.lo + f.width ≤ 32) : (s.lower f).on f = false := by
  simp [on, lower, get_put_self _ _ _ h]

theorem regN_setRegN_self (s : State) (a v : Nat) : (s.setRegN a v).regN a = v % 2 ^ 32 := by
  simp [regN, setRegN]

theorem get_bump_self (s : State) (f : RegField) (n : Nat) (h : f.lo + f.width ≤ 32) : (s.bump f n).get f = Bits.satAdd f.width (s.get f) n := by
  have : Bits.satAdd f.width (s.get f) n < 2 ^ f.width := by
    have := Nat.two_pow_pos f.width
    simp [Bits.satAdd] <;> omega
  rw [bump, get_put_self _ _ _ h, Nat.mod_eq_of_lt this]

end Machine.State

end Sys2Proof
end

