-- ==== Sys2Proof/Laws/Setters.lean ====
section
/-!
SUPPORT. What replacing one part of the state leaves as it is: one lemma per field and update, and the registers and parameters.
-/
namespace Sys2Proof.Machine

@[simp] theorem setAmb_variant (x : AmbState) (s : State) : (setAmb x s).variant = s.variant := rfl
@[simp] theorem setAmb_regs (x : AmbState) (s : State) : (setAmb x s).regs = s.regs := rfl
@[simp] theorem setAmb_params (x : AmbState) (s : State) : (setAmb x s).params = s.params := rfl
@[simp] theorem setAmb_xings (x : AmbState) (s : State) : (setAmb x s).xings = s.xings := rfl
@[simp] theorem setAmb_ttb (x : AmbState) (s : State) : (setAmb x s).ttb = s.ttb := rfl
@[simp] theorem setAmb_tok (x : AmbState) (s : State) : (setAmb x s).tok = s.tok := rfl
@[simp] theorem setAmb_afe (x : AmbState) (s : State) : (setAmb x s).afe = s.afe := rfl
@[simp] theorem setAmb_pts (x : AmbState) (s : State) : (setAmb x s).pts = s.pts := rfl
@[simp] theorem setAmb_x00 (x : AmbState) (s : State) : (setAmb x s).x00 = s.x00 := rfl
@[simp] theorem setAmb_x01 (x : AmbState) (s : State) : (setAmb x s).x01 = s.x01 := rfl
@[simp] theorem setAmb_parPend (x : AmbState) (s : State) : (setAmb x s).parPend = s.parPend := rfl
@[simp] theorem setAmb_parNext (x : AmbState) (s : State) : (setAmb x s).parNext = s.parNext := rfl
@[simp] theorem setAmb_corrSent (x : AmbState) (s : State) : (setAmb x s).corrSent = s.corrSent := rfl
@[simp] theorem setAmb_bil (x : AmbState) (s : State) : (setAmb x s).bil = s.bil := rfl
@[simp] theorem setAmb_btm (x : AmbState) (s : State) : (setAmb x s).btm = s.btm := rfl
@[simp] theorem setAmb_logs (x : AmbState) (s : State) : (setAmb x s).logs = s.logs := rfl
@[simp] theorem setAmb_saf (x : AmbState) (s : State) : (setAmb x s).saf = s.saf := rfl
@[simp] theorem setAmb_x03 (x : AmbState) (s : State) : (setAmb x s).x03 = s.x03 := rfl
@[simp] theorem setAmb_x19 (x : AmbState) (s : State) : (setAmb x s).x19 = s.x19 := rfl
@[simp] theorem setAmb_x04 (x : AmbState) (s : State) : (setAmb x s).x04 = s.x04 := rfl
@[simp] theorem setAmb_x05 (x : AmbState) (s : State) : (setAmb x s).x05 = s.x05 := rfl
@[simp] theorem setAmb_x06 (x : AmbState) (s : State) : (setAmb x s).x06 = s.x06 := rfl
@[simp] theorem setAmb_q (x : AmbState) (s : State) : (setAmb x s).q = s.q := rfl
@[simp] theorem setAmb_grpSeq (x : AmbState) (s : State) : (setAmb x s).grpSeq = s.grpSeq := rfl
@[simp] theorem setAmb_vl (x : AmbState) (s : State) : (setAmb x s).vl = s.vl := rfl
@[simp] theorem setAmb_ses (x : AmbState) (s : State) : (setAmb x s).ses = s.ses := rfl
@[simp] theorem setAmb_grt (x : AmbState) (s : State) : (setAmb x s).grt = s.grt := rfl
@[simp] theorem setAmb_dlm (x : AmbState) (s : State) : (setAmb x s).dlm = s.dlm := rfl
@[simp] theorem setAmb_lsw (x : AmbState) (s : State) : (setAmb x s).lsw = s.lsw := rfl
@[simp] theorem setAmb_lcd (x : AmbState) (s : State) : (setAmb x s).lcd = s.lcd := rfl
@[simp] theorem setAmb_nfc (x : AmbState) (s : State) : (setAmb x s).nfc = s.nfc := rfl
@[simp] theorem setAmb_hif (x : AmbState) (s : State) : (setAmb x s).hif = s.hif := rfl
@[simp] theorem setAmb_mail (x : AmbState) (s : State) : (setAmb x s).mail = s.mail := rfl
@[simp] theorem setAmb_boot (x : AmbState) (s : State) : (setAmb x s).boot = s.boot := rfl
@[simp] theorem setAmb_mem (x : AmbState) (s : State) : (setAmb x s).mem = s.mem := rfl
@[simp] theorem setAmb_pow (x : AmbState) (s : State) : (setAmb x s).pow = s.pow := rfl
@[simp] theorem setAmb_upd (x : AmbState) (s : State) : (setAmb x s).upd = s.upd := rfl
@[simp] theorem setAmb_amb (x : AmbState) (s : State) : (setAmb x s).amb = x := rfl
@[simp] theorem setAmb_eth (x : AmbState) (s : State) : (setAmb x s).eth = s.eth := rfl
@[simp] theorem setAmb_x09 (x : AmbState) (s : State) : (setAmb x s).x09 = s.x09 := rfl
@[simp] theorem setAmb_x11 (x : AmbState) (s : State) : (setAmb x s).x11 = s.x11 := rfl
@[simp] theorem setAmb_posts (x : AmbState) (s : State) : (setAmb x s).posts = s.posts := rfl
@[simp] theorem setAmb_postOrder (x : AmbState) (s : State) : (setAmb x s).postOrder = s.postOrder := rfl
@[simp] theorem setAmb_out (x : AmbState) (s : State) : (setAmb x s).out = s.out := rfl
@[simp] theorem setAmb_free (x : AmbState) (s : State) : (setAmb x s).free = s.free := rfl
@[simp] theorem setAmb_pending (x : AmbState) (s : State) : (setAmb x s).pending = s.pending := rfl
@[simp] theorem setAmb_get (x : AmbState) (s : State) (f : RegField) : (setAmb x s).get f = s.get f := rfl
@[simp] theorem setAmb_reg (x : AmbState) (s : State) (a : Nat) : (setAmb x s).reg a = s.reg a := rfl
@[simp] theorem setAmb_par (x : AmbState) (s : State) (p : Nat) : (setAmb x s).par p = s.par p := rfl

@[simp] theorem setDlm_variant (x : DlmState) (s : State) : (setDlm x s).variant = s.variant := rfl
@[simp] theorem setDlm_regs (x : DlmState) (s : State) : (setDlm x s).regs = s.regs := rfl
@[simp] theorem setDlm_params (x : DlmState) (s : State) : (setDlm x s).params = s.params := rfl
@[simp] theorem setDlm_xings (x : DlmState) (s : State) : (setDlm x s).xings = s.xings := rfl
@[simp] theorem setDlm_ttb (x : DlmState) (s : State) : (setDlm x s).ttb = s.ttb := rfl
@[simp] theorem setDlm_tok (x : DlmState) (s : State) : (setDlm x s).tok = s.tok := rfl
@[simp] theorem setDlm_afe (x : DlmState) (s : State) : (setDlm x s).afe = s.afe := rfl
@[simp] theorem setDlm_pts (x : DlmState) (s : State) : (setDlm x s).pts = s.pts := rfl
@[simp] theorem setDlm_x00 (x : DlmState) (s : State) : (setDlm x s).x00 = s.x00 := rfl
@[simp] theorem setDlm_x01 (x : DlmState) (s : State) : (setDlm x s).x01 = s.x01 := rfl
@[simp] theorem setDlm_parPend (x : DlmState) (s : State) : (setDlm x s).parPend = s.parPend := rfl
@[simp] theorem setDlm_parNext (x : DlmState) (s : State) : (setDlm x s).parNext = s.parNext := rfl
@[simp] theorem setDlm_corrSent (x : DlmState) (s : State) : (setDlm x s).corrSent = s.corrSent := rfl
@[simp] theorem setDlm_bil (x : DlmState) (s : State) : (setDlm x s).bil = s.bil := rfl
@[simp] theorem setDlm_btm (x : DlmState) (s : State) : (setDlm x s).btm = s.btm := rfl
@[simp] theorem setDlm_logs (x : DlmState) (s : State) : (setDlm x s).logs = s.logs := rfl
@[simp] theorem setDlm_saf (x : DlmState) (s : State) : (setDlm x s).saf = s.saf := rfl
@[simp] theorem setDlm_x03 (x : DlmState) (s : State) : (setDlm x s).x03 = s.x03 := rfl
@[simp] theorem setDlm_x19 (x : DlmState) (s : State) : (setDlm x s).x19 = s.x19 := rfl
@[simp] theorem setDlm_x04 (x : DlmState) (s : State) : (setDlm x s).x04 = s.x04 := rfl
@[simp] theorem setDlm_x05 (x : DlmState) (s : State) : (setDlm x s).x05 = s.x05 := rfl
@[simp] theorem setDlm_x06 (x : DlmState) (s : State) : (setDlm x s).x06 = s.x06 := rfl
@[simp] theorem setDlm_q (x : DlmState) (s : State) : (setDlm x s).q = s.q := rfl
@[simp] theorem setDlm_grpSeq (x : DlmState) (s : State) : (setDlm x s).grpSeq = s.grpSeq := rfl
@[simp] theorem setDlm_vl (x : DlmState) (s : State) : (setDlm x s).vl = s.vl := rfl
@[simp] theorem setDlm_ses (x : DlmState) (s : State) : (setDlm x s).ses = s.ses := rfl
@[simp] theorem setDlm_grt (x : DlmState) (s : State) : (setDlm x s).grt = s.grt := rfl
@[simp] theorem setDlm_dlm (x : DlmState) (s : State) : (setDlm x s).dlm = x := rfl
@[simp] theorem setDlm_lsw (x : DlmState) (s : State) : (setDlm x s).lsw = s.lsw := rfl
@[simp] theorem setDlm_lcd (x : DlmState) (s : State) : (setDlm x s).lcd = s.lcd := rfl
@[simp] theorem setDlm_nfc (x : DlmState) (s : State) : (setDlm x s).nfc = s.nfc := rfl
@[simp] theorem setDlm_hif (x : DlmState) (s : State) : (setDlm x s).hif = s.hif := rfl
@[simp] theorem setDlm_mail (x : DlmState) (s : State) : (setDlm x s).mail = s.mail := rfl
@[simp] theorem setDlm_boot (x : DlmState) (s : State) : (setDlm x s).boot = s.boot := rfl
@[simp] theorem setDlm_mem (x : DlmState) (s : State) : (setDlm x s).mem = s.mem := rfl
@[simp] theorem setDlm_pow (x : DlmState) (s : State) : (setDlm x s).pow = s.pow := rfl
@[simp] theorem setDlm_upd (x : DlmState) (s : State) : (setDlm x s).upd = s.upd := rfl
@[simp] theorem setDlm_amb (x : DlmState) (s : State) : (setDlm x s).amb = s.amb := rfl
@[simp] theorem setDlm_eth (x : DlmState) (s : State) : (setDlm x s).eth = s.eth := rfl
@[simp] theorem setDlm_x09 (x : DlmState) (s : State) : (setDlm x s).x09 = s.x09 := rfl
@[simp] theorem setDlm_x11 (x : DlmState) (s : State) : (setDlm x s).x11 = s.x11 := rfl
@[simp] theorem setDlm_posts (x : DlmState) (s : State) : (setDlm x s).posts = s.posts := rfl
@[simp] theorem setDlm_postOrder (x : DlmState) (s : State) : (setDlm x s).postOrder = s.postOrder := rfl
@[simp] theorem setDlm_out (x : DlmState) (s : State) : (setDlm x s).out = s.out := rfl
@[simp] theorem setDlm_free (x : DlmState) (s : State) : (setDlm x s).free = s.free := rfl
@[simp] theorem setDlm_pending (x : DlmState) (s : State) : (setDlm x s).pending = s.pending := rfl
@[simp] theorem setDlm_get (x : DlmState) (s : State) (f : RegField) : (setDlm x s).get f = s.get f := rfl
@[simp] theorem setDlm_reg (x : DlmState) (s : State) (a : Nat) : (setDlm x s).reg a = s.reg a := rfl
@[simp] theorem setDlm_par (x : DlmState) (s : State) (p : Nat) : (setDlm x s).par p = s.par p := rfl

@[simp] theorem setMem_variant (x : MemState) (s : State) : (setMem x s).variant = s.variant := rfl
@[simp] theorem setMem_regs (x : MemState) (s : State) : (setMem x s).regs = s.regs := rfl
@[simp] theorem setMem_params (x : MemState) (s : State) : (setMem x s).params = s.params := rfl
@[simp] theorem setMem_xings (x : MemState) (s : State) : (setMem x s).xings = s.xings := rfl
@[simp] theorem setMem_ttb (x : MemState) (s : State) : (setMem x s).ttb = s.ttb := rfl
@[simp] theorem setMem_tok (x : MemState) (s : State) : (setMem x s).tok = s.tok := rfl
@[simp] theorem setMem_afe (x : MemState) (s : State) : (setMem x s).afe = s.afe := rfl
@[simp] theorem setMem_pts (x : MemState) (s : State) : (setMem x s).pts = s.pts := rfl
@[simp] theorem setMem_x00 (x : MemState) (s : State) : (setMem x s).x00 = s.x00 := rfl
@[simp] theorem setMem_x01 (x : MemState) (s : State) : (setMem x s).x01 = s.x01 := rfl
@[simp] theorem setMem_parPend (x : MemState) (s : State) : (setMem x s).parPend = s.parPend := rfl
@[simp] theorem setMem_parNext (x : MemState) (s : State) : (setMem x s).parNext = s.parNext := rfl
@[simp] theorem setMem_corrSent (x : MemState) (s : State) : (setMem x s).corrSent = s.corrSent := rfl
@[simp] theorem setMem_bil (x : MemState) (s : State) : (setMem x s).bil = s.bil := rfl
@[simp] theorem setMem_btm (x : MemState) (s : State) : (setMem x s).btm = s.btm := rfl
@[simp] theorem setMem_logs (x : MemState) (s : State) : (setMem x s).logs = s.logs := rfl
@[simp] theorem setMem_saf (x : MemState) (s : State) : (setMem x s).saf = s.saf := rfl
@[simp] theorem setMem_x03 (x : MemState) (s : State) : (setMem x s).x03 = s.x03 := rfl
@[simp] theorem setMem_x19 (x : MemState) (s : State) : (setMem x s).x19 = s.x19 := rfl
@[simp] theorem setMem_x04 (x : MemState) (s : State) : (setMem x s).x04 = s.x04 := rfl
@[simp] theorem setMem_x05 (x : MemState) (s : State) : (setMem x s).x05 = s.x05 := rfl
@[simp] theorem setMem_x06 (x : MemState) (s : State) : (setMem x s).x06 = s.x06 := rfl
@[simp] theorem setMem_q (x : MemState) (s : State) : (setMem x s).q = s.q := rfl
@[simp] theorem setMem_grpSeq (x : MemState) (s : State) : (setMem x s).grpSeq = s.grpSeq := rfl
@[simp] theorem setMem_vl (x : MemState) (s : State) : (setMem x s).vl = s.vl := rfl
@[simp] theorem setMem_ses (x : MemState) (s : State) : (setMem x s).ses = s.ses := rfl
@[simp] theorem setMem_grt (x : MemState) (s : State) : (setMem x s).grt = s.grt := rfl
@[simp] theorem setMem_dlm (x : MemState) (s : State) : (setMem x s).dlm = s.dlm := rfl
@[simp] theorem setMem_lsw (x : MemState) (s : State) : (setMem x s).lsw = s.lsw := rfl
@[simp] theorem setMem_lcd (x : MemState) (s : State) : (setMem x s).lcd = s.lcd := rfl
@[simp] theorem setMem_nfc (x : MemState) (s : State) : (setMem x s).nfc = s.nfc := rfl
@[simp] theorem setMem_hif (x : MemState) (s : State) : (setMem x s).hif = s.hif := rfl
@[simp] theorem setMem_mail (x : MemState) (s : State) : (setMem x s).mail = s.mail := rfl
@[simp] theorem setMem_boot (x : MemState) (s : State) : (setMem x s).boot = s.boot := rfl
@[simp] theorem setMem_mem (x : MemState) (s : State) : (setMem x s).mem = x := rfl
@[simp] theorem setMem_pow (x : MemState) (s : State) : (setMem x s).pow = s.pow := rfl
@[simp] theorem setMem_upd (x : MemState) (s : State) : (setMem x s).upd = s.upd := rfl
@[simp] theorem setMem_amb (x : MemState) (s : State) : (setMem x s).amb = s.amb := rfl
@[simp] theorem setMem_eth (x : MemState) (s : State) : (setMem x s).eth = s.eth := rfl
@[simp] theorem setMem_x09 (x : MemState) (s : State) : (setMem x s).x09 = s.x09 := rfl
@[simp] theorem setMem_x11 (x : MemState) (s : State) : (setMem x s).x11 = s.x11 := rfl
@[simp] theorem setMem_posts (x : MemState) (s : State) : (setMem x s).posts = s.posts := rfl
@[simp] theorem setMem_postOrder (x : MemState) (s : State) : (setMem x s).postOrder = s.postOrder := rfl
@[simp] theorem setMem_out (x : MemState) (s : State) : (setMem x s).out = s.out := rfl
@[simp] theorem setMem_free (x : MemState) (s : State) : (setMem x s).free = s.free := rfl
@[simp] theorem setMem_pending (x : MemState) (s : State) : (setMem x s).pending = s.pending := rfl
@[simp] theorem setMem_get (x : MemState) (s : State) (f : RegField) : (setMem x s).get f = s.get f := rfl
@[simp] theorem setMem_reg (x : MemState) (s : State) (a : Nat) : (setMem x s).reg a = s.reg a := rfl
@[simp] theorem setMem_par (x : MemState) (s : State) (p : Nat) : (setMem x s).par p = s.par p := rfl

@[simp] theorem setGrt_variant (x : GrtState) (s : State) : (setGrt x s).variant = s.variant := rfl
@[simp] theorem setGrt_regs (x : GrtState) (s : State) : (setGrt x s).regs = s.regs := rfl
@[simp] theorem setGrt_params (x : GrtState) (s : State) : (setGrt x s).params = s.params := rfl
@[simp] theorem setGrt_xings (x : GrtState) (s : State) : (setGrt x s).xings = s.xings := rfl
@[simp] theorem setGrt_ttb (x : GrtState) (s : State) : (setGrt x s).ttb = s.ttb := rfl
@[simp] theorem setGrt_tok (x : GrtState) (s : State) : (setGrt x s).tok = s.tok := rfl
@[simp] theorem setGrt_afe (x : GrtState) (s : State) : (setGrt x s).afe = s.afe := rfl
@[simp] theorem setGrt_pts (x : GrtState) (s : State) : (setGrt x s).pts = s.pts := rfl
@[simp] theorem setGrt_x00 (x : GrtState) (s : State) : (setGrt x s).x00 = s.x00 := rfl
@[simp] theorem setGrt_x01 (x : GrtState) (s : State) : (setGrt x s).x01 = s.x01 := rfl
@[simp] theorem setGrt_parPend (x : GrtState) (s : State) : (setGrt x s).parPend = s.parPend := rfl
@[simp] theorem setGrt_parNext (x : GrtState) (s : State) : (setGrt x s).parNext = s.parNext := rfl
@[simp] theorem setGrt_corrSent (x : GrtState) (s : State) : (setGrt x s).corrSent = s.corrSent := rfl
@[simp] theorem setGrt_bil (x : GrtState) (s : State) : (setGrt x s).bil = s.bil := rfl
@[simp] theorem setGrt_btm (x : GrtState) (s : State) : (setGrt x s).btm = s.btm := rfl
@[simp] theorem setGrt_logs (x : GrtState) (s : State) : (setGrt x s).logs = s.logs := rfl
@[simp] theorem setGrt_saf (x : GrtState) (s : State) : (setGrt x s).saf = s.saf := rfl
@[simp] theorem setGrt_x03 (x : GrtState) (s : State) : (setGrt x s).x03 = s.x03 := rfl
@[simp] theorem setGrt_x19 (x : GrtState) (s : State) : (setGrt x s).x19 = s.x19 := rfl
@[simp] theorem setGrt_x04 (x : GrtState) (s : State) : (setGrt x s).x04 = s.x04 := rfl
@[simp] theorem setGrt_x05 (x : GrtState) (s : State) : (setGrt x s).x05 = s.x05 := rfl
@[simp] theorem setGrt_x06 (x : GrtState) (s : State) : (setGrt x s).x06 = s.x06 := rfl
@[simp] theorem setGrt_q (x : GrtState) (s : State) : (setGrt x s).q = s.q := rfl
@[simp] theorem setGrt_grpSeq (x : GrtState) (s : State) : (setGrt x s).grpSeq = s.grpSeq := rfl
@[simp] theorem setGrt_vl (x : GrtState) (s : State) : (setGrt x s).vl = s.vl := rfl
@[simp] theorem setGrt_ses (x : GrtState) (s : State) : (setGrt x s).ses = s.ses := rfl
@[simp] theorem setGrt_grt (x : GrtState) (s : State) : (setGrt x s).grt = x := rfl
@[simp] theorem setGrt_dlm (x : GrtState) (s : State) : (setGrt x s).dlm = s.dlm := rfl
@[simp] theorem setGrt_lsw (x : GrtState) (s : State) : (setGrt x s).lsw = s.lsw := rfl
@[simp] theorem setGrt_lcd (x : GrtState) (s : State) : (setGrt x s).lcd = s.lcd := rfl
@[simp] theorem setGrt_nfc (x : GrtState) (s : State) : (setGrt x s).nfc = s.nfc := rfl
@[simp] theorem setGrt_hif (x : GrtState) (s : State) : (setGrt x s).hif = s.hif := rfl
@[simp] theorem setGrt_mail (x : GrtState) (s : State) : (setGrt x s).mail = s.mail := rfl
@[simp] theorem setGrt_boot (x : GrtState) (s : State) : (setGrt x s).boot = s.boot := rfl
@[simp] theorem setGrt_mem (x : GrtState) (s : State) : (setGrt x s).mem = s.mem := rfl
@[simp] theorem setGrt_pow (x : GrtState) (s : State) : (setGrt x s).pow = s.pow := rfl
@[simp] theorem setGrt_upd (x : GrtState) (s : State) : (setGrt x s).upd = s.upd := rfl
@[simp] theorem setGrt_amb (x : GrtState) (s : State) : (setGrt x s).amb = s.amb := rfl
@[simp] theorem setGrt_eth (x : GrtState) (s : State) : (setGrt x s).eth = s.eth := rfl
@[simp] theorem setGrt_x09 (x : GrtState) (s : State) : (setGrt x s).x09 = s.x09 := rfl
@[simp] theorem setGrt_x11 (x : GrtState) (s : State) : (setGrt x s).x11 = s.x11 := rfl
@[simp] theorem setGrt_posts (x : GrtState) (s : State) : (setGrt x s).posts = s.posts := rfl
@[simp] theorem setGrt_postOrder (x : GrtState) (s : State) : (setGrt x s).postOrder = s.postOrder := rfl
@[simp] theorem setGrt_out (x : GrtState) (s : State) : (setGrt x s).out = s.out := rfl
@[simp] theorem setGrt_free (x : GrtState) (s : State) : (setGrt x s).free = s.free := rfl
@[simp] theorem setGrt_pending (x : GrtState) (s : State) : (setGrt x s).pending = s.pending := rfl
@[simp] theorem setGrt_get (x : GrtState) (s : State) (f : RegField) : (setGrt x s).get f = s.get f := rfl
@[simp] theorem setGrt_reg (x : GrtState) (s : State) (a : Nat) : (setGrt x s).reg a = s.reg a := rfl
@[simp] theorem setGrt_par (x : GrtState) (s : State) (p : Nat) : (setGrt x s).par p = s.par p := rfl

@[simp] theorem setLcd_variant (x : LcdState) (s : State) : (setLcd x s).variant = s.variant := rfl
@[simp] theorem setLcd_regs (x : LcdState) (s : State) : (setLcd x s).regs = s.regs := rfl
@[simp] theorem setLcd_params (x : LcdState) (s : State) : (setLcd x s).params = s.params := rfl
@[simp] theorem setLcd_xings (x : LcdState) (s : State) : (setLcd x s).xings = s.xings := rfl
@[simp] theorem setLcd_ttb (x : LcdState) (s : State) : (setLcd x s).ttb = s.ttb := rfl
@[simp] theorem setLcd_tok (x : LcdState) (s : State) : (setLcd x s).tok = s.tok := rfl
@[simp] theorem setLcd_afe (x : LcdState) (s : State) : (setLcd x s).afe = s.afe := rfl
@[simp] theorem setLcd_pts (x : LcdState) (s : State) : (setLcd x s).pts = s.pts := rfl
@[simp] theorem setLcd_x00 (x : LcdState) (s : State) : (setLcd x s).x00 = s.x00 := rfl
@[simp] theorem setLcd_x01 (x : LcdState) (s : State) : (setLcd x s).x01 = s.x01 := rfl
@[simp] theorem setLcd_parPend (x : LcdState) (s : State) : (setLcd x s).parPend = s.parPend := rfl
@[simp] theorem setLcd_parNext (x : LcdState) (s : State) : (setLcd x s).parNext = s.parNext := rfl
@[simp] theorem setLcd_corrSent (x : LcdState) (s : State) : (setLcd x s).corrSent = s.corrSent := rfl
@[simp] theorem setLcd_bil (x : LcdState) (s : State) : (setLcd x s).bil = s.bil := rfl
@[simp] theorem setLcd_btm (x : LcdState) (s : State) : (setLcd x s).btm = s.btm := rfl
@[simp] theorem setLcd_logs (x : LcdState) (s : State) : (setLcd x s).logs = s.logs := rfl
@[simp] theorem setLcd_saf (x : LcdState) (s : State) : (setLcd x s).saf = s.saf := rfl
@[simp] theorem setLcd_x03 (x : LcdState) (s : State) : (setLcd x s).x03 = s.x03 := rfl
@[simp] theorem setLcd_x19 (x : LcdState) (s : State) : (setLcd x s).x19 = s.x19 := rfl
@[simp] theorem setLcd_x04 (x : LcdState) (s : State) : (setLcd x s).x04 = s.x04 := rfl
@[simp] theorem setLcd_x05 (x : LcdState) (s : State) : (setLcd x s).x05 = s.x05 := rfl
@[simp] theorem setLcd_x06 (x : LcdState) (s : State) : (setLcd x s).x06 = s.x06 := rfl
@[simp] theorem setLcd_q (x : LcdState) (s : State) : (setLcd x s).q = s.q := rfl
@[simp] theorem setLcd_grpSeq (x : LcdState) (s : State) : (setLcd x s).grpSeq = s.grpSeq := rfl
@[simp] theorem setLcd_vl (x : LcdState) (s : State) : (setLcd x s).vl = s.vl := rfl
@[simp] theorem setLcd_ses (x : LcdState) (s : State) : (setLcd x s).ses = s.ses := rfl
@[simp] theorem setLcd_grt (x : LcdState) (s : State) : (setLcd x s).grt = s.grt := rfl
@[simp] theorem setLcd_dlm (x : LcdState) (s : State) : (setLcd x s).dlm = s.dlm := rfl
@[simp] theorem setLcd_lsw (x : LcdState) (s : State) : (setLcd x s).lsw = s.lsw := rfl
@[simp] theorem setLcd_lcd (x : LcdState) (s : State) : (setLcd x s).lcd = x := rfl
@[simp] theorem setLcd_nfc (x : LcdState) (s : State) : (setLcd x s).nfc = s.nfc := rfl
@[simp] theorem setLcd_hif (x : LcdState) (s : State) : (setLcd x s).hif = s.hif := rfl
@[simp] theorem setLcd_mail (x : LcdState) (s : State) : (setLcd x s).mail = s.mail := rfl
@[simp] theorem setLcd_boot (x : LcdState) (s : State) : (setLcd x s).boot = s.boot := rfl
@[simp] theorem setLcd_mem (x : LcdState) (s : State) : (setLcd x s).mem = s.mem := rfl
@[simp] theorem setLcd_pow (x : LcdState) (s : State) : (setLcd x s).pow = s.pow := rfl
@[simp] theorem setLcd_upd (x : LcdState) (s : State) : (setLcd x s).upd = s.upd := rfl
@[simp] theorem setLcd_amb (x : LcdState) (s : State) : (setLcd x s).amb = s.amb := rfl
@[simp] theorem setLcd_eth (x : LcdState) (s : State) : (setLcd x s).eth = s.eth := rfl
@[simp] theorem setLcd_x09 (x : LcdState) (s : State) : (setLcd x s).x09 = s.x09 := rfl
@[simp] theorem setLcd_x11 (x : LcdState) (s : State) : (setLcd x s).x11 = s.x11 := rfl
@[simp] theorem setLcd_posts (x : LcdState) (s : State) : (setLcd x s).posts = s.posts := rfl
@[simp] theorem setLcd_postOrder (x : LcdState) (s : State) : (setLcd x s).postOrder = s.postOrder := rfl
@[simp] theorem setLcd_out (x : LcdState) (s : State) : (setLcd x s).out = s.out := rfl
@[simp] theorem setLcd_free (x : LcdState) (s : State) : (setLcd x s).free = s.free := rfl
@[simp] theorem setLcd_pending (x : LcdState) (s : State) : (setLcd x s).pending = s.pending := rfl
@[simp] theorem setLcd_get (x : LcdState) (s : State) (f : RegField) : (setLcd x s).get f = s.get f := rfl
@[simp] theorem setLcd_reg (x : LcdState) (s : State) (a : Nat) : (setLcd x s).reg a = s.reg a := rfl
@[simp] theorem setLcd_par (x : LcdState) (s : State) (p : Nat) : (setLcd x s).par p = s.par p := rfl

@[simp] theorem setLsw_variant (x : LswState) (s : State) : (setLsw x s).variant = s.variant := rfl
@[simp] theorem setLsw_regs (x : LswState) (s : State) : (setLsw x s).regs = s.regs := rfl
@[simp] theorem setLsw_params (x : LswState) (s : State) : (setLsw x s).params = s.params := rfl
@[simp] theorem setLsw_xings (x : LswState) (s : State) : (setLsw x s).xings = s.xings := rfl
@[simp] theorem setLsw_ttb (x : LswState) (s : State) : (setLsw x s).ttb = s.ttb := rfl
@[simp] theorem setLsw_tok (x : LswState) (s : State) : (setLsw x s).tok = s.tok := rfl
@[simp] theorem setLsw_afe (x : LswState) (s : State) : (setLsw x s).afe = s.afe := rfl
@[simp] theorem setLsw_pts (x : LswState) (s : State) : (setLsw x s).pts = s.pts := rfl
@[simp] theorem setLsw_x00 (x : LswState) (s : State) : (setLsw x s).x00 = s.x00 := rfl
@[simp] theorem setLsw_x01 (x : LswState) (s : State) : (setLsw x s).x01 = s.x01 := rfl
@[simp] theorem setLsw_parPend (x : LswState) (s : State) : (setLsw x s).parPend = s.parPend := rfl
@[simp] theorem setLsw_parNext (x : LswState) (s : State) : (setLsw x s).parNext = s.parNext := rfl
@[simp] theorem setLsw_corrSent (x : LswState) (s : State) : (setLsw x s).corrSent = s.corrSent := rfl
@[simp] theorem setLsw_bil (x : LswState) (s : State) : (setLsw x s).bil = s.bil := rfl
@[simp] theorem setLsw_btm (x : LswState) (s : State) : (setLsw x s).btm = s.btm := rfl
@[simp] theorem setLsw_logs (x : LswState) (s : State) : (setLsw x s).logs = s.logs := rfl
@[simp] theorem setLsw_saf (x : LswState) (s : State) : (setLsw x s).saf = s.saf := rfl
@[simp] theorem setLsw_x03 (x : LswState) (s : State) : (setLsw x s).x03 = s.x03 := rfl
@[simp] theorem setLsw_x19 (x : LswState) (s : State) : (setLsw x s).x19 = s.x19 := rfl
@[simp] theorem setLsw_x04 (x : LswState) (s : State) : (setLsw x s).x04 = s.x04 := rfl
@[simp] theorem setLsw_x05 (x : LswState) (s : State) : (setLsw x s).x05 = s.x05 := rfl
@[simp] theorem setLsw_x06 (x : LswState) (s : State) : (setLsw x s).x06 = s.x06 := rfl
@[simp] theorem setLsw_q (x : LswState) (s : State) : (setLsw x s).q = s.q := rfl
@[simp] theorem setLsw_grpSeq (x : LswState) (s : State) : (setLsw x s).grpSeq = s.grpSeq := rfl
@[simp] theorem setLsw_vl (x : LswState) (s : State) : (setLsw x s).vl = s.vl := rfl
@[simp] theorem setLsw_ses (x : LswState) (s : State) : (setLsw x s).ses = s.ses := rfl
@[simp] theorem setLsw_grt (x : LswState) (s : State) : (setLsw x s).grt = s.grt := rfl
@[simp] theorem setLsw_dlm (x : LswState) (s : State) : (setLsw x s).dlm = s.dlm := rfl
@[simp] theorem setLsw_lsw (x : LswState) (s : State) : (setLsw x s).lsw = x := rfl
@[simp] theorem setLsw_lcd (x : LswState) (s : State) : (setLsw x s).lcd = s.lcd := rfl
@[simp] theorem setLsw_nfc (x : LswState) (s : State) : (setLsw x s).nfc = s.nfc := rfl
@[simp] theorem setLsw_hif (x : LswState) (s : State) : (setLsw x s).hif = s.hif := rfl
@[simp] theorem setLsw_mail (x : LswState) (s : State) : (setLsw x s).mail = s.mail := rfl
@[simp] theorem setLsw_boot (x : LswState) (s : State) : (setLsw x s).boot = s.boot := rfl
@[simp] theorem setLsw_mem (x : LswState) (s : State) : (setLsw x s).mem = s.mem := rfl
@[simp] theorem setLsw_pow (x : LswState) (s : State) : (setLsw x s).pow = s.pow := rfl
@[simp] theorem setLsw_upd (x : LswState) (s : State) : (setLsw x s).upd = s.upd := rfl
@[simp] theorem setLsw_amb (x : LswState) (s : State) : (setLsw x s).amb = s.amb := rfl
@[simp] theorem setLsw_eth (x : LswState) (s : State) : (setLsw x s).eth = s.eth := rfl
@[simp] theorem setLsw_x09 (x : LswState) (s : State) : (setLsw x s).x09 = s.x09 := rfl
@[simp] theorem setLsw_x11 (x : LswState) (s : State) : (setLsw x s).x11 = s.x11 := rfl
@[simp] theorem setLsw_posts (x : LswState) (s : State) : (setLsw x s).posts = s.posts := rfl
@[simp] theorem setLsw_postOrder (x : LswState) (s : State) : (setLsw x s).postOrder = s.postOrder := rfl
@[simp] theorem setLsw_out (x : LswState) (s : State) : (setLsw x s).out = s.out := rfl
@[simp] theorem setLsw_free (x : LswState) (s : State) : (setLsw x s).free = s.free := rfl
@[simp] theorem setLsw_pending (x : LswState) (s : State) : (setLsw x s).pending = s.pending := rfl
@[simp] theorem setLsw_get (x : LswState) (s : State) (f : RegField) : (setLsw x s).get f = s.get f := rfl
@[simp] theorem setLsw_reg (x : LswState) (s : State) (a : Nat) : (setLsw x s).reg a = s.reg a := rfl
@[simp] theorem setLsw_par (x : LswState) (s : State) (p : Nat) : (setLsw x s).par p = s.par p := rfl

@[simp] theorem setMail_variant (x : MailState) (s : State) : (setMail x s).variant = s.variant := rfl
@[simp] theorem setMail_regs (x : MailState) (s : State) : (setMail x s).regs = s.regs := rfl
@[simp] theorem setMail_params (x : MailState) (s : State) : (setMail x s).params = s.params := rfl
@[simp] theorem setMail_xings (x : MailState) (s : State) : (setMail x s).xings = s.xings := rfl
@[simp] theorem setMail_ttb (x : MailState) (s : State) : (setMail x s).ttb = s.ttb := rfl
@[simp] theorem setMail_tok (x : MailState) (s : State) : (setMail x s).tok = s.tok := rfl
@[simp] theorem setMail_afe (x : MailState) (s : State) : (setMail x s).afe = s.afe := rfl
@[simp] theorem setMail_pts (x : MailState) (s : State) : (setMail x s).pts = s.pts := rfl
@[simp] theorem setMail_x00 (x : MailState) (s : State) : (setMail x s).x00 = s.x00 := rfl
@[simp] theorem setMail_x01 (x : MailState) (s : State) : (setMail x s).x01 = s.x01 := rfl
@[simp] theorem setMail_parPend (x : MailState) (s : State) : (setMail x s).parPend = s.parPend := rfl
@[simp] theorem setMail_parNext (x : MailState) (s : State) : (setMail x s).parNext = s.parNext := rfl
@[simp] theorem setMail_corrSent (x : MailState) (s : State) : (setMail x s).corrSent = s.corrSent := rfl
@[simp] theorem setMail_bil (x : MailState) (s : State) : (setMail x s).bil = s.bil := rfl
@[simp] theorem setMail_btm (x : MailState) (s : State) : (setMail x s).btm = s.btm := rfl
@[simp] theorem setMail_logs (x : MailState) (s : State) : (setMail x s).logs = s.logs := rfl
@[simp] theorem setMail_saf (x : MailState) (s : State) : (setMail x s).saf = s.saf := rfl
@[simp] theorem setMail_x03 (x : MailState) (s : State) : (setMail x s).x03 = s.x03 := rfl
@[simp] theorem setMail_x19 (x : MailState) (s : State) : (setMail x s).x19 = s.x19 := rfl
@[simp] theorem setMail_x04 (x : MailState) (s : State) : (setMail x s).x04 = s.x04 := rfl
@[simp] theorem setMail_x05 (x : MailState) (s : State) : (setMail x s).x05 = s.x05 := rfl
@[simp] theorem setMail_x06 (x : MailState) (s : State) : (setMail x s).x06 = s.x06 := rfl
@[simp] theorem setMail_q (x : MailState) (s : State) : (setMail x s).q = s.q := rfl
@[simp] theorem setMail_grpSeq (x : MailState) (s : State) : (setMail x s).grpSeq = s.grpSeq := rfl
@[simp] theorem setMail_vl (x : MailState) (s : State) : (setMail x s).vl = s.vl := rfl
@[simp] theorem setMail_ses (x : MailState) (s : State) : (setMail x s).ses = s.ses := rfl
@[simp] theorem setMail_grt (x : MailState) (s : State) : (setMail x s).grt = s.grt := rfl
@[simp] theorem setMail_dlm (x : MailState) (s : State) : (setMail x s).dlm = s.dlm := rfl
@[simp] theorem setMail_lsw (x : MailState) (s : State) : (setMail x s).lsw = s.lsw := rfl
@[simp] theorem setMail_lcd (x : MailState) (s : State) : (setMail x s).lcd = s.lcd := rfl
@[simp] theorem setMail_nfc (x : MailState) (s : State) : (setMail x s).nfc = s.nfc := rfl
@[simp] theorem setMail_hif (x : MailState) (s : State) : (setMail x s).hif = s.hif := rfl
@[simp] theorem setMail_mail (x : MailState) (s : State) : (setMail x s).mail = x := rfl
@[simp] theorem setMail_boot (x : MailState) (s : State) : (setMail x s).boot = s.boot := rfl
@[simp] theorem setMail_mem (x : MailState) (s : State) : (setMail x s).mem = s.mem := rfl
@[simp] theorem setMail_pow (x : MailState) (s : State) : (setMail x s).pow = s.pow := rfl
@[simp] theorem setMail_upd (x : MailState) (s : State) : (setMail x s).upd = s.upd := rfl
@[simp] theorem setMail_amb (x : MailState) (s : State) : (setMail x s).amb = s.amb := rfl
@[simp] theorem setMail_eth (x : MailState) (s : State) : (setMail x s).eth = s.eth := rfl
@[simp] theorem setMail_x09 (x : MailState) (s : State) : (setMail x s).x09 = s.x09 := rfl
@[simp] theorem setMail_x11 (x : MailState) (s : State) : (setMail x s).x11 = s.x11 := rfl
@[simp] theorem setMail_posts (x : MailState) (s : State) : (setMail x s).posts = s.posts := rfl
@[simp] theorem setMail_postOrder (x : MailState) (s : State) : (setMail x s).postOrder = s.postOrder := rfl
@[simp] theorem setMail_out (x : MailState) (s : State) : (setMail x s).out = s.out := rfl
@[simp] theorem setMail_free (x : MailState) (s : State) : (setMail x s).free = s.free := rfl
@[simp] theorem setMail_pending (x : MailState) (s : State) : (setMail x s).pending = s.pending := rfl
@[simp] theorem setMail_get (x : MailState) (s : State) (f : RegField) : (setMail x s).get f = s.get f := rfl
@[simp] theorem setMail_reg (x : MailState) (s : State) (a : Nat) : (setMail x s).reg a = s.reg a := rfl
@[simp] theorem setMail_par (x : MailState) (s : State) (p : Nat) : (setMail x s).par p = s.par p := rfl

@[simp] theorem setNfc_variant (x : NfcState) (s : State) : (setNfc x s).variant = s.variant := rfl
@[simp] theorem setNfc_regs (x : NfcState) (s : State) : (setNfc x s).regs = s.regs := rfl
@[simp] theorem setNfc_params (x : NfcState) (s : State) : (setNfc x s).params = s.params := rfl
@[simp] theorem setNfc_xings (x : NfcState) (s : State) : (setNfc x s).xings = s.xings := rfl
@[simp] theorem setNfc_ttb (x : NfcState) (s : State) : (setNfc x s).ttb = s.ttb := rfl
@[simp] theorem setNfc_tok (x : NfcState) (s : State) : (setNfc x s).tok = s.tok := rfl
@[simp] theorem setNfc_afe (x : NfcState) (s : State) : (setNfc x s).afe = s.afe := rfl
@[simp] theorem setNfc_pts (x : NfcState) (s : State) : (setNfc x s).pts = s.pts := rfl
@[simp] theorem setNfc_x00 (x : NfcState) (s : State) : (setNfc x s).x00 = s.x00 := rfl
@[simp] theorem setNfc_x01 (x : NfcState) (s : State) : (setNfc x s).x01 = s.x01 := rfl
@[simp] theorem setNfc_parPend (x : NfcState) (s : State) : (setNfc x s).parPend = s.parPend := rfl
@[simp] theorem setNfc_parNext (x : NfcState) (s : State) : (setNfc x s).parNext = s.parNext := rfl
@[simp] theorem setNfc_corrSent (x : NfcState) (s : State) : (setNfc x s).corrSent = s.corrSent := rfl
@[simp] theorem setNfc_bil (x : NfcState) (s : State) : (setNfc x s).bil = s.bil := rfl
@[simp] theorem setNfc_btm (x : NfcState) (s : State) : (setNfc x s).btm = s.btm := rfl
@[simp] theorem setNfc_logs (x : NfcState) (s : State) : (setNfc x s).logs = s.logs := rfl
@[simp] theorem setNfc_saf (x : NfcState) (s : State) : (setNfc x s).saf = s.saf := rfl
@[simp] theorem setNfc_x03 (x : NfcState) (s : State) : (setNfc x s).x03 = s.x03 := rfl
@[simp] theorem setNfc_x19 (x : NfcState) (s : State) : (setNfc x s).x19 = s.x19 := rfl
@[simp] theorem setNfc_x04 (x : NfcState) (s : State) : (setNfc x s).x04 = s.x04 := rfl
@[simp] theorem setNfc_x05 (x : NfcState) (s : State) : (setNfc x s).x05 = s.x05 := rfl
@[simp] theorem setNfc_x06 (x : NfcState) (s : State) : (setNfc x s).x06 = s.x06 := rfl
@[simp] theorem setNfc_q (x : NfcState) (s : State) : (setNfc x s).q = s.q := rfl
@[simp] theorem setNfc_grpSeq (x : NfcState) (s : State) : (setNfc x s).grpSeq = s.grpSeq := rfl
@[simp] theorem setNfc_vl (x : NfcState) (s : State) : (setNfc x s).vl = s.vl := rfl
@[simp] theorem setNfc_ses (x : NfcState) (s : State) : (setNfc x s).ses = s.ses := rfl
@[simp] theorem setNfc_grt (x : NfcState) (s : State) : (setNfc x s).grt = s.grt := rfl
@[simp] theorem setNfc_dlm (x : NfcState) (s : State) : (setNfc x s).dlm = s.dlm := rfl
@[simp] theorem setNfc_lsw (x : NfcState) (s : State) : (setNfc x s).lsw = s.lsw := rfl
@[simp] theorem setNfc_lcd (x : NfcState) (s : State) : (setNfc x s).lcd = s.lcd := rfl
@[simp] theorem setNfc_nfc (x : NfcState) (s : State) : (setNfc x s).nfc = x := rfl
@[simp] theorem setNfc_hif (x : NfcState) (s : State) : (setNfc x s).hif = s.hif := rfl
@[simp] theorem setNfc_mail (x : NfcState) (s : State) : (setNfc x s).mail = s.mail := rfl
@[simp] theorem setNfc_boot (x : NfcState) (s : State) : (setNfc x s).boot = s.boot := rfl
@[simp] theorem setNfc_mem (x : NfcState) (s : State) : (setNfc x s).mem = s.mem := rfl
@[simp] theorem setNfc_pow (x : NfcState) (s : State) : (setNfc x s).pow = s.pow := rfl
@[simp] theorem setNfc_upd (x : NfcState) (s : State) : (setNfc x s).upd = s.upd := rfl
@[simp] theorem setNfc_amb (x : NfcState) (s : State) : (setNfc x s).amb = s.amb := rfl
@[simp] theorem setNfc_eth (x : NfcState) (s : State) : (setNfc x s).eth = s.eth := rfl
@[simp] theorem setNfc_x09 (x : NfcState) (s : State) : (setNfc x s).x09 = s.x09 := rfl
@[simp] theorem setNfc_x11 (x : NfcState) (s : State) : (setNfc x s).x11 = s.x11 := rfl
@[simp] theorem setNfc_posts (x : NfcState) (s : State) : (setNfc x s).posts = s.posts := rfl
@[simp] theorem setNfc_postOrder (x : NfcState) (s : State) : (setNfc x s).postOrder = s.postOrder := rfl
@[simp] theorem setNfc_out (x : NfcState) (s : State) : (setNfc x s).out = s.out := rfl
@[simp] theorem setNfc_free (x : NfcState) (s : State) : (setNfc x s).free = s.free := rfl
@[simp] theorem setNfc_pending (x : NfcState) (s : State) : (setNfc x s).pending = s.pending := rfl
@[simp] theorem setNfc_get (x : NfcState) (s : State) (f : RegField) : (setNfc x s).get f = s.get f := rfl
@[simp] theorem setNfc_reg (x : NfcState) (s : State) (a : Nat) : (setNfc x s).reg a = s.reg a := rfl
@[simp] theorem setNfc_par (x : NfcState) (s : State) (p : Nat) : (setNfc x s).par p = s.par p := rfl

@[simp] theorem setBoot_variant (x : BootState) (s : State) : (setBoot x s).variant = s.variant := rfl
@[simp] theorem setBoot_regs (x : BootState) (s : State) : (setBoot x s).regs = s.regs := rfl
@[simp] theorem setBoot_params (x : BootState) (s : State) : (setBoot x s).params = s.params := rfl
@[simp] theorem setBoot_xings (x : BootState) (s : State) : (setBoot x s).xings = s.xings := rfl
@[simp] theorem setBoot_ttb (x : BootState) (s : State) : (setBoot x s).ttb = s.ttb := rfl
@[simp] theorem setBoot_tok (x : BootState) (s : State) : (setBoot x s).tok = s.tok := rfl
@[simp] theorem setBoot_afe (x : BootState) (s : State) : (setBoot x s).afe = s.afe := rfl
@[simp] theorem setBoot_pts (x : BootState) (s : State) : (setBoot x s).pts = s.pts := rfl
@[simp] theorem setBoot_x00 (x : BootState) (s : State) : (setBoot x s).x00 = s.x00 := rfl
@[simp] theorem setBoot_x01 (x : BootState) (s : State) : (setBoot x s).x01 = s.x01 := rfl
@[simp] theorem setBoot_parPend (x : BootState) (s : State) : (setBoot x s).parPend = s.parPend := rfl
@[simp] theorem setBoot_parNext (x : BootState) (s : State) : (setBoot x s).parNext = s.parNext := rfl
@[simp] theorem setBoot_corrSent (x : BootState) (s : State) : (setBoot x s).corrSent = s.corrSent := rfl
@[simp] theorem setBoot_bil (x : BootState) (s : State) : (setBoot x s).bil = s.bil := rfl
@[simp] theorem setBoot_btm (x : BootState) (s : State) : (setBoot x s).btm = s.btm := rfl
@[simp] theorem setBoot_logs (x : BootState) (s : State) : (setBoot x s).logs = s.logs := rfl
@[simp] theorem setBoot_saf (x : BootState) (s : State) : (setBoot x s).saf = s.saf := rfl
@[simp] theorem setBoot_x03 (x : BootState) (s : State) : (setBoot x s).x03 = s.x03 := rfl
@[simp] theorem setBoot_x19 (x : BootState) (s : State) : (setBoot x s).x19 = s.x19 := rfl
@[simp] theorem setBoot_x04 (x : BootState) (s : State) : (setBoot x s).x04 = s.x04 := rfl
@[simp] theorem setBoot_x05 (x : BootState) (s : State) : (setBoot x s).x05 = s.x05 := rfl
@[simp] theorem setBoot_x06 (x : BootState) (s : State) : (setBoot x s).x06 = s.x06 := rfl
@[simp] theorem setBoot_q (x : BootState) (s : State) : (setBoot x s).q = s.q := rfl
@[simp] theorem setBoot_grpSeq (x : BootState) (s : State) : (setBoot x s).grpSeq = s.grpSeq := rfl
@[simp] theorem setBoot_vl (x : BootState) (s : State) : (setBoot x s).vl = s.vl := rfl
@[simp] theorem setBoot_ses (x : BootState) (s : State) : (setBoot x s).ses = s.ses := rfl
@[simp] theorem setBoot_grt (x : BootState) (s : State) : (setBoot x s).grt = s.grt := rfl
@[simp] theorem setBoot_dlm (x : BootState) (s : State) : (setBoot x s).dlm = s.dlm := rfl
@[simp] theorem setBoot_lsw (x : BootState) (s : State) : (setBoot x s).lsw = s.lsw := rfl
@[simp] theorem setBoot_lcd (x : BootState) (s : State) : (setBoot x s).lcd = s.lcd := rfl
@[simp] theorem setBoot_nfc (x : BootState) (s : State) : (setBoot x s).nfc = s.nfc := rfl
@[simp] theorem setBoot_hif (x : BootState) (s : State) : (setBoot x s).hif = s.hif := rfl
@[simp] theorem setBoot_mail (x : BootState) (s : State) : (setBoot x s).mail = s.mail := rfl
@[simp] theorem setBoot_boot (x : BootState) (s : State) : (setBoot x s).boot = x := rfl
@[simp] theorem setBoot_mem (x : BootState) (s : State) : (setBoot x s).mem = s.mem := rfl
@[simp] theorem setBoot_pow (x : BootState) (s : State) : (setBoot x s).pow = s.pow := rfl
@[simp] theorem setBoot_upd (x : BootState) (s : State) : (setBoot x s).upd = s.upd := rfl
@[simp] theorem setBoot_amb (x : BootState) (s : State) : (setBoot x s).amb = s.amb := rfl
@[simp] theorem setBoot_eth (x : BootState) (s : State) : (setBoot x s).eth = s.eth := rfl
@[simp] theorem setBoot_x09 (x : BootState) (s : State) : (setBoot x s).x09 = s.x09 := rfl
@[simp] theorem setBoot_x11 (x : BootState) (s : State) : (setBoot x s).x11 = s.x11 := rfl
@[simp] theorem setBoot_posts (x : BootState) (s : State) : (setBoot x s).posts = s.posts := rfl
@[simp] theorem setBoot_postOrder (x : BootState) (s : State) : (setBoot x s).postOrder = s.postOrder := rfl
@[simp] theorem setBoot_out (x : BootState) (s : State) : (setBoot x s).out = s.out := rfl
@[simp] theorem setBoot_free (x : BootState) (s : State) : (setBoot x s).free = s.free := rfl
@[simp] theorem setBoot_pending (x : BootState) (s : State) : (setBoot x s).pending = s.pending := rfl
@[simp] theorem setBoot_get (x : BootState) (s : State) (f : RegField) : (setBoot x s).get f = s.get f := rfl
@[simp] theorem setBoot_reg (x : BootState) (s : State) (a : Nat) : (setBoot x s).reg a = s.reg a := rfl
@[simp] theorem setBoot_par (x : BootState) (s : State) (p : Nat) : (setBoot x s).par p = s.par p := rfl

@[simp] theorem setEth_variant (x : EthState) (s : State) : (setEth x s).variant = s.variant := rfl
@[simp] theorem setEth_regs (x : EthState) (s : State) : (setEth x s).regs = s.regs := rfl
@[simp] theorem setEth_params (x : EthState) (s : State) : (setEth x s).params = s.params := rfl
@[simp] theorem setEth_xings (x : EthState) (s : State) : (setEth x s).xings = s.xings := rfl
@[simp] theorem setEth_ttb (x : EthState) (s : State) : (setEth x s).ttb = s.ttb := rfl
@[simp] theorem setEth_tok (x : EthState) (s : State) : (setEth x s).tok = s.tok := rfl
@[simp] theorem setEth_afe (x : EthState) (s : State) : (setEth x s).afe = s.afe := rfl
@[simp] theorem setEth_pts (x : EthState) (s : State) : (setEth x s).pts = s.pts := rfl
@[simp] theorem setEth_x00 (x : EthState) (s : State) : (setEth x s).x00 = s.x00 := rfl
@[simp] theorem setEth_x01 (x : EthState) (s : State) : (setEth x s).x01 = s.x01 := rfl
@[simp] theorem setEth_parPend (x : EthState) (s : State) : (setEth x s).parPend = s.parPend := rfl
@[simp] theorem setEth_parNext (x : EthState) (s : State) : (setEth x s).parNext = s.parNext := rfl
@[simp] theorem setEth_corrSent (x : EthState) (s : State) : (setEth x s).corrSent = s.corrSent := rfl
@[simp] theorem setEth_bil (x : EthState) (s : State) : (setEth x s).bil = s.bil := rfl
@[simp] theorem setEth_btm (x : EthState) (s : State) : (setEth x s).btm = s.btm := rfl
@[simp] theorem setEth_logs (x : EthState) (s : State) : (setEth x s).logs = s.logs := rfl
@[simp] theorem setEth_saf (x : EthState) (s : State) : (setEth x s).saf = s.saf := rfl
@[simp] theorem setEth_x03 (x : EthState) (s : State) : (setEth x s).x03 = s.x03 := rfl
@[simp] theorem setEth_x19 (x : EthState) (s : State) : (setEth x s).x19 = s.x19 := rfl
@[simp] theorem setEth_x04 (x : EthState) (s : State) : (setEth x s).x04 = s.x04 := rfl
@[simp] theorem setEth_x05 (x : EthState) (s : State) : (setEth x s).x05 = s.x05 := rfl
@[simp] theorem setEth_x06 (x : EthState) (s : State) : (setEth x s).x06 = s.x06 := rfl
@[simp] theorem setEth_q (x : EthState) (s : State) : (setEth x s).q = s.q := rfl
@[simp] theorem setEth_grpSeq (x : EthState) (s : State) : (setEth x s).grpSeq = s.grpSeq := rfl
@[simp] theorem setEth_vl (x : EthState) (s : State) : (setEth x s).vl = s.vl := rfl
@[simp] theorem setEth_ses (x : EthState) (s : State) : (setEth x s).ses = s.ses := rfl
@[simp] theorem setEth_grt (x : EthState) (s : State) : (setEth x s).grt = s.grt := rfl
@[simp] theorem setEth_dlm (x : EthState) (s : State) : (setEth x s).dlm = s.dlm := rfl
@[simp] theorem setEth_lsw (x : EthState) (s : State) : (setEth x s).lsw = s.lsw := rfl
@[simp] theorem setEth_lcd (x : EthState) (s : State) : (setEth x s).lcd = s.lcd := rfl
@[simp] theorem setEth_nfc (x : EthState) (s : State) : (setEth x s).nfc = s.nfc := rfl
@[simp] theorem setEth_hif (x : EthState) (s : State) : (setEth x s).hif = s.hif := rfl
@[simp] theorem setEth_mail (x : EthState) (s : State) : (setEth x s).mail = s.mail := rfl
@[simp] theorem setEth_boot (x : EthState) (s : State) : (setEth x s).boot = s.boot := rfl
@[simp] theorem setEth_mem (x : EthState) (s : State) : (setEth x s).mem = s.mem := rfl
@[simp] theorem setEth_pow (x : EthState) (s : State) : (setEth x s).pow = s.pow := rfl
@[simp] theorem setEth_upd (x : EthState) (s : State) : (setEth x s).upd = s.upd := rfl
@[simp] theorem setEth_amb (x : EthState) (s : State) : (setEth x s).amb = s.amb := rfl
@[simp] theorem setEth_eth (x : EthState) (s : State) : (setEth x s).eth = x := rfl
@[simp] theorem setEth_x09 (x : EthState) (s : State) : (setEth x s).x09 = s.x09 := rfl
@[simp] theorem setEth_x11 (x : EthState) (s : State) : (setEth x s).x11 = s.x11 := rfl
@[simp] theorem setEth_posts (x : EthState) (s : State) : (setEth x s).posts = s.posts := rfl
@[simp] theorem setEth_postOrder (x : EthState) (s : State) : (setEth x s).postOrder = s.postOrder := rfl
@[simp] theorem setEth_out (x : EthState) (s : State) : (setEth x s).out = s.out := rfl
@[simp] theorem setEth_free (x : EthState) (s : State) : (setEth x s).free = s.free := rfl
@[simp] theorem setEth_pending (x : EthState) (s : State) : (setEth x s).pending = s.pending := rfl
@[simp] theorem setEth_get (x : EthState) (s : State) (f : RegField) : (setEth x s).get f = s.get f := rfl
@[simp] theorem setEth_reg (x : EthState) (s : State) (a : Nat) : (setEth x s).reg a = s.reg a := rfl
@[simp] theorem setEth_par (x : EthState) (s : State) (p : Nat) : (setEth x s).par p = s.par p := rfl

@[simp] theorem setPow_variant (x : PowState) (s : State) : (setPow x s).variant = s.variant := rfl
@[simp] theorem setPow_regs (x : PowState) (s : State) : (setPow x s).regs = s.regs := rfl
@[simp] theorem setPow_params (x : PowState) (s : State) : (setPow x s).params = s.params := rfl
@[simp] theorem setPow_xings (x : PowState) (s : State) : (setPow x s).xings = s.xings := rfl
@[simp] theorem setPow_ttb (x : PowState) (s : State) : (setPow x s).ttb = s.ttb := rfl
@[simp] theorem setPow_tok (x : PowState) (s : State) : (setPow x s).tok = s.tok := rfl
@[simp] theorem setPow_afe (x : PowState) (s : State) : (setPow x s).afe = s.afe := rfl
@[simp] theorem setPow_pts (x : PowState) (s : State) : (setPow x s).pts = s.pts := rfl
@[simp] theorem setPow_x00 (x : PowState) (s : State) : (setPow x s).x00 = s.x00 := rfl
@[simp] theorem setPow_x01 (x : PowState) (s : State) : (setPow x s).x01 = s.x01 := rfl
@[simp] theorem setPow_parPend (x : PowState) (s : State) : (setPow x s).parPend = s.parPend := rfl
@[simp] theorem setPow_parNext (x : PowState) (s : State) : (setPow x s).parNext = s.parNext := rfl
@[simp] theorem setPow_corrSent (x : PowState) (s : State) : (setPow x s).corrSent = s.corrSent := rfl
@[simp] theorem setPow_bil (x : PowState) (s : State) : (setPow x s).bil = s.bil := rfl
@[simp] theorem setPow_btm (x : PowState) (s : State) : (setPow x s).btm = s.btm := rfl
@[simp] theorem setPow_logs (x : PowState) (s : State) : (setPow x s).logs = s.logs := rfl
@[simp] theorem setPow_saf (x : PowState) (s : State) : (setPow x s).saf = s.saf := rfl
@[simp] theorem setPow_x03 (x : PowState) (s : State) : (setPow x s).x03 = s.x03 := rfl
@[simp] theorem setPow_x19 (x : PowState) (s : State) : (setPow x s).x19 = s.x19 := rfl
@[simp] theorem setPow_x04 (x : PowState) (s : State) : (setPow x s).x04 = s.x04 := rfl
@[simp] theorem setPow_x05 (x : PowState) (s : State) : (setPow x s).x05 = s.x05 := rfl
@[simp] theorem setPow_x06 (x : PowState) (s : State) : (setPow x s).x06 = s.x06 := rfl
@[simp] theorem setPow_q (x : PowState) (s : State) : (setPow x s).q = s.q := rfl
@[simp] theorem setPow_grpSeq (x : PowState) (s : State) : (setPow x s).grpSeq = s.grpSeq := rfl
@[simp] theorem setPow_vl (x : PowState) (s : State) : (setPow x s).vl = s.vl := rfl
@[simp] theorem setPow_ses (x : PowState) (s : State) : (setPow x s).ses = s.ses := rfl
@[simp] theorem setPow_grt (x : PowState) (s : State) : (setPow x s).grt = s.grt := rfl
@[simp] theorem setPow_dlm (x : PowState) (s : State) : (setPow x s).dlm = s.dlm := rfl
@[simp] theorem setPow_lsw (x : PowState) (s : State) : (setPow x s).lsw = s.lsw := rfl
@[simp] theorem setPow_lcd (x : PowState) (s : State) : (setPow x s).lcd = s.lcd := rfl
@[simp] theorem setPow_nfc (x : PowState) (s : State) : (setPow x s).nfc = s.nfc := rfl
@[simp] theorem setPow_hif (x : PowState) (s : State) : (setPow x s).hif = s.hif := rfl
@[simp] theorem setPow_mail (x : PowState) (s : State) : (setPow x s).mail = s.mail := rfl
@[simp] theorem setPow_boot (x : PowState) (s : State) : (setPow x s).boot = s.boot := rfl
@[simp] theorem setPow_mem (x : PowState) (s : State) : (setPow x s).mem = s.mem := rfl
@[simp] theorem setPow_pow (x : PowState) (s : State) : (setPow x s).pow = x := rfl
@[simp] theorem setPow_upd (x : PowState) (s : State) : (setPow x s).upd = s.upd := rfl
@[simp] theorem setPow_amb (x : PowState) (s : State) : (setPow x s).amb = s.amb := rfl
@[simp] theorem setPow_eth (x : PowState) (s : State) : (setPow x s).eth = s.eth := rfl
@[simp] theorem setPow_x09 (x : PowState) (s : State) : (setPow x s).x09 = s.x09 := rfl
@[simp] theorem setPow_x11 (x : PowState) (s : State) : (setPow x s).x11 = s.x11 := rfl
@[simp] theorem setPow_posts (x : PowState) (s : State) : (setPow x s).posts = s.posts := rfl
@[simp] theorem setPow_postOrder (x : PowState) (s : State) : (setPow x s).postOrder = s.postOrder := rfl
@[simp] theorem setPow_out (x : PowState) (s : State) : (setPow x s).out = s.out := rfl
@[simp] theorem setPow_free (x : PowState) (s : State) : (setPow x s).free = s.free := rfl
@[simp] theorem setPow_pending (x : PowState) (s : State) : (setPow x s).pending = s.pending := rfl
@[simp] theorem setPow_get (x : PowState) (s : State) (f : RegField) : (setPow x s).get f = s.get f := rfl
@[simp] theorem setPow_reg (x : PowState) (s : State) (a : Nat) : (setPow x s).reg a = s.reg a := rfl
@[simp] theorem setPow_par (x : PowState) (s : State) (p : Nat) : (setPow x s).par p = s.par p := rfl

@[simp] theorem setSes_variant (x : SesState) (s : State) : (setSes x s).variant = s.variant := rfl
@[simp] theorem setSes_regs (x : SesState) (s : State) : (setSes x s).regs = s.regs := rfl
@[simp] theorem setSes_params (x : SesState) (s : State) : (setSes x s).params = s.params := rfl
@[simp] theorem setSes_xings (x : SesState) (s : State) : (setSes x s).xings = s.xings := rfl
@[simp] theorem setSes_ttb (x : SesState) (s : State) : (setSes x s).ttb = s.ttb := rfl
@[simp] theorem setSes_tok (x : SesState) (s : State) : (setSes x s).tok = s.tok := rfl
@[simp] theorem setSes_afe (x : SesState) (s : State) : (setSes x s).afe = s.afe := rfl
@[simp] theorem setSes_pts (x : SesState) (s : State) : (setSes x s).pts = s.pts := rfl
@[simp] theorem setSes_x00 (x : SesState) (s : State) : (setSes x s).x00 = s.x00 := rfl
@[simp] theorem setSes_x01 (x : SesState) (s : State) : (setSes x s).x01 = s.x01 := rfl
@[simp] theorem setSes_parPend (x : SesState) (s : State) : (setSes x s).parPend = s.parPend := rfl
@[simp] theorem setSes_parNext (x : SesState) (s : State) : (setSes x s).parNext = s.parNext := rfl
@[simp] theorem setSes_corrSent (x : SesState) (s : State) : (setSes x s).corrSent = s.corrSent := rfl
@[simp] theorem setSes_bil (x : SesState) (s : State) : (setSes x s).bil = s.bil := rfl
@[simp] theorem setSes_btm (x : SesState) (s : State) : (setSes x s).btm = s.btm := rfl
@[simp] theorem setSes_logs (x : SesState) (s : State) : (setSes x s).logs = s.logs := rfl
@[simp] theorem setSes_saf (x : SesState) (s : State) : (setSes x s).saf = s.saf := rfl
@[simp] theorem setSes_x03 (x : SesState) (s : State) : (setSes x s).x03 = s.x03 := rfl
@[simp] theorem setSes_x19 (x : SesState) (s : State) : (setSes x s).x19 = s.x19 := rfl
@[simp] theorem setSes_x04 (x : SesState) (s : State) : (setSes x s).x04 = s.x04 := rfl
@[simp] theorem setSes_x05 (x : SesState) (s : State) : (setSes x s).x05 = s.x05 := rfl
@[simp] theorem setSes_x06 (x : SesState) (s : State) : (setSes x s).x06 = s.x06 := rfl
@[simp] theorem setSes_q (x : SesState) (s : State) : (setSes x s).q = s.q := rfl
@[simp] theorem setSes_grpSeq (x : SesState) (s : State) : (setSes x s).grpSeq = s.grpSeq := rfl
@[simp] theorem setSes_vl (x : SesState) (s : State) : (setSes x s).vl = s.vl := rfl
@[simp] theorem setSes_ses (x : SesState) (s : State) : (setSes x s).ses = x := rfl
@[simp] theorem setSes_grt (x : SesState) (s : State) : (setSes x s).grt = s.grt := rfl
@[simp] theorem setSes_dlm (x : SesState) (s : State) : (setSes x s).dlm = s.dlm := rfl
@[simp] theorem setSes_lsw (x : SesState) (s : State) : (setSes x s).lsw = s.lsw := rfl
@[simp] theorem setSes_lcd (x : SesState) (s : State) : (setSes x s).lcd = s.lcd := rfl
@[simp] theorem setSes_nfc (x : SesState) (s : State) : (setSes x s).nfc = s.nfc := rfl
@[simp] theorem setSes_hif (x : SesState) (s : State) : (setSes x s).hif = s.hif := rfl
@[simp] theorem setSes_mail (x : SesState) (s : State) : (setSes x s).mail = s.mail := rfl
@[simp] theorem setSes_boot (x : SesState) (s : State) : (setSes x s).boot = s.boot := rfl
@[simp] theorem setSes_mem (x : SesState) (s : State) : (setSes x s).mem = s.mem := rfl
@[simp] theorem setSes_pow (x : SesState) (s : State) : (setSes x s).pow = s.pow := rfl
@[simp] theorem setSes_upd (x : SesState) (s : State) : (setSes x s).upd = s.upd := rfl
@[simp] theorem setSes_amb (x : SesState) (s : State) : (setSes x s).amb = s.amb := rfl
@[simp] theorem setSes_eth (x : SesState) (s : State) : (setSes x s).eth = s.eth := rfl
@[simp] theorem setSes_x09 (x : SesState) (s : State) : (setSes x s).x09 = s.x09 := rfl
@[simp] theorem setSes_x11 (x : SesState) (s : State) : (setSes x s).x11 = s.x11 := rfl
@[simp] theorem setSes_posts (x : SesState) (s : State) : (setSes x s).posts = s.posts := rfl
@[simp] theorem setSes_postOrder (x : SesState) (s : State) : (setSes x s).postOrder = s.postOrder := rfl
@[simp] theorem setSes_out (x : SesState) (s : State) : (setSes x s).out = s.out := rfl
@[simp] theorem setSes_free (x : SesState) (s : State) : (setSes x s).free = s.free := rfl
@[simp] theorem setSes_pending (x : SesState) (s : State) : (setSes x s).pending = s.pending := rfl
@[simp] theorem setSes_get (x : SesState) (s : State) (f : RegField) : (setSes x s).get f = s.get f := rfl
@[simp] theorem setSes_reg (x : SesState) (s : State) (a : Nat) : (setSes x s).reg a = s.reg a := rfl
@[simp] theorem setSes_par (x : SesState) (s : State) (p : Nat) : (setSes x s).par p = s.par p := rfl

@[simp] theorem setPosts_variant (x : List SharePost) (s : State) : (setPosts x s).variant = s.variant := rfl
@[simp] theorem setPosts_regs (x : List SharePost) (s : State) : (setPosts x s).regs = s.regs := rfl
@[simp] theorem setPosts_params (x : List SharePost) (s : State) : (setPosts x s).params = s.params := rfl
@[simp] theorem setPosts_xings (x : List SharePost) (s : State) : (setPosts x s).xings = s.xings := rfl
@[simp] theorem setPosts_ttb (x : List SharePost) (s : State) : (setPosts x s).ttb = s.ttb := rfl
@[simp] theorem setPosts_tok (x : List SharePost) (s : State) : (setPosts x s).tok = s.tok := rfl
@[simp] theorem setPosts_afe (x : List SharePost) (s : State) : (setPosts x s).afe = s.afe := rfl
@[simp] theorem setPosts_pts (x : List SharePost) (s : State) : (setPosts x s).pts = s.pts := rfl
@[simp] theorem setPosts_x00 (x : List SharePost) (s : State) : (setPosts x s).x00 = s.x00 := rfl
@[simp] theorem setPosts_x01 (x : List SharePost) (s : State) : (setPosts x s).x01 = s.x01 := rfl
@[simp] theorem setPosts_parPend (x : List SharePost) (s : State) : (setPosts x s).parPend = s.parPend := rfl
@[simp] theorem setPosts_parNext (x : List SharePost) (s : State) : (setPosts x s).parNext = s.parNext := rfl
@[simp] theorem setPosts_corrSent (x : List SharePost) (s : State) : (setPosts x s).corrSent = s.corrSent := rfl
@[simp] theorem setPosts_bil (x : List SharePost) (s : State) : (setPosts x s).bil = s.bil := rfl
@[simp] theorem setPosts_btm (x : List SharePost) (s : State) : (setPosts x s).btm = s.btm := rfl
@[simp] theorem setPosts_logs (x : List SharePost) (s : State) : (setPosts x s).logs = s.logs := rfl
@[simp] theorem setPosts_saf (x : List SharePost) (s : State) : (setPosts x s).saf = s.saf := rfl
@[simp] theorem setPosts_x03 (x : List SharePost) (s : State) : (setPosts x s).x03 = s.x03 := rfl
@[simp] theorem setPosts_x19 (x : List SharePost) (s : State) : (setPosts x s).x19 = s.x19 := rfl
@[simp] theorem setPosts_x04 (x : List SharePost) (s : State) : (setPosts x s).x04 = s.x04 := rfl
@[simp] theorem setPosts_x05 (x : List SharePost) (s : State) : (setPosts x s).x05 = s.x05 := rfl
@[simp] theorem setPosts_x06 (x : List SharePost) (s : State) : (setPosts x s).x06 = s.x06 := rfl
@[simp] theorem setPosts_q (x : List SharePost) (s : State) : (setPosts x s).q = s.q := rfl
@[simp] theorem setPosts_grpSeq (x : List SharePost) (s : State) : (setPosts x s).grpSeq = s.grpSeq := rfl
@[simp] theorem setPosts_vl (x : List SharePost) (s : State) : (setPosts x s).vl = s.vl := rfl
@[simp] theorem setPosts_ses (x : List SharePost) (s : State) : (setPosts x s).ses = s.ses := rfl
@[simp] theorem setPosts_grt (x : List SharePost) (s : State) : (setPosts x s).grt = s.grt := rfl
@[simp] theorem setPosts_dlm (x : List SharePost) (s : State) : (setPosts x s).dlm = s.dlm := rfl
@[simp] theorem setPosts_lsw (x : List SharePost) (s : State) : (setPosts x s).lsw = s.lsw := rfl
@[simp] theorem setPosts_lcd (x : List SharePost) (s : State) : (setPosts x s).lcd = s.lcd := rfl
@[simp] theorem setPosts_nfc (x : List SharePost) (s : State) : (setPosts x s).nfc = s.nfc := rfl
@[simp] theorem setPosts_hif (x : List SharePost) (s : State) : (setPosts x s).hif = s.hif := rfl
@[simp] theorem setPosts_mail (x : List SharePost) (s : State) : (setPosts x s).mail = s.mail := rfl
@[simp] theorem setPosts_boot (x : List SharePost) (s : State) : (setPosts x s).boot = s.boot := rfl
@[simp] theorem setPosts_mem (x : List SharePost) (s : State) : (setPosts x s).mem = s.mem := rfl
@[simp] theorem setPosts_pow (x : List SharePost) (s : State) : (setPosts x s).pow = s.pow := rfl
@[simp] theorem setPosts_upd (x : List SharePost) (s : State) : (setPosts x s).upd = s.upd := rfl
@[simp] theorem setPosts_amb (x : List SharePost) (s : State) : (setPosts x s).amb = s.amb := rfl
@[simp] theorem setPosts_eth (x : List SharePost) (s : State) : (setPosts x s).eth = s.eth := rfl
@[simp] theorem setPosts_x09 (x : List SharePost) (s : State) : (setPosts x s).x09 = s.x09 := rfl
@[simp] theorem setPosts_x11 (x : List SharePost) (s : State) : (setPosts x s).x11 = s.x11 := rfl
@[simp] theorem setPosts_posts (x : List SharePost) (s : State) : (setPosts x s).posts = x := rfl
@[simp] theorem setPosts_postOrder (x : List SharePost) (s : State) : (setPosts x s).postOrder = s.postOrder := rfl
@[simp] theorem setPosts_out (x : List SharePost) (s : State) : (setPosts x s).out = s.out := rfl
@[simp] theorem setPosts_free (x : List SharePost) (s : State) : (setPosts x s).free = s.free := rfl
@[simp] theorem setPosts_pending (x : List SharePost) (s : State) : (setPosts x s).pending = s.pending := rfl
@[simp] theorem setPosts_get (x : List SharePost) (s : State) (f : RegField) : (setPosts x s).get f = s.get f := rfl
@[simp] theorem setPosts_reg (x : List SharePost) (s : State) (a : Nat) : (setPosts x s).reg a = s.reg a := rfl
@[simp] theorem setPosts_par (x : List SharePost) (s : State) (p : Nat) : (setPosts x s).par p = s.par p := rfl

@[simp] theorem setUpd_variant (x : UpdState) (s : State) : (setUpd x s).variant = s.variant := rfl
@[simp] theorem setUpd_regs (x : UpdState) (s : State) : (setUpd x s).regs = s.regs := rfl
@[simp] theorem setUpd_params (x : UpdState) (s : State) : (setUpd x s).params = s.params := rfl
@[simp] theorem setUpd_xings (x : UpdState) (s : State) : (setUpd x s).xings = s.xings := rfl
@[simp] theorem setUpd_ttb (x : UpdState) (s : State) : (setUpd x s).ttb = s.ttb := rfl
@[simp] theorem setUpd_tok (x : UpdState) (s : State) : (setUpd x s).tok = s.tok := rfl
@[simp] theorem setUpd_afe (x : UpdState) (s : State) : (setUpd x s).afe = s.afe := rfl
@[simp] theorem setUpd_pts (x : UpdState) (s : State) : (setUpd x s).pts = s.pts := rfl
@[simp] theorem setUpd_x00 (x : UpdState) (s : State) : (setUpd x s).x00 = s.x00 := rfl
@[simp] theorem setUpd_x01 (x : UpdState) (s : State) : (setUpd x s).x01 = s.x01 := rfl
@[simp] theorem setUpd_parPend (x : UpdState) (s : State) : (setUpd x s).parPend = s.parPend := rfl
@[simp] theorem setUpd_parNext (x : UpdState) (s : State) : (setUpd x s).parNext = s.parNext := rfl
@[simp] theorem setUpd_corrSent (x : UpdState) (s : State) : (setUpd x s).corrSent = s.corrSent := rfl
@[simp] theorem setUpd_bil (x : UpdState) (s : State) : (setUpd x s).bil = s.bil := rfl
@[simp] theorem setUpd_btm (x : UpdState) (s : State) : (setUpd x s).btm = s.btm := rfl
@[simp] theorem setUpd_logs (x : UpdState) (s : State) : (setUpd x s).logs = s.logs := rfl
@[simp] theorem setUpd_saf (x : UpdState) (s : State) : (setUpd x s).saf = s.saf := rfl
@[simp] theorem setUpd_x03 (x : UpdState) (s : State) : (setUpd x s).x03 = s.x03 := rfl
@[simp] theorem setUpd_x19 (x : UpdState) (s : State) : (setUpd x s).x19 = s.x19 := rfl
@[simp] theorem setUpd_x04 (x : UpdState) (s : State) : (setUpd x s).x04 = s.x04 := rfl
@[simp] theorem setUpd_x05 (x : UpdState) (s : State) : (setUpd x s).x05 = s.x05 := rfl
@[simp] theorem setUpd_x06 (x : UpdState) (s : State) : (setUpd x s).x06 = s.x06 := rfl
@[simp] theorem setUpd_q (x : UpdState) (s : State) : (setUpd x s).q = s.q := rfl
@[simp] theorem setUpd_grpSeq (x : UpdState) (s : State) : (setUpd x s).grpSeq = s.grpSeq := rfl
@[simp] theorem setUpd_vl (x : UpdState) (s : State) : (setUpd x s).vl = s.vl := rfl
@[simp] theorem setUpd_ses (x : UpdState) (s : State) : (setUpd x s).ses = s.ses := rfl
@[simp] theorem setUpd_grt (x : UpdState) (s : State) : (setUpd x s).grt = s.grt := rfl
@[simp] theorem setUpd_dlm (x : UpdState) (s : State) : (setUpd x s).dlm = s.dlm := rfl
@[simp] theorem setUpd_lsw (x : UpdState) (s : State) : (setUpd x s).lsw = s.lsw := rfl
@[simp] theorem setUpd_lcd (x : UpdState) (s : State) : (setUpd x s).lcd = s.lcd := rfl
@[simp] theorem setUpd_nfc (x : UpdState) (s : State) : (setUpd x s).nfc = s.nfc := rfl
@[simp] theorem setUpd_hif (x : UpdState) (s : State) : (setUpd x s).hif = s.hif := rfl
@[simp] theorem setUpd_mail (x : UpdState) (s : State) : (setUpd x s).mail = s.mail := rfl
@[simp] theorem setUpd_boot (x : UpdState) (s : State) : (setUpd x s).boot = s.boot := rfl
@[simp] theorem setUpd_mem (x : UpdState) (s : State) : (setUpd x s).mem = s.mem := rfl
@[simp] theorem setUpd_pow (x : UpdState) (s : State) : (setUpd x s).pow = s.pow := rfl
@[simp] theorem setUpd_upd (x : UpdState) (s : State) : (setUpd x s).upd = x := rfl
@[simp] theorem setUpd_amb (x : UpdState) (s : State) : (setUpd x s).amb = s.amb := rfl
@[simp] theorem setUpd_eth (x : UpdState) (s : State) : (setUpd x s).eth = s.eth := rfl
@[simp] theorem setUpd_x09 (x : UpdState) (s : State) : (setUpd x s).x09 = s.x09 := rfl
@[simp] theorem setUpd_x11 (x : UpdState) (s : State) : (setUpd x s).x11 = s.x11 := rfl
@[simp] theorem setUpd_posts (x : UpdState) (s : State) : (setUpd x s).posts = s.posts := rfl
@[simp] theorem setUpd_postOrder (x : UpdState) (s : State) : (setUpd x s).postOrder = s.postOrder := rfl
@[simp] theorem setUpd_out (x : UpdState) (s : State) : (setUpd x s).out = s.out := rfl
@[simp] theorem setUpd_free (x : UpdState) (s : State) : (setUpd x s).free = s.free := rfl
@[simp] theorem setUpd_pending (x : UpdState) (s : State) : (setUpd x s).pending = s.pending := rfl
@[simp] theorem setUpd_get (x : UpdState) (s : State) (f : RegField) : (setUpd x s).get f = s.get f := rfl
@[simp] theorem setUpd_reg (x : UpdState) (s : State) (a : Nat) : (setUpd x s).reg a = s.reg a := rfl
@[simp] theorem setUpd_par (x : UpdState) (s : State) (p : Nat) : (setUpd x s).par p = s.par p := rfl

@[simp] theorem setVl_variant (x : VlState) (s : State) : (setVl x s).variant = s.variant := rfl
@[simp] theorem setVl_regs (x : VlState) (s : State) : (setVl x s).regs = s.regs := rfl
@[simp] theorem setVl_params (x : VlState) (s : State) : (setVl x s).params = s.params := rfl
@[simp] theorem setVl_xings (x : VlState) (s : State) : (setVl x s).xings = s.xings := rfl
@[simp] theorem setVl_ttb (x : VlState) (s : State) : (setVl x s).ttb = s.ttb := rfl
@[simp] theorem setVl_tok (x : VlState) (s : State) : (setVl x s).tok = s.tok := rfl
@[simp] theorem setVl_afe (x : VlState) (s : State) : (setVl x s).afe = s.afe := rfl
@[simp] theorem setVl_pts (x : VlState) (s : State) : (setVl x s).pts = s.pts := rfl
@[simp] theorem setVl_x00 (x : VlState) (s : State) : (setVl x s).x00 = s.x00 := rfl
@[simp] theorem setVl_x01 (x : VlState) (s : State) : (setVl x s).x01 = s.x01 := rfl
@[simp] theorem setVl_parPend (x : VlState) (s : State) : (setVl x s).parPend = s.parPend := rfl
@[simp] theorem setVl_parNext (x : VlState) (s : State) : (setVl x s).parNext = s.parNext := rfl
@[simp] theorem setVl_corrSent (x : VlState) (s : State) : (setVl x s).corrSent = s.corrSent := rfl
@[simp] theorem setVl_bil (x : VlState) (s : State) : (setVl x s).bil = s.bil := rfl
@[simp] theorem setVl_btm (x : VlState) (s : State) : (setVl x s).btm = s.btm := rfl
@[simp] theorem setVl_logs (x : VlState) (s : State) : (setVl x s).logs = s.logs := rfl
@[simp] theorem setVl_saf (x : VlState) (s : State) : (setVl x s).saf = s.saf := rfl
@[simp] theorem setVl_x03 (x : VlState) (s : State) : (setVl x s).x03 = s.x03 := rfl
@[simp] theorem setVl_x19 (x : VlState) (s : State) : (setVl x s).x19 = s.x19 := rfl
@[simp] theorem setVl_x04 (x : VlState) (s : State) : (setVl x s).x04 = s.x04 := rfl
@[simp] theorem setVl_x05 (x : VlState) (s : State) : (setVl x s).x05 = s.x05 := rfl
@[simp] theorem setVl_x06 (x : VlState) (s : State) : (setVl x s).x06 = s.x06 := rfl
@[simp] theorem setVl_q (x : VlState) (s : State) : (setVl x s).q = s.q := rfl
@[simp] theorem setVl_grpSeq (x : VlState) (s : State) : (setVl x s).grpSeq = s.grpSeq := rfl
@[simp] theorem setVl_vl (x : VlState) (s : State) : (setVl x s).vl = x := rfl
@[simp] theorem setVl_ses (x : VlState) (s : State) : (setVl x s).ses = s.ses := rfl
@[simp] theorem setVl_grt (x : VlState) (s : State) : (setVl x s).grt = s.grt := rfl
@[simp] theorem setVl_dlm (x : VlState) (s : State) : (setVl x s).dlm = s.dlm := rfl
@[simp] theorem setVl_lsw (x : VlState) (s : State) : (setVl x s).lsw = s.lsw := rfl
@[simp] theorem setVl_lcd (x : VlState) (s : State) : (setVl x s).lcd = s.lcd := rfl
@[simp] theorem setVl_nfc (x : VlState) (s : State) : (setVl x s).nfc = s.nfc := rfl
@[simp] theorem setVl_hif (x : VlState) (s : State) : (setVl x s).hif = s.hif := rfl
@[simp] theorem setVl_mail (x : VlState) (s : State) : (setVl x s).mail = s.mail := rfl
@[simp] theorem setVl_boot (x : VlState) (s : State) : (setVl x s).boot = s.boot := rfl
@[simp] theorem setVl_mem (x : VlState) (s : State) : (setVl x s).mem = s.mem := rfl
@[simp] theorem setVl_pow (x : VlState) (s : State) : (setVl x s).pow = s.pow := rfl
@[simp] theorem setVl_upd (x : VlState) (s : State) : (setVl x s).upd = s.upd := rfl
@[simp] theorem setVl_amb (x : VlState) (s : State) : (setVl x s).amb = s.amb := rfl
@[simp] theorem setVl_eth (x : VlState) (s : State) : (setVl x s).eth = s.eth := rfl
@[simp] theorem setVl_x09 (x : VlState) (s : State) : (setVl x s).x09 = s.x09 := rfl
@[simp] theorem setVl_x11 (x : VlState) (s : State) : (setVl x s).x11 = s.x11 := rfl
@[simp] theorem setVl_posts (x : VlState) (s : State) : (setVl x s).posts = s.posts := rfl
@[simp] theorem setVl_postOrder (x : VlState) (s : State) : (setVl x s).postOrder = s.postOrder := rfl
@[simp] theorem setVl_out (x : VlState) (s : State) : (setVl x s).out = s.out := rfl
@[simp] theorem setVl_free (x : VlState) (s : State) : (setVl x s).free = s.free := rfl
@[simp] theorem setVl_pending (x : VlState) (s : State) : (setVl x s).pending = s.pending := rfl
@[simp] theorem setVl_get (x : VlState) (s : State) (f : RegField) : (setVl x s).get f = s.get f := rfl
@[simp] theorem setVl_reg (x : VlState) (s : State) (a : Nat) : (setVl x s).reg a = s.reg a := rfl
@[simp] theorem setVl_par (x : VlState) (s : State) (p : Nat) : (setVl x s).par p = s.par p := rfl

end Sys2Proof.Machine
end

