-- ==== Sys2Proof/Laws/Within.lean ====
section
/-!
SUPPORT. How Within composes: what changes only some parts of the state and keeps the invariant, one thing after another.
-/
namespace Sys2Proof.Machine

/-- A set of parts as bits. -/
def Part.bits (l : List Part) : Nat := l.foldr (fun p a => (1 <<< Part.ctorIdx p) ||| a) 0

/-- Every part of one list is in another, checked on their bits. -/
def Part.covers (qs ps : List Part) : Bool := (Part.bits qs ||| Part.bits ps) == Part.bits ps

theorem Part.ctorIdx_inj {p q : Part} (h : Part.ctorIdx p = Part.ctorIdx q) : p = q := by
  have hp : Part.ofNat (Part.ctorIdx p) = p := by cases p <;> rfl
  have hq : Part.ofNat (Part.ctorIdx q) = q := by cases q <;> rfl
  rw [← hp, ← hq, h]

theorem Part.testBit_bits (l : List Part) (p : Part) : (Part.bits l).testBit (Part.ctorIdx p) = decide (p ∈ l) := by
  induction l with
  | nil => simp [Part.bits]
  | cons q l ih =>
    have h : Part.bits (q :: l) = (1 <<< Part.ctorIdx q) ||| Part.bits l := rfl
    rw [h, Nat.testBit_or, ih, Nat.one_shiftLeft, Nat.testBit_two_pow]
    by_cases hq : p = q
    · subst hq; simp
    · have : ¬ Part.ctorIdx q = Part.ctorIdx p := fun e => hq (Part.ctorIdx_inj e.symm)
      simp [hq, this]

theorem Part.mem_of_covers {qs ps : List Part} (hc : Part.covers qs ps = true) {p : Part} (h : p ∈ qs) : p ∈ ps := by
  simp only [Part.covers, beq_iff_eq] at hc
  have : (Part.bits ps).testBit (Part.ctorIdx p) = true := by
    rw [← hc, Nat.testBit_or, Part.testBit_bits]; simp [h]
  simpa [Part.testBit_bits] using this

variable {ps qs : List Part} {s t u : State}

theorem Within.refl (ps : List Part) (s : State) : Within ps s s := ⟨id, fun p _ => by cases p <;> rfl⟩

theorem Part.same_trans {p : Part} (h1 : p.same s t) (h2 : p.same t u) : p.same s u := by
  cases p <;> exact Eq.trans h2 h1

/-- Nothing outside a smaller set is changed, so nothing outside a larger one is. -/
theorem Within.sub (h : Within qs s t) (hc : Part.covers qs ps = true) : Within ps s t :=
  ⟨h.inv, fun p hp => h.same p (fun hq => hp (Part.mem_of_covers hc hq))⟩

/-- One thing after another, both within the same parts. -/
theorem Within.trans (h1 : Within ps s t) (h2 : Within ps t u) : Within ps s u :=
  ⟨fun h => h2.inv (h1.inv h), fun p hp => Part.same_trans (h1.same p hp) (h2.same p hp)⟩

/-- One thing after another, the second within fewer parts. -/
theorem Within.comp (h1 : Within ps s t) (h2 : Within qs t u) (hc : Part.covers qs ps = true) : Within ps s u :=
  h1.trans (h2.sub hc)

/-- A state named on the way. -/
theorem Within.step (h1 : Within ps s t) (h2 : Within ps s t → Within ps s u) : Within ps s u := h2 h1

theorem Within.ite {c : Prop} [Decidable c] (h1 : Within ps s t) (h2 : Within ps s u) : Within ps s (if c then t else u) := by
  split <;> assumption

theorem Within.ite1 {α : Type} {c : Prop} [Decidable c] {a b : State × α} (h1 : Within ps s a.1) (h2 : Within ps s b.1) :
    Within ps s (if c then a else b).1 := by
  split <;> assumption

theorem Within.ite2 {α : Type} {c : Prop} [Decidable c] {a b : α × State} (h1 : Within ps s a.2) (h2 : Within ps s b.2) :
    Within ps s (if c then a else b).2 := by
  split <;> assumption

theorem Within.ite22 {α β : Type} {c : Prop} [Decidable c] {a b : α × β × State} (h1 : Within ps s a.2.2) (h2 : Within ps s b.2.2) :
    Within ps s (if c then a else b).2.2 := by
  split <;> assumption

theorem Within.foldl {α : Type} {f : State → α → State} {l : List α} (h : ∀ v x, Within ps v (f v x)) (s : State) :
    Within ps s (l.foldl f s) := by
  induction l generalizing s with
  | nil => exact .refl _ _
  | cons x l ih => exact (h s x).trans (ih (f s x))

theorem Within.upTo {n : Nat} {f : Nat → State → State} (h : ∀ i v, Within ps v (f i v)) (s : State) :
    Within ps s (upTo n f s) := Within.foldl (fun v i => h i v) s

theorem Within.when {b : Bool} {f : State → State} (h : ∀ v, Within ps v (f v)) (s : State) : Within ps s (when b f s) := by
  unfold Machine.when; split
  · exact h s
  · exact .refl _ _

theorem Within.option {α : Type} {f : State → α → State} {o : Option α} (h : ∀ v x, Within ps v (f v x)) (s : State) :
    Within ps s (match o with | some x => f s x | none => s) := by
  cases o with
  | none => exact .refl _ _
  | some x => exact h s x

theorem Within.ofEq2 {α : Type} {p : α × State} {a : α} (e : p = (a, t)) (h : Within ps s p.2) : Within ps s t := by
  rw [e] at h; exact h

theorem Within.ofEq1 {α : Type} {p : State × α} {a : α} (e : p = (t, a)) (h : Within ps s p.1) : Within ps s t := by
  rw [e] at h; exact h

theorem Answers.step {a : Ans} (h1 : Within ps s t) (h2 : Within ps s t → Answers a (Within ps s)) : Answers a (Within ps s) := h2 h1

theorem Answers.next {p : State → Prop} (h : p t) : Answers (.next t) p := ⟨t, rfl, h⟩

theorem Answers.ite {p : State → Prop} {c : Prop} [Decidable c] {a b : Ans} (h1 : Answers a p) (h2 : Answers b p) :
    Answers (if c then a else b) p := by
  split <;> assumption

theorem Answers.awake {a : Ans} {i : Island} (h : Answers a (Within ps s)) : Answers (awake i s a) (Within ps s) := by
  unfold Machine.awake
  exact Answers.ite (Answers.next (.refl _ _)) h

end Sys2Proof.Machine
end

