-- ==== Sys2Proof/Laws/WithinOps.lean ====
section
/-!
SUPPORT. What an update of the state changes: a register, a parameter, or the fields it writes; and sets of parts with names.
-/
namespace Sys2Proof.Machine

/-- All parts but variant, out, pending. -/
abbrev Part.wide1 : List Part :=
  [.regs, .params, .xings, .ttb, .tok, .afe, .pts, .x00, .x01, .parPend, .parNext, .corrSent, .bil, .btm, .logs, .saf,
    .x03, .x19, .x04, .x05, .x06, .q, .grpSeq, .vl, .ses, .grt, .dlm, .lsw, .lcd, .nfc, .hif, .mail, .boot, .mem, .pow, .upd,
    .amb, .eth, .x09, .x11, .posts, .postOrder, .free]

/-- All parts but variant, afe, pending. -/
abbrev Part.wide2 : List Part :=
  [.regs, .params, .xings, .ttb, .tok, .pts, .x00, .x01, .parPend, .parNext, .corrSent, .bil, .btm, .logs, .saf, .x03,
    .x19, .x04, .x05, .x06, .q, .grpSeq, .vl, .ses, .grt, .dlm, .lsw, .lcd, .nfc, .hif, .mail, .boot, .mem, .pow, .upd, .amb,
    .eth, .x09, .x11, .posts, .postOrder, .out, .free]

/-- All parts but variant, afe, upd, pending. -/
abbrev Part.wide3 : List Part :=
  [.regs, .params, .xings, .ttb, .tok, .pts, .x00, .x01, .parPend, .parNext, .corrSent, .bil, .btm, .logs, .saf, .x03,
    .x19, .x04, .x05, .x06, .q, .grpSeq, .vl, .ses, .grt, .dlm, .lsw, .lcd, .nfc, .hif, .mail, .boot, .mem, .pow, .amb, .eth,
    .x09, .x11, .posts, .postOrder, .out, .free]

/-- All parts but variant, upd, out, pending. -/
abbrev Part.wide4 : List Part :=
  [.regs, .params, .xings, .ttb, .tok, .afe, .pts, .x00, .x01, .parPend, .parNext, .corrSent, .bil, .btm, .logs, .saf,
    .x03, .x19, .x04, .x05, .x06, .q, .grpSeq, .vl, .ses, .grt, .dlm, .lsw, .lcd, .nfc, .hif, .mail, .boot, .mem, .pow, .amb,
    .eth, .x09, .x11, .posts, .postOrder, .free]

/-- All parts but variant, afe, free, pending. -/
abbrev Part.wide5 : List Part :=
  [.regs, .params, .xings, .ttb, .tok, .pts, .x00, .x01, .parPend, .parNext, .corrSent, .bil, .btm, .logs, .saf, .x03,
    .x19, .x04, .x05, .x06, .q, .grpSeq, .vl, .ses, .grt, .dlm, .lsw, .lcd, .nfc, .hif, .mail, .boot, .mem, .pow, .upd, .amb,
    .eth, .x09, .x11, .posts, .postOrder, .out]

/-- All parts but variant, afe, upd, free, pending. -/
abbrev Part.wide6 : List Part :=
  [.regs, .params, .xings, .ttb, .tok, .pts, .x00, .x01, .parPend, .parNext, .corrSent, .bil, .btm, .logs, .saf, .x03,
    .x19, .x04, .x05, .x06, .q, .grpSeq, .vl, .ses, .grt, .dlm, .lsw, .lcd, .nfc, .hif, .mail, .boot, .mem, .pow, .amb, .eth,
    .x09, .x11, .posts, .postOrder, .out]

/-- All parts but variant, params, afe, pow, upd, free, pending. -/
abbrev Part.wide7 : List Part :=
  [.regs, .xings, .ttb, .tok, .pts, .x00, .x01, .parPend, .parNext, .corrSent, .bil, .btm, .logs, .saf, .x03, .x19, .x04,
    .x05, .x06, .q, .grpSeq, .vl, .ses, .grt, .dlm, .lsw, .lcd, .nfc, .hif, .mail, .boot, .mem, .amb, .eth, .x09, .x11,
    .posts, .postOrder, .out]

/-- All parts but variant, params, afe, logs, upd, out, free, pending. -/
abbrev Part.wide8 : List Part :=
  [.regs, .xings, .ttb, .tok, .pts, .x00, .x01, .parPend, .parNext, .corrSent, .bil, .btm, .saf, .x03, .x19, .x04, .x05,
    .x06, .q, .grpSeq, .vl, .ses, .grt, .dlm, .lsw, .lcd, .nfc, .hif, .mail, .boot, .mem, .pow, .amb, .eth, .x09, .x11,
    .posts, .postOrder]

/-- All parts but variant, params, afe, logs, pow, upd, out, free, pending. -/
abbrev Part.wide9 : List Part :=
  [.regs, .xings, .ttb, .tok, .pts, .x00, .x01, .parPend, .parNext, .corrSent, .bil, .btm, .saf, .x03, .x19, .x04, .x05,
    .x06, .q, .grpSeq, .vl, .ses, .grt, .dlm, .lsw, .lcd, .nfc, .hif, .mail, .boot, .mem, .amb, .eth, .x09, .x11, .posts,
    .postOrder]

theorem Within.upd_afe (s : State) (x0 : AfeState) : Within [.afe] s { s with afe := x0 } :=
  ⟨fun i => ⟨i.regs, i.params, i.cells, i.xings, i.tok, i.logs, i.queues⟩,
    fun p hp => by cases p <;> first | rfl | exact absurd (by simp) hp⟩

theorem Within.upd_amb (s : State) (x0 : AmbState) : Within [.amb] s { s with amb := x0 } :=
  ⟨fun i => ⟨i.regs, i.params, i.cells, i.xings, i.tok, i.logs, i.queues⟩,
    fun p hp => by cases p <;> first | rfl | exact absurd (by simp) hp⟩

theorem Within.upd_bil (s : State) (x0 : BilState) : Within [.bil] s { s with bil := x0 } :=
  ⟨fun i => ⟨i.regs, i.params, i.cells, i.xings, i.tok, i.logs, i.queues⟩,
    fun p hp => by cases p <;> first | rfl | exact absurd (by simp) hp⟩

theorem Within.upd_bil_btm (s : State) (x0 : BilState) (x1 : BtmState) : Within [.bil, .btm] s { s with bil := x0, btm := x1 } :=
  ⟨fun i => ⟨i.regs, i.params, i.cells, i.xings, i.tok, i.logs, i.queues⟩,
    fun p hp => by cases p <;> first | rfl | exact absurd (by simp) hp⟩

theorem Within.upd_boot (s : State) (x0 : BootState) : Within [.boot] s { s with boot := x0 } :=
  ⟨fun i => ⟨i.regs, i.params, i.cells, i.xings, i.tok, i.logs, i.queues⟩,
    fun p hp => by cases p <;> first | rfl | exact absurd (by simp) hp⟩

theorem Within.upd_btm (s : State) (x0 : BtmState) : Within [.btm] s { s with btm := x0 } :=
  ⟨fun i => ⟨i.regs, i.params, i.cells, i.xings, i.tok, i.logs, i.queues⟩,
    fun p hp => by cases p <;> first | rfl | exact absurd (by simp) hp⟩

theorem Within.upd_btm_nfc (s : State) (x0 : BtmState) (x1 : NfcState) : Within [.btm, .nfc] s { s with btm := x0, nfc := x1 } :=
  ⟨fun i => ⟨i.regs, i.params, i.cells, i.xings, i.tok, i.logs, i.queues⟩,
    fun p hp => by cases p <;> first | rfl | exact absurd (by simp) hp⟩

theorem Within.upd_btm_saf (s : State) (x0 : BtmState) (x1 : SafState) : Within [.btm, .saf] s { s with btm := x0, saf := x1 } :=
  ⟨fun i => ⟨i.regs, i.params, i.cells, i.xings, i.tok, i.logs, i.queues⟩,
    fun p hp => by cases p <;> first | rfl | exact absurd (by simp) hp⟩

theorem Within.upd_corrSent (s : State) (x0 : Option (List (Nat × Int))) : Within [.corrSent] s { s with corrSent := x0 } :=
  ⟨fun i => ⟨i.regs, i.params, i.cells, i.xings, i.tok, i.logs, i.queues⟩,
    fun p hp => by cases p <;> first | rfl | exact absurd (by simp) hp⟩

theorem Within.upd_dlm (s : State) (x0 : DlmState) : Within [.dlm] s { s with dlm := x0 } :=
  ⟨fun i => ⟨i.regs, i.params, i.cells, i.xings, i.tok, i.logs, i.queues⟩,
    fun p hp => by cases p <;> first | rfl | exact absurd (by simp) hp⟩

theorem Within.upd_eth (s : State) (x0 : EthState) : Within [.eth] s { s with eth := x0 } :=
  ⟨fun i => ⟨i.regs, i.params, i.cells, i.xings, i.tok, i.logs, i.queues⟩,
    fun p hp => by cases p <;> first | rfl | exact absurd (by simp) hp⟩

theorem Within.upd_free (s : State) (x0 : Nat) : Within [.free] s { s with free := x0 } :=
  ⟨fun i => ⟨i.regs, i.params, i.cells, i.xings, i.tok, i.logs, i.queues⟩,
    fun p hp => by cases p <;> first | rfl | exact absurd (by simp) hp⟩

theorem Within.upd_grpSeq (s : State) (x0 : Nat) : Within [.grpSeq] s { s with grpSeq := x0 } :=
  ⟨fun i => ⟨i.regs, i.params, i.cells, i.xings, i.tok, i.logs, i.queues⟩,
    fun p hp => by cases p <;> first | rfl | exact absurd (by simp) hp⟩

theorem Within.upd_grt (s : State) (x0 : GrtState) : Within [.grt] s { s with grt := x0 } :=
  ⟨fun i => ⟨i.regs, i.params, i.cells, i.xings, i.tok, i.logs, i.queues⟩,
    fun p hp => by cases p <;> first | rfl | exact absurd (by simp) hp⟩

theorem Within.upd_hif (s : State) (x0 : List HifPath) : Within [.hif] s { s with hif := x0 } :=
  ⟨fun i => ⟨i.regs, i.params, i.cells, i.xings, i.tok, i.logs, i.queues⟩,
    fun p hp => by cases p <;> first | rfl | exact absurd (by simp) hp⟩

theorem Within.upd_lcd (s : State) (x0 : LcdState) : Within [.lcd] s { s with lcd := x0 } :=
  ⟨fun i => ⟨i.regs, i.params, i.cells, i.xings, i.tok, i.logs, i.queues⟩,
    fun p hp => by cases p <;> first | rfl | exact absurd (by simp) hp⟩

theorem Within.upd_lsw (s : State) (x0 : LswState) : Within [.lsw] s { s with lsw := x0 } :=
  ⟨fun i => ⟨i.regs, i.params, i.cells, i.xings, i.tok, i.logs, i.queues⟩,
    fun p hp => by cases p <;> first | rfl | exact absurd (by simp) hp⟩

theorem Within.upd_mail (s : State) (x0 : MailState) : Within [.mail] s { s with mail := x0 } :=
  ⟨fun i => ⟨i.regs, i.params, i.cells, i.xings, i.tok, i.logs, i.queues⟩,
    fun p hp => by cases p <;> first | rfl | exact absurd (by simp) hp⟩

theorem Within.upd_mem (s : State) (x0 : MemState) (h : x0.cells = s.mem.cells) : Within [.mem] s { s with mem := x0 } :=
  ⟨fun i => ⟨i.regs, i.params, by rw [h]; exact i.cells, i.xings, i.tok, i.logs, i.queues⟩,
    fun p hp => by cases p <;> first | rfl | exact absurd (by simp) hp⟩

theorem Within.upd_nfc (s : State) (x0 : NfcState) : Within [.nfc] s { s with nfc := x0 } :=
  ⟨fun i => ⟨i.regs, i.params, i.cells, i.xings, i.tok, i.logs, i.queues⟩,
    fun p hp => by cases p <;> first | rfl | exact absurd (by simp) hp⟩

theorem Within.upd_out (s : State) (x0 : List Output) : Within [.out] s { s with out := x0 } :=
  ⟨fun i => ⟨i.regs, i.params, i.cells, i.xings, i.tok, i.logs, i.queues⟩,
    fun p hp => by cases p <;> first | rfl | exact absurd (by simp) hp⟩

theorem Within.upd_parNext (s : State) (x0 : List (Nat × Int)) : Within [.parNext] s { s with parNext := x0 } :=
  ⟨fun i => ⟨i.regs, i.params, i.cells, i.xings, i.tok, i.logs, i.queues⟩,
    fun p hp => by cases p <;> first | rfl | exact absurd (by simp) hp⟩

theorem Within.upd_parPend (s : State) (x0 : List (Nat × Int)) : Within [.parPend] s { s with parPend := x0 } :=
  ⟨fun i => ⟨i.regs, i.params, i.cells, i.xings, i.tok, i.logs, i.queues⟩,
    fun p hp => by cases p <;> first | rfl | exact absurd (by simp) hp⟩

theorem Within.upd_parPend_parNext_corrSent (s : State) (x0 : List (Nat × Int)) (x1 : List (Nat × Int)) (x2 : Option (List (Nat × Int))) : Within [.parPend, .parNext, .corrSent] s { s with parPend := x0, parNext := x1, corrSent := x2 } :=
  ⟨fun i => ⟨i.regs, i.params, i.cells, i.xings, i.tok, i.logs, i.queues⟩,
    fun p hp => by cases p <;> first | rfl | exact absurd (by simp) hp⟩

theorem Within.upd_pending (s : State) (x0 : List Instr) : Within [.pending] s { s with pending := x0 } :=
  ⟨fun i => ⟨i.regs, i.params, i.cells, i.xings, i.tok, i.logs, i.queues⟩,
    fun p hp => by cases p <;> first | rfl | exact absurd (by simp) hp⟩

theorem Within.upd_postOrder (s : State) (x0 : Nat) : Within [.postOrder] s { s with postOrder := x0 } :=
  ⟨fun i => ⟨i.regs, i.params, i.cells, i.xings, i.tok, i.logs, i.queues⟩,
    fun p hp => by cases p <;> first | rfl | exact absurd (by simp) hp⟩

theorem Within.upd_posts (s : State) (x0 : List SharePost) : Within [.posts] s { s with posts := x0 } :=
  ⟨fun i => ⟨i.regs, i.params, i.cells, i.xings, i.tok, i.logs, i.queues⟩,
    fun p hp => by cases p <;> first | rfl | exact absurd (by simp) hp⟩

theorem Within.upd_pow (s : State) (x0 : PowState) : Within [.pow] s { s with pow := x0 } :=
  ⟨fun i => ⟨i.regs, i.params, i.cells, i.xings, i.tok, i.logs, i.queues⟩,
    fun p hp => by cases p <;> first | rfl | exact absurd (by simp) hp⟩

theorem Within.upd_pts (s : State) (x0 : PtsState) : Within [.pts] s { s with pts := x0 } :=
  ⟨fun i => ⟨i.regs, i.params, i.cells, i.xings, i.tok, i.logs, i.queues⟩,
    fun p hp => by cases p <;> first | rfl | exact absurd (by simp) hp⟩

theorem Within.upd_pts_x00 (s : State) (x0 : PtsState) (x1 : List Rec) : Within [.pts, .x00] s { s with pts := x0, x00 := x1 } :=
  ⟨fun i => ⟨i.regs, i.params, i.cells, i.xings, i.tok, i.logs, i.queues⟩,
    fun p hp => by cases p <;> first | rfl | exact absurd (by simp) hp⟩

theorem Within.upd_pts_x01 (s : State) (x0 : PtsState) (x1 : List Nat) : Within [.pts, .x01] s { s with pts := x0, x01 := x1 } :=
  ⟨fun i => ⟨i.regs, i.params, i.cells, i.xings, i.tok, i.logs, i.queues⟩,
    fun p hp => by cases p <;> first | rfl | exact absurd (by simp) hp⟩

theorem Within.upd_saf (s : State) (x0 : SafState) : Within [.saf] s { s with saf := x0 } :=
  ⟨fun i => ⟨i.regs, i.params, i.cells, i.xings, i.tok, i.logs, i.queues⟩,
    fun p hp => by cases p <;> first | rfl | exact absurd (by simp) hp⟩

theorem Within.upd_ses (s : State) (x0 : SesState) : Within [.ses] s { s with ses := x0 } :=
  ⟨fun i => ⟨i.regs, i.params, i.cells, i.xings, i.tok, i.logs, i.queues⟩,
    fun p hp => by cases p <;> first | rfl | exact absurd (by simp) hp⟩

theorem Within.upd_ttb (s : State) (x0 : TtbState) : Within [.ttb] s { s with ttb := x0 } :=
  ⟨fun i => ⟨i.regs, i.params, i.cells, i.xings, i.tok, i.logs, i.queues⟩,
    fun p hp => by cases p <;> first | rfl | exact absurd (by simp) hp⟩

theorem Within.upd_upd (s : State) (x0 : UpdState) : Within [.upd] s { s with upd := x0 } :=
  ⟨fun i => ⟨i.regs, i.params, i.cells, i.xings, i.tok, i.logs, i.queues⟩,
    fun p hp => by cases p <;> first | rfl | exact absurd (by simp) hp⟩

theorem Within.upd_vl (s : State) (x0 : VlState) : Within [.vl] s { s with vl := x0 } :=
  ⟨fun i => ⟨i.regs, i.params, i.cells, i.xings, i.tok, i.logs, i.queues⟩,
    fun p hp => by cases p <;> first | rfl | exact absurd (by simp) hp⟩

theorem Within.upd_x00 (s : State) (x0 : List Rec) : Within [.x00] s { s with x00 := x0 } :=
  ⟨fun i => ⟨i.regs, i.params, i.cells, i.xings, i.tok, i.logs, i.queues⟩,
    fun p hp => by cases p <;> first | rfl | exact absurd (by simp) hp⟩

theorem Within.upd_x01 (s : State) (x0 : List Nat) : Within [.x01] s { s with x01 := x0 } :=
  ⟨fun i => ⟨i.regs, i.params, i.cells, i.xings, i.tok, i.logs, i.queues⟩,
    fun p hp => by cases p <;> first | rfl | exact absurd (by simp) hp⟩

theorem Within.upd_x03 (s : State) (x0 : List SafReport) : Within [.x03] s { s with x03 := x0 } :=
  ⟨fun i => ⟨i.regs, i.params, i.cells, i.xings, i.tok, i.logs, i.queues⟩,
    fun p hp => by cases p <;> first | rfl | exact absurd (by simp) hp⟩

theorem Within.upd_x03_x19_x04_x09 (s : State) (x0 : List SafReport) (x1 : List Nat) (x2 : List CoreWord) (x3 : List (Nat × List Byte)) : Within [.x03, .x19, .x04, .x09] s { s with x03 := x0, x19 := x1, x04 := x2, x09 := x3 } :=
  ⟨fun i => ⟨i.regs, i.params, i.cells, i.xings, i.tok, i.logs, i.queues⟩,
    fun p hp => by cases p <;> first | rfl | exact absurd (by simp) hp⟩

theorem Within.upd_x04 (s : State) (x0 : List CoreWord) : Within [.x04] s { s with x04 := x0 } :=
  ⟨fun i => ⟨i.regs, i.params, i.cells, i.xings, i.tok, i.logs, i.queues⟩,
    fun p hp => by cases p <;> first | rfl | exact absurd (by simp) hp⟩

theorem Within.upd_x05 (s : State) (x0 : List VlReport) : Within [.x05] s { s with x05 := x0 } :=
  ⟨fun i => ⟨i.regs, i.params, i.cells, i.xings, i.tok, i.logs, i.queues⟩,
    fun p hp => by cases p <;> first | rfl | exact absurd (by simp) hp⟩

theorem Within.upd_x06 (s : State) (x0 : List (Nat × Nat)) : Within [.x06] s { s with x06 := x0 } :=
  ⟨fun i => ⟨i.regs, i.params, i.cells, i.xings, i.tok, i.logs, i.queues⟩,
    fun p hp => by cases p <;> first | rfl | exact absurd (by simp) hp⟩

theorem Within.upd_x09 (s : State) (x0 : List (Nat × List Byte)) : Within [.x09] s { s with x09 := x0 } :=
  ⟨fun i => ⟨i.regs, i.params, i.cells, i.xings, i.tok, i.logs, i.queues⟩,
    fun p hp => by cases p <;> first | rfl | exact absurd (by simp) hp⟩

theorem Within.upd_x11 (s : State) (x0 : List SiteMsg) : Within [.x11] s { s with x11 := x0 } :=
  ⟨fun i => ⟨i.regs, i.params, i.cells, i.xings, i.tok, i.logs, i.queues⟩,
    fun p hp => by cases p <;> first | rfl | exact absurd (by simp) hp⟩

theorem Within.upd_x19 (s : State) (x0 : List Nat) : Within [.x19] s { s with x19 := x0 } :=
  ⟨fun i => ⟨i.regs, i.params, i.cells, i.xings, i.tok, i.logs, i.queues⟩,
    fun p hp => by cases p <;> first | rfl | exact absurd (by simp) hp⟩

theorem Within.of_regs {s t : State} (h : t = { s with regs := t.regs }) (hw : Sparse.wf RegMap.resetOf s.regs = true → Sparse.wf RegMap.resetOf t.regs = true) :
    Within [.regs] s t := by
  refine ⟨fun i => ?_, fun p hp => ?_⟩
  · have hr := hw i.regs
    rw [h]
    exact ⟨hr, i.params, i.cells, i.xings, i.tok, i.logs, i.queues⟩
  · rw [h]
    cases p <;> first | rfl | exact absurd (by simp) hp

theorem State.setReg_within (s : State) (a : Nat) (w : Word) : Within [.regs] s (s.setReg a w) :=
  .of_regs rfl (fun h => Sparse.wf_set _ _ _ h)

theorem State.setPar_within (s : State) (p : Nat) (v : Int) : Within [.params] s (s.setPar p v) :=
  ⟨fun i => ⟨i.regs, Sparse.wf_set _ _ _ i.params, i.cells, i.xings, i.tok, i.logs, i.queues⟩,
    fun p hp => by cases p <;> first | rfl | exact absurd (by simp) hp⟩

end Sys2Proof.Machine
end

