-- ==== Sys2Proof/Laws/Within1.lean ====
section
/-!
SUPPORT. Which parts of the state each operation changes, and that it keeps the invariant: the files of Machine/ named
Ops, Operands, Queues, Token, Amene, Logs, FaultLog, FrontEnd, Points, Billing, BillTime.
-/
namespace Sys2Proof.Machine

theorem State.emit_within (s : State) (o : Output) :
    Within [.out] s (State.emit s o) := by
  unfold State.emit
  refine Within.comp ?_ (Within.upd_out _ _) rfl
  exact Within.refl _ _

theorem State.put_within (s : State) (f : RegField) (v : Nat) :
    Within [.regs] s (State.put s f v) := by
  unfold State.put
  exact (State.setReg_within _ _ _).sub rfl

theorem State.putBit_within (s : State) (a : Nat) (i : Nat) (b : Bool) :
    Within [.regs] s (State.putBit s a i b) := by
  unfold State.putBit
  exact (State.put_within _ _ _).sub rfl

theorem State.fresh_within (s : State) :
    Within [.free] s (State.fresh s).2 := by
  unfold State.fresh
  refine Within.comp ?_ (Within.upd_free _ _) rfl
  exact Within.refl _ _

theorem State.setRegN_within (s : State) (a : Nat) (v : Nat) :
    Within [.regs] s (State.setRegN s a v) := by
  unfold State.setRegN
  exact (State.setReg_within _ _ _).sub rfl

theorem State.putB_within (s : State) (f : RegField) (b : Bool) :
    Within [.regs] s (State.putB s f b) := by
  unfold State.putB
  exact (State.put_within _ _ _).sub rfl

theorem State.bump_within (s : State) (f : RegField) (n : optParam Nat 1) :
    Within [.regs] s (State.bump s f n) := by
  unfold State.bump
  exact (State.put_within _ _ _).sub rfl

theorem State.bumpReg_within (s : State) (a : Nat) (n : optParam Nat 1) :
    Within [.regs] s (State.bumpReg s a n) := by
  unfold State.bumpReg
  exact (State.setRegN_within _ _ _).sub rfl

theorem State.lower_within (s : State) (f : RegField) :
    Within [.regs] s (State.lower s f) := by
  unfold State.lower
  exact (State.put_within _ _ _).sub rfl

theorem State.raise_within (s : State) (f : RegField) :
    Within [.regs] s (State.raise s f) := by
  unfold State.raise
  exact (State.put_within _ _ _).sub rfl

theorem State.setRegI_within (s : State) (a : Nat) (v : Int) :
    Within [.regs] s (State.setRegI s a v) := by
  unfold State.setRegI
  exact (State.setRegN_within _ _ _).sub rfl

theorem hostReply_within (p : Path) (status : Nat) (s : State) :
    Within [.out] s (hostReply p status s) := by
  unfold hostReply
  exact (State.emit_within _ _).sub rfl

theorem hostAccess_within (p : Path) (s : State) :
    Within [.regs] s (hostAccess p s) := by
  unfold hostAccess
  extract_lets +onlyGivenNames -merge -underBinder t0
  refine Within.step (t := t0) ?_ fun h1 => ?_
  · unfold t0
    refine Within.comp ?_ (State.lower_within _ _) rfl
    exact (State.lower_within _ _).sub rfl
  clear_value t0
  split
  · refine Within.comp ?_ (State.bumpReg_within _ _ _) rfl
    exact h1
  · refine Within.comp ?_ (State.bumpReg_within _ _ _) rfl
    exact h1

theorem toIsland_within {ps : List Part} {i : Island} {f : State → State} {s : State} (h : ∀ v, Within ps v (f v))
    (hc : Part.covers [.regs] ps = true) : Within ps s (toIsland i f s) := by
  unfold toIsland
  exact Within.ite ((State.bump_within _ _ _).sub hc) (h s)

theorem hostOwn_within {ps : List Part} {p : Path} {need : Nat} {f : State → State} {s : State} (h : ∀ v, Within ps v (f v))
    (hc : Part.covers [.regs, .out] ps = true) : Within ps s (hostOwn p need f s) := by
  unfold hostOwn
  refine Within.ite ?_ (Within.refl _ _)
  extract_lets +onlyGivenNames t
  have ht : Within ps s t := Within.sub (qs := [.regs, .out]) ((hostAccess_within _ _).sub rfl) hc
  refine Within.ite ?_ (Within.ite ?_ ?_)
  · exact ht.trans (Within.sub (qs := [.regs, .out]) (Within.comp ((State.raise_within _ _).sub rfl) (hostReply_within _ _ _) rfl) hc)
  · exact ht.trans (Within.sub (qs := [.regs, .out]) ((hostReply_within _ _ _).sub rfl) hc)
  · exact (ht.trans (h t)).trans (Within.sub (qs := [.regs, .out]) ((hostReply_within _ _ _).sub rfl) hc)

theorem setEth_within (e : EthState) (s : State) :
    Within [.eth] s (setEth e s) := by
  unfold setEth
  refine Within.comp ?_ (Within.upd_eth _ _) rfl
  exact Within.refl _ _

theorem setQueue_within (n : Nat) (l : List Frame) (s : State) : Within [.q] s (setQueue n l s) :=
  ⟨fun i => ⟨i.regs, i.params, i.cells, i.xings, i.tok, i.logs, by simpa [setQueue, setNth] using i.queues⟩,
    fun p hp => by cases p <;> first | rfl | exact absurd (by simp) hp⟩

theorem groupTake_within (svc : Nat) (want : List Byte → Bool) (s : State) :
    Within [.q] s (groupTake svc want s).2 := by
  unfold groupTake
  split
  · exact (setQueue_within _ _ _).sub rfl
  · exact Within.refl _ _

theorem enqueue_within (n : Nat) (f : Frame) (s : State) :
    Within [.q] s (enqueue n f s) := by
  unfold enqueue
  exact (setQueue_within _ _ _).sub rfl

theorem notify_within (type : Nat) (body : List Byte) (s : State) :
    Within [.regs, .q] s (notify type body s) := by
  unfold notify
  refine Within.ite ?_ ?_
  · refine Within.comp ?_ (State.raise_within _ _) rfl
    exact (State.bumpReg_within _ _ _).sub rfl
  · exact (enqueue_within _ _ _).sub rfl

theorem txDiscard_within (p : Nat) (n : Nat) (s : State) :
    Within [.regs] s (txDiscard p n s) := by
  unfold txDiscard
  exact (State.bumpReg_within _ _ _).sub rfl

theorem ethWrite_within (q : Nat) (f : Frame) (s : State) :
    Within [.regs, .q, .eth] s (ethWrite q f s) := by
  unfold ethWrite
  refine Within.ite ?_ ?_
  · extract_lets +onlyGivenNames -merge -underBinder put0
    have h1 : ∀ v2 v3, Within [.regs, .q, .eth] v3 (put0 v2 v3) := by
      intro v2 v3
      unfold put0
      refine Within.ite ?_ ?_
      · exact (enqueue_within _ _ _).sub rfl
      · exact (txDiscard_within _ _ _).sub rfl
    clear_value put0
    refine Within.comp ?_ (setEth_within _ _) rfl
    refine Within.trans ?_ (h1 _ _)
    refine Within.trans ?_ (h1 _ _)
    exact Within.refl _ _
  · refine Within.ite ?_ ?_
    · exact (enqueue_within _ _ _).sub rfl
    · exact (txDiscard_within _ _ _).sub rfl

theorem groupSend_within (svc : Nat) (dst : Nat) (payload : List Byte) (s : State) :
    Within [.regs, .q, .grpSeq, .eth] s (groupSend svc dst payload s) := by
  unfold groupSend
  extract_lets +onlyGivenNames -merge -underBinder head0
  extract_lets +onlyGivenNames -merge -underBinder f1
  refine Within.comp ?_ (ethWrite_within _ _ _) rfl
  refine Within.comp ?_ (Within.upd_grpSeq _ _) rfl
  exact Within.refl _ _

theorem tokShow_within (s : State) :
    Within [.regs] s (tokShow s) := by
  unfold tokShow
  refine Within.comp ?_ (State.put_within _ _ _) rfl
  refine Within.comp ?_ (State.put_within _ _ _) rfl
  exact (State.put_within _ _ _).sub rfl

theorem tokRefuse_within (kind : Nat) (reason : Nat) (s : State) :
    Within [.regs] s (tokRefuse kind reason s) := by
  unfold tokRefuse
  extract_lets +onlyGivenNames -merge -underBinder t0
  refine Within.step (t := t0) ?_ fun h1 => ?_
  · unfold t0
    refine Within.comp ?_ (State.bump_within _ _ _) rfl
    refine Within.comp ?_ (State.put_within _ _ _) rfl
    refine Within.comp ?_ (State.put_within _ _ _) rfl
    exact (State.raise_within _ _).sub rfl
  clear_value t0
  refine Within.ite ?_ ?_
  · refine Within.comp ?_ (State.raise_within _ _) rfl
    exact h1
  · exact h1

theorem tok_within (s : State) (a b : List TokEntry) (h : TokOk s.tok → TokOk ⟨a, b⟩) :
    Within [.tok] s { s with tok := ⟨a, b⟩ } :=
  ⟨fun i => ⟨i.regs, i.params, i.cells, i.xings, h i.tok, i.logs, i.queues⟩,
    fun p hp => by cases p <;> first | rfl | exact absurd (by simp) hp⟩

theorem tokGrant_within (e : TokEntry) (s : State) : Within [.regs, .tok] s (tokGrant e s) := by
  unfold tokGrant
  refine Within.comp ?_ (tokShow_within _) rfl
  refine Within.comp ?_ (State.bump_within _ _ _) rfl
  exact Within.comp (Within.refl _ _) (tok_within s _ _ fun h => ⟨h.room, h.order⟩) rfl

theorem tokEnqueue_length (e : TokEntry) (l : List TokEntry) : (tokEnqueue e l).length = l.length + 1 := by
  induction l with
  | nil => rfl
  | cons d l ih => unfold tokEnqueue; split <;> simp [ih]

theorem mem_tokEnqueue {e x : TokEntry} {l : List TokEntry} (h : x ∈ tokEnqueue e l) : x = e ∨ x ∈ l := by
  induction l with
  | nil => simpa [tokEnqueue] using h
  | cons d l ih =>
    unfold tokEnqueue at h
    split at h
    · rcases List.mem_cons.1 h with h | h
      · exact .inr (by simp [h])
      · rcases ih h with h | h
        · exact .inl h
        · exact .inr (by simp [h])
    · simpa using h

/-- A request put among the deferred ones keeps the order they are served in. -/
theorem tokEnqueue_order (e : TokEntry) {l : List TokEntry} (h : l.Pairwise (fun a b => a.kind ≤ b.kind)) :
    (tokEnqueue e l).Pairwise (fun a b => a.kind ≤ b.kind) := by
  induction l with
  | nil => simp [tokEnqueue]
  | cons d l ih =>
    rw [List.pairwise_cons] at h
    unfold tokEnqueue
    split
    · rename_i hd
      rw [List.pairwise_cons]
      refine ⟨fun x hx => ?_, ih h.2⟩
      rcases mem_tokEnqueue hx with rfl | hx
      · exact hd
      · exact h.1 x hx
    · rename_i hd
      rw [List.pairwise_cons, List.pairwise_cons]
      refine ⟨fun x hx => ?_, h⟩
      rcases List.mem_cons.1 hx with rfl | hx
      · omega
      · have := h.1 x hx; omega

theorem tokRequest_within (kind id inrush : Nat) (s : State) : Within [.regs, .tok] s (tokRequest kind id inrush s).2 := by
  unfold tokRequest
  extract_lets +onlyGivenNames e
  split
  · exact Within.sub (show Within [.regs] s (tokRefuse kind 1 s) from tokRefuse_within _ _ _) rfl
  · split
    · exact Within.sub (show Within [.regs] s (tokRefuse kind 3 s) from tokRefuse_within _ _ _) rfl
    · rename_i h16
      split
      · exact (tokGrant_within _ _).sub rfl
      · refine Within.comp ?_ (tokShow_within _) rfl
        refine Within.comp (Within.refl _ _) (tok_within s _ _ fun h => ⟨?_, tokEnqueue_order _ h.order⟩) rfl
        simp only [tokEnqueue_length]
        omega

theorem execTokenRequest_answers (kind : Nat) (id : Nat) (inrush : Nat) (s : State) :
    Answers (execTokenRequest kind id inrush s) (Within [.regs, .tok] s) := by
  unfold execTokenRequest
  refine Answers.next ?_
  refine Within.ite ?_ ?_
  · exact (tokRequest_within _ _ _ _).sub rfl
  · exact Within.refl _ _

theorem tokServeN_within (n : Nat) (s : State) : Within [.regs, .tok] s (tokServeN n s) := by
  induction n generalizing s with
  | zero => exact Within.refl _ _
  | succ n ih =>
    unfold tokServeN
    split
    · exact Within.refl _ _
    · rename_i e es he
      refine Within.ite ?_ (Within.refl _ _)
      refine Within.trans ?_ (ih _)
      refine Within.comp ?_ (tokGrant_within _ _) rfl
      refine Within.comp (Within.refl _ _) (tok_within s _ _ fun h => ?_) rfl
      have h1 := h.room
      have h2 := h.order
      rw [he] at h1 h2
      exact ⟨by simp at h1 ⊢; omega, (List.pairwise_cons.1 h2).2⟩

theorem tokServe_within (s : State) : Within [.regs, .tok] s (tokServe s) := tokServeN_within _ s

theorem tokOk_sublist {t : TokState} {h l : List TokEntry} (ht : TokOk t) (hs : List.Sublist l t.deferred) : TokOk ⟨h, l⟩ :=
  ⟨Nat.le_trans hs.length_le ht.room, ht.order.sublist hs⟩

theorem tokRelease_within (kind id : Nat) (s : State) : Within [.regs, .tok] s (tokRelease kind id s) := by
  unfold tokRelease
  refine Within.ite ?_ (Within.refl _ _)
  refine Within.comp ?_ (tokServe_within _) rfl
  refine Within.comp ?_ (tokShow_within _) rfl
  exact Within.comp (Within.refl _ _) (tok_within s _ _ fun h => ⟨h.room, h.order⟩) rfl

theorem tokDrop_within (kind id : Nat) (s : State) : Within [.regs, .tok] s (tokDrop kind id s) := by
  unfold tokDrop
  refine Within.comp ?_ (tokShow_within _) rfl
  exact Within.comp (Within.refl _ _) (tok_within s _ _ fun h => tokOk_sublist h List.eraseP_sublist) rfl

theorem execTokenRequestWithdraw_answers (kind : Nat) (id : Nat) (s : State) :
    Answers (execTokenRequestWithdraw kind id s) (Within [.regs, .tok] s) := by
  unfold execTokenRequestWithdraw
  refine Answers.next ?_
  refine Within.ite ?_ ?_
  · refine Within.comp ?_ (tokServe_within _) rfl
    exact (tokDrop_within _ _ _).sub rfl
  · exact Within.refl _ _

theorem tokBudgets_within (s : State) :
    Within [.regs, .tok] s (tokBudgets s) := by
  unfold tokBudgets
  extract_lets +onlyGivenNames -merge -underBinder logic0
  refine Within.comp ?_ (tokServe_within _) rfl
  refine Within.comp ?_ (State.put_within _ _ _) rfl
  exact (State.put_within _ _ _).sub rfl

theorem tokVlow_within (s : State) :
    Within [.regs] s (tokVlow s) := by
  unfold tokVlow
  exact (State.putB_within _ _ _).sub rfl

theorem execVsysHeadCrossing_answers (mv : Nat) (s : State) :
    Answers (execVsysHeadCrossing mv s) (Within [.regs, .tok] s) := by
  unfold execVsysHeadCrossing
  extract_lets +onlyGivenNames -merge -underBinder t0
  refine Answers.step (t := t0) ?_ fun h1 => ?_
  · unfold t0
    refine Within.comp ?_ (tokVlow_within _) rfl
    exact (State.put_within _ _ _).sub rfl
  clear_value t0
  refine Answers.next ?_
  refine Within.ite ?_ ?_
  · exact h1
  · refine Within.comp ?_ (tokServe_within _) rfl
    exact h1

theorem tokBaseline_within (pin : Nat) (s : State) :
    Within [.regs, .tok] s (tokBaseline pin s) := by
  unfold tokBaseline
  extract_lets +onlyGivenNames -merge -underBinder t0
  refine Within.step (t := t0) ?_ fun h1 => ?_
  · unfold t0
    exact (State.put_within _ _ _).sub rfl
  clear_value t0
  refine Within.comp ?_ (tokServe_within _) rfl
  refine Within.comp ?_ (tokShow_within _) rfl
  refine Within.comp ?_ (State.put_within _ _ _) rfl
  exact h1

theorem execBaselineRecompute_answers (pin : Nat) (s : State) :
    Answers (execBaselineRecompute pin s) (Within [.regs, .tok] s) := by
  unfold execBaselineRecompute
  refine Answers.next ?_
  exact (tokBaseline_within _ _).sub rfl

theorem execTokenWaitTimeout_answers (kind : Nat) (id : Nat) (s : State) :
    Answers (execTokenWaitTimeout kind id s) (Within [.regs, .tok] s) := by
  unfold execTokenWaitTimeout
  refine Answers.next ?_
  refine Within.ite ?_ ?_
  · refine Within.comp ?_ (tokServe_within _) rfl
    refine Within.comp ?_ (tokRefuse_within _ _ _) rfl
    exact (tokDrop_within _ _ _).sub rfl
  · exact Within.refl _ _

theorem tokPowerFail_within (s : State) : Within [.regs, .tok] s (tokPowerFail s) := by
  unfold tokPowerFail
  extract_lets +onlyGivenNames t
  refine Within.comp ?_ (State.raise_within _ _) rfl
  refine Within.comp ?_ (tokShow_within _) rfl
  refine Within.comp ?_ (tok_within t _ _ fun _ => ⟨Nat.zero_le _, List.Pairwise.nil⟩) rfl
  exact Within.foldl (fun v x => (tokRefuse_within _ _ _).sub rfl) _

theorem tokIslandHeld_within (i : Island) (s : State) : Within [.regs, .tok] s (tokIslandHeld i s) := by
  unfold tokIslandHeld
  refine Within.comp ?_ (tokServe_within _) rfl
  refine Within.comp ?_ (tokShow_within _) rfl
  exact Within.comp (Within.refl _ _) (tok_within s _ _ fun h => tokOk_sublist h List.filter_sublist) rfl

theorem execTokenHoldOverrun_answers (kind id : Nat) (s : State) : Answers (execTokenHoldOverrun kind id s) (Within [.regs, .tok] s) := by
  unfold execTokenHoldOverrun
  refine Answers.next ?_
  refine Within.ite ?_ (Within.refl _ _)
  refine Within.comp ?_ (State.bump_within _ _ _) rfl
  refine Within.comp ?_ (State.raise_within _ _) rfl
  exact Within.comp (Within.refl _ _) (tok_within s _ _ fun h => ⟨h.room, h.order⟩) rfl

theorem setAmb_within (a : AmbState) (s : State) :
    Within [.amb] s (setAmb a s) := by
  unfold setAmb
  refine Within.comp ?_ (Within.upd_amb _ _) rfl
  exact Within.refl _ _

theorem siteTake_within (want : SiteMsg → Bool) (s : State) :
    Within [.x11] s (siteTake want s).2 := by
  unfold siteTake
  split
  · refine Within.comp ?_ (Within.upd_x11 _ _) rfl
    exact Within.refl _ _
  · exact Within.refl _ _

theorem toCore_within (via : SiteVia) (m : AmbMsg) (s : State) :
    Within [.x11] s (toCore via m s) := by
  unfold toCore
  refine Within.comp ?_ (Within.upd_x11 _ _) rfl
  exact Within.refl _ _

theorem ambSnr_within (snr : List Int) (s : State) :
    Within [.regs] s (ambSnr snr s) := by
  unfold ambSnr
  refine Within.trans ?_ (Within.upTo (fun v0 v1 => ?_) _)
  · exact Within.refl _ _
  · exact (State.setRegN_within _ _ _).sub rfl

theorem nodesShow_within (s : State) :
    Within [.regs] s (nodesShow s) := by
  unfold nodesShow
  exact (State.put_within _ _ _).sub rfl

theorem dataTaken_within (n : Nat) (s : State) :
    Within [.q] s (dataTaken n s) := by
  unfold dataTaken
  extract_lets +onlyGivenNames -merge -underBinder a0
  refine Within.comp ?_ (setQueue_within _ _ _) rfl
  exact (setQueue_within _ _ _).sub rfl

theorem nodeClear_within (n : Nat) (s : State) :
    Within [.regs, .amb] s (nodeClear n s) := by
  unfold nodeClear
  extract_lets +onlyGivenNames -merge -underBinder j1 a0
  refine Within.comp ?_ (setAmb_within _ _) rfl
  refine Within.comp ?_ (State.setRegN_within _ _ _) rfl
  exact (State.setRegN_within _ _ _).sub rfl

theorem ackPut_within (grp : Nat) (node : Nat) (result : Nat) (s : State) :
    Within [.amb] s (ackPut grp node result s) := by
  unfold ackPut
  exact (setAmb_within _ _).sub rfl

theorem zcEdge_within (time : Nat) (s : State) :
    Within [.regs, .amb] s (zcEdge time s) := by
  unfold zcEdge
  extract_lets +onlyGivenNames -merge -underBinder at_0
  split
  · exact (setAmb_within _ _).sub rfl
  · refine Within.ite ?_ ?_
    · exact Within.refl _ _
    · refine Within.comp ?_ (setAmb_within _ _) rfl
      exact (State.put_within _ _ _).sub rfl

theorem execJoinConflictRetry_answers (s : State) :
    Answers (execJoinConflictRetry s) (Within [.amb] s) := by
  unfold execJoinConflictRetry
  refine Answers.awake ?_
  refine Answers.next ?_
  exact (setAmb_within _ _).sub rfl

theorem execZcEdge_answers (time : Nat) (s : State) :
    Answers (execZcEdge time s) (Within [.regs, .amb] s) := by
  unfold execZcEdge
  refine Answers.awake ?_
  refine Answers.next ?_
  exact (zcEdge_within _ _).sub rfl

theorem dataReceive_within (m : AmbMsg) (s : State) :
    Within [.regs, .q] s (dataReceive m s) := by
  unfold dataReceive
  extract_lets +onlyGivenNames -merge -underBinder q0
  refine Within.ite ?_ ?_
  · refine Within.comp ?_ (State.raise_within _ _) rfl
    exact (State.bumpReg_within _ _ _).sub rfl
  · exact (enqueue_within _ _ _).sub rfl

theorem execSlaveLost_answers (s : State) :
    Answers (execSlaveLost s) (Within [.regs, .amb] s) := by
  unfold execSlaveLost
  refine Answers.awake ?_
  refine Answers.next ?_
  refine Within.ite ?_ ?_
  · refine Within.comp ?_ (setAmb_within _ _) rfl
    refine Within.comp ?_ (State.raise_within _ _) rfl
    exact (State.lower_within _ _).sub rfl
  · exact Within.refl _ _

theorem ambFail_within (s : State) :
    Within [.regs] s (ambFail s) := by
  unfold ambFail
  refine Within.comp ?_ (State.raise_within _ _) rfl
  exact (State.bumpReg_within _ _ _).sub rfl

theorem ambSend_within (type : Nat) (mod : Nat) (nsym : Nat) (cyc : Nat) (mpdu : List Byte) (s : State) :
    Within [.regs, .tok, .out] s (ambSend type mod nsym cyc mpdu s) := by
  unfold ambSend
  refine Within.ite ?_ ?_
  · exact Within.refl _ _
  · extract_lets +onlyGivenNames -merge -underBinder hdr0
    extract_lets +onlyGivenNames -merge -underBinder put1
    have h2 : ∀ v3 v4, Within [.regs, .tok, .out] v4 (put1 v3 v4) := by
      intro v3 v4
      unfold put1
      extract_lets +onlyGivenNames -merge -underBinder u5
      refine Within.step (t := u5) ?_ fun h6 => ?_
      · unfold u5
        refine Within.comp ?_ (State.emit_within _ _) rfl
        exact (State.bumpReg_within _ _ _).sub rfl
      clear_value u5
      refine Within.ite ?_ ?_
      · refine Within.comp ?_ (tokRelease_within _ _ _) rfl
        exact h6
      · refine Within.comp ?_ (State.raise_within _ _) rfl
        refine Within.comp ?_ (State.bumpReg_within _ _ _) rfl
        exact h6
    clear_value put1
    refine Within.ite ?_ ?_
    · refine Within.trans ?_ (h2 _ _)
      exact Within.refl _ _
    · refine Within.ite ?_ ?_
      · refine Within.trans ?_ (h2 _ _)
        refine Within.comp ?_ (tokServe_within _) rfl
        exact (tokDrop_within _ _ _).sub rfl
      · split
        · rename_i y7 e8
          refine Within.step (t := y7) (Within.ofEq2 e8 ?_) fun h9 => ?_
          · exact (tokRequest_within _ _ _ _).sub rfl
          refine Within.trans ?_ (h2 _ _)
          exact h9
        · rename_i y10 e11
          refine Within.step (t := y10) (Within.ofEq2 e11 ?_) fun h12 => ?_
          · exact (tokRequest_within _ _ _ _).sub rfl
          refine Within.trans ?_ (h2 _ _)
          refine Within.comp ?_ (tokServe_within _) rfl
          refine Within.comp ?_ (tokDrop_within _ _ _) rfl
          exact h12
        · rename_i y13 e14
          refine Within.step (t := y13) (Within.ofEq2 e14 ?_) fun h15 => ?_
          · exact (tokRequest_within _ _ _ _).sub rfl
          refine Within.trans ?_ (h2 _ _)
          exact h15

theorem joinAck_within (s : State) :
    Within [.regs, .amb, .x11] s (joinAck s) := by
  unfold joinAck
  split
  · rename_i y0 e1
    refine Within.step (t := y0) (Within.ofEq2 e1 ?_) fun h2 => ?_
    · exact (siteTake_within _ _).sub rfl
    exact Within.refl _ _
  · rename_i y3 e4
    refine Within.step (t := y3) (Within.ofEq2 e4 ?_) fun h5 => ?_
    · exact (siteTake_within _ _).sub rfl
    refine Within.ite ?_ ?_
    · exact h5
    · refine Within.ite ?_ ?_
      · extract_lets +onlyGivenNames -merge -underBinder j7 u6
        refine Within.step (t := u6) ?_ fun h8 => ?_
        · unfold u6
          refine Within.comp ?_ (setAmb_within _ _) rfl
          exact h5
        clear_value u6
        split
        · refine Within.comp ?_ (State.put_within _ _ _) rfl
          refine Within.comp ?_ (State.raise_within _ _) rfl
          exact h8
        · exact h8
      · refine Within.comp ?_ (setAmb_within _ _) rfl
        refine Within.comp ?_ (State.raise_within _ _) rfl
        exact h5

theorem ambReceive_within (rx : AmbRx) (s : State) :
    Within [.regs] s (ambReceive rx s).2 := by
  unfold ambReceive
  extract_lets +onlyGivenNames -merge -underBinder h0
  extract_lets +onlyGivenNames -merge -underBinder type1
  refine Within.ite2 ?_ ?_
  · exact Within.refl _ _
  · refine Within.ite2 ?_ ?_
    · exact (ambFail_within _).sub rfl
    · refine Within.ite2 ?_ ?_
      · exact Within.refl _ _
      · extract_lets +onlyGivenNames -merge -underBinder t2
        refine Within.step (t := t2) ?_ fun h3 => ?_
        · unfold t2
          refine Within.comp ?_ (State.put_within _ _ _) rfl
          exact (ambSnr_within _ _).sub rfl
        clear_value t2
        extract_lets +onlyGivenNames -merge -underBinder got4
        extract_lets +onlyGivenNames -merge -underBinder n5
        refine Within.ite2 ?_ ?_
        · refine Within.comp ?_ (ambFail_within _) rfl
          exact h3
        · extract_lets +onlyGivenNames -merge -underBinder u6
          refine Within.step (t := u6) ?_ fun h7 => ?_
          · unfold u6
            refine Within.comp ?_ (State.bumpReg_within _ _ _) rfl
            exact h3
          clear_value u6
          extract_lets +onlyGivenNames -merge -underBinder u8
          refine Within.step (t := u8) ?_ fun h9 => ?_
          · unfold u8
            refine Within.ite ?_ ?_
            · refine Within.comp ?_ (State.raise_within _ _) rfl
              refine Within.comp ?_ (State.bumpReg_within _ _ _) rfl
              exact h7
            · exact h7
          clear_value u8
          exact h9

theorem execJoinackReceive_answers (s : State) :
    Answers (execJoinackReceive s) (Within [.regs, .amb, .x11] s) := by
  unfold execJoinackReceive
  refine Answers.awake ?_
  refine Answers.next ?_
  exact (joinAck_within _).sub rfl

theorem respFrame_within (mod : Nat) (ms : List AmbMsg) (s : State) :
    Within [.regs, .tok, .out] s (respFrame mod ms s) := by
  unfold respFrame
  refine Within.comp ?_ (State.bumpReg_within _ _ _) rfl
  exact (ambSend_within _ _ _ _ _ _).sub rfl

theorem pollReceive_within (rx : AmbRx) (another : Bool) (s : State) :
    Within [.regs, .q, .amb, .x11] s (pollReceive rx another s) := by
  unfold pollReceive
  split
  · rename_i y0 e1
    refine Within.step (t := y0) (Within.ofEq2 e1 ?_) fun h2 => ?_
    · exact (ambReceive_within _ _).sub rfl
    exact h2
  · rename_i y3 e4
    refine Within.step (t := y3) (Within.ofEq2 e4 ?_) fun h5 => ?_
    · exact (ambReceive_within _ _).sub rfl
    refine Within.ite ?_ ?_
    · exact h5
    · refine Within.ite ?_ ?_
      · refine Within.comp ?_ (State.raise_within _ _) rfl
        exact h5
      · refine Within.ite ?_ ?_
        · exact h5
        · extract_lets +onlyGivenNames -merge -underBinder t6
          refine Within.step (t := t6) ?_ fun h7 => ?_
          · unfold t6
            refine Within.comp ?_ (State.put_within _ _ _) rfl
            exact h5
          clear_value t6
          split
          · refine Within.comp ?_ (setAmb_within _ _) rfl
            exact h7
          · extract_lets +onlyGivenNames -merge -underBinder p8
            refine Within.ite ?_ ?_
            · refine Within.comp ?_ (setAmb_within _ _) rfl
              exact h7
            · extract_lets +onlyGivenNames -merge -underBinder es9
              extract_lets +onlyGivenNames -merge -underBinder j11 t10
              refine Within.step (t := t10) ?_ fun h12 => ?_
              · unfold t10
                refine Within.comp ?_ (setAmb_within _ _) rfl
                exact h7
              clear_value t10
              extract_lets +onlyGivenNames -merge -underBinder t13
              refine Within.step (t := t13) ?_ fun h14 => ?_
              · unfold t13
                refine Within.trans ?_ (Within.foldl (fun v15 v16 => ?_) _)
                · exact h12
                · exact (toCore_within _ _ _).sub rfl
              clear_value t13
              extract_lets +onlyGivenNames -merge -underBinder t17
              refine Within.step (t := t17) ?_ fun h18 => ?_
              · unfold t17
                refine Within.trans ?_ (Within.foldl (fun v19 v20 => ?_) _)
                · exact h14
                · exact (dataReceive_within _ _).sub rfl
              clear_value t17
              split
              · refine Within.ite ?_ ?_
                · refine Within.comp ?_ (State.put_within _ _ _) rfl
                  refine Within.comp ?_ (State.raise_within _ _) rfl
                  exact h18
                · exact h18
              · exact h18

theorem execPollReceive_answers (rx : AmbRx) (another : Bool) (s : State) :
    Answers (execPollReceive rx another s) (Within [.regs, .q, .amb, .x11] s) := by
  unfold execPollReceive
  refine Answers.awake ?_
  refine Answers.next ?_
  exact (pollReceive_within _ _ _).sub rfl

theorem execBusyNodeSlow_answers (n : Nat) (s : State) :
    Answers (execBusyNodeSlow n s) (Within [.regs] s) := by
  unfold execBusyNodeSlow
  refine Answers.awake ?_
  refine Answers.next ?_
  refine Within.ite ?_ ?_
  · exact (State.raise_within _ _).sub rfl
  · exact Within.refl _ _

theorem bridgeSend_within (dst : Nat) (m : AmbMsg) (s : State) :
    Within [.regs, .q, .grpSeq, .eth] s (bridgeSend dst m s) := by
  unfold bridgeSend
  exact (groupSend_within _ _ _ _).sub rfl

theorem ambFrame_within (type : Nat) (mod : Nat) (cyc : Nat) (ms : List AmbMsg) (s : State) :
    Within [.regs, .tok, .out] s (ambFrame type mod cyc ms s) := by
  unfold ambFrame
  extract_lets +onlyGivenNames -merge -underBinder mpdu0
  exact (ambSend_within _ _ _ _ _ _).sub rfl

theorem slotStart_within (k : Nat) (s : State) :
    Within [.regs, .tok, .q, .amb, .out, .free] s (slotStart k s) := by
  unfold slotStart
  split
  · exact Within.refl _ _
  · refine Within.ite ?_ ?_
    · exact Within.refl _ _
    · refine Within.ite ?_ ?_
      · refine Within.ite ?_ ?_
        · exact Within.refl _ _
        · extract_lets +onlyGivenNames -merge -underBinder x0
          refine Within.step (t := x0.2) ?_ fun h1 => ?_
          · unfold x0
            refine Within.ite2 ?_ ?_
            · exact (State.fresh_within _).sub rfl
            · exact Within.refl _ _
          clear_value x0
          refine Within.ite ?_ ?_
          · extract_lets +onlyGivenNames -merge -underBinder join2
            refine Within.comp ?_ (respFrame_within _ _ _) rfl
            refine Within.comp ?_ (setAmb_within _ _) rfl
            exact h1
          · exact h1
      · refine Within.ite ?_ ?_
        · extract_lets +onlyGivenNames -merge -underBinder mod3
          extract_lets +onlyGivenNames -merge -underBinder all4
          extract_lets +onlyGivenNames -merge -underBinder fit5
          extract_lets +onlyGivenNames -merge -underBinder nOut6
          extract_lets +onlyGivenNames -merge -underBinder flags7
          extract_lets +onlyGivenNames -merge -underBinder status8
          extract_lets +onlyGivenNames -merge -underBinder j10 t9
          refine Within.step (t := t9) ?_ fun h11 => ?_
          · unfold t9
            refine Within.comp ?_ (setAmb_within _ _) rfl
            exact (dataTaken_within _ _).sub rfl
          clear_value t9
          extract_lets +onlyGivenNames -merge -underBinder t12
          refine Within.step (t := t12) ?_ fun h13 => ?_
          · unfold t12
            refine Within.comp ?_ (respFrame_within _ _ _) rfl
            exact h11
          clear_value t12
          refine Within.comp ?_ (State.putB_within _ _ _) rfl
          exact h13
        · exact Within.refl _ _

theorem bcastSend_within (s : State) :
    Within [.regs, .tok, .q, .out] s (bcastSend s) := by
  unfold bcastSend
  extract_lets +onlyGivenNames -merge -underBinder ms0
  refine Within.ite ?_ ?_
  · exact Within.refl _ _
  · refine Within.comp ?_ (ambFrame_within _ _ _ _ _) rfl
    exact (dataTaken_within _ _).sub rfl

theorem execRespSlotStart_answers (k : Nat) (s : State) :
    Answers (execRespSlotStart k s) (Within [.regs, .tok, .q, .amb, .out, .free] s) := by
  unfold execRespSlotStart
  refine Answers.awake ?_
  refine Answers.next ?_
  exact (slotStart_within _ _).sub rfl

theorem pollSend_within (joinDue : Bool) (ref : Nat) (s : State) :
    Within [.regs, .tok, .amb, .out] s (pollSend joinDue ref s) := by
  unfold pollSend
  extract_lets +onlyGivenNames -merge -underBinder es0
  refine Within.ite ?_ ?_
  · exact Within.refl _ _
  · extract_lets +onlyGivenNames -merge -underBinder entries1
    extract_lets +onlyGivenNames -merge -underBinder named2
    extract_lets +onlyGivenNames -merge -underBinder mod3
    extract_lets +onlyGivenNames -merge -underBinder poll4
    extract_lets +onlyGivenNames -merge -underBinder mine5
    extract_lets +onlyGivenNames -merge -underBinder fit6
    extract_lets +onlyGivenNames -merge -underBinder nAck7
    extract_lets +onlyGivenNames -merge -underBinder sent8
    extract_lets +onlyGivenNames -merge -underBinder t9
    refine Within.step (t := t9) ?_ fun h10 => ?_
    · unfold t9
      exact (ambFrame_within _ _ _ _ _).sub rfl
    clear_value t9
    extract_lets +onlyGivenNames -merge -underBinder tm11
    extract_lets +onlyGivenNames -merge -underBinder busy12
    extract_lets +onlyGivenNames -merge -underBinder idle13
    extract_lets +onlyGivenNames -merge -underBinder j15 a14
    refine Within.comp ?_ (State.raise_within _ _) rfl
    refine Within.comp ?_ (setAmb_within _ _) rfl
    refine Within.comp ?_ (State.put_within _ _ _) rfl
    refine Within.comp ?_ (State.bumpReg_within _ _ _) rfl
    exact h10

theorem ameneReceive_within (rx : AmbRx) (s : State) :
    Within [.regs, .q] s (ameneReceive rx s) := by
  unfold ameneReceive
  split
  · rename_i y0 e1
    refine Within.step (t := y0) (Within.ofEq2 e1 ?_) fun h2 => ?_
    · exact (ambReceive_within _ _).sub rfl
    refine Within.trans ?_ (Within.foldl (fun v3 v4 => ?_) _)
    · exact h2
    · exact (dataReceive_within _ _).sub rfl
  · rename_i y5 y6 e7
    refine Within.step (t := y5) (Within.ofEq2 e7 ?_) fun h8 => ?_
    · exact (ambReceive_within _ _).sub rfl
    exact h8

theorem execPollSend_answers (joinDue : Bool) (ref : Nat) (s : State) :
    Answers (execPollSend joinDue ref s) (Within [.regs, .tok, .q, .amb, .out] s) := by
  unfold execPollSend
  refine Answers.awake ?_
  refine Answers.next ?_
  refine Within.ite ?_ ?_
  · refine Within.comp ?_ (pollSend_within _ _ _) rfl
    exact (bcastSend_within _).sub rfl
  · exact Within.refl _ _

theorem masterRoute_within (via : SiteVia) (dst : Nat) (m : AmbMsg) (s : State) :
    Within [.regs, .q, .grpSeq, .amb, .eth, .x11] s (masterRoute via dst m s) := by
  unfold masterRoute
  refine Within.ite ?_ ?_
  · refine Within.ite ?_ ?_
    · exact (dataReceive_within _ _).sub rfl
    · exact (toCore_within _ _ _).sub rfl
  · split
    · refine Within.ite ?_ ?_
      · exact (enqueue_within _ _ _).sub rfl
      · extract_lets +onlyGivenNames -merge -underBinder j1 t0
        refine Within.step (t := t0) ?_ fun h2 => ?_
        · unfold t0
          exact (setAmb_within _ _).sub rfl
        clear_value t0
        refine Within.ite ?_ ?_
        · refine Within.comp ?_ (setAmb_within _ _) rfl
          exact h2
        · exact h2
    · exact (bridgeSend_within _ _ _).sub rfl

theorem masterRel_within (grp : Nat) (s : State) :
    Within [.regs, .q, .grpSeq, .amb, .eth, .x11] s (masterRel grp s) := by
  unfold masterRel
  extract_lets +onlyGivenNames -merge -underBinder rnum0
  extract_lets +onlyGivenNames -merge -underBinder j2 t1
  refine Within.step (t := t1) ?_ fun h3 => ?_
  · unfold t1
    exact (setAmb_within _ _).sub rfl
  clear_value t1
  refine Within.comp ?_ (masterRoute_within _ _ _ _) rfl
  exact h3

theorem phaseTake_within (n : Nat) (ts : Nat) (s : State) :
    Within [.regs, .q, .grpSeq, .amb, .eth, .x11] s (phaseTake n ts s) := by
  unfold phaseTake
  extract_lets +onlyGivenNames -merge -underBinder t0
  refine Within.step (t := t0) ?_ fun h1 => ?_
  · unfold t0
    exact (State.put_within _ _ _).sub rfl
  clear_value t0
  split
  · exact h1
  · extract_lets +onlyGivenNames -merge -underBinder h2
    extract_lets +onlyGivenNames -merge -underBinder old3
    extract_lets +onlyGivenNames -merge -underBinder new4
    extract_lets +onlyGivenNames -merge -underBinder j6 t5
    refine Within.step (t := t5) ?_ fun h7 => ?_
    · unfold t5
      refine Within.comp ?_ (State.put_within _ _ _) rfl
      refine Within.comp ?_ (setAmb_within _ _) rfl
      exact h1
    clear_value t5
    refine Within.ite ?_ ?_
    · exact h7
    · extract_lets +onlyGivenNames -merge -underBinder u8
      refine Within.step (t := u8) ?_ fun h9 => ?_
      · unfold u8
        refine Within.trans ?_ (Within.when (fun v10 => ?_) _)
        · exact h7
        · exact (State.raise_within _ _).sub rfl
      clear_value u8
      refine Within.comp ?_ (masterRoute_within _ _ _ _) rfl
      exact h9

theorem execAmeneFrameReceive_answers (rx : AmbRx) (s : State) :
    Answers (execAmeneFrameReceive rx s) (Within [.regs, .q] s) := by
  unfold execAmeneFrameReceive
  refine Answers.awake ?_
  refine Answers.next ?_
  exact (ameneReceive_within _ _).sub rfl

theorem masterMessage_within (node : Nat) (s : State) (m : AmbMsg) :
    Within [.regs, .q, .grpSeq, .amb, .eth, .x11] s (masterMessage node s m) := by
  unfold masterMessage
  extract_lets +onlyGivenNames -merge -underBinder site0
  extract_lets +onlyGivenNames -merge -underBinder post1
  refine Within.ite ?_ ?_
  · refine Within.comp ?_ (masterRoute_within _ _ _ _) rfl
    exact (setAmb_within _ _).sub rfl
  · refine Within.ite ?_ ?_
    · refine Within.comp ?_ (masterRoute_within _ _ _ _) rfl
      exact (setAmb_within _ _).sub rfl
    · refine Within.ite ?_ ?_
      · exact (masterRoute_within _ _ _ _).sub rfl
      · refine Within.ite ?_ ?_
        · refine Within.ite ?_ ?_
          · exact (masterRoute_within _ _ _ _).sub rfl
          · exact Within.refl _ _
        · refine Within.ite ?_ ?_
          · exact (masterRoute_within _ _ _ _).sub rfl
          · refine Within.ite ?_ ?_
            · exact (State.putB_within _ _ _).sub rfl
            · exact Within.refl _ _

theorem joinDecide_within (m : AmbMsg) (s : State) :
    Within [.regs, .q, .grpSeq, .amb, .eth, .x11] s (joinDecide m s) := by
  unfold joinDecide
  extract_lets +onlyGivenNames -merge -underBinder grp0
  extract_lets +onlyGivenNames -merge -underBinder node1
  extract_lets +onlyGivenNames -merge -underBinder accept2
  have h3 : ∀ v4, Within [.regs, .q, .grpSeq, .amb, .eth, .x11] v4 (accept2 v4) := by
    intro v4
    unfold accept2
    extract_lets +onlyGivenNames -merge -underBinder u5
    refine Within.step (t := u5) ?_ fun h6 => ?_
    · unfold u5
      refine Within.comp ?_ (State.put_within _ _ _) rfl
      refine Within.comp ?_ (State.put_within _ _ _) rfl
      exact (nodeClear_within _ _).sub rfl
    clear_value u5
    refine Within.comp ?_ (ackPut_within _ _ _ _) rfl
    refine Within.comp ?_ (State.raise_within _ _) rfl
    refine Within.comp ?_ (nodesShow_within _) rfl
    exact h6
  clear_value accept2
  refine Within.ite ?_ ?_
  · exact Within.refl _ _
  · split
    · refine Within.trans ?_ (h3 _)
      refine Within.comp ?_ (nodeClear_within _ _) rfl
      refine Within.ite ?_ ?_
      · exact (masterRel_within _ _).sub rfl
      · exact Within.refl _ _
    · refine Within.ite ?_ ?_
      · exact (ackPut_within _ _ _ _).sub rfl
      · refine Within.trans ?_ (h3 _)
        exact Within.refl _ _

theorem slotFail_within (k : Nat) (s : State) :
    Within [.regs, .q, .grpSeq, .amb, .eth, .x11] s (slotFail k s) := by
  unfold slotFail
  extract_lets +onlyGivenNames -merge -underBinder j1 t0
  refine Within.step (t := t0) ?_ fun h2 => ?_
  · unfold t0
    exact (setAmb_within _ _).sub rfl
  clear_value t0
  split
  · exact Within.refl _ _
  · refine Within.ite ?_ ?_
    · exact h2
    · extract_lets +onlyGivenNames -merge -underBinder c3
      extract_lets +onlyGivenNames -merge -underBinder j5 t4
      refine Within.step (t := t4) ?_ fun h6 => ?_
      · unfold t4
        refine Within.comp ?_ (setAmb_within _ _) rfl
        exact h2
      clear_value t4
      extract_lets +onlyGivenNames -merge -underBinder t7
      refine Within.step (t := t7) ?_ fun h8 => ?_
      · unfold t7
        refine Within.comp ?_ (State.put_within _ _ _) rfl
        refine Within.comp ?_ (State.put_within _ _ _) rfl
        exact h6
      clear_value t7
      refine Within.ite ?_ ?_
      · extract_lets +onlyGivenNames -merge -underBinder u9
        refine Within.step (t := u9) ?_ fun h10 => ?_
        · unfold u9
          refine Within.comp ?_ (nodesShow_within _) rfl
          refine Within.comp ?_ (State.raise_within _ _) rfl
          refine Within.comp ?_ (State.put_within _ _ _) rfl
          exact h8
        clear_value u9
        refine Within.comp ?_ (masterRel_within _ _) rfl
        refine Within.comp ?_ (setAmb_within _ _) rfl
        exact h10
      · exact h8

theorem respReceive_within (k : Nat) (rx : AmbRx) (s : State) :
    Within [.regs, .q, .grpSeq, .amb, .eth, .x11] s (respReceive k rx s) := by
  unfold respReceive
  refine Within.ite ?_ ?_
  · exact Within.refl _ _
  · split
    · rename_i y0 e1
      refine Within.step (t := y0) (Within.ofEq2 e1 ?_) fun h2 => ?_
      · exact (ambReceive_within _ _).sub rfl
      refine Within.comp ?_ (slotFail_within _ _) rfl
      exact h2
    · rename_i y3 e4
      refine Within.step (t := y3) (Within.ofEq2 e4 ?_) fun h5 => ?_
      · exact (ambReceive_within _ _).sub rfl
      split
      · extract_lets +onlyGivenNames -merge -underBinder phase6
        refine Within.ite ?_ ?_
        · refine Within.comp ?_ (slotFail_within _ _) rfl
          exact h5
        · extract_lets +onlyGivenNames -merge -underBinder j8 t7
          refine Within.step (t := t7) ?_ fun h9 => ?_
          · unfold t7
            refine Within.comp ?_ (setAmb_within _ _) rfl
            exact h5
          clear_value t7
          refine Within.ite ?_ ?_
          · refine Within.trans ?_ (Within.foldl (fun v10 v11 => ?_) _)
            · exact h9
            · exact (joinDecide_within _ _).sub rfl
          · extract_lets +onlyGivenNames -merge -underBinder sum12
            extract_lets +onlyGivenNames -merge -underBinder j14 t13
            refine Within.step (t := t13) ?_ fun h15 => ?_
            · unfold t13
              refine Within.comp ?_ (State.put_within _ _ _) rfl
              refine Within.comp ?_ (setAmb_within _ _) rfl
              exact h9
            clear_value t13
            extract_lets +onlyGivenNames -merge -underBinder t16
            refine Within.step (t := t16) ?_ fun h17 => ?_
            · unfold t16
              refine Within.comp ?_ (State.put_within _ _ _) rfl
              refine Within.comp ?_ (State.put_within _ _ _) rfl
              exact h15
            clear_value t16
            extract_lets +onlyGivenNames -merge -underBinder t18
            refine Within.step (t := t18) ?_ fun h19 => ?_
            · unfold t18
              refine Within.comp ?_ (phaseTake_within _ _ _) rfl
              refine Within.comp ?_ (State.put_within _ _ _) rfl
              exact h17
            clear_value t18
            refine Within.trans ?_ (Within.foldl (fun v20 v21 => ?_) _)
            · exact h19
            · exact (masterMessage_within _ _ _).sub rfl
      · refine Within.comp ?_ (slotFail_within _ _) rfl
        exact h5

theorem execSlotFail_answers (k : Nat) (s : State) :
    Answers (execSlotFail k s) (Within [.regs, .q, .grpSeq, .amb, .eth, .x11] s) := by
  unfold execSlotFail
  refine Answers.awake ?_
  refine Answers.next ?_
  refine Within.ite ?_ ?_
  · exact (slotFail_within _ _).sub rfl
  · exact Within.refl _ _

theorem execRespReceive_answers (k : Nat) (rx : AmbRx) (s : State) :
    Answers (execRespReceive k rx s) (Within [.regs, .q, .grpSeq, .amb, .eth, .x11] s) := by
  unfold execRespReceive
  refine Answers.awake ?_
  refine Answers.next ?_
  exact (respReceive_within _ _ _).sub rfl

theorem markSec_within (sec : Nat) (bits : Nat) (s : State) :
    Within [.bil] s (markSec sec bits s) := by
  unfold markSec
  refine Within.comp ?_ (Within.upd_bil _ _) rfl
  exact Within.refl _ _

theorem logs_within (s : State) (i : Nat) (x : LogStore) (h : s.Inv → i < 5 → x.entries.length ≤ logCapacity i) :
    Within [.logs] s { s with logs := setNth s.logs i x } := by
  refine ⟨fun v => ⟨v.regs, v.params, v.cells, v.xings, v.tok, ⟨by simpa [setNth] using v.logs.count, fun j hj => ?_⟩, v.queues⟩,
    fun p hp => by cases p <;> first | rfl | exact absurd (by simp) hp⟩
  have hl : j < s.logs.length := by rw [v.logs.count]; exact hj
  simp only [setNth, nth, List.getD_eq_getElem?_getD, List.getElem?_set]
  by_cases e : i = j
  · subst e; simpa [hl] using h v hj
  · simpa [e, nth, List.getD_eq_getElem?_getD] using v.logs.room j hj

theorem logPut_within (time code src : Nat) (data : Int) (status : Nat) (s : State) : Within [.logs] s (logPut time code src data status s) := by
  unfold logPut
  extract_lets +onlyGivenNames i l
  refine Within.ite (Within.refl _ _) ?_
  extract_lets +onlyGivenNames e
  exact (logs_within s _ _ fun _ _ => by simp <;> omega)

theorem logAt_within (time : Nat) (code : Nat) (src : Nat) (data : Int) (s : State) :
    Within [.logs] s (logAt time code src data s) := by
  unfold logAt
  exact (logPut_within _ _ _ _ _ _).sub rfl

theorem logWrite_within (code : Nat) (src : Nat) (data : Int) (s : State) :
    Within [.logs] s (logWrite code src data s) := by
  unfold logWrite
  exact (logAt_within _ _ _ _ _).sub rfl

theorem faultsShow_within (s : State) :
    Within [.regs] s (faultsShow s) := by
  unfold faultsShow
  refine Within.trans ?_ (Within.upTo (fun v0 v1 => ?_) _)
  · exact Within.refl _ _
  · exact (State.put_within _ _ _).sub rfl

theorem faultNote_within (cls : Nat) (i : Island) (cause : Nat) (s : State) :
    Within [.regs, .logs] s (faultNote cls i cause s) := by
  unfold faultNote
  extract_lets +onlyGivenNames -merge -underBinder t0
  refine Within.step (t := t0) ?_ fun h1 => ?_
  · unfold t0
    refine Within.comp ?_ (State.raise_within _ _) rfl
    refine Within.comp ?_ (State.put_within _ _ _) rfl
    refine Within.comp ?_ (State.put_within _ _ _) rfl
    exact (State.put_within _ _ _).sub rfl
  clear_value t0
  refine Within.ite ?_ ?_
  · refine Within.comp ?_ (logWrite_within _ _ _ _) rfl
    exact h1
  · exact h1

theorem faultOther_within (cls : Nat) (i : Island) (s : State) :
    Within [.regs, .logs, .free] s (faultOther cls i s) := by
  unfold faultOther
  split
  · rename_i y0 e1
    refine Within.step (t := y0) (Within.ofEq2 e1 ?_) fun h2 => ?_
    · exact (State.fresh_within _).sub rfl
    refine Within.comp ?_ (faultNote_within _ _ _ _) rfl
    exact h2

theorem execTrimStore_answers (s : State) :
    Answers (execTrimStore s) (Within [.afe] s) := by
  unfold execTrimStore
  refine Answers.next ?_
  refine Within.comp ?_ (Within.upd_afe _ _) rfl
  exact Within.refl _ _

theorem setConv_within (c : Nat) (st : Nat) (role : Nat) (s : State) :
    Within [.regs] s (setConv c st role s) := by
  unfold setConv
  refine Within.comp ?_ (State.put_within _ _ _) rfl
  exact (State.put_within _ _ _).sub rfl

theorem giveRole_within (r : Nat) (c : Nat) (s : State) :
    Within [.regs, .afe] s (giveRole r c s) := by
  unfold giveRole
  extract_lets +onlyGivenNames -merge -underBinder t0
  refine Within.step (t := t0) ?_ fun h1 => ?_
  · unfold t0
    refine Within.comp ?_ (setConv_within _ _ _ _) rfl
    exact (State.put_within _ _ _).sub rfl
  clear_value t0
  refine Within.comp ?_ (Within.upd_afe _ _) rfl
  exact h1

theorem healRole_within (r : Nat) (s : State) :
    Within [.afe, .free] s (healRole r s) := by
  unfold healRole
  split
  · rename_i y0 e1
    refine Within.step (t := y0) (Within.ofEq2 e1 ?_) fun h2 => ?_
    · exact (State.fresh_within _).sub rfl
    refine Within.comp ?_ (Within.upd_afe _ _) rfl
    exact h2

theorem showLanes_within (s : State) :
    Within [.regs] s (showLanes s) := by
  unfold showLanes
  exact (State.put_within _ _ _).sub rfl

theorem showStep_within (s : State) :
    Within [.regs] s (showStep s) := by
  unfold showStep
  split
  · refine Within.comp ?_ (State.put_within _ _ _) rfl
    refine Within.comp ?_ (State.put_within _ _ _) rfl
    exact (State.put_within _ _ _).sub rfl
  · refine Within.ite ?_ ?_
    · exact (State.put_within _ _ _).sub rfl
    · refine Within.comp ?_ (State.lower_within _ _) rfl
      exact (State.put_within _ _ _).sub rfl
  · exact (State.put_within _ _ _).sub rfl

theorem showSpares_within (s : State) :
    Within [.regs] s (showSpares s) := by
  unfold showSpares
  exact (State.put_within _ _ _).sub rfl

theorem nextStep_within (retry : Bool) (s : State) :
    Within [.regs, .afe] s (nextStep retry s) := by
  unfold nextStep
  extract_lets +onlyGivenNames -merge -underBinder again0
  extract_lets +onlyGivenNames -merge -underBinder rest1
  extract_lets +onlyGivenNames -merge -underBinder j3 t2
  refine Within.step (t := t2) ?_ fun h4 => ?_
  · unfold t2
    refine Within.comp ?_ (Within.upd_afe _ _) rfl
    exact Within.refl _ _
  clear_value t2
  refine Within.comp ?_ (showStep_within _) rfl
  refine Within.comp ?_ (showSpares_within _) rfl
  refine Within.ite ?_ ?_
  · extract_lets +onlyGivenNames -merge -underBinder u5
    refine Within.step (t := u5) ?_ fun h6 => ?_
    · unfold u5
      refine Within.comp ?_ (State.bump_within _ _ _) rfl
      exact h4
    clear_value u5
    refine Within.comp ?_ (Within.upd_afe _ _) rfl
    exact h6
  · exact h4

theorem matchEnd_within (s : State) (w : MatchWin) (again : MatchWin) :
    Within [.regs] s (matchEnd s w again).2 := by
  unfold matchEnd
  refine Within.ite2 ?_ ?_
  · exact Within.refl _ _
  · refine Within.ite2 ?_ ?_
    · exact Within.refl _ _
    · extract_lets +onlyGivenNames -merge -underBinder t0
      refine Within.step (t := t0) ?_ fun h1 => ?_
      · unfold t0
        exact (State.raise_within _ _).sub rfl
      clear_value t0
      refine Within.ite2 ?_ ?_
      · exact h1
      · refine Within.ite2 ?_ ?_
        · exact h1
        · exact h1

theorem roleFault_within (r : Nat) (s : State) :
    Within [.regs] s (roleFault r s) := by
  unfold roleFault
  refine Within.comp ?_ (State.raise_within _ _) rfl
  exact (State.raise_within _ _).sub rfl

theorem abandonStep_within (beat : Nat) (s : State) :
    Within [.regs, .afe] s (abandonStep beat s) := by
  unfold abandonStep
  split
  · exact Within.refl _ _
  · extract_lets +onlyGivenNames -merge -underBinder sp0
    refine Within.ite ?_ ?_
    · refine Within.comp ?_ (nextStep_within _ _) rfl
      refine Within.ite ?_ ?_
      · refine Within.comp ?_ (setConv_within _ _ _ _) rfl
        exact (State.put_within _ _ _).sub rfl
      · exact Within.refl _ _
    · exact Within.refl _ _

theorem setTrim_within (c : Nat) (t : Trim) (s : State) :
    Within [.regs, .afe] s (setTrim c t s) := by
  unfold setTrim
  extract_lets +onlyGivenNames -merge -underBinder u0
  refine Within.step (t := u0) ?_ fun h1 => ?_
  · unfold u0
    refine Within.comp ?_ (State.setRegI_within _ _ _) rfl
    exact (State.setRegI_within _ _ _).sub rfl
  clear_value u0
  refine Within.comp ?_ (Within.upd_afe _ _) rfl
  exact h1

theorem laneFault_within (k : Nat) (s : State) :
    Within [.regs, .afe] s (laneFault k s) := by
  unfold laneFault
  extract_lets +onlyGivenNames -merge -underBinder l0
  extract_lets +onlyGivenNames -merge -underBinder t1
  refine Within.step (t := t1) ?_ fun h2 => ?_
  · unfold t1
    refine Within.comp ?_ (State.raise_within _ _) rfl
    exact (State.putBit_within _ _ _ _).sub rfl
  clear_value t1
  extract_lets +onlyGivenNames -merge -underBinder j4 u3
  refine Within.step (t := u3) ?_ fun h5 => ?_
  · unfold u3
    refine Within.ite ?_ ?_
    · refine Within.comp ?_ (Within.upd_afe _ _) rfl
      exact h2
    · exact h2
  clear_value u3
  refine Within.comp ?_ (showLanes_within _) rfl
  exact h5

theorem convOut_within (c : Nat) (st : Nat) (s : State) :
    Within [.regs, .logs, .free] s (convOut c st s) := by
  unfold convOut
  refine Within.comp ?_ (setConv_within _ _ _ _) rfl
  refine Within.comp ?_ (faultOther_within _ _ _) rfl
  exact (State.raise_within _ _).sub rfl

theorem matchFault_within (r : Nat) (c : Nat) (sp : Nat) (cBad : Bool) (spBad : Bool) (s : State) :
    Within [.regs, .afe, .logs, .free] s (matchFault r c sp cBad spBad s) := by
  unfold matchFault
  split
  · refine Within.comp ?_ (giveRole_within _ _ _) rfl
    exact (convOut_within _ _ _).sub rfl
  · refine Within.comp ?_ (giveRole_within _ _ _) rfl
    exact (convOut_within _ _ _).sub rfl
  · refine Within.comp ?_ (roleFault_within _ _) rfl
    refine Within.comp ?_ (setConv_within _ _ _ _) rfl
    exact (giveRole_within _ _ _).sub rfl
  · extract_lets +onlyGivenNames -merge -underBinder t0
    refine Within.step (t := t0) ?_ fun h1 => ?_
    · unfold t0
      refine Within.comp ?_ (convOut_within _ _ _) rfl
      exact (convOut_within _ _ _).sub rfl
    clear_value t0
    split
    · refine Within.comp ?_ (giveRole_within _ _ _) rfl
      exact h1
    · refine Within.comp ?_ (roleFault_within _ _) rfl
      exact h1

theorem laneMove_within (l : Nat) (s : State) :
    Within [.regs, .afe, .logs, .free] s (laneMove l s) := by
  unfold laneMove
  refine Within.ite ?_ ?_
  · split
    · exact Within.refl _ _
    · extract_lets +onlyGivenNames -merge -underBinder t0
      refine Within.step (t := t0) ?_ fun h1 => ?_
      · unfold t0
        refine Within.comp ?_ (faultOther_within _ _ _) rfl
        exact (State.put_within _ _ _).sub rfl
      clear_value t0
      refine Within.comp ?_ (showLanes_within _) rfl
      refine Within.comp ?_ (Within.upd_afe _ _) rfl
      exact h1
  · exact Within.refl _ _

theorem refCheck_within (c : Nat) (first : RefRun) (again : RefRun) (s : State) :
    Within [.regs, .afe] s (refCheck c first again s).2 := by
  unfold refCheck
  extract_lets +onlyGivenNames -merge -underBinder a0
  extract_lets +onlyGivenNames -merge -underBinder b1
  extract_lets +onlyGivenNames -merge -underBinder old2
  extract_lets +onlyGivenNames -merge -underBinder small3
  extract_lets +onlyGivenNames -merge -underBinder t4
  refine Within.step (t := t4) ?_ fun h5 => ?_
  · unfold t4
    refine Within.ite ?_ ?_
    · exact Within.refl _ _
    · exact (State.raise_within _ _).sub rfl
  clear_value t4
  extract_lets +onlyGivenNames -merge -underBinder agree6
  extract_lets +onlyGivenNames -merge -underBinder res7
  extract_lets +onlyGivenNames -merge -underBinder u8
  refine Within.step (t := u8) ?_ fun h9 => ?_
  · unfold u8
    refine Within.ite ?_ ?_
    · refine Within.comp ?_ (State.bump_within _ _ _) rfl
      refine Within.comp ?_ (State.raise_within _ _) rfl
      exact h5
    · exact h5
  clear_value u8
  refine Within.ite2 ?_ ?_
  · refine Within.comp ?_ (State.bump_within _ _ _) rfl
    refine Within.comp ?_ (setTrim_within _ _ _) rfl
    exact h9
  · exact h9

theorem otherSpare_within (sp : Nat) (m : RotMeas) (s : State) :
    Within [.regs, .afe, .logs, .free] s (otherSpare sp m s) := by
  unfold otherSpare
  split
  · exact Within.refl _ _
  · split
    · rename_i y0 e1
      refine Within.step (t := y0) (Within.ofEq2 e1 ?_) fun h2 => ?_
      · exact (refCheck_within _ _ _ _).sub rfl
      refine Within.ite ?_ ?_
      · exact h2
      · refine Within.comp ?_ (convOut_within _ _ _) rfl
        exact h2

theorem convFail_within (c : Nat) (beat : Nat) (s : State) :
    Within [.regs, .afe, .logs, .free] s (convFail c beat s) := by
  unfold convFail
  extract_lets +onlyGivenNames -merge -underBinder r0
  extract_lets +onlyGivenNames -merge -underBinder sp1
  extract_lets +onlyGivenNames -merge -underBinder inside2
  extract_lets +onlyGivenNames -merge -underBinder under3
  refine Within.comp ?_ (showSpares_within _) rfl
  refine Within.ite ?_ ?_
  · refine Within.comp ?_ (nextStep_within _ _) rfl
    refine Within.comp ?_ (healRole_within _ _) rfl
    refine Within.comp ?_ (convOut_within _ _ _) rfl
    exact (giveRole_within _ _ _).sub rfl
  · refine Within.ite ?_ ?_
    · refine Within.comp ?_ (nextStep_within _ _) rfl
      refine Within.comp ?_ (giveRole_within _ _ _) rfl
      exact (convOut_within _ _ _).sub rfl
    · split
      · extract_lets +onlyGivenNames -merge -underBinder t4
        refine Within.step (t := t4) ?_ fun h5 => ?_
        · unfold t4
          exact (convOut_within _ _ _).sub rfl
        clear_value t4
        split
        · refine Within.comp ?_ (showStep_within _) rfl
          refine Within.comp ?_ (healRole_within _ _) rfl
          refine Within.comp ?_ (giveRole_within _ _ _) rfl
          exact h5
        · refine Within.comp ?_ (roleFault_within _ _) rfl
          exact h5
      · refine Within.ite ?_ ?_
        · refine Within.comp ?_ (showStep_within _) rfl
          exact (convOut_within _ _ _).sub rfl
        · exact Within.refl _ _

theorem execStuckStreamDetect_answers (n : Nat) (beat : Nat) (s : State) :
    Answers (execStuckStreamDetect n beat s) (Within [.regs, .afe, .logs, .free] s) := by
  unfold execStuckStreamDetect
  refine Answers.awake ?_
  refine Answers.next ?_
  split
  · refine Within.ite ?_ ?_
    · refine Within.comp ?_ (State.raise_within _ _) rfl
      exact (State.putBit_within _ _ _ _).sub rfl
    · exact Within.refl _ _
  · refine Within.ite ?_ ?_
    · refine Within.comp ?_ (convFail_within _ _ _) rfl
      exact (State.raise_within _ _).sub rfl
    · exact Within.refl _ _

theorem stepRole_within (r : Nat) (c : Nat) (sp : Nat) (m : RotMeas) (s : State) :
    Within [.regs, .afe, .logs, .free] s (stepRole r c sp m s) := by
  unfold stepRole
  extract_lets +onlyGivenNames -merge -underBinder cBad0
  extract_lets +onlyGivenNames -merge -underBinder spBad1
  split
  · rename_i y2 e3
    refine Within.step (t := y2) (Within.ofEq2 e3 ?_) fun h4 => ?_
    · exact (matchEnd_within _ _ _).sub rfl
    refine Within.comp ?_ (nextStep_within _ _) rfl
    exact h4
  · rename_i y5 e6
    refine Within.step (t := y5) (Within.ofEq2 e6 ?_) fun h7 => ?_
    · exact (matchEnd_within _ _ _).sub rfl
    refine Within.comp ?_ (nextStep_within _ _) rfl
    refine Within.comp ?_ (otherSpare_within _ _ _) rfl
    refine Within.comp ?_ (matchFault_within _ _ _ _ _ _) rfl
    exact h7
  · rename_i y8 e9
    refine Within.step (t := y8) (Within.ofEq2 e9 ?_) fun h10 => ?_
    · exact (matchEnd_within _ _ _).sub rfl
    extract_lets +onlyGivenNames -merge -underBinder t11
    refine Within.step (t := t11) ?_ fun h12 => ?_
    · unfold t11
      refine Within.comp ?_ (otherSpare_within _ _ _) rfl
      refine Within.comp ?_ (setConv_within _ _ _ _) rfl
      refine Within.comp ?_ (State.put_within _ _ _) rfl
      exact h10
    clear_value t11
    split
    · rename_i y13 e14
      refine Within.step (t := y13) (Within.ofEq2 e14 ?_) fun h15 => ?_
      · refine Within.comp ?_ (refCheck_within _ _ _ _) rfl
        exact h12
      refine Within.comp ?_ (nextStep_within _ _) rfl
      refine Within.comp ?_ (giveRole_within _ _ _) rfl
      refine Within.comp ?_ (convOut_within _ _ _) rfl
      exact h15
    · rename_i y16 e17
      refine Within.step (t := y16) (Within.ofEq2 e17 ?_) fun h18 => ?_
      · refine Within.comp ?_ (refCheck_within _ _ _ _) rfl
        exact h12
      extract_lets +onlyGivenNames -merge -underBinder u19
      refine Within.step (t := u19) ?_ fun h20 => ?_
      · unfold u19
        refine Within.comp ?_ (State.lower_within _ _) rfl
        exact h18
      clear_value u19
      split
      · rename_i y21 e22
        refine Within.step (t := y21) (Within.ofEq2 e22 ?_) fun h23 => ?_
        · refine Within.comp ?_ (matchEnd_within _ _ _) rfl
          exact h20
        refine Within.comp ?_ (nextStep_within _ _) rfl
        exact h23
      · rename_i y24 e25
        refine Within.step (t := y24) (Within.ofEq2 e25 ?_) fun h26 => ?_
        · refine Within.comp ?_ (matchEnd_within _ _ _) rfl
          exact h20
        refine Within.comp ?_ (nextStep_within _ _) rfl
        refine Within.comp ?_ (matchFault_within _ _ _ _ _ _) rfl
        exact h26
      · rename_i y27 e28
        refine Within.step (t := y27) (Within.ofEq2 e28 ?_) fun h29 => ?_
        · refine Within.comp ?_ (matchEnd_within _ _ _) rfl
          exact h20
        refine Within.comp ?_ (nextStep_within _ _) rfl
        refine Within.comp ?_ (setConv_within _ _ _ _) rfl
        refine Within.comp ?_ (setConv_within _ _ _ _) rfl
        refine Within.comp ?_ (State.put_within _ _ _) rfl
        exact h29

theorem rotationStep_within (m : RotMeas) (s : State) :
    Within [.regs, .afe, .logs, .free] s (rotationStep m s) := by
  unfold rotationStep
  split
  · exact Within.refl _ _
  · refine Within.ite ?_ ?_
    · split
      · exact (nextStep_within _ _).sub rfl
      · split
        · rename_i y0 e1
          refine Within.step (t := y0) (Within.ofEq2 e1 ?_) fun h2 => ?_
          · exact (refCheck_within _ _ _ _).sub rfl
          refine Within.comp ?_ (nextStep_within _ _) rfl
          refine Within.ite ?_ ?_
          · exact h2
          · refine Within.comp ?_ (convOut_within _ _ _) rfl
            exact h2
    · extract_lets +onlyGivenNames -merge -underBinder c3
      extract_lets +onlyGivenNames -merge -underBinder carrier4
      refine Within.ite ?_ ?_
      · exact (stepRole_within _ _ _ _ _).sub rfl
      · split
        · exact (stepRole_within _ _ _ _ _).sub rfl
        · exact (nextStep_within _ _).sub rfl

theorem execRotationStep_answers (m : RotMeas) (s : State) :
    Answers (execRotationStep m s) (Within [.regs, .afe, .logs, .free] s) := by
  unfold execRotationStep
  refine Answers.awake ?_
  refine Answers.next ?_
  refine Within.ite ?_ ?_
  · exact (rotationStep_within _ _).sub rfl
  · exact Within.refl _ _

theorem setRail_within (s : State) (e : Nat) (r : Rail) :
    Within [.pts] s (setRail s e r) := by
  unfold setRail
  refine Within.ite ?_ ?_
  · refine Within.comp ?_ (Within.upd_pts _ _) rfl
    exact Within.refl _ _
  · refine Within.comp ?_ (Within.upd_pts _ _) rfl
    exact Within.refl _ _

theorem ptsShow_within (s : State) :
    Within [.regs] s (ptsShow s) := by
  unfold ptsShow
  refine Within.ite ?_ ?_
  · split
    · exact (State.put_within _ _ _).sub rfl
    · extract_lets +onlyGivenNames -merge -underBinder o0
      refine Within.comp ?_ (State.put_within _ _ _) rfl
      exact (State.put_within _ _ _).sub rfl
  · exact Within.refl _ _

theorem ageRoles_within (s : State) :
    Within [.regs] s (ageRoles s) := by
  unfold ageRoles
  refine Within.ite ?_ ?_
  · refine Within.trans ?_ (Within.upTo (fun v0 v1 => ?_) _)
    · exact Within.refl _ _
    · exact (State.bump_within _ _ _).sub rfl
  · exact Within.refl _ _

theorem modRail_within (e : Nat) (f : Rail → Rail) (s : State) :
    Within [.pts] s (modRail e f s) := by
  unfold modRail
  exact (setRail_within _ _ _).sub rfl

theorem railBlock_within (blk : Nat) (raws : List (List Int)) (dev : List Int) (e : Nat) (s : State) :
    Within [.pts] s (railBlock blk raws dev e s) := by
  unfold railBlock
  refine Within.ite ?_ ?_
  · extract_lets +onlyGivenNames -merge -underBinder r0
    split
    · extract_lets +onlyGivenNames -merge -underBinder rcd1
      extract_lets +onlyGivenNames -merge -underBinder eng2
      extract_lets +onlyGivenNames -merge -underBinder ring3
      extract_lets +onlyGivenNames -merge -underBinder warm4
      extract_lets +onlyGivenNames -merge -underBinder snaps5
      exact (setRail_within _ _ _).sub rfl
  · exact Within.refl _ _

theorem setEng_within (e : Nat) (st : Nat) (s : State) :
    Within [.regs, .pts] s (setEng e st s) := by
  unfold setEng
  extract_lets +onlyGivenNames -merge -underBinder t0
  refine Within.step (t := t0) ?_ fun h1 => ?_
  · unfold t0
    exact (State.put_within _ _ _).sub rfl
  clear_value t0
  refine Within.comp ?_ (ptsShow_within _) rfl
  refine Within.ite ?_ ?_
  · refine Within.comp ?_ (State.lower_within _ _) rfl
    refine Within.comp ?_ (Within.upd_pts _ _) rfl
    exact h1
  · exact h1

theorem writeValues_within (fs : List (RegField × List Nat)) (vs : List Int) (s : State) :
    Within [.regs] s (writeValues fs vs s) := by
  unfold writeValues
  refine Within.trans ?_ (Within.foldl (fun v0 v1 => ?_) _)
  · exact Within.refl _ _
  · refine Within.ite ?_ ?_
    · exact Within.refl _ _
    · exact (State.put_within _ _ _).sub rfl

theorem neutralUpdate_within (s : State) :
    Within [.regs, .pts, .logs] s (neutralUpdate s) := by
  unfold neutralUpdate
  extract_lets +onlyGivenNames -merge -underBinder diff0
  refine Within.ite ?_ ?_
  · extract_lets +onlyGivenNames -merge -underBinder n1
    extract_lets +onlyGivenNames -merge -underBinder j3 t2
    refine Within.step (t := t2) ?_ fun h4 => ?_
    · unfold t2
      refine Within.comp ?_ (Within.upd_pts _ _) rfl
      exact Within.refl _ _
    clear_value t2
    refine Within.ite ?_ ?_
    · refine Within.comp ?_ (logWrite_within _ _ _ _) rfl
      refine Within.comp ?_ (State.raise_within _ _) rfl
      exact h4
    · exact h4
  · refine Within.comp ?_ (Within.upd_pts _ _) rfl
    exact Within.refl _ _

theorem execWarmupEnd_answers (e : Nat) (s : State) :
    Answers (execWarmupEnd e s) (Within [.regs, .pts] s) := by
  unfold execWarmupEnd
  refine Answers.awake ?_
  refine Answers.next ?_
  refine Within.ite ?_ ?_
  · split
    · refine Within.comp ?_ (State.put_within _ _ _) rfl
      refine Within.comp ?_ (setEng_within _ _ _) rfl
      exact (modRail_within _ _ _).sub rfl
    · exact (setEng_within _ _ _).sub rfl
  · exact Within.refl _ _

theorem deliver_within (r : Rec) (s : State) :
    Within [.regs, .pts, .x00] s (deliver r s) := by
  unfold deliver
  extract_lets +onlyGivenNames -merge -underBinder j1 t0
  refine Within.step (t := t0) ?_ fun h2 => ?_
  · unfold t0
    refine Within.comp ?_ (Within.upd_pts_x00 _ _ _) rfl
    exact Within.refl _ _
  clear_value t0
  extract_lets +onlyGivenNames -merge -underBinder u3
  refine Within.step (t := u3) ?_ fun h4 => ?_
  · unfold u3
    refine Within.comp ?_ (State.put_within _ _ _) rfl
    refine Within.comp ?_ (State.put_within _ _ _) rfl
    refine Within.comp ?_ (State.setRegN_within _ _ _) rfl
    exact h2
  clear_value u3
  refine Within.trans ?_ (Within.when (fun v5 => ?_) _)
  · refine Within.trans ?_ (Within.when (fun v6 => ?_) _)
    · refine Within.trans ?_ (Within.when (fun v7 => ?_) _)
      · exact h4
      · exact (State.raise_within _ _).sub rfl
    · exact (State.raise_within _ _).sub rfl
  · exact (State.raise_within _ _).sub rfl

theorem clearMism_within (s : State) :
    Within [.regs] s (clearMism s) := by
  unfold clearMism
  exact (State.lower_within _ _).sub rfl

theorem loadSnap_within (p : Snap) (now : Nat) (e : Nat) (s : State) :
    Within [.regs, .pts] s (loadSnap p now e s) := by
  unfold loadSnap
  extract_lets +onlyGivenNames -merge -underBinder gates0
  extract_lets +onlyGivenNames -merge -underBinder old1
  extract_lets +onlyGivenNames -merge -underBinder j3 eng2
  extract_lets +onlyGivenNames -merge -underBinder t4
  refine Within.step (t := t4) ?_ fun h5 => ?_
  · unfold t4
    exact (modRail_within _ _ _).sub rfl
  clear_value t4
  refine Within.comp ?_ (State.put_within _ _ _) rfl
  refine Within.comp ?_ (setEng_within _ _ _) rfl
  exact h5

theorem freqUpdate_within (m : InstMeas) (s : State) :
    Within [.regs, .pts] s (freqUpdate m s) := by
  unfold freqUpdate
  extract_lets +onlyGivenNames -merge -underBinder q0
  extract_lets +onlyGivenNames -merge -underBinder ok1
  extract_lets +onlyGivenNames -merge -underBinder t2
  refine Within.step (t := t2) ?_ fun h3 => ?_
  · unfold t2
    exact (State.putB_within _ _ _).sub rfl
  clear_value t2
  extract_lets +onlyGivenNames -merge -underBinder t4
  refine Within.step (t := t4) ?_ fun h5 => ?_
  · unfold t4
    refine Within.ite ?_ ?_
    · refine Within.trans ?_ (Within.upTo (fun v6 v7 => ?_) _)
      · refine Within.comp ?_ (State.put_within _ _ _) rfl
        exact h3
      · exact (modRail_within _ _ _).sub rfl
    · refine Within.trans ?_ (Within.when (fun v8 => ?_) _)
      · exact h3
      · exact (State.raise_within _ _).sub rfl
  clear_value t4
  extract_lets +onlyGivenNames -merge -underBinder all9
  extract_lets +onlyGivenNames -merge -underBinder wrong10
  extract_lets +onlyGivenNames -merge -underBinder t11
  refine Within.step (t := t11) ?_ fun h12 => ?_
  · unfold t11
    refine Within.trans ?_ (Within.when (fun v13 => ?_) _)
    · refine Within.comp ?_ (State.putB_within _ _ _) rfl
      exact h5
    · exact (State.raise_within _ _).sub rfl
  clear_value t11
  refine Within.comp ?_ (Within.upd_pts _ _) rfl
  exact h12

theorem changeOver_within (o : Nat) (blk : Nat) (s : State) :
    Within [.regs, .pts, .out] s (changeOver o blk s) := by
  unfold changeOver
  extract_lets +onlyGivenNames -merge -underBinder t0
  refine Within.step (t := t0) ?_ fun h1 => ?_
  · unfold t0
    refine Within.comp ?_ (State.raise_within _ _) rfl
    exact (setEng_within _ _ _).sub rfl
  clear_value t0
  refine Within.comp ?_ (State.emit_within _ _) rfl
  refine Within.comp ?_ (State.raise_within _ _) rfl
  refine Within.comp ?_ (State.setRegN_within _ _ _) rfl
  refine Within.comp ?_ (State.bump_within _ _ _) rfl
  exact h1

theorem railCorr_within (set : List (Nat × Int)) (e : Nat) (s : State) :
    Within [.pts] s (railCorr set e s) := by
  unfold railCorr
  exact (modRail_within _ _ _).sub rfl

theorem trialSum_within (o : Nat) (s : State) :
    Within [.regs, .pts] s (trialSum o s) := by
  unfold trialSum
  extract_lets +onlyGivenNames -merge -underBinder sums0
  extract_lets +onlyGivenNames -merge -underBinder j2 t1
  refine Within.step (t := t1) ?_ fun h3 => ?_
  · unfold t1
    refine Within.comp ?_ (State.bumpReg_within _ _ _) rfl
    refine Within.comp ?_ (Within.upd_pts _ _) rfl
    exact Within.refl _ _
  clear_value t1
  refine Within.trans ?_ (Within.upTo (fun v4 v5 => ?_) _)
  · exact h3
  · extract_lets +onlyGivenNames -merge -underBinder v6
    refine Within.comp ?_ (State.setRegN_within _ _ _) rfl
    exact (State.setRegN_within _ _ _).sub rfl

theorem frontBlock_within (raws : List (List Int)) (edges : Nat) (s : State) :
    Within [.regs, .afe] s (frontBlock raws edges s) := by
  unfold frontBlock
  extract_lets +onlyGivenNames -merge -underBinder n0
  extract_lets +onlyGivenNames -merge -underBinder bad1
  extract_lets +onlyGivenNames -merge -underBinder t2
  refine Within.step (t := t2) ?_ fun h3 => ?_
  · unfold t2
    exact (State.put_within _ _ _).sub rfl
  clear_value t2
  extract_lets +onlyGivenNames -merge -underBinder t4
  refine Within.step (t := t4) ?_ fun h5 => ?_
  · unfold t4
    refine Within.trans ?_ (Within.when (fun v6 => ?_) _)
    · exact h3
    · exact (State.raise_within _ _).sub rfl
  clear_value t4
  extract_lets +onlyGivenNames -merge -underBinder t7
  refine Within.step (t := t7) ?_ fun h8 => ?_
  · unfold t7
    refine Within.trans ?_ (Within.upTo (fun v9 v10 => ?_) _)
    · exact h5
    · extract_lets +onlyGivenNames -merge -underBinder u11
      refine Within.step (t := u11) ?_ fun h12 => ?_
      · unfold u11
        exact (State.putB_within _ _ _).sub rfl
      clear_value u11
      refine Within.ite ?_ ?_
      · refine Within.comp ?_ (State.raise_within _ _) rfl
        refine Within.comp ?_ (State.raise_within _ _) rfl
        exact h12
      · exact h12
  clear_value t7
  split
  · refine Within.comp ?_ (Within.upd_afe _ _) rfl
    exact h8
  · refine Within.comp ?_ (State.put_within _ _ _) rfl
    refine Within.comp ?_ (State.put_within _ _ _) rfl
    exact h8

theorem loadAt_within (p : Snap) (e : Nat) (s : State) :
    Within [.regs, .pts] s (loadAt p e s) := by
  unfold loadAt
  extract_lets +onlyGivenNames -merge -underBinder late0
  split
  · exact (loadSnap_within _ _ _ _).sub rfl
  · exact (loadSnap_within _ _ _ _).sub rfl

theorem deliverEstimate_within (blk : Nat) (s : State) :
    Within [.regs, .pts, .x00] s (deliverEstimate blk s) := by
  unfold deliverEstimate
  extract_lets +onlyGivenNames -merge -underBinder d0
  extract_lets +onlyGivenNames -merge -underBinder mean1
  extract_lets +onlyGivenNames -merge -underBinder j3 t2
  refine Within.step (t := t2) ?_ fun h4 => ?_
  · unfold t2
    refine Within.comp ?_ (State.raise_within _ _) rfl
    refine Within.comp ?_ (Within.upd_pts _ _) rfl
    exact Within.refl _ _
  clear_value t2
  refine Within.ite ?_ ?_
  · refine Within.comp ?_ (deliver_within _ _) rfl
    exact h4
  · refine Within.comp ?_ (deliver_within _ _) rfl
    exact h4

theorem plannedTest_within (atMark : Bool) (s : State) :
    Within [.regs, .pts] s (plannedTest atMark s) := by
  unfold plannedTest
  refine Within.ite ?_ ?_
  · split
    · exact Within.refl _ _
    · extract_lets +onlyGivenNames -merge -underBinder done0
      have h1 : ∀ v2, Within [.regs, .pts] v2 (done0 v2) := by
        intro v2
        unfold done0
        refine Within.comp ?_ (Within.upd_pts _ _) rfl
        exact Within.refl _ _
      clear_value done0
      refine Within.ite ?_ ?_
      · refine Within.comp ?_ (setEng_within _ _ _) rfl
        refine Within.trans ?_ (h1 _)
        exact Within.refl _ _
      · refine Within.ite ?_ ?_
        · refine Within.comp ?_ (State.raise_within _ _) rfl
          refine Within.comp ?_ (setEng_within _ _ _) rfl
          refine Within.comp ?_ (setEng_within _ _ _) rfl
          refine Within.comp ?_ (setEng_within _ _ _) rfl
          refine Within.trans ?_ (h1 _)
          exact Within.refl _ _
        · exact Within.refl _ _
  · exact Within.refl _ _

theorem trialBegin_within (s : State) :
    Within [.regs, .pts] s (trialBegin s) := by
  unfold trialBegin
  refine Within.ite ?_ ?_
  · split
    · extract_lets +onlyGivenNames -merge -underBinder t0
      refine Within.step (t := t0) ?_ fun h1 => ?_
      · unfold t0
        refine Within.comp ?_ (setEng_within _ _ _) rfl
        exact (railCorr_within _ _ _).sub rfl
      clear_value t0
      extract_lets +onlyGivenNames -merge -underBinder j3 u2
      refine Within.step (t := u2) ?_ fun h4 => ?_
      · unfold u2
        refine Within.comp ?_ (State.setRegN_within _ _ _) rfl
        refine Within.comp ?_ (Within.upd_pts _ _) rfl
        exact h1
      clear_value u2
      refine Within.comp ?_ (State.raise_within _ _) rfl
      refine Within.trans ?_ (Within.upTo (fun v5 v6 => ?_) _)
      · exact h4
      · exact (State.setRegN_within _ _ _).sub rfl
    · exact Within.refl _ _
  · exact Within.refl _ _

theorem deliverGood_within (r : Rec) (s : State) :
    Within [.regs, .pts, .x00] s (deliverGood r s) := by
  unfold deliverGood
  refine Within.comp ?_ (deliver_within _ _) rfl
  refine Within.comp ?_ (Within.upd_pts _ _) rfl
  exact Within.refl _ _

theorem execShadowPromote_answers (e : Nat) (s : State) :
    Answers (execShadowPromote e s) (Within [.regs, .pts] s) := by
  unfold execShadowPromote
  refine Answers.awake ?_
  refine Answers.next ?_
  refine Within.ite ?_ ?_
  · refine Within.comp ?_ (plannedTest_within _ _) rfl
    refine Within.comp ?_ (State.raise_within _ _) rfl
    refine Within.comp ?_ (setEng_within _ _ _) rfl
    refine Within.comp ?_ (Within.upd_pts _ _) rfl
    exact Within.refl _ _
  · exact Within.refl _ _

theorem execMismatchCountClear_answers (p : Path) (s : State) :
    Answers (execMismatchCountClear p s) (Within [.regs, .out] s) := by
  unfold execMismatchCountClear
  refine Answers.next ?_
  refine Within.trans ?_ (hostOwn_within (fun a0 => ?_) rfl)
  · exact Within.refl _ _
  · refine Within.trans ?_ (toIsland_within (fun a0 => ?_) rfl)
    · exact Within.refl _ _
    · exact (clearMism_within _).sub rfl

theorem afterActive_within (a : Nat) (blk : Nat) (s : State) :
    Within [.regs, .pts, .out] s (afterActive a blk s) := by
  unfold afterActive
  extract_lets +onlyGivenNames -merge -underBinder o0
  refine Within.ite ?_ ?_
  · exact (changeOver_within _ _ _).sub rfl
  · refine Within.ite ?_ ?_
    · refine Within.comp ?_ (modRail_within _ _ _) rfl
      refine Within.comp ?_ (setEng_within _ _ _) rfl
      exact (railCorr_within _ _ _).sub rfl
    · exact (ptsShow_within _).sub rfl

theorem trialStop_within (s : State) :
    Within [.regs, .pts] s (trialStop s) := by
  unfold trialStop
  split
  · refine Within.comp ?_ (setEng_within _ _ _) rfl
    exact (railCorr_within _ _ _).sub rfl
  · exact (State.lower_within _ _).sub rfl

theorem testNow_within (s : State) :
    Within [.regs, .pts] s (testNow s) := by
  unfold testNow
  refine Within.comp ?_ (plannedTest_within _ _) rfl
  refine Within.comp ?_ (Within.upd_pts _ _) rfl
  exact Within.refl _ _

theorem execSelfTestNow_answers (p : Path) (s : State) :
    Answers (execSelfTestNow p s) (Within [.regs, .pts, .out] s) := by
  unfold execSelfTestNow
  refine Answers.next ?_
  refine Within.trans ?_ (hostOwn_within (fun a0 => ?_) rfl)
  · exact Within.refl _ _
  · refine Within.trans ?_ (toIsland_within (fun a0 => ?_) rfl)
    · exact Within.refl _ _
    · exact (testNow_within _).sub rfl

theorem execPlannedSelfTestDue_answers (s : State) :
    Answers (execPlannedSelfTestDue s) (Within [.regs, .pts] s) := by
  unfold execPlannedSelfTestDue
  refine Answers.awake ?_
  refine Answers.next ?_
  refine Within.comp ?_ (plannedTest_within _ _) rfl
  refine Within.comp ?_ (Within.upd_pts _ _) rfl
  exact Within.refl _ _

theorem execTrialStart_answers (p : Path) (s : State) :
    Answers (execTrialStart p s) (Within [.regs, .pts, .out] s) := by
  unfold execTrialStart
  refine Answers.next ?_
  refine Within.trans ?_ (hostOwn_within (fun a0 => ?_) rfl)
  · exact Within.refl _ _
  · refine Within.trans ?_ (toIsland_within (fun a0 => ?_) rfl)
    · exact Within.refl _ _
    · exact (trialBegin_within _).sub rfl

theorem execTrialMaxExpiry_answers (s : State) :
    Answers (execTrialMaxExpiry s) (Within [.regs, .pts] s) := by
  unfold execTrialMaxExpiry
  refine Answers.awake ?_
  refine Answers.next ?_
  exact (trialStop_within _).sub rfl

theorem engRetire_within (e : Nat) (s : State) :
    Within [.regs, .pts, .logs, .free] s (engRetire e s) := by
  unfold engRetire
  extract_lets +onlyGivenNames -merge -underBinder t0
  refine Within.step (t := t0) ?_ fun h1 => ?_
  · unfold t0
    refine Within.comp ?_ (State.raise_within _ _) rfl
    exact (setEng_within _ _ _).sub rfl
  clear_value t0
  refine Within.ite ?_ ?_
  · refine Within.comp ?_ (faultOther_within _ _ _) rfl
    exact h1
  · exact h1

theorem engFault_within (e : Nat) (cause : Nat) (s : State) :
    Within [.regs, .pts, .logs, .free] s (engFault e cause s) := by
  unfold engFault
  extract_lets +onlyGivenNames -merge -underBinder j1 t0
  refine Within.step (t := t0) ?_ fun h2 => ?_
  · unfold t0
    refine Within.comp ?_ (Within.upd_pts _ _) rfl
    exact Within.refl _ _
  clear_value t0
  extract_lets +onlyGivenNames -merge -underBinder u3
  refine Within.step (t := u3) ?_ fun h4 => ?_
  · unfold u3
    refine Within.comp ?_ (State.put_within _ _ _) rfl
    refine Within.comp ?_ (State.put_within _ _ _) rfl
    refine Within.comp ?_ (State.raise_within _ _) rfl
    exact h2
  clear_value u3
  extract_lets +onlyGivenNames -merge -underBinder j6 v5
  refine Within.step (t := v5) ?_ fun h7 => ?_
  · unfold v5
    refine Within.comp ?_ (Within.upd_pts _ _) rfl
    exact h4
  clear_value v5
  extract_lets +onlyGivenNames -merge -underBinder v8
  refine Within.step (t := v8) ?_ fun h9 => ?_
  · unfold v8
    refine Within.ite ?_ ?_
    · refine Within.comp ?_ (engRetire_within _ _) rfl
      exact h7
    · refine Within.comp ?_ (setEng_within _ _ _) rfl
      exact h7
  clear_value v8
  refine Within.ite ?_ ?_
  · exact h9
  · refine Within.comp ?_ (faultOther_within _ _ _) rfl
    exact h9

theorem judge_within (a : Nat) (blk : Nat) (badA : Bool) (badO : Bool) (s : State) :
    Within [.regs, .pts, .logs, .out, .free] s (judge a blk badA badO s) := by
  unfold judge
  extract_lets +onlyGivenNames -merge -underBinder o0
  extract_lets +onlyGivenNames -merge -underBinder t1
  refine Within.step (t := t1) ?_ fun h2 => ?_
  · unfold t1
    refine Within.comp ?_ (State.bump_within _ _ _) rfl
    exact (State.raise_within _ _).sub rfl
  clear_value t1
  extract_lets +onlyGivenNames -merge -underBinder j4 t3
  refine Within.step (t := t3) ?_ fun h5 => ?_
  · unfold t3
    refine Within.comp ?_ (Within.upd_pts _ _) rfl
    exact h2
  clear_value t3
  split
  · refine Within.comp ?_ (ptsShow_within _) rfl
    refine Within.comp ?_ (engFault_within _ _ _) rfl
    refine Within.comp ?_ (engFault_within _ _ _) rfl
    exact h5
  · refine Within.comp ?_ (afterActive_within _ _ _) rfl
    refine Within.comp ?_ (engFault_within _ _ _) rfl
    exact h5
  · refine Within.comp ?_ (engFault_within _ _ _) rfl
    exact h5
  · refine Within.comp ?_ (setEng_within _ _ _) rfl
    exact h5

theorem ownFault_within (e : Nat) (cause : Nat) (s : State) :
    Within [.regs, .pts, .logs, .out, .free] s (ownFault e cause s) := by
  unfold ownFault
  extract_lets +onlyGivenNames -merge -underBinder blk0
  refine Within.ite ?_ ?_
  · refine Within.comp ?_ (afterActive_within _ _ _) rfl
    exact (engFault_within _ _ _).sub rfl
  · refine Within.ite ?_ ?_
    · exact (engFault_within _ _ _).sub rfl
    · exact Within.refl _ _

theorem execShadowTimeout_answers (e : Nat) (s : State) :
    Answers (execShadowTimeout e s) (Within [.regs, .pts, .logs, .free] s) := by
  unfold execShadowTimeout
  refine Answers.awake ?_
  refine Answers.next ?_
  refine Within.ite ?_ ?_
  · refine Within.comp ?_ (State.raise_within _ _) rfl
    exact (engFault_within _ _ _).sub rfl
  · exact Within.refl _ _

theorem selfTestDone_within (e : Nat) (pass : Bool) (s : State) :
    Within [.regs, .pts, .logs, .free] s (selfTestDone e pass s) := by
  unfold selfTestDone
  refine Within.ite ?_ ?_
  · refine Within.ite ?_ ?_
    · extract_lets +onlyGivenNames -merge -underBinder t0
      refine Within.step (t := t0) ?_ fun h1 => ?_
      · unfold t0
        refine Within.comp ?_ (setEng_within _ _ _) rfl
        exact (modRail_within _ _ _).sub rfl
      clear_value t0
      split
      · exact h1
      · refine Within.comp ?_ (loadAt_within _ _ _) rfl
        exact h1
    · extract_lets +onlyGivenNames -merge -underBinder t2
      refine Within.step (t := t2) ?_ fun h3 => ?_
      · unfold t2
        refine Within.comp ?_ (State.raise_within _ _) rfl
        refine Within.comp ?_ (engFault_within _ _ _) rfl
        exact (modRail_within _ _ _).sub rfl
      clear_value t2
      refine Within.ite ?_ ?_
      · refine Within.comp ?_ (engRetire_within _ _) rfl
        exact h3
      · exact h3
  · exact Within.refl _ _

theorem meteringStart_within (s : State) :
    Within [.regs, .pts, .logs, .free] s (meteringStart s) := by
  unfold meteringStart
  extract_lets +onlyGivenNames -merge -underBinder j1 z0
  extract_lets +onlyGivenNames -merge -underBinder t2
  refine Within.step (t := t2) ?_ fun h3 => ?_
  · unfold t2
    refine Within.trans ?_ (Within.upTo (fun v4 v5 => ?_) _)
    · refine Within.comp ?_ (State.raise_within _ _) rfl
      exact (State.setRegN_within _ _ _).sub rfl
    · exact (modRail_within _ _ _).sub rfl
  clear_value t2
  extract_lets +onlyGivenNames -merge -underBinder j7 t6
  refine Within.step (t := t6) ?_ fun h8 => ?_
  · unfold t6
    refine Within.comp ?_ (Within.upd_pts _ _) rfl
    exact h3
  clear_value t6
  extract_lets +onlyGivenNames -merge -underBinder out9
  extract_lets +onlyGivenNames -merge -underBinder t10
  refine Within.step (t := t10) ?_ fun h11 => ?_
  · unfold t10
    refine Within.trans ?_ (Within.upTo (fun v12 v13 => ?_) _)
    · exact h8
    · refine Within.ite ?_ ?_
      · exact Within.refl _ _
      · refine Within.comp ?_ (State.raise_within _ _) rfl
        exact (engFault_within _ _ _).sub rfl
  clear_value t10
  extract_lets +onlyGivenNames -merge -underBinder t14
  refine Within.step (t := t14) ?_ fun h15 => ?_
  · unfold t14
    split
    · refine Within.comp ?_ (setEng_within _ _ _) rfl
      refine Within.comp ?_ (setEng_within _ _ _) rfl
      exact h11
    · refine Within.comp ?_ (setEng_within _ _ _) rfl
      exact h11
    · refine Within.comp ?_ (setEng_within _ _ _) rfl
      exact h11
    · exact h11
  clear_value t14
  refine Within.comp ?_ (ptsShow_within _) rfl
  exact h15

theorem execTrialEnd_answers (p : Path) (s : State) :
    Answers (execTrialEnd p s) (Within [.regs, .pts, .out] s) := by
  unfold execTrialEnd
  refine Answers.next ?_
  refine Within.trans ?_ (hostOwn_within (fun a0 => ?_) rfl)
  · exact Within.refl _ _
  · refine Within.trans ?_ (toIsland_within (fun a0 => ?_) rfl)
    · exact Within.refl _ _
    · exact (trialStop_within _).sub rfl

theorem execSelfTestRetry_answers (e : Nat) (pass : Bool) (s : State) :
    Answers (execSelfTestRetry e pass s) (Within [.regs, .pts, .logs, .free] s) := by
  unfold execSelfTestRetry
  refine Answers.awake ?_
  refine Answers.next ?_
  refine Within.ite ?_ ?_
  · exact (selfTestDone_within _ _ _).sub rfl
  · exact Within.refl _ _

theorem execEngineDeadlineMiss_answers (e : Nat) (s : State) :
    Answers (execEngineDeadlineMiss e s) (Within [.regs, .pts, .logs, .out, .free] s) := by
  unfold execEngineDeadlineMiss
  refine Answers.awake ?_
  refine Answers.next ?_
  exact (ownFault_within _ _ _).sub rfl

theorem instUpdate_within (m : InstMeas) (s : State) :
    Within [.regs, .pts, .logs, .out, .free] s (instUpdate m s) := by
  unfold instUpdate
  split
  · exact Within.refl _ _
  · extract_lets +onlyGivenNames -merge -underBinder va0
    extract_lets +onlyGivenNames -merge -underBinder clean1
    extract_lets +onlyGivenNames -merge -underBinder t2
    refine Within.step (t := t2) ?_ fun h3 => ?_
    · unfold t2
      refine Within.ite ?_ ?_
      · exact (judge_within _ _ _ _ _).sub rfl
      · refine Within.ite ?_ ?_
        · exact (State.put_within _ _ _).sub rfl
        · exact Within.refl _ _
    clear_value t2
    refine Within.ite ?_ ?_
    · extract_lets +onlyGivenNames -merge -underBinder u4
      refine Within.step (t := u4) ?_ fun h5 => ?_
      · unfold u4
        refine Within.comp ?_ (writeValues_within _ _ _) rfl
        refine Within.comp ?_ (State.lower_within _ _) rfl
        exact h3
      clear_value u4
      refine Within.ite ?_ ?_
      · refine Within.comp ?_ (neutralUpdate_within _) rfl
        refine Within.comp ?_ (freqUpdate_within _ _) rfl
        exact h5
      · exact h5
    · exact h3

theorem execEngineSelfTestDone_answers (e : Nat) (pass : Bool) (s : State) :
    Answers (execEngineSelfTestDone e pass s) (Within [.regs, .pts, .logs, .free] s) := by
  unfold execEngineSelfTestDone
  refine Answers.awake ?_
  refine Answers.next ?_
  exact (selfTestDone_within _ _ _).sub rfl

theorem decideBlock_within (blk : Nat) (s : State) :
    Within [.regs, .pts, .x00, .logs, .out, .free] s (decideBlock blk s) := by
  unfold decideBlock
  split
  · exact (deliverEstimate_within _ _).sub rfl
  · extract_lets +onlyGivenNames -merge -underBinder o0
    extract_lets +onlyGivenNames -merge -underBinder clean1
    extract_lets +onlyGivenNames -merge -underBinder stay2
    have h3 : ∀ v4, Within [.regs, .pts, .x00, .logs, .out, .free] v4 (stay2 v4) := by
      intro v4
      unfold stay2
      exact (deliverGood_within _ _).sub rfl
    clear_value stay2
    refine Within.ite ?_ ?_
    · refine Within.ite ?_ ?_
      · refine Within.trans ?_ (h3 _)
        refine Within.comp ?_ (Within.upd_pts _ _) rfl
        exact Within.refl _ _
      · extract_lets +onlyGivenNames -merge -underBinder t5
        refine Within.step (t := t5) ?_ fun h6 => ?_
        · unfold t5
          exact (judge_within _ _ _ _ _).sub rfl
        clear_value t5
        split
        · refine Within.comp ?_ (deliverGood_within _ _) rfl
          exact h6
        · refine Within.comp ?_ (deliverEstimate_within _ _) rfl
          exact h6
    · refine Within.ite ?_ ?_
      · extract_lets +onlyGivenNames -merge -underBinder t7
        refine Within.step (t := t7) ?_ fun h8 => ?_
        · unfold t7
          exact (modRail_within _ _ _).sub rfl
        clear_value t7
        refine Within.trans ?_ (h3 _)
        refine Within.ite ?_ ?_
        · refine Within.comp ?_ (State.bump_within _ _ _) rfl
          exact h8
        · refine Within.comp ?_ (State.put_within _ _ _) rfl
          exact h8
      · refine Within.ite ?_ ?_
        · refine Within.trans ?_ (h3 _)
          exact (trialSum_within _ _).sub rfl
        · refine Within.trans ?_ (h3 _)
          exact Within.refl _ _

theorem ptsMark_within (blk : Nat) (s : State) :
    Within [.regs, .pts, .logs, .out, .free] s (ptsMark blk s) := by
  unfold ptsMark
  extract_lets +onlyGivenNames -merge -underBinder at_0
  extract_lets +onlyGivenNames -merge -underBinder t1
  refine Within.step (t := t1) ?_ fun h2 => ?_
  · unfold t1
    split
    · exact Within.refl _ _
    · split
      · exact Within.refl _ _
      · extract_lets +onlyGivenNames -merge -underBinder j4 t3
        refine Within.step (t := t3) ?_ fun h5 => ?_
        · unfold t3
          refine Within.comp ?_ (Within.upd_pts _ _) rfl
          exact Within.refl _ _
        clear_value t3
        refine Within.ite ?_ ?_
        · split
          · refine Within.ite ?_ ?_
            · exact h5
            · refine Within.comp ?_ (judge_within _ _ _ _ _) rfl
              exact h5
          · exact h5
        · exact h5
  clear_value t1
  extract_lets +onlyGivenNames -merge -underBinder u6
  refine Within.step (t := u6) ?_ fun h7 => ?_
  · unfold u6
    refine Within.trans ?_ (Within.upTo (fun v8 v9 => ?_) _)
    · exact h2
    · refine Within.ite ?_ ?_
      · split
        · exact (loadAt_within _ _ _).sub rfl
        · exact Within.refl _ _
      · exact Within.refl _ _
  clear_value u6
  refine Within.comp ?_ (plannedTest_within _ _) rfl
  exact h7

theorem execEngineSelfCheckError_answers (e : Nat) (s : State) :
    Answers (execEngineSelfCheckError e s) (Within [.regs, .pts, .logs, .out, .free] s) := by
  unfold execEngineSelfCheckError
  refine Answers.awake ?_
  refine Answers.next ?_
  exact (ownFault_within _ _ _).sub rfl

theorem ptsBlock_within (raws : List (List Int)) (edges : Nat) (dev0 : List Int) (dev1 : List Int) (s : State) :
    Within [.regs, .afe, .pts, .x00, .logs, .out, .free] s (ptsBlock raws edges dev0 dev1 s) := by
  unfold ptsBlock
  extract_lets +onlyGivenNames -merge -underBinder t0
  refine Within.step (t := t0) ?_ fun h1 => ?_
  · unfold t0
    refine Within.ite ?_ ?_
    · exact (State.setRegN_within _ _ _).sub rfl
    · exact (meteringStart_within _).sub rfl
  clear_value t0
  extract_lets +onlyGivenNames -merge -underBinder blk2
  extract_lets +onlyGivenNames -merge -underBinder u3
  refine Within.step (t := u3) ?_ fun h4 => ?_
  · unfold u3
    refine Within.comp ?_ (railBlock_within _ _ _ _ _) rfl
    refine Within.comp ?_ (railBlock_within _ _ _ _ _) rfl
    exact h1
  clear_value u3
  extract_lets +onlyGivenNames -merge -underBinder v5
  refine Within.step (t := v5) ?_ fun h6 => ?_
  · unfold v5
    refine Within.comp ?_ (decideBlock_within _ _) rfl
    exact h4
  clear_value v5
  extract_lets +onlyGivenNames -merge -underBinder w7
  refine Within.step (t := w7) ?_ fun h8 => ?_
  · unfold w7
    split
    · refine Within.trans ?_ (Within.upTo (fun v9 v10 => ?_) _)
      · exact h6
      · exact (State.put_within _ _ _).sub rfl
    · exact h6
  clear_value w7
  extract_lets +onlyGivenNames -merge -underBinder w11
  refine Within.step (t := w11) ?_ fun h12 => ?_
  · unfold w11
    refine Within.comp ?_ (ageRoles_within _) rfl
    refine Within.comp ?_ (frontBlock_within _ _ _) rfl
    exact h8
  clear_value w11
  refine Within.ite ?_ ?_
  · refine Within.comp ?_ (ptsMark_within _ _) rfl
    refine Within.comp ?_ (Within.upd_pts _ _) rfl
    exact h12
  · exact h12

theorem execCommitMarkSnapshot_answers (s : State) :
    Answers (execCommitMarkSnapshot s) (Within [.regs, .pts, .x01, .logs, .out, .free] s) := by
  unfold execCommitMarkSnapshot
  refine Answers.awake ?_
  refine Answers.next ?_
  split
  · exact Within.refl _ _
  · refine Within.comp ?_ (ptsMark_within _ _) rfl
    refine Within.comp ?_ (Within.upd_pts_x01 _ _ _) rfl
    exact Within.refl _ _

theorem billSessionStart_within (id : Nat) (sec : Nat) (s : State) :
    Within [.bil] s (billSessionStart id sec s) := by
  unfold billSessionStart
  refine Within.comp ?_ (Within.upd_bil _ _) rfl
  exact Within.refl _ _

theorem prepayDebit_within (sums : List Nat) (rate : Nat) (s : State) :
    Within [.bil] s (prepayDebit sums rate s) := by
  unfold prepayDebit
  refine Within.ite ?_ ?_
  · extract_lets +onlyGivenNames -merge -underBinder v0
    extract_lets +onlyGivenNames -merge -underBinder d1
    refine Within.comp ?_ (Within.upd_bil _ _) rfl
    exact Within.refl _ _
  · exact Within.refl _ _

theorem applyNext_within (s : State) :
    Within [.params, .parNext] s (applyNext s) := by
  unfold applyNext
  extract_lets +onlyGivenNames -merge -underBinder __src0
  refine Within.step (t := __src0) ?_ fun h1 => ?_
  · unfold __src0
    refine Within.trans ?_ (Within.foldl (fun v2 v3 => ?_) _)
    · exact Within.refl _ _
    · exact (State.setPar_within _ _ _).sub rfl
  clear_value __src0
  refine Within.comp ?_ (Within.upd_parNext _ _) rfl
  exact h1

theorem billSessionEnd_within (id : Nat) (sec : Nat) (reason : Nat) (authSrc : Nat) (authRef : List Byte) (s : State) :
    Within [.bil] s (billSessionEnd id sec reason authSrc authRef s) := by
  unfold billSessionEnd
  refine Within.comp ?_ (Within.upd_bil _ _) rfl
  exact Within.refl _ _

theorem showHold_within (s : State) :
    Within [.regs] s (showHold s) := by
  unfold showHold
  exact (State.putB_within _ _ _).sub rfl

theorem showDemand_within (s : State) :
    Within [.regs] s (showDemand s) := by
  unfold showDemand
  refine Within.trans ?_ (Within.upTo (fun v0 v1 => ?_) _)
  · exact Within.refl _ _
  · exact (State.setRegN_within _ _ _).sub rfl

theorem showPend_within (s : State) :
    Within [.regs] s (showPend s) := by
  unfold showPend
  extract_lets +onlyGivenNames -merge -underBinder t0
  refine Within.step (t := t0) ?_ fun h1 => ?_
  · unfold t0
    exact (State.put_within _ _ _).sub rfl
  clear_value t0
  split
  · refine Within.comp ?_ (State.put_within _ _ _) rfl
    exact h1
  · exact h1

theorem dmdMax_within (d : Nat) (r : Nat) (v : Nat) (endT : Nat) (s : State) :
    Within [.regs] s (dmdMax d r v endT s) := by
  unfold dmdMax
  refine Within.ite ?_ ?_
  · refine Within.comp ?_ (State.setRegN_within _ _ _) rfl
    exact (State.setRegN_within _ _ _).sub rfl
  · exact Within.refl _ _

theorem demandClose_within (sec : Nat) (rate : Nat) (s : State) :
    Within [.regs, .bil] s (demandClose sec rate s) := by
  unfold demandClose
  extract_lets +onlyGivenNames -merge -underBinder t0
  refine Within.step (t := t0) ?_ fun h1 => ?_
  · unfold t0
    refine Within.trans ?_ (Within.upTo (fun v2 v3 => ?_) _)
    · exact Within.refl _ _
    · extract_lets +onlyGivenNames -merge -underBinder v4
      refine Within.comp ?_ (dmdMax_within _ _ _ _ _) rfl
      refine Within.comp ?_ (dmdMax_within _ _ _ _ _) rfl
      exact (State.setRegN_within _ _ _).sub rfl
  clear_value t0
  extract_lets +onlyGivenNames -merge -underBinder share5
  refine Within.comp ?_ (showDemand_within _) rfl
  refine Within.comp ?_ (Within.upd_bil _ _) rfl
  exact h1

theorem showCredit_within (s : State) :
    Within [.regs] s (showCredit s) := by
  unfold showCredit
  extract_lets +onlyGivenNames -merge -underBinder v0
  refine Within.comp ?_ (State.setRegN_within _ _ _) rfl
  exact (State.setRegN_within _ _ _).sub rfl

theorem showProfiles_within (s : State) :
    Within [.regs] s (showProfiles s) := by
  unfold showProfiles
  refine Within.comp ?_ (State.put_within _ _ _) rfl
  exact (State.put_within _ _ _).sub rfl

theorem periodEnd_within (sec : Nat) (status : Nat) (s : State) :
    Within [.regs, .bil, .logs] s (periodEnd sec status s) := by
  unfold periodEnd
  extract_lets +onlyGivenNames -merge -underBinder src0
  extract_lets +onlyGivenNames -merge -underBinder j2 t1
  refine Within.step (t := t1) ?_ fun h3 => ?_
  · unfold t1
    refine Within.comp ?_ (Within.upd_bil _ _) rfl
    exact Within.refl _ _
  clear_value t1
  extract_lets +onlyGivenNames -merge -underBinder u4
  refine Within.step (t := u4) ?_ fun h5 => ?_
  · unfold u4
    refine Within.trans ?_ (Within.upTo (fun v6 v7 => ?_) _)
    · exact h3
    · refine Within.trans ?_ (Within.upTo (fun v8 v9 => ?_) _)
      · exact Within.refl _ _
      · exact (State.setRegN_within _ _ _).sub rfl
  clear_value u4
  refine Within.comp ?_ (logPut_within _ _ _ _ _ _) rfl
  exact h5

theorem captureLp2_within (endT : Nat) (status : Nat) (s : State) :
    Within [.regs, .bil] s (captureLp2 endT status s) := by
  unfold captureLp2
  extract_lets +onlyGivenNames -merge -underBinder e0
  refine Within.comp ?_ (showProfiles_within _) rfl
  refine Within.comp ?_ (Within.upd_bil _ _) rfl
  exact Within.refl _ _

theorem lateDemand_within (sec : Nat) (s : State) :
    Within [.regs, .bil] s (lateDemand sec s) := by
  unfold lateDemand
  extract_lets +onlyGivenNames -merge -underBinder len0
  extract_lets +onlyGivenNames -merge -underBinder e1
  refine Within.ite ?_ ?_
  · extract_lets +onlyGivenNames -merge -underBinder t2
    refine Within.step (t := t2) ?_ fun h3 => ?_
    · unfold t2
      exact (demandClose_within _ _ _).sub rfl
    clear_value t2
    extract_lets +onlyGivenNames -merge -underBinder zeros4
    refine Within.comp ?_ (Within.upd_bil _ _) rfl
    exact h3
  · exact Within.refl _ _

theorem showWaybills_within (s : State) :
    Within [.regs] s (showWaybills s) := by
  unfold showWaybills
  refine Within.comp ?_ (State.putB_within _ _ _) rfl
  exact (State.put_within _ _ _).sub rfl

theorem lateDay_within (sec : Nat) (pdn : Nat) (s : State) :
    Within [.regs, .bil, .logs] s (lateDay sec pdn s) := by
  unfold lateDay
  extract_lets +onlyGivenNames -merge -underBinder a0
  extract_lets +onlyGivenNames -merge -underBinder b1
  extract_lets +onlyGivenNames -merge -underBinder mid2
  refine Within.ite ?_ ?_
  · extract_lets +onlyGivenNames -merge -underBinder t3
    refine Within.step (t := t3) ?_ fun h4 => ?_
    · unfold t3
      exact (captureLp2_within _ _ _).sub rfl
    clear_value t3
    split
    · refine Within.comp ?_ (periodEnd_within _ _ _) rfl
      exact h4
    · exact h4
  · exact Within.refl _ _

theorem applyTransfers_within (s : State) :
    Within [.regs, .bil, .logs] s (applyTransfers s) := by
  unfold applyTransfers
  refine Within.trans ?_ (Within.foldl (fun v0 v1 => ?_) _)
  · refine Within.comp ?_ (Within.upd_bil _ _) rfl
    exact Within.refl _ _
  · refine Within.comp ?_ (logWrite_within _ _ _ _) rfl
    refine Within.comp ?_ (State.raise_within _ _) rfl
    refine Within.comp ?_ (Within.upd_bil _ _) rfl
    exact Within.refl _ _

theorem attrRecord_within (r : Rec) (s : State) :
    Within [.regs, .bil] s (attrRecord r s) := by
  unfold attrRecord
  extract_lets +onlyGivenNames -merge -underBinder j1 t0
  refine Within.step (t := t0) ?_ fun h2 => ?_
  · unfold t0
    refine Within.comp ?_ (Within.upd_bil _ _) rfl
    exact Within.refl _ _
  clear_value t0
  extract_lets +onlyGivenNames -merge -underBinder sec3
  extract_lets +onlyGivenNames -merge -underBinder e4
  refine Within.comp ?_ (showPend_within _) rfl
  refine Within.comp ?_ (Within.upd_bil _ _) rfl
  exact h2

theorem rollback_within (p : Pend → Bool) (s : State) :
    Within [.regs, .bil] s (rollback p s) := by
  unfold rollback
  refine Within.ite ?_ ?_
  · extract_lets +onlyGivenNames -merge -underBinder keep0
    extract_lets +onlyGivenNames -merge -underBinder redo1
    refine Within.comp ?_ (showPend_within _) rfl
    refine Within.comp ?_ (State.raise_within _ _) rfl
    refine Within.comp ?_ (State.bump_within _ _ _) rfl
    refine Within.comp ?_ (Within.upd_bil _ _) rfl
    exact Within.refl _ _
  · exact Within.refl _ _

theorem viewSnap_within (s : State) :
    Within [.regs, .bil] s (viewSnap s) := by
  unfold viewSnap
  refine Within.comp ?_ (State.setReg_within _ _ _) rfl
  refine Within.comp ?_ (State.raise_within _ _) rfl
  refine Within.comp ?_ (Within.upd_bil _ _) rfl
  exact Within.refl _ _

theorem creditTransfer_within (amount : Int) (number : Nat) (src : Nat) (s : State) :
    Within [.regs, .bil, .logs] s (creditTransfer amount number src s).2 := by
  unfold creditTransfer
  refine Within.ite2 ?_ ?_
  · refine Within.comp ?_ (State.setRegN_within _ _ _) rfl
    refine Within.comp ?_ (Within.upd_bil _ _) rfl
    exact Within.refl _ _
  · refine Within.comp ?_ (logWrite_within _ _ _ _) rfl
    exact (State.raise_within _ _).sub rfl

theorem wbSkip_within (s : State) :
    Within [.regs, .logs] s (wbSkip s) := by
  unfold wbSkip
  refine Within.comp ?_ (logWrite_within _ _ _ _) rfl
  refine Within.comp ?_ (State.raise_within _ _) rfl
  exact (State.bump_within _ _ _).sub rfl

theorem viewRelease_within (s : State) :
    Within [.regs, .bil] s (viewRelease s) := by
  unfold viewRelease
  refine Within.comp ?_ (State.setRegN_within _ _ _) rfl
  refine Within.comp ?_ (State.lower_within _ _) rfl
  refine Within.comp ?_ (Within.upd_bil _ _) rfl
  exact Within.refl _ _

theorem captureLp1_within (endT : Nat) (status : Nat) (s : State) :
    Within [.regs, .bil] s (captureLp1 endT status s) := by
  unfold captureLp1
  extract_lets +onlyGivenNames -merge -underBinder e0
  refine Within.comp ?_ (showProfiles_within _) rfl
  refine Within.comp ?_ (Within.upd_bil _ _) rfl
  exact Within.refl _ _

theorem execViewSnap_answers (p : Path) (s : State) :
    Answers (execViewSnap p s) (Within [.regs, .bil, .out] s) := by
  unfold execViewSnap
  refine Answers.next ?_
  refine Within.trans ?_ (hostOwn_within (fun a0 => ?_) rfl)
  · exact Within.refl _ _
  · exact (viewSnap_within _).sub rfl

theorem creditUpdate_within (friendly : Bool) (s : State) :
    Within [.regs, .logs] s (creditUpdate friendly s) := by
  unfold creditUpdate
  extract_lets +onlyGivenNames -merge -underBinder old0
  extract_lets +onlyGivenNames -merge -underBinder st1
  extract_lets +onlyGivenNames -merge -underBinder t2
  refine Within.step (t := t2) ?_ fun h3 => ?_
  · unfold t2
    exact (State.put_within _ _ _).sub rfl
  clear_value t2
  extract_lets +onlyGivenNames -merge -underBinder t4
  refine Within.step (t := t4) ?_ fun h5 => ?_
  · unfold t4
    refine Within.ite ?_ ?_
    · refine Within.comp ?_ (logWrite_within _ _ _ _) rfl
      refine Within.comp ?_ (State.raise_within _ _) rfl
      exact h3
    · exact h3
  clear_value t4
  extract_lets +onlyGivenNames -merge -underBinder t6
  refine Within.step (t := t6) ?_ fun h7 => ?_
  · unfold t6
    refine Within.ite ?_ ?_
    · refine Within.comp ?_ (logWrite_within _ _ _ _) rfl
      refine Within.comp ?_ (State.raise_within _ _) rfl
      exact h5
    · exact h5
  clear_value t6
  extract_lets +onlyGivenNames -merge -underBinder t8
  refine Within.step (t := t8) ?_ fun h9 => ?_
  · unfold t8
    refine Within.ite ?_ ?_
    · refine Within.comp ?_ (State.putBit_within _ _ _ _) rfl
      exact h7
    · exact h7
  clear_value t8
  refine Within.ite ?_ ?_
  · refine Within.comp ?_ (State.putBit_within _ _ _ _) rfl
    exact h9
  · exact h9

theorem wbStore_within (w : Waybill) (s : State) :
    Within [.regs, .bil] s (wbStore w s) := by
  unfold wbStore
  refine Within.comp ?_ (showWaybills_within _) rfl
  refine Within.comp ?_ (State.setRegN_within _ _ _) rfl
  refine Within.comp ?_ (Within.upd_bil _ _) rfl
  exact Within.refl _ _

theorem activate_within (sec : Nat) (s : State) :
    Within [.regs, .bil, .logs] s (activate sec s) := by
  unfold activate
  split
  · exact Within.refl _ _
  · extract_lets +onlyGivenNames -merge -underBinder g0
    extract_lets +onlyGivenNames -merge -underBinder j2 u1
    refine Within.step (t := u1) ?_ fun h3 => ?_
    · unfold u1
      refine Within.comp ?_ (Within.upd_bil _ _) rfl
      exact Within.refl _ _
    clear_value u1
    extract_lets +onlyGivenNames -merge -underBinder u4
    refine Within.step (t := u4) ?_ fun h5 => ?_
    · unfold u4
      refine Within.comp ?_ (State.raise_within _ _) rfl
      refine Within.comp ?_ (State.lower_within _ _) rfl
      refine Within.comp ?_ (State.put_within _ _ _) rfl
      refine Within.comp ?_ (State.put_within _ _ _) rfl
      exact h3
    clear_value u4
    refine Within.comp ?_ (logWrite_within _ _ _ _) rfl
    refine Within.comp ?_ (rollback_within _ _) rfl
    refine Within.comp ?_ (markSec_within _ _ _) rfl
    refine Within.comp ?_ (State.setRegN_within _ _ _) rfl
    exact h5

theorem execViewRelease_answers (p : Path) (s : State) :
    Answers (execViewRelease p s) (Within [.regs, .bil, .out] s) := by
  unfold execViewRelease
  refine Answers.next ?_
  refine Within.trans ?_ (hostOwn_within (fun a0 => ?_) rfl)
  · exact Within.refl _ _
  · exact (viewRelease_within _).sub rfl

theorem execViewSnapTimeout_answers (s : State) :
    Answers (execViewSnapTimeout s) (Within [.regs, .bil] s) := by
  unfold execViewSnapTimeout
  refine Answers.next ?_
  exact (viewRelease_within _).sub rfl

theorem execCreditTransferReceive_answers (amount : Int) (number : Nat) (src : Nat) (s : State) :
    Answers (execCreditTransferReceive amount number src s) (Within [.regs, .bil, .logs] s) := by
  unfold execCreditTransferReceive
  refine Answers.next ?_
  exact (creditTransfer_within _ _ _ _).sub rfl

theorem submitTable_within (src : Nat) (t : Tariff) (s : State) :
    Within [.regs, .bil, .logs] s (submitTable src t s).2 := by
  unfold submitTable
  refine Within.ite2 ?_ ?_
  · extract_lets +onlyGivenNames -merge -underBinder j1 u0
    refine Within.step (t := u0) ?_ fun h2 => ?_
    · unfold u0
      refine Within.comp ?_ (State.raise_within _ _) rfl
      refine Within.comp ?_ (State.put_within _ _ _) rfl
      refine Within.comp ?_ (Within.upd_bil _ _) rfl
      exact Within.refl _ _
    clear_value u0
    extract_lets +onlyGivenNames -merge -underBinder u3
    refine Within.step (t := u3) ?_ fun h4 => ?_
    · unfold u3
      refine Within.comp ?_ (State.setRegN_within _ _ _) rfl
      exact h2
    clear_value u3
    refine Within.ite ?_ ?_
    · refine Within.comp ?_ (activate_within _ _) rfl
      exact h4
    · exact h4
  · refine Within.comp ?_ (logWrite_within _ _ _ _) rfl
    exact (State.raise_within _ _).sub rfl

theorem confirm_within (s : State) :
    Within [.regs, .bil] s (confirm s) := by
  unfold confirm
  extract_lets +onlyGivenNames -merge -underBinder sec0
  extract_lets +onlyGivenNames -merge -underBinder rate1
  extract_lets +onlyGivenNames -merge -underBinder differs2
  extract_lets +onlyGivenNames -merge -underBinder fix3
  extract_lets +onlyGivenNames -merge -underBinder j5 t4
  refine Within.step (t := t4) ?_ fun h6 => ?_
  · unfold t4
    refine Within.comp ?_ (Within.upd_bil _ _) rfl
    exact Within.refl _ _
  clear_value t4
  refine Within.ite ?_ ?_
  · refine Within.comp ?_ (rollback_within _ _) rfl
    exact h6
  · exact h6

theorem wbMakeRoom_within (s : State) :
    Within [.regs, .bil, .logs] s (wbMakeRoom s) := by
  unfold wbMakeRoom
  refine Within.ite ?_ ?_
  · exact Within.refl _ _
  · refine Within.ite ?_ ?_
    · refine Within.comp ?_ (wbSkip_within _) rfl
      refine Within.comp ?_ (Within.upd_bil _ _) rfl
      exact Within.refl _ _
    · exact Within.refl _ _

theorem intervalWaybill_within (status : Nat) (tStart : Nat) (tEnd : Nat) (blkEnd : Nat) (rate : Nat) (s : State) :
    Within [.regs, .bil, .logs] s (intervalWaybill status tStart tEnd blkEnd rate s) := by
  unfold intervalWaybill
  refine Within.ite ?_ ?_
  · refine Within.ite ?_ ?_
    · exact (wbSkip_within _).sub rfl
    · extract_lets +onlyGivenNames -merge -underBinder body0
      exact (wbStore_within _ _).sub rfl
  · exact Within.refl _ _

theorem sessionWaybills_within (sec : Nat) (blkEnd : Nat) (rate : Nat) (s : State) :
    Within [.regs, .bil, .logs] s (sessionWaybills sec blkEnd rate s) := by
  unfold sessionWaybills
  extract_lets +onlyGivenNames -merge -underBinder ended0
  extract_lets +onlyGivenNames -merge -underBinder t1
  refine Within.step (t := t1) ?_ fun h2 => ?_
  · unfold t1
    refine Within.trans ?_ (Within.foldl (fun v3 v4 => ?_) _)
    · exact Within.refl _ _
    · extract_lets +onlyGivenNames -merge -underBinder t5
      refine Within.step (t := t5) ?_ fun h6 => ?_
      · unfold t5
        exact (wbMakeRoom_within _).sub rfl
      clear_value t5
      refine Within.comp ?_ (wbStore_within _ _) rfl
      exact h6
  clear_value t1
  refine Within.comp ?_ (Within.upd_bil _ _) rfl
  exact h2

theorem lateLp1_within (sec : Nat) (pdn : Nat) (s : State) :
    Within [.regs, .bil, .logs] s (lateLp1 sec pdn s) := by
  unfold lateLp1
  extract_lets +onlyGivenNames -merge -underBinder r0
  extract_lets +onlyGivenNames -merge -underBinder e1
  refine Within.ite ?_ ?_
  · extract_lets +onlyGivenNames -merge -underBinder st2
    refine Within.comp ?_ (intervalWaybill_within _ _ _ _ _ _) rfl
    exact (captureLp1_within _ _ _).sub rfl
  · exact Within.refl _ _

theorem secondEvents_within (c : CommitInfo) (hws : Nat) (split : Bool) (s : State) :
    Within [.regs, .params, .parNext, .bil, .logs] s (secondEvents c hws split s) := by
  unfold secondEvents
  extract_lets +onlyGivenNames -merge -underBinder fresh0
  extract_lets +onlyGivenNames -merge -underBinder dEnd1
  extract_lets +onlyGivenNames -merge -underBinder iEnd2
  extract_lets +onlyGivenNames -merge -underBinder s13
  refine Within.step (t := s13) ?_ fun h4 => ?_
  · unfold s13
    refine Within.ite ?_ ?_
    · exact (demandClose_within _ _ _).sub rfl
    · exact Within.refl _ _
  clear_value s13
  extract_lets +onlyGivenNames -merge -underBinder cut5
  extract_lets +onlyGivenNames -merge -underBinder st16
  extract_lets +onlyGivenNames -merge -underBinder start17
  extract_lets +onlyGivenNames -merge -underBinder s28
  refine Within.step (t := s28) ?_ fun h9 => ?_
  · unfold s28
    refine Within.ite ?_ ?_
    · refine Within.comp ?_ (captureLp1_within _ _ _) rfl
      exact h4
    · exact h4
  clear_value s28
  extract_lets +onlyGivenNames -merge -underBinder late10
  split
  · extract_lets +onlyGivenNames -merge -underBinder s311
    refine Within.step (t := s311) ?_ fun h12 => ?_
    · unfold s311
      refine Within.ite ?_ ?_
      · refine Within.comp ?_ (captureLp2_within _ _ _) rfl
        exact h9
      · exact h9
    clear_value s311
    extract_lets +onlyGivenNames -merge -underBinder s413
    refine Within.step (t := s413) ?_ fun h14 => ?_
    · unfold s413
      refine Within.ite ?_ ?_
      · refine Within.comp ?_ (periodEnd_within _ _ _) rfl
        exact h12
      · exact h12
    clear_value s413
    extract_lets +onlyGivenNames -merge -underBinder s515
    refine Within.step (t := s515) ?_ fun h16 => ?_
    · unfold s515
      refine Within.ite ?_ ?_
      · refine Within.comp ?_ (intervalWaybill_within _ _ _ _ _ _) rfl
        exact h14
      · exact h14
    clear_value s515
    extract_lets +onlyGivenNames -merge -underBinder s617
    refine Within.step (t := s617) ?_ fun h18 => ?_
    · unfold s617
      refine Within.comp ?_ (sessionWaybills_within _ _ _ _) rfl
      exact h16
    clear_value s617
    extract_lets +onlyGivenNames -merge -underBinder s719
    refine Within.step (t := s719) ?_ fun h20 => ?_
    · unfold s719
      split
      · refine Within.ite ?_ ?_
        · refine Within.comp ?_ (activate_within _ _) rfl
          exact h18
        · exact h18
      · exact h18
    clear_value s719
    extract_lets +onlyGivenNames -merge -underBinder s821
    refine Within.step (t := s821) ?_ fun h22 => ?_
    · unfold s821
      refine Within.ite ?_ ?_
      · refine Within.comp ?_ (applyNext_within _) rfl
        exact h20
      · exact h20
    clear_value s821
    refine Within.comp ?_ (Within.upd_bil _ _) rfl
    exact h22

theorem lateEvents_within (sec : Nat) (s : State) :
    Within [.regs, .bil, .logs] s (lateEvents sec s) := by
  unfold lateEvents
  refine Within.ite ?_ ?_
  · extract_lets +onlyGivenNames -merge -underBinder pdn0
    extract_lets +onlyGivenNames -merge -underBinder t1
    refine Within.step (t := t1) ?_ fun h2 => ?_
    · unfold t1
      refine Within.comp ?_ (lateDay_within _ _ _) rfl
      refine Within.comp ?_ (lateLp1_within _ _ _) rfl
      exact (lateDemand_within _ _).sub rfl
    clear_value t1
    refine Within.comp ?_ (Within.upd_bil _ _) rfl
    exact h2
  · exact Within.refl _ _

theorem commitTake_within (sec : Nat) (es : List Pend) (extra : Nat) (split : Bool) (s : State) :
    Within [.regs, .params, .x01, .parNext, .bil, .logs] s (commitTake sec es extra split s) := by
  unfold commitTake
  extract_lets +onlyGivenNames -merge -underBinder status0
  extract_lets +onlyGivenNames -merge -underBinder sums1
  split
  · extract_lets +onlyGivenNames -merge -underBinder hws2
    extract_lets +onlyGivenNames -merge -underBinder taken3
    extract_lets +onlyGivenNames -merge -underBinder acc4
    extract_lets +onlyGivenNames -merge -underBinder d5
    extract_lets +onlyGivenNames -merge -underBinder blkEnd6
    extract_lets +onlyGivenNames -merge -underBinder dmd7
    extract_lets +onlyGivenNames -merge -underBinder j9 b8
    extract_lets +onlyGivenNames -merge -underBinder t10
    refine Within.step (t := t10) ?_ fun h11 => ?_
    · unfold t10
      refine Within.comp ?_ (creditUpdate_within _ _) rfl
      refine Within.comp ?_ (prepayDebit_within _ _ _) rfl
      refine Within.comp ?_ (applyTransfers_within _) rfl
      refine Within.comp ?_ (Within.upd_bil _ _) rfl
      exact Within.refl _ _
    clear_value t10
    extract_lets +onlyGivenNames -merge -underBinder miss12
    extract_lets +onlyGivenNames -merge -underBinder est13
    extract_lets +onlyGivenNames -merge -underBinder t14
    refine Within.step (t := t14) ?_ fun h15 => ?_
    · unfold t14
      refine Within.ite ?_ ?_
      · refine Within.comp ?_ (logPut_within _ _ _ _ _ _) rfl
        refine Within.comp ?_ (State.raise_within _ _) rfl
        refine Within.comp ?_ (State.bumpReg_within _ _ _) rfl
        exact h11
      · exact h11
    clear_value t14
    extract_lets +onlyGivenNames -merge -underBinder t16
    refine Within.step (t := t16) ?_ fun h17 => ?_
    · unfold t16
      refine Within.ite ?_ ?_
      · refine Within.comp ?_ (logPut_within _ _ _ _ _ _) rfl
        refine Within.comp ?_ (State.raise_within _ _) rfl
        refine Within.comp ?_ (State.bumpReg_within _ _ _) rfl
        exact h15
      · exact h15
    clear_value t16
    extract_lets +onlyGivenNames -merge -underBinder t18
    refine Within.step (t := t18) ?_ fun h19 => ?_
    · unfold t18
      refine Within.ite ?_ ?_
      · refine Within.comp ?_ (logPut_within _ _ _ _ _ _) rfl
        refine Within.comp ?_ (State.raise_within _ _) rfl
        exact h17
      · exact h17
    clear_value t18
    extract_lets +onlyGivenNames -merge -underBinder t20
    refine Within.step (t := t20) ?_ fun h21 => ?_
    · unfold t20
      refine Within.comp ?_ (State.setRegN_within _ _ _) rfl
      refine Within.comp ?_ (State.setRegN_within _ _ _) rfl
      refine Within.comp ?_ (State.setRegN_within _ _ _) rfl
      exact h19
    clear_value t20
    extract_lets +onlyGivenNames -merge -underBinder t22
    refine Within.step (t := t22) ?_ fun h23 => ?_
    · unfold t22
      refine Within.comp ?_ (showPend_within _) rfl
      refine Within.comp ?_ (showCredit_within _) rfl
      refine Within.comp ?_ (showDemand_within _) rfl
      exact h21
    clear_value t22
    extract_lets +onlyGivenNames -merge -underBinder t24
    refine Within.step (t := t24) ?_ fun h25 => ?_
    · unfold t24
      split
      · refine Within.comp ?_ (Within.upd_x01 _ _) rfl
        exact h23
      · exact h23
    clear_value t24
    refine Within.comp ?_ (secondEvents_within _ _ _ _) rfl
    exact h25

theorem commitSecond_within (sec : Nat) (es : List Pend) (extra : Nat) (split : Bool) (s : State) :
    Within [.regs, .params, .x01, .parNext, .bil, .logs] s (commitSecond sec es extra split s) := by
  unfold commitSecond
  refine Within.comp ?_ (commitTake_within _ _ _ _ _) rfl
  exact (lateEvents_within _ _).sub rfl

theorem commitDue_within (extra : Nat) (split : Bool) (s : State) :
    Within [.regs, .params, .x01, .parNext, .bil, .logs] s (commitDue extra split s) := by
  unfold commitDue
  split
  · exact Within.refl _ _
  · refine Within.ite ?_ ?_
    · exact Within.refl _ _
    · refine Within.comp ?_ (showHold_within _) rfl
      exact (commitSecond_within _ _ _ _ _).sub rfl

theorem forcedCommit_within (s : State) :
    Within [.regs, .params, .x01, .parNext, .bil, .logs] s (forcedCommit s) := by
  unfold forcedCommit
  extract_lets +onlyGivenNames -merge -underBinder note0
  have h1 : ∀ v2 v3, Within [.regs, .params, .x01, .parNext, .bil, .logs] v3 (note0 v2 v3) := by
    intro v2 v3
    unfold note0
    refine Within.comp ?_ (logWrite_within _ _ _ _) rfl
    refine Within.comp ?_ (State.raise_within _ _) rfl
    exact (State.bump_within _ _ _).sub rfl
  clear_value note0
  split
  · refine Within.trans ?_ (h1 _ _)
    exact (commitDue_within _ _ _).sub rfl
  · split
    · exact Within.refl _ _
    · refine Within.trans ?_ (h1 _ _)
      exact (commitSecond_within _ _ _ _ _).sub rfl

theorem takeRecord_within (s : State) :
    Within [.regs, .params, .x00, .x01, .parNext, .bil, .logs] s (takeRecord s) := by
  unfold takeRecord
  split
  · exact Within.refl _ _
  · extract_lets +onlyGivenNames -merge -underBinder t0
    refine Within.step (t := t0) ?_ fun h1 => ?_
    · unfold t0
      refine Within.comp ?_ (Within.upd_x00 _ _) rfl
      exact Within.refl _ _
    clear_value t0
    refine Within.ite ?_ ?_
    · refine Within.comp ?_ (State.raise_within _ _) rfl
      refine Within.comp ?_ (Within.upd_bil _ _) rfl
      exact h1
    · extract_lets +onlyGivenNames -merge -underBinder u2
      refine Within.step (t := u2) ?_ fun h3 => ?_
      · unfold u2
        refine Within.comp ?_ (attrRecord_within _ _) rfl
        exact h1
      clear_value u2
      refine Within.ite ?_ ?_
      · refine Within.ite ?_ ?_
        · refine Within.comp ?_ (State.raise_within _ _) rfl
          refine Within.comp ?_ (Within.upd_bil _ _) rfl
          exact h3
        · exact h3
      · refine Within.ite ?_ ?_
        · refine Within.comp ?_ (forcedCommit_within _) rfl
          exact h3
        · exact h3

theorem execBlockRecordAttribute_answers (s : State) :
    Answers (execBlockRecordAttribute s) (Within [.regs, .params, .x00, .x01, .parNext, .bil, .logs] s) := by
  unfold execBlockRecordAttribute
  refine Answers.next ?_
  exact (takeRecord_within _).sub rfl

theorem noteSkipped_within (fromSec : Nat) (toSec : Nat) (s : State) :
    Within [.bil] s (noteSkipped fromSec toSec s) := by
  unfold noteSkipped
  extract_lets +onlyGivenNames -merge -underBinder a0
  extract_lets +onlyGivenNames -merge -underBinder b1
  extract_lets +onlyGivenNames -merge -underBinder c2
  refine Within.ite ?_ ?_
  · exact Within.refl _ _
  · refine Within.comp ?_ (Within.upd_bil _ _) rfl
    exact Within.refl _ _

theorem markAdjusted_within (s : State) :
    Within [.bil] s (markAdjusted s) := by
  unfold markAdjusted
  refine Within.comp ?_ (Within.upd_bil _ _) rfl
  exact Within.refl _ _

theorem outageBurst_within (rms : List Nat) (s : State) :
    Within [.btm] s (outageBurst rms s) := by
  unfold outageBurst
  split
  · exact Within.refl _ _
  · refine Within.ite ?_ ?_
    · extract_lets +onlyGivenNames -merge -underBinder big0
      extract_lets +onlyGivenNames -merge -underBinder role1
      extract_lets +onlyGivenNames -merge -underBinder with_2
      extract_lets +onlyGivenNames -merge -underBinder o3
      refine Within.comp ?_ (Within.upd_btm _ _) rfl
      exact Within.refl _ _
    · exact Within.refl _ _

theorem sendPending_within (s : State) :
    Within [.parPend, .parNext, .corrSent] s (sendPending s) := by
  unfold sendPending
  extract_lets +onlyGivenNames -merge -underBinder corr0
  extract_lets +onlyGivenNames -merge -underBinder rest1
  refine Within.comp ?_ (Within.upd_parPend_parNext_corrSent _ _ _ _) rfl
  exact Within.refl _ _

theorem execOutageBurst_answers (rms : List Nat) (s : State) :
    Answers (execOutageBurst rms s) (Within [.btm] s) := by
  unfold execOutageBurst
  refine Answers.next ?_
  exact (outageBurst_within _ _).sub rfl

theorem showTrim_within (s : State) :
    Within [.regs] s (showTrim s) := by
  unfold showTrim
  exact (State.put_within _ _ _).sub rfl

theorem takeStep_within (x : ClockStep) (s : State) :
    Within [.btm, .logs] s (takeStep x s) := by
  unfold takeStep
  extract_lets +onlyGivenNames -merge -underBinder t0
  refine Within.step (t := t0) ?_ fun h1 => ?_
  · unfold t0
    split
    · exact (logWrite_within _ _ _ _).sub rfl
    · exact Within.refl _ _
  clear_value t0
  refine Within.comp ?_ (Within.upd_btm _ _) rfl
  exact h1

theorem dieMeasured_within (temp : Int) (s : State) :
    Within [.regs, .mem] s (dieMeasured temp s) := by
  unfold dieMeasured
  extract_lets +onlyGivenNames -merge -underBinder t0
  refine Within.step (t := t0) ?_ fun h1 => ?_
  · unfold t0
    exact (State.put_within _ _ _).sub rfl
  clear_value t0
  extract_lets +onlyGivenNames -merge -underBinder top2
  extract_lets +onlyGivenNames -merge -underBinder t3
  refine Within.step (t := t3) ?_ fun h4 => ?_
  · unfold t3
    refine Within.comp ?_ (State.put_within _ _ _) rfl
    exact h1
  clear_value t3
  refine Within.comp ?_ (Within.upd_mem _ _ rfl) rfl
  exact h4

theorem execLearnedTrimStore_answers (mean : Int) (s : State) :
    Answers (execLearnedTrimStore mean s) (Within [.regs] s) := by
  unfold execLearnedTrimStore
  refine Answers.next ?_
  refine Within.ite ?_ ?_
  · refine Within.comp ?_ (showTrim_within _) rfl
    exact (State.put_within _ _ _).sub rfl
  · exact Within.refl _ _

theorem tamperChange_within (i : Nat) (isOpen : Bool) (s : State) :
    Within [.regs, .btm, .logs] s (tamperChange i isOpen s) := by
  unfold tamperChange
  extract_lets +onlyGivenNames -merge -underBinder code0
  extract_lets +onlyGivenNames -merge -underBinder t1
  refine Within.step (t := t1) ?_ fun h2 => ?_
  · unfold t1
    exact (State.putB_within _ _ _).sub rfl
  clear_value t1
  extract_lets +onlyGivenNames -merge -underBinder t3
  refine Within.step (t := t3) ?_ fun h4 => ?_
  · unfold t3
    refine Within.comp ?_ (State.raise_within _ _) rfl
    exact h2
  clear_value t3
  extract_lets +onlyGivenNames -merge -underBinder t5
  refine Within.step (t := t5) ?_ fun h6 => ?_
  · unfold t5
    refine Within.ite ?_ ?_
    · refine Within.comp ?_ (State.bump_within _ _ _) rfl
      exact h4
    · exact h4
  clear_value t5
  refine Within.ite ?_ ?_
  · refine Within.ite ?_ ?_
    · refine Within.comp ?_ (Within.upd_btm _ _) rfl
      exact h6
    · extract_lets +onlyGivenNames -merge -underBinder __src7
      refine Within.step (t := __src7) ?_ fun h8 => ?_
      · unfold __src7
        refine Within.comp ?_ (State.raise_within _ _) rfl
        exact h6
      clear_value __src7
      refine Within.comp ?_ (Within.upd_btm _ _) rfl
      exact h8
  · extract_lets +onlyGivenNames -merge -underBinder u9
    refine Within.step (t := u9) ?_ fun h10 => ?_
    · unfold u9
      refine Within.comp ?_ (logWrite_within _ _ _ _) rfl
      exact h6
    clear_value u9
    refine Within.ite ?_ ?_
    · refine Within.comp ?_ (State.putBit_within _ _ _ _) rfl
      exact h10
    · exact h10

theorem execRtcTemperatureTrim_answers (temp : Int) (s : State) :
    Answers (execRtcTemperatureTrim temp s) (Within [.regs, .btm, .mem] s) := by
  unfold execRtcTemperatureTrim
  refine Answers.awake ?_
  refine Answers.next ?_
  refine Within.comp ?_ (showTrim_within _) rfl
  refine Within.comp ?_ (dieMeasured_within _ _) rfl
  refine Within.comp ?_ (Within.upd_btm _ _) rfl
  exact Within.refl _ _

theorem tamperPoll_within (i : Nat) (isOpen : Bool) (s : State) :
    Within [.regs, .btm, .logs] s (tamperPoll i isOpen s) := by
  unfold tamperPoll
  extract_lets +onlyGivenNames -merge -underBinder v0
  extract_lets +onlyGivenNames -merge -underBinder last1
  extract_lets +onlyGivenNames -merge -underBinder j3 t2
  refine Within.step (t := t2) ?_ fun h4 => ?_
  · unfold t2
    refine Within.comp ?_ (Within.upd_btm _ _) rfl
    exact Within.refl _ _
  clear_value t2
  refine Within.ite ?_ ?_
  · refine Within.comp ?_ (tamperChange_within _ _ _) rfl
    exact h4
  · exact h4

theorem refuseAdjust_within (src : Nat) (delta : Int) (s : State) :
    Within [.regs, .logs] s (refuseAdjust src delta s) := by
  unfold refuseAdjust
  refine Within.comp ?_ (logWrite_within _ _ _ _) rfl
  exact (State.raise_within _ _).sub rfl

theorem startSlew_within (src : Nat) (ms : Int) (s : State) :
    Within [.regs, .btm, .logs] s (startSlew src ms s) := by
  unfold startSlew
  refine Within.comp ?_ (logWrite_within _ _ _ _) rfl
  refine Within.comp ?_ (State.raise_within _ _) rfl
  refine Within.comp ?_ (State.setRegI_within _ _ _) rfl
  refine Within.comp ?_ (Within.upd_btm _ _) rfl
  exact Within.refl _ _

theorem execDstChange_answers (s : State) :
    Answers (execDstChange s) (Within [.regs, .logs] s) := by
  unfold execDstChange
  extract_lets +onlyGivenNames -merge -underBinder on0
  refine Answers.next ?_
  refine Within.ite ?_ ?_
  · exact Within.refl _ _
  · refine Within.comp ?_ (logWrite_within _ _ _ _) rfl
    exact (State.putB_within _ _ _).sub rfl

theorem slewTick_within (s : State) :
    Within [.regs, .btm] s (slewTick s) := by
  unfold slewTick
  extract_lets +onlyGivenNames -merge -underBinder v0
  refine Within.comp ?_ (State.setRegI_within _ _ _) rfl
  refine Within.comp ?_ (Within.upd_btm _ _) rfl
  exact Within.refl _ _

theorem slewStop_within (s : State) :
    Within [.regs, .btm] s (slewStop s) := by
  unfold slewStop
  refine Within.comp ?_ (State.lower_within _ _) rfl
  refine Within.comp ?_ (State.setRegI_within _ _ _) rfl
  refine Within.comp ?_ (Within.upd_btm _ _) rfl
  exact Within.refl _ _

theorem clockAdjust_within (src : Nat) (deltaMs : Int) (target : Nat) (reset : Bool) (s : State) :
    Within [.regs, .btm, .logs] s (clockAdjust src deltaMs target reset s) := by
  unfold clockAdjust
  extract_lets +onlyGivenNames -merge -underBinder d0
  extract_lets +onlyGivenNames -merge -underBinder hws1
  refine Within.ite ?_ ?_
  · exact (refuseAdjust_within _ _ _).sub rfl
  · refine Within.ite ?_ ?_
    · exact (takeStep_within _ _).sub rfl
    · refine Within.ite ?_ ?_
      · exact (takeStep_within _ _).sub rfl
      · refine Within.ite ?_ ?_
        · exact (startSlew_within _ _ _).sub rfl
        · refine Within.ite ?_ ?_
          · exact (State.raise_within _ _).sub rfl
          · refine Within.ite ?_ ?_
            · exact (takeStep_within _ _).sub rfl
            · exact (refuseAdjust_within _ _ _).sub rfl

theorem execSlewComplete_answers (s : State) :
    Answers (execSlewComplete s) (Within [.regs, .btm] s) := by
  unfold execSlewComplete
  refine Answers.next ?_
  refine Within.ite ?_ ?_
  · exact (slewStop_within _).sub rfl
  · exact Within.refl _ _

theorem plainTick_within (s : State) :
    Within [.regs, .parPend, .parNext, .corrSent, .bil, .btm] s (plainTick s) := by
  unfold plainTick
  extract_lets +onlyGivenNames -merge -underBinder t0
  refine Within.step (t := t0) ?_ fun h1 => ?_
  · unfold t0
    refine Within.comp ?_ (slewTick_within _) rfl
    exact (confirm_within _).sub rfl
  clear_value t0
  extract_lets +onlyGivenNames -merge -underBinder sec2
  extract_lets +onlyGivenNames -merge -underBinder held3
  extract_lets +onlyGivenNames -merge -underBinder __src5
  refine Within.step (t := __src5) ?_ fun h6 => ?_
  · unfold __src5
    refine Within.comp ?_ (State.setRegN_within _ _ _) rfl
    exact h1
  clear_value __src5
  extract_lets +onlyGivenNames -merge -underBinder j8 j9 u7
  refine Within.step (t := u7) ?_ fun h10 => ?_
  · unfold u7
    refine Within.comp ?_ (Within.upd_bil_btm _ _ _) rfl
    exact h6
  clear_value u7
  refine Within.comp ?_ (showHold_within _) rfl
  refine Within.ite ?_ ?_
  · refine Within.comp ?_ (sendPending_within _) rfl
    exact h10
  · exact h10

theorem applyCorrections_within (s : State) :
    Within [.regs, .params, .pts, .corrSent, .logs] s (applyCorrections s) := by
  unfold applyCorrections
  split
  · exact Within.refl _ _
  · extract_lets +onlyGivenNames -merge -underBinder old0
    extract_lets +onlyGivenNames -merge -underBinder set1
    extract_lets +onlyGivenNames -merge -underBinder t2
    refine Within.step (t := t2) ?_ fun h3 => ?_
    · unfold t2
      refine Within.comp ?_ (Within.upd_corrSent _ _) rfl
      exact Within.refl _ _
    clear_value t2
    refine Within.ite ?_ ?_
    · exact h3
    · extract_lets +onlyGivenNames -merge -underBinder u4
      refine Within.step (t := u4) ?_ fun h5 => ?_
      · unfold u4
        refine Within.trans ?_ (Within.foldl (fun v6 v7 => ?_) _)
        · exact h3
        · exact (State.setPar_within _ _ _).sub rfl
      clear_value u4
      extract_lets +onlyGivenNames -merge -underBinder u8
      refine Within.step (t := u8) ?_ fun h9 => ?_
      · unfold u8
        refine Within.trans ?_ (Within.upTo (fun v10 v11 => ?_) _)
        · exact h5
        · refine Within.comp ?_ (modRail_within _ _ _) rfl
          exact (railCorr_within _ _ _).sub rfl
      clear_value u8
      refine Within.comp ?_ (logWrite_within _ _ _ _) rfl
      refine Within.comp ?_ (State.raise_within _ _) rfl
      exact h9

theorem clockSet_within (src : Nat) (newMs : Nat) (frac : Nat) (reset : Bool) (s : State) :
    Within [.regs, .btm, .logs] s (clockSet src newMs frac reset s) := by
  unfold clockSet
  exact (clockAdjust_within _ _ _ _ _).sub rfl

theorem execClockSetGo_answers (p : Path) (frac : Nat) (s : State) :
    Answers (execClockSetGo p frac s) (Within [.regs, .btm, .logs, .out] s) := by
  unfold execClockSetGo
  refine Answers.next ?_
  refine Within.trans ?_ (hostOwn_within (fun a0 => ?_) rfl)
  · exact Within.refl _ _
  · refine Within.trans ?_ (toIsland_within (fun a0 => ?_) rfl)
    · exact Within.refl _ _
    · exact (clockSet_within _ _ _ _ _).sub rfl

theorem execCorrectionSetApply_answers (s : State) :
    Answers (execCorrectionSetApply s) (Within [.regs, .params, .pts, .corrSent, .logs] s) := by
  unfold execCorrectionSetApply
  refine Answers.awake ?_
  refine Answers.next ?_
  exact (applyCorrections_within _).sub rfl

theorem execClockAdjustment_answers (src : Nat) (newMs : Nat) (frac : Nat) (s : State) :
    Answers (execClockAdjustment src newMs frac s) (Within [.regs, .btm, .logs] s) := by
  unfold execClockAdjustment
  refine Answers.next ?_
  exact (clockSet_within _ _ _ _ _).sub rfl

theorem execClockReset_answers (p : Path) (frac : Nat) (s : State) :
    Answers (execClockReset p frac s) (Within [.regs, .btm, .logs, .out] s) := by
  unfold execClockReset
  refine Answers.next ?_
  refine Within.trans ?_ (hostOwn_within (fun a0 => ?_) rfl)
  · exact Within.refl _ _
  · refine Within.trans ?_ (toIsland_within (fun a0 => ?_) rfl)
    · exact Within.refl _ _
    · exact (clockSet_within _ _ _ _ _).sub rfl

theorem commitAll_within (extra : Nat) (split : Bool) (x : Nat) (x3 : State) :
    Within [.regs, .params, .x01, .parNext, .bil, .logs] x3 (commitAll extra split x x3) := by
  induction x generalizing extra split x3 with
  | zero =>
    unfold commitAll
    exact Within.refl _ _
  | succ k ih =>
    unfold commitAll
    refine Within.comp ?_ (ih _ _ _) rfl
    exact (commitDue_within _ _ _).sub rfl

theorem commitEvery_within (extra : Nat) (split : Bool) (s : State) :
    Within [.regs, .params, .x01, .parNext, .bil, .logs] s (commitEvery extra split s) := by
  unfold commitEvery
  exact (commitAll_within _ _ _ _).sub rfl

theorem applyStep_within (x : ClockStep) (s : State) :
    Within [.regs, .params, .x01, .parPend, .parNext, .corrSent, .bil, .btm, .logs] s (applyStep x s) := by
  unfold applyStep
  extract_lets +onlyGivenNames -merge -underBinder t0
  refine Within.step (t := t0) ?_ fun h1 => ?_
  · unfold t0
    refine Within.comp ?_ (State.setRegN_within _ _ _) rfl
    exact (confirm_within _).sub rfl
  clear_value t0
  extract_lets +onlyGivenNames -merge -underBinder t2
  refine Within.step (t := t2) ?_ fun h3 => ?_
  · unfold t2
    refine Within.comp ?_ (commitAll_within _ _ _ _) rfl
    exact h1
  clear_value t2
  extract_lets +onlyGivenNames -merge -underBinder t4
  refine Within.step (t := t4) ?_ fun h5 => ?_
  · unfold t4
    refine Within.ite ?_ ?_
    · refine Within.comp ?_ (noteSkipped_within _ _ _) rfl
      exact h3
    · exact h3
  clear_value t4
  extract_lets +onlyGivenNames -merge -underBinder t6
  refine Within.step (t := t6) ?_ fun h7 => ?_
  · unfold t6
    refine Within.comp ?_ (markAdjusted_within _) rfl
    refine Within.comp ?_ (slewStop_within _) rfl
    refine Within.comp ?_ (commitEvery_within _ _ _) rfl
    exact h5
  clear_value t6
  extract_lets +onlyGivenNames -merge -underBinder t8
  refine Within.step (t := t8) ?_ fun h9 => ?_
  · unfold t8
    refine Within.comp ?_ (State.raise_within _ _) rfl
    refine Within.comp ?_ (State.setRegI_within _ _ _) rfl
    exact h7
  clear_value t8
  extract_lets +onlyGivenNames -merge -underBinder j11 j12 t10
  refine Within.step (t := t10) ?_ fun h13 => ?_
  · unfold t10
    refine Within.comp ?_ (sendPending_within _) rfl
    refine Within.comp ?_ (Within.upd_bil_btm _ _ _) rfl
    exact h9
  clear_value t10
  extract_lets +onlyGivenNames -merge -underBinder t14
  refine Within.step (t := t14) ?_ fun h15 => ?_
  · unfold t14
    refine Within.ite ?_ ?_
    · exact h13
    · refine Within.comp ?_ (State.raise_within _ _) rfl
      exact h13
  clear_value t14
  extract_lets +onlyGivenNames -merge -underBinder t16
  refine Within.step (t := t16) ?_ fun h17 => ?_
  · unfold t16
    refine Within.comp ?_ (logWrite_within _ _ _ _) rfl
    exact h15
  clear_value t16
  refine Within.ite ?_ ?_
  · refine Within.comp ?_ (State.setRegN_within _ _ _) rfl
    exact h17
  · exact h17

theorem nextTick_within (s : State) :
    Within [.regs, .params, .x01, .parPend, .parNext, .corrSent, .bil, .btm, .logs] s (nextTick s) := by
  unfold nextTick
  split
  · refine Within.ite ?_ ?_
    · refine Within.comp ?_ (plainTick_within _) rfl
      refine Within.comp ?_ (State.setRegN_within _ _ _) rfl
      refine Within.comp ?_ (Within.upd_btm _ _) rfl
      exact Within.refl _ _
    · refine Within.ite ?_ ?_
      · exact (plainTick_within _).sub rfl
      · exact (applyStep_within _ _).sub rfl
  · exact (plainTick_within _).sub rfl

end Sys2Proof.Machine
end

