-- ==== Sys2Proof/Laws/Within2.lean ====
section
/-!
SUPPORT. Which parts of the state each operation changes, and that it keeps the invariant: the files of Machine/ named
SafCore, EarthFault, HostLevel, Grotto, Waybills, HostSession, Fabric, Health, HostView, LoadSwitch, Params, Sharing, Disconnect, Switching.
-/
namespace Sys2Proof.Machine

theorem report_within (r : SafReport) (s : State) :
    Within [.x03] s (report r s) := by
  unfold report
  refine Within.comp ?_ (Within.upd_x03 _ _) rfl
  exact Within.refl _ _

theorem pilotDemand_within (v : Nat) (s : State) :
    Within [.regs, .x19] s (pilotDemand v s) := by
  unfold pilotDemand
  refine Within.ite ?_ ?_
  · exact Within.refl _ _
  · extract_lets +onlyGivenNames -merge -underBinder __src0
    refine Within.step (t := __src0) ?_ fun h1 => ?_
    · unfold __src0
      exact (State.put_within _ _ _).sub rfl
    clear_value __src0
    refine Within.comp ?_ (Within.upd_x19 _ _) rfl
    exact h1

theorem causeEnd_within (n : Nat) (s : State) :
    Within [.regs] s (causeEnd n s) := by
  unfold causeEnd
  refine Within.ite ?_ ?_
  · exact Within.refl _ _
  · exact (State.putBit_within _ _ _ _).sub rfl

theorem setSo_within (n : Nat) (b : Bool) (s : State) :
    Within [.regs] s (setSo n b s) := by
  unfold setSo
  refine Within.comp ?_ (State.putBit_within _ _ _ _) rfl
  exact (State.putBit_within _ _ _ _).sub rfl

theorem lowSides_within (s : State) :
    Within [.regs] s (lowSides s) := by
  unfold lowSides
  extract_lets +onlyGivenNames -merge -underBinder keep0
  exact (State.put_within _ _ _).sub rfl

theorem contactorsOff_within (s : State) :
    Within [.regs, .btm, .saf, .x03] s (contactorsOff s) := by
  unfold contactorsOff
  extract_lets +onlyGivenNames -merge -underBinder moved0
  extract_lets +onlyGivenNames -merge -underBinder t1
  refine Within.step (t := t1) ?_ fun h2 => ?_
  · unfold t1
    refine Within.trans ?_ (Within.upTo (fun v3 v4 => ?_) _)
    · exact Within.refl _ _
    · refine Within.ite ?_ ?_
      · exact (setSo_within _ _ _).sub rfl
      · exact Within.refl _ _
  clear_value t1
  extract_lets +onlyGivenNames -merge -underBinder relay5
  extract_lets +onlyGivenNames -merge -underBinder t6
  refine Within.step (t := t6) ?_ fun h7 => ?_
  · unfold t6
    split
    · refine Within.ite ?_ ?_
      · extract_lets +onlyGivenNames -merge -underBinder __src8
        refine Within.step (t := __src8) ?_ fun h9 => ?_
        · unfold __src8
          refine Within.comp ?_ (setSo_within _ _ _) rfl
          exact h2
        clear_value __src8
        refine Within.comp ?_ (Within.upd_btm_saf _ _ _) rfl
        exact h9
      · exact h2
    · exact h2
  clear_value t6
  extract_lets +onlyGivenNames -merge -underBinder j11 j12 saf10
  extract_lets +onlyGivenNames -merge -underBinder t13
  refine Within.step (t := t13) ?_ fun h14 => ?_
  · unfold t13
    refine Within.comp ?_ (report_within _ _) rfl
    refine Within.comp ?_ (Within.upd_saf _ _) rfl
    exact h7
  clear_value t13
  refine Within.ite ?_ ?_
  · refine Within.comp ?_ (report_within _ _) rfl
    exact h14
  · exact h14

theorem gateAssert_within (s : State) :
    Within [.regs] s (gateAssert s) := by
  unfold gateAssert
  refine Within.comp ?_ (State.lower_within _ _) rfl
  refine Within.comp ?_ (State.raise_within _ _) rfl
  exact (State.raise_within _ _).sub rfl

theorem safLatch_within (n : Nat) (b : Bool) (s : State) :
    Within [.regs] s (safLatch n b s) := by
  unfold safLatch
  refine Within.ite ?_ ?_
  · exact Within.refl _ _
  · refine Within.comp ?_ (State.raise_within _ _) rfl
    exact (State.putBit_within _ _ _ _).sub rfl

theorem contactorsLater_within (s : State) :
    Within [.regs, .btm, .saf, .x03] s (contactorsLater s) := by
  unfold contactorsLater
  refine Within.ite ?_ ?_
  · exact (contactorsOff_within _).sub rfl
  · refine Within.comp ?_ (Within.upd_saf _ _) rfl
    exact Within.refl _ _

theorem stopElements_within (safe : Bool) (s : State) :
    Within [.regs, .btm, .saf, .x03, .x19] s (stopElements safe s) := by
  unfold stopElements
  extract_lets +onlyGivenNames -merge -underBinder t0
  refine Within.step (t := t0) ?_ fun h1 => ?_
  · unfold t0
    exact (gateAssert_within _).sub rfl
  clear_value t0
  extract_lets +onlyGivenNames -merge -underBinder t2
  refine Within.step (t := t2) ?_ fun h3 => ?_
  · unfold t2
    refine Within.ite ?_ ?_
    · refine Within.comp ?_ (lowSides_within _) rfl
      refine Within.comp ?_ (pilotDemand_within _ _) rfl
      exact h1
    · exact h1
  clear_value t2
  refine Within.comp ?_ (contactorsLater_within _) rfl
  exact h3

theorem safEnter_within (n : Nat) (s : State) :
    Within [.regs] s (safEnter n s) := by
  unfold safEnter
  refine Within.ite ?_ ?_
  · exact Within.refl _ _
  · refine Within.comp ?_ (State.raise_within _ _) rfl
    exact (State.put_within _ _ _).sub rfl

theorem allOff_within (s : State) :
    Within [.regs, .saf, .x19] s (allOff s) := by
  unfold allOff
  extract_lets +onlyGivenNames -merge -underBinder t0
  refine Within.step (t := t0) ?_ fun h1 => ?_
  · unfold t0
    refine Within.comp ?_ (safLatch_within _ _ _) rfl
    exact (State.putBit_within _ _ _ _).sub rfl
  clear_value t0
  extract_lets +onlyGivenNames -merge -underBinder t2
  refine Within.step (t := t2) ?_ fun h3 => ?_
  · unfold t2
    refine Within.ite ?_ ?_
    · refine Within.comp ?_ (State.bump_within _ _ _) rfl
      refine Within.comp ?_ (State.put_within _ _ _) rfl
      exact h1
    · exact h1
  clear_value t2
  extract_lets +onlyGivenNames -merge -underBinder t4
  refine Within.step (t := t4) ?_ fun h5 => ?_
  · unfold t4
    refine Within.comp ?_ (pilotDemand_within _ _) rfl
    refine Within.comp ?_ (gateAssert_within _) rfl
    refine Within.comp ?_ (safEnter_within _ _) rfl
    exact h3
  clear_value t4
  extract_lets +onlyGivenNames -merge -underBinder t6
  refine Within.step (t := t6) ?_ fun h7 => ?_
  · unfold t6
    refine Within.trans ?_ (Within.upTo (fun v8 v9 => ?_) _)
    · exact h5
    · exact (setSo_within _ _ _).sub rfl
  clear_value t6
  refine Within.comp ?_ (lowSides_within _) rfl
  refine Within.comp ?_ (Within.upd_saf _ _) rfl
  exact h7

theorem execContactorDelayExpiry_answers (s : State) :
    Answers (execContactorDelayExpiry s) (Within [.regs, .btm, .saf, .x03] s) := by
  unfold execContactorDelayExpiry
  refine Answers.awake ?_
  refine Answers.next ?_
  refine Within.ite ?_ ?_
  · exact (contactorsOff_within _).sub rfl
  · exact Within.refl _ _

theorem settle_within (s : State) :
    Within [.regs, .saf, .x03, .x19] s (settle s) := by
  unfold settle
  extract_lets +onlyGivenNames -merge -underBinder j1 t0
  refine Within.step (t := t0) ?_ fun h2 => ?_
  · unfold t0
    refine Within.ite ?_ ?_
    · refine Within.comp ?_ (Within.upd_saf _ _) rfl
      exact Within.refl _ _
    · exact Within.refl _ _
  clear_value t0
  extract_lets +onlyGivenNames -merge -underBinder free3
  extract_lets +onlyGivenNames -merge -underBinder blockC4
  extract_lets +onlyGivenNames -merge -underBinder ready5
  extract_lets +onlyGivenNames -merge -underBinder t6
  refine Within.step (t := t6) ?_ fun h7 => ?_
  · unfold t6
    refine Within.comp ?_ (State.putB_within _ _ _) rfl
    exact h2
  clear_value t6
  refine Within.ite ?_ ?_
  · refine Within.comp ?_ (report_within _ _) rfl
    refine Within.comp ?_ (lowSides_within _) rfl
    refine Within.comp ?_ (pilotDemand_within _ _) rfl
    refine Within.comp ?_ (State.lower_within _ _) rfl
    refine Within.comp ?_ (safEnter_within _ _) rfl
    exact h7
  · exact h7

theorem stopReaction_within (n : Nat) (s : State) :
    Within [.regs, .btm, .saf, .x03, .x19] s (stopReaction n s) := by
  unfold stopReaction
  refine Within.ite ?_ ?_
  · extract_lets +onlyGivenNames -merge -underBinder t0
    refine Within.step (t := t0) ?_ fun h1 => ?_
    · unfold t0
      refine Within.comp ?_ (State.put_within _ _ _) rfl
      exact (safEnter_within _ _).sub rfl
    clear_value t0
    refine Within.comp ?_ (report_within _ _) rfl
    refine Within.comp ?_ (stopElements_within _ _) rfl
    refine Within.comp ?_ (State.bump_within _ _ _) rfl
    exact h1
  · refine Within.ite ?_ ?_
    · refine Within.comp ?_ (report_within _ _) rfl
      refine Within.comp ?_ (stopElements_within _ _) rfl
      exact (safEnter_within _ _).sub rfl
    · exact (report_within _ _).sub rfl

theorem causeSet_within (n : Nat) (s : State) :
    Within [.regs, .btm, .saf, .x03, .x19] s (causeSet n s) := by
  unfold causeSet
  refine Within.ite ?_ ?_
  · exact Within.refl _ _
  · extract_lets +onlyGivenNames -merge -underBinder t0
    refine Within.step (t := t0) ?_ fun h1 => ?_
    · unfold t0
      exact (State.putBit_within _ _ _ _).sub rfl
    clear_value t0
    extract_lets +onlyGivenNames -merge -underBinder t2
    refine Within.step (t := t2) ?_ fun h3 => ?_
    · unfold t2
      refine Within.ite ?_ ?_
      · refine Within.comp ?_ (safLatch_within _ _ _) rfl
        exact h1
      · exact h1
    clear_value t2
    refine Within.ite ?_ ?_
    · exact h3
    · refine Within.comp ?_ (stopReaction_within _ _) rfl
      exact h3

theorem causeFollow_within (n : Nat) (b : Bool) (s : State) :
    Within [.regs, .btm, .saf, .x03, .x19] s (causeFollow n b s) := by
  unfold causeFollow
  refine Within.ite ?_ ?_
  · exact (causeSet_within _ _).sub rfl
  · exact (causeEnd_within _ _).sub rfl

theorem setImd_within (r : ImdState) (s : State) :
    Within [.saf] s (setImd r s) := by
  unfold setImd
  refine Within.comp ?_ (Within.upd_saf _ _) rfl
  exact Within.refl _ _

theorem tripPass_within (s : State) :
    Within [.saf] s (tripPass s) := by
  unfold tripPass
  refine Within.ite ?_ ?_
  · refine Within.comp ?_ (Within.upd_saf _ _) rfl
    exact Within.refl _ _
  · exact Within.refl _ _

theorem setRcm_within (r : RcmState) (s : State) :
    Within [.saf] s (setRcm r s) := by
  unfold setRcm
  refine Within.comp ?_ (Within.upd_saf _ _) rfl
  exact Within.refl _ _

theorem rcmDiag_within (s : State) :
    Within [.regs] s (rcmDiag s) := by
  unfold rcmDiag
  extract_lets +onlyGivenNames -merge -underBinder r0
  exact (State.putB_within _ _ _).sub rfl

theorem tripWant_within (s : State) :
    Within [.saf, .x03] s (tripWant s) := by
  unfold tripWant
  refine Within.ite ?_ ?_
  · extract_lets +onlyGivenNames -merge -underBinder j1 j2 t0
    refine Within.step (t := t0) ?_ fun h3 => ?_
    · unfold t0
      refine Within.comp ?_ (Within.upd_saf _ _) rfl
      exact Within.refl _ _
    clear_value t0
    refine Within.ite ?_ ?_
    · exact h3
    · refine Within.comp ?_ (report_within _ _) rfl
      exact h3
  · exact Within.refl _ _

theorem rcmFail_within (s : State) :
    Within [.regs] s (rcmFail s) := by
  unfold rcmFail
  refine Within.comp ?_ (rcmDiag_within _) rfl
  exact (State.raise_within _ _).sub rfl

theorem rcmTestAsk_within (s : State) :
    Within [.regs, .tok, .saf] s (rcmTestAsk s) := by
  unfold rcmTestAsk
  refine Within.ite ?_ ?_
  · extract_lets +onlyGivenNames -merge -underBinder begin_0
    have h1 : ∀ v2, Within [.regs, .tok, .saf] v2 (begin_0 v2) := by
      intro v2
      unfold begin_0
      refine Within.comp ?_ (setRcm_within _ _) rfl
      exact (State.raise_within _ _).sub rfl
    clear_value begin_0
    refine Within.ite ?_ ?_
    · refine Within.trans ?_ (h1 _)
      exact Within.refl _ _
    · refine Within.ite ?_ ?_
      · exact Within.refl _ _
      · split
        · rename_i y3 e4
          refine Within.step (t := y3) (Within.ofEq2 e4 ?_) fun h5 => ?_
          · exact (tokRequest_within _ _ _ _).sub rfl
          refine Within.trans ?_ (h1 _)
          exact h5
        · rename_i y6 e7
          refine Within.step (t := y6) (Within.ofEq2 e7 ?_) fun h8 => ?_
          · exact (tokRequest_within _ _ _ _).sub rfl
          exact h8
        · rename_i y9 e10
          refine Within.step (t := y9) (Within.ofEq2 e10 ?_) fun h11 => ?_
          · exact (tokRequest_within _ _ _ _).sub rfl
          refine Within.comp ?_ (setRcm_within _ _) rfl
          exact h11
  · exact Within.refl _ _

theorem execTripPathTestRequest_answers (p : Path) (s : State) :
    Answers (execTripPathTestRequest p s) (Within [.regs, .saf, .x03, .out] s) := by
  unfold execTripPathTestRequest
  refine Answers.next ?_
  refine Within.trans ?_ (hostOwn_within (fun a0 => ?_) rfl)
  · exact Within.refl _ _
  · refine Within.trans ?_ (toIsland_within (fun a0 => ?_) rfl)
    · exact Within.refl _ _
    · exact (tripWant_within _).sub rfl

theorem execTripPathTestDue_answers (s : State) :
    Answers (execTripPathTestDue s) (Within [.saf, .x03] s) := by
  unfold execTripPathTestDue
  refine Answers.awake ?_
  refine Answers.next ?_
  exact (tripWant_within _).sub rfl

theorem execRcmSelfTestRequest_answers (p : Path) (s : State) :
    Answers (execRcmSelfTestRequest p s) (Within [.regs, .tok, .saf, .out] s) := by
  unfold execRcmSelfTestRequest
  refine Answers.next ?_
  refine Within.trans ?_ (hostOwn_within (fun a0 => ?_) rfl)
  · exact Within.refl _ _
  · refine Within.trans ?_ (toIsland_within (fun a0 => ?_) rfl)
    · exact Within.refl _ _
    · exact (rcmTestAsk_within _).sub rfl

theorem tripTestBegin_within (s : State) :
    Within [.regs, .saf] s (tripTestBegin s) := by
  unfold tripTestBegin
  refine Within.ite ?_ ?_
  · extract_lets +onlyGivenNames -merge -underBinder __src0
    refine Within.step (t := __src0) ?_ fun h1 => ?_
    · unfold __src0
      refine Within.comp ?_ (State.raise_within _ _) rfl
      exact (gateAssert_within _).sub rfl
    clear_value __src0
    refine Within.comp ?_ (Within.upd_saf _ _) rfl
    exact h1
  · exact Within.refl _ _

theorem execRcmSelfTestRetry_answers (s : State) :
    Answers (execRcmSelfTestRetry s) (Within [.regs, .tok, .saf] s) := by
  unfold execRcmSelfTestRetry
  refine Answers.awake ?_
  refine Answers.next ?_
  refine Within.ite ?_ ?_
  · exact (rcmTestAsk_within _).sub rfl
  · exact Within.refl _ _

theorem execRcmSelfTestStart_answers (s : State) :
    Answers (execRcmSelfTestStart s) (Within [.regs, .tok, .saf] s) := by
  unfold execRcmSelfTestStart
  refine Answers.awake ?_
  refine Answers.next ?_
  exact (rcmTestAsk_within _).sub rfl

theorem tripFire_within (m : Nat) (s : State) :
    Within [.regs] s (tripFire m s) := by
  unfold tripFire
  extract_lets +onlyGivenNames -merge -underBinder a0
  extract_lets +onlyGivenNames -merge -underBinder b1
  extract_lets +onlyGivenNames -merge -underBinder t2
  refine Within.step (t := t2) ?_ fun h3 => ?_
  · unfold t2
    refine Within.trans ?_ (Within.when (fun v4 => ?_) _)
    · exact Within.refl _ _
    · refine Within.comp ?_ (State.raise_within _ _) rfl
      exact (State.raise_within _ _).sub rfl
  clear_value t2
  extract_lets +onlyGivenNames -merge -underBinder t5
  refine Within.step (t := t5) ?_ fun h6 => ?_
  · unfold t5
    refine Within.trans ?_ (Within.when (fun v7 => ?_) _)
    · exact h3
    · refine Within.comp ?_ (State.raise_within _ _) rfl
      exact (State.raise_within _ _).sub rfl
  clear_value t5
  refine Within.ite ?_ ?_
  · refine Within.comp ?_ (State.lower_within _ _) rfl
    refine Within.comp ?_ (State.raise_within _ _) rfl
    refine Within.comp ?_ (State.put_within _ _ _) rfl
    exact h6
  · exact h6

theorem execTripPathTestStart_answers (s : State) :
    Answers (execTripPathTestStart s) (Within [.regs, .saf] s) := by
  unfold execTripPathTestStart
  refine Answers.awake ?_
  refine Answers.next ?_
  exact (tripTestBegin_within _).sub rfl

theorem tripComparators_within (m : Nat) (s : State) :
    Within [.regs, .saf] s (tripComparators m s) := by
  unfold tripComparators
  extract_lets +onlyGivenNames -merge -underBinder f0
  extract_lets +onlyGivenNames -merge -underBinder j2 j3 t1
  refine Within.step (t := t1) ?_ fun h4 => ?_
  · unfold t1
    refine Within.comp ?_ (Within.upd_saf _ _) rfl
    exact Within.refl _ _
  clear_value t1
  refine Within.ite ?_ ?_
  · exact h4
  · refine Within.comp ?_ (tripFire_within _ _) rfl
    exact h4

theorem tripPairMove_within (f : RegField) (s : State) :
    Within [.regs, .logs, .free] s (tripPairMove f s) := by
  unfold tripPairMove
  extract_lets +onlyGivenNames -merge -underBinder used0
  refine Within.ite ?_ ?_
  · refine Within.comp ?_ (faultOther_within _ _ _) rfl
    refine Within.comp ?_ (State.raise_within _ _) rfl
    exact (State.put_within _ _ _).sub rfl
  · exact Within.refl _ _

theorem tripRecognise_within (s : State) :
    Within [.regs, .btm, .saf, .x03, .x19] s (tripRecognise s) := by
  unfold tripRecognise
  refine Within.ite ?_ ?_
  · exact Within.refl _ _
  · refine Within.ite ?_ ?_
    · extract_lets +onlyGivenNames -merge -underBinder t0
      refine Within.step (t := t0) ?_ fun h1 => ?_
      · unfold t0
        refine Within.ite ?_ ?_
        · exact Within.refl _ _
        · exact (causeSet_within _ _).sub rfl
      clear_value t0
      refine Within.ite ?_ ?_
      · refine Within.comp ?_ (causeEnd_within _ _) rfl
        exact h1
      · exact h1
    · exact Within.refl _ _

theorem execDcTripFire_answers (m : Nat) (s : State) :
    Answers (execDcTripFire m s) (Within [.regs, .btm, .saf, .x03, .x19] s) := by
  unfold execDcTripFire
  refine Answers.next ?_
  refine Within.comp ?_ (tripRecognise_within _) rfl
  exact (tripComparators_within _ _).sub rfl

theorem tripShow_within (s : State) :
    Within [.regs, .logs, .free] s (tripShow s) := by
  unfold tripShow
  extract_lets +onlyGivenNames -merge -underBinder ok0
  extract_lets +onlyGivenNames -merge -underBinder t1
  refine Within.step (t := t1) ?_ fun h2 => ?_
  · unfold t1
    exact (State.putB_within _ _ _).sub rfl
  clear_value t1
  refine Within.ite ?_ ?_
  · refine Within.comp ?_ (faultOther_within _ _ _) rfl
    exact h2
  · exact h2

theorem rcmEvaluate_within (s : State) :
    Within [.regs, .btm, .saf, .x03, .x19] s (rcmEvaluate s) := by
  unfold rcmEvaluate
  refine Within.ite ?_ ?_
  · extract_lets +onlyGivenNames -merge -underBinder w0
    extract_lets +onlyGivenNames -merge -underBinder dc1
    extract_lets +onlyGivenNames -merge -underBinder ac2
    extract_lets +onlyGivenNames -merge -underBinder t3
    refine Within.step (t := t3) ?_ fun h4 => ?_
    · unfold t3
      refine Within.comp ?_ (State.putB_within _ _ _) rfl
      exact (State.putB_within _ _ _).sub rfl
    clear_value t3
    extract_lets +onlyGivenNames -merge -underBinder j6 t5
    refine Within.step (t := t5) ?_ fun h7 => ?_
    · unfold t5
      refine Within.ite ?_ ?_
      · refine Within.comp ?_ (setRcm_within _ _) rfl
        refine Within.comp ?_ (State.raise_within _ _) rfl
        exact h4
      · exact h4
    clear_value t5
    refine Within.comp ?_ (causeFollow_within _ _ _) rfl
    exact h7
  · exact (causeFollow_within _ _ _).sub rfl

theorem tripLaneMove_within (l : Nat) (s : State) :
    Within [.regs, .afe, .logs, .free] s (tripLaneMove l s) := by
  unfold tripLaneMove
  refine Within.ite ?_ ?_
  · split
    · exact Within.refl _ _
    · refine Within.comp ?_ (State.raise_within _ _) rfl
      refine Within.comp ?_ (State.put_within _ _ _) rfl
      exact (laneMove_within _ _).sub rfl
  · exact Within.refl _ _

theorem laneFaultAt_within (k : Nat) (beat : Nat) (conv : Option Nat) (s : State) :
    Within [.regs, .afe, .logs, .free] s (laneFaultAt k beat conv s) := by
  unfold laneFaultAt
  split
  · exact (convFail_within _ _ _).sub rfl
  · extract_lets +onlyGivenNames -merge -underBinder l0
    extract_lets +onlyGivenNames -merge -underBinder t1
    refine Within.step (t := t1) ?_ fun h2 => ?_
    · unfold t1
      refine Within.comp ?_ (abandonStep_within _ _) rfl
      exact (laneFault_within _ _).sub rfl
    clear_value t1
    refine Within.ite ?_ ?_
    · refine Within.comp ?_ (tripShow_within _) rfl
      refine Within.comp ?_ (tripLaneMove_within _ _) rfl
      exact h2
    · exact h2

theorem imdJudge_within (vm : Rat) (vdcm : Rat) (fast : Bool) (s : State) :
    Within [.regs, .btm, .saf, .x03, .x19] s (imdJudge vm vdcm fast s) := by
  unfold imdJudge
  extract_lets +onlyGivenNames -merge -underBinder i0
  extract_lets +onlyGivenNames -merge -underBinder diff1
  extract_lets +onlyGivenNames -merge -underBinder two2
  extract_lets +onlyGivenNames -merge -underBinder lim3
  extract_lets +onlyGivenNames -merge -underBinder next4
  refine Within.ite ?_ ?_
  · refine Within.comp ?_ (State.bump_within _ _ _) rfl
    exact (setImd_within _ _).sub rfl
  · extract_lets +onlyGivenNames -merge -underBinder rc5
    extract_lets +onlyGivenNames -merge -underBinder dv6
    extract_lets +onlyGivenNames -merge -underBinder rf7
    extract_lets +onlyGivenNames -merge -underBinder vdc8
    extract_lets +onlyGivenNames -merge -underBinder pos9
    extract_lets +onlyGivenNames -merge -underBinder openC10
    extract_lets +onlyGivenNames -merge -underBinder th11
    extract_lets +onlyGivenNames -merge -underBinder fault12
    extract_lets +onlyGivenNames -merge -underBinder warn13
    extract_lets +onlyGivenNames -merge -underBinder ended14
    extract_lets +onlyGivenNames -merge -underBinder bad15
    extract_lets +onlyGivenNames -merge -underBinder t16
    refine Within.step (t := t16) ?_ fun h17 => ?_
    · unfold t16
      refine Within.comp ?_ (State.setRegN_within _ _ _) rfl
      refine Within.comp ?_ (State.setRegN_within _ _ _) rfl
      exact (State.setRegN_within _ _ _).sub rfl
    clear_value t16
    extract_lets +onlyGivenNames -merge -underBinder t18
    refine Within.step (t := t18) ?_ fun h19 => ?_
    · unfold t18
      refine Within.comp ?_ (State.put_within _ _ _) rfl
      refine Within.comp ?_ (State.bump_within _ _ _) rfl
      exact h17
    clear_value t18
    extract_lets +onlyGivenNames -merge -underBinder t20
    refine Within.step (t := t20) ?_ fun h21 => ?_
    · unfold t20
      refine Within.trans ?_ (Within.when (fun v22 => ?_) _)
      · refine Within.comp ?_ (State.putB_within _ _ _) rfl
        exact h19
      · exact (State.raise_within _ _).sub rfl
    clear_value t20
    extract_lets +onlyGivenNames -merge -underBinder t23
    refine Within.step (t := t23) ?_ fun h24 => ?_
    · unfold t23
      refine Within.trans ?_ (Within.when (fun v25 => ?_) _)
      · refine Within.trans ?_ (Within.when (fun v26 => ?_) _)
        · exact h21
        · exact (State.raise_within _ _).sub rfl
      · exact (State.raise_within _ _).sub rfl
    clear_value t23
    extract_lets +onlyGivenNames -merge -underBinder t27
    refine Within.step (t := t27) ?_ fun h28 => ?_
    · unfold t27
      refine Within.comp ?_ (setImd_within _ _) rfl
      exact h24
    clear_value t27
    refine Within.comp ?_ (causeFollow_within _ _ _) rfl
    exact h28

theorem rcmBlock_within (raws : List (List Int)) (s : State) :
    Within [.regs, .btm, .saf, .x03, .x19] s (rcmBlock raws s) := by
  unfold rcmBlock
  refine Within.ite ?_ ?_
  · extract_lets +onlyGivenNames -merge -underBinder r0
    extract_lets +onlyGivenNames -merge -underBinder r1
    refine Within.ite ?_ ?_
    · extract_lets +onlyGivenNames -merge -underBinder n2
      extract_lets +onlyGivenNames -merge -underBinder t3
      refine Within.step (t := t3) ?_ fun h4 => ?_
      · unfold t3
        exact (setRcm_within _ _).sub rfl
      clear_value t3
      refine Within.comp ?_ (rcmEvaluate_within _) rfl
      refine Within.ite ?_ ?_
      · refine Within.comp ?_ (rcmFail_within _) rfl
        exact h4
      · exact h4
    · extract_lets +onlyGivenNames -merge -underBinder v5
      extract_lets +onlyGivenNames -merge -underBinder ok6
      extract_lets +onlyGivenNames -merge -underBinder bad7
      extract_lets +onlyGivenNames -merge -underBinder good8
      extract_lets +onlyGivenNames -merge -underBinder satFail9
      extract_lets +onlyGivenNames -merge -underBinder val10
      extract_lets +onlyGivenNames -merge -underBinder x11
      extract_lets +onlyGivenNames -merge -underBinder r12
      extract_lets +onlyGivenNames -merge -underBinder t13
      refine Within.step (t := t13) ?_ fun h14 => ?_
      · unfold t13
        exact (setRcm_within _ _).sub rfl
      clear_value t13
      extract_lets +onlyGivenNames -merge -underBinder t15
      refine Within.step (t := t15) ?_ fun h16 => ?_
      · unfold t15
        refine Within.comp ?_ (State.put_within _ _ _) rfl
        refine Within.comp ?_ (State.put_within _ _ _) rfl
        exact h14
      clear_value t15
      refine Within.comp ?_ (rcmEvaluate_within _) rfl
      refine Within.ite ?_ ?_
      · refine Within.comp ?_ (rcmFail_within _) rfl
        exact h16
      · refine Within.comp ?_ (rcmDiag_within _) rfl
        exact h16
  · exact Within.refl _ _

theorem imdHalf_within (sns : Int) (vdc : Int) (rise : Nat) (s : State) :
    Within [.regs, .btm, .saf, .x03, .x19] s (imdHalf sns vdc rise s) := by
  unfold imdHalf
  refine Within.ite ?_ ?_
  · extract_lets +onlyGivenNames -merge -underBinder v0
    extract_lets +onlyGivenNames -merge -underBinder d1
    extract_lets +onlyGivenNames -merge -underBinder fast2
    extract_lets +onlyGivenNames -merge -underBinder t3
    refine Within.step (t := t3) ?_ fun h4 => ?_
    · unfold t3
      exact (State.raise_within _ _).sub rfl
    clear_value t3
    refine Within.ite ?_ ?_
    · refine Within.comp ?_ (setImd_within _ _) rfl
      exact h4
    · refine Within.comp ?_ (imdJudge_within _ _ _ _) rfl
      exact h4
  · exact Within.refl _ _

theorem execLaneRoleMove_answers (k : Nat) (s : State) :
    Answers (execLaneRoleMove k s) (Within [.regs, .afe, .logs, .free] s) := by
  unfold execLaneRoleMove
  refine Answers.awake ?_
  refine Answers.next ?_
  refine Within.ite ?_ ?_
  · refine Within.ite ?_ ?_
    · refine Within.comp ?_ (tripShow_within _) rfl
      exact (tripLaneMove_within _ _).sub rfl
    · exact (laneMove_within _ _).sub rfl
  · exact Within.refl _ _

theorem tripTestEnd_within (pairs : Nat) (laneA : Bool) (laneB : Bool) (clear : Bool) (s : State) :
    Within [.regs, .afe, .logs, .saf, .free] s (tripTestEnd pairs laneA laneB clear s) := by
  unfold tripTestEnd
  refine Within.ite ?_ ?_
  · extract_lets +onlyGivenNames -merge -underBinder inUse0
    extract_lets +onlyGivenNames -merge -underBinder pass1
    extract_lets +onlyGivenNames -merge -underBinder t2
    refine Within.step (t := t2) ?_ fun h3 => ?_
    · unfold t2
      exact (State.lower_within _ _).sub rfl
    clear_value t2
    extract_lets +onlyGivenNames -merge -underBinder t4
    refine Within.step (t := t4) ?_ fun h5 => ?_
    · unfold t4
      refine Within.ite ?_ ?_
      · refine Within.comp ?_ (State.put_within _ _ _) rfl
        exact h3
      · refine Within.comp ?_ (State.raise_within _ _) rfl
        exact h3
    clear_value t4
    extract_lets +onlyGivenNames -merge -underBinder j7 j8 t6
    refine Within.step (t := t6) ?_ fun h9 => ?_
    · unfold t6
      refine Within.comp ?_ (Within.upd_saf _ _) rfl
      exact h5
    clear_value t6
    extract_lets +onlyGivenNames -merge -underBinder t10
    refine Within.step (t := t10) ?_ fun h11 => ?_
    · unfold t10
      refine Within.comp ?_ (tripPairMove_within _ _) rfl
      refine Within.comp ?_ (tripPairMove_within _ _) rfl
      exact h9
    clear_value t10
    extract_lets +onlyGivenNames -merge -underBinder t12
    refine Within.step (t := t12) ?_ fun h13 => ?_
    · unfold t12
      refine Within.ite ?_ ?_
      · exact h11
      · refine Within.comp ?_ (tripLaneMove_within _ _) rfl
        refine Within.comp ?_ (laneFault_within _ _) rfl
        exact h11
    clear_value t12
    extract_lets +onlyGivenNames -merge -underBinder t14
    refine Within.step (t := t14) ?_ fun h15 => ?_
    · unfold t14
      refine Within.ite ?_ ?_
      · exact h13
      · refine Within.comp ?_ (tripLaneMove_within _ _) rfl
        refine Within.comp ?_ (laneFault_within _ _) rfl
        exact h13
    clear_value t14
    extract_lets +onlyGivenNames -merge -underBinder t16
    refine Within.step (t := t16) ?_ fun h17 => ?_
    · unfold t16
      refine Within.ite ?_ ?_
      · refine Within.comp ?_ (State.lower_within _ _) rfl
        refine Within.comp ?_ (State.lower_within _ _) rfl
        exact h15
      · refine Within.comp ?_ (State.raise_within _ _) rfl
        refine Within.comp ?_ (State.raise_within _ _) rfl
        exact h15
    clear_value t16
    refine Within.comp ?_ (tripShow_within _) rfl
    exact h17
  · exact Within.refl _ _

theorem rcmTestEnd_within (plus : Int) (minus : Int) (s : State) :
    Within [.regs, .tok, .btm, .saf, .x03, .x19] s (rcmTestEnd plus minus s) := by
  unfold rcmTestEnd
  refine Within.ite ?_ ?_
  · extract_lets +onlyGivenNames -merge -underBinder pass0
    extract_lets +onlyGivenNames -merge -underBinder t1
    refine Within.step (t := t1) ?_ fun h2 => ?_
    · unfold t1
      refine Within.comp ?_ (tokRelease_within _ _ _) rfl
      exact (State.lower_within _ _).sub rfl
    clear_value t1
    extract_lets +onlyGivenNames -merge -underBinder up3
    refine Within.ite ?_ ?_
    · refine Within.comp ?_ (rcmEvaluate_within _) rfl
      refine Within.comp ?_ (rcmDiag_within _) rfl
      refine Within.comp ?_ (setRcm_within _ _) rfl
      refine Within.comp ?_ (State.put_within _ _ _) rfl
      exact h2
    · refine Within.comp ?_ (rcmEvaluate_within _) rfl
      refine Within.comp ?_ (rcmFail_within _) rfl
      refine Within.comp ?_ (setRcm_within _ _) rfl
      exact h2
  · exact Within.refl _ _

theorem execRcmSelfTestDone_answers (plus : Int) (minus : Int) (s : State) :
    Answers (execRcmSelfTestDone plus minus s) (Within [.regs, .tok, .btm, .saf, .x03, .x19] s) := by
  unfold execRcmSelfTestDone
  refine Answers.awake ?_
  refine Answers.next ?_
  exact (rcmTestEnd_within _ _ _).sub rfl

theorem execLaneFaultDetect_answers (k : Nat) (beat : Nat) (conv : Option Nat) (s : State) :
    Answers (execLaneFaultDetect k beat conv s) (Within [.regs, .afe, .logs, .free] s) := by
  unfold execLaneFaultDetect
  refine Answers.awake ?_
  refine Answers.next ?_
  refine Within.ite ?_ ?_
  · exact (laneFaultAt_within _ _ _ _).sub rfl
  · exact Within.refl _ _

theorem execTripPathTestDone_answers (pairs : Nat) (laneA : Bool) (laneB : Bool) (clear : Bool) (s : State) :
    Answers (execTripPathTestDone pairs laneA laneB clear s) (Within [.regs, .afe, .logs, .saf, .free] s) := by
  unfold execTripPathTestDone
  refine Answers.awake ?_
  refine Answers.next ?_
  exact (tripTestEnd_within _ _ _ _ _).sub rfl

theorem setHif_within (p : Path) (x : HifPath) (s : State) :
    Within [.hif] s (setHif p x s) := by
  unfold setHif
  refine Within.comp ?_ (Within.upd_hif _ _) rfl
  exact Within.refl _ _

theorem setLevel_within (p : Path) (n : Nat) (s : State) :
    Within [.regs] s (setLevel p n s) := by
  unfold setLevel
  split
  · exact (State.put_within _ _ _).sub rfl
  · exact (State.put_within _ _ _).sub rfl

theorem hifEnd_within (p : Path) (s : State) :
    Within [.regs, .hif] s (hifEnd p s) := by
  unfold hifEnd
  refine Within.ite ?_ ?_
  · refine Within.comp ?_ (State.raise_within _ _) rfl
    refine Within.comp ?_ (setLevel_within _ _ _) rfl
    exact (setHif_within _ _ _).sub rfl
  · exact Within.refl _ _

theorem setGrt_within (g : GrtState) (s : State) :
    Within [.grt] s (setGrt g s) := by
  unfold setGrt
  refine Within.comp ?_ (Within.upd_grt _ _) rfl
  exact Within.refl _ _

theorem cryptoReply_within (r : CryptoReq) (result : Nat) (data : List Byte) (s : State) :
    Within [.out] s (cryptoReply r result data s) := by
  unfold cryptoReply
  exact (State.emit_within _ _).sub rfl

theorem setKey_within (n : Nat) (k : Option (List Byte)) (s : State) :
    Within [.grt] s (setKey n k s) := by
  unfold setKey
  extract_lets +onlyGivenNames -merge -underBinder rest0
  exact (setGrt_within _ _).sub rfl

theorem usedShow_within (s : State) :
    Within [.regs] s (usedShow s) := by
  unfold usedShow
  exact (State.put_within _ _ _).sub rfl

theorem clientFresh_within (n : Nat) (s : State) :
    Within [.regs] s (clientFresh n s) := by
  unfold clientFresh
  refine Within.trans ?_ (Within.upTo (fun v0 v1 => ?_) _)
  · exact Within.refl _ _
  · refine Within.ite ?_ ?_
    · exact (State.setRegN_within _ _ _).sub rfl
    · exact Within.refl _ _

theorem slotClear_within (n : Nat) (gen : Nat) (s : State) :
    Within [.regs, .grt] s (slotClear n gen s) := by
  unfold slotClear
  refine Within.comp ?_ (usedShow_within _) rfl
  refine Within.comp ?_ (setKey_within _ _ _) rfl
  refine Within.comp ?_ (State.setRegN_within _ _ _) rfl
  exact (State.setRegN_within _ _ _).sub rfl

theorem freshBytes_within (x : Nat) (x1 : State) :
    Within [.free] x1 (freshBytes x x1).2 := by
  induction x generalizing x1 with
  | zero =>
    unfold freshBytes
    exact Within.refl _ _
  | succ k ih =>
    unfold freshBytes
    extract_lets +onlyGivenNames -merge -underBinder x0
    refine Within.step (t := x0.2) ?_ fun h1 => ?_
    · unfold x0
      exact (State.fresh_within _).sub rfl
    clear_value x0
    extract_lets +onlyGivenNames -merge -underBinder y2
    refine Within.step (t := y2.2) ?_ fun h3 => ?_
    · unfold y2
      refine Within.comp ?_ (ih _) rfl
      exact h1
    clear_value y2
    exact h3

theorem releaseWaiting_within (c : KeyCmd) (s : State) :
    Within [.grt, .out] s (releaseWaiting c s) := by
  unfold releaseWaiting
  extract_lets +onlyGivenNames -merge -underBinder fresh0
  extract_lets +onlyGivenNames -merge -underBinder gone1
  extract_lets +onlyGivenNames -merge -underBinder j3 t2
  refine Within.step (t := t2) ?_ fun h4 => ?_
  · unfold t2
    exact (setGrt_within _ _).sub rfl
  clear_value t2
  refine Within.trans ?_ (Within.foldl (fun v5 v6 => ?_) _)
  · exact h4
  · exact (cryptoReply_within _ _ _ _).sub rfl

theorem cryptoTake_within (r : CryptoReq) (s : State) :
    Within [.grt] s (cryptoTake r s) := by
  unfold cryptoTake
  extract_lets +onlyGivenNames -merge -underBinder after0
  exact (setGrt_within _ _).sub rfl

theorem cryptoRun_within (r : CryptoReq) (s : State) :
    Within [.free] s (cryptoRun r s).2.2 := by
  unfold cryptoRun
  extract_lets +onlyGivenNames -merge -underBinder bad0
  extract_lets +onlyGivenNames -merge -underBinder k1
  refine Within.ite22 ?_ ?_
  · exact Within.refl _ _
  · split
    · refine Within.ite22 ?_ ?_
      · exact Within.refl _ _
      · exact Within.refl _ _
    · refine Within.ite22 ?_ ?_
      · exact Within.refl _ _
      · exact Within.refl _ _
    · exact Within.refl _ _
    · exact Within.refl _ _
    · exact Within.refl _ _
    · exact Within.refl _ _
    · exact Within.refl _ _
    · split
      · exact Within.refl _ _
      · exact Within.refl _ _
    · refine Within.ite22 ?_ ?_
      · extract_lets +onlyGivenNames -merge -underBinder x2
        refine Within.step (t := x2.2) ?_ fun h3 => ?_
        · unfold x2
          exact (freshBytes_within _ _).sub rfl
        clear_value x2
        exact h3
      · exact (State.fresh_within _).sub rfl

theorem keyPlace_within (n : Nat) (type : Nat) (usage : Nat) (parent : Nat) (root : Bool) (key : List Byte) (s : State) :
    Within [.regs, .grt] s (keyPlace n type usage parent root key s) := by
  unfold keyPlace
  extract_lets +onlyGivenNames -merge -underBinder t0
  refine Within.step (t := t0) ?_ fun h1 => ?_
  · unfold t0
    refine Within.comp ?_ (setKey_within _ _ _) rfl
    exact (clientFresh_within _ _).sub rfl
  clear_value t0
  extract_lets +onlyGivenNames -merge -underBinder depth2
  extract_lets +onlyGivenNames -merge -underBinder t3
  refine Within.step (t := t3) ?_ fun h4 => ?_
  · unfold t3
    refine Within.comp ?_ (State.put_within _ _ _) rfl
    refine Within.comp ?_ (State.put_within _ _ _) rfl
    refine Within.comp ?_ (State.put_within _ _ _) rfl
    exact h1
  clear_value t3
  extract_lets +onlyGivenNames -merge -underBinder t5
  refine Within.step (t := t5) ?_ fun h6 => ?_
  · unfold t5
    refine Within.comp ?_ (State.put_within _ _ _) rfl
    refine Within.comp ?_ (State.put_within _ _ _) rfl
    exact h4
  clear_value t5
  extract_lets +onlyGivenNames -merge -underBinder t7
  refine Within.step (t := t7) ?_ fun h8 => ?_
  · unfold t7
    refine Within.comp ?_ (State.put_within _ _ _) rfl
    refine Within.comp ?_ (State.putB_within _ _ _) rfl
    exact h6
  clear_value t7
  refine Within.comp ?_ (usedShow_within _) rfl
  refine Within.comp ?_ (State.put_within _ _ _) rfl
  exact h8

theorem keyDataPut_within (b : List Byte) (s : State) :
    Within [.regs] s (keyDataPut b s) := by
  unfold keyDataPut
  refine Within.trans ?_ (Within.upTo (fun v0 v1 => ?_) _)
  · exact Within.refl _ _
  · exact (State.setRegN_within _ _ _).sub rfl

theorem orphanAll_within (a : Nat) (s : State) :
    Within [.regs] s (orphanAll a s) := by
  unfold orphanAll
  refine Within.comp ?_ (usedShow_within _) rfl
  refine Within.trans ?_ (Within.upTo (fun v0 v1 => ?_) _)
  · exact Within.refl _ _
  · refine Within.ite ?_ ?_
    · exact (State.put_within _ _ _).sub rfl
    · exact Within.refl _ _

theorem slotRetire_within (n : Nat) (s : State) :
    Within [.regs, .grt] s (slotRetire n s) := by
  unfold slotRetire
  extract_lets +onlyGivenNames -merge -underBinder t0
  refine Within.step (t := t0) ?_ fun h1 => ?_
  · unfold t0
    exact (slotClear_within _ _ _).sub rfl
  clear_value t0
  refine Within.comp ?_ (State.raise_within _ _) rfl
  refine Within.comp ?_ (State.put_within _ _ _) rfl
  exact h1

theorem execCryptoRequest_answers (r : CryptoReq) (s : State) :
    Answers (execCryptoRequest r s) (Within [.grt] s) := by
  unfold execCryptoRequest
  refine Answers.awake ?_
  refine Answers.next ?_
  exact (cryptoTake_within _ _).sub rfl

theorem execKeyDataExpiry_answers (s : State) :
    Answers (execKeyDataExpiry s) (Within [.regs] s) := by
  unfold execKeyDataExpiry
  refine Answers.awake ?_
  refine Answers.next ?_
  exact (keyDataPut_within _ _).sub rfl

theorem orphanZero_within (s : State) :
    Within [.regs, .grt] s (orphanZero s) := by
  unfold orphanZero
  extract_lets +onlyGivenNames -merge -underBinder l0
  refine Within.ite ?_ ?_
  · exact Within.refl _ _
  · refine Within.comp ?_ (State.raise_within _ _) rfl
    refine Within.trans ?_ (Within.foldl (fun v1 v2 => ?_) _)
    · exact Within.refl _ _
    · exact (slotClear_within _ _ _).sub rfl

theorem invalidate_within (n : Nat) (s : State) :
    Within [.regs, .grt, .free] s (invalidate n s) := by
  unfold invalidate
  extract_lets +onlyGivenNames -merge -underBinder gen0
  extract_lets +onlyGivenNames -merge -underBinder t1
  refine Within.step (t := t1) ?_ fun h2 => ?_
  · unfold t1
    exact (orphanAll_within _ _).sub rfl
  clear_value t1
  refine Within.ite ?_ ?_
  · refine Within.comp ?_ (slotRetire_within _ _) rfl
    exact h2
  · refine Within.ite ?_ ?_
    · extract_lets +onlyGivenNames -merge -underBinder x3
      refine Within.step (t := x3.2) ?_ fun h4 => ?_
      · unfold x3
        refine Within.comp ?_ (freshBytes_within _ _) rfl
        exact h2
      clear_value x3
      refine Within.comp ?_ (State.put_within _ _ _) rfl
      refine Within.comp ?_ (setKey_within _ _ _) rfl
      refine Within.comp ?_ (clientFresh_within _ _) rfl
      exact h4
    · refine Within.comp ?_ (slotClear_within _ _ _) rfl
      exact h2

theorem levelsCheck_within (s : State) :
    Within [.regs, .hif] s (levelsCheck s) := by
  unfold levelsCheck
  refine Within.trans ?_ (Within.foldl (fun v0 v1 => ?_) _)
  · exact Within.refl _ _
  · split
    · refine Within.ite ?_ ?_
      · exact Within.refl _ _
      · exact (hifEnd_within _ _).sub rfl
    · exact Within.refl _ _

theorem execOrphanZero_answers (s : State) :
    Answers (execOrphanZero s) (Within [.regs, .grt] s) := by
  unfold execOrphanZero
  refine Answers.awake ?_
  refine Answers.next ?_
  exact (orphanZero_within _).sub rfl

theorem createKey_within (c : KeyCmd) (key : List Byte) (s : State) :
    Within [.regs, .grt] s (createKey c key s).2.2 := by
  unfold createKey
  refine Within.ite22 ?_ ?_
  · exact (slotRetire_within _ _).sub rfl
  · extract_lets +onlyGivenNames -merge -underBinder t0
    refine Within.step (t := t0) ?_ fun h1 => ?_
    · unfold t0
      exact (keyPlace_within _ _ _ _ _ _ _).sub rfl
    clear_value t0
    exact h1

theorem execDrbgReseed_answers (healthy : Bool) (s : State) :
    Answers (execDrbgReseed healthy s) (Within [.regs, .logs, .free] s) := by
  unfold execDrbgReseed
  refine Answers.awake ?_
  refine Answers.next ?_
  refine Within.ite ?_ ?_
  · refine Within.comp ?_ (faultOther_within _ _ _) rfl
    refine Within.comp ?_ (State.raise_within _ _) rfl
    exact (State.lower_within _ _).sub rfl
  · exact Within.refl _ _

theorem keyRun_within (c : KeyCmd) (s : State) :
    Within [.regs, .grt, .hif, .free] s (keyRun c s).2.2 := by
  unfold keyRun
  extract_lets +onlyGivenNames -merge -underBinder n0
  refine Within.ite22 ?_ ?_
  · exact Within.refl _ _
  · refine Within.ite22 ?_ ?_
    · exact Within.refl _ _
    · refine Within.ite22 ?_ ?_
      · exact Within.refl _ _
      · refine Within.ite22 ?_ ?_
        · extract_lets +onlyGivenNames -merge -underBinder r1
          refine Within.ite22 ?_ ?_
          · exact Within.refl _ _
          · refine Within.ite22 ?_ ?_
            · exact Within.refl _ _
            · refine Within.ite22 ?_ ?_
              · exact (State.fresh_within _).sub rfl
              · extract_lets +onlyGivenNames -merge -underBinder x2
                refine Within.step (t := x2.2) ?_ fun h3 => ?_
                · unfold x2
                  exact (freshBytes_within _ _).sub rfl
                clear_value x2
                refine Within.comp ?_ (createKey_within _ _ _) rfl
                exact h3
        · refine Within.ite22 ?_ ?_
          · extract_lets +onlyGivenNames -merge -underBinder r4
            refine Within.ite22 ?_ ?_
            · exact Within.refl _ _
            · refine Within.ite22 ?_ ?_
              · exact Within.refl _ _
              · exact (createKey_within _ _ _).sub rfl
          · refine Within.ite22 ?_ ?_
            · extract_lets +onlyGivenNames -merge -underBinder r5
              extract_lets +onlyGivenNames -merge -underBinder len6
              refine Within.ite22 ?_ ?_
              · exact Within.refl _ _
              · refine Within.ite22 ?_ ?_
                · exact Within.refl _ _
                · refine Within.ite22 ?_ ?_
                  · exact Within.refl _ _
                  · split
                    · exact (createKey_within _ _ _).sub rfl
                    · exact Within.refl _ _
            · refine Within.ite22 ?_ ?_
              · refine Within.ite22 ?_ ?_
                · exact Within.refl _ _
                · refine Within.ite22 ?_ ?_
                  · exact Within.refl _ _
                  · refine Within.ite22 ?_ ?_
                    · exact Within.refl _ _
                    · refine Within.ite22 ?_ ?_
                      · exact Within.refl _ _
                      · refine Within.comp ?_ (levelsCheck_within _) rfl
                        refine Within.ite ?_ ?_
                        · exact (invalidate_within _ _).sub rfl
                        · refine Within.comp ?_ (slotClear_within _ _ _) rfl
                          exact (orphanAll_within _ _).sub rfl
              · refine Within.ite22 ?_ ?_
                · refine Within.ite22 ?_ ?_
                  · exact Within.refl _ _
                  · refine Within.ite22 ?_ ?_
                    · exact Within.refl _ _
                    · refine Within.ite22 ?_ ?_
                      · exact Within.refl _ _
                      · refine Within.ite22 ?_ ?_
                        · exact Within.refl _ _
                        · exact Within.refl _ _
                · exact Within.refl _ _

theorem keyDone_within (c : KeyCmd) (s : State) :
    Within [.regs, .grt, .hif, .out, .free] s (keyDone c s) := by
  unfold keyDone
  extract_lets +onlyGivenNames -merge -underBinder x0
  refine Within.step (t := x0.2.2) ?_ fun h1 => ?_
  · unfold x0
    exact (keyRun_within _ _).sub rfl
  clear_value x0
  extract_lets +onlyGivenNames -merge -underBinder t2
  refine Within.step (t := t2) ?_ fun h3 => ?_
  · unfold t2
    refine Within.comp ?_ (keyDataPut_within _ _) rfl
    refine Within.comp ?_ (State.put_within _ _ _) rfl
    exact h1
  clear_value t2
  extract_lets +onlyGivenNames -merge -underBinder t4
  refine Within.step (t := t4) ?_ fun h5 => ?_
  · unfold t4
    refine Within.ite ?_ ?_
    · refine Within.comp ?_ (State.raise_within _ _) rfl
      exact h3
    · refine Within.comp ?_ (State.raise_within _ _) rfl
      exact h3
  clear_value t4
  refine Within.ite ?_ ?_
  · refine Within.comp ?_ (releaseWaiting_within _ _) rfl
    exact h5
  · exact h5

theorem keyServe_within (x : Nat) (x1 : State) :
    Within [.regs, .grt, .hif, .out, .free] x1 (keyServe x x1) := by
  induction x generalizing x1 with
  | zero =>
    unfold keyServe
    exact Within.refl _ _
  | succ k ih =>
    unfold keyServe
    split
    · exact (State.lower_within _ _).sub rfl
    · refine Within.ite ?_ ?_
      · exact (State.raise_within _ _).sub rfl
      · refine Within.comp ?_ (ih _) rfl
        refine Within.comp ?_ (keyDone_within _ _) rfl
        exact (setGrt_within _ _).sub rfl

theorem cryptoFinish_within (e : CryptoEntry) (result : Nat) (data : List Byte) (s : State) :
    Within [.regs, .grt, .hif, .out, .free] s (cryptoFinish e result data s) := by
  unfold cryptoFinish
  extract_lets +onlyGivenNames -merge -underBinder j1 t0
  refine Within.step (t := t0) ?_ fun h2 => ?_
  · unfold t0
    refine Within.comp ?_ (setGrt_within _ _) rfl
    exact (cryptoReply_within _ _ _ _).sub rfl
  clear_value t0
  refine Within.ite ?_ ?_
  · exact h2
  · refine Within.comp ?_ (keyServe_within _ _) rfl
    exact h2

theorem keyGo_within (p : Path) (s : State) :
    Within [.regs, .grt, .hif, .out, .free] s (keyGo p s) := by
  unfold keyGo
  extract_lets +onlyGivenNames -merge -underBinder c0
  extract_lets +onlyGivenNames -merge -underBinder j2 t1
  refine Within.step (t := t1) ?_ fun h3 => ?_
  · unfold t1
    exact (setGrt_within _ _).sub rfl
  clear_value t1
  refine Within.comp ?_ (keyServe_within _ _) rfl
  exact h3

theorem keyGoOp_within (p : Path) (op : Nat) (s : State) :
    Within [.regs, .grt, .hif, .out, .free] s (keyGoOp p op s) := by
  unfold keyGoOp
  refine Within.ite ?_ ?_
  · exact (keyGo_within _ _).sub rfl
  · exact Within.refl _ _

theorem cryptoDone_within (cls : Nat) (s : State) :
    Within [.regs, .tok, .grt, .hif, .out, .free] s (cryptoDone cls s) := by
  unfold cryptoDone
  split
  · exact Within.refl _ _
  · extract_lets +onlyGivenNames -merge -underBinder run0
    have h1 : ∀ v2, Within [.regs, .tok, .grt, .hif, .out, .free] v2 (run0 v2) := by
      intro v2
      unfold run0
      extract_lets +onlyGivenNames -merge -underBinder x3
      refine Within.step (t := x3.2.2) ?_ fun h4 => ?_
      · unfold x3
        exact (cryptoRun_within _ _).sub rfl
      clear_value x3
      refine Within.comp ?_ (cryptoFinish_within _ _ _ _) rfl
      exact h4
    clear_value run0
    extract_lets +onlyGivenNames -merge -underBinder refuse5
    have h6 : ∀ v7, Within [.regs, .tok, .grt, .hif, .out, .free] v7 (refuse5 v7) := by
      intro v7
      unfold refuse5
      refine Within.comp ?_ (cryptoFinish_within _ _ _ _) rfl
      exact (State.raise_within _ _).sub rfl
    clear_value refuse5
    refine Within.ite ?_ ?_
    · refine Within.trans ?_ (h1 _)
      exact Within.refl _ _
    · refine Within.ite ?_ ?_
      · refine Within.comp ?_ (tokRelease_within _ _ _) rfl
        refine Within.trans ?_ (h1 _)
        exact Within.refl _ _
      · refine Within.ite ?_ ?_
        · exact Within.refl _ _
        · refine Within.ite ?_ ?_
          · refine Within.trans ?_ (h6 _)
            exact Within.refl _ _
          · split
            · rename_i y8 e9
              refine Within.step (t := y8) (Within.ofEq2 e9 ?_) fun h10 => ?_
              · exact (tokRequest_within _ _ _ _).sub rfl
              refine Within.comp ?_ (tokRelease_within _ _ _) rfl
              refine Within.trans ?_ (h1 _)
              exact h10
            · rename_i y11 e12
              refine Within.step (t := y11) (Within.ofEq2 e12 ?_) fun h13 => ?_
              · exact (tokRequest_within _ _ _ _).sub rfl
              refine Within.comp ?_ (setGrt_within _ _) rfl
              exact h13
            · rename_i y14 e15
              refine Within.step (t := y14) (Within.ofEq2 e15 ?_) fun h16 => ?_
              · exact (tokRequest_within _ _ _ _).sub rfl
              refine Within.trans ?_ (h6 _)
              exact h16

theorem execCryptoOperationDone_answers (cls : Nat) (s : State) :
    Answers (execCryptoOperationDone cls s) (Within [.regs, .tok, .grt, .hif, .out, .free] s) := by
  unfold execCryptoOperationDone
  refine Answers.awake ?_
  refine Answers.next ?_
  exact (cryptoDone_within _ _).sub rfl

theorem execKeyImport_answers (p : Path) (s : State) :
    Answers (execKeyImport p s) (Within [.regs, .grt, .hif, .out, .free] s) := by
  unfold execKeyImport
  refine Answers.next ?_
  refine Within.trans ?_ (hostOwn_within (fun a0 => ?_) rfl)
  · exact Within.refl _ _
  · refine Within.trans ?_ (toIsland_within (fun a0 => ?_) rfl)
    · exact Within.refl _ _
    · exact (keyGoOp_within _ _ _).sub rfl

theorem execKeyDestroy_answers (p : Path) (s : State) :
    Answers (execKeyDestroy p s) (Within [.regs, .grt, .hif, .out, .free] s) := by
  unfold execKeyDestroy
  refine Answers.next ?_
  refine Within.trans ?_ (hostOwn_within (fun a0 => ?_) rfl)
  · exact Within.refl _ _
  · refine Within.trans ?_ (toIsland_within (fun a0 => ?_) rfl)
    · exact Within.refl _ _
    · exact (keyGoOp_within _ _ _).sub rfl

theorem execKeyInvalidate_answers (p : Path) (s : State) :
    Answers (execKeyInvalidate p s) (Within [.regs, .grt, .hif, .out, .free] s) := by
  unfold execKeyInvalidate
  refine Answers.next ?_
  refine Within.trans ?_ (hostOwn_within (fun a0 => ?_) rfl)
  · exact Within.refl _ _
  · refine Within.trans ?_ (toIsland_within (fun a0 => ?_) rfl)
    · exact Within.refl _ _
    · exact (keyGoOp_within _ _ _).sub rfl

theorem execKeyReadpub_answers (p : Path) (s : State) :
    Answers (execKeyReadpub p s) (Within [.regs, .grt, .hif, .out, .free] s) := by
  unfold execKeyReadpub
  refine Answers.next ?_
  refine Within.trans ?_ (hostOwn_within (fun a0 => ?_) rfl)
  · exact Within.refl _ _
  · refine Within.trans ?_ (toIsland_within (fun a0 => ?_) rfl)
    · exact Within.refl _ _
    · exact (keyGoOp_within _ _ _).sub rfl

theorem execKeyWrite_answers (p : Path) (s : State) :
    Answers (execKeyWrite p s) (Within [.regs, .grt, .hif, .out, .free] s) := by
  unfold execKeyWrite
  refine Answers.next ?_
  refine Within.trans ?_ (hostOwn_within (fun a0 => ?_) rfl)
  · exact Within.refl _ _
  · refine Within.trans ?_ (toIsland_within (fun a0 => ?_) rfl)
    · exact Within.refl _ _
    · exact (keyGoOp_within _ _ _).sub rfl

theorem execKeyGenerate_answers (p : Path) (s : State) :
    Answers (execKeyGenerate p s) (Within [.regs, .grt, .hif, .out, .free] s) := by
  unfold execKeyGenerate
  refine Answers.next ?_
  refine Within.trans ?_ (hostOwn_within (fun a0 => ?_) rfl)
  · exact Within.refl _ _
  · refine Within.trans ?_ (toIsland_within (fun a0 => ?_) rfl)
    · exact Within.refl _ _
    · exact (keyGoOp_within _ _ _).sub rfl

theorem wbAttach_within (w : Waybill) (s : State) :
    Within [.regs, .bil] s (wbAttach w s) := by
  unfold wbAttach
  extract_lets +onlyGivenNames -merge -underBinder n0
  extract_lets +onlyGivenNames -merge -underBinder w11
  extract_lets +onlyGivenNames -merge -underBinder w22
  extract_lets +onlyGivenNames -merge -underBinder j4 b3
  refine Within.comp ?_ (showWaybills_within _) rfl
  refine Within.comp ?_ (Within.upd_bil _ _) rfl
  exact Within.refl _ _

theorem wbSign_within (s : State) :
    Within [.regs, .tok, .bil] s (wbSign s) := by
  unfold wbSign
  split
  · exact Within.refl _ _
  · extract_lets +onlyGivenNames -merge -underBinder k0
    refine Within.ite ?_ ?_
    · exact Within.refl _ _
    · refine Within.ite ?_ ?_
      · exact (wbAttach_within _ _).sub rfl
      · refine Within.ite ?_ ?_
        · refine Within.comp ?_ (tokRelease_within _ _ _) rfl
          exact (wbAttach_within _ _).sub rfl
        · refine Within.ite ?_ ?_
          · exact Within.refl _ _
          · split
            · rename_i y1 e2
              refine Within.step (t := y1) (Within.ofEq2 e2 ?_) fun h3 => ?_
              · exact (tokRequest_within _ _ _ _).sub rfl
              refine Within.comp ?_ (tokRelease_within _ _ _) rfl
              refine Within.comp ?_ (wbAttach_within _ _) rfl
              exact h3
            · rename_i y4 e5
              refine Within.step (t := y4) (Within.ofEq2 e5 ?_) fun h6 => ?_
              · exact (tokRequest_within _ _ _ _).sub rfl
              exact h6
            · rename_i y7 e8
              refine Within.step (t := y7) (Within.ofEq2 e8 ?_) fun h9 => ?_
              · exact (tokRequest_within _ _ _ _).sub rfl
              extract_lets +onlyGivenNames -merge -underBinder __src10
              refine Within.step (t := __src10) ?_ fun h11 => ?_
              · unfold __src10
                refine Within.comp ?_ (State.raise_within _ _) rfl
                exact h9
              clear_value __src10
              refine Within.comp ?_ (Within.upd_bil _ _) rfl
              exact h11

theorem execWaybillSignRetry_answers (s : State) :
    Answers (execWaybillSignRetry s) (Within [.regs, .tok, .bil] s) := by
  unfold execWaybillSignRetry
  refine Answers.next ?_
  refine Within.comp ?_ (wbSign_within _) rfl
  refine Within.comp ?_ (Within.upd_bil _ _) rfl
  exact Within.refl _ _

theorem execWaybillSigned_answers (s : State) :
    Answers (execWaybillSigned s) (Within [.regs, .tok, .bil] s) := by
  unfold execWaybillSigned
  refine Answers.next ?_
  exact (wbSign_within _).sub rfl

theorem execSessionLockEnd_answers (p : Path) (s : State) :
    Answers (execSessionLockEnd p s) (Within [.hif] s) := by
  unfold execSessionLockEnd
  refine Answers.next ?_
  exact (setHif_within _ _ _).sub rfl

theorem sesResult_within (p : Path) (code : Nat) (s : State) :
    Within [.regs] s (sesResult p code s) := by
  unfold sesResult
  exact (State.put_within _ _ _).sub rfl

theorem attemptFail_within (p : Path) (code : Nat) (s : State) :
    Within [.regs, .hif] s (attemptFail p code s) := by
  unfold attemptFail
  extract_lets +onlyGivenNames -merge -underBinder t0
  refine Within.step (t := t0) ?_ fun h1 => ?_
  · unfold t0
    refine Within.comp ?_ (State.raise_within _ _) rfl
    refine Within.comp ?_ (sesResult_within _ _ _) rfl
    exact (State.bumpReg_within _ _ _).sub rfl
  clear_value t0
  refine Within.ite ?_ ?_
  · exact h1
  · extract_lets +onlyGivenNames -merge -underBinder now2
    extract_lets +onlyGivenNames -merge -underBinder fails3
    refine Within.ite ?_ ?_
    · refine Within.comp ?_ (State.raise_within _ _) rfl
      refine Within.comp ?_ (setHif_within _ _ _) rfl
      exact h1
    · refine Within.comp ?_ (setHif_within _ _ _) rfl
      exact h1

theorem sessionSubmit_within (p : Path) (level : Nat) (s : State) :
    Within [.regs, .hif] s (sessionSubmit p level s) := by
  unfold sessionSubmit
  refine Within.ite ?_ ?_
  · exact Within.refl _ _
  · refine Within.ite ?_ ?_
    · exact (attemptFail_within _ _ _).sub rfl
    · extract_lets +onlyGivenNames -merge -underBinder valid0
      extract_lets +onlyGivenNames -merge -underBinder j2 t1
      refine Within.step (t := t1) ?_ fun h3 => ?_
      · unfold t1
        exact (setHif_within _ _ _).sub rfl
      clear_value t1
      refine Within.ite ?_ ?_
      · refine Within.comp ?_ (attemptFail_within _ _ _) rfl
        exact h3
      · split
        · refine Within.comp ?_ (attemptFail_within _ _ _) rfl
          exact h3
        · refine Within.ite ?_ ?_
          · refine Within.comp ?_ (setHif_within _ _ _) rfl
            exact h3
          · refine Within.comp ?_ (attemptFail_within _ _ _) rfl
            exact h3

theorem ethClose_within (s : State) :
    Within [.regs, .hif] s (ethClose s) := by
  unfold ethClose
  refine Within.ite ?_ ?_
  · refine Within.comp ?_ (State.lower_within _ _) rfl
    exact (hifEnd_within _ _).sub rfl
  · exact Within.refl _ _

theorem newChallenge_within (p : Path) (s : State) :
    Within [.regs, .hif, .free] s (newChallenge p s) := by
  unfold newChallenge
  refine Within.ite ?_ ?_
  · extract_lets +onlyGivenNames -merge -underBinder x0
    refine Within.step (t := x0.2) ?_ fun h1 => ?_
    · unfold x0
      exact (freshBytes_within _ _).sub rfl
    clear_value x0
    extract_lets +onlyGivenNames -merge -underBinder t2
    refine Within.step (t := t2) ?_ fun h3 => ?_
    · unfold t2
      refine Within.trans ?_ (Within.upTo (fun v4 v5 => ?_) _)
      · exact h1
      · exact (State.setRegN_within _ _ _).sub rfl
    clear_value t2
    refine Within.comp ?_ (setHif_within _ _ _) rfl
    exact h3
  · exact (setHif_within _ _ _).sub rfl

theorem execSessionSubmit_answers (p : Path) (level : Nat) (s : State) :
    Answers (execSessionSubmit p level s) (Within [.regs, .hif, .out] s) := by
  unfold execSessionSubmit
  refine Answers.next ?_
  refine Within.trans ?_ (hostOwn_within (fun a0 => ?_) rfl)
  · exact Within.refl _ _
  · exact (sessionSubmit_within _ _ _).sub rfl

theorem sessionVerified_within (p : Path) (s : State) :
    Within [.regs, .hif] s (sessionVerified p s) := by
  unfold sessionVerified
  split
  · exact Within.refl _ _
  · extract_lets +onlyGivenNames -merge -underBinder j1 t0
    refine Within.step (t := t0) ?_ fun h2 => ?_
    · unfold t0
      exact (setHif_within _ _ _).sub rfl
    clear_value t0
    split
    · refine Within.comp ?_ (attemptFail_within _ _ _) rfl
      exact h2
    · refine Within.ite ?_ ?_
      · refine Within.comp ?_ (attemptFail_within _ _ _) rfl
        exact h2
      · refine Within.ite ?_ ?_
        · refine Within.comp ?_ (sesResult_within _ _ _) rfl
          refine Within.comp ?_ (State.bumpReg_within _ _ _) rfl
          refine Within.comp ?_ (setLevel_within _ _ _) rfl
          refine Within.comp ?_ (setHif_within _ _ _) rfl
          exact h2
        · refine Within.comp ?_ (attemptFail_within _ _ _) rfl
          exact h2

theorem execSessionIdleTimeout_answers (p : Path) (s : State) :
    Answers (execSessionIdleTimeout p s) (Within [.regs, .hif] s) := by
  unfold execSessionIdleTimeout
  refine Answers.next ?_
  exact (hifEnd_within _ _).sub rfl

theorem execSessionClose_answers (p : Path) (s : State) :
    Answers (execSessionClose p s) (Within [.regs, .hif, .out] s) := by
  unfold execSessionClose
  refine Answers.next ?_
  refine Within.trans ?_ (hostOwn_within (fun a0 => ?_) rfl)
  · exact Within.refl _ _
  · exact (hifEnd_within _ _).sub rfl

theorem ethConnect_within (s : State) :
    Within [.regs] s (ethConnect s) := by
  unfold ethConnect
  refine Within.ite ?_ ?_
  · exact Within.refl _ _
  · refine Within.ite ?_ ?_
    · exact (State.raise_within _ _).sub rfl
    · refine Within.ite ?_ ?_
      · exact (State.raise_within _ _).sub rfl
      · exact Within.refl _ _

theorem execSessionVerifyDone_answers (p : Path) (s : State) :
    Answers (execSessionVerifyDone p s) (Within [.regs, .hif] s) := by
  unfold execSessionVerifyDone
  refine Answers.next ?_
  exact (sessionVerified_within _ _).sub rfl

theorem sesctlWrite_within (p : Path) (w : Word) (s : State) :
    Within [.regs, .hif, .free] s (sesctlWrite p w s) := by
  unfold sesctlWrite
  extract_lets +onlyGivenNames -merge -underBinder t0
  refine Within.step (t := t0) ?_ fun h1 => ?_
  · unfold t0
    refine Within.trans ?_ (Within.when (fun v2 => ?_) _)
    · exact Within.refl _ _
    · exact (hifEnd_within _ _).sub rfl
  clear_value t0
  extract_lets +onlyGivenNames -merge -underBinder t3
  refine Within.step (t := t3) ?_ fun h4 => ?_
  · unfold t3
    refine Within.trans ?_ (Within.when (fun v5 => ?_) _)
    · exact h1
    · exact (sessionSubmit_within _ _ _).sub rfl
  clear_value t3
  refine Within.trans ?_ (Within.when (fun v6 => ?_) _)
  · exact h4
  · exact (newChallenge_within _ _).sub rfl

theorem execHifEthClose_answers (s : State) :
    Answers (execHifEthClose s) (Within [.regs, .hif] s) := by
  unfold execHifEthClose
  refine Answers.next ?_
  exact (ethClose_within _).sub rfl

theorem execSessionNewChallenge_answers (p : Path) (s : State) :
    Answers (execSessionNewChallenge p s) (Within [.regs, .hif, .out, .free] s) := by
  unfold execSessionNewChallenge
  refine Answers.next ?_
  refine Within.trans ?_ (hostOwn_within (fun a0 => ?_) rfl)
  · exact Within.refl _ _
  · exact (newChallenge_within _ _).sub rfl

theorem execHifEthConnect_answers (s : State) :
    Answers (execHifEthConnect s) (Within [.regs] s) := by
  unfold execHifEthConnect
  refine Answers.next ?_
  exact (ethConnect_within _).sub rfl

theorem setMem_within (m : MemState) (s : State) (h : m.cells = s.mem.cells) : Within [.mem] s (setMem m s) :=
  ⟨fun i => ⟨i.regs, i.params, by rw [setMem, h]; exact i.cells, i.xings, i.tok, i.logs, i.queues⟩,
    fun p hp => by cases p <;> first | rfl | exact absurd (by simp) hp⟩

theorem setMem_mk_within {s : State} {a : List (Nat × Nat)} {b c : List MemMove} {d : List (Nat × Nat × Nat)} {e f g : List (Nat × Nat)}
    {h : List (Nat × Nat × Nat)} {i : Rat} {j : Int} {k : Nat} :
    Within [.mem] s (setMem ⟨s.mem.cells, a, b, c, d, e, f, g, h, i, j, k⟩ s) := setMem_within _ _ rfl

theorem setMem_within_of_wf (m : MemState) (s : State) (h : Memory.wf s.mem.cells = true → Memory.wf m.cells = true) :
    Within [.mem] s (setMem m s) :=
  ⟨fun i => ⟨i.regs, i.params, h i.cells, i.xings, i.tok, i.logs, i.queues⟩,
    fun p hp => by cases p <;> first | rfl | exact absurd (by simp) hp⟩

/-- Writing a byte keeps the canonical form. -/
theorem Memory.wf_write {m : List Host.Cell} (a : Nat) (b : Byte) (h : Memory.wf m = true) : Memory.wf (Memory.write m a b) = true :=
  Sparse.wf_set _ _ _ h

/-- Writing bytes keeps the canonical form. -/
theorem Memory.wf_writes {m : List Host.Cell} (a : Nat) (bs : List Byte) (h : Memory.wf m = true) : Memory.wf (Memory.writes m a bs) = true := by
  induction bs generalizing m a with
  | nil => exact h
  | cons b bs ih => exact ih (a + 1) (Memory.wf_write a b h)

/-- Erasing a range keeps the canonical form. -/
theorem Memory.wf_erase {m : List Host.Cell} (a n : Nat) (h : Memory.wf m = true) : Memory.wf (Memory.erase m a n) = true :=
  Sparse.wf_filter _ _ h

theorem fabWrite_within (a : Nat) (bs : List Byte) (s : State) : Within [.mem] s (fabWrite a bs s) :=
  setMem_within_of_wf _ _ (Memory.wf_writes a bs)

theorem fabErase_within (a n : Nat) (s : State) : Within [.mem] s (fabErase a n s) :=
  setMem_within_of_wf _ _ (Memory.wf_erase a n)

theorem kindShow_within (k : Nat) (used : Nat) (s : State) :
    Within [.regs] s (kindShow k used s) := by
  unfold kindShow
  refine Within.comp ?_ (State.put_within _ _ _) rfl
  exact (State.put_within _ _ _).sub rfl

theorem moveShow_within (s : State) :
    Within [.regs] s (moveShow s) := by
  unfold moveShow
  exact (State.putB_within _ _ _).sub rfl

theorem eccCorrected_within (h : MemHit) (s : State) :
    Within [.regs] s (eccCorrected h s) := by
  unfold eccCorrected
  refine Within.comp ?_ (State.setRegN_within _ _ _) rfl
  refine Within.comp ?_ (State.raise_within _ _) rfl
  exact (State.bump_within _ _ _).sub rfl

theorem eccLost_within (h : MemHit) (s : State) :
    Within [.regs] s (eccLost h s) := by
  unfold eccLost
  refine Within.comp ?_ (State.setRegN_within _ _ _) rfl
  refine Within.comp ?_ (State.raise_within _ _) rfl
  exact (State.bump_within _ _ _).sub rfl

theorem kindUpdate_within (mram : Nat) (nvm : Nat) (k : Nat) (s : State) :
    Within [.regs, .mem] s (kindUpdate mram nvm k s) := by
  unfold kindUpdate
  extract_lets +onlyGivenNames -merge -underBinder used0
  extract_lets +onlyGivenNames -merge -underBinder fresh1
  extract_lets +onlyGivenNames -merge -underBinder high2
  extract_lets +onlyGivenNames -merge -underBinder j4 t3
  refine Within.step (t := t3) ?_ fun h5 => ?_
  · unfold t3
    refine Within.comp ?_ (kindShow_within _ _ _) rfl
    refine Within.comp ?_ setMem_mk_within rfl
    exact Within.refl _ _
  clear_value t3
  extract_lets +onlyGivenNames -merge -underBinder t6
  refine Within.step (t := t6) ?_ fun h7 => ?_
  · unfold t6
    refine Within.comp ?_ (State.put_within _ _ _) rfl
    exact h5
  clear_value t6
  refine Within.comp ?_ (State.put_within _ _ _) rfl
  refine Within.comp ?_ (State.put_within _ _ _) rfl
  exact h7

theorem memReplaced_within (bare : Bool) (m : Nat) (unit : Nat) (s : State) :
    Within [.regs, .logs, .mem] s (memReplaced bare m unit s) := by
  unfold memReplaced
  extract_lets +onlyGivenNames -merge -underBinder k0
  extract_lets +onlyGivenNames -merge -underBinder j2 t1
  refine Within.step (t := t1) ?_ fun h3 => ?_
  · unfold t1
    refine Within.comp ?_ setMem_mk_within rfl
    exact Within.refl _ _
  clear_value t1
  extract_lets +onlyGivenNames -merge -underBinder t4
  refine Within.step (t := t4) ?_ fun h5 => ?_
  · unfold t4
    refine Within.trans ?_ (Within.when (fun v6 => ?_) _)
    · exact h3
    · exact (fabErase_within _ _ _).sub rfl
  clear_value t4
  refine Within.comp ?_ (faultNote_within _ _ _ _) rfl
  refine Within.comp ?_ (State.raise_within _ _) rfl
  refine Within.comp ?_ (kindShow_within _ _ _) rfl
  exact h5

theorem execScrubLate_answers (s : State) :
    Answers (execScrubLate s) (Within [.regs] s) := by
  unfold execScrubLate
  refine Answers.next ?_
  exact (State.raise_within _ _).sub rfl

theorem healthUpdate_within (mram : Nat) (nvm : Nat) (s : State) :
    Within [.regs, .mem, .free] s (healthUpdate mram nvm s) := by
  unfold healthUpdate
  extract_lets +onlyGivenNames -merge -underBinder t0
  refine Within.step (t := t0) ?_ fun h1 => ?_
  · unfold t0
    refine Within.comp ?_ (faultsShow_within _) rfl
    exact (State.bumpReg_within _ _ _).sub rfl
  clear_value t0
  extract_lets +onlyGivenNames -merge -underBinder j3 x2
  refine Within.step (t := x2.2) ?_ fun h4 => ?_
  · unfold x2
    refine Within.ite2 ?_ ?_
    · unfold j3
      refine Within.comp ?_ (State.fresh_within _) rfl
      exact h1
    · exact h1
  clear_value x2
  extract_lets +onlyGivenNames -merge -underBinder age5
  extract_lets +onlyGivenNames -merge -underBinder j7 t6
  refine Within.step (t := t6) ?_ fun h8 => ?_
  · unfold t6
    refine Within.comp ?_ setMem_mk_within rfl
    exact h4
  clear_value t6
  extract_lets +onlyGivenNames -merge -underBinder t9
  refine Within.step (t := t9) ?_ fun h10 => ?_
  · unfold t9
    refine Within.comp ?_ (State.setRegN_within _ _ _) rfl
    exact h8
  clear_value t9
  extract_lets +onlyGivenNames -merge -underBinder t11
  refine Within.step (t := t11) ?_ fun h12 => ?_
  · unfold t11
    refine Within.trans ?_ (Within.upTo (fun v13 v14 => ?_) _)
    · exact h10
    · exact (kindUpdate_within _ _ _ _).sub rfl
  clear_value t11
  extract_lets +onlyGivenNames -merge -underBinder j16 t15
  refine Within.step (t := t15) ?_ fun h17 => ?_
  · unfold t15
    refine Within.comp ?_ setMem_mk_within rfl
    exact h12
  clear_value t15
  extract_lets +onlyGivenNames -merge -underBinder warn18
  extract_lets +onlyGivenNames -merge -underBinder low19
  refine Within.ite ?_ ?_
  · refine Within.comp ?_ (State.raise_within _ _) rfl
    exact h17
  · exact h17

theorem memDue_within (v : MemMove) (s : State) :
    Within [.regs, .tok, .logs, .mem] s (memDue v s) := by
  unfold memDue
  refine Within.ite ?_ ?_
  · refine Within.ite ?_ ?_
    · exact Within.refl _ _
    · refine Within.comp ?_ setMem_mk_within rfl
      exact Within.refl _ _
  · refine Within.ite ?_ ?_
    · exact Within.refl _ _
    · refine Within.ite ?_ ?_
      · refine Within.comp ?_ (faultNote_within _ _ _ _) rfl
        exact (State.raise_within _ _).sub rfl
      · refine Within.ite ?_ ?_
        · exact (memReplaced_within _ _ _ _).sub rfl
        · extract_lets +onlyGivenNames -merge -underBinder j1 t0
          refine Within.step (t := t0) ?_ fun h2 => ?_
          · unfold t0
            refine Within.comp ?_ (moveShow_within _) rfl
            refine Within.comp ?_ setMem_mk_within rfl
            exact Within.refl _ _
          clear_value t0
          refine Within.ite ?_ ?_
          · exact h2
          · refine Within.comp ?_ (tokRequest_within _ _ _ _) rfl
            exact h2

theorem wearJudge_within (scrub : Bool) (h : MemHit) (s : State) :
    Within [.regs, .tok, .logs, .mem] s (wearJudge scrub h s) := by
  unfold wearJudge
  refine Within.ite ?_ ?_
  · extract_lets +onlyGivenNames -merge -underBinder here0
    extract_lets +onlyGivenNames -merge -underBinder again1
    extract_lets +onlyGivenNames -merge -underBinder j3 t2
    refine Within.step (t := t2) ?_ fun h4 => ?_
    · unfold t2
      refine Within.ite ?_ ?_
      · refine Within.comp ?_ setMem_mk_within rfl
        exact Within.refl _ _
      · exact Within.refl _ _
    clear_value t2
    refine Within.ite ?_ ?_
    · refine Within.comp ?_ (memDue_within _ _) rfl
      exact h4
    · exact h4
  · refine Within.ite ?_ ?_
    · extract_lets +onlyGivenNames -merge -underBinder n5
      extract_lets +onlyGivenNames -merge -underBinder rest6
      extract_lets +onlyGivenNames -merge -underBinder j8 t7
      refine Within.step (t := t7) ?_ fun h9 => ?_
      · unfold t7
        refine Within.comp ?_ setMem_mk_within rfl
        exact Within.refl _ _
      clear_value t7
      refine Within.ite ?_ ?_
      · refine Within.comp ?_ (memDue_within _ _) rfl
        exact h9
      · exact h9
    · exact Within.refl _ _

theorem moveDone_within (v : MemMove) (s : State) :
    Within [.regs, .tok, .logs, .mem] s (moveDone v s) := by
  unfold moveDone
  extract_lets +onlyGivenNames -merge -underBinder j1 t0
  refine Within.step (t := t0) ?_ fun h2 => ?_
  · unfold t0
    refine Within.comp ?_ setMem_mk_within rfl
    exact Within.refl _ _
  clear_value t0
  extract_lets +onlyGivenNames -merge -underBinder t3
  refine Within.step (t := t3) ?_ fun h4 => ?_
  · unfold t3
    refine Within.ite ?_ ?_
    · exact h2
    · refine Within.comp ?_ (tokRelease_within _ _ _) rfl
      exact h2
  clear_value t3
  refine Within.comp ?_ (moveShow_within _) rfl
  refine Within.comp ?_ (memReplaced_within _ _ _ _) rfl
  exact h4

theorem execHealthUpdate_answers (mram : Nat) (nvm : Nat) (s : State) :
    Answers (execHealthUpdate mram nvm s) (Within [.regs, .mem, .free] s) := by
  unfold execHealthUpdate
  refine Answers.next ?_
  exact (healthUpdate_within _ _ _).sub rfl

theorem execSectorMoveDone_answers (m : Nat) (unit : Nat) (mism : Nat) (s : State) :
    Answers (execSectorMoveDone m unit mism s) (Within [.regs, .tok, .logs, .mem] s) := by
  unfold execSectorMoveDone
  refine Answers.next ?_
  split
  · refine Within.ite ?_ ?_
    · exact (moveDone_within _ _).sub rfl
    · exact Within.refl _ _
  · exact Within.refl _ _

theorem scrubEnd_within (s : State) :
    Within [.regs, .tok, .logs, .mem] s (scrubEnd s) := by
  unfold scrubEnd
  extract_lets +onlyGivenNames -merge -underBinder worn0
  extract_lets +onlyGivenNames -merge -underBinder t1
  refine Within.step (t := t1) ?_ fun h2 => ?_
  · unfold t1
    refine Within.trans ?_ (Within.foldl (fun v3 v4 => ?_) _)
    · exact Within.refl _ _
    · exact (memDue_within _ _).sub rfl
  clear_value t1
  refine Within.comp ?_ (State.put_within _ _ _) rfl
  refine Within.comp ?_ (State.bumpReg_within _ _ _) rfl
  refine Within.comp ?_ setMem_mk_within rfl
  exact h2

theorem execScrubPassDone_answers (s : State) :
    Answers (execScrubPassDone s) (Within [.regs, .tok, .logs, .mem] s) := by
  unfold execScrubPassDone
  refine Answers.next ?_
  refine Within.ite ?_ ?_
  · exact (scrubEnd_within _).sub rfl
  · exact Within.refl _ _

theorem setLatch_within (l : List (Path × Nat × Word)) (s : State) :
    Within [.bil] s (setLatch l s) := by
  unfold setLatch
  refine Within.comp ?_ (Within.upd_bil _ _) rfl
  exact Within.refl _ _

theorem readWord_within (p : Path) (r : RegMap.RegRow) (a : Nat) (s : State) :
    Within [.bil] s (readWord p r a s).2 := by
  unfold readWord
  extract_lets +onlyGivenNames -merge -underBinder w0
  refine Within.ite2 ?_ ?_
  · extract_lets +onlyGivenNames -merge -underBinder rest1
    refine Within.ite2 ?_ ?_
    · exact (setLatch_within _ _).sub rfl
    · split
      · exact (setLatch_within _ _).sub rfl
      · exact Within.refl _ _
  · exact Within.refl _ _

theorem setLsw_within (l : LswState) (s : State) :
    Within [.lsw] s (setLsw l s) := by
  unfold setLsw
  refine Within.comp ?_ (Within.upd_lsw _ _) rfl
  exact Within.refl _ _

theorem lsDefaults_within (s : State) :
    Within [.regs] s (lsDefaults s) := by
  unfold lsDefaults
  refine Within.trans ?_ (Within.upTo (fun v0 v1 => ?_) _)
  · exact Within.refl _ _
  · exact (State.putB_within _ _ _).sub rfl

theorem lsForget_within (n : Nat) (s : State) :
    Within [.lsw] s (lsForget n s) := by
  unfold lsForget
  exact (setLsw_within _ _).sub rfl

theorem lsPut_within (n : Nat) (st : Nat) (s : State) :
    Within [.regs] s (lsPut n st s) := by
  unfold lsPut
  exact (State.put_within _ _ _).sub rfl

theorem lsReset_within (n : Nat) (s : State) :
    Within [.regs] s (lsReset n s) := by
  unfold lsReset
  extract_lets +onlyGivenNames -merge -underBinder t0
  refine Within.step (t := t0) ?_ fun h1 => ?_
  · unfold t0
    refine Within.comp ?_ (State.lower_within _ _) rfl
    exact (State.lower_within _ _).sub rfl
  clear_value t0
  refine Within.ite ?_ ?_
  · refine Within.comp ?_ (lsPut_within _ _ _) rfl
    exact h1
  · exact h1

theorem lsRefused_within (reason : Nat) (n : Nat) (s : State) :
    Within [.regs, .lsw] s (lsRefused reason n s) := by
  unfold lsRefused
  extract_lets +onlyGivenNames -merge -underBinder j1 t0
  refine Within.step (t := t0) ?_ fun h2 => ?_
  · unfold t0
    refine Within.comp ?_ (setLsw_within _ _) rfl
    exact (lsPut_within _ _ _).sub rfl
  clear_value t0
  refine Within.ite ?_ ?_
  · exact h2
  · refine Within.comp ?_ (State.raise_within _ _) rfl
    exact h2

theorem lsLive_within {ps : List Part} {n : Nat} {f : State → State} {s : State} (h : ∀ v, Within ps v (f v))
    (_hc : Part.covers [] ps = true) : Within ps s (lsLive n f s) := by
  unfold lsLive
  exact Within.ite (h s) (Within.refl _ _)

theorem execLoadDiagnostic_answers (n : Nat) (cur : Nat) (temp : Nat) (opened : Option Bool) (stuck : Option Bool) (s : State) :
    Answers (execLoadDiagnostic n cur temp opened stuck s) (Within [.regs] s) := by
  unfold execLoadDiagnostic
  refine Answers.next ?_
  refine Within.trans ?_ (lsLive_within (fun a0 => ?_) rfl)
  · exact Within.refl _ _
  · extract_lets +onlyGivenNames -merge -underBinder u0
    refine Within.step (t := u0) ?_ fun h1 => ?_
    · unfold u0
      refine Within.comp ?_ (State.put_within _ _ _) rfl
      exact (State.put_within _ _ _).sub rfl
    clear_value u0
    extract_lets +onlyGivenNames -merge -underBinder u2
    refine Within.step (t := u2) ?_ fun h3 => ?_
    · unfold u2
      split
      · refine Within.ite ?_ ?_
        · refine Within.comp ?_ (State.raise_within _ _) rfl
          refine Within.comp ?_ (State.raise_within _ _) rfl
          exact h1
        · exact h1
      · refine Within.comp ?_ (State.lower_within _ _) rfl
        exact h1
      · exact h1
    clear_value u2
    split
    · refine Within.ite ?_ ?_
      · exact h3
      · refine Within.comp ?_ (State.raise_within _ _) rfl
        refine Within.comp ?_ (State.raise_within _ _) rfl
        exact h3
    · refine Within.comp ?_ (State.lower_within _ _) rfl
      exact h3
    · exact h3

theorem execThermalLatchClear_answers (n : Nat) (s : State) :
    Answers (execThermalLatchClear n s) (Within [.regs] s) := by
  unfold execThermalLatchClear
  refine Answers.next ?_
  refine Within.trans ?_ (lsLive_within (fun a0 => ?_) rfl)
  · exact Within.refl _ _
  · exact (State.lower_within _ _).sub rfl

theorem execLswTokenRefused_answers (n : Nat) (reason : Nat) (s : State) :
    Answers (execLswTokenRefused n reason s) (Within [.regs, .lsw] s) := by
  unfold execLswTokenRefused
  refine Answers.next ?_
  refine Within.trans ?_ (lsLive_within (fun a0 => ?_) rfl)
  · exact Within.refl _ _
  · refine Within.ite ?_ ?_
    · exact (lsRefused_within _ _ _).sub rfl
    · exact Within.refl _ _

theorem execLoadSwitchClearLatch_answers (p : Path) (n : Nat) (s : State) :
    Answers (execLoadSwitchClearLatch p n s) (Within [.regs, .out] s) := by
  unfold execLoadSwitchClearLatch
  refine Answers.next ?_
  refine Within.trans ?_ (hostOwn_within (fun a0 => ?_) rfl)
  · exact Within.refl _ _
  · refine Within.trans ?_ (toIsland_within (fun a0 => ?_) rfl)
    · exact Within.refl _ _
    · refine Within.trans ?_ (lsLive_within (fun a0 => ?_) rfl)
      · exact Within.refl _ _
      · exact (lsReset_within _ _).sub rfl

theorem lsOn_within (n : Nat) (s : State) :
    Within [.regs, .lsw] s (lsOn n s) := by
  unfold lsOn
  extract_lets +onlyGivenNames -merge -underBinder t0
  refine Within.step (t := t0) ?_ fun h1 => ?_
  · unfold t0
    refine Within.comp ?_ (State.putB_within _ _ _) rfl
    refine Within.comp ?_ (lsPut_within _ _ _) rfl
    exact (State.putBit_within _ _ _ _).sub rfl
  clear_value t0
  refine Within.comp ?_ (lsForget_within _ _) rfl
  refine Within.comp ?_ (State.bump_within _ _ _) rfl
  exact h1

theorem execRetryCountReset_answers (n : Nat) (s : State) :
    Answers (execRetryCountReset n s) (Within [.regs] s) := by
  unfold execRetryCountReset
  refine Answers.next ?_
  refine Within.trans ?_ (lsLive_within (fun a0 => ?_) rfl)
  · exact Within.refl _ _
  · refine Within.ite ?_ ?_
    · exact (lsReset_within _ _).sub rfl
    · exact Within.refl _ _

theorem lsTurnOn_within (n : Nat) (s : State) :
    Within [.regs, .tok, .lsw] s (lsTurnOn n s) := by
  unfold lsTurnOn
  refine Within.ite ?_ ?_
  · exact (lsPut_within _ _ _).sub rfl
  · refine Within.ite ?_ ?_
    · exact (lsPut_within _ _ _).sub rfl
    · refine Within.ite ?_ ?_
      · exact (lsPut_within _ _ _).sub rfl
      · refine Within.ite ?_ ?_
        · exact (lsPut_within _ _ _).sub rfl
        · refine Within.ite ?_ ?_
          · exact (lsOn_within _ _).sub rfl
          · refine Within.ite ?_ ?_
            · refine Within.ite ?_ ?_
              · extract_lets +onlyGivenNames -merge -underBinder t0
                refine Within.step (t := t0) ?_ fun h1 => ?_
                · unfold t0
                  exact (lsPut_within _ _ _).sub rfl
                clear_value t0
                refine Within.ite ?_ ?_
                · exact h1
                · refine Within.comp ?_ (setLsw_within _ _) rfl
                  exact h1
              · exact (lsOn_within _ _).sub rfl
            · refine Within.ite ?_ ?_
              · exact (lsOn_within _ _).sub rfl
              · split
                · rename_i y2 e3
                  refine Within.step (t := y2) (Within.ofEq2 e3 ?_) fun h4 => ?_
                  · exact (tokRequest_within _ _ _ _).sub rfl
                  refine Within.comp ?_ (lsOn_within _ _) rfl
                  exact h4
                · rename_i y5 e6
                  refine Within.step (t := y5) (Within.ofEq2 e6 ?_) fun h7 => ?_
                  · exact (tokRequest_within _ _ _ _).sub rfl
                  refine Within.comp ?_ (lsPut_within _ _ _) rfl
                  exact h7
                · rename_i y8 e9
                  refine Within.step (t := y8) (Within.ofEq2 e9 ?_) fun h10 => ?_
                  · exact (tokRequest_within _ _ _ _).sub rfl
                  refine Within.comp ?_ (lsRefused_within _ _ _) rfl
                  exact h10

theorem lsTurns_within (x : Nat) (x1 : State) :
    Within [.regs, .tok, .lsw] x1 (lsTurns x x1) := by
  induction x generalizing x1 with
  | zero =>
    unfold lsTurns
    exact Within.refl _ _
  | succ k ih =>
    unfold lsTurns
    refine Within.ite ?_ ?_
    · exact Within.refl _ _
    · split
      · exact Within.refl _ _
      · extract_lets +onlyGivenNames -merge -underBinder j1 t0
        refine Within.step (t := t0) ?_ fun h2 => ?_
        · unfold t0
          refine Within.comp ?_ (lsTurnOn_within _ _) rfl
          exact (setLsw_within _ _).sub rfl
        clear_value t0
        refine Within.comp ?_ (ih _) rfl
        refine Within.comp ?_ (setLsw_within _ _) rfl
        exact h2

theorem execLowSideRestored_answers (n : Nat) (s : State) :
    Answers (execLowSideRestored n s) (Within [.regs, .tok, .lsw] s) := by
  unfold execLowSideRestored
  refine Answers.next ?_
  refine Within.trans ?_ (lsLive_within (fun a0 => ?_) rfl)
  · exact Within.refl _ _
  · extract_lets +onlyGivenNames -merge -underBinder j1 u0
    refine Within.step (t := u0) ?_ fun h2 => ?_
    · unfold u0
      exact (setLsw_within _ _).sub rfl
    clear_value u0
    refine Within.ite ?_ ?_
    · refine Within.ite ?_ ?_
      · refine Within.comp ?_ (lsTurnOn_within _ _) rfl
        exact h2
      · refine Within.comp ?_ (lsPut_within _ _ _) rfl
        exact h2
    · exact h2

theorem lsRecover_within (mv : Nat) (s : State) :
    Within [.regs, .tok, .lsw] s (lsRecover mv s) := by
  unfold lsRecover
  extract_lets +onlyGivenNames -merge -underBinder t0
  refine Within.step (t := t0) ?_ fun h1 => ?_
  · unfold t0
    refine Within.comp ?_ (State.raise_within _ _) rfl
    refine Within.comp ?_ (State.lower_within _ _) rfl
    exact (State.put_within _ _ _).sub rfl
  clear_value t0
  refine Within.trans ?_ (Within.upTo (fun v2 v3 => ?_) _)
  · exact h1
  · refine Within.ite ?_ ?_
    · refine Within.ite ?_ ?_
      · exact (lsPut_within _ _ _).sub rfl
      · refine Within.ite ?_ ?_
        · exact (lsPut_within _ _ _).sub rfl
        · exact (lsTurnOn_within _ _).sub rfl
    · exact Within.refl _ _

theorem execRetryTimerExpiry_answers (n : Nat) (s : State) :
    Answers (execRetryTimerExpiry n s) (Within [.regs, .tok, .lsw] s) := by
  unfold execRetryTimerExpiry
  refine Answers.next ?_
  refine Within.trans ?_ (lsLive_within (fun a0 => ?_) rfl)
  · exact Within.refl _ _
  · refine Within.ite ?_ ?_
    · refine Within.ite ?_ ?_
      · exact (lsPut_within _ _ _).sub rfl
      · refine Within.ite ?_ ?_
        · exact Within.refl _ _
        · refine Within.comp ?_ (lsTurnOn_within _ _) rfl
          exact (State.bump_within _ _ _).sub rfl
    · exact Within.refl _ _

theorem lsOff_within (n : Nat) (st : Nat) (s : State) :
    Within [.regs, .tok, .lsw] s (lsOff n st s) := by
  unfold lsOff
  extract_lets +onlyGivenNames -merge -underBinder t0
  refine Within.step (t := t0) ?_ fun h1 => ?_
  · unfold t0
    refine Within.comp ?_ (State.lower_within _ _) rfl
    refine Within.comp ?_ (lsPut_within _ _ _) rfl
    exact (State.putBit_within _ _ _ _).sub rfl
  clear_value t0
  refine Within.comp ?_ (lsTurns_within _ _) rfl
  refine Within.comp ?_ (lsForget_within _ _) rfl
  refine Within.ite ?_ ?_
  · refine Within.comp ?_ (tokServe_within _) rfl
    refine Within.comp ?_ (tokDrop_within _ _ _) rfl
    exact h1
  · refine Within.comp ?_ (tokRelease_within _ _ _) rfl
    exact h1

theorem lsShed_within (s : State) :
    Within [.regs, .tok, .lsw] s (lsShed s) := by
  unfold lsShed
  extract_lets +onlyGivenNames -merge -underBinder m0
  extract_lets +onlyGivenNames -merge -underBinder t1
  refine Within.step (t := t1) ?_ fun h2 => ?_
  · unfold t1
    refine Within.trans ?_ (Within.upTo (fun v3 v4 => ?_) _)
    · exact Within.refl _ _
    · refine Within.ite ?_ ?_
      · exact (lsOff_within _ _ _).sub rfl
      · exact Within.refl _ _
  clear_value t1
  refine Within.ite ?_ ?_
  · exact h2
  · refine Within.comp ?_ (State.raise_within _ _) rfl
    exact h2

theorem execVlsRecovery_answers (mv : Nat) (s : State) :
    Answers (execVlsRecovery mv s) (Within [.regs, .tok, .lsw] s) := by
  unfold execVlsRecovery
  refine Answers.next ?_
  refine Within.ite ?_ ?_
  · exact Within.refl _ _
  · exact (lsRecover_within _ _).sub rfl

theorem lsFollow_within (n : Nat) (s : State) :
    Within [.regs, .tok, .lsw] s (lsFollow n s) := by
  unfold lsFollow
  refine Within.ite ?_ ?_
  · refine Within.ite ?_ ?_
    · exact (lsTurnOn_within _ _).sub rfl
    · exact Within.refl _ _
  · refine Within.ite ?_ ?_
    · exact (lsForget_within _ _).sub rfl
    · exact (lsOff_within _ _ _).sub rfl

theorem lsHeld_within (s : State) :
    Within [.regs, .tok, .lsw] s (lsHeld s) := by
  unfold lsHeld
  refine Within.trans ?_ (Within.upTo (fun v0 v1 => ?_) _)
  · exact (setLsw_within _ _).sub rfl
  · exact (lsOff_within _ _ _).sub rfl

theorem execInrushWindowClose_answers (n : Nat) (s : State) :
    Answers (execInrushWindowClose n s) (Within [.regs, .tok, .lsw] s) := by
  unfold execInrushWindowClose
  refine Answers.next ?_
  refine Within.trans ?_ (lsLive_within (fun a0 => ?_) rfl)
  · exact Within.refl _ _
  · refine Within.ite ?_ ?_
    · refine Within.comp ?_ (lsTurns_within _ _) rfl
      refine Within.comp ?_ (tokRelease_within _ _ _) rfl
      exact (State.lower_within _ _).sub rfl
    · exact Within.refl _ _

theorem execLowSideOpen_answers (n : Nat) (s : State) :
    Answers (execLowSideOpen n s) (Within [.regs, .tok, .lsw] s) := by
  unfold execLowSideOpen
  refine Answers.next ?_
  refine Within.trans ?_ (lsLive_within (fun a0 => ?_) rfl)
  · exact Within.refl _ _
  · extract_lets +onlyGivenNames -merge -underBinder j1 u0
    refine Within.step (t := u0) ?_ fun h2 => ?_
    · unfold u0
      exact (setLsw_within _ _).sub rfl
    clear_value u0
    refine Within.ite ?_ ?_
    · refine Within.comp ?_ (State.raise_within _ _) rfl
      refine Within.comp ?_ (lsOff_within _ _ _) rfl
      exact h2
    · refine Within.ite ?_ ?_
      · exact h2
      · exact Within.refl _ _

theorem execLswTokenRetry_answers (n : Nat) (s : State) :
    Answers (execLswTokenRetry n s) (Within [.regs, .tok, .lsw] s) := by
  unfold execLswTokenRetry
  refine Answers.next ?_
  refine Within.trans ?_ (lsLive_within (fun a0 => ?_) rfl)
  · exact Within.refl _ _
  · refine Within.ite ?_ ?_
    · extract_lets +onlyGivenNames -merge -underBinder j1 u0
      refine Within.step (t := u0) ?_ fun h2 => ?_
      · unfold u0
        exact (setLsw_within _ _).sub rfl
      clear_value u0
      refine Within.ite ?_ ?_
      · refine Within.comp ?_ (lsTurnOn_within _ _) rfl
        exact h2
      · exact h2
    · exact Within.refl _ _

theorem lsTrip_within (n : Nat) (thermal : Bool) (s : State) :
    Within [.regs, .tok, .lsw] s (lsTrip n thermal s) := by
  unfold lsTrip
  extract_lets +onlyGivenNames -merge -underBinder t0
  refine Within.step (t := t0) ?_ fun h1 => ?_
  · unfold t0
    exact (lsOff_within _ _ _).sub rfl
  clear_value t0
  extract_lets +onlyGivenNames -merge -underBinder t2
  refine Within.step (t := t2) ?_ fun h3 => ?_
  · unfold t2
    refine Within.ite ?_ ?_
    · refine Within.comp ?_ (State.raise_within _ _) rfl
      exact h1
    · exact h1
  clear_value t2
  refine Within.ite ?_ ?_
  · refine Within.comp ?_ (lsPut_within _ _ _) rfl
    refine Within.comp ?_ (State.raise_within _ _) rfl
    refine Within.comp ?_ (State.raise_within _ _) rfl
    exact h3
  · exact h3

theorem lsFollowAll_within (s : State) :
    Within [.regs, .tok, .lsw] s (lsFollowAll s) := by
  unfold lsFollowAll
  refine Within.trans ?_ (Within.upTo (fun v0 v1 => ?_) _)
  · exact Within.refl _ _
  · exact (lsFollow_within _ _).sub rfl

theorem execLswTokenGranted_answers (n : Nat) (s : State) :
    Answers (execLswTokenGranted n s) (Within [.regs, .tok, .lsw] s) := by
  unfold execLswTokenGranted
  refine Answers.next ?_
  refine Within.trans ?_ (lsLive_within (fun a0 => ?_) rfl)
  · exact Within.refl _ _
  · refine Within.ite ?_ ?_
    · refine Within.ite ?_ ?_
      · exact (lsOn_within _ _).sub rfl
      · exact (lsOff_within _ _ _).sub rfl
    · exact Within.refl _ _

theorem lsCommand_within (n : Nat) (on : Bool) (s : State) :
    Within [.regs, .tok, .lsw] s (lsCommand n on s) := by
  unfold lsCommand
  extract_lets +onlyGivenNames -merge -underBinder was0
  extract_lets +onlyGivenNames -merge -underBinder t1
  refine Within.step (t := t1) ?_ fun h2 => ?_
  · unfold t1
    exact (State.putB_within _ _ _).sub rfl
  clear_value t1
  refine Within.ite ?_ ?_
  · exact h2
  · extract_lets +onlyGivenNames -merge -underBinder j4 u3
    refine Within.step (t := u3) ?_ fun h5 => ?_
    · unfold u3
      refine Within.comp ?_ (setLsw_within _ _) rfl
      exact h2
    clear_value u3
    extract_lets +onlyGivenNames -merge -underBinder u6
    refine Within.step (t := u6) ?_ fun h7 => ?_
    · unfold u6
      refine Within.ite ?_ ?_
      · refine Within.comp ?_ (State.lower_within _ _) rfl
        refine Within.comp ?_ (State.lower_within _ _) rfl
        exact h5
      · exact h5
    clear_value u6
    refine Within.comp ?_ (lsFollow_within _ _) rfl
    exact h7

theorem execOvercurrentTrip_answers (n : Nat) (s : State) :
    Answers (execOvercurrentTrip n s) (Within [.regs, .tok, .lsw] s) := by
  unfold execOvercurrentTrip
  refine Answers.next ?_
  refine Within.trans ?_ (lsLive_within (fun a0 => ?_) rfl)
  · exact Within.refl _ _
  · refine Within.ite ?_ ?_
    · refine Within.comp ?_ (State.raise_within _ _) rfl
      refine Within.comp ?_ (lsTrip_within _ _ _) rfl
      exact (State.bump_within _ _ _).sub rfl
    · exact Within.refl _ _

theorem lsUnder_within (mv : Nat) (s : State) :
    Within [.regs, .tok, .lsw] s (lsUnder mv s) := by
  unfold lsUnder
  extract_lets +onlyGivenNames -merge -underBinder t0
  refine Within.step (t := t0) ?_ fun h1 => ?_
  · unfold t0
    refine Within.comp ?_ (State.raise_within _ _) rfl
    refine Within.comp ?_ (State.raise_within _ _) rfl
    exact (State.put_within _ _ _).sub rfl
  clear_value t0
  refine Within.trans ?_ (Within.upTo (fun v2 v3 => ?_) _)
  · exact h1
  · refine Within.ite ?_ ?_
    · exact (lsOff_within _ _ _).sub rfl
    · exact Within.refl _ _

theorem execThermalTrip_answers (n : Nat) (oc : Bool) (s : State) :
    Answers (execThermalTrip n oc s) (Within [.regs, .tok, .lsw] s) := by
  unfold execThermalTrip
  refine Answers.next ?_
  refine Within.trans ?_ (lsLive_within (fun a0 => ?_) rfl)
  · exact Within.refl _ _
  · refine Within.ite ?_ ?_
    · extract_lets +onlyGivenNames -merge -underBinder u0
      refine Within.step (t := u0) ?_ fun h1 => ?_
      · unfold u0
        exact (State.bump_within _ _ _).sub rfl
      clear_value u0
      extract_lets +onlyGivenNames -merge -underBinder u2
      refine Within.step (t := u2) ?_ fun h3 => ?_
      · unfold u2
        refine Within.ite ?_ ?_
        · refine Within.comp ?_ (State.raise_within _ _) rfl
          refine Within.comp ?_ (State.bump_within _ _ _) rfl
          exact h1
        · exact h1
      clear_value u2
      refine Within.comp ?_ (State.raise_within _ _) rfl
      refine Within.comp ?_ (lsTrip_within _ _ _) rfl
      exact h3
    · exact Within.refl _ _

theorem lsTake_within (s : State) :
    Within [.regs, .tok, .lsw] s (lsTake s) := by
  unfold lsTake
  refine Within.comp ?_ (lsFollowAll_within _) rfl
  exact (setLsw_within _ _).sub rfl

theorem execLoadSwitchCommand_answers (p : Path) (n : Nat) (on : Bool) (s : State) :
    Answers (execLoadSwitchCommand p n on s) (Within [.regs, .tok, .lsw, .out] s) := by
  unfold execLoadSwitchCommand
  refine Answers.next ?_
  refine Within.trans ?_ (hostOwn_within (fun a0 => ?_) rfl)
  · exact Within.refl _ _
  · refine Within.trans ?_ (toIsland_within (fun a0 => ?_) rfl)
    · exact Within.refl _ _
    · refine Within.trans ?_ (lsLive_within (fun a0 => ?_) rfl)
      · exact Within.refl _ _
      · exact (lsCommand_within _ _ _).sub rfl

theorem execShortTrip_answers (n : Nat) (s : State) :
    Answers (execShortTrip n s) (Within [.regs, .tok, .lsw] s) := by
  unfold execShortTrip
  refine Answers.next ?_
  refine Within.trans ?_ (lsLive_within (fun a0 => ?_) rfl)
  · exact Within.refl _ _
  · refine Within.ite ?_ ?_
    · refine Within.comp ?_ (State.raise_within _ _) rfl
      refine Within.comp ?_ (lsTrip_within _ _ _) rfl
      exact (State.bump_within _ _ _).sub rfl
    · exact Within.refl _ _

theorem execVlsUndervoltage_answers (mv : Nat) (s : State) :
    Answers (execVlsUndervoltage mv s) (Within [.regs, .tok, .lsw] s) := by
  unfold execVlsUndervoltage
  refine Answers.next ?_
  refine Within.ite ?_ ?_
  · exact Within.refl _ _
  · exact (lsUnder_within _ _).sub rfl

theorem limpUpdate_within (s : State) :
    Within [.regs, .tok, .lsw] s (limpUpdate s) := by
  unfold limpUpdate
  extract_lets +onlyGivenNames -merge -underBinder b0
  refine Within.ite ?_ ?_
  · refine Within.ite ?_ ?_
    · exact (lsFollowAll_within _).sub rfl
    · exact Within.refl _ _
  · extract_lets +onlyGivenNames -merge -underBinder t1
    refine Within.step (t := t1) ?_ fun h2 => ?_
    · unfold t1
      refine Within.comp ?_ (State.raise_within _ _) rfl
      exact (State.putB_within _ _ _).sub rfl
    clear_value t1
    refine Within.ite ?_ ?_
    · refine Within.comp ?_ (lsFollowAll_within _) rfl
      refine Within.trans ?_ (Within.upTo (fun v3 v4 => ?_) _)
      · exact h2
      · refine Within.ite ?_ ?_
        · exact (lsOff_within _ _ _).sub rfl
        · exact (lsForget_within _ _).sub rfl
    · refine Within.comp ?_ (lsTake_within _) rfl
      refine Within.comp ?_ (setLsw_within _ _) rfl
      exact h2

theorem execLimpTimeout_answers (s : State) :
    Answers (execLimpTimeout s) (Within [.regs, .tok, .lsw] s) := by
  unfold execLimpTimeout
  refine Answers.next ?_
  refine Within.ite ?_ ?_
  · exact Within.refl _ _
  · refine Within.comp ?_ (limpUpdate_within _) rfl
    exact (setLsw_within _ _).sub rfl

theorem execLimpInputChange_answers (low : Bool) (lh : Nat) (s : State) :
    Answers (execLimpInputChange low lh s) (Within [.regs, .tok, .lsw] s) := by
  unfold execLimpInputChange
  refine Answers.next ?_
  refine Within.ite ?_ ?_
  · exact Within.refl _ _
  · refine Within.comp ?_ (limpUpdate_within _) rfl
    refine Within.comp ?_ (State.put_within _ _ _) rfl
    refine Within.comp ?_ (State.putB_within _ _ _) rfl
    exact (State.putB_within _ _ _).sub rfl

theorem setBoot_within (b : BootState) (s : State) :
    Within [.boot] s (setBoot b s) := by
  unfold setBoot
  refine Within.comp ?_ (Within.upd_boot _ _) rfl
  exact Within.refl _ _

theorem presResult_within (p : Path) (code : Nat) (r : Option ParamMap.ParamRow) (s : State) :
    Within [.regs] s (presResult p code r s) := by
  unfold presResult
  extract_lets +onlyGivenNames -merge -underBinder app0
  extract_lets +onlyGivenNames -merge -underBinder lay1
  exact (State.setRegN_within _ _ _).sub rfl

theorem paramRead_within (p : Path) (cmd : Nat) (s : State) :
    Within [.regs] s (paramRead p cmd s) := by
  unfold paramRead
  extract_lets +onlyGivenNames -merge -underBinder n0
  split
  · exact (presResult_within _ _ _ _).sub rfl
  · refine Within.ite ?_ ?_
    · refine Within.comp ?_ (presResult_within _ _ _ _) rfl
      exact (State.setRegN_within _ _ _).sub rfl
    · exact (presResult_within _ _ _ _).sub rfl

theorem overlayShow_within (s : State) :
    Within [.regs] s (overlayShow s) := by
  unfold overlayShow
  refine Within.comp ?_ (State.put_within _ _ _) rfl
  exact (State.put_within _ _ _).sub rfl

theorem writeAccept_within (p : Nat) (v : Int) (r : ParamMap.ParamRow) (s : State) :
    Within [.regs, .params, .tok, .parPend, .boot] s (writeAccept p v r s) := by
  unfold writeAccept
  extract_lets +onlyGivenNames -merge -underBinder e0
  extract_lets +onlyGivenNames -merge -underBinder j2 t1
  refine Within.step (t := t1) ?_ fun h3 => ?_
  · unfold t1
    refine Within.comp ?_ (overlayShow_within _) rfl
    exact (setBoot_within _ _).sub rfl
  clear_value t1
  split
  · exact h3
  · refine Within.comp ?_ (Within.upd_parPend _ _) rfl
    exact h3
  · extract_lets +onlyGivenNames -merge -underBinder u4
    refine Within.step (t := u4) ?_ fun h5 => ?_
    · unfold u4
      refine Within.comp ?_ (State.setPar_within _ _ _) rfl
      exact h3
    clear_value u4
    refine Within.ite ?_ ?_
    · refine Within.comp ?_ (tokVlow_within _) rfl
      refine Within.comp ?_ (tokBudgets_within _) rfl
      exact h5
    · refine Within.ite ?_ ?_
      · refine Within.comp ?_ (State.setRegN_within _ _ _) rfl
        exact h5
      · exact h5

theorem execParamRead_answers (p : Path) (cmd : Nat) (s : State) :
    Answers (execParamRead p cmd s) (Within [.regs, .out] s) := by
  unfold execParamRead
  refine Answers.next ?_
  refine Within.trans ?_ (hostOwn_within (fun a0 => ?_) rfl)
  · exact Within.refl _ _
  · exact (paramRead_within _ _ _).sub rfl

theorem paramWrite_within (siteOnly : Bool) (level : Nat) (p : Nat) (len : Nat) (raw : Nat) (s : State) :
    Within [.regs, .params, .tok, .parPend, .boot] s (paramWrite siteOnly level p len raw s).2 := by
  unfold paramWrite
  extract_lets +onlyGivenNames -merge -underBinder c0
  split
  · exact Within.refl _ _
  · extract_lets +onlyGivenNames -merge -underBinder v1
    refine Within.ite2 ?_ ?_
    · exact (writeAccept_within _ _ _ _).sub rfl
    · refine Within.ite2 ?_ ?_
      · exact (State.raise_within _ _).sub rfl
      · exact Within.refl _ _

theorem paramStore_within (p : Path) (cmd : Nat) (s : State) :
    Within [.regs, .params, .tok, .parPend, .boot] s (paramStore p cmd s) := by
  unfold paramStore
  extract_lets +onlyGivenNames -merge -underBinder n0
  extract_lets +onlyGivenNames -merge -underBinder len1
  extract_lets +onlyGivenNames -merge -underBinder x2
  refine Within.step (t := x2.2) ?_ fun h3 => ?_
  · unfold x2
    exact (paramWrite_within _ _ _ _ _ _).sub rfl
  clear_value x2
  refine Within.comp ?_ (presResult_within _ _ _ _) rfl
  exact h3

theorem execParamWrite_answers (p : Path) (cmd : Nat) (s : State) :
    Answers (execParamWrite p cmd s) (Within [.regs, .params, .tok, .parPend, .boot, .out] s) := by
  unfold execParamWrite
  extract_lets +onlyGivenNames -merge -underBinder t0
  refine Answers.step (t := t0) ?_ fun h1 => ?_
  · unfold t0
    refine Within.trans ?_ (hostOwn_within (fun a0 => ?_) rfl)
    · exact Within.refl _ _
    · exact (paramStore_within _ _ _).sub rfl
  clear_value t0
  refine Answers.next ?_
  refine Within.ite ?_ ?_
  · refine Within.comp ?_ (presResult_within _ _ _ _) rfl
    exact h1
  · exact h1

theorem setPosts_within (l : List SharePost) (s : State) :
    Within [.posts] s (setPosts l s) := by
  unfold setPosts
  refine Within.comp ?_ (Within.upd_posts _ _) rfl
  exact Within.refl _ _

theorem siteMessage_within (mt : Nat) (s : State) :
    Within [.q, .x11] s (siteMessage mt s).2 := by
  unfold siteMessage
  split
  · rename_i y0 e1
    refine Within.step (t := y0) (Within.ofEq2 e1 ?_) fun h2 => ?_
    · exact (siteTake_within _ _).sub rfl
    exact h2
  · rename_i y3 e4
    refine Within.step (t := y3) (Within.ofEq2 e4 ?_) fun h5 => ?_
    · exact (siteTake_within _ _).sub rfl
    split
    · rename_i y6 e7
      refine Within.step (t := y6) (Within.ofEq2 e7 ?_) fun h8 => ?_
      · exact (groupTake_within _ _ _).sub rfl
      exact h8
    · rename_i y9 e10
      refine Within.step (t := y9) (Within.ofEq2 e10 ?_) fun h11 => ?_
      · exact (groupTake_within _ _ _).sub rfl
      exact Within.refl _ _

theorem shareAge_within (s : State) :
    Within [.posts] s (shareAge s) := by
  unfold shareAge
  exact (setPosts_within _ _).sub rfl

theorem shareClass_within (m : AmbMsg) (s : State) :
    Within [.posts] s (shareClass m s) := by
  unfold shareClass
  exact (setPosts_within _ _).sub rfl

theorem shareDrop_within (post : Nat) (s : State) :
    Within [.posts] s (shareDrop post s) := by
  unfold shareDrop
  exact (setPosts_within _ _).sub rfl

theorem execHeldPowerExpiry_answers (post : Nat) (s : State) :
    Answers (execHeldPowerExpiry post s) (Within [.posts] s) := by
  unfold execHeldPowerExpiry
  refine Answers.next ?_
  refine Within.ite ?_ ?_
  · exact (shareDrop_within _ _).sub rfl
  · exact Within.refl _ _

theorem setparTake_within (m : SiteMsg) (s : State) :
    Within [.regs, .params, .tok, .parPend, .boot] s (setparTake m s) := by
  unfold setparTake
  extract_lets +onlyGivenNames -merge -underBinder b0
  extract_lets +onlyGivenNames -merge -underBinder len1
  extract_lets +onlyGivenNames -merge -underBinder refuse2
  refine Within.step (t := refuse2) ?_ fun h3 => ?_
  · unfold refuse2
    exact (State.bumpReg_within _ _ _).sub rfl
  clear_value refuse2
  extract_lets +onlyGivenNames -merge -underBinder source4
  refine Within.ite ?_ ?_
  · exact Within.refl _ _
  · refine Within.ite ?_ ?_
    · exact h3
    · extract_lets +onlyGivenNames -merge -underBinder x5
      refine Within.step (t := x5.2) ?_ fun h6 => ?_
      · unfold x5
        exact (paramWrite_within _ _ _ _ _ _).sub rfl
      clear_value x5
      refine Within.ite ?_ ?_
      · exact h6
      · refine Within.comp ?_ (State.bumpReg_within _ _ _) rfl
        exact h6

theorem shareClasses_within (x : Nat) (x1 : State) :
    Within [.q, .x11, .posts] x1 (shareClasses x x1) := by
  induction x generalizing x1 with
  | zero =>
    unfold shareClasses
    exact Within.refl _ _
  | succ k ih =>
    unfold shareClasses
    split
    · rename_i y0 e1
      refine Within.step (t := y0) (Within.ofEq2 e1 ?_) fun h2 => ?_
      · exact (siteMessage_within _ _).sub rfl
      refine Within.comp ?_ (ih _) rfl
      refine Within.comp ?_ (shareClass_within _ _) rfl
      exact h2
    · rename_i y3 e4
      refine Within.step (t := y3) (Within.ofEq2 e4 ?_) fun h5 => ?_
      · exact (siteMessage_within _ _).sub rfl
      exact Within.refl _ _

theorem siteSend_within (m : AmbMsg) (s : State) :
    Within [.regs, .q, .grpSeq, .amb, .eth, .x11] s (siteSend m s) := by
  unfold siteSend
  refine Within.ite ?_ ?_
  · exact (toCore_within _ _ _).sub rfl
  · refine Within.ite ?_ ?_
    · exact (setAmb_within _ _).sub rfl
    · exact (groupSend_within _ _ _ _).sub rfl

theorem bridged_within (s : State) :
    Within [.regs, .q, .grpSeq, .amb, .eth, .x11] s (bridged s) := by
  unfold bridged
  split
  · rename_i y0 e1
    refine Within.step (t := y0) (Within.ofEq2 e1 ?_) fun h2 => ?_
    · exact (groupTake_within _ _ _).sub rfl
    exact Within.refl _ _
  · rename_i y3 e4
    refine Within.step (t := y3) (Within.ofEq2 e4 ?_) fun h5 => ?_
    · exact (groupTake_within _ _ _).sub rfl
    extract_lets +onlyGivenNames -merge -underBinder src6
    split
    · exact h5
    · extract_lets +onlyGivenNames -merge -underBinder via7
      extract_lets +onlyGivenNames -merge -underBinder dst8
      refine Within.ite ?_ ?_
      · refine Within.ite ?_ ?_
        · refine Within.comp ?_ (dataReceive_within _ _) rfl
          exact h5
        · refine Within.comp ?_ (toCore_within _ _ _) rfl
          exact h5
      · refine Within.ite ?_ ?_
        · refine Within.comp ?_ (masterRoute_within _ _ _ _) rfl
          exact h5
        · exact h5

theorem execSetparReceive_answers (s : State) :
    Answers (execSetparReceive s) (Within [.regs, .params, .tok, .parPend, .q, .boot, .x11] s) := by
  unfold execSetparReceive
  refine Answers.next ?_
  split
  · rename_i y0 e1
    refine Within.step (t := y0) (Within.ofEq2 e1 ?_) fun h2 => ?_
    · exact (siteMessage_within _ _).sub rfl
    refine Within.comp ?_ (setparTake_within _ _) rfl
    exact h2
  · rename_i y3 e4
    refine Within.step (t := y3) (Within.ofEq2 e4 ?_) fun h5 => ?_
    · exact (siteMessage_within _ _).sub rfl
    exact Within.refl _ _

theorem execBridgedMessageReceive_answers (s : State) :
    Answers (execBridgedMessageReceive s) (Within [.regs, .q, .grpSeq, .amb, .eth, .x11] s) := by
  unfold execBridgedMessageReceive
  refine Answers.next ?_
  exact (bridged_within _).sub rfl

theorem siteReply_within (via : SiteVia) (post : Nat) (m : AmbMsg) (s : State) :
    Within [.regs, .q, .grpSeq, .amb, .eth, .x11] s (siteReply via post m s) := by
  unfold siteReply
  split
  · exact (toCore_within _ _ _).sub rfl
  · refine Within.ite ?_ ?_
    · exact (masterRoute_within _ _ _ _).sub rfl
    · exact (setAmb_within _ _).sub rfl
  · exact (groupSend_within _ _ _ _).sub rfl

theorem shareGrant_within (g : Shares) (s : State) (q : SharePost) :
    Within [.regs, .q, .grpSeq, .amb, .eth, .x11, .posts] s (shareGrant g s q) := by
  unfold shareGrant
  extract_lets +onlyGivenNames -merge -underBinder p0
  extract_lets +onlyGivenNames -merge -underBinder due1
  refine Within.ite ?_ ?_
  · extract_lets +onlyGivenNames -merge -underBinder n2
    extract_lets +onlyGivenNames -merge -underBinder q3
    extract_lets +onlyGivenNames -merge -underBinder t4
    refine Within.step (t := t4) ?_ fun h5 => ?_
    · unfold t4
      exact (setPosts_within _ _).sub rfl
    clear_value t4
    extract_lets +onlyGivenNames -merge -underBinder m6
    refine Within.comp ?_ (siteReply_within _ _ _ _) rfl
    refine Within.comp ?_ (State.bumpReg_within _ _ _) rfl
    exact h5
  · exact Within.refl _ _

theorem shareRun_within (s : State) :
    Within [.regs, .q, .grpSeq, .amb, .eth, .x11, .posts] s (shareRun s) := by
  unfold shareRun
  extract_lets +onlyGivenNames -merge -underBinder gi0
  extract_lets +onlyGivenNames -merge -underBinder ge1
  extract_lets +onlyGivenNames -merge -underBinder t2
  refine Within.step (t := t2) ?_ fun h3 => ?_
  · unfold t2
    refine Within.trans ?_ (Within.foldl (fun v4 v5 => ?_) _)
    · exact Within.refl _ _
    · exact (shareGrant_within _ _ _).sub rfl
  clear_value t2
  extract_lets +onlyGivenNames -merge -underBinder t6
  refine Within.step (t := t6) ?_ fun h7 => ?_
  · unfold t6
    refine Within.comp ?_ (State.setRegN_within _ _ _) rfl
    refine Within.comp ?_ (State.setRegN_within _ _ _) rfl
    exact h3
  clear_value t6
  refine Within.comp ?_ (State.setRegN_within _ _ _) rfl
  exact h7

theorem execShareRelReceive_answers (s : State) :
    Answers (execShareRelReceive s) (Within [.regs, .q, .grpSeq, .amb, .eth, .x11, .posts] s) := by
  unfold execShareRelReceive
  refine Answers.next ?_
  split
  · rename_i y0 e1
    refine Within.step (t := y0) (Within.ofEq2 e1 ?_) fun h2 => ?_
    · exact (siteMessage_within _ _).sub rfl
    refine Within.ite ?_ ?_
    · refine Within.comp ?_ (shareRun_within _) rfl
      refine Within.comp ?_ (shareDrop_within _ _) rfl
      exact h2
    · exact h2
  · rename_i y3 e4
    refine Within.step (t := y3) (Within.ofEq2 e4 ?_) fun h5 => ?_
    · exact (siteMessage_within _ _).sub rfl
    exact Within.refl _ _

theorem execPowerShareRun_answers (s : State) :
    Answers (execPowerShareRun s) (Within [.regs, .q, .grpSeq, .amb, .eth, .x11, .posts] s) := by
  unfold execPowerShareRun
  refine Answers.next ?_
  refine Within.ite ?_ ?_
  · refine Within.comp ?_ (shareRun_within _) rfl
    refine Within.comp ?_ (shareAge_within _) rfl
    exact (shareClasses_within _ _).sub rfl
  · exact Within.refl _ _

theorem shareReq_within (m : SiteMsg) (s : State) :
    Within [.regs, .q, .grpSeq, .amb, .eth, .x11, .posts, .postOrder] s (shareReq m s) := by
  unfold shareReq
  extract_lets +onlyGivenNames -merge -underBinder b0
  extract_lets +onlyGivenNames -merge -underBinder post1
  extract_lets +onlyGivenNames -merge -underBinder rnum2
  extract_lets +onlyGivenNames -merge -underBinder flags3
  refine Within.ite ?_ ?_
  · exact Within.refl _ _
  · extract_lets +onlyGivenNames -merge -underBinder old4
    extract_lets +onlyGivenNames -merge -underBinder fresh5
    extract_lets +onlyGivenNames -merge -underBinder anew6
    extract_lets +onlyGivenNames -merge -underBinder order7
    extract_lets +onlyGivenNames -merge -underBinder q8
    extract_lets +onlyGivenNames -merge -underBinder t9
    refine Within.step (t := t9) ?_ fun h10 => ?_
    · unfold t9
      exact (setPosts_within _ _).sub rfl
    clear_value t9
    refine Within.comp ?_ (shareRun_within _) rfl
    refine Within.ite ?_ ?_
    · refine Within.comp ?_ (Within.upd_postOrder _ _) rfl
      exact h10
    · exact h10

theorem execShareReqReceive_answers (s : State) :
    Answers (execShareReqReceive s) (Within [.regs, .q, .grpSeq, .amb, .eth, .x11, .posts, .postOrder] s) := by
  unfold execShareReqReceive
  refine Answers.next ?_
  split
  · rename_i y0 e1
    refine Within.step (t := y0) (Within.ofEq2 e1 ?_) fun h2 => ?_
    · exact (siteMessage_within _ _).sub rfl
    refine Within.ite ?_ ?_
    · refine Within.comp ?_ (shareReq_within _ _) rfl
      refine Within.comp ?_ (shareClasses_within _ _) rfl
      exact h2
    · exact h2
  · rename_i y3 e4
    refine Within.step (t := y3) (Within.ofEq2 e4 ?_) fun h5 => ?_
    · exact (siteMessage_within _ _).sub rfl
    exact Within.refl _ _

theorem setRelay_within (cmd : Bool) (wait : Bool) (again : Bool) (pend : Bool) (s : State) :
    Within [.btm] s (setRelay cmd wait again pend s) := by
  unfold setRelay
  refine Within.comp ?_ (Within.upd_btm _ _) rfl
  exact Within.refl _ _

theorem discRequest_within (i : Nat) (b : Bool) (s : State) :
    Within [.regs] s (discRequest i b s) := by
  unfold discRequest
  exact (State.putBit_within _ _ _ _).sub rfl

theorem relayMet_within (s : State) :
    Within [.regs, .btm] s (relayMet s) := by
  unfold relayMet
  extract_lets +onlyGivenNames -merge -underBinder __src0
  refine Within.step (t := __src0) ?_ fun h1 => ?_
  · unfold __src0
    exact (State.lower_within _ _).sub rfl
  clear_value __src0
  refine Within.comp ?_ (Within.upd_btm _ _) rfl
  exact h1

theorem relayClose_within (again : Bool) (s : State) :
    Within [.regs, .btm, .saf] s (relayClose again s) := by
  unfold relayClose
  split
  · exact (setRelay_within _ _ _ _ _).sub rfl
  · refine Within.ite ?_ ?_
    · extract_lets +onlyGivenNames -merge -underBinder __src0
      refine Within.step (t := __src0) ?_ fun h1 => ?_
      · unfold __src0
        exact (setRelay_within _ _ _ _ _).sub rfl
      clear_value __src0
      refine Within.comp ?_ (Within.upd_saf _ _) rfl
      exact h1
    · extract_lets +onlyGivenNames -merge -underBinder t2
      refine Within.step (t := t2) ?_ fun h3 => ?_
      · unfold t2
        refine Within.comp ?_ (setSo_within _ _ _) rfl
        refine Within.ite ?_ ?_
        · exact Within.refl _ _
        · exact (State.bumpReg_within _ _ _).sub rfl
      clear_value t2
      extract_lets +onlyGivenNames -merge -underBinder __src4
      refine Within.step (t := __src4) ?_ fun h5 => ?_
      · unfold __src4
        refine Within.comp ?_ (setRelay_within _ _ _ _ _) rfl
        exact h3
      clear_value __src4
      refine Within.comp ?_ (Within.upd_saf _ _) rfl
      exact h5

theorem relayWanted_within (s : State) :
    Within [.regs, .btm, .saf] s (relayWanted s) := by
  unfold relayWanted
  refine Within.ite ?_ ?_
  · exact (relayClose_within _ _).sub rfl
  · refine Within.comp ?_ (Within.upd_btm _ _) rfl
    exact Within.refl _ _

theorem execRelayFeedbackUncommanded_answers (level : Bool) (s : State) :
    Answers (execRelayFeedbackUncommanded level s) (Within [.regs, .logs] s) := by
  unfold execRelayFeedbackUncommanded
  extract_lets +onlyGivenNames -merge -underBinder t0
  refine Answers.step (t := t0) ?_ fun h1 => ?_
  · unfold t0
    refine Within.comp ?_ (State.putB_within _ _ _) rfl
    exact (State.putB_within _ _ _).sub rfl
  clear_value t0
  refine Answers.next ?_
  refine Within.ite ?_ ?_
  · exact h1
  · refine Within.comp ?_ (logWrite_within _ _ _ _) rfl
    exact h1

theorem relayOpen_within (s : State) :
    Within [.regs, .btm] s (relayOpen s) := by
  unfold relayOpen
  split
  · exact (setRelay_within _ _ _ _ _).sub rfl
  · refine Within.comp ?_ (setRelay_within _ _ _ _ _) rfl
    exact (setSo_within _ _ _).sub rfl

theorem discEnter_within (st : Nat) (src : Nat) (by_ : Nat) (s : State) :
    Within [.regs, .btm, .logs, .saf] s (discEnter st src by_ s) := by
  unfold discEnter
  extract_lets +onlyGivenNames -merge -underBinder t0
  refine Within.step (t := t0) ?_ fun h1 => ?_
  · unfold t0
    exact (State.put_within _ _ _).sub rfl
  clear_value t0
  refine Within.ite ?_ ?_
  · extract_lets +onlyGivenNames -merge -underBinder j3 u2
    refine Within.step (t := u2) ?_ fun h4 => ?_
    · unfold u2
      refine Within.comp ?_ (logWrite_within _ _ _ _) rfl
      refine Within.comp ?_ (Within.upd_btm _ _) rfl
      exact h1
    clear_value u2
    refine Within.ite ?_ ?_
    · exact h4
    · refine Within.comp ?_ (relayOpen_within _) rfl
      exact h4
  · refine Within.ite ?_ ?_
    · refine Within.comp ?_ (relayWanted_within _) rfl
      refine Within.comp ?_ (logWrite_within _ _ _ _) rfl
      exact h1
    · refine Within.comp ?_ (logWrite_within _ _ _ _) rfl
      exact h1

theorem discLocal_within (src : Nat) (s : State) :
    Within [.regs, .btm, .logs, .saf] s (discLocal src s) := by
  unfold discLocal
  refine Within.ite ?_ ?_
  · exact (discEnter_within _ _ _ _).sub rfl
  · exact Within.refl _ _

theorem execRelayCloseRetry_answers (s : State) :
    Answers (execRelayCloseRetry s) (Within [.regs, .btm, .saf] s) := by
  unfold execRelayCloseRetry
  refine Answers.next ?_
  refine Within.ite ?_ ?_
  · exact (relayClose_within _ _).sub rfl
  · exact Within.refl _ _

theorem execDisconnectOpenTimeout_answers (s : State) :
    Answers (execDisconnectOpenTimeout s) (Within [.regs, .btm] s) := by
  unfold execDisconnectOpenTimeout
  refine Answers.next ?_
  refine Within.ite ?_ ?_
  · exact (relayOpen_within _).sub rfl
  · exact Within.refl _ _

theorem relayFailed_within (s : State) :
    Within [.regs, .btm, .logs] s (relayFailed s) := by
  unfold relayFailed
  extract_lets +onlyGivenNames -merge -underBinder closing0
  extract_lets +onlyGivenNames -merge -underBinder code1
  extract_lets +onlyGivenNames -merge -underBinder __src3
  refine Within.step (t := __src3) ?_ fun h4 => ?_
  · unfold __src3
    exact (State.raise_within _ _).sub rfl
  clear_value __src3
  extract_lets +onlyGivenNames -merge -underBinder j6 t5
  refine Within.step (t := t5) ?_ fun h7 => ?_
  · unfold t5
    refine Within.comp ?_ (Within.upd_btm _ _) rfl
    exact h4
  clear_value t5
  extract_lets +onlyGivenNames -merge -underBinder j9 t8
  refine Within.step (t := t8) ?_ fun h10 => ?_
  · unfold t8
    refine Within.ite ?_ ?_
    · refine Within.comp ?_ (Within.upd_btm _ _) rfl
      exact h7
    · refine Within.comp ?_ (logWrite_within _ _ _ _) rfl
      exact h7
  clear_value t8
  split
  · refine Within.ite ?_ ?_
    · refine Within.comp ?_ (setRelay_within _ _ _ _ _) rfl
      refine Within.comp ?_ (setSo_within _ _ _) rfl
      exact h10
    · refine Within.comp ?_ (setRelay_within _ _ _ _ _) rfl
      refine Within.comp ?_ (setSo_within _ _ _) rfl
      exact h10
  · exact h10

theorem relayReady_within (s : State) :
    Within [.regs, .btm, .saf] s (relayReady s) := by
  unfold relayReady
  refine Within.ite ?_ ?_
  · exact (relayClose_within _ _).sub rfl
  · exact Within.refl _ _

theorem discUpdate_within (src : Nat) (by_ : Nat) (s : State) :
    Within [.regs, .btm, .logs, .saf] s (discUpdate src by_ s) := by
  unfold discUpdate
  extract_lets +onlyGivenNames -merge -underBinder st0
  refine Within.ite ?_ ?_
  · refine Within.ite ?_ ?_
    · exact Within.refl _ _
    · exact (discEnter_within _ _ _ _).sub rfl
  · refine Within.ite ?_ ?_
    · exact (discEnter_within _ _ _ _).sub rfl
    · exact Within.refl _ _

theorem discControl_within (recon : Bool) (disc : Bool) (owner : Bool) (s : State) :
    Within [.regs, .btm, .logs, .saf] s (discControl recon disc owner s) := by
  unfold discControl
  extract_lets +onlyGivenNames -merge -underBinder idle0
  extract_lets +onlyGivenNames -merge -underBinder t1
  refine Within.step (t := t1) ?_ fun h2 => ?_
  · unfold t1
    refine Within.trans ?_ (Within.when (fun v3 => ?_) _)
    · exact Within.refl _ _
    · refine Within.trans ?_ (Within.when (fun v4 => ?_) _)
      · exact (discRequest_within _ _ _).sub rfl
      · exact (discRequest_within _ _ _).sub rfl
  clear_value t1
  extract_lets +onlyGivenNames -merge -underBinder t5
  refine Within.step (t := t5) ?_ fun h6 => ?_
  · unfold t5
    refine Within.comp ?_ (discUpdate_within _ _ _) rfl
    refine Within.trans ?_ (Within.when (fun v7 => ?_) _)
    · exact h2
    · exact (discRequest_within _ _ _).sub rfl
  clear_value t5
  refine Within.trans ?_ (Within.when (fun v8 => ?_) _)
  · exact h6
  · exact (discLocal_within _ _).sub rfl

theorem fbPaths_within (n : Nat) (agree : Bool) (s : State) :
    Within [.saf] s (fbPaths n agree s) := by
  unfold fbPaths
  extract_lets +onlyGivenNames -merge -underBinder m0
  refine Within.comp ?_ (Within.upd_saf _ _) rfl
  exact Within.refl _ _

theorem fbFault_within (n : Nat) (s : State) :
    Within [.saf] s (fbFault n s) := by
  unfold fbFault
  refine Within.comp ?_ (Within.upd_saf _ _) rfl
  exact Within.refl _ _

theorem closeGrant_within (outs : Nat) (release : Bool) (s : State) :
    Within [.regs, .saf] s (closeGrant outs release s) := by
  unfold closeGrant
  extract_lets +onlyGivenNames -merge -underBinder t0
  refine Within.step (t := t0) ?_ fun h1 => ?_
  · unfold t0
    refine Within.trans ?_ (Within.upTo (fun v2 v3 => ?_) _)
    · exact Within.refl _ _
    · refine Within.ite ?_ ?_
      · refine Within.comp ?_ (setSo_within _ _ _) rfl
        exact (State.bumpReg_within _ _ _).sub rfl
      · exact Within.refl _ _
  clear_value t0
  extract_lets +onlyGivenNames -merge -underBinder c4
  refine Within.comp ?_ (Within.upd_saf _ _) rfl
  exact h1

theorem fbChange_within (n : Nat) (level : Bool) (time : Nat) (s : State) :
    Within [.regs, .saf] s (fbChange n level time s) := by
  unfold fbChange
  extract_lets +onlyGivenNames -merge -underBinder closed0
  extract_lets +onlyGivenNames -merge -underBinder was1
  extract_lets +onlyGivenNames -merge -underBinder cmd2
  extract_lets +onlyGivenNames -merge -underBinder t3
  refine Within.step (t := t3) ?_ fun h4 => ?_
  · unfold t3
    refine Within.comp ?_ (State.putBit_within _ _ _ _) rfl
    exact (State.putBit_within _ _ _ _).sub rfl
  clear_value t3
  refine Within.ite ?_ ?_
  · exact h4
  · refine Within.ite ?_ ?_
    · refine Within.comp ?_ (State.put_within _ _ _) rfl
      exact h4
    · refine Within.ite ?_ ?_
      · refine Within.comp ?_ (State.put_within _ _ _) rfl
        exact h4
      · refine Within.ite ?_ ?_
        · refine Within.comp ?_ (fbFault_within _ _) rfl
          refine Within.comp ?_ (State.raise_within _ _) rfl
          exact h4
        · exact h4

theorem fbRelay_within (level : Bool) (s : State) :
    Within [.regs, .btm] s (fbRelay level s) := by
  unfold fbRelay
  extract_lets +onlyGivenNames -merge -underBinder t0
  refine Within.step (t := t0) ?_ fun h1 => ?_
  · unfold t0
    refine Within.comp ?_ (State.putB_within _ _ _) rfl
    exact (State.putB_within _ _ _).sub rfl
  clear_value t0
  extract_lets +onlyGivenNames -merge -underBinder cmd2
  refine Within.ite ?_ ?_
  · refine Within.comp ?_ (relayMet_within _) rfl
    exact h1
  · exact h1

theorem closeRefuse_within (reason : Nat) (s : State) :
    Within [.regs, .x03] s (closeRefuse reason s) := by
  unfold closeRefuse
  refine Within.comp ?_ (report_within _ _) rfl
  refine Within.comp ?_ (State.put_within _ _ _) rfl
  exact (State.raise_within _ _).sub rfl

theorem openContactors_within (s : State) :
    Within [.regs, .btm, .saf, .x03] s (openContactors s) := by
  unfold openContactors
  refine Within.comp ?_ (contactorsLater_within _) rfl
  extract_lets +onlyGivenNames -merge -underBinder __src0
  refine Within.step (t := __src0) ?_ fun h1 => ?_
  · unfold __src0
    exact (gateAssert_within _).sub rfl
  clear_value __src0
  refine Within.comp ?_ (Within.upd_saf _ _) rfl
  exact h1

theorem closeDone_within (s : State) :
    Within [.regs, .saf, .x03] s (closeDone s) := by
  unfold closeDone
  split
  · exact Within.refl _ _
  · extract_lets +onlyGivenNames -merge -underBinder j1 t0
    refine Within.step (t := t0) ?_ fun h2 => ?_
    · unfold t0
      refine Within.comp ?_ (Within.upd_saf _ _) rfl
      exact Within.refl _ _
    clear_value t0
    refine Within.ite ?_ ?_
    · extract_lets +onlyGivenNames -merge -underBinder free3
      refine Within.comp ?_ (report_within _ _) rfl
      refine Within.ite ?_ ?_
      · refine Within.comp ?_ (State.raise_within _ _) rfl
        refine Within.comp ?_ (State.lower_within _ _) rfl
        refine Within.comp ?_ (State.lower_within _ _) rfl
        exact h2
      · exact h2
    · extract_lets +onlyGivenNames -merge -underBinder t4
      refine Within.step (t := t4) ?_ fun h5 => ?_
      · unfold t4
        refine Within.trans ?_ (Within.upTo (fun v6 v7 => ?_) _)
        · refine Within.comp ?_ (State.raise_within _ _) rfl
          exact h2
        · refine Within.ite ?_ ?_
          · exact (setSo_within _ _ _).sub rfl
          · exact Within.refl _ _
      clear_value t4
      extract_lets +onlyGivenNames -merge -underBinder t8
      refine Within.step (t := t8) ?_ fun h9 => ?_
      · unfold t8
        refine Within.ite ?_ ?_
        · exact h5
        · refine Within.comp ?_ (gateAssert_within _) rfl
          exact h5
      clear_value t8
      refine Within.comp ?_ (closeRefuse_within _ _) rfl
      refine Within.comp ?_ (Within.upd_saf _ _) rfl
      exact h9

theorem closeRequest_within (outs : Nat) (release : Bool) (s : State) :
    Within [.regs, .saf, .x03] s (closeRequest outs release s) := by
  unfold closeRequest
  extract_lets +onlyGivenNames -merge -underBinder o0
  refine Within.ite ?_ ?_
  · exact Within.refl _ _
  · split
    · exact (closeRefuse_within _ _).sub rfl
    · exact (closeGrant_within _ _ _).sub rfl

theorem execOpenRequest_answers (s : State) :
    Answers (execOpenRequest s) (Within [.regs, .btm, .saf, .x03, .x04] s) := by
  unfold execOpenRequest
  refine Answers.next ?_
  split
  · refine Within.comp ?_ (openContactors_within _) rfl
    refine Within.comp ?_ (Within.upd_x04 _ _) rfl
    exact Within.refl _ _
  · exact Within.refl _ _

theorem execCloseRequest_answers (s : State) :
    Answers (execCloseRequest s) (Within [.regs, .saf, .x03, .x04] s) := by
  unfold execCloseRequest
  refine Answers.next ?_
  split
  · refine Within.comp ?_ (closeRequest_within _ _ _) rfl
    refine Within.comp ?_ (Within.upd_x04 _ _) rfl
    exact Within.refl _ _
  · exact Within.refl _ _

theorem execCloseFeedbackDone_answers (s : State) :
    Answers (execCloseFeedbackDone s) (Within [.regs, .saf, .x03] s) := by
  unfold execCloseFeedbackDone
  refine Answers.awake ?_
  refine Answers.next ?_
  exact (closeDone_within _).sub rfl

theorem fbJudge_within (s : State) :
    Within [.regs, .btm, .saf, .x03, .x19] s (fbJudge s) := by
  unfold fbJudge
  extract_lets +onlyGivenNames -merge -underBinder bad0
  extract_lets +onlyGivenNames -merge -underBinder j2 t1
  refine Within.step (t := t1) ?_ fun h3 => ?_
  · unfold t1
    refine Within.comp ?_ (State.put_within _ _ _) rfl
    refine Within.comp ?_ (Within.upd_saf _ _) rfl
    exact Within.refl _ _
  clear_value t1
  refine Within.comp ?_ (causeFollow_within _ _ _) rfl
  exact h3

theorem fbTimeout_within (n : Nat) (s : State) :
    Within [.regs, .btm, .saf, .x03, .x19] s (fbTimeout n s) := by
  unfold fbTimeout
  refine Within.ite ?_ ?_
  · split
    · refine Within.comp ?_ (fbJudge_within _) rfl
      refine Within.comp ?_ (fbFault_within _ _) rfl
      exact (State.raise_within _ _).sub rfl
    · refine Within.comp ?_ (report_within _ _) rfl
      refine Within.comp ?_ (openContactors_within _) rfl
      exact (State.raise_within _ _).sub rfl
    · exact Within.refl _ _
  · exact Within.refl _ _

theorem execWeldClear_answers (s : State) :
    Answers (execWeldClear s) (Within [.regs, .btm, .saf, .x03, .x19] s) := by
  unfold execWeldClear
  refine Answers.next ?_
  refine Within.ite ?_ ?_
  · refine Within.comp ?_ (fbJudge_within _) rfl
    extract_lets +onlyGivenNames -merge -underBinder __src0
    refine Within.step (t := __src0) ?_ fun h1 => ?_
    · unfold __src0
      exact (State.put_within _ _ _).sub rfl
    clear_value __src0
    refine Within.comp ?_ (Within.upd_saf _ _) rfl
    exact h1
  · exact Within.refl _ _

theorem execRelayFeedbackTimeout_answers (shown : Bool) (s : State) :
    Answers (execRelayFeedbackTimeout shown s) (Within [.regs, .btm, .logs, .saf, .x03, .x19] s) := by
  unfold execRelayFeedbackTimeout
  refine Answers.next ?_
  refine Within.ite ?_ ?_
  · refine Within.ite ?_ ?_
    · exact (relayMet_within _).sub rfl
    · extract_lets +onlyGivenNames -merge -underBinder t0
      refine Within.step (t := t0) ?_ fun h1 => ?_
      · unfold t0
        exact (relayFailed_within _).sub rfl
      clear_value t0
      refine Within.ite ?_ ?_
      · exact h1
      · refine Within.comp ?_ (fbJudge_within _) rfl
        refine Within.comp ?_ (fbFault_within _ _) rfl
        exact h1
  · exact Within.refl _ _

theorem fbTake_within (n : Nat) (a : Bool) (b : Bool) (time : Nat) (s : State) :
    Within [.regs, .btm, .saf, .x03, .x19] s (fbTake n a b time s) := by
  unfold fbTake
  refine Within.ite ?_ ?_
  · exact Within.refl _ _
  · refine Within.ite ?_ ?_
    · extract_lets +onlyGivenNames -merge -underBinder t0
      refine Within.step (t := t0) ?_ fun h1 => ?_
      · unfold t0
        exact (fbPaths_within _ _ _).sub rfl
      clear_value t0
      refine Within.comp ?_ (fbJudge_within _) rfl
      refine Within.ite ?_ ?_
      · refine Within.comp ?_ (fbRelay_within _ _) rfl
        exact h1
      · refine Within.comp ?_ (fbChange_within _ _ _ _) rfl
        exact h1
    · refine Within.ite ?_ ?_
      · refine Within.comp ?_ (fbJudge_within _) rfl
        refine Within.comp ?_ (fbPaths_within _ _ _) rfl
        exact (State.raise_within _ _).sub rfl
      · exact Within.refl _ _

theorem execWeldCheckTimeout_answers (s : State) :
    Answers (execWeldCheckTimeout s) (Within [.regs, .btm, .saf, .x03, .x19] s) := by
  unfold execWeldCheckTimeout
  refine Answers.awake ?_
  refine Answers.next ?_
  refine Within.ite ?_ ?_
  · extract_lets +onlyGivenNames -merge -underBinder t0
    refine Within.step (t := t0) ?_ fun h1 => ?_
    · unfold t0
      refine Within.comp ?_ (State.raise_within _ _) rfl
      exact (State.put_within _ _ _).sub rfl
    clear_value t0
    refine Within.comp ?_ (fbJudge_within _) rfl
    refine Within.comp ?_ (Within.upd_saf _ _) rfl
    exact h1
  · exact Within.refl _ _

theorem execContactorFeedbackTimeout_answers (n : Nat) (s : State) :
    Answers (execContactorFeedbackTimeout n s) (Within [.regs, .btm, .saf, .x03, .x19] s) := by
  unfold execContactorFeedbackTimeout
  refine Answers.awake ?_
  refine Answers.next ?_
  exact (fbTimeout_within _ _).sub rfl

end Sys2Proof.Machine
end

