-- ==== Sys2Proof/Laws/Within3.lean ====
section
/-!
SUPPORT. Which parts of the state each operation changes, and that it keeps the invariant: the files of Machine/ named
Crossing, SignalBox, Vehicle, Session, Lantern, Nfc, Ethernet.
-/
namespace Sys2Proof.Machine

theorem xingNote_within (x : Nat) (s : State) :
    Within [.regs] s (xingNote x s) := by
  unfold xingNote
  extract_lets +onlyGivenNames -merge -underBinder n0
  extract_lets +onlyGivenNames -merge -underBinder t1
  refine Within.step (t := t1) ?_ fun h2 => ?_
  · unfold t1
    exact (State.put_within _ _ _).sub rfl
  clear_value t1
  refine Within.ite ?_ ?_
  · refine Within.comp ?_ (State.bump_within _ _ _) rfl
    refine Within.comp ?_ (State.raise_within _ _) rfl
    exact h2
  · refine Within.comp ?_ (State.lower_within _ _) rfl
    exact h2

theorem setXing_within (s : State) (x : Nat) (c : Xing)
    (h : s.Inv → x < 21 → c.fifo.length ≤ RegMap.xingDepth x ∧ (c.waiting ≠ [] → c.fifo.length = RegMap.xingDepth x)) :
    Within [.xings] s (setXing s x c) := by
  refine ⟨fun i => ⟨i.regs, i.params, i.cells, ?_, i.tok, i.logs, i.queues⟩,
    fun p hp => by cases p <;> first | rfl | exact absurd (by simp) hp⟩
  have get : ∀ y, y < 21 → nth (setXing s x c).xings y ⟨[], []⟩ = if y = x then c else nth s.xings y ⟨[], []⟩ := by
    intro y hy
    have hl : y < s.xings.length := by rw [i.xings.count]; exact hy
    simp only [setXing, setNth, nth, List.getD_eq_getElem?_getD, List.getElem?_set]
    by_cases hx : y = x
    · subst hx; simp [hl]
    · have hx' : ¬ x = y := fun e => hx e.symm
      simp [hx, hx']
  refine ⟨by simpa [setXing, setNth] using i.xings.count, fun y hy => ?_, fun y hy hw => ?_⟩
  · rw [get y hy]
    split
    · rename_i e; subst e; exact (h i hy).1
    · exact i.xings.depth y hy
  · rw [get y hy] at hw ⊢
    split at hw
    · rename_i e; subst e; simpa using (h i hy).2 hw
    · rename_i e; simpa [e] using i.xings.pressed y hy hw

theorem xingWrite_within (x : Nat) (w : Word64) (s : State) : Within [.regs, .xings] s (xingWrite x w s) := by
  unfold xingWrite
  split
  · exact (State.bump_within _ _ _).sub rfl
  · extract_lets +onlyGivenNames c
    split
    · rename_i hc
      refine Within.comp ?_ (xingNote_within _ _) rfl
      refine (setXing_within _ _ _ fun i hx => ⟨?_, fun h => absurd rfl h⟩).sub rfl
      simp only [List.length_append, List.length_singleton]
      omega
    · rename_i hc
      refine Within.sub (qs := [.xings]) (setXing_within s x _ fun i hx => ⟨i.xings.depth x hx, fun _ => ?_⟩) rfl
      by_cases hw : c.waiting = []
      · have h1 := i.xings.depth x hx
        have h2 : ¬ c.fifo.length < RegMap.xingDepth x := fun h => hc ⟨hw, h⟩
        exact Nat.le_antisymm h1 (Nat.not_lt.mp h2)
      · exact i.xings.pressed x hx hw

theorem execCrossingWordWrite_answers (x : Nat) (w : Word64) (s : State) :
    Answers (execCrossingWordWrite x w s) (Within [.regs, .xings] s) := by
  unfold execCrossingWordWrite
  refine Answers.next ?_
  refine Within.ite ?_ ?_
  · exact (xingWrite_within _ _ _).sub rfl
  · exact Within.refl _ _

theorem xingFlush_within (i : Island) (x : Nat) (s : State) : Within [.regs, .xings] s (xingFlush i x s) := by
  unfold xingFlush
  refine Within.ite ?_ ?_
  · extract_lets +onlyGivenNames c
    refine Within.comp ?_ (State.bump_within _ _ _) rfl
    refine Within.comp ?_ (State.lower_within _ _) rfl
    exact (setXing_within _ _ _ fun _ _ => ⟨Nat.zero_le _, fun h => absurd rfl h⟩).sub rfl
  · exact Within.refl _ _

theorem xingFlushAll_within (i : Island) (s : State) :
    Within [.regs, .xings] s (xingFlushAll i s) := by
  unfold xingFlushAll
  refine Within.trans ?_ (Within.upTo (fun v0 v1 => ?_) _)
  · exact Within.refl _ _
  · exact (xingFlush_within _ _ _).sub rfl

theorem xingAccept_within (x : Nat) (s : State) : Within [.regs, .xings, .out] s (xingAccept x s) := by
  unfold xingAccept
  split
  · exact Within.refl _ _
  · rename_i w ws hf hw
    refine Within.comp ?_ (State.emit_within _ _) rfl
    refine Within.comp ?_ (State.lower_within _ _) rfl
    refine (setXing_within _ _ _ fun i hx => ⟨?_, fun h => absurd rfl h⟩).sub rfl
    have := i.xings.depth x hx
    rw [show nth s.xings x ⟨[], []⟩ = xing s x from rfl, hf] at this
    simp only [List.length_cons] at this ⊢
    omega
  · rename_i w ws v vs hf hw
    refine Within.comp ?_ (State.emit_within _ _) rfl
    refine Within.comp ?_ (xingNote_within _ _) rfl
    refine (setXing_within _ _ _ fun i hx => ?_).sub rfl
    have h := i.xings.pressed x hx
    rw [show nth s.xings x ⟨[], []⟩ = xing s x from rfl, hf, hw] at h
    have h2 := h (by simp)
    simp only [List.length_cons] at h2
    simp only [List.length_append, List.length_singleton]
    omega

theorem execCrossingHeldWordAccept_answers (x : Nat) (s : State) :
    Answers (execCrossingHeldWordAccept x s) (Within [.regs, .xings, .out] s) := by
  unfold execCrossingHeldWordAccept
  refine Answers.next ?_
  refine Within.ite ?_ ?_
  · exact (xingAccept_within _ _).sub rfl
  · exact Within.refl _ _

theorem xingRestore_within (i : Island) (s : State) :
    Within [.regs] s (xingRestore i s) := by
  unfold xingRestore
  refine Within.trans ?_ (Within.upTo (fun v0 v1 => ?_) _)
  · exact Within.refl _ _
  · refine Within.ite ?_ ?_
    · exact (State.raise_within _ _).sub rfl
    · exact Within.refl _ _

theorem xingStatsClear_within (bits : Word) (s : State) :
    Within [.regs] s (xingStatsClear bits s) := by
  unfold xingStatsClear
  refine Within.trans ?_ (Within.upTo (fun v0 v1 => ?_) _)
  · exact Within.refl _ _
  · refine Within.ite ?_ ?_
    · refine Within.comp ?_ (State.lower_within _ _) rfl
      exact (State.lower_within _ _).sub rfl
    · exact Within.refl _ _

theorem execCrossingStatsClear_answers (p : Path) (bits : Word) (s : State) :
    Answers (execCrossingStatsClear p bits s) (Within [.regs, .out] s) := by
  unfold execCrossingStatsClear
  refine Answers.next ?_
  refine Within.trans ?_ (hostOwn_within (fun a0 => ?_) rfl)
  · exact Within.refl _ _
  · exact (xingStatsClear_within _ _).sub rfl

theorem takeSeed_within (src : Nat) (epoch : Nat) (w : Word) (s : State) :
    Within [.saf] s (takeSeed src epoch w s) := by
  unfold takeSeed
  extract_lets +onlyGivenNames -merge -underBinder keep0
  refine Within.comp ?_ (Within.upd_saf _ _) rfl
  exact Within.refl _ _

theorem setConn_within (c : Nat) (x : TgConn) (s : State) :
    Within [.saf] s (setConn c x s) := by
  unfold setConn
  refine Within.comp ?_ (Within.upd_saf _ _) rfl
  exact Within.refl _ _

theorem execCoreWordReceive_answers (seed : Option (Nat × Nat × Word)) (s : State) :
    Answers (execCoreWordReceive seed s) (Within [.saf] s) := by
  unfold execCoreWordReceive
  refine Answers.awake ?_
  extract_lets +onlyGivenNames -merge -underBinder j1 t0
  refine Answers.step (t := t0) ?_ fun h2 => ?_
  · unfold t0
    refine Within.comp ?_ (Within.upd_saf _ _) rfl
    exact Within.refl _ _
  clear_value t0
  refine Answers.next ?_
  split
  · refine Within.comp ?_ (takeSeed_within _ _ _ _) rfl
    exact h2
  · exact h2

theorem writeRecord_within (s : State) :
    Within [.regs, .saf] s (writeRecord s) := by
  unfold writeRecord
  extract_lets +onlyGivenNames -merge -underBinder j1 t0
  refine Within.step (t := t0) ?_ fun h2 => ?_
  · unfold t0
    refine Within.comp ?_ (Within.upd_saf _ _) rfl
    exact Within.refl _ _
  clear_value t0
  refine Within.comp ?_ (State.put_within _ _ _) rfl
  refine Within.comp ?_ (State.setRegN_within _ _ _) rfl
  exact h2

theorem telegramNext_within (time : Nat) (s : State) :
    Within [.regs, .saf, .free] s (telegramNext time s).2 := by
  unfold telegramNext
  extract_lets +onlyGivenNames -merge -underBinder body0
  extract_lets +onlyGivenNames -merge -underBinder sd1
  refine Within.step (t := sd1.2) ?_ fun h2 => ?_
  · unfold sd1
    split
    · exact Within.refl _ _
    · exact (State.fresh_within _).sub rfl
  clear_value sd1
  extract_lets +onlyGivenNames -merge -underBinder t3
  refine Within.step (t := t3) ?_ fun h4 => ?_
  · unfold t3
    refine Within.comp ?_ (State.setRegN_within _ _ _) rfl
    refine Within.comp ?_ (State.setRegN_within _ _ _) rfl
    exact h2
  clear_value t3
  extract_lets +onlyGivenNames -merge -underBinder j6 j7 next5
  refine Within.comp ?_ (Within.upd_saf _ _) rfl
  exact h4

theorem banLow_within (o : Nat) (s : State) :
    Within [.regs, .saf] s (banLow o s) := by
  unfold banLow
  refine Within.comp ?_ (lowSides_within _) rfl
  refine Within.comp ?_ (Within.upd_saf _ _) rfl
  exact Within.refl _ _

theorem tgCount_within (c : Nat) (k : Nat) (s : State) :
    Within [.regs] s (tgCount c k s) := by
  unfold tgCount
  exact (State.bumpReg_within _ _ _).sub rfl

theorem sampleInput_within (k : Nat) (level : Bool) (masked : Bool) (s : State) :
    Within [.regs, .saf] s (sampleInput k level masked s) := by
  unfold sampleInput
  refine Within.ite ?_ ?_
  · exact Within.refl _ _
  · extract_lets +onlyGivenNames -merge -underBinder r0
    extract_lets +onlyGivenNames -merge -underBinder n1
    extract_lets +onlyGivenNames -merge -underBinder j3 t2
    refine Within.step (t := t2) ?_ fun h4 => ?_
    · unfold t2
      refine Within.comp ?_ (Within.upd_saf _ _) rfl
      exact Within.refl _ _
    clear_value t2
    refine Within.ite ?_ ?_
    · exact h4
    · extract_lets +onlyGivenNames -merge -underBinder __src5
      refine Within.step (t := __src5) ?_ fun h6 => ?_
      · unfold __src5
        refine Within.comp ?_ (State.putBit_within _ _ _ _) rfl
        exact h4
      clear_value __src5
      refine Within.comp ?_ (Within.upd_saf _ _) rfl
      exact h6

theorem tgCompared_within (c : Nat) (s : State) :
    Within [.regs, .saf] s (tgCompared c s) := by
  unfold tgCompared
  extract_lets +onlyGivenNames -merge -underBinder x0
  extract_lets +onlyGivenNames -merge -underBinder run1
  extract_lets +onlyGivenNames -merge -underBinder back2
  extract_lets +onlyGivenNames -merge -underBinder t3
  refine Within.step (t := t3) ?_ fun h4 => ?_
  · unfold t3
    refine Within.comp ?_ (tgCount_within _ _ _) rfl
    exact (setConn_within _ _ _).sub rfl
  clear_value t3
  refine Within.ite ?_ ?_
  · refine Within.comp ?_ (State.raise_within _ _) rfl
    refine Within.comp ?_ (State.putBit_within _ _ _ _) rfl
    refine Within.comp ?_ (State.putBit_within _ _ _ _) rfl
    exact h4
  · exact h4

theorem confirmPress_within (since : Nat) (s : State) :
    Within [.regs, .saf] s (confirmPress since s) := by
  unfold confirmPress
  refine Within.ite ?_ ?_
  · refine Within.ite ?_ ?_
    · exact (writeRecord_within _).sub rfl
    · exact Within.refl _ _
  · refine Within.ite ?_ ?_
    · refine Within.comp ?_ (Within.upd_saf _ _) rfl
      exact Within.refl _ _
    · refine Within.ite ?_ ?_
      · refine Within.comp ?_ (State.raise_within _ _) rfl
        refine Within.comp ?_ (causeEnd_within _ _) rfl
        exact (writeRecord_within _).sub rfl
      · refine Within.comp ?_ (Within.upd_saf _ _) rfl
        exact Within.refl _ _

theorem tgSingle_within (c : Nat) (s : State) :
    Within [.regs, .saf] s (tgSingle c s) := by
  unfold tgSingle
  refine Within.ite ?_ ?_
  · refine Within.comp ?_ (tgCount_within _ _ _) rfl
    exact (setConn_within _ _ _).sub rfl
  · exact Within.refl _ _

theorem sampleSet_within (si : Nat) (mask : Nat) (s : State) :
    Within [.regs, .saf] s (sampleSet si mask s) := by
  unfold sampleSet
  refine Within.trans ?_ (Within.upTo (fun v0 v1 => ?_) _)
  · exact Within.refl _ _
  · exact (sampleInput_within _ _ _ _).sub rfl

theorem tgLost_within (c : Nat) (s : State) :
    Within [.regs, .saf] s (tgLost c s) := by
  unfold tgLost
  extract_lets +onlyGivenNames -merge -underBinder x0
  extract_lets +onlyGivenNames -merge -underBinder t1
  refine Within.step (t := t1) ?_ fun h2 => ?_
  · unfold t1
    exact (setConn_within _ _ _).sub rfl
  clear_value t1
  refine Within.ite ?_ ?_
  · exact h2
  · refine Within.comp ?_ (State.raise_within _ _) rfl
    refine Within.comp ?_ (State.putBit_within _ _ _ _) rfl
    refine Within.comp ?_ (State.putBit_within _ _ _ _) rfl
    exact h2

theorem tgAccept_within (c : Nat) (net : Nat) (t : List Byte) (arrival : Nat) (s : State) :
    Within [.regs, .saf] s (tgAccept c net t arrival s) := by
  unfold tgAccept
  extract_lets +onlyGivenNames -merge -underBinder u0
  refine Within.step (t := u0) ?_ fun h1 => ?_
  · unfold u0
    exact (tgSingle_within _ _).sub rfl
  clear_value u0
  extract_lets +onlyGivenNames -merge -underBinder x2
  extract_lets +onlyGivenNames -merge -underBinder e3
  extract_lets +onlyGivenNames -merge -underBinder y4
  extract_lets +onlyGivenNames -merge -underBinder u5
  refine Within.step (t := u5) ?_ fun h6 => ?_
  · unfold u5
    refine Within.comp ?_ (State.setRegN_within _ _ _) rfl
    refine Within.comp ?_ (setConn_within _ _ _) rfl
    exact h1
  clear_value u5
  refine Within.ite ?_ ?_
  · exact h6
  · refine Within.comp ?_ (State.putBit_within _ _ _ _) rfl
    exact h6

theorem sampleCycle_within (i : SafeIn) (s : State) :
    Within [.regs, .saf] s (sampleCycle i s) := by
  unfold sampleCycle
  extract_lets +onlyGivenNames -merge -underBinder one0
  have h1 : ∀ v2 v3 v4, Within [.regs, .saf] v4 (one0 v2 v3 v4) := by
    intro v2 v3 v4
    unfold one0
    extract_lets +onlyGivenNames -merge -underBinder u5
    refine Within.step (t := u5) ?_ fun h6 => ?_
    · unfold u5
      exact (sampleSet_within _ _ _).sub rfl
    clear_value u5
    refine Within.trans ?_ (Within.upTo (fun v7 v8 => ?_) _)
    · exact h6
    · refine Within.ite ?_ ?_
      · refine Within.comp ?_ (Within.upd_saf _ _) rfl
        exact Within.refl _ _
      · exact Within.refl _ _
  clear_value one0
  refine Within.trans ?_ (h1 _ _ _)
  refine Within.trans ?_ (h1 _ _ _)
  exact Within.refl _ _

theorem tgCheck_within (c : Nat) (net : Nat) (t : List Byte) (arrival : Nat) (s : State) :
    Within [.regs, .saf] s (tgCheck c net t arrival s) := by
  unfold tgCheck
  extract_lets +onlyGivenNames -merge -underBinder x0
  extract_lets +onlyGivenNames -merge -underBinder e1
  extract_lets +onlyGivenNames -merge -underBinder q2
  extract_lets +onlyGivenNames -merge -underBinder time3
  extract_lets +onlyGivenNames -merge -underBinder soon4
  refine Within.ite ?_ ?_
  · exact (tgCount_within _ _ _).sub rfl
  · refine Within.ite ?_ ?_
    · exact (tgCount_within _ _ _).sub rfl
    · refine Within.ite ?_ ?_
      · refine Within.ite ?_ ?_
        · exact (tgCompared_within _ _).sub rfl
        · refine Within.ite ?_ ?_
          · refine Within.comp ?_ (tgLost_within _ _) rfl
            refine Within.comp ?_ (tgCount_within _ _ _) rfl
            refine Within.comp ?_ (setConn_within _ _ _) rfl
            exact (State.raise_within _ _).sub rfl
          · exact Within.refl _ _
      · refine Within.ite ?_ ?_
        · exact (tgCount_within _ _ _).sub rfl
        · refine Within.ite ?_ ?_
          · exact (tgCount_within _ _ _).sub rfl
          · exact (tgAccept_within _ _ _ _ _).sub rfl

theorem execCauseResumeHoldEnd_answers (n : Nat) (s : State) :
    Answers (execCauseResumeHoldEnd n s) (Within [.regs, .saf, .x03, .x19] s) := by
  unfold execCauseResumeHoldEnd
  refine Answers.awake ?_
  refine Answers.next ?_
  refine Within.ite ?_ ?_
  · refine Within.comp ?_ (settle_within _) rfl
    refine Within.comp ?_ (causeEnd_within _ _) rfl
    refine Within.comp ?_ (Within.upd_saf _ _) rfl
    exact Within.refl _ _
  · refine Within.ite ?_ ?_
    · refine Within.comp ?_ (settle_within _) rfl
      refine Within.comp ?_ (causeEnd_within _ _) rfl
      refine Within.comp ?_ (Within.upd_saf _ _) rfl
      exact Within.refl _ _
    · refine Within.ite ?_ ?_
      · refine Within.comp ?_ (settle_within _) rfl
        refine Within.comp ?_ (causeEnd_within _ _) rfl
        refine Within.comp ?_ (Within.upd_saf _ _) rfl
        exact Within.refl _ _
      · exact Within.refl _ _

theorem execMetroTimeout_answers (s : State) :
    Answers (execMetroTimeout s) (Within [.regs, .btm, .saf, .x03, .x19] s) := by
  unfold execMetroTimeout
  refine Answers.awake ?_
  refine Answers.next ?_
  refine Within.comp ?_ (causeSet_within _ _) rfl
  refine Within.comp ?_ (Within.upd_saf _ _) rfl
  exact Within.refl _ _

theorem tgCauses_within (s : State) :
    Within [.regs, .btm, .saf, .x03, .x19] s (tgCauses s) := by
  unfold tgCauses
  extract_lets +onlyGivenNames -merge -underBinder estop0
  extract_lets +onlyGivenNames -merge -underBinder loss1
  refine Within.comp ?_ (settle_within _) rfl
  refine Within.comp ?_ (causeFollow_within _ _ _) rfl
  exact (causeFollow_within _ _ _).sub rfl

theorem pairCauses_within (s : State) :
    Within [.regs, .btm, .saf, .x03, .x19] s (pairCauses s) := by
  unfold pairCauses
  extract_lets +onlyGivenNames -merge -underBinder t0
  refine Within.step (t := t0) ?_ fun h1 => ?_
  · unfold t0
    refine Within.comp ?_ (causeFollow_within _ _ _) rfl
    exact (causeFollow_within _ _ _).sub rfl
  clear_value t0
  extract_lets +onlyGivenNames -merge -underBinder t2
  refine Within.step (t := t2) ?_ fun h3 => ?_
  · unfold t2
    refine Within.comp ?_ (causeFollow_within _ _ _) rfl
    exact h1
  clear_value t2
  refine Within.comp ?_ (causeFollow_within _ _ _) rfl
  exact h3

theorem execDiscrepancyTimeout_answers (pair : Nat) (s : State) :
    Answers (execDiscrepancyTimeout pair s) (Within [.regs, .btm, .saf, .x03, .x19] s) := by
  unfold execDiscrepancyTimeout
  refine Answers.awake ?_
  extract_lets +onlyGivenNames -merge -underBinder p0
  refine Answers.next ?_
  refine Within.ite ?_ ?_
  · extract_lets +onlyGivenNames -merge -underBinder q1
    extract_lets +onlyGivenNames -merge -underBinder j3 t2
    refine Within.step (t := t2) ?_ fun h4 => ?_
    · unfold t2
      refine Within.comp ?_ (Within.upd_saf _ _) rfl
      exact Within.refl _ _
    clear_value t2
    refine Within.comp ?_ (causeFollow_within _ _ _) rfl
    refine Within.comp ?_ (causeSet_within _ _) rfl
    exact h4
  · exact Within.refl _ _

theorem execResetStuckTimeout_answers (s : State) :
    Answers (execResetStuckTimeout s) (Within [.regs, .btm, .saf, .x03, .x19] s) := by
  unfold execResetStuckTimeout
  refine Answers.awake ?_
  refine Answers.next ?_
  refine Within.ite ?_ ?_
  · refine Within.comp ?_ (causeSet_within _ _) rfl
    refine Within.comp ?_ (Within.upd_saf _ _) rfl
    exact Within.refl _ _
  · exact Within.refl _ _

theorem outputFault_within (o : Nat) (s : State) :
    Within [.regs, .btm, .saf, .x03, .x19] s (outputFault o s) := by
  unfold outputFault
  refine Within.comp ?_ (causeSet_within _ _) rfl
  refine Within.ite ?_ ?_
  · exact (setSo_within _ _ _).sub rfl
  · exact (banLow_within _ _).sub rfl

theorem clearCauses_within (refire : Nat) (s : State) :
    Within [.regs, .btm, .saf, .x03, .x19] s (clearCauses refire s) := by
  unfold clearCauses
  extract_lets +onlyGivenNames -merge -underBinder l0
  extract_lets +onlyGivenNames -merge -underBinder t1
  refine Within.step (t := t1) ?_ fun h2 => ?_
  · unfold t1
    refine Within.trans ?_ (Within.foldl (fun v3 v4 => ?_) _)
    · exact Within.refl _ _
    · exact (safLatch_within _ _ _).sub rfl
  clear_value t1
  extract_lets +onlyGivenNames -merge -underBinder j6 t5
  refine Within.step (t := t5) ?_ fun h7 => ?_
  · unfold t5
    refine Within.ite ?_ ?_
    · refine Within.comp ?_ (Within.upd_saf _ _) rfl
      exact h2
    · exact h2
  clear_value t5
  refine Within.ite ?_ ?_
  · extract_lets +onlyGivenNames -merge -underBinder u8
    refine Within.step (t := u8) ?_ fun h9 => ?_
    · unfold u8
      refine Within.comp ?_ (State.lower_within _ _) rfl
      refine Within.comp ?_ (State.lower_within _ _) rfl
      exact h7
    clear_value u8
    refine Within.ite ?_ ?_
    · exact h9
    · refine Within.comp ?_ (tripRecognise_within _) rfl
      refine Within.comp ?_ (tripComparators_within _ _) rfl
      exact h9
  · exact h7

theorem execCoreTimeout_answers (s : State) :
    Answers (execCoreTimeout s) (Within [.regs, .btm, .saf, .x03, .x19] s) := by
  unfold execCoreTimeout
  refine Answers.awake ?_
  refine Answers.next ?_
  refine Within.comp ?_ (causeSet_within _ _) rfl
  refine Within.comp ?_ (Within.upd_saf _ _) rfl
  exact Within.refl _ _

theorem testPulse_within (tp : Nat) (closed : Nat) (wrong : Nat) (s : State) :
    Within [.regs, .btm, .saf, .x03, .x19] s (testPulse tp closed wrong s) := by
  unfold testPulse
  extract_lets +onlyGivenNames -merge -underBinder fed0
  extract_lets +onlyGivenNames -merge -underBinder other1
  extract_lets +onlyGivenNames -merge -underBinder bad2
  extract_lets +onlyGivenNames -merge -underBinder passed3
  extract_lets +onlyGivenNames -merge -underBinder j5 t4
  refine Within.step (t := t4) ?_ fun h6 => ?_
  · unfold t4
    refine Within.comp ?_ (Within.upd_saf _ _) rfl
    exact Within.refl _ _
  clear_value t4
  refine Within.comp ?_ (settle_within _) rfl
  refine Within.comp ?_ (causeFollow_within _ _ _) rfl
  exact h6

theorem execInputTestPulse_answers (tp : Nat) (closed : Nat) (wrong : Nat) (s : State) :
    Answers (execInputTestPulse tp closed wrong s) (Within [.regs, .btm, .saf, .x03, .x19] s) := by
  unfold execInputTestPulse
  refine Answers.awake ?_
  refine Answers.next ?_
  refine Within.ite ?_ ?_
  · exact (testPulse_within _ _ _ _).sub rfl
  · exact Within.refl _ _

theorem execSealChange_answers (pattern : Nat) (s : State) :
    Answers (execSealChange pattern s) (Within [.regs, .btm, .saf, .x03, .x19] s) := by
  unfold execSealChange
  extract_lets +onlyGivenNames -merge -underBinder t0
  refine Answers.step (t := t0) ?_ fun h1 => ?_
  · unfold t0
    refine Within.comp ?_ (State.put_within _ _ _) rfl
    exact (State.put_within _ _ _).sub rfl
  clear_value t0
  refine Answers.next ?_
  refine Within.ite ?_ ?_
  · refine Within.comp ?_ (causeSet_within _ _) rfl
    exact h1
  · exact h1

theorem execTelegramTimeout_answers (c : Nat) (s : State) :
    Answers (execTelegramTimeout c s) (Within [.regs, .btm, .saf, .x03, .x19] s) := by
  unfold execTelegramTimeout
  refine Answers.awake ?_
  refine Answers.next ?_
  refine Within.ite ?_ ?_
  · refine Within.comp ?_ (tgCauses_within _) rfl
    refine Within.comp ?_ (tgLost_within _ _) rfl
    exact (tgSingle_within _ _).sub rfl
  · exact Within.refl _ _

theorem execOutputOffCheck_answers (output : Nat) (conducts : Bool) (s : State) :
    Answers (execOutputOffCheck output conducts s) (Within [.regs, .btm, .saf, .x03, .x19] s) := by
  unfold execOutputOffCheck
  refine Answers.awake ?_
  refine Answers.next ?_
  refine Within.ite ?_ ?_
  · exact (outputFault_within _ _).sub rfl
  · exact Within.refl _ _

theorem execOutputTestPulse_answers (output : Nat) (pass : Bool) (s : State) :
    Answers (execOutputTestPulse output pass s) (Within [.regs, .btm, .saf, .x03, .x19] s) := by
  unfold execOutputTestPulse
  refine Answers.awake ?_
  refine Answers.next ?_
  refine Within.ite ?_ ?_
  · exact (outputFault_within _ _).sub rfl
  · exact Within.refl _ _

theorem plausCycle_within (s : State) :
    Within [.regs, .btm, .saf, .x03, .x19] s (plausCycle s) := by
  unfold plausCycle
  extract_lets +onlyGivenNames -merge -underBinder off0
  extract_lets +onlyGivenNames -merge -underBinder above1
  refine Within.comp ?_ (causeFollow_within _ _ _) rfl
  refine Within.comp ?_ (Within.upd_saf _ _) rfl
  exact Within.refl _ _

theorem tgReceive_within (net : Nat) (bytes : List Byte) (arrival : Nat) (s : State) :
    Within [.regs, .btm, .saf, .x03, .x19] s (tgReceive net bytes arrival s) := by
  unfold tgReceive
  extract_lets +onlyGivenNames -merge -underBinder t0
  extract_lets +onlyGivenNames -merge -underBinder s1
  refine Within.step (t := s1) ?_ fun h2 => ?_
  · unfold s1
    refine Within.ite ?_ ?_
    · exact (State.bumpReg_within _ _ _).sub rfl
    · exact Within.refl _ _
  clear_value s1
  extract_lets +onlyGivenNames -merge -underBinder used3
  split
  · refine Within.trans ?_ (Within.foldl (fun v4 v5 => ?_) _)
    · exact h2
    · exact (tgCount_within _ _ _).sub rfl
  · refine Within.ite ?_ ?_
    · refine Within.comp ?_ (tgCauses_within _) rfl
      refine Within.comp ?_ (tgCheck_within _ _ _ _ _) rfl
      exact h2
    · refine Within.comp ?_ (tgCount_within _ _ _) rfl
      exact h2

theorem resetRelease_within (held : Nat) (since : Nat) (refire : Nat) (s : State) :
    Within [.regs, .btm, .saf, .x03, .x19] s (resetRelease held since refire s) := by
  unfold resetRelease
  extract_lets +onlyGivenNames -merge -underBinder t0
  refine Within.step (t := t0) ?_ fun h1 => ?_
  · unfold t0
    exact (State.lower_within _ _).sub rfl
  clear_value t0
  refine Within.ite ?_ ?_
  · refine Within.ite ?_ ?_
    · refine Within.comp ?_ (Within.upd_saf _ _) rfl
      exact h1
    · exact h1
  · refine Within.ite ?_ ?_
    · exact h1
    · refine Within.ite ?_ ?_
      · exact h1
      · refine Within.ite ?_ ?_
        · refine Within.comp ?_ (settle_within _) rfl
          refine Within.comp ?_ (confirmPress_within _ _) rfl
          refine Within.comp ?_ (State.bump_within _ _ _) rfl
          exact h1
        · refine Within.ite ?_ ?_
          · exact h1
          · extract_lets +onlyGivenNames -merge -underBinder u2
            refine Within.step (t := u2) ?_ fun h3 => ?_
            · unfold u2
              refine Within.comp ?_ (State.bump_within _ _ _) rfl
              exact h1
            clear_value u2
            refine Within.ite ?_ ?_
            · exact h3
            · extract_lets +onlyGivenNames -merge -underBinder ready4
              refine Within.comp ?_ (settle_within _) rfl
              refine Within.comp ?_ (clearCauses_within _ _) rfl
              refine Within.comp ?_ (Within.upd_saf _ _) rfl
              exact h3

theorem execSafeTelegramReceive_answers (arrival : Nat) (s : State) :
    Answers (execSafeTelegramReceive arrival s) (Within [.regs, .btm, .saf, .x03, .x19, .x09] s) := by
  unfold execSafeTelegramReceive
  refine Answers.awake ?_
  refine Answers.next ?_
  split
  · exact Within.refl _ _
  · refine Within.comp ?_ (tgReceive_within _ _ _ _) rfl
    refine Within.comp ?_ (Within.upd_x09 _ _) rfl
    exact Within.refl _ _

theorem safetyCycle_within (i : SafeIn) (s : State) :
    Within [.regs, .btm, .saf, .x03, .x19] s (safetyCycle i s) := by
  unfold safetyCycle
  extract_lets +onlyGivenNames -merge -underBinder t0
  refine Within.step (t := t0) ?_ fun h1 => ?_
  · unfold t0
    refine Within.comp ?_ (sampleCycle_within _ _) rfl
    exact (State.putB_within _ _ _).sub rfl
  clear_value t0
  extract_lets +onlyGivenNames -merge -underBinder t2
  refine Within.step (t := t2) ?_ fun h3 => ?_
  · unfold t2
    refine Within.comp ?_ (causeFollow_within _ _ _) rfl
    refine Within.comp ?_ (pairCauses_within _) rfl
    exact h1
  clear_value t2
  extract_lets +onlyGivenNames -merge -underBinder t4
  refine Within.step (t := t4) ?_ fun h5 => ?_
  · unfold t4
    refine Within.comp ?_ (causeFollow_within _ _ _) rfl
    exact h3
  clear_value t4
  extract_lets +onlyGivenNames -merge -underBinder t6
  refine Within.step (t := t6) ?_ fun h7 => ?_
  · unfold t6
    refine Within.comp ?_ (rcmEvaluate_within _) rfl
    exact h5
  clear_value t6
  extract_lets +onlyGivenNames -merge -underBinder t8
  refine Within.step (t := t8) ?_ fun h9 => ?_
  · unfold t8
    refine Within.comp ?_ (causeFollow_within _ _ _) rfl
    exact h7
  clear_value t8
  extract_lets +onlyGivenNames -merge -underBinder t10
  refine Within.step (t := t10) ?_ fun h11 => ?_
  · unfold t10
    refine Within.comp ?_ (tripRecognise_within _) rfl
    refine Within.comp ?_ (tripComparators_within _ _) rfl
    exact h9
  clear_value t10
  extract_lets +onlyGivenNames -merge -underBinder t12
  refine Within.step (t := t12) ?_ fun h13 => ?_
  · unfold t12
    refine Within.ite ?_ ?_
    · exact h11
    · refine Within.comp ?_ (causeSet_within _ _) rfl
      exact h11
  clear_value t12
  extract_lets +onlyGivenNames -merge -underBinder t14
  refine Within.step (t := t14) ?_ fun h15 => ?_
  · unfold t14
    refine Within.ite ?_ ?_
    · exact h13
    · refine Within.comp ?_ (causeSet_within _ _) rfl
      exact h13
  clear_value t14
  extract_lets +onlyGivenNames -merge -underBinder t16
  refine Within.step (t := t16) ?_ fun h17 => ?_
  · unfold t16
    refine Within.comp ?_ (plausCycle_within _) rfl
    exact h15
  clear_value t16
  extract_lets +onlyGivenNames -merge -underBinder t18
  refine Within.step (t := t18) ?_ fun h19 => ?_
  · unfold t18
    refine Within.comp ?_ (causeFollow_within _ _ _) rfl
    exact h17
  clear_value t18
  refine Within.comp ?_ (settle_within _) rfl
  refine Within.comp ?_ (causeFollow_within _ _ _) rfl
  exact h19

theorem execSafetyCycle_answers (i : SafeIn) (s : State) :
    Answers (execSafetyCycle i s) (Within [.regs, .btm, .saf, .x03, .x19] s) := by
  unfold execSafetyCycle
  refine Answers.awake ?_
  refine Answers.next ?_
  exact (safetyCycle_within _ _).sub rfl

theorem toSession_within (r : VlReport) (s : State) :
    Within [.x05] s (toSession r s) := by
  unfold toSession
  refine Within.comp ?_ (Within.upd_x05 _ _) rfl
  exact Within.refl _ _

theorem setVl_within (v : VlState) (s : State) :
    Within [.vl] s (setVl v s) := by
  unfold setVl
  refine Within.comp ?_ (Within.upd_vl _ _) rfl
  exact Within.refl _ _

theorem gpTake_within (n : Nat) (s : State) :
    Within [.q] s (gpTake n s).2 := by
  unfold gpTake
  extract_lets +onlyGivenNames -merge -underBinder a0
  extract_lets +onlyGivenNames -merge -underBinder b1
  refine Within.comp ?_ (setQueue_within _ _ _) rfl
  exact (setQueue_within _ _ _).sub rfl

theorem linkUse_within (kind : Nat) (s : State) :
    Within [.regs, .x05] s (linkUse kind s) := by
  unfold linkUse
  refine Within.ite ?_ ?_
  · refine Within.comp ?_ (toSession_within _ _) rfl
    exact (State.put_within _ _ _).sub rfl
  · exact Within.refl _ _

theorem execCmAttenCharRsp_answers (runId : Nat) (s : State) :
    Answers (execCmAttenCharRsp runId s) (Within [.regs] s) := by
  unfold execCmAttenCharRsp
  refine Answers.awake ?_
  refine Answers.next ?_
  refine Within.ite ?_ ?_
  · exact (State.put_within _ _ _).sub rfl
  · exact Within.refl _ _

theorem slacIdle_within (s : State) :
    Within [.regs, .vl] s (slacIdle s) := by
  unfold slacIdle
  refine Within.comp ?_ (setVl_within _ _) rfl
  refine Within.comp ?_ (State.put_within _ _ _) rfl
  exact (State.put_within _ _ _).sub rfl

theorem execPilotWordTimeout_answers (s : State) :
    Answers (execPilotWordTimeout s) (Within [.saf] s) := by
  unfold execPilotWordTimeout
  refine Answers.awake ?_
  refine Answers.next ?_
  refine Within.comp ?_ (Within.upd_saf _ _) rfl
  exact Within.refl _ _

theorem coordTake_within (type : Nat) (s : State) :
    Within [.q] s (coordTake type s).2 := by
  unfold coordTake
  split
  · rename_i y0 e1
    refine Within.step (t := y0) (Within.ofEq2 e1 ?_) fun h2 => ?_
    · exact (groupTake_within _ _ _).sub rfl
    exact h2
  · rename_i y3 e4
    refine Within.step (t := y3) (Within.ofEq2 e4 ?_) fun h5 => ?_
    · exact (groupTake_within _ _ _).sub rfl
    exact h5

theorem drawWords_within (x : Nat) (x1 : State) :
    Within [.free] x1 (drawWords x x1).2 := by
  induction x generalizing x1 with
  | zero =>
    unfold drawWords
    exact Within.refl _ _
  | succ k ih =>
    unfold drawWords
    extract_lets +onlyGivenNames -merge -underBinder x0
    refine Within.step (t := x0.2) ?_ fun h1 => ?_
    · unfold x0
      exact (State.fresh_within _).sub rfl
    clear_value x0
    extract_lets +onlyGivenNames -merge -underBinder y2
    refine Within.step (t := y2.2) ?_ fun h3 => ?_
    · unfold y2
      refine Within.comp ?_ (ih _) rfl
      exact h1
    clear_value y2
    exact h3

theorem execCmValidateReq_answers (s : State) :
    Answers (execCmValidateReq s) (Within [.vl, .out] s) := by
  unfold execCmValidateReq
  refine Answers.awake ?_
  refine Answers.next ?_
  refine Within.ite ?_ ?_
  · refine Within.comp ?_ (State.emit_within _ _) rfl
    exact (setVl_within _ _).sub rfl
  · exact Within.refl _ _

theorem pilotApply_within (s : State) :
    Within [.regs] s (pilotApply s) := by
  unfold pilotApply
  extract_lets +onlyGivenNames -merge -underBinder d0
  refine Within.comp ?_ (State.put_within _ _ _) rfl
  exact (State.put_within _ _ _).sub rfl

theorem coordReport_within (m : List Byte) (s : State) :
    Within [.vl] s (coordReport m s) := by
  unfold coordReport
  extract_lets +onlyGivenNames -merge -underBinder num0
  extract_lets +onlyGivenNames -merge -underBinder r1
  refine Within.ite ?_ ?_
  · extract_lets +onlyGivenNames -merge -underBinder keep2
    exact (setVl_within _ _).sub rfl
  · exact Within.refl _ _

theorem gpSend_within (full : Bool) (n : Nat) (s : State) :
    Within [.regs, .q, .vl, .out] s (gpSend full n s) := by
  unfold gpSend
  extract_lets +onlyGivenNames -merge -underBinder j1 x0
  refine Within.step (t := x0.2) ?_ fun h2 => ?_
  · unfold x0
    refine Within.comp ?_ (gpTake_within _ _) rfl
    exact (setVl_within _ _).sub rfl
  clear_value x0
  extract_lets +onlyGivenNames -merge -underBinder t3
  refine Within.step (t := t3) ?_ fun h4 => ?_
  · unfold t3
    refine Within.comp ?_ (State.emit_within _ _) rfl
    exact h2
  clear_value t3
  refine Within.ite ?_ ?_
  · exact h4
  · refine Within.comp ?_ (State.raise_within _ _) rfl
    refine Within.comp ?_ (State.bump_within _ _ _) rfl
    exact h4

theorem slacParm_within (runId : Nat) (mac : Nat) (age : Nat) (s : State) :
    Within [.regs, .vl, .out] s (slacParm runId mac age s) := by
  unfold slacParm
  extract_lets +onlyGivenNames -merge -underBinder age0
  extract_lets +onlyGivenNames -merge -underBinder t1
  refine Within.step (t := t1) ?_ fun h2 => ?_
  · unfold t1
    refine Within.comp ?_ (State.put_within _ _ _) rfl
    exact (State.setRegN_within _ _ _).sub rfl
  clear_value t1
  extract_lets +onlyGivenNames -merge -underBinder t3
  refine Within.step (t := t3) ?_ fun h4 => ?_
  · unfold t3
    refine Within.comp ?_ (State.setRegN_within _ _ _) rfl
    refine Within.comp ?_ (State.setRegN_within _ _ _) rfl
    exact h2
  clear_value t3
  extract_lets +onlyGivenNames -merge -underBinder j6 v5
  refine Within.comp ?_ (State.emit_within _ _) rfl
  refine Within.comp ?_ (setVl_within _ _) rfl
  refine Within.comp ?_ (State.lower_within _ _) rfl
  exact h4

theorem slacAnswer_within (s : State) :
    Within [.regs, .vl, .out] s (slacAnswer s) := by
  unfold slacAnswer
  extract_lets +onlyGivenNames -merge -underBinder t0
  refine Within.step (t := t0) ?_ fun h1 => ?_
  · unfold t0
    refine Within.comp ?_ (State.lower_within _ _) rfl
    exact (State.put_within _ _ _).sub rfl
  clear_value t0
  refine Within.comp ?_ (State.emit_within _ _) rfl
  refine Within.comp ?_ (setVl_within _ _) rfl
  exact h1

theorem gpBurst_within (n : Nat) (s : State) :
    Within [.regs, .tok, .q, .vl, .out] s (gpBurst n s) := by
  unfold gpBurst
  refine Within.ite ?_ ?_
  · exact Within.refl _ _
  · refine Within.ite ?_ ?_
    · refine Within.comp ?_ (tokRelease_within _ _ _) rfl
      exact (gpSend_within _ _ _).sub rfl
    · refine Within.ite ?_ ?_
      · exact Within.refl _ _
      · refine Within.ite ?_ ?_
        · exact (gpSend_within _ _ _).sub rfl
        · split
          · rename_i y0 e1
            refine Within.step (t := y0) (Within.ofEq2 e1 ?_) fun h2 => ?_
            · exact (tokRequest_within _ _ _ _).sub rfl
            refine Within.comp ?_ (tokRelease_within _ _ _) rfl
            refine Within.comp ?_ (gpSend_within _ _ _) rfl
            exact h2
          · rename_i y3 e4
            refine Within.step (t := y3) (Within.ofEq2 e4 ?_) fun h5 => ?_
            · exact (tokRequest_within _ _ _ _).sub rfl
            refine Within.comp ?_ (setVl_within _ _) rfl
            exact h5
          · rename_i y6 e7
            refine Within.step (t := y6) (Within.ofEq2 e7 ?_) fun h8 => ?_
            · exact (tokRequest_within _ _ _ _).sub rfl
            refine Within.comp ?_ (gpSend_within _ _ _) rfl
            exact h8

theorem pilotDemanded_within (v : Nat) (s : State) :
    Within [.regs, .vl] s (pilotDemanded v s) := by
  unfold pilotDemanded
  extract_lets +onlyGivenNames -merge -underBinder was0
  refine Within.comp ?_ (pilotApply_within _) rfl
  refine Within.comp ?_ (setVl_within _ _) rfl
  exact (State.put_within _ _ _).sub rfl

theorem slacParmReq_within (runId : Nat) (mac : Nat) (security : Nat) (age : Nat) (s : State) :
    Within [.regs, .vl, .out] s (slacParmReq runId mac security age s) := by
  unfold slacParmReq
  extract_lets +onlyGivenNames -merge -underBinder st0
  extract_lets +onlyGivenNames -merge -underBinder again1
  refine Within.ite ?_ ?_
  · exact (slacParm_within _ _ _ _).sub rfl
  · exact Within.refl _ _

theorem proxMeasure_within (mohm : Option Nat) (s : State) :
    Within [.regs, .x05, .vl] s (proxMeasure mohm s) := by
  unfold proxMeasure
  extract_lets +onlyGivenNames -merge -underBinder mode0
  refine Within.ite ?_ ?_
  · refine Within.comp ?_ (State.setRegN_within _ _ _) rfl
    exact (State.put_within _ _ _).sub rfl
  · extract_lets +onlyGivenNames -merge -underBinder c1
    extract_lets +onlyGivenNames -merge -underBinder run2
    extract_lets +onlyGivenNames -merge -underBinder shown3
    extract_lets +onlyGivenNames -merge -underBinder j5 t4
    refine Within.step (t := t4) ?_ fun h6 => ?_
    · unfold t4
      refine Within.comp ?_ (setVl_within _ _) rfl
      exact (State.setRegN_within _ _ _).sub rfl
    clear_value t4
    refine Within.ite ?_ ?_
    · extract_lets +onlyGivenNames -merge -underBinder u7
      refine Within.step (t := u7) ?_ fun h8 => ?_
      · unfold u7
        refine Within.comp ?_ (State.raise_within _ _) rfl
        refine Within.comp ?_ (State.put_within _ _ _) rfl
        exact h6
      clear_value u7
      refine Within.comp ?_ (toSession_within _ _) rfl
      refine Within.trans ?_ (Within.when (fun v9 => ?_) _)
      · exact h8
      · exact (State.raise_within _ _).sub rfl
    · exact h6

theorem slacFail_within (reason : Nat) (s : State) :
    Within [.regs, .x05, .vl] s (slacFail reason s) := by
  unfold slacFail
  extract_lets +onlyGivenNames -merge -underBinder t0
  refine Within.step (t := t0) ?_ fun h1 => ?_
  · unfold t0
    refine Within.comp ?_ (State.raise_within _ _) rfl
    refine Within.comp ?_ (State.put_within _ _ _) rfl
    exact (State.put_within _ _ _).sub rfl
  clear_value t0
  extract_lets +onlyGivenNames -merge -underBinder j3 t2
  refine Within.step (t := t2) ?_ fun h4 => ?_
  · unfold t2
    refine Within.comp ?_ (setVl_within _ _) rfl
    refine Within.comp ?_ (State.lower_within _ _) rfl
    exact h1
  clear_value t2
  extract_lets +onlyGivenNames -merge -underBinder t5
  refine Within.step (t := t5) ?_ fun h6 => ?_
  · unfold t5
    refine Within.ite ?_ ?_
    · refine Within.comp ?_ (State.bump_within _ _ _) rfl
      refine Within.comp ?_ (State.raise_within _ _) rfl
      exact h4
    · exact h4
  clear_value t5
  refine Within.ite ?_ ?_
  · exact h6
  · refine Within.comp ?_ (toSession_within _ _) rfl
    exact h6

theorem slacMatch_within (runId : Nat) (mac : Nat) (s : State) :
    Within [.regs, .x05, .vl, .out, .free] s (slacMatch runId mac s) := by
  unfold slacMatch
  extract_lets +onlyGivenNames -merge -underBinder k0
  refine Within.step (t := k0.2) ?_ fun h1 => ?_
  · unfold k0
    exact (drawWords_within _ _).sub rfl
  clear_value k0
  extract_lets +onlyGivenNames -merge -underBinder t2
  refine Within.step (t := t2) ?_ fun h3 => ?_
  · unfold t2
    refine Within.comp ?_ (State.raise_within _ _) rfl
    refine Within.comp ?_ (State.put_within _ _ _) rfl
    exact h1
  clear_value t2
  extract_lets +onlyGivenNames -merge -underBinder t4
  refine Within.step (t := t4) ?_ fun h5 => ?_
  · unfold t4
    refine Within.comp ?_ (State.setRegN_within _ _ _) rfl
    refine Within.comp ?_ (State.setRegN_within _ _ _) rfl
    exact h3
  clear_value t4
  extract_lets +onlyGivenNames -merge -underBinder t6
  refine Within.step (t := t6) ?_ fun h7 => ?_
  · unfold t6
    refine Within.comp ?_ (State.setRegN_within _ _ _) rfl
    refine Within.comp ?_ (State.setRegN_within _ _ _) rfl
    exact h5
  clear_value t6
  extract_lets +onlyGivenNames -merge -underBinder j9 t8
  refine Within.step (t := t8) ?_ fun h10 => ?_
  · unfold t8
    refine Within.comp ?_ (setVl_within _ _) rfl
    refine Within.comp ?_ (State.bump_within _ _ _) rfl
    exact h7
  clear_value t8
  refine Within.comp ?_ (linkUse_within _ _) rfl
  refine Within.comp ?_ (State.emit_within _ _) rfl
  exact h10

theorem execProximityMeasure_answers (mohm : Option Nat) (s : State) :
    Answers (execProximityMeasure mohm s) (Within [.regs, .x05, .vl] s) := by
  unfold execProximityMeasure
  refine Answers.awake ?_
  refine Answers.next ?_
  exact (proxMeasure_within _ _).sub rfl

theorem execMatchWaitTimeout_answers (s : State) :
    Answers (execMatchWaitTimeout s) (Within [.regs, .x05, .vl] s) := by
  unfold execMatchWaitTimeout
  refine Answers.awake ?_
  refine Answers.next ?_
  refine Within.ite ?_ ?_
  · exact (slacFail_within _ _).sub rfl
  · exact Within.refl _ _

theorem pilotRequest_within (mode : Nat) (duty : Nat) (s : State) :
    Within [.regs, .vl] s (pilotRequest mode duty s) := by
  unfold pilotRequest
  extract_lets +onlyGivenNames -merge -underBinder t0
  refine Within.step (t := t0) ?_ fun h1 => ?_
  · unfold t0
    exact (State.lower_within _ _).sub rfl
  clear_value t0
  refine Within.ite ?_ ?_
  · exact h1
  · refine Within.ite ?_ ?_
    · refine Within.comp ?_ (pilotApply_within _) rfl
      refine Within.comp ?_ (setVl_within _ _) rfl
      exact h1
    · refine Within.ite ?_ ?_
      · refine Within.comp ?_ (pilotApply_within _) rfl
        exact h1
      · refine Within.comp ?_ (pilotApply_within _) rfl
        refine Within.comp ?_ (setVl_within _ _) rfl
        refine Within.comp ?_ (State.put_within _ _ _) rfl
        exact h1

theorem execPilotX06Silence_answers (s : State) :
    Answers (execPilotX06Silence s) (Within [.regs] s) := by
  unfold execPilotX06Silence
  refine Answers.awake ?_
  refine Answers.next ?_
  refine Within.comp ?_ (pilotApply_within _) rfl
  refine Within.comp ?_ (State.raise_within _ _) rfl
  exact (State.raise_within _ _).sub rfl

theorem execPilotSessionRequest_answers (word : Option (Nat × Nat)) (s : State) :
    Answers (execPilotSessionRequest word s) (Within [.regs, .x06, .vl] s) := by
  unfold execPilotSessionRequest
  refine Answers.next ?_
  split
  · exact (pilotRequest_within _ _ _).sub rfl
  · refine Within.comp ?_ (pilotRequest_within _ _ _) rfl
    refine Within.comp ?_ (Within.upd_x06 _ _) rfl
    exact Within.refl _ _
  · exact Within.refl _ _

theorem coordDecide_within (s : State) :
    Within [.regs, .x05, .vl, .out] s (coordDecide s) := by
  unfold coordDecide
  extract_lets +onlyGivenNames -merge -underBinder own0
  extract_lets +onlyGivenNames -merge -underBinder a1
  split
  · refine Within.comp ?_ (slacAnswer_within _) rfl
    exact (setVl_within _ _).sub rfl
  · refine Within.ite ?_ ?_
    · exact Within.refl _ _
    · exact (slacFail_within _ _).sub rfl

theorem execT1sLinkTimeout_answers (s : State) :
    Answers (execT1sLinkTimeout s) (Within [.regs, .x05] s) := by
  unfold execT1sLinkTimeout
  refine Answers.awake ?_
  refine Answers.next ?_
  refine Within.ite ?_ ?_
  · extract_lets +onlyGivenNames -merge -underBinder t0
    refine Within.step (t := t0) ?_ fun h1 => ?_
    · unfold t0
      refine Within.comp ?_ (State.raise_within _ _) rfl
      exact (State.lower_within _ _).sub rfl
    clear_value t0
    refine Within.ite ?_ ?_
    · refine Within.comp ?_ (toSession_within _ _) rfl
      exact h1
    · exact h1
  · exact Within.refl _ _

theorem execAttenCharRepeatTimeout_answers (s : State) :
    Answers (execAttenCharRepeatTimeout s) (Within [.regs, .x05, .vl, .out] s) := by
  unfold execAttenCharRepeatTimeout
  refine Answers.awake ?_
  refine Answers.next ?_
  refine Within.ite ?_ ?_
  · refine Within.ite ?_ ?_
    · refine Within.comp ?_ (State.emit_within _ _) rfl
      exact (setVl_within _ _).sub rfl
    · exact (slacFail_within _ _).sub rfl
  · exact Within.refl _ _

theorem execPilotDemandReceive_answers (s : State) :
    Answers (execPilotDemandReceive s) (Within [.regs, .x19, .vl] s) := by
  unfold execPilotDemandReceive
  refine Answers.awake ?_
  refine Answers.next ?_
  split
  · exact Within.refl _ _
  · refine Within.comp ?_ (pilotDemanded_within _ _) rfl
    refine Within.comp ?_ (Within.upd_x19 _ _) rfl
    exact Within.refl _ _

theorem execCoordReportReceive_answers (s : State) :
    Answers (execCoordReportReceive s) (Within [.q, .vl] s) := by
  unfold execCoordReportReceive
  refine Answers.awake ?_
  refine Answers.next ?_
  refine Within.comp ?_ (coordReport_within _ _) rfl
  exact (coordTake_within _ _).sub rfl

theorem vehicleReceive_within (base : Nat) (drop : RegField) (prio : Nat) (bytes : List Byte) (s : State) :
    Within [.regs, .q] s (vehicleReceive base drop prio bytes s) := by
  unfold vehicleReceive
  extract_lets +onlyGivenNames -merge -underBinder n0
  refine Within.ite ?_ ?_
  · refine Within.comp ?_ (State.raise_within _ _) rfl
    exact (State.bump_within _ _ _).sub rfl
  · exact (enqueue_within _ _ _).sub rfl

theorem execGpBurstTransmit_answers (n : Nat) (s : State) :
    Answers (execGpBurstTransmit n s) (Within [.regs, .tok, .q, .vl, .out] s) := by
  unfold execGpBurstTransmit
  refine Answers.awake ?_
  refine Answers.next ?_
  exact (gpBurst_within _ _).sub rfl

theorem execCmSlacParmReq_answers (runId : Nat) (mac : Nat) (security : Nat) (age : Nat) (s : State) :
    Answers (execCmSlacParmReq runId mac security age s) (Within [.regs, .vl, .out] s) := by
  unfold execCmSlacParmReq
  refine Answers.awake ?_
  refine Answers.next ?_
  exact (slacParmReq_within _ _ _ _ _).sub rfl

theorem coordEnd_within (s : State) :
    Within [.regs, .x05, .vl, .out] s (coordEnd s) := by
  unfold coordEnd
  refine Within.ite ?_ ?_
  · extract_lets +onlyGivenNames -merge -underBinder t0
    refine Within.step (t := t0) ?_ fun h1 => ?_
    · unfold t0
      exact (State.put_within _ _ _).sub rfl
    clear_value t0
    refine Within.ite ?_ ?_
    · refine Within.comp ?_ (coordDecide_within _) rfl
      exact h1
    · refine Within.comp ?_ (slacAnswer_within _) rfl
      refine Within.comp ?_ (setVl_within _ _) rfl
      refine Within.comp ?_ (State.raise_within _ _) rfl
      exact h1
  · exact Within.refl _ _

theorem coordWithdraw_within (m : List Byte) (since : Nat) (s : State) :
    Within [.regs, .x05, .vl, .out] s (coordWithdraw m since s) := by
  unfold coordWithdraw
  extract_lets +onlyGivenNames -merge -underBinder num0
  extract_lets +onlyGivenNames -merge -underBinder src1
  refine Within.ite ?_ ?_
  · extract_lets +onlyGivenNames -merge -underBinder j3 t2
    refine Within.step (t := t2) ?_ fun h4 => ?_
    · unfold t2
      exact (setVl_within _ _).sub rfl
    clear_value t2
    refine Within.ite ?_ ?_
    · exact h4
    · refine Within.ite ?_ ?_
      · refine Within.comp ?_ (coordDecide_within _) rfl
        exact h4
      · exact Within.refl _ _
  · exact Within.refl _ _

theorem coordSend_within (type : Nat) (s : State) :
    Within [.regs, .q, .grpSeq, .vl, .eth] s (coordSend type s) := by
  unfold coordSend
  extract_lets +onlyGivenNames -merge -underBinder m0
  extract_lets +onlyGivenNames -merge -underBinder t1
  refine Within.step (t := t1) ?_ fun h2 => ?_
  · unfold t1
    refine Within.trans ?_ (Within.foldl (fun v3 v4 => ?_) _)
    · exact Within.refl _ _
    · exact (groupSend_within _ _ _ _).sub rfl
  clear_value t1
  refine Within.comp ?_ (setVl_within _ _) rfl
  exact h2

theorem execCoordWithdrawReceive_answers (since : Nat) (s : State) :
    Answers (execCoordWithdrawReceive since s) (Within [.regs, .x05, .q, .vl, .out] s) := by
  unfold execCoordWithdrawReceive
  refine Answers.awake ?_
  refine Answers.next ?_
  refine Within.comp ?_ (coordWithdraw_within _ _ _) rfl
  exact (coordTake_within _ _).sub rfl

theorem execSlacInitTimeout_answers (s : State) :
    Answers (execSlacInitTimeout s) (Within [.regs, .x05, .vl] s) := by
  unfold execSlacInitTimeout
  refine Answers.awake ?_
  refine Answers.next ?_
  refine Within.ite ?_ ?_
  · exact (slacFail_within _ _).sub rfl
  · exact Within.refl _ _

theorem execCmSlacMatchReq_answers (runId : Nat) (mac : Nat) (s : State) :
    Answers (execCmSlacMatchReq runId mac s) (Within [.regs, .x05, .vl, .out, .free] s) := by
  unfold execCmSlacMatchReq
  refine Answers.awake ?_
  refine Answers.next ?_
  refine Within.ite ?_ ?_
  · exact (slacMatch_within _ _ _).sub rfl
  · exact Within.refl _ _

theorem toggleEnd_within (count : Nat) (s : State) :
    Within [.regs, .x05, .q, .grpSeq, .vl, .eth] s (toggleEnd count s) := by
  unfold toggleEnd
  refine Within.ite ?_ ?_
  · extract_lets +onlyGivenNames -merge -underBinder j1 t0
    refine Within.step (t := t0) ?_ fun h2 => ?_
    · unfold t0
      exact (setVl_within _ _).sub rfl
    clear_value t0
    refine Within.ite ?_ ?_
    · refine Within.comp ?_ (State.put_within _ _ _) rfl
      exact h2
    · refine Within.comp ?_ (slacFail_within _ _) rfl
      refine Within.ite ?_ ?_
      · exact h2
      · refine Within.comp ?_ (coordSend_within _ _) rfl
        exact h2
  · exact Within.refl _ _

theorem execGpFrameReceive_answers (prio : Nat) (bytes : List Byte) (s : State) :
    Answers (execGpFrameReceive prio bytes s) (Within [.regs, .q] s) := by
  unfold execGpFrameReceive
  refine Answers.awake ?_
  refine Answers.next ?_
  refine Within.ite ?_ ?_
  · exact (vehicleReceive_within _ _ _ _ _).sub rfl
  · exact Within.refl _ _

theorem soundingEnd_within (s : State) :
    Within [.regs, .x05, .q, .grpSeq, .vl, .eth, .out] s (soundingEnd s) := by
  unfold soundingEnd
  extract_lets +onlyGivenNames -merge -underBinder n0
  extract_lets +onlyGivenNames -merge -underBinder mean1
  extract_lets +onlyGivenNames -merge -underBinder t2
  refine Within.step (t := t2) ?_ fun h3 => ?_
  · unfold t2
    exact (State.put_within _ _ _).sub rfl
  clear_value t2
  extract_lets +onlyGivenNames -merge -underBinder t4
  refine Within.step (t := t4) ?_ fun h5 => ?_
  · unfold t4
    refine Within.ite ?_ ?_
    · exact h3
    · refine Within.comp ?_ (State.put_within _ _ _) rfl
      exact h3
  clear_value t4
  extract_lets +onlyGivenNames -merge -underBinder t6
  refine Within.step (t := t6) ?_ fun h7 => ?_
  · unfold t6
    refine Within.comp ?_ (State.put_within _ _ _) rfl
    exact h5
  clear_value t6
  refine Within.ite ?_ ?_
  · refine Within.comp ?_ (slacFail_within _ _) rfl
    exact h7
  · refine Within.ite ?_ ?_
    · refine Within.comp ?_ (slacFail_within _ _) rfl
      exact h7
    · refine Within.ite ?_ ?_
      · extract_lets +onlyGivenNames -merge -underBinder u8
        refine Within.step (t := u8) ?_ fun h9 => ?_
        · unfold u8
          refine Within.comp ?_ (State.raise_within _ _) rfl
          refine Within.comp ?_ (State.put_within _ _ _) rfl
          exact h7
        clear_value u8
        refine Within.comp ?_ (coordSend_within _ _) rfl
        refine Within.comp ?_ (setVl_within _ _) rfl
        exact h9
      · refine Within.comp ?_ (slacAnswer_within _) rfl
        exact h7

theorem execCoordWindowEnd_answers (s : State) :
    Answers (execCoordWindowEnd s) (Within [.regs, .x05, .vl, .out] s) := by
  unfold execCoordWindowEnd
  refine Answers.awake ?_
  refine Answers.next ?_
  exact (coordEnd_within _).sub rfl

theorem slacAbort_within (reason : Nat) (s : State) :
    Within [.regs, .x05, .q, .grpSeq, .vl, .eth] s (slacAbort reason s) := by
  unfold slacAbort
  refine Within.ite ?_ ?_
  · refine Within.comp ?_ (slacFail_within _ _) rfl
    refine Within.ite ?_ ?_
    · exact (coordSend_within _ _).sub rfl
    · exact Within.refl _ _
  · exact Within.refl _ _

theorem t1sTake_within (s : State) :
    Within [.regs, .x05, .q, .grpSeq, .vl, .eth] s (t1sTake s) := by
  unfold t1sTake
  extract_lets +onlyGivenNames -merge -underBinder b0
  refine Within.ite ?_ ?_
  · refine Within.ite ?_ ?_
    · exact (linkUse_within _ _).sub rfl
    · refine Within.ite ?_ ?_
      · refine Within.comp ?_ (linkUse_within _ _) rfl
        exact (slacAbort_within _ _).sub rfl
      · exact Within.refl _ _
  · exact Within.refl _ _

theorem execCmMnbcSoundInd_answers (runId : Nat) (groups : List Nat) (s : State) :
    Answers (execCmMnbcSoundInd runId groups s) (Within [.regs, .x05, .q, .grpSeq, .vl, .eth, .out] s) := by
  unfold execCmMnbcSoundInd
  refine Answers.awake ?_
  refine Answers.next ?_
  refine Within.ite ?_ ?_
  · extract_lets +onlyGivenNames -merge -underBinder j1 t0
    refine Within.step (t := t0) ?_ fun h2 => ?_
    · unfold t0
      exact (setVl_within _ _).sub rfl
    clear_value t0
    refine Within.ite ?_ ?_
    · refine Within.comp ?_ (soundingEnd_within _) rfl
      exact h2
    · exact h2
  · exact Within.refl _ _

theorem execToggleWindowEnd_answers (count : Nat) (s : State) :
    Answers (execToggleWindowEnd count s) (Within [.regs, .x05, .q, .grpSeq, .vl, .eth] s) := by
  unfold execToggleWindowEnd
  refine Answers.awake ?_
  refine Answers.next ?_
  exact (toggleEnd_within _ _).sub rfl

theorem execT1sFrameReceive_answers (prio : Nat) (bytes : List Byte) (s : State) :
    Answers (execT1sFrameReceive prio bytes s) (Within [.regs, .x05, .q, .grpSeq, .vl, .eth] s) := by
  unfold execT1sFrameReceive
  refine Answers.awake ?_
  refine Answers.next ?_
  refine Within.ite ?_ ?_
  · exact Within.refl _ _
  · extract_lets +onlyGivenNames -merge -underBinder t0
    refine Within.step (t := t0) ?_ fun h1 => ?_
    · unfold t0
      exact (vehicleReceive_within _ _ _ _ _).sub rfl
    clear_value t0
    refine Within.comp ?_ (t1sTake_within _) rfl
    refine Within.ite ?_ ?_
    · exact h1
    · refine Within.comp ?_ (State.raise_within _ _) rfl
      refine Within.comp ?_ (State.raise_within _ _) rfl
      exact h1

theorem execSoundingEnd_answers (s : State) :
    Answers (execSoundingEnd s) (Within [.regs, .x05, .q, .grpSeq, .vl, .eth, .out] s) := by
  unfold execSoundingEnd
  refine Answers.awake ?_
  refine Answers.next ?_
  refine Within.ite ?_ ?_
  · exact (soundingEnd_within _).sub rfl
  · exact Within.refl _ _

theorem slacEntry_within (s : State) :
    Within [.regs, .x05, .q, .grpSeq, .vl, .eth] s (slacEntry s) := by
  unfold slacEntry
  extract_lets +onlyGivenNames -merge -underBinder t0
  refine Within.step (t := t0) ?_ fun h1 => ?_
  · unfold t0
    refine Within.ite ?_ ?_
    · exact (State.put_within _ _ _).sub rfl
    · exact Within.refl _ _
  clear_value t0
  refine Within.comp ?_ (t1sTake_within _) rfl
  exact h1

theorem pilotRecognised_within (st : Nat) (s : State) :
    Within [.regs, .tok, .saf, .x05, .q, .grpSeq, .vl, .eth] s (pilotRecognised st s) := by
  unfold pilotRecognised
  extract_lets +onlyGivenNames -merge -underBinder was0
  extract_lets +onlyGivenNames -merge -underBinder t1
  refine Within.step (t := t1) ?_ fun h2 => ?_
  · unfold t1
    refine Within.comp ?_ (State.raise_within _ _) rfl
    exact (State.put_within _ _ _).sub rfl
  clear_value t1
  extract_lets +onlyGivenNames -merge -underBinder t3
  refine Within.step (t := t3) ?_ fun h4 => ?_
  · unfold t3
    refine Within.ite ?_ ?_
    · refine Within.comp ?_ (State.bump_within _ _ _) rfl
      refine Within.comp ?_ (State.raise_within _ _) rfl
      exact h2
    · refine Within.trans ?_ (Within.when (fun v5 => ?_) _)
      · exact h2
      · exact (State.raise_within _ _).sub rfl
  clear_value t3
  extract_lets +onlyGivenNames -merge -underBinder t6
  refine Within.step (t := t6) ?_ fun h7 => ?_
  · unfold t6
    refine Within.ite ?_ ?_
    · exact h4
    · refine Within.comp ?_ (State.setRegN_within _ _ _) rfl
      exact h4
  clear_value t6
  extract_lets +onlyGivenNames -merge -underBinder j9 t8
  refine Within.step (t := t8) ?_ fun h10 => ?_
  · unfold t8
    refine Within.comp ?_ (toSession_within _ _) rfl
    refine Within.comp ?_ (Within.upd_saf _ _) rfl
    exact h7
  clear_value t8
  extract_lets +onlyGivenNames -merge -underBinder j12 t11
  refine Within.step (t := t11) ?_ fun h13 => ?_
  · unfold t11
    refine Within.ite ?_ ?_
    · refine Within.comp ?_ (setVl_within _ _) rfl
      exact h10
    · exact h10
  clear_value t11
  extract_lets +onlyGivenNames -merge -underBinder j15 j16 t14
  refine Within.step (t := t14) ?_ fun h17 => ?_
  · unfold t14
    refine Within.ite ?_ ?_
    · refine Within.ite ?_ ?_
      · refine Within.comp ?_ (rcmTestAsk_within _) rfl
        unfold j16
        refine Within.comp ?_ (State.setRegN_within _ _ _) rfl
        refine Within.comp ?_ (State.bump_within _ _ _) rfl
        exact h13
      · unfold j16
        refine Within.comp ?_ (State.setRegN_within _ _ _) rfl
        refine Within.comp ?_ (State.bump_within _ _ _) rfl
        exact h13
    · exact h13
  clear_value t14
  extract_lets +onlyGivenNames -merge -underBinder t18
  refine Within.step (t := t18) ?_ fun h19 => ?_
  · unfold t18
    refine Within.ite ?_ ?_
    · exact h17
    · refine Within.comp ?_ (slacAbort_within _ _) rfl
      exact h17
  clear_value t18
  refine Within.ite ?_ ?_
  · refine Within.comp ?_ (slacEntry_within _) rfl
    exact h19
  · refine Within.ite ?_ ?_
    · refine Within.comp ?_ (slacIdle_within _) rfl
      exact h19
    · exact h19

theorem pilotMeasure_within (high : Int) (low : Int) (age : Nat) (s : State) :
    Within [.regs, .tok, .saf, .x05, .q, .grpSeq, .vl, .eth] s (pilotMeasure high low age s) := by
  unfold pilotMeasure
  extract_lets +onlyGivenNames -merge -underBinder l0
  extract_lets +onlyGivenNames -merge -underBinder diode1
  extract_lets +onlyGivenNames -merge -underBinder st2
  extract_lets +onlyGivenNames -merge -underBinder j4 t3
  refine Within.step (t := t3) ?_ fun h5 => ?_
  · unfold t3
    refine Within.comp ?_ (setVl_within _ _) rfl
    refine Within.comp ?_ (State.put_within _ _ _) rfl
    exact (State.put_within _ _ _).sub rfl
  clear_value t3
  extract_lets +onlyGivenNames -merge -underBinder held6
  extract_lets +onlyGivenNames -merge -underBinder t7
  refine Within.step (t := t7) ?_ fun h8 => ?_
  · unfold t7
    refine Within.ite ?_ ?_
    · refine Within.comp ?_ (State.setRegN_within _ _ _) rfl
      exact h5
    · exact h5
  clear_value t7
  refine Within.ite ?_ ?_
  · refine Within.comp ?_ (Within.upd_saf _ _) rfl
    exact h8
  · refine Within.comp ?_ (pilotRecognised_within _ _) rfl
    exact h8

theorem execPilotStateChange_answers (high : Int) (low : Int) (age : Nat) (s : State) :
    Answers (execPilotStateChange high low age s) (Within [.regs, .tok, .saf, .x05, .q, .grpSeq, .vl, .eth] s) := by
  unfold execPilotStateChange
  refine Answers.awake ?_
  refine Answers.next ?_
  exact (pilotMeasure_within _ _ _ _).sub rfl

theorem setSes_within (x : SesState) (s : State) :
    Within [.ses] s (setSes x s) := by
  unfold setSes
  refine Within.comp ?_ (Within.upd_ses _ _) rfl
  exact Within.refl _ _

theorem sesCloseTry_within (s : State) :
    Within [.regs, .tok, .x04, .ses] s (sesCloseTry s) := by
  unfold sesCloseTry
  refine Within.ite ?_ ?_
  · exact Within.refl _ _
  · extract_lets +onlyGivenNames -merge -underBinder send0
    have h1 : ∀ v2, Within [.regs, .tok, .x04, .ses] v2 (send0 v2) := by
      intro v2
      unfold send0
      refine Within.comp ?_ (setSes_within _ _) rfl
      refine Within.comp ?_ (Within.upd_x04 _ _) rfl
      exact Within.refl _ _
    clear_value send0
    refine Within.ite ?_ ?_
    · refine Within.trans ?_ (h1 _)
      exact Within.refl _ _
    · refine Within.ite ?_ ?_
      · exact Within.refl _ _
      · split
        · rename_i y3 e4
          refine Within.step (t := y3) (Within.ofEq2 e4 ?_) fun h5 => ?_
          · exact (tokRequest_within _ _ _ _).sub rfl
          refine Within.trans ?_ (h1 _)
          exact h5
        · rename_i y6 y7 e8
          refine Within.step (t := y6) (Within.ofEq2 e8 ?_) fun h9 => ?_
          · exact (tokRequest_within _ _ _ _).sub rfl
          exact h9

theorem tokGive_within (kind : Nat) (id : Nat) (s : State) :
    Within [.regs, .tok] s (tokGive kind id s) := by
  unfold tokGive
  extract_lets +onlyGivenNames -merge -underBinder t0
  refine Within.step (t := t0) ?_ fun h1 => ?_
  · unfold t0
    exact (tokRelease_within _ _ _).sub rfl
  clear_value t0
  refine Within.ite ?_ ?_
  · refine Within.comp ?_ (tokServe_within _) rfl
    refine Within.comp ?_ (tokDrop_within _ _ _) rfl
    exact h1
  · exact h1

theorem dutySend_within (d : Nat) (s : State) :
    Within [.x06, .ses] s (dutySend d s) := by
  unfold dutySend
  refine Within.ite ?_ ?_
  · exact Within.refl _ _
  · refine Within.comp ?_ (setSes_within _ _) rfl
    refine Within.comp ?_ (Within.upd_x06 _ _) rfl
    exact Within.refl _ _

theorem sesEnter_within (n : Nat) (s : State) :
    Within [.regs] s (sesEnter n s) := by
  unfold sesEnter
  exact (State.put_within _ _ _).sub rfl

theorem tok1Show_within (s : State) :
    Within [.regs] s (tok1Show s) := by
  unfold tok1Show
  exact (State.putB_within _ _ _).sub rfl

theorem siteNone_within (s : State) :
    Within [.regs] s (siteNone s) := by
  unfold siteNone
  refine Within.comp ?_ (State.setRegN_within _ _ _) rfl
  refine Within.comp ?_ (State.setRegN_within _ _ _) rfl
  exact (State.lower_within _ _).sub rfl

theorem sesDiscard_within (s : State) :
    Within [.regs, .q] s (sesDiscard s) := by
  unfold sesDiscard
  extract_lets +onlyGivenNames -merge -underBinder n0
  extract_lets +onlyGivenNames -merge -underBinder t1
  refine Within.step (t := t1) ?_ fun h2 => ?_
  · unfold t1
    refine Within.comp ?_ (setQueue_within _ _ _) rfl
    refine Within.comp ?_ (setQueue_within _ _ _) rfl
    refine Within.comp ?_ (setQueue_within _ _ _) rfl
    exact (setQueue_within _ _ _).sub rfl
  clear_value t1
  refine Within.comp ?_ (State.bump_within _ _ _) rfl
  exact h2

theorem sesClose_within (s : State) :
    Within [.regs, .tok, .x04, .ses] s (sesClose s) := by
  unfold sesClose
  refine Within.comp ?_ (sesCloseTry_within _) rfl
  exact (setSes_within _ _).sub rfl

theorem convMode_within (mode : Nat) (n : Nat) (s : State) :
    Within [.ses, .out] s (convMode mode n s) := by
  unfold convMode
  extract_lets +onlyGivenNames -merge -underBinder c0
  extract_lets +onlyGivenNames -merge -underBinder alive1
  extract_lets +onlyGivenNames -merge -underBinder port2
  extract_lets +onlyGivenNames -merge -underBinder j4 t3
  refine Within.step (t := t3) ?_ fun h5 => ?_
  · unfold t3
    exact (setSes_within _ _).sub rfl
  clear_value t3
  refine Within.comp ?_ (State.emit_within _ _) rfl
  exact h5

theorem execHeldCardExpiry_answers (s : State) :
    Answers (execHeldCardExpiry s) (Within [.ses] s) := by
  unfold execHeldCardExpiry
  refine Answers.next ?_
  exact (setSes_within _ _).sub rfl

theorem execSiteLeaseExpiry_answers (s : State) :
    Answers (execSiteLeaseExpiry s) (Within [.regs] s) := by
  unfold execSiteLeaseExpiry
  refine Answers.next ?_
  refine Within.ite ?_ ?_
  · refine Within.comp ?_ (State.raise_within _ _) rfl
    exact (siteNone_within _).sub rfl
  · exact Within.refl _ _

theorem grantTake_within (m : AmbMsg) (s : State) :
    Within [.regs, .ses] s (grantTake m s) := by
  unfold grantTake
  extract_lets +onlyGivenNames -merge -underBinder st0
  refine Within.ite ?_ ?_
  · extract_lets +onlyGivenNames -merge -underBinder j2 t1
    refine Within.step (t := t1) ?_ fun h3 => ?_
    · unfold t1
      exact (setSes_within _ _).sub rfl
    clear_value t1
    refine Within.comp ?_ (State.setRegN_within _ _ _) rfl
    refine Within.comp ?_ (State.setRegI_within _ _ _) rfl
    refine Within.comp ?_ (State.raise_within _ _) rfl
    exact h3
  · exact Within.refl _ _

theorem authAsk_within (src : Nat) (id : List Byte) (s : State) :
    Within [.regs, .q, .ses] s (authAsk src id s) := by
  unfold authAsk
  extract_lets +onlyGivenNames -merge -underBinder tag0
  extract_lets +onlyGivenNames -merge -underBinder j2 t1
  refine Within.step (t := t1) ?_ fun h3 => ?_
  · unfold t1
    exact (setSes_within _ _).sub rfl
  clear_value t1
  extract_lets +onlyGivenNames -merge -underBinder t4
  refine Within.step (t := t4) ?_ fun h5 => ?_
  · unfold t4
    refine Within.comp ?_ (State.put_within _ _ _) rfl
    refine Within.comp ?_ (State.put_within _ _ _) rfl
    refine Within.comp ?_ (State.raise_within _ _) rfl
    exact h3
  clear_value t4
  refine Within.comp ?_ (notify_within _ _ _) rfl
  refine Within.comp ?_ (State.raise_within _ _) rfl
  exact h5

theorem sesStopBegin_within (reason : Nat) (s : State) :
    Within [.regs, .tok, .x04, .x06, .ses] s (sesStopBegin reason s) := by
  unfold sesStopBegin
  extract_lets +onlyGivenNames -merge -underBinder t0
  refine Within.step (t := t0) ?_ fun h1 => ?_
  · unfold t0
    refine Within.comp ?_ (tokGive_within _ _ _) rfl
    refine Within.comp ?_ (Within.upd_x04 _ _) rfl
    exact Within.refl _ _
  clear_value t0
  extract_lets +onlyGivenNames -merge -underBinder j3 t2
  refine Within.step (t := t2) ?_ fun h4 => ?_
  · unfold t2
    refine Within.comp ?_ (setSes_within _ _) rfl
    refine Within.comp ?_ (sesEnter_within _ _) rfl
    exact h1
  clear_value t2
  refine Within.comp ?_ (dutySend_within _ _) rfl
  refine Within.comp ?_ (State.lower_within _ _) rfl
  exact h4

theorem convModes_within (mode : Nat) (s : State) :
    Within [.ses, .out] s (convModes mode s) := by
  unfold convModes
  refine Within.trans ?_ (Within.upTo (fun v0 v1 => ?_) _)
  · exact Within.refl _ _
  · refine Within.ite ?_ ?_
    · exact (convMode_within _ _ _).sub rfl
    · exact Within.refl _ _

theorem isetShow_within (s : State) :
    Within [.regs] s (isetShow s) := by
  unfold isetShow
  extract_lets +onlyGivenNames -merge -underBinder n0
  extract_lets +onlyGivenNames -merge -underBinder back1
  refine Within.comp ?_ (State.putB_within _ _ _) rfl
  exact (State.setRegI_within _ _ _).sub rfl

theorem execSiteGrantArrival_answers (s : State) :
    Answers (execSiteGrantArrival s) (Within [.regs, .q, .ses, .x11] s) := by
  unfold execSiteGrantArrival
  refine Answers.next ?_
  split
  · rename_i y0 e1
    refine Within.step (t := y0) (Within.ofEq2 e1 ?_) fun h2 => ?_
    · exact (siteMessage_within _ _).sub rfl
    refine Within.comp ?_ (grantTake_within _ _) rfl
    exact h2
  · rename_i y3 e4
    refine Within.step (t := y3) (Within.ofEq2 e4 ?_) fun h5 => ?_
    · exact (siteMessage_within _ _).sub rfl
    exact Within.refl _ _

theorem remoteStart_within (s : State) :
    Within [.regs, .q, .ses] s (remoteStart s) := by
  unfold remoteStart
  split
  · refine Within.ite ?_ ?_
    · exact (authAsk_within _ _ _).sub rfl
    · exact Within.refl _ _
  · exact Within.refl _ _

theorem siteRelease_within (s : State) :
    Within [.regs, .q, .grpSeq, .amb, .eth, .x11] s (siteRelease s) := by
  unfold siteRelease
  refine Within.ite ?_ ?_
  · refine Within.comp ?_ (siteSend_within _ _) rfl
    exact (siteNone_within _).sub rfl
  · exact Within.refl _ _

theorem sesFinish_within (s : State) :
    Within [.regs, .tok, .bil, .btm, .q, .grpSeq, .ses, .amb, .eth, .x11, .out] s (sesFinish s) := by
  unfold sesFinish
  extract_lets +onlyGivenNames -merge -underBinder t0
  refine Within.step (t := t0) ?_ fun h1 => ?_
  · unfold t0
    refine Within.trans ?_ (Within.when (fun v2 => ?_) _)
    · exact Within.refl _ _
    · refine Within.comp ?_ (convModes_within _ _) rfl
      exact (convModes_within _ _).sub rfl
  clear_value t0
  extract_lets +onlyGivenNames -merge -underBinder t3
  refine Within.step (t := t3) ?_ fun h4 => ?_
  · unfold t3
    refine Within.comp ?_ (siteRelease_within _) rfl
    refine Within.comp ?_ (tok1Show_within _) rfl
    refine Within.comp ?_ (tokGive_within _ _ _) rfl
    refine Within.comp ?_ (tokGive_within _ _ _) rfl
    exact h1
  clear_value t3
  extract_lets +onlyGivenNames -merge -underBinder id5
  extract_lets +onlyGivenNames -merge -underBinder src6
  extract_lets +onlyGivenNames -merge -underBinder t7
  refine Within.step (t := t7) ?_ fun h8 => ?_
  · unfold t7
    refine Within.comp ?_ (billSessionEnd_within _ _ _ _ _ _) rfl
    exact h4
  clear_value t7
  extract_lets +onlyGivenNames -merge -underBinder t9
  refine Within.step (t := t9) ?_ fun h10 => ?_
  · unfold t9
    refine Within.comp ?_ (State.put_within _ _ _) rfl
    refine Within.comp ?_ (State.put_within _ _ _) rfl
    exact h8
  clear_value t9
  extract_lets +onlyGivenNames -merge -underBinder t11
  refine Within.step (t := t11) ?_ fun h12 => ?_
  · unfold t11
    refine Within.comp ?_ (sesDiscard_within _) rfl
    refine Within.comp ?_ (State.raise_within _ _) rfl
    refine Within.comp ?_ (State.lower_within _ _) rfl
    exact h10
  clear_value t11
  extract_lets +onlyGivenNames -merge -underBinder j14 t13
  refine Within.step (t := t13) ?_ fun h15 => ?_
  · unfold t13
    refine Within.comp ?_ (isetShow_within _) rfl
    refine Within.comp ?_ (setSes_within _ _) rfl
    exact h12
  clear_value t13
  extract_lets +onlyGivenNames -merge -underBinder t16
  refine Within.step (t := t16) ?_ fun h17 => ?_
  · unfold t16
    refine Within.trans ?_ (Within.when (fun v18 => ?_) _)
    · exact h15
    · exact (relayOpen_within _).sub rfl
  clear_value t16
  refine Within.comp ?_ (sesEnter_within _ _) rfl
  exact h17

theorem execHostRemoteStart_answers (p : Path) (s : State) :
    Answers (execHostRemoteStart p s) (Within [.regs, .q, .ses, .out] s) := by
  unfold execHostRemoteStart
  refine Answers.next ?_
  refine Within.trans ?_ (hostOwn_within (fun a0 => ?_) rfl)
  · exact Within.refl _ _
  · exact (remoteStart_within _).sub rfl

theorem siteReq_within (new : Bool) (s : State) :
    Within [.regs, .q, .grpSeq, .amb, .eth, .x11] s (siteReq new s) := by
  unfold siteReq
  extract_lets +onlyGivenNames -merge -underBinder p0
  extract_lets +onlyGivenNames -merge -underBinder signed1
  extract_lets +onlyGivenNames -merge -underBinder cls2
  extract_lets +onlyGivenNames -merge -underBinder flags3
  exact (siteSend_within _ _).sub rfl

theorem execPauseTokenRelease_answers (s : State) :
    Answers (execPauseTokenRelease s) (Within [.regs, .q, .grpSeq, .amb, .eth, .x11] s) := by
  unfold execPauseTokenRelease
  refine Answers.next ?_
  refine Within.ite ?_ ?_
  · exact (siteRelease_within _).sub rfl
  · exact Within.refl _ _

theorem sesEndCheck_within (s : State) :
    Within [.regs, .tok, .bil, .btm, .q, .grpSeq, .ses, .amb, .eth, .x11, .out] s (sesEndCheck s) := by
  unfold sesEndCheck
  refine Within.ite ?_ ?_
  · exact (sesFinish_within _).sub rfl
  · exact Within.refl _ _

theorem sesTripped_within (reason : Nat) (s : State) :
    Within [.regs, .tok, .bil, .btm, .x04, .x06, .q, .grpSeq, .ses, .amb, .eth, .x11, .out] s (sesTripped reason s) := by
  unfold sesTripped
  refine Within.ite ?_ ?_
  · extract_lets +onlyGivenNames -merge -underBinder t0
    refine Within.step (t := t0) ?_ fun h1 => ?_
    · unfold t0
      exact (sesStopBegin_within _ _).sub rfl
    clear_value t0
    extract_lets +onlyGivenNames -merge -underBinder j3 t2
    refine Within.step (t := t2) ?_ fun h4 => ?_
    · unfold t2
      refine Within.comp ?_ (isetShow_within _) rfl
      refine Within.comp ?_ (setSes_within _ _) rfl
      exact h1
    clear_value t2
    refine Within.comp ?_ (sesEndCheck_within _) rfl
    refine Within.trans ?_ (Within.when (fun v5 => ?_) _)
    · refine Within.comp ?_ (tok1Show_within _) rfl
      refine Within.comp ?_ (tokGive_within _ _ _) rfl
      exact h4
    · exact (convModes_within _ _).sub rfl
  · exact Within.refl _ _

theorem execSiteLeaseRenew_answers (s : State) :
    Answers (execSiteLeaseRenew s) (Within [.regs, .q, .grpSeq, .amb, .eth, .x11] s) := by
  unfold execSiteLeaseRenew
  refine Answers.next ?_
  refine Within.ite ?_ ?_
  · exact (siteReq_within _ _).sub rfl
  · exact Within.refl _ _

theorem sesOpenSend_within (s : State) :
    Within [.regs, .tok, .bil, .btm, .x04, .q, .grpSeq, .ses, .amb, .eth, .x11, .out] s (sesOpenSend s) := by
  unfold sesOpenSend
  refine Within.ite ?_ ?_
  · exact Within.refl _ _
  · refine Within.comp ?_ (sesEndCheck_within _) rfl
    refine Within.comp ?_ (setSes_within _ _) rfl
    refine Within.comp ?_ (Within.upd_x04 _ _) rfl
    exact Within.refl _ _

theorem siteAsk_within (s : State) :
    Within [.regs, .q, .grpSeq, .amb, .eth, .x11] s (siteAsk s) := by
  unfold siteAsk
  refine Within.ite ?_ ?_
  · refine Within.comp ?_ (siteReq_within _ _) rfl
    exact (siteNone_within _).sub rfl
  · exact Within.refl _ _

theorem sesStop_within (reason : Nat) (s : State) :
    Within [.regs, .tok, .bil, .btm, .x04, .x06, .q, .grpSeq, .ses, .amb, .eth, .x11, .out] s (sesStop reason s) := by
  unfold sesStop
  refine Within.ite ?_ ?_
  · extract_lets +onlyGivenNames -merge -underBinder t0
    refine Within.step (t := t0) ?_ fun h1 => ?_
    · unfold t0
      exact (sesStopBegin_within _ _).sub rfl
    clear_value t0
    refine Within.ite ?_ ?_
    · refine Within.comp ?_ (sesOpenSend_within _) rfl
      exact h1
    · exact h1
  · exact Within.refl _ _

theorem sesCtl_within (w : Word) (s : State) :
    Within [.regs, .tok, .bil, .btm, .x04, .x06, .q, .grpSeq, .ses, .amb, .eth, .x11, .out] s (sesCtl w s) := by
  unfold sesCtl
  refine Within.trans ?_ (Within.when (fun v0 => ?_) _)
  · refine Within.trans ?_ (Within.when (fun v1 => ?_) _)
    · exact Within.refl _ _
    · exact (sesStop_within _ _).sub rfl
  · exact (remoteStart_within _).sub rfl

theorem execHostSessionStop_answers (p : Path) (s : State) :
    Answers (execHostSessionStop p s) (Within [.regs, .tok, .bil, .btm, .x04, .x06, .q, .grpSeq, .ses, .amb, .eth, .x11, .out] s) := by
  unfold execHostSessionStop
  refine Answers.next ?_
  refine Within.trans ?_ (hostOwn_within (fun a0 => ?_) rfl)
  · exact Within.refl _ _
  · exact (sesStop_within _ _).sub rfl

theorem execStopTimeout_answers (s : State) :
    Answers (execStopTimeout s) (Within [.regs, .tok, .bil, .btm, .x04, .q, .grpSeq, .ses, .amb, .eth, .x11, .out] s) := by
  unfold execStopTimeout
  refine Answers.next ?_
  refine Within.ite ?_ ?_
  · exact (sesOpenSend_within _).sub rfl
  · exact Within.refl _ _

theorem sesBasicClose_within (s : State) :
    Within [.regs, .tok, .x04, .q, .grpSeq, .ses, .amb, .eth, .x11] s (sesBasicClose s) := by
  unfold sesBasicClose
  refine Within.ite ?_ ?_
  · refine Within.comp ?_ (sesClose_within _) rfl
    refine Within.ite ?_ ?_
    · exact (siteAsk_within _).sub rfl
    · exact Within.refl _ _
  · exact Within.refl _ _

theorem sesProx_within (c : Nat) (s : State) :
    Within [.regs, .tok, .bil, .btm, .x04, .x06, .q, .grpSeq, .ses, .amb, .eth, .x11, .out] s (sesProx c s) := by
  unfold sesProx
  refine Within.ite ?_ ?_
  · exact (sesStop_within _ _).sub rfl
  · refine Within.ite ?_ ?_
    · exact (sesStop_within _ _).sub rfl
    · exact Within.refl _ _

theorem authTimeout_within (s : State) :
    Within [.regs, .tok, .bil, .btm, .x04, .x06, .q, .grpSeq, .ses, .amb, .eth, .x11, .out] s (authTimeout s) := by
  unfold authTimeout
  refine Within.ite ?_ ?_
  · refine Within.comp ?_ (sesStop_within _ _) rfl
    exact (State.lower_within _ _).sub rfl
  · refine Within.ite ?_ ?_
    · exact (State.lower_within _ _).sub rfl
    · exact Within.refl _ _

theorem sesDisconnect_within (s : State) :
    Within [.regs, .tok, .bil, .btm, .x04, .x06, .q, .grpSeq, .ses, .amb, .eth, .x11, .out] s (sesDisconnect s) := by
  unfold sesDisconnect
  refine Within.ite ?_ ?_
  · exact (sesStop_within _ _).sub rfl
  · exact Within.refl _ _

theorem authGo_within (src : Nat) (id : List Byte) (card : List Byte) (s : State) :
    Within [.regs, .tok, .x04, .q, .grpSeq, .ses, .amb, .eth, .x11] s (authGo src id card s) := by
  unfold authGo
  extract_lets +onlyGivenNames -merge -underBinder t0
  refine Within.step (t := t0) ?_ fun h1 => ?_
  · unfold t0
    refine Within.comp ?_ (State.lower_within _ _) rfl
    refine Within.comp ?_ (State.put_within _ _ _) rfl
    exact (State.raise_within _ _).sub rfl
  clear_value t0
  extract_lets +onlyGivenNames -merge -underBinder j3 t2
  refine Within.step (t := t2) ?_ fun h4 => ?_
  · unfold t2
    refine Within.comp ?_ (setSes_within _ _) rfl
    refine Within.comp ?_ (sesEnter_within _ _) rfl
    exact h1
  clear_value t2
  refine Within.comp ?_ (sesBasicClose_within _) rfl
  refine Within.ite ?_ ?_
  · exact h4
  · refine Within.comp ?_ (siteAsk_within _) rfl
    exact h4

theorem execAuthWaitTimeout_answers (s : State) :
    Answers (execAuthWaitTimeout s) (Within [.regs, .tok, .bil, .btm, .x04, .x06, .q, .grpSeq, .ses, .amb, .eth, .x11, .out] s) := by
  unfold execAuthWaitTimeout
  refine Answers.next ?_
  exact (authTimeout_within _).sub rfl

theorem authResume_within (s : State) :
    Within [.regs, .tok, .x04, .q, .grpSeq, .ses, .amb, .eth, .x11] s (authResume s) := by
  unfold authResume
  split
  · refine Within.ite ?_ ?_
    · exact (authGo_within _ _ _ _).sub rfl
    · exact Within.refl _ _
  · exact Within.refl _ _

theorem authTry_within (src : Nat) (id : List Byte) (card : List Byte) (s : State) :
    Within [.regs, .tok, .bil, .btm, .logs, .saf, .x04, .x06, .q, .grpSeq, .ses, .amb, .eth, .x11, .out] s (authTry src id card s) := by
  unfold authTry
  extract_lets +onlyGivenNames -merge -underBinder better0
  refine Within.ite ?_ ?_
  · exact Within.refl _ _
  · refine Within.ite ?_ ?_
    · refine Within.comp ?_ (setSes_within _ _) rfl
      exact (State.put_within _ _ _).sub rfl
    · refine Within.ite ?_ ?_
      · exact Within.refl _ _
      · refine Within.ite ?_ ?_
        · exact (sesStop_within _ _).sub rfl
        · refine Within.ite ?_ ?_
          · exact Within.refl _ _
          · refine Within.ite ?_ ?_
            · refine Within.comp ?_ (authResume_within _) rfl
              refine Within.comp ?_ (discLocal_within _ _) rfl
              refine Within.comp ?_ (setSes_within _ _) rfl
              exact (State.lower_within _ _).sub rfl
            · exact (authGo_within _ _ _ _).sub rfl

theorem execPncChainCheckDone_answers (pass : Bool) (s : State) :
    Answers (execPncChainCheckDone pass s) (Within [.regs, .tok, .bil, .btm, .logs, .saf, .x04, .x06, .q, .grpSeq, .ses, .amb, .eth, .x11, .out] s) := by
  unfold execPncChainCheckDone
  refine Answers.next ?_
  split
  · exact Within.refl _ _
  · extract_lets +onlyGivenNames -merge -underBinder j1 t0
    refine Within.step (t := t0) ?_ fun h2 => ?_
    · unfold t0
      exact (setSes_within _ _).sub rfl
    clear_value t0
    refine Within.ite ?_ ?_
    · extract_lets +onlyGivenNames -merge -underBinder u3
      refine Within.step (t := u3) ?_ fun h4 => ?_
      · unfold u3
        refine Within.comp ?_ (authTry_within _ _ _ _) rfl
        exact h2
      clear_value u3
      refine Within.ite ?_ ?_
      · refine Within.comp ?_ (State.raise_within _ _) rfl
        exact h4
      · exact h4
    · exact h2

theorem authAnswer_within (accept : Bool) (reject : Bool) (revoke : Bool) (tag : Nat) (s : State) :
    Within [.regs, .tok, .bil, .btm, .logs, .saf, .x04, .x06, .q, .grpSeq, .ses, .amb, .eth, .x11, .out] s (authAnswer accept reject revoke tag s) := by
  unfold authAnswer
  extract_lets +onlyGivenNames -merge -underBinder t0
  refine Within.step (t := t0) ?_ fun h1 => ?_
  · unfold t0
    refine Within.ite ?_ ?_
    · exact (sesStop_within _ _).sub rfl
    · exact Within.refl _ _
  clear_value t0
  refine Within.ite ?_ ?_
  · exact h1
  · refine Within.ite ?_ ?_
    · refine Within.comp ?_ (State.raise_within _ _) rfl
      exact h1
    · extract_lets +onlyGivenNames -merge -underBinder src2
      extract_lets +onlyGivenNames -merge -underBinder u3
      refine Within.step (t := u3) ?_ fun h4 => ?_
      · unfold u3
        refine Within.comp ?_ (State.lower_within _ _) rfl
        exact h1
      clear_value u3
      refine Within.ite ?_ ?_
      · refine Within.comp ?_ (sesStop_within _ _) rfl
        exact h4
      · refine Within.ite ?_ ?_
        · exact h4
        · refine Within.comp ?_ (authTry_within _ _ _ _) rfl
          exact h4

theorem execHostAuthRevoke_answers (p : Path) (s : State) :
    Answers (execHostAuthRevoke p s) (Within [.regs, .tok, .bil, .btm, .logs, .saf, .x04, .x06, .q, .grpSeq, .ses, .amb, .eth, .x11, .out] s) := by
  unfold execHostAuthRevoke
  refine Answers.next ?_
  refine Within.trans ?_ (hostOwn_within (fun a0 => ?_) rfl)
  · exact Within.refl _ _
  · exact (authAnswer_within _ _ _ _ _).sub rfl

theorem cardOffer_within (uid : List Byte) (listed : Bool) (s : State) :
    Within [.regs, .tok, .bil, .btm, .logs, .saf, .x04, .x06, .q, .grpSeq, .ses, .amb, .eth, .x11, .out] s (cardOffer uid listed s) := by
  unfold cardOffer
  refine Within.ite ?_ ?_
  · exact (authTry_within _ _ _ _).sub rfl
  · refine Within.ite ?_ ?_
    · exact (authAsk_within _ _ _).sub rfl
    · exact Within.refl _ _

theorem execHostAuthAccept_answers (p : Path) (tag : Nat) (s : State) :
    Answers (execHostAuthAccept p tag s) (Within [.regs, .tok, .bil, .btm, .logs, .saf, .x04, .x06, .q, .grpSeq, .ses, .amb, .eth, .x11, .out] s) := by
  unfold execHostAuthAccept
  refine Answers.next ?_
  refine Within.trans ?_ (hostOwn_within (fun a0 => ?_) rfl)
  · exact Within.refl _ _
  · exact (authAnswer_within _ _ _ _ _).sub rfl

theorem sesAuthorise_within (s : State) :
    Within [.regs, .tok, .bil, .btm, .logs, .saf, .x04, .x06, .q, .grpSeq, .ses, .amb, .eth, .x11, .out] s (sesAuthorise s) := by
  unfold sesAuthorise
  extract_lets +onlyGivenNames -merge -underBinder t0
  refine Within.step (t := t0) ?_ fun h1 => ?_
  · unfold t0
    exact (sesEnter_within _ _).sub rfl
  clear_value t0
  extract_lets +onlyGivenNames -merge -underBinder t2
  refine Within.step (t := t2) ?_ fun h3 => ?_
  · unfold t2
    split
    · refine Within.comp ?_ (cardOffer_within _ _ _) rfl
      refine Within.comp ?_ (setSes_within _ _) rfl
      exact h1
    · exact h1
  clear_value t2
  refine Within.comp ?_ (authTry_within _ _ _ _) rfl
  exact h3

theorem execHostAuthReject_answers (p : Path) (tag : Nat) (s : State) :
    Answers (execHostAuthReject p tag s) (Within [.regs, .tok, .bil, .btm, .logs, .saf, .x04, .x06, .q, .grpSeq, .ses, .amb, .eth, .x11, .out] s) := by
  unfold execHostAuthReject
  refine Answers.next ?_
  refine Within.trans ?_ (hostOwn_within (fun a0 => ?_) rfl)
  · exact Within.refl _ _
  · exact (authAnswer_within _ _ _ _ _).sub rfl

theorem authCtl_within (w : Word) (s : State) :
    Within [.regs, .tok, .bil, .btm, .logs, .saf, .x04, .x06, .q, .grpSeq, .ses, .amb, .eth, .x11, .out] s (authCtl w s) := by
  unfold authCtl
  exact (authAnswer_within _ _ _ _ _).sub rfl

theorem cardPresent_within (uid : List Byte) (listed : Bool) (s : State) :
    Within [.regs, .tok, .bil, .btm, .logs, .saf, .x04, .x06, .q, .grpSeq, .ses, .amb, .eth, .x11, .out] s (cardPresent uid listed s) := by
  unfold cardPresent
  extract_lets +onlyGivenNames -merge -underBinder st0
  refine Within.ite ?_ ?_
  · exact (setSes_within _ _).sub rfl
  · refine Within.ite ?_ ?_
    · exact (cardOffer_within _ _ _).sub rfl
    · refine Within.ite ?_ ?_
      · exact (sesStop_within _ _).sub rfl
      · exact Within.refl _ _

theorem sesBegin_within (s : State) :
    Within [.regs, .tok, .bil, .btm, .logs, .saf, .x04, .x06, .q, .grpSeq, .ses, .amb, .eth, .x11, .out] s (sesBegin s) := by
  unfold sesBegin
  extract_lets +onlyGivenNames -merge -underBinder sec0
  extract_lets +onlyGivenNames -merge -underBinder n1
  extract_lets +onlyGivenNames -merge -underBinder j3 x2
  extract_lets +onlyGivenNames -merge -underBinder t4
  refine Within.step (t := t4) ?_ fun h5 => ?_
  · unfold t4
    exact (setSes_within _ _).sub rfl
  clear_value t4
  extract_lets +onlyGivenNames -merge -underBinder t6
  refine Within.step (t := t6) ?_ fun h7 => ?_
  · unfold t6
    refine Within.comp ?_ (State.raise_within _ _) rfl
    refine Within.comp ?_ (State.setRegN_within _ _ _) rfl
    refine Within.comp ?_ (State.setRegN_within _ _ _) rfl
    exact h5
  clear_value t6
  extract_lets +onlyGivenNames -merge -underBinder t8
  refine Within.step (t := t8) ?_ fun h9 => ?_
  · unfold t8
    refine Within.comp ?_ (State.lower_within _ _) rfl
    refine Within.comp ?_ (State.put_within _ _ _) rfl
    refine Within.comp ?_ (State.put_within _ _ _) rfl
    exact h7
  clear_value t8
  extract_lets +onlyGivenNames -merge -underBinder t10
  refine Within.step (t := t10) ?_ fun h11 => ?_
  · unfold t10
    refine Within.comp ?_ (billSessionStart_within _ _ _) rfl
    refine Within.comp ?_ (sesEnter_within _ _) rfl
    exact h9
  clear_value t10
  refine Within.ite ?_ ?_
  · refine Within.comp ?_ (sesAuthorise_within _) rfl
    exact h11
  · refine Within.comp ?_ (dutySend_within _ _) rfl
    exact h11

theorem sesPilot_within (st : Nat) (s : State) :
    Within [.regs, .tok, .bil, .btm, .logs, .saf, .x04, .x06, .q, .grpSeq, .ses, .amb, .eth, .x11, .out] s (sesPilot st s) := by
  unfold sesPilot
  extract_lets +onlyGivenNames -merge -underBinder was0
  extract_lets +onlyGivenNames -merge -underBinder j2 t1
  refine Within.step (t := t1) ?_ fun h3 => ?_
  · unfold t1
    exact (setSes_within _ _).sub rfl
  clear_value t1
  extract_lets +onlyGivenNames -merge -underBinder n4
  refine Within.ite ?_ ?_
  · refine Within.ite ?_ ?_
    · refine Within.comp ?_ (sesEnter_within _ _) rfl
      exact h3
    · refine Within.comp ?_ (sesStop_within _ _) rfl
      exact h3
  · refine Within.ite ?_ ?_
    · refine Within.ite ?_ ?_
      · refine Within.comp ?_ (sesBegin_within _) rfl
        exact h3
      · refine Within.ite ?_ ?_
        · extract_lets +onlyGivenNames -merge -underBinder u5
          refine Within.step (t := u5) ?_ fun h6 => ?_
          · unfold u5
            refine Within.comp ?_ (tok1Show_within _) rfl
            refine Within.comp ?_ (tokGive_within _ _ _) rfl
            refine Within.comp ?_ (sesEnter_within _ _) rfl
            exact h3
          clear_value u5
          refine Within.comp ?_ (setSes_within _ _) rfl
          refine Within.comp ?_ (Within.upd_x04 _ _) rfl
          exact h6
        · exact h3
    · refine Within.comp ?_ (sesBasicClose_within _) rfl
      exact h3

theorem sesReport_within (r : VlReport) (s : State) :
    Within [.regs, .tok, .bil, .btm, .logs, .saf, .x04, .x06, .q, .grpSeq, .ses, .amb, .eth, .x11, .out] s (sesReport r s) := by
  unfold sesReport
  split
  · exact (sesPilot_within _ _).sub rfl
  · exact (sesProx_within _ _).sub rfl
  · refine Within.ite ?_ ?_
    · exact (sesEnter_within _ _).sub rfl
    · exact Within.refl _ _
  · refine Within.ite ?_ ?_
    · exact (sesStop_within _ _).sub rfl
    · exact Within.refl _ _

theorem execSessionPilotEvent_answers (s : State) :
    Answers (execSessionPilotEvent s) (Within [.regs, .tok, .bil, .btm, .logs, .saf, .x04, .x05, .x06, .q, .grpSeq, .ses, .amb, .eth, .x11, .out] s) := by
  unfold execSessionPilotEvent
  refine Answers.next ?_
  split
  · exact Within.refl _ _
  · refine Within.comp ?_ (sesReport_within _ _) rfl
    refine Within.comp ?_ (Within.upd_x05 _ _) rfl
    exact Within.refl _ _

theorem setLcd_within (l : LcdState) (s : State) :
    Within [.lcd] s (setLcd l s) := by
  unfold setLcd
  refine Within.comp ?_ (Within.upd_lcd _ _) rfl
  exact Within.refl _ _

theorem lcdLight_within (s : State) :
    Within [.lcd] s (lcdLight s) := by
  unfold lcdLight
  extract_lets +onlyGivenNames -merge -underBinder v0
  extract_lets +onlyGivenNames -merge -underBinder d1
  exact (setLcd_within _ _).sub rfl

theorem lcdShow_within (s : State) :
    Within [.regs] s (lcdShow s) := by
  unfold lcdShow
  extract_lets +onlyGivenNames -merge -underBinder on0
  extract_lets +onlyGivenNames -merge -underBinder t1
  refine Within.step (t := t1) ?_ fun h2 => ?_
  · unfold t1
    refine Within.trans ?_ (Within.upTo (fun v3 v4 => ?_) _)
    · exact Within.refl _ _
    · exact (State.setRegN_within _ _ _).sub rfl
  clear_value t1
  refine Within.comp ?_ (State.putB_within _ _ _) rfl
  exact h2

theorem execDisplayHold_answers (p : Path) (s : State) :
    Answers (execDisplayHold p s) (Within [.regs, .lcd, .out] s) := by
  unfold execDisplayHold
  refine Answers.next ?_
  refine Within.trans ?_ (hostOwn_within (fun a0 => ?_) rfl)
  · exact Within.refl _ _
  · refine Within.trans ?_ (toIsland_within (fun a0 => ?_) rfl)
    · exact Within.refl _ _
    · exact (setLcd_within _ _).sub rfl

theorem lcdUp_within (vlcd : Bool) (s : State) :
    Within [.regs, .lcd] s (lcdUp vlcd s) := by
  unfold lcdUp
  refine Within.ite ?_ ?_
  · exact Within.refl _ _
  · refine Within.ite ?_ ?_
    · exact (State.raise_within _ _).sub rfl
    · extract_lets +onlyGivenNames -merge -underBinder first0
      extract_lets +onlyGivenNames -merge -underBinder t1
      refine Within.step (t := t1) ?_ fun h2 => ?_
      · unfold t1
        refine Within.comp ?_ (State.raise_within _ _) rfl
        refine Within.comp ?_ (State.raise_within _ _) rfl
        exact (State.raise_within _ _).sub rfl
      clear_value t1
      extract_lets +onlyGivenNames -merge -underBinder t3
      refine Within.step (t := t3) ?_ fun h4 => ?_
      · unfold t3
        refine Within.comp ?_ (State.put_within _ _ _) rfl
        refine Within.comp ?_ (State.raise_within _ _) rfl
        refine Within.comp ?_ (State.putB_within _ _ _) rfl
        exact h2
      clear_value t3
      refine Within.comp ?_ (lcdLight_within _) rfl
      refine Within.comp ?_ (lcdShow_within _) rfl
      refine Within.comp ?_ (setLcd_within _ _) rfl
      exact h4

theorem lcdReadback_within (misses : List Nat) (s : State) :
    Within [.regs, .lcd] s (lcdReadback misses s) := by
  unfold lcdReadback
  extract_lets +onlyGivenNames -merge -underBinder near0
  extract_lets +onlyGivenNames -merge -underBinder step1
  have h2 : ∀ v3 v4, Within [.regs, .lcd] v3 (step1 v3 v4) := by
    intro v3 v4
    unfold step1
    extract_lets +onlyGivenNames -merge -underBinder r5
    extract_lets +onlyGivenNames -merge -underBinder reg6
    extract_lets +onlyGivenNames -merge -underBinder bit7
    refine Within.ite ?_ ?_
    · extract_lets +onlyGivenNames -merge -underBinder u8
      refine Within.step (t := u8) ?_ fun h9 => ?_
      · unfold u8
        refine Within.comp ?_ (State.raise_within _ _) rfl
        exact (State.putBit_within _ _ _ _).sub rfl
      clear_value u8
      refine Within.ite ?_ ?_
      · refine Within.comp ?_ (State.raise_within _ _) rfl
        refine Within.comp ?_ (State.lower_within _ _) rfl
        exact h9
      · exact h9
    · refine Within.ite ?_ ?_
      · exact (State.putBit_within _ _ _ _).sub rfl
      · exact Within.refl _ _
  clear_value step1
  extract_lets +onlyGivenNames -merge -underBinder runs10
  extract_lets +onlyGivenNames -merge -underBinder j12 t11
  refine Within.step (t := t11) ?_ fun h13 => ?_
  · unfold t11
    refine Within.comp ?_ (setLcd_within _ _) rfl
    refine Within.trans ?_ (Within.foldl (fun v14 v15 => ?_) _)
    · exact Within.refl _ _
    · refine Within.trans ?_ (h2 _ _)
      exact Within.refl _ _
  clear_value t11
  refine Within.ite ?_ ?_
  · refine Within.comp ?_ (State.raise_within _ _) rfl
    exact h13
  · exact h13

theorem execHostAbsent_answers (s : State) :
    Answers (execHostAbsent s) (Within [.regs, .lcd] s) := by
  unfold execHostAbsent
  refine Answers.next ?_
  refine Within.comp ?_ (lcdLight_within _) rfl
  refine Within.comp ?_ (State.raise_within _ _) rfl
  exact (State.raise_within _ _).sub rfl

theorem lcdNext_within (s : State) :
    Within [.regs] s (lcdNext s) := by
  unfold lcdNext
  refine Within.comp ?_ (lcdShow_within _) rfl
  exact (State.put_within _ _ _).sub rfl

theorem execConfirmedDisplayEnd_answers (s : State) :
    Answers (execConfirmedDisplayEnd s) (Within [.regs, .lcd] s) := by
  unfold execConfirmedDisplayEnd
  refine Answers.next ?_
  refine Within.comp ?_ (lcdShow_within _) rfl
  exact (setLcd_within _ _).sub rfl

theorem lcdConfirmed_within (s : State) :
    Within [.regs, .lcd] s (lcdConfirmed s) := by
  unfold lcdConfirmed
  refine Within.comp ?_ (lcdShow_within _) rfl
  exact (setLcd_within _ _).sub rfl

theorem execDisplayNext_answers (p : Path) (s : State) :
    Answers (execDisplayNext p s) (Within [.regs, .out] s) := by
  unfold execDisplayNext
  refine Answers.next ?_
  refine Within.trans ?_ (hostOwn_within (fun a0 => ?_) rfl)
  · exact Within.refl _ _
  · refine Within.trans ?_ (toIsland_within (fun a0 => ?_) rfl)
    · exact Within.refl _ _
    · exact (lcdNext_within _).sub rfl

theorem execDisplayFrameReadback_answers (misses : List Nat) (s : State) :
    Answers (execDisplayFrameReadback misses s) (Within [.regs, .lcd] s) := by
  unfold execDisplayFrameReadback
  refine Answers.awake ?_
  refine Answers.next ?_
  refine Within.ite ?_ ?_
  · exact (lcdReadback_within _ _).sub rfl
  · exact Within.refl _ _

theorem execDisplayStale_answers (s : State) :
    Answers (execDisplayStale s) (Within [.regs] s) := by
  unfold execDisplayStale
  refine Answers.next ?_
  refine Within.ite ?_ ?_
  · exact Within.refl _ _
  · refine Within.comp ?_ (lcdShow_within _) rfl
    refine Within.comp ?_ (State.raise_within _ _) rfl
    exact (State.raise_within _ _).sub rfl

theorem lcdDown_within (s : State) :
    Within [.regs, .lcd] s (lcdDown s) := by
  unfold lcdDown
  extract_lets +onlyGivenNames -merge -underBinder t0
  refine Within.step (t := t0) ?_ fun h1 => ?_
  · unfold t0
    refine Within.comp ?_ (State.lower_within _ _) rfl
    refine Within.comp ?_ (State.lower_within _ _) rfl
    refine Within.comp ?_ (State.lower_within _ _) rfl
    exact (State.lower_within _ _).sub rfl
  clear_value t0
  refine Within.comp ?_ (lcdLight_within _) rfl
  refine Within.comp ?_ (lcdShow_within _) rfl
  refine Within.comp ?_ (setLcd_within _ _) rfl
  exact h1

theorem lcdImage_within (s : State) :
    Within [.regs, .lcd] s (lcdImage s) := by
  unfold lcdImage
  refine Within.comp ?_ (lcdLight_within _) rfl
  refine Within.comp ?_ (lcdShow_within _) rfl
  exact (State.lower_within _ _).sub rfl

theorem execLanternPowerUp_answers (vlcd : Bool) (s : State) :
    Answers (execLanternPowerUp vlcd s) (Within [.regs, .lcd] s) := by
  unfold execLanternPowerUp
  refine Answers.awake ?_
  refine Answers.next ?_
  exact (lcdUp_within _ _).sub rfl

theorem execVlcdRailRetry_answers (vlcd : Bool) (s : State) :
    Answers (execVlcdRailRetry vlcd s) (Within [.regs, .lcd] s) := by
  unfold execVlcdRailRetry
  refine Answers.awake ?_
  refine Answers.next ?_
  exact (lcdUp_within _ _).sub rfl

theorem execDisplayPageAdvance_answers (s : State) :
    Answers (execDisplayPageAdvance s) (Within [.regs] s) := by
  unfold execDisplayPageAdvance
  refine Answers.awake ?_
  refine Answers.next ?_
  refine Within.ite ?_ ?_
  · exact Within.refl _ _
  · exact (lcdNext_within _).sub rfl

theorem execServiceWordReceive_answers (image : Bool) (s : State) :
    Answers (execServiceWordReceive image s) (Within [.regs, .tok, .lsw, .lcd] s) := by
  unfold execServiceWordReceive
  refine Answers.next ?_
  refine Within.ite ?_ ?_
  · exact Within.refl _ _
  · extract_lets +onlyGivenNames -merge -underBinder j1 t0
    refine Within.step (t := t0) ?_ fun h2 => ?_
    · unfold t0
      refine Within.comp ?_ (limpUpdate_within _) rfl
      exact (setLsw_within _ _).sub rfl
    clear_value t0
    extract_lets +onlyGivenNames -merge -underBinder t3
    refine Within.step (t := t3) ?_ fun h4 => ?_
    · unfold t3
      refine Within.ite ?_ ?_
      · exact h2
      · refine Within.comp ?_ (lsTake_within _) rfl
        exact h2
    clear_value t3
    refine Within.ite ?_ ?_
    · refine Within.comp ?_ (lcdImage_within _) rfl
      exact h4
    · exact h4

theorem setNfc_within (n : NfcState) (s : State) :
    Within [.nfc] s (setNfc n s) := by
  unfold setNfc
  refine Within.comp ?_ (Within.upd_nfc _ _) rfl
  exact Within.refl _ _

theorem tagRefresh_within (s : State) :
    Within [.nfc] s (tagRefresh s) := by
  unfold tagRefresh
  refine Within.ite ?_ ?_
  · exact Within.refl _ _
  · refine Within.ite ?_ ?_
    · exact (setNfc_within _ _).sub rfl
    · exact (setNfc_within _ _).sub rfl

theorem tagCount_within (secs : Nat) (s : State) :
    Within [.nfc] s (tagCount secs s) := by
  unfold tagCount
  refine Within.ite ?_ ?_
  · exact (setNfc_within _ _).sub rfl
  · exact Within.refl _ _

theorem tagSay_within (bytes : List Byte) (s : State) :
    Within [.out] s (tagSay bytes s) := by
  unfold tagSay
  exact (State.emit_within _ _).sub rfl

theorem tagShow_within (s : State) :
    Within [.regs] s (tagShow s) := by
  unfold tagShow
  extract_lets +onlyGivenNames -merge -underBinder st0
  extract_lets +onlyGivenNames -merge -underBinder alm1
  refine Within.comp ?_ (State.putB_within _ _ _) rfl
  refine Within.comp ?_ (State.putB_within _ _ _) rfl
  exact (State.put_within _ _ _).sub rfl

theorem listShow_within (s : State) :
    Within [.regs] s (listShow s) := by
  unfold listShow
  exact (State.setRegN_within _ _ _).sub rfl

theorem tagFree_within (s : State) :
    Within [.out, .free] s (tagFree s) := by
  unfold tagFree
  split
  · rename_i y0 e1
    refine Within.step (t := y0) (Within.ofEq2 e1 ?_) fun h2 => ?_
    · exact (State.fresh_within _).sub rfl
    refine Within.comp ?_ (tagSay_within _ _) rfl
    exact h2

theorem notePut_within (n : Nat) (data : List Byte) (s : State) :
    Within [.nfc] s (notePut n data s).2 := by
  unfold notePut
  extract_lets +onlyGivenNames -merge -underBinder x0
  exact (setNfc_within _ _).sub rfl

theorem execTagSnapshotRefresh_answers (s : State) :
    Answers (execTagSnapshotRefresh s) (Within [.nfc] s) := by
  unfold execTagSnapshotRefresh
  refine Answers.awake ?_
  refine Answers.next ?_
  exact (tagRefresh_within _).sub rfl

theorem execTagPowerRemove_answers (s : State) :
    Answers (execTagPowerRemove s) (Within [.regs] s) := by
  unfold execTagPowerRemove
  refine Answers.next ?_
  refine Within.ite ?_ ?_
  · exact (State.lower_within _ _).sub rfl
  · exact Within.refl _ _

theorem setList_within (l : List (List Byte)) (s : State) :
    Within [.regs, .nfc] s (setList l s) := by
  unfold setList
  refine Within.comp ?_ (listShow_within _) rfl
  exact (setNfc_within _ _).sub rfl

theorem tagStatus_within (le : Nat) (secs : Nat) (s : State) :
    Within [.out, .free] s (tagStatus le secs s) := by
  unfold tagStatus
  refine Within.ite ?_ ?_
  · extract_lets +onlyGivenNames -merge -underBinder b00
    extract_lets +onlyGivenNames -merge -underBinder left1
    exact (tagSay_within _ _).sub rfl
  · exact (tagFree_within _).sub rfl

theorem tagWrite_within (off : Nat) (data : List Byte) (s : State) :
    Within [.nfc, .out] s (tagWrite off data s) := by
  unfold tagWrite
  refine Within.ite ?_ ?_
  · exact (tagSay_within _ _).sub rfl
  · refine Within.ite ?_ ?_
    · exact (tagSay_within _ _).sub rfl
    · refine Within.ite ?_ ?_
      · exact (tagSay_within _ _).sub rfl
      · extract_lets +onlyGivenNames -merge -underBinder x0
        refine Within.step (t := x0.2) ?_ fun h1 => ?_
        · unfold x0
          exact (notePut_within _ _ _).sub rfl
        clear_value x0
        refine Within.comp ?_ (tagSay_within _ _) rfl
        exact h1

theorem execTagSelect_answers (aid : List Byte) (s : State) :
    Answers (execTagSelect aid s) (Within [.nfc, .out, .free] s) := by
  unfold execTagSelect
  refine Answers.next ?_
  refine Within.ite ?_ ?_
  · refine Within.ite ?_ ?_
    · refine Within.comp ?_ (tagSay_within _ _) rfl
      exact (setNfc_within _ _).sub rfl
    · exact (tagFree_within _).sub rfl
  · exact Within.refl _ _

theorem tagCommand_within {ps : List Part} {f : State → State} {s : State} (h : ∀ v, Within ps v (f v))
    (hc : Part.covers [.out] ps = true) : Within ps s (tagCommand f s) := by
  unfold tagCommand
  refine Within.ite (Within.ite (h s) ?_) (Within.refl _ _)
  exact Within.sub (qs := [.out]) ((tagSay_within _ _).sub rfl) hc

theorem execTagUnknownCommand_answers (s : State) :
    Answers (execTagUnknownCommand s) (Within [.out] s) := by
  unfold execTagUnknownCommand
  refine Answers.next ?_
  refine Within.trans ?_ (tagCommand_within (fun a0 => ?_) rfl)
  · exact Within.refl _ _
  · exact (tagSay_within _ _).sub rfl

theorem hostNote_within (page : Nat) (s : State) :
    Within [.regs, .nfc] s (hostNote page s) := by
  unfold hostNote
  extract_lets +onlyGivenNames -merge -underBinder data0
  refine Within.ite ?_ ?_
  · refine Within.ite ?_ ?_
    · exact (State.raise_within _ _).sub rfl
    · refine Within.comp ?_ (tagShow_within _) rfl
      exact (setNfc_within _ _).sub rfl
  · exact (notePut_within _ _ _).sub rfl

theorem execTagWrite_answers (off : Nat) (data : List Byte) (s : State) :
    Answers (execTagWrite off data s) (Within [.nfc, .out] s) := by
  unfold execTagWrite
  refine Answers.next ?_
  refine Within.trans ?_ (tagCommand_within (fun a0 => ?_) rfl)
  · exact Within.refl _ _
  · exact (tagWrite_within _ _ _).sub rfl

theorem tagEnter_within (n : Nat) (s : State) :
    Within [.regs] s (tagEnter n s) := by
  unfold tagEnter
  refine Within.comp ?_ (tagShow_within _) rfl
  exact (State.put_within _ _ _).sub rfl

theorem cardEnd_within (s : State) :
    Within [.regs, .nfc] s (cardEnd s) := by
  unfold cardEnd
  refine Within.comp ?_ (setNfc_within _ _) rfl
  exact (State.lower_within _ _).sub rfl

theorem execHostTagWrite_answers (p : Path) (page : Nat) (s : State) :
    Answers (execHostTagWrite p page s) (Within [.regs, .nfc, .out] s) := by
  unfold execHostTagWrite
  refine Answers.next ?_
  refine Within.trans ?_ (hostOwn_within (fun a0 => ?_) rfl)
  · exact Within.refl _ _
  · refine Within.trans ?_ (toIsland_within (fun a0 => ?_) rfl)
    · exact Within.refl _ _
    · exact (hostNote_within _ _).sub rfl

theorem execTagStatus_answers (le : Nat) (secs : Nat) (s : State) :
    Answers (execTagStatus le secs s) (Within [.out, .free] s) := by
  unfold execTagStatus
  refine Answers.next ?_
  refine Within.trans ?_ (tagCommand_within (fun a0 => ?_) rfl)
  · exact Within.refl _ _
  · exact (tagStatus_within _ _ _).sub rfl

theorem tagQueue_within (s : State) :
    Within [.regs, .nfc] s (tagQueue s) := by
  unfold tagQueue
  refine Within.ite ?_ ?_
  · exact Within.refl _ _
  · refine Within.comp ?_ (tagShow_within _) rfl
    refine Within.trans ?_ (Within.foldl (fun v0 v1 => ?_) _)
    · exact (setNfc_within _ _).sub rfl
    · exact (notePut_within _ _ _).sub rfl

theorem tagRead_within (off : Nat) (le : Nat) (s : State) :
    Within [.out, .free] s (tagRead off le s) := by
  unfold tagRead
  refine Within.ite ?_ ?_
  · exact (tagFree_within _).sub rfl
  · refine Within.ite ?_ ?_
    · exact (tagSay_within _ _).sub rfl
    · exact (tagSay_within _ _).sub rfl

theorem nfcHeld_within (s : State) :
    Within [.regs, .nfc] s (nfcHeld s) := by
  unfold nfcHeld
  extract_lets +onlyGivenNames -merge -underBinder t0
  refine Within.step (t := t0) ?_ fun h1 => ?_
  · unfold t0
    refine Within.ite ?_ ?_
    · exact Within.refl _ _
    · exact (State.raise_within _ _).sub rfl
  clear_value t0
  extract_lets +onlyGivenNames -merge -underBinder t2
  refine Within.step (t := t2) ?_ fun h3 => ?_
  · unfold t2
    refine Within.comp ?_ (cardEnd_within _) rfl
    refine Within.comp ?_ (State.lower_within _ _) rfl
    exact h1
  clear_value t2
  refine Within.comp ?_ (tagEnter_within _ _) rfl
  refine Within.comp ?_ (setNfc_within _ _) rfl
  exact h3

theorem listEdit_within (op : Nat) (len : Nat) (s : State) :
    Within [.regs, .nfc] s (listEdit op len s) := by
  unfold listEdit
  extract_lets +onlyGivenNames -merge -underBinder uid0
  refine Within.ite ?_ ?_
  · refine Within.ite ?_ ?_
    · exact (State.raise_within _ _).sub rfl
    · exact (setList_within _ _).sub rfl
  · refine Within.ite ?_ ?_
    · exact (setList_within _ _).sub rfl
    · refine Within.ite ?_ ?_
      · exact (setList_within _ _).sub rfl
      · exact Within.refl _ _

theorem execListAdd_answers (p : Path) (len : Nat) (s : State) :
    Answers (execListAdd p len s) (Within [.regs, .nfc, .out] s) := by
  unfold execListAdd
  refine Answers.next ?_
  refine Within.trans ?_ (hostOwn_within (fun a0 => ?_) rfl)
  · exact Within.refl _ _
  · refine Within.trans ?_ (toIsland_within (fun a0 => ?_) rfl)
    · exact Within.refl _ _
    · exact (listEdit_within _ _ _).sub rfl

theorem execTagRead_answers (off : Nat) (le : Nat) (s : State) :
    Answers (execTagRead off le s) (Within [.out, .free] s) := by
  unfold execTagRead
  refine Answers.next ?_
  refine Within.trans ?_ (tagCommand_within (fun a0 => ?_) rfl)
  · exact Within.refl _ _
  · exact (tagRead_within _ _ _).sub rfl

theorem tagWake_within (wupa : Bool) (anticoll : Bool) (ms : Nat) (s : State) :
    Within [.regs, .out, .free] s (tagWake wupa anticoll ms s) := by
  unfold tagWake
  split
  · rename_i y0 e1
    refine Within.step (t := y0) (Within.ofEq2 e1 ?_) fun h2 => ?_
    · exact (State.fresh_within _).sub rfl
    extract_lets +onlyGivenNames -merge -underBinder s3
    refine Within.step (t := s3) ?_ fun h4 => ?_
    · unfold s3
      refine Within.ite ?_ ?_
      · exact h2
      · exact Within.refl _ _
    clear_value s3
    refine Within.ite ?_ ?_
    · exact h4
    · refine Within.ite ?_ ?_
      · refine Within.ite ?_ ?_
        · refine Within.comp ?_ (tagSay_within _ _) rfl
          refine Within.comp ?_ (tagEnter_within _ _) rfl
          exact h4
        · refine Within.comp ?_ (tagSay_within _ _) rfl
          exact h4
      · refine Within.ite ?_ ?_
        · refine Within.comp ?_ (tagSay_within _ _) rfl
          refine Within.comp ?_ (tagEnter_within _ _) rfl
          exact h4
        · exact h4

theorem execLayer4IdleTimeout_answers (s : State) :
    Answers (execLayer4IdleTimeout s) (Within [.regs, .nfc] s) := by
  unfold execLayer4IdleTimeout
  refine Answers.awake ?_
  refine Answers.next ?_
  exact (cardEnd_within _).sub rfl

theorem execTagRats_answers (s : State) :
    Answers (execTagRats s) (Within [.regs, .out] s) := by
  unfold execTagRats
  refine Answers.next ?_
  refine Within.ite ?_ ?_
  · refine Within.comp ?_ (tagSay_within _ _) rfl
    exact (tagEnter_within _ _).sub rfl
  · exact Within.refl _ _

theorem execTagHlta_answers (s : State) :
    Answers (execTagHlta s) (Within [.regs] s) := by
  unfold execTagHlta
  refine Answers.next ?_
  refine Within.ite ?_ ?_
  · exact (tagEnter_within _ _).sub rfl
  · exact Within.refl _ _

theorem execTagIgnoreEnd_answers (s : State) :
    Answers (execTagIgnoreEnd s) (Within [.regs, .nfc] s) := by
  unfold execTagIgnoreEnd
  refine Answers.next ?_
  extract_lets +onlyGivenNames -merge -underBinder j1 t0
  refine Within.step (t := t0) ?_ fun h2 => ?_
  · unfold t0
    exact (setNfc_within _ _).sub rfl
  clear_value t0
  refine Within.ite ?_ ?_
  · refine Within.comp ?_ (tagEnter_within _ _) rfl
    exact h2
  · exact h2

theorem tagLeave_within (n : Nat) (s : State) :
    Within [.regs, .nfc] s (tagLeave n s) := by
  unfold tagLeave
  refine Within.ite ?_ ?_
  · extract_lets +onlyGivenNames -merge -underBinder t0
    refine Within.step (t := t0) ?_ fun h1 => ?_
    · unfold t0
      refine Within.comp ?_ (State.bump_within _ _ _) rfl
      exact (State.raise_within _ _).sub rfl
    clear_value t0
    extract_lets +onlyGivenNames -merge -underBinder j3 t2
    refine Within.step (t := t2) ?_ fun h4 => ?_
    · unfold t2
      refine Within.comp ?_ (tagQueue_within _) rfl
      refine Within.comp ?_ (tagEnter_within _ _) rfl
      refine Within.comp ?_ (setNfc_within _ _) rfl
      exact h1
    clear_value t2
    refine Within.ite ?_ ?_
    · refine Within.comp ?_ (tagRefresh_within _) rfl
      exact h4
    · exact h4
  · exact (tagEnter_within _ _).sub rfl

theorem execTagWupaReqa_answers (wupa : Bool) (anticoll : Bool) (ms : Nat) (s : State) :
    Answers (execTagWupaReqa wupa anticoll ms s) (Within [.regs, .out, .free] s) := by
  unfold execTagWupaReqa
  refine Answers.next ?_
  exact (tagWake_within _ _ _ _).sub rfl

theorem execListClear_answers (p : Path) (s : State) :
    Answers (execListClear p s) (Within [.regs, .nfc, .out] s) := by
  unfold execListClear
  refine Answers.next ?_
  refine Within.trans ?_ (hostOwn_within (fun a0 => ?_) rfl)
  · exact Within.refl _ _
  · refine Within.trans ?_ (toIsland_within (fun a0 => ?_) rfl)
    · exact Within.refl _ _
    · exact (listEdit_within _ _ _).sub rfl

theorem execListRemove_answers (p : Path) (len : Nat) (s : State) :
    Answers (execListRemove p len s) (Within [.regs, .nfc, .out] s) := by
  unfold execListRemove
  refine Answers.next ?_
  refine Within.trans ?_ (hostOwn_within (fun a0 => ?_) rfl)
  · exact Within.refl _ _
  · refine Within.trans ?_ (toIsland_within (fun a0 => ?_) rfl)
    · exact Within.refl _ _
    · exact (listEdit_within _ _ _).sub rfl

theorem tagLimit_within (s : State) :
    Within [.regs, .nfc] s (tagLimit s) := by
  unfold tagLimit
  extract_lets +onlyGivenNames -merge -underBinder t0
  refine Within.step (t := t0) ?_ fun h1 => ?_
  · unfold t0
    exact (tagLeave_within _ _).sub rfl
  clear_value t0
  refine Within.comp ?_ (tagShow_within _) rfl
  refine Within.comp ?_ (setNfc_within _ _) rfl
  refine Within.comp ?_ (State.bump_within _ _ _) rfl
  exact h1

theorem execTagDeselect_answers (s : State) :
    Answers (execTagDeselect s) (Within [.regs, .nfc] s) := by
  unfold execTagDeselect
  refine Answers.next ?_
  refine Within.ite ?_ ?_
  · exact (tagLeave_within _ _).sub rfl
  · exact Within.refl _ _

theorem execTagFieldLost_answers (secs : Nat) (s : State) :
    Answers (execTagFieldLost secs s) (Within [.regs, .nfc] s) := by
  unfold execTagFieldLost
  refine Answers.next ?_
  extract_lets +onlyGivenNames -merge -underBinder j1 t0
  refine Within.step (t := t0) ?_ fun h2 => ?_
  · unfold t0
    refine Within.trans ?_ (Within.when (fun v3 => ?_) _)
    · exact (setNfc_within _ _).sub rfl
    · exact (State.lower_within _ _).sub rfl
  clear_value t0
  refine Within.ite ?_ ?_
  · refine Within.comp ?_ (tagLeave_within _ _) rfl
    refine Within.comp ?_ (tagCount_within _ _) rfl
    exact h2
  · exact h2

theorem tagSupply_within (s : State) :
    Within [.regs, .nfc] s (tagSupply s) := by
  unfold tagSupply
  refine Within.ite ?_ ?_
  · exact (tagLeave_within _ _).sub rfl
  · refine Within.ite ?_ ?_
    · exact (tagEnter_within _ _).sub rfl
    · exact Within.refl _ _

theorem execTagFieldDetect_answers (s : State) :
    Answers (execTagFieldDetect s) (Within [.regs, .nfc] s) := by
  unfold execTagFieldDetect
  refine Answers.next ?_
  extract_lets +onlyGivenNames -merge -underBinder j1 t0
  refine Within.step (t := t0) ?_ fun h2 => ?_
  · unfold t0
    exact (setNfc_within _ _).sub rfl
  clear_value t0
  refine Within.ite ?_ ?_
  · refine Within.ite ?_ ?_
    · refine Within.comp ?_ (tagLimit_within _) rfl
      exact h2
    · refine Within.comp ?_ (tagEnter_within _ _) rfl
      refine Within.comp ?_ (State.raise_within _ _) rfl
      exact h2
  · exact h2

theorem execTagTimeLimit_answers (secs : Nat) (s : State) :
    Answers (execTagTimeLimit secs s) (Within [.regs, .nfc] s) := by
  unfold execTagTimeLimit
  refine Answers.next ?_
  refine Within.ite ?_ ?_
  · refine Within.comp ?_ (tagLimit_within _) rfl
    exact (tagCount_within _ _).sub rfl
  · exact Within.refl _ _

theorem nfcStart_within (s : State) :
    Within [.regs, .nfc] s (nfcStart s) := by
  unfold nfcStart
  refine Within.comp ?_ (tagQueue_within _) rfl
  refine Within.comp ?_ (tagSupply_within _) rfl
  refine Within.comp ?_ (State.putB_within _ _ _) rfl
  exact (listShow_within _).sub rfl

theorem cardSeen_within (uid : List Byte) (sak : Nat) (s : State) :
    Within [.regs, .tok, .bil, .btm, .logs, .saf, .x04, .x06, .q, .grpSeq, .ses, .amb, .eth, .x11, .out] s (cardSeen uid sak s) := by
  unfold cardSeen
  extract_lets +onlyGivenNames -merge -underBinder rnd0
  extract_lets +onlyGivenNames -merge -underBinder listed1
  extract_lets +onlyGivenNames -merge -underBinder t2
  refine Within.step (t := t2) ?_ fun h3 => ?_
  · unfold t2
    exact (State.setRegN_within _ _ _).sub rfl
  clear_value t2
  extract_lets +onlyGivenNames -merge -underBinder t4
  refine Within.step (t := t4) ?_ fun h5 => ?_
  · unfold t4
    refine Within.trans ?_ (Within.upTo (fun v6 v7 => ?_) _)
    · refine Within.comp ?_ (State.raise_within _ _) rfl
      exact h3
    · exact (State.setRegN_within _ _ _).sub rfl
  clear_value t4
  extract_lets +onlyGivenNames -merge -underBinder body8
  extract_lets +onlyGivenNames -merge -underBinder t9
  refine Within.step (t := t9) ?_ fun h10 => ?_
  · unfold t9
    refine Within.comp ?_ (notify_within _ _ _) rfl
    exact h5
  clear_value t9
  refine Within.ite ?_ ?_
  · exact h10
  · refine Within.comp ?_ (cardPresent_within _ _ _) rfl
    exact h10

theorem readerPoll_within (ext : Bool) (cards : List (List Byte × Nat)) (s : State) :
    Within [.regs, .tok, .bil, .btm, .logs, .saf, .x04, .x06, .q, .grpSeq, .ses, .nfc, .amb, .eth, .x11, .out] s (readerPoll ext cards s) := by
  unfold readerPoll
  refine Within.ite ?_ ?_
  · refine Within.ite ?_ ?_
    · exact (State.raise_within _ _).sub rfl
    · exact (State.raise_within _ _).sub rfl
  · extract_lets +onlyGivenNames -merge -underBinder uids0
    extract_lets +onlyGivenNames -merge -underBinder j2 t1
    refine Within.step (t := t1) ?_ fun h3 => ?_
    · unfold t1
      refine Within.comp ?_ (setNfc_within _ _) rfl
      exact (State.lower_within _ _).sub rfl
    clear_value t1
    split
    · exact h3
    · refine Within.ite ?_ ?_
      · exact h3
      · refine Within.comp ?_ (cardSeen_within _ _ _) rfl
        exact h3
    · refine Within.comp ?_ (State.raise_within _ _) rfl
      exact h3

theorem execReaderPoll_answers (ext : Bool) (cards : List (List Byte × Nat)) (s : State) :
    Answers (execReaderPoll ext cards s) (Within [.regs, .tok, .bil, .btm, .logs, .saf, .x04, .x06, .q, .grpSeq, .ses, .nfc, .amb, .eth, .x11, .out] s) := by
  unfold execReaderPoll
  refine Answers.awake ?_
  refine Answers.next ?_
  refine Within.ite ?_ ?_
  · exact (readerPoll_within _ _ _).sub rfl
  · exact Within.refl _ _

theorem domainsKeep_within (d : Int) (s : State) :
    Within [.eth] s (domainsKeep d s) := by
  unfold domainsKeep
  extract_lets +onlyGivenNames -merge -underBinder f0
  exact (setEth_within _ _).sub rfl

theorem stMove_within (d : Int) (s : State) :
    Within [.eth] s (stMove d s) := by
  unfold stMove
  refine Within.comp ?_ (domainsKeep_within _ _) rfl
  exact (setEth_within _ _).sub rfl

theorem launchStep_within (before : Int) (after : Int) (s : State) :
    Within [.q] s (launchStep before after s) := by
  unfold launchStep
  extract_lets +onlyGivenNames -merge -underBinder f0
  refine Within.comp ?_ (setQueue_within _ _ _) rfl
  exact (setQueue_within _ _ _).sub rfl

theorem execNodeEntryExpiry_answers (src : List Byte) (s : State) :
    Answers (execNodeEntryExpiry src s) (Within [.eth] s) := by
  unfold execNodeEntryExpiry
  refine Answers.awake ?_
  refine Answers.next ?_
  exact (setEth_within _ _).sub rfl

theorem stShow_within (s : State) :
    Within [.regs] s (stShow s) := by
  unfold stShow
  extract_lets +onlyGivenNames -merge -underBinder n0
  refine Within.comp ?_ (State.setRegN_within _ _ _) rfl
  exact (State.setRegN_within _ _ _).sub rfl

theorem execBusOffRecovery_answers (k : Nat) (s : State) :
    Answers (execBusOffRecovery k s) (Within [.regs] s) := by
  unfold execBusOffRecovery
  refine Answers.awake ?_
  refine Answers.next ?_
  refine Within.ite ?_ ?_
  · refine Within.comp ?_ (State.put_within _ _ _) rfl
    refine Within.comp ?_ (State.put_within _ _ _) rfl
    exact (State.lower_within _ _).sub rfl
  · exact Within.refl _ _

theorem ethEmit_within (p : Nat) (f : Frame) (s : State) :
    Within [.regs, .out] s (ethEmit p f s) := by
  unfold ethEmit
  extract_lets +onlyGivenNames -merge -underBinder at_0
  extract_lets +onlyGivenNames -merge -underBinder stamp1
  refine Within.comp ?_ (State.emit_within _ _) rfl
  exact (State.bumpReg_within _ _ _).sub rfl

theorem execSupervisionFrameSend_answers (s : State) :
    Answers (execSupervisionFrameSend s) (Within [.regs, .out] s) := by
  unfold execSupervisionFrameSend
  refine Answers.awake ?_
  refine Answers.next ?_
  refine Within.ite ?_ ?_
  · refine Within.trans ?_ (Within.foldl (fun v0 v1 => ?_) _)
    · exact Within.refl _ _
    · refine Within.comp ?_ (State.emit_within _ _) rfl
      exact (State.bumpReg_within _ _ _).sub rfl
  · exact Within.refl _ _

theorem duplicateCheck_within (p : Nat) (f : List Byte) (s : State) :
    Within [.regs, .eth] s (duplicateCheck p f s).2 := by
  unfold duplicateCheck
  extract_lets +onlyGivenNames -merge -underBinder tr0
  extract_lets +onlyGivenNames -merge -underBinder lan1
  extract_lets +onlyGivenNames -merge -underBinder size2
  extract_lets +onlyGivenNames -merge -underBinder seq3
  extract_lets +onlyGivenNames -merge -underBinder valid4
  refine Within.ite2 ?_ ?_
  · exact Within.refl _ _
  · refine Within.ite2 ?_ ?_
    · exact (State.bumpReg_within _ _ _).sub rfl
    · extract_lets +onlyGivenNames -merge -underBinder src5
      extract_lets +onlyGivenNames -merge -underBinder rest6
      split
      · refine Within.ite2 ?_ ?_
        · exact (State.raise_within _ _).sub rfl
        · exact (setEth_within _ _).sub rfl
      · extract_lets +onlyGivenNames -merge -underBinder live7
        refine Within.ite2 ?_ ?_
        · refine Within.comp ?_ (State.bumpReg_within _ _ _) rfl
          exact (setEth_within _ _).sub rfl
        · exact (setEth_within _ _).sub rfl

theorem sendAll_within (q : Nat) (ports : List Nat) (s : State) :
    Within [.regs, .q, .out] s (sendAll q ports s) := by
  unfold sendAll
  refine Within.trans ?_ (Within.foldl (fun v0 v1 => ?_) _)
  · exact (setQueue_within _ _ _).sub rfl
  · refine Within.trans ?_ (Within.foldl (fun v2 v3 => ?_) _)
    · exact Within.refl _ _
    · exact (ethEmit_within _ _ _).sub rfl

theorem stStep_within (d : Int) (s : State) :
    Within [.regs, .q, .eth] s (stStep d s) := by
  unfold stStep
  refine Within.comp ?_ (State.raise_within _ _) rfl
  refine Within.comp ?_ (stShow_within _) rfl
  refine Within.comp ?_ (stMove_within _ _) rfl
  exact (launchStep_within _ _ _).sub rfl

theorem execTelegramFrameFilter_answers (p : Nat) (f : List Byte) (s : State) :
    Answers (execTelegramFrameFilter p f s) (Within [.regs, .x09] s) := by
  unfold execTelegramFrameFilter
  refine Answers.awake ?_
  extract_lets +onlyGivenNames -merge -underBinder data0
  refine Answers.next ?_
  refine Within.ite ?_ ?_
  · extract_lets +onlyGivenNames -merge -underBinder __src1
    refine Within.step (t := __src1) ?_ fun h2 => ?_
    · unfold __src1
      exact (State.bumpReg_within _ _ _).sub rfl
    clear_value __src1
    refine Within.comp ?_ (Within.upd_x09 _ _) rfl
    exact h2
  · exact Within.refl _ _

theorem ethBridge_within (p : Nat) (f : List Byte) (s : State) :
    Within [.regs, .out] s (ethBridge p f s) := by
  unfold ethBridge
  refine Within.ite ?_ ?_
  · exact (ethEmit_within _ _ _).sub rfl
  · exact Within.refl _ _

theorem launchN_within (x : Nat) (x1 : Nat) (x2 : Nat) (x3 : Option Int) (x4 : State) :
    Within [.regs, .q, .out] x4 (launchN x x1 x2 x3 x4) := by
  induction x generalizing x1 x2 x3 x4 with
  | zero =>
    unfold launchN
    exact Within.refl _ _
  | succ k ih =>
    unfold launchN
    split
    · exact Within.refl _ _
    · extract_lets +onlyGivenNames -merge -underBinder send0
      have h1 : ∀ v2, Within [.regs, .q, .out] v2 (send0 v2) := by
        intro v2
        unfold send0
        refine Within.trans ?_ (Within.foldl (fun v3 v4 => ?_) _)
        · exact (setQueue_within _ _ _).sub rfl
        · exact (ethEmit_within _ _ _).sub rfl
      clear_value send0
      split
      · refine Within.comp ?_ (ih _ _ _ _) rfl
        refine Within.trans ?_ (h1 _)
        exact Within.refl _ _
      · extract_lets +onlyGivenNames -merge -underBinder at_5
        refine Within.ite ?_ ?_
        · refine Within.comp ?_ (ih _ _ _ _) rfl
          refine Within.trans ?_ (h1 _)
          exact Within.refl _ _
        · refine Within.ite ?_ ?_
          · exact Within.refl _ _
          · refine Within.ite ?_ ?_
            · extract_lets +onlyGivenNames -merge -underBinder t6
              refine Within.step (t := t6) ?_ fun h7 => ?_
              · unfold t6
                refine Within.comp ?_ (State.raise_within _ _) rfl
                exact (State.bumpReg_within _ _ _).sub rfl
              clear_value t6
              refine Within.comp ?_ (ih _ _ _ _) rfl
              refine Within.ite ?_ ?_
              · refine Within.comp ?_ (setQueue_within _ _ _) rfl
                exact h7
              · refine Within.trans ?_ (h1 _)
                exact h7
            · refine Within.comp ?_ (ih _ _ _ _) rfl
              refine Within.trans ?_ (h1 _)
              exact Within.refl _ _

theorem stAdvance_within (dt : Nat) (s : State) :
    Within [.regs, .eth] s (stAdvance dt s) := by
  unfold stAdvance
  extract_lets +onlyGivenNames -merge -underBinder j1 t0
  refine Within.step (t := t0) ?_ fun h2 => ?_
  · unfold t0
    exact (setEth_within _ _).sub rfl
  clear_value t0
  refine Within.ite ?_ ?_
  · extract_lets +onlyGivenNames -merge -underBinder rem3
    extract_lets +onlyGivenNames -merge -underBinder a4
    extract_lets +onlyGivenNames -merge -underBinder a5
    refine Within.comp ?_ (stShow_within _) rfl
    refine Within.comp ?_ (domainsKeep_within _ _) rfl
    refine Within.comp ?_ (State.setRegI_within _ _ _) rfl
    exact h2
  · refine Within.comp ?_ (stShow_within _) rfl
    exact h2

theorem sendWaiting_within (s : State) :
    Within [.regs, .q, .out] s (sendWaiting s) := by
  unfold sendWaiting
  extract_lets +onlyGivenNames -merge -underBinder t0
  refine Within.step (t := t0) ?_ fun h1 => ?_
  · unfold t0
    refine Within.comp ?_ (sendAll_within _ _ _) rfl
    refine Within.comp ?_ (sendAll_within _ _ _) rfl
    exact (sendAll_within _ _ _).sub rfl
  clear_value t0
  refine Within.comp ?_ (sendAll_within _ _ _) rfl
  refine Within.comp ?_ (sendAll_within _ _ _) rfl
  refine Within.comp ?_ (sendAll_within _ _ _) rfl
  exact h1

theorem ethDeliver_within (p : Nat) (q : Nat) (f : Frame) (s : State) :
    Within [.regs, .q] s (ethDeliver p q f s) := by
  unfold ethDeliver
  refine Within.ite ?_ ?_
  · refine Within.comp ?_ (State.raise_within _ _) rfl
    exact (State.bumpReg_within _ _ _).sub rfl
  · exact (enqueue_within _ _ _).sub rfl

theorem execCanBusOff_answers (k : Nat) (s : State) :
    Answers (execCanBusOff k s) (Within [.regs] s) := by
  unfold execCanBusOff
  refine Answers.awake ?_
  refine Answers.next ?_
  refine Within.ite ?_ ?_
  · refine Within.comp ?_ (State.raise_within _ _) rfl
    refine Within.comp ?_ (State.bump_within _ _ _) rfl
    refine Within.comp ?_ (State.raise_within _ _) rfl
    exact (State.put_within _ _ _).sub rfl
  · exact Within.refl _ _

theorem execEthFrameSend_answers (w : Option TxFrame) (hold : Bool) (dt : Nat) (s : State) :
    Answers (execEthFrameSend w hold dt s) (Within [.regs, .q, .eth, .out] s) := by
  unfold execEthFrameSend
  refine Answers.awake ?_
  extract_lets +onlyGivenNames -merge -underBinder t0
  refine Answers.step (t := t0) ?_ fun h1 => ?_
  · unfold t0
    exact (stAdvance_within _ _).sub rfl
  clear_value t0
  extract_lets +onlyGivenNames -merge -underBinder t2
  refine Answers.step (t := t2) ?_ fun h3 => ?_
  · unfold t2
    split
    · refine Within.ite ?_ ?_
      · refine Within.comp ?_ (ethWrite_within _ _ _) rfl
        exact h1
      · exact h1
    · exact h1
  clear_value t2
  refine Answers.next ?_
  refine Within.ite ?_ ?_
  · exact h3
  · refine Within.comp ?_ (sendWaiting_within _) rfl
    exact h3

theorem groupFilter_within (p : Nat) (m : List Byte) (stamp : Nat) (s : State) :
    Within [.regs, .q, .eth] s (groupFilter p m stamp s) := by
  unfold groupFilter
  extract_lets +onlyGivenNames -merge -underBinder src0
  extract_lets +onlyGivenNames -merge -underBinder dst1
  extract_lets +onlyGivenNames -merge -underBinder own2
  extract_lets +onlyGivenNames -merge -underBinder last3
  refine Within.ite ?_ ?_
  · exact Within.refl _ _
  · refine Within.ite ?_ ?_
    · exact (State.raise_within _ _).sub rfl
    · refine Within.ite ?_ ?_
      · exact Within.refl _ _
      · extract_lets +onlyGivenNames -merge -underBinder g4
        refine Within.comp ?_ (ethDeliver_within _ _ _ _) rfl
        exact (setEth_within _ _).sub rfl

theorem ethTake_within (p : Nat) (f : List Byte) (s : State) :
    Within [.regs, .q, .eth, .out] s (ethTake p f s) := by
  unfold ethTake
  extract_lets +onlyGivenNames -merge -underBinder mine0
  extract_lets +onlyGivenNames -merge -underBinder multi1
  extract_lets +onlyGivenNames -merge -underBinder stamp2
  extract_lets +onlyGivenNames -merge -underBinder most3
  refine Within.ite ?_ ?_
  · exact Within.refl _ _
  · extract_lets +onlyGivenNames -merge -underBinder t4
    refine Within.step (t := t4) ?_ fun h5 => ?_
    · unfold t4
      refine Within.ite ?_ ?_
      · exact Within.refl _ _
      · exact (ethBridge_within _ _ _).sub rfl
    clear_value t4
    refine Within.ite ?_ ?_
    · exact h5
    · split
      · rename_i y6 e7
        refine Within.step (t := y6) (Within.ofEq2 e7 ?_) fun h8 => ?_
        · refine Within.comp ?_ (duplicateCheck_within _ _ _) rfl
          exact h5
        exact h8
      · rename_i y9 e10
        refine Within.step (t := y9) (Within.ofEq2 e10 ?_) fun h11 => ?_
        · refine Within.comp ?_ (duplicateCheck_within _ _ _) rfl
          exact h5
        refine Within.ite ?_ ?_
        · refine Within.comp ?_ (groupFilter_within _ _ _ _) rfl
          exact h11
        · refine Within.comp ?_ (ethDeliver_within _ _ _ _) rfl
          exact h11

theorem launchDue_within (s : State) :
    Within [.regs, .q, .out] s (launchDue s) := by
  unfold launchDue
  refine Within.ite ?_ ?_
  · exact Within.refl _ _
  · extract_lets +onlyGivenNames -merge -underBinder t0
    refine Within.step (t := t0) ?_ fun h1 => ?_
    · unfold t0
      exact (launchN_within _ _ _ _ _).sub rfl
    clear_value t0
    refine Within.comp ?_ (launchN_within _ _ _ _ _) rfl
    exact h1

theorem execFrameLaunch_answers (dt : Nat) (s : State) :
    Answers (execFrameLaunch dt s) (Within [.regs, .q, .eth, .out] s) := by
  unfold execFrameLaunch
  refine Answers.awake ?_
  refine Answers.next ?_
  refine Within.comp ?_ (launchDue_within _) rfl
  exact (stAdvance_within _ _).sub rfl

theorem execGroupMessageReceive_answers (p : Nat) (m : List Byte) (s : State) :
    Answers (execGroupMessageReceive p m s) (Within [.regs, .q, .eth] s) := by
  unfold execGroupMessageReceive
  refine Answers.awake ?_
  refine Answers.next ?_
  refine Within.ite ?_ ?_
  · exact (groupFilter_within _ _ _ _).sub rfl
  · exact Within.refl _ _

theorem execEthFrameReceive_answers (p : Nat) (f : List Byte) (fcs : Bool) (dt : Nat) (s : State) :
    Answers (execEthFrameReceive p f fcs dt s) (Within [.regs, .q, .eth, .out] s) := by
  unfold execEthFrameReceive
  refine Answers.awake ?_
  extract_lets +onlyGivenNames -merge -underBinder t0
  refine Answers.step (t := t0) ?_ fun h1 => ?_
  · unfold t0
    exact (stAdvance_within _ _).sub rfl
  clear_value t0
  refine Answers.next ?_
  refine Within.ite ?_ ?_
  · exact h1
  · refine Within.ite ?_ ?_
    · refine Within.comp ?_ (State.bumpReg_within _ _ _) rfl
      exact h1
    · refine Within.comp ?_ (ethTake_within _ _ _) rfl
      refine Within.comp ?_ (State.bumpReg_within _ _ _) rfl
      exact h1

end Sys2Proof.Machine
end

