-- ==== Sys2Proof/Laws/Within4.lean ====
section
/-!
SUPPORT. Which parts of the state each operation changes, and that it keeps the invariant: the files of Machine/ named
Ptp, Dlms, SessionPower, Shunter, Save, Restart, Faults, Power, TimetableOps, Start.
-/
namespace Sys2Proof.Machine

theorem ptpForward_within (type : Nat) (p : Nat) (dom : Nat) (seq : Nat) (corr : Int) (s : State) :
    Within [.out] s (ptpForward type p dom seq corr s) := by
  unfold ptpForward
  refine Within.ite ?_ ?_
  · exact (State.emit_within _ _).sub rfl
  · exact Within.refl _ _

theorem ptpOwn_within (m : Nat → Nat → PtpOut) (s : State) :
    Within [.eth, .out] s (ptpOwn m s) := by
  unfold ptpOwn
  extract_lets +onlyGivenNames -merge -underBinder t0
  refine Within.step (t := t0) ?_ fun h1 => ?_
  · unfold t0
    refine Within.trans ?_ (Within.foldl (fun v2 v3 => ?_) _)
    · exact Within.refl _ _
    · exact (State.emit_within _ _).sub rfl
  clear_value t0
  refine Within.comp ?_ (setEth_within _ _) rfl
  exact h1

theorem execPtpAnnounceSend_answers (s : State) :
    Answers (execPtpAnnounceSend s) (Within [.eth, .out] s) := by
  unfold execPtpAnnounceSend
  refine Answers.awake ?_
  refine Answers.next ?_
  refine Within.ite ?_ ?_
  · exact (ptpOwn_within _ _).sub rfl
  · exact Within.refl _ _

theorem setEngine_within (d : Nat) (p : Nat) (e : PtpPort) (s : State) :
    Within [.eth] s (setEngine d p e s) := by
  unfold setEngine
  exact (setEth_within _ _).sub rfl

theorem portJoin_within (p : Nat) (s : State) :
    Within [.regs, .out] s (portJoin p s) := by
  unfold portJoin
  refine Within.ite ?_ ?_
  · refine Within.comp ?_ (State.emit_within _ _) rfl
    exact (State.bumpReg_within _ _ _).sub rfl
  · exact Within.refl _ _

theorem execStSlewComplete_answers (s : State) :
    Answers (execStSlewComplete s) (Within [.regs, .eth] s) := by
  unfold execStSlewComplete
  refine Answers.awake ?_
  refine Answers.next ?_
  refine Within.ite ?_ ?_
  · refine Within.comp ?_ (State.lower_within _ _) rfl
    refine Within.comp ?_ (State.setRegN_within _ _ _) rfl
    exact (domainsKeep_within _ _).sub rfl
  · exact Within.refl _ _

theorem utcShow_within (s : State) :
    Within [.regs] s (utcShow s) := by
  unfold utcShow
  extract_lets +onlyGivenNames -merge -underBinder u0
  refine Within.ite ?_ ?_
  · exact Within.refl _ _
  · refine Within.comp ?_ (State.raise_within _ _) rfl
    exact (State.setRegN_within _ _ _).sub rfl

theorem execEthLinkUp_answers (p : Nat) (speed : Nat) (s : State) :
    Answers (execEthLinkUp p speed s) (Within [.regs, .out] s) := by
  unfold execEthLinkUp
  refine Answers.awake ?_
  refine Answers.next ?_
  refine Within.ite ?_ ?_
  · refine Within.comp ?_ (portJoin_within _ _) rfl
    refine Within.comp ?_ (State.raise_within _ _) rfl
    refine Within.comp ?_ (State.put_within _ _ _) rfl
    exact (State.raise_within _ _).sub rfl
  · exact Within.refl _ _

theorem execEvtInEdge_answers (dt : Nat) (s : State) :
    Answers (execEvtInEdge dt s) (Within [.regs, .eth] s) := by
  unfold execEvtInEdge
  refine Answers.awake ?_
  extract_lets +onlyGivenNames -merge -underBinder t0
  refine Answers.step (t := t0) ?_ fun h1 => ?_
  · unfold t0
    exact (stAdvance_within _ _).sub rfl
  clear_value t0
  extract_lets +onlyGivenNames -merge -underBinder n2
  refine Answers.next ?_
  refine Within.comp ?_ (State.raise_within _ _) rfl
  refine Within.comp ?_ (State.setRegN_within _ _ _) rfl
  refine Within.comp ?_ (State.setRegN_within _ _ _) rfl
  exact h1

theorem ptpShow_within (d : Nat) (p : Nat) (x : Int) (s : State) :
    Within [.regs] s (ptpShow d p x s) := by
  unfold ptpShow
  refine Within.ite ?_ ?_
  · extract_lets +onlyGivenNames -merge -underBinder e0
    extract_lets +onlyGivenNames -merge -underBinder gm1
    refine Within.comp ?_ (State.setRegN_within _ _ _) rfl
    refine Within.comp ?_ (State.setRegN_within _ _ _) rfl
    refine Within.comp ?_ (State.setRegN_within _ _ _) rfl
    exact (State.setRegI_within _ _ _).sub rfl
  · exact Within.refl _ _

theorem portFlush_within (p : Nat) (s : State) :
    Within [.regs, .q] s (portFlush p s) := by
  unfold portFlush
  extract_lets +onlyGivenNames -merge -underBinder chain0
  refine Within.ite ?_ ?_
  · exact Within.refl _ _
  · refine Within.trans ?_ (Within.foldl (fun v1 v2 => ?_) _)
    · exact Within.refl _ _
    · refine Within.comp ?_ (txDiscard_within _ _ _) rfl
      exact (setQueue_within _ _ _).sub rfl

theorem execPtpDelayReqReceive_answers (p : Nat) (dom : Nat) (seq : Nat) (asker : Nat) (corr : Int) (residence : Int) (dt : Nat) (s : State) :
    Answers (execPtpDelayReqReceive p dom seq asker corr residence dt s) (Within [.regs, .eth, .out] s) := by
  unfold execPtpDelayReqReceive
  refine Answers.awake ?_
  extract_lets +onlyGivenNames -merge -underBinder t0
  refine Answers.step (t := t0) ?_ fun h1 => ?_
  · unfold t0
    exact (stAdvance_within _ _).sub rfl
  clear_value t0
  refine Answers.next ?_
  refine Within.ite ?_ ?_
  · exact h1
  · refine Within.ite ?_ ?_
    · refine Within.comp ?_ (State.emit_within _ _) rfl
      exact h1
    · refine Within.comp ?_ (ptpForward_within _ _ _ _ _ _) rfl
      exact h1

theorem execPtpSyncSend_answers (dt : Nat) (s : State) :
    Answers (execPtpSyncSend dt s) (Within [.regs, .eth, .out] s) := by
  unfold execPtpSyncSend
  refine Answers.awake ?_
  extract_lets +onlyGivenNames -merge -underBinder t0
  refine Answers.step (t := t0) ?_ fun h1 => ?_
  · unfold t0
    exact (stAdvance_within _ _).sub rfl
  clear_value t0
  refine Answers.next ?_
  refine Within.ite ?_ ?_
  · refine Within.comp ?_ (ptpOwn_within _ _) rfl
    exact h1
  · exact h1

theorem execPpsSecond_answers (s : State) :
    Answers (execPpsSecond s) (Within [.regs, .eth, .out] s) := by
  unfold execPpsSecond
  refine Answers.awake ?_
  extract_lets +onlyGivenNames -merge -underBinder left0
  extract_lets +onlyGivenNames -merge -underBinder t1
  refine Answers.step (t := t1) ?_ fun h2 => ?_
  · unfold t1
    exact (stAdvance_within _ _).sub rfl
  clear_value t1
  refine Answers.next ?_
  refine Within.ite ?_ ?_
  · refine Within.comp ?_ (State.emit_within _ _) rfl
    exact h2
  · exact h2

theorem ptpSelect_within (d : Nat) (p : Nat) (s : State) :
    Within [.regs, .q, .eth] s (ptpSelect d p s) := by
  unfold ptpSelect
  refine Within.comp ?_ (stStep_within _ _) rfl
  refine Within.comp ?_ (setEth_within _ _) rfl
  refine Within.comp ?_ (State.put_within _ _ _) rfl
  exact (State.put_within _ _ _).sub rfl

theorem execPtpDelayReqSend_answers (p : Nat) (dom : Nat) (dt : Nat) (s : State) :
    Answers (execPtpDelayReqSend p dom dt s) (Within [.regs, .eth, .out] s) := by
  unfold execPtpDelayReqSend
  refine Answers.awake ?_
  extract_lets +onlyGivenNames -merge -underBinder t0
  refine Answers.step (t := t0) ?_ fun h1 => ?_
  · unfold t0
    exact (stAdvance_within _ _).sub rfl
  clear_value t0
  refine Answers.next ?_
  split
  · refine Within.ite ?_ ?_
    · extract_lets +onlyGivenNames -merge -underBinder w2
      extract_lets +onlyGivenNames -merge -underBinder j4 u3
      refine Within.step (t := u3) ?_ fun h5 => ?_
      · unfold u3
        refine Within.comp ?_ (setEngine_within _ _ _ _) rfl
        refine Within.comp ?_ (State.emit_within _ _) rfl
        exact h1
      clear_value u3
      refine Within.comp ?_ (setEth_within _ _) rfl
      exact h5
    · exact h1
  · exact h1

theorem ptpSwitch_within (d : Nat) (p : Nat) (s : State) :
    Within [.regs, .q, .eth] s (ptpSwitch d p s) := by
  unfold ptpSwitch
  extract_lets +onlyGivenNames -merge -underBinder delta0
  extract_lets +onlyGivenNames -merge -underBinder j2 t1
  refine Within.step (t := t1) ?_ fun h3 => ?_
  · unfold t1
    refine Within.comp ?_ (setEth_within _ _) rfl
    refine Within.comp ?_ (State.raise_within _ _) rfl
    refine Within.comp ?_ (State.put_within _ _ _) rfl
    exact (State.put_within _ _ _).sub rfl
  clear_value t1
  refine Within.ite ?_ ?_
  · refine Within.comp ?_ (State.putB_within _ _ _) rfl
    refine Within.comp ?_ (State.setRegI_within _ _ _) rfl
    exact h3
  · refine Within.comp ?_ (stStep_within _ _) rfl
    refine Within.comp ?_ (State.lower_within _ _) rfl
    refine Within.comp ?_ (State.setRegN_within _ _ _) rfl
    exact h3

theorem ptpDelay_within (d : Nat) (p : Nat) (seq : Nat) (received : Int) (corr : Int) (s : State) :
    Within [.regs, .eth] s (ptpDelay d p seq received corr s) := by
  unfold ptpDelay
  extract_lets +onlyGivenNames -merge -underBinder e0
  split
  · refine Within.ite ?_ ?_
    · extract_lets +onlyGivenNames -merge -underBinder m1
      extract_lets +onlyGivenNames -merge -underBinder x2
      refine Within.comp ?_ (ptpShow_within _ _ _ _) rfl
      exact (setEngine_within _ _ _ _).sub rfl
    · exact Within.refl _ _
  · exact Within.refl _ _

theorem execPtpDelayRespReceive_answers (p : Nat) (dom : Nat) (seq : Nat) (received : Int) (corr : Int) (s : State) :
    Answers (execPtpDelayRespReceive p dom seq received corr s) (Within [.regs, .eth] s) := by
  unfold execPtpDelayRespReceive
  refine Answers.awake ?_
  refine Answers.next ?_
  split
  · refine Within.ite ?_ ?_
    · exact (ptpDelay_within _ _ _ _ _ _).sub rfl
    · exact Within.refl _ _
  · exact Within.refl _ _

theorem ptpJudge_within (s : State) :
    Within [.regs, .q, .eth] s (ptpJudge s) := by
  unfold ptpJudge
  extract_lets +onlyGivenNames -merge -underBinder now0
  extract_lets +onlyGivenNames -merge -underBinder lost1
  extract_lets +onlyGivenNames -merge -underBinder t2
  refine Within.step (t := t2) ?_ fun h3 => ?_
  · unfold t2
    refine Within.trans ?_ (Within.when (fun v4 => ?_) _)
    · exact Within.refl _ _
    · exact (State.raise_within _ _).sub rfl
  clear_value t2
  extract_lets +onlyGivenNames -merge -underBinder pick5
  extract_lets +onlyGivenNames -merge -underBinder pref6
  extract_lets +onlyGivenNames -merge -underBinder t7
  refine Within.step (t := t7) ?_ fun h8 => ?_
  · unfold t7
    split
    · split
      · refine Within.comp ?_ (ptpSelect_within _ _ _) rfl
        exact h3
      · refine Within.comp ?_ (ptpSelect_within _ _ _) rfl
        exact h3
      · exact h3
    · split
      · refine Within.ite ?_ ?_
        · exact h3
        · refine Within.comp ?_ (ptpSwitch_within _ _ _) rfl
          exact h3
      · refine Within.comp ?_ (ptpSwitch_within _ _ _) rfl
        exact h3
      · exact h3
  clear_value t7
  extract_lets +onlyGivenNames -merge -underBinder j10 t9
  refine Within.step (t := t9) ?_ fun h11 => ?_
  · unfold t9
    refine Within.comp ?_ (setEth_within _ _) rfl
    exact h8
  clear_value t9
  extract_lets +onlyGivenNames -merge -underBinder dlock12
  extract_lets +onlyGivenNames -merge -underBinder lock13
  refine Within.comp ?_ (utcShow_within _) rfl
  refine Within.comp ?_ (State.putB_within _ _ _) rfl
  refine Within.comp ?_ (State.putB_within _ _ _) rfl
  refine Within.comp ?_ (State.put_within _ _ _) rfl
  exact h11

theorem portLoss_within (p : Nat) (s : State) :
    Within [.regs, .q, .eth] s (portLoss p s) := by
  unfold portLoss
  refine Within.comp ?_ (ptpJudge_within _) rfl
  refine Within.comp ?_ (setEngine_within _ _ _ _) rfl
  refine Within.comp ?_ (setEngine_within _ _ _ _) rfl
  exact (portFlush_within _ _).sub rfl

theorem ptpQuiet_within (d : Nat) (p : Nat) (s : State) :
    Within [.regs, .q, .eth] s (ptpQuiet d p s) := by
  unfold ptpQuiet
  extract_lets +onlyGivenNames -merge -underBinder j1 t0
  refine Within.step (t := t0) ?_ fun h2 => ?_
  · unfold t0
    refine Within.comp ?_ (ptpJudge_within _) rfl
    exact (setEngine_within _ _ _ _).sub rfl
  clear_value t0
  refine Within.ite ?_ ?_
  · refine Within.comp ?_ (State.raise_within _ _) rfl
    exact h2
  · exact h2

theorem ptpMeasure_within (d : Nat) (p : Nat) (stamp : Int) (time : Int) (s : State) :
    Within [.regs, .q, .eth] s (ptpMeasure d p stamp time s) := by
  unfold ptpMeasure
  extract_lets +onlyGivenNames -merge -underBinder j1 e0
  extract_lets +onlyGivenNames -merge -underBinder target2
  extract_lets +onlyGivenNames -merge -underBinder x3
  refine Within.ite ?_ ?_
  · refine Within.comp ?_ (ptpJudge_within _) rfl
    refine Within.comp ?_ (ptpShow_within _ _ _ _) rfl
    exact (setEngine_within _ _ _ _).sub rfl
  · extract_lets +onlyGivenNames -merge -underBinder bad4
    refine Within.ite ?_ ?_
    · extract_lets +onlyGivenNames -merge -underBinder used5
      extract_lets +onlyGivenNames -merge -underBinder t6
      refine Within.step (t := t6) ?_ fun h7 => ?_
      · unfold t6
        exact (setEngine_within _ _ _ _).sub rfl
      clear_value t6
      extract_lets +onlyGivenNames -merge -underBinder j9 t8
      refine Within.step (t := t8) ?_ fun h10 => ?_
      · unfold t8
        refine Within.ite ?_ ?_
        · refine Within.comp ?_ (State.raise_within _ _) rfl
          refine Within.comp ?_ (setEth_within _ _) rfl
          exact h7
        · exact h7
      clear_value t8
      refine Within.comp ?_ (ptpJudge_within _) rfl
      refine Within.comp ?_ (ptpShow_within _ _ _ _) rfl
      exact h10
    · extract_lets +onlyGivenNames -merge -underBinder good11
      refine Within.comp ?_ (ptpJudge_within _) rfl
      refine Within.comp ?_ (ptpShow_within _ _ _ _) rfl
      exact (setEngine_within _ _ _ _).sub rfl

theorem execRevertTimeout_answers (s : State) :
    Answers (execRevertTimeout s) (Within [.regs, .q, .eth] s) := by
  unfold execRevertTimeout
  refine Answers.awake ?_
  extract_lets +onlyGivenNames -merge -underBinder pref0
  refine Answers.next ?_
  split
  · refine Within.ite ?_ ?_
    · refine Within.comp ?_ (utcShow_within _) rfl
      exact (ptpSwitch_within _ _ _).sub rfl
    · exact Within.refl _ _
  · exact Within.refl _ _

theorem portEnable_within (w : Word) (s : State) :
    Within [.regs, .q, .eth, .out] s (portEnable w s) := by
  unfold portEnable
  extract_lets +onlyGivenNames -merge -underBinder new0
  extract_lets +onlyGivenNames -merge -underBinder old1
  refine Within.ite ?_ ?_
  · exact Within.refl _ _
  · extract_lets +onlyGivenNames -merge -underBinder t2
    refine Within.step (t := t2) ?_ fun h3 => ?_
    · unfold t2
      exact (State.put_within _ _ _).sub rfl
    clear_value t2
    extract_lets +onlyGivenNames -merge -underBinder t4
    refine Within.step (t := t4) ?_ fun h5 => ?_
    · unfold t4
      refine Within.trans ?_ (Within.upTo (fun v6 v7 => ?_) _)
      · exact h3
      · refine Within.ite ?_ ?_
        · exact (portLoss_within _ _).sub rfl
        · exact Within.refl _ _
    clear_value t4
    refine Within.trans ?_ (Within.upTo (fun v8 v9 => ?_) _)
    · exact h5
    · refine Within.ite ?_ ?_
      · exact (portJoin_within _ _).sub rfl
      · exact Within.refl _ _

theorem execPortEnableWrite_answers (p : Path) (w : Word) (s : State) :
    Answers (execPortEnableWrite p w s) (Within [.regs, .q, .eth, .out] s) := by
  unfold execPortEnableWrite
  refine Answers.next ?_
  refine Within.trans ?_ (hostOwn_within (fun a0 => ?_) rfl)
  · exact Within.refl _ _
  · refine Within.trans ?_ (toIsland_within (fun a0 => ?_) rfl)
    · exact Within.refl _ _
    · exact (portEnable_within _ _).sub rfl

theorem ptpAnnounce_within (p : Nat) (dom : Nat) (gm : Nat) (rank : List Nat) (utc : Option Nat) (s : State) :
    Within [.regs, .q, .eth] s (ptpAnnounce p dom gm rank utc s) := by
  unfold ptpAnnounce
  split
  · exact Within.refl _ _
  · extract_lets +onlyGivenNames -merge -underBinder e0
    refine Within.ite ?_ ?_
    · exact Within.refl _ _
    · refine Within.ite ?_ ?_
      · refine Within.ite ?_ ?_
        · exact (State.raise_within _ _).sub rfl
        · exact Within.refl _ _
      · refine Within.ite ?_ ?_
        · refine Within.comp ?_ (utcShow_within _) rfl
          exact (setEngine_within _ _ _ _).sub rfl
        · refine Within.ite ?_ ?_
          · extract_lets +onlyGivenNames -merge -underBinder j2 e1
            refine Within.comp ?_ (ptpJudge_within _) rfl
            refine Within.comp ?_ (setEngine_within _ _ _ _) rfl
            exact (State.lower_within _ _).sub rfl
          · exact Within.refl _ _

theorem execAnnounceTimeout_answers (p : Nat) (dom : Nat) (s : State) :
    Answers (execAnnounceTimeout p dom s) (Within [.regs, .q, .eth] s) := by
  unfold execAnnounceTimeout
  refine Answers.awake ?_
  refine Answers.next ?_
  split
  · refine Within.ite ?_ ?_
    · exact (ptpQuiet_within _ _ _).sub rfl
    · exact Within.refl _ _
  · exact Within.refl _ _

theorem ptpFollowUp_within (p : Nat) (dom : Nat) (seq : Nat) (origin : Int) (corr : Int) (residence : Int) (s : State) :
    Within [.regs, .q, .eth, .out] s (ptpFollowUp p dom seq origin corr residence s) := by
  unfold ptpFollowUp
  refine Within.ite ?_ ?_
  · exact Within.refl _ _
  · extract_lets +onlyGivenNames -merge -underBinder t0
    refine Within.step (t := t0) ?_ fun h1 => ?_
    · unfold t0
      exact (ptpForward_within _ _ _ _ _ _).sub rfl
    clear_value t0
    split
    · exact h1
    · split
      · refine Within.ite ?_ ?_
        · refine Within.comp ?_ (ptpMeasure_within _ _ _ _ _) rfl
          refine Within.comp ?_ (setEngine_within _ _ _ _) rfl
          exact h1
        · exact h1
      · exact h1

theorem ptpSync_within (p : Nat) (dom : Nat) (seq : Nat) (twoStep : Bool) (origin : Int) (corr : Int) (residence : Int) (s : State) :
    Within [.regs, .q, .eth, .out] s (ptpSync p dom seq twoStep origin corr residence s) := by
  unfold ptpSync
  refine Within.ite ?_ ?_
  · exact Within.refl _ _
  · extract_lets +onlyGivenNames -merge -underBinder t0
    refine Within.step (t := t0) ?_ fun h1 => ?_
    · unfold t0
      exact (ptpForward_within _ _ _ _ _ _).sub rfl
    clear_value t0
    split
    · exact h1
    · extract_lets +onlyGivenNames -merge -underBinder stamp2
      refine Within.ite ?_ ?_
      · exact h1
      · refine Within.ite ?_ ?_
        · refine Within.comp ?_ (setEngine_within _ _ _ _) rfl
          exact h1
        · refine Within.comp ?_ (ptpMeasure_within _ _ _ _ _) rfl
          exact h1

theorem execPtpFollowUpReceive_answers (p : Nat) (dom : Nat) (seq : Nat) (origin : Int) (corr : Int) (residence : Int) (s : State) :
    Answers (execPtpFollowUpReceive p dom seq origin corr residence s) (Within [.regs, .q, .eth, .out] s) := by
  unfold execPtpFollowUpReceive
  refine Answers.awake ?_
  refine Answers.next ?_
  exact (ptpFollowUp_within _ _ _ _ _ _ _).sub rfl

theorem execEthLinkDown_answers (p : Nat) (s : State) :
    Answers (execEthLinkDown p s) (Within [.regs, .q, .eth] s) := by
  unfold execEthLinkDown
  refine Answers.awake ?_
  refine Answers.next ?_
  refine Within.ite ?_ ?_
  · refine Within.comp ?_ (portLoss_within _ _) rfl
    refine Within.comp ?_ (State.raise_within _ _) rfl
    refine Within.comp ?_ (State.put_within _ _ _) rfl
    exact (State.lower_within _ _).sub rfl
  · exact Within.refl _ _

theorem execPtpSyncReceive_answers (p : Nat) (dom : Nat) (seq : Nat) (twoStep : Bool) (origin : Int) (corr : Int) (residence : Int) (dt : Nat) (s : State) :
    Answers (execPtpSyncReceive p dom seq twoStep origin corr residence dt s) (Within [.regs, .q, .eth, .out] s) := by
  unfold execPtpSyncReceive
  refine Answers.awake ?_
  refine Answers.next ?_
  refine Within.comp ?_ (ptpSync_within _ _ _ _ _ _ _ _) rfl
  exact (stAdvance_within _ _).sub rfl

theorem execPtpAnnounceReceive_answers (p : Nat) (dom : Nat) (gm : Nat) (rank : List Nat) (utc : Option Nat) (s : State) :
    Answers (execPtpAnnounceReceive p dom gm rank utc s) (Within [.regs, .q, .eth] s) := by
  unfold execPtpAnnounceReceive
  refine Answers.awake ?_
  refine Answers.next ?_
  exact (ptpAnnounce_within _ _ _ _ _ _).sub rfl

theorem dlmSend_within (a : Nat) (client : Nat) (m : DlmOut) (s : State) :
    Within [.regs, .out] s (dlmSend a client m s) := by
  unfold dlmSend
  refine Within.ite ?_ ?_
  · exact (State.emit_within _ _).sub rfl
  · refine Within.ite ?_ ?_
    · exact Within.refl _ _
    · extract_lets +onlyGivenNames -merge -underBinder t0
      refine Within.step (t := t0) ?_ fun h1 => ?_
      · unfold t0
        refine Within.comp ?_ (State.emit_within _ _) rfl
        exact (State.setRegN_within _ _ _).sub rfl
      clear_value t0
      refine Within.ite ?_ ?_
      · refine Within.comp ?_ (State.raise_within _ _) rfl
        exact h1
      · exact h1

theorem setDlm_within (d : DlmState) (s : State) :
    Within [.dlm] s (setDlm d s) := by
  unfold setDlm
  refine Within.comp ?_ (Within.upd_dlm _ _) rfl
  exact Within.refl _ _

theorem dlmShow_within (s : State) :
    Within [.regs] s (dlmShow s) := by
  unfold dlmShow
  extract_lets +onlyGivenNames -merge -underBinder owner0
  refine Within.comp ?_ (State.put_within _ _ _) rfl
  exact (State.put_within _ _ _).sub rfl

theorem stageDrop_within (s : State) :
    Within [.regs, .dlm] s (stageDrop s) := by
  unfold stageDrop
  split
  · refine Within.comp ?_ (dlmShow_within _) rfl
    refine Within.comp ?_ (State.raise_within _ _) rfl
    exact (setDlm_within _ _).sub rfl
  · exact Within.refl _ _

theorem dlmEnd_within (a : Nat) (s : State) :
    Within [.regs, .dlm] s (dlmEnd a s) := by
  unfold dlmEnd
  extract_lets +onlyGivenNames -merge -underBinder t0
  refine Within.step (t := t0) ?_ fun h1 => ?_
  · unfold t0
    split
    · refine Within.ite ?_ ?_
      · exact (stageDrop_within _).sub rfl
      · exact Within.refl _ _
    · exact Within.refl _ _
  clear_value t0
  refine Within.comp ?_ (dlmShow_within _) rfl
  refine Within.comp ?_ (setDlm_within _ _) rfl
  exact h1

theorem dlmAuthFail_within (a : Nat) (s : State) :
    Within [.regs, .dlm] s (dlmAuthFail a s) := by
  unfold dlmAuthFail
  refine Within.comp ?_ (dlmEnd_within _ _) rfl
  refine Within.comp ?_ (State.raise_within _ _) rfl
  exact (State.bumpReg_within _ _ _).sub rfl

theorem dlmTake_within (r : DlmReq) (s : State) :
    Within [.regs, .dlm] s (dlmTake r s).2 := by
  unfold dlmTake
  split
  · exact Within.refl _ _
  · extract_lets +onlyGivenNames -merge -underBinder c0
    refine Within.ite2 ?_ ?_
    · exact Within.refl _ _
    · refine Within.ite2 ?_ ?_
      · exact (dlmAuthFail_within _ _).sub rfl
      · refine Within.ite2 ?_ ?_
        · refine Within.comp ?_ (State.raise_within _ _) rfl
          exact (State.bumpReg_within _ _ _).sub rfl
        · extract_lets +onlyGivenNames -merge -underBinder t1
          refine Within.step (t := t1) ?_ fun h2 => ?_
          · unfold t1
            exact (State.setRegN_within _ _ _).sub rfl
          clear_value t1
          refine Within.ite ?_ ?_
          · refine Within.comp ?_ (State.raise_within _ _) rfl
            exact h2
          · exact h2

theorem dlmAct_within {ps : List Part} {r : DlmReq} {need : Nat} {f : DlmAssoc → State → DlmRes × State} {s : State}
    (h : ∀ x v, Within ps v (f x v).2) (hc : Part.covers [.regs, .dlm, .out] ps = true) : Within ps s (dlmAct r need f s) := by
  unfold dlmAct
  split
  · rename_i t e
    exact Within.ofEq2 e (Within.sub (qs := [.regs, .dlm, .out]) ((dlmTake_within _ _).sub rfl) hc)
  · rename_i x t e
    have ht : Within ps s t := Within.ofEq2 e (Within.sub (qs := [.regs, .dlm, .out]) ((dlmTake_within _ _).sub rfl) hc)
    have send : ∀ i c z v, Within ps v (dlmSend i c z v) := fun i c z v =>
      Within.sub (qs := [.regs, .dlm, .out]) ((dlmSend_within _ _ _ _).sub rfl) hc
    extract_lets +onlyGivenNames u
    have hu : Within ps s u := ht.trans (Within.sub (qs := [.regs, .dlm, .out]) ((State.bumpReg_within _ _ _).sub rfl) hc)
    refine Within.ite (hu.trans (send _ _ _ _)) ?_
    exact (hu.trans (h x u)).trans (send _ _ _ _)

theorem execDlmsBillingEndCommand_answers (r : DlmReq) (value : Bool) (s : State) :
    Answers (execDlmsBillingEndCommand r value s) (Within [.regs, .bil, .dlm, .out] s) := by
  unfold execDlmsBillingEndCommand
  refine Answers.next ?_
  refine Within.trans ?_ (dlmAct_within (fun a0 a1 => ?_) rfl)
  · exact Within.refl _ _
  · refine Within.ite ?_ ?_
    · refine Within.comp ?_ (Within.upd_bil _ _) rfl
      exact Within.refl _ _
    · exact Within.refl _ _

theorem setAssoc_within (x : DlmAssoc) (s : State) :
    Within [.dlm] s (setAssoc x s) := by
  unfold setAssoc
  exact (setDlm_within _ _).sub rfl

theorem stageKeep_within (x : DlmAssoc) (t : Tariff) (s : State) :
    Within [.regs, .dlm] s (stageKeep x t s) := by
  unfold stageKeep
  refine Within.comp ?_ (dlmShow_within _) rfl
  exact (setDlm_within _ _).sub rfl

theorem stageWrite_within (f : Tariff → Option Tariff) (x : DlmAssoc) (s : State) :
    Within [.regs, .dlm] s (stageWrite f x s).2 := by
  unfold stageWrite
  split
  · exact Within.refl _ _
  · split
    · exact (stageKeep_within _ _ _).sub rfl
    · exact Within.refl _ _

theorem execStagingTimeout_answers (s : State) :
    Answers (execStagingTimeout s) (Within [.regs, .dlm] s) := by
  unfold execStagingTimeout
  refine Answers.next ?_
  exact (stageDrop_within _).sub rfl

theorem execSpecialDayDelete_answers (r : DlmReq) (i : Nat) (s : State) :
    Answers (execSpecialDayDelete r i s) (Within [.regs, .dlm, .out] s) := by
  unfold execSpecialDayDelete
  refine Answers.next ?_
  refine Within.trans ?_ (dlmAct_within (fun a0 a1 => ?_) rfl)
  · exact Within.refl _ _
  · exact (stageWrite_within _ _ _).sub rfl

theorem execSpecialDayInsert_answers (r : DlmReq) (i : Nat) (year : Nat) (month : Nat) (day : Nat) (profile : Nat) (s : State) :
    Answers (execSpecialDayInsert r i year month day profile s) (Within [.regs, .dlm, .out] s) := by
  unfold execSpecialDayInsert
  refine Answers.next ?_
  refine Within.trans ?_ (dlmAct_within (fun a0 a1 => ?_) rfl)
  · exact Within.refl _ _
  · exact (stageWrite_within _ _ _).sub rfl

theorem dlmOpen_within (a : Nat) (wPort : Nat) (theirs : List Byte) (s : State) :
    Within [.regs, .dlm, .out, .free] s (dlmOpen a wPort theirs s) := by
  unfold dlmOpen
  split
  · refine Within.comp ?_ (State.emit_within _ _) rfl
    exact (State.bumpReg_within _ _ _).sub rfl
  · extract_lets +onlyGivenNames -merge -underBinder x0
    refine Within.step (t := x0.2) ?_ fun h1 => ?_
    · unfold x0
      refine Within.ite2 ?_ ?_
      · exact Within.refl _ _
      · exact (freshBytes_within _ _).sub rfl
    clear_value x0
    extract_lets +onlyGivenNames -merge -underBinder t2
    refine Within.step (t := t2) ?_ fun h3 => ?_
    · unfold t2
      refine Within.comp ?_ (State.bumpReg_within _ _ _) rfl
      exact h1
    clear_value t2
    refine Within.comp ?_ (dlmSend_within _ _ _ _) rfl
    refine Within.comp ?_ (dlmShow_within _) rfl
    refine Within.comp ?_ (setDlm_within _ _) rfl
    exact h3

theorem execDlmsCreditTransfer_answers (r : DlmReq) (amount : Int) (number : Nat) (s : State) :
    Answers (execDlmsCreditTransfer r amount number s) (Within [.regs, .bil, .logs, .dlm, .out] s) := by
  unfold execDlmsCreditTransfer
  refine Answers.next ?_
  refine Within.trans ?_ (dlmAct_within (fun a0 a1 => ?_) rfl)
  · exact Within.refl _ _
  · extract_lets +onlyGivenNames -merge -underBinder x0
    refine Within.step (t := x0.2) ?_ fun h1 => ?_
    · unfold x0
      exact (creditTransfer_within _ _ _ _).sub rfl
    clear_value x0
    exact h1

theorem execDlmsAarq_answers (assoc : Nat) (wPort : Nat) (challenge : List Byte) (s : State) :
    Answers (execDlmsAarq assoc wPort challenge s) (Within [.regs, .dlm, .out, .free] s) := by
  unfold execDlmsAarq
  refine Answers.next ?_
  exact (dlmOpen_within _ _ _ _).sub rfl

theorem execHlsTimeout_answers (assoc : Nat) (s : State) :
    Answers (execHlsTimeout assoc s) (Within [.regs, .dlm] s) := by
  unfold execHlsTimeout
  refine Answers.next ?_
  refine Within.ite ?_ ?_
  · exact (dlmEnd_within _ _).sub rfl
  · exact Within.refl _ _

theorem dlmPowerFail_within (s : State) :
    Within [.regs, .dlm] s (dlmPowerFail s) := by
  unfold dlmPowerFail
  extract_lets +onlyGivenNames -merge -underBinder t0
  refine Within.step (t := t0) ?_ fun h1 => ?_
  · unfold t0
    exact (stageDrop_within _).sub rfl
  clear_value t0
  refine Within.comp ?_ (dlmShow_within _) rfl
  refine Within.comp ?_ (setDlm_within _ _) rfl
  exact h1

theorem execAssociationRelease_answers (assoc : Nat) (s : State) :
    Answers (execAssociationRelease assoc s) (Within [.regs, .dlm] s) := by
  unfold execAssociationRelease
  refine Answers.next ?_
  exact (dlmEnd_within _ _).sub rfl

theorem execAssociationIdleTimeout_answers (assoc : Nat) (s : State) :
    Answers (execAssociationIdleTimeout assoc s) (Within [.regs, .dlm] s) := by
  unfold execAssociationIdleTimeout
  refine Answers.next ?_
  exact (dlmEnd_within _ _).sub rfl

theorem execRemoteReconnect_answers (r : DlmReq) (s : State) :
    Answers (execRemoteReconnect r s) (Within [.regs, .btm, .logs, .saf, .dlm, .out] s) := by
  unfold execRemoteReconnect
  refine Answers.next ?_
  refine Within.trans ?_ (dlmAct_within (fun a0 a1 => ?_) rfl)
  · exact Within.refl _ _
  · refine Within.comp ?_ (discUpdate_within _ _ _) rfl
    exact (discRequest_within _ _ _).sub rfl

theorem dlmClock_within (deltaMs : Int) (target : Nat) (x : DlmAssoc) (s : State) :
    Within [.regs, .btm, .logs] s (dlmClock deltaMs target x s).2 := by
  unfold dlmClock
  extract_lets +onlyGivenNames -merge -underBinder d0
  extract_lets +onlyGivenNames -merge -underBinder below1
  exact (clockAdjust_within _ _ _ _ _).sub rfl

theorem dlmPass3_within (r : DlmReq) (sig : List Byte) (s : State) :
    Within [.regs, .grt, .dlm, .out] s (dlmPass3 r sig s) := by
  unfold dlmPass3
  split
  · rename_i y0 e1
    refine Within.step (t := y0) (Within.ofEq2 e1 ?_) fun h2 => ?_
    · exact (dlmTake_within _ _).sub rfl
    exact h2
  · rename_i y3 e4
    refine Within.step (t := y3) (Within.ofEq2 e4 ?_) fun h5 => ?_
    · exact (dlmTake_within _ _).sub rfl
    extract_lets +onlyGivenNames -merge -underBinder t6
    refine Within.step (t := t6) ?_ fun h7 => ?_
    · unfold t6
      refine Within.comp ?_ (State.bumpReg_within _ _ _) rfl
      exact h5
    clear_value t6
    refine Within.ite ?_ ?_
    · refine Within.comp ?_ (dlmSend_within _ _ _ _) rfl
      exact h7
    · refine Within.ite ?_ ?_
      · refine Within.comp ?_ (dlmSend_within _ _ _ _) rfl
        refine Within.comp ?_ (cryptoTake_within _ _) rfl
        refine Within.comp ?_ (setAssoc_within _ _) rfl
        exact h7
      · refine Within.comp ?_ (dlmAuthFail_within _ _) rfl
        exact h7

theorem execDlmsClockSet_answers (r : DlmReq) (newMs : Nat) (frac : Nat) (s : State) :
    Answers (execDlmsClockSet r newMs frac s) (Within [.regs, .btm, .logs, .dlm, .out] s) := by
  unfold execDlmsClockSet
  refine Answers.next ?_
  refine Within.trans ?_ (dlmAct_within (fun a0 a1 => ?_) rfl)
  · exact Within.refl _ _
  · exact (dlmClock_within _ _ _ _).sub rfl

theorem execDlmsShiftTime_answers (r : DlmReq) (seconds : Int) (s : State) :
    Answers (execDlmsShiftTime r seconds s) (Within [.regs, .btm, .logs, .dlm, .out] s) := by
  unfold execDlmsShiftTime
  refine Answers.next ?_
  refine Within.trans ?_ (dlmAct_within (fun a0 a1 => ?_) rfl)
  · exact Within.refl _ _
  · exact (dlmClock_within _ _ _ _).sub rfl

theorem stageSubmit_within (act : Nat) (x : DlmAssoc) (s : State) :
    Within [.regs, .bil, .logs, .dlm] s (stageSubmit act x s).2 := by
  unfold stageSubmit
  split
  · exact Within.refl _ _
  · refine Within.ite2 ?_ ?_
    · exact Within.refl _ _
    · extract_lets +onlyGivenNames -merge -underBinder r0
      refine Within.step (t := r0.2) ?_ fun h1 => ?_
      · unfold r0
        exact (submitTable_within _ _ _).sub rfl
      clear_value r0
      refine Within.ite2 ?_ ?_
      · refine Within.comp ?_ (dlmShow_within _) rfl
        refine Within.comp ?_ (setDlm_within _ _) rfl
        exact h1
      · exact h1

theorem dlmGet_within (r : DlmReq) (ask : DlmAsk) (s : State) :
    Within [.regs, .dlm, .out, .free] s (dlmGet r ask s) := by
  unfold dlmGet
  split
  · rename_i y0 e1
    refine Within.step (t := y0) (Within.ofEq2 e1 ?_) fun h2 => ?_
    · exact (dlmTake_within _ _).sub rfl
    exact h2
  · rename_i y3 e4
    refine Within.step (t := y3) (Within.ofEq2 e4 ?_) fun h5 => ?_
    · exact (dlmTake_within _ _).sub rfl
    refine Within.ite ?_ ?_
    · refine Within.comp ?_ (dlmSend_within _ _ _ _) rfl
      exact h5
    · split
      · split
        · refine Within.comp ?_ (dlmSend_within _ _ _ _) rfl
          exact h5
        · refine Within.comp ?_ (dlmSend_within _ _ _ _) rfl
          exact h5
      · extract_lets +onlyGivenNames -merge -underBinder t6
        refine Within.step (t := t6) ?_ fun h7 => ?_
        · unfold t6
          refine Within.comp ?_ (State.bumpReg_within _ _ _) rfl
          exact h5
        clear_value t6
        refine Within.ite ?_ ?_
        · refine Within.comp ?_ (dlmSend_within _ _ _ _) rfl
          exact h7
        · extract_lets +onlyGivenNames -merge -underBinder v8
          extract_lets +onlyGivenNames -merge -underBinder __src10
          refine Within.step (t := __src10) ?_ fun h11 => ?_
          · unfold __src10
            refine Within.comp ?_ (setAssoc_within _ _) rfl
            exact h7
          clear_value __src10
          extract_lets +onlyGivenNames -merge -underBinder u12
          refine Within.step (t := u12) ?_ fun h13 => ?_
          · unfold u12
            refine Within.comp ?_ (Within.upd_free _ _) rfl
            exact h11
          clear_value u12
          refine Within.comp ?_ (dlmSend_within _ _ _ _) rfl
          exact h13

theorem execDlmsGet_answers (r : DlmReq) (ask : DlmAsk) (s : State) :
    Answers (execDlmsGet r ask s) (Within [.regs, .dlm, .out, .free] s) := by
  unfold execDlmsGet
  refine Answers.next ?_
  exact (dlmGet_within _ _ _).sub rfl

theorem execActivatePassiveCalendar_answers (r : DlmReq) (s : State) :
    Answers (execActivatePassiveCalendar r s) (Within [.regs, .bil, .logs, .dlm, .out] s) := by
  unfold execActivatePassiveCalendar
  refine Answers.next ?_
  refine Within.trans ?_ (dlmAct_within (fun a0 a1 => ?_) rfl)
  · exact Within.refl _ _
  · exact (stageSubmit_within _ _ _).sub rfl

theorem execHlsPass3_answers (r : DlmReq) (sig : List Byte) (s : State) :
    Answers (execHlsPass3 r sig s) (Within [.regs, .grt, .dlm, .out] s) := by
  unfold execHlsPass3
  refine Answers.next ?_
  exact (dlmPass3_within _ _ _).sub rfl

theorem calWrite_within (p : CalPart) (x : DlmAssoc) (s : State) :
    Within [.regs, .bil, .logs, .dlm] s (calWrite p x s).2 := by
  unfold calWrite
  split
  · exact (stageSubmit_within _ _ _).sub rfl
  · exact (stageWrite_within _ _ _).sub rfl

theorem execDlmsCalendarWrite_answers (r : DlmReq) (part : CalPart) (s : State) :
    Answers (execDlmsCalendarWrite r part s) (Within [.regs, .bil, .logs, .dlm, .out] s) := by
  unfold execDlmsCalendarWrite
  refine Answers.next ?_
  refine Within.trans ?_ (dlmAct_within (fun a0 a1 => ?_) rfl)
  · exact Within.refl _ _
  · exact (calWrite_within _ _ _).sub rfl

theorem execRemoteDisconnect_answers (r : DlmReq) (s : State) :
    Answers (execRemoteDisconnect r s) (Within [.regs, .tok, .bil, .btm, .logs, .saf, .x04, .x06, .q, .grpSeq, .ses, .dlm, .amb, .eth, .x11, .out] s) := by
  unfold execRemoteDisconnect
  refine Answers.next ?_
  refine Within.trans ?_ (dlmAct_within (fun a0 a1 => ?_) rfl)
  · exact Within.refl _ _
  · refine Within.comp ?_ (sesDisconnect_within _) rfl
    refine Within.comp ?_ (discUpdate_within _ _ _) rfl
    exact (discRequest_within _ _ _).sub rfl

theorem syncSend_within (s : State) :
    Within [.out, .free] s (syncSend s) := by
  unfold syncSend
  extract_lets +onlyGivenNames -merge -underBinder deliver0
  extract_lets +onlyGivenNames -merge -underBinder mask1
  extract_lets +onlyGivenNames -merge -underBinder x2
  refine Within.step (t := x2.2) ?_ fun h3 => ?_
  · unfold x2
    exact (State.fresh_within _).sub rfl
  clear_value x2
  extract_lets +onlyGivenNames -merge -underBinder f4
  refine Within.comp ?_ (State.emit_within _ _) rfl
  refine Within.comp ?_ (State.emit_within _ _) rfl
  exact h3

theorem setNode_within (n : Nat) (c : ConvNode) (s : State) :
    Within [.regs, .ses] s (setNode n c s) := by
  unfold setNode
  refine Within.comp ?_ (State.putBit_within _ _ _ _) rfl
  exact (setSes_within _ _).sub rfl

theorem convCapab_within (n : Nat) (f : List Byte) (s : State) :
    Within [.regs, .ses] s (convCapab n f s) := by
  unfold convCapab
  extract_lets +onlyGivenNames -merge -underBinder cap0
  exact (setNode_within _ _ _).sub rfl

theorem execConverterSyncSend_answers (s : State) :
    Answers (execConverterSyncSend s) (Within [.out, .free] s) := by
  unfold execConverterSyncSend
  refine Answers.awake ?_
  refine Answers.next ?_
  exact (syncSend_within _).sub rfl

theorem dutyStep_within (s : State) :
    Within [.x06, .ses] s (dutyStep s) := by
  unfold dutyStep
  extract_lets +onlyGivenNames -merge -underBinder want0
  refine Within.ite ?_ ?_
  · exact (dutySend_within _ _).sub rfl
  · refine Within.ite ?_ ?_
    · extract_lets +onlyGivenNames -merge -underBinder t1
      refine Within.step (t := t1) ?_ fun h2 => ?_
      · unfold t1
        exact (dutySend_within _ _).sub rfl
      clear_value t1
      refine Within.comp ?_ (setSes_within _ _) rfl
      exact h2
    · exact Within.refl _ _

theorem cablePass_within (s : State) :
    Within [.regs, .ses] s (cablePass s) := by
  unfold cablePass
  refine Within.ite ?_ ?_
  · refine Within.comp ?_ (setSes_within _ _) rfl
    exact (sesEnter_within _ _).sub rfl
  · exact Within.refl _ _

theorem execConverterCapabReceive_answers (port : Nat) (n : Nat) (f : List Byte) (s : State) :
    Answers (execConverterCapabReceive port n f s) (Within [.regs, .ses] s) := by
  unfold execConverterCapabReceive
  refine Answers.awake ?_
  refine Answers.next ?_
  refine Within.ite ?_ ?_
  · exact (convCapab_within _ _ _).sub rfl
  · exact Within.refl _ _

theorem setptNode_within (ramp : Nat) (vmin : Nat) (n : Nat) (s : State) :
    Within [.ses, .out, .free] s (setptNode ramp vmin n s) := by
  unfold setptNode
  extract_lets +onlyGivenNames -merge -underBinder c0
  extract_lets +onlyGivenNames -merge -underBinder mode1
  refine Within.ite ?_ ?_
  · exact (convMode_within _ _ _).sub rfl
  · extract_lets +onlyGivenNames -merge -underBinder x2
    refine Within.step (t := x2.2) ?_ fun h3 => ?_
    · unfold x2
      exact (State.fresh_within _).sub rfl
    clear_value x2
    extract_lets +onlyGivenNames -merge -underBinder y4
    refine Within.step (t := y4.2) ?_ fun h5 => ?_
    · unfold y4
      refine Within.comp ?_ (State.fresh_within _) rfl
      exact h3
    clear_value y4
    extract_lets +onlyGivenNames -merge -underBinder t6
    refine Within.step (t := t6) ?_ fun h7 => ?_
    · unfold t6
      exact h5
    clear_value t6
    extract_lets +onlyGivenNames -merge -underBinder iset8
    extract_lets +onlyGivenNames -merge -underBinder alive9
    extract_lets +onlyGivenNames -merge -underBinder port10
    refine Within.comp ?_ (State.emit_within _ _) rfl
    refine Within.comp ?_ (setSes_within _ _) rfl
    exact h7

theorem setpointStep_within (s : State) :
    Within [.regs, .tok, .ses] s (setpointStep s) := by
  unfold setpointStep
  extract_lets +onlyGivenNames -merge -underBinder lesser0
  extract_lets +onlyGivenNames -merge -underBinder x1
  extract_lets +onlyGivenNames -merge -underBinder target2
  extract_lets +onlyGivenNames -merge -underBinder goal3
  extract_lets +onlyGivenNames -merge -underBinder up4
  extract_lets +onlyGivenNames -merge -underBinder fall5
  extract_lets +onlyGivenNames -merge -underBinder down6
  extract_lets +onlyGivenNames -merge -underBinder t7
  refine Within.step (t := t7) ?_ fun h8 => ?_
  · unfold t7
    refine Within.ite ?_ ?_
    · refine Within.ite ?_ ?_
      · exact (setSes_within _ _).sub rfl
      · refine Within.ite ?_ ?_
        · exact Within.refl _ _
        · exact (tokRequest_within _ _ _ _).sub rfl
    · exact (setSes_within _ _).sub rfl
  clear_value t7
  extract_lets +onlyGivenNames -merge -underBinder j10 t9
  refine Within.step (t := t9) ?_ fun h11 => ?_
  · unfold t9
    refine Within.ite ?_ ?_
    · refine Within.comp ?_ (setSes_within _ _) rfl
      refine Within.comp ?_ (tokGive_within _ _ _) rfl
      exact h8
    · exact h8
  clear_value t9
  refine Within.comp ?_ (isetShow_within _) rfl
  refine Within.comp ?_ (tok1Show_within _) rfl
  exact h11

theorem setptSend_within (s : State) :
    Within [.ses, .out, .free] s (setptSend s) := by
  unfold setptSend
  extract_lets +onlyGivenNames -merge -underBinder x0
  refine Within.step (t := x0.2) ?_ fun h1 => ?_
  · unfold x0
    exact (State.fresh_within _).sub rfl
  clear_value x0
  extract_lets +onlyGivenNames -merge -underBinder y2
  refine Within.step (t := y2.2) ?_ fun h3 => ?_
  · unfold y2
    refine Within.comp ?_ (State.fresh_within _) rfl
    exact h1
  clear_value y2
  refine Within.trans ?_ (Within.upTo (fun v4 v5 => ?_) _)
  · exact h3
  · refine Within.ite ?_ ?_
    · exact (setptNode_within _ _ _ _).sub rfl
    · exact Within.refl _ _

theorem execConverterSetptSend_answers (s : State) :
    Answers (execConverterSetptSend s) (Within [.ses, .out, .free] s) := by
  unfold execConverterSetptSend
  refine Answers.awake ?_
  refine Answers.next ?_
  exact (setptSend_within _).sub rfl

theorem execSetpointUpdate_answers (s : State) :
    Answers (execSetpointUpdate s) (Within [.regs, .tok, .ses] s) := by
  unfold execSetpointUpdate
  refine Answers.next ?_
  refine Within.ite ?_ ?_
  · exact (setpointStep_within _).sub rfl
  · exact Within.refl _ _

theorem sesInstant_within (s : State) :
    Within [.regs, .tok, .bil, .btm, .x04, .q, .grpSeq, .ses, .amb, .eth, .x11, .out] s (sesInstant s) := by
  unfold sesInstant
  extract_lets +onlyGivenNames -merge -underBinder v0
  refine Within.ite ?_ ?_
  · exact Within.refl _ _
  · refine Within.ite ?_ ?_
    · extract_lets +onlyGivenNames -merge -underBinder test1
      extract_lets +onlyGivenNames -merge -underBinder n2
      extract_lets +onlyGivenNames -merge -underBinder j4 t3
      refine Within.step (t := t3) ?_ fun h5 => ?_
      · unfold t3
        exact (setSes_within _ _).sub rfl
      clear_value t3
      refine Within.ite ?_ ?_
      · exact h5
      · refine Within.ite ?_ ?_
        · refine Within.comp ?_ (setSes_within _ _) rfl
          exact h5
        · refine Within.comp ?_ (cablePass_within _) rfl
          exact h5
    · refine Within.ite ?_ ?_
      · extract_lets +onlyGivenNames -merge -underBinder drained6
        extract_lets +onlyGivenNames -merge -underBinder close7
        extract_lets +onlyGivenNames -merge -underBinder n8
        exact (setSes_within _ _).sub rfl
      · refine Within.ite ?_ ?_
        · exact (sesOpenSend_within _).sub rfl
        · exact Within.refl _ _

theorem cableBegin_within (s : State) :
    Within [.regs, .tok, .bil, .btm, .x04, .x06, .q, .grpSeq, .ses, .amb, .eth, .x11, .out] s (cableBegin s) := by
  unfold cableBegin
  extract_lets +onlyGivenNames -merge -underBinder conv0
  extract_lets +onlyGivenNames -merge -underBinder j2 t1
  refine Within.step (t := t1) ?_ fun h3 => ?_
  · unfold t1
    refine Within.comp ?_ (siteAsk_within _) rfl
    refine Within.comp ?_ (setSes_within _ _) rfl
    exact (sesEnter_within _ _).sub rfl
  clear_value t1
  refine Within.ite ?_ ?_
  · refine Within.comp ?_ (sesClose_within _) rfl
    exact h3
  · refine Within.comp ?_ (sesStop_within _ _) rfl
    exact h3

theorem convLose_within (n : Nat) (s : State) :
    Within [.regs, .tok, .bil, .btm, .x04, .x06, .q, .grpSeq, .ses, .amb, .eth, .x11, .out] s (convLose n s) := by
  unfold convLose
  extract_lets +onlyGivenNames -merge -underBinder c0
  refine Within.ite ?_ ?_
  · extract_lets +onlyGivenNames -merge -underBinder t1
    refine Within.step (t := t1) ?_ fun h2 => ?_
    · unfold t1
      exact (setNode_within _ _ _).sub rfl
    clear_value t1
    extract_lets +onlyGivenNames -merge -underBinder t3
    refine Within.step (t := t3) ?_ fun h4 => ?_
    · unfold t3
      refine Within.comp ?_ (State.raise_within _ _) rfl
      refine Within.comp ?_ (State.bumpReg_within _ _ _) rfl
      exact h2
    clear_value t3
    refine Within.ite ?_ ?_
    · refine Within.comp ?_ (sesStop_within _ _) rfl
      exact h4
    · exact h4
  · exact Within.refl _ _

theorem execPrechargeTimeout_answers (s : State) :
    Answers (execPrechargeTimeout s) (Within [.regs, .tok, .bil, .btm, .x04, .x06, .q, .grpSeq, .ses, .amb, .eth, .x11, .out] s) := by
  unfold execPrechargeTimeout
  refine Answers.next ?_
  refine Within.ite ?_ ?_
  · exact (sesStop_within _ _).sub rfl
  · exact Within.refl _ _

theorem cableCycle_within (judged : Bool) (s : State) :
    Within [.regs, .tok, .bil, .btm, .x04, .x06, .q, .grpSeq, .ses, .amb, .eth, .x11, .out] s (cableCycle judged s) := by
  unfold cableCycle
  refine Within.ite ?_ ?_
  · exact Within.refl _ _
  · refine Within.ite ?_ ?_
    · exact (setSes_within _ _).sub rfl
    · refine Within.ite ?_ ?_
      · refine Within.ite ?_ ?_
        · exact (sesStop_within _ _).sub rfl
        · exact (cablePass_within _).sub rfl
      · exact Within.refl _ _

theorem execCableCheckTimeout_answers (s : State) :
    Answers (execCableCheckTimeout s) (Within [.regs, .tok, .bil, .btm, .x04, .x06, .q, .grpSeq, .ses, .amb, .eth, .x11, .out] s) := by
  unfold execCableCheckTimeout
  refine Answers.next ?_
  refine Within.ite ?_ ?_
  · exact (sesStop_within _ _).sub rfl
  · exact Within.refl _ _

theorem convStatus_within (n : Nat) (f : List Byte) (s : State) :
    Within [.regs, .tok, .bil, .btm, .x04, .x06, .q, .grpSeq, .ses, .amb, .eth, .x11, .out] s (convStatus n f s) := by
  unfold convStatus
  extract_lets +onlyGivenNames -merge -underBinder c0
  extract_lets +onlyGivenNames -merge -underBinder alive1
  extract_lets +onlyGivenNames -merge -underBinder step2
  extract_lets +onlyGivenNames -merge -underBinder right3
  extract_lets +onlyGivenNames -merge -underBinder s4
  refine Within.step (t := s4) ?_ fun h5 => ?_
  · unfold s4
    refine Within.ite ?_ ?_
    · exact (State.bump_within _ _ _).sub rfl
    · exact Within.refl _ _
  clear_value s4
  extract_lets +onlyGivenNames -merge -underBinder s6
  refine Within.step (t := s6) ?_ fun h7 => ?_
  · unfold s6
    refine Within.comp ?_ (State.put_within _ _ _) rfl
    refine Within.comp ?_ (State.put_within _ _ _) rfl
    exact h5
  clear_value s6
  extract_lets +onlyGivenNames -merge -underBinder c8
  extract_lets +onlyGivenNames -merge -underBinder t9
  refine Within.step (t := t9) ?_ fun h10 => ?_
  · unfold t9
    refine Within.comp ?_ (setNode_within _ _ _) rfl
    exact h7
  clear_value t9
  refine Within.ite ?_ ?_
  · refine Within.comp ?_ (setNode_within _ _ _) rfl
    exact h10
  · refine Within.comp ?_ (convLose_within _ _) rfl
    exact h10

theorem execConverterStatusReceive_answers (port : Nat) (n : Nat) (f : List Byte) (s : State) :
    Answers (execConverterStatusReceive port n f s) (Within [.regs, .tok, .bil, .btm, .x04, .x06, .q, .grpSeq, .ses, .amb, .eth, .x11, .out] s) := by
  unfold execConverterStatusReceive
  refine Answers.awake ?_
  refine Answers.next ?_
  refine Within.ite ?_ ?_
  · exact (convStatus_within _ _ _).sub rfl
  · exact Within.refl _ _

theorem execConverterStatusTimeout_answers (n : Nat) (s : State) :
    Answers (execConverterStatusTimeout n s) (Within [.regs, .tok, .bil, .btm, .x04, .x06, .q, .grpSeq, .ses, .amb, .eth, .x11, .out] s) := by
  unfold execConverterStatusTimeout
  refine Answers.next ?_
  refine Within.ite ?_ ?_
  · exact (convLose_within _ _).sub rfl
  · exact Within.refl _ _

theorem limitStep_within (s : State) :
    Within [.regs, .tok, .x04, .x06, .q, .grpSeq, .ses, .amb, .eth, .x11] s (limitStep s) := by
  unfold limitStep
  extract_lets +onlyGivenNames -merge -underBinder j1 t0
  refine Within.step (t := t0) ?_ fun h2 => ?_
  · unfold t0
    exact (setSes_within _ _).sub rfl
  clear_value t0
  extract_lets +onlyGivenNames -merge -underBinder t3
  refine Within.step (t := t3) ?_ fun h4 => ?_
  · unfold t3
    refine Within.ite ?_ ?_
    · refine Within.comp ?_ (State.setRegN_within _ _ _) rfl
      exact h2
    · exact h2
  clear_value t3
  extract_lets +onlyGivenNames -merge -underBinder t5
  refine Within.step (t := t5) ?_ fun h6 => ?_
  · unfold t5
    refine Within.comp ?_ (sesCloseTry_within _) rfl
    refine Within.comp ?_ (authResume_within _) rfl
    exact h4
  clear_value t5
  refine Within.ite ?_ ?_
  · extract_lets +onlyGivenNames -merge -underBinder i7
    extract_lets +onlyGivenNames -merge -underBinder j9 t8
    refine Within.step (t := t8) ?_ fun h10 => ?_
    · unfold t8
      refine Within.comp ?_ (State.setRegN_within _ _ _) rfl
      refine Within.comp ?_ (setSes_within _ _) rfl
      exact h6
    clear_value t8
    refine Within.ite ?_ ?_
    · refine Within.comp ?_ (sesBasicClose_within _) rfl
      refine Within.comp ?_ (dutyStep_within _) rfl
      exact h10
    · exact h10
  · exact h6

theorem execLimitUpdate_answers (s : State) :
    Answers (execLimitUpdate s) (Within [.regs, .tok, .x04, .x06, .q, .grpSeq, .ses, .amb, .eth, .x11] s) := by
  unfold execLimitUpdate
  refine Answers.next ?_
  exact (limitStep_within _).sub rfl

theorem shnCode_within (ch : Nat) (code : Nat) (s : State) :
    Within [.regs] s (shnCode ch code s) := by
  unfold shnCode
  refine Within.comp ?_ (State.putBit_within _ _ _ _) rfl
  exact (State.put_within _ _ _).sub rfl

theorem shnState_within (ch : Nat) (st : Nat) (s : State) :
    Within [.regs] s (shnState ch st s) := by
  unfold shnState
  refine Within.comp ?_ (State.putB_within _ _ _) rfl
  refine Within.comp ?_ (State.putBit_within _ _ _ _) rfl
  exact (State.put_within _ _ _).sub rfl

theorem shnDisarm_within (ch : Nat) (s : State) :
    Within [.regs] s (shnDisarm ch s) := by
  unfold shnDisarm
  refine Within.comp ?_ (State.putBit_within _ _ _ _) rfl
  exact (State.lower_within _ _).sub rfl

theorem shnLoad_within (ch : Nat) (s : State) :
    Within [.regs] s (shnLoad ch s) := by
  unfold shnLoad
  extract_lets +onlyGivenNames -merge -underBinder t0
  refine Within.step (t := t0) ?_ fun h1 => ?_
  · unfold t0
    exact (shnDisarm_within _ _).sub rfl
  clear_value t0
  extract_lets +onlyGivenNames -merge -underBinder t2
  refine Within.step (t := t2) ?_ fun h3 => ?_
  · unfold t2
    refine Within.trans ?_ (Within.upTo (fun v4 v5 => ?_) _)
    · exact h1
    · exact (State.setReg_within _ _ _).sub rfl
  clear_value t2
  extract_lets +onlyGivenNames -merge -underBinder t6
  refine Within.step (t := t6) ?_ fun h7 => ?_
  · unfold t6
    refine Within.comp ?_ (State.put_within _ _ _) rfl
    refine Within.comp ?_ (State.put_within _ _ _) rfl
    refine Within.comp ?_ (shnState_within _ _ _) rfl
    exact h3
  clear_value t6
  extract_lets +onlyGivenNames -merge -underBinder d8
  extract_lets +onlyGivenNames -merge -underBinder code9
  refine Within.ite ?_ ?_
  · refine Within.comp ?_ (shnCode_within _ _ _) rfl
    refine Within.comp ?_ (shnState_within _ _ _) rfl
    exact h7
  · refine Within.ite ?_ ?_
    · refine Within.comp ?_ (State.setRegN_within _ _ _) rfl
      exact h7
    · exact h7

theorem shnShadow_within (ch : Nat) (w : Nat) (v : Word) (s : State) :
    Within [.regs] s (shnShadow ch w v s) := by
  unfold shnShadow
  refine Within.ite ?_ ?_
  · exact Within.refl _ _
  · refine Within.ite ?_ ?_
    · exact (shnCode_within _ _ _).sub rfl
    · refine Within.ite ?_ ?_
      · extract_lets +onlyGivenNames -merge -underBinder t0
        refine Within.step (t := t0) ?_ fun h1 => ?_
        · unfold t0
          exact (State.setReg_within _ _ _).sub rfl
        clear_value t0
        refine Within.ite ?_ ?_
        · extract_lets +onlyGivenNames -merge -underBinder t2
          refine Within.step (t := t2) ?_ fun h3 => ?_
          · unfold t2
            refine Within.comp ?_ (State.putBit_within _ _ _ _) rfl
            exact h1
          clear_value t2
          refine Within.ite ?_ ?_
          · refine Within.comp ?_ (shnLoad_within _ _) rfl
            exact h3
          · exact h3
        · exact h1
      · exact (State.setReg_within _ _ _).sub rfl

theorem shnComplete_within (ch : Nat) (s : State) :
    Within [.regs] s (shnComplete ch s) := by
  unfold shnComplete
  extract_lets +onlyGivenNames -merge -underBinder t0
  refine Within.step (t := t0) ?_ fun h1 => ?_
  · unfold t0
    exact (State.putBit_within _ _ _ _).sub rfl
  clear_value t0
  refine Within.ite ?_ ?_
  · refine Within.comp ?_ (shnLoad_within _ _) rfl
    exact h1
  · refine Within.comp ?_ (shnState_within _ _ _) rfl
    exact h1

theorem shnStop_within (ch : Nat) (code : Nat) (s : State) :
    Within [.regs] s (shnStop ch code s) := by
  unfold shnStop
  extract_lets +onlyGivenNames -merge -underBinder t0
  refine Within.step (t := t0) ?_ fun h1 => ?_
  · unfold t0
    refine Within.ite ?_ ?_
    · exact (State.putBit_within _ _ _ _).sub rfl
    · exact Within.refl _ _
  clear_value t0
  refine Within.comp ?_ (shnCode_within _ _ _) rfl
  refine Within.comp ?_ (shnState_within _ _ _) rfl
  refine Within.comp ?_ (shnDisarm_within _ _) rfl
  exact h1

theorem execDescriptorComplete_answers (ch : Nat) (s : State) :
    Answers (execDescriptorComplete ch s) (Within [.regs] s) := by
  unfold execDescriptorComplete
  refine Answers.next ?_
  refine Within.ite ?_ ?_
  · exact (shnComplete_within _ _).sub rfl
  · exact Within.refl _ _

theorem execShadowArm_answers (p : Path) (ch : Nat) (cfg : Word) (s : State) :
    Answers (execShadowArm p ch cfg s) (Within [.regs, .out] s) := by
  unfold execShadowArm
  refine Answers.next ?_
  refine Within.ite ?_ ?_
  · refine Within.trans ?_ (hostOwn_within (fun a0 => ?_) rfl)
    · exact Within.refl _ _
    · exact (shnShadow_within _ _ _ _).sub rfl
  · exact Within.refl _ _

theorem shnControl_within (v : Word) (s : State) :
    Within [.regs] s (shnControl v s) := by
  unfold shnControl
  refine Within.ite ?_ ?_
  · exact (shnStop_within _ _ _).sub rfl
  · exact Within.refl _ _

theorem shnPowerFail_within (s : State) :
    Within [.regs] s (shnPowerFail s) := by
  unfold shnPowerFail
  refine Within.trans ?_ (Within.upTo (fun v0 v1 => ?_) _)
  · exact Within.refl _ _
  · refine Within.ite ?_ ?_
    · exact Within.refl _ _
    · exact (shnStop_within _ _ _).sub rfl

theorem execShunterChannelStop_answers (p : Path) (v : Word) (s : State) :
    Answers (execShunterChannelStop p v s) (Within [.regs, .out] s) := by
  unfold execShunterChannelStop
  refine Answers.next ?_
  refine Within.trans ?_ (hostOwn_within (fun a0 => ?_) rfl)
  · exact Within.refl _ _
  · exact (shnControl_within _ _).sub rfl

theorem setPow_within (p : PowState) (s : State) :
    Within [.pow] s (setPow p s) := by
  unfold setPow
  refine Within.comp ?_ (Within.upd_pow _ _) rfl
  exact Within.refl _ _

theorem outageBegin_within (lost : Nat) (s : State) :
    Within [.btm] s (outageBegin lost s) := by
  unfold outageBegin
  refine Within.comp ?_ (Within.upd_btm _ _) rfl
  exact Within.refl _ _

theorem vsysShow_within (mv : Nat) (s : State) :
    Within [.regs] s (vsysShow mv s) := by
  unfold vsysShow
  extract_lets +onlyGivenNames -merge -underBinder v0
  extract_lets +onlyGivenNames -merge -underBinder low1
  refine Within.comp ?_ (tokVlow_within _) rfl
  refine Within.comp ?_ (State.put_within _ _ _) rfl
  exact (State.put_within _ _ _).sub rfl

theorem testsAbandon_within (s : State) :
    Within [.regs, .saf] s (testsAbandon s) := by
  unfold testsAbandon
  refine Within.comp ?_ (setRcm_within _ _) rfl
  refine Within.comp ?_ (State.lower_within _ _) rfl
  exact (State.lower_within _ _).sub rfl

theorem ptsAbandon_within (s : State) :
    Within [.regs, .pts] s (ptsAbandon s) := by
  unfold ptsAbandon
  refine Within.trans ?_ (Within.upTo (fun v0 v1 => ?_) _)
  · refine Within.ite ?_ ?_
    · exact (trialStop_within _).sub rfl
    · exact Within.refl _ _
  · refine Within.ite ?_ ?_
    · exact (setEng_within _ _ _).sub rfl
    · exact Within.refl _ _

theorem sesPowerFail_within (s : State) :
    Within [.regs, .tok, .bil, .btm, .x04, .q, .grpSeq, .ses, .amb, .eth, .x11, .out] s (sesPowerFail s) := by
  unfold sesPowerFail
  refine Within.ite ?_ ?_
  · extract_lets +onlyGivenNames -merge -underBinder t0
    refine Within.step (t := t0) ?_ fun h1 => ?_
    · unfold t0
      refine Within.comp ?_ (tokGive_within _ _ _) rfl
      refine Within.comp ?_ (Within.upd_x04 _ _) rfl
      exact Within.refl _ _
    clear_value t0
    refine Within.comp ?_ (sesFinish_within _) rfl
    refine Within.comp ?_ (setSes_within _ _) rfl
    refine Within.comp ?_ (State.lower_within _ _) rfl
    exact h1
  · exact Within.refl _ _

theorem pfAssert_within (s : State) :
    Within [.regs, .tok, .pts, .bil, .btm, .saf, .x03, .x19, .x04, .q, .grpSeq, .ses, .dlm, .lsw, .lcd, .pow, .amb, .eth, .x11, .out] s (pfAssert s) := by
  unfold pfAssert
  extract_lets +onlyGivenNames -merge -underBinder j1 t0
  refine Within.step (t := t0) ?_ fun h2 => ?_
  · unfold t0
    refine Within.comp ?_ (causeSet_within _ _) rfl
    refine Within.comp ?_ (State.raise_within _ _) rfl
    refine Within.comp ?_ (tokPowerFail_within _) rfl
    exact (setPow_within _ _).sub rfl
  clear_value t0
  refine Within.comp ?_ (shnPowerFail_within _) rfl
  refine Within.comp ?_ (testsAbandon_within _) rfl
  refine Within.comp ?_ (ptsAbandon_within _) rfl
  refine Within.comp ?_ (lcdDown_within _) rfl
  refine Within.comp ?_ (lsShed_within _) rfl
  refine Within.comp ?_ (dlmPowerFail_within _) rfl
  refine Within.comp ?_ (sesPowerFail_within _) rfl
  exact h2

theorem takeAll_within (s : State) :
    Within [.regs, .params, .x00, .x01, .parNext, .bil, .logs] s (takeAll s) := by
  unfold takeAll
  refine Within.trans ?_ (Within.upTo (fun v0 v1 => ?_) _)
  · exact Within.refl _ _
  · exact (takeRecord_within _).sub rfl

theorem intakeStop_within (late : Nat) (s : State) :
    Within [.regs, .params, .x00, .x01, .parNext, .bil, .logs] s (intakeStop late s) := by
  unfold intakeStop
  extract_lets +onlyGivenNames -merge -underBinder t0
  refine Within.step (t := t0) ?_ fun h1 => ?_
  · unfold t0
    exact (takeAll_within _).sub rfl
  clear_value t0
  extract_lets +onlyGivenNames -merge -underBinder j3 t2
  refine Within.step (t := t2) ?_ fun h4 => ?_
  · unfold t2
    refine Within.comp ?_ (Within.upd_bil _ _) rfl
    exact h1
  clear_value t2
  extract_lets +onlyGivenNames -merge -underBinder t5
  refine Within.step (t := t5) ?_ fun h6 => ?_
  · unfold t5
    refine Within.ite ?_ ?_
    · exact h4
    · refine Within.comp ?_ (State.raise_within _ _) rfl
      exact h4
  clear_value t5
  refine Within.ite ?_ ?_
  · refine Within.comp ?_ (shnStop_within _ _ _) rfl
    exact h6
  · exact h6

theorem saveRun_within (late : Nat) (dur : Nat) (s : State) :
    Within [.regs, .params, .x00, .x01, .parNext, .bil, .btm, .logs, .pow] s (saveRun late dur s) := by
  unfold saveRun
  extract_lets +onlyGivenNames -merge -underBinder t0
  refine Within.step (t := t0) ?_ fun h1 => ?_
  · unfold t0
    refine Within.comp ?_ (commitEvery_within _ _ _) rfl
    refine Within.comp ?_ (confirm_within _) rfl
    exact (intakeStop_within _ _).sub rfl
  clear_value t0
  extract_lets +onlyGivenNames -merge -underBinder t2
  refine Within.step (t := t2) ?_ fun h3 => ?_
  · unfold t2
    refine Within.comp ?_ (logWrite_within _ _ _ _) rfl
    refine Within.comp ?_ (outageBegin_within _ _) rfl
    exact h1
  clear_value t2
  extract_lets +onlyGivenNames -merge -underBinder t4
  refine Within.step (t := t4) ?_ fun h5 => ?_
  · unfold t4
    refine Within.comp ?_ (State.put_within _ _ _) rfl
    refine Within.comp ?_ (State.lower_within _ _) rfl
    exact h3
  clear_value t4
  refine Within.comp ?_ (setPow_within _ _) rfl
  exact h5

theorem powerSave_within (late : Nat) (save : Option Nat) (s : State) :
    Within [.regs, .params, .tok, .pts, .x00, .x01, .parNext, .bil, .btm, .logs, .saf, .x03, .x19, .x04, .q, .grpSeq, .ses, .dlm, .lsw, .lcd, .pow, .amb, .eth, .x11, .out] s (powerSave late save s) := by
  unfold powerSave
  extract_lets +onlyGivenNames -merge -underBinder t0
  refine Within.step (t := t0) ?_ fun h1 => ?_
  · unfold t0
    refine Within.ite ?_ ?_
    · exact Within.refl _ _
    · exact (pfAssert_within _).sub rfl
  clear_value t0
  split
  · refine Within.ite ?_ ?_
    · refine Within.comp ?_ (saveRun_within _ _ _) rfl
      exact h1
    · exact h1
  · exact h1

theorem execPowerFailWarning_answers (mv : Nat) (late : Nat) (save : Option Nat) (s : State) :
    Answers (execPowerFailWarning mv late save s) (Within [.regs, .params, .tok, .pts, .x00, .x01, .parNext, .bil, .btm, .logs, .saf, .x03, .x19, .x04, .q, .grpSeq, .ses, .dlm, .lsw, .lcd, .pow, .amb, .eth, .x11, .out] s) := by
  unfold execPowerFailWarning
  refine Answers.next ?_
  refine Within.ite ?_ ?_
  · exact Within.refl _ _
  · extract_lets +onlyGivenNames -merge -underBinder t0
    refine Within.step (t := t0) ?_ fun h1 => ?_
    · unfold t0
      refine Within.comp ?_ (State.bump_within _ _ _) rfl
      refine Within.comp ?_ (State.raise_within _ _) rfl
      refine Within.comp ?_ (State.raise_within _ _) rfl
      exact (vsysShow_within _ _).sub rfl
    clear_value t0
    refine Within.ite ?_ ?_
    · refine Within.comp ?_ (powerSave_within _ _ _) rfl
      exact h1
    · exact h1

theorem convStart_within (c : Nat) (s : State) :
    Within [.regs] s (convStart c s) := by
  unfold convStart
  refine Within.ite ?_ ?_
  · exact (State.put_within _ _ _).sub rfl
  · refine Within.ite ?_ ?_
    · exact (setConv_within _ _ _ _).sub rfl
    · exact (setConv_within _ _ _ _).sub rfl

theorem siteStart_within (s : State) :
    Within [.regs] s (siteStart s) := by
  unfold siteStart
  refine Within.comp ?_ (State.setRegN_within _ _ _) rfl
  refine Within.comp ?_ (State.setRegN_within _ _ _) rfl
  exact (State.put_within _ _ _).sub rfl

theorem ameneStart_within (s : State) :
    Within [.regs] s (ameneStart s) := by
  unfold ameneStart
  extract_lets +onlyGivenNames -merge -underBinder role0
  extract_lets +onlyGivenNames -merge -underBinder t1
  refine Within.step (t := t1) ?_ fun h2 => ?_
  · unfold t1
    refine Within.comp ?_ (State.putB_within _ _ _) rfl
    refine Within.comp ?_ (State.putB_within _ _ _) rfl
    exact (State.put_within _ _ _).sub rfl
  clear_value t1
  refine Within.ite ?_ ?_
  · refine Within.comp ?_ (nodesShow_within _) rfl
    exact h2
  · exact h2

theorem bootTests_within (bad : Nat) (s : State) :
    Within [.regs, .pts] s (bootTests bad s) := by
  unfold bootTests
  refine Within.trans ?_ (Within.upTo (fun v0 v1 => ?_) _)
  · exact Within.refl _ _
  · refine Within.comp ?_ (State.put_within _ _ _) rfl
    exact (modRail_within _ _ _).sub rfl

theorem roleStart_within (r : Nat) (s : State) :
    Within [.regs] s (roleStart r s) := by
  unfold roleStart
  extract_lets +onlyGivenNames -merge -underBinder c0
  refine Within.comp ?_ (State.putB_within _ _ _) rfl
  exact (State.put_within _ _ _).sub rfl

theorem tripArm_within (s : State) :
    Within [.regs] s (tripArm s) := by
  unfold tripArm
  refine Within.ite ?_ ?_
  · extract_lets +onlyGivenNames -merge -underBinder v0
    refine Within.trans ?_ (Within.upTo (fun v1 v2 => ?_) _)
    · exact Within.refl _ _
    · refine Within.comp ?_ (State.put_within _ _ _) rfl
      exact (State.put_within _ _ _).sub rfl
  · exact Within.refl _ _

theorem vehicleStart_within (s : State) :
    Within [.regs, .x19] s (vehicleStart s) := by
  unfold vehicleStart
  extract_lets +onlyGivenNames -merge -underBinder t0
  refine Within.step (t := t0) ?_ fun h1 => ?_
  · unfold t0
    exact (State.raise_within _ _).sub rfl
  clear_value t0
  extract_lets +onlyGivenNames -merge -underBinder t2
  refine Within.step (t := t2) ?_ fun h3 => ?_
  · unfold t2
    refine Within.ite ?_ ?_
    · refine Within.comp ?_ (State.setRegN_within _ _ _) rfl
      refine Within.comp ?_ (State.put_within _ _ _) rfl
      exact h1
    · exact h1
  clear_value t2
  refine Within.comp ?_ (Within.upd_x19 _ _) rfl
  exact h3

theorem frontStart_within (s : State) :
    Within [.regs, .afe] s (frontStart s) := by
  unfold frontStart
  split
  · exact (State.raise_within _ _).sub rfl
  · extract_lets +onlyGivenNames -merge -underBinder t0
    refine Within.step (t := t0) ?_ fun h1 => ?_
    · unfold t0
      refine Within.trans ?_ (Within.upTo (fun v2 v3 => ?_) _)
      · refine Within.trans ?_ (Within.upTo (fun v4 v5 => ?_) _)
        · exact Within.refl _ _
        · exact (convStart_within _ _).sub rfl
      · exact (roleStart_within _ _).sub rfl
    clear_value t0
    extract_lets +onlyGivenNames -merge -underBinder t6
    refine Within.step (t := t6) ?_ fun h7 => ?_
    · unfold t6
      refine Within.trans ?_ (Within.upTo (fun v8 v9 => ?_) _)
      · exact h1
      · exact (setTrim_within _ _ _).sub rfl
    clear_value t6
    extract_lets +onlyGivenNames -merge -underBinder j11 t10
    refine Within.step (t := t10) ?_ fun h12 => ?_
    · unfold t10
      refine Within.comp ?_ (Within.upd_afe _ _) rfl
      exact h7
    clear_value t10
    extract_lets +onlyGivenNames -merge -underBinder t13
    refine Within.step (t := t13) ?_ fun h14 => ?_
    · unfold t13
      refine Within.comp ?_ (showLanes_within _) rfl
      refine Within.comp ?_ (showSpares_within _) rfl
      refine Within.comp ?_ (State.raise_within _ _) rfl
      refine Within.comp ?_ (State.raise_within _ _) rfl
      refine Within.comp ?_ (State.raise_within _ _) rfl
      exact h12
    clear_value t13
    refine Within.ite ?_ ?_
    · exact h14
    · refine Within.comp ?_ (showStep_within _) rfl
      extract_lets +onlyGivenNames -merge -underBinder __src15
      refine Within.step (t := __src15) ?_ fun h16 => ?_
      · unfold __src15
        refine Within.comp ?_ (State.raise_within _ _) rfl
        exact h14
      clear_value __src15
      refine Within.comp ?_ (Within.upd_afe _ _) rfl
      exact h16

theorem serviceStart_within (s : State) :
    Within [.regs, .tok, .lsw, .lcd, .nfc] s (serviceStart s) := by
  unfold serviceStart
  extract_lets +onlyGivenNames -merge -underBinder j1 t0
  refine Within.step (t := t0) ?_ fun h2 => ?_
  · unfold t0
    refine Within.comp ?_ (nfcStart_within _) rfl
    exact (setLcd_within _ _).sub rfl
  clear_value t0
  refine Within.comp ?_ (lsFollowAll_within _) rfl
  refine Within.comp ?_ (State.putB_within _ _ _) rfl
  exact h2

theorem islandStart_within (i : Island) (bad : Nat) (s : State) :
    Within [.regs, .tok, .afe, .pts, .x19, .lsw, .lcd, .nfc] s (islandStart i bad s) := by
  unfold islandStart
  split
  · refine Within.comp ?_ (frontStart_within _) rfl
    exact (bootTests_within _ _).sub rfl
  · exact (vehicleStart_within _).sub rfl
  · exact (siteStart_within _).sub rfl
  · exact (ameneStart_within _).sub rfl
  · exact (serviceStart_within _).sub rfl
  · exact Within.refl _ _

theorem clearQueues_within (a b : Nat) (s : State) : Within [.q] s (clearQueues a b s) :=
  ⟨fun i => ⟨i.regs, i.params, i.cells, i.xings, i.tok, i.logs, by simpa [clearQueues] using i.queues⟩,
    fun p hp => by cases p <;> first | rfl | exact absurd (by simp) hp⟩

theorem resetRegs_within (i : Island) (s : State) : Within [.regs] s (resetRegs i s) := by
  refine .of_regs rfl (fun h => ?_)
  simp only [resetRegs]
  have keep : ∀ e ∈ s.regs, e.2 ≠ RegMap.resetOf e.1 := ((Sparse.wf_iff _ _).1 h).2
  refine Sparse.wf_filterMap _ _ (fun e c hc => ?_) (fun e he c hc => ?_) h
  · split at hc
    · split at hc
      · cases hc
      · cases hc; rfl
    · cases hc; rfl
  · split at hc
    · split at hc
      · cases hc
      · rename_i hw; cases hc; exact hw
    · cases hc; exact keep e he

theorem nth_replicate {α : Type} (n i : Nat) (x : α) : nth (List.replicate n x) i x = x := by
  simp only [nth, List.getD_eq_getElem?_getD, List.getElem?_replicate]
  split <;> rfl

theorem XingsOk.empty : XingsOk (List.replicate 21 ⟨[], []⟩) :=
  ⟨List.length_replicate, fun x _ => by rw [nth_replicate]; exact Nat.zero_le _, fun x _ h => by rw [nth_replicate] at h; exact absurd rfl h⟩

theorem islandReset_within (i : Island) (s : State) :
    Within Part.wide9 s (islandReset i s) := by
  unfold islandReset
  extract_lets +onlyGivenNames t
  have ht : Within Part.wide9 s t := (resetRegs_within _ _).sub rfl
  clear_value t
  cases i <;> dsimp -zeta only
  case core =>
    extract_lets +onlyGivenNames -merge -underBinder t1 j1 j2 t2
    have h1 : Within Part.wide9 t t1 :=
      ⟨fun i => ⟨i.regs, i.params, i.cells, XingsOk.empty, ⟨Nat.zero_le _, List.Pairwise.nil⟩, i.logs, i.queues⟩,
        fun p hp => by cases p <;> first | rfl | exact absurd (by simp) hp⟩
    have h2 : Within Part.wide9 t1 t2 :=
      ⟨fun i => ⟨i.regs, i.params, i.cells, i.xings, i.tok, i.logs, i.queues⟩,
        fun p hp => by cases p <;> first | rfl | exact absurd (by simp) hp⟩
    refine Within.comp ?_ (fabErase_within _ _ _) rfl
    refine Within.trans (ht.trans (h1.trans h2)) ?_
    exact Within.comp (Within.sub (clearQueues_within 28 32 t2) rfl) (setMem_within _ _ rfl) rfl
  case vehicleLink =>
    refine Within.comp (ht.trans ?_) (clearQueues_within _ _ _) rfl
    exact ⟨fun i => ⟨i.regs, i.params, i.cells, i.xings, i.tok, i.logs, i.queues⟩,
        fun p hp => by cases p <;> first | rfl | exact absurd (by simp) hp⟩
  case siteLink =>
    refine Within.comp (ht.trans ?_) (clearQueues_within _ _ _) rfl
    exact ⟨fun i => ⟨i.regs, i.params, i.cells, i.xings, i.tok, i.logs, i.queues⟩,
        fun p hp => by cases p <;> first | rfl | exact absurd (by simp) hp⟩
  case amene =>
    refine Within.comp (ht.trans ?_) (clearQueues_within _ _ _) rfl
    exact ⟨fun i => ⟨i.regs, i.params, i.cells, i.xings, i.tok, i.logs, i.queues⟩,
        fun p hp => by cases p <;> first | rfl | exact absurd (by simp) hp⟩
  case battery => exact ht
  all_goals
    refine ht.trans ?_
    exact ⟨fun i => ⟨i.regs, i.params, i.cells, i.xings, i.tok, i.logs, i.queues⟩,
        fun p hp => by cases p <;> first | rfl | exact absurd (by simp) hp⟩

theorem heldShow_within (i : Island) (b : Bool) (s : State) :
    Within [.regs] s (heldShow i b s) := by
  unfold heldShow
  refine Within.comp ?_ (State.put_within _ _ _) rfl
  exact (State.putBit_within _ _ _ _).sub rfl

theorem resetUnsaved_within (code : Nat) (s : State) :
    Within Part.wide8 s (resetUnsaved code s) := by
  unfold resetUnsaved
  extract_lets +onlyGivenNames -merge -underBinder j1 t0
  refine Within.step (t := t0) ?_ fun h2 => ?_
  · unfold t0
    refine Within.comp ?_ (outageBegin_within _ _) rfl
    refine Within.comp ?_ (Within.upd_bil _ _) rfl
    exact Within.refl _ _
  clear_value t0
  refine Within.comp ?_ (setPow_within _ _) rfl
  refine Within.comp ?_ (islandReset_within _ _) rfl
  exact h2

theorem flushIsland_within (i : Island) (s : State) :
    Within [.regs, .xings] s (flushIsland i s) := by
  unfold flushIsland
  refine Within.comp ?_ (xingFlushAll_within _ _) rfl
  exact (State.bump_within _ _ _).sub rfl

theorem clockLost_within (s : State) :
    Within [.regs, .bil, .btm, .logs, .pow] s (clockLost s) := by
  unfold clockLost
  extract_lets +onlyGivenNames -merge -underBinder t0
  refine Within.step (t := t0) ?_ fun h1 => ?_
  · unfold t0
    refine Within.comp ?_ (State.lower_within _ _) rfl
    exact (State.raise_within _ _).sub rfl
  clear_value t0
  extract_lets +onlyGivenNames -merge -underBinder target2
  extract_lets +onlyGivenNames -merge -underBinder d3
  refine Within.ite ?_ ?_
  · refine Within.comp ?_ (setPow_within _ _) rfl
    refine Within.comp ?_ (State.setRegN_within _ _ _) rfl
    exact h1
  · refine Within.ite ?_ ?_
    · refine Within.comp ?_ (Within.upd_btm _ _) rfl
      exact h1
    · refine Within.comp ?_ (logWrite_within _ _ _ _) rfl
      extract_lets +onlyGivenNames -merge -underBinder __src4
      refine Within.step (t := __src4) ?_ fun h5 => ?_
      · unfold __src4
        refine Within.comp ?_ (State.setRegN_within _ _ _) rfl
        exact h1
      clear_value __src4
      refine Within.comp ?_ (Within.upd_bil _ _) rfl
      exact h5

theorem clockSpare_within (i : Island) (ok : Bool) (s : State) :
    Within [.regs, .logs] s (clockSpare i ok s) := by
  unfold clockSpare
  refine Within.ite ?_ ?_
  · extract_lets +onlyGivenNames -merge -underBinder t0
    refine Within.step (t := t0) ?_ fun h1 => ?_
    · unfold t0
      refine Within.comp ?_ (State.raise_within _ _) rfl
      refine Within.comp ?_ (State.putBit_within _ _ _ _) rfl
      refine Within.comp ?_ (State.putBit_within _ _ _ _) rfl
      exact (State.put_within _ _ _).sub rfl
    clear_value t0
    refine Within.comp ?_ (faultNote_within _ _ _ _) rfl
    exact h1
  · refine Within.comp ?_ (faultNote_within _ _ _ _) rfl
    refine Within.comp ?_ (State.put_within _ _ _) rfl
    exact (State.raise_within _ _).sub rfl

theorem holdSignalBox_within (s : State) :
    Within [.regs, .xings, .saf, .x03, .x19, .x04, .x09] s (holdSignalBox s) := by
  unfold holdSignalBox
  extract_lets +onlyGivenNames -merge -underBinder t0
  refine Within.step (t := t0) ?_ fun h1 => ?_
  · unfold t0
    exact (flushIsland_within _ _).sub rfl
  clear_value t0
  refine Within.comp ?_ (heldShow_within _ _ _) rfl
  refine Within.comp ?_ (allOff_within _) rfl
  refine Within.comp ?_ (Within.upd_x03_x19_x04_x09 _ _ _ _ _) rfl
  exact h1

theorem execBatteryIslandRestart_answers (s : State) :
    Answers (execBatteryIslandRestart s) (Within [.regs, .bil, .btm, .logs, .pow] s) := by
  unfold execBatteryIslandRestart
  extract_lets +onlyGivenNames -merge -underBinder t0
  refine Answers.step (t := t0) ?_ fun h1 => ?_
  · unfold t0
    refine Within.ite ?_ ?_
    · refine Within.comp ?_ (heldShow_within _ _ _) rfl
      exact (State.bump_within _ _ _).sub rfl
    · exact Within.refl _ _
  clear_value t0
  extract_lets +onlyGivenNames -merge -underBinder j3 t2
  refine Answers.step (t := t2) ?_ fun h4 => ?_
  · unfold t2
    refine Within.comp ?_ (clockLost_within _) rfl
    refine Within.comp ?_ (Within.upd_btm _ _) rfl
    exact h1
  clear_value t2
  refine Answers.next ?_
  refine Within.ite ?_ ?_
  · refine Within.comp ?_ (logWrite_within _ _ _ _) rfl
    exact h4
  · refine Within.comp ?_ (Within.upd_btm _ _) rfl
    exact h4

theorem sesLost_within (s : State) : Within [.regs, .tok, .bil, .ses] s (sesLost s) := by
  unfold sesLost
  extract_lets +onlyGivenNames t gone
  have ht : Within [.regs, .tok, .bil, .ses] s t := Within.comp ((tokGive_within _ _ _).sub rfl) (tokGive_within _ _ _) rfl
  clear_value t
  refine ht.trans ⟨fun i => ⟨Sparse.wf_filter _ _ i.regs, i.params, i.cells, i.xings, i.tok, i.logs, i.queues⟩,
    fun p hp => by cases p <;> first | rfl | exact absurd (by simp) hp⟩

theorem coresDown_within (s : State) :
    Within [.regs, .tok, .bil, .q, .ses, .dlm, .mail] s (coresDown s) := by
  unfold coresDown
  extract_lets +onlyGivenNames -merge -underBinder t0
  refine Within.step (t := t0) ?_ fun h1 => ?_
  · unfold t0
    refine Within.comp ?_ (sesLost_within _) rfl
    refine Within.comp ?_ (dlmPowerFail_within _) rfl
    exact (State.bump_within _ _ _).sub rfl
  clear_value t0
  refine Within.comp ?_ (clearQueues_within _ _ _) rfl
  refine Within.comp ?_ (Within.upd_mail _ _) rfl
  exact h1

theorem coresReset_within (code : Nat) (s : State) :
    Within [.regs, .tok, .bil, .q, .ses, .dlm, .mail, .pow] s (coresReset code s) := by
  unfold coresReset
  extract_lets +onlyGivenNames -merge -underBinder t0
  refine Within.step (t := t0) ?_ fun h1 => ?_
  · unfold t0
    refine Within.comp ?_ (State.put_within _ _ _) rfl
    exact (State.put_within _ _ _).sub rfl
  clear_value t0
  refine Within.comp ?_ (setPow_within _ _) rfl
  refine Within.comp ?_ (coresDown_within _) rfl
  exact h1

theorem islandBack_within (i : Island) (bad : Nat) (s : State) :
    Within [.regs, .tok, .afe, .pts, .x19, .lsw, .lcd, .nfc, .pow] s (islandBack i bad s) := by
  unfold islandBack
  extract_lets +onlyGivenNames -merge -underBinder t0
  refine Within.step (t := t0) ?_ fun h1 => ?_
  · unfold t0
    refine Within.comp ?_ (heldShow_within _ _ _) rfl
    refine Within.comp ?_ (xingRestore_within _ _) rfl
    exact (State.bump_within _ _ _).sub rfl
  clear_value t0
  refine Within.comp ?_ (islandStart_within _ _ _) rfl
  refine Within.comp ?_ (setPow_within _ _) rfl
  exact h1

theorem execIslandRestartDone_answers (i : Island) (bad : Nat) (s : State) :
    Answers (execIslandRestartDone i bad s) (Within [.regs, .tok, .afe, .pts, .x19, .lsw, .lcd, .nfc, .pow] s) := by
  unfold execIslandRestartDone
  refine Answers.next ?_
  refine Within.ite ?_ ?_
  · exact (islandBack_within _ _ _).sub rfl
  · exact Within.refl _ _

theorem moduleStop_within (code : Nat) (late : Nat) (save : Option Nat) (s : State) :
    Within Part.wide6 s (moduleStop code late save s) := by
  unfold moduleStop
  refine Within.ite ?_ ?_
  · exact Within.refl _ _
  · split
    · extract_lets +onlyGivenNames -merge -underBinder t0
      refine Within.step (t := t0) ?_ fun h1 => ?_
      · unfold t0
        exact (powerSave_within _ _ _).sub rfl
      clear_value t0
      refine Within.comp ?_ (setPow_within _ _) rfl
      refine Within.comp ?_ (islandReset_within _ _) rfl
      exact h1
    · exact (resetUnsaved_within _ _).sub rfl

theorem execModuleFault_answers (i : Island) (cause : Nat) (late : Nat) (save : Option Nat) (s : State) :
    Answers (execModuleFault i cause late save s) (Within Part.wide6 s) := by
  unfold execModuleFault
  refine Answers.next ?_
  refine Within.comp ?_ (moduleStop_within _ _ _ _) rfl
  exact (faultNote_within _ _ _ _).sub rfl

theorem heldNotice_within (i : Island) (s : State) :
    Within [.regs, .tok, .bil, .btm, .logs, .saf, .x04, .x06, .q, .grpSeq, .ses, .amb, .eth, .x11, .out] s (heldNotice i s) := by
  unfold heldNotice
  split
  · exact (sesReport_within _ _).sub rfl
  · exact (State.lower_within _ _).sub rfl
  · exact Within.refl _ _

theorem holdIsland_within (i : Island) (s : State) :
    Within Part.wide7 s (holdIsland i s) := by
  unfold holdIsland
  extract_lets +onlyGivenNames -merge -underBinder t0
  refine Within.step (t := t0) ?_ fun h1 => ?_
  · unfold t0
    refine Within.comp ?_ (islandReset_within _ _) rfl
    refine Within.comp ?_ (tokIslandHeld_within _ _) rfl
    refine Within.comp ?_ (flushIsland_within _ _) rfl
    exact (heldNotice_within _ _).sub rfl
  clear_value t0
  refine Within.comp ?_ (heldShow_within _ _ _) rfl
  refine Within.ite ?_ ?_
  · refine Within.comp ?_ (nfcHeld_within _) rfl
    exact h1
  · exact h1

theorem islandFault_within (i : Island) (cause : Nat) (late : Nat) (save : Option Nat) (s : State) :
    Within Part.wide6 s (islandFault i cause late save s) := by
  unfold islandFault
  refine Within.ite ?_ ?_
  · exact Within.refl _ _
  · split
    · extract_lets +onlyGivenNames -merge -underBinder t0
      refine Within.step (t := t0) ?_ fun h1 => ?_
      · unfold t0
        exact (faultNote_within _ _ _ _).sub rfl
      clear_value t0
      refine Within.ite ?_ ?_
      · exact h1
      · refine Within.comp ?_ (resetUnsaved_within _ _) rfl
        exact h1
    · refine Within.comp ?_ (holdSignalBox_within _) rfl
      exact (faultNote_within _ _ _ _).sub rfl
    · refine Within.comp ?_ (heldShow_within _ _ _) rfl
      exact (faultNote_within _ _ _ _).sub rfl
    · refine Within.ite ?_ ?_
      · refine Within.comp ?_ (holdIsland_within _ _) rfl
        exact (faultNote_within _ _ _ _).sub rfl
      · refine Within.comp ?_ (moduleStop_within _ _ _ _) rfl
        refine Within.comp ?_ (holdIsland_within _ _) rfl
        exact (faultNote_within _ _ _ _).sub rfl
    · refine Within.ite ?_ ?_
      · refine Within.comp ?_ (holdIsland_within _ _) rfl
        exact (faultNote_within _ _ _ _).sub rfl
      · refine Within.ite ?_ ?_
        · extract_lets +onlyGivenNames -merge -underBinder t2
          refine Within.step (t := t2) ?_ fun h3 => ?_
          · unfold t2
            refine Within.comp ?_ (moduleStop_within _ _ _ _) rfl
            refine Within.comp ?_ (holdIsland_within _ _) rfl
            exact (faultNote_within _ _ _ _).sub rfl
          clear_value t2
          refine Within.comp ?_ (setPow_within _ _) rfl
          exact h3
        · extract_lets +onlyGivenNames -merge -underBinder t4
          refine Within.step (t := t4) ?_ fun h5 => ?_
          · unfold t4
            refine Within.comp ?_ (holdIsland_within _ _) rfl
            exact (faultNote_within _ _ _ _).sub rfl
          clear_value t4
          refine Within.ite ?_ ?_
          · exact h5
          · refine Within.comp ?_ (setPow_within _ _) rfl
            exact h5

theorem clockFault_within (i : Island) (spareOk : Bool) (late : Nat) (save : Option Nat) (s : State) :
    Within Part.wide6 s (clockFault i spareOk late save s) := by
  unfold clockFault
  extract_lets +onlyGivenNames -merge -underBinder ok0
  extract_lets +onlyGivenNames -merge -underBinder t1
  refine Within.step (t := t1) ?_ fun h2 => ?_
  · unfold t1
    refine Within.comp ?_ (State.putBit_within _ _ _ _) rfl
    exact (State.raise_within _ _).sub rfl
  clear_value t1
  split
  · exact Within.refl _ _
  · extract_lets +onlyGivenNames -merge -underBinder t3
    refine Within.step (t := t3) ?_ fun h4 => ?_
    · unfold t3
      refine Within.comp ?_ (islandFault_within _ _ _ _ _) rfl
      refine Within.comp ?_ (State.put_within _ _ _) rfl
      exact h2
    clear_value t3
    refine Within.ite ?_ ?_
    · refine Within.comp ?_ (setPow_within _ _) rfl
      exact h4
    · refine Within.comp ?_ (faultNote_within _ _ _ _) rfl
      refine Within.comp ?_ (State.raise_within _ _) rfl
      exact h4
  · refine Within.comp ?_ (clockSpare_within _ _ _) rfl
    refine Within.comp ?_ (islandFault_within _ _ _ _ _) rfl
    exact h2

theorem execIslandFault_answers (i : Island) (cause : Nat) (late : Nat) (save : Option Nat) (s : State) :
    Answers (execIslandFault i cause late save s) (Within Part.wide6 s) := by
  unfold execIslandFault
  refine Answers.next ?_
  exact (islandFault_within _ _ _ _ _).sub rfl

theorem execClockFault_answers (i : Island) (spareOk : Bool) (late : Nat) (save : Option Nat) (s : State) :
    Answers (execClockFault i spareOk late save s) (Within Part.wide6 s) := by
  unfold execClockFault
  refine Answers.next ?_
  exact (clockFault_within _ _ _ _ _).sub rfl

theorem execCrossingLossDetect_answers (x : Nat) (late : Nat) (save : Option Nat) (s : State) :
    Answers (execCrossingLossDetect x late save s) (Within Part.wide6 s) := by
  unfold execCrossingLossDetect
  refine Answers.next ?_
  refine Within.ite ?_ ?_
  · refine Within.trans ?_ (Within.foldl (fun v0 v1 => ?_) _)
    · exact (State.lower_within _ _).sub rfl
    · exact (islandFault_within _ _ _ _ _).sub rfl
  · exact Within.refl _ _

theorem execLockstepFault_answers (s : State) :
    Answers (execLockstepFault s) (Within Part.wide6 s) := by
  unfold execLockstepFault
  refine Answers.next ?_
  exact (islandFault_within _ _ _ _ _).sub rfl

theorem xbStart_within (s : State) :
    Within [.pow] s (xbStart s) := by
  unfold xbStart
  exact (setPow_within _ _).sub rfl

theorem execXbCalibrate_answers (p : Path) (s : State) :
    Answers (execXbCalibrate p s) (Within [.regs, .pow, .out] s) := by
  unfold execXbCalibrate
  refine Answers.next ?_
  refine Within.trans ?_ (hostOwn_within (fun a0 => ?_) rfl)
  · exact Within.refl _ _
  · exact (xbStart_within _).sub rfl

theorem execResetNRelease_answers (s : State) :
    Answers (execResetNRelease s) (Within [.pow] s) := by
  unfold execResetNRelease
  refine Answers.next ?_
  exact (setPow_within _ _).sub rfl

theorem railsShow_within (b : Bool) (s : State) :
    Within [.regs] s (railsShow b s) := by
  unfold railsShow
  refine Within.comp ?_ (State.putB_within _ _ _) rfl
  refine Within.comp ?_ (State.putB_within _ _ _) rfl
  refine Within.comp ?_ (State.putB_within _ _ _) rfl
  exact (State.putB_within _ _ _).sub rfl

theorem execDieCooledRestart_answers (s : State) :
    Answers (execDieCooledRestart s) (Within [.regs, .pow] s) := by
  unfold execDieCooledRestart
  refine Answers.next ?_
  refine Within.comp ?_ (setPow_within _ _) rfl
  exact (State.lower_within _ _).sub rfl

theorem execDieTemperatureCool_answers (s : State) :
    Answers (execDieTemperatureCool s) (Within [.regs, .tok] s) := by
  unfold execDieTemperatureCool
  refine Answers.next ?_
  refine Within.ite ?_ ?_
  · refine Within.comp ?_ (tokBudgets_within _) rfl
    exact (State.lower_within _ _).sub rfl
  · exact Within.refl _ _

theorem crystalMeasure_within (cycles : Nat) (temp : Int) (s : State) :
    Within [.regs] s (crystalMeasure cycles temp s) := by
  unfold crystalMeasure
  extract_lets +onlyGivenNames -merge -underBinder d0
  extract_lets +onlyGivenNames -merge -underBinder off1
  exact (State.setRegI_within _ _ _).sub rfl

theorem execDieTemperatureWarm_answers (s : State) :
    Answers (execDieTemperatureWarm s) (Within [.regs, .tok] s) := by
  unfold execDieTemperatureWarm
  refine Answers.next ?_
  refine Within.comp ?_ (tokBudgets_within _) rfl
  refine Within.comp ?_ (State.raise_within _ _) rfl
  exact (State.raise_within _ _).sub rfl

theorem crystalLost_within (s : State) :
    Within [.regs, .logs, .pow] s (crystalLost s) := by
  unfold crystalLost
  extract_lets +onlyGivenNames -merge -underBinder t0
  refine Within.step (t := t0) ?_ fun h1 => ?_
  · unfold t0
    refine Within.comp ?_ (State.lower_within _ _) rfl
    refine Within.comp ?_ (State.raise_within _ _) rfl
    exact (State.raise_within _ _).sub rfl
  clear_value t0
  refine Within.ite ?_ ?_
  · refine Within.comp ?_ (logWrite_within _ _ _ _) rfl
    exact h1
  · refine Within.comp ?_ (setPow_within _ _) rfl
    exact h1

theorem execBatteryCrystalFault_answers (s : State) :
    Answers (execBatteryCrystalFault s) (Within [.regs] s) := by
  unfold execBatteryCrystalFault
  refine Answers.next ?_
  refine Within.comp ?_ (State.put_within _ _ _) rfl
  refine Within.comp ?_ (State.putBit_within _ _ _ _) rfl
  exact (State.raise_within _ _).sub rfl

theorem warningRelease_within (mv : Nat) (s : State) :
    Within [.regs] s (warningRelease mv s) := by
  unfold warningRelease
  extract_lets +onlyGivenNames -merge -underBinder t0
  refine Within.step (t := t0) ?_ fun h1 => ?_
  · unfold t0
    refine Within.comp ?_ (vsysShow_within _ _) rfl
    exact (State.lower_within _ _).sub rfl
  clear_value t0
  refine Within.ite ?_ ?_
  · exact h1
  · refine Within.comp ?_ (State.lower_within _ _) rfl
    exact h1

theorem crystalBack_within (err : Int) (s : State) :
    Within [.regs, .btm, .logs] s (crystalBack err s) := by
  unfold crystalBack
  extract_lets +onlyGivenNames -merge -underBinder t0
  refine Within.step (t := t0) ?_ fun h1 => ?_
  · unfold t0
    exact (clockSpare_within _ _ _).sub rfl
  clear_value t0
  refine Within.ite ?_ ?_
  · exact h1
  · refine Within.ite ?_ ?_
    · refine Within.comp ?_ (startSlew_within _ _ _) rfl
      exact h1
    · refine Within.comp ?_ (State.raise_within _ _) rfl
      refine Within.comp ?_ (State.setRegI_within _ _ _) rfl
      refine Within.comp ?_ (Within.upd_btm _ _) rfl
      exact h1

theorem batteryCold_within (s : State) :
    Within [.regs, .bil, .btm, .logs, .nfc, .pow] s (batteryCold s) := by
  unfold batteryCold
  extract_lets +onlyGivenNames -merge -underBinder t0
  refine Within.step (t := t0) ?_ fun h1 => ?_
  · unfold t0
    exact (resetRegs_within _ _).sub rfl
  clear_value t0
  extract_lets +onlyGivenNames -merge -underBinder outage2
  extract_lets +onlyGivenNames -merge -underBinder j4 j5 t3
  refine Within.step (t := t3) ?_ fun h6 => ?_
  · unfold t3
    refine Within.comp ?_ (Within.upd_btm_nfc _ _ _) rfl
    exact h1
  clear_value t3
  refine Within.comp ?_ (clockLost_within _) rfl
  refine Within.comp ?_ (setPow_within _ _) rfl
  exact h6

theorem execXbCalibrateDone_answers (cycles : Option Nat) (temp : Int) (s : State) :
    Answers (execXbCalibrateDone cycles temp s) (Within [.regs, .pow] s) := by
  unfold execXbCalibrateDone
  refine Answers.next ?_
  refine Within.ite ?_ ?_
  · extract_lets +onlyGivenNames -merge -underBinder j1 t0
    refine Within.step (t := t0) ?_ fun h2 => ?_
    · unfold t0
      exact (setPow_within _ _).sub rfl
    clear_value t0
    split
    · refine Within.comp ?_ (crystalMeasure_within _ _ _) rfl
      exact h2
    · exact h2
  · exact Within.refl _ _

theorem execBatterySpareReturn_answers (ok : Bool) (err : Int) (s : State) :
    Answers (execBatterySpareReturn ok err s) (Within [.regs, .btm, .logs, .pow] s) := by
  unfold execBatterySpareReturn
  refine Answers.next ?_
  refine Within.ite ?_ ?_
  · refine Within.ite ?_ ?_
    · exact (crystalBack_within _ _).sub rfl
    · exact (crystalLost_within _).sub rfl
  · exact Within.refl _ _

theorem execPowerFailRelease_answers (mv : Nat) (s : State) :
    Answers (execPowerFailRelease mv s) (Within [.regs] s) := by
  unfold execPowerFailRelease
  refine Answers.next ?_
  refine Within.ite ?_ ?_
  · exact (warningRelease_within _ _).sub rfl
  · exact Within.refl _ _

theorem supplyRise_within (mv : Nat) (s : State) :
    Within [.regs, .bil, .btm, .logs, .nfc, .pow] s (supplyRise mv s) := by
  unfold supplyRise
  extract_lets +onlyGivenNames -merge -underBinder cause0
  extract_lets +onlyGivenNames -merge -underBinder t1
  refine Within.step (t := t1) ?_ fun h2 => ?_
  · unfold t1
    refine Within.comp ?_ (State.put_within _ _ _) rfl
    refine Within.ite ?_ ?_
    · exact (batteryCold_within _).sub rfl
    · exact Within.refl _ _
  clear_value t1
  extract_lets +onlyGivenNames -merge -underBinder t3
  refine Within.step (t := t3) ?_ fun h4 => ?_
  · unfold t3
    refine Within.comp ?_ (vsysShow_within _ _) rfl
    refine Within.comp ?_ (State.lower_within _ _) rfl
    refine Within.comp ?_ (railsShow_within _ _) rfl
    exact h2
  clear_value t3
  refine Within.comp ?_ (setPow_within _ _) rfl
  refine Within.comp ?_ (State.putB_within _ _ _) rfl
  exact h4

theorem brownOut_within (ms : Nat) (s : State) :
    Within Part.wide8 s (brownOut ms s) := by
  unfold brownOut
  extract_lets +onlyGivenNames -merge -underBinder failed0
  extract_lets +onlyGivenNames -merge -underBinder cause1
  extract_lets +onlyGivenNames -merge -underBinder t2
  refine Within.step (t := t2) ?_ fun h3 => ?_
  · unfold t2
    refine Within.comp ?_ (State.put_within _ _ _) rfl
    refine Within.comp ?_ (State.bump_within _ _ _) rfl
    exact (State.raise_within _ _).sub rfl
  clear_value t2
  extract_lets +onlyGivenNames -merge -underBinder j5 j6 t4
  refine Within.step (t := t4) ?_ fun h7 => ?_
  · unfold t4
    refine Within.ite ?_ ?_
    · refine Within.comp ?_ (Within.upd_bil _ _) rfl
      unfold j5
      refine Within.comp ?_ (State.raise_within _ _) rfl
      exact h3
    · exact h3
  clear_value t4
  extract_lets +onlyGivenNames -merge -underBinder t8
  refine Within.step (t := t8) ?_ fun h9 => ?_
  · unfold t8
    refine Within.ite ?_ ?_
    · exact h7
    · refine Within.comp ?_ (outageBegin_within _ _) rfl
      exact h7
  clear_value t8
  extract_lets +onlyGivenNames -merge -underBinder t10
  refine Within.step (t := t10) ?_ fun h11 => ?_
  · unfold t10
    refine Within.comp ?_ (islandReset_within _ _) rfl
    refine Within.comp ?_ (State.lower_within _ _) rfl
    refine Within.comp ?_ (railsShow_within _ _) rfl
    exact h9
  clear_value t10
  extract_lets +onlyGivenNames -merge -underBinder t12
  refine Within.step (t := t12) ?_ fun h13 => ?_
  · unfold t12
    refine Within.comp ?_ (State.raise_within _ _) rfl
    refine Within.comp ?_ (State.lower_within _ _) rfl
    refine Within.comp ?_ (State.lower_within _ _) rfl
    exact h11
  clear_value t12
  refine Within.comp ?_ (tagSupply_within _) rfl
  refine Within.comp ?_ (setPow_within _ _) rfl
  exact h13

theorem execVsysRise_answers (mv : Nat) (s : State) :
    Answers (execVsysRise mv s) (Within [.regs, .bil, .btm, .logs, .nfc, .pow] s) := by
  unfold execVsysRise
  refine Answers.next ?_
  refine Within.ite ?_ ?_
  · exact Within.refl _ _
  · exact (supplyRise_within _ _).sub rfl

theorem vbatMeasure_within (mv : Nat) (s : State) :
    Within [.regs, .btm, .nfc, .pow] s (vbatMeasure mv s) := by
  unfold vbatMeasure
  extract_lets +onlyGivenNames -merge -underBinder t0
  refine Within.step (t := t0) ?_ fun h1 => ?_
  · unfold t0
    exact (State.put_within _ _ _).sub rfl
  clear_value t0
  extract_lets +onlyGivenNames -merge -underBinder t2
  refine Within.step (t := t2) ?_ fun h3 => ?_
  · unfold t2
    refine Within.ite ?_ ?_
    · refine Within.comp ?_ (State.raise_within _ _) rfl
      exact h1
    · exact h1
  clear_value t2
  extract_lets +onlyGivenNames -merge -underBinder t4
  refine Within.step (t := t4) ?_ fun h5 => ?_
  · unfold t4
    refine Within.comp ?_ (State.putB_within _ _ _) rfl
    exact h3
  clear_value t4
  extract_lets +onlyGivenNames -merge -underBinder j7 t6
  refine Within.step (t := t6) ?_ fun h8 => ?_
  · unfold t6
    refine Within.ite ?_ ?_
    · refine Within.comp ?_ (Within.upd_btm _ _) rfl
      exact h5
    · exact h5
  clear_value t6
  refine Within.comp ?_ (tagSupply_within _) rfl
  refine Within.ite ?_ ?_
  · refine Within.comp ?_ (setPow_within _ _) rfl
    exact h8
  · exact h8

theorem execBrownOut_answers (ms : Nat) (s : State) :
    Answers (execBrownOut ms s) (Within Part.wide8 s) := by
  unfold execBrownOut
  refine Answers.next ?_
  refine Within.ite ?_ ?_
  · exact (brownOut_within _ _).sub rfl
  · exact Within.refl _ _

theorem execVbatMeasure_answers (mv : Nat) (s : State) :
    Answers (execVbatMeasure mv s) (Within [.regs, .btm, .nfc, .pow] s) := by
  unfold execVbatMeasure
  refine Answers.awake ?_
  refine Answers.next ?_
  exact (vbatMeasure_within _ _).sub rfl

theorem execTamperPoll_answers (cover : Bool) (term : Bool) (s : State) :
    Answers (execTamperPoll cover term s) (Within [.regs, .tok, .bil, .btm, .logs, .saf, .x04, .x06, .q, .grpSeq, .ses, .amb, .eth, .x11, .out] s) := by
  unfold execTamperPoll
  refine Answers.awake ?_
  refine Answers.next ?_
  refine Within.ite ?_ ?_
  · exact Within.refl _ _
  · extract_lets +onlyGivenNames -merge -underBinder t0
    refine Within.step (t := t0) ?_ fun h1 => ?_
    · unfold t0
      refine Within.comp ?_ (tamperPoll_within _ _ _) rfl
      exact (tamperPoll_within _ _ _).sub rfl
    clear_value t0
    refine Within.ite ?_ ?_
    · refine Within.comp ?_ (sesDisconnect_within _) rfl
      refine Within.comp ?_ (discUpdate_within _ _ _) rfl
      exact h1
    · exact h1

theorem saveRestart_within (late : Nat) (dur : Nat) (s : State) :
    Within [.regs, .params, .x00, .x01, .parNext, .bil, .btm, .logs, .pow] s (saveRestart late dur s) := by
  unfold saveRestart
  extract_lets +onlyGivenNames -merge -underBinder t0
  refine Within.step (t := t0) ?_ fun h1 => ?_
  · unfold t0
    refine Within.ite ?_ ?_
    · exact (saveRun_within _ _ _).sub rfl
    · exact Within.refl _ _
  clear_value t0
  refine Within.comp ?_ (setPow_within _ _) rfl
  exact h1

theorem resetSaved_within (code : Nat) (late : Nat) (save : Option Nat) (s : State) :
    Within Part.wide6 s (resetSaved code late save s) := by
  unfold resetSaved
  refine Within.ite ?_ ?_
  · extract_lets +onlyGivenNames -merge -underBinder t0
    refine Within.step (t := t0) ?_ fun h1 => ?_
    · unfold t0
      exact (powerSave_within _ _ _).sub rfl
    clear_value t0
    refine Within.comp ?_ (setPow_within _ _) rfl
    refine Within.comp ?_ (islandReset_within _ _) rfl
    exact h1
  · exact Within.refl _ _

theorem execHostModuleReset_answers (p : Path) (late : Nat) (save : Option Nat) (s : State) :
    Answers (execHostModuleReset p late save s) (Within Part.wide6 s) := by
  unfold execHostModuleReset
  refine Answers.next ?_
  refine Within.trans ?_ (hostOwn_within (fun a0 => ?_) rfl)
  · exact Within.refl _ _
  · exact (resetSaved_within _ _ _ _).sub rfl

theorem execSaveRestart_answers (late : Nat) (dur : Nat) (s : State) :
    Answers (execSaveRestart late dur s) (Within [.regs, .params, .x00, .x01, .parNext, .bil, .btm, .logs, .pow] s) := by
  unfold execSaveRestart
  refine Answers.next ?_
  refine Within.ite ?_ ?_
  · exact (saveRestart_within _ _ _).sub rfl
  · exact Within.refl _ _

theorem execResetNRequest_answers (late : Nat) (save : Option Nat) (s : State) :
    Answers (execResetNRequest late save s) (Within Part.wide6 s) := by
  unfold execResetNRequest
  refine Answers.next ?_
  refine Within.comp ?_ (resetSaved_within _ _ _ _) rfl
  exact (setPow_within _ _).sub rfl

theorem dieShutdown_within (late : Nat) (save : Option Nat) (s : State) :
    Within Part.wide3 s (dieShutdown late save s) := by
  unfold dieShutdown
  extract_lets +onlyGivenNames -merge -underBinder t0
  refine Within.step (t := t0) ?_ fun h1 => ?_
  · unfold t0
    refine Within.comp ?_ (faultOther_within _ _ _) rfl
    refine Within.comp ?_ (State.raise_within _ _) rfl
    exact (State.raise_within _ _).sub rfl
  clear_value t0
  extract_lets +onlyGivenNames -merge -underBinder t2
  refine Within.step (t := t2) ?_ fun h3 => ?_
  · unfold t2
    refine Within.comp ?_ (moduleStop_within _ _ _ _) rfl
    exact h1
  clear_value t2
  refine Within.comp ?_ (setPow_within _ _) rfl
  exact h3

theorem execDieTemperatureShutdown_answers (late : Nat) (save : Option Nat) (s : State) :
    Answers (execDieTemperatureShutdown late save s) (Within Part.wide3 s) := by
  unfold execDieTemperatureShutdown
  refine Answers.next ?_
  exact (dieShutdown_within _ _ _).sub rfl

theorem setTtbRes_within (s : State) (k : Nat) (r : TtbRes) :
    Within [.ttb] s (setTtbRes s k r) := by
  unfold setTtbRes
  split
  · refine Within.comp ?_ (Within.upd_ttb _ _) rfl
    exact Within.refl _ _
  · refine Within.comp ?_ (Within.upd_ttb _ _) rfl
    exact Within.refl _ _
  · refine Within.comp ?_ (Within.upd_ttb _ _) rfl
    exact Within.refl _ _

theorem slotTake_within (k : Nat) (g : SlotGrant) (s : State) :
    Within [.ttb] s (slotTake k g s) := by
  unfold slotTake
  extract_lets +onlyGivenNames -merge -underBinder r0
  extract_lets +onlyGivenNames -merge -underBinder use1
  split
  · extract_lets +onlyGivenNames -merge -underBinder rem2
    exact (setTtbRes_within _ _ _).sub rfl
  · exact (setTtbRes_within _ _ _).sub rfl
  · exact (setTtbRes_within _ _ _).sub rfl

theorem ttbNoteUse_within (k : Nat) (waiting : Nat) (r : TtbRes) (c : Nat) (s : State) :
    Within [.regs] s (ttbNoteUse k waiting r c s) := by
  unfold ttbNoteUse
  extract_lets +onlyGivenNames -merge -underBinder u0
  extract_lets +onlyGivenNames -merge -underBinder t1
  refine Within.step (t := t1) ?_ fun h2 => ?_
  · unfold t1
    refine Within.comp ?_ (State.put_within _ _ _) rfl
    exact (State.put_within _ _ _).sub rfl
  clear_value t1
  refine Within.ite ?_ ?_
  · refine Within.comp ?_ (State.bump_within _ _ _) rfl
    exact h2
  · exact h2

theorem ttbConfigure_within (s : State) :
    Within [.regs] s (ttbConfigure s) := by
  unfold ttbConfigure
  extract_lets +onlyGivenNames -merge -underBinder want0
  extract_lets +onlyGivenNames -merge -underBinder okClass1
  extract_lets +onlyGivenNames -merge -underBinder ok2
  extract_lets +onlyGivenNames -merge -underBinder value3
  refine Within.comp ?_ (State.putB_within _ _ _) rfl
  refine Within.trans ?_ (Within.upTo (fun v4 v5 => ?_) _)
  · exact Within.refl _ _
  · refine Within.trans ?_ (Within.upTo (fun v6 v7 => ?_) _)
    · exact Within.refl _ _
    · exact (State.put_within _ _ _).sub rfl

theorem ttbPeriod_within (k : Nat) (waiting : Nat) (s : State) :
    Within [.regs, .ttb] s (ttbPeriod k waiting s) := by
  unfold ttbPeriod
  extract_lets +onlyGivenNames -merge -underBinder r0
  extract_lets +onlyGivenNames -merge -underBinder t1
  refine Within.step (t := t1) ?_ fun h2 => ?_
  · unfold t1
    refine Within.ite ?_ ?_
    · refine Within.trans ?_ (Within.upTo (fun v3 v4 => ?_) _)
      · exact Within.refl _ _
      · exact (ttbNoteUse_within _ _ _ _ _).sub rfl
    · exact Within.refl _ _
  clear_value t1
  refine Within.comp ?_ (setTtbRes_within _ _ _) rfl
  exact h2

theorem ttbClearUse_within (s : State) :
    Within [.regs] s (ttbClearUse s) := by
  unfold ttbClearUse
  refine Within.trans ?_ (Within.upTo (fun v0 v1 => ?_) _)
  · exact Within.refl _ _
  · refine Within.comp ?_ (State.lower_within _ _) rfl
    exact (State.lower_within _ _).sub rfl

theorem execTimetablePeriodStart_answers (k : Nat) (waiting : Nat) (s : State) :
    Answers (execTimetablePeriodStart k waiting s) (Within [.regs, .ttb] s) := by
  unfold execTimetablePeriodStart
  refine Answers.next ?_
  refine Within.ite ?_ ?_
  · exact (ttbPeriod_within _ _ _).sub rfl
  · exact Within.refl _ _

theorem execUseStatsClear_answers (p : Path) (s : State) :
    Answers (execUseStatsClear p s) (Within [.regs, .out] s) := by
  unfold execUseStatsClear
  refine Answers.next ?_
  refine Within.trans ?_ (hostOwn_within (fun a0 => ?_) rfl)
  · exact Within.refl _ _
  · exact (ttbClearUse_within _).sub rfl

theorem modulesReset_within (s : State) :
    Within Part.wide9 s (modulesReset s) := by
  unfold modulesReset
  refine Within.trans ?_ (Within.foldl (fun v0 v1 => ?_) _)
  · exact Within.refl _ _
  · exact (islandReset_within _ _).sub rfl

theorem pufMap_within (s : State) :
    Within [.regs] s (pufMap s) := by
  unfold pufMap
  refine Within.ite ?_ ?_
  · refine Within.trans ?_ (Within.upTo (fun v0 v1 => ?_) _)
    · exact Within.refl _ _
    · exact (State.put_within _ _ _).sub rfl
  · exact Within.refl _ _

theorem appliedShow_within (s : State) :
    Within [.regs] s (appliedShow s) := by
  unfold appliedShow
  exact (State.putB_within _ _ _).sub rfl

theorem parsInForce_within (vals : List (Nat × Int)) (s : State) : Within [.params, .boot] s (parsInForce vals s) := by
  unfold parsInForce
  extract_lets +onlyGivenNames -merge -underBinder own j0 t1 t2
  have h1 : Within [.params, .boot] s t1 :=
    ⟨fun i => ⟨i.regs, Sparse.wf_filter _ _ i.params, i.cells, i.xings, i.tok, i.logs, i.queues⟩,
      fun p hp => by cases p <;> first | rfl | exact absurd (by simp) hp⟩
  have h2 : Within [.params, .boot] s t2 := h1.trans (Within.foldl (fun v x => (State.setPar_within _ _ _).sub rfl) _)
  exact Within.comp h2 (setBoot_within _ _) rfl

theorem imageParams_within (vals : List (Nat × Int)) (s : State) :
    Within [.regs, .params, .boot] s (imageParams vals s) := by
  unfold imageParams
  extract_lets +onlyGivenNames -merge -underBinder j1 t0
  refine Within.step (t := t0) ?_ fun h2 => ?_
  · unfold t0
    refine Within.ite ?_ ?_
    · exact Within.refl _ _
    · refine Within.comp ?_ (State.raise_within _ _) rfl
      exact (setBoot_within _ _).sub rfl
  clear_value t0
  extract_lets +onlyGivenNames -merge -underBinder t3
  refine Within.step (t := t3) ?_ fun h4 => ?_
  · unfold t3
    refine Within.comp ?_ (parsInForce_within _ _) rfl
    exact h2
  clear_value t3
  extract_lets +onlyGivenNames -merge -underBinder seq5
  refine Within.comp ?_ (overlayShow_within _) rfl
  refine Within.comp ?_ (setBoot_within _ _) rfl
  exact h4

theorem bootTimes_within (times : List Nat) (s : State) :
    Within [.regs] s (bootTimes times s) := by
  unfold bootTimes
  refine Within.trans ?_ (Within.upTo (fun v0 v1 => ?_) _)
  · exact Within.refl _ _
  · exact (State.setRegN_within _ _ _).sub rfl

theorem startClocks_within (freqs : List Nat) (s : State) :
    Within [.regs, .pow] s (startClocks freqs s) := by
  unfold startClocks
  extract_lets +onlyGivenNames -merge -underBinder j1 t0
  refine Within.step (t := t0) ?_ fun h2 => ?_
  · unfold t0
    refine Within.ite ?_ ?_
    · refine Within.comp ?_ (setPow_within _ _) rfl
      refine Within.comp ?_ (State.raise_within _ _) rfl
      refine Within.comp ?_ (State.putBit_within _ _ _ _) rfl
      exact (State.put_within _ _ _).sub rfl
    · exact Within.refl _ _
  clear_value t0
  extract_lets +onlyGivenNames -merge -underBinder t3
  refine Within.step (t := t3) ?_ fun h4 => ?_
  · unfold t3
    refine Within.comp ?_ (State.put_within _ _ _) rfl
    exact h2
  clear_value t3
  refine Within.trans ?_ (Within.upTo (fun v5 v6 => ?_) _)
  · exact h4
  · exact (State.put_within _ _ _).sub rfl

theorem rejectShow_within (s : State) (e : Nat × Nat) :
    Within [.regs] s (rejectShow s e) := by
  unfold rejectShow
  extract_lets +onlyGivenNames -merge -underBinder f0
  refine Within.comp ?_ (State.raise_within _ _) rfl
  exact (State.put_within _ _ _).sub rfl

theorem imageRecord_within (b : List Byte) (s : State) :
    Within [.regs, .tok, .boot] s (imageRecord b s) := by
  unfold imageRecord
  extract_lets +onlyGivenNames -merge -underBinder key0
  extract_lets +onlyGivenNames -merge -underBinder next1
  extract_lets +onlyGivenNames -merge -underBinder half2
  extract_lets +onlyGivenNames -merge -underBinder t3
  refine Within.step (t := t3) ?_ fun h4 => ?_
  · unfold t3
    refine Within.comp ?_ (tokGive_within _ _ _) rfl
    exact (tokRequest_within _ _ _ _).sub rfl
  clear_value t3
  extract_lets +onlyGivenNames -merge -underBinder t5
  refine Within.step (t := t5) ?_ fun h6 => ?_
  · unfold t5
    split
    · refine Within.ite ?_ ?_
      · exact h4
      · refine Within.comp ?_ (State.raise_within _ _) rfl
        exact h4
    · refine Within.comp ?_ (State.raise_within _ _) rfl
      exact h4
  clear_value t5
  refine Within.comp ?_ (setBoot_within _ _) rfl
  exact h6

theorem imageShow_within (src : Nat) (b : List Byte) (s : State) :
    Within [.regs] s (imageShow src b s) := by
  unfold imageShow
  extract_lets +onlyGivenNames -merge -underBinder h0
  extract_lets +onlyGivenNames -merge -underBinder t1
  refine Within.step (t := t1) ?_ fun h2 => ?_
  · unfold t1
    refine Within.comp ?_ (State.put_within _ _ _) rfl
    exact (State.setRegN_within _ _ _).sub rfl
  clear_value t1
  extract_lets +onlyGivenNames -merge -underBinder t3
  refine Within.step (t := t3) ?_ fun h4 => ?_
  · unfold t3
    refine Within.trans ?_ (Within.upTo (fun v5 v6 => ?_) _)
    · exact h2
    · exact (State.setRegN_within _ _ _).sub rfl
  clear_value t3
  refine Within.ite ?_ ?_
  · refine Within.comp ?_ (State.raise_within _ _) rfl
    exact h4
  · exact h4

theorem waybillKey_within (s : State) :
    Within [.regs, .grt, .free] s (waybillKey s) := by
  unfold waybillKey
  extract_lets +onlyGivenNames -merge -underBinder n0
  refine Within.ite ?_ ?_
  · extract_lets +onlyGivenNames -merge -underBinder type1
    refine Within.ite ?_ ?_
    · exact (slotRetire_within _ _).sub rfl
    · extract_lets +onlyGivenNames -merge -underBinder x2
      refine Within.step (t := x2.2) ?_ fun h3 => ?_
      · unfold x2
        exact (freshBytes_within _ _).sub rfl
      clear_value x2
      refine Within.comp ?_ (keyPlace_within _ _ _ _ _ _ _) rfl
      exact h3
  · exact Within.refl _ _

theorem outageEnd_within (code : Nat) (s : State) :
    Within [.regs, .btm, .logs] s (outageEnd code s) := by
  unfold outageEnd
  split
  · exact Within.refl _ _
  · extract_lets +onlyGivenNames -merge -underBinder now0
    extract_lets +onlyGivenNames -merge -underBinder o1
    extract_lets +onlyGivenNames -merge -underBinder j3 t2
    refine Within.step (t := t2) ?_ fun h4 => ?_
    · unfold t2
      refine Within.comp ?_ (Within.upd_btm _ _) rfl
      exact Within.refl _ _
    clear_value t2
    extract_lets +onlyGivenNames -merge -underBinder t5
    refine Within.step (t := t5) ?_ fun h6 => ?_
    · unfold t5
      refine Within.trans ?_ (Within.upTo (fun v7 v8 => ?_) _)
      · exact h4
      · exact (State.setRegN_within _ _ _).sub rfl
    clear_value t5
    extract_lets +onlyGivenNames -merge -underBinder t9
    refine Within.step (t := t9) ?_ fun h10 => ?_
    · unfold t9
      refine Within.ite ?_ ?_
      · refine Within.comp ?_ (logAt_within _ _ _ _ _) rfl
        exact h6
      · exact h6
    clear_value t9
    extract_lets +onlyGivenNames -merge -underBinder t11
    refine Within.step (t := t11) ?_ fun h12 => ?_
    · unfold t11
      refine Within.ite ?_ ?_
      · exact h10
      · refine Within.comp ?_ (logWrite_within _ _ _ _) rfl
        exact h10
    clear_value t11
    refine Within.ite ?_ ?_
    · refine Within.comp ?_ (logWrite_within _ _ _ _) rfl
      refine Within.comp ?_ (State.raise_within _ _) rfl
      exact h12
    · exact h12

theorem tamperMove_within (s : State) :
    Within [.regs, .btm, .logs] s (tamperMove s) := by
  unfold tamperMove
  extract_lets +onlyGivenNames -merge -underBinder one0
  have h1 : ∀ v2 v3, Within [.regs, .btm, .logs] v2 (one0 v2 v3) := by
    intro v2 v3
    unfold one0
    extract_lets +onlyGivenNames -merge -underBinder isOpen4
    extract_lets +onlyGivenNames -merge -underBinder t5
    refine Within.step (t := t5) ?_ fun h6 => ?_
    · unfold t5
      exact (logAt_within _ _ _ _ _).sub rfl
    clear_value t5
    refine Within.ite ?_ ?_
    · refine Within.comp ?_ (discRequest_within _ _ _) rfl
      exact h6
    · exact h6
  clear_value one0
  extract_lets +onlyGivenNames -merge -underBinder t7
  refine Within.step (t := t7) ?_ fun h8 => ?_
  · unfold t7
    refine Within.trans ?_ (Within.foldl (fun v9 v10 => ?_) _)
    · exact Within.refl _ _
    · refine Within.trans ?_ (h1 _ _)
      exact Within.refl _ _
  clear_value t7
  extract_lets +onlyGivenNames -merge -underBinder t11
  refine Within.step (t := t11) ?_ fun h12 => ?_
  · unfold t11
    refine Within.ite ?_ ?_
    · exact h8
    · refine Within.comp ?_ (logWrite_within _ _ _ _) rfl
      refine Within.comp ?_ (State.raise_within _ _) rfl
      exact h8
  clear_value t11
  refine Within.comp ?_ (Within.upd_btm _ _) rfl
  exact h12

theorem servicesStart_within (hosts : Bool) (s : State) :
    Within [.regs] s (servicesStart hosts s) := by
  unfold servicesStart
  extract_lets +onlyGivenNames -merge -underBinder t0
  refine Within.step (t := t0) ?_ fun h1 => ?_
  · unfold t0
    refine Within.comp ?_ (setLevel_within _ _ _) rfl
    exact (setLevel_within _ _ _).sub rfl
  clear_value t0
  extract_lets +onlyGivenNames -merge -underBinder t2
  refine Within.step (t := t2) ?_ fun h3 => ?_
  · unfold t2
    refine Within.ite ?_ ?_
    · refine Within.comp ?_ (State.raise_within _ _) rfl
      exact h1
    · exact h1
  clear_value t2
  refine Within.comp ?_ (siteNone_within _) rfl
  refine Within.comp ?_ (State.put_within _ _ _) rfl
  exact h3

theorem memStart_within (s : State) :
    Within [.regs, .tok, .logs, .mem] s (memStart s) := by
  unfold memStart
  extract_lets +onlyGivenNames -merge -underBinder due0
  extract_lets +onlyGivenNames -merge -underBinder j2 t1
  refine Within.step (t := t1) ?_ fun h3 => ?_
  · unfold t1
    refine Within.comp ?_ (State.raise_within _ _) rfl
    refine Within.comp ?_ (State.raise_within _ _) rfl
    refine Within.comp ?_ setMem_mk_within rfl
    exact Within.refl _ _
  clear_value t1
  refine Within.trans ?_ (Within.foldl (fun v4 v5 => ?_) _)
  · refine Within.trans ?_ (Within.upTo (fun v6 v7 => ?_) _)
    · exact h3
    · exact (kindShow_within _ _ _).sub rfl
  · exact (memDue_within _ _).sub rfl

theorem relayStart_within (s : State) :
    Within [.regs, .btm, .saf] s (relayStart s) := by
  unfold relayStart
  extract_lets +onlyGivenNames -merge -underBinder st0
  refine Within.ite ?_ ?_
  · exact (relayOpen_within _).sub rfl
  · refine Within.ite ?_ ?_
    · exact (relayWanted_within _).sub rfl
    · exact Within.refl _ _

theorem startCause_within (again : Bool) (s : State) :
    Within [.regs, .pow] s (startCause again s) := by
  unfold startCause
  extract_lets +onlyGivenNames -merge -underBinder code0
  extract_lets +onlyGivenNames -merge -underBinder t1
  refine Within.step (t := t1) ?_ fun h2 => ?_
  · unfold t1
    refine Within.comp ?_ (State.put_within _ _ _) rfl
    exact (State.put_within _ _ _).sub rfl
  clear_value t1
  extract_lets +onlyGivenNames -merge -underBinder t3
  refine Within.step (t := t3) ?_ fun h4 => ?_
  · unfold t3
    refine Within.comp ?_ (State.putB_within _ _ _) rfl
    refine Within.comp ?_ (State.raise_within _ _) rfl
    refine Within.comp ?_ (State.bump_within _ _ _) rfl
    exact h2
  clear_value t3
  extract_lets +onlyGivenNames -merge -underBinder t5
  refine Within.step (t := t5) ?_ fun h6 => ?_
  · unfold t5
    refine Within.comp ?_ (State.setRegN_within _ _ _) rfl
    refine Within.comp ?_ (State.put_within _ _ _) rfl
    exact h4
  clear_value t5
  refine Within.comp ?_ (setPow_within _ _) rfl
  exact h6

theorem startLogs_within (code : Nat) (s : State) :
    Within [.regs, .btm, .logs, .pow] s (startLogs code s) := by
  unfold startLogs
  extract_lets +onlyGivenNames -merge -underBinder t0
  refine Within.step (t := t0) ?_ fun h1 => ?_
  · unfold t0
    refine Within.comp ?_ (outageEnd_within _ _) rfl
    exact (tamperMove_within _).sub rfl
  clear_value t0
  extract_lets +onlyGivenNames -merge -underBinder t2
  refine Within.step (t := t2) ?_ fun h3 => ?_
  · unfold t2
    refine Within.ite ?_ ?_
    · refine Within.comp ?_ (logWrite_within _ _ _ _) rfl
      exact h1
    · exact h1
  clear_value t2
  extract_lets +onlyGivenNames -merge -underBinder t4
  refine Within.step (t := t4) ?_ fun h5 => ?_
  · unfold t4
    split
    · refine Within.comp ?_ (logWrite_within _ _ _ _) rfl
      exact h3
    · exact h3
  clear_value t4
  refine Within.comp ?_ (setPow_within _ _) rfl
  refine Within.comp ?_ (Within.upd_btm _ _) rfl
  exact h5

theorem imageTake_within (flash : Bool) (s : State) :
    Within [.regs, .params, .tok, .boot] s (imageTake flash s).1 := by
  unfold imageTake
  extract_lets +onlyGivenNames -merge -underBinder x0
  extract_lets +onlyGivenNames -merge -underBinder t1
  refine Within.step (t := t1) ?_ fun h2 => ?_
  · unfold t1
    refine Within.trans ?_ (Within.foldl (fun v3 v4 => ?_) _)
    · exact Within.refl _ _
    · exact (rejectShow_within _ _).sub rfl
  clear_value t1
  split
  · refine Within.comp ?_ (parsInForce_within _ _) rfl
    refine Within.comp ?_ (State.put_within _ _ _) rfl
    exact h2
  · extract_lets +onlyGivenNames -merge -underBinder b5
    extract_lets +onlyGivenNames -merge -underBinder t6
    refine Within.step (t := t6) ?_ fun h7 => ?_
    · unfold t6
      refine Within.comp ?_ (imageShow_within _ _ _) rfl
      exact h2
    clear_value t6
    extract_lets +onlyGivenNames -merge -underBinder t8
    refine Within.step (t := t8) ?_ fun h9 => ?_
    · unfold t8
      refine Within.ite ?_ ?_
      · refine Within.comp ?_ (imageRecord_within _ _) rfl
        exact h7
      · exact h7
    clear_value t8
    refine Within.comp ?_ (imageParams_within _ _) rfl
    exact h9

theorem billingStart_within (code : Nat) (s : State) :
    Within [.regs, .tok, .bil, .logs] s (billingStart code s) := by
  unfold billingStart
  extract_lets +onlyGivenNames -merge -underBinder now0
  extract_lets +onlyGivenNames -merge -underBinder late1
  extract_lets +onlyGivenNames -merge -underBinder j3 t2
  refine Within.step (t := t2) ?_ fun h4 => ?_
  · unfold t2
    refine Within.comp ?_ (Within.upd_bil _ _) rfl
    exact Within.refl _ _
  clear_value t2
  extract_lets +onlyGivenNames -merge -underBinder t5
  refine Within.step (t := t5) ?_ fun h6 => ?_
  · unfold t5
    split
    · refine Within.ite ?_ ?_
      · refine Within.comp ?_ (activate_within _ _) rfl
        exact h4
      · exact h4
    · exact h4
  clear_value t5
  extract_lets +onlyGivenNames -merge -underBinder t7
  refine Within.step (t := t7) ?_ fun h8 => ?_
  · unfold t7
    refine Within.comp ?_ (showCredit_within _) rfl
    refine Within.comp ?_ (showWaybills_within _) rfl
    refine Within.comp ?_ (showProfiles_within _) rfl
    refine Within.comp ?_ (showDemand_within _) rfl
    refine Within.comp ?_ (showPend_within _) rfl
    exact h6
  clear_value t7
  extract_lets +onlyGivenNames -merge -underBinder t9
  refine Within.step (t := t9) ?_ fun h10 => ?_
  · unfold t9
    refine Within.comp ?_ (State.putB_within _ _ _) rfl
    exact h8
  clear_value t9
  extract_lets +onlyGivenNames -merge -underBinder lost11
  refine Within.comp ?_ (wbSign_within _) rfl
  refine Within.comp ?_ (State.putB_within _ _ _) rfl
  exact h10

theorem pufBlock_within (b : Nat) (s : State) :
    Within [.regs, .logs, .free] s (pufBlock b s) := by
  unfold pufBlock
  extract_lets +onlyGivenNames -merge -underBinder share0
  refine Within.ite ?_ ?_
  · exact Within.refl _ _
  · split
    · refine Within.comp ?_ (faultOther_within _ _ _) rfl
      refine Within.comp ?_ (State.raise_within _ _) rfl
      refine Within.comp ?_ (State.put_within _ _ _) rfl
      exact (State.put_within _ _ _).sub rfl
    · exact (State.raise_within _ _).sub rfl

theorem imageApply_within (b : List Byte) (s : State) :
    Within [.regs, .bil, .logs, .nfc, .boot] s (imageApply b s) := by
  unfold imageApply
  extract_lets +onlyGivenNames -merge -underBinder t0
  refine Within.step (t := t0) ?_ fun h1 => ?_
  · unfold t0
    split
    · exact (submitTable_within _ _ _).sub rfl
    · exact Within.refl _ _
  clear_value t0
  extract_lets +onlyGivenNames -merge -underBinder t2
  refine Within.step (t := t2) ?_ fun h3 => ?_
  · unfold t2
    split
    · refine Within.comp ?_ (setList_within _ _) rfl
      exact h1
    · exact h1
  clear_value t2
  refine Within.comp ?_ (State.raise_within _ _) rfl
  refine Within.comp ?_ (setBoot_within _ _) rfl
  exact h3

theorem grottoStart_within (i : StartInfo) (s : State) :
    Within [.regs, .logs, .grt, .free] s (grottoStart i s) := by
  unfold grottoStart
  extract_lets +onlyGivenNames -merge -underBinder t0
  refine Within.step (t := t0) ?_ fun h1 => ?_
  · unfold t0
    refine Within.trans ?_ (Within.upTo (fun v2 v3 => ?_) _)
    · exact (pufMap_within _).sub rfl
    · exact (State.put_within _ _ _).sub rfl
  clear_value t0
  extract_lets +onlyGivenNames -merge -underBinder t4
  refine Within.step (t := t4) ?_ fun h5 => ?_
  · unfold t4
    refine Within.comp ?_ (State.putB_within _ _ _) rfl
    refine Within.ite ?_ ?_
    · refine Within.comp ?_ (State.raise_within _ _) rfl
      exact h1
    · exact h1
  clear_value t4
  extract_lets +onlyGivenNames -merge -underBinder t6
  refine Within.step (t := t6) ?_ fun h7 => ?_
  · unfold t6
    refine Within.ite ?_ ?_
    · refine Within.comp ?_ (State.raise_within _ _) rfl
      refine Within.trans ?_ (Within.upTo (fun v8 v9 => ?_) _)
      · exact h5
      · exact (pufBlock_within _ _).sub rfl
    · refine Within.comp ?_ (faultOther_within _ _ _) rfl
      refine Within.comp ?_ (State.raise_within _ _) rfl
      refine Within.comp ?_ (State.raise_within _ _) rfl
      exact h5
  clear_value t6
  extract_lets +onlyGivenNames -merge -underBinder t10
  refine Within.step (t := t10) ?_ fun h11 => ?_
  · unfold t10
    refine Within.comp ?_ (State.put_within _ _ _) rfl
    exact h7
  clear_value t10
  extract_lets +onlyGivenNames -merge -underBinder t12
  refine Within.step (t := t12) ?_ fun h13 => ?_
  · unfold t12
    refine Within.ite ?_ ?_
    · refine Within.comp ?_ (State.raise_within _ _) rfl
      exact h11
    · refine Within.comp ?_ (faultOther_within _ _ _) rfl
      refine Within.comp ?_ (State.raise_within _ _) rfl
      exact h11
  clear_value t12
  refine Within.comp ?_ (waybillKey_within _) rfl
  refine Within.comp ?_ (usedShow_within _) rfl
  exact h13

theorem safetyStart_within (seals : Nat) (s : State) :
    Within [.regs, .btm, .saf, .x03, .x19] s (safetyStart seals s) := by
  unfold safetyStart
  extract_lets +onlyGivenNames -merge -underBinder sum0
  extract_lets +onlyGivenNames -merge -underBinder t1
  refine Within.step (t := t1) ?_ fun h2 => ?_
  · unfold t1
    refine Within.comp ?_ (State.setRegN_within _ _ _) rfl
    exact (State.setRegN_within _ _ _).sub rfl
  clear_value t1
  extract_lets +onlyGivenNames -merge -underBinder mode3
  extract_lets +onlyGivenNames -merge -underBinder t4
  refine Within.step (t := t4) ?_ fun h5 => ?_
  · unfold t4
    refine Within.comp ?_ (State.put_within _ _ _) rfl
    refine Within.comp ?_ (State.put_within _ _ _) rfl
    refine Within.comp ?_ (State.put_within _ _ _) rfl
    exact h2
  clear_value t4
  extract_lets +onlyGivenNames -merge -underBinder epoch6
  extract_lets +onlyGivenNames -merge -underBinder __src8
  refine Within.step (t := __src8) ?_ fun h9 => ?_
  · unfold __src8
    refine Within.comp ?_ (State.setRegN_within _ _ _) rfl
    exact h5
  clear_value __src8
  extract_lets +onlyGivenNames -merge -underBinder j11 t10
  refine Within.step (t := t10) ?_ fun h12 => ?_
  · unfold t10
    refine Within.comp ?_ (Within.upd_saf _ _) rfl
    exact h9
  clear_value t10
  extract_lets +onlyGivenNames -merge -underBinder good13
  refine Within.comp ?_ (tripArm_within _) rfl
  refine Within.comp ?_ (pilotDemand_within _ _) rfl
  refine Within.ite ?_ ?_
  · refine Within.comp ?_ (State.raise_within _ _) rfl
    exact h12
  · refine Within.comp ?_ (causeSet_within _ _) rfl
    exact h12

theorem islandsStart_within (bad : Nat) (s : State) :
    Within [.regs, .tok, .afe, .pts, .x19, .lsw, .lcd, .nfc] s (islandsStart bad s) := by
  unfold islandsStart
  extract_lets +onlyGivenNames -merge -underBinder j1 t0
  refine Within.step (t := t0) ?_ fun h2 => ?_
  · unfold t0
    refine Within.comp ?_ (setLsw_within _ _) rfl
    exact (lsDefaults_within _).sub rfl
  clear_value t0
  extract_lets +onlyGivenNames -merge -underBinder l3
  refine Within.trans ?_ (Within.foldl (fun v4 v5 => ?_) _)
  · exact h2
  · exact (islandStart_within _ _ _).sub rfl

theorem moduleStart_within (i : StartInfo) (s : State) :
    Within Part.wide4 s (moduleStart i s) := by
  unfold moduleStart
  extract_lets +onlyGivenNames -merge -underBinder code0
  extract_lets +onlyGivenNames -merge -underBinder hosts1
  extract_lets +onlyGivenNames -merge -underBinder t2
  refine Within.step (t := t2) ?_ fun h3 => ?_
  · unfold t2
    refine Within.comp ?_ (startClocks_within _ _) rfl
    refine Within.comp ?_ (startCause_within _ _) rfl
    exact (modulesReset_within _).sub rfl
  clear_value t2
  extract_lets +onlyGivenNames -merge -underBinder x4
  refine Within.step (t := x4.1) ?_ fun h5 => ?_
  · unfold x4
    refine Within.comp ?_ (imageTake_within _ _) rfl
    refine Within.comp ?_ (State.setRegN_within _ _ _) rfl
    exact h3
  clear_value x4
  extract_lets +onlyGivenNames -merge -underBinder t6
  refine Within.step (t := t6) ?_ fun h7 => ?_
  · unfold t6
    refine Within.comp ?_ (tokVlow_within _) rfl
    refine Within.comp ?_ (tokBudgets_within _) rfl
    refine Within.comp ?_ (ttbConfigure_within _) rfl
    exact h5
  clear_value t6
  extract_lets +onlyGivenNames -merge -underBinder t8
  refine Within.step (t := t8) ?_ fun h9 => ?_
  · unfold t8
    refine Within.comp ?_ (grottoStart_within _ _) rfl
    refine Within.comp ?_ (memStart_within _) rfl
    refine Within.comp ?_ (safetyStart_within _ _) rfl
    exact h7
  clear_value t8
  extract_lets +onlyGivenNames -merge -underBinder t10
  refine Within.step (t := t10) ?_ fun h11 => ?_
  · unfold t10
    refine Within.comp ?_ (startLogs_within _ _) rfl
    exact h9
  clear_value t10
  extract_lets +onlyGivenNames -merge -underBinder t12
  refine Within.step (t := t12) ?_ fun h13 => ?_
  · unfold t12
    refine Within.comp ?_ (billingStart_within _ _) rfl
    exact h11
  clear_value t12
  extract_lets +onlyGivenNames -merge -underBinder t14
  refine Within.step (t := t14) ?_ fun h15 => ?_
  · unfold t14
    refine Within.ite ?_ ?_
    · refine Within.comp ?_ (logWrite_within _ _ _ _) rfl
      refine Within.comp ?_ (State.raise_within _ _) rfl
      exact h13
    · exact h13
  clear_value t14
  extract_lets +onlyGivenNames -merge -underBinder t16
  refine Within.step (t := t16) ?_ fun h17 => ?_
  · unfold t16
    split
    · refine Within.ite ?_ ?_
      · exact h15
      · refine Within.comp ?_ (imageApply_within _ _) rfl
        exact h15
    · exact h15
  clear_value t16
  extract_lets +onlyGivenNames -merge -underBinder t18
  refine Within.step (t := t18) ?_ fun h19 => ?_
  · unfold t18
    refine Within.comp ?_ (islandsStart_within _ _) rfl
    refine Within.comp ?_ (servicesStart_within _ _) rfl
    refine Within.comp ?_ (appliedShow_within _) rfl
    exact h17
  clear_value t18
  extract_lets +onlyGivenNames -merge -underBinder t20
  refine Within.step (t := t20) ?_ fun h21 => ?_
  · unfold t20
    refine Within.comp ?_ (relayStart_within _) rfl
    exact h19
  clear_value t20
  extract_lets +onlyGivenNames -merge -underBinder t22
  refine Within.step (t := t22) ?_ fun h23 => ?_
  · unfold t22
    refine Within.comp ?_ (discUpdate_within _ _ _) rfl
    exact h21
  clear_value t22
  refine Within.comp ?_ (bootTimes_within _ _) rfl
  refine Within.ite ?_ ?_
  · exact h23
  · refine Within.comp ?_ (State.put_within _ _ _) rfl
    exact h23

end Sys2Proof.Machine
end

