-- ==== Sys2Proof/Laws/Within5.lean ====
section
/-!
SUPPORT. Which parts of the state each operation changes, and that it keeps the invariant: the files of Machine/ named
Update, HostWrite, Siding, Bursts, Mailbox, SessionApp, Cross, Step.
-/
namespace Sys2Proof.Machine

theorem copyAsk_within (s : State) :
    Within [.regs, .tok] s (copyAsk s) := by
  unfold copyAsk
  extract_lets +onlyGivenNames -merge -underBinder n0
  refine Within.ite ?_ ?_
  · exact (tokRequest_within _ _ _ _).sub rfl
  · exact Within.refl _ _

theorem setUpd_within (u : UpdState) (s : State) :
    Within [.upd] s (setUpd u s) := by
  unfold setUpd
  refine Within.comp ?_ (Within.upd_upd _ _) rfl
  exact Within.refl _ _

theorem vbatLoad_within (mv : Nat) (s : State) :
    Within [.regs] s (vbatLoad mv s) := by
  unfold vbatLoad
  refine Within.comp ?_ (State.setRegN_within _ _ _) rfl
  exact (State.put_within _ _ _).sub rfl

theorem updEnter_within (n : Nat) (s : State) :
    Within [.regs] s (updEnter n s) := by
  unfold updEnter
  exact (State.put_within _ _ _).sub rfl

theorem execCopyTokenRetry_answers (s : State) :
    Answers (execCopyTokenRetry s) (Within [.regs, .tok] s) := by
  unfold execCopyTokenRetry
  refine Answers.next ?_
  exact (copyAsk_within _).sub rfl

theorem bankShow_within (s : State) :
    Within [.regs] s (bankShow s) := by
  unfold bankShow
  extract_lets +onlyGivenNames -merge -underBinder b0
  refine Within.trans ?_ (Within.upTo (fun v1 v2 => ?_) _)
  · exact (State.put_within _ _ _).sub rfl
  · exact (State.setRegN_within _ _ _).sub rfl

theorem bankSwap_within (s : State) :
    Within [.regs] s (bankSwap s) := by
  unfold bankSwap
  refine Within.comp ?_ (bankShow_within _) rfl
  exact (State.put_within _ _ _).sub rfl

theorem sectorWrite_within (n : Nat) (s : State) :
    Within [.regs, .mem] s (sectorWrite n s) := by
  unfold sectorWrite
  extract_lets +onlyGivenNames -merge -underBinder a0
  extract_lets +onlyGivenNames -merge -underBinder bytes1
  refine Within.comp ?_ (State.put_within _ _ _) rfl
  refine Within.comp ?_ (fabWrite_within _ _ _) rfl
  exact (fabErase_within _ _ _).sub rfl

theorem ownerLock_within (s : State) :
    Within [.regs] s (ownerLock s) := by
  unfold ownerLock
  refine Within.ite ?_ ?_
  · extract_lets +onlyGivenNames -merge -underBinder m0
    refine Within.comp ?_ (State.raise_within _ _) rfl
    refine Within.comp ?_ (State.setRegN_within _ _ _) rfl
    exact (State.putB_within _ _ _).sub rfl
  · exact (State.raise_within _ _).sub rfl

theorem updFail_within (code : Nat) (s : State) :
    Within [.regs] s (updFail code s) := by
  unfold updFail
  refine Within.comp ?_ (updEnter_within _ _) rfl
  refine Within.comp ?_ (State.raise_within _ _) rfl
  refine Within.comp ?_ (State.lower_within _ _) rfl
  exact (State.put_within _ _ _).sub rfl

theorem execTrialServicesReport_answers (s : State) :
    Answers (execTrialServicesReport s) (Within [.regs, .upd] s) := by
  unfold execTrialServicesReport
  refine Answers.next ?_
  refine Within.ite ?_ ?_
  · extract_lets +onlyGivenNames -merge -underBinder t0
    refine Within.step (t := t0) ?_ fun h1 => ?_
    · unfold t0
      refine Within.comp ?_ (State.lower_within _ _) rfl
      refine Within.comp ?_ (State.put_within _ _ _) rfl
      exact (State.lower_within _ _).sub rfl
    clear_value t0
    refine Within.comp ?_ (State.lower_within _ _) rfl
    refine Within.comp ?_ (State.raise_within _ _) rfl
    refine Within.comp ?_ (updEnter_within _ _) rfl
    refine Within.comp ?_ (setUpd_within _ _) rfl
    exact h1
  · exact Within.refl _ _

theorem execTokenRelease_answers (kind : Nat) (id : Nat) (s : State) :
    Answers (execTokenRelease kind id s) (Within [.regs, .tok, .mem] s) := by
  unfold execTokenRelease
  extract_lets +onlyGivenNames -merge -underBinder mine0
  refine Answers.next ?_
  refine Within.ite ?_ ?_
  · refine Within.comp ?_ (copyAsk_within _) rfl
    refine Within.comp ?_ (tokRelease_within _ _ _) rfl
    exact (sectorWrite_within _ _).sub rfl
  · exact (tokRelease_within _ _ _).sub rfl

theorem updDisarm_within (s : State) :
    Within [.regs] s (updDisarm s) := by
  unfold updDisarm
  refine Within.ite ?_ ?_
  · refine Within.comp ?_ (updEnter_within _ _) rfl
    exact (State.lower_within _ _).sub rfl
  · exact Within.refl _ _

theorem updArm_within (mv : Nat) (s : State) :
    Within [.regs] s (updArm mv s) := by
  unfold updArm
  extract_lets +onlyGivenNames -merge -underBinder t0
  refine Within.step (t := t0) ?_ fun h1 => ?_
  · unfold t0
    exact (vbatLoad_within _ _).sub rfl
  clear_value t0
  extract_lets +onlyGivenNames -merge -underBinder r2
  refine Within.ite ?_ ?_
  · refine Within.comp ?_ (State.raise_within _ _) rfl
    refine Within.comp ?_ (State.put_within _ _ _) rfl
    exact h1
  · extract_lets +onlyGivenNames -merge -underBinder t3
    refine Within.step (t := t3) ?_ fun h4 => ?_
    · unfold t3
      refine Within.comp ?_ (State.raise_within _ _) rfl
      exact h1
    clear_value t3
    refine Within.ite ?_ ?_
    · exact h4
    · refine Within.comp ?_ (updEnter_within _ _) rfl
      exact h4

theorem checkDone_within (ok : Bool) (s : State) :
    Within [.regs, .tok] s (checkDone ok s) := by
  unfold checkDone
  extract_lets +onlyGivenNames -merge -underBinder t0
  refine Within.step (t := t0) ?_ fun h1 => ?_
  · unfold t0
    refine Within.trans ?_ (Within.upTo (fun v2 v3 => ?_) _)
    · exact Within.refl _ _
    · exact (State.setRegN_within _ _ _).sub rfl
  clear_value t0
  extract_lets +onlyGivenNames -merge -underBinder code4
  refine Within.ite ?_ ?_
  · refine Within.comp ?_ (updFail_within _ _) rfl
    exact h1
  · refine Within.comp ?_ (copyAsk_within _) rfl
    refine Within.comp ?_ (updEnter_within _ _) rfl
    refine Within.comp ?_ (State.put_within _ _ _) rfl
    exact h1

theorem trialBack_within (s : State) :
    Within [.regs, .upd] s (trialBack s) := by
  unfold trialBack
  refine Within.comp ?_ (updFail_within _ _) rfl
  refine Within.comp ?_ (setUpd_within _ _) rfl
  refine Within.comp ?_ (State.lower_within _ _) rfl
  exact (bankSwap_within _).sub rfl

theorem execUpdateArm_answers (p : Path) (mv : Nat) (s : State) :
    Answers (execUpdateArm p mv s) (Within [.regs, .out] s) := by
  unfold execUpdateArm
  refine Answers.next ?_
  refine Within.trans ?_ (hostOwn_within (fun a0 => ?_) rfl)
  · exact Within.refl _ _
  · exact (updArm_within _ _).sub rfl

theorem execOwnerLockCommand_answers (p : Path) (s : State) :
    Answers (execOwnerLockCommand p s) (Within [.regs, .out] s) := by
  unfold execOwnerLockCommand
  refine Answers.next ?_
  refine Within.trans ?_ (hostOwn_within (fun a0 => ?_) rfl)
  · exact Within.refl _ _
  · exact (ownerLock_within _).sub rfl

theorem copyDone_within (bad : List Nat) (s : State) :
    Within [.regs, .tok, .logs, .mem, .upd] s (copyDone bad s) := by
  unfold copyDone
  extract_lets +onlyGivenNames -merge -underBinder b0
  extract_lets +onlyGivenNames -merge -underBinder whole1
  refine Within.ite ?_ ?_
  · extract_lets +onlyGivenNames -merge -underBinder bank2
    refine Within.comp ?_ (updEnter_within _ _) rfl
    exact (setUpd_within _ _).sub rfl
  · refine Within.comp ?_ (updFail_within _ _) rfl
    refine Within.trans ?_ (Within.foldl (fun v3 v4 => ?_) _)
    · exact Within.refl _ _
    · exact (memDue_within _ _).sub rfl

theorem execUpdateDisarm_answers (p : Path) (s : State) :
    Answers (execUpdateDisarm p s) (Within [.regs, .out] s) := by
  unfold execUpdateDisarm
  refine Answers.next ?_
  refine Within.trans ?_ (hostOwn_within (fun a0 => ?_) rfl)
  · exact Within.refl _ _
  · exact (updDisarm_within _).sub rfl

theorem trialCount_within (s : State) :
    Within [.regs, .upd] s (trialCount s) := by
  unfold trialCount
  refine Within.ite ?_ ?_
  · refine Within.ite ?_ ?_
    · exact (trialBack_within _).sub rfl
    · exact (setUpd_within _ _).sub rfl
  · exact Within.refl _ _

theorem execUpdateCheckDone_answers (ok : Bool) (s : State) :
    Answers (execUpdateCheckDone ok s) (Within [.regs, .tok] s) := by
  unfold execUpdateCheckDone
  refine Answers.next ?_
  refine Within.ite ?_ ?_
  · exact (checkDone_within _ _).sub rfl
  · exact Within.refl _ _

theorem updStart_within (s : State) :
    Within [.regs, .tok, .upd] s (updStart s) := by
  unfold updStart
  extract_lets +onlyGivenNames -merge -underBinder t0
  refine Within.step (t := t0) ?_ fun h1 => ?_
  · unfold t0
    refine Within.comp ?_ (bankShow_within _) rfl
    exact (State.put_within _ _ _).sub rfl
  clear_value t0
  extract_lets +onlyGivenNames -merge -underBinder t2
  refine Within.step (t := t2) ?_ fun h3 => ?_
  · unfold t2
    refine Within.comp ?_ (trialCount_within _) rfl
    exact h1
  clear_value t2
  refine Within.ite ?_ ?_
  · refine Within.comp ?_ (updEnter_within _ _) rfl
    exact h3
  · refine Within.comp ?_ (copyAsk_within _) rfl
    exact h3

theorem trialRevert_within (s : State) :
    Within [.regs, .tok, .bil, .q, .ses, .dlm, .mail, .upd] s (trialRevert s) := by
  unfold trialRevert
  refine Within.comp ?_ (coresDown_within _) rfl
  exact (trialBack_within _).sub rfl

theorem execUpdateCopyDone_answers (bad : List Nat) (s : State) :
    Answers (execUpdateCopyDone bad s) (Within [.regs, .tok, .logs, .mem, .upd] s) := by
  unfold execUpdateCopyDone
  refine Answers.next ?_
  refine Within.ite ?_ ?_
  · exact (copyDone_within _ _).sub rfl
  · exact Within.refl _ _

theorem updSwitch_within (s : State) :
    Within [.regs, .tok, .bil, .q, .ses, .dlm, .mail, .upd] s (updSwitch s) := by
  unfold updSwitch
  extract_lets +onlyGivenNames -merge -underBinder t0
  refine Within.step (t := t0) ?_ fun h1 => ?_
  · unfold t0
    refine Within.comp ?_ (coresDown_within _) rfl
    refine Within.comp ?_ (State.raise_within _ _) rfl
    exact (bankSwap_within _).sub rfl
  clear_value t0
  refine Within.comp ?_ (State.raise_within _ _) rfl
  refine Within.comp ?_ (updEnter_within _ _) rfl
  refine Within.comp ?_ (setUpd_within _ _) rfl
  exact h1

theorem execFirmwareFaultReport_answers (s : State) :
    Answers (execFirmwareFaultReport s) (Within [.regs, .tok, .bil, .q, .ses, .dlm, .mail, .upd] s) := by
  unfold execFirmwareFaultReport
  refine Answers.next ?_
  refine Within.ite ?_ ?_
  · exact (trialRevert_within _).sub rfl
  · exact Within.refl _ _

theorem execUpdateTrialTimeout_answers (s : State) :
    Answers (execUpdateTrialTimeout s) (Within [.regs, .tok, .bil, .q, .ses, .dlm, .mail, .upd] s) := by
  unfold execUpdateTrialTimeout
  refine Answers.next ?_
  refine Within.ite ?_ ?_
  · exact (trialRevert_within _).sub rfl
  · exact Within.refl _ _

theorem execUpdateSwitchEval_answers (vbat : Option Nat) (s : State) :
    Answers (execUpdateSwitchEval vbat s) (Within [.regs, .tok, .bil, .q, .ses, .dlm, .mail, .upd] s) := by
  unfold execUpdateSwitchEval
  refine Answers.next ?_
  refine Within.ite ?_ ?_
  · extract_lets +onlyGivenNames -merge -underBinder t0
    refine Within.step (t := t0) ?_ fun h1 => ?_
    · unfold t0
      split
      · exact (vbatLoad_within _ _).sub rfl
      · exact Within.refl _ _
    clear_value t0
    refine Within.ite ?_ ?_
    · refine Within.comp ?_ (updSwitch_within _) rfl
      exact h1
    · refine Within.comp ?_ (State.put_within _ _ _) rfl
      exact h1
  · exact Within.refl _ _

theorem coresRestart_within (code : Nat) (s : State) :
    Within [.regs, .tok, .bil, .q, .ses, .dlm, .mail, .pow, .upd] s (coresRestart code s) := by
  unfold coresRestart
  refine Within.comp ?_ (trialCount_within _) rfl
  exact (coresReset_within _ _).sub rfl

theorem execHostCoresReset_answers (p : Path) (s : State) :
    Answers (execHostCoresReset p s) (Within [.regs, .tok, .bil, .q, .ses, .dlm, .mail, .pow, .upd, .out] s) := by
  unfold execHostCoresReset
  refine Answers.next ?_
  refine Within.trans ?_ (hostOwn_within (fun a0 => ?_) rfl)
  · exact Within.refl _ _
  · exact (coresRestart_within _ _).sub rfl

theorem execPowerGood_answers (i : StartInfo) (s : State) :
    Answers (execPowerGood i s) (Within Part.wide1 s) := by
  unfold execPowerGood
  refine Answers.next ?_
  refine Within.ite ?_ ?_
  · refine Within.comp ?_ (updStart_within _) rfl
    exact (moduleStart_within _ _).sub rfl
  · exact Within.refl _ _

theorem watchdog_within (late : Nat) (save : Option Nat) (s : State) :
    Within Part.wide5 s (watchdog late save s) := by
  unfold watchdog
  extract_lets +onlyGivenNames -merge -underBinder recent0
  extract_lets +onlyGivenNames -merge -underBinder t1
  refine Within.step (t := t1) ?_ fun h2 => ?_
  · unfold t1
    refine Within.ite ?_ ?_
    · exact (resetSaved_within _ _ _ _).sub rfl
    · exact (coresReset_within _ _).sub rfl
  clear_value t1
  refine Within.ite ?_ ?_
  · refine Within.comp ?_ (trialBack_within _) rfl
    exact h2
  · exact h2

theorem execCoreWatchdogExpiry_answers (late : Nat) (save : Option Nat) (s : State) :
    Answers (execCoreWatchdogExpiry late save s) (Within Part.wide5 s) := by
  unfold execCoreWatchdogExpiry
  refine Answers.next ?_
  exact (watchdog_within _ _ _).sub rfl

theorem storeWord_within (p : Path) (r : RegMap.RegRow) (a : Nat) (w : Word) (s : State) :
    Within [.regs] s (storeWord p r a w s) := by
  unfold storeWord
  extract_lets +onlyGivenNames -merge -underBinder b0
  extract_lets +onlyGivenNames -merge -underBinder rw1
  extract_lets +onlyGivenNames -merge -underBinder clr2
  exact (State.setReg_within _ _ _).sub rfl

theorem eventKeep_within (a : Nat) (same : Word) (s : State) :
    Within [.regs] s (eventKeep a same s) := by
  unfold eventKeep
  split
  · refine Within.ite ?_ ?_
    · exact Within.refl _ _
    · exact (State.setReg_within _ _ _).sub rfl
  · exact Within.refl _ _

theorem pfwPcmd_within (p : Path) (a : Nat) (ws : List Word) (s : State) :
    Within [.regs] s (pfwPcmd p a ws s) := by
  unfold pfwPcmd
  split
  · refine Within.ite ?_ ?_
    · exact (presResult_within _ _ _ _).sub rfl
    · exact Within.refl _ _
  · exact Within.refl _ _

theorem readWords_within (p : Path) (x : Nat) (x2 : Nat) (x3 : State) :
    Within [.bil] x3 (readWords p x x2 x3).2 := by
  induction x generalizing p x2 x3 with
  | zero =>
    unfold readWords
    exact Within.refl _ _
  | succ k ih =>
    unfold readWords
    split
    · exact (ih _ _ _).sub rfl
    · extract_lets +onlyGivenNames -merge -underBinder x0
      refine Within.step (t := x0.2) ?_ fun h1 => ?_
      · unfold x0
        exact (readWord_within _ _ _ _).sub rfl
      clear_value x0
      extract_lets +onlyGivenNames -merge -underBinder y2
      refine Within.step (t := y2.2) ?_ fun h3 => ?_
      · unfold y2
        refine Within.comp ?_ (ih _ _ _) rfl
        exact h1
      clear_value y2
      exact h3

theorem tripWrite_within (w : Word) (s : State) :
    Within [.regs, .tok, .saf, .x03] s (tripWrite w s) := by
  unfold tripWrite
  refine Within.ite ?_ ?_
  · refine Within.trans ?_ (Within.when (fun v0 => ?_) _)
    · refine Within.trans ?_ (Within.when (fun v1 => ?_) _)
      · exact Within.refl _ _
      · exact (tripWant_within _).sub rfl
    · exact (rcmTestAsk_within _).sub rfl
  · exact Within.refl _ _

theorem lcdWrite_within (w : Word) (s : State) :
    Within [.regs, .lcd] s (lcdWrite w s) := by
  unfold lcdWrite
  extract_lets +onlyGivenNames -merge -underBinder t0
  refine Within.step (t := t0) ?_ fun h1 => ?_
  · unfold t0
    refine Within.trans ?_ (Within.when (fun v2 => ?_) _)
    · exact Within.refl _ _
    · exact (setLcd_within _ _).sub rfl
  clear_value t0
  refine Within.trans ?_ (Within.when (fun v3 => ?_) _)
  · exact h1
  · exact (lcdNext_within _).sub rfl

theorem crcError_within (p : Path) (s : State) :
    Within [.regs, .out] s (crcError p s) := by
  unfold crcError
  refine Within.comp ?_ (hostReply_within _ _ _) rfl
  refine Within.comp ?_ (State.raise_within _ _) rfl
  exact (State.bumpReg_within _ _ _).sub rfl

theorem refuse_within (p : Path) (status : Nat) (s : State) :
    Within [.regs, .out] s (refuse p status s) := by
  unfold refuse
  refine Within.comp ?_ (hostReply_within _ _ _) rfl
  refine Within.ite ?_ ?_
  · exact (State.raise_within _ _).sub rfl
  · refine Within.ite ?_ ?_
    · exact (State.raise_within _ _).sub rfl
    · exact Within.refl _ _

theorem bilWrite_within (w : Word) (s : State) :
    Within [.regs, .bil] s (bilWrite w s) := by
  unfold bilWrite
  refine Within.ite ?_ ?_
  · exact (viewRelease_within _).sub rfl
  · refine Within.ite ?_ ?_
    · exact (viewSnap_within _).sub rfl
    · exact Within.refl _ _

theorem hostRead_within (p : Path) (crc : Bool) (a : Nat) (n : Nat) (s : State) :
    Within [.regs, .bil, .out] s (hostRead p crc a n s) := by
  unfold hostRead
  refine Within.ite ?_ ?_
  · exact Within.refl _ _
  · refine Within.ite ?_ ?_
    · exact (crcError_within _ _).sub rfl
    · extract_lets +onlyGivenNames -merge -underBinder t0
      refine Within.step (t := t0) ?_ fun h1 => ?_
      · unfold t0
        exact (hostAccess_within _ _).sub rfl
      clear_value t0
      extract_lets +onlyGivenNames -merge -underBinder st2
      refine Within.ite ?_ ?_
      · extract_lets +onlyGivenNames -merge -underBinder x3
        refine Within.step (t := x3.2) ?_ fun h4 => ?_
        · unfold x3
          refine Within.comp ?_ (readWords_within _ _ _ _) rfl
          exact h1
        clear_value x3
        refine Within.comp ?_ (hostReply_within _ _ _) rfl
        refine Within.comp ?_ (State.emit_within _ _) rfl
        exact h4
      · refine Within.comp ?_ (refuse_within _ _ _) rfl
        refine Within.ite ?_ ?_
        · refine Within.comp ?_ (State.emit_within _ _) rfl
          exact h1
        · exact h1

theorem ptsWrite_within (owner : Bool) (w : Word) (s : State) :
    Within [.regs, .pts] s (ptsWrite owner w s) := by
  unfold ptsWrite
  extract_lets +onlyGivenNames -merge -underBinder t0
  refine Within.step (t := t0) ?_ fun h1 => ?_
  · unfold t0
    refine Within.trans ?_ (Within.when (fun v2 => ?_) _)
    · exact Within.refl _ _
    · exact (testNow_within _).sub rfl
  clear_value t0
  extract_lets +onlyGivenNames -merge -underBinder t3
  refine Within.step (t := t3) ?_ fun h4 => ?_
  · unfold t3
    refine Within.trans ?_ (Within.when (fun v5 => ?_) _)
    · exact h1
    · exact (clearMism_within _).sub rfl
  clear_value t3
  refine Within.ite ?_ ?_
  · refine Within.ite ?_ ?_
    · refine Within.comp ?_ (trialBegin_within _) rfl
      exact h4
    · refine Within.ite ?_ ?_
      · refine Within.comp ?_ (trialStop_within _) rfl
        exact h4
      · exact h4
  · exact h4

theorem pcmdWrite_within (p : Path) (w : Word) (s : State) :
    Within [.regs, .params, .tok, .parPend, .boot] s (pcmdWrite p w s) := by
  unfold pcmdWrite
  extract_lets +onlyGivenNames -merge -underBinder op0
  refine Within.ite ?_ ?_
  · exact Within.refl _ _
  · refine Within.ite ?_ ?_
    · exact (paramRead_within _ _ _).sub rfl
    · refine Within.ite ?_ ?_
      · exact (paramStore_within _ _ _).sub rfl
      · exact Within.refl _ _

theorem updWrite_within (f : WriteFacts) (w : Word) (s : State) :
    Within [.regs] s (updWrite f w s) := by
  unfold updWrite
  refine Within.trans ?_ (Within.when (fun v0 => ?_) _)
  · refine Within.trans ?_ (Within.when (fun v1 => ?_) _)
    · refine Within.trans ?_ (Within.when (fun v2 => ?_) _)
      · exact Within.refl _ _
      · exact (updArm_within _ _).sub rfl
    · exact (updDisarm_within _).sub rfl
  · exact (ownerLock_within _).sub rfl

theorem execLowWordLatchRead_answers (p : Path) (addr : Nat) (s : State) :
    Answers (execLowWordLatchRead p addr s) (Within [.regs, .bil, .out] s) := by
  unfold execLowWordLatchRead
  refine Answers.next ?_
  refine Within.ite ?_ ?_
  · exact (hostRead_within _ _ _ _ _).sub rfl
  · exact Within.refl _ _

theorem setctlWrite_within (f : WriteFacts) (w : Word) (s : State) :
    Within [.regs, .btm, .logs] s (setctlWrite f w s) := by
  unfold setctlWrite
  refine Within.ite ?_ ?_
  · exact (clockSet_within _ _ _ _ _).sub rfl
  · exact Within.refl _ _

theorem execHostRegisterRead_answers (p : Path) (crc : Bool) (addr : Nat) (n : Nat) (s : State) :
    Answers (execHostRegisterRead p crc addr n s) (Within [.regs, .bil, .out] s) := by
  unfold execHostRegisterRead
  refine Answers.next ?_
  exact (hostRead_within _ _ _ _ _).sub rfl

theorem lswWrite_within (n : Nat) (w : Word) (s : State) :
    Within [.regs, .tok, .lsw] s (lswWrite n w s) := by
  unfold lswWrite
  refine Within.trans ?_ (Within.when (fun v0 => ?_) _)
  · exact (lsCommand_within _ _ _).sub rfl
  · exact (lsReset_within _ _).sub rfl

theorem discWrite_within (owner : Bool) (w : Word) (s : State) :
    Within [.regs, .tok, .bil, .btm, .logs, .saf, .x04, .x06, .q, .grpSeq, .ses, .amb, .eth, .x11, .out] s (discWrite owner w s) := by
  unfold discWrite
  refine Within.comp ?_ (sesDisconnect_within _) rfl
  exact (discControl_within _ _ _ _).sub rfl

theorem execHostReconnect_answers (p : Path) (s : State) :
    Answers (execHostReconnect p s) (Within [.regs, .tok, .bil, .btm, .logs, .saf, .x04, .x06, .q, .grpSeq, .ses, .amb, .eth, .x11, .out] s) := by
  unfold execHostReconnect
  refine Answers.next ?_
  refine Within.trans ?_ (hostOwn_within (fun a0 => ?_) rfl)
  · exact Within.refl _ _
  · exact (discWrite_within _ _ _).sub rfl

theorem execHostDisconnect_answers (p : Path) (s : State) :
    Answers (execHostDisconnect p s) (Within [.regs, .tok, .bil, .btm, .logs, .saf, .x04, .x06, .q, .grpSeq, .ses, .amb, .eth, .x11, .out] s) := by
  unfold execHostDisconnect
  refine Answers.next ?_
  refine Within.trans ?_ (hostOwn_within (fun a0 => ?_) rfl)
  · exact Within.refl _ _
  · exact (discWrite_within _ _ _).sub rfl

theorem rstWrite_within (f : WriteFacts) (w : Word) (s : State) :
    Within Part.wide5 s (rstWrite f w s) := by
  unfold rstWrite
  refine Within.ite ?_ ?_
  · exact (resetSaved_within _ _ _ _).sub rfl
  · refine Within.ite ?_ ?_
    · exact (coresRestart_within _ _).sub rfl
    · exact Within.refl _ _

theorem regEffect_within (p : Path) (f : WriteFacts) (r : RegMap.RegRow) (a : Nat) (w : Word) (s : State) :
    Within Part.wide2 s (regEffect p f r a w s) := by
  unfold regEffect
  refine Within.ite ?_ ?_
  · exact (rstWrite_within _ _ _).sub rfl
  · refine Within.ite ?_ ?_
    · exact (xingStatsClear_within _ _).sub rfl
    · refine Within.ite ?_ ?_
      · refine Within.trans ?_ (Within.when (fun v0 => ?_) _)
        · exact Within.refl _ _
        · exact (ttbClearUse_within _).sub rfl
      · refine Within.ite ?_ ?_
        · refine Within.trans ?_ (Within.when (fun v1 => ?_) _)
          · exact Within.refl _ _
          · exact (xbStart_within _).sub rfl
        · refine Within.ite ?_ ?_
          · exact (shnControl_within _ _).sub rfl
          · refine Within.ite ?_ ?_
            · exact (shnShadow_within _ _ _ _).sub rfl
            · refine Within.ite ?_ ?_
              · exact (sesctlWrite_within _ _ _).sub rfl
              · refine Within.ite ?_ ?_
                · exact (pcmdWrite_within _ _ _).sub rfl
                · refine Within.ite ?_ ?_
                  · exact (ptsWrite_within _ _ _).sub rfl
                  · refine Within.ite ?_ ?_
                    · exact (bilWrite_within _ _).sub rfl
                    · refine Within.ite ?_ ?_
                      · exact (discWrite_within _ _ _).sub rfl
                      · refine Within.ite ?_ ?_
                        · exact (setctlWrite_within _ _ _).sub rfl
                        · refine Within.ite ?_ ?_
                          · exact (tripWrite_within _ _).sub rfl
                          · refine Within.ite ?_ ?_
                            · exact (sesCtl_within _ _).sub rfl
                            · refine Within.ite ?_ ?_
                              · exact (authCtl_within _ _).sub rfl
                              · refine Within.ite ?_ ?_
                                · exact (portEnable_within _ _).sub rfl
                                · refine Within.ite ?_ ?_
                                  · refine Within.trans ?_ (Within.when (fun v2 => ?_) _)
                                    · exact Within.refl _ _
                                    · exact (keyGo_within _ _).sub rfl
                                  · refine Within.ite ?_ ?_
                                    · exact (updWrite_within _ _ _).sub rfl
                                    · refine Within.ite ?_ ?_
                                      · exact (listEdit_within _ _ _).sub rfl
                                      · refine Within.ite ?_ ?_
                                        · refine Within.trans ?_ (Within.when (fun v3 => ?_) _)
                                          · exact Within.refl _ _
                                          · exact (hostNote_within _ _).sub rfl
                                        · refine Within.ite ?_ ?_
                                          · exact (lswWrite_within _ _ _).sub rfl
                                          · refine Within.ite ?_ ?_
                                            · exact (lcdWrite_within _ _).sub rfl
                                            · exact (storeWord_within _ _ _ _ _).sub rfl

theorem writeWord_within (p : Path) (f : WriteFacts) (a : Nat) (w : Word) (s : State) :
    Within Part.wide2 s (writeWord p f a w s) := by
  unfold writeWord
  split
  · refine Within.trans ?_ (toIsland_within (fun a0 => ?_) rfl)
    · exact Within.refl _ _
    · exact (regEffect_within _ _ _ _ _ _).sub rfl
  · exact Within.refl _ _

theorem writeWords_within (p : Path) (f : WriteFacts) (x : Nat) (x3 : List Word) (x4 : State) :
    Within Part.wide2 x4 (writeWords p f x x3 x4) := by
  induction x3 generalizing p f x x4 with
  | nil =>
    unfold writeWords
    exact Within.refl _ _
  | cons w ws ih =>
    unfold writeWords
    refine Within.comp ?_ (ih _ _ _ _) rfl
    exact (writeWord_within _ _ _ _ _).sub rfl

theorem hostWrite_within (p : Path) (crc : Bool) (a : Nat) (ws : List Word) (f : WriteFacts) (s : State) :
    Within Part.wide2 s (hostWrite p crc a ws f s) := by
  unfold hostWrite
  refine Within.ite ?_ ?_
  · exact Within.refl _ _
  · refine Within.ite ?_ ?_
    · exact (crcError_within _ _).sub rfl
    · extract_lets +onlyGivenNames -merge -underBinder t0
      refine Within.step (t := t0) ?_ fun h1 => ?_
      · unfold t0
        exact (hostAccess_within _ _).sub rfl
      clear_value t0
      extract_lets +onlyGivenNames -merge -underBinder st2
      refine Within.ite ?_ ?_
      · refine Within.comp ?_ (hostReply_within _ _ _) rfl
        refine Within.comp ?_ (writeWords_within _ _ _ _ _) rfl
        exact h1
      · refine Within.comp ?_ (refuse_within _ _ _) rfl
        refine Within.ite ?_ ?_
        · refine Within.comp ?_ (pfwPcmd_within _ _ _ _) rfl
          exact h1
        · exact h1

theorem execHostRegisterWrite_answers (p : Path) (crc : Bool) (addr : Nat) (words : List Word) (facts : WriteFacts) (s : State) :
    Answers (execHostRegisterWrite p crc addr words facts s) (Within Part.wide2 s) := by
  unfold execHostRegisterWrite
  refine Answers.next ?_
  exact (hostWrite_within _ _ _ _ _ _).sub rfl

theorem execEventBitClear_answers (p : Path) (addr : Nat) (bits : Word) (same : Word) (s : State) :
    Answers (execEventBitClear p addr bits same s) (Within Part.wide2 s) := by
  unfold execEventBitClear
  refine Answers.next ?_
  extract_lets +onlyGivenNames -merge -underBinder t0
  refine Within.step (t := t0) ?_ fun h1 => ?_
  · unfold t0
    exact (hostWrite_within _ _ _ _ _ _).sub rfl
  clear_value t0
  split
  · refine Within.ite ?_ ?_
    · exact Within.refl _ _
    · refine Within.ite ?_ ?_
      · refine Within.comp ?_ (eventKeep_within _ _ _) rfl
        exact h1
      · exact h1
  · exact Within.refl _ _

theorem noteLost_within (n : Nat) (s : State) :
    Within [.nfc] s (noteLost n s) := by
  unfold noteLost
  extract_lets +onlyGivenNames -merge -underBinder bad0
  extract_lets +onlyGivenNames -merge -underBinder x1
  exact (setNfc_within _ _).sub rfl

theorem snapLost_within (a : Nat) (s : State) :
    Within [.nfc] s (snapLost a s) := by
  unfold snapLost
  extract_lets +onlyGivenNames -merge -underBinder b0
  exact (setNfc_within _ _).sub rfl

theorem waybillLost_within (kind : Nat) (seq : Nat) (s : State) :
    Within [.regs, .bil] s (waybillLost kind seq s) := by
  unfold waybillLost
  extract_lets +onlyGivenNames -merge -underBinder keep0
  refine Within.comp ?_ (showWaybills_within _) rfl
  refine Within.comp ?_ (Within.upd_bil _ _) rfl
  exact Within.refl _ _

theorem profileLost_within (p : Nat) (i : Nat) (s : State) :
    Within [.regs, .bil] s (profileLost p i s) := by
  unfold profileLost
  refine Within.comp ?_ (showProfiles_within _) rfl
  refine Within.ite ?_ ?_
  · refine Within.comp ?_ (Within.upd_bil _ _) rfl
    exact Within.refl _ _
  · refine Within.comp ?_ (Within.upd_bil _ _) rfl
    exact Within.refl _ _

theorem verifyWrite_within (h : MemHit) (again : Bool) (s : State) :
    Within [.regs, .tok, .logs, .mem] s (verifyWrite h again s) := by
  unfold verifyWrite
  refine Within.ite ?_ ?_
  · exact (memDue_within _ _).sub rfl
  · exact Within.refl _ _

theorem billLost_within (s : State) :
    Within [.regs, .logs] s (billLost s) := by
  unfold billLost
  refine Within.comp ?_ (faultNote_within _ _ _ _) rfl
  refine Within.comp ?_ (State.lower_within _ _) rfl
  exact (State.raise_within _ _).sub rfl

theorem codeLost_within (s : State) :
    Within [.regs, .tok, .bil, .logs, .q, .ses, .dlm, .mail, .pow, .upd] s (codeLost s) := by
  unfold codeLost
  extract_lets +onlyGivenNames -merge -underBinder t0
  refine Within.step (t := t0) ?_ fun h1 => ?_
  · unfold t0
    exact (coresRestart_within _ _).sub rfl
  clear_value t0
  extract_lets +onlyGivenNames -merge -underBinder b2
  refine Within.comp ?_ (faultNote_within _ _ _ _) rfl
  refine Within.comp ?_ (setUpd_within _ _) rfl
  refine Within.comp ?_ (State.raise_within _ _) rfl
  exact h1

theorem logLost_within (l i : Nat) (s : State) : Within [.logs] s (logLost l i s) := by
  unfold logLost
  extract_lets +onlyGivenNames x
  refine logs_within s _ _ fun v h => ?_
  exact Nat.le_trans (List.length_eraseIdx_le _ _) (v.logs.room l h)

theorem contentLost_within (u : MemUse) (late : Nat) (save : Option Nat) (s : State) :
    Within Part.wide5 s (contentLost u late save s) := by
  unfold contentLost
  split
  · refine Within.ite ?_ ?_
    · exact (billLost_within _).sub rfl
    · exact Within.refl _ _
  · exact Within.refl _ _
  · exact (profileLost_within _ _ _).sub rfl
  · exact (logLost_within _ _ _).sub rfl
  · exact (waybillLost_within _ _ _).sub rfl
  · exact (State.raise_within _ _).sub rfl
  · refine Within.comp ?_ (levelsCheck_within _) rfl
    refine Within.comp ?_ (slotClear_within _ _ _) rfl
    exact (orphanAll_within _ _).sub rfl
  · exact (setBoot_within _ _).sub rfl
  · refine Within.comp ?_ (overlayShow_within _) rfl
    refine Within.comp ?_ (State.raise_within _ _) rfl
    exact (setBoot_within _ _).sub rfl
  · exact (noteLost_within _ _).sub rfl
  · exact (snapLost_within _ _).sub rfl
  · exact (islandFault_within _ _ _ _ _).sub rfl
  · exact (codeLost_within _).sub rfl
  · exact Within.refl _ _

theorem hitLost_within (h : MemHit) (late : Nat) (save : Option Nat) (s : State) :
    Within Part.wide5 s (hitLost h late save s) := by
  unfold hitLost
  refine Within.comp ?_ (memDue_within _ _) rfl
  refine Within.comp ?_ (contentLost_within _ _ _ _) rfl
  exact (eccLost_within _ _).sub rfl

theorem memHit_within (scrub : Bool) (late : Nat) (save : Option Nat) (h : MemHit) (s : State) :
    Within Part.wide2 s (memHit scrub late save h s).2 := by
  unfold memHit
  extract_lets +onlyGivenNames -merge -underBinder n0
  refine Within.ite2 ?_ ?_
  · exact Within.refl _ _
  · refine Within.ite2 ?_ ?_
    · refine Within.comp ?_ (wearJudge_within _ _ _) rfl
      exact (eccCorrected_within _ _).sub rfl
    · refine Within.ite2 ?_ ?_
      · exact (hitLost_within _ _ _ _).sub rfl
      · extract_lets +onlyGivenNames -merge -underBinder x1
        refine Within.step (t := x1.2) ?_ fun h2 => ?_
        · unfold x1
          exact (State.fresh_within _).sub rfl
        clear_value x1
        refine Within.ite2 ?_ ?_
        · refine Within.comp ?_ (hitLost_within _ _ _ _) rfl
          exact h2
        · exact h2

theorem memHits_within (scrub : Bool) (late : Nat) (save : Option Nat) (l : List MemHit) (s : State) :
    Within Part.wide2 s (memHits scrub late save l s) := by
  unfold memHits
  refine Within.trans ?_ (Within.foldl (fun v0 v1 => ?_) _)
  · exact Within.refl _ _
  · exact (memHit_within _ _ _ _ _).sub rfl

theorem shnReceive_within (ch : Nat) (d : ShnSet) (s : State) :
    Within [.regs, .q, .mem] s (shnReceive ch d s) := by
  unfold shnReceive
  split
  · exact Within.refl _ _
  · split
    · exact Within.refl _ _
    · refine Within.comp ?_ (State.put_within _ _ _) rfl
      refine Within.comp ?_ (fabWrite_within _ _ _) rfl
      exact (setQueue_within _ _ _).sub rfl

theorem shnMismatch_within (ch : Nat) (k : Nat) (s : State) :
    Within [.regs] s (shnMismatch ch k s) := by
  unfold shnMismatch
  extract_lets +onlyGivenNames -merge -underBinder t0
  refine Within.step (t := t0) ?_ fun h1 => ?_
  · unfold t0
    refine Within.ite ?_ ?_
    · exact (State.put_within _ _ _).sub rfl
    · exact Within.refl _ _
  clear_value t0
  refine Within.comp ?_ (State.bump_within _ _ _) rfl
  exact h1

theorem shnSend_within (ch : Nat) (d : ShnSet) (s : State) :
    Within [.regs, .q, .eth, .free] s (shnSend ch d s) := by
  unfold shnSend
  extract_lets +onlyGivenNames -merge -underBinder x0
  refine Within.step (t := x0.2) ?_ fun h1 => ?_
  · unfold x0
    exact (State.fresh_within _).sub rfl
  clear_value x0
  extract_lets +onlyGivenNames -merge -underBinder len2
  extract_lets +onlyGivenNames -merge -underBinder q3
  extract_lets +onlyGivenNames -merge -underBinder fr4
  extract_lets +onlyGivenNames -merge -underBinder t5
  refine Within.step (t := t5) ?_ fun h6 => ?_
  · unfold t5
    refine Within.ite ?_ ?_
    · refine Within.comp ?_ (ethWrite_within _ _ _) rfl
      exact h1
    · refine Within.comp ?_ (enqueue_within _ _ _) rfl
      exact h1
  clear_value t5
  refine Within.comp ?_ (State.put_within _ _ _) rfl
  exact h6

theorem shnRegs_within (a : Nat) (bs : List Byte) (f : WriteFacts) (s : State) :
    Within Part.wide2 s (shnRegs a bs f s) := by
  unfold shnRegs
  extract_lets +onlyGivenNames -merge -underBinder lo0
  extract_lets +onlyGivenNames -merge -underBinder all1
  refine Within.trans ?_ (Within.foldl (fun v2 v3 => ?_) _)
  · exact Within.refl _ _
  · exact (writeWord_within _ _ _ _ _).sub rfl

theorem shnPut_within (a : Nat) (bs : List Byte) (f : WriteFacts) (s : State) :
    Within Part.wide2 s (shnPut a bs f s) := by
  unfold shnPut
  split
  · exact (xingWrite_within _ _ _).sub rfl
  · exact (shnRegs_within _ _ _ _).sub rfl
  · exact (fabWrite_within _ _ _).sub rfl

theorem shnMeet_within (scrub : Bool) (f : WriteFacts) (x : List MemHit) (x3 : State) :
    Within Part.wide2 x3 (shnMeet scrub f x x3).2 := by
  induction x generalizing scrub f x3 with
  | nil =>
    unfold shnMeet
    exact Within.refl _ _
  | cons w ws ih =>
    unfold shnMeet
    extract_lets +onlyGivenNames -merge -underBinder x0
    refine Within.step (t := x0.2) ?_ fun h1 => ?_
    · unfold x0
      exact (memHit_within _ _ _ _ _).sub rfl
    clear_value x0
    refine Within.ite2 ?_ ?_
    · exact h1
    · refine Within.comp ?_ (ih _ _ _) rfl
      exact h1

theorem shnFetch_within (a n : Nat) (s : State) {x : List Byte × State} (h : shnFetch a n s = some x) :
    Within Part.wide2 s x.2 := by
  unfold shnFetch at h
  split at h
  · split at h
    · cases h; exact (xingAccept_within _ _).sub rfl
    · cases h
  · cases h; exact Within.refl _ _
  · cases h; exact Within.refl _ _

theorem shnCopy_within (src dst n : Nat) (f : WriteFacts) (s : State) {t : State} (h : shnCopy src dst n f s = some t) :
    Within Part.wide2 s t := by
  unfold shnCopy at h
  obtain ⟨x, hx, rfl⟩ := Option.map_eq_some_iff.1 h
  exact Within.comp (shnFetch_within _ _ _ hx) (shnPut_within _ _ _ _) rfl

theorem shnFrame_within (d : ShnSet) (gather : Bool) (k : Nat) (f : WriteFacts) (n c : Nat) (s : State) {t : State}
    (h : shnFrame d gather k f n c s = some t) : Within Part.wide2 s t := by
  induction n generalizing c s with
  | zero => cases h; exact Within.refl _ _
  | succ n ih =>
    rw [shnFrame] at h
    obtain ⟨u, hu, h⟩ := Option.bind_eq_some_iff.1 h
    exact (shnCopy_within _ _ _ _ _ hu).trans (ih _ _ h)

theorem shnPlanes_within (d : ShnSet) (k : Nat) (f : WriteFacts) (s : State) {t : State} (h : shnPlanes d k f s = some t) :
    Within Part.wide2 s t := by
  unfold shnPlanes at h
  obtain ⟨x, hx, rfl⟩ := Option.map_eq_some_iff.1 h
  exact (shnFetch_within _ _ _ hx).trans (Within.upTo (fun i v => (shnPut_within _ _ _ _).sub rfl) _)

theorem shnCompare_within (d : ShnSet) (ch k : Nat) (s : State) {t : State} (h : shnCompare d ch k s = some t) :
    Within Part.wide2 s t := by
  unfold shnCompare at h
  obtain ⟨x, hx, h⟩ := Option.bind_eq_some_iff.1 h
  refine (shnFetch_within _ _ _ hx).trans ?_
  split at h
  · cases h; exact Within.refl _ _
  · split at h
    · cases h
      exact Within.ite (Within.refl _ _) ((shnMismatch_within _ _ _).sub rfl)
    · obtain ⟨y, hy, rfl⟩ := Option.map_eq_some_iff.1 h
      refine (shnFetch_within _ _ _ hy).trans ?_
      exact Within.ite (Within.refl _ _) ((shnMismatch_within _ _ _).sub rfl)

theorem shnElement_within (d : ShnSet) (ch k : Nat) (f : WriteFacts) (s : State) {t : State} (h : shnElement d ch k f s = some t) :
    Within Part.wide2 s t := by
  unfold shnElement at h
  dsimp only at h
  split at h
  · exact shnCopy_within _ _ _ _ _ h
  · exact shnFrame_within _ _ _ _ _ _ _ h
  · exact shnFrame_within _ _ _ _ _ _ _ h
  · exact shnPlanes_within _ _ _ _ h
  · cases h; exact (shnPut_within _ _ _ _).sub rfl
  · exact shnCompare_within _ _ _ _ h

theorem shnElements_within (d : ShnSet) (ch : Nat) (f : WriteFacts) (hits : List MemHit) (n k : Nat) (s : State) :
    Within Part.wide2 s (shnElements d ch f hits n k s) := by
  induction n generalizing k s with
  | zero => exact Within.refl _ _
  | succ n ih =>
    unfold shnElements
    extract_lets +onlyGivenNames -merge -underBinder count x
    have hx : Within Part.wide2 s x.2 := (shnMeet_within _ _ _ _).sub rfl
    refine Within.ite ?_ ?_
    · exact Within.comp (Within.comp hx (shnState_within _ _ _) rfl) (shnCode_within _ _ _) rfl
    · split
      · exact hx
      · rename_i t e
        have ht := hx.trans (shnElement_within _ _ _ _ _ e)
        exact Within.ite (Within.trans (Within.comp ht (State.put_within _ _ _) rfl) (ih _ _)) ht

theorem shnBurst_within (ch : Nat) (hits : List MemHit) (f : WriteFacts) (s : State) :
    Within Part.wide2 s (shnBurst ch hits f s) := by
  unfold shnBurst
  refine Within.ite ?_ ?_
  · exact Within.refl _ _
  · extract_lets +onlyGivenNames -merge -underBinder d0
    refine Within.ite ?_ ?_
    · extract_lets +onlyGivenNames -merge -underBinder k1
      exact (shnElements_within _ _ _ _ _ _ _).sub rfl
    · refine Within.ite ?_ ?_
      · exact (shnSend_within _ _ _).sub rfl
      · exact (shnReceive_within _ _ _).sub rfl

theorem slotWork_within (k : Nat) (g : SlotGrant) (work : SlotWork) (f : WriteFacts) (s : State) :
    Within Part.wide2 s (slotWork k g work f s) := by
  unfold slotWork
  split
  · exact Within.refl _ _
  · refine Within.ite ?_ ?_
    · exact (shnBurst_within _ _ _ _).sub rfl
    · exact Within.refl _ _
  · refine Within.ite ?_ ?_
    · refine Within.comp ?_ (State.put_within _ _ _) rfl
      exact (memHits_within _ _ _ _ _).sub rfl
    · exact Within.refl _ _
  · refine Within.ite ?_ ?_
    · exact (memHits_within _ _ _ _ _).sub rfl
    · exact Within.refl _ _
  · refine Within.ite ?_ ?_
    · exact (verifyWrite_within _ _ _).sub rfl
    · exact Within.refl _ _

theorem execTimetableSlotGrant_answers (k : Nat) (waiting : Nat) (work : SlotWork) (late : Nat) (save : Option Nat) (s : State) :
    Answers (execTimetableSlotGrant k waiting work late save s) (Within Part.wide2 s) := by
  unfold execTimetableSlotGrant
  refine Answers.next ?_
  refine Within.ite ?_ ?_
  · extract_lets +onlyGivenNames -merge -underBinder g0
    refine Within.comp ?_ (slotWork_within _ _ _ _ _) rfl
    exact (slotTake_within _ _ _).sub rfl
  · exact Within.refl _ _

theorem mailReply_within (p : Path) (m : List Byte) (result : Nat) (body : List Byte) (s : State) :
    Within [.q] s (mailReply p m result body s) := by
  unfold mailReply
  exact (enqueue_within _ _ _).sub rfl

theorem mailClean_within (x : Nat) (x1 : State) :
    Within [.q] x1 (mailClean x x1) := by
  induction x generalizing x1 with
  | zero =>
    unfold mailClean
    exact Within.refl _ _
  | succ k ih =>
    unfold mailClean
    split
    · refine Within.ite ?_ ?_
      · exact Within.refl _ _
      · refine Within.comp ?_ (ih _) rfl
        refine Within.comp ?_ (mailReply_within _ _ _ _ _) rfl
        exact (setQueue_within _ _ _).sub rfl
    · exact Within.refl _ _

theorem mailRun_within {ps : List Part} {type op home : Nat} {need : List Byte → Nat}
    {rule : Path → List Byte → State → Option (Nat × List Byte) × State} {s : State}
    (h : ∀ p m v, Within ps v (rule p m v).2) (hc : Part.covers [.q] ps = true) : Within ps s (mailRun type op home need rule s) := by
  unfold mailRun
  extract_lets +onlyGivenNames u
  have hu : Within ps s u := (mailClean_within _ _).sub hc
  have reply : ∀ p m c b v, Within ps v (mailReply p m c b v) := fun p m c b v => (mailReply_within _ _ _ _ _).sub hc
  clear_value u
  split
  · exact hu
  · rename_i q f e
    refine Within.ite ?_ hu
    extract_lets +onlyGivenNames t p c x
    have ht : Within ps s t := hu.trans ((setQueue_within _ _ _).sub hc)
    refine Within.ite (ht.trans (reply _ _ _ _ _)) ?_
    have hx : Within ps s x.2 := ht.trans (h _ _ _)
    split
    · exact hx.trans (reply _ _ _ _ _)
    · exact hx

theorem replies_within {ps : List Part} {f : List Byte → State → (Nat × List Byte) × State} {p : Path} {m : List Byte} {s : State}
    (h : ∀ m v, Within ps v (f m v).2) (_hc : Part.covers [] ps = true) : Within ps s (replies f p m s).2 := h m s

theorem execMbReadProfile_answers (s : State) :
    Answers (execMbReadProfile s) (Within [.q] s) := by
  unfold execMbReadProfile
  refine Answers.next ?_
  refine Within.trans ?_ (mailRun_within (fun a0 a1 a2 => ?_) rfl)
  · exact Within.refl _ _
  · refine Within.trans ?_ (replies_within (fun a0 a1 => ?_) rfl)
    · exact Within.refl _ _
    · exact Within.refl _ _

theorem execMbReadOutage_answers (s : State) :
    Answers (execMbReadOutage s) (Within [.q] s) := by
  unfold execMbReadOutage
  refine Answers.next ?_
  refine Within.trans ?_ (mailRun_within (fun a0 a1 a2 => ?_) rfl)
  · exact Within.refl _ _
  · refine Within.trans ?_ (replies_within (fun a0 a1 => ?_) rfl)
    · exact Within.refl _ _
    · exact Within.refl _ _

theorem setMail_within (m : MailState) (s : State) :
    Within [.mail] s (setMail m s) := by
  unfold setMail
  refine Within.comp ?_ (Within.upd_mail _ _) rfl
  exact Within.refl _ _

theorem execMbRemoteId_answers (s : State) :
    Answers (execMbRemoteId s) (Within [.q, .ses] s) := by
  unfold execMbRemoteId
  refine Answers.next ?_
  refine Within.trans ?_ (mailRun_within (fun a0 a1 a2 => ?_) rfl)
  · exact Within.refl _ _
  · refine Within.trans ?_ (replies_within (fun a0 a1 => ?_) rfl)
    · exact Within.refl _ _
    · extract_lets +onlyGivenNames -merge -underBinder b0
      refine Within.ite2 ?_ ?_
      · exact Within.refl _ _
      · exact (setSes_within _ _).sub rfl

theorem execMbReadWaybill_answers (s : State) :
    Answers (execMbReadWaybill s) (Within [.q] s) := by
  unfold execMbReadWaybill
  refine Answers.next ?_
  refine Within.trans ?_ (mailRun_within (fun a0 a1 a2 => ?_) rfl)
  · exact Within.refl _ _
  · refine Within.trans ?_ (replies_within (fun a0 a1 => ?_) rfl)
    · exact Within.refl _ _
    · exact Within.refl _ _

theorem creditReplies_within (s : State) :
    Within [.q, .mail] s (creditReplies s) := by
  unfold creditReplies
  refine Within.ite ?_ ?_
  · exact Within.refl _ _
  · extract_lets +onlyGivenNames -merge -underBinder done0
    extract_lets +onlyGivenNames -merge -underBinder j2 t1
    refine Within.step (t := t1) ?_ fun h3 => ?_
    · unfold t1
      exact (setMail_within _ _).sub rfl
    clear_value t1
    refine Within.trans ?_ (Within.foldl (fun v4 v5 => ?_) _)
    · exact h3
    · exact (enqueue_within _ _ _).sub rfl

theorem pageWrite_within (a : Nat) (data : List Byte) (s : State) :
    Within [.boot, .mem] s (pageWrite a data s) := by
  unfold pageWrite
  extract_lets +onlyGivenNames -merge -underBinder sec0
  extract_lets +onlyGivenNames -merge -underBinder j2 t1
  refine Within.step (t := t1) ?_ fun h3 => ?_
  · unfold t1
    refine Within.ite ?_ ?_
    · exact Within.refl _ _
    · refine Within.comp ?_ (setBoot_within _ _) rfl
      exact (fabErase_within _ _ _).sub rfl
  clear_value t1
  refine Within.comp ?_ (fabWrite_within _ _ _) rfl
  exact h3

theorem execMbReadLog_answers (s : State) :
    Answers (execMbReadLog s) (Within [.q] s) := by
  unfold execMbReadLog
  refine Answers.next ?_
  refine Within.trans ?_ (mailRun_within (fun a0 a1 a2 => ?_) rfl)
  · exact Within.refl _ _
  · refine Within.trans ?_ (replies_within (fun a0 a1 => ?_) rfl)
    · exact Within.refl _ _
    · exact Within.refl _ _

theorem writeFlash_within (m : List Byte) (s : State) :
    Within [.regs, .boot, .mem] s (writeFlash m s).2 := by
  unfold writeFlash
  extract_lets +onlyGivenNames -merge -underBinder b0
  extract_lets +onlyGivenNames -merge -underBinder n1
  extract_lets +onlyGivenNames -merge -underBinder off2
  refine Within.ite2 ?_ ?_
  · exact Within.refl _ _
  · split
    · exact Within.refl _ _
    · refine Within.ite2 ?_ ?_
      · exact Within.refl _ _
      · refine Within.ite2 ?_ ?_
        · refine Within.ite2 ?_ ?_
          · exact Within.refl _ _
          · exact (pageWrite_within _ _ _).sub rfl
        · refine Within.ite2 ?_ ?_
          · exact (State.put_within _ _ _).sub rfl
          · refine Within.comp ?_ (pageWrite_within _ _ _) rfl
            refine Within.comp ?_ (updEnter_within _ _) rfl
            exact (State.lower_within _ _).sub rfl

theorem irqNotify_within (s : State) :
    Within [.regs, .q, .mail] s (irqNotify s) := by
  unfold irqNotify
  extract_lets +onlyGivenNames -merge -underBinder now0
  refine Within.ite ?_ ?_
  · exact Within.refl _ _
  · extract_lets +onlyGivenNames -merge -underBinder j2 t1
    refine Within.step (t := t1) ?_ fun h3 => ?_
    · unfold t1
      exact (setMail_within _ _).sub rfl
    clear_value t1
    extract_lets +onlyGivenNames -merge -underBinder gained4
    refine Within.ite ?_ ?_
    · refine Within.comp ?_ (notify_within _ _ _) rfl
      exact h3
    · exact h3

theorem cardActivate_within (found : Bool) (s : State) :
    Within [.regs, .nfc] s (cardActivate found s).2 := by
  unfold cardActivate
  refine Within.ite2 ?_ ?_
  · exact Within.refl _ _
  · refine Within.ite2 ?_ ?_
    · exact Within.refl _ _
    · refine Within.ite2 ?_ ?_
      · refine Within.comp ?_ (setNfc_within _ _) rfl
        exact (State.raise_within _ _).sub rfl
      · exact Within.refl _ _

theorem mailPop_within (p : Path) (crc : Bool) (q : Nat) (s : State) :
    Within [.regs, .q, .out] s (mailPop p crc q s) := by
  unfold mailPop
  refine Within.ite ?_ ?_
  · exact Within.refl _ _
  · refine Within.ite ?_ ?_
    · exact (crcError_within _ _).sub rfl
    · extract_lets +onlyGivenNames -merge -underBinder t0
      refine Within.step (t := t0) ?_ fun h1 => ?_
      · unfold t0
        exact (hostAccess_within _ _).sub rfl
      clear_value t0
      split
      · refine Within.comp ?_ (hostReply_within _ _ _) rfl
        refine Within.comp ?_ (State.emit_within _ _) rfl
        refine Within.comp ?_ (setQueue_within _ _ _) rfl
        exact h1
      · refine Within.comp ?_ (hostReply_within _ _ _) rfl
        refine Within.comp ?_ (State.emit_within _ _) rfl
        exact h1

theorem execMbCardActivate_answers (found : Bool) (s : State) :
    Answers (execMbCardActivate found s) (Within [.regs, .q, .nfc] s) := by
  unfold execMbCardActivate
  refine Answers.next ?_
  refine Within.trans ?_ (mailRun_within (fun a0 a1 a2 => ?_) rfl)
  · exact Within.refl _ _
  · refine Within.trans ?_ (replies_within (fun a0 a1 => ?_) rfl)
    · exact Within.refl _ _
    · exact (cardActivate_within _ _).sub rfl

theorem execMbWriteFlash_answers (s : State) :
    Answers (execMbWriteFlash s) (Within [.regs, .q, .boot, .mem] s) := by
  unfold execMbWriteFlash
  refine Answers.next ?_
  refine Within.trans ?_ (mailRun_within (fun a0 a1 a2 => ?_) rfl)
  · exact Within.refl _ _
  · refine Within.trans ?_ (replies_within (fun a0 a1 => ?_) rfl)
    · exact Within.refl _ _
    · exact (writeFlash_within _ _).sub rfl

theorem cardExchange_within (m : List Byte) (resp : Option (List Byte)) (s : State) :
    Within [.regs, .nfc, .out] s (cardExchange m resp s).2 := by
  unfold cardExchange
  refine Within.ite2 ?_ ?_
  · exact Within.refl _ _
  · extract_lets +onlyGivenNames -merge -underBinder t0
    refine Within.step (t := t0) ?_ fun h1 => ?_
    · unfold t0
      exact (State.emit_within _ _).sub rfl
    clear_value t0
    split
    · exact h1
    · refine Within.comp ?_ (cardEnd_within _) rfl
      exact h1

theorem execMailboxPop_answers (p : Path) (crc : Bool) (q : Nat) (s : State) :
    Answers (execMailboxPop p crc q s) (Within [.regs, .q, .out] s) := by
  unfold execMailboxPop
  refine Answers.next ?_
  exact (mailPop_within _ _ _ _).sub rfl

theorem mailPush_within (p : Path) (crc : Bool) (q : Nat) (msg : List Byte) (s : State) :
    Within [.regs, .q, .out] s (mailPush p crc q msg s) := by
  unfold mailPush
  refine Within.ite ?_ ?_
  · exact Within.refl _ _
  · refine Within.ite ?_ ?_
    · exact (crcError_within _ _).sub rfl
    · extract_lets +onlyGivenNames -merge -underBinder t0
      refine Within.step (t := t0) ?_ fun h1 => ?_
      · unfold t0
        exact (hostAccess_within _ _).sub rfl
      clear_value t0
      refine Within.ite ?_ ?_
      · refine Within.comp ?_ (hostReply_within _ _ _) rfl
        exact h1
      · refine Within.ite ?_ ?_
        · refine Within.comp ?_ (hostReply_within _ _ _) rfl
          refine Within.comp ?_ (State.raise_within _ _) rfl
          exact h1
        · refine Within.comp ?_ (hostReply_within _ _ _) rfl
          refine Within.comp ?_ (enqueue_within _ _ _) rfl
          exact h1

theorem execMbCardDeselect_answers (s : State) :
    Answers (execMbCardDeselect s) (Within [.regs, .q, .nfc] s) := by
  unfold execMbCardDeselect
  refine Answers.next ?_
  refine Within.trans ?_ (mailRun_within (fun a0 a1 a2 => ?_) rfl)
  · exact Within.refl _ _
  · refine Within.trans ?_ (replies_within (fun a0 a1 => ?_) rfl)
    · exact Within.refl _ _
    · refine Within.ite2 ?_ ?_
      · exact (cardEnd_within _).sub rfl
      · exact Within.refl _ _

theorem writeTable_within (m : List Byte) (s : State) :
    Within [.regs, .bil, .logs, .dlm, .mail] s (writeTable m s).2 := by
  unfold writeTable
  extract_lets +onlyGivenNames -merge -underBinder b0
  refine Within.ite2 ?_ ?_
  · exact Within.refl _ _
  · refine Within.ite2 ?_ ?_
    · exact (setMail_within _ _).sub rfl
    · extract_lets +onlyGivenNames -merge -underBinder all1
      refine Within.ite2 ?_ ?_
      · exact (setMail_within _ _).sub rfl
      · extract_lets +onlyGivenNames -merge -underBinder j3 t2
        refine Within.step (t := t2) ?_ fun h4 => ?_
        · unfold t2
          exact (setMail_within _ _).sub rfl
        clear_value t2
        split
        · exact h4
        · extract_lets +onlyGivenNames -merge -underBinder y5
          refine Within.step (t := y5.2) ?_ fun h6 => ?_
          · unfold y5
            refine Within.comp ?_ (submitTable_within _ _ _) rfl
            refine Within.comp ?_ (stageDrop_within _) rfl
            exact h4
          clear_value y5
          exact h6

theorem execMbCardExchange_answers (resp : Option (List Byte)) (s : State) :
    Answers (execMbCardExchange resp s) (Within [.regs, .q, .nfc, .out] s) := by
  unfold execMbCardExchange
  refine Answers.next ?_
  refine Within.trans ?_ (mailRun_within (fun a0 a1 a2 => ?_) rfl)
  · exact Within.refl _ _
  · refine Within.trans ?_ (replies_within (fun a0 a1 => ?_) rfl)
    · exact Within.refl _ _
    · exact (cardExchange_within _ _ _).sub rfl

theorem mailCredit_within (p : Path) (m : List Byte) (s : State) :
    Within [.regs, .bil, .logs, .mail] s (mailCredit p m s).2 := by
  unfold mailCredit
  extract_lets +onlyGivenNames -merge -underBinder b0
  refine Within.ite2 ?_ ?_
  · exact Within.refl _ _
  · extract_lets +onlyGivenNames -merge -underBinder amount1
    extract_lets +onlyGivenNames -merge -underBinder x2
    refine Within.step (t := x2.2) ?_ fun h3 => ?_
    · unfold x2
      exact (creditTransfer_within _ _ _ _).sub rfl
    clear_value x2
    refine Within.ite2 ?_ ?_
    · refine Within.comp ?_ (setMail_within _ _) rfl
      exact h3
    · exact h3

theorem execMailboxPush_answers (p : Path) (crc : Bool) (q : Nat) (msg : List Byte) (s : State) :
    Answers (execMailboxPush p crc q msg s) (Within [.regs, .q, .out] s) := by
  unfold execMailboxPush
  refine Answers.next ?_
  exact (mailPush_within _ _ _ _ _).sub rfl

theorem execMbWriteTable_answers (s : State) :
    Answers (execMbWriteTable s) (Within [.regs, .bil, .logs, .q, .dlm, .mail] s) := by
  unfold execMbWriteTable
  refine Answers.next ?_
  refine Within.trans ?_ (mailRun_within (fun a0 a1 a2 => ?_) rfl)
  · exact Within.refl _ _
  · refine Within.trans ?_ (replies_within (fun a0 a1 => ?_) rfl)
    · exact Within.refl _ _
    · exact (writeTable_within _ _).sub rfl

theorem execMbCredit_answers (s : State) :
    Answers (execMbCredit s) (Within [.regs, .bil, .logs, .q, .mail] s) := by
  unfold execMbCredit
  refine Answers.next ?_
  refine Within.trans ?_ (mailRun_within (fun a0 a1 a2 => ?_) rfl)
  · exact Within.refl _ _
  · exact (mailCredit_within _ _ _).sub rfl

theorem appReply_within (code : AppCode) (limits : Option (Nat × Nat × Nat × Bool)) (meter : Option (Nat × Nat)) (s : State) :
    Within [.out] s (appReply code limits meter s) := by
  unfold appReply
  exact (State.emit_within _ _).sub rfl

theorem execSeccDiscoveryRequest_answers (s : State) :
    Answers (execSeccDiscoveryRequest s) (Within [.out] s) := by
  unfold execSeccDiscoveryRequest
  refine Answers.awake ?_
  refine Answers.next ?_
  refine Within.ite ?_ ?_
  · exact (State.emit_within _ _).sub rfl
  · exact Within.refl _ _

theorem appSay_within (code : AppCode) (s : State) :
    Within [.out] s (appSay code s) := by
  unfold appSay
  exact (appReply_within _ _ _ _).sub rfl

theorem sesEnergy_within (s : State) :
    Within [.regs] s (sesEnergy s) := by
  unfold sesEnergy
  refine Within.comp ?_ (State.raise_within _ _) rfl
  exact (sesEnter_within _ _).sub rfl

theorem sesPause_within (s : State) :
    Within [.regs, .tok, .x04, .ses] s (sesPause s) := by
  unfold sesPause
  extract_lets +onlyGivenNames -merge -underBinder t0
  refine Within.step (t := t0) ?_ fun h1 => ?_
  · unfold t0
    refine Within.comp ?_ (tok1Show_within _) rfl
    refine Within.comp ?_ (tokGive_within _ _ _) rfl
    exact (sesEnter_within _ _).sub rfl
  clear_value t0
  extract_lets +onlyGivenNames -merge -underBinder j3 t2
  refine Within.step (t := t2) ?_ fun h4 => ?_
  · unfold t2
    refine Within.comp ?_ (setSes_within _ _) rfl
    exact h1
  clear_value t2
  refine Within.ite ?_ ?_
  · exact h4
  · refine Within.comp ?_ (Within.upd_x04 _ _) rfl
    exact h4

theorem execProtocolTimeout_answers (s : State) :
    Answers (execProtocolTimeout s) (Within [.regs, .tok, .bil, .btm, .x04, .x06, .q, .grpSeq, .ses, .amb, .eth, .x11, .out] s) := by
  unfold execProtocolTimeout
  refine Answers.next ?_
  refine Within.ite ?_ ?_
  · exact (sesStop_within _ _).sub rfl
  · exact Within.refl _ _

theorem appWrong_within (s : State) :
    Within [.regs, .tok, .bil, .btm, .x04, .x06, .q, .grpSeq, .ses, .amb, .eth, .x11, .out] s (appWrong s) := by
  unfold appWrong
  refine Within.comp ?_ (appSay_within _ _) rfl
  exact (sesStop_within _ _).sub rfl

theorem appPower_within (start : Bool) (s : State) :
    Within [.regs, .tok, .bil, .btm, .x04, .x06, .q, .grpSeq, .ses, .amb, .eth, .x11, .out] s (appPower start s) := by
  unfold appPower
  refine Within.ite ?_ ?_
  · refine Within.ite ?_ ?_
    · refine Within.comp ?_ (appSay_within _ _) rfl
      exact (sesEnergy_within _).sub rfl
    · refine Within.ite ?_ ?_
      · refine Within.comp ?_ (appSay_within _ _) rfl
        exact (sesClose_within _).sub rfl
      · refine Within.ite ?_ ?_
        · refine Within.comp ?_ (appSay_within _ _) rfl
          refine Within.ite ?_ ?_
          · refine Within.comp ?_ (sesEnergy_within _) rfl
            exact (siteAsk_within _).sub rfl
          · refine Within.comp ?_ (sesClose_within _) rfl
            exact (siteAsk_within _).sub rfl
        · exact (appWrong_within _).sub rfl
  · refine Within.ite ?_ ?_
    · refine Within.comp ?_ (appSay_within _ _) rfl
      exact (sesPause_within _).sub rfl
    · refine Within.ite ?_ ?_
      · exact (appSay_within _ _).sub rfl
      · exact (appWrong_within _).sub rfl

theorem appParams_within (dc : Bool) (bidir : Bool) (vmax : Nat) (pmax : Nat) (s : State) :
    Within [.regs, .tok, .bil, .btm, .x04, .x06, .q, .grpSeq, .ses, .amb, .eth, .x11, .out] s (appParams dc bidir vmax pmax s) := by
  unfold appParams
  refine Within.ite ?_ ?_
  · exact (appWrong_within _).sub rfl
  · refine Within.ite ?_ ?_
    · exact (appSay_within _ _).sub rfl
    · extract_lets +onlyGivenNames -merge -underBinder j1 t0
      refine Within.step (t := t0) ?_ fun h2 => ?_
      · unfold t0
        exact (setSes_within _ _).sub rfl
      clear_value t0
      refine Within.comp ?_ (appReply_within _ _ _ _) rfl
      exact h2

theorem appPrecharge_within (target : Nat) (s : State) :
    Within [.regs, .tok, .bil, .btm, .x04, .x06, .q, .grpSeq, .ses, .amb, .eth, .x11, .out] s (appPrecharge target s) := by
  unfold appPrecharge
  refine Within.ite ?_ ?_
  · exact (appWrong_within _).sub rfl
  · extract_lets +onlyGivenNames -merge -underBinder j1 t0
    refine Within.step (t := t0) ?_ fun h2 => ?_
    · unfold t0
      refine Within.ite ?_ ?_
      · exact Within.refl _ _
      · exact (setSes_within _ _).sub rfl
    clear_value t0
    refine Within.comp ?_ (appSay_within _ _) rfl
    exact h2

theorem appCable_within (s : State) :
    Within [.regs, .tok, .bil, .btm, .x04, .x06, .q, .grpSeq, .ses, .amb, .eth, .x11, .out] s (appCable s) := by
  unfold appCable
  refine Within.ite ?_ ?_
  · exact (appWrong_within _).sub rfl
  · refine Within.ite ?_ ?_
    · refine Within.comp ?_ (appSay_within _ _) rfl
      exact (cableBegin_within _).sub rfl
    · refine Within.ite ?_ ?_
      · exact (appSay_within _ _).sub rfl
      · refine Within.ite ?_ ?_
        · exact (appSay_within _ _).sub rfl
        · exact (appWrong_within _).sub rfl

theorem appAuthorise_within (pnc : Bool) (emaid : List Byte) (s : State) :
    Within [.regs, .tok, .bil, .btm, .x04, .x06, .q, .grpSeq, .ses, .amb, .eth, .x11, .out] s (appAuthorise pnc emaid s) := by
  unfold appAuthorise
  refine Within.ite ?_ ?_
  · exact (appSay_within _ _).sub rfl
  · refine Within.ite ?_ ?_
    · exact (appWrong_within _).sub rfl
    · refine Within.ite ?_ ?_
      · refine Within.comp ?_ (appSay_within _ _) rfl
        exact (sesStop_within _ _).sub rfl
      · refine Within.ite ?_ ?_
        · exact (appSay_within _ _).sub rfl
        · refine Within.ite ?_ ?_
          · exact (appSay_within _ _).sub rfl
          · refine Within.ite ?_ ?_
            · exact (appSay_within _ _).sub rfl
            · refine Within.ite ?_ ?_
              · exact (appSay_within _ _).sub rfl
              · extract_lets +onlyGivenNames -merge -underBinder j1 t0
                refine Within.step (t := t0) ?_ fun h2 => ?_
                · unfold t0
                  exact (setSes_within _ _).sub rfl
                clear_value t0
                refine Within.comp ?_ (appSay_within _ _) rfl
                refine Within.ite ?_ ?_
                · exact h2
                · refine Within.comp ?_ (authAsk_within _ _ _) rfl
                  exact h2

theorem appLoop_within (byPower : Bool) (ask : Int) (s : State) :
    Within [.regs, .tok, .bil, .btm, .x04, .x06, .q, .grpSeq, .ses, .amb, .eth, .x11, .out] s (appLoop byPower ask s) := by
  unfold appLoop
  refine Within.ite ?_ ?_
  · extract_lets +onlyGivenNames -merge -underBinder a0
    extract_lets +onlyGivenNames -merge -underBinder j2 t1
    refine Within.step (t := t1) ?_ fun h3 => ?_
    · unfold t1
      exact (setSes_within _ _).sub rfl
    clear_value t1
    refine Within.comp ?_ (appReply_within _ _ _ _) rfl
    exact h3
  · refine Within.ite ?_ ?_
    · exact (appReply_within _ _ _ _).sub rfl
    · exact (appWrong_within _).sub rfl

theorem appStop_within (pause : Bool) (s : State) :
    Within [.regs, .tok, .bil, .btm, .x04, .x06, .q, .grpSeq, .ses, .amb, .eth, .x11, .out] s (appStop pause s) := by
  unfold appStop
  refine Within.ite ?_ ?_
  · refine Within.ite ?_ ?_
    · refine Within.comp ?_ (appSay_within _ _) rfl
      exact (sesPause_within _).sub rfl
    · refine Within.ite ?_ ?_
      · exact (appSay_within _ _).sub rfl
      · exact (appWrong_within _).sub rfl
  · refine Within.comp ?_ (appSay_within _ _) rfl
    exact (sesStop_within _ _).sub rfl

theorem appHandshake_within (offers : List Nat) (s : State) :
    Within [.regs, .tok, .bil, .btm, .x04, .x06, .q, .grpSeq, .ses, .amb, .eth, .x11, .out] s (appHandshake offers s) := by
  unfold appHandshake
  refine Within.ite ?_ ?_
  · exact (appWrong_within _).sub rfl
  · split
    · refine Within.comp ?_ (appSay_within _ _) rfl
      exact (State.put_within _ _ _).sub rfl
    · refine Within.comp ?_ (appSay_within _ _) rfl
      exact (sesStop_within _ _).sub rfl

theorem appTake_within (m : AppMsg) (s : State) :
    Within [.regs, .tok, .bil, .btm, .logs, .saf, .x04, .x06, .q, .grpSeq, .ses, .amb, .eth, .x11, .out] s (appTake m s) := by
  unfold appTake
  refine Within.ite ?_ ?_
  · exact Within.refl _ _
  · split
    · exact (appHandshake_within _ _).sub rfl
    · refine Within.ite ?_ ?_
      · exact (appWrong_within _).sub rfl
      · refine Within.ite ?_ ?_
        · exact (appSay_within _ _).sub rfl
        · split
          · exact (appHandshake_within _ _).sub rfl
          · exact (appSay_within _ _).sub rfl
          · refine Within.ite ?_ ?_
            · refine Within.comp ?_ (appSay_within _ _) rfl
              exact (setSes_within _ _).sub rfl
            · exact (appWrong_within _).sub rfl
          · refine Within.ite ?_ ?_
            · exact (appSay_within _ _).sub rfl
            · exact (appWrong_within _).sub rfl
          · refine Within.ite ?_ ?_
            · exact (appSay_within _ _).sub rfl
            · exact (appWrong_within _).sub rfl
          · refine Within.ite ?_ ?_
            · refine Within.comp ?_ (appSay_within _ _) rfl
              exact (sesAuthorise_within _).sub rfl
            · exact (appWrong_within _).sub rfl
          · refine Within.ite ?_ ?_
            · exact (appSay_within _ _).sub rfl
            · exact (appWrong_within _).sub rfl
          · exact (appAuthorise_within _ _ _).sub rfl
          · exact (appParams_within _ _ _ _ _).sub rfl
          · refine Within.ite ?_ ?_
            · exact (appSay_within _ _).sub rfl
            · exact (appWrong_within _).sub rfl
          · exact (appCable_within _).sub rfl
          · exact (appPrecharge_within _ _).sub rfl
          · exact (appPower_within _ _).sub rfl
          · exact (appLoop_within _ _ _).sub rfl
          · refine Within.ite ?_ ?_
            · exact (appSay_within _ _).sub rfl
            · exact (appWrong_within _).sub rfl
          · refine Within.ite ?_ ?_
            · exact (appSay_within _ _).sub rfl
            · exact (appWrong_within _).sub rfl
          · exact (appStop_within _ _).sub rfl

theorem execApplicationRequest_answers (m : AppMsg) (s : State) :
    Answers (execApplicationRequest m s) (Within [.regs, .tok, .bil, .btm, .logs, .saf, .x04, .x06, .q, .grpSeq, .ses, .amb, .eth, .x11, .out] s) := by
  unfold execApplicationRequest
  refine Answers.next ?_
  exact (appTake_within _ _).sub rfl

theorem x02Word_within (s : State) :
    Within [.saf] s (x02Word s) := by
  unfold x02Word
  refine Within.comp ?_ (Within.upd_saf _ _) rfl
  exact Within.refl _ _

theorem execSoOutputOvercurrent_answers (n : Nat) (s : State) :
    Answers (execSoOutputOvercurrent n s) (Within [.regs] s) := by
  unfold execSoOutputOvercurrent
  refine Answers.awake ?_
  refine Answers.next ?_
  refine Within.ite ?_ ?_
  · exact (State.putBit_within _ _ _ _).sub rfl
  · exact Within.refl _ _

theorem execSafeTelegramSend_answers (time : Nat) (s : State) :
    Answers (execSafeTelegramSend time s) (Within [.regs, .saf, .out, .free] s) := by
  unfold execSafeTelegramSend
  refine Answers.next ?_
  refine Within.ite ?_ ?_
  · extract_lets +onlyGivenNames -merge -underBinder x0
    refine Within.step (t := x0.2) ?_ fun h1 => ?_
    · unfold x0
      exact (telegramNext_within _ _).sub rfl
    clear_value x0
    extract_lets +onlyGivenNames -merge -underBinder f2
    refine Within.ite ?_ ?_
    · exact h1
    · refine Within.trans ?_ (Within.foldl (fun v3 v4 => ?_) _)
      · exact h1
      · refine Within.comp ?_ (State.emit_within _ _) rfl
        exact (State.bumpReg_within _ _ _).sub rfl
  · exact Within.refl _ _

theorem earlyOpen_within (s : State) :
    Within [.regs, .btm, .saf, .x03] s (earlyOpen s) := by
  unfold earlyOpen
  extract_lets +onlyGivenNames -merge -underBinder j1 t0
  refine Within.step (t := t0) ?_ fun h2 => ?_
  · unfold t0
    refine Within.comp ?_ (Within.upd_saf _ _) rfl
    exact Within.refl _ _
  try clear_value t0
  refine Within.ite ?_ ?_
  · refine Within.comp ?_ (contactorsOff_within _) rfl
    exact h2
  · exact h2

theorem execPtpClockCompare_answers (frac : Nat) (stable : Bool) (s : State) :
    Answers (execPtpClockCompare frac stable s) (Within [.regs, .btm, .logs] s) := by
  unfold execPtpClockCompare
  refine Answers.next ?_
  refine Within.ite ?_ ?_
  · exact Within.refl _ _
  · extract_lets +onlyGivenNames -merge -underBinder d0
    extract_lets +onlyGivenNames -merge -underBinder ms1
    extract_lets +onlyGivenNames -merge -underBinder target2
    refine Within.ite ?_ ?_
    · exact Within.refl _ _
    · refine Within.ite ?_ ?_
      · exact (refuseAdjust_within _ _ _).sub rfl
      · exact (clockAdjust_within _ _ _ _ _).sub rfl

theorem ageTick_within (s : State) :
    Within [.regs, .logs, .free] s (ageTick s) := by
  unfold ageTick
  extract_lets +onlyGivenNames -merge -underBinder t0
  refine Within.step (t := t0) ?_ fun h1 => ?_
  · unfold t0
    exact (State.bumpReg_within _ _ _).sub rfl
  clear_value t0
  extract_lets +onlyGivenNames -merge -underBinder t2
  refine Within.step (t := t2) ?_ fun h3 => ?_
  · unfold t2
    refine Within.trans ?_ (Within.upTo (fun v4 v5 => ?_) _)
    · exact h1
    · refine Within.ite ?_ ?_
      · exact Within.refl _ _
      · exact (State.bump_within _ _ _).sub rfl
  clear_value t2
  refine Within.ite ?_ ?_
  · refine Within.comp ?_ (tripShow_within _) rfl
    refine Within.comp ?_ (State.bump_within _ _ _) rfl
    refine Within.comp ?_ (State.bump_within _ _ _) rfl
    exact h3
  · exact h3

theorem execSafeResetRelease_answers (held : Nat) (since : Nat) (refire : Nat) (s : State) :
    Answers (execSafeResetRelease held since refire s) (Within [.regs, .btm, .saf, .x03, .x19, .lcd] s) := by
  unfold execSafeResetRelease
  extract_lets +onlyGivenNames -merge -underBinder t0
  refine Answers.step (t := t0) ?_ fun h1 => ?_
  · unfold t0
    exact (resetRelease_within _ _ _ _).sub rfl
  clear_value t0
  extract_lets +onlyGivenNames -merge -underBinder wrote2
  extract_lets +onlyGivenNames -merge -underBinder u3
  refine Answers.step (t := u3) ?_ fun h4 => ?_
  · unfold u3
    refine Within.ite ?_ ?_
    · refine Within.comp ?_ (tripArm_within _) rfl
      exact h1
    · exact h1
  clear_value u3
  refine Answers.next ?_
  refine Within.ite ?_ ?_
  · refine Within.comp ?_ (lcdConfirmed_within _) rfl
    exact h4
  · exact h4

theorem statusCause_within (n : Nat) (s : State) :
    Within [.regs, .tok, .bil, .btm, .x04, .x06, .q, .grpSeq, .ses, .amb, .eth, .x11, .out] s (statusCause n s) := by
  unfold statusCause
  refine Within.ite ?_ ?_
  · exact Within.refl _ _
  · refine Within.ite ?_ ?_
    · exact (sesTripped_within _ _).sub rfl
    · refine Within.ite ?_ ?_
      · exact (sesPause_within _).sub rfl
      · exact (sesTripped_within _ _).sub rfl

theorem execContactorFeedbackChange_answers (n : Nat) (a : Bool) (b : Bool) (time : Nat) (s : State) :
    Answers (execContactorFeedbackChange n a b time s) (Within [.regs, .tok, .bil, .btm, .saf, .x03, .x19, .q, .grpSeq, .ses, .amb, .eth, .x11, .out] s) := by
  unfold execContactorFeedbackChange
  refine Answers.awake ?_
  refine Answers.next ?_
  refine Within.comp ?_ (sesEndCheck_within _) rfl
  exact (fbTake_within _ _ _ _ _).sub rfl

theorem execInstantValuesUpdate_answers (m : InstMeas) (s : State) :
    Answers (execInstantValuesUpdate m s) (Within [.regs, .tok, .pts, .bil, .btm, .logs, .saf, .x03, .x04, .q, .grpSeq, .ses, .amb, .eth, .x11, .out, .free] s) := by
  unfold execInstantValuesUpdate
  refine Answers.next ?_
  refine Within.ite ?_ ?_
  · refine Within.comp ?_ (sesInstant_within _) rfl
    refine Within.comp ?_ (earlyOpen_within _) rfl
    refine Within.comp ?_ (x02Word_within _) rfl
    exact (instUpdate_within _ _).sub rfl
  · exact Within.refl _ _

theorem execImdHalfCycleEnd_answers (sns : Int) (vdc : Int) (rise : Nat) (s : State) :
    Answers (execImdHalfCycleEnd sns vdc rise s) (Within [.regs, .tok, .bil, .btm, .saf, .x03, .x19, .x04, .x06, .q, .grpSeq, .ses, .amb, .eth, .x11, .out] s) := by
  unfold execImdHalfCycleEnd
  refine Answers.awake ?_
  extract_lets +onlyGivenNames -merge -underBinder t0
  refine Answers.step (t := t0) ?_ fun h1 => ?_
  · unfold t0
    exact (imdHalf_within _ _ _ _).sub rfl
  clear_value t0
  refine Answers.next ?_
  refine Within.ite ?_ ?_
  · refine Within.comp ?_ (cableCycle_within _ _) rfl
    exact h1
  · exact h1

theorem statusTake_within (r : SafReport) (s : State) :
    Within [.regs, .tok, .bil, .btm, .saf, .x04, .x06, .q, .grpSeq, .ses, .amb, .eth, .x11, .out] s (statusTake r s) := by
  unfold statusTake
  split
  · exact (statusCause_within _ _).sub rfl
  · refine Within.ite ?_ ?_
    · exact (relayClose_within _ _).sub rfl
    · exact Within.refl _ _
  · extract_lets +onlyGivenNames -merge -underBinder t0
    refine Within.step (t := t0) ?_ fun h1 => ?_
    · unfold t0
      exact (tokRelease_within _ _ _).sub rfl
    clear_value t0
    refine Within.ite ?_ ?_
    · refine Within.comp ?_ (sesEnergy_within _) rfl
      exact h1
    · exact h1
  · extract_lets +onlyGivenNames -merge -underBinder t2
    refine Within.step (t := t2) ?_ fun h3 => ?_
    · unfold t2
      exact (tokGive_within _ _ _).sub rfl
    clear_value t2
    refine Within.ite ?_ ?_
    · refine Within.comp ?_ (sesStop_within _ _) rfl
      refine Within.comp ?_ (setSes_within _ _) rfl
      exact h3
    · exact h3
  · exact Within.refl _ _
  · exact (sesTripped_within _ _).sub rfl
  · exact (tripPass_within _).sub rfl

theorem execMetrologyBlock_answers (raws : List (List Int)) (edges : Nat) (dev0 : List Int) (dev1 : List Int) (s : State) :
    Answers (execMetrologyBlock raws edges dev0 dev1 s) (Within [.regs, .afe, .pts, .x00, .btm, .logs, .saf, .x03, .x19, .out, .free] s) := by
  unfold execMetrologyBlock
  refine Answers.next ?_
  refine Within.ite ?_ ?_
  · refine Within.comp ?_ (relayReady_within _) rfl
    refine Within.comp ?_ (x02Word_within _) rfl
    refine Within.comp ?_ (rcmBlock_within _ _) rfl
    exact (ptsBlock_within _ _ _ _ _).sub rfl
  · exact Within.refl _ _

theorem execSafetyStatusReceive_answers (s : State) :
    Answers (execSafetyStatusReceive s) (Within [.regs, .tok, .bil, .btm, .saf, .x03, .x04, .x06, .q, .grpSeq, .ses, .amb, .eth, .x11, .out] s) := by
  unfold execSafetyStatusReceive
  refine Answers.next ?_
  split
  · refine Within.ite ?_ ?_
    · refine Within.comp ?_ (sesEndCheck_within _) rfl
      refine Within.comp ?_ (statusTake_within _ _) rfl
      refine Within.comp ?_ (Within.upd_x03 _ _) rfl
      exact Within.refl _ _
    · exact Within.refl _ _
  · exact Within.refl _ _

theorem afterCommit_within (before : State) (t : State) :
    Within [.regs, .tok, .bil, .btm, .logs, .saf, .x04, .x06, .q, .grpSeq, .ses, .nfc, .mail, .amb, .eth, .x11, .out] t (afterCommit before t) := by
  unfold afterCommit
  extract_lets +onlyGivenNames -merge -underBinder u0
  refine Within.step (t := u0) ?_ fun h1 => ?_
  · unfold u0
    refine Within.comp ?_ (creditReplies_within _) rfl
    refine Within.comp ?_ (sesDisconnect_within _) rfl
    exact (discUpdate_within _ _ _).sub rfl
  clear_value u0
  refine Within.ite ?_ ?_
  · refine Within.comp ?_ (tagRefresh_within _) rfl
    exact h1
  · exact h1

theorem execSecondCommit_answers (s : State) :
    Answers (execSecondCommit s) (Within [.regs, .params, .tok, .x01, .parNext, .bil, .btm, .logs, .saf, .x04, .x06, .q, .grpSeq, .ses, .nfc, .mail, .amb, .eth, .x11, .out] s) := by
  unfold execSecondCommit
  refine Answers.next ?_
  refine Within.ite ?_ ?_
  · exact Within.refl _ _
  · refine Within.comp ?_ (afterCommit_within _ _) rfl
    exact (commitDue_within _ _ _).sub rfl

theorem execBillingTick_answers (s : State) :
    Answers (execBillingTick s) (Within [.regs, .params, .tok, .x01, .parPend, .parNext, .corrSent, .bil, .btm, .logs, .saf, .x04, .x06, .q, .grpSeq, .ses, .nfc, .mail, .amb, .eth, .x11, .out, .free] s) := by
  unfold execBillingTick
  refine Answers.next ?_
  refine Within.ite ?_ ?_
  · exact Within.refl _ _
  · refine Within.ite ?_ ?_
    · refine Within.comp ?_ (slewTick_within _) rfl
      exact (State.setRegN_within _ _ _).sub rfl
    · refine Within.comp ?_ (afterCommit_within _ _) rfl
      refine Within.comp ?_ (ageTick_within _) rfl
      exact (nextTick_within _).sub rfl

theorem execClockStepApply_answers (s : State) :
    Answers (execClockStepApply s) (Within [.regs, .params, .tok, .x01, .parPend, .parNext, .corrSent, .bil, .btm, .logs, .saf, .x04, .x06, .q, .grpSeq, .ses, .nfc, .mail, .amb, .eth, .x11, .out, .free] s) := by
  unfold execClockStepApply
  refine Answers.next ?_
  split
  · refine Within.ite ?_ ?_
    · refine Within.comp ?_ (afterCommit_within _ _) rfl
      refine Within.comp ?_ (ageTick_within _) rfl
      exact (nextTick_within _).sub rfl
    · exact Within.refl _ _
  · exact Within.refl _ _

theorem State.withFetchWord_within (s : State) (nbits : Nat) (w : Nat) :
    Within [.pending] s (State.withFetchWord s nbits w) := by
  unfold State.withFetchWord
  split
  · refine Within.comp ?_ (Within.upd_pending _ _) rfl
    exact Within.refl _ _
  · exact Within.refl _ _

end Sys2Proof.Machine
end

