-- ==== Sys2Proof/WellFormed.lean ====
section
/-!
DEFINITION. Commands that can occur: an operand that names one of a fixed number of things names one that exists.
-/
namespace Sys2Proof

/-- Whether a command's operands name things that the spec gives the module. -/
def Instr.wf : Instr → Bool
  | .crossingWordWrite x _ => x < 21  -- R27
  | .crossingHeldWordAccept x => x < 21  -- R27
  | .crossingLossDetect x _ _ => x < 21  -- R27
  | .crossingStatsClear _ _ => true
  | .timetablePeriodStart k _ => k < 3  -- R37
  | .timetableSlotGrant k _ _ _ _ => k < 3  -- R37
  | .useStatsClear _ => true
  | .tokenRequest kind _ _ => kind ≤ 8  -- R46
  | .tokenRelease kind _ => kind ≤ 8  -- R46
  | .baselineRecompute _ => true
  | .tokenRequestWithdraw kind _ => kind ≤ 8  -- R46
  | .tokenWaitTimeout kind _ => kind ≤ 8  -- R46
  | .tokenHoldOverrun kind _ => kind ≤ 8  -- R46
  | .laneFaultDetect k _ _ => k < 12  -- R68
  | .laneRoleMove k => k < 12  -- R68
  | .stuckStreamDetect n _ => n < 10  -- R78
  | .rotationStep _ => true
  | .trimStore => true
  | .metrologyBlock raws _ _ _ => raws.all (fun l => l.length == 16)  -- R99
  | .instantValuesUpdate _ => true
  | .correctionSetApply => true
  | .engineDeadlineMiss e => e < 2  -- R142
  | .engineSelfCheckError e => e < 2  -- R142
  | .commitMarkSnapshot => true
  | .engineSelfTestDone e _ => e < 2  -- R142
  | .selfTestRetry e _ => e < 2  -- R142
  | .plannedSelfTestDue => true
  | .selfTestNow _ => true
  | .warmupEnd e => e < 2  -- R142
  | .shadowPromote e => e < 2  -- R142
  | .shadowTimeout e => e < 2  -- R142
  | .trialStart _ => true
  | .trialEnd _ => true
  | .trialMaxExpiry => true
  | .mismatchCountClear _ => true
  | .blockRecordAttribute => true
  | .billingTick => true
  | .secondCommit => true
  | .waybillSigned => true
  | .waybillSignRetry => true
  | .viewSnap _ => true
  | .viewRelease _ => true
  | .viewSnapTimeout => true
  | .lowWordLatchRead _ addr => addr % 4 == 0 && addr < 0x1000000  -- R11
  | .creditTransferReceive _ _ src => src == 1 || src == 2  -- R198
  | .rtcTemperatureTrim _ => true
  | .ptpClockCompare _ _ => true
  | .learnedTrimStore _ => true
  | .dstChange => true
  | .clockAdjustment src _ frac => (src == 1 || src == 2 || src == 3) && frac < 1000  -- R212
  | .clockSetGo _ frac => frac < 1000  -- R212
  | .clockReset _ frac => frac < 1000  -- R212
  | .clockStepApply => true
  | .slewComplete => true
  | .tamperPoll _ _ => true
  | .outageBurst rms => rms.length == 6  -- R228
  | .vbatMeasure _ => true
  | .hostDisconnect _ => true
  | .hostReconnect _ => true
  | .relayFeedbackTimeout _ => true
  | .relayCloseRetry => true
  | .relayFeedbackUncommanded _ => true
  | .lockstepFault => true
  | .safetyCycle _ => true
  | .contactorDelayExpiry => true
  | .discrepancyTimeout pair => pair < 4  -- R250
  | .inputTestPulse tp _ _ => tp < 2  -- R252
  | .outputTestPulse output _ => output < 16  -- R253
  | .outputOffCheck output _ => output < 16  -- R253
  | .safeResetRelease _ _ _ => true
  | .resetStuckTimeout => true
  | .sealChange pattern => pattern < 16  -- R265
  | .coreWordReceive _ => true
  | .coreTimeout => true
  | .metroTimeout => true
  | .causeResumeHoldEnd n => n == 13 || n == 14 || n == 19  -- R247
  | .closeRequest => true
  | .closeFeedbackDone => true
  | .openRequest => true
  | .contactorFeedbackChange n _ _ _ => n < 5  -- R295
  | .contactorFeedbackTimeout n => n < 4  -- R295
  | .weldCheckTimeout => true
  | .weldClear => true
  | .safeTelegramSend time => time < 2 ^ 32  -- R258
  | .safeTelegramReceive arrival => arrival < 2 ^ 32  -- R258
  | .telegramTimeout c => c < 8  -- R262
  | .rcmSelfTestStart => true
  | .rcmSelfTestRequest _ => true
  | .rcmSelfTestDone _ _ => true
  | .rcmSelfTestRetry => true
  | .imdHalfCycleEnd _ _ _ => true
  | .dcTripFire m => m < 16  -- R285
  | .tripPathTestDue => true
  | .tripPathTestRequest _ => true
  | .tripPathTestStart => true
  | .tripPathTestDone pairs _ _ _ => pairs < 8  -- R290
  | .pilotDemandReceive => true
  | .pilotSessionRequest _ => true
  | .pilotX06Silence => true
  | .pilotStateChange _ _ _ => true
  | .proximityMeasure _ => true
  | .gpBurstTransmit _ => true
  | .gpFrameReceive prio _ => prio < 4  -- R327
  | .cmSlacParmReq _ _ _ _ => true
  | .cmMnbcSoundInd _ groups => groups.length == 58  -- R316
  | .soundingEnd => true
  | .slacInitTimeout => true
  | .cmAttenCharRsp _ => true
  | .attenCharRepeatTimeout => true
  | .cmValidateReq => true
  | .toggleWindowEnd _ => true
  | .cmSlacMatchReq _ _ => true
  | .matchWaitTimeout => true
  | .coordReportReceive => true
  | .coordWindowEnd => true
  | .coordWithdrawReceive _ => true
  | .t1sFrameReceive prio _ => prio < 4  -- R327
  | .t1sLinkTimeout => true
  | .sessionPilotEvent => true
  | .seccDiscoveryRequest => true
  | .applicationRequest _ => true
  | .protocolTimeout => true
  | .heldCardExpiry => true
  | .hostAuthAccept _ _ => true
  | .hostAuthReject _ _ => true
  | .hostAuthRevoke _ => true
  | .authWaitTimeout => true
  | .pncChainCheckDone _ => true
  | .hostRemoteStart _ => true
  | .hostSessionStop _ => true
  | .hostAbsent => true
  | .limitUpdate => true
  | .setpointUpdate => true
  | .cableCheckTimeout => true
  | .prechargeTimeout => true
  | .siteGrantArrival => true
  | .siteLeaseRenew => true
  | .siteLeaseExpiry => true
  | .pauseTokenRelease => true
  | .converterSetptSend => true
  | .converterSyncSend => true
  | .converterStatusReceive port n f => port < 2 && n < 32 && f.length == 16  -- R352
  | .converterCapabReceive port n f => port < 2 && n < 32 && f.length == 16  -- R352
  | .converterStatusTimeout n => n < 32  -- R352
  | .stopTimeout => true
  | .keyGenerate _ => true
  | .keyWrite _ => true
  | .keyImport _ => true
  | .keyInvalidate _ => true
  | .keyDestroy _ => true
  | .keyReadpub _ => true
  | .orphanZero => true
  | .keyDataExpiry => true
  | .cryptoRequest _ => true
  | .cryptoOperationDone _ => true
  | .drbgReseed _ => true
  | .ethFrameSend _ _ _ => true
  | .frameLaunch _ => true
  | .ethFrameReceive p _ _ _ => p < 2  -- R394
  | .nodeEntryExpiry src => src.length == 6  -- R399
  | .supervisionFrameSend => true
  | .groupMessageReceive p _ => p < 2  -- R394
  | .telegramFrameFilter p _ => p < 2  -- R394
  | .ptpSyncReceive p dom _ _ _ _ _ _ => p < 2 && dom < 2  -- R411
  | .ptpAnnounceReceive p dom _ _ _ => p < 2 && dom < 2  -- R411
  | .announceTimeout p dom => p < 2 && dom < 2  -- R411
  | .ptpSyncSend _ => true
  | .revertTimeout => true
  | .stSlewComplete => true
  | .ppsSecond => true
  | .evtInEdge _ => true
  | .ethLinkUp p _ => p < 2  -- R394
  | .ethLinkDown p => p < 2  -- R394
  | .portEnableWrite _ _ => true
  | .canBusOff k => k < 2  -- R352
  | .pollSend _ _ => true
  | .pollReceive _ _ => true
  | .respSlotStart _ => true
  | .respReceive _ _ => true
  | .slotFail _ => true
  | .joinackReceive => true
  | .joinConflictRetry => true
  | .slaveLost => true
  | .busyNodeSlow n => n < 256  -- R444
  | .ameneFrameReceive _ => true
  | .zcEdge _ => true
  | .powerShareRun => true
  | .shareReqReceive => true
  | .shareRelReceive => true
  | .heldPowerExpiry _ => true
  | .setparReceive => true
  | .bridgedMessageReceive => true
  | .dlmsAarq _ _ _ => true
  | .hlsPass3 _ _ => true
  | .hlsTimeout _ => true
  | .associationIdleTimeout _ => true
  | .dlmsGet _ _ => true
  | .dlmsClockSet _ _ _ => true
  | .dlmsShiftTime _ _ => true
  | .dlmsBillingEndCommand _ _ => true
  | .dlmsCreditTransfer _ _ _ => true
  | .dlmsCalendarWrite _ _ => true
  | .activatePassiveCalendar _ => true
  | .specialDayInsert _ i _ _ _ _ => i < 128  -- R169
  | .specialDayDelete _ i => i < 128  -- R169
  | .stagingTimeout => true
  | .remoteDisconnect _ => true
  | .remoteReconnect _ => true
  | .readerPoll _ _ => true
  | .layer4IdleTimeout => true
  | .listAdd _ _ => true
  | .listRemove _ _ => true
  | .listClear _ => true
  | .tagSnapshotRefresh => true
  | .tagFieldDetect => true
  | .tagFieldLost _ => true
  | .tagPowerRemove => true
  | .tagWupaReqa _ _ _ => true
  | .tagRats => true
  | .tagHlta => true
  | .tagDeselect => true
  | .tagSelect _ => true
  | .tagRead _ _ => true
  | .tagWrite _ _ => true
  | .tagStatus _ _ => true
  | .tagUnknownCommand => true
  | .tagTimeLimit _ => true
  | .tagIgnoreEnd => true
  | .hostTagWrite _ page => page < 32  -- R495
  | .loadSwitchCommand _ n _ => n < 12  -- R498
  | .loadSwitchClearLatch _ n => n < 12  -- R498
  | .lswTokenGranted n => n < 12  -- R498
  | .lswTokenRefused n _ => n < 12  -- R498
  | .lswTokenRetry n => n < 12  -- R498
  | .inrushWindowClose n => n < 12  -- R498
  | .overcurrentTrip n => n < 12  -- R498
  | .shortTrip n => n < 12  -- R498
  | .thermalTrip n _ => n < 12  -- R498
  | .thermalLatchClear n => n < 12  -- R498
  | .retryTimerExpiry n => n < 12  -- R498
  | .retryCountReset n => n < 12  -- R498
  | .vlsUndervoltage _ => true
  | .vlsRecovery _ => true
  | .lowSideOpen n => n < 12  -- R498
  | .lowSideRestored n => n < 12  -- R498
  | .limpInputChange _ lh => lh < 4096  -- R511
  | .limpTimeout => true
  | .serviceWordReceive _ => true
  | .loadDiagnostic n _ _ _ _ => n < 12  -- R498
  | .displayPageAdvance => true
  | .displayStale => true
  | .displayFrameReadback misses => misses.all (fun n => decide (n < 164))  -- R526
  | .confirmedDisplayEnd => true
  | .displayHold _ => true
  | .displayNext _ => true
  | .lanternPowerUp _ => true
  | .vlcdRailRetry _ => true
  | .paramRead _ _ => true
  | .paramWrite _ _ => true
  | .updateArm _ _ => true
  | .updateDisarm _ => true
  | .ownerLockCommand _ => true
  | .updateCheckDone _ => true
  | .updateCopyDone _ => true
  | .updateSwitchEval _ => true
  | .trialServicesReport => true
  | .updateTrialTimeout => true
  | .firmwareFaultReport => true
  | .vsysRise _ => true
  | .powerGood _ => true
  | .powerFailWarning _ _ _ => true
  | .powerFailRelease _ => true
  | .saveRestart _ _ => true
  | .brownOut _ => true
  | .clockFault _ _ _ _ => true
  | .batteryCrystalFault => true
  | .batterySpareReturn _ _ => true
  | .xbCalibrate _ => true
  | .xbCalibrateDone _ _ => true
  | .resetNRequest _ _ => true
  | .resetNRelease => true
  | .hostModuleReset _ _ _ => true
  | .hostCoresReset _ => true
  | .coreWatchdogExpiry _ _ => true
  | .dieTemperatureWarm => true
  | .dieTemperatureCool => true
  | .dieTemperatureShutdown _ _ => true
  | .scrubPassDone => true
  | .scrubLate => true
  | .sectorMoveDone _ _ _ => true
  | .healthUpdate _ _ => true
  | .shadowArm _ ch _ => ch < 32  -- R606
  | .descriptorComplete ch => ch < 32  -- R606
  | .shunterChannelStop _ _ => true
  | .hostRegisterRead _ _ addr n => addr % 4 == 0 && 1 ≤ n && n ≤ 256  -- R623
  | .hostRegisterWrite _ _ addr words _ => addr % 4 == 0 && 1 ≤ words.length && words.length ≤ 256  -- R623
  | .eventBitClear _ addr _ _ => addr % 4 == 0  -- R14
  | .mailboxPush _ _ q _ => q == 30 || q == 31  -- R623
  | .mailboxPop _ _ q => q == 28 || q == 29  -- R623
  | .hifEthConnect => true
  | .hifEthClose => true
  | .sessionNewChallenge _ => true
  | .sessionSubmit _ level => level == 2 || level == 3  -- R629
  | .sessionVerifyDone _ => true
  | .sessionClose _ => true
  | .sessionIdleTimeout _ => true
  | .sessionLockEnd _ => true
  | .mbReadWaybill => true
  | .mbReadLog => true
  | .mbReadProfile => true
  | .mbReadOutage => true
  | .mbWriteTable => true
  | .mbWriteFlash => true
  | .mbCardActivate _ => true
  | .mbCardExchange _ => true
  | .mbCardDeselect => true
  | .mbRemoteId => true
  | .mbCredit => true
  | .islandFault _ _ _ _ => true
  | .islandRestartDone _ _ => true
  | .batteryIslandRestart => true
  | .moduleFault _ _ _ _ => true
  | .pilotWordTimeout => true
  | .safetyStatusReceive => true
  | .associationRelease _ => true
  | .disconnectOpenTimeout => true
  | .soOutputOvercurrent n => n < 4  -- R270
  | .vsysHeadCrossing _ => true
  | .ptpFollowUpReceive p dom _ _ _ _ => p < 2 && dom < 2  -- R411
  | .ptpDelayReqSend p dom _ => p < 2 && dom < 2  -- R411
  | .ptpDelayRespReceive p dom _ _ _ => p < 2 && dom < 2  -- R411
  | .ptpDelayReqReceive p dom _ _ _ _ _ => p < 2 && dom < 2  -- R411
  | .ptpAnnounceSend => true
  | .busOffRecovery k => k < 2  -- R352
  | .copyTokenRetry => true
  | .dieCooledRestart => true

end Sys2Proof
end

