-- ==== Sys2Proof/Tests/Slice0.lean ====
section
/-!
SUPPORT. Tests: commands that the check of well-formedness refuses, figures of the spec's worked examples, and for each statement of
Sys2Proof/Certificates/Slice0/Obligations.lean a witness that meets the hypotheses of each of its clauses.
-/

set_option Elab.async false

namespace Sys2Proof.Tests

open Sys2Proof.Machine

/-- A module that runs: supplied, not in power failure, vendor level on SPI, no island held. -/
def up (x : State) : State := (((x.put Fd.PWR_STAT_PG 1).put Fd.PWR_STAT_PFW 0).put Fd.HIF_STAT_SPILVL 3).setRegN Reg.SYS_FLT 0

/-- A command with one operand just outside the range that the check gives it is not well formed. -/
theorem test_illFormedRefused_1 : ([
    .crossingWordWrite 21 0, .crossingHeldWordAccept 21, .crossingLossDetect 21 0 none, .timetablePeriodStart 3 0,
    .timetableSlotGrant 3 0 .none 0 none, .tokenRequest 9 0 0, .tokenRelease 9 0, .tokenRequestWithdraw 9 0, .tokenWaitTimeout 9 0,
    .tokenHoldOverrun 9 0, .laneFaultDetect 12 0 none, .laneRoleMove 12, .stuckStreamDetect 10 0, .metrologyBlock [List.replicate 15 0] 0 [] [],
    .engineDeadlineMiss 2, .engineSelfCheckError 2, .engineSelfTestDone 2 false, .selfTestRetry 2 false, .warmupEnd 2, .shadowPromote 2,
    .shadowTimeout 2, .lowWordLatchRead .spi 6, .lowWordLatchRead .spi 16777216, .creditTransferReceive 0 0 4, .clockAdjustment 4 0 999,
    .clockAdjustment 3 0 1000, .clockSetGo .spi 1000, .clockReset .spi 1000, .outageBurst (List.replicate 5 0), .discrepancyTimeout 4,
    .inputTestPulse 2 0 0, .outputTestPulse 16 false, .outputOffCheck 16 false, .sealChange 16, .causeResumeHoldEnd 27,
    .contactorFeedbackChange 5 false false 0, .contactorFeedbackTimeout 4, .safeTelegramSend 0x100000000, .safeTelegramReceive 0x100000000,
    .telegramTimeout 8] : List Instr).all (fun c => !c.wf) = true := by
  decide +kernel

/-- A command with one operand just outside the range that the check gives it is not well formed. -/
theorem test_illFormedRefused_2 : ([
    .dcTripFire 16, .tripPathTestDone 8 false false false, .gpFrameReceive 4 [], .cmMnbcSoundInd 0 (List.replicate 57 0), .t1sFrameReceive 4 [],
    .converterStatusReceive 2 31 (List.replicate 16 0), .converterStatusReceive 1 32 (List.replicate 16 0),
    .converterStatusReceive 1 31 (List.replicate 15 0), .converterCapabReceive 2 31 (List.replicate 16 0),
    .converterCapabReceive 1 32 (List.replicate 16 0), .converterCapabReceive 1 31 (List.replicate 15 0), .converterStatusTimeout 32,
    .ethFrameReceive 2 [] false 0, .nodeEntryExpiry (List.replicate 5 0), .groupMessageReceive 2 [], .telegramFrameFilter 2 [],
    .ptpSyncReceive 2 1 0 false 0 0 0 0, .ptpSyncReceive 1 2 0 false 0 0 0 0, .ptpAnnounceReceive 2 1 0 [] none, .ptpAnnounceReceive 1 2 0 [] none,
    .announceTimeout 2 1, .announceTimeout 1 2, .ethLinkUp 2 0, .ethLinkDown 2, .canBusOff 2, .busyNodeSlow 256,
    .specialDayInsert ⟨1, 0, false⟩ 128 0 0 0 0, .specialDayDelete ⟨1, 0, false⟩ 128, .hostTagWrite .spi 32, .loadSwitchCommand .spi 12 false,
    .loadSwitchClearLatch .spi 12, .lswTokenGranted 12, .lswTokenRefused 12 0, .lswTokenRetry 12, .inrushWindowClose 12, .overcurrentTrip 12,
    .shortTrip 12, .thermalTrip 12 false, .thermalLatchClear 12, .retryTimerExpiry 12] : List Instr).all (fun c => !c.wf) = true := by
  decide +kernel

/-- A command with one operand just outside the range that the check gives it is not well formed. -/
theorem test_illFormedRefused_3 : ([
    .retryCountReset 12, .lowSideOpen 12, .lowSideRestored 12, .limpInputChange false 4096, .loadDiagnostic 12 0 0 none none,
    .displayFrameReadback [164], .shadowArm .spi 32 0, .descriptorComplete 32, .hostRegisterRead .spi false 6 256, .hostRegisterRead .spi false 4 0,
    .hostRegisterRead .spi false 4 257, .hostRegisterWrite .spi false 6 (List.replicate 256 0) ⟨0, 0, 0, none⟩,
    .hostRegisterWrite .spi false 4 [] ⟨0, 0, 0, none⟩, .hostRegisterWrite .spi false 4 (List.replicate 257 0) ⟨0, 0, 0, none⟩,
    .eventBitClear .spi 6 0 0, .mailboxPush .spi false 27 [], .mailboxPop .spi false 27, .sessionSubmit .spi 4, .soOutputOvercurrent 4,
    .ptpFollowUpReceive 2 1 0 0 0 0, .ptpFollowUpReceive 1 2 0 0 0 0, .ptpDelayReqSend 2 1 0, .ptpDelayReqSend 1 2 0, .ptpDelayRespReceive 2 1 0 0 0,
    .ptpDelayRespReceive 1 2 0 0 0, .ptpDelayReqReceive 2 1 0 0 0 0 0, .ptpDelayReqReceive 1 2 0 0 0 0 0, .busOffRecovery 2] : List Instr).all (fun c => !c.wf) = true := by
  decide +kernel

/-- At the far end of every range the command is well formed. -/
theorem test_wellFormedAccepted_1 : ([
    .crossingWordWrite 20 0, .crossingHeldWordAccept 20, .crossingLossDetect 20 0 none, .timetablePeriodStart 2 0,
    .timetableSlotGrant 2 0 .none 0 none, .tokenRequest 8 0 0, .tokenRelease 8 0, .tokenRequestWithdraw 8 0, .tokenWaitTimeout 8 0,
    .tokenHoldOverrun 8 0, .laneFaultDetect 11 0 none, .laneRoleMove 11, .stuckStreamDetect 9 0, .metrologyBlock [List.replicate 16 0] 0 [] [],
    .engineDeadlineMiss 1, .engineSelfCheckError 1, .engineSelfTestDone 1 false, .selfTestRetry 1 false, .warmupEnd 1, .shadowPromote 1,
    .shadowTimeout 1, .lowWordLatchRead .spi 16777212, .creditTransferReceive 0 0 2, .clockAdjustment 3 0 999, .clockSetGo .spi 999,
    .clockReset .spi 999, .outageBurst (List.replicate 6 0), .discrepancyTimeout 3, .inputTestPulse 1 0 0, .outputTestPulse 15 false,
    .outputOffCheck 15 false, .sealChange 15, .causeResumeHoldEnd 19, .contactorFeedbackChange 4 false false 0, .contactorFeedbackTimeout 3,
    .safeTelegramSend 0xFFFFFFFF, .safeTelegramReceive 0xFFFFFFFF, .telegramTimeout 7, .dcTripFire 15, .tripPathTestDone 7 false false false] : List Instr).all (fun c => c.wf) = true := by
  decide +kernel

/-- At the far end of every range the command is well formed. -/
theorem test_wellFormedAccepted_2 : ([
    .gpFrameReceive 3 [], .cmMnbcSoundInd 0 (List.replicate 58 0), .t1sFrameReceive 3 [], .converterStatusReceive 1 31 (List.replicate 16 0),
    .converterCapabReceive 1 31 (List.replicate 16 0), .converterStatusTimeout 31, .ethFrameReceive 1 [] false 0,
    .nodeEntryExpiry (List.replicate 6 0), .groupMessageReceive 1 [], .telegramFrameFilter 1 [], .ptpSyncReceive 1 1 0 false 0 0 0 0,
    .ptpAnnounceReceive 1 1 0 [] none, .announceTimeout 1 1, .ethLinkUp 1 0, .ethLinkDown 1, .canBusOff 1, .busyNodeSlow 255,
    .specialDayInsert ⟨1, 0, false⟩ 127 0 0 0 0, .specialDayDelete ⟨1, 0, false⟩ 127, .hostTagWrite .spi 31, .loadSwitchCommand .spi 11 false,
    .loadSwitchClearLatch .spi 11, .lswTokenGranted 11, .lswTokenRefused 11 0, .lswTokenRetry 11, .inrushWindowClose 11, .overcurrentTrip 11,
    .shortTrip 11, .thermalTrip 11 false, .thermalLatchClear 11, .retryTimerExpiry 11, .retryCountReset 11, .lowSideOpen 11, .lowSideRestored 11,
    .limpInputChange false 4095, .loadDiagnostic 11 0 0 none none, .displayFrameReadback [163], .shadowArm .spi 31 0, .descriptorComplete 31,
    .hostRegisterRead .spi false 4 256] : List Instr).all (fun c => c.wf) = true := by
  decide +kernel

/-- At the far end of every range the command is well formed. -/
theorem test_wellFormedAccepted_3 : ([
    .hostRegisterWrite .spi false 4 (List.replicate 256 0) ⟨0, 0, 0, none⟩, .eventBitClear .spi 4 0 0, .mailboxPush .spi false 31 [],
    .mailboxPop .spi false 29, .sessionSubmit .spi 3, .soOutputOvercurrent 3, .ptpFollowUpReceive 1 1 0 0 0 0, .ptpDelayReqSend 1 1 0,
    .ptpDelayRespReceive 1 1 0 0 0, .ptpDelayReqReceive 1 1 0 0 0 0 0, .busOffRecovery 1] : List Instr).all (fun c => c.wf) = true := by
  decide +kernel

/-- R31: the reset words of SYS_XSTAT for X00, X17, X18 and another Crossing. -/
theorem test_crossingStatusResets : [0, 17, 18, 20].map (fun x => (RegMap.resetOf (Reg.SYS_XSTAT x)).toNat)
    = [0x88000000, 0x81000000, 0x81000000, 0x84000000] := by
  decide +kernel

/-- R40, worked example of spec/01_architecture.md: slots 180 to 183 with budgets of 10, 2 and 5 left, and Best-effort waiting. -/
theorem test_slotsLent : [180, 181, 182, 183].map (fun n =>
    slotDecide { State.reset with ttb := { State.reset.ttb with fabric := ⟨[10, 2, 0, 5, 0, 0, 0, 0, 0], List.replicate 10 0, n, true⟩ } } 0 256)
    = [.lent, .lent, .lent, .idle] := by
  decide +kernel

/-- A state of the governor: the baseline in mW and the logic cost held. -/
def governor (base cost : Nat) : State :=
  { ((up State.reset).put Fd.TOK_POWER_BASEMW base).put Fd.PWR_VSYS_MV 12000 with tok := ⟨[⟨4, 1, cost, 0, false⟩], []⟩ }

/-- R48, worked example of spec/01_architecture.md: 0.80 W fits beside 5.20 W and not beside 5.80 W, within 6.00 W. -/
theorem test_tokenFits : tokFits (governor 5200 0) ⟨5, 2, 800, 0, false⟩ = true ∧ tokFits (governor 5200 600) ⟨5, 2, 800, 0, false⟩ = false := by
  decide +kernel

/-- R103 to R105, worked example of spec/03_metrology_engine.md: the gain 0.9985817 of role IA in segment 15, to seven digits. -/
theorem test_roleGain :
    let s : State := { ((((State.reset).setPar (Par.FGAIN 0) 31250).setPar (Par.FSGAIN 0 15) (-2000)) : State) with variant := .f }
    let e : Engine := { Engine.zero with corr := [(Par.UGAIN 0, -185000), (Par.USGAIN 0 15, 14000)] }
    Exact.nearest (fullGain s e 0 15 * 10000000) = 9985817 := by
  decide +kernel

/-- R406, worked example of spec/12_site_ethernet_time.md: a stamp from before the low part wrapped, and a launch time ahead. -/
theorem test_stampExtended : stExtend 0xFFFFF000 0x4E2000000A00 = 0x4E1FFFFFF000 ∧ stExtend 0x00001F40 0x4E20FFFF8000 = 0x4E20FFFF8000 + 40768 := by
  decide +kernel

/-- R435, worked example of spec/13_amene_bus.md: 60 bytes in DQPSK over 2 cycles at 50 Hz take 34 symbols, of which 4 may be erased. -/
theorem test_ameneSymbols : AmeneCode.nsymOf 2 50 1 60 = 34 ∧ AmeneCode.maxErased 34 = 4 := by decide

/-- R449, worked example of spec/13_amene_bus.md: slaves A, B and C stand on L2, L1 reversed and L3. -/
theorem test_phaseClasses : [800, 17350, 12900].map (fun ts => phaseClass 1 7400 ts 20000) = [some 2, some 5, some 3] := by decide +kernel

/-- R469, worked example of spec/14_head_end_dlms.md: the Clock column of an entry that ends at second 992,507,400. -/
theorem test_dlmsClock :
    dlmTime ((((State.reset.setPar Par.TZ_OFFSET 60).setPar Par.DST_EN 1).setPar Par.DST_DEV 60)) 992507400 0
    = [0x07, 0xEF, 0x06, 0x0E, 0x06, 0x0A, 0x1E, 0x00, 0x00, 0xFF, 0x88, 0x80] := by
  decide +kernel

/-- R281, worked example of spec/08_earth_fault_trip_switching.md: 1,000 kΩ and a difference of 32/3 V give a loop fault of 4/11 MΩ. -/
theorem test_insulationLoop : imdRf 1000000 (32 / 3) = some (4000000 / 11) := by decide +kernel

/-- R320, worked example of spec/09_vehicle_link.md: P2 wins by its age; with ages 500 ms apart P1 wins by its address. -/
theorem test_slacWinner : coordWinner 30 [⟨102, 7, 299, 800⟩, ⟨101, 7, 314, 40800⟩] = some (⟨102, 7, 299, 800⟩, false) ∧
    (coordWinner 30 [⟨102, 7, 299, 800⟩, ⟨101, 7, 314, 1300⟩]).map (fun w => w.2) = some true := by
  decide +kernel

/-- R529, worked example of spec/17_lantern_display.md: a red level of 100 between GAMMA[5] = 800 and GAMMA[6] = 1,100. -/
theorem test_backlightDuty : lcdDuty ((State.reset.setPar (Par.GAMMA 0 5) 800).setPar (Par.GAMMA 0 6) 1100) 0 100 = 1064 := by decide +kernel

/-- R601, worked example of spec/21_memory_health.md: 60 service months, one sector of 20 replaced, the highest count up 240 to 1,200. -/
theorem test_nvmLife :
    let s : State := (((State.reset.setRegN Reg.MEM_HOURS 43830).put (Fd.MEM_KIND_LEFT 2) 19 : State))
    let t : State := { s with mem := { s.mem with events := [(2, 40000)], highs := [(17000, 0, 960)] } }
    spareLife t 2 = some 684 ∧ (enduranceLife t 2 1200).map Exact.floor = some 14820 := by
  decide +kernel

/-- The weekday of 2031-06-14, by the worked example of spec/14_head_end_dlms.md a Saturday. -/
theorem test_weekday : weekday (daysOf ⟨2031, 6, 14⟩) = 6 ∧ dateOf (daysOf ⟨2031, 6, 14⟩) = ⟨2031, 6, 14⟩ := by decide +kernel

/-- R263: CRC-32C of the nine digits, whose value is published with the polynomial. -/
theorem test_crc32c : Crc.castagnoli [0x31, 0x32, 0x33, 0x34, 0x35, 0x36, 0x37, 0x38, 0x39] = 0xE3069283 := by decide +kernel

/-- R260: the CRC-32 of the nine digits, whose value is published with the polynomial. -/
theorem test_crc32 : Crc.ieee 0xFFFFFFFF [0x31, 0x32, 0x33, 0x34, 0x35, 0x36, 0x37, 0x38, 0x39] = 0xCBF43926 := by decide +kernel

/-- R9 and the worked example of spec/00_scope.md: host address 0x0B_0124 lies in BIL, and so does the word before 0x0C_0000, where BTM starts. -/
theorem test_blockOfAddress : RegMap.blockOf 0x0B0124 = RegMap.blockOf 0x0B0000 ∧ RegMap.blockOf 0x0BFFFC = RegMap.blockOf 0x0B0000 ∧
    RegMap.blockOf 0x0C0000 ≠ RegMap.blockOf 0x0B0000 := by
  decide +kernel

/-- R623: the CRC-16 of the nine digits, whose value is published with the polynomial. -/
theorem test_crc16 : Crc.ccitt [0x31, 0x32, 0x33, 0x34, 0x35, 0x36, 0x37, 0x38, 0x39] = 0x29B1 := by decide +kernel

/-- R14: a host write of 1 clears an event bit, and a write of 0 leaves it. -/
theorem test_eventBitCleared :
    (match execEventBitClear .spi Reg.MTR_EVT 1 0 ((up State.reset).setRegN Reg.MTR_EVT 3) with
    | .next t => t.regN Reg.MTR_EVT
    | .fault _ => 0
    | .refused _ => 0) = 2 := by
  decide +kernel

/-- No word of bits spells a command: the table gives no row of it any bits. -/
theorem test_noTableWords : (decodeTableWord 8 0, decodeTableWord 32 0xFFFFFFFF) = (none, none) := by decide

theorem witness_FrontOfQueue : ∃ (s : State) (c : Instr) (rest : List Instr), s.pending = c :: rest := by
  exact ⟨{ State.reset with pending := [.weldClear, .trimStore] }, .weldClear, [.trimStore], rfl⟩

/-- An operator's source in force and enabled, with the interrupt line's messages on the mailbox. -/
def asking : State :=
  ((((up State.reset).setPar Par.HIF_MBPATH 1).setRegN Reg.SYS_FLT 0x100).setRegN Reg.HIF_IEN 0xFFFFFFFF).setRegN Reg.HIF_EVT 1

theorem witness_EmptyQueueIdles : (∃ (s : State), s.pending = [] ∧ irqNow s = s.mail.irq) ∧
    (∃ (s : State), s.pending = [] ∧ s.parN Par.HIF_MBPATH ≠ 1) ∧
    (∃ (s : State), s.pending = [] ∧ s.parN Par.HIF_MBPATH = 1 ∧ s.running = true ∧ s.mail.irq = 0 ∧ irqNow s ≠ 0 ∧ s.q.length = 32 ∧
      (queue s 28).length < 8) := by
  refine ⟨⟨State.reset, ?_, ?_⟩, ⟨State.reset.setPar Par.HIF_MBPATH 0, ?_, ?_⟩, ⟨asking, ?_, ?_, ?_, ?_, ?_, ?_, ?_⟩⟩
  all_goals decide +kernel

theorem witness_StepKeepsInv : ∃ (s : State), s.Inv ∧ s.pending = [.crossingWordWrite 17 5] := by
  refine ⟨{ State.reset with pending := [.crossingWordWrite 17 5] }, ?_, rfl⟩
  constructor <;> first | decide +kernel | (constructor <;> decide +kernel)

theorem witness_HostLevels :
    (∃ (s : State) (c : Instr) (p : Path) (n : Nat), hostNeeds c = some (p, n) ∧ pathOpen s p = true ∧ pathLevel s p < n) ∧
    (∃ (s : State) (c : Instr) (p : Path) (n : Nat), hostNeeds c = some (p, n) ∧ pathOpen s p = true ∧ n ≤ pathLevel s p ∧ s.pfw = true) ∧
    (∃ (s : State) (c : Instr) (p : Path) (n : Nat), hostNeeds c = some (p, n) ∧ pathOpen s p = false) := by
  refine ⟨⟨(up State.reset).put Fd.HIF_STAT_SPILVL 1, .ownerLockCommand .spi, .spi, 2, ?_, ?_, ?_⟩,
    ⟨((up State.reset).put Fd.HIF_STAT_SPILVL 2).put Fd.PWR_STAT_PFW 1, .ownerLockCommand .spi, .spi, 2, ?_, ?_, ?_, ?_⟩,
    ⟨up State.reset, .ownerLockCommand .eth, .eth, 2, ?_, ?_⟩⟩
  all_goals decide +kernel

theorem witness_HeldIslands : ∃ (s : State) (c : Instr) (i : Island), islandOf c = some i ∧ s.held i = true := by
  refine ⟨(up State.reset).put Fd.SYS_FLT_HELD 0x1FF, .pilotDemandReceive, .vehicleLink, ?_, ?_⟩
  all_goals decide +kernel

theorem witness_Isolation : (∃ (c : Instr), keysMay c = false) ∧ (∃ (c : Instr), paramsMay c = false) ∧ (∃ (c : Instr), banksMay c = false) :=
  ⟨⟨.weldClear, rfl⟩, ⟨.weldClear, rfl⟩, ⟨.weldClear, rfl⟩⟩

/-- A command at the front of the queue is carried out, and leaves the queue's rest. -/
theorem test_frontIsCarriedOut :
    (match step { State.reset with pending := [.weldClear, .trimStore] } with
    | .next t => t.pending
    | .fault _ => []
    | .refused _ => []) = [.trimStore] := by
  decide +kernel

end Sys2Proof.Tests

section Witnesses

open Sys2Proof Sys2Proof.Machine Sys2Proof.Tests

namespace Sys2Proof.Tests.Fabric

def te (k id : Nat) : TokEntry := ⟨k, id, 100, 0, false⟩
def tk (h d : List TokEntry) (x : State) : State := { x with tok := ⟨h, d⟩ }
def xg (x : Nat) (v : Xing) (s : State) : State := { s with xings := setNth (List.replicate 21 ⟨[], []⟩) x v }
def res (r : TtbRes) (s : State) : State := { s with ttb := { s.ttb with fabric := r } }

theorem witness_CrossingWords :
    (∃ (s : State) (x : Nat), s.Inv ∧ x < 21 ∧ xingHeldEnd s x = none ∧ (xing s x).waiting = [] ∧ (xing s x).fifo.length < RegMap.xingDepth x) ∧
    (∃ (s : State) (x : Nat), s.Inv ∧ x < 21 ∧ xingHeldEnd s x = none ∧ (xing s x).fifo.length = RegMap.xingDepth x) ∧
    (∃ (s : State) (x : Nat) (w : Word64) (ws : List Word64), s.Inv ∧ x < 21 ∧ (xing s x).fifo = w :: ws ∧ (xing s x).waiting = []) ∧
    (∃ (s : State) (x : Nat) (w v : Word64) (ws vs : List Word64), s.Inv ∧ x < 21 ∧ (xing s x).fifo = w :: ws ∧ (xing s x).waiting = v :: vs) ∧
    (∃ (s : State) (x : Nat), x < 21 ∧ (xing s x).fifo = []) ∧
    (∃ (s : State) (x : Nat) (i : Island), x < 21 ∧ xingHeldEnd s x = some i) := by
  refine ⟨?_, ?_, ?_, ?_, ?_, ?_⟩
  · refine ⟨(xg 3 ⟨[7], []⟩ State.reset), 3, ?_, ?_, ?_, ?_, ?_⟩
    · constructor <;> first | decide +kernel | (constructor <;> decide +kernel)
    all_goals first | decide +kernel | rfl
  · refine ⟨(xg 17 ⟨[1, 2, 3, 4], []⟩ State.reset), 17, ?_, ?_, ?_, ?_⟩
    · constructor <;> first | decide +kernel | (constructor <;> decide +kernel)
    all_goals first | decide +kernel | rfl
  · refine ⟨(xg 3 ⟨[7, 8], []⟩ State.reset), 3, 7, [8], ?_, ?_, ?_, ?_⟩
    · constructor <;> first | decide +kernel | (constructor <;> decide +kernel)
    all_goals first | decide +kernel | rfl
  · refine ⟨(xg 17 ⟨[1, 2, 3, 4], [9]⟩ State.reset), 17, 1, 9, [2, 3, 4], [], ?_, ?_, ?_, ?_⟩
    · constructor <;> first | decide +kernel | (constructor <;> decide +kernel)
    all_goals first | decide +kernel | rfl
  · refine ⟨State.reset, 20, ?_, ?_⟩
    all_goals first | decide +kernel | rfl
  · refine ⟨(State.reset.put Fd.SYS_FLT_HELD 0x1FF), 20, .vehicleLink, ?_, ?_⟩
    all_goals first | decide +kernel | rfl

theorem witness_BudgetsReload :
    (∃ (k : Nat), k < 3) := by
  refine ⟨0, ?_⟩
  all_goals first | decide +kernel | rfl

theorem witness_TimetableSlots :
    (∃ (s : State) (k waiting c : Nat), k < 3 ∧ slotDecide s k waiting = .toClass c ∧ ttbPf s k = false) ∧
    (∃ (s : State) (p : Path), pathOpen s p = true ∧ 1 ≤ pathLevel s p ∧ s.pfw = false) := by
  refine ⟨?_, ?_⟩
  · refine ⟨({ State.reset with ttb := ⟨⟨[3, 3, 3, 3, 3, 3, 3, 3, 3], List.replicate 10 0, 0, true⟩, ⟨[3, 3, 3, 3, 3, 3, 3, 3, 3], List.replicate 10 0, 0, true⟩, ⟨[3, 3, 3, 3, 3, 3, 3, 3, 3], List.replicate 10 0, 0, true⟩⟩ }),
      0, 16, 4, ?_, ?_, ?_⟩
    all_goals first | decide +kernel | rfl
  · refine ⟨(up State.reset), .spi, ?_, ?_, ?_⟩
    all_goals first | decide +kernel | rfl

theorem witness_TokenDecisions :
    (∃ (s : State) (kind id inrush : Nat), kind ≤ 8 ∧ s.pfw = false ∧ s.tok.deferred = [] ∧ tokFits s ⟨kind, id, tokCost kind, if kind = 2 then inrush else 0,
      false⟩ = true) ∧
    (∃ (s : State) (kind id inrush : Nat), kind ≤ 8 ∧ s.pfw = false ∧ s.tok.deferred.length < 16 ∧ tokFits s ⟨kind, id, tokCost kind, if kind = 2 then inrush else
      0, false⟩ = false) ∧
    (∃ (s : State) (kind : Nat), kind ≤ 8 ∧ s.pfw = false ∧ s.tok.deferred.length = 16) ∧
    (∃ (s : State) (kind id : Nat) (e : TokEntry), kind ≠ 8 ∧ s.tok.held = [e] ∧ e.kind = kind ∧ e.id = id ∧ s.tok.deferred = []) ∧
    (∃ (s : State) (kind id : Nat) (e : TokEntry), s.tok.deferred = [e] ∧ e.kind = kind ∧ e.id = id) ∧
    (∃ (s : State) (kind id : Nat) (e : TokEntry), s.tok.deferred = [e] ∧ e.kind = kind ∧ e.id = id ∧ kind ≤ 8) ∧
    (∃ (s : State) (kind id : Nat), (s.tok.held.any fun e => tokIs kind id e && !e.overrun) = true ∧ kind ≤ 8) ∧
    (∃ (s : State) (pin : Nat), pin < 65536 ∧ s.tok.deferred = []) ∧
    (∃ (s : State) (mv : Nat), mv < 65536 ∧ mv < s.parN Par.VSYS_HEAD) := by
  refine ⟨?_, ?_, ?_, ?_, ?_, ?_, ?_, ?_, ?_⟩
  · refine ⟨(((tk [] [] (up State.reset)).put Fd.PWR_VSYS_MV 12000).put Fd.TOK_BUDGET_LOGICMW 5000 |>.put Fd.TOK_BUDGET_INRUSHMA 500 |>.put Fd.TOK_POWER_BASEMW
      100), 2, 1, 400, ?_, ?_, ?_, ?_⟩
    all_goals first | decide +kernel | rfl
  · refine ⟨(((tk [] [] (up State.reset)).put Fd.PWR_VSYS_MV 12000).put Fd.TOK_BUDGET_LOGICMW 50), 3, 1, 1, ?_, ?_, ?_, ?_⟩
    all_goals first | decide +kernel | rfl
  · refine ⟨(tk [] (List.replicate 16 (te 1 0)) (up State.reset)), 3, ?_, ?_, ?_⟩
    all_goals first | decide +kernel | rfl
  · refine ⟨(tk [te 3 1] [] (up State.reset)), 3, 1, (te 3 1), ?_, ?_, ?_, ?_, ?_⟩
    all_goals first | decide +kernel | rfl
  · refine ⟨(tk [te 2 2] [te 3 1] (up State.reset)), 3, 1, (te 3 1), ?_, ?_, ?_⟩
    all_goals first | decide +kernel | rfl
  · refine ⟨(tk [te 2 2] [te 3 1] (up State.reset)), 3, 1, (te 3 1), ?_, ?_, ?_, ?_⟩
    all_goals first | decide +kernel | rfl
  · refine ⟨(tk [te 3 1] [] (up State.reset)), 3, 1, ?_, ?_⟩
    all_goals first | decide +kernel | rfl
  · refine ⟨(tk [te 3 1] [] (up State.reset)), 900, ?_, ?_⟩
    all_goals first | decide +kernel | rfl
  · refine ⟨((up State.reset).setPar Par.VSYS_HEAD 10000), 9000, ?_, ?_⟩
    all_goals first | decide +kernel | rfl

end Sys2Proof.Tests.Fabric

namespace Sys2Proof.Tests.Metering

def f (x : State) : State := { (upTo 14 (fun r t => (t.put (Fd.AFE_CH_CONV r) r).put (Fd.AFE_CH_FAULT r) 0) x) with variant := .f }
def spares (x : State) : State := (x.put (Fd.AFE_CSTATE_STATE 14) 1).put (Fd.AFE_CSTATE_STATE 15) 1
def lanes (l : List Nat) (x : State) : State := { ((x.put Fd.AFE_LANE_SUB10 15).put Fd.AFE_LANE_SUB11 15).put Fd.AFE_LANE_FAULT 0 with variant := .f, afe := { x.afe with laneDown := l } }
def rr : RefRun := ⟨0, 512000, -512000, 250⟩
def rm : RotMeas := ⟨⟨0, 0⟩, ⟨0, 0⟩, ⟨0, 0⟩, ⟨0, 0⟩, rr, rr, rr, rr⟩
def rot (x : State) : State := { ((f x).put Fd.AFE_STAT_ROTON 1 |>.put (Fd.AFE_CSTATE_STATE 14) 1 |>.put (Fd.AFE_CSTATE_STATE 15) 5) with
  afe := { x.afe with todo := [3], storedMap := List.range 14, trims := List.replicate 16 (refResult x rr).1, factory := List.replicate 16 (refResult x rr).1 } }
def met (a o : Nat) (x : State) : State := ((x.put Fd.MTR_STAT_READY 1).put (Fd.PTS_ENG_STATE 0) a).put (Fd.PTS_ENG_STATE 1) o

/-- A gain that does not move stays within every limit. -/
theorem sameGain (g : Rat) (n : Nat) : Exact.abs (g - g) * 1000000 ≤ (n : Rat) := by
  have h : Exact.abs (g - g) * 1000000 = 0 := by simp [Exact.abs, Rat.sub_self]
  rw [h]; exact Rat.natCast_nonneg

/-- A result with the factory gain, no offset and no asymmetry makes no converter faulty. -/
theorem soundReference (s : State) (c : Nat) (res : Trim × Rat) (h1 : res.1.gain = (factoryTrim s c).gain) (h2 : res.1.offset = 0)
    (h3 : res.2 = 0) : refFaulty s c res = false := by
  have a (n : Nat) : ¬ (n : Rat) < 0 := Rat.not_lt.mpr Rat.natCast_nonneg
  have z : (0 : Rat) / 4194304 * 1000000 = 0 := by decide +kernel
  have y : ¬ (50 : Rat) < 0 := by decide +kernel
  simp [refFaulty, gainPpm, offsetPpm, h1, h2, h3, Exact.abs, Rat.sub_self, a, z, y]

theorem witness_MetrologyWork :
    (∃ (s : State) (n : Nat), s.variant = .m ∧ s.held .metrology = false ∧ n < 10 ∧ s.parN (Par.MOD_ROLE n) ≤ 10) ∧
    (∃ (s : State) (c q x : Nat) (l : List Nat), s.variant = .f ∧ s.held .metrology = false ∧ c < 14 ∧ (List.range 14).find? (fun r => roleConv s r == c && !s.on
      (Fd.AFE_CH_FAULT r)) = some q ∧ freeSpares s = x :: l) ∧
    (∃ (s : State) (m : RotMeas) (r c sp : Nat) (rest : List Nat), s.isF = true ∧ s.held .metrology = false ∧ s.on Fd.AFE_STAT_ROTON = true ∧ s.afe.todo = r :: rest
      ∧ r < 14 ∧ nth s.afe.storedMap r r = c ∧ c < 14 ∧ roleConv s r = c ∧ freeSpares s = [sp] ∧ m.win.extended ≤ 64 ∧ matchOk s m.win = true ∧ m.ret.extended ≤
      64 ∧ matchOk s m.ret = true ∧ Exact.abs ((refResult s m.under).1.gain - (nth s.afe.trims c (factoryTrim s c)).gain) * 1000000 ≤ (s.parN Par.STEP_LIM :
      Rat) ∧ refFaulty s c (refResult s m.under) = false) ∧
    (∃ (s : State) (k beat : Nat), s.isF = true ∧ s.held .metrology = false ∧ k < 12 ∧ beat ≤ 1 ∧ laneRole s k < 8 ∧ laneRole s k ∉ s.afe.laneDown) ∧
    (∃ (s : State) (k c q x : Nat) (l : List Nat), s.isF = true ∧ s.held .metrology = false ∧ k < 12 ∧ c < 14 ∧ (List.range 14).find? (fun r => roleConv s r == c &&
      !s.on (Fd.AFE_CH_FAULT r)) = some q ∧ freeSpares s = x :: l) ∧
    (∃ (s : State) (k p : Nat) (l : List Nat), s.isF = true ∧ s.held .metrology = false ∧ k < 8 ∧ k ∈ s.afe.laneDown ∧ [10, 11].filter (laneFree s) = p :: l) ∧
    (∃ (s : State) (m : InstMeas) (a : Nat), s.on Fd.MTR_STAT_READY = true ∧ s.running = true ∧ s.held .metrology = false ∧ activeEng s = some a ∧ engSt s (1 - a) =
      7 ∧ m.ac = false ∧ s.ses.dc = false ∧ s.saf.outWait = false ∧ roleInvalid s 9 = false) ∧
    (∃ (s : State) (m : InstMeas) (a : Nat), s.on Fd.MTR_STAT_READY = true ∧ s.running = true ∧ s.held .metrology = false ∧ activeEng s = some a ∧ engSt s (1 - a) =
      7 ∧ m.ac = false ∧ s.ses.dc = false ∧ s.saf.outWait = false ∧ roleInvalid s 9 = true) ∧
    (∃ (s : State) (p : List (Nat × Int)), s.held .metrology = false ∧ s.corrSent = some p ∧ corrOver (corrInForce s) p ≠ corrInForce s) ∧
    (∃ (s : State) (p : List (Nat × Int)), s.held .metrology = false ∧ s.corrSent = some p ∧ corrOver (corrInForce s) p = corrInForce s) ∧
    (∃ (s : State), s.on Fd.AFE_STAT_READY = true ∧ s.running = true ∧ s.held .metrology = false ∧ s.on Fd.MTR_STAT_READY = true) := by
  refine ⟨?_, ?_, ?_, ?_, ?_, ?_, ?_, ?_, ?_, ?_, ?_⟩
  · refine ⟨({ (up State.reset).setPar (Par.MOD_ROLE 2) 3 with variant := .m }), 2, ?_, ?_, ?_, ?_⟩
    all_goals first | decide +kernel | rfl
  · refine ⟨(spares (f (up State.reset))), 3, 3, 14, [15], ?_, ?_, ?_, ?_, ?_⟩
    all_goals first | decide +kernel | rfl
  · refine ⟨(rot (up State.reset)), rm, 3, 3, 14, [], ?_, ?_, ?_, ?_, ?_, ?_, ?_, ?_, ?_, ?_, ?_, ?_, ?_, ?_, ?_⟩
    all_goals first | decide +kernel | exact sameGain _ _ | skip
    refine soundReference _ _ _ rfl ?_ ?_
    · show ((0 : Int) : Rat) / 512 = 0; decide +kernel
    · show ((((512000 : Int) : Rat) / 512 + ((-512000 : Int) : Rat) / 512) / 2 - ((0 : Int) : Rat) / 512) / _ = 0
      have h : (((512000 : Int) : Rat) / 512 + ((-512000 : Int) : Rat) / 512) / 2 - ((0 : Int) : Rat) / 512 = 0 := by decide +kernel
      rw [h]; simp [Rat.div_def]
  · refine ⟨(lanes [] (up State.reset)), 0, 0, ?_, ?_, ?_, ?_, ?_, ?_⟩
    all_goals first | decide +kernel | rfl
  · refine ⟨(spares (f (up State.reset))), 0, 3, 3, 14, [15], ?_, ?_, ?_, ?_, ?_, ?_⟩
    all_goals first | decide +kernel | rfl
  · refine ⟨(lanes [5] (up State.reset)), 5, 10, [11], ?_, ?_, ?_, ?_, ?_⟩
    all_goals first | decide +kernel | rfl
  · refine ⟨(met 0 7 { up State.reset with ses := { State.reset.ses with dc := false }, saf := { State.reset.saf with outWait := false } }), ⟨false, 50000, true,
      [], [], []⟩, 0, ?_, ?_, ?_, ?_, ?_, ?_, ?_, ?_, ?_⟩
    all_goals first | decide +kernel | rfl
  · refine ⟨({ met 0 7 { up State.reset with ses := { State.reset.ses with dc := false }, saf := { State.reset.saf with outWait := false } } with variant := .f, afe := { State.reset.afe with heal := List.replicate 16 1 } }),
      ⟨false, 50000, true, [], [], []⟩, 0, ?_, ?_, ?_, ?_, ?_, ?_, ?_, ?_, ?_⟩
    all_goals first | decide +kernel | rfl
  · refine ⟨({ up State.reset with corrSent := some [(9061, 5)] }), [(9061, 5)], ?_, ?_, ?_⟩
    all_goals first | decide +kernel | rfl
  · refine ⟨({ up State.reset with corrSent := some [(9061, 0)] }), [(9061, 0)], ?_, ?_, ?_⟩
    all_goals first | decide +kernel | rfl
  · refine ⟨(met 0 1 ((up State.reset).put Fd.AFE_STAT_READY 1)), ?_, ?_, ?_, ?_⟩
    all_goals first | decide +kernel | rfl

end Sys2Proof.Tests.Metering

namespace Sys2Proof.Tests.Switching

def pt (g : PtsState → PtsState) (x : State) : State := { x with pts := g x.pts }
def eng (a o : Nat) (x : State) : State := ((x.put Fd.MTR_STAT_READY 1).put (Fd.PTS_ENG_STATE 0) a).put (Fd.PTS_ENG_STATE 1) o
def young (x : State) : State := pt (fun p => { p with faultHours := [] }) x
def snap7 : Snap := ⟨7, [], [], [], [], [], [], false⟩

theorem witness_EngineFaults :
    (∃ (s : State) (e : Nat), s.held .metrology = false ∧ e < 2 ∧ s.on Fd.MTR_STAT_READY = true ∧ engSt s e = 0 ∧ engSt s (1 - e) = 1 ∧ (s.pts.faultHours.filter fun
      f => f.1 == e).length < 2) ∧
    (∃ (s : State) (e : Nat), s.held .metrology = false ∧ e < 2 ∧ s.on Fd.MTR_STAT_READY = true ∧ engSt s e = 0 ∧ engSt s (1 - e) = 1 ∧ (s.pts.faultHours.filter fun
      f => f.1 == e).length < 2) ∧
    (∃ (s : State) (b a : Nat) (bs : List Nat) (p : Snap), s.held .metrology = false ∧ s.x01 = b :: bs ∧ activeEng s = some a ∧ (rail s a).snaps.find? (fun p =>
      p.blk == b) = some p ∧ engSt s (1 - a) = 7) ∧
    (∃ (s : State) (e : Nat), s.held .metrology = false ∧ e < 2 ∧ engSt s e = 2 ∧ engSt s (1 - e) = 0) ∧
    (∃ (s : State) (e : Nat), s.held .metrology = false ∧ e < 2 ∧ engSt s e = 2 ∧ engSt s (1 - e) = 0 ∧ (rail s e).fails = 0 ∧ (s.pts.faultHours.filter fun f => f.1
      == e).length < 2) ∧
    (∃ (s : State) (e : Nat), s.held .metrology = false ∧ e < 2 ∧ engSt s e = 2 ∧ engSt s (1 - e) = 0 ∧ 0 < (rail s e).fails) ∧
    (∃ (s : State) (a : Nat), s.held .metrology = false ∧ activeEng s = some a ∧ engSt s (1 - a) = 1 ∧ s.pts.due ≠ a) ∧
    (∃ (s : State), s.held .metrology = false ∧ ptsDual s = false) ∧
    (∃ (s : State) (p : Path) (a : Nat), HostMay p 1 s ∧ s.held .metrology = false ∧ activeEng s = some a ∧ engSt s (1 - a) = 1 ∧ s.pts.due ≠ a) := by
  refine ⟨?_, ?_, ?_, ?_, ?_, ?_, ?_, ?_, ?_⟩
  · refine ⟨(young (eng 0 1 (up State.reset))), 0, ?_, ?_, ?_, ?_, ?_, ?_⟩
    all_goals first | decide +kernel | rfl
  · refine ⟨(young (eng 1 0 (up State.reset))), 1, ?_, ?_, ?_, ?_, ?_, ?_⟩
    all_goals first | decide +kernel | rfl
  · refine ⟨({ pt (fun p => { p with r0 := { p.r0 with snaps := [snap7] } }) (eng 0 7 (up State.reset)) with x01 := [7, 8] }), 7, 0, [8], snap7, ?_, ?_, ?_, ?_, ?_⟩
    all_goals first | decide +kernel | rfl
  · refine ⟨(eng 2 0 (up State.reset)), 0, ?_, ?_, ?_, ?_⟩
    all_goals first | decide +kernel | rfl
  · refine ⟨(young (pt (fun p => { p with r0 := { p.r0 with fails := 0 } }) (eng 2 0 (up State.reset)))), 0, ?_, ?_, ?_, ?_, ?_, ?_⟩
    all_goals first | decide +kernel | rfl
  · refine ⟨(young (pt (fun p => { p with r0 := { p.r0 with fails := 1 } }) (eng 2 0 (up State.reset)))), 0, ?_, ?_, ?_, ?_, ?_⟩
    all_goals first | decide +kernel | rfl
  · refine ⟨(pt (fun p => { p with due := 1 }) (eng 0 1 (up State.reset))), 0, ?_, ?_, ?_, ?_⟩
    all_goals first | decide +kernel | rfl
  · refine ⟨(eng 0 2 (up State.reset)), ?_, ?_⟩
    all_goals first | decide +kernel | rfl
  · refine ⟨(pt (fun p => { p with due := 1 }) (eng 0 1 (up State.reset))), .spi, 0, ?_, ?_, ?_, ?_, ?_⟩
    all_goals first | decide +kernel | rfl

theorem witness_EngineRejoin :
    (∃ (s : State) (e : Nat), s.held .metrology = false ∧ e < 2 ∧ engSt s e = 4 ∧ engSt s (1 - e) = 0 ∧ s.parN Par.WARMUP ≤ (rail s e).warm) ∧
    (∃ (s : State) (e : Nat), s.held .metrology = false ∧ e < 2 ∧ engSt s e = 5 ∧ engSt s (1 - e) = 0 ∧ 1000 ≤ s.get (Fd.PTS_ENG_CLEAN e) ∧ s.pts.planned = false ∧
      s.pts.plannedNow = false) ∧
    (∃ (s : State) (e : Nat), s.held .metrology = false ∧ e < 2 ∧ engSt s e = 5 ∧ engSt s (1 - e) = 0 ∧ 60000 ≤ (rail s e).shadow ∧ s.get (Fd.PTS_ENG_CLEAN e) <
      1000 ∧ (s.pts.faultHours.filter fun f => f.1 == e).length < 2) ∧
    (∃ (s : State) (p : Path) (a : Nat), HostMay p 2 s ∧ s.held .metrology = false ∧ activeEng s = some a ∧ engSt s (1 - a) = 1) ∧
    (∃ (s : State) (p : Path) (e : Nat), HostMay p 2 s ∧ s.held .metrology = false ∧ e < 2 ∧ engSt s e = 6 ∧ engSt s (1 - e) = 0) ∧
    (∃ (s : State) (e : Nat), s.held .metrology = false ∧ e < 2 ∧ engSt s e = 6 ∧ engSt s (1 - e) = 0) ∧
    (∃ (s : State) (p : Path), HostMay p 1 s ∧ s.held .metrology = false) := by
  refine ⟨?_, ?_, ?_, ?_, ?_, ?_, ?_⟩
  · refine ⟨((pt (fun p => { p with r1 := { p.r1 with warm := 100000 } }) (eng 0 4 (up State.reset))).setPar Par.WARMUP 1000), 1, ?_, ?_, ?_, ?_, ?_⟩
    all_goals first | decide +kernel | rfl
  · refine ⟨((pt (fun p => { p with planned := false, plannedNow := false }) (eng 0 5 (up State.reset))).put (Fd.PTS_ENG_CLEAN 1) 1000), 1, ?_, ?_, ?_, ?_, ?_, ?_,
      ?_⟩
    all_goals first | decide +kernel | rfl
  · refine ⟨((young (pt (fun p => { p with r1 := { p.r1 with shadow := 60000 } }) (eng 0 5 (up State.reset)))).put (Fd.PTS_ENG_CLEAN 1) 999), 1, ?_, ?_, ?_, ?_, ?_,
      ?_, ?_⟩
    all_goals first | decide +kernel | rfl
  · refine ⟨({ eng 0 1 (up State.reset) with parPend := [(9061, 5)] }), .spi, 0, ?_, ?_, ?_, ?_⟩
    all_goals first | decide +kernel | rfl
  · refine ⟨(eng 0 6 (up State.reset)), .spi, 1, ?_, ?_, ?_, ?_, ?_⟩
    all_goals first | decide +kernel | rfl
  · refine ⟨(eng 6 0 (up State.reset)), 0, ?_, ?_, ?_, ?_⟩
    all_goals first | decide +kernel | rfl
  · refine ⟨(up State.reset), .spi, ?_, ?_⟩
    all_goals first | decide +kernel | rfl

end Sys2Proof.Tests.Switching

namespace Sys2Proof.Tests.Billing

def bi (g : BilState → BilState) (x : State) : State := { x with bil := g x.bil }
def rc (n : Nat) : Rec := ⟨n, 0, List.replicate 11 4⟩
def pd (n sec : Nat) : Pend := ⟨rc n, sec, true, 1, 0⟩
def way : Waybill := ⟨1, 77, 0, 10, 20, 1, 0, 5, 1, [1, 2, 3], 0, 0, 0, []⟩
def wkey (x : State) : State := ((((((((x.put (Fd.KEY_SLOT_STATE 20) 1).put (Fd.KEY_SLOT_TYPE 20) 4).put (Fd.KEY_SLOT_USAGE 20) 0x101).put (Fd.KEY_SLOTX_PROOT
    20) 1).put Fd.KEY_STAT_READY 1).put Fd.KEY_STAT_ROOTFAIL 0).setPar Par.WB_KEYSLOT 20).setPar Par.WB_SIGALG 1)
def clk (v time hws lim back : Nat) (x : State) : State := (((((x.put Fd.BTM_STAT_VALID v).setRegN Reg.BTM_TIME time).setRegN Reg.BTM_HWS hws).setPar
    Par.ADJ_LIM lim).setPar Par.BACK_MAX back)
def step0 (z : Option ClockStep) (x : State) : State := { x with btm := { x.btm with step := z, outage := none } }

theorem witness_BillingPipeline :
    (∃ (s : State) (r : Rec) (rs : List Rec), s.x00 = r :: rs ∧ s.bil.stopped = false ∧ s.on Fd.SYS_FLT_BILLOST = false ∧ s.bil.pend.length < 4095) ∧
    (∃ (s : State) (r : Rec) (rs : List Rec), s.x00 = r :: rs ∧ s.bil.stopped = true) ∧
    (∃ (s : State), s.held .battery = false ∧ s.pow.dark = false ∧ s.running = false) ∧
    (∃ (s : State) (sec : Nat) (rest : List Nat) (e : Pend), s.bil.due = sec :: rest ∧ s.on Fd.SYS_FLT_BILLOST = false ∧ s.bil.catchUp.testBit 4 = false ∧
      (dueEntries s sec).getLast? = some e) := by
  refine ⟨?_, ?_, ?_, ?_⟩
  · refine ⟨(bi (fun y => { y with stopped := false, pend := [] }) { up State.reset with x00 := [rc 4, rc 5] }), (rc 4), [rc 5], ?_, ?_, ?_, ?_⟩
    all_goals first | decide +kernel | rfl
  · refine ⟨(bi (fun y => { y with stopped := true }) { up State.reset with x00 := [rc 4, rc 5] }), (rc 4), [rc 5], ?_, ?_⟩
    all_goals first | decide +kernel | rfl
  · refine ⟨({ State.reset.put Fd.PWR_STAT_PG 0 |>.setRegN Reg.SYS_FLT 0 with pow := { State.reset.pow with dark := false } }), ?_, ?_, ?_⟩
    all_goals first | decide +kernel | rfl
  · refine ⟨(bi (fun y => { y with due := [9], pend := [pd 3 9, pd 4 9, pd 5 10] }) (up State.reset)), 9, [], (pd 4 9), ?_, ?_, ?_, ?_⟩
    all_goals first | decide +kernel | rfl

theorem witness_BillingViews :
    (∃ (s : State) (p : Path), HostMay p 1 s) ∧
    (∃ (s : State) (p : Path), HostMay p 1 s) ∧
    (∃ (s : State) (number : Nat), s.regN Reg.BIL_TOPUP < number ∧ number < 2 ^ 32) ∧
    (∃ (s : State) (number : Nat), number ≤ s.regN Reg.BIL_TOPUP) ∧
    (∃ (s : State) (w : Waybill) (rest : List Waybill), s.bil.unsigned = w :: rest ∧ s.bil.signRetry = false ∧ s.pfw = false ∧ wbKeyOk s = true ∧ s.parN
      Par.WB_SIGALG = 1 ∧ w.kind = 1) ∧
    (∃ (s : State) (w : Waybill) (rest : List Waybill), s.bil.unsigned = w :: rest ∧ s.pfw = false ∧ wbKeyOk s = true ∧ s.parN Par.WB_SIGALG = 1 ∧ w.kind = 1) := by
  refine ⟨?_, ?_, ?_, ?_, ?_, ?_⟩
  · refine ⟨(up State.reset), .spi, ?_⟩
    all_goals first | decide +kernel | rfl
  · refine ⟨(up State.reset), .spi, ?_⟩
    all_goals first | decide +kernel | rfl
  · refine ⟨((up State.reset).setRegN Reg.BIL_TOPUP 6), 7, ?_, ?_⟩
    all_goals first | decide +kernel | rfl
  · refine ⟨((up State.reset).setRegN Reg.BIL_TOPUP 6), 6, ?_⟩
    all_goals first | decide +kernel | rfl
  · refine ⟨(bi (fun y => { y with unsigned := [way], signRetry := false }) (wkey (up State.reset))), way, [], ?_, ?_, ?_, ?_, ?_, ?_⟩
    all_goals first | decide +kernel | rfl
  · refine ⟨(bi (fun y => { y with unsigned := [way], signRetry := true }) (wkey (up State.reset))), way, [], ?_, ?_, ?_, ?_, ?_⟩
    all_goals first | decide +kernel | rfl

theorem witness_BillingClock :
    (∃ (s : State), s.held .battery = false) ∧
    (∃ (s : State), s.on Fd.BTM_STAT_PTPLOCK = true) ∧
    (∃ (s : State), dstAt s (s.regN Reg.BTM_TIME) ≠ s.on Fd.BTM_STAT_DST) ∧
    (∃ (s : State), s.btm.slew = 0) ∧
    (∃ (s : State) (newMs frac : Nat), s.pfw = false ∧ s.on Fd.BTM_STAT_VALID = true ∧ ((newMs : Int) - (s.regN Reg.BTM_TIME * 1000 + frac : Nat)).natAbs ≤ s.parN
      Par.ADJ_LIM * 1000) ∧
    (∃ (s : State) (src newMs frac : Nat), s.pfw = false ∧ s.on Fd.BTM_STAT_VALID = true ∧ src ≠ 3 ∧ s.btm.step = none ∧ s.parN Par.ADJ_LIM * 1000 < ((newMs : Int)
      - (s.regN Reg.BTM_TIME * 1000 + frac : Nat)).natAbs ∧ s.regN Reg.BTM_HWS ≤ newMs / 1000 + s.parN Par.BACK_MAX) ∧
    (∃ (s : State) (src newMs frac : Nat), s.pfw = false ∧ s.on Fd.BTM_STAT_VALID = true ∧ src ≠ 3 ∧ s.parN Par.ADJ_LIM * 1000 < ((newMs : Int) - (s.regN
      Reg.BTM_TIME * 1000 + frac : Nat)).natAbs ∧ newMs / 1000 < s.regN Reg.BTM_TIME + 1 ∧ newMs / 1000 + s.parN Par.BACK_MAX < s.regN Reg.BTM_HWS) ∧
    (∃ (s : State) (p : Path) (frac : Nat), HostMay p 1 s ∧ s.held .battery = false ∧ s.on Fd.BTM_STAT_VALID = true ∧ (((s.regN Reg.BTM_SETVAL * 1000 : Nat) : Int)
      - (s.regN Reg.BTM_TIME * 1000 + frac : Nat)).natAbs ≤ s.parN Par.ADJ_LIM * 1000) ∧
    (∃ (s : State) (p : Path), HostMay p 2 s ∧ s.held .battery = false ∧ s.btm.step = none) ∧
    (∃ (s : State) (frac : Nat), s.parN Par.PTP_DISC ≠ 0 ∧ s.on Fd.BTM_STAT_PTPLOCK = true ∧ s.held .battery = false ∧ s.on Fd.BTM_STAT_VALID = true ∧ s.pfw = false
      ∧ Exact.toInt ((ptpDiff s frac : Rat) / 1000000) ≠ 0 ∧ (Exact.toInt ((ptpDiff s frac : Rat) / 1000000)).natAbs ≤ s.parN Par.ADJ_LIM * 1000) ∧
    (∃ (s : State) (x : ClockStep), s.btm.step = some x ∧ x.lost = false ∧ s.running = true ∧ supplyAbsent s = false ∧ s.held .battery = false ∧ stepHeld s = false) := by
  refine ⟨?_, ?_, ?_, ?_, ?_, ?_, ?_, ?_, ?_, ?_, ?_⟩
  · refine ⟨(up State.reset), ?_⟩
    all_goals first | decide +kernel | rfl
  · refine ⟨((up State.reset).put Fd.BTM_STAT_PTPLOCK 1), ?_⟩
    all_goals first | decide +kernel | rfl
  · refine ⟨(((up State.reset).put Fd.BTM_STAT_DST 1).setPar Par.DST_EN 0), ?_⟩
    all_goals first | decide +kernel | rfl
  · refine ⟨({ up State.reset with btm := { State.reset.btm with slew := 0 } }), ?_⟩
    all_goals first | decide +kernel | rfl
  · refine ⟨(clk 1 1000 990 10 5 (up State.reset)), 1003000, 500, ?_, ?_, ?_⟩
    all_goals first | decide +kernel | rfl
  · refine ⟨(step0 none (clk 1 1000 990 10 5 (up State.reset))), 2, 2000000, 1, ?_, ?_, ?_, ?_, ?_, ?_⟩
    all_goals first | decide +kernel | rfl
  · refine ⟨(clk 1 1000 990 10 5 (up State.reset)), 2, 900000, 1, ?_, ?_, ?_, ?_, ?_, ?_⟩
    all_goals first | decide +kernel | rfl
  · refine ⟨((clk 1 1000 990 10 5 (up State.reset)).setRegN Reg.BTM_SETVAL 1004), .spi, 500, ?_, ?_, ?_, ?_⟩
    all_goals first | decide +kernel | rfl
  · refine ⟨(step0 none ((up State.reset).setRegN Reg.BTM_SETVAL 1004)), .spi, ?_, ?_, ?_⟩
    all_goals first | decide +kernel | rfl
  · refine ⟨({ ((clk 1 1000 990 10 5 (up State.reset)).setPar Par.PTP_DISC 1).put Fd.BTM_STAT_PTPLOCK 1 |>.setRegN Reg.PTP_UTC 37 with eth := { State.reset.eth with st := (37 + 946684800 + 1002) * 1000000000 } }),
      0, ?_, ?_, ?_, ?_, ?_, ?_, ?_⟩
    all_goals first | decide +kernel | rfl
  · refine ⟨(step0 (some ⟨5, 1010, 2, false, false⟩) (((up State.reset).put Fd.BIL_STAT_HOLD 0).put Fd.BIL_STAT_ROLLBACK 0)), ⟨5, 1010, 2, false, false⟩, ?_, ?_,
      ?_, ?_, ?_, ?_⟩
    all_goals first | decide +kernel | rfl

end Sys2Proof.Tests.Billing

namespace Sys2Proof.Tests.Battery

def outRec : OutageRec := ⟨10, 0, 1, 20, 0, 1, false, 0⟩

theorem witness_BatteryDomain :
    (∃ (s : State), s.held .battery = false ∧ s.pow.dark = false ∧ s.running = false ∧ supplyAbsent s = true ∧ s.parB (Par.TAMP_EN 0) = true ∧ nth s.btm.polls 0
      false = true ∧ nth s.btm.polls 1 false = false ∧ s.on Fd.BTM_STAT_COVER = false ∧ s.on Fd.BTM_STAT_TERM = false ∧ s.btm.tampBuf.length < 32) ∧
    (∃ (s : State), s.held .battery = false ∧ s.pow.dark = false ∧ s.running = false ∧ s.on Fd.BTM_STAT_COVER = false ∧ s.on Fd.BTM_STAT_TERM = false) ∧
    (∃ (s : State) (o : OutageRec), s.btm.outage = some o ∧ s.isF = true ∧ s.parB Par.OUT_EN = true ∧ o.incomplete = false) ∧
    (∃ (s : State) (mv : Nat), s.held .battery = false ∧ 2000 ≤ mv ∧ mv < 2500) ∧
    (∃ (s : State) (mv : Nat), s.held .battery = false ∧ 2800 ≤ mv ∧ mv < 65536) ∧
    (∃ (s : State) (p : Path) (bits : Word) (x : Nat), HostMay p 1 s ∧ x < 21 ∧ Bits.bit bits x = true) := by
  refine ⟨?_, ?_, ?_, ?_, ?_, ?_⟩
  · refine ⟨({ (((up State.reset).put Fd.PWR_STAT_PG 0).put Fd.BTM_STAT_COVER 0).put Fd.BTM_STAT_TERM 0 with btm := { State.reset.btm with outage := some outRec, polls := [true, false] }, pow := { State.reset.pow with dark := false } }),
      ?_, ?_, ?_, ?_, ?_, ?_, ?_, ?_, ?_, ?_⟩
    all_goals first | decide +kernel | rfl
  · refine ⟨({ (((up State.reset).put Fd.PWR_STAT_PG 0).put Fd.BTM_STAT_COVER 0).put Fd.BTM_STAT_TERM 0 with pow := { State.reset.pow with dark := false } }), ?_,
      ?_, ?_, ?_, ?_⟩
    all_goals first | decide +kernel | rfl
  · refine ⟨({ up State.reset with variant := .f, btm := { State.reset.btm with outage := some outRec } }), outRec, ?_, ?_, ?_, ?_⟩
    all_goals first | decide +kernel | rfl
  · refine ⟨({ up State.reset with btm := { State.reset.btm with outage := some outRec } }), 2000, ?_, ?_, ?_⟩
    all_goals first | decide +kernel | rfl
  · refine ⟨(up State.reset), 2800, ?_, ?_, ?_⟩
    all_goals first | decide +kernel | rfl
  · refine ⟨(up State.reset), .spi, 0x100001, 20, ?_, ?_, ?_⟩
    all_goals first | decide +kernel | rfl

theorem witness_DisconnectControl :
    (∃ (s : State) (p : Path), HostMay p 1 s ∧ s.get Fd.SES_STAT_STATE < 4 ∧ s.get Fd.BIL_DISC_STATE = 1 ∧ contactorOn s = true) ∧
    (∃ (s : State) (p : Path), HostMay p 1 s ∧ s.get Fd.SES_STAT_STATE < 4 ∧ s.get Fd.BIL_DISC_STATE = 2 ∧ s.get Fd.BIL_DISC_REQ = 0 ∧ s.on Fd.MTR_STAT_READY =
      false) ∧
    (∃ (s : State) (shown : Bool), s.btm.relayWait = true ∧ shown = s.btm.relayOn) ∧
    (∃ (s : State) (shown : Bool), s.btm.relayWait = true ∧ s.btm.relayOn = true ∧ shown = false ∧ s.btm.relayRepeat = false ∧ s.pfw = false ∧ relaySo s = none) ∧
    (∃ (s : State) (n : Nat), s.btm.relayRepeat = true ∧ s.btm.relayOn = true ∧ s.btm.relayWait = false ∧ relaySo s = some n ∧ relayBarred s = true) ∧
    (∃ (s : State), s.btm.relayRepeat = true ∧ s.btm.relayOn = true ∧ s.btm.relayWait = false ∧ relaySo s = none) ∧
    (∃ (s : State), s.btm.relayWait = true) ∧
    (∃ (s : State) (n : Nat), s.get Fd.BIL_DISC_STATE = 0 ∧ s.btm.relayOn = true ∧ relaySo s = some n ∧ n < 4) ∧
    (∃ (s : State), s.get Fd.BIL_DISC_STATE ≠ 0) := by
  refine ⟨?_, ?_, ?_, ?_, ?_, ?_, ?_, ?_, ?_⟩
  · refine ⟨(((((up State.reset).put Fd.SES_STAT_STATE 3).put Fd.BIL_DISC_STATE 1).putBit Reg.SAF_OUT 0 true).setPar (Par.SO_FUNC 0) 1), .spi, ?_, ?_, ?_, ?_⟩
    all_goals first | decide +kernel | rfl
  · refine ⟨(((((up State.reset).put Fd.SES_STAT_STATE 3).put Fd.BIL_DISC_STATE 2).put Fd.BIL_DISC_REQ 0).put Fd.MTR_STAT_READY 0), .spi, ?_, ?_, ?_, ?_, ?_⟩
    all_goals first | decide +kernel | rfl
  · refine ⟨({ up State.reset with btm := { State.reset.btm with relayWait := true, relayOn := true } }), true, ?_, ?_⟩
    all_goals first | decide +kernel | rfl
  · refine ⟨({ (up State.reset).setPar (Par.SO_FUNC 3) 0 with btm := { State.reset.btm with relayWait := true, relayOn := true } }), false, ?_, ?_, ?_, ?_, ?_, ?_⟩
    all_goals first | decide +kernel | rfl
  · refine ⟨({ ((up State.reset).put Fd.SAF_STAT_STATE 3).setPar (Par.SO_FUNC 3) 3 with btm := { State.reset.btm with relayRepeat := true, relayOn := true } }), 3,
      ?_, ?_, ?_, ?_, ?_⟩
    all_goals first | decide +kernel | rfl
  · refine ⟨({ (up State.reset).setPar (Par.SO_FUNC 3) 0 with btm := { State.reset.btm with relayRepeat := true, relayOn := true } }), ?_, ?_, ?_, ?_⟩
    all_goals first | decide +kernel | rfl
  · refine ⟨({ up State.reset with btm := { State.reset.btm with relayWait := true } }), ?_⟩
    all_goals first | decide +kernel | rfl
  · refine ⟨({ ((up State.reset).put Fd.BIL_DISC_STATE 0).setPar (Par.SO_FUNC 3) 3 with btm := { State.reset.btm with relayOn := true } }), 3, ?_, ?_, ?_, ?_⟩
    all_goals first | decide +kernel | rfl
  · refine ⟨((up State.reset).put Fd.BIL_DISC_STATE 2), ?_⟩
    all_goals first | decide +kernel | rfl

end Sys2Proof.Tests.Battery

namespace Sys2Proof.Tests.Safety

theorem witness_SafetyInputs :
    (∃ (s : State), s.held .signalBox = false ∧ s.pfw = true ∧ causeOn s 21 = false) ∧
    (∃ (s : State) (n : Nat), s.held .signalBox = false ∧ n < 2 ∧ s.saf.pairs.length = 4 ∧ (nth s.saf.pairs n .zero).timer = true ∧ (pairChannels s n).1 ≠
      (pairChannels s n).2 ∧ causeOn s 4 = false ∧ safSt s = 0) ∧
    (∃ (s : State) (tp : Nat), s.held .signalBox = false ∧ tp < 2) ∧
    (∃ (s : State) (o : Nat), s.held .signalBox = false ∧ o < 4 ∧ s.bitOf Reg.SAF_OUT o = true ∧ causeOn s 6 = false) ∧
    (∃ (s : State), s.held .signalBox = false) ∧
    (∃ (s : State) (o : Nat), s.held .signalBox = false ∧ o < 16 ∧ s.bitOf Reg.SAF_OUT o = false ∧ causeOn s 6 = false) ∧
    (∃ (s : State), s.held .signalBox = false ∧ s.on Fd.SAF_IN_RST = true ∧ causeOn s 19 = false) ∧
    (∃ (s : State), s.held .signalBox = false ∧ causeOn s 13 = false ∧ safSt s = 0) ∧
    (∃ (s : State), s.held .signalBox = false ∧ causeOn s 14 = false ∧ safSt s = 0) ∧
    (∃ (s : State), s.held .signalBox = false ∧ s.saf.coreBack = true ∧ wordsWhole s 13 = true) ∧
    (∃ (s : State), s.held .signalBox = false ∧ s.saf.stuckOut = true) := by
  refine ⟨?_, ?_, ?_, ?_, ?_, ?_, ?_, ?_, ?_, ?_, ?_⟩
  · refine ⟨((up State.reset).put Fd.PWR_STAT_PFW 1), ?_, ?_, ?_⟩
    all_goals first | decide +kernel | rfl
  · refine ⟨({ ((up State.reset).setRegN Reg.SAF_STAT 0).setRegN Reg.SAF_IN 4 |>.setRegN Reg.SAF_CAUSE 0 with saf := { State.reset.saf with pairs := [.zero, ⟨true, false, false, false⟩, .zero, .zero] } }),
      1, ?_, ?_, ?_, ?_, ?_, ?_, ?_⟩
    all_goals first | decide +kernel | rfl
  · refine ⟨(up State.reset), 1, ?_, ?_⟩
    all_goals first | decide +kernel | rfl
  · refine ⟨(((up State.reset).setRegN Reg.SAF_OUT 15).setRegN Reg.SAF_CAUSE 0), 3, ?_, ?_, ?_, ?_⟩
    all_goals first | decide +kernel | rfl
  · refine ⟨(up State.reset), ?_⟩
    all_goals first | decide +kernel | rfl
  · refine ⟨(((up State.reset).setRegN Reg.SAF_OUT 0).setRegN Reg.SAF_CAUSE 0), 15, ?_, ?_, ?_, ?_⟩
    all_goals first | decide +kernel | rfl
  · refine ⟨(((up State.reset).setRegN Reg.SAF_IN 4096).setRegN Reg.SAF_CAUSE 0), ?_, ?_, ?_⟩
    all_goals first | decide +kernel | rfl
  · refine ⟨((((up State.reset).setRegN Reg.SAF_STAT 0).setRegN Reg.SAF_CAUSE 0).setPar Par.CONT_DELAY 0), ?_, ?_, ?_⟩
    all_goals first | decide +kernel | rfl
  · refine ⟨((((up State.reset).setRegN Reg.SAF_STAT 0).setRegN Reg.SAF_CAUSE 0)), ?_, ?_, ?_⟩
    all_goals first | decide +kernel | rfl
  · refine ⟨({ (((up State.reset).put (Fd.SYS_XSTAT_NOOVF 3) 1).put (Fd.SYS_XSTAT_NOOVF 4) 1).setRegN Reg.SAF_CAUSE 0x2000 with saf := { State.reset.saf with coreBack := true } }),
      ?_, ?_, ?_⟩
    all_goals first | decide +kernel | rfl
  · refine ⟨({ (up State.reset).setRegN Reg.SAF_CAUSE 0x80000 with saf := { State.reset.saf with stuckOut := true } }), ?_, ?_⟩
    all_goals first | decide +kernel | rfl

theorem witness_SafetyReactions :
    (∃ (s : State), s.held .signalBox = false ∧ s.saf.outWait = true ∧ s.saf.trip.wanted = false) ∧
    (∃ (s : State) (held : Nat), causeOn s 17 = false ∧ causeOn s 18 = false ∧ causeOn s 19 = false ∧ causeOn s 20 = false ∧ (classC.any (causeLatched s)) = true ∧
      100 ≤ held ∧ held ≤ 5000) ∧
    (∃ (held : Nat), held < 100) ∧
    (∃ (s : State), safSt s = 1 ∧ s.get Fd.SAF_LATCH_LATCHED = 1 ∧ s.get Fd.SAF_CAUSE_ACTIVE = 0 ∧ s.saf.hold = false ∧ s.saf.needRst = false ∧ s.saf.pairs =
      List.replicate 4 .zero) ∧
    (∃ (s : State), s.held .signalBox = false) ∧
    (∃ (s : State) (v : Nat), s.on Fd.SAF_STAT_MODE = true ∧ s.on Fd.SAF_STAT_CONFOK = true ∧ v < 16 ∧ v ≠ 10 ∧ causeOn s 18 = false) ∧
    (∃ (s : State) (v : Nat), s.on Fd.SAF_STAT_MODE = false ∧ v < 16) ∧
    (∃ (s : State), s.held .signalBox = false) ∧
    (∃ (s : State), s.held .signalBox = false) := by
  refine ⟨?_, ?_, ?_, ?_, ?_, ?_, ?_, ?_, ?_⟩
  · refine ⟨({ (up State.reset).setRegN Reg.SAF_OUT 15 with saf := { State.reset.saf with outWait := true } }), ?_, ?_, ?_⟩
    all_goals first | decide +kernel | rfl
  · refine ⟨(((up State.reset).setRegN Reg.SAF_CAUSE 0).setRegN Reg.SAF_LATCH 64), 100, ?_, ?_, ?_, ?_, ?_, ?_, ?_⟩
    all_goals first | decide +kernel | rfl
  · refine ⟨99, ?_⟩
    all_goals first | decide +kernel | rfl
  · refine ⟨({ (((up State.reset).setRegN Reg.SAF_CAUSE 0).setRegN Reg.SAF_LATCH 1).put Fd.SAF_STAT_STATE 1 with saf := { State.reset.saf with hold := false, needRst := false, pairs := List.replicate 4 .zero } }),
      ?_, ?_, ?_, ?_, ?_, ?_⟩
    all_goals first | decide +kernel | rfl
  · refine ⟨(up State.reset), ?_⟩
    all_goals first | decide +kernel | rfl
  · refine ⟨(((((up State.reset).setRegN Reg.SAF_CAUSE 0).setRegN Reg.SAF_LATCH 1).put Fd.SAF_STAT_MODE 1).put Fd.SAF_STAT_CONFOK 1), 5, ?_, ?_, ?_, ?_, ?_⟩
    all_goals first | decide +kernel | rfl
  · refine ⟨((up State.reset).put Fd.SAF_STAT_MODE 0), 5, ?_, ?_⟩
    all_goals first | decide +kernel | rfl
  · refine ⟨(up State.reset), ?_⟩
    all_goals first | decide +kernel | rfl
  · refine ⟨(up State.reset), ?_⟩
    all_goals first | decide +kernel | rfl

theorem witness_ContactorControl :
    (∃ (s : State) (outs r : Nat) (rel : Bool) (ws : List CoreWord), s.x04 = .close outs rel :: ws ∧ outs &&& contactorMask s ≠ 0 ∧ closeReason s (outs &&&
      contactorMask s) = some r) ∧
    (∃ (s : State) (outs n : Nat) (rel : Bool) (ws : List CoreWord), s.x04 = .close outs rel :: ws ∧ s.saf.close = none ∧ closeReason s (outs &&& contactorMask s) =
      none ∧ n < 4 ∧ (outs &&& contactorMask s).testBit n = true) ∧
    (∃ (s : State) (outs : Nat), s.held .signalBox = false ∧ s.saf.close = some (outs, true) ∧ s.saf.fbDis = 0 ∧ ((List.range 4).all fun n => !outs.testBit n ||
      fbClosed s n) = true ∧ safSt s = 0 ∧ s.get Fd.SAF_CAUSE_ACTIVE = 0 ∧ s.on Fd.EFT_STAT_TRIPA = false ∧ s.on Fd.EFT_STAT_TRIPB = false) ∧
    (∃ (s : State) (outs n : Nat) (rel : Bool), s.held .signalBox = false ∧ s.saf.close = some (outs, rel) ∧ n < 4 ∧ outs.testBit n = true ∧ fbClosed s n = false) ∧
    (∃ (s : State) (ws : List CoreWord), s.x04 = .openAll :: ws ∧ s.parN Par.CONT_DELAY ≠ 0) ∧
    (∃ (s : State) (ws : List CoreWord), s.x04 = .openAll :: ws ∧ s.parN Par.CONT_DELAY = 0) ∧
    (∃ (s : State) (n : Nat) (x y : Bool), s.held .signalBox = false ∧ sesSt s = 0 ∧ n < 4 ∧ (contactorMask s).testBit n = true ∧ x ≠ y ∧ causeOn s 7 = false) ∧
    (∃ (s : State) (n : Nat), s.held .signalBox = false ∧ n < 4 ∧ (contactorMask s).testBit n = true ∧ s.saf.fbDis = 0 ∧ s.bitOf Reg.SWC_STAT n = false ∧ fbClosed s
      n = true) ∧
    (∃ (s : State) (n : Nat), s.held .signalBox = false ∧ n < 4 ∧ (contactorMask s).testBit n = true ∧ s.saf.fbDis = 0 ∧ s.bitOf Reg.SWC_STAT n = true ∧ fbClosed s
      n = false) ∧
    (∃ (s : State), s.held .signalBox = false ∧ weldOff s = true ∧ weldShown s = true ∧ weldLow s = false) ∧
    (∃ (s : State), weldOff s = true ∧ weldLow s = true ∧ fbAllRight s = true) ∧
    (∃ (s : State) (n : Nat), s.held .signalBox = false ∧ n < 4 ∧ s.bitOf Reg.SAF_OUT n = true) := by
  refine ⟨?_, ?_, ?_, ?_, ?_, ?_, ?_, ?_, ?_, ?_, ?_, ?_⟩
  · refine ⟨({ (up State.reset).setRegN Reg.SAF_CAUSE 4 with x04 := [.close 1 true] }), 1, ((closeReason ({ (up State.reset).setRegN Reg.SAF_CAUSE 4 with x04 := [.close 1 true] })
      1).getD 0), true, [], ?_, ?_, ?_⟩
    all_goals first | decide +kernel | rfl
  · refine ⟨({ ((((up State.reset).setRegN Reg.SAF_CAUSE 0).setRegN Reg.SAF_LATCH 0).setRegN Reg.SAF_STAT 0).setRegN Reg.SWC_STAT 0 |>.setRegN Reg.EFT_STAT 0 with x04 := [.close 3 true], variant := .m, saf := { State.reset.saf with pilot := 3, close := none } }),
      3, 1, true, [], ?_, ?_, ?_, ?_, ?_⟩
    all_goals first | decide +kernel | rfl
  · refine ⟨({ ((((up State.reset).setRegN Reg.SAF_CAUSE 0).setRegN Reg.SAF_LATCH 0).setRegN Reg.SAF_STAT 0).setRegN Reg.SWC_STAT 0x33 |>.setRegN Reg.EFT_STAT 0 with saf := { State.reset.saf with close := some (3, true) } }),
      3, ?_, ?_, ?_, ?_, ?_, ?_, ?_, ?_⟩
    all_goals first | decide +kernel | rfl
  · refine ⟨({ ((up State.reset).setRegN Reg.SWC_STAT 0x3).setRegN Reg.SAF_OUT 0x3 with saf := { State.reset.saf with close := some (3, true) } }), 3, 1, true, ?_,
      ?_, ?_, ?_, ?_⟩
    all_goals first | decide +kernel | rfl
  · refine ⟨({ ((up State.reset).setRegN Reg.SAF_OUT 0x3).setPar Par.CONT_DELAY 50 with x04 := [.openAll] }), [], ?_, ?_⟩
    all_goals first | decide +kernel | rfl
  · refine ⟨({ ((up State.reset).setRegN Reg.SAF_OUT 0x3).setPar Par.CONT_DELAY 0 with x04 := [.openAll] }), [], ?_, ?_⟩
    all_goals first | decide +kernel | rfl
  · refine ⟨((((up State.reset).setRegN Reg.SAF_CAUSE 0).put Fd.SES_STAT_STATE 0)), 1, true, false, ?_, ?_, ?_, ?_, ?_, ?_⟩
    all_goals first | decide +kernel | rfl
  · refine ⟨((((up State.reset).setRegN Reg.SAF_CAUSE 0).setRegN Reg.SWC_STAT 0x20)), 1, ?_, ?_, ?_, ?_, ?_, ?_⟩
    all_goals first | decide +kernel | rfl
  · refine ⟨((((up State.reset).setRegN Reg.SAF_CAUSE 0).setRegN Reg.SWC_STAT 0x2)), 1, ?_, ?_, ?_, ?_, ?_, ?_⟩
    all_goals first | decide +kernel | rfl
  · refine ⟨(((((up State.reset).setPar Par.WELD_ROLE 9).setPar Par.WELD_OUT 2).setRegN Reg.SAF_OUT 0).setRegN Reg.SWC_STAT 0 |>.setRegN (Reg.MTR_VDC 0) 400000),
      ?_, ?_, ?_, ?_⟩
    all_goals first | decide +kernel | rfl
  · refine ⟨(((((up State.reset).setPar Par.WELD_ROLE 9).setPar Par.WELD_OUT 2).setRegN Reg.SAF_OUT 0).setRegN Reg.SWC_STAT 0 |>.setRegN (Reg.MTR_VDC 0) 0
      |>.setRegN Reg.BIL_DISC 0), ?_, ?_, ?_⟩
    all_goals first | decide +kernel | rfl
  · refine ⟨((up State.reset).setRegN Reg.SAF_OUT 8), 3, ?_, ?_, ?_⟩
    all_goals first | decide +kernel | rfl

theorem witness_SafeTelegrams :
    (∃ (s : State), s.running = true ∧ s.held .signalBox = false ∧ s.saf.seq < 65535 ∧ portUp s 0 = false ∧ portUp s 1 = false) ∧
    (∃ (s : State) (net : Nat) (bytes : List Byte) (l : List (Nat × List Byte)), s.held .signalBox = false ∧ s.x09 = (net, bytes) :: l ∧ net < 2 ∧ ((List.range
      8).filter fun c => s.parN (Par.TG_SRC c) != 0xFFFF) = []) ∧
    (∃ (s : State) (net c : Nat) (bytes : List Byte) (l : List (Nat × List Byte)), s.held .signalBox = false ∧ s.x09 = (net, bytes) :: l ∧ net < 2 ∧ (((List.range
      8).filter fun c => s.parN (Par.TG_SRC c) != 0xFFFF).find? fun c => s.parN (Par.TG_SRC c) == tgSource (bytes.take 32)) = some c ∧ tgAddressed s (bytes.take
      32) = false) ∧
    (∃ (s : State) (c : Nat), s.held .signalBox = false ∧ c < 8 ∧ s.parN (Par.TG_SRC c) ≠ 0xFFFF ∧ s.saf.conns.length = 8 ∧ (tgConn s c).lost = false) := by
  refine ⟨?_, ?_, ?_, ?_⟩
  · refine ⟨((up State.reset).setRegN Reg.ETH_CTL 0), ?_, ?_, ?_, ?_, ?_⟩
    all_goals first | decide +kernel | rfl
  · refine ⟨({ up State.reset with x09 := [(1, [1])] }), 1, [1], [], ?_, ?_, ?_, ?_⟩
    all_goals first | decide +kernel | rfl
  · refine ⟨({ (up State.reset).setPar (Par.TG_SRC 2) 0 with x09 := [(1, [0x21])] }), 1, 2, [0x21], [], ?_, ?_, ?_, ?_, ?_⟩
    all_goals first | decide +kernel | rfl
  · refine ⟨((up State.reset).setPar (Par.TG_SRC 2) 7), 2, ?_, ?_, ?_, ?_, ?_⟩
    all_goals first | decide +kernel | rfl

end Sys2Proof.Tests.Safety

namespace Sys2Proof.Tests.Earth

def tk : TokEntry := ⟨3, 0, 1, 0, false⟩

theorem witness_ResidualCurrentTests :
    (∃ (s : State), s.held .signalBox = false ∧ s.isF = true ∧ s.parB Par.RCM_EN = true ∧ s.on Fd.EFT_STAT_RCMTEST = false ∧ tokHolds s 3 0 = true) ∧
    (∃ (s : State), s.held .signalBox = false ∧ s.isF = false) ∧
    (∃ (s : State) (p : Path), HostMay p 1 s ∧ s.held .signalBox = false ∧ s.isF = true ∧ s.parB Par.RCM_EN = true ∧ s.on Fd.EFT_STAT_RCMTEST = false ∧ tokHolds s 3
      0 = false ∧ tokWaits s 3 0 = true) ∧
    (∃ (s : State) (p : Path), HostMay p 1 s ∧ s.held .signalBox = false ∧ s.isF = true ∧ s.parB Par.RCM_EN = true ∧ s.on Fd.EFT_STAT_RCMTEST = false ∧ tokHolds s 3
      0 = true) ∧
    (∃ (s : State) (plus minus : Int), s.held .signalBox = false ∧ s.on Fd.EFT_STAT_RCMTEST = true ∧ 8000 ≤ plus ∧ plus ≤ 12000 ∧ -12000 ≤ minus ∧ minus ≤ -8000 ∧
      s.tok.deferred = []) ∧
    (∃ (s : State) (plus : Int), s.held .signalBox = false ∧ s.on Fd.EFT_STAT_RCMTEST = true ∧ 12000 < plus ∧ s.tok.deferred = []) ∧
    (∃ (s : State), s.held .signalBox = false ∧ s.saf.rcm.again = true ∧ s.isF = true ∧ s.parB Par.RCM_EN = true ∧ s.on Fd.EFT_STAT_RCMTEST = false ∧ tokHolds s 3 0
      = true) ∧
    (∃ (s : State), s.held .signalBox = false ∧ s.saf.rcm.again = false) := by
  refine ⟨?_, ?_, ?_, ?_, ?_, ?_, ?_, ?_⟩
  · refine ⟨({ ((up State.reset).setPar Par.RCM_EN 1).put Fd.EFT_STAT_RCMTEST 0 with variant := .f, tok := ⟨[tk], []⟩ }), ?_, ?_, ?_, ?_, ?_⟩
    all_goals first | decide +kernel | rfl
  · refine ⟨({ up State.reset with variant := .m }), ?_, ?_⟩
    all_goals first | decide +kernel | rfl
  · refine ⟨({ ((up State.reset).setPar Par.RCM_EN 1).put Fd.EFT_STAT_RCMTEST 0 with variant := .f, tok := ⟨[], [tk]⟩ }), .spi, ?_, ?_, ?_, ?_, ?_, ?_, ?_⟩
    all_goals first | decide +kernel | rfl
  · refine ⟨({ ((up State.reset).setPar Par.RCM_EN 1).put Fd.EFT_STAT_RCMTEST 0 with variant := .f, tok := ⟨[tk], []⟩ }), .spi, ?_, ?_, ?_, ?_, ?_, ?_⟩
    all_goals first | decide +kernel | rfl
  · refine ⟨(((up State.reset).put Fd.EFT_STAT_RCMTEST 1)), 8000, (-12000), ?_, ?_, ?_, ?_, ?_, ?_, ?_⟩
    all_goals first | decide +kernel | rfl
  · refine ⟨(((up State.reset).put Fd.EFT_STAT_RCMTEST 1)), 12001, ?_, ?_, ?_, ?_⟩
    all_goals first | decide +kernel | rfl
  · refine ⟨({ ((up State.reset).setPar Par.RCM_EN 1).put Fd.EFT_STAT_RCMTEST 0 with variant := .f, tok := ⟨[tk], []⟩, saf := { State.reset.saf with rcm := { State.reset.saf.rcm with again := true } } }),
      ?_, ?_, ?_, ?_, ?_, ?_⟩
    all_goals first | decide +kernel | rfl
  · refine ⟨(up State.reset), ?_, ?_⟩
    all_goals first | decide +kernel | rfl

theorem witness_InsulationAndTrips :
    (∃ (s : State), s.held .metrology = false ∧ s.isF = true ∧ s.parB Par.IMD_EN = true ∧ s.saf.imd.positive = true ∧ sesSt s = 0) ∧
    (∃ (s : State), s.held .metrology = false ∧ s.isF = true ∧ s.parB Par.IMD_EN = true ∧ s.saf.imd.positive = false ∧ s.saf.imd.dirty = true ∧ sesSt s = 0) ∧
    (∃ (s : State) (m : Nat), s.isF = true ∧ m &&& tripEnabled s ≠ 0 ∧ laneOk s (s.get Fd.EFT_TRIPMAP_LANEA) = true ∧ laneOk s (s.get Fd.EFT_TRIPMAP_LANEB) = true ∧
      s.on Fd.EFT_STAT_TRIPTEST = true) ∧
    (∃ (s : State) (m : Nat), s.isF = true ∧ m &&& tripEnabled s ≠ 0 ∧ laneOk s (s.get Fd.EFT_TRIPMAP_LANEA) = true ∧ s.on Fd.EFT_STAT_TRIPTEST = false ∧
      causeLatched s 10 = false ∧ causeOn s 10 = false ∧ safSt s = 0) ∧
    (∃ (s : State), s.held .signalBox = false ∧ s.isF = true ∧ contactorOn s = false) ∧
    (∃ (s : State), s.held .signalBox = false ∧ s.isF = false) ∧
    (∃ (s : State) (p : Path), HostMay p 1 s ∧ s.held .signalBox = false ∧ s.isF = true ∧ contactorOn s = true) ∧
    (∃ (s : State), s.held .signalBox = false ∧ s.saf.trip.wanted = true ∧ s.saf.trip.asked = true ∧ contactorOn s = false ∧ s.on Fd.EFT_STAT_TRIPTEST = false) ∧
    (∃ (s : State), s.held .signalBox = false ∧ s.on Fd.EFT_STAT_TRIPTEST = true) ∧
    (∃ (s : State), s.held .signalBox = false ∧ s.isF = true ∧ s.on Fd.EFT_STAT_TRIPTEST = true) := by
  refine ⟨?_, ?_, ?_, ?_, ?_, ?_, ?_, ?_, ?_, ?_⟩
  · refine ⟨({ ((up State.reset).setPar Par.IMD_EN 1).put Fd.SES_STAT_STATE 0 with variant := .f, saf := { State.reset.saf with imd := { State.reset.saf.imd with positive := true } } }),
      ?_, ?_, ?_, ?_, ?_⟩
    all_goals first | decide +kernel | rfl
  · refine ⟨({ ((up State.reset).setPar Par.IMD_EN 1).put Fd.SES_STAT_STATE 0 with variant := .f, saf := { State.reset.saf with imd := { State.reset.saf.imd with positive := false, dirty := true } } }),
      ?_, ?_, ?_, ?_, ?_, ?_⟩
    all_goals first | decide +kernel | rfl
  · refine ⟨({ ((((up State.reset).put Fd.EFT_STAT_TRIPTEST 1).put (Fd.EFT_TRIPCFG_EN 0) 1).put Fd.AFE_LANE_FAULT 0) with variant := .f }), 3, ?_, ?_, ?_, ?_, ?_⟩
    all_goals first | decide +kernel | rfl
  · refine ⟨({ (((((up State.reset).put Fd.EFT_STAT_TRIPTEST 0).put (Fd.EFT_TRIPCFG_EN 0) 1).put Fd.AFE_LANE_FAULT 0).setRegN Reg.SAF_CAUSE 0).setRegN Reg.SAF_LATCH 0 |>.setRegN Reg.SAF_STAT 0 with variant := .f }),
      1, ?_, ?_, ?_, ?_, ?_, ?_, ?_⟩
    all_goals first | decide +kernel | rfl
  · refine ⟨({ (up State.reset).setRegN Reg.SAF_OUT 0 with variant := .f }), ?_, ?_, ?_⟩
    all_goals first | decide +kernel | rfl
  · refine ⟨({ up State.reset with variant := .m }), ?_, ?_⟩
    all_goals first | decide +kernel | rfl
  · refine ⟨({ (up State.reset).setRegN Reg.SAF_OUT 15 with variant := .f }), .spi, ?_, ?_, ?_, ?_⟩
    all_goals first | decide +kernel | rfl
  · refine ⟨({ ((up State.reset).setRegN Reg.SAF_OUT 0).put Fd.EFT_STAT_TRIPTEST 0 with saf := { State.reset.saf with trip := { State.reset.saf.trip with wanted := true, asked := true } } }),
      ?_, ?_, ?_, ?_, ?_⟩
    all_goals first | decide +kernel | rfl
  · refine ⟨((up State.reset).put Fd.EFT_STAT_TRIPTEST 1), ?_, ?_⟩
    all_goals first | decide +kernel | rfl
  · refine ⟨({ (up State.reset).put Fd.EFT_STAT_TRIPTEST 1 with variant := .f }), ?_, ?_, ?_⟩
    all_goals first | decide +kernel | rfl

end Sys2Proof.Tests.Earth

namespace Sys2Proof.Tests.Vehicle

def frm : Frame := Frame.plain [1]

theorem witness_PilotAndProximity_1 :
    (∃ (s : State) (v : Nat) (vs : List Nat), s.held .vehicleLink = false ∧ s.x19 = v :: vs ∧ v < 4 ∧ v = 2 ∧ v ≠ 0) ∧
    (∃ (s : State) (v : Nat) (vs : List Nat), s.held .vehicleLink = false ∧ s.x19 = v :: vs ∧ v < 4 ∧ v = 1) ∧
    (∃ (s : State) (duty : Nat), s.get Fd.CPL_STAT_SBDEM = 0 ∧ 300 ≤ duty ∧ duty ≤ 9700) ∧
    (∃ (s : State), s.get Fd.CPL_STAT_SBDEM ≠ 0) ∧
    (∃ (s : State), s.held .vehicleLink = false ∧ s.get Fd.CPL_STAT_SBDEM = 0 ∧ s.vl.mode = 0) ∧
    (∃ (s : State) (low : Int), s.held .vehicleLink = false ∧ s.get Fd.CPL_STAT_STATE = 1 ∧ s.vl.level = 1 ∧ s.get Fd.CPL_STAT_DRIVE = 1 ∧ low < -10500 ∧ -32768 ≤
      low ∧ s.vl.toggleOpen = false) ∧
    (∃ (s : State) (low : Int), s.held .vehicleLink = false ∧ s.get Fd.CPL_STAT_STATE = 1 ∧ s.vl.level = 1 ∧ s.get Fd.CPL_STAT_DRIVE = 1 ∧ -10500 < low ∧ low ≤
      32767 ∧ slacSt s = 7) ∧
    (∃ (s : State), s.held .vehicleLink = false ∧ s.parN Par.PP_MODE = 1 ∧ s.vl.ppBand = 2 ∧ s.vl.ppRun = 2 ∧ s.get Fd.CPL_STAT_PPCODE ≠ 2) ∧
    (∃ (s : State), s.held .vehicleLink = false ∧ s.parN Par.PP_MODE = 0) ∧
    (∃ (s : State), s.held .vehicleLink = false ∧ s.pfw = true) ∧
    (∃ (s : State), s.held .vehicleLink = false ∧ s.pfw = false ∧ tokHolds s 4 0 = false ∧ tokWaits s 4 0 = false ∧ s.vl.burstWait = true) ∧
    (∃ (s : State), s.held .vehicleLink = false ∧ s.vl.key = none) := by
  refine ⟨?_, ?_, ?_, ?_, ?_, ?_, ?_, ?_, ?_, ?_, ?_, ?_⟩
  · refine ⟨({ up State.reset with x19 := [2, 1] }), 2, [1], ?_, ?_, ?_, ?_, ?_⟩
    all_goals first | decide +kernel | rfl
  · refine ⟨({ up State.reset with x19 := [1] }), 1, [], ?_, ?_, ?_, ?_⟩
    all_goals first | decide +kernel | rfl
  · refine ⟨((up State.reset).put Fd.CPL_STAT_SBDEM 0), 9700, ?_, ?_, ?_⟩
    all_goals first | decide +kernel | rfl
  · refine ⟨((up State.reset).put Fd.CPL_STAT_SBDEM 1), ?_⟩
    all_goals first | decide +kernel | rfl
  · refine ⟨((up State.reset).put Fd.CPL_STAT_SBDEM 0), ?_, ?_, ?_⟩
    all_goals first | decide +kernel | rfl
  · refine ⟨({ (((up State.reset).put Fd.CPL_STAT_STATE 1).put Fd.CPL_STAT_DRIVE 1) with vl := { State.reset.vl with level := 1, toggleOpen := false } }), (-11000),
      ?_, ?_, ?_, ?_, ?_, ?_, ?_⟩
    all_goals first | decide +kernel | rfl
  · refine ⟨({ ((((up State.reset).put Fd.CPL_STAT_STATE 1).put Fd.CPL_STAT_DRIVE 1).put Fd.VPL_STAT_SLACST 7) with vl := { State.reset.vl with level := 1, toggleOpen := false } }),
      (-10499), ?_, ?_, ?_, ?_, ?_, ?_, ?_⟩
    all_goals first | decide +kernel | rfl
  · refine ⟨({ ((up State.reset).setPar Par.PP_MODE 1).put Fd.CPL_STAT_PPCODE 0 with vl := { State.reset.vl with ppBand := 2, ppRun := 2 } }), ?_, ?_, ?_, ?_, ?_⟩
    all_goals first | decide +kernel | rfl
  · refine ⟨((up State.reset).setPar Par.PP_MODE 0), ?_, ?_⟩
    all_goals first | decide +kernel | rfl
  · refine ⟨((up State.reset).put Fd.PWR_STAT_PFW 1), ?_, ?_⟩
    all_goals first | decide +kernel | rfl
  · refine ⟨({ up State.reset with vl := { State.reset.vl with burstWait := true } }), ?_, ?_, ?_, ?_, ?_⟩
    all_goals first | decide +kernel | rfl
  · refine ⟨(up State.reset), ?_, ?_⟩
    all_goals first | decide +kernel | rfl

theorem witness_PilotAndProximity_12 :
    (∃ (s : State) (prio : Nat), s.held .vehicleLink = false ∧ s.vl.key.isSome = true ∧ 4 ≤ prio ∧ (queue s 22).length = 8) := by
  refine ⟨({ up State.reset with vl := { State.reset.vl with key := some [] }, q := setNth State.reset.q 22 (List.replicate 8 frm) }), 7, ?_, ?_, ?_, ?_⟩
  all_goals first | decide +kernel | rfl

theorem witness_SlacEngine_1 :
    (∃ (s : State), s.held .vehicleLink = false ∧ s.get Fd.CPL_STAT_STATE = 1 ∧ slacSt s = 1) ∧
    (∃ (s : State) (sec : Nat), s.held .vehicleLink = false ∧ sec ≠ 0) ∧
    (∃ (s : State) (groups : List Nat), s.held .vehicleLink = false ∧ slacSt s = 2 ∧ groups.length = 58 ∧ s.vl.sounds < 9) ∧
    (∃ (s : State), s.held .vehicleLink = false ∧ slacSt s = 2 ∧ s.vl.sounds < s.parN Par.SLAC_MIN_SOUNDS) ∧
    (∃ (s : State), s.held .vehicleLink = false ∧ slacSt s = 1) ∧
    (∃ (s : State), s.held .vehicleLink = false ∧ slacSt s = 4) ∧
    (∃ (s : State), s.held .vehicleLink = false ∧ slacSt s = 4 ∧ s.vl.repeats < 3) ∧
    (∃ (s : State), s.held .vehicleLink = false ∧ slacSt s = 4 ∧ 3 ≤ s.vl.repeats) ∧
    (∃ (s : State), s.held .vehicleLink = false ∧ slacSt s = 5) ∧
    (∃ (s : State), s.held .vehicleLink = false ∧ slacSt s = 5 ∧ s.vl.toggleOpen = true) ∧
    (∃ (s : State) (count : Nat), s.held .vehicleLink = false ∧ slacSt s = 5 ∧ s.vl.toggleOpen = true ∧ count ≠ s.vl.toggles ∧ s.vl.reports = []) ∧
    (∃ (s : State), s.held .vehicleLink = false ∧ slacSt s = 6 ∧ s.get Fd.VPL_STAT_LINK = 0) := by
  refine ⟨?_, ?_, ?_, ?_, ?_, ?_, ?_, ?_, ?_, ?_, ?_, ?_⟩
  · refine ⟨(((up State.reset).put Fd.CPL_STAT_STATE 1).put Fd.VPL_STAT_SLACST 1), ?_, ?_, ?_⟩
    all_goals first | decide +kernel | rfl
  · refine ⟨(up State.reset), 1, ?_, ?_⟩
    all_goals first | decide +kernel | rfl
  · refine ⟨({ (up State.reset).put Fd.VPL_STAT_SLACST 2 with vl := { State.reset.vl with sounds := 8 } }), (List.replicate 58 3), ?_, ?_, ?_, ?_⟩
    all_goals first | decide +kernel | rfl
  · refine ⟨({ (up State.reset).put Fd.VPL_STAT_SLACST 2 with vl := { State.reset.vl with sounds := 1 } }), ?_, ?_, ?_⟩
    all_goals first | decide +kernel | rfl
  · refine ⟨((up State.reset).put Fd.VPL_STAT_SLACST 1), ?_, ?_⟩
    all_goals first | decide +kernel | rfl
  · refine ⟨((up State.reset).put Fd.VPL_STAT_SLACST 4), ?_, ?_⟩
    all_goals first | decide +kernel | rfl
  · refine ⟨({ (up State.reset).put Fd.VPL_STAT_SLACST 4 with vl := { State.reset.vl with repeats := 2 } }), ?_, ?_, ?_⟩
    all_goals first | decide +kernel | rfl
  · refine ⟨({ (up State.reset).put Fd.VPL_STAT_SLACST 4 with vl := { State.reset.vl with repeats := 3 } }), ?_, ?_, ?_⟩
    all_goals first | decide +kernel | rfl
  · refine ⟨((up State.reset).put Fd.VPL_STAT_SLACST 5), ?_, ?_⟩
    all_goals first | decide +kernel | rfl
  · refine ⟨({ (up State.reset).put Fd.VPL_STAT_SLACST 5 with vl := { State.reset.vl with toggleOpen := true, toggles := 2 } }), ?_, ?_, ?_⟩
    all_goals first | decide +kernel | rfl
  · refine ⟨({ (up State.reset).put Fd.VPL_STAT_SLACST 5 with vl := { State.reset.vl with toggleOpen := true, toggles := 2, reports := [] } }), 3, ?_, ?_, ?_, ?_,
      ?_⟩
    all_goals first | decide +kernel | rfl
  · refine ⟨(((up State.reset).put Fd.VPL_STAT_SLACST 6).put Fd.VPL_STAT_LINK 0), ?_, ?_, ?_⟩
    all_goals first | decide +kernel | rfl

theorem witness_SlacEngine_13 :
    (∃ (s : State), s.held .vehicleLink = false ∧ slacSt s = 6) := by
  refine ⟨((up State.reset).put Fd.VPL_STAT_SLACST 6), ?_, ?_⟩
  all_goals first | decide +kernel | rfl

theorem witness_SlacCoordination :
    (∃ (s : State), s.held .vehicleLink = false ∧ slacSt s ≠ 3) ∧
    (∃ (s : State), s.held .vehicleLink = false ∧ slacSt s = 3 ∧ s.vl.heard = false) ∧
    (∃ (s : State), s.held .vehicleLink = false ∧ slacSt s ≠ 3) ∧
    (∃ (s : State), s.held .vehicleLink = false ∧ slacSt s ≠ 3 ∧ slacSt s ≠ 8) ∧
    (∃ (s : State), s.held .vehicleLink = false ∧ s.parN Par.VL_MODE = 0) ∧
    (∃ (s : State) (prio : Nat), s.held .vehicleLink = false ∧ s.parN Par.VL_MODE = 1 ∧ s.get Fd.CPL_STAT_STATE = 2 ∧ s.get Fd.VPL_STAT_LINK = 0 ∧ (queue s
      19).length < 8 ∧ prio < 4) ∧
    (∃ (s : State), s.held .vehicleLink = false ∧ s.on Fd.VPL_STAT_T1SUP = true ∧ s.get Fd.VPL_STAT_LINK = 2) ∧
    (∃ (s : State), s.held .signalBox = false) := by
  refine ⟨?_, ?_, ?_, ?_, ?_, ?_, ?_, ?_⟩
  · refine ⟨((up State.reset).put Fd.VPL_STAT_SLACST 4), ?_, ?_⟩
    all_goals first | decide +kernel | rfl
  · refine ⟨((up State.reset).put Fd.VPL_STAT_SLACST 3), ?_, ?_, ?_⟩
    all_goals first | decide +kernel | rfl
  · refine ⟨((up State.reset).put Fd.VPL_STAT_SLACST 4), ?_, ?_⟩
    all_goals first | decide +kernel | rfl
  · refine ⟨((up State.reset).put Fd.VPL_STAT_SLACST 4), ?_, ?_, ?_⟩
    all_goals first | decide +kernel | rfl
  · refine ⟨((up State.reset).setPar Par.VL_MODE 0), ?_, ?_⟩
    all_goals first | decide +kernel | rfl
  · refine ⟨((((up State.reset).setPar Par.VL_MODE 1).put Fd.CPL_STAT_STATE 2).put Fd.VPL_STAT_LINK 0), 1, ?_, ?_, ?_, ?_, ?_, ?_⟩
    all_goals first | decide +kernel | rfl
  · refine ⟨(((up State.reset).put Fd.VPL_STAT_T1SUP 1).put Fd.VPL_STAT_LINK 2), ?_, ?_, ?_⟩
    all_goals first | decide +kernel | rfl
  · refine ⟨(up State.reset), ?_⟩
    all_goals first | decide +kernel | rfl

end Sys2Proof.Tests.Vehicle

namespace Sys2Proof.Tests.Sessions

def cont (x : State) : State := ((x.setPar (Par.SO_FUNC 0) 1).put Fd.SAF_OUT_SO 1)
def st (n : Nat) (x : State) : State := x.put Fd.SES_STAT_STATE n
def ses (f : SesState → SesState) (x : State) : State := { x with ses := f x.ses }
def ac (x : State) : State := { x with ses := { x.ses with dc := false } }
def node (f : ConvNode → ConvNode) (x : State) : State := { x with ses := { x.ses with conv := (List.range 32).map (fun i => if i = 0 then f (nth x.ses.conv 0 .zero) else .zero) } }

theorem witness_SessionEvents_1 :
    (∃ (s : State) (k : Nat) (rs : List VlReport), s.x05 = .link k :: rs ∧ sesSt s = 1) ∧
    (∃ (s : State) (rs : List VlReport), s.x05 = .pilot 0 :: rs ∧ sesSt s = 10) ∧
    (∃ (s : State) (rs : List VlReport), s.x05 = .pilot 0 :: rs ∧ 1 ≤ sesSt s ∧ sesSt s ≤ 8 ∧ contactorOn s = true ∧ s.ses.dc = false ∧ s.tok.deferred = []) ∧
    (∃ (s : State) (rs : List VlReport), s.x05 = .prox 6 :: rs ∧ 1 ≤ sesSt s ∧ sesSt s ≤ 8 ∧ contactorOn s = true ∧ s.ses.dc = false ∧ s.tok.deferred = []) ∧
    (∃ (s : State) (rs : List VlReport), s.x05 = .linkFail :: rs ∧ 3 ≤ sesSt s ∧ sesSt s ≤ 8 ∧ sesBasic s = false ∧ contactorOn s = true ∧ s.ses.dc = false ∧
      s.tok.deferred = []) ∧
    (∃ (s : State) (rs : List VlReport), s.x05 = .pilot 1 :: rs ∧ sesSt s = 0 ∧ s.ses.lastPilot = 0 ∧ s.parN Par.PROTO_EN ≠ 0) ∧
    (∃ (s : State), s.held .vehicleLink = false ∧ s.get Fd.VPL_STAT_LINK ≠ 0) ∧
    (∃ (s : State) (offers : List Nat) (p : Nat), sesSt s = 2 ∧ s.get Fd.VPL_STAT_LINK ≠ 0 ∧ s.ses.setup = false ∧ appChoose offers s = some p) ∧
    (∃ (s : State), 2 ≤ sesSt s ∧ sesSt s ≤ 9 ∧ s.get Fd.VPL_STAT_LINK ≠ 0 ∧ s.get Fd.SES_STAT_PROTO ≠ 0) ∧
    (∃ (s : State) (ask : Int), sesSt s = 7 ∧ s.get Fd.VPL_STAT_LINK ≠ 0 ∧ s.get Fd.SES_STAT_PROTO ≠ 0 ∧ s.ses.bidir = false ∧ ask < 0) ∧
    (∃ (s : State), sesSt s = 7 ∧ s.get Fd.VPL_STAT_LINK ≠ 0 ∧ s.get Fd.SES_STAT_PROTO ≠ 0 ∧ s.ses.dc = false ∧ s.tok.deferred = []) ∧
    (∃ (s : State), s.get Fd.VPL_STAT_LINK ≠ 0 ∧ 2 ≤ sesSt s ∧ sesSt s ≤ 8 ∧ contactorOn s = true ∧ s.ses.dc = false ∧ s.tok.deferred = []) := by
  refine ⟨?_, ?_, ?_, ?_, ?_, ?_, ?_, ?_, ?_, ?_, ?_, ?_⟩
  · refine ⟨({ st 1 (up State.reset) with x05 := [.link 1] }), 1, [], ?_, ?_⟩
    all_goals first | decide +kernel | rfl
  · refine ⟨({ st 10 (up State.reset) with x05 := [.pilot 0] }), [], ?_, ?_⟩
    all_goals first | decide +kernel | rfl
  · refine ⟨({ ac (cont (st 8 (up State.reset))) with x05 := [.pilot 0, .link 1] }), [.link 1], ?_, ?_, ?_, ?_, ?_, ?_⟩
    all_goals first | decide +kernel | rfl
  · refine ⟨({ ac (cont (st 1 (up State.reset))) with x05 := [.prox 6, .link 1] }), [.link 1], ?_, ?_, ?_, ?_, ?_, ?_⟩
    all_goals first | decide +kernel | rfl
  · refine ⟨({ (ac (cont (st 3 (up State.reset)))).put Fd.SES_STAT_PROTO 2 with x05 := [.linkFail] }), [], ?_, ?_, ?_, ?_, ?_, ?_, ?_⟩
    all_goals first | decide +kernel | rfl
  · refine ⟨({ ses (fun x => { x with lastPilot := 0 }) (st 0 ((up State.reset).setPar Par.PROTO_EN 7)) with x05 := [.pilot 1] }), [], ?_, ?_, ?_, ?_⟩
    all_goals first | decide +kernel | rfl
  · refine ⟨((up State.reset).put Fd.VPL_STAT_LINK 1), ?_, ?_⟩
    all_goals first | decide +kernel | rfl
  · refine ⟨(ses (fun x => { x with setup := false }) ((st 2 ((up State.reset).put Fd.VPL_STAT_LINK 1)).setPar Par.PROTO_EN 2)), [1, 2], 2, ?_, ?_, ?_, ?_⟩
    all_goals first | decide +kernel | rfl
  · refine ⟨((st 9 ((up State.reset).put Fd.VPL_STAT_LINK 1)).put Fd.SES_STAT_PROTO 2), ?_, ?_, ?_, ?_⟩
    all_goals first | decide +kernel | rfl
  · refine ⟨(ses (fun x => { x with bidir := false }) ((st 7 ((up State.reset).put Fd.VPL_STAT_LINK 1)).put Fd.SES_STAT_PROTO 2)), (-7), ?_, ?_, ?_, ?_, ?_⟩
    all_goals first | decide +kernel | rfl
  · refine ⟨(ac ((st 7 ((up State.reset).put Fd.VPL_STAT_LINK 1)).put Fd.SES_STAT_PROTO 2)), ?_, ?_, ?_, ?_, ?_⟩
    all_goals first | decide +kernel | rfl
  · refine ⟨(ac (cont (st 2 ((up State.reset).put Fd.VPL_STAT_LINK 1)))), ?_, ?_, ?_, ?_, ?_, ?_⟩
    all_goals first | decide +kernel | rfl

theorem witness_SessionEvents_14 :
    (∃ (s : State), sesSt s = 9 ∧ s.ses.openSent = false ∧ contactorOn s = true) ∧
    (∃ (s : State) (p : Path), HostMay p 1 s ∧ 1 ≤ sesSt s ∧ sesSt s ≤ 8 ∧ contactorOn s = true ∧ s.ses.dc = false ∧ s.tok.deferred = []) := by
  refine ⟨?_, ?_⟩
  · refine ⟨(ses (fun x => { x with openSent := false }) (cont (st 9 (up State.reset)))), ?_, ?_, ?_⟩
    all_goals first | decide +kernel | rfl
  · refine ⟨(ac (cont (st 8 (up State.reset)))), .spi, ?_, ?_, ?_, ?_, ?_, ?_⟩
    all_goals first | decide +kernel | rfl

theorem witness_Authorisation :
    (∃ (s : State) (p : Path), HostMay p 1 s ∧ s.on Fd.SES_AUTHREQ_PEND = false) ∧
    (∃ (s : State) (p : Path) (tag : Nat), HostMay p 1 s ∧ s.get Fd.SES_AUTHREQ_TAG ≠ tag) ∧
    (∃ (s : State) (p : Path) (tag : Nat), HostMay p 1 s ∧ s.on Fd.SES_AUTHREQ_PEND = true ∧ s.get Fd.SES_AUTHREQ_TAG = tag ∧ s.get Fd.SES_AUTHREQ_SRC = 3 ∧ sesSt s
      = 3 ∧ (s.parN Par.AUTH_EN).testBit 3 = true ∧ s.get Fd.BIL_DISC_STATE = 1 ∧ s.on Fd.BIL_STAT_WBFULL = false ∧ s.on Fd.SYS_FLT_BILLOST = false ∧ s.ses.wait
      = none ∧ dcPost s = true) ∧
    (∃ (s : State) (p : Path) (tag : Nat), HostMay p 1 s ∧ s.on Fd.SES_AUTHREQ_PEND = true ∧ s.get Fd.SES_AUTHREQ_TAG = tag ∧ 1 ≤ sesSt s ∧ sesSt s ≤ 8 ∧
      contactorOn s = true ∧ s.ses.dc = false ∧ s.tok.deferred = []) ∧
    (∃ (s : State) (p : Path), HostMay p 1 s ∧ sesSt s < 4) ∧
    (∃ (s : State) (p : Path), HostMay p 1 s ∧ 4 ≤ sesSt s ∧ sesSt s ≤ 8 ∧ contactorOn s = true ∧ s.ses.dc = false ∧ s.tok.deferred = []) ∧
    (∃ (s : State), sesSt s = 3 ∧ s.ses.wait = none ∧ contactorOn s = true ∧ s.ses.dc = false ∧ s.tok.deferred = []) ∧
    (∃ (s : State) (emaid : List Byte), s.ses.pnc = some emaid) ∧
    (∃ (s : State) (emaid : List Byte), s.ses.pnc = some emaid ∧ sesSt s = 3 ∧ (s.parN Par.AUTH_EN).testBit 5 = true ∧ s.get Fd.BIL_DISC_STATE = 1 ∧ s.on
      Fd.BIL_STAT_WBFULL = false ∧ s.on Fd.SYS_FLT_BILLOST = false ∧ s.ses.wait = none ∧ dcPost s = true ∧ s.on Fd.SES_AUTHREQ_PEND = false) ∧
    (∃ (s : State) (p : Path) (id : List Byte) (at_ : Nat), HostMay p 1 s ∧ s.ses.remote = some (id, at_) ∧ s.regN Reg.SYS_UPTIME ≤ at_ + 10 ∧ sesSt s = 3 ∧ (s.parN
      Par.AUTH_EN).testBit 4 = true ∧ s.ses.wait = none ∧ (queue s 28).length < 8) ∧
    (∃ (s : State) (p : Path) (id : List Byte) (at_ : Nat), HostMay p 1 s ∧ s.ses.remote = some (id, at_) ∧ at_ + 10 < s.regN Reg.SYS_UPTIME) := by
  refine ⟨?_, ?_, ?_, ?_, ?_, ?_, ?_, ?_, ?_, ?_, ?_⟩
  · refine ⟨((up State.reset).put Fd.SES_AUTHREQ_PEND 0), .spi, ?_, ?_⟩
    all_goals first | decide +kernel | rfl
  · refine ⟨((up State.reset).put Fd.SES_AUTHREQ_TAG 0), .spi, 255, ?_, ?_⟩
    all_goals first | decide +kernel | rfl
  · refine ⟨(ses (fun x => { x with wait := none, reqId := [1, 2] }) ((((((((((st 3 (up State.reset)).put Fd.SES_AUTHREQ_PEND 1).put Fd.SES_AUTHREQ_TAG 7).put
      Fd.SES_AUTHREQ_SRC 3).setPar Par.AUTH_EN 8).put Fd.BIL_DISC_STATE 1).put Fd.BIL_STAT_WBFULL 0).put Fd.SYS_FLT_BILLOST 0).setPar (Par.VUSED 9) 1).setPar
      (Par.MOD_ROLE 0) 9)), .spi, 7, ?_, ?_, ?_, ?_, ?_, ?_, ?_, ?_, ?_, ?_, ?_⟩
    all_goals first | decide +kernel | rfl
  · refine ⟨(ac (cont (((st 3 (up State.reset)).put Fd.SES_AUTHREQ_PEND 1).put Fd.SES_AUTHREQ_TAG 7))), .spi, 7, ?_, ?_, ?_, ?_, ?_, ?_, ?_, ?_⟩
    all_goals first | decide +kernel | rfl
  · refine ⟨(st 3 (up State.reset)), .spi, ?_, ?_⟩
    all_goals first | decide +kernel | rfl
  · refine ⟨(ac (cont (st 4 (up State.reset)))), .spi, ?_, ?_, ?_, ?_, ?_, ?_⟩
    all_goals first | decide +kernel | rfl
  · refine ⟨(ses (fun x => { x with wait := none, dc := false }) (cont (st 3 (up State.reset)))), ?_, ?_, ?_, ?_, ?_⟩
    all_goals first | decide +kernel | rfl
  · refine ⟨(ses (fun x => { x with pnc := some [1] }) (up State.reset)), [1], ?_⟩
    all_goals first | decide +kernel | rfl
  · refine ⟨(ses (fun x => { x with wait := none, pnc := some [1] }) (((((((((st 3 (up State.reset)).put Fd.SES_AUTHREQ_PEND 0)).setPar Par.AUTH_EN 32).put
      Fd.BIL_DISC_STATE 1).put Fd.BIL_STAT_WBFULL 0).put Fd.SYS_FLT_BILLOST 0).setPar (Par.VUSED 9) 1).setPar (Par.MOD_ROLE 0) 9)), [1], ?_, ?_, ?_, ?_, ?_, ?_,
      ?_, ?_, ?_⟩
    all_goals first | decide +kernel | rfl
  · refine ⟨(ses (fun x => { x with wait := none, remote := some ([1], 5) }) (((st 3 (up State.reset)).setPar Par.AUTH_EN 16).setRegN Reg.SYS_UPTIME 15)), .spi,
      [1], 5, ?_, ?_, ?_, ?_, ?_, ?_, ?_⟩
    all_goals first | decide +kernel | rfl
  · refine ⟨(ses (fun x => { x with remote := some ([1], 5) }) ((up State.reset).setRegN Reg.SYS_UPTIME 16)), .spi, [1], 5, ?_, ?_, ?_⟩
    all_goals first | decide +kernel | rfl

theorem witness_SitePower :
    (∃ (s : State), sesSt s < 4 ∧ s.ses.wantClose = false ∧ s.ses.wait = none ∧ s.on Fd.SES_STAT_SITEGR = true) ∧
    (∃ (s : State), 4 ≤ sesSt s ∧ sesSt s ≤ 8 ∧ s.ses.wantClose = false ∧ s.ses.wait = none ∧ s.on Fd.SES_STAT_SITEGR = false ∧ sesBasic s = false) ∧
    (∃ (s : State), sesSt s = 8 ∧ s.ses.dc = true ∧ s.ses.steps < 190 ∧ 0 < s.ses.ilim ∧ 0 < s.ses.iset - (s.parN Par.RAMP_DOWN : Rat) / 100) ∧
    (∃ (s : State), sesSt s = 5 ∧ contactorOn s = true ∧ sesLow s = false ∧ s.tok.deferred = []) ∧
    (∃ (s : State), sesSt s = 6 ∧ s.ses.preOk = false ∧ contactorOn s = true ∧ sesLow s = false ∧ s.tok.deferred = []) ∧
    (∃ (s : State), sesSt s = 6 ∧ s.ses.preOk = true) ∧
    (∃ (s u : State) (m : SiteMsg), siteMessage 0x11 s = (some m, u) ∧ msgNum m.msg 0 2 = ownGrp u ∧ u.parB Par.SITE_EN = true ∧ sesSt u = 7) ∧
    (∃ (s : State), s.parB Par.SITE_EN = true ∧ sesSt s = 7 ∧ sharing s = false ∧ s.get Fd.AMB_STAT_ROLE = 1) ∧
    (∃ (s : State), s.on Fd.SES_STAT_SITEGR = true) ∧
    (∃ (s : State), sesSt s = 8 ∧ s.parB Par.SITE_EN = true ∧ sharing s = false ∧ s.get Fd.AMB_STAT_ROLE = 1) := by
  refine ⟨?_, ?_, ?_, ?_, ?_, ?_, ?_, ?_, ?_, ?_⟩
  · refine ⟨(ses (fun x => { x with wait := none, wantClose := false }) ((st 3 (up State.reset)).put Fd.SES_STAT_SITEGR 1)), ?_, ?_, ?_, ?_⟩
    all_goals first | decide +kernel | rfl
  · refine ⟨(ses (fun x => { x with wait := none, wantClose := false }) (((st 8 (up State.reset)).put Fd.SES_STAT_SITEGR 0).put Fd.SES_STAT_PROTO 2)), ?_, ?_, ?_,
      ?_, ?_, ?_⟩
    all_goals first | decide +kernel | rfl
  · refine ⟨(ses (fun x => { x with dc := true, steps := 3, ilim := 200, iset := 150 }) (st 8 (up State.reset))), ?_, ?_, ?_, ?_, ?_⟩
    all_goals first | decide +kernel | rfl
  · refine ⟨(ac (cont ((st 5 (up State.reset)).setRegN (Reg.MTR_IDC 0) 0x7FFFFFFF))), ?_, ?_, ?_, ?_⟩
    all_goals first | decide +kernel | rfl
  · refine ⟨(ses (fun x => { x with preOk := false }) (cont ((st 6 (up State.reset)).setRegN (Reg.MTR_IDC 0) 0x7FFFFFFF))), ?_, ?_, ?_, ?_, ?_⟩
    all_goals first | decide +kernel | rfl
  · refine ⟨(ses (fun x => { x with preOk := true }) (st 6 (up State.reset))), ?_, ?_⟩
    all_goals first | decide +kernel | rfl
  · refine ⟨({ (st 7 (up State.reset)).setPar Par.SITE_EN 1 with x11 := [⟨.own, ⟨0x11, Bits.leBytes 2 (ownGrp (up State.reset)) ++ [3, 0, 9, 0, 0, 0, 0, 0, 0, 0]⟩⟩] }),
      ({ ({ (st 7 (up State.reset)).setPar Par.SITE_EN 1 with x11 := [⟨.own, ⟨0x11, Bits.leBytes 2 (ownGrp (up State.reset)) ++ [3, 0, 9, 0, 0, 0, 0, 0, 0, 0]⟩⟩] }) with x11 := [] }),
      (⟨.own, ⟨0x11, Bits.leBytes 2 (ownGrp (up State.reset)) ++ [3, 0, 9, 0, 0, 0, 0, 0, 0, 0]⟩⟩), ?_, ?_, ?_, ?_⟩
    all_goals first | decide +kernel | rfl
  · refine ⟨(((st 7 (up State.reset)).setPar Par.SITE_EN 1).put Fd.AMB_STAT_ROLE 1), ?_, ?_, ?_, ?_⟩
    all_goals first | decide +kernel | rfl
  · refine ⟨((up State.reset).put Fd.SES_STAT_SITEGR 1), ?_⟩
    all_goals first | decide +kernel | rfl
  · refine ⟨(((st 8 (up State.reset)).setPar Par.SITE_EN 1).put Fd.AMB_STAT_ROLE 1), ?_, ?_, ?_, ?_⟩
    all_goals first | decide +kernel | rfl

theorem witness_ConverterLink :
    (∃ (s : State), s.held .siteLink = false ∧ s.parN Par.CONV_USE = 0) ∧
    (∃ (s : State), s.held .siteLink = false ∧ s.parN Par.CONV_USE = 1 ∧ s.parN Par.CONV_PORT = 1 ∧ sesSt s = 0 ∧ s.ses.conv.length = 32) ∧
    (∃ (s : State), s.held .siteLink = false ∧ sesSt s = 4) ∧
    (∃ (s : State) (port n a : Nat) (f : List Byte), s.held .siteLink = false ∧ convHeard s port n = true ∧ f.length = 16 ∧ s.ses.conv.length = 32 ∧ (convNode s
      n).rxAlive = some a ∧ canNum f 1 1 = (a + 1) % 256 ∧ (canNum f 6 2).testBit 1 = false ∧ (convNode s n).cap.isSome = true ∧ (convNode s n).lost = false) ∧
    (∃ (s : State) (port n : Nat), s.held .siteLink = false ∧ convHeard s port n = false) ∧
    (∃ (s : State) (port n : Nat) (f : List Byte), s.held .siteLink = false ∧ convHeard s port n = true ∧ f.length = 16 ∧ s.ses.conv.length = 32) ∧
    (∃ (s : State) (n : Nat), n < 32 ∧ (convNode s n).healthy = true ∧ s.ses.conv.length = 32 ∧ sesSt s < 5) := by
  refine ⟨?_, ?_, ?_, ?_, ?_, ?_, ?_⟩
  · refine ⟨((up State.reset).setPar Par.CONV_USE 0), ?_, ?_⟩
    all_goals first | decide +kernel | rfl
  · refine ⟨(node (fun c => { c with txAlive := 255 }) (st 0 (((up State.reset).setPar Par.CONV_USE 1).setPar Par.CONV_PORT 1))), ?_, ?_, ?_, ?_, ?_⟩
    all_goals first | decide +kernel | rfl
  · refine ⟨(st 4 (up State.reset)), ?_, ?_⟩
    all_goals first | decide +kernel | rfl
  · refine ⟨(node (fun c => { c with rxAlive := some 255, cap := some ⟨true, 1, 2, 3, 4, 5, 6⟩, lost := false }) (((up State.reset).setPar Par.CONV_USE 1).setPar
      Par.CONV_PORT 1)), 1, 0, 255, [4, 0, 1, 2, 3, 4, 1, 0, 7, 8, 9, 10, 11, 12, 13, 14], ?_, ?_, ?_, ?_, ?_, ?_, ?_, ?_, ?_⟩
    all_goals first | decide +kernel | rfl
  · refine ⟨((up State.reset).setPar Par.CONV_USE 1), 1, 32, ?_, ?_⟩
    all_goals first | decide +kernel | rfl
  · refine ⟨(node id (((up State.reset).setPar Par.CONV_USE 1).setPar Par.CONV_PORT 0)), 0, 0, [4, 0, 1, 2, 3, 4, 1, 0, 7, 8, 9, 10, 11, 12, 13, 14], ?_, ?_, ?_,
      ?_⟩
    all_goals first | decide +kernel | rfl
  · refine ⟨(node (fun c => { c with healthy := true }) (st 4 (up State.reset))), 0, ?_, ?_, ?_, ?_⟩
    all_goals first | decide +kernel | rfl

end Sys2Proof.Tests.Sessions

namespace Sys2Proof.Tests.Keys

def kr (op slot type parent root use : Nat) (x : State) : State := ({ ((x.setRegN Reg.KEY_CMD (op * 2 ^ 28 + type * 2 ^ 24 + slot * 2 ^ 16 + parent * 2 ^ 8 + root * 2 ^ 7)).setRegN Reg.KEY_CMDUSE use) with grt := { x.grt with cmds := [], reqs := [] } }).setRegN
    Reg.KEY_STAT 9
def slot (n gen st type depth use : Nat) (x : State) : State := (((((x.put (Fd.KEY_SLOT_GEN n) gen).put (Fd.KEY_SLOT_STATE n) st).put (Fd.KEY_SLOT_TYPE n)
    type).put (Fd.KEY_SLOT_DEPTH n) depth).put (Fd.KEY_SLOT_USAGE n) use).put (Fd.KEY_SLOTX_PROOT n) 1
def cr (r : CryptoReq) (asked : Bool) (x : State) : State := { (x.put Fd.KEY_STAT_READY 1).put Fd.KEY_STAT_ROOTFAIL 0 with grt := { x.grt with cmds := [], reqs := [⟨r, false, asked⟩] } }
def port (p : Nat) (x : State) : State := (x.put ⟨Reg.ETH_STAT, p, 1⟩ 1).put ⟨Reg.ETH_CTL, p, 1⟩ 1
def topo (n : Nat) (x : State) : State := x.setPar Par.ETH_TOPO n
def dom (x : State) : State := ((x.setPar (Par.PTP_DOM 0) 0).setPar (Par.PTP_DOM 1) 7)
def eng (f : PtpPort → PtpPort) (x : State) : State := { x with eth := { x.eth with ports := [f .zero, .zero, .zero, .zero], sel := none } }
def bc : List Byte := List.replicate 12 0xFF ++ [0x08, 0x00] ++ List.replicate 50 0

theorem witness_KeyCommands :
    (∃ (s : State) (p : Path) (n type : Nat), KeyReady p 1 s ∧ s.get Fd.KEY_CMD_SLOT = n ∧ 16 ≤ n ∧ s.get Fd.KEY_CMD_TYPE = type ∧ type ≤ 5 ∧ useOk type (s.regN
      Reg.KEY_CMDUSE) = true ∧ s.on Fd.KEY_CMD_PROOT = true ∧ s.on Fd.KEY_STAT_DRBGOK = true ∧ slotSt s n = 0 ∧ s.get (Fd.KEY_SLOT_GEN n) ≠ 255) ∧
    (∃ (s : State) (p : Path), KeyReady p 1 s ∧ (16 ≤ s.get Fd.KEY_CMD_SLOT ∨ pathLevel s p = 3) ∧ (slotSt s (s.get Fd.KEY_CMD_SLOT) = 1 ∨ slotSt s (s.get
      Fd.KEY_CMD_SLOT) = 2)) ∧
    (∃ (s : State) (p : Path), KeyReady p 1 s ∧ s.get Fd.KEY_CMD_SLOT < 16 ∧ pathLevel s p < 3) ∧
    (∃ (s : State) (p : Path) (n type : Nat), KeyReady p 2 s ∧ s.get Fd.KEY_CMD_SLOT = n ∧ 16 ≤ n ∧ s.get Fd.KEY_CMD_TYPE = type ∧ useOk type (s.regN
      Reg.KEY_CMDUSE) = true ∧ s.on Fd.KEY_CMD_PROOT = true ∧ slotSt s n = 0 ∧ s.get (Fd.KEY_SLOT_GEN n) ≠ 255 ∧ s.parB Par.CLEAR_EN = true ∧ (s.regN
      Reg.KEY_CMDUSE).testBit 9 = true ∧ (s.regN Reg.KEY_CMDUSE).testBit 8 = false) ∧
    (∃ (s : State) (p : Path) (n type a : Nat) (text : Option (List Byte)), KeyReady p 3 s ∧ s.get Fd.KEY_CMD_SLOT = n ∧ 16 ≤ n ∧ s.get Fd.KEY_CMD_TYPE = type ∧
      useOk type (s.regN Reg.KEY_CMDUSE) = true ∧ s.on Fd.KEY_CMD_PROOT = false ∧ s.get Fd.KEY_CMD_PARENT = a ∧ slotSt s n = 0 ∧ s.get (Fd.KEY_SLOT_GEN n) ≠ 255
      ∧ (s.regN Reg.KEY_CMDUSE).testBit 8 = false ∧ usable s a = true ∧ slotUse s a 6 = true ∧ s.get (Fd.KEY_SLOT_DEPTH a) < 4 ∧ Config.gcmOpen (keyOf s a)
      ((keyData s).take 12) (Bits.leBytes 1 n ++ Bits.leBytes 1 type) (((keyData s).drop 12).take (keyLen type + 16)) = text) ∧
    (∃ (s : State) (p : Path) (n : Nat), KeyReady p 4 s ∧ s.get Fd.KEY_CMD_SLOT = n ∧ 16 ≤ n ∧ slotSt s n = 1 ∧ s.get (Fd.KEY_SLOT_GEN n) ≠ 255 ∧ slotUse s n 6 =
      false ∧ s.get Fd.BIL_WBUNS_WAITING = 0) ∧
    (∃ (s : State) (p : Path) (n : Nat), KeyReady p 5 s ∧ s.get Fd.KEY_CMD_SLOT = n ∧ 16 ≤ n ∧ slotSt s n = 1 ∧ s.get Fd.BIL_WBUNS_WAITING = 0) ∧
    (∃ (s : State) (p : Path) (n : Nat), KeyReady p 6 s ∧ s.get Fd.KEY_CMD_SLOT = n ∧ usable s n = true ∧ 4 ≤ slotType s n) ∧
    (∃ (s : State) (p : Path) (n : Nat), KeyReady p 6 s ∧ s.get Fd.KEY_CMD_SLOT = n ∧ slotSt s n = 0) ∧
    (∃ (s : State) (n : Nat), s.held .grotto = false ∧ n < 256 ∧ slotSt s n = 2) ∧
    (∃ (s : State) (w : Nat), s.held .grotto = false ∧ w < 32) := by
  refine ⟨?_, ?_, ?_, ?_, ?_, ?_, ?_, ?_, ?_, ?_, ?_⟩
  · refine ⟨(kr 1 17 4 0 1 1 (slot 17 254 0 0 0 0 (up State.reset))), .spi, 17, 4, ?_, ?_, ?_, ?_, ?_, ?_, ?_, ?_, ?_, ?_⟩
    all_goals first | decide +kernel | rfl
  · refine ⟨(kr 1 17 4 0 1 1 (slot 17 254 2 0 0 0 (up State.reset))), .spi, ?_, ?_, ?_⟩
    all_goals first | decide +kernel | rfl
  · refine ⟨((kr 1 15 4 0 1 1 (up State.reset)).put Fd.HIF_STAT_SPILVL 2), .spi, ?_, ?_, ?_⟩
    all_goals first | decide +kernel | rfl
  · refine ⟨((kr 2 17 1 0 1 0x210 (slot 17 254 0 0 0 0 (up State.reset))).setPar Par.CLEAR_EN 1), .spi, 17, 1, ?_, ?_, ?_, ?_, ?_, ?_, ?_, ?_, ?_, ?_, ?_⟩
    all_goals first | decide +kernel | rfl
  · refine ⟨(kr 3 17 1 20 0 0x10 (slot 20 3 1 3 3 0x40 (slot 17 254 0 0 0 0 (up State.reset)))), .spi, 17, 1, 20, (Config.gcmOpen (keyOf (kr 3 17 1 20 0 0x10 (slot
      20 3 1 3 3 0x40 (slot 17 254 0 0 0 0 (up State.reset)))) 20) ((keyData (kr 3 17 1 20 0 0x10 (slot 20 3 1 3 3 0x40 (slot 17 254 0 0 0 0 (up
      State.reset))))).take 12) (Bits.leBytes 1 17 ++ Bits.leBytes 1 1) (((keyData (kr 3 17 1 20 0 0x10 (slot 20 3 1 3 3 0x40 (slot 17 254 0 0 0 0 (up
      State.reset))))).drop 12).take (keyLen 1 + 16))), ?_, ?_, ?_, ?_, ?_, ?_, ?_, ?_, ?_, ?_, ?_, ?_, ?_, ?_⟩
    all_goals first | decide +kernel | rfl
  · refine ⟨((kr 4 17 0 0 0 0 (slot 17 254 1 4 1 1 (up State.reset))).put Fd.BIL_WBUNS_WAITING 0), .spi, 17, ?_, ?_, ?_, ?_, ?_, ?_, ?_⟩
    all_goals first | decide +kernel | rfl
  · refine ⟨((kr 5 17 0 0 0 0 (slot 17 255 1 4 1 1 (up State.reset))).put Fd.BIL_WBUNS_WAITING 0), .spi, 17, ?_, ?_, ?_, ?_, ?_⟩
    all_goals first | decide +kernel | rfl
  · refine ⟨(kr 6 17 0 0 0 0 (slot 17 255 1 5 1 1 (up State.reset))), .spi, 17, ?_, ?_, ?_, ?_⟩
    all_goals first | decide +kernel | rfl
  · refine ⟨(kr 6 17 0 0 0 0 (slot 17 255 0 5 1 1 (up State.reset))), .spi, 17, ?_, ?_, ?_⟩
    all_goals first | decide +kernel | rfl
  · refine ⟨(slot 255 9 2 5 1 1 (up State.reset)), 255, ?_, ?_, ?_⟩
    all_goals first | decide +kernel | rfl
  · refine ⟨(up State.reset), 31, ?_, ?_⟩
    all_goals first | decide +kernel | rfl

theorem witness_CryptoRequests :
    (∃ (s : State), s.held .grotto = false ∧ s.grt.cmds = []) ∧
    (∃ (s : State) (r : CryptoReq), s.held .grotto = false ∧ s.grt.cmds = [] ∧ s.grt.reqs = [⟨r, false, false⟩] ∧ r.op = .hash false) ∧
    (∃ (s : State) (r : CryptoReq), s.held .grotto = false ∧ s.grt.cmds = [] ∧ s.grt.reqs = [⟨r, false, false⟩] ∧ r.op = .hmac ∧ usable s r.slot = true ∧ slotUse s
      r.slot 3 = true) ∧
    (∃ (s : State) (r : CryptoReq) (sig : List Byte), s.held .grotto = false ∧ s.grt.cmds = [] ∧ s.grt.reqs = [⟨r, false, false⟩] ∧ r.op = .verify sig ∧ usable s
      r.slot = true ∧ slotUse s r.slot 1 = true) ∧
    (∃ (s : State) (r : CryptoReq), s.held .grotto = false ∧ s.grt.cmds = [] ∧ s.grt.reqs = [⟨r, false, false⟩] ∧ r.op = .decrypt ∧ s.on Fd.KEY_STAT_READY = true ∧
      s.on Fd.KEY_STAT_ROOTFAIL = false ∧ slotSt s r.slot = 0) ∧
    (∃ (s : State) (r : CryptoReq), s.held .grotto = false ∧ s.grt.cmds = [] ∧ s.grt.reqs = [⟨r, false, true⟩] ∧ r.op = .sign ∧ usable s r.slot = true ∧ slotType s
      r.slot = 5 ∧ s.pfw = false ∧ tokHolds s 6 r.id = false ∧ tokWaits s 6 r.id = false) ∧
    (∃ (s : State), s.held .grotto = false ∧ s.on Fd.KEY_STAT_DRBGOK = true) ∧
    (∃ (s : State), s.held .grotto = false) := by
  refine ⟨?_, ?_, ?_, ?_, ?_, ?_, ?_, ?_⟩
  · refine ⟨({ up State.reset with grt := { State.reset.grt with cmds := [] } }), ?_, ?_⟩
    all_goals first | decide +kernel | rfl
  · refine ⟨(cr ⟨1, 2, .hash false, 3, [4]⟩ false (up State.reset)), ⟨1, 2, .hash false, 3, [4]⟩, ?_, ?_, ?_, ?_⟩
    all_goals first | decide +kernel | rfl
  · refine ⟨(cr ⟨1, 2, .hmac, 3, [4]⟩ false (slot 3 0 1 3 1 8 (up State.reset))), ⟨1, 2, .hmac, 3, [4]⟩, ?_, ?_, ?_, ?_, ?_, ?_⟩
    all_goals first | decide +kernel | rfl
  · refine ⟨(cr ⟨1, 2, .verify [5], 3, [4]⟩ false (slot 3 0 1 6 1 2 (up State.reset))), ⟨1, 2, .verify [5], 3, [4]⟩, [5], ?_, ?_, ?_, ?_, ?_, ?_⟩
    all_goals first | decide +kernel | rfl
  · refine ⟨(cr ⟨1, 2, .decrypt, 3, [4]⟩ false (slot 3 0 0 6 1 2 (up State.reset))), ⟨1, 2, .decrypt, 3, [4]⟩, ?_, ?_, ?_, ?_, ?_, ?_, ?_⟩
    all_goals first | decide +kernel | rfl
  · refine ⟨(cr ⟨1, 2, .sign, 3, [4]⟩ true (slot 3 0 1 5 1 1 (up State.reset))), ⟨1, 2, .sign, 3, [4]⟩, ?_, ?_, ?_, ?_, ?_, ?_, ?_, ?_, ?_⟩
    all_goals first | decide +kernel | rfl
  · refine ⟨((up State.reset).put Fd.KEY_STAT_DRBGOK 1), ?_, ?_⟩
    all_goals first | decide +kernel | rfl
  · refine ⟨(up State.reset), ?_⟩
    all_goals first | decide +kernel | rfl

theorem witness_EthernetFrames_1 :
    (∃ (s : State) (f : TxFrame), s.held .siteLink = false ∧ s.on Fd.PTP_STAT_SLEW = false ∧ f.queue < 4 ∧ s.parN Par.ETH_TOPO = 2 ∧ portUp s 0 = true ∧ s.q.length
      = 32) ∧
    (∃ (s : State) (f : TxFrame), s.held .siteLink = false ∧ f.queue < 4 ∧ s.parN Par.ETH_TOPO = 0 ∧ portUp s 0 = true ∧ portUp s 1 = false ∧ s.q.length = 32) ∧
    (∃ (s : State) (f : Frame), s.held .siteLink = false ∧ s.parN Par.ETH_TOPO = 2 ∧ queue s 1 = [f] ∧ queue s 2 = [] ∧ queue s 3 = [] ∧ queue s 9 = [] ∧ queue s 10
      = [] ∧ queue s 11 = [] ∧ f.tsIns = none ∧ f.tsReq = false ∧ s.q.length = 32) ∧
    (∃ (s : State) (f : Frame) (fs : List Frame) (l dt : Nat), s.held .siteLink = false ∧ s.pfw = false ∧ queue s 0 = f :: fs ∧ f.launch = some l ∧ queue s 8 = [] ∧
      s.eth.st + dt < stExtend l (s.eth.st + dt)) ∧
    (∃ (s : State) (f : Frame) (l dt : Nat), s.held .siteLink = false ∧ s.pfw = false ∧ queue s 0 = [f] ∧ f.launch = some l ∧ f.tsIns = none ∧ f.tsReq = false ∧
      queue s 8 = [] ∧ s.parN Par.ETH_TOPO = 2 ∧ stExtend l (s.eth.st + dt) ≤ s.eth.st + dt ∧ s.eth.st + dt - stExtend l (s.eth.st + dt) ≤ 1000 ∧ s.q.length =
      32) ∧
    (∃ (s : State) (f : Frame) (l dt : Nat), s.held .siteLink = false ∧ s.pfw = false ∧ queue s 0 = [f] ∧ f.launch = some l ∧ queue s 8 = [] ∧ s.parN Par.LATE_MODE
      = 1 ∧ 1000 < s.eth.st + dt - stExtend l (s.eth.st + dt) ∧ s.q.length = 32) ∧
    (∃ (s : State) (p : Nat), s.held .siteLink = false ∧ portUp s p = true) ∧
    (∃ (s : State) (f : List Byte), s.held .siteLink = false ∧ portUp s 0 = true ∧ s.parN Par.ETH_TOPO = 2 ∧ f.length = 64 ∧ etherType f = 0x0800 ∧ (f.headD
      0).getLsbD 0 = true ∧ vlanPrio f < 4 ∧ (queue s 7).length < 32 ∧ s.q.length = 32) ∧
    (∃ (s : State), s.held .siteLink = false) ∧
    (∃ (s : State), s.held .siteLink = false ∧ s.parN Par.ETH_TOPO = 0 ∧ portUp s 0 = true ∧ portUp s 1 = true) ∧
    (∃ (s : State) (p : Nat) (m : List Byte), s.held .siteLink = false ∧ portUp s p = true ∧ 10 ≤ m.length ∧ groupNum m 2 2 % 4096 = s.parN Par.GRP_ADDR) ∧
    (∃ (s : State) (p : Nat) (m : List Byte), s.held .siteLink = false ∧ portUp s p = true ∧ 10 ≤ m.length ∧ groupNum m 2 2 % 4096 ≠ s.parN Par.GRP_ADDR ∧ groupNum
      m 4 2 = 0xFFFF ∧ groupNum m 1 1 = 2 ∧ m.length = 10 + groupNum m 8 2 ∧ s.eth.groups = [] ∧ (queue s 4).length < 32 ∧ s.q.length = 32) := by
  refine ⟨?_, ?_, ?_, ?_, ?_, ?_, ?_, ?_, ?_, ?_, ?_, ?_⟩
  · refine ⟨((topo 2 (port 0 (up State.reset))).put Fd.PTP_STAT_SLEW 0), ⟨3, [1, 2], some 9, none, true⟩, ?_, ?_, ?_, ?_, ?_, ?_⟩
    all_goals first | decide +kernel | rfl
  · refine ⟨((topo 0 (port 0 (up State.reset))).put ⟨Reg.ETH_CTL, 1, 1⟩ 0), ⟨0, List.replicate 60 3, some 9, none, true⟩, ?_, ?_, ?_, ?_, ?_, ?_⟩
    all_goals first | decide +kernel | rfl
  · refine ⟨({ topo 2 (port 0 (up State.reset)) with q := setNth State.reset.q 1 [.plain [1, 2]] }), (.plain [1, 2]), ?_, ?_, ?_, ?_, ?_, ?_, ?_, ?_, ?_, ?_, ?_⟩
    all_goals first | decide +kernel | rfl
  · refine ⟨({ topo 2 (port 0 (up State.reset)) with q := setNth State.reset.q 0 [⟨[1, 2], some 1000, none, false, 0⟩], eth := { State.reset.eth with st := 100 } }),
      ⟨[1, 2], some 1000, none, false, 0⟩, [], 1000, 899, ?_, ?_, ?_, ?_, ?_, ?_⟩
    all_goals first | decide +kernel | rfl
  · refine ⟨({ topo 2 (port 0 (up State.reset)) with q := setNth State.reset.q 0 [⟨[1, 2], some 1000, none, false, 0⟩], eth := { State.reset.eth with st := 100 } }),
      ⟨[1, 2], some 1000, none, false, 0⟩, 1000, 1900, ?_, ?_, ?_, ?_, ?_, ?_, ?_, ?_, ?_, ?_, ?_⟩
    all_goals first | decide +kernel | rfl
  · refine ⟨({ (topo 2 (port 0 (up State.reset))).setPar Par.LATE_MODE 1 with q := setNth State.reset.q 0 [⟨[1, 2], some 1000, none, false, 0⟩], eth := { State.reset.eth with st := 100 } }),
      ⟨[1, 2], some 1000, none, false, 0⟩, 1000, 1901, ?_, ?_, ?_, ?_, ?_, ?_, ?_, ?_⟩
    all_goals first | decide +kernel | rfl
  · refine ⟨(topo 0 (port 1 (up State.reset))), 1, ?_, ?_⟩
    all_goals first | decide +kernel | rfl
  · refine ⟨(topo 2 (port 0 (up State.reset))), bc, ?_, ?_, ?_, ?_, ?_, ?_, ?_, ?_, ?_⟩
    all_goals first | decide +kernel | rfl
  · refine ⟨(up State.reset), ?_⟩
    all_goals first | decide +kernel | rfl
  · refine ⟨(topo 0 (port 1 (port 0 (up State.reset)))), ?_, ?_, ?_, ?_⟩
    all_goals first | decide +kernel | rfl
  · refine ⟨((topo 0 (port 1 (up State.reset))).setPar Par.GRP_ADDR 5), 1, [1, 2, 5, 0, 255, 255, 1, 0, 0, 0], ?_, ?_, ?_, ?_⟩
    all_goals first | decide +kernel | rfl
  · refine ⟨({ (topo 0 (port 1 (up State.reset))).setPar Par.GRP_ADDR 5 with eth := { State.reset.eth with groups := [] } }), 1, [1, 2, 6, 0, 255, 255, 1, 0, 1, 0,
      9], ?_, ?_, ?_, ?_, ?_, ?_, ?_, ?_, ?_, ?_⟩
    all_goals first | decide +kernel | rfl

theorem witness_EthernetFrames_13 :
    (∃ (s : State) (p : Nat) (f : List Byte), s.held .siteLink = false ∧ portUp s p = true ∧ f.take 6 = groupMac 1 ∧ etherType f = 0x88B5 ∧ 32 ≤ (f.drop (typeAt f +
      2)).length) ∧
    (∃ (s : State) (k : Nat), s.held .siteLink = false ∧ k < 2) ∧
    (∃ (s : State) (k : Nat), s.held .siteLink = false ∧ k < 2) := by
  refine ⟨?_, ?_, ?_⟩
  · refine ⟨(topo 0 (port 1 (up State.reset))), 1, (groupMac 1 ++ List.replicate 6 1 ++ [0x88, 0xB5] ++ List.replicate 32 7), ?_, ?_, ?_, ?_, ?_⟩
    all_goals first | decide +kernel | rfl
  · refine ⟨(up State.reset), 1, ?_, ?_⟩
    all_goals first | decide +kernel | rfl
  · refine ⟨((up State.reset).put (Fd.ETH_CAN_BUSOFF 1) 1), 1, ?_, ?_⟩
    all_goals first | decide +kernel | rfl

theorem witness_PtpEngine :
    (∃ (s : State) (p dom d : Nat), s.held .siteLink = false ∧ s.on Fd.PTP_STAT_SLEW = false ∧ s.parN Par.PTP_ROLE ≠ 2 ∧ domIndex s dom = some d ∧ p < 2 ∧ ptpHears
      s d p = true ∧ s.eth.ports.length = 4) ∧
    (∃ (s : State) (p dom d dt : Nat) (at_ : Int), s.held .siteLink = false ∧ s.on Fd.PTP_STAT_SLEW = false ∧ s.parN Par.PTP_ROLE ≠ 2 ∧ at_ = s.eth.st + dt - s.parN
      (Par.PHY_RXLAT p) ∧ domIndex s dom = some d ∧ p < 2 ∧ ptpHears s d p = true ∧ (engine s d p).set = false ∧ s.eth.sel = none ∧ domPort s 0 = none ∧ domPort
      s 1 = none ∧ s.eth.ports.length = 4) ∧
    (∃ (s : State) (p dom seq d : Nat) (w : PtpWait), s.held .siteLink = false ∧ s.parN Par.PTP_ROLE ≠ 2 ∧ domIndex s dom = some d ∧ portUp s p = true ∧ (engine s d
      p).sync = some w ∧ w.seq = seq ∧ (engine s d p).set = false ∧ s.eth.sel = none ∧ domPort s 0 = none ∧ domPort s 1 = none ∧ s.eth.ports.length = 4) ∧
    (∃ (s : State) (p dom d : Nat), s.held .siteLink = false ∧ domIndex s dom = some d ∧ portUp s p = true ∧ s.parN Par.PTP_ROLE = 0 ∧ (engine s d p).gm = none ∧
      s.eth.sel = none ∧ domPort s 0 = none ∧ domPort s 1 = none ∧ s.eth.ports.length = 4) ∧
    (∃ (s : State) (p dom d : Nat), s.held .siteLink = false ∧ domIndex s dom = some d ∧ p < 2 ∧ s.parN Par.PTP_ROLE = 0 ∧ s.eth.sel = none ∧ domPort s 0 = none ∧
      domPort s 1 = none ∧ s.eth.ports.length = 4) ∧
    (∃ (s : State), s.held .siteLink = false ∧ s.on Fd.PTP_STAT_SLEW = false ∧ ptpMaster s = true ∧ portUp s 0 = true ∧ portUp s 1 = false) ∧
    (∃ (s : State), s.held .siteLink = false ∧ ptpMaster s = true ∧ portUp s 0 = true ∧ portUp s 1 = true) ∧
    (∃ (s : State), s.held .siteLink = false ∧ ptpMaster s = false) ∧
    (∃ (s : State) (p dom d : Nat), s.held .siteLink = false ∧ s.on Fd.PTP_STAT_SLEW = false ∧ domIndex s dom = some d ∧ ptpHears s d p = true ∧ s.eth.ports.length
      = 4) ∧
    (∃ (s : State) (p dom d : Nat) (w : PtpWait) (t2 t1 : Int), s.held .siteLink = false ∧ domIndex s dom = some d ∧ ptpHears s d p = true ∧ (engine s d p).delay =
      some w ∧ (engine s d p).last = some (t2, t1) ∧ s.eth.ports.length = 4) ∧
    (∃ (s : State) (p : Nat), s.held .siteLink = false ∧ s.on Fd.PTP_STAT_SLEW = false ∧ portUp s p = true ∧ ptpMaster s = true) := by
  refine ⟨?_, ?_, ?_, ?_, ?_, ?_, ?_, ?_, ?_, ?_, ?_⟩
  · refine ⟨(eng (fun e => { e with gm := some 3 }) ((dom (topo 0 (port 0 (up State.reset)))).put Fd.PTP_STAT_SLEW 0)), 0, 0, 0, ?_, ?_, ?_, ?_, ?_, ?_, ?_⟩
    all_goals first | decide +kernel | rfl
  · refine ⟨(eng (fun e => { e with gm := some 3, mpd := 9 }) ((dom (topo 0 (port 0 (up State.reset)))).put Fd.PTP_STAT_SLEW 0)), 0, 0, 0, 40, ((eng (fun e => { e with gm := some 3, mpd := 9 })
      ((dom (topo 0 (port 0 (up State.reset)))).put Fd.PTP_STAT_SLEW 0)).eth.st + 40 - (eng (fun e => { e with gm := some 3, mpd := 9 }) ((dom (topo 0 (port 0
      (up State.reset)))).put Fd.PTP_STAT_SLEW 0)).parN (Par.PHY_RXLAT 0)), ?_, ?_, ?_, ?_, ?_, ?_, ?_, ?_, ?_, ?_, ?_, ?_⟩
    all_goals first | decide +kernel | rfl
  · refine ⟨(eng (fun e => { e with gm := some 3, mpd := 9, sync := some ⟨1, 77⟩ }) (dom (topo 0 (port 0 (up State.reset))))), 0, 0, 1, 0, ⟨1, 77⟩, ?_, ?_, ?_, ?_,
      ?_, ?_, ?_, ?_, ?_, ?_, ?_⟩
    all_goals first | decide +kernel | rfl
  · refine ⟨((eng id (dom (topo 0 (port 0 (up State.reset))))).setPar Par.PTP_ROLE 0), 0, 0, 0, ?_, ?_, ?_, ?_, ?_, ?_, ?_, ?_, ?_⟩
    all_goals first | decide +kernel | rfl
  · refine ⟨((eng (fun e => { e with gm := some 6, off := 4 }) (dom (topo 0 (port 0 (up State.reset))))).setPar Par.PTP_ROLE 0), 0, 0, 0, ?_, ?_, ?_, ?_, ?_, ?_,
      ?_, ?_⟩
    all_goals first | decide +kernel | rfl
  · refine ⟨((((topo 2 (port 0 (up State.reset))).put Fd.PTP_STAT_SLEW 0).setPar Par.PTP_ROLE 1).put Fd.PTP_STAT_MASTER 1), ?_, ?_, ?_, ?_, ?_⟩
    all_goals first | decide +kernel | rfl
  · refine ⟨(((topo 0 (port 1 (port 0 (up State.reset)))).setPar Par.PTP_ROLE 1).put Fd.PTP_STAT_MASTER 1), ?_, ?_, ?_, ?_⟩
    all_goals first | decide +kernel | rfl
  · refine ⟨((up State.reset).setPar Par.PTP_ROLE 2), ?_, ?_⟩
    all_goals first | decide +kernel | rfl
  · refine ⟨(eng (fun e => { e with gm := some 3 }) ((dom (topo 0 (port 0 (up State.reset)))).put Fd.PTP_STAT_SLEW 0)), 0, 0, 0, ?_, ?_, ?_, ?_, ?_⟩
    all_goals first | decide +kernel | rfl
  · refine ⟨(eng (fun e => { e with gm := some 3, delay := some ⟨4, 60⟩, last := some (50, 20) }) (dom (topo 0 (port 0 (up State.reset))))), 0, 0, 0, ⟨4, 60⟩, 50,
      20, ?_, ?_, ?_, ?_, ?_, ?_⟩
    all_goals first | decide +kernel | rfl
  · refine ⟨((((topo 0 (port 1 (up State.reset))).put Fd.PTP_STAT_SLEW 0).setPar Par.PTP_ROLE 1).put Fd.PTP_STAT_MASTER 1), 1, ?_, ?_, ?_, ?_⟩
    all_goals first | decide +kernel | rfl

theorem witness_SiteTimeAndLinks :
    (∃ (s : State) (d p q : Nat), s.held .siteLink = false ∧ s.eth.sel = some (d, q) ∧ d ≠ s.parN Par.PTP_PREF ∧ domPort s (s.parN Par.PTP_PREF) = some p ∧ s.parB
      Par.PTP_REVERT = true ∧ s.parN Par.PTP_PREF < 2 ∧ (engine s (s.parN Par.PTP_PREF) p).off.natAbs ≤ s.parN Par.STEPMAX) ∧
    (∃ (s : State) (d p q : Nat), s.held .siteLink = false ∧ s.eth.sel = some (d, q) ∧ d ≠ s.parN Par.PTP_PREF ∧ domPort s (s.parN Par.PTP_PREF) = some p ∧ s.parB
      Par.PTP_REVERT = true ∧ s.parN Par.STEPMAX < (engine s (s.parN Par.PTP_PREF) p).off.natAbs) ∧
    (∃ (s : State), s.held .siteLink = false ∧ s.on Fd.PTP_STAT_SLEW = true) ∧
    (∃ (s : State), s.held .siteLink = false ∧ s.on Fd.PTP_STAT_LOCK = true) ∧
    (∃ (s : State), s.held .siteLink = false ∧ s.on Fd.PTP_STAT_LOCK = false) ∧
    (∃ (s : State), s.held .siteLink = false) ∧
    (∃ (s : State) (p speed : Nat), s.held .siteLink = false ∧ p < 2 ∧ speed < 4 ∧ s.parN Par.ETH_TOPO ≠ 0) ∧
    (∃ (s : State), s.held .siteLink = false ∧ s.parN Par.ETH_TOPO = 2 ∧ s.q.length = 32) ∧
    (∃ (s : State) (p : Path) (w : Word), HostMay p 1 s ∧ s.held .siteLink = false ∧ s.parN Par.ETH_TOPO = 0 ∧ telegramsUsed s = true ∧ (s.get Fd.ETH_CTL_PEN &&& (3
      - Bits.get w 0 2)) ≠ 0) ∧
    (∃ (s : State) (p : Path) (w : Word), HostMay p 1 s ∧ s.held .siteLink = false ∧ s.parN Par.ETH_TOPO ≠ 0 ∧ (s.get Fd.ETH_CTL_PEN &&& (3 - Bits.get w 0 2)) = 0) := by
  refine ⟨?_, ?_, ?_, ?_, ?_, ?_, ?_, ?_, ?_, ?_⟩
  · refine ⟨({ (((up State.reset).setPar Par.PTP_PREF 0).setPar Par.PTP_REVERT 1).setPar Par.STEPMAX 50 with eth := { State.reset.eth with ports := [{ PtpPort.zero with gm := some 1, good := 16, off := -50 }, .zero, .zero, .zero], sel := some (1, 0) } }),
      1, 0, 0, ?_, ?_, ?_, ?_, ?_, ?_, ?_⟩
    all_goals first | decide +kernel | rfl
  · refine ⟨({ (((up State.reset).setPar Par.PTP_PREF 0).setPar Par.PTP_REVERT 1).setPar Par.STEPMAX 50 with eth := { State.reset.eth with ports := [{ PtpPort.zero with gm := some 1, good := 16, off := -51 }, .zero, .zero, .zero], sel := some (1, 0) } }),
      1, 0, 0, ?_, ?_, ?_, ?_, ?_, ?_⟩
    all_goals first | decide +kernel | rfl
  · refine ⟨((up State.reset).put Fd.PTP_STAT_SLEW 1), ?_, ?_⟩
    all_goals first | decide +kernel | rfl
  · refine ⟨((up State.reset).put Fd.PTP_STAT_LOCK 1), ?_, ?_⟩
    all_goals first | decide +kernel | rfl
  · refine ⟨((up State.reset).put Fd.PTP_STAT_LOCK 0), ?_, ?_⟩
    all_goals first | decide +kernel | rfl
  · refine ⟨(up State.reset), ?_⟩
    all_goals first | decide +kernel | rfl
  · refine ⟨(topo 1 (up State.reset)), 1, 3, ?_, ?_, ?_, ?_⟩
    all_goals first | decide +kernel | rfl
  · refine ⟨({ topo 2 (port 0 (up State.reset)) with q := setNth State.reset.q 1 [.plain [1, 2]] }), ?_, ?_, ?_⟩
    all_goals first | decide +kernel | rfl
  · refine ⟨(((topo 0 (up State.reset)).setPar (Par.TG_SRC 3) 5).put Fd.ETH_CTL_PEN 3), .spi, 1, ?_, ?_, ?_, ?_, ?_⟩
    all_goals first | decide +kernel | rfl
  · refine ⟨((topo 1 (up State.reset)).put Fd.ETH_CTL_PEN 1), .spi, 3, ?_, ?_, ?_, ?_⟩
    all_goals first | decide +kernel | rfl

end Sys2Proof.Tests.Keys

namespace Sys2Proof.Tests.Bus

def role (n : Nat) (x : State) : State := ((x.put Fd.AMB_STAT_READY 1).put Fd.AMB_STAT_ROLE n)
def amb (f : AmbState → AmbState) (x : State) : State := { x with amb := f x.amb }
def hdr (h : Nat) : Nat := h * 256 + AmeneCode.hcrc (h * 256)
def rx1 (type seg node cyc : Nat) (ms : List AmbMsg) : AmbRx := ⟨hdr (((((type * 16) * 256 + 20) * 256 + seg) * 256 + node) * 256 + cyc), mpduOf ms, 0,
    List.replicate 36 50, 1000⟩
def pst : SharePost := ⟨5, 1, 30, false, 1, 0, .own, 0, 0, 65535, [], 7⟩
def seg (x : State) : State := x.setPar Par.AMB_SEG 3
def share (x : State) : State := (x.setPar Par.SITE_MASTER 7).setPar Par.GRP_ADDR 7

theorem witness_AmeneMaster :
    (∃ (s : State) (joinDue : Bool), s.held .amene = false ∧ ambRole s 2 = true ∧ s.pfw = false ∧ pollEntries joinDue s = [0] ∧ queue s 24 = [] ∧ queue s 25 = [] ∧
      s.tok.deferred = []) ∧
    (∃ (s : State), s.held .amene = false ∧ s.pfw = true) ∧
    (∃ (s : State) (k n mode : Nat) (rx : AmbRx) (u : State) (g : AmbGot) (phase : AmbMsg), s.held .amene = false ∧ ambRole s 2 = true ∧ s.amb.slots.contains k =
      true ∧ ambReceive rx s = (some g, u) ∧ g.msgs = some [phase] ∧ g.type = 2 ∧ g.cyc = (u.amb.cyc + 65535) % 256 ∧ u.amb.polled[k]? = some (n, mode) ∧ 0 < n
      ∧ n < 256 ∧ g.node = n ∧ phase.mt = 2 ∧ phaseClass (u.parN Par.AMB_MPHASE) u.amb.tm (msgNum phase 0 2) (linePeriod u) = none) ∧
    (∃ (s : State) (k n mode c : Nat), s.held .amene = false ∧ ambRole s 2 = true ∧ s.amb.slots.contains k = true ∧ s.amb.polled[k]? = some (n, mode) ∧ 0 < n ∧ n <
      256 ∧ nodeSt s n = 1 ∧ c = (assocGet s.amb.miss n).getD 0 + 1 ∧ c < s.parN Par.AMB_MISS ∧ c ≤ 15) ∧
    (∃ (s : State) (k n mode : Nat), s.held .amene = false ∧ ambRole s 2 = true ∧ s.amb.slots.contains k = true ∧ s.amb.polled[k]? = some (n, mode) ∧ 0 < n ∧ n <
      256 ∧ nodeSt s n = 1 ∧ s.parN Par.AMB_MISS ≤ (assocGet s.amb.miss n).getD 0 + 1) ∧
    (∃ (s : State) (n : Nat), s.held .amene = false ∧ ambRole s 2 = true ∧ 0 < n ∧ n < 256 ∧ nodeSt s n = 1 ∧ s.on (Fd.AMB_NODE_BUSY n) = true) ∧
    (∃ (s : State) (rx : AmbRx), s.held .amene = false ∧ s.on Fd.AMB_STAT_READY = true ∧ rx.hdr % 256 ≠ AmeneCode.hcrc rx.hdr) ∧
    (∃ (s : State) (rx : AmbRx) (u : State) (g : AmbGot) (m : AmbMsg), s.held .amene = false ∧ ambReceive rx s = (some g, u) ∧ g.type = 3 ∧ g.msgs = some [m] ∧ m.mt
      = 6 ∧ msgNum m 0 2 = ownGrp u ∧ msgNum m 4 1 % 2 = 0 ∧ (queue u 27).length < 8 ∧ u.q.length = 32) ∧
    (∃ (s : State), s.held .amene = false ∧ s.amb.zc = none) ∧
    (∃ (s : State) (time last : Nat), s.held .amene = false ∧ s.amb.zc = some last ∧ 4 * linePeriod s ≤ 5 * (time - s.parN Par.ZC_DLY - last)) ∧
    (∃ (s : State) (time last : Nat), s.held .amene = false ∧ s.amb.zc = some last ∧ 5 * (time - s.parN Par.ZC_DLY - last) < 4 * linePeriod s) := by
  refine ⟨?_, ?_, ?_, ?_, ?_, ?_, ?_, ?_, ?_, ?_, ?_⟩
  · refine ⟨(amb (fun a => { a with cyc := 65535, failed := [4] }) ((role 2 (up State.reset)).setPar Par.AMB_NPOLL 4)), true, ?_, ?_, ?_, ?_, ?_, ?_, ?_⟩
    all_goals first | decide +kernel | rfl
  · refine ⟨(role 2 ((up State.reset).put Fd.PWR_STAT_PFW 1)), ?_, ?_⟩
    all_goals first | decide +kernel | rfl
  · refine ⟨(amb (fun a => { a with cyc := 5, slots := [0, 1], polled := [(0, 0), (9, 17)], tm := 4563, miss := [(9, 2)] }) (seg (role 2 (((up State.reset).put
      Fd.AMB_LAST_PERIOD 20000).put (Fd.AMB_NODE_MOD 9) 0)))), 1, 9, 17, (rx1 2 3 9 4 [⟨2, [0x50, 0x0B, 0, 0]⟩]), ((ambReceive (rx1 2 3 9 4 [⟨2, [0x50, 0x0B, 0,
      0]⟩]) (amb (fun a => { a with cyc := 5, slots := [0, 1], polled := [(0, 0), (9, 17)], tm := 4563, miss := [(9, 2)] }) (seg (role 2 (((up State.reset).put
      Fd.AMB_LAST_PERIOD 20000).put (Fd.AMB_NODE_MOD 9) 0))))).2), (⟨2, 9, 4, some [⟨2, [0x50, 0x0B, 0, 0]⟩]⟩), ⟨2, [0x50, 0x0B, 0, 0]⟩, ?_, ?_, ?_, ?_, ?_, ?_,
      ?_, ?_, ?_, ?_, ?_, ?_, ?_⟩
    all_goals first | decide +kernel | rfl
  · refine ⟨(amb (fun a => { a with slots := [0, 1], polled := [(0, 0), (255, 17)], miss := [(255, 2)] }) (((role 2 (up State.reset)).put (Fd.AMB_NODE_STATE 255)
      1).setPar Par.AMB_MISS 4)), 1, 255, 17, 3, ?_, ?_, ?_, ?_, ?_, ?_, ?_, ?_, ?_, ?_⟩
    all_goals first | decide +kernel | rfl
  · refine ⟨(amb (fun a => { a with slots := [0, 1], polled := [(0, 0), (255, 17)], miss := [(255, 3)] }) (((role 2 (up State.reset)).put (Fd.AMB_NODE_STATE 255)
      1).setPar Par.AMB_MISS 4)), 1, 255, 17, ?_, ?_, ?_, ?_, ?_, ?_, ?_, ?_⟩
    all_goals first | decide +kernel | rfl
  · refine ⟨(((role 2 (up State.reset)).put (Fd.AMB_NODE_STATE 255) 1).put (Fd.AMB_NODE_BUSY 255) 1), 255, ?_, ?_, ?_, ?_, ?_, ?_⟩
    all_goals first | decide +kernel | rfl
  · refine ⟨(role 1 (up State.reset)), ⟨1, [], 0, [], 0⟩, ?_, ?_, ?_⟩
    all_goals first | decide +kernel | rfl
  · refine ⟨(seg (role 1 (up State.reset))), (rx1 3 3 0 4 [⟨6, Bits.leBytes 2 (ownGrp (seg (role 1 (up State.reset)))) ++ [1, 0, 0, 8]⟩]), ((ambReceive (rx1 3 3 0 4
      [⟨6, Bits.leBytes 2 (ownGrp (seg (role 1 (up State.reset)))) ++ [1, 0, 0, 8]⟩]) (seg (role 1 (up State.reset)))).2), (⟨3, 0, 4, some [⟨6, Bits.leBytes 2
      (ownGrp (seg (role 1 (up State.reset)))) ++ [1, 0, 0, 8]⟩]⟩), ⟨6, Bits.leBytes 2 (ownGrp (seg (role 1 (up State.reset)))) ++ [1, 0, 0, 8]⟩, ?_, ?_, ?_,
      ?_, ?_, ?_, ?_, ?_, ?_⟩
    all_goals first | decide +kernel | rfl
  · refine ⟨(amb (fun a => { a with zc := none }) (up State.reset)), ?_, ?_⟩
    all_goals first | decide +kernel | rfl
  · refine ⟨(amb (fun a => { a with zc := some 10 }) ((up State.reset).put Fd.AMB_LAST_PERIOD 20000)), 1000000, 10, ?_, ?_, ?_⟩
    all_goals first | decide +kernel | rfl
  · refine ⟨(amb (fun a => { a with zc := some 10 }) ((up State.reset).put Fd.AMB_LAST_PERIOD 20000)), 1000, 10, ?_, ?_, ?_⟩
    all_goals first | decide +kernel | rfl

theorem witness_AmeneSlave :
    (∃ (s : State) (rx : AmbRx) (u : State) (g : AmbGot), s.held .amene = false ∧ ambReceive rx s = (some g, u) ∧ g.type = 1) ∧
    (∃ (s : State) (rx : AmbRx) (u : State) (g : AmbGot) (p : AmbMsg), s.held .amene = false ∧ ambReceive rx s = (some g, u) ∧ g.type = 1 ∧ ambRole u 1 = true ∧
      g.msgs = some [p] ∧ p.mt = 1 ∧ msgNum p 3 1 = 1 ∧ msgNum p 4 1 ≠ u.parN Par.AMB_NODE) ∧
    (∃ (s : State) (k mode : Nat), s.held .amene = false ∧ ambRole s 1 = true ∧ s.pfw = false ∧ s.on Fd.AMB_STAT_JOINED = true ∧ s.parN Par.AMB_NODE ≠ 0 ∧
      s.amb.entries[k]? = some (s.parN Par.AMB_NODE, mode) ∧ s.amb.out = [] ∧ queue s 24 = [] ∧ queue s 25 = [] ∧ s.amb.rlen ≤ 200 ∧ tokHolds s 5 0 = true ∧
      s.tok.deferred = []) ∧
    (∃ (s : State) (k : Nat), s.held .amene = false ∧ s.amb.entries[k]? = none) ∧
    (∃ (s : State) (via : SiteVia) (m : AmbMsg), s.held .amene = false ∧ s.x11 = [⟨via, m⟩] ∧ m.mt = 5 ∧ msgNum m 0 2 = ownGrp s ∧ msgNum m 2 1 = s.parN
      Par.AMB_NODE ∧ msgNum m 3 1 = 0 ∧ ambRole s 1 = true ∧ s.amb.entries = []) ∧
    (∃ (s : State) (via : SiteVia) (m : AmbMsg), s.held .amene = false ∧ s.x11 = [⟨via, m⟩] ∧ m.mt = 5 ∧ msgNum m 0 2 = ownGrp s ∧ msgNum m 2 1 = s.parN
      Par.AMB_NODE ∧ msgNum m 3 1 = 1 ∧ ambRole s 1 = true) ∧
    (∃ (s : State), s.held .amene = false) ∧
    (∃ (s : State), s.held .amene = false ∧ ambRole s 1 = true ∧ s.on Fd.AMB_STAT_JOINED = true) := by
  refine ⟨?_, ?_, ?_, ?_, ?_, ?_, ?_, ?_⟩
  · refine ⟨(seg (role 1 (up State.reset))), (rx1 1 3 0 4 []), ((ambReceive (rx1 1 3 0 4 []) (seg (role 1 (up State.reset)))).2), ⟨1, 0, 4, some []⟩, ?_, ?_, ?_⟩
    all_goals first | decide +kernel | rfl
  · refine ⟨((seg (role 1 (up State.reset))).setPar Par.AMB_NODE 8), (rx1 1 3 0 4 [⟨1, [1, 2, 40, 1, 9, 17]⟩]), ((ambReceive (rx1 1 3 0 4 [⟨1, [1, 2, 40, 1, 9,
      17]⟩]) ((seg (role 1 (up State.reset))).setPar Par.AMB_NODE 8)).2), (⟨1, 0, 4, some [⟨1, [1, 2, 40, 1, 9, 17]⟩]⟩), ⟨1, [1, 2, 40, 1, 9, 17]⟩, ?_, ?_, ?_,
      ?_, ?_, ?_, ?_, ?_⟩
    all_goals first | decide +kernel | rfl
  · refine ⟨({ amb (fun a => { a with rlen := 40, out := [], entries := [(9, 17)] }) (((role 1 (up State.reset)).setPar Par.AMB_NODE 9).put Fd.AMB_STAT_JOINED 1) with tok := ⟨[⟨5, 0, 800, 0, false⟩], []⟩ }),
      0, 17, ?_, ?_, ?_, ?_, ?_, ?_, ?_, ?_, ?_, ?_, ?_, ?_⟩
    all_goals first | decide +kernel | rfl
  · refine ⟨(amb (fun a => { a with entries := [] }) (role 1 (up State.reset))), 1, ?_, ?_⟩
    all_goals first | decide +kernel | rfl
  · refine ⟨({ amb (fun a => { a with entries := [] }) ((role 1 (up State.reset)).setPar Par.AMB_NODE 9) with x11 := [⟨.bus 0, ⟨5, Bits.leBytes 2 (ownGrp State.reset) ++ [9, 0]⟩⟩] }),
      (.bus 0), ⟨5, Bits.leBytes 2 (ownGrp State.reset) ++ [9, 0]⟩, ?_, ?_, ?_, ?_, ?_, ?_, ?_, ?_⟩
    all_goals first | decide +kernel | rfl
  · refine ⟨({ (role 1 (up State.reset)).setPar Par.AMB_NODE 9 with x11 := [⟨.bus 0, ⟨5, Bits.leBytes 2 (ownGrp State.reset) ++ [9, 1]⟩⟩] }), (.bus 0), ⟨5,
      Bits.leBytes 2 (ownGrp State.reset) ++ [9, 1]⟩, ?_, ?_, ?_, ?_, ?_, ?_, ?_⟩
    all_goals first | decide +kernel | rfl
  · refine ⟨(up State.reset), ?_⟩
    all_goals first | decide +kernel | rfl
  · refine ⟨((role 1 (up State.reset)).put Fd.AMB_STAT_JOINED 1), ?_, ?_, ?_⟩
    all_goals first | decide +kernel | rfl

theorem witness_PowerSharing :
    (∃ (s : State), sharing s = false) ∧
    (∃ (s : State) (q : SharePost), sharing s = true ∧ s.x11 = [] ∧ s.posts = [q] ∧ 0 < q.p ∧ q.p.natAbs ≤ s.parN Par.SITE_FLOOR ∧ q.age + 1 < 10 ∧ q.grants = [] ∧
      q.via = .own) ∧
    (∃ (s u : State) (m : SiteMsg), siteMessage 0x10 s = (some m, u) ∧ sharing u = true ∧ u.x11 = [] ∧ u.posts = [] ∧ m.msg.body.length = 12) ∧
    (∃ (s u : State) (m : SiteMsg), siteMessage 0x10 s = (some m, u) ∧ sharing u = false) ∧
    (∃ (s u : State) (m : SiteMsg) (q : SharePost), siteMessage 0x12 s = (some m, u) ∧ sharing u = true ∧ u.posts = [q] ∧ msgNum m.msg 0 2 % 4096 = q.post) ∧
    (∃ (s : State) (q : SharePost), s.posts = [q] ∧ postLive q = false) ∧
    (∃ (s : State) (q : SharePost), s.posts = [q] ∧ postLive q = true) ∧
    (∃ (s u : State) (m : SiteMsg), siteMessage 0x13 s = (some m, u) ∧ msgNum m.msg 0 2 ≠ ownGrp u) ∧
    (∃ (s u w : State) (m : SiteMsg), siteMessage 0x13 s = (some m, u) ∧ msgNum m.msg 0 2 = ownGrp u ∧ m.via = .own ∧ sharing u = true ∧ 1 ≤ msgNum m.msg 5 1 ∧
      msgNum m.msg 5 1 ≤ 8 ∧ m.msg.body.length = 6 + msgNum m.msg 5 1 ∧ paramWrite true 2 (msgNum m.msg 2 1 * 1000 + msgNum m.msg 3 2) (msgNum m.msg 5 1)
      (msgNum m.msg 6 (msgNum m.msg 5 1)) u = (0, w)) ∧
    (∃ (s u : State) (m : SiteMsg), siteMessage 0x13 s = (some m, u) ∧ msgNum m.msg 0 2 = ownGrp u ∧ m.via = .own ∧ sharing u = false) ∧
    (∃ (s u : State) (f : List Byte) (m : AmbMsg), groupTake 3 (fun _ => true) s = (some f, u) ∧ (msgsOf 1 (groupPayload f)).head? = some m ∧ m.mt = 0x11 ∧ msgNum m
      0 2 = ownGrp u) := by
  refine ⟨?_, ?_, ?_, ?_, ?_, ?_, ?_, ?_, ?_, ?_, ?_⟩
  · refine ⟨((share (up State.reset)).setPar Par.GRP_ADDR 8), ?_⟩
    all_goals first | decide +kernel | rfl
  · refine ⟨({ (share (up State.reset)).setPar Par.SITE_FLOOR 40 with x11 := [], posts := [pst] }), pst, ?_, ?_, ?_, ?_, ?_, ?_, ?_, ?_⟩
    all_goals first | decide +kernel | rfl
  · refine ⟨({ share (up State.reset) with x11 := [⟨.own, ⟨0x10, [5, 0, 1, 0, 30, 0, 0, 0, 0, 0, 1, 1]⟩⟩], posts := [] }), ({ ({ share (up State.reset) with x11 := [⟨.own, ⟨0x10, [5, 0, 1, 0, 30, 0, 0, 0, 0, 0, 1, 1]⟩⟩], posts := [] }) with x11 := [] }),
      (⟨.own, ⟨0x10, [5, 0, 1, 0, 30, 0, 0, 0, 0, 0, 1, 1]⟩⟩), ?_, ?_, ?_, ?_, ?_⟩
    all_goals first | decide +kernel | rfl
  · refine ⟨({ (share (up State.reset)).setPar Par.GRP_ADDR 8 with x11 := [⟨.own, ⟨0x10, [5, 0, 1, 0, 30, 0, 0, 0, 0, 0, 1, 1]⟩⟩], posts := [] }), ({ ({ (share (up State.reset)).setPar Par.GRP_ADDR 8 with x11 := [⟨.own, ⟨0x10, [5, 0, 1, 0, 30, 0, 0, 0, 0, 0, 1, 1]⟩⟩], posts := [] }) with x11 := [] }),
      (⟨.own, ⟨0x10, [5, 0, 1, 0, 30, 0, 0, 0, 0, 0, 1, 1]⟩⟩), ?_, ?_⟩
    all_goals first | decide +kernel | rfl
  · refine ⟨({ share (up State.reset) with x11 := [⟨.own, ⟨0x12, [5, 0, 1, 0]⟩⟩], posts := [pst] }), ({ ({ share (up State.reset) with x11 := [⟨.own, ⟨0x12, [5, 0, 1, 0]⟩⟩], posts := [pst] }) with x11 := [] }),
      (⟨.own, ⟨0x12, [5, 0, 1, 0]⟩⟩), pst, ?_, ?_, ?_, ?_⟩
    all_goals first | decide +kernel | rfl
  · refine ⟨({ up State.reset with posts := [{ pst with age := 10 }] }), ({ pst with age := 10 }), ?_, ?_⟩
    all_goals first | decide +kernel | rfl
  · refine ⟨({ up State.reset with posts := [{ pst with age := 9 }] }), ({ pst with age := 9 }), ?_, ?_⟩
    all_goals first | decide +kernel | rfl
  · refine ⟨({ share (up State.reset) with x11 := [⟨.own, ⟨0x13, [8, 0, 1, 0, 0, 1, 0]⟩⟩] }), ({ ({ share (up State.reset) with x11 := [⟨.own, ⟨0x13, [8, 0, 1, 0, 0, 1, 0]⟩⟩] }) with x11 := [] }),
      (⟨.own, ⟨0x13, [8, 0, 1, 0, 0, 1, 0]⟩⟩), ?_, ?_⟩
    all_goals first | decide +kernel | rfl
  · refine ⟨({ (share (up State.reset)).put Fd.SYS_BOOT_STATE 1 with x11 := [⟨.own, ⟨0x13, [7, 0, 18, 42, 0, 4, 5, 0, 0, 0]⟩⟩] }), ({ ({ (share (up State.reset)).put Fd.SYS_BOOT_STATE 1 with x11 := [⟨.own, ⟨0x13, [7, 0, 18, 42, 0, 4, 5, 0, 0, 0]⟩⟩] }) with x11 := [] }),
      ((paramWrite true 2 18042 4 5 ({ ({ (share (up State.reset)).put Fd.SYS_BOOT_STATE 1 with x11 := [⟨.own, ⟨0x13, [7, 0, 18, 42, 0, 4, 5, 0, 0, 0]⟩⟩] }) with x11 := [] })).2),
      (⟨.own, ⟨0x13, [7, 0, 18, 42, 0, 4, 5, 0, 0, 0]⟩⟩), ?_, ?_, ?_, ?_, ?_, ?_, ?_, ?_⟩
    all_goals first | decide +kernel | rfl
  · refine ⟨({ (share (up State.reset)).setPar Par.SITE_MASTER 6 with x11 := [⟨.own, ⟨0x13, [7, 0, 22, 6, 0, 1, 2]⟩⟩] }), ({ ({ (share (up State.reset)).setPar Par.SITE_MASTER 6 with x11 := [⟨.own, ⟨0x13, [7, 0, 22, 6, 0, 1, 2]⟩⟩] }) with x11 := [] }),
      (⟨.own, ⟨0x13, [7, 0, 22, 6, 0, 1, 2]⟩⟩), ?_, ?_, ?_, ?_⟩
    all_goals first | decide +kernel | rfl
  · refine ⟨({ share (up State.reset) with q := setNth State.reset.q 4 [.plain ([1, 3, 9, 0, 7, 0, 0, 0, 10, 0] ++ [0x11, 8, 7, 0, 1, 0, 5, 0, 0, 0])] }), ({ ({ share (up State.reset) with q := setNth State.reset.q 4 [.plain ([1, 3, 9, 0, 7, 0, 0, 0, 10, 0] ++ [0x11, 8, 7, 0, 1, 0, 5, 0, 0, 0])] }) with q := setNth ({ share (up State.reset) with q := setNth State.reset.q 4 [.plain ([1, 3, 9, 0, 7, 0, 0, 0, 10, 0] ++ [0x11, 8, 7, 0, 1, 0, 5, 0, 0, 0])] }).q 4 [] }),
      ([1, 3, 9, 0, 7, 0, 0, 0, 10, 0] ++ [0x11, 8, 7, 0, 1, 0, 5, 0, 0, 0]), ⟨0x11, [7, 0, 1, 0, 5, 0, 0, 0]⟩, ?_, ?_, ?_, ?_⟩
    all_goals first | decide +kernel | rfl

end Sys2Proof.Tests.Bus

namespace Sys2Proof.Tests.Dlms

def slot (n type use : Nat) (x : State) : State := ((((x.put (Fd.KEY_SLOT_STATE n) 1).put (Fd.KEY_SLOT_TYPE n) type).put (Fd.KEY_SLOT_USAGE n) use).put
    (Fd.KEY_SLOTX_PROOT n) 1)
def asc (c : Nat) : DlmAssoc := ⟨7, c, false, [1], [2], none⟩
def keys (c : Nat) (x : State) : State := slot 20 4 1 (slot 21 1 0x30 (slot 22 6 2 (((((((((x.put Fd.KEY_STAT_READY 1).put Fd.KEY_STAT_ROOTFAIL 0).setPar
    Par.DLM_SUITE 1).setPar Par.SRV_KEY 20).setPar (Par.CLI_EK (c - 1)) 21).setPar (Par.CLI_AK (c - 1)) 21).setPar (Par.CLI_PUB (c - 1)) 22).setRegN
    (Reg.DLM_ICNT (c - 1)) 4).setRegN Reg.DLM_TXIC 9)))
def may (c : Nat) (x : State) : State := { keys c x with dlm := ⟨[asc c], none⟩ }
def stg (y : Tariff) (x : State) : State := { x with dlm := { x.dlm with stage := some (7, y) } }
def tOk : Tariff := { tariffBlank with seasons := ⟨1, 1, 1, 0⟩ :: List.replicate 7 ⟨0, 0, 0, 0⟩, days := (⟨0, 1, 0⟩ :: List.replicate 15 ⟨0, 0, 0⟩) :: List.replicate 31 (List.replicate 16 ⟨0, 0, 0⟩) }
def rq : DlmReq := ⟨7, 5, true⟩
def clk (v time hws lim back : Nat) (x : State) : State := (((((x.put Fd.BTM_STAT_VALID v).setRegN Reg.BTM_TIME time).setRegN Reg.BTM_HWS hws).setPar
    Par.ADJ_LIM lim).setPar Par.BACK_MAX back)
def cont (x : State) : State := ((x.setPar (Par.SO_FUNC 0) 1).put Fd.SAF_OUT_SO 1)

theorem witness_DlmsAssociations_1 :
    (∃ (s : State), s.parB Par.DLM_PUBLIC = true ∧ s.dlm.assocs = [] ∧ s.dlm.stage = none ∧ 0 < s.parN Par.DLM_MAXASSOC) ∧
    (∃ (s : State), dlmKeys s 1 = true ∧ s.dlm.assocs = [] ∧ s.dlm.stage = none ∧ 0 < s.parN Par.DLM_MAXASSOC ∧ s.regN (Reg.DLM_ICNT 1) ≠ 0xFFFFFFFF ∧ s.regN
      Reg.DLM_TXIC + 1 < 0xFFFFFFFF) ∧
    (∃ (wPort : Nat), dlmClient wPort = none) ∧
    (∃ (s : State) (r : DlmReq) (x : DlmAssoc) (sig : List Byte) (ok : Bool), s.dlm.assocs = [x] ∧ s.dlm.stage = none ∧ x.id = r.assoc ∧ 1 ≤ x.client ∧ x.client ≤ 3
      ∧ x.waits = true ∧ dlmKeys s (x.client - 1) = true ∧ r.tag = true ∧ s.regN (Reg.DLM_ICNT (x.client - 1)) < r.ic ∧ r.ic < 0xFFFFFFFF ∧ s.regN Reg.DLM_TXIC
      + 1 < 0xFFFFFFFF ∧ Config.verifies (publicKey s (s.parN (Par.CLI_PUB (x.client - 1)))) x.challenge sig = ok) ∧
    (∃ (s : State) (x : DlmAssoc), s.dlm.assocs = [x] ∧ x.waits = true ∧ s.dlm.stage = none) ∧
    (∃ (s : State) (x : DlmAssoc), s.dlm.assocs = [x] ∧ x.waits = false) ∧
    (∃ (s : State) (x : DlmAssoc), s.dlm.assocs = [x] ∧ s.dlm.stage = none) ∧
    (∃ (s : State) (x : DlmAssoc) (y : Tariff), s.dlm.assocs = [x] ∧ s.dlm.stage = some (x.id, y)) ∧
    (∃ (s : State) (st : Nat × Tariff), s.dlm.stage = some st) ∧
    (∃ (s : State), s.dlm.stage = none) ∧
    (∃ (s : State) (r : DlmReq) (x : DlmAssoc), s.dlm.assocs = [x] ∧ x.id = r.assoc ∧ x.client = 0 ∧ x.waits = false) ∧
    (∃ (s : State) (r : DlmReq) (x : DlmAssoc), DlmMay r x s) := by
  refine ⟨?_, ?_, ?_, ?_, ?_, ?_, ?_, ?_, ?_, ?_, ?_, ?_⟩
  · refine ⟨({ ((up State.reset).setPar Par.DLM_PUBLIC 1).setPar Par.DLM_MAXASSOC 4 with dlm := ⟨[], none⟩ }), ?_, ?_, ?_, ?_⟩
    all_goals first | decide +kernel | rfl
  · refine ⟨({ (keys 2 (up State.reset)).setPar Par.DLM_MAXASSOC 4 with dlm := ⟨[], none⟩ }), ?_, ?_, ?_, ?_, ?_, ?_⟩
    all_goals first | decide +kernel | rfl
  · refine ⟨0x40, ?_⟩
    all_goals first | decide +kernel | rfl
  · refine ⟨({ keys 2 (up State.reset) with dlm := ⟨[{ asc 2 with waits := true }], none⟩ }), rq, ({ asc 2 with waits := true }), [3], (Config.verifies (publicKey
      ({ keys 2 (up State.reset) with dlm := ⟨[{ asc 2 with waits := true }], none⟩ }) (({ keys 2 (up State.reset) with dlm := ⟨[{ asc 2 with waits := true }], none⟩ }).parN
      (Par.CLI_PUB (({ asc 2 with waits := true }).client - 1)))) ({ asc 2 with waits := true }).challenge [3]), ?_, ?_, ?_, ?_, ?_, ?_, ?_, ?_, ?_, ?_, ?_, ?_⟩
    all_goals first | decide +kernel | rfl
  · refine ⟨({ up State.reset with dlm := ⟨[{ asc 2 with waits := true }], none⟩ }), ({ asc 2 with waits := true }), ?_, ?_, ?_⟩
    all_goals first | decide +kernel | rfl
  · refine ⟨({ up State.reset with dlm := ⟨[asc 2], none⟩ }), (asc 2), ?_, ?_⟩
    all_goals first | decide +kernel | rfl
  · refine ⟨({ up State.reset with dlm := ⟨[asc 2], none⟩ }), (asc 2), ?_, ?_⟩
    all_goals first | decide +kernel | rfl
  · refine ⟨({ up State.reset with dlm := ⟨[asc 2], some (7, tariffBlank)⟩ }), (asc 2), tariffBlank, ?_, ?_⟩
    all_goals first | decide +kernel | rfl
  · refine ⟨({ up State.reset with dlm := ⟨[asc 2], some (7, tariffBlank)⟩ }), ((7, tariffBlank)), ?_⟩
    all_goals first | decide +kernel | rfl
  · refine ⟨({ up State.reset with dlm := ⟨[], none⟩ }), ?_⟩
    all_goals first | decide +kernel | rfl
  · refine ⟨({ up State.reset with dlm := ⟨[asc 0], none⟩ }), rq, (asc 0), ?_, ?_, ?_, ?_⟩
    all_goals first | decide +kernel | rfl
  · refine ⟨(may 3 (up State.reset)), rq, (asc 3), ?_⟩
    all_goals first | decide +kernel | rfl

theorem witness_DlmsAssociations_13 :
    (∃ (s : State) (r : DlmReq) (x : DlmAssoc), s.dlm.assocs = [x] ∧ x.id = r.assoc ∧ 1 ≤ x.client ∧ dlmKeys s (x.client - 1) = true ∧ r.tag = true ∧ r.ic ≤ s.regN
      (Reg.DLM_ICNT (x.client - 1))) ∧
    (∃ (s : State) (r : DlmReq) (x : DlmAssoc), s.dlm.assocs = [x] ∧ s.dlm.stage = none ∧ x.id = r.assoc ∧ 1 ≤ x.client ∧ r.tag = false) := by
  refine ⟨?_, ?_⟩
  · refine ⟨(may 3 (up State.reset)), ⟨7, 4, true⟩, (asc 3), ?_, ?_, ?_, ?_, ?_, ?_⟩
    all_goals first | decide +kernel | rfl
  · refine ⟨(may 3 (up State.reset)), ⟨7, 4, false⟩, (asc 3), ?_, ?_, ?_, ?_, ?_⟩
    all_goals first | decide +kernel | rfl

theorem witness_DlmsRequests_1 :
    (∃ (s : State) (r : DlmReq) (x : DlmAssoc), DlmMay r x s ∧ x.client = 1) ∧
    (∃ (s : State) (r : DlmReq) (x : DlmAssoc) (newMs frac : Nat), DlmMay r x s ∧ 2 ≤ x.client ∧ s.pfw = false ∧ s.on Fd.BTM_STAT_VALID = true ∧ ((newMs : Int) -
      (s.regN Reg.BTM_TIME * 1000 + frac : Nat)).natAbs ≤ s.parN Par.ADJ_LIM * 1000) ∧
    (∃ (s : State) (r : DlmReq) (x : DlmAssoc) (newMs frac : Nat), DlmMay r x s ∧ x.client = 2 ∧ s.pfw = false ∧ s.on Fd.BTM_STAT_VALID = true ∧ s.parN Par.ADJ_LIM
      * 1000 < ((newMs : Int) - (s.regN Reg.BTM_TIME * 1000 + frac : Nat)).natAbs ∧ newMs / 1000 < s.regN Reg.BTM_TIME + 1 ∧ newMs / 1000 + s.parN Par.BACK_MAX
      < s.regN Reg.BTM_HWS) ∧
    (∃ (s : State) (r : DlmReq) (x : DlmAssoc) (seconds : Int), DlmMay r x s ∧ 2 ≤ x.client ∧ s.pfw = false ∧ s.on Fd.BTM_STAT_VALID = true ∧ (seconds *
      1000).natAbs ≤ s.parN Par.ADJ_LIM * 1000) ∧
    (∃ (s : State) (r : DlmReq) (x : DlmAssoc), DlmMay r x s ∧ 2 ≤ x.client) ∧
    (∃ (s : State) (r : DlmReq) (x : DlmAssoc) (number : Nat), DlmMay r x s ∧ 2 ≤ x.client ∧ s.regN Reg.BIL_TOPUP < number ∧ number < 2 ^ 32) ∧
    (∃ (s : State) (r : DlmReq) (x : DlmAssoc) (number : Nat), DlmMay r x s ∧ 2 ≤ x.client ∧ number ≤ s.regN Reg.BIL_TOPUP) ∧
    (∃ (s : State) (r : DlmReq) (x : DlmAssoc) (l : List (Nat × List Nat)), DlmMay r x s ∧ 2 ≤ x.client ∧ s.dlm.stage = none ∧ s.bil.active = none ∧ calOk (.weeks
      l) = true) ∧
    (∃ (s : State) (r : DlmReq) (x : DlmAssoc) (a : Nat) (y : Tariff), DlmMay r x s ∧ 2 ≤ x.client ∧ s.dlm.stage = some (a, y) ∧ a ≠ x.id) ∧
    (∃ (s : State) (r : DlmReq) (x : DlmAssoc) (y : Tariff), DlmMay r x s ∧ 2 ≤ x.client ∧ s.dlm.stage = some (x.id, y) ∧ tariffOk { y with activation := 0 } =
      false) ∧
    (∃ (s : State) (r : DlmReq) (x : DlmAssoc) (y : Tariff), DlmMay r x s ∧ 2 ≤ x.client ∧ s.dlm.stage = some (x.id, y) ∧ tariffOk { y with activation := 0 } =
      true) ∧
    (∃ (s : State) (r : DlmReq) (x : DlmAssoc) (y : Tariff) (i : Nat), DlmMay r x s ∧ 2 ≤ x.client ∧ s.dlm.stage = some (x.id, y) ∧ i < 128) := by
  refine ⟨?_, ?_, ?_, ?_, ?_, ?_, ?_, ?_, ?_, ?_, ?_, ?_⟩
  · refine ⟨(may 1 (up State.reset)), rq, (asc 1), ?_, ?_⟩
    all_goals first | decide +kernel | rfl
  · refine ⟨(clk 1 1000 900 9 60 (may 2 (up State.reset))), rq, (asc 2), 1009000, 0, ?_, ?_, ?_, ?_, ?_⟩
    all_goals first | decide +kernel | rfl
  · refine ⟨(clk 1 1000 990 9 60 (may 2 (up State.reset))), rq, (asc 2), 929000, 0, ?_, ?_, ?_, ?_, ?_, ?_, ?_⟩
    all_goals first | decide +kernel | rfl
  · refine ⟨(clk 1 1000 900 9 60 (may 3 (up State.reset))), rq, (asc 3), (-9), ?_, ?_, ?_, ?_, ?_⟩
    all_goals first | decide +kernel | rfl
  · refine ⟨(may 2 (up State.reset)), rq, (asc 2), ?_, ?_⟩
    all_goals first | decide +kernel | rfl
  · refine ⟨((may 3 (up State.reset)).setRegN Reg.BIL_TOPUP 8), rq, (asc 3), 9, ?_, ?_, ?_, ?_⟩
    all_goals first | decide +kernel | rfl
  · refine ⟨((may 3 (up State.reset)).setRegN Reg.BIL_TOPUP 8), rq, (asc 3), 8, ?_, ?_, ?_⟩
    all_goals first | decide +kernel | rfl
  · refine ⟨({ may 3 (up State.reset) with bil := { State.reset.bil with active := none } }), rq, (asc 3), ([(7, [0, 1, 2, 3, 4, 5, 31])]), ?_, ?_, ?_, ?_, ?_⟩
    all_goals first | decide +kernel | rfl
  · refine ⟨({ may 3 (up State.reset) with dlm := ⟨[asc 3], some (8, tariffBlank)⟩ }), rq, (asc 3), 8, tariffBlank, ?_, ?_, ?_, ?_⟩
    all_goals first | decide +kernel | rfl
  · refine ⟨(stg tariffBlank (may 3 (up State.reset))), rq, (asc 3), tariffBlank, ?_, ?_, ?_, ?_⟩
    all_goals first | decide +kernel | rfl
  · refine ⟨(stg tOk (may 3 (up State.reset))), rq, (asc 3), tOk, ?_, ?_, ?_, ?_⟩
    all_goals first | decide +kernel | rfl
  · refine ⟨(stg tariffBlank (may 3 (up State.reset))), rq, (asc 3), tariffBlank, 127, ?_, ?_, ?_, ?_⟩
    all_goals first | decide +kernel | rfl

theorem witness_DlmsRequests_13 :
    (∃ (s : State) (r : DlmReq) (x : DlmAssoc) (y : Tariff) (i : Nat), DlmMay r x s ∧ 2 ≤ x.client ∧ s.dlm.stage = some (x.id, y) ∧ i < 128 ∧ y.specials.length =
      128) ∧
    (∃ (s : State) (r : DlmReq) (x : DlmAssoc), DlmMay r x s ∧ 2 ≤ x.client ∧ s.get Fd.SES_STAT_STATE < 4 ∧ s.get Fd.BIL_DISC_STATE = 1 ∧ contactorOn s = true) ∧
    (∃ (s : State) (r : DlmReq) (x : DlmAssoc), DlmMay r x s ∧ 2 ≤ x.client ∧ s.get Fd.BIL_DISC_STATE = 0 ∧ s.get Fd.BIL_DISC_REQ = 2 ∧ s.parN Par.DISC_MODE ≠ 1) := by
  refine ⟨?_, ?_, ?_⟩
  · refine ⟨(stg { tariffBlank with specials := List.replicate 128 ⟨1, 2, 3, 4, 5⟩ } (may 3 (up State.reset))), rq, (asc 3), ({ tariffBlank with specials := List.replicate 128 ⟨1, 2, 3, 4, 5⟩ }),
      127, ?_, ?_, ?_, ?_, ?_⟩
    all_goals first | decide +kernel | rfl
  · refine ⟨(cont ((may 2 (up State.reset)).put Fd.BIL_DISC_STATE 1)), rq, (asc 2), ?_, ?_, ?_, ?_, ?_⟩
    all_goals first | decide +kernel | rfl
  · refine ⟨((((may 2 (up State.reset)).put Fd.BIL_DISC_STATE 0).put Fd.BIL_DISC_REQ 2).setPar Par.DISC_MODE 0), rq, (asc 2), ?_, ?_, ?_, ?_, ?_⟩
    all_goals first | decide +kernel | rfl

end Sys2Proof.Tests.Dlms

namespace Sys2Proof.Tests.Service

def tag (n : Nat) (x : State) : State := { x.put Fd.NFC_TAGSTAT_STATE n with btm := { x.btm with outage := none } }
def rdr (x : State) : State := { (x.setPar Par.RDR_EN 1).put Fd.NFC_TAGSTAT_STATE 1 with btm := { x.btm with outage := none }, nfc := { x.nfc with card := none, recent := [] } }
def nfc (f : NfcState → NfcState) (x : State) : State := { x with nfc := f x.nfc }
def orec : OutageRec := ⟨100, 200, 3, 4, 5, 6, false, 7⟩
def gone (x : State) : State := { x with btm := { x.btm with outage := some orec } }
def msg (type : Nat) (body : List Byte) : List Byte := Bits.leBytes 1 type ++ [0, 9, 0] ++ Bits.leBytes 2 body.length ++ [0, 0] ++ body
def ask (home : Nat) (m : List Byte) (x : State) : State := { x with q := setNth (List.replicate 32 []) home [mailFrame .spi m], mail := { x.mail with credits := [] } }
def wb : Waybill := ⟨1, 77, 0, 10, 20, 1, 0, 5, 1, [1, 2, 3], 1, 20, 1, [9, 9]⟩
def m1 : List Byte := msg 1 ([1, 0, 0, 0] ++ Bits.leBytes 4 77)
def m2 : List Byte := msg 2 [3, 1, 0, 0, 0, 0, 0, 0]
def m3 : List Byte := msg 3 [2, 0, 0, 0, 1, 0, 0, 0]
def m4 : List Byte := msg 4 [1, 0, 0, 0, 0, 0, 0, 0]
def m5 : List Byte := msg 5 [2, 0, 0, 0, 7, 7]
def m6 : List Byte := msg 6 ([1, 0, 0, 0, 0, 255, 15, 0] ++ List.replicate 256 0xA5)
def m7 (op : Byte) : List Byte := msg 7 [op, 0, 0, 0, 1, 2]
def m8 : List Byte := msg 8 [1]
def m9 : List Byte := msg 9 ([9, 0, 0, 0] ++ List.replicate 8 0xFF)

theorem witness_CardReader :
    (∃ (s : State), s.held .service = false ∧ readerOn s = true ∧ s.parB Par.TAG_EN = false) ∧
    (∃ (s : State), s.held .service = false ∧ readerOn s = true) ∧
    (∃ (s : State) (uid : List Byte), s.held .service = false ∧ readerOn s = true ∧ uidRandom uid = true ∧ s.nfc.recent = [] ∧ (queue s 28).length < 8) ∧
    (∃ (s : State) (uid : List Byte), s.held .service = false ∧ readerOn s = true ∧ uidRandom uid = false ∧ s.nfc.recent = [] ∧ sesSt s = 0 ∧ (queue s 28).length <
      8) ∧
    (∃ (s : State) (uid : List Byte), s.held .service = false ∧ readerOn s = true ∧ s.nfc.recent.any (fun l => l.contains uid) = true) ∧
    (∃ (s : State), s.held .service = false) ∧
    (∃ (s : State) (p : Path) (len : Nat), HostMay p 1 s ∧ s.held .service = false ∧ s.nfc.list.contains (listUid s len) = false ∧ s.nfc.list.length < 4096) ∧
    (∃ (s : State) (p : Path) (len : Nat), HostMay p 1 s ∧ s.held .service = false ∧ s.nfc.list.contains (listUid s len) = true) ∧
    (∃ (s : State) (p : Path), HostMay p 1 s ∧ s.held .service = false) ∧
    (∃ (s : State) (p : Path), HostMay p 1 s ∧ s.held .service = false) := by
  refine ⟨?_, ?_, ?_, ?_, ?_, ?_, ?_, ?_, ?_, ?_⟩
  · refine ⟨((rdr (up State.reset)).setPar Par.TAG_EN 0), ?_, ?_, ?_⟩
    all_goals first | decide +kernel | rfl
  · refine ⟨(rdr (up State.reset)), ?_, ?_⟩
    all_goals first | decide +kernel | rfl
  · refine ⟨(rdr (up State.reset)), [8, 1, 2, 3], ?_, ?_, ?_, ?_, ?_⟩
    all_goals first | decide +kernel | rfl
  · refine ⟨((rdr (up State.reset)).put Fd.SES_STAT_STATE 0), [9, 1, 2, 3], ?_, ?_, ?_, ?_, ?_, ?_⟩
    all_goals first | decide +kernel | rfl
  · refine ⟨(nfc (fun n => { n with recent := [[], [[9]]] }) (rdr (up State.reset))), [9], ?_, ?_, ?_⟩
    all_goals first | decide +kernel | rfl
  · refine ⟨(nfc (fun n => { n with card := some [1] }) (up State.reset)), ?_⟩
    all_goals first | decide +kernel | rfl
  · refine ⟨(nfc (fun n => { n with list := [] }) (up State.reset)), .spi, 7, ?_, ?_, ?_, ?_⟩
    all_goals first | decide +kernel | rfl
  · refine ⟨(nfc (fun n => { n with list := [[]] }) (up State.reset)), .spi, 0, ?_, ?_, ?_⟩
    all_goals first | decide +kernel | rfl
  · refine ⟨(nfc (fun n => { n with list := [[], [1]] }) (up State.reset)), .spi, ?_, ?_⟩
    all_goals first | decide +kernel | rfl
  · refine ⟨(nfc (fun n => { n with list := [[], [1]] }) (up State.reset)), .spi, ?_, ?_⟩
    all_goals first | decide +kernel | rfl

theorem witness_ServiceTag_1 :
    (∃ (s : State), s.held .service = false ∧ supplyAbsent s = false ∧ tagSt s ≠ 4) ∧
    (∃ (s : State), s.held .service = false ∧ supplyAbsent s = false ∧ tagSt s = 4) ∧
    (∃ (s : State), tagSt s = 1 ∧ s.nfc.deaf = false ∧ supplyAbsent s = false) ∧
    (∃ (s : State), tagSt s = 1 ∧ s.nfc.deaf = false ∧ supplyAbsent s = true ∧ s.parN Par.TAG_DAYMAX ≤ tagUsed s) ∧
    (∃ (s : State), supplyAbsent s = true ∧ tagSt s = 2) ∧
    (∃ (s : State), supplyAbsent s = true ∧ s.nfc.field = false) ∧
    (∃ (s : State), supplyAbsent s = false ∧ tagSt s = 2) ∧
    (∃ (s : State), supplyAbsent s = false ∧ tagSt s = 5) ∧
    (∃ (s : State), tagSt s = 3) ∧
    (∃ (s : State), tagSt s = 3) ∧
    (∃ (s : State), tagSt s = 4 ∧ s.nfc.queued = [] ∧ s.nfc.snapDue = false) ∧
    (∃ (s : State), tagSt s = 4) := by
  refine ⟨?_, ?_, ?_, ?_, ?_, ?_, ?_, ?_, ?_, ?_, ?_, ?_⟩
  · refine ⟨(tag 3 (up State.reset)), ?_, ?_, ?_⟩
    all_goals first | decide +kernel | rfl
  · refine ⟨(tag 4 (up State.reset)), ?_, ?_, ?_⟩
    all_goals first | decide +kernel | rfl
  · refine ⟨(nfc (fun n => { n with deaf := false }) (tag 1 (up State.reset))), ?_, ?_, ?_⟩
    all_goals first | decide +kernel | rfl
  · refine ⟨(nfc (fun n => { n with deaf := false, day := 0, used := 60 }) (gone ((tag 1 (up State.reset)).setPar Par.TAG_DAYMAX 60) |>.setRegN Reg.BTM_TIME 0)),
      ?_, ?_, ?_, ?_⟩
    all_goals first | decide +kernel | rfl
  · refine ⟨(gone (tag 2 (up State.reset))), ?_, ?_⟩
    all_goals first | decide +kernel | rfl
  · refine ⟨(nfc (fun n => { n with field := false }) (gone (tag 2 (up State.reset)))), ?_, ?_⟩
    all_goals first | decide +kernel | rfl
  · refine ⟨(tag 2 (up State.reset)), ?_, ?_⟩
    all_goals first | decide +kernel | rfl
  · refine ⟨(tag 5 (up State.reset)), ?_, ?_⟩
    all_goals first | decide +kernel | rfl
  · refine ⟨(tag 3 (up State.reset)), ?_⟩
    all_goals first | decide +kernel | rfl
  · refine ⟨(tag 3 (up State.reset)), ?_⟩
    all_goals first | decide +kernel | rfl
  · refine ⟨(nfc (fun n => { n with queued := [], snapDue := false }) (tag 4 (up State.reset))), ?_, ?_, ?_⟩
    all_goals first | decide +kernel | rfl
  · refine ⟨(tag 4 (up State.reset)), ?_⟩
    all_goals first | decide +kernel | rfl

theorem witness_ServiceTag_13 :
    (∃ (s : State), tagSt s = 4 ∧ s.nfc.selected = false) ∧
    (∃ (s : State) (off le : Nat), tagSt s = 4 ∧ s.nfc.selected = true ∧ 1 ≤ le ∧ le ≤ 224 ∧ off + le ≤ 0x2000) ∧
    (∃ (s : State) (off le : Nat), tagSt s = 4 ∧ s.nfc.selected = true ∧ 1 ≤ le ∧ le ≤ 224 ∧ 0x2000 < off + le) ∧
    (∃ (s : State) (off : Nat) (data : List Byte) (gen : Nat), tagSt s = 4 ∧ s.nfc.selected = true ∧ 0x1C00 ≤ off ∧ off < 0x2000 ∧ off % 32 = 0 ∧ data.length = 32 ∧
      s.parB Par.TAG_WRITE_EN = true ∧ supplyAbsent s = false ∧ s.nfc.notes.length = 32 ∧ (notePage s ((off - 0x1C00) / 32)).1.gen < 256 ∧ (notePut ((off -
      0x1C00) / 32) data s).1 = gen) ∧
    (∃ (s : State) (off : Nat) (data : List Byte), tagSt s = 4 ∧ s.nfc.selected = true ∧ 0x1C00 ≤ off ∧ off < 0x2000 ∧ off % 32 = 0 ∧ data.length ≠ 32) ∧
    (∃ (s : State), tagSt s = 4 ∧ s.nfc.selected = true ∧ supplyAbsent s = false ∧ s.nfc.queued = [] ∧ s.on Fd.BTM_STAT_BATLOW = true ∧ s.on Fd.NFC_TAGSTAT_ALM =
      false) ∧
    (∃ (s : State), tagSt s = 4 ∧ s.nfc.selected = true) ∧
    (∃ (s : State), supplyAbsent s = true ∧ tagSt s = 2) ∧
    (∃ (s : State), tagSt s = 1 ∧ s.nfc.field = true) ∧
    (∃ (s : State) (p : Path), HostMay p 1 s ∧ s.held .service = false ∧ tagSt s = 4 ∧ s.nfc.queued.length < 4) ∧
    (∃ (s : State) (p : Path) (page : Nat), HostMay p 1 s ∧ s.held .service = false ∧ tagSt s ≠ 4 ∧ s.nfc.notes.length = 32 ∧ (notePage s (page % 32)).1.gen < 256) := by
  refine ⟨?_, ?_, ?_, ?_, ?_, ?_, ?_, ?_, ?_, ?_, ?_⟩
  · refine ⟨(nfc (fun n => { n with selected := false }) (tag 4 (up State.reset))), ?_, ?_⟩
    all_goals first | decide +kernel | rfl
  · refine ⟨(nfc (fun n => { n with selected := true }) (tag 4 (up State.reset))), 0x1FFF, 1, ?_, ?_, ?_, ?_, ?_⟩
    all_goals first | decide +kernel | rfl
  · refine ⟨(nfc (fun n => { n with selected := true }) (tag 4 (up State.reset))), 0x1FFF, 2, ?_, ?_, ?_, ?_, ?_⟩
    all_goals first | decide +kernel | rfl
  · refine ⟨((nfc (fun n => { n with selected := true }) (tag 4 (up State.reset))).setPar Par.TAG_WRITE_EN 1), 0x1FE0, (List.replicate 32 7), ((notePut ((0x1FE0 -
      0x1C00) / 32) (List.replicate 32 7) ((nfc (fun n => { n with selected := true }) (tag 4 (up State.reset))).setPar Par.TAG_WRITE_EN 1)).1), ?_, ?_, ?_, ?_,
      ?_, ?_, ?_, ?_, ?_, ?_, ?_⟩
    all_goals first | decide +kernel | rfl
  · refine ⟨((nfc (fun n => { n with selected := true }) (tag 4 (up State.reset))).setPar Par.TAG_WRITE_EN 1), 0x1FE0, (List.replicate 31 7), ?_, ?_, ?_, ?_, ?_,
      ?_⟩
    all_goals first | decide +kernel | rfl
  · refine ⟨(((nfc (fun n => { n with selected := true, queued := [] }) (tag 4 (up State.reset))).put Fd.BTM_STAT_BATLOW 1).put Fd.NFC_TAGSTAT_ALM 0), ?_, ?_, ?_,
      ?_, ?_, ?_⟩
    all_goals first | decide +kernel | rfl
  · refine ⟨(nfc (fun n => { n with selected := true }) (tag 4 (up State.reset))), ?_, ?_⟩
    all_goals first | decide +kernel | rfl
  · refine ⟨(gone (tag 2 (up State.reset))), ?_, ?_⟩
    all_goals first | decide +kernel | rfl
  · refine ⟨(nfc (fun n => { n with field := true, deaf := true }) (tag 1 (up State.reset))), ?_, ?_⟩
    all_goals first | decide +kernel | rfl
  · refine ⟨(nfc (fun n => { n with queued := [(1, []), (1, []), (1, [])] }) (tag 4 (up State.reset))), .spi, ?_, ?_, ?_, ?_⟩
    all_goals first | decide +kernel | rfl
  · refine ⟨(tag 1 (up State.reset)), .spi, 33, ?_, ?_, ?_, ?_, ?_⟩
    all_goals first | decide +kernel | rfl

theorem witness_Mailbox_1 :
    (∃ (s : State) (p : Path) (m : List Byte), pathOpen s p = true ∧ 8 ≤ m.length ∧ m.length ≤ 512 ∧ (queue s 31).length < 8 ∧ s.q.length = 32) ∧
    (∃ (s : State) (p : Path) (m : List Byte), pathOpen s p = true ∧ 8 ≤ m.length ∧ m.length ≤ 512 ∧ (queue s 30).length = 8) ∧
    (∃ (s : State), pathOpen s .spi = true) ∧
    (∃ (s : State) (p : Path) (m : List Byte) (fs : List Frame), pathOpen s p = true ∧ queue s 29 = mailFrame p m :: fs ∧ s.q.length = 32) ∧
    (∃ (s : State) (p : Path), pathOpen s p = true ∧ queue s 28 = []) ∧
    (∃ (s : State) (p : Path) (m : List Byte) (w : Waybill), MailAsks 1 31 0 p m s ∧ (mailBody m).length = 8 ∧ numAt (mailBody m) 1 3 = 0 ∧ numAt (mailBody m) 0 1 =
      1 ∧ s.bil.sessWb.find? (fun x => x.seq == numAt (mailBody m) 4 4) = some w) ∧
    (∃ (s : State) (p : Path) (m : List Byte) (e : LogEntry) (es : List LogEntry) (k : Nat), MailAsks 2 31 0 p m s ∧ (mailBody m).length = 8 ∧ numAt (mailBody m) 2
      2 = 0 ∧ numAt (mailBody m) 0 1 = k ∧ k < 5 ∧ numAt (mailBody m) 1 1 = 1 ∧ numAt (mailBody m) 4 4 = 0 ∧ (nth s.logs k ⟨[], 0⟩).entries = e :: es) ∧
    (∃ (s : State) (p : Path) (m : List Byte) (e : ProfEntry), MailAsks 3 31 0 p m s ∧ (mailBody m).length = 8 ∧ numAt (mailBody m) 1 3 = 0 ∧ numAt (mailBody m) 0 1
      = 2 ∧ s.bil.lp2[numAt (mailBody m) 4 4]? = some e) ∧
    (∃ (s : State) (p : Path) (m : List Byte), MailAsks 4 31 0 p m s ∧ (mailBody m).length = 8 ∧ numAt (mailBody m) 1 3 = 0 ∧ s.btm.outages = []) ∧
    (∃ (s : State) (p : Path) (m : List Byte) (o : OutageRec) (os : List OutageRec), MailAsks 4 31 0 p m s ∧ (mailBody m).length = 8 ∧ numAt (mailBody m) 1 3 = 0 ∧
      numAt (mailBody m) 0 1 = 1 ∧ numAt (mailBody m) 4 4 = 0 ∧ s.btm.outages = o :: os) ∧
    (∃ (s : State) (p : Path) (m : List Byte), MailAsks 5 31 1 p m s ∧ 4 ≤ (mailBody m).length ∧ (mailBody m).length ≤ 500 ∧ numAt (mailBody m) 2 1 = 0 ∧ numAt
      (mailBody m) 3 1 = 0 ∧ numAt (mailBody m) 0 2 = s.mail.table.length) ∧
    (∃ (s : State) (p : Path) (m : List Byte), MailAsks 5 31 0 p m s ∧ pathLevel s p = 0) := by
  refine ⟨?_, ?_, ?_, ?_, ?_, ?_, ?_, ?_, ?_, ?_, ?_, ?_⟩
  · refine ⟨({ up State.reset with q := List.replicate 32 [] }), .spi, (msg 1 []), ?_, ?_, ?_, ?_, ?_⟩
    all_goals first | decide +kernel | rfl
  · refine ⟨({ up State.reset with q := setNth (List.replicate 32 []) 30 (List.replicate 8 (.plain [])) }), .spi, (msg 1 []), ?_, ?_, ?_, ?_⟩
    all_goals first | decide +kernel | rfl
  · refine ⟨(up State.reset), ?_⟩
    all_goals first | decide +kernel | rfl
  · refine ⟨(ask 29 [4, 5] (up State.reset)), .spi, [4, 5], [], ?_, ?_, ?_⟩
    all_goals first | decide +kernel | rfl
  · refine ⟨({ up State.reset with q := List.replicate 32 [] }), .spi, ?_, ?_⟩
    all_goals first | decide +kernel | rfl
  · refine ⟨(let x := ask 31 m1 (up State.reset); { x with bil := { x.bil with sessWb := [wb] } }), .spi, m1, wb, ?_, ?_, ?_, ?_, ?_⟩
    all_goals first | decide +kernel | rfl
  · refine ⟨(let x := ask 31 m2 (up State.reset); { x with logs := setNth x.logs 3 ⟨[⟨1, 2, 3, 4, 5⟩], 1⟩ }), .spi, m2, ⟨1, 2, 3, 4, 5⟩, [], 3, ?_, ?_, ?_, ?_, ?_,
      ?_, ?_, ?_⟩
    all_goals first | decide +kernel | rfl
  · refine ⟨(let x := ask 31 m3 (up State.reset); { x with bil := { x.bil with lp2 := [⟨1, 2, [3]⟩, ⟨4, 5, [-6]⟩] } }), .spi, m3, ⟨4, 5, [-6]⟩, ?_, ?_, ?_, ?_, ?_⟩
    all_goals first | decide +kernel | rfl
  · refine ⟨(let x := ask 31 m4 (up State.reset); { x with btm := { x.btm with outages := [] } }), .spi, m4, ?_, ?_, ?_, ?_⟩
    all_goals first | decide +kernel | rfl
  · refine ⟨(let x := ask 31 m4 (up State.reset); { x with btm := { x.btm with outages := [orec] } }), .spi, m4, orec, [], ?_, ?_, ?_, ?_, ?_, ?_⟩
    all_goals first | decide +kernel | rfl
  · refine ⟨(let x := ask 31 m5 (up State.reset); { x with mail := { x.mail with table := [1, 2] } }), .spi, m5, ?_, ?_, ?_, ?_, ?_, ?_⟩
    all_goals first | decide +kernel | rfl
  · refine ⟨((ask 31 m5 (up State.reset)).put Fd.HIF_STAT_SPILVL 0), .spi, m5, ?_, ?_⟩
    all_goals first | decide +kernel | rfl

theorem witness_Mailbox_13 :
    (∃ (s : State) (p : Path) (m : List Byte) (n off base size : Nat), MailAsks 6 31 2 p m s ∧ (mailBody m).length = 264 ∧ numAt (mailBody m) 1 3 = 0 ∧ numAt
      (mailBody m) 0 1 = n ∧ n < 2 ∧ flashSlot n = some (base, size) ∧ numAt (mailBody m) 4 4 = off ∧ off % 256 = 0 ∧ off < size ∧ slotHeld s n = false) ∧
    (∃ (s : State) (p : Path) (m : List Byte), MailAsks 7 30 1 p m s ∧ numAt m 8 1 = 1 ∧ s.nfc.card = none ∧ readerOn s = true ∧ s.get Fd.NFC_LAST_LEN ≠ 0) ∧
    (∃ (s : State) (p : Path) (m r : List Byte), MailAsks 7 30 1 p m s ∧ numAt m 8 1 = 2 ∧ s.nfc.card.isSome = true ∧ r.length ≤ 504) ∧
    (∃ (s : State) (p : Path) (m : List Byte), MailAsks 7 30 1 p m s ∧ numAt m 8 1 = 3 ∧ s.nfc.card.isSome = true) ∧
    (∃ (s : State) (p : Path) (m : List Byte), MailAsks 8 30 1 p m s ∧ 1 ≤ (mailBody m).length ∧ (mailBody m).length ≤ 64) ∧
    (∃ (s : State) (p : Path) (m : List Byte), MailAsks 9 30 1 p m s ∧ (mailBody m).length = 12 ∧ s.regN Reg.BIL_TOPUP < numAt (mailBody m) 0 4) ∧
    (∃ (s : State) (p : Path) (m : List Byte), MailAsks 9 30 1 p m s ∧ (mailBody m).length = 12 ∧ numAt (mailBody m) 0 4 ≤ s.regN Reg.BIL_TOPUP) := by
  refine ⟨?_, ?_, ?_, ?_, ?_, ?_, ?_⟩
  · refine ⟨(let x := ask 31 m6 ((up State.reset).put Fd.SYS_BOOT_SRC 1); { x with boot := { x.boot with record := none, erased := [] } }), .spi, m6, 1, 0xFFF00,
      0x200000, 0x100000, ?_, ?_, ?_, ?_, ?_, ?_, ?_, ?_, ?_, ?_⟩
    all_goals first | decide +kernel | rfl
  · refine ⟨(rdr ((ask 30 (m7 1) (up State.reset)).put Fd.NFC_LAST_LEN 4)), .spi, (m7 1), ?_, ?_, ?_, ?_, ?_⟩
    all_goals first | decide +kernel | rfl
  · refine ⟨(nfc (fun n => { n with card := some [] }) (ask 30 (m7 2) (up State.reset))), .spi, (m7 2), [4], ?_, ?_, ?_, ?_⟩
    all_goals first | decide +kernel | rfl
  · refine ⟨(nfc (fun n => { n with card := some [] }) (ask 30 (m7 3) (up State.reset))), .spi, (m7 3), ?_, ?_, ?_⟩
    all_goals first | decide +kernel | rfl
  · refine ⟨(ask 30 m8 (up State.reset)), .spi, m8, ?_, ?_, ?_⟩
    all_goals first | decide +kernel | rfl
  · refine ⟨((ask 30 m9 (up State.reset)).setRegN Reg.BIL_TOPUP 8), .spi, m9, ?_, ?_, ?_⟩
    all_goals first | decide +kernel | rfl
  · refine ⟨((ask 30 m9 (up State.reset)).setRegN Reg.BIL_TOPUP 9), .spi, m9, ?_, ?_, ?_⟩
    all_goals first | decide +kernel | rfl

end Sys2Proof.Tests.Service

namespace Sys2Proof.Tests.Loads

def ls (f : LswState → LswState) (x : State) : State := { x with lsw := f x.lsw }
def quiet (x : State) : State := { x with lsw := { x.lsw with cmds := List.replicate 12 false, asks := [], lowOpen := [], turns := [], silent := false }, saf := { x.saf with lsBan := 0 } }
def nolimp (x : State) : State := (((x.put Fd.LSW_STAT_LIMP 0).put Fd.LSW_STAT_LIMPIN 0).put Fd.LSW_STAT_UV 0)
def ch (n st : Nat) (x : State) : State := x.setRegN (Reg.LSW_CH n) st
def cmd (n : Nat) (x : State) : State := { x with lsw := { x.lsw with cmds := setNth x.lsw.cmds n true } }
def lcd (f : LcdState → LcdState) (x : State) : State := { x with lcd := f x.lcd }

theorem witness_LoadSwitches_1 :
    (∃ (s : State) (p : Path) (n : Nat), HostMay p 1 s ∧ s.held .service = false ∧ n < 12 ∧ limp s = false ∧ lsSt s n = 0 ∧ s.lsw.cmds.length = 12 ∧
      s.saf.lsBan.testBit n = false ∧ s.on (Fd.LSW_CH_THLAT n) = false ∧ s.on Fd.LSW_STAT_UV = false ∧ s.lsw.lowOpen = [] ∧ s.lsw.turns = [] ∧ s.lsw.asks = [] ∧
      s.parN (Par.INRUSH_T n) = 0) ∧
    (∃ (s : State) (p : Path) (n : Nat), HostMay p 1 s ∧ s.held .service = false ∧ n < 12 ∧ limp s = false ∧ lsSt s n = 1 ∧ s.lsw.cmds.length = 12 ∧ s.lsw.turns =
      [] ∧ tokHolds s 2 n = false ∧ tokWaits s 2 n = false) ∧
    (∃ (s : State) (p : Path) (n : Nat), HostMay p 1 s ∧ s.held .service = false ∧ n < 12 ∧ limp s = true) ∧
    (∃ (s : State) (p : Path) (n : Nat), HostMay p 1 s ∧ s.held .service = false ∧ n < 12) ∧
    (∃ (s : State) (n : Nat), s.held .service = false ∧ n < 12 ∧ lsSt s n = 2 ∧ tokHolds s 2 n = true ∧ lsCmd s n = true ∧ s.parN (Par.INRUSH_T n) ≠ 0) ∧
    (∃ (s : State) (n : Nat), s.held .service = false ∧ n < 12 ∧ lsSt s n = 2 ∧ tokHolds s 2 n = false ∧ tokWaits s 2 n = false) ∧
    (∃ (s : State) (n : Nat), s.held .service = false ∧ n < 12 ∧ s.lsw.asks.contains n = true ∧ s.pfw = false ∧ lsCmd s n = true ∧ lsSt s n = 0 ∧ limp s = false ∧
      s.saf.lsBan.testBit n = false ∧ s.on (Fd.LSW_CH_THLAT n) = false ∧ s.on Fd.LSW_STAT_UV = false ∧ s.lsw.lowOpen = [] ∧ s.parN (Par.INRUSH_T n) ≠ 0 ∧ 1000 <
      s.parN (Par.INRUSH_I n) ∧ s.tok.deferred = [] ∧ tokFits s ⟨2, n, 0, s.parN (Par.INRUSH_I n), false⟩ = true) ∧
    (∃ (s : State) (n : Nat), s.held .service = false ∧ n < 12 ∧ s.on (Fd.LSW_CH_WINDOW n) = true ∧ s.lsw.turns = [] ∧ s.tok.deferred = []) ∧
    (∃ (s : State) (n : Nat), s.held .service = false ∧ n < 12 ∧ lsSt s n = 1 ∧ s.get (Fd.LSW_CH_RETRY n) ≠ s.parN (Par.RETRY_MAX n) ∧ s.lsw.turns = [] ∧ tokHolds s
      2 n = false ∧ tokWaits s 2 n = false) ∧
    (∃ (s : State) (n : Nat), s.held .service = false ∧ n < 12 ∧ lsSt s n = 1 ∧ s.get (Fd.LSW_CH_RETRY n) = s.parN (Par.RETRY_MAX n) ∧ s.lsw.turns = [] ∧ tokHolds s
      2 n = false ∧ tokWaits s 2 n = false) ∧
    (∃ (s : State) (n : Nat), s.held .service = false ∧ n < 12 ∧ lsSt s n = 1 ∧ s.lsw.turns = [] ∧ tokHolds s 2 n = false ∧ tokWaits s 2 n = false) ∧
    (∃ (s : State) (n : Nat), s.held .service = false ∧ n < 12) := by
  refine ⟨?_, ?_, ?_, ?_, ?_, ?_, ?_, ?_, ?_, ?_, ?_, ?_⟩
  · refine ⟨((ch 11 0 (nolimp (quiet (up State.reset)))).setPar (Par.INRUSH_T 11) 0), .spi, 11, ?_, ?_, ?_, ?_, ?_, ?_, ?_, ?_, ?_, ?_, ?_, ?_, ?_⟩
    all_goals first | decide +kernel | rfl
  · refine ⟨(cmd 11 (ch 11 1 (nolimp (quiet (up State.reset))))), .spi, 11, ?_, ?_, ?_, ?_, ?_, ?_, ?_, ?_, ?_⟩
    all_goals first | decide +kernel | rfl
  · refine ⟨((quiet (up State.reset)).put Fd.LSW_STAT_LIMP 1), .spi, 11, ?_, ?_, ?_, ?_⟩
    all_goals first | decide +kernel | rfl
  · refine ⟨(ch 11 0xF45 (up State.reset)), .spi, 11, ?_, ?_, ?_⟩
    all_goals first | decide +kernel | rfl
  · refine ⟨({ (cmd 11 (ch 11 2 (nolimp (quiet (up State.reset))))).setPar (Par.INRUSH_T 11) 5 with tok := ⟨[⟨2, 11, 0, 900, false⟩], []⟩ }), 11, ?_, ?_, ?_, ?_,
      ?_, ?_⟩
    all_goals first | decide +kernel | rfl
  · refine ⟨(ch 11 2 (nolimp (quiet (up State.reset)))), 11, ?_, ?_, ?_, ?_, ?_⟩
    all_goals first | decide +kernel | rfl
  · refine ⟨(ls (fun l => { l with asks := [11] }) ((((((cmd 11 (ch 11 0 (nolimp (quiet (up State.reset))))).setPar (Par.INRUSH_T 11) 5).setPar (Par.INRUSH_I 11)
      1001).setPar Par.VSYS_HEAD 0).put Fd.TOK_BUDGET_INRUSHMA 5000).put Fd.TOK_BUDGET_LOGICMW 65535)), 11, ?_, ?_, ?_, ?_, ?_, ?_, ?_, ?_, ?_, ?_, ?_, ?_, ?_,
      ?_, ?_⟩
    all_goals first | decide +kernel | rfl
  · refine ⟨({ (ch 11 9 (nolimp (quiet (up State.reset)))) with tok := ⟨[⟨2, 11, 0, 900, false⟩], []⟩ }), 11, ?_, ?_, ?_, ?_, ?_⟩
    all_goals first | decide +kernel | rfl
  · refine ⟨((ch 11 1 (nolimp (quiet (up State.reset)))).setPar (Par.RETRY_MAX 11) 3), 11, ?_, ?_, ?_, ?_, ?_, ?_, ?_⟩
    all_goals first | decide +kernel | rfl
  · refine ⟨((ch 11 0x301 (nolimp (quiet (up State.reset)))).setPar (Par.RETRY_MAX 11) 3), 11, ?_, ?_, ?_, ?_, ?_, ?_, ?_⟩
    all_goals first | decide +kernel | rfl
  · refine ⟨(ch 11 1 (nolimp (quiet (up State.reset)))), 11, ?_, ?_, ?_, ?_, ?_, ?_⟩
    all_goals first | decide +kernel | rfl
  · refine ⟨(ch 11 0x83 (up State.reset)), 11, ?_, ?_⟩
    all_goals first | decide +kernel | rfl

theorem witness_LoadSwitches_13 :
    (∃ (s : State) (n : Nat), s.held .service = false ∧ n < 12 ∧ lsSt s n = 3 ∧ lsCmd s n = true ∧ s.on (Fd.LSW_CH_THLAT n) = false ∧ s.lsw.lowOpen = [] ∧
      s.saf.lsBan.testBit n = false ∧ s.on Fd.LSW_STAT_UV = false ∧ s.parN (Par.INRUSH_T n) = 0) ∧
    (∃ (s : State) (n : Nat), s.held .service = false ∧ n < 12 ∧ lsSt s n = 3 ∧ lsCmd s n = true ∧ s.on (Fd.LSW_CH_THLAT n) = true) ∧
    (∃ (s : State) (n : Nat), s.held .service = false ∧ n < 12 ∧ lsSt s n = 1) ∧
    (∃ (s : State) (mv : Nat), s.held .service = false ∧ mv < 65536 ∧ s.lsw.turns = [] ∧ s.tok.deferred = []) ∧
    (∃ (s : State) (mv : Nat), s.held .service = false ∧ mv < 65536 ∧ s.on Fd.LSW_STAT_UV = true ∧ (List.range 12).all (fun n => !lsCmd s n) = true) ∧
    (∃ (s : State) (n : Nat), s.held .service = false ∧ n < 12 ∧ lsSt s n = 1 ∧ s.lsw.turns = [] ∧ s.tok.deferred = []) ∧
    (∃ (s : State) (n : Nat), s.held .service = false ∧ n < 12 ∧ lsSt s n = 6 ∧ lsCmd s n = false) ∧
    (∃ (s : State) (lh : Nat), s.held .service = false ∧ limp s = false ∧ lh < 16 ∧ s.tok.deferred = [] ∧ s.lsw.turns = []) ∧
    (∃ (s : State) (lh : Nat), s.held .service = false ∧ limp s = false ∧ s.lsw.silent = false ∧ lh < 16) ∧
    (∃ (s : State), s.held .service = false ∧ limp s = false ∧ s.tok.deferred = [] ∧ s.lsw.turns = []) ∧
    (∃ (s : State) (n cur temp : Nat), s.held .service = false ∧ n < 12 ∧ cur < 4096 ∧ temp < 256 ∧ lsSt s n = 1 ∧ s.on (Fd.LSW_CH_WINDOW n) = false ∧ s.parN
      (Par.OPEN_I n) ≠ 0) ∧
    (∃ (s : State) (n cur temp : Nat), s.held .service = false ∧ n < 12 ∧ cur < 4096 ∧ temp < 256 ∧ s.bitOf Reg.LSW_STAT n = false) := by
  refine ⟨?_, ?_, ?_, ?_, ?_, ?_, ?_, ?_, ?_, ?_, ?_, ?_⟩
  · refine ⟨((cmd 11 (ch 11 3 (nolimp (quiet (up State.reset))))).setPar (Par.INRUSH_T 11) 0), 11, ?_, ?_, ?_, ?_, ?_, ?_, ?_, ?_, ?_⟩
    all_goals first | decide +kernel | rfl
  · refine ⟨(cmd 11 (ch 11 0x83 (nolimp (quiet (up State.reset))))), 11, ?_, ?_, ?_, ?_, ?_⟩
    all_goals first | decide +kernel | rfl
  · refine ⟨(ch 11 0x341 (up State.reset)), 11, ?_, ?_, ?_⟩
    all_goals first | decide +kernel | rfl
  · refine ⟨(ch 0 1 (ch 11 2 (quiet (up State.reset)))), 65535, ?_, ?_, ?_, ?_⟩
    all_goals first | decide +kernel | rfl
  · refine ⟨(ch 11 4 ((nolimp (quiet (up State.reset))).put Fd.LSW_STAT_UV 1)), 9000, ?_, ?_, ?_, ?_⟩
    all_goals first | decide +kernel | rfl
  · refine ⟨(ch 11 1 (quiet (up State.reset))), 11, ?_, ?_, ?_, ?_, ?_⟩
    all_goals first | decide +kernel | rfl
  · refine ⟨(ls (fun l => { l with lowOpen := [3, 11] }) (ch 11 6 (nolimp (quiet (up State.reset))))), 11, ?_, ?_, ?_, ?_⟩
    all_goals first | decide +kernel | rfl
  · refine ⟨(nolimp (quiet (up State.reset))), 15, ?_, ?_, ?_, ?_, ?_⟩
    all_goals first | decide +kernel | rfl
  · refine ⟨((nolimp (quiet (up State.reset))).put Fd.LSW_STAT_LIMPIN 0), 15, ?_, ?_, ?_, ?_⟩
    all_goals first | decide +kernel | rfl
  · refine ⟨(nolimp (quiet (up State.reset))), ?_, ?_, ?_, ?_⟩
    all_goals first | decide +kernel | rfl
  · refine ⟨((ch 11 1 (up State.reset)).setPar (Par.OPEN_I 11) 4), 11, 4095, 255, ?_, ?_, ?_, ?_, ?_, ?_, ?_⟩
    all_goals first | decide +kernel | rfl
  · refine ⟨((up State.reset).putBit Reg.LSW_STAT 11 false), 11, 4095, 255, ?_, ?_, ?_, ?_, ?_⟩
    all_goals first | decide +kernel | rfl

theorem witness_Lantern :
    (∃ (s : State), s.held .service = false ∧ s.on Fd.LSW_STAT_LIMPIN = false ∧ limp s = false) ∧
    (∃ (s : State), s.held .service = false ∧ s.lcd.holdEnd ≤ s.regN Reg.SYS_UPTIME) ∧
    (∃ (s : State), s.held .service = false ∧ s.regN Reg.SYS_UPTIME < s.lcd.holdEnd) ∧
    (∃ (s : State), s.held .service = false) ∧
    (∃ (s : State) (n : Nat), s.held .service = false ∧ s.on Fd.LCD_STAT_DRVON = true ∧ n < 164 ∧ s.lcd.runs = [(n, 2, 0)] ∧ s.lcd.shown = false ∧ s.bitOf
      (Reg.LCD_FAIL (n / 32)) (n % 32) = false) ∧
    (∃ (s : State) (p : Path), HostMay p 1 s ∧ s.held .service = false) ∧
    (∃ (s : State) (p : Path), HostMay p 1 s ∧ s.held .service = false) ∧
    (∃ (s : State), s.held .service = false ∧ s.pfw = false ∧ s.on Fd.LCD_STAT_BLON = false) ∧
    (∃ (s : State), s.held .service = false ∧ s.pfw = false ∧ s.on Fd.LCD_STAT_BLON = false ∧ pageUsed s 0 = true) ∧
    (∃ (s : State), s.held .service = false ∧ s.pfw = false ∧ s.on Fd.LCD_STAT_BLON = false ∧ pageUsed s 0 = false) := by
  refine ⟨?_, ?_, ?_, ?_, ?_, ?_, ?_, ?_, ?_, ?_⟩
  · refine ⟨(nolimp (quiet (up State.reset))), ?_, ?_, ?_⟩
    all_goals first | decide +kernel | rfl
  · refine ⟨(lcd (fun l => { l with holdEnd := 0 }) (up State.reset)), ?_, ?_⟩
    all_goals first | decide +kernel | rfl
  · refine ⟨(lcd (fun l => { l with holdEnd := 2 ^ 33 }) (up State.reset)), ?_, ?_⟩
    all_goals first | decide +kernel | rfl
  · refine ⟨(up State.reset), ?_⟩
    all_goals first | decide +kernel | rfl
  · refine ⟨(lcd (fun l => { l with runs := [(163, 2, 0)], shown := false }) ((up State.reset).put Fd.LCD_STAT_DRVON 1)), 163, ?_, ?_, ?_, ?_, ?_, ?_⟩
    all_goals first | decide +kernel | rfl
  · refine ⟨(up State.reset), .spi, ?_, ?_⟩
    all_goals first | decide +kernel | rfl
  · refine ⟨(up State.reset), .spi, ?_, ?_⟩
    all_goals first | decide +kernel | rfl
  · refine ⟨((up State.reset).put Fd.LCD_STAT_BLON 0), ?_, ?_, ?_⟩
    all_goals first | decide +kernel | rfl
  · refine ⟨(((up State.reset).put Fd.LCD_STAT_BLON 0).setPar (Par.LCD_PAGES 0) 0x1000), ?_, ?_, ?_, ?_⟩
    all_goals first | decide +kernel | rfl
  · refine ⟨((((up State.reset).put Fd.LCD_STAT_BLON 0).setPar (Par.LCD_PAGES 0) 0).setPar (Par.LCD_PAGES 15) 0x1000), ?_, ?_, ?_, ?_⟩
    all_goals first | decide +kernel | rfl

theorem witness_Parameters :
    (∃ (s : State) (p : Path) (cmd : Nat) (r : ParamMap.ParamRow), HostMay p 0 s ∧ ParamMap.rowFor (pcmdPar cmd) = some r ∧ Rules.present s.variant r = true ∧ cmd /
      4096 % 4 = 0) ∧
    (∃ (s : State) (p : Path) (cmd : Nat), HostMay p 0 s ∧ ParamMap.rowFor (pcmdPar cmd) = none) ∧
    (∃ (s : State) (p : Path), HostMay p 0 s ∧ pathLevel s p < 2) ∧
    (∃ (s : State) (p : Path), pathOpen s p = true ∧ s.pfw = true) ∧
    (∃ (s : State) (p : Path) (cmd : Nat) (r : ParamMap.ParamRow), HostMay p 2 s ∧ ParamMap.rowFor (pcmdPar cmd) = some r ∧ r.type = .unsigned ∧ r.applied = .boot ∧
      writeCode false (pathLevel s p) (pcmdPar cmd) (pcmdLen cmd) (s.regN (Reg.HIF_PVAL p) % 256 ^ pcmdLen cmd) s = 0) ∧
    (∃ (s : State) (p : Path) (cmd : Nat) (r : ParamMap.ParamRow), HostMay p 2 s ∧ ParamMap.rowFor (pcmdPar cmd) = some r ∧ r.type = .unsigned ∧ r.applied =
      .interval ∧ writeCode false (pathLevel s p) (pcmdPar cmd) (pcmdLen cmd) (s.regN (Reg.HIF_PVAL p) % 256 ^ pcmdLen cmd) s = 0) := by
  refine ⟨?_, ?_, ?_, ?_, ?_, ?_⟩
  · refine ⟨(up State.reset), .spi, (18 * 65536 + 42), ((ParamMap.rowFor 18042).getD ⟨"", 0, 0, .unsigned, 0, .span 0 0, [], .user, .boot, none⟩), ?_, ?_, ?_, ?_⟩
    all_goals first | decide +kernel | rfl
  · refine ⟨(up State.reset), .spi, (18 * 65536 + 999), ?_, ?_⟩
    all_goals first | decide +kernel | rfl
  · refine ⟨((up State.reset).put Fd.HIF_STAT_SPILVL 1), .spi, ?_, ?_⟩
    all_goals first | decide +kernel | rfl
  · refine ⟨((up State.reset).put Fd.PWR_STAT_PFW 1), .spi, ?_, ?_⟩
    all_goals first | decide +kernel | rfl
  · refine ⟨(((up State.reset).put Fd.SYS_BOOT_STATE 1).setRegN (Reg.HIF_PVAL .spi) 0xFFFFFF02), .spi, (22 * 65536 + 3), ((ParamMap.rowFor 22003).getD ⟨"", 0, 0,
      .unsigned, 0, .span 0 0, [], .user, .boot, none⟩), ?_, ?_, ?_, ?_, ?_⟩
    all_goals first | decide +kernel | rfl
  · refine ⟨(((up State.reset).put Fd.SYS_BOOT_STATE 1).setRegN (Reg.HIF_PVAL .spi) 5), .spi, (11 * 65536 + 2132), ((ParamMap.rowFor 11084).getD ⟨"", 0, 0,
      .unsigned, 0, .span 0 0, [], .user, .boot, none⟩), ?_, ?_, ?_, ?_, ?_⟩
    all_goals first | decide +kernel | rfl

end Sys2Proof.Tests.Loads

namespace Sys2Proof.Tests.Hosts

def slot (n type use : Nat) (x : State) : State := ((((x.put (Fd.KEY_SLOT_STATE n) 1).put (Fd.KEY_SLOT_TYPE n) type).put (Fd.KEY_SLOT_USAGE n) use).put
    (Fd.KEY_SLOTX_PROOT n) 1)
def pth (h : HifPath) (x : State) : State := { x with hif := [h, h] }
def row (a : Nat) : RegMap.RegRow := (RegMap.rowOf a).getD ⟨"", 0, 0, 0, 0, 0, 0, 0, 0, 0, .core, false⟩
def own (x : State) : State := slot 9 6 2 (((x.put Fd.KEY_STAT_READY 1).put Fd.KEY_STAT_ROOTFAIL 0).setPar Par.HIF_OWNKEY 9)

theorem witness_UnmappedAddresses :
    (∃ (s : State) (p : Path) (a : Nat), pathOpen s p = true ∧ a % 4 = 0 ∧ a < 2 ^ 24 ∧ RegMap.rowOf a = none) ∧
    (∃ (s : State) (p : Path) (a : Nat), pathOpen s p = true ∧ a % 4 = 0 ∧ a < 2 ^ 24 ∧ RegMap.rowOf a = none) ∧
    (∃ (a : Nat), (0x70000 ≤ a ∧ a < 0x80000) ∨ 0x1D0000 ≤ a) := by
  refine ⟨?_, ?_, ?_⟩
  · refine ⟨(up State.reset), .spi, 0x70000, ?_, ?_, ?_, ?_⟩
    all_goals first | decide +kernel | rfl
  · refine ⟨(up State.reset), .spi, 0x1D0000, ?_, ?_, ?_, ?_⟩
    all_goals first | decide +kernel | rfl
  · refine ⟨0x7FFFF, ?_⟩
    all_goals first | decide +kernel | rfl

theorem witness_EventBitStays :
    (∃ (s : State) (p : Path) (a k : Nat) (r : RegMap.RegRow) (bits same : Word), burstStatus a 1 = 0 ∧ RegMap.rowOf a = some r ∧ HostMay p r.level s ∧ s.held
      r.island = false ∧ k < 32 ∧ Nat.testBit (r.w1c &&& variantMask s r) k = true ∧ bits.getLsbD k = true ∧ same.getLsbD k = true) := by
  refine ⟨((up State.reset).setRegN Reg.ETH_EVT 0x7F), .spi, Reg.ETH_EVT, 1, (row Reg.ETH_EVT), 0x87, 6, ?_, ?_, ?_, ?_, ?_, ?_, ?_, ?_⟩
  all_goals first | decide +kernel | rfl

theorem witness_HostRegisters_1 :
    (∃ (s : State) (p : Path) (a : Nat) (r : RegMap.RegRow), pathOpen s p = true ∧ burstStatus a 1 = 0 ∧ RegMap.rowOf a = some r ∧ wide64 a = false) ∧
    (∃ (s : State) (p : Path) (a n : Nat), pathOpen s p = true ∧ burstStatus a n = 2) ∧
    (∃ (s : State) (p : Path) (a n : Nat), pathOpen s p = true ∧ burstStatus a n = 4) ∧
    (∃ (s : State), pathOpen s .spi = true) ∧
    (∃ (s : State) (p : Path), HostMay p 1 s ∧ s.held .core = false) ∧
    (∃ (s : State) (p : Path), HostMay p 1 s ∧ s.held .siteLink = false) ∧
    (∃ (s : State) (p : Path) (a : Nat) (ws : List Word), pathOpen s p = true ∧ burstStatus a ws.length = 0 ∧ levelsOk p s a ws = false) ∧
    (∃ (s : State) (p : Path) (a : Nat) (ws : List Word), pathOpen s p = true ∧ burstStatus a ws.length = 2) ∧
    (∃ (s : State) (p : Path) (a : Nat) (ws : List Word), pathOpen s p = true ∧ burstStatus a ws.length = 4) ∧
    (∃ (s : State) (p : Path) (a : Nat) (ws : List Word), pathOpen s p = true ∧ burstStatus a ws.length = 0 ∧ levelsOk p s a ws = true ∧ s.pfw = true ∧ a ≠ 0x60020) ∧
    (∃ (s : State), pathOpen s .spi = true) ∧
    (∃ (s : State) (p : Path) (a : Nat) (r : RegMap.RegRow), pathOpen s p = true ∧ burstStatus a 1 = 0 ∧ RegMap.rowOf a = some r ∧ wide64 a = true ∧ lowWord a =
      true) := by
  refine ⟨?_, ?_, ?_, ?_, ?_, ?_, ?_, ?_, ?_, ?_, ?_, ?_⟩
  · refine ⟨(up State.reset), .spi, Reg.SYS_UPTIME, (row Reg.SYS_UPTIME), ?_, ?_, ?_, ?_⟩
    all_goals first | decide +kernel | rfl
  · refine ⟨(up State.reset), .spi, 0x70000, 2, ?_, ?_⟩
    all_goals first | decide +kernel | rfl
  · refine ⟨(up State.reset), .spi, 2, 1, ?_, ?_⟩
    all_goals first | decide +kernel | rfl
  · refine ⟨(up State.reset), ?_⟩
    all_goals first | decide +kernel | rfl
  · refine ⟨((up State.reset).setRegN Reg.SYS_FLT 0), .spi, ?_, ?_⟩
    all_goals first | decide +kernel | rfl
  · refine ⟨((up State.reset).setRegN Reg.ETH_EVT 0x7F), .spi, ?_, ?_⟩
    all_goals first | decide +kernel | rfl
  · refine ⟨((up State.reset).put Fd.HIF_STAT_SPILVL 0), .spi, Reg.HIF_IEN, [1, 2], ?_, ?_, ?_⟩
    all_goals first | decide +kernel | rfl
  · refine ⟨(up State.reset), .spi, 0x70000, [1], ?_, ?_⟩
    all_goals first | decide +kernel | rfl
  · refine ⟨(up State.reset), .spi, Reg.HIF_IEN, [], ?_, ?_⟩
    all_goals first | decide +kernel | rfl
  · refine ⟨((up State.reset).put Fd.PWR_STAT_PFW 1), .spi, Reg.HIF_IEN, [5], ?_, ?_, ?_, ?_, ?_⟩
    all_goals first | decide +kernel | rfl
  · refine ⟨(up State.reset), ?_⟩
    all_goals first | decide +kernel | rfl
  · refine ⟨(up State.reset), .spi, (Reg.BIL_ENERGY 0 0 0), (row (Reg.BIL_ENERGY 0 0 0)), ?_, ?_, ?_, ?_, ?_⟩
    all_goals first | decide +kernel | rfl

theorem witness_HostRegisters_13 :
    (∃ (s : State) (p : Path) (a : Nat) (r : RegMap.RegRow) (w : Word), pathOpen s p = true ∧ burstStatus a 1 = 0 ∧ RegMap.rowOf a = some r ∧ wide64 a = true ∧
      lowWord a = false ∧ s.bil.latch = [(p, a, w)]) ∧
    (∃ (s : State) (p : Path), HostMay p 1 s ∧ s.held .siteLink = false) := by
  refine ⟨?_, ?_⟩
  · refine ⟨({ up State.reset with bil := { State.reset.bil with latch := [(.spi, Reg.BIL_ENERGY 0 0 0 + 4, 77)] } }), .spi, (Reg.BIL_ENERGY 0 0 0 + 4), (row
      (Reg.BIL_ENERGY 0 0 0)), 77, ?_, ?_, ?_, ?_, ?_, ?_⟩
    all_goals first | decide +kernel | rfl
  · refine ⟨((up State.reset).setRegN Reg.ETH_EVT 0x7F), .spi, ?_, ?_⟩
    all_goals first | decide +kernel | rfl

theorem witness_HostSessions_1 :
    (∃ (s : State) (p : Path), HostMay p 0 s ∧ s.on Fd.KEY_STAT_DRBGOK = true) ∧
    (∃ (s : State) (p : Path), HostMay p 0 s ∧ s.on Fd.KEY_STAT_DRBGOK = false) ∧
    (∃ (s : State) (p : Path), HostMay p 0 s ∧ (hifPath s p).verify = none ∧ (hifPath s p).locked = true) ∧
    (∃ (s : State) (p : Path), HostMay p 0 s ∧ s.hif.length = 2 ∧ (hifPath s p).verify = none ∧ (hifPath s p).locked = false ∧ chalValid s p = false ∧ (hifPath s
      p).fails = []) ∧
    (∃ (s : State) (p : Path) (level u v : Nat), HostMay p 0 s ∧ s.hif.length = 2 ∧ (hifPath s p).verify = none ∧ (hifPath s p).locked = false ∧ chalValid s p =
      true ∧ levelKey s (level % 4) = none ∧ (hifPath s p).fails = [u, v] ∧ s.regN Reg.SYS_UPTIME ≤ u + 60 ∧ s.regN Reg.SYS_UPTIME ≤ v + 60) ∧
    (∃ (s : State) (p : Path) (level n : Nat), HostMay p 0 s ∧ s.hif.length = 2 ∧ (hifPath s p).verify = none ∧ (hifPath s p).locked = false ∧ chalValid s p = true
      ∧ levelKey s (level % 4) = some n ∧ levelKeyOk s (level % 4) = true) ∧
    (∃ (s : State) (p : Path) (level n : Nat) (m sig : List Byte) (ok : Bool), s.hif.length = 2 ∧ level < 4 ∧ (hifPath s p).verify = some (level, m, sig) ∧ levelKey
      s level = some n ∧ levelKeyOk s level = true ∧ Config.verifies (keyOf s n) m sig = ok) ∧
    (∃ (s : State) (p : Path), HostMay p 0 s ∧ s.hif.length = 2 ∧ (hifPath s p).sess = true) ∧
    (∃ (s : State) (p : Path), s.hif.length = 2 ∧ (hifPath s p).sess = true) ∧
    (∃ (s : State) (p : Path), (hifPath s p).sess = false) ∧
    (∃ (s : State), s.hif.length = 2) ∧
    (∃ (s : State), s.parB Par.HIF_ETH_EN = true ∧ s.running = true ∧ s.held .siteLink = false ∧ s.on Fd.HIF_STAT_ETHCONN = false ∧ s.on Fd.KEY_STAT_DRBGOK = true ∧
      usable s 0 = true) := by
  refine ⟨?_, ?_, ?_, ?_, ?_, ?_, ?_, ?_, ?_, ?_, ?_, ?_⟩
  · refine ⟨((up State.reset).put Fd.KEY_STAT_DRBGOK 1), .spi, ?_, ?_⟩
    all_goals first | decide +kernel | rfl
  · refine ⟨((up State.reset).put Fd.KEY_STAT_DRBGOK 0), .spi, ?_, ?_⟩
    all_goals first | decide +kernel | rfl
  · refine ⟨(pth ⟨false, none, none, [], true⟩ (up State.reset)), .spi, ?_, ?_, ?_⟩
    all_goals first | decide +kernel | rfl
  · refine ⟨(pth ⟨true, none, none, [], false⟩ (up State.reset)), .spi, ?_, ?_, ?_, ?_, ?_, ?_⟩
    all_goals first | decide +kernel | rfl
  · refine ⟨(pth ⟨false, some 10, none, [9, 8], false⟩ ((up State.reset).setRegN Reg.SYS_UPTIME 20)), .spi, 4, 9, 8, ?_, ?_, ?_, ?_, ?_, ?_, ?_, ?_, ?_⟩
    all_goals first | decide +kernel | rfl
  · refine ⟨(own (pth ⟨false, some 10, none, [9, 8], false⟩ ((up State.reset).setRegN Reg.SYS_UPTIME 40))), .spi, 6, 9, ?_, ?_, ?_, ?_, ?_, ?_, ?_⟩
    all_goals first | decide +kernel | rfl
  · refine ⟨(own (pth ⟨false, none, some (2, [1], [2]), [], false⟩ (up State.reset))), .spi, 2, 9, [1], [2], (Config.verifies (keyOf (own (pth ⟨false, none, some
      (2, [1], [2]), [], false⟩ (up State.reset))) 9) [1] [2]), ?_, ?_, ?_, ?_, ?_, ?_⟩
    all_goals first | decide +kernel | rfl
  · refine ⟨(pth ⟨true, none, none, [], false⟩ (up State.reset)), .spi, ?_, ?_, ?_⟩
    all_goals first | decide +kernel | rfl
  · refine ⟨(pth ⟨true, none, none, [], false⟩ (up State.reset)), .spi, ?_, ?_⟩
    all_goals first | decide +kernel | rfl
  · refine ⟨(pth ⟨false, none, none, [], false⟩ (up State.reset)), .spi, ?_⟩
    all_goals first | decide +kernel | rfl
  · refine ⟨(pth ⟨false, none, none, [5], true⟩ (up State.reset)), ?_⟩
    all_goals first | decide +kernel | rfl
  · refine ⟨(slot 0 6 2 ((((((up State.reset).setPar Par.HIF_ETH_EN 1).put Fd.KEY_STAT_READY 1).put Fd.KEY_STAT_ROOTFAIL 0).put Fd.KEY_STAT_DRBGOK 1).put
      Fd.HIF_STAT_ETHCONN 0)), ?_, ?_, ?_, ?_, ?_, ?_⟩
    all_goals first | decide +kernel | rfl

theorem witness_HostSessions_13 :
    (∃ (s : State), s.parB Par.HIF_ETH_EN = true ∧ s.running = true ∧ s.held .siteLink = false ∧ s.on Fd.HIF_STAT_ETHCONN = true) ∧
    (∃ (s : State), s.on Fd.HIF_STAT_ETHCONN = true ∧ (hifPath s .eth).sess = false) ∧
    (∃ (s : State), s.hif.length = 2 ∧ s.on Fd.HIF_STAT_ETHCONN = true ∧ (hifPath s .eth).sess = true) := by
  refine ⟨?_, ?_, ?_⟩
  · refine ⟨(((up State.reset).setPar Par.HIF_ETH_EN 1).put Fd.HIF_STAT_ETHCONN 1), ?_, ?_, ?_, ?_⟩
    all_goals first | decide +kernel | rfl
  · refine ⟨((up State.reset).put Fd.HIF_STAT_ETHCONN 1), ?_, ?_⟩
    all_goals first | decide +kernel | rfl
  · refine ⟨(pth ⟨true, none, none, [], false⟩ (((up State.reset).put Fd.HIF_STAT_ETHCONN 1).put Fd.HIF_STAT_ETHLVL 2)), ?_, ?_, ?_⟩
    all_goals first | decide +kernel | rfl

end Sys2Proof.Tests.Hosts

namespace Sys2Proof.Tests.Power

def slot (n type use : Nat) (x : State) : State := ((((x.put (Fd.KEY_SLOT_STATE n) 1).put (Fd.KEY_SLOT_TYPE n) type).put (Fd.KEY_SLOT_USAGE n) use).put
    (Fd.KEY_SLOTX_PROOT n) 1)
def own (x : State) : State := slot 9 6 2 (((x.put Fd.KEY_STAT_READY 1).put Fd.KEY_STAT_ROOTFAIL 0).setPar Par.UPD_OWNKEY 9)
def lockMsg (x : State) : State := (((x.setRegN (Reg.UPD_LOCKMSG 0) 1).setRegN (Reg.UPD_LOCKMSG 1) (meterNum x % 2 ^ 32)).setRegN (Reg.UPD_LOCKMSG 2) (meterNum
    x / 2 ^ 32)).setRegN (Reg.UPD_LOCKMSG 3) 8
def idle (n : Nat) (x : State) : State := (((((x.put Fd.SES_STAT_STATE 0).put Fd.CPL_STAT_STATE 0).put Fd.MTR_STAT_PGATE 0).put Fd.UPD_STAT_LOCK 0).put
    Fd.UPD_STAT_STATE n).setPar Par.UPD_VBAT_MIN 2500
def len0 (x : State) : State := { x with mem := { x.mem with cells := (List.range 4).map (fun i => ⟨0x40800008 + i, 0⟩) } }
def live (x : State) : State := ((x.put Fd.PWR_STAT_PG 1).put Fd.PWR_STAT_VIOOK 1)
def pw (f : PowState → PowState) (x : State) : State := { x with pow := f x.pow }

theorem witness_FirmwareUpdate_1 :
    (∃ (s : State) (p : Path) (mv : Nat), HostMay p 1 s ∧ s.get Fd.SES_STAT_STATE = 0 ∧ s.get Fd.CPL_STAT_STATE = 0 ∧ s.get Fd.MTR_STAT_PGATE = 0 ∧ s.parN
      Par.UPD_VBAT_MIN ≤ mv ∧ mv < 65536 ∧ s.on Fd.UPD_STAT_LOCK = false ∧ s.get Fd.UPD_STAT_STATE = 0) ∧
    (∃ (s : State) (p : Path), HostMay p 1 s ∧ s.get Fd.SES_STAT_STATE ≠ 0) ∧
    (∃ (s : State) (p : Path) (mv : Nat), HostMay p 1 s ∧ s.get Fd.SES_STAT_STATE = 0 ∧ s.get Fd.CPL_STAT_STATE = 0 ∧ s.get Fd.MTR_STAT_PGATE = 0 ∧ mv < s.parN
      Par.UPD_VBAT_MIN ∧ mv < 65536) ∧
    (∃ (s : State) (p : Path), HostMay p 1 s ∧ s.get Fd.UPD_STAT_STATE = 1) ∧
    (∃ (s : State) (p : Path), HostMay p 1 s ∧ s.get Fd.UPD_STAT_STATE = 3) ∧
    (∃ (s : State) (p : Path) (n : Nat) (ok : Bool), HostMay p 2 s ∧ s.parN Par.UPD_OWNKEY = n ∧ n ≠ 0 ∧ usable s n = true ∧ slotType s n = 6 ∧ slotUse s n 1 = true
      ∧ numAt (lockMessage s) 0 1 = 1 ∧ numAt (lockMessage s) 4 8 = meterNum s ∧ s.regN Reg.UPD_LOCKCNT < numAt (lockMessage s) 12 4 ∧ Config.verifies (keyOf s
      n) ((lockMessage s).take 16) (((lockMessage s).drop 16).take 64) = ok) ∧
    (∃ (s : State) (p : Path), HostMay p 2 s ∧ numAt (lockMessage s) 12 4 ≤ s.regN Reg.UPD_LOCKCNT) ∧
    (∃ (s : State), s.get Fd.UPD_STAT_STATE = 2 ∧ stagingBytes s 0 4 ≠ [0x56, 0x50, 0x43, 0x55]) ∧
    (∃ (s : State) (ok : Bool) (code : Nat), s.get Fd.UPD_STAT_STATE = 2 ∧ pkgCheck ok s = code) ∧
    (∃ (s : State), s.get Fd.UPD_STAT_STATE ≠ 2) ∧
    (∃ (s : State), s.get Fd.UPD_STAT_STATE = 3 ∧ s.get Fd.UPD_CODES_PROG < pkgSectors s ∧ tokHolds s 8 (s.get Fd.UPD_CODES_PROG) = false ∧ tokWaits s 8 (s.get
      Fd.UPD_CODES_PROG) = false ∧ s.pfw = true) ∧
    (∃ (s : State), s.get Fd.UPD_STAT_STATE = 3 ∧ s.get Fd.UPD_CODES_PROG < pkgSectors s ∧ tokHolds s 8 (s.get Fd.UPD_CODES_PROG) = false ∧ tokWaits s 8 (s.get
      Fd.UPD_CODES_PROG) = false ∧ s.pfw = false ∧ s.tok.deferred = []) := by
  refine ⟨?_, ?_, ?_, ?_, ?_, ?_, ?_, ?_, ?_, ?_, ?_, ?_⟩
  · refine ⟨(idle 0 (up State.reset)), .spi, 2700, ?_, ?_, ?_, ?_, ?_, ?_, ?_, ?_⟩
    all_goals first | decide +kernel | rfl
  · refine ⟨((up State.reset).put Fd.SES_STAT_STATE 2), .spi, ?_, ?_⟩
    all_goals first | decide +kernel | rfl
  · refine ⟨(idle 0 (up State.reset)), .spi, 2400, ?_, ?_, ?_, ?_, ?_, ?_⟩
    all_goals first | decide +kernel | rfl
  · refine ⟨(((up State.reset).put Fd.UPD_STAT_STATE 1).put Fd.UPD_STAT_ARMED 1), .spi, ?_, ?_⟩
    all_goals first | decide +kernel | rfl
  · refine ⟨((up State.reset).put Fd.UPD_STAT_STATE 3), .spi, ?_, ?_⟩
    all_goals first | decide +kernel | rfl
  · refine ⟨((lockMsg (own (up State.reset))).setRegN Reg.UPD_LOCKCNT 7), .spi, 9, (Config.verifies (keyOf ((lockMsg (own (up State.reset))).setRegN Reg.UPD_LOCKCNT
      7) 9) ((lockMessage ((lockMsg (own (up State.reset))).setRegN Reg.UPD_LOCKCNT 7)).take 16) (((lockMessage ((lockMsg (own (up State.reset))).setRegN
      Reg.UPD_LOCKCNT 7)).drop 16).take 64)), ?_, ?_, ?_, ?_, ?_, ?_, ?_, ?_, ?_, ?_⟩
    all_goals first | decide +kernel | rfl
  · refine ⟨(((up State.reset).setRegN (Reg.UPD_LOCKMSG 3) 3).setRegN Reg.UPD_LOCKCNT 3), .spi, ?_, ?_⟩
    all_goals first | decide +kernel | rfl
  · refine ⟨((up State.reset).put Fd.UPD_STAT_STATE 2), ?_, ?_⟩
    all_goals first | decide +kernel | rfl
  · refine ⟨((up State.reset).put Fd.UPD_STAT_STATE 2), true, 10, ?_, ?_⟩
    all_goals first | decide +kernel | rfl
  · refine ⟨((up State.reset).put Fd.UPD_STAT_STATE 1), ?_⟩
    all_goals first | decide +kernel | rfl
  · refine ⟨(((up State.reset).put Fd.UPD_STAT_STATE 3).put Fd.PWR_STAT_PFW 1), ?_, ?_, ?_, ?_, ?_⟩
    all_goals first | decide +kernel | rfl
  · refine ⟨((up State.reset).put Fd.UPD_STAT_STATE 3), ?_, ?_, ?_, ?_, ?_, ?_⟩
    all_goals first | decide +kernel | rfl

theorem witness_FirmwareUpdate_13 :
    (∃ (s : State), s.get Fd.UPD_STAT_STATE ≠ 3) ∧
    (∃ (s : State) (bad : List Nat) (whole : Bool), s.get Fd.UPD_STAT_STATE = 3 ∧ s.get Fd.UPD_CODES_PROG = pkgSectors s ∧ s.pfw = true ∧ (bad.isEmpty && sha384
      (fabBytes s (bankBase (idleBank s)) (pkgLen s)) == stagingBytes s 44 48) = whole) ∧
    (∃ (s : State) (mv : Nat), s.get Fd.UPD_STAT_STATE = 4 ∧ s.get Fd.SES_STAT_STATE = 0 ∧ s.get Fd.CPL_STAT_STATE = 0 ∧ s.get Fd.MTR_STAT_PGATE = 0 ∧ s.parN
      Par.UPD_VBAT_MIN ≤ mv ∧ mv < 65536 ∧ s.on Fd.UPD_STAT_LOCK = false) ∧
    (∃ (s : State), s.get Fd.UPD_STAT_STATE = 4 ∧ s.get Fd.SES_STAT_STATE ≠ 0) ∧
    (∃ (s : State), s.on Fd.UPD_STAT_TRIAL = true) ∧
    (∃ (s : State), s.on Fd.UPD_STAT_TRIAL = true) ∧
    (∃ (s : State), s.on Fd.UPD_STAT_TRIAL = true) ∧
    (∃ (s : State), s.on Fd.UPD_STAT_TRIAL = false) := by
  refine ⟨?_, ?_, ?_, ?_, ?_, ?_, ?_, ?_⟩
  · refine ⟨((up State.reset).put Fd.UPD_STAT_STATE 4), ?_⟩
    all_goals first | decide +kernel | rfl
  · refine ⟨(len0 ((((up State.reset).put Fd.UPD_STAT_STATE 3).put Fd.UPD_CODES_PROG 0).put Fd.PWR_STAT_PFW 1)), [3], false, ?_, ?_, ?_, ?_⟩
    all_goals first | decide +kernel | rfl
  · refine ⟨(idle 4 (up State.reset)), 2700, ?_, ?_, ?_, ?_, ?_, ?_, ?_⟩
    all_goals first | decide +kernel | rfl
  · refine ⟨((idle 4 (up State.reset)).put Fd.SES_STAT_STATE 3), ?_, ?_⟩
    all_goals first | decide +kernel | rfl
  · refine ⟨((up State.reset).put Fd.UPD_STAT_TRIAL 1), ?_⟩
    all_goals first | decide +kernel | rfl
  · refine ⟨((up State.reset).put Fd.UPD_STAT_TRIAL 1), ?_⟩
    all_goals first | decide +kernel | rfl
  · refine ⟨((up State.reset).put Fd.UPD_STAT_TRIAL 1), ?_⟩
    all_goals first | decide +kernel | rfl
  · refine ⟨((up State.reset).put Fd.UPD_STAT_TRIAL 0), ?_⟩
    all_goals first | decide +kernel | rfl

theorem witness_PowerAndResets_1 :
    (∃ (s : State) (mv : Nat), s.on Fd.PWR_STAT_VIOOK = false ∧ s.pow.dark = false ∧ mv < 65536) ∧
    (∃ (s : State), s.Inv ∧ s.on Fd.PWR_STAT_VIOOK = false ∧ s.pow.dark = true ∧ s.on Fd.PWR_STAT_PG = false) ∧
    (∃ (s : State), s.Inv ∧ mayStart s = true) ∧
    (∃ (s : State), mayStart s = false) ∧
    (∃ (s : State) (mv : Nat), s.on Fd.PWR_STAT_PFW = false ∧ s.on Fd.PWR_STAT_VIOOK = true ∧ s.running = false ∧ s.pow.saving = false ∧ mv < 65536) ∧
    (∃ (s : State) (d : Nat), s.on Fd.PWR_STAT_PFW = false ∧ s.on Fd.PWR_STAT_VIOOK = true ∧ s.running = true ∧ d < 65536) ∧
    (∃ (s : State), s.on Fd.PWR_STAT_PFW = false ∧ s.on Fd.PWR_STAT_VIOOK = true ∧ s.running = true ∧ s.pow.saving = false) ∧
    (∃ (s : State) (mv : Nat), s.on Fd.PWR_STAT_PFW = true ∧ s.pow.saving = false ∧ s.pow.saved = false ∧ s.pow.resetLow = false ∧ mv < 65536) ∧
    (∃ (s : State), s.on Fd.PWR_STAT_PFW = true ∧ s.pow.resetLow = true) ∧
    (∃ (s : State), s.pow.saved = true ∧ s.pow.saving = false ∧ s.on Fd.PWR_STAT_PFW = false) ∧
    (∃ (s : State) (ms : Nat), s.on Fd.PWR_STAT_VIOOK = true ∧ ms < 65536) ∧
    (∃ (s : State), s.running = false ∧ s.pow.saving = false ∧ s.pow.saved = false) := by
  refine ⟨?_, ?_, ?_, ?_, ?_, ?_, ?_, ?_, ?_, ?_, ?_, ?_⟩
  · refine ⟨(pw (fun p => { p with dark := false }) (State.reset.put Fd.PWR_STAT_VIOOK 0)), 11800, ?_, ?_, ?_⟩
    all_goals first | decide +kernel | rfl
  · refine ⟨(pw (fun p => { p with dark := true }) ((State.reset.put Fd.PWR_STAT_VIOOK 0).put Fd.PWR_STAT_PG 0)), ?_, ?_, ?_, ?_⟩
    · constructor <;> first | decide +kernel | (constructor <;> decide +kernel)
    all_goals first | decide +kernel | rfl
  · refine ⟨(pw (fun p => { p with cause := 2 }) (((State.reset.put Fd.PWR_STAT_VIOOK 1).put Fd.PWR_STAT_PFW 0).put Fd.SYS_RSTCAUSE_LAST 4)), ?_, ?_⟩
    · constructor <;> first | decide +kernel | (constructor <;> decide +kernel)
    all_goals first | decide +kernel | rfl
  · refine ⟨(pw (fun p => { p with cause := 0 }) State.reset), ?_⟩
    all_goals first | decide +kernel | rfl
  · refine ⟨((State.reset.put Fd.PWR_STAT_VIOOK 1).put Fd.PWR_STAT_PG 0), 9000, ?_, ?_, ?_, ?_, ?_⟩
    all_goals first | decide +kernel | rfl
  · refine ⟨(live (up State.reset)), 77, ?_, ?_, ?_, ?_⟩
    all_goals first | decide +kernel | rfl
  · refine ⟨(live (up State.reset)), ?_, ?_, ?_, ?_⟩
    all_goals first | decide +kernel | rfl
  · refine ⟨(((up State.reset).put Fd.PWR_STAT_PFW 1).put Fd.TOK_STAT_PFBLOCK 1), 12000, ?_, ?_, ?_, ?_, ?_⟩
    all_goals first | decide +kernel | rfl
  · refine ⟨(pw (fun p => { p with resetLow := true }) ((up State.reset).put Fd.PWR_STAT_PFW 1)), ?_, ?_⟩
    all_goals first | decide +kernel | rfl
  · refine ⟨(pw (fun p => { p with saved := true }) (up State.reset)), ?_, ?_, ?_⟩
    all_goals first | decide +kernel | rfl
  · refine ⟨(live (up State.reset)), 40, ?_, ?_⟩
    all_goals first | decide +kernel | rfl
  · refine ⟨(State.reset.put Fd.PWR_STAT_PG 0), ?_, ?_, ?_⟩
    all_goals first | decide +kernel | rfl

theorem witness_PowerAndResets_13 :
    (∃ (s : State), s.running = true ∧ s.pow.saving = false) ∧
    (∃ (s : State) (p : Path), HostMay p 2 s) ∧
    (∃ (s : State) (p : Path), HostMay p 2 s ∧ s.on Fd.UPD_STAT_TRIAL = false) ∧
    (∃ (s : State), s.pow.coreResets = [] ∧ s.on Fd.UPD_STAT_TRIAL = false) ∧
    (∃ (s : State) (u v w : Nat), s.running = true ∧ s.pow.saving = false ∧ s.pow.resetLow = false ∧ s.pow.coreResets = [u, v, w] ∧ s.regN Reg.SYS_UPTIME ≤ u + 600
      ∧ s.regN Reg.SYS_UPTIME ≤ v + 600 ∧ s.regN Reg.SYS_UPTIME ≤ w + 600 ∧ s.on Fd.UPD_STAT_TRIAL = false) ∧
    (∃ (s : State), s.tok.deferred = []) ∧
    (∃ (s : State), s.tok.deferred = [] ∧ s.on Fd.PWR_TEMP_WARM = true) ∧
    (∃ (s : State), s.on Fd.PWR_TEMP_WARM = false) ∧
    (∃ (s : State), s.running = true ∧ s.pow.saving = false) := by
  refine ⟨?_, ?_, ?_, ?_, ?_, ?_, ?_, ?_, ?_⟩
  · refine ⟨(live (up State.reset)), ?_, ?_⟩
    all_goals first | decide +kernel | rfl
  · refine ⟨(live (up State.reset)), .spi, ?_⟩
    all_goals first | decide +kernel | rfl
  · refine ⟨((up State.reset).put Fd.UPD_STAT_TRIAL 0), .spi, ?_, ?_⟩
    all_goals first | decide +kernel | rfl
  · refine ⟨((up State.reset).put Fd.UPD_STAT_TRIAL 0), ?_, ?_⟩
    all_goals first | decide +kernel | rfl
  · refine ⟨(pw (fun p => { p with coreResets := [3, 2, 1] }) ((live (up State.reset)).put Fd.UPD_STAT_TRIAL 0)), 3, 2, 1, ?_, ?_, ?_, ?_, ?_, ?_, ?_, ?_⟩
    all_goals first | decide +kernel | rfl
  · refine ⟨(up State.reset), ?_⟩
    all_goals first | decide +kernel | rfl
  · refine ⟨((up State.reset).put Fd.PWR_TEMP_WARM 1), ?_, ?_⟩
    all_goals first | decide +kernel | rfl
  · refine ⟨((up State.reset).put Fd.PWR_TEMP_WARM 0), ?_⟩
    all_goals first | decide +kernel | rfl
  · refine ⟨(live (up State.reset)), ?_, ?_⟩
    all_goals first | decide +kernel | rfl

theorem witness_ClocksAndCrystal :
    (∃ (s : State), s.held .signalBox = false ∧ s.get (Fd.CLK_ISL_SRC 2) = 0) ∧
    (∃ (s : State), s.held .amene = true ∧ s.get (Fd.CLK_ISL_SRC 5) = 0) ∧
    (∃ (s : State), s.held .amene = true) ∧
    (∃ (s : State), s.get (Fd.CLK_ISL_SRC 8) = 2) ∧
    (∃ (s : State) (err : Int), s.get (Fd.CLK_ISL_SRC 8) = 2 ∧ err ≠ 0 ∧ s.running = false) ∧
    (∃ (s : State), s.get (Fd.CLK_ISL_SRC 8) = 2 ∧ s.running = false) ∧
    (∃ (s : State), s.get (Fd.CLK_ISL_SRC 8) ≠ 2) ∧
    (∃ (s : State) (p : Path), HostMay p 1 s) ∧
    (∃ (s : State), s.pow.xbCal = true) ∧
    (∃ (s : State), s.pow.xbCal = true) ∧
    (∃ (s : State), s.running = false ∧ s.held .battery = false) := by
  refine ⟨?_, ?_, ?_, ?_, ?_, ?_, ?_, ?_, ?_, ?_, ?_⟩
  · refine ⟨((up State.reset).put (Fd.CLK_ISL_SRC 2) 0), ?_, ?_⟩
    all_goals first | decide +kernel | rfl
  · refine ⟨(((up State.reset).put (Fd.CLK_ISL_SRC 5) 0).putBit Reg.SYS_FLT 5 true), ?_, ?_⟩
    all_goals first | decide +kernel | rfl
  · refine ⟨((up State.reset).putBit Reg.SYS_FLT 5 true), ?_⟩
    all_goals first | decide +kernel | rfl
  · refine ⟨((up State.reset).put (Fd.CLK_ISL_SRC 8) 2), ?_⟩
    all_goals first | decide +kernel | rfl
  · refine ⟨(((up State.reset).put (Fd.CLK_ISL_SRC 8) 2).put Fd.PWR_STAT_PG 0), (-7), ?_, ?_, ?_⟩
    all_goals first | decide +kernel | rfl
  · refine ⟨(((up State.reset).put (Fd.CLK_ISL_SRC 8) 2).put Fd.PWR_STAT_PG 0), ?_, ?_⟩
    all_goals first | decide +kernel | rfl
  · refine ⟨((up State.reset).put (Fd.CLK_ISL_SRC 8) 1), ?_⟩
    all_goals first | decide +kernel | rfl
  · refine ⟨(up State.reset), .spi, ?_⟩
    all_goals first | decide +kernel | rfl
  · refine ⟨(pw (fun p => { p with xbCal := true }) (up State.reset)), ?_⟩
    all_goals first | decide +kernel | rfl
  · refine ⟨(pw (fun p => { p with xbCal := true }) (up State.reset)), ?_⟩
    all_goals first | decide +kernel | rfl
  · refine ⟨((up State.reset).put Fd.PWR_STAT_PG 0), ?_, ?_⟩
    all_goals first | decide +kernel | rfl

end Sys2Proof.Tests.Power

namespace Sys2Proof.Tests.Faults

def pw (f : PowState → PowState) (x : State) : State := { x with pow := f x.pow }
def mm (f : MemState → MemState) (x : State) : State := { x with mem := f x.mem }
def rep (l : List SafReport) (n : Nat) (x : State) : State := { (x.put Fd.SES_STAT_STATE n) with x03 := l, ses := { x.ses with dc := false } }
def closedOn (x : State) : State := (x.setPar (Par.SO_FUNC 0) 1).put Fd.SAF_OUT_SO 1
def live (x : State) : State := ((x.put Fd.PWR_STAT_PG 1).put Fd.PWR_STAT_VIOOK 1)

theorem witness_MemoryHealth :
    (∃ (s : State), s.on Fd.MEM_STAT_SCRUB = true ∧ s.pfw = false ∧ (∀ e ∈ s.mem.pass, e.1 < 2 ∨ e.2.2 < s.parN Par.NVM_SECLIM)) ∧
    (∃ (s : State) (m u n : Nat), s.on Fd.MEM_STAT_SCRUB = true ∧ s.pfw = false ∧ s.mem.pass = [(m, u, n)] ∧ s.parN Par.NVM_SECLIM ≤ n ∧ m + s.get Fd.UPD_STAT_BANK
      = 3 ∧ s.mem.moves = [] ∧ (s.mem.remap.filter (fun e => e.1 == m)).length < 10) ∧
    (∃ (s : State), s.pfw = true) ∧
    (∃ (s : State) (u : Nat) (lost : Bool), s.mem.moves = [⟨1, u, lost⟩] ∧ s.pfw = false) ∧
    (∃ (s : State) (mism : Nat), mism ≠ 0 ∨ s.pfw = true) ∧
    (∃ (s : State), s.mem.tempN ≠ 0) := by
  refine ⟨?_, ?_, ?_, ?_, ?_, ?_⟩
  · refine ⟨(mm (fun m => { m with pass := [(1, 4, 9)], symNow := [(3, 4)] }) ((up State.reset).put Fd.MEM_STAT_SCRUB 1)), ?_, ?_, ?_⟩
    all_goals first | decide +kernel | rfl
  · refine ⟨(mm (fun m => { m with pass := [(3, 5, 200)], moves := [], remap := [] }) ((((up State.reset).put Fd.MEM_STAT_SCRUB 1).put Fd.UPD_STAT_BANK 0).setPar
      Par.NVM_SECLIM 8)), 3, 5, 200, ?_, ?_, ?_, ?_, ?_, ?_, ?_⟩
    all_goals first | decide +kernel | rfl
  · refine ⟨(((up State.reset).put Fd.MEM_STAT_SCRUB 1).put Fd.PWR_STAT_PFW 1), ?_⟩
    all_goals first | decide +kernel | rfl
  · refine ⟨(mm (fun m => { m with moves := [⟨1, 7, true⟩] }) (up State.reset)), 7, true, ?_, ?_⟩
    all_goals first | decide +kernel | rfl
  · refine ⟨(mm (fun m => { m with moves := [⟨1, 7, true⟩] }) (up State.reset)), 2, ?_⟩
    all_goals first | decide +kernel | rfl
  · refine ⟨(mm (fun m => { m with tempSum := 700, tempN := 2 }) (up State.reset)), ?_⟩
    all_goals first | decide +kernel | rfl

theorem witness_ShunterChannels :
    (∃ (s : State) (p : Path) (ch : Nat) (cfg : Word), HostMay p 3 s ∧ ch < 32 ∧ s.bitOf Reg.SHN_SHDV ch = false ∧ s.get (Fd.SHN_CH_STATE ch) = 1 ∧ Bits.bit cfg 31
      = true) ∧
    (∃ (s : State) (p : Path) (ch : Nat), HostMay p 3 s ∧ ch < 32 ∧ s.bitOf Reg.SHN_SHDV ch = true) ∧
    (∃ (s : State) (p : Path) (ch : Nat) (cfg : Word), HostMay p 3 s ∧ ch < 32 ∧ s.bitOf Reg.SHN_SHDV ch = false ∧ s.get (Fd.SHN_CH_STATE ch) = 0 ∧ Bits.bit cfg 31
      = true ∧ shnQueues ch = [] ∧ s.regN (Reg.SHN_DESC ch 10) % 2 ^ 24 = 0) ∧
    (∃ (s : State) (p : Path) (cfg : Word), HostMay p 3 s ∧ s.bitOf Reg.SHN_SHDV 31 = false ∧ s.get (Fd.SHN_CH_STATE 31) = 0 ∧ cfg &&& 0x80003F7F = 0x80000000 ∧
      s.regN (Reg.SHN_DESC 31 8) = 0x10000000 ∧ s.regN (Reg.SHN_DESC 31 9) = 0x10000100 ∧ s.regN (Reg.SHN_DESC 31 10) = 16 ∧ s.regN (Reg.SHN_DESC 31 12) = 0) ∧
    (∃ (s : State) (ch : Nat), ch < 32 ∧ shnEnded s ch = true ∧ Bits.bit (s.reg (Reg.SHN_DESC ch 3)) 6 = false ∧ s.bitOf Reg.SHN_SHDV ch = false) ∧
    (∃ (s : State) (ch : Nat), s.get (Fd.SHN_CH_STATE ch) ≠ 1) ∧
    (∃ (s : State) (p : Path) (v : Word) (ch : Nat), HostMay p 3 s ∧ Bits.bit v 8 = true ∧ v.toNat % 32 = ch ∧ shnEnded s ch = false) ∧
    (∃ (s : State) (p : Path) (v : Word), HostMay p 3 s ∧ Bits.bit v 8 = false) := by
  refine ⟨?_, ?_, ?_, ?_, ?_, ?_, ?_, ?_⟩
  · refine ⟨((((up State.reset).setRegN Reg.SHN_SHDV 0).put (Fd.SHN_CH_STATE 5) 1)), .spi, 5, 0xFFFFFFFF, ?_, ?_, ?_, ?_, ?_⟩
    all_goals first | decide +kernel | rfl
  · refine ⟨((up State.reset).setRegN Reg.SHN_SHDV 0x20), .spi, 5, ?_, ?_, ?_⟩
    all_goals first | decide +kernel | rfl
  · refine ⟨((((up State.reset).setRegN Reg.SHN_SHDV 0).put (Fd.SHN_CH_STATE 5) 0).setRegN (Reg.SHN_DESC 5 10) 0), .spi, 5, 0x80000000, ?_, ?_, ?_, ?_, ?_, ?_, ?_⟩
    all_goals first | decide +kernel | rfl
  · refine ⟨((((((((up State.reset).setRegN Reg.SHN_SHDV 0).put (Fd.SHN_CH_STATE 31) 0).setRegN (Reg.SHN_DESC 31 8) 0x10000000).setRegN (Reg.SHN_DESC 31 9)
      0x10000100).setRegN (Reg.SHN_DESC 31 10) 16).setRegN (Reg.SHN_DESC 31 12) 0)), .spi, 0x80000080, ?_, ?_, ?_, ?_, ?_, ?_, ?_, ?_⟩
    all_goals first | decide +kernel | rfl
  · refine ⟨(((((up State.reset).setRegN Reg.SHN_SHDV 0).setRegN (Reg.SHN_CH 5) 0x40000003).setRegN (Reg.SHN_DESC 5 2) 3).setRegN (Reg.SHN_DESC 5 3) 0x80000000), 5,
      ?_, ?_, ?_, ?_⟩
    all_goals first | decide +kernel | rfl
  · refine ⟨((up State.reset).setRegN (Reg.SHN_CH 5) 3), 5, ?_⟩
    all_goals first | decide +kernel | rfl
  · refine ⟨((up State.reset).setRegN (Reg.SHN_CH 5) 0x80000003), .spi, 0x105, 5, ?_, ?_, ?_, ?_⟩
    all_goals first | decide +kernel | rfl
  · refine ⟨(up State.reset), .spi, 5, ?_, ?_⟩
    all_goals first | decide +kernel | rfl

theorem witness_IslandFaults_1 :
    (∃ (s : State) (cause : Nat), s.held .amene = false ∧ s.pow.saving = false ∧ s.pow.restarts = [] ∧ cause < 256) ∧
    (∃ (s : State) (i : Island), s.held i = true) ∧
    (∃ (s : State) (cause : Nat), s.held .battery = false ∧ cause < 256) ∧
    (∃ (s : State), s.held .core = false ∧ s.pow.cause = 0 ∧ s.pow.saved = false) ∧
    (∃ (s : State) (u v : Nat), s.held .service = false ∧ s.pow.saving = false ∧ s.pow.saved = false ∧ s.pow.cause = 0 ∧ s.pow.restarts = [(6, u), (6, v)] ∧ s.regN
      Reg.SYS_UPTIME ≤ u + 600 ∧ s.regN Reg.SYS_UPTIME ≤ v + 600) ∧
    (∃ (s : State), s.held .amene = true ∧ s.pow.suspect = none ∧ s.bitOf Reg.CLK_STAT 5 = true) ∧
    (∃ (s : State) (i : Island), s.held i = false) ∧
    (∃ (s : State) (i : Island), s.pow.suspect = some i.num) ∧
    (∃ (s : State) (cause : Nat), s.pow.cause = 0 ∧ s.pow.saved = false ∧ cause < 256) ∧
    (∃ (s : State) (cause : Nat), s.pow.cause = 0 ∧ s.pow.saved = false ∧ s.pow.saving = false ∧ cause < 256) ∧
    (∃ (s : State) (cause : Nat), s.pow.cause ≠ 0 ∧ cause < 256) ∧
    (∃ (x : Nat), x < 21) := by
  refine ⟨?_, ?_, ?_, ?_, ?_, ?_, ?_, ?_, ?_, ?_, ?_, ?_⟩
  · refine ⟨(pw (fun p => { p with restarts := [] }) (up State.reset)), 3, ?_, ?_, ?_, ?_⟩
    all_goals first | decide +kernel | rfl
  · refine ⟨((up State.reset).putBit Reg.SYS_FLT 5 true), .amene, ?_⟩
    all_goals first | decide +kernel | rfl
  · refine ⟨(up State.reset), 9, ?_, ?_⟩
    all_goals first | decide +kernel | rfl
  · refine ⟨(up State.reset), ?_, ?_, ?_⟩
    all_goals first | decide +kernel | rfl
  · refine ⟨(pw (fun p => { p with restarts := [(6, 10), (6, 9)] }) ((up State.reset).setRegN Reg.SYS_UPTIME 500)), 10, 9, ?_, ?_, ?_, ?_, ?_, ?_, ?_⟩
    all_goals first | decide +kernel | rfl
  · refine ⟨(((up State.reset).putBit Reg.SYS_FLT 5 true).putBit Reg.CLK_STAT 5 true), ?_, ?_, ?_⟩
    all_goals first | decide +kernel | rfl
  · refine ⟨(up State.reset), .service, ?_⟩
    all_goals first | decide +kernel | rfl
  · refine ⟨(pw (fun p => { p with suspect := some 6 }) ((up State.reset).putBit Reg.SYS_FLT 6 true)), .service, ?_⟩
    all_goals first | decide +kernel | rfl
  · refine ⟨(live (up State.reset)), 5, ?_, ?_, ?_⟩
    all_goals first | decide +kernel | rfl
  · refine ⟨(live (up State.reset)), 5, ?_, ?_, ?_, ?_⟩
    all_goals first | decide +kernel | rfl
  · refine ⟨(pw (fun p => { p with cause := 2 }) (live (up State.reset))), 5, ?_, ?_⟩
    all_goals first | decide +kernel | rfl
  · refine ⟨11, ?_⟩
    all_goals first | decide +kernel | rfl

theorem witness_IslandFaults_14 :
    (∃ (x : Nat), 21 ≤ x) := by
  refine ⟨21, ?_⟩
  all_goals first | decide +kernel | rfl

theorem witness_SafetyReports :
    (∃ (s : State), s.x03 = []) ∧
    (∃ (s : State), s.running = false) ∧
    (∃ (s : State) (l : List SafReport), s.running = true ∧ s.x03 = .opened :: l ∧ sesSt s ≠ 9) ∧
    (∃ (s : State) (l : List SafReport), s.running = true ∧ s.x03 = .cause 8 :: l ∧ sesSt s = 7 ∧ s.ses.dc = false ∧ contactorOn s = true ∧ s.tok.deferred = []) ∧
    (∃ (s : State) (l : List SafReport), s.running = true ∧ s.x03 = .cause 16 :: l ∧ s.saf.pilot = 0 ∧ sesSt s = 7 ∧ s.ses.dc = false ∧ contactorOn s = true ∧
      s.tok.deferred = []) ∧
    (∃ (s : State) (l : List SafReport) (n : Nat), s.running = true ∧ s.x03 = .cause n :: l ∧ n ≠ 16 ∧ sesSt s = 0) ∧
    (∃ (s : State) (l : List SafReport), s.running = true ∧ s.x03 = .closed :: l ∧ sesSt s = 4 ∧ s.ses.dc = false ∧ s.tok.held = []) ∧
    (∃ (s : State) (l : List SafReport) (reason : Nat) (n : Option Nat), s.running = true ∧ s.x03 = .refused reason n :: l ∧ sesSt s = 4 ∧ contactorOn s = true ∧
      s.ses.dc = false ∧ s.tok.deferred = []) ∧
    (∃ (s : State) (l : List SafReport), s.running = true ∧ s.x03 = .idle :: l ∧ sesSt s ≠ 9 ∧ s.held .core = false ∧ s.saf.trip.wanted = true) := by
  refine ⟨?_, ?_, ?_, ?_, ?_, ?_, ?_, ?_, ?_⟩
  · refine ⟨({ up State.reset with x03 := [] }), ?_⟩
    all_goals first | decide +kernel | rfl
  · refine ⟨({ (up State.reset).put Fd.PWR_STAT_PG 0 with x03 := [.opened] }), ?_⟩
    all_goals first | decide +kernel | rfl
  · refine ⟨(rep [.opened, .closed] 2 (up State.reset)), [.closed], ?_, ?_, ?_⟩
    all_goals first | decide +kernel | rfl
  · refine ⟨(closedOn (rep [.cause 8, .closed] 7 (up State.reset))), [.closed], ?_, ?_, ?_, ?_, ?_, ?_⟩
    all_goals first | decide +kernel | rfl
  · refine ⟨(closedOn { rep [.cause 16, .closed] 7 (up State.reset) with saf := { State.reset.saf with pilot := 0 } }), [.closed], ?_, ?_, ?_, ?_, ?_, ?_, ?_⟩
    all_goals first | decide +kernel | rfl
  · refine ⟨(rep [.cause 8, .closed] 0 (up State.reset)), [.closed], 8, ?_, ?_, ?_, ?_⟩
    all_goals first | decide +kernel | rfl
  · refine ⟨(rep [.closed, .closed] 4 (up State.reset)), [.closed], ?_, ?_, ?_, ?_, ?_⟩
    all_goals first | decide +kernel | rfl
  · refine ⟨(closedOn (rep [.refused 3 (some 1), .closed] 4 (up State.reset))), [.closed], 3, (some 1), ?_, ?_, ?_, ?_, ?_, ?_⟩
    all_goals first | decide +kernel | rfl
  · refine ⟨({ rep [.idle, .closed] 2 (up State.reset) with saf := { State.reset.saf with trip := { State.reset.saf.trip with wanted := true } } }), [.closed], ?_,
      ?_, ?_, ?_, ?_⟩
    all_goals first | decide +kernel | rfl

end Sys2Proof.Tests.Faults

end Witnesses
end

section
/-!
Host register transactions (spec/00_scope.md R9 to R15, spec/23_host_interface.md R622 to R624): what a host access leaves as it was, how a refused
burst ends, and how a word written to a register of W1C bits acts; with them the statements of the family of spec/00_scope.md.
-/
namespace Sys2Proof.Machine

open State

section Frame

variable {l m : List Nat} {s t u : State}

theorem RegsBut.trans (h1 : RegsBut l s t) (h2 : RegsBut l t u) : RegsBut l s u := fun a ha => (h2 a ha).trans (h1 a ha)

theorem RegsBut.mono (h : RegsBut l s t) (hlm : l ⊆ m) : RegsBut m s t := fun a ha => h a (fun hl => ha (hlm hl))

theorem setReg_regsBut {a : Nat} (s : State) (w : Word) (h : a ∈ l) : RegsBut l s (s.setReg a w) :=
  fun _ hb => reg_setReg_of_ne s w (fun e => hb (e ▸ h))

theorem lower_regsBut {f : RegField} (s : State) (h : f.reg ∈ l) : RegsBut l s (s.lower f) := setReg_regsBut s _ h

theorem raise_regsBut {f : RegField} (s : State) (h : f.reg ∈ l) : RegsBut l s (s.raise f) := setReg_regsBut s _ h

theorem bumpReg_regsBut {a : Nat} (s : State) (h : a ∈ l) : RegsBut l s (s.bumpReg a) := setReg_regsBut s _ h

theorem emit_regsBut (s : State) (o : Output) : RegsBut l s (s.emit o) := fun _ _ => rfl

end Frame

section Access

theorem hostAccess_regsBut (p : Path) (s : State) : RegsBut (hostRegs p) s (hostAccess p s) := by
  have h : RegsBut (hostRegs p) s ((s.lower Fd.HIF_STAT_HOSTABS).lower Fd.SES_STAT_HOSTABS) :=
    (lower_regsBut s (by simp [hostRegs])).trans (lower_regsBut _ (by simp [hostRegs]))
  cases p with
  | spi => exact h.trans (bumpReg_regsBut _ (by simp [hostRegs]))
  | eth => exact h.trans (bumpReg_regsBut _ (by simp [hostRegs]))

@[simp] theorem hostAccess_out (p : Path) (s : State) : (hostAccess p s).out = s.out := (hostAccess_within p s).same .out (by simp)

@[simp] theorem hostAccess_pow (p : Path) (s : State) : (hostAccess p s).pow = s.pow := (hostAccess_within p s).same .pow (by simp)

@[simp] theorem hostAccess_variant (p : Path) (s : State) : (hostAccess p s).variant = s.variant :=
  (hostAccess_within p s).same .variant (by simp)

/-- A host access leaves a register alone that is not among hostRegs of either path. -/
theorem reg_hostAccess (p : Path) (s : State) {a : Nat} (h : a ∉ [Reg.HIF_STAT, Reg.SES_STAT, Reg.HIF_CNT 0, Reg.HIF_CNT 2]) :
    (hostAccess p s).reg a = s.reg a := by
  refine hostAccess_regsBut p s a fun hm => h ?_
  cases p <;> simp only [hostRegs, List.mem_cons, List.not_mem_nil, or_false] at hm ⊢ <;> omega

/-- A host access clears HOSTABS of HIF_STAT and leaves that register's other fields alone. -/
theorem get_hostAccess_hifStat (p : Path) (s : State) {g : RegField} (hr : g.reg = Reg.HIF_STAT) (h : Apart Fd.HIF_STAT_HOSTABS g) :
    (hostAccess p s).get g = s.get g := by
  have ht : ((s.lower Fd.HIF_STAT_HOSTABS).lower Fd.SES_STAT_HOSTABS).get g = s.get g := by
    rw [get_lower_of_apart _ (.inl (by rw [hr]; decide)), get_lower_of_apart _ h]
  cases p with
  | spi => exact (get_bumpReg_of_ne _ 1 (by rw [hr]; decide)).trans ht
  | eth => exact (get_bumpReg_of_ne _ 1 (by rw [hr]; decide)).trans ht

@[simp] theorem pathLevel_hostAccess (p q : Path) (s : State) : pathLevel (hostAccess p s) q = pathLevel s q := by
  cases q with
  | spi => exact get_hostAccess_hifStat p s rfl (.inr (.inr (by simp)))
  | eth => exact get_hostAccess_hifStat p s rfl (.inr (.inr (by simp)))

@[simp] theorem pfw_hostAccess (p : Path) (s : State) : (hostAccess p s).pfw = s.pfw := by
  simp [pfw, on, State.get, reg_hostAccess p s (a := Reg.PWR_STAT) (by decide)]

@[simp] theorem held_hostAccess (p : Path) (s : State) (i : Island) : (hostAccess p s).held i = s.held i := by
  simp [held, bitOf, reg_hostAccess p s (a := Reg.SYS_FLT) (by decide)]

end Access

section Unmapped

/-- One aligned word of the host space at an address without a register is refused as unmapped (R10, R623). -/
theorem burstStatus_one_of_unmapped {a : Nat} (h4 : a % 4 = 0) (h24 : a < 2 ^ 24) (h : RegMap.rowOf a = none) : burstStatus a 1 = 2 := by
  have hform : ¬ (1 < 1 ∨ 16 < 1 ∨ a % 4 ≠ 0 ∨ 2 ^ 24 ≤ a) := by omega
  rw [burstStatus, if_neg hform, if_neg (by simp), if_neg (by simp [burstMapped, h])]

/-- The two ranges of R10 that belong to no block. -/
theorem blockOf_unmapped {a : Nat} (h : (0x70000 ≤ a ∧ a < 0x80000) ∨ 0x1D0000 ≤ a) : RegMap.blockOf a = none := by
  have hc : (decide (0x1D0000 ≤ a) || (decide (0x70000 ≤ a) && decide (a ≤ 0x7FFFF))) = true := by
    simp only [Bool.or_eq_true, Bool.and_eq_true, decide_eq_true_eq]; omega
  rw [RegMap.blockOf, if_pos hc]

theorem rowOf_unmapped {a : Nat} (h : (0x70000 ≤ a ∧ a < 0x80000) ∨ 0x1D0000 ≤ a) : RegMap.rowOf a = none := by
  simp [RegMap.rowOf, blockOf_unmapped h]

variable {s : State} {p : Path} {a n : Nat} {ws : List Word}

theorem hostRead_of_burstStatus_two (ho : pathOpen s p = true) (h : burstStatus a n = 2) :
    hostRead p true a n s = refuse p 2 ((hostAccess p s).emit (.hostData p (List.replicate n 0))) := by
  simp [hostRead, crcPass, ho, h]

theorem hostWrite_of_burstStatus_two (f : WriteFacts) (ho : pathOpen s p = true) (h : burstStatus a ws.length = 2) :
    hostWrite p true a ws f s = refuse p 2 (hostAccess p s) := by
  simp [hostWrite, crcPass, writeStatus, ho, h]

/-- A transaction refused with status 2 sets ADDRERR, returns the status, and has no effect besides. -/
theorem refuse_two_spec {u : State} (hr : RegsBut (hostRegs p) s u) (hw : Within [.regs, .out] s u) :
    (refuse p 2 u).out = .hostStatus p 2 :: u.out ∧ (refuse p 2 u).on Fd.HIF_EVT_ADDRERR = true ∧
      RegsBut (Reg.HIF_EVT :: hostRegs p) s (refuse p 2 u) ∧ Within [.regs, .out] s (refuse p 2 u) := by
  have he : refuse p 2 u = (u.raise Fd.HIF_EVT_ADDRERR).emit (.hostStatus p 2) := rfl
  rw [he]
  refine ⟨rfl, on_raise u Fd.HIF_EVT_ADDRERR (by decide) (by decide), ?_, ?_⟩
  · exact ((hr.mono (List.subset_cons_self _ _)).trans (raise_regsBut u (by simp))).trans (emit_regsBut _ _)
  · exact (hw.comp (raise_within _ _) rfl).comp (emit_within _ _) rfl

theorem hostRead_unmapped_spec (ho : pathOpen s p = true) (h : burstStatus a n = 2) :
    (hostRead p true a n s).out = .hostStatus p 2 :: .hostData p (List.replicate n 0) :: s.out ∧
      (hostRead p true a n s).on Fd.HIF_EVT_ADDRERR = true ∧ RegsBut (Reg.HIF_EVT :: hostRegs p) s (hostRead p true a n s) ∧
      Within [.regs, .out] s (hostRead p true a n s) := by
  rw [hostRead_of_burstStatus_two ho h]
  simpa using refuse_two_spec ((hostAccess_regsBut p s).trans (emit_regsBut _ _))
    (((hostAccess_within p s).sub rfl).comp (emit_within _ (.hostData p (List.replicate n 0))) rfl)

theorem hostWrite_unmapped_spec (f : WriteFacts) (ho : pathOpen s p = true) (h : burstStatus a ws.length = 2) :
    (hostWrite p true a ws f s).out = .hostStatus p 2 :: s.out ∧ (hostWrite p true a ws f s).on Fd.HIF_EVT_ADDRERR = true ∧
      RegsBut (Reg.HIF_EVT :: hostRegs p) s (hostWrite p true a ws f s) ∧ Within [.regs, .out] s (hostWrite p true a ws f s) := by
  rw [hostWrite_of_burstStatus_two f ho h]
  simpa using refuse_two_spec (hostAccess_regsBut p s) ((hostAccess_within p s).sub rfl)

end Unmapped

/-- Settles O50: a single word at an address without a register has burst status 2, and both transactions end in `refuse` with it. -/
theorem unmappedAddresses : Obligations.UnmappedAddresses := by
  unfold Obligations.UnmappedAddresses
  refine ⟨fun s p a ho h4 h24 hrow => ?_, fun s p a w f ho h4 h24 hrow => ?_, fun a h => rowOf_unmapped h⟩
  · exact ⟨_, rfl, hostRead_unmapped_spec ho (burstStatus_one_of_unmapped h4 h24 hrow)⟩
  · exact ⟨_, rfl, hostWrite_unmapped_spec f ho (burstStatus_one_of_unmapped h4 h24 hrow)⟩

section W1c

/-- The first addresses of the registers whose writes act by a rule of their own (regEffect). -/
def ownRuleAddrs : List Nat :=
  [Reg.SYS_RSTCTL, Reg.SYS_XCLR, Reg.TTB_CLR, Reg.CLK_CTL, Reg.SHN_CHCTL, Reg.SHN_DESC 0 0, 0x60010, 0x60020, Reg.PTS_CTL, Reg.BIL_CTL,
    Reg.BIL_DISCCTL, Reg.BTM_SETCTL, Reg.EFT_TRIPCTL, Reg.SES_CTL, Reg.SES_AUTHCTL, Reg.ETH_CTL, Reg.KEY_CTL, Reg.UPD_CTL, Reg.NFC_LISTCTL,
    Reg.NFC_TAGWCTL, Reg.LSW_CTL 0, Reg.LCD_CTL]

theorem regEffect_of_not_ownRule (p : Path) (f : WriteFacts) {r : RegMap.RegRow} (a : Nat) (w : Word) (s : State) (h : r.addr ∉ ownRuleAddrs) :
    regEffect p f r a w s = storeWord p r a w s := by
  simp only [ownRuleAddrs, List.mem_cons, List.not_mem_nil, or_false, not_or] at h
  simp only [regEffect, h, if_false]

/-- What the register map gives a register that has W1C bits: no other writable bit, no copy per path, and no rule of its own. -/
abbrev PlainW1c (r : RegMap.RegRow) : Prop := r.rw = 0 ∧ r.wo = 0 ∧ r.perPath = false ∧ r.addr ∉ ownRuleAddrs

theorem rows_plainW1c : ∀ b ∈ RegMap.bases, ∀ r ∈ RegMap.rowsOfBlock b, r.w1c = 0 ∨ PlainW1c r := by
  decide

theorem mem_bases_of_blockOf {a b : Nat} (h : RegMap.blockOf a = some b) : b ∈ RegMap.bases := by
  unfold RegMap.blockOf at h
  split at h
  · exact absurd h (by simp)
  · exact (List.mem_filter.1 (List.mem_of_getLast? h)).1

theorem mem_rows_of_rowOf {a : Nat} {r : RegMap.RegRow} (h : RegMap.rowOf a = some r) : ∃ b ∈ RegMap.bases, r ∈ RegMap.rowsOfBlock b := by
  unfold RegMap.rowOf at h
  split at h
  · exact absurd h (by simp)
  · next b hb => exact ⟨b, mem_bases_of_blockOf hb, List.mem_of_find?_eq_some h⟩

theorem plainW1c_of_rowOf {a : Nat} {r : RegMap.RegRow} (h : RegMap.rowOf a = some r) (hw : r.w1c ≠ 0) : PlainW1c r := by
  obtain ⟨b, hb, hr⟩ := mem_rows_of_rowOf h
  exact (rows_plainW1c b hb r hr).resolve_left hw

/-- The registers with a field that needs more than the register's level (wordLevel) have no W1C bit. -/
theorem raisedLevel_w1c : ∀ a ∈ [Reg.PTS_CTL, Reg.BTM_SETCTL, Reg.UPD_CTL], (RegMap.rowOf a).map (·.w1c) = some 0 := by
  decide

variable {s : State} {p : Path} {a : Nat} {r : RegMap.RegRow}

theorem wordLevel_of_w1c (s : State) (w : Word) (h : RegMap.rowOf a = some r) (hw : r.w1c ≠ 0) : wordLevel s a w = r.level := by
  have hn : a ∉ [Reg.PTS_CTL, Reg.BTM_SETCTL, Reg.UPD_CTL] := fun hm => hw (by simpa [h] using raisedLevel_w1c a hm)
  simp only [List.mem_cons, List.not_mem_nil, or_false, not_or] at hn
  simp only [wordLevel, h, hn, false_and, or_false, if_false]

theorem writeStatus_of_w1c (w : Word) (hb : burstStatus a 1 = 0) (h : RegMap.rowOf a = some r) (hw : r.w1c ≠ 0) (hl : r.level ≤ pathLevel s p)
    (hp : s.pfw = false) : writeStatus p a [w] s = 0 := by
  simp [writeStatus, levelsOk, hb, wordLevel_of_w1c s w h hw, hl, hp]

/-- The W1C bits of a register that the module's variant has. -/
def w1cMask (s : State) (r : RegMap.RegRow) : Word := BitVec.ofNat 32 (r.w1c &&& variantMask s r)

/-- A word written to a register with W1C bits clears those of them that it holds a 1 for (R12). -/
theorem regEffect_of_w1c (f : WriteFacts) (w : Word) (s : State) (h : RegMap.rowOf a = some r) (hw : r.w1c ≠ 0) :
    regEffect p f r a w s = s.setReg a (s.reg a &&& ~~~(w1cMask s r &&& w)) := by
  obtain ⟨hrw, hwo, hpp, hown⟩ := plainW1c_of_rowOf h hw
  have hm : storeMask s r = 0 := by simp [storeMask, hrw, hwo]
  rw [regEffect_of_not_ownRule p f a w s hown]
  simp only [storeWord, w1cMask, hpp, hm, Bool.false_eq_true, if_false, BitVec.not_zero, BitVec.and_allOnes, BitVec.and_zero, BitVec.or_zero]

/-- Clearing bits of a register puts no island into reset. -/
theorem held_setReg_and {i : Island} (x : Word) (h : s.held i = false) : (s.setReg a (s.reg a &&& x)).held i = false := by
  unfold held bitOf Bits.bit at h ⊢
  by_cases ha : Reg.SYS_FLT = a
  · subst ha; simp [h]
  · rw [reg_setReg_of_ne s _ ha, h]

/-- The state that an accepted write of ones to W1C bits leaves before its status is returned. -/
def w1cCleared (p : Path) (r : RegMap.RegRow) (a : Nat) (bits : Word) (s : State) : State :=
  (hostAccess p s).setReg a ((hostAccess p s).reg a &&& ~~~(w1cMask s r &&& bits))

theorem w1cMask_hostAccess (p : Path) (s : State) (r : RegMap.RegRow) : w1cMask (hostAccess p s) r = w1cMask s r := by
  simp [w1cMask, variantMask, isF]

theorem hostWrite_of_w1c (f : WriteFacts) (bits : Word) (hb : burstStatus a 1 = 0) (h : RegMap.rowOf a = some r) (hw : r.w1c ≠ 0)
    (hm : HostMay p r.level s) (hh : s.held r.island = false) : hostWrite p true a [bits] f s = hostReply p 0 (w1cCleared p r a bits s) := by
  obtain ⟨ho, hl, hp⟩ := hm
  have hst : writeStatus p a [bits] (hostAccess p s) = 0 := writeStatus_of_w1c bits hb h hw (by simpa using hl) (by simpa using hp)
  have hword : writeWord p f a bits (hostAccess p s) = w1cCleared p r a bits s := by
    simp [writeWord, h, toIsland, hh, regEffect_of_w1c f bits _ h hw, w1cCleared, w1cMask_hostAccess]
  simp [hostWrite, crcPass, ho, hst, writeWords, hword]

/-- While the register's island runs, its W1C bits that an event sets are set (R14). -/
theorem eventKeep_of_not_held (same : Word) (h : RegMap.rowOf a = some r) (hh : s.held r.island = false) :
    eventKeep a same s = s.setReg a (s.reg a ||| (same &&& w1cMask s r)) := by
  simp only [eventKeep, h, hh, w1cMask, Bool.false_eq_true, if_false]

/-- The state that EVENT_BIT_CLEAR leaves: the bits are cleared, and those that an event sets in the same cycle are set (R14). -/
theorem execEventBitClear_of_w1c (bits same : Word) (hb : burstStatus a 1 = 0) (h : RegMap.rowOf a = some r) (hw : r.w1c ≠ 0)
    (hm : HostMay p r.level s) (hh : s.held r.island = false) :
    execEventBitClear p a bits same s = .next ((hostReply p 0 (w1cCleared p r a bits s)).setReg a
      ((w1cCleared p r a bits s).reg a ||| (same &&& bits &&& w1cMask s r))) := by
  obtain ⟨ho, hl, hp⟩ := hm
  have hst : writeStatus p a [bits] s = 0 := writeStatus_of_w1c bits hb h hw hl hp
  have hheld : (hostReply p 0 (w1cCleared p r a bits s)).held r.island = false :=
    held_setReg_and (s := hostAccess p s) _ (by simpa using hh)
  have hmask : w1cMask (hostReply p 0 (w1cCleared p r a bits s)) r = w1cMask s r := w1cMask_hostAccess p s r
  have hreg : (hostReply p 0 (w1cCleared p r a bits s)).reg a = (w1cCleared p r a bits s).reg a := reg_emit _ _ _
  simp [execEventBitClear, h, hw, ho, hst, hostWrite_of_w1c _ bits hb h hw ⟨ho, hl, hp⟩ hh, eventKeep_of_not_held _ h hheld, hreg, hmask]

end W1c

/-- Settles O51: the write clears the bit, and eventKeep sets it again after it, in the one register the write acts on. -/
theorem eventBitStays : Obligations.EventBitStays := by
  unfold Obligations.EventBitStays
  intro s p a k r bits same hb h hm hh hk hbit hbits hsame
  have hw : r.w1c ≠ 0 := fun h0 => by simp [h0] at hbit
  refine ⟨_, execEventBitClear_of_w1c bits same hb h hw hm hh, ?_, ?_, ?_, ?_⟩
  · have hmask : (w1cMask s r).getLsbD k = true := by
      rw [w1cMask, BitVec.getLsbD_ofNat, hbit, decide_eq_true hk, Bool.and_self]
    simp [hbits, hsame, hmask]
  · simp [hostReply, w1cCleared]
  · have hacc : RegsBut (a :: hostRegs p) s (hostAccess p s) := (hostAccess_regsBut p s).mono (List.subset_cons_self _ _)
    exact ((hacc.trans (setReg_regsBut _ _ (by simp))).trans (emit_regsBut _ _)).trans (setReg_regsBut _ _ (by simp))
  · have hacc : Within [.regs, .out] s (hostAccess p s) := (hostAccess_within p s).sub rfl
    exact ((hacc.comp (setReg_within _ _ _) rfl).comp (hostReply_within _ _ _) rfl).comp (setReg_within _ _ _) rfl

end Sys2Proof.Machine
end

section
/-!
The invariant at reset, and the start of a Timetable period (spec/01_architecture.md R27, R29, R36 to R43): which registers the use of the
period before is noted in, and which period a resource then runs; with them the statements of the family of spec/01_architecture.md.
-/
namespace Sys2Proof.Machine

open State

theorem logsOk_reset : LogsOk State.reset.logs where
  count := List.length_replicate
  room i _ := by
    have hnone : (nth State.reset.logs i ⟨[], 0⟩).entries = [] := congrArg LogStore.entries (nth_replicate 5 i _)
    rw [hnone]
    exact Nat.zero_le _

/-- Settles O4: every list of the invariant is empty before the first start, or a fixed number of empty ones. -/
theorem resetInv : Obligations.ResetInv where
  regs := rfl
  params := rfl
  cells := rfl
  xings := XingsOk.empty
  tok := ⟨Nat.zero_le 16, List.Pairwise.nil⟩
  logs := logsOk_reset
  queues := List.length_replicate

section Period

/-- A repeated step that changes only registers of a list changes only those in all. -/
theorem upTo_regsBut {l : List Nat} {f : Nat → State → State} (n : Nat) (h : ∀ i, i < n → ∀ s, RegsBut l s (f i s)) (s : State) :
    RegsBut l s (upTo n f s) := by
  induction n with
  | zero => exact fun _ _ => rfl
  | succ n ih =>
    have hlast : upTo (n + 1) f s = f n (upTo n f s) := by simp [upTo, List.range_succ]
    rw [hlast]
    exact (ih fun i hi => h i (by omega)).trans (h n (by omega) _)

theorem ttbRes_setTtbRes_self (s : State) {k : Nat} (r : TtbRes) : ttbRes (setTtbRes s k r) k = r := by
  match k with
  | 0 => rfl
  | 1 => rfl
  | _ + 2 => rfl

/-- Resources are numbered 0 to 2 (R37): the running period of one leaves those of the other two alone. -/
theorem ttbRes_setTtbRes_of_ne (s : State) {j k : Nat} (r : TtbRes) (hj : j < 3) (hk : k < 3) (h : j ≠ k) :
    ttbRes (setTtbRes s k r) j = ttbRes s j := by
  match j, k, h with
  | 0, 1, _ | 0, 2, _ | 1, 0, _ | 1, 2, _ | 2, 0, _ | 2, 1, _ => rfl
  | 2, k + 2, h => exact absurd (by omega) h

/-- The registers that hold the use of a resource, its nine classes' and the lent slots'. -/
def ttbUseRegs (k : Nat) : List Nat := (List.range 10).map fun c => Reg.TTB_USE (ttbIdx k c)

theorem ttbNoteUse_regsBut (k waiting : Nat) (r : TtbRes) {c : Nat} (hc : c < 10) (s : State) :
    RegsBut (ttbUseRegs k) s (ttbNoteUse k waiting r c s) := by
  have hmem : Reg.TTB_USE (ttbIdx k c) ∈ ttbUseRegs k := List.mem_map.2 ⟨c, List.mem_range.2 hc, rfl⟩
  have hput (t : State) (lo n v : Nat) : RegsBut (ttbUseRegs k) t (t.put ⟨Reg.TTB_USE (ttbIdx k c), lo, n⟩ v) := setReg_regsBut t _ hmem
  unfold ttbNoteUse
  split
  · exact ((hput _ _ _ _).trans (hput _ _ _ _)).trans (hput _ _ _ _)
  · exact (hput _ _ _ _).trans (hput _ _ _ _)

/-- The state whose budgets a period start loads: the use of the period before is noted, when there was one. -/
def ttbNoted (k waiting : Nat) (s : State) : State := if (ttbRes s k).begun then upTo 10 (ttbNoteUse k waiting (ttbRes s k)) s else s

theorem ttbPeriod_eq (k waiting : Nat) (s : State) :
    ttbPeriod k waiting s =
      setTtbRes (ttbNoted k waiting s) k ⟨(List.range 9).map (ttbBudget (ttbNoted k waiting s) k), List.replicate 10 0, 0, true⟩ := rfl

theorem ttbNoted_within (k waiting : Nat) (s : State) : Within [.regs] s (ttbNoted k waiting s) :=
  Within.ite (Within.upTo (fun c t => ttbNoteUse_within k waiting (ttbRes s k) c t) s) (Within.refl _ _)

theorem ttbNoted_regsBut (k waiting : Nat) (s : State) : RegsBut (ttbUseRegs k) s (ttbNoted k waiting s) := by
  unfold ttbNoted
  split
  · exact upTo_regsBut 10 (fun _ hc t => ttbNoteUse_regsBut k waiting _ hc t) s
  · exact fun _ _ => rfl

theorem ttbRes_ttbNoted (k waiting : Nat) (s : State) (j : Nat) : ttbRes (ttbNoted k waiting s) j = ttbRes s j := by
  have httb : (ttbNoted k waiting s).ttb = s.ttb := (ttbNoted_within k waiting s).same .ttb (by simp)
  unfold ttbRes
  rw [httb]

/-- The registers of the budgets end below the first register of a use. -/
theorem ttbBud_notMem_ttbUseRegs {j c : Nat} (k : Nat) (hj : j < 3) (hc : c < 9) : Reg.TTB_BUD (ttbIdx j c) ∉ ttbUseRegs k := by
  simp only [ttbUseRegs, List.mem_map, List.mem_range, ttbIdx, Reg.TTB_BUD, Reg.TTB_USE]
  omega

theorem ttbBudget_ttbNoted (k waiting : Nat) (s : State) {j c : Nat} (hj : j < 3) (hc : c < 9) :
    ttbBudget (ttbNoted k waiting s) j c = ttbBudget s j c := by
  unfold ttbBudget State.get
  rw [ttbNoted_regsBut k waiting s _ (ttbBud_notMem_ttbUseRegs k hj hc)]

/-- The period that starts runs on the budgets in force before the command (R39). -/
theorem ttbRes_ttbPeriod_self {k : Nat} (waiting : Nat) (s : State) (hk : k < 3) :
    ttbRes (ttbPeriod k waiting s) k = ⟨(List.range 9).map (ttbBudget s k), List.replicate 10 0, 0, true⟩ := by
  have hbud : (List.range 9).map (ttbBudget (ttbNoted k waiting s) k) = (List.range 9).map (ttbBudget s k) :=
    List.map_congr_left fun c hc => ttbBudget_ttbNoted k waiting s hk (List.mem_range.1 hc)
  rw [ttbPeriod_eq, ttbRes_setTtbRes_self, hbud]

theorem ttbRes_ttbPeriod_of_ne {j k : Nat} (waiting : Nat) (s : State) (hj : j < 3) (hk : k < 3) (h : j ≠ k) :
    ttbRes (ttbPeriod k waiting s) j = ttbRes s j := by
  rw [ttbPeriod_eq, ttbRes_setTtbRes_of_ne _ _ hj hk h, ttbRes_ttbNoted]

theorem exec_timetablePeriodStart {k : Nat} (waiting : Nat) (s : State) (hk : k < 3) :
    exec (.timetablePeriodStart k waiting) s = .next (ttbPeriod k waiting s) :=
  congrArg Host.Outcome.next (if_pos hk)

end Period

/-- Settles O10: noting the use of the period before writes no register of a budget, so those loaded are the ones that stood. -/
theorem budgetsReload : Obligations.BudgetsReload := by
  unfold Obligations.BudgetsReload
  intro s k waiting hk
  exact ⟨_, exec_timetablePeriodStart waiting s hk, ttbRes_ttbPeriod_self waiting s hk,
    fun j hj hjk => ttbRes_ttbPeriod_of_ne waiting s hj hk hjk, ttbPeriod_within k waiting s⟩

end Sys2Proof.Machine
end
section
/-!
How the frames of a statement compose: RegsBut and Within over one update of the state after another; what a command of a running island and an
accepted host write answer; and what a read gives after updates of other registers and other parts.
-/
namespace Sys2Proof.Machine

open State

section Regs

variable {l m : List Nat} {s t u : State}

theorem RegsBut.refl (l : List Nat) (s : State) : RegsBut l s s := fun _ _ => rfl

/-- An update that leaves the list of registers as it was. -/
theorem RegsBut.same (h : RegsBut l s t) (e : u.regs = t.regs) : RegsBut l s u := fun a ha => by
  have hu : u.reg a = t.reg a := by unfold State.reg; rw [e]
  rw [hu, h a ha]

theorem RegsBut.setReg (h : RegsBut l s t) {a : Nat} {w : Word} (ha : a ∈ l) : RegsBut l s (t.setReg a w) := h.trans (setReg_regsBut t w ha)

theorem RegsBut.setRegN (h : RegsBut l s t) {a v : Nat} (ha : a ∈ l) : RegsBut l s (t.setRegN a v) := h.setReg ha

theorem RegsBut.setRegI (h : RegsBut l s t) {a : Nat} {v : Int} (ha : a ∈ l) : RegsBut l s (t.setRegI a v) := h.setReg ha

theorem RegsBut.bumpReg (h : RegsBut l s t) {a n : Nat} (ha : a ∈ l) : RegsBut l s (t.bumpReg a n) := h.setReg ha

theorem RegsBut.put (h : RegsBut l s t) {f : RegField} {v : Nat} (hf : f.reg ∈ l) : RegsBut l s (t.put f v) := h.setReg hf

theorem RegsBut.raise (h : RegsBut l s t) {f : RegField} (hf : f.reg ∈ l) : RegsBut l s (t.raise f) := h.put hf

theorem RegsBut.lower (h : RegsBut l s t) {f : RegField} (hf : f.reg ∈ l) : RegsBut l s (t.lower f) := h.put hf

theorem RegsBut.putB (h : RegsBut l s t) {f : RegField} {b : Bool} (hf : f.reg ∈ l) : RegsBut l s (t.putB f b) := h.put hf

theorem RegsBut.bump (h : RegsBut l s t) {f : RegField} {n : Nat} (hf : f.reg ∈ l) : RegsBut l s (t.bump f n) := h.put hf

theorem RegsBut.putBit (h : RegsBut l s t) {a i : Nat} {b : Bool} (ha : a ∈ l) : RegsBut l s (t.putBit a i b) := h.put ha

theorem RegsBut.emit (h : RegsBut l s t) {o : Output} : RegsBut l s (t.emit o) := h

theorem RegsBut.ite {c : Prop} [Decidable c] (h1 : RegsBut l s t) (h2 : RegsBut l s u) : RegsBut l s (if c then t else u) := by
  split <;> assumption

theorem RegsBut.foldl {α : Type} {f : State → α → State} {xs : List α} (h : ∀ v, ∀ x ∈ xs, RegsBut l v (f v x)) (s : State) :
    RegsBut l s (xs.foldl f s) := by
  induction xs generalizing s with
  | nil => exact .refl _ _
  | cons x xs ih => exact (h s x (by simp)).trans (ih (fun v y hy => h v y (by simp [hy])) _)

/-- What changes no register changes none outside any list. -/
theorem Within.regsBut {ps : List Part} (h : Within ps s t) (hp : .regs ∉ ps) : RegsBut l s t :=
  (RegsBut.refl l s).same (h.same .regs hp)

theorem RegsBut.get (h : RegsBut l s t) {g : RegField} (hg : g.reg ∉ l) : t.get g = s.get g := by
  unfold State.get; rw [h _ hg]

theorem RegsBut.on (h : RegsBut l s t) {g : RegField} (hg : g.reg ∉ l) : t.on g = s.on g := by
  unfold State.on; rw [h.get hg]

theorem RegsBut.regN (h : RegsBut l s t) {a : Nat} (ha : a ∉ l) : t.regN a = s.regN a := by
  unfold State.regN; rw [h _ ha]

theorem RegsBut.bitOf (h : RegsBut l s t) {a i : Nat} (ha : a ∉ l) : t.bitOf a i = s.bitOf a i := by
  unfold State.bitOf; rw [h _ ha]

theorem RegsBut.held (h : RegsBut l s t) {i : Island} (ha : Reg.SYS_FLT ∉ l) : t.held i = s.held i := h.bitOf ha

end Regs

section Parts

variable {ps : List Part} {s t : State}

theorem Within.setReg (h : Within ps s t) {a : Nat} {w : Word} (hc : Part.covers [.regs] ps = true) : Within ps s (t.setReg a w) :=
  h.comp (setReg_within _ _ _) hc

theorem Within.setRegN (h : Within ps s t) {a v : Nat} (hc : Part.covers [.regs] ps = true) : Within ps s (t.setRegN a v) := h.setReg hc

theorem Within.setRegI (h : Within ps s t) {a : Nat} {v : Int} (hc : Part.covers [.regs] ps = true) : Within ps s (t.setRegI a v) := h.setReg hc

theorem Within.bumpReg (h : Within ps s t) {a n : Nat} (hc : Part.covers [.regs] ps = true) : Within ps s (t.bumpReg a n) := h.setReg hc

theorem Within.put (h : Within ps s t) {f : RegField} {v : Nat} (hc : Part.covers [.regs] ps = true) : Within ps s (t.put f v) := h.setReg hc

theorem Within.raise (h : Within ps s t) {f : RegField} (hc : Part.covers [.regs] ps = true) : Within ps s (t.raise f) := h.setReg hc

theorem Within.lower (h : Within ps s t) {f : RegField} (hc : Part.covers [.regs] ps = true) : Within ps s (t.lower f) := h.setReg hc

theorem Within.putB (h : Within ps s t) {f : RegField} {b : Bool} (hc : Part.covers [.regs] ps = true) : Within ps s (t.putB f b) := h.setReg hc

theorem Within.bump (h : Within ps s t) {f : RegField} {n : Nat} (hc : Part.covers [.regs] ps = true) : Within ps s (t.bump f n) := h.setReg hc

theorem Within.putBit (h : Within ps s t) {a i : Nat} {b : Bool} (hc : Part.covers [.regs] ps = true) : Within ps s (t.putBit a i b) := h.setReg hc

theorem Within.emit (h : Within ps s t) {o : Output} (hc : Part.covers [.out] ps = true) : Within ps s (t.emit o) := h.comp (emit_within _ _) hc

end Parts

section Answer

variable {s t : State} {a : Ans} {post : State → Prop}

theorem Answers.next_iff : Answers (.next t) post ↔ post t := ⟨fun ⟨_, h, hp⟩ => by cases h; exact hp, Answers.next⟩

theorem awake_of_not_held {i : Island} (h : s.held i = false) : awake i s a = a := if_neg (by simp [h])

/-- An event in an island that runs is carried out. -/
theorem Answers.of_not_held {i : Island} (h : s.held i = false) (ha : Answers a post) : Answers (Machine.awake i s a) post := by
  rwa [awake_of_not_held h]

end Answer

section HostOwn

variable {p : Path} {n : Nat} {eff : State → State} {s : State} {post : State → Prop}

theorem hostOwn_of_closed (h : pathOpen s p = false) : hostOwn p n eff s = s := by
  simp [hostOwn, h]

theorem hostOwn_of_low (ho : pathOpen s p = true) (h : pathLevel s p < n) :
    hostOwn p n eff s = hostReply p 1 ((hostAccess p s).raise Fd.HIF_EVT_ACCERR) := by
  simp [hostOwn, ho, h]

theorem hostOwn_of_pfw (ho : pathOpen s p = true) (hl : n ≤ pathLevel s p) (h : s.pfw = true) :
    hostOwn p n eff s = hostReply p 5 (hostAccess p s) := by
  simp [hostOwn, ho, h, Nat.not_lt.2 hl]

theorem hostOwn_of_may (h : HostMay p n s) : hostOwn p n eff s = hostReply p 0 (eff (hostAccess p s)) := by
  obtain ⟨ho, hl, hp⟩ := h
  simp [hostOwn, ho, hp, Nat.not_lt.2 hl]

/-- A host write that the interface takes up has its effect on the state that its access leaves, and is answered with status 0. -/
theorem Answers.of_hostMay (h : HostMay p n s) (hp : post (hostReply p 0 (eff (hostAccess p s)))) : Answers (.next (hostOwn p n eff s)) post :=
  ⟨_, congrArg Host.Outcome.next (hostOwn_of_may h), hp⟩

theorem toIsland_of_not_held {i : Island} (h : s.held i = false) : toIsland i eff s = eff s := if_neg (by simp [h])

theorem RegsBut.hostReply {l : List Nat} {s t : State} (h : RegsBut l s t) {status : Nat} : RegsBut l s (hostReply p status t) := h

theorem RegsBut.hostAccess {l : List Nat} (hl : hostRegs p ⊆ l) : RegsBut l s (hostAccess p s) := (hostAccess_regsBut p s).mono hl

theorem Within.hostReply {ps : List Part} {s t : State} (h : Within ps s t) {status : Nat} (hc : Part.covers [.out] ps = true) :
    Within ps s (hostReply p status t) := h.emit hc

theorem Within.hostAccess {ps : List Part} (hc : Part.covers [.regs] ps = true) : Within ps s (hostAccess p s) := (hostAccess_within p s).sub hc

@[simp] theorem hostReply_out (status : Nat) (s : State) : (hostReply p status s).out = .hostStatus p status :: s.out := rfl

end HostOwn

end Sys2Proof.Machine
end

section
/-!
The parts that each command may change, and what follows of every step (spec/24_faults_ordering.md R644, spec/00_scope.md R15): the invariant, the
isolation of keys, parameters and code banks, islands in reset, and host writes below their level. Also the queue of commands and the state
before the first start.
-/
namespace Sys2Proof.Machine

open State

section Queues

variable {s : State} {n m : Nat} {l : List Frame} {f : Frame}

theorem queue_setQueue_self (h : n < s.q.length) : queue (setQueue n l s) n = l := by
  simp [queue, setQueue, setNth, nth, List.getD_eq_getElem?_getD, h]

theorem queue_setQueue_of_ne (h : m ≠ n) : queue (setQueue n l s) m = queue s m := by
  simp [queue, setQueue, setNth, nth, List.getD_eq_getElem?_getD, Ne.symm h]

theorem queue_enqueue_self (h : n < s.q.length) : queue (enqueue n f s) n = queue s n ++ [f] := queue_setQueue_self h

theorem queue_enqueue_of_ne (h : m ≠ n) : queue (enqueue n f s) m = queue s m := queue_setQueue_of_ne h

theorem notify_of_room (type : Nat) (body : List Byte) (h : (queue s 28).length < 8) :
    notify type body s = enqueue 28 (Frame.plain (mailMessage type 0 0 body)) s := if_neg (Nat.not_le.2 h)

end Queues

/-- A list of parts leaves alone what a command may not change: the variant, and, unless the command is one of those named for it, the Grotto,
the parameters in force and the record of the code banks. -/
def Part.allowed (c : Instr) (ps : List Part) : Bool :=
  !ps.contains .variant && (keysMay c || !ps.contains .grt) && (paramsMay c || !ps.contains .params) && (banksMay c || !ps.contains .upd)

/-- Every command answers a next state that differs only in parts the command may change, and keeps the invariant. -/
theorem exec_within_allowed (c : Instr) (s : State) : ∃ ps, Part.allowed c ps = true ∧ Answers (exec c s) (Within ps s) :=
  match c with
  | .crossingWordWrite x w => ⟨_, rfl, execCrossingWordWrite_answers x w s⟩
  | .crossingHeldWordAccept x => ⟨_, rfl, execCrossingHeldWordAccept_answers x s⟩
  | .crossingLossDetect x late save => ⟨_, rfl, execCrossingLossDetect_answers x late save s⟩
  | .crossingStatsClear p bits => ⟨_, rfl, execCrossingStatsClear_answers p bits s⟩
  | .timetablePeriodStart k waiting => ⟨_, rfl, execTimetablePeriodStart_answers k waiting s⟩
  | .timetableSlotGrant k waiting work late save => ⟨_, rfl, execTimetableSlotGrant_answers k waiting work late save s⟩
  | .useStatsClear p => ⟨_, rfl, execUseStatsClear_answers p s⟩
  | .tokenRequest kind id inrush => ⟨_, rfl, execTokenRequest_answers kind id inrush s⟩
  | .tokenRelease kind id => ⟨_, rfl, execTokenRelease_answers kind id s⟩
  | .baselineRecompute pin => ⟨_, rfl, execBaselineRecompute_answers pin s⟩
  | .tokenRequestWithdraw kind id => ⟨_, rfl, execTokenRequestWithdraw_answers kind id s⟩
  | .tokenWaitTimeout kind id => ⟨_, rfl, execTokenWaitTimeout_answers kind id s⟩
  | .tokenHoldOverrun kind id => ⟨_, rfl, execTokenHoldOverrun_answers kind id s⟩
  | .laneFaultDetect k beat conv => ⟨_, rfl, execLaneFaultDetect_answers k beat conv s⟩
  | .laneRoleMove k => ⟨_, rfl, execLaneRoleMove_answers k s⟩
  | .stuckStreamDetect n beat => ⟨_, rfl, execStuckStreamDetect_answers n beat s⟩
  | .rotationStep m => ⟨_, rfl, execRotationStep_answers m s⟩
  | .trimStore => ⟨_, rfl, execTrimStore_answers s⟩
  | .metrologyBlock raws edges dev0 dev1 => ⟨_, rfl, execMetrologyBlock_answers raws edges dev0 dev1 s⟩
  | .instantValuesUpdate m => ⟨_, rfl, execInstantValuesUpdate_answers m s⟩
  | .correctionSetApply => ⟨_, rfl, execCorrectionSetApply_answers s⟩
  | .engineDeadlineMiss e => ⟨_, rfl, execEngineDeadlineMiss_answers e s⟩
  | .engineSelfCheckError e => ⟨_, rfl, execEngineSelfCheckError_answers e s⟩
  | .commitMarkSnapshot => ⟨_, rfl, execCommitMarkSnapshot_answers s⟩
  | .engineSelfTestDone e pass => ⟨_, rfl, execEngineSelfTestDone_answers e pass s⟩
  | .selfTestRetry e pass => ⟨_, rfl, execSelfTestRetry_answers e pass s⟩
  | .plannedSelfTestDue => ⟨_, rfl, execPlannedSelfTestDue_answers s⟩
  | .selfTestNow p => ⟨_, rfl, execSelfTestNow_answers p s⟩
  | .warmupEnd e => ⟨_, rfl, execWarmupEnd_answers e s⟩
  | .shadowPromote e => ⟨_, rfl, execShadowPromote_answers e s⟩
  | .shadowTimeout e => ⟨_, rfl, execShadowTimeout_answers e s⟩
  | .trialStart p => ⟨_, rfl, execTrialStart_answers p s⟩
  | .trialEnd p => ⟨_, rfl, execTrialEnd_answers p s⟩
  | .trialMaxExpiry => ⟨_, rfl, execTrialMaxExpiry_answers s⟩
  | .mismatchCountClear p => ⟨_, rfl, execMismatchCountClear_answers p s⟩
  | .blockRecordAttribute => ⟨_, rfl, execBlockRecordAttribute_answers s⟩
  | .billingTick => ⟨_, rfl, execBillingTick_answers s⟩
  | .secondCommit => ⟨_, rfl, execSecondCommit_answers s⟩
  | .waybillSigned => ⟨_, rfl, execWaybillSigned_answers s⟩
  | .waybillSignRetry => ⟨_, rfl, execWaybillSignRetry_answers s⟩
  | .viewSnap p => ⟨_, rfl, execViewSnap_answers p s⟩
  | .viewRelease p => ⟨_, rfl, execViewRelease_answers p s⟩
  | .viewSnapTimeout => ⟨_, rfl, execViewSnapTimeout_answers s⟩
  | .lowWordLatchRead p addr => ⟨_, rfl, execLowWordLatchRead_answers p addr s⟩
  | .creditTransferReceive amount number src => ⟨_, rfl, execCreditTransferReceive_answers amount number src s⟩
  | .rtcTemperatureTrim temp => ⟨_, rfl, execRtcTemperatureTrim_answers temp s⟩
  | .ptpClockCompare frac stable => ⟨_, rfl, execPtpClockCompare_answers frac stable s⟩
  | .learnedTrimStore mean => ⟨_, rfl, execLearnedTrimStore_answers mean s⟩
  | .dstChange => ⟨_, rfl, execDstChange_answers s⟩
  | .clockAdjustment src newMs frac => ⟨_, rfl, execClockAdjustment_answers src newMs frac s⟩
  | .clockSetGo p frac => ⟨_, rfl, execClockSetGo_answers p frac s⟩
  | .clockReset p frac => ⟨_, rfl, execClockReset_answers p frac s⟩
  | .clockStepApply => ⟨_, rfl, execClockStepApply_answers s⟩
  | .slewComplete => ⟨_, rfl, execSlewComplete_answers s⟩
  | .tamperPoll cover term => ⟨_, rfl, execTamperPoll_answers cover term s⟩
  | .outageBurst rms => ⟨_, rfl, execOutageBurst_answers rms s⟩
  | .vbatMeasure mv => ⟨_, rfl, execVbatMeasure_answers mv s⟩
  | .hostDisconnect p => ⟨_, rfl, execHostDisconnect_answers p s⟩
  | .hostReconnect p => ⟨_, rfl, execHostReconnect_answers p s⟩
  | .relayFeedbackTimeout shown => ⟨_, rfl, execRelayFeedbackTimeout_answers shown s⟩
  | .relayCloseRetry => ⟨_, rfl, execRelayCloseRetry_answers s⟩
  | .relayFeedbackUncommanded level => ⟨_, rfl, execRelayFeedbackUncommanded_answers level s⟩
  | .lockstepFault => ⟨_, rfl, execLockstepFault_answers s⟩
  | .safetyCycle who => ⟨_, rfl, execSafetyCycle_answers who s⟩
  | .contactorDelayExpiry => ⟨_, rfl, execContactorDelayExpiry_answers s⟩
  | .discrepancyTimeout pair => ⟨_, rfl, execDiscrepancyTimeout_answers pair s⟩
  | .inputTestPulse tp closed wrong => ⟨_, rfl, execInputTestPulse_answers tp closed wrong s⟩
  | .outputTestPulse output pass => ⟨_, rfl, execOutputTestPulse_answers output pass s⟩
  | .outputOffCheck output conducts => ⟨_, rfl, execOutputOffCheck_answers output conducts s⟩
  | .safeResetRelease held since refire => ⟨_, rfl, execSafeResetRelease_answers held since refire s⟩
  | .resetStuckTimeout => ⟨_, rfl, execResetStuckTimeout_answers s⟩
  | .sealChange pattern => ⟨_, rfl, execSealChange_answers pattern s⟩
  | .coreWordReceive seed => ⟨_, rfl, execCoreWordReceive_answers seed s⟩
  | .coreTimeout => ⟨_, rfl, execCoreTimeout_answers s⟩
  | .metroTimeout => ⟨_, rfl, execMetroTimeout_answers s⟩
  | .causeResumeHoldEnd n => ⟨_, rfl, execCauseResumeHoldEnd_answers n s⟩
  | .closeRequest => ⟨_, rfl, execCloseRequest_answers s⟩
  | .closeFeedbackDone => ⟨_, rfl, execCloseFeedbackDone_answers s⟩
  | .openRequest => ⟨_, rfl, execOpenRequest_answers s⟩
  | .contactorFeedbackChange n a b time => ⟨_, rfl, execContactorFeedbackChange_answers n a b time s⟩
  | .contactorFeedbackTimeout n => ⟨_, rfl, execContactorFeedbackTimeout_answers n s⟩
  | .weldCheckTimeout => ⟨_, rfl, execWeldCheckTimeout_answers s⟩
  | .weldClear => ⟨_, rfl, execWeldClear_answers s⟩
  | .safeTelegramSend time => ⟨_, rfl, execSafeTelegramSend_answers time s⟩
  | .safeTelegramReceive arrival => ⟨_, rfl, execSafeTelegramReceive_answers arrival s⟩
  | .telegramTimeout c => ⟨_, rfl, execTelegramTimeout_answers c s⟩
  | .rcmSelfTestStart => ⟨_, rfl, execRcmSelfTestStart_answers s⟩
  | .rcmSelfTestRequest p => ⟨_, rfl, execRcmSelfTestRequest_answers p s⟩
  | .rcmSelfTestDone plus minus => ⟨_, rfl, execRcmSelfTestDone_answers plus minus s⟩
  | .rcmSelfTestRetry => ⟨_, rfl, execRcmSelfTestRetry_answers s⟩
  | .imdHalfCycleEnd sns vdc rise => ⟨_, rfl, execImdHalfCycleEnd_answers sns vdc rise s⟩
  | .dcTripFire m => ⟨_, rfl, execDcTripFire_answers m s⟩
  | .tripPathTestDue => ⟨_, rfl, execTripPathTestDue_answers s⟩
  | .tripPathTestRequest p => ⟨_, rfl, execTripPathTestRequest_answers p s⟩
  | .tripPathTestStart => ⟨_, rfl, execTripPathTestStart_answers s⟩
  | .tripPathTestDone pairs laneA laneB clear => ⟨_, rfl, execTripPathTestDone_answers pairs laneA laneB clear s⟩
  | .pilotDemandReceive => ⟨_, rfl, execPilotDemandReceive_answers s⟩
  | .pilotSessionRequest word => ⟨_, rfl, execPilotSessionRequest_answers word s⟩
  | .pilotX06Silence => ⟨_, rfl, execPilotX06Silence_answers s⟩
  | .pilotStateChange high low age => ⟨_, rfl, execPilotStateChange_answers high low age s⟩
  | .proximityMeasure mohm => ⟨_, rfl, execProximityMeasure_answers mohm s⟩
  | .gpBurstTransmit n => ⟨_, rfl, execGpBurstTransmit_answers n s⟩
  | .gpFrameReceive prio bytes => ⟨_, rfl, execGpFrameReceive_answers prio bytes s⟩
  | .cmSlacParmReq runId mac security age => ⟨_, rfl, execCmSlacParmReq_answers runId mac security age s⟩
  | .cmMnbcSoundInd runId groups => ⟨_, rfl, execCmMnbcSoundInd_answers runId groups s⟩
  | .soundingEnd => ⟨_, rfl, execSoundingEnd_answers s⟩
  | .slacInitTimeout => ⟨_, rfl, execSlacInitTimeout_answers s⟩
  | .cmAttenCharRsp runId => ⟨_, rfl, execCmAttenCharRsp_answers runId s⟩
  | .attenCharRepeatTimeout => ⟨_, rfl, execAttenCharRepeatTimeout_answers s⟩
  | .cmValidateReq => ⟨_, rfl, execCmValidateReq_answers s⟩
  | .toggleWindowEnd count => ⟨_, rfl, execToggleWindowEnd_answers count s⟩
  | .cmSlacMatchReq runId mac => ⟨_, rfl, execCmSlacMatchReq_answers runId mac s⟩
  | .matchWaitTimeout => ⟨_, rfl, execMatchWaitTimeout_answers s⟩
  | .coordReportReceive => ⟨_, rfl, execCoordReportReceive_answers s⟩
  | .coordWindowEnd => ⟨_, rfl, execCoordWindowEnd_answers s⟩
  | .coordWithdrawReceive since => ⟨_, rfl, execCoordWithdrawReceive_answers since s⟩
  | .t1sFrameReceive prio bytes => ⟨_, rfl, execT1sFrameReceive_answers prio bytes s⟩
  | .t1sLinkTimeout => ⟨_, rfl, execT1sLinkTimeout_answers s⟩
  | .sessionPilotEvent => ⟨_, rfl, execSessionPilotEvent_answers s⟩
  | .seccDiscoveryRequest => ⟨_, rfl, execSeccDiscoveryRequest_answers s⟩
  | .applicationRequest m => ⟨_, rfl, execApplicationRequest_answers m s⟩
  | .protocolTimeout => ⟨_, rfl, execProtocolTimeout_answers s⟩
  | .heldCardExpiry => ⟨_, rfl, execHeldCardExpiry_answers s⟩
  | .hostAuthAccept p tag => ⟨_, rfl, execHostAuthAccept_answers p tag s⟩
  | .hostAuthReject p tag => ⟨_, rfl, execHostAuthReject_answers p tag s⟩
  | .hostAuthRevoke p => ⟨_, rfl, execHostAuthRevoke_answers p s⟩
  | .authWaitTimeout => ⟨_, rfl, execAuthWaitTimeout_answers s⟩
  | .pncChainCheckDone pass => ⟨_, rfl, execPncChainCheckDone_answers pass s⟩
  | .hostRemoteStart p => ⟨_, rfl, execHostRemoteStart_answers p s⟩
  | .hostSessionStop p => ⟨_, rfl, execHostSessionStop_answers p s⟩
  | .hostAbsent => ⟨_, rfl, execHostAbsent_answers s⟩
  | .limitUpdate => ⟨_, rfl, execLimitUpdate_answers s⟩
  | .setpointUpdate => ⟨_, rfl, execSetpointUpdate_answers s⟩
  | .cableCheckTimeout => ⟨_, rfl, execCableCheckTimeout_answers s⟩
  | .prechargeTimeout => ⟨_, rfl, execPrechargeTimeout_answers s⟩
  | .siteGrantArrival => ⟨_, rfl, execSiteGrantArrival_answers s⟩
  | .siteLeaseRenew => ⟨_, rfl, execSiteLeaseRenew_answers s⟩
  | .siteLeaseExpiry => ⟨_, rfl, execSiteLeaseExpiry_answers s⟩
  | .pauseTokenRelease => ⟨_, rfl, execPauseTokenRelease_answers s⟩
  | .converterSetptSend => ⟨_, rfl, execConverterSetptSend_answers s⟩
  | .converterSyncSend => ⟨_, rfl, execConverterSyncSend_answers s⟩
  | .converterStatusReceive port n f => ⟨_, rfl, execConverterStatusReceive_answers port n f s⟩
  | .converterCapabReceive port n f => ⟨_, rfl, execConverterCapabReceive_answers port n f s⟩
  | .converterStatusTimeout n => ⟨_, rfl, execConverterStatusTimeout_answers n s⟩
  | .stopTimeout => ⟨_, rfl, execStopTimeout_answers s⟩
  | .keyGenerate p => ⟨_, rfl, execKeyGenerate_answers p s⟩
  | .keyWrite p => ⟨_, rfl, execKeyWrite_answers p s⟩
  | .keyImport p => ⟨_, rfl, execKeyImport_answers p s⟩
  | .keyInvalidate p => ⟨_, rfl, execKeyInvalidate_answers p s⟩
  | .keyDestroy p => ⟨_, rfl, execKeyDestroy_answers p s⟩
  | .keyReadpub p => ⟨_, rfl, execKeyReadpub_answers p s⟩
  | .orphanZero => ⟨_, rfl, execOrphanZero_answers s⟩
  | .keyDataExpiry => ⟨_, rfl, execKeyDataExpiry_answers s⟩
  | .cryptoRequest r => ⟨_, rfl, execCryptoRequest_answers r s⟩
  | .cryptoOperationDone cls => ⟨_, rfl, execCryptoOperationDone_answers cls s⟩
  | .drbgReseed healthy => ⟨_, rfl, execDrbgReseed_answers healthy s⟩
  | .ethFrameSend w hold dt => ⟨_, rfl, execEthFrameSend_answers w hold dt s⟩
  | .frameLaunch dt => ⟨_, rfl, execFrameLaunch_answers dt s⟩
  | .ethFrameReceive p f fcs dt => ⟨_, rfl, execEthFrameReceive_answers p f fcs dt s⟩
  | .nodeEntryExpiry src => ⟨_, rfl, execNodeEntryExpiry_answers src s⟩
  | .supervisionFrameSend => ⟨_, rfl, execSupervisionFrameSend_answers s⟩
  | .groupMessageReceive p m => ⟨_, rfl, execGroupMessageReceive_answers p m s⟩
  | .telegramFrameFilter p f => ⟨_, rfl, execTelegramFrameFilter_answers p f s⟩
  | .ptpSyncReceive p dom seq twoStep origin corr residence dt => ⟨_, rfl, execPtpSyncReceive_answers p dom seq twoStep origin corr residence dt s⟩
  | .ptpAnnounceReceive p dom gm rank utc => ⟨_, rfl, execPtpAnnounceReceive_answers p dom gm rank utc s⟩
  | .announceTimeout p dom => ⟨_, rfl, execAnnounceTimeout_answers p dom s⟩
  | .ptpSyncSend dt => ⟨_, rfl, execPtpSyncSend_answers dt s⟩
  | .revertTimeout => ⟨_, rfl, execRevertTimeout_answers s⟩
  | .stSlewComplete => ⟨_, rfl, execStSlewComplete_answers s⟩
  | .ppsSecond => ⟨_, rfl, execPpsSecond_answers s⟩
  | .evtInEdge dt => ⟨_, rfl, execEvtInEdge_answers dt s⟩
  | .ethLinkUp p speed => ⟨_, rfl, execEthLinkUp_answers p speed s⟩
  | .ethLinkDown p => ⟨_, rfl, execEthLinkDown_answers p s⟩
  | .portEnableWrite p w => ⟨_, rfl, execPortEnableWrite_answers p w s⟩
  | .canBusOff k => ⟨_, rfl, execCanBusOff_answers k s⟩
  | .pollSend joinDue ref => ⟨_, rfl, execPollSend_answers joinDue ref s⟩
  | .pollReceive rx another => ⟨_, rfl, execPollReceive_answers rx another s⟩
  | .respSlotStart k => ⟨_, rfl, execRespSlotStart_answers k s⟩
  | .respReceive k rx => ⟨_, rfl, execRespReceive_answers k rx s⟩
  | .slotFail k => ⟨_, rfl, execSlotFail_answers k s⟩
  | .joinackReceive => ⟨_, rfl, execJoinackReceive_answers s⟩
  | .joinConflictRetry => ⟨_, rfl, execJoinConflictRetry_answers s⟩
  | .slaveLost => ⟨_, rfl, execSlaveLost_answers s⟩
  | .busyNodeSlow n => ⟨_, rfl, execBusyNodeSlow_answers n s⟩
  | .ameneFrameReceive rx => ⟨_, rfl, execAmeneFrameReceive_answers rx s⟩
  | .zcEdge time => ⟨_, rfl, execZcEdge_answers time s⟩
  | .powerShareRun => ⟨_, rfl, execPowerShareRun_answers s⟩
  | .shareReqReceive => ⟨_, rfl, execShareReqReceive_answers s⟩
  | .shareRelReceive => ⟨_, rfl, execShareRelReceive_answers s⟩
  | .heldPowerExpiry post => ⟨_, rfl, execHeldPowerExpiry_answers post s⟩
  | .setparReceive => ⟨_, rfl, execSetparReceive_answers s⟩
  | .bridgedMessageReceive => ⟨_, rfl, execBridgedMessageReceive_answers s⟩
  | .dlmsAarq assoc wPort challenge => ⟨_, rfl, execDlmsAarq_answers assoc wPort challenge s⟩
  | .hlsPass3 r sig => ⟨_, rfl, execHlsPass3_answers r sig s⟩
  | .hlsTimeout assoc => ⟨_, rfl, execHlsTimeout_answers assoc s⟩
  | .associationIdleTimeout assoc => ⟨_, rfl, execAssociationIdleTimeout_answers assoc s⟩
  | .dlmsGet r ask => ⟨_, rfl, execDlmsGet_answers r ask s⟩
  | .dlmsClockSet r newMs frac => ⟨_, rfl, execDlmsClockSet_answers r newMs frac s⟩
  | .dlmsShiftTime r seconds => ⟨_, rfl, execDlmsShiftTime_answers r seconds s⟩
  | .dlmsBillingEndCommand r value => ⟨_, rfl, execDlmsBillingEndCommand_answers r value s⟩
  | .dlmsCreditTransfer r amount number => ⟨_, rfl, execDlmsCreditTransfer_answers r amount number s⟩
  | .dlmsCalendarWrite r part => ⟨_, rfl, execDlmsCalendarWrite_answers r part s⟩
  | .activatePassiveCalendar r => ⟨_, rfl, execActivatePassiveCalendar_answers r s⟩
  | .specialDayInsert r who year month day profile => ⟨_, rfl, execSpecialDayInsert_answers r who year month day profile s⟩
  | .specialDayDelete r who => ⟨_, rfl, execSpecialDayDelete_answers r who s⟩
  | .stagingTimeout => ⟨_, rfl, execStagingTimeout_answers s⟩
  | .remoteDisconnect r => ⟨_, rfl, execRemoteDisconnect_answers r s⟩
  | .remoteReconnect r => ⟨_, rfl, execRemoteReconnect_answers r s⟩
  | .readerPoll ext cards => ⟨_, rfl, execReaderPoll_answers ext cards s⟩
  | .layer4IdleTimeout => ⟨_, rfl, execLayer4IdleTimeout_answers s⟩
  | .listAdd p len => ⟨_, rfl, execListAdd_answers p len s⟩
  | .listRemove p len => ⟨_, rfl, execListRemove_answers p len s⟩
  | .listClear p => ⟨_, rfl, execListClear_answers p s⟩
  | .tagSnapshotRefresh => ⟨_, rfl, execTagSnapshotRefresh_answers s⟩
  | .tagFieldDetect => ⟨_, rfl, execTagFieldDetect_answers s⟩
  | .tagFieldLost secs => ⟨_, rfl, execTagFieldLost_answers secs s⟩
  | .tagPowerRemove => ⟨_, rfl, execTagPowerRemove_answers s⟩
  | .tagWupaReqa wupa anticoll ms => ⟨_, rfl, execTagWupaReqa_answers wupa anticoll ms s⟩
  | .tagRats => ⟨_, rfl, execTagRats_answers s⟩
  | .tagHlta => ⟨_, rfl, execTagHlta_answers s⟩
  | .tagDeselect => ⟨_, rfl, execTagDeselect_answers s⟩
  | .tagSelect aid => ⟨_, rfl, execTagSelect_answers aid s⟩
  | .tagRead off le => ⟨_, rfl, execTagRead_answers off le s⟩
  | .tagWrite off data => ⟨_, rfl, execTagWrite_answers off data s⟩
  | .tagStatus le secs => ⟨_, rfl, execTagStatus_answers le secs s⟩
  | .tagUnknownCommand => ⟨_, rfl, execTagUnknownCommand_answers s⟩
  | .tagTimeLimit secs => ⟨_, rfl, execTagTimeLimit_answers secs s⟩
  | .tagIgnoreEnd => ⟨_, rfl, execTagIgnoreEnd_answers s⟩
  | .hostTagWrite p page => ⟨_, rfl, execHostTagWrite_answers p page s⟩
  | .loadSwitchCommand p n on => ⟨_, rfl, execLoadSwitchCommand_answers p n on s⟩
  | .loadSwitchClearLatch p n => ⟨_, rfl, execLoadSwitchClearLatch_answers p n s⟩
  | .lswTokenGranted n => ⟨_, rfl, execLswTokenGranted_answers n s⟩
  | .lswTokenRefused n reason => ⟨_, rfl, execLswTokenRefused_answers n reason s⟩
  | .lswTokenRetry n => ⟨_, rfl, execLswTokenRetry_answers n s⟩
  | .inrushWindowClose n => ⟨_, rfl, execInrushWindowClose_answers n s⟩
  | .overcurrentTrip n => ⟨_, rfl, execOvercurrentTrip_answers n s⟩
  | .shortTrip n => ⟨_, rfl, execShortTrip_answers n s⟩
  | .thermalTrip n oc => ⟨_, rfl, execThermalTrip_answers n oc s⟩
  | .thermalLatchClear n => ⟨_, rfl, execThermalLatchClear_answers n s⟩
  | .retryTimerExpiry n => ⟨_, rfl, execRetryTimerExpiry_answers n s⟩
  | .retryCountReset n => ⟨_, rfl, execRetryCountReset_answers n s⟩
  | .vlsUndervoltage mv => ⟨_, rfl, execVlsUndervoltage_answers mv s⟩
  | .vlsRecovery mv => ⟨_, rfl, execVlsRecovery_answers mv s⟩
  | .lowSideOpen n => ⟨_, rfl, execLowSideOpen_answers n s⟩
  | .lowSideRestored n => ⟨_, rfl, execLowSideRestored_answers n s⟩
  | .limpInputChange low lh => ⟨_, rfl, execLimpInputChange_answers low lh s⟩
  | .limpTimeout => ⟨_, rfl, execLimpTimeout_answers s⟩
  | .serviceWordReceive image => ⟨_, rfl, execServiceWordReceive_answers image s⟩
  | .loadDiagnostic n cur temp opened stuck => ⟨_, rfl, execLoadDiagnostic_answers n cur temp opened stuck s⟩
  | .displayPageAdvance => ⟨_, rfl, execDisplayPageAdvance_answers s⟩
  | .displayStale => ⟨_, rfl, execDisplayStale_answers s⟩
  | .displayFrameReadback misses => ⟨_, rfl, execDisplayFrameReadback_answers misses s⟩
  | .confirmedDisplayEnd => ⟨_, rfl, execConfirmedDisplayEnd_answers s⟩
  | .displayHold p => ⟨_, rfl, execDisplayHold_answers p s⟩
  | .displayNext p => ⟨_, rfl, execDisplayNext_answers p s⟩
  | .lanternPowerUp vlcd => ⟨_, rfl, execLanternPowerUp_answers vlcd s⟩
  | .vlcdRailRetry vlcd => ⟨_, rfl, execVlcdRailRetry_answers vlcd s⟩
  | .paramRead p cmd => ⟨_, rfl, execParamRead_answers p cmd s⟩
  | .paramWrite p cmd => ⟨_, rfl, execParamWrite_answers p cmd s⟩
  | .updateArm p mv => ⟨_, rfl, execUpdateArm_answers p mv s⟩
  | .updateDisarm p => ⟨_, rfl, execUpdateDisarm_answers p s⟩
  | .ownerLockCommand p => ⟨_, rfl, execOwnerLockCommand_answers p s⟩
  | .updateCheckDone ok => ⟨_, rfl, execUpdateCheckDone_answers ok s⟩
  | .updateCopyDone bad => ⟨_, rfl, execUpdateCopyDone_answers bad s⟩
  | .updateSwitchEval vbat => ⟨_, rfl, execUpdateSwitchEval_answers vbat s⟩
  | .trialServicesReport => ⟨_, rfl, execTrialServicesReport_answers s⟩
  | .updateTrialTimeout => ⟨_, rfl, execUpdateTrialTimeout_answers s⟩
  | .firmwareFaultReport => ⟨_, rfl, execFirmwareFaultReport_answers s⟩
  | .vsysRise mv => ⟨_, rfl, execVsysRise_answers mv s⟩
  | .powerGood who => ⟨_, rfl, execPowerGood_answers who s⟩
  | .powerFailWarning mv late save => ⟨_, rfl, execPowerFailWarning_answers mv late save s⟩
  | .powerFailRelease mv => ⟨_, rfl, execPowerFailRelease_answers mv s⟩
  | .saveRestart late dur => ⟨_, rfl, execSaveRestart_answers late dur s⟩
  | .brownOut ms => ⟨_, rfl, execBrownOut_answers ms s⟩
  | .clockFault who spareOk late save => ⟨_, rfl, execClockFault_answers who spareOk late save s⟩
  | .batteryCrystalFault => ⟨_, rfl, execBatteryCrystalFault_answers s⟩
  | .batterySpareReturn ok err => ⟨_, rfl, execBatterySpareReturn_answers ok err s⟩
  | .xbCalibrate p => ⟨_, rfl, execXbCalibrate_answers p s⟩
  | .xbCalibrateDone cycles temp => ⟨_, rfl, execXbCalibrateDone_answers cycles temp s⟩
  | .resetNRequest late save => ⟨_, rfl, execResetNRequest_answers late save s⟩
  | .resetNRelease => ⟨_, rfl, execResetNRelease_answers s⟩
  | .hostModuleReset p late save => ⟨_, rfl, execHostModuleReset_answers p late save s⟩
  | .hostCoresReset p => ⟨_, rfl, execHostCoresReset_answers p s⟩
  | .coreWatchdogExpiry late save => ⟨_, rfl, execCoreWatchdogExpiry_answers late save s⟩
  | .dieTemperatureWarm => ⟨_, rfl, execDieTemperatureWarm_answers s⟩
  | .dieTemperatureCool => ⟨_, rfl, execDieTemperatureCool_answers s⟩
  | .dieTemperatureShutdown late save => ⟨_, rfl, execDieTemperatureShutdown_answers late save s⟩
  | .scrubPassDone => ⟨_, rfl, execScrubPassDone_answers s⟩
  | .scrubLate => ⟨_, rfl, execScrubLate_answers s⟩
  | .sectorMoveDone m unit mism => ⟨_, rfl, execSectorMoveDone_answers m unit mism s⟩
  | .healthUpdate mram nvm => ⟨_, rfl, execHealthUpdate_answers mram nvm s⟩
  | .shadowArm p ch cfg => ⟨_, rfl, execShadowArm_answers p ch cfg s⟩
  | .descriptorComplete ch => ⟨_, rfl, execDescriptorComplete_answers ch s⟩
  | .shunterChannelStop p v => ⟨_, rfl, execShunterChannelStop_answers p v s⟩
  | .hostRegisterRead p crc addr n => ⟨_, rfl, execHostRegisterRead_answers p crc addr n s⟩
  | .hostRegisterWrite p crc addr words facts => ⟨_, rfl, execHostRegisterWrite_answers p crc addr words facts s⟩
  | .eventBitClear p addr bits same => ⟨_, rfl, execEventBitClear_answers p addr bits same s⟩
  | .mailboxPush p crc q msg => ⟨_, rfl, execMailboxPush_answers p crc q msg s⟩
  | .mailboxPop p crc q => ⟨_, rfl, execMailboxPop_answers p crc q s⟩
  | .hifEthConnect => ⟨_, rfl, execHifEthConnect_answers s⟩
  | .hifEthClose => ⟨_, rfl, execHifEthClose_answers s⟩
  | .sessionNewChallenge p => ⟨_, rfl, execSessionNewChallenge_answers p s⟩
  | .sessionSubmit p level => ⟨_, rfl, execSessionSubmit_answers p level s⟩
  | .sessionVerifyDone p => ⟨_, rfl, execSessionVerifyDone_answers p s⟩
  | .sessionClose p => ⟨_, rfl, execSessionClose_answers p s⟩
  | .sessionIdleTimeout p => ⟨_, rfl, execSessionIdleTimeout_answers p s⟩
  | .sessionLockEnd p => ⟨_, rfl, execSessionLockEnd_answers p s⟩
  | .mbReadWaybill => ⟨_, rfl, execMbReadWaybill_answers s⟩
  | .mbReadLog => ⟨_, rfl, execMbReadLog_answers s⟩
  | .mbReadProfile => ⟨_, rfl, execMbReadProfile_answers s⟩
  | .mbReadOutage => ⟨_, rfl, execMbReadOutage_answers s⟩
  | .mbWriteTable => ⟨_, rfl, execMbWriteTable_answers s⟩
  | .mbWriteFlash => ⟨_, rfl, execMbWriteFlash_answers s⟩
  | .mbCardActivate found => ⟨_, rfl, execMbCardActivate_answers found s⟩
  | .mbCardExchange resp => ⟨_, rfl, execMbCardExchange_answers resp s⟩
  | .mbCardDeselect => ⟨_, rfl, execMbCardDeselect_answers s⟩
  | .mbRemoteId => ⟨_, rfl, execMbRemoteId_answers s⟩
  | .mbCredit => ⟨_, rfl, execMbCredit_answers s⟩
  | .islandFault who cause late save => ⟨_, rfl, execIslandFault_answers who cause late save s⟩
  | .islandRestartDone who bad => ⟨_, rfl, execIslandRestartDone_answers who bad s⟩
  | .batteryIslandRestart => ⟨_, rfl, execBatteryIslandRestart_answers s⟩
  | .moduleFault who cause late save => ⟨_, rfl, execModuleFault_answers who cause late save s⟩
  | .pilotWordTimeout => ⟨_, rfl, execPilotWordTimeout_answers s⟩
  | .safetyStatusReceive => ⟨_, rfl, execSafetyStatusReceive_answers s⟩
  | .associationRelease assoc => ⟨_, rfl, execAssociationRelease_answers assoc s⟩
  | .disconnectOpenTimeout => ⟨_, rfl, execDisconnectOpenTimeout_answers s⟩
  | .soOutputOvercurrent n => ⟨_, rfl, execSoOutputOvercurrent_answers n s⟩
  | .vsysHeadCrossing mv => ⟨_, rfl, execVsysHeadCrossing_answers mv s⟩
  | .ptpFollowUpReceive p dom seq origin corr residence => ⟨_, rfl, execPtpFollowUpReceive_answers p dom seq origin corr residence s⟩
  | .ptpDelayReqSend p dom dt => ⟨_, rfl, execPtpDelayReqSend_answers p dom dt s⟩
  | .ptpDelayRespReceive p dom seq received corr => ⟨_, rfl, execPtpDelayRespReceive_answers p dom seq received corr s⟩
  | .ptpDelayReqReceive p dom seq asker corr residence dt => ⟨_, rfl, execPtpDelayReqReceive_answers p dom seq asker corr residence dt s⟩
  | .ptpAnnounceSend => ⟨_, rfl, execPtpAnnounceSend_answers s⟩
  | .busOffRecovery k => ⟨_, rfl, execBusOffRecovery_answers k s⟩
  | .copyTokenRetry => ⟨_, rfl, execCopyTokenRetry_answers s⟩
  | .dieCooledRestart => ⟨_, rfl, execDieCooledRestart_answers s⟩

/-- Settles O5: a step is the idle step or a command, and both change the state within parts that keep the invariant. -/
theorem stepKeepsInv : Obligations.StepKeepsInv := by
  unfold Obligations.StepKeepsInv
  intro s hs
  unfold step
  split
  · exact Answers.next ((irqNotify_within s).inv hs)
  · next c rest _ =>
    obtain ⟨ps, -, t, he, hw⟩ := exec_within_allowed c { s with pending := rest }
    exact ⟨t, he, hw.inv ((Within.upd_pending s rest).inv hs)⟩

theorem Part.notMem_of_contains {ps : List Part} {p : Part} {b : Bool} (h : (b || !ps.contains p) = true) (hb : b = false) : p ∉ ps := by
  simpa [hb] using h

/-- Settles O8: the parts that a command may change are checked against the lists of the commands named. -/
theorem isolation : Obligations.Isolation := by
  unfold Obligations.Isolation
  intro s c
  obtain ⟨ps, ha, t, he, hw⟩ := exec_within_allowed c s
  simp only [Part.allowed, Bool.and_eq_true] at ha
  obtain ⟨⟨⟨hvar, hgrt⟩, hpar⟩, hupd⟩ := ha
  exact ⟨t, he, hw.same .variant (by simpa using hvar), fun h => hw.same .grt (Part.notMem_of_contains hgrt h),
    fun h => hw.same .params (Part.notMem_of_contains hpar h), fun h => hw.same .upd (Part.notMem_of_contains hupd h)⟩

/-- Settles O7: the meaning of each command named is guarded by `awake` with the command's island. -/
theorem heldIslands : Obligations.HeldIslands := by
  unfold Obligations.HeldIslands
  intro s c i hc hh
  cases c <;> cases hc
  all_goals exact if_pos hh

/-- A command with a rule of its own is a host write whose effect passes the check of its level. -/
theorem exec_of_hostNeeds {c : Instr} {p : Path} {n : Nat} (h : hostNeeds c = some (p, n)) (s : State) :
    ∃ eff, exec c s = .next (hostOwn p n eff s) := by
  cases c <;> cases h
  all_goals exact ⟨_, rfl⟩

/-- Settles O6: each such command is one `hostOwn`, which refuses before the effect. -/
theorem hostLevels : Obligations.HostLevels := by
  unfold Obligations.HostLevels
  refine ⟨fun s c p n hc ho hl => ?_, fun s c p n hc ho hl hp => ?_, fun s c p n hc ho => ?_⟩ <;>
    obtain ⟨eff, he⟩ := exec_of_hostNeeds hc s
  · refine ⟨_, he, ?_⟩
    rw [hostOwn_of_low ho hl]
    exact ⟨by simp, on_raise (hostAccess p s) Fd.HIF_EVT_ACCERR (by decide) (by decide),
      ((RegsBut.hostAccess (List.subset_cons_self _ _)).raise (by simp)).hostReply, ((Within.hostAccess rfl).raise rfl).hostReply rfl⟩
  · refine ⟨_, he, ?_⟩
    rw [hostOwn_of_pfw ho hl hp]
    exact ⟨by simp, (hostAccess_regsBut p s).hostReply, (Within.hostAccess rfl).hostReply rfl⟩
  · rw [he, hostOwn_of_closed ho]

/-- Settles O1: that is how a step is defined. -/
theorem frontOfQueue : Obligations.FrontOfQueue := by
  unfold Obligations.FrontOfQueue
  intro s c rest h
  unfold step
  rw [h]

section Idle

variable {s : State}

theorem step_of_empty (h : s.pending = []) : step s = .next (irqNotify s) := by
  unfold step
  rw [h]

theorem irqNotify_of_same (h : irqNow s = s.mail.irq) : irqNotify s = s := if_pos h

/-- Interrupt sources are announced by message only to a host that takes them so (R639). -/
theorem irqNotify_of_no_messages (h : s.parN Par.HIF_MBPATH ≠ 1) : irqNotify s = setMail { s.mail with irq := irqNow s } s := by
  unfold irqNotify
  by_cases he : irqNow s = s.mail.irq
  · simp [he, setMail]
  · simp [he, h]

theorem irqNotify_of_first (hp : s.parN Par.HIF_MBPATH = 1) (hr : s.running = true) (h0 : s.mail.irq = 0) (hn : irqNow s ≠ 0) :
    irqNotify s = notify 0x83 (Bits.leBytes 4 (isrcWord s).toNat) (setMail { s.mail with irq := irqNow s } s) := by
  unfold irqNotify
  simp [h0, hn, hp, hr]

end Idle

/-- Settles O2: an empty queue leaves `irqNotify`, by its three cases. -/
theorem emptyQueueIdles : Obligations.EmptyQueueIdles := by
  unfold Obligations.EmptyQueueIdles
  refine ⟨fun s h hn => ?_, fun s h hp => ?_, fun s h hp hr h0 hn hq hroom => ?_⟩
  · rw [step_of_empty h, irqNotify_of_same hn]
  · rw [step_of_empty h, irqNotify_of_no_messages hp]
    exact Answers.next ⟨rfl, RegsBut.refl _ _, setMail_within _ _⟩
  · rw [step_of_empty h, irqNotify_of_first hp hr h0 hn, notify_of_room (s := setMail { s.mail with irq := irqNow s } s) _ _ hroom]
    have hw : Within [.mail, .q] s (setMail { s.mail with irq := irqNow s } s) := (setMail_within _ _).sub rfl
    exact Answers.next ⟨rfl, queue_enqueue_self (by simp [setMail, hq]), (RegsBut.refl _ s).same rfl, hw.comp (enqueue_within _ _ _) rfl⟩

/-- Settles O3: nothing is listed at reset, so every read is of a default. -/
theorem resetState : Obligations.ResetState := by
  unfold Obligations.ResetState
  refine ⟨fun _ => rfl, fun _ => rfl, rfl, rfl, rfl, fun x _ => nth_replicate 21 x _, fun k => nth_replicate 32 k _, by decide, rfl, by decide,
    fun i => ?_⟩
  cases i <;> decide

end Sys2Proof.Machine
end

section
/-!
Reads of registers and fields through updates, in the form that simp uses: a write of the same field, of another field, of another register, and an
update that keeps the list of registers.
-/
namespace Sys2Proof.Machine

open State

section Reads

/-- Addresses of registers are names that reduce to numerals: their equation is one that simp evaluates. -/
@[simp] theorem succ_eq_succ (m n : Nat) : (Nat.succ m = Nat.succ n) = ((m == n) = true) := by rw [beq_iff_eq, Nat.succ.injEq]

/-- Addresses of the entries of a table agree only for one index. -/
@[simp] theorem stride_mul_inj (k m n : Nat) (h : 0 < k) : (k * m = k * n) = (m = n) := by rw [Nat.mul_left_cancel_iff h]

/-- A counter that saturates stays below a bound above its greatest value. -/
@[simp] theorem min_lt_iff_or (a b c : Nat) : min a b < c ↔ a < c ∨ b < c := by omega

/-- A field of a list of registers, for states that are written out. -/
def fieldOf (r : List (Nat × Word)) (g : RegField) : Nat := Bits.get (Sparse.get RegMap.resetOf r g.reg) g.lo g.width

/-- A register of a list of registers, for states that are written out. -/
def wordOf (r : List (Nat × Word)) (a : Nat) : Word := Sparse.get RegMap.resetOf r a

/-- A parameter of a list of parameters, for states that are written out. -/
def valueOf (r : List (Nat × Int)) (q : Nat) : Int := Sparse.get ParamMap.default r q

variable (s : State)

@[simp] theorem fieldOf_regs (g : RegField) : fieldOf s.regs g = s.get g := rfl

@[simp] theorem wordOf_regs (a : Nat) : wordOf s.regs a = s.reg a := rfl

@[simp] theorem valueOf_params (q : Nat) : valueOf s.params q = s.par q := rfl

@[simp] theorem get_mk (a0 a1 a2 a3 a4 a5 a6 a7 a8 a9 a10 a11 a12 a13 a14 a15 a16 a17 a18 a19 a20 a21 a22 a23 a24 a25 a26 a27 a28 a29 a30 a31 a32 a33
    a34 a35 a36 a37 a38 a39 a40 a41 a42 a43 a44 a45) (g : RegField) :
    State.get (State.mk a0 a1 a2 a3 a4 a5 a6 a7 a8 a9 a10 a11 a12 a13 a14 a15 a16 a17 a18 a19 a20 a21 a22 a23 a24 a25 a26 a27 a28 a29 a30 a31 a32 a33
      a34 a35 a36 a37 a38 a39 a40 a41 a42 a43 a44 a45) g = fieldOf a1 g := rfl

@[simp] theorem reg_mk (a0 a1 a2 a3 a4 a5 a6 a7 a8 a9 a10 a11 a12 a13 a14 a15 a16 a17 a18 a19 a20 a21 a22 a23 a24 a25 a26 a27 a28 a29 a30 a31 a32 a33
    a34 a35 a36 a37 a38 a39 a40 a41 a42 a43 a44 a45) (b : Nat) :
    State.reg (State.mk a0 a1 a2 a3 a4 a5 a6 a7 a8 a9 a10 a11 a12 a13 a14 a15 a16 a17 a18 a19 a20 a21 a22 a23 a24 a25 a26 a27 a28 a29 a30 a31 a32 a33
      a34 a35 a36 a37 a38 a39 a40 a41 a42 a43 a44 a45) b = wordOf a1 b := rfl

/-- A register of a list of registers as a number, for states that are written out. -/
def numOf (r : List (Nat × Word)) (a : Nat) : Nat := (wordOf r a).toNat

/-- A bit of a register of a list of registers, for states that are written out. -/
def flagOf (r : List (Nat × Word)) (a i : Nat) : Bool := Bits.bit (wordOf r a) i

@[simp] theorem numOf_regs (a : Nat) : numOf s.regs a = s.regN a := rfl

@[simp] theorem flagOf_regs (a i : Nat) : flagOf s.regs a i = s.bitOf a i := rfl

@[simp] theorem regN_mk (a0 a1 a2 a3 a4 a5 a6 a7 a8 a9 a10 a11 a12 a13 a14 a15 a16 a17 a18 a19 a20 a21 a22 a23 a24 a25 a26 a27 a28 a29 a30 a31 a32 a33
    a34 a35 a36 a37 a38 a39 a40 a41 a42 a43 a44 a45) (b : Nat) :
    State.regN (State.mk a0 a1 a2 a3 a4 a5 a6 a7 a8 a9 a10 a11 a12 a13 a14 a15 a16 a17 a18 a19 a20 a21 a22 a23 a24 a25 a26 a27 a28 a29 a30 a31 a32 a33
      a34 a35 a36 a37 a38 a39 a40 a41 a42 a43 a44 a45) b = numOf a1 b := rfl

@[simp] theorem bitOf_mk (a0 a1 a2 a3 a4 a5 a6 a7 a8 a9 a10 a11 a12 a13 a14 a15 a16 a17 a18 a19 a20 a21 a22 a23 a24 a25 a26 a27 a28 a29 a30 a31 a32 a33
    a34 a35 a36 a37 a38 a39 a40 a41 a42 a43 a44 a45) (b i : Nat) :
    State.bitOf (State.mk a0 a1 a2 a3 a4 a5 a6 a7 a8 a9 a10 a11 a12 a13 a14 a15 a16 a17 a18 a19 a20 a21 a22 a23 a24 a25 a26 a27 a28 a29 a30 a31 a32 a33
      a34 a35 a36 a37 a38 a39 a40 a41 a42 a43 a44 a45) b i = flagOf a1 b i := rfl

@[simp] theorem par_mk (a0 a1 a2 a3 a4 a5 a6 a7 a8 a9 a10 a11 a12 a13 a14 a15 a16 a17 a18 a19 a20 a21 a22 a23 a24 a25 a26 a27 a28 a29 a30 a31 a32 a33
    a34 a35 a36 a37 a38 a39 a40 a41 a42 a43 a44 a45) (q : Nat) :
    State.par (State.mk a0 a1 a2 a3 a4 a5 a6 a7 a8 a9 a10 a11 a12 a13 a14 a15 a16 a17 a18 a19 a20 a21 a22 a23 a24 a25 a26 a27 a28 a29 a30 a31 a32 a33
      a34 a35 a36 a37 a38 a39 a40 a41 a42 a43 a44 a45) q = valueOf a2 q := rfl

@[simp] theorem get_put_same (f : RegField) (v : Nat) (h : f.lo + f.width ≤ 32) : (s.put f v).get f = v % 2 ^ f.width := get_put_self s f v h

@[simp] theorem get_put_other (f g : RegField) (v : Nat) (h : f.reg ≠ g.reg ∨ f.lo + f.width ≤ g.lo ∨ g.lo + g.width ≤ f.lo) :
    (s.put f v).get g = s.get g := get_put_of_apart s v h

@[simp] theorem get_setReg_other (a : Nat) (w : Word) (g : RegField) (h : g.reg ≠ a) : (s.setReg a w).get g = s.get g := get_setReg_of_ne s w h

@[simp] theorem reg_setReg_other (a b : Nat) (w : Word) (h : b ≠ a) : (s.setReg a w).reg b = s.reg b := reg_setReg_of_ne s w h

@[simp] theorem reg_put_other (f : RegField) (b v : Nat) (h : b ≠ f.reg) : (s.put f v).reg b = s.reg b := reg_put_of_ne s v h

@[simp] theorem par_setReg (a : Nat) (w : Word) (q : Nat) : (s.setReg a w).par q = s.par q := rfl

@[simp] theorem par_put (f : RegField) (v q : Nat) : (s.put f v).par q = s.par q := rfl

/-- A bit of a register is its field of that one bit. -/
theorem bitOf_eq_get (a i : Nat) : s.bitOf a i = (s.get ⟨a, i, 1⟩ != 0) := by
  simp only [bitOf, State.get, Bits.get, Bits.bit, BitVec.getLsbD, Nat.testBit, Nat.and_comm 1, Nat.and_one_is_mod, Nat.pow_one]

theorem get_lt (g : RegField) : s.get g < 2 ^ g.width := Nat.mod_lt _ (Nat.two_pow_pos _)

/-- A field that holds all 32 bits of a register is the register's number. -/
theorem regN_eq_get (a : Nat) : s.regN a = s.get ⟨a, 0, 32⟩ := by
  simpa [regN, State.get, Bits.get] using (Nat.mod_eq_of_lt (s.reg a).isLt).symm

theorem on_eq_false {f : RegField} (h : s.get f = 0) : s.on f = false := by simp [State.on, h]

theorem get_eq_zero_of_off {f : RegField} (h : s.on f = false) : s.get f = 0 := by simpa [State.on] using h

theorem on_putB (f : RegField) (b : Bool) (h : f.lo + f.width ≤ 32) (hw : 0 < f.width) : (s.putB f b).on f = b := by
  have h1 : 1 % 2 ^ f.width = 1 := Nat.mod_eq_of_lt (Nat.one_lt_two_pow (by omega))
  cases b <;> simp [State.on, State.putB, h, h1]

end Reads

end Sys2Proof.Machine
end

section
/-!
Crossings (spec/01_architecture.md R27 to R31): what one of them holds after a write of its words, and which register its notes go to.
-/
namespace Sys2Proof.Machine

open State

section Crossings

variable {s : State} {x y : Nat} {c : Xing}

theorem xing_setXing_self (h : x < s.xings.length) : xing (setXing s x c) x = c := by
  simp [xing, setXing, setNth, nth, List.getD_eq_getElem?_getD, h]

theorem xing_setXing_of_ne (h : y ≠ x) : xing (setXing s x c) y = xing s y := by
  simp [xing, setXing, setNth, nth, List.getD_eq_getElem?_getD, Ne.symm h]

theorem xing_of_within {t : State} {ps : List Part} (h : Within ps s t) (hx : .xings ∉ ps) (y : Nat) : xing t y = xing s y := by
  unfold xing; rw [h.same .xings hx]

theorem xing_xingNote (x y : Nat) (s : State) : xing (xingNote x s) y = xing s y := xing_of_within (xingNote_within x s) (by simp) y

theorem xingNote_regsBut (x : Nat) (s : State) : RegsBut [Reg.SYS_XSTAT x] s (xingNote x s) := by
  have hput : RegsBut [Reg.SYS_XSTAT x] s (s.put (Fd.SYS_XSTAT_HWM x) (max (s.get (Fd.SYS_XSTAT_HWM x)) (xing s x).fifo.length)) :=
    (RegsBut.refl _ s).put (by simp)
  exact RegsBut.ite ((hput.raise (by simp)).bump (by simp)) (hput.lower (by simp))

/-- Back-pressure stands exactly while the FIFO is full (R27). -/
theorem on_bpnow_xingNote (x : Nat) (s : State) :
    (xingNote x s).on (Fd.SYS_XSTAT_BPNOW x) = decide (RegMap.xingDepth x ≤ (xing s x).fifo.length) := by
  by_cases h : RegMap.xingDepth x ≤ (xing s x).fifo.length <;> simp [xingNote, h, State.on, State.raise, State.lower, State.bump]

@[simp] theorem xing_lower (f : RegField) (s : State) (y : Nat) : xing (s.lower f) y = xing s y := rfl

@[simp] theorem xing_emit (o : Output) (s : State) (y : Nat) : xing (s.emit o) y = xing s y := rfl

theorem xingWrite_of_room (w : Word64) (h : xingHeldEnd s x = none) (hw : (xing s x).waiting = []) (hf : (xing s x).fifo.length < RegMap.xingDepth x) :
    xingWrite x w s = xingNote x (setXing s x ⟨(xing s x).fifo ++ [w], []⟩) := by
  simp [xingWrite, h, hw, hf]

theorem xingWrite_of_full (w : Word64) (h : xingHeldEnd s x = none) (hf : (xing s x).fifo.length = RegMap.xingDepth x) :
    xingWrite x w s = setXing s x ⟨(xing s x).fifo, (xing s x).waiting ++ [w]⟩ := by
  simp [xingWrite, h, hf]

theorem xingWrite_of_held (w : Word64) {i : Island} (h : xingHeldEnd s x = some i) : xingWrite x w s = s.bump (Fd.SYS_FLTCNT_FLUSHED i.num) := by
  simp [xingWrite, h]

theorem xingAccept_of_empty (h : (xing s x).fifo = []) : xingAccept x s = s := by
  simp [xingAccept, h]

theorem xingAccept_of_none_waiting {w : Word64} {ws : List Word64} (h : (xing s x).fifo = w :: ws) (hw : (xing s x).waiting = []) :
    xingAccept x s = ((setXing s x ⟨ws, []⟩).lower (Fd.SYS_XSTAT_BPNOW x)).emit (.xingWord x w) := by
  simp [xingAccept, h, hw]

theorem xingAccept_of_waiting {w v : Word64} {ws vs : List Word64} (h : (xing s x).fifo = w :: ws) (hw : (xing s x).waiting = v :: vs) :
    xingAccept x s = (xingNote x (setXing s x ⟨ws ++ [v], vs⟩)).emit (.xingWord x w) := by
  simp [xingAccept, h, hw]

theorem exec_crossingWordWrite (w : Word64) (hx : x < 21) : exec (.crossingWordWrite x w) s = .next (xingWrite x w s) :=
  congrArg Host.Outcome.next (if_pos hx)

theorem exec_crossingHeldWordAccept (hx : x < 21) : exec (.crossingHeldWordAccept x) s = .next (xingAccept x s) :=
  congrArg Host.Outcome.next (if_pos hx)

theorem setXing_regsBut (l : List Nat) (s : State) (x : Nat) (c : Xing) : RegsBut l s (setXing s x c) := (RegsBut.refl l s).same rfl

end Crossings

/-- Settles O9: a write or an accept replaces one Crossing, and notes its occupancy in that Crossing's register. -/
theorem crossingWords : Obligations.CrossingWords := by
  unfold Obligations.CrossingWords
  refine ⟨fun s x w hs hx he hw hf => ?_, fun s x w hs hx he hf => ?_, fun s x w ws hs hx hf hw => ?_, fun s x w v ws vs hs hx hf hw => ?_,
    fun s x hx hf => ?_, fun s x w i hx he => ?_⟩
  · have hin : x < s.xings.length := by rw [hs.xings.count]; exact hx
    have hwithin := execCrossingWordWrite_answers x w s
    rw [show execCrossingWordWrite x w s = _ from exec_crossingWordWrite w hx, Answers.next_iff, xingWrite_of_room w he hw hf] at hwithin
    rw [exec_crossingWordWrite w hx, xingWrite_of_room w he hw hf]
    refine Answers.next ⟨?_, ?_, fun y hy => ?_, (setXing_regsBut _ _ _ _).trans (xingNote_regsBut _ _), hwithin⟩
    · rw [xing_xingNote, xing_setXing_self hin]
    · rw [on_bpnow_xingNote, xing_setXing_self hin, decide_eq_decide, List.length_append, List.length_singleton]
      omega
    · rw [xing_xingNote, xing_setXing_of_ne hy]
  · have hin : x < s.xings.length := by rw [hs.xings.count]; exact hx
    rw [exec_crossingWordWrite w hx, xingWrite_of_full w he hf]
    exact Answers.next ⟨xing_setXing_self hin, fun y hy => xing_setXing_of_ne hy,
      setXing_within _ _ _ fun _ _ => ⟨Nat.le_of_eq hf, fun _ => hf⟩⟩
  · have hin : x < s.xings.length := by rw [hs.xings.count]; exact hx
    have hwithin := xingAccept_within x s
    rw [xingAccept_of_none_waiting hf hw] at hwithin
    rw [exec_crossingHeldWordAccept hx, xingAccept_of_none_waiting hf hw]
    refine Answers.next ⟨?_, ?_, ?_, fun y hy => ?_, ((setXing_regsBut _ _ _ _).lower (by simp)).emit, hwithin⟩
    · rw [xing_emit, xing_lower, xing_setXing_self hin]
    · simp [State.on, State.lower]
    · simp [State.lower, setXing]
    · rw [xing_emit, xing_lower, xing_setXing_of_ne hy]
  · have hin : x < s.xings.length := by rw [hs.xings.count]; exact hx
    have hwithin := xingAccept_within x s
    have hout : (xingNote x (setXing s x ⟨ws ++ [v], vs⟩)).out = s.out := (xingNote_within x _).same .out (by simp)
    rw [xingAccept_of_waiting hf hw] at hwithin
    rw [exec_crossingHeldWordAccept hx, xingAccept_of_waiting hf hw]
    refine Answers.next ⟨?_, by simp [hout], fun y hy => ?_, ((setXing_regsBut _ _ _ _).trans (xingNote_regsBut _ _)).emit, hwithin⟩
    · rw [xing_emit, xing_xingNote, xing_setXing_self hin]
    · rw [xing_emit, xing_xingNote, xing_setXing_of_ne hy]
  · rw [exec_crossingHeldWordAccept hx, xingAccept_of_empty hf]
    exact Answers.next rfl
  · rw [exec_crossingWordWrite w hx, xingWrite_of_held w he]
    exact Answers.next ⟨get_bump_self s _ 1 (by simp), (RegsBut.refl _ s).bump (by simp), bump_within _ _ _⟩

end Sys2Proof.Machine
end

section
/-!
What a statement's frame asks of a state that is written out as updates of another, as equations that simp uses: the registers that may differ, the
parts that may differ, and what the access of a host write leaves.
-/
namespace Sys2Proof.Machine

open State

section Frames

variable {l : List Nat} {s t u : State}

/-- Two lists of registers agree but at the given addresses. -/
def WordsBut (l : List Nat) (s : State) (r : List (Nat × Word)) : Prop := ∀ a, a ∉ l → wordOf r a = s.reg a

@[simp] theorem regsBut_self (l : List Nat) (s : State) : RegsBut l s s := .refl l s

@[simp] theorem wordsBut_regs : WordsBut l s t.regs ↔ RegsBut l s t := Iff.rfl

@[simp] theorem regsBut_mk (a0 a1 a2 a3 a4 a5 a6 a7 a8 a9 a10 a11 a12 a13 a14 a15 a16 a17 a18 a19 a20 a21 a22 a23 a24 a25 a26 a27 a28 a29 a30 a31 a32 a33
    a34 a35 a36 a37 a38 a39 a40 a41 a42 a43 a44 a45) :
    RegsBut l s (State.mk a0 a1 a2 a3 a4 a5 a6 a7 a8 a9 a10 a11 a12 a13 a14 a15 a16 a17 a18 a19 a20 a21 a22 a23 a24 a25 a26 a27 a28 a29 a30 a31 a32 a33
      a34 a35 a36 a37 a38 a39 a40 a41 a42 a43 a44 a45) ↔ WordsBut l s a1 := Iff.rfl

/-- A write of a register that may differ makes no difference to the frame. -/
@[simp] theorem regsBut_setReg {a : Nat} {w : Word} (ha : a ∈ l) : RegsBut l s (t.setReg a w) ↔ RegsBut l s t :=
  ⟨fun h b hb => (reg_setReg_of_ne t w fun e : b = a => hb (by rwa [e])).symm.trans (h b hb), fun h => h.setReg ha⟩

@[simp] theorem regsBut_setRegN {a v : Nat} (ha : a ∈ l) : RegsBut l s (t.setRegN a v) ↔ RegsBut l s t := regsBut_setReg ha

@[simp] theorem regsBut_setRegI {a : Nat} {v : Int} (ha : a ∈ l) : RegsBut l s (t.setRegI a v) ↔ RegsBut l s t := regsBut_setReg ha

@[simp] theorem regsBut_bumpReg {a n : Nat} (ha : a ∈ l) : RegsBut l s (t.bumpReg a n) ↔ RegsBut l s t := regsBut_setReg ha

@[simp] theorem regsBut_put {f : RegField} {v : Nat} (hf : f.reg ∈ l) : RegsBut l s (t.put f v) ↔ RegsBut l s t := regsBut_setReg hf

@[simp] theorem regsBut_raise {f : RegField} (hf : f.reg ∈ l) : RegsBut l s (t.raise f) ↔ RegsBut l s t := regsBut_setReg hf

@[simp] theorem regsBut_lower {f : RegField} (hf : f.reg ∈ l) : RegsBut l s (t.lower f) ↔ RegsBut l s t := regsBut_setReg hf

@[simp] theorem regsBut_putB {f : RegField} {b : Bool} (hf : f.reg ∈ l) : RegsBut l s (t.putB f b) ↔ RegsBut l s t := regsBut_setReg hf

@[simp] theorem regsBut_bump {f : RegField} {n : Nat} (hf : f.reg ∈ l) : RegsBut l s (t.bump f n) ↔ RegsBut l s t := regsBut_setReg hf

@[simp] theorem regsBut_putBit {a i : Nat} {b : Bool} (ha : a ∈ l) : RegsBut l s (t.putBit a i b) ↔ RegsBut l s t := regsBut_setReg ha

@[simp] theorem regsBut_emit {o : Output} : RegsBut l s (t.emit o) ↔ RegsBut l s t := Iff.rfl

@[simp] theorem regsBut_hostReply {p : Path} {status : Nat} : RegsBut l s (hostReply p status t) ↔ RegsBut l s t := Iff.rfl

/-- A further update whose registers may all differ. -/
theorem regsBut_of_regsBut {m : List Nat} (h : RegsBut m t u) (hm : m ⊆ l) : RegsBut l s u ↔ RegsBut l s t :=
  ⟨fun g b hb => by rw [← g b hb, h b fun e => hb (hm e)], fun g => g.trans (h.mono hm)⟩

@[simp] theorem regsBut_hostAccess {p : Path} (hl : hostRegs p ⊆ l) : RegsBut l s (hostAccess p t) ↔ RegsBut l s t :=
  regsBut_of_regsBut (hostAccess_regsBut p t) hl

end Frames

section Words

variable (s : State)

@[simp] theorem regN_setReg_other (a b : Nat) (w : Word) (h : b ≠ a) : (s.setReg a w).regN b = s.regN b := by rw [regN, regN, reg_setReg_other _ _ _ _ h]

@[simp] theorem regN_setRegN_same (a v : Nat) : (s.setRegN a v).regN a = v % 2 ^ 32 := regN_setRegN_self s a v

@[simp] theorem regN_setRegN_other (a b v : Nat) (h : b ≠ a) : (s.setRegN a v).regN b = s.regN b := regN_setReg_other s a b _ h

@[simp] theorem regN_put_other (f : RegField) (b v : Nat) (h : b ≠ f.reg) : (s.put f v).regN b = s.regN b := regN_setReg_other s f.reg b _ h

@[simp] theorem get_setRegN_other (a v : Nat) (g : RegField) (h : g.reg ≠ a) : (s.setRegN a v).get g = s.get g := get_setReg_other s a _ g h

@[simp] theorem regN_emit (o : Output) (a : Nat) : (s.emit o).regN a = s.regN a := rfl

@[simp] theorem on_emit (o : Output) (f : RegField) : (s.emit o).on f = s.on f := rfl

end Words

section Parts

/-- One state with some parts taken from another. -/
def Part.paste (ps : List Part) (s t : State) : State where
  variant := if ps.contains .variant then t.variant else s.variant
  regs := if ps.contains .regs then t.regs else s.regs
  params := if ps.contains .params then t.params else s.params
  xings := if ps.contains .xings then t.xings else s.xings
  ttb := if ps.contains .ttb then t.ttb else s.ttb
  tok := if ps.contains .tok then t.tok else s.tok
  afe := if ps.contains .afe then t.afe else s.afe
  pts := if ps.contains .pts then t.pts else s.pts
  x00 := if ps.contains .x00 then t.x00 else s.x00
  x01 := if ps.contains .x01 then t.x01 else s.x01
  parPend := if ps.contains .parPend then t.parPend else s.parPend
  parNext := if ps.contains .parNext then t.parNext else s.parNext
  corrSent := if ps.contains .corrSent then t.corrSent else s.corrSent
  bil := if ps.contains .bil then t.bil else s.bil
  btm := if ps.contains .btm then t.btm else s.btm
  logs := if ps.contains .logs then t.logs else s.logs
  saf := if ps.contains .saf then t.saf else s.saf
  x03 := if ps.contains .x03 then t.x03 else s.x03
  x19 := if ps.contains .x19 then t.x19 else s.x19
  x04 := if ps.contains .x04 then t.x04 else s.x04
  x05 := if ps.contains .x05 then t.x05 else s.x05
  x06 := if ps.contains .x06 then t.x06 else s.x06
  q := if ps.contains .q then t.q else s.q
  grpSeq := if ps.contains .grpSeq then t.grpSeq else s.grpSeq
  vl := if ps.contains .vl then t.vl else s.vl
  ses := if ps.contains .ses then t.ses else s.ses
  grt := if ps.contains .grt then t.grt else s.grt
  dlm := if ps.contains .dlm then t.dlm else s.dlm
  lsw := if ps.contains .lsw then t.lsw else s.lsw
  lcd := if ps.contains .lcd then t.lcd else s.lcd
  nfc := if ps.contains .nfc then t.nfc else s.nfc
  hif := if ps.contains .hif then t.hif else s.hif
  mail := if ps.contains .mail then t.mail else s.mail
  boot := if ps.contains .boot then t.boot else s.boot
  mem := if ps.contains .mem then t.mem else s.mem
  pow := if ps.contains .pow then t.pow else s.pow
  upd := if ps.contains .upd then t.upd else s.upd
  amb := if ps.contains .amb then t.amb else s.amb
  eth := if ps.contains .eth then t.eth else s.eth
  x09 := if ps.contains .x09 then t.x09 else s.x09
  x11 := if ps.contains .x11 then t.x11 else s.x11
  posts := if ps.contains .posts then t.posts else s.posts
  postOrder := if ps.contains .postOrder then t.postOrder else s.postOrder
  out := if ps.contains .out then t.out else s.out
  free := if ps.contains .free then t.free else s.free
  pending := if ps.contains .pending then t.pending else s.pending

/-- A state that is another with some of its own parts differs from it in those alone. -/
theorem Within.of_paste {ps : List Part} {s t : State} (hi : s.Inv → t.Inv) (h : t = Part.paste ps s t) : Within ps s t where
  inv := hi
  same p hp := by
    rw [h]
    cases p <;> exact if_neg (by simpa using hp)

/-- A command's answer, given as an equation, has a property that its frame helps to show. -/
theorem Answers.mk {a : Ans} {s t : State} {ps : List Part} {post : State → Prop} (e : a = .next t) (hw : Answers a (Within ps s))
    (hp : Within ps s t → post t) : Answers a post := by
  subst e
  exact Answers.next (hp (Answers.next_iff.1 hw))

end Parts

section Access

variable {p : Path} {s : State}

@[simp] theorem hostAccess_params : (hostAccess p s).params = s.params := (hostAccess_within p s).same .params (by simp)

@[simp] theorem hostAccess_xings : (hostAccess p s).xings = s.xings := (hostAccess_within p s).same .xings (by simp)

@[simp] theorem hostAccess_ttb : (hostAccess p s).ttb = s.ttb := (hostAccess_within p s).same .ttb (by simp)

@[simp] theorem hostAccess_tok : (hostAccess p s).tok = s.tok := (hostAccess_within p s).same .tok (by simp)

@[simp] theorem hostAccess_afe : (hostAccess p s).afe = s.afe := (hostAccess_within p s).same .afe (by simp)

@[simp] theorem hostAccess_pts : (hostAccess p s).pts = s.pts := (hostAccess_within p s).same .pts (by simp)

@[simp] theorem hostAccess_x00 : (hostAccess p s).x00 = s.x00 := (hostAccess_within p s).same .x00 (by simp)

@[simp] theorem hostAccess_x01 : (hostAccess p s).x01 = s.x01 := (hostAccess_within p s).same .x01 (by simp)

@[simp] theorem hostAccess_parPend : (hostAccess p s).parPend = s.parPend := (hostAccess_within p s).same .parPend (by simp)

@[simp] theorem hostAccess_parNext : (hostAccess p s).parNext = s.parNext := (hostAccess_within p s).same .parNext (by simp)

@[simp] theorem hostAccess_corrSent : (hostAccess p s).corrSent = s.corrSent := (hostAccess_within p s).same .corrSent (by simp)

@[simp] theorem hostAccess_bil : (hostAccess p s).bil = s.bil := (hostAccess_within p s).same .bil (by simp)

@[simp] theorem hostAccess_btm : (hostAccess p s).btm = s.btm := (hostAccess_within p s).same .btm (by simp)

@[simp] theorem hostAccess_logs : (hostAccess p s).logs = s.logs := (hostAccess_within p s).same .logs (by simp)

@[simp] theorem hostAccess_saf : (hostAccess p s).saf = s.saf := (hostAccess_within p s).same .saf (by simp)

@[simp] theorem hostAccess_x03 : (hostAccess p s).x03 = s.x03 := (hostAccess_within p s).same .x03 (by simp)

@[simp] theorem hostAccess_x19 : (hostAccess p s).x19 = s.x19 := (hostAccess_within p s).same .x19 (by simp)

@[simp] theorem hostAccess_x04 : (hostAccess p s).x04 = s.x04 := (hostAccess_within p s).same .x04 (by simp)

@[simp] theorem hostAccess_x05 : (hostAccess p s).x05 = s.x05 := (hostAccess_within p s).same .x05 (by simp)

@[simp] theorem hostAccess_x06 : (hostAccess p s).x06 = s.x06 := (hostAccess_within p s).same .x06 (by simp)

@[simp] theorem hostAccess_q : (hostAccess p s).q = s.q := (hostAccess_within p s).same .q (by simp)

@[simp] theorem hostAccess_grpSeq : (hostAccess p s).grpSeq = s.grpSeq := (hostAccess_within p s).same .grpSeq (by simp)

@[simp] theorem hostAccess_vl : (hostAccess p s).vl = s.vl := (hostAccess_within p s).same .vl (by simp)

@[simp] theorem hostAccess_ses : (hostAccess p s).ses = s.ses := (hostAccess_within p s).same .ses (by simp)

@[simp] theorem hostAccess_grt : (hostAccess p s).grt = s.grt := (hostAccess_within p s).same .grt (by simp)

@[simp] theorem hostAccess_dlm : (hostAccess p s).dlm = s.dlm := (hostAccess_within p s).same .dlm (by simp)

@[simp] theorem hostAccess_lsw : (hostAccess p s).lsw = s.lsw := (hostAccess_within p s).same .lsw (by simp)

@[simp] theorem hostAccess_lcd : (hostAccess p s).lcd = s.lcd := (hostAccess_within p s).same .lcd (by simp)

@[simp] theorem hostAccess_nfc : (hostAccess p s).nfc = s.nfc := (hostAccess_within p s).same .nfc (by simp)

@[simp] theorem hostAccess_hif : (hostAccess p s).hif = s.hif := (hostAccess_within p s).same .hif (by simp)

@[simp] theorem hostAccess_mail : (hostAccess p s).mail = s.mail := (hostAccess_within p s).same .mail (by simp)

@[simp] theorem hostAccess_boot : (hostAccess p s).boot = s.boot := (hostAccess_within p s).same .boot (by simp)

@[simp] theorem hostAccess_mem : (hostAccess p s).mem = s.mem := (hostAccess_within p s).same .mem (by simp)

@[simp] theorem hostAccess_upd : (hostAccess p s).upd = s.upd := (hostAccess_within p s).same .upd (by simp)

@[simp] theorem hostAccess_amb : (hostAccess p s).amb = s.amb := (hostAccess_within p s).same .amb (by simp)

@[simp] theorem hostAccess_eth : (hostAccess p s).eth = s.eth := (hostAccess_within p s).same .eth (by simp)

@[simp] theorem hostAccess_x09 : (hostAccess p s).x09 = s.x09 := (hostAccess_within p s).same .x09 (by simp)

@[simp] theorem hostAccess_x11 : (hostAccess p s).x11 = s.x11 := (hostAccess_within p s).same .x11 (by simp)

@[simp] theorem hostAccess_posts : (hostAccess p s).posts = s.posts := (hostAccess_within p s).same .posts (by simp)

@[simp] theorem hostAccess_postOrder : (hostAccess p s).postOrder = s.postOrder := (hostAccess_within p s).same .postOrder (by simp)

@[simp] theorem hostAccess_free : (hostAccess p s).free = s.free := (hostAccess_within p s).same .free (by simp)

@[simp] theorem hostAccess_pending : (hostAccess p s).pending = s.pending := (hostAccess_within p s).same .pending (by simp)

/-- A host access leaves every field but those of HIF_STAT, SES_STAT, HIF_CNT[0] and HIF_CNT[2] (the last two written as numbers, which simp
compares). -/
@[simp] theorem get_hostAccess {f : RegField} (h1 : f.reg ≠ Reg.HIF_STAT) (h2 : f.reg ≠ Reg.SES_STAT) (h3 : f.reg ≠ 0x60100)
    (h4 : f.reg ≠ 0x60108) : (hostAccess p s).get f = s.get f :=
  (hostAccess_regsBut p s).get (by cases p <;> simp [hostRegs, h1, h2, h3, h4])

@[simp] theorem reg_hostAccess_other {a : Nat} (h1 : a ≠ Reg.HIF_STAT) (h2 : a ≠ Reg.SES_STAT) (h3 : a ≠ 0x60100) (h4 : a ≠ 0x60108) :
    (hostAccess p s).reg a = s.reg a := reg_hostAccess p s (by simp [h1, h2, h3, h4])

@[simp] theorem regN_hostAccess_other {a : Nat} (h1 : a ≠ Reg.HIF_STAT) (h2 : a ≠ Reg.SES_STAT) (h3 : a ≠ 0x60100) (h4 : a ≠ 0x60108) :
    (hostAccess p s).regN a = s.regN a := by rw [regN, regN, reg_hostAccess_other h1 h2 h3 h4]

@[simp] theorem get_hostReply (status : Nat) (f : RegField) : (hostReply p status s).get f = s.get f := by rw [hostReply, get_emit]

@[simp] theorem on_hostReply (status : Nat) (f : RegField) : (hostReply p status s).on f = s.on f := by rw [on, on, get_hostReply]

@[simp] theorem reg_hostReply (status : Nat) (a : Nat) : (hostReply p status s).reg a = s.reg a := by rw [hostReply, reg_emit]

@[simp] theorem regN_hostReply (status : Nat) (a : Nat) : (hostReply p status s).regN a = s.regN a := by rw [regN, regN, reg_hostReply]

@[simp] theorem par_hostAccess (q : Nat) : (hostAccess p s).par q = s.par q := by rw [par, par, hostAccess_params]

@[simp] theorem parN_hostAccess (q : Nat) : (hostAccess p s).parN q = s.parN q := by rw [parN, parN, par_hostAccess]

end Access

end Sys2Proof.Machine
end

section
/-!
The Timetable (spec/01_architecture.md R40): one slot granted, and the use statistics cleared.
-/
namespace Sys2Proof.Machine

open State

section Timetable

variable {s : State} {k c : Nat}

@[simp] theorem setTtbRes_regs (s : State) (k : Nat) (r : TtbRes) : (setTtbRes s k r).regs = s.regs := by
  unfold setTtbRes; split <;> rfl

@[simp] theorem setTtbRes_q (s : State) (k : Nat) (r : TtbRes) : (setTtbRes s k r).q = s.q := by
  unfold setTtbRes; split <;> rfl

@[simp] theorem setTtbRes_mem (s : State) (k : Nat) (r : TtbRes) : (setTtbRes s k r).mem = s.mem := by
  unfold setTtbRes; split <;> rfl

@[simp] theorem setTtbRes_out (s : State) (k : Nat) (r : TtbRes) : (setTtbRes s k r).out = s.out := by
  unfold setTtbRes; split <;> rfl

/-- Outside power-fail mode a slot granted to a class costs it one slot of budget (R40). -/
theorem slotTake_toClass (h : ttbPf s k = false) :
    slotTake k (.toClass c) s = setTtbRes s k ⟨setNth (ttbRes s k).remaining c (nth (ttbRes s k).remaining c 0 - 1),
      setNth (ttbRes s k).used c (nth (ttbRes s k).used c 0 + 1), (ttbRes s k).slot + 1, (ttbRes s k).begun⟩ := by
  simp [slotTake, h]

@[simp] theorem slotWork_none (k : Nat) (g : SlotGrant) (f : WriteFacts) (s : State) : slotWork k g .none f s = s := rfl

theorem exec_timetableSlotGrant_none (waiting late : Nat) (save : Option Nat) (hk : k < 3) :
    exec (.timetableSlotGrant k waiting .none late save) s = .next (slotTake k (slotDecide s k waiting) s) := by
  rw [exec, execTimetableSlotGrant, if_pos hk, slotWork_none]

theorem ttbClearUse_regsBut (s : State) : RegsBut ((List.range 42).map fun n => Reg.TTB_USE n) s (ttbClearUse s) :=
  upTo_regsBut 42 (fun i hi s => by
    have hm : Reg.TTB_USE i ∈ (List.range 42).map fun n => Reg.TTB_USE n := List.mem_map_of_mem (List.mem_range.2 hi)
    exact ((RegsBut.refl _ s).lower hm).lower hm) s

/-- Folding over rising numbers, what one of them establishes and none of the others undoes holds at the end. -/
theorem upTo_keeps {n : Nat} {f : Nat → State → State} {P : State → Prop} {i : Nat} (hi : i < n) (hP : ∀ s, P (f i s))
    (hkeep : ∀ j, j ≠ i → ∀ s, P s → P (f j s)) (s : State) : P (upTo n f s) := by
  induction n with
  | zero => omega
  | succ n ih =>
    have hlast : upTo (n + 1) f s = f n (upTo n f s) := by simp [upTo, List.range_succ]
    rw [hlast]
    rcases Nat.lt_succ_iff_lt_or_eq.1 hi with h | rfl
    · exact hkeep n (by omega) _ (ih h)
    · exact hP _

theorem get_ttbClearUse {n : Nat} (h : n < 42) (s : State) :
    (ttbClearUse s).get (Fd.TTB_USE_MAX n) = 0 ∧ (ttbClearUse s).get (Fd.TTB_USE_DENY n) = 0 :=
  upTo_keeps (P := fun t => t.get (Fd.TTB_USE_MAX n) = 0 ∧ t.get (Fd.TTB_USE_DENY n) = 0) h (fun s => by simp [State.lower])
    (fun j hj s hs => by simpa [State.lower, hj] using hs) s

theorem timetableSlotGrant_toClass (s : State) (k waiting c late : Nat) (save : Option Nat) (hk : k < 3) (hc : slotDecide s k waiting = .toClass c)
    (hpf : ttbPf s k = false) : Answers (exec (.timetableSlotGrant k waiting .none late save) s) fun t =>
      (ttbRes t k).remaining = setNth (ttbRes s k).remaining c (nth (ttbRes s k).remaining c 0 - 1) ∧ (ttbRes t k).slot = (ttbRes s k).slot + 1 ∧
        (∀ j, j < 3 → j ≠ k → ttbRes t j = ttbRes s j) ∧ t.regs = s.regs ∧ t.q = s.q ∧ t.mem = s.mem ∧ t.out = s.out := by
  rw [exec_timetableSlotGrant_none waiting late save hk, hc, slotTake_toClass hpf]
  refine Answers.next ⟨?_, ?_, fun j hj hne => ttbRes_setTtbRes_of_ne s _ hj hk hne, by simp, by simp, by simp, by simp⟩ <;>
    rw [ttbRes_setTtbRes_self]

theorem useStatsClear_answers (s : State) (p : Path) (h : HostMay p 1 s) : Answers (exec (.useStatsClear p) s) fun t =>
    (∀ n, n < 42 → t.get (Fd.TTB_USE_MAX n) = 0 ∧ t.get (Fd.TTB_USE_DENY n) = 0) ∧ t.out = .hostStatus p 0 :: s.out ∧
      RegsBut ((List.range 42).map (fun n => Reg.TTB_USE n) ++ hostRegs p) s t ∧ Within [.regs, .out] s t := by
  have hw := ttbClearUse_within (hostAccess p s)
  refine Answers.of_hostMay h ⟨fun n hn => by rw [get_hostReply, get_hostReply]; exact get_ttbClearUse hn _, ?_, ?_, ?_⟩
  · have hout : (ttbClearUse (hostAccess p s)).out = (hostAccess p s).out := hw.same .out (by simp)
    simp [hout]
  · rw [regsBut_hostReply, regsBut_of_regsBut (ttbClearUse_regsBut _) (List.subset_append_left _ _)]
    exact RegsBut.hostAccess (List.subset_append_right _ _)
  · exact ((Within.hostAccess rfl).comp hw rfl).hostReply rfl

end Timetable

/-- Settles O11: a grant replaces one resource's running period, and the clear lowers two fields of each of 42 registers. -/
theorem timetableSlots : Obligations.TimetableSlots :=
  ⟨timetableSlotGrant_toClass, fun s p ho hl hp => useStatsClear_answers s p ⟨ho, hl, hp⟩⟩

end Sys2Proof.Machine
end

section
/-!
The Token governor (spec/01_architecture.md R47 to R50): each of its operations while no request is deferred, and what it leaves in its registers.
-/
namespace Sys2Proof.Machine

open State

section Token

variable {s : State} {kind id inrush : Nat} {e : TokEntry}

@[simp] theorem tokShow_tok (s : State) : (tokShow s).tok = s.tok := rfl

theorem tokShow_regsBut (s : State) : RegsBut [Reg.TOK_STAT, Reg.TOK_POWER] s (tokShow s) := by simp [tokShow]

theorem get_tokShow {f : RegField} (h : f.reg ≠ Reg.TOK_STAT) (hc : f.reg ≠ Reg.TOK_POWER) : (tokShow s).get f = s.get f :=
  (tokShow_regsBut s).get (by simp [h, hc])

theorem on_tokShow {f : RegField} (h : f.reg ≠ Reg.TOK_STAT) (hc : f.reg ≠ Reg.TOK_POWER) : (tokShow s).on f = s.on f :=
  (tokShow_regsBut s).on (by simp [h, hc])

/-- With no request deferred there is nothing to serve. -/
theorem tokServe_of_nil (h : s.tok.deferred = []) : tokServe s = s := by simp [tokServe, h, tokServeN]

@[simp] theorem tokGrant_tok (e : TokEntry) (s : State) : (tokGrant e s).tok = ⟨e :: s.tok.held, s.tok.deferred⟩ := rfl

theorem tokGrant_regsBut (he : e.kind = kind) (s : State) : RegsBut [Reg.TOK_STAT, Reg.TOK_POWER, Reg.TOK_CNT kind] s (tokGrant e s) := by
  simp [tokGrant, tokShow, he]

@[simp] theorem tokRefuse_tok (kind reason : Nat) (s : State) : (tokRefuse kind reason s).tok = s.tok := by
  simp only [tokRefuse]; split <;> rfl

theorem tokRefuse_regsBut (kind reason : Nat) (s : State) :
    RegsBut [Reg.TOK_EVT, Reg.TOK_LAST, Reg.TOK_CNT kind] s (tokRefuse kind reason s) := by
  simp only [tokRefuse]; split <;> simp

theorem get_last_tokRefuse {reason : Nat} (hk : kind ≤ 8) (hr : reason ≤ 3) (s : State) :
    (tokRefuse kind reason s).get Fd.TOK_LAST_REASON = reason ∧ (tokRefuse kind reason s).get Fd.TOK_LAST_KIND = kind := by
  have h1 : reason % 4 = reason := Nat.mod_eq_of_lt (by omega)
  have h2 : kind % 16 = kind := Nat.mod_eq_of_lt (by omega)
  simp only [tokRefuse]
  split <;> constructor <;> simp [State.raise, State.bump] <;> omega

theorem on_refused_tokRefuse (kind reason : Nat) (s : State) : (tokRefuse kind reason s).on Fd.TOK_EVT_REFUSED = true := by
  simp only [tokRefuse]
  split <;> simp [State.on, State.raise, State.bump]

theorem on_timeout_tokRefuse (kind : Nat) (s : State) : (tokRefuse kind 2 s).on Fd.TOK_EVT_TIMEOUT = true := by
  simp [tokRefuse, State.on, State.raise]

/-- A Token's request, as the governor keeps it (R46, R48). -/
def tokEntryOf (kind id inrush : Nat) : TokEntry := ⟨kind, id, tokCost kind, if kind = 2 then inrush else 0, false⟩

theorem tokRequest_of_fits (hp : s.pfw = false) (hd : s.tok.deferred = []) (hf : tokFits s (tokEntryOf kind id inrush) = true) :
    (tokRequest kind id inrush s).2 = tokGrant (tokEntryOf kind id inrush) s := by
  rw [tokEntryOf] at hf ⊢
  simp [tokRequest, hp, hd, hf]

theorem tokRequest_of_not_fits (hp : s.pfw = false) (hd : s.tok.deferred.length < 16) (hf : tokFits s (tokEntryOf kind id inrush) = false) :
    (tokRequest kind id inrush s).2 = tokShow { s with tok := ⟨s.tok.held, tokEnqueue (tokEntryOf kind id inrush) s.tok.deferred⟩ } := by
  rw [tokEntryOf] at hf ⊢
  simp [tokRequest, hp, Nat.not_le.2 hd, hf]

theorem tokRequest_of_full (hp : s.pfw = false) (hd : s.tok.deferred.length = 16) : (tokRequest kind id inrush s).2 = tokRefuse kind 3 s := by
  simp [tokRequest, hp, hd]

theorem exec_tokenRequest (hk : kind ≤ 8) : exec (.tokenRequest kind id inrush) s = .next (tokRequest kind id inrush s).2 :=
  congrArg Host.Outcome.next (if_pos hk)

theorem self_mem_tokEnqueue (e : TokEntry) (l : List TokEntry) : e ∈ tokEnqueue e l := by
  induction l with
  | nil => simp [tokEnqueue]
  | cons d l ih => unfold tokEnqueue; split <;> simp [ih]

theorem eraseP_singleton_tokIs (h : tokIs kind id e = true) : [e].eraseP (tokIs kind id) = [] := by simp [h]

theorem tokIs_of_eq (hk : e.kind = kind) (hi : e.id = id) : tokIs kind id e = true := by simp [tokIs, hk, hi]

theorem exec_tokenRelease (hk : kind ≠ 8) : exec (.tokenRelease kind id) s = .next (tokRelease kind id s) := by
  simp [exec, execTokenRelease, hk]

theorem tokRelease_of_single (hh : s.tok.held = [e]) (he : tokIs kind id e = true) (hd : s.tok.deferred = []) :
    tokRelease kind id s = tokShow { s with tok := ⟨[], []⟩ } := by
  rw [tokRelease, if_pos (by simp [tokHolds, hh, he]), hh, hd, eraseP_singleton_tokIs he, tokServe_of_nil rfl]

theorem tokDrop_of_single (hd : s.tok.deferred = [e]) (he : tokIs kind id e = true) :
    tokDrop kind id s = tokShow { s with tok := ⟨s.tok.held, []⟩ } := by
  simp [tokDrop, hd, he]

theorem exec_tokenRequestWithdraw (hd : s.tok.deferred = [e]) (he : tokIs kind id e = true) :
    exec (.tokenRequestWithdraw kind id) s = .next (tokShow { s with tok := ⟨s.tok.held, []⟩ }) := by
  rw [exec, execTokenRequestWithdraw, if_pos (by simp [tokWaits, hd, he]), tokDrop_of_single hd he, tokServe_of_nil rfl]

theorem exec_tokenWaitTimeout (hd : s.tok.deferred = [e]) (he : tokIs kind id e = true) :
    exec (.tokenWaitTimeout kind id) s = .next (tokRefuse kind 2 (tokShow { s with tok := ⟨s.tok.held, []⟩ })) := by
  simp [exec, execTokenWaitTimeout, tokWaits, hd, he, tokDrop_of_single hd he, tokServe_of_nil]

theorem map_cost_tokMarkOver (kind id : Nat) (l : List TokEntry) : (tokMarkOver kind id l).map (·.cost) = l.map (·.cost) := by
  rw [tokMarkOver, List.map_map]
  exact List.map_congr_left fun e _ => by dsimp only [Function.comp]; split <;> rfl

theorem tokBaseline_of_nil {pin : Nat} (hp : pin < 65536) (hd : s.tok.deferred = []) :
    tokBaseline pin s = tokShow ((s.put Fd.PWR_PIN_MW pin).put Fd.TOK_POWER_BASEMW (pin - tokHeldCost s)) := by
  have h1 : min pin 65535 = pin := by omega
  have h2 : min (pin - tokHeldCost s) 65535 = pin - tokHeldCost s := by omega
  simp only [tokBaseline, h1, h2]
  exact tokServe_of_nil hd

theorem get_basemw_tokShow (s : State) : (tokShow s).get Fd.TOK_POWER_BASEMW = s.get Fd.TOK_POWER_BASEMW := by simp [tokShow]

theorem on_vlow_tokVlow {mv : Nat} (hm : mv < 65536) (hv : mv < s.parN Par.VSYS_HEAD) :
    (tokVlow (s.put Fd.PWR_VSYS_MV mv)).on Fd.TOK_STAT_VLOW = true := by
  have h : mv % 65536 < s.parN Par.VSYS_HEAD := by omega
  simpa [tokVlow, State.vsys, on_putB, State.parN] using h

theorem exec_vsysHeadCrossing_of_low {mv : Nat} (hm : mv < 65536) (hv : mv < s.parN Par.VSYS_HEAD) :
    exec (.vsysHeadCrossing mv) s = .next (tokVlow (s.put Fd.PWR_VSYS_MV mv)) := by
  have h1 : min mv 65535 = mv := by omega
  rw [exec, execVsysHeadCrossing, h1]
  exact congrArg Host.Outcome.next (if_pos (on_vlow_tokVlow hm hv))

end Token

/-- Settles O12: each decision is one update of the governor's lists, shown in its registers. -/
theorem tokenDecisions : Obligations.TokenDecisions := by
  unfold Obligations.TokenDecisions
  refine ⟨fun s kind id inrush hk hp hd hf => ?_, fun s kind id inrush hk hp hd hf => ?_, fun s kind id inrush hk hp hd => ?_,
    fun s kind id e hk hh he hi hd => ?_, fun s kind id e hd he hi => ?_, fun s kind id e hd he hi hk => ?_, fun s kind id h hk => ?_,
    fun s pin hp hd => ?_, fun s mv hm hv => ?_⟩
  · refine Answers.mk ((exec_tokenRequest hk).trans (congrArg _ (tokRequest_of_fits hp hd hf))) (execTokenRequest_answers _ _ _ s) fun hw => ?_
    exact ⟨by rw [tokGrant_tok, hd]; rfl, tokGrant_regsBut (e := tokEntryOf kind id inrush) rfl s, hw.sub rfl⟩
  · refine Answers.mk ((exec_tokenRequest hk).trans (congrArg _ (tokRequest_of_not_fits hp hd hf))) (execTokenRequest_answers _ _ _ s) fun hw => ?_
    exact ⟨rfl, tokEnqueue_length _ _, self_mem_tokEnqueue _ _, tokShow_regsBut _, hw.sub rfl⟩
  · refine Answers.mk ((exec_tokenRequest hk).trans (congrArg _ (tokRequest_of_full hp hd))) (execTokenRequest_answers _ _ _ s) fun hw => ?_
    exact ⟨tokRefuse_tok _ _ _, (get_last_tokRefuse hk (by omega) s).1, (get_last_tokRefuse hk (by omega) s).2, on_refused_tokRefuse kind 3 s,
      tokRefuse_regsBut _ _ _, hw.sub rfl⟩
  · refine Answers.mk ((exec_tokenRelease hk).trans (congrArg _ (tokRelease_of_single hh (tokIs_of_eq he hi) hd))) ⟨_, exec_tokenRelease hk, tokRelease_within kind id s⟩
      fun hw => ?_
    exact ⟨rfl, tokShow_regsBut _, hw.sub rfl⟩
  · refine Answers.mk (exec_tokenRequestWithdraw hd (tokIs_of_eq he hi)) (execTokenRequestWithdraw_answers _ _ s) fun hw => ?_
    exact ⟨rfl, tokShow_regsBut _, hw.sub rfl⟩
  · refine Answers.mk (exec_tokenWaitTimeout hd (tokIs_of_eq he hi)) (execTokenWaitTimeout_answers _ _ s) fun hw => ?_
    exact ⟨tokRefuse_tok _ _ _, (get_last_tokRefuse hk (by omega) _).1, on_timeout_tokRefuse kind _,
      ((tokShow_regsBut { s with tok := ⟨s.tok.held, []⟩ }).mono (by simp)).trans ((tokRefuse_regsBut _ _ _).mono (by simp)), hw.sub rfl⟩
  · refine Answers.mk (congrArg Host.Outcome.next (if_pos h)) (execTokenHoldOverrun_answers _ _ s) fun hw => ?_
    exact ⟨by simp [State.on, State.raise, State.bump], map_cost_tokMarkOver _ _ _, rfl, by simp, hw.sub rfl⟩
  · refine Answers.mk (congrArg Host.Outcome.next (tokBaseline_of_nil hp hd)) (execBaselineRecompute_answers _ s) fun hw => ?_
    have h1 : pin % 65536 = pin := Nat.mod_eq_of_lt hp
    have h2 : (pin - tokHeldCost s) % 65536 = pin - tokHeldCost s := Nat.mod_eq_of_lt (by omega)
    exact ⟨by simp [tokShow, h1], by simp [get_basemw_tokShow, h2], rfl, by simp [tokShow], hw.sub rfl⟩
  · refine Answers.mk (exec_vsysHeadCrossing_of_low hm hv) (execVsysHeadCrossing_answers _ s) fun hw => ?_
    exact ⟨by simp [tokVlow, State.putB, Nat.mod_eq_of_lt hm], on_vlow_tokVlow hm hv, rfl, by simp [tokVlow], hw.sub rfl⟩

end Sys2Proof.Machine
end

section
/-!
The engines of the Points (spec/04_points_redundancy.md R143 to R164): their states after an update of one of them, a fault found, a planned test,
and a trial.
-/
namespace Sys2Proof.Machine

open State

section Faults

/-- A fault noted writes SYS_FLTLAST and SYS_FLT.NEW, and no other register. -/
theorem faultNote_regsBut (cls : Nat) (i : Island) (cause : Nat) (s : State) :
    RegsBut [Reg.SYS_FLT, Reg.SYS_FLTLAST] s (faultNote cls i cause s) := by
  have hlog (code src : Nat) (d : Int) (t : State) : RegsBut [Reg.SYS_FLT, Reg.SYS_FLTLAST] t (logWrite code src d t) :=
    (logWrite_within code src d t).regsBut (by simp)
  simp only [faultNote]
  split
  · rw [regsBut_of_regsBut (hlog _ _ _ _) (List.Subset.refl _)]; simp
  · simp

theorem faultOther_regsBut (cls : Nat) (i : Island) (s : State) : RegsBut [Reg.SYS_FLT, Reg.SYS_FLTLAST] s (faultOther cls i s) :=
  ((RegsBut.refl _ s).same rfl).trans (faultNote_regsBut cls i _ _)

end Faults

section Engines

variable {s : State} {e o st a : Nat}

@[simp] theorem ptsShow_pts (s : State) : (ptsShow s).pts = s.pts := (ptsShow_within s).same .pts (by simp)

@[simp] theorem ptsShow_out (s : State) : (ptsShow s).out = s.out := (ptsShow_within s).same .out (by simp)

theorem ptsShow_regsBut (s : State) : RegsBut [Reg.PTS_STAT] s (ptsShow s) := by
  simp only [ptsShow]
  repeat' split
  all_goals simp

@[simp] theorem engSt_ptsShow (s : State) (e : Nat) : engSt (ptsShow s) e = engSt s e := (ptsShow_regsBut s).get (by grind)

@[simp] theorem get_ptsShow {f : RegField} (h : f.reg ≠ Reg.PTS_STAT) : (ptsShow s).get f = s.get f := (ptsShow_regsBut s).get (by simpa using h)

/-- An engine that is not on trial is put into a state. -/
theorem setEng_of_not_trial (h : engSt s e ≠ 6) : setEng e st s = ptsShow (s.put (Fd.PTS_ENG_STATE e) st) := by
  simp [setEng, h]

/-- An engine is put on trial. -/
theorem setEng_trial (e : Nat) (s : State) : setEng e 6 s = ptsShow (s.put (Fd.PTS_ENG_STATE e) 6) := by
  simp [setEng]

/-- An engine's trial ends with the state that it is put into (R161). -/
theorem setEng_of_trial (h : engSt s e = 6) (hst : st ≠ 6) : setEng e st s =
    ptsShow ({ s.put (Fd.PTS_ENG_STATE e) st with pts := { s.pts with trialOn := false } }.lower Fd.PTS_CTL_TRIAL) := by
  simp [setEng, h, hst]

theorem setEng_eq (h : ¬(engSt s e = 6 ∧ st ≠ 6)) : setEng e st s = ptsShow (s.put (Fd.PTS_ENG_STATE e) st) := by
  simp only [setEng]; rw [if_neg h]

theorem engSt_setEng_self (hst : st < 8) : engSt (setEng e st s) e = st := by
  have h : st % 8 = st := Nat.mod_eq_of_lt hst
  by_cases h6 : engSt s e = 6 ∧ st ≠ 6
  · rw [setEng_of_trial h6.1 h6.2, engSt_ptsShow]
    simp (disch := grind) [engSt, State.lower, h]
  · rw [setEng_eq h6, engSt_ptsShow]
    simp [engSt, h]

theorem engSt_setEng_of_ne (h : o ≠ e) : engSt (setEng e st s) o = engSt s o := by
  by_cases h6 : engSt s e = 6 ∧ st ≠ 6
  · rw [setEng_of_trial h6.1 h6.2, engSt_ptsShow]
    simp (disch := grind) [engSt, State.lower]
  · rw [setEng_eq h6, engSt_ptsShow]
    simp [engSt, Ne.symm h]

theorem setEng_regsBut (h : engSt s e ≠ 6) : RegsBut [Reg.PTS_STAT, Reg.PTS_ENG e] s (setEng e st s) := by
  rw [setEng_of_not_trial h, regsBut_of_regsBut (ptsShow_regsBut _) (by simp)]
  simp

theorem setEng_pts (h : engSt s e ≠ 6) : (setEng e st s).pts = s.pts := by
  rw [setEng_of_not_trial h, ptsShow_pts]; rfl

theorem get_setEng {f : RegField} (h1 : f.reg ≠ Reg.PTS_STAT) (h2 : f.reg ≠ Reg.PTS_CTL)
    (h3 : f.reg ≠ Reg.PTS_ENG e ∨ 3 ≤ f.lo) : (setEng e st s).get f = s.get f := by
  have hp : (s.put (Fd.PTS_ENG_STATE e) st).get f = s.get f := get_put_of_apart s st (by simp only [Apart]; omega)
  by_cases h6 : engSt s e = 6 ∧ st ≠ 6
  · rw [setEng_of_trial h6.1 h6.2, get_ptsShow h1, State.lower, get_put_of_apart _ _ (.inl (Ne.symm h2))]
    exact hp
  · rw [setEng_eq h6, get_ptsShow h1, hp]

theorem activeEng_lt (h : activeEng s = some a) : a < 2 := by
  have := List.mem_of_find?_eq_some h
  simp at this
  omega

theorem engSt_of_activeEng (h : activeEng s = some a) : engSt s a = 0 := by
  simpa using List.find?_some h

theorem rail_setRail_self (e : Nat) (r : Rail) (s : State) : rail (setRail s e r) e = r := by
  unfold rail setRail; split <;> rfl

@[simp] theorem rail_modRail_self (e : Nat) (f : Rail → Rail) (s : State) : rail (modRail e f s) e = f (rail s e) := rail_setRail_self _ _ _

theorem rail_of_pts {t : State} (h : t.pts = s.pts) (e : Nat) : rail t e = rail s e := by unfold rail; rw [h]

/-- The Points replaced. -/
def setPts (p : PtsState) (s : State) : State := { s with pts := p }

@[simp] theorem setPts_pts (p : PtsState) (s : State) : (setPts p s).pts = p := rfl

@[simp] theorem get_setPts (p : PtsState) (s : State) (f : RegField) : (setPts p s).get f = s.get f := rfl

@[simp] theorem regsBut_setPts {l : List Nat} {t : State} (p : PtsState) : RegsBut l s (setPts p t) ↔ RegsBut l s t := Iff.rfl

/-- The engine's fault entered in the list of faults and in its registers, before the engine leaves service (R148, R156). -/
def engNoted (e cause : Nat) (s : State) : State :=
  let t := setPts { s.pts with faultHours := ((e, s.regN Reg.MEM_HOURS) :: s.pts.faultHours).take 64 } s
  let u := ((t.raise Fd.PTS_EVT_FAULT).put (Fd.PTS_ENG_CAUSE e) cause).put (Fd.PTS_ENG_FAULTS e) (min (faultCount t e) 255)
  setPts { u.pts with cleanRun := 0 } u

theorem faultHours_engNoted (e cause : Nat) (s : State) :
    (engNoted e cause s).pts.faultHours = ((e, s.regN Reg.MEM_HOURS) :: s.pts.faultHours).take 64 := by
  simp [engNoted]

/-- The faults of an engine counted are at most those it had and the new one. -/
theorem faultCount_engNoted_le (e cause : Nat) (s : State) :
    faultCount (engNoted e cause s) e ≤ (s.pts.faultHours.filter fun f => f.1 == e).length + 1 := by
  have hle (l : List (Nat × Nat)) (q : Nat × Nat → Bool) : (l.filter fun f => f.1 == e && q f).length ≤ (l.filter fun f => f.1 == e).length := by
    rw [← List.countP_eq_length_filter, ← List.countP_eq_length_filter]
    exact List.countP_mono_left fun f _ hf => (Bool.and_eq_true_iff.1 hf).1
  have hsub (l : List (Nat × Nat)) : (l.take 64).Sublist l := List.take_sublist 64 l
  calc faultCount (engNoted e cause s) e
      ≤ (((e, s.regN Reg.MEM_HOURS) :: s.pts.faultHours).take 64 |>.filter fun f => f.1 == e).length := by
        rw [faultCount, faultHours_engNoted]; exact hle _ _
    _ ≤ (((e, s.regN Reg.MEM_HOURS) :: s.pts.faultHours).filter fun f => f.1 == e).length := ((hsub _).filter _).length_le
    _ = (s.pts.faultHours.filter fun f => f.1 == e).length + 1 := by simp

theorem engFault_eq (e cause : Nat) (s : State) :
    engFault e cause s = (let v := if 3 ≤ faultCount (engNoted e cause s) e then engRetire e (engNoted e cause s) else setEng e 2 (engNoted e cause s)
      if engSt v (1 - e) = 7 then v else faultOther 1 .metrology v) := by
  unfold engFault engNoted
  rfl

theorem engFault_of_few {cause : Nat} (h : (s.pts.faultHours.filter fun f => f.1 == e).length < 2) :
    engFault e cause s = (if engSt (setEng e 2 (engNoted e cause s)) (1 - e) = 7 then setEng e 2 (engNoted e cause s)
      else faultOther 1 .metrology (setEng e 2 (engNoted e cause s))) := by
  have hc := faultCount_engNoted_le e cause s
  have h3 : ¬3 ≤ faultCount (engNoted e cause s) e := by omega
  rw [engFault_eq, if_neg h3]

theorem engNoted_regsBut (e cause : Nat) (s : State) : RegsBut [Reg.PTS_EVT, Reg.PTS_ENG e] s (engNoted e cause s) := by
  simp [engNoted]

theorem get_engNoted {f : RegField} (h1 : f.reg ≠ Reg.PTS_EVT) (h2 : Apart (Fd.PTS_ENG_CAUSE e) f) (h3 : Apart (Fd.PTS_ENG_FAULTS e) f)
    (cause : Nat) (s : State) : (engNoted e cause s).get f = s.get f := by
  rw [engNoted, get_setPts, get_put_of_apart _ _ h3, get_put_of_apart _ _ h2, State.raise, get_put_of_apart _ _ (.inl (Ne.symm h1)), get_setPts]

@[simp] theorem engSt_engNoted (e cause : Nat) (s : State) (o : Nat) : engSt (engNoted e cause s) o = engSt s o :=
  get_engNoted (by grind) (.inr (.inr (by simp))) (.inr (.inr (by simp))) cause s

/-- What a fault of an engine that is not on trial leaves, with fewer than two faults before it (R148, R156). -/
theorem engFault_spec {cause : Nat} (he : e < 2) (hst : engSt s e ≠ 6) (hc : cause < 16)
    (h : (s.pts.faultHours.filter fun f => f.1 == e).length < 2) :
    engSt (engFault e cause s) e = 2 ∧ engSt (engFault e cause s) (1 - e) = engSt s (1 - e) ∧
      (engFault e cause s).get (Fd.PTS_ENG_CAUSE e) = cause ∧ (engFault e cause s).on Fd.PTS_EVT_FAULT = true ∧
      RegsBut [Reg.PTS_STAT, Reg.PTS_EVT, Reg.PTS_ENG e, Reg.SYS_FLT, Reg.SYS_FLTLAST] s (engFault e cause s) := by
  have hn : engSt (engNoted e cause s) e ≠ 6 := by rwa [engSt_engNoted]
  have hself : engSt (setEng e 2 (engNoted e cause s)) e = 2 := engSt_setEng_self (by omega)
  have hother : engSt (setEng e 2 (engNoted e cause s)) (1 - e) = engSt s (1 - e) := by
    rw [engSt_setEng_of_ne (by omega), engSt_engNoted]
  have hcause : (setEng e 2 (engNoted e cause s)).get (Fd.PTS_ENG_CAUSE e) = cause := by
    rw [get_setEng (by grind) (by grind) (by simp)]
    rw [engNoted, get_setPts, get_put_of_apart _ _ (.inr (.inr (by simp))), get_put_self _ _ _ (by simp)]
    exact Nat.mod_eq_of_lt hc
  have hevt : (setEng e 2 (engNoted e cause s)).get Fd.PTS_EVT_FAULT = 1 := by
    rw [get_setEng (by grind) (by grind) (by grind)]
    rw [engNoted, get_setPts, get_put_of_apart _ _ (.inl (by grind)), get_put_of_apart _ _ (.inl (by grind)), State.raise, get_put_self _ _ _ (by simp)]; rfl
  have hregs : RegsBut [Reg.PTS_STAT, Reg.PTS_EVT, Reg.PTS_ENG e, Reg.SYS_FLT, Reg.SYS_FLTLAST] s (setEng e 2 (engNoted e cause s)) :=
    ((engNoted_regsBut e cause s).mono (by simp)).trans ((setEng_regsBut hn).mono (by simp))
  have hlast := faultOther_regsBut 1 .metrology (setEng e 2 (engNoted e cause s))
  rw [engFault_of_few h]
  split
  · exact ⟨hself, hother, hcause, by simp [State.on, hevt], hregs⟩
  · refine ⟨?_, ?_, ?_, ?_, hregs.trans (hlast.mono (by simp))⟩
    · rw [engSt, hlast.get (by grind)]; exact hself
    · rw [engSt, hlast.get (by grind)]; exact hother
    · rw [hlast.get (by grind)]; exact hcause
    · rw [hlast.on (by grind)]; simp [State.on, hevt]

/-- What a change-over to an engine that is not on trial leaves (R152). -/
theorem changeOver_spec {blk : Nat} (h2 : o < 2) (ho : engSt s o ≠ 6) :
    engSt (changeOver o blk s) o = 0 ∧ (∀ e, e < 2 → e ≠ o → engSt (changeOver o blk s) e = engSt s e) ∧
      (changeOver o blk s).on Fd.PTS_EVT_CHANGE = true ∧ (changeOver o blk s).on Fd.PTS_EVT_FAULT = s.on Fd.PTS_EVT_FAULT ∧
      (changeOver o blk s).regN Reg.PTS_LASTCHG = blk % 2 ^ 32 ∧ (changeOver o blk s).out = .pointsStatus o :: s.out ∧
      RegsBut [Reg.PTS_STAT, Reg.PTS_EVT, Reg.PTS_CNT, Reg.PTS_LASTCHG, Reg.PTS_ENG o] s (changeOver o blk s) := by
  have hset (e : Nat) (he : e < 2) : engSt (changeOver o blk s) e = engSt (setEng o 0 s) e := by
    simp (disch := grind) [changeOver, engSt, State.raise, State.bump]
  have hevt : (setEng o 0 s).get Fd.PTS_EVT_FAULT = s.get Fd.PTS_EVT_FAULT := get_setEng (by grind) (by grind) (by grind)
  refine ⟨?_, fun e he hne => ?_, ?_, ?_, ?_, ?_, ?_⟩
  · rw [hset o h2, engSt_setEng_self (by omega)]
  · rw [hset e he, engSt_setEng_of_ne hne]
  · simp [changeOver, State.on, State.raise, State.bump]
  · simp [changeOver, State.on, State.raise, State.bump, hevt]
  · simp [changeOver, State.raise]
  · have hout : (setEng o 0 s).out = s.out := (setEng_within o 0 s).same .out (by simp)
    simp [changeOver, State.raise, State.bump, State.setRegN, hout]
  · have h := setEng_regsBut (st := 0) ho
    simp only [changeOver, regsBut_emit]
    simp [regsBut_of_regsBut h]

/-- A fault that the active engine's own checks find changes over to a standby (R145, R152). -/
theorem ownFault_of_standby {cause : Nat} (he : e < 2) (hr : s.on Fd.MTR_STAT_READY = true) (ha : engSt s e = 0) (hb : engSt s (1 - e) = 1)
    (hc : cause < 16) (h : (s.pts.faultHours.filter fun f => f.1 == e).length < 2) :
    ownFault e cause s = changeOver (1 - e) ((s.regN Reg.MTR_BLKCNT + 1) % 2 ^ 32) (engFault e cause s) := by
  have hf := (engFault_spec he (by omega) hc h).2.1
  rw [ownFault, if_pos hr, if_pos ⟨he, ha⟩, afterActive]
  exact if_pos (.inl (hf.trans hb))

/-- The registers that a fault of one engine and a change-over to the other write. -/
def changeRegs : List Nat :=
  [Reg.PTS_STAT, Reg.PTS_EVT, Reg.PTS_CNT, Reg.PTS_LASTCHG, Reg.PTS_ENG 0, Reg.PTS_ENG 1, Reg.SYS_FLT, Reg.SYS_FLTLAST]

theorem ptsEng_mem_changeRegs (he : e < 2) : Reg.PTS_ENG e ∈ changeRegs := by
  rcases Nat.lt_succ_iff_lt_or_eq.1 he with h | rfl
  · obtain rfl : e = 0 := by omega
    decide
  · decide

theorem ownFault_spec {cause : Nat} (he : e < 2) (hr : s.on Fd.MTR_STAT_READY = true) (ha : engSt s e = 0) (hb : engSt s (1 - e) = 1)
    (hc : cause < 16) (h : (s.pts.faultHours.filter fun f => f.1 == e).length < 2) :
    engSt (ownFault e cause s) e = 2 ∧ engSt (ownFault e cause s) (1 - e) = 0 ∧ (ownFault e cause s).get (Fd.PTS_ENG_CAUSE e) = cause ∧
      (ownFault e cause s).on Fd.PTS_EVT_CHANGE = true ∧ (ownFault e cause s).on Fd.PTS_EVT_FAULT = true ∧
      (ownFault e cause s).regN Reg.PTS_LASTCHG = (s.regN Reg.MTR_BLKCNT + 1) % 2 ^ 32 ∧
      (ownFault e cause s).out = .pointsStatus (1 - e) :: s.out ∧ RegsBut changeRegs s (ownFault e cause s) := by
  obtain ⟨hst, hother, hcause, hevt, hregs⟩ := engFault_spec he (by omega) hc h
  have hblk : ((s.regN Reg.MTR_BLKCNT + 1) % 2 ^ 32) % 2 ^ 32 = (s.regN Reg.MTR_BLKCNT + 1) % 2 ^ 32 := Nat.mod_mod _ _
  have hout : (engFault e cause s).out = s.out := (engFault_within e cause s).same .out (by simp)
  have ho : 1 - e < 2 := by omega
  obtain ⟨c1, c2, c3, c4, c5, c6, c7⟩ := changeOver_spec (blk := (s.regN Reg.MTR_BLKCNT + 1) % 2 ^ 32) ho (by omega : engSt (engFault e cause s) (1 - e) ≠ 6)
  have hmem := ptsEng_mem_changeRegs he
  have hmem' := ptsEng_mem_changeRegs ho
  rw [ownFault_of_standby he hr ha hb hc h]
  refine ⟨by rw [c2 e he (by omega), hst], c1, ?_, c3, by rw [c4, hevt], by rw [c5, hblk], by rw [c6, hout], ?_⟩
  · rw [c7.get (by simp only [List.mem_cons]; grind), hcause]
  · refine (hregs.mono ?_).trans (c7.mono ?_)
    · simp only [List.cons_subset, hmem, true_and]; simp [changeRegs]
    · simp only [List.cons_subset, hmem']; simp [changeRegs]

theorem activeEng_of_single (ha : a < 2) (h : engSt s a = 0) (ho : engSt s (1 - a) ≠ 0) : activeEng s = some a := by
  rcases Nat.lt_succ_iff_lt_or_eq.1 ha with h0 | rfl
  · obtain rfl : a = 0 := by omega
    simp [activeEng, h]
  · simp only [Nat.sub_self] at ho
    simp [activeEng, h, ho]

theorem ptsDual_of_standby (ha : activeEng s = some a) (hb : engSt s (1 - a) = 1) : ptsDual s = true := by
  simp [ptsDual, ha, hb]

/-- A planned test of the standby begins at once (R157). -/
theorem plannedTest_of_standby (m : Bool) (hp : (s.pts.planned || s.pts.plannedNow) = true) (ha : activeEng s = some a) (hb : engSt s (1 - a) = 1)
    (hd : s.pts.due ≠ a) :
    plannedTest m s = setEng (1 - a) 2 (setPts { s.pts with planned := false, plannedNow := false, due := 1 - s.pts.due } s) := by
  rw [plannedTest, if_pos (by rw [hp, ptsDual_of_standby ha hb]; rfl), ha]
  exact if_pos hd

theorem plannedTest_of_not_dual (m : Bool) (hd : ptsDual s = false) : plannedTest m s = s := by
  rw [plannedTest, if_neg (by simp [hd])]

/-- What the planned test of a standby leaves (R157). -/
theorem plannedTest_spec (m : Bool) (hp : (s.pts.planned || s.pts.plannedNow) = true) (ha : activeEng s = some a) (hb : engSt s (1 - a) = 1)
    (hd : s.pts.due ≠ a) :
    engSt (plannedTest m s) (1 - a) = 2 ∧ engSt (plannedTest m s) a = 0 ∧
      (plannedTest m s).pts = { s.pts with planned := false, plannedNow := false, due := 1 - s.pts.due } ∧
      RegsBut [Reg.PTS_STAT, Reg.PTS_ENG (1 - a)] s (plannedTest m s) := by
  have ha2 := activeEng_lt ha
  have h6 : engSt (setPts { s.pts with planned := false, plannedNow := false, due := 1 - s.pts.due } s) (1 - a) ≠ 6 := by
    rw [engSt, get_setPts, ← engSt]; omega
  rw [plannedTest_of_standby m hp ha hb hd]
  generalize hu : setPts { s.pts with planned := false, plannedNow := false, due := 1 - s.pts.due } s = u at h6 ⊢
  refine ⟨engSt_setEng_self (by omega), ?_, by rw [setEng_pts h6, ← hu, setPts_pts], ?_⟩
  · rw [engSt_setEng_of_ne (by omega), ← hu, engSt, get_setPts, ← engSt, engSt_of_activeEng ha]
  · have hsu : RegsBut [Reg.PTS_STAT, Reg.PTS_ENG (1 - a)] s u := by rw [← hu]; exact .same (.refl _ s) rfl
    exact hsu.trans (setEng_regsBut h6)

@[simp] theorem engSt_setPts (p : PtsState) (s : State) (e : Nat) : engSt (setPts p s) e = engSt s e := by rw [engSt, get_setPts, engSt]

@[simp] theorem activeEng_setPts (p : PtsState) (s : State) : activeEng (setPts p s) = activeEng s := by simp only [activeEng, engSt_setPts]

/-- Engines that wait for a snapshot load the one stored (R158). -/
def loadWaiting (e : Nat) (v : State) : State :=
  if engSt v e = 3 then
    match v.pts.stored with
    | some p => loadAt p e v
    | none => v
  else v

theorem ptsDual_setPts (p : PtsState) (s : State) : ptsDual (setPts p s) = ptsDual s := by
  simp only [ptsDual, activeEng_setPts, engSt_setPts]

/-- A commit mark while the other engine is retired stores the active engine's snapshot (R149). -/
theorem ptsMark_of_retired {b : Nat} {p : Snap} (ha : activeEng s = some a) (hf : (rail s a).snaps.find? (fun p => p.blk == b) = some p)
    (hr : engSt s (1 - a) = 7) : ptsMark b s = setPts { s.pts with stored := some p } s := by
  have hmark : ptsMark b s = plannedTest true (upTo 2 loadWaiting (setPts { s.pts with stored := some p } s)) := by
    simp only [ptsMark, ha, hf, hr]
    rfl
  obtain ⟨u, hu⟩ : ∃ u, u = setPts { s.pts with stored := some p } s := ⟨_, rfl⟩
  have ha2 := activeEng_lt ha
  have h0 := engSt_of_activeEng ha
  have hst (e : Nat) : engSt u e = engSt s e := by rw [hu, engSt_setPts]
  have hne (e : Nat) (he : e < 2) : loadWaiting e u = u := by
    have h3 : engSt u e ≠ 3 := by
      rw [hst]
      obtain rfl | rfl : e = a ∨ e = 1 - a := by omega
      · omega
      · omega
    rw [loadWaiting, if_neg h3]
  have hdual : ptsDual u = false := by
    have hau : activeEng u = some a := by rw [hu, activeEng_setPts, ha]
    simp [ptsDual, hau, hst, hr]
  rw [hmark, ← hu, upTo, List.range_succ, List.range_one, List.foldl_append, List.foldl_cons, List.foldl_nil, List.foldl_cons, List.foldl_nil,
    hne 0 (by omega), hne 1 (by omega), plannedTest_of_not_dual true hdual]

theorem exec_commitMarkSnapshot_of_retired {b : Nat} {bs : List Nat} {p : Snap} (hh : s.held .metrology = false) (hx : s.x01 = b :: bs)
    (ha : activeEng s = some a) (hf : (rail s a).snaps.find? (fun p => p.blk == b) = some p) (hr : engSt s (1 - a) = 7) :
    exec .commitMarkSnapshot s = .next { s with x01 := bs, pts := { s.pts with markSeen := true, stored := some p } } := by
  have hmark := ptsMark_of_retired (s := { s with x01 := bs, pts := { s.pts with markSeen := true } }) ha hf hr
  rw [exec, execCommitMarkSnapshot, awake_of_not_held hh, hx]
  exact congrArg Host.Outcome.next hmark

@[simp] theorem rail_setEng (e st : Nat) (s : State) (o : Nat) : rail (setEng e st s) o = rail s o := by
  by_cases h6 : engSt s e = 6 ∧ st ≠ 6
  · have hp : (setEng e st s).pts = { s.pts with trialOn := false } := by
      rw [setEng_of_trial h6.1 h6.2, ptsShow_pts]; rfl
    unfold rail; rw [hp]
  · have hp : (setEng e st s).pts = s.pts := by rw [setEng_eq h6, ptsShow_pts]; rfl
    unfold rail; rw [hp]

theorem setRail_regs (e : Nat) (r : Rail) (s : State) : (setRail s e r).regs = s.regs := by unfold setRail; split <;> rfl

theorem modRail_regsBut (l : List Nat) (e : Nat) (f : Rail → Rail) (s : State) : RegsBut l s (modRail e f s) :=
  .same (.refl _ s) (setRail_regs _ _ _)

@[simp] theorem engSt_modRail (e : Nat) (f : Rail → Rail) (s : State) (o : Nat) : engSt (modRail e f s) o = engSt s o :=
  (modRail_regsBut [] e f s).get (by simp)

theorem rail_engNoted (e cause : Nat) (s : State) (o : Nat) : rail (engNoted e cause s) o = rail s o := by
  unfold rail engNoted; rfl

theorem rail_engFault {cause : Nat} (h : (s.pts.faultHours.filter fun f => f.1 == e).length < 2) (o : Nat) :
    rail (engFault e cause s) o = rail s o := by
  have hset : rail (setEng e 2 (engNoted e cause s)) o = rail s o := by rw [rail_setEng, rail_engNoted]
  rw [engFault_of_few h]
  split
  · exact hset
  · rw [rail_of_pts ((faultOther_within _ _ _).same .pts (by simp)), hset]

/-- A self-test passed while the other engine is active (R156, R158). -/
theorem selfTestDone_pass (he : e < 2) (hs : engSt s e = 2) (ho : engSt s (1 - e) = 0) :
    selfTestDone e true s = setEng e 3 (modRail e (fun r => { r with fails := 0, bootFail := false }) s) := by
  have ha : activeEng (setEng e 3 (modRail e (fun r => { r with fails := 0, bootFail := false }) s)) = some (1 - e) := by
    refine activeEng_of_single (by omega) ?_ ?_
    · rw [engSt_setEng_of_ne (by omega), engSt_modRail, ho]
    · rw [show 1 - (1 - e) = e by omega, engSt_setEng_self (by omega)]; omega
  rw [selfTestDone, if_pos ⟨he, hs⟩, if_pos rfl]
  simp only [ha]

theorem selfTestDone_pass_spec (he : e < 2) (hs : engSt s e = 2) (ho : engSt s (1 - e) = 0) :
    engSt (selfTestDone e true s) e = 3 ∧ engSt (selfTestDone e true s) (1 - e) = 0 ∧ (rail (selfTestDone e true s) e).fails = 0 ∧
      RegsBut [Reg.PTS_STAT, Reg.PTS_ENG e] s (selfTestDone e true s) ∧ Within [.regs, .pts] s (selfTestDone e true s) := by
  rw [selfTestDone_pass he hs ho]
  refine ⟨engSt_setEng_self (by omega), ?_, ?_, ?_, ((modRail_within _ _ _).sub rfl).comp (setEng_within _ _ _) rfl⟩
  · rw [engSt_setEng_of_ne (by omega), engSt_modRail, ho]
  · rw [rail_setEng, rail_modRail_self]
  · exact (modRail_regsBut _ _ _ _).trans (setEng_regsBut (by rw [engSt_modRail]; omega))

@[simp] theorem modRail_faultHours (e : Nat) (f : Rail → Rail) (s : State) : (modRail e f s).pts.faultHours = s.pts.faultHours := by
  unfold modRail setRail; split <;> rfl

/-- A self-test failed for the first time (R156). -/
theorem selfTestDone_fail_spec (he : e < 2) (hs : engSt s e = 2) (ho : engSt s (1 - e) = 0) (hf : (rail s e).fails = 0)
    (h : (s.pts.faultHours.filter fun f => f.1 == e).length < 2) :
    engSt (selfTestDone e false s) e = 2 ∧ engSt (selfTestDone e false s) (1 - e) = 0 ∧ (rail (selfTestDone e false s) e).fails = 1 ∧
      (selfTestDone e false s).on Fd.PTS_EVT_STFAIL = true ∧ (selfTestDone e false s).get (Fd.PTS_ENG_CAUSE e) = 4 ∧
      RegsBut [Reg.PTS_STAT, Reg.PTS_EVT, Reg.PTS_ENG e, Reg.SYS_FLT, Reg.SYS_FLTLAST] s (selfTestDone e false s) := by
  obtain ⟨m, hm⟩ : ∃ m, m = modRail e (fun r => { r with fails := r.fails + 1 }) s := ⟨_, rfl⟩
  have hfew : (m.pts.faultHours.filter fun f => f.1 == e).length < 2 := by rw [hm, modRail_faultHours]; exact h
  have hme (o : Nat) : engSt m o = engSt s o := by rw [hm, engSt_modRail]
  obtain ⟨h1, h2, h3, _, h5⟩ := engFault_spec (cause := 4) he (by rw [hme]; omega) (by omega) hfew
  have hfails : (rail (engFault e 4 m) e).fails = 1 := by rw [rail_engFault hfew, hm, rail_modRail_self, hf]
  have hrail : rail ((engFault e 4 m).raise Fd.PTS_EVT_STFAIL) e = rail (engFault e 4 m) e := rfl
  have heq : selfTestDone e false s = (engFault e 4 m).raise Fd.PTS_EVT_STFAIL := by
    rw [selfTestDone, if_pos ⟨he, hs⟩, if_neg (by simp), ← hm]
    exact if_neg (by rw [hrail, hfails]; omega)
  have hevt (f : RegField) (hr : f.reg ≠ Reg.PTS_EVT) : ((engFault e 4 m).raise Fd.PTS_EVT_STFAIL).get f = (engFault e 4 m).get f :=
    get_put_other _ _ _ _ (.inl (Ne.symm hr))
  rw [heq]
  refine ⟨?_, ?_, ?_, on_raise _ _ (by simp) (by simp), ?_, ?_⟩
  · rw [engSt, hevt _ (by grind)]; exact h1
  · rw [engSt, hevt _ (by grind), ← engSt, h2, hme, ho]
  · rw [hrail, hfails]
  · rw [hevt _ (by grind), h3]
  · rw [regsBut_raise (by simp)]
    have hsm : RegsBut [Reg.PTS_STAT, Reg.PTS_EVT, Reg.PTS_ENG e, Reg.SYS_FLT, Reg.SYS_FLTLAST] s m := by rw [hm]; exact modRail_regsBut _ _ _ _
    exact hsm.trans h5

theorem toIsland_hostAccess {p : Path} {i : Island} {eff : State → State} (h : s.held i = false) :
    toIsland i eff (hostAccess p s) = eff (hostAccess p s) := toIsland_of_not_held (by rw [held_hostAccess, h])

theorem engSt_hostAccess (p : Path) (s : State) (he : e < 2) : engSt (hostAccess p s) e = engSt s e :=
  get_hostAccess (by grind) (by grind) (by grind) (by grind)

@[simp] theorem activeEng_hostAccess (p : Path) (s : State) : activeEng (hostAccess p s) = activeEng s := by
  simp [activeEng, engSt_hostAccess, List.find?]

theorem setEng_regsBut_ctl (e st : Nat) (s : State) : RegsBut [Reg.PTS_STAT, Reg.PTS_CTL, Reg.PTS_ENG e] s (setEng e st s) := by
  by_cases h6 : engSt s e = 6 ∧ st ≠ 6
  · rw [setEng_of_trial h6.1 h6.2, regsBut_of_regsBut (ptsShow_regsBut _) (by simp)]
    simp
  · rw [setEng_eq h6, regsBut_of_regsBut (ptsShow_regsBut _) (by simp)]
    simp

theorem on_trial_setEng (h : engSt s e = 6) (hst : st ≠ 6) : (setEng e st s).on Fd.PTS_CTL_TRIAL = false := by
  rw [setEng_of_trial h hst]
  exact on_eq_false _ (by simp [State.lower])

@[simp] theorem engSt_railCorr (set : List (Nat × Int)) (e : Nat) (s : State) (o : Nat) : engSt (railCorr set e s) o = engSt s o :=
  engSt_modRail _ _ _ _

theorem corr_railCorr (set : List (Nat × Int)) (e : Nat) (s : State) : (rail (railCorr set e s) e).eng.corr = set := by
  rw [railCorr, rail_modRail_self]; rfl

/-- The end of a trial whose other engine is active (R161). -/
theorem trialStop_of_trial (he : e < 2) (hs : engSt s e = 6) (ho : engSt s (1 - e) = 0) :
    trialStop s = setEng e 3 (railCorr (corrInForce s) e s) := by
  have hf : [0, 1].find? (fun e => engSt s e == 6) = some e := by
    rcases Nat.lt_succ_iff_lt_or_eq.1 he with h0 | rfl
    · obtain rfl : e = 0 := by omega
      simp [hs]
    · simp only [Nat.sub_self] at ho
      simp [hs, ho]
  simp only [trialStop, hf]

theorem trialStop_spec (he : e < 2) (hs : engSt s e = 6) (ho : engSt s (1 - e) = 0) :
    engSt (trialStop s) e = 3 ∧ (trialStop s).on Fd.PTS_CTL_TRIAL = false ∧ (rail (trialStop s) e).eng.corr = corrInForce s ∧
      RegsBut [Reg.PTS_STAT, Reg.PTS_CTL, Reg.PTS_ENG e] s (trialStop s) := by
  rw [trialStop_of_trial he hs ho]
  refine ⟨engSt_setEng_self (by omega), on_trial_setEng (by rw [engSt_railCorr, hs]) (by omega), by rw [rail_setEng, corr_railCorr], ?_⟩
  exact (modRail_regsBut _ _ _ _).trans (setEng_regsBut_ctl _ _ _)

theorem exec_warmupEnd_of_active (hh : s.held .metrology = false) (he : e < 2) (hs : engSt s e = 4) (ho : engSt s (1 - e) = 0)
    (hw : s.parN Par.WARMUP ≤ (rail s e).warm) : exec (.warmupEnd e) s =
      .next ((setEng e 5 (modRail e (fun r => { r with shadow := 0 }) s)).put (Fd.PTS_ENG_CLEAN e) 0) := by
  have ha : activeEng s = some (1 - e) := activeEng_of_single (by omega) ho (by rw [show 1 - (1 - e) = e by omega, hs]; omega)
  rw [exec, execWarmupEnd, awake_of_not_held hh, if_pos ⟨he, hs, hw⟩, ha]

theorem exec_shadowPromote_of_active (hh : s.held .metrology = false) (he : e < 2) (hs : engSt s e = 5) (hc : 1000 ≤ s.get (Fd.PTS_ENG_CLEAN e))
    (hp : s.pts.planned = false) (hn : s.pts.plannedNow = false) : exec (.shadowPromote e) s =
      .next ((setEng e 1 (setPts { s.pts with cleanRun := s.get (Fd.PTS_ENG_CLEAN e) } s)).raise Fd.PTS_EVT_REJOIN) := by
  have hm : engSt (setPts { s.pts with cleanRun := s.get (Fd.PTS_ENG_CLEAN e) } s) e ≠ 6 := by rw [engSt_setPts]; omega
  have hpts : ((setEng e 1 (setPts { s.pts with cleanRun := s.get (Fd.PTS_ENG_CLEAN e) } s)).raise Fd.PTS_EVT_REJOIN).pts =
      { s.pts with cleanRun := s.get (Fd.PTS_ENG_CLEAN e) } := by
    rw [State.raise, State.put, setReg_pts, setEng_pts hm, setPts_pts]
  rw [exec, execShadowPromote, awake_of_not_held hh, if_pos ⟨he, hs, hc⟩]
  refine congrArg Host.Outcome.next (if_neg ?_)
  rw [← setPts, hpts, hp, hn]
  simp

/-- The sums of a trial cleared (R161). -/
def trialClear (s : State) : State := upTo 26 (fun w v => v.setRegN (Reg.PTS_TRIAL w) 0) s

theorem trialClear_regsBut (s : State) : RegsBut ((List.range 26).map fun w => Reg.PTS_TRIAL w) s (trialClear s) :=
  upTo_regsBut 26 (fun _ hi s => (RegsBut.refl _ s).setRegN (List.mem_map_of_mem (List.mem_range.2 hi))) s

theorem trialClear_within (s : State) : Within [.regs] s (trialClear s) :=
  Within.upTo (fun w v => setRegN_within v (Reg.PTS_TRIAL w) 0) s

theorem trialBegin_of_standby (ha : activeEng s = some a) (hb : engSt s (1 - a) = 1) :
    trialBegin s = (trialClear ((setPts { (setEng (1 - a) 6 (railCorr (corrOver (corrInForce s) s.parPend) (1 - a) s)).pts with
      trial := List.replicate 13 0, trialOn := true } (setEng (1 - a) 6 (railCorr (corrOver (corrInForce s) s.parPend) (1 - a) s))).setRegN
        Reg.PTS_TRIALBLK 0)).raise Fd.PTS_CTL_TRIAL := by
  simp only [trialBegin, ptsDual_of_standby ha hb, if_true, ha]
  rfl

theorem trialBegin_spec (ha : activeEng s = some a) (hb : engSt s (1 - a) = 1) :
    engSt (trialBegin s) (1 - a) = 6 ∧ engSt (trialBegin s) a = 0 ∧ (trialBegin s).on Fd.PTS_CTL_TRIAL = true ∧
      (trialBegin s).pts.trial = List.replicate 13 0 ∧ (trialBegin s).regN Reg.PTS_TRIALBLK = 0 ∧
      (rail (trialBegin s) (1 - a)).eng.corr = corrOver (corrInForce s) s.parPend ∧
      RegsBut ([Reg.PTS_STAT, Reg.PTS_CTL, Reg.PTS_ENG (1 - a), Reg.PTS_TRIALBLK] ++ (List.range 26).map (fun w => Reg.PTS_TRIAL w)) s
        (trialBegin s) := by
  obtain ⟨t, ht⟩ : ∃ t, t = setEng (1 - a) 6 (railCorr (corrOver (corrInForce s) s.parPend) (1 - a) s) := ⟨_, rfl⟩
  obtain ⟨u, hu⟩ : ∃ u, u = (setPts { t.pts with trial := List.replicate 13 0, trialOn := true } t).setRegN Reg.PTS_TRIALBLK 0 := ⟨_, rfl⟩
  have ha2 := activeEng_lt ha
  have hst (o : Nat) (ho : o < 2) : engSt ((trialClear u).raise Fd.PTS_CTL_TRIAL) o = engSt t o := by
    rw [engSt, State.raise, get_put_of_apart _ _ (.inl (by grind)), (trialClear_regsBut u).get, hu, get_setRegN_other _ _ _ _ (by grind), get_setPts,
      engSt]
    simp only [List.mem_map, List.mem_range, not_exists, not_and]
    grind
  have hpts : ((trialClear u).raise Fd.PTS_CTL_TRIAL).pts = { t.pts with trial := List.replicate 13 0, trialOn := true } := by
    rw [State.raise, State.put, setReg_pts, (trialClear_within u).same .pts (by simp), hu]; rfl
  rw [trialBegin_of_standby ha hb, ← ht, ← hu]
  refine ⟨?_, ?_, on_raise _ _ (by simp) (by simp), congrArg PtsState.trial hpts, ?_, ?_, ?_⟩
  · rw [hst _ (by omega), ht, engSt_setEng_self (by omega)]
  · rw [hst _ ha2, ht, engSt_setEng_of_ne (by omega), engSt_railCorr, engSt_of_activeEng ha]
  · have hblk : Reg.PTS_TRIALBLK ∉ (List.range 26).map fun w => Reg.PTS_TRIAL w := by
      simp only [List.mem_map, List.mem_range, not_exists, not_and]
      grind
    rw [State.raise, regN_put_other _ _ _ _ (by simp), (trialClear_regsBut u).regN hblk, hu, regN_setRegN_same, Nat.zero_mod]
  · have hr : rail ((trialClear u).raise Fd.PTS_CTL_TRIAL) (1 - a) = rail t (1 - a) := by
      unfold rail; rw [hpts]
    rw [hr, ht, rail_setEng, corr_railCorr]
  · have hst : RegsBut [Reg.PTS_STAT, Reg.PTS_CTL, Reg.PTS_ENG (1 - a)] s t := by
      rw [ht]; exact (modRail_regsBut _ _ _ _).trans (setEng_regsBut_ctl _ _ _)
    have htu : RegsBut [Reg.PTS_TRIALBLK] t u := by rw [hu]; simp
    rw [regsBut_raise (by simp)]
    exact ((hst.mono (by simp)).trans (htu.mono (by simp))).trans ((trialClear_regsBut u).mono (List.subset_append_right _ _))

end Engines

/-- Settles O14: each clause is one operation on the engines, whose own lemma says what it leaves. -/
theorem engineFaults : Obligations.EngineFaults := by
  unfold Obligations.EngineFaults
  refine ⟨fun s e hh he hr ha hb hf => ?_, fun s e hh he hr ha hb hf => ?_, fun s b a bs p hh hx ha hf hr => ?_, fun s e hh he hs ho => ?_,
    fun s e hh he hs ho hf h => ?_, fun s e hh he hs ho hf => ?_, fun s a hh ha hb hd => ?_, fun s hh hd => ?_, fun s p a hm hh ha hb hd => ?_⟩
  · refine Answers.mk (awake_of_not_held hh) (execEngineDeadlineMiss_answers e s) fun hw => ?_
    obtain ⟨h1, h2, h3, h4, h5, h6, h7, h8⟩ := ownFault_spec he hr ha hb (by omega : 2 < 16) hf
    exact ⟨h1, h2, h3, h4, h5, h6, h7, h8, hw.sub rfl⟩
  · refine Answers.mk (awake_of_not_held hh) (execEngineSelfCheckError_answers e s) fun hw => ?_
    obtain ⟨h1, h2, h3, h4, h5, h6, h7, h8⟩ := ownFault_spec he hr ha hb (by omega : 1 < 16) hf
    exact ⟨h1, h2, h3, h4, h5, h6, h7, h8, hw.sub rfl⟩
  · refine Answers.mk (exec_commitMarkSnapshot_of_retired hh hx ha hf hr) (execCommitMarkSnapshot_answers s) fun hw => ?_
    exact ⟨rfl, rfl, .of_paste hw.inv rfl⟩
  · refine Answers.of_not_held hh (Answers.next ?_)
    obtain ⟨h1, h2, h3, h4, h5⟩ := selfTestDone_pass_spec he hs ho
    exact ⟨h1, h2, h3, h4, h5⟩
  · refine Answers.mk (awake_of_not_held hh) (execEngineSelfTestDone_answers e false s) fun hw => ?_
    obtain ⟨h1, h2, h3, h4, h5, h6⟩ := selfTestDone_fail_spec he hs ho hf h
    exact ⟨h1, h2, h3, h4, h5, h6, hw.sub rfl⟩
  · refine Answers.of_not_held hh ⟨_, congrArg Host.Outcome.next (if_pos hf), ?_⟩
    obtain ⟨h1, _, h3, h4, h5⟩ := selfTestDone_pass_spec he hs ho
    exact ⟨h1, h3, h4, h5⟩
  · refine Answers.mk (awake_of_not_held hh) (execPlannedSelfTestDue_answers s) fun hw => ?_
    obtain ⟨h1, h2, h3, h4⟩ := plannedTest_spec (s := setPts { s.pts with planned := true } s) false rfl
      (by rw [activeEng_setPts, ha]) (by rw [engSt_setPts, hb]) hd
    exact ⟨h1, h2, congrArg PtsState.planned h3, congrArg PtsState.due h3, h4, hw.sub rfl⟩
  · refine Answers.mk ((awake_of_not_held hh).trans (congrArg Host.Outcome.next (plannedTest_of_not_dual false ?_))) (execPlannedSelfTestDue_answers s)
      fun hw => ⟨rfl, .of_paste hw.inv rfl⟩
    rw [← hd]; exact ptsDual_setPts _ _
  · refine Answers.mk (congrArg Host.Outcome.next (hostOwn_of_may hm)) (execSelfTestNow_answers p s) fun hw => ?_
    rw [toIsland_hostAccess hh] at hw ⊢
    have ha2 := activeEng_lt ha
    obtain ⟨h1, h2, h3, h4⟩ := plannedTest_spec (s := setPts { (hostAccess p s).pts with plannedNow := true } (hostAccess p s)) (a := a) false
      (by simp) (by rw [activeEng_setPts, activeEng_hostAccess, ha])
      (by rw [engSt_setPts, engSt_hostAccess p s (by omega), hb]) (by rw [setPts_pts, hostAccess_pts]; exact hd)
    have hout : (testNow (hostAccess p s)).out = s.out :=
      ((plannedTest_within false _).same .out (by simp)).trans (hostAccess_out p s)
    have hregs : RegsBut (Reg.PTS_STAT :: Reg.PTS_ENG (1 - a) :: hostRegs p) s (testNow (hostAccess p s)) :=
      (RegsBut.hostAccess (by simp)).trans (RegsBut.mono h4 (by simp))
    refine ⟨?_, ?_, ?_, ?_, ?_, hregs, hw⟩
    · rw [engSt, get_hostReply]; exact h1
    · rw [engSt, get_hostReply]; exact h2
    · exact congrArg PtsState.plannedNow h3
    · refine (congrArg PtsState.due h3).trans ?_
      simp
    · rw [hostReply_out, hout]

/-- Settles O15: each clause puts one engine into a state, with what it starts or ends. -/
theorem engineRejoin : Obligations.EngineRejoin := by
  unfold Obligations.EngineRejoin
  refine ⟨fun s e hh he hs ho hw => ?_, fun s e hh he hs ho hc hp hn => ?_, fun s e hh he hs ho hsh hc hf => ?_, fun s p a hm hh ha hb => ?_,
    fun s p e hm hh he hs ho => ?_, fun s e hh he hs ho => ?_, fun s p hm hh => ?_⟩
  · refine Answers.mk (exec_warmupEnd_of_active hh he hs ho hw) (execWarmupEnd_answers e s) fun hwi => ?_
    have hm : engSt (modRail e (fun r => { r with shadow := 0 }) s) e ≠ 6 := by rw [engSt_modRail]; omega
    refine ⟨?_, ?_, ?_, ?_, ?_, hwi⟩
    · rw [engSt, get_put_of_apart _ _ (.inr (.inr (by simp)))]; exact engSt_setEng_self (by omega)
    · rw [engSt, get_put_of_apart _ _ (.inr (.inr (by simp))), ← engSt, engSt_setEng_of_ne (by omega), engSt_modRail, ho]
    · rw [get_put_self _ _ _ (by simp)]; rfl
    · rw [rail_of_pts (put_pts _ _ _), rail_setEng, rail_modRail_self]
    · rw [regsBut_put (by simp)]
      exact (modRail_regsBut _ _ _ _).trans (setEng_regsBut hm)
  · refine Answers.mk (exec_shadowPromote_of_active hh he hs hc hp hn) (execShadowPromote_answers e s) fun hw => ?_
    have hm : engSt (setPts { s.pts with cleanRun := s.get (Fd.PTS_ENG_CLEAN e) } s) e ≠ 6 := by rw [engSt_setPts]; omega
    have hsm : RegsBut [Reg.PTS_STAT, Reg.PTS_EVT, Reg.PTS_ENG e] s (setPts { s.pts with cleanRun := s.get (Fd.PTS_ENG_CLEAN e) } s) := by simp
    refine ⟨?_, ?_, on_raise _ _ (by simp) (by simp), ?_, hw⟩
    · rw [engSt, State.raise, get_put_of_apart _ _ (.inl (by grind))]; exact engSt_setEng_self (by omega)
    · rw [engSt, State.raise, get_put_of_apart _ _ (.inl (by grind)), ← engSt, engSt_setEng_of_ne (by omega), engSt_setPts, ho]
    · rw [regsBut_raise (by simp)]
      exact hsm.trans ((setEng_regsBut hm).mono (by simp))
  · refine Answers.mk ((awake_of_not_held hh).trans (congrArg Host.Outcome.next (if_pos ⟨he, hs, hsh, hc⟩))) (execShadowTimeout_answers e s)
      fun hw => ?_
    obtain ⟨h1, h2, h3, _, h5⟩ := engFault_spec (cause := 5) he (by omega) (by omega) hf
    refine ⟨?_, ?_, on_raise _ _ (by simp) (by simp), ?_, ?_, hw⟩
    · rw [engSt, State.raise, get_put_of_apart _ _ (.inl (by grind))]; exact h1
    · rw [engSt, State.raise, get_put_of_apart _ _ (.inl (by grind)), ← engSt, h2, ho]
    · rw [State.raise, get_put_of_apart _ _ (.inl (by grind)), h3]
    · rw [regsBut_raise (by simp)]; exact h5
  · refine Answers.mk (congrArg Host.Outcome.next (hostOwn_of_may hm)) (execTrialStart_answers p s) fun hw => ?_
    rw [toIsland_hostAccess hh] at hw ⊢
    have ha2 := activeEng_lt ha
    obtain ⟨h1, h2, h3, h4, h5, h6, h7⟩ := trialBegin_spec (s := hostAccess p s) (a := a) (by rw [activeEng_hostAccess, ha])
      (by rw [engSt_hostAccess p s (by omega), hb])
    rw [corrInForce, hostAccess_params, hostAccess_parPend] at h6
    refine ⟨?_, ?_, by rw [on_hostReply, h3], h4, by rw [regN_hostReply, h5], h6, ?_, hw⟩
    · rw [engSt, get_hostReply]; exact h1
    · rw [engSt, get_hostReply]; exact h2
    · rw [regsBut_hostReply]
      exact (RegsBut.hostAccess (List.subset_append_right _ _)).trans (h7.mono (List.subset_append_left _ _))
  · refine Answers.mk (congrArg Host.Outcome.next (hostOwn_of_may hm)) (execTrialEnd_answers p s) fun hw => ?_
    rw [toIsland_hostAccess hh] at hw ⊢
    obtain ⟨h1, h2, h3, h4⟩ := trialStop_spec (s := hostAccess p s) he (by rw [engSt_hostAccess p s he, hs])
      (by rw [engSt_hostAccess p s (by omega), ho])
    rw [corrInForce, hostAccess_params] at h3
    refine ⟨?_, by rw [on_hostReply, h2], h3, ?_, hw⟩
    · rw [engSt, get_hostReply]; exact h1
    · rw [regsBut_hostReply]
      exact (RegsBut.hostAccess fun x hx => by simp [hx]).trans (h4.mono (by simp))
  · refine Answers.mk (awake_of_not_held hh) (execTrialMaxExpiry_answers s) fun hw => ?_
    obtain ⟨h1, h2, h3, h4⟩ := trialStop_spec he hs ho
    exact ⟨h1, h2, h3, h4, hw⟩
  · refine Answers.mk (congrArg Host.Outcome.next (hostOwn_of_may hm)) (execMismatchCountClear_answers p s) fun hw => ?_
    rw [toIsland_hostAccess hh] at hw ⊢
    exact ⟨by simp [clearMism, State.lower], by simp [clearMism, State.lower], by simp [clearMism, State.lower],
      by simp [clearMism, List.subset_cons_of_subset], hw⟩

end Sys2Proof.Machine
end

section
/-!
Billing's views, credit transfers and Waybills (spec/05_billing_registers.md R187, R198, R204).
-/
namespace Sys2Proof.Machine

open State

section Views

variable {s t : State} {p : Path}

/-- The words of a frozen view depend on billing's own state and on the registers from 0xB1000 to 0xB1FFF. -/
theorem viewWords_congr (hb : t.bil = s.bil) (hr : ∀ a, 0xB1000 ≤ a → a < 0xB2000 → t.reg a = s.reg a) : viewWords t = viewWords s := by
  have henergy (q r : Nat) : energyOf t q r = energyOf s q r := by rw [energyOf, energyOf, accOf, accOf, hb]
  unfold viewWords
  simp only [henergy]
  refine congrArg (HAppend.hAppend _) (List.map_congr_left fun a ha => ?_)
  simp only [List.mem_append, List.mem_map, List.mem_range, List.mem_cons, List.not_mem_nil, or_false] at ha
  rw [hr a (by grind) (by grind)]

theorem viewWords_hostAccess (p : Path) (s : State) : viewWords (hostAccess p s) = viewWords s :=
  viewWords_congr (hostAccess_bil) fun a h1 h2 => reg_hostAccess_other (by grind) (by grind) (by omega) (by omega)

theorem viewSnap_spec (s : State) :
    (viewSnap s).bil = { s.bil with frozen := viewWords s } ∧ (viewSnap s).on Fd.BIL_STAT_SNAPON = true ∧
      (viewSnap s).reg Reg.BIL_SNAPNUM = s.reg Reg.BIL_COMMIT ∧ (viewSnap s).out = s.out ∧
      RegsBut [Reg.BIL_STAT, Reg.BIL_SNAPNUM] s (viewSnap s) := by
  unfold viewSnap
  generalize viewWords s = v
  exact ⟨rfl, by simp [State.on, State.raise], by simp, rfl, by simp⟩

theorem viewRelease_spec (s : State) :
    (viewRelease s).bil = { s.bil with frozen := [] } ∧ (viewRelease s).on Fd.BIL_STAT_SNAPON = false ∧
      (viewRelease s).regN Reg.BIL_SNAPNUM = 0 ∧ (viewRelease s).out = s.out ∧ RegsBut [Reg.BIL_STAT, Reg.BIL_SNAPNUM] s (viewRelease s) :=
  ⟨rfl, by simp [viewRelease, State.on, State.lower], by simp [viewRelease], rfl, by simp [viewRelease]⟩

theorem creditTransfer_of_greater {amount : Int} {number src : Nat} (h : s.regN Reg.BIL_TOPUP < number) : (creditTransfer amount number src s).2 =
    ({ s with bil := { s.bil with transfers := s.bil.transfers ++ [(amount, number, src)] } } : State).setRegN Reg.BIL_TOPUP number := by
  rw [creditTransfer, if_pos h]

theorem creditTransfer_of_not_greater {amount : Int} {number src : Nat} (h : number ≤ s.regN Reg.BIL_TOPUP) : (creditTransfer amount number src s).2 =
    logWrite 0x0007 src number (s.raise Fd.BIL_EVT_TOPREJ) := by
  rw [creditTransfer, if_neg (Nat.not_lt.2 h)]

/-- A Waybill signed with P-256 needs no Token (R204, R385). -/
theorem wbSign_of_p256 {w : Waybill} {rest : List Waybill} (hu : s.bil.unsigned = w :: rest) (hr : s.bil.signRetry = false) (hp : s.pfw = false)
    (hk : wbKeyOk s = true) (ha : s.parN Par.WB_SIGALG = 1) : wbSign s = wbAttach w s := by
  simp [wbSign, hu, hr, hp, hk, ha]

theorem wbAttach_spec {w : Waybill} {rest : List Waybill} (hu : s.bil.unsigned = w :: rest) (hw : w.kind = 1) :
    (wbAttach w s).bil.unsigned = rest ∧ (wbAttach w s).bil.signRetry = s.bil.signRetry ∧
      (∃ w', (wbAttach w s).bil.sessWb = (w' :: s.bil.sessWb).take 16384 ∧ w'.seq = w.seq ∧ w'.body = w.body ∧
        w'.sigAlg = s.parN Par.WB_SIGALG ∧ w'.keySlot = s.parN Par.WB_KEYSLOT) ∧
      RegsBut [Reg.BIL_WBUNS, Reg.BIL_STAT] s (wbAttach w s) := by
  simp only [wbAttach, showWaybills, hw, if_true, putB_bil, put_bil, hu, List.erase_cons_head]
  exact ⟨trivial, trivial, ⟨_, rfl, rfl, rfl, rfl, rfl⟩, by simp⟩

end Views

/-- Settles O17: the view is frozen and released by two updates, a transfer is appended or refused, and a Waybill is signed at once. -/
theorem billingViews : Obligations.BillingViews := by
  unfold Obligations.BillingViews
  refine ⟨fun s p hm => ?_, fun s p hm => ?_, fun s => ?_, fun s amount number src hn hl => ?_, fun s amount number src hn => ?_,
    fun s w rest hu hr hp hk ha hw => ?_, fun s w rest hu hp hk ha hw => ?_⟩
  · refine Answers.mk (congrArg Host.Outcome.next (hostOwn_of_may hm)) (execViewSnap_answers p s) fun hw => ?_
    obtain ⟨h1, h2, h3, h4, h5⟩ := viewSnap_spec (hostAccess p s)
    rw [viewWords_hostAccess, hostAccess_bil] at h1
    refine ⟨h1, by rw [on_hostReply, h2], ?_, by rw [hostReply_out, h4, hostAccess_out], ?_, hw⟩
    · rw [reg_hostReply, h3, reg_hostAccess_other (by simp) (by simp) (by simp) (by simp)]
    · rw [regsBut_hostReply]
      exact (RegsBut.hostAccess fun x hx => by simp [hx]).trans (h5.mono (by simp))
  · refine Answers.mk (congrArg Host.Outcome.next (hostOwn_of_may hm)) (execViewRelease_answers p s) fun hw => ?_
    obtain ⟨h1, h2, h3, h4, h5⟩ := viewRelease_spec (hostAccess p s)
    rw [hostAccess_bil] at h1
    refine ⟨h1, by rw [on_hostReply, h2], by rw [regN_hostReply, h3], by rw [hostReply_out, h4, hostAccess_out], ?_, hw⟩
    rw [regsBut_hostReply]
    exact (RegsBut.hostAccess fun x hx => by simp [hx]).trans (h5.mono (by simp))
  · refine Answers.mk rfl (execViewSnapTimeout_answers s) fun hw => ?_
    obtain ⟨h1, h2, h3, _, h5⟩ := viewRelease_spec s
    exact ⟨h1, h2, h3, h5, hw⟩
  · refine Answers.mk (congrArg Host.Outcome.next (creditTransfer_of_greater hn)) (execCreditTransferReceive_answers amount number src s) fun hw => ?_
    exact ⟨rfl, by rw [regN_setRegN_same, Nat.mod_eq_of_lt hl], by simp, .of_paste hw.inv rfl⟩
  · refine Answers.mk (congrArg Host.Outcome.next (creditTransfer_of_not_greater hn)) (execCreditTransferReceive_answers amount number src s) fun hw => ?_
    have hlog := logWrite_within 0x0007 src number (s.raise Fd.BIL_EVT_TOPREJ)
    have hregs : RegsBut [Reg.BIL_EVT] s (logWrite 0x0007 src number (s.raise Fd.BIL_EVT_TOPREJ)) :=
      ((RegsBut.refl _ s).raise (by simp)).trans (hlog.regsBut (by simp))
    refine ⟨?_, hregs, ((raise_within _ _).sub rfl).comp hlog rfl⟩
    rw [(hlog.regsBut (l := []) (by simp)).on (by simp)]
    exact on_raise _ _ (by simp) (by simp)
  · refine Answers.mk (congrArg Host.Outcome.next (wbSign_of_p256 hu hr hp hk ha)) (execWaybillSigned_answers s) fun hwi => ?_
    obtain ⟨h1, _, ⟨w', h3, h4, h5, h6, h7⟩, h8⟩ := wbAttach_spec hu hw
    exact ⟨h1, ⟨w', h3, h4, h5, h6.trans ha, h7⟩, h8, hwi⟩
  · refine Answers.mk (congrArg Host.Outcome.next (wbSign_of_p256 (s := { s with bil := { s.bil with signRetry := false } }) hu rfl hp hk ha))
      (execWaybillSignRetry_answers s) fun hwi => ?_
    obtain ⟨h1, h2, ⟨w', h3, h4, h5, h6, h7⟩, h8⟩ := wbAttach_spec (s := { s with bil := { s.bil with signRetry := false } }) hu hw
    exact ⟨h1, h2, ⟨w', h3, h4, h5⟩, h8, hwi⟩

end Sys2Proof.Machine
end

section
/-!
Billing's pipeline (spec/05_billing_registers.md R173 to R181): a record taken, the tick of a module that does not run, and a commit, of whose many
operations only one moves the accumulators.
-/
namespace Sys2Proof.Machine

open State

section Accumulators

variable {s : State}

/-- The accumulators are the same in two states. -/
def AccSame (s t : State) : Prop := t.bil.acc = s.bil.acc

theorem AccSame.trans {s t u : State} (h : AccSame s t) (g : AccSame t u) : AccSame s u := Eq.trans (b := t.bil.acc) g h

theorem AccSame.of_within {s t : State} {ps : List Part} (h : Within ps s t) (hp : .bil ∉ ps) : AccSame s t := by
  rw [AccSame, h.same .bil hp]

theorem AccSame.ite {c : Prop} [Decidable c] {s t u : State} (h1 : AccSame s t) (h2 : AccSame s u) : AccSame s (if c then t else u) := by
  split <;> assumption

theorem AccSame.foldl {α : Type} {f : State → α → State} {xs : List α} (h : ∀ v x, AccSame v (f v x)) (s : State) : AccSame s (xs.foldl f s) := by
  induction xs generalizing s with
  | nil => rfl
  | cons x xs ih => exact (h s x).trans (ih _)

theorem demandClose_acc (sec rate : Nat) (s : State) : AccSame s (demandClose sec rate s) := by
  have hmax (d r v e : Nat) (t : State) : (dmdMax d r v e t).bil = t.bil := by
    unfold dmdMax; split <;> rfl
  have hup (n : Nat) (f : Nat → State → State) (hf : ∀ i t, (f i t).bil = t.bil) (t : State) : (upTo n f t).bil = t.bil := by
    unfold upTo
    induction List.range n generalizing t with
    | nil => rfl
    | cons i l ih => exact (ih _).trans (hf i t)
  unfold demandClose
  extract_lets t share
  have hbil : t.bil = s.bil := hup 6 _ (fun d t => by rw [hmax, hmax, setRegN_bil]) s
  have ht : AccSame s t := by rw [AccSame, hbil]
  clear_value t
  exact ht.trans (.trans (t := { t with bil := { t.bil with dmd := ⟨sec + 1, 0, List.replicate 6 0, (share :: s.bil.dmd.past).take 15, false⟩ } })
    rfl (.of_within (showDemand_within _) (by simp)))

theorem captureLp1_acc (e st : Nat) (s : State) : AccSame s (captureLp1 e st s) := by
  unfold captureLp1 AccSame; rw [(showProfiles_within _).same .bil (by simp)]

theorem captureLp2_acc (e st : Nat) (s : State) : AccSame s (captureLp2 e st s) := by
  unfold captureLp2 AccSame; rw [(showProfiles_within _).same .bil (by simp)]

theorem wbStore_acc (w : Waybill) (s : State) : AccSame s (wbStore w s) := by
  unfold wbStore AccSame; rw [(showWaybills_within _).same .bil (by simp)]; rfl

theorem wbSkip_acc (s : State) : AccSame s (wbSkip s) := .of_within (wbSkip_within s) (by simp)

theorem wbMakeRoom_acc (s : State) : AccSame s (wbMakeRoom s) := by
  have hskip := wbSkip_acc { s with bil := { s.bil with unsigned := s.bil.unsigned.eraseP (fun w => w.kind == 2) } }
  exact .ite rfl (.ite hskip rfl)

theorem intervalWaybill_acc (st a b blk r : Nat) (s : State) : AccSame s (intervalWaybill st a b blk r s) :=
  .ite (.ite (wbSkip_acc s) (wbStore_acc _ s)) rfl

theorem sessionWaybills_acc (sec blk r : Nat) (s : State) : AccSame s (sessionWaybills sec blk r s) := by
  unfold sessionWaybills
  exact AccSame.foldl (fun v x => (wbMakeRoom_acc v).trans (wbStore_acc _ _)) s

theorem periodEnd_acc (sec st : Nat) (s : State) : AccSame s (periodEnd sec st s) := by
  have hclear (t : State) : AccSame t (upTo 6 (fun d u => upTo 17 (fun r v => v.setRegN (Reg.BIL_DMDMAX d r) 0) u) t) :=
    .of_within (Within.upTo (fun _ u => Within.upTo (fun _ v => setRegN_within v _ _) u) t) (by simp)
  have hlog (t : State) : AccSame t (logPut (t.regN Reg.BTM_TIME) 0x0004 (if s.bil.endNow then 1 else 0) t.bil.periods st t) :=
    .of_within (logPut_within _ _ _ _ _ _) (by simp)
  unfold periodEnd
  exact (hclear _).trans (hlog _)

theorem rollback_acc (p : Pend → Bool) (s : State) : AccSame s (rollback p s) := by
  have h (t : State) (hb : t.bil.acc = s.bil.acc) : AccSame s (showPend t) :=
    AccSame.trans hb (.of_within (showPend_within t) (by simp))
  exact .ite (h _ rfl) rfl

theorem activate_acc (sec : Nat) (s : State) : AccSame s (activate sec s) := by
  unfold activate
  split
  · rfl
  · next t _ =>
    have hm (u : State) : AccSame u (markSec sec 64 u) := rfl
    refine AccSame.trans ?_ (.of_within (logWrite_within _ _ _ _) (by simp))
    refine AccSame.trans ?_ (rollback_acc _ _)
    exact hm _

theorem applyTransfers_acc (s : State) : AccSame s (applyTransfers s) := by
  have hone (v : State) (x : Int × Nat × Nat) : AccSame v (logWrite 0x0007 x.2.2 x.2.1
      (({ v with bil := { v.bil with credit := v.bil.credit + x.1 } }).raise Fd.BIL_EVT_TOPUP)) :=
    AccSame.trans (s := v) (t := ({ v with bil := { v.bil with credit := v.bil.credit + x.1 } }).raise Fd.BIL_EVT_TOPUP)
      (by simp [AccSame, State.raise]) (.of_within (logWrite_within _ _ _ _) (by simp))
  exact AccSame.foldl (s := { s with bil := { s.bil with transfers := [] } }) hone

theorem prepayDebit_acc (sums : List Nat) (rate : Nat) (s : State) : AccSame s (prepayDebit sums rate s) := .ite rfl rfl

theorem secondEvents_acc (c : CommitInfo) (hws : Nat) (split : Bool) (s : State) : AccSame s (secondEvents c hws split s) := by
  unfold secondEvents
  extract_lets fresh dEnd iEnd s1 cut st1 start1 s2 late
  have h1 : AccSame s s1 := .ite (demandClose_acc _ _ s) rfl
  have h2 : AccSame s s2 := h1.trans (.ite (captureLp1_acc _ _ s1) rfl)
  clear_value s1 s2
  split
  next lpAt endAt _ =>
  extract_lets s3 s4 s5 s6 s7 s8
  have h3 : AccSame s s3 := h2.trans (.ite (captureLp2_acc _ _ s2) rfl)
  clear_value s3
  have h4 : AccSame s s4 := h3.trans (.ite (periodEnd_acc _ _ s3) rfl)
  clear_value s4
  have h5 : AccSame s s5 := h4.trans (.ite (intervalWaybill_acc _ _ _ _ _ s4) rfl)
  clear_value s5
  have h6 : AccSame s s6 := h5.trans (sessionWaybills_acc _ _ _ s5)
  clear_value s6
  have h7 : AccSame s6 s7 := by
    unfold s7
    split
    · exact .ite (activate_acc _ s6) rfl
    · rfl
  clear_value s7
  have h8 : AccSame s7 s8 := .ite (.of_within (applyNext_within s7) (by simp)) rfl
  exact (h6.trans h7).trans h8

end Accumulators

section Commit

variable {s : State}

theorem sesFinish_acc (s : State) : AccSame s (sesFinish s) := by
  unfold sesFinish
  extract_lets +onlyGivenNames -merge -underBinder t0
  have h0 : AccSame s t0 := .of_within (Within.when (fun v => (convModes_within _ v).comp (convModes_within _ _) rfl) s) (by simp)
  clear_value t0
  extract_lets +onlyGivenNames -merge -underBinder t1
  have h1 : AccSame s t1 := h0.trans (((AccSame.of_within (tokGive_within _ _ _) (by simp)).trans
    (.of_within (tokGive_within _ _ _) (by simp))).trans ((AccSame.of_within (tok1Show_within _) (by simp)).trans
      (.of_within (siteRelease_within _) (by simp))))
  clear_value t1
  extract_lets +onlyGivenNames -merge -underBinder id src t2
  have h2 : AccSame s t2 := h1.trans rfl
  clear_value t2
  extract_lets +onlyGivenNames -merge -underBinder t3
  have h3 : AccSame s t3 := h2.trans rfl
  clear_value t3
  extract_lets +onlyGivenNames -merge -underBinder t4
  have h4 : AccSame s t4 := h3.trans (AccSame.trans (t := (t3.lower Fd.SES_STAT_AUTHOK).raise Fd.SES_EVT_END) rfl
    (.of_within (sesDiscard_within _) (by simp)))
  clear_value t4
  extract_lets +onlyGivenNames -merge -underBinder src5 t5
  have h5 : AccSame s t5 := h4.trans ((AccSame.of_within (setSes_within _ _) (by simp)).trans (.of_within (isetShow_within _) (by simp)))
  clear_value t5
  extract_lets +onlyGivenNames -merge -underBinder t6
  have h6 : AccSame s t6 := h5.trans (.of_within (Within.when relayOpen_within t5) (by simp))
  clear_value t6
  exact h6.trans (.of_within (sesEnter_within _ _) (by simp))

theorem sesDisconnect_acc (s : State) : AccSame s (sesDisconnect s) := by
  have hend (t : State) : AccSame t (sesEndCheck t) := .ite (sesFinish_acc t) rfl
  have hopen (t : State) : AccSame t (sesOpenSend t) := .ite rfl
    (AccSame.trans (t := setSes { t.ses with openSent := true } { t with x04 := t.x04 ++ [.openAll] }) rfl (hend _))
  have hstop (t : State) : AccSame t (sesStop 6 t) :=
    .ite (.trans (.of_within (sesStopBegin_within 6 t) (by simp)) (.ite (hopen _) rfl)) rfl
  exact .ite (hstop s) rfl

theorem afterCommit_acc (s t : State) : AccSame t (afterCommit s t) := by
  have h1 : AccSame t (discUpdate 0 1 t) := .of_within (discUpdate_within 0 1 t) (by simp)
  have hu := (h1.trans (sesDisconnect_acc _)).trans (.of_within (creditReplies_within _) (by simp))
  exact .ite (hu.trans (.of_within (tagRefresh_within _) (by simp))) hu

/-- What follows a commit writes no commit mark. -/
theorem afterCommit_x01 (s t : State) : (afterCommit s t).x01 = t.x01 := (afterCommit_within s t).same .x01 (by simp)

theorem nth_range_map {α : Type} {n i : Nat} (f : Nat → α) (d : α) (h : i < n) : nth ((List.range n).map f) i d = f i := by
  simp [nth, List.getD_eq_getElem?_getD, h]

/-- A state's accumulators and its commit marks. -/
def AccMarks (a x : List Nat) (t : State) : Prop := t.bil.acc = a ∧ t.x01 = x

theorem AccMarks.of_within {a x : List Nat} {t u : State} {ps : List Part} (h : AccMarks a x t) (hw : Within ps t u) (hb : .bil ∉ ps)
    (hx : .x01 ∉ ps) : AccMarks a x u := by
  rwa [AccMarks, hw.same .bil hb, hw.same .x01 hx]

theorem AccMarks.of_acc {a x : List Nat} {t u : State} {ps : List Part} (h : AccMarks a x t) (hs : AccSame t u) (hw : Within ps t u)
    (hx : .x01 ∉ ps) : AccMarks a x u := ⟨Eq.trans hs h.1, (hw.same .x01 hx).trans h.2⟩

theorem AccMarks.ite {a x : List Nat} {c : Prop} [Decidable c] {t u : State} (h1 : AccMarks a x t) (h2 : AccMarks a x u) :
    AccMarks a x (if c then t else u) := by
  split <;> assumption

/-- The accumulators after a commit (R177): slot 0 takes every amount of a quantity, each other slot those of the entries at its rate. -/
def committedAcc (s : State) (es : List Pend) : List Nat :=
  (List.range 187).map (fun i =>
    nth s.bil.acc i 0 + (if i % 17 = 0 then nth (es.foldl (fun a e => List.zipWith (· + ·) a (amounts s e.rcd)) (List.replicate 11 0)) (i / 17) 0
      else (es.map (fun e => if e.rate = i % 17 then nth (amounts s e.rcd) (i / 17) 0 else 0)).sum))

/-- A commit with a last entry moves the accumulators once, and puts that entry's block number on X01 (R177). -/
theorem commitTake_accMarks {sec extra : Nat} {es : List Pend} {split : Bool} {e : Pend} (he : es.getLast? = some e) (s : State) :
    AccMarks (committedAcc s es) (s.x01 ++ [e.rcd.blk]) (commitTake sec es extra split s) := by
  unfold commitTake
  extract_lets +onlyGivenNames -merge -underBinder status sums
  split
  next rate friendly fell _ =>
  extract_lets +onlyGivenNames -merge -underBinder hws taken acc d blkEnd dmd j b t0
  have hb : AccMarks (committedAcc s es) s.x01 { s with bil := b } := ⟨rfl, rfl⟩
  have h0 : AccMarks (committedAcc s es) s.x01 t0 :=
    (((hb.of_acc (applyTransfers_acc _) (applyTransfers_within _) (by simp)).of_acc (prepayDebit_acc sums rate _) (prepayDebit_within sums rate _)
      (by simp)).of_within (creditUpdate_within friendly _) (by simp) (by simp))
  clear_value t0
  extract_lets +onlyGivenNames -merge -underBinder miss est t1
  have hlog (code n st : Nat) (v : Int) (f : RegField) (t : State) (ht : AccMarks (committedAcc s es) s.x01 t) :
      AccMarks (committedAcc s es) s.x01 (logPut sec code n v st (t.raise f)) :=
    (ht.of_within (raise_within t f) (by simp) (by simp)).of_within (logPut_within _ _ _ _ _ _) (by simp) (by simp)
  have h1 : AccMarks (committedAcc s es) s.x01 t1 :=
    .ite (hlog _ _ _ _ _ _ (h0.of_within (bumpReg_within t0 _ _) (by simp) (by simp))) h0
  clear_value t1
  extract_lets +onlyGivenNames -merge -underBinder t2
  have h2 : AccMarks (committedAcc s es) s.x01 t2 :=
    .ite (hlog _ _ _ _ _ _ (h1.of_within (bumpReg_within t1 _ _) (by simp) (by simp))) h1
  clear_value t2
  extract_lets +onlyGivenNames -merge -underBinder t3
  have h3 : AccMarks (committedAcc s es) s.x01 t3 := .ite (hlog _ _ _ _ _ _ h2) h2
  clear_value t3
  extract_lets +onlyGivenNames -merge -underBinder t4
  have h4 : AccMarks (committedAcc s es) s.x01 t4 := ((h3.of_within (setRegN_within _ _ _) (by simp) (by simp)).of_within (setRegN_within _ _ _)
    (by simp) (by simp)).of_within (setRegN_within _ _ _) (by simp) (by simp)
  clear_value t4
  extract_lets +onlyGivenNames -merge -underBinder t5
  have h5 : AccMarks (committedAcc s es) s.x01 t5 := ((h4.of_within (showDemand_within _) (by simp) (by simp)).of_within (showCredit_within _)
    (by simp) (by simp)).of_within (showPend_within _) (by simp) (by simp)
  clear_value t5
  rw [he]
  extract_lets +onlyGivenNames -merge -underBinder t6
  have h6 : AccMarks (committedAcc s es) (s.x01 ++ [e.rcd.blk]) t6 := by
    obtain ⟨ha, hx⟩ := h5
    exact ⟨ha, by rw [← hx]⟩
  clear_value t6
  exact h6.of_acc (secondEvents_acc _ _ _ t6) (secondEvents_within _ _ _ t6) (by simp)

theorem nth_committedAcc {q r : Nat} (s : State) (es : List Pend) (hq : q < 11) (h0 : 0 < r) (hr : r < 17) :
    nth (committedAcc s es) (17 * q + r) 0 = accOf s q r + (es.map fun e => if e.rate = r then nth (amounts s e.rcd) q 0 else 0).sum := by
  have hm : (17 * q + r) % 17 = r := by omega
  have hd : (17 * q + r) / 17 = q := by omega
  rw [committedAcc, nth_range_map _ _ (by omega), hm, hd, if_neg (by omega), accOf]

/-- A record taken while nothing stops intake is appended as one entry (R175, R179). -/
theorem takeRecord_of_room {r : Rec} {rs : List Rec} (hx : s.x00 = r :: rs) (hs : s.bil.stopped = false) (hl : s.on Fd.SYS_FLT_BILLOST = false)
    (hp : s.bil.pend.length < 4095) : takeRecord s = attrRecord r { s with x00 := rs } := by
  have hlen : ¬4096 ≤ (attrRecord r { s with x00 := rs }).bil.pend.length := by
    have hb : (attrRecord r { s with x00 := rs }).bil.pend.length = s.bil.pend.length + 1 := by
      unfold attrRecord
      rw [(showPend_within _).same .bil (by simp)]
      exact List.length_append
    omega
  simp only [takeRecord, hx, hs, hl, if_neg hlen]
  rfl

theorem attrRecord_spec (r : Rec) (s : State) :
    (attrRecord r s).x00 = s.x00 ∧ (∃ e : Pend, (attrRecord r s).bil.pend = s.bil.pend ++ [e] ∧ e.rcd = r ∧ e.confirmed = false ∧
      e.rate = rateAt s e.sec ∧ e.gen = s.get Fd.BIL_TTGEN_ACTIVE) ∧ (attrRecord r s).bil.acc = s.bil.acc ∧
      RegsBut [Reg.BIL_STAT] s (attrRecord r s) := by
  have hshow (t : State) : RegsBut [Reg.BIL_STAT] t (showPend t) := by
    unfold showPend
    split <;> simp
  unfold attrRecord
  extract_lets src t sec e
  have h := showPend_within { t with bil := { t.bil with pend := t.bil.pend ++ [e] } }
  refine ⟨h.same .x00 (by simp), ⟨e, by rw [h.same .bil (by simp)], rfl, rfl, rfl, rfl⟩, by rw [h.same .bil (by simp)], ?_⟩
  exact hshow _

theorem commitDue_of_due {sec extra : Nat} {rest : List Nat} {split : Bool} (hd : s.bil.due = sec :: rest) (hl : s.on Fd.SYS_FLT_BILLOST = false)
    (hc : s.bil.catchUp.testBit 4 = false) : commitDue extra split s = showHold (commitTake sec (dueEntries s sec) extra split s) := by
  have hlate : lateEvents sec s = s := by rw [lateEvents, if_neg (by simp [hc])]
  rw [commitDue, hd]
  dsimp only
  rw [if_neg (by simp [hl]), commitSecond, hlate]

theorem exec_secondCommit_of_due {sec : Nat} {rest : List Nat} (hd : s.bil.due = sec :: rest) (hl : s.on Fd.SYS_FLT_BILLOST = false)
    (hc : s.bil.catchUp.testBit 4 = false) :
    exec .secondCommit s = .next (afterCommit s (showHold (commitTake sec (dueEntries s sec) 0 false s))) := by
  rw [exec, execSecondCommit, if_neg (by simp [hd]), commitDue_of_due hd hl hc]

end Commit

/-- Settles O16: a record is appended to the pending entries, a tick of a module that does not run counts the clock, and a commit adds each entry's
amounts once. -/
theorem billingPipeline : Obligations.BillingPipeline := by
  unfold Obligations.BillingPipeline
  refine ⟨fun s r rs hx hs hl hp => ?_, fun s r rs hx hs => ?_, fun s hh hd hr => ?_, fun s sec rest e hd hl hc he => ?_⟩
  · refine Answers.mk (congrArg Host.Outcome.next (takeRecord_of_room hx hs hl hp)) (execBlockRecordAttribute_answers s) fun hw => ?_
    obtain ⟨h1, h2, h3, h4⟩ := attrRecord_spec r { s with x00 := rs }
    exact ⟨h1, h2, h3, h4, ((Within.upd_x00 s rs).sub rfl).comp (attrRecord_within r _) rfl⟩
  · refine Answers.mk (t := ({ s with x00 := rs, bil := { s.bil with lost := s.bil.lost + 1 } }).raise Fd.BIL_EVT_PFLOSS) ?_
      (execBlockRecordAttribute_answers s) fun hw => ?_
    · simp only [exec, execBlockRecordAttribute, takeRecord, hx, hs, if_true]
    · exact ⟨by simp [State.raise], by simp [State.raise], on_raise _ _ (by simp) (by simp), by simp, .of_paste hw.inv rfl⟩
  · refine Answers.mk (t := slewTick (s.setRegN Reg.BTM_TIME (s.regN Reg.BTM_TIME + 1))) ?_ (execBillingTick_answers s) fun hw => ?_
    · rw [exec, execBillingTick, if_neg (by simp [hh, hd]), if_pos (by simp [hr])]
    · exact ⟨by simp [slewTick, setRegI], by simp [slewTick, setRegI], by simp [slewTick], ((setRegN_within _ _ _).sub rfl).comp (slewTick_within _) rfl⟩
  · refine Answers.mk (exec_secondCommit_of_due hd hl hc) (execSecondCommit_answers s) fun hw => ⟨?_, fun q r hq h0 hr => ?_, hw⟩
    · rw [afterCommit_x01, (showHold_within _).same .x01 (by simp), (commitTake_accMarks he s).2]
    · have hsame := (AccSame.of_within (showHold_within (commitTake sec (dueEntries s sec) 0 false s)) (by simp)).trans (afterCommit_acc s _)
      rw [accOf, hsame, (commitTake_accMarks he s).1, nth_committedAcc s _ hq h0 hr]

end Sys2Proof.Machine
end

section
/-!
The Battery domain (spec/06_billing_time_events.md R226 to R228, spec/20_power_clocks_reset.md R577), and which registers the service tag's
operations write (spec/15_nfc_service_tag.md R490 to R496).
-/
namespace Sys2Proof.Machine

open State

section Lists

variable {α : Type} {l : List α} {i j : Nat} {x d : α}

theorem nth_setNth_of_ne (h : j ≠ i) : nth (setNth l i x) j d = nth l j d := by
  simp [nth, setNth, List.getD_eq_getElem?_getD, Ne.symm h]

theorem nth_setNth_self (h : i < l.length) : nth (setNth l i x) i d = x := by
  simp [nth, setNth, List.getD_eq_getElem?_getD, h]

end Lists

section Tag

variable {s : State} {l : List Nat}

/-- The registers that the service tag's own operations write: its state, its counts and its events. -/
def tagRegs : List Nat := [Reg.NFC_TAGSTAT, Reg.NFC_TAGCNT, Reg.NFC_EVT]

@[simp] theorem regsBut_setNfc {t : State} (n : NfcState) : RegsBut l s (setNfc n t) ↔ RegsBut l s t := Iff.rfl

theorem tagShow_regsBut (s : State) : RegsBut [Reg.NFC_TAGSTAT] s (tagShow s) := by simp [tagShow]

theorem tagEnter_regsBut (n : Nat) (s : State) : RegsBut [Reg.NFC_TAGSTAT] s (tagEnter n s) := by
  rw [tagEnter, regsBut_of_regsBut (tagShow_regsBut _) (List.Subset.refl _)]; simp

theorem tagQueue_regsBut (s : State) : RegsBut [Reg.NFC_TAGSTAT] s (tagQueue s) := by
  have hnotes : RegsBut [Reg.NFC_TAGSTAT] s (s.nfc.queued.foldl (fun t e => (notePut e.1 e.2 t).2) (setNfc { s.nfc with queued := [] } s)) :=
    RegsBut.foldl (fun v (e : Nat × List Byte) _ => ((RegsBut.refl _ v).same rfl : RegsBut _ v (notePut e.1 e.2 v).2)) (setNfc { s.nfc with queued := [] } s)
  unfold tagQueue
  refine RegsBut.ite (.refl _ s) ?_
  rw [regsBut_of_regsBut (tagShow_regsBut _) (List.Subset.refl _)]
  exact hnotes

theorem tagLeave_regsBut (n : Nat) (s : State) : RegsBut tagRegs s (tagLeave n s) := by
  unfold tagLeave
  refine RegsBut.ite ?_ ((tagEnter_regsBut n s).mono (by simp [tagRegs]))
  have hone : [Reg.NFC_TAGSTAT] ⊆ tagRegs := by simp [tagRegs]
  extract_lets t src u
  have ht : RegsBut tagRegs s t := by simp [t, tagRegs]
  have ht' : RegsBut tagRegs s (setNfc { src with selected := false } t) := ht
  clear_value t
  have hu : RegsBut tagRegs s u := (ht'.trans ((tagEnter_regsBut n _).mono hone)).trans ((tagQueue_regsBut _).mono hone)
  clear_value u
  exact .ite (hu.trans ((tagRefresh_within u).regsBut (by simp))) hu

theorem tagSupply_regsBut (s : State) : RegsBut tagRegs s (tagSupply s) :=
  .ite (tagLeave_regsBut 0 s) (.ite ((tagEnter_regsBut 1 s).mono (by simp [tagRegs])) (.refl _ s))

end Tag

section Battery

variable {s : State}

/-- Whether the islands run depends on PWR_STAT and on the power state. -/
theorem running_congr {t : State} {l : List Nat} (h : RegsBut l s t) (hl : Reg.PWR_STAT ∉ l) (hp : t.pow = s.pow) : t.running = s.running := by
  rw [running, running, h.on hl, hp]

theorem pfw_congr {t : State} {l : List Nat} (h : RegsBut l s t) (hl : Reg.PWR_STAT ∉ l) (hp : t.pow = s.pow) : t.pfw = s.pfw := by
  rw [pfw, pfw, h.on hl, hp]

/-- A poll that agrees with the state shown changes only the last poll (R226). -/
theorem tamperPoll_of_same {i : Nat} {b : Bool} (h : (b && s.parB (Par.TAMP_EN i)) = s.on (if i = 0 then Fd.BTM_STAT_COVER else Fd.BTM_STAT_TERM)) :
    tamperPoll i b s = { s with btm := { s.btm with polls := setNth s.btm.polls i (b && s.parB (Par.TAMP_EN i)) } } := by
  simp only [tamperPoll, h, bne_self_eq_false, Bool.and_false, Bool.false_eq_true, if_false]

/-- A poll that agrees with the last and not with the state shown is a change (R226). -/
theorem tamperPoll_of_change {i : Nat} {b v : Bool} (hv : (b && s.parB (Par.TAMP_EN i)) = v) (hl : nth s.btm.polls i false = v)
    (hs : s.on (if i = 0 then Fd.BTM_STAT_COVER else Fd.BTM_STAT_TERM) = !v) :
    tamperPoll i b s = tamperChange i v { s with btm := { s.btm with polls := setNth s.btm.polls i v } } := by
  have hne : (v != !v) = true := by cases v <;> rfl
  simp only [tamperPoll, hv, hl, hs, beq_self_eq_true, hne, Bool.and_self, if_true]

/-- The cover's opening while the supply is absent, with room in the buffer (R226, R227). -/
theorem tamperChange_cover_open (ha : supplyAbsent s = true) (hl : s.btm.tampBuf.length < 32) : tamperChange 0 true s =
    { ((s.putB Fd.BTM_STAT_COVER true).raise Fd.BTM_EVT_COVER).bump Fd.BTM_TAMPCNT_COVER with
      btm := { s.btm with tampBuf := s.btm.tampBuf ++
        [⟨(((s.putB Fd.BTM_STAT_COVER true).raise Fd.BTM_EVT_COVER).bump Fd.BTM_TAMPCNT_COVER).regN Reg.BTM_TIME, 0x0301⟩] } } := by
  have hlen : (((s.putB Fd.BTM_STAT_COVER true).raise Fd.BTM_EVT_COVER).bump Fd.BTM_TAMPCNT_COVER).btm.tampBuf.length < 32 := hl
  simp only [tamperChange, if_true, ha, if_pos hlen]
  rfl

/-- What an opening of the cover leaves while the supply is absent (R226, R227). -/
theorem tamperChange_cover_open_spec (ha : supplyAbsent s = true) (hl : s.btm.tampBuf.length < 32) :
    (tamperChange 0 true s).btm = { s.btm with tampBuf := s.btm.tampBuf ++ [⟨s.regN Reg.BTM_TIME, 0x0301⟩] } ∧
      (tamperChange 0 true s).on Fd.BTM_STAT_COVER = true ∧ (tamperChange 0 true s).on Fd.BTM_STAT_TERM = s.on Fd.BTM_STAT_TERM ∧
      (tamperChange 0 true s).on Fd.BTM_EVT_COVER = true ∧
      (tamperChange 0 true s).get Fd.BTM_TAMPCNT_COVER = min (s.get Fd.BTM_TAMPCNT_COVER + 1) 65535 ∧
      (tamperChange 0 true s).pow = s.pow ∧ (tamperChange 0 true s).params = s.params ∧
      RegsBut [Reg.BTM_STAT, Reg.BTM_EVT, Reg.BTM_TAMPCNT] s (tamperChange 0 true s) ∧ Within [.regs, .btm] s (tamperChange 0 true s) := by
  have hi := (tamperChange_within 0 true s).inv
  rw [tamperChange_cover_open ha hl] at hi ⊢
  refine ⟨?_, ?_, ?_, ?_, ?_, rfl, rfl, by simp, .of_paste hi rfl⟩
  · simp [State.bump, State.raise, State.putB]
  · simp [State.on, State.bump, State.raise, State.putB]
  · simp [State.on, State.bump, State.raise, State.putB]
  · simp [State.on, State.bump, State.raise, State.putB]
  · simp [State.bump, State.raise, State.putB, Bits.satAdd]

/-- While the module does not run, a poll of both inputs does no more than the two polls (R226). -/
theorem execTamperPoll_of_stopped {a b : Bool} (hh : s.held .battery = false) (hd : s.pow.dark = false)
    (hr : (tamperPoll 1 b (tamperPoll 0 a s)).running = false) : execTamperPoll a b s = .next (tamperPoll 1 b (tamperPoll 0 a s)) := by
  rw [execTamperPoll, awake_of_not_held hh, hd, if_neg (by simp), if_neg (by simp [hr])]

/-- The record of an outage with one burst added (R228). -/
def burstAdd (rms : List Nat) (threshold : Nat) (o : OutageRec) : OutageRec :=
  { o with secsWith := o.secsWith + (if rms.any (fun x => decide (threshold < x)) then 1 else 0), ampSec := o.ampSec + (rms.sum : Rat) / 1000,
           largest := max o.largest (rms.foldl max 0),
           role := if o.largest < rms.foldl max 0 then rms.findIdx (· == rms.foldl max 0) else o.role }

/-- The burst recorded (R228). -/
theorem outageBurst_of_recording {rms : List Nat} {o : OutageRec} (ho : s.btm.outage = some o) (hf : s.isF = true) (he : s.parB Par.OUT_EN = true)
    (hi : o.incomplete = false) : outageBurst rms s = { s with btm := { s.btm with outage := some (burstAdd rms (s.parN Par.OUT_ITHR) o) } } := by
  rw [outageBurst, ho]
  exact if_pos (by simp [hf, he, hi])

/-- VBAT measured at or above 2 V (R577): the tag's supply follows the fields and the record that the measurement leaves. -/
theorem vbatMeasure_spec {mv : Nat} (h : 2000 ≤ mv) (hm : mv < 65536) :
    (vbatMeasure mv s).get Fd.PWR_VBAT_OPEN = mv ∧ (vbatMeasure mv s).on Fd.PWR_EVT_NOBAT = (decide (mv < 2500) || s.on Fd.PWR_EVT_NOBAT) ∧
      (vbatMeasure mv s).on Fd.BTM_STAT_BATLOW = decide (mv < 2800) ∧
      (vbatMeasure mv s).btm = (if mv < 2700 then { s.btm with outage := s.btm.outage.map (fun o => { o with incomplete := true }) } else s.btm) ∧
      (vbatMeasure mv s).pow = s.pow ∧
      RegsBut ([Reg.PWR_VBAT, Reg.BTM_STAT] ++ (if mv < 2500 then [Reg.PWR_EVT] else []) ++ tagRegs) s (vbatMeasure mv s) := by
  have hmin : min mv 0xFFFF = mv := by omega
  have h2 : ¬mv < 2000 := by omega
  unfold vbatMeasure
  extract_lets t0 t1 t2 src t3
  rw [if_neg (by simp [h2])]
  have ht := tagSupply_regsBut t3
  have hw := tagSupply_within t3
  have hreg (f : RegField) : t3.get f = t2.get f := by unfold t3; split <;> rfl
  have hregs : RegsBut ([Reg.PWR_VBAT, Reg.BTM_STAT] ++ (if mv < 2500 then [Reg.PWR_EVT] else [])) s t3 := by
    have h2 : RegsBut ([Reg.PWR_VBAT, Reg.BTM_STAT] ++ (if mv < 2500 then [Reg.PWR_EVT] else [])) s t2 := by
      unfold t2 t1 t0
      by_cases h25 : mv < 2500 <;> simp [h25]
    unfold t3
    exact .ite h2 h2
  have hbtm : t2.btm = s.btm := by
    unfold t2 t1
    by_cases h25 : mv < 2500 <;> simp [h25, State.putB, State.raise, t0]
  refine ⟨?_, ?_, ?_, ?_, ?_, ?_⟩
  · rw [ht.get (by simp [tagRegs]), hreg]
    unfold t2 t1 t0
    by_cases h25 : mv < 2500 <;> simp [h25, State.putB, State.raise, hmin, Nat.mod_eq_of_lt hm]
  · rw [ht.on (by simp [tagRegs]), State.on, hreg]
    unfold t2 t1 t0
    by_cases h25 : mv < 2500 <;> simp [h25, State.on, State.putB, State.raise]
  · rw [ht.on (by simp [tagRegs]), State.on, hreg]
    unfold t2
    exact on_putB _ _ _ (by simp) (by simp)
  · rw [hw.same .btm (by simp)]
    unfold t3
    split
    · exact congrArg (fun b : BtmState => { b with outage := b.outage.map (fun o : OutageRec => { o with incomplete := true }) }) hbtm
    · exact hbtm
  · rw [hw.same .pow (by simp)]
    have hpow : t2.pow = s.pow := by
      unfold t2 t1
      by_cases h25 : mv < 2500 <;> simp [h25, State.putB, State.raise, t0]
    unfold t3
    split
    · exact hpow
    · exact hpow
  · exact (hregs.mono (List.subset_append_left _ _)).trans (ht.mono (List.subset_append_right _ _))

end Battery

section Stats

variable {s : State} {x : Nat}

theorem xingStatsClear_regsBut (bits : Word) (s : State) : RegsBut ((List.range 21).map fun x => Reg.SYS_XSTAT x) s (xingStatsClear bits s) :=
  upTo_regsBut 21 (fun i hi s => by
    have hm : Reg.SYS_XSTAT i ∈ (List.range 21).map fun x => Reg.SYS_XSTAT x := List.mem_map_of_mem (List.mem_range.2 hi)
    exact .ite (((RegsBut.refl _ s).lower hm).lower hm) (.refl _ s)) s

/-- A named Crossing's HWM and BPCNT are cleared (R31). -/
theorem get_xingStatsClear {bits : Word} (hx : x < 21) (hb : Bits.bit bits x = true) (s : State) :
    (xingStatsClear bits s).get (Fd.SYS_XSTAT_HWM x) = 0 ∧ (xingStatsClear bits s).get (Fd.SYS_XSTAT_BPCNT x) = 0 :=
  upTo_keeps (P := fun t => t.get (Fd.SYS_XSTAT_HWM x) = 0 ∧ t.get (Fd.SYS_XSTAT_BPCNT x) = 0) hx (fun s => by simp [hb, State.lower])
    (fun j hj s hs => by
      split
      · simpa [State.lower, hj] using hs
      · exact hs) s

/-- NOOVF stays as it was (R31). -/
theorem on_noovf_xingStatsClear (bits : Word) (x : Nat) (s : State) :
    (xingStatsClear bits s).on (Fd.SYS_XSTAT_NOOVF x) = s.on (Fd.SYS_XSTAT_NOOVF x) := by
  have h (i : Nat) (t : State) : (if Bits.bit bits i then (t.lower (Fd.SYS_XSTAT_HWM i)).lower (Fd.SYS_XSTAT_BPCNT i) else t).on (Fd.SYS_XSTAT_NOOVF x) =
      t.on (Fd.SYS_XSTAT_NOOVF x) := by
    split
    · simp [State.on, State.lower]
    · rfl
  unfold xingStatsClear upTo
  induction List.range 21 generalizing s with
  | nil => rfl
  | cons i l ih => exact (ih _).trans (h i s)

end Stats

/-- Settles O19: a poll, a burst and a measurement change what they name and nothing else, and the clear lowers two fields of each named Crossing. -/
theorem batteryDomain : Obligations.BatteryDomain := by
  unfold Obligations.BatteryDomain
  refine ⟨fun s hh hd hr ha he h0 h1 hc ht hl => ?_, fun s hh hd hr hc ht => ?_, fun s rms o ho hf he hi => ?_, fun s mv hh h1 h2 => ?_,
    fun s mv hh h1 h2 => ?_, fun s p bits x hm hx hb => ?_⟩
  · obtain ⟨c1, c2, c3, c4, c5, c6, c7, c8, c9⟩ := tamperChange_cover_open_spec
      (s := { s with btm := { s.btm with polls := setNth s.btm.polls 0 true } }) ha hl
    have hfirst : tamperPoll 0 true s = tamperChange 0 true { s with btm := { s.btm with polls := setNth s.btm.polls 0 true } } :=
      tamperPoll_of_change (by rw [he]; rfl) h0 hc
    have hu : Within [.regs, .btm] s (tamperChange 0 true { s with btm := { s.btm with polls := setNth s.btm.polls 0 true } }) :=
      ((Within.upd_btm s _).sub rfl).comp c9 rfl
    rw [← hfirst] at c1 c2 c3 c4 c5 c6 c7 c8 c9 hu
    have hrun : (tamperPoll 0 true s).running = false :=
      (running_congr (l := [Reg.BTM_STAT, Reg.BTM_EVT, Reg.BTM_TAMPCNT]) c8 (by simp) c6).trans hr
    obtain ⟨u, hu'⟩ : ∃ u, u = tamperPoll 0 true s := ⟨_, rfl⟩
    rw [← hu'] at c1 c2 c3 c4 c5 c8 hu hrun
    have hsecond : tamperPoll 1 false u = { u with btm := { u.btm with polls := setNth u.btm.polls 1 false } } :=
      tamperPoll_of_same (by simp [c3.trans ht])
    refine ⟨_, execTamperPoll_of_stopped hh hd ?_, ?_⟩
    · rw [← hu', hsecond]
      exact hrun
    rw [← hu', hsecond]
    exact ⟨congrArg BtmState.tampBuf c1, c2, c4, c5, c8, hu.comp (Within.upd_btm u _) rfl⟩
  · have hfirst : tamperPoll 0 false s = { s with btm := { s.btm with polls := setNth s.btm.polls 0 false } } := tamperPoll_of_same (by simp [hc])
    have hsecond := tamperPoll_of_same (s := { s with btm := { s.btm with polls := setNth s.btm.polls 0 false } }) (i := 1) (b := false)
      ht.symm
    rw [← hfirst] at hsecond
    have hboth : tamperPoll 1 false (tamperPoll 0 false s) = { s with btm := { s.btm with polls := setNth (setNth s.btm.polls 0 false) 1 false } } := by
      rw [hsecond, hfirst]
      rfl
    refine ⟨_, execTamperPoll_of_stopped hh hd (by rw [hboth]; exact hr), ?_⟩
    rw [hboth]
    exact ⟨rfl, (RegsBut.refl [] s).same rfl, Within.upd_btm s _⟩
  · exact ⟨_, congrArg Host.Outcome.next (outageBurst_of_recording ho hf he hi), ⟨_, rfl, rfl, rfl, rfl⟩, (RegsBut.refl [] s).same rfl,
      Within.upd_btm s _⟩
  · refine Answers.mk (awake_of_not_held hh) (execVbatMeasure_answers mv s) fun hw => ?_
    obtain ⟨c1, c2, c3, c4, c5, c6⟩ := vbatMeasure_spec (s := s) h1 (by omega)
    rw [if_pos (by omega)] at c4
    exact ⟨c1, by rw [c2]; simp [h2], by rw [c3]; simp; omega, c4, c5, c6.mono (by simp [h2, tagRegs]), hw⟩
  · refine Answers.mk (awake_of_not_held hh) (execVbatMeasure_answers mv s) fun hw => ?_
    obtain ⟨c1, c2, c3, c4, c5, c6⟩ := vbatMeasure_spec (s := s) (by omega) h2
    rw [if_neg (by omega)] at c4
    have h25 : ¬mv < 2500 := by omega
    exact ⟨c1, by rw [c2]; simp [h25], by rw [c3]; simp; omega, c4, c5, c6.mono (by simp [h25, tagRegs]), hw⟩
  · refine Answers.mk (congrArg Host.Outcome.next (hostOwn_of_may hm)) (execCrossingStatsClear_answers p bits s) fun hw => ?_
    have hout : (xingStatsClear bits (hostAccess p s)).out = (hostAccess p s).out := (xingStatsClear_within bits _).same .out (by simp)
    obtain ⟨c1, c2⟩ := get_xingStatsClear hx hb (hostAccess p s)
    refine ⟨by rw [get_hostReply, c1], by rw [get_hostReply, c2], ?_, by rw [hostReply_out, hout, hostAccess_out], ?_, hw⟩
    · rw [on_hostReply, on_noovf_xingStatsClear, State.on, State.on, get_hostAccess (by grind) (by grind) (by grind) (by grind)]
    · rw [regsBut_hostReply]
      exact (RegsBut.hostAccess (List.subset_append_right _ _)).trans ((xingStatsClear_regsBut bits _).mono (List.subset_append_left _ _))

end Sys2Proof.Machine
end

section
/-!
Single bits of registers, the event logs (which change no register), and the disconnect relay (spec/06_billing_time_events.md R233 to R237).
-/
namespace Sys2Proof.Machine

open State

section SingleBits

variable (s : State)

/-- A bit of a field is a bit of its register. -/
theorem testBit_get (g : RegField) (i : Nat) : (s.get g).testBit i = (decide (i < g.width) && s.bitOf g.reg (g.lo + i)) := by
  rw [State.get, Bits.testBit_get]; rfl

/-- What a bit of a register is after a write of a field. -/
theorem bitOf_put (f : RegField) (v b j : Nat) (h : f.lo + f.width ≤ 32) :
    (s.put f v).bitOf b j = if b = f.reg ∧ f.lo ≤ j ∧ j < f.lo + f.width then v.testBit (j - f.lo) else s.bitOf b j := by
  by_cases hb : b = f.reg
  · subst hb
    have e : (j < 32 ∧ f.lo ≤ j ∧ j < f.lo + f.width) ↔ (f.lo ≤ j ∧ j < f.lo + f.width) := by omega
    simp only [bitOf, put, reg_setReg_self, Bits.bit, Bits.getLsbD_put, e, true_and]
  · simp [bitOf, hb]

/-- What a bit of a register is after a write of a bit. -/
theorem bitOf_putBit (a i b j : Nat) (v : Bool) (h : i < 32) :
    (s.putBit a i v).bitOf b j = if b = a ∧ j = i then v else s.bitOf b j := by
  rw [putBit, bitOf_put _ _ _ _ _ (show i + 1 ≤ 32 from h)]
  have e : (b = a ∧ i ≤ j ∧ j < i + 1) ↔ (b = a ∧ j = i) := by omega
  simp only [e]
  split
  · next h => cases v <;> simp [h.2]
  · rfl

/-- A bit set in a field. -/
theorem get_putBit_field (g : RegField) (i : Nat) (hi : i < g.width) (hg : g.lo + g.width ≤ 32) :
    (s.putBit g.reg (g.lo + i) true).get g = s.get g ||| 2 ^ i := by
  apply Nat.eq_of_testBit_eq
  intro j
  rw [testBit_get, Nat.testBit_or, testBit_get, bitOf_putBit _ _ _ _ _ _ (by omega), Nat.testBit_two_pow]
  by_cases hj : i = j
  · simp [hj, hj ▸ hi]
  · simp [hj, Ne.symm hj]

/-- A field that is 0 stays so when a bit of it is cleared. -/
theorem get_putBit_clear {g : RegField} (h : s.get g = 0) (i : Nat) (hi : i < g.width) (hg : g.lo + g.width ≤ 32) :
    (s.putBit g.reg (g.lo + i) false).get g = 0 := by
  apply Nat.eq_of_testBit_eq
  intro j
  have hj := congrArg (fun n => Nat.testBit n j) h
  simp only [testBit_get, Nat.zero_testBit] at hj
  rw [testBit_get, bitOf_putBit _ _ _ _ _ _ (by omega), Nat.zero_testBit]
  split
  · simp
  · exact hj

end SingleBits

section AccessStat

/-- A host access leaves the fields of SES_STAT but HOSTABS. -/
@[simp] theorem get_hostAccess_ses (p : Path) (s : State) (lo w : Nat)
    (h : Fd.SES_STAT_HOSTABS.lo + 1 ≤ lo ∨ lo + w ≤ Fd.SES_STAT_HOSTABS.lo) : (hostAccess p s).get ⟨Reg.SES_STAT, lo, w⟩ = s.get ⟨Reg.SES_STAT, lo, w⟩ := by
  have hl : ((s.lower Fd.HIF_STAT_HOSTABS).lower Fd.SES_STAT_HOSTABS).get ⟨Reg.SES_STAT, lo, w⟩ = s.get ⟨Reg.SES_STAT, lo, w⟩ := by
    rw [lower, lower, get_put_of_apart _ _ (.inr h), get_put_of_apart _ _ (.inl (by simp))]
  have hne (i : Nat) (hi : i ≤ 2) : Reg.SES_STAT ≠ Reg.HIF_CNT i := by grind
  cases p
  · exact (get_bumpReg_of_ne _ _ (hne 0 (by omega))).trans hl
  · exact (get_bumpReg_of_ne _ _ (hne 2 (by omega))).trans hl

/-- A host access leaves the fields of HIF_STAT but HOSTABS. -/
@[simp] theorem get_hostAccess_hif (p : Path) (s : State) (lo w : Nat)
    (h : Fd.HIF_STAT_HOSTABS.lo + 1 ≤ lo ∨ lo + w ≤ Fd.HIF_STAT_HOSTABS.lo) : (hostAccess p s).get ⟨Reg.HIF_STAT, lo, w⟩ = s.get ⟨Reg.HIF_STAT, lo, w⟩ := by
  have hl : ((s.lower Fd.HIF_STAT_HOSTABS).lower Fd.SES_STAT_HOSTABS).get ⟨Reg.HIF_STAT, lo, w⟩ = s.get ⟨Reg.HIF_STAT, lo, w⟩ := by
    rw [lower, lower, get_put_of_apart _ _ (.inl (by simp)), get_put_of_apart _ _ (.inr h)]
  have hne (i : Nat) (hi : i ≤ 2) : Reg.HIF_STAT ≠ Reg.HIF_CNT i := by grind
  cases p
  · exact (get_bumpReg_of_ne _ _ (hne 0 (by omega))).trans hl
  · exact (get_bumpReg_of_ne _ _ (hne 2 (by omega))).trans hl

end AccessStat

section Reply

variable (p : Path) (status : Nat) (s : State)

@[simp] theorem hostReply_variant : (hostReply p status s).variant = s.variant := rfl

@[simp] theorem hostReply_regs : (hostReply p status s).regs = s.regs := rfl

@[simp] theorem hostReply_params : (hostReply p status s).params = s.params := rfl

@[simp] theorem hostReply_xings : (hostReply p status s).xings = s.xings := rfl

@[simp] theorem hostReply_ttb : (hostReply p status s).ttb = s.ttb := rfl

@[simp] theorem hostReply_tok : (hostReply p status s).tok = s.tok := rfl

@[simp] theorem hostReply_afe : (hostReply p status s).afe = s.afe := rfl

@[simp] theorem hostReply_pts : (hostReply p status s).pts = s.pts := rfl

@[simp] theorem hostReply_x00 : (hostReply p status s).x00 = s.x00 := rfl

@[simp] theorem hostReply_x01 : (hostReply p status s).x01 = s.x01 := rfl

@[simp] theorem hostReply_parPend : (hostReply p status s).parPend = s.parPend := rfl

@[simp] theorem hostReply_parNext : (hostReply p status s).parNext = s.parNext := rfl

@[simp] theorem hostReply_corrSent : (hostReply p status s).corrSent = s.corrSent := rfl

@[simp] theorem hostReply_bil : (hostReply p status s).bil = s.bil := rfl

@[simp] theorem hostReply_btm : (hostReply p status s).btm = s.btm := rfl

@[simp] theorem hostReply_logs : (hostReply p status s).logs = s.logs := rfl

@[simp] theorem hostReply_saf : (hostReply p status s).saf = s.saf := rfl

@[simp] theorem hostReply_x03 : (hostReply p status s).x03 = s.x03 := rfl

@[simp] theorem hostReply_x19 : (hostReply p status s).x19 = s.x19 := rfl

@[simp] theorem hostReply_x04 : (hostReply p status s).x04 = s.x04 := rfl

@[simp] theorem hostReply_x05 : (hostReply p status s).x05 = s.x05 := rfl

@[simp] theorem hostReply_x06 : (hostReply p status s).x06 = s.x06 := rfl

@[simp] theorem hostReply_q : (hostReply p status s).q = s.q := rfl

@[simp] theorem hostReply_grpSeq : (hostReply p status s).grpSeq = s.grpSeq := rfl

@[simp] theorem hostReply_vl : (hostReply p status s).vl = s.vl := rfl

@[simp] theorem hostReply_ses : (hostReply p status s).ses = s.ses := rfl

@[simp] theorem hostReply_grt : (hostReply p status s).grt = s.grt := rfl

@[simp] theorem hostReply_dlm : (hostReply p status s).dlm = s.dlm := rfl

@[simp] theorem hostReply_lsw : (hostReply p status s).lsw = s.lsw := rfl

@[simp] theorem hostReply_lcd : (hostReply p status s).lcd = s.lcd := rfl

@[simp] theorem hostReply_nfc : (hostReply p status s).nfc = s.nfc := rfl

@[simp] theorem hostReply_hif : (hostReply p status s).hif = s.hif := rfl

@[simp] theorem hostReply_mail : (hostReply p status s).mail = s.mail := rfl

@[simp] theorem hostReply_boot : (hostReply p status s).boot = s.boot := rfl

@[simp] theorem hostReply_mem : (hostReply p status s).mem = s.mem := rfl

@[simp] theorem hostReply_pow : (hostReply p status s).pow = s.pow := rfl

@[simp] theorem hostReply_upd : (hostReply p status s).upd = s.upd := rfl

@[simp] theorem hostReply_amb : (hostReply p status s).amb = s.amb := rfl

@[simp] theorem hostReply_eth : (hostReply p status s).eth = s.eth := rfl

@[simp] theorem hostReply_x09 : (hostReply p status s).x09 = s.x09 := rfl

@[simp] theorem hostReply_x11 : (hostReply p status s).x11 = s.x11 := rfl

@[simp] theorem hostReply_posts : (hostReply p status s).posts = s.posts := rfl

@[simp] theorem hostReply_postOrder : (hostReply p status s).postOrder = s.postOrder := rfl

@[simp] theorem hostReply_free : (hostReply p status s).free = s.free := rfl

@[simp] theorem hostReply_pending : (hostReply p status s).pending = s.pending := rfl

end Reply

section LogEntries

variable {code src : Nat} {data : Int} {s : State}

@[simp] theorem logWrite_variant : (logWrite code src data s).variant = s.variant := (logWrite_within code src data s).same .variant (by simp)

@[simp] theorem logWrite_regs : (logWrite code src data s).regs = s.regs := (logWrite_within code src data s).same .regs (by simp)

@[simp] theorem logWrite_params : (logWrite code src data s).params = s.params := (logWrite_within code src data s).same .params (by simp)

@[simp] theorem logWrite_xings : (logWrite code src data s).xings = s.xings := (logWrite_within code src data s).same .xings (by simp)

@[simp] theorem logWrite_ttb : (logWrite code src data s).ttb = s.ttb := (logWrite_within code src data s).same .ttb (by simp)

@[simp] theorem logWrite_tok : (logWrite code src data s).tok = s.tok := (logWrite_within code src data s).same .tok (by simp)

@[simp] theorem logWrite_afe : (logWrite code src data s).afe = s.afe := (logWrite_within code src data s).same .afe (by simp)

@[simp] theorem logWrite_pts : (logWrite code src data s).pts = s.pts := (logWrite_within code src data s).same .pts (by simp)

@[simp] theorem logWrite_x00 : (logWrite code src data s).x00 = s.x00 := (logWrite_within code src data s).same .x00 (by simp)

@[simp] theorem logWrite_x01 : (logWrite code src data s).x01 = s.x01 := (logWrite_within code src data s).same .x01 (by simp)

@[simp] theorem logWrite_parPend : (logWrite code src data s).parPend = s.parPend := (logWrite_within code src data s).same .parPend (by simp)

@[simp] theorem logWrite_parNext : (logWrite code src data s).parNext = s.parNext := (logWrite_within code src data s).same .parNext (by simp)

@[simp] theorem logWrite_corrSent : (logWrite code src data s).corrSent = s.corrSent := (logWrite_within code src data s).same .corrSent (by simp)

@[simp] theorem logWrite_bil : (logWrite code src data s).bil = s.bil := (logWrite_within code src data s).same .bil (by simp)

@[simp] theorem logWrite_btm : (logWrite code src data s).btm = s.btm := (logWrite_within code src data s).same .btm (by simp)

@[simp] theorem logWrite_saf : (logWrite code src data s).saf = s.saf := (logWrite_within code src data s).same .saf (by simp)

@[simp] theorem logWrite_x03 : (logWrite code src data s).x03 = s.x03 := (logWrite_within code src data s).same .x03 (by simp)

@[simp] theorem logWrite_x19 : (logWrite code src data s).x19 = s.x19 := (logWrite_within code src data s).same .x19 (by simp)

@[simp] theorem logWrite_x04 : (logWrite code src data s).x04 = s.x04 := (logWrite_within code src data s).same .x04 (by simp)

@[simp] theorem logWrite_x05 : (logWrite code src data s).x05 = s.x05 := (logWrite_within code src data s).same .x05 (by simp)

@[simp] theorem logWrite_x06 : (logWrite code src data s).x06 = s.x06 := (logWrite_within code src data s).same .x06 (by simp)

@[simp] theorem logWrite_q : (logWrite code src data s).q = s.q := (logWrite_within code src data s).same .q (by simp)

@[simp] theorem logWrite_grpSeq : (logWrite code src data s).grpSeq = s.grpSeq := (logWrite_within code src data s).same .grpSeq (by simp)

@[simp] theorem logWrite_vl : (logWrite code src data s).vl = s.vl := (logWrite_within code src data s).same .vl (by simp)

@[simp] theorem logWrite_ses : (logWrite code src data s).ses = s.ses := (logWrite_within code src data s).same .ses (by simp)

@[simp] theorem logWrite_grt : (logWrite code src data s).grt = s.grt := (logWrite_within code src data s).same .grt (by simp)

@[simp] theorem logWrite_dlm : (logWrite code src data s).dlm = s.dlm := (logWrite_within code src data s).same .dlm (by simp)

@[simp] theorem logWrite_lsw : (logWrite code src data s).lsw = s.lsw := (logWrite_within code src data s).same .lsw (by simp)

@[simp] theorem logWrite_lcd : (logWrite code src data s).lcd = s.lcd := (logWrite_within code src data s).same .lcd (by simp)

@[simp] theorem logWrite_nfc : (logWrite code src data s).nfc = s.nfc := (logWrite_within code src data s).same .nfc (by simp)

@[simp] theorem logWrite_hif : (logWrite code src data s).hif = s.hif := (logWrite_within code src data s).same .hif (by simp)

@[simp] theorem logWrite_mail : (logWrite code src data s).mail = s.mail := (logWrite_within code src data s).same .mail (by simp)

@[simp] theorem logWrite_boot : (logWrite code src data s).boot = s.boot := (logWrite_within code src data s).same .boot (by simp)

@[simp] theorem logWrite_mem : (logWrite code src data s).mem = s.mem := (logWrite_within code src data s).same .mem (by simp)

@[simp] theorem logWrite_pow : (logWrite code src data s).pow = s.pow := (logWrite_within code src data s).same .pow (by simp)

@[simp] theorem logWrite_upd : (logWrite code src data s).upd = s.upd := (logWrite_within code src data s).same .upd (by simp)

@[simp] theorem logWrite_amb : (logWrite code src data s).amb = s.amb := (logWrite_within code src data s).same .amb (by simp)

@[simp] theorem logWrite_eth : (logWrite code src data s).eth = s.eth := (logWrite_within code src data s).same .eth (by simp)

@[simp] theorem logWrite_x09 : (logWrite code src data s).x09 = s.x09 := (logWrite_within code src data s).same .x09 (by simp)

@[simp] theorem logWrite_x11 : (logWrite code src data s).x11 = s.x11 := (logWrite_within code src data s).same .x11 (by simp)

@[simp] theorem logWrite_posts : (logWrite code src data s).posts = s.posts := (logWrite_within code src data s).same .posts (by simp)

@[simp] theorem logWrite_postOrder : (logWrite code src data s).postOrder = s.postOrder := (logWrite_within code src data s).same .postOrder (by simp)

@[simp] theorem logWrite_out : (logWrite code src data s).out = s.out := (logWrite_within code src data s).same .out (by simp)

@[simp] theorem logWrite_free : (logWrite code src data s).free = s.free := (logWrite_within code src data s).same .free (by simp)

@[simp] theorem logWrite_pending : (logWrite code src data s).pending = s.pending := (logWrite_within code src data s).same .pending (by simp)

@[simp] theorem reg_logWrite (a : Nat) : (logWrite code src data s).reg a = s.reg a := by rw [reg, reg, logWrite_regs]

@[simp] theorem regN_logWrite (a : Nat) : (logWrite code src data s).regN a = s.regN a := by rw [regN, regN, reg_logWrite]

@[simp] theorem bitOf_logWrite (a i : Nat) : (logWrite code src data s).bitOf a i = s.bitOf a i := by rw [bitOf, bitOf, reg_logWrite]

@[simp] theorem get_logWrite (f : RegField) : (logWrite code src data s).get f = s.get f := by rw [State.get, State.get, reg_logWrite]

@[simp] theorem on_logWrite (f : RegField) : (logWrite code src data s).on f = s.on f := by rw [on, on, get_logWrite]

@[simp] theorem par_logWrite (q : Nat) : (logWrite code src data s).par q = s.par q := by rw [par, par, logWrite_params]

@[simp] theorem parN_logWrite (q : Nat) : (logWrite code src data s).parN q = s.parN q := by rw [parN, parN, par_logWrite]

@[simp] theorem regsBut_logWrite {l : List Nat} {t : State} : RegsBut l t (logWrite code src data s) ↔ RegsBut l t s :=
  regsBut_of_regsBut ((logWrite_within code src data s).regsBut (by simp)) (List.nil_subset l)

end LogEntries

section Relay

variable {s t : State} {l : List Nat} {o : Bool}

@[simp] theorem regsBut_setRelay (a b c d : Bool) : RegsBut l s (setRelay a b c d t) ↔ RegsBut l s t := Iff.rfl

theorem contactorOn_congr (h : RegsBut l s t) (hl : Reg.SAF_OUT ∉ l) (hp : t.params = s.params) : contactorOn t = contactorOn s := by
  have hpar (q : Nat) : t.parN q = s.parN q := by rw [parN, par, hp]; rfl
  have hf (n : Nat) : soFunc t n = soFunc s n := hpar _
  have hm : contactorMask t = contactorMask s := by simp only [contactorMask, hf]
  rw [contactorOn, contactorOn, hm, h.get hl]

/-- The control state entered as disconnected while a contactor output is on (R235): the relay waits for the session. -/
def discStop (src : Nat) (s : State) : State :=
  logWrite 0x0401 src (s.get Fd.BIL_DISC_REQ) { s.put Fd.BIL_DISC_STATE 0 with btm := { s.btm with relayPend := false } }

theorem discEnter_of_on {src by_ : Nat} (h : contactorOn (discStop src s) = true) : discEnter 0 src by_ s = discStop src s := by
  have e : (s.put Fd.BIL_DISC_STATE 0).get Fd.BIL_DISC_REQ = s.get Fd.BIL_DISC_REQ := by simp
  rw [discEnter, if_pos rfl, e]
  exact if_pos h

/-- A disconnect request of the host or of the head-end while the relay is connected and a contactor output is on: the control state is
entered, and the relay waits for the session (R234, R235). -/
theorem discControl_disc (ho : s.get Fd.BIL_DISC_STATE = 1) (hc : contactorOn s = true) :
    (discControl false true o s).get Fd.BIL_DISC_REQ = s.get Fd.BIL_DISC_REQ ||| 4 ∧ (discControl false true o s).get Fd.BIL_DISC_STATE = 0 ∧
      (discControl false true o s).btm = { s.btm with relayPend := false } ∧ RegsBut [Reg.BIL_DISC] s (discControl false true o s) := by
  have hreq : (discRequest 2 true s).get Fd.BIL_DISC_REQ = s.get Fd.BIL_DISC_REQ ||| 4 := get_putBit_field s Fd.BIL_DISC_REQ 2 (by decide) (by decide)
  have hst : (discRequest 2 true s).get Fd.BIL_DISC_STATE = 1 := by simp [discRequest, putBit, ho]
  have hne : (discRequest 2 true s).get Fd.BIL_DISC_REQ ≠ 0 := by
    rw [hreq]
    exact fun h => absurd (Nat.or_eq_zero_iff.1 h).2 (by decide)
  have hregs : RegsBut [Reg.BIL_DISC] s (discRequest 2 true s) := by simp [discRequest]
  have hstop : contactorOn (discStop 2 (discRequest 2 true s)) = true := by
    rw [contactorOn_congr (s := s) (l := [Reg.BIL_DISC]) (by simpa [discStop] using hregs) (by simp) (by simp [discStop, discRequest])]
    exact hc
  have e : discControl false true o s = discStop 2 (discRequest 2 true s) := by
    rw [discControl]
    simp only [when, Bool.false_and, Bool.false_eq_true, if_false, if_true, discUpdate, if_pos hne, hst, discEnter_of_on hstop]
    simp
  rw [e]
  refine ⟨?_, ?_, ?_, by simpa [discStop] using hregs⟩
  · simp [discStop, hreq]
  · simp [discStop]
  · simp [discStop, discRequest]

/-- The control state entered as connected while the meter is not ready (R235): the relay's close waits. -/
def discWaits (s : State) : State :=
  { logWrite 0x0403 2 0 (s.put Fd.BIL_DISC_STATE 1) with btm := { s.btm with relayPend := true } }

theorem discLocal_of_waiting (hq : s.get Fd.BIL_DISC_REQ = 0) (hd : s.get Fd.BIL_DISC_STATE = 2) (hr : s.on Fd.MTR_STAT_READY = false) :
    discLocal 2 s = discWaits s := by
  have hready : (logWrite 0x0403 2 (0 : Nat) (s.put Fd.BIL_DISC_STATE 1)).on Fd.MTR_STAT_READY = false := by simpa [on] using hr
  rw [discLocal, if_pos ⟨hq, hd⟩, discEnter, if_neg (by decide), if_pos rfl, relayWanted, hready, if_neg (by decide)]
  simp [discWaits]

/-- With no request active and the meter not ready, a local action makes the control state connected and the relay waits for the meter
(R234, R235). -/
theorem discControl_recon (hq : s.get Fd.BIL_DISC_REQ = 0) (hd : s.get Fd.BIL_DISC_STATE = 2) (hr : s.on Fd.MTR_STAT_READY = false) :
    (discControl true false o s).get Fd.BIL_DISC_STATE = 1 ∧ (discControl true false o s).get Fd.BIL_DISC_REQ = 0 ∧
      (discControl true false o s).btm = { s.btm with relayPend := true } ∧ RegsBut [Reg.BIL_DISC] s (discControl true false o s) := by
  have hclear (i : Nat) (hi : i < 4) (v : State) (hv : v.get Fd.BIL_DISC_REQ = 0 ∧ v.get Fd.BIL_DISC_STATE = 2 ∧ v.btm = s.btm ∧ RegsBut [Reg.BIL_DISC] s v) :
      (discRequest i false v).get Fd.BIL_DISC_REQ = 0 ∧ (discRequest i false v).get Fd.BIL_DISC_STATE = 2 ∧ (discRequest i false v).btm = s.btm ∧
        RegsBut [Reg.BIL_DISC] s (discRequest i false v) := by
    obtain ⟨h1, h2, h3, h4⟩ := hv
    exact ⟨get_putBit_clear v h1 i hi (by decide), (get_putBit_of_apart v _ _ _ (.inr (.inr (by simp; omega)))).trans h2, h3, by simp [discRequest, h4]⟩
  obtain ⟨v, hv⟩ : ∃ v, v = when o (discRequest 3 false) (discRequest 2 false s) := ⟨_, rfl⟩
  have hv2 := hclear 2 (by decide) s ⟨hq, hd, rfl, .refl _ s⟩
  have hv' : v.get Fd.BIL_DISC_REQ = 0 ∧ v.get Fd.BIL_DISC_STATE = 2 ∧ v.btm = s.btm ∧ RegsBut [Reg.BIL_DISC] s v := by
    rw [hv]
    cases o
    · exact hv2
    · exact hclear 3 (by decide) _ hv2
  obtain ⟨h1, h2, h3, h4⟩ := hv'
  have hready : v.on Fd.MTR_STAT_READY = false := (h4.on (by simp)).trans hr
  have e : discControl true false o s = discWaits v := by
    have hu : discUpdate 2 3 v = v := by simp [discUpdate, h1, h2]
    simp only [discControl, when, hq, if_true, Bool.false_eq_true, if_false, beq_self_eq_true, Bool.and_self]
    rw [← when, ← hv, hu, discLocal_of_waiting h1 h2 hready]
  rw [e]
  refine ⟨by simp [discWaits], by simp [discWaits, h1], by simp [discWaits, h3], by simpa [discWaits] using h4⟩

/-- Before the session asks for energy, a write of BIL_DISCCTL has no effect beyond the disconnect control (R235). -/
theorem discWrite_of_low {w : Word} {a b : Bool} (ha : Bits.bit w 0 = a) (hb : Bits.bit w 1 = b) (hr : RegsBut [Reg.BIL_DISC] s (discControl b a o s))
    (hs : s.get Fd.SES_STAT_STATE < 4) : discWrite o w s = discControl b a o s := by
  have h : (discControl b a o s).get Fd.SES_STAT_STATE = s.get Fd.SES_STAT_STATE := hr.get (by simp)
  rw [discWrite, ha, hb]
  exact if_neg fun hc => absurd (h ▸ hc.2 : 4 ≤ s.get Fd.SES_STAT_STATE) (by omega)

end Relay

/-- Settles O20: a request changes the control state, and only a state entered or a feedback judged commands the relay. -/
theorem disconnectControl : Obligations.DisconnectControl := by
  unfold Obligations.DisconnectControl
  refine ⟨fun s p hm hs hd hc => ?_, fun s p hm hs hd hq hr => ?_, fun s shown hw hs => ?_, fun s shown hw hon hs hre hp hso => ?_,
    fun s n hre hon hw hso hb => ?_, fun s hre hon hw hso => ?_, fun s level hw => ?_, fun s n hd hon hso hn => ?_, fun s hd => ?_⟩
  · obtain ⟨o, ho⟩ : ∃ o, o = decide (2 ≤ pathLevel (hostAccess p s) p) := ⟨_, rfl⟩
    obtain ⟨c1, c2, c3, c4⟩ := discControl_disc (o := o) (s := hostAccess p s) (by simpa using hd)
      ((contactorOn_congr (RegsBut.hostAccess (p := p) (List.Subset.refl _)) (by cases p <;> decide) hostAccess_params).trans hc)
    refine Answers.mk (congrArg Host.Outcome.next (hostOwn_of_may hm)) (execHostDisconnect_answers p s) fun hw => ?_
    rw [← ho, discWrite_of_low (a := true) (b := false) rfl rfl c4 (by simpa using hs)] at hw ⊢
    exact ⟨by simp [c1], by simp [c2], by simp [c3], RegsBut.hostReply ((RegsBut.hostAccess (List.subset_cons_self _ _)).trans (c4.mono (by simp))), hw⟩
  · obtain ⟨o, ho⟩ : ∃ o, o = decide (2 ≤ pathLevel (hostAccess p s) p) := ⟨_, rfl⟩
    obtain ⟨c1, c2, c3, c4⟩ := discControl_recon (o := o) (s := hostAccess p s) (by simpa using hq) (by simpa using hd) (by simpa [on] using hr)
    refine Answers.mk (congrArg Host.Outcome.next (hostOwn_of_may hm)) (execHostReconnect_answers p s) fun hw => ?_
    rw [← ho, discWrite_of_low (a := false) (b := true) rfl rfl c4 (by simpa using hs)] at hw ⊢
    exact ⟨by simp [c1], by simp [c2], by simp [c3], RegsBut.hostReply ((RegsBut.hostAccess (List.subset_cons_self _ _)).trans (c4.mono (by simp))), hw⟩
  · have e : execRelayFeedbackTimeout shown s = .next (relayMet s) := by rw [execRelayFeedbackTimeout, if_pos hw, if_pos hs]
    exact ⟨_, e, by simp [relayMet, on, lower], rfl, by simp [relayMet], .of_paste (relayMet_within s).inv rfl⟩
  · have e : execRelayFeedbackTimeout shown s = .next (relayFailed s) := by
      rw [execRelayFeedbackTimeout, if_pos hw, if_neg (by simp [hs, hon]), hon, if_pos rfl]
    have hf : relayFailed s = logWrite 0x0404 0 (1 : Nat) { s.raise Fd.BIL_DISC_FAULT with btm := { s.btm with relayWait := false } } := by
      simp [relayFailed, hon, hp, hso]
    have hr : RegsBut [Reg.BIL_DISC] s (relayFailed s) := by simp [hf]
    have hb : (relayFailed s).btm = { s.btm with relayWait := false } := by simp [hf]
    exact ⟨_, e, by simp [hf, on, raise], hb, hr, hf ▸ (((Within.refl _ s).raise rfl).comp (Within.upd_btm _ _) rfl).comp (logWrite_within _ _ _ _) rfl⟩
  · have e : relayClose true s = { s with btm := { s.btm with relayRepeat := true, relayPend := false }, saf := { s.saf with relayHeld := true } } := by
      simp [relayClose, hso, hb, setRelay, ← hon, ← hw]
    have he : execRelayCloseRetry s = .next (relayClose true s) := by rw [execRelayCloseRetry, if_pos (by simp [hre, hon, hw])]
    exact ⟨_, he.trans (congrArg _ e), rfl, rfl, (RegsBut.refl [] s).same rfl, Within.upd_btm_saf s _ _⟩
  · have e : relayClose true s = { s with btm := { s.btm with relayRepeat := false, relayPend := false } } := by
      simp [relayClose, hso, setRelay, ← hon, ← hw]
    have he : execRelayCloseRetry s = .next (relayClose true s) := by rw [execRelayCloseRetry, if_pos (by simp [hre, hon, hw])]
    exact ⟨_, he.trans (congrArg _ e), rfl, (RegsBut.refl [] s).same rfl, Within.upd_btm s _⟩
  · refine ⟨_, congrArg Host.Outcome.next (if_pos hw), ?_, on_putB _ _ _ (by decide) (by decide), by simp, ((Within.refl _ s).putB rfl).putB rfl⟩
    rw [on, putB, get_put_other _ _ _ _ (by simp)]
    exact on_putB _ _ _ (by decide) (by decide)
  · have e : relayOpen s = setRelay false true false false (setSo n false s) := by rw [relayOpen, hso]
    have hb0 : (setSo n false s).bitOf Reg.SAF_OUT n = false := by
      rw [setSo, bitOf_putBit _ _ _ _ _ _ (by omega), if_neg (by simp), bitOf_putBit _ _ _ _ _ _ (by omega), if_pos ⟨rfl, rfl⟩]
    have hb4 : (setSo n false s).bitOf Reg.SWC_STAT (n + 4) = s.bitOf Reg.SWC_STAT (n + 4) := by
      rw [setSo, bitOf_putBit _ _ _ _ _ _ (by omega), if_neg (by simp), bitOf_putBit _ _ _ _ _ _ (by omega), if_neg (by simp)]
    exact ⟨_, congrArg Host.Outcome.next ((if_pos ⟨hd, hon⟩).trans e), rfl, hb4.symm, hb0, by simp [setSo], .of_paste (e ▸ (relayOpen_within s).inv) rfl⟩
  · exact ⟨s, congrArg Host.Outcome.next (if_neg fun h => hd h.1), rfl⟩

end Sys2Proof.Machine
end

section
/-!
The Signal Box's stop reactions and causes (spec/07_signal_box.md R242 to R248, R256): which registers and which of its own values each operation
changes, and what holds when it is done.
-/
namespace Sys2Proof.Machine

open State

section Outputs

variable {s t : State} {g : RegField} {l : List Nat}

/-- What each round of a counted loop keeps, the loop keeps. -/
theorem upTo_preserves {n : Nat} {f : Nat → State → State} {P : State → Prop} (hP : ∀ i, i < n → ∀ u, P u → P (f i u)) {s : State} (h : P s) :
    P (upTo n f s) := by
  induction n with
  | zero => exact h
  | succ n ih =>
    have e : upTo (n + 1) f s = f n (upTo n f s) := by simp [upTo, List.range_succ]
    rw [e]
    exact hP n (by omega) _ (ih fun i hi => hP i (by omega))

/-- A field that a command of an SO output does not write. -/
def AboveSo (g : RegField) : Prop := (g.reg ≠ Reg.SAF_OUT ∧ g.reg ≠ Reg.SWC_STAT) ∨ 4 ≤ g.lo

theorem get_setSo {n : Nat} (hn : n < 4) (hg : AboveSo g) (b : Bool) : (setSo n b s).get g = s.get g := by
  have h (a : Nat) (ha : a = Reg.SAF_OUT ∨ a = Reg.SWC_STAT) (u : State) : (u.putBit a n b).get g = u.get g := by
    refine get_putBit_of_apart u a n b ?_
    rcases hg with ⟨h1, h2⟩ | h4
    · exact .inl (by rcases ha with rfl | rfl <;> simp [Ne.symm h1, Ne.symm h2])
    · exact .inr (.inl (by simp; omega))
  rw [setSo, h _ (.inr rfl), h _ (.inl rfl)]

theorem setSo_regsBut (n : Nat) (b : Bool) (s : State) : RegsBut [Reg.SAF_OUT, Reg.SWC_STAT] s (setSo n b s) := by simp [setSo]

theorem bitOf_setSo {n : Nat} (hn : n < 4) (b : Bool) (i : Nat) : (setSo n b s).bitOf Reg.SAF_OUT i = if i = n then b else s.bitOf Reg.SAF_OUT i := by
  rw [setSo, bitOf_putBit _ _ _ _ _ _ (by omega), if_neg (by simp), bitOf_putBit _ _ _ _ _ _ (by omega)]
  simp

theorem bitOf_setSo_of_ne {n i : Nat} (b : Bool) (h : i ≠ n) : (setSo n b s).bitOf Reg.SAF_OUT i = s.bitOf Reg.SAF_OUT i := by
  rw [bitOf_eq_get, bitOf_eq_get, setSo, get_putBit_of_apart _ _ _ _ (.inl (by simp)), get_putBit_of_apart _ _ _ _ (.inr (by simp; omega))]

theorem parN_congr (h : t.params = s.params) (q : Nat) : t.parN q = s.parN q := by rw [parN, par, h]; rfl

theorem parB_congr (h : t.params = s.params) (q : Nat) : t.parB q = s.parB q := by rw [parB, parN_congr h]; rfl

theorem contactorMask_congr (h : t.params = s.params) : contactorMask t = contactorMask s := by
  have hf (n : Nat) : soFunc t n = soFunc s n := parN_congr h _
  simp only [contactorMask, hf]

theorem relaySo_lt {n : Nat} (h : relaySo s = some n) : n < 4 := List.mem_range.1 (List.mem_of_find?_eq_some h)

/-- The outputs in a set commanded off, one after another. -/
def soOff (c : Nat → Bool) (s : State) : State := upTo 4 (fun n u => if c n then setSo n false u else u) s

theorem soOff_regsBut (c : Nat → Bool) (s : State) : RegsBut [Reg.SAF_OUT, Reg.SWC_STAT] s (soOff c s) :=
  upTo_regsBut 4 (fun i _ u => .ite (setSo_regsBut i false u) (.refl _ u)) s

theorem get_soOff (hg : AboveSo g) (c : Nat → Bool) (s : State) : (soOff c s).get g = s.get g := by
  refine upTo_preserves (P := fun u => u.get g = s.get g) (fun i hi u hu => ?_) rfl
  split
  · rw [get_setSo hi hg, hu]
  · exact hu

theorem soOff_within (c : Nat → Bool) (s : State) : Within [.regs] s (soOff c s) :=
  Within.upTo (fun i v => .ite (setSo_within i false v) (.refl _ v)) s

/-- An output that is off stays off while others are commanded off. -/
theorem bitOf_soOff {i : Nat} (c : Nat → Bool) (h : s.bitOf Reg.SAF_OUT i = false) : (soOff c s).bitOf Reg.SAF_OUT i = false := by
  refine upTo_preserves (P := fun u => u.bitOf Reg.SAF_OUT i = false) (fun n hn u hu => ?_) h
  split
  · rw [bitOf_setSo hn]
    split
    · rfl
    · exact hu
  · exact hu

/-- An output in the set is off afterwards. -/
theorem bitOf_soOff_of_mem {i : Nat} {c : Nat → Bool} (hi : i < 4) (hc : c i = true) (s : State) : (soOff c s).bitOf Reg.SAF_OUT i = false := by
  refine upTo_keeps (P := fun u => u.bitOf Reg.SAF_OUT i = false) hi (fun u => ?_) (fun n hne u hu => ?_) s
  · rw [if_pos hc, bitOf_setSo hi, if_pos rfl]
  · split
    · rw [bitOf_setSo_of_ne _ (Ne.symm hne)]
      exact hu
    · exact hu

end Outputs

section StopValues

/-- The Signal Box's own values apart from those that a stop reaction changes. -/
def SafState.stopBase (a : SafState) : SafState := { a with outWait := false, close := none, imd := { a.imd with dirty := false }, relayHeld := false }

end StopValues

section Stop

variable {s t : State} {g : RegField} {l : List Nat} {n m : Nat}

/-- What a stop reaction's operation on the outputs keeps: every register but two, their fields above the SO outputs, an output that is off, the
parameters, and the Signal Box's values but those that a stop changes. -/
structure StopKeeps (s t : State) : Prop where
  regs : RegsBut [Reg.SAF_OUT, Reg.SWC_STAT] s t
  off : ∀ i, i < 4 → s.bitOf Reg.SAF_OUT i = false → t.bitOf Reg.SAF_OUT i = false
  params : t.params = s.params
  saf : t.saf.stopBase = s.saf.stopBase

theorem StopKeeps.trans {u : State} (h : StopKeeps s t) (k : StopKeeps t u) : StopKeeps s u :=
  ⟨h.regs.trans k.regs, fun i h4 hi => k.off i h4 (h.off i h4 hi), k.params.trans h.params, k.saf.trans h.saf⟩

theorem StopKeeps.of_regs (h : RegsBut [Reg.SAF_OUT, Reg.SWC_STAT] s t) (ho : ∀ i, i < 4 → s.bitOf Reg.SAF_OUT i = false → t.bitOf Reg.SAF_OUT i = false)
    (hw : Within [.regs] s t) : StopKeeps s t :=
  ⟨h, ho, hw.same .params (by simp), congrArg SafState.stopBase (hw.same .saf (by simp))⟩

theorem setSo_keeps {n : Nat} (hn : n < 4) (s : State) : StopKeeps s (setSo n false s) :=
  .of_regs (setSo_regsBut n false s) (fun i _ hi => by simp [bitOf_setSo hn, hi]) (setSo_within n false s)

theorem soOff_keeps (c : Nat → Bool) (s : State) : StopKeeps s (soOff c s) :=
  .of_regs (soOff_regsBut c s) (fun _ _ hi => bitOf_soOff c hi) (soOff_within c s)

/-- The relay's output off where a stop requires it (R242). -/
def relayOff (r : Option Nat) (on : Bool) (s : State) : State :=
  match r with
  | some n =>
    if on then
      { setSo n false s with saf := { s.saf with relayHeld := true }, btm := { s.btm with relayOn := false, relayWait := true, relayPend := false } }
    else s
  | none => s

theorem relayOff_keeps {r : Option Nat} (hr : ∀ n, r = some n → n < 4) (b : Bool) (s : State) : StopKeeps s (relayOff r b s) := by
  unfold relayOff
  split
  · next n =>
    have hn := hr n rfl
    split
    · exact ⟨(setSo_keeps hn s).regs, (setSo_keeps hn s).off, rfl, rfl⟩
    · exact ⟨.refl _ s, fun _ _ h => h, rfl, rfl⟩
  · exact ⟨.refl _ s, fun _ _ h => h, rfl, rfl⟩

theorem get_relayOff {r : Option Nat} (hr : ∀ n, r = some n → n < 4) (hg : AboveSo g) (b : Bool) (s : State) : (relayOff r b s).get g = s.get g := by
  unfold relayOff
  split
  · next n =>
    split
    · exact get_setSo (hr n rfl) hg false
    · rfl
  · rfl

/-- The contactor outputs off, and the relay's where a stop requires it: the commands that a stop gives (R242, R243). -/
def stopCommands (s : State) : State :=
  relayOff (relaySo s) (safSt s == 1 && s.parB Par.ESTOP_DISC && (causeOn s 0 || causeOn s 11)) (soOff (contactorMask s).testBit s)

/-- A stop's end of requests, and its reports (R243, R289). -/
def stopReport (moved : Bool) (s : State) : State :=
  let t := report .opened
    { s with saf := { s.saf with outWait := false, close := none, imd := { s.saf.imd with dirty := s.saf.imd.dirty || moved } } }
  if t.saf.trip.wanted then report .idle t else t

/-- Those commands are all that a stop does to the outputs: else it ends requests and reports. -/
theorem contactorsOff_eq (s : State) : ∃ d x, contactorsOff s =
    { stopCommands s with
      saf := { (stopCommands s).saf with outWait := false, close := none, imd := { (stopCommands s).saf.imd with dirty := d } }, x03 := x } := by
  have e : contactorsOff s = stopReport (contactorOn s) (stopCommands s) := by
    unfold contactorsOff stopCommands relayOff
    cases relaySo s <;> rfl
  rw [e, stopReport]
  split <;> exact ⟨_, _, rfl⟩

theorem contactorsOff_keeps (s : State) : StopKeeps s (contactorsOff s) := by
  obtain ⟨d, x, e⟩ := contactorsOff_eq s
  have h : StopKeeps s (stopCommands s) := (soOff_keeps _ s).trans (relayOff_keeps (fun _ => relaySo_lt) _ _)
  rw [e]
  exact ⟨h.regs, h.off, h.params, h.saf⟩

theorem get_contactorsOff (hg : AboveSo g) (s : State) : (contactorsOff s).get g = s.get g := by
  obtain ⟨d, x, e⟩ := contactorsOff_eq s
  rw [e]
  exact (get_relayOff (fun _ => relaySo_lt) hg _ _).trans (get_soOff hg _ s)

/-- After a stop no contactor output is on (R243). -/
theorem contactorOn_contactorsOff (s : State) : contactorOn (contactorsOff s) = false := by
  have hmask : contactorMask (contactorsOff s) = contactorMask s := contactorMask_congr (contactorsOff_keeps s).params
  have hoff (i : Nat) (hi : i < 4) (hm : (contactorMask s).testBit i = true) : (contactorsOff s).bitOf Reg.SAF_OUT i = false := by
    obtain ⟨d, x, e⟩ := contactorsOff_eq s
    rw [e]
    exact (relayOff_keeps (fun _ => relaySo_lt) _ _).off i hi (bitOf_soOff_of_mem hi hm s)
  have hz : (contactorsOff s).get Fd.SAF_OUT_SO &&& contactorMask s = 0 := by
    apply Nat.eq_of_testBit_eq
    intro i
    rw [Nat.testBit_and, testBit_get, Nat.zero_testBit]
    by_cases hi : i < 4
    · by_cases hm : (contactorMask s).testBit i = true
      · simp [hoff i hi hm]
      · simp [hm]
    · simp [hi]
  rw [contactorOn, hmask, hz]
  rfl

theorem StopKeeps.upd_saf {a : SafState} (h : a.stopBase = s.saf.stopBase) : StopKeeps s { s with saf := a } := ⟨.refl _ s, fun _ _ hi => hi, rfl, h⟩

theorem contactorsLater_keeps (s : State) : StopKeeps s (contactorsLater s) := by
  unfold contactorsLater
  split
  · exact contactorsOff_keeps s
  · exact .upd_saf rfl

theorem get_contactorsLater (hg : AboveSo g) (s : State) : (contactorsLater s).get g = s.get g := by
  unfold contactorsLater
  split
  · exact get_contactorsOff hg s
  · rfl

/-- A field of SAF_OUT or SWC_STAT above the SO outputs written. -/
theorem StopKeeps.of_put {f : RegField} (hf : f.reg ∈ [Reg.SAF_OUT, Reg.SWC_STAT]) (hlo : 4 ≤ f.lo) (hw : f.lo + f.width ≤ 32) (v : Nat) (s : State) :
    StopKeeps s (s.put f v) :=
  .of_regs (by simp only [regsBut_put hf, regsBut_self]) (fun i hi h => by rw [bitOf_put _ _ _ _ _ hw, if_neg (by omega)]; exact h)
    ((Within.refl _ s).put rfl)

theorem gateAssert_keeps (s : State) : StopKeeps s (gateAssert s) :=
  ((StopKeeps.of_put (by simp) (by simp) (by simp) 1 s).trans (.of_put (by simp) (by simp) (by simp) 1 _)).trans
    (.of_put (by simp) (by simp) (by simp) 0 _)

theorem pilotDemand_keeps (v : Nat) (s : State) : StopKeeps s (pilotDemand v s) := by
  unfold pilotDemand
  split
  · exact .upd_saf rfl
  · have h : StopKeeps s (s.put Fd.SAF_OUT_PILOT v) := .of_put (by simp) (by simp) (by simp) v s
    exact ⟨h.regs, h.off, h.params, h.saf⟩

theorem lowSides_keeps (s : State) : StopKeeps s (lowSides s) := .of_put (by simp) (by simp) (by simp) _ s

/-- What the elements of a stop reaction leave (R242, R243): both gate lines asserted, GATEREL off, the pilot demanded where the cause asks for it. -/
theorem stopElements_keeps (b : Bool) (s : State) : StopKeeps s (stopElements b s) := by
  have h : StopKeeps s (if b then lowSides (pilotDemand 2 (gateAssert s)) else gateAssert s) := by
    split
    · exact ((gateAssert_keeps s).trans (pilotDemand_keeps 2 _)).trans (lowSides_keeps _)
    · exact gateAssert_keeps s
  exact h.trans (contactorsLater_keeps _)

theorem stopElements_shows (b : Bool) (s : State) : (stopElements b s).on Fd.SAF_OUT_GOFFA = true ∧ (stopElements b s).on Fd.SAF_OUT_GOFFB = true ∧
    (stopElements b s).on Fd.SWC_STAT_GATEREL = false ∧ (stopElements b s).get Fd.SAF_OUT_PILOT = if b then 2 else s.get Fd.SAF_OUT_PILOT := by
  have h (f : RegField) (hf : 4 ≤ f.lo) : (stopElements b s).get f = (if b then lowSides (pilotDemand 2 (gateAssert s)) else gateAssert s).get f :=
    get_contactorsLater (.inr hf) _
  simp only [on]
  rw [h _ (by simp), h _ (by simp), h _ (by simp), h _ (by simp)]
  cases b
  · simp [gateAssert, lower, raise]
  · obtain ⟨u, hu⟩ : ∃ u, u = gateAssert s := ⟨_, rfl⟩
    have hA : u.get Fd.SAF_OUT_GOFFA = 1 := by simp [hu, gateAssert, lower, raise]
    have hB : u.get Fd.SAF_OUT_GOFFB = 1 := by simp [hu, gateAssert, lower, raise]
    have hR : u.get Fd.SWC_STAT_GATEREL = 0 := by simp [hu, gateAssert, lower, raise]
    rw [← hu]
    simp only [if_true, lowSides, pilotDemand]
    split
    · next hp => simp [hA, hB, hR, hp]
    · simp [hA, hB, hR]

theorem safEnter_regsBut (n : Nat) (s : State) : RegsBut [Reg.SAF_STAT, Reg.HIF_ISRC] s (safEnter n s) := by
  unfold safEnter
  split <;> simp

theorem safSt_safEnter {n : Nat} (hn : n < 4) (s : State) : safSt (safEnter n s) = n := by
  unfold safEnter
  split
  · assumption
  · simpa [safSt, raise] using hn

/-- What any change of causes keeps: the registers but those of causes and stops, an output that is off, the parameters, and the Signal Box's values
but those that a stop changes. -/
structure CauseKeeps (s t : State) : Prop where
  regs : RegsBut causeRegs s t
  off : ∀ i, i < 4 → s.bitOf Reg.SAF_OUT i = false → t.bitOf Reg.SAF_OUT i = false
  params : t.params = s.params
  saf : t.saf.stopBase = s.saf.stopBase

theorem CauseKeeps.refl (s : State) : CauseKeeps s s := ⟨.refl _ s, fun _ _ h => h, rfl, rfl⟩

theorem CauseKeeps.trans {u : State} (h : CauseKeeps s t) (k : CauseKeeps t u) : CauseKeeps s u :=
  ⟨h.regs.trans k.regs, fun i h4 hi => k.off i h4 (h.off i h4 hi), k.params.trans h.params, k.saf.trans h.saf⟩

theorem StopKeeps.cause (h : StopKeeps s t) : CauseKeeps s t := ⟨h.regs.mono (by simp [causeRegs]), h.off, h.params, h.saf⟩

theorem CauseKeeps.of_regs {l : List Nat} (h : RegsBut l s t) (hl : l ⊆ causeRegs) (ho : Reg.SAF_OUT ∉ l) (hw : Within [.regs] s t) : CauseKeeps s t :=
  ⟨h.mono hl, fun i _ hi => (h.bitOf ho).trans hi, hw.same .params (by simp), congrArg SafState.stopBase (hw.same .saf (by simp))⟩

theorem safEnter_keeps (n : Nat) (s : State) : CauseKeeps s (safEnter n s) :=
  .of_regs (safEnter_regsBut n s) (by simp [causeRegs]) (by simp) (safEnter_within n s)

theorem CauseKeeps.report {r : SafReport} (h : CauseKeeps s t) : CauseKeeps s (report r t) := ⟨h.regs, h.off, h.params, h.saf⟩

theorem stopReaction_keeps (n : Nat) (s : State) : CauseKeeps s (stopReaction n s) := by
  unfold stopReaction
  split
  · have h (k : Nat) : CauseKeeps s (((safEnter k s).put Fd.SAF_FIRST_CAUSE n).bump Fd.SAF_CNT_STOPS) :=
      (safEnter_keeps k s).trans (.of_regs (l := [Reg.SAF_FIRST, Reg.SAF_CNT]) (by simp) (by simp [causeRegs]) (by simp)
        (((Within.refl _ _).put rfl).bump rfl))
    exact ((h _).trans (stopElements_keeps _ _).cause).report
  · split
    · exact ((safEnter_keeps 1 s).trans (stopElements_keeps true _).cause).report
    · exact (CauseKeeps.refl s).report

/-- A field of the stop's registers that its outputs do not show. -/
theorem get_stopElements (hg : g.reg ≠ Reg.SAF_OUT) (hw : g.reg ≠ Reg.SWC_STAT) (b : Bool) (s : State) : (stopElements b s).get g = s.get g :=
  (stopElements_keeps b s).regs.get (by simp [hg, hw])

theorem demandsSafe_congr (h : t.params = s.params) (n : Nat) : demandsSafe t n = demandsSafe s n := by
  simp only [demandsSafe, pairFunc, parN_congr h]

/-- A stop reaction from run (R243): the state entered, its first cause, and its outputs. -/
theorem stopReaction_of_run (hs : safSt s = 0) :
    safSt (stopReaction n s) = (if demandsSafe s n then 1 else 2) ∧ (stopReaction n s).get Fd.SAF_FIRST_CAUSE = n % 32 ∧
      (stopReaction n s).on Fd.SAF_OUT_GOFFA = true ∧ (stopReaction n s).on Fd.SAF_OUT_GOFFB = true ∧ (stopReaction n s).on Fd.SWC_STAT_GATEREL = false ∧
      (stopReaction n s).get Fd.SAF_OUT_PILOT = if demandsSafe s n then 2 else s.get Fd.SAF_OUT_PILOT := by
  obtain ⟨u, hu⟩ : ∃ u, u = ((safEnter (if demandsSafe s n then 1 else 2) s).put Fd.SAF_FIRST_CAUSE n).bump Fd.SAF_CNT_STOPS := ⟨_, rfl⟩
  have hst : safSt u = if demandsSafe s n then 1 else 2 := by
    have h := safSt_safEnter (n := if demandsSafe s n then 1 else 2) (by split <;> omega) s
    rw [hu, safSt, bump]
    simpa [safSt] using h
  have hf : u.get Fd.SAF_FIRST_CAUSE = n % 32 := by
    rw [hu, bump]
    simp
  have hp : u.get Fd.SAF_OUT_PILOT = s.get Fd.SAF_OUT_PILOT := by
    rw [hu, bump, get_put_other _ _ _ _ (by simp), get_put_other _ _ _ _ (by simp), (safEnter_regsBut _ s).get (by simp)]
  have e : stopReaction n s = report (.cause n) (stopElements (demandsSafe s n) u) := by rw [stopReaction, if_pos hs, hu]
  rw [e]
  obtain ⟨hA, hB, hR, hP⟩ := stopElements_shows (demandsSafe s n) u
  refine ⟨?_, ?_, hA, hB, hR, by rw [← hp]; exact hP⟩
  · exact (get_stopElements (by simp) (by simp) _ u).trans hst
  · exact (get_stopElements (by simp) (by simp) _ u).trans hf

/-- No stop reaction leaves the Signal Box in run, and only one from run or from the energy stop changes its state (R243). -/
theorem safSt_stopReaction_ne (n : Nat) (s : State) : safSt (stopReaction n s) ≠ 0 := by
  by_cases hs : safSt s = 0
  · rw [(stopReaction_of_run hs).1]
    split <;> decide
  · unfold stopReaction
    rw [if_neg hs]
    split
    · have h : safSt (stopElements true (safEnter 1 s)) = 1 := (get_stopElements (by simp) (by simp) _ _).trans (safSt_safEnter (by omega) s)
      exact fun h0 => absurd (h.symm.trans h0) (by decide)
    · exact hs

theorem safLatch_keeps (n : Nat) (b : Bool) (s : State) : CauseKeeps s (safLatch n b s) := by
  have h : RegsBut [Reg.SAF_LATCH, Reg.HIF_ISRC] s (safLatch n b s) := by
    unfold safLatch
    split <;> simp
  exact .of_regs h (by simp [causeRegs]) (by simp) (safLatch_within n b s)

theorem safLatch_regsBut (n : Nat) (b : Bool) (s : State) : RegsBut [Reg.SAF_LATCH, Reg.HIF_ISRC] s (safLatch n b s) := by
  unfold safLatch
  split <;> simp

theorem causeLatched_eq (s : State) (n : Nat) : causeLatched s n = (decide (n < 22) && s.bitOf Reg.SAF_LATCH n) := by
  rw [causeLatched, testBit_get, Nat.zero_add]

theorem causeOn_eq (s : State) (n : Nat) : causeOn s n = (decide (n < 22) && s.bitOf Reg.SAF_CAUSE n) := by
  rw [causeOn, testBit_get, Nat.zero_add]

theorem causeOn_of_regs {l : List Nat} (h : RegsBut l s t) (hl : Reg.SAF_CAUSE ∉ l) (n : Nat) : causeOn t n = causeOn s n := by
  rw [causeOn, causeOn, h.get hl]

theorem causeLatched_of_regs {l : List Nat} (h : RegsBut l s t) (hl : Reg.SAF_LATCH ∉ l) (n : Nat) : causeLatched t n = causeLatched s n := by
  rw [causeLatched, causeLatched, h.get hl]

theorem causeLatched_safLatch (hn : n < 22) (b : Bool) (s : State) (m : Nat) :
    causeLatched (safLatch n b s) m = if m = n then b else causeLatched s m := by
  rw [causeLatched_eq, causeLatched_eq]
  unfold safLatch
  split
  · next h =>
    split
    · next e => simp_all
    · rfl
  · rw [raise, bitOf_put _ _ _ _ _ (by simp), if_neg (by simp), bitOf_putBit _ _ _ _ _ _ (by omega)]
    by_cases e : m = n
    · simp [e, hn]
    · simp [e]

theorem causeOn_putBit (hn : n < 22) (b : Bool) (s : State) (m : Nat) :
    causeOn (s.putBit Reg.SAF_CAUSE n b) m = if m = n then b else causeOn s m := by
  rw [causeOn_eq, causeOn_eq, bitOf_putBit _ _ _ _ _ _ (by omega)]
  by_cases e : m = n
  · simp [e, hn]
  · simp [e]

/-- The registers of a stop reaction: those of the causes but SAF_CAUSE and SAF_LATCH. -/
theorem stopReaction_regsBut (n : Nat) (s : State) :
    RegsBut [Reg.SAF_STAT, Reg.SAF_FIRST, Reg.SAF_CNT, Reg.SAF_OUT, Reg.SWC_STAT, Reg.HIF_ISRC] s (stopReaction n s) := by
  have henter (k : Nat) : RegsBut [Reg.SAF_STAT, Reg.SAF_FIRST, Reg.SAF_CNT, Reg.SAF_OUT, Reg.SWC_STAT, Reg.HIF_ISRC] s (safEnter k s) :=
    (safEnter_regsBut k s).mono (by simp)
  have hel (b : Bool) (u : State) : RegsBut [Reg.SAF_STAT, Reg.SAF_FIRST, Reg.SAF_CNT, Reg.SAF_OUT, Reg.SWC_STAT, Reg.HIF_ISRC] u (stopElements b u) :=
    (stopElements_keeps b u).regs.mono (by simp)
  unfold stopReaction
  split
  · exact (((henter _).put (by simp)).bump (by simp)).trans (hel _ _)
  · split
    · exact (henter 1).trans (hel true _)
    · exact .refl _ s

/-- A cause shown, and latched in classes B and C (R247). -/
def causeShow (n : Nat) (s : State) : State :=
  if classB.contains n ∨ classC.contains n then safLatch n true (s.putBit Reg.SAF_CAUSE n true) else s.putBit Reg.SAF_CAUSE n true

theorem causeShow_regsBut (n : Nat) (s : State) : RegsBut [Reg.SAF_CAUSE, Reg.SAF_LATCH, Reg.HIF_ISRC] s (causeShow n s) := by
  have h : RegsBut [Reg.SAF_CAUSE, Reg.SAF_LATCH, Reg.HIF_ISRC] s (s.putBit Reg.SAF_CAUSE n true) := by simp
  unfold causeShow
  split
  · exact h.trans ((safLatch_regsBut n true _).mono (by simp))
  · exact h

theorem causeShow_within (n : Nat) (s : State) : Within [.regs] s (causeShow n s) :=
  .ite (((Within.refl _ s).putBit rfl).comp (safLatch_within n true _) rfl) ((Within.refl _ s).putBit rfl)

theorem causeOn_causeShow (hn : n < 22) (s : State) (m : Nat) : causeOn (causeShow n s) m = (decide (m = n) || causeOn s m) := by
  have h := causeOn_putBit hn true s m
  have hp : causeOn (s.putBit Reg.SAF_CAUSE n true) m = (decide (m = n) || causeOn s m) := by
    rw [h]
    split <;> simp_all
  unfold causeShow
  split
  · rw [causeOn_of_regs (safLatch_regsBut n true _) (by simp), hp]
  · exact hp

theorem causeLatched_causeShow (hn : n < 22) (s : State) (m : Nat) :
    causeLatched (causeShow n s) m = (decide (m = n ∧ (classB.contains n ∨ classC.contains n)) || causeLatched s m) := by
  have hp : causeLatched (s.putBit Reg.SAF_CAUSE n true) m = causeLatched s m := by simp [causeLatched, putBit]
  unfold causeShow
  split
  · next h =>
    rw [causeLatched_safLatch hn, hp]
    by_cases e : m = n
    · simp only [e, h, and_self, decide_true, Bool.true_or, if_true]
    · simp only [e, false_and, decide_false, Bool.false_or, if_false]
  · next h => simp only [hp, h, and_false, decide_false, Bool.false_or]

theorem causeShow_keeps (n : Nat) (s : State) : CauseKeeps s (causeShow n s) :=
  .of_regs (causeShow_regsBut n s) (by simp [causeRegs]) (by simp) (causeShow_within n s)

theorem causeSet_of_on (h : causeOn s n = true) : causeSet n s = s := if_pos h

theorem causeSet_of_off (h : causeOn s n = false) (hn : n ≠ 19) : causeSet n s = stopReaction n (causeShow n s) := by
  rw [causeSet, if_neg (by simp [h])]
  exact if_neg hn

theorem causeSet_stuck (h : causeOn s 19 = false) : causeSet 19 s = causeShow 19 s := by
  rw [causeSet, if_neg (by simp [h])]
  rfl

/-- A cause that arises (R247) changes only the registers of causes, and of the Signal Box's values only those of a stop. -/
theorem causeSet_keeps (n : Nat) (s : State) : CauseKeeps s (causeSet n s) := by
  by_cases h : causeOn s n = true
  · rw [causeSet_of_on h]
    exact .refl s
  · have h' := Bool.not_eq_true _ ▸ h
    by_cases hn : n = 19
    · subst hn
      rw [causeSet_stuck h']
      exact causeShow_keeps 19 s
    · rw [causeSet_of_off h' hn]
      exact (causeShow_keeps n s).trans (stopReaction_keeps n _)

/-- A cause that arises is shown, and no other (R247). -/
theorem causeOn_causeSet (hn : n < 22) (s : State) (m : Nat) : causeOn (causeSet n s) m = (decide (m = n) || causeOn s m) := by
  by_cases h : causeOn s n = true
  · rw [causeSet_of_on h]
    by_cases e : m = n
    · simp [e, h]
    · simp [e]
  · have h' := Bool.not_eq_true _ ▸ h
    by_cases h19 : n = 19
    · subst h19
      rw [causeSet_stuck h', causeOn_causeShow hn]
    · rw [causeSet_of_off h' h19, causeOn_of_regs (stopReaction_regsBut n _) (by simp), causeOn_causeShow hn]

/-- A cause of class B or C that arises is latched (R247). -/
theorem causeLatched_causeSet (h : causeOn s n = false) (hn : n < 22) (hc : classB.contains n ∨ classC.contains n) : causeLatched (causeSet n s) n = true := by
  have h19 : n ≠ 19 := by
    rintro rfl
    exact absurd hc (by decide)
  rw [causeSet_of_off h h19, causeLatched_of_regs (stopReaction_regsBut n _) (by simp), causeLatched_causeShow hn]
  simp only [hc, and_self, decide_true, Bool.true_or]

theorem safSt_causeShow (n : Nat) (s : State) : safSt (causeShow n s) = safSt s := (causeShow_regsBut n s).get (by simp)

/-- Once a cause other than RSTSTUCK has arisen, the Signal Box is not in run (R243). -/
theorem safSt_causeSet_ne (h : causeOn s n = false) (hn : n ≠ 19) : safSt (causeSet n s) ≠ 0 := by
  rw [causeSet_of_off h hn]
  exact safSt_stopReaction_ne n _

/-- A cause that arises in run (R243): the state entered, its first cause, and its outputs. -/
theorem causeSet_of_run (h : causeOn s n = false) (hs : safSt s = 0) (hn : n ≠ 19) :
    safSt (causeSet n s) = (if demandsSafe s n then 1 else 2) ∧ (causeSet n s).get Fd.SAF_FIRST_CAUSE = n % 32 ∧
      (causeSet n s).on Fd.SAF_OUT_GOFFA = true ∧ (causeSet n s).on Fd.SAF_OUT_GOFFB = true ∧ (causeSet n s).on Fd.SWC_STAT_GATEREL = false ∧
      (causeSet n s).get Fd.SAF_OUT_PILOT = if demandsSafe s n then 2 else s.get Fd.SAF_OUT_PILOT := by
  have hd : demandsSafe (causeShow n s) n = demandsSafe s n := demandsSafe_congr (causeShow_keeps n s).params n
  have hp : (causeShow n s).get Fd.SAF_OUT_PILOT = s.get Fd.SAF_OUT_PILOT := (causeShow_regsBut n s).get (by simp)
  have key := stopReaction_of_run (n := n) ((safSt_causeShow n s).trans hs)
  rwa [hd, hp, ← causeSet_of_off h hn] at key

theorem causeEnd_regsBut (n : Nat) (s : State) : RegsBut [Reg.SAF_CAUSE] s (causeEnd n s) := by
  unfold causeEnd
  split <;> simp

theorem causeEnd_keeps (n : Nat) (s : State) : CauseKeeps s (causeEnd n s) :=
  .of_regs (causeEnd_regsBut n s) (by simp [causeRegs]) (by simp) (causeEnd_within n s)

theorem causeOn_causeEnd (hn : n < 22) (hc : n ∉ classC) (s : State) (m : Nat) : causeOn (causeEnd n s) m = (decide (m ≠ n) && causeOn s m) := by
  rw [causeEnd, if_neg (by simpa using hc), causeOn_putBit hn]
  by_cases e : m = n <;> simp [e]

theorem causeFollow_keeps (n : Nat) (b : Bool) (s : State) : CauseKeeps s (causeFollow n b s) := by
  unfold causeFollow
  split
  · exact causeSet_keeps n s
  · exact causeEnd_keeps n s

theorem causeOn_causeFollow (hn : n < 22) (hc : n ∉ classC) (b : Bool) (s : State) : causeOn (causeFollow n b s) n = b := by
  cases b
  · exact (causeOn_causeEnd hn hc s n).trans (by simp)
  · exact (causeOn_causeSet hn s n).trans (by simp)

/-- The start's hold over, when every input has passed its test (R257). -/
def settleHold (s : State) : State :=
  if s.saf.hold && !causeOn s 17 && s.saf.tested % 256 == 255 then
    { s with saf := { s.saf with hold := false, needRst := s.parB Par.START_RST } } else s

/-- Whether a reset may end the stop reaction (R256). -/
def settleReady (s : State) : Bool :=
  (safSt s == 1 || safSt s == 2) && (presentCauses s == 0) && !(classC.any (causeLatched s)) && !discBlocked s && !s.saf.hold &&
    (s.get Fd.SAF_LATCH_LATCHED != 0 || s.saf.needRst)

/-- The end of a stop reaction, without the hold's. -/
def settleEnd (s : State) : State :=
  let t := s.putB Fd.SAF_STAT_RSTREADY (settleReady s)
  if (safSt t = 1 ∨ safSt t = 2) ∧ presentCauses s == 0 ∧ t.get Fd.SAF_LATCH_LATCHED = 0 ∧ !t.saf.hold ∧ !t.saf.needRst then
    report .ended (lowSides (pilotDemand 0 ((safEnter 0 t).lower Fd.SAF_STAT_RSTREADY)))
  else t

theorem settle_eq (s : State) : settle s = settleEnd (settleHold s) := rfl

theorem settleHold_regsBut (l : List Nat) (s : State) : RegsBut l s (settleHold s) := by
  unfold settleHold
  split
  · exact (RegsBut.refl l s).same rfl
  · exact .refl l s

theorem pilotDemand_regsBut (v : Nat) (s : State) : RegsBut [Reg.SAF_OUT] s (pilotDemand v s) := by
  unfold pilotDemand
  split
  · exact .refl _ s
  · exact ((RegsBut.refl _ s).put (by simp)).same rfl

theorem settleEnd_regsBut (s : State) : RegsBut [Reg.SAF_STAT, Reg.SAF_OUT, Reg.HIF_ISRC] s (settleEnd s) := by
  have h : RegsBut [Reg.SAF_STAT, Reg.SAF_OUT, Reg.HIF_ISRC] s (s.putB Fd.SAF_STAT_RSTREADY (settleReady s)) := by simp
  unfold settleEnd
  dsimp only
  split
  · have he := ((h.trans ((safEnter_regsBut 0 _).mono (by simp))).lower (f := Fd.SAF_STAT_RSTREADY) (by simp)).trans ((pilotDemand_regsBut 0 _).mono (by simp))
    exact he.trans (.put (.refl _ _) (by simp))
  · exact h

/-- The end of a stop reaction changes SAF_STAT, SAF_OUT and HIF_ISRC, and no cause (R256). -/
theorem settle_regsBut (s : State) : RegsBut [Reg.SAF_STAT, Reg.SAF_OUT, Reg.HIF_ISRC] s (settle s) :=
  (settleHold_regsBut _ s).trans (settleEnd_regsBut _)

/-- Of the Signal Box's own values the end of a stop reaction changes only the start's hold (R257). -/
theorem settle_saf (s : State) : ∃ a b, (settle s).saf = { s.saf with hold := a, needRst := b } := by
  have hend (u : State) : (settleEnd u).saf = u.saf := by
    unfold settleEnd
    dsimp only
    split
    · have he (v : State) : (safEnter 0 v).saf = v.saf := (safEnter_within 0 v).same .saf (by simp)
      have hp (v : State) : (pilotDemand 0 v).saf = v.saf := (pilotDemand_within 0 v).same .saf (by simp)
      exact ((hp _).trans (he _))
    · rfl
  rw [settle_eq, hend]
  unfold settleHold
  split
  · exact ⟨_, _, rfl⟩
  · exact ⟨_, _, rfl⟩

/-- While a cause is present the state stays as it was (R256). -/
theorem safSt_settle_of_present (h : presentCauses s ≠ 0) : safSt (settle s) = safSt s := by
  have hp : presentCauses (settleHold s) ≠ 0 := by
    rw [presentCauses, (settleHold_regsBut [] s).get (by simp)]
    exact h
  have hs : safSt (settleHold s) = safSt s := (settleHold_regsBut [] s).get (by simp)
  rw [settle_eq, ← hs]
  unfold settleEnd
  dsimp only
  rw [if_neg (by simp [hp])]
  simp [safSt, putB]

/-- A cause that is on and is not RSTSTUCK is present. -/
theorem presentCauses_ne {n : Nat} (hn : n < 22) (h19 : n ≠ 19) (h : causeOn s n = true) : presentCauses s ≠ 0 := by
  intro h0
  have hb := congrArg (fun k => Nat.testBit k n) h0
  have hm : ∀ k, k < 22 → k ≠ 19 → (4194303 ^^^ 2 ^ 19 : Nat).testBit k = true := by decide
  simp only [presentCauses, Nat.testBit_and, Nat.zero_testBit, hm n hn h19, Bool.and_true] at hb
  rw [causeOn] at h
  exact absurd (h.symm.trans hb) (by decide)

end Stop

end Sys2Proof.Machine
end

section
/-!
The safety cycle and the tests of inputs and outputs (spec/07_signal_box.md R246 to R255).
-/
namespace Sys2Proof.Machine

open State

section Cycle

variable {s t u : State} {n m : Nat}

theorem causeOn_causeFollow_of_ne (hn : n < 22) (h : m ≠ n) (b : Bool) (s : State) : causeOn (causeFollow n b s) m = causeOn s m := by
  cases b
  · show causeOn (causeEnd n s) m = causeOn s m
    unfold causeEnd
    split
    · rfl
    · rw [causeOn_putBit hn, if_neg h]
  · exact (causeOn_causeSet hn s m).trans (by simp [h])

/-- What the steps of a safety cycle before the power failure's keep (R246): every register but those of the inputs, of the earth-fault monitors and of
the causes; the reset input, the cause of a power failure, and the power state. -/
structure CycleKeeps (s t : State) : Prop where
  regs : RegsBut ([Reg.SAF_IN, Reg.EFT_STAT, Reg.EFT_EVT] ++ causeRegs) s t
  rst : t.get Fd.SAF_IN_RST = s.get Fd.SAF_IN_RST
  cause : causeOn t 21 = causeOn s 21
  pow : t.pow = s.pow

theorem CycleKeeps.trans (h : CycleKeeps s t) (k : CycleKeeps t u) : CycleKeeps s u :=
  ⟨h.regs.trans k.regs, k.rst.trans h.rst, k.cause.trans h.cause, k.pow.trans h.pow⟩

theorem CycleKeeps.refl (s : State) : CycleKeeps s s := ⟨.refl _ s, rfl, rfl, rfl⟩

theorem CycleKeeps.ite {c : Prop} [Decidable c] (h : CycleKeeps s t) (k : CycleKeeps s u) : CycleKeeps s (if c then t else u) := by
  split <;> assumption

theorem CauseKeeps.cycle (h : CauseKeeps s t) (hc : causeOn t 21 = causeOn s 21) (hp : t.pow = s.pow) : CycleKeeps s t :=
  ⟨h.regs.mono (List.subset_append_right _ _), h.regs.get (by simp [causeRegs]), hc, hp⟩

/-- Registers written that are neither of the causes nor of the inputs. -/
theorem CycleKeeps.of_regs (h : RegsBut [Reg.EFT_STAT, Reg.EFT_EVT, Reg.SAF_OUT, Reg.SWC_STAT] s t) (hp : t.pow = s.pow) : CycleKeeps s t :=
  ⟨h.mono (by simp [causeRegs]), h.get (by simp), causeOn_of_regs h (by simp) 21, hp⟩

theorem CycleKeeps.upd_saf (a : SafState) (s : State) : CycleKeeps s { s with saf := a } := ⟨.refl _ s, rfl, rfl, rfl⟩

theorem causeFollow_cycle (hn : n < 21) (b : Bool) (s : State) : CycleKeeps s (causeFollow n b s) :=
  (causeFollow_keeps n b s).cycle (causeOn_causeFollow_of_ne (by omega) (by omega) b s) ((causeFollow_within n b s).same .pow (by simp))

theorem causeSet_cycle (hn : n < 21) (s : State) : CycleKeeps s (causeSet n s) := causeFollow_cycle hn true s

theorem causeEnd_cycle (hn : n < 21) (s : State) : CycleKeeps s (causeEnd n s) := causeFollow_cycle hn false s

theorem sampleInput_cycle {k : Nat} (hk : k < 8) (a b : Bool) (s : State) : CycleKeeps s (sampleInput k a b s) := by
  unfold sampleInput
  refine .ite (.refl s) ?_
  extract_lets +onlyGivenNames -merge -underBinder r n src t
  have ht : CycleKeeps s t := .upd_saf _ s
  have hput : CycleKeeps t (t.putBit Reg.SAF_IN k a) :=
    ⟨by simp, get_putBit_of_apart _ _ _ _ (.inr (.inl (by simp; omega))), causeOn_of_regs (l := [Reg.SAF_IN]) (by simp) (by simp) 21, rfl⟩
  exact .ite ht ((ht.trans hput).trans (.upd_saf _ _))

/-- A pair's timer after a set of samples (R250). -/
def samplePair (si mask : Nat) (t : State) (n : Nat) (v : State) : State :=
  let p := pairTimer (pairChannels t n) (pairChannels (sampleSet si mask t) n) (nth v.saf.pairs n .zero)
  if pairUsed v n then { v with saf := { v.saf with pairs := setNth v.saf.pairs n p } } else v

theorem samplePair_cycle (si mask : Nat) (t : State) (n : Nat) (v : State) : CycleKeeps v (samplePair si mask t n v) := .ite (.upd_saf _ v) (.refl v)

/-- One set of samples, and the pairs' timers after it (R250). -/
def sampleOne (si mask : Nat) (t : State) : State :=
  upTo 4 (samplePair si mask t) (sampleSet si mask t)

theorem sampleCycle_cycle (i : SafeIn) (s : State) : CycleKeeps s (sampleCycle i s) := by
  have hset (si mask : Nat) (v : State) : CycleKeeps v (sampleSet si mask v) :=
    upTo_preserves (P := fun w => CycleKeeps v w) (fun k hk w hw => hw.trans (sampleInput_cycle hk _ _ w)) (.refl v)
  have hone (si mask : Nat) (v : State) : CycleKeeps v (sampleOne si mask v) :=
    upTo_preserves (P := fun w => CycleKeeps v w) (fun k hk w hw => hw.trans (samplePair_cycle si mask v k w)) (hset si mask v)
  exact (hone i.si1 i.mask1 s).trans (hone i.si2 i.mask2 _)

theorem pairCauses_cycle (s : State) : CycleKeeps s (pairCauses s) :=
  (((causeFollow_cycle (by omega) _ _).trans (causeFollow_cycle (by omega) _ _)).trans (causeFollow_cycle (by omega) _ _)).trans
    (causeFollow_cycle (by omega) _ _)

theorem rcmEvaluate_cycle (s : State) : CycleKeeps s (rcmEvaluate s) := by
  unfold rcmEvaluate
  split
  · extract_lets +onlyGivenNames -merge -underBinder w dc ac t0
    have h0 : CycleKeeps s t0 := .of_regs (by simp [t0]) rfl
    clear_value t0
    extract_lets +onlyGivenNames -merge -underBinder src t1
    have h1 : CycleKeeps s t1 := h0.trans (.ite (CycleKeeps.trans (.of_regs ((RegsBut.refl _ t0).raise (by simp)) rfl) (.upd_saf _ _)) (.refl t0))
    clear_value t1
    exact h1.trans (causeFollow_cycle (by omega) _ t1)
  · exact causeFollow_cycle (by omega) _ s

theorem tripFire_regsBut (k : Nat) (s : State) : RegsBut [Reg.EFT_STAT, Reg.EFT_EVT, Reg.SAF_OUT, Reg.SWC_STAT] s (tripFire k s) := by
  have hwhen (b : Bool) (f : State → State) (v : State) (hf : RegsBut [Reg.EFT_STAT, Reg.EFT_EVT, Reg.SAF_OUT, Reg.SWC_STAT] v (f v)) :
      RegsBut [Reg.EFT_STAT, Reg.EFT_EVT, Reg.SAF_OUT, Reg.SWC_STAT] v (when b f v) := .ite hf (.refl _ v)
  unfold tripFire
  extract_lets a b t0 t1
  have h0 : RegsBut [Reg.EFT_STAT, Reg.EFT_EVT, Reg.SAF_OUT, Reg.SWC_STAT] s t0 := hwhen a _ s (by simp)
  have h1 : RegsBut [Reg.EFT_STAT, Reg.EFT_EVT, Reg.SAF_OUT, Reg.SWC_STAT] s t1 := h0.trans (hwhen b _ t0 (by simp))
  exact .ite (((h1.put (by simp)).raise (by simp)).lower (by simp)) h1

theorem tripFire_cycle (k : Nat) (s : State) : CycleKeeps s (tripFire k s) := by
  refine .of_regs (tripFire_regsBut k s) ((tripFire_within k s).same .pow (by simp))

theorem tripComparators_cycle (k : Nat) (s : State) : CycleKeeps s (tripComparators k s) := by
  unfold tripComparators
  extract_lets +onlyGivenNames -merge -underBinder f src src' t
  have h : CycleKeeps s t := .upd_saf _ s
  exact .ite h (h.trans (tripFire_cycle f t))

theorem tripRecognise_cycle (s : State) : CycleKeeps s (tripRecognise s) := by
  unfold tripRecognise
  refine .ite (.refl s) (.ite ?_ (.refl s))
  have h : CycleKeeps s (if causeLatched s 10 then s else causeSet 10 s) := .ite (.refl s) (causeSet_cycle (by omega) s)
  exact .ite (h.trans (causeEnd_cycle (by omega) _)) h

theorem plausCycle_cycle (s : State) : CycleKeeps s (plausCycle s) :=
  (CycleKeeps.upd_saf { s.saf with
    plausOff := if contactorOn s then 0 else min 400 (s.saf.plausOff + 1),
    plausOver := if currentOver s then min 200 (s.saf.plausOver + 1) else 0 } s).trans (causeFollow_cycle (n := 15) (by omega) _ _)

/-- The cycle up to the power failure's cause (R246). -/
def cycleFront (i : SafeIn) (s : State) : State :=
  let t := sampleCycle i (s.putB Fd.SAF_IN_RST i.rst)
  let t := causeFollow 4 (discrepant t) (pairCauses t)
  let t := causeFollow 5 (inputFaults t != 0) t
  let t := rcmEvaluate t
  let t := causeFollow 9 (t.saf.imd.bad || funcOpen t 2) t
  let t := tripRecognise (tripComparators i.comp t)
  let t := if wordsWhole t 13 then t else causeSet 13 t
  let t := if wordsWhole t 14 then t else causeSet 14 t
  let t := plausCycle t
  causeFollow 16 (contactorOn t && t.saf.pilot != 2 && t.saf.pilot != 3) t

theorem safetyCycle_eq (i : SafeIn) (s : State) : safetyCycle i s = settle (causeFollow 21 (cycleFront i s).pfw (cycleFront i s)) := rfl

theorem cycleFront_cycle (i : SafeIn) (s : State) : CycleKeeps (s.putB Fd.SAF_IN_RST i.rst) (cycleFront i s) := by
  unfold cycleFront
  extract_lets t0 t1 t2 t3 t4 t5 t6 t7 t8
  have h0 : CycleKeeps (s.putB Fd.SAF_IN_RST i.rst) t0 := sampleCycle_cycle i _
  have h1 : CycleKeeps t0 t1 := (pairCauses_cycle t0).trans (causeFollow_cycle (by omega) _ _)
  have h2 : CycleKeeps t1 t2 := causeFollow_cycle (by omega) _ t1
  have h3 : CycleKeeps t2 t3 := rcmEvaluate_cycle t2
  have h4 : CycleKeeps t3 t4 := causeFollow_cycle (by omega) _ t3
  have h5 : CycleKeeps t4 t5 := (tripComparators_cycle i.comp t4).trans (tripRecognise_cycle _)
  have h6 : CycleKeeps t5 t6 := .ite (.refl t5) (causeSet_cycle (by omega) t5)
  have h7 : CycleKeeps t6 t7 := .ite (.refl t6) (causeSet_cycle (by omega) t6)
  have h8 : CycleKeeps t7 t8 := plausCycle_cycle t7
  have h9 : CycleKeeps t8 (causeFollow 16 (contactorOn t8 && t8.saf.pilot != 2 && t8.saf.pilot != 3) t8) := causeFollow_cycle (by omega) _ t8
  clear_value t0 t1 t2 t3 t4 t5 t6 t7 t8
  exact ((((((((h0.trans h1).trans h2).trans h3).trans h4).trans h5).trans h6).trans h7).trans h8).trans h9

/-- A safety cycle (R246): the reset input sampled, and the power failure's cause. -/
theorem safetyCycle_spec (i : SafeIn) (s : State) : (safetyCycle i s).on Fd.SAF_IN_RST = i.rst ∧ causeOn (safetyCycle i s) 21 = s.pfw ∧
    (s.pfw = true → causeOn s 21 = false → safSt (safetyCycle i s) ≠ 0) ∧ RegsBut ([Reg.SAF_IN, Reg.EFT_STAT, Reg.EFT_EVT] ++ causeRegs) s (safetyCycle i s) := by
  have h := cycleFront_cycle i s
  rw [safetyCycle_eq]
  generalize cycleFront i s = u at h ⊢
  have hregs : RegsBut ([Reg.SAF_IN, Reg.EFT_STAT, Reg.EFT_EVT] ++ causeRegs) s u := RegsBut.trans (by simp) h.regs
  have hpfw : u.pfw = s.pfw := pfw_congr hregs (by simp [causeRegs]) h.pow
  have hset := settle_regsBut (causeFollow 21 u.pfw u)
  have hfol := causeFollow_keeps 21 u.pfw u
  have hon : causeOn (causeFollow 21 u.pfw u) 21 = s.pfw := (causeOn_causeFollow (by omega) (by decide) _ u).trans hpfw
  have hcause : causeOn u 21 = causeOn s 21 := h.cause.trans (causeOn_of_regs (l := [Reg.SAF_IN]) (by simp) (by simp) 21)
  refine ⟨?_, ?_, fun hp hc => ?_, ?_⟩
  · rw [on, hset.get (by simp), hfol.regs.get (by simp [causeRegs]), h.rst]
    exact on_putB _ _ _ (by decide) (by decide)
  · rw [causeOn_of_regs hset (by simp), hon]
  · rw [safSt_settle_of_present (presentCauses_ne (n := 21) (by omega) (by omega) (hon.trans hp)), hpfw, hp]
    exact safSt_causeSet_ne (hcause.trans hc) (by omega)
  · exact (hregs.trans (hfol.regs.mono (List.subset_append_right _ _))).trans (hset.mono (by simp [causeRegs]))

end Cycle

section Inputs

variable {s t : State} {n : Nat}

/-- A value of the Signal Box that no stop reaction changes. -/
theorem stopBase_field {α : Type} {a b : SafState} (f : SafState → α) (hf : ∀ c : SafState, f c.stopBase = f c) (h : a.stopBase = b.stopBase) : f a = f b := by
  rw [← hf a, h, hf b]

theorem inputFaults_congr (hb : t.saf.inBad = s.saf.inBad) (hp : t.params = s.params) : inputFaults t = inputFaults s := by
  have hu (n : Nat) : pairUsed t n = pairUsed s n := by simp only [pairUsed, pairFunc, parN_congr hp]
  simp only [inputFaults, hu, hb]

/-- A faulty pair whose channels differ is discrepant (R250). -/
theorem discrepant_of_pair (hn : n < 4) (hf : (nth s.saf.pairs n .zero).fault = true) (hc : (pairChannels s n).1 ≠ (pairChannels s n).2) :
    discrepant s = true := List.any_eq_true.2 ⟨n, List.mem_range.2 hn, by simp [hf, hc]⟩

/-- A cause that ends, and the end of its stop reaction (R256). -/
theorem settle_causeEnd (hn : n < 22) (hc : n ∉ classC) (s : State) : causeOn (settle (causeEnd n s)) n = false ∧
    (∃ a b, (settle (causeEnd n s)).saf = { s.saf with hold := a, needRst := b }) ∧ RegsBut causeRegs s (settle (causeEnd n s)) := by
  have hset := settle_regsBut (causeEnd n s)
  obtain ⟨a, b, h⟩ := settle_saf (causeEnd n s)
  have hs : (causeEnd n s).saf = s.saf := (causeEnd_within n s).same .saf (by simp)
  refine ⟨?_, ⟨a, b, by rw [h, hs]⟩, ((causeEnd_keeps n s).regs).trans (hset.mono (by simp [causeRegs]))⟩
  rw [causeOn_of_regs hset (by simp), causeOn_causeEnd hn hc]
  simp

/-- A test pulse of the inputs (R252): which passed, and the cause of a faulty one. -/
theorem testPulse_spec (tp closed wrong : Nat) (s : State) :
    (testPulse tp closed wrong s).saf.tested = s.saf.tested ||| (fedBy tp &&& (255 ^^^ (closed &&& 255))) ∧
      causeOn (testPulse tp closed wrong s) 5 = (inputFaults (testPulse tp closed wrong s) != 0) ∧ RegsBut causeRegs s (testPulse tp closed wrong s) := by
  unfold testPulse
  extract_lets +onlyGivenNames -merge -underBinder fed other bad passed src t
  have ht : RegsBut causeRegs s t := .refl _ s
  have htested : t.saf.tested = s.saf.tested ||| passed := rfl
  clear_value t
  have hk := causeFollow_keeps 5 (inputFaults t != 0) t
  obtain ⟨a, b, h⟩ := settle_saf (causeFollow 5 (inputFaults t != 0) t)
  have hset := settle_regsBut (causeFollow 5 (inputFaults t != 0) t)
  have hp : (settle (causeFollow 5 (inputFaults t != 0) t)).params = t.params := ((settle_within _).same .params (by simp)).trans hk.params
  have hbad : (causeFollow 5 (inputFaults t != 0) t).saf.inBad = t.saf.inBad := stopBase_field SafState.inBad (fun _ => rfl) hk.saf
  have hf : inputFaults (settle (causeFollow 5 (inputFaults t != 0) t)) = inputFaults t :=
    inputFaults_congr ((congrArg SafState.inBad h).trans hbad) hp
  refine ⟨?_, ?_, (ht.trans hk.regs).trans (hset.mono (by simp [causeRegs]))⟩
  · rw [h]
    exact (stopBase_field SafState.tested (fun _ => rfl) hk.saf).trans htested
  · rw [hf, causeOn_of_regs hset (by simp)]
    exact causeOn_causeFollow (by omega) (by decide) _ t

theorem banLow_regsBut (o : Nat) (s : State) : RegsBut [Reg.SAF_OUT, Reg.SWC_STAT] s (banLow o s) :=
  ((RegsBut.refl _ s).same rfl).trans (lowSides_keeps _).regs

end Inputs

/-- Settles O21: each event sets or ends its own cause, and the causes' own lemmas say what follows. -/
theorem safetyInputs : Obligations.SafetyInputs := by
  unfold Obligations.SafetyInputs
  refine ⟨fun s i hh => ?_, fun s n hh hn hl ht hc h4 hs => ?_, fun s tp closed wrong hh htp => ?_, fun s o hh ho hb h6 => ?_, fun s o hh => ?_,
    fun s o hh ho hb h6 => ?_, fun s hh hr h19 => ?_, fun s hh h13 hs => ?_, fun s hh h14 hs => ?_, fun s hh hb hw => ?_, fun s hh hb => ?_⟩
  · refine Answers.mk (awake_of_not_held hh) (execSafetyCycle_answers i s) fun hw => ?_
    obtain ⟨h1, h2, h3, h4⟩ := safetyCycle_spec i s
    exact ⟨h1, h2, h3, h4, hw⟩
  · obtain ⟨q, hq⟩ : ∃ q : PairState, q = { nth s.saf.pairs n .zero with timer := false, fault := true, bothOpen := false, cleared := false } := ⟨_, rfl⟩
    obtain ⟨u, hu⟩ : ∃ u, u = { s with saf := { s.saf with pairs := setNth s.saf.pairs n q } } := ⟨_, rfl⟩
    have hpair : nth u.saf.pairs n .zero = q := hu ▸ nth_setNth_self (by omega)
    have hd : discrepant u = true := discrepant_of_pair (n := n) (by omega) (by rw [hpair, hq]) (by rw [hu]; exact hc)
    have h4' : causeOn u 4 = false := hu ▸ h4
    have e : execDiscrepancyTimeout n s = .next (causeSet 4 u) := by
      rw [execDiscrepancyTimeout, awake_of_not_held hh]
      dsimp only
      rw [if_pos (by simp [ht, pairUsed, hn]), ← hq, ← hu, hd]
      exact congrArg Host.Outcome.next (causeSet_of_on ((causeOn_causeSet (by omega) u 4).trans (by simp)))
    obtain ⟨c1, c2, c3, c4, -, c5⟩ := causeSet_of_run (n := 4) h4' (by rw [hu]; exact hs) (by decide)
    have hk := causeSet_keeps 4 u
    have hp : (causeSet 4 u).saf.pairs = u.saf.pairs := stopBase_field SafState.pairs (fun _ => rfl) hk.saf
    refine Answers.mk e (execDiscrepancyTimeout_answers n s) fun hw => ⟨?_, causeLatched_causeSet h4' (by omega) (by decide), c1, c2, c3, c4, c5, ?_, ?_, ?_, hw⟩
    · exact (causeOn_causeSet (by omega) u 4).trans (by simp)
    · rw [hp, hpair, hq]
    · rw [hp, hpair, hq]
    · exact RegsBut.trans (by rw [hu]; exact .refl _ s) hk.regs
  · refine Answers.mk ((awake_of_not_held hh).trans (congrArg Host.Outcome.next (if_pos htp))) (execInputTestPulse_answers tp closed wrong s) fun hw => ?_
    obtain ⟨h1, h2, h3⟩ := testPulse_spec tp closed wrong s
    exact ⟨h1, h2, h3, hw⟩
  · have e : execOutputTestPulse o false s = .next (causeSet 6 (setSo o false s)) := by
      rw [execOutputTestPulse, awake_of_not_held hh, if_pos (by simp [pulseDue, ho, hb]), outputFault, if_pos ho]
    have h6' : causeOn (setSo o false s) 6 = false := (causeOn_of_regs (setSo_regsBut o false s) (by simp) 6).trans h6
    refine Answers.mk e (execOutputTestPulse_answers o false s) fun hw => ⟨?_, ?_, causeLatched_causeSet h6' (by omega) (by decide),
      safSt_causeSet_ne h6' (by decide), ((setSo_keeps ho s).cause.trans (causeSet_keeps 6 _)).regs, hw⟩
    · exact (causeSet_keeps 6 _).off o ho (by rw [bitOf_setSo ho, if_pos rfl])
    · exact (causeOn_causeSet (by omega) _ 6).trans (by simp)
  · refine Answers.of_not_held hh ⟨_, congrArg Host.Outcome.next (if_neg (by simp)), rfl⟩
  · have hk : RegsBut [Reg.SAF_OUT, Reg.SWC_STAT] s (if o < 4 then setSo o false s else banLow o s) := by
      split
      · exact setSo_regsBut o false s
      · exact banLow_regsBut o s
    have e : execOutputOffCheck o true s = .next (causeSet 6 (if o < 4 then setSo o false s else banLow o s)) := by
      rw [execOutputOffCheck, awake_of_not_held hh, if_pos ⟨ho, rfl, by simp [hb]⟩, outputFault]
    have h6' : causeOn (if o < 4 then setSo o false s else banLow o s) 6 = false := (causeOn_of_regs hk (by simp) 6).trans h6
    exact Answers.mk e (execOutputOffCheck_answers o true s) fun hw => ⟨(causeOn_causeSet (by omega) _ 6).trans (by simp),
      causeLatched_causeSet h6' (by omega) (by decide), safSt_causeSet_ne h6' (by decide), (hk.mono (by simp [causeRegs])).trans (causeSet_keeps 6 _).regs, hw⟩
  · have e : execResetStuckTimeout s = .next (({ s with saf := { s.saf with stuckOut := false } } : State).putBit Reg.SAF_CAUSE 19 true) := by
      rw [execResetStuckTimeout, awake_of_not_held hh, if_pos hr]
      exact congrArg Host.Outcome.next (causeSet_stuck h19)
    refine Answers.mk e (execResetStuckTimeout_answers s) fun hw => ⟨?_, rfl, ?_, by simp, ((Within.upd_saf s _).sub rfl).putBit rfl⟩
    · exact (causeOn_putBit (by omega) true _ 19).trans (if_pos rfl)
    · simp [safSt, putBit]
  · obtain ⟨c1, c2, c3, c4, -, c5⟩ := causeSet_of_run (n := 13) (s := { s with saf := { s.saf with coreBack := false } }) h13 hs (by decide)
    refine Answers.mk (awake_of_not_held hh) (execCoreTimeout_answers s) fun hw => ⟨?_, c1, c2, c3, c4, c5, stopBase_field SafState.coreBack (fun _ => rfl) (causeSet_keeps 13 _).saf, ?_, hw⟩
    · exact (causeOn_causeSet (by omega) _ 13).trans (by simp)
    · exact (causeSet_keeps 13 _).regs
  · obtain ⟨c1, c2, c3, c4, -, c5⟩ := causeSet_of_run (n := 14) (s := { s with saf := { s.saf with metroBack := false } }) h14 hs (by decide)
    refine Answers.mk (awake_of_not_held hh) (execMetroTimeout_answers s) fun hw => ⟨?_, c1, c2, c3, c4, c5, stopBase_field SafState.metroBack (fun _ => rfl) (causeSet_keeps 14 _).saf, ?_, hw⟩
    · exact (causeOn_causeSet (by omega) _ 14).trans (by simp)
    · exact (causeSet_keeps 14 _).regs
  · have e : execCauseResumeHoldEnd 13 s = .next (settle (causeEnd 13 { s with saf := { s.saf with coreBack := false } })) := by
      rw [execCauseResumeHoldEnd, awake_of_not_held hh, if_pos ⟨rfl, hb, hw⟩]
    obtain ⟨h1, h2, h3⟩ := settle_causeEnd (n := 13) (by omega) (by decide) { s with saf := { s.saf with coreBack := false } }
    refine Answers.mk e (execCauseResumeHoldEnd_answers 13 s) fun hw => ⟨h1, ?_, h3, hw⟩
    obtain ⟨a, b, h⟩ := h2
    rw [h]
  · have e : execCauseResumeHoldEnd 19 s = .next (settle (causeEnd 19 { s with saf := { s.saf with stuckOut := false } })) := by
      rw [execCauseResumeHoldEnd, awake_of_not_held hh, if_neg (by simp), if_neg (by simp), if_pos ⟨rfl, hb⟩]
    obtain ⟨h1, h2, h3⟩ := settle_causeEnd (n := 19) (by omega) (by decide) { s with saf := { s.saf with stuckOut := false } }
    refine Answers.mk e (execCauseResumeHoldEnd_answers 19 s) fun hw => ⟨h1, ?_, h3, hw⟩
    obtain ⟨a, b, h⟩ := h2
    rw [h]

end Sys2Proof.Machine
end

section
/-!
Reactions of the Signal Box (spec/07_signal_box.md R239, R243, R256, R260, R265): the outputs after the delay, the reset, lockstep, seals and words.
-/
namespace Sys2Proof.Machine

open State

section Flush

variable {s : State}

/-- The registers that show the Crossings. -/
def xingStats : List Nat := (List.range 21).map fun x => Reg.SYS_XSTAT x

theorem flushIsland_regsBut (i : Island) (s : State) : RegsBut (Reg.SYS_FLTCNT i.num :: xingStats) s (flushIsland i s) := by
  have h (x : Nat) (hx : x < 21) (t : State) : RegsBut (Reg.SYS_FLTCNT i.num :: xingStats) t (xingFlush i x t) := by
    have hm : Reg.SYS_XSTAT x ∈ Reg.SYS_FLTCNT i.num :: xingStats := List.mem_cons_of_mem _ (List.mem_map_of_mem (List.mem_range.2 hx))
    unfold xingFlush
    refine .ite ?_ (.refl _ t)
    exact (RegsBut.lower ((RegsBut.refl _ t).same rfl) hm).bump (by simp)
  exact RegsBut.trans (by simp) (upTo_regsBut 21 h _)

end Flush

section AllOff

variable {s t : State} {g : RegField}

theorem pilotDemand_pilot {v : Nat} (hv : v < 4) (s : State) : (pilotDemand v s).get Fd.SAF_OUT_PILOT = v := by
  unfold pilotDemand
  split
  · assumption
  · simpa using hv

/-- Commanding every SO output off leaves none on. -/
theorem get_so_soOff (s : State) : (soOff (fun _ => true) s).get Fd.SAF_OUT_SO = 0 := by
  apply Nat.eq_of_testBit_eq
  intro i
  rw [testBit_get, Nat.zero_testBit]
  by_cases hi : i < 4
  · simp [bitOf_soOff_of_mem (c := fun _ => true) hi rfl s]
  · simp [hi]

/-- The outputs all off, from the state of that name on (R239). -/
def allOffOutputs (s : State) : State :=
  let t := soOff (fun _ => true) (pilotDemand 2 (gateAssert s))
  lowSides { t with saf := { t.saf with outWait := false, close := none } }

theorem allOffOutputs_spec (h : safSt s = 3) : (allOffOutputs s).get Fd.SAF_OUT_SO = 0 ∧ (allOffOutputs s).get Fd.SAF_OUT_LOWSIDE = 0 ∧
    (allOffOutputs s).on Fd.SAF_OUT_GOFFA = true ∧ (allOffOutputs s).on Fd.SAF_OUT_GOFFB = true ∧ (allOffOutputs s).get Fd.SAF_OUT_PILOT = 2 ∧
      RegsBut [Reg.SAF_OUT, Reg.SWC_STAT] s (allOffOutputs s) := by
  obtain ⟨u, hu⟩ : ∃ u, u = pilotDemand 2 (gateAssert s) := ⟨_, rfl⟩
  obtain ⟨t, ht⟩ : ∃ t, t = soOff (fun _ => true) u := ⟨_, rfl⟩
  have hur : RegsBut [Reg.SAF_OUT, Reg.SWC_STAT] s u := hu ▸ (gateAssert_keeps s).regs.trans ((pilotDemand_regsBut 2 _).mono (by simp))
  have hr : RegsBut [Reg.SAF_OUT, Reg.SWC_STAT] s t := ht ▸ hur.trans (soOff_regsBut _ u)
  have hst : safSt t = 3 := (hr.get (by simp)).trans h
  have hf (f : RegField) (h4 : 4 ≤ f.lo) : t.get f = u.get f := ht ▸ get_soOff (.inr h4) _ u
  have hpil : u.get Fd.SAF_OUT_PILOT = 2 := hu ▸ pilotDemand_pilot (by omega) _
  have hgate (f : RegField) (hne : f = Fd.SAF_OUT_GOFFA ∨ f = Fd.SAF_OUT_GOFFB) : u.get f = 1 := by
    rw [hu]
    unfold pilotDemand
    rcases hne with rfl | rfl <;> split <;> simp [gateAssert, raise, lower]
  have e : allOffOutputs s = ({ t with saf := { t.saf with outWait := false, close := none } } : State).put Fd.SAF_OUT_LOWSIDE 0 := by
    have hst' : safSt { t with saf := { t.saf with outWait := false, close := none } } = 3 := hst
    rw [allOffOutputs, ← hu, ← ht, lowSides, hst', if_pos rfl, Nat.zero_and]
  rw [e]
  refine ⟨?_, by simp, ?_, ?_, ?_, by simpa using hr⟩
  · rw [get_put_other _ _ _ _ (by simp), get_mk, fieldOf_regs, ht]
    exact get_so_soOff u
  · simp [on, hf, hgate]
  · simp [on, hf, hgate]
  · simp [hf, hpil]

/-- The Signal Box all off (R239). -/
theorem allOff_spec (s : State) : safSt (allOff s) = 3 ∧ causeOn (allOff s) 20 = true ∧ (allOff s).get Fd.SAF_OUT_SO = 0 ∧ (allOff s).get Fd.SAF_OUT_LOWSIDE = 0 ∧
    (allOff s).on Fd.SAF_OUT_GOFFA = true ∧ (allOff s).on Fd.SAF_OUT_GOFFB = true ∧ (allOff s).get Fd.SAF_OUT_PILOT = 2 ∧ RegsBut causeRegs s (allOff s) := by
  obtain ⟨t, ht⟩ : ∃ t, t = safLatch 20 true (s.putBit Reg.SAF_CAUSE 20 true) := ⟨_, rfl⟩
  obtain ⟨u, hu⟩ : ∃ u, u = if safSt s = 0 then (t.put Fd.SAF_FIRST_CAUSE 20).bump Fd.SAF_CNT_STOPS else t := ⟨_, rfl⟩
  have e : allOff s = allOffOutputs (safEnter 3 u) := by
    rw [hu, ht]
    rfl
  have htr : RegsBut causeRegs s t := ht ▸ RegsBut.trans (by simp [causeRegs]) ((safLatch_regsBut 20 true _).mono (by simp [causeRegs]))
  have htc : causeOn t 20 = true := by
    rw [ht, causeOn_of_regs (safLatch_regsBut 20 true _) (by simp), causeOn_putBit (by omega), if_pos rfl]
  have hutr : RegsBut [Reg.SAF_FIRST, Reg.SAF_CNT] t u := hu ▸ .ite (by simp) (.refl _ t)
  have henter := safEnter_regsBut 3 u
  have hur : RegsBut causeRegs s (safEnter 3 u) := (htr.trans (hutr.mono (by simp [causeRegs]))).trans (henter.mono (by simp [causeRegs]))
  have huc : causeOn (safEnter 3 u) 20 = true := by rw [causeOn_of_regs henter (by simp), causeOn_of_regs hutr (by simp), htc]
  obtain ⟨h1, h2, h3, h4, h5, h6⟩ := allOffOutputs_spec (safSt_safEnter (n := 3) (by omega) u)
  rw [e]
  exact ⟨(h6.get (by simp)).trans (safSt_safEnter (by omega) u), (causeOn_of_regs h6 (by simp) 20).trans huc, h1, h2, h3, h4, h5,
    hur.trans (h6.mono (by simp [causeRegs]))⟩

/-- The Signal Box held for lockstep (R239, R644). -/
theorem holdSignalBox_spec (s : State) : (holdSignalBox s).held .signalBox = true ∧
    safSt (holdSignalBox s) = 3 ∧ causeOn (holdSignalBox s) 20 = true ∧ (holdSignalBox s).get Fd.SAF_OUT_SO = 0 ∧ (holdSignalBox s).get Fd.SAF_OUT_LOWSIDE = 0 ∧
    (holdSignalBox s).on Fd.SAF_OUT_GOFFA = true ∧ (holdSignalBox s).on Fd.SAF_OUT_GOFFB = true ∧ (holdSignalBox s).get Fd.SAF_OUT_PILOT = 2 ∧
      RegsBut ([Reg.SYS_FLT, Reg.SYS_FLTCNT 2, Reg.CLK_ISL 2] ++ xingStats ++ causeRegs) s (holdSignalBox s) := by
  obtain ⟨t, ht⟩ : ∃ t, t = ({ flushIsland .signalBox s with x03 := [], x04 := [], x09 := [], x19 := [] } : State) := ⟨_, rfl⟩
  have e : holdSignalBox s = heldShow .signalBox true (allOff t) := by rw [ht]; rfl
  have htr : RegsBut (Reg.SYS_FLTCNT 2 :: xingStats) s t := ht ▸ (flushIsland_regsBut .signalBox s).same rfl
  obtain ⟨h1, h2, h3, h4, h5, h6, h7, h8⟩ := allOff_spec t
  have hs : RegsBut [Reg.SYS_FLT, Reg.CLK_ISL 2] (allOff t) (heldShow .signalBox true (allOff t)) := by
    have hc : Reg.CLK_ISL 2 = Reg.CLK_ISL Island.signalBox.num := rfl
    rw [hc]
    exact ((RegsBut.refl _ _).putBit (by simp)).put (by simp)
  have hne (a : Nat) (ha : a ∈ [Reg.SAF_STAT, Reg.SAF_CAUSE, Reg.SAF_OUT]) : a ∉ [Reg.SYS_FLT, Reg.CLK_ISL 2] := by
    revert a
    decide
  rw [e]
  refine ⟨?_, (hs.get (hne _ (by simp))).trans h1, (causeOn_of_regs hs (hne _ (by simp)) 20).trans h2, (hs.get (hne _ (by simp))).trans h3,
    (hs.get (hne _ (by simp))).trans h4, (hs.on (hne _ (by simp))).trans h5, (hs.on (hne _ (by simp))).trans h6, (hs.get (hne _ (by simp))).trans h7, ?_⟩
  · rw [held, heldShow, bitOf_put _ _ _ _ _ (by simp), if_neg (by grind), bitOf_putBit _ _ _ _ _ _ (by decide), if_pos ⟨rfl, rfl⟩]
  · refine ((htr.mono ?_).trans (h8.mono (List.subset_append_right _ _))).trans (hs.mono ?_)
    · intro x hx
      simp only [List.mem_append, List.mem_cons] at hx ⊢
      grind
    · intro x hx
      simp only [List.mem_append, List.mem_cons, List.not_mem_nil, or_false] at hx ⊢
      grind

/-- SAF_STAT's fields above STATE are left by a change of state. -/
theorem get_safEnter_stat {lo w n : Nat} (h : 2 ≤ lo) (s : State) : (safEnter n s).get ⟨Reg.SAF_STAT, lo, w⟩ = s.get ⟨Reg.SAF_STAT, lo, w⟩ := by
  unfold safEnter
  split
  · rfl
  · rw [raise, get_put_of_apart _ _ (.inl (by simp)), get_put_of_apart _ _ (.inr (.inl (by simpa using h)))]

theorem get_causeSet_stat {lo w n : Nat} (h : 2 ≤ lo) (s : State) : (causeSet n s).get ⟨Reg.SAF_STAT, lo, w⟩ = s.get ⟨Reg.SAF_STAT, lo, w⟩ := by
  have hshow : (causeShow n s).get ⟨Reg.SAF_STAT, lo, w⟩ = s.get ⟨Reg.SAF_STAT, lo, w⟩ := (causeShow_regsBut n s).get (by simp)
  have hel (b : Bool) (u : State) : (stopElements b u).get ⟨Reg.SAF_STAT, lo, w⟩ = u.get ⟨Reg.SAF_STAT, lo, w⟩ := get_stopElements (by simp) (by simp) b u
  have hstop (u : State) : (stopReaction n u).get ⟨Reg.SAF_STAT, lo, w⟩ = u.get ⟨Reg.SAF_STAT, lo, w⟩ := by
    unfold stopReaction
    split
    · exact (hel _ _).trans (by simp [bump, get_safEnter_stat h])
    · split
      · exact (hel _ _).trans (get_safEnter_stat h u)
      · rfl
  by_cases hon : causeOn s n = true
  · rw [causeSet_of_on hon]
  · have hoff := Bool.not_eq_true _ ▸ hon
    by_cases h19 : n = 19
    · subst h19
      rw [causeSet_stuck hoff, hshow]
    · rw [causeSet_of_off hoff h19, hstop, hshow]

end AllOff

section Reset

variable {s : State}

theorem contactorsOff_stopReport (s : State) : contactorsOff s = stopReport (contactorOn s) (stopCommands s) := by
  unfold contactorsOff stopCommands relayOff
  cases relaySo s <;> rfl

theorem stopCommands_x03 (s : State) : (stopCommands s).x03 = s.x03 := by
  have h : (soOff (contactorMask s).testBit s).x03 = s.x03 := (soOff_within _ s).same .x03 (by simp)
  unfold stopCommands relayOff
  split
  · split
    · exact h
    · exact h
  · exact h

theorem stopCommands_trip (s : State) : (stopCommands s).saf.trip = s.saf.trip :=
  stopBase_field SafState.trip (fun _ => rfl) ((soOff_keeps _ s).trans (relayOff_keeps (fun _ => relaySo_lt) _ _)).saf

/-- The outputs off, without a trip path test that waits (R243). -/
theorem contactorsOff_reports (h : s.saf.trip.wanted = false) : (contactorsOff s).saf.outWait = false ∧ (contactorsOff s).saf.close = none ∧
    (contactorsOff s).x03 = s.x03 ++ [.opened] := by
  rw [contactorsOff_stopReport, stopReport]
  have hw : (stopCommands s).saf.trip.wanted = false := by rw [stopCommands_trip, h]
  dsimp only
  rw [if_neg (by simpa [report] using hw), report, stopCommands_x03]
  exact ⟨rfl, rfl, rfl⟩

/-- A reset with a set confirmed has no effect beyond the release (R256). -/
theorem execSafeResetRelease_of_confirmed {a b c : Nat} (h : causeOn s 17 = false) : execSafeResetRelease a b c s = .next (resetRelease a b c s) := by
  simp [execSafeResetRelease, unconfirmed, h]

/-- A press shorter than 100 ms is ignored (R255). -/
theorem resetRelease_of_short {a b c : Nat} (h : a < 100) : resetRelease a b c s = s.lower Fd.SAF_IN_RST := by
  rw [resetRelease, if_neg (by omega), if_pos (.inl h)]

/-- The stop reaction ends (R256): back in run, no pilot state demanded, and the end reported. -/
theorem settle_ends (hs : safSt s = 1 ∨ safSt s = 2) (hp : presentCauses s = 0) (hl : s.get Fd.SAF_LATCH_LATCHED = 0) (hh : s.saf.hold = false)
    (hn : s.saf.needRst = false) : safSt (settle s) = 0 ∧ (settle s).get Fd.SAF_OUT_PILOT = 0 ∧ (settle s).x03 = s.x03 ++ [.ended] := by
  have hold : settleHold s = s := if_neg (by simp [hh])
  obtain ⟨u, hu⟩ : ∃ u, u = (safEnter 0 (s.putB Fd.SAF_STAT_RSTREADY (settleReady s))).lower Fd.SAF_STAT_RSTREADY := ⟨_, rfl⟩
  have hst : safSt (s.putB Fd.SAF_STAT_RSTREADY (settleReady s)) = safSt s := by simp [safSt, putB]
  have e : settle s = report .ended (lowSides (pilotDemand 0 u)) := by
    rw [settle_eq, hold, settleEnd]
    rw [if_pos ⟨by rwa [hst], by simp [hp], by simpa [putB] using hl, by simpa using hh, by simpa using hn⟩, hu]
  have hu0 : safSt u = 0 := by
    have h0 := safSt_safEnter (n := 0) (by omega) (s.putB Fd.SAF_STAT_RSTREADY (settleReady s))
    rw [hu]
    simpa [safSt, lower] using h0
  have hux : u.x03 = s.x03 := by
    rw [hu]
    exact (safEnter_within 0 _).same .x03 (by simp)
  have hpx : (pilotDemand 0 u).x03 = u.x03 := (pilotDemand_within 0 u).same .x03 (by simp)
  rw [e]
  refine ⟨?_, ?_, ?_⟩
  · have hr : RegsBut [Reg.SAF_OUT] u (lowSides (pilotDemand 0 u)) := (pilotDemand_regsBut 0 u).trans (.put (.refl _ _) (by simp))
    exact (hr.get (by simp)).trans hu0
  · have hg : (lowSides (pilotDemand 0 u)).get Fd.SAF_OUT_PILOT = (pilotDemand 0 u).get Fd.SAF_OUT_PILOT := get_put_other _ _ _ _ (by simp)
    exact hg.trans (pilotDemand_pilot (by omega) u)
  · exact congrArg (· ++ [SafReport.ended]) (hpx.trans hux)

/-- With only the emergency stop latched and no cause present, a reset clears it alone (R256). -/
theorem clearCauses_estop (hl : s.get Fd.SAF_LATCH_LATCHED = 1) (hc : s.get Fd.SAF_CAUSE_ACTIVE = 0) : clearCauses 0 s = safLatch 0 false s := by
  have h : clearable s = [0] := by
    simp only [clearable, causeLatched, causeOn, hl, hc, classB]
    simp [(by decide : ∀ i, i < 22 → i ≠ 0 → Nat.testBit 1 i = false)]
  simp [clearCauses, h]

theorem latched_safLatch (hl : s.get Fd.SAF_LATCH_LATCHED = 1) : (safLatch 0 false s).get Fd.SAF_LATCH_LATCHED = 0 := by
  apply Nat.eq_of_testBit_eq
  intro i
  have h := causeLatched_safLatch (n := 0) (by omega) false s i
  rw [causeLatched, causeLatched, hl] at h
  rw [h, Nat.zero_testBit]
  split
  · rfl
  · next hi => exact Nat.testBit_two_pow_of_ne (n := 0) (Ne.symm hi)

/-- A release with all causes ended and the emergency stop latched (R256). -/
theorem resetRelease_estop (hl : s.get Fd.SAF_LATCH_LATCHED = 1) (hc : s.get Fd.SAF_CAUSE_ACTIVE = 0) (hh : s.saf.hold = false)
    (hn : s.saf.needRst = false) : ∃ v, resetRelease 100 0 0 s = settle (safLatch 0 false v) ∧ RegsBut [Reg.SAF_IN, Reg.SAF_CNT] s v ∧ v.saf.hold = false ∧
      v.saf.needRst = false ∧ v.x03 = s.x03 := by
  obtain ⟨u, hu⟩ : ∃ u, u = (s.lower Fd.SAF_IN_RST).bump Fd.SAF_CNT_RESETS := ⟨_, rfl⟩
  have hr : RegsBut [Reg.SAF_IN, Reg.SAF_CNT] s u := by simp [hu]
  have hus : u.saf = s.saf := by rw [hu]; rfl
  have hux : u.x03 = s.x03 := by rw [hu]; rfl
  have hlu : u.get Fd.SAF_LATCH_LATCHED = 1 := (hr.get (by simp)).trans hl
  have hcu : u.get Fd.SAF_CAUSE_ACTIVE = 0 := (hr.get (by simp)).trans hc
  have hon (n : Nat) : causeOn (s.lower Fd.SAF_IN_RST) n = false := by simp [causeOn, lower, hc]
  have hblock : classC.any (causeLatched u) = false := by simp [classC, causeLatched, hlu, (by decide : ∀ i, i < 22 → i ≠ 0 → Nat.testBit 1 i = false)]
  refine ⟨{ u with saf := { u.saf with needRst := u.saf.needRst && !(!u.saf.hold) } }, ?_, hr.same rfl, hus ▸ hh, ?_, hux⟩
  · rw [resetRelease, if_neg (by omega), if_neg (by simp [hon]), if_neg (by simp [hon]), if_neg (by simp [unconfirmed, hon]), if_neg (by simp [hon]), ← hu]
    dsimp only
    rw [if_neg (by simp [hblock])]
    exact congrArg settle (clearCauses_estop (s := { u with saf := { u.saf with needRst := u.saf.needRst && !(!u.saf.hold) } }) hlu hcu)
  · rw [hus, hn]
    rfl

end Reset

/-- Settles O22: the outputs off, a reset, a hold and a seal each by its own lemma. -/
theorem safetyReactions : Obligations.SafetyReactions := by
  unfold Obligations.SafetyReactions
  refine ⟨fun s hh ho hw => ?_, fun s a b c h17 h18 h19 h20 hl h1 h2 => ?_, fun s a b c h => ?_, fun s hs hl hc hh hn hp => ?_, fun s hh => ?_,
    fun s v hm hc hv hne h18 => ?_, fun s v hm hv => ?_, fun s hh => ?_, fun s src epoch w hh => ?_⟩
  · obtain ⟨h1, h2, h3⟩ := contactorsOff_reports hw
    refine Answers.mk ((awake_of_not_held hh).trans (congrArg Host.Outcome.next (if_pos ho))) (execContactorDelayExpiry_answers s) fun hw => ?_
    exact ⟨contactorOn_contactorsOff s, h1, h2, h3, (contactorsOff_keeps s).regs, hw.sub rfl⟩
  · have hon (n : Nat) : causeOn (s.lower Fd.SAF_IN_RST) n = causeOn s n := by simp [causeOn, lower]
    have hla (n : Nat) : causeLatched ((s.lower Fd.SAF_IN_RST).bump Fd.SAF_CNT_RESETS) n = causeLatched s n := by simp [causeLatched, lower, bump]
    have e : resetRelease a b c s = (s.lower Fd.SAF_IN_RST).bump Fd.SAF_CNT_RESETS := by
      rw [resetRelease, if_neg (by omega), if_neg (by simp [hon, h19]; omega), if_neg (by simp [hon, h20]), if_neg (by simp [unconfirmed, hon, h17]),
        if_neg (by simp [hon, h18])]
      exact if_pos ((congrArg classC.any (funext hla)).trans hl)
    refine ⟨_, (execSafeResetRelease_of_confirmed h17).trans (congrArg _ e), ?_, ?_, ?_, ?_, by simp, ((Within.refl _ s).lower rfl).bump rfl⟩
    · simp [on, lower, bump]
    · simp [lower, bump, Bits.satAdd]
    · simp [safSt, lower, bump]
    · simp [lower, bump]
  · have e : execSafeResetRelease a b c s = .next (s.lower Fd.SAF_IN_RST) := by
      have hs := resetRelease_of_short (s := s) (b := b) (c := c) h
      have hu : unconfirmed (s.lower Fd.SAF_IN_RST) = unconfirmed s := by simp [unconfirmed, causeOn, lower]
      simp [execSafeResetRelease, hs, hu]
    exact ⟨_, e, by simp [on, lower], by simp, (Within.refl _ s).lower rfl⟩
  · obtain ⟨v, e, hr, hh', hn', hx⟩ := resetRelease_estop hl hc hh hn
    have h17 : causeOn s 17 = false := by simp [causeOn, hc]
    have hl' : v.get Fd.SAF_LATCH_LATCHED = 1 := (hr.get (by simp)).trans hl
    have hlatch := safLatch_regsBut 0 false v
    have hk := (safLatch_keeps 0 false v).saf
    have hw' := safLatch_within 0 false v
    have hsaf : (safLatch 0 false v).saf = v.saf := hw'.same .saf (by simp)
    have hp : presentCauses (safLatch 0 false v) = 0 := by rw [presentCauses, hlatch.get (by simp), hr.get (by simp), hc, Nat.zero_and]
    obtain ⟨h1, h2, h3⟩ := settle_ends (s := safLatch 0 false v) (.inl ((hlatch.get (by simp)).trans ((hr.get (by simp)).trans hs))) hp (latched_safLatch hl')
      (by rw [hsaf, hh']) (by rw [hsaf, hn'])
    refine Answers.mk ((execSafeResetRelease_of_confirmed h17).trans (congrArg _ e)) (execSafeResetRelease_answers 100 0 0 s) fun hw => ⟨h1, ?_, h2, ?_, ?_, hw⟩
    · rw [(settle_regsBut _).get (by simp), latched_safLatch hl']
    · rw [h3, hw'.same .x03 (by simp), hx]
    · exact ((hr.mono (by simp)).trans (hlatch.mono (by simp))).trans ((settle_regsBut _).mono (by simp))
  · obtain ⟨h1, h2, h3, h4, h5, h6, h7, h8, h9⟩ := holdSignalBox_spec (faultNote 3 .signalBox 4 s)
    have e : execLockstepFault s = .next (holdSignalBox (faultNote 3 .signalBox 4 s)) := congrArg Host.Outcome.next (if_neg (by simp [hh]))
    refine ⟨_, e, h2, h3, h4, h5, h6, h7, h8, h1, ?_, ((faultNote_within _ _ _ s).sub rfl).comp (holdSignalBox_within _) rfl⟩
    refine ((faultNote_regsBut 3 .signalBox 4 s).mono ?_).trans (h9.mono ?_)
    · simp
    · intro x hx
      simp only [List.mem_append, List.mem_cons, List.not_mem_nil, or_false] at hx ⊢
      rcases hx with (hx | hx) | hx
      · grind
      · exact .inl (.inr hx)
      · exact .inr hx
  · have hcause : causeOn ((s.put Fd.SAF_IN_SEAL v).put Fd.SAF_STAT_SEAL v) 18 = false := by simpa [causeOn] using h18
    have h10 : v % 16 ≠ 10 := by omega
    refine Answers.mk (congrArg Host.Outcome.next (if_pos (by simp [hm, hc, h10]))) (execSealChange_answers v s) fun hw => ?_
    have hk := causeSet_keeps 18 ((s.put Fd.SAF_IN_SEAL v).put Fd.SAF_STAT_SEAL v)
    refine ⟨?_, ?_, (causeOn_causeSet (by omega) _ 18).trans (by simp), causeLatched_causeSet hcause (by omega) (by decide), ?_, hw⟩
    · rw [hk.regs.get (by simp [causeRegs])]
      simpa using hv
    · rw [get_causeSet_stat (by omega)]
      simpa using hv
    · exact RegsBut.trans (by simp [causeRegs]) (hk.regs.mono (List.subset_cons_self _ _))
  · refine ⟨_, congrArg Host.Outcome.next (if_neg (by simp [hm])), by simpa using hv, by simpa using hv, by simp, ((Within.refl _ s).put rfl).put rfl⟩
  · exact ⟨_, awake_of_not_held hh, rfl, (RegsBut.refl [] s).same rfl, Within.upd_saf s _⟩
  · exact ⟨_, awake_of_not_held hh, by simp [seedOf, takeSeed], rfl, (RegsBut.refl [] s).same rfl, Within.upd_saf s _⟩

end Sys2Proof.Machine
end

section
/-!
Requests to close and to open contactors, their feedback, and welding (spec/08_earth_fault_trip_switching.md R292 to R296).
-/
namespace Sys2Proof.Machine

open State

section Close

variable {s t : State} {n outs r : Nat}

theorem closeReason_lt (h : closeReason s outs = some r) : r < 256 := by
  unfold closeReason at h
  repeat' split at h
  all_goals cases h
  all_goals decide

theorem blockingCause_congr {l : List Nat} (h : RegsBut l s t) (hc : Reg.SAF_CAUSE ∉ l) (hl : Reg.SAF_LATCH ∉ l) : blockingCause t = blockingCause s := by
  have hf (n : Nat) : (causeOn t n || causeLatched t n) = (causeOn s n || causeLatched s n) := by
    rw [causeOn_of_regs h hc, causeLatched_of_regs h hl]
  simp only [blockingCause, hf]

theorem closeRefuse_spec (hr : r < 256) (s : State) : (closeRefuse r s).get Fd.SWC_REFUSE_REASON = r ∧ (closeRefuse r s).on Fd.SWC_EVT_REFUSED = true ∧
    (closeRefuse r s).x03 = s.x03 ++ [.refused r (blockingCause s)] ∧ RegsBut [Reg.SWC_EVT, Reg.SWC_REFUSE] s (closeRefuse r s) ∧
      Within [.regs, .x03] s (closeRefuse r s) := by
  refine ⟨by simpa [closeRefuse, report] using hr, by simp [closeRefuse, report, on, raise], rfl, by simp [closeRefuse, report], closeRefuse_within r s⟩

/-- The outputs of a request switched on, each counted (R293). -/
def closeOuts (outs : Nat) (s : State) : State := upTo 4 (fun n u => if outs.testBit n then setSo n true (u.bumpReg (Reg.SWC_CYC n)) else u) s

/-- The registers of the close commands and their counts. -/
def closeRegs : List Nat := [Reg.SAF_OUT, Reg.SWC_STAT, Reg.SWC_CYC 0, Reg.SWC_CYC 1, Reg.SWC_CYC 2, Reg.SWC_CYC 3]

theorem closeOuts_regsBut (outs : Nat) (s : State) : RegsBut closeRegs s (closeOuts outs s) :=
  upTo_regsBut 4 (fun i hi u => by
    have hm : Reg.SWC_CYC i ∈ closeRegs := by
      have h4 : ∀ i, i < 4 → Reg.SWC_CYC i ∈ closeRegs := by decide
      exact h4 i hi
    exact .ite (((RegsBut.refl _ u).bumpReg hm).trans ((setSo_regsBut i true _).mono (by simp [closeRegs]))) (.refl _ u)) s

theorem closeOuts_within (outs : Nat) (s : State) : Within [.regs] s (closeOuts outs s) :=
  Within.upTo (fun i v => .ite (((Within.refl _ v).bumpReg rfl).comp (setSo_within i true _) rfl) (.refl _ v)) s

/-- What one round of a counted loop does, with what comes before it and after it kept. -/
theorem upTo_once {k : Nat} {f : Nat → State → State} {P Q : State → Prop} {i : Nat} (hi : i < k) (hQ : ∀ j, j ≠ i → ∀ u, Q u → Q (f j u))
    (hf : ∀ u, Q u → P (f i u)) (hP : ∀ j, j ≠ i → ∀ u, P u → P (f j u)) (h : Q s) : P (upTo k f s) := by
  have key (k : Nat) : (k ≤ i → Q (upTo k f s)) ∧ (i < k → P (upTo k f s)) := by
    induction k with
    | zero => exact ⟨fun _ => h, fun h0 => absurd h0 (by omega)⟩
    | succ k ih =>
      have e : upTo (k + 1) f s = f k (upTo k f s) := by simp [upTo, List.range_succ]
      rw [e]
      refine ⟨fun hk => hQ k (by omega) _ (ih.1 (by omega)), fun hk => ?_⟩
      by_cases hki : k = i
      · subst hki
        exact hf _ (ih.1 (by omega))
      · exact hP k hki _ (ih.2 (by omega))
  exact (key k).2 hi

/-- An output of the request is on afterwards, and counted once (R293). -/
theorem closeOuts_spec (hn : n < 4) (ho : outs.testBit n = true) (s : State) : (closeOuts outs s).bitOf Reg.SAF_OUT n = true ∧
    (closeOuts outs s).regN (Reg.SWC_CYC n) = min (s.regN (Reg.SWC_CYC n) + 1) (2 ^ 32 - 1) := by
  have hcyc (j : Nat) (b : Bool) (u : State) : (setSo j b u).regN (Reg.SWC_CYC n) = u.regN (Reg.SWC_CYC n) :=
    (setSo_regsBut j b u).regN (by simp only [List.mem_cons, List.not_mem_nil, or_false, not_or]; constructor <;> grind)
  have hbit (j : Nat) (u : State) : (u.bumpReg (Reg.SWC_CYC j)).bitOf Reg.SAF_OUT n = u.bitOf Reg.SAF_OUT n :=
    ((RegsBut.refl [Reg.SWC_CYC j] u).bumpReg (by simp)).bitOf (by grind)
  refine upTo_once (P := fun u => u.bitOf Reg.SAF_OUT n = true ∧ u.regN (Reg.SWC_CYC n) = min (s.regN (Reg.SWC_CYC n) + 1) (2 ^ 32 - 1))
    (Q := fun u => u.regN (Reg.SWC_CYC n) = s.regN (Reg.SWC_CYC n)) hn (fun j hj u hu => ?_) (fun u hu => ?_) (fun j hj u hu => ?_) rfl
  · split
    · rw [hcyc, bumpReg, regN_setRegN_other _ _ _ _ (by grind), hu]
    · exact hu
  · rw [if_pos ho]
    refine ⟨by rw [bitOf_setSo hn, if_pos rfl], ?_⟩
    rw [hcyc, bumpReg, regN_setRegN_same, hu, Bits.satAdd]
    omega
  · split
    · rw [bitOf_setSo_of_ne _ (Ne.symm hj), hcyc, hbit, bumpReg, regN_setRegN_other _ _ _ _ (by grind)]
      exact hu
    · exact hu

/-- A close request granted (R293). -/
theorem closeGrant_of_none {rel : Bool} (h : s.saf.close = none) : closeGrant outs rel s =
    { closeOuts outs s with saf := { s.saf with close := some (outs, rel), outWait := false, imd := { s.saf.imd with dirty := true } } } := by
  have hs : (closeOuts outs s).saf = s.saf := (closeOuts_within outs s).same .saf (by simp)
  have e : closeGrant outs rel s = { closeOuts outs s with
      saf := { (closeOuts outs s).saf with close := some (outs, rel), outWait := false, imd := { (closeOuts outs s).saf.imd with dirty := true } } } := by
    rw [closeGrant, h]
    rfl
  rw [e, hs]

/-- A close whose contactors all show closed (R293): reported, and the gate released where the request asks for it. -/
theorem closeDone_of_closed (hc : s.saf.close = some (outs, true)) (hd : s.saf.fbDis = 0)
    (ha : ((List.range 4).all fun n => !outs.testBit n || fbClosed s n) = true) (hs : safSt s = 0) (hz : s.get Fd.SAF_CAUSE_ACTIVE = 0)
    (hA : s.on Fd.EFT_STAT_TRIPA = false) (hB : s.on Fd.EFT_STAT_TRIPB = false) : closeDone s = report .closed
      (((({ s with saf := { s.saf with close := none } } : State).lower Fd.SAF_OUT_GOFFA).lower Fd.SAF_OUT_GOFFB).raise Fd.SWC_STAT_GATEREL) := by
  have hall : ((List.range 4).all fun n => !outs.testBit n || (fbClosed s n && !s.saf.fbDis.testBit n)) = true := by simpa [hd] using ha
  have hp : presentCauses s = 0 := by rw [presentCauses, hz, Nat.zero_and]
  rw [closeDone, hc]
  dsimp only
  rw [if_pos hall, if_pos (by simp [hs, hp, hA, hB])]

/-- A close whose contactors do not all show closed (R293): the outputs off again, and refused. -/
def closeFailed (outs : Nat) (s : State) : State :=
  let t := soOff outs.testBit (s.raise Fd.SWC_EVT_NOCLOSE)
  let t := if contactorOn t then t else gateAssert t
  closeRefuse 9 { t with saf := { t.saf with imd := { t.saf.imd with dirty := true } } }

theorem closeDone_of_open {rel : Bool} (hc : s.saf.close = some (outs, rel)) (hn : n < 4) (ho : outs.testBit n = true) (hf : fbClosed s n = false) :
    closeDone s = closeFailed outs { s with saf := { s.saf with close := none } } := by
  have hall : ((List.range 4).all fun n => !outs.testBit n || (fbClosed s n && !s.saf.fbDis.testBit n)) = false :=
    List.all_eq_false.2 ⟨n, List.mem_range.2 hn, by simp [ho, hf]⟩
  rw [closeDone, hc]
  dsimp only
  rw [if_neg (by rw [hall]; decide)]
  rfl

theorem closeFailed_spec (hn : n < 4) (ho : outs.testBit n = true) (s : State) : (closeFailed outs s).saf.close = s.saf.close ∧
    (closeFailed outs s).on Fd.SWC_EVT_NOCLOSE = true ∧ (closeFailed outs s).get Fd.SWC_REFUSE_REASON = 9 ∧ (closeFailed outs s).bitOf Reg.SAF_OUT n = false ∧
      (closeFailed outs s).x03 = s.x03 ++ [.refused 9 (blockingCause s)] ∧
        RegsBut [Reg.SWC_EVT, Reg.SWC_REFUSE, Reg.SAF_OUT, Reg.SWC_STAT] s (closeFailed outs s) ∧ Within [.regs, .saf, .x03] s (closeFailed outs s) := by
  obtain ⟨t, ht⟩ : ∃ t, t = soOff outs.testBit (s.raise Fd.SWC_EVT_NOCLOSE) := ⟨_, rfl⟩
  obtain ⟨u, hu⟩ : ∃ u, u = if contactorOn t then t else gateAssert t := ⟨_, rfl⟩
  have htr : RegsBut [Reg.SWC_EVT, Reg.SAF_OUT, Reg.SWC_STAT] s t := ht ▸ RegsBut.trans (by simp) ((soOff_regsBut _ _).mono (by simp))
  have hk : StopKeeps t u := by
    rw [hu]
    split
    · exact ⟨.refl _ t, fun _ _ h => h, rfl, rfl⟩
    · exact gateAssert_keeps t
  have htw : Within [.regs] s t := ht ▸ ((Within.refl _ s).raise rfl).comp (soOff_within _ _) rfl
  have huw : Within [.regs] t u := hu ▸ .ite (.refl _ t) (gateAssert_within t)
  have hb : t.bitOf Reg.SAF_OUT n = false := ht ▸ bitOf_soOff_of_mem hn ho _
  have hevt : u.get Fd.SWC_EVT_NOCLOSE = 1 := by
    rw [hk.regs.get (by simp), ht, get_soOff (.inl (by simp))]
    simp [raise]
  have hur : RegsBut [Reg.SWC_EVT, Reg.SAF_OUT, Reg.SWC_STAT] s u := htr.trans (hk.regs.mono (by simp))
  obtain ⟨h1, h2, h3, h4, h5⟩ := closeRefuse_spec (r := 9) (by omega) { u with saf := { u.saf with imd := { u.saf.imd with dirty := true } } }
  have e : closeFailed outs s = closeRefuse 9 { u with saf := { u.saf with imd := { u.saf.imd with dirty := true } } } := by rw [hu, ht]; rfl
  have hblock : blockingCause { u with saf := { u.saf with imd := { u.saf.imd with dirty := true } } } = blockingCause s :=
    blockingCause_congr (t := u) hur (by simp) (by simp)
  have hsaf : u.saf.close = s.saf.close := by rw [huw.same .saf (by simp), htw.same .saf (by simp)]
  rw [e]
  refine ⟨?_, ?_, h1, ?_, ?_, ?_, ?_⟩
  · rw [h5.same .saf (by simp)]
    exact hsaf
  · simp [closeRefuse, report, on, raise, hevt]
  · rw [h4.bitOf (by simp)]
    exact hk.off n hn hb
  · rw [h3, hblock]
    exact congrArg (· ++ _) ((huw.same .x03 (by simp)).trans (htw.same .x03 (by simp)))
  · exact (RegsBut.mono hur (by simp)).trans ((h4.mono (by simp)).same rfl)
  · exact (((htw.trans huw).sub rfl).comp (Within.upd_saf u _) rfl).comp h5 rfl

end Close

section Feedback

variable {s t : State} {n : Nat}

theorem gateAssert_shows (s : State) : (gateAssert s).on Fd.SAF_OUT_GOFFA = true ∧ (gateAssert s).on Fd.SAF_OUT_GOFFB = true ∧
    (gateAssert s).on Fd.SWC_STAT_GATEREL = false := by simp [on, gateAssert, raise, lower]

/-- Contactors opened (R294): what an open request leaves. -/
theorem openContactors_spec (s : State) : (openContactors s).saf.close = none ∧ (openContactors s).on Fd.SAF_OUT_GOFFA = true ∧
    (openContactors s).on Fd.SAF_OUT_GOFFB = true ∧ (openContactors s).on Fd.SWC_STAT_GATEREL = false ∧
      (s.parN Par.CONT_DELAY ≠ 0 → (openContactors s).saf.outWait = true) ∧ (s.parN Par.CONT_DELAY = 0 → contactorOn (openContactors s) = false) ∧
        RegsBut [Reg.SAF_OUT, Reg.SWC_STAT] s (openContactors s) := by
  obtain ⟨u, hu⟩ : ∃ u, u = ({ gateAssert s with saf := { s.saf with close := none } } : State) := ⟨_, rfl⟩
  have e : openContactors s = contactorsLater u := by rw [hu]; rfl
  have hclose : u.saf.close = none := by rw [hu]
  have hur : RegsBut [Reg.SAF_OUT, Reg.SWC_STAT] s u := hu ▸ (gateAssert_keeps s).regs.same rfl
  have hpar : u.parN Par.CONT_DELAY = s.parN Par.CONT_DELAY := by rw [hu]; rfl
  obtain ⟨g1, g2, g3⟩ := gateAssert_shows s
  have hf (f : RegField) (h4 : 4 ≤ f.lo) : (contactorsLater u).on f = (gateAssert s).on f := by
    rw [on, get_contactorsLater (.inr h4), hu]
    rfl
  rw [e]
  refine ⟨?_, (hf _ (by simp)).trans g1, (hf _ (by simp)).trans g2, (hf _ (by simp)).trans g3, fun h => ?_, fun h => ?_, hur.trans (contactorsLater_keeps u).regs⟩
  · unfold contactorsLater
    split
    · obtain ⟨d, x, e⟩ := contactorsOff_eq u
      rw [e]
    · exact hclose
  · rw [contactorsLater, if_neg (by rw [hpar]; exact h)]
  · rw [contactorsLater, if_pos (by rw [hpar]; exact h)]
    exact contactorOn_contactorsOff u

theorem fbAllRight_of_wrong (hn : n < 4) (hm : (contactorMask s).testBit n = true) (hw : fbRight s n = false) : fbAllRight s = false := by
  have h : ((List.range 4).all fun n => !(contactorMask s).testBit n || fbRight s n) = false :=
    List.all_eq_false.2 ⟨n, List.mem_range.2 hn, by simp [hm, hw]⟩
  rw [fbAllRight, h, Bool.false_and]

/-- The feedback faults as they stand (R295). -/
def fbBadNow (s : State) : Nat := if fbAllRight s then 0 else s.saf.fbBad ||| s.saf.fbDis

/-- The feedback faults shown. -/
def fbShow (s : State) : State := ({ s with saf := { s.saf with fbBad := fbBadNow s } } : State).put Fd.SWC_STAT_FBERR (fbBadNow s)

theorem fbJudge_eq (s : State) : fbJudge s = causeFollow 7 (fbBadNow s != 0 || s.saf.weldCond) (fbShow s) := rfl

/-- Feedback wrong at an output, or a weld, sets cause 7 (R295, R296). -/
theorem fbJudge_sets (h : fbBadNow s ≠ 0 ∨ s.saf.weldCond = true) : fbJudge s = causeSet 7 (fbShow s) := by
  have hb : (fbBadNow s != 0 || s.saf.weldCond) = true := by simpa using h
  rw [fbJudge_eq, hb]
  rfl

theorem fbBadNow_of_wrong (hn : n < 4) (hm : (contactorMask s).testBit n = true) (hw : fbRight s n = false) : fbBadNow s = s.saf.fbBad ||| s.saf.fbDis := by
  rw [fbBadNow, fbAllRight_of_wrong hn hm hw]
  rfl

theorem fbShow_regsBut (s : State) : RegsBut [Reg.SWC_STAT] s (fbShow s) := by simp [fbShow]

theorem fbShow_within (s : State) : Within [.regs, .saf] s (fbShow s) := ((Within.upd_saf s _).sub rfl).put rfl

/-- A feedback fault at an output judged (R295): cause 7, and the fault noted. -/
theorem fbJudge_of_wrong (hn : n < 4) (hm : (contactorMask s).testBit n = true) (hw : fbRight s n = false)
    (hb : (s.saf.fbBad ||| s.saf.fbDis).testBit n = true) : fbJudge s = causeSet 7 (fbShow s) ∧ (fbJudge s).saf.fbBad = s.saf.fbBad ||| s.saf.fbDis ∧
      (fbJudge s).saf.fbDis = s.saf.fbDis ∧ causeOn (fbJudge s) 7 = true ∧ RegsBut causeRegs s (fbJudge s) := by
  have hbad := fbBadNow_of_wrong hn hm hw
  have hne : fbBadNow s ≠ 0 := by
    rw [hbad]
    intro h0
    rw [h0, Nat.zero_testBit] at hb
    exact absurd hb (by decide)
  have e := fbJudge_sets (.inl hne)
  have hk := causeSet_keeps 7 (fbShow s)
  rw [e]
  refine ⟨rfl, ?_, ?_, (causeOn_causeSet (by omega) _ 7).trans (by simp), ((fbShow_regsBut s).mono (by simp [causeRegs])).trans hk.regs⟩
  · rw [← hbad]
    exact stopBase_field SafState.fbBad (fun _ => rfl) hk.saf
  · have hd : (causeSet 7 (fbShow s)).saf.fbDis = (fbShow s).saf.fbDis := stopBase_field SafState.fbDis (fun _ => rfl) hk.saf
    exact hd

/-- A field of SWC_STAT between the commands and GATEREL is left by a cause that arises. -/
theorem get_causeSet_swc {k lo w : Nat} (h4 : 4 ≤ lo) (h16 : lo + w ≤ 16) (s : State) : (causeSet k s).get ⟨Reg.SWC_STAT, lo, w⟩ = s.get ⟨Reg.SWC_STAT, lo, w⟩ := by
  have hshow : (causeShow k s).get ⟨Reg.SWC_STAT, lo, w⟩ = s.get ⟨Reg.SWC_STAT, lo, w⟩ := (causeShow_regsBut k s).get (by simp)
  have hgate (u : State) : (gateAssert u).get ⟨Reg.SWC_STAT, lo, w⟩ = u.get ⟨Reg.SWC_STAT, lo, w⟩ := by
    rw [gateAssert, lower, get_put_of_apart _ _ (.inr (.inr (by simpa using h16))), raise, get_put_of_apart _ _ (.inl (by simp)), raise,
      get_put_of_apart _ _ (.inl (by simp))]
  have hel (b : Bool) (u : State) : (stopElements b u).get ⟨Reg.SWC_STAT, lo, w⟩ = u.get ⟨Reg.SWC_STAT, lo, w⟩ := by
    refine (get_contactorsLater (.inr h4) _).trans ?_
    split
    · have h1 : RegsBut [Reg.SAF_OUT] (gateAssert u) (lowSides (pilotDemand 2 (gateAssert u))) := (pilotDemand_regsBut 2 _).trans (.put (.refl _ _) (by simp))
      rw [h1.get (by simp), hgate]
    · exact hgate u
  have henter (j : Nat) (u : State) : (safEnter j u).get ⟨Reg.SWC_STAT, lo, w⟩ = u.get ⟨Reg.SWC_STAT, lo, w⟩ := (safEnter_regsBut j u).get (by simp)
  have hstop (u : State) : (stopReaction k u).get ⟨Reg.SWC_STAT, lo, w⟩ = u.get ⟨Reg.SWC_STAT, lo, w⟩ := by
    unfold stopReaction
    split
    · exact (hel _ _).trans (by simp [bump, henter])
    · split
      · exact (hel _ _).trans (henter 1 u)
      · rfl
  by_cases hon : causeOn s k = true
  · rw [causeSet_of_on hon]
  · have hoff := Bool.not_eq_true _ ▸ hon
    by_cases h19 : k = 19
    · subst h19
      rw [causeSet_stuck hoff, hshow]
    · rw [causeSet_of_off hoff h19, hstop, hshow]

/-- Whether feedback is right depends on SWC_STAT's low bits, the relay's feedback, the disagreements and parameters. -/
theorem fbAllRight_congr (hb : ∀ i, i < 8 → t.bitOf Reg.SWC_STAT i = s.bitOf Reg.SWC_STAT i) (hr : t.on Fd.BIL_DISC_FB = s.on Fd.BIL_DISC_FB)
    (hd : t.saf.fbDis = s.saf.fbDis) (hp : t.params = s.params) : fbAllRight t = fbAllRight s := by
  have hso : relaySo t = relaySo s := by
    have hf (n : Nat) : soFunc t n = soFunc s n := parN_congr hp _
    simp only [relaySo, hf]
  have hall : ((List.range 4).all fun n => !(contactorMask t).testBit n || fbRight t n) =
      ((List.range 4).all fun n => !(contactorMask s).testBit n || fbRight s n) := by
    rw [Bool.eq_iff_iff, List.all_eq_true, List.all_eq_true]
    refine forall₂_congr fun n hn => ?_
    have h4 : n < 4 := List.mem_range.1 hn
    rw [contactorMask_congr hp, fbRight, fbRight, fbClosed, fbClosed, hd, hb _ (by omega), hb _ (by omega)]
  rw [fbAllRight, fbAllRight, hall, hso]
  cases h : relaySo s with
  | none => rfl
  | some n => simp only [hd, hr, hb n (by have := relaySo_lt h; omega)]

end Feedback

/-- Settles O23: a request refused or granted, its feedback judged, and a weld each by the lemma of its operation. -/
theorem contactorControl : Obligations.ContactorControl := by
  unfold Obligations.ContactorControl
  refine ⟨fun s outs r rel ws hx ho hr => ?_, fun s outs n rel ws hx hc hr hn ho => ?_, fun s outs hh hc hd ha hs hz hA hB => ?_,
    fun s outs n rel hh hc hn ho hf => ?_, fun s ws hx => ?_, fun s n time x y hh hs hn hm hxy h7 => ?_, fun s n hh hn hm hd hb hf => ?_,
    fun s n hh hn hm hd hb hf => ?_, fun s hh h1 h2 h3 => ?_, fun s h1 h2 h3 => ?_, fun s n hh hn hb => ?_⟩
  · obtain ⟨h1, h2, h3, h4, h5⟩ := closeRefuse_spec (closeReason_lt hr) { s with x04 := ws }
    have e : execCloseRequest s = .next (closeRefuse r { s with x04 := ws }) := by
      have hm : contactorMask { s with x04 := ws } = contactorMask s := rfl
      have hr' : closeReason { s with x04 := ws } (outs &&& contactorMask s) = some r := hr
      simp only [execCloseRequest, hx, closeRequest, hm, if_neg ho, hr']
    exact ⟨_, e, (h5.same .x04 (by simp)).trans rfl, h1, h2, h3, h4, ((Within.upd_x04 s ws).sub rfl).comp h5 rfl⟩
  · have hne : outs &&& contactorMask s ≠ 0 := fun h0 => by simp [h0] at ho
    have e : execCloseRequest s = .next (closeGrant (outs &&& contactorMask s) rel { s with x04 := ws }) := by
      have hm : contactorMask { s with x04 := ws } = contactorMask s := rfl
      have hr' : closeReason { s with x04 := ws } (outs &&& contactorMask s) = none := hr
      simp only [execCloseRequest, hx, closeRequest, hm, if_neg hne, hr']
    obtain ⟨h1, h2⟩ := closeOuts_spec hn ho { s with x04 := ws }
    have hw := closeOuts_within (outs &&& contactorMask s) { s with x04 := ws }
    have hg := closeGrant_of_none (s := { s with x04 := ws }) (outs := outs &&& contactorMask s) (rel := rel) hc
    exact ⟨_, e.trans (congrArg _ hg), (hw.same .x04 (by simp)).trans rfl, rfl, h1, h2, closeOuts_regsBut _ _,
      (((Within.upd_x04 s ws).sub rfl).comp hw rfl).comp (Within.upd_saf _ _) rfl⟩
  · have e := (awake_of_not_held (a := .next (closeDone s)) hh).trans (congrArg Host.Outcome.next (closeDone_of_closed hc hd ha hs hz hA hB))
    refine ⟨_, e, rfl, rfl, by simp [report, on, raise, lower], by simp [report, on, raise, lower], by simp [report, on, raise, lower], by simp [report], ?_⟩
    exact ((((Within.upd_saf s _).sub rfl).comp ((((Within.refl _ _).lower rfl).lower rfl).raise rfl : Within [.regs] _ _) rfl).comp (report_within _ _) rfl)
  · have e := (awake_of_not_held (a := .next (closeDone s)) hh).trans (congrArg Host.Outcome.next (closeDone_of_open hc hn ho hf))
    obtain ⟨h1, h2, h3, h4, h5, h6, h7⟩ := closeFailed_spec hn ho { s with saf := { s.saf with close := none } }
    exact ⟨_, e, h1, h2, h3, h4, h5, h6, ((Within.upd_saf s _).sub rfl).comp h7 rfl⟩
  · have e : execOpenRequest s = .next (openContactors { s with x04 := ws }) := by rw [execOpenRequest, hx]
    obtain ⟨h1, h2, h3, h4, h5, h6, h7⟩ := openContactors_spec { s with x04 := ws }
    have hw := openContactors_within { s with x04 := ws }
    exact ⟨_, e, (hw.same .x04 (by simp)).trans rfl, h1, h2, h3, h4, h5, h6, h7, ((Within.upd_x04 s ws).sub rfl).comp hw rfl⟩
  · obtain ⟨u, hu⟩ : ∃ u, u = fbPaths n false (s.raise Fd.SWC_EVT_FBDISAG) := ⟨_, rfl⟩
    have hdis : u.saf.fbDis.testBit n = true := by simp [hu, fbPaths, Nat.testBit_or]
    have hur : RegsBut [Reg.SWC_EVT] s u := hu ▸ (RegsBut.raise (.refl _ s) (by simp)).same rfl
    have e : fbTake n x y time s = fbJudge u := by
      rw [fbTake, if_neg (by omega), if_neg hxy, if_pos (.inr hm), hu]
    obtain ⟨h0, h1, h2, h3, h4⟩ := fbJudge_of_wrong (s := u) hn (by rw [hu]; exact hm) (by simp [fbRight, hdis]) (by simp [Nat.testBit_or, hdis])
    obtain ⟨c1, c2, c3, c4, c5⟩ := fbJudge_of_wrong (s := u) hn (by rw [hu]; exact hm) (by simp [fbRight, hdis]) (by simp [Nat.testBit_or, hdis])
    have hses : sesSt (fbJudge u) = 0 := by
      rw [sesSt, c5.get (by simp [causeRegs]), hur.get (by simp)]
      exact hs
    have he : sesEndCheck (fbTake n x y time s) = fbJudge u := by
      rw [e]
      exact if_neg (by simp [hses])
    have h7u : causeOn (fbShow u) 7 = false := by
      rw [causeOn_of_regs (fbShow_regsBut u) (by simp), causeOn_of_regs hur (by simp), h7]
    refine Answers.mk ((awake_of_not_held hh).trans (congrArg Host.Outcome.next he)) (execContactorFeedbackChange_answers n x y time s) fun hw => ?_
    refine ⟨?_, by rw [c3, hdis], c4, ?_, ?_, (hur.mono (by simp)).trans (c5.mono (List.subset_cons_self _ _)), hw⟩
    · rw [on, c5.get (by simp [causeRegs]), hu]
      simp [fbPaths, raise]
    · rw [c1]
      exact causeLatched_causeSet h7u (by omega) (by decide)
    · rw [c1]
      exact safSt_causeSet_ne h7u (by decide)
  · obtain ⟨u, hu⟩ : ∃ u, u = fbFault n (s.raise Fd.SWC_EVT_OPENFAIL) := ⟨_, rfl⟩
    have hur : RegsBut [Reg.SWC_EVT] s u := hu ▸ (RegsBut.raise (.refl _ s) (by simp)).same rfl
    have hbad : (u.saf.fbBad ||| u.saf.fbDis).testBit n = true := by simp [hu, fbFault, Nat.testBit_or]
    have hright : fbRight u n = false := by
      have h1 : u.bitOf Reg.SWC_STAT n = false := (hur.bitOf (by simp)).trans hb
      have h2 : fbClosed u n = true := (hur.bitOf (by simp)).trans hf
      simp [fbRight, h1, h2]
    have e : fbTimeout n s = fbJudge u := by
      rw [fbTimeout, if_pos ⟨hm, by simp [hd]⟩, hb, hf, hu]
    obtain ⟨c1, c2, c3, c4, c5⟩ := fbJudge_of_wrong (s := u) hn (by rw [hu]; exact hm) hright hbad
    refine Answers.mk ((awake_of_not_held hh).trans (congrArg Host.Outcome.next e)) (execContactorFeedbackTimeout_answers n s) fun hw => ?_
    refine ⟨?_, by rw [c2, hbad], c4, (hur.mono (by simp)).trans (c5.mono (List.subset_cons_self _ _)), hw⟩
    rw [on, c5.get (by simp [causeRegs]), hu]
    simp [fbFault, raise]
  · have e : fbTimeout n s = report .uncommanded (openContactors (s.raise Fd.SWC_EVT_UNCMD)) := by
      rw [fbTimeout, if_pos ⟨hm, by simp [hd]⟩, hb, hf]
    obtain ⟨h1, h2, h3, h4, h5, h6, h7⟩ := openContactors_spec (s.raise Fd.SWC_EVT_UNCMD)
    refine Answers.mk ((awake_of_not_held hh).trans (congrArg Host.Outcome.next e)) (execContactorFeedbackTimeout_answers n s) fun hw => ?_
    refine ⟨?_, h1, h2, h3, RegsBut.trans (by simp) (h7.mono (by simp)), hw⟩
    have hg : (openContactors (s.raise Fd.SWC_EVT_UNCMD)).on Fd.SWC_EVT_UNCMD = true := by
      rw [h7.on (by simp)]
      simp [on, raise]
    exact hg
  · obtain ⟨u, hu⟩ : ∃ u, u = (s.put Fd.SWC_STAT_WELD (s.get Fd.SWC_STAT_WELD ||| s.parN Par.WELD_OUT)).raise Fd.SWC_EVT_WELD := ⟨_, rfl⟩
    have hur : RegsBut [Reg.SWC_EVT, Reg.SWC_STAT] s u := by simp [hu]
    have e := fbJudge_sets (s := { u with saf := { u.saf with weldCond := true } }) (.inr rfl)
    have he : execWeldCheckTimeout s = .next (fbJudge { u with saf := { u.saf with weldCond := true } }) := by
      rw [execWeldCheckTimeout, awake_of_not_held hh, if_pos (by simp [h1, h2, h3]), hu]
    obtain ⟨v, hv⟩ : ∃ v, v = fbShow { u with saf := { u.saf with weldCond := true } } := ⟨_, rfl⟩
    have hvr : RegsBut [Reg.SWC_STAT] u v := hv ▸ fbShow_regsBut _
    have hk := causeSet_keeps 7 v
    rw [← hv] at e
    refine Answers.mk (he.trans (congrArg _ e)) (execWeldCheckTimeout_answers s) fun hw => ⟨?_, ?_, ?_, (causeOn_causeSet (by omega) v 7).trans (by simp), ?_, hw⟩
    · rw [hk.regs.on (by simp [causeRegs]), hvr.on (by simp), hu]
      simp [on, raise]
    · rw [get_causeSet_swc (by omega) (by omega), hv, hu]
      simp [fbShow, raise]
    · rw [stopBase_field SafState.weldCond (fun _ => rfl) hk.saf, hv]
      rfl
    · exact ((hur.mono (by simp [causeRegs])).trans (hvr.mono (by simp [causeRegs]))).trans (hk.regs.mono (List.subset_cons_self _ _))
  · obtain ⟨u, hu⟩ : ∃ u, u = ({ s.put Fd.SWC_STAT_WELD 0 with saf := { s.saf with weldCond := false } } : State) := ⟨_, rfl⟩
    have hright : fbAllRight u = true := by
      rw [← h3, hu]
      refine fbAllRight_congr (fun i hi => ?_) (by simp [on]) rfl rfl
      exact (bitOf_put _ _ _ _ _ (by decide)).trans (if_neg (by simp; omega))
    have hbad : fbBadNow u = 0 := if_pos hright
    have e : fbJudge u = causeEnd 7 (fbShow u) := by
      have hw : u.saf.weldCond = false := by rw [hu]
      rw [fbJudge_eq, hbad, hw]
      rfl
    have he : execWeldClear s = .next (fbJudge u) := by rw [execWeldClear, if_pos (by simp [h1, h2]), hu]
    have hend := causeEnd_regsBut 7 (fbShow u)
    have hsaf : (fbShow u).saf = { s.saf with weldCond := false, fbBad := 0 } := by
      rw [fbShow, hbad, hu]
      rfl
    refine Answers.mk (he.trans (congrArg _ e)) (execWeldClear_answers s) fun hw => ⟨?_, ?_, ?_, ?_, ?_⟩
    · rw [hend.get (by simp), fbShow, get_put_other _ _ _ _ (by simp), hu]
      simp
    · exact ((causeEnd_within 7 _).same .saf (by simp)).trans hsaf
    · exact (causeOn_causeEnd (by omega) (by decide) _ 7).trans (by simp)
    · refine RegsBut.trans ?_ (hend.mono (by simp))
      rw [hu]
      simp [fbShow]
    · refine Within.comp ?_ (causeEnd_within 7 _) rfl
      rw [hu]
      exact ((((Within.refl _ s).put rfl).comp (Within.upd_saf _ _) rfl).comp (fbShow_within _) rfl)
  · have e : execSoOutputOvercurrent n s = .next (s.putBit Reg.SAF_OUT n false) := by
      rw [execSoOutputOvercurrent, awake_of_not_held hh, if_pos ⟨hn, hb⟩]
    refine ⟨_, e, ?_, ?_, by simp, (Within.refl _ s).putBit rfl⟩
    · rw [bitOf_putBit _ _ _ _ _ _ (by omega), if_pos ⟨rfl, rfl⟩]
    · exact reg_put_other _ _ _ _ (by simp)

end Sys2Proof.Machine
end

section
/-!
Safe telegrams (spec/07_signal_box.md R258 to R262).
-/
namespace Sys2Proof.Machine

open State

section Telegrams

variable {s t : State} {c n : Nat}

/-- With a sequence number to spare, a telegram takes the next one (R258). -/
theorem telegramNext_spec (time : Nat) (hs : s.saf.seq < 65535) : (telegramNext time s).2.regN Reg.STG_TXSEQ = s.saf.seq ∧
    (telegramNext time s).2.regN Reg.STG_TXEPOCH = s.saf.epoch % 2 ^ 32 ∧ (telegramNext time s).2.saf = { s.saf with seq := s.saf.seq + 1 } ∧
      RegsBut [Reg.STG_TXSEQ, Reg.STG_TXEPOCH] s (telegramNext time s).2 := by
  have hne : s.saf.seq ≠ 65535 := by omega
  have hmod : s.saf.seq % 2 ^ 32 = s.saf.seq := Nat.mod_eq_of_lt (by omega)
  have key (u : State) (hu : u.saf = s.saf) (hr : RegsBut [] s u) (v : State)
      (hv : v = { (u.setRegN Reg.STG_TXSEQ s.saf.seq).setRegN Reg.STG_TXEPOCH s.saf.epoch with saf := { u.saf with seq := s.saf.seq + 1 } }) :
      v.regN Reg.STG_TXSEQ = s.saf.seq ∧ v.regN Reg.STG_TXEPOCH = s.saf.epoch % 2 ^ 32 ∧ v.saf = { s.saf with seq := s.saf.seq + 1 } ∧
        RegsBut [Reg.STG_TXSEQ, Reg.STG_TXEPOCH] s v := by
    subst hv
    refine ⟨?_, by simp, by rw [hu], ?_⟩
    · simp only [regN_mk, numOf_regs]
      rw [regN_setRegN_other _ _ _ _ (by simp), regN_setRegN_same, hmod]
    · simpa using hr.mono (List.nil_subset _)
  cases h : seedOf s (s.parN Par.TG_ADDR) s.saf.epoch with
  | some w => exact key s rfl (.refl _ s) _ (by simp only [telegramNext, h, if_neg hne]; rfl)
  | none => exact key s.fresh.2 rfl (.refl _ s) _ (by simp only [telegramNext, h, if_neg hne]; rfl)

/-- With both ports down a telegram goes out on neither. -/
theorem execSafeTelegramSend_of_down {time : Nat} (hr : s.running = true) (hh : s.held .signalBox = false) (h0 : portUp s 0 = false) (h1 : portUp s 1 = false) :
    execSafeTelegramSend time s = .next (telegramNext time s).2 := by
  have hp : [0, 1].filter (portUp s) = [] := by simp [h0, h1]
  rw [execSafeTelegramSend, if_pos (by simp [hr, hh])]
  dsimp only
  rw [hp]
  split <;> rfl

theorem tgConn_congr (h : t.saf.conns = s.saf.conns) (c : Nat) : tgConn t c = tgConn s c := by rw [tgConn, h]; rfl

/-- The causes of telegrams judged: of the Signal Box's values only those of a stop and of the start's hold change. -/
theorem tgCauses_spec (s : State) : RegsBut causeRegs s (tgCauses s) ∧ (tgCauses s).saf.conns = s.saf.conns := by
  obtain ⟨x, y, e⟩ : ∃ x y, tgCauses s = settle (causeFollow 12 y (causeFollow 11 x s)) := ⟨_, _, rfl⟩
  obtain ⟨u, hu⟩ : ∃ u, u = causeFollow 12 y (causeFollow 11 x s) := ⟨_, rfl⟩
  obtain ⟨a, b, h⟩ := settle_saf u
  have hk : CauseKeeps s u := hu ▸ (causeFollow_keeps 11 x s).trans (causeFollow_keeps 12 y _)
  rw [e, ← hu]
  refine ⟨hk.regs.trans ((settle_regsBut u).mono (by simp [causeRegs])), ?_⟩
  have hc : u.saf.conns = s.saf.conns := stopBase_field SafState.conns (fun _ => rfl) hk.saf
  rw [h, ← hc]

/-- A connection lost (R261): shown, and its run ended. -/
theorem tgLost_spec (hc : c < 8) (hl : s.saf.conns.length = 8) (hx : (tgConn s c).lost = false) : (tgConn (tgLost c s) c).lost = true ∧
    (tgConn (tgLost c s) c).run = 0 ∧ (tgLost c s).on Fd.STG_EVT_LOST = true ∧ (tgLost c s).bitOf Reg.STG_STAT c = false ∧
      (tgLost c s).bitOf Reg.STG_STAT (8 + c) = true ∧ RegsBut [Reg.STG_STAT, Reg.STG_EVT] s (tgLost c s) := by
  have e : tgLost c s = (((setConn c { tgConn s c with lost := true, run := 0 } s).putBit Reg.STG_STAT c false).putBit Reg.STG_STAT (8 + c) true).raise
      Fd.STG_EVT_LOST := by rw [tgLost, hx]; rfl
  have hconn : tgConn (tgLost c s) c = { tgConn s c with lost := true, run := 0 } := by
    rw [e]
    exact nth_setNth_self (by omega)
  rw [hconn, e]
  refine ⟨rfl, rfl, by simp [on, raise], ?_, ?_, by simp [setConn]⟩
  · rw [raise, bitOf_put _ _ _ _ _ (by simp), if_neg (by simp), bitOf_putBit _ _ _ _ _ _ (by omega), if_neg (by omega), bitOf_putBit _ _ _ _ _ _ (by omega),
      if_pos ⟨rfl, rfl⟩]
  · rw [raise, bitOf_put _ _ _ _ _ (by simp), if_neg (by simp), bitOf_putBit _ _ _ _ _ _ (by omega), if_pos ⟨rfl, rfl⟩]

/-- A telegram that waited for its second copy is counted (R261). -/
theorem tgSingle_spec (hc : c < 8) (hl : s.saf.conns.length = 8) : (tgConn (tgSingle c s) c).lost = (tgConn s c).lost ∧ (tgSingle c s).saf.conns.length = 8 ∧
    RegsBut [Reg.STG_CNT (8 * c + 7)] s (tgSingle c s) := by
  unfold tgSingle
  split
  · refine ⟨?_, by simpa [tgCount, setConn, setNth] using hl, by simp [tgCount, setConn]⟩
    have h : tgConn (tgCount c 7 (setConn c { tgConn s c with comparing := false, run := 0 } s)) c = { tgConn s c with comparing := false, run := 0 } :=
      nth_setNth_self (by omega)
    rw [h]
  · exact ⟨rfl, hl, .refl _ s⟩

end Telegrams

/-- Settles O24: a telegram sent takes the next number, one that is not for the module is only counted, and one that is missed loses its connection. -/
theorem safeTelegrams : Obligations.SafeTelegrams := by
  unfold Obligations.SafeTelegrams
  refine ⟨fun s time hr hh hs h0 h1 => ?_, fun s arrival net bytes l hh hx hn hu => ?_, fun s arrival net c bytes l hh hx hn hf ha => ?_,
    fun s c hh hc hp hl hx => ?_⟩
  · obtain ⟨k1, k2, k3, k4⟩ := telegramNext_spec time hs
    exact ⟨_, execSafeTelegramSend_of_down hr hh h0 h1, k1, k2, k3, k4, (telegramNext_within time s).sub rfl⟩
  · have e : execSafeTelegramReceive arrival s = .next (({ s with x09 := l } : State).bumpReg (Reg.STG_NETRX net)) := by
      have hu' : ((List.range 8).filter fun c => (({ s with x09 := l } : State).bumpReg (Reg.STG_NETRX net)).parN (Par.TG_SRC c) != 0xFFFF) = [] := hu
      rw [execSafeTelegramReceive, awake_of_not_held hh, hx]
      dsimp only
      rw [tgReceive, if_pos hn, hu']
      rfl
    refine ⟨_, e, rfl, ?_, by simp, ((Within.upd_x09 s l).sub rfl).bumpReg rfl⟩
    rw [bumpReg, regN_setRegN_same, regN_mk, numOf_regs, Bits.satAdd]
    omega
  · obtain ⟨u, hu⟩ : ∃ u, u = ({ s with x09 := l } : State).bumpReg (Reg.STG_NETRX net) := ⟨_, rfl⟩
    have e : execSafeTelegramReceive arrival s = .next (tgCount c 0 u) := by
      have hf' : (((List.range 8).filter fun c => u.parN (Par.TG_SRC c) != 0xFFFF).find? fun c => u.parN (Par.TG_SRC c) == tgSource (bytes.take 32)) =
          some c := by
        rw [hu]
        exact hf
      have ha' : tgAddressed u (bytes.take 32) = false := by
        rw [hu]
        exact ha
      rw [execSafeTelegramReceive, awake_of_not_held hh, hx]
      dsimp only
      rw [tgReceive, if_pos hn, ← hu, hf']
      dsimp only
      rw [if_neg (by simp [ha'])]
    have hc : c < 8 := List.mem_range.1 (List.mem_filter.1 (List.mem_of_find?_eq_some hf)).1
    have hne : Reg.STG_CNT (8 * c) ≠ Reg.STG_NETRX net := by grind
    refine ⟨_, e, ?_, ?_, ?_, ?_⟩
    · rw [hu]
      rfl
    · rw [tgCount, bumpReg, Nat.add_zero, regN_setRegN_same, hu, bumpReg, regN_setRegN_other _ _ _ _ hne, regN_mk, numOf_regs, Bits.satAdd]
      omega
    · rw [hu]
      simp [tgCount]
    · rw [hu]
      exact (((Within.upd_x09 s l).sub rfl).bumpReg rfl).bumpReg rfl
  · have e : execTelegramTimeout c s = .next (tgCauses (tgLost c (tgSingle c s))) := by rw [execTelegramTimeout, awake_of_not_held hh, if_pos ⟨hc, hp⟩]
    obtain ⟨s1, s2, s3⟩ := tgSingle_spec hc hl
    obtain ⟨l1, l2, l3, l4, l5, l6⟩ := tgLost_spec hc s2 (s1.trans hx)
    obtain ⟨c1, c2⟩ := tgCauses_spec (tgLost c (tgSingle c s))
    have hconn := tgConn_congr c2 c
    refine Answers.mk e (execTelegramTimeout_answers c s) fun hw => ⟨by rw [hconn, l1], by rw [hconn, l2], ?_, ?_, ?_, ?_, hw⟩
    · rw [c1.on (by simp [causeRegs]), l3]
    · rw [c1.bitOf (by simp [causeRegs]), l4]
    · rw [c1.bitOf (by simp [causeRegs]), l5]
    · exact ((s3.mono (by simp)).trans (l6.mono (by simp))).trans (c1.mono (List.subset_append_right _ _))

end Sys2Proof.Machine
end

section
/-!
Fluxgate self-tests (spec/08_earth_fault_trip_switching.md R276 to R278): why the end of a self-test need not show RCMTEST off in every state.
-/
namespace Sys2Proof.Machine

open State

/-- A state in which a self-test runs, the low five bits of EFT_STAT are set, and a request with a kind that no island has is deferred: the register that
counts grants of kind 204736 (spec/01_architecture.md, TOK_CNT) lies at the address of EFT_STAT. -/
def strayKind : State :=
  { (State.reset.setReg Reg.EFT_STAT 0x3F).put Fd.PWR_VSYS_MV 65535 with tok := ⟨[⟨3, 0, 0, 0, false⟩], [⟨204736, 0, 0, 0, false⟩]⟩ }

/-- The Token's release serves the deferred request; its count carries into RCMTEST, which so stays on after the self-test. -/
theorem rcmTest_strayKind : (rcmTestEnd 8000 (-8000) strayKind).on Fd.EFT_STAT_RCMTEST = true := by decide +kernel

/-- Refutes O25: the clause of a passed self-test says RCMTEST is off in every state, but serving a deferred request of kind 204736 counts it in EFT_STAT
itself, and the carry sets RCMTEST again (strayKind; no run of the module reaches it, as requests have kinds 0 to 8). -/
theorem not_residualCurrentTests : ¬ Obligations.ResidualCurrentTests := by
  unfold Obligations.ResidualCurrentTests
  rintro ⟨-, -, -, -, hpass, -⟩
  have hh : strayKind.held .signalBox = false := by decide +kernel
  have hon : strayKind.on Fd.EFT_STAT_RCMTEST = true := by decide +kernel
  obtain ⟨t, ht, hoff, -⟩ := hpass strayKind 8000 (-8000) hh hon (by omega) (by omega) (by omega) (by omega)
  have e : exec (.rcmSelfTestDone 8000 (-8000)) strayKind = .next (rcmTestEnd 8000 (-8000) strayKind) := awake_of_not_held hh
  have hst : rcmTestEnd 8000 (-8000) strayKind = t := Host.Outcome.next.inj (e.symm.trans ht)
  rw [← hst, rcmTest_strayKind] at hoff
  exact absurd hoff (by decide)

end Sys2Proof.Machine
end

section
/-!
Insulation monitoring and the DC trip path (spec/08_earth_fault_trip_switching.md R279, R286 to R291).
-/
namespace Sys2Proof.Machine

open State

section Trip

variable {s t : State} {m : Nat}

/-- The trip's own state with the comparators that fire (R285). -/
def tripFired (m : Nat) (s : State) : State := { s with saf := { s.saf with trip := { s.saf.trip with fired := m &&& tripEnabled s } } }

theorem tripComparators_of_fire (hf : s.isF = true) (hm : m &&& tripEnabled s ≠ 0) : tripComparators m s = tripFire (m &&& tripEnabled s) (tripFired m s) := by
  rw [tripComparators, hf]
  dsimp only
  rw [if_pos rfl, if_neg hm]
  rfl

/-- Comparators that fire with both lanes healthy (R286, R287). -/
theorem tripFire_both {k : Nat} (ha : laneOk s (s.get Fd.EFT_TRIPMAP_LANEA) = true) (hb : laneOk s (s.get Fd.EFT_TRIPMAP_LANEB) = true) : tripFire k s =
    ((((((s.raise Fd.EFT_STAT_TRIPA).raise Fd.SAF_OUT_GOFFA).raise Fd.EFT_STAT_TRIPB).raise Fd.SAF_OUT_GOFFB).put Fd.EFT_STAT_TRIPSRC k).raise
      Fd.EFT_EVT_DCTRIP).lower Fd.SWC_STAT_GATEREL := by
  rw [tripFire, ha, hb]
  rfl

/-- Comparators that fire with lane A healthy set its latch, and the event (R286, R287). -/
theorem tripFire_shows {k : Nat} (ha : laneOk s (s.get Fd.EFT_TRIPMAP_LANEA) = true) :
    (tripFire k s).on Fd.EFT_STAT_TRIPA = true ∧ (tripFire k s).on Fd.EFT_EVT_DCTRIP = true ∧ (tripFire k s).on Fd.EFT_STAT_TRIPTEST = s.on Fd.EFT_STAT_TRIPTEST ∧
      (tripFire k s).saf = s.saf := by
  rw [tripFire, ha]
  cases laneOk s (s.get Fd.EFT_TRIPMAP_LANEB)
  · refine ⟨?_, ?_, ?_, rfl⟩ <;> simp [on, when, raise, lower]
  · refine ⟨?_, ?_, ?_, rfl⟩ <;> simp [on, when, raise, lower]

theorem tripWant_of_f (hf : s.isF = true) : tripWant s =
    if contactorOn s then { s with saf := { s.saf with trip := { s.saf.trip with wanted := true } } }
    else report .idle { s with saf := { s.saf with trip := { s.saf.trip with wanted := true } } } := if_pos hf

theorem tripPairMove_regsBut (f : RegField) (hf : f.reg = Reg.EFT_TRIPMAP) (s : State) :
    RegsBut [Reg.EFT_TRIPMAP, Reg.EFT_EVT, Reg.SYS_FLT, Reg.SYS_FLTLAST] s (tripPairMove f s) := by
  unfold tripPairMove
  refine .ite ?_ (.refl _ s)
  exact RegsBut.trans (by simp [hf]) ((faultOther_regsBut 1 .signalBox _).mono (by simp))

theorem tripPairMove_of_good {f : RegField} (h : s.saf.trip.badPairs = 0) : tripPairMove f s = s := if_neg (by simp [h])

/-- TRIPOK follows whether the trip path is whole (R291). -/
theorem tripShow_spec (s : State) : (tripShow s).on Fd.EFT_STAT_TRIPOK = (!s.isF || tripWhole s) ∧
    (tripShow s).get Fd.EFT_STAT_TRIPTEST = s.get Fd.EFT_STAT_TRIPTEST ∧ (tripShow s).get Fd.EFT_STAT_TRIPA = s.get Fd.EFT_STAT_TRIPA ∧
      (tripShow s).get Fd.EFT_STAT_TRIPB = s.get Fd.EFT_STAT_TRIPB ∧ RegsBut [Reg.EFT_STAT, Reg.SYS_FLT, Reg.SYS_FLTLAST] s (tripShow s) := by
  obtain ⟨u, hu⟩ : ∃ u, u = s.putB Fd.EFT_STAT_TRIPOK (!s.isF || tripWhole s) := ⟨_, rfl⟩
  have hr : RegsBut [Reg.SYS_FLT, Reg.SYS_FLTLAST] u (tripShow s) := by
    rw [tripShow, ← hu]
    exact .ite (faultOther_regsBut 1 .signalBox u) (.refl _ u)
  refine ⟨?_, ?_, ?_, ?_, RegsBut.trans (by simp [hu]) (hr.mono (by simp))⟩
  · rw [hr.on (by simp), hu]
    exact on_putB _ _ _ (by decide) (by decide)
  · rw [hr.get (by simp), hu]
    simp [putB]
  · rw [hr.get (by simp), hu]
    simp [putB]
  · rw [hr.get (by simp), hu]
    simp [putB]

/-- The result of a trip path test noted (R290). -/
def tripResult (pass : Bool) (pairs : Nat) (s : State) : State :=
  let t := s.lower Fd.EFT_STAT_TRIPTEST
  let t := if pass then t.put Fd.EFT_TESTAGE_TRIP 0 else t.raise Fd.EFT_EVT_TESTFAIL
  { t with saf := { t.saf with trip := { t.saf.trip with badPairs := pairs % 8, passed := pass, wanted := !pass } } }

/-- The latches after a trip path test (R289). -/
def tripLatch (clear : Bool) (s : State) : State :=
  if clear then (s.lower Fd.EFT_STAT_TRIPA).lower Fd.EFT_STAT_TRIPB else (s.raise Fd.EFT_STAT_TRIPA).raise Fd.EFT_STAT_TRIPB

/-- Whether a trip path test with both lanes whole passes (R290). -/
def tripPasses (pairs : Nat) (clear : Bool) (s : State) : Bool :=
  !([s.get Fd.EFT_TRIPMAP_PAIR1, s.get Fd.EFT_TRIPMAP_PAIR2].any pairs.testBit) && true && true && clear

/-- A trip path test that finds both lanes whole (R289 to R291). -/
theorem tripTestEnd_of_lanes {pairs : Nat} {clear : Bool} (h : s.on Fd.EFT_STAT_TRIPTEST = true) : tripTestEnd pairs true true clear s =
    tripShow (tripLatch clear (tripPairMove Fd.EFT_TRIPMAP_PAIR2 (tripPairMove Fd.EFT_TRIPMAP_PAIR1 (tripResult (tripPasses pairs clear s) pairs s)))) := by
  rw [tripTestEnd, if_pos h]
  rfl

/-- The moves of pairs and the latches leave what the result says, but the latches themselves (R289, R290). -/
theorem tripTestEnd_spec {pairs : Nat} {clear : Bool} (h : s.on Fd.EFT_STAT_TRIPTEST = true) :
    (tripTestEnd pairs true true clear s).on Fd.EFT_STAT_TRIPTEST = false ∧ (tripTestEnd pairs true true clear s).on Fd.EFT_STAT_TRIPA = (!clear) ∧
      (tripTestEnd pairs true true clear s).on Fd.EFT_STAT_TRIPB = (!clear) ∧
        (tripTestEnd pairs true true clear s).saf.trip = { s.saf.trip with badPairs := pairs % 8, passed := tripPasses pairs clear s, wanted := !(tripPasses pairs clear s) } ∧
          RegsBut [Reg.EFT_STAT, Reg.EFT_EVT, Reg.EFT_TRIPMAP, Reg.SYS_FLT, Reg.SYS_FLTLAST] (tripResult (tripPasses pairs clear s) pairs s)
            (tripTestEnd pairs true true clear s) := by
  rw [tripTestEnd_of_lanes h]
  obtain ⟨u, hu⟩ : ∃ u, u = tripResult (tripPasses pairs clear s) pairs s := ⟨_, rfl⟩
  obtain ⟨v, hv⟩ : ∃ v, v = tripPairMove Fd.EFT_TRIPMAP_PAIR2 (tripPairMove Fd.EFT_TRIPMAP_PAIR1 u) := ⟨_, rfl⟩
  have hr : RegsBut [Reg.EFT_TRIPMAP, Reg.EFT_EVT, Reg.SYS_FLT, Reg.SYS_FLTLAST] u v := hv ▸
    (tripPairMove_regsBut _ rfl u).trans (tripPairMove_regsBut _ rfl _)
  have hw : Within [.regs, .logs, .free] u v := hv ▸ ((tripPairMove_within _ u).sub rfl).comp (tripPairMove_within _ _) rfl
  have htest : v.get Fd.EFT_STAT_TRIPTEST = 0 := by
    rw [hr.get (by simp), hu, tripResult]
    cases tripPasses pairs clear s <;> simp [lower, raise]
  have htrip : v.saf.trip = { s.saf.trip with badPairs := pairs % 8, passed := tripPasses pairs clear s, wanted := !(tripPasses pairs clear s) } := by
    rw [hw.same .saf (by simp), hu, tripResult]
    cases tripPasses pairs clear s <;> rfl
  rw [← hu, ← hv]
  obtain ⟨k1, k2, k3, k4, k5⟩ := tripShow_spec (tripLatch clear v)
  have hlatch : RegsBut [Reg.EFT_STAT] v (tripLatch clear v) := .ite (by simp) (by simp)
  refine ⟨?_, ?_, ?_, ?_, (hr.mono (by simp)).trans ((hlatch.mono (by simp)).trans (k5.mono (by simp)))⟩
  · rw [on, k2, tripLatch]
    cases clear <;> simp [lower, raise, htest]
  · rw [on, k3, tripLatch]
    cases clear <;> simp [lower, raise]
  · rw [on, k4, tripLatch]
    cases clear <;> simp [lower, raise]
  · rw [(tripShow_within _).same .saf (by simp)]
    cases clear
    · exact htrip
    · exact htrip

theorem get_testfail_tripPairMove {f : RegField} (hf : f.reg = Reg.EFT_TRIPMAP) (s : State) :
    (tripPairMove f s).get Fd.EFT_EVT_TESTFAIL = s.get Fd.EFT_EVT_TESTFAIL := by
  unfold tripPairMove
  dsimp only
  split
  · rw [(faultOther_regsBut 1 .signalBox _).get (by simp), raise, get_put_of_apart _ _ (.inr (by simp)), get_put_of_apart _ _ (.inl (by simp [hf]))]
  · rfl

/-- A failed trip path test is announced (R290). -/
theorem testfail_of_failed {pairs : Nat} (h : s.on Fd.EFT_STAT_TRIPTEST = true) : (tripTestEnd pairs true true false s).on Fd.EFT_EVT_TESTFAIL = true := by
  have hpass : tripPasses pairs false s = false := by simp [tripPasses]
  obtain ⟨v, hv⟩ : ∃ v, v = tripPairMove Fd.EFT_TRIPMAP_PAIR2 (tripPairMove Fd.EFT_TRIPMAP_PAIR1 (tripResult false pairs s)) := ⟨_, rfl⟩
  have hg : v.get Fd.EFT_EVT_TESTFAIL = 1 := by
    rw [hv, get_testfail_tripPairMove rfl, get_testfail_tripPairMove rfl]
    simp [tripResult, raise]
  obtain ⟨-, -, -, -, k5⟩ := tripShow_spec (tripLatch false v)
  have hl : RegsBut [Reg.EFT_STAT] v (tripLatch false v) := .ite (by simp) (by simp)
  rw [tripTestEnd_of_lanes h, hpass, ← hv, k5.on (by simp), hl.on (by simp), on, hg]
  rfl

/-- A trip path that failed its test is not whole (R291). -/
theorem tripOk_of_failed {pairs : Nat} (hf : s.isF = true) (h : s.on Fd.EFT_STAT_TRIPTEST = true) :
    (tripTestEnd pairs true true false s).on Fd.EFT_STAT_TRIPOK = false := by
  have hpass : tripPasses pairs false s = false := by simp [tripPasses]
  obtain ⟨u, hu⟩ : ∃ u, u = tripLatch false (tripPairMove Fd.EFT_TRIPMAP_PAIR2 (tripPairMove Fd.EFT_TRIPMAP_PAIR1 (tripResult false pairs s))) := ⟨_, rfl⟩
  have hw : Within [.regs, .logs, .free] (tripResult false pairs s) u := hu ▸
    (((tripPairMove_within _ _).sub rfl).comp (tripPairMove_within _ _) rfl).comp ((((Within.refl _ _).raise rfl).raise rfl : Within [.regs] _ _)) rfl
  have hpassed : u.saf.trip.passed = false := by
    rw [hw.same .saf (by simp)]
    rfl
  have hfu : u.isF = true := by
    rw [isF, hw.same .variant (by simp)]
    exact hf
  rw [tripTestEnd_of_lanes h, hpass, ← hu, (tripShow_spec u).1, hfu]
  simp [tripWhole, hpassed]

end Trip

/-- Settles O26: a half-cycle, a trip and a test each by the equation of its operation. -/
theorem insulationAndTrips : Obligations.InsulationAndTrips := by
  unfold Obligations.InsulationAndTrips
  refine ⟨fun s sns vdc rise hh hf he hp hs => ?_, fun s sns vdc rise hh hf he hp hd hs => ?_, fun s m hf hm ha hb ht => ?_,
    fun s m hf hm ha ht hl hc hs => ?_, fun s hh hf hc => ?_, fun s hh hf => ?_, fun s p hm hh hf hc => ?_, fun s hh hw ha hc ht => ?_,
    fun s hh ht => ?_, fun s pairs hh hf ht => ?_⟩
  · have e : imdHalf sns vdc rise s = setImd { s.saf.imd with
        positive := false, vPlus := (sns : Rat) * (s.parN Par.IMD_DIV : Rat) / 1000000, vdcPlus := (vdc : Rat) / 1000, fastPlus := decide (rise < 1000),
        since := s.saf.imd.since + 1 } (s.raise Fd.EFT_STAT_IMDRUN) := by
      simp only [imdHalf, hf, he, hp, Bool.and_self, if_true]
    have he : execImdHalfCycleEnd sns vdc rise s = .next (imdHalf sns vdc rise s) := by
      rw [execImdHalfCycleEnd, awake_of_not_held hh]
      exact congrArg Host.Outcome.next (if_neg (by simp [hp]))
    exact ⟨_, he.trans (congrArg _ e), by simp [setImd, on, raise], rfl, rfl, rfl, rfl, by simp [setImd], ((Within.refl _ s).raise rfl).comp (Within.upd_saf _ _) rfl⟩
  · have e : imdHalf sns vdc rise s = (setImd { s.saf.imd with positive := true, dirty := false, since := s.saf.imd.since + 1 }
        (s.raise Fd.EFT_STAT_IMDRUN)).bump ⟨Reg.EFT_IMDCNT, 16, 16⟩ := by
      rw [imdHalf, if_pos (by simp [hf, he])]
      dsimp only
      rw [if_neg (by simp [hp]), imdJudge]
      exact if_pos (by simp [hd])
    have he : execImdHalfCycleEnd sns vdc rise s = .next (imdHalf sns vdc rise s) := by
      rw [execImdHalfCycleEnd, awake_of_not_held hh, e]
      refine congrArg Host.Outcome.next ?_
      split
      · refine if_pos fun h5 => ?_
        have h5' : sesSt s = 5 := by simpa [sesSt, bump, setImd, raise] using h5
        omega
      · rfl
    refine ⟨_, he.trans (congrArg _ e), rfl, ?_, ?_, by simp [setImd], (((Within.refl _ s).raise rfl).comp (Within.upd_saf _ _) rfl).bump rfl⟩
    · simp [setImd, bump, raise, Bits.satAdd]
    · simp [setImd, bump, raise]
  · obtain ⟨u, hu⟩ : ∃ u, u = tripFired m s := ⟨_, rfl⟩
    have hua : laneOk u (u.get Fd.EFT_TRIPMAP_LANEA) = true := by rw [hu]; exact ha
    have hub : laneOk u (u.get Fd.EFT_TRIPMAP_LANEB) = true := by rw [hu]; exact hb
    obtain ⟨k1, k2, k3, k4⟩ := tripFire_shows (s := u) (k := m &&& tripEnabled s) hua
    have e : execDcTripFire m s = .next (tripFire (m &&& tripEnabled s) u) := by
      rw [execDcTripFire, tripComparators_of_fire hf hm, ← hu]
      exact congrArg Host.Outcome.next (if_pos (k3.trans (by rw [hu]; exact ht)))
    refine ⟨_, e.trans (congrArg _ (tripFire_both hua hub)), ?_, ?_, ?_, ?_, ?_, ?_, ?_, ?_, ?_⟩
    · simp [on, raise, lower]
    · simp [on, raise, lower]
    · simp [on, raise, lower]
    · simp [on, raise, lower]
    · simp [raise, lower]
    · simp [on, raise, lower]
    · simp [on, raise, lower]
    · rw [hu]
      simp [tripFired]
    · rw [← tripFire_both hua hub, hu]
      exact ((Within.upd_saf s _).sub rfl).comp (tripFire_within _ _) rfl
  · obtain ⟨u, hu⟩ : ∃ u, u = tripFired m s := ⟨_, rfl⟩
    have hua : laneOk u (u.get Fd.EFT_TRIPMAP_LANEA) = true := by rw [hu]; exact ha
    obtain ⟨k1, k2, k3, k4⟩ := tripFire_shows (s := u) (k := m &&& tripEnabled s) hua
    have hr : RegsBut [Reg.EFT_STAT, Reg.EFT_EVT, Reg.SAF_OUT, Reg.SWC_STAT] s (tripFire (m &&& tripEnabled s) u) :=
      RegsBut.trans (by rw [hu]; exact .refl _ s) (tripFire_regsBut _ u)
    have hfired : (tripFire (m &&& tripEnabled s) u).saf.trip.fired ≠ 0 := by
      rw [k4, hu]
      exact hm
    have e : execDcTripFire m s = .next (tripRecognise (tripFire (m &&& tripEnabled s) u)) := by rw [execDcTripFire, tripComparators_of_fire hf hm, ← hu]
    obtain ⟨v, hv⟩ : ∃ v, v = tripFire (m &&& tripEnabled s) u := ⟨_, rfl⟩
    rw [← hv] at k1 k2 k3 hr hfired e
    have hlv : causeLatched v 10 = false := (causeLatched_of_regs hr (by simp) 10).trans hl
    have hcv : causeOn v 10 = false := (causeOn_of_regs hr (by simp) 10).trans hc
    have htv : v.on Fd.EFT_STAT_TRIPTEST = false := by
      rw [k3, hu]
      exact ht
    have er : tripRecognise v = causeSet 10 v := by
      rw [tripRecognise, if_neg (by simp [htv]), if_pos (by simp [k1])]
      dsimp only
      rw [if_neg hfired, if_neg (by simp [hlv])]
    obtain ⟨c1, -, c2, -, -, -⟩ := causeSet_of_run (n := 10) hcv ((hr.get (by simp)).trans hs) (by decide)
    have hk := causeSet_keeps 10 v
    refine Answers.mk (e.trans (congrArg _ er)) (execDcTripFire_answers m s) fun hw => ⟨(causeOn_causeSet (by omega) v 10).trans (by simp),
      causeLatched_causeSet hcv (by omega) (by decide), c1, c2, (hk.regs.on (by simp [causeRegs])).trans k2, ?_, hw⟩
    exact (hr.mono (by simp [causeRegs])).trans (hk.regs.mono (List.subset_append_right _ _))
  · exact ⟨_, (awake_of_not_held hh).trans (congrArg Host.Outcome.next ((tripWant_of_f hf).trans (if_neg (by simp [hc])))), rfl, rfl, (RegsBut.refl [] s).same rfl,
      ((Within.upd_saf s _).sub rfl).comp (report_within _ _) rfl⟩
  · exact ⟨s, (awake_of_not_held hh).trans (congrArg Host.Outcome.next (if_neg (by simp [hf]))), rfl⟩
  · have hon : contactorOn (hostAccess p s) = true :=
      (contactorOn_congr (RegsBut.hostAccess (p := p) (List.Subset.refl _)) (by cases p <;> decide) hostAccess_params).trans hc
    have hfa : (hostAccess p s).isF = true := by simpa [isF] using hf
    have e := (toIsland_hostAccess (p := p) (eff := tripWant) hh).trans ((tripWant_of_f hfa).trans (if_pos hon))
    refine ⟨_, congrArg Host.Outcome.next ((hostOwn_of_may hm).trans (congrArg (hostReply p 0) e)), ?_, ?_, ?_, ?_⟩
    · simp
    · simp
    · simp
    · exact (((Within.hostAccess rfl).comp (Within.upd_saf _ _) rfl).emit rfl : Within [.regs, .saf, .out] s _)
  · have e : tripTestBegin s = { (gateAssert s).raise Fd.EFT_STAT_TRIPTEST with saf := { s.saf with trip := { s.saf.trip with wanted := false, asked := false } } } :=
      if_pos (by simp [hw, ha, hc, ht])
    refine ⟨_, (awake_of_not_held hh).trans (congrArg Host.Outcome.next e), ?_, ?_, ?_, rfl, ?_, ?_⟩
    · simp [on, raise]
    · simp [on, raise, gateAssert, lower]
    · simp [on, raise, gateAssert, lower]
    · simp [gateAssert]
    · exact .of_paste (e ▸ (tripTestBegin_within s).inv) rfl
  · obtain ⟨k1, k2, k3, k4, k5⟩ := tripTestEnd_spec (pairs := 0) (clear := true) ht
    have hp : tripPasses 0 true s = true := by simp [tripPasses]
    rw [hp] at k4 k5
    refine Answers.mk (awake_of_not_held hh) (execTripPathTestDone_answers 0 true true true s) fun hw => ⟨k1, ?_, ?_, ?_, k2, k3, ?_, hw⟩
    · rw [k5.get (by simp), tripResult]
      simp
    · rw [k4]
    · rw [k4]
      rfl
    · exact RegsBut.trans (by simp [tripResult]) (k5.mono (by simp))
  · obtain ⟨k1, k2, k3, k4, k5⟩ := tripTestEnd_spec (pairs := pairs) (clear := false) ht
    have hp : tripPasses pairs false s = false := by simp [tripPasses]
    rw [hp] at k4 k5
    refine Answers.mk (awake_of_not_held hh) (execTripPathTestDone_answers pairs true true false s) fun hw => ⟨k1, ?_, ?_, ?_, tripOk_of_failed hf ht, k2, k3, ?_, hw⟩
    · exact testfail_of_failed ht
    · rw [k4]
    · rw [k4]
    · exact RegsBut.trans (by simp [tripResult]) k5

end Sys2Proof.Machine
end

section
/-!
The pilot generator, its measurement, proximity, and the power-line modem (spec/09_vehicle_link.md R303 to R314).
-/
namespace Sys2Proof.Machine

open State

section Pilot

variable {s : State}

theorem pilotApply_spec (s : State) : (pilotApply s).get Fd.CPL_STAT_DRIVE = pilotDrive s % 8 ∧
    (pilotApply s).get Fd.CPL_DUTY_DUTY = (if pilotDrive s = 1 then s.get Fd.CPL_DUTY_REQ else 0) ∧
      (pilotApply s).get Fd.CPL_DUTY_REQ = s.get Fd.CPL_DUTY_REQ ∧ (pilotApply s).get Fd.CPL_STAT_SBDEM = s.get Fd.CPL_STAT_SBDEM ∧
        (pilotApply s).get Fd.CPL_STAT_COREFB = s.get Fd.CPL_STAT_COREFB ∧ RegsBut [Reg.CPL_STAT, Reg.CPL_DUTY] s (pilotApply s) := by
  have hlt : s.get Fd.CPL_DUTY_REQ < 65536 := get_lt _ _
  refine ⟨by simp [pilotApply], ?_, by simp [pilotApply], by simp [pilotApply], by simp [pilotApply], by simp [pilotApply]⟩
  simp only [pilotApply]
  rw [get_put_same _ _ _ (by simp)]
  split
  · exact Nat.mod_eq_of_lt hlt
  · rfl

/-- A change to state C with no toggle window open (R308, R309). -/
theorem pilotRecognised_c (hs : s.get Fd.CPL_STAT_STATE = 1) (ht : s.vl.toggleOpen = false) : pilotRecognised 2 s =
    toSession (.pilot 2) { (s.put Fd.CPL_STAT_STATE 2).raise Fd.CPL_EVT_STATECHG with saf := { s.saf with pilot := 2 } } := by
  simp [pilotRecognised, hs, when, toSession, ht]

/-- A diode fault while no SLAC run is under way (R307, R309). -/
theorem pilotRecognised_diode (hs : s.get Fd.CPL_STAT_STATE = 1) (hl : slacSt s = 7) : pilotRecognised 7 s =
    toSession (.pilot 7) { ((((s.put Fd.CPL_STAT_STATE 7).raise Fd.CPL_EVT_STATECHG).raise Fd.CPL_EVT_DIODE).bump ⟨Reg.CPL_CNT, 16, 16⟩).setRegN Reg.CPL_BAGE 0
      with saf := { s.saf with pilot := 7 } } := by
  have hl' : s.get Fd.VPL_STAT_SLACST = 7 := hl
  simp [pilotRecognised, hs, toSession, slacAbort, slacSt, hl', raise, bump]

/-- A change of the pilot's level in a connected state: the levels and the age noted, and the state recognised (R306, R308). -/
theorem pilotMeasure_of_change {high low : Int} {age l st : Nat} (hl : levelState s.vl.level high = l) (hd : s.get Fd.CPL_STAT_DRIVE = 1)
    (hst : (if (l == 1 || l == 2 || l == 3) && decide (-10500 < low) then 7 else l) = st) (hs : s.get Fd.CPL_STAT_STATE = 1) (hne : st ≠ 1) :
    pilotMeasure high low age s = pilotRecognised st ((setVl { s.vl with level := l }
      ((s.put Fd.CPL_LEVEL_HIGH (Bits.ofInt 16 high)).put Fd.CPL_LEVEL_LOW (Bits.ofInt 16 low))).setRegN Reg.CPL_BAGE (min age 0xFFFFFFFF)) := by
  simp only [pilotMeasure, hl, hd, hs, if_true, beq_self_eq_true, Bool.true_and, hst, true_or]
  rw [if_neg hne]

theorem toInt_680 : Exact.toInt (680000 / 1000) = 680 := by decide +kernel

/-- The third measurement of 680 Ω in a row is shown and reported (R310, R311). -/
theorem proxMeasure_third (hm : s.parN Par.PP_MODE = 1) (hb : s.vl.ppBand = 2) (hr : s.vl.ppRun = 2) (hp : s.get Fd.CPL_STAT_PPCODE ≠ 2) :
    proxMeasure (some 680000) s = toSession (.prox 2) (((setVl { s.vl with ppBand := 2, ppRun := 3 }
      (s.setRegN Reg.CPL_PPRES 680)).put Fd.CPL_STAT_PPCODE 2).raise Fd.CPL_EVT_PPCHG) := by
  simp [proxMeasure, proxCode, hm, hb, hr, Ne.symm hp, when, toInt_680]

theorem ofInt_lt (n : Nat) (v : Int) : Bits.ofInt n v < 2 ^ n := by
  have h : (0 : Int) < ((2 ^ n : Nat) : Int) := by exact_mod_cast Nat.two_pow_pos n
  have := Int.emod_lt_of_pos v h
  have := Int.emod_nonneg v (Int.ne_of_gt h)
  rw [Bits.ofInt]
  omega

/-- A reduced burst of no frame (R313). -/
theorem gpSend_nothing (s : State) : (gpSend false 0 s).out = .burst false [] :: s.out ∧ (gpSend false 0 s).on Fd.VPL_EVT_GPREDUCED = true ∧
    (gpSend false 0 s).get ⟨Reg.VPL_GPCNT, 16, 16⟩ = min (s.get ⟨Reg.VPL_GPCNT, 16, 16⟩ + 1) 65535 ∧
      (gpSend false 0 s).vl = { s.vl with burstWait := false } ∧ (gpSend false 0 s).tok = s.tok ∧
        RegsBut [Reg.VPL_EVT, Reg.VPL_GPCNT] s (gpSend false 0 s) := by
  obtain ⟨u, hu⟩ : ∃ u, u = (gpTake 0 (setVl { s.vl with burstWait := false } s)).2 := ⟨_, rfl⟩
  have hs : gpSend false 0 s = ((u.emit (.burst false [])).bump ⟨Reg.VPL_GPCNT, 16, 16⟩).raise Fd.VPL_EVT_GPREDUCED := by
    rw [hu]
    simp [gpSend, gpTake]
  have huw : ∀ f : RegField, u.get f = s.get f := fun f => by rw [hu]; rfl
  have h0 : RegsBut [] s u := by rw [hu]; exact (RegsBut.refl [] s).same rfl
  have hout : u.out = s.out := by rw [hu]; rfl
  have hvl : u.vl = { s.vl with burstWait := false } := by rw [hu]; rfl
  have htok : u.tok = s.tok := by rw [hu]; rfl
  clear hu
  rw [hs]
  refine ⟨?_, by simp [on, raise], by simp [raise, bump, huw, Bits.satAdd], hvl, htok, (h0.mono (by simp)).trans (by simp)⟩
  rw [← hout]
  rfl

end Pilot

/-- Settles O27. -/
theorem pilotAndProximity : Obligations.PilotAndProximity := by
  unfold Obligations.PilotAndProximity
  refine ⟨fun s v vs hh hx hv => ?_, fun s duty hd h1 h2 => ?_, fun s mode duty hd => ?_, fun s hh hd hm => ?_, fun s low age hh hs hl hd h1 h2 ht => ?_,
    fun s low hh hs hl hd h1 h2 h7 => ?_, fun s hh hm hb hr hp => ?_, fun s r hh hm => ?_, fun s n hh hp => ?_, fun s hh hp h1 h2 hb => ?_,
    fun s prio bytes hh hk => ?_, fun s prio bytes hh hk hp hq => ?_⟩
  · have e : execPilotDemandReceive s = .next (pilotDemanded v { s with x19 := vs }) := by rw [execPilotDemandReceive, awake_of_not_held hh, hx]
    obtain ⟨u, hu⟩ : ∃ u, u = setVl { s.vl with await := s.vl.await || v != 0 || s.get Fd.CPL_STAT_SBDEM != 0 }
      (({ s with x19 := vs } : State).put Fd.CPL_STAT_SBDEM v) := ⟨_, rfl⟩
    have e2 : pilotDemanded v { s with x19 := vs } = pilotApply u := by rw [hu]; rfl
    obtain ⟨k1, k2, k3, k4, k5, k6⟩ := pilotApply_spec u
    have hsb : u.get Fd.CPL_STAT_SBDEM = v := by
      rw [hu]
      simpa [setVl] using hv
    refine Answers.mk (e.trans (congrArg _ e2)) (execPilotDemandReceive_answers s) fun hw => ⟨?_, by rw [k4, hsb], ?_, ?_, ?_, ?_, hw⟩
    · rw [(pilotApply_within u).same .x19 (by simp), hu]
      rfl
    · rintro rfl
      have hdr : pilotDrive u = 5 := by simp [pilotDrive, hsb]
      exact ⟨by rw [k1, hdr], by rw [k2, hdr]; rfl⟩
    · rintro rfl
      have hdr : pilotDrive u = 4 := by simp [pilotDrive, hsb]
      exact ⟨by rw [k1, hdr], by rw [k2, hdr]; rfl⟩
    · intro hne
      rw [(pilotApply_within u).same .vl (by simp), hu]
      simp [setVl, hne]
    · exact RegsBut.trans (by rw [hu]; simp [setVl]) k6
  · obtain ⟨u, hu⟩ : ∃ u, u = setVl { s.vl with mode := 0, await := false } ((s.lower Fd.CPL_STAT_COREFB).put Fd.CPL_DUTY_REQ duty) := ⟨_, rfl⟩
    have e : execPilotSessionRequest (some (0, duty)) s = .next (pilotApply u) := by
      rw [execPilotSessionRequest]
      dsimp only
      rw [pilotRequest, if_neg (by simp [hd]), if_neg (by simp), if_neg (by omega), hu]
      rfl
    obtain ⟨k1, k2, k3, k4, k5, k6⟩ := pilotApply_spec u
    have hreq : u.get Fd.CPL_DUTY_REQ = duty := by
      rw [hu]
      simp [setVl, lower]
      omega
    have hcore : u.get Fd.CPL_STAT_COREFB = 0 := by simp [hu, setVl, lower]
    have hsb : u.get Fd.CPL_STAT_SBDEM = 0 := by simp [hu, setVl, lower, hd]
    have hdr : pilotDrive u = 1 := by
      have h1 : u.vl.await = false := by rw [hu]; rfl
      have h2 : u.vl.mode = 0 := by rw [hu]; rfl
      rw [pilotDrive, hsb, h1, h2, on, hcore, hreq]
      simp
      omega
    have hpw : Within [.regs, .vl] s (pilotApply u) := by
      have h0 : Within [.regs, .vl] s u := by
        rw [hu]
        exact Within.comp (((Within.refl _ s).lower rfl).put rfl) (Within.upd_vl _ _) rfl
      exact h0.comp (pilotApply_within u) rfl
    refine Answers.mk (show exec (.pilotSessionRequest (some (0, duty))) s = _ from e) (execPilotSessionRequest_answers (some (0, duty)) s) fun hw => ⟨by rw [k3, hreq], by rw [k1, hdr], by rw [k2, hdr, if_pos rfl, hreq], by rw [on, k5, hcore]; rfl, ?_, ?_, hpw⟩
    · rw [(pilotApply_within u).same .vl (by simp), hu]
      rfl
    · exact RegsBut.trans (by rw [hu]; simp [setVl]) k6
  · have e : execPilotSessionRequest (some (mode, duty)) s = .next (s.lower Fd.CPL_STAT_COREFB) := congrArg Host.Outcome.next (if_pos hd)
    exact ⟨_, e, by simp [lower], by simp [lower], by simp [on, lower], by simp, (Within.refl _ s).lower rfl⟩
  · obtain ⟨u, hu⟩ : ∃ u, u = (s.raise Fd.CPL_STAT_COREFB).raise Fd.CPL_EVT_COREFB := ⟨_, rfl⟩
    have e : execPilotX06Silence s = .next (pilotApply u) := by rw [execPilotX06Silence, awake_of_not_held hh, hu]
    obtain ⟨k1, k2, k3, k4, k5, k6⟩ := pilotApply_spec u
    have hcore : u.get Fd.CPL_STAT_COREFB = 1 := by simp [hu, raise]
    have hdr : pilotDrive u = 0 := by
      have hsb : u.get Fd.CPL_STAT_SBDEM = 0 := by simp [hu, raise, hd]
      have hmode : u.vl.mode = 0 := by rw [hu]; exact hm
      simp [pilotDrive, hsb, hmode, on, hcore]
    refine Answers.mk e (execPilotX06Silence_answers s) fun hw => ⟨by rw [on, k5, hcore]; rfl, ?_, by rw [k1, hdr], by rw [k2, hdr]; rfl, ?_, ?_, hw⟩
    · rw [k6.on (by simp), hu]
      simp [on, raise]
    · rw [k3, hu]
      simp [raise]
    · exact RegsBut.trans (by rw [hu]; simp) (k6.mono (by simp))
  · have hlv : levelState s.vl.level 6000 = 2 := by rw [hl]; decide
    obtain ⟨u, hu⟩ : ∃ u, u = (setVl { s.vl with level := 2 }
      ((s.put Fd.CPL_LEVEL_HIGH (Bits.ofInt 16 6000)).put Fd.CPL_LEVEL_LOW (Bits.ofInt 16 low))).setRegN Reg.CPL_BAGE (min age 0xFFFFFFFF) := ⟨_, rfl⟩
    have e : execPilotStateChange 6000 low age s = .next (pilotRecognised 2 u) := by
      rw [execPilotStateChange, awake_of_not_held hh, pilotMeasure_of_change hlv hd (st := 2) (by simp; omega) hs (by omega), hu]
    have e2 := pilotRecognised_c (s := u) (by rw [hu]; simpa [setVl] using hs) (by rw [hu]; exact ht)
    refine Answers.mk (e.trans (congrArg _ e2)) (execPilotStateChange_answers _ _ _ s) fun hw => ⟨?_, rfl, ?_, ?_, ?_, ?_, ?_, ?_, ?_, hw⟩
    · simp [toSession, raise]
    · simp [toSession, on, raise]
    · simp [toSession, raise, hu, setVl, Bits.ofInt]
    · simp [toSession, raise, hu, setVl]
      exact ofInt_lt 16 low
    · simp [toSession, raise, hu, setVl]
    · rw [hu]
      rfl
    · rw [hu]
      rfl
    · rw [hu]
      simp [toSession, setVl]
  · have hlv : levelState s.vl.level 9000 = 1 := by rw [hl]; decide
    obtain ⟨u, hu⟩ : ∃ u, u = (setVl { s.vl with level := 1 }
      ((s.put Fd.CPL_LEVEL_HIGH (Bits.ofInt 16 9000)).put Fd.CPL_LEVEL_LOW (Bits.ofInt 16 low))).setRegN Reg.CPL_BAGE (min 5 0xFFFFFFFF) := ⟨_, rfl⟩
    have e : execPilotStateChange 9000 low 5 s = .next (pilotRecognised 7 u) := by
      rw [execPilotStateChange, awake_of_not_held hh, pilotMeasure_of_change hlv hd (st := 7) (by simp [h1]) hs (by omega), hu]
    have e2 := pilotRecognised_diode (s := u) (by rw [hu]; simpa [setVl] using hs) (by rw [hu]; simpa [slacSt, setVl] using h7)
    refine Answers.mk (e.trans (congrArg _ e2)) (execPilotStateChange_answers _ _ _ s) fun hw => ⟨?_, rfl, ?_, ?_, ?_, ?_, ?_, hw⟩
    · simp [toSession, raise, bump]
    · simp [toSession, on, raise, bump]
    · simp [toSession]
    · rw [hu]
      rfl
    · rw [hu]
      simpa [toSession, raise, bump, setVl, slacSt] using h7
    · rw [hu]
      simp [toSession, setVl]
  · have e : execProximityMeasure (some 680000) s = .next (toSession (.prox 2) (((setVl { s.vl with ppBand := 2, ppRun := 3 }
        (s.setRegN Reg.CPL_PPRES 680)).put Fd.CPL_STAT_PPCODE 2).raise Fd.CPL_EVT_PPCHG)) :=
      (awake_of_not_held hh).trans (congrArg Host.Outcome.next (proxMeasure_third hm hb hr hp))
    have hvl : ({ s.vl with ppBand := 2, ppRun := 3 } : VlState) = { s.vl with ppRun := 3 } := by rw [← hb]
    refine Answers.mk e (execProximityMeasure_answers _ s) fun hw => ⟨?_, ?_, ?_, hvl, rfl, ?_, hw.sub rfl⟩
    · simp [toSession, setVl, raise]
    · simp [toSession, setVl, raise]
    · simp [toSession, on, raise]
    · simp [toSession, setVl]
  · have e : execProximityMeasure r s = .next ((s.put Fd.CPL_STAT_PPCODE 15).setRegN Reg.CPL_PPRES 0xFFFFFFFF) :=
      (awake_of_not_held hh).trans (congrArg Host.Outcome.next (if_pos hm))
    exact ⟨_, e, by simp, by simp, by simp, ((Within.refl _ s).put rfl).setRegN rfl⟩
  · exact ⟨s, (awake_of_not_held hh).trans (congrArg Host.Outcome.next (if_pos hp)), rfl⟩
  · have e : execGpBurstTransmit 0 s = .next (gpSend false 0 s) := by
      rw [execGpBurstTransmit, awake_of_not_held hh, gpBurst, if_neg (by simp [hp]), if_neg (by simp [h1]), if_neg (by simp [h2]), if_pos hb]
    obtain ⟨k1, k2, k3, k4, k5, k6⟩ := gpSend_nothing s
    exact Answers.mk e (execGpBurstTransmit_answers 0 s) fun hw => ⟨k1, k2, k3, k4, k5, k6, hw⟩
  · exact ⟨s, (awake_of_not_held hh).trans (congrArg Host.Outcome.next (if_neg (by simp [hk]))), rfl⟩
  · have e : execGpFrameReceive prio bytes s = .next ((s.bump ⟨Reg.VPL_RXDROP, 0, 16⟩).raise Fd.VPL_EVT_RXDROP) := by
      rw [execGpFrameReceive, awake_of_not_held hh, if_pos hk, vehicleReceive, if_pos hp]
      exact congrArg Host.Outcome.next (if_pos (by omega))
    exact ⟨_, e, by simp [bump, raise, Bits.satAdd], by simp [on, raise], rfl, by simp, ((Within.refl _ s).bump rfl).raise rfl⟩

end Sys2Proof.Machine
end

section
/-!
The reports of the Signal Box (spec/10_charging_session.md R361): why a stop need not show state 9 in every state.
-/
namespace Sys2Proof.Machine

open State

/-- A powered module with a session in state n and contactor outputs 0 to 2 on, that holds a Token and has deferred a request with a kind that no island has.
The register that counts grants of such a kind (spec/01_architecture.md, TOK_CNT) lies at the address `Reg.TOK_CNT kind`. -/
def strayToken (n : Nat) (held : TokEntry) (kind : Nat) : State :=
  { (((State.reset.put Fd.PWR_VSYS_MV 65535).raise Fd.PWR_STAT_PG).put Fd.SES_STAT_STATE n).put Fd.SAF_OUT_SO 7 with
    tok := ⟨[held], [⟨kind, 0, 0, 0, false⟩]⟩ }

/-- The count of grants of kind 270272 lies in SES_STAT. -/
theorem tokCnt_sesStat : Reg.TOK_CNT 270272 = Reg.SES_STAT := rfl

/-- A session that charges under a Token of kind 1, while a request of kind 270272 is deferred and the Signal Box has reported a trip. -/
def strayTrip : State := { strayToken 7 ⟨1, 0, 0, 0, false⟩ 270272 with x03 := [.cause 8] }

/-- The stop releases the Token of kind 1, the deferred request is granted, and its count moves the session from state 9 to 10. -/
theorem sesSt_strayTrip : sesSt (sesEndCheck (statusTake (.cause 8) { strayTrip with x03 := [] })) = 10 := by decide +kernel

/-- Refutes O60: the clause of a trip says the session is in state 9 in every state, but serving a deferred request of kind 270272 counts it in SES_STAT
itself (strayTrip; no run of the module reaches it, as requests have kinds 0 to 8). -/
theorem not_safetyReports : ¬ Obligations.SafetyReports := by
  unfold Obligations.SafetyReports
  rintro ⟨-, -, -, htrip, -⟩
  have hrun : strayTrip.running = true := by decide +kernel
  have hon : contactorOn strayTrip = true := by decide +kernel
  have hst : sesSt strayTrip = 7 := by decide +kernel
  obtain ⟨t, ht, h9, -⟩ := htrip strayTrip [] hrun rfl hst rfl hon
  have e : exec .safetyStatusReceive strayTrip = .next (sesEndCheck (statusTake (.cause 8) { strayTrip with x03 := [] })) :=
    congrArg Host.Outcome.next (if_pos hrun)
  rw [← Host.Outcome.next.inj (e.symm.trans ht), sesSt_strayTrip] at h9
  exact absurd h9 (by decide)

end Sys2Proof.Machine
end

section
/-!
Stops of the session (spec/10_charging_session.md R361): why a stop with a contactor on need not wait with its open request in every state.
-/
namespace Sys2Proof.Machine

open State

/-- The count of grants of kind 188357 lies in SAF_OUT. -/
theorem tokCnt_safOut : Reg.TOK_CNT 188357 = Reg.SAF_OUT := rfl

/-- A session in state n that holds its close Token, while a request of kind 188357 is deferred and a current flows. -/
def strayClose (n : Nat) : State := (strayToken n ⟨0, 1, 0, 0, false⟩ 188357).setRegN (Reg.MTR_IDC 0) 1000000

/-- The session of strayClose whose vehicle has left. -/
def strayLeft : State := { strayClose 7 with x05 := [.pilot 0] }

/-- The stop gives the close Token up, the deferred request is granted, and its count moves SAF_OUT.SO from 7 to 8: no contactor output is on, and the open
request goes out at once. -/
theorem openSent_strayLeft : (sesReport (.pilot 0) { strayLeft with x05 := [] }).ses.openSent = true := by decide +kernel

/-- Refutes O30: the clause of a vehicle that has left says the open request waits in every state with a contactor on, but serving a deferred request of
kind 188357 counts it in SAF_OUT itself (strayLeft; no run of the module reaches it, as requests have kinds 0 to 8). -/
theorem not_sessionEvents : ¬ Obligations.SessionEvents := by
  unfold Obligations.SessionEvents
  rintro ⟨-, -, hleft, -⟩
  have hon : contactorOn strayLeft = true := by decide +kernel
  have hst : sesSt strayLeft = 7 := by decide +kernel
  obtain ⟨t, ht, ⟨-, -, -, hopen, -⟩, -⟩ := hleft strayLeft [] rfl (by omega) (by omega) hon rfl
  have e : exec .sessionPilotEvent strayLeft = .next (sesReport (.pilot 0) { strayLeft with x05 := [] }) := rfl
  rw [← Host.Outcome.next.inj (e.symm.trans ht), openSent_strayLeft] at hopen
  exact absurd hopen (by decide)

/-- The same at the end of AUTH_WAIT_T. -/
theorem openSent_authTimeout : (authTimeout (strayClose 3)).ses.openSent = true := by decide +kernel

/-- Refutes O31: the clause of AUTH_WAIT_T says the open request waits in every state with a contactor on, but serving a deferred request of kind 188357
counts it in SAF_OUT itself (strayClose; no run of the module reaches it, as requests have kinds 0 to 8). -/
theorem not_authorisation : ¬ Obligations.Authorisation := by
  unfold Obligations.Authorisation
  rintro ⟨-, -, -, -, -, -, htime, -⟩
  have hon : contactorOn (strayClose 3) = true := by decide +kernel
  have hst : sesSt (strayClose 3) = 3 := by decide +kernel
  obtain ⟨t, ht, ⟨-, -, -, hopen, -⟩, -⟩ := htime (strayClose 3) hst rfl hon rfl
  have e : exec .authWaitTimeout (strayClose 3) = .next (authTimeout (strayClose 3)) := rfl
  rw [← Host.Outcome.next.inj (e.symm.trans ht), openSent_authTimeout] at hopen
  exact absurd hopen (by decide)

/-- The same in the cable check. -/
theorem openSent_cableCheck : (sesStop 8 (strayClose 5)).ses.openSent = true := by decide +kernel

/-- Refutes O32: the clause of a cable check that takes too long says the open request waits in every state with a contactor on, but serving a deferred
request of kind 188357 counts it in SAF_OUT itself (strayClose; no run of the module reaches it, as requests have kinds 0 to 8). -/
theorem not_sitePower : ¬ Obligations.SitePower := by
  unfold Obligations.SitePower
  rintro ⟨-, -, -, hcable, -⟩
  have hon : contactorOn (strayClose 5) = true := by decide +kernel
  have hst : sesSt (strayClose 5) = 5 := by decide +kernel
  have hlow : sesLow (strayClose 5) = false := by decide +kernel
  obtain ⟨t, ht, ⟨-, -, -, hopen, -⟩, -⟩ := hcable (strayClose 5) hst hon hlow
  have e : exec .cableCheckTimeout (strayClose 5) = .next (sesStop 8 (strayClose 5)) := congrArg Host.Outcome.next (if_pos hst)
  rw [← Host.Outcome.next.inj (e.symm.trans ht), openSent_cableCheck] at hopen
  exact absurd hopen (by decide)

end Sys2Proof.Machine
end

section
/-!
The trial of a code bank (spec/19_firmware_update.md R565, R566): why its reversal need not show UPD_STAT.STATE 0 in every state.
-/
namespace Sys2Proof.Machine

open State

/-- The count of grants of kind 384960 lies in UPD_STAT. -/
theorem tokCnt_updStat : Reg.TOK_CNT 384960 = Reg.UPD_STAT := rfl

/-- A trial under way with a Token of kind 1 held, while a request of kind 384960 is deferred. -/
def strayTrial : State := (strayToken 0 ⟨1, 0, 0, 0, false⟩ 384960).raise Fd.UPD_STAT_TRIAL

/-- The reset of the cores releases the session's Token, the deferred request is granted, and its count moves UPD_STAT.STATE from 0 to 1. -/
theorem updStat_strayTrial : (trialRevert strayTrial).get Fd.UPD_STAT_STATE = 1 := by decide +kernel

/-- Refutes O54: the clause of a trial that times out says UPD_STAT.STATE is 0 in every state, but serving a deferred request of kind 384960 counts it in
UPD_STAT itself (strayTrial; no run of the module reaches it, as requests have kinds 0 to 8). -/
theorem not_firmwareUpdate : ¬ Obligations.FirmwareUpdate := by
  unfold Obligations.FirmwareUpdate
  rintro ⟨-, -, -, -, -, -, -, -, -, -, -, -, -, -, -, -, -, htime, -⟩
  have hon : strayTrial.on Fd.UPD_STAT_TRIAL = true := by decide +kernel
  obtain ⟨t, ht, -, -, h0, -⟩ := htime strayTrial hon
  have e : exec .updateTrialTimeout strayTrial = .next (trialRevert strayTrial) := congrArg Host.Outcome.next (if_pos hon)
  rw [← Host.Outcome.next.inj (e.symm.trans ht), updStat_strayTrial] at h0
  exact absurd h0 (by decide)

end Sys2Proof.Machine
end

section
/-!
Coordination with neighbours and the T1S link (spec/09_vehicle_link.md R319 to R325).
-/
namespace Sys2Proof.Machine

open State

theorem slacSt_coordTake (n : Nat) (s : State) : slacSt (coordTake n s).2 = slacSt s :=
  RegsBut.get (l := []) ((coordTake_within n s).regsBut (by simp)) (by simp)

theorem coordReport_of_idle (m : List Byte) {s : State} (h : slacSt s ≠ 3) : coordReport m s = s := if_neg (by simp [h])

theorem coordWithdraw_of_idle (m : List Byte) (since : Nat) {s : State} (h3 : slacSt s ≠ 3) (h8 : slacSt s ≠ 8) : coordWithdraw m since s = s := by
  simp only [coordWithdraw, if_neg h3, h8, false_and, if_false, ite_self]

/-- An answer to the vehicle (R318): the state and what it shows. -/
theorem slacAnswer_spec (s : State) : slacSt (slacAnswer s) = 4 ∧ (slacAnswer s).on Fd.VPL_STAT_COORD = false ∧
    (slacAnswer s).vl = { s.vl with repeats := 0 } ∧ (slacAnswer s).out = .slac (.attenChar s.vl.runId (s.get Fd.VPL_ATTEN_ATTEN)) :: s.out ∧
      RegsBut [Reg.VPL_STAT] s (slacAnswer s) := by
  refine ⟨by simp [slacAnswer, slacSt, setVl, lower], by simp [slacAnswer, setVl, lower, on], rfl, ?_, by simp [slacAnswer, setVl]⟩
  simp [slacAnswer, setVl, lower, emit]

theorem linkUse_of_none {kind : Nat} {s : State} (h : s.get Fd.VPL_STAT_LINK = 0) : linkUse kind s = toSession (.link kind) (s.put Fd.VPL_STAT_LINK kind) :=
  if_pos h

/-- A frame received with room in its queue changes no register. -/
theorem vehicleReceive_of_room {base : Nat} {drop : RegField} {prio : Nat} {bytes : List Byte} {s : State} (hp : prio < 4) (hq : (queue s (base + 1)).length < 8) :
    vehicleReceive base drop prio bytes s = enqueue (base + 1) (Frame.plain bytes) s := by
  simp only [vehicleReceive, if_neg (by omega : ¬ 4 ≤ prio)]
  exact if_neg (by omega)

/-- A T1S link shown up (R324). -/
theorem t1sUp_spec {s u v : State} (hr : RegsBut [] s u) (hv : v = if s.on Fd.VPL_STAT_T1SUP then u else (u.raise Fd.VPL_STAT_T1SUP).raise Fd.VPL_EVT_T1SUP) :
    v.on Fd.VPL_STAT_T1SUP = true ∧ v.get Fd.VPL_STAT_LINK = s.get Fd.VPL_STAT_LINK ∧ RegsBut [Reg.VPL_STAT, Reg.VPL_EVT] s v := by
  cases hon : s.on Fd.VPL_STAT_T1SUP with
  | true =>
    rw [hon, if_pos rfl] at hv
    rw [hv]
    exact ⟨by rw [hr.on (by simp), hon], hr.get (by simp), hr.mono (by simp)⟩
  | false =>
    rw [hon, if_neg (by simp)] at hv
    rw [hv]
    refine ⟨by simp [on, raise], ?_, (hr.mono (by simp)).trans (by simp)⟩
    rw [← hr.get (g := Fd.VPL_STAT_LINK) (by simp)]
    simp [raise]

/-- Settles O29. -/
theorem slacCoordination : Obligations.SlacCoordination := by
  unfold Obligations.SlacCoordination
  refine ⟨fun s hh h3 => ?_, fun s hh h3 hd => ?_, fun s hh h3 => ⟨s, (awake_of_not_held hh).trans (congrArg Host.Outcome.next (if_neg h3)), rfl⟩,
    fun s since hh h3 h8 => ?_, fun s prio bytes hh hm => ⟨s, (awake_of_not_held hh).trans (congrArg Host.Outcome.next (if_pos hm)), rfl⟩,
    fun s prio bytes hh hm hs hl hq hp => ?_, fun s hh hon hl => ?_, fun s hh => ?_⟩
  · have e : execCoordReportReceive s = .next (coordTake 1 s).2 := by
      rw [execCoordReportReceive, awake_of_not_held hh, coordReport_of_idle _ (by rwa [slacSt_coordTake])]
    have hw := coordTake_within 1 s
    exact ⟨_, e, hw.same .vl (by simp), hw.regsBut (by simp), hw⟩
  · obtain ⟨u, hu⟩ : ∃ u, u = s.put Fd.VPL_ATTEN_NREP (s.vl.reports.filter (fun r => r.src != s.parN Par.GRP_ADDR)).length := ⟨_, rfl⟩
    have e : execCoordWindowEnd s = .next (slacAnswer (setVl { u.vl with validate := s.parB Par.SLAC_VALIDATE } (u.raise Fd.VPL_EVT_COORDLOST))) := by
      rw [execCoordWindowEnd, awake_of_not_held hh, coordEnd, if_pos h3, if_neg (by simp [hd]), hu]
    obtain ⟨k1, k2, k3, k4, k5⟩ := slacAnswer_spec (setVl { u.vl with validate := s.parB Par.SLAC_VALIDATE } (u.raise Fd.VPL_EVT_COORDLOST))
    have hatt : u.get Fd.VPL_ATTEN_ATTEN = s.get Fd.VPL_ATTEN_ATTEN := by rw [hu]; simp
    have hvl : u.vl = s.vl := by rw [hu]; rfl
    have hout : u.out = s.out := by rw [hu]; rfl
    refine Answers.mk e (execCoordWindowEnd_answers s) fun hw => ⟨k1, ?_, by rw [k3]; rfl, by rw [k3], k2, ?_, ?_, ?_⟩
    · rw [k5.on (by simp)]
      simp [setVl, on, raise]
    · rw [k4, ← hatt, ← hvl, ← hout]
      simp [setVl, raise]
    · exact RegsBut.trans (by rw [hu]; simp [setVl]) (k5.mono (by simp))
    · have h0 : Within [.regs, .vl, .out] s (u.raise Fd.VPL_EVT_COORDLOST) := by
        rw [hu]
        exact ((Within.refl _ s).put rfl).raise rfl
      exact (h0.comp (Within.upd_vl _ _) rfl).comp (slacAnswer_within _) rfl
  · have e : execCoordWithdrawReceive since s = .next (coordTake 2 s).2 := by
      rw [execCoordWithdrawReceive, awake_of_not_held hh, coordWithdraw_of_idle _ _ (by rwa [slacSt_coordTake]) (by rwa [slacSt_coordTake])]
    have hw := coordTake_within 2 s
    exact ⟨_, e, hw.same .vl (by simp), hw.regsBut (by simp), hw⟩
  · obtain ⟨u, hu⟩ : ∃ u, u = enqueue 19 (Frame.plain bytes) s := ⟨_, rfl⟩
    have hr : RegsBut [] s u := by rw [hu]; exact (enqueue_within _ _ s).regsBut (by simp)
    have hx : u.x05 = s.x05 := by rw [hu]; rfl
    obtain ⟨v, hv⟩ : ∃ v, v = if s.on Fd.VPL_STAT_T1SUP then u else (u.raise Fd.VPL_STAT_T1SUP).raise Fd.VPL_EVT_T1SUP := ⟨_, rfl⟩
    have e : execT1sFrameReceive prio bytes s = .next (t1sTake v) := by
      rw [execT1sFrameReceive, awake_of_not_held hh, if_neg (by omega)]
      dsimp only
      rw [vehicleReceive_of_room hp hq, hv, hu]
    obtain ⟨k1, k2, k3⟩ := t1sUp_spec hr hv
    have hmode : v.parN Par.VL_MODE = 1 := by
      rw [hv, hu]
      split <;> exact hm
    have hlink : v.get Fd.VPL_STAT_LINK = 0 := (k2.trans hl)
    have e2 : t1sTake v = toSession (.link 2) (v.put Fd.VPL_STAT_LINK 2) := by
      rw [t1sTake, if_pos (by simp [k1, hlink, k3.get (g := Fd.CPL_STAT_STATE) (by simp), hs]), if_pos hmode, linkUse_of_none hlink]
    refine Answers.mk (e.trans (congrArg _ e2)) (execT1sFrameReceive_answers _ _ s) fun hw => ⟨?_, by simp [toSession], ?_, ?_, hw⟩
    · simpa [toSession, on] using k1
    · have : v.x05 = s.x05 := by
        rw [hv, ← hx]
        split <;> rfl
      rw [← this]
      rfl
    · exact (k3.mono (by simp)).trans (by simp [toSession])
  · have e : execT1sLinkTimeout s = .next (toSession .linkFail ((s.lower Fd.VPL_STAT_T1SUP).raise Fd.VPL_EVT_T1SDOWN)) := by
      rw [execT1sLinkTimeout, awake_of_not_held hh, if_pos hon, if_pos hl]
    exact Answers.mk e (execT1sLinkTimeout_answers s) fun hw => ⟨by simp [toSession, on, raise, lower], by simp [toSession, on, raise, lower], rfl,
      by simp [toSession], hw⟩
  · exact ⟨_, awake_of_not_held hh, rfl, (RegsBut.refl [] s).same rfl, Within.upd_saf _ _⟩

end Sys2Proof.Machine
end

section
/-!
The shadow set of a Shunter channel, its activation, completion and stop (spec/22_shunter_dma.md R610 to R618).
-/
namespace Sys2Proof.Machine

open State

section Channel

variable {s : State} {ch : Nat}

theorem shnDesc_ne_ch (w : Nat) {k : Nat} (h : k < 32) : Reg.SHN_DESC ch w ≠ Reg.SHN_CH k := by grind

theorem shnDesc_ne_low (ch w : Nat) {a : Nat} (h : a < 0x50040) : Reg.SHN_DESC ch w ≠ a := by grind

theorem shnCh_ne_low (ch : Nat) {a : Nat} (h : a < 0x50040) : Reg.SHN_CH ch ≠ a := by grind

theorem shnDesc_inj {v w : Nat} (h : v ≠ w) : Reg.SHN_DESC ch v ≠ Reg.SHN_DESC ch w := by grind

theorem shnState_spec (hc : ch < 32) {st : Nat} (hst : st < 4) (s : State) :
    (shnState ch st s).get (Fd.SHN_CH_STATE ch) = st ∧ (shnState ch st s).bitOf Reg.SHN_BUSY ch = (st == 1) ∧
      (shnState ch st s).on (Fd.SHN_DESC_VALID ch 3) = (st == 1) ∧ (shnState ch st s).get (Fd.SHN_CH_ERRCODE ch) = s.get (Fd.SHN_CH_ERRCODE ch) ∧
        RegsBut [Reg.SHN_CH ch, Reg.SHN_BUSY, Reg.SHN_DESC ch 3] s (shnState ch st s) := by
  have hd := shnDesc_ne_ch (ch := ch) 3 hc
  have hl := shnDesc_ne_low ch 3 (a := Reg.SHN_BUSY) (by decide)
  have hk := shnCh_ne_low ch (a := Reg.SHN_BUSY) (by decide)
  refine ⟨?_, ?_, ?_, ?_, by simp [shnState]⟩
  · rw [shnState, putB, get_put_other _ _ _ _ (.inl hd), putBit, get_put_other _ _ _ _ (.inl hk.symm), get_put_same _ _ _ (by simp)]
    exact Nat.mod_eq_of_lt hst
  · rw [shnState, putB, bitOf_put _ _ _ _ _ (by simp), if_neg fun h => hl.symm h.1, bitOf_putBit _ _ _ _ _ _ hc, if_pos ⟨rfl, rfl⟩]
  · rw [shnState, on_putB _ _ _ (by simp) (by simp)]
  · rw [shnState, putB, get_put_other _ _ _ _ (.inl hd), putBit, get_put_other _ _ _ _ (.inl hk.symm), get_put_other _ _ _ _ (.inr (by simp))]

theorem shnCode_spec (hc : ch < 32) {code : Nat} (hcode : code < 16) (s : State) :
    (shnCode ch code s).get (Fd.SHN_CH_ERRCODE ch) = code ∧ (shnCode ch code s).bitOf Reg.SHN_ERR ch = true ∧
      (shnCode ch code s).get (Fd.SHN_CH_STATE ch) = s.get (Fd.SHN_CH_STATE ch) ∧ RegsBut [Reg.SHN_CH ch, Reg.SHN_ERR] s (shnCode ch code s) := by
  have hk := shnCh_ne_low ch (a := Reg.SHN_ERR) (by decide)
  refine ⟨?_, ?_, ?_, by simp [shnCode]⟩
  · rw [shnCode, putBit, get_put_other _ _ _ _ (.inl hk.symm), get_put_same _ _ _ (by simp)]
    exact Nat.mod_eq_of_lt hcode
  · rw [shnCode, bitOf_putBit _ _ _ _ _ _ hc, if_pos ⟨rfl, rfl⟩]
  · rw [shnCode, putBit, get_put_other _ _ _ _ (.inl hk.symm), get_put_other _ _ _ _ (.inr (by simp))]

theorem shnDisarm_spec (hc : ch < 32) (s : State) : (shnDisarm ch s).bitOf Reg.SHN_SHDV ch = false ∧
    RegsBut [Reg.SHN_SHDV, Reg.SHN_DESC ch 11] s (shnDisarm ch s) :=
  ⟨by rw [shnDisarm, bitOf_putBit _ _ _ _ _ _ hc, if_pos ⟨rfl, rfl⟩], by simp [shnDisarm]⟩

/-- The active words take the shadow's. -/
def shnTake (ch : Nat) (s : State) : State := upTo 8 (fun w u => u.setReg (Reg.SHN_DESC ch w) (u.reg (Reg.SHN_DESC ch (8 + w)))) s

theorem shnTake_regsBut (ch : Nat) (s : State) : RegsBut ((List.range 8).map (fun w => Reg.SHN_DESC ch w)) s (shnTake ch s) :=
  upTo_regsBut 8 (fun _ hi u => (RegsBut.refl _ u).setReg (List.mem_map_of_mem (List.mem_range.2 hi))) s

theorem shnTake_spec (ch : Nat) (s : State) {w : Nat} (hw : w < 8) : (shnTake ch s).reg (Reg.SHN_DESC ch w) = s.reg (Reg.SHN_DESC ch (8 + w)) := by
  have key (n : Nat) (hn : n ≤ 8) : ∀ t, t = upTo n (fun w u => u.setReg (Reg.SHN_DESC ch w) (u.reg (Reg.SHN_DESC ch (8 + w)))) s →
      (∀ v, n ≤ v → t.reg (Reg.SHN_DESC ch v) = s.reg (Reg.SHN_DESC ch v)) ∧ ∀ v, v < n → t.reg (Reg.SHN_DESC ch v) = s.reg (Reg.SHN_DESC ch (8 + v)) := by
    induction n with
    | zero =>
      rintro t rfl
      exact ⟨fun _ _ => rfl, fun v hv => absurd hv (by omega)⟩
    | succ n ih =>
      rintro t rfl
      obtain ⟨hrest, hdone⟩ := ih (by omega) _ rfl
      have e : upTo (n + 1) (fun w (u : State) => u.setReg (Reg.SHN_DESC ch w) (u.reg (Reg.SHN_DESC ch (8 + w)))) s =
          (upTo n (fun w (u : State) => u.setReg (Reg.SHN_DESC ch w) (u.reg (Reg.SHN_DESC ch (8 + w)))) s).setReg (Reg.SHN_DESC ch n)
            ((upTo n (fun w (u : State) => u.setReg (Reg.SHN_DESC ch w) (u.reg (Reg.SHN_DESC ch (8 + w)))) s).reg (Reg.SHN_DESC ch (8 + n))) := by
        simp [upTo, List.range_succ]
      rw [e, hrest _ (by omega)]
      refine ⟨fun v hv => by rw [reg_setReg_of_ne _ _ (shnDesc_inj (by omega)), hrest v (by omega)], fun v hv => ?_⟩
      by_cases h : v = n
      · rw [h, reg_setReg_self]
      · rw [reg_setReg_of_ne _ _ (shnDesc_inj h), hdone v (by omega)]
  exact (key 8 (Nat.le_refl 8) _ rfl).2 w hw

/-- The shadow set loaded, before it is checked (R611). -/
def shnLoaded (ch : Nat) (s : State) : State :=
  ((shnState ch 1 (shnTake ch (shnDisarm ch s))).put (Fd.SHN_CH_ERRCODE ch) 0).put (Fd.SHN_CH_DONE ch) 0

theorem shnLoad_eq (ch : Nat) (s : State) : shnLoad ch s =
    if shnRefuse (shnLoaded ch s) ch (shnSet (shnLoaded ch s) ch 0) ≠ 0 then
      shnCode ch (shnRefuse (shnLoaded ch s) ch (shnSet (shnLoaded ch s) ch 0)) (shnState ch 3 (shnLoaded ch s))
    else if shnOp (shnSet (shnLoaded ch s) ch 0) = 5 ∧ shnQueues ch = [] then (shnLoaded ch s).setRegN (Reg.SHN_CMP ch) 0
    else shnLoaded ch s := rfl

/-- What a load of the shadow set leaves, whatever the set is (R611). -/
theorem shnLoaded_spec (hc : ch < 32) (s : State) : (shnLoaded ch s).get (Fd.SHN_CH_STATE ch) = 1 ∧ (shnLoaded ch s).get (Fd.SHN_CH_DONE ch) = 0 ∧
    (shnLoaded ch s).bitOf Reg.SHN_BUSY ch = true ∧ (shnLoaded ch s).bitOf Reg.SHN_SHDV ch = false ∧
      RegsBut ([Reg.SHN_BUSY, Reg.SHN_SHDV, Reg.SHN_CH ch, Reg.SHN_DESC ch 11] ++ (List.range 8).map (fun w => Reg.SHN_DESC ch w)) s (shnLoaded ch s) := by
  obtain ⟨k1, k2, k3, k4, k5⟩ := shnState_spec hc (st := 1) (by omega) (shnTake ch (shnDisarm ch s))
  obtain ⟨d1, d2⟩ := shnDisarm_spec hc s
  have hd := shnTake_regsBut ch (shnDisarm ch s)
  have hlow (a : Nat) (ha : a < 0x50040) : a ∉ [Reg.SHN_CH ch] := by simpa using (shnCh_ne_low ch ha).symm
  have hput : RegsBut [Reg.SHN_CH ch] (shnState ch 1 (shnTake ch (shnDisarm ch s))) (shnLoaded ch s) := by simp [shnLoaded]
  refine ⟨?_, ?_, ?_, ?_, ?_⟩
  · rw [shnLoaded, get_put_other _ _ _ _ (.inr (by simp)), get_put_other _ _ _ _ (.inr (by simp)), k1]
  · rw [shnLoaded, get_put_same _ _ _ (by simp)]
    rfl
  · rw [hput.bitOf (hlow _ (by decide)), k2]
    rfl
  · rw [hput.bitOf (hlow _ (by decide)), k5.bitOf (by grind), hd.bitOf (by grind), d1]
  · refine (d2.mono (List.subset_append_of_subset_left _ (by simp))).trans ((hd.mono (List.subset_append_right _ _)).trans
      ((k5.mono fun x hx => ?_).trans (hput.mono (by simp))))
    have hm : Reg.SHN_DESC ch 3 ∈ (List.range 8).map (fun w => Reg.SHN_DESC ch w) := List.mem_map_of_mem (by simp)
    simp only [List.mem_append, List.mem_cons, List.not_mem_nil, or_false] at hx ⊢
    rcases hx with rfl | rfl | rfl
    · grind
    · grind
    · exact .inr hm

theorem shn_notMem_hostRegs {p : Path} {a : Nat} (h : a < 0x60000) : a ∉ hostRegs p := by
  cases p <;> grind [hostRegs]

/-- The access of a host write changes no register of the Shunter. -/
theorem hostAccess_shn {p : Path} {a : Nat} (h : a < 0x60000) : (hostAccess p s).reg a = s.reg a :=
  hostAccess_regsBut p s a (shn_notMem_hostRegs h)

theorem shnDesc_lt (hc : ch < 32) {w : Nat} (hw : w < 16) : Reg.SHN_DESC ch w < 0x60000 := by grind

theorem shnCh_lt (hc : ch < 32) : Reg.SHN_CH ch < 0x60000 := by grind

/-- The shadow set armed (R611). -/
def shnArm (ch : Nat) (cfg : Word) (s : State) : State := (s.setReg (Reg.SHN_DESC ch 11) (cfg &&& 0x80003F7F)).putBit Reg.SHN_SHDV ch true

theorem shnArm_regsBut (ch : Nat) (cfg : Word) (s : State) : RegsBut [Reg.SHN_SHDV, Reg.SHN_DESC ch 11] s (shnArm ch cfg s) := by simp [shnArm]

theorem shnShadow_of_armed {w : Nat} {v : Word} (hw : 8 ≤ w) (hw2 : w < 16) (h : s.bitOf Reg.SHN_SHDV ch = true) : shnShadow ch w v s = shnCode ch 7 s := by
  rw [shnShadow, if_neg (by omega), if_pos h]

theorem shnShadow_cfg {cfg : Word} (h : s.bitOf Reg.SHN_SHDV ch = false) (hb : Bits.bit cfg 31 = true) : shnShadow ch 11 cfg s =
    if ((shnArm ch cfg s).get (Fd.SHN_CH_STATE ch) = 0 ∨ (shnArm ch cfg s).get (Fd.SHN_CH_STATE ch) = 2) ∧ shnMayStart (shnArm ch cfg s) ch
      then shnLoad ch (shnArm ch cfg s) else shnArm ch cfg s := by
  rw [shnShadow, if_neg (by omega), if_neg (by simp [h]), if_pos rfl]
  exact if_pos hb

theorem get_shnArm_state (cfg : Word) : (shnArm ch cfg s).get (Fd.SHN_CH_STATE ch) = s.get (Fd.SHN_CH_STATE ch) :=
  (shnArm_regsBut ch cfg s).get (by grind)

/-- The shadow set of a channel that is idle or stopped becomes active at once (R611). -/
theorem shnShadow_of_idle {cfg : Word} (h : s.bitOf Reg.SHN_SHDV ch = false) (hb : Bits.bit cfg 31 = true)
    (h0 : s.get (Fd.SHN_CH_STATE ch) = 0) (hp : s.pfw = false) : shnShadow ch 11 cfg s = shnLoad ch (shnArm ch cfg s) := by
  have hpfw : (shnArm ch cfg s).pfw = false := (pfw_congr (shnArm_regsBut ch cfg s) (by grind) rfl).trans hp
  rw [shnShadow_cfg h hb, if_pos ⟨.inl ((get_shnArm_state cfg).trans h0), by simp [shnMayStart, hpfw]⟩]

/-- The registers that the load of a shadow set touches, and those of its refusal. -/
def shnLoadRegs (ch : Nat) : List Nat :=
  [Reg.SHN_CH ch, Reg.SHN_ERR, Reg.SHN_SHDV, Reg.SHN_BUSY, Reg.SHN_DESC ch 11] ++ (List.range 8).map (fun w => Reg.SHN_DESC ch w)

theorem shnDesc_mem_loadRegs {w : Nat} (h : w < 8) : Reg.SHN_DESC ch w ∈ shnLoadRegs ch :=
  List.mem_append_right _ (List.mem_map_of_mem (List.mem_range.2 h))

theorem shnLoaded_subset (ch : Nat) :
    [Reg.SHN_BUSY, Reg.SHN_SHDV, Reg.SHN_CH ch, Reg.SHN_DESC ch 11] ++ (List.range 8).map (fun w => Reg.SHN_DESC ch w) ⊆ shnLoadRegs ch :=
  List.append_subset.2 ⟨List.subset_append_of_subset_left _ (by simp), List.subset_append_right _ _⟩

/-- A shadow set refused as it becomes active (R608, R613, R616). -/
theorem shnLoad_refused (hc : ch < 32) {c : Nat} (hcode : shnRefuse (shnLoaded ch s) ch (shnSet (shnLoaded ch s) ch 0) = c) (h0 : c ≠ 0) (h16 : c < 16) :
    (shnLoad ch s).get (Fd.SHN_CH_STATE ch) = 3 ∧ (shnLoad ch s).get (Fd.SHN_CH_ERRCODE ch) = c ∧ (shnLoad ch s).bitOf Reg.SHN_ERR ch = true ∧
      (shnLoad ch s).bitOf Reg.SHN_SHDV ch = false ∧ (shnLoad ch s).bitOf Reg.SHN_BUSY ch = false ∧ RegsBut (shnLoadRegs ch) s (shnLoad ch s) := by
  obtain ⟨-, -, -, k4, k5⟩ := shnLoaded_spec hc s
  obtain ⟨a1, a2, -, -, a5⟩ := shnState_spec hc (st := 3) (by omega) (shnLoaded ch s)
  obtain ⟨c1, c2, c3, c4⟩ := shnCode_spec hc (code := c) h16 (shnState ch 3 (shnLoaded ch s))
  rw [shnLoad_eq, hcode, if_pos h0]
  refine ⟨c3.trans a1, c1, c2, (c4.bitOf (by grind)).trans ((a5.bitOf (by grind)).trans k4), (c4.bitOf (by grind)).trans a2, ?_⟩
  refine (k5.mono (shnLoaded_subset ch)).trans ((a5.mono ?_).trans (c4.mono (List.subset_append_of_subset_left _ (by simp))))
  intro x hx
  simp only [List.mem_cons, List.not_mem_nil, or_false] at hx
  rcases hx with rfl | rfl | rfl
  · exact List.mem_append_left _ (by simp)
  · exact List.mem_append_left _ (by simp)
  · exact shnDesc_mem_loadRegs (by omega)

/-- A word of the loaded set other than its CFG. -/
theorem reg_shnLoaded (hc : ch < 32) (s : State) {w : Nat} (hw : w < 8) (h3 : w ≠ 3) :
    (shnLoaded ch s).reg (Reg.SHN_DESC ch w) = s.reg (Reg.SHN_DESC ch (8 + w)) := by
  obtain ⟨-, -, -, -, k5⟩ := shnState_spec hc (st := 1) (by omega) (shnTake ch (shnDisarm ch s))
  obtain ⟨-, d2⟩ := shnDisarm_spec hc s
  rw [shnLoaded, reg_put_of_ne _ _ (shnDesc_ne_ch w hc), reg_put_of_ne _ _ (shnDesc_ne_ch w hc), k5 _ (by grind), shnTake_spec ch _ hw, d2 _ (by grind)]

/-- The CFG word of the loaded set: the shadow's, with VALID on. -/
theorem reg_shnLoaded_cfg (hc : ch < 32) (s : State) :
    (shnLoaded ch s).reg (Reg.SHN_DESC ch 3) = Bits.put (Bits.put (s.reg (Reg.SHN_DESC ch 11)) 31 1 0) 31 1 1 := by
  have h1 : (shnDisarm ch s).reg (Reg.SHN_DESC ch 11) = Bits.put (s.reg (Reg.SHN_DESC ch 11)) 31 1 0 := by
    rw [shnDisarm, putBit, reg_put_of_ne _ _ (shnDesc_ne_low ch 11 (a := Reg.SHN_SHDV) (by decide)), lower, put, reg_setReg_self]
  have h2 (t : State) : (shnState ch 1 t).reg (Reg.SHN_DESC ch 3) = Bits.put (t.reg (Reg.SHN_DESC ch 3)) 31 1 1 := by
    rw [shnState, putB, put, reg_setReg_self, putBit, reg_put_of_ne _ _ (shnDesc_ne_low ch 3 (a := Reg.SHN_BUSY) (by decide)), reg_put_of_ne _ _ (shnDesc_ne_ch 3 hc)]
    rfl
  rw [shnLoaded, reg_put_of_ne _ _ (shnDesc_ne_ch 3 hc), reg_put_of_ne _ _ (shnDesc_ne_ch 3 hc), h2, shnTake_spec ch _ (by omega), h1]

theorem on_shnLoaded_valid (hc : ch < 32) (s : State) : (shnLoaded ch s).on (Fd.SHN_DESC_VALID ch 11) = false := by
  obtain ⟨-, -, -, -, k5⟩ := shnState_spec hc (st := 1) (by omega) (shnTake ch (shnDisarm ch s))
  have hput : RegsBut [Reg.SHN_CH ch] (shnState ch 1 (shnTake ch (shnDisarm ch s))) (shnLoaded ch s) := by simp [shnLoaded]
  have hoff : (shnDisarm ch s).on (Fd.SHN_DESC_VALID ch 11) = false := by
    rw [on, shnDisarm, putBit, get_put_other _ _ _ _ (.inl (shnDesc_ne_low ch 11 (a := Reg.SHN_SHDV) (by decide)).symm), lower, get_put_same _ _ _ (by simp)]
    rfl
  rw [hput.on (by grind), k5.on (by grind), (shnTake_regsBut ch _).on (by grind), hoff]

/-- The set that a load makes active, word by word. -/
theorem shnSet_shnLoaded (hc : ch < 32) (s : State) : shnSet (shnLoaded ch s) ch 0 =
    { shnSet s ch 8 with cfg := Bits.put (Bits.put (s.reg (Reg.SHN_DESC ch 11)) 31 1 0) 31 1 1 } := by
  have hr (w : Nat) (hw : w < 8) (h3 : w ≠ 3) : (shnLoaded ch s).regN (Reg.SHN_DESC ch w) = s.regN (Reg.SHN_DESC ch (8 + w)) := by
    rw [regN, regN, reg_shnLoaded hc s hw h3]
  simp only [shnSet, Nat.zero_add, hr 0 (by omega) (by omega), hr 1 (by omega) (by omega), hr 2 (by omega) (by omega), hr 4 (by omega) (by omega),
    hr 5 (by omega) (by omega), hr 6 (by omega) (by omega), hr 7 (by omega) (by omega), reg_shnLoaded_cfg hc s]

theorem shnEnded_congr {l : List Nat} {t : State} (h : RegsBut l s t) (h1 : Reg.SHN_CH ch ∉ l) (h2 : Reg.SHN_DESC ch 2 ∉ l) : shnEnded t ch = shnEnded s ch := by
  rw [shnEnded, shnEnded, h.get h1, h.get h1]
  simp only [shnTotal, shnSet, Nat.zero_add, h.regN h2]

/-- A channel stopped with nothing that completes meanwhile (R618). -/
theorem shnStop_spec (hc : ch < 32) {code : Nat} (hcode : code < 16) (he : shnEnded s ch = false) :
    (shnStop ch code s).get (Fd.SHN_CH_STATE ch) = 2 ∧ (shnStop ch code s).get (Fd.SHN_CH_ERRCODE ch) = code ∧ (shnStop ch code s).bitOf Reg.SHN_ERR ch = true ∧
      (shnStop ch code s).bitOf Reg.SHN_BUSY ch = false ∧ (shnStop ch code s).bitOf Reg.SHN_SHDV ch = false ∧
        RegsBut [Reg.SHN_CH ch, Reg.SHN_ERR, Reg.SHN_BUSY, Reg.SHN_SHDV, Reg.SHN_DESC ch 3, Reg.SHN_DESC ch 11] s (shnStop ch code s) := by
  obtain ⟨d1, d2⟩ := shnDisarm_spec hc s
  obtain ⟨a1, a2, -, -, a5⟩ := shnState_spec hc (st := 2) (by omega) (shnDisarm ch s)
  obtain ⟨c1, c2, c3, c4⟩ := shnCode_spec hc (code := code) hcode (shnState ch 2 (shnDisarm ch s))
  rw [shnStop, he, if_neg (by simp)]
  exact ⟨c3.trans a1, c1, c2, (c4.bitOf (by grind)).trans a2, (c4.bitOf (by grind)).trans ((a5.bitOf (by grind)).trans d1),
    (d2.mono (by simp)).trans ((a5.mono (by simp)).trans (c4.mono (by simp)))⟩

/-- The shadow set of 16 bytes from one place of the SRAM to another is accepted (R613). -/
theorem shnRefuse_copy (s : State) (plane const : Nat) :
    shnRefuse s 31 ⟨0x10000000, 0x10000100, 16, 0x80000000, 0, 0, plane, const⟩ = 0 := by
  simp [shnRefuse, shnCfgOk, shnOp, shnEs, shnPort, region, shnSrcSpan, shnDstSpan, shnStep, shnRange, shnMay, Bits.get, shnQueues]

theorem bit31_of_mask {cfg : Word} (h : cfg &&& 0x80003F7F = 0x80000000) : Bits.bit cfg 31 = true := by
  have hb := congrArg (BitVec.getLsbD · 31) h
  simpa [BitVec.getLsbD_and, Bits.bit] using hb

end Channel

@[simp] theorem bitOf_hostReply (p : Path) (status : Nat) (t : State) (a i : Nat) : (hostReply p status t).bitOf a i = t.bitOf a i :=
  congrArg (Bits.bit · i) (reg_hostReply (p := p) status a)

theorem shnReply_out {p : Path} {s t : State} (h : Within [.regs] (hostAccess p s) t) : (hostReply p 0 t).out = .hostStatus p 0 :: s.out := by
  rw [hostReply_out, h.same .out (by simp), hostAccess_out]

section Arm

variable {s : State} {p : Path} {ch : Nat} {cfg : Word}

/-- An arming of the shadow set of a channel that is idle (R611), with what the access of its host write leaves. -/
theorem exec_shadowArm_idle (hm : HostMay p 3 s) (hc : ch < 32) (h0 : s.bitOf Reg.SHN_SHDV ch = false) (hst : s.get (Fd.SHN_CH_STATE ch) = 0)
    (hb : Bits.bit cfg 31 = true) : execShadowArm p ch cfg s = .next (hostReply p 0 (shnLoad ch (shnArm ch cfg (hostAccess p s)))) := by
  have hsh : (hostAccess p s).bitOf Reg.SHN_SHDV ch = false := (congrArg (Bits.bit · ch) (hostAccess_shn (by decide))).trans h0
  have hst : (hostAccess p s).get (Fd.SHN_CH_STATE ch) = 0 := ((hostAccess_regsBut p s).get (shn_notMem_hostRegs (shnCh_lt hc))).trans hst
  have hpfw : (hostAccess p s).pfw = false := (pfw_hostAccess p s).trans hm.2.2
  rw [execShadowArm, if_pos hc, hostOwn_of_may hm, shnShadow_of_idle hsh hb hst hpfw]

theorem shnArm_access_regsBut (p : Path) (ch : Nat) (cfg : Word) (s : State) :
    RegsBut ([Reg.SHN_SHDV, Reg.SHN_DESC ch 11] ++ hostRegs p) s (shnArm ch cfg (hostAccess p s)) :=
  ((hostAccess_regsBut p s).mono (by simp)).trans ((shnArm_regsBut ch cfg _).mono (by simp))

theorem shnArm_access_within (p : Path) (ch : Nat) (cfg : Word) (s : State) : Within [.regs] (hostAccess p s) (shnArm ch cfg (hostAccess p s)) :=
  ((Within.refl _ _).setReg rfl).putBit rfl

/-- A word of the shadow set other than its CFG, once the set is armed. -/
theorem reg_shnArm (hc : ch < 32) {w : Nat} (hw : w < 16) (h11 : w ≠ 11) :
    (shnArm ch cfg (hostAccess p s)).reg (Reg.SHN_DESC ch w) = s.reg (Reg.SHN_DESC ch w) := by
  have hlt := shnDesc_lt hc hw
  refine shnArm_access_regsBut p ch cfg s _ fun hx => ?_
  rcases List.mem_append.1 hx with hx | hx
  · grind
  · exact shn_notMem_hostRegs hlt hx

end Arm

/-- An empty set is refused as it becomes active (R613). -/
theorem shadowArm_empty (s : State) (p : Path) (ch : Nat) (cfg : Word) (hm : HostMay p 3 s) (hc : ch < 32) (h0 : s.bitOf Reg.SHN_SHDV ch = false)
    (hst : s.get (Fd.SHN_CH_STATE ch) = 0) (hb : Bits.bit cfg 31 = true) (hq : shnQueues ch = []) (hlen : s.regN (Reg.SHN_DESC ch 10) % 2 ^ 24 = 0) :
    Answers (exec (.shadowArm p ch cfg) s) fun t =>
      t.get (Fd.SHN_CH_STATE ch) = 3 ∧ t.get (Fd.SHN_CH_ERRCODE ch) = 4 ∧ t.bitOf Reg.SHN_ERR ch = true ∧ t.bitOf Reg.SHN_SHDV ch = false ∧
        t.bitOf Reg.SHN_BUSY ch = false ∧
        RegsBut ([Reg.SHN_CH ch, Reg.SHN_ERR, Reg.SHN_SHDV, Reg.SHN_BUSY, Reg.SHN_DESC ch 11] ++ (List.range 8).map (fun w => Reg.SHN_DESC ch w) ++ hostRegs p) s t ∧
        Within [.regs, .out] s t := by
  have hlen2 : (shnSet (shnLoaded ch (shnArm ch cfg (hostAccess p s))) ch 0).len = 0 := by
    rw [shnSet_shnLoaded hc]
    exact (congrArg (· % 2 ^ 24) (congrArg BitVec.toNat (reg_shnArm hc (w := 10) (by omega) (by omega)))).trans hlen
  have href : shnRefuse (shnLoaded ch (shnArm ch cfg (hostAccess p s))) ch (shnSet (shnLoaded ch (shnArm ch cfg (hostAccess p s))) ch 0) = 4 := by
    rw [shnRefuse, if_neg (by simp [hq]), if_pos (by simp [shnCfgOk, hlen2])]
  obtain ⟨k1, k2, k3, k4, k5, k6⟩ := shnLoad_refused hc href (by omega) (by omega)
  refine Answers.mk (exec_shadowArm_idle hm hc h0 hst hb) (execShadowArm_answers p ch cfg s) fun hw =>
    ⟨(get_hostReply _ _).trans k1, (get_hostReply _ _).trans k2, (bitOf_hostReply _ _ _ _ _).trans k3,
      (bitOf_hostReply _ _ _ _ _).trans k4, (bitOf_hostReply _ _ _ _ _).trans k5, ?_, hw⟩
  refine (((shnArm_access_regsBut p ch cfg s).mono ?_).trans (k6.mono (List.subset_append_left _ _))).hostReply
  exact List.append_subset.2 ⟨List.subset_append_of_subset_left _ (List.subset_append_of_subset_left _ (by simp)), List.subset_append_right _ _⟩

/-- A copy within the SRAM starts on channel 31 (R611, R613). -/
theorem shadowArm_copy (s : State) (p : Path) (cfg : Word) (hm : HostMay p 3 s) (h0 : s.bitOf Reg.SHN_SHDV 31 = false) (hst : s.get (Fd.SHN_CH_STATE 31) = 0)
    (hcfg : cfg &&& 0x80003F7F = 0x80000000) (h8 : s.regN (Reg.SHN_DESC 31 8) = 0x10000000) (h9 : s.regN (Reg.SHN_DESC 31 9) = 0x10000100)
    (h10 : s.regN (Reg.SHN_DESC 31 10) = 16) (h12 : s.regN (Reg.SHN_DESC 31 12) = 0) : Answers (exec (.shadowArm p 31 cfg) s) fun t =>
      (∀ w, w < 8 → w ≠ 3 → t.reg (Reg.SHN_DESC 31 w) = s.reg (Reg.SHN_DESC 31 (8 + w))) ∧ t.reg (Reg.SHN_DESC 31 3) = 0x80000000 ∧
        t.get (Fd.SHN_CH_STATE 31) = 1 ∧ t.get (Fd.SHN_CH_DONE 31) = 0 ∧ t.bitOf Reg.SHN_BUSY 31 = true ∧ t.bitOf Reg.SHN_SHDV 31 = false ∧
        t.on (Fd.SHN_DESC_VALID 31 11) = false ∧ t.reg Reg.SHN_ERR = s.reg Reg.SHN_ERR ∧
        RegsBut ([Reg.SHN_BUSY, Reg.SHN_SHDV, Reg.SHN_CH 31] ++ (List.range 16).map (fun w => Reg.SHN_DESC 31 w) ++ hostRegs p) s t ∧ Within [.regs, .out] s t := by
  obtain ⟨u, hu⟩ : ∃ u, u = shnArm 31 cfg (hostAccess p s) := ⟨_, rfl⟩
  have hr {w : Nat} (hw : w < 16) (h11 : w ≠ 11) : u.regN (Reg.SHN_DESC 31 w) = s.regN (Reg.SHN_DESC 31 w) := by
    rw [regN, regN, hu, reg_shnArm (by omega) hw h11]
  have hu11 : u.reg (Reg.SHN_DESC 31 11) = 0x80000000 := by
    rw [hu, shnArm, putBit, reg_put_of_ne _ _ (by decide), reg_setReg_self, hcfg]
  have hset : shnSet (shnLoaded 31 u) 31 0 = ⟨0x10000000, 0x10000100, 16, 0x80000000, 0, 0, (shnSet u 31 8).plane, (shnSet u 31 8).const⟩ := by
    rw [shnSet_shnLoaded (by omega), hu11]
    simp only [shnSet, Nat.reduceAdd, hr (w := 8) (by omega) (by omega), hr (w := 9) (by omega) (by omega), hr (w := 10) (by omega) (by omega),
      hr (w := 12) (by omega) (by omega), h8, h9, h10, h12]
    rfl
  have hload : shnLoad 31 u = shnLoaded 31 u := by
    rw [shnLoad_eq, hset, shnRefuse_copy, if_neg (by omega), if_neg (by simp [shnOp, Bits.get])]
  have e : execShadowArm p 31 cfg s = .next (hostReply p 0 (shnLoaded 31 u)) := by
    rw [exec_shadowArm_idle hm (by omega) h0 hst (bit31_of_mask hcfg), ← hu, hload]
  obtain ⟨k1, k2, k3, k4, k5⟩ := shnLoaded_spec (ch := 31) (by omega) u
  have hcfg3 : (shnLoaded 31 u).reg (Reg.SHN_DESC 31 3) = 0x80000000 := by
    rw [reg_shnLoaded_cfg (by omega), hu11]
    decide
  refine Answers.mk e (execShadowArm_answers p 31 cfg s) fun hw => ⟨fun w hw h3 => ?_, (reg_hostReply _ _).trans hcfg3, (get_hostReply _ _).trans k1,
    (get_hostReply _ _).trans k2, (bitOf_hostReply _ _ _ _ _).trans k3, (bitOf_hostReply _ _ _ _ _).trans k4, ?_, ?_, ?_, hw⟩
  · rw [reg_hostReply, reg_shnLoaded (by omega) _ hw h3, hu, reg_shnArm (by omega) (by omega) (by omega)]
  · rw [on_hostReply, on_shnLoaded_valid (by omega)]
  · rw [reg_hostReply, k5 _ (by decide), hu, shnArm_access_regsBut p 31 cfg s _ (by cases p <;> decide)]
  · refine RegsBut.hostReply (RegsBut.trans (t := u) ?_ (k5.mono ?_))
    · rw [hu]
      exact (shnArm_access_regsBut p 31 cfg s).mono (by cases p <;> decide)
    · exact List.subset_append_of_subset_left _ (by decide)

/-- Settles O58. -/
theorem shunterChannels : Obligations.ShunterChannels := by
  unfold Obligations.ShunterChannels
  refine ⟨fun s p ch cfg hm hc h0 h1 hb => ?_, fun s p ch cfg hm hc h1 => ?_, shadowArm_empty,
    shadowArm_copy, fun s ch hc he hbar h0 => ?_, fun s ch h => ?_, fun s p v ch hm hb hv he => ?_, fun s p v hm hb => ?_⟩
  · have hsh : (hostAccess p s).bitOf Reg.SHN_SHDV ch = false := (congrArg (Bits.bit · ch) (hostAccess_shn (by decide))).trans h0
    have hst : (hostAccess p s).get (Fd.SHN_CH_STATE ch) = 1 := ((hostAccess_regsBut p s).get (shn_notMem_hostRegs (shnCh_lt hc))).trans h1
    have e : execShadowArm p ch cfg s = .next (hostReply p 0 (shnArm ch cfg (hostAccess p s))) := by
      rw [execShadowArm, if_pos hc, hostOwn_of_may hm, shnShadow_cfg hsh hb, if_neg (by rw [get_shnArm_state, hst]; simp)]
    refine Answers.mk e (execShadowArm_answers p ch cfg s) fun hw => ⟨?_, ?_, shnReply_out (shnArm_access_within p ch cfg s),
      (shnArm_access_regsBut p ch cfg s).hostReply, hw⟩
    · rw [bitOf_hostReply, shnArm, bitOf_putBit _ _ _ _ _ _ hc, if_pos ⟨rfl, rfl⟩]
    · rw [reg_hostReply, shnArm, putBit, reg_put_of_ne _ _ (shnDesc_ne_low ch 11 (a := Reg.SHN_SHDV) (by decide)), reg_setReg_self]
  · have hsh : (hostAccess p s).bitOf Reg.SHN_SHDV ch = true := (congrArg (Bits.bit · ch) (hostAccess_shn (by decide))).trans h1
    have e : execShadowArm p ch cfg s = .next (hostReply p 0 (shnCode ch 7 (hostAccess p s))) := by
      rw [execShadowArm, if_pos hc, hostOwn_of_may hm, shnShadow_of_armed (by omega) (by omega) hsh]
    obtain ⟨k1, k2, k3, k4⟩ := shnCode_spec hc (code := 7) (by omega) (hostAccess p s)
    exact Answers.mk e (execShadowArm_answers p ch cfg s) fun hw => ⟨(get_hostReply _ _).trans k1, (bitOf_hostReply _ _ _ _ _).trans k2, shnReply_out (shnCode_within _ _ _),
      (((hostAccess_regsBut p s).mono (by simp)).trans (k4.mono (by simp))).hostReply, hw⟩
  · have hst : s.get (Fd.SHN_CH_STATE ch) = 1 := by
      simp only [shnEnded, Bool.and_eq_true, beq_iff_eq] at he
      exact he.1
    have e : execDescriptorComplete ch s = .next (shnState ch 0 (s.putBit Reg.SHN_DONE ch true)) := by
      have harr : shnArrived s ch = true := by simp [shnArrived, shnSet, hbar]
      have hsh : (s.putBit Reg.SHN_DONE ch true).bitOf Reg.SHN_SHDV ch = false := by
        rw [bitOf_putBit _ _ _ _ _ _ hc, if_neg (by simp), h0]
      rw [execDescriptorComplete, if_pos ⟨hc, he, harr⟩, shnComplete, if_neg (by simp [hsh])]
    obtain ⟨a1, a2, a3, -, a5⟩ := shnState_spec hc (st := 0) (by omega) (s.putBit Reg.SHN_DONE ch true)
    refine Answers.mk e (execDescriptorComplete_answers ch s) fun hw => ⟨?_, a1, a2, a3, ?_, hw⟩
    · rw [a5.bitOf (by grind), bitOf_putBit _ _ _ _ _ _ hc, if_pos ⟨rfl, rfl⟩]
    · exact RegsBut.trans (by simp) (a5.mono (by simp))
  · exact ⟨s, congrArg Host.Outcome.next (if_neg (by simp [shnEnded, h])), rfl⟩
  · have hch : Bits.get v 0 5 = ch := by rw [← hv]; simp [Bits.get]
    have hc : ch < 32 := by omega
    have he2 : shnEnded (hostAccess p s) ch = false :=
      (shnEnded_congr (hostAccess_regsBut p s) (shn_notMem_hostRegs (shnCh_lt hc)) (shn_notMem_hostRegs (shnDesc_lt hc (by omega)))).trans he
    have e : execShunterChannelStop p v s = .next (hostReply p 0 (shnStop ch 6 (hostAccess p s))) := by
      rw [execShunterChannelStop, hostOwn_of_may hm, shnControl, if_pos hb, hch]
    obtain ⟨k1, k2, k3, k4, k5, k6⟩ := shnStop_spec hc (code := 6) (by omega) he2
    exact Answers.mk e (execShunterChannelStop_answers p v s) fun hw => ⟨(get_hostReply _ _).trans k1, (get_hostReply _ _).trans k2, (bitOf_hostReply _ _ _ _ _).trans k3, (bitOf_hostReply _ _ _ _ _).trans k4,
      (bitOf_hostReply _ _ _ _ _).trans k5,
      shnReply_out (shnStop_within _ _ _), (((hostAccess_regsBut p s).mono (List.subset_append_right _ _)).trans (k6.mono (by simp))).hostReply, hw⟩
  · have e : execShunterChannelStop p v s = .next (hostReply p 0 (hostAccess p s)) := by
      rw [execShunterChannelStop, hostOwn_of_may hm, shnControl, if_neg (by simp [hb])]
    exact Answers.mk e (execShunterChannelStop_answers p v s) fun hw => ⟨shnReply_out (Within.refl _ _), (hostAccess_regsBut p s).hostReply, hw⟩

end Sys2Proof.Machine
end

section
/-!
Parameters read and written through HIF_PCMD (spec/23_host_interface.md R633).
-/
namespace Sys2Proof.Machine

open State

section Pcmd

variable {p : Path} {cmd : Nat} {s : State}

/-- HIF_PRES shows the code of an operation. -/
theorem get_presResult (p : Path) {code : Nat} (hc : code < 256) (r : Option ParamMap.ParamRow) (s : State) :
    (presResult p code r s).get (Fd.HIF_PRES_CODE p) = code := by
  have key (l a : Nat) : (s.setRegN (Reg.HIF_PRES p) (code + 65536 * l + 262144 * a)).get (Fd.HIF_PRES_CODE p) = code := by
    change Bits.get ((s.setRegN (Reg.HIF_PRES p) (code + 65536 * l + 262144 * a)).reg (Reg.HIF_PRES p)) 0 8 = code
    rw [setRegN, reg_setReg_self]
    simp [Bits.get]
    omega
  exact key _ _

theorem presResult_regsBut (p : Path) (code : Nat) (r : Option ParamMap.ParamRow) (s : State) : RegsBut [Reg.HIF_PRES p] s (presResult p code r s) := by
  simp [presResult]

theorem paramRead_of_none (h : ParamMap.rowFor (pcmdPar cmd) = none) : paramRead p cmd s = presResult p 2 none s := by
  simp [paramRead, h]

theorem paramRead_of_some {r : ParamMap.ParamRow} (h : ParamMap.rowFor (pcmdPar cmd) = some r) (hp : Rules.present s.variant r = true)
    (hsrc : cmd / 4096 % 4 = 0) :
    paramRead p cmd s = presResult p 0 (some r) (s.setRegN (Reg.HIF_PVAL p) (Bits.ofInt (8 * r.bytes) (s.par (pcmdPar cmd)))) := by
  simp [paramRead, h, hp, hsrc, readValue]

theorem paramStore_of_low (h : pathLevel s p < 2) : ∃ r, paramStore p cmd s = presResult p 1 r s := by
  have hc : ∀ len raw, writeCode false (pathLevel s p) (pcmdPar cmd) len raw s = 1 := fun len raw => by rw [writeCode, if_pos h]
  refine ⟨ParamMap.rowFor (pcmdPar cmd), ?_⟩
  simp only [paramStore, paramWrite, hc]
  split <;> simp

/-- A write that is accepted is stored (R550, R633). -/
theorem paramStore_of_accepted {r : ParamMap.ParamRow} (h : ParamMap.rowFor (pcmdPar cmd) = some r) (hu : r.type = .unsigned)
    (hc : writeCode false (pathLevel s p) (pcmdPar cmd) (pcmdLen cmd) (s.regN (Reg.HIF_PVAL p) % 256 ^ pcmdLen cmd) s = 0) :
    paramStore p cmd s = presResult p 0 (some r) (writeAccept (pcmdPar cmd) ((s.regN (Reg.HIF_PVAL p) % 256 ^ pcmdLen cmd : Nat) : Int) r s) := by
  simp [paramStore, paramWrite, hc, h, hu]

/-- The access of a host write changes nothing that a write of a parameter is judged by. -/
theorem writeCode_hostAccess (site : Bool) (level n len raw : Nat) : writeCode site level n len raw (hostAccess p s) = writeCode site level n len raw s := by
  have h1 : nextStart (hostAccess p s) = nextStart s := by
    have hi : imageValue (hostAccess p s) = imageValue s := by
      funext q
      simp [imageValue]
    simp [nextStart, hi, overlayLive]
  have h2 : afterBoundary (hostAccess p s) = afterBoundary s := by
    have hp : (hostAccess p s).par = s.par := funext fun q => par_hostAccess q
    simp [afterBoundary, hp]
  simp [writeCode, h1, h2]

theorem hifPres_notMem (p : Path) : Reg.HIF_PRES p ∉ hostRegs p := by cases p <;> decide

theorem hifPval_notMem (p : Path) : Reg.HIF_PVAL p ∉ hostRegs p := by cases p <;> decide

end Pcmd

section Store

variable {p : Path} {cmd : Nat} {s : State} {r : ParamMap.ParamRow}

/-- A write of a parameter that is accepted (R551, R633). -/
theorem exec_paramWrite_accepted (hm : HostMay p 2 s) (h : ParamMap.rowFor (pcmdPar cmd) = some r) (hu : r.type = .unsigned)
    (hc : writeCode false (pathLevel s p) (pcmdPar cmd) (pcmdLen cmd) (s.regN (Reg.HIF_PVAL p) % 256 ^ pcmdLen cmd) s = 0) :
    execParamWrite p cmd s = .next (hostReply p 0 (presResult p 0 (some r)
      (writeAccept (pcmdPar cmd) ((s.regN (Reg.HIF_PVAL p) % 256 ^ pcmdLen cmd : Nat) : Int) r (hostAccess p s)))) := by
  obtain ⟨ho, hl, hp⟩ := hm
  have hv : (hostAccess p s).regN (Reg.HIF_PVAL p) = s.regN (Reg.HIF_PVAL p) := (hostAccess_regsBut p s).regN (hifPval_notMem p)
  have hc2 : writeCode false (pathLevel (hostAccess p s) p) (pcmdPar cmd) (pcmdLen cmd) ((hostAccess p s).regN (Reg.HIF_PVAL p) % 256 ^ pcmdLen cmd)
      (hostAccess p s) = 0 := by rw [pathLevel_hostAccess, hv, writeCode_hostAccess, hc]
  rw [execParamWrite, hp, Bool.false_and]
  rw [if_neg (by simp), hostOwn_of_may ⟨ho, by omega, hp⟩, paramStore_of_accepted h hu hc2, hv]

end Store

/-- The overlay with an accepted write stored in it (R550). -/
def overlayStored (n : Nat) (v : Int) (boot : Bool) (s : State) : State :=
  overlayShow (setBoot { s.boot with overlay := s.boot.overlay.filter (fun x => x.par != n) ++ [⟨n, v, s.regN Reg.SYS_IMGSEQ, boot⟩] } s)

theorem overlayStored_spec (n : Nat) (v : Int) (boot : Bool) (s : State) : RegsBut [Reg.SYS_OVL] s (overlayStored n v boot s) ∧
    Within [.regs, .boot] s (overlayStored n v boot s) :=
  ⟨by simp [overlayStored, overlayShow, setBoot], ((Within.upd_boot s _).sub rfl |>.put rfl).put rfl⟩

theorem writeAccept_boot {r : ParamMap.ParamRow} (ha : r.applied = .boot) (n : Nat) (v : Int) (s : State) :
    writeAccept n v r s = overlayStored n v true s := by
  simp [writeAccept, ha, overlayStored]

theorem writeAccept_interval {r : ParamMap.ParamRow} (ha : r.applied = .interval) (n : Nat) (v : Int) (s : State) :
    writeAccept n v r s = { overlayStored n v false s with parPend := s.parPend.filter (fun x => x.1 != n) ++ [(n, v)] } := by
  simp only [writeAccept, ha]
  rfl

theorem sysOvl_notMem (p : Path) : Reg.SYS_OVL ∉ hostRegs p := by cases p <;> decide

/-- Settles O49. -/
theorem parameters : Obligations.Parameters := by
  unfold Obligations.Parameters
  refine ⟨fun s p cmd r hm hr hp hsrc => ?_, fun s p cmd hm hr => ?_, fun s p cmd hm hl => ?_, fun s p cmd ho hp => ?_,
    fun s p cmd r hm hr hu ha hc => ?_, fun s p cmd r hm hr hu ha hc => ?_⟩
  · have e : execParamRead p cmd s = .next (hostReply p 0 (presResult p 0 (some r)
        ((hostAccess p s).setRegN (Reg.HIF_PVAL p) (Bits.ofInt (8 * r.bytes) (s.par (pcmdPar cmd)))))) := by
      rw [execParamRead, hostOwn_of_may hm, paramRead_of_some hr (by simpa using hp) hsrc, par_hostAccess]
    refine Answers.mk e (execParamRead_answers p cmd s) fun hw => ⟨?_, (get_hostReply _ _).trans (get_presResult p (by omega) _ _), ?_, ?_, hw⟩
    · rw [reg_hostReply, presResult_regsBut p 0 (some r) _ _ (by cases p <;> decide), setRegN, reg_setReg_self]
    · exact shnReply_out (((Within.refl _ _).setRegN rfl).comp (presResult_within _ _ _ _) rfl)
    · exact ((((hostAccess_regsBut p s).mono (by simp)).setRegN (by simp)).trans ((presResult_regsBut _ _ _ _).mono (by simp))).hostReply
  · have e : execParamRead p cmd s = .next (hostReply p 0 (presResult p 2 none (hostAccess p s))) := by
      rw [execParamRead, hostOwn_of_may hm, paramRead_of_none hr]
    exact Answers.mk e (execParamRead_answers p cmd s) fun hw => ⟨(get_hostReply _ _).trans (get_presResult p (by omega) _ _),
      (((hostAccess_regsBut p s).mono (by simp)).trans ((presResult_regsBut _ _ _ _).mono (by simp))).hostReply, hw⟩
  · obtain ⟨r, hr⟩ := paramStore_of_low (p := p) (cmd := cmd) (s := hostAccess p s) (by simpa using hl)
    have e : execParamWrite p cmd s = .next (hostReply p 0 (presResult p 1 r (hostAccess p s))) := by
      rw [execParamWrite, hm.2.2, Bool.false_and]
      rw [if_neg (by simp), hostOwn_of_may hm, hr]
    have hin : Within [.regs, .out] s (hostReply p 0 (presResult p 1 r (hostAccess p s))) :=
      ((hostAccess_within p s).sub rfl |>.comp (presResult_within _ _ _ _) rfl).hostReply rfl
    exact ⟨_, e, (get_hostReply _ _).trans (get_presResult p (by omega) _ _), hin.same .params (by simp), hin.same .boot (by simp),
      (((hostAccess_regsBut p s).mono (by simp)).trans ((presResult_regsBut _ _ _ _).mono (by simp))).hostReply, hin⟩
  · have e : execParamWrite p cmd s = .next (presResult p 8 (ParamMap.rowFor (pcmdPar cmd)) (hostReply p 5 (hostAccess p s))) := by
      rw [execParamWrite, hp, ho, Bool.true_and]
      rw [if_pos rfl, hostOwn_of_pfw ho (Nat.zero_le _) hp]
    have hin : Within [.regs, .out] s (hostReply p 5 (hostAccess p s)) := ((hostAccess_within p s).sub rfl).hostReply rfl
    refine ⟨_, e, get_presResult p (by omega) _ _, ?_, ?_, hin.comp (presResult_within _ _ _ _) rfl⟩
    · rw [(presResult_within p 8 _ _).same .out (by simp), hostReply_out, hostAccess_out]
    · exact RegsBut.trans (((hostAccess_regsBut p s).mono (by simp)).hostReply) ((presResult_regsBut _ _ _ _).mono (by simp))
  · obtain ⟨u, hu2⟩ : ∃ u, u = overlayStored (pcmdPar cmd) ((s.regN (Reg.HIF_PVAL p) % 256 ^ pcmdLen cmd : Nat) : Int) true (hostAccess p s) := ⟨_, rfl⟩
    obtain ⟨k1, k2⟩ := overlayStored_spec (pcmdPar cmd) ((s.regN (Reg.HIF_PVAL p) % 256 ^ pcmdLen cmd : Nat) : Int) true (hostAccess p s)
    have e := exec_paramWrite_accepted hm hr hu hc
    have hboot : u.boot.overlay = s.boot.overlay.filter (fun x => x.par != pcmdPar cmd) ++
        [⟨pcmdPar cmd, (s.regN (Reg.HIF_PVAL p) % 256 ^ pcmdLen cmd : Nat), s.regN Reg.SYS_IMGSEQ, true⟩] := by
      rw [hu2]
      simp [overlayStored, overlayShow, setBoot]
    rw [writeAccept_boot ha, ← hu2] at e
    rw [← hu2] at k1 k2
    have hin : Within [.regs, .boot, .out] s (hostReply p 0 (presResult p 0 (some r) u)) :=
      (((hostAccess_within p s).sub rfl |>.comp k2 rfl).comp (presResult_within _ _ _ _) rfl).hostReply rfl
    exact ⟨_, e, (get_hostReply _ _).trans (get_presResult p (by omega) _ _), hin.same .params (by simp), hboot,
      ((((hostAccess_regsBut p s).mono (by simp)).trans (k1.mono (by simp))).trans ((presResult_regsBut _ _ _ _).mono (by simp))).hostReply, hin⟩
  · obtain ⟨u, hu2⟩ : ∃ u, u = overlayStored (pcmdPar cmd) ((s.regN (Reg.HIF_PVAL p) % 256 ^ pcmdLen cmd : Nat) : Int) false (hostAccess p s) := ⟨_, rfl⟩
    obtain ⟨k1, k2⟩ := overlayStored_spec (pcmdPar cmd) ((s.regN (Reg.HIF_PVAL p) % 256 ^ pcmdLen cmd : Nat) : Int) false (hostAccess p s)
    have e := exec_paramWrite_accepted hm hr hu hc
    rw [writeAccept_interval ha, ← hu2, hostAccess_parPend] at e
    rw [← hu2] at k1 k2
    obtain ⟨w, hw⟩ : ∃ w : State, w = { u with
      parPend := s.parPend.filter (fun x => x.1 != pcmdPar cmd) ++ [(pcmdPar cmd, ((s.regN (Reg.HIF_PVAL p) % 256 ^ pcmdLen cmd : Nat) : Int))] } := ⟨_, rfl⟩
    rw [← hw] at e
    have hregs : RegsBut ([Reg.HIF_PRES p, Reg.SYS_OVL] ++ hostRegs p) s w :=
      (((hostAccess_regsBut p s).mono (by simp)).trans (k1.mono (by simp))).same (by rw [hw])
    have hin : Within [.regs, .boot, .parPend, .out] s w := by
      rw [hw]
      exact ((hostAccess_within p s).sub rfl |>.comp k2 rfl).comp (Within.upd_parPend _ _) rfl
    have hpend : w.parPend = s.parPend.filter (fun x => x.1 != pcmdPar cmd) ++
        [(pcmdPar cmd, ((s.regN (Reg.HIF_PVAL p) % 256 ^ pcmdLen cmd : Nat) : Int))] := by rw [hw]
    clear hw
    have hrep := (hin.comp (presResult_within p 0 (some r) _) rfl).hostReply (p := p) (status := 0) rfl
    exact ⟨_, e, (get_hostReply _ _).trans (get_presResult p (by omega) _ _), hrep.same .params (by simp), hpend,
      (hregs.trans ((presResult_regsBut _ _ _ _).mono (by simp))).hostReply, hrep⟩

end Sys2Proof.Machine
end

section
/-!
The converter link (spec/10_charging_session.md R352 to R360).
-/
namespace Sys2Proof.Machine

open State

section Counted

variable {σ : Type} {f : Nat → σ → σ} {P : σ → Prop} {s : σ}

/-- A counted loop whose rounds change nothing. -/
theorem upTo_idle (n : Nat) (hs : P s) (h : ∀ i, ∀ t, P t → f i t = t) : upTo n f s = s := by
  induction n with
  | zero => rfl
  | succ n ih =>
    have e : upTo (n + 1) f s = f n (upTo n f s) := by simp [upTo, List.range_succ]
    rw [e, ih, h n s hs]

/-- A counted loop of which only the first round changes anything. -/
theorem upTo_first (n : Nat) (hs : P (f 0 s)) (h : ∀ i, i ≠ 0 → ∀ t, P t → f i t = t) : upTo (n + 1) f s = f 0 s := by
  induction n with
  | zero => rfl
  | succ n ih =>
    have e : upTo (n + 2) f s = f (n + 1) (upTo (n + 1) f s) := by simp [upTo, List.range_succ]
    rw [e, ih, h (n + 1) (by omega) _ hs]

end Counted

section Converter

variable {s : State} {n : Nat}

theorem ofLeBytes_lt (l : List Byte) : Bits.ofLeBytes l < 256 ^ l.length := by
  induction l with
  | nil => simp [Bits.ofLeBytes]
  | cons b bs ih =>
    have := b.isLt
    simp only [Bits.ofLeBytes, List.length_cons, Nat.pow_succ]
    omega

theorem canNum_lt (f : List Byte) (o n : Nat) : canNum f o n < 256 ^ n :=
  Nat.lt_of_lt_of_le (ofLeBytes_lt _) (Nat.pow_le_pow_right (by omega) (List.length_take_le _ _))

theorem convNode_setNode {c : ConvNode} (h : n < s.ses.conv.length) : convNode (setNode n c s) n = c := nth_setNth_self h

theorem length_setNode {c : ConvNode} : (setNode n c s).ses.conv.length = s.ses.conv.length := by simp [setNode, setSes, setNth, putBit]

theorem setNode_regsBut {c : ConvNode} : RegsBut [Reg.SES_CONVOK] s (setNode n c s) := by simp [setNode, setSes]

theorem get_setNode_ok {c : ConvNode} (h : n < 32) : (setNode n c s).get ⟨Reg.SES_CONVOK, n, 1⟩ = if c.healthy then 1 else 0 := by
  rw [setNode, putBit, get_put_same _ _ _ (show n + 1 ≤ 32 from h)]
  cases c.healthy <;> rfl

/-- A node of no use is sent mode 0 (R354). -/
theorem setptNode_of_idle (ramp vmin n : Nat) (h : sesSt s = 0) : setptNode ramp vmin n s = convMode 0 n s := by
  have hm : sesMode s = 0 := by simp [sesMode, h]
  simp [setptNode, hm]

/-- The frame of SYNC with no node to deliver. -/
def syncFrame (v : Nat) : List Byte := Bits.leBytes 1 1 ++ Bits.leBytes 1 (v % 2) ++ [0, 0, 0, 0, 0, 0]

/-- SYNC with no node to deliver (R355). -/
theorem syncSend_of_idle (h : sesSt s = 4) : syncSend s =
    (({ s with free := s.free + 1 } : State).emit (.can 0 319 (syncFrame s.fresh.1.toNat))).emit (.can 1 319 (syncFrame s.fresh.1.toNat)) := by
  have hm : ((List.range 32).map (fun n => if decide (5 ≤ sesSt s) && decide (sesSt s ≤ 9) && !s.ses.tripped && convUsed (convNode s n) then 2 ^ n else 0)).sum = 0 := by
    have hz : ((List.range 32).map fun _ => 0).sum = 0 := by decide
    simp [h, hz]
  have hf : Bits.leBytes 1 1 ++ Bits.leBytes 1 (s.fresh.1.toNat % 2) ++ [0, 0] ++ Bits.leBytes 4 0 = syncFrame s.fresh.1.toNat := by
    rw [syncFrame, List.append_assoc]
    rfl
  rw [syncSend, hm, hf]
  rfl

/-- A frame in sequence from a node with its capability known and not lost (R357). -/
theorem convStatus_right {f : List Byte} {a : Nat} (ha : (convNode s n).rxAlive = some a) (hal : canNum f 1 1 = (a + 1) % 256)
    (hb : (canNum f 6 2).testBit 1 = false) (hcap : (convNode s n).cap.isSome = true) (hlost : (convNode s n).lost = false) :
    ∃ c d : ConvNode, c.healthy = true ∧ c.rxAlive = some ((a + 1) % 256) ∧ c.ilim = canNum f 10 2 ∧
      convStatus n f s = setNode n c (setNode n d ((s.put (Fd.SES_CONV_IOUT n) (canNum f 4 2)).put (Fd.SES_CONV_STATE n) (canNum f 0 1))) := by
  refine ⟨{ convNode s n with rxAlive := some ((a + 1) % 256), ilim := canNum f 10 2, run := min 100 ((convNode s n).run + 1), healthy := true },
    { convNode s n with rxAlive := some ((a + 1) % 256), ilim := canNum f 10 2, run := min 100 ((convNode s n).run + 1) }, rfl, rfl, rfl, ?_⟩
  simp [convStatus, ha, hal, hb, hcap, hlost]

/-- SETPT with one node in use and no session (R354). -/
theorem setptSend_first (hu : s.parN Par.CONV_USE = 1) (h0 : sesSt s = 0) : setptSend s = convMode 0 0 { s with free := s.free + 1 + 1 } := by
  obtain ⟨u, hs⟩ : ∃ u : State, u = { s with free := s.free + 1 + 1 } := ⟨_, rfl⟩
  have huse : u.parN Par.CONV_USE = 1 := by rw [hs]; exact hu
  have hst : sesSt u = 0 := by rw [hs]; exact h0
  have hbit : (u.parN Par.CONV_USE).testBit 0 = true := by rw [huse]; decide
  rw [← hs]
  have e (a b : Nat) : upTo 32 (fun n t => if (t.parN Par.CONV_USE).testBit n then setptNode a b n t else t) u = convMode 0 0 u := by
    refine (upTo_first (P := fun t => t.parN Par.CONV_USE = 1) 31 ?_ fun i hi t ht => ?_).trans ?_
    · rw [hbit, if_pos rfl, setptNode_of_idle _ _ _ hst]
      exact huse
    · rw [ht, Nat.testBit_lt_two_pow (Nat.one_lt_two_pow hi), if_neg (by simp)]
    · rw [hbit, if_pos rfl, setptNode_of_idle _ _ _ hst]
  rw [← e s.fresh.1.toNat s.fresh.2.fresh.1.toNat, hs]
  rfl

theorem convMode_spec (hp : s.parN Par.CONV_PORT = 1) (hl : s.ses.conv.length = 32) :
    (convMode 0 0 s).out = .can 1 128 (Bits.leBytes 1 0 ++ Bits.leBytes 1 (((convNode s 0).txAlive + 1) % 256) ++ List.replicate 14 0) :: s.out ∧
      (convNode (convMode 0 0 s) 0).txAlive = ((convNode s 0).txAlive + 1) % 256 ∧ RegsBut [] s (convMode 0 0 s) := by
  have hn : convNode (convMode 0 0 s) 0 = { convNode s 0 with txAlive := ((convNode s 0).txAlive + 1) % 256 } := nth_setNth_self (by omega)
  refine ⟨?_, congrArg ConvNode.txAlive hn, (RegsBut.refl [] s).same rfl⟩
  have hb : (s.parN Par.CONV_PORT).testBit 0 = true := by rw [hp]; decide
  simp only [convMode, hb, emit, if_true]
  rfl

end Converter

/-- Settles O33. -/
theorem converterLink : Obligations.ConverterLink := by
  unfold Obligations.ConverterLink
  refine ⟨fun s hh hu => ?_, fun s hh hu hp h0 hl => ?_, fun s hh h4 => ?_, fun s port n a f hh hc hf hl ha hal hb hcap hlost => ?_,
    fun s port n f hh hc => ?_, fun s port n f hh hc hf hl => ?_, fun s n hn hc hl h5 => ?_⟩
  · have e : execConverterSetptSend s = .next { s with free := s.free + 1 + 1 } := by
      rw [execConverterSetptSend, awake_of_not_held hh]
      exact congrArg Host.Outcome.next (upTo_idle (P := fun t => t.parN Par.CONV_USE = 0) 32 hu fun i t ht => by simp [ht])
    exact ⟨_, e, rfl, (RegsBut.refl [] s).same rfl, Within.upd_free _ _⟩
  · have e : execConverterSetptSend s = .next (convMode 0 0 { s with free := s.free + 1 + 1 }) := by
      rw [execConverterSetptSend, awake_of_not_held hh, setptSend_first hu h0]
    obtain ⟨k1, k2, k3⟩ := convMode_spec (s := { s with free := s.free + 1 + 1 }) hp hl
    exact Answers.mk e (execConverterSetptSend_answers s) fun hw => ⟨k1, k2, k3, hw.sub rfl⟩
  · have e : execConverterSyncSend s = .next (syncSend s) := awake_of_not_held hh
    exact Answers.mk (e.trans (congrArg _ (syncSend_of_idle h4))) (execConverterSyncSend_answers s) fun hw => ⟨⟨s.fresh.1.toNat, rfl⟩, (RegsBut.refl [] s).same rfl, hw.sub rfl⟩
  · have hn : n < 32 := by
      simp only [convHeard, Bool.and_eq_true, decide_eq_true_eq] at hc
      exact hc.1.1
    have e : execConverterStatusReceive port n f s = .next (convStatus n f s) := by
      rw [execConverterStatusReceive, awake_of_not_held hh, if_pos (by simp [hc, hf])]
    obtain ⟨c, d, hc1, hc2, hc3, hs⟩ := convStatus_right ha hal hb hcap hlost
    obtain ⟨u, hu⟩ : ∃ u, u = (s.put (Fd.SES_CONV_IOUT n) (canNum f 4 2)).put (Fd.SES_CONV_STATE n) (canNum f 0 1) := ⟨_, rfl⟩
    have hk : RegsBut [Reg.SES_CONVOK] u (setNode n c (setNode n d u)) := setNode_regsBut.trans setNode_regsBut
    have hl2 : (setNode n d u).ses.conv.length = 32 := by rw [length_setNode, hu]; exact hl
    have hne {g : RegField} (hg : g.reg = Reg.SES_CONV n) : g.reg ∉ [Reg.SES_CONVOK] := by grind
    have hlt := canNum_lt f 4 2
    have huw : Within [.regs, .ses] s u := by
      rw [hu]
      exact ((Within.refl _ s).put rfl).put rfl
    rw [← hu] at hs
    rw [hs] at e
    refine ⟨_, e, ?_, ?_, ?_, ?_, ?_, ?_, ?_, ?_, (huw.comp (setNode_within _ _ _) rfl).comp (setNode_within _ _ _) rfl⟩
    · rw [convNode_setNode (by omega), hc1]
    · rw [convNode_setNode (by omega), hc2]
    · rw [convNode_setNode (by omega), hc3]
    · rw [get_setNode_ok hn, hc1]
      rfl
    · rw [hk.get (hne rfl), hu, get_put_other _ _ _ _ (.inr (by simp)), get_put_same _ _ _ (by simp)]
      exact Nat.mod_eq_of_lt hlt
    · rw [hk.get (hne rfl), hu, get_put_same _ _ _ (by simp)]
    · rw [hk.get (hne rfl), hu, get_put_other _ _ _ _ (.inr (by simp)), get_put_other _ _ _ _ (.inr (by simp))]
    · refine RegsBut.trans ?_ (hk.mono (by simp))
      rw [hu]
      simp
  · exact ⟨s, (awake_of_not_held hh).trans (congrArg Host.Outcome.next (if_neg (by simp [hc]))), rfl⟩
  · have hn : n < 32 := by
      simp only [convHeard, Bool.and_eq_true, decide_eq_true_eq] at hc
      exact hc.1.1
    have e : execConverterCapabReceive port n f s = .next (convCapab n f s) := by
      rw [execConverterCapabReceive, awake_of_not_held hh, if_pos (by simp [hc, hf])]
    refine Answers.mk e (execConverterCapabReceive_answers port n f s) fun hw => ⟨?_, ?_, setNode_regsBut, hw⟩
    · rw [convCapab, convNode_setNode (by omega)]
    · rw [convCapab, convNode_setNode (by omega)]
  · obtain ⟨u, hu⟩ : ∃ u, u = setNode n { convNode s n with healthy := false, lost := true, elig := false, run := 0 } s := ⟨_, rfl⟩
    have hur : RegsBut [Reg.SES_CONVOK] s u := by rw [hu]; exact setNode_regsBut
    have hnode : convNode u n = { convNode s n with healthy := false, lost := true, elig := false, run := 0 } := by rw [hu, convNode_setNode (by omega)]
    have hok : u.get ⟨Reg.SES_CONVOK, n, 1⟩ = 0 := by rw [hu, get_setNode_ok hn]; rfl
    have huw : Within [.regs, .ses] s u := by rw [hu]; exact setNode_within _ _ _
    have hst : sesSt ((u.bumpReg Reg.SES_CONVCNT).raise Fd.SES_EVT_CONVLOST) = sesSt s :=
      RegsBut.get (l := [Reg.SES_CONVOK, Reg.SES_CONVCNT, Reg.SES_EVT]) ((hur.mono (by simp)).trans (by simp)) (by simp)
    have e : execConverterStatusTimeout n s = .next ((u.bumpReg Reg.SES_CONVCNT).raise Fd.SES_EVT_CONVLOST) := by
      rw [execConverterStatusTimeout, if_pos hn, convLose, if_pos hc, ← hu]
      exact congrArg Host.Outcome.next (if_neg (by omega))
    clear hu
    refine ⟨_, e, ?_, ?_, ?_, ?_, ?_, ?_, (huw.bumpReg rfl).raise rfl⟩
    · exact congrArg ConvNode.healthy hnode
    · exact congrArg ConvNode.lost hnode
    · rw [raise, get_put_other _ _ _ _ (.inl (by simp)), get_bumpReg_of_ne _ _ (by simp), hok]
    · rw [← hur.regN (a := Reg.SES_CONVCNT) (by simp)]
      simp [bumpReg, raise, Bits.satAdd]
    · simp [on, raise]
    · exact (hur.mono (by simp)).trans (by simp)

end Sys2Proof.Machine
end

section
/-!
The card reader and the local list (spec/15_nfc_service_tag.md R479 to R486).
-/
namespace Sys2Proof.Machine

open State

section Card

variable {s : State}

theorem notify_regsBut (type : Nat) (body : List Byte) (s : State) : RegsBut [Reg.HIF_CNT 5, Reg.HIF_EVT] s (notify type body s) := by
  by_cases h : 8 ≤ (queue s 28).length
  · rw [notify, if_pos h]
    simp
  · rw [notify, if_neg h]
    exact (enqueue_within _ _ s).regsBut (by simp)

theorem notify_regsBut_of_room {type : Nat} {body : List Byte} (h : (queue s 28).length < 8) : RegsBut [] s (notify type body s) := by
  rw [notify, if_neg (by omega)]
  exact (enqueue_within _ _ s).regsBut (by simp)

/-- What the registers show of a card seen (R482). -/
def cardShow (uid : List Byte) (sak : Nat) (listed rnd : Bool) (s : State) : State :=
  upTo 3 (fun w t => t.setRegN (Reg.NFC_LASTUID w) (uidWord uid w))
    ((s.setRegN Reg.NFC_LAST (uid.length % 16 + 256 * (sak % 256) + (if listed then 65536 else 0) + (if rnd then 131072 else 0))).raise Fd.NFC_EVT_CARD)

theorem cardSeen_eq (uid : List Byte) (sak : Nat) (s : State) : ∃ body, cardSeen uid sak s =
    if uidRandom uid then notify 0x82 body (cardShow uid sak (!uidRandom uid && s.nfc.list.contains uid) (uidRandom uid) s)
    else cardPresent uid (!uidRandom uid && s.nfc.list.contains uid)
      (notify 0x82 body (cardShow uid sak (!uidRandom uid && s.nfc.list.contains uid) (uidRandom uid) s)) := ⟨_, rfl⟩

/-- The fields of NFC_LAST, taken from the number written. -/
theorem nfcLast_fields (len sak l r : Nat) (hl : l < 2) (hr : r < 2) : ((len % 16 + 256 * (sak % 256) + 65536 * l + 131072 * r) % 2 ^ 32) % 2 ^ 4 = len % 16 ∧
    (len % 16 + 256 * (sak % 256) + 65536 * l + 131072 * r) % 2 ^ 32 / 2 ^ 8 % 2 ^ 8 = sak % 256 ∧
      (len % 16 + 256 * (sak % 256) + 65536 * l + 131072 * r) % 2 ^ 32 / 2 ^ 16 % 2 ^ 1 = l ∧
        (len % 16 + 256 * (sak % 256) + 65536 * l + 131072 * r) % 2 ^ 32 / 2 ^ 17 % 2 ^ 1 = r := by omega

theorem cardShow_regsBut (uid : List Byte) (sak : Nat) (listed rnd : Bool) (s : State) :
    RegsBut ([Reg.NFC_EVT, Reg.NFC_STAT, Reg.NFC_LAST] ++ (List.range 3).map (fun w => Reg.NFC_LASTUID w)) s (cardShow uid sak listed rnd s) := by
  simp [cardShow, upTo, List.range_succ]

theorem cardShow_within (uid : List Byte) (sak : Nat) (listed rnd : Bool) (s : State) : Within [.regs] s (cardShow uid sak listed rnd s) :=
  Within.comp (((Within.refl [.regs] s).setRegN rfl).raise rfl) (Within.upTo (ps := [.regs]) (fun _ u => (Within.refl _ u).setRegN rfl) _) rfl

theorem cardShow_spec (uid : List Byte) (sak : Nat) (listed rnd : Bool) (s : State) : (cardShow uid sak listed rnd s).on Fd.NFC_EVT_CARD = true ∧
    (cardShow uid sak listed rnd s).on Fd.NFC_LAST_RAND = rnd ∧ (cardShow uid sak listed rnd s).on Fd.NFC_LAST_LISTED = listed ∧
      (cardShow uid sak listed rnd s).get Fd.NFC_LAST_LEN = uid.length % 16 ∧ (cardShow uid sak listed rnd s).get Fd.NFC_LAST_SAK = sak % 256 ∧
        (cardShow uid sak listed rnd s).regN (Reg.NFC_LASTUID 0) = uidWord uid 0 % 2 ^ 32 := by
  have hlast : (cardShow uid sak listed rnd s).regN Reg.NFC_LAST =
      (uid.length % 16 + 256 * (sak % 256) + 65536 * listed.toNat + 131072 * rnd.toNat) % 2 ^ 32 := by
    have h : RegsBut [Reg.NFC_EVT, Reg.NFC_LASTUID 0, Reg.NFC_LASTUID 1, Reg.NFC_LASTUID 2]
        (s.setRegN Reg.NFC_LAST (uid.length % 16 + 256 * (sak % 256) + (if listed then 65536 else 0) + (if rnd then 131072 else 0)))
        (cardShow uid sak listed rnd s) := by simp [cardShow, upTo, List.range_succ]
    rw [h.regN (by decide), regN_setRegN_self]
    cases listed <;> cases rnd <;> rfl
  obtain ⟨k1, k2, k3, k4⟩ := nfcLast_fields uid.length sak listed.toNat rnd.toNat (by cases listed <;> decide) (by cases rnd <;> decide)
  have hget (lo w : Nat) : (cardShow uid sak listed rnd s).get ⟨Reg.NFC_LAST, lo, w⟩ = (cardShow uid sak listed rnd s).regN Reg.NFC_LAST / 2 ^ lo % 2 ^ w := by
    rw [State.get, Bits.get, Nat.shiftRight_eq_div_pow]
    rfl
  refine ⟨?_, ?_, ?_, ?_, ?_, ?_⟩
  · have h : RegsBut [Reg.NFC_LASTUID 0, Reg.NFC_LASTUID 1, Reg.NFC_LASTUID 2]
        ((s.setRegN Reg.NFC_LAST (uid.length % 16 + 256 * (sak % 256) + (if listed then 65536 else 0) + (if rnd then 131072 else 0))).raise Fd.NFC_EVT_CARD)
        (cardShow uid sak listed rnd s) := by simp [cardShow, upTo, List.range_succ]
    rw [h.on (by decide)]
    simp [on, raise]
  · rw [on, hget, hlast, k4]
    cases rnd <;> rfl
  · rw [on, hget, hlast, k3]
    cases listed <;> rfl
  · rw [hget, hlast, Nat.pow_zero, Nat.div_one, k1]
  · rw [hget, hlast, k2]
  · have e : cardShow uid sak listed rnd s = (((((s.setRegN Reg.NFC_LAST (uid.length % 16 + 256 * (sak % 256) + (if listed then 65536 else 0) +
        (if rnd then 131072 else 0))).raise Fd.NFC_EVT_CARD).setRegN (Reg.NFC_LASTUID 0) (uidWord uid 0)).setRegN (Reg.NFC_LASTUID 1)
          (uidWord uid 1)).setRegN (Reg.NFC_LASTUID 2) (uidWord uid 2)) := rfl
    rw [e, regN_setRegN_other _ _ _ _ (by decide), regN_setRegN_other _ _ _ _ (by decide), regN_setRegN_self]

theorem listUid_hostAccess (p : Path) (len : Nat) : listUid (hostAccess p s) len = listUid s len := by
  have hn : ∀ w, w < 3 → Reg.NFC_LISTUID w ∉ hostRegs p := by cases p <;> decide
  have h (w : Nat) (hw : w < 3) : (hostAccess p s).regN (Reg.NFC_LISTUID w) = s.regN (Reg.NFC_LISTUID w) :=
    (hostAccess_regsBut p s).regN (hn w hw)
  simp [listUid, List.range_succ, h]

theorem listEdit_add {len : Nat} (h : s.nfc.list.contains (listUid s len) = false) (hl : s.nfc.list.length < 4096) :
    listEdit 1 len s = setList (s.nfc.list ++ [listUid s len]) s := by
  rw [listEdit, if_pos rfl, h, Bool.false_or, if_neg (by simpa using hl)]

theorem listEdit_twice {len : Nat} (h : s.nfc.list.contains (listUid s len) = true) : listEdit 1 len s = s.raise Fd.NFC_EVT_LISTERR := by
  rw [listEdit, if_pos rfl, h, Bool.true_or, if_pos rfl]

theorem readerPoll_one (uid : List Byte) (sak : Nat) (s : State) : readerPoll false [(uid, sak)] s =
    if s.nfc.recent.any (fun l => l.contains uid) then setNfc { s.nfc with recent := ([uid] :: s.nfc.recent).take 3 } (s.lower Fd.NFC_STAT_TAG)
    else cardSeen uid sak (setNfc { s.nfc with recent := ([uid] :: s.nfc.recent).take 3 } (s.lower Fd.NFC_STAT_TAG)) := rfl

theorem cardPresent_of_none (uid : List Byte) (listed : Bool) (h : sesSt s = 0) : cardPresent uid listed s = setSes { s.ses with held := some (uid, listed) } s :=
  if_pos h

/-- A list put in place through the host's path. -/
theorem setList_spec (p : Path) (l : List (List Byte)) (s : State) : (hostReply p 0 (setList l (hostAccess p s))).nfc = { s.nfc with list := l } ∧
    (hostReply p 0 (setList l (hostAccess p s))).reg Reg.NFC_LISTCNT = BitVec.ofNat 32 l.length ∧
      (hostReply p 0 (setList l (hostAccess p s))).out = .hostStatus p 0 :: s.out ∧
        RegsBut (Reg.NFC_LISTCNT :: hostRegs p) s (hostReply p 0 (setList l (hostAccess p s))) := by
  refine ⟨?_, by rw [reg_hostReply, setList, listShow, setRegN, reg_setReg_self]; rfl, ?_, ?_⟩
  · change { (hostAccess p s).nfc with list := l } = _
    rw [hostAccess_nfc]
  · change Output.hostStatus p 0 :: (hostAccess p s).out = _
    rw [hostAccess_out]
  · exact RegsBut.hostReply (RegsBut.trans ((hostAccess_regsBut p s).mono (by simp)) (by simp [setList, listShow, setNfc]))

end Card

/-- Settles O44. -/
theorem cardReader : Obligations.CardReader := by
  unfold Obligations.CardReader
  refine ⟨fun s hh hr ht => ?_, fun s a b hh hr => ?_, fun s uid sak hh hr hu h0 => ?_, fun s uid sak hh hr hu h0 hst => ?_, fun s uid sak hh hr hany => ?_,
    fun s hh => ?_, fun s p len hm hh hc hl => ?_, fun s p len hm hh hc => ?_, fun s p len hm hh => ?_, fun s p hm hh => ?_⟩
  · have e : execReaderPoll true [] s = .next (s.raise Fd.NFC_EVT_EXTFIELD) := by
      rw [execReaderPoll, awake_of_not_held hh, if_pos hr, readerPoll, if_pos rfl, if_neg (by simp [ht])]
    exact ⟨_, e, by simp [on, raise], by simp, (Within.refl _ s).raise rfl⟩
  · have e : execReaderPoll false [a, b] s =
        .next ((setNfc { s.nfc with recent := ([a.1, b.1] :: s.nfc.recent).take 3 } (s.lower Fd.NFC_STAT_TAG)).raise Fd.NFC_EVT_MULTI) := by
      rw [execReaderPoll, awake_of_not_held hh, if_pos hr]
      rfl
    exact ⟨_, e, by simp [on, raise], rfl, by simp [on, raise, setNfc, lower], by simp [setNfc],
      (Within.comp ((Within.refl _ s).lower rfl) (Within.upd_nfc _ _) rfl).raise rfl⟩
  · obtain ⟨v, hv⟩ : ∃ v, v = setNfc { s.nfc with recent := ([uid] :: s.nfc.recent).take 3 } (s.lower Fd.NFC_STAT_TAG) := ⟨_, rfl⟩
    have e : execReaderPoll false [(uid, sak)] s = .next (cardSeen uid sak v) := by
      rw [execReaderPoll, awake_of_not_held hh, if_pos hr, readerPoll_one, if_neg (by simp [h0]), hv]
    obtain ⟨body, hb⟩ := cardSeen_eq uid sak v
    rw [hu, if_pos rfl, Bool.not_true, Bool.false_and] at hb
    obtain ⟨k1, k2, k3, k4, k5, k6⟩ := cardShow_spec uid sak false true v
    have hn := notify_regsBut 0x82 body (cardShow uid sak false true v)
    have hv0 : RegsBut [Reg.NFC_STAT] s v := by rw [hv]; simp
    have hlen : uid.length = 4 := by
      simp only [uidRandom, Bool.and_eq_true, beq_iff_eq] at hu
      exact hu.1
    refine Answers.mk (e.trans (congrArg _ hb)) (execReaderPoll_answers false [(uid, sak)] s) fun hw => ⟨?_, ?_, ?_, ?_, ?_, ?_, ?_, fun hq => ?_, hw⟩
    · rw [hn.on (by decide), k1]
    · rw [hn.on (by decide), k2]
    · rw [hn.on (by decide), k3]
    · rw [hn.get (by decide), k4, hlen]
    · rw [hn.get (by decide), k5]
    · rw [hn.regN (by decide), k6, uidWord, Nat.mul_zero, List.drop_zero, ← hlen, List.take_length, Nat.mod_eq_of_lt]
      exact Nat.lt_of_lt_of_eq (ofLeBytes_lt uid) ((congrArg (256 ^ ·) hlen).trans (by decide))
    · rw [(notify_within _ _ _).same .ses (by simp), (cardShow_within _ _ _ _ _).same .ses (by simp), hv]
      rfl
    · have hq2 : (queue (cardShow uid sak false true v) 28).length < 8 := by
        have h1 : (cardShow uid sak false true v).q = s.q := by rw [(cardShow_within _ _ _ _ _).same .q (by simp), hv]; rfl
        rwa [queue, h1]
      exact (hv0.mono (by simp)).trans ((cardShow_regsBut _ _ _ _ _).trans ((notify_regsBut_of_room hq2).mono (by simp)))
  · obtain ⟨v, hv⟩ : ∃ v, v = setNfc { s.nfc with recent := ([uid] :: s.nfc.recent).take 3 } (s.lower Fd.NFC_STAT_TAG) := ⟨_, rfl⟩
    have e : execReaderPoll false [(uid, sak)] s = .next (cardSeen uid sak v) := by
      rw [execReaderPoll, awake_of_not_held hh, if_pos hr, readerPoll_one, if_neg (by simp [h0]), hv]
    have hl : v.nfc.list = s.nfc.list := by rw [hv]; rfl
    obtain ⟨body, hb⟩ := cardSeen_eq uid sak v
    rw [hu, if_neg (by simp), Bool.not_false, Bool.true_and, hl] at hb
    obtain ⟨k1, k2, k3, k4, k5, k6⟩ := cardShow_spec uid sak (s.nfc.list.contains uid) false v
    have hn := notify_regsBut 0x82 body (cardShow uid sak (s.nfc.list.contains uid) false v)
    have hv0 : RegsBut [Reg.NFC_STAT] s v := by rw [hv]; simp
    have hst2 : sesSt (notify 0x82 body (cardShow uid sak (s.nfc.list.contains uid) false v)) = 0 :=
      (hn.get (by decide)).trans (((cardShow_regsBut _ _ _ _ _).get (by decide)).trans ((hv0.get (by decide)).trans hst))
    have hses : (notify 0x82 body (cardShow uid sak (s.nfc.list.contains uid) false v)).ses = s.ses := by
      rw [(notify_within _ _ _).same .ses (by simp), (cardShow_within _ _ _ _ _).same .ses (by simp), hv]
      rfl
    rw [cardPresent_of_none _ _ hst2, hses] at hb
    refine Answers.mk (e.trans (congrArg _ hb)) (execReaderPoll_answers false [(uid, sak)] s) fun hw => ⟨(hn.on (by decide)).trans k1,
      (hn.on (by decide)).trans k2, (hn.on (by decide)).trans k3, rfl, fun hq => ?_, hw⟩
    have hq2 : (queue (cardShow uid sak (s.nfc.list.contains uid) false v) 28).length < 8 := by
      have h1 : (cardShow uid sak (s.nfc.list.contains uid) false v).q = s.q := by rw [(cardShow_within _ _ _ _ _).same .q (by simp), hv]; rfl
      rwa [queue, h1]
    exact ((hv0.mono (by simp)).trans ((cardShow_regsBut _ _ _ _ _).trans ((notify_regsBut_of_room hq2).mono (by simp)))).same rfl
  · have e : execReaderPoll false [(uid, sak)] s = .next (setNfc { s.nfc with recent := ([uid] :: s.nfc.recent).take 3 } (s.lower Fd.NFC_STAT_TAG)) := by
      rw [execReaderPoll, awake_of_not_held hh, if_pos hr, readerPoll_one, if_pos hany]
    exact ⟨_, e, rfl, by simp [setNfc], Within.comp ((Within.refl _ s).lower rfl) (Within.upd_nfc _ _) rfl⟩
  · exact ⟨_, awake_of_not_held hh, rfl, by simp [cardEnd, setNfc, on, lower], by simp [cardEnd, setNfc],
      Within.comp ((Within.refl _ s).lower rfl) (Within.upd_nfc _ _) rfl⟩
  · have e : execListAdd p len s = .next (hostReply p 0 (setList (s.nfc.list ++ [listUid s len]) (hostAccess p s))) := by
      rw [execListAdd, hostOwn_of_may hm, toIsland_hostAccess hh, listEdit_add (by rwa [listUid_hostAccess, hostAccess_nfc]) (by rwa [hostAccess_nfc]),
        listUid_hostAccess, hostAccess_nfc]
    obtain ⟨k1, k2, k3, k4⟩ := setList_spec p (s.nfc.list ++ [listUid s len]) s
    refine Answers.mk e (execListAdd_answers p len s) fun hw => ⟨k1, ?_, k3, k4, hw⟩
    rw [regN, k2]
    simp
    omega
  · have e : execListAdd p len s = .next (hostReply p 0 ((hostAccess p s).raise Fd.NFC_EVT_LISTERR)) := by
      rw [execListAdd, hostOwn_of_may hm, toIsland_hostAccess hh, listEdit_twice (by rwa [listUid_hostAccess, hostAccess_nfc])]
    exact ⟨_, e, by simp [on, raise], shnReply_out ((Within.refl _ _).raise rfl), (((hostAccess_regsBut p s).mono (by simp)).raise (by simp)).hostReply,
      (((hostAccess_within p s).sub rfl).raise rfl).hostReply rfl⟩
  · have e : execListRemove p len s = .next (hostReply p 0 (setList (s.nfc.list.filter (· != listUid s len)) (hostAccess p s))) := by
      rw [execListRemove, hostOwn_of_may hm, toIsland_hostAccess hh, ← listUid_hostAccess (s := s) p len, ← hostAccess_nfc (p := p) (s := s)]
      rfl
    obtain ⟨k1, k2, k3, k4⟩ := setList_spec p (s.nfc.list.filter (· != listUid s len)) s
    exact Answers.mk e (execListRemove_answers p len s) fun hw => ⟨k1, k3, k4, hw⟩
  · have e : execListClear p s = .next (hostReply p 0 (setList [] (hostAccess p s))) := by
      rw [execListClear, hostOwn_of_may hm, toIsland_hostAccess hh]
      rfl
    obtain ⟨k1, k2, k3, k4⟩ := setList_spec p [] s
    exact Answers.mk e (execListClear_answers p s) fun hw => ⟨k1, k2, k3, k4, hw⟩

end Sys2Proof.Machine
end

section
/-!
The Amene bus (spec/13_amene_bus.md R443 to R448): why a frame sent need not move its counter by one in every state.
-/
namespace Sys2Proof.Machine

open State

/-- The counts of grants of kinds 335840 and 335845 lie in AMB_CNT. -/
theorem tokCnt_ambCnt : Reg.TOK_CNT 335840 = Reg.AMB_CNT 0 ∧ Reg.TOK_CNT 335845 = Reg.AMB_CNT 5 := ⟨rfl, rfl⟩

/-- An Amene module of a role that holds its Token of kind 5, while a request of the kind given is deferred. -/
def strayBus (role kind : Nat) : State :=
  ((strayToken 0 ⟨5, 0, 0, 0, false⟩ kind).put Fd.AMB_STAT_ROLE role).raise Fd.AMB_STAT_READY

/-- A joined slave at node address 1 whose slot comes first. -/
def straySlave : State :=
  { ((strayBus 1 335840).raise Fd.AMB_STAT_JOINED).setPar Par.AMB_NODE 1 with amb := { AmbState.start [] [] [] [] with entries := [(1, 0)], rlen := 17 } }

/-- The frame counts once, the Token is released, and the grant of the deferred request counts in AMB_CNT[0] once more. -/
theorem ambCnt_straySlave : (slotStart 0 straySlave).regN (Reg.AMB_CNT 0) = 2 := by decide +kernel

/-- Refutes O40: the clause of a slave's slot says AMB_CNT[0] moves by one in every state, but serving a deferred request of kind 335840 counts it in
AMB_CNT[0] itself (straySlave; no run of the module reaches it, as requests have kinds 0 to 8). -/
theorem not_ameneSlave : ¬ Obligations.AmeneSlave := by
  unfold Obligations.AmeneSlave
  rintro ⟨-, -, hslot, -⟩
  have hh : straySlave.held .amene = false := by decide +kernel
  have hrole : ambRole straySlave 1 = true := by decide +kernel
  have hpfw : straySlave.pfw = false := by decide +kernel
  have hjoin : straySlave.on Fd.AMB_STAT_JOINED = true := by decide +kernel
  have hnode : straySlave.parN Par.AMB_NODE = 1 := by decide +kernel
  have htok : tokHolds straySlave 5 0 = true := by decide +kernel
  have hcnt : straySlave.regN (Reg.AMB_CNT 0) = 0 := by decide +kernel
  obtain ⟨t, ht, -, -, -, h1, -⟩ := hslot straySlave 0 0 hh hrole hpfw hjoin (by omega) (by rw [hnode]; rfl) rfl rfl rfl (by decide) htok
  have e : exec (.respSlotStart 0) straySlave = .next (slotStart 0 straySlave) := awake_of_not_held hh
  rw [← Host.Outcome.next.inj (e.symm.trans ht), ambCnt_straySlave, hcnt] at h1
  exact absurd h1 (by decide)

/-- A master with no node joined. -/
def strayMaster : State := { strayBus 2 335845 with amb := AmbState.start [] [] [] [] }

/-- The POLL counts once, and the grant of the deferred request has counted in AMB_CNT[5] before it. -/
theorem ambCnt_strayMaster : (pollSend true 0 (bcastSend strayMaster)).regN (Reg.AMB_CNT 5) = 2 := by decide +kernel

/-- Refutes O39: the clause of a POLL says AMB_CNT[5] moves by one in every state, but serving a deferred request of kind 335845 counts it in AMB_CNT[5]
itself (strayMaster; no run of the module reaches it, as requests have kinds 0 to 8). -/
theorem not_ameneMaster : ¬ Obligations.AmeneMaster := by
  unfold Obligations.AmeneMaster
  rintro ⟨hpoll, -⟩
  have hh : strayMaster.held .amene = false := by decide +kernel
  have hrole : ambRole strayMaster 2 = true := by decide +kernel
  have hpfw : strayMaster.pfw = false := by decide +kernel
  have hent : pollEntries true strayMaster = [0] := by decide +kernel
  have hcnt : strayMaster.regN (Reg.AMB_CNT 5) = 0 := by decide +kernel
  obtain ⟨t, ht, -, -, -, -, -, -, h1, -⟩ := hpoll strayMaster true 0 hh hrole hpfw hent rfl rfl
  have e : exec (.pollSend true 0) strayMaster = .next (pollSend true 0 (bcastSend strayMaster)) :=
    (awake_of_not_held hh).trans (congrArg Host.Outcome.next (if_pos (by rw [hrole, hpfw]; rfl)))
  rw [← Host.Outcome.next.inj (e.symm.trans ht), ambCnt_strayMaster, hcnt] at h1
  exact absurd h1 (by decide)

end Sys2Proof.Machine
end

section
/-!
The display: pages, its check, its supply and the backlight (spec/17_lantern_display.md R523 to R531).
-/
namespace Sys2Proof.Machine

open State

section Lcd

variable {s : State}

/-- The registers of the glass (R523). -/
def lcdRegs : List Nat := [Reg.LCD_STAT, Reg.LCD_IMG 0, Reg.LCD_IMG 1, Reg.LCD_IMG 2, Reg.LCD_IMG 3, Reg.LCD_IMG 4]

theorem lcdImg_mem {w : Nat} (h : w < 5) : Reg.LCD_IMG w ∈ lcdRegs := by
  revert w
  decide

theorem lcdImg_ne (w : Nat) : Reg.LCD_STAT ≠ Reg.LCD_IMG w := by grind

theorem lcdShow_regsBut (s : State) : RegsBut lcdRegs s (lcdShow s) :=
  (upTo_regsBut 5 (fun _ hi _ => (RegsBut.refl _ _).setRegN (lcdImg_mem hi)) s).putB (by decide)

/-- Of LCD_STAT only CHECK follows the image. -/
theorem get_lcdShow (s : State) {lo w : Nat} (h : 6 ≤ lo ∨ lo + w ≤ 5) : (lcdShow s).get ⟨Reg.LCD_STAT, lo, w⟩ = s.get ⟨Reg.LCD_STAT, lo, w⟩ := by
  have hk : ∀ (n : Nat) (f : Nat → State → Nat) (t : State),
      (upTo n (fun w u => u.setRegN (Reg.LCD_IMG w) (f w u)) t).get ⟨Reg.LCD_STAT, lo, w⟩ = t.get ⟨Reg.LCD_STAT, lo, w⟩ := fun n f t =>
    upTo_preserves (P := fun u => u.get ⟨Reg.LCD_STAT, lo, w⟩ = t.get ⟨Reg.LCD_STAT, lo, w⟩) (fun i _ u hu => by
      rw [get_setRegN_of_ne _ _ (lcdImg_ne i), hu]) rfl
  rw [lcdShow, putB, get_put_other _ _ _ _ (.inr (by simpa [or_comm] using h))]
  exact hk _ _ _

theorem lcdShow_lcd (s : State) : (lcdShow s).lcd = s.lcd := (lcdShow_within s).same .lcd (by simp)

theorem lcdLight_regsBut (l : List Nat) (s : State) : RegsBut l s (lcdLight s) := (lcdLight_within s).regsBut (by simp)

theorem lcdNext_spec (s : State) : (lcdNext s).get Fd.LCD_STAT_PAGE = nextPage s (s.get Fd.LCD_STAT_PAGE) % 16 ∧ RegsBut lcdRegs s (lcdNext s) := by
  refine ⟨?_, RegsBut.trans ((RegsBut.refl _ s).put (by decide)) (lcdShow_regsBut _)⟩
  rw [lcdNext, get_lcdShow _ (.inl (by decide)), get_put_same _ _ _ (by simp)]
  rfl

/-- The page that the Lantern shows first (R527). -/
def firstPage (s : State) : Nat := if pageUsed s 0 then 0 else nextPage s 0

/-- The Lantern powers up with VLCD in range (R527). -/
theorem lcdUp_spec (hh : s.held .service = false) (hp : s.pfw = false) (hb : s.on Fd.LCD_STAT_BLON = false) :
    (lcdUp true s).on Fd.LCD_STAT_VLCDOK = true ∧ (lcdUp true s).on Fd.LCD_STAT_BIASOK = true ∧ (lcdUp true s).on Fd.LCD_STAT_DRVON = true ∧
      (lcdUp true s).on Fd.LCD_STAT_BLON = true ∧ (lcdUp true s).get Fd.LCD_STAT_PAGE = firstPage s % 16 ∧ (lcdUp true s).lcd.shown = true ∧
        RegsBut lcdRegs s (lcdUp true s) := by
  obtain ⟨t, ht⟩ : ∃ t, t = ((s.raise Fd.LCD_STAT_VLCDOK).raise Fd.LCD_STAT_BIASOK).raise Fd.LCD_STAT_DRVON := ⟨_, rfl⟩
  obtain ⟨u, hu⟩ : ∃ u, u = (((t.putB Fd.LCD_STAT_LEGALOK (!legalFails t)).raise Fd.LCD_STAT_BLON).put Fd.LCD_STAT_PAGE (firstPage s)) := ⟨_, rfl⟩
  obtain ⟨v, hv⟩ : ∃ v, v = lcdShow (setLcd { u.lcd with shown := true } u) := ⟨_, rfl⟩
  have e : lcdUp true s = lcdLight v := by
    rw [lcdUp, if_neg (by simp [hh, hp, hb]), if_neg (by simp), hv, hu, ht]
    rfl
  have hl := lcdLight_regsBut [] v
  have hget {lo w : Nat} (h : 6 ≤ lo ∨ lo + w ≤ 5) : v.get ⟨Reg.LCD_STAT, lo, w⟩ = u.get ⟨Reg.LCD_STAT, lo, w⟩ := by
    rw [hv, get_lcdShow _ h]
    rfl
  rw [e]
  refine ⟨?_, ?_, ?_, ?_, ?_, ?_, ?_⟩
  · rw [hl.on (by simp), on, hget (.inr (by decide)), hu, ht]
    simp [raise, putB]
  · rw [hl.on (by simp), on, hget (.inr (by decide)), hu, ht]
    simp [raise, putB]
  · rw [hl.on (by simp), on, hget (.inr (by decide)), hu, ht]
    simp [raise, putB]
  · rw [hl.on (by simp), on, hget (.inr (by decide)), hu]
    simp [raise]
  · rw [hl.get (by simp), hget (.inl (by decide)), hu, get_put_same _ _ _ (by simp)]
    rfl
  · change v.lcd.shown = true
    rw [hv, lcdShow_lcd]
    rfl
  · have h1 : RegsBut lcdRegs s u := by
      rw [hu, ht]
      exact ((((((RegsBut.refl _ s).raise (by decide)).raise (by decide)).raise (by decide)).putB (by decide)).raise (by decide)).put (by decide)
    refine h1.trans (RegsBut.trans ?_ (lcdLight_regsBut _ v))
    rw [hv]
    exact RegsBut.trans ((RegsBut.refl _ u).same rfl) (lcdShow_regsBut _)

end Lcd

section Follow

/-- The commands of the load switches and the silence of X14 stay as they were. -/
def LswKeeps (s t : State) : Prop := t.lsw.cmds = s.lsw.cmds ∧ t.lsw.silent = s.lsw.silent

variable {s t u : State}

theorem LswKeeps.refl (s : State) : LswKeeps s s := ⟨rfl, rfl⟩

theorem LswKeeps.trans (h1 : LswKeeps s t) (h2 : LswKeeps t u) : LswKeeps s u := ⟨h2.1.trans h1.1, h2.2.trans h1.2⟩

theorem LswKeeps.of_lsw (h : t.lsw = s.lsw) : LswKeeps s t := by rw [LswKeeps, h]; exact ⟨rfl, rfl⟩

theorem LswKeeps.of_within {ps : List Part} (h : Within ps s t) (hp : .lsw ∉ ps) : LswKeeps s t := .of_lsw (h.same .lsw hp)

theorem LswKeeps.ite {c : Prop} [Decidable c] (h1 : LswKeeps s t) (h2 : LswKeeps s u) : LswKeeps s (if c then t else u) := by
  split
  · exact h1
  · exact h2

theorem lsPut_keeps (n st : Nat) (s : State) : LswKeeps s (lsPut n st s) := .of_within (lsPut_within n st s) (by simp)

theorem lsForget_keeps (n : Nat) (s : State) : LswKeeps s (lsForget n s) := ⟨rfl, rfl⟩

theorem lsOn_keeps (n : Nat) (s : State) : LswKeeps s (lsOn n s) := ⟨rfl, rfl⟩

theorem lsRefused_keeps (r n : Nat) (s : State) : LswKeeps s (lsRefused r n s) := by
  rw [lsRefused]
  exact .ite ⟨rfl, rfl⟩ ⟨rfl, rfl⟩

theorem lsTurnOn_keeps (n : Nat) (s : State) : LswKeeps s (lsTurnOn n s) := by
  rw [lsTurnOn]
  refine .ite (lsPut_keeps _ _ _) (.ite (lsPut_keeps _ _ _) (.ite (lsPut_keeps _ _ _) (.ite (lsPut_keeps _ _ _) (.ite (lsOn_keeps _ _) (.ite ?_
    (.ite (lsOn_keeps _ _) ?_))))))
  · exact .ite (.ite (lsPut_keeps _ _ _) ⟨rfl, rfl⟩) (lsOn_keeps _ _)
  · have h : LswKeeps s (tokRequest 2 n (s.parN (Par.INRUSH_I n)) s).2 := .of_within (tokRequest_within _ _ _ _) (by simp)
    generalize tokRequest 2 n (s.parN (Par.INRUSH_I n)) s = x at h
    obtain ⟨a, v⟩ := x
    cases a with
    | granted => exact h.trans (lsOn_keeps _ _)
    | deferred => exact h.trans (lsPut_keeps _ _ _)
    | refused r => exact h.trans (lsRefused_keeps _ _ _)

theorem lsTurns_keeps (k : Nat) (s : State) : LswKeeps s (lsTurns k s) := by
  induction k generalizing s with
  | zero => exact .refl s
  | succ k ih =>
    rw [lsTurns]
    refine .ite (.refl s) ?_
    split
    · exact .refl s
    · next n ns _ =>
      have h0 : LswKeeps s (setLsw { s.lsw with turns := [] } s) := ⟨rfl, rfl⟩
      have h1 := h0.trans (lsTurnOn_keeps n _)
      exact (h1.trans (u := setLsw { (lsTurnOn n (setLsw { s.lsw with turns := [] } s)).lsw with turns := ns } _) ⟨rfl, rfl⟩).trans (ih _)

theorem lsOff_keeps (n st : Nat) (s : State) : LswKeeps s (lsOff n st s) := by
  obtain ⟨t, ht⟩ : ∃ t, t = (lsPut n st (s.putBit Reg.LSW_STAT n false)).lower (Fd.LSW_CH_WINDOW n) := ⟨_, rfl⟩
  have h0 : LswKeeps s t := by rw [ht]; exact ⟨rfl, rfl⟩
  have h1 : LswKeeps t (if tokWaits t 2 n then tokServe (tokDrop 2 n t) else tokRelease 2 n t) :=
    .ite ((LswKeeps.of_within (tokDrop_within _ _ t) (by simp)).trans (.of_within (tokServe_within _) (by simp))) (.of_within (tokRelease_within _ _ _) (by simp))
  rw [lsOff, ← ht]
  exact (h0.trans (h1.trans (lsForget_keeps n _))).trans (lsTurns_keeps 12 _)

theorem lsFollow_keeps (n : Nat) (s : State) : LswKeeps s (lsFollow n s) := by
  rw [lsFollow]
  exact .ite (.ite (lsTurnOn_keeps n s) (.refl s)) (.ite (lsForget_keeps n s) (lsOff_keeps n 0 s))

theorem lsFollowAll_keeps (s : State) : LswKeeps s (lsFollowAll s) :=
  upTo_preserves (P := LswKeeps s) (fun i _ _ h => h.trans (lsFollow_keeps i _)) (.refl s)

end Follow

section Readback

variable {s : State} {n : Nat}

theorem range_filter_eq {m k : Nat} (h : k < m) : (List.range m).filter (fun x => x == k) = [k] := by
  rw [List.filter_beq, List.count_range, if_pos h]
  rfl

/-- A third miss in a row of an output that had failed twice (R526), with no image shown. -/
theorem lcdReadback_third (hn : n < 164) (hr : s.lcd.runs = [(n, 2, 0)]) (hs : s.lcd.shown = false) : lcdReadback [n] s =
    setLcd { s.lcd with runs := [(n, 3, 0)] } (if s.bitOf (Reg.LCD_FAIL (n / 32)) (n % 32) then s
      else (s.putBit (Reg.LCD_FAIL (n / 32)) (n % 32) true).raise Fd.LCD_EVT_READBACK) := by
  have hnear : (List.range 164).filter (fun k => [n].contains k || s.lcd.runs.any (fun e => e.1 == k)) = [n] := by
    rw [hr, ← range_filter_eq hn]
    congr 1
    funext k
    by_cases h : k = n
    · simp [h]
    · have hnk : (n == k) = false := beq_eq_false_iff_ne.2 (Ne.symm h)
      simp [h, hnk]
  have hf : failRun s ([n].contains n) n = (3, 0) := by simp [failRun, hr]
  simp only [lcdReadback, hnear, List.foldl, List.map, hf, List.filter]
  cases s.bitOf (Reg.LCD_FAIL (n / 32)) (n % 32) <;> simp [hs, setLcd]

end Readback

/-- A word from the Core island outside limp-home brings every command and the image (R502, R525). -/
theorem serviceWordReceive_spec {s : State} (hh : s.held .service = false) (hi : s.on Fd.LSW_STAT_LIMPIN = false) (hl : limp s = false) :
    ∃ u, execServiceWordReceive true s = .next (lcdImage u) ∧ u.lsw.silent = false ∧ u.lsw.cmds = (List.range 12).map (fun n => s.on (Fd.LSW_CTL_ON n)) := by
  obtain ⟨v, hv⟩ : ∃ v, v = setLsw { s.lsw with silent := false } s := ⟨_, rfl⟩
  have hlimp : limp v = false := by rw [hv]; exact hl
  have hin : (v.on Fd.LSW_STAT_LIMPIN || v.lsw.silent) = false := by
    rw [hv]
    exact Bool.or_eq_false_iff.2 ⟨hi, rfl⟩
  have e : limpUpdate v = v := by
    rw [limpUpdate, hin, hlimp, if_pos (show (false == false) = true from rfl), if_neg (by simp)]
  obtain ⟨k1, k2⟩ := lsFollowAll_keeps (setLsw { v.lsw with cmds := (List.range 12).map (fun n => v.on (Fd.LSW_CTL_ON n)) } v)
  refine ⟨lsTake v, ?_, ?_, ?_⟩
  · rw [execServiceWordReceive, if_neg (show ¬ s.held .service = true by simp [hh]), ← hv, e]
    exact congrArg (fun t => Host.Outcome.next (lcdImage t)) (if_neg (show ¬ limp v = true by simp [hlimp]))
  · exact k2.trans (by rw [hv]; rfl)
  · exact k1.trans (by rw [hv]; rfl)

/-- An output that fails for the third time in a row is listed in LCD_FAIL and announced (R526). -/
theorem displayFrameReadback_third {s : State} {n : Nat} (hh : s.held .service = false) (hd : s.on Fd.LCD_STAT_DRVON = true) (hn : n < 164)
    (hr : s.lcd.runs = [(n, 2, 0)]) (hs : s.lcd.shown = false) : Answers (execDisplayFrameReadback [n] s) fun t =>
      t.bitOf (Reg.LCD_FAIL (n / 32)) (n % 32) = true ∧ t.lcd = { s.lcd with runs := [(n, 3, 0)] } ∧
        (s.bitOf (Reg.LCD_FAIL (n / 32)) (n % 32) = false → t.on Fd.LCD_EVT_READBACK = true) ∧ RegsBut [Reg.LCD_FAIL (n / 32), Reg.LCD_EVT] s t ∧
        Within [.regs, .lcd] s t := by
  have e : execDisplayFrameReadback [n] s = .next (lcdReadback [n] s) := by rw [execDisplayFrameReadback, awake_of_not_held hh, if_pos hd]
  have hb : n % 32 < 32 := Nat.mod_lt _ (by decide)
  have hne : Reg.LCD_FAIL (n / 32) ≠ Reg.LCD_EVT := by grind
  obtain ⟨u, hu⟩ : ∃ u : State, u = if s.bitOf (Reg.LCD_FAIL (n / 32)) (n % 32) then s
    else (s.putBit (Reg.LCD_FAIL (n / 32)) (n % 32) true).raise Fd.LCD_EVT_READBACK := ⟨_, rfl⟩
  obtain ⟨k1, k2, k3⟩ : u.bitOf (Reg.LCD_FAIL (n / 32)) (n % 32) = true ∧
      (s.bitOf (Reg.LCD_FAIL (n / 32)) (n % 32) = false → u.on Fd.LCD_EVT_READBACK = true) ∧ RegsBut [Reg.LCD_FAIL (n / 32), Reg.LCD_EVT] s u := by
    rw [hu]
    cases hbit : s.bitOf (Reg.LCD_FAIL (n / 32)) (n % 32) with
    | true =>
      rw [if_pos rfl]
      exact ⟨hbit, fun h => absurd h (by simp), .refl _ s⟩
    | false =>
      rw [if_neg (by simp)]
      refine ⟨?_, fun _ => ?_, ((RegsBut.refl _ s).putBit (by simp)).raise (by simp)⟩
      · rw [raise, bitOf_put _ _ _ _ _ (by simp), if_neg (fun h => hne h.1), bitOf_putBit _ _ _ _ _ _ hb, if_pos ⟨rfl, rfl⟩]
      · simp [on, raise]
  have e2 := lcdReadback_third hn hr hs
  rw [← hu] at e2
  exact Answers.mk (e.trans (congrArg _ e2)) (execDisplayFrameReadback_answers [n] s) fun hw => ⟨k1, rfl, k2, k3.same rfl, hw⟩

/-- Settles O48. -/
theorem lantern : Obligations.Lantern := by
  unfold Obligations.Lantern
  refine ⟨fun s hh hi hl => ?_, fun s hh hu => ?_, fun s hh hu => ⟨s, (awake_of_not_held hh).trans (congrArg Host.Outcome.next (if_pos hu)), rfl⟩, fun s hh => ?_,
    fun s n hh hd hn hr hs => ?_, fun s => ?_, fun s p hm hh => ?_, fun s p hm hh => ?_, fun s hh hp hb => ?_, fun s hh hp hb hu => ?_, fun s hh hp hb hu => ?_, fun s => ?_⟩
  · obtain ⟨u, e, k1, k2⟩ := serviceWordReceive_spec hh hi hl
    have hlsw : (lcdImage u).lsw = u.lsw := by
      rw [lcdImage, (lcdLight_within _).same .lsw (by simp), (lcdShow_within _).same .lsw (by simp)]
      rfl
    refine Answers.mk e (execServiceWordReceive_answers true s) fun hw => ⟨hlsw ▸ k1, hlsw ▸ k2, ?_, hw⟩
    rw [lcdImage, (lcdLight_regsBut [] _).on (by simp), on, get_lcdShow _ (.inl (by decide))]
    simp [lower]
  · obtain ⟨k1, k2⟩ := lcdNext_spec s
    have e : execDisplayPageAdvance s = .next (lcdNext s) := (awake_of_not_held hh).trans (congrArg Host.Outcome.next (if_neg (by omega)))
    exact Answers.mk e (execDisplayPageAdvance_answers s) fun hw => ⟨k1, k2, hw⟩
  · have e : execDisplayStale s = .next (lcdShow ((s.raise Fd.LCD_STAT_STALE).raise Fd.LCD_EVT_STALE)) := congrArg Host.Outcome.next (if_neg (by simp [hh]))
    have hl := lcdShow_regsBut ((s.raise Fd.LCD_STAT_STALE).raise Fd.LCD_EVT_STALE)
    refine Answers.mk e (execDisplayStale_answers s) fun hw => ⟨?_, ?_, ?_, hw⟩
    · rw [on, get_lcdShow _ (.inl (by decide))]
      simp [raise]
    · rw [hl.on (by decide)]
      simp [on, raise]
    · exact RegsBut.trans (((RegsBut.refl _ s).raise (by simp)).raise (by simp)) (hl.mono (by simp [lcdRegs]))
  · exact displayFrameReadback_third hh hd hn hr hs
  · have e : execConfirmedDisplayEnd s = .next (lcdShow (setLcd { s.lcd with confirmed := none } s)) := rfl
    exact Answers.mk e (execConfirmedDisplayEnd_answers s) fun hw => ⟨lcdShow_lcd _, RegsBut.trans ((RegsBut.refl _ s).same rfl) (lcdShow_regsBut _), hw⟩
  · have e : execDisplayHold p s = .next (hostReply p 0 (setLcd { s.lcd with holdEnd := s.regN Reg.SYS_UPTIME + 60 } (hostAccess p s))) := by
      rw [execDisplayHold, hostOwn_of_may hm, toIsland_hostAccess hh, (hostAccess_regsBut p s).regN (by cases p <;> decide), hostAccess_lcd]
    refine Answers.mk e (execDisplayHold_answers p s) fun hw => ⟨rfl, ?_, RegsBut.hostReply (p := p) ((hostAccess_regsBut p s).same rfl) (status := 0), hw⟩
    rw [hostReply_out]
    exact congrArg _ (hostAccess_out (p := p) (s := s))
  · have e : execDisplayNext p s = .next (hostReply p 0 (lcdNext (hostAccess p s))) := by rw [execDisplayNext, hostOwn_of_may hm, toIsland_hostAccess hh]
    obtain ⟨k1, k2⟩ := lcdNext_spec (hostAccess p s)
    have hpage : (hostAccess p s).get Fd.LCD_STAT_PAGE = s.get Fd.LCD_STAT_PAGE := (hostAccess_regsBut p s).get (by cases p <;> decide)
    have hnext : nextPage (hostAccess p s) = nextPage s := by
      funext i
      simp [nextPage, funext fun k => show pageUsed (hostAccess p s) k = pageUsed s k by simp [pageUsed]]
    refine Answers.mk e (execDisplayNext_answers p s) fun hw => ⟨?_, hw.same .lcd (by simp), shnReply_out (lcdNext_within _),
      (((hostAccess_regsBut p s).mono (List.subset_append_right _ _)).trans (k2.mono (List.subset_append_left _ _))).hostReply, hw⟩
    rw [get_hostReply, k1, hpage, hnext]
  · have e : execLanternPowerUp false s = .next (s.raise Fd.LCD_EVT_RAILFAIL) := by
      rw [execLanternPowerUp, awake_of_not_held hh, lcdUp, if_neg (by simp [hh, hp, hb])]
      rfl
    exact ⟨_, e, by simp [on, raise], by simp, (Within.refl _ s).raise rfl⟩
  · obtain ⟨k1, k2, k3, k4, k5, k6, k7⟩ := lcdUp_spec hh hp hb
    have e : execLanternPowerUp true s = .next (lcdUp true s) := awake_of_not_held hh
    exact Answers.mk e (execLanternPowerUp_answers true s) fun hw => ⟨k1, k2, k3, k4, by rw [k5, firstPage, if_pos hu], k6, k7, hw⟩
  · obtain ⟨k1, k2, k3, k4, k5, k6, k7⟩ := lcdUp_spec hh hp hb
    have e : execVlcdRailRetry true s = .next (lcdUp true s) := awake_of_not_held hh
    exact Answers.mk e (execVlcdRailRetry_answers true s) fun hw => ⟨k3, k4, by rw [k5, firstPage, if_neg (by simp [hu])], k6, k7, hw⟩
  · obtain ⟨u, hu⟩ : ∃ u, u = (s.raise Fd.HIF_STAT_HOSTABS).raise Fd.SES_STAT_HOSTABS := ⟨_, rfl⟩
    have e : execHostAbsent s = .next (lcdLight u) := by rw [hu]; rfl
    have habs : u.on Fd.HIF_STAT_HOSTABS = true := by rw [hu]; simp [on, raise]
    have hbl : u.on Fd.LCD_STAT_BLON = s.on Fd.LCD_STAT_BLON := by rw [hu]; simp [on, raise]
    have hur : RegsBut [Reg.HIF_STAT, Reg.SES_STAT] s u := by rw [hu]; simp
    have hpar : ∀ q, u.parN q = s.parN q := fun q => by rw [hu]; rfl
    refine Answers.mk e (execHostAbsent_answers s) fun hw => ⟨?_, ?_, ?_, hur.trans (lcdLight_regsBut _ u), hw⟩
    · rw [(lcdLight_regsBut [] u).on (by simp), habs]
    · rw [(lcdLight_regsBut [] u).on (by simp), hu]
      simp [on, raise]
    · simp only [lcdLight, habs, if_true, hbl, hpar]
      change (if _ then lcdDuty u 2 _ else 0) = _
      simp only [lcdDuty, hpar]

end Sys2Proof.Machine
end

section
/-!
Privileged sessions of a path and the Ethernet connection (spec/23_host_interface.md R626 to R631).
-/
namespace Sys2Proof.Machine

open State

section Slots

variable {s t : State} {l : List Nat}

/-- Registers below the Grotto's slot table say nothing of the slots. -/
theorem slot_notMem (hl : ∀ a ∈ l, a < 0x180000) (n : Nat) : Reg.KEY_SLOT n ∉ l ∧ Reg.KEY_SLOTX n ∉ l :=
  ⟨fun h => absurd (hl _ h) (by unfold Reg.KEY_SLOT; omega), fun h => absurd (hl _ h) (by unfold Reg.KEY_SLOTX; omega)⟩

theorem slotType_congr (h : RegsBut l s t) (hl : ∀ a ∈ l, a < 0x180000) (n : Nat) : slotType t n = slotType s n := h.get (slot_notMem hl n).1

theorem slotUse_congr (h : RegsBut l s t) (hl : ∀ a ∈ l, a < 0x180000) (n b : Nat) : slotUse t n b = slotUse s n b := by
  rw [slotUse, slotUse, h.get (slot_notMem hl n).1]

theorem usableN_congr (h : RegsBut l s t) (hl : ∀ a ∈ l, a < 0x180000) (d n : Nat) : usableN d t n = usableN d s n := by
  induction d generalizing n with
  | zero => rfl
  | succ d ih =>
    have hk := slot_notMem hl n
    have hx : ∀ lo w, t.get ⟨Reg.KEY_SLOTX n, lo, w⟩ = s.get ⟨Reg.KEY_SLOTX n, lo, w⟩ := fun lo w => h.get hk.2
    rw [usableN, usableN, slotSt, slotSt, h.get hk.1, h.on hk.2, hx, hx, h.get (slot_notMem hl _).1, ih]

theorem usable_congr (h : RegsBut l s t) (hl : ∀ a ∈ l, a < 0x180000) (n : Nat) : usable t n = usable s n := by
  have hk : Reg.KEY_STAT ∉ l := fun hm => absurd (hl _ hm) (by decide)
  rw [usable, usable, h.on hk, h.on hk, usableN_congr h hl]

theorem levelKey_congr (hp : t.params = s.params) (n : Nat) : levelKey t n = levelKey s n := by
  have hq : ∀ q, t.parN q = s.parN q := fun q => by rw [parN, par, hp]; rfl
  rw [levelKey, levelKey, hq, hq]

theorem levelKeyOk_congr (h : RegsBut l s t) (hl : ∀ a ∈ l, a < 0x180000) (hp : t.params = s.params) (n : Nat) : levelKeyOk t n = levelKeyOk s n := by
  rw [levelKeyOk, levelKeyOk, levelKey_congr hp]
  cases levelKey s n with
  | none => rfl
  | some k =>
    dsimp only
    rw [usable_congr h hl, slotType_congr h hl, slotUse_congr h hl]

end Slots

/-- A count saturates at its word's largest value. -/
theorem regN_bumpReg_same (s : State) (a n : Nat) : (s.bumpReg a n).regN a = min (s.regN a + n) 0xFFFFFFFF := by
  rw [bumpReg, regN_setRegN_self, Bits.satAdd]
  exact Nat.mod_eq_of_lt (by omega)

section Paths

variable {s t : State} {p q : Path}

theorem hifPath_of_same (h : t.hif = s.hif) (p : Path) : hifPath t p = hifPath s p := by rw [hifPath, hifPath, h]

theorem hifPath_setHif (h : s.hif.length = 2) (p : Path) (x : HifPath) : hifPath (setHif p x s) p = x :=
  nth_setNth_self (by rw [h]; cases p <;> decide)

theorem length_setHif (p : Path) (x : HifPath) (s : State) : (setHif p x s).hif.length = s.hif.length := List.length_set

theorem setHif_setHif (p : Path) (x y : HifPath) (s : State) : setHif p y (setHif p x s) = setHif p y s := by
  simp only [setHif, setNth, List.set_set]

@[simp] theorem hifPath_hostAccess (p q : Path) (s : State) : hifPath (hostAccess p s) q = hifPath s q := hifPath_of_same hostAccess_hif q

theorem hostRegs_lt (p : Path) : ∀ a ∈ hostRegs p, a < 0x180000 := by cases p <;> decide

/-- Words read one after another agree when each of them does. -/
theorem flatMap_eq_of_mem {α β : Type} {l : List α} {f g : α → List β} (h : ∀ x ∈ l, f x = g x) : l.flatMap f = l.flatMap g := by
  rw [List.flatMap_def, List.flatMap_def, List.map_congr_left h]

theorem chalValid_hostAccess (p q : Path) (s : State) : chalValid (hostAccess p s) q = chalValid s q := by
  simp only [chalValid, hifPath_hostAccess, (hostAccess_regsBut p s).regN (show Reg.SYS_UPTIME ∉ hostRegs p by cases p <;> decide)]

theorem sessionMessage_hostAccess (p : Path) (level : Nat) (s : State) : sessionMessage (hostAccess p s) p level = sessionMessage s p level := by
  have hw : ∀ w < 8, (hostAccess p s).regN (Reg.HIF_CHAL p w) = s.regN (Reg.HIF_CHAL p w) := fun w h =>
    (hostAccess_regsBut p s).regN (by revert w; cases p <;> decide)
  have hm : ∀ w < 2, (hostAccess p s).regN (Reg.SYS_METERID w) = s.regN (Reg.SYS_METERID w) := fun w h =>
    (hostAccess_regsBut p s).regN (by revert w; cases p <;> decide)
  rw [sessionMessage, sessionMessage, meterId, meterId, hm 0 (by decide), hm 1 (by decide)]
  exact congrArg (fun x => x ++ _ ++ _ ++ _) (flatMap_eq_of_mem fun w h => by rw [hw w (List.mem_range.1 h)])

theorem sessionSig_hostAccess (p : Path) (type : Nat) (s : State) : sessionSig (hostAccess p s) p type = sessionSig s p type := by
  have hw : ∀ w < 24, (hostAccess p s).regN (Reg.HIF_SESSIG p w) = s.regN (Reg.HIF_SESSIG p w) := fun w h =>
    (hostAccess_regsBut p s).regN (by revert w; cases p <;> decide)
  refine flatMap_eq_of_mem fun w h => ?_
  have h24 : w < 24 := by
    have := List.mem_range.1 h
    split at this <;> omega
  rw [hw w h24]

theorem pathLevel_setLevel (p : Path) (n : Nat) (s : State) : pathLevel (setLevel p n s) p = n % 4 := by
  cases p <;> exact get_put_same _ _ _ (by decide)

theorem setLevel_regsBut (p : Path) (n : Nat) (s : State) : RegsBut [Reg.HIF_STAT] s (setLevel p n s) := by
  cases p <;> exact (RegsBut.refl _ s).put (by decide)

theorem pathLevel_congr {l : List Nat} (h : RegsBut l s t) (hl : Reg.HIF_STAT ∉ l) (p : Path) : pathLevel t p = pathLevel s p := by
  cases p <;> exact h.get hl

/-- A privileged session's end (R631). -/
theorem hifEnd_spec (hlen : s.hif.length = 2) (hs : (hifPath s p).sess = true) :
    pathLevel (hifEnd p s) p = baseLevel s p % 4 ∧ hifPath (hifEnd p s) p = { hifPath s p with sess := false } ∧
      (hifEnd p s).on Fd.HIF_EVT_SESEND = true ∧ RegsBut [Reg.HIF_EVT, Reg.HIF_STAT] s (hifEnd p s) := by
  obtain ⟨t, ht⟩ : ∃ t, t = setLevel p (baseLevel s p) (setHif p { hifPath s p with sess := false } s) := ⟨_, rfl⟩
  have e : hifEnd p s = t.raise Fd.HIF_EVT_SESEND := by rw [hifEnd, if_pos hs, ht]
  have hhif : t.hif = (setHif p { hifPath s p with sess := false } s).hif := by
    rw [ht]
    exact (setLevel_within _ _ _).same .hif (by simp)
  have hr : RegsBut [Reg.HIF_STAT] s t := by
    rw [ht]
    exact RegsBut.trans ((RegsBut.refl _ s).same rfl) (setLevel_regsBut _ _ _)
  rw [e]
  refine ⟨?_, ?_, by simp [on, raise], (hr.mono (by simp)).raise (by simp)⟩
  · rw [pathLevel_congr ((RegsBut.refl [Reg.HIF_EVT] t).raise (by simp)) (by decide), ht, pathLevel_setLevel]
  · exact (hifPath_of_same hhif p).trans (hifPath_setHif hlen _ _)

theorem hifEnd_of_none (hs : (hifPath s p).sess = false) : hifEnd p s = s := if_neg (by simp [hs])

theorem attemptFail_four (p : Path) (s : State) :
    attemptFail p 4 s = ((s.bumpReg (Reg.HIF_CNT 4)).put ⟨Reg.HIF_SESSTAT p, 0, 8⟩ 4).raise Fd.HIF_EVT_SESFAIL := by
  rw [attemptFail, if_pos (show (4 : Nat) = 4 from rfl), sesResult]

/-- The attempts of the last minute, with one that fails now (R631). -/
def failsNow (s : State) (p : Path) : List Nat :=
  s.regN Reg.SYS_UPTIME :: (hifPath s p).fails.filter (fun u => decide (s.regN Reg.SYS_UPTIME ≤ u + 60))

/-- An attempt that fails and is counted: from the third within 60 s on the path is locked (R631). -/
theorem attemptFail_spec {code : Nat} (h4 : code ≠ 4) (h : code < 256) (hlen : s.hif.length = 2) :
    (attemptFail p code s).get ⟨Reg.HIF_SESSTAT p, 0, 8⟩ = code ∧ (attemptFail p code s).on Fd.HIF_EVT_SESFAIL = true ∧
      (3 ≤ (failsNow s p).length → (attemptFail p code s).on Fd.HIF_EVT_SESLOCK = true) ∧
      hifPath (attemptFail p code s) p =
        { hifPath s p with fails := failsNow s p, locked := decide (3 ≤ (failsNow s p).length) || (hifPath s p).locked } ∧
      RegsBut [Reg.HIF_SESSTAT p, Reg.HIF_EVT, Reg.HIF_CNT 4] s (attemptFail p code s) := by
  obtain ⟨t, ht⟩ : ∃ t, t = ((s.bumpReg (Reg.HIF_CNT 4)).put ⟨Reg.HIF_SESSTAT p, 0, 8⟩ code).raise Fd.HIF_EVT_SESFAIL := ⟨_, rfl⟩
  have hr : RegsBut [Reg.HIF_SESSTAT p, Reg.HIF_EVT, Reg.HIF_CNT 4] s t := by
    rw [ht]
    exact (((RegsBut.refl _ s).bumpReg (by simp)).put (by simp)).raise (by simp)
  have hhif : t.hif = s.hif := by rw [ht]; rfl
  have hne : Reg.HIF_SESSTAT p ≠ Reg.HIF_EVT := by cases p <;> decide
  have hget : t.get ⟨Reg.HIF_SESSTAT p, 0, 8⟩ = code := by
    rw [ht, raise, get_put_other _ _ _ _ (.inl hne.symm), get_put_same _ _ _ (by simp)]
    exact Nat.mod_eq_of_lt h
  have hon : t.on Fd.HIF_EVT_SESFAIL = true := by rw [ht]; simp [on, raise]
  have hup : t.regN Reg.SYS_UPTIME = s.regN Reg.SYS_UPTIME := hr.regN (by cases p <;> decide)
  have hfails : failsNow t p = failsNow s p := by rw [failsNow, failsNow, hup, hifPath_of_same hhif]
  have e : attemptFail p code s = if 3 ≤ (failsNow t p).length then (setHif p { hifPath t p with fails := failsNow t p, locked := true } t).raise Fd.HIF_EVT_SESLOCK
      else setHif p { hifPath t p with fails := failsNow t p } t := by
    rw [attemptFail, if_neg h4, ht]
    rfl
  rw [e, hfails, hifPath_of_same hhif]
  have hset := fun x => hifPath_setHif (s := t) (hhif ▸ hlen) p x
  by_cases h3 : 3 ≤ (failsNow s p).length
  · rw [if_pos h3]
    refine ⟨?_, ?_, fun _ => by simp [on, raise], ?_, ?_⟩
    · rw [raise, get_put_other _ _ _ _ (.inl hne.symm)]
      exact hget
    · rw [raise, on, get_put_other _ _ _ _ (.inr (by decide))]
      exact hon
    · rw [decide_eq_true h3, Bool.true_or]
      exact hset _
    · exact RegsBut.raise (hr.same rfl) (by simp)
  · rw [if_neg h3]
    refine ⟨hget, hon, fun hc => absurd hc h3, ?_, hr.same rfl⟩
    rw [decide_eq_false h3, Bool.false_or]
    exact hset _

end Paths

section Challenge

variable {s : State}

theorem freshBytes_snd (n : Nat) (s : State) : (freshBytes n s).2 = { s with free := s.free + n } := by
  induction n generalizing s with
  | zero => rfl
  | succ n ih =>
    rw [freshBytes]
    dsimp only
    rw [ih, fresh]
    dsimp only
    rw [Nat.add_right_comm, Nat.add_assoc]

/-- The words of a challenge written from bytes. -/
def putChallenge (p : Path) (bytes : List Byte) (s : State) : State :=
  upTo 8 (fun w t => t.setRegN (Reg.HIF_CHAL p w) (Bits.ofLeBytes ((bytes.drop (4 * w)).take 4))) s

theorem putChallenge_within (p : Path) (bytes : List Byte) (s : State) : Within [.regs] s (putChallenge p bytes s) :=
  upTo_preserves (P := Within [.regs] s) (fun _ _ _ h => h.setRegN rfl) (.refl _ s)

theorem putChallenge_regsBut (p : Path) (bytes : List Byte) (s : State) :
    RegsBut ((List.range 8).map (fun w => Reg.HIF_CHAL p w)) s (putChallenge p bytes s) :=
  upTo_regsBut 8 (fun w hw u => (RegsBut.refl _ u).setRegN (List.mem_map.2 ⟨w, List.mem_range.2 hw, rfl⟩)) s

/-- A new challenge while random bytes can be had (R631). -/
theorem newChallenge_of_ok {p : Path} (h : s.on Fd.KEY_STAT_DRBGOK = true) :
    ∃ u, newChallenge p s = setHif p { hifPath s p with chal := some (s.regN Reg.SYS_UPTIME) } u ∧ u.hif = s.hif ∧ u.free = s.free + 8 ∧ u.out = s.out ∧
      RegsBut ((List.range 8).map (fun w => Reg.HIF_CHAL p w)) s u := by
  obtain ⟨v, hv⟩ : ∃ v : State, v = { s with free := s.free + 8 } := ⟨_, rfl⟩
  have hw := putChallenge_within p (freshBytes 8 s).1 v
  have hr : RegsBut ((List.range 8).map (fun w => Reg.HIF_CHAL p w)) s (putChallenge p (freshBytes 8 s).1 v) :=
    RegsBut.trans (by rw [hv]; exact (RegsBut.refl _ s).same rfl) (putChallenge_regsBut _ _ _)
  have hhif : (putChallenge p (freshBytes 8 s).1 v).hif = s.hif := (hw.same .hif (by simp)).trans (by rw [hv])
  refine ⟨putChallenge p (freshBytes 8 s).1 v, ?_, hhif, (hw.same .free (by simp)).trans (by rw [hv]), (hw.same .out (by simp)).trans (by rw [hv]), hr⟩
  have hup : (putChallenge p (freshBytes 8 s).1 v).regN Reg.SYS_UPTIME = s.regN Reg.SYS_UPTIME := hr.regN (by cases p <;> decide)
  rw [newChallenge, if_pos h]
  dsimp only
  rw [freshBytes_snd, ← hv, ← putChallenge, hup, hifPath_of_same hhif]

end Challenge

/-- A signature checked (R631), with its key still usable. -/
theorem sessionVerified_spec {s : State} {p : Path} {level n : Nat} {m sig : List Byte} (hlen : s.hif.length = 2) (hlv : level < 4)
    (hv : (hifPath s p).verify = some (level, m, sig)) (hk : levelKey s level = some n) (hok : levelKeyOk s level = true) :
    (sessionVerified p s).get ⟨Reg.HIF_SESSTAT p, 0, 8⟩ = (if Config.verifies (keyOf s n) m sig then 0 else 3) ∧
      pathLevel (sessionVerified p s) p = (if Config.verifies (keyOf s n) m sig then level else pathLevel s p) ∧
      (hifPath (sessionVerified p s) p).sess = (Config.verifies (keyOf s n) m sig || (hifPath s p).sess) ∧ (hifPath (sessionVerified p s) p).verify = none ∧
      (sessionVerified p s).on Fd.HIF_EVT_SESFAIL = (!Config.verifies (keyOf s n) m sig || s.on Fd.HIF_EVT_SESFAIL) ∧
      RegsBut [Reg.HIF_SESSTAT p, Reg.HIF_EVT, Reg.HIF_STAT, Reg.HIF_CNT 3, Reg.HIF_CNT 4] s (sessionVerified p s) := by
  obtain ⟨t, ht⟩ : ∃ t, t = setHif p { hifPath s p with verify := none } s := ⟨_, rfl⟩
  have hp : hifPath t p = { hifPath s p with verify := none } := by rw [ht, hifPath_setHif hlen]
  have hlen1 : t.hif.length = 2 := by rw [ht, length_setHif, hlen]
  have hr : RegsBut [] s t := by
    rw [ht]
    exact (RegsBut.refl _ s).same rfl
  have hk1 : levelKey t level = some n := (levelKey_congr (by rw [ht]; rfl) level).trans hk
  have hok1 : levelKeyOk t level = true := (levelKeyOk_congr hr (by simp) (by rw [ht]; rfl) level).trans hok
  have hkey : keyOf t n = keyOf s n := by rw [ht]; rfl
  have e : sessionVerified p s = if Config.verifies (keyOf s n) m sig then
      sesResult p 0 ((setLevel p level (setHif p { hifPath t p with sess := true } t)).bumpReg (Reg.HIF_CNT 3)) else attemptFail p 3 t := by
    rw [sessionVerified, hv]
    dsimp only
    rw [← ht, hk1]
    exact (if_neg (by simp [hok1])).trans (by rw [hkey])
  have hne : Reg.HIF_SESSTAT p ≠ Reg.HIF_EVT := by cases p <;> decide
  rw [e]
  cases Config.verifies (keyOf s n) m sig with
  | true =>
    obtain ⟨u, hu⟩ : ∃ u, u = setLevel p level (setHif p { hifPath t p with sess := true } t) := ⟨_, rfl⟩
    have hur : RegsBut [Reg.HIF_STAT] s u := by
      rw [hu]
      exact (hr.mono (by simp)).trans (RegsBut.trans ((RegsBut.refl _ t).same rfl) (setLevel_regsBut _ _ _))
    have hhif : u.hif = (setHif p { hifPath t p with sess := true } t).hif := by
      rw [hu]
      exact (setLevel_within _ _ _).same .hif (by simp)
    have hup : hifPath u p = { hifPath s p with verify := none, sess := true } := by rw [hifPath_of_same hhif, hifPath_setHif hlen1, hp]
    have hres : RegsBut [Reg.HIF_SESSTAT p, Reg.HIF_CNT 3] u (sesResult p 0 (u.bumpReg (Reg.HIF_CNT 3))) :=
      ((RegsBut.refl _ u).bumpReg (by simp)).put (by simp)
    have hpath : hifPath (sesResult p 0 (u.bumpReg (Reg.HIF_CNT 3))) p = hifPath u p := rfl
    rw [if_pos rfl, ← hu]
    refine ⟨get_put_same _ _ _ (by simp), ?_, ?_, ?_, ?_, (hur.mono (by simp)).trans (hres.mono (by simp))⟩
    · rw [pathLevel_congr hres (by cases p <;> decide), hu, pathLevel_setLevel]
      exact Nat.mod_eq_of_lt hlv
    · rw [hpath, hup]
      rfl
    · rw [hpath, hup]
    · rw [hres.on (by cases p <;> decide), hur.on (by simp)]
      rfl
  | false =>
    obtain ⟨k1, k2, -, k4, k5⟩ := attemptFail_spec (p := p) (s := t) (code := 3) (by decide) (by decide) hlen1
    rw [if_neg (by simp)]
    refine ⟨k1, ?_, ?_, ?_, k2, (hr.mono (by simp)).trans (k5.mono (by simp))⟩
    · rw [pathLevel_congr k5 (by cases p <;> decide), pathLevel_congr hr (by simp)]
      rfl
    · rw [k4, hp]
      rfl
    · rw [k4, hp]

section Clauses

variable {s : State} {p : Path} {level : Nat}

theorem regs_sub_append_hostRegs {l : List Nat} {t u v : State} (h1 : RegsBut (hostRegs p) t u) (h2 : RegsBut l u v) : RegsBut (l ++ hostRegs p) t v :=
  (h1.mono (List.subset_append_right _ _)).trans (h2.mono (List.subset_append_left _ _))

theorem sessionNewChallenge_ok (hm : HostMay p 0 s) (hd : s.on Fd.KEY_STAT_DRBGOK = true) : Answers (exec (.sessionNewChallenge p) s) fun t =>
    t.free = s.free + 8 ∧ t.hif = setNth s.hif (pathNum p) { hifPath s p with chal := some (s.regN Reg.SYS_UPTIME) } ∧ t.out = .hostStatus p 0 :: s.out ∧
      RegsBut ((List.range 8).map (fun w => Reg.HIF_CHAL p w) ++ hostRegs p) s t ∧ Within [.regs, .hif, .free, .out] s t := by
  have hon : (hostAccess p s).on Fd.KEY_STAT_DRBGOK = true := by rw [(hostAccess_regsBut p s).on (by cases p <;> decide), hd]
  obtain ⟨u, e, k1, k2, k3, k4⟩ := newChallenge_of_ok (p := p) hon
  have e2 : execSessionNewChallenge p s = .next (hostReply p 0 (newChallenge p (hostAccess p s))) := congrArg Host.Outcome.next (hostOwn_of_may hm)
  rw [e] at e2
  refine Answers.mk e2 (execSessionNewChallenge_answers p s) fun hw => ⟨k2.trans (by rw [hostAccess_free]), ?_, ?_, ?_, hw.sub rfl⟩
  · change setNth u.hif _ _ = _
    rw [k1, hostAccess_hif, hifPath_hostAccess, (hostAccess_regsBut p s).regN (by cases p <;> decide)]
  · rw [hostReply_out]
    exact congrArg _ (k3.trans (hostAccess_out _ _))
  · exact RegsBut.hostReply (p := p) (regs_sub_append_hostRegs (hostAccess_regsBut p s) (k4.same rfl)) (status := 0)

/-- What an attempt that may fail leaves before its result is known: the challenge is used up. -/
def chalUsed (p : Path) (s : State) : State := setHif p { hifPath s p with chal := none } s

theorem chalUsed_levelKey (p : Path) (level : Nat) (s : State) : levelKey (chalUsed p s) level = levelKey s level :=
  levelKey_congr (t := chalUsed p s) rfl level

theorem chalUsed_levelKeyOk (p : Path) (level : Nat) (s : State) : levelKeyOk (chalUsed p s) level = levelKeyOk s level :=
  levelKeyOk_congr (l := []) ((RegsBut.refl _ s).same rfl) (by simp) rfl level

theorem sessionSubmit_locked (hv : (hifPath s p).verify = none) (hl : (hifPath s p).locked = true) : sessionSubmit p level s = attemptFail p 4 s := by
  rw [sessionSubmit, if_neg (by simp [hv]), if_pos hl]

theorem sessionSubmit_invalid (hv : (hifPath s p).verify = none) (hl : (hifPath s p).locked = false) (hc : chalValid s p = false) :
    sessionSubmit p level s = attemptFail p 1 (chalUsed p s) := by
  rw [sessionSubmit, if_neg (by simp [hv]), if_neg (by simp [hl])]
  exact if_pos (by simp [hc])

theorem sessionSubmit_keyless (hv : (hifPath s p).verify = none) (hl : (hifPath s p).locked = false) (hc : chalValid s p = true) (hk : levelKey s level = none) :
    sessionSubmit p level s = attemptFail p 2 (chalUsed p s) := by
  rw [sessionSubmit, if_neg (by simp [hv]), if_neg (by simp [hl])]
  refine (if_neg (by simp [hc])).trans ?_
  rw [← chalUsed, chalUsed_levelKey, hk]

theorem sessionSubmit_taken {n : Nat} (hv : (hifPath s p).verify = none) (hl : (hifPath s p).locked = false) (hc : chalValid s p = true)
    (hk : levelKey s level = some n) (hok : levelKeyOk s level = true) (hlen : s.hif.length = 2) :
    sessionSubmit p level s = setHif p { hifPath s p with chal := none, verify := some (level, sessionMessage s p level, sessionSig s p (slotType s n)) } s := by
  rw [sessionSubmit, if_neg (by simp [hv]), if_neg (by simp [hl])]
  refine (if_neg (by simp [hc])).trans ?_
  rw [← chalUsed, chalUsed_levelKey, hk]
  refine (if_pos ((chalUsed_levelKeyOk p level s).trans hok)).trans ?_
  rw [show hifPath (chalUsed p s) p = { hifPath s p with chal := none } from hifPath_setHif hlen _ _, chalUsed, setHif_setHif]
  rfl

theorem exec_sessionSubmit (hm : HostMay p 0 s) (level : Nat) :
    exec (.sessionSubmit p level) s = .next (hostReply p 0 (sessionSubmit p (level % 4) (hostAccess p s))) := congrArg Host.Outcome.next (hostOwn_of_may hm)

/-- A failed attempt after the access, as the host sees it. -/
theorem attemptFail_chalUsed {code : Nat} (h4 : code ≠ 4) (h : code < 256) (hlen : s.hif.length = 2) :
    let t := hostReply p 0 (attemptFail p code (chalUsed p (hostAccess p s)))
    let fails := s.regN Reg.SYS_UPTIME :: (hifPath s p).fails.filter (fun u => decide (s.regN Reg.SYS_UPTIME ≤ u + 60))
    t.get ⟨Reg.HIF_SESSTAT p, 0, 8⟩ = code ∧ t.on Fd.HIF_EVT_SESFAIL = true ∧ (3 ≤ fails.length → t.on Fd.HIF_EVT_SESLOCK = true) ∧
      hifPath t p = { hifPath s p with chal := none, fails := fails, locked := decide (3 ≤ fails.length) || (hifPath s p).locked } ∧
      RegsBut ([Reg.HIF_SESSTAT p, Reg.HIF_EVT, Reg.HIF_CNT 4] ++ hostRegs p) s t := by
  have hlen1 : (hostAccess p s).hif.length = 2 := by rw [hostAccess_hif, hlen]
  have hp : hifPath (chalUsed p (hostAccess p s)) p = { hifPath s p with chal := none } := by
    rw [chalUsed, hifPath_setHif hlen1, hifPath_hostAccess]
  have hup : (chalUsed p (hostAccess p s)).regN Reg.SYS_UPTIME = s.regN Reg.SYS_UPTIME := (hostAccess_regsBut p s).regN (by cases p <;> decide)
  have hf : failsNow (chalUsed p (hostAccess p s)) p = s.regN Reg.SYS_UPTIME :: (hifPath s p).fails.filter (fun u => decide (s.regN Reg.SYS_UPTIME ≤ u + 60)) := by
    rw [failsNow, hup, hp]
  obtain ⟨k1, k2, k3, k4, k5⟩ := attemptFail_spec (p := p) (s := chalUsed p (hostAccess p s)) h4 h (by rw [chalUsed, length_setHif, hlen1])
  rw [hf] at k3 k4
  rw [hp] at k4
  exact ⟨k1, k2, k3, k4, (regs_sub_append_hostRegs ((hostAccess_regsBut p s).same rfl) k5).hostReply⟩

end Clauses

/-- Settles O53. -/
theorem hostSessions : Obligations.HostSessions := by
  unfold Obligations.HostSessions
  refine ⟨fun s p hm hd => sessionNewChallenge_ok hm hd, fun s p hm hd => ?_, fun s p level hm hv hl => ?_, fun s p level hm hlen hv hl hc hf => ?_,
    fun s p level u v hm hlen hv hl hc hk hf hu1 hv1 => ?_, fun s p level n hm hlen hv hl hc hk hok => ?_, fun s p level n m sig ok hlen hlv hv hk hok hver => ?_,
    fun s p hm hlen hs => ?_, fun s p hlen hs => ?_, fun s p hs => ?_, fun s p hlen => ?_, fun s h1 h2 h3 h4 h5 h6 => ?_, fun s h1 h2 h3 h4 => ?_,
    fun s hc hs => ?_, fun s hlen hc hs => ?_⟩
  · have hon : (hostAccess p s).on Fd.KEY_STAT_DRBGOK = false := by rw [(hostAccess_regsBut p s).on (by cases p <;> decide), hd]
    have e : execSessionNewChallenge p s = .next (hostReply p 0 (setHif p { hifPath s p with chal := none } (hostAccess p s))) := by
      rw [execSessionNewChallenge, hostOwn_of_may hm, newChallenge, if_neg (by simp [hon]), hifPath_hostAccess]
    refine ⟨_, e, ?_, ?_, RegsBut.hostReply (p := p) ((hostAccess_regsBut p s).same rfl) (status := 0), ?_⟩
    · exact congrArg (setNth · _ _) hostAccess_hif
    · rw [hostReply_out]
      exact congrArg _ (hostAccess_out p s)
    · exact (((hostAccess_within p s).sub rfl).comp (setHif_within _ _ _) rfl).hostReply rfl
  · have e := exec_sessionSubmit hm level
    rw [sessionSubmit_locked (by rw [hifPath_hostAccess, hv]) (by rw [hifPath_hostAccess, hl]), attemptFail_four] at e
    have hne : Reg.HIF_SESSTAT p ≠ Reg.HIF_EVT := by cases p <;> decide
    refine ⟨_, e, ?_, by simp [on, raise], ?_, ?_, ?_⟩
    · rw [get_hostReply, raise, get_put_other _ _ _ _ (.inl hne.symm), get_put_same _ _ _ (by simp)]
      rfl
    · rw [(RegsBut.hostReply (p := p) (((RegsBut.refl [Reg.HIF_SESSTAT p, Reg.HIF_EVT] _).put (by simp)).raise (by simp))).regN (by cases p <;> decide),
        regN_bumpReg_same, (hostAccess_regsBut p s).regN (by cases p <;> decide)]
    · exact (regs_sub_append_hostRegs (hostAccess_regsBut p s) ((((RegsBut.refl _ _).bumpReg (by simp)).put (by simp)).raise (by simp))).hostReply
    · exact (((((hostAccess_within p s).sub rfl).bumpReg rfl).put rfl).raise rfl).hostReply rfl
  · have e := exec_sessionSubmit hm level
    rw [sessionSubmit_invalid (by rw [hifPath_hostAccess, hv]) (by rw [hifPath_hostAccess, hl]) (by rw [chalValid_hostAccess, hc])] at e
    obtain ⟨k1, k2, -, k4, k5⟩ := attemptFail_chalUsed (p := p) (code := 1) (by decide) (by decide) hlen
    refine Answers.mk e (execSessionSubmit_answers p level s) fun hw => ⟨k1, k2, ?_, k5, hw⟩
    rw [k4, hf]
    simp [hl]
  · have e := exec_sessionSubmit hm level
    rw [sessionSubmit_keyless (by rw [hifPath_hostAccess, hv]) (by rw [hifPath_hostAccess, hl]) (by rw [chalValid_hostAccess, hc])
      ((levelKey_congr hostAccess_params _).trans hk)] at e
    obtain ⟨k1, k2, k3, k4, k5⟩ := attemptFail_chalUsed (p := p) (code := 2) (by decide) (by decide) hlen
    have hfil : (hifPath s p).fails.filter (fun x => decide (s.regN Reg.SYS_UPTIME ≤ x + 60)) = [u, v] := by simp [hf, hu1, hv1]
    rw [hfil] at k3 k4
    exact Answers.mk e (execSessionSubmit_answers p level s) fun hw => ⟨k1, k2, k3 (by simp), k4, k5, hw⟩
  · have e := exec_sessionSubmit hm level
    rw [sessionSubmit_taken (by rw [hifPath_hostAccess, hv]) (by rw [hifPath_hostAccess, hl]) (by rw [chalValid_hostAccess, hc])
      ((levelKey_congr hostAccess_params _).trans hk) ((levelKeyOk_congr (hostAccess_regsBut p s) (hostRegs_lt p) hostAccess_params _).trans hok)
      (by rw [hostAccess_hif, hlen]), sessionMessage_hostAccess, sessionSig_hostAccess, hifPath_hostAccess,
      slotType_congr (hostAccess_regsBut p s) (hostRegs_lt p)] at e
    refine Answers.mk e (execSessionSubmit_answers p level s) fun hw => ⟨hifPath_setHif (by rw [hostAccess_hif, hlen]) p _, ?_,
      RegsBut.hostReply (p := p) ((hostAccess_regsBut p s).same rfl) (status := 0), hw⟩
    rw [hostReply_out]
    exact congrArg _ (hostAccess_out p s)
  · have e : execSessionVerifyDone p s = .next (sessionVerified p s) := rfl
    obtain ⟨k1, k2, k3, k4, k5, k6⟩ := sessionVerified_spec hlen hlv hv hk hok
    rw [hver] at k1 k2 k3 k5
    exact Answers.mk e (execSessionVerifyDone_answers p s) fun hw => ⟨k1, k2, k3, k4, k5, k6, hw⟩
  · have e : execSessionClose p s = .next (hostReply p 0 (hifEnd p (hostAccess p s))) := congrArg Host.Outcome.next (hostOwn_of_may hm)
    obtain ⟨k1, k2, k3, k4⟩ := hifEnd_spec (s := hostAccess p s) (p := p) (by rw [hostAccess_hif, hlen]) (by rw [hifPath_hostAccess, hs])
    have hb : baseLevel (hostAccess p s) p = baseLevel s p := by
      cases p
      · exact parN_hostAccess _
      · rfl
    rw [hb] at k1
    rw [hifPath_hostAccess] at k2
    refine Answers.mk e (execSessionClose_answers p s) fun hw => ⟨k1, k2, k3, ?_, ?_, hw⟩
    · rw [hostReply_out, (hifEnd_within p _).same .out (by simp), hostAccess_out]
    · exact (RegsBut.trans ((hostAccess_regsBut p s).mono (by simp)) (k4.mono (by cases p <;> decide))).hostReply
  · obtain ⟨k1, k2, k3, k4⟩ := hifEnd_spec hlen hs
    have e : execSessionIdleTimeout p s = .next (hifEnd p s) := rfl
    exact Answers.mk e (execSessionIdleTimeout_answers p s) fun hw => ⟨k1, k2, k3, k4, hw⟩
  · exact ⟨s, congrArg Host.Outcome.next (hifEnd_of_none hs), rfl⟩
  · have e : execSessionLockEnd p s = .next (setHif p { hifPath s p with fails := [], locked := false } s) := rfl
    exact Answers.mk e (execSessionLockEnd_answers p s) fun hw => ⟨hifPath_setHif hlen p _, (RegsBut.refl _ s).same rfl, hw⟩
  · have e : ethConnect s = s.raise Fd.HIF_STAT_ETHCONN := by
      rw [ethConnect, if_neg (by simp [h1, h2, h3]), if_neg (by simp [h4]), if_pos (by simp [h5, h6])]
    exact ⟨_, congrArg Host.Outcome.next e, by simp [on, raise], by simp, (Within.refl _ s).raise rfl⟩
  · have e : ethConnect s = s.raise Fd.HIF_EVT_ETHREF := by rw [ethConnect, if_neg (by simp [h1, h2, h3]), if_pos h4]
    exact ⟨_, congrArg Host.Outcome.next e, by simp [on, raise], by simp, (Within.refl _ s).raise rfl⟩
  · have e : ethClose s = s.lower Fd.HIF_STAT_ETHCONN := by rw [ethClose, if_pos hc, hifEnd_of_none hs]
    exact ⟨_, congrArg Host.Outcome.next e, by simp [on, lower], by simp, (Within.refl _ s).lower rfl⟩
  · have e : ethClose s = (hifEnd .eth s).lower Fd.HIF_STAT_ETHCONN := by rw [ethClose, if_pos hc]
    obtain ⟨k1, k2, k3, k4⟩ := hifEnd_spec (p := .eth) hlen hs
    have hw := hifEnd_within .eth s
    obtain ⟨u, hu⟩ : ∃ u, u = hifEnd .eth s := ⟨_, rfl⟩
    rw [← hu] at e k1 k2 k3 k4 hw
    refine ⟨_, congrArg Host.Outcome.next e, by simp [on, lower], ?_, ?_, ?_, ?_, (hw.sub rfl).lower rfl⟩
    · rw [pathLevel, lower, get_put_other _ _ _ _ (.inr (by decide))]
      exact k1
    · exact (congrArg HifPath.sess k2).trans rfl
    · rw [on, lower, get_put_other _ _ _ _ (.inl (by decide))]
      exact k3
    · exact (k4.mono (by decide)).lower (by decide)

end Sys2Proof.Machine
end

section
/-!
The health of the memories: scrub, replacement and the hourly update (spec/21_memory_sidings.md R595 to R604).
-/
namespace Sys2Proof.Machine

open State

section Replace

variable {s t : State}

theorem faultNote_one (i : Island) (cause : Nat) (s : State) :
    faultNote 1 i cause s = (((s.put Fd.SYS_FLTLAST_CLASS 1).put Fd.SYS_FLTLAST_ISL i.num).put Fd.SYS_FLTLAST_CAUSE cause).raise Fd.SYS_FLT_NEW := by
  rw [faultNote]
  exact if_neg (by decide)

/-- One spare more in use of a kind, shown and announced (R598, R599). -/
def spareUsed (k : Nat) (s : State) : State :=
  faultNote 1 .core 2 ((kindShow k (s.get (Fd.MEM_KIND_USED k) + 1) s).raise Fd.MEM_EVT_REPLACE)

/-- The memory as a replacement leaves it (R598): the unit mapped to a spare, and the event kept for R601. -/
def replacedMem (bare : Bool) (m unit : Nat) (s : State) : State :=
  when (bare && decide (2 ≤ m)) (fabErase (bankBase (m - 2) + 0x10000 * unit) 0x10000)
    (setMem { s.mem with remap := s.mem.remap ++ [(m, unit)], events := s.mem.events ++ [(memKind m, s.regN Reg.MEM_HOURS)] } s)

theorem replacedMem_within (bare : Bool) (m unit : Nat) (s : State) : Within [.mem] s (replacedMem bare m unit s) := by
  have h : Within [.mem] s (setMem { s.mem with remap := s.mem.remap ++ [(m, unit)], events := s.mem.events ++ [(memKind m, s.regN Reg.MEM_HOURS)] } s) :=
    (Within.refl _ s).comp setMem_mk_within rfl
  rw [replacedMem, when]
  exact .ite (h.comp (fabErase_within _ _ _) rfl) h

/-- An erase of the fabric changes only the bytes; the maps of the memories stay. -/
theorem replacedMem_mem (bare : Bool) (m unit : Nat) (s : State) : ∃ c, (replacedMem bare m unit s).mem =
    { s.mem with remap := s.mem.remap ++ [(m, unit)], events := s.mem.events ++ [(memKind m, s.regN Reg.MEM_HOURS)], cells := c } := by
  rw [replacedMem, when]
  split
  · exact ⟨_, rfl⟩
  · exact ⟨_, rfl⟩

theorem memReplaced_eq (bare : Bool) (m unit : Nat) (s : State) : memReplaced bare m unit s = spareUsed (memKind m) (replacedMem bare m unit s) := by
  have h : (replacedMem bare m unit s).get (Fd.MEM_KIND_USED (memKind m)) = s.get (Fd.MEM_KIND_USED (memKind m)) :=
    (replacedMem_within bare m unit s).regsBut (l := []) (by simp) |>.get (by simp)
  rw [spareUsed, h]
  rfl

theorem spareUsed_regsBut (k : Nat) (s : State) : RegsBut [Reg.MEM_EVT, Reg.MEM_KIND k, Reg.SYS_FLTLAST, Reg.SYS_FLT] s (spareUsed k s) :=
  RegsBut.trans ((((RegsBut.refl _ s).put (by simp)).put (by simp)).raise (by simp)) ((faultNote_regsBut _ _ _ _).mono (by simp))

theorem spareUsed_within (k : Nat) (s : State) : Within [.regs] s (spareUsed k s) := by
  rw [spareUsed, faultNote_one]
  exact ((((((kindShow_within _ _ s).sub rfl).raise rfl).put rfl).put rfl).put rfl).raise rfl

theorem spareUsed_mem (k : Nat) (s : State) : (spareUsed k s).mem = s.mem := (spareUsed_within k s).same .mem (by simp)

theorem spareUsed_spec {k : Nat} (hk : k ≤ 2) (s : State) : (spareUsed k s).on Fd.MEM_EVT_REPLACE = true ∧
    (spareUsed k s).get (Fd.MEM_KIND_USED k) = (s.get (Fd.MEM_KIND_USED k) + 1) % 2048 ∧ (spareUsed k s).get Fd.SYS_FLTLAST_CLASS = 1 ∧
      (spareUsed k s).get Fd.SYS_FLTLAST_CAUSE = 2 := by
  obtain ⟨t, ht⟩ : ∃ t, t = (kindShow k (s.get (Fd.MEM_KIND_USED k) + 1) s).raise Fd.MEM_EVT_REPLACE := ⟨_, rfl⟩
  have hr := faultNote_regsBut 1 .core 2 t
  have hn := faultNote_one .core 2 t
  rw [spareUsed, ← ht]
  refine ⟨?_, ?_, ?_, ?_⟩
  · rw [hr.on (by simp), ht]
    simp [on, raise]
  · rw [hr.get (by grind), ht, raise, get_put_other _ _ _ _ (.inl (by grind)), kindShow,
      get_put_other _ _ _ _ (.inr (by simp)), get_put_same _ _ _ (by simp)]
    rfl
  · rw [hn]
    simp [raise]
  · rw [hn]
    simp [raise]

end Replace

section Scrub

variable {s : State}

theorem scrubEnd_of_worn {worn : List (Nat × Nat × Nat)} {t : State}
    (hw : s.mem.pass.filter (fun e => decide (2 ≤ e.1) && decide (s.parN Par.NVM_SECLIM ≤ e.2.2)) = worn)
    (ht : worn.foldl (fun t e => memDue ⟨e.1, e.2.1, false⟩ t) s = t) : scrubEnd s =
      ((setMem { t.mem with pass := [], symLast := t.mem.symNow, symNow := [] } t).bumpReg Reg.MEM_SCRUBCNT).put Fd.MEM_STAT_SCRUBPCT 0 := by
  rw [scrubEnd, hw, ht]

theorem scrubPassDone_eq (hs : s.on Fd.MEM_STAT_SCRUB = true) (hp : s.pfw = false) : exec .scrubPassDone s = .next (scrubEnd s) :=
  congrArg Host.Outcome.next (if_pos (by rw [hs, hp]; rfl))

/-- A worn sector of the inactive code bank is replaced at once, while a spare is left (R597, R598). -/
theorem memDue_of_inactive {m u : Nat} (hm : m + s.get Fd.UPD_STAT_BANK = 3) (h2 : 2 ≤ m) (hp : s.pfw = false) (hmv : s.mem.moves = [])
    (hsp : (s.mem.remap.filter (fun e => e.1 == m)).length < 10) : memDue ⟨m, u, false⟩ s = memReplaced true m u s := by
  have hspare : memSpares s m ≠ 0 := by
    rw [memSpares, if_neg (by omega)]
    omega
  rw [memDue, if_neg (by simp [hp]), if_neg (by simp [hmv]), if_neg hspare, if_pos (.inr ⟨h2, by show m - 2 ≠ _; omega⟩)]

end Scrub

section Hour

variable {s t : State}

/-- What a pass over the kinds keeps of the state (R601). -/
def KindKeeps (s t : State) : Prop := t.mem.age = s.mem.age ∧ t.mem.tempSum = s.mem.tempSum ∧ t.mem.tempN = s.mem.tempN ∧ t.mem.highs = s.mem.highs ∧ t.mem.remap = s.mem.remap

theorem kindUpdate_keeps (mram nvm k : Nat) (s : State) : KindKeeps s (kindUpdate mram nvm k s) := ⟨rfl, rfl, rfl, rfl, rfl⟩

theorem KindKeeps.trans {u : State} (h1 : KindKeeps s t) (h2 : KindKeeps t u) : KindKeeps s u := by
  obtain ⟨a1, a2, a3, a4, a5⟩ := h1
  obtain ⟨b1, b2, b3, b4, b5⟩ := h2
  exact ⟨b1.trans a1, b2.trans a2, b3.trans a3, b4.trans a4, b5.trans a5⟩

theorem kindsUpdate_keeps (mram nvm : Nat) (s : State) : KindKeeps s (upTo 9 (kindUpdate mram nvm) s) :=
  upTo_preserves (P := KindKeeps s) (fun k _ _ h => h.trans (kindUpdate_keeps mram nvm k _)) ⟨rfl, rfl, rfl, rfl, rfl⟩

/-- The registers of the kinds (R599 to R601). -/
def kindRegs : List Nat := (List.range 9).map (fun k => Reg.MEM_KIND k) ++ (List.range 9).map (fun k => Reg.MEM_LIFE k)

theorem kindsUpdate_regsBut (mram nvm : Nat) (s : State) : RegsBut kindRegs s (upTo 9 (kindUpdate mram nvm) s) := by
  refine upTo_regsBut 9 (fun k hk u => ?_) s
  have h1 : Reg.MEM_KIND k ∈ kindRegs := List.mem_append_left _ (List.mem_map.2 ⟨k, List.mem_range.2 hk, rfl⟩)
  have h2 : Reg.MEM_LIFE k ∈ kindRegs := List.mem_append_right _ (List.mem_map.2 ⟨k, List.mem_range.2 hk, rfl⟩)
  exact ((((((RegsBut.refl _ u).same rfl).put h1).put h1).put h1).put h2).put h2

theorem faultsShow_regsBut (s : State) : RegsBut [Reg.PTS_ENG 0, Reg.PTS_ENG 1] s (faultsShow s) :=
  upTo_regsBut 2 (fun e he u => (RegsBut.refl _ u).put (by revert e; decide)) s

/-- The hourly update at a known mean temperature (R600, R601). -/
theorem healthUpdate_spec (mram nvm : Nat) (hn : s.mem.tempN ≠ 0) :
    (healthUpdate mram nvm s).regN Reg.MEM_HOURS = min (s.regN Reg.MEM_HOURS + 1) 0xFFFFFFFF ∧
      (healthUpdate mram nvm s).mem.age = s.mem.age + Config.pow2 (((s.mem.tempSum : Rat) / ((10 * s.mem.tempN : Nat) : Rat) - 55) / 10) ∧
      (healthUpdate mram nvm s).mem.tempSum = 0 ∧ (healthUpdate mram nvm s).mem.tempN = 0 ∧
      (healthUpdate mram nvm s).mem.highs = s.mem.highs ++ [((healthUpdate mram nvm s).regN Reg.MEM_HOURS, mram, nvm)] ∧
      (healthUpdate mram nvm s).mem.remap = s.mem.remap ∧ (healthUpdate mram nvm s).free = s.free ∧
      RegsBut ([Reg.MEM_HOURS, Reg.MEM_AGE, Reg.MEM_EVT, Reg.PTS_ENG 0, Reg.PTS_ENG 1] ++ kindRegs) s (healthUpdate mram nvm s) := by
  obtain ⟨t, ht⟩ : ∃ t, t = faultsShow (s.bumpReg Reg.MEM_HOURS) := ⟨_, rfl⟩
  obtain ⟨age, hage⟩ : ∃ age, age = s.mem.age + Config.pow2 (((s.mem.tempSum : Rat) / ((10 * s.mem.tempN : Nat) : Rat) - 55) / 10) := ⟨_, rfl⟩
  obtain ⟨u, hu⟩ : ∃ u, u = (setMem { t.mem with age := age, tempSum := 0, tempN := 0 } t).setRegN Reg.MEM_AGE (Exact.toInt age).toNat := ⟨_, rfl⟩
  obtain ⟨v, hv⟩ : ∃ v, v = upTo 9 (kindUpdate mram nvm) u := ⟨_, rfl⟩
  obtain ⟨w, hw⟩ : ∃ w, w = setMem { v.mem with highs := v.mem.highs ++ [(v.regN Reg.MEM_HOURS, mram, nvm)] } v := ⟨_, rfl⟩
  obtain ⟨low, e⟩ : ∃ low : Bool, healthUpdate mram nvm s = if low then w.raise Fd.MEM_EVT_LIFEWARN else w := by
    refine ⟨(List.range 9).any (fun k => decide (w.get (Fd.MEM_LIFE_LIFE k) < s.parN Par.LIFE_WARN)) || decide (remainingLife w < (s.parN Par.LIFE_WARN : Rat)), ?_⟩
    rw [healthUpdate]
    dsimp only
    rw [if_neg hn]
    dsimp only
    rw [← hage, ← ht, ← hu, ← hv, ← hw]
  have hts : Within [.regs] s t := by
    rw [ht]
    exact ((Within.refl _ s).bumpReg rfl).comp (faultsShow_within _) rfl
  have htr : RegsBut [Reg.MEM_HOURS, Reg.PTS_ENG 0, Reg.PTS_ENG 1] s t := by
    rw [ht]
    exact RegsBut.trans ((RegsBut.refl _ s).bumpReg (by simp)) ((faultsShow_regsBut _).mono (by simp))
  have htm : t.mem = s.mem := hts.same .mem (by simp)
  have hth : t.regN Reg.MEM_HOURS = min (s.regN Reg.MEM_HOURS + 1) 0xFFFFFFFF := by
    rw [ht, (faultsShow_regsBut _).regN (by decide), regN_bumpReg_same]
  have hum : u.mem = { s.mem with age := age, tempSum := 0, tempN := 0 } := by rw [hu, ← htm]; rfl
  have hur : RegsBut [Reg.MEM_AGE] t u := by
    rw [hu]
    exact RegsBut.setRegN ((RegsBut.refl _ t).same rfl) (by simp)
  have hvr : RegsBut kindRegs u v := hv ▸ kindsUpdate_regsBut mram nvm u
  obtain ⟨k1, k2, k3, k4, k5⟩ : KindKeeps u v := hv ▸ kindsUpdate_keeps mram nvm u
  have hvh : v.regN Reg.MEM_HOURS = min (s.regN Reg.MEM_HOURS + 1) 0xFFFFFFFF := by rw [hvr.regN (by decide), hur.regN (by simp), hth]
  have hvf : v.free = s.free := by
    have h1 : Within [.regs, .mem] u v := hv ▸ (Within.refl _ u).trans (Within.upTo (fun _ _ => kindUpdate_within _ _ _ _) _)
    have h2 : u.free = t.free := by rw [hu]; rfl
    rw [h1.same .free (by simp), h2, hts.same .free (by simp)]
  have hf : RegsBut [Reg.MEM_EVT] w (healthUpdate mram nvm s) ∧ (healthUpdate mram nvm s).mem = w.mem ∧ (healthUpdate mram nvm s).free = w.free := by
    rw [e]
    cases low with
    | true => exact ⟨(RegsBut.refl _ w).raise (by simp), rfl, rfl⟩
    | false => exact ⟨.refl _ w, rfl, rfl⟩
  have hwm : w.mem = { v.mem with highs := v.mem.highs ++ [(v.regN Reg.MEM_HOURS, mram, nvm)] } := by rw [hw]; rfl
  have hwr : RegsBut [] v w := by
    rw [hw]
    exact (RegsBut.refl _ v).same rfl
  have hh : (healthUpdate mram nvm s).regN Reg.MEM_HOURS = min (s.regN Reg.MEM_HOURS + 1) 0xFFFFFFFF := by
    rw [hf.1.regN (by simp), hwr.regN (by simp), hvh]
  rw [hf.2.1, hf.2.2, hwm, hh, hvh, ← hage]
  rw [hum] at k1 k2 k3 k4 k5
  refine ⟨rfl, k1, k2, k3, congrArg (· ++ _) k4, k5, ?_, ?_⟩
  · rw [hw]
    exact hvf
  · refine RegsBut.trans (htr.mono ?_) (RegsBut.trans (hur.mono ?_) (RegsBut.trans (hvr.mono (List.subset_append_right _ _)) (RegsBut.trans (hwr.mono (by simp)) (hf.1.mono ?_))))
    · exact List.subset_append_of_subset_left _ (by decide)
    · exact List.subset_append_of_subset_left _ (by decide)
    · exact List.subset_append_of_subset_left _ (by decide)

end Hour

/-- Settles O57. -/
theorem memoryHealth : Obligations.MemoryHealth := by
  unfold Obligations.MemoryHealth
  refine ⟨fun s hs hp hno => ?_, fun s m u n hs hp hpass hlim hm hmv hsp => ?_, fun s hp => ⟨s, congrArg Host.Outcome.next (if_neg (by simp [hp])), rfl⟩,
    fun s => ⟨_, rfl, by simp [on, raise], by simp, (Within.refl _ s).raise rfl⟩, fun s u lost hmv hp => ?_, fun s m u mism h => ?_, fun s mram nvm hn => ?_⟩
  · have hw : s.mem.pass.filter (fun e => decide (2 ≤ e.1) && decide (s.parN Par.NVM_SECLIM ≤ e.2.2)) = [] := by
      refine List.filter_eq_nil_iff.2 fun x hx => ?_
      have := hno x hx
      simp
      omega
    have e := scrubPassDone_eq hs hp
    rw [scrubEnd_of_worn hw rfl] at e
    refine ⟨_, e, ?_, by simp, rfl, ?_, ?_⟩
    · rw [((RegsBut.refl [Reg.MEM_STAT] _).put (by simp)).regN (by simp), regN_bumpReg_same]
      rfl
    · exact (((RegsBut.refl _ s).same rfl).bumpReg (by simp)).put (by simp)
    · exact (((Within.refl _ s).comp setMem_mk_within rfl).bumpReg rfl).put rfl
  · have h2 : 2 ≤ m := by
      have := get_lt (s := s) Fd.UPD_STAT_BANK
      have h : (2 : Nat) ^ Fd.UPD_STAT_BANK.width = 2 := rfl
      omega
    have hk : memKind m = 2 := by
      rw [memKind]
      omega
    have e := scrubPassDone_eq hs hp
    have hdue := memDue_of_inactive (u := u) hm h2 hp hmv hsp
    rw [memReplaced_eq, hk] at hdue
    rw [scrubEnd_of_worn (worn := [(m, u, n)]) (by simp [hpass, h2, hlim]) hdue] at e
    have hr1 := (replacedMem_within true m u s).regsBut (l := []) (by simp)
    have hw1 := replacedMem_within true m u s
    obtain ⟨c, hmem⟩ := replacedMem_mem true m u s
    obtain ⟨v, hv⟩ : ∃ v, v = replacedMem true m u s := ⟨_, rfl⟩
    rw [← hv] at e hr1 hw1 hmem
    obtain ⟨k1, k2, -, -⟩ := spareUsed_spec (k := 2) (by decide) v
    have hr2 := spareUsed_regsBut 2 v
    have hw2 := spareUsed_within 2 v
    have hmem2 := spareUsed_mem 2 v
    obtain ⟨w, hwdef⟩ : ∃ w, w = spareUsed 2 v := ⟨_, rfl⟩
    rw [← hwdef] at e k1 k2 hr2 hw2 hmem2
    have hlast : RegsBut [Reg.MEM_SCRUBCNT, Reg.MEM_STAT] w
        (((setMem { w.mem with pass := [], symLast := w.mem.symNow, symNow := [] } w).bumpReg Reg.MEM_SCRUBCNT).put Fd.MEM_STAT_SCRUBPCT 0) :=
      RegsBut.put (RegsBut.bumpReg ((RegsBut.refl _ w).same rfl) (by simp)) (by simp)
    refine ⟨_, e, ?_, ?_, rfl, ?_, ?_, ?_, ?_, ?_⟩
    · change w.mem.remap = _
      rw [hmem2, hmem]
    · change w.mem.events = _
      rw [hmem2, hmem, hk]
    · change w.mem.moves = _
      rw [hmem2, hmem]
      exact hmv
    · rw [hlast.on (by simp), k1]
    · rw [hlast.get (by decide), k2, hr1.get (by simp)]
    · exact (hr1.mono (by simp)).trans ((hr2.mono (by decide)).trans (hlast.mono (by simp)))
    · exact ((((hw1.sub rfl).comp hw2 rfl).comp setMem_mk_within rfl).bumpReg rfl).put rfl
  · have hr1 := (replacedMem_within lost 1 u (setMem { s.mem with moves := [] } s)).regsBut (l := []) (by simp)
    obtain ⟨v, hv⟩ : ∃ v, v = replacedMem lost 1 u (setMem { s.mem with moves := [] } s) := ⟨_, rfl⟩
    have hmem : v.mem = { s.mem with moves := [], remap := s.mem.remap ++ [(1, u)], events := s.mem.events ++ [(1, s.regN Reg.MEM_HOURS)] } := by
      rw [hv, replacedMem, when, if_neg (by simp)]
      rfl
    have hw1 : Within [.mem] s v := by
      rw [hv]
      exact ((Within.refl _ s).comp setMem_mk_within rfl).comp (replacedMem_within _ _ _ _) rfl
    have e : exec (.sectorMoveDone 1 u 0) s = .next (moveShow (spareUsed 1 v)) := by
      have h : moveDone ⟨1, u, lost⟩ s = moveShow (spareUsed 1 v) := by
        rw [moveDone, hmv, hv]
        simp only [List.filter, BEq.rfl, Bool.and_self, Bool.not_true, if_true, memReplaced_eq]
        rfl
      change Host.Outcome.next (match s.mem.moves.find? _ with | some v => _ | none => _) = _
      rw [hmv]
      simp only [List.find?, BEq.rfl, Bool.and_self]
      exact (congrArg Host.Outcome.next (if_pos (by simp [hp]))).trans (congrArg _ h)
    rw [← hv] at hr1
    obtain ⟨k1, k2, k3, k4⟩ := spareUsed_spec (k := 1) (by decide) v
    have hr2 := spareUsed_regsBut 1 v
    have hw2 := spareUsed_within 1 v
    have hmem2 := spareUsed_mem 1 v
    obtain ⟨w, hwdef⟩ : ∃ w, w = spareUsed 1 v := ⟨_, rfl⟩
    rw [← hwdef] at e k1 k2 k3 k4 hr2 hw2 hmem2
    have hlast : RegsBut [Reg.MEM_STAT] w (moveShow w) := (RegsBut.refl _ w).putB (by simp)
    have hempty : w.mem.moves = [] := by rw [hmem2, hmem]
    refine ⟨_, e, hmem2.trans hmem, ?_, ?_, ?_, ?_, ?_, ?_, ?_⟩
    · rw [hlast.on (by simp), k1]
    · rw [moveShow, hempty]
      simp [on, putB]
    · rw [hlast.get (by decide), k2, hr1.get (by simp)]
      rfl
    · rw [hlast.get (by decide), k3]
    · rw [hlast.get (by decide), k4]
    · have hsv : RegsBut [] s v := RegsBut.trans ((RegsBut.refl _ s).same rfl) hr1
      exact (hsv.mono (by simp)).trans ((hr2.mono (by decide)).trans (hlast.mono (by simp)))
    · exact ((hw1.sub rfl).comp hw2 rfl).putB rfl
  · refine ⟨s, congrArg Host.Outcome.next ?_, rfl⟩
    split
    · refine if_neg fun hc => ?_
      obtain ⟨h0, hp, -⟩ := hc
      rcases h with h | h
      · exact h h0
      · simp [h] at hp
    · rfl
  · obtain ⟨k1, k2, k3, k4, k5, k6, k7, k8⟩ := healthUpdate_spec mram nvm hn
    have e : execHealthUpdate mram nvm s = .next (healthUpdate mram nvm s) := rfl
    exact Answers.mk e (execHealthUpdate_answers mram nvm s) fun hw => ⟨k1, k2, k3, k4, k5, k6, k7, by rw [List.append_assoc]; exact k8, hw⟩

end Sys2Proof.Machine
end

section
/-!
The clocks of the islands, the Battery island's crystal, and its calibration (spec/20_power_clocks_reset.md R577 to R584).
-/
namespace Sys2Proof.Machine

open State

section Notes

/-- What SYS_FLTLAST shows of a fault (R643). -/
theorem faultNote_spec {cls cause : Nat} (hcls : cls < 16) (hcause : cause < 256) (i : Island) (s : State) :
    (faultNote cls i cause s).get Fd.SYS_FLTLAST_CLASS = cls ∧ (faultNote cls i cause s).get Fd.SYS_FLTLAST_ISL = i.num ∧
      (faultNote cls i cause s).get Fd.SYS_FLTLAST_CAUSE = cause := by
  obtain ⟨t, ht⟩ : ∃ t, t = (((s.put Fd.SYS_FLTLAST_CLASS cls).put Fd.SYS_FLTLAST_ISL i.num).put Fd.SYS_FLTLAST_CAUSE cause).raise Fd.SYS_FLT_NEW := ⟨_, rfl⟩
  have e : faultNote cls i cause s = if 2 ≤ cls then logWrite 0x000E 0 (t.regN Reg.SYS_FLTLAST) t else t := by rw [faultNote, ← ht]
  have hg : ∀ f, (faultNote cls i cause s).get f = t.get f := fun f => by
    rw [e]
    split
    · exact get_logWrite f
    · rfl
  have hi : i.num < 16 := by cases i <;> decide
  rw [hg, hg, hg, ht]
  refine ⟨?_, ?_, ?_⟩
  · simpa [raise] using hcls
  · simpa [raise] using hi
  · simpa [raise] using hcause

theorem faultNote_one_within (i : Island) (cause : Nat) (s : State) : Within [.regs] s (faultNote 1 i cause s) := by
  rw [faultNote_one]
  exact ((((Within.refl _ s).put rfl).put rfl).put rfl).raise rfl

end Notes

section Spare

variable {s : State} {i : Island}

/-- A clock's spare brought into use (R582). -/
theorem clockSpare_used (i : Island) (s : State) :
    (clockSpare i true s).get (Fd.CLK_ISL_SRC i.num) = 1 ∧ (clockSpare i true s).bitOf Reg.CLK_STAT i.num = true ∧
      (clockSpare i true s).bitOf Reg.CLK_STAT (16 + i.num) = true ∧ (clockSpare i true s).on Fd.CLK_EVT_SWITCH = true ∧
      (clockSpare i true s).get Fd.SYS_FLTLAST_CLASS = 1 ∧ (clockSpare i true s).get Fd.SYS_FLTLAST_ISL = i.num ∧
      (clockSpare i true s).get Fd.SYS_FLTLAST_CAUSE = 1 ∧
      RegsBut [Reg.CLK_ISL i.num, Reg.CLK_STAT, Reg.CLK_EVT, Reg.SYS_FLTLAST, Reg.SYS_FLT] s (clockSpare i true s) ∧ Within [.regs] s (clockSpare i true s) := by
  obtain ⟨t, ht⟩ : ∃ t, t = (((s.put (Fd.CLK_ISL_SRC i.num) 1).putBit Reg.CLK_STAT (16 + i.num) true).putBit Reg.CLK_STAT i.num true).raise Fd.CLK_EVT_SWITCH :=
    ⟨_, rfl⟩
  have e : clockSpare i true s = faultNote 1 i 1 t := by rw [clockSpare, if_pos rfl, ht]
  have hr := faultNote_regsBut 1 i 1 t
  obtain ⟨k1, k2, k3⟩ := faultNote_spec (cls := 1) (cause := 1) (by decide) (by decide) i t
  have hi : i.num < 16 := by cases i <;> decide
  have hn1 : Reg.CLK_ISL i.num ≠ Reg.CLK_STAT := by cases i <;> decide
  have hn2 : Reg.CLK_EVT ≠ Reg.CLK_ISL i.num := by cases i <;> decide
  rw [e]
  refine ⟨?_, ?_, ?_, ?_, k1, k2, k3, ?_, ?_⟩
  · rw [hr.get (by cases i <;> decide), ht, raise, get_put_other _ _ _ _ (.inl hn2), putBit, get_put_other _ _ _ _ (.inl hn1.symm), putBit,
      get_put_other _ _ _ _ (.inl hn1.symm), get_put_same _ _ _ (by simp)]
    rfl
  · rw [hr.bitOf (by simp), ht, raise, bitOf_put _ _ _ _ _ (by simp), if_neg (by simp), bitOf_putBit _ _ _ _ _ _ (by omega), if_pos ⟨rfl, rfl⟩]
  · rw [hr.bitOf (by simp), ht, raise, bitOf_put _ _ _ _ _ (by simp), if_neg (by simp), bitOf_putBit _ _ _ _ _ _ (by omega), if_neg (by simp),
      bitOf_putBit _ _ _ _ _ _ (by omega), if_pos ⟨rfl, rfl⟩]
  · rw [hr.on (by simp), ht]
    simp [on, raise]
  · refine RegsBut.trans ?_ (hr.mono (by simp))
    rw [ht]
    exact ((((RegsBut.refl _ s).put (by simp)).putBit (by simp)).putBit (by simp)).raise (by simp)
  · refine Within.comp ?_ (faultNote_one_within _ _ _) rfl
    rw [ht]
    exact ((((Within.refl _ s).put rfl).putBit rfl).putBit rfl).raise rfl

/-- A clock lost without a spare (R582). -/
theorem clockSpare_lost (i : Island) (s : State) :
    (clockSpare i false s).get (Fd.CLK_ISL_STATE i.num) = 2 ∧ (clockSpare i false s).on Fd.CLK_EVT_NOSPARE = true ∧
      RegsBut [Reg.CLK_EVT, Reg.CLK_ISL i.num, Reg.SYS_FLTLAST, Reg.SYS_FLT] s (clockSpare i false s) ∧ Within [.regs] s (clockSpare i false s) := by
  obtain ⟨t, ht⟩ : ∃ t, t = (s.raise Fd.CLK_EVT_NOSPARE).put (Fd.CLK_ISL_STATE i.num) 2 := ⟨_, rfl⟩
  have e : clockSpare i false s = faultNote 1 i 1 t := by rw [clockSpare, if_neg (by simp), ht]
  have hr := faultNote_regsBut 1 i 1 t
  have hn : Reg.CLK_ISL i.num ≠ Reg.CLK_EVT := by cases i <;> decide
  rw [e]
  refine ⟨?_, ?_, ?_, ?_⟩
  · rw [hr.get (by cases i <;> decide), ht, get_put_same _ _ _ (by simp)]
    rfl
  · rw [hr.on (by simp), ht, on, get_put_other _ _ _ _ (.inl hn)]
    simp [raise]
  · refine RegsBut.trans ?_ (hr.mono (by simp))
    rw [ht]
    exact ((RegsBut.refl _ s).raise (by simp)).put (by simp)
  · refine Within.comp ?_ (faultNote_one_within _ _ _) rfl
    rw [ht]
    exact ((Within.refl _ s).raise rfl).put rfl

theorem clockSpare_fault (i : Island) (ok : Bool) (s : State) : (clockSpare i ok s).on Fd.CLK_EVT_FAULT = s.on Fd.CLK_EVT_FAULT := by
  have hn : Reg.CLK_ISL i.num ≠ Reg.CLK_EVT := by cases i <;> decide
  have hr := fun t => faultNote_regsBut 1 i 1 t
  cases ok with
  | true =>
    rw [clockSpare, if_pos rfl, (hr _).on (by decide), raise, on, get_put_other _ _ _ _ (.inr (by decide)), putBit,
      get_put_other _ _ _ _ (.inl (show Reg.CLK_STAT ≠ Reg.CLK_EVT by decide)), putBit,
      get_put_other _ _ _ _ (.inl (show Reg.CLK_STAT ≠ Reg.CLK_EVT by decide)), get_put_other _ _ _ _ (.inl hn)]
    rfl
  | false =>
    rw [clockSpare, if_neg (by simp), (hr _).on (by decide), on, get_put_other _ _ _ _ (.inl hn), raise, get_put_other _ _ _ _ (.inr (by decide))]
    rfl

end Spare

section Faults

variable {s : State}

/-- The first that a clock fault shows (R582): the event, and the clock's bit of CLK_STAT gone. -/
def clockGone (n : Nat) (s : State) : State := (s.raise Fd.CLK_EVT_FAULT).putBit Reg.CLK_STAT n false

theorem clockGone_on (n : Nat) (s : State) : (clockGone n s).on Fd.CLK_EVT_FAULT = true := by
  rw [clockGone, on, putBit, get_put_other _ _ _ _ (.inl (by decide : Reg.CLK_STAT ≠ Reg.CLK_EVT))]
  simp [raise]

theorem clockGone_stat {n : Nat} (hn : n < 32) (s : State) : (clockGone n s).bitOf Reg.CLK_STAT n = false := by
  rw [clockGone, bitOf_putBit _ _ _ _ _ _ hn, if_pos ⟨rfl, rfl⟩]

theorem clockGone_regsBut (n : Nat) (s : State) : RegsBut [Reg.CLK_EVT, Reg.CLK_STAT] s (clockGone n s) :=
  ((RegsBut.refl _ s).raise (by simp)).putBit (by simp)

theorem clockGone_within (n : Nat) (s : State) : Within [.regs] s (clockGone n s) := ((Within.refl _ s).raise rfl).putBit rfl

/-- While the Amene island is held, a fault of its clock only changes the clock (R582, R644). -/
theorem clockFault_amene (ok : Bool) (late : Nat) (save : Option Nat) (hh : s.held .amene = true) :
    clockFault .amene ok late save s = clockSpare .amene (ok && s.get (Fd.CLK_ISL_SRC 5) == 0) (clockGone 5 s) := by
  have h : (clockGone 5 s).held .amene = true := by rw [(clockGone_regsBut 5 s).held (by decide), hh]
  have e : islandFault .amene 1 late save (clockGone 5 s) = clockGone 5 s := if_pos h
  exact congrArg (clockSpare .amene _) e

/-- A fault of the Signal Box's clock with a spare at hand (R239, R583): it is held, and its spare waits for the next start. -/
theorem clockFault_signalBox (late : Nat) (save : Option Nat) (hh : s.held .signalBox = false) (hs : s.get (Fd.CLK_ISL_SRC 2) = 0) :
    ∃ u, clockFault .signalBox true late save s = setPow { u.pow with sigSpare := true } u ∧
      u = holdSignalBox (faultNote 3 .signalBox 1 ((clockGone 2 s).put (Fd.CLK_ISL_STATE 2) 2)) := by
  have h : ((clockGone 2 s).put (Fd.CLK_ISL_STATE 2) 2).held .signalBox = false := by
    rw [((RegsBut.refl [Reg.CLK_ISL 2] _).put (by simp)).held (by decide), (clockGone_regsBut 2 s).held (by decide), hh]
  have e : islandFault .signalBox 1 late save ((clockGone 2 s).put (Fd.CLK_ISL_STATE 2) 2) =
      holdSignalBox (faultNote 3 .signalBox 1 ((clockGone 2 s).put (Fd.CLK_ISL_STATE 2) 2)) := if_neg (by simp [h])
  refine ⟨_, ?_, rfl⟩
  rw [clockFault]
  dsimp only
  refine (if_pos (by rw [show Island.signalBox.num = 2 from rfl, hs]; rfl)).trans ?_
  rw [show Island.signalBox.num = 2 from rfl, ← clockGone, e]

theorem clockFault_signalBox_spec (late : Nat) (save : Option Nat) (hh : s.held .signalBox = false) (hs : s.get (Fd.CLK_ISL_SRC 2) = 0) :
    Answers (exec (.clockFault .signalBox true late save) s) fun t =>
      t.on Fd.CLK_EVT_FAULT = true ∧ t.bitOf Reg.CLK_STAT 2 = false ∧ t.held .signalBox = true ∧ t.pow = { s.pow with sigSpare := true } ∧
        t.get Fd.SYS_FLTLAST_CLASS = 3 ∧ t.get Fd.SYS_FLTLAST_ISL = 2 ∧ t.get Fd.SYS_FLTLAST_CAUSE = 1 ∧
        RegsBut ([Reg.CLK_EVT, Reg.CLK_STAT, Reg.CLK_ISL 2, Reg.SYS_FLT, Reg.SYS_FLTLAST, Reg.SYS_FLTCNT 2] ++ (List.range 21).map (fun x => Reg.SYS_XSTAT x)
          ++ causeRegs) s t ∧ Within [.regs, .xings, .logs, .saf, .x03, .x04, .x09, .x19, .pow] s t := by
  obtain ⟨u, e, hu⟩ := clockFault_signalBox late save hh hs
  obtain ⟨v, hv⟩ : ∃ v, v = (clockGone 2 s).put (Fd.CLK_ISL_STATE 2) 2 := ⟨_, rfl⟩
  rw [← hv] at hu
  have hvr : RegsBut [Reg.CLK_EVT, Reg.CLK_STAT, Reg.CLK_ISL 2] s v := by
    rw [hv]
    exact ((clockGone_regsBut 2 s).mono (by decide)).put (by decide)
  have hvw : Within [.regs] s v := by
    rw [hv]
    exact (clockGone_within 2 s).put rfl
  have hisl : RegsBut [Reg.CLK_ISL 2] (clockGone 2 s) v := by
    rw [hv]
    exact (RegsBut.refl _ _).put (by simp)
  have h1 : v.on Fd.CLK_EVT_FAULT = true := by rw [hisl.on (by decide), clockGone_on]
  have h2 : v.bitOf Reg.CLK_STAT 2 = false := by rw [hisl.bitOf (by decide), clockGone_stat (by decide)]
  have hnr := faultNote_regsBut 3 .signalBox 1 v
  have hnw := faultNote_within 3 .signalBox 1 v
  obtain ⟨k1, k2, k3⟩ := faultNote_spec (cls := 3) (cause := 1) (by decide) (by decide) .signalBox v
  obtain ⟨w, hw⟩ : ∃ w, w = faultNote 3 .signalBox 1 v := ⟨_, rfl⟩
  rw [← hw] at hu hnr hnw k1 k2 k3
  obtain ⟨hheld, -, -, -, -, -, -, -, hr⟩ := holdSignalBox_spec w
  have hhw := holdSignalBox_within w
  rw [← hu] at hheld hr hhw
  have hn : ∀ a ∈ [Reg.CLK_EVT, Reg.CLK_STAT, Reg.SYS_FLTLAST], a ∉ [Reg.SYS_FLT, Reg.SYS_FLTCNT 2, Reg.CLK_ISL 2] ++ xingStats ++ causeRegs := by decide
  have hpow : u.pow = s.pow := by rw [hhw.same .pow (by simp), hnw.same .pow (by simp), hvw.same .pow (by simp)]
  refine ⟨_, congrArg Host.Outcome.next e, ?_, ?_, hheld, by rw [hpow]; rfl, ?_, ?_, ?_, ?_, ?_⟩
  · exact (hr.on (hn _ (by simp))).trans ((hnr.on (by decide)).trans h1)
  · exact (hr.bitOf (hn _ (by simp))).trans ((hnr.bitOf (by decide)).trans h2)
  · exact (hr.get (hn _ (by simp))).trans k1
  · exact (hr.get (hn _ (by simp))).trans k2
  · exact (hr.get (hn _ (by simp))).trans k3
  · exact ((hvr.mono (by decide)).trans ((hnr.mono (by decide)).trans (hr.mono (by decide)))).same rfl
  · exact (((hvw.sub rfl).comp hnw rfl).comp hhw rfl).comp (setPow_within _ _) rfl

/-- While the module is down, the error of a returning crystal is left to be worked off (R229, R577). -/
def slewLeft (err : Int) (s : State) : State := ({ s with btm := { s.btm with slew := err * 5 } }.setRegI Reg.BTM_SLEWREM err).raise Fd.BTM_STAT_SLEW

theorem slewLeft_regsBut (err : Int) (s : State) : RegsBut [Reg.BTM_SLEWREM, Reg.BTM_STAT] s (slewLeft err s) :=
  (RegsBut.setRegI ((RegsBut.refl _ s).same rfl) (by simp)).raise (by simp)

theorem slewLeft_within (err : Int) (s : State) : Within [.regs, .btm] s (slewLeft err s) := (((Within.upd_btm s _).sub rfl).setRegI rfl).raise rfl

theorem slewLeft_btm (err : Int) (s : State) : (slewLeft err s).btm = { s.btm with slew := err * 5 } := rfl

theorem crystalBack_of_down {err : Int} (he : err ≠ 0) (hrun : s.running = false) : crystalBack err s = slewLeft err (clockSpare .battery true s) := by
  rw [crystalBack, hrun]
  exact if_neg he

end Faults

section Lost

theorem batterySpareReturn_eq {s : State} (ok : Bool) (err : Int) (hs : s.get (Fd.CLK_ISL_SRC 8) = 2) :
    exec (.batterySpareReturn ok err) s = .next (if ok = true then crystalBack err s else crystalLost s) := congrArg Host.Outcome.next (if_pos hs)

variable {s : State}

/-- The Battery island's time lost, while the module does not run (R219, R577). -/
theorem crystalLost_of_down (hrun : s.running = false) :
    ∃ t, crystalLost s = setPow { s.pow with clkNote := true } t ∧ t = ((s.raise Fd.CLK_EVT_XBFAIL).raise Fd.BTM_EVT_CLKLOST).lower Fd.BTM_STAT_VALID :=
  ⟨_, if_neg (by simp [hrun]), rfl⟩

theorem clockLost_of_down (hrun : s.running = false) : clockLost s = setPow { s.pow with clkNote := true }
    (((s.raise Fd.BTM_EVT_CLKLOST).lower Fd.BTM_STAT_VALID).setRegN Reg.BTM_TIME (s.regN Reg.BTM_HWS + 1)) := if_pos (by simp [hrun])

end Lost

/-- The Battery island's restart while the module does not run (R219, R644). -/
theorem batteryIslandRestart_spec {s : State} (hrun : s.running = false) (hh : s.held .battery = false) : Answers (exec .batteryIslandRestart s) fun t =>
    t.regN Reg.BTM_TIME = (s.regN Reg.BTM_HWS + 1) % 2 ^ 32 ∧ t.on Fd.BTM_STAT_VALID = false ∧ t.on Fd.BTM_EVT_CLKLOST = true ∧
      t.btm = { s.btm with tampBuf := [], tampLost := 0xFFFFFFFF, polls := [false, false], slew := 0 } ∧ t.pow = { s.pow with clkNote := true } ∧
      RegsBut [Reg.BTM_TIME, Reg.BTM_STAT, Reg.BTM_EVT] s t ∧ Within [.regs, .btm, .pow] s t := by
  obtain ⟨v, hv⟩ : ∃ v : State, v = { s with btm := { s.btm with tampBuf := [], tampLost := 0, polls := [false, false], slew := 0 } } := ⟨_, rfl⟩
  have hrv : v.running = false := by rw [hv]; exact hrun
  obtain ⟨w, hw⟩ : ∃ w, w = ((v.raise Fd.BTM_EVT_CLKLOST).lower Fd.BTM_STAT_VALID).setRegN Reg.BTM_TIME (v.regN Reg.BTM_HWS + 1) := ⟨_, rfl⟩
  have hlost : clockLost v = setPow { v.pow with clkNote := true } w := by rw [clockLost_of_down hrv, hw]
  have hr : RegsBut [Reg.BTM_TIME, Reg.BTM_STAT, Reg.BTM_EVT] v w := by
    rw [hw]
    exact (((RegsBut.refl _ v).raise (by simp)).lower (by simp)).setRegN (by simp)
  have hvw : Within [.regs] v w := by
    rw [hw]
    exact (((Within.refl _ v).raise rfl).lower rfl).setRegN rfl
  have e : exec .batteryIslandRestart s = .next { clockLost v with btm := { (clockLost v).btm with tampLost := 0xFFFFFFFF } } := by
    change execBatteryIslandRestart s = _
    rw [execBatteryIslandRestart, hh, hrun, hv]
    rfl
  rw [hlost] at e
  have hbtm : w.btm = v.btm := hvw.same .btm (by simp)
  refine ⟨_, e, ?_, ?_, ?_, ?_, ?_, ?_, ?_⟩
  · change w.regN _ = _
    rw [hw, regN_setRegN_same, hv]
    rfl
  · change w.on _ = _
    rw [hw]
    simp [on, lower, setRegN]
  · change w.on _ = _
    rw [hw]
    simp [on, lower, raise, setRegN]
  · change { w.btm with tampLost := 0xFFFFFFFF } = _
    rw [hbtm, hv]
  · change { v.pow with clkNote := true } = _
    rw [hv]
  · have hsv : RegsBut [] s v := by
      rw [hv]
      exact (RegsBut.refl _ s).same rfl
    exact ((hsv.mono (by simp)).trans hr).same rfl
  · have hsv : Within [.btm] s v := by
      rw [hv]
      exact Within.upd_btm s _
    exact (((hsv.sub rfl).comp hvw rfl).comp (setPow_within _ _) rfl).comp (Within.upd_btm _ _) rfl


/-- The Amene island's clock fails while the island is held (R582, R644): its spare takes over. -/
theorem clockFault_amene_spare {s : State} (late : Nat) (save : Option Nat) (hh : s.held .amene = true) (hs : s.get (Fd.CLK_ISL_SRC 5) = 0) :
    Answers (exec (.clockFault .amene true late save) s) fun t =>
      t.on Fd.CLK_EVT_FAULT = true ∧ t.on Fd.CLK_EVT_SWITCH = true ∧ t.get (Fd.CLK_ISL_SRC 5) = 1 ∧ t.bitOf Reg.CLK_STAT 5 = true ∧
        t.bitOf Reg.CLK_STAT 21 = true ∧ t.get Fd.SYS_FLTLAST_CLASS = 1 ∧ t.get Fd.SYS_FLTLAST_ISL = 5 ∧ t.get Fd.SYS_FLTLAST_CAUSE = 1 ∧
        RegsBut [Reg.CLK_EVT, Reg.CLK_STAT, Reg.CLK_ISL 5, Reg.SYS_FLTLAST, Reg.SYS_FLT] s t ∧ Within [.regs] s t := by
  have e : exec (.clockFault .amene true late save) s = _ := congrArg Host.Outcome.next (clockFault_amene true late save hh)
  rw [hs, show (true && (0 : Nat) == 0) = true from rfl] at e
  obtain ⟨k1, k2, k3, k4, k5, k6, k7, k8, k9⟩ := clockSpare_used .amene (clockGone 5 s)
  refine ⟨_, e, ?_, k4, k1, k2, k3, k5, k6, k7, ?_, ?_⟩
  · rw [clockSpare_fault, clockGone_on]
  · exact ((clockGone_regsBut 5 s).mono (by decide)).trans (k8.mono (by decide))
  · exact (clockGone_within 5 s).trans k9

/-- The Amene island's clock fails while the island is held, with no spare left (R582, R644). -/
theorem clockFault_amene_none {s : State} (late : Nat) (save : Option Nat) (hh : s.held .amene = true) :
    Answers (exec (.clockFault .amene false late save) s) fun t =>
      t.on Fd.CLK_EVT_FAULT = true ∧ t.on Fd.CLK_EVT_NOSPARE = true ∧ t.get (Fd.CLK_ISL_STATE 5) = 2 ∧ t.bitOf Reg.CLK_STAT 5 = false ∧
        RegsBut [Reg.CLK_EVT, Reg.CLK_STAT, Reg.CLK_ISL 5, Reg.SYS_FLTLAST, Reg.SYS_FLT] s t ∧ Within [.regs] s t := by
  have e : exec (.clockFault .amene false late save) s = _ := congrArg Host.Outcome.next (clockFault_amene false late save hh)
  rw [Bool.false_and] at e
  obtain ⟨k1, k2, k3, k4⟩ := clockSpare_lost .amene (clockGone 5 s)
  refine ⟨_, e, ?_, k2, k1, ?_, ?_, ?_⟩
  · rw [clockSpare_fault, clockGone_on]
  · rw [k3.bitOf (by decide), clockGone_stat (by decide)]
  · exact ((clockGone_regsBut 5 s).mono (by decide)).trans (k3.mono (by decide))
  · exact (clockGone_within 5 s).trans k4

/-- The Battery island's crystal fails (R229). -/
theorem batteryCrystalFault_spec (s : State) : Answers (exec .batteryCrystalFault s) fun t =>
    t.on Fd.CLK_EVT_FAULT = true ∧ t.bitOf Reg.CLK_STAT 8 = false ∧ t.get (Fd.CLK_ISL_SRC 8) = 2 ∧
      RegsBut [Reg.CLK_EVT, Reg.CLK_STAT, Reg.CLK_ISL 8] s t ∧ Within [.regs] s t := by
  refine ⟨_, rfl, ?_, ?_, ?_, ?_, ?_⟩
  · rw [((RegsBut.refl [Reg.CLK_ISL 8] _).put (by simp)).on (by decide)]
    exact clockGone_on 8 s
  · rw [((RegsBut.refl [Reg.CLK_ISL 8] _).put (by simp)).bitOf (by decide)]
    exact clockGone_stat (by decide) s
  · rw [get_put_same _ _ _ (by simp)]
    rfl
  · exact ((clockGone_regsBut 8 s).mono (by decide)).put (by decide)
  · exact (clockGone_within 8 s).put rfl

theorem reg_setRegI_same (s : State) (a : Nat) (v : Int) : (s.setRegI a v).reg a = BitVec.ofInt 32 v := by
  rw [setRegI, setRegN, reg_setReg_self]
  have h : 0 ≤ v % ((2 ^ 32 : Nat) : Int) := Int.emod_nonneg _ (by decide)
  refine BitVec.eq_of_toInt_eq ?_
  rw [BitVec.toInt_ofInt, ← BitVec.ofInt_natCast, BitVec.toInt_ofInt, Bits.ofInt, Int.toNat_of_nonneg h]
  exact Int.emod_bmod v (2 ^ 32)

theorem crystalMeasure_eq (n : Nat) (temp : Int) (s : State) : crystalMeasure n temp s = s.setRegI Reg.CLK_XBMEAS (Exact.toInt (((n : Rat) - 32768000) / 32768000 * 100000000
    - (s.par Par.XB_BETA : Rat) * (((temp - s.par Par.XB_T0) * (temp - s.par Par.XB_T0) : Int) : Rat) / 1000)) := rfl

/-- A calibration of the crystal that has been measured (R584). -/
theorem xbCalibrateDone_measured {s : State} (n : Nat) (temp : Int) (hx : s.pow.xbCal = true) : Answers (exec (.xbCalibrateDone (some n) temp) s) fun t =>
    t.reg Reg.CLK_XBMEAS = BitVec.ofInt 32 (Exact.toInt (((n : Rat) - 32768000) / 32768000 * 100000000
      - (s.par Par.XB_BETA : Rat) * (((temp - s.par Par.XB_T0) * (temp - s.par Par.XB_T0) : Int) : Rat) / 1000)) ∧
      t.pow = { s.pow with xbCal := false } ∧ RegsBut [Reg.CLK_XBMEAS] s t ∧ Within [.regs, .pow] s t := by
  obtain ⟨u, hu⟩ : ∃ u, u = setPow { s.pow with xbCal := false } s := ⟨_, rfl⟩
  have e : exec (.xbCalibrateDone (some n) temp) s = .next (crystalMeasure n temp u) := by
    rw [hu]
    exact congrArg Host.Outcome.next (if_pos hx)
  have hpar : ∀ q, u.par q = s.par q := fun q => by rw [hu]; rfl
  rw [crystalMeasure_eq, hpar, hpar] at e
  generalize Exact.toInt _ = v at e ⊢
  have hur : RegsBut [Reg.CLK_XBMEAS] s u := by
    rw [hu]
    exact (RegsBut.refl _ s).same rfl
  have huw : Within [.pow] s u := by
    rw [hu]
    exact setPow_within _ s
  exact ⟨_, e, reg_setRegI_same _ _ _, by rw [hu]; rfl, hur.setRegI (by simp), (huw.sub rfl).setRegI rfl⟩

/-- Settles O56. -/
theorem clocksAndCrystal : Obligations.ClocksAndCrystal := by
  unfold Obligations.ClocksAndCrystal
  refine ⟨fun s late save hh hs => clockFault_signalBox_spec late save hh hs, fun s late save hh hs => ?_, fun s late save hh => ?_, fun s => ?_,
    fun s hs => ?_, fun s err hs he hrun => ?_, fun s err hs hrun => ?_, fun s ok err hs => ⟨s, congrArg Host.Outcome.next (if_neg hs), rfl⟩,
    fun s p hm => ?_, fun s n temp hx => xbCalibrateDone_measured n temp hx,
    fun s temp hx => ⟨_, congrArg Host.Outcome.next (if_pos hx), rfl, (RegsBut.refl _ s).same rfl, setPow_within _ _⟩, fun s hrun hh => ?_⟩
  · exact clockFault_amene_spare late save hh hs
  · exact clockFault_amene_none late save hh
  · exact batteryCrystalFault_spec s
  · have e := batterySpareReturn_eq true 0 hs
    rw [if_pos rfl, crystalBack, if_pos rfl] at e
    obtain ⟨k1, k2, k3, k4, -, -, -, k8, k9⟩ := clockSpare_used .battery s
    exact ⟨_, e, k1, k2, k3, k4, k9.same .btm (by simp), k8, k9⟩
  · have e := batterySpareReturn_eq true err hs
    rw [if_pos rfl, crystalBack_of_down he hrun] at e
    obtain ⟨k1, -, -, -, -, -, -, k8, k9⟩ := clockSpare_used .battery s
    obtain ⟨u, hu⟩ : ∃ u, u = clockSpare .battery true s := ⟨_, rfl⟩
    rw [← hu] at e k1 k8 k9
    have hr := slewLeft_regsBut err u
    refine ⟨_, e, ?_, ?_, ?_, ?_, ?_⟩
    · exact (hr.get (by decide)).trans k1
    · rw [slewLeft_btm, k9.same .btm (by simp)]
    · simp [slewLeft, on, raise]
    · exact (k8.mono (by decide)).trans (hr.mono (by decide))
    · exact (k9.sub rfl).comp (slewLeft_within err u) rfl
  · have e := batterySpareReturn_eq false err hs
    rw [if_neg (by simp)] at e
    obtain ⟨u, e2, hu⟩ := crystalLost_of_down hrun
    rw [e2] at e
    have hr : RegsBut [Reg.CLK_EVT, Reg.BTM_EVT, Reg.BTM_STAT] s u := by
      rw [hu]
      exact (((RegsBut.refl _ s).raise (by simp)).raise (by simp)).lower (by simp)
    have hw : Within [.regs] s u := by
      rw [hu]
      exact (((Within.refl _ s).raise rfl).raise rfl).lower rfl
    refine ⟨_, e, ?_, ?_, ?_, rfl, hr.same rfl, (hw.sub rfl).comp (setPow_within _ _) rfl⟩
    · change u.on _ = true
      rw [hu]
      simp [on, raise, lower]
    · change u.on _ = true
      rw [hu]
      simp [on, raise, lower]
    · change u.on _ = false
      rw [hu]
      simp [on, lower]
  · have e : exec (.xbCalibrate p) s = .next (hostReply p 0 (xbStart (hostAccess p s))) := congrArg Host.Outcome.next (hostOwn_of_may hm)
    refine ⟨_, e, ?_, ?_, RegsBut.hostReply (p := p) ((hostAccess_regsBut p s).same rfl) (status := 0), ?_⟩
    · exact congrArg (fun x : PowState => { x with xbCal := true }) (hostAccess_pow p s)
    · rw [hostReply_out]
      exact congrArg _ (hostAccess_out p s)
    · exact (((hostAccess_within p s).sub rfl).comp (setPow_within _ _) rfl).hostReply rfl
  · exact batteryIslandRestart_spec hrun hh

end Sys2Proof.Machine
end

section
/-!
The site time and the links of the ports (spec/12_site_ethernet_time.md R407, R415, R418, R419).
-/
namespace Sys2Proof.Machine

open State

section SiteTime

variable {s t : State}

/-- The registers that show the site time and what a slew of it has left. -/
def stRegs : List Nat := [Reg.PTP_ST 0, Reg.PTP_ST 1, Reg.PTP_SLEWREM]

theorem stShow_regsBut (s : State) : RegsBut [Reg.PTP_ST 0, Reg.PTP_ST 1] s (stShow s) := ((RegsBut.refl _ s).setRegN (by simp)).setRegN (by simp)

theorem stShow_eth (s : State) : (stShow s).eth = s.eth := rfl

theorem setEth_regsBut (l : List Nat) (e : EthState) (s : State) : RegsBut l s (setEth e s) := (RegsBut.refl l s).same rfl

/-- The site time moved on, before a running slew is taken off (R415). -/
def stPassed (dt : Nat) (s : State) : State := setEth { s.eth with mono := s.eth.mono + dt, st := s.eth.st + dt } s

theorem stAdvance_cases (dt : Nat) (s : State) :
    stAdvance dt s = stShow (stPassed dt s) ∨ ∃ a v, stAdvance dt s = stShow (domainsKeep a ((stPassed dt s).setRegI Reg.PTP_SLEWREM v)) := by
  by_cases h : (stPassed dt s).on Fd.PTP_STAT_SLEW = true
  · exact .inr ⟨_, _, if_pos h⟩
  · exact .inl (if_neg h)

theorem stAdvance_regsBut (dt : Nat) (s : State) : RegsBut stRegs s (stAdvance dt s) := by
  have h (u : State) (hu : RegsBut stRegs s u) : RegsBut stRegs s (stShow u) := hu.trans ((stShow_regsBut u).mono (by decide))
  have h0 : RegsBut stRegs s (stPassed dt s) := setEth_regsBut _ _ s
  rcases stAdvance_cases dt s with e | ⟨a, v, e⟩
  · rw [e]
    exact h _ h0
  · rw [e]
    exact h _ ((h0.setRegI (by decide)).trans ((domainsKeep_within _ _).regsBut (by simp)))

theorem domainsKeep_st (d : Int) (s : State) : (domainsKeep d s).eth.st = s.eth.st := rfl

theorem domainsKeep_mono (d : Int) (s : State) : (domainsKeep d s).eth.mono = s.eth.mono := rfl

theorem stAdvance_st (dt : Nat) (s : State) : (stAdvance dt s).eth.st = s.eth.st + dt := by
  rcases stAdvance_cases dt s with e | ⟨a, v, e⟩
  · rw [e, stShow_eth, stPassed]
    rfl
  · rw [e, stShow_eth, domainsKeep_st, setRegI_eth, stPassed]
    rfl

theorem stAdvance_mono (dt : Nat) (s : State) : (stAdvance dt s).eth.mono = s.eth.mono + dt := by
  rcases stAdvance_cases dt s with e | ⟨a, v, e⟩
  · rw [e, stShow_eth, stPassed]
    rfl
  · rw [e, stShow_eth, domainsKeep_mono, setRegI_eth, stPassed]
    rfl

theorem stAdvance_out (dt : Nat) (s : State) : (stAdvance dt s).out = s.out := (stAdvance_within dt s).same .out (by simp)

theorem stStep_regsBut (d : Int) (s : State) : RegsBut [Reg.PTP_ST 0, Reg.PTP_ST 1, Reg.PTP_EVT] s (stStep d s) := by
  refine RegsBut.raise ?_ (by simp)
  refine RegsBut.trans ?_ ((stShow_regsBut _).mono (by simp))
  exact RegsBut.trans ((launchStep_within _ _ s).regsBut (by simp)) ((stMove_within _ _).regsBut (by simp))

theorem stStep_st (d : Int) (s : State) : (stStep d s).eth.st = s.eth.st + d := rfl

theorem stStep_on (d : Int) (s : State) : (stStep d s).on Fd.PTP_EVT_STEP = true := by simp [stStep, on, raise]

theorem stStep_evt (d : Int) (s : State) {f : RegField} (hf : f.reg = Reg.PTP_EVT) (hlo : 2 ≤ f.lo ∨ f.lo + f.width ≤ 1) : (stStep d s).get f = s.get f := by
  have h : RegsBut [Reg.PTP_ST 0, Reg.PTP_ST 1] s (stShow (stMove d (launchStep s.eth.st (s.eth.st + d) s))) :=
    RegsBut.trans (RegsBut.trans ((launchStep_within _ _ s).regsBut (by simp)) ((stMove_within _ _).regsBut (by simp))) (stShow_regsBut _)
  rw [stStep, raise, get_put_other _ _ _ _ (.inr (by simpa [or_comm] using hlo)), h.get (by rw [hf]; decide)]

theorem utcShow_regsBut (s : State) : RegsBut [Reg.PTP_UTC, Reg.PTP_EVT] s (utcShow s) := by
  rw [utcShow]
  refine .ite (.refl _ s) ?_
  exact ((RegsBut.refl _ s).setRegN (by simp)).raise (by simp)

theorem utcShow_evt (s : State) {f : RegField} (hf : f.reg = Reg.PTP_EVT) (hlo : 4 ≤ f.lo ∨ f.lo + f.width ≤ 3) : (utcShow s).get f = s.get f := by
  obtain ⟨u, e⟩ : ∃ u, utcShow s = if s.regN Reg.PTP_UTC = u then s else (s.setRegN Reg.PTP_UTC u).raise Fd.PTP_EVT_UTCCHG := ⟨_, rfl⟩
  rw [e]
  split
  · rfl
  · rw [raise, get_put_other _ _ _ _ (.inr (by simpa [or_comm] using hlo)), get_setRegN_of_ne _ _ (by rw [hf]; decide)]

/-- Another domain or port taken, by a slew of the site time (R415). -/
theorem ptpSwitch_slew {d p : Nat} (h : (engine s d p).off.natAbs ≤ s.parN Par.STEPMAX) : ptpSwitch d p s =
    ((setEth { s.eth with sel := some (d, p) } (((s.put Fd.PTP_STAT_DOMSEL d).put Fd.PTP_STAT_PORT p).raise Fd.PTP_EVT_SWITCH)).setRegI Reg.PTP_SLEWREM
      (engine s d p).off).putB Fd.PTP_STAT_SLEW ((engine s d p).off != 0) := by
  rw [ptpSwitch]
  exact if_pos h

/-- Another domain or port taken, by a step of the site time (R415). -/
theorem ptpSwitch_step {d p : Nat} (h : s.parN Par.STEPMAX < (engine s d p).off.natAbs) : ptpSwitch d p s = stStep (engine s d p).off
    (((setEth { s.eth with sel := some (d, p) } (((s.put Fd.PTP_STAT_DOMSEL d).put Fd.PTP_STAT_PORT p).raise Fd.PTP_EVT_SWITCH)).setRegN Reg.PTP_SLEWREM
      0).lower Fd.PTP_STAT_SLEW) := by
  rw [ptpSwitch]
  exact if_neg (by omega)

/-- The registers that a change of domain or port writes. -/
def switchRegs : List Nat := [Reg.PTP_STAT, Reg.PTP_EVT, Reg.PTP_SLEWREM, Reg.PTP_ST 0, Reg.PTP_ST 1]

theorem selected_regsBut (d p : Nat) (s : State) : RegsBut [Reg.PTP_STAT, Reg.PTP_EVT] s
    (setEth { s.eth with sel := some (d, p) } (((s.put Fd.PTP_STAT_DOMSEL d).put Fd.PTP_STAT_PORT p).raise Fd.PTP_EVT_SWITCH)) :=
  ((((RegsBut.refl _ s).put (by simp)).put (by simp)).raise (by simp)).trans (setEth_regsBut _ _ _)

theorem ptpSwitch_regsBut (d p : Nat) (s : State) : RegsBut switchRegs s (ptpSwitch d p s) := by
  have h := (selected_regsBut d p s).mono (show _ ⊆ switchRegs by decide)
  by_cases hs : (engine s d p).off.natAbs ≤ s.parN Par.STEPMAX
  · rw [ptpSwitch_slew hs]
    exact (h.setRegI (by decide)).putB (by decide)
  · rw [ptpSwitch_step (by omega)]
    exact RegsBut.trans ((h.setRegN (by decide)).lower (by decide)) ((stStep_regsBut _ _).mono (by decide))

theorem ptpSelect_regsBut (d p : Nat) (s : State) : RegsBut switchRegs s (ptpSelect d p s) :=
  ((((RegsBut.refl _ s).put (by decide)).put (by decide)).trans (setEth_regsBut _ _ _)).trans ((stStep_regsBut _ _).mono (by decide))

end SiteTime

section Judge

variable {s t : State}

/-- What a judgement of the locks may do to the selection (R413 to R415): a first selection, another domain or port, or nothing. -/
inductive Reselect : State → State → Prop
  | keep (s : State) : Reselect s s
  | select (d p : Nat) (s : State) : Reselect s (ptpSelect d p s)
  | switch (d p : Nat) (s : State) : Reselect s (ptpSwitch d p s)

theorem Reselect.regsBut (h : Reselect s t) : RegsBut switchRegs s t := by
  cases h with
  | keep => exact .refl _ _
  | select d p => exact ptpSelect_regsBut d p _
  | switch d p => exact ptpSwitch_regsBut d p _

theorem Reselect.within (h : Reselect s t) : Within [.regs, .q, .eth] s t := by
  cases h with
  | keep => exact .refl _ _
  | select d p => exact ptpSelect_within d p _
  | switch d p => exact ptpSwitch_within d p _

/-- The selection after a judgement of the locks (R413 to R415). -/
def reselected (s t : State) : State :=
  match s.eth.sel with
  | none =>
    match (domPort s (s.parN Par.PTP_PREF)).map (fun p => (s.parN Par.PTP_PREF, p)), (domPort s (1 - s.parN Par.PTP_PREF)).map (fun p => (1 - s.parN Par.PTP_PREF, p)) with
    | some (d, p), _ => ptpSelect d p t
    | none, some (d, p) => ptpSelect d p t
    | none, none => t
  | some (d, p) =>
    match domPort s d, (domPort s (1 - d)).map (fun p => (1 - d, p)) with
    | some q, _ => if q = p ∧ s.eth.locked.getD d false then t else ptpSwitch d q t
    | none, some (o, q) => ptpSwitch o q t
    | none, none => t

theorem reselected_cases (s t : State) : Reselect t (reselected s t) := by
  rw [reselected]
  split
  · split
    · exact .select _ _ _
    · exact .select _ _ _
    · exact .keep _
  · split
    · split
      · exact .keep _
      · exact .switch _ _ _
    · exact .switch _ _ _
    · exact .keep _

/-- A judgement of the locks (R412 to R415): the loss is announced, the selection may change, and the locks are shown. -/
theorem ptpJudge_parts (s : State) : ∃ (lost : Bool) (dlock : Nat) (lock disc : Bool) (now : List Bool),
    ptpJudge s = utcShow ((((setEth { (reselected s (when lost (·.raise Fd.PTP_EVT_LOST) s)).eth with locked := now }
      (reselected s (when lost (·.raise Fd.PTP_EVT_LOST) s))).put Fd.PTP_STAT_DLOCK dlock).putB Fd.PTP_STAT_LOCK lock).putB Fd.BTM_STAT_PTPLOCK disc) :=
  ⟨_, _, _, _, _, rfl⟩

theorem ptpJudge_regsBut (s : State) : RegsBut [Reg.PTP_STAT, Reg.PTP_EVT, Reg.PTP_UTC, Reg.PTP_SLEWREM, Reg.PTP_ST 0, Reg.PTP_ST 1, Reg.BTM_STAT] s (ptpJudge s) := by
  obtain ⟨lost, dlock, lock, disc, now, e⟩ := ptpJudge_parts s
  have h0 : RegsBut switchRegs s (when lost (·.raise Fd.PTP_EVT_LOST) s) := by
    rw [when]
    exact .ite ((RegsBut.refl _ s).raise (by decide)) (.refl _ s)
  have h1 := h0.trans (reselected_cases s _).regsBut
  generalize reselected s (when lost (·.raise Fd.PTP_EVT_LOST) s) = u at e h1
  have h2 := (h1.mono (show switchRegs ⊆ [Reg.PTP_STAT, Reg.PTP_EVT, Reg.PTP_UTC, Reg.PTP_SLEWREM, Reg.PTP_ST 0, Reg.PTP_ST 1, Reg.BTM_STAT] by decide)).trans
    (setEth_regsBut _ { u.eth with locked := now } u)
  rw [e]
  exact (((h2.put (by decide)).putB (by decide)).putB (by decide)).trans ((utcShow_regsBut _).mono (by decide))

end Judge

section Links

variable {s t : State}

/-- Queues that were empty still are. -/
def EmptyKept (s t : State) : Prop := ∀ n, queue s n = [] → queue t n = []

theorem EmptyKept.refl (s : State) : EmptyKept s s := fun _ h => h

theorem EmptyKept.trans {u : State} (h1 : EmptyKept s t) (h2 : EmptyKept t u) : EmptyKept s u := fun n h => h2 n (h1 n h)

theorem EmptyKept.of_within {ps : List Part} (h : Within ps s t) (hq : .q ∉ ps) : EmptyKept s t := fun n hn => by rw [queue, h.same .q hq]; exact hn

theorem setQueue_emptyKept {m : Nat} {l : List Frame} (h : queue s m = [] → l = []) : EmptyKept s (setQueue m l s) := fun n hn => by
  by_cases hnm : n = m
  · subst hnm
    by_cases hlen : n < s.q.length
    · rw [queue_setQueue_self hlen, h hn]
    · have e : setQueue n l s = s := by rw [setQueue, setNth, List.set_eq_of_length_le (by omega)]
      rw [e, hn]
  · rw [queue_setQueue_of_ne hnm, hn]

theorem launchStep_emptyKept (a b : Int) (s : State) : EmptyKept s (launchStep a b s) :=
  (setQueue_emptyKept fun h => by rw [h]; rfl).trans (setQueue_emptyKept (fun h => by
    have h8 : queue s 8 = [] := by rwa [queue_setQueue_of_ne (by decide)] at h
    rw [h8]
    rfl))

theorem stStep_emptyKept (d : Int) (s : State) : EmptyKept s (stStep d s) := by
  refine (launchStep_emptyKept s.eth.st (s.eth.st + d) s).trans ?_
  rw [stStep]
  exact EmptyKept.of_within (ps := [.regs, .eth]) ((((stMove_within _ _).sub rfl).comp (stShow_within _) rfl).raise rfl) (by simp)

theorem selected_within (d p : Nat) (s : State) : Within [.regs, .eth] s
    (setEth { s.eth with sel := some (d, p) } (((s.put Fd.PTP_STAT_DOMSEL d).put Fd.PTP_STAT_PORT p).raise Fd.PTP_EVT_SWITCH)) :=
  ((((Within.refl _ s).put rfl).put rfl).raise rfl).comp (setEth_within _ _) rfl

theorem ptpSwitch_emptyKept (d p : Nat) (s : State) : EmptyKept s (ptpSwitch d p s) := by
  have h := selected_within d p s
  by_cases hs : (engine s d p).off.natAbs ≤ s.parN Par.STEPMAX
  · rw [ptpSwitch_slew hs]
    exact .of_within ((h.setRegI rfl).putB rfl) (by simp)
  · rw [ptpSwitch_step (by omega)]
    exact EmptyKept.trans (.of_within ((h.setRegN rfl).lower rfl) (by simp)) (stStep_emptyKept _ _)

theorem ptpSelect_emptyKept (d p : Nat) (s : State) : EmptyKept s (ptpSelect d p s) := by
  have h : Within [.regs, .eth] s (setEth { s.eth with sel := some (d, p) } ((s.put Fd.PTP_STAT_DOMSEL d).put Fd.PTP_STAT_PORT p)) :=
    (((Within.refl _ s).put rfl).put rfl).comp (setEth_within _ _) rfl
  exact EmptyKept.trans (.of_within h (by simp)) (stStep_emptyKept _ _)

theorem Reselect.emptyKept (h : Reselect s t) : EmptyKept s t := by
  cases h with
  | keep => exact .refl _
  | select d p => exact ptpSelect_emptyKept d p _
  | switch d p => exact ptpSwitch_emptyKept d p _

theorem ptpJudge_emptyKept (s : State) : EmptyKept s (ptpJudge s) := by
  obtain ⟨lost, dlock, lock, disc, now, e⟩ := ptpJudge_parts s
  have h0 : EmptyKept s (when lost (·.raise Fd.PTP_EVT_LOST) s) := by
    cases lost
    · exact .refl s
    · exact fun _ h => h
  have h1 := h0.trans (reselected_cases s _).emptyKept
  generalize reselected s (when lost (·.raise Fd.PTP_EVT_LOST) s) = u at e h1
  have hw : Within [.regs, .eth] u (ptpJudge s) := by
    rw [e]
    exact (((((setEth_within _ u).sub rfl).put rfl).putB rfl).putB rfl).comp (utcShow_within _) rfl
  exact h1.trans (.of_within hw (by simp))

/-- Queues discarded one after the other (R418). -/
theorem flush_queues (p : Nat) (qs : List Nat) (s : State) (hlen : ∀ q ∈ qs, q < s.q.length) {n : Nat} (hn : n ∈ qs ∨ queue s n = []) :
    queue (qs.foldl (fun t q => txDiscard p (queue t q).length (setQueue q [] t)) s) n = [] := by
  induction qs generalizing s with
  | nil => simpa using hn
  | cons q qs ih =>
    have hl : (txDiscard p (queue s q).length (setQueue q [] s)).q.length = s.q.length := List.length_set
    refine ih _ (fun r hr => by rw [hl]; exact hlen r (by simp [hr])) ?_
    by_cases hq : n = q
    · subst hq
      exact .inr (queue_setQueue_self (hlen n (by simp)))
    · rcases hn with hn | hn
      · exact .inl (List.mem_of_ne_of_mem hq hn)
      · exact .inr ((queue_setQueue_of_ne hq).trans hn)

theorem portFlush_regsBut (p : Nat) (s : State) : RegsBut [Reg.ETH_PCNT (8 * p + 4)] s (portFlush p s) := by
  rw [portFlush]
  refine .ite (.refl _ s) (RegsBut.foldl (fun v q _ => ?_) s)
  exact RegsBut.bumpReg ((RegsBut.refl _ v).same rfl) (by simp)

theorem portLoss_regsBut (p : Nat) (s : State) : RegsBut
    (Reg.ETH_PCNT (8 * p + 4) :: [Reg.PTP_STAT, Reg.PTP_EVT, Reg.PTP_UTC, Reg.PTP_SLEWREM, Reg.PTP_ST 0, Reg.PTP_ST 1, Reg.BTM_STAT]) s (portLoss p s) :=
  ((portFlush_regsBut p s).mono (by simp)).trans (RegsBut.trans (((setEngine_within _ _ _ _).regsBut (by simp)).trans ((setEngine_within _ _ _ _).regsBut (by simp)))
    ((ptpJudge_regsBut _).mono (by simp)))

theorem portLoss_emptyKept (p : Nat) (s : State) : EmptyKept (portFlush p s) (portLoss p s) :=
  EmptyKept.trans (.trans (.of_within (setEngine_within _ _ _ _) (by simp)) (.of_within (setEngine_within _ _ _ _) (by simp))) (ptpJudge_emptyKept _)

theorem portFlush_single (hp : s.parN Par.ETH_TOPO = 2) (p : Nat) :
    portFlush p s = (portQueues p).foldl (fun t q => txDiscard p (queue t q).length (setQueue q [] t)) s := by
  rw [portFlush]
  simp [hp]

theorem portJoin_of_single (h : s.parN Par.ETH_TOPO ≠ 0) (p : Nat) : portJoin p s = s := if_neg (fun hc => h hc.1)

end Links

section Clauses

variable {s : State}

theorem domPort_lt {d p : Nat} (h : domPort s d = some p) : p < 2 := List.mem_range.1 (List.mem_of_find?_eq_some h)

/-- The preferred domain is taken again (R415). -/
theorem revertTimeout_eq {d p q : Nat} (hh : s.held .siteLink = false) (hs : s.eth.sel = some (d, q)) (hd : d ≠ s.parN Par.PTP_PREF)
    (hp : domPort s (s.parN Par.PTP_PREF) = some p) (hr : s.parB Par.PTP_REVERT = true) :
    execRevertTimeout s = .next (utcShow (ptpSwitch (s.parN Par.PTP_PREF) p s)) := by
  rw [execRevertTimeout, awake_of_not_held hh]
  dsimp only
  rw [hs, hp]
  exact congrArg Host.Outcome.next (if_pos (by simp [hr, hd]))

theorem revertTimeout_slew {d p q : Nat} (hh : s.held .siteLink = false) (hs : s.eth.sel = some (d, q)) (hd : d ≠ s.parN Par.PTP_PREF)
    (hp : domPort s (s.parN Par.PTP_PREF) = some p) (hr : s.parB Par.PTP_REVERT = true) (h2 : s.parN Par.PTP_PREF < 2)
    (hoff : (engine s (s.parN Par.PTP_PREF) p).off.natAbs ≤ s.parN Par.STEPMAX) : Answers (execRevertTimeout s) fun t =>
      t.get Fd.PTP_STAT_DOMSEL = s.parN Par.PTP_PREF ∧ t.get Fd.PTP_STAT_PORT = p ∧ t.on Fd.PTP_EVT_SWITCH = true ∧
        t.reg Reg.PTP_SLEWREM = Bits.ofInt 32 (engine s (s.parN Par.PTP_PREF) p).off ∧
        t.on Fd.PTP_STAT_SLEW = ((engine s (s.parN Par.PTP_PREF) p).off != 0) ∧ t.eth = { s.eth with sel := some (s.parN Par.PTP_PREF, p) } ∧
        RegsBut [Reg.PTP_STAT, Reg.PTP_EVT, Reg.PTP_SLEWREM, Reg.PTP_UTC] s t ∧ Within [.regs, .eth] s t := by
  have e := revertTimeout_eq hh hs hd hp hr
  rw [ptpSwitch_slew hoff] at e
  have hp2 := domPort_lt hp
  generalize (engine s (s.parN Par.PTP_PREF) p).off = off at e ⊢
  generalize s.parN Par.PTP_PREF = d at e h2 ⊢
  obtain ⟨u, hu⟩ : ∃ u, u = setEth { s.eth with sel := some (d, p) } (((s.put Fd.PTP_STAT_DOMSEL d).put Fd.PTP_STAT_PORT p).raise Fd.PTP_EVT_SWITCH) := ⟨_, rfl⟩
  have hur := selected_regsBut d p s
  have huw : Within [.regs, .eth] s u := hu ▸ selected_within d p s
  have h1 : u.get Fd.PTP_STAT_DOMSEL = d := by rw [hu, setEth]; simpa [raise] using h2
  have h3 : u.get Fd.PTP_STAT_PORT = p := by rw [hu, setEth]; simpa [raise] using hp2
  have h4 : u.on Fd.PTP_EVT_SWITCH = true := by rw [hu, setEth]; simp [on, raise]
  have heth : u.eth = { s.eth with sel := some (d, p) } := by rw [hu]; rfl
  rw [← hu] at e hur
  obtain ⟨v, hv⟩ : ∃ v, v = (u.setRegI Reg.PTP_SLEWREM off).putB Fd.PTP_STAT_SLEW (off != 0) := ⟨_, rfl⟩
  rw [← hv] at e
  have hvr : RegsBut [Reg.PTP_SLEWREM, Reg.PTP_STAT] u v := by
    rw [hv]
    exact ((RegsBut.refl _ u).setRegI (by simp)).putB (by simp)
  have hvw : Within [.regs] u v := by
    rw [hv]
    exact ((Within.refl _ u).setRegI rfl).putB rfl
  have hget {lo w : Nat} (h : 6 ≤ lo ∨ lo + w ≤ 5) : v.get ⟨Reg.PTP_STAT, lo, w⟩ = u.get ⟨Reg.PTP_STAT, lo, w⟩ := by
    rw [hv, putB, get_put_other _ _ _ _ (.inr (by simpa [or_comm] using h)), get_setRegI_of_ne _ _ (show Reg.PTP_STAT ≠ Reg.PTP_SLEWREM by decide)]
  have hwr := utcShow_regsBut v
  have hww := utcShow_within v
  refine ⟨_, e, ?_, ?_, ?_, ?_, ?_, ?_, ?_, ?_⟩
  · rw [hwr.get (by decide), hget (.inr (by decide)), h1]
  · rw [hwr.get (by decide), hget (.inl (by decide)), h3]
  · rw [on, utcShow_evt v rfl (.inr (by decide))]
    exact (hvr.on (by decide)).trans h4
  · rw [hwr _ (by decide), hv, putB, reg_put_of_ne _ _ (by decide), setRegI, setRegN, reg_setReg_self]
    rfl
  · rw [hwr.on (by decide), hv]
    exact on_putB _ _ _ (by decide) (by decide)
  · rw [hww.same .eth (by simp), hvw.same .eth (by simp), heth]
  · exact (hur.mono (by simp)).trans ((hvr.mono (by simp)).trans (hwr.mono (by simp)))
  · exact (huw.comp hvw rfl).comp hww rfl

theorem revertTimeout_step {d p q : Nat} (hh : s.held .siteLink = false) (hs : s.eth.sel = some (d, q)) (hd : d ≠ s.parN Par.PTP_PREF)
    (hp : domPort s (s.parN Par.PTP_PREF) = some p) (hr : s.parB Par.PTP_REVERT = true)
    (hoff : s.parN Par.STEPMAX < (engine s (s.parN Par.PTP_PREF) p).off.natAbs) : Answers (execRevertTimeout s) fun t =>
      t.eth.st = s.eth.st + (engine s (s.parN Par.PTP_PREF) p).off ∧ t.reg Reg.PTP_SLEWREM = 0 ∧ t.on Fd.PTP_STAT_SLEW = false ∧
        t.on Fd.PTP_EVT_STEP = true ∧ t.on Fd.PTP_EVT_SWITCH = true ∧ RegsBut ptpRegs s t ∧ Within [.regs, .q, .eth] s t := by
  have e := revertTimeout_eq hh hs hd hp hr
  have hr0 := ptpSwitch_regsBut (s.parN Par.PTP_PREF) p s
  have hw0 := ptpSwitch_within (s.parN Par.PTP_PREF) p s
  obtain ⟨u, hu⟩ : ∃ u, u = ((setEth { s.eth with sel := some (s.parN Par.PTP_PREF, p) } (((s.put Fd.PTP_STAT_DOMSEL (s.parN Par.PTP_PREF)).put Fd.PTP_STAT_PORT
    p).raise Fd.PTP_EVT_SWITCH)).setRegN Reg.PTP_SLEWREM 0).lower Fd.PTP_STAT_SLEW := ⟨_, rfl⟩
  have heq : ptpSwitch (s.parN Par.PTP_PREF) p s = stStep (engine s (s.parN Par.PTP_PREF) p).off u := by rw [ptpSwitch_step hoff, hu]
  have hrem : u.reg Reg.PTP_SLEWREM = 0 := by
    rw [hu, lower, reg_put_of_ne _ _ (by decide), setRegN, reg_setReg_self]
    rfl
  have hslew : u.on Fd.PTP_STAT_SLEW = false := by rw [hu]; simp [on, lower]
  have hsw : u.on Fd.PTP_EVT_SWITCH = true := by
    rw [hu, on, lower, get_put_other _ _ _ _ (.inl (by decide)), get_setRegN_of_ne _ _ (by decide), setEth]
    simp [raise]
  have hst : u.eth.st = s.eth.st := by rw [hu]; rfl
  rw [heq] at e hr0 hw0
  generalize (engine s (s.parN Par.PTP_PREF) p).off = off at *
  have hsr := stStep_regsBut off u
  have hwr := utcShow_regsBut (stStep off u)
  have hww := utcShow_within (stStep off u)
  refine ⟨_, e, ?_, ?_, ?_, ?_, ?_, ?_, ?_⟩
  · rw [hww.same .eth (by simp), stStep_st, hst]
  · rw [hwr _ (by decide), hsr _ (by decide), hrem]
  · rw [hwr.on (by decide), hsr.on (by decide), hslew]
  · rw [on, utcShow_evt _ rfl (.inr (by decide))]
    exact stStep_on off u
  · rw [on, utcShow_evt _ rfl (.inr (by decide)), stStep_evt _ _ rfl (.inr (by decide))]
    exact hsw
  · exact (hr0.mono (by decide)).trans (hwr.mono (by decide))
  · exact hw0.comp hww rfl

/-- The slew of the site time comes to its end (R415). -/
theorem stSlewComplete_spec (hh : s.held .siteLink = false) (hs : s.on Fd.PTP_STAT_SLEW = true) : Answers (execStSlewComplete s) fun t =>
    t.on Fd.PTP_STAT_SLEW = false ∧ t.reg Reg.PTP_SLEWREM = 0 ∧ t.eth.st = s.eth.st ∧
      t.eth.ports.map (·.off) = s.eth.ports.map (fun e => e.off - s.regI Reg.PTP_SLEWREM) ∧ RegsBut [Reg.PTP_STAT, Reg.PTP_SLEWREM] s t ∧ Within [.regs, .eth] s t := by
  obtain ⟨u, hu⟩ : ∃ u, u = domainsKeep (s.regI Reg.PTP_SLEWREM) s := ⟨_, rfl⟩
  have hst : u.eth.st = s.eth.st := by rw [hu, domainsKeep_st]
  have hoff : u.eth.ports.map (·.off) = s.eth.ports.map (fun e => e.off - s.regI Reg.PTP_SLEWREM) := by
    rw [hu, domainsKeep, setEth]
    exact List.map_map
  have hw : Within [.eth] s u := hu ▸ domainsKeep_within _ s
  have e : execStSlewComplete s = .next ((u.setRegN Reg.PTP_SLEWREM 0).lower Fd.PTP_STAT_SLEW) := by
    rw [execStSlewComplete, awake_of_not_held hh, if_pos hs, hu]
  refine ⟨_, e, by simp [on, lower], ?_, hst, hoff, ?_, ((hw.sub rfl).setRegN rfl).lower rfl⟩
  · rw [lower, reg_put_of_ne _ _ (by decide), setRegN, reg_setReg_self]
    rfl
  · exact ((hw.regsBut (by simp)).setRegN (by simp)).lower (by simp)

theorem secondLeft (st : Int) : ((1000000000 - (st % 1000000000).toNat : Nat) : Int) = 1000000000 - st % 1000000000 := by omega

/-- The end of a second of the site time (R407). -/
theorem ppsSecond_eq (hh : s.held .siteLink = false) : ∃ left, execPpsSecond s =
    .next (if s.on Fd.PTP_STAT_LOCK then (stAdvance left s).emit .pps else stAdvance left s) ∧ (left : Int) = 1000000000 - s.eth.st % 1000000000 := by
  refine ⟨1000000000 - (s.eth.st % 1000000000).toNat, ?_, secondLeft _⟩
  rw [execPpsSecond, awake_of_not_held hh]
  dsimp only
  rw [(stAdvance_regsBut _ s).on (by decide)]

/-- An edge of the event input, stamped (R407). -/
theorem evtInEdge_spec (hh : s.held .siteLink = false) (dt : Nat) : Answers (execEvtInEdge dt s) fun t =>
    t.regN (Reg.PTP_EVTTS 0) = Bits.ofInt 64 (s.eth.st + dt) % 2 ^ 32 ∧ t.regN (Reg.PTP_EVTTS 1) = Bits.ofInt 64 (s.eth.st + dt) / 2 ^ 32 ∧
      t.on Fd.PTP_EVT_EVTIN = true ∧
      RegsBut [Reg.PTP_ST 0, Reg.PTP_ST 1, Reg.PTP_SLEWREM, Reg.PTP_EVTTS 0, Reg.PTP_EVTTS 1, Reg.PTP_EVT] s t ∧ Within [.regs, .eth] s t := by
  obtain ⟨u, hu⟩ : ∃ u, u = stAdvance dt s := ⟨_, rfl⟩
  obtain ⟨n, hn⟩ : ∃ n, n = Bits.ofInt 64 (s.eth.st + dt) := ⟨_, rfl⟩
  have hlt : n < 2 ^ 64 := by
    rw [hn, Bits.ofInt]
    omega
  have e : execEvtInEdge dt s = .next (((u.setRegN (Reg.PTP_EVTTS 0) (n % 2 ^ 32)).setRegN (Reg.PTP_EVTTS 1) (n / 2 ^ 32)).raise Fd.PTP_EVT_EVTIN) := by
    rw [execEvtInEdge, awake_of_not_held hh]
    dsimp only
    rw [stAdvance_st, ← hu, ← hn]
  have hr : RegsBut stRegs s u := hu ▸ stAdvance_regsBut dt s
  have hw : Within [.regs, .eth] s u := hu ▸ stAdvance_within dt s
  rw [← hn]
  refine ⟨_, e, ?_, ?_, by simp [on, raise], ?_, ((hw.setRegN rfl).setRegN rfl).raise rfl⟩
  · rw [((RegsBut.refl [Reg.PTP_EVT] _).raise (by simp)).regN (by decide), ((RegsBut.refl [Reg.PTP_EVTTS 1] _).setRegN (by simp)).regN (by decide), regN_setRegN_same]
    omega
  · rw [((RegsBut.refl [Reg.PTP_EVT] _).raise (by simp)).regN (by decide), regN_setRegN_same]
    omega
  · exact (((hr.mono (by decide)).setRegN (by decide)).setRegN (by decide)).raise (by decide)

/-- A link comes up (R418). -/
theorem ethLinkUp_spec {p speed : Nat} (hh : s.held .siteLink = false) (hp : p < 2) (hspeed : speed < 4) (htopo : s.parN Par.ETH_TOPO ≠ 0) :
    Answers (execEthLinkUp p speed s) fun t =>
      t.on (linkField p) = true ∧ t.get (speedField p) = speed ∧ t.on Fd.ETH_EVT_LINKUP = true ∧ RegsBut [Reg.ETH_STAT, Reg.ETH_EVT] s t ∧ Within [.regs] s t := by
  obtain ⟨u, hu⟩ : ∃ u, u = ((s.raise (linkField p)).put (speedField p) speed).raise Fd.ETH_EVT_LINKUP := ⟨_, rfl⟩
  have hpar : u.parN Par.ETH_TOPO = s.parN Par.ETH_TOPO := by rw [hu]; rfl
  have e : execEthLinkUp p speed s = .next u := by
    rw [execEthLinkUp, awake_of_not_held hh, if_pos hp, ← hu, portJoin_of_single (by rw [hpar]; exact htopo)]
  have hne : Fd.ETH_EVT_LINKUP.reg ≠ (linkField p).reg := show Reg.ETH_EVT ≠ Reg.ETH_STAT by decide
  have hne2 : Fd.ETH_EVT_LINKUP.reg ≠ (speedField p).reg := show Reg.ETH_EVT ≠ Reg.ETH_STAT by decide
  have h1 : u.on (linkField p) = true := by
    rw [hu, raise, on, get_put_other _ _ _ _ (.inl hne), get_put_other _ _ _ _ (.inr (by simp only [speedField, linkField]; omega)), raise,
      get_put_same _ _ _ (by simp only [linkField]; omega)]
    rfl
  have h2 : u.get (speedField p) = speed := by
    rw [hu, raise, get_put_other _ _ _ _ (.inl hne2), get_put_same _ _ _ (by simp only [speedField]; omega)]
    exact Nat.mod_eq_of_lt hspeed
  refine ⟨u, e, h1, h2, ?_, ?_, ?_⟩
  · rw [hu]
    simp [on, raise]
  · rw [hu]
    exact (((RegsBut.refl _ s).raise (by simp [linkField])).put (by simp [speedField])).raise (by simp)
  · rw [hu]
    exact (((Within.refl _ s).raise rfl).put rfl).raise rfl

/-- The only port loses its link (R418). -/
theorem ethLinkDown_spec (hh : s.held .siteLink = false) (htopo : s.parN Par.ETH_TOPO = 2) (hlen : s.q.length = 32) : Answers (execEthLinkDown 0 s) fun t =>
    t.on (linkField 0) = false ∧ t.get (speedField 0) = 0 ∧ t.on Fd.ETH_EVT_LINKDOWN = true ∧ (portQueues 0).all (fun q => queue t q == []) = true ∧
      RegsBut ([Reg.ETH_STAT, Reg.ETH_EVT, Reg.ETH_PCNT 4] ++ ptpRegs) s t ∧ Within [.regs, .q, .eth] s t := by
  obtain ⟨u, hu⟩ : ∃ u, u = ((s.lower (linkField 0)).put (speedField 0) 0).raise Fd.ETH_EVT_LINKDOWN := ⟨_, rfl⟩
  have e : execEthLinkDown 0 s = .next (portLoss 0 u) := by rw [execEthLinkDown, awake_of_not_held hh, if_pos (by decide), hu]
  have hur : RegsBut [Reg.ETH_STAT, Reg.ETH_EVT] s u := by
    rw [hu]
    exact (((RegsBut.refl _ s).lower (by decide)).put (by decide)).raise (by decide)
  have huw : Within [.regs] s u := by
    rw [hu]
    exact (((Within.refl _ s).lower rfl).put rfl).raise rfl
  have hpar : u.parN Par.ETH_TOPO = 2 := by rw [hu]; exact htopo
  have hq : u.q = s.q := huw.same .q (by simp)
  have hr := portLoss_regsBut 0 u
  have hempty : ∀ n ∈ portQueues 0, queue (portLoss 0 u) n = [] := fun n hn => by
    refine portLoss_emptyKept 0 u n ?_
    rw [portFlush_single hpar]
    exact flush_queues 0 _ u (fun q hq' => by rw [hq, hlen]; revert q; decide) (.inl hn)
  refine ⟨_, e, ?_, ?_, ?_, ?_, ?_, (huw.sub rfl).comp (portLoss_within 0 u) rfl⟩
  · rw [hr.on (by decide), hu]
    simp [on, lower, raise, linkField, speedField]
  · rw [hr.get (by decide), hu, raise, get_put_other _ _ _ _ (.inl (by decide)), get_put_same _ _ _ (by decide)]
    rfl
  · rw [hr.on (by decide), hu]
    simp [on, raise]
  · refine List.all_eq_true.2 fun q hq' => ?_
    rw [hempty q hq']
    rfl
  · exact (hur.mono (by decide)).trans (hr.mono (by decide))

theorem telegramsUsed_hostAccess (p : Path) (s : State) : telegramsUsed (hostAccess p s) = telegramsUsed s := by simp only [telegramsUsed, parN_hostAccess]

theorem portEnable_refused {w : Word} (h0 : s.parN Par.ETH_TOPO = 0) (ht : telegramsUsed s = true) (hc : (s.get Fd.ETH_CTL_PEN &&& (3 - Bits.get w 0 2)) ≠ 0) :
    portEnable w s = s := by
  rw [portEnable]
  exact if_pos ⟨h0, ht, hc⟩

theorem no_bit_cleared {old new : Nat} (ho : old < 4) (hn : new < 4) (h : (old &&& (3 - new)) = 0) : ∀ p < 2, (old.testBit p && !new.testBit p) = false := by
  have key : ∀ o, o < 4 → ∀ n, n < 4 → (o &&& (3 - n)) = 0 → ∀ p, p < 2 → (o.testBit p && !n.testBit p) = false := by decide
  exact key old ho new hn h

/-- A write that closes no port and opens none that rejoins (R418, R419). -/
theorem portEnable_kept {w : Word} (h0 : s.parN Par.ETH_TOPO ≠ 0) (hc : (s.get Fd.ETH_CTL_PEN &&& (3 - Bits.get w 0 2)) = 0) :
    portEnable w s = s.put Fd.ETH_CTL_PEN (Bits.get w 0 2) := by
  have hnone := no_bit_cleared (get_lt (s := s) Fd.ETH_CTL_PEN) (show Bits.get w 0 2 < 4 from Nat.mod_lt _ (by decide)) hc
  rw [portEnable]
  refine (if_neg (fun h => h0 h.1)).trans ?_
  obtain ⟨u, hu⟩ : ∃ u, u = s.put Fd.ETH_CTL_PEN (Bits.get w 0 2) := ⟨_, rfl⟩
  have hpar : u.parN Par.ETH_TOPO ≠ 0 := by rw [hu]; exact h0
  rw [← hu]
  have h1 : upTo 2 (fun p v => if (s.get Fd.ETH_CTL_PEN).testBit p && !(Bits.get w 0 2).testBit p then portLoss p v else v) u = u :=
    upTo_preserves (P := (· = u)) (fun i hi v hv => by rw [hnone i hi, hv]; rfl) rfl
  exact (congrArg _ h1).trans (upTo_preserves (P := (· = u)) (fun i _ v hv => by rw [hv, portJoin_of_single hpar, ite_self]) rfl)

end Clauses

/-- Settles O38. -/
theorem siteTimeAndLinks : Obligations.SiteTimeAndLinks := by
  unfold Obligations.SiteTimeAndLinks
  refine ⟨fun s d p q hh hs hd hp hr h2 ho => revertTimeout_slew hh hs hd hp hr h2 ho, fun s d p q hh hs hd hp hr ho => revertTimeout_step hh hs hd hp hr ho,
    fun s hh hs => stSlewComplete_spec hh hs, fun s hh hl => ?_, fun s hh hl => ?_, fun s dt hh => evtInEdge_spec hh dt,
    fun s p speed hh hp hs ht => ethLinkUp_spec hh hp hs ht, fun s hh ht hlen => ethLinkDown_spec hh ht hlen, fun s p w hm hh ht hu hc => ?_,
    fun s p w hm hh ht hc => ?_⟩
  · obtain ⟨left, e, hleft⟩ := ppsSecond_eq hh
    rw [if_pos hl] at e
    have hr := stAdvance_regsBut left s
    have hw := stAdvance_within left s
    have hst := stAdvance_st left s
    refine ⟨_, e, congrArg _ (stAdvance_out left s), ?_, ?_, ?_, hr.emit, (hw.sub rfl).emit rfl⟩
    · change (stAdvance left s).eth.st % _ = 0
      omega
    · change _ < (stAdvance left s).eth.st
      omega
    · change (stAdvance left s).eth.st ≤ _
      omega
  · obtain ⟨left, e, -⟩ := ppsSecond_eq hh
    rw [if_neg (by simp [hl])] at e
    exact ⟨_, e, stAdvance_out left s, (stAdvance_regsBut left s).mono (by decide), (stAdvance_within left s).sub rfl⟩
  · have hpen : (hostAccess p s).get Fd.ETH_CTL_PEN = s.get Fd.ETH_CTL_PEN := (hostAccess_regsBut p s).get (by cases p <;> decide)
    have e : execPortEnableWrite p w s = .next (hostReply p 0 (hostAccess p s)) := by
      rw [execPortEnableWrite, hostOwn_of_may hm, toIsland_hostAccess hh,
        portEnable_refused (by rw [parN_hostAccess, ht]) (by rw [telegramsUsed_hostAccess, hu]) (by rw [hpen]; exact hc)]
    exact ⟨_, e, by rw [hostReply_out, hostAccess_out], (hostAccess_regsBut p s).hostReply, ((hostAccess_within p s).sub rfl).hostReply rfl⟩
  · have hpen : (hostAccess p s).get Fd.ETH_CTL_PEN = s.get Fd.ETH_CTL_PEN := (hostAccess_regsBut p s).get (by cases p <;> decide)
    have e : execPortEnableWrite p w s = .next (hostReply p 0 ((hostAccess p s).put Fd.ETH_CTL_PEN (Bits.get w 0 2))) := by
      rw [execPortEnableWrite, hostOwn_of_may hm, toIsland_hostAccess hh, portEnable_kept (by rw [parN_hostAccess]; exact ht) (by rw [hpen]; exact hc)]
    refine ⟨_, e, ?_, ?_, ?_, ?_⟩
    · rw [get_hostReply, get_put_same _ _ _ (by decide)]
      exact Nat.mod_eq_of_lt (Nat.mod_lt _ (by decide))
    · rw [hostReply_out]
      exact congrArg _ (hostAccess_out p s)
    · exact (((hostAccess_regsBut p s).mono (by simp)).put (by simp)).hostReply
    · exact (((hostAccess_within p s).sub rfl).put rfl).hostReply rfl

end Sys2Proof.Machine
end

section
/-!
Register transactions of the host (spec/23_host_interface.md R622 to R628, spec/00_scope.md R9 to R15).
-/
namespace Sys2Proof.Machine

open State

section Refused

variable {s : State} {p : Path} {a n : Nat} {ws : List Word}

theorem hostRead_of_passed (ho : pathOpen s p = true) (h : burstStatus a n = 0) : hostRead p true a n s =
    hostReply p 0 ((readWords p n a (hostAccess p s)).2.emit (.hostData p (readWords p n a (hostAccess p s)).1)) := by
  simp [hostRead, crcPass, ho, h]

theorem hostRead_of_form (ho : pathOpen s p = true) (h : burstStatus a n = 4) : hostRead p true a n s = hostReply p 4 (hostAccess p s) := by
  simp [hostRead, crcPass, refuse, ho, h]

theorem hostRead_of_crc (ho : pathOpen s .spi = true) : hostRead .spi false a n s = crcError .spi s := by
  have hc : crcPass .spi false = false := rfl
  rw [hostRead, if_neg (by simp [ho]), if_pos (by simp [hc])]

theorem hostWrite_of_crc (f : WriteFacts) (ho : pathOpen s .spi = true) : hostWrite .spi false a ws f s = crcError .spi s := by
  have hc : crcPass .spi false = false := rfl
  rw [hostWrite, if_neg (by simp [ho]), if_pos (by simp [hc])]

/-- A transaction that fails its CRC is counted and answered, and is no host access (R623, R628). -/
theorem crcError_spec (p : Path) (s : State) : (crcError p s).out = .hostStatus p 3 :: s.out ∧ (crcError p s).on Fd.HIF_EVT_SPICRC = true ∧
    (crcError p s).regN (Reg.HIF_CNT 1) = min (s.regN (Reg.HIF_CNT 1) + 1) 0xFFFFFFFF ∧ RegsBut [Reg.HIF_EVT, Reg.HIF_CNT 1] s (crcError p s) ∧
      Within [.regs, .out] s (crcError p s) := by
  rw [crcError]
  refine ⟨rfl, by simp [on, raise], ?_, ?_, ?_⟩
  · rw [regN_hostReply, ((RegsBut.refl [Reg.HIF_EVT] _).raise (by simp)).regN (by decide), regN_bumpReg_same]
  · exact (((RegsBut.refl _ s).bumpReg (by simp)).raise (by simp)).hostReply
  · exact (((Within.refl _ s).bumpReg rfl).raise rfl).hostReply rfl

theorem pfwPcmd_of_ne (ha : a ≠ 0x60020) (s : State) : pfwPcmd p a ws s = s := by
  rw [pfwPcmd.eq_def]
  split
  · exact if_neg (fun hx => ha hx.1)
  · rfl

theorem hostWrite_of_refused (f : WriteFacts) {c : Nat} (ho : pathOpen s p = true) (h : writeStatus p a ws (hostAccess p s) = c) (hc : c ≠ 0) (h5 : c ≠ 5 ∨ a ≠ 0x60020) :
    hostWrite p true a ws f s = refuse p c (hostAccess p s) := by
  rw [hostWrite, if_neg (by simp [ho]), if_neg (by simp [crcPass])]
  dsimp only
  rw [h, if_neg hc]
  by_cases h5c : c = 5
  · rw [if_pos h5c, pfwPcmd_of_ne (h5.resolve_left (fun hn => hn h5c))]
  · rw [if_neg h5c]

theorem wordLevel_congr {t : State} {l : List Nat} (h : RegsBut l s t) (hl : Reg.PTS_CTL ∉ l) (a : Nat) (w : Word) : wordLevel t a w = wordLevel s a w := by
  rw [wordLevel, wordLevel, h.on hl]

theorem levelsOk_hostAccess (p : Path) (s : State) (a : Nat) (ws : List Word) : levelsOk p (hostAccess p s) a ws = levelsOk p s a ws := by
  induction ws generalizing a with
  | nil => rfl
  | cons w ws ih => rw [levelsOk, levelsOk, ih, pathLevel_hostAccess, wordLevel_congr (hostAccess_regsBut p s) (by cases p <;> decide)]

theorem refuse_plain {c : Nat} (h1 : c ≠ 1) (h2 : c ≠ 2) (s : State) : refuse p c s = hostReply p c s := by rw [refuse, if_neg h1, if_neg h2]

theorem hostReply_access_spec (p : Path) (c : Nat) (s : State) : (hostReply p c (hostAccess p s)).out = .hostStatus p c :: s.out ∧
    RegsBut (hostRegs p) s (hostReply p c (hostAccess p s)) ∧ Within [.regs, .out] s (hostReply p c (hostAccess p s)) :=
  ⟨by rw [hostReply_out, hostAccess_out], (hostAccess_regsBut p s).hostReply, ((hostAccess_within p s).sub rfl).hostReply rfl⟩

end Refused

section Reads

variable {s : State} {p : Path} {a : Nat} {r : RegMap.RegRow}

theorem readWords_one (h : RegMap.rowOf a = some r) (s : State) : readWords p 1 a s = ([(readWord p r a s).1], (readWord p r a s).2) := by
  simp [readWords, h]

theorem readWord_plain (hw : wide64 a = false) (s : State) : readWord p r a s = (hostWord s p r a, s) := by simp [readWord, hw]

theorem readWord_low (hw : wide64 a = true) (hl : lowWord a = true) (s : State) : readWord p r a s =
    (hostWord s p r a, setLatch ((p, a + 4, hostWord s p r (a + 4)) :: s.bil.latch.filter (fun e => !(e.1 == p && e.2.1 == a + 4))) s) := by
  simp [readWord, hw, hl]

theorem readWord_latched {w : Word} (hw : wide64 a = true) (hl : lowWord a = false) (hlatch : s.bil.latch = [(p, a, w)]) :
    readWord p r a s = (w, setLatch [] s) := by
  simp [readWord, hw, hl, hlatch]

/-- A read of one word that has passed (R622, R187), by what the word's own read gives. -/
theorem hostRead_one {x : Word × State} (ho : pathOpen s p = true) (hb : burstStatus a 1 = 0) (h : RegMap.rowOf a = some r)
    (hx : readWord p r a (hostAccess p s) = x) : hostRead p true a 1 s = hostReply p 0 (x.2.emit (.hostData p [x.1])) := by
  rw [hostRead_of_passed ho hb, readWords_one h, hx]

/-- The state after a read that has latched a word, or taken one (R187). -/
theorem hostRead_latch_spec {w : Word} {l : List (Path × Nat × Word)} (ho : pathOpen s p = true) (hb : burstStatus a 1 = 0) (h : RegMap.rowOf a = some r)
    (hx : readWord p r a (hostAccess p s) = (w, setLatch l (hostAccess p s))) :
    (hostRead p true a 1 s).out = .hostStatus p 0 :: .hostData p [w] :: s.out ∧ (hostRead p true a 1 s).bil = { s.bil with latch := l } ∧
      RegsBut (hostRegs p) s (hostRead p true a 1 s) ∧ Within [.regs, .bil, .out] s (hostRead p true a 1 s) := by
  rw [hostRead_one ho hb h hx]
  refine ⟨?_, ?_, ?_, ?_⟩
  · rw [hostReply_out]
    exact congrArg (fun o => _ :: _ :: o) (hostAccess_out p s)
  · exact congrArg (fun b : BilState => { b with latch := l }) hostAccess_bil
  · have hl : RegsBut (hostRegs p) s (setLatch l (hostAccess p s)) := (hostAccess_regsBut p s).trans ((setLatch_within _ _).regsBut (by simp))
    exact hl.emit.hostReply
  · exact (((hostAccess_within p s).sub rfl).comp (setLatch_within _ _) rfl |>.emit rfl).hostReply rfl

end Reads

section Writes

/-- The row of ETH_EVT: seven events, cleared at operator level (spec/12_site_ethernet_time.md). -/
theorem ethEvt_row : ∃ r, RegMap.rowOf Reg.ETH_EVT = some r ∧ r.level = 1 ∧ r.island = .siteLink ∧ r.w1c = 0x7F ∧ r.fOnly = 0 ∧ r.mOnly = 0 :=
  ⟨_, rfl, rfl, rfl, rfl, rfl, rfl⟩

theorem w1cMask_of_both {r : RegMap.RegRow} (hw : r.w1c = 0x7F) (hf : r.fOnly = 0) (hm : r.mOnly = 0) (s : State) : w1cMask s r = 0x7F := by
  rw [w1cMask, variantMask, hw, hf, hm, ite_self]
  rfl

/-- A write of HIF_IEN stores the whole word (R639). -/
theorem hostWrite_ien {s : State} {p : Path} (w : Word) (f : WriteFacts) (hm : HostMay p 1 s) (hh : s.held .core = false) :
    hostWrite p true Reg.HIF_IEN [w] f s = hostReply p 0 ((hostAccess p s).setReg Reg.HIF_IEN w) := by
  obtain ⟨ho, hl, hp⟩ := hm
  obtain ⟨r, hr, hlev, hisl, hrow, hpp, hrw, hw1c, hf, hmo, ha⟩ : ∃ r, RegMap.rowOf Reg.HIF_IEN = some r ∧ r.level = 1 ∧ r.island = .core ∧ r.addr = Reg.HIF_IEN ∧
      r.perPath = false ∧ r.rw = 0xFFFFFFFF ∧ r.w1c = 0 ∧ r.fOnly = 0 ∧ r.mOnly = 0 ∧ r.addr ∉ ownRuleAddrs :=
    ⟨_, rfl, rfl, rfl, rfl, rfl, rfl, rfl, rfl, rfl, by decide⟩
  have hlevel : wordLevel (hostAccess p s) Reg.HIF_IEN w = 1 := by
    rw [wordLevel, hr]
    have h1 : Reg.HIF_IEN ≠ Reg.PTS_CTL := by decide
    have h2 : Reg.HIF_IEN ≠ Reg.BTM_SETCTL := by decide
    have h3 : Reg.HIF_IEN ≠ Reg.UPD_CTL := by decide
    exact (if_neg (by simp [h1, h2, h3])).trans hlev
  have hst : writeStatus p Reg.HIF_IEN [w] (hostAccess p s) = 0 := by
    have hb : burstStatus Reg.HIF_IEN 1 = 0 := by decide
    simp [writeStatus, levelsOk, hb, hlevel, hl, hp]
  have hmask : storeMask (hostAccess p s) r = 0xFFFFFFFF := by
    rw [storeMask, variantMask, hrw, hf, hmo, hrow, ite_self, if_neg (by decide)]
    rfl
  have hstore : storeWord p r Reg.HIF_IEN w (hostAccess p s) = (hostAccess p s).setReg Reg.HIF_IEN w := by
    simp only [storeWord, hpp, hmask, hw1c, Bool.false_eq_true, if_false]
    have hones : 4294967295#32 = BitVec.allOnes 32 := rfl
    congr 1
    simp
    rw [hones, BitVec.and_allOnes, BitVec.and_allOnes]
  have hword : writeWord p f Reg.HIF_IEN w (hostAccess p s) = (hostAccess p s).setReg Reg.HIF_IEN w := by
    rw [writeWord, hr]
    dsimp only
    rw [hisl, toIsland_hostAccess hh, regEffect_of_not_ownRule p f _ w _ ha, hstore]
  simp [hostWrite, crcPass, ho, hst, writeWords, hword]

end Writes

/-- Settles O52. -/
theorem hostRegisters : Obligations.HostRegisters := by
  unfold Obligations.HostRegisters
  refine ⟨fun s p a r ho hb hr hw => ?_, fun s p a n ho hb => ⟨_, rfl, hostRead_unmapped_spec ho hb⟩, fun s p a n ho hb => ?_, fun s a n ho => ?_,
    fun s p w f hm hh => ?_, fun s p w f hm hh => ?_, fun s p a ws f ho hb hl => ?_, fun s p a ws f ho hb => ⟨_, rfl, hostWrite_unmapped_spec f ho hb⟩,
    fun s p a ws f ho hb => ?_, fun s p a ws f ho hb hl hp ha => ?_, fun s a ws f ho => ?_, fun s p a r ho hb hr hw hl => ?_,
    fun s p a r w ho hb hr hw hl hlatch => ?_, fun s p bits same hm hh => ?_⟩
  · refine ⟨_, congrArg Host.Outcome.next (hostRead_one ho hb hr (readWord_plain hw _)), ?_, ?_, ?_⟩
    · rw [hostReply_out]
      exact congrArg (fun o => _ :: _ :: o) (hostAccess_out p s)
    · exact (hostAccess_regsBut p s).emit.hostReply
    · exact (((hostAccess_within p s).sub rfl).emit rfl).hostReply rfl
  · exact ⟨_, congrArg Host.Outcome.next (hostRead_of_form ho hb), hostReply_access_spec p 4 s⟩
  · exact ⟨_, congrArg Host.Outcome.next (hostRead_of_crc ho), crcError_spec .spi s⟩
  · refine ⟨_, congrArg Host.Outcome.next (hostWrite_ien w f hm hh), reg_setReg_self _ _ _, ?_, ?_, ?_⟩
    · rw [hostReply_out]
      exact congrArg _ (hostAccess_out p s)
    · exact (((hostAccess_regsBut p s).mono (by simp)).setReg (by simp)).hostReply
    · exact (((hostAccess_within p s).sub rfl).setReg rfl).hostReply rfl
  · obtain ⟨r, hr, hlev, hisl, hw1c, hf, hmo⟩ := ethEvt_row
    have e := hostWrite_of_w1c f w (by decide) hr (by rw [hw1c]; decide) (hlev ▸ hm) (hisl ▸ hh)
    refine ⟨_, congrArg Host.Outcome.next e, ?_, ?_, ?_, ?_⟩
    · refine (reg_setReg_self _ _ _).trans ?_
      rw [w1cMask_of_both hw1c hf hmo, (hostAccess_regsBut p s) _ (by cases p <;> decide), BitVec.and_comm w]
    · rw [hostReply_out]
      exact congrArg _ (hostAccess_out p s)
    · exact (((hostAccess_regsBut p s).mono (by simp)).setReg (by simp)).hostReply
    · exact (((hostAccess_within p s).sub rfl).setReg rfl).hostReply rfl
  · have hst : writeStatus p a ws (hostAccess p s) = 1 := by simp [writeStatus, hb, levelsOk_hostAccess, hl]
    refine ⟨_, congrArg Host.Outcome.next (hostWrite_of_refused f ho hst (by decide) (.inl (by decide))), ?_, ?_, ?_, ?_⟩
    · rw [refuse, hostReply_out]
      exact congrArg _ (hostAccess_out p s)
    · simp [refuse, on, raise]
    · exact (((hostAccess_regsBut p s).mono (by simp)).raise (by simp)).hostReply
    · exact (((hostAccess_within p s).sub rfl).raise rfl).hostReply rfl
  · have hst : writeStatus p a ws (hostAccess p s) = 4 := by simp [writeStatus, hb]
    have e := hostWrite_of_refused f ho hst (by decide) (.inl (by decide))
    rw [refuse_plain (by decide) (by decide)] at e
    exact ⟨_, congrArg Host.Outcome.next e, hostReply_access_spec p 4 s⟩
  · have hst : writeStatus p a ws (hostAccess p s) = 5 := by simp [writeStatus, hb, levelsOk_hostAccess, hl, hp]
    have e := hostWrite_of_refused f ho hst (by decide) (.inr ha)
    rw [refuse_plain (by decide) (by decide)] at e
    exact ⟨_, congrArg Host.Outcome.next e, hostReply_access_spec p 5 s⟩
  · obtain ⟨k1, k2, -, k4, k5⟩ := crcError_spec .spi s
    exact ⟨_, congrArg Host.Outcome.next (hostWrite_of_crc f ho), k1, k2, k4, k5⟩
  · have hx := readWord_low (p := p) (r := r) hw hl (hostAccess p s)
    rw [hostAccess_bil] at hx
    exact ⟨_, congrArg Host.Outcome.next (if_pos (by rw [hw, hl]; rfl)), hostRead_latch_spec ho hb hr hx⟩
  · have hx := readWord_latched (s := hostAccess p s) (p := p) (r := r) (w := w) hw hl (by rw [hostAccess_bil, hlatch])
    exact ⟨_, rfl, hostRead_latch_spec ho hb hr hx⟩
  · obtain ⟨r, hr, hlev, hisl, hw1c, hf, hmo⟩ := ethEvt_row
    have e := execEventBitClear_of_w1c bits same (by decide) hr (by rw [hw1c]; decide) (hlev ▸ hm) (hisl ▸ hh)
    refine ⟨_, e, ?_, ?_, ?_, ?_⟩
    · rw [reg_setReg_self, w1cCleared, reg_setReg_self, w1cMask_of_both hw1c hf hmo, (hostAccess_regsBut p s) _ (by cases p <;> decide), BitVec.and_comm bits]
    · exact congrArg _ (hostAccess_out p s)
    · exact (RegsBut.hostReply (p := p) (((hostAccess_regsBut p s).mono (by simp)).setReg (by simp)) (status := 0)).setReg (by simp)
    · exact ((((hostAccess_within p s).sub rfl).setReg rfl).hostReply rfl).setReg rfl

end Sys2Proof.Machine
end

section
/-!
The key slots and the commands of KEY_CTL (spec/11_grotto_keys.md R372 to R381).
-/
namespace Sys2Proof.Machine

open State

section Fields

variable {s t : State}

theorem get_setRegN_same (s : State) (a v lo w : Nat) : (s.setRegN a v).get ⟨a, lo, w⟩ = v % 2 ^ 32 / 2 ^ lo % 2 ^ w := by
  rw [State.get, setRegN, reg_setReg_self, Bits.get, BitVec.toNat_ofNat, Nat.shiftRight_eq_div_pow]

theorem get_eq_regN (s : State) (a lo w : Nat) : s.get ⟨a, lo, w⟩ = s.regN a / 2 ^ lo % 2 ^ w := by
  rw [State.get, Bits.get, Nat.shiftRight_eq_div_pow]
  rfl

theorem setGrt_setGrt (x y : GrtState) (s : State) : setGrt x (setGrt y s) = setGrt x s := rfl

/-- The Grotto with no command queued is left so. -/
theorem setGrt_cmds_self (h : s.grt.cmds = []) : setGrt { s.grt with cmds := [] } s = s := by rw [← h]; rfl

theorem setGrt_reqs_self (h : s.grt.reqs = []) : setGrt { s.grt with reqs := [] } s = s := by rw [← h]; rfl

theorem keyOf_congr (h : t.grt.keys = s.grt.keys) (n : Nat) : keyOf t n = keyOf s n := by rw [keyOf, keyOf, h]

theorem keyOf_setKey_some (n : Nat) (b : List Byte) (s : State) : keyOf (setKey n (some b) s) n = b := by
  have h : (s.grt.keys.filter (fun e => e.1 != n)).find? (fun e => e.1 == n) = none := by
    refine List.find?_eq_none.2 fun x hx => ?_
    have := (List.mem_filter.1 hx).2
    simpa using this
  change ((((s.grt.keys.filter (fun e => e.1 != n)) ++ [(n, b)]).find? (fun e => e.1 == n)).map (·.2)).getD [] = b
  rw [List.find?_append, h]
  simp

theorem keyOf_setKey_none (n : Nat) (s : State) : keyOf (setKey n none s) n = [] := by
  have h : (s.grt.keys.filter (fun e => e.1 != n)).find? (fun e => e.1 == n) = none := by
    refine List.find?_eq_none.2 fun x hx => ?_
    have := (List.mem_filter.1 hx).2
    simpa using this
  change (((s.grt.keys.filter (fun e => e.1 != n)).find? (fun e => e.1 == n)).map (·.2)).getD [] = []
  rw [h]
  rfl

/-- The Grotto's queues of commands and requests. -/
def GrtIdle (s : State) : Prop := s.grt.cmds = [] ∧ s.grt.reqs = []

theorem GrtIdle.congr (h : GrtIdle s) (hg : t.grt = s.grt) : GrtIdle t := by rwa [GrtIdle, hg]

theorem setKey_idle (n : Nat) (k : Option (List Byte)) (h : GrtIdle s) : GrtIdle (setKey n k s) := h

theorem setKey_regs (n : Nat) (k : Option (List Byte)) (s : State) : (setKey n k s).regs = s.regs := rfl

end Fields

section Slots

variable {s t : State} {n : Nat}

/-- The registers of one slot. -/
def oneSlot (n : Nat) : List Nat := [Reg.KEY_SLOT n, Reg.KEY_SLOTX n]

/-- A client's receive counters (spec/14_head_end_dlms.md R466). -/
def icntRegs : List Nat := [Reg.DLM_ICNT 0, Reg.DLM_ICNT 1, Reg.DLM_ICNT 2]

theorem clientFresh_regsBut (n : Nat) (s : State) : RegsBut icntRegs s (clientFresh n s) :=
  upTo_regsBut 3 (fun c hc u => .ite ((RegsBut.refl _ u).setRegN (by revert c; decide)) (.refl _ u)) s

theorem usedShow_regsBut (s : State) : RegsBut [Reg.KEY_STAT] s (usedShow s) := (RegsBut.refl _ s).put (by simp)

theorem usedShow_grt (s : State) : (usedShow s).grt = s.grt := (usedShow_within s).same .grt (by simp)

theorem slotx_ne_slot (n : Nat) : Reg.KEY_SLOTX n ≠ Reg.KEY_SLOT n := by
  simp only [Reg.KEY_SLOT, Reg.KEY_SLOTX]
  omega

theorem slot_ne_slot {m n : Nat} (h : m ≠ n) : Reg.KEY_SLOT m ≠ Reg.KEY_SLOT n := by
  simp only [Reg.KEY_SLOT]
  omega

theorem slot_notMem_stat (n : Nat) : Reg.KEY_SLOT n ∉ [Reg.KEY_STAT] ∧ Reg.KEY_SLOTX n ∉ [Reg.KEY_STAT] := by
  simp only [List.mem_singleton, Reg.KEY_SLOT, Reg.KEY_SLOTX, Reg.KEY_STAT]
  omega

/-- The words of a slot that holds a new key (R375, R376). -/
def slotWritten (n gen depth type usage : Nat) (root : Bool) (parent pgen : Nat) (s : State) : State :=
  (((((((s.put (Fd.KEY_SLOT_GEN n) gen).put (Fd.KEY_SLOT_DEPTH n) depth).put (Fd.KEY_SLOT_STATE n) 1).put (Fd.KEY_SLOT_TYPE n) type).put
    (Fd.KEY_SLOT_USAGE n) usage).putB (Fd.KEY_SLOTX_PROOT n) root).put (Fd.KEY_SLOTX_PARENT n) parent).put (Fd.KEY_SLOTX_PGEN n) pgen

theorem slotWritten_spec (n gen depth type usage : Nat) (root : Bool) (parent pgen : Nat) (s : State) :
    let t := slotWritten n gen depth type usage root parent pgen s
    t.get (Fd.KEY_SLOT_GEN n) = gen % 256 ∧ t.get (Fd.KEY_SLOT_DEPTH n) = depth % 8 ∧ slotSt t n = 1 ∧ slotType t n = type % 16 ∧
      t.get (Fd.KEY_SLOT_USAGE n) = usage % 2048 ∧ t.on (Fd.KEY_SLOTX_PROOT n) = root := by
  have h : Reg.KEY_SLOTX n ≠ Reg.KEY_SLOT n := slotx_ne_slot n
  simp only [slotWritten, slotSt, slotType]
  refine ⟨?_, ?_, ?_, ?_, ?_, ?_⟩
  · simp [putB]
  · simp [putB]
  · simp [putB]
  · simp [putB]
  · simp [putB]
  · cases root <;> simp [putB, on]

theorem slotWritten_regsBut (n gen depth type usage : Nat) (root : Bool) (parent pgen : Nat) (s : State) :
    RegsBut (oneSlot n) s (slotWritten n gen depth type usage root parent pgen s) := by
  have h1 : Reg.KEY_SLOT n ∈ oneSlot n := by simp [oneSlot]
  have h2 : Reg.KEY_SLOTX n ∈ oneSlot n := by simp [oneSlot]
  exact ((((((((RegsBut.refl _ s).put h1).put h1).put h1).put h1).put h1).putB h2).put h2).put h2

theorem keyPlace_eq (n type usage parent : Nat) (root : Bool) (key : List Byte) (s : State) : keyPlace n type usage parent root key s =
    usedShow (slotWritten n (s.get (Fd.KEY_SLOT_GEN n) + 1) (if root then 1 else s.get (Fd.KEY_SLOT_DEPTH parent) + 1) type usage root
      (if root then 255 else parent) (if root then 0 else s.get (Fd.KEY_SLOT_GEN parent)) (setKey n (some key) (clientFresh n s))) := rfl

/-- A key placed in a slot (R375, R376). -/
theorem keyPlace_spec {type usage parent : Nat} {root : Bool} {key : List Byte} (hgen : s.get (Fd.KEY_SLOT_GEN n) ≠ 255) (htype : type < 16) (hi : GrtIdle s) :
    let t := keyPlace n type usage parent root key s
    t.get (Fd.KEY_SLOT_GEN n) = s.get (Fd.KEY_SLOT_GEN n) + 1 ∧ (root = true → t.get (Fd.KEY_SLOT_DEPTH n) = 1) ∧ slotSt t n = 1 ∧ slotType t n = type ∧
      t.get (Fd.KEY_SLOT_USAGE n) = usage % 2048 ∧ t.on (Fd.KEY_SLOTX_PROOT n) = root ∧ keyOf t n = key ∧ GrtIdle t ∧
      RegsBut (oneSlot n ++ icntRegs ++ [Reg.KEY_STAT]) s t := by
  obtain ⟨u, hu⟩ : ∃ u, u = setKey n (some key) (clientFresh n s) := ⟨_, rfl⟩
  have hkey : keyOf u n = key := by rw [hu, keyOf_setKey_some]
  have hidle : GrtIdle u := by
    rw [hu]
    exact setKey_idle _ _ (hi.congr ((clientFresh_within n s).same .grt (by simp)))
  have hur : RegsBut icntRegs s u := by
    rw [hu]
    exact (clientFresh_regsBut n s).same (setKey_regs _ _ _)
  obtain ⟨gen, hg⟩ : ∃ gen, gen = s.get (Fd.KEY_SLOT_GEN n) + 1 := ⟨_, rfl⟩
  obtain ⟨depth, hd⟩ : ∃ depth, depth = if root then 1 else s.get (Fd.KEY_SLOT_DEPTH parent) + 1 := ⟨_, rfl⟩
  obtain ⟨par, pgen, e⟩ : ∃ par pgen, keyPlace n type usage parent root key s = usedShow (slotWritten n gen depth type usage root par pgen u) :=
    ⟨_, _, by rw [keyPlace_eq, ← hu, ← hg, ← hd]⟩
  obtain ⟨k1, k2, k3, k4, k5, k6⟩ := slotWritten_spec n gen depth type usage root par pgen u
  have hwr := slotWritten_regsBut n gen depth type usage root par pgen u
  have hgrt : (slotWritten n gen depth type usage root par pgen u).grt = u.grt := rfl
  obtain ⟨v, hv⟩ : ∃ v, v = slotWritten n gen depth type usage root par pgen u := ⟨_, rfl⟩
  rw [← hv] at e k1 k2 k3 k4 k5 k6 hwr hgrt
  have hr := usedShow_regsBut v
  have hg2 := usedShow_grt v
  obtain ⟨hn1, hn2⟩ := slot_notMem_stat n
  have hlt := get_lt (s := s) (Fd.KEY_SLOT_GEN n)
  have h256 : (2 : Nat) ^ (Fd.KEY_SLOT_GEN n).width = 256 := rfl
  rw [e]
  refine ⟨?_, fun hroot => ?_, ?_, ?_, ?_, ?_, ?_, ?_, ?_⟩
  · rw [hr.get hn1, k1, hg]
    exact Nat.mod_eq_of_lt (by omega)
  · rw [hr.get hn1, k2, hd, hroot]
    rfl
  · rw [slotSt, hr.get hn1]
    exact k3
  · rw [slotType, hr.get hn1]
    exact k4.trans (Nat.mod_eq_of_lt htype)
  · rw [hr.get hn1, k5]
  · rw [hr.on hn2, k6]
  · rw [keyOf_congr (congrArg GrtState.keys (hg2.trans hgrt)), hkey]
  · exact hidle.congr (by rw [hg2, hgrt])
  · refine (hur.mono ?_).trans ((hwr.mono ?_).trans (hr.mono ?_))
    · exact fun a ha => by simp [ha]
    · exact fun a ha => by simp [ha]
    · exact fun a ha => by simp [ha]

/-- A slot left empty (R381). -/
theorem slotClear_spec {gen : Nat} (hgen : gen < 256) (n : Nat) (s : State) :
    slotSt (slotClear n gen s) n = 0 ∧ (slotClear n gen s).get (Fd.KEY_SLOT_GEN n) = gen ∧ keyOf (slotClear n gen s) n = [] ∧
      RegsBut (oneSlot n ++ [Reg.KEY_STAT]) s (slotClear n gen s) := by
  obtain ⟨u, hu⟩ : ∃ u, u = (s.setRegN (Reg.KEY_SLOT n) (gen * 2 ^ 24)).setRegN (Reg.KEY_SLOTX n) 0 := ⟨_, rfl⟩
  have e : slotClear n gen s = usedShow (setKey n none u) := by rw [slotClear, hu]
  have hr : RegsBut [Reg.KEY_STAT] u (slotClear n gen s) := by
    rw [e]
    exact RegsBut.trans ((RegsBut.refl _ u).same (setKey_regs _ _ _)) (usedShow_regsBut _)
  obtain ⟨hn1, -⟩ := slot_notMem_stat n
  have hg (lo w : Nat) : u.get ⟨Reg.KEY_SLOT n, lo, w⟩ = gen * 2 ^ 24 % 2 ^ 32 / 2 ^ lo % 2 ^ w := by
    rw [hu, get_setRegN_of_ne _ _ (slotx_ne_slot n).symm, get_setRegN_same]
  refine ⟨?_, ?_, ?_, ?_⟩
  · rw [slotSt, hr.get hn1, hg]
    omega
  · rw [hr.get hn1, hg]
    omega
  · rw [e, keyOf_congr (congrArg GrtState.keys (usedShow_grt _)), keyOf_setKey_none]
  · refine RegsBut.trans ?_ (hr.mono (by simp))
    rw [hu]
    exact ((RegsBut.refl _ s).setRegN (by simp [oneSlot])).setRegN (by simp [oneSlot])

theorem slotClear_idle (n gen : Nat) (h : GrtIdle s) : GrtIdle (slotClear n gen s) := by
  obtain ⟨u, hu⟩ : ∃ u, u = (s.setRegN (Reg.KEY_SLOT n) (gen * 2 ^ 24)).setRegN (Reg.KEY_SLOTX n) 0 := ⟨_, rfl⟩
  have hg : u.grt = s.grt := by rw [hu, setRegN_grt, setRegN_grt]
  rw [slotClear, ← hu]
  exact (setKey_idle n none (h.congr hg)).congr (usedShow_grt _)

theorem slot_notMem_oneSlot {m : Nat} (hm : m < 256) (hne : m ≠ n) : Reg.KEY_SLOT m ∉ oneSlot n ++ [Reg.KEY_STAT] := by
  simp only [oneSlot, List.cons_append, List.nil_append, List.mem_cons, List.not_mem_nil, or_false, not_or, Reg.KEY_SLOT, Reg.KEY_SLOTX, Reg.KEY_STAT]
  omega

/-- Other slots keep their words when one is emptied. -/
theorem slotClear_other {gen m : Nat} (hgen : gen < 256) (hm : m < 256) (hne : m ≠ n) (lo w : Nat) (s : State) :
    (slotClear n gen s).get ⟨Reg.KEY_SLOT m, lo, w⟩ = s.get ⟨Reg.KEY_SLOT m, lo, w⟩ :=
  (slotClear_spec hgen n s).2.2.2.get (slot_notMem_oneSlot hm hne)

/-- The descendants of a slot orphaned (R381): only their states change. -/
theorem orphanAll_spec (a : Nat) (s : State) :
    (∀ m < 256, slotSt (orphanAll a s) m = if slotSt s m = 1 ∧ descendsN 4 s a m then 2 else slotSt s m) ∧
      (∀ m < 256, (orphanAll a s).get (Fd.KEY_SLOT_GEN m) = s.get (Fd.KEY_SLOT_GEN m)) ∧
      RegsBut ((List.range 256).map (fun n => Reg.KEY_SLOT n) ++ [Reg.KEY_STAT]) s (orphanAll a s) := by
  obtain ⟨f, hf⟩ : ∃ f : Nat → State → State, f = fun n t => if slotSt s n = 1 ∧ descendsN 4 s a n then t.put (Fd.KEY_SLOT_STATE n) 2 else t := ⟨_, rfl⟩
  have e : orphanAll a s = usedShow (upTo 256 f s) := by rw [orphanAll, hf]
  have hother (m lo w : Nat) (k : Nat) (hk : k ≠ m) (u : State) : (f k u).get ⟨Reg.KEY_SLOT m, lo, w⟩ = u.get ⟨Reg.KEY_SLOT m, lo, w⟩ := by
    rw [hf]
    dsimp only
    split
    · exact get_put_other _ _ _ _ (.inl (slot_ne_slot hk))
    · rfl
  have hst (m : Nat) (hm : m < 256) : slotSt (upTo 256 f s) m = if slotSt s m = 1 ∧ descendsN 4 s a m then 2 else slotSt s m := by
    refine upTo_once (Q := fun u => slotSt u m = slotSt s m) (P := fun u => slotSt u m = if slotSt s m = 1 ∧ descendsN 4 s a m then 2 else slotSt s m) hm
      (fun k hk u hu => (hother m _ _ k hk u).trans hu) (fun u hu => ?_) (fun k hk u hu => (hother m _ _ k hk u).trans hu) rfl
    rw [hf]
    dsimp only
    by_cases hc : slotSt s m = 1 ∧ descendsN 4 s a m = true
    · rw [if_pos hc, if_pos hc]
      exact get_put_same _ _ _ (by simp)
    · rw [if_neg hc, if_neg hc, hu]
  have hgen (m : Nat) : (upTo 256 f s).get (Fd.KEY_SLOT_GEN m) = s.get (Fd.KEY_SLOT_GEN m) := by
    refine upTo_preserves (P := fun u => u.get (Fd.KEY_SLOT_GEN m) = s.get (Fd.KEY_SLOT_GEN m)) (fun k _ u hu => ?_) rfl
    by_cases hk : k = m
    · subst hk
      rw [hf]
      dsimp only
      split
      · rw [get_put_other _ _ _ _ (.inr (by simp)), hu]
      · exact hu
    · exact (hother m _ _ k hk u).trans hu
  have hr : RegsBut ((List.range 256).map (fun n => Reg.KEY_SLOT n)) s (upTo 256 f s) := by
    refine upTo_regsBut 256 (fun k hk u => ?_) s
    rw [hf]
    exact .ite ((RegsBut.refl _ u).put (List.mem_map.2 ⟨k, List.mem_range.2 hk, rfl⟩)) (.refl _ u)
  have hu := usedShow_regsBut (upTo 256 f s)
  rw [e]
  refine ⟨fun m hm => ?_, fun m _ => ?_, (hr.mono (List.subset_append_left _ _)).trans (hu.mono (List.subset_append_right _ _))⟩
  · rw [slotSt, hu.get (slot_notMem_stat m).1]
    exact hst m hm
  · rw [hu.get (slot_notMem_stat m).1, hgen]

theorem orphanAll_grt (a : Nat) (s : State) : (orphanAll a s).grt = s.grt := (orphanAll_within a s).same .grt (by simp)

theorem descendsN_congr {l : List Nat} (h : RegsBut l s t) (hl : ∀ a ∈ l, a < 0x180000) (d a n : Nat) : descendsN d t a n = descendsN d s a n := by
  induction d generalizing n with
  | zero => rfl
  | succ d ih =>
    have hk := slot_notMem hl n
    have hx : ∀ lo w, t.get ⟨Reg.KEY_SLOTX n, lo, w⟩ = s.get ⟨Reg.KEY_SLOTX n, lo, w⟩ := fun lo w => h.get hk.2
    rw [descendsN, descendsN, slotSt, slotSt, h.get hk.1, h.on hk.2, hx, ih]

theorem hifEnd_regsBut (p : Path) (s : State) : RegsBut [Reg.HIF_EVT, Reg.HIF_STAT] s (hifEnd p s) := by
  rw [hifEnd]
  refine .ite ?_ (.refl _ s)
  exact (((setHif_within _ _ s).regsBut (by simp)).trans ((setLevel_regsBut _ _ _).mono (by simp))).raise (by simp)

/-- Sessions whose key has gone are ended (R631). -/
theorem levelsCheck_regsBut (s : State) : RegsBut [Reg.HIF_EVT, Reg.HIF_STAT] s (levelsCheck s) := by
  refine RegsBut.foldl (fun v p _ => ?_) s
  split
  · exact .ite (.refl _ v) (hifEnd_regsBut p v)
  · exact .refl _ v

end Slots

end Sys2Proof.Machine
end

section
/-!
The commands of KEY_CTL carried out (spec/11_grotto_keys.md R377 to R381).
-/
namespace Sys2Proof.Machine

open State

section Command

variable {s t u : State} {p : Path} {op : Nat}

/-- The command that KEY_CTL.GO takes from the registers. -/
def cmdOf (p : Path) (s : State) : KeyCmd := ⟨s.regN Reg.KEY_CMD, s.regN Reg.KEY_CMDUSE, keyData s, pathLevel s p⟩

theorem cmdOf_slot (p : Path) (s : State) : (cmdOf p s).slot = s.get Fd.KEY_CMD_SLOT := (get_eq_regN s Reg.KEY_CMD 16 8).symm

theorem cmdOf_type (p : Path) (s : State) : (cmdOf p s).type = s.get Fd.KEY_CMD_TYPE := (get_eq_regN s Reg.KEY_CMD 24 4).symm

theorem cmdOf_parent (p : Path) (s : State) : (cmdOf p s).parent = s.get Fd.KEY_CMD_PARENT := (get_eq_regN s Reg.KEY_CMD 8 8).symm

theorem cmdOf_op (p : Path) (s : State) : (cmdOf p s).op = s.get Fd.KEY_CMD_OP := by
  have h := (s.reg Reg.KEY_CMD).isLt
  rw [get_eq_regN, KeyCmd.op, Nat.mod_eq_of_lt]
  · rfl
  · rw [show s.regN Reg.KEY_CMD = (s.reg Reg.KEY_CMD).toNat from rfl]
    omega

theorem cmdOf_root (p : Path) (s : State) : (cmdOf p s).root = s.on Fd.KEY_CMD_PROOT := by
  rw [on, get_eq_regN, KeyCmd.root, Nat.testBit_eq_decide_div_mod_eq]
  change decide (s.regN Reg.KEY_CMD / 2 ^ 7 % 2 = 1) = (s.regN Reg.KEY_CMD / 2 ^ 7 % 2 != 0)
  rcases Nat.mod_two_eq_zero_or_one (s.regN Reg.KEY_CMD / 2 ^ 7) with h | h
  · rw [h]
    rfl
  · rw [h]
    rfl

/-- What a finished command shows (R377): KEY_DATA, its result, and the event. -/
def keyShown (r : Nat) (d : List Byte) (s : State) : State :=
  if r = 0 then (keyDataPut d (s.put Fd.KEY_CMDSTAT_RESULT r)).raise Fd.KEY_EVT_CMDDONE else (keyDataPut d (s.put Fd.KEY_CMDSTAT_RESULT r)).raise Fd.KEY_EVT_CMDFAIL

/-- The registers of KEY_DATA. -/
def dataRegs : List Nat := (List.range 32).map (fun w => Reg.KEY_DATA w)

theorem keyDataPut_regsBut (d : List Byte) (s : State) : RegsBut dataRegs s (keyDataPut d s) :=
  upTo_regsBut 32 (fun w hw u => (RegsBut.refl _ u).setRegN (List.mem_map.2 ⟨w, List.mem_range.2 hw, rfl⟩)) s

theorem keyShown_within (r : Nat) (d : List Byte) (s : State) : Within [.regs] s (keyShown r d s) := by
  have h := ((Within.refl [.regs] s).put (f := Fd.KEY_CMDSTAT_RESULT) (v := r) rfl).comp (keyDataPut_within d _) rfl
  exact .ite (h.raise rfl) (h.raise rfl)

/-- The registers that every finished command writes. -/
def doneRegs : List Nat := [Reg.KEY_CMDSTAT, Reg.KEY_EVT, Reg.KEY_STAT] ++ dataRegs

/-- A command that has ended with nothing else waiting (R377). -/
def keyEnded (r : Nat) (d : List Byte) (s : State) : State := (keyShown r d s).lower Fd.KEY_STAT_BUSY

theorem keyEnded_within (r : Nat) (d : List Byte) (s : State) : Within [.regs] s (keyEnded r d s) := (keyShown_within r d s).lower rfl

theorem keyEnded_regsBut (r : Nat) (d : List Byte) (s : State) : RegsBut doneRegs s (keyEnded r d s) := by
  have h := ((RegsBut.refl doneRegs s).put (f := Fd.KEY_CMDSTAT_RESULT) (v := r) (by decide)).trans ((keyDataPut_regsBut d _).mono (show dataRegs ⊆ doneRegs by decide))
  exact RegsBut.lower (.ite (h.raise (by decide)) (h.raise (by decide))) (by decide)

theorem done_of_raised {r : Nat} {f : RegField} (hres : u.get Fd.KEY_CMDSTAT_RESULT = r) (hf : f.reg = Reg.KEY_EVT) (hon : (u.raise f).on f = true)
    (hr : (if r = 0 then Fd.KEY_EVT_CMDDONE else Fd.KEY_EVT_CMDFAIL) = f) : KeyDone r ((u.raise f).lower Fd.KEY_STAT_BUSY) := by
  have h1 : RegsBut [Reg.KEY_EVT] u (u.raise f) := (RegsBut.refl _ u).raise (by simp [hf])
  have h2 : RegsBut [Reg.KEY_STAT] (u.raise f) ((u.raise f).lower Fd.KEY_STAT_BUSY) := (RegsBut.refl _ _).lower (by simp)
  refine ⟨?_, by simp [on, lower], ?_⟩
  · rw [h2.get (by decide), h1.get (by decide), hres]
  · rw [hr, h2.on (by rw [hf]; decide), hon]

theorem keyEnded_done {r : Nat} (hr : r < 256) (d : List Byte) (s : State) : KeyDone r (keyEnded r d s) := by
  have hres : (keyDataPut d (s.put Fd.KEY_CMDSTAT_RESULT r)).get Fd.KEY_CMDSTAT_RESULT = r := by
    rw [(keyDataPut_regsBut _ _).get (by decide), get_put_same _ _ _ (by decide)]
    exact Nat.mod_eq_of_lt hr
  rw [keyEnded, keyShown]
  generalize keyDataPut d (s.put Fd.KEY_CMDSTAT_RESULT r) = u at hres
  by_cases h0 : r = 0
  · rw [if_pos h0]
    exact done_of_raised hres rfl (by simp [on, raise]) (if_pos h0)
  · rw [if_neg h0]
    exact done_of_raised hres rfl (by simp [on, raise]) (if_neg h0)

theorem keyDone_of_run {c : KeyCmd} {r : Nat} {d : List Byte} (h : keyRun c s = (r, d, u)) (hi : GrtIdle u) : keyDone c s = keyShown r d u := by
  have hsame : GrtIdle (keyShown r d u) := hi.congr ((keyShown_within r d u).same .grt (by simp))
  have e : releaseWaiting c (keyShown r d u) = keyShown r d u := by
    rw [releaseWaiting, hsame.2]
    exact setGrt_reqs_self hsame.2
  have e2 : keyDone c s = if c.op = 4 ∨ c.op = 5 then releaseWaiting c (keyShown r d u) else keyShown r d u := by
    rw [keyDone, h]
    rfl
  rw [e2, e, ite_self]

theorem keyServe_idle (n : Nat) (h : s.grt.cmds = []) : keyServe (n + 1) s = s.lower Fd.KEY_STAT_BUSY := by
  rw [keyServe, h]

/-- KEY_CTL.GO with nothing else under way runs its command at once (R377, R382). -/
theorem keyGo_of_run {r : Nat} {d : List Byte} (hs : GrtIdle s) (h : keyRun (cmdOf p s) s = (r, d, u)) (hi : GrtIdle u) : keyGo p s = keyEnded r d u := by
  obtain ⟨v, hv⟩ : ∃ v, v = setGrt { s.grt with cmds := [cmdOf p s] } s := ⟨_, rfl⟩
  have hcmds : v.grt.cmds = [cmdOf p s] := by rw [hv]; rfl
  have hreqs : v.grt.reqs = [] := by rw [hv]; exact hs.2
  have hback : setGrt { v.grt with cmds := [] } v = s := by
    rw [hv]
    exact setGrt_cmds_self hs.1
  have e : keyGo p s = keyServe 2 v := by
    rw [keyGo]
    dsimp only
    rw [hs.1, List.nil_append, ← cmdOf, ← hv, hcmds]
    rfl
  have hblock : keyBlocked (cmdOf p s) v = false := by simp [keyBlocked, hreqs]
  have hdone := keyDone_of_run h hi
  rw [e, keyServe, hcmds]
  dsimp only
  rw [hblock, if_neg (by simp), hback, hdone, keyServe_idle 0 ((keyShown_within r d u).same .grt (by simp) ▸ hi.1), keyEnded]

end Command

section Run

variable {s t u v : State} {p : Path} {c : KeyCmd}

/-- A state in which the Grotto takes commands (R370, R378). -/
def KeyOpen (s : State) : Prop := s.pfw = false ∧ s.on Fd.KEY_STAT_READY = true ∧ s.on Fd.KEY_STAT_ROOTFAIL = false

theorem keyRun_of_open (ho : KeyOpen s) (hl : 16 ≤ c.slot ∨ 3 ≤ c.level ∨ c.op = 6) : keyRun c s =
    if c.op = 1 then
      let r := createCheck c s
      if r ≠ 0 then (r, [], s)
      else if 6 ≤ c.type then (3, [], s)
      else if !s.on Fd.KEY_STAT_DRBGOK then (s.fresh.1.toNat % 256, [], s.fresh.2)
      else createKey c (freshBytes (keyLen c.type / 4) s).1 (freshBytes (keyLen c.type / 4) s).2
    else if c.op = 2 then
      let r := createCheck c s
      if r ≠ 0 then (r, [], s)
      else if !s.parB Par.CLEAR_EN || !c.usage.testBit 9 || c.usage.testBit 8 then (8, [], s)
      else createKey c (c.data.take (keyLen c.type)) s
    else if c.op = 3 then
      let r := createCheck c s
      if r ≠ 0 then (r, [], s)
      else if c.usage.testBit 8 then (3, [], s)
      else if c.root then (5, [], s)
      else match Config.gcmOpen (keyOf s c.parent) (c.data.take 12) (Bits.leBytes 1 c.slot ++ Bits.leBytes 1 c.type)
          ((c.data.drop 12).take (keyLen c.type + 16)) with
        | some key => createKey c (key.take (keyLen c.type)) s
        | none => (9, [], s)
    else if c.op = 4 ∨ c.op = 5 then
      if slotSt s c.slot = 3 then (12, [], s)
      else if slotSt s c.slot = 0 then (13, [], s)
      else if slotSt s c.slot = 2 ∧ c.op = 4 then (7, [], s)
      else if waybillHeld c.op c.slot s then (14, [], s)
      else (0, [], levelsCheck (if c.op = 4 then invalidate c.slot s else slotClear c.slot (s.get (Fd.KEY_SLOT_GEN c.slot)) (orphanAll c.slot s)))
    else if c.op = 6 then
      if slotSt s c.slot = 0 then (13, [], s)
      else if slotSt s c.slot = 3 then (12, [], s)
      else if !usable s c.slot then (7, [], s)
      else if slotType s c.slot < 4 then (3, [], s)
      else (0, publicKey s c.slot, s)
    else (3, [], s) := by
  obtain ⟨hp, hr, hf⟩ := ho
  rw [keyRun, hp, hr, hf]
  exact (if_neg (by simp)).trans ((if_neg (by simp)).trans (if_neg (by omega)))

theorem keyRun_low (ho : KeyOpen s) (hs : c.slot < 16) (hl : c.level < 3) (h6 : c.op ≠ 6) : keyRun c s = (1, [], s) := by
  obtain ⟨hp, hr, hf⟩ := ho
  rw [keyRun, hp, hr, hf]
  exact (if_neg (by simp)).trans ((if_neg (by simp)).trans (if_pos ⟨hs, hl, h6⟩))

theorem createCheck_root (h0 : slotSt s c.slot = 0) (hu : useOk c.type c.usage = true) (hr : c.root = true) : createCheck c s = 0 := by
  rw [createCheck, h0, hu, hr]
  rfl

theorem createCheck_child (h0 : slotSt s c.slot = 0) (hu : useOk c.type c.usage = true) (hr : c.root = false) (hok : usable s c.parent = true)
    (h6 : slotUse s c.parent 6 = true) (hd : s.get (Fd.KEY_SLOT_DEPTH c.parent) < 4) : createCheck c s = 0 := by
  rw [createCheck, h0, hu, hr, hok, h6]
  exact (if_neg (by decide)).trans ((if_neg (by decide)).trans ((if_neg (by decide)).trans ((if_neg (by decide)).trans (if_neg (by simpa using hd)))))

theorem createCheck_occupied (h : slotSt s c.slot = 1 ∨ slotSt s c.slot = 2) : createCheck c s = 6 := by
  rw [createCheck, if_neg (by omega), if_pos (by omega)]

/-- A key created in a slot whose generations are not spent (R376). -/
theorem createKey_new (key : List Byte) (h : s.get (Fd.KEY_SLOT_GEN c.slot) ≠ 255) :
    ∃ d, createKey c key s = (0, d, keyPlace c.slot c.type c.usage c.parent c.root key s) := by
  rw [createKey, if_neg h]
  exact ⟨_, rfl⟩

/-- The words of a slot lie apart from those that every finished command writes. -/
theorem slot_notMem_done (n : Nat) : Reg.KEY_SLOT n ∉ doneRegs ∧ Reg.KEY_SLOTX n ∉ doneRegs := by
  have h : ∀ a ∈ doneRegs, a < 0x180400 := by decide
  exact ⟨fun hm => absurd (h _ hm) (by unfold Reg.KEY_SLOT; omega), fun hm => absurd (h _ hm) (by unfold Reg.KEY_SLOTX; omega)⟩

end Run

section Reply

variable {s t u v : State} {p : Path} {n : Nat}

/-- The state that answers a key command which has run with a result and data. -/
def keyReply (p : Path) (r : Nat) (d : List Byte) (u : State) : State := hostReply p 0 (keyEnded r d u)

theorem keyReply_get (p : Path) (r : Nat) (d : List Byte) (u : State) (n lo w : Nat) :
    (keyReply p r d u).get ⟨Reg.KEY_SLOT n, lo, w⟩ = u.get ⟨Reg.KEY_SLOT n, lo, w⟩ ∧ (keyReply p r d u).get ⟨Reg.KEY_SLOTX n, lo, w⟩ = u.get ⟨Reg.KEY_SLOTX n, lo, w⟩ := by
  have h := keyEnded_regsBut r d u
  exact ⟨h.get (slot_notMem_done n).1, h.get (slot_notMem_done n).2⟩

theorem keyReply_keyOf (p : Path) (r : Nat) (d : List Byte) (u : State) (n : Nat) : keyOf (keyReply p r d u) n = keyOf u n :=
  keyOf_congr (congrArg GrtState.keys ((keyEnded_within r d u).same .grt (by simp))) n

theorem keyReply_regsBut (p : Path) (r : Nat) (d : List Byte) (u : State) : RegsBut doneRegs u (keyReply p r d u) := keyEnded_regsBut r d u

theorem keyReply_done {r : Nat} (hr : r < 256) (p : Path) (d : List Byte) (u : State) : KeyDone r (keyReply p r d u) := keyEnded_done hr d u

theorem keyReply_within {ps : List Part} (h : Within ps s u) (r : Nat) (d : List Byte) (hr : Part.covers [.regs] ps = true) (ho : Part.covers [.out] ps = true) :
    Within ps s (keyReply p r d u) := (h.comp (keyEnded_within r d u) hr).hostReply ho

theorem keyReply_out (p : Path) (r : Nat) (d : List Byte) (h : u.out = s.out) : (keyReply p r d u).out = .hostStatus p 0 :: s.out := by
  rw [keyReply, hostReply_out, (keyEnded_within r d u).same .out (by simp), h]

theorem keyRegs_eq (p : Path) : keyRegs p = doneRegs ++ hostRegs p := rfl

/-- A key command that is refused changes nothing but what it shows (R377). -/
theorem keyReply_refused {r : Nat} (hr : r < 256) (p : Path) (d : List Byte) (s : State) :
    KeyDone r (keyReply p r d (hostAccess p s)) ∧ RegsBut (keyRegs p) s (keyReply p r d (hostAccess p s)) ∧
      Within [.regs, .out] s (keyReply p r d (hostAccess p s)) :=
  ⟨keyReply_done hr _ _ _, regs_sub_append_hostRegs (hostAccess_regsBut p s) (keyReply_regsBut p r d _), keyReply_within ((hostAccess_within p s).sub rfl) r d rfl rfl⟩

/-- A key that has been created (R375 to R379), seen from before the host's access. -/
theorem keyReply_created {type usage parent : Nat} {root : Bool} {key d : List Byte} (hv : RegsBut (hostRegs p) s v) (hi : GrtIdle v)
    (hgen : s.get (Fd.KEY_SLOT_GEN n) ≠ 255) (htype : type < 16) :
    let t := keyReply p 0 d (keyPlace n type usage parent root key v)
    KeyDone 0 t ∧ slotSt t n = 1 ∧ slotType t n = type ∧ s.get (Fd.KEY_SLOT_GEN n) + 1 = t.get (Fd.KEY_SLOT_GEN n) ∧
      (root = true → t.get (Fd.KEY_SLOT_DEPTH n) = 1) ∧ t.get (Fd.KEY_SLOT_USAGE n) = usage % 2048 ∧ t.on (Fd.KEY_SLOTX_PROOT n) = root ∧ keyOf t n = key ∧
      RegsBut ([Reg.KEY_SLOT n, Reg.KEY_SLOTX n, Reg.DLM_ICNT 0, Reg.DLM_ICNT 1, Reg.DLM_ICNT 2] ++ keyRegs p) s t := by
  have hgv : v.get (Fd.KEY_SLOT_GEN n) = s.get (Fd.KEY_SLOT_GEN n) := hv.get (slot_notMem (hostRegs_lt p) n).1
  obtain ⟨k1, k2, k3, k4, k5, k6, k7, k8, k9⟩ := keyPlace_spec (n := n) (usage := usage) (parent := parent) (root := root) (key := key) (hgv ▸ hgen) htype hi
  generalize keyPlace n type usage parent root key v = u at *
  have hg := fun lo w => (keyReply_get p 0 d u n lo w).1
  refine ⟨keyReply_done (by decide) _ _ _, ?_, ?_, ?_, fun h => ?_, ?_, ?_, ?_, ?_⟩
  · rw [slotSt, hg]
    exact k3
  · rw [slotType, hg]
    exact k4
  · rw [hg, k1, hgv]
  · rw [hg, k2 h]
  · rw [hg, k5]
  · rw [on, (keyReply_get p 0 d u n _ _).2]
    exact k6
  · rw [keyReply_keyOf, k7]
  · refine (hv.mono ?_).trans ((k9.mono ?_).trans ((keyReply_regsBut p 0 d u).mono ?_))
    · exact fun a ha => by simp [keyRegs_eq, ha]
    · rw [keyRegs_eq]
      refine List.append_subset.2 ⟨List.subset_append_of_subset_left _ (by simp [oneSlot, icntRegs]), ?_⟩
      exact fun a ha => by simp only [List.mem_singleton] at ha; subst ha; simp [doneRegs]
    · exact fun a ha => by simp [keyRegs_eq, ha]

end Reply

end Sys2Proof.Machine
end

section
/-!
What the commands of KEY_CTL answer (spec/11_grotto_keys.md R372 to R381).
-/
namespace Sys2Proof.Machine

open State

section Ready

variable {s u : State} {p : Path} {op r n : Nat} {d : List Byte}

theorem keyData_hostAccess (p : Path) (s : State) : keyData (hostAccess p s) = keyData s := by
  have hlt : ∀ a ∈ hostRegs p, a ∉ dataRegs := by cases p <;> decide
  exact flatMap_eq_of_mem fun w hw => by rw [(hostAccess_regsBut p s).regN (fun h => hlt _ h (List.mem_map.2 ⟨w, hw, rfl⟩))]

/-- The command that KEY_CTL.GO takes, as the registers before the access hold it. -/
theorem cmdOf_hostAccess (p : Path) (s : State) : ∃ c, c = cmdOf p (hostAccess p s) ∧ c.op = s.get Fd.KEY_CMD_OP ∧ c.slot = s.get Fd.KEY_CMD_SLOT ∧
    c.type = s.get Fd.KEY_CMD_TYPE ∧ c.parent = s.get Fd.KEY_CMD_PARENT ∧ c.root = s.on Fd.KEY_CMD_PROOT ∧ c.usage = s.regN Reg.KEY_CMDUSE ∧
    c.data = keyData s ∧ c.level = pathLevel s p := by
  have h := hostAccess_regsBut p s
  have hn : Reg.KEY_CMD ∉ hostRegs p := by cases p <;> decide
  refine ⟨_, rfl, ?_, ?_, ?_, ?_, ?_, h.regN (by cases p <;> decide), keyData_hostAccess p s, pathLevel_hostAccess p p s⟩
  · rw [cmdOf_op, h.get hn]
  · rw [cmdOf_slot, h.get hn]
  · rw [cmdOf_type, h.get hn]
  · rw [cmdOf_parent, h.get hn]
  · rw [cmdOf_root, h.on hn]

theorem KeyReady.idle (h : KeyReady p op s) : GrtIdle (hostAccess p s) := by
  obtain ⟨-, -, -, hc, hq, -, -⟩ := h
  rw [GrtIdle, hostAccess_grt]
  exact ⟨hc, hq⟩

theorem KeyReady.open (h : KeyReady p op s) : KeyOpen (hostAccess p s) := by
  obtain ⟨⟨-, -, hp⟩, -, -, -, -, hr, hf⟩ := h
  have hn : Reg.KEY_STAT ∉ hostRegs p := by cases p <;> decide
  exact ⟨by rw [pfw_hostAccess, hp], by rw [(hostAccess_regsBut p s).on hn, hr], by rw [(hostAccess_regsBut p s).on hn, hf]⟩

/-- A key command of a host that may give it, by what it runs to. -/
theorem keyOwn_eq (h : KeyReady p op s) (hrun : keyRun (cmdOf p (hostAccess p s)) (hostAccess p s) = (r, d, u)) (hi : GrtIdle u) :
    Host.Outcome.next (hostOwn p 2 (toIsland .grotto (keyGoOp p op)) s) = (.next (keyReply p r d u) : Ans) := by
  have hidle := h.idle
  obtain ⟨hm, hh, hop, -, -, -, -⟩ := h
  have hop1 : (hostAccess p s).get Fd.KEY_CMD_OP = op := by rw [(hostAccess_regsBut p s).get (by cases p <;> decide), hop]
  rw [hostOwn_of_may hm, toIsland_hostAccess hh, keyGoOp, if_pos hop1, keyGo_of_run hidle hrun hi, keyReply]

end Ready

section Clauses

variable {s : State} {p : Path} {n type a : Nat}

theorem slotSt_hostAccess (p : Path) (s : State) (n : Nat) : slotSt (hostAccess p s) n = slotSt s n :=
  (hostAccess_regsBut p s).get (slot_notMem (hostRegs_lt p) n).1

theorem slotGen_hostAccess (p : Path) (s : State) (n : Nat) : (hostAccess p s).get (Fd.KEY_SLOT_GEN n) = s.get (Fd.KEY_SLOT_GEN n) :=
  (hostAccess_regsBut p s).get (slot_notMem (hostRegs_lt p) n).1

theorem keyGenerate_new (h : KeyReady p 1 s) (hn : s.get Fd.KEY_CMD_SLOT = n) (h16 : 16 ≤ n) (ht : s.get Fd.KEY_CMD_TYPE = type) (h5 : type ≤ 5)
    (hu : useOk type (s.regN Reg.KEY_CMDUSE) = true) (hroot : s.on Fd.KEY_CMD_PROOT = true) (hd : s.on Fd.KEY_STAT_DRBGOK = true) (h0 : slotSt s n = 0)
    (hgen : s.get (Fd.KEY_SLOT_GEN n) ≠ 255) : Answers (execKeyGenerate p s) fun t =>
      KeyDone 0 t ∧ slotSt t n = 1 ∧ slotType t n = type ∧ s.get (Fd.KEY_SLOT_GEN n) + 1 = t.get (Fd.KEY_SLOT_GEN n) ∧ t.get (Fd.KEY_SLOT_DEPTH n) = 1 ∧
        t.get (Fd.KEY_SLOT_USAGE n) = s.get Fd.KEY_CMDUSE_USAGE ∧ t.on (Fd.KEY_SLOTX_PROOT n) = true ∧ t.out = .hostStatus p 0 :: s.out ∧
        RegsBut ([Reg.KEY_SLOT n, Reg.KEY_SLOTX n, Reg.DLM_ICNT 0, Reg.DLM_ICNT 1, Reg.DLM_ICNT 2] ++ keyRegs p) s t ∧
        Within [.regs, .grt, .free, .out] s t := by
  obtain ⟨c, hc, hop, hslot, htype, -, hcroot, huse, -, -⟩ := cmdOf_hostAccess p s
  rw [hn] at hslot
  rw [ht] at htype
  rw [hroot] at hcroot
  have hop1 : c.op = 1 := hop.trans h.2.2.1
  have hdrbg : (hostAccess p s).on Fd.KEY_STAT_DRBGOK = true := by rw [(hostAccess_regsBut p s).on (by cases p <;> decide), hd]
  obtain ⟨key, v, hkv⟩ : ∃ key v, (key, v) = freshBytes (keyLen c.type / 4) (hostAccess p s) := ⟨_, _, rfl⟩
  have hv : v = { hostAccess p s with free := (hostAccess p s).free + keyLen c.type / 4 } := (congrArg Prod.snd hkv).trans (freshBytes_snd _ _)
  have hvr : RegsBut (hostRegs p) s v := by
    rw [hv]
    exact (hostAccess_regsBut p s).same rfl
  have hvi : GrtIdle v := h.idle.congr (by rw [hv])
  have hvw : Within [.regs, .grt, .free, .out] s v := by
    rw [hv]
    exact ((hostAccess_within p s).sub rfl).comp (Within.upd_free _ _) rfl
  have hgv : v.get (Fd.KEY_SLOT_GEN c.slot) ≠ 255 := by rw [hslot, hvr.get (slot_notMem (hostRegs_lt p) n).1]; exact hgen
  have hcheck : createCheck c (hostAccess p s) = 0 := createCheck_root (by rw [hslot, slotSt_hostAccess, h0]) (by rw [htype, huse, hu]) hcroot
  obtain ⟨d, hd⟩ := createKey_new (c := c) key hgv
  have hrun : keyRun (cmdOf p (hostAccess p s)) (hostAccess p s) = (0, d, keyPlace c.slot c.type c.usage c.parent c.root key v) := by
    rw [← hc, keyRun_of_open h.open (.inl (by rw [hslot]; exact h16)), if_pos hop1]
    dsimp only
    rw [hcheck, if_neg (by simp), if_neg (by omega), hdrbg, ← hkv]
    exact (if_neg (by simp)).trans hd
  rw [hslot, htype, hcroot, huse] at hrun
  have ht16 : type < 16 := by omega
  obtain ⟨k1, k2, k3, k4, k5, k6, k7, -, k9⟩ := keyReply_created (n := n) (type := type) (usage := s.regN Reg.KEY_CMDUSE) (parent := c.parent) (root := true)
    (key := key) (d := d) hvr hvi hgen ht16
  obtain ⟨-, -, -, -, -, -, -, hidle, -⟩ := keyPlace_spec (s := v) (n := n) (type := type) (usage := s.regN Reg.KEY_CMDUSE) (parent := c.parent) (root := true)
    (key := key) (by rw [← hslot]; exact hgv) ht16 hvi
  refine ⟨_, keyOwn_eq h hrun hidle, k1, k2, k3, k4, k5 rfl, ?_, k7, ?_, k9, ?_⟩
  · rw [k6, get_eq_regN]
    simp
  · refine keyReply_out p 0 d ?_
    rw [(keyPlace_within _ _ _ _ _ _ v).same .out (by simp), hv]
    exact hostAccess_out p s
  · exact keyReply_within (hvw.comp (keyPlace_within _ _ _ _ _ _ v) rfl) 0 d rfl rfl

/-- A key placed without a fresh one being drawn (R378, R379). -/
theorem keyPlaced_spec {op usage parent : Nat} {root : Bool} {key d : List Byte} (h : KeyReady p op s) (hgen : s.get (Fd.KEY_SLOT_GEN n) ≠ 255) (ht : type < 16)
    (hrun : keyRun (cmdOf p (hostAccess p s)) (hostAccess p s) = (0, d, keyPlace n type usage parent root key (hostAccess p s))) :
    Answers (.next (hostOwn p 2 (toIsland .grotto (keyGoOp p op)) s)) fun t =>
      KeyDone 0 t ∧ slotSt t n = 1 ∧ slotType t n = type ∧ keyOf t n = key ∧ s.get (Fd.KEY_SLOT_GEN n) + 1 = t.get (Fd.KEY_SLOT_GEN n) ∧
        RegsBut ([Reg.KEY_SLOT n, Reg.KEY_SLOTX n, Reg.DLM_ICNT 0, Reg.DLM_ICNT 1, Reg.DLM_ICNT 2] ++ keyRegs p) s t ∧ Within [.regs, .grt, .out] s t := by
  obtain ⟨k1, k2, k3, k4, -, -, -, k8, k9⟩ := keyReply_created (n := n) (type := type) (usage := usage) (parent := parent) (root := root) (key := key) (d := d)
    (hostAccess_regsBut p s) h.idle hgen ht
  obtain ⟨-, -, -, -, -, -, -, hidle, -⟩ := keyPlace_spec (s := hostAccess p s) (n := n) (type := type) (usage := usage) (parent := parent) (root := root)
    (key := key) (by rw [slotGen_hostAccess]; exact hgen) ht h.idle
  exact ⟨_, keyOwn_eq h hrun hidle, k1, k2, k3, k8, k4, k9,
    keyReply_within (((hostAccess_within p s).sub rfl).comp (keyPlace_within _ _ _ _ _ _ _) rfl) 0 d rfl rfl⟩

theorem type_lt {usage : Nat} (h : useOk type usage = true) : type < 16 := by
  simp only [useOk, Bool.and_eq_true, decide_eq_true_eq] at h
  omega

theorem keyWrite_new (h : KeyReady p 2 s) (hn : s.get Fd.KEY_CMD_SLOT = n) (h16 : 16 ≤ n) (ht : s.get Fd.KEY_CMD_TYPE = type)
    (hu : useOk type (s.regN Reg.KEY_CMDUSE) = true) (hroot : s.on Fd.KEY_CMD_PROOT = true) (h0 : slotSt s n = 0) (hgen : s.get (Fd.KEY_SLOT_GEN n) ≠ 255)
    (hclr : s.parB Par.CLEAR_EN = true) (h9 : (s.regN Reg.KEY_CMDUSE).testBit 9 = true) (h8 : (s.regN Reg.KEY_CMDUSE).testBit 8 = false) :
    Answers (execKeyWrite p s) fun t =>
      KeyDone 0 t ∧ slotSt t n = 1 ∧ slotType t n = type ∧ keyOf t n = (keyData s).take (keyLen type) ∧
        s.get (Fd.KEY_SLOT_GEN n) + 1 = t.get (Fd.KEY_SLOT_GEN n) ∧
        RegsBut ([Reg.KEY_SLOT n, Reg.KEY_SLOTX n, Reg.DLM_ICNT 0, Reg.DLM_ICNT 1, Reg.DLM_ICNT 2] ++ keyRegs p) s t ∧ Within [.regs, .grt, .out] s t := by
  obtain ⟨c, hc, hop, hslot, htype, -, hcroot, huse, hdata, -⟩ := cmdOf_hostAccess p s
  rw [hn] at hslot
  rw [ht] at htype
  rw [hroot] at hcroot
  have hop2 : c.op = 2 := hop.trans h.2.2.1
  have hpar : (hostAccess p s).parB Par.CLEAR_EN = true := by rw [parB, parN_hostAccess]; exact hclr
  have hcheck : createCheck c (hostAccess p s) = 0 := createCheck_root (by rw [hslot, slotSt_hostAccess, h0]) (by rw [htype, huse, hu]) hcroot
  obtain ⟨d, hd⟩ := createKey_new (c := c) (s := hostAccess p s) (c.data.take (keyLen c.type)) (by rw [hslot, slotGen_hostAccess]; exact hgen)
  have hrun : keyRun (cmdOf p (hostAccess p s)) (hostAccess p s) =
      (0, d, keyPlace c.slot c.type c.usage c.parent c.root (c.data.take (keyLen c.type)) (hostAccess p s)) := by
    rw [← hc, keyRun_of_open h.open (.inl (by rw [hslot]; exact h16)), if_neg (by omega), if_pos hop2]
    dsimp only
    rw [hcheck, hpar]
    exact (if_neg (by simp)).trans ((if_neg (by simp [huse, h9, h8])).trans hd)
  rw [hslot, htype, hdata] at hrun
  exact keyPlaced_spec h hgen (type_lt hu) hrun

/-- What a command leaves in the first word of KEY_DATA. -/
theorem keyReply_data (p : Path) (r : Nat) (d : List Byte) (u : State) : (keyReply p r d u).regN (Reg.KEY_DATA 0) = Bits.ofLeBytes (d.take 4) := by
  have hlt : Bits.ofLeBytes (d.take 4) < 2 ^ 32 :=
    calc
      _ < 256 ^ (d.take 4).length := ofLeBytes_lt _
      _ ≤ 256 ^ 4 := Nat.pow_le_pow_right (by decide) (List.length_take_le _ _)
  have hput : (keyDataPut d (u.put Fd.KEY_CMDSTAT_RESULT r)).regN (Reg.KEY_DATA 0) = Bits.ofLeBytes (d.take 4) := by
    refine upTo_once (P := fun t => t.regN (Reg.KEY_DATA 0) = Bits.ofLeBytes (d.take 4)) (Q := fun _ => True) (k := 32) (i := 0) (by decide)
      (fun _ _ _ _ => trivial) (fun t _ => ?_) (fun j hj t ht => ?_) trivial
    · exact (regN_setRegN_self t _ _).trans (Nat.mod_eq_of_lt hlt)
    · rw [regN_setRegN_other, ht]
      simp only [Reg.KEY_DATA]
      omega
  change ((keyShown r d u).lower Fd.KEY_STAT_BUSY).regN (Reg.KEY_DATA 0) = _
  have hn : Reg.KEY_DATA 0 ∉ [Reg.KEY_EVT, Reg.KEY_STAT] := by decide
  rw [← hput]
  refine RegsBut.regN (.lower ?_ (by simp)) hn
  rw [keyShown]
  exact .ite ((RegsBut.refl _ _).raise (by simp)) ((RegsBut.refl _ _).raise (by simp))

/-- IMPORT into an empty slot under a parent that allows it (R379): the parent's key opens the data, or the tag fails. -/
theorem keyRun_import (ho : KeyOpen s) {c : KeyCmd} (h16 : 16 ≤ c.slot) (hop : c.op = 3) (hcheck : createCheck c s = 0) (h8 : c.usage.testBit 8 = false)
    (hroot : c.root = false) {text : Option (List Byte)}
    (htext : Config.gcmOpen (keyOf s c.parent) (c.data.take 12) (Bits.leBytes 1 c.slot ++ Bits.leBytes 1 c.type)
      ((c.data.drop 12).take (keyLen c.type + 16)) = text) :
    keyRun c s = match (generalizing := false) text with
      | some key => createKey c (key.take (keyLen c.type)) s
      | none => (9, [], s) := by
  subst htext
  rw [keyRun_of_open ho (.inl h16), if_neg (by omega), if_neg (by omega), if_pos hop]
  dsimp only
  rw [hcheck, h8, hroot]
  rfl

theorem keyImport_new {text : Option (List Byte)} (h : KeyReady p 3 s) (hn : s.get Fd.KEY_CMD_SLOT = n) (h16 : 16 ≤ n) (ht : s.get Fd.KEY_CMD_TYPE = type)
    (hu : useOk type (s.regN Reg.KEY_CMDUSE) = true) (hroot : s.on Fd.KEY_CMD_PROOT = false) (ha : s.get Fd.KEY_CMD_PARENT = a) (h0 : slotSt s n = 0)
    (hgen : s.get (Fd.KEY_SLOT_GEN n) ≠ 255) (h8 : (s.regN Reg.KEY_CMDUSE).testBit 8 = false) (hus : usable s a = true) (h6 : slotUse s a 6 = true)
    (hdep : s.get (Fd.KEY_SLOT_DEPTH a) < 4)
    (htext : Config.gcmOpen (keyOf s a) ((keyData s).take 12) (Bits.leBytes 1 n ++ Bits.leBytes 1 type) (((keyData s).drop 12).take (keyLen type + 16)) = text) :
    Answers (execKeyImport p s) fun t =>
      KeyDone (if text.isSome then 0 else 9) t ∧ slotSt t n = (if text.isSome then 1 else 0) ∧
        RegsBut ([Reg.KEY_SLOT n, Reg.KEY_SLOTX n, Reg.DLM_ICNT 0, Reg.DLM_ICNT 1, Reg.DLM_ICNT 2] ++ keyRegs p) s t ∧ Within [.regs, .grt, .out] s t := by
  obtain ⟨c, hc, hop, hslot, htype, hpa, hcroot, huse, hdata, -⟩ := cmdOf_hostAccess p s
  rw [hn] at hslot
  rw [ht] at htype
  rw [hroot] at hcroot
  rw [ha] at hpa
  have hop3 : c.op = 3 := hop.trans h.2.2.1
  have hacc := hostAccess_regsBut p s
  have hcheck : createCheck c (hostAccess p s) = 0 := createCheck_child (by rw [hslot, slotSt_hostAccess, h0]) (by rw [htype, huse, hu]) hcroot
    (by rw [hpa, usable_congr hacc (hostRegs_lt p), hus]) (by rw [hpa, slotUse_congr hacc (hostRegs_lt p), h6])
    (by rw [hpa, hacc.get (slot_notMem (hostRegs_lt p) a).1]; exact hdep)
  have hkey : keyOf (hostAccess p s) a = keyOf s a := keyOf_congr (congrArg GrtState.keys hostAccess_grt) a
  have hrun := keyRun_import h.open (by rw [hslot]; exact h16) hop3 hcheck (by rw [huse]; exact h8) hcroot
    (by rw [hpa, hkey, hdata, hslot, htype, htext])
  cases text with
  | some key =>
    obtain ⟨d, hd⟩ := createKey_new (c := c) (s := hostAccess p s) (key.take (keyLen type)) (by rw [hslot, slotGen_hostAccess]; exact hgen)
    rw [hslot, htype] at hd
    dsimp only at hrun
    rw [htype, hd, hc] at hrun
    obtain ⟨t, e, k1, k2, -, -, -, k6, k7⟩ := keyPlaced_spec h hgen (type_lt hu) hrun
    exact ⟨t, e, k1, k2, k6, k7⟩
  | none =>
    rw [hc] at hrun
    obtain ⟨k1, k2, k3⟩ := keyReply_refused (r := 9) (by decide) p [] s
    refine ⟨_, keyOwn_eq h hrun h.idle, k1, ?_, k2.mono (List.subset_append_right _ _), k3.sub rfl⟩
    rw [slotSt, (keyReply_get p 9 [] _ n _ _).1]
    exact (slotSt_hostAccess p s n).trans h0

/-- A key command that is refused (R377). -/
theorem keyRefused_spec {op r : Nat} (h : KeyReady p op s) (hr : r < 256) (hrun : keyRun (cmdOf p (hostAccess p s)) (hostAccess p s) = (r, [], hostAccess p s)) :
    Answers (.next (hostOwn p 2 (toIsland .grotto (keyGoOp p op)) s)) fun t =>
      KeyDone r t ∧ (∀ m, slotSt t m = slotSt s m) ∧ RegsBut (keyRegs p) s t ∧ Within [.regs, .out] s t := by
  obtain ⟨k1, k2, k3⟩ := keyReply_refused hr p [] s
  refine ⟨_, keyOwn_eq h hrun h.idle, k1, fun m => ?_, k2, k3⟩
  rw [slotSt, (keyReply_get p r [] _ m _ _).1]
  exact slotSt_hostAccess p s m

theorem keyGenerate_occupied (h : KeyReady p 1 s) (hlow : 16 ≤ s.get Fd.KEY_CMD_SLOT ∨ pathLevel s p = 3)
    (ho : slotSt s (s.get Fd.KEY_CMD_SLOT) = 1 ∨ slotSt s (s.get Fd.KEY_CMD_SLOT) = 2) : Answers (execKeyGenerate p s) fun t =>
      KeyDone 6 t ∧ (∀ m, slotSt t m = slotSt s m) ∧ RegsBut (keyRegs p) s t ∧ Within [.regs, .out] s t := by
  obtain ⟨c, hc, hop, hslot, -, -, -, -, -, hlev⟩ := cmdOf_hostAccess p s
  have hop1 : c.op = 1 := hop.trans h.2.2.1
  have hcheck : createCheck c (hostAccess p s) = 6 := createCheck_occupied (by rw [hslot, slotSt_hostAccess]; exact ho)
  refine keyRefused_spec h (by decide) ?_
  rw [← hc, keyRun_of_open h.open (by omega), if_pos hop1]
  dsimp only
  rw [hcheck, if_pos (by simp)]

theorem keyGenerate_low (h : KeyReady p 1 s) (hlow : s.get Fd.KEY_CMD_SLOT < 16) (hl : pathLevel s p < 3) : Answers (execKeyGenerate p s) fun t =>
    KeyDone 1 t ∧ (∀ m, slotSt t m = slotSt s m) ∧ RegsBut (keyRegs p) s t ∧ Within [.regs, .out] s t := by
  obtain ⟨c, hc, hop, hslot, -, -, -, -, -, hlev⟩ := cmdOf_hostAccess p s
  have hop1 : c.op = 1 := hop.trans h.2.2.1
  refine keyRefused_spec h (by decide) ?_
  rw [← hc, keyRun_low h.open (by omega) (by omega) (by omega)]

theorem keyReadpub_empty (h : KeyReady p 6 s) (hn : s.get Fd.KEY_CMD_SLOT = n) (h0 : slotSt s n = 0) : Answers (execKeyReadpub p s) fun t =>
    KeyDone 13 t ∧ (∀ m, slotSt t m = slotSt s m) ∧ RegsBut (keyRegs p) s t ∧ Within [.regs, .out] s t := by
  obtain ⟨c, hc, hop, hslot, -, -, -, -, -, -⟩ := cmdOf_hostAccess p s
  have hop6 : c.op = 6 := hop.trans h.2.2.1
  refine keyRefused_spec h (by decide) ?_
  rw [← hc, keyRun_of_open h.open (.inr (.inr hop6)), if_neg (by omega), if_neg (by omega), if_neg (by omega), if_neg (by omega), if_pos hop6,
    if_pos (by rw [hslot, hn, slotSt_hostAccess, h0])]

theorem usable_valid (h : usable s n = true) : slotSt s n = 1 := by
  simp only [usable, usableN, Bool.and_eq_true, beq_iff_eq] at h
  exact h.2.1

theorem publicKey_hostAccess (p : Path) (s : State) (n : Nat) : publicKey (hostAccess p s) n = publicKey s n := by
  rw [publicKey, publicKey, slotType_congr (hostAccess_regsBut p s) (hostRegs_lt p), keyOf_congr (congrArg GrtState.keys hostAccess_grt)]

theorem keyReadpub_spec (h : KeyReady p 6 s) (hn : s.get Fd.KEY_CMD_SLOT = n) (hu : usable s n = true) (ht : 4 ≤ slotType s n) :
    Answers (execKeyReadpub p s) fun t =>
      KeyDone 0 t ∧ t.regN (Reg.KEY_DATA 0) = Bits.ofLeBytes ((publicKey s n).take 4) ∧ slotSt t n = slotSt s n ∧ RegsBut (keyRegs p) s t ∧
        Within [.regs, .out] s t := by
  obtain ⟨c, hc, hop, hslot, -, -, -, -, -, -⟩ := cmdOf_hostAccess p s
  rw [hn] at hslot
  have hop6 : c.op = 6 := hop.trans h.2.2.1
  have hst : slotSt (hostAccess p s) n = 1 := by rw [slotSt_hostAccess, usable_valid hu]
  have hacc := hostAccess_regsBut p s
  have hrun : keyRun (cmdOf p (hostAccess p s)) (hostAccess p s) = (0, publicKey s n, hostAccess p s) := by
    rw [← hc, keyRun_of_open h.open (.inr (.inr hop6)), if_neg (by omega), if_neg (by omega), if_neg (by omega), if_neg (by omega), if_pos hop6, hslot,
      if_neg (by omega), if_neg (by omega), usable_congr hacc (hostRegs_lt p), hu, slotType_congr hacc (hostRegs_lt p), publicKey_hostAccess]
    exact (if_neg (by simp)).trans (if_neg (by omega))
  refine ⟨_, keyOwn_eq h hrun h.idle, keyReply_done (by decide) _ _ _, ?_, ?_, ?_, ?_⟩
  · exact keyReply_data p 0 _ _
  · rw [slotSt, (keyReply_get p 0 _ _ n _ _).1]
    exact slotSt_hostAccess p s n
  · exact regs_sub_append_hostRegs hacc (keyReply_regsBut p 0 _ _)
  · exact keyReply_within ((hostAccess_within p s).sub rfl) 0 _ rfl rfl

theorem oneSlot_sub (hn : n < 256) : oneSlot n ⊆ slotRegs := by
  simp only [oneSlot, slotRegs, List.cons_subset, List.nil_subset, and_true, List.mem_append, List.mem_map, List.mem_range]
  exact ⟨.inl ⟨n, hn, rfl⟩, .inr ⟨n, hn, rfl⟩⟩

/-- The slots after one of them has been emptied and its descendants orphaned (R381). -/
theorem slotEmptied_spec {gen : Nat} (hgen : gen < 256) (hn : n < 256) (s : State) :
    let t := levelsCheck (slotClear n gen (orphanAll n s))
    slotSt t n = 0 ∧ keyOf t n = [] ∧ t.get (Fd.KEY_SLOT_GEN n) = gen ∧
      (∀ m < 256, m ≠ n → slotSt t m = if slotSt s m = 1 ∧ descendsN 4 s n m then 2 else slotSt s m) ∧
      RegsBut (slotRegs ++ [Reg.KEY_STAT, Reg.HIF_EVT, Reg.HIF_STAT]) s t := by
  obtain ⟨o1, -, o3⟩ := orphanAll_spec n s
  obtain ⟨c1, c2, c3, c4⟩ := slotClear_spec hgen n (orphanAll n s)
  have hl := levelsCheck_regsBut (slotClear n gen (orphanAll n s))
  have hgrt := (levelsCheck_within (slotClear n gen (orphanAll n s))).same .grt (by simp)
  have hother := fun m hm hne => slotClear_other (n := n) (m := m) hgen hm hne 16 2 (orphanAll n s)
  have hlow : ∀ a ∈ [Reg.HIF_EVT, Reg.HIF_STAT], a < 0x180000 := by decide
  generalize slotClear n gen (orphanAll n s) = u at *
  refine ⟨?_, ?_, ?_, fun m hm hne => ?_, ?_⟩
  · rw [slotSt, hl.get (slot_notMem hlow n).1]
    exact c1
  · rw [keyOf_congr (congrArg GrtState.keys hgrt), c3]
  · rw [hl.get (slot_notMem hlow n).1, c2]
  · rw [slotSt, hl.get (slot_notMem hlow m).1]
    exact (hother m hm hne).trans (o1 m hm)
  · refine (o3.mono ?_).trans ((c4.mono ?_).trans (hl.mono ?_))
    · exact List.append_subset.2 ⟨List.subset_append_of_subset_left _ (List.subset_append_left _ _), List.subset_append_of_subset_right _ (by simp)⟩
    · exact List.append_subset.2 ⟨List.subset_append_of_subset_left _ (oneSlot_sub hn), List.subset_append_of_subset_right _ (by simp)⟩
    · exact List.subset_append_of_subset_right _ (by simp)

theorem levelsCheck_idle {s : State} (h : GrtIdle s) : GrtIdle (levelsCheck s) := h.congr ((levelsCheck_within s).same .grt (by simp))

theorem waybillHeld_of_none {op a : Nat} {s : State} (h : s.get Fd.BIL_WBUNS_WAITING = 0) : waybillHeld op a s = false := by simp [waybillHeld, h]

/-- INVALIDATE and DESTROY with no Waybill unsigned (R381). -/
theorem keyEmptied_spec {op gen : Nat} (h : KeyReady p op s) (hn : n < 256) (hgen : gen < 256)
    (hrun : keyRun (cmdOf p (hostAccess p s)) (hostAccess p s) = (0, [], levelsCheck (slotClear n gen (orphanAll n (hostAccess p s))))) :
    Answers (.next (hostOwn p 2 (toIsland .grotto (keyGoOp p op)) s)) fun t =>
      KeyDone 0 t ∧ slotSt t n = 0 ∧ keyOf t n = [] ∧ t.get (Fd.KEY_SLOT_GEN n) = gen ∧
        (List.range 256).all (fun m => m == n || slotSt t m == (if slotSt s m = 1 ∧ descendsN 4 s n m then 2 else slotSt s m)) = true ∧
        RegsBut (slotRegs ++ Reg.HIF_EVT :: keyRegs p) s t := by
  obtain ⟨e1, e2, e3, e4, e5⟩ := slotEmptied_spec hgen hn (hostAccess p s)
  have hacc := hostAccess_regsBut p s
  have hidle : GrtIdle (levelsCheck (slotClear n gen (orphanAll n (hostAccess p s)))) :=
    levelsCheck_idle (slotClear_idle _ _ (h.idle.congr (orphanAll_grt _ _)))
  have e := keyOwn_eq h hrun hidle
  generalize levelsCheck (slotClear n gen (orphanAll n (hostAccess p s))) = u at *
  have hget := fun m lo w => (keyReply_get p 0 [] u m lo w).1
  refine ⟨_, e, keyReply_done (by decide) _ _ _, (hget _ _ _).trans e1, (keyReply_keyOf _ _ _ _ _).trans e2, (hget _ _ _).trans e3, ?_, ?_⟩
  · rw [List.all_eq_true]
    intro m hm
    rw [Bool.or_eq_true, beq_iff_eq, beq_iff_eq, Decidable.or_iff_not_imp_left]
    intro hne
    rw [slotSt, hget, ← slotSt, e4 m (List.mem_range.1 hm) hne, slotSt_hostAccess, descendsN_congr hacc (hostRegs_lt p)]
  · refine (hacc.mono ?_).trans ((e5.mono ?_).trans ((keyReply_regsBut p 0 [] u).mono ?_))
    · exact fun a ha => by simp [keyRegs_eq, ha]
    · refine List.append_subset.2 ⟨List.subset_append_left _ _, ?_⟩
      refine List.Subset.trans ?_ (List.subset_append_right _ _)
      cases p <;> decide
    · exact fun a ha => by simp [keyRegs_eq, ha]

theorem keyInvalidate_spec (h : KeyReady p 4 s) (hn : s.get Fd.KEY_CMD_SLOT = n) (h16 : 16 ≤ n) (h1 : slotSt s n = 1)
    (hgen : s.get (Fd.KEY_SLOT_GEN n) ≠ 255) (h6 : slotUse s n 6 = false) (hw : s.get Fd.BIL_WBUNS_WAITING = 0) :
    Answers (execKeyInvalidate p s) fun t =>
      KeyDone 0 t ∧ slotSt t n = 0 ∧ keyOf t n = [] ∧ t.get (Fd.KEY_SLOT_GEN n) = s.get (Fd.KEY_SLOT_GEN n) + 1 ∧
        (List.range 256).all (fun m => m == n || slotSt t m == (if slotSt s m = 1 ∧ descendsN 4 s n m then 2 else slotSt s m)) = true ∧
        RegsBut (slotRegs ++ Reg.HIF_EVT :: keyRegs p) s t := by
  obtain ⟨c, hc, hop, hslot, -, -, -, -, -, -⟩ := cmdOf_hostAccess p s
  rw [hn] at hslot
  have hop4 : c.op = 4 := hop.trans h.2.2.1
  have hn256 : n < 256 := hn ▸ get_lt (s := s) Fd.KEY_CMD_SLOT
  have hlt : s.get (Fd.KEY_SLOT_GEN n) < 256 := get_lt (s := s) (Fd.KEY_SLOT_GEN n)
  have hacc := hostAccess_regsBut p s
  have hst : slotSt (hostAccess p s) n = 1 := by rw [slotSt_hostAccess, h1]
  have hheld : waybillHeld 4 n (hostAccess p s) = false := waybillHeld_of_none (by rw [hacc.get (by cases p <;> decide), hw])
  have huse : slotUse (hostAccess p s) n 6 = false := by rw [slotUse_congr hacc (hostRegs_lt p), h6]
  refine keyEmptied_spec h hn256 (by omega) ?_
  rw [← hc, keyRun_of_open h.open (.inl (by rw [hslot]; exact h16)), if_neg (by omega), if_neg (by omega), if_neg (by omega), if_pos (.inl hop4), hslot, hop4, hst,
    hheld, if_neg (by omega), if_neg (by omega), if_neg (by omega), if_neg (by simp), if_pos rfl, invalidate, huse, slotGen_hostAccess]
  dsimp only
  rw [if_neg hgen, if_neg (by simp)]

theorem keyDestroy_spec (h : KeyReady p 5 s) (hn : s.get Fd.KEY_CMD_SLOT = n) (h16 : 16 ≤ n) (h1 : slotSt s n = 1) (hw : s.get Fd.BIL_WBUNS_WAITING = 0) :
    Answers (execKeyDestroy p s) fun t =>
      KeyDone 0 t ∧ slotSt t n = 0 ∧ keyOf t n = [] ∧ t.get (Fd.KEY_SLOT_GEN n) = s.get (Fd.KEY_SLOT_GEN n) ∧
        (List.range 256).all (fun m => m == n || slotSt t m == (if slotSt s m = 1 ∧ descendsN 4 s n m then 2 else slotSt s m)) = true ∧
        RegsBut (slotRegs ++ Reg.HIF_EVT :: keyRegs p) s t := by
  obtain ⟨c, hc, hop, hslot, -, -, -, -, -, -⟩ := cmdOf_hostAccess p s
  rw [hn] at hslot
  have hop5 : c.op = 5 := hop.trans h.2.2.1
  have hn256 : n < 256 := hn ▸ get_lt (s := s) Fd.KEY_CMD_SLOT
  have hst : slotSt (hostAccess p s) n = 1 := by rw [slotSt_hostAccess, h1]
  have hheld : waybillHeld 5 n (hostAccess p s) = false :=
    waybillHeld_of_none (by rw [(hostAccess_regsBut p s).get (by cases p <;> decide), hw])
  refine keyEmptied_spec h hn256 (get_lt (s := s) (Fd.KEY_SLOT_GEN n)) ?_
  rw [← hc, keyRun_of_open h.open (.inl (by rw [hslot]; exact h16)), if_neg (by omega), if_neg (by omega), if_neg (by omega), if_pos (.inr hop5), hslot, hop5, hst,
    hheld, if_neg (by omega), if_neg (by omega), if_neg (by omega), if_neg (by simp), if_neg (by omega), slotGen_hostAccess]

theorem keyOf_setKey_other {k : Nat} (h : n ≠ k) (s : State) : keyOf (setKey k none s) n = keyOf s n := by
  change (((s.grt.keys.filter (fun e => e.1 != k)).find? (fun e => e.1 == n)).map (·.2)).getD [] = _
  rw [List.find?_filter, keyOf]
  congr 3
  funext e
  by_cases he : e.1 = n
  · simp [he, h]
  · simp [he]

theorem keyOf_slotClear_other {k gen : Nat} (h : n ≠ k) (s : State) : keyOf (slotClear k gen s) n = keyOf s n := by
  obtain ⟨u, hu⟩ : ∃ u, u = (s.setRegN (Reg.KEY_SLOT k) (gen * 2 ^ 24)).setRegN (Reg.KEY_SLOTX k) 0 := ⟨_, rfl⟩
  rw [slotClear, ← hu, keyOf_congr (congrArg GrtState.keys (usedShow_grt _)), keyOf_setKey_other h]
  exact keyOf_congr (by rw [hu, setRegN_grt, setRegN_grt]) n

/-- The slots of a list emptied, their generations kept (R381). -/
theorem slotsCleared_spec (g : Nat → Nat) (hg : ∀ m, g m < 256) (l : List Nat) (hl : ∀ m ∈ l, m < 256) (s : State) :
    let t := l.foldl (fun t n => slotClear n (g n) t) s
    (∀ m < 256, slotSt t m = (if m ∈ l then 0 else slotSt s m) ∧ t.get (Fd.KEY_SLOT_GEN m) = (if m ∈ l then g m else s.get (Fd.KEY_SLOT_GEN m)) ∧
      keyOf t m = if m ∈ l then [] else keyOf s m) ∧ RegsBut (slotRegs ++ [Reg.KEY_STAT]) s t := by
  induction l generalizing s with
  | nil => exact ⟨fun _ _ => ⟨rfl, rfl, rfl⟩, .refl _ _⟩
  | cons k ks ih =>
    have hk : k < 256 := hl k (by simp)
    obtain ⟨c1, c2, c3, c4⟩ := slotClear_spec (hg k) k s
    obtain ⟨i1, i2⟩ := ih (fun m hm => hl m (by simp [hm])) (slotClear k (g k) s)
    refine ⟨fun m hm => ?_, RegsBut.trans (c4.mono ?_) i2⟩
    · obtain ⟨j1, j2, j3⟩ := i1 m hm
      simp only [List.foldl_cons]
      rw [j1, j2, j3]
      by_cases hmk : m = k
      · subst hmk
        rw [c1, c2, c3]
        simp
      · rw [slotSt, slotClear_other (hg k) hm hmk, slotClear_other (hg k) hm hmk, keyOf_slotClear_other hmk]
        simp [hmk, slotSt]
    · exact List.append_subset.2 ⟨List.subset_append_of_subset_left _ (oneSlot_sub hk), List.subset_append_right _ _⟩

theorem orphanZero_spec (hh : s.held .grotto = false) (hn : n < 256) (h2 : slotSt s n = 2) : Answers (execOrphanZero s) fun t =>
    (List.range 256).all (fun m => slotSt t m == (if slotSt s m = 2 then 0 else slotSt s m)) = true ∧ keyOf t n = [] ∧
      t.get (Fd.KEY_SLOT_GEN n) = s.get (Fd.KEY_SLOT_GEN n) ∧ t.on Fd.KEY_EVT_ORPHAN = true ∧
      RegsBut (slotRegs ++ [Reg.KEY_STAT, Reg.KEY_EVT]) s t := by
  obtain ⟨l, hl⟩ : ∃ l, l = (List.range 256).filter (fun n => slotSt s n == 2) := ⟨_, rfl⟩
  have hmem (m : Nat) : m ∈ l ↔ m < 256 ∧ slotSt s m = 2 := by rw [hl, List.mem_filter, List.mem_range, beq_iff_eq]
  have hnl : n ∈ l := (hmem n).2 ⟨hn, h2⟩
  obtain ⟨k1, k2⟩ := slotsCleared_spec (fun m => s.get (Fd.KEY_SLOT_GEN m)) (fun m => get_lt (s := s) (Fd.KEY_SLOT_GEN m)) l (fun m hm => ((hmem m).1 hm).1) s
  have e : orphanZero s = (l.foldl (fun t n => slotClear n (s.get (Fd.KEY_SLOT_GEN n)) t) s).raise Fd.KEY_EVT_ORPHAN := by
    rw [orphanZero, ← hl]
    exact if_neg (List.ne_nil_of_mem hnl)
  refine ⟨_, (awake_of_not_held hh).trans (congrArg _ e), ?_⟩
  generalize l.foldl (fun t n => slotClear n (s.get (Fd.KEY_SLOT_GEN n)) t) s = u at *
  have hr : RegsBut [Reg.KEY_EVT] u (u.raise Fd.KEY_EVT_ORPHAN) := (RegsBut.refl _ u).raise (by simp)
  have hlow : ∀ a ∈ [Reg.KEY_EVT], a < 0x180400 := by decide
  have hslot (m lo w : Nat) : (u.raise Fd.KEY_EVT_ORPHAN).get ⟨Reg.KEY_SLOT m, lo, w⟩ = u.get ⟨Reg.KEY_SLOT m, lo, w⟩ :=
    hr.get (fun h => absurd (hlow _ h) (by simp only [Reg.KEY_SLOT]; omega))
  refine ⟨?_, ?_, ?_, by simp [on, raise], (k2.mono ?_).trans (hr.mono ?_)⟩
  · rw [List.all_eq_true]
    intro m hm
    have hm := List.mem_range.1 hm
    rw [beq_iff_eq, slotSt, hslot]
    refine ((k1 m hm).1).trans ?_
    simp [hmem, hm]
  · refine (keyOf_congr rfl n).trans ((k1 n hn).2.2.trans (if_pos hnl))
  · rw [hslot, (k1 n hn).2.1, if_pos hnl]
  · exact fun a ha => by simp at ha ⊢; grind
  · exact fun a ha => by simp at ha ⊢; grind

theorem keyDataExpiry_spec {w : Nat} (hh : s.held .grotto = false) (hw : w < 32) : Answers (execKeyDataExpiry s) fun t =>
    t.reg (Reg.KEY_DATA w) = 0 ∧ RegsBut ((List.range 32).map (fun w => Reg.KEY_DATA w)) s t := by
  refine ⟨_, awake_of_not_held hh, ?_, keyDataPut_regsBut [] s⟩
  refine upTo_once (P := fun t => t.reg (Reg.KEY_DATA w) = 0) (Q := fun _ => True) hw (fun _ _ _ _ => trivial) (fun t _ => ?_) (fun j hj t ht => ?_) trivial
  · rw [List.drop_nil, List.take_nil, setRegN, reg_setReg_self]
    rfl
  · rw [setRegN, reg_setReg_of_ne _ _ (by simp only [Reg.KEY_DATA]; omega), ht]

end Clauses

/-- Settles O34: each command of KEY_CTL is taken from the registers as the host's access leaves them, and with nothing else queued it runs at once; what it
runs to is the branch of its operation. -/
theorem keyCommands : Obligations.KeyCommands := by
  refine ⟨fun s p n type h hn h16 ht h5 hu hr hd h0 hg => ?_, fun s p h hl ho => ?_, fun s p h hl hv => ?_, fun s p n type h hn h16 ht hu hr h0 hg hc h9 h8 => ?_,
    fun s p n type a text h hn h16 ht hu hr ha h0 hg h8 hus h6 hd htext => ?_, fun s p n h hn h16 h1 hg h6 hw => ?_, fun s p n h hn h16 h1 hw => ?_,
    fun s p n h hn hu ht => ?_, fun s p n h hn h0 => ?_, fun s n hh hn h2 => ?_, fun s w hh hw => ?_⟩
  · exact keyGenerate_new h hn h16 ht h5 hu hr hd h0 hg
  · obtain ⟨t, e, k1, k2, k3, k4⟩ := keyGenerate_occupied h hl ho
    exact ⟨t, e, k1, k2 _, k3, k4⟩
  · obtain ⟨t, e, k1, -, k3, k4⟩ := keyGenerate_low h hl hv
    exact ⟨t, e, k1, k3, k4⟩
  · exact keyWrite_new h hn h16 ht hu hr h0 hg hc h9 h8
  · exact keyImport_new h hn h16 ht hu hr ha h0 hg h8 hus h6 hd htext
  · obtain ⟨t, e, k1, k2, k3, k4, k5, k6⟩ := keyInvalidate_spec h hn h16 h1 hg h6 hw
    exact Answers.mk e (execKeyInvalidate_answers p s) fun hw => ⟨k1, k2, k3, k4, k5, k6, hw⟩
  · obtain ⟨t, e, k1, k2, k3, k4, k5, k6⟩ := keyDestroy_spec h hn h16 h1 hw
    exact Answers.mk e (execKeyDestroy_answers p s) fun hw => ⟨k1, k2, k3, k4, k5, k6, hw⟩
  · exact keyReadpub_spec h hn hu ht
  · obtain ⟨t, e, k1, -, k3, k4⟩ := keyReadpub_empty h hn h0
    exact ⟨t, e, k1, k3, k4⟩
  · obtain ⟨t, e, k1, k2, k3, k4, k5⟩ := orphanZero_spec hh hn h2
    exact Answers.mk e (execOrphanZero_answers s) fun hw => ⟨k1, k2, k3, k4, k5, hw⟩
  · obtain ⟨t, e, k1, k2⟩ := keyDataExpiry_spec hh hw
    exact Answers.mk e (execKeyDataExpiry_answers s) fun hw => ⟨k1, k2, hw⟩

end Sys2Proof.Machine
end

section
/-!
Requests to the crypto engine (spec/11_grotto_keys.md R382 to R386).
-/
namespace Sys2Proof.Machine

open State

section Engine

variable {s : State} {r : CryptoReq} {e : CryptoEntry} {k : Nat} {d : List Byte}

/-- The state after the only request, with no command waiting for it, has been answered. -/
def cryptoAnswered (id k : Nat) (d : List Byte) (s : State) : State := setGrt { s.grt with reqs := [] } (s.emit (.crypto id k d))

theorem cryptoFinish_only (hc : s.grt.cmds = []) (hr : s.grt.reqs = [e]) (ha : e.after = false) (k : Nat) (d : List Byte) :
    cryptoFinish e k d s = cryptoAnswered e.req.id k d s := by
  have h : onFirst e.req.cls (fun _ => []) s.grt.reqs = [] := by
    rw [hr, onFirst, if_pos ⟨rfl, by rw [ha]; rfl⟩]
    rfl
  rw [cryptoFinish, h]
  exact if_pos hc

theorem find_only {l : List CryptoEntry} (h : l = [e]) (ha : e.after = false) : l.find? (fun x => x.req.cls == e.req.cls && !x.after) = some e := by
  rw [h, List.find?_cons_of_pos]
  simp [ha]

/-- The only request, one that needs no Token, is answered with what it runs to (R384). -/
theorem cryptoDone_only (hh : s.held .grotto = false) (hc : s.grt.cmds = []) (hr : s.grt.reqs = [⟨r, false, false⟩]) (hn : needsToken s r = false)
    (hrun : cryptoRun r s = (k, d, s)) : execCryptoOperationDone r.cls s = .next (cryptoAnswered r.id k d s) := by
  rw [execCryptoOperationDone, awake_of_not_held hh, cryptoDone, find_only (e := ⟨r, false, false⟩) hr rfl]
  dsimp only
  rw [hn, hrun]
  exact congrArg _ (cryptoFinish_only hc hr rfl k d)

theorem cryptoAnswered_spec (id k : Nat) (d : List Byte) (s : State) :
    (cryptoAnswered id k d s).out = .crypto id k d :: s.out ∧ (cryptoAnswered id k d s).grt = { s.grt with reqs := [] } ∧
      RegsBut [] s (cryptoAnswered id k d s) ∧ Within [.grt, .out] s (cryptoAnswered id k d s) :=
  ⟨rfl, rfl, (RegsBut.refl _ s).same rfl, ((Within.refl _ s).emit rfl).comp (Within.upd_grt _ _) rfl⟩

theorem needsToken_of_ne (h : r.op ≠ .sign) (s : State) : needsToken s r = false := by simp [needsToken, h]

theorem cryptoRun_usable {b : Nat} (hop : opNeeds r.op = some b) (hu : usable s r.slot = true) (hb : slotUse s r.slot b = true) :
    cryptoRun r s = match r.op with
      | .sign => if s.pfw then (10, [], s) else (0, Config.crypto (if slotType s r.slot = 5 then 1 else 0) (keyOf s r.slot) r.data, s)
      | .verify sig => if Config.verifies (keyOf s r.slot) r.data sig then (0, [], s) else (9, [], s)
      | .ecdh => (0, Config.crypto 2 (keyOf s r.slot) r.data, s)
      | .hash wide => (0, Config.crypto (if wide then 4 else 3) [] r.data, s)
      | .hmac => (0, Config.crypto 5 (keyOf s r.slot) r.data, s)
      | .hkdf => (0, Config.crypto 6 (keyOf s r.slot) r.data, s)
      | .encrypt => (0, Config.crypto 7 (keyOf s r.slot) r.data, s)
      | .decrypt =>
        match Config.gcmOpen (keyOf s r.slot) (r.data.take 12) [] (r.data.drop 12) with
        | some d => (0, d, s)
        | none => (9, [], s)
      | .random => if s.on Fd.KEY_STAT_DRBGOK then (0, (freshBytes 8 s).1, (freshBytes 8 s).2) else (s.fresh.1.toNat % 256, [], s.fresh.2) := by
  have hst := usable_valid hu
  have hopen : s.on Fd.KEY_STAT_READY = true ∧ s.on Fd.KEY_STAT_ROOTFAIL = false := by
    simp only [usable, Bool.and_eq_true, Bool.not_eq_true'] at hu
    exact hu.1
  rw [cryptoRun, hop]
  exact if_neg (by simp [hopen, hst, hu, hb])

theorem cryptoRun_empty {b : Nat} (hop : opNeeds r.op = some b) (hr : s.on Fd.KEY_STAT_READY = true) (hf : s.on Fd.KEY_STAT_ROOTFAIL = false)
    (h0 : slotSt s r.slot = 0) : cryptoRun r s = (13, [], s) := by
  rw [cryptoRun, hop, hr, hf, h0]
  rfl

/-- A signature that has been refused its Token is answered with result 15 (R385). -/
theorem cryptoDone_refused (hh : s.held .grotto = false) (hc : s.grt.cmds = []) (hr : s.grt.reqs = [⟨r, false, true⟩]) (hn : needsToken s r = true)
    (hhold : tokHolds s 6 r.id = false) (hwait : tokWaits s 6 r.id = false) :
    execCryptoOperationDone r.cls s = .next (cryptoAnswered r.id 15 [] (s.raise Fd.KEY_EVT_TOKEN)) := by
  rw [execCryptoOperationDone, awake_of_not_held hh, cryptoDone, find_only (e := ⟨r, false, true⟩) hr rfl]
  dsimp only
  rw [hn, hhold, hwait]
  have hg : (s.raise Fd.KEY_EVT_TOKEN).grt = s.grt := raise_grt _ _
  exact congrArg _ (cryptoFinish_only (by rw [hg, hc]) (by rw [hg, hr]) rfl 15 [])

end Engine

/-- The health tests of the random number generator have failed (R386). -/
theorem drbgFailed_spec {s : State} (hh : s.held .grotto = false) (hok : s.on Fd.KEY_STAT_DRBGOK = true) : Answers (execDrbgReseed false s) fun t =>
    t.on Fd.KEY_STAT_DRBGOK = false ∧ t.on Fd.KEY_EVT_RNGFAIL = true ∧ RegsBut [Reg.KEY_STAT, Reg.KEY_EVT, Reg.SYS_FLT, Reg.SYS_FLTLAST] s t ∧
      Within [.regs, .logs, .free] s t := by
  obtain ⟨u, hu⟩ : ∃ u, u = (s.lower Fd.KEY_STAT_DRBGOK).raise Fd.KEY_EVT_RNGFAIL := ⟨_, rfl⟩
  have e : execDrbgReseed false s = .next (faultOther 2 .grotto u) := by
    rw [execDrbgReseed, awake_of_not_held hh, hok, hu]
    rfl
  have hok' : u.on Fd.KEY_STAT_DRBGOK = false := by rw [hu]; simp [on, lower, raise]
  have hev : u.on Fd.KEY_EVT_RNGFAIL = true := by rw [hu]; simp [on, raise]
  have hur : RegsBut [Reg.KEY_STAT, Reg.KEY_EVT] s u := by
    rw [hu]
    exact ((RegsBut.refl _ s).lower (by simp)).raise (by simp)
  have hf : RegsBut [Reg.SYS_FLT, Reg.SYS_FLTLAST] u (faultOther 2 .grotto u) :=
    RegsBut.trans ((RegsBut.refl _ u).same (t := u.fresh.2) rfl) ((faultNote_regsBut _ _ _ _).mono (by simp))
  refine Answers.mk e (execDrbgReseed_answers false s) fun hw => ⟨?_, ?_, (hur.mono (by simp)).trans (hf.mono (by simp)), hw⟩
  · rw [hf.on (by decide), hok']
  · rw [hf.on (by decide), hev]

/-- Settles O35: the only request of its class, with no command waiting, is answered with the result of its run, and leaves the queue. -/
theorem cryptoRequests : Obligations.CryptoRequests := by
  refine ⟨fun s r hh hc => ?_, fun s r hh hc hr hop => ?_, fun s r hh hc hr hop hu hb => ?_, fun s r sig hh hc hr hop hu hb => ?_,
    fun s r hh hc hr hop hready hf h0 => ?_, fun s r hh hc hr hop hu ht hp hhold hwait => ?_, fun s hh hok => drbgFailed_spec hh hok, fun s hh => ?_⟩
  · refine ⟨_, awake_of_not_held hh, ?_, (RegsBut.refl _ s).same rfl, Within.upd_grt _ _⟩
    rw [cryptoTake, hc]
    rfl
  · have hrun : cryptoRun r s = (0, Config.crypto 3 [] r.data, s) := by
      rw [cryptoRun, hop]
      rfl
    obtain ⟨k1, k2, k3, k4⟩ := cryptoAnswered_spec r.id 0 (Config.crypto 3 [] r.data) s
    exact ⟨_, cryptoDone_only hh hc hr (needsToken_of_ne (by simp [hop]) s) hrun, k1, k2, k3, k4⟩
  · have hrun : cryptoRun r s = (0, Config.crypto 5 (keyOf s r.slot) r.data, s) := by
      rw [cryptoRun_usable (by rw [hop]; rfl) hu hb, hop]
    obtain ⟨k1, k2, k3, k4⟩ := cryptoAnswered_spec r.id 0 (Config.crypto 5 (keyOf s r.slot) r.data) s
    exact ⟨_, cryptoDone_only hh hc hr (needsToken_of_ne (by simp [hop]) s) hrun, k1, k2, k3, k4⟩
  · have hrun : cryptoRun r s = (if Config.verifies (keyOf s r.slot) r.data sig then 0 else 9, [], s) := by
      rw [cryptoRun_usable (by rw [hop]; rfl) hu hb, hop]
      dsimp only
      split <;> rfl
    obtain ⟨k1, -, k3, k4⟩ := cryptoAnswered_spec r.id (if Config.verifies (keyOf s r.slot) r.data sig then 0 else 9) [] s
    exact ⟨_, cryptoDone_only hh hc hr (needsToken_of_ne (by simp [hop]) s) hrun, k1, k3, k4⟩
  · obtain ⟨k1, -, k3, k4⟩ := cryptoAnswered_spec r.id 13 [] s
    exact ⟨_, cryptoDone_only hh hc hr (needsToken_of_ne (by simp [hop]) s) (cryptoRun_empty (by rw [hop]; rfl) hready hf h0), k1, k3, k4⟩
  · obtain ⟨k1, -, k3, k4⟩ := cryptoAnswered_spec r.id 15 [] (s.raise Fd.KEY_EVT_TOKEN)
    refine ⟨_, cryptoDone_refused hh hc hr (by simp [needsToken, hop, hu, ht, hp]) hhold hwait, k1, ?_, ?_, ?_⟩
    · rw [k3.on (by simp)]
      simp [on, raise]
    · exact ((RegsBut.refl _ s).raise (by simp)).trans (k3.mono (by simp))
    · exact ((Within.refl _ s).raise rfl).comp k4 rfl
  · refine ⟨_, awake_of_not_held hh, ?_⟩
    simp

end Sys2Proof.Machine
end

section
/-!
Frames of the site Ethernet and the CAN FD controllers (spec/12_site_ethernet_time.md R394 to R403, R408 to R410, R420).
-/
namespace Sys2Proof.Machine

open State

section Congruence

variable {s t : State} {l : List Nat}

theorem portUp_congr (h : RegsBut l s t) (h1 : Reg.ETH_STAT ∉ l) (h2 : Reg.ETH_CTL ∉ l) (hp : t.params = s.params) (p : Nat) : portUp t p = portUp s p := by
  rw [portUp, portUp, h.bitOf h1, h.bitOf h2, parN_congr hp]

theorem queue_congr (h : t.q = s.q) (n : Nat) : queue t n = queue s n := by rw [queue, queue, h]

theorem get_bump_same (s : State) {f : RegField} (n : Nat) (h : f.lo + f.width ≤ 32) : (s.bump f n).get f = min (s.get f + n) (2 ^ f.width - 1) := by
  have h1 : 1 ≤ 2 ^ f.width := Nat.one_le_two_pow
  rw [bump, get_put_same _ _ _ h, Bits.satAdd]
  exact Nat.mod_eq_of_lt (by omega)

end Congruence

section Advanced

variable (dt : Nat) (s : State)

theorem stAdvance_q : (stAdvance dt s).q = s.q := (stAdvance_within dt s).same .q (by simp)

theorem stAdvance_params : (stAdvance dt s).params = s.params := (stAdvance_within dt s).same .params (by simp)

theorem stAdvance_pfw : (stAdvance dt s).pfw = s.pfw := pfw_congr (stAdvance_regsBut dt s) (by decide) ((stAdvance_within dt s).same .pow (by simp))

theorem stAdvance_portUp (p : Nat) : portUp (stAdvance dt s) p = portUp s p :=
  portUp_congr (stAdvance_regsBut dt s) (by decide) (by decide) (stAdvance_params dt s) p

theorem stAdvance_prpSeq : (stAdvance dt s).eth.prpSeq = s.eth.prpSeq := by
  rcases stAdvance_cases dt s with e | ⟨a, v, e⟩
  · rw [e]
    rfl
  · rw [e]
    rfl

/-- Without a slew under way the site time only moves on (R415). -/
theorem stAdvance_plain (h : s.on Fd.PTP_STAT_SLEW = false) : stAdvance dt s = stShow (stPassed dt s) := by
  have hs : (stPassed dt s).on Fd.PTP_STAT_SLEW = false := h
  exact if_neg (ne_true_of_eq_false hs)

end Advanced

section Send

variable {s t : State} {f : Frame} {p n : Nat}

theorem ethEmit_spec (hts : f.tsIns = none) (hrq : f.tsReq = false) (p : Nat) (s : State) :
    (ethEmit p f s).out = .eth p f.bytes none :: s.out ∧ (ethEmit p f s).regN (Reg.ETH_PCNT (8 * p)) = min (s.regN (Reg.ETH_PCNT (8 * p)) + 1) 0xFFFFFFFF ∧
      RegsBut [Reg.ETH_PCNT (8 * p)] s (ethEmit p f s) ∧ (ethEmit p f s).q = s.q := by
  refine ⟨?_, regN_bumpReg_same s _ 1, ((RegsBut.refl _ s).bumpReg (by simp)).emit, rfl⟩
  rw [ethEmit, hrq, stampFrame, hts]
  rfl

theorem sendAll_empty (ports : List Nat) (h : queue s n = []) (hq : n < s.q.length) : sendAll n ports s = s := by
  have he : setNth s.q n [] = s.q := by
    refine List.ext_getElem (by simp [setNth]) fun i hi hj => ?_
    by_cases hin : i = n
    · subst hin
      simpa [queue, nth, setNth, List.getD_eq_getElem?_getD, hq] using h.symm
    · simp [setNth, Ne.symm hin]
  rw [sendAll, h, setQueue, he]
  rfl

theorem outPorts_of_single (h : s.parN Par.ETH_TOPO = 2) : outPorts s = [0] := if_neg (by omega)

/-- A queue that holds one frame, sent on one port (R396). -/
theorem sendAll_one (h : queue s n = [f]) : sendAll n [p] s = ethEmit p f (setQueue n [] s) := by
  rw [sendAll, h]
  rfl

theorem sendWaiting_one (ht : s.parN Par.ETH_TOPO = 2) (h1 : queue s 1 = [f]) (h2 : queue s 2 = []) (h3 : queue s 3 = []) (h9 : queue s 9 = [])
    (h10 : queue s 10 = []) (h11 : queue s 11 = []) (hq : s.q.length = 32) : sendWaiting s = ethEmit 0 f (setQueue 1 [] s) := by
  obtain ⟨u, hu⟩ : ∃ u, u = ethEmit 0 f (setQueue 1 [] s) := ⟨_, rfl⟩
  have huq : u.q = setNth s.q 1 [] := by rw [hu]; rfl
  have hlen : u.q.length = 32 := by rw [huq]; simpa [setNth] using hq
  have hother (n : Nat) (hn : n ≠ 1) (h : queue s n = []) : queue u n = [] := by
    rw [← h, queue_congr (s := setQueue 1 [] s) (by rw [huq]; rfl), queue_setQueue_of_ne hn]
  rw [sendWaiting, outPorts_of_single ht, sendAll_one h1, ← hu, sendAll_empty _ (hother 2 (by decide) h2) (by omega),
    sendAll_empty _ (hother 3 (by decide) h3) (by omega), sendAll_empty _ (hother 9 (by decide) h9) (by omega), sendAll_empty _ (hother 10 (by decide) h10) (by omega),
    sendAll_empty _ (hother 11 (by decide) h11) (by omega)]

/-- A frame's sending, seen from before the site time moved on. -/
theorem emitted_spec {dt q : Nat} (hts : f.tsIns = none) (hrq : f.tsReq = false) (hq : q < s.q.length) (p : Nat) :
    let t := ethEmit p f (setQueue q [] (stAdvance dt s))
    t.out = .eth p f.bytes none :: s.out ∧ queue t q = [] ∧
      ((∀ a ∈ stRegs, a ≠ Reg.ETH_PCNT (8 * p)) → t.regN (Reg.ETH_PCNT (8 * p)) = min (s.regN (Reg.ETH_PCNT (8 * p)) + 1) 0xFFFFFFFF) ∧
      RegsBut [Reg.ETH_PCNT (8 * p), Reg.PTP_ST 0, Reg.PTP_ST 1, Reg.PTP_SLEWREM] s t := by
  obtain ⟨e1, e2, e3, e4⟩ := ethEmit_spec hts hrq p (setQueue q [] (stAdvance dt s))
  have hv : RegsBut stRegs s (setQueue q [] (stAdvance dt s)) := (stAdvance_regsBut dt s).same rfl
  refine ⟨e1.trans ?_, ?_, fun hne => ?_, (hv.mono (fun a ha => by simp [stRegs] at ha ⊢; grind)).trans (e3.mono (by simp))⟩
  · exact congrArg _ (stAdvance_out dt s)
  · rw [queue_congr e4]
    exact queue_setQueue_self (by rw [stAdvance_q]; exact hq)
  · rw [e2, hv.regN (fun h => hne _ h rfl)]

end Send

section Launch

variable {s : State} {f : Frame} {fs : List Frame} {l : Nat}

theorem launchN_empty (n q p : Nat) (prev : Option Int) (h : queue s q = []) : launchN n q p prev s = s := by
  cases n with
  | zero => rfl
  | succ n => rw [launchN, h]

theorem launchN_early (n q p : Nat) (h : queue s q = f :: fs) (hl : f.launch = some l) (he : s.eth.st < stExtend l s.eth.st) : launchN n q p none s = s := by
  cases n with
  | zero => rfl
  | succ n =>
    rw [launchN, h]
    dsimp only
    rw [hl]
    exact (if_neg (by simp)).trans (if_pos he)

/-- The only frame of queue 0, due by no more than the launch tolerance (R408). -/
theorem launchN_due (h : queue s 0 = [f]) (hl : f.launch = some l) (h0 : stExtend l s.eth.st ≤ s.eth.st) (h1 : s.eth.st - stExtend l s.eth.st ≤ 1000)
    (ht : s.parN Par.ETH_TOPO = 2) : launchN 1 0 0 none s = ethEmit 0 f (setQueue 0 [] s) := by
  rw [launchN, h]
  dsimp only
  rw [hl, outPorts_of_single ht]
  exact (if_neg (by simp)).trans ((if_neg (by omega)).trans (if_neg (by omega)))

/-- The only frame of queue 0, too late to be launched (R409). -/
theorem launchN_late (h : queue s 0 = [f]) (hl : f.launch = some l) (h1 : 1000 < s.eth.st - stExtend l s.eth.st) (hm : s.parN Par.LATE_MODE = 1) :
    launchN 1 0 0 none s = setQueue 0 [] ((s.bumpReg (Reg.ETH_PCNT 7)).raise Fd.ETH_EVT_LATE) := by
  rw [launchN, h]
  dsimp only
  rw [hl, hm]
  exact (if_neg (by simp)).trans ((if_neg (by omega)).trans (if_pos h1))

theorem launchDue_of (hp : s.pfw = false) (hn : (queue s 0).length = n) {u : State} (hu : launchN n 0 0 none s = u) (h8 : queue u 8 = []) : launchDue s = u := by
  rw [launchDue, hp, hn, hu]
  exact (if_neg (by simp)).trans (launchN_empty _ 8 1 none h8)

end Launch

section Clauses

variable {s : State}

theorem ethFrameSend_star {f : TxFrame} {dt : Nat} (hh : s.held .siteLink = false) (hslew : s.on Fd.PTP_STAT_SLEW = false) (hf : f.queue < 4)
    (ht : s.parN Par.ETH_TOPO = 2) (hup : portUp s 0 = true) (hq : s.q.length = 32) : Answers (execEthFrameSend (some f) true dt s) fun t =>
      queue t f.queue = queue s f.queue ++ [⟨f.bytes, f.launch, f.tsIns, f.tsReq, 0⟩] ∧ t.eth = { s.eth with mono := s.eth.mono + dt, st := s.eth.st + dt } ∧
        RegsBut [Reg.PTP_ST 0, Reg.PTP_ST 1] s t ∧ Within [.regs, .eth, .q] s t := by
  have e : execEthFrameSend (some f) true dt s = .next (enqueue f.queue ⟨f.bytes, f.launch, f.tsIns, f.tsReq, 0⟩ (stAdvance dt s)) := by
    rw [execEthFrameSend, awake_of_not_held hh]
    dsimp only
    rw [if_pos hf, ethWrite, parN_congr (stAdvance_params dt s), ht, stAdvance_portUp, hup]
    rfl
  have hr : RegsBut [Reg.PTP_ST 0, Reg.PTP_ST 1] s (stAdvance dt s) := by
    rw [stAdvance_plain dt s hslew]
    exact RegsBut.trans ((RegsBut.refl _ s).same rfl) (stShow_regsBut (stPassed dt s))
  refine ⟨_, e, ?_, ?_, hr.same rfl, ((stAdvance_within dt s).sub rfl).comp (enqueue_within _ _ _) rfl⟩
  · rw [queue_enqueue_self (by rw [stAdvance_q]; omega), queue_congr (stAdvance_q dt s)]
  · rw [stAdvance_plain dt s hslew]
    rfl

theorem ethWrite_portA {q : Nat} {f : Frame} (ht : s.parN Par.ETH_TOPO = 0) (hup : portUp s 0 = true) (hdn : portUp s 1 = false) : ethWrite q f s =
    setEth { s.eth with prpSeq := (s.eth.prpSeq + 1) % 65536 } (txDiscard 1 1 (enqueue q { f with bytes := withTrailer 0 s.eth.prpSeq f.bytes } s)) := by
  rw [ethWrite, if_pos ht]
  refine congrArg (setEth _) ((if_neg (by simp [hdn])).trans (congrArg (txDiscard 1 1) ?_))
  exact if_pos hup

/-- A frame written while only port A is up: its copy for port B is counted as discarded (R397, R398). -/
theorem ethFrameSend_prp {f : TxFrame} {dt : Nat} (hh : s.held .siteLink = false) (hf : f.queue < 4) (ht : s.parN Par.ETH_TOPO = 0) (hup : portUp s 0 = true)
    (hdn : portUp s 1 = false) (hq : s.q.length = 32) : Answers (execEthFrameSend (some f) true dt s) fun t =>
      queue t f.queue = queue s f.queue ++ [⟨withTrailer 0 s.eth.prpSeq f.bytes, f.launch, f.tsIns, f.tsReq, 0⟩] ∧
        t.eth.prpSeq = (s.eth.prpSeq + 1) % 65536 ∧ t.regN (Reg.ETH_PCNT 12) = min (s.regN (Reg.ETH_PCNT 12) + 1) 0xFFFFFFFF ∧
        RegsBut [Reg.ETH_PCNT 12, Reg.PTP_ST 0, Reg.PTP_ST 1, Reg.PTP_SLEWREM] s t := by
  obtain ⟨u, hu⟩ : ∃ u, u = stAdvance dt s := ⟨_, rfl⟩
  have huq : u.q = s.q := by rw [hu, stAdvance_q]
  have hur : RegsBut stRegs s u := by rw [hu]; exact stAdvance_regsBut dt s
  have hseq : u.eth.prpSeq = s.eth.prpSeq := by rw [hu, stAdvance_prpSeq]
  have e : execEthFrameSend (some f) true dt s = .next (setEth { u.eth with prpSeq := (u.eth.prpSeq + 1) % 65536 }
      (txDiscard 1 1 (enqueue f.queue ⟨withTrailer 0 u.eth.prpSeq f.bytes, f.launch, f.tsIns, f.tsReq, 0⟩ u))) := by
    rw [execEthFrameSend, awake_of_not_held hh]
    dsimp only
    rw [if_pos hf, ethWrite_portA (by rw [parN_congr (stAdvance_params dt s), ht]) (by rw [stAdvance_portUp, hup]) (by rw [stAdvance_portUp, hdn]), ← hu]
    rfl
  refine ⟨_, e, ?_, ?_, ?_, ?_⟩
  · rw [← queue_congr huq, ← hseq]
    exact queue_enqueue_self (by rw [huq]; omega)
  · rw [← hseq]
    rfl
  · refine (regN_bumpReg_same _ _ 1).trans ?_
    rw [← hur.regN (a := Reg.ETH_PCNT 12) (by decide)]
    rfl
  · refine (hur.mono (by decide)).trans (.same (t := txDiscard 1 1 (enqueue f.queue _ u)) ?_ rfl)
    exact RegsBut.bumpReg ((RegsBut.refl _ u).same rfl) (by simp)

theorem ethFrameSend_waiting {f : Frame} {dt : Nat} (hh : s.held .siteLink = false) (ht : s.parN Par.ETH_TOPO = 2) (h1 : queue s 1 = [f]) (h2 : queue s 2 = [])
    (h3 : queue s 3 = []) (h9 : queue s 9 = []) (h10 : queue s 10 = []) (h11 : queue s 11 = []) (hts : f.tsIns = none) (hrq : f.tsReq = false)
    (hq : s.q.length = 32) : Answers (execEthFrameSend none false dt s) fun t =>
      t.out = .eth 0 f.bytes none :: s.out ∧ queue t 1 = [] ∧ t.regN (Reg.ETH_PCNT 0) = min (s.regN (Reg.ETH_PCNT 0) + 1) 0xFFFFFFFF ∧
        RegsBut [Reg.ETH_PCNT 0, Reg.PTP_ST 0, Reg.PTP_ST 1, Reg.PTP_SLEWREM] s t := by
  have hqu := fun n => queue_congr (stAdvance_q dt s) n
  obtain ⟨k1, k2, k3, k4⟩ := emitted_spec (s := s) (dt := dt) (q := 1) hts hrq (by omega) 0
  refine ⟨_, ?_, k1, k2, k3 (by decide), k4⟩
  rw [execEthFrameSend, awake_of_not_held hh]
  exact congrArg _ (sendWaiting_one (by rw [parN_congr (stAdvance_params dt s), ht]) (by rw [hqu, h1]) (by rw [hqu, h2]) (by rw [hqu, h3]) (by rw [hqu, h9])
    (by rw [hqu, h10]) (by rw [hqu, h11]) (by rw [stAdvance_q, hq]))

theorem frameLaunch_early {f : Frame} {fs : List Frame} {l dt : Nat} (hh : s.held .siteLink = false) (hp : s.pfw = false) (h0 : queue s 0 = f :: fs)
    (hl : f.launch = some l) (h8 : queue s 8 = []) (he : s.eth.st + dt < stExtend l (s.eth.st + dt)) : Answers (execFrameLaunch dt s) fun t =>
      queue t 0 = f :: fs ∧ t.out = s.out ∧ t.eth.st = s.eth.st + dt ∧ RegsBut [Reg.PTP_ST 0, Reg.PTP_ST 1, Reg.PTP_SLEWREM] s t ∧ Within [.regs, .eth] s t := by
  have hqu := fun n => queue_congr (stAdvance_q dt s) n
  refine ⟨stAdvance dt s, ?_, by rw [hqu, h0], stAdvance_out dt s, stAdvance_st dt s, stAdvance_regsBut dt s, stAdvance_within dt s⟩
  rw [execFrameLaunch, awake_of_not_held hh]
  refine congrArg _ (launchDue_of (by rw [stAdvance_pfw, hp]) rfl (launchN_early _ 0 0 ((hqu 0).trans h0) hl ?_) (by rw [hqu, h8]))
  rw [stAdvance_st]
  exact he

theorem frameLaunch_due {f : Frame} {l dt : Nat} (hh : s.held .siteLink = false) (hp : s.pfw = false) (h0 : queue s 0 = [f]) (hl : f.launch = some l)
    (hts : f.tsIns = none) (hrq : f.tsReq = false) (h8 : queue s 8 = []) (ht : s.parN Par.ETH_TOPO = 2)
    (hle : stExtend l (s.eth.st + dt) ≤ s.eth.st + dt) (hd : s.eth.st + dt - stExtend l (s.eth.st + dt) ≤ 1000) (hq : s.q.length = 32) :
    Answers (execFrameLaunch dt s) fun t =>
      queue t 0 = [] ∧ t.out = .eth 0 f.bytes none :: s.out ∧ t.regN (Reg.ETH_PCNT 0) = min (s.regN (Reg.ETH_PCNT 0) + 1) 0xFFFFFFFF ∧
        RegsBut [Reg.ETH_PCNT 0, Reg.PTP_ST 0, Reg.PTP_ST 1, Reg.PTP_SLEWREM] s t := by
  have hqu := fun n => queue_congr (stAdvance_q dt s) n
  obtain ⟨k1, k2, k3, k4⟩ := emitted_spec (s := s) (dt := dt) (q := 0) hts hrq (by omega) 0
  refine ⟨_, ?_, k2, k1, k3 (by decide), k4⟩
  rw [execFrameLaunch, awake_of_not_held hh]
  refine congrArg _ (launchDue_of (n := 1) (by rw [stAdvance_pfw, hp]) (by rw [hqu, h0]; rfl)
    (launchN_due ((hqu 0).trans h0) hl (by rw [stAdvance_st]; exact hle) (by rw [stAdvance_st]; exact hd) (by rw [parN_congr (stAdvance_params dt s), ht])) ?_)
  have hq8 : queue (setQueue 0 [] (stAdvance dt s)) 8 = [] := by rw [queue_setQueue_of_ne (by decide), hqu, h8]
  exact hq8

theorem frameLaunch_late {f : Frame} {l dt : Nat} (hh : s.held .siteLink = false) (hp : s.pfw = false) (h0 : queue s 0 = [f]) (hl : f.launch = some l)
    (h8 : queue s 8 = []) (hm : s.parN Par.LATE_MODE = 1) (hd : 1000 < s.eth.st + dt - stExtend l (s.eth.st + dt)) (hq : s.q.length = 32) :
    Answers (execFrameLaunch dt s) fun t =>
      queue t 0 = [] ∧ t.out = s.out ∧ t.regN (Reg.ETH_PCNT 7) = min (s.regN (Reg.ETH_PCNT 7) + 1) 0xFFFFFFFF ∧ t.on Fd.ETH_EVT_LATE = true ∧
        RegsBut [Reg.ETH_PCNT 7, Reg.ETH_EVT, Reg.PTP_ST 0, Reg.PTP_ST 1, Reg.PTP_SLEWREM] s t ∧ Within [.regs, .eth, .q] s t := by
  have hqu := fun n => queue_congr (stAdvance_q dt s) n
  have hur := stAdvance_regsBut dt s
  have huw := stAdvance_within dt s
  have hout := stAdvance_out dt s
  have e : execFrameLaunch dt s = .next (setQueue 0 [] (((stAdvance dt s).bumpReg (Reg.ETH_PCNT 7)).raise Fd.ETH_EVT_LATE)) := by
    rw [execFrameLaunch, awake_of_not_held hh]
    refine congrArg _ (launchDue_of (n := 1) (by rw [stAdvance_pfw, hp]) (by rw [hqu, h0]; rfl)
      (launchN_late ((hqu 0).trans h0) hl (by rw [stAdvance_st]; exact hd) (by rw [parN_congr (stAdvance_params dt s), hm])) ?_)
    rw [queue_setQueue_of_ne (by decide)]
    exact (hqu 8).trans h8
  have hlen : (stAdvance dt s).q.length = 32 := by rw [stAdvance_q, hq]
  generalize stAdvance dt s = u at *
  have hbump : (u.bumpReg (Reg.ETH_PCNT 7)).regN (Reg.ETH_PCNT 7) = min (s.regN (Reg.ETH_PCNT 7) + 1) 0xFFFFFFFF := by
    rw [regN_bumpReg_same, hur.regN (by decide)]
  refine ⟨_, e, queue_setQueue_self (by rw [raise_q, bumpReg_q]; omega), hout, ?_, ?_, ?_, ?_⟩
  · have h : ((u.bumpReg (Reg.ETH_PCNT 7)).raise Fd.ETH_EVT_LATE).regN (Reg.ETH_PCNT 7) = (u.bumpReg (Reg.ETH_PCNT 7)).regN (Reg.ETH_PCNT 7) :=
      RegsBut.regN ((RegsBut.refl [Reg.ETH_EVT] _).raise (by simp)) (by decide)
    exact h.trans hbump
  · have h : ((u.bumpReg (Reg.ETH_PCNT 7)).raise Fd.ETH_EVT_LATE).on Fd.ETH_EVT_LATE = true := by simp [on, raise]
    exact h
  · exact (hur.mono (by decide)).trans ((((RegsBut.refl _ u).bumpReg (by simp)).raise (by simp)).same rfl)
  · exact (((huw.sub rfl).bumpReg rfl).raise rfl).comp (setQueue_within _ _ _) rfl

theorem ethFrameReceive_badFcs {p dt : Nat} {f : List Byte} (hh : s.held .siteLink = false) (hup : portUp s p = true) :
    Answers (execEthFrameReceive p f false dt s) fun t =>
      t.regN (Reg.ETH_PCNT (8 * p + 2)) = min (s.regN (Reg.ETH_PCNT (8 * p + 2)) + 1) 0xFFFFFFFF ∧
        RegsBut [Reg.ETH_PCNT (8 * p + 2), Reg.PTP_ST 0, Reg.PTP_ST 1, Reg.PTP_SLEWREM] s t ∧ Within [.regs, .eth] s t := by
  have hp2 : p < 2 := by
    simp only [portUp, Bool.and_eq_true, decide_eq_true_eq] at hup
    exact hup.1.1.1
  have hne : Reg.ETH_PCNT (8 * p + 2) ∉ stRegs := by simp only [stRegs, List.mem_cons, List.not_mem_nil, or_false, Reg.ETH_PCNT, Reg.PTP_ST, Reg.PTP_SLEWREM]; omega
  refine ⟨(stAdvance dt s).bumpReg (Reg.ETH_PCNT (8 * p + 2)), ?_, ?_, ?_, (stAdvance_within dt s).bumpReg rfl⟩
  · rw [execEthFrameReceive, awake_of_not_held hh]
    dsimp only
    rw [stAdvance_portUp, hup]
    rfl
  · rw [regN_bumpReg_same, (stAdvance_regsBut dt s).regN hne]
  · exact ((stAdvance_regsBut dt s).mono (fun a ha => by simp [stRegs] at ha ⊢; grind)).bumpReg (by simp)

/-- A multicast frame of another protocol goes to the host's queue (R399, R400). -/
theorem ethTake_multicast {f : List Byte} (ht : s.parN Par.ETH_TOPO = 2) (hlen : f.length = 64) (het : etherType f = 0x0800)
    (hm : (f.headD 0).getLsbD 0 = true) (hv : vlanPrio f < 4) :
    ethTake 0 f s = ethDeliver 0 7 ⟨f, none, none, false, Bits.ofInt 32 (s.eth.st - s.parN (Par.PHY_RXLAT 0))⟩ s := by
  have hb : ethBridge 0 f s = s := if_neg (by omega)
  have hd : duplicateCheck 0 f s = (true, s) := if_pos (.inl (by omega))
  rw [ethTake]
  dsimp only
  rw [hb, ite_self, hm, hd, if_neg (by rw [het, hlen]; split <;> omega), if_neg (by simp)]
  dsimp only
  rw [if_neg (by rw [het]; simp), if_neg (by omega), if_pos rfl]

theorem ethFrameReceive_multicast {f : List Byte} {dt : Nat} (hh : s.held .siteLink = false) (hup : portUp s 0 = true) (ht : s.parN Par.ETH_TOPO = 2)
    (hlen : f.length = 64) (het : etherType f = 0x0800) (hm : (f.headD 0).getLsbD 0 = true) (hv : vlanPrio f < 4) (hroom : (queue s 7).length < 32)
    (hq : s.q.length = 32) : Answers (execEthFrameReceive 0 f true dt s) fun t =>
      queue t 7 = queue s 7 ++ [⟨f, none, none, false, Bits.ofInt 32 (s.eth.st + dt - s.parN (Par.PHY_RXLAT 0))⟩] ∧
        t.regN (Reg.ETH_PCNT 1) = min (s.regN (Reg.ETH_PCNT 1) + 1) 0xFFFFFFFF ∧
        RegsBut [Reg.ETH_PCNT 1, Reg.PTP_ST 0, Reg.PTP_ST 1, Reg.PTP_SLEWREM] s t ∧ Within [.regs, .eth, .q] s t := by
  have hpar := fun q => parN_congr (stAdvance_params dt s) q
  have hq7 : queue (stAdvance dt s) 7 = queue s 7 := queue_congr (stAdvance_q dt s) 7
  have hst := stAdvance_st dt s
  have hur := stAdvance_regsBut dt s
  have huw := stAdvance_within dt s
  have hlenq : (stAdvance dt s).q.length = 32 := by rw [stAdvance_q, hq]
  have hupA := stAdvance_portUp dt s 0
  have hmake : execEthFrameReceive 0 f true dt s = .next (if !portUp (stAdvance dt s) 0 then stAdvance dt s else ethTake 0 f ((stAdvance dt s).bumpReg (Reg.ETH_PCNT 1))) := by
    rw [execEthFrameReceive, awake_of_not_held hh]
    rfl
  rw [hupA, hup] at hmake
  generalize stAdvance dt s = u at *
  obtain ⟨v, hv1⟩ : ∃ v, v = u.bumpReg (Reg.ETH_PCNT 1) := ⟨_, rfl⟩
  have hvq : queue v 7 = queue s 7 := by rw [hv1]; exact hq7
  have hvst : v.eth.st = s.eth.st + dt := by rw [hv1]; exact hst
  have hvpar (q : Nat) : v.parN q = s.parN q := by rw [hv1]; exact hpar q
  have hvr : RegsBut [Reg.ETH_PCNT 1, Reg.PTP_ST 0, Reg.PTP_ST 1, Reg.PTP_SLEWREM] s v := by
    rw [hv1]
    exact (hur.mono (by decide)).bumpReg (by simp)
  have e : execEthFrameReceive 0 f true dt s = .next (enqueue 7 ⟨f, none, none, false, Bits.ofInt 32 (s.eth.st + dt - s.parN (Par.PHY_RXLAT 0))⟩ v) := by
    rw [hmake, ← hv1, ethTake_multicast (by rw [hvpar, ht]) hlen het hm hv, hvst, hvpar, ethDeliver, hvq]
    exact congrArg _ ((if_neg (by simp)).trans (if_neg (by omega)))
  refine ⟨_, e, ?_, ?_, hvr.same rfl, ?_⟩
  · rw [queue_enqueue_self (by rw [hv1, bumpReg_q]; omega), hvq]
  · have h : v.regN (Reg.ETH_PCNT 1) = min (s.regN (Reg.ETH_PCNT 1) + 1) 0xFFFFFFFF := by rw [hv1, regN_bumpReg_same, hur.regN (by decide)]
    exact h
  · rw [hv1]
    exact ((huw.sub rfl).bumpReg rfl).comp (enqueue_within _ _ _) rfl

theorem supervisionFrameSend_both (hh : s.held .siteLink = false) (ht : s.parN Par.ETH_TOPO = 0) (h0 : portUp s 0 = true) (h1 : portUp s 1 = true) :
    Answers (execSupervisionFrameSend s) fun t =>
      t.out = .supervision 1 :: .supervision 0 :: s.out ∧ t.regN (Reg.ETH_PCNT 0) = min (s.regN (Reg.ETH_PCNT 0) + 1) 0xFFFFFFFF ∧
        t.regN (Reg.ETH_PCNT 8) = min (s.regN (Reg.ETH_PCNT 8) + 1) 0xFFFFFFFF ∧ RegsBut [Reg.ETH_PCNT 0, Reg.ETH_PCNT 8] s t := by
  obtain ⟨u, hu⟩ : ∃ u, u = (s.bumpReg (Reg.ETH_PCNT 0)).emit (.supervision 0) := ⟨_, rfl⟩
  have e : execSupervisionFrameSend s = .next ((u.bumpReg (Reg.ETH_PCNT 8)).emit (.supervision 1)) := by
    rw [execSupervisionFrameSend, awake_of_not_held hh, if_pos ht, List.filter_cons_of_pos h0, List.filter_cons_of_pos h1, hu]
    rfl
  have hu0 : u.regN (Reg.ETH_PCNT 0) = min (s.regN (Reg.ETH_PCNT 0) + 1) 0xFFFFFFFF := by rw [hu]; exact regN_bumpReg_same s _ 1
  have hur : RegsBut [Reg.ETH_PCNT 0] s u := by rw [hu]; exact ((RegsBut.refl _ s).bumpReg (by simp)).emit
  have huv : RegsBut [Reg.ETH_PCNT 8] u ((u.bumpReg (Reg.ETH_PCNT 8)).emit (.supervision 1)) := ((RegsBut.refl _ u).bumpReg (by simp)).emit
  have hout : u.out = .supervision 0 :: s.out := by rw [hu]; rfl
  refine ⟨_, e, congrArg _ hout, ?_, ?_, (hur.mono (by simp)).trans (huv.mono (by simp))⟩
  · rw [huv.regN (by decide), hu0]
  · refine (regN_bumpReg_same u _ 1).trans ?_
    rw [hur.regN (by decide)]

theorem groupMessageReceive_conflict {p : Nat} {m : List Byte} (hh : s.held .siteLink = false) (hup : portUp s p = true) (hlen : 10 ≤ m.length)
    (hsrc : groupNum m 2 2 % 4096 = s.parN Par.GRP_ADDR) : Answers (execGroupMessageReceive p m s) fun t =>
      t.on Fd.ETH_EVT_ADDRCONF = true ∧ RegsBut [Reg.ETH_EVT] s t ∧ Within [.regs] s t := by
  refine ⟨s.raise Fd.ETH_EVT_ADDRCONF, ?_, by simp [on, raise], (RegsBut.refl _ s).raise (by simp), (Within.refl _ s).raise rfl⟩
  rw [execGroupMessageReceive, awake_of_not_held hh, if_pos hup, groupFilter]
  exact congrArg _ ((if_neg (by omega)).trans (if_pos hsrc))

/-- The first group message of a source to every module (R402). -/
theorem groupMessageReceive_first {p : Nat} {m : List Byte} (hh : s.held .siteLink = false) (hup : portUp s p = true) (hlen : 10 ≤ m.length)
    (hsrc : groupNum m 2 2 % 4096 ≠ s.parN Par.GRP_ADDR) (hdst : groupNum m 4 2 = 0xFFFF) (hty : groupNum m 1 1 = 2) (hml : m.length = 10 + groupNum m 8 2)
    (hg : s.eth.groups = []) (hroom : (queue s 4).length < 32) (hq : s.q.length = 32) : Answers (execGroupMessageReceive p m s) fun t =>
      queue t 4 = queue s 4 ++ [⟨m, none, none, false, Bits.ofInt 32 s.eth.st⟩] ∧ t.eth = { s.eth with groups := [(groupNum m 2 2 % 4096, [groupNum m 6 2])] } ∧
        RegsBut [] s t ∧ Within [.eth, .q] s t := by
  have e : execGroupMessageReceive p m s = .next (enqueue 4 ⟨m, none, none, false, Bits.ofInt 32 s.eth.st⟩
      (setEth { s.eth with groups := [(groupNum m 2 2 % 4096, [groupNum m 6 2])] } s)) := by
    rw [execGroupMessageReceive, awake_of_not_held hh, if_pos hup, groupFilter]
    dsimp only
    rw [hg, ← hml, List.take_length]
    refine congrArg _ ((if_neg (by omega)).trans ((if_neg hsrc).trans ((if_neg ?_).trans (if_neg ?_))))
    · rw [hdst, hty]
      simp
    · exact Nat.not_le.2 hroom
  refine ⟨_, e, queue_enqueue_self (by change 4 < s.q.length; omega), rfl, (RegsBut.refl _ s).same rfl, ?_⟩
  exact ((Within.upd_eth s _).sub rfl).comp (enqueue_within _ _ _) rfl

theorem telegramFrameFilter_safe {p : Nat} {f : List Byte} (hh : s.held .siteLink = false) (hup : portUp s p = true) (hmac : f.take 6 = groupMac 1)
    (het : etherType f = 0x88B5) (hlen : 32 ≤ (f.drop (typeAt f + 2)).length) : Answers (execTelegramFrameFilter p f s) fun t =>
      t.x09 = s.x09 ++ [(p, (f.drop (typeAt f + 2)).take 32)] ∧ RegsBut [Reg.ETH_PCNT (8 * p + 1)] s t := by
  refine ⟨{ s.bumpReg (Reg.ETH_PCNT (8 * p + 1)) with x09 := s.x09 ++ [(p, (f.drop (typeAt f + 2)).take 32)] }, ?_, rfl, ?_⟩
  · rw [execTelegramFrameFilter, awake_of_not_held hh, hup, hmac, het]
    exact congrArg _ (if_pos (by simpa using hlen))
  · exact RegsBut.same ((RegsBut.refl _ s).bumpReg (a := Reg.ETH_PCNT (8 * p + 1)) (n := 1) (by simp)) rfl

theorem canBusOff_spec {k : Nat} (hh : s.held .siteLink = false) (hk : k < 2) : Answers (execCanBusOff k s) fun t =>
    t.on (Fd.ETH_CAN_BUSOFF k) = true ∧ t.get (Fd.ETH_CAN_TEC k) = 255 ∧ t.get (Fd.ETH_CAN_BUSOFFS k) = min (s.get (Fd.ETH_CAN_BUSOFFS k) + 1) 255 ∧
      t.on Fd.ETH_EVT_BUSOFF = true ∧ RegsBut [Reg.ETH_CAN k, Reg.ETH_EVT] s t := by
  have hne : Reg.ETH_CAN k ≠ Reg.ETH_EVT := by simp only [Reg.ETH_CAN, Reg.ETH_EVT]; omega
  obtain ⟨u, hu⟩ : ∃ u, u = (s.put (Fd.ETH_CAN_TEC k) 255).raise (Fd.ETH_CAN_BUSOFF k) := ⟨_, rfl⟩
  have hoffs : u.get (Fd.ETH_CAN_BUSOFFS k) = s.get (Fd.ETH_CAN_BUSOFFS k) := by rw [hu]; simp [raise]
  obtain ⟨v, hv⟩ : ∃ v, v = u.bump (Fd.ETH_CAN_BUSOFFS k) := ⟨_, rfl⟩
  have hother (lo w : Nat) (h : lo + w ≤ 24) : v.get ⟨Reg.ETH_CAN k, lo, w⟩ = u.get ⟨Reg.ETH_CAN k, lo, w⟩ := by
    rw [hv, bump]
    exact get_put_other _ _ _ _ (.inr (.inr h))
  have hr : RegsBut [Reg.ETH_EVT] v (v.raise Fd.ETH_EVT_BUSOFF) := (RegsBut.refl _ v).raise (by simp)
  have hn : Reg.ETH_CAN k ∉ [Reg.ETH_EVT] := by simpa using hne
  refine ⟨v.raise Fd.ETH_EVT_BUSOFF, ?_, ?_, ?_, ?_, by simp [on, raise], ?_⟩
  · rw [execCanBusOff, awake_of_not_held hh, if_pos hk, hv, hu]
  · rw [hr.on hn, on, hother _ _ (by decide), hu]
    simp [raise]
  · rw [hr.get hn, hother _ _ (by decide), hu]
    simp [raise]
  · rw [hr.get hn, hv, get_bump_same _ _ (by simp), hoffs]
    rfl
  · refine RegsBut.raise ?_ (by simp)
    rw [hv, hu]
    exact (((RegsBut.refl _ s).put (by simp)).raise (by simp)).bump (by simp)

theorem busOffRecovery_spec {k : Nat} (hh : s.held .siteLink = false) (hk : k < 2) : Answers (execBusOffRecovery k s) fun t =>
    t.on (Fd.ETH_CAN_BUSOFF k) = false ∧ t.get (Fd.ETH_CAN_TEC k) = 0 ∧ t.get (Fd.ETH_CAN_REC k) = 0 ∧
      t.get (Fd.ETH_CAN_BUSOFFS k) = s.get (Fd.ETH_CAN_BUSOFFS k) ∧ RegsBut [Reg.ETH_CAN k] s t := by
  refine ⟨_, (awake_of_not_held hh).trans (congrArg _ (if_pos hk)), ?_, ?_, ?_, ?_, ?_⟩
  · simp [on, lower]
  · simp [lower]
  · simp [lower]
  · simp [lower]
  · exact (((RegsBut.refl _ s).lower (by simp)).put (by simp)).put (by simp)

end Clauses

/-- Settles O36: the site time moves on, and then the frame is written, launched, received or discarded by the branch that the clause's hypotheses name. -/
theorem ethernetFrames : Obligations.EthernetFrames := by
  refine ⟨fun s f dt hh hs hf ht hu hq => ethFrameSend_star hh hs hf ht hu hq, fun s f dt hh hf ht h0 h1 hq => ?_,
    fun s f dt hh ht h1 h2 h3 h9 h10 h11 hi hr hq => ?_, fun s f fs l dt hh hp h0 hl h8 he => frameLaunch_early hh hp h0 hl h8 he,
    fun s f l dt hh hp h0 hl hi hr h8 ht hle hd hq => ?_, fun s f l dt hh hp h0 hl h8 hm hd hq => frameLaunch_late hh hp h0 hl h8 hm hd hq,
    fun s p f dt hh hu => ethFrameReceive_badFcs hh hu,
    fun s f dt hh hu ht hlen het hm hv hroom hq => ethFrameReceive_multicast hh hu ht hlen het hm hv hroom hq,
    fun s src hh => ⟨_, awake_of_not_held hh, rfl, (RegsBut.refl _ s).same rfl, Within.upd_eth _ _⟩, fun s hh ht h0 h1 => ?_,
    fun s p m hh hu hlen hsrc => groupMessageReceive_conflict hh hu hlen hsrc,
    fun s p m hh hu hlen hsrc hdst hty hml hg hroom hq => groupMessageReceive_first hh hu hlen hsrc hdst hty hml hg hroom hq,
    fun s p f hh hu hmac het hlen => ?_, fun s k hh hk => ?_, fun s k hh hk => ?_⟩
  · obtain ⟨t, e, k1, k2, k3, k4⟩ := ethFrameSend_prp hh hf ht h0 h1 hq
    exact Answers.mk e (execEthFrameSend_answers (some f) true dt s) fun hw => ⟨k1, k2, k3, k4, hw⟩
  · obtain ⟨t, e, k1, k2, k3, k4⟩ := ethFrameSend_waiting hh ht h1 h2 h3 h9 h10 h11 hi hr hq
    exact Answers.mk e (execEthFrameSend_answers none false dt s) fun hw => ⟨k1, k2, k3, k4, hw⟩
  · obtain ⟨t, e, k1, k2, k3, k4⟩ := frameLaunch_due hh hp h0 hl hi hr h8 ht hle hd hq
    exact Answers.mk e (execFrameLaunch_answers dt s) fun hw => ⟨k1, k2, k3, k4, hw⟩
  · obtain ⟨t, e, k1, k2, k3, k4⟩ := supervisionFrameSend_both hh ht h0 h1
    exact Answers.mk e (execSupervisionFrameSend_answers s) fun hw => ⟨k1, k2, k3, k4, hw⟩
  · obtain ⟨t, e, k1, k2⟩ := telegramFrameFilter_safe hh hu hmac het hlen
    exact Answers.mk e (execTelegramFrameFilter_answers p f s) fun hw => ⟨k1, k2, hw⟩
  · obtain ⟨t, e, k1, k2, k3, k4, k5⟩ := canBusOff_spec hh hk
    exact Answers.mk e (execCanBusOff_answers k s) fun hw => ⟨k1, k2, k3, k4, k5, hw⟩
  · obtain ⟨t, e, k1, k2, k3, k4, k5⟩ := busOffRecovery_spec hh hk
    exact Answers.mk e (execBusOffRecovery_answers k s) fun hw => ⟨k1, k2, k3, k4, k5, hw⟩

end Sys2Proof.Machine
end

section
/-!
The messages of the PTP engine (spec/12_site_ethernet_time.md R404 to R407, R411 to R416).
-/
namespace Sys2Proof.Machine

open State

section Engines

variable {s t : State} {d p dom : Nat} {e : PtpPort}

theorem engine_congr (h : t.eth.ports = s.eth.ports) (d p : Nat) : engine t d p = engine s d p := by rw [engine, engine, h]

theorem engine_setEngine_same (h : 2 * d + p < s.eth.ports.length) : engine (setEngine d p e s) d p = e := nth_setNth_self h

theorem engine_setEngine_other {c q : Nat} (h : 2 * c + q ≠ 2 * d + p) : engine (setEngine d p e s) c q = engine s c q := nth_setNth_of_ne h

theorem setEngine_ports_length (d p : Nat) (e : PtpPort) (s : State) : (setEngine d p e s).eth.ports.length = s.eth.ports.length := List.length_set

theorem setEngine_regsBut (l : List Nat) (d p : Nat) (e : PtpPort) (s : State) : RegsBut l s (setEngine d p e s) := setEth_regsBut l _ s

theorem domIndex_lt (h : domIndex s dom = some d) : d < 2 := List.mem_range.1 (List.mem_of_find?_eq_some h)

theorem domIndex_congr (h : t.params = s.params) (dom : Nat) : domIndex t dom = domIndex s dom := by
  rw [domIndex, domIndex]
  congr 1
  funext d
  rw [parN_congr h]

theorem portUp_lt (h : portUp s p = true) : p < 2 := by
  simp only [portUp, Bool.and_eq_true, decide_eq_true_eq] at h
  exact h.1.1.1

theorem ptpHears_portUp (h : ptpHears s d p = true) : portUp s p = true := (Bool.and_eq_true_iff.1 h).1

theorem ptpForward_of_role (type p dom seq : Nat) (corr : Int) (h : s.parN Par.PTP_ROLE ≠ 2) : ptpForward type p dom seq corr s = s := if_neg (fun hc => h hc.1)

/-- Whether no domain is locked, the four engines being there (R412). -/
def Unlocked (s : State) : Prop := domPort s 0 = none ∧ domPort s 1 = none ∧ s.eth.ports.length = 4

theorem portLocked_of_zero (h : engine s d p = .zero) : portLocked s d p = false := by rw [portLocked, h]; rfl

theorem domPort_none (h0 : portLocked s d 0 = false) (h1 : portLocked s d 1 = false) : domPort s d = none := by
  rw [domPort, show List.range 2 = [0, 1] from rfl, List.find?_cons_of_neg (by simp [h0]), List.find?_cons_of_neg (by simp [h1]), List.find?_nil]

theorem portLocked_of_none {q : Nat} (h : domPort s d = none) (hq : q < 2) : portLocked s d q = false := by
  have := List.find?_eq_none.1 h q (List.mem_range.2 hq)
  simpa using this

theorem Unlocked.domPort (h : Unlocked s) (d : Nat) : domPort s d = none := by
  obtain ⟨h0, h1, hlen⟩ := h
  have hzero (hd : 2 ≤ d) (q : Nat) : engine s d q = .zero := by
    rw [engine, nth, List.getD_eq_getElem?_getD, List.getElem?_eq_none (by omega)]
    rfl
  rcases Nat.lt_or_ge d 2 with hd | hd
  · obtain rfl | rfl : d = 0 ∨ d = 1 := by omega
    · exact h0
    · exact h1
  · exact domPort_none (portLocked_of_zero (hzero hd 0)) (portLocked_of_zero (hzero hd 1))

/-- An engine that is not locked, in the place of another, locks no domain (R412). -/
theorem Unlocked.setEngine (h : Unlocked s) (hd : d < 2) (hp : p < 2) (he : (e.gm.isSome && decide (16 ≤ e.good)) = false) : Unlocked (setEngine d p e s) := by
  have hkeep (c : Nat) (hc : c < 2) (q : Nat) (hq : q < 2) : portLocked (Machine.setEngine d p e s) c q = false := by
    by_cases heq : 2 * c + q = 2 * d + p
    · obtain ⟨rfl, rfl⟩ : c = d ∧ q = p := by omega
      rw [portLocked, engine_setEngine_same (by rw [h.2.2]; omega), he]
    · rw [portLocked, engine_setEngine_other heq]
      exact portLocked_of_none (h.domPort c) hq
  exact ⟨domPort_none (hkeep 0 (by omega) 0 (by omega)) (hkeep 0 (by omega) 1 (by omega)),
    domPort_none (hkeep 1 (by omega) 0 (by omega)) (hkeep 1 (by omega) 1 (by omega)), (setEngine_ports_length d p e s).trans h.2.2⟩

theorem Unlocked.congr (h : Unlocked s) (he : t.eth.ports = s.eth.ports) : Unlocked t := by
  have hk (c : Nat) : Machine.domPort t c = Machine.domPort s c := by
    rw [Machine.domPort, Machine.domPort]
    congr 1
    funext q
    rw [portLocked, portLocked, engine_congr he]
  exact ⟨(hk 0).trans h.1, (hk 1).trans h.2.1, by rw [he]; exact h.2.2⟩

end Engines

section Judged

variable {s : State} {d p : Nat} {e : PtpPort}

/-- The lock that is shown, of the domain in use (R412). -/
def lockShown (now : List Bool) (s : State) : Bool :=
  match s.eth.sel with
  | some (d, _) => now.getD d false
  | none => false

theorem ptpJudge_lock (s : State) : ∃ (lost : Bool) (dlock : Nat) (disc : Bool) (now : List Bool),
    ptpJudge s = utcShow ((((setEth { (reselected s (when lost (·.raise Fd.PTP_EVT_LOST) s)).eth with locked := now }
      (reselected s (when lost (·.raise Fd.PTP_EVT_LOST) s))).put Fd.PTP_STAT_DLOCK dlock).putB Fd.PTP_STAT_LOCK
      (lockShown now (reselected s (when lost (·.raise Fd.PTP_EVT_LOST) s)))).putB Fd.BTM_STAT_PTPLOCK disc) :=
  ⟨_, _, _, _, rfl⟩

theorem reselected_unlocked (hsel : s.eth.sel = none) (h : Unlocked s) (t : State) : reselected s t = t := by
  rw [reselected, hsel]
  dsimp only
  rw [h.domPort, h.domPort]
  rfl

/-- A judgement that finds no lock, with no domain selected, selects none (R412 to R415). -/
theorem ptpJudge_unlocked (hsel : s.eth.sel = none) (h : Unlocked s) : (ptpJudge s).eth.ports = s.eth.ports ∧ (ptpJudge s).eth.st = s.eth.st ∧
    (ptpJudge s).on Fd.PTP_STAT_LOCK = false ∧ (ptpJudge s).on Fd.PTP_STAT_MASTER = s.on Fd.PTP_STAT_MASTER := by
  obtain ⟨lost, dlock, disc, now, e⟩ := ptpJudge_lock s
  rw [reselected_unlocked hsel h] at e
  obtain ⟨u, hu⟩ : ∃ u, u = when lost (·.raise Fd.PTP_EVT_LOST) s := ⟨_, rfl⟩
  have hue : u.eth = s.eth := by cases lost <;> simp [hu, when]
  have hus : RegsBut [Reg.PTP_EVT] s u := by
    rw [hu, when]
    exact .ite ((RegsBut.refl _ s).raise (by simp)) (.refl _ s)
  have hlock : lockShown now u = false := by rw [lockShown, hue, hsel]
  rw [← hu, hlock] at e
  obtain ⟨v, hv⟩ : ∃ v, v = (((setEth { u.eth with locked := now } u).put Fd.PTP_STAT_DLOCK dlock).putB Fd.PTP_STAT_LOCK false).putB Fd.BTM_STAT_PTPLOCK disc := ⟨_, rfl⟩
  have hve : v.eth = { s.eth with locked := now } := by rw [hv, putB_eth, putB_eth, put_eth, ← hue]; rfl
  have hvl : v.on Fd.PTP_STAT_LOCK = false := by rw [hv]; simp [putB, on]
  have hvm : v.on Fd.PTP_STAT_MASTER = s.on Fd.PTP_STAT_MASTER := by
    have hm : u.on Fd.PTP_STAT_MASTER = s.on Fd.PTP_STAT_MASTER := hus.on (by decide)
    rw [← hm, hv]
    simp [putB, on]
  have hr := utcShow_regsBut v
  have heth : (utcShow v).eth = v.eth := (utcShow_within v).same .eth (by simp)
  rw [e, ← hv]
  refine ⟨?_, ?_, ?_, ?_⟩
  · rw [heth, hve]
  · rw [heth, hve]
  · rw [hr.on (by decide), hvl]
  · rw [hr.on (by decide), hvm]

theorem ptpShow_regsBut (d p : Nat) (x : Int) (s : State) : RegsBut [Reg.PTP_OFS d, Reg.PTP_MPD d, Reg.PTP_GMID d 0, Reg.PTP_GMID d 1] s (ptpShow d p x s) :=
  .ite (((((RegsBut.refl _ s).setRegI (by simp)).setRegN (by simp)).setRegN (by simp)).setRegN (by simp)) (.refl _ s)

theorem ptpShow_eth (d p : Nat) (x : Int) (s : State) : (ptpShow d p x s).eth = s.eth := (ptpShow_within d p x s).same .eth (by simp)

theorem shown_sub_ptpRegs (hd : d < 2) : [Reg.PTP_OFS d, Reg.PTP_MPD d, Reg.PTP_GMID d 0, Reg.PTP_GMID d 1] ⊆ ptpRegs := by
  revert d
  decide

theorem judged_sub_ptpRegs : [Reg.PTP_STAT, Reg.PTP_EVT, Reg.PTP_UTC, Reg.PTP_SLEWREM, Reg.PTP_ST 0, Reg.PTP_ST 1, Reg.BTM_STAT] ⊆ ptpRegs := by decide

/-- An engine replaced by one that counts anew, and the locks judged (R412). -/
theorem judged_setEngine (hsel : s.eth.sel = none) (h : Unlocked s) (hd : d < 2) (hp : p < 2) (he : e.good = 0) :
    engine (ptpJudge (setEngine d p e s)) d p = e ∧ (ptpJudge (setEngine d p e s)).eth.st = s.eth.st ∧
      (ptpJudge (setEngine d p e s)).on Fd.PTP_STAT_LOCK = false ∧ (ptpJudge (setEngine d p e s)).on Fd.PTP_STAT_MASTER = s.on Fd.PTP_STAT_MASTER ∧
      RegsBut ptpRegs s (ptpJudge (setEngine d p e s)) := by
  have hun := h.setEngine (e := e) hd hp (by simp [he])
  have hlen : 2 * d + p < s.eth.ports.length := by rw [h.2.2]; omega
  have hself := engine_setEngine_same (e := e) hlen
  have hr := setEngine_regsBut ptpRegs d p e s
  have hsel' : (setEngine d p e s).eth.sel = none := hsel
  have hst : (setEngine d p e s).eth.st = s.eth.st := rfl
  have hmaster : (setEngine d p e s).on Fd.PTP_STAT_MASTER = s.on Fd.PTP_STAT_MASTER := rfl
  generalize setEngine d p e s = u at *
  obtain ⟨k1, k2, k3, k4⟩ := ptpJudge_unlocked hsel' hun
  exact ⟨(engine_congr k1 d p).trans hself, k2.trans hst, k3, k4.trans hmaster, hr.trans ((ptpJudge_regsBut u).mono judged_sub_ptpRegs)⟩

/-- The first measurement of an engine (R411). -/
theorem ptpMeasure_first {stamp time : Int} (hset : (engine s d p).set = false) (hsel : s.eth.sel = none) (h : Unlocked s) (hd : d < 2) (hp : p < 2) :
    let t := ptpMeasure d p stamp time s
    engine t d p = { engine s d p with last := some (stamp, time), set := true, off := time + (engine s d p).mpd - stamp, good := 0, bad := 0 } ∧
      t.eth.st = s.eth.st ∧ t.on Fd.PTP_STAT_LOCK = false ∧ RegsBut ptpRegs s t := by
  obtain ⟨e, he⟩ : ∃ e, e = { engine s d p with last := some (stamp, time), set := true, off := time + (engine s d p).mpd - stamp, good := 0, bad := 0 } := ⟨_, rfl⟩
  have heq : ptpMeasure d p stamp time s = ptpJudge (ptpShow d p 0 (setEngine d p e s)) := by
    rw [ptpMeasure, he]
    exact if_pos (by simp [hset])
  have hgood : e.good = 0 := by rw [he]
  have hun := h.setEngine (e := e) hd hp (by simp [hgood])
  have hself := engine_setEngine_same (e := e) (show 2 * d + p < s.eth.ports.length by rw [h.2.2]; omega)
  have hr := setEngine_regsBut ptpRegs d p e s
  have hsel' : (setEngine d p e s).eth.sel = none := hsel
  have hst : (setEngine d p e s).eth.st = s.eth.st := rfl
  dsimp only
  rw [heq, ← he]
  generalize setEngine d p e s = u at *
  have hshow := ptpShow_eth d p 0 u
  have hshowr := ptpShow_regsBut d p 0 u
  generalize ptpShow d p 0 u = v at *
  obtain ⟨k1, k2, k3, -⟩ := ptpJudge_unlocked (s := v) (by rw [hshow, hsel']) (hun.congr (by rw [hshow]))
  refine ⟨(engine_congr (k1.trans (by rw [hshow])) d p).trans hself, k2.trans (by rw [hshow, hst]), k3, ?_⟩
  exact hr.trans ((hshowr.mono (shown_sub_ptpRegs hd)).trans ((ptpJudge_regsBut v).mono judged_sub_ptpRegs))

end Judged

section Kept

variable (dt : Nat) (s : State)

theorem stAdvance_domIndex (dom : Nat) : domIndex (stAdvance dt s) dom = domIndex s dom := domIndex_congr (stAdvance_params dt s) dom

theorem stAdvance_master : ptpMaster (stAdvance dt s) = ptpMaster s := by
  rw [ptpMaster, ptpMaster, parN_congr (stAdvance_params dt s), (stAdvance_regsBut dt s).on (by decide)]

theorem stAdvance_ownDom : ownDom (stAdvance dt s) = ownDom s := by rw [ownDom, ownDom, parN_congr (stAdvance_params dt s), parN_congr (stAdvance_params dt s)]

end Kept

section Plain

variable (dt : Nat) {s : State} (h : s.on Fd.PTP_STAT_SLEW = false)

include h

/-- The site time moves on without a slew: only its registers and the clocks change (R415). -/
theorem stAdvance_eth : (stAdvance dt s).eth = { s.eth with mono := s.eth.mono + dt, st := s.eth.st + dt } := by
  rw [stAdvance_plain dt s h]
  rfl

theorem stAdvance_regsBut_plain : RegsBut [Reg.PTP_ST 0, Reg.PTP_ST 1] s (stAdvance dt s) := by
  rw [stAdvance_plain dt s h]
  exact RegsBut.trans ((RegsBut.refl _ s).same rfl) (stShow_regsBut (stPassed dt s))

theorem stAdvance_engine (d p : Nat) : engine (stAdvance dt s) d p = engine s d p := engine_congr (by rw [stAdvance_eth dt h]) d p

theorem stAdvance_hears (d p : Nat) : ptpHears (stAdvance dt s) d p = ptpHears s d p := by
  rw [ptpHears, ptpHears, stAdvance_portUp, stAdvance_engine dt h]

end Plain

section Clauses

variable {s : State} {p dom seq d dt : Nat} {origin corr residence : Int}

theorem ptpSyncReceive_twoStep (hh : s.held .siteLink = false) (hslew : s.on Fd.PTP_STAT_SLEW = false) (hrole : s.parN Par.PTP_ROLE ≠ 2)
    (hdom : domIndex s dom = some d) (hp : p < 2) (hears : ptpHears s d p = true) (hlen : s.eth.ports.length = 4) :
    Answers (execPtpSyncReceive p dom seq true origin corr residence dt s) fun t =>
      (engine t d p).sync = some ⟨seq, s.eth.st + dt - s.parN (Par.PHY_RXLAT p) - corr⟩ ∧ t.eth.st = s.eth.st + dt ∧
        RegsBut [Reg.PTP_ST 0, Reg.PTP_ST 1] s t ∧ Within [.regs, .eth] s t := by
  have hd := domIndex_lt hdom
  have hpar := fun q => parN_congr (stAdvance_params dt s) q
  obtain ⟨u, hu⟩ : ∃ u, u = stAdvance dt s := ⟨_, rfl⟩
  have hst : u.eth.st = s.eth.st + dt := by rw [hu, stAdvance_st]
  have hulen : u.eth.ports.length = 4 := by rw [hu, stAdvance_eth dt hslew, hlen]
  have e : execPtpSyncReceive p dom seq true origin corr residence dt s =
      .next (setEngine d p { engine u d p with sync := some ⟨seq, s.eth.st + dt - s.parN (Par.PHY_RXLAT p) - corr⟩ } u) := by
    rw [execPtpSyncReceive, awake_of_not_held hh, ptpSync, stAdvance_portUp, ptpHears_portUp hears, ptpForward_of_role _ _ _ _ _ (by rw [hpar]; exact hrole)]
    dsimp only
    rw [stAdvance_domIndex dt s, hdom]
    dsimp only
    rw [stAdvance_hears dt hslew, hears, hpar, ← hst, ← hu]
    rfl
  refine ⟨_, e, ?_, hst, ?_, ?_⟩
  · rw [engine_setEngine_same (by rw [hulen]; omega)]
  · rw [hu]
    exact (stAdvance_regsBut_plain dt hslew).trans (setEngine_regsBut _ _ _ _ _)
  · rw [hu]
    exact (stAdvance_within dt s).comp (setEngine_within _ _ _ _) rfl

theorem ptpSyncReceive_first {at_ : Int} (hh : s.held .siteLink = false) (hslew : s.on Fd.PTP_STAT_SLEW = false) (hrole : s.parN Par.PTP_ROLE ≠ 2)
    (hat : at_ = s.eth.st + dt - s.parN (Par.PHY_RXLAT p)) (hdom : domIndex s dom = some d) (hears : ptpHears s d p = true)
    (hset : (engine s d p).set = false) (hsel : s.eth.sel = none) (hun : Unlocked s) :
    Answers (execPtpSyncReceive p dom seq false origin corr residence dt s) fun t =>
      engine t d p = { engine s d p with last := some (at_, origin + corr), set := true, off := origin + corr + (engine s d p).mpd - at_, good := 0, bad := 0 } ∧
        t.eth.st = s.eth.st + dt ∧ t.on Fd.PTP_STAT_LOCK = false ∧ RegsBut ptpRegs s t := by
  have hup := ptpHears_portUp hears
  have hpar := fun q => parN_congr (stAdvance_params dt s) q
  have hst := stAdvance_st dt s
  have heng := stAdvance_engine dt hslew d p
  have hr := stAdvance_regsBut_plain dt hslew
  have hsel' : (stAdvance dt s).eth.sel = none := by rw [stAdvance_eth dt hslew, hsel]
  have hun' : Unlocked (stAdvance dt s) := hun.congr (by rw [stAdvance_eth dt hslew])
  have e : execPtpSyncReceive p dom seq false origin corr residence dt s = .next (ptpMeasure d p at_ (origin + corr) (stAdvance dt s)) := by
    rw [execPtpSyncReceive, awake_of_not_held hh, ptpSync, stAdvance_portUp, hup, ptpForward_of_role _ _ _ _ _ (by rw [hpar]; exact hrole)]
    dsimp only
    rw [stAdvance_domIndex dt s, hdom]
    dsimp only
    rw [stAdvance_hears dt hslew, hears, hpar, hst, ← hat]
    rfl
  generalize stAdvance dt s = u at *
  obtain ⟨k1, k2, k3, k4⟩ := ptpMeasure_first (stamp := at_) (time := origin + corr) (by rw [heng, hset]) hsel' hun' (domIndex_lt hdom) (portUp_lt hup)
  exact ⟨_, e, by rw [k1, heng], by rw [k2, hst], k3, (hr.mono (by decide)).trans k4⟩

theorem ptpFollowUpReceive_first {w : PtpWait} (hh : s.held .siteLink = false) (hrole : s.parN Par.PTP_ROLE ≠ 2) (hdom : domIndex s dom = some d)
    (hup : portUp s p = true) (hsync : (engine s d p).sync = some w) (hseq : w.seq = seq) (hset : (engine s d p).set = false) (hsel : s.eth.sel = none)
    (hun : Unlocked s) : Answers (execPtpFollowUpReceive p dom seq origin corr residence s) fun t =>
      engine t d p = { engine s d p with
        sync := none, last := some (w.stamp, origin + corr), set := true, off := origin + corr + (engine s d p).mpd - w.stamp, good := 0, bad := 0 } ∧
        t.eth.st = s.eth.st ∧ RegsBut ptpRegs s t := by
  have hd := domIndex_lt hdom
  have hp := portUp_lt hup
  have e : execPtpFollowUpReceive p dom seq origin corr residence s =
      .next (ptpMeasure d p w.stamp (origin + corr) (setEngine d p { engine s d p with sync := none } s)) := by
    rw [execPtpFollowUpReceive, awake_of_not_held hh, ptpFollowUp, hup, ptpForward_of_role _ _ _ _ _ hrole]
    dsimp only
    rw [hdom]
    dsimp only
    rw [hsync]
    exact congrArg _ ((if_neg (by simp)).trans (if_pos hseq))
  have hself := engine_setEngine_same (e := { engine s d p with sync := none }) (show 2 * d + p < s.eth.ports.length by rw [hun.2.2]; omega)
  have hun' : Unlocked (setEngine d p { engine s d p with sync := none } s) := hun.setEngine hd hp (portLocked_of_none (hun.domPort d) hp)
  have hr := setEngine_regsBut ptpRegs d p { engine s d p with sync := none } s
  have hst : (setEngine d p { engine s d p with sync := none } s).eth.st = s.eth.st := rfl
  have hsel' : (setEngine d p { engine s d p with sync := none } s).eth.sel = none := hsel
  generalize setEngine d p { engine s d p with sync := none } s = u at *
  obtain ⟨k1, k2, -, k4⟩ := ptpMeasure_first (stamp := w.stamp) (time := origin + corr) (by rw [hself]; exact hset) hsel' hun' hd hp
  exact ⟨_, e, by rw [k1, hself], by rw [k2, hst], hr.trans k4⟩

theorem ptpAnnounceReceive_first {gm : Nat} {rank : List Nat} {utc : Option Nat} (hh : s.held .siteLink = false) (hdom : domIndex s dom = some d)
    (hup : portUp s p = true) (hrole : s.parN Par.PTP_ROLE = 0) (hgm : (engine s d p).gm = none) (hsel : s.eth.sel = none) (hun : Unlocked s) :
    Answers (execPtpAnnounceReceive p dom gm rank utc s) fun t =>
      engine t d p = { PtpPort.zero with gm := some gm, rank := rank, utc := utc, off := (engine s d p).off } ∧ t.on Fd.PTP_STAT_MASTER = false ∧
        t.on Fd.PTP_STAT_LOCK = false ∧ RegsBut ptpRegs s t := by
  obtain ⟨u, hu⟩ : ∃ u, u = s.lower Fd.PTP_STAT_MASTER := ⟨_, rfl⟩
  obtain ⟨e, he⟩ : ∃ e, e = { PtpPort.zero with gm := some gm, rank := rank, utc := utc, off := (engine s d p).off } := ⟨_, rfl⟩
  have heq : execPtpAnnounceReceive p dom gm rank utc s = .next (ptpJudge (setEngine d p e u)) := by
    rw [execPtpAnnounceReceive, awake_of_not_held hh, ptpAnnounce, hdom, he, hu]
    dsimp only
    rw [hup, hgm]
    exact congrArg _ ((if_neg (by simp)).trans ((if_neg (by omega)).trans ((if_neg (by simp)).trans (if_pos (by simp)))))
  have hm : u.on Fd.PTP_STAT_MASTER = false := by rw [hu]; simp [on, lower]
  have hur : RegsBut [Reg.PTP_STAT] s u := by rw [hu]; exact (RegsBut.refl _ s).lower (by simp)
  have hue : u.eth = s.eth := by rw [hu, lower_eth]
  obtain ⟨k1, -, k3, k4, k5⟩ := judged_setEngine (s := u) (e := e) (by rw [hue, hsel]) (hun.congr (by rw [hue])) (domIndex_lt hdom) (portUp_lt hup) (by rw [he]; rfl)
  exact ⟨_, heq, k1.trans he, k4.trans hm, k3, (hur.mono (by decide)).trans k5⟩

theorem announceTimeout_spec (hh : s.held .siteLink = false) (hdom : domIndex s dom = some d) (hp : p < 2) (hrole : s.parN Par.PTP_ROLE = 0)
    (hsel : s.eth.sel = none) (hun : Unlocked s) : Answers (execAnnounceTimeout p dom s) fun t =>
      engine t d p = { PtpPort.zero with off := (engine s d p).off } ∧ t.on Fd.PTP_STAT_LOCK = false ∧ RegsBut ptpRegs s t := by
  obtain ⟨u, hu⟩ : ∃ u, u = ptpJudge (setEngine d p { PtpPort.zero with off := (engine s d p).off } s) := ⟨_, rfl⟩
  have hpar : u.parN Par.PTP_ROLE = 0 := by
    rw [hu, parN_congr ((ptpJudge_within _).same .params (by simp))]
    exact hrole
  have heq : execAnnounceTimeout p dom s = .next u := by
    rw [execAnnounceTimeout, awake_of_not_held hh, hdom]
    dsimp only
    rw [if_pos hp, ptpQuiet, ← hu]
    exact congrArg _ (if_neg (by omega))
  obtain ⟨k1, -, k3, -, k5⟩ := judged_setEngine (s := s) (e := { PtpPort.zero with off := (engine s d p).off }) hsel hun (domIndex_lt hdom) hp rfl
  exact ⟨_, heq, by rw [hu, k1], by rw [hu, k3], by rw [hu]; exact k5⟩

theorem ptpOwn_portA {m : Nat → Nat → PtpOut} (h0 : portUp s 0 = true) (h1 : portUp s 1 = false) :
    ptpOwn m s = setEth { s.eth with ptpSeq := (s.eth.ptpSeq + 1) % 65536 } (s.emit (.ptp 0 (m 0 s.eth.ptpSeq))) := by
  rw [ptpOwn, List.filter_cons_of_pos h0, List.filter_cons_of_neg (by simp [h1])]
  rfl

theorem ptpOwn_both {m : Nat → Nat → PtpOut} (h0 : portUp s 0 = true) (h1 : portUp s 1 = true) : ptpOwn m s =
    setEth { s.eth with ptpSeq := (s.eth.ptpSeq + 1) % 65536 } ((s.emit (.ptp 0 (m 0 s.eth.ptpSeq))).emit (.ptp 1 (m 1 s.eth.ptpSeq))) := by
  rw [ptpOwn, List.filter_cons_of_pos h0, List.filter_cons_of_pos h1]
  rfl

theorem ptpSyncSend_portA (hh : s.held .siteLink = false) (hslew : s.on Fd.PTP_STAT_SLEW = false) (hm : ptpMaster s = true) (h0 : portUp s 0 = true)
    (h1 : portUp s 1 = false) : Answers (execPtpSyncSend dt s) fun t =>
      t.out = .ptp 0 (.sync (ownDom s) s.eth.ptpSeq (s.eth.st + dt + s.parN (Par.PHY_TXLAT 0))) :: s.out ∧ t.eth.ptpSeq = (s.eth.ptpSeq + 1) % 65536 ∧
        RegsBut [Reg.PTP_ST 0, Reg.PTP_ST 1] s t := by
  have hout := stAdvance_out dt s
  have heth := stAdvance_eth dt hslew
  have hr := stAdvance_regsBut_plain dt hslew
  have hpar := parN_congr (stAdvance_params dt s) (Par.PHY_TXLAT 0)
  have hdom := stAdvance_ownDom dt s
  have e : execPtpSyncSend dt s = .next (ptpOwn (fun p n => .sync (ownDom (stAdvance dt s)) n ((stAdvance dt s).eth.st + (stAdvance dt s).parN (Par.PHY_TXLAT p)))
      (stAdvance dt s)) := by
    rw [execPtpSyncSend, awake_of_not_held hh]
    exact congrArg _ (if_pos (by rw [stAdvance_master dt s, hm]))
  rw [ptpOwn_portA (by rw [stAdvance_portUp, h0]) (by rw [stAdvance_portUp, h1])] at e
  generalize stAdvance dt s = u at *
  refine ⟨_, e, ?_, ?_, hr.trans (.trans (.emit (.refl _ u)) (setEth_regsBut _ _ _))⟩
  · change _ :: u.out = _
    rw [hout, hdom, hpar, heth]
  · change (u.eth.ptpSeq + 1) % 65536 = _
    rw [heth]

theorem ptpAnnounceSend_both (hh : s.held .siteLink = false) (hm : ptpMaster s = true) (h0 : portUp s 0 = true) (h1 : portUp s 1 = true) :
    Answers (execPtpAnnounceSend s) fun t =>
      t.out = .ptp 1 (.announce (ownDom s) s.eth.ptpSeq (s.parN Par.PRIO1) 248 0xFE 255) ::
        .ptp 0 (.announce (ownDom s) s.eth.ptpSeq (s.parN Par.PRIO1) 248 0xFE 255) :: s.out ∧
        t.eth = { s.eth with ptpSeq := (s.eth.ptpSeq + 1) % 65536 } ∧ RegsBut [] s t ∧ Within [.eth, .out] s t := by
  refine ⟨_, (awake_of_not_held hh).trans (congrArg _ ((if_pos hm).trans (ptpOwn_both h0 h1))), rfl, rfl, ?_, ?_⟩
  · exact (RegsBut.emit (.emit (.refl _ s))).trans (setEth_regsBut _ _ _)
  · exact (((Within.refl _ s).emit rfl).emit rfl).comp (setEth_within _ _) rfl

theorem ptpDelayReqSend_spec (hh : s.held .siteLink = false) (hslew : s.on Fd.PTP_STAT_SLEW = false) (hdom : domIndex s dom = some d)
    (hears : ptpHears s d p = true) (hlen : s.eth.ports.length = 4) : Answers (execPtpDelayReqSend p dom dt s) fun t =>
      (engine t d p).delay = some ⟨s.eth.ptpSeq, s.eth.st + dt + s.parN (Par.PHY_TXLAT p)⟩ ∧ t.out = .ptp p (.delayReq dom s.eth.ptpSeq) :: s.out ∧
        t.eth.ptpSeq = (s.eth.ptpSeq + 1) % 65536 ∧ RegsBut [Reg.PTP_ST 0, Reg.PTP_ST 1] s t := by
  have hd := domIndex_lt hdom
  have hp := portUp_lt (ptpHears_portUp hears)
  have hout := stAdvance_out dt s
  have heth := stAdvance_eth dt hslew
  have hr := stAdvance_regsBut_plain dt hslew
  have hpar := parN_congr (stAdvance_params dt s) (Par.PHY_TXLAT p)
  obtain ⟨u, hu⟩ : ∃ u, u = stAdvance dt s := ⟨_, rfl⟩
  obtain ⟨v, hv⟩ : ∃ v, v = setEngine d p { engine u d p with delay := some ⟨u.eth.ptpSeq, u.eth.st + u.parN (Par.PHY_TXLAT p)⟩ } (u.emit (.ptp p (.delayReq dom u.eth.ptpSeq))) :=
    ⟨_, rfl⟩
  have e : execPtpDelayReqSend p dom dt s = .next (setEth { v.eth with ptpSeq := (v.eth.ptpSeq + 1) % 65536 } v) := by
    rw [execPtpDelayReqSend, awake_of_not_held hh]
    dsimp only
    rw [stAdvance_domIndex dt s, hdom]
    dsimp only
    rw [stAdvance_hears dt hslew, hears, hv, hu]
    rfl
  rw [← hu] at hout heth hr hpar
  have hulen : u.eth.ports.length = 4 := by rw [heth, hlen]
  have hvseq : v.eth.ptpSeq = s.eth.ptpSeq := by rw [hv]; change u.eth.ptpSeq = _; rw [heth]
  have hveng : engine v d p = { engine u d p with delay := some ⟨u.eth.ptpSeq, u.eth.st + u.parN (Par.PHY_TXLAT p)⟩ } := by
    rw [hv]
    exact engine_setEngine_same (by change _ < u.eth.ports.length; omega)
  have hvout : v.out = .ptp p (.delayReq dom s.eth.ptpSeq) :: s.out := by
    rw [hv]
    change _ :: u.out = _
    rw [hout, heth]
  have hvr : RegsBut [Reg.PTP_ST 0, Reg.PTP_ST 1] s v := by
    rw [hv]
    exact hr.trans (.trans (.emit (.refl _ u)) (setEngine_regsBut _ _ _ _ _))
  refine ⟨_, e, ?_, hvout, ?_, hvr.trans (setEth_regsBut _ _ _)⟩
  · refine (congrArg PtpPort.delay ((engine_congr rfl d p).trans hveng)).trans ?_
    dsimp only
    rw [hpar, heth]
  · change (v.eth.ptpSeq + 1) % 65536 = _
    rw [hvseq]

theorem ptpDelayRespReceive_spec {w : PtpWait} {t2 t1 received : Int} (hh : s.held .siteLink = false) (hdom : domIndex s dom = some d)
    (hears : ptpHears s d p = true) (hdelay : (engine s d p).delay = some w) (hlast : (engine s d p).last = some (t2, t1)) (hlen : s.eth.ports.length = 4) :
    Answers (execPtpDelayRespReceive p dom w.seq received corr s) fun t =>
      engine t d p = { engine s d p with delay := none, mpd := (((t2 - t1) + (received - corr - w.stamp)) / 2).toNat } ∧ t.eth.st = s.eth.st ∧
        RegsBut [Reg.PTP_OFS d, Reg.PTP_MPD d, Reg.PTP_GMID d 0, Reg.PTP_GMID d 1] s t := by
  have hd := domIndex_lt hdom
  have hp := portUp_lt (ptpHears_portUp hears)
  obtain ⟨e, he⟩ : ∃ e, e = { engine s d p with delay := none, mpd := (((t2 - t1) + (received - corr - w.stamp)) / 2).toNat } := ⟨_, rfl⟩
  have heq : execPtpDelayRespReceive p dom w.seq received corr s = .next (ptpShow d p (s.regI (Reg.PTP_OFS d)) (setEngine d p e s)) := by
    rw [execPtpDelayRespReceive, awake_of_not_held hh, hdom]
    dsimp only
    rw [if_pos hears, ptpDelay, he]
    dsimp only
    rw [hdelay, hlast]
    exact congrArg _ (if_pos rfl)
  have hself := engine_setEngine_same (e := e) (show 2 * d + p < s.eth.ports.length by omega)
  have hr := setEngine_regsBut [Reg.PTP_OFS d, Reg.PTP_MPD d, Reg.PTP_GMID d 0, Reg.PTP_GMID d 1] d p e s
  have hst : (setEngine d p e s).eth.st = s.eth.st := rfl
  rw [← he]
  generalize setEngine d p e s = u at *
  have hshow := ptpShow_eth d p (s.regI (Reg.PTP_OFS d)) u
  exact ⟨_, heq, (engine_congr (by rw [hshow]) d p).trans hself, by rw [hshow, hst], hr.trans (ptpShow_regsBut _ _ _ _)⟩

theorem ptpDelayReqReceive_master {asker : Nat} (hh : s.held .siteLink = false) (hslew : s.on Fd.PTP_STAT_SLEW = false) (hup : portUp s p = true)
    (hm : ptpMaster s = true) : Answers (execPtpDelayReqReceive p dom seq asker corr residence dt s) fun t =>
      t.out = .ptp p (.delayResp dom seq asker (s.eth.st + dt - s.parN (Par.PHY_RXLAT p))) :: s.out ∧ RegsBut [Reg.PTP_ST 0, Reg.PTP_ST 1] s t := by
  have e : execPtpDelayReqReceive p dom seq asker corr residence dt s =
      .next ((stAdvance dt s).emit (.ptp p (.delayResp dom seq asker (s.eth.st + dt - s.parN (Par.PHY_RXLAT p))))) := by
    rw [execPtpDelayReqReceive, awake_of_not_held hh]
    dsimp only
    rw [stAdvance_portUp, hup, stAdvance_master dt s, hm, stAdvance_st, parN_congr (stAdvance_params dt s)]
    rfl
  refine ⟨_, e, ?_, (stAdvance_regsBut_plain dt hslew).emit⟩
  exact congrArg _ (stAdvance_out dt s)

end Clauses

/-- Settles O37: without a lock and with no domain selected, a judgement of the locks after an engine's change leaves the engines and the site time alone. -/
theorem ptpEngine : Obligations.PtpEngine := by
  refine ⟨fun s p dom seq d dt o c r hh hsl hro hdom hp hears hlen => ptpSyncReceive_twoStep hh hsl hro hdom hp hears hlen,
    fun s p dom seq d dt o c r a hh hsl hro ha hdom hp hears hset hsel h0 h1 hlen => ?_,
    fun s p dom seq d w o c r hh hro hdom hup hsy hseq hset hsel h0 h1 hlen => ?_,
    fun s p dom d gm rank utc hh hdom hup hro hgm hsel h0 h1 hlen => ?_, fun s p dom d hh hdom hp hro hsel h0 h1 hlen => ?_,
    fun s dt hh hsl hm h0 h1 => ?_, fun s hh hm h0 h1 => ptpAnnounceSend_both hh hm h0 h1, fun s hh hm => ?_,
    fun s p dom d dt hh hsl hdom hears hlen => ?_, fun s p dom d w t2 t1 r c hh hdom hears hdel hlast hlen => ?_,
    fun s p dom seq a dt c r hh hsl hup hm => ?_⟩
  · obtain ⟨t, e, k1, k2, k3, k4⟩ := ptpSyncReceive_first hh hsl hro ha hdom hears hset hsel ⟨h0, h1, hlen⟩
    exact Answers.mk e (execPtpSyncReceive_answers p dom seq false o c r dt s) fun hw => ⟨k1, k2, k3, k4, hw⟩
  · obtain ⟨t, e, k1, k2, k3⟩ := ptpFollowUpReceive_first hh hro hdom hup hsy hseq hset hsel ⟨h0, h1, hlen⟩
    exact Answers.mk e (execPtpFollowUpReceive_answers p dom seq o c r s) fun hw => ⟨k1, k2, k3, hw⟩
  · obtain ⟨t, e, k1, k2, k3, k4⟩ := ptpAnnounceReceive_first hh hdom hup hro hgm hsel ⟨h0, h1, hlen⟩
    exact Answers.mk e (execPtpAnnounceReceive_answers p dom gm rank utc s) fun hw => ⟨k1, k2, k3, k4, hw⟩
  · obtain ⟨t, e, k1, k2, k3⟩ := announceTimeout_spec hh hdom hp hro hsel ⟨h0, h1, hlen⟩
    exact Answers.mk e (execAnnounceTimeout_answers p dom s) fun hw => ⟨k1, k2, k3, hw⟩
  · obtain ⟨t, e, k1, k2, k3⟩ := ptpSyncSend_portA (dt := dt) hh hsl hm h0 h1
    exact Answers.mk e (execPtpSyncSend_answers dt s) fun hw => ⟨k1, k2, k3, hw⟩
  · exact ⟨s, (awake_of_not_held hh).trans (congrArg _ (if_neg (by simp [hm]))), rfl⟩
  · obtain ⟨t, e, k1, k2, k3, k4⟩ := ptpDelayReqSend_spec (dt := dt) hh hsl hdom hears hlen
    exact Answers.mk e (execPtpDelayReqSend_answers p dom dt s) fun hw => ⟨k1, k2, k3, k4, hw⟩
  · obtain ⟨t, e, k1, k2, k3⟩ := ptpDelayRespReceive_spec (received := r) (corr := c) hh hdom hears hdel hlast hlen
    exact Answers.mk e (execPtpDelayRespReceive_answers p dom w.seq r c s) fun hw => ⟨k1, k2, k3, hw⟩
  · obtain ⟨t, e, k1, k2⟩ := ptpDelayReqReceive_master (dom := dom) (seq := seq) (asker := a) (corr := c) (residence := r) (dt := dt) hh hsl hup hm
    exact Answers.mk e (execPtpDelayReqReceive_answers p dom seq a c r dt s) fun hw => ⟨k1, k2, hw⟩

end Sys2Proof.Machine
end

section
/-!
The module that shares the site's power (spec/13_amene_bus.md R451 to R456).
-/
namespace Sys2Proof.Machine

open State

section Shares

variable {s t : State} {q : SharePost} {d : Bool} {g : Shares}

/-- Shares of posts that have all they ask for do not grow (R454). -/
theorem shareGrow_done (n : Nat) {posts : List SharePost} (h : ∀ q ∈ posts, q.p.natAbs ≤ shareOf g q.post) : shareGrow d s posts n g = g := by
  have hround : shareRound d s posts g = (g, false) := by
    induction posts with
    | nil => rfl
    | cons q qs ih =>
      have hq := h q (by simp)
      rw [shareRound, List.foldl_cons, if_neg (fun hc => absurd hc.1 (by dsimp only; omega))]
      exact ih fun r hr => h r (by simp [hr])
  cases n with
  | zero => rfl
  | succ n => rw [shareGrow, hround]; rfl

/-- The shares of a direction in which no post draws. -/
theorem shareDirection_none (h : s.posts.filter (fun q => postLive q && inDirection d q.p) = []) : shareDirection d s = [] := by
  rw [shareDirection, h]
  exact shareGrow_done _ (fun _ hq => by simp [postSort] at hq)

theorem shareOf_one (post n : Nat) : shareOf [(post, n)] post = n := by simp [shareOf, assocGet]

/-- The only post of a direction, one that asks for no more than the floor, gets what it asks for (R454). -/
theorem shareDirection_one (h : s.posts.filter (fun q => postLive q && inDirection d q.p) = [q]) (hf : q.p.natAbs ≤ s.parN Par.SITE_FLOOR) :
    shareDirection d s = [(q.post, q.p.natAbs)] := by
  have hsort : postSort [q] = [q] := rfl
  rw [shareDirection, h, hsort, List.map_singleton, Nat.min_eq_left hf]
  refine shareGrow_done _ fun r hr => ?_
  obtain rfl := List.mem_singleton.1 hr
  simp only [shareOf_one, Nat.le_refl]

theorem heldOf_idle (hp : q.p = 0) (hg : q.grants = []) : heldOf d g q = 0 := by simp [heldOf, hp, hg, postLive]

/-- A post that draws nothing and may follow no grant. -/
theorem postLive_zero (hp : q.p = 0) : postLive q = false := by simp [postLive, hp]

end Shares

section Run

variable {s t u : State} {q : SharePost}

/-- The registers of the sharing after a run over one post. -/
def shareShown (a b n : Nat) (s : State) : State := ((s.setRegN (Reg.AMB_SITE 0) a).setRegN (Reg.AMB_SITE 1) b).setRegN (Reg.AMB_SITE 2) n

theorem shareShown_regsBut (a b n : Nat) (s : State) : RegsBut [Reg.AMB_SITE 0, Reg.AMB_SITE 1, Reg.AMB_SITE 2] s (shareShown a b n s) :=
  (((RegsBut.refl _ s).setRegN (by simp)).setRegN (by simp)).setRegN (by simp)

theorem shareShown_within (a b n : Nat) (s : State) : Within [.regs] s (shareShown a b n s) := (((Within.refl _ s).setRegN rfl).setRegN rfl).setRegN rfl

theorem shareShown_reg (a b n : Nat) (s : State) : (shareShown a b n s).reg (Reg.AMB_SITE 0) = BitVec.ofNat 32 a ∧
    (shareShown a b n s).reg (Reg.AMB_SITE 1) = BitVec.ofNat 32 b ∧ (shareShown a b n s).reg (Reg.AMB_SITE 2) = BitVec.ofNat 32 n := by
  simp only [shareShown, setRegN]
  refine ⟨?_, ?_, ?_⟩
  · rw [reg_setReg_of_ne _ _ (by decide), reg_setReg_of_ne _ _ (by decide), reg_setReg_self]
  · rw [reg_setReg_of_ne _ _ (by decide), reg_setReg_self]
  · rw [reg_setReg_self]

theorem shareRun_one (hp : s.posts = [q]) (hu : shareGrant (if 0 < q.p then shareDirection true s else shareDirection false s) s q = u) : shareRun s =
    shareShown ((u.posts.map (heldOf true (shareDirection true s))).sum) ((u.posts.map (heldOf false (shareDirection false s))).sum)
      (u.posts.filter postLive).length u := by
  rw [shareRun, hp, List.foldl_cons, List.foldl_nil, hu]
  rfl

/-- The grant to a post that has none, of all that it asks for (R454). -/
def grantMsg (q : SharePost) : AmbMsg := ⟨0x11, Bits.leBytes 2 q.post ++ Bits.leBytes 2 ((q.gnum + 1) % 65536) ++ Bits.leBytes 4 (Bits.ofInt 32 q.p)⟩

def granted (q : SharePost) : SharePost := { q with gnum := (q.gnum + 1) % 65536, grants := [((q.gnum + 1) % 65536, q.p)], grantAge := 0 }

theorem shareGrant_first (hposts : s.posts = [q]) (hpos : 0 < q.p) (hlive : postLive q = true) (hg : q.grants = []) (hvia : q.via = .own) :
    shareGrant [(q.post, q.p.natAbs)] s q = toCore .own (grantMsg q) ((setPosts [granted q] s).bumpReg (Reg.AMB_SITE 3)) := by
  have hp : ((q.p.natAbs : Nat) : Int) = q.p := Int.natAbs_of_nonneg (by omega)
  rw [shareGrant, shareOf_one, if_pos hpos, hp, hg, hlive, hposts]
  dsimp only
  rw [Bool.and_true, if_pos rfl, List.map_singleton, if_pos (by simp)]
  change siteReply q.via q.post (grantMsg q) ((setPosts [{ granted q with grants := [((q.gnum + 1) % 65536, q.p)] }] s).bumpReg (Reg.AMB_SITE 3)) = _
  rw [hvia]
  rfl

theorem heldOf_granted (hpos : 0 < q.p) (hlive : postLive q = true) : heldOf true [(q.post, q.p.natAbs)] (granted q) = q.p.natAbs ∧ heldOf false [] (granted q) = 0 := by
  have hl : postLive (granted q) = true := hlive
  have hp : (granted q).p = q.p := rfl
  have hg : (granted q).grants = [((q.gnum + 1) % 65536, q.p)] := rfl
  have hpost : shareOf [(q.post, q.p.natAbs)] (granted q).post = q.p.natAbs := shareOf_one _ _
  have hneg : ¬ q.p < 0 := by omega
  refine ⟨?_, ?_⟩
  · rw [heldOf, hl, hp, hg, hpost]
    by_cases hf : gnumFrom (granted q).ackg ((q.gnum + 1) % 65536) = true
    · simp [inDirection, hpos, hf]
    · simp [inDirection, hpos, hf]
  · rw [heldOf]
    simp [granted, inDirection, hneg]

/-- A run that grants its only post what it asks for (R454). -/
theorem shareRun_first (hposts : s.posts = [q]) (hpos : 0 < q.p) (hlive : postLive q = true) (hg : q.grants = []) (hvia : q.via = .own)
    (hf : q.p.natAbs ≤ s.parN Par.SITE_FLOOR) :
    shareRun s = shareShown q.p.natAbs 0 1 (toCore .own (grantMsg q) ((setPosts [granted q] s).bumpReg (Reg.AMB_SITE 3))) := by
  have hneg : ¬ q.p < 0 := by omega
  have hi : shareDirection true s = [(q.post, q.p.natAbs)] := shareDirection_one (by rw [hposts]; simp [hlive, inDirection, hpos]) hf
  have ho : shareDirection false s = [] := shareDirection_none (by rw [hposts]; simp [inDirection, hneg])
  have hu := shareGrant_first hposts hpos hlive hg hvia
  obtain ⟨h1, h2⟩ := heldOf_granted hpos hlive
  have hl : postLive (granted q) = true := hlive
  obtain ⟨v, hv⟩ : ∃ v, v = toCore .own (grantMsg q) ((setPosts [granted q] s).bumpReg (Reg.AMB_SITE 3)) := ⟨_, rfl⟩
  have hvp : v.posts = [granted q] := by rw [hv]; rfl
  rw [← hv] at hu ⊢
  rw [shareRun_one hposts (by rw [if_pos hpos, hi, hu]), hi, ho, hvp]
  simp [h1, h2, hl]

theorem shareClasses_none (h : s.x11 = []) : shareClasses s.x11.length s = s := by rw [h]; rfl

theorem powerShareRun_first (hs : sharing s = true) (hx : s.x11 = []) (hposts : s.posts = [q]) (hpos : 0 < q.p) (hf : q.p.natAbs ≤ s.parN Par.SITE_FLOOR)
    (hage : q.age + 1 < 10) (hg : q.grants = []) (hvia : q.via = .own) : Answers (execPowerShareRun s) fun t =>
      t.posts = [{ q with age := q.age + 1, gnum := (q.gnum + 1) % 65536, grants := [((q.gnum + 1) % 65536, q.p)], grantAge := 0 }] ∧
        t.x11 = [⟨.own, ⟨0x11, Bits.leBytes 2 q.post ++ Bits.leBytes 2 ((q.gnum + 1) % 65536) ++ Bits.leBytes 4 (Bits.ofInt 32 q.p)⟩⟩] ∧
        t.reg (Reg.AMB_SITE 0) = BitVec.ofNat 32 q.p.natAbs ∧ t.reg (Reg.AMB_SITE 1) = 0 ∧ t.regN (Reg.AMB_SITE 2) = 1 ∧
        t.regN (Reg.AMB_SITE 3) = min (s.regN (Reg.AMB_SITE 3) + 1) 0xFFFFFFFF ∧
        RegsBut [Reg.AMB_SITE 0, Reg.AMB_SITE 1, Reg.AMB_SITE 2, Reg.AMB_SITE 3] s t ∧ Within [.regs, .x11, .posts] s t := by
  obtain ⟨r, hr⟩ : ∃ r : SharePost, r = { q with age := q.age + 1, grantAge := q.grantAge + 1 } := ⟨_, rfl⟩
  obtain ⟨u, hu⟩ : ∃ u, u = setPosts [r] s := ⟨_, rfl⟩
  have hage' : shareAge s = u := by rw [shareAge, hposts, hu, hr]; rfl
  have hlive : postLive r = true := by
    rw [hr]
    simp only [postLive, Bool.and_eq_true, bne_iff_ne, decide_eq_true_eq]
    omega
  obtain ⟨v, hv⟩ : ∃ v, v = toCore .own (grantMsg r) ((setPosts [granted r] u).bumpReg (Reg.AMB_SITE 3)) := ⟨_, rfl⟩
  have e : execPowerShareRun s = .next (shareShown r.p.natAbs 0 1 v) := by
    rw [execPowerShareRun, if_pos hs, shareClasses_none hx, hage', hv]
    exact congrArg _ (shareRun_first (q := r) (by rw [hu]; rfl) (by rw [hr]; exact hpos) hlive (by rw [hr]; exact hg) (by rw [hr]; exact hvia)
      (by rw [hr, hu]; exact hf))
  have hvr : RegsBut [Reg.AMB_SITE 3] s v := by
    rw [hv, hu]
    refine RegsBut.same (t := (setPosts [granted r] (setPosts [r] s)).bumpReg (Reg.AMB_SITE 3)) ?_ rfl
    exact RegsBut.bumpReg ((RegsBut.refl _ s).same rfl) (by simp)
  have hvc : v.regN (Reg.AMB_SITE 3) = min (s.regN (Reg.AMB_SITE 3) + 1) 0xFFFFFFFF := by
    rw [hv, hu]
    exact regN_bumpReg_same (setPosts [granted r] (setPosts [r] s)) _ 1
  have hvp : v.posts = [granted r] := by rw [hv]; rfl
  have hvx : v.x11 = [⟨.own, grantMsg r⟩] := by
    rw [hv, hu]
    change s.x11 ++ _ = _
    rw [hx]
    rfl
  have hvw : Within [.regs, .x11, .posts] s v := by
    rw [hv, hu]
    exact ((((setPosts_within _ s).sub rfl).comp (setPosts_within _ _) rfl).bumpReg rfl).comp (toCore_within _ _ _) rfl
  have hsw := shareShown_within r.p.natAbs 0 1 v
  have hsr := shareShown_regsBut r.p.natAbs 0 1 v
  have hrp : r.p = q.p := by rw [hr]
  obtain ⟨k0, k1, k2⟩ := shareShown_reg r.p.natAbs 0 1 v
  refine ⟨_, e, ?_, ?_, hrp ▸ k0, k1, ?_, ?_, (hvr.mono (by simp)).trans (hsr.mono (by simp)), hvw.comp hsw rfl⟩
  · rw [hsw.same .posts (by simp), hvp, hr]
    rfl
  · rw [hsw.same .x11 (by simp), hvx, hr]
    rfl
  · rw [regN, k2]
    rfl
  · rw [hsr.regN (by decide), hvc]

/-- A grant changes of a post only what is granted. -/
theorem shareGrant_keeps {α : Type} (f : SharePost → α) (g : Shares) (hf : ∀ (x : SharePost) n l, f { x with gnum := n, grants := l, grantAge := 0 } = f x)
    (hposts : s.posts = [q]) : (shareGrant g s q).posts.map f = [f q] ∧ (shareGrant g s q).postOrder = s.postOrder := by
  obtain ⟨due, n, p, m, e⟩ : ∃ (due : Bool) (n : Nat) (p : Int) (m : AmbMsg), shareGrant g s q = if postLive q && due then
      siteReply q.via q.post m ((setPosts (s.posts.map (fun x => if x.post == q.post then { q with gnum := n, grants := (n, p) :: q.grants, grantAge := 0 } else x))
        s).bumpReg (Reg.AMB_SITE 3)) else s := ⟨_, _, _, _, rfl⟩
  rw [e]
  split
  · rw [(siteReply_within _ _ _ _).same .posts (by simp), (siteReply_within _ _ _ _).same .postOrder (by simp), bumpReg_posts, bumpReg_postOrder]
    refine ⟨?_, rfl⟩
    change (s.posts.map _).map f = _
    rw [hposts]
    simp [hf]
  · exact ⟨by rw [hposts]; rfl, rfl⟩

theorem shareRun_keeps {α : Type} (f : SharePost → α) (hf : ∀ (x : SharePost) n l, f { x with gnum := n, grants := l, grantAge := 0 } = f x)
    (hposts : s.posts = [q]) : (shareRun s).posts.map f = [f q] ∧ (shareRun s).postOrder = s.postOrder := by
  obtain ⟨k1, k2⟩ := shareGrant_keeps f (if 0 < q.p then shareDirection true s else shareDirection false s) hf hposts
  rw [shareRun_one hposts rfl]
  generalize shareGrant _ s q = u at *
  rw [(shareShown_within _ _ _ u).same .posts (by simp), (shareShown_within _ _ _ u).same .postOrder (by simp)]
  exact ⟨k1, k2⟩

/-- The first REQ of the only post (R453). -/
theorem shareReq_first {m : SiteMsg} (hposts : s.posts = []) (hlen : m.msg.body.length = 12) :
    (shareReq m s).posts.map (fun q => (q.post, q.rnum, q.p, q.age)) = [(msgNum m.msg 0 2 % 4096, msgNum m.msg 2 2, Bits.signed 32 (msgNum m.msg 4 4), 0)] ∧
      (shareReq m s).postOrder = s.postOrder + 1 := by
  obtain ⟨q, u, e, hu, hq, ho⟩ : ∃ q u, shareReq m s = shareRun u ∧ u.posts = [q] ∧
      (q.post, q.rnum, q.p, q.age) = (msgNum m.msg 0 2 % 4096, msgNum m.msg 2 2, Bits.signed 32 (msgNum m.msg 4 4), 0) ∧ u.postOrder = s.postOrder + 1 := by
    rw [shareReq]
    dsimp only
    rw [if_neg (by omega), hposts]
    exact ⟨_, _, rfl, rfl, rfl, rfl⟩
  obtain ⟨k1, k2⟩ := shareRun_keeps (fun q : SharePost => (q.post, q.rnum, q.p, q.age)) (fun _ _ _ => rfl) hu
  rw [e, k1, k2, ho, hq]
  exact ⟨rfl, rfl⟩

theorem shareDrop_one (hposts : s.posts = [q]) : shareDrop q.post s = setPosts [{ q with p := 0, grants := [] }] s := by
  rw [shareDrop, hposts, List.map_singleton, if_pos (by simp)]

/-- A run over a post that draws nothing and may follow no grant (R454). -/
theorem shareRun_idle (hposts : s.posts = [q]) (hp : q.p = 0) (hg : q.grants = []) : shareRun s = shareShown 0 0 0 s := by
  have hlive := postLive_zero hp
  have hu (g : Shares) : shareGrant g s q = s := if_neg (by simp [hlive])
  rw [shareRun_one hposts (hu _), hposts]
  simp [heldOf_idle hp hg, hlive]

theorem shareRelReceive_spec {m : SiteMsg} (hm : siteMessage 0x12 s = (some m, u)) (hs : sharing u = true) (hposts : u.posts = [q])
    (hpost : msgNum m.msg 0 2 % 4096 = q.post) : Answers (execShareRelReceive s) fun t =>
      t.posts = [{ q with p := 0, grants := [] }] ∧ t.reg (Reg.AMB_SITE 0) = 0 ∧ t.reg (Reg.AMB_SITE 1) = 0 ∧ t.reg (Reg.AMB_SITE 2) = 0 ∧
        RegsBut [Reg.AMB_SITE 0, Reg.AMB_SITE 1, Reg.AMB_SITE 2] u t ∧ Within [.regs, .posts] u t := by
  obtain ⟨v, hv⟩ : ∃ v, v = setPosts [{ q with p := 0, grants := [] }] u := ⟨_, rfl⟩
  have hvp : v.posts = [{ q with p := 0, grants := [] }] := by rw [hv]; rfl
  have hvr : RegsBut [Reg.AMB_SITE 0, Reg.AMB_SITE 1, Reg.AMB_SITE 2] u v := by
    rw [hv]
    exact (RegsBut.refl _ u).same rfl
  have hvw : Within [.posts] u v := by rw [hv]; exact setPosts_within _ u
  have e : execShareRelReceive s = .next (shareShown 0 0 0 v) := by
    rw [execShareRelReceive, hm]
    dsimp only
    rw [if_pos hs, hpost, shareDrop_one hposts, ← hv]
    exact congrArg _ (shareRun_idle hvp rfl rfl)
  obtain ⟨k0, k1, k2⟩ := shareShown_reg 0 0 0 v
  refine ⟨_, e, ?_, k0, k1, k2, hvr.trans (shareShown_regsBut _ _ _ _), (hvw.sub rfl).comp (shareShown_within _ _ _ _) rfl⟩
  rw [(shareShown_within _ _ _ v).same .posts (by simp), hvp]

theorem heldPowerExpiry_dead (hposts : s.posts = [q]) (hl : postLive q = false) : Answers (execHeldPowerExpiry q.post s) fun t =>
    t.posts = [{ q with p := 0, grants := [] }] ∧ RegsBut [] s t ∧ Within [.posts] s t := by
  refine ⟨setPosts [{ q with p := 0, grants := [] }] s, ?_, rfl, (RegsBut.refl _ s).same rfl, setPosts_within _ s⟩
  rw [execHeldPowerExpiry, hposts, if_pos (by simp [hl]), shareDrop_one hposts]

theorem heldPowerExpiry_live (hposts : s.posts = [q]) (hl : postLive q = true) : Answers (execHeldPowerExpiry q.post s) fun t => t = s := by
  refine ⟨s, ?_, rfl⟩
  rw [execHeldPowerExpiry, hposts, if_neg (by simp [hl])]

end Run

section Setpar

variable {s u : State} {m : SiteMsg}

theorem setparReceive_of {t : State} (hm : siteMessage 0x13 s = (some m, u)) (ht : setparTake m u = t) : execSetparReceive s = .next t := by
  rw [execSetparReceive, hm]
  exact congrArg _ ht

theorem setparTake_other (h : msgNum m.msg 0 2 ≠ ownGrp u) : setparTake m u = u := if_pos h

/-- A parameter set by the module that shares the power itself (R455). -/
theorem setparTake_written {w : State} (hgrp : msgNum m.msg 0 2 = ownGrp u) (hvia : m.via = .own) (hs : sharing u = true) (h1 : 1 ≤ msgNum m.msg 5 1)
    (h8 : msgNum m.msg 5 1 ≤ 8) (hlen : m.msg.body.length = 6 + msgNum m.msg 5 1)
    (hw : paramWrite true 2 (msgNum m.msg 2 1 * 1000 + msgNum m.msg 3 2) (msgNum m.msg 5 1) (msgNum m.msg 6 (msgNum m.msg 5 1)) u = (0, w)) :
    setparTake m u = w := by
  rw [setparTake, hvia, hw]
  exact (if_neg (by simp [hgrp])).trans ((if_neg (by simp [hs, hlen]; omega)).trans (if_pos rfl))

theorem setparTake_refused (hgrp : msgNum m.msg 0 2 = ownGrp u) (hvia : m.via = .own) (hs : sharing u = false) :
    setparTake m u = u.bumpReg (Reg.AMB_CNT 6) := by
  rw [setparTake, hvia]
  exact (if_neg (by simp [hgrp])).trans (if_pos (by simp [hs]))

end Setpar

/-- Settles O41: the only post, one that asks for no more than the floor, is granted all of it at the first run, and a post without power is left alone by a
run. -/
theorem powerSharing : Obligations.PowerSharing := by
  refine ⟨fun s hs => ⟨s, congrArg _ (if_neg (by simp [hs])), rfl⟩,
    fun s q hs hx hp h0 hf ha hg hv => powerShareRun_first hs hx hp h0 hf ha hg hv, fun s u m hm hs hx hp hl => ?_,
    fun s u m hm hs => ?_, fun s u m q hm hs hp hq => shareRelReceive_spec hm hs hp hq, fun s q hp hl => heldPowerExpiry_dead hp hl,
    fun s q hp hl => heldPowerExpiry_live hp hl, fun s u m hm hg => ⟨u, setparReceive_of hm (setparTake_other hg), rfl⟩,
    fun s u w m hm hg hv hs h1 h8 hl hw => ⟨w, setparReceive_of hm (setparTake_written hg hv hs h1 h8 hl hw), rfl⟩,
    fun s u m hm hg hv hs => ?_, fun s u f m hf hm hmt hg => ?_⟩
  · obtain ⟨k1, k2⟩ := shareReq_first (s := u) hp hl
    refine Answers.mk (t := shareReq m u) ?_ (execShareReqReceive_answers s) fun hw => ⟨k1, k2, hw⟩
    change execShareReqReceive s = _
    rw [execShareReqReceive, hm]
    dsimp only
    rw [if_pos hs, shareClasses_none hx]
  · refine ⟨u, ?_, rfl⟩
    change execShareReqReceive s = _
    rw [execShareReqReceive, hm]
    exact congrArg _ (if_neg (by simp [hs]))
  · exact ⟨_, setparReceive_of hm (setparTake_refused hg hv hs), regN_bumpReg_same u _ 1, (RegsBut.refl _ u).bumpReg (by simp), (Within.refl _ u).bumpReg rfl⟩
  · refine ⟨toCore (.group 3 (groupNum f 2 2 % 4096)) m u, ?_, rfl, (RegsBut.refl _ u).same rfl, toCore_within _ _ _⟩
    change execBridgedMessageReceive s = _
    rw [execBridgedMessageReceive, bridged, hf]
    dsimp only
    rw [hm]
    dsimp only
    rw [hmt]
    exact congrArg _ ((if_pos ((if_neg (by decide)).trans hg)).trans (if_neg (by decide)))

end Sys2Proof.Machine
end

section
/-!
The associations of the DLMS server (spec/14_head_end_dlms.md R461 to R466, R471 to R476).
-/
namespace Sys2Proof.Machine

open State

section Server

variable {s t : State} {x : DlmAssoc} {r : DlmReq} {a client : Nat}

theorem setDlm_regsBut (l : List Nat) (d : DlmState) (s : State) : RegsBut l s (setDlm d s) := (RegsBut.refl l s).same rfl

theorem dlmShow_regsBut (s : State) : RegsBut [Reg.DLM_STAT] s (dlmShow s) := ((RegsBut.refl _ s).put (by simp)).put (by simp)

theorem dlmShow_dlm (s : State) : (dlmShow s).dlm = s.dlm := (dlmShow_within s).same .dlm (by simp)

theorem dlmShow_open (s : State) : (dlmShow s).get Fd.DLM_STAT_OPEN = s.dlm.assocs.length % 16 := by simp [dlmShow]

/-- No staging owner is shown while nothing is staged (R474). -/
theorem dlmShow_stage (h : s.dlm.stage = none) : (dlmShow s).get Fd.DLM_STAT_STAGE = 0 := by
  rw [dlmShow, h]
  simp

theorem dlmSend_public (a : Nat) (m : DlmOut) (s : State) : dlmSend a 0 m s = s.emit (.dlms a m) := if_pos rfl

/-- A ciphered APDU takes the next transmit counter (R466). -/
theorem dlmSend_ciphered (hc : client ≠ 0) (h : s.regN Reg.DLM_TXIC + 1 < 0xFFFFFFFF) (a : Nat) (m : DlmOut) :
    dlmSend a client m s = (s.setRegN Reg.DLM_TXIC (s.regN Reg.DLM_TXIC + 1)).emit (.dlms a m) := by
  have hval : ((s.setRegN Reg.DLM_TXIC (s.regN Reg.DLM_TXIC + 1)).emit (.dlms a m)).regN Reg.DLM_TXIC = s.regN Reg.DLM_TXIC + 1 :=
    (regN_setRegN_self s Reg.DLM_TXIC _).trans (Nat.mod_eq_of_lt (by omega))
  rw [dlmSend, if_neg hc, if_neg (by omega)]
  exact if_neg (by omega)

theorem dlmSend_ciphered_txic (hc : client ≠ 0) (h : s.regN Reg.DLM_TXIC + 1 < 0xFFFFFFFF) (a : Nat) (m : DlmOut) :
    (dlmSend a client m s).regN Reg.DLM_TXIC = s.regN Reg.DLM_TXIC + 1 ∧ RegsBut [Reg.DLM_TXIC] s (dlmSend a client m s) ∧
      (dlmSend a client m s).out = .dlms a m :: s.out := by
  rw [dlmSend_ciphered hc h]
  exact ⟨(regN_setRegN_self s Reg.DLM_TXIC _).trans (Nat.mod_eq_of_lt (by omega)), ((RegsBut.refl _ s).setRegN (by simp)).emit, rfl⟩

theorem dlmTake_public (hf : s.dlm.assocs.find? (fun y => y.id == r.assoc) = some x) (hc : x.client = 0) : dlmTake r s = (some x, s) := by
  rw [dlmTake, hf]
  exact if_pos hc

/-- A request that the server carries out takes its counter as the client's last (R466). -/
theorem dlmTake_ciphered (hf : s.dlm.assocs.find? (fun y => y.id == r.assoc) = some x) (hc : 1 ≤ x.client) (hk : dlmKeys s (x.client - 1) = true)
    (ht : r.tag = true) (hi : s.regN (Reg.DLM_ICNT (x.client - 1)) < r.ic) (hmax : r.ic < 0xFFFFFFFF) :
    dlmTake r s = (some x, s.setRegN (Reg.DLM_ICNT (x.client - 1)) r.ic) := by
  have hval : (s.setRegN (Reg.DLM_ICNT (x.client - 1)) r.ic).regN (Reg.DLM_ICNT (x.client - 1)) = r.ic :=
    (regN_setRegN_self s _ _).trans (Nat.mod_eq_of_lt (by omega))
  rw [dlmTake, hf]
  dsimp only
  rw [hk, ht, hval, if_neg (by omega : ¬ r.ic = 0xFFFFFFFF)]
  exact (if_neg (by omega)).trans ((if_neg (by simp)).trans (if_neg (by omega)))

theorem find_own (h : s.dlm.assocs = [x]) (hid : x.id = a) : s.dlm.assocs.find? (fun y => y.id == a) = some x := by
  rw [h, List.find?_cons_of_pos (by simp [hid])]

/-- The only association ended with nothing staged (R463). -/
theorem dlmEnd_only (h : s.dlm.assocs = [x]) (hst : s.dlm.stage = none) : dlmEnd x.id s = dlmShow (setDlm { s.dlm with assocs := [] } s) := by
  rw [dlmEnd, hst]
  dsimp only
  rw [h, List.filter_cons_of_neg (by simp), List.filter_nil]

theorem dlmEnd_spec (h : s.dlm.assocs = [x]) (hst : s.dlm.stage = none) : (dlmEnd x.id s).dlm = { s.dlm with assocs := [] } ∧
    (dlmEnd x.id s).get Fd.DLM_STAT_OPEN = 0 ∧ RegsBut [Reg.DLM_STAT] s (dlmEnd x.id s) := by
  rw [dlmEnd_only h hst]
  exact ⟨dlmShow_dlm _, dlmShow_open _, (setDlm_regsBut _ _ s).trans (dlmShow_regsBut _)⟩

/-- An APDU whose tag fails ends the association (R465). -/
theorem dlmAuthFail_spec (h : s.dlm.assocs = [x]) (hst : s.dlm.stage = none) :
    let t := dlmAuthFail x.id s
    t.dlm.assocs = [] ∧ t.on Fd.DLM_EVT_AUTHFAIL = true ∧ t.regN (Reg.DLM_CNT 2) = min (s.regN (Reg.DLM_CNT 2) + 1) 0xFFFFFFFF ∧
      RegsBut [Reg.DLM_CNT 2, Reg.DLM_EVT, Reg.DLM_STAT] s t := by
  obtain ⟨u, hu⟩ : ∃ u, u = (s.bumpReg (Reg.DLM_CNT 2)).raise Fd.DLM_EVT_AUTHFAIL := ⟨_, rfl⟩
  have hud : u.dlm = s.dlm := by rw [hu, raise_dlm, bumpReg_dlm]
  have hcnt : u.regN (Reg.DLM_CNT 2) = min (s.regN (Reg.DLM_CNT 2) + 1) 0xFFFFFFFF := by
    rw [hu, ← regN_bumpReg_same]
    exact RegsBut.regN ((RegsBut.refl [Reg.DLM_EVT] _).raise (by simp)) (by decide)
  have hon : u.on Fd.DLM_EVT_AUTHFAIL = true := by rw [hu]; simp [on, raise]
  have hur : RegsBut [Reg.DLM_CNT 2, Reg.DLM_EVT] s u := by rw [hu]; exact ((RegsBut.refl _ s).bumpReg (by simp)).raise (by simp)
  obtain ⟨k1, -, k3⟩ := dlmEnd_spec (s := u) (x := x) (by rw [hud, h]) (by rw [hud, hst])
  dsimp only
  rw [dlmAuthFail, ← hu]
  exact ⟨by rw [k1], by rw [k3.on (by simp), hon], by rw [k3.regN (by decide), hcnt], (hur.mono (by simp)).trans (k3.mono (by simp))⟩

end Server

section Open

variable {s : State} {a : Nat} {theirs : List Byte}

theorem freshBytes_length (n : Nat) (s : State) : (freshBytes n s).1.length = 4 * n := by
  induction n generalizing s with
  | zero => rfl
  | succ n ih =>
    rw [freshBytes]
    simp only [List.length_append, ih]
    simp [Bits.leBytes]
    omega

theorem dlmAccepts_public (hp : s.parB Par.DLM_PUBLIC = true) (ha : s.dlm.assocs = []) (hmax : 0 < s.parN Par.DLM_MAXASSOC) : dlmAccepts a 0x10 s = some 0 := by
  rw [dlmAccepts, ha, if_neg (by simp; omega)]
  exact if_pos hp

theorem dlmAccepts_operator (hk : dlmKeys s 1 = true) (ha : s.dlm.assocs = []) (hmax : 0 < s.parN Par.DLM_MAXASSOC)
    (hi : s.regN (Reg.DLM_ICNT 1) ≠ 0xFFFFFFFF) (htx : s.regN Reg.DLM_TXIC + 1 < 0xFFFFFFFF) : dlmAccepts a 0x30 s = some 2 := by
  have hs : dlmSpent s 1 = false := by
    simp only [dlmSpent, Bool.or_eq_false_iff, beq_eq_false_iff_ne]
    exact ⟨hi, by omega⟩
  rw [dlmAccepts, ha, if_neg (by simp; omega)]
  exact if_pos (by rw [hk, hs]; rfl)

theorem dlmAccepts_unknown {wPort : Nat} (h : dlmClient wPort = none) : dlmAccepts a wPort s = none := by
  rw [dlmAccepts, h]
  exact ite_self _

theorem dlmsAarq_public (hp : s.parB Par.DLM_PUBLIC = true) (ha : s.dlm.assocs = []) (hmax : 0 < s.parN Par.DLM_MAXASSOC) :
    Answers (execDlmsAarq a 0x10 theirs s) fun t =>
      t.dlm = { s.dlm with assocs := [⟨a, 0, false, [], theirs, none⟩] } ∧ t.out = .dlms a (.accepted []) :: s.out ∧ t.get Fd.DLM_STAT_OPEN = 1 ∧
        t.regN (Reg.DLM_CNT 0) = min (s.regN (Reg.DLM_CNT 0) + 1) 0xFFFFFFFF ∧ RegsBut [Reg.DLM_CNT 0, Reg.DLM_STAT] s t ∧ Within [.regs, .dlm, .out] s t := by
  obtain ⟨u, hu⟩ : ∃ u, u = s.bumpReg (Reg.DLM_CNT 0) := ⟨_, rfl⟩
  have hud : u.dlm = s.dlm := by rw [hu, bumpReg_dlm]
  obtain ⟨v, hv⟩ : ∃ v, v = setDlm { s.dlm with assocs := [⟨a, 0, false, [], theirs, none⟩] } u := ⟨_, rfl⟩
  have hvd : v.dlm = { s.dlm with assocs := [⟨a, 0, false, [], theirs, none⟩] } := by rw [hv]; rfl
  have hvr : RegsBut [Reg.DLM_CNT 0] s v := by
    rw [hv, hu]
    exact ((RegsBut.refl _ s).bumpReg (by simp)).trans (setDlm_regsBut _ _ _)
  have hvc : v.regN (Reg.DLM_CNT 0) = min (s.regN (Reg.DLM_CNT 0) + 1) 0xFFFFFFFF := by
    rw [hv, hu]
    exact regN_bumpReg_same s _ 1
  have hvw : Within [.regs, .dlm] s v := by
    rw [hv, hu]
    exact ((Within.refl _ s).bumpReg rfl).comp (setDlm_within _ _) rfl
  have e : execDlmsAarq a 0x10 theirs s = .next ((dlmShow v).emit (.dlms a (.accepted []))) := by
    rw [execDlmsAarq, dlmOpen, dlmAccepts_public hp ha hmax]
    dsimp only
    rw [if_pos rfl, dlmSend_public, ← hu, hud, ha, hv]
    rfl
  have hr := dlmShow_regsBut v
  have hout : (dlmShow v).out = s.out := by rw [(dlmShow_within v).same .out (by simp), hvw.same .out (by simp)]
  refine ⟨_, e, (dlmShow_dlm v).trans hvd, congrArg _ hout, ?_, ?_, ?_, ?_⟩
  · exact (dlmShow_open v).trans (by rw [hvd]; rfl)
  · exact (hr.regN (by decide)).trans hvc
  · exact (hvr.mono (by simp)).trans ((hr.mono (by simp)).emit)
  · exact ((hvw.sub rfl).comp (dlmShow_within v) rfl).emit rfl

theorem dlmsAarq_operator (hk : dlmKeys s 1 = true) (ha : s.dlm.assocs = []) (hmax : 0 < s.parN Par.DLM_MAXASSOC)
    (hi : s.regN (Reg.DLM_ICNT 1) ≠ 0xFFFFFFFF) (htx : s.regN Reg.DLM_TXIC + 1 < 0xFFFFFFFF) : Answers (execDlmsAarq a 0x30 theirs s) fun t =>
      t.dlm.assocs.map (fun x => (x.id, x.client, x.waits, x.theirs, x.challenge.length)) = [(a, 2, true, theirs, 32)] ∧
        t.regN Reg.DLM_TXIC = s.regN Reg.DLM_TXIC + 1 ∧ t.free = s.free + 8 ∧ RegsBut [Reg.DLM_CNT 0, Reg.DLM_STAT, Reg.DLM_TXIC] s t := by
  obtain ⟨b, f, hbf⟩ : ∃ b f, (b, f) = freshBytes 8 s := ⟨_, _, rfl⟩
  have hb : b.length = 32 := by rw [show b = (freshBytes 8 s).1 from congrArg Prod.fst hbf, freshBytes_length]
  have hf : f = { s with free := s.free + 8 } := (congrArg Prod.snd hbf).trans (freshBytes_snd 8 s)
  obtain ⟨v, hv⟩ : ∃ v, v = dlmShow (setDlm { f.dlm with assocs := f.dlm.assocs ++ [⟨a, 2, true, b, theirs, none⟩] } (f.bumpReg (Reg.DLM_CNT 0))) := ⟨_, rfl⟩
  have e : execDlmsAarq a 0x30 theirs s = .next (dlmSend a 2 (.accepted b) v) := by
    rw [execDlmsAarq, dlmOpen, dlmAccepts_operator hk ha hmax hi htx]
    dsimp only
    rw [if_neg (by decide), ← hbf, hv]
    rfl
  have hvr : RegsBut [Reg.DLM_CNT 0, Reg.DLM_STAT] s v := by
    rw [hv, hf]
    refine RegsBut.trans ?_ ((dlmShow_regsBut _).mono (by simp))
    exact RegsBut.trans (RegsBut.bumpReg ((RegsBut.refl _ s).same rfl) (by simp)) (setDlm_regsBut _ _ _)
  have hvd : v.dlm = { s.dlm with assocs := [⟨a, 2, true, b, theirs, none⟩] } := by
    have hfd : f.dlm = s.dlm := by rw [hf]
    rw [hv, dlmShow_dlm, hfd, ha]
    rfl
  have hvf : v.free = s.free + 8 := by rw [hv, (dlmShow_within _).same .free (by simp), hf]; rfl
  have htxv : v.regN Reg.DLM_TXIC = s.regN Reg.DLM_TXIC := hvr.regN (by decide)
  have hsend := dlmSend_within a 2 (.accepted b) v
  obtain ⟨k1, k2, -⟩ := dlmSend_ciphered_txic (s := v) (client := 2) (by decide) (by omega) a (.accepted b)
  refine ⟨_, e, ?_, by rw [k1, htxv], ?_, (hvr.mono (by simp)).trans (k2.mono (by simp))⟩
  · rw [hsend.same .dlm (by simp), hvd]
    simp [hb]
  · rw [hsend.same .free (by simp), hvf]

theorem dlmsAarq_refused {wPort : Nat} (h : dlmClient wPort = none) : Answers (execDlmsAarq a wPort theirs s) fun t =>
    t.out = .dlms a .refused :: s.out ∧ t.regN (Reg.DLM_CNT 1) = min (s.regN (Reg.DLM_CNT 1) + 1) 0xFFFFFFFF ∧ RegsBut [Reg.DLM_CNT 1] s t ∧
      Within [.regs, .out] s t := by
  refine ⟨(s.bumpReg (Reg.DLM_CNT 1)).emit (.dlms a .refused), ?_, rfl, regN_bumpReg_same s _ 1, ((RegsBut.refl _ s).bumpReg (by simp)).emit,
    ((Within.refl _ s).bumpReg rfl).emit rfl⟩
  rw [execDlmsAarq, dlmOpen, dlmAccepts_unknown h]

end Open

section Pass3

variable {s : State} {x : DlmAssoc} {r : DlmReq} {sig : List Byte}

theorem icnt_lt {c : Nat} (h : c ≤ 3) : Reg.DLM_ICNT (c - 1) < 0x180000 ∧ Reg.DLM_ICNT (c - 1) ∉ [Reg.DLM_CNT 5, Reg.DLM_TXIC, Reg.DLM_CNT 2, Reg.DLM_EVT, Reg.DLM_STAT, Reg.DLM_CNT 4] := by
  revert c
  decide

/-- The answer of HLS pass 3 (R465): a signature that verifies authenticates, another ends the association. -/
theorem hlsPass3_spec {ok : Bool} (h : s.dlm.assocs = [x]) (hst : s.dlm.stage = none) (hid : x.id = r.assoc) (h1 : 1 ≤ x.client) (h3 : x.client ≤ 3)
    (hw : x.waits = true) (hk : dlmKeys s (x.client - 1) = true) (ht : r.tag = true) (hi : s.regN (Reg.DLM_ICNT (x.client - 1)) < r.ic)
    (hmax : r.ic < 0xFFFFFFFF) (htx : s.regN Reg.DLM_TXIC + 1 < 0xFFFFFFFF)
    (hok : Config.verifies (publicKey s (s.parN (Par.CLI_PUB (x.client - 1)))) x.challenge sig = ok) : Answers (execHlsPass3 r sig s) fun t =>
      t.dlm.assocs = (if ok then [{ x with waits := false }] else []) ∧ t.on Fd.DLM_EVT_AUTHFAIL = (!ok || s.on Fd.DLM_EVT_AUTHFAIL) ∧
        t.regN (Reg.DLM_ICNT (x.client - 1)) = r.ic := by
  obtain ⟨hlt, hne⟩ := icnt_lt h3
  obtain ⟨u, hu⟩ : ∃ u, u = (s.setRegN (Reg.DLM_ICNT (x.client - 1)) r.ic).bumpReg (Reg.DLM_CNT 5) := ⟨_, rfl⟩
  have hud : u.dlm = s.dlm := by rw [hu, bumpReg_dlm, setRegN_dlm]
  have hur : RegsBut [Reg.DLM_ICNT (x.client - 1), Reg.DLM_CNT 5] s u := by
    rw [hu]
    exact ((RegsBut.refl _ s).setRegN (by simp)).bumpReg (by simp)
  have huc : u.regN (Reg.DLM_ICNT (x.client - 1)) = r.ic := by
    rw [hu]
    refine Eq.trans (RegsBut.regN ((RegsBut.refl [Reg.DLM_CNT 5] _).bumpReg (by simp)) ?_) ((regN_setRegN_self s _ _).trans (Nat.mod_eq_of_lt (by omega)))
    simp only [List.mem_cons, not_or] at hne
    simpa using hne.1
  have hev : u.on Fd.DLM_EVT_AUTHFAIL = s.on Fd.DLM_EVT_AUTHFAIL := hur.on (by
    simp only [List.mem_cons, not_or] at hne ⊢
    exact ⟨fun hc => hne.2.2.2.1 hc.symm, by decide⟩)
  have hpub : publicKey u (u.parN (Par.CLI_PUB (x.client - 1))) = publicKey s (s.parN (Par.CLI_PUB (x.client - 1))) := by
    have hpar : u.params = s.params := by rw [hu, bumpReg_params, setRegN_params]
    have hug : u.grt = s.grt := by rw [hu, bumpReg_grt, setRegN_grt]
    rw [parN_congr hpar, publicKey, publicKey, slotType_congr hur (by simp; exact ⟨hlt, by decide⟩), keyOf_congr (congrArg GrtState.keys hug)]
  have htxu : u.regN Reg.DLM_TXIC + 1 < 0xFFFFFFFF := by
    rw [hur.regN (by
      simp only [List.mem_cons, not_or] at hne ⊢
      exact ⟨fun hc => hne.2.1 hc.symm, by decide⟩)]
    exact htx
  have htake : dlmPass3 r sig s = if ok then
      dlmSend x.id x.client (.pass4 (dlmSignId x.id)) (cryptoTake ⟨dlmSignId x.id, 4, .sign, u.parN Par.SRV_KEY, x.theirs ++ dlmTitle u⟩
        (setAssoc { x with waits := false } u)) else dlmAuthFail x.id u := by
    rw [dlmPass3, dlmTake_ciphered (find_own h hid) h1 hk ht hi hmax]
    dsimp only
    rw [← hu, hw, hpub, hok]
    exact if_neg (by simp)
  cases ok with
  | true =>
    obtain ⟨v, hv⟩ : ∃ v, v = cryptoTake ⟨dlmSignId x.id, 4, .sign, u.parN Par.SRV_KEY, x.theirs ++ dlmTitle u⟩ (setAssoc { x with waits := false } u) := ⟨_, rfl⟩
    have hvd : v.dlm.assocs = [{ x with waits := false }] := by
      rw [hv, (cryptoTake_within _ _).same .dlm (by simp)]
      change u.dlm.assocs.map _ = _
      rw [hud, h, List.map_singleton, if_pos rfl]
    have hvr : RegsBut [] u v := by
      rw [hv]
      exact RegsBut.trans (setDlm_regsBut _ _ u) ((cryptoTake_within _ _).regsBut (by simp))
    obtain ⟨-, k2, -⟩ := dlmSend_ciphered_txic (s := v) (client := x.client) (by omega) (by rw [hvr.regN (by simp)]; exact htxu) x.id (.pass4 (dlmSignId x.id))
    refine ⟨_, congrArg Host.Outcome.next (htake.trans (if_pos rfl)), ?_, ?_, ?_⟩
    · rw [← hv, (dlmSend_within _ _ _ v).same .dlm (by simp), hvd]
      rfl
    · rw [← hv, k2.on (by decide), hvr.on (by simp), hev]
      rfl
    · rw [← hv, k2.regN (by simp only [List.mem_cons, not_or] at hne ⊢; exact ⟨hne.2.1, by simp⟩), hvr.regN (by simp), huc]
  | false =>
    obtain ⟨k1, k2, -, k4⟩ := dlmAuthFail_spec (s := u) (x := x) (by rw [hud, h]) (by rw [hud, hst])
    refine ⟨_, congrArg Host.Outcome.next (htake.trans (if_neg (by simp))), k1, k2, ?_⟩
    rw [k4.regN (by simp only [List.mem_cons, not_or] at hne ⊢; exact ⟨hne.2.2.1, hne.2.2.2.1, hne.2.2.2.2.1, by simp⟩), huc]

end Pass3

section Ends

variable {s : State} {x : DlmAssoc}

theorem stageDrop_spec {st : Nat × Tariff} (h : s.dlm.stage = some st) : (stageDrop s).dlm = { s.dlm with stage := none } ∧
    (stageDrop s).on Fd.DLM_EVT_STAGEDROP = true ∧ (stageDrop s).get Fd.DLM_STAT_STAGE = 0 ∧ RegsBut [Reg.DLM_STAT, Reg.DLM_EVT] s (stageDrop s) := by
  obtain ⟨u, hu⟩ : ∃ u, u = (setDlm { s.dlm with stage := none } s).raise Fd.DLM_EVT_STAGEDROP := ⟨_, rfl⟩
  have e : stageDrop s = dlmShow u := by rw [stageDrop, h, hu]
  have hud : u.dlm = { s.dlm with stage := none } := by rw [hu, raise_dlm]; rfl
  have hon : u.on Fd.DLM_EVT_STAGEDROP = true := by rw [hu]; simp [on, raise]
  have hur : RegsBut [Reg.DLM_EVT] s u := by rw [hu]; exact (setDlm_regsBut _ _ s).raise (by simp)
  have hr := dlmShow_regsBut u
  rw [e]
  exact ⟨(dlmShow_dlm u).trans hud, by rw [hr.on (by decide), hon], dlmShow_stage (by rw [hud]), (hur.mono (by simp)).trans (hr.mono (by simp))⟩

/-- The only association released, the owner of what is staged (R474). -/
theorem dlmEnd_staged {y : Tariff} (h : s.dlm.assocs = [x]) (hst : s.dlm.stage = some (x.id, y)) :
    (dlmEnd x.id s).dlm = ⟨[], none⟩ ∧ (dlmEnd x.id s).get Fd.DLM_STAT_OPEN = 0 ∧ (dlmEnd x.id s).get Fd.DLM_STAT_STAGE = 0 ∧
      (dlmEnd x.id s).on Fd.DLM_EVT_STAGEDROP = true ∧ RegsBut [Reg.DLM_STAT, Reg.DLM_EVT] s (dlmEnd x.id s) := by
  obtain ⟨k1, k2, -, k4⟩ := stageDrop_spec hst
  obtain ⟨u, hu⟩ : ∃ u, u = setDlm { (stageDrop s).dlm with assocs := [] } (stageDrop s) := ⟨_, rfl⟩
  have e : dlmEnd x.id s = dlmShow u := by
    rw [dlmEnd, hst]
    dsimp only
    rw [if_pos rfl, hu, k1, h, List.filter_cons_of_neg (by simp), List.filter_nil]
  have hud : u.dlm = ⟨[], none⟩ := by
    rw [hu, k1]
    rfl
  have hur : RegsBut [] (stageDrop s) u := by rw [hu]; exact setDlm_regsBut _ _ _
  have hr := dlmShow_regsBut u
  rw [e]
  refine ⟨(dlmShow_dlm u).trans hud, (dlmShow_open u).trans (by rw [hud]; rfl), dlmShow_stage (by rw [hud]), ?_, ?_⟩
  · rw [hr.on (by decide), hur.on (by simp), k2]
  · exact k4.trans ((hur.mono (by simp)).trans (hr.mono (by simp)))

end Ends

section Get

variable {s : State} {x : DlmAssoc} {r : DlmReq}

/-- A GET of items carried out (R471, R472), with what the association keeps of it. -/
theorem dlmGet_read {t : State} {items : List DlmItem} (htake : dlmTake r s = (some x, t)) (hw : x.waits = false) (hlen : items.length ≤ 10) :
    ∃ u v, v = dlmReadAll (t.bumpReg (Reg.DLM_CNT 4)) x.client items ∧ dlmGet r (.read items) s = dlmSend x.id x.client (.data v) u ∧
      u.regs = (t.bumpReg (Reg.DLM_CNT 4)).regs ∧ u.out = t.out := by
  refine ⟨{ setAssoc { x with view := some (dlmReadAll (t.bumpReg (Reg.DLM_CNT 4)) x.client items) } (t.bumpReg (Reg.DLM_CNT 4)) with
    free := t.free + items.length }, _, rfl, ?_, rfl, rfl⟩
  rw [dlmGet, htake]
  dsimp only
  rw [hw]
  exact (if_neg (by simp)).trans (if_neg (by omega))

/-- What the public client may not read, and what no object has (R462, R467). -/
theorem dlmReadAll_public (s : State) :
    dlmReadAll s 0 [⟨3, [1, 0, 1, 8, 0, 255], 2, none⟩, ⟨9, [0, 0, 42, 0, 0, 255], 2, none⟩] = [⟨.denied, []⟩, ⟨.undefinedObject, []⟩] := by
  have h1 : dlmObject 3 [1, 0, 1, 8, 0, 255] = some (.energy 0 0) := by decide
  have h2 : dlmObject 9 [0, 0, 42, 0, 0, 255] = none := by decide
  change [dlmRead s 0 0 _, dlmRead s 0 1 _] = _
  rw [dlmRead, dlmRead, h1, h2]
  rfl

theorem dlmReadAll_disconnect {client : Nat} (hc : client ≠ 0) (s : State) :
    dlmReadAll s client [⟨70, [0, 0, 96, 3, 10, 255], 3, none⟩] = [⟨.success, [[.num (s.get Fd.BIL_DISC_STATE)]]⟩] := by
  have h1 : dlmObject 70 [0, 0, 96, 3, 10, 255] = some .disconnect := by decide
  have h2 : dlmReads client .disconnect = true := by simp [dlmReads, hc]
  change [dlmRead s client 0 _] = _
  rw [dlmRead, h1]
  dsimp only
  rw [h2]
  rfl

theorem dlmsGet_public (h : s.dlm.assocs = [x]) (hid : x.id = r.assoc) (hc : x.client = 0) (hw : x.waits = false) :
    Answers (execDlmsGet r (.read [⟨3, [1, 0, 1, 8, 0, 255], 2, none⟩, ⟨9, [0, 0, 42, 0, 0, 255], 2, none⟩]) s) fun t =>
      t.out = .dlms x.id (.data [⟨.denied, []⟩, ⟨.undefinedObject, []⟩]) :: s.out ∧ t.regN (Reg.DLM_CNT 4) = min (s.regN (Reg.DLM_CNT 4) + 1) 0xFFFFFFFF ∧
        RegsBut [Reg.DLM_CNT 4] s t := by
  obtain ⟨u, v, hv, e, hur, huo⟩ := dlmGet_read (items := [⟨3, [1, 0, 1, 8, 0, 255], 2, none⟩, ⟨9, [0, 0, 42, 0, 0, 255], 2, none⟩])
    (dlmTake_public (find_own h hid) hc) hw (by simp)
  rw [hc] at e hv
  rw [hv, dlmReadAll_public, dlmSend_public] at e
  have hr : RegsBut [Reg.DLM_CNT 4] s u := ((RegsBut.refl _ s).bumpReg (by simp)).same hur
  refine ⟨_, congrArg Host.Outcome.next e, ?_, ?_, hr.emit⟩
  · change _ :: u.out = _
    rw [huo]
  · rw [← regN_bumpReg_same]
    exact RegsBut.regN ((RegsBut.refl [] _).same hur) (by simp)

theorem dlmsGet_disconnect (h : DlmMay r x s) : Answers (execDlmsGet r (.read [⟨70, [0, 0, 96, 3, 10, 255], 3, none⟩]) s) fun t =>
    t.out = .dlms x.id (.data [⟨.success, [[.num (s.get Fd.BIL_DISC_STATE)]]⟩]) :: s.out ∧ t.regN (Reg.DLM_ICNT (x.client - 1)) = r.ic ∧
      t.regN Reg.DLM_TXIC = s.regN Reg.DLM_TXIC + 1 ∧ RegsBut [Reg.DLM_ICNT (x.client - 1), Reg.DLM_TXIC, Reg.DLM_CNT 4] s t := by
  obtain ⟨hf, h1, h3, hw, hk, htag, hi, hmax, htx⟩ := h
  obtain ⟨hlt, hne⟩ := icnt_lt h3
  simp only [List.mem_cons, not_or] at hne
  obtain ⟨t, ht⟩ : ∃ t, t = s.setRegN (Reg.DLM_ICNT (x.client - 1)) r.ic := ⟨_, rfl⟩
  have htake := dlmTake_ciphered hf h1 hk htag hi hmax
  rw [← ht] at htake
  obtain ⟨u, v, hv, e, hur, huo⟩ := dlmGet_read (items := [⟨70, [0, 0, 96, 3, 10, 255], 3, none⟩]) htake hw (by simp)
  have htr : RegsBut [Reg.DLM_ICNT (x.client - 1)] s t := by rw [ht]; exact (RegsBut.refl _ s).setRegN (by simp)
  have htc : t.regN (Reg.DLM_ICNT (x.client - 1)) = r.ic := by rw [ht]; exact (regN_setRegN_self s _ _).trans (Nat.mod_eq_of_lt (by omega))
  have hto : t.out = s.out := by rw [ht, setRegN_out]
  have hbr : RegsBut [Reg.DLM_CNT 4] t (t.bumpReg (Reg.DLM_CNT 4)) := (RegsBut.refl _ t).bumpReg (by simp)
  have htur : RegsBut [Reg.DLM_CNT 4] t u := hbr.same hur
  have hdisc : (t.bumpReg (Reg.DLM_CNT 4)).get Fd.BIL_DISC_STATE = s.get Fd.BIL_DISC_STATE := by
    rw [hbr.get (by decide), htr.get (by simp only [List.mem_singleton, Reg.DLM_ICNT, Reg.BIL_DISC]; omega)]
  have htxu : u.regN Reg.DLM_TXIC = s.regN Reg.DLM_TXIC := by
    rw [htur.regN (by decide), htr.regN (by simp only [List.mem_singleton]; exact fun hc => hne.2.1 hc.symm)]
  obtain ⟨k1, k2, k3⟩ := dlmSend_ciphered_txic (s := u) (client := x.client) (by omega) (by omega) x.id (.data v)
  rw [hv, dlmReadAll_disconnect (by omega), hdisc] at e k1 k2 k3
  refine ⟨_, congrArg Host.Outcome.next e, ?_, ?_, ?_, ?_⟩
  · rw [k3, huo, hto]
  · rw [k2.regN (by simpa using hne.2.1), htur.regN (by simpa using hne.2.2.2.2.2.1), htc]
  · rw [k1, htxu]
  · exact (htr.mono (by simp)).trans ((htur.mono (by simp)).trans (k2.mono (by simp)))

/-- An APDU whose counter has been seen (R466). -/
theorem dlmsGet_replay {ask : DlmAsk} (h : s.dlm.assocs = [x]) (hid : x.id = r.assoc) (h1 : 1 ≤ x.client) (hk : dlmKeys s (x.client - 1) = true)
    (htag : r.tag = true) (hi : r.ic ≤ s.regN (Reg.DLM_ICNT (x.client - 1))) : Answers (execDlmsGet r ask s) fun t =>
      t.regN (Reg.DLM_CNT 3) = min (s.regN (Reg.DLM_CNT 3) + 1) 0xFFFFFFFF ∧ t.on Fd.DLM_EVT_REPLAY = true ∧ RegsBut [Reg.DLM_CNT 3, Reg.DLM_EVT] s t ∧
        Within [.regs] s t := by
  have htake : dlmTake r s = (none, (s.bumpReg (Reg.DLM_CNT 3)).raise Fd.DLM_EVT_REPLAY) := by
    rw [dlmTake, find_own h hid]
    dsimp only
    rw [hk, htag]
    exact (if_neg (by omega)).trans ((if_neg (by simp)).trans (if_pos hi))
  refine ⟨(s.bumpReg (Reg.DLM_CNT 3)).raise Fd.DLM_EVT_REPLAY, ?_, ?_, by simp [on, raise], ((RegsBut.refl _ s).bumpReg (by simp)).raise (by simp),
    ((Within.refl _ s).bumpReg rfl).raise rfl⟩
  · rw [execDlmsGet, dlmGet, htake]
  · rw [← regN_bumpReg_same]
    exact RegsBut.regN ((RegsBut.refl [Reg.DLM_EVT] _).raise (by simp)) (by decide)

theorem dlmsGet_badTag {ask : DlmAsk} (h : s.dlm.assocs = [x]) (hst : s.dlm.stage = none) (hid : x.id = r.assoc) (h1 : 1 ≤ x.client) (htag : r.tag = false) :
    Answers (execDlmsGet r ask s) fun t =>
      t.dlm.assocs = [] ∧ t.on Fd.DLM_EVT_AUTHFAIL = true ∧ t.regN (Reg.DLM_CNT 2) = min (s.regN (Reg.DLM_CNT 2) + 1) 0xFFFFFFFF ∧
        RegsBut [Reg.DLM_CNT 2, Reg.DLM_EVT, Reg.DLM_STAT] s t ∧ Within [.regs, .dlm] s t := by
  have htake : dlmTake r s = (none, dlmAuthFail x.id s) := by
    rw [dlmTake, find_own h hid]
    dsimp only
    rw [htag]
    exact (if_neg (by omega)).trans (if_pos (by simp))
  obtain ⟨k1, k2, k3, k4⟩ := dlmAuthFail_spec h hst
  refine ⟨dlmAuthFail x.id s, ?_, k1, k2, k3, k4, ?_⟩
  · rw [execDlmsGet, dlmGet, htake]
  · exact (((Within.refl _ s).bumpReg rfl).raise rfl).comp (dlmEnd_within _ _) rfl

end Get

/-- Settles O42: what the server accepts of a request is said once by `dlmTake`, and each clause's request ends in one of its answers. -/
theorem dlmsAssociations : Obligations.DlmsAssociations := by
  refine ⟨fun s a th hp ha _ hm => dlmsAarq_public hp ha hm, fun s a th hk ha _ hm hi htx => ?_, fun s a w th h => dlmsAarq_refused h,
    fun s r x sig ok h hst hid h1 h3 hw hk ht hi hmax htx hok => ?_, fun s x h hw hst => ?_, fun s x h hw => ?_, fun s x h hst => ?_, fun s x y h hst => ?_,
    fun s st h => ?_, fun s h => ?_, fun s r x h hid hc hw => ?_, fun s r x h => ?_, fun s r x ask h hid h1 hk ht hi => dlmsGet_replay h hid h1 hk ht hi,
    fun s r x ask h hst hid h1 ht => dlmsGet_badTag h hst hid h1 ht⟩
  · obtain ⟨t, e, k1, k2, k3, k4⟩ := dlmsAarq_operator (a := a) (theirs := th) hk ha hm hi htx
    exact Answers.mk e (execDlmsAarq_answers a 0x30 th s) fun hw => ⟨k1, k2, k3, k4, hw⟩
  · obtain ⟨t, e, k1, k2, k3⟩ := hlsPass3_spec h hst hid h1 h3 hw hk ht hi hmax htx hok
    exact Answers.mk e (execHlsPass3_answers r sig s) fun hw => ⟨k1, k2, k3, hw⟩
  · obtain ⟨k1, k2, k3⟩ := dlmEnd_spec h hst
    exact ⟨dlmEnd x.id s, congrArg _ (if_pos (by simp [h, hw])), k1, k2, k3, dlmEnd_within _ _⟩
  · exact ⟨s, congrArg _ (if_neg (by simp [h, hw])), rfl⟩
  · obtain ⟨k1, k2, k3⟩ := dlmEnd_spec h hst
    exact ⟨dlmEnd x.id s, rfl, k1, k2, k3, dlmEnd_within _ _⟩
  · obtain ⟨k1, k2, k3, k4, k5⟩ := dlmEnd_staged h hst
    exact ⟨dlmEnd x.id s, rfl, k1, k2, k3, k4, k5, dlmEnd_within _ _⟩
  · obtain ⟨k1, k2, k3, k4⟩ := stageDrop_spec h
    exact ⟨stageDrop s, rfl, k1, k2, k3, k4, stageDrop_within s⟩
  · refine ⟨s, ?_, rfl⟩
    change execStagingTimeout s = _
    rw [execStagingTimeout, stageDrop, h]
  · obtain ⟨t, e, k1, k2, k3⟩ := dlmsGet_public h hid hc hw
    exact Answers.mk e (execDlmsGet_answers _ _ _) fun hw => ⟨k1, k2, k3, hw.sub rfl⟩
  · obtain ⟨t, e, k1, k2, k3, k4⟩ := dlmsGet_disconnect h
    exact Answers.mk e (execDlmsGet_answers _ _ _) fun hw => ⟨k1, k2, k3, k4, hw.sub rfl⟩

end Sys2Proof.Machine
end

section
/-!
The service tag (spec/15_nfc_service_tag.md R487 to R496).
-/
namespace Sys2Proof.Machine

open State

section States

variable {s t : State} {n : Nat}

theorem setNfc_regsBut (l : List Nat) (x : NfcState) (s : State) : RegsBut l s (setNfc x s) := (RegsBut.refl l s).same rfl

theorem tagShow_st (s : State) : tagSt (tagShow s) = tagSt s := by simp [tagSt, tagShow, putB]

theorem tagShow_busy (s : State) : (tagShow s).on Fd.NFC_TAGSTAT_BUSY = (tagSt s == 4) := by
  rw [tagShow]
  by_cases h : tagSt s = 4
  · simp [putB, on, h]
  · simp [putB, on, h]

theorem tagShow_queued (h : s.nfc.queued.length < 8) : (tagShow s).get Fd.NFC_TAGSTAT_QUEUED = s.nfc.queued.length := by
  simp only [tagShow, putB]
  rw [get_put_other _ _ _ _ (.inr (by simp)), get_put_other _ _ _ _ (.inr (by simp)), get_put_same _ _ _ (by simp)]
  exact Nat.mod_eq_of_lt h

theorem tagShow_nfc (s : State) : (tagShow s).nfc = s.nfc := (tagShow_within s).same .nfc (by simp)

theorem tagEnter_st (h : n < 8) (s : State) : tagSt (tagEnter n s) = n := by
  rw [tagEnter, tagShow_st, tagSt, get_put_same _ _ _ (by simp)]
  exact Nat.mod_eq_of_lt h

theorem tagEnter_busy (h : n < 8) (s : State) : (tagEnter n s).on Fd.NFC_TAGSTAT_BUSY = (n == 4) := by
  rw [tagEnter, tagShow_busy, tagSt, get_put_same _ _ _ (by simp), Nat.mod_eq_of_lt (by exact h)]

theorem tagEnter_nfc (n : Nat) (s : State) : (tagEnter n s).nfc = s.nfc := (tagEnter_within n s).same .nfc (by simp)

theorem tagEnter_out (n : Nat) (s : State) : (tagEnter n s).out = s.out := (tagEnter_within n s).same .out (by simp)

theorem tagLeave_idle (h : tagSt s ≠ 4) (n : Nat) : tagLeave n s = tagEnter n s := if_neg h

theorem supplyAbsent_congr (h : t.btm = s.btm) : supplyAbsent t = supplyAbsent s := by rw [supplyAbsent, supplyAbsent, h]

/-- A field of 16 bits that counts, held at its largest value. -/
theorem get_bump16 (s : State) {a lo : Nat} (h : lo + 16 ≤ 32) : (s.bump ⟨a, lo, 16⟩).get ⟨a, lo, 16⟩ = min (s.get ⟨a, lo, 16⟩ + 1) 65535 :=
  get_bump_same s 1 h

/-- A limit of the field's time passed outside a transaction (R492). -/
theorem tagLimit_idle (h : tagSt s ≠ 4) : tagSt (tagLimit s) = 1 ∧ (tagLimit s).nfc = { s.nfc with deaf := true } ∧
    (tagLimit s).get ⟨Reg.NFC_TAGCNT, 16, 16⟩ = min (s.get ⟨Reg.NFC_TAGCNT, 16, 16⟩ + 1) 65535 ∧
    RegsBut [Reg.NFC_TAGSTAT, Reg.NFC_TAGCNT] s (tagLimit s) := by
  obtain ⟨u, hu⟩ : ∃ u, u = tagEnter 1 s := ⟨_, rfl⟩
  have hur : RegsBut [Reg.NFC_TAGSTAT] s u := by rw [hu]; exact tagEnter_regsBut 1 s
  have hun : u.nfc = s.nfc := by rw [hu, tagEnter_nfc]
  have hust : tagSt u = 1 := by rw [hu, tagEnter_st (by decide)]
  obtain ⟨v, hv⟩ : ∃ v, v = setNfc { u.nfc with deaf := true } (u.bump ⟨Reg.NFC_TAGCNT, 16, 16⟩) := ⟨_, rfl⟩
  have hvr : RegsBut [Reg.NFC_TAGCNT] u v := by rw [hv]; exact RegsBut.trans ((RegsBut.refl _ u).bump (by simp)) (setNfc_regsBut _ _ _)
  have hvc : v.get ⟨Reg.NFC_TAGCNT, 16, 16⟩ = min (s.get ⟨Reg.NFC_TAGCNT, 16, 16⟩ + 1) 65535 := by
    have hcnt : u.get ⟨Reg.NFC_TAGCNT, 16, 16⟩ = s.get ⟨Reg.NFC_TAGCNT, 16, 16⟩ := hur.get (by decide)
    rw [hv, ← hcnt]
    exact get_bump16 u (by decide)
  have e : tagLimit s = tagShow v := by rw [tagLimit, tagLeave_idle h, hv, hu]
  have hr := tagShow_regsBut v
  rw [e]
  refine ⟨?_, ?_, ?_, (hur.mono (by simp)).trans ((hvr.mono (by simp)).trans (hr.mono (by simp)))⟩
  · rw [tagShow_st, tagSt, hvr.get (by decide)]
    exact hust
  · rw [tagShow_nfc, hv]
    change { u.nfc with deaf := true } = _
    rw [hun]
  · rw [hr.get (by decide), hvc]

end States

section Notes

variable {s : State} {p : NoteCopy × NoteCopy} {data : List Byte} {n : Nat}

/-- What is written to a notes page is read back: the copy written is good, and later than the other (R493). -/
theorem noteRead_noteWrite (h : p.1.gen < 256) : noteRead (noteWrite p data).1 = data := by
  by_cases hf : noteFirst p = true
  · have hlater : genLater ((p.1.gen + 1) % 256) p.1.gen = true := by
      simp only [genLater, Bool.and_eq_true, decide_eq_true_eq]
      omega
    have hok : noteOk ⟨data, (p.1.gen + 1) % 256, NoteCopy.sum data ((p.1.gen + 1) % 256)⟩ = true := by simp [noteOk]
    rw [noteWrite, hf]
    simp [noteRead, noteFirst, hok, hlater]
  · have hlater : genLater p.2.gen ((p.2.gen + 1) % 256) = false := by
      simp only [genLater, Bool.and_eq_false_iff, decide_eq_false_iff_not]
      omega
    have hok : noteOk ⟨data, (p.2.gen + 1) % 256, NoteCopy.sum data ((p.2.gen + 1) % 256)⟩ = true := by simp [noteOk]
    rw [noteWrite, Bool.eq_false_iff.2 hf]
    simp [noteRead, noteFirst, hok, hlater]

theorem notePut_spec (hlen : s.nfc.notes.length = 32) (hn : n < 32) (h : (notePage s n).1.gen < 256) (data : List Byte) :
    noteRead (notePage (notePut n data s).2 n) = data ∧ RegsBut [] s (notePut n data s).2 := by
  have hpage : notePage (notePut n data s).2 n = (noteWrite (notePage s n) data).1 := nth_setNth_self (by omega)
  exact ⟨by rw [hpage, noteRead_noteWrite h], setNfc_regsBut _ _ s⟩

end Notes

section Clauses

variable {s : State}

theorem tagFieldDetect_found (h1 : tagSt s = 1) (hd : s.nfc.deaf = false) (ha : supplyAbsent s = false) : Answers (execTagFieldDetect s) fun t =>
    tagSt t = 2 ∧ t.nfc = { s.nfc with field := true } ∧ t.on Fd.NFC_STAT_TAG = true ∧ RegsBut [Reg.NFC_STAT, Reg.NFC_TAGSTAT] s t := by
  obtain ⟨u, hu⟩ : ∃ u, u = (setNfc { s.nfc with field := true } s).raise Fd.NFC_STAT_TAG := ⟨_, rfl⟩
  have hon : u.on Fd.NFC_STAT_TAG = true := by rw [hu]; simp [on, raise]
  have hun : u.nfc = { s.nfc with field := true } := by rw [hu, raise_nfc]; rfl
  have hur : RegsBut [Reg.NFC_STAT] s u := by rw [hu]; exact (setNfc_regsBut _ _ s).raise (by simp)
  have e : execTagFieldDetect s = .next (tagEnter 2 u) := by
    have h1' : tagSt (setNfc { s.nfc with field := true } s) = 1 := h1
    have ha' : supplyAbsent (setNfc { s.nfc with field := true } s) = false := ha
    have hd' : (setNfc { s.nfc with field := true } s).nfc.deaf = false := hd
    rw [execTagFieldDetect]
    dsimp only
    rw [h1', ha', hd', hu]
    rfl
  have hr := tagEnter_regsBut 2 u
  exact ⟨_, e, tagEnter_st (by decide) u, (tagEnter_nfc 2 u).trans hun, by rw [hr.on (by decide), hon], (hur.mono (by simp)).trans (hr.mono (by simp))⟩

theorem tagFieldDetect_limit (h1 : tagSt s = 1) (hd : s.nfc.deaf = false) (ha : supplyAbsent s = true) (hmax : s.parN Par.TAG_DAYMAX ≤ tagUsed s) :
    Answers (execTagFieldDetect s) fun t =>
      tagSt t = 1 ∧ t.nfc = { s.nfc with field := true, deaf := true } ∧ t.get ⟨Reg.NFC_TAGCNT, 16, 16⟩ = min (s.get ⟨Reg.NFC_TAGCNT, 16, 16⟩ + 1) 65535 ∧
        RegsBut [Reg.NFC_TAGSTAT, Reg.NFC_TAGCNT] s t := by
  obtain ⟨u, hu⟩ : ∃ u, u = setNfc { s.nfc with field := true } s := ⟨_, rfl⟩
  have hust : tagSt u = 1 := by rw [hu]; exact h1
  have hur : RegsBut [] s u := by rw [hu]; exact setNfc_regsBut _ _ s
  have hun : u.nfc = { s.nfc with field := true } := by rw [hu]; rfl
  have e : execTagFieldDetect s = .next (tagLimit u) := by
    have ha' : supplyAbsent u = true := by rw [hu]; exact ha
    have hmax' : u.parN Par.TAG_DAYMAX ≤ tagUsed u := by rw [hu]; exact hmax
    have hd' : u.nfc.deaf = false := by rw [hun]; exact hd
    rw [execTagFieldDetect, ← hu]
    dsimp only
    rw [hust, ha', hd']
    exact congrArg _ ((if_pos (by simp)).trans (if_pos (by simpa using hmax')))
  obtain ⟨k1, k2, k3, k4⟩ := tagLimit_idle (s := u) (by omega)
  exact ⟨_, e, k1, by rw [k2, hun], by rw [k3, hur.get (by simp)], (hur.mono (by simp)).trans k4⟩

theorem tagCount_outage (ha : supplyAbsent s = true) (secs : Nat) :
    tagCount secs s = setNfc { s.nfc with day := s.regN Reg.BTM_TIME / 86400, used := tagUsed s + secs } s := if_pos ha

theorem tagFieldLost_outage {secs : Nat} (ha : supplyAbsent s = true) (h2 : tagSt s = 2) : Answers (execTagFieldLost secs s) fun t =>
    tagSt t = 1 ∧ t.nfc = { s.nfc with field := false, day := s.regN Reg.BTM_TIME / 86400, used := tagUsed s + secs } ∧ RegsBut [Reg.NFC_TAGSTAT] s t := by
  obtain ⟨u, hu⟩ : ∃ u, u = setNfc { s.nfc with field := false, day := s.regN Reg.BTM_TIME / 86400, used := tagUsed s + secs } s := ⟨_, rfl⟩
  have hust : tagSt u = 2 := by rw [hu]; exact h2
  have e : execTagFieldLost secs s = .next (tagEnter 1 u) := by
    have hcount : tagCount secs (setNfc { s.nfc with field := false } s) = u := by
      rw [tagCount_outage (by exact ha), hu]
      rfl
    have h2' : tagSt (setNfc { s.nfc with field := false } s) = 2 := h2
    rw [execTagFieldLost, ha]
    change Host.Outcome.next (if 2 ≤ tagSt (setNfc { s.nfc with field := false } s) then tagLeave 1 (tagCount secs (setNfc { s.nfc with field := false } s)) else
      setNfc { s.nfc with field := false } s) = _
    rw [if_pos (by omega), hcount, tagLeave_idle (by omega)]
  refine ⟨_, e, tagEnter_st (by decide) u, (tagEnter_nfc 1 u).trans (by rw [hu]; rfl), ?_⟩
  rw [hu]
  exact RegsBut.trans (setNfc_regsBut _ _ s) (tagEnter_regsBut 1 _)

theorem tagWake_supplied (ha : supplyAbsent s = false) (wupa anticoll : Bool) (ms : Nat) : tagWake wupa anticoll ms s =
    if tagSt s = 2 then if anticoll then tagSay ([0x44, 0x00] ++ tagUid s ++ [0x20]) (tagEnter 3 s) else tagSay [0x44, 0x00] s
    else if tagSt s = 5 ∧ wupa then tagSay [0x44, 0x00] (tagEnter 2 s)
    else s := by
  have h1 : (supplyAbsent s && decide (ms < 20)) = false := by rw [ha]; rfl
  have hsame : (if supplyAbsent s && decide (ms < 20) then s.fresh.2 else s) = s := if_neg (by simp [h1])
  rw [tagWake]
  dsimp only
  rw [hsame]
  exact if_neg (by simp [h1])

/-- A response that follows the entry of a state. -/
theorem tagSay_enter_spec {bytes : List Byte} {n : Nat} (h : n < 8) (s : State) :
    tagSt (tagSay bytes (tagEnter n s)) = n ∧ (tagSay bytes (tagEnter n s)).out = .tag bytes :: s.out ∧ RegsBut [Reg.NFC_TAGSTAT] s (tagSay bytes (tagEnter n s)) ∧
      Within [.regs, .out] s (tagSay bytes (tagEnter n s)) :=
  ⟨tagEnter_st h s, congrArg _ (tagEnter_out n s), (tagEnter_regsBut n s).emit, ((tagEnter_within n s).sub rfl).emit rfl⟩

theorem tagSay_spec (bytes : List Byte) (s : State) : (tagSay bytes s).out = .tag bytes :: s.out ∧ RegsBut [] s (tagSay bytes s) ∧ Within [.out] s (tagSay bytes s) :=
  ⟨rfl, (RegsBut.refl _ s).emit, tagSay_within bytes s⟩

theorem tagQueue_empty (h : s.nfc.queued = []) : tagQueue s = s ∨ tagQueue s = tagShow s := by
  have hsame : setNfc { s.nfc with queued := [] } s = s := by rw [← h]; rfl
  by_cases hp : (s.pfw || supplyAbsent s) = true
  · exact .inl (if_pos hp)
  · right
    rw [tagQueue, if_neg hp, h, hsame]
    rfl

/-- A transaction ended with nothing queued (R488, R495). -/
theorem tagDeselect_spec (h4 : tagSt s = 4) (hq : s.nfc.queued = []) (hd : s.nfc.snapDue = false) : Answers (execTagDeselect s) fun t =>
    tagSt t = 5 ∧ t.on Fd.NFC_EVT_TAGTX = true ∧ t.get ⟨Reg.NFC_TAGCNT, 0, 16⟩ = min (s.get ⟨Reg.NFC_TAGCNT, 0, 16⟩ + 1) 65535 ∧
      t.nfc = { s.nfc with selected := false } ∧ t.on Fd.NFC_TAGSTAT_BUSY = false ∧ RegsBut [Reg.NFC_TAGSTAT, Reg.NFC_EVT, Reg.NFC_TAGCNT] s t := by
  obtain ⟨u, hu⟩ : ∃ u, u = (s.raise Fd.NFC_EVT_TAGTX).bump ⟨Reg.NFC_TAGCNT, 0, 16⟩ := ⟨_, rfl⟩
  have hun : u.nfc = s.nfc := by rw [hu, bump_nfc, raise_nfc]
  have hur : RegsBut [Reg.NFC_EVT, Reg.NFC_TAGCNT] s u := by rw [hu]; exact ((RegsBut.refl _ s).raise (by simp)).bump (by simp)
  have huc : u.get ⟨Reg.NFC_TAGCNT, 0, 16⟩ = min (s.get ⟨Reg.NFC_TAGCNT, 0, 16⟩ + 1) 65535 := by
    have hr : (s.raise Fd.NFC_EVT_TAGTX).get ⟨Reg.NFC_TAGCNT, 0, 16⟩ = s.get ⟨Reg.NFC_TAGCNT, 0, 16⟩ := by simp [raise]
    rw [hu, ← hr]
    exact get_bump16 _ (by decide)
  have hon : u.on Fd.NFC_EVT_TAGTX = true := by
    have hb : RegsBut [Reg.NFC_TAGCNT] (s.raise Fd.NFC_EVT_TAGTX) u := by rw [hu]; exact (RegsBut.refl _ _).bump (by simp)
    rw [hb.on (by decide)]
    simp [on, raise]
  obtain ⟨v, hv⟩ : ∃ v, v = tagEnter 5 (setNfc { u.nfc with selected := false } u) := ⟨_, rfl⟩
  have hvn : v.nfc = { s.nfc with selected := false } := by
    rw [hv, tagEnter_nfc, ← hun]
    rfl
  have hvr : RegsBut [Reg.NFC_TAGSTAT] u v := by rw [hv]; exact RegsBut.trans (setNfc_regsBut _ _ u) (tagEnter_regsBut 5 _)
  have hvst : tagSt v = 5 := by rw [hv, tagEnter_st (by decide)]
  have hvb : v.on Fd.NFC_TAGSTAT_BUSY = false := by rw [hv, tagEnter_busy (by decide)]; rfl
  obtain ⟨w, hw⟩ : ∃ w, w = tagQueue v := ⟨_, rfl⟩
  obtain ⟨hwst, hwn, hwb, hwr⟩ : tagSt w = 5 ∧ w.nfc = v.nfc ∧ w.on Fd.NFC_TAGSTAT_BUSY = false ∧ RegsBut [Reg.NFC_TAGSTAT] v w := by
    rcases tagQueue_empty (s := v) (by rw [hvn]; exact hq) with hq' | hq'
    · rw [hw, hq']
      exact ⟨hvst, rfl, hvb, .refl _ _⟩
    · rw [hw, hq']
      exact ⟨(tagShow_st v).trans hvst, tagShow_nfc v, by rw [tagShow_busy, hvst]; rfl, tagShow_regsBut v⟩
  have hsnap : w.nfc.snapDue = false := by rw [hwn, hvn]; exact hd
  have e : execTagDeselect s = .next w := by
    rw [execTagDeselect, if_pos h4, tagLeave, if_pos h4]
    dsimp only
    rw [← hu, ← hv, ← hw]
    exact congrArg _ (if_neg (by simp [hsnap]))
  have huw := hvr.trans hwr
  refine ⟨w, e, hwst, ?_, ?_, by rw [hwn, hvn], hwb, (hur.mono (by simp)).trans (huw.mono (by simp))⟩
  · rw [huw.on (by decide), hon]
  · rw [huw.get (by decide), huc]

theorem tagCommand_selected (h4 : tagSt s = 4) (hs : s.nfc.selected = true) (f : State → State) : tagCommand f s = f s := by
  rw [tagCommand, if_pos h4, if_pos hs]

theorem tagCommand_unselected (h4 : tagSt s = 4) (hs : s.nfc.selected = false) (f : State → State) : tagCommand f s = tagSay [0x69, 0x85] s := by
  rw [tagCommand, if_pos h4, if_neg (by simp [hs])]

theorem tagRead_unselected {off le : Nat} (h4 : tagSt s = 4) (hs : s.nfc.selected = false) : execTagRead off le s = .next (tagSay [0x69, 0x85] s) := by
  rw [execTagRead, tagCommand_unselected h4 hs]

theorem tagRead_inside {off le : Nat} (h4 : tagSt s = 4) (hs : s.nfc.selected = true) (h1 : 1 ≤ le) (h224 : le ≤ 224) (hle : off + le ≤ 0x2000) :
    execTagRead off le s = .next (tagSay (((tagMemory s).drop off).take le ++ [0x90, 0x00]) s) := by
  rw [execTagRead, tagCommand_selected h4 hs, tagRead, if_neg (by omega), if_neg (by omega)]

theorem tagRead_outside {off le : Nat} (h4 : tagSt s = 4) (hs : s.nfc.selected = true) (h1 : 1 ≤ le) (h224 : le ≤ 224) (hlt : 0x2000 < off + le) :
    execTagRead off le s = .next (tagSay [0x6A, 0x82] s) := by
  rw [execTagRead, tagCommand_selected h4 hs, tagRead, if_neg (by omega), if_pos hlt]

theorem tagWrite_short {off : Nat} {data : List Byte} (h4 : tagSt s = 4) (hs : s.nfc.selected = true) (hlo : 0x1C00 ≤ off) (hhi : off < 0x2000)
    (hal : off % 32 = 0) (hlen : data.length ≠ 32) : execTagWrite off data s = .next (tagSay [0x67, 0x00] s) := by
  rw [execTagWrite, tagCommand_selected h4 hs, tagWrite, if_neg (by omega), if_pos hlen]

theorem tagWrite_spec {off gen : Nat} {data : List Byte} (h4 : tagSt s = 4) (hs : s.nfc.selected = true) (hlo : 0x1C00 ≤ off) (hhi : off < 0x2000)
    (hal : off % 32 = 0) (hlen : data.length = 32) (hen : s.parB Par.TAG_WRITE_EN = true) (ha : supplyAbsent s = false) (hnotes : s.nfc.notes.length = 32)
    (hg : (notePage s ((off - 0x1C00) / 32)).1.gen < 256) (hgen : (notePut ((off - 0x1C00) / 32) data s).1 = gen) : Answers (execTagWrite off data s) fun t =>
      noteRead (notePage t ((off - 0x1C00) / 32)) = data ∧ t.out = .tag (Bits.leBytes 1 gen ++ [0x90, 0x00]) :: s.out ∧ RegsBut [] s t ∧
        Within [.nfc, .out] s t := by
  obtain ⟨k1, k2⟩ := notePut_spec hnotes (show (off - 0x1C00) / 32 < 32 by omega) hg data
  have hw := notePut_within ((off - 0x1C00) / 32) data s
  have e : execTagWrite off data s = .next (tagSay (Bits.leBytes 1 gen ++ [0x90, 0x00]) (notePut ((off - 0x1C00) / 32) data s).2) := by
    rw [← hgen, execTagWrite, tagCommand_selected h4 hs, tagWrite, hen, ha]
    exact congrArg _ ((if_neg (by omega)).trans ((if_neg (by omega)).trans (if_neg (by simp))))
  generalize (notePut ((off - 0x1C00) / 32) data s).2 = u at *
  exact ⟨_, e, k1, congrArg _ (hw.same .out (by simp)), k2.emit, (hw.sub rfl).emit rfl⟩

theorem tagStatus_spec {secs : Nat} (h4 : tagSt s = 4) (hs : s.nfc.selected = true) (ha : supplyAbsent s = false) (hq : s.nfc.queued = [])
    (hb : s.on Fd.BTM_STAT_BATLOW = true) (halm : s.on Fd.NFC_TAGSTAT_ALM = false) : execTagStatus 4 secs s =
      .next (tagSay ([3, 0] ++ Bits.leBytes 2 (s.parN Par.TAG_DAYMAX - tagUsed s) ++ [0x90, 0x00]) s) := by
  rw [execTagStatus, tagCommand_selected h4 hs, tagStatus, ha, hb, halm, hq]
  rfl

theorem tagTimeLimit_outage {secs : Nat} (ha : supplyAbsent s = true) (h2 : tagSt s = 2) : Answers (execTagTimeLimit secs s) fun t =>
    tagSt t = 1 ∧ t.nfc = { s.nfc with deaf := true, day := s.regN Reg.BTM_TIME / 86400, used := tagUsed s + secs } ∧
      t.get ⟨Reg.NFC_TAGCNT, 16, 16⟩ = min (s.get ⟨Reg.NFC_TAGCNT, 16, 16⟩ + 1) 65535 ∧ RegsBut [Reg.NFC_TAGSTAT, Reg.NFC_TAGCNT] s t := by
  obtain ⟨u, hu⟩ : ∃ u, u = setNfc { s.nfc with day := s.regN Reg.BTM_TIME / 86400, used := tagUsed s + secs } s := ⟨_, rfl⟩
  have hust : tagSt u = 2 := by rw [hu]; exact h2
  have hur : RegsBut [] s u := by rw [hu]; exact setNfc_regsBut _ _ s
  have hun : u.nfc = { s.nfc with day := s.regN Reg.BTM_TIME / 86400, used := tagUsed s + secs } := by rw [hu]; rfl
  have e : execTagTimeLimit secs s = .next (tagLimit u) := by
    rw [execTagTimeLimit, tagCount_outage ha, ← hu]
    exact congrArg _ (if_pos (by simp [ha, h2]))
  obtain ⟨k1, k2, k3, k4⟩ := tagLimit_idle (s := u) (by omega)
  exact ⟨_, e, k1, by rw [k2, hun], by rw [k3, hur.get (by simp)], (hur.mono (by simp)).trans k4⟩

theorem tagIgnoreEnd_field (h1 : tagSt s = 1) (hf : s.nfc.field = true) : Answers (execTagIgnoreEnd s) fun t =>
    tagSt t = 2 ∧ t.nfc = { s.nfc with deaf := false } ∧ RegsBut [Reg.NFC_TAGSTAT] s t := by
  obtain ⟨u, hu⟩ : ∃ u, u = setNfc { s.nfc with deaf := false } s := ⟨_, rfl⟩
  have hun : u.nfc = { s.nfc with deaf := false } := by rw [hu]; rfl
  have hust : tagSt u = 1 := by rw [hu]; exact h1
  have e : execTagIgnoreEnd s = .next (tagEnter 2 u) := by
    rw [execTagIgnoreEnd, ← hu]
    dsimp only
    rw [hust, hun]
    exact congrArg _ (if_pos (by simp [hf]))
  refine ⟨_, e, tagEnter_st (by decide) u, (tagEnter_nfc 2 u).trans hun, ?_⟩
  rw [hu]
  exact RegsBut.trans (setNfc_regsBut _ _ s) (tagEnter_regsBut 2 _)

/-- The words that the host has laid out for a notes page. -/
def tagData (s : State) : List Byte := (List.range 8).flatMap (fun w => Bits.leBytes 4 (s.regN (Reg.NFC_TAGWDATA w)))

theorem tagData_hostAccess (p : Path) (s : State) : tagData (hostAccess p s) = tagData s := by
  have hlt : ∀ w < 8, Reg.NFC_TAGWDATA w ∉ hostRegs p := by cases p <;> decide
  exact flatMap_eq_of_mem fun w hw => by rw [(hostAccess_regsBut p s).regN (hlt w (List.mem_range.1 hw))]

theorem tagSt_hostAccess (p : Path) (s : State) : tagSt (hostAccess p s) = tagSt s := (hostAccess_regsBut p s).get (by cases p <;> decide)

theorem hostTagWrite_queued {p : Path} {page : Nat} (hm : HostMay p 1 s) (hh : s.held .service = false) (h4 : tagSt s = 4) (hq : s.nfc.queued.length < 4) :
    Answers (execHostTagWrite p page s) fun t =>
      t.nfc.queued = s.nfc.queued ++ [(page % 32, tagData s)] ∧ t.get Fd.NFC_TAGSTAT_QUEUED = s.nfc.queued.length + 1 ∧
        RegsBut (Reg.NFC_TAGSTAT :: hostRegs p) s t := by
  obtain ⟨u, hu⟩ : ∃ u, u = setNfc { s.nfc with queued := s.nfc.queued ++ [(page % 32, tagData s)] } (hostAccess p s) := ⟨_, rfl⟩
  have hun : u.nfc.queued = s.nfc.queued ++ [(page % 32, tagData s)] := by rw [hu]; rfl
  have hlen : u.nfc.queued.length = s.nfc.queued.length + 1 := by rw [hun]; simp
  have hur : RegsBut (hostRegs p) s u := by rw [hu]; exact (hostAccess_regsBut p s).trans (setNfc_regsBut _ _ _)
  have e : execHostTagWrite p page s = .next (hostReply p 0 (tagShow u)) := by
    rw [execHostTagWrite, hostOwn_of_may hm, toIsland_hostAccess hh, hostNote]
    dsimp only
    rw [← tagData, tagData_hostAccess, if_pos ((tagSt_hostAccess p s).trans h4), hostAccess_nfc, if_neg (by omega), ← hu]
  have hr := tagShow_regsBut u
  refine ⟨_, e, ?_, ?_, ?_⟩
  · exact (congrArg NfcState.queued (tagShow_nfc u)).trans hun
  · rw [get_hostReply, tagShow_queued (by omega), hlen]
  · exact RegsBut.hostReply (p := p) (status := 0) ((hur.mono (by simp)).trans (hr.mono (by simp)))

theorem hostTagWrite_direct {p : Path} {page : Nat} (hm : HostMay p 1 s) (hh : s.held .service = false) (h4 : tagSt s ≠ 4) (hnotes : s.nfc.notes.length = 32)
    (hg : (notePage s (page % 32)).1.gen < 256) : Answers (execHostTagWrite p page s) fun t =>
      noteRead (notePage t (page % 32)) = tagData s ∧ RegsBut (hostRegs p) s t := by
  have hacc : (hostAccess p s).nfc = s.nfc := hostAccess_nfc
  have hpage : notePage (hostAccess p s) (page % 32) = notePage s (page % 32) := by rw [notePage, notePage, hacc]
  obtain ⟨k1, k2⟩ := notePut_spec (s := hostAccess p s) (n := page % 32) (by rw [hacc, hnotes]) (by omega) (by rw [hpage]; exact hg) (tagData s)
  have e : execHostTagWrite p page s = .next (hostReply p 0 (notePut (page % 32) (tagData s) (hostAccess p s)).2) := by
    rw [execHostTagWrite, hostOwn_of_may hm, toIsland_hostAccess hh, hostNote]
    dsimp only
    rw [← tagData, tagData_hostAccess, if_neg (by rw [tagSt_hostAccess]; exact h4)]
  have hr := hostAccess_regsBut p s
  generalize (notePut (page % 32) (tagData s) (hostAccess p s)).2 = u at *
  exact ⟨_, e, k1, RegsBut.hostReply (p := p) (status := 0) (hr.trans (k2.mono (by simp)))⟩

end Clauses

/-- Settles O45: each command of the tag either answers without a change of state or enters the next state, whose fields `tagShow` shows. -/
theorem serviceTag : Obligations.ServiceTag := by
  refine ⟨fun s hh ha h4 => ?_, fun s hh ha h4 => ?_, fun s h1 hd ha => ?_, fun s h1 hd ha hm => ?_, fun s secs ha h2 => ?_, fun s ha hf => ?_,
    fun s wupa ms ha h2 => ?_, fun s ms ha h5 => ?_, fun s h3 => ?_, fun s h3 => ?_, fun s h4 hq hd => ?_, fun s h4 => ?_, fun s off le h4 hs => ?_,
    fun s off le h4 hs h1 h224 hle => ?_, fun s off le h4 hs h1 h224 hlt => ?_,
    fun s off data gen h4 hs hlo hhi hal hlen hen ha hn hg hgen => tagWrite_spec h4 hs hlo hhi hal hlen hen ha hn hg hgen,
    fun s off data h4 hs hlo hhi hal hlen => ?_, fun s secs h4 hs ha hq hb halm => ?_, fun s h4 hs => ?_, fun s secs ha h2 => ?_, fun s h1 hf => ?_,
    fun s p page hm hh h4 hq => ?_, fun s p page hm hh h4 hn hg => ?_⟩
  · refine ⟨setNfc { s.nfc with snap := tagSnapshot s, snapDue := false } s, ?_, rfl, setNfc_regsBut _ _ s, setNfc_within _ s⟩
    exact (awake_of_not_held hh).trans (congrArg _ ((if_neg (by simp [hh, ha])).trans (if_neg h4)))
  · refine ⟨setNfc { s.nfc with snapDue := true } s, ?_, rfl, setNfc_regsBut _ _ s, setNfc_within _ s⟩
    exact (awake_of_not_held hh).trans (congrArg _ ((if_neg (by simp [hh, ha])).trans (if_pos h4)))
  · obtain ⟨t, e, k1, k2, k3, k4⟩ := tagFieldDetect_found h1 hd ha
    exact Answers.mk e (execTagFieldDetect_answers s) fun hw => ⟨k1, k2, k3, k4, hw⟩
  · obtain ⟨t, e, k1, k2, k3, k4⟩ := tagFieldDetect_limit h1 hd ha hm
    exact Answers.mk e (execTagFieldDetect_answers s) fun hw => ⟨k1, k2, k3, k4, hw⟩
  · obtain ⟨t, e, k1, k2, k3⟩ := tagFieldLost_outage (secs := secs) ha h2
    exact Answers.mk e (execTagFieldLost_answers secs s) fun hw => ⟨k1, k2, k3, hw⟩
  · exact ⟨s.lower Fd.NFC_STAT_TAG, congrArg _ (if_pos (by simp [ha, hf])), by simp [on, lower], (RegsBut.refl _ s).lower (by simp),
      (Within.refl _ s).lower rfl⟩
  · exact ⟨_, congrArg Host.Outcome.next ((tagWake_supplied ha wupa true ms).trans ((if_pos h2).trans (if_pos rfl))), tagSay_enter_spec (by decide) s⟩
  · exact ⟨_, congrArg Host.Outcome.next ((tagWake_supplied ha true false ms).trans ((if_neg (by omega)).trans (if_pos ⟨h5, rfl⟩))),
      tagSay_enter_spec (by decide) s⟩
  · obtain ⟨k1, k2, k3, k4⟩ := tagSay_enter_spec (bytes := [0x02, 0x08]) (n := 4) (by decide) s
    have kb : (tagEnter 4 s).on Fd.NFC_TAGSTAT_BUSY = true := by
      rw [tagEnter_busy (by decide)]
      rfl
    exact ⟨_, congrArg Host.Outcome.next (if_pos h3), k1, kb, k2, k3, k4⟩
  · exact ⟨_, congrArg Host.Outcome.next (if_pos h3), tagEnter_st (by decide) s, tagEnter_regsBut 5 s, tagEnter_within 5 s⟩
  · obtain ⟨t, e, k1, k2, k3, k4, k5, k6⟩ := tagDeselect_spec h4 hq hd
    exact Answers.mk e (execTagDeselect_answers s) fun hw => ⟨k1, k2, k3, k4, k5, k6, hw⟩
  · refine ⟨tagSay [0x90, 0x00] (setNfc { s.nfc with selected := true } s), congrArg _ ((if_pos h4).trans (if_pos rfl)), rfl, rfl, (setNfc_regsBut _ _ s).emit, ?_⟩
    exact ((setNfc_within _ s).sub rfl).emit rfl
  · exact ⟨_, tagRead_unselected h4 hs, tagSay_spec [0x69, 0x85] s⟩
  · exact ⟨_, tagRead_inside h4 hs h1 h224 hle, tagSay_spec _ s⟩
  · exact ⟨_, tagRead_outside h4 hs h1 h224 hlt, tagSay_spec _ s⟩
  · exact ⟨_, tagWrite_short h4 hs hlo hhi hal hlen, tagSay_spec _ s⟩
  · exact ⟨_, tagStatus_spec h4 hs ha hq hb halm, tagSay_spec _ s⟩
  · exact ⟨tagSay [0x6D, 0x00] s, congrArg Host.Outcome.next (tagCommand_selected h4 hs _), tagSay_spec _ s⟩
  · obtain ⟨t, e, k1, k2, k3, k4⟩ := tagTimeLimit_outage (secs := secs) ha h2
    exact Answers.mk e (execTagTimeLimit_answers secs s) fun hw => ⟨k1, k2, k3, k4, hw⟩
  · obtain ⟨t, e, k1, k2, k3⟩ := tagIgnoreEnd_field h1 hf
    exact Answers.mk e (execTagIgnoreEnd_answers s) fun hw => ⟨k1, k2, k3, hw⟩
  · obtain ⟨t, e, k1, k2, k3⟩ := hostTagWrite_queued (page := page) hm hh h4 hq
    exact Answers.mk e (execHostTagWrite_answers p page s) fun hw => ⟨k1, k2, k3, hw⟩
  · obtain ⟨t, e, k1, k2⟩ := hostTagWrite_direct (page := page) hm hh h4 hn hg
    exact Answers.mk e (execHostTagWrite_answers p page s) fun hw => ⟨k1, k2, hw⟩

end Sys2Proof.Machine
end

section
/-!
The mailbox of the host (spec/23_host_interface.md R634 to R637).
-/
namespace Sys2Proof.Machine

open State

section Cells

/-- Bytes outside a write keep their values. -/
theorem Memory.read_writes_outside (bs : List Byte) (m : List Host.Cell) (a : Nat) {x : Nat} (h : x < a ∨ a + bs.length ≤ x) :
    Memory.read (Memory.writes m a bs) x = Memory.read m x := by
  induction bs generalizing m a with
  | nil => rfl
  | cons b bs ih =>
    rw [List.length_cons] at h
    rw [Memory.writes, ih _ _ (by omega)]
    exact Sparse.get_set_of_ne _ _ _ (by omega)

theorem Memory.read_writes_inside (bs : List Byte) (m : List Host.Cell) (a : Nat) {i : Nat} (h : i < bs.length) :
    Memory.read (Memory.writes m a bs) (a + i) = bs[i] := by
  induction bs generalizing m a i with
  | nil => simp at h
  | cons b bs ih =>
    rw [Memory.writes]
    cases i with
    | zero =>
      rw [Memory.read_writes_outside _ _ _ (.inl (by omega))]
      exact Sparse.get_set_self _ _ _ _
    | succ i =>
      rw [show a + (i + 1) = a + 1 + i by omega, ih _ _ (by simpa using h)]
      rfl

/-- What has been written is read back. -/
theorem Memory.reads_writes (bs : List Byte) (m : List Host.Cell) (a : Nat) : Memory.reads (Memory.writes m a bs) a bs.length = bs := by
  refine List.ext_getElem (by simp [Memory.reads]) fun i h1 h2 => ?_
  simp only [Memory.reads, List.getElem_map, List.getElem_range]
  exact Memory.read_writes_inside bs m a h2

end Cells

section Run

variable {s t u : State} {p : Path} {m : List Byte} {type op home need : Nat}

theorem mailPath_mailFrame (p : Path) (m : List Byte) : mailPath (mailFrame p m) = p := by cases p <;> rfl

/-- What a request's rule answers: with a reply, or with none. -/
def mailAnswer (p : Path) (m : List Byte) (x : Option (Nat × List Byte) × State) : State :=
  match x.1 with
  | some (r, body) => mailReply p m r body x.2
  | none => x.2

/-- The request that is judged next (R637). -/
theorem mailNext_of_asks (h : MailAsks type home need p m s) (hh : home = 30 ∨ home = 31) : mailNext s = some (home, mailFrame p m) := by
  obtain ⟨hq, ho, hroom, -, hc, -⟩ := h
  have hn : mailQueue s = some home := by
    rw [mailQueue, if_neg (by omega)]
    rcases hh with rfl | rfl
    · rw [hq, hc]
      rfl
    · rw [hq, ho]
      rfl
  rw [mailNext, hn, Option.bind_some, hq]
  rfl

theorem mailClean_of_asks (h : MailAsks type home need p m s) (hh : home = 30 ∨ home = 31) (n : Nat) : mailClean n s = s := by
  have hk : mailKnown (mailFrame p m).bytes = true := h.2.2.2.2.2.2.1
  cases n with
  | zero => rfl
  | succ n =>
    rw [mailClean, mailNext_of_asks h hh]
    exact if_pos hk

/-- A request taken from its queue and judged, then carried out (R636, R637). -/
theorem mailRun_of_asks (h : MailAsks type home need p m s) (hh : home = 30 ∨ home = 31) (hop : op = 0 ∨ numAt m 8 1 = op) (f : List Byte → Nat)
    (rule : Path → List Byte → State → Option (Nat × List Byte) × State) : mailRun type op home f rule s =
      if pathLevel s p < f m then mailReply p m 1 [] (setQueue home [] s) else mailAnswer p m (rule p m (setQueue home [] s)) := by
  have hnext := mailNext_of_asks h hh
  have hclean := mailClean_of_asks h hh 16
  obtain ⟨hq, -, -, -, -, hty, -, hok, -, hp⟩ := h
  have hpfw : (setQueue home [] s).pfw = false := hp
  have hdrop : setQueue home ((queue s home).drop 1) s = setQueue home [] s := by rw [hq]; rfl
  have hj : mailJudge (setQueue home [] s) p home home (f m) m = if pathLevel s p < f m then 1 else 0 := by
    rw [mailJudge, hpfw, hok]
    exact (if_neg (by simp)).trans (if_neg (by simp))
  have hbytes : (mailFrame p m).bytes = m := rfl
  rw [mailRun, hclean]
  dsimp only
  rw [hnext]
  dsimp only
  rw [hbytes, mailPath_mailFrame, hdrop, hj, if_pos ⟨hty, hop⟩]
  by_cases hl : pathLevel s p < f m
  · rw [if_pos hl, if_pos hl]
    rfl
  · rw [if_neg hl, if_neg hl]
    rfl

/-- The reply to a request that has left its queue (R636). -/
theorem mailReply_spec {r : Nat} {body : List Byte} (h : MailAsks type home need p m s) (hh : home = 30 ∨ home = 31) (hu : u.q = (setQueue home [] s).q) :
    MailReplied home p m r body s (mailReply p m r body u) := by
  obtain ⟨-, -, -, hlen, -⟩ := h
  have h29 : queue u 29 = queue s 29 := (queue_congr hu 29).trans (queue_setQueue_of_ne (by omega))
  have hhome : queue u home = [] := (queue_congr hu home).trans (queue_setQueue_self (by omega))
  have hulen : u.q.length = 32 := by rw [hu]; simpa [setQueue, setNth] using hlen
  refine ⟨?_, ?_⟩
  · rw [mailReply, queue_enqueue_self (by omega), h29]
  · rw [mailReply, queue_enqueue_of_ne (by omega), hhome]

theorem mailReply_regsBut (p : Path) (m : List Byte) (r : Nat) (body : List Byte) (s : State) : RegsBut [] s (mailReply p m r body s) := (RegsBut.refl _ s).same rfl

theorem setQueue_regsBut (n : Nat) (l : List Frame) (s : State) : RegsBut [] s (setQueue n l s) := (RegsBut.refl _ s).same rfl

/-- A request that only reads (R636). -/
theorem mailRead_spec {r : Nat} {body : List Byte} {f : List Byte → State → (Nat × List Byte) × State} (h : MailAsks type home need p m s)
    (hh : home = 30 ∨ home = 31) (hf : f m (setQueue home [] s) = ((r, body), setQueue home [] s)) :
    Answers (.next (mailRun type 0 home (fun _ => 0) (replies f) s)) fun t => MailReplied home p m r body s t ∧ RegsBut [] s t ∧ Within [.q] s t := by
  have e : mailRun type 0 home (fun _ => 0) (replies f) s = mailReply p m r body (setQueue home [] s) := by
    rw [mailRun_of_asks h hh (.inl rfl), if_neg (by omega), replies, hf]
    rfl
  exact ⟨_, congrArg Host.Outcome.next e, mailReply_spec h hh rfl, (setQueue_regsBut _ _ s).trans (mailReply_regsBut _ _ _ _ _),
    (setQueue_within _ _ s).comp (mailReply_within _ _ _ _ _) rfl⟩

end Run

section Transactions

variable {s : State} {p : Path} {m : List Byte}

theorem mailboxPush_taken {q : Nat} (ho : pathOpen s p = true) (hq : q = 30 ∨ q = 31) (h8 : 8 ≤ m.length) (h512 : m.length ≤ 512) :
    execMailboxPush p true q m s = .next (if 8 ≤ (queue s q).length then hostReply p 6 ((hostAccess p s).raise Fd.HIF_EVT_MBFULL)
      else hostReply p 0 (enqueue q (mailFrame p m) (hostAccess p s))) := by
  have hb : (q == 30 || q == 31) = true := by simpa using hq
  rw [execMailboxPush, mailPush, ho, hb]
  dsimp only
  rw [queue_congr hostAccess_q]
  exact congrArg _ ((if_neg (by simp)).trans ((if_neg (by simp [crcPass])).trans (if_neg (by omega))))

theorem mailboxPush_room (ho : pathOpen s p = true) (h8 : 8 ≤ m.length) (h512 : m.length ≤ 512) (hroom : (queue s 31).length < 8) (hq : s.q.length = 32) :
    Answers (execMailboxPush p true 31 m s) fun t =>
      queue t 31 = queue s 31 ++ [mailFrame p m] ∧ t.out = .hostStatus p 0 :: s.out ∧ RegsBut (hostRegs p) s t ∧ Within [.regs, .q, .out] s t := by
  have e := mailboxPush_taken (q := 31) ho (.inr rfl) h8 h512
  rw [if_neg (by omega)] at e
  have hr := hostAccess_regsBut p s
  have hw := hostAccess_within p s
  have hout : (hostAccess p s).out = s.out := hostAccess_out p s
  have hqu : (hostAccess p s).q = s.q := hostAccess_q
  generalize hostAccess p s = u at *
  refine ⟨_, e, ?_, congrArg _ hout, RegsBut.hostReply (p := p) (status := 0) (hr.same rfl), ((hw.sub rfl).comp (enqueue_within _ _ _) rfl).hostReply rfl⟩
  rw [← queue_congr hqu 31]
  exact queue_enqueue_self (by rw [hqu]; omega)

theorem mailboxPush_full (ho : pathOpen s p = true) (h8 : 8 ≤ m.length) (h512 : m.length ≤ 512) (hfull : (queue s 30).length = 8) :
    Answers (execMailboxPush p true 30 m s) fun t =>
      t.on Fd.HIF_EVT_MBFULL = true ∧ t.out = .hostStatus p 6 :: s.out ∧ RegsBut (Reg.HIF_EVT :: hostRegs p) s t ∧ Within [.regs, .out] s t := by
  have e := mailboxPush_taken (q := 30) ho (.inl rfl) h8 h512
  rw [if_pos (by omega)] at e
  refine ⟨_, e, by simp [on, raise, get_hostReply], ?_, ?_, (((hostAccess_within p s).sub rfl).raise rfl).hostReply rfl⟩
  · rw [hostReply_out, raise_out, hostAccess_out]
  · exact RegsBut.hostReply (p := p) (status := 6) (((hostAccess_regsBut p s).mono (by simp)).raise (by simp))

theorem mailPop_taken {q : Nat} (ho : pathOpen s p = true) (hq : q = 28 ∨ q = 29) : execMailboxPop p true q s =
    .next (match (queue s q).find? (mailFor (hostAccess p s) p q) with
      | some f => hostReply p 0 ((setQueue q ((queue s q).erase f) (hostAccess p s)).emit (.hostMail p f.bytes))
      | none => hostReply p 0 ((hostAccess p s).emit (.hostMail p []))) := by
  have hb : (q == 28 || q == 29) = true := by simpa using hq
  rw [execMailboxPop, mailPop, ho, hb, if_neg (by simp), if_neg (by simp [crcPass])]
  dsimp only
  rw [queue_congr hostAccess_q] <;> rfl

theorem mailboxPop_own {fs : List Frame} (ho : pathOpen s p = true) (hq : queue s 29 = mailFrame p m :: fs) (hlen : s.q.length = 32) :
    Answers (execMailboxPop p true 29 s) fun t =>
      queue t 29 = fs ∧ t.out = .hostStatus p 0 :: .hostMail p m :: s.out ∧ RegsBut (hostRegs p) s t ∧ Within [.regs, .q, .out] s t := by
  have hfor : mailFor (hostAccess p s) p 29 (mailFrame p m) = true := by
    rw [mailFor, mailPath_mailFrame]
    simp
  have e := mailPop_taken (q := 29) ho (.inr rfl)
  rw [hq, List.find?_cons_of_pos hfor] at e
  dsimp only at e
  rw [List.erase_cons_head] at e
  have hr := hostAccess_regsBut p s
  have hw := hostAccess_within p s
  have hout : (hostAccess p s).out = s.out := hostAccess_out p s
  have hqu : (hostAccess p s).q = s.q := hostAccess_q
  generalize hostAccess p s = u at *
  have hv : RegsBut (hostRegs p) s ((setQueue 29 fs u).emit (.hostMail p (mailFrame p m).bytes)) :=
    RegsBut.emit (hr.trans ((setQueue_regsBut 29 fs u).mono (by simp)))
  refine ⟨_, e, ?_, congrArg (fun o => Output.hostStatus p 0 :: Output.hostMail p m :: o) hout, hv.hostReply, (((hw.sub rfl).comp (setQueue_within _ _ _) rfl).emit rfl).hostReply rfl⟩
  exact queue_setQueue_self (by rw [hqu]; omega)

theorem mailboxPop_empty (ho : pathOpen s p = true) (hq : queue s 28 = []) : Answers (execMailboxPop p true 28 s) fun t =>
    t.out = .hostStatus p 0 :: .hostMail p [] :: s.out ∧ RegsBut (hostRegs p) s t ∧ Within [.regs, .out] s t := by
  have e := mailPop_taken (q := 28) ho (.inl rfl)
  rw [hq, List.find?_nil] at e
  refine ⟨_, e, ?_, RegsBut.hostReply (p := p) (status := 0) (hostAccess_regsBut p s).emit, (((hostAccess_within p s).sub rfl).emit rfl).hostReply rfl⟩
  exact congrArg (fun o => Output.hostStatus p 0 :: Output.hostMail p [] :: o) (hostAccess_out p s)

end Transactions

section Requests

variable {s : State} {p : Path} {m : List Byte}

theorem mbWriteTable_chunk (h : MailAsks 5 31 1 p m s) (h4 : 4 ≤ (mailBody m).length) (h500 : (mailBody m).length ≤ 500) (hmore : numAt (mailBody m) 2 1 = 0)
    (hz : numAt (mailBody m) 3 1 = 0) (hoff : numAt (mailBody m) 0 2 = s.mail.table.length) : Answers (execMbWriteTable s) fun t =>
      MailReplied 31 p m 0 [] s t ∧ t.mail = { s.mail with table := s.mail.table ++ (mailBody m).drop 4 } ∧ RegsBut [] s t ∧ Within [.q, .mail] s t := by
  obtain ⟨t, ht⟩ : ∃ t, t = setQueue 31 [] s := ⟨_, rfl⟩
  have htm : t.mail = s.mail := by rw [ht]; rfl
  obtain ⟨u, hu⟩ : ∃ u, u = setMail { t.mail with table := t.mail.table ++ (mailBody m).drop 4 } t := ⟨_, rfl⟩
  have hrule : writeTable m t = ((0, []), u) := by
    rw [writeTable, htm, hmore, hz, hu]
    dsimp only
    rw [← hoff, if_neg (by omega), if_neg (by simp), if_pos rfl, htm]
  have e : execMbWriteTable s = .next (mailReply p m 0 [] u) := by
    have hl : 1 ≤ pathLevel s p := h.2.2.2.2.2.2.2.2.1
    rw [execMbWriteTable, mailRun_of_asks h (.inr rfl) (.inl rfl), if_neg (by omega), replies, ← ht, hrule]
    rfl
  have hur : RegsBut [] s u := by rw [hu, ht]; exact (RegsBut.refl _ s).same rfl
  have huw : Within [.q, .mail] s u := by rw [hu, ht]; exact ((setQueue_within _ _ s).sub rfl).comp (setMail_within _ _) rfl
  have hum : u.mail = { s.mail with table := s.mail.table ++ (mailBody m).drop 4 } := by rw [hu, ← htm]; rfl
  exact ⟨_, e, mailReply_spec h (.inr rfl) (by rw [hu, ht]; rfl), hum, hur.trans (mailReply_regsBut _ _ _ _ _), huw.comp (mailReply_within _ _ _ _ _) rfl⟩

theorem mbWriteTable_low (h : MailAsks 5 31 0 p m s) (hl : pathLevel s p = 0) : Answers (execMbWriteTable s) fun t =>
    MailReplied 31 p m 1 [] s t ∧ RegsBut [] s t ∧ Within [.q] s t := by
  refine ⟨mailReply p m 1 [] (setQueue 31 [] s), ?_, mailReply_spec h (.inr rfl) rfl, (setQueue_regsBut _ _ s).trans (mailReply_regsBut _ _ _ _ _),
    (setQueue_within _ _ s).comp (mailReply_within _ _ _ _ _) rfl⟩
  rw [execMbWriteTable, mailRun_of_asks h (.inr rfl) (.inl rfl), if_pos (by omega)]

theorem pageWrite_spec (a : Nat) (data : List Byte) (s : State) : flashBytes (pageWrite a data s) a data.length = data ∧
    (pageWrite a data s).boot.erased.contains (a / 0x10000) = true ∧ RegsBut [] s (pageWrite a data s) ∧ (pageWrite a data s).q = s.q := by
  obtain ⟨t, ht⟩ : ∃ t, t = if s.boot.erased.contains (a / 0x10000) then s
      else setBoot { s.boot with erased := a / 0x10000 :: s.boot.erased } (fabErase (flashBase + 0x10000 * (a / 0x10000)) 0x10000 s) := ⟨_, rfl⟩
  have e : pageWrite a data s = fabWrite (flashBase + a) data t := by rw [pageWrite, ht]
  obtain ⟨k1, k2, k3⟩ : t.boot.erased.contains (a / 0x10000) = true ∧ RegsBut [] s t ∧ t.q = s.q := by
    by_cases h : s.boot.erased.contains (a / 0x10000) = true
    · rw [ht, if_pos h]
      exact ⟨h, .refl _ _, rfl⟩
    · rw [ht, if_neg h]
      refine ⟨?_, (RegsBut.refl _ s).same rfl, rfl⟩
      change (a / 0x10000 :: s.boot.erased).contains (a / 0x10000) = true
      simp
  rw [e]
  exact ⟨Memory.reads_writes data t.mem.cells (flashBase + a), k1, k2.same rfl, k3⟩

theorem flashSlot_numAt (m : List Byte) : numAt (mailBody m) 0 1 = numAt m 8 1 := rfl

theorem mbWriteFlash_page {n off base size : Nat} (h : MailAsks 6 31 2 p m s) (hlen : (mailBody m).length = 264) (hz : numAt (mailBody m) 1 3 = 0)
    (hn : numAt (mailBody m) 0 1 = n) (h2 : n < 2) (hslot : flashSlot n = some (base, size)) (hoff : numAt (mailBody m) 4 4 = off) (hal : off % 256 = 0)
    (hlt : off < size) (hheld : slotHeld s n = false) : Answers (execMbWriteFlash s) fun t =>
      MailReplied 31 p m 0 [] s t ∧ flashBytes t (base + off) 256 = (mailBody m).drop 8 ∧ t.boot.erased.contains ((base + off) / 0x10000) = true ∧
        RegsBut [] s t ∧ Within [.q, .boot, .mem] s t := by
  obtain ⟨t, ht⟩ : ∃ t, t = setQueue 31 [] s := ⟨_, rfl⟩
  have hheld' : slotHeld t n = false := by rw [ht]; exact hheld
  have hrule : writeFlash m t = ((0, []), pageWrite (base + off) ((mailBody m).drop 8) t) := by
    rw [writeFlash, hn, hoff, hz, hlen, hslot]
    dsimp only
    rw [if_neg (by simp), if_neg (by omega), if_pos h2, hheld', if_neg (by simp)]
  have e : execMbWriteFlash s = .next (mailReply p m 0 [] (pageWrite (base + off) ((mailBody m).drop 8) t)) := by
    have hl : 2 ≤ pathLevel s p := h.2.2.2.2.2.2.2.2.1
    have hneed : flashLevel m = 2 := if_neg (by rw [← flashSlot_numAt, hn]; omega)
    rw [execMbWriteFlash, mailRun_of_asks h (.inr rfl) (.inl rfl), hneed, if_neg (by omega), replies, ← ht, hrule]
    rfl
  have hdrop : ((mailBody m).drop 8).length = 256 := by rw [List.length_drop, hlen]
  obtain ⟨k1, k2, k3, k4⟩ := pageWrite_spec (base + off) ((mailBody m).drop 8) t
  have hw := pageWrite_within (base + off) ((mailBody m).drop 8) t
  rw [hdrop] at k1
  generalize pageWrite (base + off) ((mailBody m).drop 8) t = u at *
  have htr : RegsBut [] s t := by rw [ht]; exact setQueue_regsBut _ _ s
  have htw : Within [.q] s t := by rw [ht]; exact setQueue_within _ _ s
  exact ⟨_, e, mailReply_spec h (.inr rfl) (by rw [k4, ht]), k1, k2, htr.trans (k3.trans (mailReply_regsBut _ _ _ _ _)),
    ((htw.sub rfl).comp hw rfl).comp (mailReply_within _ _ _ _ _) rfl⟩

/-- A request of the card reader or the host's queue Q30, that one rule carries out (R636). -/
theorem mailOwn_spec {type op r : Nat} {body : List Byte} {u : State} {f : List Byte → State → (Nat × List Byte) × State} (h : MailAsks type 30 1 p m s)
    (hop : op = 0 ∨ numAt m 8 1 = op) (hf : f m (setQueue 30 [] s) = ((r, body), u)) (hu : u.q = (setQueue 30 [] s).q) :
    mailRun type op 30 (fun _ => 1) (replies f) s = mailReply p m r body u ∧ MailReplied 30 p m r body s (mailReply p m r body u) := by
  have hl : 1 ≤ pathLevel s p := h.2.2.2.2.2.2.2.2.1
  refine ⟨?_, mailReply_spec h (.inl rfl) hu⟩
  rw [mailRun_of_asks h (.inl rfl) hop, if_neg (by omega), replies, hf]
  rfl

theorem mbCardActivate_spec (h : MailAsks 7 30 1 p m s) (hop : numAt m 8 1 = 1) (hc : s.nfc.card = none) (hon : readerOn s = true)
    (hlast : s.get Fd.NFC_LAST_LEN ≠ 0) : Answers (execMbCardActivate true s) fun t =>
      MailReplied 30 p m 0 [] s t ∧ t.nfc = { s.nfc with card := some (lastUid s) } ∧ t.on Fd.NFC_STAT_L4 = true ∧ RegsBut [Reg.NFC_STAT] s t ∧
        Within [.regs, .q, .nfc] s t := by
  obtain ⟨t, ht⟩ : ∃ t, t = setQueue 30 [] s := ⟨_, rfl⟩
  obtain ⟨u, hu⟩ : ∃ u, u = setNfc { s.nfc with card := some (lastUid s) } (t.raise Fd.NFC_STAT_L4) := ⟨_, rfl⟩
  have hrule : cardActivate true t = ((0, []), u) := by
    have hct : t.nfc.card = none := by rw [ht]; exact hc
    have hont : readerOn t = true := by rw [ht]; exact hon
    have hlt : t.get Fd.NFC_LAST_LEN ≠ 0 := by rw [ht]; exact hlast
    rw [cardActivate, hct, hont, if_neg (by simp), if_neg (by simp), if_pos (by simpa using hlt), hu, ht]
    rfl
  obtain ⟨e, hrep⟩ := mailOwn_spec (op := 1) (u := u) (r := 0) (body := []) (f := fun _ t => cardActivate true t) h (.inr hop) (by rw [← ht]; exact hrule) (by rw [hu, ← ht]; rfl)
  have hun : u.nfc = { s.nfc with card := some (lastUid s) } := by rw [hu]; rfl
  have huon : u.on Fd.NFC_STAT_L4 = true := by
    have h1 : (t.raise Fd.NFC_STAT_L4).on Fd.NFC_STAT_L4 = true := by simp [on, raise]
    rw [hu]
    exact h1
  have hur : RegsBut [Reg.NFC_STAT] s u := by
    rw [hu, ht]
    exact RegsBut.trans (((setQueue_regsBut _ _ s).mono (by simp)).raise (by simp)) (setNfc_regsBut _ _ _)
  have huw : Within [.regs, .q, .nfc] s u := by
    rw [hu, ht]
    exact (((setQueue_within _ _ s).sub rfl).raise rfl).comp (setNfc_within _ _) rfl
  exact ⟨_, congrArg Host.Outcome.next e, hrep, hun, huon, hur.trans ((mailReply_regsBut _ _ _ _ _).mono (by simp)), huw.comp (mailReply_within _ _ _ _ _) rfl⟩

theorem mbCardExchange_spec {r : List Byte} (h : MailAsks 7 30 1 p m s) (hop : numAt m 8 1 = 2) (hc : s.nfc.card.isSome = true) (hlen : r.length ≤ 504) :
    Answers (execMbCardExchange (some r) s) fun t =>
      MailReplied 30 p m 0 r s t ∧ t.out = .apdu ((mailBody m).drop 4) :: s.out ∧ RegsBut [] s t ∧ Within [.q, .out] s t := by
  obtain ⟨t, ht⟩ : ∃ t, t = setQueue 30 [] s := ⟨_, rfl⟩
  have hrule : cardExchange m (some r) t = ((0, r), t.emit (.apdu ((mailBody m).drop 4))) := by
    have hct : t.nfc.card.isNone = false := by rw [ht, Option.isNone_eq_false_iff]; exact hc
    rw [cardExchange, hct, if_neg (by simp)]
    dsimp only
    rw [List.take_of_length_le hlen]
  obtain ⟨e, hrep⟩ := mailOwn_spec (op := 2) (u := t.emit (.apdu ((mailBody m).drop 4))) (r := 0) (body := r) (f := fun m t => cardExchange m (some r) t) h (.inr hop) (by rw [← ht]; exact hrule) (by rw [← ht]; rfl)
  have htr : RegsBut [] s t := by rw [ht]; exact setQueue_regsBut _ _ s
  have htw : Within [.q] s t := by rw [ht]; exact setQueue_within _ _ s
  have hto : t.out = s.out := htw.same .out (by simp)
  exact ⟨_, congrArg Host.Outcome.next e, hrep, congrArg _ hto, htr.emit.trans (mailReply_regsBut _ _ _ _ _), (((htw.sub rfl).emit rfl).comp (mailReply_within _ _ _ _ _) rfl)⟩

theorem mbCardDeselect_spec (h : MailAsks 7 30 1 p m s) (hop : numAt m 8 1 = 3) (hc : s.nfc.card.isSome = true) : Answers (execMbCardDeselect s) fun t =>
    MailReplied 30 p m 0 [] s t ∧ t.nfc = { s.nfc with card := none } ∧ t.on Fd.NFC_STAT_L4 = false ∧ RegsBut [Reg.NFC_STAT] s t ∧
      Within [.regs, .q, .nfc] s t := by
  obtain ⟨t, ht⟩ : ∃ t, t = setQueue 30 [] s := ⟨_, rfl⟩
  obtain ⟨u, hu⟩ : ∃ u, u = setNfc { s.nfc with card := none } (t.lower Fd.NFC_STAT_L4) := ⟨_, rfl⟩
  have hrule : (if t.nfc.card.isSome then ((0, []), cardEnd t) else ((3, []), t)) = ((0, ([] : List Byte)), u) := by
    have hct : t.nfc.card.isSome = true := by rw [ht]; exact hc
    rw [if_pos hct, cardEnd, hu, ht]
    rfl
  obtain ⟨e, hrep⟩ := mailOwn_spec (op := 3) (u := u) (r := 0) (body := []) (f := fun _ t => if t.nfc.card.isSome then ((0, []), cardEnd t) else ((3, []), t)) h (.inr hop)
    (by rw [← ht]; exact hrule) (by rw [hu, ← ht]; rfl)
  have hun : u.nfc = { s.nfc with card := none } := by rw [hu]; rfl
  have huon : u.on Fd.NFC_STAT_L4 = false := by
    have h1 : (t.lower Fd.NFC_STAT_L4).on Fd.NFC_STAT_L4 = false := by simp [on, lower]
    rw [hu]
    exact h1
  have hur : RegsBut [Reg.NFC_STAT] s u := by
    rw [hu, ht]
    exact RegsBut.trans (((setQueue_regsBut _ _ s).mono (by simp)).lower (by simp)) (setNfc_regsBut _ _ _)
  have huw : Within [.regs, .q, .nfc] s u := by
    rw [hu, ht]
    exact (((setQueue_within _ _ s).sub rfl).lower rfl).comp (setNfc_within _ _) rfl
  exact ⟨_, congrArg Host.Outcome.next e, hrep, hun, huon, hur.trans ((mailReply_regsBut _ _ _ _ _).mono (by simp)), huw.comp (mailReply_within _ _ _ _ _) rfl⟩

theorem mbRemoteId_spec (h : MailAsks 8 30 1 p m s) (h1 : 1 ≤ (mailBody m).length) (h64 : (mailBody m).length ≤ 64) : Answers (execMbRemoteId s) fun t =>
    MailReplied 30 p m 0 [] s t ∧ t.ses = { s.ses with remote := some (mailBody m, s.regN Reg.SYS_UPTIME) } ∧ RegsBut [] s t ∧ Within [.q, .ses] s t := by
  obtain ⟨t, ht⟩ : ∃ t, t = setQueue 30 [] s := ⟨_, rfl⟩
  obtain ⟨u, hu⟩ : ∃ u, u = setSes { t.ses with remote := some (mailBody m, t.regN Reg.SYS_UPTIME) } t := ⟨_, rfl⟩
  obtain ⟨e, hrep⟩ := mailOwn_spec (op := 0) (u := u) (r := 0) (body := []) (f := fun m t => let b := mailBody m
      if b.length < 1 ∨ 64 < b.length then ((2, []), t) else ((0, []), setSes { t.ses with remote := some (b, t.regN Reg.SYS_UPTIME) } t)) h (.inl rfl)
    (by
      rw [← ht, hu]
      exact if_neg (by omega)) (by rw [hu, ← ht]; rfl)
  have hus : u.ses = { s.ses with remote := some (mailBody m, s.regN Reg.SYS_UPTIME) } := by rw [hu, ht]; rfl
  have hur : RegsBut [] s u := by rw [hu, ht]; exact (RegsBut.refl _ s).same rfl
  have huw : Within [.q, .ses] s u := by rw [hu, ht]; exact ((setQueue_within _ _ s).sub rfl).comp (setSes_within _ _) rfl
  exact ⟨_, congrArg Host.Outcome.next e, hrep, hus, hur.trans (mailReply_regsBut _ _ _ _ _), huw.comp (mailReply_within _ _ _ _ _) rfl⟩

theorem numAt_lt (b : List Byte) (o : Nat) : numAt b o 4 < 2 ^ 32 := calc
  _ < 256 ^ ((b.drop o).take 4).length := ofLeBytes_lt _
  _ ≤ 256 ^ 4 := Nat.pow_le_pow_right (by decide) (List.length_take_le _ _)

/-- A credit transfer with a new number (R198): it waits for the commit, and its reply with it. -/
theorem mbCredit_new (h : MailAsks 9 30 1 p m s) (hlen : (mailBody m).length = 12) (hn : s.regN Reg.BIL_TOPUP < numAt (mailBody m) 0 4) :
    Answers (execMbCredit s) fun t =>
      t.regN Reg.BIL_TOPUP = numAt (mailBody m) 0 4 ∧ t.bil.transfers = s.bil.transfers ++ [(Bits.signed 64 (numAt (mailBody m) 4 8), numAt (mailBody m) 0 4, 2)] ∧
        t.mail = { s.mail with credits := [(p, mailTag m, numAt (mailBody m) 0 4, Bits.signed 64 (numAt (mailBody m) 4 8))] } ∧
        queue t 29 = queue s 29 ∧ queue t 30 = [] ∧ RegsBut [Reg.BIL_TOPUP] s t ∧ Within [.regs, .q, .bil, .mail] s t := by
  obtain ⟨t, ht⟩ : ∃ t, t = setQueue 30 [] s := ⟨_, rfl⟩
  have htm : t.mail = s.mail := by rw [ht]; rfl
  have htb : t.bil = s.bil := by rw [ht]; rfl
  obtain ⟨v, hv⟩ : ∃ v, v = { t with bil := { t.bil with transfers := t.bil.transfers ++ [(Bits.signed 64 (numAt (mailBody m) 4 8), numAt (mailBody m) 0 4, 2)] } } := ⟨_, rfl⟩
  have hvr : RegsBut [] s v := by rw [hv, ht]; exact (RegsBut.refl _ s).same rfl
  have hvw : Within [.q, .bil] s v := by
    rw [hv, ht]
    exact ((setQueue_within _ _ s).sub rfl).comp (Within.upd_bil _ _) rfl
  have hvb : v.bil.transfers = s.bil.transfers ++ [(Bits.signed 64 (numAt (mailBody m) 4 8), numAt (mailBody m) 0 4, 2)] := by rw [hv, ← htb]
  have hvm : v.mail = s.mail := hvw.same .mail (by simp)
  have hvq : v.q = (setQueue 30 [] s).q := by rw [hv, ht]
  have hc : creditTransfer (Bits.signed 64 (numAt (mailBody m) 4 8)) (numAt (mailBody m) 0 4) 2 t = (true, v.setRegN Reg.BIL_TOPUP (numAt (mailBody m) 0 4)) := by
    have hn' : t.regN Reg.BIL_TOPUP < numAt (mailBody m) 0 4 := by rw [ht]; exact hn
    rw [creditTransfer, if_pos hn', hv]
  obtain ⟨u, hu⟩ : ∃ u, u = v.setRegN Reg.BIL_TOPUP (numAt (mailBody m) 0 4) := ⟨_, rfl⟩
  rw [← hu] at hc
  have hum : u.mail = s.mail := by rw [hu, setRegN_mail, hvm]
  have hub : u.bil = v.bil := by rw [hu, setRegN_bil]
  have huq : u.q = (setQueue 30 [] s).q := by rw [hu, setRegN_q, hvq]
  have hun : u.regN Reg.BIL_TOPUP = numAt (mailBody m) 0 4 := by rw [hu]; exact (regN_setRegN_self v _ _).trans (Nat.mod_eq_of_lt (numAt_lt _ _))
  have hur : RegsBut [Reg.BIL_TOPUP] s u := by rw [hu]; exact (hvr.mono (by simp)).setRegN (by simp)
  have huw : Within [.regs, .q, .bil, .mail] s u := by rw [hu]; exact (hvw.sub rfl).setRegN rfl
  have e : execMbCredit s = .next (setMail { s.mail with credits := [(p, mailTag m, numAt (mailBody m) 0 4, Bits.signed 64 (numAt (mailBody m) 4 8))] } u) := by
    have hl : 1 ≤ pathLevel s p := h.2.2.2.2.2.2.2.2.1
    have hcr : s.mail.credits = [] := h.2.2.2.2.1
    rw [execMbCredit, mailRun_of_asks h (.inl rfl) (.inl rfl), if_neg (by omega), ← ht, mailCredit]
    dsimp only
    rw [if_neg (by omega), hc, if_pos rfl, hum, hcr]
    rfl
  obtain ⟨-, -, -, hq32, -⟩ := h
  refine ⟨_, e, hun, (congrArg BilState.transfers hub).trans hvb, rfl, ?_, ?_, hur.same rfl, huw.comp (setMail_within _ _) rfl⟩
  · exact (queue_congr huq 29).trans (queue_setQueue_of_ne (by decide))
  · exact (queue_congr huq 30).trans (queue_setQueue_self (by omega))

theorem mbCredit_old (h : MailAsks 9 30 1 p m s) (hlen : (mailBody m).length = 12) (hn : numAt (mailBody m) 0 4 ≤ s.regN Reg.BIL_TOPUP) :
    Answers (execMbCredit s) fun t =>
      MailReplied 30 p m 6 [] s t ∧ t.on Fd.BIL_EVT_TOPREJ = true ∧ RegsBut [Reg.BIL_EVT] s t ∧ Within [.regs, .q, .logs] s t := by
  obtain ⟨t, ht⟩ : ∃ t, t = setQueue 30 [] s := ⟨_, rfl⟩
  obtain ⟨u, hu⟩ : ∃ u, u = logWrite 0x0007 2 (numAt (mailBody m) 0 4) (t.raise Fd.BIL_EVT_TOPREJ) := ⟨_, rfl⟩
  have hc : creditTransfer (Bits.signed 64 (numAt (mailBody m) 4 8)) (numAt (mailBody m) 0 4) 2 t = (false, u) := by
    have hn' : ¬ t.regN Reg.BIL_TOPUP < numAt (mailBody m) 0 4 := by rw [ht]; exact Nat.not_lt.2 hn
    rw [creditTransfer, if_neg hn', hu]
  have e : execMbCredit s = .next (mailReply p m 6 [] u) := by
    have hl : 1 ≤ pathLevel s p := h.2.2.2.2.2.2.2.2.1
    rw [execMbCredit, mailRun_of_asks h (.inl rfl) (.inl rfl), if_neg (by omega), ← ht, mailCredit]
    dsimp only
    rw [if_neg (by omega), hc]
    rfl
  have hlog := logWrite_within 0x0007 2 (numAt (mailBody m) 0 4) (t.raise Fd.BIL_EVT_TOPREJ)
  rw [← hu] at hlog
  have htr : RegsBut [] s t := by rw [ht]; exact setQueue_regsBut _ _ s
  have htw : Within [.q] s t := by rw [ht]; exact setQueue_within _ _ s
  have huq : u.q = (setQueue 30 [] s).q := by rw [hlog.same .q (by simp), raise_q, ht]
  have hlr : RegsBut [] (t.raise Fd.BIL_EVT_TOPREJ) u := hlog.regsBut (by simp)
  have hon : u.on Fd.BIL_EVT_TOPREJ = true := by
    rw [hlr.on (by simp)]
    simp [on, raise]
  have hur : RegsBut [Reg.BIL_EVT] s u := ((htr.mono (by simp)).raise (by simp)).trans (hlr.mono (by simp))
  have huw : Within [.regs, .q, .logs] s u := ((htw.sub rfl).raise rfl).comp hlog rfl
  exact ⟨_, e, mailReply_spec h (.inl rfl) huq, hon, hur.trans ((mailReply_regsBut _ _ _ _ _).mono (by simp)), huw.comp (mailReply_within _ _ _ _ _) rfl⟩

end Requests

section Reads

variable {s : State} {m : List Byte}

theorem readWaybill_found {w : Waybill} (hlen : (mailBody m).length = 8) (hz : numAt (mailBody m) 1 3 = 0) (h1 : numAt (mailBody m) 0 1 = 1)
    (hw : s.bil.sessWb.find? (fun x => x.seq == numAt (mailBody m) 4 4) = some w) : readWaybill m s = (0, wbBytes s w ++ w.sig) := by
  rw [readWaybill]
  dsimp only
  rw [if_neg (by omega), if_pos h1, hw]

theorem readLog_newest {e : LogEntry} {es : List LogEntry} {k : Nat} (hlen : (mailBody m).length = 8) (hz : numAt (mailBody m) 2 2 = 0)
    (hk : numAt (mailBody m) 0 1 = k) (h5 : k < 5) (h1 : numAt (mailBody m) 1 1 = 1) (h0 : numAt (mailBody m) 4 4 = 0)
    (he : (nth s.logs k ⟨[], 0⟩).entries = e :: es) : readLog m s = (0, logBytes e) := by
  rw [readLog]
  dsimp only
  rw [if_neg (by omega), hk, h1, h0, he]
  exact (if_neg (by simp; omega)).trans (by simp)

theorem readProfile_found {e : ProfEntry} (hlen : (mailBody m).length = 8) (hz : numAt (mailBody m) 1 3 = 0) (h2 : numAt (mailBody m) 0 1 = 2)
    (he : s.bil.lp2[numAt (mailBody m) 4 4]? = some e) :
    readProfile m s = (0, Bits.leBytes 4 e.endT ++ Bits.leBytes 2 e.status ++ e.values.flatMap (fun v => Bits.leBytes 8 (Bits.ofInt 64 v))) := by
  rw [readProfile]
  dsimp only
  rw [if_neg (by omega), if_neg (by omega), if_pos h2, he]

theorem readOutage_none (hlen : (mailBody m).length = 8) (hz : numAt (mailBody m) 1 3 = 0) (h : s.btm.outages = []) : readOutage m s = (3, []) := by
  rw [readOutage]
  dsimp only
  rw [if_neg (by omega), h]
  exact if_pos (by simp)

theorem readOutage_newest {o : OutageRec} {os : List OutageRec} (hlen : (mailBody m).length = 8) (hz : numAt (mailBody m) 1 3 = 0)
    (h1 : numAt (mailBody m) 0 1 = 1) (h0 : numAt (mailBody m) 4 4 = 0) (h : s.btm.outages = o :: os) :
    readOutage m s = (0, (outageWords o).flatMap (Bits.leBytes 4)) := by
  rw [readOutage]
  dsimp only
  rw [if_neg (by omega), h, h1, h0]
  exact (if_neg (by simp)).trans (by simp)

end Reads

/-- Settles O46: a request alone in its queue is the next one judged; its rule runs over the state without it, and the reply follows. -/
theorem mailbox : Obligations.Mailbox := by
  refine ⟨fun s p m ho h8 h512 hr hq => mailboxPush_room ho h8 h512 hr hq, fun s p m ho h8 h512 hf => mailboxPush_full ho h8 h512 hf, fun s m ho => ?_,
    fun s p m fs ho hq hlen => mailboxPop_own ho hq hlen, fun s p ho hq => mailboxPop_empty ho hq, fun s p m w h hlen hz h1 hw => ?_,
    fun s p m e es k h hlen hz hk h5 h1 h0 he => ?_, fun s p m e h hlen hz h2 he => ?_, fun s p m h hlen hz ho => ?_,
    fun s p m o os h hlen hz h1 h0 ho => ?_, fun s p m h h4 h500 hm hz ho => mbWriteTable_chunk h h4 h500 hm hz ho, fun s p m h hl => mbWriteTable_low h hl,
    fun s p m n off base size h hlen hz hn h2 hs ho hal hlt hheld => mbWriteFlash_page h hlen hz hn h2 hs ho hal hlt hheld,
    fun s p m h hop hc hon hl => mbCardActivate_spec h hop hc hon hl, fun s p m r h hop hc hlen => mbCardExchange_spec h hop hc hlen,
    fun s p m h hop hc => mbCardDeselect_spec h hop hc, fun s p m h h1 h64 => mbRemoteId_spec h h1 h64, fun s p m h hlen hn => mbCredit_new h hlen hn,
    fun s p m h hlen hn => mbCredit_old h hlen hn⟩
  · obtain ⟨k1, k2, k3, k4, k5⟩ := crcError_spec .spi s
    refine ⟨crcError .spi s, ?_, k2, k3, k1, k4, k5⟩
    change execMailboxPush .spi false 30 m s = _
    rw [execMailboxPush, mailPush, ho]
    rfl
  · exact mailRead_spec h (.inr rfl) (congrArg (fun x => (x, _)) (readWaybill_found hlen hz h1 hw))
  · exact mailRead_spec h (.inr rfl) (congrArg (fun x => (x, _)) (readLog_newest hlen hz hk h5 h1 h0 he))
  · exact mailRead_spec h (.inr rfl) (congrArg (fun x => (x, _)) (readProfile_found hlen hz h2 he))
  · exact mailRead_spec h (.inr rfl) (congrArg (fun x => (x, _)) (readOutage_none hlen hz ho))
  · exact mailRead_spec h (.inr rfl) (congrArg (fun x => (x, _)) (readOutage_newest hlen hz h1 h0 ho))

end Sys2Proof.Machine
end

section
/-!
The shutdown of a hot die (spec/26_electrical.md R668): why PWR_TEMP.HOT need not stand after it in every state. The warning that begins the save refuses
the deferred requests; nothing after it writes PWR_TEMP in a module that is quiet.
-/
namespace Sys2Proof.Machine

open State

variable {s : State}

/-- Nothing under way that a power-fail warning ends: no session, no switch that is on, neither engine under test or rejoining, nothing to commit, nothing staged. -/
structure Quiet (s : State) : Prop where
  ses : sesSt s = 0
  lsw : ∀ n, n < 12 → lsSt s n = 0
  eng : ∀ e, e < 2 → engSt s e < 3
  x00 : s.x00 = []
  pend : s.bil.pend = []
  due : s.bil.due = []
  began : s.bil.began = false
  stage : s.dlm.stage = none

/-- What is quiet stays so while the registers that show it and the records are left. -/
theorem Quiet.of_regs {t : State} {l : List Nat} (h : Quiet s) (hr : RegsBut l s t) (hl : ∀ a ∈ l, a ≠ Reg.SES_STAT ∧
    (∀ n, n < 12 → a ≠ Reg.LSW_CH n) ∧ ∀ e, e < 2 → a ≠ Reg.PTS_ENG e) (hx : t.x00 = s.x00) (hb : t.bil = s.bil) (hd : t.dlm.stage = s.dlm.stage) :
    Quiet t where
  ses := (hr.get fun hm => (hl _ hm).1 rfl).trans h.ses
  lsw n hn := (hr.get fun hm => (hl _ hm).2.1 n hn rfl).trans (h.lsw n hn)
  eng e he := by
    have heq : engSt t e = engSt s e := hr.get fun hm => (hl _ hm).2.2 e he rfl
    exact heq ▸ h.eng e he
  x00 := hx.trans h.x00
  pend := hb ▸ h.pend
  due := hb ▸ h.due
  began := hb ▸ h.began
  stage := hd.trans h.stage

theorem sesPowerFail_of_idle (h : sesSt s = 0) : sesPowerFail s = s := if_neg (by omega)

theorem dlmPowerFail_of_unstaged (h : s.dlm.stage = none) : dlmPowerFail s = dlmShow (setDlm { s.dlm with assocs := [] } s) := by
  simp only [dlmPowerFail, stageDrop, h]

theorem dlmPowerFail_regsBut (h : s.dlm.stage = none) : RegsBut [Reg.DLM_STAT] s (dlmPowerFail s) := by
  rw [dlmPowerFail_of_unstaged h]
  exact (setDlm_regsBut _ _ s).trans (dlmShow_regsBut _)

/-- Nothing is shed while no switch is on (R517). -/
theorem lsShed_regsBut (h : ∀ n, n < 12 → lsSt s n = 0) : RegsBut [Reg.LSW_EVT] s (lsShed s) := by
  have e : upTo 12 (fun n u => if (s.parN Par.PF_SHED).testBit n && lsSt u n == 1 then lsOff n 0 u else u) s = s :=
    upTo_preserves (P := fun u => u = s) (fun n hn u hu => (if_neg (by rw [hu, h n hn]; simp)).trans hu) rfl
  simp only [lsShed, e]
  exact .ite (.refl _ s) ((RegsBut.refl _ s).raise (by simp))

theorem lcdDown_regsBut (s : State) : RegsBut lcdRegs s (lcdDown s) := by
  unfold lcdDown
  obtain ⟨t, ht⟩ : ∃ t, t = (((s.lower Fd.LCD_STAT_BLON).lower Fd.LCD_STAT_DRVON).lower Fd.LCD_STAT_BIASOK).lower Fd.LCD_STAT_VLCDOK := ⟨_, rfl⟩
  have hr : RegsBut lcdRegs s t := by
    rw [ht]
    exact ((((RegsBut.refl _ s).lower (by decide)).lower (by decide)).lower (by decide)).lower (by decide)
  rw [← ht]
  exact ((hr.same (u := setLcd { t.lcd with shown := false } t) rfl).trans (lcdShow_regsBut _)).trans (lcdLight_regsBut _ _)

/-- No engine is tested, warms up, shadows or is on trial (R163). -/
theorem ptsAbandon_of_idle (h : ∀ e, e < 2 → engSt s e < 3) : ptsAbandon s = s := by
  have h0 : engSt s 0 < 3 := h 0 (by omega)
  have h1 : engSt s 1 < 3 := h 1 (by omega)
  have e : (if [0, 1].any (fun e => engSt s e == 6) then trialStop s else s) = s := if_neg (by simp; omega)
  have hidle : ∀ n, n < 2 → ∀ u, u = s → (if [3, 4, 5].contains (engSt u n) then setEng n 2 u else u) = s := fun n hn u hu =>
    (if_neg (by have hlt := h n hn; rw [hu]; simp; omega)).trans hu
  unfold ptsAbandon
  rw [e]
  exact upTo_preserves (P := fun u => u = s) hidle rfl

theorem testsAbandon_regsBut (s : State) : RegsBut [Reg.EFT_STAT] s (testsAbandon s) :=
  RegsBut.same (((RegsBut.refl _ s).lower (by simp)).lower (by simp)) rfl

/-- A channel's stop writes only the registers of the Shunter. -/
theorem shnStop_reg {a : Nat} (ha : a < Reg.SHN_BUSY) (ch code : Nat) (s : State) : (shnStop ch code s).reg a = s.reg a := by
  have hr : RegsBut [Reg.SHN_DONE, Reg.SHN_CH ch, Reg.SHN_ERR, Reg.SHN_BUSY, Reg.SHN_SHDV, Reg.SHN_DESC ch 3, Reg.SHN_DESC ch 11] s (shnStop ch code s) := by
    unfold shnStop shnCode shnState shnDisarm
    have h0 : RegsBut [Reg.SHN_DONE, Reg.SHN_CH ch, Reg.SHN_ERR, Reg.SHN_BUSY, Reg.SHN_SHDV, Reg.SHN_DESC ch 3, Reg.SHN_DESC ch 11] s
        (if shnEnded s ch then s.putBit Reg.SHN_DONE ch true else s) := .ite ((RegsBut.refl _ s).putBit (by simp)) (.refl _ s)
    exact (((((((h0.lower (by simp)).putBit (by simp)).put (by simp)).putBit (by simp)).putB (by simp)).put (by simp)).putBit (by simp))
  have hb : Reg.SHN_BUSY = 0x50000 := rfl
  refine hr a fun hm => ?_
  simp only [List.mem_cons, List.not_mem_nil, or_false, Reg.SHN_DONE, Reg.SHN_CH, Reg.SHN_ERR, Reg.SHN_BUSY, Reg.SHN_SHDV, Reg.SHN_DESC] at hm ha
  omega

theorem shnPowerFail_reg {a : Nat} (ha : a < Reg.SHN_BUSY) (s : State) : (shnPowerFail s).reg a = s.reg a :=
  upTo_preserves (P := fun u => u.reg a = s.reg a) (fun ch _ u hu => by
    split
    · exact hu
    · exact (shnStop_reg ha ch 5 u).trans hu) rfl

/-- A register that a quiet power-fail warning leaves, but for the refusals of deferred requests. -/
def keptInSave (a : Nat) : Prop :=
  a < Reg.SHN_BUSY ∧ a ∉ Reg.TTB_STAT :: Reg.PWR_HOLD :: Reg.EFT_STAT :: Reg.DLM_STAT :: Reg.LSW_EVT :: (causeRegs ++ lcdRegs)

/-- What follows the refusals of a power-fail warning, in a module that is quiet (R517, R528, R163, R297, R476, R620). -/
theorem pfAssert_quiet {a : Nat} {t : State} (ht : t = tokPowerFail (setPow { s.pow with saving := true } s)) (hq : Quiet t) (ha : keptInSave a) :
    (pfAssert s).reg a = t.reg a ∧ (pfAssert s).x00 = [] ∧ (pfAssert s).bil = t.bil ∧ (pfAssert s).pow = t.pow := by
  obtain ⟨hlow, hkept⟩ := ha
  obtain ⟨u, hu⟩ : ∃ u, u = causeSet 21 (t.raise Fd.TTB_STAT_PFMODE) := ⟨_, rfl⟩
  have hwu : Within [.regs, .btm, .saf, .x03, .x19] t u := by rw [hu]; exact ((Within.refl _ t).raise rfl).trans (causeSet_within 21 _)
  have hru : RegsBut (Reg.TTB_STAT :: causeRegs) t u := by
    rw [hu]
    exact ((RegsBut.refl _ t).raise (by simp)).trans ((causeSet_keeps 21 _).regs.mono (List.subset_cons_self _ _))
  have hqu : Quiet u := hq.of_regs hru (by decide +kernel) (hwu.same .x00 (by simp)) (hwu.same .bil (by simp)) (congrArg DlmState.stage (hwu.same .dlm (by simp)))
  obtain ⟨v, hv⟩ : ∃ v, v = lcdDown (lsShed (dlmPowerFail u)) := ⟨_, rfl⟩
  have hrd : RegsBut [Reg.DLM_STAT] u (dlmPowerFail u) := dlmPowerFail_regsBut hqu.stage
  have hls : ∀ n, n < 12 → lsSt (dlmPowerFail u) n = 0 := fun n hn =>
    (hrd.get (by simp only [List.mem_singleton, Reg.LSW_CH, Reg.DLM_STAT]; omega)).trans (hqu.lsw n hn)
  have hrv : RegsBut (Reg.DLM_STAT :: Reg.LSW_EVT :: lcdRegs) u v := by
    rw [hv]
    exact ((hrd.mono (by simp)).trans ((lsShed_regsBut hls).mono (by simp))).trans ((lcdDown_regsBut _).mono (by simp))
  have hev : ∀ e, e < 2 → engSt v e < 3 := fun e he => by
    have heq : engSt v e = engSt u e := hrv.get (by
      have hcases : e = 0 ∨ e = 1 := by omega
      rcases hcases with rfl | rfl <;> decide)
    exact heq ▸ hqu.eng e he
  have e : pfAssert s = shnPowerFail (testsAbandon v) := by
    rw [pfAssert, ← ht, ← hu, sesPowerFail_of_idle hqu.ses, ← hv, ptsAbandon_of_idle hev]
  have hw : Within [.regs, .tok, .pts, .btm, .saf, .x03, .x19, .dlm, .lsw, .lcd] t (pfAssert s) := by
    rw [e, hv]
    exact ((((((hwu.sub rfl).trans ((dlmPowerFail_within u).sub rfl)).trans ((lsShed_within _).sub rfl)).trans ((lcdDown_within _).sub rfl)).trans
      ((testsAbandon_within _).sub rfl)).trans ((shnPowerFail_within _).sub rfl))
  refine ⟨?_, (hw.same .x00 (by simp)).trans hq.x00, hw.same .bil (by simp), hw.same .pow (by simp)⟩
  rw [e, shnPowerFail_reg hlow]
  refine ((testsAbandon_regsBut v).trans (RegsBut.refl _ _) a ?_).trans ((hrv a ?_).trans (hru a ?_))
  · exact fun hm => hkept (by simp at hm; simp [hm])
  · exact fun hm => hkept (by simp only [List.mem_cons, List.mem_append] at hm ⊢; grind)
  · exact fun hm => hkept (by simp only [List.mem_cons, List.mem_append] at hm ⊢; grind)

/-- A save with nothing to bill writes HOLD.SAVE, TTB_STAT and registers of the Shunter. -/
theorem saveRun_quiet {a : Nat} (ha : keptInSave a) (hx : s.x00 = []) (hp : s.bil.pend = []) (hd : s.bil.due = []) (hb : s.bil.began = false) (dur : Nat) :
    (saveRun 0 dur s).reg a = s.reg a := by
  obtain ⟨hlow, hkept⟩ := ha
  have ht : takeAll s = s := by rw [takeAll, hx]; rfl
  obtain ⟨u, hu⟩ : ∃ u, u = intakeStop 0 s := ⟨_, rfl⟩
  have hui : u.reg a = s.reg a ∧ u.bil = { s.bil with stopped := true } := by
    rw [hu]
    simp only [intakeStop, ht, if_pos]
    split
    · exact ⟨shnStop_reg hlow 0 5 _, (shnStop_within 0 5 _).same .bil (by simp)⟩
    · exact ⟨rfl, rfl⟩
  obtain ⟨hur, hub⟩ := hui
  obtain ⟨v, hv⟩ : ∃ v, v = confirm u := ⟨_, rfl⟩
  have hvi : v.reg a = u.reg a ∧ v.bil.due = [] := by
    rw [hv]
    simp [confirm, hub, hp, hd, hb, reg]
  obtain ⟨hvr, hvd⟩ := hvi
  have hc : commitEvery 1 false v = v := by rw [commitEvery, hvd]; rfl
  obtain ⟨x, hx⟩ : ∃ x, x = logWrite 0x0201 0 v.bil.lost (outageBegin v.bil.lost v) := ⟨_, rfl⟩
  have e : saveRun 0 dur s = setPow { ((x.lower Fd.TTB_STAT_PFMODE).put Fd.PWR_HOLD_SAVE dur).pow with saving := false, saved := true }
      ((x.lower Fd.TTB_STAT_PFMODE).put Fd.PWR_HOLD_SAVE dur) := by
    rw [saveRun, ← hu, ← hv, hc, ← hx]
  have hxr : x.regs = v.regs := by rw [hx, logWrite_regs]; rfl
  have hr : RegsBut [Reg.TTB_STAT, Reg.PWR_HOLD] v ((x.lower Fd.TTB_STAT_PFMODE).put Fd.PWR_HOLD_SAVE dur) :=
    ((RegsBut.same (.refl _ v) hxr).lower (by simp)).put (by simp)
  rw [e]
  exact (hr a fun hm => hkept (by simp at hm; simp; grind)).trans (hvr.trans hur)

/-- The registers of another island stay when an island is reset. -/
theorem reg_resetRegs {a : Nat} {i : Island} (h : regIsland a ≠ i) (s : State) : (resetRegs i s).reg a = s.reg a := by
  rw [reg, reg, resetRegs]
  dsimp only
  induction s.regs with
  | nil => rfl
  | cons e m ih =>
    obtain ⟨k, w⟩ := e
    by_cases hk : a = k
    · subst hk
      simp [Sparse.get, h]
    · rw [List.filterMap_cons]
      split
      · rw [ih, Sparse.get, if_neg hk]
      · rename_i e' he
        have hk' : e'.1 = k := by
          split at he
          · split at he <;> cases he
            rfl
          · cases he
            rfl
        rw [Sparse.get, Sparse.get, if_neg hk, if_neg (hk' ▸ hk), ih]

/-- The Signal Box's reset writes registers of its own only. -/
theorem reg_islandReset_signalBox {a : Nat} (h : regIsland a ≠ .signalBox) (s : State) : (islandReset .signalBox s).reg a = s.reg a :=
  reg_resetRegs h s

/-- A save that begins and completes in a module that is quiet, as its refusals leave it. -/
theorem moduleStop_quiet {a : Nat} (hup : s.pow.cause = 0 ∧ s.pow.saving = false ∧ s.pow.saved = false)
    (hq : Quiet (tokPowerFail (setPow { s.pow with saving := true } s))) (ha : keptInSave a) (hi : regIsland a ≠ .signalBox) (code dur : Nat) :
    (moduleStop code 0 (some dur) s).reg a = (tokPowerFail (setPow { s.pow with saving := true } s)).reg a := by
  obtain ⟨hcause, hsaving, hsaved⟩ := hup
  obtain ⟨t, ht⟩ : ∃ t, t = tokPowerFail (setPow { s.pow with saving := true } s) := ⟨_, rfl⟩
  rw [← ht] at hq ⊢
  obtain ⟨hr, hx, hb, hp⟩ := pfAssert_quiet ht hq ha
  have htp : t.pow = { s.pow with saving := true } := by rw [ht]; exact (tokPowerFail_within _).same .pow (by simp)
  obtain ⟨v, hv⟩ : ∃ v, v = pfAssert s := ⟨_, rfl⟩
  rw [← hv] at hr hx hb hp
  have hvs : v.pow.saving = true := by rw [hp, htp]
  have hsave : powerSave 0 (some dur) s = saveRun 0 dur v := by
    simp only [powerSave, hsaving, hsaved, Bool.or_self, Bool.false_eq_true, if_false, ← hv, hvs, if_true]
  have e : moduleStop code 0 (some dur) s = setPow { (saveRun 0 dur v).pow with cause := code } (islandReset .signalBox (saveRun 0 dur v)) := by
    rw [moduleStop, if_neg (by simp [hcause, hsaved]), ← hsave]
  have hset : ∀ p x, (setPow p x).reg a = x.reg a := fun _ _ => rfl
  rw [e, hset, reg_islandReset_signalBox hi, saveRun_quiet ha hx ((congrArg BilState.pend hb).trans hq.pend) ((congrArg BilState.due hb).trans hq.due)
    ((congrArg BilState.began hb).trans hq.began), hr]

/-- The count of refusals of kind 8135 lies in PWR_TEMP, from the bit of WARM upwards. -/
theorem tokCnt_pwrTemp : Reg.TOK_CNT 8135 = Reg.PWR_TEMP := rfl

/-- The only deferred request refused (R51). -/
theorem tokPowerFail_of_one {e : TokEntry} (h : s.tok.deferred = [e]) : tokPowerFail s =
    (tokShow { tokRefuse e.kind 1 s with tok := ⟨(tokRefuse e.kind 1 s).tok.held, []⟩ }).raise Fd.TOK_STAT_PFBLOCK := by
  rw [tokPowerFail, h]
  rfl

/-- What the refusal of a deferred request of kind 8135 writes: with WARM and HOT set, it moves them out of their bits. -/
theorem tokPowerFail_stray (h : s.tok.deferred = [⟨8135, 0, 0, 0, false⟩]) (ht : s.reg Reg.PWR_TEMP = 0x30000) :
    (tokPowerFail s).reg Reg.PWR_TEMP = 0x40000 ∧
      RegsBut [Reg.TOK_EVT, Reg.TOK_LAST, Reg.TOK_CNT 8135, Reg.TOK_STAT, Reg.TOK_POWER] s (tokPowerFail s) := by
  obtain ⟨y, hy⟩ : ∃ y, y = ((s.raise Fd.TOK_EVT_REFUSED).put Fd.TOK_LAST_REASON 1).put Fd.TOK_LAST_KIND 8135 := ⟨_, rfl⟩
  have hyt : y.reg Reg.PWR_TEMP = 0x30000 := by
    rw [hy]
    exact ((((RegsBut.refl [Reg.TOK_EVT, Reg.TOK_LAST] s).raise (by simp)).put (by simp)).put (by simp) _ (by decide)).trans ht
  have e : tokRefuse 8135 1 s = y.bump (Fd.TOK_CNT_REFUSALS 8135) := by rw [tokRefuse, if_neg (by decide), hy]
  have hc : (y.bump (Fd.TOK_CNT_REFUSALS 8135)).reg Reg.PWR_TEMP = 0x40000 := by
    rw [bump, put, State.get]
    dsimp only
    rw [tokCnt_pwrTemp, reg_setReg_self, hyt]
    decide
  rw [tokPowerFail_of_one h]
  obtain ⟨x, hx⟩ : ∃ x, x = tokRefuse 8135 1 s := ⟨_, rfl⟩
  have hxr : RegsBut [Reg.TOK_EVT, Reg.TOK_LAST, Reg.TOK_CNT 8135] s x := hx ▸ tokRefuse_regsBut 8135 1 s
  rw [← hx]
  have hr : RegsBut [Reg.TOK_STAT, Reg.TOK_POWER] x ((tokShow { x with tok := ⟨x.tok.held, []⟩ }).raise Fd.TOK_STAT_PFBLOCK) :=
    RegsBut.raise (RegsBut.trans (RegsBut.same (.refl _ x) (u := { x with tok := ⟨x.tok.held, []⟩ }) rfl) (tokShow_regsBut _)) (by simp)
  exact ⟨(hr _ (by decide)).trans (by rw [hx, e, hc]), (hxr.mono (by simp)).trans (hr.mono (by simp))⟩

/-- A powered module whose die is warm, while a request of kind 8135 is deferred. -/
def strayHot : State := (strayToken 0 ⟨1, 0, 0, 0, false⟩ 8135).raise Fd.PWR_TEMP_WARM

/-- The module when its die is found hot, before the fault is noted. -/
def strayShut : State := (strayHot.raise Fd.PWR_TEMP_HOT).raise Fd.PWR_TEMPEVT_SHUT

theorem strayShut_quiet : Quiet strayShut where
  ses := by decide +kernel
  lsw := by decide +kernel
  eng := by decide +kernel
  x00 := rfl
  pend := rfl
  due := rfl
  began := rfl
  stage := rfl

/-- A fault noted, whatever its code, and a save begun leave the module quiet. -/
theorem quiet_of_fault {z : State} (hn : RegsBut [Reg.SYS_FLT, Reg.SYS_FLTLAST] strayShut z) (hw : Within [.regs, .logs, .free] strayShut z) :
    Quiet (tokPowerFail (setPow { z.pow with saving := true } z)) ∧
      (tokPowerFail (setPow { z.pow with saving := true } z)).reg Reg.PWR_TEMP = 0x40000 := by
  have hq : Quiet z := strayShut_quiet.of_regs hn (by decide +kernel) (hw.same .x00 (by simp)) (hw.same .bil (by simp))
    (congrArg DlmState.stage (hw.same .dlm (by simp)))
  obtain ⟨y, hy⟩ : ∃ y, y = setPow { z.pow with saving := true } z := ⟨_, rfl⟩
  have hyw : Within [.pow] z y := by rw [hy]; exact setPow_within _ _
  have hyr : y.reg Reg.PWR_TEMP = 0x30000 :=
    (hyw.regsBut (l := []) (by simp) _ (by simp)).trans ((hn _ (by decide)).trans (by decide +kernel))
  have hyd : y.tok.deferred = [⟨8135, 0, 0, 0, false⟩] := congrArg TokState.deferred ((hyw.same .tok (by simp)).trans (hw.same .tok (by simp)))
  obtain ⟨ht, hr⟩ := tokPowerFail_stray hyd hyr
  have hrt := (hyw.regsBut (by simp)).trans hr
  have hwt : Within [.regs, .tok, .pow] z (tokPowerFail y) := (hyw.sub rfl).trans ((tokPowerFail_within y).sub rfl)
  rw [← hy]
  exact ⟨hq.of_regs hrt (by decide +kernel) (hwt.same .x00 (by simp)) (hwt.same .bil (by simp)) (congrArg DlmState.stage (hwt.same .dlm (by simp))), ht⟩

/-- The save leaves PWR_TEMP as the refusal left it, with HOT clear. -/
theorem hot_strayHot : (dieShutdown 0 (some 0) strayHot).on Fd.PWR_TEMP_HOT = false := by
  obtain ⟨z, hz⟩ : ∃ z, z = faultOther 4 .core strayShut := ⟨_, rfl⟩
  have hn : RegsBut [Reg.SYS_FLT, Reg.SYS_FLTLAST] strayShut z := hz ▸ faultOther_regsBut 4 .core strayShut
  have hw : Within [.regs, .logs, .free] strayShut z := hz ▸ faultOther_within 4 .core strayShut
  have hpow : z.pow = strayShut.pow := hw.same .pow (by simp)
  have hup : z.pow.cause = 0 ∧ z.pow.saving = false ∧ z.pow.saved = false := by rw [hpow]; exact ⟨rfl, rfl, rfl⟩
  obtain ⟨hq, ht⟩ := quiet_of_fault hn hw
  obtain ⟨u, hu⟩ : ∃ u, u = moduleStop 8 0 (some 0) z := ⟨_, rfl⟩
  have hut : u.reg Reg.PWR_TEMP = 0x40000 := by
    rw [hu]
    exact (moduleStop_quiet hup hq ⟨by decide, by decide +kernel⟩ (by decide +kernel) 8 0).trans ht
  have e : dieShutdown 0 (some 0) strayHot = setPow { u.pow with hot := true } u := by rw [dieShutdown, hu, hz, strayShut]
  have hon : (setPow { u.pow with hot := true } u).on Fd.PWR_TEMP_HOT = u.on Fd.PWR_TEMP_HOT := rfl
  rw [e, hon, on, State.get, hut]
  decide

/-- Refutes O55: the clause of an overtemperature shutdown says PWR_TEMP.HOT is set in every state, but the refusal of a deferred request of kind 8135 is
counted in PWR_TEMP itself (strayHot; no run of the module reaches it, as requests have kinds 0 to 8). -/
theorem not_powerAndResets : ¬ Obligations.PowerAndResets := by
  unfold Obligations.PowerAndResets
  rintro ⟨-, -, -, -, -, -, -, -, -, -, -, -, -, -, -, -, -, -, -, -, -, hshut, -⟩
  have hrun : strayHot.running = true := by decide +kernel
  obtain ⟨t, ht, hhot, -⟩ := hshut strayHot 0 0 hrun rfl
  have e : exec (.dieTemperatureShutdown 0 (some 0)) strayHot = .next (dieShutdown 0 (some 0) strayHot) := rfl
  rw [← Host.Outcome.next.inj (e.symm.trans ht), hot_strayHot] at hhot
  exact absurd hhot (by decide)

end Sys2Proof.Machine
end

section
/-!
The front end's converters and lanes (spec/02_metrology_frontend.md R69, R80 to R92): what a converter's failure, a rotation step that passes and a lane's
move write.
-/
namespace Sys2Proof.Machine

open State

section Converters

variable {s t : State} {c r sp x : Nat}

theorem setConv_regsBut (c st role : Nat) (s : State) : RegsBut [Reg.AFE_CSTATE c] s (setConv c st role s) := by simp [setConv]

theorem convState_setConv {st : Nat} (hst : st < 8) (c role : Nat) (s : State) : convState (setConv c st role s) c = st := by
  rw [convState, setConv, get_put_of_apart _ _ (.inr (.inr (by simp))), get_put_self _ _ _ (by simp)]
  exact Nat.mod_eq_of_lt hst

theorem setConv_afe (c st role : Nat) (s : State) : (setConv c st role s).afe = s.afe := rfl

theorem faultOther_new (cls : Nat) (i : Island) (s : State) : (faultOther cls i s).on Fd.SYS_FLT_NEW = true := by
  obtain ⟨n, u, e⟩ : ∃ n u, faultOther cls i s = faultNote cls i n u := ⟨_, _, rfl⟩
  obtain ⟨y, hy⟩ : ∃ y, y = (((u.put Fd.SYS_FLTLAST_CLASS cls).put Fd.SYS_FLTLAST_ISL i.num).put Fd.SYS_FLTLAST_CAUSE n).raise Fd.SYS_FLT_NEW := ⟨_, rfl⟩
  have hon : y.on Fd.SYS_FLT_NEW = true := by rw [hy]; exact on_raise _ _ (by simp) (by simp)
  have e' : faultNote cls i n u = if 2 ≤ cls then logWrite 0x000E 0 (y.regN Reg.SYS_FLTLAST) y else y := by rw [faultNote, ← hy]
  rw [e, e']
  split
  · rw [on, get_logWrite, ← on, hon]
  · exact hon

theorem faultOther_afe (cls : Nat) (i : Island) (s : State) : (faultOther cls i s).afe = s.afe := (faultOther_within cls i s).same .afe (by simp)

/-- What a converter out of service leaves (R87). -/
theorem convOut_spec {st : Nat} (hst : st < 8) (c : Nat) (s : State) :
    convState (convOut c st s) c = st ∧ (convOut c st s).on Fd.AFE_EVT_CONVFAULT = true ∧ (convOut c st s).afe = s.afe ∧
      RegsBut [Reg.AFE_EVT, Reg.SYS_FLT, Reg.SYS_FLTLAST, Reg.AFE_CSTATE c] s (convOut c st s) := by
  obtain ⟨t, ht⟩ : ∃ t, t = faultOther 1 .metrology (s.raise Fd.AFE_EVT_CONVFAULT) := ⟨_, rfl⟩
  have hr : RegsBut [Reg.SYS_FLT, Reg.SYS_FLTLAST] (s.raise Fd.AFE_EVT_CONVFAULT) t := ht ▸ faultOther_regsBut 1 .metrology _
  have hon : t.on Fd.AFE_EVT_CONVFAULT = true := (hr.on (by decide)).trans (on_raise _ _ (by simp) (by simp))
  have hne : Fd.AFE_EVT_CONVFAULT.reg ∉ [Reg.AFE_CSTATE c] := by
    simp only [List.mem_singleton, Reg.AFE_EVT, Reg.AFE_CSTATE]
    omega
  rw [convOut, ← ht]
  refine ⟨convState_setConv hst c 15 t, ((setConv_regsBut c st 15 t).on hne).trans hon, ?_, ?_⟩
  · rw [setConv_afe, ht, faultOther_afe]
    rfl
  · exact (((RegsBut.refl _ s).raise (by simp)).trans (hr.mono (by simp))).trans ((setConv_regsBut c st 15 t).mono (by simp))

/-- The map that a role's gift stores. -/
def storeRole (r c : Nat) (s : State) : State := { s with afe := { s.afe with storedMap := setNth s.afe.storedMap r c } }

theorem giveRole_eq (r c : Nat) (s : State) : giveRole r c s = storeRole r c (setConv c 0 r (s.put (Fd.AFE_CH_CONV r) c)) := by
  rw [giveRole, storeRole]

theorem storeRole_regsBut (l : List Nat) (r c : Nat) (s : State) : RegsBut l s (storeRole r c s) := (RegsBut.refl l s).same rfl

theorem giveRole_regsBut (r c : Nat) (s : State) : RegsBut [Reg.AFE_CH r, Reg.AFE_CSTATE c] s (giveRole r c s) := by
  rw [giveRole_eq]
  exact (((RegsBut.refl _ s).put (by simp)).trans ((setConv_regsBut c 0 r _).mono (by simp))).trans (storeRole_regsBut _ _ _ _)

/-- A role given to a converter (R87). -/
theorem giveRole_spec (hr : r < 14) (hc : c < 16) (s : State) :
    roleConv (giveRole r c s) r = c ∧ (giveRole r c s).afe = { s.afe with storedMap := setNth s.afe.storedMap r c } := by
  rw [giveRole_eq]
  have hne : (Fd.AFE_CH_CONV r).reg ∉ [Reg.AFE_CSTATE c] := by
    simp only [List.mem_singleton, Reg.AFE_CH, Reg.AFE_CSTATE]
    omega
  refine ⟨?_, ?_⟩
  · rw [roleConv, (storeRole_regsBut [] _ _ _).get (by simp), (setConv_regsBut c 0 r _).get hne, get_put_self _ _ _ (by simp)]
    exact Nat.mod_eq_of_lt hc
  · rw [storeRole, setConv_afe, put_afe]

theorem healRole_regsBut (l : List Nat) (r : Nat) (s : State) : RegsBut l s (healRole r s) := (RegsBut.refl l s).same rfl

theorem showSpares_regsBut (s : State) : RegsBut [Reg.AFE_STAT] s (showSpares s) := (RegsBut.refl _ s).put (by simp)

theorem showSpares_afe (s : State) : (showSpares s).afe = s.afe := rfl

theorem showStep_regsBut (s : State) : RegsBut [Reg.AFE_ROT, Reg.AFE_STAT] s (showStep s) := by
  unfold showStep
  split
  · simp
  · split <;> simp
  · simp

theorem showStep_afe (s : State) : (showStep s).afe = s.afe := by
  unfold showStep
  split
  · rfl
  · split <;> rfl
  · rfl

/-- A step's end writes the registers of the rotation, and counts the step (R83, R84). -/
theorem nextStep_spec (s : State) : (nextStep false s).afe.trims = s.afe.trims ∧ (nextStep false s).afe.stepNo = s.afe.stepNo + 1 ∧
    RegsBut [Reg.AFE_ROT, Reg.AFE_STAT] s (nextStep false s) := by
  unfold nextStep
  simp only [Bool.false_eq_true, if_false]
  refine ⟨?_, ?_, ?_⟩
  · rw [showStep_afe, showSpares_afe]
    split <;> rfl
  · rw [showStep_afe, showSpares_afe]
    split <;> rfl
  · refine RegsBut.trans (RegsBut.trans ?_ ((showSpares_regsBut _).mono (by simp))) (showStep_regsBut _)
    split
    · exact RegsBut.same (RegsBut.bump (RegsBut.same (.refl _ s) rfl) (by simp)) rfl
    · exact (RegsBut.refl _ s).same rfl

theorem freeSpare_mem {l : List Nat} (h : freeSpares s = x :: l) : x = 14 ∨ x = 15 := by
  have hm : x ∈ freeSpares s := by simp [h]
  simpa using (List.mem_filter.1 hm).1

theorem freeSpares_congr (h : ∀ c, c = 14 ∨ c = 15 → convState t c = convState s c) : freeSpares t = freeSpares s :=
  List.filter_congr fun c hc => by rw [h c (by simpa using hc)]

/-- A converter that serves a role fails between two steps while a spare is free (R87, R89). -/
theorem convFail_of_spare {q : Nat} {l : List Nat} (hc : c < 14) (hq : (List.range 14).find? (fun r => roleConv s r == c && !s.on (Fd.AFE_CH_FAULT r)) = some q)
    (hx : freeSpares s = x :: l) : convFail c 0 s = showSpares (showStep (healRole q (giveRole q x (convOut c 4 s)))) := by
  obtain ⟨-, -, -, hr⟩ := convOut_spec (st := 4) (by omega) c s
  have hfree : freeSpares (convOut c 4 s) = x :: l := by
    rw [freeSpares_congr fun d hd => hr.get ?_, hx]
    simp only [List.mem_cons, List.not_mem_nil, or_false, Reg.AFE_EVT, Reg.SYS_FLT, Reg.SYS_FLTLAST, Reg.AFE_CSTATE]
    omega
  have hin : (s.on Fd.AFE_STAT_ROTON && decide (3 ≤ 0) && decide (0 ≤ 10) && decide (s.get Fd.AFE_ROT_ROLE < 14)) = false := by simp
  simp only [convFail, hin, hq, hfree, Bool.false_and, Bool.false_eq_true, if_false]

/-- What the failure of a role's converter leaves while a spare is free (R87, R89). -/
theorem convFail_spec {q : Nat} {l : List Nat} (hc : c < 14) (hq : (List.range 14).find? (fun r => roleConv s r == c && !s.on (Fd.AFE_CH_FAULT r)) = some q)
    (hx : freeSpares s = x :: l) : convState (convFail c 0 s) c = 4 ∧ roleConv (convFail c 0 s) q = x ∧ (convFail c 0 s).on Fd.AFE_EVT_CONVFAULT = true ∧
      (convFail c 0 s).afe.storedMap = setNth s.afe.storedMap q x ∧
      RegsBut [Reg.AFE_STAT, Reg.AFE_EVT, Reg.AFE_ROT, Reg.AFE_CSTATE c, Reg.AFE_CSTATE x, Reg.AFE_CH q, Reg.SYS_FLT, Reg.SYS_FLTLAST] s (convFail c 0 s) := by
  have hq14 : q < 14 := by simpa using List.mem_of_find?_eq_some hq
  have hx16 : x = 14 ∨ x = 15 := freeSpare_mem hx
  obtain ⟨t, ht⟩ : ∃ t, t = convOut c 4 s := ⟨_, rfl⟩
  obtain ⟨h4, hon, hafe, hr⟩ := convOut_spec (st := 4) (by omega) c s
  rw [← ht] at h4 hon hafe hr
  obtain ⟨u, hu⟩ : ∃ u, u = giveRole q x t := ⟨_, rfl⟩
  obtain ⟨hrole, hmap⟩ := giveRole_spec hq14 (c := x) (by omega) t
  have hru : RegsBut [Reg.AFE_CH q, Reg.AFE_CSTATE x] t u := hu ▸ giveRole_regsBut q x t
  rw [← hu] at hrole hmap
  have hrv : RegsBut [Reg.AFE_ROT, Reg.AFE_STAT] u (convFail c 0 s) := by
    rw [convFail_of_spare hc hq hx, ← ht, ← hu]
    exact ((healRole_regsBut _ q u).trans (showStep_regsBut _)).trans ((showSpares_regsBut _).mono (by simp))
  have hav : (convFail c 0 s).afe.storedMap = u.afe.storedMap := by
    rw [convFail_of_spare hc hq hx, ← ht, ← hu, showSpares_afe, showStep_afe]
    rfl
  refine ⟨?_, ?_, ?_, ?_, ?_⟩
  · refine (hrv.get ?_).trans ((hru.get ?_).trans h4)
    all_goals
      simp only [List.mem_cons, List.not_mem_nil, or_false, Reg.AFE_CSTATE, Reg.AFE_ROT, Reg.AFE_STAT, Reg.AFE_CH]
      omega
  · refine (hrv.get ?_).trans hrole
    simp only [List.mem_cons, List.not_mem_nil, or_false, Reg.AFE_ROT, Reg.AFE_STAT, Reg.AFE_CH]
    omega
  · refine (hrv.on (by decide)).trans ((hru.on ?_).trans hon)
    simp only [List.mem_cons, List.not_mem_nil, or_false, Reg.AFE_EVT, Reg.AFE_CH, Reg.AFE_CSTATE]
    omega
  · rw [hav, hmap, hafe]
  · exact ((hr.mono (by simp)).trans (hru.mono (by simp))).trans (hrv.mono (by simp))

/-- Such a failure leaves AFE_EVT.STUCK. -/
theorem convFail_stuck {q : Nat} {l : List Nat} (hc : c < 14) (hq : (List.range 14).find? (fun r => roleConv s r == c && !s.on (Fd.AFE_CH_FAULT r)) = some q)
    (hx : freeSpares s = x :: l) : (convFail c 0 s).on Fd.AFE_EVT_STUCK = s.on Fd.AFE_EVT_STUCK := by
  have hq14 : q < 14 := by simpa using List.mem_of_find?_eq_some hq
  obtain ⟨t, ht⟩ : ∃ t, t = faultOther 1 .metrology (s.raise Fd.AFE_EVT_CONVFAULT) := ⟨_, rfl⟩
  have hrt : RegsBut [Reg.SYS_FLT, Reg.SYS_FLTLAST] (s.raise Fd.AFE_EVT_CONVFAULT) t := ht ▸ faultOther_regsBut 1 .metrology _
  have hon : t.on Fd.AFE_EVT_STUCK = s.on Fd.AFE_EVT_STUCK := by
    rw [hrt.on (by decide), on, on, raise, get_put_of_apart _ _ (.inr (by simp))]
  have hr : RegsBut [Reg.AFE_CSTATE c, Reg.AFE_CH q, Reg.AFE_CSTATE x, Reg.AFE_ROT, Reg.AFE_STAT] t (convFail c 0 s) := by
    rw [convFail_of_spare hc hq hx, convOut, ← ht]
    exact (((((setConv_regsBut c 4 15 t).mono (by simp)).trans ((giveRole_regsBut q x _).mono (by simp))).trans (healRole_regsBut _ q _)).trans
      ((showStep_regsBut _).mono (by simp))).trans ((showSpares_regsBut _).mono (by simp))
  refine (hr.on ?_).trans hon
  simp only [List.mem_cons, List.not_mem_nil, or_false, Reg.AFE_EVT, Reg.AFE_CSTATE, Reg.AFE_CH, Reg.AFE_ROT, Reg.AFE_STAT]
  omega

end Converters

section Rotation

variable {s t : State} {c r sp : Nat}

/-- What a check judges by: the trims and the limits (R85, R86). -/
theorem refResult_congr (h : t.afe = s.afe) (m : RefRun) : refResult t m = refResult s m := by rw [refResult, refResult, h]

theorem refFaulty_congr (ha : t.afe = s.afe) (hp : t.params = s.params) (c : Nat) (x : Trim × Rat) : refFaulty t c x = refFaulty s c x := by
  rw [refFaulty, refFaulty, gainPpm, gainPpm, factoryTrim, factoryTrim, ha, parN_congr hp, parN_congr hp]

theorem matchOk_congr (hp : t.params = s.params) (w : MatchWin) : matchOk t w = matchOk s w := by
  simp only [matchOk, parN_congr hp]

theorem matchEnd_pass {w : MatchWin} (h : w.extended ≤ 64) (hok : matchOk s w = true) (again : MatchWin) : matchEnd s w again = (.pass, s) := by
  rw [matchEnd, if_neg (by omega), if_pos hok]

/-- A warning that a check gives, noted (R86). -/
def checkNoted (c : Nat) (res : Trim × Rat) (s : State) : State :=
  if refWarn s c res then (s.raise Fd.AFE_EVT_CONVWARN).bump (Fd.AFE_CSTATE_WARNS c) else s

theorem checkNoted_afe (c : Nat) (res : Trim × Rat) (s : State) : (checkNoted c res s).afe = s.afe := by
  unfold checkNoted
  split <;> rfl

theorem checkNoted_regsBut (c : Nat) (res : Trim × Rat) (s : State) : RegsBut [Reg.AFE_EVT, Reg.AFE_CSTATE c] s (checkNoted c res s) :=
  .ite (((RegsBut.refl _ s).raise (by simp)).bump (by simp)) (.refl _ s)

theorem setTrim_regsBut (c : Nat) (x : Trim) (s : State) : RegsBut [Reg.AFE_CGAIN c, Reg.AFE_COFS c] s (setTrim c x s) :=
  RegsBut.same (((RegsBut.refl _ s).setRegI (by simp)).setRegI (by simp)) rfl

theorem setTrim_afe (c : Nat) (x : Trim) (s : State) : (setTrim c x s).afe = { s.afe with trims := setNth s.afe.trims c x } := by
  rw [setTrim]
  rfl

/-- A check with a small step and no fault (R85, R86). -/
theorem refCheck_pass {m again : RefRun}
    (hs : Exact.abs ((refResult s m).1.gain - (nth s.afe.trims c (factoryTrim s c)).gain) * 1000000 ≤ (s.parN Par.STEP_LIM : Rat))
    (hf : refFaulty s c (refResult s m) = false) :
    refCheck c m again s = (true, (setTrim c (refResult s m).1 (checkNoted c (refResult s m) s)).bump (Fd.AFE_CSTATE_CHECKS c)) := by
  simp only [refCheck, decide_eq_true hs, if_true, Bool.true_or, Bool.true_and, hf, Bool.not_false, checkNoted]

/-- What such a check leaves. -/
theorem refCheck_spec {m again : RefRun}
    (hs : Exact.abs ((refResult s m).1.gain - (nth s.afe.trims c (factoryTrim s c)).gain) * 1000000 ≤ (s.parN Par.STEP_LIM : Rat))
    (hf : refFaulty s c (refResult s m) = false) : (refCheck c m again s).1 = true ∧
      (refCheck c m again s).2.afe = { s.afe with trims := setNth s.afe.trims c (refResult s m).1 } ∧
      RegsBut [Reg.AFE_EVT, Reg.AFE_CSTATE c, Reg.AFE_CGAIN c, Reg.AFE_COFS c] s (refCheck c m again s).2 := by
  rw [refCheck_pass hs hf]
  refine ⟨rfl, ?_, ?_⟩
  · rw [bump_afe, setTrim_afe, checkNoted_afe]
  · exact (((checkNoted_regsBut c _ s).mono (by simp)).trans ((setTrim_regsBut c _ _).mono (by simp))).bump (by simp)

/-- The state in which a stand-in carries a role (R83). -/
def standsIn (r sp : Nat) (s : State) : State := setConv sp 3 r (s.put (Fd.AFE_CH_CONV r) sp)

/-- The state in which a checked converter has its role back (R83). -/
def roleBack (r c sp : Nat) (s : State) : State := setConv sp 1 15 (setConv c 0 r ((s.lower (Fd.AFE_CH_AGE r)).put (Fd.AFE_CH_CONV r) c))

theorem standsIn_regsBut (r sp : Nat) (s : State) : RegsBut [Reg.AFE_CH r, Reg.AFE_CSTATE sp] s (standsIn r sp s) :=
  ((RegsBut.refl _ s).put (by simp)).trans ((setConv_regsBut sp 3 r _).mono (by simp))

theorem roleBack_regsBut (r c sp : Nat) (s : State) : RegsBut [Reg.AFE_CH r, Reg.AFE_CSTATE c, Reg.AFE_CSTATE sp] s (roleBack r c sp s) :=
  ((((RegsBut.refl _ s).lower (by simp)).put (by simp)).trans ((setConv_regsBut c 0 r _).mono (by simp))).trans
    ((setConv_regsBut sp 1 15 _).mono (by simp))

/-- The role is back at its converter, checked just now. -/
theorem roleBack_spec (hr : r < 14) (hc : c < 16) (sp : Nat) (s : State) :
    roleConv (roleBack r c sp s) r = c ∧ (roleBack r c sp s).get (Fd.AFE_CH_AGE r) = 0 := by
  obtain ⟨t, ht⟩ : ∃ t, t = (s.lower (Fd.AFE_CH_AGE r)).put (Fd.AFE_CH_CONV r) c := ⟨_, rfl⟩
  have hb : RegsBut [Reg.AFE_CSTATE c, Reg.AFE_CSTATE sp] t (roleBack r c sp s) := by
    rw [roleBack, ← ht]
    exact ((setConv_regsBut c 0 r _).mono (by simp)).trans ((setConv_regsBut sp 1 15 _).mono (by simp))
  have hne : Reg.AFE_CH r ∉ [Reg.AFE_CSTATE c, Reg.AFE_CSTATE sp] := by
    simp only [List.mem_cons, List.not_mem_nil, or_false, Reg.AFE_CH, Reg.AFE_CSTATE]
    omega
  refine ⟨(hb.get hne).trans ?_, (hb.get hne).trans ?_⟩
  · rw [ht, get_put_self _ _ _ (by simp)]
    exact Nat.mod_eq_of_lt hc
  · rw [ht, get_put_of_apart _ _ (.inr (.inl (by simp))), lower, get_put_self _ _ _ (by simp)]
    rfl

theorem otherSpare_of_lone (h : ∀ o ∈ freeSpares s, o = sp) (m : RotMeas) : otherSpare sp m s = s := by
  have e : (freeSpares s).filter (· ≠ sp) = [] := by
    rw [List.filter_eq_nil_iff]
    intro o ho
    simp [h o ho]
  simp only [otherSpare, e]

/-- A step whose windows match and whose converter passes (R83 to R86). -/
theorem stepRole_pass {m : RotMeas} {u : State} (h1 : m.win.extended ≤ 64) (h2 : matchOk s m.win = true) (h3 : m.ret.extended ≤ 64)
    (hlone : ∀ o ∈ freeSpares (standsIn r sp s), o = sp) (hcheck : refCheck c m.under m.underAgain (standsIn r sp s) = (true, u))
    (h4 : matchOk (u.lower (Fd.AFE_CH_AGE r)) m.ret = true) : stepRole r c sp m s = nextStep false (roleBack r c sp u) := by
  rw [stepRole, matchEnd_pass h1 h2]
  dsimp only
  rw [← standsIn, otherSpare_of_lone hlone, hcheck]
  dsimp only
  rw [matchEnd_pass h3 h4]
  rfl

/-- What such a step leaves, with its lone spare as the stand-in. -/
theorem stepRole_spec {m : RotMeas} (hr : r < 14) (hc : c < 14) (hfree : freeSpares s = [sp]) (h1 : m.win.extended ≤ 64)
    (h2 : matchOk s m.win = true) (h3 : m.ret.extended ≤ 64) (h4 : matchOk s m.ret = true)
    (hs : Exact.abs ((refResult s m.under).1.gain - (nth s.afe.trims c (factoryTrim s c)).gain) * 1000000 ≤ (s.parN Par.STEP_LIM : Rat))
    (hf : refFaulty s c (refResult s m.under) = false) :
    (stepRole r c sp m s).afe.trims = setNth s.afe.trims c (refResult s m.under).1 ∧ roleConv (stepRole r c sp m s) r = c ∧
      (stepRole r c sp m s).get (Fd.AFE_CH_AGE r) = 0 ∧ (stepRole r c sp m s).afe.stepNo = s.afe.stepNo + 1 ∧
      RegsBut [Reg.AFE_ROT, Reg.AFE_STAT, Reg.AFE_EVT, Reg.AFE_CH r, Reg.AFE_CSTATE c, Reg.AFE_CSTATE sp, Reg.AFE_CGAIN c, Reg.AFE_COFS c] s
        (stepRole r c sp m s) := by
  obtain ⟨t, ht⟩ : ∃ t, t = standsIn r sp s := ⟨_, rfl⟩
  have hta : t.afe = s.afe := by rw [ht]; rfl
  have htp : t.params = s.params := by rw [ht]; rfl
  have htr : RegsBut [Reg.AFE_CH r, Reg.AFE_CSTATE sp] s t := ht ▸ standsIn_regsBut r sp s
  obtain ⟨hok, hafe, hru⟩ := refCheck_spec (s := t) (c := c) (m := m.under) (again := m.underAgain)
    (by rw [refResult_congr hta, factoryTrim, hta, parN_congr htp]; exact hs) (by rw [refResult_congr hta, refFaulty_congr hta htp, hf])
  obtain ⟨u, hu⟩ : ∃ u, u = (refCheck c m.under m.underAgain t).2 := ⟨_, rfl⟩
  rw [← hu, hta, refResult_congr hta] at hafe
  rw [← hu] at hru
  have hup : u.params = s.params := by rw [hu, (refCheck_within c m.under m.underAgain t).same .params (by simp), htp]
  have hcheck : refCheck c m.under m.underAgain (standsIn r sp s) = (true, u) := by rw [← ht, hu, ← hok]
  have hlone : ∀ o ∈ freeSpares t, o = sp := fun o ho => by
    refine Decidable.byContradiction fun hne => ?_
    have ho' : o ∈ freeSpares s := by
      obtain ⟨hm, hst⟩ := List.mem_filter.1 ho
      have h16 : o = 14 ∨ o = 15 := by simpa using hm
      have heq : convState t o = convState s o := htr.get (by
        simp only [List.mem_cons, List.not_mem_nil, or_false, Reg.AFE_CH, Reg.AFE_CSTATE]
        omega)
      exact List.mem_filter.2 ⟨hm, heq ▸ hst⟩
    rw [hfree] at ho'
    exact hne (by simpa using ho')
  have e := stepRole_pass h1 h2 h3 (ht ▸ hlone) hcheck ((matchOk_congr (s := s) hup m.ret).trans h4)
  obtain ⟨v, hv⟩ : ∃ v, v = roleBack r c sp u := ⟨_, rfl⟩
  have hva : v.afe = u.afe := by rw [hv]; rfl
  obtain ⟨hrole, hage⟩ := roleBack_spec hr (c := c) (by omega) sp u
  have hrv : RegsBut [Reg.AFE_CH r, Reg.AFE_CSTATE c, Reg.AFE_CSTATE sp] u v := hv ▸ roleBack_regsBut r c sp u
  obtain ⟨hn1, hn2, hn3⟩ := nextStep_spec v
  rw [← hv] at hrole hage
  have hch : Reg.AFE_CH r ∉ [Reg.AFE_ROT, Reg.AFE_STAT] := by
    simp only [List.mem_cons, List.not_mem_nil, or_false, Reg.AFE_CH, Reg.AFE_ROT, Reg.AFE_STAT]
    omega
  rw [e, ← hv]
  refine ⟨by rw [hn1, hva, hafe], (hn3.get hch).trans hrole, (hn3.get hch).trans hage, by rw [hn2, hva, hafe], ?_⟩
  exact (((htr.mono (by simp)).trans (hru.mono (by simp))).trans (hrv.mono (by simp))).trans (hn3.mono (by simp))

/-- A step whose converter holds its role and whose only free spare stands in (R82, R83). -/
theorem rotationStep_of_lone {m : RotMeas} {rest : List Nat} (htodo : s.afe.todo = r :: rest) (hr : r < 14) (hmap : nth s.afe.storedMap r r = c)
    (hrole : roleConv s r = c) (hfree : freeSpares s = [sp]) : rotationStep m s = stepRole r c sp m s := by
  have hst : standIn s = some sp := by
    have hlone : ∀ w, (if w ∈ [sp] then some w else [sp].head?) = some sp := fun w => by
      split
      · simp_all
      · rfl
    rw [standIn, hfree]
    exact hlone _
  rw [rotationStep, htodo]
  dsimp only
  rw [if_neg (by omega), hmap, hrole, if_neg (by simp), hst]

end Rotation

section Lanes

variable {s : State} {k : Nat}

theorem showLanes_regsBut (s : State) : RegsBut [Reg.AFE_STAT] s (showLanes s) := (RegsBut.refl _ s).put (by simp)

/-- A lane's fault between two steps (R69). -/
theorem laneFaultAt_spec {beat : Nat} (hk : k < 12) (hb : beat ≤ 1) (hl : laneRole s k < 8) (hd : laneRole s k ∉ s.afe.laneDown) :
    (laneFaultAt k beat none s).bitOf Reg.AFE_LANE (12 + k) = true ∧ (laneFaultAt k beat none s).on Fd.AFE_EVT_LANEFAULT = true ∧
      (laneFaultAt k beat none s).afe.laneDown = s.afe.laneDown ++ [laneRole s k] ∧
      RegsBut [Reg.AFE_LANE, Reg.AFE_EVT, Reg.AFE_STAT] s (laneFaultAt k beat none s) ∧ Within [.regs, .afe] s (laneFaultAt k beat none s) := by
  obtain ⟨t, ht⟩ : ∃ t, t = (s.putBit Reg.AFE_LANE (12 + k) true).raise Fd.AFE_EVT_LANEFAULT := ⟨_, rfl⟩
  have hta : t.afe = s.afe := by rw [ht]; rfl
  obtain ⟨u, hu⟩ : ∃ u : State, u = { t with afe := { t.afe with laneDown := t.afe.laneDown ++ [laneRole s k] } } := ⟨_, rfl⟩
  have e1 : laneFault k s = showLanes u := by
    rw [laneFault, ← ht]
    dsimp only
    rw [if_pos ⟨by omega, hta ▸ hd⟩, hu]
  have e2 : ∀ v, abandonStep beat v = v := fun v => by
    unfold abandonStep
    split
    · rfl
    · exact if_neg (by simp; omega)
  have e : laneFaultAt k beat none s = showLanes u := by
    simp only [laneFaultAt, e1, e2]
    exact if_neg (by omega)
  have hur : RegsBut [] t u := by rw [hu]; exact (RegsBut.refl _ t).same rfl
  have hsr : RegsBut [Reg.AFE_STAT] u (showLanes u) := showLanes_regsBut u
  rw [e]
  refine ⟨?_, ?_, ?_, ?_, ?_⟩
  · have hev : RegsBut [Reg.AFE_EVT] (s.putBit Reg.AFE_LANE (12 + k) true) t := by rw [ht]; exact (RegsBut.refl _ _).raise (by simp)
    rw [hsr.bitOf (by decide), hur.bitOf (by simp), hev.bitOf (by decide)]
    exact (bitOf_putBit s Reg.AFE_LANE (12 + k) Reg.AFE_LANE (12 + k) true (by omega)).trans (if_pos ⟨rfl, rfl⟩)
  · rw [hsr.on (by decide), hur.on (by simp), ht, on_raise _ _ (by simp) (by simp)]
  · have hsa : (showLanes u).afe = u.afe := rfl
    rw [hsa, hu, ← hta]
  · have htr : RegsBut [Reg.AFE_LANE, Reg.AFE_EVT, Reg.AFE_STAT] s t := by
      rw [ht]
      exact ((RegsBut.refl _ s).putBit (by simp)).raise (by simp)
    exact (htr.trans (hur.mono (by simp))).trans (hsr.mono (by simp))
  · have htw : Within [.regs, .afe] s t := by rw [ht]; exact ((Within.refl _ s).putBit rfl).raise rfl
    have huw : Within [.regs, .afe] t u := by rw [hu]; exact (Within.upd_afe t _).sub rfl
    exact (htw.trans huw).put rfl

/-- A lane's role moved to a free spare lane (R69). -/
theorem laneMove_spec {p : Nat} {l : List Nat} (hk : k < 8) (hd : k ∈ s.afe.laneDown) (hp : [10, 11].filter (laneFree s) = p :: l) :
    (laneMove k s).get (if p = 10 then Fd.AFE_LANE_SUB10 else Fd.AFE_LANE_SUB11) = k ∧ (laneMove k s).afe.laneDown = s.afe.laneDown.erase k ∧
      (laneMove k s).on Fd.SYS_FLT_NEW = true ∧ RegsBut [Reg.AFE_LANE, Reg.AFE_STAT, Reg.SYS_FLT, Reg.SYS_FLTLAST] s (laneMove k s) := by
  obtain ⟨f, hf⟩ : ∃ f, f = if p = 10 then Fd.AFE_LANE_SUB10 else Fd.AFE_LANE_SUB11 := ⟨_, rfl⟩
  have hfr : f.reg = Reg.AFE_LANE ∧ f.lo + f.width ≤ 32 ∧ f.width = 4 := by
    rw [hf]
    split <;> exact ⟨rfl, by decide, rfl⟩
  obtain ⟨hfreg, hfit, hfw⟩ := hfr
  obtain ⟨t, ht⟩ : ∃ t, t = faultOther 1 .metrology (s.put f k) := ⟨_, rfl⟩
  have hta : t.afe = s.afe := by rw [ht, faultOther_afe]; rfl
  have hrt : RegsBut [Reg.SYS_FLT, Reg.SYS_FLTLAST] (s.put f k) t := ht ▸ faultOther_regsBut 1 .metrology _
  have hnew : t.on Fd.SYS_FLT_NEW = true := ht ▸ faultOther_new 1 .metrology _
  obtain ⟨u, hu⟩ : ∃ u : State, u = { t with afe := { t.afe with laneDown := t.afe.laneDown.erase k } } := ⟨_, rfl⟩
  have hur : RegsBut [] t u := by rw [hu]; exact (RegsBut.refl _ t).same rfl
  have e : laneMove k s = showLanes u := by
    rw [laneMove, if_pos hd, hp]
    dsimp only
    rw [← hf, ← ht, hu]
  have hsr : RegsBut [Reg.AFE_STAT] u (showLanes u) := showLanes_regsBut u
  rw [e, ← hf]
  refine ⟨?_, ?_, ?_, ?_⟩
  · rw [hsr.get (by rw [hfreg]; decide), hur.get (by simp), hrt.get (by rw [hfreg]; decide), get_put_self _ _ _ hfit, hfw]
    exact Nat.mod_eq_of_lt (by omega)
  · have hsa : (showLanes u).afe = u.afe := rfl
    rw [hsa, hu, ← hta]
  · rw [hsr.on (by decide), hur.on (by simp), hnew]
  · have h0 : RegsBut [Reg.AFE_LANE, Reg.AFE_STAT, Reg.SYS_FLT, Reg.SYS_FLTLAST] s (s.put f k) := (RegsBut.refl _ s).put (by simp [hfreg])
    exact ((h0.trans (hrt.mono (by simp))).trans (hur.mono (by simp))).trans (hsr.mono (by simp))

end Lanes

end Sys2Proof.Machine
end

section
/-!
What the engines deliver and show (spec/03_metrology_engine.md R113, R128, R129, R132, R155): the record of every block, the values of an update, and a new
correction set.
-/
namespace Sys2Proof.Machine

open State

section Rings

variable {s t : State} {e o a : Nat}

theorem rail_setRail_of_ne (he : e < 2) (ho : o < 2) (h : o ≠ e) (r : Rail) (s : State) : rail (setRail s e r) o = rail s o := by
  have hcases : e = 0 ∧ o = 1 ∨ e = 1 ∧ o = 0 := by omega
  rcases hcases with ⟨rfl, rfl⟩ | ⟨rfl, rfl⟩ <;> rfl

theorem rail_modRail_of_ne (he : e < 2) (ho : o < 2) (h : o ≠ e) (f : Rail → Rail) (s : State) : rail (modRail e f s) o = rail s o :=
  rail_setRail_of_ne he ho h _ s

/-- A change of an engine's place that leaves its ring leaves both rings. -/
theorem ring_modRail {f : Rail → Rail} (hf : ∀ r, (f r).ring = r.ring) (e : Nat) (s : State) (o : Nat) : (rail (modRail e f s) o).ring = (rail s o).ring := by
  unfold modRail setRail rail
  by_cases he : e = 0 <;> by_cases ho : o = 0 <;> simp [he, ho, hf]

theorem rail_engRetire (e : Nat) (s : State) (o : Nat) : rail (engRetire e s) o = rail s o := by
  have h : rail ((setEng e 7 s).raise Fd.PTS_EVT_RETIRE) o = rail s o := (rail_of_pts rfl o).trans (rail_setEng e 7 s o)
  unfold engRetire
  dsimp only
  split
  · exact (rail_of_pts ((faultOther_within _ _ _).same .pts (by simp)) o).trans h
  · exact h

/-- A fault noted leaves both engines' places (R148, R156). -/
theorem rail_engFault_any (e cause : Nat) (s : State) (o : Nat) : rail (engFault e cause s) o = rail s o := by
  obtain ⟨v, hv⟩ : ∃ v, v = if 3 ≤ faultCount (engNoted e cause s) e then engRetire e (engNoted e cause s) else setEng e 2 (engNoted e cause s) := ⟨_, rfl⟩
  have h : rail v o = rail s o := by
    rw [hv]
    split
    · rw [rail_engRetire, rail_engNoted]
    · rw [rail_setEng, rail_engNoted]
  rw [engFault_eq, ← hv]
  dsimp only
  split
  · exact h
  · exact (rail_of_pts ((faultOther_within _ _ _).same .pts (by simp)) o).trans h

theorem rail_changeOver (x blk : Nat) (s : State) (o : Nat) : rail (changeOver x blk s) o = rail s o :=
  (rail_of_pts rfl o).trans (rail_setEng x 0 s o)

theorem ring_railCorr (set : List (Nat × Int)) (e : Nat) (s : State) (o : Nat) : (rail (railCorr set e s) o).ring = (rail s o).ring :=
  ring_modRail (f := fun r => { r with eng := engineCorr s set r.eng }) (fun _ => rfl) e s o

theorem ring_afterActive (a blk : Nat) (s : State) (o : Nat) : (rail (afterActive a blk s) o).ring = (rail s o).ring := by
  unfold afterActive
  dsimp only
  split
  · rw [rail_changeOver]
  · split
    · rw [ring_modRail (f := fun r => { r with warm := s.parN Par.WARMUP - 16 }) (fun _ => rfl), rail_setEng, ring_railCorr]
    · rw [rail_of_pts (ptsShow_pts s)]

/-- What the referee decides leaves both engines' rings (R146, R147). -/
theorem ring_judge (a blk : Nat) (badA badO : Bool) (s : State) (o : Nat) : (rail (judge a blk badA badO s) o).ring = (rail s o).ring := by
  obtain ⟨t, ht⟩ : ∃ t, t = (s.raise Fd.PTS_EVT_MISMATCH).bump Fd.PTS_CNT_MISM := ⟨_, rfl⟩
  obtain ⟨u, hu⟩ : ∃ u : State, u = { t with pts := { t.pts with cleanRun := 0 } } := ⟨_, rfl⟩
  have hur : rail u o = rail s o := by rw [hu, ht]; rfl
  unfold judge
  dsimp only
  rw [← ht, ← hu]
  split
  · rw [rail_of_pts (ptsShow_pts _), rail_engFault_any, rail_engFault_any, hur]
  · rw [ring_afterActive, rail_engFault_any, hur]
  · rw [rail_engFault_any, hur]
  · rw [rail_setEng, hur]

theorem lastRec_judge (a blk : Nat) (badA badO : Bool) (s : State) (o : Nat) : lastRec (judge a blk badA badO s) o = lastRec s o := by
  rw [lastRec, ring_judge, lastRec]

theorem lastRec_of_pts (h : t.pts = s.pts) (o : Nat) : lastRec t o = lastRec s o := by rw [lastRec, rail_of_pts h, lastRec]

end Rings

section Blocks

variable {s : State} {blk e a : Nat}

/-- An engine that computes puts a record with the block's number at the head of its ring (R128). -/
theorem railBlock_lastRec (raws : List (List Int)) (dev : List Int) (h : computes (engSt s e) = true) :
    (lastRec (railBlock blk raws dev e s) e).blk = blk := by
  rw [railBlock, if_pos h, lastRec, rail_setRail_self]
  rfl

theorem rail_railBlock_of_ne {o : Nat} (he : e < 2) (ho : o < 2) (h : o ≠ e) (raws : List (List Int)) (dev : List Int) (s : State) :
    rail (railBlock blk raws dev e s) o = rail s o := by
  unfold railBlock
  split
  · exact rail_setRail_of_ne he ho h _ s
  · rfl

theorem engSt_railBlock (raws : List (List Int)) (dev : List Int) (e : Nat) (s : State) (o : Nat) : engSt (railBlock blk raws dev e s) o = engSt s o := by
  have hr : RegsBut [] s (railBlock blk raws dev e s) := (railBlock_within blk raws dev e s).regsBut (by simp)
  exact hr.get (by simp)

/-- The engines that compute have the record of a block at hand. -/
def Recorded (blk : Nat) (s : State) : Prop := ∀ e, e < 2 → computes (engSt s e) = true → (lastRec s e).blk = blk

theorem railBlock_recorded (blk : Nat) (raws : List (List Int)) (dev0 dev1 : List Int) (s : State) :
    Recorded blk (railBlock blk raws dev1 1 (railBlock blk raws dev0 0 s)) := by
  intro e he hc
  have hcases : e = 0 ∨ e = 1 := by omega
  rw [engSt_railBlock] at hc
  rcases hcases with rfl | rfl
  · rw [lastRec, rail_railBlock_of_ne (by omega) (by omega) (by omega), ← lastRec]
    rw [engSt_railBlock] at hc
    exact railBlock_lastRec raws dev0 hc
  · exact railBlock_lastRec raws dev1 hc

theorem deliver_x00 (r : Rec) (s : State) : (deliver r s).x00 = s.x00 ++ [r] := by
  obtain ⟨t, ht⟩ : ∃ t : State, t = { s with x00 := s.x00 ++ [r], pts := { s.pts with delivered := (r.words :: s.pts.delivered).take 100 } } := ⟨_, rfl⟩
  have hx : t.x00 = s.x00 ++ [r] := by rw [ht]
  have hw : Within [.regs] t (deliver r s) := by
    rw [deliver, ← ht]
    simp only [when]
    refine .ite (.raise ?_ rfl) ?_ <;> refine .ite (.raise ?_ rfl) ?_ <;> refine .ite (.raise ?_ rfl) ?_ <;>
      exact (((Within.refl _ t).setRegN rfl).put rfl).put rfl
  exact (hw.same .x00 (by simp)).trans hx

theorem deliverGood_x00 (r : Rec) (s : State) : (deliverGood r s).x00 = s.x00 ++ [r] := deliver_x00 r _

/-- A record of the block's number put on X00 last. -/
def Delivered (blk : Nat) (s t : State) : Prop := ∃ r : Rec, t.x00 = s.x00 ++ [r] ∧ r.blk = blk

theorem deliverEstimate_delivered (blk : Nat) (s : State) : Delivered blk s (deliverEstimate blk s) := by
  unfold deliverEstimate
  dsimp only
  split
  · exact ⟨_, deliver_x00 _ _, rfl⟩
  · exact ⟨_, deliver_x00 _ _, rfl⟩

theorem deliverGood_delivered {t : State} {r : Rec} (hx : t.x00 = s.x00) (hr : r.blk = blk) : Delivered blk s (deliverGood r t) :=
  ⟨r, by rw [deliverGood_x00, hx], hr⟩

theorem Delivered.of_x00 {t u : State} (h : Delivered blk s t) (hu : u.x00 = t.x00) : Delivered blk s u := by
  obtain ⟨r, hr, hb⟩ := h
  exact ⟨r, hu.trans hr, hb⟩

/-- The comparator's decision puts one record on X00, whatever the engines do (R128, R155). -/
theorem decideBlock_delivered (h : Recorded blk s) : Delivered blk s (decideBlock blk s) := by
  cases ha : activeEng s with
  | none =>
    have e : decideBlock blk s = deliverEstimate blk s := by simp only [decideBlock, ha]
    rw [e]
    exact deliverEstimate_delivered blk s
  | some a =>
    have ha2 := activeEng_lt ha
    have hac : computes (engSt s a) = true := by rw [engSt_of_activeEng ha]; rfl
    have hblk : (lastRec s a).blk = blk := h a ha2 hac
    simp only [decideBlock, ha]
    split
    case isTrue ho =>
      split
      · exact deliverGood_delivered rfl hblk
      · obtain ⟨t, ht⟩ : ∃ t, t = judge a blk (lastBad s a) (lastBad s (1 - a)) s := ⟨_, rfl⟩
        have hx : t.x00 = s.x00 := ht ▸ (judge_within a blk _ _ s).same .x00 (by simp)
        rw [← ht]
        split
        case h_1 x hxa =>
          have hx2 := activeEng_lt hxa
          have hcases : x = a ∨ x = 1 - a := by omega
          have hxc : computes (engSt s x) = true := by
            rcases hcases with rfl | rfl
            · exact hac
            · rw [ho]; rfl
          have hrec : lastRec t x = lastRec s x := ht ▸ lastRec_judge a blk _ _ s x
          exact deliverGood_delivered hx (hrec ▸ h x hx2 hxc)
        case h_2 => exact (deliverEstimate_delivered blk t).imp fun r hr => ⟨hr.1.trans (by rw [hx]), hr.2⟩
    case isFalse =>
      split
      · refine deliverGood_delivered ?_ hblk
        have hm : (modRail (1 - a) (fun r => { r with shadow := r.shadow + 1 }) s).x00 = s.x00 := (modRail_within _ _ s).same .x00 (by simp)
        split
        · exact hm
        · exact hm
      · split
        · exact deliverGood_delivered ((trialSum_within (1 - a) s).same .x00 (by simp)) hblk
        · exact deliverGood_delivered rfl hblk

/-- The rest of a block's work leaves the record on X00. -/
theorem ptsBlock_delivered (raws : List (List Int)) (edges : Nat) (dev0 dev1 : List Int) (hr : s.on Fd.MTR_STAT_READY = true) :
    Delivered ((s.regN Reg.MTR_BLKCNT + 1) % 2 ^ 32) s (ptsBlock raws edges dev0 dev1 s) := by
  unfold ptsBlock
  extract_lets t blk u v w w'
  have ht : t = s.setRegN Reg.MTR_BLKCNT (s.regN Reg.MTR_BLKCNT + 1) := if_pos hr
  have hblk : blk = (s.regN Reg.MTR_BLKCNT + 1) % 2 ^ 32 := (congrArg (fun x => x.regN Reg.MTR_BLKCNT) ht).trans (regN_setRegN_self _ _ _)
  have htx : t.x00 = s.x00 := by rw [ht, setRegN_x00]
  have hux : u.x00 = t.x00 :=
    ((railBlock_within _ _ _ _ _).same .x00 (by simp)).trans ((railBlock_within _ _ _ _ _).same .x00 (by simp))
  have hd : Delivered blk u v := decideBlock_delivered (railBlock_recorded blk raws dev0 dev1 t)
  have hwx : w.x00 = v.x00 := by
    unfold w
    split
    · exact upTo_preserves (P := fun y => y.x00 = v.x00) (fun _ _ y hy => (put_x00 y _ _).trans hy) rfl
    · rfl
  have hw'x : w'.x00 = w.x00 := ((ageRoles_within _).same .x00 (by simp)).trans ((frontBlock_within _ _ _).same .x00 (by simp))
  clear_value w' w v u blk t
  obtain ⟨r, hx, hb⟩ := hd
  have hxr : w'.x00 = s.x00 ++ [r] := hw'x.trans (hwx.trans (hx.trans (by rw [hux, htx])))
  refine ⟨r, ?_, hb.trans hblk⟩
  split
  · exact ((ptsMark_within _ _).same .x00 (by simp)).trans hxr
  · exact hxr

end Blocks

section Values

variable {s t : State} {a : Nat}

/-- An update's values written, one after the other, by the roles of the state before. -/
def valueWrite (s : State) (t : State) (e : (RegField × List Nat) × Int) : State :=
  if e.1.2.any (roleInvalid s) then t else t.put e.1.1 (Bits.ofInt e.1.1.width e.2)

theorem writeValues_cons (f : RegField × List Nat) (fs : List (RegField × List Nat)) (v : Int) (vs : List Int) (s : State) :
    writeValues (f :: fs) (v :: vs) s = (List.zip fs vs).foldl (valueWrite s) (valueWrite s s (f, v)) := rfl

theorem valueWrite_regsBut {l : List Nat} {e : (RegField × List Nat) × Int} (h : e.1.1.reg ∈ l) (s t : State) : RegsBut l t (valueWrite s t e) :=
  .ite (.refl _ t) ((RegsBut.refl _ t).put h)

theorem writeValues_regsBut {l : List Nat} {fs : List (RegField × List Nat)} (h : ∀ f ∈ fs, f.1.reg ∈ l) (vs : List Int) (s : State) :
    RegsBut l s (writeValues fs vs s) :=
  RegsBut.foldl (f := valueWrite s) (fun v _ he => valueWrite_regsBut (h _ (List.of_mem_zip he).1) s v) s

/-- A field that is the whole register. -/
theorem put_word (w : Word) (v : Nat) : Bits.put w 0 32 v = BitVec.ofNat 32 v := by
  apply BitVec.eq_of_getLsbD_eq
  intro i hi
  rw [Bits.getLsbD_put, BitVec.getLsbD_ofNat]
  simp [hi]

/-- The first value, in a register of its own: held while a role it depends on is invalid (R113). -/
theorem reg_writeValues_head {b : Nat} {rs : List Nat} {fs : List (RegField × List Nat)} (h : ∀ f ∈ fs, f.1.reg ≠ b) (v : Int) (vs : List Int) (s : State) :
    (writeValues ((⟨b, 0, 32⟩, rs) :: fs) (v :: vs) s).reg b = if rs.any (roleInvalid s) then s.reg b else BitVec.ofNat 32 (Bits.ofInt 32 v) := by
  have htail : RegsBut (fs.map fun f => f.1.reg) (valueWrite s s (((⟨b, 0, 32⟩ : RegField), rs), v))
      ((List.zip fs vs).foldl (valueWrite s) (valueWrite s s (((⟨b, 0, 32⟩ : RegField), rs), v))) :=
    RegsBut.foldl (f := valueWrite s) (fun u e he => valueWrite_regsBut (List.mem_map.2 ⟨e.1, (List.of_mem_zip he).1, rfl⟩) s u) _
  rw [writeValues_cons, htail b (by simpa using fun f x hf => h (f, x) hf), valueWrite]
  split
  · rfl
  · rw [put, reg_setReg_self, put_word]

theorem engValues_length (m : InstMeas) (e : Nat) (h : m.ac = false) (s : State) : (engValues s m e).length = 8 := by
  simp [engValues, h, dcValues]

/-- The validity of a role does not hang on what the Points show. -/
theorem roleInvalid_congr {l : List Nat} {r : Nat} (hr : RegsBut l s t) (hm : Reg.AFE_MOD ∉ l) (hc : Reg.AFE_CH r ∉ l) (hw : Within [.regs] s t) :
    roleInvalid t r = roleInvalid s r := by
  have hv : t.variant = s.variant := hw.same .variant (by simp)
  have ha : t.afe = s.afe := hw.same .afe (by simp)
  have hp : t.params = s.params := hw.same .params (by simp)
  have hmod : t.get Fd.AFE_MOD_STUCK = s.get Fd.AFE_MOD_STUCK := hr.get hm
  unfold roleInvalid
  rw [hv]
  split
  · rw [ha, hr.on hc, roleConv, roleConv, hr.get hc, laneLost, laneLost, ha]
  · simp only [parN_congr hp, hmod]

/-- The registers of the values of an update without phase values (R129). -/
def valueRegs : List Nat :=
  [Reg.MTR_VDC 0, Reg.MTR_VDC 1, Reg.MTR_IDC 0, Reg.MTR_IDC 1, Reg.MTR_PDC 0, Reg.MTR_PDC 1, Reg.MTR_PCONN 0, Reg.MTR_PCONN 1]

theorem dcRegs_mem (s : State) : ∀ f ∈ dcRegs s, f.1.reg ∈ valueRegs := by
  intro f hf
  simp only [dcRegs, List.mem_cons, List.not_mem_nil, or_false] at hf
  rcases hf with rfl | rfl | rfl | rfl | rfl | rfl | rfl | rfl <;> simp [valueRegs]

/-- The values of an update while the other engine is retired and no phase value is due (R129). -/
theorem instUpdate_of_lone {m : InstMeas} (ha : activeEng s = some a) (ho : engSt s (1 - a) = 7) (hac : m.ac = false) :
    instUpdate m s = writeValues (dcRegs s) (engValues s m a) (s.lower Fd.PTS_STAT_HELD) := by
  simp [instUpdate, ha, ho, hac]

/-- What such an update leaves. -/
theorem instUpdate_spec {m : InstMeas} (ha : activeEng s = some a) (ho : engSt s (1 - a) = 7) (hac : m.ac = false) :
    (instUpdate m s).on Fd.PTS_STAT_HELD = false ∧ (instUpdate m s).reg (Reg.MTR_VDC 0) =
      (if roleInvalid s 9 then s.reg (Reg.MTR_VDC 0) else BitVec.ofNat 32 (Bits.ofInt 32 (nth (engValues s m a) 0 0))) ∧
      RegsBut (Reg.PTS_STAT :: valueRegs) s (instUpdate m s) ∧ Within [.regs] s (instUpdate m s) := by
  obtain ⟨t, ht⟩ : ∃ t, t = s.lower Fd.PTS_STAT_HELD := ⟨_, rfl⟩
  have htr : RegsBut [Reg.PTS_STAT] s t := by rw [ht]; exact (RegsBut.refl _ s).lower (by simp)
  have htw : Within [.regs] s t := by rw [ht]; exact (Within.refl _ s).lower rfl
  have hheld : t.on Fd.PTS_STAT_HELD = false := by rw [ht]; exact on_lower _ _ (by simp)
  have hinv : roleInvalid t 9 = roleInvalid s 9 := roleInvalid_congr htr (by decide) (by decide) htw
  obtain ⟨fs, hfs⟩ : ∃ fs, dcRegs s = (⟨Reg.MTR_VDC 0, 0, 32⟩, [9]) :: fs := ⟨_, rfl⟩
  have hne : ∀ f ∈ fs, f.1.reg ≠ Reg.MTR_VDC 0 := by
    have h := List.cons.inj hfs
    rw [← h.2]
    simp
  obtain ⟨v, vs, hvs⟩ : ∃ v vs, engValues s m a = v :: vs := by
    cases hl : engValues s m a with
    | nil => exact absurd (engValues_length m a hac s) (by simp [hl])
    | cons v vs => exact ⟨v, vs, rfl⟩
  have e : instUpdate m s = writeValues (dcRegs s) (engValues s m a) t := by rw [instUpdate_of_lone ha ho hac, ht]
  have hwr : RegsBut valueRegs t (instUpdate m s) := e ▸ writeValues_regsBut (dcRegs_mem s) _ t
  refine ⟨?_, ?_, (htr.mono (by simp)).trans (hwr.mono (List.subset_cons_self _ _)), htw.trans (e ▸ writeValues_within _ _ t)⟩
  · exact (hwr.on (by decide)).trans hheld
  · rw [e, hfs, hvs, reg_writeValues_head hne]
    simp only [List.any_cons, List.any_nil, Bool.or_false, hinv]
    rw [htr (Reg.MTR_VDC 0) (by decide)]
    rfl

end Values

section Corrections

variable {s : State}

theorem params_modRail (e : Nat) (f : Rail → Rail) (s : State) : (modRail e f s).params = s.params := (modRail_within e f s).same .params (by simp)

/-- An engine's place with a new correction set, and the flag of the first record under it (R132). -/
def corrected (set : List (Nat × Int)) (e : Nat) (s : State) : State :=
  modRail e (fun r => { r with eng := { r.eng with corrFlag := true } }) (railCorr set e s)

theorem corrected_self (set : List (Nat × Int)) (e : Nat) (s : State) :
    (rail (corrected set e s) e).eng.corr = set ∧ (rail (corrected set e s) e).eng.corrFlag = true := by
  rw [corrected, rail_modRail_self]
  exact ⟨corr_railCorr set e s, rfl⟩

theorem corrected_of_ne {e o : Nat} (he : e < 2) (ho : o < 2) (h : o ≠ e) (set : List (Nat × Int)) (s : State) :
    rail (corrected set e s) o = rail s o := by
  rw [corrected, rail_modRail_of_ne he ho h, railCorr, rail_modRail_of_ne he ho h]

theorem corrected_within (set : List (Nat × Int)) (e : Nat) (s : State) : Within [.pts] s (corrected set e s) :=
  (modRail_within _ _ s).trans (modRail_within _ _ _)

theorem setPars_within (p : List (Nat × Int)) (s : State) : Within [.params] s (p.foldl (fun v e => v.setPar e.1 e.2) s) := by
  induction p generalizing s with
  | nil => exact .refl _ s
  | cons e p ih => exact (setPar_within s e.1 e.2).trans (ih _)

/-- A new correction set (R132). -/
theorem applyCorrections_of_new {p : List (Nat × Int)} (hp : s.corrSent = some p) (h : corrOver (corrInForce s) p ≠ corrInForce s) :
    ∃ n, applyCorrections s = logWrite 0x000D 0 n ((corrected (corrOver (corrInForce s) p) 1 (corrected (corrOver (corrInForce s) p) 0
      (p.foldl (fun v e => v.setPar e.1 e.2) { s with corrSent := none }))).raise Fd.MTR_EVT_CORRAPL) := by
  rw [applyCorrections, hp]
  dsimp only
  rw [if_neg h]
  exact ⟨_, rfl⟩

/-- What a new correction set leaves: in force in both engines, and its parameters with it (R132). -/
theorem applyCorrections_spec {p : List (Nat × Int)} (hp : s.corrSent = some p) (h : corrOver (corrInForce s) p ≠ corrInForce s) :
    (applyCorrections s).corrSent = none ∧ (rail (applyCorrections s) 0).eng.corr = corrOver (corrInForce s) p ∧
      (rail (applyCorrections s) 1).eng.corr = corrOver (corrInForce s) p ∧ (rail (applyCorrections s) 0).eng.corrFlag = true ∧
      (∀ q v, p = [(q, v)] → (applyCorrections s).par q = v) ∧ (applyCorrections s).on Fd.MTR_EVT_CORRAPL = true ∧
      RegsBut [Reg.MTR_EVT] s (applyCorrections s) := by
  obtain ⟨n, e⟩ := applyCorrections_of_new hp h
  obtain ⟨set, hset⟩ : ∃ set, set = corrOver (corrInForce s) p := ⟨_, rfl⟩
  obtain ⟨t, ht⟩ : ∃ t : State, t = { s with corrSent := none } := ⟨_, rfl⟩
  obtain ⟨u, hu⟩ : ∃ u, u = p.foldl (fun v e => v.setPar e.1 e.2) t := ⟨_, rfl⟩
  have huw : Within [.params] t u := hu ▸ setPars_within p t
  obtain ⟨v, hv⟩ : ∃ v, v = corrected set 1 (corrected set 0 u) := ⟨_, rfl⟩
  have hvw : Within [.pts] u v := hv ▸ (corrected_within set 0 u).trans (corrected_within set 1 _)
  obtain ⟨w, hw⟩ : ∃ w, w = logWrite 0x000D 0 n (v.raise Fd.MTR_EVT_CORRAPL) := ⟨_, rfl⟩
  have hwe : applyCorrections s = w := by rw [e, hw, hv, hu, ht, hset]
  have hpts : w.pts = v.pts := by rw [hw, logWrite_pts, raise_pts]
  have htr : RegsBut [] s t := by rw [ht]; exact (RegsBut.refl _ s).same rfl
  have hvr : RegsBut [] s v := (htr.trans (huw.regsBut (by simp))).trans (hvw.regsBut (by simp))
  obtain ⟨h0, hflag⟩ := corrected_self set 0 u
  rw [hwe, ← hset, rail_of_pts hpts, rail_of_pts hpts, hv, corrected_of_ne (by omega) (by omega) (by omega)]
  refine ⟨?_, h0, (corrected_self set 1 _).1, hflag, fun q x hqx => ?_, ?_, ?_⟩
  · rw [hw, logWrite_corrSent, raise_corrSent, hvw.same .corrSent (by simp), huw.same .corrSent (by simp), ht]
  · have hpar : w.params = u.params := by rw [hw, logWrite_params, raise_params]; exact hvw.same .params (by simp)
    have hux : u = t.setPar q x := by rw [hu, hqx]; rfl
    rw [par, hpar, ← par, hux, par_setPar_self]
  · rw [hw, on, get_logWrite, ← on]
    exact on_raise _ _ (by simp) (by simp)
  · have hwr : RegsBut [Reg.MTR_EVT] v w := by
      rw [hw]
      exact ((RegsBut.refl _ v).raise (by simp)).same (logWrite_regs)
    exact (hvr.mono (by simp)).trans hwr

/-- A correction set that changes nothing (R132). -/
theorem applyCorrections_of_same {p : List (Nat × Int)} (hp : s.corrSent = some p) (h : corrOver (corrInForce s) p = corrInForce s) :
    applyCorrections s = { s with corrSent := none } := by
  rw [applyCorrections, hp]
  exact if_pos h

end Corrections

/-- A register's write leaves what a converter's failure judges by. -/
theorem findRole_congr {l : List Nat} {s t : State} {c : Nat} (hr : RegsBut l s t) (hl : ∀ r, r < 14 → Reg.AFE_CH r ∉ l) :
    (List.range 14).find? (fun r => roleConv t r == c && !t.on (Fd.AFE_CH_FAULT r))
      = (List.range 14).find? (fun r => roleConv s r == c && !s.on (Fd.AFE_CH_FAULT r)) := by
  have h : ∀ r ∈ List.range 14, (roleConv t r == c && !t.on (Fd.AFE_CH_FAULT r)) = (roleConv s r == c && !s.on (Fd.AFE_CH_FAULT r)) := fun r hm => by
    rw [roleConv, hr.get (hl r (by simpa using hm)), hr.on (hl r (by simpa using hm)), ← roleConv]
  rw [← List.head?_filter, ← List.head?_filter, List.filter_congr h]

/-- A stuck stream of a converter that serves a role while a spare is free (R80, R89). -/
theorem stuckConv_spec {s : State} {c q x : Nat} {l : List Nat} (hc : c < 14)
    (hq : (List.range 14).find? (fun r => roleConv s r == c && !s.on (Fd.AFE_CH_FAULT r)) = some q) (hx : freeSpares s = x :: l) :
    convState (convFail c 0 (s.raise Fd.AFE_EVT_STUCK)) c = 4 ∧ roleConv (convFail c 0 (s.raise Fd.AFE_EVT_STUCK)) q = x ∧
      (convFail c 0 (s.raise Fd.AFE_EVT_STUCK)).on Fd.AFE_EVT_STUCK = true ∧ (convFail c 0 (s.raise Fd.AFE_EVT_STUCK)).on Fd.AFE_EVT_CONVFAULT = true ∧
      RegsBut [Reg.AFE_STAT, Reg.AFE_EVT, Reg.AFE_ROT, Reg.AFE_CSTATE c, Reg.AFE_CSTATE x, Reg.AFE_CH q, Reg.SYS_FLT, Reg.SYS_FLTLAST] s
        (convFail c 0 (s.raise Fd.AFE_EVT_STUCK)) := by
  obtain ⟨t, ht⟩ : ∃ t, t = s.raise Fd.AFE_EVT_STUCK := ⟨_, rfl⟩
  have hr : RegsBut [Reg.AFE_EVT] s t := by rw [ht]; exact (RegsBut.refl _ s).raise (by simp)
  have hstuck : t.on Fd.AFE_EVT_STUCK = true := by rw [ht]; exact on_raise _ _ (by simp) (by simp)
  have hqt := (findRole_congr (c := c) hr fun r _ => by simp only [List.mem_singleton, Reg.AFE_CH, Reg.AFE_EVT]; omega).trans hq
  have hxt : freeSpares t = x :: l := (freeSpares_congr fun d hd => hr.get (by
    simp only [List.mem_singleton, Reg.AFE_CSTATE, Reg.AFE_EVT]
    omega)).trans hx
  obtain ⟨h4, hrole, hon, -, hrt⟩ := convFail_spec hc hqt hxt
  rw [← ht]
  exact ⟨h4, hrole, (convFail_stuck hc hqt hxt).trans hstuck, hon, (hr.mono (by simp)).trans hrt⟩

/-- Settles O13, by what each unit writes: a converter's failure, a step that passes, a lane's fault and move, the values, a correction set, and the record
that every decision of the comparator puts on X00. -/
theorem metrologyWork : Obligations.MetrologyWork := by
  unfold Obligations.MetrologyWork
  refine ⟨fun s n beat hv hh hn hrole => ?_, fun s c q x l hv hh hc hq hx => ?_,
    fun s m r c sp rest hf hh hon htodo hr hmap hc hrole hfree h1 h2 h3 h4 hs hfault => ?_, fun s => ?_,
    fun s k beat hf hh hk hb hl hd => ?_, fun s k c q x l hf hh hk hc hq hx => ?_, fun s k p l hf hh hk hd hp => ?_,
    fun s m a hrd hrun hh ha ho hac hdc hw => ?_, fun s p hh hp hne => ?_, fun s p hh hp he => ?_, fun s raws edges dev0 dev1 hon hrun hh hrd => ?_⟩
  case refine_1 =>
    have e : exec (.stuckStreamDetect n beat) s = .next ((s.putBit Reg.AFE_MOD (16 + n) true).raise Fd.AFE_EVT_STUCK) := by
      refine (awake_of_not_held hh).trans ?_
      rw [hv]
      exact congrArg Host.Outcome.next (if_pos ⟨hn, hrole⟩)
    have hev : RegsBut [Reg.AFE_EVT] (s.putBit Reg.AFE_MOD (16 + n) true) ((s.putBit Reg.AFE_MOD (16 + n) true).raise Fd.AFE_EVT_STUCK) :=
      (RegsBut.refl _ _).raise (by simp)
    refine ⟨_, e, (hev.bitOf (by decide)).trans ((bitOf_putBit s _ _ _ _ true (by omega)).trans (if_pos ⟨rfl, rfl⟩)), on_raise _ _ (by simp) (by simp),
      ((RegsBut.refl _ s).putBit (by simp)).raise (by simp), ((Within.refl _ s).putBit rfl).raise rfl⟩
  case refine_2 =>
    have e : exec (.stuckStreamDetect c 0) s = .next (convFail c 0 (s.raise Fd.AFE_EVT_STUCK)) := by
      refine (awake_of_not_held hh).trans ?_
      rw [hv]
      exact congrArg Host.Outcome.next (if_pos (by omega))
    refine Answers.mk e (execStuckStreamDetect_answers c 0 s) fun hwi => ?_
    obtain ⟨h4, hrole, hstuck, hfault, hr⟩ := stuckConv_spec hc hq hx
    exact ⟨h4, hrole, hstuck, hfault, hr, hwi⟩
  case refine_3 =>
    have e : exec (.rotationStep m) s = .next (stepRole r c sp m s) := by
      refine (awake_of_not_held hh).trans (congrArg Host.Outcome.next ?_)
      rw [hf, hon]
      exact rotationStep_of_lone htodo hr hmap hrole hfree
    refine Answers.mk e (execRotationStep_answers m s) fun hwi => ?_
    obtain ⟨ht, hc', hage, hno, hreg⟩ := stepRole_spec hr hc hfree h1 h2 h3 h4 hs hfault
    exact ⟨ht, hc', hage, hno, hreg, hwi⟩
  case refine_4 =>
    exact Answers.mk (t := { s with afe := { s.afe with stored := s.afe.trims } }) rfl (execTrimStore_answers s) fun hwi => ⟨rfl, rfl, hwi⟩
  case refine_5 =>
    have e : exec (.laneFaultDetect k beat none) s = .next (laneFaultAt k beat none s) :=
      (awake_of_not_held hh).trans (congrArg Host.Outcome.next (if_pos (by simp [hf, hk])))
    exact ⟨_, e, laneFaultAt_spec hk hb hl hd⟩
  case refine_6 =>
    have e : exec (.laneFaultDetect k 0 (some c)) s = .next (convFail c 0 s) :=
      (awake_of_not_held hh).trans (congrArg Host.Outcome.next (if_pos (by simp [hf, hk])))
    refine Answers.mk e (execLaneFaultDetect_answers k 0 (some c) s) fun hwi => ?_
    obtain ⟨h4, hrole, -, hmap, hr⟩ := convFail_spec hc hq hx
    exact ⟨h4, hrole, hmap, hr, hwi⟩
  case refine_7 =>
    have e : exec (.laneRoleMove k) s = .next (laneMove k s) :=
      (awake_of_not_held hh).trans (congrArg Host.Outcome.next ((if_pos hf).trans (if_neg (by omega))))
    refine Answers.mk e (execLaneRoleMove_answers k s) fun hwi => ?_
    obtain ⟨hsub, hdown, hnew, hr⟩ := laneMove_spec hk hd hp
    exact ⟨hsub, hdown, hnew, hr, hwi⟩
  case refine_8 =>
    obtain ⟨t, ht⟩ : ∃ t, t = instUpdate m s := ⟨_, rfl⟩
    obtain ⟨hheld, hval, hr, hwt⟩ := instUpdate_spec (m := m) ha ho hac
    rw [← ht] at hheld hval hr hwt
    obtain ⟨u, hu⟩ : ∃ u, u = earlyOpen (x02Word t) := ⟨_, rfl⟩
    have hwu : Within [.saf] t u := by
      obtain ⟨v, hv⟩ : ∃ v : State, v = { x02Word t with saf := { (x02Word t).saf with dcLow := if dcQuiet (x02Word t) then (x02Word t).saf.dcLow + 1 else 0 } } :=
        ⟨_, rfl⟩
      have hout : v.saf.outWait = false := by
        rw [hv]
        exact (congrArg SafState.outWait (hwt.same .saf (by simp))).trans hw
      have e : u = v := by
        rw [hu, earlyOpen, ← hv]
        exact if_neg (by simp [hout])
      rw [e, hv]
      exact (x02Word_within t).trans (Within.upd_saf _ _)
    have hsi : sesInstant u = u := by
      have hd : u.ses.dc = false := (congrArg SesState.dc ((hwu.same .ses (by simp)).trans (hwt.same .ses (by simp)))).trans hdc
      rw [sesInstant]
      exact if_pos (by simp [hd])
    have e : exec (.instantValuesUpdate m) s = .next u := by
      refine congrArg Host.Outcome.next ((if_pos (by simp [hrd, hrun, hh])).trans ?_)
      rw [← ht, ← hu, hsi]
    refine Answers.mk e (execInstantValuesUpdate_answers m s) fun hwi => ?_
    have hru : RegsBut [] t u := hwu.regsBut (by simp)
    refine ⟨(hru.on (by simp)).trans hheld, fun h9 => ?_, fun h9 => ?_, ?_, (hr.trans (hru.mono (by simp))).mono (by simp [valueRegs]), hwi⟩
    · rw [hru _ (by simp), hval, h9]
      rfl
    · rw [hru _ (by simp), hval, h9]
      rfl
    · exact (hwu.same .pts (by simp)).trans (hwt.same .pts (by simp))
  case refine_9 =>
    refine Answers.mk (awake_of_not_held hh) (execCorrectionSetApply_answers s) fun hwi => ?_
    obtain ⟨h1, h2, h3, h4, h5, h6, h7⟩ := applyCorrections_spec hp hne
    exact ⟨h1, h2, h3, h4, h5, h6, h7, hwi⟩
  case refine_10 =>
    have e : exec .correctionSetApply s = .next { s with corrSent := none } :=
      (awake_of_not_held hh).trans (congrArg Host.Outcome.next (applyCorrections_of_same hp he))
    exact ⟨_, e, rfl, Within.upd_corrSent s _⟩
  case refine_11 =>
    have e : exec (.metrologyBlock raws edges dev0 dev1) s = .next (relayReady (x02Word (rcmBlock raws (ptsBlock raws edges dev0 dev1 s)))) :=
      congrArg Host.Outcome.next (if_pos (by simp [hon, hrun, hh]))
    refine Answers.mk e (execMetrologyBlock_answers raws edges dev0 dev1 s) fun hwi => ⟨?_, hwi⟩
    refine (ptsBlock_delivered raws edges dev0 dev1 hrd).of_x00 ?_
    rw [(relayReady_within _).same .x00 (by simp), (x02Word_within _).same .x00 (by simp), (rcmBlock_within _ _).same .x00 (by simp)]

end Sys2Proof.Machine
end
